-- ==== Sys2Proof/Word.lean ====
section
/-!
DEFINITION. The word types of the model and their plainest arithmetic (spec/00_scope.md R4, R6).
-/

namespace Sys2Proof

/-- One byte of memory, of a packet payload or of a record. -/
abbrev Byte := BitVec 8

/-- A management register is 32 bits wide (R6). -/
abbrev Word := BitVec 32

/-- A quantity held in two registers (R11), a guard or a 64-bit field. -/
abbrev DWord := BitVec 64

/-- Sparse data by key: pairs with strictly rising keys. -/
abbrev NMap (α : Type) := List (Nat × α)

/-- Ticks in one tide slot (R53). -/
def slotTicks : Nat := 8192

/-- Ticks in one horizon window, 128 slots (R53). -/
def horizonTicks : Nat := 1048576

/-- Ticks in one second (the tide tick is 1 ns, Table 0.4). -/
def secondTicks : Nat := 1000000000

/-- Ticks in one millisecond. -/
def msTicks : Nat := 1000000

/-- Ticks in the fault window of 24 h (R47, Table 2.7). -/
def faultWindowTicks : Nat := 86400 * 1000000000

/-- The tide slot of a tick (R53). -/
def slotOf (t : Nat) : Nat := t / slotTicks

/-- The horizon window of a tick (R53). -/
def windowOf (t : Nat) : Nat := t / horizonTicks

/-- Ceiling of a quotient, the ⌈a ÷ b⌉ of the spec's formulas. -/
def ceilDiv (a b : Nat) : Nat := (a + b - 1) / b

end Sys2Proof
end

