-- ==== Sys2Proof/Syntax.lean ====
section
/-!
DEFINITION. The commands of the block, one constructor per row of spec/opcode_table.json, and the data they carry.
Every command carries first the tide tick `t` at which it happens.
An operand is what comes from outside the device: a register access, a fetched queue entry, a packet, a beacon,
the answer of a die, of a lane or of a pair, or an edge on a pin.
-/

namespace Sys2Proof

/-- Who makes a register access: the access paths of R11, with the replication agent's accesses told apart (R332). -/
inductive Origin where
  | spi | core | inband | repl
  deriving DecidableEq, Repr

/-- The kinds of gatable island (Table 1.6). -/
inductive IslandKind where
  | channel | cmp | ciph | ddup
  deriving DecidableEq, Repr

/-- The two landing streams of a head (04_write_read_paths.md, "The record stream and stripes"). -/
inductive StreamId where
  | home | mirror
  deriving DecidableEq, Repr

/-- A fetched submission queue entry: dword 0 in its fields, NSID, and dwords 4 to 15. -/
structure Sqe where
  opcode : Nat
  fuse : Nat
  cid : Nat
  nsid : Nat
  dw4 : Word
  dw5 : Word
  dw6 : Word
  dw7 : Word
  dw8 : Word
  dw9 : Word
  dw10 : Word
  dw11 : Word
  dw12 : Word
  dw13 : Word
  dw14 : Word
  dw15 : Word
  deriving DecidableEq, Repr

/-- The check field of a stored grain (Table 4.1). -/
structure Check where
  guard : DWord
  reftag : BitVec 48
  wgen : BitVec 16
  deriving DecidableEq, Repr

/-- The version that a record of a resynchronisation belongs to (R267), where the record itself does not say it: the volume and the grain,
the snapshot (none for the live volume), whether the grain is shared, and the order of the write that stored it. -/
structure RecordMark where
  vol : Nat
  grain : Nat
  snap : Option Nat
  shared : Bool
  atick : Nat
  aseq : Nat
  deriving DecidableEq, Repr

/-- A record of a record stream (Table 4.3); the payload is as stored, encrypted for types 0x01 and 0x02. The mark goes with the record
over the link, and is no part of what is stored. -/
structure Record where
  kind : Nat
  comp : Bool
  sample : Bool
  close : Bool
  pi : Bool
  plen : Nat
  keyslot : Nat
  seq : Nat
  atick : Nat
  check : Check
  apptag : DWord
  geom : Word
  sepoch : Word
  aseqLo : Word
  payload : List Byte
  mark : Option RecordMark := none
  deriving DecidableEq, Repr

/-- An Idmuvel packet: the header of Table 10.2, the payload, and the GCM fields of a sealed packet (R241). -/
structure Packet where
  ver : Nat
  opcode : Nat
  fence : Bool
  first : Bool
  last : Bool
  retx : Bool
  sealed : Bool
  kphase : Bool
  group : Bool
  reserved : Bool
  dsess : Nat
  queue : Nat
  len : Nat
  psn : Nat
  xid : Nat
  key : Nat
  offset : Nat
  aux : Nat
  payload : List Byte
  ctr : Nat
  tag : BitVec 128
  deriving DecidableEq, Repr

/-- The CONNECT payload (Table 10.4), with the source address of the datagram. -/
structure ConnectMsg where
  isess : Nat
  wlog2 : Nat
  purpose : Nat
  ipsn : Nat
  salt : Word
  keyid : Word
  nkey : Word
  akey : Word
  nofs : Nat
  asqofs : Nat
  acqofs : Nat
  asqs : Nat
  acqs : Nat
  source : Nat
  port : Nat
  partnerAddr : Bool
  deriving DecidableEq, Repr

/-- The ACCEPT payload (Table 10.5). -/
structure AcceptMsg where
  rsess : Nat
  wlog2 : Nat
  reason : Nat
  rpsn : Nat
  salt : Word
  dbkey : Word
  cntlid : Nat
  deriving DecidableEq, Repr

/-- A beacon frame (Table 11.1). -/
structure Beacon where
  magic : BitVec 16
  ver : Byte
  hm : Byte
  flags : BitVec 16
  pairId : DWord
  epoch : Word
  bseq : Word
  stick : DWord
  ackseq : Word
  rtick : DWord
  crc : Word
  deriving DecidableEq, Repr

/-- A CLAIM or a VERDICT of the witness exchange (Table 11.2). -/
structure Claim where
  pairId : DWord
  epoch : Word
  head : Byte
  kind : Byte
  stick : DWord
  cseq : Word
  crc : Word
  deriving DecidableEq, Repr

/-- A replication frame (Table 12.1) with its payload. -/
structure ReplFrame where
  kind : Nat
  comp : Bool
  sample : Bool
  sync : Bool
  plen : Nat
  tvol : Nat
  grain : Nat
  atick : Nat
  guard : DWord
  apptag : DWord
  geom : Word
  setseq : Nat
  fseq : Nat
  result : Nat
  payload : List Byte
  deriving DecidableEq, Repr

/-- A C2h descriptor (Table 12.6). -/
structure LinkDesc where
  peer : Nat
  nsid : Nat
  keyid : Nat
  rtrip : Nat
  pairId : DWord
  linkid : Nat
  deriving DecidableEq, Repr

/-- A change that takes effect on both heads at one tick: the pair commits of Table 1.4. `yours` says that the head which receives the
change is the namespace's home. -/
inductive PairChange where
  | resvCreate (index rate burst d : Nat) (pull : Bool)
  | resvChange (index rate burst d : Nat)
  | resvCut (index rate burst : Nat)
  | resvDelete (index : Nat)
  | nsCreate (vol lbaf units keyslot : Nat) (yours : Bool)
  | nsDelete (vol : Nat)
  | snapCreate (vol id : Nat)
  | snapDelete (vol id : Nat)
  | snapClone (vol id newVol : Nat) (ro : Bool)
  | linkCreate (id vol mode interval : Nat) (d : LinkDesc)
  | linkDelete (id : Nat)
  | targetAdd (id : Nat) (d : LinkDesc)
  | targetRemove (id target : Nat)
  | keyLoad (slot owner : Nat) (key1 key2 : List Byte)
  | keyClear (slot : Nat)
  | dedupPolicy (vol mode : Nat)
  | compPolicy (vol mode w l : Nat)
  | snapDef (vol id tick epoch next : Nat) (repl : Bool)
  deriving DecidableEq, Repr

/-- The pass that a checked pair has finished (R323): a grain of a write, a packet of a session, or a read. -/
inductive CipherUnit where
  | grain (seq grain : Nat)
  | packet (session slot : Nat) (opening tagOk : Bool) (blocks : Nat)
  | read (rid : Nat)
  | kat (gcm : Bool)
  deriving DecidableEq, Repr

/-- Whose buffer a line of memory is: a grain of a write in flight, or a grain of a read command before its delivery (Table 13.5). -/
inductive BufferUse where
  | write (seq grain : Nat)
  | read (cntl qid cid grain : Nat)
  deriving DecidableEq, Repr

/-- What a compression lane did with one grain (R101, R102, R116): the bytes it consumed, the output it formed, of which it holds at
most 32,768 bytes, and whether its own buffer or verifier failed. -/
structure LaneResult where
  consumed : List Byte
  output : List Byte
  fault : Bool
  deriving DecidableEq, Repr

/-- A record that the patrol found failing (R165): its grain, the point of Table 4.7 it failed, and its uncorrectable codewords, numbered
from the page it begins in. -/
structure PatrolFail where
  vol : Nat
  grain : Nat
  point : Nat
  words : List Nat
  deriving DecidableEq, Repr

/-- What a die's ONFI parameter page gives (R140). -/
structure DieParams where
  page : Nat
  spare : Nat
  pages : Nat
  blocks : Nat
  planes : Nat
  deriving DecidableEq, Repr

/-- What a decompression lane found for one record (R111). -/
inductive LaneDecode where
  | ok (bytes : List Byte)
  | expansion
  | shortOutput
  | streamError
  deriving DecidableEq, Repr

/-- A work entry of a device agent (R237); a group entry carries its targets, as session, key and base offset (R239). -/
structure WorkEntry where
  session : Nat
  group : Option Nat
  targets : List (Nat × Nat × Nat)
  opcode : Nat
  key : Nat
  offset : Nat
  buf : Nat
  len : Nat
  waitQueue : Option Nat
  waitValue : Nat
  errStop : Bool
  deriving DecidableEq, Repr

/-- A retired unit that Boot tests again (Table 2.11). -/
inductive BootUnit where
  | die (n : Nat)
  | channel (n : Nat)
  | clane (n : Nat)
  | dlane (n : Nat)
  | cluster (n : Nat)
  | pair (n : Nat)
  | voter (n : Nat)
  | island (k : IslandKind) (n : Nat)
  deriving DecidableEq, Repr

/-- An entry of the fingerprint index (Table 6.1): as this head keeps it, and as the pair of another partition answers (R123). -/
structure FpEnt where
  fp : Nat
  guard : DWord
  keyslot : Nat
  pair : Nat
  sgt : Nat
  deriving DecidableEq, Repr

/-- The commands, one constructor per row of spec/opcode_table.json. -/
inductive Instr where
  -- registers
  | registerWrite (t : Nat) (o : Origin) (addr : Nat) (v : Word)
  | unmappedAccess (t : Nat) (o : Origin) (addr : Nat) (write : Bool)
  | loHalfRead (t : Nat) (o : Origin) (addr : Nat)
  | hiHalfWrite (t : Nat) (o : Origin) (addr : Nat) (v : Word)
  -- host queues: doorbells and I/O commands
  | doorbellWrite (t : Nat) (session offset : Nat) (v : Word)
  | nvmWrite (t : Nat) (cntl qid : Nat) (e : Sqe)
  | nvmRead (t : Nat) (cntl qid : Nat) (e : Sqe)
  | compare (t : Nat) (cntl qid : Nat) (e : Sqe) (hostData : List Byte)
  | writeZeroes (t : Nat) (cntl qid : Nat) (e : Sqe)
  | datasetManagement (t : Nat) (cntl qid : Nat) (e : Sqe) (ranges : List (Nat × Nat))
  | flush (t : Nat) (cntl qid : Nat) (e : Sqe)
  | invalidOpcode (t : Nat) (cntl qid : Nat) (e : Sqe)
  -- admission and the write path
  | holdRetry (t : Nat)
  | holdLimitExpiry (t : Nat) (cntl qid cid : Nat)
  | acceptance (t : Nat) (seq : Nat) (data pi : List Byte)
  | inlineLookupAnswer (t : Nat) (seq grain cluster : Nat) (agree : Bool) (index : Option (Option FpEnt))
  | inlineBudgetExpiry (t : Nat) (seq grain : Nat)
  | compressionOutcome (t : Nat) (seq grain lane : Nat) (r : LaneResult)
  | cipherPassDone (t : Nat) (u : CipherUnit) (pair : Nat) (agree : Bool)
  | recordAppend (t : Nat) (seq : Nat)
  | stripeClose (t : Nat) (st : StreamId)
  | pageTransferDone (t : Nat) (st : StreamId) (band stripe strip : Nat)
  | programDone (t : Nat) (st : StreamId) (band stripe strip : Nat) (ok : Bool)
  | mirrorRecordArrival (t : Nat) (recs : List Record)
  | programAck (t : Nat) (acks : List (Nat × Nat))
  | coalescingTimer (t : Nat) (cntl : Nat)
  -- the read path
  | pageReadDone (t : Nat) (rid : Nat) (failing : List Nat)
  | readRetryStep (t : Nat) (rid step : Nat) (failing : List Nat)
  | decompressionDone (t : Nat) (rid lane : Nat) (fault : Option LaneDecode)
  | parityRepair (t : Nat) (rid : Nat) (rebuilt : Option Record)
  | partnerRepairRequest (t : Nat) (vol grain : Nat) (wgen : BitVec 16) (token : Nat)
  | partnerRepairResponse (t : Nat) (rid : Nat) (found : Option Record)
  -- islands and links
  | islandGate (t : Nat) (k : IslandKind) (index : Nat)
  | islandReady (t : Nat) (k : IslandKind) (index : Nat)
  | islandWakeLate (t : Nat) (k : IslandKind) (index : Nat)
  | linkTrainingStart (t : Nat) (lane : Nat)
  | linkDown (t : Nat) (lane : Nat) (lossOfLock : Bool)
  | portRestartDone (t : Nat) (port : Nat)
  -- reset, button, boot
  | resetAssert (t : Nat) (rstLow pwrgdLow : Bool)
  | resetRelease (t : Nat) (rstHigh pwrgdHigh pwrFailHigh : Bool)
  | buttonPress (t : Nat)
  | buttonRelease (t : Nat)
  | buttonFailedClosed (t : Nat)
  | memoryInitDone (t : Nat) (stage : Nat)
  | bootStageDone (t : Nat) (stage badCkpts : Nat) (passed : List BootUnit)
  -- mode requests
  | modeReqSlack (t : Nat) (o : Origin) (v : Word)
  | modeReqJoin (t : Nat) (o : Origin) (v : Word)
  | modeReqRelay (t : Nat) (o : Origin) (v : Word)
  | modeReqPreservation (t : Nat) (o : Origin) (v : Word)
  | modeReqHoldup (t : Nat) (o : Origin) (v : Word)
  | modeReqBench (t : Nat) (o : Origin) (v : Word)
  | modeReqOther (t : Nat) (o : Origin) (v : Word)
  | preservationCheckpoint (t : Nat)
  | watchdogKick (t : Nat) (o : Origin) (v : Word)
  | watchdogExpiry (t : Nat)
  | powerFail (t : Nat)
  | holdupComplete (t : Nat)
  | planMiss (t : Nat)
  | overloadClear (t : Nat)
  -- reservations
  | pairCommitRequest (t : Nat) (token : Nat) (c : PairChange)
  | pairCommitAnswer (t : Nat) (token : Nat) (code : Nat)
  | pairCommitTimeout (t : Nat) (token : Nat)
  | reservationCreate (t : Nat) (cntl : Nat) (e : Sqe)
  | reservationChange (t : Nat) (cntl : Nat) (e : Sqe)
  | reservationDelete (t : Nat) (cntl : Nat) (e : Sqe)
  | reservationQuery (t : Nat) (cntl : Nat) (e : Sqe)
  | reservationRebind (t : Nat) (cntl : Nat) (e : Sqe)
  | rebindDelete (t : Nat) (cntl : Nat) (e : Sqe)
  -- fold, checkpoints, dedup and snapshots
  | foldStripe (t : Nat) (st : StreamId) (band stripe : Nat) (softPages : List Nat)
  | foldProgramVerified (t : Nat) (st : StreamId) (band stripe : Nat) (denseBand denseOffset : Nat) (failed : Option Nat)
  | checkpointPeriod (t : Nat)
  | postProcessGrain (t : Nat) (indexEntry : Option FpEnt) (agree : Bool) (cluster : Nat)
  | filterSwap (t : Nat) (bits : List Nat)
  | snapshotCreate (t : Nat) (cntl : Nat) (e : Sqe)
  | snapshotDelete (t : Nat) (cntl : Nat) (e : Sqe)
  | snapshotClone (t : Nat) (cntl : Nat) (e : Sqe)
  | snapshotQuery (t : Nat) (cntl : Nat) (e : Sqe)
  | snapshotList (t : Nat) (cntl : Nat) (e : Sqe)
  | snapshotReclaimDone (t : Nat) (vol id : Nat)
  -- flash management
  | channelTrainingDone (t : Nat) (channel : Nat) (ok : Bool)
  | statusTimeout (t : Nat) (die operation : Nat) (answers : Bool)
  | busTimeout (t : Nat) (channel : Nat)
  | eraseDone (t : Nat) (die block : Nat) (ok : Bool)
  | eraseResume (t : Nat) (die : Nat)
  | gcCopy (t : Nat) (st : StreamId) (band : Nat)
  | patrolRead (t : Nat) (st : StreamId) (band step : Nat) (failed : List PatrolFail)
  | dieTemperatureSample (t : Nat) (temps : List (Nat × Int))
  -- modules
  | modulePresent (t : Nat) (port : Nat) (magicOk crcOk : Bool) (part pop : Nat) (serial : Nat)
  | moduleRoleAssigned (t : Nat) (port : Nat) (trainedOk : Bool) (pages : List (Nat × Option DieParams))
  | moduleRemoval (t : Nat) (port : Nat)
  | rebuildStripDone (t : Nat) (band stripe strip : Nat) (unread : List Nat)
  | rebuildFloorBooking (t : Nat)
  | floorWrite (t : Nat) (o : Origin) (v : Word)
  | reshapeRequest (t : Nat) (o : Origin) (v : Word)
  | reshapePause (t : Nat) (o : Origin) (v : Word)
  | reshapeStripeMigrated (t : Nat)
  | moduleRelease (t : Nat) (o : Origin) (v : Word)
  | moduleMakeSpare (t : Nat) (o : Origin) (v : Word)
  | moduleMakeUnused (t : Nat) (o : Origin) (v : Word)
  | spareProbe (t : Nat) (port : Nat) (ok : Bool)
  -- admin commands
  | createIoSq (t : Nat) (cntl : Nat) (e : Sqe) (regionOk : Bool)
  | createIoCq (t : Nat) (cntl : Nat) (e : Sqe) (regionOk : Bool)
  | deleteIoSq (t : Nat) (cntl : Nat) (e : Sqe)
  | deleteIoCq (t : Nat) (cntl : Nat) (e : Sqe)
  | getLogPage (t : Nat) (cntl : Nat) (e : Sqe)
  | identify (t : Nat) (cntl : Nat) (e : Sqe)
  | abort (t : Nat) (cntl : Nat) (e : Sqe)
  | setFeatures (t : Nat) (cntl : Nat) (e : Sqe)
  | setFeaturesHoldLimit (t : Nat) (cntl : Nat) (e : Sqe)
  | setFeaturesCompression (t : Nat) (cntl : Nat) (e : Sqe)
  | setFeaturesDedup (t : Nat) (cntl : Nat) (e : Sqe)
  | getFeatures (t : Nat) (cntl : Nat) (e : Sqe)
  | asyncEventRequest (t : Nat) (cntl : Nat) (e : Sqe)
  | namespaceCreate (t : Nat) (cntl : Nat) (e : Sqe) (nsze ncap flbas : Nat)
  | namespaceDelete (t : Nat) (cntl : Nat) (e : Sqe)
  | namespaceAttachment (t : Nat) (cntl : Nat) (e : Sqe) (cntls : List Nat)
  | selfTestShort (t : Nat) (cntl : Nat) (e : Sqe)
  | selfTestExtended (t : Nat) (cntl : Nat) (e : Sqe)
  | selfTestAbort (t : Nat) (cntl : Nat) (e : Sqe)
  | selfTestDone (t : Nat) (failedSegment : Nat) (katUnit : Option Nat)
  | recorderRead (t : Nat) (cntl : Nat) (e : Sqe)
  | recorderClearArm (t : Nat) (cntl : Nat) (e : Sqe)
  | recorderClear (t : Nat) (cntl : Nat) (e : Sqe)
  | tallyCommand (t : Nat) (cntl : Nat) (e : Sqe)
  -- Idmuvel
  | idmWrite (t : Nat) (p : Packet)
  | idmReadReq (t : Nat) (p : Packet)
  | readResp (t : Nat) (p : Packet)
  | notify (t : Nat) (p : Packet)
  | statusPacket (t : Nat) (p : Packet)
  | ack (t : Nat) (p : Packet)
  | connect (t : Nat) (sealed tagOk regionOk : Bool) (m : ConnectMsg)
  | accept (t : Nat) (session : Nat) (sealed tagOk : Bool) (m : AcceptMsg)
  | close (t : Nat) (p : Packet)
  | keepalive (t : Nat) (p : Packet)
  | rekey (t : Nat) (p : Packet)
  | malformedPacket (t : Nat) (port : Nat) (p : Packet) (udpLen : Nat)
  | datagramDiscard (t : Nat) (port udpPort : Nat) (checksumOk : Bool)
  | ptpMessage (t : Nat) (udpPort : Nat) (second : Nat)
  | connectResend (t : Nat) (session : Nat)
  | connectTimeout (t : Nat) (session : Nat)
  | sessionTimeout (t : Nat) (session : Nat)
  | keepaliveDue (t : Nat) (session : Nat)
  | ackDelay (t : Nat) (session : Nat)
  | rtoExpiry (t : Nat) (session psn : Nat)
  | ondemandUnitReady (t : Nat) (session key unit : Nat)
  | ondemandStallExpiry (t : Nat) (session key unit : Nat)
  | backoffExpiry (t : Nat) (session psn : Nat)
  | workEntryPost (t : Nat) (queue : Nat) (w : WorkEntry)
  | chainTimeout (t : Nat) (queue : Nat)
  -- pairing
  | beaconSend (t : Nat)
  | beaconArrival (t : Nat) (decux : Bool) (b : Beacon)
  | pathCheck (t : Nat) (decux : Bool)
  | verdict (t : Nat) (c : Claim)
  | voterEvaluation (t : Nat) (flipFence flipLost : Nat)
  | voterCalibration (t : Nat) (voter measure : Nat)
  | takeoverComplete (t : Nat)
  | addressAnnounceRepeat (t : Nat)
  | yield (t : Nat) (o : Origin) (v : Word)
  | wake (t : Nat) (o : Origin) (v : Word)
  | tideSyncExchange (t : Nat) (partnerTick : Nat) (skew : Int)
  | resyncSwitch (t : Nat)
  | mirrorReadback (t : Nat) (band stripe : Nat) (ok : Bool)
  | beaconLoopCheck (t : Nat) (decux ok : Bool)
  -- replication and pods
  | replicationFrame (t : Nat) (session : Nat) (f : ReplFrame) (fault : Option LaneDecode)
  | replicationResult (t : Nat) (link target : Nat) (f : ReplFrame)
  | replicationInterval (t : Nat) (link : Nat)
  | syncTargetDeadline (t : Nat) (seq target : Nat)
  | targetResyncAttempt (t : Nat) (link target : Nat) (opened : Bool)
  | linkCreate (t : Nat) (cntl : Nat) (e : Sqe) (d : LinkDesc) (opened accepted : Bool)
  | linkDelete (t : Nat) (cntl : Nat) (e : Sqe)
  | targetAdd (t : Nat) (cntl : Nat) (e : Sqe) (d : LinkDesc) (opened accepted : Bool)
  | targetRemove (t : Nat) (cntl : Nat) (e : Sqe)
  | replicaAccept (t : Nat) (cntl : Nat) (e : Sqe) (d : LinkDesc)
  | sendSetNow (t : Nat) (cntl : Nat) (e : Sqe)
  | linkQuery (t : Nat) (cntl : Nat) (e : Sqe)
  | podQuery (t : Nat) (cntl : Nat) (e : Sqe)
  | podHeartbeatSend (t : Nat)
  | podHeartbeat (t : Nat) (device epoch masterView : Nat)
  | masterSilence (t : Nat)
  | partitionHandover (t : Nat) (partition newPair : Nat)
  -- memory and buffers
  | scrubPass (t : Nat) (addr : Nat) (errors : Nat) (use : Option BufferUse)
  | bufferRequest (t : Nat) (o : Origin) (v : Word)
  | bufferFree (t : Nat) (o : Origin) (v : Word)
  | stackBatchDone (t : Nat) (pool : Nat) (refill : Bool) (chain : Nat)
  | chainRebuilt (t : Nat) (pool : Nat)
  | leakSweep (t : Nat)
  | quotaWrite (t : Nat) (o : Origin) (v : Word)
  -- housekeeping DMA
  | dmaBurst (t : Nat) (channel : Nat)
  | descriptorFetch (t : Nat) (channel : Nat)
  | busError (t : Nat) (channel : Nat) (addr : Nat) (write : Bool) (kind : Nat)
  | dmaKick (t : Nat) (o : Origin) (v : Word)
  | dmaResume (t : Nat) (o : Origin) (v : Word)
  | softwareRequest (t : Nat) (o : Origin) (v : Word)
  | channelDisable (t : Nat) (o : Origin) (channel : Nat) (v : Word)
  | channelEnable (t : Nat) (o : Origin) (channel : Nat) (v : Word)
  -- cipher key slots
  | lockTake (t : Nat) (o : Origin) (v : Word)
  | lockRelease (t : Nat) (o : Origin) (v : Word)
  | lockIdleTimeout (t : Nat)
  | loadXts (t : Nat) (o : Origin) (v : Word)
  | loadGcm (t : Nat) (o : Origin) (v : Word)
  | keyClear (t : Nat) (o : Origin) (v : Word)
  | setLimit (t : Nat) (o : Origin) (v : Word)
  -- Ledger
  | ldgProgram (t : Nat) (addr src len : Nat)
  | ldgErase (t : Nat) (addr : Nat)
  | ldgSuspend (t : Nat) (bank : Nat)
  | ldgResume (t : Nat) (bank : Nat)
  | ldgPoll (t : Nat) (bank : Nat)
  | ldgCycles (t : Nat) (addr : Nat)
  | ldgRectail (t : Nat) (src len : Nat)
  | commandWindowWrite (t : Nat) (o : Origin) (offset : Nat) (bytes : List Byte)
  | windowSequenceTimeout (t : Nat)
  | ledgerProgramDone (t : Nat) (bank : Nat) (verifyOk : Bool)
  | ledgerEraseDone (t : Nat) (bank : Nat) (verifyOk : Bool)
  | minrunReached (t : Nat) (bank : Nat)
  | eraseAgeLimit (t : Nat) (bank : Nat)
  -- Relay, Slack exit, Bench, key fuses
  | relayCommit (t : Nat) (o : Origin) (v : Word)
  | relayAbandon (t : Nat) (o : Origin) (v : Word)
  | relayTimeout (t : Nat)
  | slackExitDone (t : Nat)
  | benchTestStart (t : Nat) (o : Origin) (v : Word)
  | benchTestDone (t : Nat) (errors : Nat)
  | keyBurn (t : Nat) (o : Origin) (v : Word)
  | keyRevoke (t : Nat) (o : Origin) (v : Word)
  -- Tally and recorder
  | tallyRequest (t : Nat) (o : Origin) (v : Word)
  | tallyLatch (t : Nat)
  | tallyStagingDone (t : Nat)
  | tallyLvalCommit (t : Nat) (o : Origin) (v : Word)
  | recorderFlushTimer (t : Nat)
  | recorderReadWindow (t : Nat) (o : Origin)
  | clearArm (t : Nat) (o : Origin) (v : Word)
  | clearGo (t : Nat) (o : Origin) (v : Word)
  -- latching reads
  | admRinfoRead (t : Nat) (o : Origin)
  | cmpFinfoRead (t : Nat) (o : Origin)
  | ddupPolicyRead (t : Nat) (o : Origin)
  | fchDinfoRead (t : Nat) (o : Origin) (channel : Nat)
  | strpMinfoRead (t : Nat) (o : Origin)
  | nvqQinfoRead (t : Nat) (o : Origin)
  | idmSinfoRead (t : Nat) (o : Origin)
  | atpuRinfoRead (t : Nat) (o : Origin)
  | poolOinfoRead (t : Nat) (o : Origin)
  | ciphKinfoRead (t : Nat) (o : Origin)
  | ldgCinfoRead (t : Nat) (o : Origin)
  -- management SPI
  | spiWrite (t : Nat) (addr : Nat) (hcrc : Byte) (words : List (Word × Byte)) (extraBits : Nat)
  | spiRead (t : Nat) (addr : Nat) (hcrc : Byte) (words : Nat) (extraBits : Nat)
  | spiStatus (t : Nat) (addr : Nat) (hcrc : Byte) (extraBits : Nat)
  | spiWrite16 (t : Nat) (addr : Nat) (hcrc : Byte) (w : Option (Word × Byte)) (extraBits : Nat)
  | bulkWindowControl (t : Nat) (o : Origin) (n : Nat) (v : Word)
  -- electrical, thermal, clocks
  | railOutOfRange (t : Nat) (rail millivolts : Nat)
  | clockLoss (t : Nat) (input : Nat)
  | clockRestore (t : Nat) (input : Nat)
  | temperatureReading (t : Nat) (sensor : Nat) (celsius : Int)
  | ppsInEdge (t : Nat)
  | ppsOutEdge (t : Nat) (rise : Bool)
  | powerOn (t : Nat)
  | refclk100Restored (t : Nat)
  | railBackInRange (t : Nat) (rail : Nat)
  | linkUp (t : Nat) (lane : Nat) (locked : Bool)
  | uncorrectableFecBurst (t : Nat) (lane : Nat)
  | spiHeaderRejected (t : Nat) (opcode : Byte) (addr : Nat) (hcrc : Byte) (bits : Nat)
  | mapLineRebuilt (t : Nat) (firstUnit units : Nat)
  | sgtLineRebuilt (t : Nat) (line : Nat)
  deriving DecidableEq, Repr

end Sys2Proof
end

