-- ==== Sys2Proof/Decode.lean ====
section
/-!
DEFINITION. The decoder of a block whose command table gives no row any bits.
-/

namespace Sys2Proof

/-- The command a word spells by the bits of spec/opcode_table.json: no row of the table has bits, so no word spells one. -/
def decodeTableWord (_nbits _w : Nat) : Option Instr := none

end Sys2Proof
end

