-- ==== Sys2Proof/Machine/State.lean ====
section
/-!
DEFINITION. The state of the block as plain data: every register, queue, buffer, counter, mode and pin the spec gives the
SW7128, and the queue of waiting commands. The default of each field is its value at reset; a default the spec does not
state is named in notes/assumptions (entry 2).
-/

namespace Sys2Proof.Machine

/-- The operating modes and the Locked state (Table 2.1). -/
inductive Mode where
  | reset | boot | slack | join | paired | sole | takeover | handback | relay | preservation | holdup | bench | locked
  deriving DecidableEq, Repr

/-- A retirable unit (Table 2.8), or the island that clocks one (rule R28). -/
inductive FUnit where
  | block (die blk : Nat)
  | die (n : Nat)
  | channel (n : Nat)
  | serdes (n : Nat)
  | clane (n : Nat)
  | dlane (n : Nat)
  | cluster (n : Nat)
  | pair (n : Nat)
  | voter (n : Nat)
  | island (k : IslandKind) (n : Nat)
  deriving DecidableEq, Repr

/-- The tide counter and the clocks (R45, R53, R353, R406, R415). -/
structure TimeState where
  /-- Tide counter, in ticks (DEDUCED, log 3: not reduced modulo 2⁶⁴). -/
  now : Nat := 0
  /-- The 15-bit fraction accumulator of R45. -/
  frac : Nat := 0
  /-- Always-on edges have begun (R354). -/
  running : Bool := false
  /-- Tick of the last PPS_IN rising edge (TBASE_PPS). -/
  pps : Nat := 0
  /-- PPS_OUT pin. -/
  ppsOut : Bool := false
  /-- Whole second last received from a time-transmitter, with the tick of reception (R218, R406). -/
  ptp : Option (Nat × Nat) := none
  refclkLost : Bool := false
  sref0Lost : Bool := false
  sref1Lost : Bool := false
  xtalLost : Bool := false
  deriving DecidableEq, Repr

/-- Mode, pins, button, reset log and boot (02_modes_timers_faults.md, 17_boot_reset.md). -/
structure ModeState where
  mode : Mode := .reset
  prev : Mode := .reset
  /-- GCTL_MODE.CAUSE, a code of Table 2.5. -/
  cause : Nat := 0
  /-- Tick of the last transition. -/
  tick : Nat := 0
  /-- Mode Relay was entered from (Table 2.3). -/
  relayFrom : Mode := .paired
  /-- Slack wake decided: the tick and whether a WAKE beacon caused it (Table 17.7). -/
  wakeAt : Option Nat := none
  /-- Tick the management watchdog was last serviced (R39). -/
  wdog : Nat := 0
  /-- Bench requested before image load completed (R358). -/
  benchReq : Bool := false
  /-- Stages 4 to 7 deferred from Slack (Table 17.2). -/
  deferred : Bool := false
  /-- This head entered Takeover and serves the partner's addresses (R263). -/
  partnerAddrs : Bool := false
  rstN : Bool := false
  pwrgd : Bool := false
  pwrFailN : Bool := true
  /-- REFCLK100 loss or thermal trip holds the device in Reset (R406, R410). -/
  heldInReset : Bool := false
  fenceN : Bool := false
  thermtripN : Bool := true
  /-- The maker test fuse (R36, R43). -/
  makerFuse : Bool := false
  rstSource : Nat := 0
  rstFall : Nat := 0
  rstRise : Nat := 0
  /-- Debounced press in progress: its tick, and whether it began in Reset (R356). -/
  press : Option (Nat × Bool) := none
  failClosed : Bool := false
  /-- Last press length in 10 ms units, saturating at 16 bits. -/
  lastPress : Nat := 0
  bootStage : Nat := 0
  bootFail : Nat := 0
  bootFails : List Nat := []
  bootSlot : Nat := 0
  fallback : Bool := false
  trial : Bool := false
  btick : Nat := 0
  noImage : Bool := false
  /-- Ticks each stage took, and the tick the present one began. -/
  stageTicks : List Nat := []
  stageFrom : Nat := 0
  /-- Retired units that passed their Boot tests; they return to service at the end of Boot (R416). -/
  passed : List FUnit := []
  /-- Sections of the running image but for the firmware: TYPE and content (R365). -/
  sections : List (Nat × List Byte) := []
  /-- Bytes of the running firmware; in Relay the pool 4 buffers that keep the old copy, and its bytes (R365, R366). -/
  fwLen : Nat := 0
  fwBufs : List Nat := []
  fwKept : Nat := 0
  /-- Events of Reset, recorded once the recorder runs again (R36, Table 20.5, Table 20.7): tick, code and data. -/
  bootEvents : List (Nat × Nat × List Nat) := []
  overload : Bool := false
  overloadFrom : Nat := 0
  /-- Window of the last plan miss, and the misses in it (R50, R51). -/
  missWindow : Nat := 0
  missCount : Nat := 0
  /-- Slot in which the static policies run for a missed plan (R31). -/
  staticSlot : Option Nat := none
  benchBusy : Bool := false
  benchPass : Bool := false
  benchFail : Bool := false
  benchErr : Nat := 0
  benchTest : Nat := 0
  benchTarget : Nat := 0
  /-- Staged GCTL_KEYHASH words, enrolled key slots, and the revoked bits (R368). -/
  keyHash : NMap Word := []
  enrolled : NMap (List Word) := []
  revoked : Nat := 0
  powerCycles : Nat := 0
  unsafeShutdowns : Nat := 0
  /-- The last Reset came through a completed Holdup, and no Boot has replayed since (Table 9.11). -/
  holdupDone : Bool := false
  /-- Ticks of earlier power-ons, for Power On Hours (Table 9.11). -/
  onTicks : Nat := 0
  deriving DecidableEq, Repr

/-- The stored bits of registers: plain fields, and what each access path keeps for itself (R11). -/
structure RegState where
  /-- RW and W1C bits that no other part of the state holds, by address; a register not listed has its reset value. -/
  vals : NMap Word := []
  /-- Select registers, latched halves and latched sets, by path and address. -/
  path : NMap Word := []
  /-- Staged _LO values and staged words, by path and address. -/
  staged : NMap Word := []
  /-- Bits hardware has set in a tick, by address, and that tick (R12). -/
  raised : NMap Word := []
  raisedAt : Nat := 0
  deriving DecidableEq, Repr

/-- An event record (Table 18.4), before its byte layout. -/
structure EventRec where
  code : Nat
  seq : Nat
  tick : Nat
  mode : Nat
  lost : Bool
  data : List Nat
  deriving DecidableEq, Repr

/-- The event recorder (18_tally_recorder.md). -/
structure RecorderState where
  /-- Last SEQ used; 0 when no record was ever written. -/
  newest : Nat := 0
  recs : List EventRec := []
  /-- Records with SEQ at or below this are hidden, but for code 0xB002 (R383). -/
  hiddenTo : Nat := 0
  /-- SEQ of the last record programmed in the Ledger. -/
  flushedTo : Nat := 0
  /-- Records lost and not yet reported (R380). -/
  lost : Nat := 0
  lostMark : Bool := false
  /-- Occurrence windows: opening tick by code and item (R46). -/
  windows : NMap Nat := []
  /-- Armed clears: nonce and tick, by path (R383). -/
  nonces : NMap (Nat × Nat) := []
  /-- Ring sector of the write point (R350) and byte in it. -/
  ringSector : Nat := 0
  ringOffset : Nat := 0
  flushing : Bool := false
  deriving DecidableEq, Repr

/-- Tally (R369 to R377). -/
structure TallyState where
  /-- Live counters: bits [47:0] value, bit 48 OVF; an index not listed holds 0. -/
  live : NMap Nat := []
  /-- Increments of a tick, by counter, and that tick (R12). -/
  adds : NMap Nat := []
  addsAt : Nat := 0
  at_ : Nat := 0
  pending : Bool := false
  done : Bool := false
  latched : Bool := false
  staged : Bool := false
  shadow : NMap Nat := []
  cause : Nat := 0
  gen : Nat := 0
  ltick : Nat := 0
  half : Nat := 0
  /-- Bytes of the staging area copied since the drain began or was begun again. -/
  drained : Nat := 0
  /-- C5h commands waiting for DONE: controller and CID. -/
  waiting : List (Nat × Sqe) := []
  deriving DecidableEq, Repr

/-- Counted faults, retirements and islands (R24 to R28, R46 to R49, R416). -/
structure FaultState where
  log : List (FUnit × Nat × Nat) := []
  retired : List FUnit := []
  /-- Tick of the last retirement (Table 9.11). -/
  lastRetire : Option Nat := none
  /-- Gatable islands that are ready; the phase of the others is in the two lists below. -/
  awake : List (IslandKind × Nat) := []
  gating : List (IslandKind × Nat × Nat) := []
  waking : List (IslandKind × Nat × Nat) := []
  /-- SerDes lanes: 0 down, 1 training, 2 up; lanes 0–15 front end, 16–23 Decux. -/
  lanes : NMap Nat := []
  /-- Front-end ports restarting at a narrower width: port and lanes (R219). -/
  restarting : NMap (List Nat) := []
  portLanes : NMap (List Nat) := []
  /-- Tide slot in which each island was last used (R24). -/
  used : List ((IslandKind × Nat) × Nat) := []
  deriving DecidableEq, Repr

/-- A reservation, home or mirror image (Table 3.2, R60, R67, R418). -/
structure Resv where
  rate : Nat
  burst : Nat
  d : Nat
  pull : Bool
  /-- Bound device queue number; 0 while unbound. -/
  dqn : Nat
  cntl : Nat
  setRate : Nat
  setBurst : Nat
  cut : Bool
  used : Nat
  credit : Nat
  window : Nat
  created : Nat
  home : Bool
  pushKey : Nat
  pushSz : Nat
  deriving DecidableEq, Repr

/-- One booking of the Tide Table (R64, R65): resource code, slot, ticks, and its owner's sequence number. -/
structure Booking where
  res : Nat
  slot : Nat
  ticks : Nat
  firm : Bool
  /-- Background or best-effort work that has started (R65). -/
  running : Bool
  seq : Nat
  /-- First slot of the operation the entry belongs to; entries of one resource, owner and operation stand together. -/
  op : Nat := 0
  /-- The work holds no entry: it was displaced, or found none, and is booked as the ring advances (R65, R66). -/
  waits : Bool := false
  deriving DecidableEq, Repr

/-- A command held in admission (R68, R69, R72). -/
structure Held where
  cntl : Nat
  qid : Nat
  dqn : Nat
  cmd : Sqe
  ranges : List (Nat × Nat)
  hostData : List Byte
  resv : Option Nat
  fetch : Nat
  hold : Nat
  forCredit : Bool
  /-- Window of the last attempt that found too little credit (R69). -/
  tried : Nat := 0
  deriving DecidableEq, Repr

/-- How stage 2a stands for a grain (R18). -/
inductive Dedup where
  | skip | waiting | hit (sgt : Nat) | miss | expired
  deriving DecidableEq, Repr

/-- How stage 2b stands for a grain (R101). -/
inductive LaneOut where
  | waiting | raw | comp (bytes : List Byte) (sample : Bool)
  deriving DecidableEq, Repr

/-- One grain of a write in flight (Table 1.2). -/
structure GrainOp where
  grain : Nat
  /-- LBAs of the grain the command covers, bit i for LBA i. -/
  mask : Nat
  /-- 0 data, 1 zero record, 2 deallocate record. -/
  kind : Nat
  plain : List Byte
  apptag : DWord
  /-- Stage 1 is done: the check field stands, and with it the WGEN (R79). -/
  formed : Bool
  check : Check
  fingerprint : Nat
  dedup : Dedup
  /-- Compression and dedup policies in force at acceptance (R100, R119). -/
  policy : Nat
  ddPolicy : Nat
  lane : LaneOut
  geom : Word
  ciphered : Bool
  payload : List Byte
  record : Option Record
  place : Option (Nat × Nat)
  sealedAt : Option Nat
  ackAt : Option Nat
  receipt : Bool
  failed : Bool
  /-- Cluster whose datapaths disagreed on the grain's fingerprint (R130). -/
  misHashed : Option Nat := none
  /-- The merge read of the grain's old content is under way (R77). -/
  merging : Bool := false
  deriving DecidableEq, Repr

/-- A write in flight: a Write, Write Zeroes or Dataset Management command from admission on (R19, R55). -/
structure WriteOp where
  seq : Nat
  cntl : Nat
  qid : Nat
  dqn : Nat
  cid : Nat
  kind : Nat
  vol : Nat
  slba : Nat
  nlb : Nat
  resv : Option Nat
  d : Nat
  fetch : Nat
  adm : Nat
  pushed : Bool
  acc : Option Nat
  sepoch : Nat
  cmd : Sqe
  grains : List GrainOp
  slack : Nat
  /-- Synchronous targets awaited, reached, missed, and whether a seal was refused (R277 to R279). -/
  syncWait : List Nat
  syncGot : List Nat
  syncMiss : List Nat
  nonceOut : Bool
  /-- Accepted while the pair kept mirrors: its completion needs the partner's acknowledgement (R19). -/
  mirrored : Bool := false
  /-- What R68 booked: bytes of the first stripe before the write, and for each stripe the slot of its first parity transfer (R87). -/
  bookedAt : Nat := 0
  /-- Map units for which admission took an overlay entry (R163). -/
  ovUnits : List Nat := []
  parity : List Nat := []
  deriving DecidableEq, Repr

/-- The admission engine (03_tide_table_admission.md). -/
structure AdmState where
  resv : NMap Resv := []
  held : List Held := []
  bookings : List Booking := []
  writes : List WriteOp := []
  nextSeq : Nat := 0
  /-- Order of creation among reservations (R73). -/
  created : Nat := 0
  /-- Best-effort grains admitted for writes and for reads in a window, which throttling limits (R410). -/
  beWindow : Nat := 0
  beWrites : Nat := 0
  beReads : Nat := 0
  deriving DecidableEq, Repr

/-- A completion queue entry (R203, R205). -/
structure Cqe where
  cid : Nat
  sct : Nat
  sc : Nat
  dw0 : Nat
  dw1 : Nat
  sqHead : Nat
  deriving DecidableEq, Repr

/-- A submission queue (R193 to R199, R72). -/
structure Sq where
  cntl : Nat
  qid : Nat
  dqn : Nat
  size : Nat
  key : Nat
  offset : Nat
  head : Nat
  tail : Nat
  epoch : Nat
  holdLimit : Nat
  deleting : Option Nat
  deriving DecidableEq, Repr

/-- A completion queue (R195, R198, R203, R204). -/
structure Cq where
  cntl : Nat
  qid : Nat
  dqn : Nat
  size : Nat
  key : Nat
  offset : Nat
  head : Nat
  tail : Nat
  phase : Bool
  epoch : Nat
  ien : Bool
  /-- Completions held while the queue is full, oldest first. -/
  held : List Cqe
  /-- Completions not yet notified, and the tick the oldest was posted (R203). -/
  unnotified : Nat
  notifyFrom : Nat
  deriving DecidableEq, Repr

/-- An NVMe controller (R192) and its features (Table 9.6). -/
structure Ctrl where
  session : Nat
  nkey : Nat
  nofs : Nat
  partnerAddr : Bool
  grant : Nat
  arb : Nat
  coalesce : Nat
  aerConf : Nat
  aers : List Nat
  notices : List Nat
  masked : List Nat
  aborts : Nat
  abortTick : Nat
  outstanding : List (Nat × Sqe × Nat)
  deriving DecidableEq, Repr

/-- A snapshot of a volume (R131 to R136); `base` is the map frozen at its tick. -/
structure Snap where
  tick : Nat
  epoch : Nat
  readable : Bool
  reclaim : Bool
  view : Option Nat
  repl : Bool
  exclBytes : Nat
  sharedBytes : Nat
  exclGrains : Nat
  sharedGrains : Nat
  acctTick : Nat
  deriving DecidableEq, Repr

/-- Where the current version of a grain lies (R159 to R162). -/
structure MapEnt where
  /-- 1 data, 2 zero, 3 deallocated, 4 shared. -/
  kind : Nat
  wgen : BitVec 16
  mirror : Bool
  band : Nat
  offset : Nat
  plen : Nat
  sgt : Nat
  volTag : Nat
  atick : Nat
  aseq : Nat
  seq : Nat
  deriving DecidableEq, Repr

/-- A namespace, its policies and its snapshots (R98, R118, R131, R133, R208). -/
structure Ns where
  lbaf : Nat
  units : Nat
  home : Bool
  /-- Homed on the partner originally, served here after a takeover (R263, R267). -/
  taken : Bool
  keyslot : Nat
  cmode : Nat
  cw : Nat
  cl : Nat
  dedup : Nat
  epoch : Nat
  snaps : NMap Snap
  frozen : NMap (NMap MapEnt)
  cloneOf : Option (Nat × Nat)
  ro : Bool
  readable : Bool
  attached : List Nat
  replica : Option (Nat × Nat)
  deriving DecidableEq, Repr

/-- A snapshot of a volume that is deleted, while its reclaim runs (R134). -/
structure Reclaim where
  vol : Nat
  id : Nat
  map : NMap MapEnt
  deriving DecidableEq, Repr

/-- The host queue engine (09_host_queues.md). -/
structure NvqState where
  ctrls : NMap Ctrl := []
  sqs : NMap Sq := []
  cqs : NMap Cq := []
  ns : NMap Ns := []
  reclaims : List Reclaim := []
  orphans : List (Nat × Nat × Cqe) := []
  errors : List (Nat × Nat × Nat × Nat) := []
  testOp : Nat := 0
  testStart : Nat := 0
  testPercent : Nat := 0
  testResults : List (Nat × Nat × Nat) := []
  tempOver : Nat := 65535
  tempUnder : Nat := 0
  hostReads : Nat := 0
  hostWrites : Nat := 0
  bytesRead : Nat := 0
  bytesWritten : Nat := 0
  deriving DecidableEq, Repr

/-- One grain on its way through the read path (Table 4.7), for a host command, a merge or the partner. -/
structure ReadGrain where
  rid : Nat
  cntl : Nat
  qid : Nat
  cid : Nat
  /-- 0 Read, 1 Compare, 2 merge read of write `merge`, 3 partner repair, 4 patrol, 5 rebuild. -/
  use : Nat
  merge : Nat
  vol : Nat
  grain : Nat
  ent : MapEnt
  record : Option Record
  point : Nat
  step : Nat
  /-- Codewords still failing, numbered from the page the record begins in (R150). -/
  failing : List Nat
  lanes : List Nat
  source : Nat
  failPoint : Nat
  result : Option (List Byte)
  deriving DecidableEq, Repr

/-- A read or compare command in progress (R95 to R97, R201, R210). -/
structure ReadCmd where
  cntl : Nat
  qid : Nat
  dqn : Nat
  cmd : Sqe
  vol : Nat
  slba : Nat
  nlb : Nat
  hostData : Option (List Byte)
  left : List Nat
  got : NMap (List Byte)
  /-- Application tags of the grains, and the grains that hold nothing (R82, R97). -/
  tags : NMap DWord
  holes : List Nat
  delivered : Bool
  /-- The host data of a Compare has been pulled (R15). -/
  pulled : Bool := true
  deriving DecidableEq, Repr

/-- A stored record and its place in a record stream (R86). -/
structure Stored where
  st : StreamId
  band : Nat
  stripe : Nat
  offset : Nat
  record : Record
  acked : Bool
  deriving DecidableEq, Repr

/-- A stripe of a band (R86, R87, R91). -/
structure Stripe where
  st : StreamId
  band : Nat
  idx : Nat
  bytes : Nat
  closed : Bool
  closeTick : Nat
  transferred : List Nat
  programmed : List Nat
  sealedAt : Option Nat
  oldestParity : Nat
  dense : Option (Nat × Nat)
  /-- The boundary B behind its migration; 0 while it stays in its old shape (R185). -/
  migrated : Nat
  skipped : List Nat
  deriving DecidableEq, Repr

/-- A band (R152, R174). -/
structure Band where
  st : StreamId
  slot : Nat
  k : Nat
  m : Nat
  members : List Nat
  dense : Bool
  /-- Substitute dies, by port (R174). -/
  subs : NMap Nat
  /-- Block taken on each die, on every plane of it (R152). -/
  blks : NMap Nat := []
  sealedBand : Bool
  refresh : Bool
  victim : Bool
  deriving DecidableEq, Repr

/-- A landing stream's write position (R86, R93). -/
structure Stream where
  band : Nat := 0
  stripe : Nat := 0
  pos : Nat := 0
  deriving DecidableEq, Repr

/-- A shared-grain entry (Table 6.2). -/
structure Sgt where
  mirror : Bool
  band : Nat
  offset : Nat
  reftag : BitVec 48
  wgen : BitVec 16
  guard : DWord
  refs : Nat
  keyslot : Nat
  pending : Bool
  plen : Nat
  deriving DecidableEq, Repr

/-- An entry of the post-process queue (Table 6.1). -/
structure PpEnt where
  vol : Nat
  grain : Nat
  wgen : BitVec 16
  fp : Nat
  /-- Cluster whose two datapaths disagreed on the grain: it is hashed again on another (R130). -/
  cluster : Option Nat := none
  deriving DecidableEq, Repr

/-- A retained checkpoint (R93, R167, R168). -/
structure Ckpt where
  seq : Nat
  full : Bool
  valid : Bool
  tick : Nat
  epoch : Nat
  homePos : Nat × Nat
  mirrorPos : Nat × Nat
  map : NMap MapEnt
  sgt : NMap Sgt
  ppq : List PpEnt
  wgens : NMap (BitVec 16)
  dirty : List Nat
  changes : List PairChange
  deriving DecidableEq, Repr

/-- A repaired record on its way to the end of the home stream (R21, R96), and its place once appended in soft slots. -/
structure Rewrite where
  vol : Nat
  grain : Nat
  ent : MapEnt
  record : Record
  place : Option (Nat × Nat)
  deriving DecidableEq, Repr

/-- The write path's stored bytes, the map and the read path (04_write_read_paths.md, 07_flash_management.md). -/
structure PathState where
  reads : List ReadGrain := []
  rcmds : List ReadCmd := []
  nextRid : Nat := 0
  homeStream : Stream := {}
  mirrorStream : Stream := {}
  /-- Append streams of GC, by the stream its records come from (R154). -/
  gcHome : Stream := {}
  gcMirror : Stream := {}
  nextBand : Nat := 0
  nextRecSeq : Nat := 0
  stripes : List Stripe := []
  bands : NMap Band := []
  stored : List Stored := []
  map : NMap MapEnt := []
  /-- WGEN of the last record formed for a grain (R79). -/
  wgens : NMap (BitVec 16) := []
  /-- Map units promoted to the fine overlay, with the tick of their last write (R162). -/
  overlay : NMap Nat := []
  /-- The overlay entry of each promoted unit (Table 7.8). -/
  overlayIdx : NMap Nat := []
  overlayHeld : Nat := 0
  /-- Map units whose HBM line was poisoned (R292). -/
  unknown : List Nat := []
  ckpts : List Ckpt := []
  ckptSeq : Nat := 0
  ckptTick : Nat := 0
  incs : Nat := 0
  mapChanged : Bool := false
  /-- The member record shows that a band was sealed once: the flash is formatted (R168). -/
  formatted : Bool := false
  empty : Bool := false
  rewrites : List Rewrite := []
  patrolDone : List Nat := []
  patrolRepaired : Nat := 0
  deriving DecidableEq, Repr

/-- The dedup engine (06_dedup_snapshots.md). -/
structure DdupState where
  filter : List Nat := []
  cache : List FpEnt := []
  sgt : NMap Sgt := []
  index : List FpEnt := []
  ppq : List PpEnt := []
  suspended : Bool := false
  /-- SGT lines poisoned and not yet rebuilt (R292). -/
  lostLines : List Nat := []
  deriving DecidableEq, Repr

/-- A die timing model (Table 7.2, Table 3.6). -/
structure DieModel where
  cell : Nat
  planes : Nat
  rate : Nat
  blkPerPlane : Nat
  wlPerBlk : Nat
  tProgSlc : Nat
  tProgDense : Nat
  tFold : Nat
  tErase : Nat
  tRead : Nat
  tSusp : Nat
  tXfer : Nat
  peDense : Nat
  peSlc : Nat
  retain : Nat
  rrCount : Nat
  rrDefault : Word
  rrSteps : List Word
  slcOp : Nat := 0
  suspOp : Nat := 0
  resumeOp : Nat := 0
  rrFeat : Nat := 0
  tempFeat : Nat := 0
  deriving DecidableEq, Repr

/-- A running or suspended erase of a die (R65, R158). -/
structure Erase where
  die : Nat
  block : Nat
  start : Nat
  suspended : Bool
  suspends : Nat
  /-- Tick of the last suspend. -/
  suspAt : Nat
  deriving DecidableEq, Repr

/-- A block of a die, one on every plane (block table, Table 7.7). -/
structure Block where
  slcCycles : Nat
  denseCycles : Nat
  dense : Bool
  marked : Bool
  erased : Bool
  deriving DecidableEq, Repr

/-- Channels, dies, blocks, wear and temperature history (07_flash_management.md). -/
structure FlashState where
  /-- Channel training: 0 untrained, 1 training, 2 ready; attempts that failed this Boot. -/
  chans : NMap (Nat × Nat) := []
  /-- Dies in use. -/
  dies : List Nat := []
  blocks : NMap Block := []
  erases : List Erase := []
  /-- Free landing blocks by port (R157). -/
  free : NMap Nat := []
  /-- Spare blocks at the first format (Table 7.10). -/
  spareFirst : Nat := 0
  /-- The same for each module port (R169). -/
  portSpareFirst : NMap Nat := []
  /-- Tick of the last die temperature sample (R169). -/
  tempTick : Nat := 0
  tempHist : NMap Nat := []
  /-- Read levels set at dies whose levels are not the default ones (R150). -/
  levels : NMap Word := []
  /-- Die slot at which the round-robin fold goes on (R31). -/
  foldNext : Nat := 0
  deriving DecidableEq, Repr

/-- A module port (R188 to R191, Table 8.6 STRP_MINFO). -/
structure Port where
  /-- 0 absent, 1 identifying, 2 unused, 3 spare, 4 member, 5 failed, 6 released, 7 refused. -/
  state : Nat := 0
  present : Bool := false
  powered : Bool := false
  model : Nat := 0
  part : Nat := 0
  serial : Nat := 0
  /-- Populated dies, as POP of the module gives them (R172). -/
  pop : Nat := 0
  deriving DecidableEq, Repr

/-- A rebuild in progress (R180 to R182). -/
structure Rebuild where
  target : Nat
  total : Nat
  left : Nat
  start : Nat
  /-- Spare ports that took a member index during it (R182). -/
  spares : List Nat := []
  deriving DecidableEq, Repr

/-- A reshape in progress (R184 to R187). -/
structure Reshape where
  oldK : Nat
  oldM : Nat
  oldMembers : List Nat
  bound : Nat
  total : Nat
  sysBound : Nat
  ldgBound : Nat
  deriving DecidableEq, Repr

/-- Module protection (08_module_protection.md). -/
structure StrpState where
  k : Nat := 0
  m : Nat := 0
  order : List Nat := []
  spares : List Nat := []
  gen : Nat := 0
  ports : NMap Port := []
  failed : List Nat := []
  partialLoss : List Nat := []
  rebuild : Option Rebuild := none
  reshape : Option Reshape := none
  refuse : Nat := 0
  /-- Stripes beyond parity that the rebuild handed to the partner copy: band and stripe (R178). -/
  beyond : List (Nat × Nat) := []
  deriving DecidableEq, Repr

/-- A sequenced packet sent and not yet acknowledged (R227, R229). -/
structure Sent where
  packet : Packet
  firstTick : Nat
  lastTick : Nat
  retry : Nat
  notBefore : Nat
  lane : Nat
  deriving DecidableEq, Repr

/-- What waits for an operation: nothing, the data of a write, the delivery of a read, or a queue's work entry (R201, R237). -/
inductive OpOwner where
  | none | write (seq : Nat) | read (cntl qid cid : Nat) | entry (queue : Nat)
  deriving DecidableEq, Repr

/-- An operation outstanding at the requester (R232, R240). -/
structure Op where
  owner : OpOwner
  xid : Nat
  queue : Nat
  read : Bool
  psns : List Nat
  bytesLeft : Nat
  /-- Number of the group write in flight that the operation is a copy of (R239). -/
  group : Option Nat
  /-- Internal address at which the bytes of a read land (R237); none where no memory of the model holds them. -/
  buf : Option Nat
  deriving DecidableEq, Repr

/-- An Idmuvel session (R223 to R229, R241 to R243). -/
structure Session where
  /-- 1 connecting, 2 open, 3 closing. -/
  state : Nat
  sealed : Bool
  purpose : Nat
  wlog2 : Nat
  port : Nat
  peer : Nat
  source : Nat
  firstRx : Nat
  nextPsn : Nat
  cum : Nat
  got : List Nat
  unacked : List Sent
  ops : List Op
  lastRx : Nat
  lastTx : Nat
  start : Nat
  lastConnect : Nat
  saltTx : Word
  saltRx : Word
  keyid : Nat
  phaseTx : Bool
  phaseRx : Bool
  bothPhases : Bool
  /-- One more than the counter of the last ACK accepted, by key phase (R242). -/
  lastAckCtr : NMap Nat
  sinceAck : Nat
  ackFrom : Nat
  retries : NMap Nat
  fenced : List Packet
  /-- Packets of a sealed session that wait for their pass through a cipher pair (R323), oldest first. -/
  toSeal : List Packet
  /-- Sequenced packets that wait for room in the window (R227), oldest first. -/
  sendq : List Packet
  cntl : Option Nat
  dbKey : Nat
  acceptPsn : Nat
  partnerAddr : Bool
  /-- PSN of a REKEY sent and not yet acknowledged (R330). -/
  rekeyPsn : Option Nat
  /-- PSN of a REKEY received whose old phase still arrives (R243). -/
  rekeyRx : Option Nat
  /-- Phases whose slots the session still references (R330). -/
  heldPhases : List Bool
  /-- A REKEY has passed in one direction or the other. -/
  rekeyed : Bool
  /-- PSN of a CLOSE received and not yet acknowledged (R226). -/
  closePsn : Option Nat
  deriving DecidableEq, Repr

/-- A device region (R233 to R235, R303). -/
structure Region where
  gen : Nat
  used : Bool
  base : Nat
  len : Nat
  rd : Bool
  wr : Bool
  nt : Bool
  ondemand : Bool
  owner : Nat
  doorbell : Bool
  freed : Nat
  units : NMap Nat
  deriving DecidableEq, Repr

/-- A transport queue (R237, R238): its completion count, its entries not yet started, each with the awaited count at its posting and
the tick it reached the head (0 before), and the counts at which a completion carried an error. -/
structure TQueue where
  cc : Nat := 0
  entries : List (WorkEntry × Nat × Nat) := []
  errors : List Nat := []
  deriving DecidableEq, Repr

/-- A group write in flight (R239, R240): its queue and group, the number of targets, those waited for and those reached. -/
structure GroupOp where
  queue : Nat
  group : Nat
  targets : Nat
  waiting : List Nat
  reached : List Nat
  deriving DecidableEq, Repr

/-- The transport (10_idmuvel_transport.md). -/
structure IdmState where
  sessions : NMap Session := []
  regions : NMap Region := []
  /-- Transport queues by session × 16,384 + QUEUE (R223). -/
  queues : NMap TQueue := []
  groupOps : NMap GroupOp := []
  /-- Packets stalled on an unbacked unit: session, region key, unit, packet, arrival (R236). -/
  stalls : List (Nat × Nat × Nat × Packet × Nat) := []
  faultIndex : Nat := 0
  faultCode : Nat := 0
  nextXid : Nat := 0
  odUsed : Nat := 0
  pushUsed : List (Nat × Nat) := []
  deriving DecidableEq, Repr

/-- Liveness of one beacon path (R250). -/
structure BPath where
  alive : Bool := false
  faulty : Bool := false
  lastAck : Option Nat := none
  /-- Tick of the last valid beacon whose ACKSEQ advanced. -/
  lastAdv : Nat := 0
  /-- One has come since the last period was tested. -/
  advanced : Bool := false
  checkTick : Nat := 0
  goodRun : Nat := 0
  /-- The path was lost and is not yet restored. -/
  wasLost : Bool := false
  losses : Nat := 0
  loopTick : Nat := 0
  deriving DecidableEq, Repr

/-- A voter island (R256 to R258). -/
structure Voter where
  ok : Bool := false
  fence : Bool := false
  lostV : Bool := false
  tideFail : Bool := false
  /-- Tick of its last calibration (R257). -/
  calTick : Option Nat := none
  /-- Tick its present disagreement began, and whether that one is counted already. -/
  disagree : Option Nat := none
  counted : Bool := false
  deriving DecidableEq, Repr

/-- A resynchronisation in progress (Table 11.5): stage 1 bulk, 2 drain; the units sent and not yet acknowledged, with their SEQs. -/
structure Resync where
  stage : Nat
  start : Nat
  drainFrom : Nat
  sent : Nat
  full : Bool
  out : List (Nat × List Nat)
  /-- Changes of the list sent, and SEQs of the version records not acknowledged yet. -/
  told : Nat := 0
  vers : List Nat := []
  deriving DecidableEq, Repr

/-- A two-head commit in progress: the change, its request tick, and the command that waits for it (R62). -/
structure Commit where
  token : Nat
  change : PairChange
  tick : Nat
  cntl : Nat
  cmd : Sqe
  deriving DecidableEq, Repr

/-- Pairing and fail-over (11_pairing_failover.md). -/
structure MoorState where
  /-- The pairing identity (R246): PAIR_ID, HEAD, and the partner's serial. -/
  pairId : DWord := 0
  head : Nat := 0
  serial : Nat := 0
  epoch : Nat := 0
  /-- BSEQ and tick of the last beacon sent; BSEQ and STICK of the last 16 (R252). -/
  bseq : Nat := 0
  beaconTick : Option Nat := none
  sticks : List (Nat × Nat) := []
  /-- Last BSEQ accepted, and the tick it was accepted or Join was entered. -/
  rxSeq : Option Nat := none
  rxTick : Nat := 0
  grantNext : Bool := false
  eOwn : Nat := 0
  eP : Nat := 0
  dx : BPath := {}
  bp : BPath := {}
  bothLosses : Nat := 0
  /-- Own release: RTICK, and the beacons still to carry it (R255). -/
  release : Option Nat := none
  releaseTx : Nat := 0
  /-- RTICK of a release received from the partner. -/
  pRelease : Option Nat := none
  voters : List Voter := [{}, {}, {}]
  evalTick : Option Nat := none
  votersDisagree : Option Nat := none
  twoOfTwo : Bool := false
  /-- The partner's last reported mode and FLAGS; own and partner's epoch at the first beacon accepted in this Join (R266). -/
  pmode : Nat := 0
  pFlags : Nat := 0
  joinEpochs : Option (Nat × Nat) := none
  /-- A beacon with GRANT has been sent, and one accepted, since Join was entered (Table 11.4 step 4). -/
  granted : Bool := false
  gotGrant : Bool := false
  wheld : Bool := false
  cseq : Nat := 0
  claim : Option Claim := none
  sync : Bool := false
  skew : Int := 0
  /-- Self-fenced and still in Join: nothing leaves on the front-end ports (R259). -/
  fenced : Bool := false
  /-- Event 0x7001 was recorded in this Join. -/
  refused : Bool := false
  /-- Map units dirty since the partner was lost, and the change list (R265). -/
  dirty : List Nat := []
  changes : List PairChange := []
  resync : Option Resync := none
  /-- Band and offset of the home records a resynchronisation brought, to be acknowledged once sealed (R267). -/
  rejoin : List (Nat × Nat) := []
  wakeLeft : Nat := 0
  /-- Address announcements under way: first tick, repeats sent, and whether they are the partner's (R263). -/
  announce : Option (Nat × Nat × Bool) := none
  lastTakeover : Nat := 0
  lossEnd : Nat := 0
  readbacks : Nat := 0
  readbackFails : Nat := 0
  readbackTick : Option Nat := none
  spareOk : List Nat := []
  spareFail : List Nat := []
  /-- Tick of each spare's last probe (R270). -/
  spareProbes : NMap Nat := []
  commits : List Commit := []
  token : Nat := 0
  /-- C0h commands held in Relay: controller, entry, fetch tick (R34). -/
  relayHeld : List (Nat × Sqe × Nat) := []
  deriving DecidableEq, Repr

/-- A target of a replication link (R272 to R280). -/
structure Target where
  desc : LinkDesc
  /-- 0 in sync, 1 out of sync, 2 resyncing, 3 idle, 4 sending. -/
  state : Nat
  /-- Last SETSEQ committed. -/
  setSeq : Nat
  /-- SNAPIDs of the base snapshot and of the set being sent. -/
  base : Option Nat
  cur : Option Nat
  /-- Tick of the snapshot being sent: SYNC frames go to a resyncing target for writes accepted from it on. -/
  from_ : Nat
  fseq : Nat
  /-- Frames sent and not yet answered: FSEQ, the write it belongs to (none for a frame of a set), and its map unit. -/
  flight : List (Nat × Option Nat × Nat)
  /-- FSEQ of the commit frame in flight; 0 when the set has not been sent. -/
  commitSeq : Nat
  marked : List Nat
  lastCommit : Nat
  lastTry : Option Nat
  deriving DecidableEq, Repr

/-- A replication link (R272, R276). -/
structure Link where
  vol : Nat
  sync : Bool
  interval : Nat
  home : Bool
  targets : NMap Target
  setSeq : Nat
  /-- Tick of the last interval. -/
  lastTick : Nat
  /-- The ACTION 5 command that started the set. -/
  cmd : Option (Nat × Sqe)
  deriving DecidableEq, Repr

/-- Replication and pods (12_replication_pods.md). -/
structure ReplState where
  links : NMap Link := []
  /-- Accepted replicas: by volume, the last ATICK applied to each grain (R275). -/
  replicas : NMap (NMap Nat) := []
  /-- Commit frames that wait for the grains of their set: by volume, the session and FSEQ. -/
  commits : NMap (Nat × Nat) := []
  podEpoch : Nat := 0
  /-- The pod's master device, as 2 × pair + head. -/
  master : Option Nat := none
  /-- Tick of the last heartbeat of each device, and of the last one sent. -/
  heard : NMap Nat := []
  sentTick : Option Nat := none
  /-- Volume blocks this pair holds, the namespace table, and the partitions given to a pair other than the default. -/
  blocks : List Nat := []
  nsTable : NMap Nat := []
  parts : NMap Nat := []
  deriving DecidableEq, Repr

/-- A buffer tag (R301): owner, state (1 granted, 2 withdrawn), grant tick, pool. -/
structure Buf where
  owner : Nat
  state : Nat
  tick : Nat
  pool : Nat
  deriving DecidableEq, Repr

/-- A pool's free store (R297): its range of `span` buffers, the stack (top first), the eight chains (head first), the batches in
flight, and what a cut chain took out of the store (R298). -/
structure Pool where
  size : Nat
  base : Nat
  span : Nat
  total : Nat
  stack : List Nat
  chains : List (List Nat)
  refills : Nat
  spills : Nat
  lostChain : List Nat
  deriving DecidableEq, Repr

/-- An owner's use, quota and floor, in 512-byte units (R299 to R302). -/
structure Owner where
  use : Nat := 0
  quota : Nat := 0xFFFFFFFF
  floor : Nat := 0
  age : Nat := 0
  oldest : Nat := 0
  aged : Bool := false
  held : Bool := false
  /-- Tick of the owner's last grant. -/
  granted : Nat := 0
  deriving DecidableEq, Repr

/-- SRAM, HBM, pools and owners (13_memory_buffers.md). -/
structure MemState where
  /-- Bytes of SRAM and HBM by internal address; an address not listed reads 0 (R289). -/
  cells : List Host.Cell := []
  /-- Poisoned 64-byte lines, by address / 64 (R290). -/
  poison : List Nat := []
  /-- Corrected errors by word address and tick (R293). -/
  ces : List (Nat × Nat) := []
  rewritten : List Nat := []
  sramDone : Bool := false
  hbmDone : Bool := false
  ready : Bool := false
  fillTicks : List Nat := []
  pools : NMap Pool := []
  bufs : NMap Buf := []
  owners : NMap Owner := []
  spareFree : Nat := 0
  retiredPages : List Nat := []
  withdrawn : List Nat := []
  /-- POOL_GRANT of each access path: address, pool, status. -/
  grants : NMap (Nat × Nat × Nat) := []
  /-- Requests that wait for a refill, by path: owner, size and ALLOW_LARGER (R294). -/
  waiting : List (Nat × Nat × Nat × Bool) := []
  /-- Tick of the last sweep of the owners (R301). -/
  sweepTick : Nat := 0
  deriving DecidableEq, Repr

/-- A descriptor as read (Table 14.2). -/
structure Desc where
  own : Bool
  int : Bool
  stop : Bool
  bad : Bool
  len : Nat
  src : Nat
  dst : Nat
  deriving DecidableEq, Repr

/-- A DMA channel (R307 to R314): the descriptor taken up, its 32 bytes as read, its index, and the bytes moved. -/
structure Chan where
  stopped : Bool := true
  idle : Bool := false
  cur : Option (List Byte × Nat × Nat) := none
  deriving DecidableEq, Repr

/-- A DMA translation window (R304). -/
structure Win where
  en : Bool := false
  rd : Bool := false
  wr : Bool := false
  base : Nat := 0
  lim : Nat := 0
  tgt : Nat := 0
  deriving DecidableEq, Repr

/-- The housekeeping DMA engine and its translation windows (14_housekeeping_dma.md, R303 to R306). -/
structure DmaState where
  /-- HALTED_BUS_ERROR (R315). -/
  halted : Bool := false
  chans : NMap Chan := []
  lines : List Nat := []
  /-- Channel last served among those with PRIO = 1, and among the others (R307). -/
  lastHigh : Nat := 31
  lastLow : Nat := 31
  haltTick : Nat := 0
  wins : NMap Win := []
  mfault : Nat := 0
  mfinfo : Nat := 0
  deriving DecidableEq, Repr

/-- A key slot (R325 to R331). -/
structure Slot where
  gcm : Bool
  owner : Nat
  refs : Nat
  key1 : List Byte
  key2 : List Byte
  ctr : Nat
  limit : Nat
  due : Bool
  exhausted : Bool
  deriving DecidableEq, Repr

/-- The cipher engine's keys and lock (15_cipher_engine.md). -/
structure CiphState where
  slots : NMap Slot := []
  lock : Nat := 0
  lockTick : Nat := 0
  keys : NMap Word := []
  /-- XTS keys stored wrapped in the flash system area, restored at Boot (R327). -/
  wrapped : NMap (Nat × List Byte × List Byte) := []
  limset : Nat := 0
  busy : Bool := false
  result : Nat := 0
  deriving DecidableEq, Repr

/-- A program of the Ledger: its offset and bytes, who asked for it (0 a ROM routine, 1 the command window, 2 a recorder tail,
3 a record the device keeps), whether its retry runs, and whether the erase it suspended resumes behind it (R340, R347). -/
structure LdgProg where
  addr : Nat
  bytes : List Byte
  asker : Nat
  retried : Bool
  resume : Bool
  deriving DecidableEq, Repr

/-- Work that waits for its bank or for VPP_LDG (R349, R350, R401). -/
inductive LdgJob where
  | prog (p : LdgProg)
  | erase (addr : Nat)
  deriving DecidableEq, Repr

/-- A Ledger bank (R338, R343 to R345). -/
structure Bank where
  prog : Option LdgProg := none
  /-- Sector under erase, running or suspended. -/
  erase : Option Nat := none
  suspended : Bool := false
  eraseStart : Nat := 0
  /-- Tick the erase started or was last resumed. -/
  runFrom : Nat := 0
  suspends : Nat := 0
  /-- A suspend held until LDG_MINRUN: who asked for it, and the program that waits for it (R344). -/
  held : Option (Nat × Option LdgProg) := none
  /-- The second erase of R347 runs. -/
  retried : Bool := false
  aged : Bool := false
  deriving DecidableEq, Repr

/-- A sector's hidden cycle count and flags (R346, R348). -/
structure Sector where
  cycles : Nat := 0
  worn : Bool := false
  pending : Bool := false
  /-- The stamp of the loss that left the content not defined (R348). -/
  undef : Option Nat := none
  deriving DecidableEq, Repr

/-- A command window sequence in progress (Table 16.4). -/
structure WinSeq where
  step : Nat
  bank : Nat
  last : Nat
  op : Nat
  lines : Nat
  addr : Nat
  data : List Byte
  deriving DecidableEq, Repr

/-- The Ledger (16_ledger_flash.md). -/
structure LdgState where
  /-- Bytes of both banks by offset 0 to 0x3FF_FFFF; a byte not listed reads FFh (R337). -/
  cells : List Host.Cell := []
  bankA : Bank := {}
  bankB : Bank := {}
  sectors : NMap Sector := []
  seq : Option WinSeq := none
  wstat : Nat := 0
  wbusy : Bool := false
  /-- Result of the last ROM routine (R340). -/
  result : Nat := 0
  vppLow : Bool := false
  /-- Lines whose content is not defined (R348), with the stamp of the loss. -/
  undef : NMap Nat := []
  waiting : List LdgJob := []
  deriving DecidableEq, Repr

/-- A bulk window (R395): whether it is full, the words the host wrote or read, and the bytes the DMA moved. Its content lies in its
staging buffer in memory. -/
structure Bulk where
  full : Bool := false
  words : Nat := 0
  moved : Nat := 0
  deriving DecidableEq, Repr

/-- The management SPI target (19_management_spi.md). -/
structure SpiState where
  prevOk : Bool := true
  errAddr : Nat := 0
  bulk : NMap Bulk := []
  deriving DecidableEq, Repr

/-- Temperature and rails (20_electrical_package.md). -/
structure ElecState where
  temp : Int := 0
  tempMax : Option Int := none
  sensor : Nat := 0
  throttle : Bool := false
  railsOut : Nat := 0
  deriving DecidableEq, Repr

/-- What the device has sent to the world around it: the model's own view of its outputs (log 4). -/
inductive Out where
  | completion (cntl qid : Nat) (e : Cqe) (phase : Bool)
  | notify (session : Nat)
  | event (cntl kind info log : Nat)
  | fetch (cntl qid count : Nat)
  | packet (session : Nat) (p : Packet)
  | connect (session : Nat)
  | acceptMsg (source : Nat) (sealed : Bool) (m : AcceptMsg)
  | beacon (decux : Bool) (b : Beacon)
  | claim (c : Claim)
  | announce (partner : Bool)
  | commit (token : Nat) (c : PairChange)
  | commitAnswer (token code : Nat)
  | mirror (recs : List Record)
  | programmed (acks : List (Nat × Nat))
  | repairAsk (rid vol grain : Nat) (wgen : BitVec 16)
  | repairGive (token : Nat) (r : Option Record)
  | frame (link target : Nat) (f : ReplFrame)
  | frameAnswer (session fseq result : Nat)
  | heartbeat (epoch : Nat) (master : Option Nat)
  | spi (status : Nat) (words : List (Word × Byte))
  | romResult (code : Nat)
  | ppsOut (rise : Bool)
  | handover (partition pair : Nat)
  | indexAsk (pair fp : Nat)
  | indexPut (pair : Nat) (e : FpEnt)
  | page (die block page : Nat) (bytes : List Byte)
  | resync (unit : Nat)
  deriving DecidableEq, Repr

/-- What the configuration image fixes beside the register section (Table 17.6). -/
structure Image where
  loaded : Bool := false
  start : Nat := 0
  svn : Nat := 0
  models : List DieModel := []
  parts : List (Nat × Nat) := []
  mapUnits : Nat := 0
  /-- Blocks of each plane of a die that run in SLC mode, for the landing and system bands (R152). -/
  slcSet : List Nat := []
  k : Nat := 0
  m : Nat := 0
  members : List Nat := []
  spares : List Nat := []
  pop : Nat := 0
  odBudget : Nat := 0
  tallyBuf : Nat := 0
  /-- The staging area of R373, in the SRAM control carve-out. -/
  tallyStage : Nat := 0
  pushBase : Nat := 0
  pushSize : Nat := 0
  bulkBase : Nat := 0
  ringBase : Nat := 0
  purposes : List Nat := []
  /-- Base and buffer count of pools 0 to 4 (Table 13.4). -/
  pools : List (Nat × Nat) := []
  /-- Owner, quota, floor and age limit (R299). -/
  owners : List (Nat × Nat × Nat × Nat) := []
  sparePages : Nat := 0
  /-- Carve-outs (R288): kind (Table 13.2, the model's ordinals), base and size. -/
  carve : List (Nat × Nat × Nat) := []
  podId : Nat := 0
  podPairs : List Nat := []
  podSelf : Nat := 0
  podDesignated : Nat := 0
  podOrder : List Nat := []
  deriving DecidableEq, Repr, Inhabited

/-- Everything the spec gives the device, and the queue of waiting commands, first in first out. -/
structure State where
  time : TimeState := {}
  md : ModeState := {}
  regs : RegState := {}
  rcdr : RecorderState := {}
  tally : TallyState := {}
  faults : FaultState := {}
  adm : AdmState := {}
  nvq : NvqState := {}
  path : PathState := {}
  ddup : DdupState := {}
  flash : FlashState := {}
  strp : StrpState := {}
  idm : IdmState := {}
  moor : MoorState := {}
  repl : ReplState := {}
  mem : MemState := {}
  dma : DmaState := {}
  ciph : CiphState := {}
  ldg : LdgState := {}
  spi : SpiState := {}
  elec : ElecState := {}
  image : Image := {}
  /-- What the device has sent, newest first. -/
  outbox : List Out := []
  /-- The model's own counter for free values (log 5). -/
  free : Nat := 0
  /-- Commands waiting, oldest first. -/
  pending : List Instr := []
  deriving DecidableEq, Repr

/-- No command of the table ends in a fault: the spec gives each of them an effect in every state. -/
inductive Fault where
  /-- Raised by nobody; safe, since it allows no behaviour. -/
  | none
  deriving DecidableEq, Repr

/-- The reasons a step may be refused. -/
inductive Refusal where
  /-- Raised only by an arm of exec whose command has no meaning yet; safe. -/
  | notModelled (mnemonic : String)
  deriving DecidableEq, Repr

/-- The machine at a cold power-on, before the first always-on edge: mode Reset, cause Power-on (R354, Table 2.5). -/
def State.reset : State := {}

end Sys2Proof.Machine
end

