-- ==== Sys2Proof/Config.lean ====
section
/-!
DEFINITION. What the spec leaves open and what it takes from published standards without restating it.
Nothing here has a body: a statement about one of these holds for every value it may take.
-/

namespace Sys2Proof.Config

open Sys2Proof.Machine

/-- A fresh value the spec does not determine, such as the random nonce of R383 (log 5). -/
opaque freeWord : Nat → Word

/-- What sections 0x03 to 0x06 of an image say (Table 17.6); the spec gives their content, not their layout (log 6). -/
opaque imageBody : List Byte → Image

/-- The 96-byte die model records that an image holds (Table 7.2); the spec does not say where in its sections they lie (log 6). -/
opaque modelRecords : List Byte → List (List Byte)

/-- The pairing identity in a parameter entry's body (R246): PAIR_ID, HEAD, partner serial; layout not stated (log 6). -/
opaque identity : List Byte → Nat × Nat × Nat

/-- A member record in a parameter entry's body (R172): k, m, member order, spares, generation; layout not stated (log 6). -/
opaque memberRecord : List Byte → Nat × Nat × List Nat × List Nat × Nat

/-- The bytes of such a record (R172, R186). -/
opaque memberBody : Nat → Nat → List Nat → List Nat → Nat → List Byte

/-- The bytes of a reshape boundary record (R186): B, the old and the new shape as k, m and members, and the member-record generation. -/
opaque boundaryBody : Nat → Nat × Nat × List Nat → Nat × Nat × List Nat → Nat → List Byte

/-- How far a self-test that started at a tick has come at another (R213): its percentage is not stated (log 70). -/
opaque selfTestPercent : Nat → Nat → Nat

/-- What a spec-silent identification field reads as: Identify data beyond Table 9.3 (R207). -/
opaque identifyByte : Nat → Nat → Byte

/-- A key from the device's random generator (R326). -/
opaque randomKey : Nat → List Byte

/-- What a log page holds where the spec leaves the layout to the NVM Express specifications (Table 9.8). -/
opaque logByte : Nat → Nat → Byte

/-- The result of a bench or self-test step whose content the spec does not state. -/
opaque freeFlag : Nat → Bool

/-- The number an event records for an item that the spec names and gives no code (R417): the event, and the model's ordinal of the
item (log 11). -/
opaque itemCode : Nat → Nat → Nat

/-- The window a session asks for or grants, as the log2 of packets, 8 to 20 (Tables 10.4 and 10.5): the device's own request. -/
opaque windowLog2 : Nat → Nat

/-- The map units a 64-byte line of the coarse map, the generation table or the fine overlay holds, by the kind of structure and the
number of the line in it (Table 7.7 gives the entries, not where a volume's lie). -/
opaque lineUnits : Nat → Nat → List Nat

/-- The line of the hot cache that holds a fingerprint's entry (Table 6.1 gives the entry, not its place). -/
opaque cacheLine : Nat → Nat

/-- A byte of Ledger content that the spec calls not defined (R348): the stamp of the loss that left it so, and its offset. -/
opaque undefByte : Nat → Nat → Byte

/-- A byte of the boot ROM, by its offset (Table 13.1): the spec does not list the ROM. -/
opaque romByte : Nat → Byte

end Sys2Proof.Config
end

