-- ==== Sys2Proof/Machine/Maps.lean ====
section
/-!
DEFINITION. Sparse maps with strictly rising keys, the byte memories built on the same form, and bit-field helpers.
-/

namespace Sys2Proof.Machine

/-- The value listed for a key. -/
def NMap.find {α : Type} : NMap α → Nat → Option α
  | [], _ => none
  | (k, v) :: m, key => if key = k then some v else NMap.find m key

/-- The value listed for a key, or a default. -/
def NMap.getD {α : Type} (m : NMap α) (key : Nat) (d : α) : α := (NMap.find m key).getD d

/-- List a value for a key, replacing the one listed. -/
def NMap.put {α : Type} : NMap α → Nat → α → NMap α
  | [], key, v => [(key, v)]
  | (k, w) :: m, key, v =>
    if key < k then (key, v) :: (k, w) :: m
    else if key = k then (key, v) :: m
    else (k, w) :: NMap.put m key v

/-- Take a key out of the map. -/
def NMap.del {α : Type} : NMap α → Nat → NMap α
  | [], _ => []
  | (k, w) :: m, key => if key = k then NMap.del m key else (k, w) :: NMap.del m key

/-- Whether a key is listed. -/
def NMap.has {α : Type} (m : NMap α) (key : Nat) : Bool := (NMap.find m key).isSome

/-- Change the value listed for a key, if it is listed. -/
def NMap.upd {α : Type} (m : NMap α) (key : Nat) (f : α → α) : NMap α :=
  match NMap.find m key with
  | some v => NMap.put m key (f v)
  | none => m

/-- The keys listed. -/
def NMap.keys {α : Type} (m : NMap α) : List Nat := m.map (·.1)

/-- The values listed. -/
def NMap.vals {α : Type} (m : NMap α) : List α := m.map (·.2)

/-- The keys rise strictly. -/
def NMap.wf {α : Type} (m : NMap α) : Bool := decide (m.Pairwise (fun a b => a.1 < b.1))

/-- The least number of `[lo, hi)` that the test accepts. -/
def firstFree (lo : Nat) (n : Nat) (used : Nat → Bool) : Option Nat :=
  (List.range n |>.map (lo + ·)).find? (fun i => !used i)

/-- A byte memory in canonical form: rising addresses, and no byte listed that equals what an unlisted address reads as. -/
def Memory.wf (d : Byte) (m : List Host.Cell) : Bool :=
  decide (m.Pairwise (fun a b => a.1 < b.1)) && m.all (fun c => c.2 != d)

/-- Read one byte; an unlisted address reads as `d` (0x00 in SRAM and HBM, R289; FFh in the Ledger, R337). -/
def Memory.read (d : Byte) (m : List Host.Cell) (a : Nat) : Byte := NMap.getD m a d

/-- Write one byte, keeping the canonical form. -/
def Memory.write (d : Byte) (m : List Host.Cell) (a : Nat) (v : Byte) : List Host.Cell :=
  if v = d then NMap.del m a else NMap.put m a v

/-- Read bytes from an address upward. -/
def Memory.readBytes (d : Byte) (m : List Host.Cell) (a n : Nat) : List Byte :=
  (List.range n).map (fun i => Memory.read d m (a + i))

/-- Write bytes from an address upward. -/
def Memory.writeBytes (d : Byte) : List Host.Cell → Nat → List Byte → List Host.Cell
  | m, _, [] => m
  | m, a, v :: vs => Memory.writeBytes d (Memory.write d m a v) (a + 1) vs

/-- Bits [hi:lo] of a register, as a number (R4). -/
def bits (w : Word) (hi lo : Nat) : Nat := (w.toNat / 2 ^ lo) % 2 ^ (hi - lo + 1)

/-- One bit of a register. -/
def bit (w : Word) (n : Nat) : Bool := bits w n n = 1

/-- The mask of bits [hi:lo]. -/
def fieldMask (hi lo : Nat) : Word := BitVec.ofNat 32 ((2 ^ (hi - lo + 1) - 1) * 2 ^ lo)

/-- A field placed at bit `lo`, cut to [hi:lo]. -/
def field (v hi lo : Nat) : Word := BitVec.ofNat 32 ((v % 2 ^ (hi - lo + 1)) * 2 ^ lo)

/-- A number shown in a field of `w` bits, saturated at the field's maximum (R13). -/
def satTo (w v : Nat) : Nat := if v < 2 ^ w then v else 2 ^ w - 1

/-- A Boolean as a bit. -/
def b2n (b : Bool) : Nat := if b then 1 else 0

/-- The numbers of a list as a bit mask. -/
def maskOf (l : List Nat) : Nat := l.eraseDups.foldl (fun a n => a + 2 ^ n) 0

/-- Little-endian bytes of a number. -/
def leBytes : Nat → Nat → List Byte
  | 0, _ => []
  | n + 1, v => BitVec.ofNat 8 v :: leBytes n (v / 256)

/-- The number that little-endian bytes spell. -/
def leNat : List Byte → Nat
  | [] => 0
  | b :: bs => b.toNat + 256 * leNat bs

/-- `n` copies of a byte, made by structural recursion. -/
def padBytes (n : Nat) (b : Byte) : List Byte := List.replicate n b

end Sys2Proof.Machine
end

