-- ==== Sys2Proof/Machine/Codes.lean ====
section
/-!
DEFINITION. The codes of the device: the CRCs (R78, R84, R388), the parity of a stripe and its reconstruction over GF(2⁸)
(R175, R176), and the LDPC code of a page (R145 to R149).
-/

namespace Sys2Proof.Machine

/-- One byte of a reflected CRC whose reversed polynomial is `p`. -/
def crcStepR (w : Nat) (p : BitVec w) : Nat → BitVec w → BitVec w
  | 0, c => c
  | n + 1, c => crcStepR w p n (if c.toNat % 2 = 1 then (c >>> 1) ^^^ p else c >>> 1)

/-- CRC-32C: polynomial 0x1EDC_6F41, reflected, initial value and final XOR all ones (Table 4.3, HCRC). -/
def crc32c (bs : List Byte) : Word :=
  (bs.foldl (fun c b => crcStepR 32 0x82F63B78 8 (c ^^^ b.zeroExtend 32)) 0xFFFFFFFF) ^^^ 0xFFFFFFFF

/-- The 64-bit guard CRC, polynomial 0xAD93_D235_94C9_3659 (Table 4.1); reflected with all ones in and out,
as the NVM Command Set specification has it (PRESUMED, log 7). -/
def crc64 (bs : List Byte) : DWord :=
  (bs.foldl (fun c b => crcStepR 64 0x9A6C9329AC4BC9B5 8 (c ^^^ b.zeroExtend 64)) 0xFFFFFFFFFFFFFFFF)
    ^^^ 0xFFFFFFFFFFFFFFFF

/-- Eight steps of a CRC-8 with polynomial 0x07, most significant bit first. -/
def crc8Step : Nat → Byte → Byte
  | 0, c => c
  | n + 1, c => crc8Step n (if 128 ≤ c.toNat then (c <<< 1) ^^^ 0x07 else c <<< 1)

/-- The CRC-8 of the management SPI (R388). -/
def crc8 (bs : List Byte) : Byte := bs.foldl (fun c b => crc8Step 8 (c ^^^ b)) 0

/-- Bytes of a number, most significant first. -/
def beBytes (n v : Nat) : List Byte := (leBytes n v).reverse

/-! Arithmetic of GF(2⁸) with the polynomial 0x11D (R175). -/

/-- Multiply by x in GF(2⁸). -/
def gfX (a : Byte) : Byte := if 128 ≤ a.toNat then (a <<< 1) ^^^ 0x1D else a <<< 1

/-- The product of GF(2⁸), over the bits of the second factor. -/
def gfMulAux : Nat → Byte → Nat → Byte
  | 0, _, _ => 0
  | n + 1, a, b => (if b % 2 = 1 then a else 0) ^^^ gfMulAux n (gfX a) (b / 2)

/-- The product of GF(2⁸). -/
def gfMul (a b : Byte) : Byte := gfMulAux 8 a b.toNat

/-- Table 8.1: the inverse of 0x10 + v. -/
def gfInvTable : List Byte :=
  [0xD8, 0x72, 0xC0, 0x58, 0xE0, 0x3E, 0x4C, 0x66, 0x90, 0xDE, 0x55, 0x80, 0xA0, 0x83, 0x4B, 0x2A]

/-- The inverse in GF(2⁸): a to the power 254. -/
def gfInv (a : Byte) : Byte :=
  let a2 := gfMul a a
  let a4 := gfMul a2 a2
  let a8 := gfMul a4 a4
  let a16 := gfMul a8 a8
  let a32 := gfMul a16 a16
  let a64 := gfMul a32 a32
  let a128 := gfMul a64 a64
  gfMul a128 (gfMul a64 (gfMul a32 (gfMul a16 (gfMul a8 (gfMul a4 a2)))))

/-- g(t, i), the inverse of x_t + y_i, which is INV[t XOR i] (R175). -/
def parityCoeff (t i : Nat) : Byte := gfInvTable.getD (t ^^^ i) 0

/-- Byte b of parity strip t from byte b of the data strips (R175). -/
def parityByte (t : Nat) (data : List Byte) : Byte :=
  (data.zipIdx.map (fun (d, i) => gfMul (parityCoeff t i) d)).foldl (· ^^^ ·) 0

/-- Parity strip t of a stripe's data strips, all of one length. -/
def parityStrip (t n : Nat) (data : List (List Byte)) : List Byte :=
  (List.range n).map (fun b => parityByte t (data.map (fun d => d.getD b 0)))

/-- The row of [I_k ; G] that strip s of a stripe is (R176). -/
def generatorRow (k s : Nat) : List Byte :=
  (List.range k).map (fun i => if s < k then (if s = i then 1 else 0) else parityCoeff (s - k) i)

/-- One row less `c` times another. -/
def rowSub (c : Byte) (p r : List Byte) : List Byte := (r.zip p).map (fun (a, b) => a ^^^ gfMul c b)

/-- Gauss elimination over GF(2⁸) of augmented rows, column by column. -/
def gfSolveAux : Nat → Nat → List (List Byte) → List (List Byte)
  | 0, _, rows => rows
  | n + 1, col, rows =>
    match (rows.zipIdx.drop col).find? (fun (r, _) => r.getD col 0 != 0) with
    | none => rows
    | some (r, at_) =>
      let inv := gfInv (r.getD col 0)
      let p := r.map (gfMul inv)
      let swapped := (rows.set at_ (rows.getD col [])).set col p
      gfSolveAux n (col + 1)
        (swapped.zipIdx.map (fun (q, i) => if i = col then q else rowSub (q.getD col 0) p q))

/-- The k data bytes that any k surviving strips determine: pairs of strip index and byte (R176). -/
def reconstructBytes (k : Nat) (have_ : List (Nat × Byte)) : List Byte :=
  let rows := (have_.take k).map (fun (s, b) => generatorRow k s ++ [b])
  (gfSolveAux k 0 rows).map (fun r => r.getD k 0)

/-- Byte of strip s of a stripe, rebuilt from any k surviving strips. -/
def rebuildByte (k s : Nat) (have_ : List (Nat × Byte)) : Byte :=
  let d := reconstructBytes k have_
  if s < k then d.getD s 0 else parityByte (s - k) d

/-! The LDPC code (R146 to R149). -/

/-- Nonzero block rows of payload block column j (R147). -/
def ldpcRows (j : Nat) : List Nat :=
  let a := j % 8
  let b := j / 8
  [a, (a + 1) % 8, (a + 3) % 8, (a + 5 + 2 * (b % 2)) % 8]

/-- The shift s(i, j) of R147. -/
def ldpcShift (i j : Nat) : Nat := (i * (4 * j + 1) + 37 * j + 11 * i * i) % 512

/-- rot(v, s)[r] = v[(r + s) mod 512] (R149): bit r of the result is bit (r + s) mod 512. -/
def ldpcRot (v : BitVec 512) (s : Nat) : BitVec 512 := v.rotateRight s

/-- The 512-bit blocks of a codeword's payload: block j holds payload bytes 64j to 64j + 63 (R146). -/
def ldpcBlocks (payload : List Byte) : List (BitVec 512) :=
  (List.range 64).map (fun j => BitVec.ofNat 512 (leNat ((payload.drop (64 * j)).take 64)))

/-- lam[i] of the encoder (R149). -/
def ldpcLam (u : List (BitVec 512)) (i : Nat) : BitVec 512 :=
  (u.zipIdx.map (fun (v, j) => if i ∈ ldpcRows j then ldpcRot v (ldpcShift i j) else 0)).foldl (· ^^^ ·) 0

/-- The eight parity blocks of the encoder (R149). -/
def ldpcParity (u : List (BitVec 512)) : List (BitVec 512) :=
  let l := (List.range 8).map (ldpcLam u)
  let g := fun i => l.getD i 0
  let p0 := l.foldl (· ^^^ ·) 0
  let p1 := g 0 ^^^ ldpcRot p0 1
  let p2 := g 1 ^^^ p1
  let p3 := g 2 ^^^ p2
  let p4 := g 3 ^^^ p3
  let p5 := g 4 ^^^ p4 ^^^ p0
  let p6 := g 5 ^^^ p5
  let p7 := g 6 ^^^ p6
  [p0, p1, p2, p3, p4, p5, p6, p7]

/-- Block row 7 of the parity check: it must come to zero (R149). -/
def ldpcCheck (u : List (BitVec 512)) : BitVec 512 :=
  let p := ldpcParity u
  ldpcLam u 7 ^^^ p.getD 7 0 ^^^ ldpcRot (p.getD 0 0) 1

/-- One 4,608-byte codeword: 4,096 payload bytes and 512 parity bytes (R145). -/
def codeword (payload : List Byte) : List Byte :=
  payload ++ ((ldpcParity (ldpcBlocks payload)).map (fun p => leBytes 64 p.toNat)).flatten

/-- The first 18,432 bytes of a page as written (Table 7.3). -/
def pageBytes (payload : List Byte) : List Byte :=
  ((List.range 4).map (fun q => codeword ((payload.drop (4096 * q)).take 4096))).flatten

/-- Whether a page reads as erased: more than 99 % of its bits are 1 (R149). -/
def pageErased (page : List Byte) : Bool :=
  let ones := (page.map (fun b => ((List.range 8).filter (fun i => b.getLsbD i)).length)).sum
  decide (99 * (8 * page.length) < 100 * ones)

end Sys2Proof.Machine
end

