-- ==== Sys2Proof/Machine/Crypto.lean ====
section
/-!
DEFINITION. The published ciphers and digests the spec names: SHA-256 (R120), SHA-384 and ECDSA P-384 (Table 17.4), AES-256 in the
XTS mode of IEEE 1619 (R85, R325) and in Galois/Counter Mode (R241). The spec cites them and does not restate them (PRESUMED, log 34).
-/

namespace Sys2Proof.Machine

/-! ### SHA-256 and SHA-384 (FIPS 180-4) -/

/-- The round constants of SHA-256 (FIPS 180-4). -/
def shaK256 : List Word :=
  [0x428A2F98, 0x71374491, 0xB5C0FBCF, 0xE9B5DBA5, 0x3956C25B, 0x59F111F1, 0x923F82A4, 0xAB1C5ED5,
   0xD807AA98, 0x12835B01, 0x243185BE, 0x550C7DC3, 0x72BE5D74, 0x80DEB1FE, 0x9BDC06A7, 0xC19BF174,
   0xE49B69C1, 0xEFBE4786, 0x0FC19DC6, 0x240CA1CC, 0x2DE92C6F, 0x4A7484AA, 0x5CB0A9DC, 0x76F988DA,
   0x983E5152, 0xA831C66D, 0xB00327C8, 0xBF597FC7, 0xC6E00BF3, 0xD5A79147, 0x06CA6351, 0x14292967] ++
  [0x27B70A85, 0x2E1B2138, 0x4D2C6DFC, 0x53380D13, 0x650A7354, 0x766A0ABB, 0x81C2C92E, 0x92722C85,
   0xA2BFE8A1, 0xA81A664B, 0xC24B8B70, 0xC76C51A3, 0xD192E819, 0xD6990624, 0xF40E3585, 0x106AA070,
   0x19A4C116, 0x1E376C08, 0x2748774C, 0x34B0BCB5, 0x391C0CB3, 0x4ED8AA4A, 0x5B9CCA4F, 0x682E6FF3,
   0x748F82EE, 0x78A5636F, 0x84C87814, 0x8CC70208, 0x90BEFFFA, 0xA4506CEB, 0xBEF9A3F7, 0xC67178F2]

/-- The initial hash value of SHA-256. -/
def shaH256 : List Word :=
  [0x6A09E667, 0xBB67AE85, 0x3C6EF372, 0xA54FF53A, 0x510E527F, 0x9B05688C, 0x1F83D9AB, 0x5BE0CD19]

/-- The round constants of SHA-384 (FIPS 180-4). -/
def shaK384 : List DWord :=
  [0x428A2F98D728AE22, 0x7137449123EF65CD, 0xB5C0FBCFEC4D3B2F, 0xE9B5DBA58189DBBC,
   0x3956C25BF348B538, 0x59F111F1B605D019, 0x923F82A4AF194F9B, 0xAB1C5ED5DA6D8118,
   0xD807AA98A3030242, 0x12835B0145706FBE, 0x243185BE4EE4B28C, 0x550C7DC3D5FFB4E2,
   0x72BE5D74F27B896F, 0x80DEB1FE3B1696B1, 0x9BDC06A725C71235, 0xC19BF174CF692694,
   0xE49B69C19EF14AD2, 0xEFBE4786384F25E3, 0x0FC19DC68B8CD5B5, 0x240CA1CC77AC9C65] ++
  [0x2DE92C6F592B0275, 0x4A7484AA6EA6E483, 0x5CB0A9DCBD41FBD4, 0x76F988DA831153B5,
   0x983E5152EE66DFAB, 0xA831C66D2DB43210, 0xB00327C898FB213F, 0xBF597FC7BEEF0EE4,
   0xC6E00BF33DA88FC2, 0xD5A79147930AA725, 0x06CA6351E003826F, 0x142929670A0E6E70,
   0x27B70A8546D22FFC, 0x2E1B21385C26C926, 0x4D2C6DFC5AC42AED, 0x53380D139D95B3DF,
   0x650A73548BAF63DE, 0x766A0ABB3C77B2A8, 0x81C2C92E47EDAEE6, 0x92722C851482353B] ++
  [0xA2BFE8A14CF10364, 0xA81A664BBC423001, 0xC24B8B70D0F89791, 0xC76C51A30654BE30,
   0xD192E819D6EF5218, 0xD69906245565A910, 0xF40E35855771202A, 0x106AA07032BBD1B8,
   0x19A4C116B8D2D0C8, 0x1E376C085141AB53, 0x2748774CDF8EEB99, 0x34B0BCB5E19B48A8,
   0x391C0CB3C5C95A63, 0x4ED8AA4AE3418ACB, 0x5B9CCA4F7763E373, 0x682E6FF3D6B2B8A3,
   0x748F82EE5DEFB2FC, 0x78A5636F43172F60, 0x84C87814A1F0AB72, 0x8CC702081A6439EC] ++
  [0x90BEFFFA23631E28, 0xA4506CEBDE82BDE9, 0xBEF9A3F7B2C67915, 0xC67178F2E372532B,
   0xCA273ECEEA26619C, 0xD186B8C721C0C207, 0xEADA7DD6CDE0EB1E, 0xF57D4F7FEE6ED178,
   0x06F067AA72176FBA, 0x0A637DC5A2C898A6, 0x113F9804BEF90DAE, 0x1B710B35131C471B,
   0x28DB77F523047D84, 0x32CAAB7B40C72493, 0x3C9EBE0A15C9BEBC, 0x431D67C49C100D4C,
   0x4CC5D4BECB3E42B6, 0x597F299CFC657E2A, 0x5FCB6FAB3AD6FAEC, 0x6C44198C4A475817]

/-- The initial hash value of SHA-384. -/
def shaH384 : List DWord :=
  [0xCBBB9D5DC1059ED8, 0x629A292A367CD507, 0x9159015A3070DD17, 0x152FECD8F70E5939,
   0x67332667FFC00B31, 0x8EB44A8768581511, 0xDB0C2E0D64F98FA7, 0x47B5481DBEFA4FA4]

/-- What sets the two digests apart: the word width, the constants, and the amounts of the four sigma functions. -/
structure Sha (w : Nat) where
  k : List (BitVec w)
  h : List (BitVec w)
  big0 : Nat × Nat × Nat
  big1 : Nat × Nat × Nat
  small0 : Nat × Nat × Nat
  small1 : Nat × Nat × Nat

def sha256Of : Sha 32 :=
  { k := shaK256, h := shaH256, big0 := (2, 13, 22), big1 := (6, 11, 25), small0 := (7, 18, 3), small1 := (17, 19, 10) }

def sha384Of : Sha 64 :=
  { k := shaK384, h := shaH384, big0 := (28, 34, 39), big1 := (14, 18, 41), small0 := (1, 8, 7), small1 := (19, 61, 6) }

/-- A sigma function of three rotations. -/
def shaBig {w : Nat} (r : Nat × Nat × Nat) (x : BitVec w) : BitVec w :=
  x.rotateRight r.1 ^^^ x.rotateRight r.2.1 ^^^ x.rotateRight r.2.2

/-- A sigma function of two rotations and a shift. -/
def shaSmall {w : Nat} (r : Nat × Nat × Nat) (x : BitVec w) : BitVec w :=
  x.rotateRight r.1 ^^^ x.rotateRight r.2.1 ^^^ (x >>> r.2.2)

/-- The message schedule, newest word first: `n` words more. -/
def shaSchedule {w : Nat} (p : Sha w) : Nat → List (BitVec w) → List (BitVec w)
  | 0, ws => ws
  | n + 1, ws =>
    shaSchedule p n ((shaSmall p.small1 (ws.getD 1 0) + ws.getD 6 0 + shaSmall p.small0 (ws.getD 14 0) + ws.getD 15 0) :: ws)

/-- One round on the eight working variables a to h. -/
def shaRound {w : Nat} (p : Sha w) (v : List (BitVec w)) (kw : BitVec w) : List (BitVec w) :=
  match v with
  | [a, b, c, d, e, f, g, h] =>
    let t1 := h + shaBig p.big1 e + ((e &&& f) ^^^ (~~~ e &&& g)) + kw
    let t2 := shaBig p.big0 a + ((a &&& b) ^^^ (a &&& c) ^^^ (b &&& c))
    [t1 + t2, a, b, c, d + t1, e, f, g]
  | _ => v

/-- A big-endian integer. -/
def beNat (bs : List Byte) : Nat := bs.foldl (fun a b => a * 256 + b.toNat) 0

/-- Words of a block, first word first. -/
def shaWords (w : Nat) (block : List Byte) : List (BitVec w) :=
  (List.range 16).map (fun i => BitVec.ofNat w (beNat ((block.drop (w / 8 * i)).take (w / 8))))

/-- One block of the digest. -/
def shaBlock {w : Nat} (p : Sha w) (hs : List (BitVec w)) (block : List Byte) : List (BitVec w) :=
  let ws := (shaSchedule p (p.k.length - 16) (shaWords w block).reverse).reverse
  List.zipWith (· + ·) hs ((List.zipWith (· + ·) p.k ws).foldl (shaRound p) hs)

/-- The blocks of a message one after another. -/
def shaBlocks {w : Nat} (p : Sha w) : Nat → List Byte → List (BitVec w) → List (BitVec w)
  | 0, _, hs => hs
  | n + 1, bs, hs => shaBlocks p n (bs.drop (2 * w)) (shaBlock p hs (bs.take (2 * w)))

/-- A message padded with one bit 1, zeros and its length in bits. -/
def shaPad (w : Nat) (bs : List Byte) : List Byte :=
  bs ++ [0x80] ++ padBytes ((2 * w - (bs.length + 1 + w / 4) % (2 * w)) % (2 * w)) 0 ++ beBytes (w / 4) (8 * bs.length)

/-- The hash words of a message. -/
def sha {w : Nat} (p : Sha w) (bs : List Byte) : List (BitVec w) :=
  let m := shaPad w bs
  shaBlocks p (m.length / (2 * w)) m p.h

/-- SHA-256, the fingerprint of R120, as a 256-bit number whose byte 0 is the most significant. -/
def sha256 (bs : List Byte) : Nat := (sha sha256Of bs).foldl (fun a x => a * 2 ^ 32 + x.toNat) 0

/-- SHA-384 as a number whose byte 0 is the most significant. -/
def sha384Nat (bs : List Byte) : Nat := ((sha sha384Of bs).take 6).foldl (fun a x => a * 2 ^ 64 + x.toNat) 0

/-- SHA-384 of a public key (Table 17.4 code 0x02), as twelve words, the most significant first. -/
def sha384 (bs : List Byte) : List Word :=
  (List.range 12).map (fun i => BitVec.ofNat 32 (sha384Nat bs / 2 ^ (32 * (11 - i))))

/-! ### AES-256 (FIPS 197) -/

/-- The substitution table, sixteen bytes a number, the first byte the most significant. -/
def aesSbox : List Nat :=
  [0x637C777BF26B6FC53001672BFED7AB76, 0xCA82C97DFA5947F0ADD4A2AF9CA472C0,
   0xB7FD9326363FF7CC34A5E5F171D83115, 0x04C723C31896059A071280E2EB27B275,
   0x09832C1A1B6E5AA0523BD6B329E32F84, 0x53D100ED20FCB15B6ACBBE394A4C58CF,
   0xD0EFAAFB434D338545F9027F503C9FA8, 0x51A3408F929D38F5BCB6DA2110FFF3D2,
   0xCD0C13EC5F974417C4A77E3D645D1973, 0x60814FDC222A908846EEB814DE5E0BDB,
   0xE0323A0A4906245CC2D3AC629195E479, 0xE7C8376D8DD54EA96C56F4EA657AAE08,
   0xBA78252E1CA6B4C6E8DD741F4BBD8B8A, 0x703EB5664803F60E613557B986C11D9E,
   0xE1F8981169D98E949B1E87E9CE5528DF, 0x8CA1890DBFE6426841992D0FB054BB16]

/-- The inverse table. -/
def aesInvSbox : List Nat :=
  [0x52096AD53036A538BF40A39E81F3D7FB, 0x7CE339829B2FFF87348E4344C4DEE9CB,
   0x547B9432A6C2233DEE4C950B42FAC34E, 0x082EA16628D924B2765BA2496D8BD125,
   0x72F8F66486689816D4A45CCC5D65B692, 0x6C704850FDEDB9DA5E154657A78D9D84,
   0x90D8AB008CBCD30AF7E45805B8B34506, 0xD02C1E8FCA3F0F02C1AFBD0301138A6B,
   0x3A9111414F67DCEA97F2CFCEF0B4E673, 0x96AC7422E7AD3585E2F937E81C75DF6E,
   0x47F11A711D29C5896FB7620EAA18BE1B, 0xFC563E4BC6D279209ADBC0FE78CD5AF4,
   0x1FDDA8338807C731B11210592780EC5F, 0x60517FA919B54A0D2DE57A9F93C99CEF,
   0xA0E03B4DAE2AF5B0C8EBBB3C83539961, 0x172B047EBA77D626E169146355210C7D]

/-- The byte a table gives for a byte. -/
def aesSub (table : List Nat) (b : Byte) : Byte :=
  BitVec.ofNat 8 (table.getD (b.toNat / 16) 0 / 2 ^ (8 * (15 - b.toNat % 16)))

/-- Multiply by x in GF(2⁸) with the polynomial 0x11B. -/
def aesX (a : Byte) : Byte := if 128 ≤ a.toNat then (a <<< 1) ^^^ 0x1B else a <<< 1

/-- The product in that field with a number below 16. -/
def aesMul (n : Nat) (a : Byte) : Byte :=
  (if n % 2 = 1 then a else 0) ^^^ (if n / 2 % 2 = 1 then aesX a else 0) ^^^ (if n / 4 % 2 = 1 then aesX (aesX a) else 0)
    ^^^ (if n / 8 % 2 = 1 then aesX (aesX (aesX a)) else 0)

def xorBytes (a b : List Byte) : List Byte := List.zipWith (· ^^^ ·) a b

/-- The key schedule, newest four-byte word first: `n` words more, `i` their number. -/
def aesExpand : Nat → Nat → Byte → List (List Byte) → List (List Byte)
  | 0, _, _, ws => ws
  | n + 1, i, rcon, ws =>
    let prev := ws.getD 0 []
    let t := if i % 8 = 0 then xorBytes (((prev.drop 1) ++ prev.take 1).map (aesSub aesSbox)) [rcon, 0, 0, 0]
      else if i % 8 = 4 then prev.map (aesSub aesSbox) else prev
    aesExpand n (i + 1) (if i % 8 = 0 then aesX rcon else rcon) (xorBytes t (ws.getD 7 []) :: ws)

/-- The fifteen round keys of a 32-byte key. -/
def aesKeys (key : List Byte) : List (List Byte) :=
  let first := (List.range 8).map (fun i => (List.range 4).map (fun j => key.getD (4 * i + j) 0))
  let ws := (aesExpand 52 8 1 first.reverse).reverse
  (List.range 15).map (fun r => ((ws.drop (4 * r)).take 4).flatten)

/-- ShiftRows, or its inverse with `d` 3: byte r of column c comes from column c + r, or c − r. -/
def aesShift (d : Nat) (s : List Byte) : List Byte :=
  (List.range 16).map (fun i => s.getD ((i / 4 + d * (i % 4)) % 4 * 4 + i % 4) 0)

/-- MixColumns with the coefficients of its first row. -/
def aesMix (cs : List Nat) (s : List Byte) : List Byte :=
  (List.range 16).map (fun i =>
    (List.range 4).foldl (fun a j => a ^^^ aesMul (cs.getD ((j + 4 - i % 4) % 4) 0) (s.getD (i / 4 * 4 + j) 0)) 0)

/-- Encrypt one block. -/
def aesEncrypt (key block : List Byte) : List Byte :=
  match aesKeys key with
  | [] => block
  | k0 :: ks =>
    let s := (ks.take 13).foldl (fun s k => xorBytes (aesMix [2, 3, 1, 1] (aesShift 1 (s.map (aesSub aesSbox)))) k) (xorBytes block k0)
    xorBytes (aesShift 1 (s.map (aesSub aesSbox))) ((ks.drop 13).headD [])

/-- Decrypt one block. -/
def aesDecrypt (key block : List Byte) : List Byte :=
  match (aesKeys key).reverse with
  | [] => block
  | k14 :: ks =>
    let s := (ks.take 13).foldl (fun s k => aesMix [14, 11, 13, 9] (xorBytes ((aesShift 3 s).map (aesSub aesInvSbox)) k)) (xorBytes block k14)
    xorBytes ((aesShift 3 s).map (aesSub aesInvSbox)) ((ks.drop 13).headD [])

/-! ### XTS (IEEE 1619) -/

/-- The tweak of the next block: times x in GF(2¹²⁸), little-endian. -/
def xtsNext (t : Nat) : Nat := (t * 2 % 2 ^ 128) ^^^ (if 2 ^ 127 ≤ t then 0x87 else 0)

/-- Blocks of a data unit one after another; a unit's length is a multiple of 16 (R325). -/
def xtsBlocks (f : List Byte → List Byte) : Nat → Nat → List Byte → List Byte
  | 0, _, _ => []
  | n + 1, t, bs => xorBytes (f (xorBytes (bs.take 16) (leBytes 16 t))) (leBytes 16 t) ++ xtsBlocks f n (xtsNext t) (bs.drop 16)

/-- XTS-AES-256 of one data unit under Key1, Key2 and a tweak (R85). -/
def xtsEncrypt (key1 key2 : List Byte) (tweak : Nat) (bs : List Byte) : List Byte :=
  xtsBlocks (aesEncrypt key1) (bs.length / 16) (leNat (aesEncrypt key2 (leBytes 16 tweak))) bs

/-- Its inverse. -/
def xtsDecrypt (key1 key2 : List Byte) (tweak : Nat) (bs : List Byte) : List Byte :=
  xtsBlocks (aesDecrypt key1) (bs.length / 16) (leNat (aesEncrypt key2 (leBytes 16 tweak))) bs

/-! ### GCM (SP 800-38D) -/

/-- The product in GF(2¹²⁸), over the bits of the first factor, the most significant first. -/
def ghashMul : Nat → Nat → Nat → Nat → Nat
  | 0, _, _, z => z
  | n + 1, x, v, z =>
    ghashMul n x ((v / 2) ^^^ (if v % 2 = 1 then 0xE1 * 2 ^ 120 else 0)) (if x / 2 ^ n % 2 = 1 then z ^^^ v else z)

/-- GHASH over `n` blocks. -/
def ghash (h : Nat) : Nat → List Byte → Nat → Nat
  | 0, _, y => y
  | n + 1, bs, y => ghash h n (bs.drop 16) (ghashMul 128 (y ^^^ beNat (bs.take 16)) h 0)

/-- Zero bytes to the next multiple of 16. -/
def padTo16 (bs : List Byte) : List Byte := bs ++ padBytes ((16 - bs.length % 16) % 16) 0

/-- Counter mode from counter `c` on, under a 96-bit IV. -/
def gcmStream (key : List Byte) (iv : Nat) : Nat → Nat → List Byte → List Byte
  | 0, _, _ => []
  | n + 1, c, bs =>
    xorBytes (bs.take 16) (aesEncrypt key (beBytes 16 (iv * 2 ^ 32 + c % 2 ^ 32))) ++ gcmStream key iv n (c + 1) (bs.drop 16)

/-- The ciphertext AES-256-GCM forms of a plaintext (R241). -/
def gcmCipher (key : List Byte) (iv : Nat) (plain : List Byte) : List Byte := gcmStream key iv (ceilDiv plain.length 16) 2 plain

/-- The tag AES-256-GCM forms for key, IV, additional data and plaintext (R241). -/
def gcmTag (key : List Byte) (iv : Nat) (aad plain : List Byte) : BitVec 128 :=
  let c := gcmCipher key iv plain
  let blocks := padTo16 aad ++ padTo16 c ++ beBytes 8 (8 * aad.length) ++ beBytes 8 (8 * c.length)
  let h := beNat (aesEncrypt key (padBytes 16 0))
  BitVec.ofNat 128 (ghash h (blocks.length / 16) blocks 0 ^^^ beNat (aesEncrypt key (beBytes 16 (iv * 2 ^ 32 + 1))))

/-! ### ECDSA on P-384 (FIPS 186-4) -/

/-- The field prime, the coefficient b, the base point and its order. -/
def p384P : Nat := 2 ^ 384 - 2 ^ 128 - 2 ^ 96 + 2 ^ 32 - 1
def p384B : Nat := 0xB3312FA7E23EE7E4988E056BE3F82D19181D9C6EFE8141120314088F5013875AC656398D8A2ED19D2A85C8EDD3EC2AEF
def p384G : Nat × Nat :=
  (0xAA87CA22BE8B05378EB1C71EF320AD746E1D3B628BA79B9859F741E082542A385502F25DBF55296C3A545E3872760AB7,
   0x3617DE4A96262C6F5D9E98BF9292DC29F8F41DBD289A147CE9DA3113B5F0B8C00A60B1CE1D7E819D7A431D7C90EA0E5F)
def p384N : Nat := 0xFFFFFFFFFFFFFFFFFFFFFFFFFFFFFFFFFFFFFFFFFFFFFFFFC7634D81F4372DDF581A0DB248B0A77AECEC196ACCC52973

/-- A power modulo m, over the low `n` bits of the exponent. -/
def powMod (m : Nat) : Nat → Nat → Nat → Nat → Nat
  | 0, _, _, r => r
  | n + 1, b, e, r => powMod m n (b * b % m) (e / 2) (if e % 2 = 1 then r * b % m else r)

/-- The inverse modulo a prime of 384 bits. -/
def invMod (m a : Nat) : Nat := powMod m 384 (a % m) (m - 2) 1

/-- The sum of two points; none is the point at infinity. -/
def p384Add : Option (Nat × Nat) → Option (Nat × Nat) → Option (Nat × Nat)
  | none, q => q
  | p, none => p
  | some (x1, y1), some (x2, y2) =>
    if x1 = x2 ∧ (y1 + y2) % p384P = 0 then none
    else
      let l := if x1 = x2 then (3 * x1 * x1 + (p384P - 3)) * invMod p384P (2 * y1) % p384P
        else (y2 + p384P - y1) * invMod p384P (x2 + p384P - x1) % p384P
      let x := (l * l + 2 * p384P - x1 - x2) % p384P
      some (x, (l * (x1 + p384P - x) + p384P - y1) % p384P)

/-- A multiple of a point, over the low `n` bits of the factor. -/
def p384Mul : Nat → Nat → Option (Nat × Nat) → Option (Nat × Nat) → Option (Nat × Nat)
  | 0, _, _, r => r
  | n + 1, k, p, r => p384Mul n (k / 2) (p384Add p p) (if k % 2 = 1 then p384Add r p else r)

/-- A public key point is on the curve. -/
def p384On (q : Nat × Nat) : Bool :=
  decide (q.1 < p384P ∧ q.2 < p384P ∧ q.2 * q.2 % p384P = (q.1 * q.1 * q.1 + (p384P - 3) * q.1 + p384B) % p384P)

/-- A signature (r, s) of a digest verifies under a public key. -/
def ecdsaOk (q : Nat × Nat) (digest r s : Nat) : Bool :=
  if r = 0 ∨ p384N ≤ r ∨ s = 0 ∨ p384N ≤ s ∨ p384On q = false then false
  else
    let w := invMod p384N s
    match p384Add (p384Mul 384 (digest * w % p384N) (some p384G) none) (p384Mul 384 (r * w % p384N) (some q) none) with
    | none => false
    | some (x, _) => decide (x % p384N = r)

/-- The signature of an image verifies (Tables 17.4 and 17.5): an uncompressed point at byte 16, r and s in the last 96 bytes, over
the SHA-384 digest of the bytes before them. -/
def signatureOk (image : List Byte) : Bool :=
  let n := image.length - 96
  let at_ := fun (o : Nat) => beNat ((image.drop o).take 48)
  (image.getD 16 0 == 0x04) && ecdsaOk (at_ 17, at_ 65) (sha384Nat (image.take n)) (at_ n) (at_ (n + 48))

end Sys2Proof.Machine
end

