-- ==== Sys2Proof/Machine/Layouts.lean ====
section
/-!
DEFINITION. Byte and bit layouts the spec fixes: the record (R84, R85), the map (R160, R161), the shared-grain entry (R127),
beacons and claims (R248, R260), event records (R378), Tally entries (R374), parameter entries (R349), packets (R221).
-/

namespace Sys2Proof.Machine

/-- The reference tag of a grain: bits [33:0] grain number, bits [47:34] volume (Table 4.1). -/
def refTag (vol grain : Nat) : BitVec 48 := BitVec.ofNat 48 (vol % 16384 * 2 ^ 34 + grain % 2 ^ 34)

/-- The key of a grain in the map. -/
def grainKey (vol grain : Nat) : Nat := vol * 2 ^ 34 + grain

/-- The check field formed from the plaintext of a grain (R78). -/
def checkOf (plain : List Byte) (vol grain : Nat) (wgen : BitVec 16) : Check :=
  { guard := crc64 plain, reftag := refTag vol grain, wgen := wgen }

/-- The check field as stored, 16 bytes little-endian. -/
def checkBytes (c : Check) : List Byte :=
  leBytes 8 c.guard.toNat ++ leBytes 6 c.reftag.toNat ++ leBytes 2 c.wgen.toNat

/-- Bytes 0 to 59 of a record header (Table 4.3). -/
def headerBody (r : Record) : List Byte :=
  leBytes 2 0xC7A1 ++ leBytes 1 r.kind
    ++ leBytes 1 (b2n r.comp + 2 * b2n r.sample + 4 * b2n r.close + 8 * b2n r.pi)
    ++ leBytes 2 r.plen ++ leBytes 2 (r.keyslot % 8192) ++ leBytes 8 r.seq ++ leBytes 8 r.atick
    ++ checkBytes r.check ++ leBytes 8 r.apptag.toNat ++ leBytes 4 r.geom.toNat
    ++ leBytes 4 r.sepoch.toNat ++ leBytes 4 r.aseqLo.toNat

/-- A record as it stands in the stream: the header with its HCRC, then the payload (R84). -/
def recordBytes (r : Record) : List Byte :=
  headerBody r ++ leBytes 4 (crc32c (headerBody r)).toNat ++ r.payload

/-- Bytes a record takes of the stream. -/
def recordLen (r : Record) : Nat := 64 + r.plen

/-- The XTS tweak of a record (R85): grain, volume and WGEN. -/
def xtsTweak (c : Check) : Nat := c.reftag.toNat + c.wgen.toNat * 2 ^ 48

/-- GEOM of a sample-mode record (Table 4.3). -/
def geomOf (w l : Nat) : Word := BitVec.ofNat 32 (w % 32 + l % 65536 * 256)

/-- A pad record that fills the rest of a strip exactly (R87, Table 4.4 type 0x05). -/
def padRecord (rest closeTick : Nat) : Record :=
  { kind := 5, comp := false, sample := false, close := true, pi := false, plen := rest - 64, keyslot := 0,
    seq := 0, atick := closeTick, check := ⟨0, 0, 0⟩, apptag := 0, geom := 0, sepoch := 0, aseqLo := 0,
    payload := padBytes (rest - 64) 0 }

/-- The KIND code of a map entry in RUN form (Table 7.8). -/
def runKind : Option MapEnt → Nat
  | none => 0
  | some e => if e.kind = 1 then 1 else if e.kind = 2 then 2 else if e.kind = 3 then 3 else 0

/-- The KIND code of a grain slot in FINE form (Table 7.9): a deallocated grain is unmapped. -/
def fineKind : Option MapEnt → Nat
  | none => 0
  | some e => if e.kind = 1 then 1 else if e.kind = 2 then 2 else if e.kind = 4 then 3 else 0

/-- Length of a grain's record inside a run (R160). -/
def runLen : Option MapEnt → Nat
  | none => 0
  | some e => 64 + e.plen

/-- Whether the four grains of a unit lie in one run: consecutive, in grain order, in one stream (R160). -/
def runsFrom (start : Option (Bool × Nat × Nat)) : List (Option MapEnt) → Bool
  | [] => true
  | none :: es => runsFrom start es
  | some e :: es =>
    e.kind != 4 &&
      match start with
      | none => runsFrom (some (e.mirror, e.band, e.offset + 64 + e.plen)) es
      | some (mi, b, o) =>
        decide (e.mirror = mi ∧ e.band = b ∧ e.offset = o) &&
          runsFrom (some (e.mirror, e.band, e.offset + 64 + e.plen)) es

/-- The first record of a unit. -/
def firstEnt : List (Option MapEnt) → Option MapEnt
  | [] => none
  | none :: es => firstEnt es
  | some e :: _ => some e

/-- The 96-bit coarse map entry of a unit (Table 7.8); `fine` is its overlay index where it is promoted. -/
def coarseEntry (es : List (Option MapEnt)) (fine : Option Nat) : BitVec 96 :=
  match fine with
  | some i => BitVec.ofNat 96 (2 + i % 2 ^ 32 * 2 ^ 32)
  | none =>
    match firstEnt es with
    | none => 0
    | some f =>
      let kinds := (es.zipIdx.map (fun (e, i) => runKind e * 4 ^ i)).sum
      let len := fun i => match es.getD i none with | some e => (e.plen / 16 - 1) % 1024 | none => 0
      BitVec.ofNat 96 (1 + kinds * 2 ^ 2 + f.band % 2 ^ 20 * 2 ^ 10 + f.offset / 16 % 2 ^ 28 * 2 ^ 30
        + len 0 * 2 ^ 58 + len 1 * 2 ^ 68 + len 2 * 2 ^ 78)

/-- A fine overlay grain slot (Table 7.9). The table puts a shared grain's index at [26:0] and KIND at [1:0], which overlap: here the index
lies behind KIND, at [28:2] (DESIGN CHOICE, log 60). -/
def fineSlot (e : Option MapEnt) : BitVec 64 :=
  match e with
  | none => 0
  | some m =>
    if m.kind = 4 then BitVec.ofNat 64 (3 + m.sgt % 2 ^ 27 * 4)
    else if fineKind e = 0 then 0
    else BitVec.ofNat 64 (fineKind e + m.band % 2 ^ 20 * 4 + m.offset / 16 % 2 ^ 28 * 2 ^ 22)

/-- A shared-grain entry as stored (Table 6.2). -/
def sgtBytes (g : Sgt) : List Byte :=
  leBytes 4 g.band ++ leBytes 4 g.offset ++ leBytes 6 g.reftag.toNat ++ leBytes 2 g.wgen.toNat
    ++ leBytes 8 g.guard.toNat ++ leBytes 4 g.refs ++ leBytes 2 (g.keyslot % 8192)
    ++ leBytes 2 (1 + 2 * b2n g.pending)

/-- Bytes 0 to 43 of a beacon (Table 11.1). -/
def beaconBody (b : Beacon) : List Byte :=
  leBytes 2 b.magic.toNat ++ [b.ver, b.hm] ++ leBytes 2 b.flags.toNat ++ leBytes 2 0
    ++ leBytes 8 b.pairId.toNat ++ leBytes 4 b.epoch.toNat ++ leBytes 4 b.bseq.toNat
    ++ leBytes 8 b.stick.toNat ++ leBytes 4 b.ackseq.toNat ++ leBytes 8 b.rtick.toNat

/-- Bytes 0 to 27 of a CLAIM or VERDICT (Table 11.2). -/
def claimBody (c : Claim) : List Byte :=
  leBytes 8 c.pairId.toNat ++ leBytes 4 c.epoch.toNat ++ [c.head, c.kind] ++ leBytes 2 0
    ++ leBytes 8 c.stick.toNat ++ leBytes 4 c.cseq.toNat

/-- Length of an event record with `n` data fields (R378): as short as its data allows. -/
def eventLen (n : Nat) : Nat := (24 + 8 * n + 4 + 31) / 32 * 32

/-- An event record's bytes (Table 18.4). -/
def eventBytes (e : EventRec) : List Byte :=
  let len := eventLen e.data.length
  let head := leBytes 2 len ++ leBytes 2 e.code ++ leBytes 1 (e.mode % 16 + 16 * b2n e.lost) ++ leBytes 3 0
    ++ leBytes 8 e.seq ++ leBytes 8 e.tick ++ (e.data.map (leBytes 8)).flatten
  let body := head ++ padBytes (len - 4 - head.length) 0
  body ++ leBytes 4 (crc32c body).toNat

/-- Number of counter indices (R370). -/
def tallyCount : Nat := 179856

/-- The 64-byte trailer of a Tally half, less its CRC (Table 18.2). -/
def tallyTrailerBody (gen at_ done : Nat) : List Byte :=
  leBytes 4 0x7A110001 ++ leBytes 4 tallyCount ++ leBytes 4 gen ++ leBytes 4 0
    ++ leBytes 8 at_ ++ leBytes 8 done ++ padBytes 28 0

/-- A Tally half: the entries, the trailer and its CRC (R374). -/
def tallyHalf (m : NMap Nat) (gen at_ done : Nat) : List Byte :=
  let entries := ((List.range tallyCount).map (fun i => leBytes 8 (NMap.getD m i 0))).flatten
  let body := entries ++ tallyTrailerBody gen at_ done
  body ++ leBytes 4 (crc32c body).toNat

/-- A 256-byte parameter entry (Table 16.6). -/
def paramEntry (kind key gen : Nat) (body : List Byte) : List Byte :=
  let b := body.take 240
  let front := leBytes 2 0xE1D6 ++ leBytes 1 kind ++ leBytes 1 key ++ leBytes 4 gen ++ leBytes 2 b.length
    ++ leBytes 2 0 ++ b ++ padBytes (240 - b.length) 0xFF
  front ++ leBytes 4 (crc32c front).toNat

/-- A parameter entry's TYPE, KEY, GEN and body, if its MAGIC, CRC and BLEN are right (R349). -/
def readParam (p : List Byte) : Option (Nat × Nat × Nat × List Byte) :=
  let blen := leNat ((p.drop 8).take 2)
  if leNat (p.take 2) = 0xE1D6 ∧ leNat ((p.drop 252).take 4) = (crc32c (p.take 252)).toNat ∧ blen ≤ 240 then
    some ((p.getD 2 0).toNat, (p.getD 3 0).toNat, leNat ((p.drop 4).take 4), (p.drop 12).take blen)
  else none

/-- The 32-byte Idmuvel header, big-endian (Table 10.2). -/
def packetHeader (p : Packet) : List Byte :=
  beBytes 1 (p.ver % 16 * 16 + p.opcode % 16)
    ++ beBytes 1 (b2n p.fence + 2 * b2n p.first + 4 * b2n p.last + 8 * b2n p.retx + 16 * b2n p.sealed
        + 32 * b2n p.kphase + 64 * b2n p.group)
    ++ beBytes 2 p.dsess ++ beBytes 2 p.queue ++ beBytes 2 p.len ++ beBytes 4 p.psn ++ beBytes 4 p.xid
    ++ beBytes 4 p.key ++ beBytes 8 p.offset ++ beBytes 4 p.aux

/-- A descriptor's 32 bytes read whole (Table 14.2). -/
def readDesc (p : List Byte) : Desc :=
  let d0 := leNat (p.take 4)
  let d1 := leNat ((p.drop 4).take 4)
  let src := leNat ((p.drop 8).take 8)
  let dst := leNat ((p.drop 16).take 8)
  let res := leNat ((p.drop 24).take 4)
  { own := d0 % 2 = 1, int := d0 / 2 % 2 = 1, stop := d0 / 4 % 2 = 1,
    bad := decide (d1 % 2 ^ 24 = 0 ∨ d0 / 8 ≠ 0 ∨ d1 / 2 ^ 24 ≠ 0 ∨ src / 2 ^ 48 ≠ 0 ∨ dst / 2 ^ 48 ≠ 0 ∨ res / 4 ≠ 0),
    len := d1 % 2 ^ 24, src := src % 2 ^ 48, dst := dst % 2 ^ 48 }

/-- The 32 bytes of a write-back: OWN clear, RESULT and CTICK set, the other bytes as read (R311). -/
def descWriteBack (p : List Byte) (result ctick : Nat) : List Byte :=
  leBytes 1 ((p.getD 0 0).toNat / 2 * 2) ++ (p.drop 1).take 23 ++ leBytes 4 result ++ leBytes 4 (ctick % 2 ^ 32)

end Sys2Proof.Machine
end

