-- ==== Sys2Proof/Machine/RegTable.lean ====
section
/-!
DEFINITION. The management register map: every register table of spec/ (Tables 1.7, 1.8, 2.9, 3.10, 5.6, 6.6, 7.11, 7.12,
8.6, 9.12, 10.10, 10.11, 11.9, 13.7, 13.8, 14.3, 14.4, 15.2, 16.8, 17.9, 18.7, 18.8, 19.5, 20.10), one row a register, with its
named fields; a bit no named field covers is reserved (R8).
-/

namespace Sys2Proof.Machine

/-- Access types (Table 0.6). -/
inductive Access where
  | ro | rw | wo | w1c | w1s | rc
  deriving DecidableEq, Repr

/-- In which modes a register may be written (R29, R52, R75, R137, R170, R191, R217, R244, R271, R306, R320, R335, R385, R398, R414). -/
inductive When where
  | any | bootBench | pairedSole | pairedSoleBench | bootBenchPairedSole | bench | keyCommand | live
  deriving DecidableEq, Repr

/-- A named field of a register. -/
structure FieldDesc where
  name : String
  hi : Nat
  lo : Nat
  acc : Access
  reset : Nat
  deriving DecidableEq, Repr

/-- A register row: name, address, number of copies, their spacing, when it is writable, whether each access path
keeps its own value (R11), and its fields. -/
structure RegDesc where
  name : String
  addr : Nat
  count : Nat
  stride : Nat
  when_ : When
  perPath : Bool
  fields : List FieldDesc
  deriving DecidableEq, Repr

/-! Register addresses (block base of Table 0.5 plus offset; the first of a replicated register). -/
abbrev Reg.CLKP_CTRL : Nat := 0x120000
abbrev Reg.CLKP_FCH_AWAKE0 : Nat := 0x120010
abbrev Reg.CLKP_CMP_AWAKE : Nat := 0x120020
abbrev Reg.CLKP_MISC_AWAKE : Nat := 0x120024
abbrev Reg.CLKP_WAKE_LATE : Nat := 0x120030
abbrev Reg.TBASE_NOW_LO : Nat := 0x10000
abbrev Reg.TBASE_NOW_HI : Nat := 0x10004
abbrev Reg.TBASE_STATE : Nat := 0x10008
abbrev Reg.TBASE_PPS_LO : Nat := 0x10010
abbrev Reg.TBASE_PPS_HI : Nat := 0x10014
abbrev Reg.GCTL_MODE : Nat := 0x10
abbrev Reg.GCTL_MODE_REQ : Nat := 0x14
abbrev Reg.GCTL_MODE_TICK_LO : Nat := 0x18
abbrev Reg.GCTL_MODE_TICK_HI : Nat := 0x1C
abbrev Reg.GCTL_ERR : Nat := 0x20
abbrev Reg.GCTL_RETIRE : Nat := 0x24
abbrev Reg.GCTL_OVERLOAD : Nat := 0x28
abbrev Reg.GCTL_WDOG : Nat := 0x2C
abbrev Reg.ADM_CTRL : Nat := 0x90000
abbrev Reg.ADM_CAP : Nat := 0x90004
abbrev Reg.ADM_FLASH : Nat := 0x90008
abbrev Reg.ADM_LOAD : Nat := 0x9000C
abbrev Reg.ADM_BURST : Nat := 0x90010
abbrev Reg.ADM_DMIN : Nat := 0x90014
abbrev Reg.ADM_PATH : Nat := 0x90018
abbrev Reg.ADM_RSEL : Nat := 0x90020
abbrev Reg.ADM_RINFO : Nat := 0x90024
abbrev Reg.ADM_RRATE : Nat := 0x90028
abbrev Reg.ADM_RBURST : Nat := 0x9002C
abbrev Reg.ADM_RDL : Nat := 0x90030
abbrev Reg.ADM_RUSE : Nat := 0x90034
abbrev Reg.ADM_HELD : Nat := 0x90038
abbrev Reg.ADM_SEQ_LO : Nat := 0x90040
abbrev Reg.ADM_SEQ_HI : Nat := 0x90044
abbrev Reg.ADM_STATUS : Nat := 0x90048
abbrev Reg.CMP_LANE_OK : Nat := 0xA0000
abbrev Reg.CMP_DLANE_OK : Nat := 0xA0004
abbrev Reg.CMP_STATUS : Nat := 0xA0008
abbrev Reg.CMP_FSEL : Nat := 0xA0010
abbrev Reg.CMP_FINFO : Nat := 0xA0014
abbrev Reg.CMP_FTICK_LO : Nat := 0xA0018
abbrev Reg.CMP_FTICK_HI : Nat := 0xA001C
abbrev Reg.CMP_PSEL : Nat := 0xA0020
abbrev Reg.CMP_POLICY : Nat := 0xA0024
abbrev Reg.DDUP_CTRL : Nat := 0x110000
abbrev Reg.DDUP_CLUSTER_OK : Nat := 0x110004
abbrev Reg.DDUP_STATUS : Nat := 0x110008
abbrev Reg.DDUP_PPQ : Nat := 0x11000C
abbrev Reg.DDUP_SGT_USED : Nat := 0x110010
abbrev Reg.DDUP_FILL : Nat := 0x110014
abbrev Reg.DDUP_PART0 : Nat := 0x110020
abbrev Reg.DDUP_PSEL : Nat := 0x110040
abbrev Reg.DDUP_POLICY : Nat := 0x110044
abbrev Reg.FCH_CSTAT0 : Nat := 0xB0000
abbrev Reg.FCH_CRATE0 : Nat := 0xB0004
abbrev Reg.FCH_CERR0 : Nat := 0xB0008
abbrev Reg.FCH_CFAULT0 : Nat := 0xB000C
abbrev Reg.FCH_DSEL0 : Nat := 0xB0010
abbrev Reg.FCH_DINFO0 : Nat := 0xB0014
abbrev Reg.FCH_DPE0 : Nat := 0xB0018
abbrev Reg.FCH_DFTICK_LO0 : Nat := 0xB001C
abbrev Reg.FCH_DFTICK_HI0 : Nat := 0xB0020
abbrev Reg.FCH_CTRL : Nat := 0xB0100
abbrev Reg.FCH_CKPT : Nat := 0xB0104
abbrev Reg.FCH_STATUS : Nat := 0xB0108
abbrev Reg.FCH_SPACE : Nat := 0xB010C
abbrev Reg.FCH_OVL : Nat := 0xB0110
abbrev Reg.FCH_HEALTH : Nat := 0xB0114
abbrev Reg.FCH_MAPUNITS : Nat := 0xB0118
abbrev Reg.FCH_TSEL : Nat := 0xB0120
abbrev Reg.FCH_TSEC_LO : Nat := 0xB0124
abbrev Reg.FCH_TSEC_HI : Nat := 0xB0128
abbrev Reg.FCH_CKPT_SEQ_LO : Nat := 0xB0130
abbrev Reg.FCH_CKPT_SEQ_HI : Nat := 0xB0134
abbrev Reg.STRP_SHAPE : Nat := 0xC0000
abbrev Reg.STRP_MEMBERS : Nat := 0xC0004
abbrev Reg.STRP_ORDER0 : Nat := 0xC0008
abbrev Reg.STRP_ORDER1 : Nat := 0xC000C
abbrev Reg.STRP_FAILED : Nat := 0xC0010
abbrev Reg.STRP_FLOOR : Nat := 0xC0014
abbrev Reg.STRP_CTRL : Nat := 0xC0018
abbrev Reg.STRP_RB : Nat := 0xC0020
abbrev Reg.STRP_RBLEFT_LO : Nat := 0xC0024
abbrev Reg.STRP_RBLEFT_HI : Nat := 0xC0028
abbrev Reg.STRP_RSH_MEM : Nat := 0xC0030
abbrev Reg.STRP_RSH_REQ : Nat := 0xC0034
abbrev Reg.STRP_RSH_CTRL : Nat := 0xC0038
abbrev Reg.STRP_RSH_STAT : Nat := 0xC003C
abbrev Reg.STRP_RSH_BOUND_LO : Nat := 0xC0040
abbrev Reg.STRP_RSH_BOUND_HI : Nat := 0xC0044
abbrev Reg.STRP_RSH_CKPT_LO : Nat := 0xC0048
abbrev Reg.STRP_RSH_CKPT_HI : Nat := 0xC004C
abbrev Reg.STRP_MODCMD : Nat := 0xC0060
abbrev Reg.STRP_MSEL : Nat := 0xC0064
abbrev Reg.STRP_MINFO : Nat := 0xC0068
abbrev Reg.STRP_MPART : Nat := 0xC006C
abbrev Reg.STRP_STATUS : Nat := 0xC0070
abbrev Reg.NVQ_CTRL : Nat := 0xE0000
abbrev Reg.NVQ_STATUS : Nat := 0xE0004
abbrev Reg.NVQ_COUNT : Nat := 0xE0008
abbrev Reg.NVQ_QSEL : Nat := 0xE0010
abbrev Reg.NVQ_QINFO : Nat := 0xE0014
abbrev Reg.NVQ_QDEPTH : Nat := 0xE0018
abbrev Reg.NVQ_QPTR : Nat := 0xE001C
abbrev Reg.NVQ_DST : Nat := 0xE0020
abbrev Reg.IDM_CTRL : Nat := 0xD0000
abbrev Reg.IDM_TIMERS : Nat := 0xD0004
abbrev Reg.IDM_PORT : Nat := 0xD0008
abbrev Reg.IDM_LINK : Nat := 0xD000C
abbrev Reg.IDM_COUNT : Nat := 0xD0010
abbrev Reg.IDM_REGIONS : Nat := 0xD0014
abbrev Reg.IDM_STATUS : Nat := 0xD0018
abbrev Reg.IDM_SSEL : Nat := 0xD0020
abbrev Reg.IDM_SINFO : Nat := 0xD0024
abbrev Reg.IDM_SNEXT : Nat := 0xD0028
abbrev Reg.IDM_SCUM : Nat := 0xD002C
abbrev Reg.IDM_SIDLE : Nat := 0xD0030
abbrev Reg.IDM_ODCTRL : Nat := 0xD0040
abbrev Reg.IDM_CHAIN : Nat := 0xD0044
abbrev Reg.ATPU_RSEL : Nat := 0x100000
abbrev Reg.ATPU_RINFO : Nat := 0x100004
abbrev Reg.ATPU_RLEN_LO : Nat := 0x100008
abbrev Reg.ATPU_RLEN_HI : Nat := 0x10000C
abbrev Reg.ATPU_ODUSED : Nat := 0x100010
abbrev Reg.ATPU_ODBUDGET : Nat := 0x100014
abbrev Reg.ATPU_FAULT : Nat := 0x100018
abbrev Reg.ATPU_STATUS : Nat := 0x10001C
abbrev Reg.MOOR_CTRL : Nat := 0x40000
abbrev Reg.MOOR_STATE : Nat := 0x40004
abbrev Reg.MOOR_LEASE_LO : Nat := 0x40008
abbrev Reg.MOOR_LEASE_HI : Nat := 0x4000C
abbrev Reg.MOOR_PLEASE_LO : Nat := 0x40010
abbrev Reg.MOOR_PLEASE_HI : Nat := 0x40014
abbrev Reg.MOOR_EPOCH : Nat := 0x40018
abbrev Reg.MOOR_VOTE : Nat := 0x4001C
abbrev Reg.MOOR_VDIS : Nat := 0x40020
abbrev Reg.MOOR_STATUS : Nat := 0x40024
abbrev Reg.MOOR_CMD : Nat := 0x40028
abbrev Reg.MOOR_DIRTY_LO : Nat := 0x40030
abbrev Reg.MOOR_DIRTY_HI : Nat := 0x40034
abbrev Reg.MOOR_RESYNC : Nat := 0x40038
abbrev Reg.MOOR_SKEW : Nat := 0x4003C
abbrev Reg.POOL_MEM : Nat := 0x70000
abbrev Reg.POOL_STATUS : Nat := 0x70004
abbrev Reg.POOL_SPARE : Nat := 0x70008
abbrev Reg.POOL_TOTAL0 : Nat := 0x70010
abbrev Reg.POOL_FREE0 : Nat := 0x70014
abbrev Reg.POOL_STK0 : Nat := 0x70040
abbrev Reg.POOL_REQOWN : Nat := 0x70060
abbrev Reg.POOL_REQ : Nat := 0x70064
abbrev Reg.POOL_GRANT_LO : Nat := 0x70068
abbrev Reg.POOL_GRANT_HI : Nat := 0x7006C
abbrev Reg.POOL_FREE_LO : Nat := 0x70070
abbrev Reg.POOL_FREE_HI : Nat := 0x70074
abbrev Reg.POOL_OSEL : Nat := 0x70080
abbrev Reg.POOL_OINFO : Nat := 0x70084
abbrev Reg.POOL_OUSE : Nat := 0x70088
abbrev Reg.POOL_OQUOTA : Nat := 0x7008C
abbrev Reg.POOL_OFLOOR : Nat := 0x70090
abbrev Reg.POOL_OAGE : Nat := 0x70094
abbrev Reg.ATPU_WSEL : Nat := 0x100100
abbrev Reg.ATPU_WCTRL : Nat := 0x100104
abbrev Reg.ATPU_WBASE_LO : Nat := 0x100108
abbrev Reg.ATPU_WBASE_HI : Nat := 0x10010C
abbrev Reg.ATPU_WLIM_LO : Nat := 0x100110
abbrev Reg.ATPU_WLIM_HI : Nat := 0x100114
abbrev Reg.ATPU_WTGT_LO : Nat := 0x100118
abbrev Reg.ATPU_WTGT_HI : Nat := 0x10011C
abbrev Reg.ATPU_MFAULT_LO : Nat := 0x100130
abbrev Reg.ATPU_MFAULT_HI : Nat := 0x100134
abbrev Reg.ATPU_MFINFO : Nat := 0x100138
abbrev Reg.ATPU_MSTATUS : Nat := 0x10013C
abbrev Reg.HDMA_GCTL : Nat := 0x60000
abbrev Reg.HDMA_GSTAT : Nat := 0x60004
abbrev Reg.HDMA_KICK : Nat := 0x60008
abbrev Reg.HDMA_DONE : Nat := 0x6000C
abbrev Reg.HDMA_ERR : Nat := 0x60010
abbrev Reg.HDMA_REQ_LO : Nat := 0x60020
abbrev Reg.HDMA_REQ_HI : Nat := 0x60024
abbrev Reg.HDMA_SWREQ : Nat := 0x60028
abbrev Reg.HDMA_HALTTICK_LO : Nat := 0x60030
abbrev Reg.HDMA_HALTTICK_HI : Nat := 0x60034
abbrev Reg.HDMA_CCTRL0 : Nat := 0x60100
abbrev Reg.HDMA_CRING0 : Nat := 0x60104
abbrev Reg.HDMA_CBASE_LO0 : Nat := 0x60108
abbrev Reg.HDMA_CBASE_HI0 : Nat := 0x6010C
abbrev Reg.HDMA_CHEAD0 : Nat := 0x60110
abbrev Reg.HDMA_CSTAT0 : Nat := 0x60114
abbrev Reg.CIPH_CTRL : Nat := 0x80000
abbrev Reg.CIPH_LOCK : Nat := 0x80004
abbrev Reg.CIPH_KSEL : Nat := 0x80008
abbrev Reg.CIPH_KCMD : Nat := 0x8000C
abbrev Reg.CIPH_KSTAT : Nat := 0x80010
abbrev Reg.CIPH_DEFSLOT : Nat := 0x80014
abbrev Reg.CIPH_KEY0 : Nat := 0x80020
abbrev Reg.CIPH_LIMSET_LO : Nat := 0x80060
abbrev Reg.CIPH_LIMSET_HI : Nat := 0x80064
abbrev Reg.CIPH_KINFO : Nat := 0x80070
abbrev Reg.CIPH_KCTR_LO : Nat := 0x80074
abbrev Reg.CIPH_KCTR_HI : Nat := 0x80078
abbrev Reg.CIPH_KLIM_LO : Nat := 0x8007C
abbrev Reg.CIPH_KLIM_HI : Nat := 0x80080
abbrev Reg.CIPH_PAIR_OK : Nat := 0x80090
abbrev Reg.CIPH_STATUS : Nat := 0x80094
abbrev Reg.CIPH_FSEL : Nat := 0x80098
abbrev Reg.CIPH_FINFO : Nat := 0x8009C
abbrev Reg.LDG_STATUS : Nat := 0x50000
abbrev Reg.LDG_MINRUN : Nat := 0x50004
abbrev Reg.LDG_WSTAT : Nat := 0x50008
abbrev Reg.LDG_BSTAT0 : Nat := 0x50010
abbrev Reg.LDG_EAGE0 : Nat := 0x50014
abbrev Reg.LDG_SUSPCNT0 : Nat := 0x50018
abbrev Reg.LDG_CSEL : Nat := 0x50040
abbrev Reg.LDG_CINFO : Nat := 0x50044
abbrev Reg.LDG_WORNCNT : Nat := 0x50048
abbrev Reg.GCTL_BOOT : Nat := 0x40
abbrev Reg.GCTL_BTICK_LO : Nat := 0x44
abbrev Reg.GCTL_BTICK_HI : Nat := 0x48
abbrev Reg.GCTL_RSTLOG : Nat := 0x4C
abbrev Reg.GCTL_RSTFALL_LO : Nat := 0x50
abbrev Reg.GCTL_RSTFALL_HI : Nat := 0x54
abbrev Reg.GCTL_RSTRISE_LO : Nat := 0x58
abbrev Reg.GCTL_RSTRISE_HI : Nat := 0x5C
abbrev Reg.GCTL_BUTTON : Nat := 0x60
abbrev Reg.GCTL_RELAY : Nat := 0x70
abbrev Reg.GCTL_BENCH_CTRL : Nat := 0x80
abbrev Reg.GCTL_BENCH_STAT : Nat := 0x84
abbrev Reg.GCTL_KEYFUSE : Nat := 0x90
abbrev Reg.GCTL_KEYHASH0 : Nat := 0xA0
abbrev Reg.TALLY_AT_LO : Nat := 0x20000
abbrev Reg.TALLY_AT_HI : Nat := 0x20004
abbrev Reg.TALLY_STATUS : Nat := 0x20008
abbrev Reg.TALLY_GEN : Nat := 0x2000C
abbrev Reg.TALLY_LTICK_LO : Nat := 0x20010
abbrev Reg.TALLY_LTICK_HI : Nat := 0x20014
abbrev Reg.TALLY_BUF_LO : Nat := 0x20018
abbrev Reg.TALLY_BUF_HI : Nat := 0x2001C
abbrev Reg.TALLY_LSEL : Nat := 0x20020
abbrev Reg.TALLY_LVAL_LO : Nat := 0x20024
abbrev Reg.TALLY_LVAL_HI : Nat := 0x20028
abbrev Reg.TALLY_COUNT : Nat := 0x2002C
abbrev Reg.RCDR_NEWEST_LO : Nat := 0x30000
abbrev Reg.RCDR_NEWEST_HI : Nat := 0x30004
abbrev Reg.RCDR_OLDEST_LO : Nat := 0x30008
abbrev Reg.RCDR_OLDEST_HI : Nat := 0x3000C
abbrev Reg.RCDR_UNFL : Nat := 0x30010
abbrev Reg.RCDR_STATUS : Nat := 0x30014
abbrev Reg.RCDR_RSEQ_LO : Nat := 0x30020
abbrev Reg.RCDR_RSEQ_HI : Nat := 0x30024
abbrev Reg.RCDR_RINFO : Nat := 0x30028
abbrev Reg.RCDR_CLRARM : Nat := 0x30040
abbrev Reg.RCDR_CLRNONCE : Nat := 0x30044
abbrev Reg.RCDR_CLRSEQ_LO : Nat := 0x30048
abbrev Reg.RCDR_CLRSEQ_HI : Nat := 0x3004C
abbrev Reg.RCDR_CLRGO : Nat := 0x30050
abbrev Reg.RCDR_RDATA0 : Nat := 0x30080
abbrev Reg.MSPI_STATUS : Nat := 0xF0000
abbrev Reg.MSPI_ERRADDR : Nat := 0xF0004
abbrev Reg.MSPI_ID : Nat := 0xF0008
abbrev Reg.MSPI_ALERTSRC : Nat := 0xF0010
abbrev Reg.MSPI_ALERTEN : Nat := 0xF0014
abbrev Reg.MSPI_BWCTL0 : Nat := 0xF0020
abbrev Reg.MSPI_BWSTAT0 : Nat := 0xF0024
abbrev Reg.GCTL_TEMP : Nat := 0xD0
abbrev Reg.GCTL_THROT : Nat := 0xD4
abbrev Reg.GCTL_RAIL : Nat := 0xD8

/-- The registers of block CLKP. -/
def regsClkp : List RegDesc := [
  ⟨"CLKP_CTRL", 0x120000, 1, 0x0, .bootBench, false, [⟨"IDLE_HOLD", 7, 0, .rw, 0x20⟩]⟩,
  ⟨"CLKP_FCH_AWAKE", 0x120010, 4, 0x4, .any, false, [⟨"AWAKE", 31, 0, .ro, 0x0⟩]⟩,
  ⟨"CLKP_CMP_AWAKE", 0x120020, 1, 0x0, .any, false, [⟨"AWAKE", 31, 0, .ro, 0x0⟩]⟩,
  ⟨"CLKP_MISC_AWAKE", 0x120024, 1, 0x0, .any, false, [⟨"CIPH", 5, 0, .ro, 0x0⟩, ⟨"DDUP", 15, 8, .ro, 0x0⟩, ⟨"XPORT", 19, 16, .ro, 0x0⟩]⟩,
  ⟨"CLKP_WAKE_LATE", 0x120030, 1, 0x0, .any, false, [⟨"FCH", 0, 0, .w1c, 0x0⟩, ⟨"CMP", 1, 1, .w1c, 0x0⟩, ⟨"CIPH", 2, 2, .w1c, 0x0⟩, ⟨"DDUP", 3, 3, .w1c, 0x0⟩]⟩]

/-- The registers of block TBASE. -/
def regsTbase : List RegDesc := [
  ⟨"TBASE_NOW_LO", 0x10000, 1, 0x0, .any, false, [⟨"TICK", 31, 0, .ro, 0x0⟩]⟩,
  ⟨"TBASE_NOW_HI", 0x10004, 1, 0x0, .any, false, [⟨"TICK", 31, 0, .ro, 0x0⟩]⟩,
  ⟨"TBASE_STATE", 0x10008, 1, 0x0, .any, false, [⟨"SLACKRES", 0, 0, .ro, 0x0⟩, ⟨"SYNC", 1, 1, .ro, 0x0⟩]⟩,
  ⟨"TBASE_PPS_LO", 0x10010, 1, 0x0, .any, false, [⟨"TICK", 31, 0, .ro, 0x0⟩]⟩,
  ⟨"TBASE_PPS_HI", 0x10014, 1, 0x0, .any, false, [⟨"TICK", 31, 0, .ro, 0x0⟩]⟩]

/-- The registers of block GCTL. -/
def regsGctl : List RegDesc := [
  ⟨"GCTL_MODE", 0x10, 1, 0x0, .any, false, [⟨"MODE", 3, 0, .ro, 0x0⟩, ⟨"PREV", 7, 4, .ro, 0x0⟩, ⟨"CAUSE", 15, 8, .ro, 0x0⟩]⟩,
  ⟨"GCTL_MODE_REQ", 0x14, 1, 0x0, .any, false, [⟨"TARGET", 3, 0, .wo, 0x0⟩]⟩,
  ⟨"GCTL_MODE_TICK_LO", 0x18, 1, 0x0, .any, false, [⟨"TICK", 31, 0, .ro, 0x0⟩]⟩,
  ⟨"GCTL_MODE_TICK_HI", 0x1C, 1, 0x0, .any, false, [⟨"TICK", 31, 0, .ro, 0x0⟩]⟩,
  ⟨"GCTL_ERR", 0x20, 1, 0x0, .any, false, [⟨"IGNORED", 0, 0, .w1c, 0x0⟩, ⟨"UNMAPPED", 1, 1, .w1c, 0x0⟩, ⟨"REQ_REFUSED", 2, 2, .w1c, 0x0⟩]⟩,
  ⟨"GCTL_RETIRE", 0x24, 1, 0x0, .bootBench, false, [⟨"THRESH", 3, 0, .rw, 0x3⟩]⟩,
  ⟨"GCTL_OVERLOAD", 0x28, 1, 0x0, .bootBench, false, [⟨"MISS_THRESH", 7, 0, .rw, 0x8⟩, ⟨"ACTIVE", 8, 8, .ro, 0x0⟩, ⟨"RESV_GRAINS", 28, 16, .rw, 0x12C0⟩]⟩,
  ⟨"GCTL_WDOG", 0x2C, 1, 0x0, .any, false, [⟨"KICK", 0, 0, .wo, 0x0⟩]⟩,
  ⟨"GCTL_BOOT", 0x40, 1, 0x0, .any, false, [⟨"SLOT", 0, 0, .ro, 0x0⟩, ⟨"FALLBACK", 1, 1, .ro, 0x0⟩, ⟨"TRIAL", 2, 2, .ro, 0x0⟩, ⟨"STAGE", 7, 4, .ro, 0x0⟩, ⟨"FAIL", 15, 8, .ro, 0x0⟩]⟩,
  ⟨"GCTL_BTICK_LO", 0x44, 1, 0x0, .any, false, [⟨"TICK", 31, 0, .ro, 0x0⟩]⟩,
  ⟨"GCTL_BTICK_HI", 0x48, 1, 0x0, .any, false, [⟨"TICK", 31, 0, .ro, 0x0⟩]⟩,
  ⟨"GCTL_RSTLOG", 0x4C, 1, 0x0, .any, false, [⟨"SOURCE", 2, 0, .ro, 0x0⟩]⟩,
  ⟨"GCTL_RSTFALL_LO", 0x50, 1, 0x0, .any, false, [⟨"TICK", 31, 0, .ro, 0x0⟩]⟩,
  ⟨"GCTL_RSTFALL_HI", 0x54, 1, 0x0, .any, false, [⟨"TICK", 31, 0, .ro, 0x0⟩]⟩,
  ⟨"GCTL_RSTRISE_LO", 0x58, 1, 0x0, .any, false, [⟨"TICK", 31, 0, .ro, 0x0⟩]⟩,
  ⟨"GCTL_RSTRISE_HI", 0x5C, 1, 0x0, .any, false, [⟨"TICK", 31, 0, .ro, 0x0⟩]⟩,
  ⟨"GCTL_BUTTON", 0x60, 1, 0x0, .any, false, [⟨"PRESSED", 0, 0, .ro, 0x0⟩, ⟨"FAILCLOSED", 1, 1, .ro, 0x0⟩, ⟨"IGNORED", 2, 2, .w1c, 0x0⟩, ⟨"LAST", 31, 16, .ro, 0x0⟩]⟩,
  ⟨"GCTL_RELAY", 0x70, 1, 0x0, .any, false, [⟨"COMMIT", 0, 0, .wo, 0x0⟩, ⟨"ABANDON", 1, 1, .wo, 0x0⟩, ⟨"ACTIVE", 2, 2, .ro, 0x0⟩, ⟨"ELAPSED", 31, 16, .ro, 0x0⟩]⟩,
  ⟨"GCTL_BENCH_CTRL", 0x80, 1, 0x0, .any, false, [⟨"TEST", 3, 0, .rw, 0x0⟩, ⟨"TARGET", 14, 8, .rw, 0x0⟩, ⟨"START", 16, 16, .wo, 0x0⟩]⟩,
  ⟨"GCTL_BENCH_STAT", 0x84, 1, 0x0, .any, false, [⟨"BUSY", 0, 0, .ro, 0x0⟩, ⟨"PASS", 1, 1, .ro, 0x0⟩, ⟨"FAIL", 2, 2, .ro, 0x0⟩, ⟨"ERRCNT", 31, 16, .ro, 0x0⟩]⟩,
  ⟨"GCTL_KEYFUSE", 0x90, 1, 0x0, .bench, false, [⟨"ENROLLED", 3, 0, .ro, 0x0⟩, ⟨"REVOKE", 7, 4, .w1s, 0x0⟩, ⟨"SLOT", 9, 8, .rw, 0x0⟩, ⟨"BURN", 10, 10, .wo, 0x0⟩]⟩,
  ⟨"GCTL_KEYHASH", 0xA0, 12, 0x4, .bench, false, [⟨"HASH", 31, 0, .wo, 0x0⟩]⟩,
  ⟨"GCTL_TEMP", 0xD0, 1, 0x0, .any, false, [⟨"NOW", 7, 0, .ro, 0x0⟩, ⟨"MAX", 15, 8, .ro, 0x80⟩, ⟨"SENSOR", 19, 16, .ro, 0x0⟩]⟩,
  ⟨"GCTL_THROT", 0xD4, 1, 0x0, .live, false, [⟨"THROT", 7, 0, .rw, 0x6E⟩, ⟨"HYST", 11, 8, .rw, 0x5⟩, ⟨"ACTIVE", 16, 16, .ro, 0x0⟩]⟩,
  ⟨"GCTL_RAIL", 0xD8, 1, 0x0, .any, false, [⟨"OUT", 8, 0, .w1c, 0x0⟩]⟩]

/-- The registers of block ADM. -/
def regsAdm : List RegDesc := [
  ⟨"ADM_CTRL", 0x90000, 1, 0x0, .bootBench, false, [⟨"FSLACK", 7, 0, .rw, 0x20⟩, ⟨"PULL", 15, 8, .rw, 0x8⟩, ⟨"BGCAP", 23, 16, .rw, 0x80⟩]⟩,
  ⟨"ADM_CAP", 0x90004, 1, 0x0, .any, false, [⟨"GRAINS", 15, 0, .ro, 0x0⟩, ⟨"LIMITER", 19, 16, .ro, 0x0⟩]⟩,
  ⟨"ADM_FLASH", 0x90008, 1, 0x0, .any, false, [⟨"PAGES", 15, 0, .ro, 0x0⟩, ⟨"COST", 31, 16, .ro, 0x0⟩]⟩,
  ⟨"ADM_LOAD", 0x9000C, 1, 0x0, .any, false, [⟨"HOME", 15, 0, .ro, 0x0⟩, ⟨"MIRROR", 31, 16, .ro, 0x0⟩]⟩,
  ⟨"ADM_BURST", 0x90010, 1, 0x0, .bootBench, false, [⟨"MAX", 15, 0, .rw, 0x800⟩, ⟨"SUM", 31, 16, .ro, 0x0⟩]⟩,
  ⟨"ADM_DMIN", 0x90014, 1, 0x0, .any, false, [⟨"PUSH", 12, 0, .ro, 0x0⟩, ⟨"PULLD", 28, 16, .ro, 0x0⟩]⟩,
  ⟨"ADM_PATH", 0x90018, 1, 0x0, .bootBench, false, [⟨"PEER_TICKS", 15, 0, .rw, 0x6A4⟩]⟩,
  ⟨"ADM_RSEL", 0x90020, 1, 0x0, .any, true, [⟨"INDEX", 8, 0, .rw, 0x0⟩]⟩,
  ⟨"ADM_RINFO", 0x90024, 1, 0x0, .any, false, [⟨"VALID", 0, 0, .ro, 0x0⟩, ⟨"PULLMODE", 1, 1, .ro, 0x0⟩, ⟨"CUT", 2, 2, .ro, 0x0⟩, ⟨"SQID", 31, 16, .ro, 0x0⟩]⟩,
  ⟨"ADM_RRATE", 0x90028, 1, 0x0, .any, false, [⟨"RATE", 13, 0, .ro, 0x0⟩]⟩,
  ⟨"ADM_RBURST", 0x9002C, 1, 0x0, .any, false, [⟨"BURST", 13, 0, .ro, 0x0⟩]⟩,
  ⟨"ADM_RDL", 0x90030, 1, 0x0, .any, false, [⟨"D", 12, 0, .ro, 0x0⟩]⟩,
  ⟨"ADM_RUSE", 0x90034, 1, 0x0, .any, false, [⟨"USED", 15, 0, .ro, 0x0⟩, ⟨"CREDIT", 31, 16, .ro, 0x0⟩]⟩,
  ⟨"ADM_HELD", 0x90038, 1, 0x0, .any, false, [⟨"COUNT", 15, 0, .ro, 0x0⟩]⟩,
  ⟨"ADM_SEQ_LO", 0x90040, 1, 0x0, .any, false, [⟨"SEQ", 31, 0, .ro, 0x0⟩]⟩,
  ⟨"ADM_SEQ_HI", 0x90044, 1, 0x0, .any, false, [⟨"SEQ", 31, 0, .ro, 0x0⟩]⟩,
  ⟨"ADM_STATUS", 0x90048, 1, 0x0, .any, false, [⟨"SOLECAP", 0, 0, .ro, 0x0⟩, ⟨"CUT", 1, 1, .w1c, 0x0⟩, ⟨"LATE", 2, 2, .w1c, 0x0⟩]⟩]

/-- The registers of block CMP. -/
def regsCmp : List RegDesc := [
  ⟨"CMP_LANE_OK", 0xA0000, 1, 0x0, .any, false, [⟨"OK", 31, 0, .ro, 0x0⟩]⟩,
  ⟨"CMP_DLANE_OK", 0xA0004, 1, 0x0, .any, false, [⟨"OK", 15, 0, .ro, 0x0⟩]⟩,
  ⟨"CMP_STATUS", 0xA0008, 1, 0x0, .any, false, [⟨"MISMATCH", 0, 0, .w1c, 0x0⟩, ⟨"DMISMATCH", 1, 1, .w1c, 0x0⟩, ⟨"EXPLIMIT", 2, 2, .w1c, 0x0⟩, ⟨"STREAMERR", 3, 3, .w1c, 0x0⟩, ⟨"RETIRED", 4, 4, .w1c, 0x0⟩]⟩,
  ⟨"CMP_FSEL", 0xA0010, 1, 0x0, .any, true, [⟨"LANE", 5, 0, .rw, 0x0⟩]⟩,
  ⟨"CMP_FINFO", 0xA0014, 1, 0x0, .any, false, [⟨"FAULTS", 3, 0, .ro, 0x0⟩, ⟨"RETIRED", 4, 4, .ro, 0x0⟩, ⟨"AWAKE", 5, 5, .ro, 0x0⟩]⟩,
  ⟨"CMP_FTICK_LO", 0xA0018, 1, 0x0, .any, false, [⟨"TICK", 31, 0, .ro, 0x0⟩]⟩,
  ⟨"CMP_FTICK_HI", 0xA001C, 1, 0x0, .any, false, [⟨"TICK", 31, 0, .ro, 0x0⟩]⟩,
  ⟨"CMP_PSEL", 0xA0020, 1, 0x0, .any, true, [⟨"VOLUME", 13, 0, .rw, 0x0⟩]⟩,
  ⟨"CMP_POLICY", 0xA0024, 1, 0x0, .any, false, [⟨"MODE", 1, 0, .ro, 0x0⟩, ⟨"W", 8, 4, .ro, 0x0⟩, ⟨"L", 31, 16, .ro, 0x0⟩]⟩]

/-- The registers of block DDUP. -/
def regsDdup : List RegDesc := [
  ⟨"DDUP_CTRL", 0x110000, 1, 0x0, .bootBench, false, [⟨"SGT_LOG2", 3, 0, .rw, 0x7⟩, ⟨"CACHE_LOG2", 11, 8, .rw, 0x5⟩]⟩,
  ⟨"DDUP_CLUSTER_OK", 0x110004, 1, 0x0, .any, false, [⟨"OK", 7, 0, .ro, 0x0⟩, ⟨"SUSPENDED", 8, 8, .ro, 0x0⟩]⟩,
  ⟨"DDUP_STATUS", 0x110008, 1, 0x0, .any, false, [⟨"MISMATCH", 0, 0, .w1c, 0x0⟩, ⟨"RETIRED", 1, 1, .w1c, 0x0⟩, ⟨"SGT_FULL", 2, 2, .w1c, 0x0⟩, ⟨"QDROP", 3, 3, .w1c, 0x0⟩]⟩,
  ⟨"DDUP_PPQ", 0x11000C, 1, 0x0, .any, false, [⟨"COUNT", 24, 0, .ro, 0x0⟩]⟩,
  ⟨"DDUP_SGT_USED", 0x110010, 1, 0x0, .any, false, [⟨"COUNT", 31, 0, .ro, 0x0⟩]⟩,
  ⟨"DDUP_FILL", 0x110014, 1, 0x0, .any, false, [⟨"FILL", 15, 0, .ro, 0x0⟩]⟩,
  ⟨"DDUP_PART", 0x110020, 8, 0x4, .any, false, [⟨"HELD", 31, 0, .ro, 0x0⟩]⟩,
  ⟨"DDUP_PSEL", 0x110040, 1, 0x0, .any, true, [⟨"VOLUME", 13, 0, .rw, 0x0⟩]⟩,
  ⟨"DDUP_POLICY", 0x110044, 1, 0x0, .any, false, [⟨"MODE", 1, 0, .ro, 0x0⟩, ⟨"SNAPS", 26, 16, .ro, 0x0⟩]⟩]

/-- The registers of block FCH. -/
def regsFch : List RegDesc := [
  ⟨"FCH_CSTAT", 0xB0000, 128, 0x200, .any, false, [⟨"STATE", 1, 0, .ro, 0x0⟩, ⟨"AWAKE", 2, 2, .ro, 0x0⟩, ⟨"MODEL", 11, 8, .ro, 0x0⟩, ⟨"DIE_OK", 31, 16, .ro, 0x0⟩]⟩,
  ⟨"FCH_CRATE", 0xB0004, 128, 0x200, .any, false, [⟨"RATE", 12, 0, .ro, 0x0⟩, ⟨"XFER", 31, 16, .ro, 0x0⟩]⟩,
  ⟨"FCH_CERR", 0xB0008, 128, 0x200, .any, false, [⟨"BUSTO", 0, 0, .w1c, 0x0⟩, ⟨"TRAIN", 1, 1, .w1c, 0x0⟩, ⟨"PROGFAIL", 2, 2, .w1c, 0x0⟩, ⟨"ERASEFAIL", 3, 3, .w1c, 0x0⟩, ⟨"STATUSTO", 4, 4, .w1c, 0x0⟩, ⟨"UNCORR", 5, 5, .w1c, 0x0⟩, ⟨"RETRY", 6, 6, .w1c, 0x0⟩, ⟨"DIERET", 7, 7, .w1c, 0x0⟩]⟩,
  ⟨"FCH_CFAULT", 0xB000C, 128, 0x200, .any, false, [⟨"FAULTS", 3, 0, .ro, 0x0⟩]⟩,
  ⟨"FCH_DSEL", 0xB0010, 128, 0x200, .any, true, [⟨"DIE", 3, 0, .rw, 0x0⟩]⟩,
  ⟨"FCH_DINFO", 0xB0014, 128, 0x200, .any, false, [⟨"STATE", 1, 0, .ro, 0x0⟩, ⟨"FAULTS", 7, 4, .ro, 0x0⟩, ⟨"WEAR", 15, 8, .ro, 0x0⟩, ⟨"BADBLK", 31, 16, .ro, 0x0⟩]⟩,
  ⟨"FCH_DPE", 0xB0018, 128, 0x200, .any, false, [⟨"DENSE", 15, 0, .ro, 0x0⟩, ⟨"SLC", 31, 16, .ro, 0x0⟩]⟩,
  ⟨"FCH_DFTICK_LO", 0xB001C, 128, 0x200, .any, false, [⟨"TICK", 31, 0, .ro, 0x0⟩]⟩,
  ⟨"FCH_DFTICK_HI", 0xB0020, 128, 0x200, .any, false, [⟨"TICK", 31, 0, .ro, 0x0⟩]⟩,
  ⟨"FCH_CTRL", 0xB0100, 1, 0x0, .bootBench, false, [⟨"REFRESH_STEP", 2, 0, .rw, 0x4⟩, ⟨"WL_SPREAD", 11, 4, .rw, 0x10⟩, ⟨"FLOOR", 23, 12, .rw, 0x40⟩, ⟨"DEMOTE", 31, 24, .rw, 0x3C⟩]⟩,
  ⟨"FCH_CKPT", 0xB0104, 1, 0x0, .bootBench, false, [⟨"PERIOD", 15, 0, .rw, 0x3E8⟩, ⟨"FULL_EVERY", 23, 16, .rw, 0x40⟩]⟩,
  ⟨"FCH_STATUS", 0xB0108, 1, 0x0, .any, false, [⟨"LOWSPACE", 0, 0, .w1c, 0x0⟩, ⟨"EXHAUSTED", 1, 1, .w1c, 0x0⟩, ⟨"OVLFULL", 2, 2, .w1c, 0x0⟩, ⟨"REFRESH", 3, 3, .w1c, 0x0⟩, ⟨"FALLBACK", 4, 4, .w1c, 0x0⟩, ⟨"SUSPLONG", 5, 5, .w1c, 0x0⟩]⟩,
  ⟨"FCH_SPACE", 0xB010C, 1, 0x0, .any, false, [⟨"MINFREE", 15, 0, .ro, 0x0⟩]⟩,
  ⟨"FCH_OVL", 0xB0110, 1, 0x0, .any, false, [⟨"USED", 27, 0, .ro, 0x0⟩]⟩,
  ⟨"FCH_HEALTH", 0xB0114, 1, 0x0, .any, false, [⟨"SPARE", 7, 0, .ro, 0x0⟩, ⟨"WEAR", 15, 8, .ro, 0x0⟩, ⟨"PATROL", 23, 16, .ro, 0x0⟩]⟩,
  ⟨"FCH_MAPUNITS", 0xB0118, 1, 0x0, .any, false, [⟨"UNITS", 31, 0, .ro, 0x0⟩]⟩,
  ⟨"FCH_TSEL", 0xB0120, 1, 0x0, .any, true, [⟨"SCOPE", 4, 0, .rw, 0x0⟩, ⟨"BUCKET", 11, 8, .rw, 0x0⟩]⟩,
  ⟨"FCH_TSEC_LO", 0xB0124, 1, 0x0, .any, false, [⟨"SEC", 31, 0, .ro, 0x0⟩]⟩,
  ⟨"FCH_TSEC_HI", 0xB0128, 1, 0x0, .any, false, [⟨"SEC", 15, 0, .ro, 0x0⟩, ⟨"OVF", 16, 16, .ro, 0x0⟩]⟩,
  ⟨"FCH_CKPT_SEQ_LO", 0xB0130, 1, 0x0, .any, false, [⟨"SEQ", 31, 0, .ro, 0x0⟩]⟩,
  ⟨"FCH_CKPT_SEQ_HI", 0xB0134, 1, 0x0, .any, false, [⟨"SEQ", 31, 0, .ro, 0x0⟩]⟩]

/-- The registers of block STRP. -/
def regsStrp : List RegDesc := [
  ⟨"STRP_SHAPE", 0xC0000, 1, 0x0, .any, false, [⟨"K", 3, 0, .ro, 0x0⟩, ⟨"M", 5, 4, .ro, 0x0⟩, ⟨"SPARES", 9, 8, .ro, 0x0⟩]⟩,
  ⟨"STRP_MEMBERS", 0xC0004, 1, 0x0, .any, false, [⟨"MASK", 15, 0, .ro, 0x0⟩, ⟨"SPAREMASK", 31, 16, .ro, 0x0⟩]⟩,
  ⟨"STRP_ORDER0", 0xC0008, 1, 0x0, .any, false, [⟨"PORTS", 31, 0, .ro, 0x0⟩]⟩,
  ⟨"STRP_ORDER1", 0xC000C, 1, 0x0, .any, false, [⟨"PORTS", 31, 0, .ro, 0x0⟩]⟩,
  ⟨"STRP_FAILED", 0xC0010, 1, 0x0, .any, false, [⟨"FAILED", 15, 0, .ro, 0x0⟩, ⟨"PARTIAL", 31, 16, .ro, 0x0⟩]⟩,
  ⟨"STRP_FLOOR", 0xC0014, 1, 0x0, .bootBenchPairedSole, false, [⟨"RBFLOOR", 8, 0, .rw, 0x0⟩, ⟨"RSHFLOOR", 24, 16, .rw, 0x0⟩]⟩,
  ⟨"STRP_CTRL", 0xC0018, 1, 0x0, .bootBench, false, [⟨"AUTOREPLACE", 0, 0, .rw, 0x1⟩]⟩,
  ⟨"STRP_RB", 0xC0020, 1, 0x0, .any, false, [⟨"ACTIVE", 0, 0, .ro, 0x0⟩, ⟨"TARGET", 7, 4, .ro, 0x0⟩, ⟨"DONE", 15, 8, .ro, 0x0⟩]⟩,
  ⟨"STRP_RBLEFT_LO", 0xC0024, 1, 0x0, .any, false, [⟨"STRIPS", 31, 0, .ro, 0x0⟩]⟩,
  ⟨"STRP_RBLEFT_HI", 0xC0028, 1, 0x0, .any, false, [⟨"STRIPS", 31, 0, .ro, 0x0⟩]⟩,
  ⟨"STRP_RSH_MEM", 0xC0030, 1, 0x0, .pairedSole, false, [⟨"MASK", 15, 0, .rw, 0x0⟩]⟩,
  ⟨"STRP_RSH_REQ", 0xC0034, 1, 0x0, .pairedSole, false, [⟨"K", 3, 0, .wo, 0x0⟩, ⟨"M", 5, 4, .wo, 0x0⟩]⟩,
  ⟨"STRP_RSH_CTRL", 0xC0038, 1, 0x0, .pairedSole, false, [⟨"PAUSE", 0, 0, .rw, 0x0⟩]⟩,
  ⟨"STRP_RSH_STAT", 0xC003C, 1, 0x0, .any, false, [⟨"ACTIVE", 0, 0, .ro, 0x0⟩, ⟨"PAUSED", 1, 1, .ro, 0x0⟩, ⟨"REFUSE", 15, 8, .ro, 0x0⟩, ⟨"OLDK", 19, 16, .ro, 0x0⟩, ⟨"OLDM", 21, 20, .ro, 0x0⟩]⟩,
  ⟨"STRP_RSH_BOUND_LO", 0xC0040, 1, 0x0, .any, false, [⟨"B", 31, 0, .ro, 0x0⟩]⟩,
  ⟨"STRP_RSH_BOUND_HI", 0xC0044, 1, 0x0, .any, false, [⟨"B", 31, 0, .ro, 0x0⟩]⟩,
  ⟨"STRP_RSH_CKPT_LO", 0xC0048, 1, 0x0, .any, false, [⟨"B", 31, 0, .ro, 0x0⟩]⟩,
  ⟨"STRP_RSH_CKPT_HI", 0xC004C, 1, 0x0, .any, false, [⟨"B", 31, 0, .ro, 0x0⟩]⟩,
  ⟨"STRP_MODCMD", 0xC0060, 1, 0x0, .pairedSoleBench, false, [⟨"PORT", 3, 0, .wo, 0x0⟩, ⟨"OP", 5, 4, .wo, 0x0⟩]⟩,
  ⟨"STRP_MSEL", 0xC0064, 1, 0x0, .any, true, [⟨"PORT", 3, 0, .rw, 0x0⟩]⟩,
  ⟨"STRP_MINFO", 0xC0068, 1, 0x0, .any, false, [⟨"STATE", 2, 0, .ro, 0x0⟩, ⟨"PRESENT", 3, 3, .ro, 0x0⟩, ⟨"POWERED", 4, 4, .ro, 0x0⟩, ⟨"LED", 6, 5, .ro, 0x0⟩, ⟨"CHOK", 15, 8, .ro, 0x0⟩, ⟨"MODEL", 19, 16, .ro, 0x0⟩, ⟨"INDEX", 23, 20, .ro, 0xF⟩]⟩,
  ⟨"STRP_MPART", 0xC006C, 1, 0x0, .any, false, [⟨"PART", 31, 0, .ro, 0x0⟩]⟩,
  ⟨"STRP_STATUS", 0xC0070, 1, 0x0, .any, false, [⟨"MEMBERFAIL", 0, 0, .w1c, 0x0⟩, ⟨"SPARETAKEN", 1, 1, .w1c, 0x0⟩, ⟨"RBDONE", 2, 2, .w1c, 0x0⟩, ⟨"BEYOND", 3, 3, .w1c, 0x0⟩, ⟨"RSHDONE", 4, 4, .w1c, 0x0⟩, ⟨"FLOORREF", 5, 5, .w1c, 0x0⟩, ⟨"CMDREF", 6, 6, .w1c, 0x0⟩, ⟨"MODCHG", 7, 7, .w1c, 0x0⟩]⟩]

/-- The registers of block NVQ. -/
def regsNvq : List RegDesc := [
  ⟨"NVQ_CTRL", 0xE0000, 1, 0x0, .bootBench, false, [⟨"MAXQ", 13, 0, .rw, 0x3FFF⟩, ⟨"FETCHB", 19, 16, .rw, 0x4⟩]⟩,
  ⟨"NVQ_STATUS", 0xE0004, 1, 0x0, .any, false, [⟨"DBINVALID", 0, 0, .w1c, 0x0⟩, ⟨"CQFULL", 1, 1, .w1c, 0x0⟩, ⟨"ORPHAN", 2, 2, .w1c, 0x0⟩, ⟨"ABORTED", 3, 3, .w1c, 0x0⟩]⟩,
  ⟨"NVQ_COUNT", 0xE0008, 1, 0x0, .any, false, [⟨"QUEUES", 13, 0, .ro, 0x0⟩, ⟨"CTRLS", 28, 16, .ro, 0x0⟩]⟩,
  ⟨"NVQ_QSEL", 0xE0010, 1, 0x0, .any, true, [⟨"DQN", 13, 0, .rw, 0x0⟩]⟩,
  ⟨"NVQ_QINFO", 0xE0014, 1, 0x0, .any, false, [⟨"VALID", 0, 0, .ro, 0x0⟩, ⟨"BOUND", 1, 1, .ro, 0x0⟩, ⟨"STALLED", 2, 2, .ro, 0x0⟩, ⟨"PUSHREG", 3, 3, .ro, 0x0⟩, ⟨"CNTLID", 28, 16, .ro, 0x0⟩]⟩,
  ⟨"NVQ_QDEPTH", 0xE0018, 1, 0x0, .any, false, [⟨"SIZE", 15, 0, .ro, 0x0⟩, ⟨"OUTSTANDING", 31, 16, .ro, 0x0⟩]⟩,
  ⟨"NVQ_QPTR", 0xE001C, 1, 0x0, .any, false, [⟨"SQHEAD", 15, 0, .ro, 0x0⟩, ⟨"CQTAIL", 31, 16, .ro, 0x0⟩]⟩,
  ⟨"NVQ_DST", 0xE0020, 1, 0x0, .any, false, [⟨"OP", 3, 0, .ro, 0x0⟩, ⟨"PERCENT", 14, 8, .ro, 0x0⟩]⟩]

/-- The registers of block IDM. -/
def regsIdm : List RegDesc := [
  ⟨"IDM_CTRL", 0xD0000, 1, 0x0, .bootBench, false, [⟨"ODMODE", 0, 0, .rw, 0x0⟩, ⟨"REQGCM", 1, 1, .rw, 0x0⟩, ⟨"FEMODE", 3, 2, .rw, 0x2⟩]⟩,
  ⟨"IDM_TIMERS", 0xD0004, 1, 0x0, .bootBench, false, [⟨"TIMEOUT", 9, 0, .rw, 0x64⟩, ⟨"RTO", 31, 16, .rw, 0x1F4⟩]⟩,
  ⟨"IDM_PORT", 0xD0008, 1, 0x0, .any, false, [⟨"UDP", 15, 0, .ro, 0xB818⟩]⟩,
  ⟨"IDM_LINK", 0xD000C, 1, 0x0, .any, false, [⟨"FELANE", 15, 0, .ro, 0x0⟩, ⟨"DXLANE", 23, 16, .ro, 0x0⟩]⟩,
  ⟨"IDM_COUNT", 0xD0010, 1, 0x0, .any, false, [⟨"SESSIONS", 12, 0, .ro, 0x0⟩, ⟨"QUEUES", 30, 16, .ro, 0x0⟩]⟩,
  ⟨"IDM_REGIONS", 0xD0014, 1, 0x0, .any, false, [⟨"COUNT", 20, 0, .ro, 0x0⟩]⟩,
  ⟨"IDM_STATUS", 0xD0018, 1, 0x0, .any, false, [⟨"KEYERR", 0, 0, .w1c, 0x0⟩, ⟨"BOUNDS", 1, 1, .w1c, 0x0⟩, ⟨"RIGHTS", 2, 2, .w1c, 0x0⟩, ⟨"RETRYLATER", 3, 3, .w1c, 0x0⟩, ⟨"AUTHFAIL", 4, 4, .w1c, 0x0⟩, ⟨"TIMEOUT", 5, 5, .w1c, 0x0⟩, ⟨"PARTIAL", 6, 6, .w1c, 0x0⟩, ⟨"CHAIN", 7, 7, .w1c, 0x0⟩, ⟨"BADHDR", 8, 8, .w1c, 0x0⟩]⟩,
  ⟨"IDM_SSEL", 0xD0020, 1, 0x0, .any, true, [⟨"SESSION", 11, 0, .rw, 0x0⟩]⟩,
  ⟨"IDM_SINFO", 0xD0024, 1, 0x0, .any, false, [⟨"STATE", 1, 0, .ro, 0x0⟩, ⟨"SEALED", 2, 2, .ro, 0x0⟩, ⟨"CTRL", 3, 3, .ro, 0x0⟩, ⟨"PURPOSE", 6, 4, .ro, 0x0⟩, ⟨"WLOG2", 12, 8, .ro, 0x0⟩, ⟨"PORT", 23, 16, .ro, 0x0⟩]⟩,
  ⟨"IDM_SNEXT", 0xD0028, 1, 0x0, .any, false, [⟨"PSN", 31, 0, .ro, 0x0⟩]⟩,
  ⟨"IDM_SCUM", 0xD002C, 1, 0x0, .any, false, [⟨"PSN", 31, 0, .ro, 0x0⟩]⟩,
  ⟨"IDM_SIDLE", 0xD0030, 1, 0x0, .any, false, [⟨"US", 31, 0, .ro, 0x0⟩]⟩,
  ⟨"IDM_ODCTRL", 0xD0040, 1, 0x0, .bootBench, false, [⟨"BACKOFF", 7, 0, .rw, 0x14⟩]⟩,
  ⟨"IDM_CHAIN", 0xD0044, 1, 0x0, .bootBench, false, [⟨"TIMEOUT", 15, 0, .rw, 0x64⟩]⟩]

/-- The registers of block ATPU. -/
def regsAtpu : List RegDesc := [
  ⟨"ATPU_RSEL", 0x100000, 1, 0x0, .any, true, [⟨"INDEX", 20, 0, .rw, 0x0⟩]⟩,
  ⟨"ATPU_RINFO", 0x100004, 1, 0x0, .any, false, [⟨"VALID", 0, 0, .ro, 0x0⟩, ⟨"RD", 1, 1, .ro, 0x0⟩, ⟨"WR", 2, 2, .ro, 0x0⟩, ⟨"NT", 3, 3, .ro, 0x0⟩, ⟨"ONDEMAND", 4, 4, .ro, 0x0⟩, ⟨"GEN", 15, 8, .ro, 0x0⟩, ⟨"SESSION", 27, 16, .ro, 0x0⟩]⟩,
  ⟨"ATPU_RLEN_LO", 0x100008, 1, 0x0, .any, false, [⟨"LEN", 31, 0, .ro, 0x0⟩]⟩,
  ⟨"ATPU_RLEN_HI", 0x10000C, 1, 0x0, .any, false, [⟨"LEN", 31, 0, .ro, 0x0⟩]⟩,
  ⟨"ATPU_ODUSED", 0x100010, 1, 0x0, .any, false, [⟨"UNITS", 23, 0, .ro, 0x0⟩]⟩,
  ⟨"ATPU_ODBUDGET", 0x100014, 1, 0x0, .any, false, [⟨"UNITS", 23, 0, .ro, 0x0⟩]⟩,
  ⟨"ATPU_FAULT", 0x100018, 1, 0x0, .any, false, [⟨"INDEX", 20, 0, .ro, 0x0⟩, ⟨"CODE", 27, 24, .ro, 0x0⟩]⟩,
  ⟨"ATPU_STATUS", 0x10001C, 1, 0x0, .any, false, [⟨"ODFULL", 0, 0, .w1c, 0x0⟩]⟩,
  ⟨"ATPU_WSEL", 0x100100, 1, 0x0, .live, true, [⟨"WINDOW", 5, 0, .rw, 0x0⟩]⟩,
  ⟨"ATPU_WCTRL", 0x100104, 1, 0x0, .live, false, [⟨"EN", 0, 0, .rw, 0x0⟩, ⟨"RD", 1, 1, .rw, 0x0⟩, ⟨"WR", 2, 2, .rw, 0x0⟩]⟩,
  ⟨"ATPU_WBASE_LO", 0x100108, 1, 0x0, .live, false, [⟨"A", 31, 12, .rw, 0x0⟩]⟩,
  ⟨"ATPU_WBASE_HI", 0x10010C, 1, 0x0, .live, false, [⟨"A", 15, 0, .rw, 0x0⟩]⟩,
  ⟨"ATPU_WLIM_LO", 0x100110, 1, 0x0, .live, false, [⟨"A", 31, 12, .rw, 0x0⟩]⟩,
  ⟨"ATPU_WLIM_HI", 0x100114, 1, 0x0, .live, false, [⟨"A", 15, 0, .rw, 0x0⟩]⟩,
  ⟨"ATPU_WTGT_LO", 0x100118, 1, 0x0, .live, false, [⟨"A", 31, 12, .rw, 0x0⟩]⟩,
  ⟨"ATPU_WTGT_HI", 0x10011C, 1, 0x0, .live, false, [⟨"A", 7, 0, .rw, 0x0⟩]⟩,
  ⟨"ATPU_MFAULT_LO", 0x100130, 1, 0x0, .any, false, [⟨"A", 31, 0, .ro, 0x0⟩]⟩,
  ⟨"ATPU_MFAULT_HI", 0x100134, 1, 0x0, .any, false, [⟨"A", 15, 0, .ro, 0x0⟩]⟩,
  ⟨"ATPU_MFINFO", 0x100138, 1, 0x0, .any, false, [⟨"CHANNEL", 4, 0, .ro, 0x0⟩, ⟨"WRITE", 5, 5, .ro, 0x0⟩, ⟨"KIND", 7, 6, .ro, 0x0⟩]⟩,
  ⟨"ATPU_MSTATUS", 0x10013C, 1, 0x0, .any, false, [⟨"TFAULT", 0, 0, .w1c, 0x0⟩]⟩]

/-- The registers of block MOOR. -/
def regsMoor : List RegDesc := [
  ⟨"MOOR_CTRL", 0x40000, 1, 0x0, .bootBench, false, [⟨"PERIOD", 9, 0, .rw, 0x64⟩, ⟨"LEASE", 18, 10, .rw, 0x32⟩, ⟨"MISS", 21, 19, .rw, 0x3⟩, ⟨"PREFERRED", 22, 22, .rw, 0x0⟩, ⟨"WITNESS", 23, 23, .rw, 0x0⟩, ⟨"SOLEJOIN", 24, 24, .rw, 0x0⟩]⟩,
  ⟨"MOOR_STATE", 0x40004, 1, 0x0, .any, false, [⟨"DXALIVE", 0, 0, .ro, 0x0⟩, ⟨"BPALIVE", 1, 1, .ro, 0x0⟩, ⟨"WHELD", 2, 2, .ro, 0x0⟩, ⟨"SYNC", 3, 3, .ro, 0x0⟩, ⟨"PMODE", 7, 4, .ro, 0x0⟩, ⟨"HEAD", 8, 8, .ro, 0x0⟩]⟩,
  ⟨"MOOR_LEASE_LO", 0x40008, 1, 0x0, .any, false, [⟨"E", 31, 0, .ro, 0x0⟩]⟩,
  ⟨"MOOR_LEASE_HI", 0x4000C, 1, 0x0, .any, false, [⟨"E", 31, 0, .ro, 0x0⟩]⟩,
  ⟨"MOOR_PLEASE_LO", 0x40010, 1, 0x0, .any, false, [⟨"E", 31, 0, .ro, 0x0⟩]⟩,
  ⟨"MOOR_PLEASE_HI", 0x40014, 1, 0x0, .any, false, [⟨"E", 31, 0, .ro, 0x0⟩]⟩,
  ⟨"MOOR_EPOCH", 0x40018, 1, 0x0, .any, false, [⟨"EPOCH", 31, 0, .ro, 0x0⟩]⟩,
  ⟨"MOOR_VOTE", 0x4001C, 1, 0x0, .any, false, [⟨"OK", 2, 0, .ro, 0x0⟩, ⟨"FENCEV", 5, 3, .ro, 0x0⟩, ⟨"LOSTV", 8, 6, .ro, 0x0⟩, ⟨"TWOOFTWO", 9, 9, .ro, 0x0⟩]⟩,
  ⟨"MOOR_VDIS", 0x40020, 1, 0x0, .any, false, [⟨"COUNT", 23, 0, .ro, 0x0⟩]⟩,
  ⟨"MOOR_STATUS", 0x40024, 1, 0x0, .any, false, [⟨"PATHLOST", 0, 0, .w1c, 0x0⟩, ⟨"BOTHLOST", 1, 1, .w1c, 0x0⟩, ⟨"FENCED", 2, 2, .w1c, 0x0⟩, ⟨"TAKEOVER", 3, 3, .w1c, 0x0⟩, ⟨"WREFUSED", 4, 4, .w1c, 0x0⟩, ⟨"CHECKFAIL", 5, 5, .w1c, 0x0⟩]⟩,
  ⟨"MOOR_CMD", 0x40028, 1, 0x0, .any, false, [⟨"YIELD", 0, 0, .wo, 0x0⟩, ⟨"WAKE", 1, 1, .wo, 0x0⟩]⟩,
  ⟨"MOOR_DIRTY_LO", 0x40030, 1, 0x0, .any, false, [⟨"UNITS", 31, 0, .ro, 0x0⟩]⟩,
  ⟨"MOOR_DIRTY_HI", 0x40034, 1, 0x0, .any, false, [⟨"UNITS", 31, 0, .ro, 0x0⟩]⟩,
  ⟨"MOOR_RESYNC", 0x40038, 1, 0x0, .bootBench, false, [⟨"FINAL", 23, 0, .rw, 0x10000⟩]⟩,
  ⟨"MOOR_SKEW", 0x4003C, 1, 0x0, .any, false, [⟨"SKEW", 15, 0, .ro, 0x0⟩]⟩]

/-- The registers of block POOL. -/
def regsPool : List RegDesc := [
  ⟨"POOL_MEM", 0x70000, 1, 0x0, .bootBench, false, [⟨"READY", 0, 0, .ro, 0x0⟩, ⟨"SRAMDONE", 1, 1, .ro, 0x0⟩, ⟨"HBMDONE", 2, 2, .ro, 0x0⟩, ⟨"SCRUBH", 15, 8, .rw, 0x18⟩]⟩,
  ⟨"POOL_STATUS", 0x70004, 1, 0x0, .any, false, [⟨"EMPTY", 0, 0, .w1c, 0x0⟩, ⟨"QUOTA", 1, 1, .w1c, 0x0⟩, ⟨"CANARY", 2, 2, .w1c, 0x0⟩, ⟨"BADFREE", 3, 3, .w1c, 0x0⟩, ⟨"AGED", 4, 4, .w1c, 0x0⟩, ⟨"CE", 5, 5, .w1c, 0x0⟩, ⟨"UE", 6, 6, .w1c, 0x0⟩, ⟨"PAGERET", 7, 7, .w1c, 0x0⟩, ⟨"SPAREOUT", 8, 8, .w1c, 0x0⟩]⟩,
  ⟨"POOL_SPARE", 0x70008, 1, 0x0, .any, false, [⟨"FREE", 15, 0, .ro, 0x0⟩, ⟨"RETIRED", 31, 16, .ro, 0x0⟩]⟩,
  ⟨"POOL_TOTAL", 0x70010, 5, 0x8, .any, false, [⟨"COUNT", 23, 0, .ro, 0x0⟩]⟩,
  ⟨"POOL_FREE", 0x70014, 5, 0x8, .any, false, [⟨"FREE", 23, 0, .ro, 0x0⟩]⟩,
  ⟨"POOL_STK", 0x70040, 5, 0x4, .any, false, [⟨"DEPTH", 13, 0, .ro, 0x0⟩, ⟨"MOVING", 19, 16, .ro, 0x0⟩]⟩,
  ⟨"POOL_REQOWN", 0x70060, 1, 0x0, .any, true, [⟨"OWNER", 15, 0, .rw, 0x0⟩]⟩,
  ⟨"POOL_REQ", 0x70064, 1, 0x0, .any, false, [⟨"SIZE", 20, 0, .wo, 0x0⟩, ⟨"ALLOW_LARGER", 21, 21, .wo, 0x0⟩]⟩,
  ⟨"POOL_GRANT_LO", 0x70068, 1, 0x0, .any, false, [⟨"ADDR", 31, 0, .ro, 0x0⟩]⟩,
  ⟨"POOL_GRANT_HI", 0x7006C, 1, 0x0, .any, false, [⟨"ADDR", 7, 0, .ro, 0x0⟩, ⟨"POOL", 10, 8, .ro, 0x0⟩, ⟨"STATUS", 15, 12, .ro, 0x0⟩]⟩,
  ⟨"POOL_FREE_LO", 0x70070, 1, 0x0, .any, false, [⟨"ADDR", 31, 0, .wo, 0x0⟩]⟩,
  ⟨"POOL_FREE_HI", 0x70074, 1, 0x0, .any, false, [⟨"ADDR", 7, 0, .wo, 0x0⟩, ⟨"OWNER", 31, 16, .wo, 0x0⟩]⟩,
  ⟨"POOL_OSEL", 0x70080, 1, 0x0, .any, true, [⟨"OWNER", 15, 0, .rw, 0x0⟩]⟩,
  ⟨"POOL_OINFO", 0x70084, 1, 0x0, .any, false, [⟨"OUTSTANDING", 23, 0, .ro, 0x0⟩, ⟨"OLDEST", 27, 24, .ro, 0x0⟩, ⟨"AGED", 28, 28, .ro, 0x0⟩, ⟨"HELD", 29, 29, .ro, 0x0⟩]⟩,
  ⟨"POOL_OUSE", 0x70088, 1, 0x0, .any, false, [⟨"USE", 31, 0, .ro, 0x0⟩]⟩,
  ⟨"POOL_OQUOTA", 0x7008C, 1, 0x0, .live, false, [⟨"QUOTA", 31, 0, .rw, 0xFFFFFFFF⟩]⟩,
  ⟨"POOL_OFLOOR", 0x70090, 1, 0x0, .any, false, [⟨"FLOOR", 31, 0, .ro, 0x0⟩]⟩,
  ⟨"POOL_OAGE", 0x70094, 1, 0x0, .live, false, [⟨"LIMIT", 3, 0, .rw, 0x0⟩]⟩]

/-- The registers of block HDMA. -/
def regsHdma : List RegDesc := [
  ⟨"HDMA_GCTL", 0x60000, 1, 0x0, .live, false, [⟨"EN", 0, 0, .rw, 0x1⟩, ⟨"RESUME", 1, 1, .wo, 0x0⟩]⟩,
  ⟨"HDMA_GSTAT", 0x60004, 1, 0x0, .live, false, [⟨"STATE", 1, 0, .ro, 0x0⟩]⟩,
  ⟨"HDMA_KICK", 0x60008, 1, 0x0, .live, false, [⟨"CH", 31, 0, .wo, 0x0⟩]⟩,
  ⟨"HDMA_DONE", 0x6000C, 1, 0x0, .live, false, [⟨"CH", 31, 0, .w1c, 0x0⟩]⟩,
  ⟨"HDMA_ERR", 0x60010, 1, 0x0, .live, false, [⟨"CH", 31, 0, .w1c, 0x0⟩]⟩,
  ⟨"HDMA_REQ_LO", 0x60020, 1, 0x0, .live, false, [⟨"LINE", 31, 0, .ro, 0x0⟩]⟩,
  ⟨"HDMA_REQ_HI", 0x60024, 1, 0x0, .live, false, [⟨"LINE", 31, 0, .ro, 0x0⟩]⟩,
  ⟨"HDMA_SWREQ", 0x60028, 1, 0x0, .live, false, [⟨"LINE", 31, 0, .w1s, 0x0⟩]⟩,
  ⟨"HDMA_HALTTICK_LO", 0x60030, 1, 0x0, .live, false, [⟨"TICK", 31, 0, .ro, 0x0⟩]⟩,
  ⟨"HDMA_HALTTICK_HI", 0x60034, 1, 0x0, .live, false, [⟨"TICK", 31, 0, .ro, 0x0⟩]⟩,
  ⟨"HDMA_CCTRL", 0x60100, 32, 0x20, .live, false, [⟨"EN", 0, 0, .rw, 0x0⟩, ⟨"PRIO", 1, 1, .rw, 0x0⟩, ⟨"FREE", 2, 2, .rw, 0x0⟩, ⟨"LINE", 13, 8, .rw, 0x0⟩, ⟨"BURST", 19, 16, .rw, 0xC⟩]⟩,
  ⟨"HDMA_CRING", 0x60104, 32, 0x20, .live, false, [⟨"LOG2SIZE", 4, 0, .rw, 0x4⟩]⟩,
  ⟨"HDMA_CBASE_LO", 0x60108, 32, 0x20, .live, false, [⟨"A", 31, 5, .rw, 0x0⟩]⟩,
  ⟨"HDMA_CBASE_HI", 0x6010C, 32, 0x20, .live, false, [⟨"A", 15, 0, .rw, 0x0⟩]⟩,
  ⟨"HDMA_CHEAD", 0x60110, 32, 0x20, .live, false, [⟨"INDEX", 15, 0, .rw, 0x0⟩]⟩,
  ⟨"HDMA_CSTAT", 0x60114, 32, 0x20, .live, false, [⟨"STOPPED", 0, 0, .ro, 0x1⟩, ⟨"IDLE", 1, 1, .ro, 0x0⟩, ⟨"ACTIVE", 2, 2, .ro, 0x0⟩]⟩]

/-- The registers of block CIPH. -/
def regsCiph : List RegDesc := [
  ⟨"CIPH_CTRL", 0x80000, 1, 0x0, .bootBench, false, [⟨"LOCKTO", 7, 0, .rw, 0xA⟩]⟩,
  ⟨"CIPH_LOCK", 0x80004, 1, 0x0, .any, false, [⟨"OWNER", 1, 0, .ro, 0x0⟩, ⟨"TAKE", 8, 8, .wo, 0x0⟩, ⟨"RELEASE", 9, 9, .wo, 0x0⟩]⟩,
  ⟨"CIPH_KSEL", 0x80008, 1, 0x0, .any, true, [⟨"SLOT", 12, 0, .rw, 0x0⟩]⟩,
  ⟨"CIPH_KCMD", 0x8000C, 1, 0x0, .keyCommand, false, [⟨"OP", 2, 0, .wo, 0x0⟩]⟩,
  ⟨"CIPH_KSTAT", 0x80010, 1, 0x0, .any, false, [⟨"BUSY", 0, 0, .ro, 0x0⟩, ⟨"RESULT", 7, 4, .ro, 0x0⟩]⟩,
  ⟨"CIPH_DEFSLOT", 0x80014, 1, 0x0, .any, false, [⟨"SLOT", 12, 0, .rw, 0x0⟩]⟩,
  ⟨"CIPH_KEY", 0x80020, 16, 0x4, .any, false, [⟨"KEY", 31, 0, .wo, 0x0⟩]⟩,
  ⟨"CIPH_LIMSET_LO", 0x80060, 1, 0x0, .any, false, [⟨"LIM", 31, 0, .wo, 0x0⟩]⟩,
  ⟨"CIPH_LIMSET_HI", 0x80064, 1, 0x0, .any, false, [⟨"LIM", 15, 0, .wo, 0x0⟩]⟩,
  ⟨"CIPH_KINFO", 0x80070, 1, 0x0, .any, false, [⟨"STATE", 1, 0, .ro, 0x0⟩, ⟨"MODE", 2, 2, .ro, 0x0⟩, ⟨"OWNER", 4, 3, .ro, 0x0⟩, ⟨"REKEYDUE", 5, 5, .ro, 0x0⟩, ⟨"EXHAUSTED", 6, 6, .ro, 0x0⟩, ⟨"REFS", 31, 16, .ro, 0x0⟩]⟩,
  ⟨"CIPH_KCTR_LO", 0x80074, 1, 0x0, .any, false, [⟨"CTR", 31, 0, .ro, 0x0⟩]⟩,
  ⟨"CIPH_KCTR_HI", 0x80078, 1, 0x0, .any, false, [⟨"CTR", 31, 0, .ro, 0x0⟩]⟩,
  ⟨"CIPH_KLIM_LO", 0x8007C, 1, 0x0, .any, false, [⟨"LIM", 31, 0, .ro, 0x0⟩]⟩,
  ⟨"CIPH_KLIM_HI", 0x80080, 1, 0x0, .any, false, [⟨"LIM", 15, 0, .ro, 0x0⟩]⟩,
  ⟨"CIPH_PAIR_OK", 0x80090, 1, 0x0, .any, false, [⟨"OK", 31, 0, .ro, 0x0⟩]⟩,
  ⟨"CIPH_STATUS", 0x80094, 1, 0x0, .any, false, [⟨"MISMATCH", 0, 0, .w1c, 0x0⟩, ⟨"RETIRED", 1, 1, .w1c, 0x0⟩, ⟨"INTRUDE", 2, 2, .w1c, 0x0⟩, ⟨"LOCKBUSY", 3, 3, .w1c, 0x0⟩, ⟨"LOCKTO", 4, 4, .w1c, 0x0⟩, ⟨"REKEY", 5, 5, .w1c, 0x0⟩, ⟨"EXHAUSTED", 6, 6, .w1c, 0x0⟩, ⟨"KREFUSED", 7, 7, .w1c, 0x0⟩]⟩,
  ⟨"CIPH_FSEL", 0x80098, 1, 0x0, .any, true, [⟨"PAIR", 4, 0, .rw, 0x0⟩]⟩,
  ⟨"CIPH_FINFO", 0x8009C, 1, 0x0, .any, false, [⟨"FAULTS", 3, 0, .ro, 0x0⟩, ⟨"RETIRED", 4, 4, .ro, 0x0⟩, ⟨"AWAKE", 5, 5, .ro, 0x0⟩]⟩]

/-- The registers of block LDG. -/
def regsLdg : List RegDesc := [
  ⟨"LDG_STATUS", 0x50000, 1, 0x0, .any, false, [⟨"BUSYRD", 0, 0, .w1c, 0x0⟩, ⟨"SEQERR", 1, 1, .w1c, 0x0⟩, ⟨"REFUSED", 2, 2, .w1c, 0x0⟩, ⟨"EAGE", 3, 3, .w1c, 0x0⟩, ⟨"NEARWORN", 4, 4, .w1c, 0x0⟩, ⟨"WORN", 5, 5, .w1c, 0x0⟩, ⟨"FAIL", 6, 6, .w1c, 0x0⟩]⟩,
  ⟨"LDG_MINRUN", 0x50004, 1, 0x0, .any, false, [⟨"US", 15, 0, .ro, 0x1388⟩]⟩,
  ⟨"LDG_WSTAT", 0x50008, 1, 0x0, .any, false, [⟨"RESULT", 3, 0, .ro, 0x0⟩, ⟨"BUSY", 4, 4, .ro, 0x0⟩]⟩,
  ⟨"LDG_BSTAT", 0x50010, 2, 0x10, .any, false, [⟨"STATE", 2, 0, .ro, 0x0⟩, ⟨"SECTOR", 16, 8, .ro, 0x0⟩]⟩,
  ⟨"LDG_EAGE", 0x50014, 2, 0x10, .any, false, [⟨"MS", 31, 0, .ro, 0x0⟩]⟩,
  ⟨"LDG_SUSPCNT", 0x50018, 2, 0x10, .any, false, [⟨"COUNT", 15, 0, .ro, 0x0⟩]⟩,
  ⟨"LDG_CSEL", 0x50040, 1, 0x0, .any, true, [⟨"SECTOR", 8, 0, .rw, 0x0⟩, ⟨"BANK", 9, 9, .rw, 0x0⟩]⟩,
  ⟨"LDG_CINFO", 0x50044, 1, 0x0, .any, false, [⟨"CYCLES", 23, 0, .ro, 0x0⟩, ⟨"WORN", 24, 24, .ro, 0x0⟩, ⟨"PENDING", 25, 25, .ro, 0x0⟩]⟩,
  ⟨"LDG_WORNCNT", 0x50048, 1, 0x0, .any, false, [⟨"BANKA", 8, 0, .ro, 0x0⟩, ⟨"BANKB", 24, 16, .ro, 0x0⟩]⟩]

/-- The registers of block TALLY. -/
def regsTally : List RegDesc := [
  ⟨"TALLY_AT_LO", 0x20000, 1, 0x0, .live, false, [⟨"TICK", 31, 0, .rw, 0x0⟩]⟩,
  ⟨"TALLY_AT_HI", 0x20004, 1, 0x0, .live, false, [⟨"TICK", 31, 0, .rw, 0x0⟩]⟩,
  ⟨"TALLY_STATUS", 0x20008, 1, 0x0, .any, false, [⟨"DONE", 0, 0, .ro, 0x0⟩, ⟨"PENDING", 1, 1, .ro, 0x0⟩, ⟨"REFUSED", 2, 2, .w1c, 0x0⟩, ⟨"RESTART", 3, 3, .w1c, 0x0⟩, ⟨"HALF", 4, 4, .ro, 0x0⟩, ⟨"CAUSE", 9, 8, .ro, 0x0⟩]⟩,
  ⟨"TALLY_GEN", 0x2000C, 1, 0x0, .any, false, [⟨"GEN", 31, 0, .ro, 0x0⟩]⟩,
  ⟨"TALLY_LTICK_LO", 0x20010, 1, 0x0, .any, false, [⟨"TICK", 31, 0, .ro, 0x0⟩]⟩,
  ⟨"TALLY_LTICK_HI", 0x20014, 1, 0x0, .any, false, [⟨"TICK", 31, 0, .ro, 0x0⟩]⟩,
  ⟨"TALLY_BUF_LO", 0x20018, 1, 0x0, .any, false, [⟨"ADDR", 31, 0, .ro, 0x0⟩]⟩,
  ⟨"TALLY_BUF_HI", 0x2001C, 1, 0x0, .any, false, [⟨"ADDR", 7, 0, .ro, 0x0⟩]⟩,
  ⟨"TALLY_LSEL", 0x20020, 1, 0x0, .live, true, [⟨"INDEX", 17, 0, .rw, 0x0⟩]⟩,
  ⟨"TALLY_LVAL_LO", 0x20024, 1, 0x0, .live, false, [⟨"VAL", 31, 0, .rw, 0x0⟩]⟩,
  ⟨"TALLY_LVAL_HI", 0x20028, 1, 0x0, .live, false, [⟨"VAL", 15, 0, .rw, 0x0⟩, ⟨"OVF", 16, 16, .ro, 0x0⟩]⟩,
  ⟨"TALLY_COUNT", 0x2002C, 1, 0x0, .any, false, [⟨"COUNT", 17, 0, .ro, 0x2BE90⟩]⟩]

/-- The registers of block RCDR. -/
def regsRcdr : List RegDesc := [
  ⟨"RCDR_NEWEST_LO", 0x30000, 1, 0x0, .any, false, [⟨"SEQ", 31, 0, .ro, 0x0⟩]⟩,
  ⟨"RCDR_NEWEST_HI", 0x30004, 1, 0x0, .any, false, [⟨"SEQ", 31, 0, .ro, 0x0⟩]⟩,
  ⟨"RCDR_OLDEST_LO", 0x30008, 1, 0x0, .any, false, [⟨"SEQ", 31, 0, .ro, 0x0⟩]⟩,
  ⟨"RCDR_OLDEST_HI", 0x3000C, 1, 0x0, .any, false, [⟨"SEQ", 31, 0, .ro, 0x0⟩]⟩,
  ⟨"RCDR_UNFL", 0x30010, 1, 0x0, .any, false, [⟨"BYTES", 12, 0, .ro, 0x0⟩]⟩,
  ⟨"RCDR_STATUS", 0x30014, 1, 0x0, .any, false, [⟨"LOST", 0, 0, .w1c, 0x0⟩, ⟨"FLUSHERR", 1, 1, .w1c, 0x0⟩, ⟨"CLEARED", 2, 2, .w1c, 0x0⟩, ⟨"CLRFAIL", 3, 3, .w1c, 0x0⟩, ⟨"GONE", 4, 4, .w1c, 0x0⟩]⟩,
  ⟨"RCDR_RSEQ_LO", 0x30020, 1, 0x0, .live, false, [⟨"SEQ", 31, 0, .rw, 0x0⟩]⟩,
  ⟨"RCDR_RSEQ_HI", 0x30024, 1, 0x0, .live, false, [⟨"SEQ", 31, 0, .rw, 0x0⟩]⟩,
  ⟨"RCDR_RINFO", 0x30028, 1, 0x0, .any, false, [⟨"VALID", 0, 0, .ro, 0x0⟩, ⟨"LEN", 15, 8, .ro, 0x0⟩, ⟨"CODE", 31, 16, .ro, 0x0⟩]⟩,
  ⟨"RCDR_CLRARM", 0x30040, 1, 0x0, .live, false, [⟨"ARM", 0, 0, .wo, 0x0⟩]⟩,
  ⟨"RCDR_CLRNONCE", 0x30044, 1, 0x0, .any, false, [⟨"NONCE", 31, 0, .ro, 0x0⟩]⟩,
  ⟨"RCDR_CLRSEQ_LO", 0x30048, 1, 0x0, .live, false, [⟨"SEQ", 31, 0, .rw, 0x0⟩]⟩,
  ⟨"RCDR_CLRSEQ_HI", 0x3004C, 1, 0x0, .live, false, [⟨"SEQ", 31, 0, .rw, 0x0⟩]⟩,
  ⟨"RCDR_CLRGO", 0x30050, 1, 0x0, .live, false, [⟨"NONCE", 31, 0, .wo, 0x0⟩]⟩,
  ⟨"RCDR_RDATA", 0x30080, 32, 0x4, .any, false, [⟨"DATA", 31, 0, .ro, 0x0⟩]⟩]

/-- The registers of block MSPI. -/
def regsMspi : List RegDesc := [
  ⟨"MSPI_STATUS", 0xF0000, 1, 0x0, .any, false, [⟨"SHORT", 0, 0, .w1c, 0x0⟩, ⟨"OVERRUN", 1, 1, .w1c, 0x0⟩, ⟨"CRCERR", 2, 2, .w1c, 0x0⟩, ⟨"HDRERR", 3, 3, .w1c, 0x0⟩, ⟨"BWBUSY", 4, 4, .w1c, 0x0⟩, ⟨"BWEMPTY", 5, 5, .w1c, 0x0⟩, ⟨"RDFAULT", 6, 6, .w1c, 0x0⟩]⟩,
  ⟨"MSPI_ERRADDR", 0xF0004, 1, 0x0, .any, false, [⟨"ADDR", 31, 0, .ro, 0x0⟩]⟩,
  ⟨"MSPI_ID", 0xF0008, 1, 0x0, .any, false, [⟨"PART", 15, 0, .ro, 0x7128⟩, ⟨"STEP", 23, 16, .ro, 0xB0⟩, ⟨"IFVER", 31, 24, .ro, 0x1⟩]⟩,
  ⟨"MSPI_ALERTSRC", 0xF0010, 1, 0x0, .any, false, [⟨"NOIMAGE", 0, 0, .ro, 0x0⟩, ⟨"MODE", 1, 1, .w1c, 0x0⟩, ⟨"RETIRE", 2, 2, .w1c, 0x0⟩, ⟨"PAIR", 3, 3, .w1c, 0x0⟩, ⟨"THERM", 4, 4, .w1c, 0x0⟩, ⟨"TALLY", 5, 5, .w1c, 0x0⟩, ⟨"BULK", 6, 6, .w1c, 0x0⟩, ⟨"SPIERR", 7, 7, .w1c, 0x0⟩]⟩,
  ⟨"MSPI_ALERTEN", 0xF0014, 1, 0x0, .live, false, [⟨"EN", 7, 1, .rw, 0x0⟩]⟩,
  ⟨"MSPI_BWCTL", 0xF0020, 4, 0x8, .live, false, [⟨"EN", 0, 0, .rw, 0x0⟩, ⟨"DIR", 1, 1, .rw, 0x0⟩]⟩,
  ⟨"MSPI_BWSTAT", 0xF0024, 4, 0x8, .any, false, [⟨"FULL", 0, 0, .ro, 0x0⟩, ⟨"LINE", 1, 1, .ro, 0x0⟩, ⟨"WORDS", 26, 16, .ro, 0x0⟩]⟩]

/-- The whole register map, by block. -/
def regMap : List RegDesc :=
  regsClkp ++ regsTbase ++ regsGctl ++ regsAdm ++ regsCmp ++ regsDdup ++ regsFch ++ regsStrp ++ regsNvq ++ regsIdm ++ regsAtpu ++ regsMoor ++ regsPool ++ regsHdma ++ regsCiph ++ regsLdg ++ regsTally ++ regsRcdr ++ regsMspi

end Sys2Proof.Machine
end

