-- ==== Sys2Proof/Machine/Ops.lean ====
section
/-!
DEFINITION. The operations every command is built from: the tide counter (R45), stored register bits (R7 to R13), the Tally
counters (R369), the event recorder (R46, R378 to R380), the alert sources (R397), and what a mode allows (Tables 2.1, 2.2).
-/

namespace Sys2Proof.Machine

/-! ### Modes -/

/-- The code of a mode (Table 2.1). -/
def Mode.code : Mode → Nat
  | .reset => 0 | .boot => 1 | .slack => 2 | .join => 3 | .paired => 4 | .sole => 5 | .takeover => 6 | .handback => 7
  | .relay => 8 | .preservation => 9 | .holdup => 10 | .bench => 11 | .locked => 15

/-- The mode that a beacon's mode code names (Table 2.1). -/
def Mode.ofCode : Nat → Mode
  | 1 => .boot | 2 => .slack | 3 => .join | 4 => .paired | 5 => .sole | 6 => .takeover | 7 => .handback
  | 8 => .relay | 9 => .preservation | 10 => .holdup | 11 => .bench | 15 => .locked | _ => .reset

/-- FENCE_OUT_N of Table 2.2: high in the modes that serve. -/
def Mode.fenceHigh : Mode → Bool
  | .paired | .sole | .takeover | .handback | .relay => true
  | _ => false

/-- Modes whose front end is up for commands (Table 2.2): served, or received and held. -/
def Mode.frontEnd : Mode → Bool
  | .join | .paired | .sole | .takeover | .handback | .relay | .preservation => true
  | _ => false

/-- Modes that admit writes (Table 2.2). -/
def Mode.admits : Mode → Bool
  | .paired | .sole | .handback | .relay => true
  | _ => false

/-- Modes that receive commands and hold them (Table 2.2). -/
def Mode.holds : Mode → Bool
  | .join | .takeover => true
  | _ => false

/-- The mode service follows: in Relay that of the mode it was entered from (R34). -/
def State.service (s : State) : Mode := if s.md.mode = .relay then s.md.relayFrom else s.md.mode

/-- A mirror is kept on the partner (Table 2.2). -/
def State.mirrors (s : State) : Bool := s.service == .paired

/-- Change the pairing engine's state. -/
def State.updMoor (f : MoorState → MoorState) (s : State) : State := { s with moor := f s.moor }

/-! ### Time -/

/-- The counter runs at 30.5 µs resolution (R45, R353). -/
def State.slowClock (s : State) : Bool := s.md.mode == .slack || s.md.mode == .reset

/-- Ticks that `n` always-on edges add from fraction `f` (R45 in closed form). -/
def edgeTicks (f n : Nat) : Nat := (f + 1000000000 * n) / 32768

/-- The fraction accumulator after `n` edges (R45). -/
def edgeFrac (f n : Nat) : Nat := (f + 18944 * n) % 32768

/-- The most edges whose ticks stay within `d`. -/
def edgesWithin (f d : Nat) : Nat := (32768 * (d + 1) - 1 - f) / 1000000000

/-- Advance by `n` always-on edges (R45). -/
def State.edges (n : Nat) (s : State) : State :=
  { s with time := { s.time with now := s.time.now + edgeTicks s.time.frac n, frac := edgeFrac s.time.frac n } }

/-- Let time pass to tick `t`; never backward (R45, R354). -/
def State.advanceTo (t : Nat) (s : State) : State :=
  if t ≤ s.time.now || !s.time.running then s
  else if s.slowClock then s.edges (edgesWithin s.time.frac (t - s.time.now))
  else { s with time := { s.time with now := t } }

/-- What happens while no command waits: one tick of the counter, or one always-on edge where it runs slowly (log 14). -/
def State.idleTick (s : State) : State :=
  if !s.time.running then s
  else if s.slowClock then s.edges 1
  else { s with time := { s.time with now := s.time.now + 1 } }

/-- The tide tick now. -/
abbrev State.now (s : State) : Nat := s.time.now

/-! ### Registers -/

/-- The row and copy an address belongs to, in a list of rows. -/
def findRegIn (a : Nat) : List RegDesc → Option (RegDesc × Nat)
  | [] => none
  | r :: rs =>
    if r.count = 1 then (if a = r.addr then some (r, 0) else findRegIn a rs)
    else if r.addr ≤ a ∧ a < r.addr + r.stride * r.count ∧ (a - r.addr) % r.stride = 0 then
      some (r, (a - r.addr) / r.stride)
    else findRegIn a rs

/-- The row and copy of the register map at an address; none where the address is unmapped (R9). -/
def findReg (a : Nat) : Option (RegDesc × Nat) := findRegIn a regMap

/-- The reset value of a row. -/
def RegDesc.reset (r : RegDesc) : Word :=
  r.fields.foldl (fun w f => w ||| field f.reset f.hi f.lo) 0

/-- The reset value of the register at an address. -/
def regReset (a : Nat) : Word := match findReg a with | some (r, _) => r.reset | none => 0

/-- The stored bits of a register. -/
def State.reg (s : State) (a : Nat) : Word := NMap.getD s.regs.vals a (regReset a)

/-- A field of the stored bits. -/
def State.regField (s : State) (a hi lo : Nat) : Nat := bits (s.reg a) hi lo

/-- Store a register's bits. -/
def State.setReg (a : Nat) (v : Word) (s : State) : State :=
  { s with regs := { s.regs with vals := NMap.put s.regs.vals a v } }

/-- Code of the access path an origin uses (R11); the replication agent uses the cores' path. -/
def pathCode : Origin → Nat
  | .spi => 1 | .core => 2 | .inband => 3 | .repl => 2

/-- Key of what a path keeps for an address. -/
def pathKey (o : Origin) (a : Nat) : Nat := pathCode o * 2 ^ 32 + a

/-- What a path keeps for an address: a select value, or a latched half or set (R11); 0 if none since reset. -/
def State.pathReg (s : State) (o : Origin) (a : Nat) : Word := NMap.getD s.regs.path (pathKey o a) 0

/-- Keep a value for a path. -/
def State.setPathReg (o : Origin) (a : Nat) (v : Word) (s : State) : State :=
  { s with regs := { s.regs with path := NMap.put s.regs.path (pathKey o a) v } }

/-- A staged half or word of a path (R11). -/
def State.staged (s : State) (o : Origin) (a : Nat) : Word := NMap.getD s.regs.staged (pathKey o a) 0

/-- Stage a value on a path (R11). -/
def State.stage (o : Origin) (a : Nat) (v : Word) (s : State) : State :=
  { s with regs := { s.regs with staged := NMap.put s.regs.staged (pathKey o a) v } }

/-- A quantity of 64 bits from a staged low half and the high half written (R11). -/
def join64 (lo hi : Word) : Nat := lo.toNat + hi.toNat * 2 ^ 32

/-- Low and high halves of a 64-bit quantity. -/
def lo32 (v : Nat) : Word := BitVec.ofNat 32 v
def hi32 (v : Nat) : Word := BitVec.ofNat 32 (v / 2 ^ 32)

/-! ### Outputs and free values -/

/-- What leaves on a front-end port: everything but what the partner gets on the Decux link or the beacon pair, a CLAIM, and the pins. -/
def State.onFrontEnd (s : State) : Out → Bool
  | .completion _ _ _ _ | .notify _ | .event _ _ _ _ | .fetch _ _ _ | .acceptMsg _ _ _ | .announce _ | .frame _ _ _
  | .frameAnswer _ _ _ | .heartbeat _ _ => true
  | .packet n _ | .connect n => (NMap.find s.idm.sessions n).any (fun x => decide (x.port < 16))
  | _ => false

/-- Send something to the world around the device (log 4); a fenced head sends nothing on its front-end ports (R259). -/
def State.emit (o : Out) (s : State) : State :=
  if s.moor.fenced && s.onFrontEnd o then s else { s with outbox := o :: s.outbox }

/-- The next free value (log 5). -/
def State.freeValue (s : State) : Word := Config.freeWord s.free

/-- The counter of free values moves on (log 5). -/
def State.spendFree (s : State) : State := { s with free := s.free + 1 }

/-! ### Tally counters -/

/-- The group, instance and number of a counter index (Table 18.1): group number, instance, counter number. -/
def counterPlace (i : Nat) : Nat × Nat × Nat :=
  if i < 4096 then (0, 0, i)
  else if i < 36864 then (1, (i - 4096) / 16, (i - 4096) % 16)
  else if i < 38912 then (2, (i - 36864) / 16, (i - 36864) % 16)
  else if i < 39424 then (3, (i - 38912) / 32, (i - 38912) % 32)
  else if i < 39808 then (4, (i - 39424) / 16, (i - 39424) % 16)
  else if i < 48000 then (5, (i - 39808) / 16, (i - 39808) % 16)
  else if i < 146304 then (6, (i - 48000) / 6, (i - 48000) % 6)
  else if i < 179072 then (7, (i - 146304) / 8, (i - 146304) % 8)
  else if i < 179456 then (8, (i - 179072) / 8, (i - 179072) % 8)
  else if i < 179712 then (9, (i - 179456) / 8, (i - 179456) % 8)
  else if i < 179776 then (10, (i - 179712) / 8, (i - 179712) % 8)
  else (11, (i - 179776) / 16, (i - 179776) % 16)

/-- Counter numbers Table 18.1 marks reserved. -/
def counterReserved (i : Nat) : Bool :=
  let (g, inst, n) := counterPlace i
  if tallyCount ≤ i then true
  else match g with
  | 0 => decide (17 ≤ n)
  | 2 => decide (6 ≤ n)
  | 3 => decide (20 ≤ n)
  | 4 => decide (4 ≤ n)
  | 5 => decide (9 ≤ n)
  | 8 => decide (32 ≤ inst ∧ 3 ≤ n ∧ n ≤ 5)
  | 9 => decide (6 ≤ n)
  | 10 => decide (5 ≤ n)
  | 11 => decide (8 ≤ n)
  | _ => false

/-- The retired unit whose counters stand still (R370): the unit a counter index belongs to is in the list. -/
def counterStopped (retired : List FUnit) (i : Nat) : Bool :=
  let (g, inst, _) := counterPlace i
  match g with
  | 1 => retired.contains (.die inst)
  | 2 => retired.contains (.channel inst)
  | 4 => retired.contains (.serdes inst)
  | 8 => retired.contains (if inst < 32 then .clane inst else .dlane (inst - 32))
  | 9 => retired.contains (.pair inst)
  | 10 => retired.contains (.cluster inst)
  | _ => false

/-- A counter's entry: bits [47:0] the value, bit 48 OVF (R13, R369). An increment that brings it to its maximum sets OVF. -/
def counterAdd (e n : Nat) : Nat :=
  let v := e % 2 ^ 48 + n
  if n = 0 then e
  else if 2 ^ 48 - 1 ≤ v then 2 ^ 48 - 1 + 2 ^ 48 else v + e / 2 ^ 48 % 2 * 2 ^ 48

/-- Increments of the present tick, by counter. -/
def State.tickAdds (s : State) : NMap Nat := if s.tally.addsAt = s.time.now then s.tally.adds else []

/-- A hardware increment of a counter by `n` (R369), noted with its tick (R12). -/
def State.countN (i n : Nat) (s : State) : State :=
  if counterReserved i || counterStopped s.faults.retired i || n == 0 then s
  else { s with tally := { s.tally with
    live := NMap.put s.tally.live i (counterAdd (NMap.getD s.tally.live i 0) n)
    adds := NMap.put (s.tickAdds) i (NMap.getD s.tickAdds i 0 + n), addsAt := s.time.now } }

/-- A hardware increment of a counter by one. -/
def State.count (i : Nat) (s : State) : State := s.countN i 1

/-- The 48-bit value of a counter. -/
def State.counter (s : State) (i : Nat) : Nat := NMap.getD s.tally.live i 0 % 2 ^ 48

/-! Counter indices (Table 18.1). -/
def ctrDie (d n : Nat) : Nat := 4096 + 16 * d + n
def ctrChannel (c n : Nat) : Nat := 36864 + 16 * c + n
def ctrPort (p n : Nat) : Nat := 38912 + 32 * p + n
def ctrSerdes (l n : Nat) : Nat := 39424 + 16 * l + n
def ctrResv (r n : Nat) : Nat := 39808 + 16 * r + n
def ctrQueue (q n : Nat) : Nat := 48000 + 6 * q + n
def ctrSession (x n : Nat) : Nat := 146304 + 8 * x + n
def ctrLane (l n : Nat) : Nat := 179072 + 8 * l + n
def ctrPair (p n : Nat) : Nat := 179456 + 8 * p + n
def ctrCluster (c n : Nat) : Nat := 179712 + 8 * c + n
def ctrPool (p n : Nat) : Nat := 179776 + 16 * p + n

/-! ### Alert sources and DMA request lines -/

/-- Bits hardware has set in the present tick, by address. -/
def State.tickRaised (s : State) : NMap Word := if s.regs.raisedAt = s.time.now then s.regs.raised else []

/-- Set bits of a W1C register, noted with their tick (hardware side, R12). -/
def State.raise (a mask : Nat) (s : State) : State :=
  { s with regs := { s.regs with
      vals := NMap.put s.regs.vals a (s.reg a ||| BitVec.ofNat 32 mask)
      raised := NMap.put s.tickRaised a (NMap.getD s.tickRaised a 0 ||| BitVec.ofNat 32 mask), raisedAt := s.time.now } }

/-- Bits of a register that hardware has set in the present cycle: the tide tick, where the counter runs in ticks (R12; log 42). -/
def State.freshBits (s : State) (a : Nat) : Word := if s.slowClock then 0 else NMap.getD s.tickRaised a 0

/-- Assert a DMA request line (Table 14.1). -/
def State.assertLine (n : Nat) (s : State) : State :=
  if n ∈ s.dma.lines then s else { s with dma := { s.dma with lines := s.dma.lines ++ [n] } }

/-- Take a request line back. -/
def State.deassertLine (n : Nat) (s : State) : State :=
  { s with dma := { s.dma with lines := s.dma.lines.filter (· != n) } }

/-- MSPI_ALERT_N is driven low (R397); released in Reset. -/
def State.alertLow (s : State) : Bool :=
  s.md.mode != .reset &&
    (s.md.noImage || ((s.reg Reg.MSPI_ALERTSRC &&& s.reg Reg.MSPI_ALERTEN).toNat / 2 % 128 != 0))

/-! ### The event recorder -/

/-- Bytes of the unflushed tail (R380). -/
def State.tailBytes (s : State) : Nat :=
  ((s.rcdr.recs.filter (fun e => s.rcdr.flushedTo < e.seq)).map (fun e => eventLen e.data.length)).sum

/-- Order of two records of one tick (R379): 0xB000 first, then by code, then by first data field. -/
def eventBefore (a b : EventRec) : Bool :=
  a.code == 0xB000 ||
    (b.code != 0xB000 &&
      (decide (a.code < b.code) || (a.code == b.code && decide (a.data.headD 0 ≤ b.data.headD 0))))

/-- Put a record into a tick's records, which are in order. -/
def insertEvent (e : EventRec) : List EventRec → List EventRec
  | [] => [e]
  | x :: xs => if eventBefore x e then x :: insertEvent e xs else e :: x :: xs

/-- Number a tick's records from `n` on (R379). -/
def renumber : Nat → List EventRec → List EventRec
  | _, [] => []
  | n, e :: es => { e with seq := n } :: renumber (n + 1) es

/-- Bits of MSPI_ALERTSRC an event sets (Table 19.5): PAIR for 0x7030 and 0x7031, THERM for 0xCxxx, RETIRE for a retirement. -/
def alertOf (code : Nat) : Nat :=
  if code = 0x7030 ∨ code = 0x7031 then 8
  else if 0xC000 ≤ code ∧ code < 0xD000 then 16
  else if code ∈ [0x3200, 0x3201, 0x3202, 0x5200, 0x5201, 0x6200, 0x7200, 0x9200] then 4
  else 0

/-- Events after which the recorder asserts its line at once (R380). -/
def urgentEvent (code : Nat) : Bool :=
  decide (alertOf code = 4) || code == 0x7030 || code == 0x1060 || code == 0x1090 || code == 0x10A0

/-- The records of the present tick that are not flushed may still be reordered; the others stand. -/
def State.openRecs (s : State) : List EventRec × List EventRec :=
  let isOpen := fun (e : EventRec) => decide (e.tick = s.time.now ∧ s.rcdr.flushedTo < e.seq)
  (s.rcdr.recs.filter (fun e => !isOpen e), s.rcdr.recs.filter isOpen)

/-- Write a record whose room is assured (R378, R379). -/
def State.putRecord (code : Nat) (data : List Nat) (s : State) : State :=
  let e : EventRec :=
    { code := code, seq := 0, tick := s.time.now, mode := s.md.mode.code, lost := s.rcdr.lostMark, data := data }
  let (old, group) := s.openRecs
  let first := s.rcdr.newest + 1 - group.length
  { s with rcdr := { s.rcdr with
      recs := old ++ renumber first (insertEvent e group)
      newest := s.rcdr.newest + 1
      lostMark := false } }

/-- A record that finds no room is lost: no SEQ, counter 12, and the next record carries LOST (R380). -/
def State.loseRecord (s : State) : State :=
  ({ s with rcdr := { s.rcdr with lost := s.rcdr.lost + 1, lostMark := true } }.count 12).raise Reg.RCDR_STATUS 1

/-- Line 2 when the tail reaches 1,024 bytes or after an urgent event (R380). -/
def State.flushLine (code : Nat) (s : State) : State :=
  if urgentEvent code || 1024 ≤ s.tailBytes then s.assertLine 2 else s

/-- Record an event (R378 to R380). In Reset the always-on domain keeps it with its tick for the next Boot (log 8). -/
def State.record (code : Nat) (data : List Nat) (s : State) : State :=
  if s.md.mode = .reset then
    { s with md := { s.md with bootEvents := s.md.bootEvents ++ [(s.time.now, code, data)] } }
  else
    let a := if alertOf code = 0 then s else s.raise Reg.MSPI_ALERTSRC (alertOf code)
    if 4096 < a.tailBytes + eventLen data.length then a.loseRecord
    else ((a.putRecord code data).count 10).flushLine code

/-- Record an event kept in Reset, with the tick and the mode it had (R36; log 8). -/
def State.recordKept (e : Nat × Nat × List Nat) (s : State) : State :=
  let a := if alertOf e.2.1 = 0 then s else s.raise Reg.MSPI_ALERTSRC (alertOf e.2.1)
  if 4096 < a.tailBytes + eventLen e.2.2.length then a.loseRecord
  else
    let r : EventRec :=
      { code := e.2.1, seq := a.rcdr.newest + 1, tick := e.1, mode := Mode.reset.code, lost := a.rcdr.lostMark, data := e.2.2 }
    (({ a with rcdr := { a.rcdr with recs := a.rcdr.recs ++ [r], newest := a.rcdr.newest + 1, lostMark := false } }).count 10).flushLine
      e.2.1

/-- Record an event once per occurrence window of the item (R46); a suppressed one counts in device counter 11. -/
def State.recordOnce (code item : Nat) (data : List Nat) (s : State) : State :=
  let key := code * 2 ^ 40 + item
  let openNow := match NMap.find s.rcdr.windows key with
    | some t => decide (s.time.now < t + secondTicks)
    | none => false
  if openNow then s.count 11
  else
    ({ s with rcdr := { s.rcdr with windows := NMap.put s.rcdr.windows key s.time.now } }).record code data

/-! ### Error flags of GCTL (Table 2.9) -/

/-- A write was ignored, or a reserved bit written 1 (R7, R8). -/
def State.ignored (s : State) : State := s.raise Reg.GCTL_ERR 1

/-- An unmapped address was accessed (R9). -/
def State.unmapped (s : State) : State := s.raise Reg.GCTL_ERR 2

/-- A mode request was refused (R37): target and current mode. -/
def State.refuseMode (target : Nat) (s : State) : State :=
  (s.raise Reg.GCTL_ERR 4).record 0x1100 [target, s.md.mode.code]

end Sys2Proof.Machine
end

