-- ==== Sys2Proof/Machine/MemOps.lean ====
section
/-!
DEFINITION. SRAM and HBM (13_memory_buffers.md): ranges (R286), plain reads and writes, and poison (R290, R292).
-/

namespace Sys2Proof.Machine

/-- On-die SRAM (Table 13.1). -/
def inSram (a : Nat) : Bool := decide (0x200000000 ≤ a ∧ a < 0x20C000000)

/-- HBM, both stacks (Table 13.1). -/
def inHbm (a : Nat) : Bool := decide (0x1000000000 ≤ a ∧ a < 0x2800000000)

/-- Every byte of a range lies in SRAM, or every byte in HBM. -/
def inMemory (a n : Nat) : Bool :=
  decide (0 < n) && ((inSram a && inSram (a + n - 1)) || (inHbm a && inHbm (a + n - 1)))

/-- The bytes of a range. -/
def State.memBytes (s : State) (a n : Nat) : List Byte := Memory.readBytes 0 s.mem.cells a n

/-- The first poisoned line of a range, by its address. -/
def State.poisonedIn (s : State) (a n : Nat) : Option Nat :=
  if n = 0 then none
  else (((List.range ((a + n - 1) / 64 + 1 - a / 64)).map (a / 64 + ·)).find? (fun l => s.mem.poison.contains l)).map (64 * ·)

/-- Lines a write of a range covers whole: their poison ends (R290). -/
def coversLine (a n l : Nat) : Bool := decide (a ≤ 64 * l ∧ 64 * l + 64 ≤ a + n)

/-- Write bytes; a line all of whose bytes one write covers is poisoned no longer (R290), and counts as rewritten (R293). -/
def State.memWrite (a : Nat) (bs : List Byte) (s : State) : State :=
  let cured := s.mem.poison.filter (coversLine a bs.length)
  { s with mem := { s.mem with
      cells := Memory.writeBytes 0 s.mem.cells a bs
      poison := s.mem.poison.filter (fun l => !coversLine a bs.length l)
      rewritten := s.mem.rewritten ++ cured.filter (fun l => !s.mem.rewritten.contains l) } }

/-- Consumers of poison, the rows of Table 13.5 in order (Table 18.9). -/
def consumerWrite : Nat := 1
def consumerRead : Nat := 2
def consumerMap : Nat := 3
def consumerFilter : Nat := 4
def consumerCache : Nat := 5
def consumerSgt : Nat := 6
def consumerList : Nat := 7
def consumerCore : Nat := 8
def consumerDma : Nat := 9
def consumerRegion : Nat := 10

/-- A consumer read a poisoned line (R292). -/
def State.consumed (line consumer : Nat) (s : State) : State := s.record 0x8003 [consumer, line]

end Sys2Proof.Machine
end

