-- ==== Sys2Proof/Machine/Operands.lean ====
section
/-!
DEFINITION. The operand fields of a submission queue entry (Tables 9.1, 9.7, 6.4, 12.x and the standard NVMe dwords).
-/

namespace Sys2Proof.Machine

/-- Starting LBA of an I/O command: dwords 10 and 11. -/
def slbaOf (e : Sqe) : Nat := e.dw10.toNat + e.dw11.toNat * 2 ^ 32

/-- Number of LBAs of an I/O command: dword 12 bits [15:0], zero-based (Table 9.2). -/
def nlbOf (e : Sqe) : Nat := bits e.dw12 15 0 + 1

/-- PRINFO: dword 12 bits [29:26]; PRACT is its top bit (R81). -/
def practOf (e : Sqe) : Bool := bit e.dw12 29

/-- PRCHK: dword 12 bits [28:26]: guard, application tag, reference tag. -/
def prchkOf (e : Sqe) : Nat := bits e.dw12 28 26

/-- DEAC of Write Zeroes: dword 12 bit 25 (R83). -/
def deacOf (e : Sqe) : Bool := bit e.dw12 25

/-- DOFS (Table 9.1). -/
def dofsOf (e : Sqe) : Nat := e.dw6.toNat + e.dw7.toNat * 2 ^ 32

/-- DKEY (Table 9.1). -/
def dkeyOf (e : Sqe) : Nat := e.dw8.toNat

/-- MOFS and MKEY (Table 9.1). -/
def mofsOf (e : Sqe) : Nat := e.dw4.toNat
def mkeyOf (e : Sqe) : Nat := e.dw5.toNat

/-- PUSH and POFS (Table 9.1). -/
def pushOf (e : Sqe) : Bool := bit e.dw9 0
def pofsOf (e : Sqe) : Nat := bits e.dw9 31 8

/-- First and last grain a range of LBAs touches: four 4,096-byte LBAs a grain (Table 0.4). -/
def firstGrain (slba : Nat) : Nat := slba / 4
def lastGrain (slba nlb : Nat) : Nat := (slba + nlb - 1) / 4

/-- Grains of a range of LBAs. -/
def grainsOf (slba nlb : Nat) : List Nat :=
  (List.range (lastGrain slba nlb + 1 - firstGrain slba)).map (firstGrain slba + ·)

/-- LBAs of grain `g` that the range covers, as a bit mask. -/
def lbaMask (slba nlb g : Nat) : Nat :=
  ((List.range 4).filter (fun i => decide (slba ≤ 4 * g + i ∧ 4 * g + i < slba + nlb))).foldl (fun a i => a + 2 ^ i) 0

/-- Map units a range of LBAs touches: four grains a unit. -/
def unitsOf (slba nlb : Nat) : List Nat :=
  (List.range (lastGrain slba nlb / 4 + 1 - firstGrain slba / 4)).map (firstGrain slba / 4 + ·)

/-- Key of a map unit: its volume and its number. -/
def unitKey (vol unit : Nat) : Nat := vol * 2 ^ 32 + unit

/-! C0h Set Reservation (Table 9.7). -/
def c0Action (e : Sqe) : Nat := bits e.dw10 1 0
def c0Pull (e : Sqe) : Bool := bit e.dw10 2
def c0Qid (e : Sqe) : Nat := bits e.dw10 31 16
def c0Index (e : Sqe) : Nat := bits e.dw14 8 0
def c0Rebind (e : Sqe) : Bool := bit e.dw14 15
def c0Rate (e : Sqe) : Nat := bits e.dw11 13 0
def c0Burst (e : Sqe) : Nat := bits e.dw11 29 16
def c0D (e : Sqe) : Nat := bits e.dw12 12 0
def c0PushSz (e : Sqe) : Nat := bits e.dw13 15 0

/-- The 16 bits that a status in log C3h takes: SC in bits [8:1], SCT in bits [11:9] (DEDUCED: the NVMe status field). -/
def statusWord (sct sc : Nat) : Nat := sc * 2 + sct * 512

end Sys2Proof.Machine
end

