-- ==== Sys2Proof/Machine/Post.lean ====
section
/-!
DEFINITION. What a command's end does: completion entries and a full queue (R203 to R205), the orphan log (R206), notices
(R216), Flush and queue deletion waiting for it (R196, R209), and the end of a reservation (R74, R212, R234).
-/

namespace Sys2Proof.Machine

/-- Key of a controller's queue among the queues: the admin queue lies at 16,384 + CNTLID − 1, as its doorbell does (R197). -/
def adminKey (cntl : Nat) : Nat := 16384 + cntl - 1

/-- The key of a controller's submission or completion queue by its local QID (R193). -/
def State.queueKey (s : State) (cntl qid : Nat) : Option Nat :=
  if qid = 0 then (if NMap.has s.nvq.sqs (adminKey cntl) then some (adminKey cntl) else none)
  else ((s.nvq.sqs.find? (fun p => decide (p.2.cntl = cntl ∧ p.2.qid = qid))).map (·.1))

/-- The same for a completion queue, which may exist alone. -/
def State.cqKey (s : State) (cntl qid : Nat) : Option Nat :=
  if qid = 0 then (if NMap.has s.nvq.cqs (adminKey cntl) then some (adminKey cntl) else none)
  else ((s.nvq.cqs.find? (fun p => decide (p.2.cntl = cntl ∧ p.2.qid = qid))).map (·.1))

/-- Tally queue number: 0 for every admin queue (Table 18.1). -/
def tallyQueue (key : Nat) : Nat := if key < 16384 then key else 0

def State.updCq (key : Nat) (f : Cq → Cq) (s : State) : State :=
  { s with nvq := { s.nvq with cqs := NMap.upd s.nvq.cqs key f } }

def State.updSq (key : Nat) (f : Sq → Sq) (s : State) : State :=
  { s with nvq := { s.nvq with sqs := NMap.upd s.nvq.sqs key f } }

def State.updCtrl (cntl : Nat) (f : Ctrl → Ctrl) (s : State) : State :=
  { s with nvq := { s.nvq with ctrls := NMap.upd s.nvq.ctrls cntl f } }

/-- A completion queue has no free entry. -/
def Cq.full (q : Cq) : Bool := decide ((q.tail + 1) % q.size = q.head)

/-- Write one entry at the tail; the phase tag flips where the queue wraps. -/
def Cq.push (now : Nat) (q : Cq) : Cq :=
  let t := q.tail + 1
  { q with
    tail := if t = q.size then 0 else t
    phase := if t = q.size then !q.phase else q.phase
    unnotified := if q.ien then q.unnotified + 1 else q.unnotified
    notifyFrom := if q.ien && q.unnotified == 0 then now else q.notifyFrom }

/-- Send the notify of a queue (R203). -/
def State.notifyCq (key : Nat) (s : State) : State :=
  match NMap.find s.nvq.cqs key with
  | some q =>
    if q.unnotified = 0 then s
    else
      (s.updCq key (fun q => { q with unnotified := 0 })).emit
        (.notify (match NMap.find s.nvq.ctrls q.cntl with | some c => c.session | none => 0))
  | none => s

/-- Whether the aggregation threshold of Interrupt Coalescing sends the notify at once (R203): THR in bits [7:0], zero-based,
TIME in bits [15:8]; with TIME 0 nothing is aggregated. -/
def coalesceNow (conf unnotified : Nat) : Bool :=
  decide (conf / 256 % 256 = 0 ∨ conf % 256 < unnotified)

/-- Place an entry in a queue that has room. -/
def State.writeCqe (key : Nat) (c : Cqe) (s : State) : State :=
  match NMap.find s.nvq.cqs key with
  | none => s
  | some q =>
    let s1 := (s.updCq key (Cq.push s.time.now)).emit (.completion q.cntl q.qid c q.phase)
    let conf := match NMap.find s.nvq.ctrls q.cntl with | some x => x.coalesce | none => 0
    if q.ien && coalesceNow conf (q.unnotified + 1) then s1.notifyCq key else s1

/-- Post a completion entry, or hold it while the queue is full (R204). -/
def State.postCqe (key : Nat) (c : Cqe) (s : State) : State :=
  match NMap.find s.nvq.cqs key with
  | none => s
  | some q =>
    if q.full || !q.held.isEmpty then
      (((s.updCq key (fun q => { q with held := q.held ++ [c] })).raise Reg.NVQ_STATUS 2).count
        (ctrQueue (tallyQueue key) 5)).recordOnce 0x6011 key [key]
    else s.writeCqe key c

/-- Post held entries while there is room (R204). -/
def State.postHeld (key : Nat) : Nat → State → State
  | 0, s => s
  | n + 1, s =>
    match NMap.find s.nvq.cqs key with
    | none => s
    | some q =>
      match q.held with
      | [] => s
      | c :: cs =>
        if q.full then s
        else State.postHeld key n ((s.updCq key (fun q => { q with held := cs })).writeCqe key c)

/-! ### Notices (R216) -/

/-- Report the oldest pending notice that is not masked, if a request waits for it. -/
def State.reportNotice (cntl : Nat) (s : State) : State :=
  match NMap.find s.nvq.ctrls cntl with
  | none => s
  | some c =>
    match c.aers, c.notices.find? (fun n => !c.masked.contains n) with
    | cid :: rest, some n =>
      let head := match NMap.find s.nvq.sqs (adminKey cntl) with | some q => q.head | none => 0
      let s1 := (s.updCtrl cntl (fun c =>
        { c with aers := rest, masked := c.masked ++ [n],
                 outstanding := c.outstanding.filter (fun x => !(x.1 == 0 && x.2.1.cid == cid)) })).count (ctrQueue 0 1)
      (s1.postCqe (adminKey cntl) { cid := cid, sct := 0, sc := 0, dw0 := n, dw1 := 0, sqHead := head }).emit
        (.event cntl (n % 256) (n / 256 % 256) (n / 65536))
    | _, _ => s

/-- Raise a notice of a type and information for a log page; type 7h only where configuration bit 31 is set (R216). -/
def State.notice (cntl kind info log : Nat) (s : State) : State :=
  match NMap.find s.nvq.ctrls cntl with
  | none => s
  | some c =>
    let n := kind + info * 256 + log * 65536
    if (kind = 7 ∧ c.aerConf / 2 ^ 31 % 2 = 0) ∨ n ∈ c.notices then s
    else (s.updCtrl cntl (fun c => { c with notices := c.notices ++ [n] })).reportNotice cntl

/-- A notice to every controller. -/
def State.noticeAll (kind info log : Nat) (s : State) : State :=
  (NMap.keys s.nvq.ctrls).foldl (fun s c => s.notice c kind info log) s

/-- A log page was read with RAE = 0: its notices end, and a later one may be reported (R216). -/
def State.clearNotices (cntl log : Nat) (s : State) : State :=
  s.updCtrl cntl (fun c =>
    { c with notices := c.notices.filter (· / 65536 != log), masked := c.masked.filter (· / 65536 != log) })

/-! ### The end of a reservation -/

/-- Take back the push region of a reservation (R212, R234): the region entry of its key leaves use. -/
def State.destroyRegion (key : Nat) (s : State) : State :=
  match NMap.find s.idm.regions (key / 256) with
  | some r =>
    if r.used && r.gen == key % 256 then
      { s with idm := { s.idm with
          regions := NMap.put s.idm.regions (key / 256)
            { r with used := false, gen := (r.gen + 1) % 256, freed := s.time.now }
          pushUsed := s.idm.pushUsed.filter (fun p => p.1 != r.base)
          odUsed := s.idm.odUsed - r.units.length } }
    else s
  | none => s

/-- The index a reservation has at the partner (R60). -/
def partnerIndex (i : Nat) : Nat := if i < 256 then i + 256 else i - 256

/-- Delete a reservation: its held commands become best-effort (R74), its push region ends (R212), event 0x2002 (R62); the partner's
image goes with it (R60), now or at the partner's return (R265). -/
def State.dropResv (idx : Nat) (s : State) : State :=
  match NMap.find s.adm.resv idx with
  | none => s
  | some r =>
    let s1 := if r.pushKey = 0 then s else s.destroyRegion r.pushKey
    let s2 := { s1 with adm := { s1.adm with
      resv := NMap.del s1.adm.resv idx
      held := s1.adm.held.map (fun (h : Held) => if h.resv = some idx then { h with resv := none, forCredit := false } else h) } }
    let s3 := s2.record 0x2002 [idx, r.dqn]
    if s3.mirrors then s3.emit (.commit 0 (.resvDelete (partnerIndex idx)))
    else { s3 with moor := { s3.moor with changes := s3.moor.changes ++ [.resvDelete (partnerIndex idx)] } }

/-- The reservation bound to a queue (R59). -/
def State.resvOf (s : State) (dqn : Nat) : Option Nat :=
  if dqn = 0 then none else ((s.adm.resv.find? (fun p => decide (p.2.dqn = dqn))).map (·.1))

/-! ### Commands that end -/

/-- Opcodes of the commands a Flush waits for (R209): Write, Write Zeroes, Dataset Management. -/
def isWriteOp (op : Nat) : Bool := op == 0x01 || op == 0x08 || op == 0x09

/-- Volume of an NSID (R208). -/
def volOf (nsid : Nat) : Nat := nsid - 1

/-- The Flush commands of a controller's outstanding list that nothing earlier blocks (R209). -/
def readyFlushes : List (Nat × Sqe × Nat) → List (Nat × Sqe × Nat) → List (Nat × Sqe × Nat)
  | _, [] => []
  | before, x :: xs =>
    let blocked := before.any (fun y =>
      y.1 != 0 && isWriteOp y.2.1.opcode && (x.2.1.nsid == 0xFFFFFFFF || x.2.1.nsid == y.2.1.nsid))
    if x.1 != 0 && x.2.1.opcode == 0x00 && !blocked then x :: readyFlushes (before ++ [x]) xs
    else readyFlushes (before ++ [x]) xs

/-- An error completion's entry of log 01h, newest first, at most 256 (Table 9.8). -/
def State.logError (cntl qid cid status : Nat) (s : State) : State :=
  { s with nvq := { s.nvq with errors := ((cntl, qid, cid, status) :: s.nvq.errors).take 256 } }

/-- Number under which the commands of an orphaned controller go on: apart from the CNTLIDs, which may be given again (R206). -/
def orphanKey (cntl : Nat) : Nat := 65536 + cntl % 65536

/-- Number under which the writes of replication frames go on, by session (R274). -/
def replKey (session : Nat) : Nat := 1048576 + session

/-- Post a command's completion and take it off the list of outstanding commands. A controller that is gone has the completion
written to log C3h (R206); the write of a replication frame is answered by a result frame (R274). -/
def State.finish (cntl qid cid sct sc dw0 dw1 : Nat) (s : State) : State :=
  match NMap.find s.nvq.ctrls cntl with
  | none =>
    if replKey 0 ≤ cntl then s.emit (.frameAnswer (cntl - replKey 0) cid (if sct == 0 && sc == 0 then 0 else 2))
    else { s with nvq := { s.nvq with
        orphans := ((cntl % 65536, qid, { cid := cid, sct := sct, sc := sc, dw0 := dw0, dw1 := dw1, sqHead := 0 })
          :: s.nvq.orphans).take 4096 } }
  | some _ =>
    let key := (s.cqKey cntl qid).getD (adminKey cntl)
    let head := match (s.queueKey cntl qid).bind (NMap.find s.nvq.sqs) with | some q => q.head | none => 0
    let ok := sct == 0 && sc == 0
    let s1 := s.updCtrl cntl (fun c =>
      { c with outstanding := c.outstanding.filter (fun x => !(x.1 == qid && x.2.1.cid == cid)) })
    let s2 := s1.count (ctrQueue (tallyQueue key) (if ok then 1 else 2))
    let s3 := if ok then s2 else s2.logError cntl qid cid (statusWord sct sc)
    s3.postCqe key { cid := cid, sct := sct, sc := sc, dw0 := dw0, dw1 := dw1, sqHead := head }

/-- Finish the deletion of a submission queue once no command of it is outstanding (R196). -/
def State.settleDelete (cntl : Nat) (p : Nat × Sq) (s : State) : State :=
  match NMap.find s.nvq.ctrls cntl, p.2.deleting with
  | some c, some cid =>
    if c.outstanding.any (fun x => x.1 == p.2.qid) then s
    else
      let s1 := match s.resvOf p.1 with | some idx => s.dropResv idx | none => s
      let s2 := { s1 with nvq := { s1.nvq with sqs := NMap.del s1.nvq.sqs p.1 } }
      (s2.record 0x6003 [cntl, p.2.qid, p.1]).finish cntl 0 cid 0 0 0 0
  | _, _ => s

/-- What a command's end lets happen: Flush commands complete (R209) and queue deletions end (R196). -/
def State.settle (cntl : Nat) (s : State) : State :=
  match NMap.find s.nvq.ctrls cntl with
  | none => s
  | some c =>
    let s1 := (readyFlushes [] c.outstanding).foldl (fun s x => s.finish cntl x.1 x.2.1.cid 0 0 0 0) s
    (s1.nvq.sqs.filter (fun p => p.2.cntl == cntl && p.2.deleting.isSome)).foldl (fun s p => s.settleDelete cntl p) s1

/-- Complete a command with status `sct`/`sc` and dwords 0 and 1. -/
def State.complete (cntl qid cid sct sc dw0 dw1 : Nat) (s : State) : State :=
  (s.finish cntl qid cid sct sc dw0 dw1).settle cntl

/-- Complete an admin command. -/
def State.completeAdmin (cntl : Nat) (e : Sqe) (sct sc dw0 : Nat) (s : State) : State :=
  s.complete cntl 0 e.cid sct sc dw0 0

/-- A command has been fetched (R199): it stands on its controller's list, and the submission queue's head moves on. -/
def State.fetched (cntl qid : Nat) (e : Sqe) (s : State) : State :=
  let key := (s.queueKey cntl qid).getD (adminKey cntl)
  ((s.updCtrl cntl (fun c => { c with outstanding := c.outstanding ++ [(qid, e, s.time.now)] })).updSq key
    (fun q => { q with head := if q.size ≤ q.head + 1 then 0 else q.head + 1 })).count (ctrQueue (tallyQueue key) 0)

end Sys2Proof.Machine
end

