-- ==== Sys2Proof/Machine/Capacity.lean ====
section
/-!
DEFINITION. The capacity quantities of Table 3.3, the fit conditions F1 to F5 (R61, R278), D_min, and the cuts of R73.
-/

namespace Sys2Proof.Machine

/-- A channel is trained and not retired (R173). -/
def State.channelReady (s : State) (c : Nat) : Bool :=
  (NMap.getD s.flash.chans c (0, 0)).1 == 2 && !s.faults.retired.contains (.channel c)

/-- Ready channels of a port. -/
def State.portChannels (s : State) (p : Nat) : List Nat :=
  ((List.range 8).map (8 * p + ·)).filter s.channelReady

/-- The healthy channels of Table 3.3: those of member modules that have not failed (R173). -/
def State.healthyChannels (s : State) : Nat :=
  ((s.strp.order.filter (fun p => !s.strp.failed.contains p)).map (fun p => (s.portChannels p).length)).sum

/-- Lanes, pairs and links that are not retired. -/
def State.laneOk (s : State) (n : Nat) : Bool :=
  !s.faults.retired.contains (.clane n)
def State.dlaneOk (s : State) (n : Nat) : Bool :=
  !s.faults.retired.contains (.dlane n)
def State.pairOk (s : State) (n : Nat) : Bool := !s.faults.retired.contains (.pair n)
def State.clusterOk (s : State) (n : Nat) : Bool := !s.faults.retired.contains (.cluster n)
def State.lanesOk (s : State) : List Nat := (List.range 32).filter s.laneOk
def State.dlanesOk (s : State) : List Nat := (List.range 16).filter s.dlaneOk
def State.pairsOk (s : State) : List Nat := (List.range 32).filter s.pairOk
def State.clustersOk (s : State) : List Nat := (List.range 8).filter s.clusterOk
def State.decuxLanesOk (s : State) : List Nat :=
  ((List.range 8).map (16 + ·)).filter (fun l => !s.faults.retired.contains (.serdes l))

/-- The largest of a figure over the die models loaded (Table 3.3). -/
def State.maxModel (s : State) (f : DieModel → Nat) : Nat := s.image.models.foldl (fun a m => max a (f m)) 0

/-- c, in units of 1/4,096 page (Table 3.3). -/
def pageCost (k m : Nat) : Nat := ceilDiv (2 * 16448 * (k + m)) (4 * k)

/-- n_pg (Table 3.3). -/
def State.pagesPerChannel (s : State) : Nat := 128 * 7168 / s.maxModel (·.tXfer)

/-- Pages the rebuild and reshape floors take (R181, R185). -/
def State.floorCharge (s : State) (rb rsh : Nat) : Nat :=
  (if s.strp.rebuild.isSome then 4 * (s.strp.k + 1) * rb else 0)
    + (if s.strp.reshape.isSome then 4 * (s.strp.k + 1) * rsh else 0)

/-- P_avail with given floors (Table 3.3, R181). -/
def State.pAvailWith (s : State) (rb rsh : Nat) : Nat :=
  (s.healthyChannels - 8) * s.pagesPerChannel - s.floorCharge rb rsh

/-- P_avail. -/
def State.pAvail (s : State) : Nat :=
  s.pAvailWith (s.regField Reg.STRP_FLOOR 8 0) (s.regField Reg.STRP_FLOOR 24 16)

/-- C_comp, C_ciph and C_peer (Table 3.3). -/
def State.cComp (s : State) : Nat := 8192 * s.lanesOk.length / 10
def State.cCiph (s : State) : Nat := 16384 * s.pairsOk.length / 10
def State.cPeer (s : State) : Nat := s.decuxLanesOk.length * 26214400 / 16448

/-- The Sole value of C_res is in force (Table 3.3, R63). -/
def State.soleCap (s : State) : Bool :=
  match s.service with
  | .sole | .handback | .takeover => true
  | _ => false

/-- C_res and the code of what limits it (Table 3.3, ADM_CAP): 0 nominal, 1 compression, 2 cipher, 3 Decux, 4 overload. -/
def State.cResWith (s : State) (sole : Bool) : Nat × Nat :=
  let terms := [(if sole then 12800 else 6400, 0), (s.cComp, 1), (s.cCiph, 2)]
    ++ (if sole then [] else [(s.cPeer, 3)])
    ++ (if s.md.overload then [(s.regField Reg.GCTL_OVERLOAD 28 16, 4)] else [])
  terms.foldl (fun best t => if t.1 < best.1 then t else best) (if sole then 12800 else 6400, 0)

def State.cRes (s : State) : Nat := (s.cResWith s.soleCap).1

/-- t_ENG: longer while a home volume uses inline dedup (Table 3.3). -/
def State.tEng (s : State) : Nat :=
  if s.nvq.ns.any (fun p => p.2.home && p.2.dedup == 2) then 41140 else 3420

/-- T_path in slots (Table 3.3). -/
def State.tPathWith (s : State) (tEng : Nat) : Nat :=
  ceilDiv (tEng + 2 * s.regField Reg.ADM_PATH 15 0 + 2000 + 4 * s.maxModel (·.tXfer) + s.maxModel (·.tSusp)
    + s.maxModel (·.tProgSlc)) 8192

/-- A set of reservations: what the fit conditions look at. -/
abbrev ResvSet := NMap Resv

def rHome (rs : ResvSet) : Nat := (rs.map (fun p => if p.2.home then p.2.rate else 0)).sum
def rMirror (rs : ResvSet) : Nat := (rs.map (fun p => if p.2.home then 0 else p.2.rate)).sum
def bSum (rs : ResvSet) : Nat := (rs.map (fun p => if p.2.home then p.2.burst else 0)).sum

/-- S_q; none where it is unbounded (Table 3.3). -/
def sQueue (bs cres : Nat) : Option Nat :=
  if bs = 0 then some 0 else if cres = 0 then none else some (ceilDiv (128 * bs) cres)

/-- D_min for push and for pull delivery (Table 3.3); none where S_q is unbounded. -/
def State.dMinOf (s : State) (tEng cres : Nat) (rs : ResvSet) (pull : Bool) : Option Nat :=
  (sQueue (bSum rs) cres).map (fun q => s.tPathWith tEng + s.regField Reg.ADM_CTRL 7 0 + q
    + (if pull then s.regField Reg.ADM_CTRL 15 8 else 0))

def State.dMin (s : State) (pull : Bool) : Option Nat := s.dMinOf s.tEng s.cRes s.adm.resv pull

/-- RT_max of R278, over the synchronous targets of the home links, in slots. -/
def roundTrip (links : NMap Link) : Nat :=
  let rt := (links.map (fun p =>
    if p.2.sync && p.2.home then (p.2.targets.map (fun t => t.2.desc.rtrip)).foldl max 0 else 0)).foldl max 0
  ceilDiv (rt * 1000) 8192

/-- What the fit of a set is judged with. -/
structure FitArgs where
  cres : Nat
  cpeer : Nat
  mirrored : Bool
  cost : Nat
  pages : Nat
  bmax : Nat
  rt : Nat
  dmin : ResvSet → Bool → Option Nat

/-- F2: R × c ≤ P_avail in units of 1/4,096 page (R61). -/
def fitsF2 (a : FitArgs) (rs : ResvSet) : Bool := decide ((rHome rs + rMirror rs) * a.cost ≤ a.pages * 4096)

/-- F1 (R61). -/
def fitsF1Home (a : FitArgs) (rs : ResvSet) : Bool := decide (rHome rs ≤ a.cres)
def fitsF1Mirror (a : FitArgs) (rs : ResvSet) : Bool := !a.mirrored || decide (rMirror rs ≤ a.cpeer)

/-- F3 for every reservation of the set (R61), and F5 with the round trip on top (R278). -/
def fitsD (a : FitArgs) (extra : Nat) (rs : ResvSet) : Bool :=
  rs.all (fun p => match a.dmin rs p.2.pull with | some d => decide (d + extra ≤ p.2.d) | none => false)

/-- F4 (R61). -/
def fitsF4 (a : FitArgs) (rs : ResvSet) : Bool := decide (bSum rs ≤ a.bmax)

/-- The first condition that fails, as a code of Table 3.4; 0 where the set fits. -/
def fitCode (a : FitArgs) (rs : ResvSet) : Nat :=
  if !fitsF1Home a rs then 0x01
  else if !fitsF1Mirror a rs then 0x02
  else if !fitsF2 a rs then 0x03
  else if !fitsD a 0 rs then 0x04
  else if !fitsF4 a rs then 0x05
  else if a.rt != 0 && !fitsD a a.rt rs then 0x07
  else 0

/-- The fit arguments of this head. -/
def State.fitArgs (s : State) : FitArgs :=
  { cres := s.cRes, cpeer := s.cPeer, mirrored := s.mirrors, cost := pageCost s.strp.k s.strp.m, pages := s.pAvail,
    bmax := s.regField Reg.ADM_BURST 15 0, rt := roundTrip s.repl.links,
    dmin := fun rs pull => s.dMinOf s.tEng s.cRes rs pull }

/-! ### Cuts (R73) -/

/-- Indices in reverse order of creation. -/
def newestFirst (rs : ResvSet) : List Nat :=
  ((rs.map (fun p => (p.2.created, p.1))).mergeSort (fun a b => decide (b.1 ≤ a.1))).map (·.2)

/-- The least lowering of a rate that lets F1 and F2 hold, or the whole rate. -/
def rateExcess (a : FitArgs) (rs : ResvSet) (r : Resv) : Nat :=
  let f2 := if a.cost = 0 then 0 else (rHome rs + rMirror rs) - a.pages * 4096 / a.cost
  let f1 := if r.home then rHome rs - a.cres else (if a.mirrored then rMirror rs - a.cpeer else 0)
  min r.rate (max f1 f2)

/-- Cut rates, newest first, only as far as needed (R73): the new set, and the cuts made. -/
def cutRates (a : FitArgs) : List Nat → ResvSet → ResvSet × List (Nat × Nat × Nat)
  | [], rs => (rs, [])
  | i :: is, rs =>
    match NMap.find rs i with
    | none => cutRates a is rs
    | some r =>
      let x := rateExcess a rs r
      if x = 0 then cutRates a is rs
      else
        let (rs', cs) := cutRates a is (NMap.put rs i { r with rate := r.rate - x, cut := true })
        (rs', (i, r.rate, r.rate - x) :: cs)

/-- Whether F3 and F4 hold. -/
def burstsFit (a : FitArgs) (rs : ResvSet) : Bool := fitsD a 0 rs && fitsF4 a rs

/-- The largest burst at or below `n` with which F3 and F4 hold, else 0. -/
def burstFor (a : FitArgs) (rs : ResvSet) (i : Nat) (r : Resv) : Nat → Nat
  | 0 => 0
  | n + 1 =>
    if burstsFit a (NMap.put rs i { r with burst := n + 1 }) then n + 1 else burstFor a rs i r n

/-- Cut bursts in the same order (R73); credit is clipped to the new burst (R74). -/
def cutBursts (a : FitArgs) : List Nat → ResvSet → ResvSet × List (Nat × Nat × Nat)
  | [], rs => (rs, [])
  | i :: is, rs =>
    match NMap.find rs i with
    | none => cutBursts a is rs
    | some r =>
      if burstsFit a rs || !r.home || r.burst == 0 then cutBursts a is rs
      else
        let b := burstFor a rs i r r.burst
        let (rs', cs) :=
          cutBursts a is (NMap.put rs i { r with burst := b, credit := min r.credit b, cut := true })
        (rs', (i, r.burst, b) :: cs)

/-- The event of a cut, 0x2201 (rate) or 0x2202 (burst), with the notice to the host of a home reservation (R73, R216). -/
def State.noteCut (code i old new : Nat) (s : State) : State :=
  let s1 := (s.record code [i, old, new]).raise Reg.ADM_STATUS 2
  match NMap.find s1.adm.resv i with
  | some r => if r.home then s1.notice r.cntl 7 0 0xC0 else s1
  | none => s1

/-- Record the cuts of one kind, and tell the partner, at which they take effect too (R73). -/
def State.reportCuts (code : Nat) (cs : List (Nat × Nat × Nat)) (s : State) : State :=
  cs.foldl (fun s (c : Nat × Nat × Nat) =>
    let s1 := s.noteCut code c.1 c.2.1 c.2.2
    match NMap.find s1.adm.resv c.1 with
    | some r => if s1.mirrors then s1.emit (.commit 0 (.resvCut (partnerIndex c.1) r.rate r.burst)) else s1
    | none => s1) s

/-- A cut that the partner made takes effect here too (R73). -/
def State.takeCut (i rate burst : Nat) (s : State) : State :=
  match NMap.find s.adm.resv i with
  | none => s
  | some r =>
    let x := { r with rate := rate, burst := burst, credit := min r.credit burst, cut := true }
    let s1 := { s with adm := { s.adm with resv := NMap.put s.adm.resv i x } }
    let s2 := if rate = r.rate then s1 else s1.noteCut 0x2201 i r.rate rate
    if burst = r.burst then s2 else s2.noteCut 0x2202 i r.burst burst

/-- Cut what no longer fits (R73). -/
def State.cuts (s : State) : State :=
  let a := s.fitArgs
  let order := newestFirst s.adm.resv
  let (r1, c1) := cutRates a order s.adm.resv
  let (r2, c2) := cutBursts a order r1
  (({ s with adm := { s.adm with resv := r2 } }.reportCuts 0x2201 c1).reportCuts 0x2202 c2)

/-- The quantities of Table 3.3 that event 0x2200 reports; an unbounded D_min shows as all ones. -/
def State.quantities (s : State) : List Nat :=
  [s.cRes, s.pAvail, (s.dMin false).getD (2 ^ 64 - 1), (s.dMin true).getD (2 ^ 64 - 1)]

/-- The quantities of Table 3.3 a retirement or an overload can change (R73). -/
def State.budget (s : State) : List Nat := s.quantities ++ [s.cComp, s.cCiph, s.cPeer]

/-- Recompute the budget after a change of `old` quantities: event 0x2200 where one changed, then the cuts (R73). -/
def State.recompute (old : List Nat) (s : State) : State :=
  if s.budget = old then s else (s.record 0x2200 s.quantities).cuts

end Sys2Proof.Machine
end

