-- ==== Sys2Proof/Machine/Seal.lean ====
section
/-!
DEFINITION. Key slots as the links use them: the invocation counter of a GCM slot, its limit, and rekey due (R328, R329).
-/

namespace Sys2Proof.Machine

def State.updSlot (n : Nat) (f : Slot → Slot) (s : State) : State :=
  { s with ciph := { s.ciph with slots := NMap.upd s.ciph.slots n f } }

/-- The phase slots a KEYID names (R330). -/
def keySlot (keyid : Nat) (phase : Bool) : Nat := if phase then keyid / 2 ^ 16 % 8192 else keyid % 8192

/-- Rekey due and exhaustion of a slot, judged after its counter or its limit changed: events 0x9010 and 0x9011 (R329; log 15). -/
def State.judgeSlot (n : Nat) (s : State) : State :=
  match NMap.find s.ciph.slots n with
  | none => s
  | some k =>
    let s1 := if !k.due && decide (k.limit - k.limit / 8 ≤ k.ctr) then
        ((s.updSlot n (fun k => { k with due := true })).raise Reg.CIPH_STATUS 0x20).record 0x9010 [n, k.ctr]
      else s
    if !k.exhausted && decide (k.limit ≤ k.ctr) then
      (s1.updSlot n (fun k => { k with exhausted := true })).record 0x9011 [n]
    else s1

/-- Take the current counter of a slot for a seal and advance it (R328); none where the slot refuses (R329). -/
def State.takeCounter (n : Nat) (s : State) : Option Nat × State :=
  match NMap.find s.ciph.slots n with
  | none => (none, s)
  | some k =>
    if k.exhausted || decide (k.limit ≤ k.ctr) then (none, s.raise Reg.CIPH_STATUS 0x40)
    else (some k.ctr, (s.updSlot n (fun k => { k with ctr := k.ctr + 1 })).judgeSlot n)

/-- References to a slot rise and fall (R326, R330). -/
def State.refSlot (n : Nat) (s : State) : State := s.updSlot n (fun k => { k with refs := k.refs + 1 })
def State.unrefSlot (n : Nat) (s : State) : State := s.updSlot n (fun k => { k with refs := k.refs - 1 })

/-- A slot is a GCM slot that holds a key (R330). -/
def State.gcmReady (s : State) (n : Nat) : Bool :=
  match NMap.find s.ciph.slots n with | some k => k.gcm | none => false

/-- The staged key bytes and CIPH_LIMSET are zeroed (R333). -/
def State.zeroKeys (s : State) : State :=
  [Origin.spi, Origin.core, Origin.inband].foldl (fun (s : State) o => s.stage o Reg.CIPH_LIMSET_LO 0)
    { s with ciph := { s.ciph with keys := [], limset := 0 } }

end Sys2Proof.Machine
end

