-- ==== Sys2Proof/Machine/Wire.lean ====
section
/-!
DEFINITION. Sending on a session: sequence numbers and the window (R227), sealing (R241), acknowledgements (R228), and operations
cut into packets (R221, R232).
-/

namespace Sys2Proof.Machine

def State.updSession (n : Nat) (f : Session → Session) (s : State) : State :=
  { s with idm := { s.idm with sessions := NMap.upd s.idm.sessions n f } }

def State.session? (s : State) (n : Nat) : Option Session := NMap.find s.idm.sessions n

/-- PSN a is later than b (R227). -/
def psnLater (a b : Nat) : Bool :=
  let d := (a + 2 ^ 32 - b % 2 ^ 32) % 2 ^ 32
  decide (1 ≤ d ∧ d < 2 ^ 31)

/-- The next PSN. -/
def psnNext (a : Nat) : Nat := (a + 1) % 2 ^ 32

/-- A packet with every field clear but its opcode. -/
def blankPacket (opcode : Nat) : Packet :=
  { ver := 1, opcode := opcode, fence := false, first := true, last := true, retx := false, sealed := false, kphase := false,
    group := false, reserved := false, dsess := 0, queue := 0, len := 0, psn := 0, xid := 0, key := 0, offset := 0, aux := 0,
    payload := [], ctr := 0, tag := 0 }

/-- Put a packet on the wire, or in line for a cipher pair on a sealed session (R241, R323). -/
def State.transmit (n : Nat) (p : Packet) (s : State) : State :=
  match s.session? n with
  | none => s
  | some x =>
    if x.sealed then s.updSession n (fun x => { x with toSeal := x.toSeal ++ [p] })
    else ((s.updSession n (fun x => { x with lastTx := s.time.now })).emit (.packet n p)).count (ctrSession n 0)

/-- Lane a packet of the Decux link leaves on: the healthy lanes in turn (log 18). -/
def State.laneFor (s : State) (x : Session) (psn : Nat) : Nat :=
  if x.port = 0xFF then
    let l := s.decuxLanesOk
    if l.isEmpty then 0 else l.getD (psn % l.length) 0
  else 0

/-- Send a sequenced packet that has its PSN: it is unacknowledged from now on. -/
def State.launch (n : Nat) (p : Packet) (s : State) : State :=
  match s.session? n with
  | none => s
  | some x =>
    let u : Sent := { packet := p, firstTick := s.time.now, lastTick := s.time.now, retry := 0, notBefore := 0,
                      lane := s.laneFor x p.psn }
    (s.updSession n (fun x => { x with unacked := x.unacked ++ [u] })).transmit n p

/-- Number a packet and send it, or let it wait for the window (R227). -/
def State.sendSeq (n : Nat) (p : Packet) (s : State) : State :=
  match s.session? n with
  | none => s
  | some x =>
    let q := { p with psn := x.nextPsn, dsess := x.peer }
    let s1 := s.updSession n (fun x => { x with nextPsn := psnNext x.nextPsn })
    if x.sendq.isEmpty && decide (x.unacked.length < 2 ^ x.wlog2) then s1.launch n q
    else s1.updSession n (fun x => { x with sendq := x.sendq ++ [q] })

/-- Send what the window now has room for, oldest first. -/
def State.drainQueue (n : Nat) : Nat → State → State
  | 0, s => s
  | k + 1, s =>
    match s.session? n with
    | none => s
    | some x =>
      match x.sendq with
      | [] => s
      | p :: rest =>
        if x.unacked.length < 2 ^ x.wlog2 then
          State.drainQueue n k ((s.updSession n (fun x => { x with sendq := rest })).launch n p)
        else s

/-- Send a packet again, with RETX set; on a sealed session it is sealed again under a new counter (R229, R241). -/
def State.resend (n psn : Nat) (s : State) : State :=
  match (s.session? n).bind (fun x => x.unacked.find? (fun u => u.packet.psn == psn)) with
  | none => s
  | some u =>
    let again := fun (v : Sent) => if v.packet.psn = psn then { v with lastTick := s.time.now } else v
    ((s.updSession n (fun x => { x with unacked := x.unacked.map again })).transmit n { u.packet with retx := true }).count
      (ctrSession n 2)

/-- The 32-byte bitmap of an ACK (R228). -/
def ackBitmap (x : Session) : List Byte :=
  leBytes 32 ((x.got.filter (fun g => decide ((g + 2 ^ 32 - x.cum) % 2 ^ 32 < 256))).foldl
    (fun a g => a ||| 2 ^ ((g + 2 ^ 32 - x.cum) % 2 ^ 32)) 0)

/-- Send an ACK (R228). -/
def State.sendAck (n : Nat) (s : State) : State :=
  match s.session? n with
  | none => s
  | some x =>
    (s.updSession n (fun x => { x with sinceAck := 0, ackFrom := 0 })).transmit n
      { blankPacket 6 with dsess := x.peer, psn := x.cum, len := 32, aux := x.wlog2, payload := ackBitmap x }

/-- Send a STATUS for a packet (Table 10.3): the failed PSN, the code and the back-off hint. -/
def State.sendStatus (n : Nat) (p : Packet) (code hint : Nat) (s : State) : State :=
  (s.sendSeq n { blankPacket 5 with queue := p.queue, xid := p.xid, offset := p.psn, aux := code + hint * 65536 }).count
    (ctrSession n (if code = 4 then 6 else 5))

/-- Send a REKEY once the slot of the present phase is due and the other phase slot holds a key that is not (R243). -/
def State.offerRekey (n : Nat) (s : State) : State :=
  match s.session? n with
  | none => s
  | some x =>
    let due := match NMap.find s.ciph.slots (keySlot x.keyid x.phaseTx) with | some k => k.due | none => false
    let ready := match NMap.find s.ciph.slots (keySlot x.keyid (!x.phaseTx)) with
      | some k => k.gcm && !k.due && !k.exhausted | none => false
    if !x.sealed || x.state != 2 || x.rekeyPsn.isSome || !due || !ready then s
    else
      let psn := x.nextPsn
      (s.sendSeq n { blankPacket 12 with aux := b2n (!x.phaseTx) }).updSession n (fun x => { x with rekeyPsn := some psn })

/-- Every session whose slot is due is offered a REKEY. -/
def State.offerRekeys (s : State) : State :=
  (s.idm.sessions.map (·.1)).foldl (fun (s : State) (n : Nat) => s.offerRekey n) s

/-- Cut a write's bytes into packets of at most 8,192 bytes (R221). -/
def cutWrite (fuel : Nat) (first fence : Bool) (queue xid key offset : Nat) (bytes : List Byte) : List Packet :=
  match fuel with
  | 0 => []
  | fuel + 1 =>
    let now := bytes.take 8192
    let rest := bytes.drop 8192
    { blankPacket 1 with fence := fence, first := first, last := rest.isEmpty, queue := queue, xid := xid, key := key,
                         offset := offset, len := now.length, payload := now }
      :: (if rest.isEmpty then [] else cutWrite fuel false fence queue xid key (offset + 8192) rest)

/-- Start an operation: its packets are sent, and it stays outstanding until R232 completes it. -/
def State.startOp (n queue : Nat) (owner : OpOwner) (group : Option Nat) (read : Bool) (len : Nat) (ps : List Packet)
    (s : State) : State :=
  match s.session? n with
  | none => s
  | some x =>
    let op : Op := { owner := owner, xid := s.idm.nextXid, queue := queue, read := read,
                     psns := (List.range ps.length).map (fun i => (x.nextPsn + i) % 2 ^ 32), bytesLeft := len, group := group,
                     buf := none }
    let s1 := s.updSession n (fun x => { x with ops := x.ops ++ [op] })
    let s2 := { s1 with idm := { s1.idm with nextXid := (s1.idm.nextXid + 1) % 2 ^ 32 } }
    ps.foldl (fun s p => s.sendSeq n { p with xid := op.xid, group := group.isSome }) s2

/-- Write bytes to a region of the peer (a WRITE operation). -/
def State.remoteWrite (n queue : Nat) (owner : OpOwner) (fence : Bool) (key offset : Nat) (bytes : List Byte) (s : State) :
    State :=
  s.startOp n queue owner none false bytes.length (cutWrite (bytes.length / 8192 + 1) true fence queue 0 key offset bytes)

/-- Ask for bytes of a region of the peer (a READ_REQ operation). -/
def State.remoteRead (n queue : Nat) (owner : OpOwner) (key offset len : Nat) (s : State) : State :=
  s.startOp n queue owner none true len
    [{ blankPacket 2 with queue := queue, key := key, offset := offset, aux := len }]

/-- The session of a controller. -/
def State.ctrlSession (s : State) (cntl : Nat) : Nat :=
  match NMap.find s.nvq.ctrls cntl with | some c => c.session | none => 4096

/-- Deliver data of a command to its host (R201). -/
def State.toHost (cntl queue : Nat) (owner : OpOwner) (key offset : Nat) (bytes : List Byte) (s : State) : State :=
  s.remoteWrite (s.ctrlSession cntl) queue owner false key offset bytes

end Sys2Proof.Machine
end

