-- ==== Sys2Proof/Machine/LedgerOps.lean ====
section
/-!
DEFINITION. The Ledger (16_ledger_flash.md): places and content (R336, R337, R348), refusals (R342), programs, erases, suspends and
their ends (R343 to R347), work that waits (R401), the recorder ring (R350, R380, R381), and parameter entries (R349).
-/

namespace Sys2Proof.Machine

/-! ### Places -/

/-- Internal address of the Ledger window, and its bytes (Table 13.1). -/
def ldgBase : Nat := 0x100000000
def ldgSize : Nat := 0x4000000

/-- Offset in the Ledger of an internal address. -/
def ldgOffset (a : Nat) : Option Nat := if ldgBase ≤ a ∧ a < ldgBase + ldgSize then some (a - ldgBase) else none

/-- Bank of an offset (R336). -/
def ldgBank (o : Nat) : Nat := o / 0x2000000

/-- Sector number in its bank, coded as LDG_BSTAT.SECTOR: 0–7 P0–P7, 8–262 main 0–254 (Table 16.8). -/
def ldgSector (o : Nat) : Nat :=
  let x := o % 0x2000000
  if x < 0x20000 then x / 0x4000 else 7 + x / 0x20000

/-- First offset and length of a sector (R336). -/
def sectorBase (bank sec : Nat) : Nat := bank * 0x2000000 + (if sec < 8 then sec * 0x4000 else (sec - 7) * 0x20000)
def sectorSize (sec : Nat) : Nat := if sec < 8 then 0x4000 else 0x20000

/-- Key of a sector among the sectors of both banks. -/
def sectorKey (bank sec : Nat) : Nat := bank * 512 + sec

def State.sector (s : State) (bank sec : Nat) : Sector := NMap.getD s.ldg.sectors (sectorKey bank sec) {}

def State.updSector (bank sec : Nat) (f : Sector → Sector) (s : State) : State :=
  { s with ldg := { s.ldg with sectors := NMap.put s.ldg.sectors (sectorKey bank sec) (f (s.sector bank sec)) } }

def State.bank (s : State) (b : Nat) : Bank := if b = 0 then s.ldg.bankA else s.ldg.bankB

def State.updBank (b : Nat) (f : Bank → Bank) (s : State) : State :=
  if b = 0 then { s with ldg := { s.ldg with bankA := f s.ldg.bankA } }
  else { s with ldg := { s.ldg with bankB := f s.ldg.bankB } }

/-- A byte of the array as it stands, whether its bank is busy or not (R337, R348). -/
def State.ldgByte (s : State) (o : Nat) : Byte :=
  match (s.sector (ldgBank o) (ldgSector o)).undef, NMap.find s.ldg.undef (o / 32) with
  | some n, _ => Config.undefByte n o
  | none, some n => Config.undefByte n o
  | none, none => Memory.read 0xFF s.ldg.cells o

def State.ldgBytes (s : State) (o n : Nat) : List Byte := (List.range n).map (fun i => s.ldgByte (o + i))

/-- All bytes of a range read FFh (R337). -/
def State.ldgErased (s : State) (o n : Nat) : Bool := (s.ldgBytes o n).all (· == 0xFF)

/-- Whether anything stands in a sector. -/
def State.sectorBlank (s : State) (bank sec : Nat) : Bool :=
  let lo := sectorBase bank sec
  let hi := lo + sectorSize sec
  let x := s.sector bank sec
  !x.pending && x.undef.isNone && !s.ldg.cells.any (fun c => decide (lo ≤ c.1 ∧ c.1 < hi))
    && !s.ldg.undef.any (fun c => decide (lo ≤ 32 * c.1 ∧ 32 * c.1 < hi))

/-- Sector that a bank's operation works on. -/
def Bank.sectorOf (k : Bank) : Option Nat :=
  match k.prog with | some p => some (ldgSector p.addr) | none => k.erase

/-- LDG_BSTAT.STATE: 0 idle, 1 programming, 2 erasing, 4 suspended; a suspend takes no time of its own (log 22). -/
def Bank.state (k : Bank) : Nat :=
  match k.prog, k.erase with
  | some _, _ => 1
  | none, some _ => if k.suspended then 4 else 2
  | none, none => 0

/-- An offset lies in busy memory (R338). -/
def State.ldgBusy (s : State) (o : Nat) : Bool :=
  let k := s.bank (ldgBank o)
  match k.prog, k.erase with
  | some _, _ => true
  | none, some sec => !k.suspended || sec == ldgSector o
  | none, none => false

/-- A read met busy memory (R338). -/
def State.busyRead (o path : Nat) (s : State) : State :=
  (s.raise Reg.LDG_STATUS 1).recordOnce 0xA100 0 [ldgBank o, ldgBase + o, path]

/-! ### The recorder ring (R350) -/

/-- Number of ring sectors: main 124 to 254 of both banks. -/
def ringCount : Nat := 262

/-- Bank and sector of a place in the ring's order: A124, B124, A125, … -/
def ringBank (i : Nat) : Nat := i % 2
def ringSec (i : Nat) : Nat := 132 + i / 2

/-- Place in the ring of an offset's sector. -/
def ringOf (o : Nat) : Option Nat :=
  let sec := ldgSector o
  if 132 ≤ sec then some ((sec - 132) * 2 + ldgBank o) else none

/-- The next place of the ring whose sector is not WORN (R346, R350). -/
def State.ringNext (s : State) (i : Nat) : Nat :=
  match ((List.range ringCount).map (fun n => (i + 1 + n) % ringCount)).find?
      (fun n => !(s.sector (ringBank n) (ringSec n)).worn) with
  | some n => n
  | none => (i + 1) % ringCount

/-- Records of a ring sector from a byte on: their sequence numbers (R381). A record whose CRC fails is passed over by 32 bytes. -/
def State.walkRing (s : State) (base : Nat) : Nat → Nat → List Nat
  | 0, _ => []
  | n + 1, off =>
    if 0x20000 ≤ off then []
    else
      let len := leNat (s.ldgBytes (base + off) 2)
      if len = 0xFFFF then []
      else
        let ok := decide (len ≠ 0 ∧ len % 32 = 0 ∧ len ≤ 128 ∧ off + len ≤ 0x20000) &&
          decide ((crc32c (s.ldgBytes (base + off) (len - 4))).toNat = leNat (s.ldgBytes (base + off + len - 4) 4))
        if ok then leNat (s.ldgBytes (base + off + 8) 8) :: State.walkRing s base n (off + len)
        else State.walkRing s base n (off + 32)

/-- Sequence numbers of the records in a place of the ring. -/
def State.ringSeqs (s : State) (i : Nat) : List Nat := s.walkRing (sectorBase (ringBank i) (ringSec i)) 4096 0

/-- Records programmed in the ring leave the unflushed tail, in the order of their sequence numbers. -/
def flushTo (programmed : List Nat) : Nat → List EventRec → Nat
  | f, [] => f
  | f, e :: es => if e.seq ≤ f then flushTo programmed f es
                  else if programmed.contains e.seq then flushTo programmed e.seq es else f

/-- What room in the tail brings: the report of lost records (R380), and the request line taken back once the tail is empty. -/
def State.tailRoom (s : State) : State :=
  let s1 := if s.rcdr.lost ≠ 0 ∧ s.tailBytes + eventLen 1 ≤ 4096 then
      ({ s with rcdr := { s.rcdr with lost := 0 } }).record 0xB001 [s.rcdr.lost]
    else s
  if s1.tailBytes = 0 then s1.deassertLine 2 else s1

/-- A flush the Ledger refused is retried at the next sector of the ring (R380). -/
def State.flushRefused (i code : Nat) (s : State) : State :=
  let s1 := { s with rcdr := { s.rcdr with ringSector := s.ringNext i, ringOffset := 0, flushing := false } }
  (s1.raise Reg.RCDR_STATUS 2).record 0xB004 [ringSec i, code]

/-! ### Results and refusals -/

/-- Give a result to whoever asked (R340, R341). -/
def State.ldgResult (asker code : Nat) (s : State) : State :=
  match asker with
  | 0 => { s with ldg := { s.ldg with result := code } }.emit (.romResult code)
  | 1 => { s with ldg := { s.ldg with wstat := code, wbusy := false } }
  | 2 => { s with ldg := { s.ldg with result := code } }.emit (.romResult code)
  | _ => s

/-- An operation is refused (R342). -/
def State.ldgRefuse (asker bank sec code : Nat) (s : State) : State :=
  ((s.raise Reg.LDG_STATUS 4).record 0xA102 [bank, sec, code]).ldgResult asker code

/-- A mode in which Ledger operations are refused with MODE (R342). -/
def Mode.ldgStops : Mode → Bool
  | .reset | .slack | .locked => true
  | _ => false

/-- The refusal code of a program, 0 if none: Table 16.3 in its order. A ROM routine's program suspends a running erase (R340); one
from the command window finds its bank busy. -/
def State.progCode (s : State) (asker : Nat) (o : Option Nat) (len : Nat) : Nat :=
  match o with
  | none => if s.md.mode.ldgStops then 2 else 3
  | some o =>
    let k := s.bank (ldgBank o)
    let sec := ldgSector o
    let x := s.sector (ldgBank o) sec
    let lines := (List.range (len / 32)).map (fun i => o + 32 * i)
    if k.prog.isSome || k.held.isSome || (asker == 1 && k.erase.isSome && !k.suspended) then 1
    else if s.md.mode.ldgStops || (s.md.mode == .holdup && !(decide (sec < 8) || decide (132 ≤ sec))) then 2
    else if len = 0 ∨ 256 < len ∨ len % 32 ≠ 0 ∨ o % 32 ≠ 0 ∨ o / 256 ≠ (o + len - 1) / 256 then 3
    else if k.erase = some sec then 5
    else if x.worn then 6
    else if x.pending || !lines.all (fun a => s.ldgErased a 32) then 7
    else 0

/-- The refusal code of an erase. -/
def State.eraseCode (s : State) (o : Option Nat) : Nat :=
  match o with
  | none => if s.md.mode.ldgStops || s.md.mode == .holdup then 2 else 3
  | some o =>
    let k := s.bank (ldgBank o)
    if k.prog.isSome || k.erase.isSome || k.held.isSome then 1
    else if s.md.mode.ldgStops || s.md.mode == .holdup then 2
    else if (s.sector (ldgBank o) (ldgSector o)).worn then 6
    else 0

/-! ### Suspends and programs -/

/-- LDG_MINRUN in ticks (R344). -/
def minRun : Nat := 5000000

/-- Modes in which a suspend waits for LDG_MINRUN (R344). -/
def Mode.guardsErase : Mode → Bool
  | .boot | .bench | .preservation => true
  | _ => false

/-- Carry out a suspend, and the program that waits for it (R343, R344). -/
def State.doSuspend (b : Nat) (p : Option LdgProg) (s : State) : State :=
  s.updBank b (fun k => { k with
    suspended := true, suspends := satTo 16 (k.suspends + 1), held := none
    prog := match p with | some q => some { q with resume := true } | none => k.prog })

/-- Ask for a suspend of a bank's running erase: at once, or held until LDG_MINRUN has run (R344). -/
def State.askSuspend (b asker : Nat) (p : Option LdgProg) (s : State) : State :=
  if s.md.mode.guardsErase && decide (s.time.now < (s.bank b).runFrom + minRun) then
    s.updBank b (fun k => { k with held := some (asker, p) })
  else
    let s1 := s.doSuspend b p
    if p.isNone then s1.ldgResult asker 0 else s1

/-- Let a suspended erase run again; not in Holdup, whose erases are never resumed (R344). -/
def State.doResume (b : Nat) (s : State) : State :=
  if s.md.mode = .holdup then s
  else s.updBank b (fun k => if k.erase.isSome then { k with suspended := false, runFrom := s.time.now } else k)

/-- Start a program whose refusals are judged; while VPP_LDG is low it waits (R401). -/
def State.startProg (p : LdgProg) (s : State) : State :=
  let b := ldgBank p.addr
  let k := s.bank b
  if s.ldg.vppLow then { s with ldg := { s.ldg with waiting := s.ldg.waiting ++ [.prog p] } }
  else if k.erase.isSome && !k.suspended then s.askSuspend b p.asker (some p)
  else s.updBank b (fun k => { k with prog := some p })

/-- Start the erase of a sector. -/
def State.startSectorErase (b sec : Nat) (s : State) : State :=
  s.updBank b (fun k => { k with
    erase := some sec, suspended := false, eraseStart := s.time.now, runFrom := s.time.now, suspends := 0, retried := false,
    aged := false })

/-- Start the work that waits and now may run, in order (R349, R350, R401). -/
def State.pumpLedger : Nat → State → State
  | 0, s => s
  | n + 1, s =>
    match s.ldg.waiting with
    | [] => s
    | j :: rest =>
      let s1 := { s with ldg := { s.ldg with waiting := rest } }
      if s.ldg.vppLow then s
      else
        match j with
        | .prog p =>
          let c := s.progCode 0 (some p.addr) p.bytes.length
          if c = 1 then s
          else if c = 0 then State.pumpLedger n (s1.startProg p)
          else
            let s2 := s1.ldgRefuse p.asker (ldgBank p.addr) (ldgSector p.addr) c
            State.pumpLedger n (match ringOf p.addr with | some i => s2.flushRefused i c | none => s2)
        | .erase a =>
          let c := s.eraseCode (some a)
          if c = 1 then s
          else if c = 0 then State.pumpLedger n (s1.startSectorErase (ldgBank a) (ldgSector a))
          else State.pumpLedger n (s1.ldgRefuse 3 (ldgBank a) (ldgSector a) c)

/-- Let waiting work run. -/
def State.pump (s : State) : State := s.pumpLedger s.ldg.waiting.length

/-- Put work in line. -/
def State.queueLedger (js : List LdgJob) (s : State) : State :=
  { s with ldg := { s.ldg with waiting := s.ldg.waiting ++ js } }.pump

/-! ### The ring's write point -/

/-- Keep two erased sectors ahead of the write point (R350); in Holdup no erase starts (Table 16.3). -/
def State.keepAhead (s : State) : State :=
  if s.md.mode = .holdup then s else
  let a := s.ringNext s.rcdr.ringSector
  let b := s.ringNext a
  let want := [a, b].filter (fun i =>
    let base := sectorBase (ringBank i) (ringSec i)
    !s.sectorBlank (ringBank i) (ringSec i) && (s.bank (ringBank i)).erase != some (ringSec i)
      && !s.ldg.waiting.contains (.erase base))
  s.queueLedger (want.map (fun i => LdgJob.erase (sectorBase (ringBank i) (ringSec i))))

/-- A program in the ring ended: its records are flushed, and the write point lies behind it. -/
def State.ringProgrammed (i o len : Nat) (s : State) : State :=
  let done := s.ringSeqs i
  let offset := o + len - sectorBase (ringBank i) (ringSec i)
  let moved := s.rcdr.ringSector ≠ i
  let s1 := { s with rcdr := { s.rcdr with
    flushedTo := flushTo done s.rcdr.flushedTo s.rcdr.recs, ringSector := i,
    ringOffset := if moved then offset else max s.rcdr.ringOffset offset } }
  (if moved then s1.keepAhead else s1).tailRoom

/-! ### Parameter entries (R349) -/

/-- Programs that run, wait for a suspend, or wait in line. -/
def State.progsInLine (s : State) : List LdgProg :=
  (s.ldg.waiting.filterMap (fun (j : LdgJob) => match j with | .prog p => some p | .erase _ => none))
    ++ [s.ldg.bankA, s.ldg.bankB].filterMap (fun (k : Bank) => k.prog)
    ++ [s.ldg.bankA, s.ldg.bankB].filterMap (fun (k : Bank) => k.held.bind (·.2))

/-- The pages of a parameter sector. -/
def sectorPages (bank sec : Nat) : List Nat := (List.range 64).map (fun i => sectorBase bank sec + 256 * i)

/-- The valid entries of a bank's parameter sectors, and those its work in line will program: TYPE, KEY, GEN, body. -/
def State.paramEntries (s : State) (bank : Nat) : List (Nat × Nat × Nat × List Byte) :=
  ((List.range 8).map (fun sec => (sectorPages bank sec).filterMap (fun o => readParam (s.ldgBytes o 256)))).flatten
    ++ (s.progsInLine.filter (fun p => ldgBank p.addr == bank && p.asker == 3)).filterMap (fun p => readParam p.bytes)

/-- The valid entry of a TYPE and KEY with the largest GEN across both banks. -/
def State.newestParam (s : State) (kind key : Nat) : Option (Nat × List Byte) :=
  ((s.paramEntries 0 ++ s.paramEntries 1).filter (fun e => e.1 == kind && e.2.1 == key)).foldl
    (fun (best : Option (Nat × List Byte)) e => match best with
      | some (g, _) => if g < e.2.2.1 then some e.2.2 else best
      | none => some e.2.2) none

/-- The pages that work in line will program. -/
def State.pagesQueued (s : State) : List Nat := s.progsInLine.map (·.addr)

/-- Sector for entries of a TYPE: P0, P1, or the journal where theirs is WORN (Table 16.1, R346). -/
def State.paramHome (s : State) (kind : Nat) : Option Nat :=
  let own := kind - 1
  if (kind = 1 ∨ kind = 2) ∧ !(s.sector 0 own).worn ∧ !(s.sector 1 own).worn then some own else none

/-- Pages of a sector free for an entry, in both banks alike. -/
def State.freePages (s : State) (sec : Nat) : List Nat :=
  if (s.sector 0 sec).worn || (s.sector 1 sec).worn || (s.sector 0 sec).pending || (s.sector 1 sec).pending then []
  else (List.range 64).filter (fun i =>
    let a := sectorBase 0 sec + 256 * i
    let b := sectorBase 1 sec + 256 * i
    s.ldgErased a 256 && s.ldgErased b 256 && !s.pagesQueued.contains a && !s.pagesQueued.contains b)

/-- The journal sector in use: the one partly filled, else the first free one. -/
def State.journalSector (s : State) : Option Nat :=
  let js := [2, 3, 4, 5, 6, 7]
  match js.find? (fun j => decide (0 < (s.freePages j).length ∧ (s.freePages j).length < 64)) with
  | some j => some j
  | none => js.find? (fun j => decide (0 < (s.freePages j).length))

/-- The two copies of an entry, bank A's first (R349). -/
def entryJobs (sec page : Nat) (bytes : List Byte) : List LdgJob :=
  [0, 1].map (fun b => LdgJob.prog
    { addr := sectorBase b sec + 256 * page, bytes := bytes, asker := 3, retried := false, resume := false })

/-- The newest entries of the journal's TYPEs and keys, copied forward into a sector's first pages. -/
def State.copyForward (s : State) (sec : Nat) : List LdgJob :=
  let all := s.paramEntries 0 ++ s.paramEntries 1
  let keys := ((all.filter (fun e => s.paramHome e.1 == none)).map (fun e => (e.1, e.2.1))).eraseDups
  ((keys.zipIdx).map (fun (k, i) => match s.newestParam k.1 k.2 with
    | some (g, body) => entryJobs sec i (paramEntry k.1 k.2 g body)
    | none => [])).flatten

/-- The oldest journal sector: the first that is not blank, in ring order behind the one in use. -/
def State.oldestJournal (s : State) (now : Nat) : Option Nat :=
  ((List.range 5).map (fun i => 2 + (now - 2 + 1 + i) % 6)).find? (fun j => !s.sectorBlank 0 j || !s.sectorBlank 1 j)

/-- Write a parameter entry with the next GEN, in both banks; a full journal sector is compacted and the oldest erased, bank by bank
(R349). -/
def State.writeParam (kind key : Nat) (body : List Byte) (s : State) : State :=
  let gen := match s.newestParam kind key with | some (g, _) => g + 1 | none => 1
  let bytes := paramEntry kind key gen body
  match s.paramHome kind with
  | some sec =>
    (match s.freePages sec with
     | page :: _ => s.queueLedger (entryJobs sec page bytes)
     | [] =>
       -- the other bank holds the current entry while a bank's full sector is erased
       s.queueLedger ([0, 1].map (fun b => [LdgJob.erase (sectorBase b sec), LdgJob.prog
         { addr := sectorBase b sec, bytes := bytes, asker := 3, retried := false, resume := false }])).flatten)
  | none =>
    match s.journalSector with
    | some sec =>
      (match s.freePages sec with
       | [page] =>
         let next := 2 + (sec - 2 + 1) % 6
         let s1 := s.queueLedger (entryJobs sec page bytes)
         let s2 := s1.queueLedger (s1.copyForward next)
         (match s2.oldestJournal next with
          | some old => s2.queueLedger ([0, 1].map (fun b => LdgJob.erase (sectorBase b old)))
          | none => s2)
       | page :: _ => s.queueLedger (entryJobs sec page bytes)
       | [] => s)
    | none => s

/-! ### What a loss of power or a Reset leaves (R348) -/

/-- Lines of a program that was interrupted. -/
def progLines (p : LdgProg) : List Nat := (List.range (p.bytes.length / 32)).map (fun i => p.addr / 32 + i)

/-- The Ledger after its operations were stopped: interrupted programs leave lines that are not defined, and interrupted erases leave
their sector erase pending. -/
def State.ldgStopped (s : State) : LdgState :=
  let banks := [(0, s.ldg.bankA), (1, s.ldg.bankB)]
  { cells := s.ldg.cells
    undef := banks.foldl (fun (m : NMap Nat) (x : Nat × Bank) => match x.2.prog with
      | some p => (progLines p).foldl (fun m l => NMap.put m l s.time.now) m
      | none => m) s.ldg.undef
    sectors := banks.foldl (fun (m : NMap Sector) (x : Nat × Bank) => match x.2.erase with
      | some sec =>
        let y : Sector := { s.sector x.1 sec with pending := true, undef := some s.time.now }
        NMap.put m (sectorKey x.1 sec) y
      | none => m) s.ldg.sectors }

/-- In Holdup a running erase is suspended at once, and its sector is left erase pending (R344). -/
def State.holdupErases (s : State) : State :=
  [0, 1].foldl (fun (s : State) b =>
    match (s.bank b).erase with
    | some sec =>
      let s1 := if (s.bank b).suspended then s else s.doSuspend b none
      (s1.updBank b (fun k => { k with held := none })).updSector b sec (fun x => { x with pending := true })
    | none => s) s

end Sys2Proof.Machine
end

