-- ==== Sys2Proof/Machine/Places.lean ====
section
/-!
DEFINITION. Where things lie: the strips of a band and the dies they are on (R86, R138, R174), the records of a stripe and when they are
sealed (R87), map entries and the shared grains they name (R127, R128), and the snapshots that the end of a write makes readable (R131).
-/

namespace Sys2Proof.Machine

/-! ### Namespaces and the map -/

/-- The namespace of a volume number. -/
def State.ns? (s : State) (vol : Nat) : Option Ns := NMap.find s.nvq.ns vol

def State.updNs (vol : Nat) (f : Ns → Ns) (s : State) : State :=
  { s with nvq := { s.nvq with ns := NMap.upd s.nvq.ns vol f } }

/-- A volume this head serves: its own, or one taken over (R22, R263). -/
def Ns.served (n : Ns) : Bool := n.home || n.taken

/-- The current map entry of a grain. -/
def State.mapEnt (s : State) (vol g : Nat) : Option MapEnt := NMap.find s.path.map (grainKey vol g)

/-- The map names stored bytes for a grain: a data record or a shared grain. -/
def MapEnt.stored (e : MapEnt) : Bool := e.kind == 1 || e.kind == 4

/-! ### Bands -/

/-- Total strips of a band's stripes. -/
def Band.width (b : Band) : Nat := b.k + b.m

/-- The port strip `i` of a band lies on: data strip i on member (i + r) mod (k + m), parity strip t on (k + t + r) (R174). -/
def Band.portOf (b : Band) (i : Nat) : Option Nat :=
  if b.width = 0 then none else b.members[(i + b.slot % b.width) % b.width]?

/-- The strips of a band that lie on a port. -/
def Band.stripsOn (b : Band) (port : Nat) : List Nat :=
  (List.range b.width).filter (fun i => b.portOf i == some port)

/-- Device-wide die number of strip `i` of a band: die slot z is local channel z / 16, die z mod 16, or the substitute the band
table names (R138, R174). -/
def Band.dieOf (b : Band) (i : Nat) : Option Nat :=
  (b.portOf i).map (fun p => NMap.getD b.subs p (16 * (8 * p + b.slot / 16) + b.slot % 16))

/-- The die model of a port. -/
def State.portModel (s : State) (port : Nat) : Option DieModel :=
  s.image.models[(NMap.getD s.strp.ports port {}).model]?

/-- Dies in use on a port. -/
def State.portDies (s : State) (port : Nat) : List Nat := s.flash.dies.filter (fun d => d / 128 == port)

/-- Stripes of a landing band: a strip is four pages of a die's block set in SLC mode (R152). -/
def bandStripes (m : DieModel) : Nat := m.wlPerBlk * m.planes / 4

/-- The die that stands in for die slot `z` of a port (R174): its own, else a substitute on another channel of the module. -/
def State.dieAt (s : State) (port z : Nat) : Option Nat :=
  let die := fun ch d => 16 * (8 * port + ch) + d
  let own := die (z / 16) (z % 16)
  if s.flash.dies.contains own then some own
  else
    match ((List.range 7).map (fun i => die ((z / 16 + 1 + i) % 8) (z % 16))).find? s.flash.dies.contains with
    | some d => some d
    | none => ((s.portDies port).filter (fun d => d / 16 != own / 16)).foldl
        (fun a d => match a with | some x => some (min x d) | none => some d) none

/-- Die slots of which every member has a die or a substitute. -/
def State.slotUsable (s : State) (z : Nat) : Bool :=
  s.strp.order.all (fun p => s.strp.failed.contains p || (s.dieAt p z).isSome)

/-- A band in the current stripe shape on die slot `z`, with a substitute die wherever a member has none of its own (R152, R174). -/
def State.makeBand (s : State) (st : StreamId) (dense : Bool) (z : Nat) : Band :=
  { st := st, slot := z, k := s.strp.k, m := s.strp.m, members := s.strp.order, dense := dense,
    subs := s.strp.order.filterMap (fun p =>
      match s.dieAt p z with
      | some d => if d = 16 * (8 * p + z / 16) + z % 16 then none else some (p, d)
      | none => none) |>.foldl (fun m x => NMap.put m x.1 x.2) [],
    sealedBand := false, refresh := false, victim := false }

/-- The die slot of the next band: round robin over the slots in use (log 12). -/
def State.nextSlot (s : State) : Nat :=
  (((List.range 128).map (fun i => (s.path.nextBand + i) % 128)).find? s.slotUsable).getD (s.path.nextBand % 128)

/-- Strip byte position of byte `off` of a band: stripe, strip and byte in the strip. -/
def placeOf (b : Band) (off : Nat) : Nat × Nat × Nat :=
  if b.k = 0 then (0, 0, 0) else (off / (b.k * 65536), off / 65536 % b.k, off % 65536)

/-- The die model of a band's die slot. -/
def State.bandModel (s : State) (band : Nat) : Option DieModel :=
  (NMap.find s.path.bands band).bind (fun b => b.members.head?.bind s.portModel)

def State.stream (s : State) : StreamId → Stream
  | .home => s.path.homeStream
  | .mirror => s.path.mirrorStream

/-- Bytes left in the band of a stream. -/
def State.bandRoom (s : State) (st : StreamId) : Nat :=
  let c := s.stream st
  match NMap.find s.path.bands c.band with
  | none => 0
  | some b =>
    if b.sealedBand || b.st != st then 0
    else
      let n := match (b.members.head?).bind s.portModel with | some m => bandStripes m | none => 0
      (n - c.stripe) * b.k * 65536 - c.pos

/-- Key of a block in the block table. -/
def blockKey (die blk : Nat) : Nat := die * 2 ^ 32 + blk

/-- A block never used. -/
def freshBlock : Block := { slcCycles := 0, denseCycles := 0, dense := false, marked := false, erased := false }

/-- Dies a band's blocks lie on. -/
def Band.dies (b : Band) : List Nat := ((List.range b.width).filterMap b.dieOf).eraseDups

/-- The block a band has on a die. -/
def Band.blockOf (b : Band) (die : Nat) : Nat := NMap.getD b.blks die 0

/-- The block that the band of a number has on a die. -/
def State.blockAt (s : State) (band die : Nat) : Nat :=
  match NMap.find s.path.bands band with | some b => b.blockOf die | none => 0

/-- The band that has a block of a die. -/
def State.bandAt (s : State) (die blk : Nat) : Option Nat :=
  (s.path.bands.find? (fun p => p.2.dies.contains die && NMap.find p.2.blks die == some blk)).map (·.1)

/-- A block of a band is erased, or retired in place of its erase. -/
def State.blockDone (s : State) (b : Band) (die : Nat) : Bool :=
  (NMap.getD s.flash.blocks (blockKey die (b.blockOf die)) freshBlock).erased
    || s.faults.retired.contains (.block die (b.blockOf die))

/-- The blocks of a band are being erased, or have been. -/
def State.bandErasing (s : State) (band : Nat) : Bool :=
  match NMap.find s.path.bands band with
  | some b => s.flash.erases.any (fun e => b.dies.contains e.die && e.block == b.blockOf e.die) || b.dies.any (s.blockDone b)
  | none => true

/-- Program and erase cycles of a block in one mode. -/
def State.cycles (s : State) (dense : Bool) (die blk : Nat) : Nat :=
  let k := NMap.getD s.flash.blocks (blockKey die blk) freshBlock
  if dense then k.denseCycles else k.slcCycles

/-- Sum of the cycles of some dies' blocks in one mode. -/
def State.cycleSum (s : State) (dense : Bool) (ds : List Nat) : Nat :=
  ((s.flash.blocks.filter (fun p => ds.contains (p.1 / 2 ^ 32))).map (fun p => if dense then p.2.denseCycles else p.2.slcCycles)).sum

/-- Block numbers of some dies that run in a mode: the image's SLC set, or the others (R152). -/
def State.roleSize (s : State) (dense : Bool) (ds : List Nat) : Nat :=
  (ds.map (fun d => match s.portModel (d / 128) with
    | some m => if dense then m.blkPerPlane - s.image.slcSet.length else s.image.slcSet.length
    | none => 0)).sum

/-- Mean cycles of some dies' blocks in a mode, over the blocks that run in it (DEDUCED: R164 counts the modes separately). -/
def State.meanOf (s : State) (dense : Bool) (ds : List Nat) : Nat :=
  let n := s.roleSize dense ds
  if n = 0 then 0 else s.cycleSum dense ds / n

/-- WEAR of some dies of one model (Table 7.10): mean cycles over rated cycles in percent, the larger of the modes, at most 255. -/
def State.wearOf (s : State) (ds : List Nat) : Nat :=
  match ds.head?.bind (fun d => s.portModel (d / 128)) with
  | some m =>
    let part := fun (dense : Bool) (rated : Nat) =>
      let n := s.roleSize dense ds * rated
      if n = 0 then 0 else 100 * s.cycleSum dense ds / n
    min 255 (max (part true m.peDense) (part false m.peSlc))
  | none => 0

/-- Blocks of a die that are free in a role: those of the image's SLC set, or the others, that no band has and that are not retired. -/
def State.freeBlocks (s : State) (dense : Bool) (die : Nat) : List Nat :=
  let role := match s.portModel (die / 128) with
    | some m => if dense then (List.range m.blkPerPlane).filter (fun b => !s.image.slcSet.contains b) else s.image.slcSet
    | none => []
  role.filter (fun b => (s.bandAt die b).isNone && !s.faults.retired.contains (.block die b))

/-- The free block of a role with the fewest cycles, the lowest number among equals (R164). Where the role has none, which admission's
hold rules out for the landing pool (R157), a number past the die's last. -/
def State.pickBlock (s : State) (dense : Bool) (die : Nat) : Nat :=
  match s.freeBlocks dense die with
  | [] => (match s.portModel (die / 128) with | some m => m.blkPerPlane | none => 0) + s.path.nextBand
  | b :: bs => bs.foldl (fun a x => if s.cycles dense die x < s.cycles dense die a then x else a) b

/-- A band takes a block of a die (R152). -/
def State.giveBlock (n die : Nat) (dense : Bool) (s : State) : State :=
  let blk := s.pickBlock dense die
  let k := NMap.getD s.flash.blocks (blockKey die blk) freshBlock
  { s with
    path := { s.path with bands := NMap.upd s.path.bands n (fun b => { b with blks := NMap.put b.blks die blk }) }
    flash := { s.flash with blocks := NMap.put s.flash.blocks (blockKey die blk) { k with dense := dense, erased := false } } }

/-- A band takes a block on every die of it that it has none on yet. -/
def State.fillBand (n : Nat) (s : State) : State :=
  match NMap.find s.path.bands n with
  | some b => (b.dies.filter (fun d => !NMap.has b.blks d)).foldl (fun (s : State) d => s.giveBlock n d b.dense) s
  | none => s

/-- Every band takes the blocks it has not yet: dies of a spare or of a substitute (R174, R177). -/
def State.fillBands (s : State) : State := (NMap.keys s.path.bands).foldl (fun (s : State) n => s.fillBand n) s

/-! ### The fine overlay (R160 to R163) -/

/-- A unit is promoted to the fine overlay, or stays in it, written now: it takes the lowest free entry (the spec numbers none: DESIGN
CHOICE, log 61). -/
def State.promote (vol unit : Nat) (s : State) : State :=
  let key := unitKey vol unit
  let used := NMap.vals s.path.overlayIdx
  let idx := match NMap.find s.path.overlayIdx key with
    | some i => i
    | none => ((List.range (used.length + 1)).find? (fun i => !used.contains i)).getD used.length
  { s with path := { s.path with
    overlay := NMap.put s.path.overlay key s.time.now, overlayIdx := NMap.put s.path.overlayIdx key idx } }

/-- A unit returns to RUN form, and its overlay entry is free (R162). -/
def State.unpromote (vol unit : Nat) (s : State) : State :=
  { s with path := { s.path with
    overlay := NMap.del s.path.overlay (unitKey vol unit), overlayIdx := NMap.del s.path.overlayIdx (unitKey vol unit) } }

/-- The coarse map entry of a unit (Table 7.8). -/
def State.coarseOf (s : State) (vol unit : Nat) : BitVec 96 :=
  coarseEntry ((List.range 4).map (fun i => s.mapEnt vol (4 * unit + i))) (NMap.find s.path.overlayIdx (unitKey vol unit))

/-! ### Stripes and records -/

/-- A stripe of a stream, by band and index. -/
def State.stripe? (s : State) (band idx : Nat) : Option Stripe :=
  s.path.stripes.find? (fun x => x.band == band && x.idx == idx)

def State.updStripe (band idx : Nat) (f : Stripe → Stripe) (s : State) : State :=
  { s with path := { s.path with
      stripes := s.path.stripes.map (fun x => if x.band = band ∧ x.idx = idx then f x else x) } }

/-- Strips of a stripe that are programmed (R87): data strips that hold bytes, and the parity strips, less those skipped. -/
def stripeStrips (b : Band) (x : Stripe) : List Nat :=
  ((List.range (ceilDiv x.bytes 65536)) ++ (List.range b.m).map (b.k + ·)).filter (fun i => !x.skipped.contains i)

/-- A stripe is done (R87): it has closed, and all its parity strips are programmed; where every parity strip is lost, its data strips. -/
def stripeDone (b : Band) (x : Stripe) : Bool :=
  let due := stripeStrips b x
  let parity := due.filter (fun i => decide (b.k ≤ i))
  x.closed && (if parity.isEmpty then due else parity).all x.programmed.contains

/-- The strips that hold bytes of a record in one of its stripes. -/
def recordStrips (b : Band) (off len stripe : Nat) : List Nat :=
  (List.range b.k).filter (fun i =>
    let lo := (stripe * b.k + i) * 65536
    decide (lo < off + len ∧ off < lo + 65536))

/-- First and last stripe a record lies in. -/
def recordStripes (b : Band) (off len : Nat) : List Nat :=
  let sb := b.k * 65536
  if sb = 0 ∨ len = 0 then [] else (List.range ((off + len - 1) / sb + 1 - off / sb)).map (off / sb + ·)

/-- The tick at which the last stripe holding a byte of a record was sealed, once all are (R87, R88). -/
def State.recordSealed (s : State) (band off len : Nat) : Option Nat :=
  match NMap.find s.path.bands band with
  | none => none
  | some b =>
    (recordStripes b off len).foldl (fun a i =>
      match a, (s.stripe? band i).bind (·.sealedAt) with
      | some x, some t => some (max x t)
      | _, _ => none) (some 0)

/-- The data strips that hold a record are programmed, but for lost ones (R19). -/
def State.recordProgrammed (s : State) (band off len : Nat) : Bool :=
  match NMap.find s.path.bands band with
  | none => false
  | some b => (recordStripes b off len).all (fun i => match s.stripe? band i with
      | some x => (recordStrips b off len i).all (fun j => x.programmed.contains j || x.skipped.contains j)
      | none => false)

/-- Where a grain's record lies: band, offset and payload length, through the shared-grain entry for a shared grain (R127). -/
def State.entPlace (s : State) (e : MapEnt) : Nat × Nat × Nat :=
  if e.kind = 4 then
    match NMap.find s.ddup.sgt e.sgt with
    | some g => (g.band, g.offset, g.plen)
    | none => (e.band, e.offset, e.plen)
  else (e.band, e.offset, e.plen)

/-- The record stored at a place. -/
def State.storedAt (s : State) (band off : Nat) : Option Stored :=
  s.path.stored.find? (fun x => x.band == band && x.offset == off)

/-- Die, page and codeword of codeword `c`, counted from the page in which a record begins. -/
def State.codewordAt (s : State) (band off c : Nat) : Nat × Nat × Nat :=
  match NMap.find s.path.bands band with
  | none => (0, 0, c % 4)
  | some b =>
    let (stripe, strip, byte) := placeOf b (off / 16384 * 16384 + c / 4 * 16384)
    ((b.dieOf strip).getD 0, 4 * stripe + byte / 16384, c % 4)

/-- Codewords that hold bytes of a record, counted from the page in which it begins. -/
def recordCodewords (off len : Nat) : List Nat :=
  let base := off / 16384 * 16384
  if len = 0 then [] else (List.range ((off + len - 1 - base) / 4096 + 1)).filter (fun c =>
    decide (off < base + 4096 * (c + 1)))

/-- Both beacon paths are lost (R251). -/
def State.bothLost (s : State) : Bool := !s.moor.dx.alive && !s.moor.bp.alive

/-- The partner can be asked for a grain (R96). -/
def State.partnerAsk (s : State) : Bool := s.service == .paired && !s.bothLost

/-! ### Index partitions (R122, Table 12.3) -/

/-- This head's pair number in the pod. -/
def State.ownPair (s : State) : Nat := s.image.podSelf / 2

/-- The pair that holds an index partition (Table 12.3). -/
def State.holder (s : State) (p : Nat) : Nat :=
  (NMap.find s.repl.parts p).getD (s.image.podPairs.getD (p % max 1 s.image.podPairs.length) 0)

/-- The index partition of a fingerprint: its byte 0, the most significant (log 13). -/
def partitionOf (fp : Nat) : Nat := fp / 2 ^ 248 % 256

/-! ### Records that move -/

/-- An entry that names a record by its place follows the record; a shared grain's entry names the SGT instead. A place is a stream, a band
and an offset. -/
def MapEnt.follow (src dst : Bool × Nat × Nat) (e : MapEnt) : MapEnt :=
  if e.kind ≠ 4 ∧ e.mirror = src.1 ∧ e.band = src.2.1 ∧ e.offset = src.2.2 then
    { e with mirror := dst.1, band := dst.2.1, offset := dst.2.2 }
  else e

/-- Move whatever names a record to the record's new place: the live map, snapshots, and the SGT (R92, R127). -/
def State.moveRecord (src dst : Bool × Nat × Nat) (s : State) : State :=
  let f := MapEnt.follow src dst
  { s with
    path := { s.path with map := s.path.map.map (fun (p : Nat × MapEnt) => (p.1, f p.2)) }
    nvq := { s.nvq with ns := s.nvq.ns.map (fun (p : Nat × Ns) =>
      (p.1, { p.2 with frozen := p.2.frozen.map (fun (x : Nat × NMap MapEnt) =>
        (x.1, x.2.map (fun (y : Nat × MapEnt) => (y.1, f y.2)))) })) }
    ddup := { s.ddup with sgt := s.ddup.sgt.map (fun (p : Nat × Sgt) =>
      (p.1, if p.2.mirror = src.1 ∧ p.2.band = src.2.1 ∧ p.2.offset = src.2.2 then
        { p.2 with mirror := dst.1, band := dst.2.1, offset := dst.2.2 } else p.2)) } }

/-! ### Capacity -/

/-- Bytes of a block in dense mode: word lines of 16 KiB pages, three or four bits a cell (Table 7.2). -/
def DieModel.denseBytes (m : DieModel) : Nat := m.wlPerBlk * (m.cell + 3) * 16384

/-- Raw bytes of the dies in use. -/
def State.rawBytes (s : State) : Nat :=
  (s.flash.dies.map (fun d => match s.portModel (d / 128) with
    | some m => m.planes * m.blkPerPlane * m.denseBytes
    | none => 0)).sum

/-- MAP_UNITS (R159): what the image gives, its default where it gives none, at most 2³². -/
def State.mapUnits (s : State) : Nat :=
  min (2 ^ 32) (if s.image.mapUnits = 0 then 3 * s.rawBytes / 655360 else s.image.mapUnits)

/-! ### References to shared grains, and snapshots (R128, R131, R133) -/

def State.updSgt (i : Nat) (f : Sgt → Sgt) (s : State) : State :=
  { s with ddup := { s.ddup with sgt := NMap.upd s.ddup.sgt i f } }

/-- A map entry that referred to a shared grain ends: REFS falls by 1, and at 0 the entry is reclaim pending (R128). -/
def State.releaseEnt (e : Option MapEnt) (s : State) : State :=
  match e with
  | some e => if e.kind = 4 then s.updSgt e.sgt (fun g =>
      { g with refs := g.refs - 1, pending := decide (g.refs ≤ 1) }) else s
  | none => s

/-- A new reference revives an entry that is reclaim pending (R128). -/
def State.addRef (i : Nat) (s : State) : State :=
  s.updSgt i (fun g => { g with refs := g.refs + 1, pending := false })

/-- Views and clones of a snapshot that has become readable take its map (R131, R133). -/
def State.openClones (vol id : Nat) (s : State) : State :=
  let frozen := match s.ns? vol with | some n => NMap.getD n.frozen id [] | none => []
  (s.nvq.ns.filter (fun p => p.2.cloneOf == some (vol, id) && !p.2.readable)).foldl (fun s p =>
    let s1 := frozen.foldl (fun s x =>
      if (s.mapEnt p.1 x.1).isSome then s
      else
        let s2 := if x.2.kind = 4 then s.addRef x.2.sgt else s
        { s2 with path := { s2.path with map := NMap.put s2.path.map (grainKey p.1 x.1) x.2 } }) s
    s1.updNs p.1 (fun n => { n with readable := true })) s

/-- Snapshots of a volume whose last earlier write has ended become readable (R131). -/
def State.snapsReady (vol : Nat) (s : State) : State :=
  match s.ns? vol with
  | none => s
  | some n =>
    (n.snaps.filter (fun x => !x.2.readable && !s.adm.writes.any (fun w =>
      w.vol == vol && (match w.acc with | some a => decide (a < x.2.tick) | none => false)))).foldl (fun s x =>
        (s.updNs vol (fun n => { n with snaps := NMap.upd n.snaps x.1 (fun y => { y with readable := true }) })).openClones
          vol x.1) s

end Sys2Proof.Machine
end

