-- ==== Sys2Proof/Machine/Modes.lean ====
section
/-!
DEFINITION. Mode transitions (R36, R38), the checkpoint (R93, R167), Preservation (R39, R40), Holdup (R41), Slack (R364) and
Reset (R353 to R355).
-/

namespace Sys2Proof.Machine

/-! ### Beacons -/

/-- FLAGS of the next beacon (Table 11.1). -/
def State.beaconFlags (s : State) (wake : Bool) : Nat :=
  b2n s.moor.grantNext + 2 * b2n s.moor.release.isSome + 4 * b2n (s.md.mode == .holdup)
    + 8 * b2n (s.md.mode == .preservation) + 16 * b2n wake + 32 * b2n s.moor.wheld
    + 64 * b2n (!s.moor.dirty.isEmpty || s.md.mode == .sole) + 128 * b2n s.path.empty

/-- The beacon a head sends now (Table 11.1). -/
def State.makeBeacon (s : State) (wake : Bool) : Beacon :=
  let b : Beacon :=
    { magic := 0xB3AC, ver := 0x01, hm := BitVec.ofNat 8 (s.moor.head % 2 + 16 * s.md.mode.code),
      flags := BitVec.ofNat 16 (s.beaconFlags wake), pairId := s.moor.pairId, epoch := BitVec.ofNat 32 s.moor.epoch,
      bseq := BitVec.ofNat 32 (s.moor.bseq + 1), stick := BitVec.ofNat 64 s.time.now,
      ackseq := BitVec.ofNat 32 (s.moor.rxSeq.getD 0),
      rtick := BitVec.ofNat 64 (s.moor.release.getD 0), crc := 0 }
  { b with crc := crc32c (beaconBody b) }

/-! ### Checkpoints -/

/-- Position of a stored record in its stream: band, then byte in the band. -/
def posBefore (a b : Nat × Nat) : Bool := decide (a.1 < b.1 ∨ (a.1 = b.1 ∧ a.2 < b.2))

/-- SEQs of the records of writes still in flight. -/
def State.flightSeqs (s : State) : List Nat :=
  (s.adm.writes.map (fun w => (w.grains.filterMap (fun g => g.record)).map (·.seq))).flatten

/-- Position of the first record of a stream that a checkpoint taken now does not reflect (R93): those of writes in flight, of a
resynchronisation and of a repair that the map does not name yet, and mirror records not acknowledged. -/
def State.streamPos (s : State) (st : StreamId) : Nat × Nat :=
  let flight := s.flightSeqs
  let open_ := s.path.stored.filter (fun x =>
    x.st == st && (if st == .home then flight.contains x.record.seq || s.moor.rejoin.contains (x.band, x.offset)
        || s.path.rewrites.any (fun w => w.place == some (x.band, x.offset)) else !x.acked))
  let cur := if st == .home then s.path.homeStream else s.path.mirrorStream
  let k := match NMap.find s.path.bands cur.band with | some b => b.k | none => s.strp.k
  let endPos := (cur.band, cur.stripe * k * 65536 + cur.pos)
  open_.foldl (fun p x => if posBefore (x.band, x.offset) p then (x.band, x.offset) else p) endPos

/-- The checkpoints kept: the two newest full ones and every increment since the older of them (R167). -/
def retainCkpts (cs : List Ckpt) : List Ckpt :=
  match (cs.filter (·.full)).map (·.seq) with
  | _ :: older :: _ => cs.filter (fun c => older ≤ c.seq)
  | _ => cs

/-- Write a map checkpoint, an increment or a full one (R167). -/
def State.checkpoint (full : Bool) (s : State) : State :=
  let isFull := full || s.path.ckpts.isEmpty
  let c : Ckpt :=
    { seq := s.path.ckptSeq + 1, full := isFull, valid := true, tick := s.time.now, epoch := s.moor.epoch,
      homePos := s.streamPos .home, mirrorPos := s.streamPos .mirror, map := s.path.map, sgt := s.ddup.sgt, ppq := s.ddup.ppq,
      wgens := s.path.wgens,
      dirty := s.moor.dirty, changes := s.moor.changes }
  { s with path := { s.path with
      ckpts := retainCkpts (c :: s.path.ckpts), ckptSeq := c.seq, ckptTick := s.time.now,
      incs := if isFull then 0 else s.path.incs + 1, mapChanged := false } }

/-! ### Mode changes -/

/-- A pending Tally request is cancelled on entry to Reset, Slack or Holdup (R375). -/
def State.cancelTally (m : Mode) (s : State) : State :=
  if s.tally.pending && (m == .reset || m == .slack || m == .holdup) then
    ({ s with tally := { s.tally with pending := false, latched := false, staged := false, shadow := [] } }).record 0xB021
      [s.tally.at_, m.code]
  else s

/-- Data of event 0x1000 + code × 0x10: cause and previous mode, and for Boot the reset ticks (Table 2.10). -/
def State.modeData (m : Mode) (cause : Nat) (prev : Mode) (s : State) : List Nat :=
  [cause, prev.code] ++ (if m == .boot then [s.md.rstFall, s.md.rstRise] else [])

/-- The tick the watchdog counts from after a transition: the time spent in Relay is not counted (R366). -/
def State.wdogFrom (s : State) : Nat :=
  if s.md.mode = .relay then s.time.now - (s.md.tick - s.md.wdog) else s.md.wdog

/-- One transition at one tick (R36): the mode, its cause and tick, FENCE_OUT_N (Table 2.2), and the event. -/
def State.changeMode (m : Mode) (cause : Nat) (s : State) : State :=
  let prev := s.md.mode
  let s1 := { s with
    md := { s.md with mode := m, prev := prev, cause := cause, tick := s.time.now, fenceN := m.fenceHigh, wdog := s.wdogFrom }
    time := if m = Mode.slack ∨ m = Mode.reset then { s.time with frac := 0 } else s.time }
  ((s1.cancelTally m).raise Reg.MSPI_ALERTSRC 2).record (0x1000 + 16 * m.code) (s1.modeData m cause prev)

/-- A transition between modes in which the pair's state changes also raises the notice 01h (R216). -/
def State.enterMode (m : Mode) (cause : Nat) (s : State) : State :=
  (s.changeMode m cause).noticeAll 7 1 0xC1

/-! ### Writes that end -/

/-- Take a write, its bookings and the overlay entries it held (R163) out of the device. -/
def State.dropWrite (seq : Nat) (s : State) : State :=
  let held := ((s.adm.writes.filter (fun w => w.seq == seq)).map (fun w => w.ovUnits.length)).sum
  { s with
    adm := { s.adm with
      writes := s.adm.writes.filter (fun w => w.seq != seq)
      bookings := s.adm.bookings.filter (fun b => b.seq != seq) }
    path := { s.path with overlayHeld := s.path.overlayHeld - held } }

/-- End a write in flight with a status; nothing of it is published, and a snapshot that waited for it may be readable now (R131). -/
def State.endWrite (w : WriteOp) (sct sc dw0 : Nat) (s : State) : State :=
  ((s.dropWrite w.seq).complete w.cntl w.qid w.cid sct sc dw0 0).snapsReady w.vol

/-- End a held command with a status. -/
def State.endHeld (h : Held) (sct sc : Nat) (s : State) : State :=
  let s1 := { s with adm := { s.adm with held := s.adm.held.filter (fun x => x != h) } }
  s1.complete h.cntl h.qid h.cmd.cid sct sc 0 0

/-! ### Preservation -/

/-- Modes from which Preservation is entered (Table 2.3). -/
def Mode.canPreserve : Mode → Bool
  | .join | .paired | .sole | .takeover | .handback | .relay => true
  | _ => false

/-- Commands that complete with 82h in Preservation (R35). -/
def preservationRefuses (op : Nat) : Bool := op == 0x01 || op == 0x05 || op == 0x08 || op == 0x09

/-- Enter Preservation (R39, R40): the lease is released, held writes and writes not yet accepted end with 82h (Table 3.1),
and a checkpoint is written. -/
def State.enterPreservation (cause : Nat) (s : State) : State :=
  if !s.md.mode.canPreserve then s
  else
    let s1 := s.enterMode .preservation cause
    let s2 := { s1 with moor := { s1.moor with
      release := some s1.time.now, releaseTx := 3, granted := false, grantNext := false, wheld := false, claim := none, resync := none } }
    let s3 := (s2.adm.held.filter (fun h => preservationRefuses h.cmd.opcode)).foldl (fun s h => s.endHeld h 7 0x82) s2
    let s4 := (s3.adm.writes.filter (fun w => w.acc.isNone)).foldl (fun s w => s.endWrite w 7 0x82 0) s3
    let s5 := s4.moor.relayHeld.foldl (fun (s : State) (x : Nat × Sqe × Nat) => s.completeAdmin x.1 x.2.1 7 0x82 0)
      { s4 with moor := { s4.moor with relayHeld := [] } }
    (s5.checkpoint false).assertLine 2

/-! ### Holdup -/

/-- Modes from which Holdup is entered (Table 2.3). -/
def Mode.canHoldup : Mode → Bool
  | .reset | .boot | .locked | .holdup => false
  | _ => true

/-- Enter Holdup (R41): fetch and admission stop, the front-end lanes go dark, the lease is
released, and the final beacon goes out on the beacon pair (R255). -/
def State.enterHoldup (cause : Nat) (s : State) : State :=
  if !s.md.mode.canHoldup then s
  else
    let s0 := (s.changeMode .holdup cause).holdupErases
    let s1 := { s0 with faults := { s0.faults with lanes := s0.faults.lanes.filter (fun p => decide (16 ≤ p.1)) } }
    let s2 := { s1 with moor := { s1.moor with release := some s1.time.now, releaseTx := 0, granted := false } }
    let b := s2.makeBeacon false
    ({ s2 with moor := { s2.moor with bseq := s2.moor.bseq + 1 } }).emit (.beacon false b)

/-! ### Slack -/

/-- The mode becomes Slack: islands gated, lanes down (R364). -/
def State.goSlack (cause : Nat) (s : State) : State :=
  let s1 := s.changeMode .slack cause
  { s1 with
    md := { s1.md with wakeAt := none }
    faults := { s1.faults with awake := [], gating := [], waking := [], lanes := [], restarting := [] }
    idm := { s1.idm with sessions := [] }
    moor := { s1.moor with sync := false, claim := none } }

/-- Enter Slack from Join or Sole: a checkpoint increment first (R364). -/
def State.enterSlack (cause : Nat) (s : State) : State := (s.checkpoint false).goSlack cause

/-! ### Reset -/

/-- What the device keeps through Reset (R354, R355, R379; log 9): the always-on domain, the fuses, the Ledger, the flash with
what is stored on it, and flushed recorder records. Everything else returns to its reset value. -/
def State.clearVolatile (s : State) : State :=
  { time := { s.time with pps := 0, ppsOut := false, ptp := none }
    md := { mode := s.md.mode, prev := s.md.prev, cause := s.md.cause, tick := s.md.tick,
            rstN := s.md.rstN, pwrgd := s.md.pwrgd, pwrFailN := s.md.pwrFailN, heldInReset := s.md.heldInReset,
            thermtripN := s.md.thermtripN, makerFuse := s.md.makerFuse, rstSource := s.md.rstSource,
            rstFall := s.md.rstFall, rstRise := s.md.rstRise, press := s.md.press, failClosed := s.md.failClosed,
            lastPress := s.md.lastPress, bootEvents := s.md.bootEvents, enrolled := s.md.enrolled,
            revoked := s.md.revoked, powerCycles := s.md.powerCycles, unsafeShutdowns := s.md.unsafeShutdowns,
            onTicks := s.md.onTicks, holdupDone := s.md.holdupDone }
    rcdr := { newest := s.rcdr.flushedTo, recs := s.rcdr.recs.filter (fun e => e.seq ≤ s.rcdr.flushedTo),
              hiddenTo := s.rcdr.hiddenTo, flushedTo := s.rcdr.flushedTo, ringSector := s.rcdr.ringSector,
              ringOffset := s.rcdr.ringOffset }
    faults := { retired := s.faults.retired, lastRetire := s.faults.lastRetire }
    nvq := { ns := s.nvq.ns, testResults := s.nvq.testResults, reclaims := s.nvq.reclaims }
    path := { s.path with
      reads := [], rcmds := [], map := [], wgens := [], overlay := [], overlayIdx := [], overlayHeld := 0, unknown := [], incs := 0,
      mapChanged := false, empty := false, rewrites := [], patrolDone := [], patrolRepaired := 0,
      stored := s.path.stored }
    ddup := { sgt := s.ddup.sgt, index := s.ddup.index, ppq := s.ddup.ppq }
    flash := { s.flash with chans := [], dies := [], erases := [], levels := [], foldNext := 0 }
    strp := { k := s.strp.k, m := s.strp.m, order := s.strp.order, spares := s.strp.spares, gen := s.strp.gen,
              failed := s.strp.failed, partialLoss := s.strp.partialLoss, reshape := s.strp.reshape,
              rebuild := s.strp.rebuild, beyond := s.strp.beyond
              ports := (s.strp.ports.filter (fun p => s.strp.order.contains p.1)).map (fun (p : Nat × Port) =>
                (p.1, { state := 0, present := false, powered := false, model := p.2.model, part := p.2.part,
                        serial := p.2.serial, pop := p.2.pop })) }
    moor := { pairId := s.moor.pairId, head := s.moor.head, serial := s.moor.serial, epoch := s.moor.epoch,
              dirty := s.moor.dirty, changes := s.moor.changes }
    repl := { links := s.repl.links.map (fun (p : Nat × Link) => (p.1, { p.2 with
                cmd := none, targets := p.2.targets.map (fun (t : Nat × Target) => (t.1, { t.2 with flight := [], commitSeq := 0, lastTry := none })) }))
              replicas := s.repl.replicas, blocks := s.repl.blocks, nsTable := s.repl.nsTable, parts := s.repl.parts }
    ciph := { wrapped := s.ciph.wrapped }
    ldg := s.ldgStopped
    elec := { temp := s.elec.temp, sensor := s.elec.sensor, railsOut := s.elec.railsOut }
    outbox := s.outbox
    free := s.free
    pending := s.pending }

/-- A running self-test is aborted by Holdup or Reset with result 2h (R214): operation, result, segment, newest first. -/
def State.abortTest (s : State) : State :=
  if s.nvq.testOp = 0 then s
  else { s with nvq := { s.nvq with
    testOp := 0, testPercent := 0, testResults := ((s.nvq.testOp, 2, 0) :: s.nvq.testResults).take 20 } }

/-- Enter Reset (R353, R355): operations stop in the tick, and volatile state is gone. -/
def State.enterReset (cause source : Nat) (s : State) : State :=
  let s1 := s.abortTest.changeMode .reset cause
  ({ s1 with md := { s1.md with rstSource := source } }).clearVolatile

end Sys2Proof.Machine
end

