-- ==== Sys2Proof/Machine/Tide.lean ====
section
/-!
DEFINITION. The Tide Table (R64, R65, R27, R66, R142): what a slot of a resource holds, and booking the earliest slot with room.
-/

namespace Sys2Proof.Machine

/-- Resource codes: dies 0–2047, channel buses, compression lanes, cipher pairs, Decux directions (0 outgoing, 1 incoming), and a mark
that a strip's program is already booked. -/
def resDie (d : Nat) : Nat := d
def resChan (c : Nat) : Nat := 2048 + c
def resLane (l : Nat) : Nat := 4096 + l
def resPair (p : Nat) : Nat := 4224 + p
def resLink (dir : Nat) : Nat := 4352 + dir
def resStrip (band stripe strip : Nat) : Nat := 8192 + (band * 2 ^ 24 + stripe) * 32 + strip

/-- Capacity of a resource in one slot (Table 3.5); a die takes one operation. -/
def resCap (r : Nat) : Nat := if r < 2048 then 1 else if r < 4096 then 7168 else 8192

/-- Slots of the ring (R64). -/
def ringSlots : Nat := 128

/-- The resources of the island of a channel: its bus and its dies (Table 1.5). -/
def chanIsland (c : Nat) : List Nat := resChan c :: (List.range 16).map (fun d => resDie (16 * c + d))

/-- Ticks of a slot that a new booking finds taken: a firm one does not see soft bookings not yet started (R65). -/
def takenIn (bs : List Booking) (r slot : Nat) (firm : Bool) : Nat :=
  ((bs.filter (fun b => b.res == r && b.slot == slot && !b.waits && (b.firm || b.running || !firm))).map (·.ticks)).sum

/-- Wake ticks charged for an island's earliest booking in a slot (R27): none if it holds a booking in the preceding slot or in
this one, or if IDLE_HOLD is 0. -/
def wakeCharge (bs : List Booking) (island : List Nat) (wake slot idleHold : Nat) : Nat :=
  if idleHold = 0 || bs.any (fun b => !b.waits && island.contains b.res && (b.slot + 1 == slot || b.slot == slot)) then 0 else wake

/-- Two entries of one operation. -/
def sameOp (a b : Booking) : Bool := a.res == b.res && a.seq == b.seq && a.op == b.op && a.firm == b.firm

/-- A firm booking takes a slot from soft work that has not started, the last booked first: all of the operation it belongs to waits to be
booked again (R65). -/
def displace (r slot : Nat) (bs : List Booking) : List Booking :=
  let soft := bs.filter (fun b => b.res == r && b.slot == slot && !b.firm && !b.running && !b.waits)
  soft.reverse.foldl (fun bs x =>
    if takenIn bs r slot false ≤ resCap r then bs
    else bs.map (fun b => if sameOp x b && !b.running then { b with waits := true } else b)) bs

/-- Add a booking, displacing soft ones. -/
def addBooking (b : Booking) (bs : List Booking) : List Booking :=
  if b.firm then displace b.res b.slot (bs ++ [b]) else bs ++ [b]

/-- What one booking request is: candidates with the island each belongs to, its charge, and who asks. -/
structure Ask where
  cands : List (Nat × List Nat)
  ticks : Nat
  wake : Nat
  idleHold : Nat
  firm : Bool
  seq : Nat

/-- Book the earliest slot of a list on the first candidate that has room there. -/
def bookTicks (a : Ask) (bs : List Booking) : List Nat → Option (List Booking × Nat)
  | [] => none
  | slot :: rest =>
    match a.cands.find? (fun c =>
      takenIn bs c.1 slot a.firm + a.ticks + wakeCharge bs c.2 a.wake slot a.idleHold ≤ resCap c.1) with
    | some c =>
      some (addBooking { res := c.1, slot := slot, ticks := a.ticks + wakeCharge bs c.2 a.wake slot a.idleHold,
                         firm := a.firm, running := false, seq := a.seq, op := slot } bs, slot)
    | none => bookTicks a bs rest

/-- The ticks that `need` ticks from a slot on take of each slot, in slots that follow one another without a gap; none where a slot has no
room or the ring ends (R142). -/
def spreadTakes (room : Nat → Nat) : Nat → Nat → Nat → Option (List (Nat × Nat))
  | 0, _, _ => none
  | fuel + 1, slot, need =>
    let take := min (room slot) need
    if take = 0 then none
    else if need ≤ take then some [(slot, take)]
    else (spreadTakes room fuel (slot + 1) (need - take)).map ((slot, take) :: ·)

/-- Book a transfer on the first candidate, in slots below `limit`: the bookings, the first and the last slot. The wake is charged in
its first slot (R27, R142). -/
def bookSpread (a : Ask) (limit : Nat) (bs : List Booking) : List Nat → Option (List Booking × Nat × Nat)
  | [] => none
  | slot :: rest =>
    match a.cands with
    | [] => none
    | c :: _ =>
      let room := fun x => resCap c.1 - takenIn bs c.1 x a.firm
      match spreadTakes room (limit - slot) slot (a.ticks + wakeCharge bs c.2 a.wake slot a.idleHold) with
      | none => bookSpread a limit bs rest
      | some takes =>
        some (takes.foldl (fun bs x =>
          addBooking { res := c.1, slot := x.1, ticks := x.2, firm := a.firm, running := false, seq := a.seq, op := slot } bs) bs,
          slot, slot + takes.length - 1)

/-- Dies of a port that background or best-effort work holds in a slot, running erases among them (R66). -/
def softDies (bs : List Booking) (erasing : List Nat) (port slot : Nat) : Nat :=
  ((((bs.filter (fun b => decide (b.res < 2048 ∧ b.res / 128 = port ∧ b.slot = slot) && !b.firm && !b.waits)).map (·.res))
    ++ erasing.filter (fun d => d / 128 == port)).eraseDups).length

/-- A request for a die: slots, who asks, the cap of R66 for soft work with the dies that erase, and whether the whole operation must end
before the limit; other work holds the entries that the ring has yet (DESIGN CHOICE, log 63). -/
structure DieAsk where
  die : Nat
  slots : Nat
  firm : Bool
  seq : Nat
  cap : Nat
  erasing : List Nat
  whole : Bool

/-- A die may be booked for `n` slots from a slot on; a soft booking also stays below the cap of R66. -/
def dieFree (a : DieAsk) (bs : List Booking) (slot n : Nat) : Bool :=
  (List.range n).all (fun i =>
    takenIn bs (resDie a.die) (slot + i) a.firm == 0
      && (a.firm || decide (softDies bs a.erasing (a.die / 128) (slot + i) < a.cap)))

/-- Book a die for whole slots (R64), none of them at `limit` or later. -/
def bookDie (a : DieAsk) (limit : Nat) (bs : List Booking) : List Nat → Option (List Booking × Nat)
  | [] => none
  | slot :: rest =>
    let n := if a.whole then a.slots else min a.slots (limit - slot)
    if slot + n ≤ limit && dieFree a bs slot n then
      some ((List.range n).foldl (fun bs i =>
        addBooking { res := resDie a.die, slot := slot + i, ticks := 1, firm := a.firm, running := false, seq := a.seq, op := slot } bs)
        bs, slot)
    else bookDie a limit bs rest

/-- Slots `[first, limit)`. -/
def slotsFrom (first limit : Nat) : List Nat := (List.range (limit - first)).map (first + ·)

/-- Move the bookings that stand on a retired resource in later slots than `now` to the candidates left, each to the earliest slot from
its own on; one that finds no slot in the ring goes on as soft work and waits (R71, R114). -/
def rebookAll (r : Nat) (cands : List Nat) (now : Nat) : List Booking → List Booking → List Booking
  | [], bs => bs
  | b :: rest, bs =>
    if b.res = r ∧ now < b.slot then
      let a : Ask := { cands := cands.map (fun c => (c, [])), ticks := b.ticks, wake := 0, idleHold := 0,
                       firm := b.firm, seq := b.seq }
      match bookTicks a bs (slotsFrom b.slot (now + ringSlots)) with
      | some (bs', _) => rebookAll r cands now rest bs'
      | none => rebookAll r cands now rest (bs ++ [{ b with firm := false, waits := true }])
    else rebookAll r cands now rest (bs ++ [b])

/-- Soft work whose first slot has come has started: it holds its entries to their end (R65). -/
def startSoft (slot : Nat) (bs : List Booking) : List Booking :=
  bs.map (fun b => if !b.firm && !b.waits && decide (b.op ≤ slot) then { b with running := true } else b)

end Sys2Proof.Machine
end

