-- ==== Sys2Proof/Machine/Faults.lean ====
section
/-!
DEFINITION. Faults, retirement and what it does to each kind of unit (R46 to R49, Table 2.8), member failure (R177 to R182), and
the islands' awake bits (R24 to R28).
-/

namespace Sys2Proof.Machine

/-- Mark the programmed strips that a test picks as lost: they are read by reconstruction until rebuilt (R176, R180). -/
def markLost (bands : NMap Band) (pick : Band → List Nat) (programmedOnly : Bool) (ss : List Stripe) : List Stripe :=
  ss.map (fun x =>
    match NMap.find bands x.band with
    | none => x
    | some b =>
      let lost := (pick b).filter (fun i => (!programmedOnly || x.programmed.contains i) && !x.skipped.contains i)
      { x with skipped := x.skipped ++ lost })

/-- Number of lost strips. -/
def lostCount (ss : List Stripe) : Nat := (ss.map (fun x => x.skipped.length)).sum

/-! ### The fault slack (R58, R90) -/

/-- Reservation index recorded for a write: 0xFFFF where it has none (R417). -/
def resvItem (r : Option Nat) : Nat := r.getD 0xFFFF

/-- The writes a test picks draw on the fault slack: event 0x2104 with the kind of unit (R58, R417). -/
def State.useSlack (pick : WriteOp → Bool) (kind : Nat) (s : State) : State :=
  let ws := s.adm.writes.filter (fun w => w.acc.isSome && pick w)
  let s1 := { s with adm := { s.adm with
    writes := s.adm.writes.map (fun w => if w.acc.isSome && pick w then { w with slack := w.slack + 1 } else w) } }
  ws.foldl (fun s w =>
    let s2 := s.record 0x2104 [resvItem w.resv, kind]
    match w.resv with | some r => s2.count (ctrResv r 8) | none => s2) s1

/-- A stripe not yet sealed has strips to program among those a test picks of its band. -/
def State.stripeHit (s : State) (pick : Band → List Nat) (x : Stripe) : Bool :=
  match NMap.find s.path.bands x.band with
  | some b => x.sealedAt.isNone && !b.dense && (stripeStrips b x).any (pick b).contains
  | none => false

/-- A write has a record in a stripe of a band. -/
def WriteOp.inStripe (b : Band) (band stripe : Nat) (w : WriteOp) : Bool :=
  w.grains.any (fun x => match x.place, x.record with
    | some (bd, o), some r => bd == band && (recordStripes b o (recordLen r)).contains stripe
    | _, _ => false)

/-- A write has a record in a stripe that the loss of strips hits. -/
def State.writeHit (s : State) (pick : Band → List Nat) (w : WriteOp) : Bool :=
  s.path.stripes.any (fun x => s.stripeHit pick x &&
    (match NMap.find s.path.bands x.band with | some b => w.inStripe b x.band x.idx | none => false))

/-- A flash fault under mirror records not yet acknowledged: this head pays from its own slack, event 0x2104 (Table 3.1). A record does
not name its image, so the item is that of no reservation (log 43). -/
def State.mirrorSlack (pick : Band → List Nat) (kind : Nat) (s : State) : State :=
  if s.path.stripes.any (fun x => x.st == .mirror && s.stripeHit pick x) then s.record 0x2104 [resvItem none, kind] else s

/-- A fault of this head's flash: the writes with strips lost in flight, home and mirror, are placed again from the slack (R58). -/
def State.flashSlack (pick : Band → List Nat) (kind : Nat) (s : State) : State :=
  (s.useSlack (s.writeHit pick) kind).mirrorSlack pick kind

/-! ### Members -/

def State.updPort (p : Nat) (f : Port → Port) (s : State) : State :=
  { s with strp := { s.strp with ports := NMap.put s.strp.ports p (f (NMap.getD s.strp.ports p {})) } }

/-- The member record changed: its generation rises, and it is written to the Ledger beside the flash system area (R172). -/
def State.memberChanged (s : State) : State :=
  let s1 := { s with strp := { s.strp with gen := s.strp.gen + 1 } }
  s1.writeParam 3 0 (Config.memberBody s1.strp.k s1.strp.m s1.strp.order s1.strp.spares s1.strp.gen)

/-- A rebuild with nothing left ends (R180). -/
def State.endRebuild (s : State) : State :=
  match s.strp.rebuild with
  | some r =>
    if r.left = 0 then
      (({ s with strp := { s.strp with rebuild := none, beyond := [] } }).raise Reg.STRP_STATUS 4).record 0x4003
        [r.target, r.total, s.time.now - r.start]
    else s
  | none => s

/-- Start a rebuild, or let the running one take on new losses (R180, R182); `spare` where the target is a spare that took an index. With
several targets STRP_RB.TARGET and event 0x4003 name the first (DESIGN CHOICE, log 51). -/
def State.startRebuild (target newLost : Nat) (spare : Bool) (s : State) : State :=
  match s.strp.rebuild with
  | some r =>
    let r1 : Rebuild :=
      { r with total := r.total + newLost, left := r.left + newLost, spares := if spare then r.spares ++ [target] else r.spares }
    { s with strp := { s.strp with rebuild := some r1 } }
  | none =>
    let r : Rebuild :=
      { target := target, total := newLost, left := newLost, start := s.time.now, spares := if spare then [target] else [] }
    (({ s with strp := { s.strp with rebuild := some r } }).record 0x4002 [target, newLost]).endRebuild

/-- Lowest number of a list. -/
def lowest : List Nat → Option Nat
  | [] => none
  | x :: xs => some (xs.foldl min x)

/-- Bookings in later slots on a resource that is gone are moved to others (R48). -/
def State.rebookRes (r : Nat) (cands : List Nat) (s : State) : State :=
  if !s.adm.bookings.any (fun b => b.res == r) then s
  else
    let kept := s.adm.bookings.filter (fun b => b.res != r)
    { s with adm := { s.adm with
        bookings := rebookAll r cands (slotOf s.time.now) (s.adm.bookings.filter (fun b => b.res == r)) kept } }

/-- The flash work of lost dies is booked again (R48, R58): each die's on the die `onto` gives for it, its channel's on that die's. -/
def State.moveFlashWork (gone : List Nat) (onto : Nat → Option Nat) (s : State) : State :=
  let chans := ((gone.map (· / 16)).eraseDups).filter (fun c => !s.flash.dies.any (fun d => d / 16 == c))
  let s1 := gone.foldl (fun (s : State) d => s.rebookRes (resDie d) (((onto d).map resDie).toList)) s
  chans.foldl (fun (s : State) c =>
    s.rebookRes (resChan c) (((gone.filter (fun d => d / 16 == c)).filterMap (fun d => (onto d).map (fun x => resChan (x / 16)))).eraseDups)) s1

/-- A stripe that holds a record of a home volume has lost more members than it has parity, and no partner copy can be reached: the
device enters Preservation (R39). -/
def State.lossTest (s : State) : State :=
  let past := fun (x : Stripe) => match NMap.find s.path.bands x.band with
    | some b => decide (b.m < x.skipped.length) && s.path.stored.any (fun y => y.band == x.band && y.record.kind == 1
        && (recordStripes b y.offset (recordLen y.record)).contains x.idx
        && (match s.ns? (y.record.check.reftag.toNat / 2 ^ 34) with | some n => n.served | none => false))
    | none => false
  if !s.partnerAsk && s.path.stripes.any past then s.enterPreservation 0x0A else s

/-- An open stripe whose parity strips are all programmed or lost is sealed as it stands (R177). -/
def State.sealLeft (s : State) : State :=
  { s with path := { s.path with stripes := s.path.stripes.map (fun x =>
      match NMap.find s.path.bands x.band with
      | some b => if x.sealedAt.isNone && stripeDone b x then { x with sealedAt := some s.time.now } else x
      | none => x) } }

/-- A member fails (R177): event 0x4000; a spare takes its index and a rebuild begins, or its strips are skipped. -/
def State.memberFail (port cause : Nat) (s : State) : State :=
  if s.strp.failed.contains port || !(s.strp.order.contains port || s.strp.reshape.any (fun r => r.oldMembers.contains port))
  then s
  else
    let s1 := ((s.record 0x4000 [port, cause]).raise Reg.STRP_STATUS 1).updPort port (fun p => { p with state := 5 })
    let s2 := s1.flashSlack (fun b => b.stripsOn port) 0x3200
    let spare := if s.strp.order.contains port then lowest s.strp.spares else none
    let before := lostCount s2.path.stripes
    let stripes := markLost s2.path.bands (fun b => b.stripsOn port) spare.isSome s2.path.stripes
    let s3 := { s2 with path := { s2.path with stripes := stripes } }
    let newLost := lostCount stripes - before
    match spare with
    | some sp =>
      let s4 := { s3 with
        strp := { s3.strp with
          order := s3.strp.order.map (fun p => if p = port then sp else p)
          spares := s3.strp.spares.filter (· != sp) }
        path := { s3.path with bands := s3.path.bands.map (fun (x : Nat × Band) =>
          (x.1, { x.2 with members := x.2.members.map (fun p => if p = port then sp else p) })) } }
      let s5 := ((s4.updPort sp (fun p => { p with state := 4 })).record 0x4001 [sp, s.strp.order.idxOf port]).raise
        Reg.STRP_STATUS 2
      let s6 := s5.moveFlashWork ((List.range 128).map (128 * port + ·)) (fun d => some (128 * sp + d % 128))
      (s6.fillBands.memberChanged.startRebuild sp newLost true).lossTest
    | none =>
      let s4 := ({ s3 with strp := { s3.strp with failed := s3.strp.failed ++ [port] } }).memberChanged
      (if s.strp.order.contains port then s4.record 0x4004 [port] else s4).sealLeft.lossTest

/-- Bands with strips on lost dies of a port name the dies that stand in for them, for the strips due there and for the rebuild (R174). -/
def State.substitute (port : Nat) (onGone : Band → List Nat) (s : State) : State :=
  { s with path := { s.path with bands := s.path.bands.map (fun (x : Nat × Band) =>
      (x.1, if (onGone x.2).isEmpty then x.2
            else match s.dieAt port x.2.slot with | some d => { x.2 with subs := NMap.put x.2.subs port d } | none => x.2)) } }

/-- Dies of a member are lost (R179): the strips on them are rebuilt inside the module, or the module fails for want of room. Free
blocks fall in proportion to the dies lost (log 10). Event 0x4005 names the channel or the die by its device-wide number alone, as its item
does not say which it is (DESIGN CHOICE, log 44). A port of the old member set alone has no rebuild (R182). -/
def State.partialLoss (port unit : Nat) (gone : List Nat) (s : State) : State :=
  let member := s.strp.order.contains port || s.strp.reshape.any (fun r => r.oldMembers.contains port)
  if !member || s.strp.failed.contains port then
    { s with flash := { s.flash with dies := s.flash.dies.filter (fun d => !gone.contains d) } }
  else
    let had := (s.portDies port).length
    let free := NMap.getD s.flash.free port 0
    let left := if had = 0 then 0 else free * (had - (gone.filter (fun d => (s.portDies port).contains d)).length) / had
    let onGone := fun (b : Band) => (b.stripsOn port).filter (fun i => match b.dieOf i with
      | some d => gone.contains d | none => false)
    let bandsHit := (s.path.bands.filter (fun x => !x.2.dense && !(onGone x.2).isEmpty)).length
    let need := bandsHit * (match s.portModel port with | some m => m.planes | none => 0)
    let s1 := (s.record 0x4005 [port, unit]).flashSlack onGone 0x3200
    let before := lostCount s1.path.stripes
    let stripes := markLost s1.path.bands onGone true s1.path.stripes
    let s2 := { s1 with
      path := { s1.path with stripes := stripes }
      flash := { s1.flash with
        dies := s1.flash.dies.filter (fun d => !gone.contains d), free := NMap.put s1.flash.free port left }
      strp := { s1.strp with partialLoss := if s1.strp.partialLoss.contains port then s1.strp.partialLoss
                                            else s1.strp.partialLoss ++ [port] } }
    if left < need + s.regField Reg.FCH_CTRL 23 12 then s2.memberFail port 3
    else
      let s3 := (s2.substitute port onGone).fillBands.moveFlashWork gone (fun d => s2.dieAt port (d % 128))
      if lostCount stripes = before || !s.strp.order.contains port then s3
      else (s3.startRebuild port (lostCount stripes - before) false).lossTest

/-! ### Retirement -/

/-- Cipher pairs of a group: groups 0 to 3 hold 5 pairs each, groups 4 and 5 hold 6 (Table 1.5). -/
def groupPairs (g : Nat) : List Nat :=
  if g < 4 then (List.range 5).map (5 * g + ·) else (List.range 6).map (20 + 6 * (g - 4) + ·)

/-- Group of a cipher pair (Table 1.5). -/
def pairGroup (p : Nat) : Nat := if p < 20 then p / 5 else 4 + (p - 20) / 6

/-- The units an island clocks (Table 2.8, last row): it retires as they do. -/
def islandUnits : IslandKind → Nat → List FUnit
  | .channel, n => [.channel n]
  | .cmp, n => .clane n :: (if n % 2 = 0 then [.dlane (n / 2)] else [])
  | .ciph, n => (groupPairs n).map .pair
  | .ddup, n => [.cluster n]

/-- The unit is the last healthy one of a kind that has no retirement left (R115, R258, R323). -/
def State.lastOfKind (s : State) : FUnit → Bool
  | .clane n => s.lanesOk == [n]
  | .dlane n => s.dlanesOk == [n]
  | .pair n => s.pairsOk == [n]
  | .voter n => (s.moor.voters.filter (·.ok)).length < 3 && (s.moor.voters[n]?).any (·.ok)
  | _ => false

/-- Add a unit to the retired ones. -/
def State.addRetired (u : FUnit) (s : State) : State :=
  { s with faults := { s.faults with retired := s.faults.retired ++ [u], lastRetire := some s.time.now } }

/-- Accepted writes with work booked in later slots on a resource use the fault slack, and the work is booked on the units left (R114,
R324, Table 3.1). -/
def State.replaceWork (res : Nat) (cands : List Nat) (kind : Nat) (s : State) : State :=
  let slot := slotOf s.time.now
  let s1 := s.useSlack (fun w => s.adm.bookings.any (fun b => b.res == res && b.seq == w.seq && decide (slot < b.slot))) kind
  s1.rebookRes res cands

/-- Retire one unit that is no island (Table 2.8): its event, and what leaves service with it. -/
def State.retireUnit (u : FUnit) (s : State) : State :=
  if s.faults.retired.contains u then s
  else if s.lastOfKind u then s.enterPreservation 0x0D
  else
    let s1 := s.addRetired u
    match u with
    | .block d b => s1.record 0x3202 [Config.itemCode 0x3202 (d * 2 ^ 32 + b)]
    | .die d =>
      ((s1.record 0x3201 [d]).raise (Reg.FCH_CERR0 + 0x200 * (d / 16)) 0x80).partialLoss (d / 128) d [d]
    | .channel c =>
      let gone := (List.range 16).map (16 * c + ·)
      let s2 := s1.record 0x3200 [c]
      if (s2.portChannels (c / 8)).isEmpty then
        ({ s2 with flash := { s2.flash with dies := s2.flash.dies.filter (fun d => !gone.contains d) } }).memberFail (c / 8) 2
      else s2.partialLoss (c / 8) c gone
    | .serdes l =>
      let s2 := s1.record 0x6200 [l]
      let s3 := { s2 with faults := { s2.faults with lanes := NMap.put s2.faults.lanes l 0 } }
      if l < 16 then s3 else s3.useSlack (fun w => w.grains.any (fun g => g.place.isSome && g.ackAt.isNone)) 0x6200
    | .clane n =>
      ((s1.record 0x5200 [0, n]).raise Reg.CMP_STATUS 0x10).replaceWork (resLane n) (s1.lanesOk.map resLane) 0x5200
    | .dlane n => (s1.record 0x5200 [1, n]).raise Reg.CMP_STATUS 0x10
    | .cluster n =>
      let s2 := ((s1.record 0x5201 [n]).raise Reg.DDUP_STATUS 2).useSlack
        (fun w => w.grains.any (fun g => g.dedup == .waiting)) 0x5201
      if s2.clustersOk.isEmpty then
        ({ s2 with ddup := { s2.ddup with suspended := true } }).record 0x5103 []
      else s2
    | .pair n =>
      ((s1.record 0x9200 [n]).raise Reg.CIPH_STATUS 2).replaceWork (resPair n) (s1.pairsOk.map resPair) 0x9200
    | .voter n =>
      let s2 := s1.record 0x7200 [n]
      { s2 with moor := { s2.moor with
        voters := s2.moor.voters.zipIdx.map (fun (v, i) => if i = n then { v with ok := false } else v)
        twoOfTwo := true } }
    | .island _ _ => s1

/-- Retire an island with the units it clocks (R26, R28); it stays in use for a last healthy unit that cannot be retired (R115). -/
def State.retireIsland (k : IslandKind) (n : Nat) (s : State) : State :=
  let s1 := (islandUnits k n).foldl (fun (s : State) v => s.retireUnit v) s
  if (islandUnits k n).all s1.faults.retired.contains then s1.addRetired (.island k n) else s1

/-- Retire a unit in the tick of the deciding fault, and recompute the budget in the same tick (R48). -/
def State.retire (u : FUnit) (s : State) : State :=
  let old := s.budget
  let s1 := match u with
    | .island k n => s.retireIsland k n
    | _ => s.retireUnit u
  s1.recompute old

/-- Faults of one kind of a unit inside the 24 h window (R47). -/
def State.faultsOf (s : State) (u : FUnit) (kind : Nat) : List Nat :=
  (s.faults.log.filter (fun f => f.1 == u && f.2.1 == kind && decide (s.time.now < f.2.2 + faultWindowTicks))).map (·.2.2)

/-- All faults of a unit inside the 24 h window, saturated at a field's maximum. -/
def State.faultCount (s : State) (u : FUnit) : Nat :=
  satTo 4 (s.faults.log.filter (fun f => f.1 == u && decide (s.time.now < f.2.2 + faultWindowTicks))).length

/-- Tick of a unit's last fault, 0 if none. -/
def State.lastFault (s : State) (u : FUnit) : Nat :=
  (s.faults.log.filter (fun f => f.1 == u)).foldl (fun a f => max a f.2.2) 0

/-- A transient fault (R46, R47): counted, recorded once per occurrence window, and retiring the unit at the threshold. -/
def State.fault (u : FUnit) (kind item : Nat) (data : List Nat) (s : State) : State :=
  let s1 := s.recordOnce kind item data
  let s2 := { s1 with faults := { s1.faults with log := s1.faults.log ++ [(u, kind, s1.time.now)] } }
  if s.faults.retired.contains u then s2
  else if s2.regField Reg.GCTL_RETIRE 3 0 ≤ (s2.faultsOf u kind).length then s2.retire u else s2

/-! ### Islands (R24 to R28) -/

/-- Whether an island is awake, from its first ready tick until it begins to gate (Table 1.7). -/
def State.islandAwake (s : State) (k : IslandKind) (n : Nat) : Bool := s.faults.awake.contains (k, n)

/-- Wake latency (Table 1.6). -/
def wakeLatency : IslandKind → Nat
  | .channel => 2000 | .cmp => 1000 | .ciph => 500 | .ddup => 3000

/-- Bit of CLKP_WAKE_LATE of a kind of island (Table 1.7). -/
def wakeLateBit : IslandKind → Nat
  | .channel => 1 | .cmp => 2 | .ciph => 4 | .ddup => 8

/-- Code of a kind of island in event 0xC010, which the spec does not give (log 11). -/
def islandCode : IslandKind → Nat
  | .channel => Config.itemCode 0xC010 0 | .cmp => Config.itemCode 0xC010 1
  | .ciph => Config.itemCode 0xC010 2 | .ddup => Config.itemCode 0xC010 3

/-- Number of islands of a kind (Table 1.5). -/
def islandCount : IslandKind → Nat
  | .channel => 128 | .cmp => 32 | .ciph => 6 | .ddup => 8

/-- Wake an island: a request while it is gating cancels the gating (R25). -/
def State.wakeIsland (k : IslandKind) (n : Nat) (s : State) : State :=
  if s.islandAwake k n || s.faults.waking.any (fun w => w.1 == k && w.2.1 == n) then s
  else { s with faults := { s.faults with
    gating := s.faults.gating.filter (fun g => !(g.1 == k && g.2.1 == n))
    waking := s.faults.waking ++ [(k, n, s.time.now)] } }

/-- The island of a resource of the Tide Table. -/
def resIsland (r : Nat) : Option (IslandKind × Nat) :=
  if r < 2048 then some (.channel, r / 16)
  else if r < 2176 then some (.channel, r - 2048)
  else if 4096 ≤ r ∧ r < 4128 then some (.cmp, r - 4096)
  else if 4224 ≤ r ∧ r < 4256 then some (.ciph, pairGroup (r - 4224))
  else none

/-- Note the tide slot an island is used in (R24). -/
def State.noteUse (k : IslandKind) (n : Nat) (s : State) : State :=
  { s with faults := { s.faults with
      used := ((k, n), slotOf s.time.now) :: s.faults.used.filter (fun x => !(x.1.1 == k && x.1.2 == n)) } }

/-- The first use of an island wakes it (R24). -/
def State.useIsland (k : IslandKind) (n : Nat) (s : State) : State :=
  if s.faults.retired.contains (.island k n) then s else (s.wakeIsland k n).noteUse k n

/-- Use a resource. -/
def State.useRes (r : Nat) (s : State) : State :=
  match resIsland r with | some (k, n) => s.useIsland k n | none => s

/-- The islands that bookings of the present slot use are woken in it (R24, R27; log 30). -/
def State.wakeDue (s : State) : State :=
  (((s.adm.bookings.filter (fun b => !b.waits && b.slot == slotOf s.time.now)).map (·.res)).eraseDups).foldl
    (fun (s : State) (r : Nat) => s.useRes r) s

/-- Transport engine n is awake while one of its six lanes is up or training, or a Bench test holds it up (R24). -/
def State.engineAwake (s : State) (n : Nat) : Bool :=
  ((List.range 4).map (4 * n + ·) ++ (List.range 2).map (16 + 2 * n + ·)).any (fun l => NMap.getD s.faults.lanes l 0 != 0
    || (s.md.benchBusy && decide (s.md.benchTest ≤ 2) && s.md.benchTarget == l))

end Sys2Proof.Machine
end

