-- ==== Sys2Proof/Machine/Admission.lean ====
section
/-!
DEFINITION. Admission: the Tide Table and its bookings (R64 to R68, R142), rate and credit (R67), holding (R69, R157, R163), and
the write that an admitted command becomes (R15, R16, R83).
-/

namespace Sys2Proof.Machine

/-! ### What a write books (R57, R68) -/

/-- Where a die's bookings may begin while it erases (R65): a firm one at the slot of now plus t_SUSP, a soft one when the
erase has run its modelled time. -/
def State.dieFrom (s : State) (m : DieModel) (d first : Nat) (firm : Bool) : Nat :=
  match s.flash.erases.find? (fun e => e.die == d && !e.suspended) with
  | none => first
  | some e => max first (if firm then slotOf (s.time.now + m.tSusp) else slotOf (e.start + m.tErase) + 1)

/-- Dies of a port that soft work may hold in a slot (R66). -/
def State.softCap (s : State) (port : Nat) : Nat := s.regField Reg.ADM_CTRL 23 16 * (s.portDies port).length / 256

/-- CLKP_CTRL.IDLE_HOLD. -/
def State.idleHold (s : State) : Nat := s.regField Reg.CLKP_CTRL 7 0

/-- Ask for a compression lane. -/
def State.askLane (s : State) (firm : Bool) (seq : Nat) : Ask :=
  { cands := s.lanesOk.map (fun l => (resLane l, [resLane l])), ticks := 1280, wake := 1000,
    idleHold := s.idleHold, firm := firm, seq := seq }

/-- Ask for a cipher pair. -/
def State.askPair (s : State) (firm : Bool) (seq : Nat) : Ask :=
  { cands := s.pairsOk.map (fun p => (resPair p, (groupPairs (pairGroup p)).map resPair)), ticks := 640, wake := 500,
    idleHold := s.idleHold, firm := firm, seq := seq }

/-- Ask for a Decux direction: 0 outgoing, 1 incoming. -/
def askLink (dir : Nat) (firm : Bool) (seq : Nat) : Ask :=
  { cands := [(resLink dir, [])], ticks := 83, wake := 0, idleHold := 0, firm := firm, seq := seq }

/-- Ask for a channel. -/
def State.askChan (s : State) (c ticks : Nat) (firm : Bool) (seq : Nat) : Ask :=
  { cands := [(resChan c, chanIsland c)], ticks := ticks, wake := 2000, idleHold := s.idleHold, firm := firm, seq := seq }

/-- Ask for a die for an operation of so many slots. -/
def State.askDie (s : State) (die slots : Nat) (firm : Bool) (seq : Nat) (whole : Bool) : DieAsk :=
  { die := die, slots := slots, firm := firm, seq := seq, cap := s.softCap (die / 128),
    erasing := (s.flash.erases.filter (fun e => !e.suspended)).map (·.die), whole := whole }

/-- Bytes of the home stream that the writes admitted before a sequence number have booked and not yet appended (R68). -/
def State.bookedBytes (s : State) (seq : Nat) : Nat :=
  ((s.adm.writes.filter (fun w => decide (w.seq < seq))).map (fun w =>
    16448 * (w.grains.filter (fun g => g.place.isNone)).length)).sum

/-- The stripe and the data strips of it that `n` bytes from a band position touch. -/
def stripsTouched (k pos n : Nat) : List (Nat × Nat) :=
  if k = 0 ∨ n = 0 then []
  else (List.range ((pos + n - 1) / 65536 + 1 - pos / 65536)).map (fun i => ((pos / 65536 + i) / k, (pos / 65536 + i) % k))

/-- The pages of a strip that a byte range touches, as the channel transfers it is charged. -/
def pagesTouched (pos n strip : Nat) : Nat :=
  let lo := max pos (strip * 65536)
  let hi := min (pos + n) ((strip + 1) * 65536)
  if hi ≤ lo then 0 else (hi - 1) / 16384 + 1 - lo / 16384

/-- What a strip of a band costs: its stripe, its number and the pages transferred. -/
structure StripAsk where
  stripe : Nat
  strip : Nat
  pages : Nat

/-- Book the transfer and the program of one strip (Table 3.5), none of it at `limit` or later: the bookings and the slot of the
first transfer. A strip on a member that has failed is skipped. -/
def State.bookStrip (s : State) (b : Band) (bandNo first limit : Nat) (firm : Bool) (seq : Nat) (a : StripAsk)
    (bs : List Booking) : Option (List Booking × Nat) :=
  match b.portOf a.strip, b.dieOf a.strip with
  | some port, some die =>
    if s.strp.failed.contains port then some (bs, first)
    else
      match s.portModel port with
      | none => none
      | some m =>
        match bookSpread (s.askChan (die / 16) (a.pages * m.tXfer) firm seq) limit bs (slotsFrom first limit) with
        | none => none
        | some (bs1, x, last) =>
          let mark := resStrip bandNo a.stripe a.strip
          if bs1.any (fun y => y.res == mark) then some (bs1, x)
          else
            let programs := if 4 ≤ m.planes then 1 else 2
            match bookDie (s.askDie die (programs * ceilDiv m.tProgSlc 8192) firm seq true) limit bs1
                (slotsFrom (s.dieFrom m die last firm) limit) with
            | none => none
            | some (bs2, y) =>
              some (bs2 ++ [{ res := mark, slot := y, ticks := 0, firm := firm, running := false, seq := seq, op := y }], x)
  | _, _ => none

/-- Book strips one after another, each from the same first slot: the bookings, and the slot of each strip's first transfer. -/
def State.bookStrips (s : State) (b : Band) (bandNo first limit : Nat) (firm : Bool) (seq : Nat) :
    List StripAsk → List Booking → Option (List Booking × List (Nat × Nat))
  | [], bs => some (bs, [])
  | a :: rest, bs =>
    match s.bookStrip b bandNo first limit firm seq a bs with
    | none => none
    | some (bs1, x) => (s.bookStrips b bandNo first limit firm seq rest bs1).map (fun y => (y.1, (a.stripe, x) :: y.2))

/-- Book the strips that `n` bytes from a band position touch, and the parity strips of their stripes (R68, R87): the bookings, and
for each stripe in order the slot of its first parity transfer. -/
def State.bookFlash (s : State) (b : Band) (bandNo pos n first limit : Nat) (firm : Bool) (seq : Nat) (bs : List Booking) :
    Option (List Booking × List Nat) :=
  let touched := stripsTouched b.k pos n
  let stripes := (touched.map (·.1)).eraseDups
  let data := touched.map (fun t => { stripe := t.1, strip := t.2, pages := pagesTouched pos n (t.1 * b.k + t.2) : StripAsk })
  let parity := (stripes.map (fun x => (List.range b.m).map (fun t => { stripe := x, strip := b.k + t, pages := 4 : StripAsk }))).flatten
  match s.bookStrips b bandNo first limit firm seq data bs with
  | none => none
  | some (bs1, _) =>
    match s.bookStrips b bandNo first limit firm seq parity bs1 with
    | none => none
    | some (bs2, ps) =>
      some (bs2, stripes.map (fun x => ((ps.filter (fun p => p.1 == x)).map (·.2)).foldl min limit))

/-- Book a cipher pair `n` times, each from the slot of the one before (R277). -/
def bookPairs (a : Ask) (limit : Nat) : Nat → List Booking → Nat → Option (List Booking × Nat)
  | 0, bs, x => some (bs, x)
  | n + 1, bs, x =>
    match bookTicks a bs (slotsFrom x limit) with
    | none => none
    | some (bs1, y) => bookPairs a limit n bs1 y

/-- Pair bookings of one grain: its encryption, and one seal for each synchronous target of its volume (R277). -/
def State.passesOf (s : State) (vol : Nat) : Nat :=
  1 + match s.repl.links.find? (fun p => decide (p.2.vol = vol) && p.2.sync && p.2.home) with
    | some p => p.2.targets.length
    | none => 0

/-- Book lanes, pairs and links for `n` grains, each grain through its stages in order (R68). -/
def State.bookEngines (s : State) (firm peer : Bool) (passes seq first limit : Nat) :
    Nat → List Booking → Option (List Booking × Nat)
  | 0, bs => some (bs, first)
  | n + 1, bs =>
    match bookTicks (s.askLane firm seq) bs (slotsFrom first limit) with
    | none => none
    | some (b1, x1) =>
      match bookPairs (s.askPair firm seq) limit passes b1 x1 with
      | none => none
      | some (b2, x2) =>
        match (if peer then bookTicks (askLink 0 firm seq) b2 (slotsFrom x2 limit) else some (b2, x2)) with
        | none => none
        | some (b3, x3) =>
          match s.bookEngines firm peer passes seq first limit n b3 with
          | none => none
          | some (b4, x4) => some (b4, max x3 x4)

/-- Book the page read of a stored record, its die and then its channel: the bookings and the last slot; nothing where the place
has no die (R57, R95, Table 3.5). -/
def State.bookPageRead (s : State) (firm : Bool) (seq first limit : Nat) (e : MapEnt) (bs : List Booking) :
    Option (List Booking × Nat) :=
  let (band, off, plen) := s.entPlace e
  match NMap.find s.path.bands band with
  | none => some (bs, first)
  | some b =>
    match b.dieOf (placeOf b off).2.1, s.bandModel band with
    | some die, some m =>
      match bookDie (s.askDie die (ceilDiv m.tRead 8192) firm seq true) limit bs (slotsFrom (s.dieFrom m die first firm) limit) with
      | none => none
      | some (bs1, x) =>
        (bookSpread (s.askChan (die / 16) (ceilDiv (recordCodewords off (64 + plen)).length 4 * m.tXfer) firm seq) limit bs1
          (slotsFrom x limit)).map (fun y => (y.1, y.2.2))
    | _, _ => some (bs, first)

/-- Book the merge reads of a write (R57, R77): the slot in which the last one ends. -/
def State.bookMerges (s : State) (firm : Bool) (seq first limit : Nat) : List MapEnt → List Booking → Option (List Booking × Nat)
  | [], bs => some (bs, first)
  | e :: es, bs =>
    match s.bookPageRead firm seq first limit e bs with
    | none => none
    | some (b1, x) => (s.bookMerges firm seq first limit es b1).map (fun y => (y.1, max x y.2))

/-- Where the next booked bytes of the home stream lie: the open band, or the one opened next where none is open or it has no room
(R68, R152). -/
def State.bookPlace (s : State) (before n : Nat) : Nat × Band × Nat :=
  let c := s.path.homeStream
  let next := (s.path.nextBand, s.makeBand .home false s.nextSlot)
  match NMap.find s.path.bands c.band with
  | none => (next.1, next.2, before)
  | some b =>
    let pos := c.stripe * b.k * 65536 + c.pos + before
    let size := (match (b.members.head?).bind s.portModel with | some m => bandStripes m | none => 0) * (b.k * 65536)
    if b.sealedBand || b.st != .home then (next.1, next.2, before)
    else if pos + n ≤ size then (c.band, b, pos)
    else (next.1, next.2, pos - size)

/-- What a booked write comes to: the bookings, the bytes of its first stripe before it, and its parity slots (R87). -/
structure Booked where
  bookings : List Booking
  at_ : Nat
  parity : List Nat

/-- Book everything for `g` grains behind `before` bytes booked already (R57: each at 16 KiB and a 64-byte header), the merge reads first. -/
def State.bookWrite (s : State) (vol : Nat) (merges : List MapEnt) (g before first limit : Nat) (firm : Bool) (seq : Nat) :
    Option Booked :=
  match s.bookMerges firm seq first limit merges s.adm.bookings with
  | none => none
  | some (b0, x0) =>
    match s.bookEngines firm s.mirrors (s.passesOf vol) seq x0 limit g b0 with
    | none => none
    | some (b1, x) =>
      let (bandNo, band, pos) := s.bookPlace before (16448 * g)
      (s.bookFlash band bandNo pos (16448 * g) x limit firm seq b1).map (fun y =>
        { bookings := y.1, at_ := if band.k = 0 then 0 else pos % (band.k * 65536), parity := y.2 })

/-! ### Background work (R65, R66) -/

/-- Sequence numbers under which the device's own work books: fold and GC, the floors, mirror records, patrol,
repair rewrites, rebuild. -/
def bgSeq : Nat := 2 ^ 62
def floorSeq : Nat := 2 ^ 62 + 1
def mirrorSeq : Nat := 2 ^ 62 + 2
def patrolSeq : Nat := 2 ^ 62 + 3
def rewriteSeq : Nat := 2 ^ 62 + 4
def rebuildSeq : Nat := 2 ^ 62 + 5

/-- Work that finds no entry waits; it is never dropped (R66). -/
def waitFor (res n ticks seq slot : Nat) : List Booking :=
  List.replicate n { res := res, slot := slot, ticks := ticks, firm := false, running := false, seq := seq, op := slot, waits := true }

/-- The cap of R66 for background work on a die's module; fold and GC of a module below the floor may take every soft entry (R157). -/
def State.workCap (s : State) (die seq : Nat) : Nat :=
  if seq = bgSeq ∧ NMap.getD s.flash.free (die / 128) 0 < s.regField Reg.FCH_CTRL 23 12 then 2048 else s.softCap (die / 128)

/-- Slots of the ring from a slot on. -/
def State.ring (s : State) (first : Nat) : List Nat := slotsFrom first (slotOf s.time.now + ringSlots)

/-- Book a die soft for an operation, else it waits: the bookings and the slot it begins in. -/
def State.softDie (s : State) (die slots seq : Nat) (bs : List Booking) : List Booking × Nat :=
  let slot := slotOf s.time.now
  let from_ := match s.portModel (die / 128) with | some m => s.dieFrom m die slot false | none => slot
  match bookDie { s.askDie die slots false seq false with cap := s.workCap die seq } (slot + ringSlots) bs (s.ring from_) with
  | some r => r
  | none => (bs ++ waitFor (resDie die) slots 1 seq slot, slot)

/-- Book a channel soft for a transfer, from a slot on, else it waits. -/
def State.softChan (s : State) (c ticks seq first : Nat) (bs : List Booking) : List Booking :=
  if ticks = 0 then bs
  else match bookSpread (s.askChan c ticks false seq) (slotOf s.time.now + ringSlots) bs (s.ring first) with
    | some (b, _) => b
    | none => bs ++ waitFor (resChan c) 1 ticks seq (slotOf s.time.now)

/-- Book background work soft: so many ticks of a die, and of its channel behind it. -/
def State.bookWork (seq die dieTicks chanTicks : Nat) (s : State) : State :=
  let (b1, x) := s.softDie die (ceilDiv dieTicks 8192) seq s.adm.bookings
  { s with adm := { s.adm with bookings := s.softChan (die / 16) chanTicks seq x b1 } }

/-- Book the Decux link soft for `n` records, else they wait (R63, R66). -/
def State.bookLinks (seq : Nat) : Nat → State → State
  | 0, s => s
  | n + 1, s =>
    let bs := match bookTicks (askLink 0 false seq) s.adm.bookings (s.ring (slotOf s.time.now)) with
      | some (b, _) => b
      | none => s.adm.bookings ++ waitFor (resLink 0) 1 83 seq (slotOf s.time.now)
    State.bookLinks seq n { s with adm := { s.adm with bookings := bs } }

/-- The work that waits, as resource, owner and operation. -/
def waitingOps (bs : List Booking) : List (Nat × Nat × Nat) := ((bs.filter (·.waits)).map (fun b => (b.res, b.seq, b.op))).eraseDups

/-- Book work that waits, each entry again for what it held; a lane or a pair may be another one. -/
def State.bookAgain (s : State) (bs : List Booking) (g : Nat × Nat × Nat) : List Booking :=
  let mine := fun (b : Booking) => b.waits && b.res == g.1 && b.seq == g.2.1 && b.op == g.2.2
  let rest := bs.filter (fun b => !mine b)
  let held := bs.filter mine
  let need := (held.map (·.ticks)).sum
  if g.1 < 2048 then (s.softDie g.1 held.length g.2.1 rest).1
  else if g.1 < 4096 then s.softChan (g.1 - 2048) need g.2.1 (slotOf s.time.now) rest
  else
    let a := if g.1 < 4224 then s.askLane false g.2.1 else if g.1 < 4352 then s.askPair false g.2.1 else askLink (g.1 - 4352) false g.2.1
    match bookTicks { a with ticks := need } rest (s.ring (slotOf s.time.now)) with
    | some (b, _) => b
    | none => rest ++ held

/-- As the ring advances, waiting work is booked (R66), and entries whose slots have passed are given up. -/
def State.bookWaiting (s : State) : State :=
  let slot := slotOf s.time.now
  let now := startSoft slot (s.adm.bookings.filter (fun b => b.waits || decide (slot ≤ b.slot + 1)))
  { s with adm := { s.adm with bookings := (waitingOps now).foldl s.bookAgain now } }

/-! ### Rate and credit (R67) -/

/-- Refill at the first attempt in a new window (R67). -/
def Resv.refill (r : Resv) (k : Nat) : Resv :=
  if r.window < k then
    { r with credit := min r.burst (r.credit + (r.rate - r.used) + (k - r.window - 1) * r.rate), used := 0, window := k }
  else r

def State.updResv (i : Nat) (f : Resv → Resv) (s : State) : State :=
  { s with adm := { s.adm with resv := NMap.upd s.adm.resv i f } }

/-! ### Space (R157, R163) -/

/-- Fewest free landing blocks on any member module (FCH_SPACE). -/
def State.minFree (s : State) : Nat :=
  match s.strp.order.map (fun p => NMap.getD s.flash.free p 0) with
  | [] => 0
  | x :: xs => xs.foldl min x

/-- A member module below a number of free landing blocks. -/
def State.shortModule (s : State) (n : Nat) : Option Nat :=
  s.strp.order.find? (fun p => NMap.getD s.flash.free p 0 < n)

/-- Overlay entries there are (Table 7.7). -/
def overlayCap : Nat := 2 ^ 27

/-- Map units that grains, given with the LBAs covered, cover only in part, and that are not promoted (R163). -/
def State.partUnits (s : State) (vol : Nat) (plan : List (Nat × Nat × Nat)) : List Nat :=
  ((plan.map (fun p => p.1 / 4)).eraseDups).filter (fun u =>
    decide ((plan.filter (fun p => p.1 / 4 == u && p.2.1 == 15)).length ≠ 4) && !NMap.has s.path.overlay (unitKey vol u))

/-! ### The write a command becomes -/

/-- Opcodes. -/
def opWrite : Nat := 0x01
def opRead : Nat := 0x02
def opCompare : Nat := 0x05
def opZeroes : Nat := 0x08
def opDsm : Nat := 0x09

/-- A grain with nothing done yet. -/
def newGrain (g mask kind : Nat) : GrainOp :=
  { grain := g, mask := mask, kind := kind, plain := [], apptag := 0, formed := false, check := ⟨0, 0, 0⟩, fingerprint := 0,
    dedup := .skip, policy := 0, ddPolicy := 0, lane := .waiting, geom := 0, ciphered := false, payload := [], record := none, place := none,
    sealedAt := none, ackAt := none, receipt := false, failed := false }

/-- Grains of a held command, in grain order (R86), and what is stored for each: data, a zero record, or a deallocate record (R77, R83). -/
def grainPlan (h : Held) : List (Nat × Nat × Nat) :=
  if h.cmd.opcode = opDsm then
    (((h.ranges.map (fun r => (grainsOf r.1 r.2).filterMap (fun g =>
      if lbaMask r.1 r.2 g = 15 then some (g, 15, 2) else none))).flatten).eraseDups).mergeSort (fun a b => decide (a.1 ≤ b.1))
  else
    (grainsOf (slbaOf h.cmd) (nlbOf h.cmd)).map (fun g =>
      let m := lbaMask (slbaOf h.cmd) (nlbOf h.cmd) g
      if h.cmd.opcode = opZeroes ∧ m = 15 then (g, m, if deacOf h.cmd then 2 else 1) else (g, m, 0))

/-- Grains a command books (R57). -/
def grainCount (h : Held) : Nat := (grainPlan h).length

/-- The write in flight that an admitted command becomes. -/
def State.newWrite (s : State) (h : Held) (seq d : Nat) : WriteOp :=
  { seq := seq, cntl := h.cntl, qid := h.qid, dqn := h.dqn, cid := h.cmd.cid, kind := h.cmd.opcode,
    vol := volOf h.cmd.nsid, slba := slbaOf h.cmd, nlb := nlbOf h.cmd, resv := h.resv, d := d, fetch := h.fetch,
    adm := s.time.now, pushed := h.cmd.opcode == opWrite && pushOf h.cmd, acc := none, sepoch := 0, cmd := h.cmd,
    grains := (grainPlan h).map (fun p => newGrain p.1 p.2.1 p.2.2), slack := 0,
    syncWait := [], syncGot := [], syncMiss := [], nonceOut := false, mirrored := s.mirrors
    ovUnits := s.partUnits (volOf h.cmd.nsid) (grainPlan h) }

/-! ### Holding and admitting (R68, R69) -/

/-- Why an attempt did not admit. -/
inductive Hold where
  | no | credit | room
  deriving DecidableEq, Repr

/-- Best-effort counts of the present window (R410). -/
def State.beRefill (s : State) : State :=
  if s.adm.beWindow = windowOf s.time.now then s
  else { s with adm := { s.adm with beWindow := windowOf s.time.now, beWrites := 0, beReads := 0 } }

/-- Writes are held whatever they book: while no peer booking can be made (Table 11.3), in the drain of a resynchronisation
(Table 11.5), in modes that hold (Table 2.2). -/
def State.writesStopped (s : State) : Bool :=
  !s.md.mode.admits || (s.mirrors && s.bothLost) || s.moor.resync.any (fun r => r.stage == 2)

/-- The write of a clone whose snapshot is not readable yet would have to merge with content that is not there yet: it is held until
then (R133; DESIGN CHOICE, log 45). -/
def State.mergeEarly (s : State) (h : Held) : Bool :=
  (match s.ns? (volOf h.cmd.nsid) with | some n => !n.readable | none => false)
    && (grainPlan h).any (fun p => p.2.1 != 15 && p.2.2 == 0)

/-- Landing blocks of every member that a command's grains take beyond the open band, with what earlier writes have booked (R157). -/
def State.blocksFor (s : State) (h : Held) : Bool :=
  let n := 16448 * grainCount h + s.bookedBytes s.adm.nextSeq
  let room := s.bandRoom .home
  let sb := s.strp.k * 65536
  s.strp.order.all (fun p =>
    s.strp.failed.contains p || (match s.portModel p with
      | some m => n ≤ room || decide (ceilDiv (n - room) (max 1 (bandStripes m * sb)) * m.planes ≤ NMap.getD s.flash.free p 0)
      | none => true))

/-- Space holds of R157 and R163; a module that falls short has recorded its event in that tick (State.tookBlocks). -/
def State.spaceHold (h : Held) (s : State) : Bool × State :=
  if (s.shortModule 1).isSome || ((s.shortModule (s.regField Reg.FCH_CTRL 23 12)).isSome && h.resv.isNone) || !s.blocksFor h
      || s.mergeEarly h then
    (true, s)
  else
    let need := (s.partUnits (volOf h.cmd.nsid) (grainPlan h)).length
    if need != 0 && decide (overlayCap < s.path.overlay.length + s.path.overlayHeld + need) then
      (true, (s.recordOnce 0x3400 0 [overlayCap]).raise Reg.FCH_STATUS 4)
    else (false, s)

/-- Suspend the running erases of dies that firm bookings of a kind stand on (R65, R158); the 64th suspend of an erase records event
0x3102. -/
def State.suspendFor (pick : Booking → Bool) (s : State) : State :=
  let hit := fun (e : Erase) => !e.suspended && s.adm.bookings.any (fun b => pick b && b.firm && b.res == resDie e.die)
  let s1 := { s with flash := { s.flash with
    erases := s.flash.erases.map (fun e => if hit e then { e with suspended := true, suspends := e.suspends + 1, suspAt := s.time.now } else e) } }
  (s.flash.erases.filter (fun e => hit e && e.suspends == 63)).foldl (fun s e =>
    (s.raise Reg.FCH_STATUS 0x20).record 0x3102 [e.die, e.block]) s1

/-- The erases that the firm bookings of a sequence number suspend. -/
def State.suspendErases (seq : Nat) (s : State) : State := s.suspendFor (fun b => b.seq == seq)

/-- The erases that firm bookings of the present slot suspend, whenever these were made. -/
def State.suspendDue (s : State) : State := s.suspendFor (fun b => b.slot == slotOf s.time.now)

/-- Stored entries that the grains of a plan covered only in part are merged with (R57, R77). -/
def State.mergeEnts (s : State) (vol : Nat) (plan : List (Nat × Nat × Nat)) : List MapEnt :=
  (plan.filterMap (fun p => if p.2.1 = 15 ∨ p.2.2 ≠ 0 then none else s.mapEnt vol p.1)).filter MapEnt.stored

/-- The bookings and stream test of R68 for a write: on success, the write stands among the writes in flight. -/
def State.admitWrite (h : Held) (s : State) : Hold × State :=
  let g := grainCount h
  let now := s.time.now
  let s0 := match h.resv with
    | some i => s.updResv i (fun r => r.refill (windowOf now))
    | none => s.beRefill
  let r := h.resv.bind (NMap.find s0.adm.resv)
  let excess := match r with | some r => r.used + g - r.rate | none => 0
  let credit := match r with | some r => r.credit | none => 0
  if s0.writesStopped || (s0.md.mode == .relay && h.resv.isNone) then (.room, s0)
  else if credit < excess then (.credit, s0)
  else if r.isNone && s0.elec.throttle && decide (12800 < s0.adm.beWrites + g) then (.credit, s0)
  else
    let (full, s1) := s0.spaceHold h
    if full then (.room, s1)
    else
      let firm := r.isSome
      let slot := slotOf now
      let pulls := h.cmd.opcode == opWrite && !pushOf h.cmd
      let first := slot + (if pulls then s1.regField Reg.ADM_CTRL 15 8 else 0)
      let limit := match r with
        | some r => min (slot + r.d - s1.regField Reg.ADM_CTRL 7 0) (slot + ringSlots)
        | none => slot + ringSlots
      let seq := s1.adm.nextSeq
      let data := ((grainPlan h).filter (fun p => p.2.2 == 0)).length
      match s1.bookWrite (volOf h.cmd.nsid) (s1.mergeEnts (volOf h.cmd.nsid) (grainPlan h))
          (if h.cmd.opcode = opWrite then g else data) (s1.bookedBytes seq) first limit firm seq with
      | none => (.room, s1)
      | some k =>
        let w := { s1.newWrite h seq (match r with | some r => r.d | none => 0) with bookedAt := k.at_, parity := k.parity }
        let s2 := { s1 with
          adm := { s1.adm with
            bookings := k.bookings
            writes := s1.adm.writes ++ [w], nextSeq := seq + 1
            beWrites := if firm then s1.adm.beWrites else s1.adm.beWrites + g }
          path := { s1.path with
            overlayHeld := s1.path.overlayHeld + w.ovUnits.length } }
        let s3 := match h.resv with
          | some i =>
            (((s2.updResv i (fun r => { r with used := r.used + g, credit := r.credit - excess })).countN (ctrResv i 0) g).count
              (ctrResv i 1)).countN (ctrResv i 7) excess
          | none => s2
        (.no, (s3.suspendErases seq).wakeDue)

/-- The slot booked for the first parity transfer of the `j`-th stripe that the `i`-th grain of a write was booked in (R87). -/
def State.paritySlot (s : State) (w : WriteOp) (i j : Nat) : Nat :=
  let sb := s.strp.k * 65536
  match w.parity[(if sb = 0 then 0 else (w.bookedAt + 16448 * i) / sb) + j]? with
  | some x => x
  | none => w.parity.getLast?.getD (slotOf s.time.now + ringSlots)

/-- Hold a command (R68): its place in the hold queue, and counter 2 of its reservation. -/
def State.hold (h : Held) (why : Hold) (s : State) : State :=
  let s1 := { s with adm := { s.adm with held := s.adm.held ++
    [{ h with hold := s.time.now, forCredit := why == .credit, tried := windowOf s.time.now }] } }
  match h.resv with
  | some i => s1.count (ctrResv i 2)
  | none => s1

/-- A command of the same stream is held already (R69). -/
def State.streamHeld (s : State) (h : Held) : Bool :=
  h.resv.isSome && s.adm.held.any (fun x => x.resv == h.resv)

/-- The hold limit of a command's queue has run out at a tick (R72); 0 is no limit. -/
def State.pastLimit (s : State) (h : Held) : Bool :=
  match NMap.find s.nvq.sqs h.dqn with
  | some q => q.holdLimit != 0 && decide (h.fetch + q.holdLimit * 8192 ≤ s.time.now)
  | none => false

/-- The command's end at its hold limit (R72): status 81h, event 0x2101. -/
def State.holdExpire (h : Held) (s : State) : State :=
  let s1 := s.record 0x2101 [resvItem h.resv, h.dqn, h.fetch]
  let s2 := match h.resv with | some i => s1.count (ctrResv i 3) | none => s1
  s2.endHeld h 7 0x81

end Sys2Proof.Machine
end

