-- ==== Sys2Proof/Machine/Lanes.lean ====
section
/-!
DEFINITION. The stored formats of the compression lanes as functions: the byte-mode tokeniser (R105, R106), the sample
transform and its inverse (R107 to R109).
-/

namespace Sys2Proof.Machine

/-- A token of the byte-mode encoder. -/
inductive Token where
  | lit (b : Byte)
  | mtch (length distance : Nat)
  deriving DecidableEq, Repr

/-- The 15-bit hash of three bytes (R106). -/
def hash3 (a b c : Byte) : Nat :=
  ((a.toNat + b.toNat * 2 ^ 8 + c.toNat * 2 ^ 16) * 0x9E3779B1) % 2 ^ 32 / 2 ^ 17

/-- Length of the common prefix of two byte lists, at most `n`. -/
def commonPrefix : Nat → List Byte → List Byte → Nat
  | n + 1, a :: as, b :: bs => if a = b then 1 + commonPrefix n as bs else 0
  | _, _, _ => 0

/-- The hash of the three bytes at a position, where three remain. -/
def hashAt (x : List Byte) (p : Nat) : Option Nat :=
  match x.drop p with
  | a :: b :: c :: _ => some (hash3 a b c)
  | _ => none

/-- The earlier positions on the chain of a hash, nearest first, at most four (R106). -/
def chainAt (x : List Byte) (p : Nat) : List Nat :=
  match hashAt x p with
  | none => []
  | some h => ((List.range p).reverse.filter (fun q => hashAt x q = some h)).take 4

/-- The best match at a position: length and position; a tie keeps the nearer (R106). -/
def bestMatch (x : List Byte) (p : Nat) : Nat × Nat :=
  (chainAt x p).foldl (fun best q =>
    let len := commonPrefix (min 258 (x.length - p)) (x.drop q) (x.drop p)
    if best.1 < len then (len, q) else best) (0, 0)

/-- The tokens from a position on; greedy, with no lazy evaluation (R106). -/
def tokeniseFrom (x : List Byte) : Nat → Nat → List Token
  | 0, _ => []
  | fuel + 1, p =>
    match x.drop p with
    | [] => []
    | b :: _ =>
      let (len, q) := bestMatch x p
      if 3 ≤ len then .mtch len (p - q) :: tokeniseFrom x fuel (p + len)
      else .lit b :: tokeniseFrom x fuel (p + 1)

/-- The tokens of a grain (R106). -/
def tokenise (x : List Byte) : List Token := tokeniseFrom x x.length 0

/-- `n` bytes copied from `d` back in what was already put out, the copy feeding itself. -/
def copyBack : Nat → Nat → List Byte → List Byte
  | 0, _, out => out
  | n + 1, d, out => copyBack n d (out ++ [out.getD (out.length - d) 0])

/-- What the tokens expand to. -/
def expand : List Token → List Byte → List Byte
  | [], out => out
  | .lit b :: ts, out => expand ts (out ++ [b])
  | .mtch n d :: ts, out => expand ts (copyBack n d out)

/-- Bits of a byte list from bit `o`, `n` bits, little-endian (R107, R108). -/
def bitsAt (x : List Byte) (o n : Nat) : Nat :=
  (List.range n).foldl (fun a b => a + b2n ((x.getD ((o + b) / 8) 0).getLsbD ((o + b) % 8)) * 2 ^ b) 0

/-- The geometry of a grain of a sample-mode volume: first whole sample, samples, head bits and tail bits (R108). -/
structure SampleGeom where
  j0 : Nat
  n : Nat
  h : Nat
  tail : Nat
  deriving DecidableEq, Repr

/-- B, j0, N, h and t of R108. -/
def sampleGeom (g w : Nat) : SampleGeom :=
  let b := g * 131072
  let j0 := (b + w - 1) / w
  let n := (b + 131072) / w - j0
  let h := j0 * w - b
  { j0 := j0, n := n, h := h, tail := 131072 - h - n * w }

/-- T_len of R109. -/
def sampleLen (g w : Nat) : Nat :=
  let n := (sampleGeom g w).n
  6 + n + (if 8 < w then n else 0) + (if 16 < w then ceilDiv n 4 else 0)

/-- The predictor of sample i from the samples before it (R108). -/
def predictor (ss : List Nat) (j0 l i : Nat) : Nat :=
  if i = 0 then 0
  else if (j0 + i) % l = 0 ∧ l ≤ i then ss.getD (i - l) 0
  else ss.getD (i - 1) 0

/-- The zig-zag code of the signed w-bit residual (R108). -/
def zigzag (w s p : Nat) : Nat :=
  let d := (s + 2 ^ w - p % 2 ^ w) % 2 ^ w
  if d < 2 ^ (w - 1) then 2 * d else 2 * (2 ^ w - d) - 1

/-- The sample that a zig-zag code and a predictor give back (R110). -/
def unzigzag (w z p : Nat) : Nat :=
  if z % 2 = 0 then (p + z / 2) % 2 ^ w else (p + 2 ^ w - (z / 2 + 1) % 2 ^ w) % 2 ^ w

/-- The residual codes Z[0 .. N − 1] of a grain (R108). -/
def residuals (x : List Byte) (g w l : Nat) : List Nat :=
  let sg := sampleGeom g w
  let ss := (List.range sg.n).map (fun i => bitsAt x (sg.h + i * w) w)
  ss.zipIdx.map (fun (s, i) => zigzag w s (predictor ss sg.j0 l i))

/-- Two bits of four codes packed into one byte (Table 5.4, P2). -/
def packHigh (zs : List Nat) (i : Nat) : Byte :=
  BitVec.ofNat 8 ((List.range 4).foldl (fun a k => a + (zs.getD (4 * i + k) 0 / 2 ^ 16) % 4 * 4 ^ k) 0)

/-- The transformed input U of a grain (R109). -/
def sampleForward (x : List Byte) (g w l : Nat) : List Byte :=
  let sg := sampleGeom g w
  let zs := residuals x g w l
  leBytes 3 (bitsAt x 0 sg.h) ++ leBytes 3 (bitsAt x (sg.h + sg.n * w) sg.tail)
    ++ zs.map (fun z => BitVec.ofNat 8 z)
    ++ (if 8 < w then zs.map (fun z => BitVec.ofNat 8 (z / 256)) else [])
    ++ (if 16 < w then (List.range (ceilDiv sg.n 4)).map (packHigh zs) else [])

/-- Z[i] read back from U (R109, R110). -/
def residualAt (u : List Byte) (n w i : Nat) : Nat :=
  (u.getD (6 + i) 0).toNat
    + (if 8 < w then (u.getD (6 + n + i) 0).toNat * 256 else 0)
    + (if 16 < w then (u.getD (6 + 2 * n + i / 4) 0).toNat / 4 ^ (i % 4) % 4 * 2 ^ 16 else 0)

/-- The samples rebuilt in increasing i (R110). -/
def rebuildSamples (u : List Byte) (n w l j0 : Nat) : List Nat :=
  (List.range n).foldl (fun ss i => ss ++ [unzigzag w (residualAt u n w i) (predictor ss j0 l i)]) []

/-- Values placed one after another, each in its own number of bits, as bytes. -/
def placeBits (vs : List (Nat × Nat)) : List Byte :=
  leBytes 16384 ((vs.foldl (fun (a : Nat × Nat) v => (a.1 + v.1 % 2 ^ v.2 * 2 ^ a.2, a.2 + v.2)) (0, 0)).1)

/-- The grain that U decodes to (R110). -/
def sampleInverse (u : List Byte) (g w l : Nat) : List Byte :=
  let sg := sampleGeom g w
  placeBits ([(leNat (u.take 3), sg.h)] ++ (rebuildSamples u sg.n w l sg.j0).map (fun v => (v, w))
    ++ [(leNat ((u.drop 3).take 3), sg.tail)])

/-- A compressed payload padded with zeros to a multiple of 16 (R85). -/
def pad16 (bs : List Byte) : List Byte := bs ++ padBytes ((16 - bs.length % 16) % 16) 0

end Sys2Proof.Machine
end

