-- ==== Sys2Proof/Machine/Deflate.lean ====
section
/-!
DEFINITION. The DEFLATE stream of a compressed grain: the inflater of RFC 1951 as a decompression lane runs it (R110, R111), and the
form a compression lane's output has (R105, R106). The spec cites RFC 1951 and does not restate it (PRESUMED, log 34).
-/

namespace Sys2Proof.Machine

/-- The bits of a byte list, the least significant bit of each byte first. -/
def bitsOf (bs : List Byte) : List Bool := bs.flatMap (fun b => (List.range 8).map b.getLsbD)

/-- A number of `n` bits, the least significant first; none where the stream ends. -/
def takeBits : Nat → List Bool → Option (Nat × List Bool)
  | 0, bs => some (0, bs)
  | _ + 1, [] => none
  | n + 1, b :: bs => (takeBits n bs).map (fun r => (b2n b + 2 * r.1, r.2))

/-- A Huffman code: how many codes each length 1 to 15 has, and the symbols in order of length, then of number. -/
structure Huff where
  counts : List Nat
  symbols : List Nat
  deriving DecidableEq, Repr

/-- The code that a list of code lengths by symbol stands for. -/
def huffOf (lens : List Nat) : Huff :=
  { counts := (List.range 15).map (fun l => (lens.filter (· == l + 1)).length)
    symbols := ((List.range 15).map (fun l => (lens.zipIdx.filter (fun x => x.1 == l + 1)).map (·.2))).flatten }

/-- Codes left over, in units of 2⁻¹⁵ of the code space: 0 where the code is complete, below where it is over-subscribed. -/
def huffLeft (h : Huff) : Int := h.counts.zipIdx.foldl (fun (a : Int) x => a - (x.1 : Int) * (2 : Int) ^ (14 - x.2)) ((2 : Int) ^ 15)

/-- A code may be used: complete, or a single code of length 1, or for distances none at all. -/
def huffOk (h : Huff) (mayBeEmpty : Bool) : Bool :=
  decide (huffLeft h = 0) || (h.symbols.length == 1 && h.counts.headD 0 == 1) || (mayBeEmpty && h.symbols.isEmpty)

/-- Read one symbol: `code`, `first` and `index` are those of the lengths read so far. -/
def huffRead (symbols : List Nat) : List Nat → Nat → Nat → Nat → List Bool → Option (Nat × List Bool)
  | [], _, _, _, _ => none
  | _, _, _, _, [] => none
  | c :: cs, code, first, index, b :: bs =>
    let k := code + b2n b
    if k < first + c then (symbols[index + (k - first)]?).map (fun x => (x, bs))
    else huffRead symbols cs (2 * k) (2 * (first + c)) (index + c) bs

def Huff.read (h : Huff) (bs : List Bool) : Option (Nat × List Bool) := huffRead h.symbols h.counts 0 0 0 bs

/-- Base and extra bits of length symbol 257 + i and of distance symbol i. -/
def lengthBase : List (Nat × Nat) :=
  [(3, 0), (4, 0), (5, 0), (6, 0), (7, 0), (8, 0), (9, 0), (10, 0), (11, 1), (13, 1), (15, 1), (17, 1), (19, 2), (23, 2), (27, 2),
   (31, 2), (35, 3), (43, 3), (51, 3), (59, 3), (67, 4), (83, 4), (99, 4), (115, 4), (131, 5), (163, 5), (195, 5), (227, 5), (258, 0)]
def distBase : List (Nat × Nat) :=
  [(1, 0), (2, 0), (3, 0), (4, 0), (5, 1), (7, 1), (9, 2), (13, 2), (17, 3), (25, 3), (33, 4), (49, 4), (65, 5), (97, 5), (129, 6),
   (193, 6), (257, 7), (385, 7), (513, 8), (769, 8), (1025, 9), (1537, 9), (2049, 10), (3073, 10), (4097, 11), (6145, 11), (8193, 12),
   (12289, 12), (16385, 13), (24577, 13)]

/-- A value of a table with its extra bits. -/
def baseRead (table : List (Nat × Nat)) (i : Nat) (bs : List Bool) : Option (Nat × List Bool) :=
  match table[i]? with
  | none => none
  | some (base, extra) => (takeBits extra bs).map (fun r => (base + r.1, r.2))

/-- The inflater between two symbols: the bits left, the output and the tokens so far, newest first, and the output's length. -/
structure Inf where
  rest : List Bool
  out : List Byte
  toks : List Token
  n : Nat
  deriving DecidableEq, Repr

/-- Put out a literal, or copy from `d` back. -/
def Inf.lit (b : Byte) (x : Inf) : Inf := { x with out := b :: x.out, toks := .lit b :: x.toks, n := x.n + 1 }
def copyNew : Nat → Nat → List Byte → List Byte
  | 0, _, out => out
  | n + 1, d, out => copyNew n d (out.getD (d - 1) 0 :: out)
def Inf.copy (len d : Nat) (x : Inf) : Inf :=
  { x with out := copyNew len d x.out, toks := .mtch len d :: x.toks, n := x.n + len }

/-- Symbols of a block up to end-of-block; the inflater stops once its output is past `limit` (R111). -/
def inflateSyms (lit dist : Huff) (limit : Nat) : Nat → Inf → Option Inf
  | 0, _ => none
  | fuel + 1, x =>
    if limit < x.n then some x
    else match lit.read x.rest with
    | none => none
    | some (sym, r) =>
      if sym = 256 then some { x with rest := r }
      else if sym < 256 then inflateSyms lit dist limit fuel ({ x with rest := r }.lit (BitVec.ofNat 8 sym))
      else
        match baseRead lengthBase (sym - 257) r with
        | none => none
        | some (len, r1) =>
          match (dist.read r1).bind (fun d => baseRead distBase d.1 d.2) with
          | none => none
          | some (d, r2) => if x.n < d then none else inflateSyms lit dist limit fuel ({ x with rest := r2 }.copy len d)

/-- Order in which the lengths of the code-length code stand. -/
def codeLengthOrder : List Nat := [16, 17, 18, 0, 8, 7, 9, 6, 10, 5, 11, 4, 12, 3, 13, 2, 14, 1, 15]

/-- Lengths of the code-length code as read, put at their symbols. -/
def placeLengths (ls : List Nat) : List Nat :=
  (List.range 19).map (fun s => ((codeLengthOrder.zip ls).find? (fun p => p.1 == s)).elim 0 (·.2))

/-- `n` numbers of `w` bits. -/
def takeMany (w : Nat) : Nat → List Bool → Option (List Nat × List Bool)
  | 0, bs => some ([], bs)
  | n + 1, bs =>
    match takeBits w bs with
    | none => none
    | some (v, r) => (takeMany w n r).map (fun x => (v :: x.1, x.2))

/-- Code lengths of a dynamic block, newest first, until `total` are there. -/
def readLengths (h : Huff) (total : Nat) : Nat → List Nat → List Bool → Option (List Nat × List Bool)
  | 0, _, _ => none
  | fuel + 1, ls, bs =>
    if ls.length = total then some (ls, bs)
    else if total < ls.length then none
    else match h.read bs with
    | none => none
    | some (sym, r) =>
      if sym < 16 then readLengths h total fuel (sym :: ls) r
      else
        let (w, base, v) := if sym = 16 then (2, 3, ls.head?) else if sym = 17 then (3, 3, some 0) else (7, 11, some 0)
        match v, takeBits w r with
        | some v, some (k, r1) => readLengths h total fuel (List.replicate (base + k) v ++ ls) r1
        | _, _ => none

/-- The two codes of a dynamic block: literal/length and distance. -/
def dynamicCodes (bs : List Bool) : Option (Huff × Huff × List Bool) :=
  match takeMany 5 2 bs with
  | some ([hl, hd], r1) =>
    match (takeBits 4 r1).bind (fun c => takeMany 3 (c.1 + 4) c.2) with
    | none => none
    | some (cl, r2) =>
      let ch := huffOf (placeLengths cl)
      if 29 < hl || 29 < hd || !huffOk ch false then none
      else
        match readLengths ch (hl + 257 + hd + 1) (hl + hd + 259) [] r2 with
        | none => none
        | some (ls, r3) =>
          let lens := ls.reverse
          let lit := huffOf (lens.take (hl + 257))
          let dist := huffOf (lens.drop (hl + 257))
          if lens.getD 256 0 = 0 || !huffOk lit false || !huffOk dist true then none else some (lit, dist, r3)
  | _ => none

/-- The codes of a block of type 1. -/
def fixedLit : Huff :=
  huffOf (List.replicate 144 8 ++ List.replicate 112 9 ++ List.replicate 24 7 ++ List.replicate 8 8)
def fixedDist : Huff := huffOf (List.replicate 30 5)

/-- A stored block: the rest of the byte is skipped, then LEN, its complement, and the bytes. `used` is how many bits came before. -/
def inflateStored (limit used : Nat) (x : Inf) : Option Inf :=
  match takeMany 16 2 (x.rest.drop ((8 - used % 8) % 8)) with
  | some ([len, nlen], r) =>
    if len + nlen ≠ 65535 then none
    else
      let take := min len (limit + 1 - x.n)
      match takeMany 8 take r with
      | none => none
      | some (vs, r1) => some ((vs.map (BitVec.ofNat 8)).foldl (fun y b => y.lit b) { x with rest := r1 })
  | _ => none

/-- One block: whether it was the final one, and what the inflater holds after it. -/
def inflateBlock (limit total : Nat) (x : Inf) : Option (Bool × Inf) :=
  match takeBits 3 x.rest with
  | none => none
  | some (h, r) =>
    let y := { x with rest := r }
    let z :=
      if h / 2 = 0 then inflateStored limit (total - r.length) y
      else if h / 2 = 1 then inflateSyms fixedLit fixedDist limit (r.length + 1) y
      else if h / 2 = 2 then
        match dynamicCodes r with
        | none => none
        | some (lit, dist, r1) => inflateSyms lit dist limit (r1.length + 1) { y with rest := r1 }
      else none
    z.map (fun z => (h % 2 == 1, z))

/-- Blocks until the final one, a bad one, or output past the limit. -/
def inflateBlocks (limit total : Nat) : Nat → Inf → Option Inf
  | 0, _ => none
  | fuel + 1, x =>
    match inflateBlock limit total x with
    | none => none
    | some (final, y) => if final || decide (limit < y.n) then some y else inflateBlocks limit total fuel y

/-- What a decompression lane makes of a payload whose plaintext has `len` bytes (R110, R111). -/
def inflate (len : Nat) (payload : List Byte) : LaneDecode :=
  let bs := bitsOf payload
  match inflateBlocks len bs.length (bs.length + 1) { rest := bs, out := [], toks := [], n := 0 } with
  | none => .streamError
  | some x => if len < x.n then .expansion else if x.n < len then .shortOutput else .ok x.out.reverse

/-- A compression lane's output has the form of R105 for a token sequence: one final block of dynamic codes that ends with symbol 256,
a distance code of a single code of length 1 where no token is a match, and zero bits to the end of its last byte. -/
def laneStream (toks : List Token) (out : List Byte) : Bool :=
  let bs := bitsOf out
  match takeBits 3 bs with
  | some (5, r) =>
    match dynamicCodes r with
    | none => false
    | some (lit, dist, r1) =>
      match inflateSyms lit dist 32768 (r1.length + 1) { rest := r1, out := [], toks := [], n := 0 } with
      | none => false
      | some x =>
        decide (x.n ≤ 32768) && decide (x.rest.length < 8) && x.rest.all (fun b => !b) && x.toks.reverse == toks
          && (toks.any (fun t => match t with | .mtch _ _ => true | .lit _ => false) || (dist.symbols.length == 1 && dist.counts.headD 0 == 1))
  | _ => false

/-- Whole symbols of a block as far as the bits go. -/
def inflateSome (lit dist : Huff) : Nat → Inf → Inf
  | 0, x => x
  | fuel + 1, x =>
    match lit.read x.rest with
    | none => x
    | some (sym, r) =>
      if sym = 256 then x
      else if sym < 256 then inflateSome lit dist fuel ({ x with rest := r }.lit (BitVec.ofNat 8 sym))
      else
        match baseRead lengthBase (sym - 257) r with
        | none => x
        | some (len, r1) =>
          match (dist.read r1).bind (fun d => baseRead distBase d.1 d.2) with
          | none => x
          | some (d, r2) => if x.n < d then x else inflateSome lit dist fuel ({ x with rest := r2 }.copy len d)

/-- The 32,768 bytes of an output that a lane gave up on decode, as far as whole symbols go, to the beginning of the tokens (R102). -/
def lanePrefix (toks : List Token) (out : List Byte) : Bool :=
  match takeBits 3 (bitsOf (out.take 32768)) with
  | some (5, r) =>
    match dynamicCodes r with
    | none => false
    | some (lit, dist, r1) =>
      let x := inflateSome lit dist (r1.length + 1) { rest := r1, out := [], toks := [], n := 0 }
      decide (x.rest.length < 48) && x.toks.reverse.isPrefixOf toks
  | _ => false

/-- What a lane encodes for a grain: its bytes, or in sample mode the transformed input (R109). -/
def laneInput (sample : Bool) (geom : Word) (grain : Nat) (x : List Byte) : List Byte :=
  if sample then sampleForward x grain (bits geom 4 0) (bits geom 23 8) else x

/-- What a lane's output decodes to, undone to grain bytes (R110). -/
def decodeStream (sample : Bool) (geom : Word) (grain : Nat) (payload : List Byte) : LaneDecode :=
  let w := bits geom 4 0
  match inflate (if sample then sampleLen grain w else 16384) payload with
  | .ok u => .ok (if sample then sampleInverse u grain w (bits geom 23 8) else u)
  | r => r

/-- A stored grain decoded from its decrypted payload (R110): the grain, or why point V5 fails. -/
def decodeGrain (comp sample : Bool) (geom : Word) (grain : Nat) (payload : List Byte) : LaneDecode :=
  if comp then decodeStream sample geom grain payload else .ok (payload.take 16384)

/-! ### Lane outcomes (R101, R102, Table 5.3) -/

/-- The verifier found no difference: neither its own buffer failed (R116), nor does the output differ from the encoding of what the lane
consumed, whole or as far as it goes (R102, R105, R106). -/
def laneVerified (sample : Bool) (geom : Word) (grain : Nat) (r : LaneResult) : Bool :=
  let toks := tokenise (laneInput sample geom grain r.consumed)
  !r.fault && (if 32768 ≤ r.output.length then lanePrefix toks r.output else laneStream toks r.output)

/-- The outcome row of Table 5.3 for a lane's result; `off` is copy mode. -/
def laneRow (off sample : Bool) (guard : DWord) (geom : Word) (grain : Nat) (r : LaneResult) : Nat :=
  if crc64 r.consumed ≠ guard then 1
  else if off then 2
  else if !laneVerified sample geom grain r then 4
  else if 32768 ≤ r.output.length then 3
  else if 15360 ≤ r.output.length then 5
  else 6

end Sys2Proof.Machine
end

