-- ==== Sys2Proof/Machine/Path.lean ====
section
/-!
DEFINITION. The write path's shared operations: stage 1 (R77 to R83), bands, stripes and the append of records (R86, R87), sealing
(R87), publication (R20, R162), shared-grain references (R124 to R129), and completion (R19, R55, R56, R279).
-/

namespace Sys2Proof.Machine

/-! ### Namespaces -/

def State.updWrite (seq : Nat) (f : WriteOp → WriteOp) (s : State) : State :=
  { s with adm := { s.adm with writes := s.adm.writes.map (fun w => if w.seq = seq then f w else w) } }

def State.write? (s : State) (seq : Nat) : Option WriteOp := s.adm.writes.find? (fun w => w.seq == seq)

/-- Change one grain of a write. -/
def WriteOp.updGrain (g : Nat) (f : GrainOp → GrainOp) (w : WriteOp) : WriteOp :=
  { w with grains := w.grains.map (fun x => if x.grain = g then f x else x) }

def WriteOp.grain? (w : WriteOp) (g : Nat) : Option GrainOp := w.grains.find? (fun x => x.grain == g)

/-! ### Stage 1: the check field (R78, R79) -/

/-- WGEN of the next record of a grain (R79): 0x0000 for the first, then one more each time. -/
def State.nextWgen (s : State) (vol g : Nat) : BitVec 16 :=
  match NMap.find s.path.wgens (grainKey vol g) with
  | some x => x + 1
  | none => 0

/-- Assign a WGEN to a grain. -/
def State.takeWgen (vol g : Nat) (s : State) : State :=
  { s with path := { s.path with wgens := NMap.put s.path.wgens (grainKey vol g) (s.nextWgen vol g) } }

/-- 16,384 zero bytes. -/
def zeroGrain : List Byte := padBytes 16384 0

/-- The old content of a grain with the command's LBAs laid over it (R77); `lba i` is the new content of LBA i of the grain. -/
def overlay (old : List Byte) (lba : Nat → List Byte) (mask : Nat) : List Byte :=
  ((List.range 4).map (fun i => if mask / 2 ^ i % 2 = 1 then lba i else (old.drop (4096 * i)).take 4096)).flatten

/-- LBA i of grain g in the data of a command that begins at `slba`. -/
def lbaOf (data : List Byte) (slba g i : Nat) : List Byte := (data.drop (4096 * (4 * g + i - slba))).take 4096

/-- Application tags of a grain: two bytes an LBA; covered LBAs take the new tag (R81). -/
def overlayTags (old : DWord) (tag : Nat → Nat) (mask : Nat) : DWord :=
  BitVec.ofNat 64 ((List.range 4).map (fun i =>
    (if mask / 2 ^ i % 2 = 1 then tag i % 65536 else old.toNat / 65536 ^ i % 65536) * 65536 ^ i)).sum

/-- The four application tags all alike. -/
def tagsAll (t : Nat) : DWord := overlayTags 0 (fun _ => t) 15

/-- Application tag of an LBA of a write: LBAT where PRACT is set, else from the metadata received (R81), else FFFFh (R83). -/
def lbaTag (e : Sqe) (pi : List Byte) (slba g i : Nat) : Nat :=
  if practOf e then bits e.dw15 15 0
  else match (pi.drop (16 * (4 * g + i - slba) + 8)).take 2 with
    | [a, b] => a.toNat * 256 + b.toNat
    | _ => 0xFFFF

/-- The policies of a write's volume that are in force at its acceptance (R100, R119): compression mode, GEOM, and dedup, which is
off while it is suspended (R130). -/
def State.policies (s : State) (vol : Nat) : Nat × Word × Nat :=
  match s.ns? vol with
  | none => (0, 0, 0)
  | some n => (n.cmode, if n.cmode = 2 then geomOf n.cw n.cl else 0, if s.ddup.suspended then 0 else n.dedup)

/-- The check field of a grain by what is stored for it: data, a zero record, or a deallocate record (R78, Table 4.4). -/
def checkFor (kind : Nat) (plain : List Byte) (vol g : Nat) (wg : BitVec 16) : Check :=
  if kind = 0 then checkOf plain vol g wg
  else { guard := if kind = 1 then crc64 zeroGrain else 0, reftag := refTag vol g, wgen := wg }

/-- Form a grain's check field (stage 1). A grain fetched again keeps the WGEN and the policies it has. -/
def State.formGrain (seq g : Nat) (plain : List Byte) (tags : DWord) (s : State) : State :=
  match s.write? seq with
  | none => s
  | some w =>
    match w.grain? g with
    | none => s
    | some x =>
      let wg := if x.formed then x.check.wgen else s.nextWgen w.vol g
      let s1 := if x.formed then s else s.takeWgen w.vol g
      s1.updWrite seq (fun w => w.updGrain g (fun x =>
        { x with
          plain := plain, apptag := tags, formed := true, check := checkFor x.kind plain w.vol g wg
          fingerprint := if x.ddPolicy = 0 ∨ x.kind ≠ 0 then 0 else sha256 plain
          lane := if x.kind = 0 then .waiting else .raw
          ciphered := x.kind != 0, merging := false }))

/-! ### Reads inside the device -/

/-- Ask the read path for a grain (Table 4.7); `use` as in ReadGrain. -/
def State.startRead (cntl qid cid use merge vol g : Nat) (ent : MapEnt) (s : State) : State :=
  let r : ReadGrain :=
    { rid := s.path.nextRid, cntl := cntl, qid := qid, cid := cid, use := use, merge := merge, vol := vol, grain := g,
      ent := ent, record := none, point := 2, step := 0, failing := [], lanes := [], source := 0, failPoint := 0, result := none }
  { s with path := { s.path with reads := s.path.reads ++ [r], nextRid := s.path.nextRid + 1 } }

/-- Application tags of a grain that holds no stored bytes: those its zero record holds, else FFFFh (R82, R83). -/
def State.emptyTags (s : State) (old : Option MapEnt) : DWord :=
  match old with
  | some e => if e.kind = 2 then (match s.storedAt e.band e.offset with | some x => x.record.apptag | none => tagsAll 0xFFFF)
              else tagsAll 0xFFFF
  | none => tagsAll 0xFFFF

/-- Stage 1 of one grain of a write (R77): whole, merged with zeros, or waiting for the merge read. -/
def State.stage1 (w : WriteOp) (data pi : List Byte) (x : GrainOp) (s : State) : State :=
  if x.kind ≠ 0 then
    s.formGrain w.seq x.grain []
      (if x.kind = 1 then tagsAll (if practOf w.cmd then bits w.cmd.dw15 15 0 else 0xFFFF) else 0)
  else
    let zeros := w.kind ≠ opWrite
    let old := s.mapEnt w.vol x.grain
    let tag := fun i => if zeros then (if practOf w.cmd then bits w.cmd.dw15 15 0 else 0xFFFF)
      else lbaTag w.cmd pi w.slba x.grain i
    let lba := fun i => if zeros then padBytes 4096 0 else lbaOf data w.slba x.grain i
    match (if x.mask = 15 then none else old) with
    | some e =>
      if e.stored then
        (s.updWrite w.seq (fun w => w.updGrain x.grain (fun x =>
          { x with plain := overlay zeroGrain lba x.mask, apptag := overlayTags 0 tag x.mask, merging := true }))).startRead
          w.cntl w.qid w.cid 2 w.seq w.vol x.grain e
      else
        s.formGrain w.seq x.grain (overlay zeroGrain lba x.mask) (overlayTags (s.emptyTags old) tag x.mask)
    | none =>
      s.formGrain w.seq x.grain (overlay zeroGrain lba x.mask) (overlayTags (tagsAll 0xFFFF) tag x.mask)

/-- The old content a merge read delivered, with the new LBAs laid over it (R77). -/
def State.mergeDone (w : WriteOp) (g : Nat) (old : List Byte) (oldTags : DWord) (s : State) : State :=
  match w.grain? g with
  | none => s
  | some x =>
    s.formGrain w.seq g (overlay old (fun i => (x.plain.drop (4096 * i)).take 4096) x.mask) (overlayTags oldTags (fun i => x.apptag.toNat / 65536 ^ i) x.mask)

/-- A write is accepted: its acceptance tick, that of its admission where its data was pushed (R16), and its snapshot epoch (R131); then
stage 1 of every grain. -/
def State.accept (seq : Nat) (data pi : List Byte) (s : State) : State :=
  match s.write? seq with
  | none => s
  | some w =>
    let (cm, geom, dd) := s.policies w.vol
    let s1 := s.updWrite seq (fun w =>
      { w with
        acc := some (if w.pushed then w.adm else s.time.now)
        sepoch := match s.ns? w.vol with | some n => n.epoch | none => 0
        grains := w.grains.map (fun x =>
          { x with policy := cm, ddPolicy := dd, geom := geom,
                   dedup := if dd = 2 ∧ x.kind = 0 then .waiting else .skip }) })
    let s2 := s1.countN (ctrQueue w.dqn 3) (if w.kind = opWrite then 4096 * w.nlb else 0)
    w.grains.foldl (fun s x => s.stage1 w data pi x) s2

/-! ### Bands and stripes (R86, R152, R174) -/

/-- Landing blocks were taken: a member that falls below the floor, or to none, records its event (R157). -/
def State.tookBlocks (old : NMap Nat) (s : State) : State :=
  let floor := s.regField Reg.FCH_CTRL 23 12
  s.strp.order.foldl (fun (s : State) p =>
    let was := NMap.getD old p 0
    let left := NMap.getD s.flash.free p 0
    let s1 := if floor ≤ was ∧ left < floor then (s.record 0x3401 [p, left]).raise Reg.FCH_STATUS 1 else s
    if 1 ≤ was ∧ left < 1 then (s1.record 0x3402 [p]).raise Reg.FCH_STATUS 2 else s1) s

/-- Open the next band of a landing stream (R152); every member gives it a landing block on each plane of a die. -/
def State.openBand (st : StreamId) (s : State) : State :=
  let n := s.path.nextBand
  let s1 := { s with
    path := { s.path with bands := NMap.put s.path.bands n (s.makeBand st false s.nextSlot), nextBand := n + 1 }
    flash := { s.flash with free := s.strp.order.foldl (fun m p =>
      NMap.put m p (NMap.getD m p 0 - (match s.portModel p with | some x => x.planes | none => 0))) s.flash.free } }
  let cur : Stream := { band := n, stripe := 0, pos := 0 }
  let s2 : State := match st with
    | .home => { s1 with path := { s1.path with homeStream := cur } }
    | .mirror => { s1 with path := { s1.path with mirrorStream := cur } }
  (s2.fillBand n).tookBlocks s.flash.free

def State.setStream (st : StreamId) (c : Stream) (s : State) : State :=
  match st with
  | .home => { s with path := { s.path with homeStream := c } }
  | .mirror => { s with path := { s.path with mirrorStream := c } }

/-- Strips on members that have failed with no spare: new stripes skip them (R177). -/
def State.skippedStrips (s : State) (b : Band) : List Nat :=
  (s.strp.failed.map b.stripsOn).flatten

/-- Note bytes in a stripe, making it known to the table. -/
def State.touchStripe (st : StreamId) (band idx bytes paritySlot : Nat) (closed : Bool) (s : State) : State :=
  match s.stripe? band idx with
  | some _ => s.updStripe band idx (fun x =>
      { x with bytes := max x.bytes bytes, closed := x.closed || closed,
               closeTick := if closed && !x.closed then s.time.now else x.closeTick })
  | none =>
    let skip := match NMap.find s.path.bands band with | some b => s.skippedStrips b | none => []
    { s with path := { s.path with stripes := s.path.stripes ++
      [{ st := st, band := band, idx := idx, bytes := bytes, closed := closed,
         closeTick := if closed then s.time.now else 0, transferred := [], programmed := [], sealedAt := none,
         oldestParity := paritySlot, dense := none, migrated := 0, skipped := skip }] } }

/-- Close the open stripe of a stream short (R87): pad record, zeros, or nothing. -/
def State.closeStripe (st : StreamId) (s : State) : State :=
  let c := s.stream st
  match NMap.find s.path.bands c.band with
  | none => s
  | some b =>
    if c.pos = 0 then s
    else
      let cur := (c.pos - 1) / 65536
      let rest := 65536 * (cur + 1) - c.pos
      let base := c.stripe * b.k * 65536
      let s1 := if 64 ≤ rest then
          { s with path := { s.path with stored := s.path.stored ++
            [{ st := st, band := c.band, stripe := c.stripe, offset := base + c.pos,
               record := padRecord rest s.time.now, acked := true }] } }
        else s
      (s1.touchStripe st c.band c.stripe (65536 * (cur + 1)) 0 true).setStream st
        { band := c.band, stripe := c.stripe + 1, pos := 0 }

/-- A stream with room for a record: where it does not fit, the last stripe closes short, its band is sealed, and the next band opens
(R152); a device with a sealed band is formatted (R168). -/
def State.roomFor (st : StreamId) (len : Nat) (s : State) : State :=
  if len ≤ s.bandRoom st then s
  else
    let s1 := s.closeStripe st
    let old := (s1.stream st).band
    let s2 := { s1 with path := { s1.path with
      bands := NMap.upd s1.path.bands old (fun b => if b.st = st then { b with sealedBand := true } else b)
      formatted := s1.path.formatted || NMap.has s1.path.bands old } }
    s2.openBand st

/-- Stripes that bytes `[pos, pos + len)` of a stripe-relative position fill or touch. -/
def stripeBytes (sb pos len i : Nat) : Nat := min sb (pos + len - i * sb)

/-- Append a record to a stream (R86); answers the state, and the band and offset it took. `paritySlot` gives the slot of the parity
transfer booked for each stripe it lies in (R87). -/
def State.appendRecord (st : StreamId) (r : Record) (paritySlot : Nat → Nat) (acked : Bool) (s : State) : State × Nat × Nat :=
  let len := recordLen r
  let s0 := s.roomFor st len
  let c := s0.stream st
  match NMap.find s0.path.bands c.band with
  | none => (s0, c.band, 0)
  | some b =>
    let sb := b.k * 65536
    let off := c.stripe * sb + c.pos
    let x : Stored := { st := st, band := c.band, stripe := c.stripe, offset := off, record := r, acked := acked }
    let s1 : State := { s0 with path := { s0.path with stored := s0.path.stored ++ [x] } }
    let n := if sb = 0 then 0 else (c.pos + len - 1) / sb + 1
    let s2 := (List.range n).foldl (fun s i =>
      s.touchStripe st c.band (c.stripe + i) (stripeBytes sb c.pos len i) (paritySlot i) (stripeBytes sb c.pos len i == sb)) s1
    let e := c.pos + len
    (s2.setStream st { band := c.band, stripe := c.stripe + (if sb = 0 then 0 else e / sb),
                       pos := if sb = 0 then e else e % sb }, c.band, off)

/-! ### Reads and copies in the background (R154, R276) -/

/-- The pages that a record at an offset lies in. -/
def recordPages (off len : Nat) : Nat := if len = 0 then 0 else (off + len - 1) / 16384 + 1 - off / 16384

/-- Book the read of a record, its transfer, and where it is written the transfer and the dense program of its copy, all soft (R154). -/
def State.bookCopy (band off len : Nat) (write : Bool) (s : State) : State :=
  match NMap.find s.path.bands band with
  | none => s
  | some b =>
    match b.dieOf (placeOf b off).2.1, s.bandModel band with
    | some die, some m =>
      s.bookWork bgSeq die (if write then m.tProgDense else m.tRead) (recordPages off len * m.tXfer)
    | _, _ => s

/-! ### Shared grains (R124 to R129) -/

/-- Entries the shared-grain table holds (DDUP_CTRL). -/
def State.sgtCap (s : State) : Nat := 2 ^ (s.regField Reg.DDUP_CTRL 3 0 + 20)

/-- Entries the hot cache holds (DDUP_CTRL). -/
def State.cacheCap (s : State) : Nat := 2 ^ (s.regField Reg.DDUP_CTRL 11 8 + 20)

/-- Dedup runs: it is not stopped by Preservation (R40), nor suspended (R130). -/
def State.dedupRuns (s : State) : Bool := !s.ddup.suspended && s.md.mode != .preservation

/-- Queue a grain for post-process; when the queue is full the newest is dropped and counted (R126). `bad` is a cluster that disagreed on
it (R130). -/
def State.queuePost (vol g : Nat) (wgen : BitVec 16) (fp : Nat) (bad : Option Nat) (s : State) : State :=
  if 2 ^ 24 ≤ s.ddup.ppq.length then (s.count 8).raise Reg.DDUP_STATUS 8
  else { s with ddup := { s.ddup with ppq := s.ddup.ppq ++ [{ vol := vol, grain := g, wgen := wgen, fp := fp, cluster := bad }] } }

/-- Filter positions of a fingerprint: bits [26:0] select a 512-bit block, bytes 4 to 7 give four 9-bit positions (Table 6.1).
Byte 0 of a fingerprint is its most significant; the nine bits of a position are its byte and the bits above them (log 13). -/
def filterBits (fp : Nat) : List Nat :=
  let le := leNat (beBytes 32 fp)
  let block := le % 2 ^ 27
  (List.range 4).map (fun i => block * 512 + le / 2 ^ (32 + 8 * i) % 512)

/-- An SGT entry satisfies R121 for a grain of a key slot, and its record's block has not been erased (R128); an entry of a poisoned line
counts as a miss (R292). -/
def State.sgtFits (s : State) (i : Nat) (guard : DWord) (keyslot : Nat) : Bool :=
  match NMap.find s.ddup.sgt i with
  | some e => (s.recordSealed e.band e.offset (64 + e.plen)).isSome && e.guard == guard && e.keyslot == keyslot
      && !s.ddup.lostLines.contains (i / 2) && !s.bandErasing e.band
  | none => false

/-- An entry that satisfies R121 for a fingerprint, guard and key slot: its record lies in a sealed stripe. -/
def State.sgtMatch (s : State) (fp : Nat) (guard : DWord) (keyslot : Nat) : Option Nat :=
  match (s.ddup.cache ++ s.ddup.index).find? (fun e =>
      e.fp == fp && e.guard == guard && e.keyslot == keyslot && s.sgtFits e.sgt guard keyslot) with
  | some e => some e.sgt
  | none => none

/-- A free index of the shared-grain table; none while the table is full (R129). -/
def State.sgtFree (s : State) : Option Nat :=
  if s.ddup.sgt.length < s.sgtCap then firstFree 0 (s.ddup.sgt.length + 1) (fun i => NMap.has s.ddup.sgt i) else none

/-- Put an entry into the hot cache: entries hit or inserted last stand first (Table 6.1). -/
def State.cachePut (e : FpEnt) (s : State) : State :=
  { s with ddup := { s.ddup with cache := (e :: s.ddup.cache.filter (fun x => x != e)).take s.cacheCap } }

/-- Write an index entry: into this head's partition, or at the pair that holds it (R122, R125). -/
def State.indexPut (e : FpEnt) (s : State) : State :=
  if s.holder (partitionOf e.fp) = s.ownPair then { s with ddup := { s.ddup with index := s.ddup.index ++ [e] } }
  else s.emit (.indexPut (s.holder (partitionOf e.fp)) e)

/-- Insert a stored grain: SGT entry, map reference, index entry, filter and cache (R125); a full table leaves it unique (R129). -/
def State.dedupInsert (vol g fp : Nat) (e : MapEnt) (c : Check) (keyslot : Nat) (s : State) : State :=
  match s.sgtMatch fp c.guard keyslot with
  | some _ => s.queuePost vol g c.wgen fp none
  | none =>
    match s.sgtFree with
    | none => (s.raise Reg.DDUP_STATUS 4).recordOnce 0x5102 0 [s.ddup.sgt.length]
    | some i =>
      let entry : Sgt := { mirror := e.mirror, band := e.band, offset := e.offset, reftag := c.reftag, wgen := c.wgen,
                           guard := c.guard, refs := 1, keyslot := keyslot, pending := false, plen := e.plen }
      let fpe : FpEnt := { fp := fp, guard := c.guard, keyslot := keyslot, pair := s.ownPair, sgt := i }
      let s1 := (s.indexPut fpe).cachePut fpe
      { s1 with
        ddup := { s1.ddup with
          sgt := NMap.put s.ddup.sgt i entry
          filter := s.ddup.filter ++ (filterBits fp).filter (fun b => !s.ddup.filter.contains b) }
        path := { s.path with
          map := NMap.put s.path.map (grainKey vol g) { e with kind := 4, sgt := i } } } |>.promote vol (g / 4)

/-! ### Publication (R20, R162) -/

/-- The order in which overlapping records of one grain win (R94): ATICK, then ASEQ_LO by signed difference, then SEQ. -/
def laterRecord (t1 a1 q1 t2 a2 q2 : Nat) : Bool :=
  if t1 ≠ t2 then decide (t2 < t1)
  else
    let d := (a1 % 2 ^ 32 + 2 ^ 32 - a2 % 2 ^ 32) % 2 ^ 32
    if d ≠ 0 then decide (d < 2 ^ 31) else decide (q2 ≤ q1)

/-- The map changed since the last checkpoint (R40). -/
def State.mapTouched (s : State) : State := { s with path := { s.path with mapChanged := true } }

/-- Set the dirty bit of a map unit while this head serves without a mirror (R265); a unit on its way to the partner is dirty again
(R267). -/
def State.markDirty (vol unit : Nat) (s : State) : State :=
  if s.md.mode == .takeover || s.md.mode == .sole || s.md.mode == .handback then
    let u := unitKey vol unit
    { s with moor := { s.moor with
        dirty := if s.moor.dirty.contains u then s.moor.dirty else s.moor.dirty ++ [u]
        resync := s.moor.resync.map (fun r => { r with out := r.out.filter (fun x => x.1 != u) }) } }
  else s

/-- Put an entry into the frozen maps of snapshots that are not readable yet and hold it (R131). -/
def State.publishFrozen (vol g : Nat) (e : MapEnt) (s : State) : State :=
  match s.ns? vol with
  | none => s
  | some n =>
    (n.snaps.filter (fun x => !x.2.readable && decide (e.atick < x.2.tick))).foldl (fun s x =>
      let old := match s.ns? vol with | some n => NMap.find (NMap.getD n.frozen x.1 []) g | none => none
      let newer := match old with
        | some o => laterRecord e.atick e.aseq e.seq o.atick o.aseq o.seq
        | none => true
      if newer then
        let s1 := (if e.kind = 4 then s.addRef e.sgt else s).releaseEnt old
        s1.updNs vol (fun n => { n with frozen := NMap.put n.frozen x.1 (NMap.put (NMap.getD n.frozen x.1 []) g e) })
      else s) s

/-- Publish a grain's entry (R20): the write accepted later determines the content, whatever order completions take. -/
def State.publish (vol g : Nat) (e : MapEnt) (s : State) : State :=
  if !NMap.has s.nvq.ns vol then s else
  let s1 := (s.publishFrozen vol g e).mapTouched
  let old := s1.mapEnt vol g
  let newer := match old with
    | some o => laterRecord e.atick e.aseq e.seq o.atick o.aseq o.seq
    | none => true
  if newer then
    let s2 := s1.releaseEnt old
    let s3 := if e.kind = 4 then s2.addRef e.sgt else s2
    { s3 with path := { s3.path with map := NMap.put s3.path.map (grainKey vol g) e } }
  else s1

/-- A write's map units are promoted to the fine overlay, or returned to RUN form where no grain refers to a shared one (R162). -/
def State.promoteUnits (w : WriteOp) (s : State) : State :=
  ((w.grains.map (fun x => x.grain / 4)).eraseDups).foldl (fun s u =>
    let inUnit := w.grains.filter (fun x => x.grain / 4 == u)
    let whole := inUnit.length == 4 && inUnit.all (fun x => x.mask == 15 && !x.failed &&
      (match s.mapEnt w.vol x.grain with | some e => e.kind != 4 | none => false))
    if whole then s.unpromote w.vol u else s.promote w.vol u) s

/-- The map entry of a grain whose record stands in the stream. -/
def grainEnt (w : WriteOp) (x : GrainOp) : Option MapEnt :=
  match x.record, x.place with
  | some r, some (band, off) =>
    some { kind := match x.dedup with
                   | .hit _ => 4
                   | _ => if x.kind = 1 then 2 else if x.kind = 2 then 3 else 1
           wgen := x.check.wgen, mirror := false, band := band, offset := off, plen := r.plen
           sgt := match x.dedup with | .hit i => i | _ => 0
           volTag := w.vol, atick := w.acc.getD 0, aseq := w.seq, seq := r.seq }
  | _, _ => none

/-- Publish every grain of a completed write, and let dedup take it up (R124 to R126). -/
def State.publishWrite (w : WriteOp) (s : State) : State :=
  let s1 := w.grains.foldl (fun s x =>
    match (if x.failed then none else grainEnt w x) with
    | none => s
    | some e =>
      let s2 := (s.publish w.vol x.grain e).markDirty w.vol (x.grain / 4)
      let ks := match s2.ns? w.vol with | some n => n.keyslot | none => 0
      match x.dedup with
      | .miss =>
        if s2.mapEnt w.vol x.grain == some e && s2.dedupRuns then s2.dedupInsert w.vol x.grain x.fingerprint e x.check ks else s2
      | .expired => s2.queuePost w.vol x.grain x.check.wgen x.fingerprint x.misHashed
      | _ => if x.ddPolicy = 1 && x.kind == 0 then s2.queuePost w.vol x.grain x.check.wgen x.fingerprint none else s2) s
  s1.promoteUnits w

/-- The grains and map entries of a volume. -/
def State.volMap (s : State) (vol : Nat) : NMap MapEnt :=
  (s.path.map.filter (fun p => p.1 / 2 ^ 34 == vol)).map (fun p => (p.1 % 2 ^ 34, p.2))

/-- References that a map's shared entries hold are added, or released (R128). -/
def State.addRefs (m : NMap MapEnt) (s : State) : State :=
  m.foldl (fun s p => if p.2.kind = 4 then s.addRef p.2.sgt else s) s
def State.releaseRefs (m : NMap MapEnt) (s : State) : State := m.foldl (fun s p => s.releaseEnt (some p.2)) s

/-! ### Replicas (R273 to R276) -/

/-- Key in `frozen` of a replica's last committed set. -/
def viewKey : Nat := 65536

/-- The entry a host read sees: of a replica, that of its last committed set (R273). -/
def State.viewEnt (s : State) (vol g : Nat) : Option MapEnt :=
  match s.ns? vol with
  | some n => if n.replica.isSome then NMap.find (NMap.getD n.frozen viewKey []) g else s.mapEnt vol g
  | none => s.mapEnt vol g

/-- Put a grain's entry into the committed view: a SYNC frame is visible once stored. -/
def State.viewPut (vol g : Nat) (e : MapEnt) (s : State) : State :=
  let old := match s.ns? vol with | some n => NMap.find (NMap.getD n.frozen viewKey []) g | none => none
  let s1 := (if e.kind = 4 then s.addRef e.sgt else s).releaseEnt old
  s1.updNs vol (fun n => { n with frozen := NMap.put n.frozen viewKey (NMap.put (NMap.getD n.frozen viewKey []) g e) })

/-- A commit frame is applied (R276): the set becomes visible in one tick. -/
def State.commitView (vol : Nat) (s : State) : State :=
  let old := match s.ns? vol with | some n => NMap.getD n.frozen viewKey [] | none => []
  let m := s.volMap vol
  ((s.addRefs m).releaseRefs old).updNs vol (fun n => { n with frozen := NMap.put n.frozen viewKey m })

/-- A write of a replication frame that is stored (R274): a SYNC grain is visible, and a commit that waited for the last grain of its
set is applied. -/
def State.replStored (w : WriteOp) (s : State) : State :=
  if w.cntl < replKey 0 then s
  else
    let s1 := if w.qid = 1 then w.grains.foldl (fun (s : State) (x : GrainOp) =>
        match s.mapEnt w.vol x.grain with | some e => s.viewPut w.vol x.grain e | none => s) s else s
    match NMap.find s1.repl.commits w.vol with
    | some (n, fseq) =>
      if s1.adm.writes.any (fun v => v.vol == w.vol && decide (replKey 0 ≤ v.cntl)) then s1
      else ({ s1.commitView w.vol with repl := { s1.repl with commits := NMap.del s1.repl.commits w.vol } }).emit (.frameAnswer n fseq 0)
    | none => s1

/-! ### Completion (R19, R55, R56, R279) -/

/-- T_D of a write (R55). -/
def WriteOp.deadline (w : WriteOp) : Nat := w.acc.getD 0 + w.d * 8192

/-- The latest of the ticks at which the copies that count were programmed. -/
def WriteOp.lastSealed (mirrored : Bool) (w : WriteOp) : Nat :=
  w.grains.foldl (fun a x => max a (max (x.sealedAt.getD 0) (if mirrored then x.ackAt.getD 0 else 0))) 0

/-- A write's completion needs the partner's acknowledgement: it was accepted while mirrors were kept, and the head serves neither in Sole
nor in Handback (R19). -/
def State.needsAck (s : State) (w : WriteOp) : Bool := w.mirrored && s.service != .sole && s.service != .handback

/-- R19: every record sealed here, and acknowledged by the partner where a mirror is kept. -/
def WriteOp.durable (mirrored : Bool) (w : WriteOp) : Bool :=
  w.acc.isSome && w.grains.all (fun x => x.failed || (x.sealedAt.isSome && (!mirrored || x.ackAt.isSome)))

/-- Status a durable write ends with (R77, R279): a failed merge, a refused seal, a missing target, else success. -/
def WriteOp.status (w : WriteOp) : Nat × Nat × Nat :=
  if w.grains.any (·.failed) then (2, 0x81, 0)
  else if w.nonceOut then (7, 0x85, maskOf w.syncGot)
  else if !w.syncMiss.isEmpty then (7, 0x87, maskOf w.syncGot)
  else (0, 0, 0)

/-- A write that meets R19 completes (R56): on time or late, published, and posted. -/
def State.finishWrite (w : WriteOp) (s : State) : State :=
  let last := w.lastSealed (s.needsAck w)
  let late := w.resv.isSome && w.kind == opWrite && decide (w.deadline ≤ last)
  let s1 := (s.publishWrite w).dropWrite w.seq
  let s2 := match w.resv with
    | some i =>
      if late then
        ((s1.record 0x2100 [i, last - w.deadline]).raise Reg.ADM_STATUS 4).count (ctrResv i 4)
      else s1.count (ctrResv i 5)
    | none => s1
  let (sct, sc, dw0) := w.status
  let s3 := if sct = 0 ∧ w.cntl < replKey 0 then { s2 with nvq := { s2.nvq with
      hostWrites := s2.nvq.hostWrites + 1
      bytesWritten := s2.nvq.bytesWritten + (if w.kind = opWrite then 4096 * w.nlb else 0) } } else s2
  ((s3.complete w.cntl w.qid w.cid sct sc (dw0 + (if late && sct == 0 then 2 else 0)) 0).replStored w).snapsReady w.vol

/-- Complete every write that is ready, in sequence order; Holdup posts nothing (Table 3.1). -/
def State.checkWrites (s : State) : State :=
  if s.md.mode = .holdup then s
  else (s.adm.writes.filter (fun w => w.durable (s.needsAck w) && w.syncWait.isEmpty)).foldl (fun s w => s.finishWrite w) s

/-- Ticks at which the records of the writes in flight came to be programmed whole and sealed on this head (R19, R55). -/
def State.markSealed (s : State) : State :=
  { s with adm := { s.adm with writes := s.adm.writes.map (fun w =>
      { w with grains := w.grains.map (fun x =>
          match x.sealedAt, x.record, x.place with
          | none, some r, some (b, o) =>
            if s.recordProgrammed b o (recordLen r) then
              { x with sealedAt := (s.recordSealed b o (recordLen r)).map (fun _ => s.time.now) }
            else x
          | _, _, _ => x) }) } }

end Sys2Proof.Machine
end

