-- ==== Sys2Proof/Machine/ReplOps.lean ====
section
/-!
DEFINITION. Replication frames on their way out (R274, R276 to R280).
-/

namespace Sys2Proof.Machine

def State.updLink (i : Nat) (f : Link → Link) (s : State) : State :=
  { s with repl := { s.repl with links := NMap.upd s.repl.links i f } }

def State.updTarget (i j : Nat) (f : Target → Target) (s : State) : State :=
  s.updLink i (fun l => { l with targets := NMap.upd l.targets j f })

def State.target? (s : State) (i j : Nat) : Option Target :=
  (NMap.find s.repl.links i).bind (fun l => NMap.find l.targets j)

/-- The session of PURPOSE 2 that reaches a descriptor's peer, if one is open (R273). -/
def State.replSession (s : State) (d : LinkDesc) : Option Nat :=
  (s.idm.sessions.find? (fun p => p.2.purpose == 2 && p.2.source == d.peer && p.2.state == 2)).map (·.1)

/-- Send one frame to a target: its FSEQ is the target's next (Table 12.1). False where the session is not open or its sealing slot
refuses (R279); the second flag says that it was the slot. -/
def State.sendFrame (i j : Nat) (f : ReplFrame) (owner : Option Nat) (s : State) : Bool × Bool × State :=
  match s.target? i j with
  | none => (false, false, s)
  | some t =>
    match (s.replSession t.desc).bind (NMap.find s.idm.sessions) with
    | none => (false, false, s)
    | some x =>
      match s.takeCounter (keySlot x.keyid x.phaseTx) with
      | (none, s1) => (false, true, s1)
      | (some _, s1) =>
        (true, false, (s1.updTarget i j (fun t =>
          { t with fseq := t.fseq + 1, flight := t.flight ++ [(t.fseq + 1, owner, f.grain / 4)] })).emit
            (.frame i j { f with fseq := t.fseq + 1 }))

/-- The frame of a write's grain: the grain as the compression lane produced it (R274). -/
def grainFrame (w : WriteOp) (x : GrainOp) (tvol : Nat) : ReplFrame :=
  let (comp, sample, bytes) := match x.kind, x.lane with
    | 0, .comp b smp => (true, smp, b)
    | 0, _ => (false, false, x.plain)
    | _, _ => (false, false, [])
  { kind := x.kind + 1, comp := comp, sample := sample, sync := true, plen := bytes.length, tvol := tvol, grain := x.grain,
    atick := w.acc.getD 0, guard := x.check.guard, apptag := x.apptag, geom := if sample then x.geom else 0, setseq := 0,
    fseq := 0, result := 0, payload := bytes }

/-- Map units of a write. -/
def WriteOp.units (w : WriteOp) : List Nat := ((w.grains.map (fun x => x.grain / 4)).eraseDups)

/-- What a target holds once it has missed writes of these units (R280): their bits are set and it is out of sync. A miss while it was
resyncing drops the set under way too, for the resynchronisation starts again with a new snapshot. -/
def Target.missed (units : List Nat) (t : Target) : Target :=
  let t1 := { t with marked := t.marked ++ units.filter (fun u => !t.marked.contains u), state := 1 }
  if t.state = 2 then { t1 with cur := none, commitSeq := 0, flight := t.flight.filter (fun f => f.2.1.isSome) } else t1

/-- A target misses a write (R279, R280): its bits are set, and a target that was in sync falls out of sync with event 0x6301. -/
def State.missTarget (i j : Nat) (units : List Nat) (s : State) : State :=
  match s.target? i j with
  | none => s
  | some t =>
    let s1 := s.updTarget i j (Target.missed units)
    if t.state = 0 then s1.record 0x6301 [i, j] else s1

/-- Send a write's grains to one target of a synchronous link; a target that is not in sync is a miss (R277, R279, R280). -/
def State.syncOne (i j : Nat) (t : Target) (w : WriteOp) (s : State) : State :=
  if t.state = 0 ∨ (t.state = 2 ∧ t.from_ ≤ w.acc.getD 0) then
    let sent := (w.grains.filter (fun x => !x.failed)).foldl (fun (a : Bool × Bool × State) x =>
      if !a.1 then a else a.2.2.sendFrame i j (grainFrame w x (volOf t.desc.nsid)) (some w.seq)) (true, false, s)
    if sent.1 && t.state = 0 then sent.2.2.updWrite w.seq (fun w => { w with syncWait := w.syncWait ++ [j] })
    else if sent.1 then sent.2.2.updWrite w.seq (fun w => { w with syncMiss := w.syncMiss ++ [j] })
    else (sent.2.2.missTarget i j w.units).updWrite w.seq (fun w =>
      { w with syncMiss := w.syncMiss ++ [j], nonceOut := w.nonceOut || sent.2.1 })
  else
    (s.missTarget i j w.units).updWrite w.seq (fun w => { w with syncMiss := w.syncMiss ++ [j] })

/-- The synchronous frames of a write leave when its records are appended (R277). -/
def State.sendSync (w : WriteOp) (s : State) : State :=
  match s.repl.links.find? (fun p => decide (p.2.vol = w.vol) && p.2.sync && p.2.home) with
  | none => s
  | some (i, l) => l.targets.foldl (fun s p => s.syncOne i p.1 p.2 w) s

/-- What an entry stands for: its own record, or the canonical data record of a shared grain (R267). -/
def State.entStored (s : State) (e : MapEnt) : Option Stored :=
  let at_ := fun (mirror : Bool) (band off : Nat) =>
    s.path.stored.find? (fun x => (x.st == .mirror) == mirror && x.band == band && x.offset == off)
  if e.kind = 4 then (NMap.find s.ddup.sgt e.sgt).bind (fun g => at_ g.mirror g.band g.offset)
  else at_ e.mirror e.band e.offset

def State.entRecord (s : State) (e : MapEnt) : Option Record := (s.entStored e).map (·.record)

/-- Book the reads of a set's grains, soft (R276). -/
def State.bookSetReads (es : List MapEnt) (s : State) : State :=
  (es.filterMap s.entStored).foldl (fun (s : State) (x : Stored) => s.bookCopy x.band x.offset (recordLen x.record) false) s

/-! ### Sets (R276, R280) -/

/-- What a compression lane produced for a stored record (R274). -/
def State.laneBytes (s : State) (r : Record) : List Byte :=
  match NMap.find s.ciph.slots r.keyslot with
  | some k => xtsDecrypt k.key1 k.key2 (xtsTweak r.check) r.payload
  | none => []

/-- The frame of one grain of a snapshot (Table 12.1). -/
def State.setFrame (s : State) (l : Link) (t : Target) (g : Nat) (e : MapEnt) : ReplFrame :=
  let base : ReplFrame :=
    { kind := if e.kind = 2 then 2 else if e.kind = 3 then 3 else 1, comp := false, sample := false, sync := false, plen := 0,
      tvol := volOf t.desc.nsid, grain := g, atick := e.atick, guard := 0, apptag := 0, geom := 0, setseq := l.setSeq, fseq := 0,
      result := 0, payload := [] }
  match s.entRecord e with
  | none => base
  | some r =>
    let bytes := if base.kind = 1 then s.laneBytes r else []
    { base with comp := r.comp && base.kind == 1, sample := r.sample && base.kind == 1, plen := bytes.length, guard := r.check.guard,
                apptag := r.apptag, geom := r.geom, payload := bytes }

/-- Two versions of a grain are the same. -/
def MapEnt.same (a b : MapEnt) : Bool := a.wgen == b.wgen && a.atick == b.atick && a.aseq == b.aseq

/-- The grains a target is to get (R276, R280): those that differ from its base, or those of its marked units. -/
def setGrains (l : Link) (t : Target) (cur base : NMap MapEnt) : NMap MapEnt :=
  if l.sync then cur.filter (fun p => t.marked.contains (p.1 / 4))
  else cur.filter (fun p => !(NMap.find base p.1).any (fun b => b.same p.2))

/-- Send a target its set once the snapshot is readable and the session open: the frames in ascending grain order, then the commit
(R276, R280). A set that cannot be sent to its end is sent again whole. -/
def State.sendSet (i j : Nat) (s : State) : State :=
  match NMap.find s.repl.links i, s.target? i j with
  | some l, some t =>
    match t.cur, s.ns? l.vol with
    | some c, some n =>
      let ready := (NMap.find n.snaps c).any (·.readable)
      if !ready || t.commitSeq != 0 || !t.flight.all (fun f => f.2.1.isSome) || (s.replSession t.desc).isNone then s
      else
        let cur := NMap.getD n.frozen c []
        let base := match t.base with | some b => NMap.getD n.frozen b [] | none => []
        let grains := setGrains l t cur base
        let frames := grains.map (fun p => s.setFrame l t p.1 p.2)
        let commit : ReplFrame :=
          { kind := 4, comp := false, sample := false, sync := false, plen := 0, tvol := volOf t.desc.nsid, grain := 0, atick := 0,
            guard := 0, apptag := 0, geom := 0, setseq := l.setSeq, fseq := 0, result := 0, payload := [] }
        let sent := (frames ++ [commit]).foldl (fun (a : Bool × State) f =>
          if a.1 then (let r := a.2.sendFrame i j f none; (r.1, r.2.2)) else a)
          (true, s.bookSetReads (grains.map (·.2)))
        if sent.1 then sent.2.updTarget i j (fun t => { t with commitSeq := t.fseq })
        else sent.2.updTarget i j (fun t => { t with flight := t.flight.filter (fun f => f.2.1.isSome) })
    | _, _ => s
  | _, _ => s

/-- Sets whose snapshots have become readable are sent. -/
def State.sendReady (s : State) : State :=
  (s.repl.links.filter (fun p => p.2.home)).foldl (fun (s : State) (p : Nat × Link) =>
    (p.2.targets.filter (fun t => t.2.cur.isSome && t.2.commitSeq == 0)).foldl (fun (s : State) (t : Nat × Target) =>
      s.sendSet p.1 t.1) s) s

/-- Take a target out of the wait of a write, as reached or as missed (R277, R279). -/
def WriteOp.heard (j : Nat) (reached : Bool) (w : WriteOp) : WriteOp :=
  if !w.syncWait.contains j then w
  else { w with syncWait := w.syncWait.filter (· != j), syncGot := if reached then w.syncGot ++ [j] else w.syncGot,
                syncMiss := if reached then w.syncMiss else w.syncMiss ++ [j] }

/-- A session of the replication agent ends (R276, R279): what its targets had not answered is missed, and a set starts anew. -/
def State.targetsLost (peer : Nat) (s : State) : State :=
  s.repl.links.foldl (fun (s : State) (p : Nat × Link) =>
    (p.2.targets.filter (fun t => t.2.desc.peer == peer)).foldl (fun (s : State) (t : Nat × Target) =>
      let units := (t.2.flight.filter (fun f => f.2.1.isSome)).map (fun f => f.2.2)
      let seqs := t.2.flight.filterMap (fun f => f.2.1)
      let s1 := if p.2.sync && (!units.isEmpty || t.2.state == 2) then s.missTarget p.1 t.1 units.eraseDups else s
      let s2 := s1.updTarget p.1 t.1 (fun t => { t with flight := [], commitSeq := 0 })
      { s2 with adm := { s2.adm with writes := s2.adm.writes.map (fun (w : WriteOp) =>
          if seqs.contains w.seq then w.heard t.1 false else w) } }) s) s

/-! ### Pods (R281 to R283) -/

/-- Half a second without a heartbeat (R282). -/
def silenceTicks : Nat := 500 * msTicks

/-- A pod is configured (R281). -/
def State.inPod (s : State) : Bool := !s.image.podPairs.isEmpty

/-- A device was heard within the last 500 ms. -/
def State.heardDevice (s : State) (d : Nat) : Bool :=
  (NMap.find s.repl.heard d).any (fun t => decide (s.time.now < t + silenceTicks))

/-- The pairs of the pod that this device reaches, its own included. -/
def State.reachable (s : State) : List Nat :=
  s.image.podPairs.filter (fun p => p == s.image.podSelf / 2 || s.heardDevice (2 * p) || s.heardDevice (2 * p + 1))

/-- There is no master: event 0x7102 with the mask of the pairs reachable (R283). -/
def State.noMaster (s : State) : State := s.record 0x7102 [maskOf s.reachable]

/-- This device becomes master, or learns of another: event 0x7101 with the device and the pod epoch (R282). -/
def State.setMaster (d epoch : Nat) (s : State) : State :=
  ({ s with repl := { s.repl with master := some d, podEpoch := epoch } }).record 0x7101 [d, epoch]

/-- The partner of the pod's master takes its place on entering Sole (R282). -/
def State.podTakeover (s : State) : State :=
  if s.inPod && s.repl.master == some (s.image.podSelf / 2 * 2 + (1 - s.image.podSelf % 2)) then
    s.setMaster s.image.podSelf (s.repl.podEpoch + 1)
  else s

end Sys2Proof.Machine
end

