-- ==== Sys2Proof/Machine/Resync.lean ====
section
/-!
DEFINITION. Resynchronisation of the returning partner (R265, R267, Table 11.5): what is sent for a map unit, and when a bit is cleared.
-/

namespace Sys2Proof.Machine

/-- The entry of a grain in a version of its volume: the live one, or that of a snapshot. -/
def State.versionEnt (s : State) (vol g : Nat) (snap : Option Nat) : Option MapEnt :=
  match snap with
  | none => s.mapEnt vol g
  | some id => (s.ns? vol).bind (fun n => NMap.find (NMap.getD n.frozen id []) g)

/-- The record an entry is sent as (R267), unchanged, and with a mark where its own tag does not say whose it is: a version that is not the
live one, a shared grain's canonical record, and a grain that a clone has of its source. -/
def State.sentRecord (s : State) (vol g : Nat) (snap : Option Nat) (e : MapEnt) : Option Record :=
  (s.entRecord e).map (fun r =>
    if snap.isNone && e.kind != 4 && r.check.reftag == refTag vol g then { r with mark := none }
    else { r with mark := some { vol := vol, grain := g, snap := snap, shared := e.kind == 4, atick := e.atick, aseq := e.aseq } })

/-- The records of a map unit in one version of its volume. -/
def State.unitRecords (s : State) (vol unit : Nat) (snap : Option Nat) : List Record :=
  (List.range 4).filterMap (fun i =>
    (s.versionEnt vol (4 * unit + i) snap).bind (s.sentRecord vol (4 * unit + i) snap))

/-- What a change of the change list is to the head that missed it: a snapshot goes with its tick and epoch (R131, R267). -/
def State.resyncChange (s : State) (c : PairChange) : PairChange :=
  match c with
  | .snapCreate v i =>
    match s.ns? v with
    | none => c
    | some n =>
      match NMap.find n.snaps i with
      | some x => .snapDef v i x.tick x.epoch n.epoch x.repl
      | none => .snapDef v i s.time.now n.epoch n.epoch false
  | _ => c

/-- Send the changes of the list from the k-th on. -/
def State.sendChanges (k : Nat) (s : State) : State :=
  ((s.moor.changes.drop k).map s.resyncChange).foldl (fun (s : State) (c : PairChange) => s.emit (.commit 0 c)) s

/-- Changes made since the resynchronisation started follow the list (R265, R267). -/
def State.tellChanges (s : State) : State :=
  match s.moor.resync with
  | none => s
  | some r => (s.sendChanges r.told).updMoor (fun m => { m with resync := some { r with told := s.moor.changes.length } })

/-- Send every unit whose bit is set, in ascending volume and unit order (R267). A unit of which nothing is stored has nothing to
wait for. -/
def State.sendUnits (s : State) : State :=
  match s.moor.resync with
  | none => s
  | some r =>
    if !r.out.isEmpty then s
    else
      let units := s.moor.dirty.mergeSort (fun a b => decide (a ≤ b))
      let recs := units.map (fun u => (u, s.unitRecords (u / 2 ^ 32) (u % 2 ^ 32) none))
      let full := recs.filter (fun x => !x.2.isEmpty)
      let none_ := (recs.filter (fun x => x.2.isEmpty)).map (·.1)
      let s1 := full.foldl (fun (s : State) (x : Nat × List Record) => (s.bookLinks bgSeq x.2.length).emit (.mirror x.2)) s
      s1.updMoor (fun m =>
        { m with
          dirty := m.dirty.filter (fun u => !none_.contains u)
          resync := some { r with out := full.map (fun x => (x.1, x.2.map (·.seq))), sent := r.sent + none_.length } })

/-- A pass of the resynchronisation: what the change list gained, then the units (R267). -/
def State.resyncPass (s : State) : State := s.tellChanges.sendUnits

/-- Drain begins when the set bits fall to MOOR_RESYNC.FINAL (Table 11.5). -/
def State.resyncStage (s : State) : State :=
  match s.moor.resync with
  | none => s
  | some r =>
    if r.stage = 1 ∧ s.moor.dirty.length ≤ s.regField Reg.MOOR_RESYNC 23 0 then
      s.updMoor (fun m => { m with resync := some { r with stage := 2, drainFrom := s.time.now } })
    else s

/-- Take one acknowledged record out of what is waited for: records are acknowledged in the order they were sent, and one record can
be sent for several grains. -/
def takeAcked (q : Nat) : List (Nat × List Nat) → List (Nat × List Nat)
  | [] => []
  | x :: xs => if x.2.contains q then (x.1, x.2.erase q) :: xs else x :: takeAcked q xs

/-- One acknowledgement: a record sent for another version than the live one comes first, then those of the units. -/
def Resync.acked (r : Resync) (q : Nat) : Resync :=
  if r.vers.contains q then { r with vers := r.vers.erase q } else { r with out := takeAcked q r.out }

/-- The receiver has sealed records and acknowledged them: the bits of the units that are whole there are cleared (R267). -/
def State.resyncAck (acks : List (Nat × Nat)) (s : State) : State :=
  match s.moor.resync with
  | none => s
  | some r0 =>
    let r := acks.foldl (fun (r : Resync) a => r.acked a.1) r0
    let left := r.out
    let done := (left.filter (fun x => x.2.isEmpty)).map (·.1)
    (s.updMoor (fun m =>
      { m with
        dirty := m.dirty.filter (fun u => !done.contains u)
        resync := some { r with out := left.filter (fun x => !x.2.isEmpty), sent := r.sent + done.length } })).resyncPass.resyncStage

/-- Every map unit of every volume (R267). -/
def State.allUnits (s : State) : List Nat :=
  (s.nvq.ns.map (fun p => (List.range p.2.units).map (unitKey p.1))).flatten

/-- What a full rebuild puts before the records (R267): the namespace table, the snapshot and clone definitions, the reservations, the
replication links, and the XTS keys in use, in the partner's numbering. -/
def State.fullChanges (s : State) : List PairChange :=
  let ns := s.nvq.ns
  ns.map (fun p => PairChange.nsCreate p.1 p.2.lbaf p.2.units p.2.keyslot p.2.taken)
    ++ (ns.map (fun p => (NMap.keys (p.2.snaps.filter (fun x => !x.2.reclaim))).map (PairChange.snapCreate p.1))).flatten
    ++ ns.filterMap (fun p => p.2.cloneOf.map (fun c => PairChange.snapClone c.1 c.2 p.1 p.2.ro))
    ++ ns.map (fun p => PairChange.dedupPolicy p.1 p.2.dedup)
    ++ ns.map (fun p => PairChange.compPolicy p.1 p.2.cmode p.2.cw p.2.cl)
    ++ s.adm.resv.map (fun p => PairChange.resvCreate (partnerIndex p.1) p.2.rate p.2.burst p.2.d p.2.pull)
    ++ (s.repl.links.map (fun p =>
        let i := if p.1 < 64 then p.1 + 64 else p.1 - 64
        match p.2.targets with
        | [] => []
        | t :: ts => PairChange.linkCreate i p.2.vol (b2n p.2.sync) p.2.interval t.2.desc
            :: ts.map (fun t => PairChange.targetAdd i t.2.desc))).flatten
    ++ (s.ciph.slots.filter (fun p => !p.2.gcm)).map (fun p => PairChange.keyLoad p.1 p.2.owner p.2.key1 p.2.key2)

/-- Units of a version that differ from a live map. -/
def unitsApart (live version : NMap MapEnt) : List Nat :=
  ((version.filter (fun x => NMap.find live x.1 != some x.2)).map (fun x => x.1 / 4)).eraseDups

/-- For each snapshot and clone in snapshot order, the records of every unit whose version differs from the live volume's (R267). -/
def State.versionRecords (s : State) : List (List Record) :=
  (s.nvq.ns.map (fun p =>
    let live := s.volMap p.1
    (p.2.frozen.map (fun f =>
      let clones := NMap.keys (s.nvq.ns.filter (fun c => c.2.cloneOf == some (p.1, f.1)))
      (unitsApart live f.2).map (fun u => s.unitRecords p.1 u (some f.1))
        ++ (clones.map (fun c => (unitsApart live (s.volMap c)).map (fun u => s.unitRecords c u none))).flatten)).flatten)).flatten

/-- Resynchronisation starts (Table 11.5): the change list, for a full rebuild every definition and version first, then the units. -/
def State.startResync (full : Bool) (s : State) : State :=
  let s1 := if full then s.updMoor (fun m => { m with dirty := s.allUnits, changes := s.fullChanges }) else s
  let s2 := s1.record 0x7040 [s1.moor.dirty.length]
  let s3 := s2.sendChanges 0
  let vers := if full then s3.versionRecords.filter (fun r => !r.isEmpty) else []
  let s4 := vers.foldl (fun (s : State) (r : List Record) => s.emit (.mirror r)) s3
  (s4.updMoor (fun m => { m with
    resync := some { stage := 1, start := s4.time.now, drainFrom := 0, sent := 0, full := full, out := [],
                     told := s4.moor.changes.length, vers := (vers.flatten).map (·.seq) } })).resyncPass.resyncStage

end Sys2Proof.Machine
end

