-- ==== Sys2Proof/Machine/WritePath.lean ====
section
/-!
DEFINITION. The commands of the write path: acceptance (R16, R71, R81), dedup and compression (R18, R101, R123), the cipher pass (R323),
append (R86), closing and programming stripes (R87, R142, R156), and the mirror (R88).
-/

namespace Sys2Proof.Machine

/-! ### Acceptance -/

/-- Protection information of one LBA as received: guard, application tag, reference tag (R81; byte order PRESUMED, log 16). -/
def piAt (pi : List Byte) (i : Nat) : Nat × Nat × Nat :=
  let p := (pi.drop (16 * i)).take 16
  let be := fun (b : List Byte) => leNat b.reverse
  (be (p.take 8), be ((p.drop 8).take 2), be (p.drop 10))

/-- Status code of the first check of an LBA that fails: 82h guard, 83h application tag, 84h reference tag; 0 if none (R81). -/
def piCheck (e : Sqe) (lba : Nat) (data : List Byte) (p : Nat × Nat × Nat) : Nat :=
  let chk := prchkOf e
  let mask := bits e.dw15 31 16
  if chk / 4 % 2 = 1 ∧ p.1 ≠ (crc64 data).toNat then 0x82
  else if chk / 2 % 2 = 1 ∧ p.2.1 &&& mask ≠ bits e.dw15 15 0 &&& mask then 0x83
  else if chk % 2 = 1 ∧ p.2.2 ≠ lba % 2 ^ 48 then 0x84
  else 0

/-- The first failing check of a write's LBAs in order. -/
def piFailure (w : WriteOp) (data pi : List Byte) : Nat :=
  (List.range w.nlb).foldl (fun a i =>
    if a ≠ 0 then a else piCheck w.cmd (w.slba + i) ((data.drop (4096 * i)).take 4096) (piAt pi i)) 0

/-- The push region of a reservation: base and length in bytes (R212). -/
def State.pushRegion (s : State) (r : Resv) : Option (Nat × Nat) :=
  match NMap.find s.idm.regions (r.pushKey / 256) with
  | some x => if r.pushKey ≠ 0 && x.used && x.gen == r.pushKey % 256 then some (x.base, x.len) else none
  | none => none

/-- Bytes a pushed write takes from its push region (R201, R212). -/
def State.pushedBytes (s : State) (resv : Option Nat) (e : Sqe) : List Byte :=
  match (resv.bind (NMap.find s.adm.resv)).bind s.pushRegion with
  | some (base, _) => Memory.readBytes 0 s.mem.cells (base + pofsOf e * 4096) (4096 * nlbOf e)
  | none => []

/-- The volume carries protection information that the write's metadata holds (R81). -/
def State.hasPi (s : State) (w : WriteOp) : Bool :=
  match s.ns? w.vol with | some n => n.lbaf == 1 && !practOf w.cmd | none => false

/-- Pulled data came after the pull allowance: the remaining stages are booked again, soft where they fit no slot before T_D (R71), and
erases on the dies taken are suspended (R65). -/
def State.pullOverrun (w : WriteOp) (s : State) : State :=
  let limit := (slotOf w.adm + s.regField Reg.ADM_CTRL 15 8) * 8192
  match w.resv with
  | none => s
  | some i =>
    if w.pushed || decide (s.time.now < limit) then s
    else
      let s1 := (s.record 0x2103 [i, w.dqn, s.time.now - limit]).count (ctrResv i 6)
      let s2 := { s1 with adm := { s1.adm with bookings := s1.adm.bookings.filter (fun b => b.seq != w.seq) } }
      let slot := slotOf s.time.now
      let plan := w.grains.map (fun x => (x.grain, x.mask, x.kind))
      let book := fun (limit : Nat) (firm : Bool) =>
        s2.bookWrite w.vol (s2.mergeEnts w.vol plan) w.grains.length (s2.bookedBytes w.seq) slot limit firm w.seq
      let mark := fun (k : Booked) =>
        { s2 with adm := { s2.adm with
          bookings := k.bookings
          writes := s2.adm.writes.map (fun v => if v.seq = w.seq then { v with bookedAt := k.at_, parity := k.parity } else v) } }
      match book (min (slot + w.d) (slot + ringSlots)) true with
      | some k => ((mark k).suspendErases w.seq).wakeDue
      | none =>
        match book (slot + ringSlots) false with
        | some k => mark k
        | none => s2

/-- Read a write's data again from the host's buffer (R89, R90). -/
def State.refetch (w : WriteOp) (s : State) : State :=
  if w.kind = opWrite then
    s.remoteRead (s.ctrlSession w.cntl) w.dqn (.write w.seq) (dkeyOf w.cmd) (dofsOf w.cmd) (4096 * w.nlb)
  else s

/-- A grain whose plaintext was lost is filled again by the data that comes from the host's buffer (R89, R90). -/
def WriteOp.wantsData (w : WriteOp) : Bool :=
  w.acc.isNone || w.grains.any (fun x => x.kind == 0 && x.formed && x.plain.isEmpty && !x.ciphered && !x.failed && !x.merging)

/-- The data of a write has arrived, or the metadata of a pushed one (R16, R212): protection information is checked, then the write is
accepted, or the lost grains are filled. -/
def State.dataArrived (w : WriteOp) (pulled pi : List Byte) (s : State) : State :=
  let data := if w.pushed && w.acc.isNone then s.pushedBytes w.resv w.cmd else pulled
  if data.length ≠ 4096 * w.nlb ∨ (s.hasPi w ∧ pi.length ≠ 16 * w.nlb) then s
  else
    let bad := if s.hasPi w then piFailure w data pi else 0
    if w.acc.isSome then
      (w.grains.filter (fun x => x.kind == 0 && x.formed && x.plain.isEmpty && !x.ciphered)).foldl
        (fun s x => s.stage1 w data pi x) s
    else if bad ≠ 0 then s.endWrite w 2 bad 0
    else (s.pullOverrun w).accept w.seq data pi

/-- ACCEPTANCE (R16). -/
def execAcceptance (t seq : Nat) (data pi : List Byte) (s : State) : Host.Outcome State Fault Refusal :=
  let s1 := s.advanceTo t
  .next <| match s1.write? seq with
    | none => s1
    | some w => if w.kind != opWrite || !w.wantsData || !s1.md.mode.frontEnd then s1 else s1.dataArrived w data pi

/-! ### Stage 2a -/

/-- Resolve stage 2a of a grain (R18). -/
def State.resolveDedup (seq g : Nat) (d : Dedup) (s : State) : State :=
  s.updWrite seq (fun w => w.updGrain g (fun x => if x.dedup == .waiting then { x with dedup := d } else x))

/-- An entry of the cache or of an index is a hit for a grain (R121): fingerprint, GUARD and KEYSLOT are the grain's, the entry is this
pair's, and its record lies in a sealed stripe. -/
def State.entryFits (s : State) (fp : Nat) (guard : DWord) (keyslot : Nat) (e : FpEnt) : Bool :=
  e.fp == fp && e.guard == guard && e.keyslot == keyslot && e.pair == s.ownPair && s.sgtFits e.sgt guard keyslot

/-- A cached entry of a fingerprint that satisfies R121. -/
def State.cacheHit (s : State) (fp : Nat) (guard : DWord) (keyslot : Nat) : Option FpEnt :=
  s.ddup.cache.find? (s.entryFits fp guard keyslot)

/-- The answer of the index (R123 step 3): none until it is there. It is read from this head's own index where its pair holds the
partition, else it is what the partition's pair answered. -/
def State.indexAnswer (s : State) (fp : Nat) (guard : DWord) (keyslot : Nat) (answer : Option (Option FpEnt)) :
    Option (Option FpEnt) :=
  answer.map (fun a =>
    if s.holder (partitionOf fp) = s.ownPair then s.ddup.index.find? (s.entryFits fp guard keyslot)
    else a.filter (s.entryFits fp guard keyslot))

/-- A hit has an overlay entry to use (R163). -/
def State.overlayRoom (s : State) (vol g : Nat) : Bool :=
  NMap.has s.path.overlay (unitKey vol (g / 4)) || decide (s.path.overlay.length + s.path.overlayHeld < overlayCap)

/-- What the lookup decides: the filter, then the hot cache, then the index answer if one has come (R123). -/
def State.lookup (s : State) (fp : Nat) (guard : DWord) (keyslot : Nat) (index : Option (Option FpEnt)) : Option (Option FpEnt) :=
  if (filterBits fp).any (fun b => !s.ddup.filter.contains b) then some none
  else
    match s.cacheHit fp guard keyslot with
    | some e => some (some e)
    | none => s.indexAnswer fp guard keyslot index

/-- A lookup that the first two steps leave open asks the pair of the partition (R123). -/
def State.askIndex (fp : Nat) (s : State) : State :=
  let p := s.holder (partitionOf fp)
  if p = s.ownPair then s else s.emit (.indexAsk p fp)

/-- INLINE_LOOKUP_ANSWER (R123, R130). -/
def execInlineLookupAnswer (t seq grain cluster : Nat) (agree : Bool) (index : Option (Option FpEnt)) (s : State) :
    Host.Outcome State Fault Refusal :=
  let s1 := s.advanceTo t
  .next <| match s1.write? seq with
    | none => s1
    | some w =>
      match w.grain? grain, s1.ns? w.vol with
      | some x, some n =>
        let late := match w.acc with | some a => decide (a + 40000 ≤ s1.time.now) | none => true
        if x.dedup != .waiting || !x.formed || x.merging || late || !s1.dedupRuns || !s1.clusterOk cluster then s1
        else if !agree then
          let s2 := (((s1.useIsland .ddup cluster).raise Reg.DDUP_STATUS 1).count (ctrCluster cluster 4)).count (ctrCluster cluster 3)
          ((s2.resolveDedup seq grain .expired).updWrite seq (fun w => w.updGrain grain (fun x => { x with misHashed := some cluster }))).fault
            (.cluster cluster) 0x5101 cluster [cluster, w.vol, grain]
        else
          let s2 := (s1.useIsland .ddup cluster).count (ctrCluster cluster 0)
          match s1.lookup x.fingerprint x.check.guard n.keyslot index with
          | none => s1.askIndex x.fingerprint
          | some none => (s2.count (ctrCluster cluster 2)).resolveDedup seq grain .miss
          | some (some e) =>
            ((s2.count (ctrCluster cluster 1)).cachePut e).resolveDedup seq grain
              (if s1.overlayRoom w.vol grain then .hit e.sgt else .skip)
      | _, _ => s1

/-- The cluster an expiry counts at: the spec does not say which hashes a grain, and the model takes the grain's number modulo the healthy
ones (DESIGN CHOICE, log 46). -/
def State.clusterFor (s : State) (grain : Nat) : Nat := (s.clustersOk[grain % max 1 s.clustersOk.length]?).getD 0

/-- INLINE_BUDGET_EXPIRY (R18, R123): 40,000 ticks after acceptance. -/
def execInlineBudgetExpiry (t seq grain : Nat) (s : State) : Host.Outcome State Fault Refusal :=
  let s1 := s.advanceTo t
  .next <| match s1.write? seq with
    | none => s1
    | some w =>
      match w.acc, w.grain? grain with
      | some a, some x =>
        if s1.time.now < a + 40000 ∨ x.dedup ≠ .waiting then s1
        else (s1.count (ctrCluster (s1.clusterFor grain) 3)).resolveDedup seq grain .expired
      | _, _ => s1

/-! ### Stage 2b -/

/-- What stage 2b leaves of a grain by the row of Table 5.3 that applies. -/
def laneOutcome (row : Nat) (policy : Nat) (r : LaneResult) (x : GrainOp) : GrainOp :=
  if row = 1 then { x with plain := [], lane := .waiting }
  else if row = 6 then { x with lane := .comp r.output (policy == 2) }
  else { x with lane := .raw }

/-- The effects of the rows beside the grain: a refetch from the host pays from the fault slack, a mismatch is a lane fault. -/
def State.laneFault (row lane : Nat) (w : WriteOp) (g : Nat) (s : State) : State :=
  if row = 1 then
    (((s.record 0x3303 [w.vol, g, 0x10]).record 0x3305 [w.vol, g, 2]).useSlack (fun y => y.seq == w.seq) 0x8002).refetch w
  else if row = 4 then (s.raise Reg.CMP_STATUS 1).fault (.clane lane) 0x5000 lane [lane, w.vol, g]
  else s

/-- COMPRESSION_OUTCOME (R101, Table 5.3). Preservation compresses nothing: a grain is copied (R40). The lane's buffers (R102) hold nothing
between commands, as the command is the lane's whole interval. -/
def execCompressionOutcome (t seq grain lane : Nat) (r : LaneResult) (s : State) : Host.Outcome State Fault Refusal :=
  let s1 := s.advanceTo t
  .next <| match s1.write? seq with
    | none => s1
    | some w =>
      match w.grain? grain with
      | none => s1
      | some x =>
        if x.kind != 0 || !x.formed || x.merging || x.plain.isEmpty || x.lane != .waiting || !s1.laneOk lane then s1
        else
          let row := laneRow (x.policy == 0 || s1.md.mode == .preservation) (x.policy == 2) x.check.guard x.geom grain r
          let s2 := (((s1.useRes (resLane lane)).count (ctrLane lane (row - 1))).countN (ctrLane lane 6) 16384).countN (ctrLane lane 7)
            (if row = 6 then r.output.length else 0)
          (s2.updWrite seq (fun w => w.updGrain grain (laneOutcome row x.policy r))).laneFault row lane w grain

/-! ### Stage 3 -/

/-- What is encrypted for a grain: the fingerprint of a hit (R124), the padded lane output, or the plaintext (R85, R103). -/
def cipherInput (x : GrainOp) : List Byte :=
  match x.dedup, x.lane with
  | .hit _, _ => beBytes 32 x.fingerprint
  | _, .comp out _ => pad16 out
  | _, _ => x.plain

/-- Stages 2a and 2b have both resolved (R18). -/
def GrainOp.resolved (x : GrainOp) : Bool :=
  x.dedup != .waiting && x.lane != .waiting && x.formed && !x.merging && (x.kind != 0 || !x.plain.isEmpty)

/-- Encrypt a grain under the key slot of its volume (R85). -/
def State.encrypt (w : WriteOp) (x : GrainOp) (s : State) : State :=
  let keys := match (s.ns? w.vol).bind (fun n => NMap.find s.ciph.slots n.keyslot) with
    | some k => (k.key1, k.key2)
    | none => ([], [])
  s.updWrite w.seq (fun w => w.updGrain x.grain (fun x =>
    { x with payload := xtsEncrypt keys.1 keys.2 (xtsTweak x.check) (cipherInput x), ciphered := true }))

/-- A pass that a pair's two cores disagree on (R323): the unit is redone, and the pair has a fault; a booked grain pays from the
slack. -/
def State.pairMismatch (u : CipherUnit) (pair : Nat) (s : State) : State :=
  let mode := match u with | .grain _ _ => 0 | .read _ => 0 | .packet _ _ _ _ _ => 1 | .kat g => 256 + b2n g
  let s1 := ((s.raise Reg.CIPH_STATUS 1).count (ctrPair pair 4)).count (ctrPair pair 5)
  let s2 := match u with
    | .grain seq _ => s1.useSlack (fun w => w.seq == seq && w.resv.isSome) 0x9200
    | _ => s1
  s2.fault (.pair pair) 0x9000 pair [pair, mode]

/-- A read whose record has been decrypted goes on to a decompression lane (point V4). -/
def State.readDecrypted (rid : Nat) (s : State) : State :=
  { s with path := { s.path with reads := s.path.reads.map (fun r =>
      if r.rid = rid ∧ r.point = 4 then { r with point := 5 } else r) } }

/-! ### Stage 4 -/

/-- The record of a grain (Tables 4.3 and 4.4). -/
def State.recordOf (s : State) (w : WriteOp) (x : GrainOp) (seq : Nat) : Record :=
  let data := x.kind == 0
  let hit := match x.dedup with | .hit _ => true | _ => false
  let comp := match x.lane with | .comp _ smp => some smp | _ => none
  let pi := (match s.ns? w.vol with | some n => n.lbaf == 1 | none => false) && x.kind != 2
  let isComp := data && !hit && comp.isSome
  { kind := if x.kind = 1 then 4 else if x.kind = 2 then 3 else if hit then 2 else 1
    comp := isComp, sample := isComp && comp == some true, close := false, pi := pi
    plen := if data then x.payload.length else 0
    keyslot := if data then (match s.ns? w.vol with | some n => n.keyslot | none => 0) else 0
    seq := seq, atick := w.acc.getD 0, check := x.check, apptag := if pi then x.apptag else 0
    geom := if isComp && comp == some true then x.geom else 0
    sepoch := BitVec.ofNat 32 w.sepoch, aseqLo := BitVec.ofNat 32 w.seq, payload := if data then x.payload else [] }

/-- Append the `i`-th grain's record to the home stream, with the next SEQ. -/
def State.appendGrain (seq i : Nat) (x : GrainOp) (s : State) : State :=
  match s.write? seq with
  | none => s
  | some w =>
    if x.failed then s
    else
      let r := s.recordOf w x s.path.nextRecSeq
      let s0 := { s with path := { s.path with nextRecSeq := s.path.nextRecSeq + 1 } }
      let (s1, band, off) := s0.appendRecord .home r (s0.paritySlot w i) false
      s1.updWrite seq (fun w => w.updGrain x.grain (fun y => { y with record := some r, place := some (band, off) }))

/-- Every grain of a write is ready for the stream. -/
def WriteOp.ready (w : WriteOp) : Bool :=
  w.acc.isSome && w.grains.all (fun x => x.failed || (x.formed && x.ciphered && x.place.isNone))

/-- A write whose records, or whose failed grains only, are in the stream. -/
def WriteOp.appended (w : WriteOp) : Bool := w.acc.isSome && w.grains.all (fun x => x.failed || x.place.isSome)

/-- RECORD_APPEND (R86): in admission sequence order, in grain order; the mirror transfer and the synchronous frames leave with it. -/
def execRecordAppend (t seq : Nat) (s : State) : Host.Outcome State Fault Refusal :=
  let s1 := s.advanceTo t
  .next <| match s1.write? seq with
    | none => s1
    | some w =>
      if !w.ready || w.appended || s1.adm.writes.any (fun v => decide (v.seq < seq) && !v.appended) then s1
      else
        let s2 := w.grains.zipIdx.foldl (fun s x => s.appendGrain seq x.2 x.1) s1
        match s2.write? seq with
        | none => s2
        | some w2 =>
          let recs := w2.grains.filterMap (fun x => x.record)
          let s3 := if s2.needsAck w2 && !recs.isEmpty then s2.emit (.mirror recs) else s2
          (s3.sendSync w2).markSealed.checkWrites.sendReady

/-! ### Stage 5 -/

/-- Channel a strip of a band is transferred over. -/
def State.stripChannel (s : State) (band strip : Nat) : Option Nat :=
  (NMap.find s.path.bands band).bind (fun b => (b.dieOf strip).map (· / 16))

/-- A strip may be transferred: it holds bytes to its end or its stripe has closed; a parity strip waits for the stripe to close. -/
def stripReady (b : Band) (x : Stripe) (strip : Nat) : Bool :=
  (stripeStrips b x).contains strip && (x.closed || (decide (strip < b.k) && decide ((strip + 1) * 65536 ≤ x.bytes)))

/-- Records of the mirror stream that are sealed now and not yet acknowledged: SEQ and the tick of the last stripe. -/
def State.newAcks (s : State) : List (Nat × Nat) :=
  (s.path.stored.filter (fun x => x.st == .mirror && !x.acked && x.record.kind != 5)).filterMap (fun x =>
    (s.recordSealed x.band x.offset (recordLen x.record)).map (fun t => (x.record.seq, t)))

/-- Map entry of a mirror record: it names the partner's volume (DEDUCED: published at the acknowledgement; log 17). -/
def mirrorEnt (x : Stored) : MapEnt :=
  { kind := if x.record.kind = 4 then 2 else if x.record.kind = 3 then 3 else 1, wgen := x.record.check.wgen, mirror := true,
    band := x.band, offset := x.offset, plen := x.record.plen, sgt := 0,
    volTag := x.record.check.reftag.toNat / 2 ^ 34, atick := x.record.atick, aseq := x.record.aseqLo.toNat, seq := x.record.seq }

/-- The plaintext of a stored record, under the key slot it names (R85, R110). -/
def State.plainOf (s : State) (r : Record) : Option (List Byte) :=
  match NMap.find s.ciph.slots r.keyslot with
  | none => none
  | some k =>
    match decodeGrain r.comp r.sample r.geom (r.check.reftag.toNat % 2 ^ 34)
        (xtsDecrypt k.key1 k.key2 (xtsTweak r.check) r.payload) with
    | .ok b => some b
    | _ => none

/-- The fingerprint a type 0x02 record carries, decrypted (R124). -/
def State.fingerprintOf (s : State) (r : Record) : Nat :=
  match NMap.find s.ciph.slots r.keyslot with
  | none => 0
  | some k => leNat ((xtsDecrypt k.key1 k.key2 (xtsTweak r.check) r.payload).take 32).reverse

/-- A new shared-grain entry for a stored record, with its index entry (R125, R128); none while the table is full. -/
def State.shareStored (x : Stored) (fp : Nat) (s : State) : Option Nat × State :=
  match s.sgtFree with
  | none => (none, s)
  | some i =>
    let g : Sgt := { mirror := x.st == .mirror, band := x.band, offset := x.offset, reftag := x.record.check.reftag,
                     wgen := x.record.check.wgen, guard := x.record.check.guard, refs := 0, keyslot := x.record.keyslot, pending := true,
                     plen := x.record.plen }
    let f : FpEnt := { fp := fp, guard := x.record.check.guard, keyslot := x.record.keyslot, pair := s.ownPair, sgt := i }
    (some i, { s with ddup := { s.ddup with sgt := NMap.put s.ddup.sgt i g } }.indexPut f)

/-- The shared-grain entry of a type 0x02 record this head holds (R94, R128): through the index, else a type 0x01 record of the same
KEYSLOT and GUARD whose plaintext hashes to the fingerprint takes a new entry. -/
def State.resolveShared (r : Record) (s : State) : Option Nat × State :=
  let fp := s.fingerprintOf r
  match s.sgtMatch fp r.check.guard r.keyslot with
  | some i => (some i, s)
  | none =>
    match s.path.stored.find? (fun x => x.record.kind == 1 && x.record.keyslot == r.keyslot &&
        x.record.check.guard == r.check.guard && (s.plainOf x.record).map sha256 == some fp) with
    | some x => s.shareStored x fp
    | none => (none, s)

/-- The shared-grain entry of a canonical record that a resynchronisation brought: the one that stands for the record, or a new one
(R128, R267). -/
def State.shareReturned (x : Stored) (s : State) : Option Nat × State :=
  let c := x.record.check
  match s.ddup.sgt.find? (fun p => p.2.reftag == c.reftag && p.2.wgen == c.wgen && p.2.guard == c.guard && p.2.keyslot == x.record.keyslot) with
  | some p => (some p.1, s)
  | none => s.shareStored x (((s.plainOf x.record).map sha256).getD 0)

/-- Put an entry into a snapshot's frozen map, where it is later than what stands there (R267). -/
def State.putFrozen (vol id g : Nat) (e : MapEnt) (s : State) : State :=
  let old := (s.ns? vol).bind (fun n => NMap.find (NMap.getD n.frozen id []) g)
  if old.any (fun o => !laterRecord e.atick e.aseq e.seq o.atick o.aseq o.seq) || !NMap.has s.nvq.ns vol then s
  else
    ((if e.kind = 4 then s.addRef e.sgt else s).releaseEnt old).updNs vol (fun n =>
      { n with frozen := NMap.put n.frozen id (NMap.put (NMap.getD n.frozen id []) g e) })

/-- Publish a record that a resynchronisation marked (R267): in the version and for the grain that the mark names. -/
def State.publishMarked (e : MapEnt) (m : RecordMark) (x : Stored) (s : State) : State :=
  let r := if m.shared then s.shareReturned x else (none, s)
  let e1 := { e with atick := m.atick, aseq := m.aseq }
  let e2 := match r.1 with | some i => { e1 with kind := 4, sgt := i } | none => e1
  match m.snap with
  | none => r.2.publish m.vol m.grain e2
  | some id => r.2.putFrozen m.vol id m.grain e2

/-- Publish a stored record's grain (R20, R88): a type 0x02 record refers to its shared grain. -/
def State.publishOwn (e : MapEnt) (x : Stored) (s : State) : State :=
  let tag := x.record.check.reftag.toNat
  if x.record.kind = 2 then
    match s.resolveShared x.record with
    | (some i, s1) => s1.publish (tag / 2 ^ 34) (tag % 2 ^ 34) { e with kind := 4, sgt := i }
    | (none, s1) => s1.publish (tag / 2 ^ 34) (tag % 2 ^ 34) e
  else s.publish (tag / 2 ^ 34) (tag % 2 ^ 34) e

/-- Publish a stored record, where its mark says, or where its own tag does. -/
def State.publishStored (e : MapEnt) (x : Stored) (s : State) : State :=
  match x.record.mark with
  | some m => s.publishMarked e m x
  | none => s.publishOwn e x

/-- A record that is published and acknowledged keeps no mark. -/
def Stored.settled (x : Stored) : Stored := { x with acked := true, record := { x.record with mark := none } }

/-- Send the program acknowledgement of the mirror records just sealed (R88). -/
def State.ackMirror (s : State) : State :=
  let acks := s.newAcks
  if acks.isEmpty then s
  else
    let due := fun (x : Stored) => x.st == .mirror && !x.acked && acks.any (fun a => a.1 == x.record.seq)
      && (s.recordSealed x.band x.offset (recordLen x.record)).isSome
    let done := s.path.stored.filter due
    let s1 := { s with path := { s.path with stored := s.path.stored.map (fun x => if due x then x.settled else x) } }
    let s2 := done.foldl (fun s x => s.publishStored (mirrorEnt x) x) s1
    s2.emit (.programmed acks)

/-- Home records that a resynchronisation brought are published and acknowledged once sealed (R267). -/
def State.ackRejoin (s : State) : State :=
  let due := fun (x : Stored) => x.st == .home && s.moor.rejoin.contains (x.band, x.offset)
    && (s.recordSealed x.band x.offset (recordLen x.record)).isSome
  let ready := s.path.stored.filter due
  if ready.isEmpty then s
  else
    let places := ready.map (fun x => (x.band, x.offset))
    let acks := ready.filterMap (fun x => (s.recordSealed x.band x.offset (recordLen x.record)).map (fun t => (x.record.seq, t)))
    let s0 := { s with path := { s.path with stored := s.path.stored.map (fun x => if due x then x.settled else x) } }
    let s1 := ready.foldl (fun (s : State) (x : Stored) => s.publishStored { mirrorEnt x with mirror := false } x) s0
    (s1.updMoor (fun m => { m with rejoin := m.rejoin.filter (fun q => !places.contains q) })).emit (.programmed acks)

/-- Where a queued repair's record is named from now: its grain may have moved since (R91). -/
def State.rewriteFrom (s : State) (w : Rewrite) : Bool × Nat × Nat :=
  if w.ent.kind = 4 then
    match NMap.find s.ddup.sgt w.ent.sgt with
    | some g => (g.mirror, g.band, g.offset)
    | none => (w.ent.mirror, w.ent.band, w.ent.offset)
  else
    match s.mapEnt w.vol w.grain with
    | some e => if e.kind = 1 ∧ e.wgen = w.ent.wgen then (e.mirror, e.band, e.offset) else (w.ent.mirror, w.ent.band, w.ent.offset)
    | none => (w.ent.mirror, w.ent.band, w.ent.offset)

/-- What names a repaired record moves to its copy once that is sealed (R96). -/
def State.moveRewrite (w : Rewrite) (s : State) : State :=
  match w.place with
  | none => s
  | some (band, off) =>
    if (s.recordSealed band off (recordLen w.record)).isNone then s
    else
      (({ s with path := { s.path with rewrites := s.path.rewrites.filter (fun x => x != w) } }).moveRecord
        (s.rewriteFrom w) (false, band, off)).mapTouched

/-- What the programming and sealing of strips lets happen: writes complete, mirror records are acknowledged, repaired grains move. -/
def State.afterSeal (s : State) : State :=
  let s1 := s.markSealed.ackRejoin.checkWrites.sendReady.ackMirror
  s1.path.rewrites.foldl (fun (s : State) w => s.moveRewrite w) s1

/-- A stripe is sealed once it has closed and its parity strips are programmed (R87). -/
def State.sealStripe (band stripe : Nat) (s : State) : State :=
  match s.stripe? band stripe, NMap.find s.path.bands band with
  | some x, some b =>
    (if x.sealedAt.isNone && stripeDone b x then s.updStripe band stripe (fun x => { x with sealedAt := some s.time.now }) else s).afterSeal
  | _, _ => s

/-- After a failed program the strips due in a block go to the die that stands in for it (R156, R174). -/
def State.leaveBlock (b : Band) (band die : Nat) (s : State) : State :=
  let port := die / 128
  let other := ((s.portDies port).filter (fun d => d / 16 != die / 16)).foldl
    (fun a d => match a with | some x => some (min x d) | none => some d) (none : Option Nat)
  match other with
  | some d => ({ s with path := { s.path with bands := NMap.put s.path.bands band { b with subs := NMap.put b.subs port d } } }).fillBand band
  | none => s

/-- Mark a block: it is retired in place of its next erase (R156, R166). -/
def State.markBlock (die blk : Nat) (s : State) : State :=
  let b := NMap.getD s.flash.blocks (blockKey die blk) freshBlock
  { s with flash := { s.flash with blocks := NMap.put s.flash.blocks (blockKey die blk) { b with marked := true } } }

/-- Bytes of the record stream that a data strip of a stripe holds, zeros past its last record (R86, R87). -/
def State.strip (s : State) (band stripe i : Nat) : List Byte :=
  match NMap.find s.path.bands band with
  | none => []
  | some b =>
    let lo := (stripe * b.k + i) * 65536
    let here := s.path.stored.filter (fun x => x.band == band && decide (x.offset < lo + 65536) && decide (lo < x.offset + recordLen x.record))
    let put := fun (out : List Byte) (x : Stored) =>
      let bs := (recordBytes x.record).drop (lo - x.offset)
      let at_ := x.offset - lo
      out.take at_ ++ bs ++ out.drop (at_ + bs.length)
    (here.foldl put (padBytes 65536 0)).take 65536

/-- What is programmed for a strip: its bytes, or the parity of its stripe's data strips (R175). -/
def State.stripBytes (s : State) (b : Band) (band stripe i : Nat) : List Byte :=
  if i < b.k then s.strip band stripe i else parityStrip (i - b.k) 65536 ((List.range b.k).map (fun j => s.strip band stripe j))

/-- The pages of a strip leave for their die: word line, and the codewords with their parity (R145, R174). -/
def State.sendPages (b : Band) (band stripe i : Nat) (s : State) : State :=
  match b.dieOf i with
  | none => s
  | some die =>
    (List.range 4).foldl (fun (s : State) p =>
      s.emit (.page die (b.blockOf die) (4 * stripe + p) (pageBytes ((s.stripBytes b band stripe i).drop (16384 * p) |>.take 16384)))) s

/-- STRIPE_CLOSE (R87): at the parity-transfer slot of the oldest record. -/
def execStripeClose (t : Nat) (st : StreamId) (s : State) : Host.Outcome State Fault Refusal :=
  let s1 := s.advanceTo t
  let c := s1.stream st
  .next <| match s1.stripe? c.band c.stripe with
    | none => s1
    | some x =>
      if x.closed || x.st != st || decide (c.pos = 0) || decide (slotOf s1.time.now < x.oldestParity) then s1
      else (s1.closeStripe st).sealStripe c.band c.stripe

/-- PAGE_TRANSFER_DONE (R142): the strip's pages have crossed the channel, and the die program starts. -/
def execPageTransferDone (t : Nat) (st : StreamId) (band stripe strip : Nat) (s : State) :
    Host.Outcome State Fault Refusal :=
  let s1 := s.advanceTo t
  .next <| match s1.stripe? band stripe, NMap.find s1.path.bands band with
    | some x, some b =>
      if x.st != st || !stripReady b x strip || x.transferred.contains strip then s1
      else
        let s2 := (s1.updStripe band stripe (fun x => { x with transferred := x.transferred ++ [strip] })).sendPages b band stripe strip
        match s1.stripChannel band strip with
        | some c => s2.countN (ctrChannel c 1) 4
        | none => s2
    | _, _ => s1

/-- PROGRAM_DONE (R156). A failed program is a fault of its die; its strip is placed again, on another die of the module, from the fault
slack (Table 4.6), and nothing more of the band goes into the block. -/
def execProgramDone (t : Nat) (st : StreamId) (band stripe strip : Nat) (ok : Bool) (s : State) :
    Host.Outcome State Fault Refusal :=
  let s1 := s.advanceTo t
  .next <| match s1.stripe? band stripe, NMap.find s1.path.bands band with
    | some x, some b =>
      if x.st != st || !x.transferred.contains strip || x.programmed.contains strip then s1
      else
        match b.dieOf strip with
        | none => s1
        | some die =>
          let s2 := s1.count (ctrDie die 1)
          if ok then
            (s2.updStripe band stripe (fun x => { x with programmed := x.programmed ++ [strip] })).sealStripe band stripe
          else
            let s3 := (((s2.count (ctrDie die 13)).raise (Reg.FCH_CERR0 + 0x200 * (die / 16)) 4).markBlock die (b.blockOf die)).updStripe
              band stripe (fun x => { x with transferred := x.transferred.filter (· != strip) })
            ((s3.useSlack (WriteOp.inStripe b band stripe) 0x3201).leaveBlock b band die).fault (.die die) 0x3002 die
              [die, b.blockOf die, 4 * stripe]
    | _, _ => s1

/-! ### The mirror -/

/-- Deadline of the image a mirror record belongs to: the record does not name it, and the model takes the shortest of the partner's
images, which meets each (DESIGN CHOICE, log 43). -/
def State.mirrorD (s : State) : Nat :=
  match (s.adm.resv.filter (fun p => !p.2.home)).map (fun p => p.2.d) with
  | [] => ringSlots
  | d :: ds => ds.foldl min d

/-- Append one mirror record with its firm bookings (R88): the link it came over, and its strips behind the mirror stream's position. Where
they do not fit below the limit of its ATICK, they are soft. -/
def State.appendMirror (r : Record) (s : State) : State :=
  let slot := slotOf s.time.now
  let limit := min (slotOf r.atick + s.mirrorD - s.regField Reg.ADM_CTRL 7 0) (slot + ringSlots)
  let s0 := s.roomFor .mirror (recordLen r)
  let old := s0.adm.bookings.filter (fun b => b.seq != mirrorSeq || decide (slot ≤ b.slot))
  let bs := match bookTicks (askLink 1 true mirrorSeq) old [slot] with | some (bs, _) => bs | none => old
  let c := s0.path.mirrorStream
  let book := fun (limit : Nat) (firm : Bool) => (NMap.find s0.path.bands c.band).bind (fun b =>
    s0.bookFlash b c.band (c.stripe * b.k * 65536 + c.pos) (recordLen r) slot limit firm mirrorSeq bs)
  let (bs1, parity) := match book limit true with
    | some k => k
    | none => (book (slot + ringSlots) false).getD (bs, [])
  let s1 := { s0 with adm := { s0.adm with bookings := bs1 } }
  ((s1.appendRecord .mirror r (fun i => (parity[i]?).getD (max limit slot)) false).1.suspendErases mirrorSeq).wakeDue

/-- The volume a record belongs to. -/
def recordVol (r : Record) : Nat := r.check.reftag.toNat / 2 ^ 34

/-- A record of a resynchronisation at the returning head (R267): its own volumes go to the home stream, the survivor's to the mirror
stream. -/
def State.appendReturned (r : Record) (s : State) : State :=
  let vol := match r.mark with | some m => m.vol | none => recordVol r
  if (s.ns? vol).any (·.home) then
    let p := s.appendRecord .home r (fun _ => slotOf s.time.now) false
    p.1.updMoor (fun m => { m with rejoin := m.rejoin ++ [p.2] })
  else s.appendMirror r

/-- MIRROR_RECORD_ARRIVAL (R88): appended in arrival order to the mirror stream. In Join they are a resynchronisation's (R267); at a head
in Sole or Handback they are what the returning head reports, and set the bits of the units they name (R267; DESIGN CHOICE, log 25). -/
def execMirrorRecordArrival (t : Nat) (recs : List Record) (s : State) : Host.Outcome State Fault Refusal :=
  let s1 := s.advanceTo t
  .next <|
    if s1.service == .paired then recs.foldl (fun s r => s.appendMirror r) s1
    else if s1.md.mode == .join then recs.foldl (fun s r => s.appendReturned r) s1
    else if s1.service == .sole || s1.service == .handback then
      recs.foldl (fun s r => s.markDirty (recordVol r) (r.check.reftag.toNat % 2 ^ 34 / 4)) s1
    else s1

/-- A grain whose record the acknowledgement names takes the tick given for it. -/
def ackGrain (acks : List (Nat × Nat)) (x : GrainOp) : GrainOp :=
  match x.ackAt, x.record with
  | none, some r =>
    match acks.find? (fun a => a.1 == r.seq) with
    | some a => { x with ackAt := some a.2, receipt := true }
    | none => x
  | _, _ => x

/-- PROGRAM_ACK (R88): the tick the partner gives for each record; a write complete with it is posted (R19, R55, R56). -/
def execProgramAck (t : Nat) (acks : List (Nat × Nat)) (s : State) : Host.Outcome State Fault Refusal :=
  let s1 := s.advanceTo t
  let f := fun (w : WriteOp) => { w with grains := w.grains.map (ackGrain acks) }
  .next ({ s1 with adm := { s1.adm with writes := s1.adm.writes.map f } }.resyncAck acks).checkWrites.sendReady

/-- COALESCING_TIMER (R203): the aggregation time has run out since the oldest entry not notified. -/
def execCoalescingTimer (t cntl : Nat) (s : State) : Host.Outcome State Fault Refusal :=
  let s1 := s.advanceTo t
  let conf := match NMap.find s1.nvq.ctrls cntl with | some c => c.coalesce | none => 0
  let due := fun (q : Cq) => q.cntl == cntl && q.unnotified != 0
    && decide (q.notifyFrom + conf / 256 % 256 * 100000 ≤ s1.time.now)
  .next <| (s1.nvq.cqs.filter (fun p => due p.2)).foldl (fun s p => s.notifyCq p.1) s1

end Sys2Proof.Machine
end

