-- ==== Sys2Proof/Machine/ReadPath.lean ====
section
/-!
DEFINITION. The read path: verification points V2 to V7 (R95, R150, R151), lane retries (R111, R112), repair (R21, R96), and delivery
to the host, to a merge or to the partner (R77, R97, R201).
-/

namespace Sys2Proof.Machine

/-! ### Places -/

/-- The REFTAG and WGEN that point V3 expects (R128, R133). -/
def State.expected (s : State) (r : ReadGrain) : BitVec 48 × BitVec 16 :=
  if r.ent.kind = 4 then
    match NMap.find s.ddup.sgt r.ent.sgt with
    | some g => (g.reftag, g.wgen)
    | none => (refTag r.ent.volTag r.grain, r.ent.wgen)
  else (refTag r.ent.volTag r.grain, r.ent.wgen)

/-- Strips of a record's stripes that are lost, with the worst stripe's count (R176). -/
def State.lostStrips (s : State) (band off len : Nat) : Nat × Bool :=
  match NMap.find s.path.bands band with
  | none => (0, false)
  | some b =>
    let stripes := recordStripes b off len
    let worst := stripes.foldl (fun a i => max a ((s.stripe? band i).elim 0 (fun x => x.skipped.length))) 0
    let first := (placeOf b off).2.1
    let last := (placeOf b (off + len - 1)).2.1
    (worst, stripes.any (fun i => (s.stripe? band i).any (fun x => x.skipped.contains first || x.skipped.contains last)))

/-! ### Reads in progress -/

def State.read? (s : State) (rid : Nat) : Option ReadGrain := s.path.reads.find? (fun r => r.rid == rid)

def State.updRead (rid : Nat) (f : ReadGrain → ReadGrain) (s : State) : State :=
  { s with path := { s.path with reads := s.path.reads.map (fun r => if r.rid = rid then f r else r) } }

/-- Key under which a read's soft bookings stand. -/
def readSeq (rid : Nat) : Nat := 2 ^ 63 + rid

/-- A read ends: it leaves the path, and its bookings with it. -/
def State.dropRead (rid : Nat) (s : State) : State :=
  { s with
    path := { s.path with reads := s.path.reads.filter (fun r => r.rid != rid) }
    adm := { s.adm with bookings := s.adm.bookings.filter (fun b => b.seq != readSeq rid) } }

def State.updRcmd (cntl qid cid : Nat) (f : ReadCmd → ReadCmd) (s : State) : State :=
  { s with path := { s.path with rcmds := s.path.rcmds.map (fun c =>
      if c.cntl = cntl ∧ c.qid = qid ∧ c.cmd.cid = cid then f c else c) } }

def State.rcmd? (s : State) (cntl qid cid : Nat) : Option ReadCmd :=
  s.path.rcmds.find? (fun c => c.cntl == cntl && c.qid == qid && c.cmd.cid == cid)

/-- Take a read command and all its grains out of the path. -/
def State.dropRcmd (cntl qid cid : Nat) (s : State) : State :=
  let mine := fun (r : ReadGrain) => decide (r.use ≤ 1) && r.cntl == cntl && r.qid == qid && r.cid == cid
  let rids := (s.path.reads.filter mine).map (·.rid)
  { s with
    path := { s.path with
      reads := s.path.reads.filter (fun r => !mine r)
      rcmds := s.path.rcmds.filter (fun c => !(c.cntl == cntl && c.qid == qid && c.cmd.cid == cid)) }
    adm := { s.adm with bookings := s.adm.bookings.filter (fun b => !(rids.map readSeq).contains b.seq) } }

/-- End a read command with a status. -/
def State.endRcmd (c : ReadCmd) (sct sc : Nat) (s : State) : State :=
  let s1 := s.dropRcmd c.cntl c.qid c.cmd.cid
  let ok := sct == 0 && sc == 0 && c.cmd.opcode == opRead
  let s2 := if ok then { s1 with nvq := { s1.nvq with
      hostReads := s1.nvq.hostReads + 1, bytesRead := s1.nvq.bytesRead + 4096 * c.nlb } } else s1
  (if ok then s2.countN (ctrQueue c.dqn 4) (4096 * c.nlb) else s2).complete c.cntl c.qid c.cmd.cid sct sc 0 0

/-! ### Delivery -/

/-- Bytes of LBA i of a read command, from the grains delivered. -/
def ReadCmd.lba (c : ReadCmd) (i : Nat) : List Byte :=
  let n := c.slba + i
  ((NMap.getD c.got (n / 4) zeroGrain).drop (4096 * (n % 4))).take 4096

/-- Application tag of LBA i of a read command (R82, R97). -/
def ReadCmd.tag (c : ReadCmd) (i : Nat) : Nat :=
  let n := c.slba + i
  (NMap.getD c.tags (n / 4) 0).toNat / 65536 ^ (n % 4) % 65536

/-- Protection information of LBA i as generated at egress (point V7, R82). The record of a partly written grain keeps no mark of the LBAs
never written, so these read with their own address as reference tag; only a grain that holds nothing reads FFFF_FFFF_FFFFh (DESIGN
CHOICE, log 47). -/
def ReadCmd.pi (c : ReadCmd) (i : Nat) : List Byte :=
  let n := c.slba + i
  let reftag := if c.holes.contains (n / 4) then 2 ^ 48 - 1 else n % 2 ^ 48
  beBytes 8 (crc64 (c.lba i)).toNat ++ beBytes 2 (c.tag i) ++ beBytes 6 reftag

/-- The application-tag check fails for an LBA of the command (R97). A stored tag of FFFFh is compared as any other, and the reference tag,
which is generated, is not checked (DESIGN CHOICE, log 47). -/
def ReadCmd.tagFails (c : ReadCmd) : Bool :=
  decide (prchkOf c.cmd / 2 % 2 = 1) && (List.range c.nlb).any (fun i =>
    decide (c.tag i &&& bits c.cmd.dw15 31 16 ≠ bits c.cmd.dw15 15 0 &&& bits c.cmd.dw15 31 16))

/-- Every grain of a read command has been delivered: its data leaves for the host, or, once the host's has been pulled, is compared with
it (R15, R97, R201). -/
def State.finishRead (c : ReadCmd) (s : State) : State :=
  let pi := match s.ns? c.vol with | some n => n.lbaf == 1 | none => false
  if !c.pulled then s
  else if pi && c.tagFails then s.endRcmd c 2 0x83
  else if !NMap.has s.nvq.ctrls c.cntl then s.endRcmd c 0 0
  else
    let data := ((List.range c.nlb).map c.lba).flatten
    match c.hostData with
    | some h => if data = h then s.endRcmd c 0 0 else s.endRcmd c 2 0x85
    | none =>
      let s1 := s.updRcmd c.cntl c.qid c.cmd.cid (fun c => { c with delivered := true })
      let s2 := if pi && !practOf c.cmd then
          s1.toHost c.cntl c.dqn .none (mkeyOf c.cmd) (mofsOf c.cmd) ((List.range c.nlb).map c.pi).flatten
        else s1
      s2.toHost c.cntl c.dqn (.read c.cntl c.qid c.cmd.cid) (dkeyOf c.cmd) (dofsOf c.cmd) data

/-- A grain of a read command is there: its bytes, its tags, and whether it holds anything. -/
def State.giveGrain (cntl qid cid g : Nat) (bytes : List Byte) (tags : DWord) (hole : Bool) (s : State) : State :=
  let s1 := s.updRcmd cntl qid cid (fun c =>
    { c with left := c.left.filter (· != g), got := NMap.put c.got g bytes, tags := NMap.put c.tags g tags,
             holes := if hole then c.holes ++ [g] else c.holes })
  match s1.rcmd? cntl qid cid with
  | some c => if c.left.isEmpty && !c.delivered then s1.finishRead c else s1
  | none => s1

/-- Merge failed: the grain keeps its old content, and the write goes on without it (R77). -/
def State.failMerge (r : ReadGrain) (s : State) : State :=
  (s.updWrite r.merge (fun w => w.updGrain r.grain (fun x => { x with failed := true }))).checkWrites

/-- A read failed its last source (R21): event 0x3302, and status 2h/81h for a host command. -/
def State.unrecovered (r : ReadGrain) (s : State) : State :=
  let s1 := (s.dropRead r.rid).record 0x3302 [r.vol, r.grain, r.failPoint]
  if r.use = 2 then s1.failMerge r
  else
    match s1.rcmd? r.cntl r.qid r.cid with
    | some c => s1.endRcmd c 2 0x81
    | none => s1

/-- A stripe of a home volume has lost more members than it has parity, and the partner cannot be asked (R39). -/
def State.beyondRepair (s : State) (r : ReadGrain) : Bool :=
  let (band, off, plen) := s.entPlace r.ent
  let m := match NMap.find s.path.bands band with | some b => b.m | none => 0
  decide (m < (s.lostStrips band off (64 + plen)).1) && !s.partnerAsk

/-- The next source after a failure at point `v` (R96): parity, then the partner. -/
def State.readFail (rid v : Nat) (s : State) : State :=
  match s.read? rid with
  | none => s
  | some r =>
    let s1 := s.updRead rid (fun r => { r with failPoint := v, lanes := [], failing := [] })
    if r.source = 0 then s1.updRead rid (fun r => { r with point := 8, source := 1 })
    else if r.use = 3 then (s1.dropRead rid).emit (.repairGive r.cid none)
    else if r.source = 1 && s1.partnerAsk then
      (s1.updRead rid (fun r => { r with point := 9, source := 2 })).emit (.repairAsk rid r.vol r.grain r.ent.wgen)
    else
      let s2 := if s1.beyondRepair r then s1.enterPreservation 0x0A else s1
      s2.unrecovered { r with failPoint := v }

/-- Append a repaired record in soft slots: its strips are booked soft at the end of the home stream, and it is appended there (R96).
Where they find no entry it stays queued, until the ring has advanced (R66). -/
def State.placeRewrite (w : Rewrite) (s : State) : State :=
  let len := recordLen w.record
  let slot := slotOf s.time.now
  let (bandNo, band, pos) := s.bookPlace 0 len
  match w.place, s.bookFlash band bandNo pos len slot (slot + ringSlots) false rewriteSeq s.adm.bookings with
  | none, some (bs, parity) =>
    let s1 := { s with adm := { s.adm with bookings := bs } }
    let (s2, b, off) := s1.appendRecord .home w.record (fun i => parity.getD i (slot + ringSlots)) true
    { s2 with path := { s2.path with
        rewrites := s2.path.rewrites.map (fun x => if x = w then { x with place := some (b, off) } else x) } }
  | _, _ => s

/-- Repaired records still queued are appended where soft slots are free (R21). -/
def State.placeRewrites (s : State) : State := s.path.rewrites.foldl (fun (s : State) w => s.placeRewrite w) s

/-- A repaired grain's record is queued to be rewritten unchanged at the end of the home stream; the map entry moves once the copy is
sealed (R21, R96). -/
def State.queueRewrite (r : ReadGrain) (rec : Record) (s : State) : State :=
  let w : Rewrite := { vol := r.vol, grain := r.grain, ent := r.ent, record := rec, place := none }
  ({ s with path := { s.path with rewrites := s.path.rewrites ++ [w] } }).placeRewrite w

/-- A grain passed points V2 to V6 (R95): at the egress its GUARD is formed again (V7); repairs are recorded and rewritten, and the grain
goes to whoever asked for it. -/
def State.deliver (r : ReadGrain) (bytes : List Byte) (s : State) : State :=
  if r.use ≤ 1 ∧ r.record.any (fun rec => decide (crc64 bytes ≠ rec.check.guard)) then
    (s.record 0x3303 [r.vol, r.grain, 7]).readFail r.rid 7
  else
  let s1 := s.dropRead r.rid
  let s2 := match r.record, r.source with
    | some rec, 1 => (s1.record 0x3300 [r.vol, r.grain, r.failPoint]).queueRewrite r rec
    | some rec, 2 => (s1.record 0x3301 [r.vol, r.grain, r.failPoint]).queueRewrite r rec
    | _, _ => s1
  let s2 := if r.use = 4 && r.source != 0 then
    { s2 with path := { s2.path with patrolRepaired := s2.path.patrolRepaired + 1 } } else s2
  let tags := match r.record with | some rec => rec.apptag | none => 0
  if r.use = 2 then
    match s2.write? r.merge with
    | some w => s2.mergeDone w r.grain bytes tags
    | none => s2
  else s2.giveGrain r.cntl r.qid r.cid r.grain bytes tags false

/-- Point V3 of a record just read (R95): a match goes on to the cipher, or to the partner that asked for it. -/
def State.pointV3 (rid : Nat) (found : Option Record) (s : State) : State :=
  match s.read? rid with
  | none => s
  | some r =>
    let (band, off, _) := s.entPlace r.ent
    match found with
    | none => (s.record 0x3304 [band, off]).readFail rid 3
    | some rec =>
      let (tag, wgen) := s.expected r
      if rec.kind = 1 ∧ rec.check.reftag = tag ∧ rec.check.wgen = wgen then
        if r.use = 3 then (s.dropRead rid).emit (.repairGive r.cid (some rec))
        else s.updRead rid (fun r => { r with record := some rec, point := 4, lanes := [] })
      else (s.record 0x3303 [r.vol, r.grain, 3]).readFail rid 3

/-! ### V2: codewords -/

/-- An uncorrectable codeword: event 0x3101, a fault of its block, and the third within 24 h marks the block (R151). -/
def State.uncorrectable (band off c : Nat) (s : State) : State :=
  let (die, page, q) := s.codewordAt band off c
  let blk := s.blockAt band die
  let u := FUnit.block die blk
  let s1 := ((s.recordOnce 0x3101 (blockKey die blk) [die, blk, page, q]).count (ctrDie die 12)).raise
    (Reg.FCH_CERR0 + 0x200 * (die / 16)) 0x20
  let s2 := { s1 with faults := { s1.faults with log := s1.faults.log ++ [(u, 0x3101, s1.time.now)] } }
  if 3 ≤ (s2.faultsOf u 0x3101).length then s2.markBlock die blk else s2

/-- The codewords of a read that passed at step `k` are counted at their die (Table 18.1); a retry step sets FCH_CERR.RETRY. -/
def State.countPassed (band off k : Nat) (passed : List Nat) (s : State) : State :=
  passed.foldl (fun s c =>
    let die := (s.codewordAt band off c).1
    let s1 := s.count (ctrDie die (4 + k))
    if k = 0 then s1 else s1.raise (Reg.FCH_CERR0 + 0x200 * (die / 16)) 0x40) s

/-- A codeword that needed a step from REFRESH_STEP on queues its band for refresh (R151). -/
def State.askRefresh (band step : Nat) (s : State) : State :=
  if step < s.regField Reg.FCH_CTRL 2 0 then s
  else
    match NMap.find s.path.bands band with
    | some b =>
      if b.refresh then s
      else
        (({ s with path := { s.path with
          bands := NMap.put s.path.bands band { b with refresh := true } } }).raise Reg.FCH_STATUS 8).record 0x3100
          [band, step]
    | none => s

/-- The die of a codeword of a read, with its model. -/
def State.readDie (s : State) (r : ReadGrain) (c : Nat) : Option (Nat × DieModel) :=
  let (band, off, _) := s.entPlace r.ent
  let die := (s.codewordAt band off c).1
  (s.portModel (die / 128)).map (fun m => (die, m))

/-- Retry steps of the dies that a read's failing codewords lie on. -/
def State.lastStep (s : State) (r : ReadGrain) (left : List Nat) : Nat :=
  (left.filterMap (s.readDie r)).foldl (fun a d => max a d.2.rrCount) 0

/-- Book a retry read (R150, R151): the die, and the codewords still failing on its channel; soft, or firm and below T_D, with the fault
slack to carry it, for a merge read of an admitted write. -/
def State.bookRetry (r : ReadGrain) (left : List Nat) (s : State) : State :=
  let slot := slotOf s.time.now
  let w := if r.use = 2 then (s.write? r.merge).filter (fun w => w.resv.isSome) else none
  let dies := ((left.filterMap (s.readDie r)).map (·.1)).eraseDups
  dies.foldl (fun (s : State) die =>
    match s.portModel (die / 128) with
    | none => s
    | some m =>
      let words := (left.filter (fun c => (s.readDie r c).any (fun d => d.1 == die))).length
      let ticks := words * ceilDiv 4608000 (max 1 m.rate)
      let seq := readSeq r.rid
      let firm := w.bind (fun w =>
        let limit := min (slotOf w.adm + w.d) (slot + ringSlots)
        (bookDie (s.askDie die (ceilDiv m.tRead 8192) true seq true) limit s.adm.bookings (slotsFrom slot limit)).bind (fun x =>
          bookSpread (s.askChan (die / 16) ticks true seq) limit x.1 (slotsFrom x.2 limit)))
      match firm with
      | some (bs, _) => { s with adm := { s.adm with bookings := bs } }
      | none => s.bookWork seq die m.tRead ticks) s

/-- Set the read levels of a step at the dies that it reads again (R150). -/
def State.setLevels (r : ReadGrain) (step : Nat) (s : State) : State :=
  (r.failing.filterMap (s.readDie r)).foldl (fun (s : State) d =>
    { s with flash := { s.flash with levels := NMap.put s.flash.levels d.1 (d.2.rrSteps.getD (step - 1) 0) } }) s

/-- After its last step a read's dies have their default levels again (R150). -/
def State.restoreLevels (rid : Nat) (r : ReadGrain) (s : State) : State :=
  if (s.read? rid).any (fun x => x.point == 2 && !x.failing.isEmpty) then s
  else { s with flash := { s.flash with
    levels := (r.failing.filterMap (s.readDie r)).foldl (fun m d => NMap.del m d.1) s.flash.levels } }

/-- Codewords decoded at a step: all pass, and the record goes on to V3; some fail, and the read goes on to the next step or fails. -/
def State.decoded (rid step : Nat) (failing : List Nat) (s : State) : State :=
  match s.read? rid with
  | none => s
  | some r =>
    let (band, off, plen) := s.entPlace r.ent
    let all := if step = 0 then recordCodewords off (64 + plen) else r.failing
    let left := all.filter failing.contains
    let passed := all.filter (fun c => !failing.contains c)
    let s1 := s.countPassed band off step passed
    let s2 := if passed.isEmpty then s1 else s1.askRefresh band step
    let last := s2.lastStep r left
    if left.isEmpty then s2.pointV3 rid ((s2.storedAt band off).map (·.record))
    else if last ≤ step then (left.foldl (fun s c => s.uncorrectable band off c) s2).readFail rid 2
    else (s2.updRead rid (fun r => { r with failing := left, step := step })).bookRetry r left

/-- PAGE_READ_DONE (R150): the pages of a record were read and hard-decoded; a lost strip is reconstructed (R176). -/
def execPageReadDone (t rid : Nat) (failing : List Nat) (s : State) : Host.Outcome State Fault Refusal :=
  let s1 := s.advanceTo t
  .next <| match s1.read? rid with
    | none => s1
    | some r =>
      if r.point != 2 || decide (r.step ≠ 0) || !r.failing.isEmpty then s1
      else
        let (band, off, plen) := s1.entPlace r.ent
        let (die, _, _) := s1.codewordAt band off 0
        let m := match NMap.find s1.path.bands band with | some b => b.m | none => 0
        let (worst, lost) := s1.lostStrips band off (64 + plen)
        let s2 := ((s1.useRes (resDie die)).count (ctrDie die 0)).count (ctrChannel (die / 16) 0)
        if m < worst && lost then (s2.updRead rid (fun r => { r with source := 1 })).readFail rid 2
        else (if lost then s2.count (ctrPort (die / 128) 17) else s2).decoded rid 0 failing

/-- READ_RETRY_STEP (R150). -/
def execReadRetryStep (t rid step : Nat) (failing : List Nat) (s : State) : Host.Outcome State Fault Refusal :=
  let s1 := s.advanceTo t
  .next <| match s1.read? rid with
    | none => s1
    | some r =>
      if r.point != 2 || r.failing.isEmpty || decide (step ≠ r.step + 1) then s1
      else ((s1.setLevels r step).decoded rid step failing).restoreLevels rid r

/-! ### V5 and V6 -/

/-- Why a lane's result fails, if it does: 5 with its event code and kind, or 6 (R111, point V6). -/
def laneFailure (rec : Record) (r : LaneDecode) : Option (Nat × Nat × Nat) :=
  if rec.sample && !rec.comp then some (5, 0x5004, 3)
  else match r with
    | .expansion => some (5, 0x5003, 0)
    | .shortOutput => some (5, 0x5004, 1)
    | .streamError => some (5, 0x5004, 2)
    | .ok bytes => if crc64 bytes = rec.check.guard then none else some (6, 0x3303, 6)

/-- The events of a lane's failure (R111, Table 5.7). -/
def State.laneFailed (r : ReadGrain) (lane : Nat) (f : Nat × Nat × Nat) (s : State) : State :=
  if f.1 = 6 then s.record 0x3303 [r.vol, r.grain, 6]
  else
    ((s.record f.2.1 ([lane, r.vol, r.grain] ++ (if f.2.1 = 0x5003 then [] else [f.2.2]))).raise Reg.CMP_STATUS
      (if f.2.1 = 0x5003 then 4 else 8)).count (ctrLane (32 + lane) 1)

/-- What a healthy lane makes of a record: its payload decrypted, and decoded (R110, R111). -/
def State.laneDecode (s : State) (rec : Record) : LaneDecode :=
  let keys := match NMap.find s.ciph.slots rec.keyslot with | some k => (k.key1, k.key2) | none => ([], [])
  decodeGrain rec.comp rec.sample rec.geom (rec.check.reftag.toNat % 2 ^ 34) (xtsDecrypt keys.1 keys.2 (xtsTweak rec.check) rec.payload)

/-- DECOMPRESSION_DONE (R95, R111, R112): the first failure is retried on another lane; a retry that passes charges the first. `fault` is
what a faulty lane answered in place of the record's decode. Which lane is the first free one is not state: the command names it (log 48). -/
def execDecompressionDone (t rid lane : Nat) (fault : Option LaneDecode) (s : State) : Host.Outcome State Fault Refusal :=
  let s1 := s.advanceTo t
  .next <| match s1.read? rid with
    | none => s1
    | some r =>
      match r.record with
      | none => s1
      | some rec =>
        let only := s1.dlanesOk == r.lanes
        let res := fault.getD (s1.laneDecode rec)
        if r.point != 5 || !s1.dlaneOk lane || (r.lanes.contains lane && !only) then s1
        else
          let s2 := ((s1.useIsland .cmp (2 * lane)).count (ctrLane (32 + lane) 0)).countN (ctrLane (32 + lane) 6) rec.plen
          match laneFailure rec res with
          | some f =>
            if r.lanes.isEmpty then (s2.laneFailed r lane f).updRead rid (fun r => { r with lanes := [lane] })
            else (s2.laneFailed r lane f).readFail rid f.1
          | none =>
            match res with
            | .ok bytes =>
              let s3 := s2.countN (ctrLane (32 + lane) 7) bytes.length
              match r.lanes with
              | first :: _ =>
                if first = lane then s3.deliver r bytes
                else
                  (((s3.raise Reg.CMP_STATUS 2).count (ctrLane (32 + first) 2)).fault (.dlane first) 0x5002 (64 + first)
                    [first, r.vol, r.grain]).deliver r bytes
              | [] => s3.deliver r bytes
            | _ => s2

/-! ### Repair -/

/-- PARITY_REPAIR (R96, R176): the rebuilt pages give a record, taken again from V3, or parity has failed; fewer than k surviving strips
give none. -/
def execParityRepair (t rid : Nat) (rebuilt : Option Record) (s : State) : Host.Outcome State Fault Refusal :=
  let s1 := s.advanceTo t
  .next <| match s1.read? rid with
    | none => s1
    | some r =>
      if r.point != 8 then s1
      else
        let (band, off, plen) := s1.entPlace r.ent
        let m := match NMap.find s1.path.bands band with | some b => b.m | none => 0
        match (if m < (s1.lostStrips band off (64 + plen)).1 then none else rebuilt) with
        | none => s1.readFail rid r.failPoint
        | some rec => s1.pointV3 rid (some rec)

/-- PARTNER_REPAIR_REQUEST (R96): the mirror copy is read through V1 to V3, if its WGEN is the one asked for. -/
def execPartnerRepairRequest (t vol grain : Nat) (wgen : BitVec 16) (token : Nat) (s : State) :
    Host.Outcome State Fault Refusal :=
  let s1 := s.advanceTo t
  .next <| match s1.mapEnt vol grain with
    | none => s1.emit (.repairGive token none)
    | some e =>
      if e.wgen = wgen ∧ e.stored then s1.startRead 0 0 token 3 0 vol grain e
      else if e.wgen = wgen ∧ e.kind = 2 then s1.emit (.repairGive token ((s1.storedAt e.band e.offset).map (·.record)))
      else s1.emit (.repairGive token none)

/-- PARTNER_REPAIR_RESPONSE (R96): the partner's record goes on at V4, a zero record with nothing to decrypt; nothing returned fails the
last source. -/
def execPartnerRepairResponse (t rid : Nat) (found : Option Record) (s : State) : Host.Outcome State Fault Refusal :=
  let s1 := s.advanceTo t
  .next <| match s1.read? rid with
    | none => s1
    | some r =>
      if r.point != 9 then s1
      else
        match found with
        | none => s1.readFail rid r.failPoint
        | some rec =>
          if rec.kind = 4 then s1.deliver { r with record := some rec } zeroGrain
          else s1.updRead rid (fun r => { r with record := some rec, point := 4, lanes := [] })

end Sys2Proof.Machine
end

