-- ==== Sys2Proof/Machine/RegWrite.lean ====
section
/-!
DEFINITION. Writing registers: which access reaches which register in which mode (R9, R43, R387, and the writable-in lists of the
register chapters), reserved bits (R8), and fields by their access type (R7).
-/

namespace Sys2Proof.Machine

/-- The bits of a field. -/
def FieldDesc.mask (f : FieldDesc) : Word := fieldMask f.hi f.lo

/-- Bits of the fields of a register that have one of some access types. -/
def RegDesc.maskOf (r : RegDesc) (p : Access → Bool) : Word :=
  r.fields.foldl (fun w f => if p f.acc then w ||| f.mask else w) 0

/-- Bits no named field covers (R8). -/
def RegDesc.reserved (r : RegDesc) : Word := ~~~ r.maskOf (fun _ => true)

/-- A register has a field a write can act on (R7). -/
def RegDesc.writable (r : RegDesc) : Bool := r.fields.any (fun f => f.acc != .ro && f.acc != .rc)

/-- A register may be written in a mode. -/
def When.allows : When → Mode → Bool
  | .any, _ => true
  | .bootBench, m => m == .boot || m == .bench
  | .pairedSole, m => m == .paired || m == .sole
  | .pairedSoleBench, m => m == .paired || m == .sole || m == .bench
  | .bootBenchPairedSole, m => m == .boot || m == .bench || m == .paired || m == .sole
  | .bench, m => m == .bench
  | .keyCommand, _ => true
  | .live, m => m != .reset && m != .locked

/-- A write in Locked that the management SPI serves (R43). -/
def lockedWrite (o : Origin) (a : Nat) : Bool := o == .spi && (a == Reg.RCDR_RSEQ_LO || a == Reg.RCDR_RSEQ_HI)

/-- A read in Locked that the management SPI serves (R43): the blocks GCTL and RCDR. -/
def lockedRead (o : Origin) (a : Nat) : Bool :=
  o == .spi && (decide (a < 0x10000) || decide (0x30000 ≤ a ∧ a < 0x40000))

/-- What every register write meets before its fields act: no path in Reset (R387), Locked (R43), unmapped addresses (R9), registers
without a writable field (R7), modes, and reserved bits (R8), whose flag outlives a clear of GCTL_ERR by the same write (R12). `act` is
what the fields do. -/
def State.gateWrite (o : Origin) (a : Nat) (v : Word) (act : RegDesc → State → State) (s : State) : State :=
  if s.md.mode = .reset then s
  else if s.md.mode = .locked ∧ (o = .core ∨ o = .inband ∨ o = .repl) then s
  else
    match findReg a with
    | none => s.unmapped
    | some (r, _) =>
      if s.md.mode = .locked then (if lockedWrite o a then act r s else s.unmapped)
      else if !r.writable then s.ignored
      else if !r.when_.allows s.md.mode then s.ignored
      else if v &&& r.reserved = 0 then act r s
      else if a = Reg.GCTL_ERR then (act r s).ignored
      else act r s.ignored

/-- What every register read meets first: no path in Reset (R387), Locked (R43), unmapped addresses (R9). `act` is what the read does
beside returning a value. -/
def State.gateRead (o : Origin) (a : Nat) (act : RegDesc → State → State) (s : State) : State :=
  if s.md.mode = .reset then s
  else if s.md.mode = .locked ∧ (o = .core ∨ o = .inband ∨ o = .repl) then s
  else
    match findReg a with
    | none => s.unmapped
    | some (r, _) => if s.md.mode = .locked && !lockedRead o a then s.unmapped else act r s

/-- Keep a committed 64-bit quantity of a path at its two registers (R11). -/
def State.setPair (o : Origin) (lo hi : Nat) (v : Nat) (s : State) : State :=
  (s.setPathReg o lo (lo32 v)).setPathReg o hi (hi32 v)

/-- The 64-bit quantity a path committed. -/
def State.pair (s : State) (o : Origin) (lo hi : Nat) : Nat := join64 (s.pathReg o lo) (s.pathReg o hi)

/-- Fields whose values a rule bounds: address, bits, least and greatest value (R52, R75, R170, R244, R271, R335, R414); the last two
have a range in their register tables only (log 28). -/
def fieldRanges : List (Nat × Nat × Nat × Nat × Nat) := [
  (Reg.GCTL_RETIRE, 3, 0, 1, 15), (Reg.GCTL_OVERLOAD, 28, 16, 0, 6400), (Reg.ADM_CTRL, 7, 0, 28, 255),
  (Reg.ADM_CTRL, 23, 16, 0, 0xC0), (Reg.FCH_CTRL, 2, 0, 1, 7), (Reg.IDM_TIMERS, 9, 0, 10, 1000), (Reg.IDM_TIMERS, 31, 16, 50, 10000),
  (Reg.IDM_ODCTRL, 7, 0, 1, 255), (Reg.IDM_CHAIN, 15, 0, 1, 65535), (Reg.MOOR_CTRL, 9, 0, 25, 1000), (Reg.MOOR_CTRL, 18, 10, 10, 500),
  (Reg.MOOR_CTRL, 21, 19, 2, 7), (Reg.CIPH_CTRL, 7, 0, 1, 255), (Reg.GCTL_THROT, 7, 0, 90, 120), (Reg.GCTL_THROT, 11, 8, 1, 15),
  (Reg.NVQ_CTRL, 19, 16, 0, 4), (Reg.POOL_MEM, 15, 8, 1, 255)]

/-- The bits of a register for which a word carries a value outside its range. -/
def badFields (a : Nat) (v : Word) : Word :=
  fieldRanges.foldl (fun (w : Word) (f : Nat × Nat × Nat × Nat × Nat) =>
    let x := bits v f.2.1 f.2.2.1
    if f.1 = a ∧ (x < f.2.2.2.1 ∨ f.2.2.2.2 < x) then w ||| fieldMask f.2.1 f.2.2.1 else w) 0

/-- Plain fields (Table 0.6): RW fields take the value, W1C bits written 1 clear unless hardware sets them in the same cycle (R12), the
rest stands. A field whose value lies outside its range is ignored, and the other fields of the same write take effect. -/
def State.plainWrite (o : Origin) (a : Nat) (v : Word) (r : RegDesc) (s : State) : State :=
  let bad := badFields a v
  let rw := r.maskOf (· == .rw) &&& ~~~ bad
  let w1c := r.maskOf (· == .w1c)
  let s1 := if bad = 0 then s else s.ignored
  if r.perPath then s1.setPathReg o a (v &&& rw)
  else
    let old := s1.reg a
    let new := ((old &&& ~~~ rw) ||| (v &&& rw)) &&& ~~~ (v &&& w1c &&& ~~~ s.freshBits a)
    if new = old then s1 else s1.setReg a new

/-- A write of a field of a register's stored bits. -/
def State.setField (a hi lo v : Nat) (s : State) : State :=
  s.setReg a ((s.reg a &&& ~~~ fieldMask hi lo) ||| field v hi lo)

end Sys2Proof.Machine
end

