-- ==== Sys2Proof/Machine/Pools.lean ====
section
/-!
DEFINITION. The buffer pools (R294 to R302): grants and frees, the free store with its canaries, owners, quotas and the leak audit.
-/

namespace Sys2Proof.Machine

/-- Buffer sizes of pools 0 to 4 (Table 13.4). -/
def poolSizes : List Nat := [512, 4096, 16384, 65536, 1048576]

/-- Owner identifiers that are valid (Table 13.6). -/
def ownerValid (o : Nat) : Bool :=
  decide ((1 ≤ o ∧ o ≤ 5) ∨ o = 0x40 ∨ (0x100 ≤ o ∧ o ≤ 0xFFF) ∨ (0x1000 ≤ o ∧ o ≤ 0x1FFF))

def State.owner (s : State) (o : Nat) : Owner := NMap.getD s.mem.owners o {}

def State.updOwner (o : Nat) (f : Owner → Owner) (s : State) : State :=
  { s with mem := { s.mem with owners := NMap.put s.mem.owners o (f (s.owner o)) } }

def State.updPool (p : Nat) (f : Pool → Pool) (s : State) : State :=
  { s with mem := { s.mem with pools := NMap.upd s.mem.pools p f } }

/-- Buffers on a pool's chains. -/
def Pool.listed (x : Pool) : Nat := (x.chains.map (·.length)).sum

/-- A pool's free count: the stack and the chains. -/
def Pool.free (x : Pool) : Nat := x.stack.length + x.listed

/-- Batches in flight (POOL_STK.MOVING). -/
def Pool.moving (x : Pool) : Nat := x.refills + x.spills

def State.poolFree (s : State) (p : Nat) : Nat := match NMap.find s.mem.pools p with | some x => x.free | none => 0

/-- The pool's range holds an address (R298). -/
def Pool.inRange (x : Pool) (a : Nat) : Bool := decide (x.base ≤ a ∧ a < x.base + x.span * x.size)

/-- The pool whose range holds an address. -/
def State.poolOf (s : State) (a : Nat) : Option (Nat × Pool) := s.mem.pools.find? (fun q => q.2.inRange a)

/-! ### The free store -/

/-- The canary of a listed buffer (R297). -/
def canary (pool a : Nat) : Nat := (a ^^^ 0x0F1E2D3C4B5A6978 ^^^ (pool * 2 ^ 56)) % 2 ^ 64

/-- Write the next pointers and canaries of a chain that ends in `last` (R297). -/
def State.linkChain (pool last : Nat) : List Nat → State → State
  | [], s => s
  | a :: rest, s =>
    State.linkChain pool last rest (s.memWrite a (leBytes 8 (rest.headD last) ++ leBytes 8 (canary pool a)))

/-- A listed buffer passes the check of R298. -/
def State.listedOk (s : State) (pool : Nat) (x : Pool) (a : Nat) : Bool :=
  let next := leNat (s.memBytes a 8)
  leNat (s.memBytes (a + 8) 8) == canary pool a && (next == 0 || (x.inRange next && next % x.size == 0))
    && (s.poisonedIn a 16).isNone

/-- Batches start while the stack is below 2,048 or above 6,144 entries, up to 8 a pool (R297). -/
def Pool.balance : Nat → Pool → Pool
  | 0, x => x
  | n + 1, x =>
    if 8 ≤ x.moving then x
    else if x.stack.length + 1024 * x.refills < 2048 ∧ 1024 * x.refills < x.listed then
      Pool.balance n { x with refills := x.refills + 1 }
    else if 6144 + 1024 * x.spills < x.stack.length then Pool.balance n { x with spills := x.spills + 1 }
    else x

def State.balance (p : Nat) (s : State) : State := s.updPool p (Pool.balance 8)

/-- The shortest chain, the lowest of several. -/
def Pool.shortest (x : Pool) : Nat :=
  (x.chains.zipIdx.foldl (fun (b : Nat × Nat) (c : List Nat × Nat) => if c.1.length < b.1 then (c.1.length, c.2) else b)
    ((x.chains.headD []).length, 0)).2

/-- Put a run of buffers at the head of a chain, and write their pointers and canaries. -/
def State.ontoChain (p c : Nat) (run : List Nat) (s : State) : State :=
  match NMap.find s.mem.pools p with
  | none => s
  | some x =>
    let old := x.chains.getD c []
    (s.linkChain p (old.headD 0) run).updPool p (fun x => { x with chains := x.chains.set c (run ++ old) })

/-- Spill the 1,024 entries at the bottom of the stack onto the shortest chain (R297). -/
def State.spill (p : Nat) (s : State) : State :=
  match NMap.find s.mem.pools p with
  | none => s
  | some x =>
    let n := x.stack.length - 1024
    ((s.updPool p (fun x => { x with stack := x.stack.take n })).ontoChain p x.shortest (x.stack.drop n)).count (ctrPool p 7)

/-- Cut a chain before a buffer that failed its check (R298). -/
def State.cutChain (p c : Nat) (rest : List Nat) (s : State) : State :=
  match rest with
  | [] => s
  | bad :: _ =>
    let s1 := match s.poisonedIn bad 16 with | some l => s.consumed l consumerList | none => s
    ((((s1.updPool p (fun x => { x with chains := x.chains.set c [], lostChain := x.lostChain ++ rest })).raise
      Reg.POOL_STATUS 4).count (ctrPool p 4)).record 0x8013 [p, bad])

/-- Refill 1,024 pointers from the head of a chain (R297, R298). -/
def State.refill (p c : Nat) (s : State) : State :=
  match NMap.find s.mem.pools p with
  | none => s
  | some x =>
    let chain := x.chains.getD c []
    let batch := chain.take 1024
    let good := batch.takeWhile (s.listedOk p x)
    let s1 := (s.updPool p (fun x =>
      { x with stack := good ++ x.stack, chains := x.chains.set c (chain.drop good.length) })).count (ctrPool p 6)
    if good.length = batch.length then s1 else s1.cutChain p c (chain.drop good.length)

/-! ### Grants -/

/-- What a request comes to (R294). -/
inductive Answer where
  | granted (pool addr : Nat) | pending | empty (pool : Nat) | quota | invalid
  deriving DecidableEq, Repr

/-- Free memory of all pools, in 512-byte units. -/
def State.freeUnits (s : State) : Nat := (s.mem.pools.map (fun q => q.2.free * (q.2.size / 512))).sum

/-- Units that the floors of all owners but one still claim (R299). -/
def State.floorsOwed (s : State) (but : Nat) : Nat :=
  (s.mem.owners.map (fun q => if q.1 = but then 0 else q.2.floor - q.2.use)).sum

/-- Judge a request on pools `p`, p + 1, … (R294, R299). -/
def State.judgeRequest (s : State) (owner : Nat) (larger : Bool) : Nat → Nat → Answer
  | 0, p => .empty p
  | n + 1, p =>
    match NMap.find s.mem.pools p with
    | none => .empty p
    | some x =>
      if x.free = 0 then (if larger && decide (p < 4) then s.judgeRequest owner larger n (p + 1) else .empty p)
      else if (s.owner owner).quota < (s.owner owner).use + x.size / 512 then .quota
      else if s.freeUnits < x.size / 512 + s.floorsOwed owner then .empty p
      else match x.stack with
        | [] => .pending
        | a :: _ => .granted p a

/-- The smallest pool whose buffer holds a size. -/
def poolFor (size : Nat) : Nat := (poolSizes.filter (· < size)).length

/-- Judge a request (R294). -/
def State.answer (s : State) (owner size : Nat) (larger : Bool) : Answer :=
  if size = 0 ∨ 1048576 < size ∨ !ownerValid owner then .invalid else s.judgeRequest owner larger 5 (poolFor size)

/-- Carry an answer out: a grant pops the stack, a refusal is counted and recorded (R294). -/
def State.grant (owner : Nat) (a : Answer) (s : State) : State :=
  match a with
  | .granted p addr =>
    let units := poolSizes.getD p 0 / 512
    let s1 := (s.updPool p (fun x => { x with stack := x.stack.drop 1 })).updOwner owner (fun o =>
      { o with use := o.use + units, granted := s.time.now })
    let buf : Buf := { owner := owner, state := 1, tick := s.time.now, pool := p }
    (({ s1 with mem := { s1.mem with bufs := NMap.put s1.mem.bufs addr buf } }).count (ctrPool p 0)).balance p
  | .empty p => ((s.raise Reg.POOL_STATUS 1).count (ctrPool p 2)).recordOnce 0x8011 0 [p, owner]
  | .quota =>
    let s1 := (s.raise Reg.POOL_STATUS 2).updOwner owner (fun o => { o with held := true })
    s1.record 0x8012 [owner, (s.owner owner).use]
  | _ => s

/-- POOL_GRANT's address, pool and status for an answer (Table 13.7). -/
def Answer.word : Answer → Nat × Nat × Nat
  | .granted p a => (a, p, 0)
  | .pending => (0, 0, 1)
  | .empty _ => (0, 0, 2)
  | .quota => (0, 0, 3)
  | .invalid => (0, 0, 4)

/-- The pool a QUOTA refusal counts for: the one that would have served (R294). -/
def State.quotaPool (s : State) (size : Nat) : Nat :=
  ((List.range 5).find? (fun p => decide (poolFor size ≤ p) && decide (0 < s.poolFree p))).getD (poolFor size)

/-- A request of an access path: judged, carried out, and answered in that path's POOL_GRANT (R294, R306). -/
def State.requestFor (path owner size : Nat) (larger : Bool) (s : State) : State :=
  let a := s.answer owner size larger
  let s1 := s.grant owner a
  let s2 := if a = .quota then s1.count (ctrPool (s.quotaPool size) 3) else s1
  let others := s2.mem.waiting.filter (fun w => w.1 != path)
  { s2 with mem := { s2.mem with
      grants := NMap.put s2.mem.grants path a.word
      waiting := if a = .pending then others ++ [(path, owner, size, larger)] else others } }

/-- Requests that waited for a refill are judged again, oldest first (R294). -/
def State.serveWaiting (s : State) : State :=
  s.mem.waiting.foldl (fun (s : State) (w : Nat × Nat × Nat × Bool) => s.requestFor w.1 w.2.1 w.2.2.1 w.2.2.2) s

/-- A write of POOL_REQ starts a request (R294). -/
def State.writePoolReq (o : Origin) (v : Word) (s : State) : State :=
  s.gateWrite o Reg.POOL_REQ v (fun _ s =>
    s.requestFor (pathCode o) (bits (s.pathReg o Reg.POOL_REQOWN) 15 0) (bits v 20 0) (bit v 21))

/-! ### Frees -/

/-- Owners by their last grant, newest first (R293; log 23). -/
def State.ownersNewest (s : State) : List Nat :=
  (s.mem.owners.mergeSort (fun a b => decide (b.2.granted ≤ a.2.granted))).map (·.1)

/-- Cut quotas, newest owner first, until the free counts meet the floors (R293; log 23). -/
def State.cutQuotas : List Nat → Nat → State → State
  | [], _, s => s
  | o :: rest, short, s =>
    if short = 0 then s
    else
      let w := s.owner o
      let q := max w.floor (min w.quota w.use - short)
      State.cutQuotas rest (short - (min w.quota w.use - q)) (s.updOwner o (fun x => { x with quota := min x.quota q }))

/-- Take a freed buffer out of its pool: it overlaps a retired page (R293). -/
def State.withdraw (a p : Nat) (s : State) : State :=
  let buf : Buf := { owner := 0, state := 2, tick := s.time.now, pool := p }
  let s1 := ({ s with mem := { s.mem with
    bufs := NMap.put s.mem.bufs a buf, withdrawn := s.mem.withdrawn ++ [a] } }).updPool p (fun x => { x with total := x.total - 1 })
  s1.cutQuotas s1.ownersNewest (s1.floorsOwed 0 - s1.freeUnits)

/-- A buffer overlaps a retired page. -/
def State.onRetiredPage (s : State) (a size : Nat) : Bool :=
  s.mem.retiredPages.any (fun g => decide (4096 * g < a + size ∧ a < 4096 * g + 4096))

/-- A granted buffer returns to its pool (R296, R297); a stack with no room spills at once. -/
def State.release (a p : Nat) (b : Buf) (s : State) : State :=
  let size := poolSizes.getD p 0
  let s1 := (({ s with mem := { s.mem with bufs := NMap.del s.mem.bufs a } }).updOwner b.owner (fun o =>
    { o with use := o.use - size / 512 })).count (ctrPool p 1)
  if s1.onRetiredPage a size then s1.withdraw a p
  else
    let s2 := match NMap.find s1.mem.pools p with
      | some x => if 8192 ≤ x.stack.length then s1.spill p else s1
      | none => s1
    ((s2.updPool p (fun x => { x with stack := a :: x.stack })).balance p).serveWaiting

/-- Why a free is ignored (R296): no start of a buffer, already free, another owner. -/
def State.freeCause (s : State) (a owner : Nat) : Option Nat :=
  match s.poolOf a with
  | none => some 0
  | some (_, x) =>
    if a % x.size ≠ 0 then some 0
    else match NMap.find s.mem.bufs a with
      | some b => if b.state ≠ 1 then some 1 else if b.owner ≠ owner then some 2 else none
      | none => some 1

/-- Free a buffer, or ignore the free (R296). -/
def State.freeBuffer (a owner : Nat) (s : State) : State :=
  match s.freeCause a owner, NMap.find s.mem.bufs a with
  | none, some b => s.release a b.pool b
  | some c, _ =>
    let s1 := (s.raise Reg.POOL_STATUS 8).record 0x8014 [owner, a, Config.itemCode 0x8014 c]
    match s.poolOf a with | some (p, _) => s1.count (ctrPool p 5) | none => s1
  | none, none => s

/-- A write of POOL_FREE_HI commits a free (R306). -/
def State.writePoolFree (o : Origin) (v : Word) (s : State) : State :=
  s.gateWrite o Reg.POOL_FREE_HI v (fun _ s =>
    s.freeBuffer ((s.staged o Reg.POOL_FREE_LO).toNat + bits v 7 0 * 2 ^ 32) (bits v 31 16))

/-! ### Initialisation (R289) -/

/-- The free store of a pool as Boot builds it: half a stack, and the rest on the eight chains in turn (log 23). -/
def freshPool (p base count : Nat) : Pool :=
  let size := poolSizes.getD p 512
  let all := (List.range count).map (fun i => base + i * size)
  let rest := all.drop 4096
  let part := ceilDiv rest.length 8
  { size := size, base := base, span := count, total := count, stack := all.take 4096,
    chains := (List.range 8).map (fun c => (rest.drop (c * part)).take part), refills := 0, spills := 0, lostChain := [] }

/-- Build the free lists of all pools (Table 13.3): pointers and canaries of the listed buffers, and the owners of the image. -/
def State.buildPools (s : State) : State :=
  let s1 := s.image.pools.zipIdx.foldl (fun (s : State) (q : (Nat × Nat) × Nat) =>
    let x := freshPool q.2 q.1.1 q.1.2
    x.chains.foldl (fun (s : State) (c : List Nat) => s.linkChain q.2 0 c)
      { s with mem := { s.mem with pools := NMap.put s.mem.pools q.2 x } }) s
  { s1 with mem := { s1.mem with spareFree := s1.image.sparePages, sweepTick := s1.time.now } }

/-- Quotas, floors and age limits of the image stand at the end of Boot (Table 13.7, R299). -/
def State.imageOwners (s : State) : State :=
  s.image.owners.foldl (fun (s : State) (q : Nat × Nat × Nat × Nat) =>
    s.updOwner q.1 (fun o => { o with quota := q.2.1, floor := q.2.2.1, age := q.2.2.2 })) s

/-! ### The commands -/

/-- BUFFER_REQUEST (R294). -/
def execBufferRequest (t : Nat) (o : Origin) (v : Word) (s : State) : Host.Outcome State Fault Refusal :=
  .next ((s.advanceTo t).writePoolReq o v)

/-- BUFFER_FREE (R296). -/
def execBufferFree (t : Nat) (o : Origin) (v : Word) (s : State) : Host.Outcome State Fault Refusal :=
  .next ((s.advanceTo t).writePoolFree o v)

/-- STACK_BATCH_DONE (R297, R298): a batch in flight completes. -/
def execStackBatchDone (t pool : Nat) (refill : Bool) (chain : Nat) (s : State) : Host.Outcome State Fault Refusal :=
  let s1 := s.advanceTo t
  .next <| match NMap.find s1.mem.pools pool with
    | none => s1
    | some x =>
      if refill then
        if x.refills = 0 ∨ (x.chains.getD chain []).isEmpty then s1
        else (((s1.updPool pool (fun x => { x with refills := x.refills - 1 })).refill pool chain).balance pool).serveWaiting
      else if x.spills = 0 then s1
      else (((s1.updPool pool (fun x => { x with spills := x.spills - 1 })).spill pool).balance pool)

/-- CHAIN_REBUILT (R298): every buffer tagged free that had left the store is back in it. -/
def execChainRebuilt (t pool : Nat) (s : State) : Host.Outcome State Fault Refusal :=
  let s1 := s.advanceTo t
  .next <| match NMap.find s1.mem.pools pool with
    | none => s1
    | some x =>
      if x.lostChain.isEmpty then s1
      else
        let s2 := (s1.updPool pool (fun x => { x with lostChain := [] })).ontoChain pool x.shortest x.lostChain
        ((s2.balance pool).record 0x8015 [pool, x.lostChain.length]).serveWaiting

/-- Age bucket of an age in ticks (R301). -/
def ageBucket (a : Nat) : Nat := if a < 2 ^ 30 then 0 else min 15 (Nat.log2 a - 29)

/-- Bucket of an owner's oldest buffer: its tag holds the grant tick above bit 20 (R301). -/
def State.oldestBucket (s : State) (o : Nat) : Nat :=
  ((s.mem.bufs.filter (fun b => b.2.owner == o && b.2.state == 1)).map (fun b =>
    ageBucket (s.time.now - b.2.tick / 2 ^ 20 * 2 ^ 20))).foldl max 0

/-- The sweep of one owner (R301, R302). -/
def State.sweepOwner (o : Nat) (s : State) : State :=
  let b := s.oldestBucket o
  let w := s.owner o
  let aged := decide (w.age ≠ 0 ∧ w.age ≤ b)
  let s1 := s.updOwner o (fun x => { x with oldest := b, aged := aged, held := false })
  if aged then
    let s2 := s1.raise Reg.POOL_STATUS 16
    if w.aged then s2 else s2.record 0x8010 [o, b]
  else s1

/-- LEAK_SWEEP (R301, R302): once per second. -/
def execLeakSweep (t : Nat) (s : State) : Host.Outcome State Fault Refusal :=
  let s1 := s.advanceTo t
  .next <|
    if !s1.mem.ready || decide (s1.time.now < s1.mem.sweepTick + secondTicks) then s1
    else (s1.mem.owners.map (·.1)).foldl (fun (s : State) (o : Nat) => s.sweepOwner o)
      { s1 with mem := { s1.mem with sweepTick := s1.time.now } }

/-- A write of POOL_OQUOTA sets the quota of the owner selected, unless it lies below the floor (R299, R300, R306). -/
def State.writeQuota (o : Origin) (v : Word) (s : State) : State :=
  s.gateWrite o Reg.POOL_OQUOTA v (fun _ s =>
    let w := bits (s.pathReg o Reg.POOL_OSEL) 15 0
    if v.toNat < (s.owner w).floor then s.ignored else s.updOwner w (fun x => { x with quota := v.toNat }))

/-- A write of POOL_OAGE sets the age limit of the owner selected (R306). -/
def State.writeAge (o : Origin) (v : Word) (s : State) : State :=
  s.gateWrite o Reg.POOL_OAGE v (fun _ s =>
    s.updOwner (bits (s.pathReg o Reg.POOL_OSEL) 15 0) (fun x => { x with age := bits v 3 0 }))

/-- QUOTA_WRITE (R299). -/
def execQuotaWrite (t : Nat) (o : Origin) (v : Word) (s : State) : Host.Outcome State Fault Refusal :=
  .next ((s.advanceTo t).writeQuota o v)

/-! ### ECC and scrub (R290 to R293) -/

/-- The carve-out that holds an address: its kind and base (R288). -/
def State.carveOf (s : State) (a : Nat) : Option (Nat × Nat) :=
  (s.image.carve.find? (fun c => decide (c.2.1 ≤ a ∧ a < c.2.1 + c.2.2))).map (fun c => (c.1, c.2.1))

/-- What a poisoned line of a fixed structure does to what it holds (Table 13.5). Kinds: 0 coarse map, 1 generation table, 2 fine
overlay, 3 membership filter, 4 hot cache, 5 SGT; other kinds hold nothing the device itself keeps in lines. -/
def State.structureLost (kind base line : Nat) (s : State) : State :=
  let n := line - base / 64
  match kind with
  | 3 =>
    let here := (List.range 512).map (512 * n + ·)
    ({ s with ddup := { s.ddup with filter := s.ddup.filter ++ here.filter (fun b => !s.ddup.filter.contains b) } }).consumed
      (64 * line) consumerFilter
  | 4 =>
    ({ s with ddup := { s.ddup with cache := s.ddup.cache.filter (fun e => Config.cacheLine e.fp != n) } }).consumed
      (64 * line) consumerCache
  | 5 =>
    ({ s with ddup := { s.ddup with
        lostLines := if s.ddup.lostLines.contains n then s.ddup.lostLines else s.ddup.lostLines ++ [n] } }).consumed (64 * line)
      consumerSgt
  | k =>
    if k < 3 then
      let us := Config.lineUnits k n
      ({ s with path := { s.path with unknown := s.path.unknown ++ us.filter (fun u => !s.path.unknown.contains u) } }).consumed
        (64 * line) consumerMap
    else s

/-- A read buffer lost before delivery: its grain is read again from flash (Table 13.5). -/
def State.readLost (cntl qid cid g : Nat) (s : State) : State :=
  match s.rcmd? cntl qid cid with
  | none => s
  | some c =>
    match s.viewEnt c.vol g with
    | none => s
    | some e =>
      if c.delivered || !NMap.has c.got g || !e.stored then s
      else
        (s.updRcmd cntl qid cid (fun c => { c with left := c.left ++ [g], got := NMap.del c.got g })).startRead cntl qid cid
          (if c.hostData.isSome then 1 else 0) 0 c.vol g e

/-- A fault in the buffer of a grain on the write path, by its stage (Table 4.6, R90): plaintext is read again from the host; a record is
asked back from the partner or made again from the host's data, and the model holds it as it was (log 39). -/
def State.grainLost (seq g : Nat) (s : State) : State :=
  match s.write? seq with
  | none => s
  | some w =>
    match w.grain? g with
    | none => s
    | some x =>
      let drop := fun (y : GrainOp) => { y with plain := [], lane := LaneOut.waiting, ciphered := false }
      if x.kind ≠ 0 ∨ x.sealedAt.isSome then s
      else if w.acc.isNone then (s.record 0x3305 [w.vol, g, 1]).refetch w
      else if x.record.isNone then
        (((s.record 0x3305 [w.vol, g, 2]).useSlack (fun y => y.seq == seq) 0x8002).updWrite seq (fun w => w.updGrain g drop)).refetch w
      else if x.receipt && s.mirrors then
        let s1 := (s.record 0x3306 [w.vol, g]).useSlack (fun y => y.seq == seq) 0x8002
        ({ s1 with path := { s1.path with nextRid := s1.path.nextRid + 1 } }).emit (.repairAsk s1.path.nextRid w.vol g x.check.wgen)
      else ((s.record 0x3305 [w.vol, g, 3]).useSlack (fun y => y.seq == seq) 0x8002).refetch w

/-- The item event 0x8004 records for a page: its carve-out or its pool, for which the spec gives no code (log 11). -/
def State.pagePlace (s : State) (a : Nat) : Nat :=
  match s.carveOf a, s.poolOf a with
  | some (k, _), _ => Config.itemCode 0x8004 k
  | none, some (p, _) => Config.itemCode 0x8004 (64 + p)
  | none, none => Config.itemCode 0x8004 128

/-- A 4 KiB page of HBM is retired (R293). -/
def State.retirePage (a : Nat) (s : State) : State :=
  let g := a / 4096
  let inPage := fun (l : Nat) => l / 64 == g
  if !inHbm a || s.mem.retiredPages.contains g then s
  else if (s.carveOf a).isSome then
    if s.mem.spareFree = 0 then
      (s.raise Reg.POOL_STATUS 0x100).recordOnce 0x8004 g [4096 * g, s.pagePlace a]
    else
      let s1 := match s.carveOf a with
        | some (k, base) => (s.mem.poison.filter inPage).foldl (fun (s : State) (l : Nat) => s.structureLost k base l) s
        | none => s
      (({ s1 with mem := { s1.mem with
          spareFree := s1.mem.spareFree - 1, poison := s1.mem.poison.filter (fun l => !inPage l),
          rewritten := s1.mem.rewritten.filter (fun l => !inPage l), ces := s1.mem.ces.filter (fun c => c.1 / 4096 != g),
          retiredPages := s1.mem.retiredPages ++ [g] } }).raise Reg.POOL_STATUS 0x80).record 0x8004 [4096 * g, s.pagePlace a]
  else
    (({ s with mem := { s.mem with retiredPages := s.mem.retiredPages ++ [g] } }).raise Reg.POOL_STATUS 0x80).record 0x8004
      [4096 * g, s.pagePlace a]

/-- A single-bit error of a word is corrected and counted (R290, R293). -/
def State.corrected (a : Nat) (s : State) : State :=
  let w := a / 8 * 8
  let s1 := (((s.raise Reg.POOL_STATUS 0x20).count (if inSram a then 0 else 1)).recordOnce 0x8001 0 [w])
  let s2 := { s1 with mem := { s1.mem with ces := s1.mem.ces ++ [(w, s1.time.now)] } }
  let recent : List (Nat × Nat) := s2.mem.ces.filter (fun (c : Nat × Nat) => c.1 == w && decide (s2.time.now < c.2 + faultWindowTicks))
  if inHbm a && decide (3 ≤ recent.length) then s2.retirePage a else s2

/-- A line is poisoned (R290, R292, R293). -/
def State.poisonLine (a : Nat) (use : Option BufferUse) (s : State) : State :=
  let l := a / 64
  if s.mem.poison.contains l then s
  else
    let s1 := (({ s with mem := { s.mem with poison := s.mem.poison ++ [l] } }).raise Reg.POOL_STATUS 0x40).count 2
    let s2 := s1.record 0x8002 [64 * l]
    let s3 := match s2.carveOf a with | some (k, base) => s2.structureLost k base l | none => s2
    let s4 := match use with
      | some (.write seq g) => (s3.consumed (64 * l) consumerWrite).grainLost seq g
      | some (.read cntl qid cid g) => (s3.consumed (64 * l) consumerRead).readLost cntl qid cid g
      | none => s3
    if s4.mem.rewritten.contains l then s4.retirePage a else s4

/-- SCRUB_PASS (R290, R291): a word with one error is corrected, with more the line is poisoned. `use` says whose buffer
the line is, where it is one. -/
def execScrubPass (t addr errors : Nat) (use : Option BufferUse) (s : State) : Host.Outcome State Fault Refusal :=
  let s1 := s.advanceTo t
  let filled := (inSram addr && s1.mem.sramDone) || (inHbm addr && s1.mem.hbmDone)
  .next <|
    if !filled || errors = 0 then s1
    else if errors = 1 then s1.corrected addr
    else s1.poisonLine addr use

end Sys2Proof.Machine
end

