-- ==== Sys2Proof/Machine/NvmIo.lean ====
section
/-!
DEFINITION. Doorbells (R197 to R199) and the I/O commands of the host: admission, holding and retry (R55, R68, R69, R72), reads and
compares (R82, R95, R97), Write Zeroes and Dataset Management (R83), Flush (R209).
-/

namespace Sys2Proof.Machine

/-! ### Doorbells -/

/-- The controller whose session a packet came on. -/
def State.ctrlOn (s : State) (session : Nat) : Option Nat :=
  (s.nvq.ctrls.find? (fun p => p.2.session == session)).map (·.1)

/-- An EPOCH is later than the last one applied: the signed 16-bit difference is above 0 (R198). -/
def epochLater (new old : Nat) : Bool :=
  let d := (new + 65536 - old % 65536) % 65536
  decide (1 ≤ d ∧ d < 32768)

/-- An invalid doorbell write (R198): the Error event, counter 9 and event 0x6010. -/
def State.badDoorbell (cntl dqn v : Nat) (s : State) : State :=
  (((s.raise Reg.NVQ_STATUS 1).count 9).record 0x6010 [dqn, v]).notice cntl 0 2 1

/-- The batches in which `n` entries are fetched, of up to `b` entries each (R199). -/
def fetchBatches (b n : Nat) : List Nat := List.replicate (n / b) b ++ (if n % b = 0 then [] else [n % b])

/-- Ask the host for `n` new entries of a queue, in batches (R199); none while its completion queue is full (R204), it is being deleted,
or the mode fetches nothing. What a doorbell brings is asked for at once, so no other queue's entries wait beside it (DESIGN CHOICE,
log 71). -/
def State.fetchFrom (key n : Nat) (s : State) : State :=
  match NMap.find s.nvq.sqs key, NMap.find s.nvq.cqs key with
  | some q, some c =>
    if n = 0 || q.deleting.isSome || !c.held.isEmpty || !s.md.mode.frontEnd then s
    else
      (fetchBatches (2 ^ s.regField Reg.NVQ_CTRL 19 16) n).foldl (fun (s : State) (k : Nat) => s.emit (.fetch q.cntl q.qid k)) s
  | _, _ => s

/-- A new submission tail. -/
def State.sqDoorbell (cntl key epoch v : Nat) (s : State) : State :=
  match NMap.find s.nvq.sqs key with
  | none => s
  | some q =>
    if !epochLater epoch q.epoch then s
    else
      let s1 := s.updSq key (fun q => { q with epoch := epoch })
      if q.size ≤ v then s1.badDoorbell cntl q.dqn v
      else (s1.updSq key (fun q => { q with tail := v })).fetchFrom key ((v + q.size - q.tail) % q.size)

/-- A new completion head: it may not pass the last completion posted. -/
def State.cqDoorbell (cntl key epoch v : Nat) (s : State) : State :=
  match NMap.find s.nvq.cqs key with
  | none => s
  | some q =>
    if !epochLater epoch q.epoch then s
    else
      let s1 := s.updCq key (fun q => { q with epoch := epoch })
      if q.size ≤ v || decide ((q.tail + q.size - q.head) % q.size < (v + q.size - q.head) % q.size) then
        s1.badDoorbell cntl q.dqn v
      else
        let s2 := (s1.updCq key (fun q => { q with head := v })).postHeld key q.held.length
        let stopped := !q.held.isEmpty
        match NMap.find s2.nvq.sqs key with
        | some x => if stopped then s2.fetchFrom key ((x.tail + x.size - x.head) % x.size) else s2
        | none => s2

/-- A 32-bit doorbell write at a byte offset of the doorbell region (R197). -/
def State.doorbell (session offset : Nat) (v : Word) (s : State) : State :=
  match s.ctrlOn session with
  | none => s
  | some cntl =>
    let key := offset / 8
    let owner := match NMap.find s.nvq.cqs key with | some q => q.cntl == cntl | none => false
    if !s.md.mode.frontEnd || s.moor.fenced || !owner || decide (offset % 4 ≠ 0 ∨ 20480 ≤ key) then s
    else if offset % 8 = 0 then s.sqDoorbell cntl key (bits v 31 16) (bits v 15 0)
    else s.cqDoorbell cntl key (bits v 31 16) (bits v 15 0)

/-- DOORBELL_WRITE (R198). -/
def execDoorbellWrite (t session offset : Nat) (v : Word) (s : State) : Host.Outcome State Fault Refusal :=
  .next ((s.advanceTo t).doorbell session offset v)

/-! ### What a fetched command must meet -/

/-- A command fetched from a queue of a controller, in a mode that fetches (Table 2.2). -/
def State.canFetch (s : State) (cntl qid : Nat) : Bool :=
  s.md.mode.frontEnd && !s.moor.fenced && NMap.has s.nvq.ctrls cntl && (s.queueKey cntl qid).isSome

/-- The namespace of a command: served by this head and attached to its controller (R22). -/
def State.nsFor (s : State) (cntl nsid : Nat) : Option Ns :=
  match (if nsid = 0 then none else s.ns? (volOf nsid)) with
  | some n => if n.served && n.attached.contains cntl then some n else none
  | none => none

/-- Status that refuses an I/O command before admission: Preservation (R35), FUSE (R200), transfer length (R202), namespace (R22), LBA
range, write protection (R133, R273), a view that is not readable yet (R131). -/
def State.ioRefusal (s : State) (cntl : Nat) (e : Sqe) : Option (Nat × Nat) :=
  let wr := isWriteOp e.opcode
  if s.md.mode == .preservation && preservationRefuses e.opcode then some (7, 0x82)
  else if e.fuse ≠ 0 then some (0, 0x02)
  else if (e.opcode = opWrite ∨ e.opcode = opRead ∨ e.opcode = opCompare) ∧ 1024 < nlbOf e then some (0, 0x02)
  else match s.nsFor cntl e.nsid with
    | none => some (0, 0x0B)
    | some n =>
      if e.opcode ≠ opDsm ∧ n.units * 16 < slbaOf e + nlbOf e then some (0, 0x80)
      else if wr && (n.ro || n.replica.isSome) then some (0, 0x20)
      else if !wr && !n.readable then some (0, 0x82)
      else none

/-- Status that refuses a write on its stream: no push region, a push past the region, or more grains than rate plus burst (R68, R201,
R212). -/
def State.writeRefusal (s : State) (h : Held) : Option (Nat × Nat) :=
  let r := h.resv.bind (NMap.find s.adm.resv)
  let reg := r.bind s.pushRegion
  if h.cmd.opcode = opWrite && pushOf h.cmd then
    match reg with
    | none => some (0, 0x02)
    | some (_, len) => if len < pofsOf h.cmd * 4096 + 4096 * nlbOf h.cmd then some (7, 0x86) else none
  else none

/-- More grains than rate plus burst as C0h set them (R68). -/
def State.tooLarge (s : State) (h : Held) : Bool :=
  match h.resv.bind (NMap.find s.adm.resv) with
  | some r => decide (r.setRate + r.setBurst < grainCount h)
  | none => false

/-- A fetched command as admission sees it; only a Write belongs to its queue's stream (R59). -/
def State.asHeld (s : State) (cntl qid : Nat) (e : Sqe) (ranges : List (Nat × Nat)) (data : List Byte) : Held :=
  let dqn := (s.queueKey cntl qid).getD 0
  { cntl := cntl, qid := qid, dqn := dqn, cmd := e, ranges := ranges, hostData := data,
    resv := if e.opcode = opWrite then s.resvOf dqn else none, fetch := s.time.now, hold := s.time.now, forCredit := false }

/-! ### Writes -/

/-- What follows an admission: pushed data, zeros and deallocations are accepted in the same tick (R16); other data, and metadata, are
pulled from the host by remote read (R15, R201). -/
def State.startWrite (h : Held) (seq : Nat) (s : State) : State :=
  match s.write? seq with
  | none => s
  | some w =>
    if h.cmd.opcode ≠ opWrite then (s.accept seq [] []).checkWrites
    else if w.pushed && !s.hasPi w then s.accept seq (s.pushedBytes h.resv h.cmd) []
    else
      let n := s.ctrlSession h.cntl
      let s1 := if w.pushed then s else s.remoteRead n h.dqn (.write seq) (dkeyOf h.cmd) (dofsOf h.cmd) (4096 * nlbOf h.cmd)
      if s.hasPi w then s1.remoteRead n h.dqn (.write seq) (mkeyOf h.cmd) (mofsOf h.cmd) (16 * nlbOf h.cmd) else s1

/-! ### Reads -/

/-- Map entries of a read's grains that name stored bytes. -/
def State.readEnts (s : State) (vol : Nat) (gs : List Nat) : List MapEnt :=
  (gs.filterMap (s.viewEnt vol)).filter MapEnt.stored

/-- Book a read's grains in free slots, or none of them. -/
def State.bookReads (s : State) (vol : Nat) (gs : List Nat) : Option (List Booking) :=
  let slot := slotOf s.time.now
  ((s.readEnts vol gs).zipIdx).foldl (fun a x => a.bind (fun bs =>
    (s.bookPageRead false (readSeq (s.path.nextRid + x.2)) slot (slot + ringSlots) x.1 bs).map (·.1))) (some s.adm.bookings)

/-- Start the map lookup and the page read of one grain (point V1): a grain with no stored bytes reads as zeros (R82); a unit whose map
line is lost is asked of the partner (R292). -/
def State.readGrain (h : Held) (g : Nat) (s : State) : State :=
  let vol := volOf h.cmd.nsid
  let use := if h.cmd.opcode = opCompare then 1 else 0
  let lost := s.path.unknown.contains (unitKey vol (g / 4))
  let blank : MapEnt := { kind := 1, wgen := 0, mirror := false, band := 0, offset := 0, plen := 0, sgt := 0, volTag := vol,
                          atick := 0, aseq := 0, seq := 0 }
  if lost then
    let rid := s.path.nextRid
    ((s.startRead h.cntl h.qid h.cmd.cid use 0 vol g ((s.viewEnt vol g).getD blank)).updRead rid
      (fun r => { r with source := 1 })).readFail rid 1
  else
    match s.viewEnt vol g with
    | none => s.giveGrain h.cntl h.qid h.cmd.cid g zeroGrain (tagsAll 0xFFFF) true
    | some e =>
      if e.stored then s.startRead h.cntl h.qid h.cmd.cid use 0 vol g e
      else
        let tags := match s.storedAt e.band e.offset with
          | some x => if e.kind = 2 then x.record.apptag else tagsAll 0xFFFF
          | none => tagsAll 0xFFFF
        s.giveGrain h.cntl h.qid h.cmd.cid g zeroGrain tags (e.kind = 3)

/-- Start a read or compare command (R95); the data of a Compare is pulled now (R15): what it will bring came with the command's row. -/
def State.startRcmd (h : Held) (bs : List Booking) (s : State) : State :=
  let gs := grainsOf (slbaOf h.cmd) (nlbOf h.cmd)
  let c : ReadCmd :=
    { cntl := h.cntl, qid := h.qid, dqn := h.dqn, cmd := h.cmd, vol := volOf h.cmd.nsid, slba := slbaOf h.cmd,
      nlb := nlbOf h.cmd, hostData := if h.cmd.opcode = opCompare then some h.hostData else none, left := gs, got := [],
      tags := [], holes := [], delivered := false, pulled := h.cmd.opcode != opCompare }
  let s1 := { s with
    path := { s.path with rcmds := s.path.rcmds ++ [c] }
    adm := { s.adm with bookings := bs, beReads := s.adm.beReads + gs.length } }
  let s2 := if h.cmd.opcode = opCompare then
      s1.remoteRead (s.ctrlSession h.cntl) h.dqn (.read h.cntl h.qid h.cmd.cid) (dkeyOf h.cmd) (dofsOf h.cmd) (4096 * nlbOf h.cmd)
    else s1
  gs.foldl (fun s g => s.readGrain h g) s2

/-- Reads are held in the modes that hold, and while throttling leaves them no share of the window (R410, Table 2.2). -/
def State.readsStopped (h : Held) (s : State) : Bool :=
  s.md.mode.holds || (s.elec.throttle && decide (12800 < s.adm.beReads + (grainsOf (slbaOf h.cmd) (nlbOf h.cmd)).length))

/-! ### Attempts -/

/-- One attempt to admit a command (R68): nothing where it is held. -/
def State.attempt (h : Held) (s : State) : Hold × State :=
  if isWriteOp h.cmd.opcode then
    let seq := s.adm.nextSeq
    match s.admitWrite h with
    | (.no, s1) => (.no, s1.startWrite h seq)
    | r => r
  else
    let s0 := s.beRefill
    if s0.readsStopped h then (.room, s0)
    else
      match s0.bookReads (volOf h.cmd.nsid) (grainsOf (slbaOf h.cmd) (nlbOf h.cmd)) with
      | none => (.room, s0)
      | some bs => (.no, s0.startRcmd h bs)

/-- The first attempt of a fetched command: refused, admitted or held (R55, R68, R69). -/
def State.submit (h : Held) (s : State) : State :=
  match s.writeRefusal h with
  | some (sct, sc) => s.complete h.cntl h.qid h.cmd.cid sct sc 0 0
  | none =>
    if s.tooLarge h then
      (s.record 0x2102 [resvItem h.resv, grainCount h]).complete h.cntl h.qid h.cmd.cid 7 0x80 0 0
    else if s.streamHeld h then s.hold h .room
    else
      match s.attempt h with
      | (.no, s1) => s1
      | (why, s1) => s1.hold h why

/-- A fetched I/O command that goes to admission. -/
def State.fetchIo (cntl qid : Nat) (e : Sqe) (ranges : List (Nat × Nat)) (data : List Byte) (s : State) : State :=
  if !s.canFetch cntl qid then s
  else
    let s1 := s.fetched cntl qid e
    match s1.ioRefusal cntl e with
    | some (sct, sc) => s1.complete cntl qid e.cid sct sc 0 0
    | none => s1.submit (s1.asHeld cntl qid e ranges data)

/-- NVM_WRITE (R55). -/
def execNvmWrite (t cntl qid : Nat) (e : Sqe) (s : State) : Host.Outcome State Fault Refusal :=
  .next ((s.advanceTo t).fetchIo cntl qid { e with opcode := opWrite } [] [])

/-- NVM_READ (R95). -/
def execNvmRead (t cntl qid : Nat) (e : Sqe) (s : State) : Host.Outcome State Fault Refusal :=
  .next ((s.advanceTo t).fetchIo cntl qid { e with opcode := opRead } [] [])

/-- COMPARE (R97). -/
def execCompare (t cntl qid : Nat) (e : Sqe) (hostData : List Byte) (s : State) : Host.Outcome State Fault Refusal :=
  .next ((s.advanceTo t).fetchIo cntl qid { e with opcode := opCompare } [] hostData)

/-- WRITE_ZEROES (R83): best-effort. -/
def execWriteZeroes (t cntl qid : Nat) (e : Sqe) (s : State) : Host.Outcome State Fault Refusal :=
  .next ((s.advanceTo t).fetchIo cntl qid { e with opcode := opZeroes } [] [])

/-- A range of Dataset Management passes the namespace's end. -/
def State.rangePast (s : State) (nsid : Nat) (ranges : List (Nat × Nat)) : Bool :=
  match s.ns? (volOf nsid) with
  | some n => ranges.any (fun r => decide (n.units * 16 < r.1 + r.2))
  | none => false

/-- DATASET_MANAGEMENT (R83): with the deallocate attribute the whole grains of its ranges; other attributes are ignored (Table 9.5). -/
def execDatasetManagement (t cntl qid : Nat) (e : Sqe) (ranges : List (Nat × Nat)) (s : State) :
    Host.Outcome State Fault Refusal :=
  let s1 := s.advanceTo t
  let d := { e with opcode := opDsm }
  .next <|
    if !s1.canFetch cntl qid then s1
    else if (s1.ioRefusal cntl d).isNone && s1.rangePast e.nsid ranges then
      (s1.fetched cntl qid d).complete cntl qid e.cid 0 0x80 0 0
    else s1.fetchIo cntl qid d (if bit e.dw11 2 then ranges else []) []

/-- FLUSH (R209). -/
def execFlush (t cntl qid : Nat) (e : Sqe) (s : State) : Host.Outcome State Fault Refusal :=
  let s1 := s.advanceTo t
  .next <|
    if !s1.canFetch cntl qid then s1
    else
      let s2 := s1.fetched cntl qid { e with opcode := 0 }
      if e.fuse ≠ 0 then s2.complete cntl qid e.cid 0 0x02 0 0
      else if e.nsid ≠ 0xFFFFFFFF ∧ (s2.nsFor cntl e.nsid).isNone then s2.complete cntl qid e.cid 0 0x0B 0 0
      else s2.settle cntl

/-- INVALID_OPCODE (R207); an admin command in Preservation answers as R35 has it. -/
def execInvalidOpcode (t cntl qid : Nat) (e : Sqe) (s : State) : Host.Outcome State Fault Refusal :=
  let s1 := s.advanceTo t
  .next <|
    if !s1.canFetch cntl qid then s1
    else if qid = 0 && s1.md.mode == .preservation then (s1.fetched cntl qid e).complete cntl qid e.cid 7 0x82 0 0
    else (s1.fetched cntl qid e).complete cntl qid e.cid 0 0x01 0 0

/-! ### Held commands -/

/-- Held commands in retry order (R69): reserved streams first, each class by oldest hold tick. -/
def retryOrder (hs : List Held) : List Held :=
  let by_ := fun (l : List Held) => l.mergeSort (fun a b => decide (a.hold ≤ b.hold))
  by_ (hs.filter (·.resv.isSome)) ++ by_ (hs.filter (·.resv.isNone))

/-- Retry one held command; `stuck` are the streams that a command still held holds back. -/
def State.retryOne (a : List Nat × State) (h : Held) : List Nat × State :=
  let (stuck, s) := a
  let blocked := match h.resv with | some i => stuck.contains i | none => false
  let early := h.forCredit && decide (windowOf s.time.now ≤ h.tried)
  let keep := match h.resv with | some i => i :: stuck | none => stuck
  if blocked then a
  else if early || s.pastLimit h then (keep, s)
  else
    match s.attempt h with
    | (.no, s1) => (stuck, { s1 with adm := { s1.adm with held := s1.adm.held.filter (fun x => x != h) } })
    | (why, s1) =>
      (keep, { s1 with adm := { s1.adm with held := s1.adm.held.map (fun x =>
        if x = h then { x with forCredit := why == .credit, tried := windowOf s.time.now } else x) } })

/-- A running self-test goes on (R213, R214): its percentage is a free value that does not fall (log 70). -/
def State.testMoves (s : State) : State :=
  { s with nvq := { s.nvq with testPercent :=
      if s.nvq.testOp = 0 then 0 else max s.nvq.testPercent (Config.selfTestPercent s.nvq.testStart s.time.now % 101) } }

/-- What a slot boundary brings beside the retries: soft work starts or is booked (R65, R66), erases give way (R158), islands wake (R24),
repaired records are appended (R96), stripes left with what they have are settled (R177), and a self-test goes on. -/
def State.slotBegins (s : State) : State := (s.bookWaiting.suspendDue.wakeDue.placeRewrites).afterSeal.testMoves

/-- HOLD_RETRY (R69): at a slot boundary the held commands are tried again. -/
def execHoldRetry (t : Nat) (s : State) : Host.Outcome State Fault Refusal :=
  let s1 := s.advanceTo t
  .next <|
    if s1.time.now % 8192 ≠ 0 then s1
    else
      let s2 := s1.slotBegins
      ((retryOrder s2.adm.held).foldl State.retryOne ([], s2)).2

/-- Hold limit of the I/O queue that a C0h held in Relay names (R34): the queue's number, and the limit's tick. -/
def State.relayLimit (s : State) (cntl : Nat) (e : Sqe) (fetch : Nat) : Option (Nat × Nat) :=
  match (s.queueKey cntl (c0Qid e)).bind (NMap.find s.nvq.sqs) with
  | some q => if q.holdLimit = 0 || q.qid == 0 then none else some (q.dqn, fetch + q.holdLimit * 8192)
  | none => none

/-- HOLD_LIMIT_EXPIRY (R72, R34). -/
def execHoldLimitExpiry (t cntl qid cid : Nat) (s : State) : Host.Outcome State Fault Refusal :=
  let s1 := s.advanceTo t
  .next <|
    match s1.adm.held.find? (fun h => h.cntl == cntl && h.qid == qid && h.cmd.cid == cid) with
    | some h => if s1.pastLimit h then s1.holdExpire h else s1
    | none =>
      match s1.moor.relayHeld.find? (fun x => x.1 == cntl && x.2.1.cid == cid) with
      | some x =>
        match s1.relayLimit cntl x.2.1 x.2.2 with
        | some (dqn, limit) =>
          if qid = 0 ∧ limit ≤ s1.time.now then
            (({ s1 with moor := { s1.moor with relayHeld := s1.moor.relayHeld.filter (fun y => y != x) } }).record 0x2101
              [resvItem (s1.resvOf dqn), dqn, x.2.2]).complete cntl 0 cid 7 0x81 0 0
          else s1
        | none => s1
      | none => s1

end Sys2Proof.Machine
end

