-- ==== Sys2Proof/Machine/Commit.lean ====
section
/-!
DEFINITION. Regions of this device (R212, R233, R234), and the changes that take effect on both heads at one tick (R62, R131, R208, R272,
R327): what a head judges, what it applies, and how the command that asked for it ends.
-/

namespace Sys2Proof.Machine

/-! ### Regions -/

/-- Bytes per MiB. -/
def mib : Nat := 1048576

/-- A free contiguous range of the push carve-out, 1 MiB-aligned, lowest first (R212). -/
def State.pushRange (s : State) (mibs : Nat) : Option Nat :=
  let len := mibs * mib
  let base := ceilDiv s.image.pushBase mib * mib
  let free := fun (b : Nat) => s.idm.pushUsed.all (fun u => decide (b + len ≤ u.1 ∨ u.1 + u.2 ≤ b))
  ((List.range (s.image.pushSize / mib + 1)).map (fun i => base + i * mib)).find? (fun b =>
    decide (b + len ≤ s.image.pushBase + s.image.pushSize) && free b)

/-- A region index that may be used: never used, or freed IDM_TIMERS.TIMEOUT ago (R234). -/
def State.regionIndex (s : State) : Option Nat :=
  let wait := s.regField Reg.IDM_TIMERS 9 0 * msTicks
  firstFree 1 (min 1048576 (s.idm.regions.length + 1)) (fun i =>
    match NMap.find s.idm.regions i with
    | some r => r.used || decide (s.time.now < r.freed + wait)
    | none => false)

/-- Create a region (R233, R234): its key, 0 where no index is free. A region never used has generation 0 (log 19). -/
def State.newRegion (base len owner : Nat) (rd wr nt ondemand doorbell : Bool) (s : State) : Nat × State :=
  match s.regionIndex with
  | none => (0, s)
  | some i =>
    let gen := match NMap.find s.idm.regions i with | some r => r.gen | none => 0
    let x : Region :=
      { gen := gen, used := true, base := base, len := len, rd := rd, wr := wr, nt := nt, ondemand := ondemand, owner := owner,
        doorbell := doorbell, freed := 0, units := [] }
    (i * 256 + gen, { s with idm := { s.idm with regions := NMap.put s.idm.regions i x } })

/-- Create a push region for a controller's session (R212): its key. -/
def State.newPush (cntl mibs : Nat) (s : State) : Nat × State :=
  match s.pushRange mibs with
  | none => (0, s)
  | some base =>
    let (key, s1) := s.newRegion base (mibs * mib) (s.ctrlSession cntl) false true false false false
    (key, { s1 with idm := { s1.idm with pushUsed := s1.idm.pushUsed ++ [(base, mibs * mib)] } })

/-! ### Reservations -/

/-- A reservation as C0h creates it. -/
def State.freshResv (s : State) (rate burst d : Nat) (pull home : Bool) (dqn cntl : Nat) : Resv :=
  { rate := rate, burst := burst, d := d, pull := pull, dqn := dqn, cntl := cntl, setRate := rate, setBurst := burst,
    cut := false, used := 0, credit := burst, window := windowOf s.time.now, created := s.adm.created, home := home,
    pushKey := 0, pushSz := 0 }

/-- The set with one reservation put in. -/
def State.withResv (s : State) (i : Nat) (r : Resv) : ResvSet := NMap.put s.adm.resv i r

/-- Put a reservation in. -/
def State.putResv (i : Nat) (r : Resv) (s : State) : State :=
  { s with adm := { s.adm with resv := NMap.put s.adm.resv i r, created := s.adm.created + 1 } }

/-- A reservation with changed rate, burst and D: the cut ends, and credit is clipped to the new burst (R73, R74). -/
def Resv.changed (r : Resv) (rate burst d : Nat) : Resv :=
  { r with rate := rate, burst := burst, d := d, setRate := rate, setBurst := burst, cut := false,
           credit := min r.credit burst }

/-! ### Namespaces and snapshots -/

/-- A new namespace (R98, R118, R208). -/
def newNs (lbaf units keyslot : Nat) (home : Bool) : Ns :=
  { lbaf := lbaf, units := units, home := home, taken := false, keyslot := keyslot, cmode := 1, cw := 0, cl := 0, dedup := 0,
    epoch := 0, snaps := [], frozen := [], cloneOf := none, ro := false, readable := true, attached := [], replica := none }

def State.putNs (vol : Nat) (n : Ns) (s : State) : State := { s with nvq := { s.nvq with ns := NMap.put s.nvq.ns vol n } }

/-- Units of all the volumes of the pair (R159). -/
def State.unitsUsed (s : State) : Nat := (s.nvq.ns.map (fun p => p.2.units)).sum

/-- A snapshot of this tick and epoch stands: the map as it is stands frozen, and writes accepted below the tick enter it later (R131). -/
def State.defineSnap (vol id tick epoch next : Nat) (repl : Bool) (s : State) : State :=
  let m := s.volMap vol
  let x : Snap :=
    { tick := tick, epoch := epoch, readable := false, reclaim := false, view := none, repl := repl,
      exclBytes := 0, sharedBytes := 0, exclGrains := 0, sharedGrains := 0, acctTick := s.time.now }
  (s.addRefs m).updNs vol (fun n => { n with epoch := next, snaps := NMap.put n.snaps id x, frozen := NMap.put n.frozen id m })

/-- A snapshot is taken (R131): the epoch rises, and the map stands frozen; earlier writes still in flight enter it later. -/
def State.takeSnap (vol id : Nat) (repl : Bool) (s : State) : State :=
  match s.ns? vol with
  | none => s
  | some n => (s.defineSnap vol id s.time.now (n.epoch + 1) (n.epoch + 1) repl).snapsReady vol

/-- A snapshot is deleted (R134): it leaves the namespace at once, and reclaim follows (log 21). -/
def State.dropSnap (vol id : Nat) (s : State) : State :=
  s.updNs vol (fun n => { n with snaps := NMap.upd n.snaps id (fun x => { x with reclaim := true }) })

/-- Replication snapshots of a volume that no target uses are deleted (R276). -/
def State.dropReplSnaps (vol : Nat) (used : List Nat) (s : State) : State :=
  match s.ns? vol with
  | none => s
  | some n =>
    (n.snaps.filter (fun x => x.2.repl && !x.2.reclaim && !used.contains x.1)).foldl (fun (s : State) (x : Nat × Snap) =>
      s.dropSnap vol x.1) s

/-- The namespace table of a pod: home pair and head of a volume (Table 12.3). -/
def State.tableEntry (vol : Nat) (home : Bool) (s : State) : State :=
  if s.image.podPairs.isEmpty then s
  else
    let d := s.image.podSelf
    { s with repl := { s.repl with nsTable := NMap.put s.repl.nsTable vol (if home then d else d / 2 * 2 + (1 - d % 2)) } }

/-- A clone or a view of a snapshot (R133); one made before the snapshot is readable opens with it (R131). -/
def State.makeClone (vol id newVol : Nat) (ro : Bool) (s : State) : State :=
  match s.ns? vol with
  | none => s
  | some n =>
    let ready := match NMap.find n.snaps id with | some x => x.readable | none => false
    let c := { newNs n.lbaf n.units n.keyslot n.home with
                 taken := n.taken, dedup := n.dedup, ro := ro, cloneOf := some (vol, id), readable := false }
    let s1 := (s.putNs newVol c).refSlot n.keyslot
    let s2 := if ro then s1.updNs vol (fun n => { n with snaps := NMap.upd n.snaps id (fun x => { x with view := some newVol }) })
      else s1
    if ready then s2.openClones vol id else s2

/-- One volume leaves the device: its map, its queue entries, and its key slot's reference. Its snapshots go with it, and their reclaim
follows (R134); a writable clone of one that is not readable yet takes its map as it stands (DESIGN CHOICE, log 49). -/
def State.dropVol (vol : Nat) (s : State) : State :=
  match s.ns? vol with
  | none => s
  | some n =>
    let s0 := n.snaps.foldl (fun (s : State) p => s.openClones vol p.1) s
    let s1 := (n.frozen.filter (fun p => !NMap.has n.snaps p.1)).foldl (fun (s : State) p => s.releaseRefs p.2)
      (s0.releaseRefs (s0.volMap vol))
    let s2 := s1.unrefSlot n.keyslot
    { s2 with
      nvq := { s2.nvq with
        ns := NMap.del s2.nvq.ns vol
        reclaims := s2.nvq.reclaims ++ n.snaps.map (fun p => { vol := vol, id := p.1, map := NMap.getD n.frozen p.1 [] }) }
      path := { s2.path with map := s2.path.map.filter (fun p => p.1 / 2 ^ 34 != vol), mapChanged := true }
      ddup := { s2.ddup with ppq := s2.ddup.ppq.filter (fun e => e.vol != vol) } }

/-- A volume is deleted with its snapshots and its read-only views; its writable clones stay (R134). -/
def State.deleteVol (vol : Nat) (s : State) : State :=
  let views := s.nvq.ns.filter (fun p => p.2.ro && (match p.2.cloneOf with | some (v, _) => v == vol | none => false))
  views.foldl (fun s p => s.dropVol p.1) (s.dropVol vol)

/-! ### Links -/

/-- A target as it is added: a synchronous one starts in sync, an asynchronous one idle (R272, R276). -/
def freshTarget (d : LinkDesc) (sync : Bool) : Target :=
  { desc := d, state := if sync then 0 else 3, setSeq := 0, base := none, cur := none, from_ := 0, fseq := 0, flight := [],
    commitSeq := 0, marked := [], lastCommit := 0, lastTry := none }

/-! ### Applying a change -/

/-- Apply a change at this head; `home` where this head is the one whose command asked for it. Answers completion dwords 0 and 1. -/
def State.applyChange (c : PairChange) (home : Bool) (dqn cntl pushSz : Nat) (s : State) : (Nat × Nat) × State :=
  match c with
  | .resvCreate i rate burst d pull =>
    let (key, s1) := if home && !pull then s.newPush cntl pushSz else (0, s)
    let r := { s1.freshResv rate burst d pull home (if home then dqn else 0) cntl with
                 pushKey := key, pushSz := if pull then 0 else pushSz }
    let s2 := s1.putResv i r
    ((i, key), if home then s2.record 0x2000 [i, dqn, rate, burst, d, b2n pull] else s2)
  | .resvChange i rate burst d =>
    let s1 := s.updResv i (fun r => r.changed rate burst d)
    ((0, 0), if home then s1.record 0x2001 [i, dqn, rate, burst, d] else s1)
  | .resvCut i rate burst => ((0, 0), s.takeCut i rate burst)
  | .resvDelete i => ((0, 0), if home then s.dropResv i else { s with adm := { s.adm with resv := NMap.del s.adm.resv i } })
  | .nsCreate vol lbaf units ks yours =>
    ((vol + 1, 0), if NMap.has s.nvq.ns vol then s else (s.putNs vol (newNs lbaf units ks (home || yours))).refSlot ks |>.tableEntry vol home)
  | .nsDelete vol =>
    let s1 := s.deleteVol vol
    ((0, 0), { s1 with repl := { s1.repl with nsTable := NMap.del s1.repl.nsTable vol } })
  | .snapCreate vol id =>
    let s1 := s.takeSnap vol id false
    ((id, 0), if home then s1.record 0x5400 [vol, id, s1.time.now] else s1)
  | .snapDelete vol id =>
    let s1 := s.dropSnap vol id
    ((0, 0), if home then s1.record 0x5401 [vol, id] else s1)
  | .snapClone vol id nv ro =>
    let s1 := s.makeClone vol id nv ro
    ((nv + 1, 0), if home then s1.record 0x5402 [vol, id, nv, b2n ro] else s1)
  | .linkCreate i vol mode interval d =>
    let l : Link := { vol := vol, sync := mode == 1, interval := interval, home := home, setSeq := 0, lastTick := s.time.now, cmd := none,
                      targets := [(0, freshTarget d (mode == 1))] }
    let s1 := { s with repl := { s.repl with links := NMap.put s.repl.links i l } }
    ((0, 0), if home then s1.record 0x6300 [i, mode] else s1)
  | .linkDelete i =>
    let mode := match NMap.find s.repl.links i with | some l => b2n l.sync | none => 0
    let s1 := { s with repl := { s.repl with links := NMap.del s.repl.links i } }
    let s2 := match NMap.find s.repl.links i with
      | some l => s1.dropReplSnaps l.vol []
      | none => s1
    ((0, 0), if home then s2.record 0x6300 [i, mode] else s2)
  | .targetAdd i d =>
    match NMap.find s.repl.links i with
    | none => ((0, 0), s)
    | some l =>
      let j := (firstFree 0 4 (fun j => NMap.has l.targets j)).getD 0
      ((j, 0), s.updLink i (fun l =>
        { l with targets := NMap.put l.targets j (freshTarget d l.sync) }))
  | .targetRemove i j => ((0, 0), s.updLink i (fun l => { l with targets := NMap.del l.targets j }))
  | .keyLoad slot owner k1 k2 =>
    let x : Slot := { gcm := false, owner := owner, refs := 0, key1 := k1, key2 := k2, ctr := 0, limit := 0, due := false,
                      exhausted := false }
    ((0, 0), { s with ciph := { s.ciph with
      slots := NMap.put s.ciph.slots slot x, wrapped := NMap.put s.ciph.wrapped slot (owner, k1, k2) } })
  | .keyClear slot =>
    ((0, 0), { s with ciph := { s.ciph with slots := NMap.del s.ciph.slots slot, wrapped := NMap.del s.ciph.wrapped slot } })
  | .dedupPolicy vol mode =>
    let s1 := s.updNs vol (fun n => { n with dedup := mode })
    let s2 := if mode = 0 then { s1 with ddup := { s1.ddup with ppq := s1.ddup.ppq.filter (fun e => e.vol != vol) } } else s1
    ((0, 0), if home then s2.record 0x5100 [vol, mode] else s2)
  | .compPolicy vol mode w l =>
    let s1 := s.updNs vol (fun n => { n with cmode := mode, cw := w, cl := l })
    ((0, 0), if home then s1.record 0x5001 [vol, mode, w, l] else s1)
  | .snapDef vol id tick epoch next repl => ((0, 0), if NMap.has s.nvq.ns vol then s.defineSnap vol id tick epoch next repl else s)

/-! ### Judging a change -/

/-- D_min with and without an inline home volume: inline would make some D fall below it (R119). -/
def State.inlineFits (s : State) : Bool :=
  s.adm.resv.all (fun p =>
    match s.dMinOf 41140 s.cRes s.adm.resv p.2.pull with | some d => decide (d ≤ p.2.d) | none => false)

/-- The partner's code for a change (0 where it agrees): the mirror image must fit (R62), the units must fit MAP_UNITS (R208), the
slot must hold the key, and inline must leave every D at or above D_min (R119). -/
def State.judge (s : State) (c : PairChange) : Nat :=
  match c with
  | .resvCreate i rate burst d pull => fitCode s.fitArgs (s.withResv i (s.freshResv rate burst d pull false 0 0))
  | .resvChange i rate burst d =>
    match NMap.find s.adm.resv i with
    | some r => fitCode s.fitArgs (s.withResv i (r.changed rate burst d))
    | none => 0
  | .nsCreate _ _ units _ _ => if s.mapUnits < s.unitsUsed + units then 0x15 else 0
  | .dedupPolicy _ mode => if mode = 2 && !s.inlineFits then 0x04 else 0
  | .resvCut _ _ _ | .resvDelete _ | .nsDelete _ | .snapCreate _ _ | .snapDelete _ _ | .snapClone _ _ _ _ | .linkCreate _ _ _ _ _
  | .linkDelete _ | .targetAdd _ _ | .targetRemove _ _ | .keyLoad _ _ _ _ | .keyClear _ | .compPolicy _ _ _ _ | .snapDef _ _ _ _ _ _ => 0

/-- The change as the partner sees it: reservation and link numbers of the other set (R60, R272). -/
def mirrorChange : PairChange → PairChange
  | .resvCreate i rate burst d pull => .resvCreate (partnerIndex i) rate burst d pull
  | .resvChange i rate burst d => .resvChange (partnerIndex i) rate burst d
  | .resvCut i rate burst => .resvCut (partnerIndex i) rate burst
  | .resvDelete i => .resvDelete (partnerIndex i)
  | .linkCreate i vol mode interval d => .linkCreate (if i < 64 then i + 64 else i - 64) vol mode interval d
  | .linkDelete i => .linkDelete (if i < 64 then i + 64 else i - 64)
  | .targetAdd i d => .targetAdd (if i < 64 then i + 64 else i - 64) d
  | .targetRemove i j => .targetRemove (if i < 64 then i + 64 else i - 64) j
  | .nsCreate v l u k y => .nsCreate v l u k y
  | .nsDelete v => .nsDelete v
  | .snapCreate v i => .snapCreate v i
  | .snapDelete v i => .snapDelete v i
  | .snapClone v i n r => .snapClone v i n r
  | .keyLoad n o a b => .keyLoad n o a b
  | .keyClear n => .keyClear n
  | .dedupPolicy v m => .dedupPolicy v m
  | .compPolicy v m w l => .compPolicy v m w l
  | .snapDef v i t e n r => .snapDef v i t e n r

/-! ### How the command ends -/

/-- The key command ends (R334): BUSY falls, the result stands, and the staged bytes are zeroed (R333). -/
def State.endKey (slot op result : Nat) (s : State) : State :=
  let s1 := ({ s with ciph := { s.ciph with busy := false, result := result } }).zeroKeys
  (if result = 0 then s1 else s1.raise Reg.CIPH_STATUS 0x80).record 0x9004 [slot, op, result]

/-- A change that both heads agreed to has been applied: the command completes (R62, Table 9.4). -/
def State.endAgreed (c : PairChange) (cntl : Nat) (e : Sqe) (dws : Nat × Nat) (s : State) : State :=
  match c with
  | .keyLoad slot _ _ _ => s.endKey slot 1 0
  | .keyClear slot => s.endKey slot 3 0
  | .dedupPolicy _ _ | .resvCreate _ _ _ _ _ | .resvChange _ _ _ _ | .resvCut _ _ _ | .resvDelete _ | .nsCreate _ _ _ _ _ | .nsDelete _
  | .snapCreate _ _ | .snapDelete _ _ | .snapClone _ _ _ _ | .linkCreate _ _ _ _ _ | .linkDelete _ | .targetAdd _ _
  | .targetRemove _ _ | .compPolicy _ _ _ _ | .snapDef _ _ _ _ _ _ =>
    s.complete cntl 0 e.cid 0 0 dws.1 dws.2

/-- A change that a head refused, by its code; 0x08 is a partner that did not answer in 10 ms (R62, R136, R208, R285, R334). -/
def State.endRefused (c : PairChange) (cntl : Nat) (e : Sqe) (code : Nat) (s : State) : State :=
  let dqn := (s.queueKey cntl (c0Qid e)).getD 0
  match c with
  | .resvCreate _ _ _ _ _ | .resvChange _ _ _ _ | .resvCut _ _ _ | .resvDelete _ =>
    (s.record 0x2003 [code, dqn]).complete cntl 0 e.cid 7 0x80 code 0
  | .nsCreate vol _ _ _ _ | .nsDelete vol =>
    (if code = 8 then s.record 0x6005 [vol + 1] else s).complete cntl 0 e.cid 1 0x15 0 0
  | .snapCreate vol _ | .snapDelete vol _ | .snapClone vol _ _ _ | .snapDef vol _ _ _ _ _ =>
    (s.record 0x5404 [vol, 7]).complete cntl 0 e.cid 0 0x02 7 0
  | .linkCreate _ _ _ _ _ | .linkDelete _ | .targetAdd _ _ | .targetRemove _ _ =>
    if code = 7 then s.complete cntl 0 e.cid 7 0x80 7 0 else (s.record 0x6304 [code]).complete cntl 0 e.cid 0 0x02 code 0
  | .dedupPolicy _ _ | .compPolicy _ _ _ _ => s.complete cntl 0 e.cid 7 0x80 code 0
  | .keyLoad slot _ _ _ => s.endKey slot 1 7
  | .keyClear slot => s.endKey slot 3 7

/-- Apply a change here and complete its command. -/
def State.settleChange (c : PairChange) (cntl : Nat) (e : Sqe) (s : State) : State :=
  let dqn := match c with
    | .resvChange i _ _ _ => (match NMap.find s.adm.resv i with | some r => r.dqn | none => 0)
    | _ => (s.queueKey cntl (c0Qid e)).getD 0
  let (dws, s1) := s.applyChange c true dqn cntl (c0PushSz e)
  s1.endAgreed c cntl e dws

/-- A change this head agrees to: with a partner it asks; without one it applies the change and keeps it for the partner's return
(R62, R265). -/
def State.propose (c : PairChange) (cntl : Nat) (e : Sqe) (s : State) : State :=
  if s.mirrors then
    let k : Commit := { token := s.moor.token + 1, change := c, tick := s.time.now, cntl := cntl, cmd := e }
    ({ s with moor := { s.moor with commits := s.moor.commits ++ [k], token := s.moor.token + 1 } }).emit
      (.commit (s.moor.token + 1) (mirrorChange c))
  else
    ({ s with moor := { s.moor with changes := s.moor.changes ++ [mirrorChange c] } }).settleChange c cntl e

/-- A change of the change list at the returning head (R265, R267): reservations 0 to 255 and links 0 to 63 are its own. -/
def State.applyReturned (c : PairChange) (s : State) : State :=
  let s1 := (s.applyChange c false 0 0 0).2
  match c with
  | .resvCreate i _ _ _ _ => s1.updResv i (fun r => { r with home := decide (i < 256) })
  | .linkCreate i _ _ _ _ => s1.updLink i (fun l => { l with home := decide (i < 64) })
  | _ => s1

/-- A change that needs no answer goes to the partner, or into the change list: a snapshot of the device's own (R131, R265), and a
compression policy, which is stored with the namespace (R98). -/
def State.tellPartner (c : PairChange) (s : State) : State :=
  if s.mirrors then s.emit (.commit 0 c) else s.updMoor (fun m => { m with changes := m.changes ++ [c] })

/-! ### The commands -/

/-- Take back at the partner a change that it applied and that does not stand (R62). -/
def State.undo (c : PairChange) (s : State) : State :=
  match c with
  | .resvCreate i _ _ _ _ => s.emit (.commit 0 (.resvDelete (partnerIndex i)))
  | .resvChange i _ _ _ =>
    match NMap.find s.adm.resv i with
    | some r => s.emit (.commit 0 (.resvChange (partnerIndex i) r.rate r.burst r.d))
    | none => s
  | _ => s

/-- This head's own conditions when the answer comes, with the changes that took effect since the request (R62). -/
def State.judgeAgain (s : State) (c : PairChange) : Nat :=
  match c with
  | .resvCreate i rate burst d pull => fitCode s.fitArgs (s.withResv i (s.freshResv rate burst d pull true 0 0))
  | .resvChange i rate burst d =>
    match NMap.find s.adm.resv i with
    | some r => fitCode s.fitArgs (s.withResv i (r.changed rate burst d))
    | none => 0
  | _ => 0

/-- PAIR_COMMIT_REQUEST (R62): the partner asks; this head answers, and applies at once what it agrees to. Token 0 is a cut or a
deletion, which needs no answer (R73), or in Join an entry of the
survivor's change list (R267). -/
def execPairCommitRequest (t token : Nat) (c : PairChange) (s : State) : Host.Outcome State Fault Refusal :=
  let s1 := s.advanceTo t
  .next <|
    if token = 0 && s1.md.mode == .join then s1.applyReturned c
    else if !s1.mirrors then s1
    else if token = 0 then (s1.applyChange c false 0 0 0).2
    else
      let code := s1.judge c
      (if code = 0 then (s1.applyChange c false 0 0 0).2 else s1).emit (.commitAnswer token code)

/-- PAIR_COMMIT_ANSWER (R62). -/
def execPairCommitAnswer (t token code : Nat) (s : State) : Host.Outcome State Fault Refusal :=
  let s1 := s.advanceTo t
  .next <| match s1.moor.commits.find? (fun k => k.token == token) with
    | none => s1
    | some k =>
      let s2 := { s1 with moor := { s1.moor with commits := s1.moor.commits.filter (fun x => x.token != token) } }
      if code = 0 then
        if s2.judgeAgain k.change = 0 then s2.settleChange k.change k.cntl k.cmd
        else (s2.undo k.change).endRefused k.change k.cntl k.cmd (s2.judgeAgain k.change)
      else s2.endRefused k.change k.cntl k.cmd code

/-- PAIR_COMMIT_TIMEOUT (R62): 10 ms after the request. -/
def execPairCommitTimeout (t token : Nat) (s : State) : Host.Outcome State Fault Refusal :=
  let s1 := s.advanceTo t
  .next <| match s1.moor.commits.find? (fun k => k.token == token) with
    | none => s1
    | some k =>
      if s1.time.now < k.tick + 10 * msTicks then s1
      else
        (({ s1 with moor := { s1.moor with
          commits := s1.moor.commits.filter (fun x => x.token != token) } }).undo k.change).endRefused k.change k.cntl k.cmd 8

end Sys2Proof.Machine
end

