-- ==== Sys2Proof/Machine/Reserve.lean ====
section
/-!
DEFINITION. What every admin command meets first (R35, R200), and C0h Set Reservation (R34, R60, R62, R211, R212, R418).
-/

namespace Sys2Proof.Machine

/-! ### Admin commands -/

/-- An admin command is fetched (R199). `always` marks the commands Preservation serves; the others end with 82h there (R35). A fused
command fails (R200); else it runs. -/
def State.admin (cntl : Nat) (e : Sqe) (always : Bool) (run : State → State) (s : State) : State :=
  if !s.canFetch cntl 0 then s
  else
    let s1 := s.fetched cntl 0 e
    if s1.md.mode == .preservation && !always then s1.completeAdmin cntl e 7 0x82 0
    else if e.fuse ≠ 0 then s1.completeAdmin cntl e 0 0x02 0
    else run s1

/-- Invalid Field in Command (R211). -/
def State.invalidField (cntl : Nat) (e : Sqe) (s : State) : State := s.completeAdmin cntl e 0 0x02 0

/-- Write a command's data to the buffer its dwords 6 to 8 name (R201). -/
def State.adminData (cntl : Nat) (e : Sqe) (bytes : List Byte) (s : State) : State :=
  s.toHost cntl 0 .none (dkeyOf e) (dofsOf e) bytes

/-! ### C0h Set Reservation -/

/-- Refuse a C0h with a code of Table 3.4 (R62). -/
def State.refuseC0h (cntl : Nat) (e : Sqe) (dqn code : Nat) (s : State) : State :=
  (s.record 0x2003 [code, dqn]).completeAdmin cntl e 7 0x80 code

/-- RATE and D lie in their ranges; BURST fills its field (Table 3.2). -/
def c0Ranges (e : Sqe) : Bool :=
  decide (1 ≤ c0Rate e ∧ c0Rate e ≤ 12800 ∧ 64 ≤ c0D e ∧ c0D e ≤ 8191)

/-- PUSHSZ lies in its range (Table 9.7). -/
def c0PushOk (e : Sqe) : Bool := decide (1 ≤ c0PushSz e ∧ c0PushSz e ≤ 256)

/-- Indices a create may not take: defined, or asked for in a commit that is under way. -/
def State.indexTaken (s : State) (i : Nat) : Bool :=
  NMap.has s.adm.resv i || s.moor.commits.any (fun k => match k.change with
    | .resvCreate j _ _ _ _ => j == i
    | _ => false)

/-- The set a controller's create takes its index from begins here (R60). -/
def State.indexBase (s : State) (cntl : Nat) : Nat :=
  match NMap.find s.nvq.ctrls cntl with | some c => if c.partnerAddr then 256 else 0 | none => 0

/-- A queue whose reservation is defined, or being created. -/
def State.queueTaken (s : State) (cntl qid dqn : Nat) : Bool :=
  (s.resvOf dqn).isSome || s.moor.commits.any (fun k => match k.change with
    | .resvCreate _ _ _ _ _ => k.cntl == cntl && c0Qid k.cmd == qid
    | _ => false)

/-- C0h create (R60, R62, R212): this head's conditions in the order of Table 3.4, then the partner's. Which free index of its set a create
takes the spec does not say: the lowest (DESIGN CHOICE, log 62). -/
def State.createResv (cntl : Nat) (e : Sqe) (s : State) : State :=
  match (if c0Qid e = 0 then none else s.queueKey cntl (c0Qid e)) with
  | none => s.invalidField cntl e
  | some dqn =>
    if s.queueTaken cntl (c0Qid e) dqn || !c0Ranges e || (!c0Pull e && !c0PushOk e) then s.invalidField cntl e
    else
      let index := firstFree (s.indexBase cntl) 256 s.indexTaken
      let r := s.freshResv (c0Rate e) (c0Burst e) (c0D e) (c0Pull e) true dqn cntl
      let code := fitCode s.fitArgs (s.withResv (index.getD 512) r)
      match index with
      | none => s.refuseC0h cntl e dqn (if 1 ≤ code ∧ code ≤ 5 then code else 6)
      | some i =>
        if code ≠ 0 then s.refuseC0h cntl e dqn code
        else if !c0Pull e && (s.pushRange (c0PushSz e)).isNone then s.refuseC0h cntl e dqn 9
        else s.propose (.resvCreate i (c0Rate e) (c0Burst e) (c0D e) (c0Pull e)) cntl e

/-- C0h change (R62, R211). -/
def State.changeResv (cntl : Nat) (e : Sqe) (s : State) : State :=
  match (s.queueKey cntl (c0Qid e)).bind s.resvOf with
  | none => s.invalidField cntl e
  | some i =>
    match NMap.find s.adm.resv i with
    | none => s.invalidField cntl e
    | some r =>
      if !c0Ranges e then s.invalidField cntl e
      else
        let code := fitCode s.fitArgs (s.withResv i (r.changed (c0Rate e) (c0Burst e) (c0D e)))
        if code ≠ 0 then s.refuseC0h cntl e r.dqn code
        else s.propose (.resvChange i (c0Rate e) (c0Burst e) (c0D e)) cntl e

/-- C0h delete (R211); a deletion needs no partner's consent. -/
def State.deleteResv (cntl : Nat) (e : Sqe) (s : State) : State :=
  match (s.queueKey cntl (c0Qid e)).bind s.resvOf with
  | none => s.invalidField cntl e
  | some i => (s.dropResv i).completeAdmin cntl e 0 0 0

/-- The 16 bytes of the query, and of an entry of log C0h (Table 9.7). -/
def resvBytes (r : Resv) : List Byte :=
  leBytes 2 r.rate ++ leBytes 2 r.burst ++ leBytes 2 r.d ++ leBytes 2 (b2n r.cut + 2 * b2n r.pull) ++ leBytes 2 r.used
    ++ leBytes 2 r.credit ++ leBytes 2 r.dqn ++ leBytes 2 0

/-- USED and CREDIT as they stand in the present window (R67). -/
def State.resvNow (s : State) (r : Resv) : Resv := if r.window = windowOf s.time.now then r else r.refill (windowOf s.time.now)

/-- C0h query (R211). -/
def State.queryResv (cntl : Nat) (e : Sqe) (s : State) : State :=
  match ((s.queueKey cntl (c0Qid e)).bind s.resvOf).bind (NMap.find s.adm.resv) with
  | none => s.invalidField cntl e
  | some r => (s.adminData cntl e (resvBytes (s.resvNow r))).completeAdmin cntl e 0 0 0

/-- An unbound reservation of this head (R418). -/
def State.unbound (s : State) (i : Nat) : Option Resv :=
  match NMap.find s.adm.resv i with
  | some r => if r.home && r.dqn == 0 then some r else none
  | none => none

/-- C0h with REBIND and ACTION 0 (R418): the reservation is bound, and for push delivery a push region is made (R212). -/
def State.rebindResv (cntl : Nat) (e : Sqe) (s : State) : State :=
  match (if c0Qid e = 0 then none else s.queueKey cntl (c0Qid e)), s.unbound (c0Index e) with
  | some dqn, some r =>
    if s.queueTaken cntl (c0Qid e) dqn || (!r.pull && !c0PushOk e) then s.invalidField cntl e
    else if !r.pull && (s.pushRange (c0PushSz e)).isNone then s.refuseC0h cntl e dqn 9
    else
      let (key, s1) := if r.pull then (0, s) else s.newPush cntl (c0PushSz e)
      let r1 := { r with dqn := dqn, cntl := cntl, pushKey := key, pushSz := if r.pull then 0 else c0PushSz e }
      let s2 := { s1 with adm := { s1.adm with resv := NMap.put s1.adm.resv (c0Index e) r1 } }
      (s2.record 0x2001 [c0Index e, dqn, r.rate, r.burst, r.d]).complete cntl 0 e.cid 0 0 (c0Index e) key
  | _, _ => s.invalidField cntl e

/-- C0h with REBIND and ACTION 2 (R418). -/
def State.deleteUnbound (cntl : Nat) (e : Sqe) (s : State) : State :=
  match s.unbound (c0Index e) with
  | some _ => (s.dropResv (c0Index e)).completeAdmin cntl e 0 0 0
  | none => s.invalidField cntl e

/-- Run a C0h command (Table 9.7). -/
def State.runC0h (cntl : Nat) (e : Sqe) (s : State) : State :=
  if e.nsid ≠ 0 then s.invalidField cntl e
  else if c0Rebind e then
    (match c0Action e with
     | 0 => s.rebindResv cntl e
     | 2 => s.deleteUnbound cntl e
     | _ => s.invalidField cntl e)
  else if e.dw14 ≠ 0 then s.invalidField cntl e
  else
    match c0Action e with
    | 0 => s.createResv cntl e
    | 1 => s.changeResv cntl e
    | 2 => s.deleteResv cntl e
    | _ => s.queryResv cntl e

/-- A C0h is fetched: in Relay it waits (R34). -/
def State.c0h (cntl : Nat) (e : Sqe) (s : State) : State :=
  s.admin cntl e false (fun s1 =>
    if s1.md.mode = .relay then
      { s1 with moor := { s1.moor with relayHeld := s1.moor.relayHeld ++ [(cntl, e, s1.time.now)] } }
    else s1.runC0h cntl e)

/-- Relay has ended: the C0h commands that waited run in the order they came (R34). -/
def State.runRelayHeld (s : State) : State :=
  s.moor.relayHeld.foldl (fun s x => s.runC0h x.1 x.2.1) { s with moor := { s.moor with relayHeld := [] } }

/-- An entry with an ACTION set in dword 10. -/
def withAction (a : Nat) (e : Sqe) : Sqe := { e with opcode := 0xC0, dw10 := (e.dw10 &&& ~~~(3#32)) ||| BitVec.ofNat 32 a }

/-- The same with REBIND set. -/
def withRebind (a : Nat) (e : Sqe) : Sqe := { withAction a e with dw14 := e.dw14 ||| 0x8000 }

/-- RESERVATION_CREATE (R62). -/
def execReservationCreate (t cntl : Nat) (e : Sqe) (s : State) : Host.Outcome State Fault Refusal :=
  .next ((s.advanceTo t).c0h cntl (withAction 0 e))

/-- RESERVATION_CHANGE (R62). -/
def execReservationChange (t cntl : Nat) (e : Sqe) (s : State) : Host.Outcome State Fault Refusal :=
  .next ((s.advanceTo t).c0h cntl (withAction 1 e))

/-- RESERVATION_DELETE (R211). -/
def execReservationDelete (t cntl : Nat) (e : Sqe) (s : State) : Host.Outcome State Fault Refusal :=
  .next ((s.advanceTo t).c0h cntl (withAction 2 e))

/-- RESERVATION_QUERY (R211). -/
def execReservationQuery (t cntl : Nat) (e : Sqe) (s : State) : Host.Outcome State Fault Refusal :=
  .next ((s.advanceTo t).c0h cntl (withAction 3 e))

/-- RESERVATION_REBIND (R418). -/
def execReservationRebind (t cntl : Nat) (e : Sqe) (s : State) : Host.Outcome State Fault Refusal :=
  .next ((s.advanceTo t).c0h cntl (withRebind 0 e))

/-- REBIND_DELETE (R418). -/
def execRebindDelete (t cntl : Nat) (e : Sqe) (s : State) : Host.Outcome State Fault Refusal :=
  .next ((s.advanceTo t).c0h cntl (withRebind 2 e))

end Sys2Proof.Machine
end

