-- ==== Sys2Proof/Machine/Transport.lean ====
section
/-!
DEFINITION. Operations and their ends (R232, R237 to R240), chains, sealing on the way out (R241, R243, R323), and the end of a session
(R206, R225, R226).
-/

namespace Sys2Proof.Machine

/-! ### Transport queues (R237, R238) -/

/-- Key of a transport queue: its session and QUEUE (R223). -/
def queueOf (session queue : Nat) : Nat := session * 16384 + queue % 16384

def State.tqueue (s : State) (key : Nat) : TQueue := NMap.getD s.idm.queues key {}

def State.updQueue (key : Nat) (f : TQueue → TQueue) (s : State) : State :=
  { s with idm := { s.idm with queues := NMap.put s.idm.queues key (f (s.tqueue key)) } }

/-- A completion on a queue: CC rises by 1, whatever the status (R237). -/
def State.bump (key code : Nat) (s : State) : State :=
  s.updQueue key (fun q =>
    let c := (q.cc + 1) % 2 ^ 32
    { q with cc := c, errors := if code = 0 then q.errors else q.errors ++ [c] })

/-- Host status of an operation that ended with a code of Table 10.9; a command whose session is gone ends by R206 (log 24). -/
def hostStatus (code : Nat) : Nat × Nat :=
  if code = 0 then (0, 0)
  else if code ≤ 3 then (7, 0x86)
  else if code = 0x14 then (7, 0x85)
  else if code = 0x11 then (7, 0x87)
  else (0, 0x06)

/-- What waits for an operation learns its end: the data of a write, or the delivery of a read (R201, Tables 4.6 and 10.9). -/
def State.endOwner (owner : OpOwner) (code : Nat) (s : State) : State :=
  match owner with
  | .write seq =>
    match s.write? seq with
    | some w =>
      if code = 0 || (w.acc.isSome && !w.wantsData) then s
      else
        let s1 := if w.acc.isSome then (w.grains.filter (fun x => x.formed && x.plain.isEmpty && !x.ciphered)).foldl
            (fun (s : State) (x : GrainOp) => s.record 0x3306 [w.vol, x.grain]) s else s
        s1.endWrite w (hostStatus code).1 (hostStatus code).2 0
    | none => s
  | .read cntl qid cid =>
    match s.rcmd? cntl qid cid with
    | some c =>
      if code = 0 && !c.pulled then
        let s1 := s.updRcmd cntl qid cid (fun c => { c with pulled := true })
        if c.left.isEmpty then s1.finishRead { c with pulled := true } else s1
      else if code = 0x10 then s.endRcmd c 0 0 else s.endRcmd c (hostStatus code).1 (hostStatus code).2
    | none => s
  | _ => s

/-- Take packets that have not been sent out of line: the ones behind them take their numbers (R232). -/
def State.dropUnsent (n : Nat) (gone : List Nat) (s : State) : State :=
  s.updSession n (fun x =>
    let old := x.sendq.map (·.psn)
    let keep := x.sendq.filter (fun p => !gone.contains p.psn)
    let base := match old with | p :: _ => p | [] => x.nextPsn
    let kept := keep.map (·.psn)
    let num := fun (p : Nat) => (base + kept.idxOf p) % 2 ^ 32
    let move := fun (p : Nat) => if old.contains p then (if kept.contains p then some (num p) else none) else some p
    { x with
      sendq := keep.map (fun p => { p with psn := num p.psn })
      nextPsn := (base + keep.length) % 2 ^ 32
      ops := x.ops.map (fun (o : Op) => { o with psns := o.psns.filterMap move })
      rekeyPsn := x.rekeyPsn.bind move })

/-- A copy of a group write ends; with the last one the write completes (R240). -/
def State.groupDone (tag code : Nat) (s : State) : State :=
  let gid := tag / 4
  match NMap.find s.idm.groupOps gid with
  | none => s
  | some g =>
    let g1 := { g with waiting := g.waiting.filter (· != tag % 4),
                       reached := if code = 0 then g.reached ++ [tag % 4] else g.reached }
    if !g1.waiting.isEmpty then { s with idm := { s.idm with groupOps := NMap.put s.idm.groupOps gid g1 } }
    else
      let s1 := { s with idm := { s.idm with groupOps := NMap.del s.idm.groupOps gid } }
      if g1.reached.length = g1.targets then s1.bump g.queue 0
      else ((s1.raise Reg.IDM_STATUS 0x40).record 0x6120 [g.group, maskOf g1.reached]).bump g.queue 0x11

/-- End an operation with a status (R232): it leaves its session, its unsent packets are dropped, its queue's CC rises. -/
def State.endOp (n : Nat) (op : Op) (code : Nat) (s : State) : State :=
  let s1 := (s.updSession n (fun x => { x with ops := x.ops.filter (fun o => o.xid != op.xid || o.queue != op.queue) })).dropUnsent
    n op.psns
  let s2 := s1.endOwner op.owner code
  match op.group with
  | some tag => s2.groupDone tag code
  | none => s2.bump (queueOf n op.queue) code

/-- Start one copy of an entry on a session: WRITE, READ_REQ or NOTIFY (R237). -/
def State.startCopy (n queue : Nat) (w : WorkEntry) (key offset : Nat) (tag : Option Nat) (s : State) : State :=
  let xid := s.idm.nextXid
  if w.opcode = 2 then
    (s.startOp n queue (.entry queue) tag true w.len
      [{ blankPacket 2 with queue := queue, key := key, offset := offset, aux := w.len }]).updSession n (fun x =>
        { x with ops := x.ops.map (fun (o : Op) => if o.xid = xid ∧ o.queue = queue then { o with buf := some w.buf } else o) })
  else if w.opcode = 4 then
    s.startOp n queue (.entry queue) tag false 8
      [{ blankPacket 4 with queue := queue, key := key, offset := offset, len := 8, payload := s.memBytes w.buf 8 }]
  else
    s.startOp n queue (.entry queue) tag false w.len
      (cutWrite (w.len / 8192 + 1) true false queue 0 key offset (s.memBytes w.buf w.len))

/-- A session takes operations. -/
def State.sessionOpen (s : State) (n : Nat) : Bool := (s.session? n).any (fun x => x.state == 2)

/-- Start an entry of a queue: one operation, or a copy for each target of a group (R239); a copy without a session fails at once. -/
def State.startEntry (key : Nat) (w : WorkEntry) (s : State) : State :=
  let queue := key % 16384
  match w.group with
  | none => if s.sessionOpen w.session then s.startCopy w.session queue w w.key w.offset none else s.bump key 0x10
  | some g =>
    let gid := s.idm.nextXid
    let ts := (w.targets.take 4).zipIdx
    let op : GroupOp := { queue := key, group := g, targets := ts.length, waiting := ts.map (·.2), reached := [] }
    let s1 := { s with idm := { s.idm with nextXid := (gid + 1) % 2 ^ 32, groupOps := NMap.put s.idm.groupOps gid op } }
    ts.foldl (fun (s : State) (q : (Nat × Nat × Nat) × Nat) =>
      if s.sessionOpen q.1.1 then s.startCopy q.1.1 queue w q.1.2.1 (q.1.2.2 + w.offset) (some (4 * gid + q.2))
      else s.groupDone (4 * gid + q.2) 0x10) s1

/-- What becomes of the entry at the head of a queue (R238): none waits, 0 starts, another number is the status it ends with. -/
def State.judgeEntry (s : State) (key : Nat) (w : WorkEntry) (cc0 : Nat) : Option Nat :=
  match w.waitQueue with
  | none => some 0
  | some q =>
    let x := s.tqueue q
    let span := (w.waitValue + 2 ^ 32 - cc0 % 2 ^ 32) % 2 ^ 32
    let errs := x.errors.any (fun c => decide (1 ≤ (c + 2 ^ 32 - cc0 % 2 ^ 32) % 2 ^ 32 ∧ (c + 2 ^ 32 - cc0 % 2 ^ 32) % 2 ^ 32 ≤ span))
    let busy := (s.session? (key / 16384)).any (fun y => y.ops.any (fun o => o.queue == key % 16384))
      || s.idm.groupOps.any (fun g => g.2.queue == key)
    if !NMap.has s.idm.sessions (q / 16384) then some 0x13
    else if w.errStop && errs then some 0x13
    else if (x.cc + 2 ^ 32 - w.waitValue % 2 ^ 32) % 2 ^ 32 < 2 ^ 31 then some 0
    else if q = key && !busy then some 0x13
    else none

/-- An entry ends without executing (R238): event 0x6130, and CC advances all the same. -/
def State.chainEnd (key code : Nat) (s : State) : State :=
  ((s.raise Reg.IDM_STATUS 0x80).recordOnce 0x6130 0 [key % 16384, code]).bump key code

/-- Take the head entry off a queue; the next one reaches the head now. -/
def State.popEntry (key : Nat) (s : State) : State :=
  s.updQueue key (fun q =>
    { q with entries := match q.entries.drop 1 with
                        | (w, c, _) :: rest => (w, c, s.time.now) :: rest
                        | [] => [] })

/-- Let entries start or end while any can (R238). -/
def State.runQueues : Nat → State → State
  | 0, s => s
  | n + 1, s =>
    let ready := s.idm.queues.findSome? (fun q =>
      match q.2.entries with
      | (w, c, _) :: _ => (s.judgeEntry q.1 w c).map (fun v => (q.1, w, v))
      | [] => none)
    match ready with
    | none => s
    | some (key, w, v) =>
      let s1 := s.popEntry key
      State.runQueues n (if v = 0 then s1.startEntry key w else s1.chainEnd key v)

/-- Entries not yet started. -/
def State.entriesLeft (s : State) : Nat := (s.idm.queues.map (fun q => q.2.entries.length)).sum

/-- What an operation's end sets going. -/
def State.chains (s : State) : State := s.runQueues s.entriesLeft

/-! ### Key phases (R243, R330) -/

/-- A session's use of a phase slot ends once neither direction needs it. -/
def State.settlePhases (n : Nat) (s : State) : State :=
  match s.session? n with
  | none => s
  | some x =>
    let used := fun (ph : Bool) => x.phaseTx == ph || x.phaseRx == ph || x.bothPhases
      || x.unacked.any (fun u => u.packet.kphase == ph) || (x.rekeyPsn.isSome && x.phaseTx == !ph)
    let gone := x.heldPhases.filter (fun ph => !used ph && x.rekeyed)
    gone.foldl (fun (s : State) (ph : Bool) => s.unrefSlot (keySlot x.keyid ph))
      (s.updSession n (fun x => { x with heldPhases := x.heldPhases.filter (fun ph => !gone.contains ph) }))

/-- A session begins to use a phase: its slot is referenced again if it had been released. -/
def State.takePhase (n : Nat) (ph : Bool) (s : State) : State :=
  match s.session? n with
  | none => s
  | some x =>
    let s1 := s.updSession n (fun x => { x with rekeyed := true })
    if x.heldPhases.contains ph then s1
    else (s1.updSession n (fun x => { x with heldPhases := x.heldPhases ++ [ph] })).refSlot (keySlot x.keyid ph)

/-! ### Sealing (R241, R323, R328) -/

/-- Additional data of a seal: the header and the counter (R241); the clear part of a payload exists in CONNECT and ACCEPT only. -/
def sealData (p : Packet) : List Byte := packetHeader p ++ beBytes 8 p.ctr

/-- Seal a packet under the session's present phase: none where the slot refuses (R329). -/
def State.sealPacket (n : Nat) (p : Packet) (s : State) : Option Packet × State :=
  match s.session? n with
  | none => (none, s)
  | some x =>
    let slot := keySlot x.keyid x.phaseTx
    match s.takeCounter slot with
    | (none, s1) => (none, s1)
    | (some c, s1) =>
      let key := match NMap.find s1.ciph.slots slot with | some k => k.key1 | none => []
      let q := { p with sealed := true, kphase := x.phaseTx, ctr := c }
      (some { q with tag := gcmTag key (x.saltTx.toNat * 2 ^ 64 + c) (sealData q) q.payload }, s1)

/-- The operation a packet belongs to. -/
def Session.opOf (x : Session) (psn : Nat) : Option Op := x.ops.find? (fun o => o.psns.contains psn)

/-- A packet of a sealed session leaves once its pass agrees (R323): it takes the counter of its phase slot, and after a REKEY the phase
changes (R243). A slot that refuses ends the operation with NONCE_EXHAUSTED. -/
def State.releasePacket (n : Nat) (s : State) : State :=
  match s.session? n with
  | none => s
  | some x =>
    match x.toSeal with
    | [] => s
    | p :: rest =>
      let s1 := s.updSession n (fun x => { x with toSeal := rest })
      match s1.sealPacket n p with
      | (none, s2) =>
        match (if p.opcode = 6 then none else x.opOf p.psn) with
        | some op => (s2.endOp n op 0x14).chains
        | none => s2
      | (some q, s2) =>
        let keep := fun (u : Sent) => if u.packet.psn == p.psn && u.packet.opcode == p.opcode then { u with packet := q } else u
        let s3 := s2.updSession n (fun y =>
          { y with lastTx := s2.time.now, unacked := if p.opcode = 6 then y.unacked else y.unacked.map keep
                   phaseTx := if p.opcode = 12 && !p.retx then !y.phaseTx else y.phaseTx })
        let s4 := if p.opcode = 12 && !p.retx then s3.takePhase n (!x.phaseTx) else s3
        ((s4.emit (.packet n q)).count (ctrSession n 0)).offerRekeys

/-- CIPHER_PASS_DONE (R323). -/
def execCipherPassDone (t : Nat) (u : CipherUnit) (pair : Nat) (agree : Bool) (s : State) : Host.Outcome State Fault Refusal :=
  let s1 := s.advanceTo t
  .next <|
    if !s1.pairOk pair then s1
    else if !agree then (s1.useRes (resPair pair)).pairMismatch u pair
    else match u with
      | .kat _ => s1
      | .read rid => (s1.useRes (resPair pair)).readDecrypted rid
      | .packet session _ opening tagOk blocks =>
        let s2 := s1.useRes (resPair pair)
        if opening then (s2.countN (ctrPair pair 2) blocks).countN (ctrPair pair 3) (b2n !tagOk)
        else (s2.countN (ctrPair pair 1) blocks).releasePacket session
      | .grain seq g =>
        match s1.write? seq with
        | none => s1
        | some w =>
          match w.grain? g with
          | none => s1
          | some x =>
            if x.kind != 0 || x.ciphered || x.failed || !x.resolved then s1
            else ((s1.useRes (resPair pair)).encrypt w x).countN (ctrPair pair 0) ((cipherInput x).length / 16)

/-! ### The end of a session -/

/-- A controller's commands go on under its orphan number (R206). -/
def State.rekeyOrphans (cntl : Nat) (s : State) : State :=
  let k := orphanKey cntl
  let c := fun (n : Nat) => if n = cntl then k else n
  { s with
    adm := { s.adm with
      held := s.adm.held.filter (fun h => h.cntl != cntl)
      writes := s.adm.writes.map (fun (w : WriteOp) => { w with cntl := c w.cntl }) }
    path := { s.path with
      reads := s.path.reads.map (fun (r : ReadGrain) => { r with cntl := c r.cntl })
      rcmds := s.path.rcmds.map (fun (r : ReadCmd) => { r with cntl := c r.cntl }) }
    moor := { s.moor with
      commits := s.moor.commits.map (fun (x : Commit) => { x with cntl := c x.cntl })
      relayHeld := s.moor.relayHeld.filter (fun x => x.1 != cntl) }
    tally := { s.tally with waiting := s.tally.waiting.map (fun x => (c x.1, x.2)) }
    repl := { s.repl with links := s.repl.links.map (fun (l : Nat × Link) =>
      (l.1, { l.2 with cmd := l.2.cmd.map (fun x => (c x.1, x.2)) })) }
    idm := { s.idm with sessions := s.idm.sessions.map (fun (y : Nat × Session) =>
      (y.1, { y.2 with ops := y.2.ops.map (fun (o : Op) =>
        { o with owner := match o.owner with | .read n q i => .read (c n) q i | w => w }) })) } }

/-- A controller leaves with its queues and reservations (R206). -/
def State.removeCtrl (cntl : Nat) (s : State) : State :=
  let s1 := s.rekeyOrphans cntl
  let s2 := (s1.adm.resv.filter (fun p => p.2.cntl == cntl && p.2.home)).foldl (fun (s : State) (p : Nat × Resv) => s.dropResv p.1) s1
  { s2 with nvq := { s2.nvq with
      ctrls := NMap.del s2.nvq.ctrls cntl
      sqs := s2.nvq.sqs.filter (fun p => p.2.cntl != cntl)
      cqs := s2.nvq.cqs.filter (fun p => p.2.cntl != cntl) } }

/-- A controller loses its session (R206): 0x6012 with the number of commands whose completions go to log C3h, then 0x6001. A session
closed in order with no command left orphans nothing (log 24). -/
def State.orphan (timeout : Bool) (cntl : Nat) (s : State) : State :=
  let k := orphanKey cntl
  let s1 := s.removeCtrl cntl
  let n := (s1.adm.writes.filter (fun w => w.cntl == k)).length + (s1.path.rcmds.filter (fun r => r.cntl == k)).length
  let s2 := if timeout || n != 0 then (s1.raise Reg.NVQ_STATUS 4).record 0x6012 [cntl, n] else s1
  s2.record 0x6001 [cntl]

/-- Units of an on-demand region go back to pool 3 (R235). -/
def State.freeUnits1 (r : Region) (s : State) : State :=
  r.units.foldl (fun (s : State) (u : Nat × Nat) => s.freeBuffer u.2 (0x1000 + r.owner)) s

/-- Destroy a region with what backs it (R234, R235). -/
def State.endRegion (key : Nat) (s : State) : State :=
  match NMap.find s.idm.regions (key / 256) with
  | some r =>
    if r.used && r.gen == key % 256 then
      let s1 := (s.freeUnits1 r).destroyRegion key
      { s1 with idm := { s1.idm with regions := NMap.upd s1.idm.regions (key / 256) (fun r => { r with units := [] }) } }
    else s
  | none => s

/-- Every region of a session is destroyed (R225). -/
def State.endRegions (n : Nat) (s : State) : State :=
  (s.idm.regions.filter (fun r => r.2.used && r.2.owner == n)).foldl (fun (s : State) (r : Nat × Region) =>
    s.endRegion (r.1 * 256 + r.2.gen)) s

/-- The end of a session in one tick (R225): its operations end with TIMEOUT, its regions and queues go, and with them its controller.
`timeout` is false for a session closed in order. -/
def State.endSession (n : Nat) (timeout : Bool) (code : Nat) (data : List Nat) (s : State) : State :=
  match s.session? n with
  | none => s
  | some x =>
    let s1 := match x.cntl with
      | some c => s.orphan timeout c
      | none => s
    let s2 := (match s1.session? n with | some y => y.ops | none => []).foldl (fun (s : State) (o : Op) => s.endOp n o 0x10) s1
    let s3 := s2.endRegions n
    let s4 := x.heldPhases.foldl (fun (s : State) (ph : Bool) => if x.sealed then s.unrefSlot (keySlot x.keyid ph) else s) s3
    let s5 := { s4 with idm := { s4.idm with
      sessions := NMap.del s4.idm.sessions n
      queues := s4.idm.queues.filter (fun q => q.1 / 16384 != n)
      stalls := s4.idm.stalls.filter (fun k => k.1 != n) } }
    let s6 := if x.purpose = 2 then (s5.targetsLost x.source).checkWrites else s5
    (s6.record code data).chains

/-- A session times out (R225); the condition that held has no code of the spec's (log 11). -/
def State.timeoutSession (n why : Nat) (s : State) : State :=
  (s.raise Reg.IDM_STATUS 0x20).endSession n true 0x6102 [n, Config.itemCode 0x6102 why]

/-- A CLOSE is acknowledged once no operation is outstanding, and the session is freed (R226). The ACK leaves in the same tick. -/
def State.settleClose (n : Nat) (s : State) : State :=
  match s.session? n with
  | none => s
  | some x =>
    match x.closePsn with
    | none => s
    | some psn =>
      if !x.ops.isEmpty then s
      else
        let y := if x.cum = psn then { x with cum := psnNext psn } else { x with got := x.got ++ [psn] }
        let ack := { blankPacket 6 with dsess := x.peer, psn := y.cum, len := 32, aux := x.wlog2, payload := ackBitmap y }
        let s1 := if x.sealed then
            match s.sealPacket n ack with
            | (some q, s1) => (s1.emit (.packet n q)).count (ctrSession n 0)
            | (none, s1) => s1
          else (s.emit (.packet n ack)).count (ctrSession n 0)
        s1.endSession n false 0x6101 [n]

/-- An operation ends, and what follows from it (R226, R238). -/
def State.opEnds (n : Nat) (op : Op) (code : Nat) (s : State) : State := ((s.endOp n op code).chains).settleClose n

end Sys2Proof.Machine
end

