-- ==== Sys2Proof/Machine/Arrival.lean ====
section
/-!
DEFINITION. Packets that arrive (R221, R222, R227 to R236, R241 to R243): each opcode's command, and the timers of the transport.
-/

namespace Sys2Proof.Machine

/-! ### What every packet meets -/

/-- Payload length that Table 10.3 gives an opcode; none where any length is allowed. -/
def payloadLen (opcode : Nat) : Option Nat :=
  match opcode with
  | 1 => none | 3 => none | 4 => some 8 | 6 => some 32 | 8 => some 64 | 9 => some 32 | _ => some 0

/-- A packet is malformed (R222); the bytes that follow the header are its payload. -/
def malformed (p : Packet) : Bool :=
  p.ver != 1 || !(p.opcode ∈ [1, 2, 3, 4, 5, 6, 8, 9, 10, 11, 12]) || p.len != p.payload.length || decide (8192 < p.len) || p.reserved
    || (match payloadLen p.opcode with | some n => p.len != n | none => false)
    || decide (4096 ≤ p.dsess ∨ 16384 ≤ p.queue)

/-- A malformed packet is discarded (R222). -/
def State.badPacket (port dsess : Nat) (s : State) : State :=
  let s1 := (s.raise Reg.IDM_STATUS 0x100).recordOnce 0x6140 0 [port]
  if NMap.has s.idm.sessions dsess then s1.count (ctrSession dsess 4) else s1

/-- A sealed packet's tag is right, or an unsealed one came on an unsealed session (R241, R242). -/
def State.authentic (s : State) (x : Session) (p : Packet) : Bool :=
  if x.sealed then
    p.sealed && (p.kphase == x.phaseRx || x.bothPhases) &&
      (match NMap.find s.ciph.slots (keySlot x.keyid p.kphase) with
       | some k => k.gcm && p.tag == gcmTag k.key1 (x.saltRx.toNat * 2 ^ 64 + p.ctr) (sealData p) p.payload
       | none => false)
  else !p.sealed

/-- A packet that fails authentication is discarded (R242). -/
def State.authFail (n : Nat) (s : State) : State :=
  ((s.raise Reg.IDM_STATUS 0x10).recordOnce 0x6114 n [n]).count (ctrSession n 4)

/-- What every packet meets (R222, R223, R242), before its opcode acts: `act` is given its session's number and state. -/
def State.arrive (p : Packet) (act : Nat → Session → State → State) (s : State) : State :=
  if s.md.mode = .reset ∨ s.md.mode = .slack then s
  else if malformed p then s.badPacket (match s.session? p.dsess with | some x => x.port | none => 0) p.dsess
  else
    match s.session? p.dsess with
    | none => if p.opcode = 5 then s
        else s.emit (.packet p.dsess { blankPacket 5 with queue := p.queue, xid := p.xid, offset := p.psn, aux := 6 })
    | some x =>
      if x.state = 1 then s.emit (.packet p.dsess { blankPacket 5 with queue := p.queue, xid := p.xid, offset := p.psn, aux := 6 })
      else if !s.authentic x p then s.authFail p.dsess
      else
        let s1 := (s.updSession p.dsess (fun x => { x with lastRx := s.time.now })).count (ctrSession p.dsess 1)
        act p.dsess x s1

/-! ### Sequenced packets (R227, R228, R231) -/

/-- Distance of a PSN from another. -/
def psnDist (a b : Nat) : Nat := (a + 2 ^ 32 - b % 2 ^ 32) % 2 ^ 32

/-- Move CUM over what has been received. -/
def advanceCum : Nat → Nat → List Nat → Nat × List Nat
  | 0, c, got => (c, got)
  | n + 1, c, got => if got.contains c then advanceCum n (psnNext c) (got.filter (· != c)) else (c, got)

/-- Note a PSN as received, and send an ACK where R228 calls for one at once. -/
def State.received (n : Nat) (p : Packet) (s : State) : State :=
  match s.session? n with
  | none => s
  | some x =>
    let (cum, got) := advanceCum (x.got.length + 1) x.cum (x.got ++ [p.psn])
    let fills := (p.psn == x.cum || x.got.contains ((p.psn + 2 ^ 32 - 1) % 2 ^ 32)) && x.got.contains (psnNext p.psn)
    let third := !got.isEmpty && got.length == 3 && p.psn != x.cum
    let now := decide (32 ≤ x.sinceAck + 1) || third || fills || p.last || p.fence
    let caught := match x.rekeyRx with | some r => psnLater cum r | none => false
    let s1 := (s.updSession n (fun x =>
      { x with cum := cum, got := got, sinceAck := x.sinceAck + 1
               ackFrom := if x.ackFrom = 0 then s.time.now else x.ackFrom
               rekeyRx := if caught then none else x.rekeyRx
               bothPhases := x.bothPhases && !caught })).countN (ctrSession n 7) p.len
    let s2 := if caught then s1.settlePhases n else s1
    if now then s2.sendAck n else s2

/-- A sequenced packet is classed (Table 10.7); a new one is applied by `act`, a fenced one once everything below it is here (R231). `act`
answers false where the packet does not count as received. -/
def State.sequenced (p : Packet) (n : Nat) (x : Session) (act : Packet → State → Bool × State) (s : State) : State :=
  if psnLater x.cum p.psn || x.got.contains p.psn then (s.count (ctrSession n 3)).sendAck n
  else if 2 ^ x.wlog2 ≤ psnDist p.psn x.cum then s.count (ctrSession n 4)
  else if p.fence && p.psn != x.cum then
    if x.fenced.any (fun q => q.psn == p.psn) then s else s.updSession n (fun x => { x with fenced := x.fenced ++ [p] })
  else
    let (ok, s1) := act p s
    if ok then s1.received n p else s1

/-! ### Region checks (R233, Table 10.9) -/

/-- A doorbell word of a packet belongs to a controller of another session. -/
def State.foreignDoorbell (s : State) (n : Nat) (offset len : Nat) : Bool :=
  (List.range (ceilDiv len 8 + 1)).any (fun i =>
    match NMap.find s.nvq.cqs (offset / 8 + i) with
    | some q => decide (8 * (offset / 8 + i) < offset + len) && (s.ctrlOn n != some q.cntl)
    | none => false)

/-- The checks of a packet that carries a KEY, in order: 0 passes, else the status code. -/
def State.regionCode (s : State) (n : Nat) (p : Packet) : Nat :=
  let len := if p.opcode = 2 then p.aux else p.len
  match NMap.find s.idm.regions (p.key / 256) with
  | none => 1
  | some r =>
    if !r.used || r.gen != p.key % 256 || r.owner != n then 1
    else if r.len < p.offset + len then 2
    else if !(if p.opcode = 2 then r.rd else if p.opcode = 4 then r.nt else r.wr) then 3
    else if r.doorbell && s.foreignDoorbell n p.offset len then 3
    else 0

/-- Refuse a packet's access (R233): ATPU_FAULT, IDM_STATUS, the event, and a STATUS. -/
def State.refuseAccess (n : Nat) (p : Packet) (code : Nat) (s : State) : State :=
  let s1 := { s with idm := { s.idm with faultIndex := p.key / 256, faultCode := code } }
  let s2 := (s1.raise Reg.IDM_STATUS (2 ^ (code - 1))).recordOnce (0x610F + code) n [n, p.key / 256]
  s2.sendStatus n p code 0

/-- A new operation on a closing session is refused (R226); otherwise the region checks decide. -/
def State.accessCode (s : State) (n : Nat) (x : Session) (p : Packet) : Nat :=
  if x.state = 3 && p.first then 5 else s.regionCode n p

/-! ### On-demand regions (R235, R236) -/

/-- Units of an on-demand region that a packet touches. -/
def unitsTouched (p : Packet) : List Nat :=
  if p.len = 0 then [] else (List.range ((p.offset + p.len - 1) / 65536 + 1 - p.offset / 65536)).map (p.offset / 65536 + ·)

/-- The first unit a packet touches that is not backed. -/
def unbacked (r : Region) (p : Packet) : Option Nat := (unitsTouched p).find? (fun u => !NMap.has r.units u)

/-- The transport engine that carries a packet of a session (Table 1.1): front-end lanes 4n to 4n + 3 by the port width of IDM_CTRL.FEMODE;
Decux lanes 2n and 2n + 1 by the lane that a packet of the number takes in turn (log 18). -/
def State.engineOf (s : State) (x : Session) (psn : Nat) : Nat :=
  if 16 ≤ x.port then (s.laneFor x psn - 16) / 2 else x.port * (8 / 2 ^ s.regField Reg.IDM_CTRL 3 2) / 4

/-- Packets stalled at an engine. -/
def State.stalledAt (s : State) (e : Nat) : Nat :=
  (s.idm.stalls.filter (fun k => match s.session? k.1 with | some x => s.engineOf x k.2.2.2.1.psn == e | none => false)).length

/-- A packet gets RETRY_LATER (R236), with a hint that doubles with each earlier answer to its PSN. -/
def State.retryLater (n : Nat) (p : Packet) (s : State) : State :=
  let c := match s.session? n with | some x => NMap.getD x.retries p.psn 0 | none => 0
  let hint := s.regField Reg.IDM_ODCTRL 7 0 * 2 ^ min c 6
  let s1 := (s.updSession n (fun x => { x with retries := NMap.put x.retries p.psn (c + 1) })).raise Reg.IDM_STATUS 8
  ((s1.raise Reg.ATPU_STATUS 1).recordOnce 0x6113 0 [n, p.key / 256]).sendStatus n p 4 hint

/-- A unit could be taken for a session: the budget, pool 3 and the session's quota have room (R236, R303). -/
def State.unitRoom (s : State) (n : Nat) : Bool :=
  decide (s.idm.odUsed < s.image.odBudget) &&
    (match s.answer (0x1000 + n) 65536 false with | .granted _ _ => true | .pending => true | _ => false)

/-- A write packet on an unbacked unit stalls, or gets RETRY_LATER at once (R236). -/
def State.stall (n : Nat) (x : Session) (p : Packet) (unit : Nat) (s : State) : State :=
  let behind := s.idm.stalls.any (fun k => k.1 == n && k.2.1 == p.key && k.2.2.1 == unit)
  if s.idm.stalls.any (fun k => k.1 == n && k.2.2.2.1.psn == p.psn) then s
  else if !behind && (!s.unitRoom n || decide (16 ≤ s.stalledAt (s.engineOf x p.psn))) then s.retryLater n p
  else { s with idm := { s.idm with stalls := s.idm.stalls ++ [(n, p.key, unit, p, s.time.now)] } }

/-- Write a packet's bytes unit by unit into what backs them. -/
def State.writeUnits (r : Region) (p : Packet) (s : State) : State :=
  (unitsTouched p).foldl (fun (s : State) (u : Nat) =>
    let lo := max p.offset (65536 * u)
    let hi := min (p.offset + p.len) (65536 * u + 65536)
    match NMap.find r.units u with
    | some a => s.memWrite (a + (lo - 65536 * u)) ((p.payload.drop (lo - p.offset)).take (hi - lo))
    | none => s) s

/-- Bytes of a region: on-demand units not backed read as zeros (R235). -/
def State.regionBytes (s : State) (r : Region) (offset len : Nat) : List Byte :=
  if !r.ondemand then s.memBytes (r.base + offset) len
  else (List.range len).map (fun i =>
    match NMap.find r.units ((offset + i) / 65536) with
    | some a => Memory.read 0 s.mem.cells (a + (offset + i) % 65536)
    | none => 0)

/-- A poisoned line among the bytes of a region. -/
def State.regionPoison (s : State) (r : Region) (offset len : Nat) : Option Nat :=
  if !r.ondemand then s.poisonedIn (r.base + offset) len
  else ((List.range (ceilDiv len 64 + 1)).filterMap (fun i =>
    let o := min (offset + 64 * i) (offset + len - 1)
    match NMap.find r.units (o / 65536) with | some a => s.poisonedIn (a + o % 65536) 1 | none => none)).head?

/-! ### Applying packets -/

/-- The doorbells of a write packet, four bytes each, little-endian (R197). -/
def State.applyDoorbells (n : Nat) (p : Packet) (s : State) : State :=
  (List.range (p.len / 4)).foldl (fun (s : State) (i : Nat) =>
    s.doorbell n (p.offset + 4 * i) (BitVec.ofNat 32 (leNat ((p.payload.drop (4 * i)).take 4)))) s

/-- WRITE (R230, R233): its bytes land whole, stall, or are refused. -/
def State.applyWrite (n : Nat) (x : Session) (p : Packet) (s : State) : Bool × State :=
  match s.accessCode n x p, NMap.find s.idm.regions (p.key / 256) with
  | 0, some r =>
    if r.doorbell then (true, s.applyDoorbells n p)
    else if r.ondemand then
      match unbacked r p with
      | some u => (false, s.stall n x p u)
      | none => (true, s.writeUnits r p)
    else (true, s.memWrite (r.base + p.offset) p.payload)
  | 5, _ => (true, s.sendStatus n p 5 0)
  | c, _ => (true, s.refuseAccess n p c)

/-- Cut the answer to a READ_REQ into READ_RESP packets (Table 10.3). -/
def cutRead (p : Packet) (bytes : List Byte) : List Packet :=
  let n := ceilDiv bytes.length 8192
  (List.range n).map (fun i =>
    let part := (bytes.drop (8192 * i)).take 8192
    { blankPacket 3 with first := i == 0, last := i + 1 == n, queue := p.queue, xid := p.xid, offset := 8192 * i,
                         len := part.length, payload := part })

/-- READ_REQ (R230, R233, R292): answered with READ_RESP packets; poison is refused with BAD_REQUEST, as is a length outside 1 to 4,194,304
(log 24). -/
def State.applyReadReq (n : Nat) (x : Session) (p : Packet) (s : State) : Bool × State :=
  if p.aux = 0 ∨ 4194304 < p.aux then (true, s.sendStatus n p 5 0)
  else
    match s.accessCode n x p, NMap.find s.idm.regions (p.key / 256) with
    | 0, some r =>
      match s.regionPoison r p.offset p.aux with
      | some l => (true, (s.consumed l consumerRegion).sendStatus n p 5 0)
      | none => (true, (cutRead p (s.regionBytes r p.offset p.aux)).foldl (fun (s : State) (q : Packet) => s.sendSeq n q) s)
    | 5, _ => (true, s.sendStatus n p 5 0)
    | c, _ => (true, s.refuseAccess n p c)

/-- READ_RESP (R232): its bytes land, and the read completes with the last of them. -/
def State.applyReadResp (n : Nat) (p : Packet) (s : State) : Bool × State :=
  match (s.session? n).bind (fun x => x.ops.find? (fun o => o.read && o.xid == p.xid)) with
  | none => (true, s)
  | some o =>
    let s1 := match o.buf with | some a => s.memWrite (a + p.offset) p.payload | none => s
    let left := o.bytesLeft - p.len
    let s2 := s1.updSession n (fun x => { x with ops := x.ops.map (fun (y : Op) =>
      if y.xid = o.xid ∧ y.read then { y with bytesLeft := left } else y) })
    (true, if left = 0 then (s2.endOp n o 0).chains else s2)

/-- NOTIFY (R221): its 8 bytes go into a region with the notify right. -/
def State.applyNotify (n : Nat) (x : Session) (p : Packet) (s : State) : Bool × State :=
  match s.accessCode n x p, NMap.find s.idm.regions (p.key / 256) with
  | 0, some r => (true, if r.ondemand || r.doorbell then s else s.memWrite (r.base + p.offset) p.payload)
  | 5, _ => (true, s.sendStatus n p 5 0)
  | c, _ => (true, s.refuseAccess n p c)

/-- STATUS (R232, R236): RETRY_LATER sets when its PSN may go again; any other code ends the operation, and its packet is not sent
again. -/
def State.applyStatus (n : Nat) (p : Packet) (s : State) : Bool × State :=
  let psn := p.offset % 2 ^ 32
  let code := p.aux % 256
  if code = 4 then
    (true, s.updSession n (fun x => { x with unacked := x.unacked.map (fun (u : Sent) =>
      if u.packet.psn = psn then { u with notBefore := s.time.now + 10000 * (p.aux / 65536), retry := u.retry + 1 } else u) }))
  else
    match (s.session? n).bind (fun x => x.opOf psn) with
    | some o =>
      let s1 := s.updSession n (fun x => { x with unacked := x.unacked.filter (fun u => u.packet.psn != psn) })
      (true, (s1.endOp n o code).chains)
    | none => (true, s)

/-- REKEY (R243): both phases are accepted until everything below it is here. -/
def State.applyRekey (n : Nat) (p : Packet) (s : State) : Bool × State :=
  let ph := p.aux % 2 == 1
  match s.session? n with
  | some x =>
    if !x.sealed || x.phaseRx == ph then (true, s)
    else
      (true, (s.updSession n (fun x => { x with phaseRx := ph, bothPhases := true, rekeyRx := some p.psn })).takePhase n ph)
  | none => (true, s)

/-- CLOSE (R226): the session takes no new operation, and ends once none is outstanding. -/
def State.applyClose (n : Nat) (p : Packet) (s : State) : Bool × State :=
  (false, (s.updSession n (fun x => { x with state := 3, closePsn := some p.psn })).settleClose n)

/-- Apply a sequenced packet by its opcode. -/
def State.apply (n : Nat) (p : Packet) (s : State) : Bool × State :=
  match s.session? n with
  | none => (true, s)
  | some x =>
    match p.opcode with
    | 1 => s.applyWrite n x p
    | 2 => s.applyReadReq n x p
    | 3 => s.applyReadResp n p
    | 4 => s.applyNotify n x p
    | 5 => s.applyStatus n p
    | 10 => s.applyClose n p
    | 12 => s.applyRekey n p
    | _ => (true, s)

/-- Fenced packets whose turn has come are applied (R231). -/
def State.releaseFenced (n : Nat) : Nat → State → State
  | 0, s => s
  | k + 1, s =>
    match s.session? n with
    | none => s
    | some x =>
      match x.fenced.find? (fun q => q.psn == x.cum) with
      | none => s
      | some q =>
        let s1 := s.updSession n (fun x => { x with fenced := x.fenced.filter (fun y => y.psn != q.psn) })
        State.releaseFenced n k (s1.sequenced q n x (fun p s => s.apply n p))

/-- A sequenced packet of a session arrives: it is classed and applied, then the fenced ones behind it, and what its effects end. -/
def State.arriveSeq (p : Packet) (s : State) : State :=
  s.arrive p (fun n x s =>
    let s1 := s.sequenced p n x (fun p s => s.apply n p)
    let k := match s1.session? n with | some x => x.fenced.length | none => 0
    (s1.releaseFenced n k).settleClose n)

/-- IDM_WRITE (R230). -/
def execIdmWrite (t : Nat) (p : Packet) (s : State) : Host.Outcome State Fault Refusal :=
  .next ((s.advanceTo t).arriveSeq { p with opcode := 1 })

/-- IDM_READ_REQ (R230). -/
def execIdmReadReq (t : Nat) (p : Packet) (s : State) : Host.Outcome State Fault Refusal :=
  .next ((s.advanceTo t).arriveSeq { p with opcode := 2 })

/-- READ_RESP (R232). -/
def execReadResp (t : Nat) (p : Packet) (s : State) : Host.Outcome State Fault Refusal :=
  .next ((s.advanceTo t).arriveSeq { p with opcode := 3 })

/-- NOTIFY (R221). -/
def execNotify (t : Nat) (p : Packet) (s : State) : Host.Outcome State Fault Refusal :=
  .next ((s.advanceTo t).arriveSeq { p with opcode := 4 })

/-- STATUS_PACKET (R232, R236); an unsequenced SESSION_UNKNOWN ends the session as a timeout does (Table 10.9). -/
def execStatusPacket (t : Nat) (p : Packet) (s : State) : Host.Outcome State Fault Refusal :=
  let q := { p with opcode := 5 }
  let s1 := s.advanceTo t
  .next (if q.aux % 256 = 6 then s1.arrive q (fun n _ s => s.timeoutSession n 2) else s1.arriveSeq q)

/-- CLOSE (R226). -/
def execClose (t : Nat) (p : Packet) (s : State) : Host.Outcome State Fault Refusal :=
  .next ((s.advanceTo t).arriveSeq { p with opcode := 10 })

/-- KEEPALIVE (R225). -/
def execKeepalive (t : Nat) (p : Packet) (s : State) : Host.Outcome State Fault Refusal :=
  .next ((s.advanceTo t).arriveSeq { p with opcode := 11 })

/-- REKEY (R243). -/
def execRekey (t : Nat) (p : Packet) (s : State) : Host.Outcome State Fault Refusal :=
  .next ((s.advanceTo t).arriveSeq { p with opcode := 12 })

/-! ### ACK (R228, R229, R232) -/

/-- Bit n of an ACK's bitmap. -/
def ackBit (p : Packet) (n : Nat) : Bool := (p.payload.getD (n / 8) 0).getLsbD (n % 8)

/-- An ACK says that a PSN has been received. -/
def ackCovers (p : Packet) (psn : Nat) : Bool :=
  psnLater p.psn psn || (decide (psnDist psn p.psn < 256) && ackBit p (psnDist psn p.psn))

/-- An ACK shows a PSN missing while at least three later ones are set. -/
def ackMisses (p : Packet) (psn : Nat) : Bool :=
  !ackCovers p psn && decide (3 ≤ ((List.range 256).filter (fun n => ackBit p n && psnLater (p.psn + n) psn)).length)

/-- Operations whose every packet is acknowledged complete (R232). -/
def State.ackedOps (n : Nat) (s : State) : State :=
  match s.session? n with
  | none => s
  | some x => (x.ops.filter (fun o => !o.read && o.psns.isEmpty)).foldl (fun (s : State) (o : Op) => s.endOp n o 0) s

/-- An ACK releases what it covers, resends what it shows missing, and lets waiting packets leave. -/
def State.applyAck (p : Packet) (n : Nat) (x : Session) (s : State) : State :=
  let key := b2n p.kphase
  if x.sealed && decide (p.ctr + 1 ≤ NMap.getD x.lastAckCtr key 0) then s
  else
    let inFlight := x.unacked.map (·.packet.psn)
    let sent := fun (psn : Nat) => inFlight.contains psn
    let s1 := s.updSession n (fun x =>
      { x with unacked := x.unacked.filter (fun u => !ackCovers p u.packet.psn)
               ops := x.ops.map (fun (o : Op) => { o with psns := o.psns.filter (fun q => !(sent q && ackCovers p q)) })
               lastAckCtr := if x.sealed then NMap.put x.lastAckCtr key (p.ctr + 1) else x.lastAckCtr
               rekeyPsn := match x.rekeyPsn with | some r => if ackCovers p r then none else some r | none => none })
    let lost := (x.unacked.filter (fun u => ackMisses p u.packet.psn && decide (u.notBefore ≤ s.time.now))).map (·.packet.psn)
    let s2 := lost.foldl (fun (s : State) (q : Nat) => s.resend n q) s1
    ((s2.drainQueue n x.sendq.length).ackedOps n).settlePhases n

/-- A CLOSE of the device's own is acknowledged: the session is freed (R226). -/
def State.settleOwnClose (n : Nat) (s : State) : State :=
  match s.session? n with
  | some x =>
    let open_ := x.toSeal.any (fun p => p.opcode == 10) || x.sendq.any (fun p => p.opcode == 10)
      || x.unacked.any (fun u => u.packet.opcode == 10)
    if x.state = 3 ∧ x.closePsn.isNone ∧ !open_ then s.endSession n false 0x6101 [n] else s
  | none => s

/-- ACK (R228). -/
def execAck (t : Nat) (p : Packet) (s : State) : Host.Outcome State Fault Refusal :=
  .next ((s.advanceTo t).arrive { p with opcode := 6 } (fun n x s =>
    (((s.applyAck { p with opcode := 6 } n x).chains).settleClose n).settleOwnClose n))

/-! ### Discards and time -/

/-- MALFORMED_PACKET (R222): `udpLen` is the UDP length, header and checksum included. -/
def execMalformedPacket (t port : Nat) (p : Packet) (udpLen : Nat) (s : State) : Host.Outcome State Fault Refusal :=
  let s1 := s.advanceTo t
  .next <|
    if s1.md.mode = .reset ∨ s1.md.mode = .slack then s1
    else if malformed p || udpLen != 40 + p.len + (if p.sealed then 24 else 0) then s1.badPacket port p.dsess
    else s1

/-- DATAGRAM_DISCARD (R220). -/
def execDatagramDiscard (t _port _udpPort : Nat) (_checksumOk : Bool) (s : State) : Host.Outcome State Fault Refusal :=
  let s1 := s.advanceTo t
  .next (if s1.md.mode = .reset ∨ s1.md.mode = .slack then s1 else s1.count 4)

/-- PTP_MESSAGE (R218): the second a time-transmitter names, with the tick of reception. -/
def execPtpMessage (t udpPort second : Nat) (s : State) : Host.Outcome State Fault Refusal :=
  let s1 := s.advanceTo t
  .next <|
    if !(udpPort ∈ [319, 320]) || s1.md.mode = .reset || s1.md.mode = .slack then s1
    else { s1 with time := { s1.time with ptp := some (second, s1.time.now) } }

/-! ### Timers -/

/-- Session timeout in ticks (IDM_TIMERS.TIMEOUT). -/
def State.idmTimeout (s : State) : Nat := s.regField Reg.IDM_TIMERS 9 0 * msTicks

/-- Which condition of R225 holds, if one does. -/
def State.timedOut (s : State) (x : Session) : Option Nat :=
  if x.state = 1 then none
  else if x.lastRx + s.idmTimeout ≤ s.time.now then some 0
  else if x.unacked.any (fun u => decide (u.firstTick + s.idmTimeout ≤ s.time.now)) then some 1
  else none

/-- KEEPALIVE_DUE (R225). -/
def execKeepaliveDue (t session : Nat) (s : State) : Host.Outcome State Fault Refusal :=
  let s1 := s.advanceTo t
  .next <| match s1.session? session with
    | some x => if x.state != 1 && decide (x.lastTx + s1.idmTimeout / 4 ≤ s1.time.now) then s1.sendSeq session (blankPacket 11) else s1
    | none => s1

/-- ACK_DELAY (R228): 5 µs after a packet that no other trigger has acknowledged. -/
def execAckDelay (t session : Nat) (s : State) : Host.Outcome State Fault Refusal :=
  let s1 := s.advanceTo t
  .next <| match s1.session? session with
    | some x => if x.ackFrom != 0 && decide (x.ackFrom + 5000 ≤ s1.time.now) then s1.sendAck session else s1
    | none => s1

/-- RTO_EXPIRY (R229). -/
def execRtoExpiry (t session psn : Nat) (s : State) : Host.Outcome State Fault Refusal :=
  let s1 := s.advanceTo t
  .next <| match (s1.session? session).bind (fun x => x.unacked.find? (fun u => u.packet.psn == psn)) with
    | some u =>
      if decide (u.lastTick + s1.regField Reg.IDM_TIMERS 31 16 * 1000 ≤ s1.time.now) && decide (u.notBefore ≤ s1.time.now) then
        s1.resend session psn
      else s1
    | none => s1

/-- BACKOFF_EXPIRY (R236): a RETRY_LATER hint has run out, and the packet goes again. -/
def execBackoffExpiry (t session psn : Nat) (s : State) : Host.Outcome State Fault Refusal :=
  let s1 := s.advanceTo t
  .next <| match (s1.session? session).bind (fun x => x.unacked.find? (fun u => u.packet.psn == psn)) with
    | some u =>
      if u.notBefore != 0 && decide (u.notBefore ≤ s1.time.now) then
        (s1.updSession session (fun x => { x with unacked := x.unacked.map (fun (v : Sent) =>
          if v.packet.psn = psn then { v with notBefore := 0 } else v) })).resend session psn
      else s1
    | none => s1

/-- Stalled packets on a unit, oldest first. -/
def State.stallsOn (s : State) (session key unit : Nat) : List (Nat × Nat × Nat × Packet × Nat) :=
  s.idm.stalls.filter (fun k => k.1 == session && k.2.1 == key && k.2.2.1 == unit)

/-- A stalled packet is taken up again. -/
def State.unstall (k : Nat × Nat × Nat × Packet × Nat) (s : State) : State :=
  let s1 := { s with idm := { s.idm with stalls := s.idm.stalls.filter (fun y => y != k) } }
  match s1.session? k.1 with
  | none => s1
  | some x => s1.sequenced k.2.2.2.1 k.1 x (fun p s => s.apply k.1 p)

/-- ONDEMAND_UNIT_READY (R235, R236): a unit of pool 3 is taken and zero-filled, and the packets that waited for it land; where none can
be taken they get RETRY_LATER. -/
def execOndemandUnitReady (t session key unit : Nat) (s : State) : Host.Outcome State Fault Refusal :=
  let s1 := s.advanceTo t
  let ks := s1.stallsOn session key unit
  let fail := fun (s : State) => ks.foldl (fun (s : State) (k : Nat × Nat × Nat × Packet × Nat) =>
    ({ s with idm := { s.idm with stalls := s.idm.stalls.filter (fun y => y != k) } }).retryLater session k.2.2.2.1) s
  .next <|
    if ks.isEmpty then s1
    else if !s1.unitRoom session then fail s1
    else
      match s1.answer (0x1000 + session) 65536 false with
      | .granted p a =>
        let s2 := (s1.grant (0x1000 + session) (.granted p a)).memWrite a (padBytes 65536 0)
        let s3 := { s2 with idm := { s2.idm with
          odUsed := s2.idm.odUsed + 1
          regions := NMap.upd s2.idm.regions (key / 256) (fun (r : Region) => { r with units := NMap.put r.units unit a }) } }
        let s4 := ks.foldl (fun (s : State) (k : Nat × Nat × Nat × Packet × Nat) => s.unstall k) s3
        let n := match s4.session? session with | some x => x.fenced.length | none => 0
        s4.releaseFenced session n
      | _ => s1

/-- ONDEMAND_STALL_EXPIRY (R236): 50 µs after its arrival a stalled packet gets RETRY_LATER, and every packet behind it too. -/
def execOndemandStallExpiry (t session key unit : Nat) (s : State) : Host.Outcome State Fault Refusal :=
  let s1 := s.advanceTo t
  let ks := s1.stallsOn session key unit
  .next <| match ks with
    | [] => s1
    | k :: _ =>
      if k.2.2.2.2 + 50000 ≤ s1.time.now then
        ks.foldl (fun (s : State) (k : Nat × Nat × Nat × Packet × Nat) =>
          ({ s with idm := { s.idm with stalls := s.idm.stalls.filter (fun y => y != k) } }).retryLater session k.2.2.2.1) s1
      else s1

/-! ### Work entries (R237, R238) -/

/-- WORK_ENTRY_POST (R237): `queue` is the transport queue's key. -/
def execWorkEntryPost (t queue : Nat) (w : WorkEntry) (s : State) : Host.Outcome State Fault Refusal :=
  let s1 := s.advanceTo t
  .next <|
    if !s1.sessionOpen (queue / 16384) then s1
    else
      let cc0 := match w.waitQueue with | some q => (s1.tqueue q).cc | none => 0
      (s1.updQueue queue (fun q =>
        { q with entries := q.entries ++ [(w, cc0, if q.entries.isEmpty then s1.time.now else 0)] })).chains

/-- CHAIN_TIMEOUT (R238): IDM_CHAIN.TIMEOUT after an entry reached the head of its queue. -/
def execChainTimeout (t queue : Nat) (s : State) : Host.Outcome State Fault Refusal :=
  let s1 := s.advanceTo t
  .next <| match (s1.tqueue queue).entries with
    | (w, _, at_) :: _ =>
      if w.waitQueue.isSome && decide (at_ + s1.regField Reg.IDM_CHAIN 15 0 * msTicks ≤ s1.time.now) then
        ((s1.popEntry queue).chainEnd queue 0x12).chains
      else s1
    | [] => s1

end Sys2Proof.Machine
end

