-- ==== Sys2Proof/Machine/Cipher.lean ====
section
/-!
DEFINITION. The key slots and the lock (15_cipher_engine.md R325 to R335): TAKE, RELEASE and the idle release, who may write the key
registers, and the key commands of Table 15.1.
-/

namespace Sys2Proof.Machine

/-- The owner class of a requester (R332); in-band access has none. -/
def ownerClass : Origin → Nat
  | .core => 1 | .spi => 2 | .repl => 3 | .inband => 0

/-- A requester owns the lock. -/
def State.ownsLock (s : State) (o : Origin) : Bool := s.ciph.lock != 0 && s.ciph.lock == ownerClass o

/-- An access of the owner restarts the idle time (R333). -/
def State.touchLock (o : Origin) (s : State) : State :=
  if s.ownsLock o then { s with ciph := { s.ciph with lockTick := s.time.now } } else s

/-- The lock is released: staged key bytes and limit are zeroed (R333). -/
def State.freeLock (s : State) : State := ({ s with ciph := { s.ciph with lock := 0 } }).zeroKeys

/-- TAKE (R332): granted only while the lock is free. -/
def State.takeLock (o : Origin) (s : State) : State :=
  if s.ciph.lock ≠ 0 then s.raise Reg.CIPH_STATUS 8
  else if ownerClass o = 0 then s.ignored
  else { s with ciph := { s.ciph with lock := ownerClass o, lockTick := s.time.now } }

/-- A write of CIPH_LOCK; RELEASE counts from the owner only (R333). -/
def State.writeLock (o : Origin) (v : Word) (s : State) : State :=
  s.gateWrite o Reg.CIPH_LOCK v (fun _ s =>
    let s1 := s.touchLock o
    let s2 := if bit v 8 then s1.takeLock o else s1
    if bit v 9 && s1.ownsLock o then s2.freeLock else s2)

/-- LOCK_TAKE (R332). -/
def execLockTake (t : Nat) (o : Origin) (v : Word) (s : State) : Host.Outcome State Fault Refusal :=
  .next ((s.advanceTo t).writeLock o ((v &&& ~~~ 0x200) ||| 0x100))

/-- LOCK_RELEASE (R333). -/
def execLockRelease (t : Nat) (o : Origin) (v : Word) (s : State) : Host.Outcome State Fault Refusal :=
  .next ((s.advanceTo t).writeLock o ((v &&& ~~~ 0x100) ||| 0x200))

/-- LOCK_IDLE_TIMEOUT (R333): LOCKTO ms without an access from the owner. -/
def execLockIdleTimeout (t : Nat) (s : State) : Host.Outcome State Fault Refusal :=
  let s1 := s.advanceTo t
  .next <|
    if s1.ciph.lock ≠ 0 ∧ s1.ciph.lockTick + s1.regField Reg.CIPH_CTRL 7 0 * msTicks ≤ s1.time.now then
      (s1.freeLock.raise Reg.CIPH_STATUS 0x10).record 0x9003 [s1.ciph.lock]
    else s1

/-! ### Key registers -/

/-- The class an event names; in-band access has none (log 11). -/
def classItem (o : Origin) : Nat := if ownerClass o = 0 then Config.itemCode 0x9002 0 else ownerClass o

/-- A write only the lock's owner may make (R333). -/
def State.ownerWrite (o : Origin) (a : Nat) (v : Word) (act : State → State) (s : State) : State :=
  s.gateWrite o a v (fun _ s =>
    if s.ownsLock o then act (s.touchLock o)
    else ((s.raise Reg.CIPH_STATUS 4).ignored).recordOnce 0x9002 0 [classItem o, a])

def State.writeKsel (o : Origin) (v : Word) (s : State) : State :=
  s.ownerWrite o Reg.CIPH_KSEL v (fun s => s.setPathReg o Reg.CIPH_KSEL (v &&& fieldMask 12 0))

def State.writeDefslot (o : Origin) (v : Word) (s : State) : State :=
  s.ownerWrite o Reg.CIPH_DEFSLOT v (fun s => s.setReg Reg.CIPH_DEFSLOT (v &&& fieldMask 12 0))

def State.writeKey (o : Origin) (i : Nat) (v : Word) (s : State) : State :=
  s.ownerWrite o (Reg.CIPH_KEY0 + 4 * i) v (fun s => { s with ciph := { s.ciph with keys := NMap.put s.ciph.keys i v } })

def State.writeLimLo (o : Origin) (v : Word) (s : State) : State :=
  s.ownerWrite o Reg.CIPH_LIMSET_LO v (fun s => s.stage o Reg.CIPH_LIMSET_LO v)

def State.writeLimHi (o : Origin) (v : Word) (s : State) : State :=
  s.ownerWrite o Reg.CIPH_LIMSET_HI v (fun s =>
    { s with ciph := { s.ciph with limset := (s.staged o Reg.CIPH_LIMSET_LO).toNat + bits v 15 0 * 2 ^ 32 } })

/-- The 32 bytes of staged key words `from_` on, least significant byte first (R325). -/
def State.stagedKey (s : State) (from_ : Nat) : List Byte :=
  ((List.range 8).map (fun i => leBytes 4 (NMap.getD s.ciph.keys (from_ + i) 0).toNat)).flatten

/-! ### Key commands (R334, Table 15.1) -/

/-- Slot states (R331): 0 EMPTY, 1 LOADED, 2 BOUND. -/
def slotState : Option Slot → Nat
  | none => 0
  | some k => if k.refs = 0 then 1 else 2

/-- The first code of Table 15.1 that refuses an operation: 1 LOAD_XTS, 2 LOAD_GCM, 3 CLEAR, 4 SETLIMIT. -/
def State.keyCode (s : State) (cls slot op : Nat) : Nat :=
  let k := NMap.find s.ciph.slots slot
  let st := slotState k
  let load := decide (op ≤ 2)
  let foreign := match k with | some x => x.owner != cls | none => false
  let xts := match k with | some x => !x.gcm | none => false
  if foreign && (if load then st == 1 else true) then 1
  else if st = 2 ∧ op ≤ 3 then 2
  else if load && st == 1 then 3
  else if !load && (st == 0 || (op == 4 && xts)) then 4
  else if op = 1 ∧ s.stagedKey 0 = s.stagedKey 8 then 5
  else if op = 4 ∧ (s.ciph.limset = 0 ∨ 2 ^ 48 ≤ s.ciph.limset) then 6
  else 0

/-- An entry for a change that no admin command asked for. -/
def noSqe : Sqe :=
  { opcode := 0, fuse := 0, cid := 0, nsid := 0, dw4 := 0, dw5 := 0, dw6 := 0, dw7 := 0, dw8 := 0, dw9 := 0, dw10 := 0, dw11 := 0,
    dw12 := 0, dw13 := 0, dw14 := 0, dw15 := 0 }

/-- A change of an XTS slot takes effect on both heads (R327); BUSY stands until the partner answers. -/
def State.proposeKey (c : PairChange) (s : State) : State :=
  ({ s with ciph := { s.ciph with busy := true } }).propose c 0 noSqe

/-- The operation of a key command that is not refused. -/
def State.runKey (cls slot op : Nat) (s : State) : State :=
  match op with
  | 1 => s.proposeKey (.keyLoad slot cls (s.stagedKey 0) (s.stagedKey 8))
  | 2 =>
    let x : Slot := { gcm := true, owner := cls, refs := 0, key1 := s.stagedKey 0, key2 := [], ctr := 0, limit := 2 ^ 32, due := false,
                      exhausted := false }
    (({ s with ciph := { s.ciph with slots := NMap.put s.ciph.slots slot x } }).endKey slot 2 0).offerRekeys
  | 3 =>
    if (match NMap.find s.ciph.slots slot with | some k => k.gcm | none => false) then
      ({ s with ciph := { s.ciph with slots := NMap.del s.ciph.slots slot } }).endKey slot 3 0
    else s.proposeKey (.keyClear slot)
  | _ =>
    let lim := s.ciph.limset
    ((((s.updSlot slot (fun k => { k with limit := lim, exhausted := k.exhausted && decide (lim ≤ k.ctr) })).judgeSlot slot).endKey slot 4
      0)).offerRekeys

/-- Modes in which CIPH_KCMD is ignored (R334). -/
def Mode.noKeys (m : Mode) : Bool := m == .reset || m == .locked || m == .holdup || m == .preservation

/-- A write of CIPH_KCMD (R334). -/
def State.writeKcmd (o : Origin) (v : Word) (s : State) : State :=
  s.ownerWrite o Reg.CIPH_KCMD v (fun s =>
    let op := bits v 2 0
    let slot := bits (s.pathReg o Reg.CIPH_KSEL) 12 0
    if s.md.mode.noKeys || s.ciph.busy then s.ignored
    else if op = 0 ∨ 4 < op then s
    else
      let c := s.keyCode (ownerClass o) slot op
      if c = 0 then s.runKey (ownerClass o) slot op else s.endKey slot op c)

/-- A key command with an operation put in. -/
def withOp (op : Nat) (v : Word) : Word := (v &&& ~~~ 7) ||| BitVec.ofNat 32 op

/-- LOAD_XTS (R325, R327). -/
def execLoadXts (t : Nat) (o : Origin) (v : Word) (s : State) : Host.Outcome State Fault Refusal :=
  .next ((s.advanceTo t).writeKcmd o (withOp 1 v))

/-- LOAD_GCM (R328). -/
def execLoadGcm (t : Nat) (o : Origin) (v : Word) (s : State) : Host.Outcome State Fault Refusal :=
  .next ((s.advanceTo t).writeKcmd o (withOp 2 v))

/-- CLEAR (R334). -/
def execKeyClear (t : Nat) (o : Origin) (v : Word) (s : State) : Host.Outcome State Fault Refusal :=
  .next ((s.advanceTo t).writeKcmd o (withOp 3 v))

/-- SETLIMIT (R329). -/
def execSetLimit (t : Nat) (o : Origin) (v : Word) (s : State) : Host.Outcome State Fault Refusal :=
  .next ((s.advanceTo t).writeKcmd o (withOp 4 v))

end Sys2Proof.Machine
end

