-- ==== Sys2Proof/Machine/Health.lean ====
section
/-!
DEFINITION. Health figures and log pages (Tables 7.10, 9.8, 9.11, 11.8), and Identify data (Tables 9.3, 9.5).
-/

namespace Sys2Proof.Machine

/-! ### Health figures (Table 7.10) -/

/-- Dies in use on member modules. -/
def State.memberDies (s : State) : List Nat := s.flash.dies.filter (fun d => s.strp.order.contains (d / 128))

/-- Blocks of some dies, by the die model of their port. -/
def State.blocksOf (s : State) (ds : List Nat) : Nat :=
  (ds.map (fun d => match s.portModel (d / 128) with | some m => m.planes * m.blkPerPlane | none => 0)).sum

/-- Blocks of the member dies in use. -/
def State.blockCount (s : State) : Nat := s.blocksOf s.memberDies

/-- Blocks of some dies that run in SLC mode: the image's set on every plane (R152). -/
def State.slcOf (s : State) (ds : List Nat) : Nat :=
  (ds.map (fun d => match s.portModel (d / 128) with | some m => m.planes * s.image.slcSet.length | none => 0)).sum

/-- Blocks MAP_UNITS takes at 1:1 in the current shape. -/
def State.mapBlocks (s : State) : Nat :=
  let b := s.maxModel DieModel.denseBytes
  if b = 0 ∨ s.strp.k = 0 then 0 else ceilDiv (s.mapUnits * 65536 * (s.strp.k + s.strp.m)) (s.strp.k * b)

/-- Retired blocks of some dies; a block of the model stands for one on every plane of its die (R152). -/
def State.badOf (s : State) (ds : List Nat) : Nat :=
  (s.faults.retired.map (fun u => match u with
    | .block d _ => if ds.contains d then (match s.portModel (d / 128) with | some m => m.planes | none => 0) else 0
    | _ => 0)).sum

def State.badBlocks (s : State) : Nat := s.badOf s.memberDies

/-- Spare blocks of some dies: good blocks beyond those that the map needs of them, and the landing share with the system band
(Table 7.10). -/
def State.spareOf (s : State) (ds : List Nat) (map : Nat) : Nat := s.blocksOf ds - s.badOf ds - map - s.slcOf ds

/-- Spare blocks of the device now. -/
def State.spareBlocks (s : State) : Nat := s.spareOf s.memberDies s.mapBlocks

/-- Spare blocks of a module port now; its part of the map's blocks is an even share (DESIGN CHOICE, log 40). -/
def State.portSpareBlocks (s : State) (p : Nat) : Nat := s.spareOf (s.portDies p) (ceilDiv s.mapBlocks (max 1 s.strp.order.length))

/-- SPARE in percent: 0, the register's reset value, until there is a first format to compare with. -/
def spareFigure (now first : Nat) : Nat := if first = 0 then 0 else 100 * now / first

/-- SPARE of the device (Table 7.10). -/
def State.spare (s : State) : Nat := spareFigure s.spareBlocks s.flash.spareFirst

/-- SPARE of a module port (R169). -/
def State.portSpare (s : State) (p : Nat) : Nat := spareFigure (s.portSpareBlocks p) (NMap.getD s.flash.portSpareFirst p 0)

/-- WEAR of the device (Table 7.10). -/
def State.wear (s : State) : Nat := s.wearOf s.memberDies

/-- WEAR of a module port (R169). -/
def State.portWear (s : State) (p : Nat) : Nat := s.wearOf (s.portDies p)

/-- EDSTT in minutes: ⌈360 × raw TiB ÷ 256⌉ (Table 9.3). -/
def State.edstt (s : State) : Nat := ceilDiv (360 * s.rawBytes) (256 * 2 ^ 40)

/-- Uncorrectable codewords of all dies (Table 9.11). -/
def State.mediaErrors (s : State) : Nat :=
  ((s.tally.live.filter (fun p => decide (4096 ≤ p.1 ∧ p.1 < 36864) && (p.1 - 4096) % 16 == 12)).map (fun p => p.2 % 2 ^ 48)).sum

/-- Critical Warning (Table 9.11). -/
def State.criticalWarning (s : State) : Nat :=
  let kelvin := (s.elec.temp + 273).toNat
  let hot := decide (s.nvq.tempOver ≤ kelvin ∨ kelvin < s.nvq.tempUnder)
  let fresh := match s.faults.lastRetire with | some t => decide (s.time.now < t + faultWindowTicks) | none => false
  let degraded := s.path.stripes.any (fun x => !x.skipped.isEmpty)
  b2n (s.flash.spareFirst != 0 && decide (s.spare < 10)) + 2 * b2n hot + 4 * b2n (fresh || degraded) + 8 * b2n (s.md.mode == .preservation)

/-! ### Pages of bytes -/

/-- A page built from named fields (offset and bytes); the bytes no field gives are the standard's (free). -/
def pageOf (silent : Nat → Byte) (len : Nat) (fs : List (Nat × List Byte)) : List Byte :=
  (List.range len).map (fun i =>
    match fs.find? (fun f => decide (f.1 ≤ i ∧ i < f.1 + f.2.length)) with
    | some (o, bs) => bs.getD (i - o) 0
    | none => silent i)

/-! ### Logs (Table 9.8) -/

/-- Log 01h: 64-byte entries; SQID, CID and status lie where the NVM Express specifications put them. -/
def State.errorLog (s : State) : List Byte :=
  (s.nvq.errors.map (fun (_, qid, cid, st) =>
    pageOf (Config.logByte 1) 64 [(8, leBytes 2 qid), (10, leBytes 2 cid), (12, leBytes 2 st)])).flatten
    ++ padBytes (64 * (256 - s.nvq.errors.length)) 0

/-- Log 02h (Table 9.11), in the layout of the NVM Express specifications. -/
def State.smartLog (s : State) : List Byte :=
  pageOf (Config.logByte 2) 512
    [(0, leBytes 1 s.criticalWarning), (1, leBytes 2 (s.elec.temp + 273).toNat), (3, leBytes 1 s.spare), (4, leBytes 1 10),
     (5, leBytes 1 s.wear), (32, leBytes 16 (ceilDiv s.nvq.bytesRead 512000)),
     (48, leBytes 16 (ceilDiv s.nvq.bytesWritten 512000)), (64, leBytes 16 s.nvq.hostReads),
     (80, leBytes 16 s.nvq.hostWrites), (112, leBytes 16 s.md.powerCycles),
     (128, leBytes 16 ((s.md.onTicks + s.time.now) / (3600 * secondTicks))), (144, leBytes 16 s.md.unsafeShutdowns),
     (160, leBytes 16 s.mediaErrors)]

/-- Log 06h: the running operation, its progress, and 20 results of 28 bytes. -/
def State.testLog (s : State) : List Byte :=
  [BitVec.ofNat 8 s.nvq.testOp, BitVec.ofNat 8 s.nvq.testPercent]
    ++ pageOf (Config.logByte 6) 562 ((s.nvq.testResults.zipIdx.map (fun ((op, res, seg), i) =>
        (2 + 28 * i, [BitVec.ofNat 8 (op * 16 + res), BitVec.ofNat 8 seg]))))

/-- Log C0h: an entry a reservation index; those of undefined reservations and of mirror images are zero. -/
def State.resvLog (s : State) : List Byte :=
  ((List.range 512).map (fun i => match NMap.find s.adm.resv i with
    | some r => if r.home then resvBytes (s.resvNow r) else padBytes 16 0
    | none => padBytes 16 0)).flatten

/-- A signed number in two's complement. -/
def signedNat (w : Nat) (v : Int) : Nat := (v % (2 ^ w : Nat)).toNat

/-- Ports of a list as a mask. -/
def portMask (l : List Nat) : Nat := maskOf (l.filter (· < 16))

/-- Log C1h (Table 11.8). -/
def State.pairLog (s : State) : List Byte :=
  let m := s.moor
  leBytes 4 m.epoch
    ++ leBytes 1 (m.head % 2 + 2 * s.regField Reg.MOOR_CTRL 22 22 + 4 * s.regField Reg.MOOR_CTRL 23 23)
    ++ leBytes 1 s.md.mode.code ++ leBytes 1 m.pmode
    ++ leBytes 1 (b2n m.dx.alive + 2 * b2n m.bp.alive + 16 * b2n m.dx.faulty + 32 * b2n m.bp.faulty)
    ++ leBytes 8 m.eOwn ++ leBytes 8 m.eP
    ++ leBytes 4 (maskOf ((List.range 3).filter (fun i => (m.voters[i]?).any (·.ok))) + 8 * b2n m.twoOfTwo)
    ++ ((List.range 3).map (fun i => leBytes 4 (satTo 32 (s.counter (14 + i))))).flatten
    ++ leBytes 2 (satTo 16 m.dx.losses) ++ leBytes 2 (satTo 16 m.bp.losses) ++ leBytes 2 (satTo 16 m.bothLosses) ++ leBytes 2 0
    ++ leBytes 8 m.lastTakeover ++ leBytes 8 m.dirty.length ++ leBytes 8 m.readbacks ++ leBytes 8 m.readbackFails
    ++ leBytes 2 (portMask m.spareOk) ++ leBytes 2 (portMask m.spareFail) ++ leBytes 4 (signedNat 32 m.skew)
    ++ padBytes 40 0

/-- Log C2h: 17 scopes of 16 buckets (Table 7.10). -/
def State.tempLog (s : State) : List Byte :=
  ((List.range 272).map (fun i => leBytes 8 (NMap.getD s.flash.tempHist i 0))).flatten

/-- Log C3h: orphaned completions, newest first. -/
def State.orphanLog (s : State) : List Byte :=
  (s.nvq.orphans.map (fun (cntl, qid, c) =>
    leBytes 2 cntl ++ leBytes 2 qid ++ leBytes 2 c.cid ++ leBytes 2 (statusWord c.sct c.sc) ++ leBytes 4 c.dw0
      ++ leBytes 4 0)).flatten ++ padBytes (16 * (4096 - s.nvq.orphans.length)) 0

/-- A log page by identifier (R215). -/
def State.logPage (s : State) (lid : Nat) : Option (List Byte) :=
  match lid with
  | 0x01 => some s.errorLog
  | 0x02 => some s.smartLog
  | 0x06 => some s.testLog
  | 0xC0 => some s.resvLog
  | 0xC1 => some s.pairLog
  | 0xC2 => some s.tempLog
  | 0xC3 => some s.orphanLog
  | _ => none

/-! ### Identify -/

/-- Identify Controller (Table 9.3). -/
def State.idController (s : State) (cntl : Nat) : List Byte :=
  pageOf (Config.identifyByte 1) 4096
    [(77, leBytes 1 10), (78, leBytes 2 cntl), (256, leBytes 2 0x0018), (258, leBytes 1 3), (259, leBytes 1 3),
     (261, leBytes 1 0x04), (316, leBytes 2 s.edstt), (512, leBytes 1 0x66), (513, leBytes 1 0x44), (516, leBytes 4 16384),
     (520, leBytes 2 0x000D), (525, leBytes 1 0)]

/-- Identify Namespace: size, formats (Table 4.2) and DLFEAT (R82). -/
def idNamespace (n : Ns) : List Byte :=
  pageOf (Config.identifyByte 0) 4096
    [(0, leBytes 8 (16 * n.units)), (8, leBytes 8 (16 * n.units)), (25, leBytes 1 1), (26, leBytes 1 n.lbaf),
     (33, leBytes 1 0x19), (128, leBytes 4 (12 * 65536)), (132, leBytes 4 (16 + 12 * 65536))]

/-- A list of identifiers above `from_`, of `w` bytes each, in a page of 4,096 bytes. -/
def idList (w from_ : Nat) (ids : List Nat) : List Byte :=
  ((((ids.filter (from_ < ·)).mergeSort (· ≤ ·)).map (leBytes w)).flatten ++ padBytes 4096 0).take 4096

/-- A controller list: its count, then the identifiers from `from_` on. -/
def idControllers (from_ : Nat) (ids : List Nat) : List Byte :=
  let l := (ids.filter (from_ ≤ ·)).mergeSort (· ≤ ·)
  ((leBytes 2 l.length ++ (l.map (leBytes 2)).flatten) ++ padBytes 4096 0).take 4096

/-- What Identify returns for a CNS (Table 9.5); none where the namespace is not this head's. -/
def State.identifyData (s : State) (cntl cns nsid : Nat) : Option (List Byte) :=
  let served := (s.nvq.ns.filter (fun p => p.2.served))
  let this := served.find? (fun p => p.1 + 1 == nsid)
  match cns with
  | 0x00 => this.map (fun p => if p.2.attached.contains cntl then idNamespace p.2 else padBytes 4096 0)
  | 0x01 => some (s.idController cntl)
  | 0x02 => some (idList 4 nsid ((served.filter (fun p => p.2.attached.contains cntl)).map (fun p => p.1 + 1)))
  | 0x03 => this.map (fun _ => (List.range 4096).map (Config.identifyByte 3))
  | 0x10 => some (idList 4 nsid (served.map (fun p => p.1 + 1)))
  | 0x11 => this.map (fun p => idNamespace p.2)
  | 0x12 => this.map (fun p => idControllers 0 p.2.attached)
  | 0x13 => some (idControllers 0 (NMap.keys s.nvq.ctrls))
  | _ => none

end Sys2Proof.Machine
end

