-- ==== Sys2Proof/Machine/NvmeAdmin.lean ====
section
/-!
DEFINITION. The standard admin commands: queues (R193 to R196), logs and Identify (R207, R215), Abort (R210), features (R72, R98, R99,
R118, R119), notices (R216), namespaces (R22, R80, R208, R326) and self-test (R213, R214).
-/

namespace Sys2Proof.Machine

/-! ### Queues -/

/-- Where a completion queue stands until its submission queue gives the pair a DQN. -/
def loneKey (cntl qid : Nat) : Nat := 2 ^ 20 + cntl * 65536 + qid

/-- QID, QSIZE as a number of entries, PC, IEN and CQID of the queue commands. -/
def qidOf (e : Sqe) : Nat := bits e.dw10 15 0
def qsizeOf (e : Sqe) : Nat := bits e.dw10 31 16 + 1
def qpcOf (e : Sqe) : Bool := bit e.dw11 0
def qienOf (e : Sqe) : Bool := bit e.dw11 1
def cqidOf (e : Sqe) : Nat := bits e.dw11 31 16

/-- A QID a controller may give to a new queue: nonzero and inside its grant. -/
def State.qidAllowed (s : State) (cntl qid : Nat) : Bool :=
  match NMap.find s.nvq.ctrls cntl with | some c => decide (1 ≤ qid ∧ qid ≤ c.grant) | none => false

/-- A free device queue number (R193). -/
def State.freeDqn (s : State) : Option Nat :=
  firstFree 1 (min (s.regField Reg.NVQ_CTRL 13 0) 16383) (fun i => NMap.has s.nvq.cqs i)

/-- Create a completion queue (R195). -/
def State.createCq (cntl : Nat) (e : Sqe) (regionOk : Bool) (s : State) : State :=
  let qid := qidOf e
  if (s.cqKey cntl qid).isSome || !s.qidAllowed cntl qid then s.completeAdmin cntl e 1 0x01 0
  else if 65535 < qsizeOf e then s.completeAdmin cntl e 1 0x02 0
  else if !qpcOf e then s.invalidField cntl e
  else if !regionOk then s.completeAdmin cntl e 7 0x86 0
  else
    let q : Cq :=
      { cntl := cntl, qid := qid, dqn := 0, size := qsizeOf e, key := dkeyOf e, offset := dofsOf e, head := 0, tail := 0,
        phase := true, epoch := 0, ien := qienOf e, held := [], unnotified := 0, notifyFrom := 0 }
    ({ s with nvq := { s.nvq with cqs := NMap.put s.nvq.cqs (loneKey cntl qid) q } }).completeAdmin cntl e 0 0 0

/-- Create a submission queue (R194): the pair takes its DQN, or keeps the one its completion queue still has. -/
def State.createSq (cntl : Nat) (e : Sqe) (regionOk : Bool) (s : State) : State :=
  let qid := qidOf e
  match (if cqidOf e = qid ∧ qid ≠ 0 then s.cqKey cntl qid else none) with
  | none => s.completeAdmin cntl e 1 0x00 0
  | some key =>
    if (s.queueKey cntl qid).isSome || !s.qidAllowed cntl qid then s.completeAdmin cntl e 1 0x01 0
    else if 65535 < qsizeOf e then s.completeAdmin cntl e 1 0x02 0
    else if !qpcOf e then s.invalidField cntl e
    else if !regionOk then s.completeAdmin cntl e 7 0x86 0
    else
      match (if key < 16384 then some key else s.freeDqn), NMap.find s.nvq.cqs key with
      | some dqn, some c =>
        let q : Sq :=
          { cntl := cntl, qid := qid, dqn := dqn, size := qsizeOf e, key := dkeyOf e, offset := dofsOf e, head := 0, tail := 0,
            epoch := 0, holdLimit := 0, deleting := none }
        let s1 := { s with nvq := { s.nvq with
          sqs := NMap.put s.nvq.sqs dqn q, cqs := NMap.put (NMap.del s.nvq.cqs key) dqn { c with dqn := dqn } } }
        (s1.record 0x6002 [cntl, qid, dqn, qsizeOf e]).completeAdmin cntl e 0 0 dqn
      | _, _ => (s.record 0x6004 [cntl]).completeAdmin cntl e 1 0x01 0

/-- Delete a submission queue (R196): held commands end; the deletion ends after the last completion. -/
def State.deleteSq (cntl : Nat) (e : Sqe) (s : State) : State :=
  match (if qidOf e = 0 then none else s.queueKey cntl (qidOf e)) with
  | none => s.completeAdmin cntl e 1 0x01 0
  | some key =>
    if (match NMap.find s.nvq.sqs key with | some q => q.deleting.isSome | none => true) then
      s.completeAdmin cntl e 1 0x01 0
    else
      let s1 := (s.adm.held.filter (fun h => h.dqn == key)).foldl (fun s h => s.endHeld h 0 0x08) s
      (s1.updSq key (fun q => { q with deleting := some e.cid })).settle cntl

/-- Delete a completion queue (R196). -/
def State.deleteCq (cntl : Nat) (e : Sqe) (s : State) : State :=
  match (if qidOf e = 0 then none else s.cqKey cntl (qidOf e)) with
  | none => s.completeAdmin cntl e 1 0x01 0
  | some key =>
    if (s.queueKey cntl (qidOf e)).isSome then s.completeAdmin cntl e 1 0x0C 0
    else ({ s with nvq := { s.nvq with cqs := NMap.del s.nvq.cqs key } }).completeAdmin cntl e 0 0 0

/-- CREATE_IO_SQ (R194). -/
def execCreateIoSq (t cntl : Nat) (e : Sqe) (regionOk : Bool) (s : State) : Host.Outcome State Fault Refusal :=
  .next ((s.advanceTo t).admin cntl e false (State.createSq cntl e regionOk))

/-- CREATE_IO_CQ (R195). -/
def execCreateIoCq (t cntl : Nat) (e : Sqe) (regionOk : Bool) (s : State) : Host.Outcome State Fault Refusal :=
  .next ((s.advanceTo t).admin cntl e false (State.createCq cntl e regionOk))

/-- DELETE_IO_SQ (R196). -/
def execDeleteIoSq (t cntl : Nat) (e : Sqe) (s : State) : Host.Outcome State Fault Refusal :=
  .next ((s.advanceTo t).admin cntl e false (State.deleteSq cntl e))

/-- DELETE_IO_CQ (R196). -/
def execDeleteIoCq (t cntl : Nat) (e : Sqe) (s : State) : Host.Outcome State Fault Refusal :=
  .next ((s.advanceTo t).admin cntl e false (State.deleteCq cntl e))

/-! ### Logs and Identify -/

/-- Get Log Page (R215): the dwords and offset asked for; RAE clear ends the log's notices, and reading C3h clears it. -/
def State.getLog (cntl : Nat) (e : Sqe) (s : State) : State :=
  let lid := bits e.dw10 7 0
  let n := bits e.dw10 31 16 + bits e.dw11 15 0 * 65536 + 1
  let off := e.dw12.toNat + e.dw13.toNat * 2 ^ 32
  match s.logPage lid with
  | none => s.completeAdmin cntl e 1 0x09 0
  | some d =>
    if off % 4 ≠ 0 ∨ d.length < off then s.invalidField cntl e
    else
      let s1 := s.adminData cntl e ((d.drop off).take (4 * n))
      let s2 := if bit e.dw10 15 then s1 else s1.clearNotices cntl lid
      let s3 := if lid = 0xC3 then { s2 with nvq := { s2.nvq with orphans := [] } } else s2
      s3.completeAdmin cntl e 0 0 0

/-- GET_LOG_PAGE (R215). -/
def execGetLogPage (t cntl : Nat) (e : Sqe) (s : State) : Host.Outcome State Fault Refusal :=
  .next ((s.advanceTo t).admin cntl e true (State.getLog cntl e))

/-- Identify (Table 9.5): CNS values outside the list end with Invalid Field, a namespace not served here with Invalid Namespace. -/
def State.identify (cntl : Nat) (e : Sqe) (s : State) : State :=
  let cns := bits e.dw10 7 0
  if !(cns ∈ [0x00, 0x01, 0x02, 0x03, 0x10, 0x11, 0x12, 0x13]) then s.invalidField cntl e
  else
    match s.identifyData cntl cns e.nsid with
    | none => s.completeAdmin cntl e 0 0x0B 0
    | some d => (s.adminData cntl e d).completeAdmin cntl e 0 0 0

/-- IDENTIFY (R207). -/
def execIdentify (t cntl : Nat) (e : Sqe) (s : State) : Host.Outcome State Fault Refusal :=
  .next ((s.advanceTo t).admin cntl e true (State.identify cntl e))

/-! ### Abort -/

/-- A caught command (R210): Command Abort Requested, its bookings released, event 0x6020. -/
def State.caught (cntl qid cid : Nat) (s : State) : Option State :=
  let note := fun (s : State) => (s.raise Reg.NVQ_STATUS 8).record 0x6020 [cntl, qid, cid]
  if qid = 0 then none
  else
    match s.adm.held.find? (fun h => h.cntl == cntl && h.qid == qid && h.cmd.cid == cid) with
    | some h => some (note (s.endHeld h 0 0x07))
    | none =>
      match s.rcmd? cntl qid cid with
      | some c =>
        if c.cmd.opcode == opRead && !c.delivered then some (note (s.endRcmd c 0 0x07)) else none
      | none => none

/-- Abort (R210): the fifth of one tick is one too many. -/
def State.abort (cntl : Nat) (e : Sqe) (s : State) : State :=
  match NMap.find s.nvq.ctrls cntl with
  | none => s
  | some c =>
    let n := if c.abortTick = s.time.now then c.aborts else 0
    if 4 ≤ n then s.completeAdmin cntl e 1 0x03 0
    else
      let s1 := s.updCtrl cntl (fun c => { c with aborts := n + 1, abortTick := s.time.now })
      match s1.caught cntl (bits e.dw10 15 0) (bits e.dw10 31 16) with
      | some s2 => s2.completeAdmin cntl e 0 0 0
      | none => s1.completeAdmin cntl e 0 0 1

/-- ABORT (R210). -/
def execAbort (t cntl : Nat) (e : Sqe) (s : State) : Host.Outcome State Fault Refusal :=
  .next ((s.advanceTo t).admin cntl e true (State.abort cntl e))

/-! ### Features (Table 9.6) -/

/-- The namespace a namespace feature names, at the head that serves it (R22). -/
def State.featureNs (s : State) (nsid : Nat) : Option Ns :=
  match (if nsid = 0 then none else s.ns? (volOf nsid)) with
  | some n => if n.served then some n else none
  | none => none

/-- Number of Queues: a grant from the free DQNs, at least 1. -/
def State.setQueues (cntl : Nat) (e : Sqe) (s : State) : State :=
  let ns := bits e.dw11 15 0
  let nc := bits e.dw11 31 16
  if ns = 0xFFFF ∨ nc = 0xFFFF then s.invalidField cntl e
  else
    let used := (s.nvq.sqs.filter (fun p => decide (p.1 < 16384) && p.2.cntl != cntl)).length
    let g := max 1 (min (min ns nc + 1) (min (s.regField Reg.NVQ_CTRL 13 0) 16383 - used))
    (s.updCtrl cntl (fun c => { c with grant := g })).completeAdmin cntl e 0 0 ((g - 1) * 65537)

/-- Temperature Threshold: the composite temperature only; THSEL 0 over, 1 under. -/
def State.setTemp (cntl : Nat) (e : Sqe) (s : State) : State :=
  let v := bits e.dw11 15 0
  if bits e.dw11 19 16 ≠ 0 then s.invalidField cntl e
  else
    match bits e.dw11 21 20 with
    | 0 => ({ s with nvq := { s.nvq with tempOver := v } }).completeAdmin cntl e 0 0 0
    | 1 => ({ s with nvq := { s.nvq with tempUnder := v } }).completeAdmin cntl e 0 0 0
    | _ => s.invalidField cntl e

/-- A C0h held in Relay reaches the limit of the queue it names (R34). -/
def State.expireRelay (x : Nat × Sqe × Nat) (s : State) : State :=
  match s.relayLimit x.1 x.2.1 x.2.2 with
  | some (dqn, limit) =>
    if limit ≤ s.time.now then
      (({ s with moor := { s.moor with relayHeld := s.moor.relayHeld.filter (fun y => y != x) } }).record 0x2101
        [resvItem (s.resvOf dqn), dqn, x.2.2]).complete x.1 0 x.2.1.cid 7 0x81 0 0
    else s
  | none => s

/-- Admission Hold Limit (R72): commands already past the new limit end in this tick. -/
def State.setHoldLimit (cntl : Nat) (e : Sqe) (s : State) : State :=
  match (if bits e.dw11 15 0 = 0 then none else s.queueKey cntl (bits e.dw11 15 0)) with
  | none => s.invalidField cntl e
  | some key =>
    let s1 := s.updSq key (fun q => { q with holdLimit := e.dw12.toNat })
    let s2 := (s1.adm.held.filter (fun h => h.dqn == key && s1.pastLimit h)).foldl (fun s h => s.holdExpire h) s1
    (s2.moor.relayHeld.foldl (fun s x => s.expireRelay x) s2).completeAdmin cntl e 0 0 0

/-- Compression Policy (R98 to R100); it is stored with the namespace, so the partner is told of it (DESIGN CHOICE, log 69). -/
def State.setCompression (cntl : Nat) (e : Sqe) (s : State) : State :=
  let mode := bits e.dw11 1 0
  let w := bits e.dw11 8 4
  let l := bits e.dw12 15 0
  match s.featureNs e.nsid with
  | none => s.completeAdmin cntl e 0 0x0B 0
  | some _ =>
    if mode = 3 ∨ (mode = 2 ∧ (w < 8 ∨ 18 < w ∨ l = 0)) then s.invalidField cntl e
    else
      let w := if mode = 2 then w else 0
      let l := if mode = 2 then l else 0
      (((s.updNs (volOf e.nsid) (fun n => { n with cmode := mode, cw := w, cl := l })).record 0x5001
        [volOf e.nsid, mode, w, l]).tellPartner (.compPolicy (volOf e.nsid) mode w l)).completeAdmin cntl e 0 0 0

/-- Dedup Policy (R118, R119). -/
def State.setDedup (cntl : Nat) (e : Sqe) (s : State) : State :=
  let mode := bits e.dw11 1 0
  match s.featureNs e.nsid with
  | none => s.completeAdmin cntl e 0 0x0B 0
  | some _ =>
    if mode = 3 then s.invalidField cntl e
    else if mode = 2 && !s.inlineFits then s.completeAdmin cntl e 7 0x80 4
    else s.propose (.dedupPolicy (volOf e.nsid) mode) cntl e

/-- Set Features by feature identifier (Table 9.6). -/
def State.setFeature (cntl : Nat) (e : Sqe) (s : State) : State :=
  match bits e.dw10 7 0 with
  | 0x01 => (s.updCtrl cntl (fun c => { c with arb := bits e.dw11 2 0 })).completeAdmin cntl e 0 0 0
  | 0x04 => s.setTemp cntl e
  | 0x07 => s.setQueues cntl e
  | 0x08 => (s.updCtrl cntl (fun c => { c with coalesce := bits e.dw11 15 0 })).completeAdmin cntl e 0 0 0
  | 0x0B => (s.updCtrl cntl (fun c => { c with aerConf := e.dw11.toNat })).completeAdmin cntl e 0 0 0
  | 0xC0 => s.setHoldLimit cntl e
  | 0xC1 => s.setCompression cntl e
  | 0xC2 => s.setDedup cntl e
  | _ => s.invalidField cntl e

/-- A feature's current value: dwords 0 and 1; none where the queue or namespace it names is not there. -/
def State.featureValue (cntl : Nat) (e : Sqe) (s : State) : Except Nat (Nat × Nat) :=
  let c := NMap.find s.nvq.ctrls cntl
  match bits e.dw10 7 0 with
  | 0x01 => .ok ((c.map (·.arb)).getD 0, 0)
  | 0x04 =>
    if bits e.dw11 19 16 ≠ 0 then .error 0x02
    else
      match bits e.dw11 21 20 with
      | 0 => .ok (s.nvq.tempOver, 0)
      | 1 => .ok (s.nvq.tempUnder, 0)
      | _ => .error 0x02
  | 0x07 => .ok (((c.map (·.grant)).getD 1 - 1) * 65537, 0)
  | 0x08 => .ok ((c.map (·.coalesce)).getD 0, 0)
  | 0x0B => .ok ((c.map (·.aerConf)).getD 0, 0)
  | 0xC0 =>
    match (if bits e.dw11 15 0 = 0 then none else s.queueKey cntl (bits e.dw11 15 0)).bind (NMap.find s.nvq.sqs) with
    | some q => .ok (q.holdLimit, 0)
    | none => .error 0x02
  | 0xC1 =>
    match s.featureNs e.nsid with
    | some n => .ok (n.cmode + n.cw * 16, n.cl)
    | none => .error 0x0B
  | 0xC2 =>
    match s.featureNs e.nsid with
    | some n => .ok (n.dedup, 0)
    | none => .error 0x0B
  | _ => .error 0x02

/-- Get Features: the current or saved value, the default, or what the feature allows: saveable, namespace-specific, changeable. -/
def State.getFeature (cntl : Nat) (e : Sqe) (s : State) : State :=
  let fid := bits e.dw10 7 0
  match s.featureValue cntl e with
  | .error sc => s.completeAdmin cntl e 0 sc 0
  | .ok (d0, d1) =>
    match bits e.dw10 10 8 with
    | 0 | 2 => s.complete cntl 0 e.cid 0 0 d0 d1
    | 1 =>
      let d := match fid with | 0x04 => (if bits e.dw11 21 20 = 0 then 65535 else 0) | 0x07 => 16382 * 65537 | 0xC1 => 1 | _ => 0
      s.completeAdmin cntl e 0 0 d
    | 3 => s.completeAdmin cntl e 0 0 (if fid = 0xC1 ∨ fid = 0xC2 then 7 else 4)
    | _ => s.invalidField cntl e

/-- The same entry with another feature identifier. -/
def withFid (f : Nat) (e : Sqe) : Sqe := { e with dw10 := (e.dw10 &&& ~~~(0xFF#32)) ||| BitVec.ofNat 32 f }

/-- SET_FEATURES (R207). -/
def execSetFeatures (t cntl : Nat) (e : Sqe) (s : State) : Host.Outcome State Fault Refusal :=
  .next ((s.advanceTo t).admin cntl e false (State.setFeature cntl e))

/-- SET_FEATURES_HOLD_LIMIT (R72). -/
def execSetFeaturesHoldLimit (t cntl : Nat) (e : Sqe) (s : State) : Host.Outcome State Fault Refusal :=
  .next ((s.advanceTo t).admin cntl (withFid 0xC0 e) false (State.setHoldLimit cntl (withFid 0xC0 e)))

/-- SET_FEATURES_COMPRESSION (R99). -/
def execSetFeaturesCompression (t cntl : Nat) (e : Sqe) (s : State) : Host.Outcome State Fault Refusal :=
  .next ((s.advanceTo t).admin cntl (withFid 0xC1 e) false (State.setCompression cntl (withFid 0xC1 e)))

/-- SET_FEATURES_DEDUP (R119). -/
def execSetFeaturesDedup (t cntl : Nat) (e : Sqe) (s : State) : Host.Outcome State Fault Refusal :=
  .next ((s.advanceTo t).admin cntl (withFid 0xC2 e) false (State.setDedup cntl (withFid 0xC2 e)))

/-- GET_FEATURES (R207). -/
def execGetFeatures (t cntl : Nat) (e : Sqe) (s : State) : Host.Outcome State Fault Refusal :=
  .next ((s.advanceTo t).admin cntl e true (State.getFeature cntl e))

/-! ### Asynchronous events -/

/-- Queue an Asynchronous Event Request; a fifth is one too many (Table 9.5). -/
def State.eventRequest (cntl : Nat) (e : Sqe) (s : State) : State :=
  match NMap.find s.nvq.ctrls cntl with
  | none => s
  | some c =>
    if 4 ≤ c.aers.length then s.completeAdmin cntl e 1 0x05 0
    else (s.updCtrl cntl (fun c => { c with aers := c.aers ++ [e.cid] })).reportNotice cntl

/-- ASYNC_EVENT_REQUEST (R216). -/
def execAsyncEventRequest (t cntl : Nat) (e : Sqe) (s : State) : Host.Outcome State Fault Refusal :=
  .next ((s.advanceTo t).admin cntl e false (State.eventRequest cntl e))

/-! ### Namespaces -/

/-- Volume numbers of this pair: its blocks of 256, or all of them where no pod is configured (R283). -/
def State.volBlocks (s : State) : List Nat :=
  if s.image.podPairs.isEmpty then List.range 64 else s.repl.blocks

/-- A volume number in use, or asked for in a commit that is under way. -/
def State.volTaken (s : State) (v : Nat) : Bool :=
  NMap.has s.nvq.ns v || s.moor.commits.any (fun k => match k.change with
    | .nsCreate w _ _ _ _ => w == v
    | .snapClone _ _ w _ => w == v
    | _ => false)

/-- The lowest free volume number of the pair (R208). -/
def State.freeVol (s : State) : Option Nat :=
  (s.volBlocks.filterMap (fun b => firstFree (256 * b) 256 s.volTaken)).foldl
    (fun a v => match a with | some x => some (min x v) | none => some v) none

/-- Free volume numbers of the pair. -/
def State.freeVols (s : State) : Nat :=
  256 * s.volBlocks.length - (s.nvq.ns.filter (fun p => s.volBlocks.contains (p.1 / 256))).length

/-- With fewer than 16 numbers free, and a master in the pod, the pair takes another block (R283); which one the master gives is free,
but where this pair's device is the master it is the lowest it does not hold. -/
def State.askBlock (s : State) : State :=
  if s.image.podPairs.isEmpty || decide (16 ≤ s.freeVols) then s
  else
    match s.repl.master with
    | none => s.noMaster
    | some m =>
      let b := if m = s.image.podSelf then (firstFree 0 64 (fun i => s.repl.blocks.contains i)).getD 0
        else s.freeValue.toNat % 64
      let s1 := if m = s.image.podSelf then s else s.spendFree
      if s1.repl.blocks.contains b then s1 else { s1 with repl := { s1.repl with blocks := s1.repl.blocks ++ [b] } }

/-- An XTS slot that holds a key. -/
def State.xtsReady (s : State) (n : Nat) : Bool :=
  match NMap.find s.ciph.slots n with | some k => !k.gcm | none => false

/-- The key slot of a new volume (R326): CIPH_DEFSLOT, or the lowest EMPTY slot, loaded on both heads with a random key and made the
default, event 0x9005. -/
def State.newKeySlot (s : State) : Option Nat × State :=
  let d := s.regField Reg.CIPH_DEFSLOT 12 0
  if s.xtsReady d then (some d, s)
  else
    match firstFree 0 8192 (fun n => NMap.has s.ciph.slots n) with
    | none => (none, s)
    | some n =>
      let c : PairChange := .keyLoad n 1 (Config.randomKey s.free) (Config.randomKey (s.free + 1))
      let s1 := s.spendFree.spendFree
      let s2 := if s1.mirrors then s1.emit (.commit 0 c)
        else { s1 with moor := { s1.moor with changes := s1.moor.changes ++ [c] } }
      let s3 := (s2.applyChange c true 0 0 0).2
      (some n, (s3.setReg Reg.CIPH_DEFSLOT (BitVec.ofNat 32 n)).record 0x9005 [n])

/-- Namespace Management create (R80, R208). -/
def State.createNs (cntl : Nat) (e : Sqe) (nsze ncap flbas : Nat) (s : State) : State :=
  if nsze ≠ ncap ∨ nsze % 16 ≠ 0 ∨ nsze = 0 then s.invalidField cntl e
  else if 1 < flbas then s.completeAdmin cntl e 1 0x0A 0
  else if s.mapUnits < s.unitsUsed + nsze / 16 then s.completeAdmin cntl e 1 0x15 0
  else
    let s0 := s.askBlock
    match s0.freeVol with
    | none => s0.completeAdmin cntl e 1 0x16 0
    | some vol =>
      match s0.newKeySlot with
      | (none, s1) => s1.completeAdmin cntl e 1 0x15 0
      | (some ks, s1) => s1.propose (.nsCreate vol flbas (nsze / 16) ks false) cntl e

/-- Namespace Management delete (R208), at the volume's home head. -/
def State.deleteNs (cntl : Nat) (e : Sqe) (s : State) : State :=
  match s.featureNs e.nsid with
  | none => s.completeAdmin cntl e 0 0x0B 0
  | some _ => s.propose (.nsDelete (volOf e.nsid)) cntl e

/-- Namespace Attachment (R22): SEL 0 attaches, 1 detaches; its refusals are those of the NVM Express specifications. -/
def State.attachNs (cntl : Nat) (e : Sqe) (cntls : List Nat) (s : State) : State :=
  match s.featureNs e.nsid with
  | none => s.completeAdmin cntl e 0 0x0B 0
  | some n =>
    let upd := fun (l : List Nat) => (s.updNs (volOf e.nsid) (fun n => { n with attached := l })).completeAdmin cntl e 0 0 0
    if cntls.isEmpty || cntls.any (fun c => !NMap.has s.nvq.ctrls c) then s.completeAdmin cntl e 1 0x1C 0
    else
      match bits e.dw10 3 0 with
      | 0 =>
        if cntls.any (fun c => n.attached.contains c) then s.completeAdmin cntl e 1 0x18 0 else upd (n.attached ++ cntls)
      | 1 =>
        if cntls.any (fun c => !n.attached.contains c) then s.completeAdmin cntl e 1 0x1A 0
        else upd (n.attached.filter (fun c => !cntls.contains c))
      | _ => s.invalidField cntl e

/-- NAMESPACE_CREATE (R208). -/
def execNamespaceCreate (t cntl : Nat) (e : Sqe) (nsze ncap flbas : Nat) (s : State) : Host.Outcome State Fault Refusal :=
  .next ((s.advanceTo t).admin cntl e false (State.createNs cntl e nsze ncap flbas))

/-- NAMESPACE_DELETE (R208). -/
def execNamespaceDelete (t cntl : Nat) (e : Sqe) (s : State) : Host.Outcome State Fault Refusal :=
  .next ((s.advanceTo t).admin cntl e false (State.deleteNs cntl e))

/-- NAMESPACE_ATTACHMENT (R22). -/
def execNamespaceAttachment (t cntl : Nat) (e : Sqe) (cntls : List Nat) (s : State) : Host.Outcome State Fault Refusal :=
  .next ((s.advanceTo t).admin cntl e false (State.attachNs cntl e cntls))

/-! ### Self-test -/

/-- Start a self-test (R213): 1 short, 2 extended. -/
def State.startTest (cntl : Nat) (e : Sqe) (stc : Nat) (s : State) : State :=
  if e.nsid ≠ 0 ∧ e.nsid ≠ 0xFFFFFFFF then s.invalidField cntl e
  else if s.nvq.testOp ≠ 0 then s.completeAdmin cntl e 1 0x1D 0
  else
    (({ s with nvq := { s.nvq with testOp := stc, testStart := s.time.now, testPercent := 0 } }).record 0x6030 [stc]).completeAdmin
      cntl e 0 0 0

/-- A self-test ends (R214): its result goes to log 06h, and event 0x6031 is recorded. -/
def State.endTest (result seg : Nat) (s : State) : State :=
  if s.nvq.testOp = 0 then s
  else
    ({ s with nvq := { s.nvq with
      testOp := 0, testPercent := 0,
      testResults := ((s.nvq.testOp, result, seg) :: s.nvq.testResults).take 20 } }).record 0x6031 [s.nvq.testOp, result, seg]

/-- The fault of a unit whose known-answer test failed (R214, R324): segment 1 numbers the decompression lanes from 32 on. -/
def State.katFault (seg unit : Nat) (s : State) : State :=
  match seg with
  | 1 =>
    if unit < 32 then (s.raise Reg.CMP_STATUS 1).fault (.clane unit) 0x5000 unit [unit, 0, 0]
    else s.fault (.dlane (unit - 32)) 0x5002 unit [unit - 32, 0, 0]
  | 2 => (s.raise Reg.CIPH_STATUS 1).fault (.pair unit) 0x9000 unit [unit, 256]
  | 3 => if unit < 8 then s.fault (.cluster unit) 0x5101 unit [unit, 0, 0] else s
  | _ => s

/-- SELF_TEST_SHORT (R213). -/
def execSelfTestShort (t cntl : Nat) (e : Sqe) (s : State) : Host.Outcome State Fault Refusal :=
  .next ((s.advanceTo t).admin cntl e false (State.startTest cntl e 1))

/-- SELF_TEST_EXTENDED (R213). -/
def execSelfTestExtended (t cntl : Nat) (e : Sqe) (s : State) : Host.Outcome State Fault Refusal :=
  .next ((s.advanceTo t).admin cntl e false (State.startTest cntl e 2))

/-- SELF_TEST_ABORT (R213, R214). -/
def execSelfTestAbort (t cntl : Nat) (e : Sqe) (s : State) : Host.Outcome State Fault Refusal :=
  .next ((s.advanceTo t).admin cntl e false (fun s1 =>
    if e.nsid ≠ 0 ∧ e.nsid ≠ 0xFFFFFFFF then s1.invalidField cntl e
    else (s1.endTest 1 0).completeAdmin cntl e 0 0 0))

/-- SELF_TEST_DONE (R214): no segment failed (0), or the first one that did, with the unit of a failed known-answer test. -/
def execSelfTestDone (t failedSegment : Nat) (katUnit : Option Nat) (s : State) : Host.Outcome State Fault Refusal :=
  let s1 := s.advanceTo t
  .next <|
    if s1.nvq.testOp = 0 then s1
    else
      let s2 := match katUnit with | some u => s1.katFault failedSegment u | none => s1
      s2.endTest (if failedSegment = 0 then 0 else 7) failedSegment

end Sys2Proof.Machine
end

