-- ==== Sys2Proof/Machine/Snapshots.lean ====
section
/-!
DEFINITION. Post-process and the membership filter (R122, R125, R126, R130), snapshots and clones (R131 to R136).
-/

namespace Sys2Proof.Machine

/-! ### Post-process -/

/-- Post-process runs: not in Preservation (R40), not under management overload (R50), not suspended (R130). -/
def State.postRuns (s : State) : Bool :=
  !s.ddup.suspended && !s.md.overload && (s.md.mode.admits || s.md.mode == .takeover)

/-- A hit (R126): a type 0x02 record with the ATICK, ASEQ_LO and WGEN of the record it replaces, and the entry becomes a reference. -/
def State.postHit (p : PpEnt) (e : MapEnt) (old : Record) (sgt : Nat) (s : State) : State :=
  let keys := match NMap.find s.ciph.slots old.keyslot with | some k => (k.key1, k.key2) | none => ([], [])
  let r : Record :=
    { old with kind := 2, comp := false, sample := false, geom := 0, plen := 32, seq := s.path.nextRecSeq,
               payload := xtsEncrypt keys.1 keys.2 (xtsTweak old.check) (beBytes 32 p.fp) }
  let s0 := { s with path := { s.path with nextRecSeq := s.path.nextRecSeq + 1 } }
  let (s1, _, _) := s0.appendRecord .home r (fun _ => slotOf s.time.now + ringSlots) true
  let s2 := (s1.addRef sgt).count 7
  let s3 := { s2 with path := { s2.path with
    map := NMap.put s2.path.map (grainKey p.vol p.grain) { e with kind := 4, sgt := sgt, seq := r.seq } } }.promote p.vol (p.grain / 4)
  let s4 := (s3.mapTouched).markDirty p.vol (p.grain / 4)
  if s4.mirrors then s4.emit (.mirror [r]) else s4

/-- The entry of a queued grain that post-process may still act on: the map's WGEN equals the queued one (R126). -/
def State.postEnt (s : State) (p : PpEnt) : Option (MapEnt × Record) :=
  match s.mapEnt p.vol p.grain with
  | some e =>
    if e.kind = 1 ∧ e.wgen = p.wgen then (s.storedAt e.band e.offset).map (fun x => (e, x.record)) else none
  | none => none

/-- POST_PROCESS_GRAIN (R126): the head of the queue is looked up; `indexEntry` is what the partition's pair answered where another pair
holds it. A cluster's mismatch leaves the grain queued, to be hashed again on another cluster where there is one (R130). -/
def execPostProcessGrain (t : Nat) (indexEntry : Option FpEnt) (agree : Bool) (cluster : Nat) (s : State) :
    Host.Outcome State Fault Refusal :=
  let s1 := s.advanceTo t
  .next <|
    match s1.ddup.ppq with
    | [] => s1
    | p :: rest =>
      if !s1.postRuns || !s1.clusterOk cluster || (p.cluster == some cluster && s1.clustersOk != [cluster]) then s1
      else if !agree then
        let s2 := { s1 with ddup := { s1.ddup with ppq := { p with cluster := some cluster } :: rest } }.useIsland .ddup cluster
        ((s2.raise Reg.DDUP_STATUS 1).count (ctrCluster cluster 4)).fault (.cluster cluster) 0x5101 cluster
          [cluster, p.vol, p.grain]
      else
        let s2 := ({ s1 with ddup := { s1.ddup with ppq := rest } }.useIsland .ddup cluster).count (ctrCluster cluster 0)
        match s2.postEnt p with
        | none => s2
        | some (e, r) =>
          match (s2.indexAnswer p.fp r.check.guard r.keyslot (some indexEntry)).join with
          | some i => if s2.overlayRoom p.vol p.grain then (s2.cachePut i).postHit p e r i.sgt else s2
          | none => s2.dedupInsert p.vol p.grain p.fp e r.check r.keyslot

/-- DDUP_FILL in 1/65,536 (Table 6.6). -/
def State.filterFill (s : State) : Nat := s.ddup.filter.length * 65536 / 2 ^ 36

/-- FILTER_SWAP (R122): above 0x8000 a filter built from the partitions takes the old one's place at one tick; `bits` are what the
partitions of other pairs give. -/
def execFilterSwap (t : Nat) (bits : List Nat) (s : State) : Host.Outcome State Fault Refusal :=
  let s1 := s.advanceTo t
  .next <|
    if s1.filterFill ≤ 0x8000 then s1
    else
      { s1 with ddup := { s1.ddup with
          filter := ((s1.ddup.index.map (fun e => filterBits e.fp)).flatten ++ bits.filter (· < 2 ^ 36)).eraseDups } }

/-! ### Snapshot accounting (R135) -/

/-- Entries of a snapshot that name stored bytes: data, zero records and shared grains. -/
def Ns.snapEnts (n : Ns) (id : Nat) : NMap MapEnt := (NMap.getD n.frozen id []).filter (fun p => p.2.kind != 3)

/-- The versions other than one snapshot: live maps, and the snapshots of every volume. -/
def State.otherEnts (s : State) (vol id : Nat) : List MapEnt :=
  NMap.vals s.path.map
    ++ (s.nvq.ns.map (fun p => (p.2.frozen.filter (fun f => !(p.1 == vol && f.1 == id))).map (fun f => NMap.vals f.2))).flatten.flatten

/-- A shared-grain entry, not reclaim pending, names the record of a map entry. -/
def Sgt.holds (e : MapEnt) (g : Sgt) : Bool := !g.pending && g.mirror == e.mirror && g.band == e.band && g.offset == e.offset

/-- An entry of a snapshot is held by nothing else: its record by no other version and through no shared-grain entry, a shared grain by
no reference but the snapshot's own, and its canonical record by no map entry. -/
def State.exclusive (s : State) (own : NMap MapEnt) (others : List MapEnt) (e : MapEnt) : Bool :=
  if e.kind = 4 then
    match NMap.find s.ddup.sgt e.sgt with
    | some g => g.refs == (own.filter (fun p => p.2.kind == 4 && p.2.sgt == e.sgt)).length
        && !others.any (fun o => o.kind == 1 && g.holds o)
    | none => false
  else !others.any (fun o => o.kind != 4 && o.kind != 3 && o.mirror == e.mirror && o.seq == e.seq)
    && !s.ddup.sgt.any (fun p => p.2.holds e)

/-- Stored record bytes of entries, each record once. -/
def State.entBytes (s : State) (es : List MapEnt) : Nat :=
  ((es.map (fun e => (s.entPlace e))).eraseDups.map (fun p => 64 + p.2.2)).sum

/-- A snapshot with its counts exact as of now. -/
def State.account (s : State) (vol id : Nat) (n : Ns) (x : Snap) : Snap :=
  let own := n.snapEnts id
  let others := s.otherEnts vol id
  let ex := (NMap.vals own).filter (s.exclusive own others)
  let sh := (NMap.vals own).filter (fun e => !s.exclusive own others e)
  { x with exclBytes := s.entBytes ex, sharedBytes := s.entBytes sh, exclGrains := ex.length, sharedGrains := sh.length,
           acctTick := s.time.now }

/-! ### C1h Snapshot (Table 6.4) -/

def c1Action (e : Sqe) : Nat := bits e.dw10 3 0
def c1SnapId (e : Sqe) : Nat := bits e.dw10 31 16
def c1Ro (e : Sqe) : Bool := bit e.dw11 0
def c1Page (e : Sqe) : Nat := bits e.dw11 17 16

/-- A refusal of C1h (R136). -/
def State.refuseC1h (cntl : Nat) (e : Sqe) (code : Nat) (s : State) : State :=
  (s.record 0x5404 [volOf e.nsid, code]).completeAdmin cntl e 0 0x02 code

/-- A snapshot that is in the namespace: defined, and not deleted. -/
def Ns.snap? (n : Ns) (id : Nat) : Option Snap :=
  match NMap.find n.snaps id with | some x => if x.reclaim then none else some x | none => none

/-- A read-only view of a snapshot is attached (R134). -/
def State.viewAttached (s : State) (vol id : Nat) : Bool :=
  s.nvq.ns.any (fun p => p.2.ro && p.2.cloneOf == some (vol, id))

/-- A SNAPID in use, or asked for in a commit that is under way. -/
def State.snapTaken (s : State) (vol : Nat) (n : Ns) (i : Nat) : Bool :=
  NMap.has n.snaps i || s.moor.commits.any (fun k => match k.change with
    | .snapCreate v j => v == vol && j == i
    | _ => false)

/-- C1h create (R131, R132). -/
def State.snapCreate (cntl : Nat) (e : Sqe) (n : Ns) (s : State) : State :=
  let vol := volOf e.nsid
  match firstFree 0 1024 (s.snapTaken vol n) with
  | none => s.refuseC1h cntl e 3
  | some id =>
    if 262144 ≤ (s.nvq.ns.map (fun p => p.2.snaps.length)).sum then s.refuseC1h cntl e 4
    else s.propose (.snapCreate vol id) cntl e

/-- C1h delete (R134). -/
def State.snapDelete (cntl : Nat) (e : Sqe) (n : Ns) (s : State) : State :=
  let vol := volOf e.nsid
  if (n.snap? (c1SnapId e)).isNone then s.refuseC1h cntl e 2
  else if s.viewAttached vol (c1SnapId e) then s.refuseC1h cntl e 5
  else s.propose (.snapDelete vol (c1SnapId e)) cntl e

/-- C1h clone (R133). -/
def State.snapClone (cntl : Nat) (e : Sqe) (n : Ns) (s : State) : State :=
  let vol := volOf e.nsid
  if (n.snap? (c1SnapId e)).isNone then s.refuseC1h cntl e 2
  else
    let s0 := s.askBlock
    match s0.freeVol with
    | none => s0.refuseC1h cntl e 6
    | some v => s0.propose (.snapClone vol (c1SnapId e) v (c1Ro e)) cntl e

/-- The 64-byte query result (R136). -/
def snapBytes (id : Nat) (view : Bool) (x : Snap) : List Byte :=
  leBytes 8 x.tick ++ leBytes 4 x.epoch ++ leBytes 2 id ++ leBytes 2 (b2n x.readable + 2 * b2n view + 4 * b2n x.reclaim)
    ++ leBytes 8 x.exclBytes ++ leBytes 8 x.sharedBytes ++ leBytes 8 x.exclGrains ++ leBytes 8 x.sharedGrains
    ++ leBytes 8 x.acctTick ++ leBytes 8 0

/-- C1h query (R135, R136); a snapshot whose reclaim runs is still seen here. -/
def State.snapQuery (cntl : Nat) (e : Sqe) (n : Ns) (s : State) : State :=
  let vol := volOf e.nsid
  let id := c1SnapId e
  match NMap.find n.snaps id with
  | none => s.refuseC1h cntl e 2
  | some x =>
    let y := s.account vol id n x
    let s1 := s.updNs vol (fun n => { n with snaps := NMap.put n.snaps id y })
    (s1.adminData cntl e (snapBytes id (s.viewAttached vol id) y)).completeAdmin cntl e 0 0 0

/-- C1h list (R136): a page of 256 entries of 16 bytes. What the entries are numbered by is not said: the defined snapshots stand in
ascending SNAPID, and PAGE counts their positions (DESIGN CHOICE, log 50). -/
def State.snapList (cntl : Nat) (e : Sqe) (n : Ns) (s : State) : State :=
  let entries := (((n.snaps.filter (fun p => !p.2.reclaim)).drop (256 * c1Page e)).take 256).map (fun p =>
    leBytes 2 p.1 ++ leBytes 2 0 ++ leBytes 4 p.2.epoch ++ leBytes 8 p.2.tick)
  (s.adminData cntl e ((entries.flatten ++ padBytes 4096 0).take 4096)).completeAdmin cntl e 0 0 0

/-- Run C1h by its ACTION. -/
def State.runC1h (cntl : Nat) (e : Sqe) (s : State) : State :=
  match s.featureNs e.nsid with
  | none => s.completeAdmin cntl e 0 0x0B 0
  | some n =>
    match c1Action e with
    | 0 => s.snapCreate cntl e n
    | 1 => s.snapDelete cntl e n
    | 2 => s.snapClone cntl e n
    | 3 => s.snapQuery cntl e n
    | 4 => s.snapList cntl e n
    | _ => s.refuseC1h cntl e 1

/-- An entry of a row: its ACTION is the row's, unless it is one that no action has, which is refused with code 0x01. -/
def withC1Action (a : Nat) (e : Sqe) : Sqe :=
  if 4 < c1Action e then { e with opcode := 0xC1 }
  else { e with opcode := 0xC1, dw10 := (e.dw10 &&& ~~~(0xF#32)) ||| BitVec.ofNat 32 a }

/-- SNAPSHOT_CREATE (R131). -/
def execSnapshotCreate (t cntl : Nat) (e : Sqe) (s : State) : Host.Outcome State Fault Refusal :=
  .next ((s.advanceTo t).admin cntl (withC1Action 0 e) false (State.runC1h cntl (withC1Action 0 e)))

/-- SNAPSHOT_DELETE (R134). -/
def execSnapshotDelete (t cntl : Nat) (e : Sqe) (s : State) : Host.Outcome State Fault Refusal :=
  .next ((s.advanceTo t).admin cntl (withC1Action 1 e) false (State.runC1h cntl (withC1Action 1 e)))

/-- SNAPSHOT_CLONE (R133). -/
def execSnapshotClone (t cntl : Nat) (e : Sqe) (s : State) : Host.Outcome State Fault Refusal :=
  .next ((s.advanceTo t).admin cntl (withC1Action 2 e) false (State.runC1h cntl (withC1Action 2 e)))

/-- SNAPSHOT_QUERY (R136). -/
def execSnapshotQuery (t cntl : Nat) (e : Sqe) (s : State) : Host.Outcome State Fault Refusal :=
  .next ((s.advanceTo t).admin cntl (withC1Action 3 e) false (State.runC1h cntl (withC1Action 3 e)))

/-- SNAPSHOT_LIST (R136). -/
def execSnapshotList (t cntl : Nat) (e : Sqe) (s : State) : Host.Outcome State Fault Refusal :=
  .next ((s.advanceTo t).admin cntl (withC1Action 4 e) false (State.runC1h cntl (withC1Action 4 e)))

/-- The reclaim of a deleted volume's snapshot ends (R134): what no version holds any more is free. -/
def State.endReclaim (r : Reclaim) (s : State) : State :=
  let own := r.map.filter (fun p => p.2.kind != 3)
  let others := s.otherEnts r.vol r.id
  let freed := s.entBytes ((NMap.vals own).filter (s.exclusive own others))
  let s1 := s.releaseRefs r.map
  ({ s1 with nvq := { s1.nvq with reclaims := s1.nvq.reclaims.filter (fun x => x != r) } }).record 0x5403 [r.vol, r.id, freed]

/-- SNAPSHOT_RECLAIM_DONE (R134): the references are released, event 0x5403 with the bytes freed. -/
def execSnapshotReclaimDone (t vol id : Nat) (s : State) : Host.Outcome State Fault Refusal :=
  let s1 := s.advanceTo t
  .next <|
    match s1.nvq.reclaims.find? (fun r => r.vol == vol && r.id == id), s1.ns? vol with
    | some r, _ => s1.endReclaim r
    | none, none => s1
    | none, some n =>
      match NMap.find n.snaps id with
      | none => s1
      | some x =>
        if !x.reclaim then s1
        else
          let freed := (s1.account vol id n x).exclBytes
          let s2 := s1.releaseRefs (NMap.getD n.frozen id [])
          (s2.updNs vol (fun n => { n with snaps := NMap.del n.snaps id, frozen := NMap.del n.frozen id })).record 0x5403
            [vol, id, freed]

end Sys2Proof.Machine
end

