-- ==== Sys2Proof/Machine/Flash.lean ====
section
/-!
DEFINITION. Flash management: records that move (R91, R92, R127, R153, R154), erases (R93, R155, R158, R166), fold, GC and patrol
(R165), checkpoints (R167), training and timeouts (R141, R144), and the temperature history (R169).
-/

namespace Sys2Proof.Machine

/-- Modes in which background work on the flash runs. -/
def Mode.backgroundRuns : Mode → Bool
  | .join | .paired | .sole | .takeover | .handback | .relay => true
  | _ => false

/-! ### Records in use -/

/-- An entry names a record at a place; a deallocated grain names none. -/
def MapEnt.names (mirror : Bool) (band off : Nat) (e : MapEnt) : Bool :=
  (e.kind == 1 || e.kind == 2) && e.mirror == mirror && e.band == band && e.offset == off

/-- A record is live: named by the map, a snapshot version, or an SGT entry that is not reclaim pending (R154). -/
def State.recordLive (s : State) (x : Stored) : Bool :=
  let m := x.st == .mirror
  s.path.map.any (fun p => p.2.names m x.band x.offset)
    || s.nvq.ns.any (fun p => p.2.frozen.any (fun f => f.2.any (fun e => e.2.names m x.band x.offset)))
    || s.ddup.sgt.any (fun p => !p.2.pending && p.2.mirror == m && p.2.band == x.band && p.2.offset == x.offset)

/-! ### Erases -/

/-- A record of a band may still come to be named: its write is in flight, its mirror copy is not acknowledged, or it is the copy of a
repaired record. -/
def State.recordOpen (s : State) (x : Stored) : Bool :=
  (if x.st == .home then s.flightSeqs.contains x.record.seq else !x.acked)
    || s.path.rewrites.any (fun w => w.place == some (x.band, x.offset))

/-- A checkpoint lies past every record of a band (R93): its stream position for the band's stream is in a later band. -/
def Ckpt.past (c : Ckpt) (st : StreamId) (band : Nat) : Bool :=
  c.valid && decide (band < (if st == .home then c.homePos.1 else c.mirrorPos.1))

/-- A checkpoint no longer names a dense band. -/
def Ckpt.free (c : Ckpt) (band : Nat) : Bool :=
  c.valid && !c.map.any (fun p => (p.2.kind == 1 || p.2.kind == 2) && p.2.band == band) && !c.sgt.any (fun p => p.2.band == band)

/-- The older of the two retained full checkpoints (R155, R167). -/
def State.olderFull (s : State) : Option Ckpt := (s.path.ckpts.filter (·.full))[1]?

/-- A band of the old shape waits for a boundary record past its last stripe (R186). -/
def State.behindBoundary (s : State) (n : Nat) (b : Band) : Bool :=
  match s.strp.reshape with
  | some r =>
    (b.k == s.strp.k && b.m == s.strp.m && b.members == s.strp.order)
      || s.path.stripes.all (fun x => x.band != n || decide (0 < x.migrated ∧ x.migrated ≤ r.sysBound))
  | none => true

/-- A band's blocks may be erased (R93, R155, R186). -/
def State.erasable (s : State) (n : Nat) (b : Band) : Bool :=
  let here := s.path.stored.filter (fun x => x.band == n)
  let streams := [s.path.homeStream.band, s.path.mirrorStream.band, s.path.gcHome.band, s.path.gcMirror.band]
  !streams.contains n && s.behindBoundary n b && !here.any (fun x => s.recordLive x || s.recordOpen x)
    && !s.path.reads.any (fun r => (s.entPlace r.ent).1 == n || r.ent.band == n)
    && (if b.dense then s.path.ckpts.any (fun c => c.free n)
        else match s.olderFull with | some c => c.past b.st n | none => false)

/-- Start the erases of an erasable band on dies that erase nothing; a marked block is retired instead (R156, R166). -/
def State.startErase (n : Nat) (s : State) : State :=
  match NMap.find s.path.bands n with
  | none => s
  | some b =>
    (b.dies.filter (fun d => !s.blockDone b d && !s.flash.erases.any (fun e => e.die == d))).foldl (fun s d =>
      if (NMap.getD s.flash.blocks (blockKey d (b.blockOf d)) freshBlock).marked then s.retire (.block d (b.blockOf d))
      else
        let e : Erase := { die := d, block := b.blockOf d, start := s.time.now, suspended := false, suspends := 0, suspAt := 0 }
        { s with flash := { s.flash with erases := s.flash.erases ++ [e] } }) s

/-- A shared-grain entry ends with the band that held its record: no map entry refers to it, or the band could not have been erased. -/
def Sgt.ends (band : Nat) (g : Sgt) : Bool := g.pending && g.band == band

/-- A band whose blocks are all erased or retired leaves the table with what it held. The spec does not say when a shared-grain entry
whose record is gone stops being valid: its index is free from then on, and the index and cache entries that name it go too (DESIGN
CHOICE, log 54). -/
def State.dropBand (n : Nat) (s : State) : State :=
  match NMap.find s.path.bands n with
  | none => s
  | some b =>
    if b.dies.all (s.blockDone b) && s.erasable n b then
      let gone := fun (e : FpEnt) => (NMap.find s.ddup.sgt e.sgt).any (Sgt.ends n)
      { s with
        path := { s.path with
          bands := NMap.del s.path.bands n
          stripes := s.path.stripes.filter (fun x => x.band != n)
          stored := s.path.stored.filter (fun x => x.band != n) }
        ddup := { s.ddup with
          sgt := s.ddup.sgt.filter (fun p => !p.2.ends n)
          index := s.ddup.index.filter (fun e => !gone e)
          cache := s.ddup.cache.filter (fun e => !gone e) } }
    else s

/-- Start what may be erased now. -/
def State.startErases (s : State) : State :=
  (s.path.bands.filter (fun p => s.erasable p.1 p.2)).foldl (fun s p => (s.startErase p.1).dropBand p.1) s

/-- ERASE_DONE (R155): the block goes back to the free pool of its role, or is retired with events 0x3003 and 0x3202. -/
def execEraseDone (t die block : Nat) (ok : Bool) (s : State) : Host.Outcome State Fault Refusal :=
  let s1 := s.advanceTo t
  .next <|
    if !s1.flash.erases.any (fun e => e.die == die && e.block == block) then s1
    else
      let s2 := { s1 with flash := { s1.flash with
        erases := s1.flash.erases.filter (fun e => !(e.die == die && e.block == block)) } }
      if ok then
        let band := s2.bandAt die block
        let dense := match band.bind (NMap.find s2.path.bands) with | some b => b.dense | none => false
        let k := NMap.getD s2.flash.blocks (blockKey die block) freshBlock
        let k1 : Block := { k with erased := true, dense := dense, slcCycles := k.slcCycles + (if dense then 0 else 1),
                                   denseCycles := k.denseCycles + (if dense then 1 else 0) }
        let planes := match s2.portModel (die / 128) with | some m => m.planes | none => 0
        let free := if dense then s2.flash.free
          else NMap.put s2.flash.free (die / 128) (NMap.getD s2.flash.free (die / 128) 0 + planes)
        let s3 := { s2 with flash := { s2.flash with blocks := NMap.put s2.flash.blocks (blockKey die block) k1, free := free } }
        (s3.count (ctrDie die 2)).dropBand (band.getD s3.path.nextBand)
      else
        ((((s2.count (ctrDie die 14)).raise (Reg.FCH_CERR0 + 0x200 * (die / 16)) 8).fault (.die die) 0x3003 die [die, block]).retire
          (.block die block)).dropBand ((s2.bandAt die block).getD s2.path.nextBand)

/-- ERASE_RESUME (R65, R158). -/
def execEraseResume (t die : Nat) (s : State) : Host.Outcome State Fault Refusal :=
  let s1 := s.advanceTo t
  let busy := takenIn s1.adm.bookings (resDie die) (slotOf s1.time.now) true != 0
  .next <|
    if busy then s1
    else { s1 with flash := { s1.flash with erases := s1.flash.erases.map (fun (e : Erase) =>
      if e.die == die && e.suspended then
        { e with suspended := false, start := e.start + (s1.time.now - e.suspAt) } else e) } }

/-! ### Static policies -/

/-- The static policies run (R31, R50): in overload, and in a slot whose plan was missed. Fold then goes round-robin over the dies, and
GC takes the oldest dense band (R153). -/
def State.staticPolicy (s : State) : Bool := s.md.overload || s.md.staticSlot == some (slotOf s.time.now)

/-! ### Dense bands -/

/-- Stripes a dense band holds: as many landing bands as a cell has bits. -/
def State.denseCap (s : State) (b : Band) : Nat :=
  match b.members.head?.bind s.portModel with | some m => bandStripes m * (m.cell + 3) | none => 0

/-- Stripe positions of a dense band that are taken, by its own stripes or by folds under way. -/
def State.denseUsed (s : State) (d : Nat) (b : Band) : Nat :=
  (s.path.stripes.map (fun x =>
    if x.band = d then x.idx + 1
    else match x.dense with | some (e, o) => if e = d then o / (b.k * 65536) + 1 else 0 | none => 0)).foldl max 0

/-- Stripes of a landing band. -/
def State.landingStripes (s : State) (b : Band) : Nat :=
  match b.members.head?.bind s.portModel with | some m => bandStripes m | none => 0

/-- The dense band and first stripe position at which a landing band folds (R153): where its earlier stripes went, else behind the last
landing band folded on the same dies, else in a new dense band there. -/
def State.denseFor (n : Nat) (b : Band) (s : State) : (Nat × Nat) × State :=
  let sb := b.k * 65536
  match s.path.stripes.find? (fun x => x.band == n && x.dense.isSome) with
  | some x => let p := x.dense.getD (0, 0); ((p.1, p.2 / sb - x.idx), s)
  | none =>
    let per := s.landingStripes b
    let open_ := s.path.bands.find? (fun p =>
      p.2.dense && !p.2.sealedBand && p.2.st == b.st && p.2.slot == b.slot && p.2.members == b.members && p.2.k == b.k
        && p.2.m == b.m && decide (ceilDiv (s.denseUsed p.1 p.2) (max per 1) * per + per ≤ s.denseCap p.2))
    match open_ with
    | some p => ((p.1, ceilDiv (s.denseUsed p.1 p.2) (max per 1) * per), s)
    | none =>
      let d := s.path.nextBand
      let db : Band := { b with dense := true, sealedBand := false, refresh := false, victim := false, blks := [] }
      ((d, 0), ({ s with path := { s.path with bands := NMap.put s.path.bands d db, nextBand := d + 1 } }).fillBand d)

/-! ### Fold -/

/-- A stripe that a replay discarded (R94): it stays open in a band that takes no more records, and its band folds without it. -/
def Stripe.discarded (b : Band) (x : Stripe) : Bool := b.sealedBand && !x.closed

/-- A sealed stripe whose turn it is to be folded: the earlier ones of its band are folded, or discarded (R94, R153). -/
def State.foldable (s : State) (b : Band) (x : Stripe) : Bool :=
  !b.dense && x.sealedAt.isSome && x.dense.isNone
    && s.path.stripes.all (fun y => y.band != x.band || decide (x.idx ≤ y.idx) || y.dense.isSome || y.discarded b)

/-- How far a die slot lies from the one that the round-robin fold takes next (R31; by die slot: DESIGN CHOICE, log 55). -/
def State.foldTurn (s : State) (b : Band) : Nat := (b.slot + 128 - s.flash.foldNext % 128) % 128

/-- No other foldable stripe stands on a die slot that the round-robin fold comes to first. -/
def State.nextTurn (s : State) (b : Band) : Bool :=
  s.path.stripes.all (fun y => match NMap.find s.path.bands y.band with
    | some c => decide (s.foldTurn b ≤ s.foldTurn c) || !s.foldable c y
    | none => true)

/-- FOLD_STRIPE (R91): a sealed landing stripe, in stripe order, is read and copied to its dense position in soft slots; a page that
needed soft reads crosses the channel once more. Under the static policies the fold goes round-robin over the dies (R31, R153). -/
def execFoldStripe (t : Nat) (st : StreamId) (band stripe : Nat) (softPages : List Nat) (s : State) :
    Host.Outcome State Fault Refusal :=
  let s1 := s.advanceTo t
  .next <| match s1.stripe? band stripe, NMap.find s1.path.bands band with
    | some x, some b =>
      if !s1.md.mode.backgroundRuns || x.st != st || !s1.foldable b x || (s1.staticPolicy && !s1.nextTurn b) then s1
      else
        let ((d, base), s0) := s1.denseFor band b
        let s2 := { s0 with flash := { s0.flash with foldNext := (b.slot + 1) % 128 } }
        let s3 := s2.updStripe band stripe (fun x => { x with dense := some (d, (base + stripe) * (b.k * 65536)) })
        x.programmed.foldl (fun s i =>
          match b.dieOf i, (b.portOf i).bind s.portModel with
          | some die, some m =>
            s.bookWork bgSeq die (m.tRead + m.tFold) ((4 + (softPages.filter (fun p => p / 4 == i)).length) * m.tXfer)
          | _, _ => s) s3
    | _, _ => s1

/-- A stripe of a landing band has its verified copy in the dense band. -/
def State.folded (s : State) (sb : Nat) (x : Stripe) : Bool :=
  match x.dense with | some (d, o) => (s.stripe? d (o / sb)).isSome | none => false

/-- Records of a landing stripe all of whose stripes are folded: each gets its copy in the dense band, and what names it moves. -/
def State.moveFolded (band stripe d shift : Nat) (b : Band) (s : State) : State :=
  let sb := b.k * 65536
  (s.path.stored.filter (fun x => x.band == band && (recordStripes b x.offset (recordLen x.record)).contains stripe)).foldl
    (fun (s : State) (x : Stored) =>
      let all := (recordStripes b x.offset (recordLen x.record)).all (fun i =>
        match s.stripe? band i with | some y => s.folded sb y | none => false)
      if !all then s
      else
        let y : Stored := { x with band := d, offset := x.offset + shift, stripe := (x.offset + shift) / sb, acked := true }
        ({ s with path := { s.path with stored := s.path.stored ++ [y] } }).moveRecord (x.st == StreamId.mirror, band, x.offset)
          (x.st == StreamId.mirror, d, x.offset + shift)) s

/-- FOLD_PROGRAM_VERIFIED (R92); where the program of a strip failed (R156) the landing stripe stays and folds again elsewhere. -/
def execFoldProgramVerified (t : Nat) (st : StreamId) (band stripe denseBand denseOffset : Nat) (failed : Option Nat)
    (s : State) : Host.Outcome State Fault Refusal :=
  let s1 := s.advanceTo t
  .next <| match s1.stripe? band stripe, NMap.find s1.path.bands band, NMap.find s1.path.bands denseBand with
    | some x, some b, some db =>
      let sb := b.k * 65536
      if x.st != st || x.dense != some (denseBand, denseOffset) || s1.folded sb x then s1
      else
        match failed with
        | some i =>
          let s2 := s1.updStripe band stripe (fun x => { x with dense := none })
          let s3 := { s2 with path := { s2.path with bands := NMap.put s2.path.bands denseBand { db with sealedBand := true } } }
          (match db.dieOf i with
           | some die =>
             (((s3.count (ctrDie die 13)).raise (Reg.FCH_CERR0 + 0x200 * (die / 16)) 4).markBlock die (db.blockOf die)).fault (.die die)
               0x3002 die [die, db.blockOf die, 4 * (denseOffset / sb)]
           | none => s3)
        | none =>
          let y : Stripe := { x with band := denseBand, idx := denseOffset / sb, sealedAt := some s1.time.now, dense := none }
          let s2 := { s1 with path := { s1.path with stripes := s1.path.stripes ++ [y] } }
          (s2.moveFolded band stripe denseBand (denseOffset - stripe * sb) b).startErases
    | _, _, _ => s1

/-! ### Checkpoints -/

/-- CHECKPOINT_PERIOD (R167): an increment every FCH_CKPT.PERIOD, a full checkpoint after FULL_EVERY of them. -/
def execCheckpointPeriod (t : Nat) (s : State) : Host.Outcome State Fault Refusal :=
  let s1 := s.advanceTo t
  .next <|
    if !s1.md.mode.backgroundRuns || s1.time.now < s1.path.ckptTick + s1.regField Reg.FCH_CKPT 15 0 * msTicks then s1
    else (s1.checkpoint (decide (s1.regField Reg.FCH_CKPT 23 16 ≤ s1.path.incs))).startErases

/-! ### GC -/

def State.gcStream (s : State) : StreamId → Stream
  | .home => s.path.gcHome
  | .mirror => s.path.gcMirror

def State.setGcStream (st : StreamId) (c : Stream) (s : State) : State :=
  match st with
  | .home => { s with path := { s.path with gcHome := c } }
  | .mirror => { s with path := { s.path with gcMirror := c } }

/-- A GC stream with room for `len` bytes: where the last stripe of the present dense band has too little, it closes short, and a new
band is taken (R152). -/
def State.gcRoom (st : StreamId) (len : Nat) (s : State) : State :=
  let c := s.gcStream st
  let room := match NMap.find s.path.bands c.band with
    | some b => if b.dense && b.st == st && !b.sealedBand then
        s.denseCap b * (b.k * 65536) - (c.stripe * (b.k * 65536) + c.pos) else 0
    | none => 0
  if len ≤ room then s
  else
    let n := s.path.nextBand
    let s1 := s.updStripe c.band c.stripe (fun x => { x with bytes := c.pos })
    let bands := NMap.put (NMap.upd s1.path.bands c.band (fun b => if b.dense then { b with sealedBand := true } else b)) n
      (s1.makeBand st true s1.nextSlot)
    ({ s1 with path := { s1.path with bands := bands, nextBand := n + 1 } }).fillBand n |>.setGcStream st
      { band := n, stripe := 0, pos := 0 }

/-- Append a record, unchanged, to a GC stream; its stripes count as sealed once the copy has ended. -/
def State.gcAppend (st : StreamId) (r : Record) (s : State) : State × Nat × Nat :=
  let s0 := s.gcRoom st (recordLen r)
  let c := s0.gcStream st
  match NMap.find s0.path.bands c.band with
  | none => (s0, c.band, 0)
  | some b =>
    let sb := b.k * 65536
    let off := c.stripe * sb + c.pos
    let x : Stored := { st := st, band := c.band, stripe := c.stripe, offset := off, record := r, acked := true }
    let s1 := { s0 with path := { s0.path with stored := s0.path.stored ++ [x] } }
    let s2 := (recordStripes b off (recordLen r)).foldl (fun s i =>
      let y : Stripe :=
        { st := st, band := c.band, idx := i, bytes := sb, closed := true, closeTick := s.time.now, transferred := [],
          programmed := (List.range b.width).filter (fun j => !(s.skippedStrips b).contains j), sealedAt := some s.time.now,
          oldestParity := 0, dense := none, migrated := 0, skipped := s.skippedStrips b }
      if (s.stripe? c.band i).isSome then s else { s with path := { s.path with stripes := s.path.stripes ++ [y] } }) s1
    let e := off + recordLen r
    (s2.setGcStream st { band := c.band, stripe := if sb = 0 then 0 else e / sb, pos := if sb = 0 then e else e % sb },
      c.band, off)

/-- Move one stored record to the GC stream, with whatever names it; its read and its program book soft slots (R154). -/
def State.gcMove (x : Stored) (s : State) : State :=
  let len := recordLen x.record
  let (s1, d, o) := (s.bookCopy x.band x.offset len false).gcAppend x.st x.record
  (s1.bookCopy d o len true).moveRecord (x.st == .mirror, x.band, x.offset) (x.st == .mirror, d, o)

/-- A promoted unit that GC may demote (R162): its grains unique, and unwritten for FCH_CTRL.DEMOTE seconds. The spec does not say
whether a zero record counts as a unique grain: it does not (DESIGN CHOICE, log 56). -/
def State.demotable (s : State) (vol unit : Nat) : Bool :=
  match NMap.find s.path.overlay (unitKey vol unit) with
  | some t => decide (t + s.regField Reg.FCH_CTRL 31 24 * secondTicks ≤ s.time.now)
      && (List.range 4).all (fun i => match s.mapEnt vol (4 * unit + i) with | some e => e.kind == 1 | none => false)
  | none => false

/-- The live records of a band in unit and grain order (R154). -/
def State.liveOf (s : State) (n : Nat) : List Stored :=
  (s.path.stored.filter (fun x => x.band == n && s.recordLive x)).mergeSort (fun a b =>
    decide (a.record.check.reftag.toNat ≤ b.record.check.reftag.toNat))

/-- Grain key of a record. -/
def recordKey (r : Record) : Nat := r.check.reftag.toNat

/-- Demote a unit: its four records are copied as a run, and its overlay entry is free (R162). -/
def State.demote (key : Nat) (s : State) : State :=
  let vol := key / 2 ^ 34
  let unit := key % 2 ^ 34 / 4
  if !s.demotable vol unit then s
  else
    let s1 := (List.range 4).foldl (fun s i =>
      match s.mapEnt vol (4 * unit + i) with
      | some e => (match s.storedAt e.band e.offset with | some x => s.gcMove x | none => s)
      | none => s) s
    s1.unpromote vol unit

/-- GC may not take a band under the static policies (R31, R153): they collect the oldest dense band. -/
def State.staticBars (s : State) (st : StreamId) (band : Nat) (b : Band) : Bool :=
  s.staticPolicy && (!b.dense || s.path.bands.any (fun (p : Nat × Band) =>
    decide (p.1 < band) && p.2.st == st && p.2.dense && !p.2.victim && p.1 != (s.gcStream st).band))

/-- Blocks of a die in a role, by their cycles: those that bands have, and those that are free. -/
def State.roleBlocks (s : State) (dense : Bool) (die : Nat) : List Nat :=
  (s.path.bands.filter (fun p => p.2.dense == dense && p.2.dies.contains die && NMap.has p.2.blks die)).map (fun p => p.2.blockOf die)
    ++ s.freeBlocks dense die

/-- The band whose turn wear levelling makes it (R164): on some die the cycles of two blocks of one role differ by more than
FCH_CTRL.WL_SPREAD × 16, and the band holds the least-cycled block. -/
def State.wornVictim (s : State) (st : StreamId) : Option Nat :=
  let streams := [s.path.homeStream.band, s.path.mirrorStream.band, (s.gcStream st).band]
  let due := fun (p : Nat × Band) => p.2.dies.any (fun d =>
    let c := (s.roleBlocks p.2.dense d).map (s.cycles p.2.dense d)
    let own := s.cycles p.2.dense d (p.2.blockOf d)
    c.all (fun x => decide (own ≤ x)) && c.any (fun x => decide (own + s.regField Reg.FCH_CTRL 11 4 * 16 < x)))
  (s.path.bands.find? (fun p => p.2.st == st && !p.2.victim && !streams.contains p.1 && due p)).map (·.1)

/-- GC_COPY (R154, R162): the live records of the victim are copied to the GC stream; a band that was queued for refresh has been
refreshed (event 0x3104). -/
def execGcCopy (t : Nat) (st : StreamId) (band : Nat) (s : State) : Host.Outcome State Fault Refusal :=
  let s1 := s.advanceTo t
  .next <| match NMap.find s1.path.bands band with
    | none => s1
    | some b =>
      let streams := [s1.path.homeStream.band, s1.path.mirrorStream.band, (s1.gcStream st).band]
      let worn := !s1.staticPolicy && (match s1.wornVictim st with | some n => n != band | none => false)
      if !s1.md.mode.backgroundRuns || b.st != st || streams.contains band || s1.staticBars st band b || worn then s1
      else
        let live := s1.liveOf band
        let units := (live.map (fun x => recordKey x.record / 4 * 4)).eraseDups
        let s2 := units.foldl (fun s k => s.demote k) s1
        let s3 := (s2.liveOf band).foldl (fun s x => s.gcMove x) s2
        let s4 := { s3 with path := { s3.path with
          bands := NMap.put s3.path.bands band { b with victim := true, refresh := false, sealedBand := true } } }
        (if b.refresh then s4.record 0x3104 [band] else s4).startErases

/-! ### Patrol -/

/-- The oldest block of a band was programmed more than RETAIN days ago (R165). -/
def State.retainPast (s : State) (n : Nat) (b : Band) : Bool :=
  match b.members.head?.bind s.portModel with
  | some m => s.path.stripes.any (fun x => x.band == n && (match x.sealedAt with
      | some t => decide (t + m.retain * 86400 * secondTicks < s.time.now)
      | none => false))
  | none => false

/-- A grain that failed a point is read again through the sources of R96; its uncorrectable codewords count (R151). -/
def State.patrolRepair (f : PatrolFail) (s : State) : State :=
  match s.mapEnt f.vol f.grain with
  | some e =>
    if e.stored ∧ 2 ≤ f.point ∧ f.point ≤ 6 then
      let rid := s.path.nextRid
      let (band, off, _) := s.entPlace e
      let s1 := if f.point = 2 then f.words.foldl (fun s c => s.uncorrectable band off c) s else s
      (s1.startRead 0 0 0 4 0 f.vol f.grain e).readFail rid f.point
    else s
  | none => s

/-- Every band that the patrol reads has been read in this cycle. -/
def State.patrolEnded (s : State) : Bool :=
  s.path.bands.all (fun p => p.2.victim || s.path.patrolDone.contains p.1 || !s.path.stripes.any (fun x => x.band == p.1 && x.sealedAt.isSome))

/-- PATROL_READ (R165): a band is read to the retry step its worst codeword needed; the grains that failed a point are repaired. -/
def execPatrolRead (t : Nat) (st : StreamId) (band step : Nat) (failed : List PatrolFail) (s : State) :
    Host.Outcome State Fault Refusal :=
  let s1 := s.advanceTo t
  .next <| match NMap.find s1.path.bands band with
    | none => s1
    | some b =>
      if !s1.md.mode.backgroundRuns || b.st != st || b.victim || s1.path.patrolDone.contains band then s1
      else
        let s2 := b.dies.foldl (fun s d => match s.portModel (d / 128) with
          | some m => s.bookWork patrolSeq d m.tRead (4 * m.tXfer) | none => s) s1
        let s3 := s2.askRefresh band step
        let s4 := if s3.retainPast band b && !b.refresh then
            ({ s3 with path := { s3.path with bands := NMap.upd s3.path.bands band (fun b => { b with refresh := true }) } }).raise
              Reg.FCH_STATUS 8
          else s3
        let s5 := failed.foldl (fun s f => s.patrolRepair f) s4
        let s6 := { s5 with path := { s5.path with patrolDone := s5.path.patrolDone ++ [band] } }
        if s6.patrolEnded then
          let s7 := s6.record 0x3103 [s6.path.patrolDone.length, s6.path.patrolRepaired]
          { s7 with path := { s7.path with patrolDone := [], patrolRepaired := 0 } }
        else s6

/-! ### Training, timeouts, temperature -/

/-- CHANNEL_TRAINING_DONE (R141): a failure is counted; the third of a Boot retires the channel. -/
def execChannelTrainingDone (t channel : Nat) (ok : Bool) (s : State) : Host.Outcome State Fault Refusal :=
  let s1 := s.advanceTo t
  let (st, fails) := NMap.getD s1.flash.chans channel (0, 0)
  let set := fun (a n : Nat) (s : State) => { s with flash := { s.flash with chans := NMap.put s.flash.chans channel (a, n) } }
  .next <|
    if st = 2 ∨ s1.md.mode = .reset ∨ s1.md.mode = .locked ∨ s1.md.mode = .slack then s1
    else if ok then set 2 fails s1
    else if s1.faults.retired.contains (.channel channel) then set 0 (fails + 1) s1
    else
      let s2 := ((set 1 (fails + 1) s1).raise (Reg.FCH_CERR0 + 0x200 * channel) 2).count (ctrChannel channel 5)
      let s3 := s2.fault (.channel channel) 0x3000 channel [channel, fails + 1]
      if 3 ≤ fails + 1 && !s3.faults.retired.contains (.channel channel) then s3.retire (.channel channel) else s3

/-- STATUS_TIMEOUT (R144): a die that answers has a transient fault; one that does not is retired in the same tick. -/
def execStatusTimeout (t die operation : Nat) (answers : Bool) (s : State) : Host.Outcome State Fault Refusal :=
  let s1 := s.advanceTo t
  .next <|
    if !s1.flash.dies.contains die || s1.faults.retired.contains (.die die) then s1
    else
      let s2 := (s1.count (ctrDie die 15)).raise (Reg.FCH_CERR0 + 0x200 * (die / 16)) 0x10
      if answers then s2.fault (.die die) 0x3004 die [die, operation]
      else (s2.record 0x3004 [die, operation]).retire (.die die)

/-- BUS_TIMEOUT (R144). -/
def execBusTimeout (t channel : Nat) (s : State) : Host.Outcome State Fault Refusal :=
  let s1 := s.advanceTo t
  .next <|
    if !s1.channelReady channel then s1
    else
      ((s1.count (ctrChannel channel 4)).raise (Reg.FCH_CERR0 + 0x200 * channel) 1).fault (.channel channel) 0x3005 channel
        [channel]

/-- Temperature bucket of a reading (Table 7.10). -/
def tempBucket (c : Int) : Nat := if c < -40 then 0 else min 15 ((c + 40) / 10).toNat

/-- One second in a bucket of a scope. -/
def State.addSecond (scope : Nat) (c : Int) (s : State) : State :=
  let i := scope * 16 + tempBucket c
  { s with flash := { s.flash with tempHist := NMap.put s.flash.tempHist i (satTo 48 (NMap.getD s.flash.tempHist i 0 + 1)) } }

/-- DIE_TEMPERATURE_SAMPLE (R169): once per second, the hottest die of each module and the junction sensor. -/
def execDieTemperatureSample (t : Nat) (temps : List (Nat × Int)) (s : State) : Host.Outcome State Fault Refusal :=
  let s1 := s.advanceTo t
  .next <|
    if s1.md.mode = .reset ∨ s1.md.mode = .locked ∨ s1.time.now < s1.flash.tempTick + secondTicks then s1
    else
      let s2 := ({ s1 with flash := { s1.flash with tempTick := s1.time.now } }).addSecond 0 s1.elec.temp
      temps.foldl (fun s p =>
        if p.1 < 16 then (s.addSecond (p.1 + 1) p.2).count (ctrPort p.1 (tempBucket p.2)) else s) s2

end Sys2Proof.Machine
end

