-- ==== Sys2Proof/Machine/Modules.lean ====
section
/-!
DEFINITION. Module protection: modules that come and go (R183, R188 to R190), rebuild (R178, R180 to R182), reshape (R184 to R187),
the floors (R181), and the spare probe (R270).
-/

namespace Sys2Proof.Machine

/-! ### Insertion -/

def State.port (s : State) (p : Nat) : Port := NMap.getD s.strp.ports p {}

/-- MODn_FLT_N of a port (R190): low for a failed or refused module, a 1 Hz blink of 50 % for a released one until it is removed, high
otherwise. The blink is high in the first half of each second of the tide counter (DESIGN CHOICE, log 72). -/
def State.modFlt (s : State) (p : Nat) : Bool :=
  match (s.port p).state with
  | 5 | 7 => false
  | 6 => decide (s.time.now % secondTicks < secondTicks / 2)
  | _ => true

/-- Modes in which modules are identified: power is on and the channels can run. -/
def Mode.identifies (m : Mode) : Bool := !(m == .reset || m == .locked || m == .slack || m == .holdup)

/-- A module that comes to a failed member's port, with no spare in its place, takes the member's index (R183). -/
def State.replaces (s : State) (p : Nat) : Bool :=
  s.strp.failed.contains p && s.strp.order.contains p && s.regField Reg.STRP_CTRL 0 0 == 1

/-- One more spare fits (R183). -/
def State.spareRoom (s : State) : Bool :=
  decide (s.strp.spares.length < 2 ∧ s.strp.k + s.strp.m + s.strp.spares.length < 16)

/-- Boot runs, or its stages that Slack deferred to Join (Table 17.2). -/
def State.booting (s : State) : Bool := s.md.mode == .boot || (s.md.mode == .join && s.md.deferred)

/-- The role a module will take at a port (R172, R183), as a STRP_MINFO state: 4 member, 3 spare, 2 unused. The spec does not say whether
a port that the member record holds as unused stays so at Boot: a module there becomes a spare while one more fits, as one inserted does
(DESIGN CHOICE, log 57). -/
def State.roleFor (s : State) (p : Nat) : Nat :=
  if s.replaces p then 4
  else if s.booting ∧ s.strp.order.contains p ∧ !s.strp.failed.contains p then 4
  else if s.booting ∧ s.strp.spares.contains p then 3
  else if !s.strp.order.contains p && s.spareRoom then 3
  else 2

/-- The die model the members have, as far as one is known. -/
def State.memberModel (s : State) (but : Nat) : Option Nat :=
  (s.strp.order.find? (fun p => p != but && (s.port p).part != 0)).map (fun p => (s.port p).model)

/-- Why a module is refused at a port (R188), as the model's ordinal: MAGIC or CRC, PART, POP, die model, SERIAL. -/
def State.moduleRefusal (s : State) (p : Nat) (magicOk crcOk : Bool) (part pop serial : Nat) : Option Nat :=
  let model := (s.image.parts.find? (fun x => x.1 == part)).map (·.2)
  let role := s.roleFor p
  if !magicOk then some 0
  else if !crcOk then some 1
  else if model.isNone then some 2
  else if role ≠ 2 ∧ pop ≠ s.image.pop then some 3
  else if role != 2 && (s.memberModel p).any (fun m => model != some m) then some 4
  else if s.strp.order.any (fun q => q != p && (s.port q).part != 0 && (s.port q).serial == serial) then some 5
  else none

/-- A module is refused (R188, R189). -/
def State.refuseModule (p cause : Nat) (s : State) : State :=
  (s.updPort p (fun x => { x with state := 7, powered := false })).record 0x4013 [p, Config.itemCode 0x4013 cause]

/-- MODULE_PRESENT (R188, R189): a module seated for 50 ms is identified; in Boot every port found present is. -/
def execModulePresent (t port : Nat) (magicOk crcOk : Bool) (part pop serial : Nat) (s : State) :
    Host.Outcome State Fault Refusal :=
  let s1 := s.advanceTo t
  .next <|
    if 16 ≤ port ∨ (s1.port port).present || !s1.md.mode.identifies then s1
    else
      let s2 := s1.updPort port (fun x => { x with present := true })
      match s2.moduleRefusal port magicOk crcOk part pop serial with
      | some c => s2.refuseModule port c
      | none =>
        let model := ((s2.image.parts.find? (fun x => x.1 == part)).map (·.2)).getD 0
        s2.updPort port (fun x => { x with state := 1, powered := true, model := model, part := part, serial := serial, pop := pop })

/-- Dies of a port that the populated dies give on its ready channels, but for those that failed identification (R140, R188). -/
def State.newDies (s : State) (p : Nat) (bad : List Nat) : List Nat :=
  ((s.portChannels p).map (fun c => ((List.range 16).filter (fun d => s.image.pop / 2 ^ d % 2 == 1)).map (16 * c + ·))).flatten.filter
    (fun d => !bad.contains d && !s.faults.retired.contains (.die d))

/-- A die's ONFI parameter page matches its model (R140, R139, Table 7.2). -/
def DieModel.matches (m : DieModel) (x : DieParams) : Bool :=
  x.page == 16384 && decide (2048 ≤ x.spare) && x.pages == m.wlPerBlk * (m.cell + 3) && x.blocks == m.planes * m.blkPerPlane
    && x.planes == m.planes

/-- Dies of a port that do not answer, or whose parameter page does not match the model; the others are those whose page is not listed,
and match (R140; log 53). -/
def State.badDies (s : State) (p : Nat) (pages : List (Nat × Option DieParams)) : List Nat :=
  (s.newDies p []).filter (fun d => pages.any (fun x => x.1 == d && (match x.2, s.portModel p with
    | some y, some m => !m.matches y
    | _, _ => true)))

/-- Landing blocks of a die: the image's SLC set on every plane (R152), less the retired ones. -/
def State.dieLanding (s : State) (d : Nat) : Nat :=
  match s.portModel (d / 128) with
  | some m => m.planes * (s.image.slcSet.filter (fun b => !s.faults.retired.contains (.block d b))).length
  | none => 0

/-- Landing blocks of a port's dies in use. -/
def State.landingBlocks (s : State) (p : Nat) : Nat := ((s.portDies p).map s.dieLanding).sum

/-- A fresh module has blocks that nothing has used: bands on its port take theirs anew. -/
def State.freshBlocks (p : Nat) (s : State) : State :=
  let on := fun (d : Nat) => d / 128 == p
  { s with
    path := { s.path with bands := s.path.bands.map (fun (x : Nat × Band) => (x.1, { x.2 with blks := x.2.blks.filter (fun y => !on y.1) })) }
    flash := { s.flash with blocks := s.flash.blocks.filter (fun x => !on (x.1 / 2 ^ 32)) }
    faults := { s.faults with retired := s.faults.retired.filter (fun u => match u with | .block d _ => !on d | _ => true) } }

/-- A module's dies and landing blocks come into use; a module that held the port before keeps what it had. -/
def State.takeDies (p : Nat) (bad : List Nat) (fresh : Bool) (s : State) : State :=
  let s1 := bad.foldl (fun s d => s.record 0x3001 [d]) s
  let s2 := if fresh then s1.freshBlocks p else s1
  let s3 := { s2 with flash := { s2.flash with dies := s2.flash.dies.filter (fun d => d / 128 != p) ++ s2.newDies p bad } }
  if fresh || !NMap.has s3.flash.free p then
    { s3 with flash := { s3.flash with free := NMap.put s3.flash.free p (s3.landingBlocks p) } }
  else s3

/-- MODULE_ROLE_ASSIGNED (R183, R189, R140). Table 18.9 gives no codes for the role in event 0x4010: it is the port's STRP_MINFO.STATE
(DESIGN CHOICE, log 58). -/
def execModuleRoleAssigned (t port : Nat) (trainedOk : Bool) (pages : List (Nat × Option DieParams)) (s : State) :
    Host.Outcome State Fault Refusal :=
  let s1 := s.advanceTo t
  let old := s1.budget
  .next <|
    if (s1.port port).state ≠ 1 then s1
    else if !trainedOk then s1.refuseModule port 6
    else
      let role := s1.roleFor port
      let again := s1.replaces port
      let s2 := ((s1.takeDies port (s1.badDies port pages) (again || !s1.booting)).updPort port (fun x => { x with state := role })).raise
        Reg.STRP_STATUS 0x80
      let s3 := (s2.record 0x4010 [port, role]).count (ctrPort port 18)
      let s4 := if role = 3 ∧ !s3.strp.spares.contains port then
          ({ s3 with strp := { s3.strp with spares := s3.strp.spares ++ [port] } }).memberChanged
        else s3
      let s5 := if again then
          let s := ({ s4 with strp := { s4.strp with failed := s4.strp.failed.filter (· != port) } }).memberChanged
          let before := lostCount s.path.stripes
          let stripes := markLost s.path.bands (fun b => b.stripsOn port) false s.path.stripes
          let already := ((s.path.stripes.map (fun x => match NMap.find s.path.bands x.band with
            | some b => ((b.stripsOn port).filter (fun i => x.skipped.contains i)).length | none => 0)).sum)
          ({ s with path := { s.path with stripes := stripes } }).startRebuild port (lostCount stripes - before + already) false
        else s4
      s5.recompute old

/-! ### Removal and module commands -/

/-- Power off, and the port's channels and dies leave use. -/
def State.portOff (p state : Nat) (s : State) : State :=
  { (s.updPort p (fun x => { x with state := state, powered := false })) with
    flash := { s.flash with
      dies := s.flash.dies.filter (fun d => d / 128 != p)
      chans := s.flash.chans.filter (fun c => c.1 / 8 != p) } }

/-- A spare leaves its role. -/
def State.unspare (p : Nat) (s : State) : State :=
  if s.strp.spares.contains p then
    ({ s with strp := { s.strp with spares := s.strp.spares.filter (· != p) } }).memberChanged
  else s

/-- A port holds data of the present or the old shape. -/
def State.isMember (s : State) (p : Nat) : Bool :=
  s.strp.order.contains p || s.strp.reshape.any (fun r => r.oldMembers.contains p)

/-- MODULE_REMOVAL (R190): a member that was not released fails with it (R177, R182). -/
def execModuleRemoval (t port : Nat) (s : State) : Host.Outcome State Fault Refusal :=
  let s1 := s.advanceTo t
  let old := s1.budget
  let cause := if s1.strp.rebuild.any (fun r => r.spares.contains port) then 4 else 1
  .next <|
    if !(s1.port port).present then s1
    else if !s1.md.mode.identifies then s1.updPort port (fun x => { x with present := false, powered := false })
    else
      let s2 := ((((s1.updPort port (fun x => { x with present := false })).portOff port (s1.port port).state).raise
        Reg.STRP_STATUS 0x80).record 0x4011 [port]).count (ctrPort port 19)
      let s3 := if s2.isMember port && (s1.port port).state == 4 then s2.memberFail port cause else s2.unspare port
      (s3.updPort port (fun x => { x with state := 0 })).recompute old

/-- A module command is refused (R190, Table 8.6). -/
def State.refuseCommand (s : State) : State := (s.raise Reg.STRP_STATUS 0x40).ignored

/-- STRP_MODCMD operation 01b (R190): a spare, unused, failed or refused port is released. -/
def State.moduleRelease (p : Nat) (s : State) : State :=
  if (s.port p).state ∈ [2, 3, 5, 7] then
    ((s.portOff p 6).unspare p).record 0x4012 [p]
  else s.refuseCommand

/-- A module has the members' die model and the populated dies that members and spares have (R172). -/
def State.suits (s : State) (p : Nat) : Bool :=
  (s.port p).pop == s.image.pop && (match s.memberModel p with | some d => (s.port p).model == d | none => true)

/-- Operation 10b: an unused, healthy module becomes a spare while spares and ports in role allow it (Table 8.6, R172). -/
def State.moduleMakeSpare (p : Nat) (s : State) : State :=
  if (s.port p).state = 3 then s
  else if (s.port p).state = 2 ∧ s.spareRoom ∧ s.suits p then
    (({ s with strp := { s.strp with spares := s.strp.spares ++ [p] } }).updPort p (fun x => { x with state := 3 })).memberChanged
  else s.refuseCommand

/-- Operation 11b: a spare becomes unused; refused for a member. -/
def State.moduleMakeUnused (p : Nat) (s : State) : State :=
  if (s.port p).state = 2 then s
  else if (s.port p).state = 3 then (s.unspare p).updPort p (fun x => { x with state := 2 })
  else s.refuseCommand

/-- A write of STRP_MODCMD (R191). -/
def State.writeModcmd (o : Origin) (v : Word) (s : State) : State :=
  s.gateWrite o Reg.STRP_MODCMD v (fun _ s =>
    let p := bits v 3 0
    match bits v 5 4 with
    | 1 => s.moduleRelease p
    | 2 => s.moduleMakeSpare p
    | 3 => s.moduleMakeUnused p
    | _ => s)

/-- The word with a given value in a field. -/
def withBits (v : Word) (hi lo x : Nat) : Word := (v &&& ~~~ fieldMask hi lo) ||| field x hi lo

/-- MODULE_RELEASE (R190). -/
def execModuleRelease (t : Nat) (o : Origin) (v : Word) (s : State) : Host.Outcome State Fault Refusal :=
  .next ((s.advanceTo t).writeModcmd o (withBits v 5 4 1))

/-- MODULE_MAKE_SPARE (R191). -/
def execModuleMakeSpare (t : Nat) (o : Origin) (v : Word) (s : State) : Host.Outcome State Fault Refusal :=
  .next ((s.advanceTo t).writeModcmd o (withBits v 5 4 2))

/-- MODULE_MAKE_UNUSED (R191). -/
def execModuleMakeUnused (t : Nat) (o : Origin) (v : Word) (s : State) : Host.Outcome State Fault Refusal :=
  .next ((s.advanceTo t).writeModcmd o (withBits v 5 4 3))

/-- SPARE_PROBE (R270): every 600 s each spare is probed; one that fails is refused. -/
def execSpareProbe (t port : Nat) (ok : Bool) (s : State) : Host.Outcome State Fault Refusal :=
  let s1 := s.advanceTo t
  let due := match NMap.find s1.moor.spareProbes port with
    | some u => decide (u + 600 * secondTicks ≤ s1.time.now) | none => true
  .next <|
    if !s1.strp.spares.contains port || !due || !s1.md.mode.backgroundRuns then s1
    else
      let s2 := { s1 with moor := { s1.moor with
        spareProbes := NMap.put s1.moor.spareProbes port s1.time.now
        spareOk := s1.moor.spareOk.filter (· != port) ++ (if ok then [port] else [])
        spareFail := s1.moor.spareFail.filter (· != port) ++ (if ok then [] else [port]) } }
      if ok then s2 else ((s2.portOff port 7).unspare port).record 0x7061 [port]

/-! ### Rebuild -/

/-- A band holds a live record. -/
def State.bandLive (s : State) (n : Nat) : Bool := s.path.stored.any (fun x => x.band == n && s.recordLive x)

/-- Strips of a band that the rebuild still has to restore (R180): the lost ones on members that have not failed, by stripe and strip. -/
def State.bandLost (s : State) (n : Nat) (b : Band) : List (Nat × Nat × Nat) :=
  ((s.path.stripes.filter (fun x => x.band == n && !s.strp.beyond.contains (x.band, x.idx))).mergeSort
    (fun x y => decide (x.idx ≤ y.idx))).flatMap (fun x =>
      ((x.skipped.filter (fun i => match b.portOf i with | some p => !s.strp.failed.contains p | none => false)).mergeSort
        (fun i j => decide (i ≤ j))).map (fun i => (n, x.idx, i)))

/-- The strips that the rebuild still has to restore, in its order (R180): landing bands before dense ones, each in ascending number;
a band with no live record is skipped. -/
def State.toRebuild (s : State) : List (Nat × Nat × Nat) :=
  let live := s.path.bands.filter (fun p => s.bandLive p.1)
  (live.filter (fun p => !p.2.dense) ++ live.filter (fun p => p.2.dense)).flatMap (fun p => s.bandLost p.1 p.2)

/-- Bring the count of strips left up to date, and end the rebuild when none is left. -/
def State.settleRebuild (s : State) : State :=
  match s.strp.rebuild with
  | some r => ({ s with strp := { s.strp with rebuild := some { r with left := s.toRebuild.length } } }).endRebuild
  | none => s

/-- The strip is the first of its band to come back on its port: the band takes a landing block there. -/
def State.firstOnPort (s : State) (n : Nat) (b : Band) (port : Nat) : Bool :=
  s.path.stripes.all (fun x => x.band != n || (b.stripsOn port).all (fun i => x.skipped.contains i || !x.programmed.contains i))

/-- A lost strip is programmed and verified again: reads use it (R180). -/
def State.restoreStrip (n stripe i : Nat) (b : Band) (s : State) : State :=
  match b.portOf i with
  | none => s
  | some p =>
    let die := (s.dieAt p b.slot).getD (16 * (8 * p + b.slot / 16) + b.slot % 16)
    let free := if s.firstOnPort n b p && !b.dense then
        NMap.put s.flash.free p (NMap.getD s.flash.free p 0 - (match s.portModel p with | some m => m.planes | none => 0))
      else s.flash.free
    let bands := NMap.put s.path.bands n { b with subs := NMap.put b.subs p die }
    (((({ s with flash := { s.flash with free := free }, path := { s.path with bands := bands } }).fillBand n).updStripe n stripe (fun x =>
      { x with skipped := x.skipped.filter (· != i), programmed := if x.programmed.contains i then x.programmed else x.programmed ++ [i] })).count
        (ctrDie die 1)).count (ctrPort p 16)

/-- A stripe past its parity: its records, of whatever version, are fetched from the partner and appended to the home stream (R178). -/
def State.fetchStripe (n stripe : Nat) (s : State) : State :=
  let here := s.path.stored.filter (fun x => x.band == n && x.stripe == stripe && (x.record.kind == 1 || x.record.kind == 4) && s.recordLive x)
  here.foldl (fun s x =>
    let key := recordKey x.record
    let vol := key / 2 ^ 34
    let g := key % 2 ^ 34
    let e := { mirrorEnt x with mirror := x.st == .mirror }
    let rid := s.path.nextRid
    let s1 := s.startRead 0 0 0 5 0 vol g e
    (s1.updRead rid (fun r => { r with source := 2, point := 9, failPoint := 2 })).emit (.repairAsk rid vol g e.wgen)) s

/-- What the restoring of a strip takes: the reads of k strips, each with its transfer, and the transfer and program of its own (Table 3.5):
die, ticks of one operation, operations, and channel ticks. -/
def State.stripOps (s : State) (b : Band) (i : Nat) : List (Nat × Nat × Nat × Nat) :=
  let of := fun (j : Nat) (f : DieModel → Nat) (n : DieModel → Nat) => match b.dieOf j, (b.portOf j).bind s.portModel with
    | some d, some m => [(d, f m, n m, 4 * m.tXfer)]
    | _, _ => []
  let programs := fun (m : DieModel) => if 4 ≤ m.planes then 1 else 2
  (((List.range b.width).filter (· != i)).take b.k).flatMap (fun j => of j (·.tRead) (fun _ => 1))
    ++ of i (fun m => if b.dense then m.tProgDense else m.tProgSlc) programs

/-- Book the strip that the rebuild takes next in free and soft slots (R180). -/
def State.bookNextStrip (skip : Nat) (s : State) : State :=
  match s.strp.rebuild, s.toRebuild[skip]? with
  | some _, some (n, _, i) =>
    match NMap.find s.path.bands n with
    | some b => (s.stripOps b i).foldl (fun (s : State) x => s.bookWork rebuildSeq x.1 (x.2.2.1 * (ceilDiv x.2.1 8192 * 8192)) x.2.2.2) s
    | none => s
  | _, _ => s

/-- Strips of a stripe that are lost to a reconstruction: those skipped, and the further ones whose page at one position did not decode
(R176). -/
def lostWith (b : Band) (x : Stripe) (unread : List Nat) : Nat :=
  x.skipped.length + (unread.eraseDups.filter (fun j => decide (j < b.width) && !x.skipped.contains j)).length

/-- REBUILD_STRIP_DONE (R176, R178, R180): the strip that is next comes back; of a stripe that lost more than m the records are fetched.
`unread` names the strips whose pages did not decode at the position where most of them failed. -/
def execRebuildStripDone (t band stripe strip : Nat) (unread : List Nat) (s : State) : Host.Outcome State Fault Refusal :=
  let s1 := s.advanceTo t
  .next <| match NMap.find s1.path.bands band, s1.stripe? band stripe with
    | some b, some x =>
      if s1.strp.rebuild.isNone || s1.toRebuild.head? != some (band, stripe, strip) then s1
      else if lostWith b x unread ≤ b.m then (s1.restoreStrip band stripe strip b).settleRebuild.bookNextStrip 0
      else
        let s2 := ({ s1 with strp := { s1.strp with beyond := s1.strp.beyond ++ [(band, stripe)] } }).raise Reg.STRP_STATUS 8
        let s3 := if s2.partnerAsk then (s2.record 0x4006 [band, stripe]).fetchStripe band stripe else s2.lossTest
        s3.settleRebuild.bookNextStrip 0
    | _, _ => s1

/-- Book a strip of a floor firm in a window: reads of k strips on their dies and channels, and the program on its own die (R181). -/
def State.bookFloorStrip (b : Band) (i slot : Nat) (s : State) : State :=
  let limit := slot + 128
  let book := fun (bs : List Booking) (x : Nat × Nat × Nat × Nat) =>
    let from_ := match s.portModel (x.1 / 128) with | some m => s.dieFrom m x.1 slot true | none => slot
    match bookDie (s.askDie x.1 (x.2.2.1 * ceilDiv x.2.1 8192) true floorSeq true) limit bs (slotsFrom from_ limit) with
    | some (b1, y) => (match bookSpread (s.askChan (x.1 / 16) x.2.2.2 true floorSeq) limit b1 (slotsFrom y limit) with
        | some (b2, _) => b2 | none => b1)
    | none => bs
  { s with adm := { s.adm with bookings := (s.stripOps b i).foldl book s.adm.bookings } }

/-! ### Reshape -/

/-- A band still has the old shape or member set while a reshape runs (R185). -/
def State.oldShape (s : State) (b : Band) : Bool :=
  s.strp.reshape.isSome && (b.k != s.strp.k || b.m != s.strp.m || b.members != s.strp.order)

/-- Tick at which the last stripe of a band was sealed. -/
def State.bandSealed (s : State) (n : Nat) : Nat :=
  (s.path.stripes.filter (fun x => x.band == n)).foldl (fun a x => max a (x.sealedAt.getD 0)) 0

/-- The next old-shape stripe to migrate: bands in the order they were sealed, within a band in stripe order (R185). -/
def State.nextMigration (s : State) : Option Stripe :=
  (s.path.stripes.filter (fun x => x.migrated == 0 && x.sealedAt.isSome
      && (match NMap.find s.path.bands x.band with | some b => s.oldShape b | none => false))).foldl
    (fun (best : Option Stripe) x => match best with
      | none => some x
      | some y =>
        let kx := (s.bandSealed x.band, x.band, x.idx)
        let ky := (s.bandSealed y.band, y.band, y.idx)
        if kx.1 < ky.1 ∨ (kx.1 = ky.1 ∧ (kx.2.1 < ky.2.1 ∨ (kx.2.1 = ky.2.1 ∧ kx.2.2 < ky.2.2))) then some x else best) none

/-- The floor of the reshape is booked as the rebuild's is (R185). -/
def State.bookReshapeFloor (slot : Nat) (s : State) : State :=
  match s.nextMigration with
  | some x =>
    if s.regField Reg.STRP_RSH_CTRL 0 0 = 1 ∨ s.strp.rebuild.isSome then s
    else (match NMap.find s.path.bands x.band with
      | some b => (List.range (s.regField Reg.STRP_FLOOR 24 16)).foldl (fun s i => s.bookFloorStrip b (i % b.width) slot) s
      | none => s)
  | none => s

/-- REBUILD_FLOOR_BOOKING (R181, R185): at the first tick of a window the floors are booked firm in the next window; the strip behind the
floor is booked in free and soft slots (R180). -/
def execRebuildFloorBooking (t : Nat) (s : State) : Host.Outcome State Fault Refusal :=
  let s1 := s.advanceTo t
  let slot := slotOf s1.time.now + 128
  .next <|
    if s1.time.now % horizonTicks ≠ 0 then s1
    else
      let s2 := s1.settleRebuild
      let clear := { s2 with adm := { s2.adm with
        bookings := s2.adm.bookings.filter (fun b => b.seq != floorSeq || decide (slot - 128 ≤ b.slot)) } }
      let rb := if clear.strp.rebuild.isSome then clear.toRebuild.take (clear.regField Reg.STRP_FLOOR 8 0) else []
      let s3 := rb.foldl (fun s x => match NMap.find s.path.bands x.1 with
        | some b => s.bookFloorStrip b x.2.2 slot | none => s) clear
      ((s3.bookReshapeFloor slot).suspendErases floorSeq).bookNextStrip rb.length

/-- The spare-die bound of R181 in pages. -/
def State.spareDieBound (s : State) : Nat :=
  match (s.strp.order.find? (fun p => !s.strp.failed.contains p)).map (fun p => (s.portModel p, (s.portDies p).length)) with
  | some (some m, dies) =>
    s.regField Reg.ADM_CTRL 23 16 * dies * m.planes * (m.cell + 3) * 128 / (256 * ceilDiv m.tProgDense 8192)
  | _ => 0

/-- A floor is allowed (R181): F2 holds with its page charge, as if a rebuild ran, and the spare-die bound holds. F2 is judged with this
head's figures, for its own reservations and the mirror images it holds (DEDUCED: the partner's P_avail is not sent; log 52). -/
def State.floorOk (s : State) (f : Nat) : Bool :=
  let dummy : Rebuild := { target := 0, total := 0, left := 0, start := 0 }
  let r := { s with strp := { s.strp with rebuild := some dummy } }
  let pages := r.pAvailWith f (s.regField Reg.STRP_FLOOR 24 16)
  fitsF2 { s.fitArgs with pages := pages } s.adm.resv && decide (4 * f ≤ s.spareDieBound)

/-- A write of STRP_FLOOR (R181, R191): RBFLOOR is checked, RSHFLOOR takes its value. -/
def State.writeFloor (o : Origin) (v : Word) (s : State) : State :=
  s.gateWrite o Reg.STRP_FLOOR v (fun _ s =>
    let old := s.budget
    let s1 := s.setField Reg.STRP_FLOOR 24 16 (bits v 24 16)
    let f := bits v 8 0
    let s2 := if s1.floorOk f then s1.setField Reg.STRP_FLOOR 8 0 f
      else ((s1.ignored).raise Reg.STRP_STATUS 0x20).record 0x4025 [f]
    s2.recompute old)

/-- FLOOR_WRITE (R181). -/
def execFloorWrite (t : Nat) (o : Origin) (v : Word) (s : State) : Host.Outcome State Fault Refusal :=
  .next ((s.advanceTo t).writeFloor o v)

/-- Ports of a mask, ascending. -/
def portsOf (mask : Nat) : List Nat := (List.range 16).filter (fun p => mask / 2 ^ p % 2 == 1)

/-- The state as it would be in a new shape. -/
def State.reshaped (k m : Nat) (order : List Nat) (s : State) : State :=
  let r : Reshape := { oldK := s.strp.k, oldM := s.strp.m, oldMembers := s.strp.order, bound := 0, total := 0, sysBound := 0,
                       ldgBound := 0 }
  { s with strp := { s.strp with
      k := k, m := m, order := order, spares := s.strp.spares.filter (fun p => !order.contains p), reshape := some r } }

/-- The refusal code of a reshape (Table 8.2), 0 where it may start. Where several conditions hold the spec gives no order: the first in
the table's order is shown (DESIGN CHOICE, log 59); other populated dies than the members' count as another die model (R172). -/
def State.reshapeCode (s : State) (k m : Nat) (order : List Nat) : Nat :=
  let n := s.reshaped k m order
  let sound := fun p => let x := s.port p; x.state ∈ [2, 3, 4] && s.suits p
  if k < 4 ∨ 14 < k ∨ m < 1 ∨ 3 < m ∨ order.length ≠ k + m ∨ 16 < k + m + n.strp.spares.length then 1
  else if !order.all sound then 2
  else if s.strp.rebuild.isSome || !s.strp.failed.isEmpty then 3
  else if n.blockCount < n.badBlocks + n.mapBlocks + n.slcOf n.memberDies then 4
  else if fitCode { n.fitArgs with rt := 0 } n.adm.resv ≠ 0 then 5
  else if s.strp.reshape.isSome then 6
  else 0

/-- A reshape is refused (R184). -/
def State.refuseReshape (code : Nat) (s : State) : State :=
  ({ s with strp := { s.strp with refuse := code } }).record 0x4024 [code]

/-- Start a reshape (R184): new bands take the new shape from this tick. -/
def State.startReshape (k m : Nat) (order : List Nat) (s : State) : State :=
  let old := s.budget
  let s1 := ((s.closeStripe .home).closeStripe .mirror).reshaped k m order
  let s2 := order.foldl (fun s p => s.updPort p (fun x => { x with state := 4 })) s1
  let s3 := s2.memberChanged.record 0x4020 [s.strp.k + 16 * s.strp.m, k + 16 * m, maskOf order]
  ((s3.openBand .home).openBand .mirror).recompute old

/-- A write of STRP_RSH_REQ (R184, R191). In a mode that ignores the write it is refused with code 7. -/
def State.writeReshape (o : Origin) (v : Word) (s : State) : State :=
  let wrong := s.md.mode ≠ .paired ∧ s.md.mode ≠ .sole ∧ s.md.mode ≠ .reset ∧ s.md.mode ≠ .locked
  let s1 := s.gateWrite o Reg.STRP_RSH_REQ v (fun _ s =>
    let k := bits v 3 0
    let m := bits v 5 4
    let order := portsOf (s.regField Reg.STRP_RSH_MEM 15 0)
    let c := s.reshapeCode k m order
    if c = 0 then s.startReshape k m order else s.refuseReshape c)
  if wrong then s1.refuseReshape 7 else s1

/-- RESHAPE_REQUEST (R184). -/
def execReshapeRequest (t : Nat) (o : Origin) (v : Word) (s : State) : Host.Outcome State Fault Refusal :=
  .next ((s.advanceTo t).writeReshape o v)

/-- RESHAPE_PAUSE (R185, R191). -/
def execReshapePause (t : Nat) (o : Origin) (v : Word) (s : State) : Host.Outcome State Fault Refusal :=
  .next ((s.advanceTo t).gateWrite o Reg.STRP_RSH_CTRL v (State.plainWrite o Reg.STRP_RSH_CTRL v))

/-- The boundary records (R186): every 256 stripes to the system area, every 4,096 to the Ledger. -/
def State.boundaryRecord (last : Bool) (s : State) : State :=
  match s.strp.reshape with
  | none => s
  | some r =>
    let sys := if last || r.bound % 256 == 0 then r.bound else r.sysBound
    let ldg := last || r.bound % 4096 == 0
    let s1 := { s with strp := { s.strp with
      reshape := some { r with sysBound := sys, ldgBound := if ldg then r.bound else r.ldgBound } } }
    if ldg then s1.writeParam 4 0 (Config.boundaryBody r.bound (r.oldK, r.oldM, r.oldMembers)
      (s.strp.k, s.strp.m, s.strp.order) s.strp.gen) else s1

/-- The reshape ends (R187); a member that failed in the old set alone has left with it. -/
def State.endReshape (s : State) : State :=
  match s.strp.reshape with
  | none => s
  | some r =>
    let left := r.oldMembers.filter (fun p => !s.strp.order.contains p && (s.port p).state == 4)
    let s1 := s.boundaryRecord true
    let s2 := { s1 with strp := { s1.strp with reshape := none, failed := s1.strp.failed.filter s1.strp.order.contains } }
    let s3 := left.foldl (fun s p => s.updPort p (fun x => { x with state := 2 })) s2
    (s3.memberChanged.raise Reg.STRP_STATUS 0x10).record 0x4023 [r.bound]

/-- RESHAPE_STRIPE_MIGRATED (R185, R186): the next old stripe's live records stand in new-shape stripes, and B advances past it. -/
def execReshapeStripeMigrated (t : Nat) (s : State) : Host.Outcome State Fault Refusal :=
  let s1 := s.advanceTo t
  .next <|
    if s1.regField Reg.STRP_RSH_CTRL 0 0 = 1 || s1.strp.rebuild.isSome || !s1.md.mode.backgroundRuns then s1
    else
      match s1.strp.reshape, s1.nextMigration with
      | some r, some x =>
        let here := s1.path.stored.filter (fun y => y.band == x.band && y.stripe == x.idx && s1.recordLive y)
        let s2 := here.foldl (fun s y => s.gcMove y) s1
        let s3 := s2.updStripe x.band x.idx (fun y => { y with migrated := r.bound + 1 })
        let s4 := ({ s3 with strp := { s3.strp with reshape := some { r with bound := r.bound + 1 } } }).boundaryRecord false
        (if s4.nextMigration.isNone then s4.endReshape else s4).startErases
      | some _, none => s1.endReshape
      | none, _ => s1

end Sys2Proof.Machine
end

