-- ==== Sys2Proof/Machine/Connect.lean ====
section
/-!
DEFINITION. Opening sessions (R223, R224, R241, R330), the controller of a host session (R192, R197), and the ends that time brings
(R224, R225).
-/

namespace Sys2Proof.Machine

/-! ### As responder -/

/-- Sessions the device can hold (R223). -/
def State.sessionCap (s : State) : Nat := if bit (s.reg Reg.IDM_CTRL) 0 then 64 else 4096

/-- A PURPOSE is enabled by the image on a port: bit PURPOSE of the port's entry, entry 16 the Decux link's (Table 17.6; log 6). -/
def State.purposeOn (s : State) (port purpose : Nat) : Bool :=
  s.image.purposes.getD (min port 16) 0 / 2 ^ purpose % 2 == 1

/-- A KEYID names two GCM slots that hold keys, and nothing else (R330). -/
def State.keyidOk (s : State) (keyid : Nat) : Bool :=
  decide (keyid / 2 ^ 13 % 8 = 0 ∧ keyid / 2 ^ 29 = 0) && s.gcmReady (keySlot keyid false) && s.gcmReady (keySlot keyid true)

/-- Admin queue fields check out: two entries at least, 4,096 at most, and a region that admits them (R192, Table 10.6). -/
def adminOk (m : ConnectMsg) (regionOk : Bool) : Bool :=
  regionOk && m.akey != 0 && decide (1 ≤ m.asqs ∧ m.asqs ≤ 4095 ∧ 1 ≤ m.acqs ∧ m.acqs ≤ 4095)

/-- Host transport queues in use: each admin queue and each I/O queue pair takes one (R223). -/
def State.hostQueues (s : State) : Nat := s.nvq.cqs.length

/-- The refusal reason of a CONNECT, 0 where it is accepted (Table 10.6, in its order). -/
def State.connectReason (s : State) (m : ConnectMsg) (regionOk : Bool) : Nat :=
  if 4096 ≤ s.idm.sessions.length then 1
  else if !s.purposeOn m.port m.purpose then 2
  else if m.keyid = 0 && bit (s.reg Reg.IDM_CTRL) 1 then 3
  else if m.keyid ≠ 0 && !s.keyidOk m.keyid.toNat then 4
  else if m.purpose = 0 && !adminOk m regionOk then 5
  else if m.purpose = 0 && decide (16384 ≤ s.hostQueues) then 6
  else if s.sessionCap ≤ s.idm.sessions.length then 7
  else 0

/-- An ACCEPT that refuses: all but its reason is 0 (Table 10.5). -/
def refusal (reason : Nat) : AcceptMsg :=
  { rsess := 0, wlog2 := 0, reason := reason, rpsn := 0, salt := 0, dbkey := 0, cntlid := 0 }

/-- Send an ACCEPT; one for a sealed session takes a counter of its phase-0 slot (R241, R328), and where that refuses nothing leaves. -/
def State.sendAccept (m : ConnectMsg) (a : AcceptMsg) (s : State) : State :=
  if m.keyid = 0 || a.reason = 3 || a.reason = 4 then s.emit (.acceptMsg m.source false a)
  else
    match s.takeCounter (keySlot m.keyid.toNat false) with
    | (some _, s1) => s1.emit (.acceptMsg m.source true a)
    | (none, s1) => s1

/-- A session as it begins. -/
def newSession (state purpose wlog2 port source : Nat) (keyid salt : Word) (psn now : Nat) : Session :=
  { state := state, sealed := keyid != 0, purpose := purpose, wlog2 := wlog2, port := port, peer := 0, source := source, firstRx := 0,
    nextPsn := psn, cum := 0, got := [], unacked := [], ops := [], lastRx := now, lastTx := now, start := now, lastConnect := now,
    saltTx := salt, saltRx := 0, keyid := keyid.toNat, phaseTx := false, phaseRx := false, bothPhases := false, lastAckCtr := [],
    sinceAck := 0, ackFrom := 0, retries := [], fenced := [], toSeal := [], sendq := [], cntl := none, dbKey := 0, acceptPsn := psn,
    partnerAddr := false, rekeyPsn := none, rekeyRx := none, heldPhases := [false, true], rekeyed := false, closePsn := none }

/-- References of a sealed session to its two slots (R330). -/
def State.refPhases (keyid : Nat) (s : State) : State := (s.refSlot (keySlot keyid false)).refSlot (keySlot keyid true)

/-- The device's own SALT, never equal to the peer's (Table 10.5). -/
def ownSalt (f peer : Word) : Word := if f = peer then f + 1 else f

/-- The NVMe controller of a host session (R192): its admin queues (R193, R197), and its doorbell region (R234). -/
def State.newController (n : Nat) (m : ConnectMsg) (s : State) : State :=
  let cntl := n + 1
  let (key, s1) := s.newRegion 0 (8 * 20480) n false true false false true
  let sq : Sq := { cntl := cntl, qid := 0, dqn := 0, size := m.asqs + 1, key := m.akey.toNat, offset := m.asqofs, head := 0, tail := 0,
                   epoch := 0, holdLimit := 0, deleting := none }
  let cq : Cq := { cntl := cntl, qid := 0, dqn := 0, size := m.acqs + 1, key := m.akey.toNat, offset := m.acqofs, head := 0, tail := 0,
                   phase := true, epoch := 0, ien := true, held := [], unnotified := 0, notifyFrom := 0 }
  let c : Ctrl := { session := n, nkey := m.nkey.toNat, nofs := m.nofs, partnerAddr := m.partnerAddr, grant := 16383, arb := 0,
                    coalesce := 0, aerConf := 0, aers := [], notices := [], masked := [], aborts := 0, abortTick := 0, outstanding := [] }
  let s2 := s1.updSession n (fun x => { x with cntl := some cntl, dbKey := key, partnerAddr := m.partnerAddr })
  ({ s2 with nvq := { s2.nvq with
      ctrls := NMap.put s2.nvq.ctrls cntl c
      sqs := NMap.put s2.nvq.sqs (adminKey cntl) sq
      cqs := NMap.put s2.nvq.cqs (adminKey cntl) cq } }).record 0x6000 [cntl, n]

/-- The ACCEPT of an open session (Table 10.5). -/
def State.acceptOf (s : State) (n : Nat) : AcceptMsg :=
  match s.session? n with
  | some x => { rsess := n, wlog2 := x.wlog2, reason := 0, rpsn := x.acceptPsn, salt := x.saltTx, dbkey := BitVec.ofNat 32 x.dbKey,
                cntlid := x.cntl.getD 0 }
  | none => refusal 1

/-- Data of the session events: the peer address is two items, low half first. -/
def addressItems (a : Nat) : List Nat := [a % 2 ^ 64, a / 2 ^ 64]

/-- Accept a CONNECT (R224): the lowest session index free, its own first PSN and SALT, the smaller window, and for PURPOSE 0 a
controller. -/
def State.openAsResponder (m : ConnectMsg) (s : State) : State :=
  match firstFree 0 4096 (fun i => NMap.has s.idm.sessions i) with
  | none => s
  | some n =>
    let psn := s.freeValue.toNat
    let s1 := s.spendFree
    let salt := ownSalt s1.freeValue m.salt
    let s2 := s1.spendFree
    let x := newSession 2 m.purpose (min m.wlog2 (8 + Config.windowLog2 n % 13)) m.port m.source m.keyid salt psn s.time.now
    let x1 : Session := { x with peer := m.isess % 4096, firstRx := m.ipsn, cum := m.ipsn, saltRx := m.salt }
    let s3 := { s2 with idm := { s2.idm with sessions := NMap.put s2.idm.sessions n x1 } }
    let s4 := if m.keyid = 0 then s3 else s3.refPhases m.keyid.toNat
    let s5 := (if m.purpose = 0 then s4.newController n m else s4).record 0x6100 ([n, m.purpose] ++ addressItems m.source)
    s5.sendAccept m (s5.acceptOf n)

/-- The session a CONNECT repeats (R224). -/
def State.repeated (s : State) (m : ConnectMsg) : Option Nat :=
  (s.idm.sessions.find? (fun x => x.2.state != 1 && x.2.peer == m.isess % 4096 && x.2.firstRx == m.ipsn && x.2.source == m.source)).map (·.1)

/-- CONNECT (R224, R241, R242): `tagOk` is the answer of the tag check under the slot the clear KEYID names. -/
def execConnect (t : Nat) (sealed tagOk regionOk : Bool) (m : ConnectMsg) (s : State) : Host.Outcome State Fault Refusal :=
  let s1 := s.advanceTo t
  let named := m.keyid != 0 && s1.keyidOk m.keyid.toNat
  .next <|
    if !s1.md.mode.frontEnd || (s1.moor.fenced && decide (m.port < 16)) then s1
    else if sealed != (m.keyid != 0) || (named && !tagOk) then (s1.raise Reg.IDM_STATUS 0x10).recordOnce 0x6114 4096 [4096]
    else
      match s1.repeated m with
      | some n => s1.sendAccept m (s1.acceptOf n)
      | none =>
        let r := s1.connectReason m regionOk
        if r = 0 then s1.openAsResponder m
        else (s1.record 0x6103 ([r] ++ addressItems m.source)).sendAccept m (refusal r)

/-! ### As initiator -/

/-- Open a session of the device's own (R223, R224): CONNECT leaves at once; none where no index or key is there. -/
def State.connectTo (purpose port source keyid : Nat) (s : State) : Option Nat × State :=
  match firstFree 0 s.sessionCap (fun i => NMap.has s.idm.sessions i) with
  | none => (none, s)
  | some n =>
    if keyid ≠ 0 ∧ !s.keyidOk keyid then (none, s)
    else
      let psn := s.freeValue.toNat
      let s1 := s.spendFree
      let x := newSession 1 purpose (8 + Config.windowLog2 n % 13) port source (BitVec.ofNat 32 keyid) s1.freeValue psn s.time.now
      let s2 := s1.spendFree
      let s3 := { s2 with idm := { s2.idm with sessions := NMap.put s2.idm.sessions n x } }
      if keyid = 0 then (some n, s3.emit (.connect n))
      else
        match (s3.refPhases keyid).takeCounter (keySlot keyid false) with
        | (_, s4) => (some n, s4.emit (.connect n))

/-- An attempt ends without a session: its slots are released. -/
def State.dropAttempt (n : Nat) (s : State) : State :=
  match s.session? n with
  | some x =>
    let s1 := { s with idm := { s.idm with sessions := NMap.del s.idm.sessions n } }
    if x.sealed then (s1.unrefSlot (keySlot x.keyid false)).unrefSlot (keySlot x.keyid true) else s1
  | none => s

/-- ACCEPT (R224, R241): it opens the session it answers; a refusal ends the attempt with event 0x6103. On a sealed attempt only a refusal
0x03 or 0x04 may come unsealed. -/
def execAccept (t session : Nat) (sealed tagOk : Bool) (m : AcceptMsg) (s : State) : Host.Outcome State Fault Refusal :=
  let s1 := s.advanceTo t
  .next <| match s1.session? session with
    | none => s1
    | some x =>
      if x.state ≠ 1 then s1
      else
        let good := if x.sealed then (sealed && tagOk) || (!sealed && (m.reason == 3 || m.reason == 4)) else !sealed
        if !good then s1.authFail session
        else if m.reason ≠ 0 then (s1.dropAttempt session).record 0x6103 ([m.reason] ++ addressItems x.source)
        else
          (s1.updSession session (fun x =>
            { x with state := 2, peer := m.rsess % 4096, wlog2 := min x.wlog2 m.wlog2, firstRx := m.rpsn, cum := m.rpsn, saltRx := m.salt
                     lastRx := s1.time.now })).record 0x6100 ([session, x.purpose] ++ addressItems x.source)

/-- CONNECT_RESEND (R224): every 10 ms until ACCEPT arrives; a sealed CONNECT is sealed again under a new counter. -/
def execConnectResend (t session : Nat) (s : State) : Host.Outcome State Fault Refusal :=
  let s1 := s.advanceTo t
  .next <| match s1.session? session with
    | none => s1
    | some x =>
      if x.state ≠ 1 ∨ s1.time.now < x.lastConnect + 10 * msTicks ∨ x.start + 100 * msTicks ≤ s1.time.now then s1
      else
        let s2 := s1.updSession session (fun x => { x with lastConnect := s1.time.now })
        if x.sealed then (s2.takeCounter (keySlot x.keyid false)).2.emit (.connect session) else s2.emit (.connect session)

/-- CONNECT_TIMEOUT (R224): an attempt fails 100 ms after its first send. -/
def execConnectTimeout (t session : Nat) (s : State) : Host.Outcome State Fault Refusal :=
  let s1 := s.advanceTo t
  .next <| match s1.session? session with
    | none => s1
    | some x => if x.state = 1 ∧ x.start + 100 * msTicks ≤ s1.time.now then s1.dropAttempt session else s1

/-- SESSION_TIMEOUT (R225). -/
def execSessionTimeout (t session : Nat) (s : State) : Host.Outcome State Fault Refusal :=
  let s1 := s.advanceTo t
  .next <| match (s1.session? session).bind s1.timedOut with
    | some why => s1.timeoutSession session why
    | none => s1

end Sys2Proof.Machine
end

