-- ==== Sys2Proof/Machine/Image.lean ====
section
/-!
DEFINITION. The configuration image (17_boot_reset.md): the boot parameter block (Table 17.3), the image's bytes and sections (Tables 17.5
and 17.6), the checks of a slot (Table 17.4), the register section (R362), loading it, and confirming a trial slot (R359).
-/

namespace Sys2Proof.Machine

/-! ### The boot parameter block -/

/-- The boot parameter block (Table 17.3). -/
structure BootBlock where
  active : Nat
  state0 : Nat
  state1 : Nat
  minSvn : Nat
  deriving DecidableEq, Repr

/-- The block in the Ledger; where no entry is valid its fields are 0 (log 29). -/
def State.bootBlock (s : State) : BootBlock :=
  let b := match s.newestParam 1 0 with | some (_, body) => body | none => []
  { active := (b.getD 0 0).toNat % 2, state0 := (b.getD 1 0).toNat, state1 := (b.getD 2 0).toNat,
    minSvn := leNat ((b.drop 4).take 4) }

/-- The state of a slot. -/
def slotStateOf (b : BootBlock) (slot : Nat) : Nat := if slot = 0 then b.state0 else b.state1

/-- The block with a slot's state changed. -/
def withSlotState (b : BootBlock) (slot st : Nat) : BootBlock :=
  if slot = 0 then { b with state0 := st } else { b with state1 := st }

/-- The body of the block (Table 17.3). -/
def bootBlockBytes (b : BootBlock) : List Byte :=
  leBytes 1 b.active ++ leBytes 1 b.state0 ++ leBytes 1 b.state1 ++ leBytes 1 0 ++ leBytes 4 b.minSvn

/-- Write the block (R349, R359). -/
def State.writeBootBlock (b : BootBlock) (s : State) : State := s.writeParam 1 0 (bootBlockBytes b)

/-! ### The image in a slot -/

/-- Ledger offset of a slot: main sectors 0 to 123 of bank A or bank B (Table 16.1). -/
def slotBase (slot : Nat) : Nat := slot * 0x2000000 + 0x20000

/-- Bytes of a slot. -/
def State.slotBytes (s : State) (slot off n : Nat) : List Byte := s.ldgBytes (slotBase slot + off) n

/-- A little-endian integer of a slot. -/
def State.slotNat (s : State) (slot off n : Nat) : Nat := leNat (s.slotBytes slot off n)

/-- LEN of the image in a slot (Table 17.5). -/
def State.imageLen (s : State) (slot : Nat) : Nat := s.slotNat slot 12 4

/-- Sections of the image in a slot: TYPE, OFFSET, LENGTH, CRC (Table 17.5). -/
def State.imageSections (s : State) (slot : Nat) : List (Nat × Nat × Nat × Nat) :=
  (List.range (s.slotNat slot 7 1)).map (fun i =>
    let o := 128 + 16 * i
    (s.slotNat slot o 2, s.slotNat slot (o + 4) 4, s.slotNat slot (o + 8) 4, s.slotNat slot (o + 12) 4))

/-- Content of the first section of a TYPE. -/
def State.sectionBytes (s : State) (slot kind : Nat) : List Byte :=
  match (s.imageSections slot).find? (fun x => x.1 == kind) with
  | some x => s.slotBytes slot x.2.1 x.2.2.1
  | none => []

/-- Sections of the image but for the firmware, by TYPE and content (R365). -/
def State.dataSections (s : State) (slot : Nat) : List (Nat × List Byte) :=
  ((s.imageSections slot).filter (fun x => x.1 != 1)).map (fun x => (x.1, s.slotBytes slot x.2.1 x.2.2.1))

/-! ### The register section (R362) -/

/-- Registers an entry may name, but for the owner select and the values it addresses. -/
def imageRegs : List Nat := [
  Reg.CLKP_CTRL, Reg.GCTL_RETIRE, Reg.GCTL_OVERLOAD, Reg.ADM_CTRL, Reg.ADM_PATH, Reg.ADM_BURST, Reg.DDUP_CTRL, Reg.FCH_CTRL,
  Reg.FCH_CKPT, Reg.STRP_CTRL, Reg.NVQ_CTRL, Reg.IDM_CTRL, Reg.IDM_TIMERS, Reg.IDM_ODCTRL, Reg.IDM_CHAIN, Reg.MOOR_CTRL,
  Reg.MOOR_RESYNC, Reg.CIPH_CTRL, Reg.POOL_MEM, Reg.HDMA_GCTL]

/-- Entries of a register section: address, value, mask. -/
def sectionEntries (bs : List Byte) : List (Nat × Word × Word) :=
  (List.range (bs.length / 12)).map (fun i =>
    let e := (bs.drop (12 * i)).take 12
    (leNat (e.take 4), BitVec.ofNat 32 (leNat ((e.drop 4).take 4)), BitVec.ofNat 32 (leNat (e.drop 8))))

/-- Value AND mask into the masked bits; the other bits stand. -/
def masked (old v m : Word) : Word := (old &&& ~~~ m) ||| (v &&& m)

/-- Apply one entry: the owner selected after it, and the state; none where the write would be ignored or names another register. -/
def State.imageEntry (sel : Nat) (e : Nat × Word × Word) (s : State) : Option (Nat × State) :=
  let (a, v, m) := e
  if a = Reg.POOL_OSEL then
    let x := (masked (BitVec.ofNat 32 sel) v m).toNat
    if x < 65536 then some (x, s) else none
  else if a = Reg.POOL_OQUOTA then
    let q := (masked (BitVec.ofNat 32 (s.owner sel).quota) v m).toNat
    if sel = 0 ∨ q < (s.owner sel).floor then none else some (sel, s.updOwner sel (fun o => { o with quota := q }))
  else if a = Reg.POOL_OAGE then
    let x := (masked (BitVec.ofNat 32 (s.owner sel).age) v m).toNat
    if sel = 0 ∨ 16 ≤ x then none else some (sel, s.updOwner sel (fun o => { o with age := x }))
  else if imageRegs.contains a then
    match findReg a with
    | none => none
    | some (r, _) =>
      let x := masked (s.reg a) v m
      let rw := r.maskOf (· == .rw)
      if x &&& r.reserved ≠ 0 ∨ badFields a x ≠ 0 then none
      else some (sel, s.setReg a ((s.reg a &&& ~~~ rw) ||| (x &&& rw)))
  else none

/-- Every entry may be applied, in order. -/
def State.entriesOk : List (Nat × Word × Word) → Nat → State → Bool
  | [], _, _ => true
  | e :: es, sel, s => match s.imageEntry sel e with
    | some (sel', s') => State.entriesOk es sel' s'
    | none => false

/-- Apply entries in order. -/
def State.applyEntries : List (Nat × Word × Word) → Nat → State → State
  | [], _, s => s
  | e :: es, sel, s => match s.imageEntry sel e with
    | some (sel', s') => State.applyEntries es sel' s'
    | none => State.applyEntries es sel s

/-- What an entry named returns to its reset value (R360). -/
def State.undoEntry (sel : Nat) (a : Nat) (s : State) : State :=
  if a = Reg.POOL_OQUOTA ∧ sel ≠ 0 then s.updOwner sel (fun o => { o with quota := ({} : Owner).quota })
  else if a = Reg.POOL_OAGE ∧ sel ≠ 0 then s.updOwner sel (fun o => { o with age := ({} : Owner).age })
  else if imageRegs.contains a then s.setReg a (regReset a)
  else s

/-- Undo the entries up to and with the first that failed; `w` is the state they were tried on. -/
def State.undoEntries : List (Nat × Word × Word) → Nat → State → State → State
  | [], _, _, s => s
  | e :: es, sel, w, s => match w.imageEntry sel e with
    | some (sel', w') => State.undoEntries es sel' w' (s.undoEntry sel' e.1)
    | none => s.undoEntry sel e.1

/-! ### Checks of a slot (Table 17.4) -/

/-- A die model record (R143, Table 7.2). -/
def parseModel (bs : List Byte) : DieModel :=
  let n := fun (off len : Nat) => leNat ((bs.drop off).take len)
  { cell := n 0 1, planes := n 1 1, rate := n 2 2, blkPerPlane := n 4 2, wlPerBlk := n 6 2, tProgSlc := n 8 4, tProgDense := n 12 4,
    tFold := n 16 4, tErase := n 20 4, tRead := n 24 4, tSusp := n 28 4, tXfer := n 32 2, peDense := n 34 2, peSlc := n 36 2,
    retain := n 38 2, slcOp := n 40 1, suspOp := n 41 1, resumeOp := n 42 1, rrFeat := n 43 1, rrCount := n 44 1, tempFeat := n 45 1,
    rrDefault := BitVec.ofNat 32 (n 48 4), rrSteps := (List.range 7).map (fun i => BitVec.ofNat 32 (n (52 + 4 * i) 4)) }

/-- What sections 0x03 to 0x06 say, with the header's START and SVN and the die models. -/
def State.readImage (s : State) (slot : Nat) : Image :=
  { Config.imageBody (s.slotBytes slot 0 (s.imageLen slot)) with
    models := (Config.modelRecords (s.slotBytes slot 0 (s.imageLen slot))).map parseModel, loaded := true, start := s.slotNat slot 6 1, svn := s.slotNat slot 8 4 }

/-- The state with an image's owners in place: what its register section is applied to (R362). -/
def State.withImage (slot : Nat) (s : State) : State := ({ s with image := s.readImage slot }).imageOwners

/-- The public key's hash is enrolled and not revoked. -/
def State.keyKnown (s : State) (slot : Nat) : Bool :=
  let h := sha384 (s.slotBytes slot 16 97)
  s.md.enrolled.any (fun p => p.2 == h && s.md.revoked / 2 ^ p.1 % 2 == 0)

/-- The header is sound: MAGIC, FORMAT, START, NSECT and LEN (log 29). -/
def State.headerOk (s : State) (slot : Nat) : Bool :=
  let n := s.slotNat slot 7 1
  let len := s.imageLen slot
  s.slotNat slot 0 4 == 0xC7F11B00 && s.slotNat slot 4 2 == 1 && decide (s.slotNat slot 6 1 ≤ 2) && decide (4 ≤ n ∧ n ≤ 16)
    && decide (128 + 16 * n + 96 ≤ len ∧ len ≤ 16252928)

/-- A section lies inside the signed bytes and its CRC holds. -/
def State.sectionOk (s : State) (slot : Nat) (x : Nat × Nat × Nat × Nat) : Bool :=
  decide (x.2.1 + x.2.2.1 ≤ s.imageLen slot - 96) && (crc32c (s.slotBytes slot x.2.1 x.2.2.1)).toNat == x.2.2.2

/-- The required sections are there, and every section's CRC holds. -/
def State.sectionsOk (s : State) (slot : Nat) : Bool :=
  let xs := s.imageSections slot
  [1, 2, 3, 4].all (fun k => xs.any (fun x => x.1 == k)) && xs.all (s.sectionOk slot)

/-- The entries of the register section of a slot. -/
def State.slotEntries (s : State) (slot : Nat) : List (Nat × Word × Word) := sectionEntries (s.sectionBytes slot 2)

/-- The first check of Table 17.4 a slot fails; 0 where it passes them all (R360). -/
def State.slotCode (s : State) (slot minSvn : Nat) : Nat :=
  if !s.headerOk slot then 1
  else if !s.keyKnown slot then 2
  else if !signatureOk (s.slotBytes slot 0 (s.imageLen slot)) then 3
  else if s.slotNat slot 8 4 < minSvn then 4
  else if !s.sectionsOk slot then 5
  else if !State.entriesOk (s.slotEntries slot) 0 (s.withImage slot) then 6
  else 0

/-! ### The choice of a slot (R359) -/

/-- Note a rejection (R360): GCTL_BOOT.FAIL, event 0xA200, and what the register section wrote is undone. -/
def State.rejectSlot (slot code : Nat) (s : State) : State :=
  let fails := match s.md.bootFails with | [a, b] => [a, b] | _ => [0, 0]
  let s1 := { s with md := { s.md with bootFail := code, bootFails := fails.set slot code } }
  let s2 := if code = 6 then State.undoEntries (s.slotEntries slot) 0 (s.withImage slot) s1 else s1
  s2.record 0xA200 [slot, code]

/-- Try a slot: it becomes the slot booted, or is rejected. -/
def State.trySlot (slot minSvn : Nat) (s : State) : Bool × State :=
  let c := s.slotCode slot minSvn
  if c = 0 then (true, { s with md := { s.md with bootSlot := slot } }) else (false, s.rejectSlot slot c)

/-- R359 as the ROM runs it: whether a slot is accepted. -/
def State.chooseSlot (s : State) : Bool × State :=
  let b0 := s.bootBlock
  let a := b0.active
  let i := 1 - a
  let b1 := if slotStateOf b0 i = 3 then withSlotState b0 i 4 else b0
  let s1 := if slotStateOf b0 i = 3 then s.writeBootBlock b1 else s
  let trial := slotStateOf b1 i = 2
  let b2 := if trial then withSlotState b1 i 3 else b1
  let s2 := if trial then s1.writeBootBlock b2 else s1
  let (ok2, s3) := if trial then s2.trySlot i b2.minSvn else (false, s2)
  if ok2 then (true, { s3 with md := { s3.md with trial := true } })
  else
    let (ok3, s4) := if slotStateOf b2 a ≠ 4 then s3.trySlot a b2.minSvn else (false, s3)
    if ok3 then (true, s4)
    else
      let (ok4, s5) := if slotStateOf b2 i = 1 then s4.trySlot i b2.minSvn else (false, s4)
      if ok4 then (true, ({ s5 with md := { s5.md with fallback := true } }).record 0xA201 [i]) else (false, s5)

/-- A slot is confirmed (R359): ACTIVE, its state 1, MIN_SVN its SVN, and event 0xA204. -/
def State.confirmSlot (slot svn : Nat) (s : State) : State :=
  let b := withSlotState s.bootBlock slot 1
  (({ s with md := { s.md with trial := false } }).writeBootBlock { b with active := slot, minSvn := svn }).record 0xA204 [slot, svn]

/-- A trial slot is confirmed when the device first reaches Paired or Sole. -/
def State.confirmTrial (s : State) : State := if s.md.trial then s.confirmSlot s.md.bootSlot s.image.svn else s

/-! ### Firmware -/

/-- Base of the firmware carve-out (Table 13.2, the ninth structure of HBM), where the image gives one. -/
def State.firmwareBase (s : State) : Option Nat := (s.image.carve.find? (fun c => c.1 == 8)).map (fun c => c.2.1)

/-- Put firmware into its carve-out. -/
def State.putFirmware (bs : List Byte) (s : State) : State :=
  match s.firmwareBase with | some a => s.memWrite a bs | none => s

/-- The running firmware, where the image gives its place. -/
def State.firmware (s : State) : List Byte :=
  match s.firmwareBase with | some a => s.memBytes a s.md.fwLen | none => []

/-- Owner of the management firmware's staging buffers (R365). -/
def firmwareOwner : Nat := 0x0100

/-- Bytes of a pool 4 buffer. -/
def fwBufSize : Nat := 1048576

/-- Free the buffers of a list. -/
def State.freeFirmware (bufs : List Nat) (s : State) : State :=
  bufs.foldl (fun (s : State) (a : Nat) => s.freeBuffer a firmwareOwner) s

/-- Take `n` pool 4 buffers for firmware, or none of them (R294, R365). -/
def State.takeFirmware : Nat → List Nat → State → Option (List Nat) × State
  | 0, got, s => (some got.reverse, s)
  | n + 1, got, s =>
    match s.answer firmwareOwner fwBufSize false with
    | .granted p a => State.takeFirmware n (a :: got) (s.grant firmwareOwner (.granted p a))
    | x => (none, (s.grant firmwareOwner x).freeFirmware got)

/-- Write firmware into buffers, each in turn. -/
def State.fillBuffers : List Nat → List Byte → State → State
  | [], _, s => s
  | a :: rest, bs, s => State.fillBuffers rest (bs.drop fwBufSize) (s.memWrite a (bs.take fwBufSize))

/-- The old copy in Relay. -/
def State.keptFirmware (s : State) : List Byte :=
  ((s.md.fwBufs.map (fun a => s.memBytes a fwBufSize)).flatten).take s.md.fwKept

/-- The buffers of Relay are free again. -/
def State.endStaging (s : State) : State :=
  let s1 := s.freeFirmware s.md.fwBufs
  { s1 with md := { s1.md with fwBufs := [], fwKept := 0 } }

/-- The old copy is restored (R366). -/
def State.restoreFirmware (s : State) : State :=
  let n := s.md.fwKept
  let s1 := s.putFirmware s.keptFirmware
  ({ s1 with md := { s1.md with fwLen := n } }).endStaging

/-! ### Loading (Table 17.2 stage 4) -/

/-- The member record the head goes by (R172): the newer of the Ledger's and the one kept with the flash, and where there is none the
roles and the shape the image gives for the first format. -/
def State.resolveMembers (s : State) : State :=
  match s.newestParam 3 0 with
  | some (_, body) =>
    let (k, m, order, spares, gen) := Config.memberRecord body
    if s.strp.gen < gen then { s with strp := { s.strp with k := k, m := m, order := order, spares := spares, gen := gen } } else s
  | none =>
    if s.strp.gen ≠ 0 then s
    else
      ({ s with strp := { s.strp with
        k := s.image.k, m := s.image.m, order := s.image.members, spares := s.image.spares } }).memberChanged

/-- Stage 4: the sections are loaded and the register section applied; the pools stand as section 0x03 gives them (log 23). -/
def State.loadImage (s : State) : State :=
  let slot := s.md.bootSlot
  let s1 := State.applyEntries (s.slotEntries slot) 0 (s.withImage slot)
  let s2 := { s1 with md := { s1.md with sections := s.dataSections slot, wdog := s.time.now, fwLen := (s.sectionBytes slot 1).length } }
  ((s2.buildPools).putFirmware (s.sectionBytes slot 1)).resolveMembers

end Sys2Proof.Machine
end

