-- ==== Sys2Proof/Machine/Pairing.lean ====
section
/-!
DEFINITION. Pairing and fail-over: beacons (R246 to R251), the mooring lease (R252 to R255), the voters (R256 to R259), the witness (R260,
R261), takeover (R262, R263), Join, resynchronisation and the switch (R264 to R267), and the checks of the takeover path (R270).
-/

namespace Sys2Proof.Machine

/-! ### Parameters -/

/-- Beacon period, lease and liveness limit (MOOR_CTRL). -/
def State.period (s : State) : Nat := s.regField Reg.MOOR_CTRL 9 0 * 10000
def State.lease (s : State) : Nat := s.regField Reg.MOOR_CTRL 18 10 * msTicks
def State.missLimit (s : State) : Nat := s.regField Reg.MOOR_CTRL 21 19
def State.preferred (s : State) : Bool := bit (s.reg Reg.MOOR_CTRL) 22
def State.witness (s : State) : Bool := bit (s.reg Reg.MOOR_CTRL) 23
def State.soleJoin (s : State) : Bool := bit (s.reg Reg.MOOR_CTRL) 24

/-- The guard (R253). -/
def guardTicks : Nat := 2000000

/-- Modes in which beacons are sent each period. -/
def Mode.beacons : Mode → Bool
  | .join | .paired | .sole | .takeover | .handback | .relay | .preservation => true
  | _ => false

/-- Modes whose lease the partner renews (R252, R260). -/
def Mode.moored : Mode → Bool
  | .paired | .handback | .relay => true
  | _ => false

/-- The lease is this head's own: nobody else could serve (Table 2.2: Takeover, Sole, and Relay entered from Sole). -/
def State.ownLease (s : State) : Bool := s.service == .sole || s.service == .takeover

/-- A lease end only moves forward (R252). -/
def State.renewOwn (e : Nat) (s : State) : State := s.updMoor (fun m => { m with eOwn := max m.eOwn e })
def State.renewPartner (e : Nat) (s : State) : State := s.updMoor (fun m => { m with eP := max m.eP e })

/-- The epoch advances by 1 (R247). -/
def State.nextEpoch (s : State) : State := s.updMoor (fun m => { m with epoch := (m.epoch + 1) % 2 ^ 32 })

/-- A check of Table 11.7 failed. -/
def State.checkFailed (s : State) : State := s.raise Reg.MOOR_STATUS 0x20

/-! ### Mode changes of the pair -/

/-- Relay ends without its swap (R366, R417): the old copy is restored, and event 0x1401 names the cause. -/
def State.relayOff (cause : Nat) (s : State) : State :=
  if s.md.mode == .relay then s.restoreFirmware.record 0x1401 [cause] else s

/-- Enter Join: what the pair agreed on before is gone. -/
def State.enterJoin (cause : Nat) (s : State) : State :=
  (s.enterMode .join cause).updMoor (fun m =>
    { m with granted := false, gotGrant := false, joinEpochs := none, refused := false, rxTick := s.time.now, grantNext := false,
             wheld := false, claim := none, resync := none })

/-- The self-fence (R259), with the cause of event 0x7030; the writes in flight never complete (R23), nor do the reads. -/
def State.selfFence (cause : Nat) (s : State) : State :=
  let s1 := ((s.relayOff 0x11).enterJoin 0x11).record 0x7030 [cause, s.moor.eOwn]
  let s2 := (s1.raise Reg.MOOR_STATUS 4).updMoor (fun m => { m with fenced := true })
  { s2 with
    adm := { s2.adm with writes := [], bookings := [] }
    path := { s2.path with rcmds := [], reads := s2.path.reads.filter (fun r => decide (3 ≤ r.use)) } }.runRelayHeld

/-- Address announcements start (R263): now, and 1 s and 2 s later. -/
def State.startAnnounce (partner : Bool) (s : State) : State :=
  (s.updMoor (fun m => { m with announce := some (s.time.now, 0, partner) })).emit (.announce partner)

/-- The end of the partner's lease: RTICK where a release ended it (R255), else E_P. -/
def State.partnerEnd (s : State) : Nat :=
  match s.moor.pRelease with | some r => min r s.moor.eP | none => s.moor.eP

/-- Every record of a write is acknowledged by the partner. -/
def WriteOp.acked (w : WriteOp) : Bool := w.acc.isSome && w.grains.all (fun x => x.failed || x.ackAt.isSome)

/-- A mirror image becomes a home reservation, bound to no queue (R63). -/
def Resv.convert (r : Resv) : Resv := { r with home := true, dqn := 0, cntl := 0 }

/-- The volumes, reservations and links of the lost partner become this head's (R63, R262, R272); the WGENs of its grains go on from the
mirror copies (R79). -/
def State.takeOver (s : State) : State :=
  let foreign := s.path.map.filter (fun p => match s.ns? (p.1 / 2 ^ 34) with | some n => !n.home | none => false)
  { s with
    nvq := { s.nvq with ns := s.nvq.ns.map (fun p => (p.1, if p.2.home then p.2 else { p.2 with taken := true })) }
    adm := { s.adm with resv := s.adm.resv.map (fun p => (p.1, if p.2.home then p.2 else p.2.convert)) }
    repl := { s.repl with links := s.repl.links.map (fun p => (p.1, { p.2 with home := true })) }
    path := { s.path with
      wgens := foreign.foldl (fun m p => NMap.put m p.1 p.2.wgen) s.path.wgens
      stored := s.path.stored.filter (fun x => x.st == .home || x.acked) } }

/-- Takeover (R262): the epoch, the writes that awaited the partner (83h, R23), the mirror records, the reservations with the cuts of
R63, and the announcements. -/
def State.enterTakeover (s : State) : State :=
  let old := s.budget
  let fin := s.partnerEnd
  let s1 := ((s.relayOff 0x06).nextEpoch).enterMode .takeover 0x06
  let s2 := (s1.record 0x7031 [fin, s1.moor.epoch]).raise Reg.MOOR_STATUS 8
  let s3 := s2.updMoor (fun m => { m with
    lastTakeover := s2.time.now, lossEnd := fin, grantNext := false, wheld := false, claim := none, sync := false })
  let s4 := (s3.adm.writes.filter (fun w => !w.acked)).foldl (fun (s : State) (w : WriteOp) => s.endWrite w 7 0x83 0) s3
  let s5 := s4.takeOver.checkWrites
  let s6 := { s5 with md := { s5.md with partnerAddrs := true } }
  (((s6.recompute old).cuts).startAnnounce true).runRelayHeld

/-- The partner is lost in Handback: resynchronisation stops, and the dirty log is kept (Table 2.3). -/
def State.handbackLost (s : State) : State :=
  (s.nextEpoch.enterMode .sole 0x06).updMoor (fun m =>
    { m with resync := none, grantNext := false, wheld := false, claim := none, sync := false })

/-- Enter Paired: the epoch advances (R247), what ended the last pairing is past, and a trial slot is confirmed (R359). -/
def State.enterPaired (cause : Nat) (s : State) : State :=
  let old := s.budget
  let s1 := (s.nextEpoch.enterMode .paired cause).updMoor (fun m =>
    { m with pRelease := none, fenced := false, wheld := false, claim := none, resync := none, dirty := [], changes := [] })
  (s1.recompute old).cuts.confirmTrial

/-- Serve alone after a Join without a partner (R266). -/
def State.enterSoleAtJoin (s : State) : State :=
  let old := s.budget
  let s1 := (s.nextEpoch.enterMode .sole 0x14).updMoor (fun m => { m with fenced := false, claim := none })
  (s1.recompute old).confirmTrial

/-- Handback begins (R266, R267): the survivor in Sole, toward a partner that has completed Join. Its own lease begins anew with the
entry, and the partner's with the beacon (DESIGN CHOICE, log 25). -/
def State.enterHandback (stick : Nat) (full : Bool) (s : State) : State :=
  let s1 := (s.enterMode .handback 0x07).updMoor (fun m =>
    { m with pRelease := none, grantNext := true, granted := false, gotGrant := false })
  ((s1.renewOwn (s1.time.now + s1.lease)).renewPartner (stick + s1.lease)).startResync full

/-! ### Join -/

/-- FLAGS bits of the partner's last beacon. -/
def State.pDirty (s : State) : Bool := s.moor.pFlags / 64 % 2 == 1
def State.pEmpty (s : State) : Bool := s.moor.pFlags / 128 % 2 == 1

/-- This head, in Join with a partner in Join, is the source of the resynchronisation (Table 11.4 step 3). -/
def State.joinSource (s : State) : Bool :=
  let mine := match s.moor.joinEpochs with | some (a, b) => decide (b < a) || (a == b && s.preferred) | none => false
  !s.path.empty && (s.pEmpty || (!s.moor.dirty.isEmpty && (!s.pDirty || mine)))

/-- The lease exchange of Table 11.4 step 4 is on: the tides are synchronised, and no dirty log stands in the way; toward a survivor in
Handback it goes on while the records come (log 25). -/
def State.exchange (s : State) : Bool :=
  s.md.mode == .join && s.moor.sync && !s.md.deferred &&
    (s.moor.pmode == 7 ||
      (s.moor.pmode == 3 && s.moor.resync.isNone && !s.path.empty && !s.pEmpty && s.moor.dirty.isEmpty && !s.pDirty))

/-- Both heads in Join have granted: Paired, cause 0x10. -/
def State.exchanged (s : State) : State :=
  if s.exchange && s.moor.pmode == 3 && s.moor.granted && s.moor.gotGrant then s.enterPaired 0x10 else s

/-- What the returning head reports (R267): map units named by records with ATICK at or after its last renewal tick less the longest
deadline. -/
def State.reportUnits (s : State) : State :=
  if s.path.empty then s
  else
    let from_ := s.moor.eOwn - s.lease - 67100672
    let units := ((s.path.stored.filter (fun x => x.record.kind != 5 && decide (from_ ≤ x.record.atick))).map (fun x =>
      unitKey (recordVol x.record) (x.record.check.reftag.toNat % 2 ^ 34 / 4))).eraseDups
    units.foldl (fun (s : State) (u : Nat) => s.emit (.resync u)) s

/-- The partner has not been heard for MISS periods since Join was entered or its last beacon (DESIGN CHOICE, log 25). -/
def State.partnerAbsent (s : State) : Bool := decide (s.moor.rxTick + s.missLimit * s.period ≤ s.time.now)

/-! ### Witness -/

/-- A claim that nothing has answered renews nothing (R260): event 0x7021 once per occurrence window. -/
def State.claimFailed (c : Claim) (s : State) : State :=
  (((s.updMoor (fun m => { m with claim := none })).raise Reg.MOOR_STATUS 0x10)).recordOnce 0x7021 0 [c.cseq.toNat]

/-- Send a CLAIM (Table 11.2). The claim before it, if still open, had no answer in its period (DESIGN CHOICE, log 25). -/
def State.sendClaim (kind : Nat) (s : State) : State :=
  let s1 := match s.moor.claim with | some c => s.claimFailed c | none => s
  let c : Claim :=
    { pairId := s1.moor.pairId, epoch := BitVec.ofNat 32 s1.moor.epoch, head := BitVec.ofNat 8 (s1.moor.head % 2),
      kind := BitVec.ofNat 8 kind, stick := BitVec.ofNat 64 s1.time.now, cseq := BitVec.ofNat 32 (s1.moor.cseq + 1), crc := 0 }
  let c1 := { c with crc := crc32c (claimBody c) }
  (s1.updMoor (fun m => { m with cseq := (m.cseq + 1) % 2 ^ 32, claim := some c1 })).emit (.claim c1)

/-- VERDICT (R260, R261, R266): one that matches no open claim is no answer. -/
def State.takeVerdict (v : Claim) (s : State) : State :=
  match s.moor.claim with
  | none => s
  | some c =>
    if v.pairId ≠ c.pairId ∨ v.cseq ≠ c.cseq ∨ v.crc ≠ crc32c (claimBody v) then s
    else if v.kind = 0x81 then
      let s1 := ((s.updMoor (fun m => { m with claim := none, wheld := true })).renewOwn (c.stick.toNat + s.lease))
      let s2 := s1.record 0x7020 [c.cseq.toNat, s1.moor.eOwn]
      if c.kind = 2 && s2.md.mode == .join && !s2.path.empty then s2.enterSoleAtJoin else s2
    else if v.kind = 0x82 then s.claimFailed c
    else s

/-- VERDICT. -/
def execVerdict (t : Nat) (c : Claim) (s : State) : Host.Outcome State Fault Refusal :=
  .next ((s.advanceTo t).takeVerdict c)

/-! ### Beacons -/

/-- Some lane of the Decux link is up. -/
def State.decuxUp (s : State) : Bool := s.decuxLanesOk.any (fun l => NMap.getD s.faults.lanes l 0 == 2)

/-- What a head without a partner does each period: its lease under R260, or Sole at Join under R266. -/
def State.renewAlone (s : State) : State :=
  if s.md.mode.moored && s.bothLost && !s.ownLease then
    if s.witness then s.sendClaim 1
    else if s.preferred then s.renewOwn (s.time.now + s.lease)
    else s
  else if s.md.mode == .join && !s.md.deferred && s.partnerAbsent && !s.path.empty then
    if s.witness then s.sendClaim 2
    else if s.soleJoin && s.preferred then s.enterSoleAtJoin
    else s
  else s

/-- Send the beacon of a period on both paths (R248); GRANT is clear while both paths are lost (R251). -/
def State.sendBeacon (s : State) : State :=
  let may := (s.md.mode.moored || s.exchange) && !s.bothLost
  let s1 := s.updMoor (fun m => { m with grantNext := m.grantNext && may })
  let wake := s1.moor.wakeLeft != 0
  let b := s1.makeBeacon false
  let w := s1.makeBeacon wake
  let tx := s1.moor.releaseTx - 1
  let s2 := s1.updMoor (fun m =>
    { m with
      bseq := (m.bseq + 1) % 2 ^ 32, beaconTick := some s1.time.now
      sticks := ((((m.bseq + 1) % 2 ^ 32, s1.time.now)) :: m.sticks).take 16
      granted := m.granted || m.grantNext, grantNext := false, wakeLeft := m.wakeLeft - 1
      releaseTx := tx, release := if tx = 0 then none else m.release })
  let s3 := if s2.decuxUp then s2.emit (.beacon true b) else s2
  s3.emit (.beacon false w)

/-- The session to the partner is opened in Join (Table 11.4 step 1), by head 0 (DESIGN CHOICE, log 25). -/
def State.callPartner (s : State) : State :=
  if s.md.mode == .join && s.moor.head == 0 && s.decuxUp && !s.idm.sessions.any (fun x => x.2.purpose == 1) then
    (s.connectTo 1 0xFF 0 0).2
  else s

/-- BEACON_SEND (R248): once a period. -/
def execBeaconSend (t : Nat) (s : State) : Host.Outcome State Fault Refusal :=
  let s1 := s.advanceTo t
  .next <|
    if !s1.md.mode.beacons || s1.moor.beaconTick.any (fun b => decide (s1.time.now < b + s1.period)) then s1
    else ((s1.callPartner.sendBeacon.renewAlone).exchanged).resyncPass.resyncStage

/-- MAGIC, VER, CRC and PAIR_ID of a beacon match (R249). -/
def State.frameOk (s : State) (b : Beacon) : Bool :=
  b.magic == 0xB3AC && b.ver == 1 && b.crc == crc32c (beaconBody b) && b.pairId == s.moor.pairId

/-- The epochs go together (R247); `m` is the sender's mode code. -/
def State.epochOk (s : State) (b : Beacon) (m : Nat) : Bool :=
  let mine := s.md.mode
  b.epoch.toNat == s.moor.epoch || (mine == .join && (m == 3 || m == 5 || m == 7)) || ((mine == .sole || mine == .handback) && m == 3)

/-- STICK lies within a million ticks of the tide counter (R249). -/
def State.stickOk (s : State) (b : Beacon) : Bool :=
  decide (b.stick.toNat ≤ s.time.now + 1000000 ∧ s.time.now ≤ b.stick.toNat + 1000000)

/-- A valid beacon on a path (R250): its ACKSEQ has advanced, if it is later than the one before on that path. -/
def BPath.hear (ack now : Nat) (p : BPath) : BPath :=
  let adv := p.lastAck.any (fun a => psnLater ack a)
  { p with lastAck := some ack, advanced := p.advanced || adv, lastAdv := if adv then now else p.lastAdv }

def MoorState.onPath (decux : Bool) (f : BPath → BPath) (m : MoorState) : MoorState :=
  if decux then { m with dx := f m.dx } else { m with bp := f m.bp }

/-- The lease goes both ways with an accepted beacon (R252). A partner in Join holds none, outside Handback and the exchange
(DEDUCED from Table 2.2, log 25). -/
def State.beaconLease (b : Beacon) (m : Nat) (s : State) : State :=
  let ex := s.exchange
  let grants := (s.md.mode.moored && !s.ownLease) || ex
  let holder := m == 4 || m == 7 || m == 8 || (m == 3 && (s.md.mode == .handback || ex))
  let s1 := if grants && holder && !s.bothLost then
      (s.renewPartner (b.stick.toNat + s.lease)).updMoor (fun m => { m with grantNext := true })
    else s
  if grants && b.flags.toNat % 2 == 1 then
    match s1.moor.sticks.find? (fun x => x.1 == b.ackseq.toNat) with
    | some x => (s1.renewOwn (x.2 + s1.lease)).updMoor (fun m => { m with gotGrant := true })
    | none => s1
  else s1

/-- A release (R255): event 0x7033 once for its RTICK. -/
def State.beaconRelease (b : Beacon) (s : State) : State :=
  if b.flags.toNat / 2 % 2 = 1 ∧ s.moor.pRelease ≠ some b.rtick.toNat then
    (s.updMoor (fun m => { m with pRelease := some b.rtick.toNat })).record 0x7033 [b.rtick.toNat, b.flags.toNat]
  else s

/-- The epoch a head in Join adopts (R247). -/
def State.adoptEpoch (b : Beacon) (m : Nat) (s : State) : State :=
  if s.md.mode == .join then
    let e := b.epoch.toNat
    let s1 := s.updMoor (fun k => { k with
      joinEpochs := match k.joinEpochs with | some x => some x | none => some (k.epoch, e)
      epoch := if m == 3 then max k.epoch e else if m == 5 || m == 7 then e else k.epoch })
    if s.moor.joinEpochs.isNone && (m == 5 || m == 7) then s1.reportUnits else s1
  else s

/-- What an accepted beacon sets going: Handback at a survivor (Table 2.3), a resynchronisation between heads in Join, and Paired. -/
def State.beaconModes (b : Beacon) (m : Nat) (s : State) : State :=
  if s.md.mode == .sole && m == 3 && s.moor.sync && b.epoch.toNat == s.moor.epoch && !s.path.empty then
    s.enterHandback b.stick.toNat s.pEmpty
  else if s.md.mode == .join && m == 3 && s.moor.sync && !s.md.deferred && s.moor.resync.isNone && s.joinSource then
    s.startResync s.pEmpty
  else s.exchanged

/-- An accepted beacon (R249, R252, R255). -/
def State.acceptBeacon (b : Beacon) (m : Nat) (s : State) : State :=
  let s1 := (s.adoptEpoch b m).updMoor (fun k =>
    { k with rxSeq := some b.bseq.toNat, rxTick := s.time.now, pmode := m, pFlags := b.flags.toNat })
  ((s1.beaconRelease b).beaconLease b m).beaconModes b m

/-- A beacon that is not accepted: counted (R249), and in Join a foreign PAIR_ID is refused once with event 0x7001 (R266). The beacon does
not carry the serial the event names (log 11). -/
def State.rejectBeacon (decux : Bool) (b : Beacon) (s : State) : State :=
  let s1 := s.count (if decux then 5 else 6)
  if s1.md.mode == .join && b.magic == 0xB3AC && b.crc == crc32c (beaconBody b) && b.pairId != s1.moor.pairId && !s1.moor.refused then
    (s1.updMoor (fun m => { m with refused := true })).record 0x7001 [Config.itemCode 0x7001 b.pairId.toNat]
  else s1

/-- BEACON_ARRIVAL (R247, R249, R269). In Slack only the beacon pair is heard, for WAKE. -/
def execBeaconArrival (t : Nat) (decux : Bool) (b : Beacon) (s : State) : Host.Outcome State Fault Refusal :=
  let s1 := s.advanceTo t
  let m := b.hm.toNat / 16
  .next <|
    if s1.md.mode == .slack then
      if !decux && s1.frameOk b && b.flags.toNat / 16 % 2 == 1 && s1.md.wakeAt.isNone then
        { s1 with md := { s1.md with wakeAt := some s1.time.now } }
      else s1
    else if !s1.md.mode.beacons then s1
    else
      let again := s1.moor.rxSeq == some b.bseq.toNat
      let later := match s1.moor.rxSeq with | some r => psnLater b.bseq.toNat r | none => true
      if !(s1.frameOk b && s1.epochOk b m && s1.stickOk b && (again || later)) then s1.rejectBeacon decux b
      else
        let s2 := s1.updMoor (MoorState.onPath decux (BPath.hear b.ackseq.toNat s1.time.now))
        if again then s2 else s2.acceptBeacon b m

/-! ### Paths -/

/-- The number of a path in event data: bits 0 and 1 of log C1h (Table 11.8). -/
def pathNo (decux : Bool) : Nat := if decux then 0 else 1

def MoorState.path (decux : Bool) (m : MoorState) : BPath := if decux then m.dx else m.bp

/-- An event counter of 48 bits counts one more (R13). -/
def eventCount (n : Nat) : Nat := satTo 48 (n + 1)

/-- A path is lost (R250); with the other lost too, both are (R251), and a configured witness gets the first claim at once (Table 11.3). -/
def State.losePath (decux : Bool) (s : State) : State :=
  let s1 := s.updMoor (MoorState.onPath decux (fun p =>
    { p with alive := false, wasLost := true, goodRun := 0, advanced := false, losses := eventCount p.losses, checkTick := s.time.now }))
  let s2 := (s1.record 0x7010 [pathNo decux]).raise Reg.MOOR_STATUS 1
  if s2.bothLost then
    let s3 := ((s2.record 0x7012 [s2.moor.eOwn, s2.moor.eP]).raise Reg.MOOR_STATUS 2).updMoor (fun m =>
      { m with bothLosses := eventCount m.bothLosses, grantNext := false })
    if s3.md.mode.moored && s3.witness && !s3.ownLease then s3.sendClaim 1 else s3
  else s2

/-- A path is alive (R250): event 0x7011 where it had been lost. -/
def State.restorePath (decux : Bool) (was : Bool) (s : State) : State :=
  let s1 := s.updMoor (fun m => { (m.onPath decux (fun p =>
    { p with alive := true, wasLost := false, goodRun := 0 })) with wheld := false })
  if was then s1.record 0x7011 [pathNo decux] else s1

/-- One period of a path that is not alive: a period that passes counts, one that does not starts the count again (R250). -/
def State.tryPath (decux : Bool) (p : BPath) (s : State) : State :=
  let run := if p.advanced then p.goodRun + 1 else 0
  let s1 := s.updMoor (MoorState.onPath decux (fun p => { p with goodRun := run, advanced := false, checkTick := s.time.now }))
  if s1.missLimit ≤ run then s1.restorePath decux p.wasLost else s1

/-- PATH_CHECK (R250, R251). -/
def execPathCheck (t : Nat) (decux : Bool) (s : State) : Host.Outcome State Fault Refusal :=
  let s1 := s.advanceTo t
  let p := s1.moor.path decux
  .next <|
    if !s1.md.mode.beacons then s1
    else if p.alive then
      if p.lastAdv + s1.missLimit * s1.period ≤ s1.time.now then s1.losePath decux else s1
    else if s1.time.now < p.checkTick + s1.period then s1
    else s1.tryPath decux p

/-- BEACON_LOOP_CHECK (R270): a path idle in Join or Sole, every 60 s. -/
def execBeaconLoopCheck (t : Nat) (decux ok : Bool) (s : State) : Host.Outcome State Fault Refusal :=
  let s1 := s.advanceTo t
  let p := s1.moor.path decux
  .next <|
    if (s1.md.mode != .join && s1.md.mode != .sole) || p.alive || decide (s1.time.now < p.loopTick + 60 * secondTicks) then s1
    else
      let s2 := s1.updMoor (MoorState.onPath decux (fun p => { p with faulty := !ok, loopTick := s1.time.now }))
      if ok then s2 else s2.checkFailed.record 0x7062 [pathNo decux]

/-! ### Voters -/

/-- The predicates of R256, as a voter that shares no fault sees them. -/
def State.fenceDue (s : State) : Bool := !s.ownLease && decide (s.moor.eOwn ≤ s.time.now + guardTicks)
def State.lostDue (s : State) : Bool :=
  (decide (s.moor.eP + guardTicks ≤ s.time.now) || s.moor.pRelease.any (fun r => decide (r + guardTicks ≤ s.time.now)))
    && (s.ownLease || decide (s.time.now < s.moor.eOwn))

/-- The votes of voter `i`; the masks turn the votes of a voter that disagrees. -/
def Voter.cast (fence lost : Bool) (flipFence flipLost i : Nat) (v : Voter) : Voter :=
  { v with fence := v.ok && ((fence || v.tideFail) != (flipFence / 2 ^ i % 2 == 1)),
           lostV := v.ok && (lost != (flipLost / 2 ^ i % 2 == 1)) }

/-- Votes the healthy voters agree on: two of three, or both of two (R256, R258). -/
def carried (vs : List Voter) (f : Voter → Bool) : Bool := decide (2 ≤ (vs.filter (fun v => v.ok && f v)).length)

/-- The voter whose vote differs from the other two, which agree: its number, and the predicate. -/
def oddVoter (vs : List Voter) : Option (Nat × Nat) :=
  match vs with
  | [a, b, c] =>
    let odd := fun (f : Voter → Bool) =>
      if f a == f b then (if f b == f c then none else some 2)
      else if f a == f c then some 1 else some 0
    match odd (·.fence), odd (·.lostV) with
    | some i, _ => some (i, 0)
    | none, some i => some (i, 1)
    | none, none => none
  | _ => none

def State.updVoter (i : Nat) (f : Voter → Voter) (s : State) : State :=
  s.updMoor (fun m => { m with voters := m.voters.zipIdx.map (fun (x : Voter × Nat) => if x.2 = i then f x.1 else x.1) })

/-- Start or end the count of a voter's disagreement. -/
def Voter.standing (odd : Bool) (now : Nat) (v : Voter) : Voter :=
  if odd then { v with disagree := some (v.disagree.getD now) } else { v with disagree := none, counted := false }

/-- A disagreement of one voter of three for more than 2,000 ticks is its fault (R258, R47). -/
def State.judgeThree (s : State) : State :=
  let odd := oddVoter s.moor.voters
  let s1 := s.updMoor (fun m => { m with voters := m.voters.zipIdx.map (fun (x : Voter × Nat) =>
    x.1.standing (odd.any (fun o => o.1 == x.2)) s.time.now) })
  match odd with
  | none => s1
  | some (i, pred) =>
    match s1.moor.voters[i]? with
    | none => s1
    | some v =>
      if v.counted || decide (s1.time.now ≤ v.disagree.getD s1.time.now + 2000) then s1
      else
        let s2 := (s1.updVoter i (fun v => { v with counted := true })).count (14 + i)
        s2.checkFailed.fault (.voter i) 0x7050 i [i, pred]

/-- Two voters that disagree for more than 1,000,000 ticks end in Preservation (R258). -/
def State.judgeTwo (s : State) : State :=
  match s.moor.voters.filter (·.ok) with
  | [a, b] =>
    if a.fence == b.fence && a.lostV == b.lostV then s.updMoor (fun m => { m with votersDisagree := none })
    else
      let from_ := s.moor.votersDisagree.getD s.time.now
      let s1 := s.updMoor (fun m => { m with votersDisagree := some from_ })
      if from_ + 1000000 < s1.time.now then s1.enterPreservation 0x0D else s1
  | _ => s

/-- What the voters decide (R256): self-fence ranks above partner lost (Table 2.4). -/
def State.decide_ (s : State) : State :=
  if s.md.mode.moored && carried s.moor.voters (·.fence) then s.selfFence (if s.fenceDue then 1 else 2)
  else if (s.md.mode == .paired || (s.md.mode == .relay && !s.ownLease)) && carried s.moor.voters (·.lostV) then s.enterTakeover
  else if s.md.mode == .handback && carried s.moor.voters (·.lostV) then s.handbackLost
  else s

/-- VOTER_EVALUATION (R256, R258): once every 1,000 ticks. -/
def execVoterEvaluation (t flipFence flipLost : Nat) (s : State) : Host.Outcome State Fault Refusal :=
  let s1 := s.advanceTo t
  .next <|
    if !s1.md.mode.beacons || s1.moor.evalTick.any (fun e => s1.time.now / 1000 == e / 1000) then s1
    else
      let vs := s1.moor.voters.zipIdx.map (fun (x : Voter × Nat) => x.1.cast s1.fenceDue s1.lostDue flipFence flipLost x.2)
      let s2 := s1.updMoor (fun m => { m with evalTick := some s1.time.now, voters := vs })
      let s3 := if vs.all (·.ok) then s2.judgeThree else s2.judgeTwo
      s3.decide_

/-- VOTER_CALIBRATION (R257): over the time since the last one, the tide counter against the oscillator's measure. -/
def execVoterCalibration (t voter measure : Nat) (s : State) : Host.Outcome State Fault Refusal :=
  let s1 := s.advanceTo t
  .next <| match s1.moor.voters[voter]? with
    | none => s1
    | some v =>
      if !v.ok || !s1.md.mode.beacons then s1
      else
        match v.calTick with
        | none => s1.updVoter voter (fun v => { v with calTick := some s1.time.now })
        | some c =>
          let d := s1.time.now - c
          let bad := decide (2 * d < measure ∨ 2 * measure < d)
          let s2 := s1.updVoter voter (fun v => { v with calTick := some s1.time.now, tideFail := bad })
          if bad then s2.checkFailed.record 0x7051 [voter] else s2

/-! ### Takeover -/

/-- TAKEOVER_COMPLETE (R263): checkpoint increment, Sole, event 0x7032. -/
def execTakeoverComplete (t : Nat) (s : State) : Host.Outcome State Fault Refusal :=
  let s1 := s.advanceTo t
  .next <|
    if s1.md.mode != .takeover then s1
    else (((s1.checkpoint false).enterMode .sole 0x12).record 0x7032 [s1.time.now - s1.moor.lossEnd]).podTakeover

/-- ADDRESS_ANNOUNCE_REPEAT (R263): 1 s and 2 s after the first. -/
def execAddressAnnounceRepeat (t : Nat) (s : State) : Host.Outcome State Fault Refusal :=
  let s1 := s.advanceTo t
  .next <| match s1.moor.announce with
    | none => s1
    | some (from_, n, partner) =>
      if s1.time.now < from_ + (n + 1) * secondTicks then s1
      else
        (s1.updMoor (fun m => { m with announce := if n = 1 then none else some (from_, n + 1, partner) })).emit (.announce partner)

/-! ### MOOR_CMD -/

/-- A write of MOOR_CMD (R255, R269, R271). -/
def State.writeMoorCmd (o : Origin) (v : Word) (s : State) : State :=
  s.gateWrite o Reg.MOOR_CMD v (fun _ s =>
    let s1 := if bit v 0 then
        if s.md.mode == .paired then
          (s.selfFence 3).updMoor (fun m => { m with release := some s.time.now, releaseTx := 3 })
        else s.ignored
      else s
    if bit v 1 then
      if s.md.mode == .join || s.md.mode == .sole then s1.updMoor (fun m => { m with wakeLeft := 50 }) else s1.ignored
    else s1)

/-- YIELD (R255). -/
def execYield (t : Nat) (o : Origin) (v : Word) (s : State) : Host.Outcome State Fault Refusal :=
  .next ((s.advanceTo t).writeMoorCmd o (v ||| 1))

/-- WAKE (R269). -/
def execWake (t : Nat) (o : Origin) (v : Word) (s : State) : Host.Outcome State Fault Refusal :=
  .next ((s.advanceTo t).writeMoorCmd o (v ||| 2))

/-! ### Tide synchronisation -/

/-- TIDE_SYNC_EXCHANGE (R266, Table 11.4 step 2): in Join a head that is behind the source takes its count; one that is ahead stands still
until the source reaches it, and its counter shows no step. The skew left is held and reported. -/
def execTideSyncExchange (t partnerTick : Nat) (skew : Int) (s : State) : Host.Outcome State Fault Refusal :=
  let s1 := s.advanceTo t
  .next <|
    if !s1.md.mode.beacons || s1.md.mode == .preservation || !s1.decuxUp || s1.md.deferred then s1
    else
      let s2 := if s1.md.mode == .join && decide (s1.time.now < partnerTick) then
          { s1 with time := { s1.time with now := partnerTick } }
        else s1
      s2.updMoor (fun m => { m with skew := skew, sync := decide (skew.natAbs ≤ 20) })

/-! ### The switch -/

/-- What the survivor gives back (R60, R267): volumes, reservations, links, and the sessions on the partner's addresses. The returning head
learns every reservation with the values it has (R418). -/
def State.giveBack (s : State) : State :=
  let back := fun (p : Nat × Resv) => p.2.home && decide (256 ≤ p.1)
  let told := s.adm.resv.foldl (fun (s : State) (p : Nat × Resv) =>
    s.emit (.commit 0 (.resvCreate (partnerIndex p.1) p.2.rate p.2.burst p.2.d p.2.pull))) s
  let s1 := (s.adm.resv.filter back).foldl (fun (s : State) (p : Nat × Resv) => s.destroyRegion p.2.pushKey) told
  let gone := (s1.adm.resv.filter back).map (·.1)
  let s2 : State := { s1 with
    adm := { s1.adm with
      resv := s1.adm.resv.map (fun p => (p.1, if back p then { p.2 with home := false, dqn := 0, cntl := 0, pushKey := 0, pushSz := 0 } else p.2))
      held := s1.adm.held.map (fun h => if h.resv.any gone.contains then { h with resv := none, forCredit := false } else h) }
    nvq := { s1.nvq with ns := s1.nvq.ns.map (fun p => (p.1, { p.2 with taken := false })) }
    repl := { s1.repl with links := s1.repl.links.map (fun p => (p.1, { p.2 with home := decide (p.1 < 64) })) }
    md := { s1.md with partnerAddrs := false } }
  (s2.idm.sessions.filter (fun x => x.2.partnerAddr && x.2.state == 2)).foldl (fun (s : State) (x : Nat × Session) =>
    (s.sendSeq x.1 (blankPacket 10)).updSession x.1 (fun y => { y with state := 3 })) s2

/-- At the returning head no reservation is bound: the sessions of their queues were closed by the switch (R418). -/
def State.unbindResv (s : State) : State :=
  { s with adm := { s.adm with resv := s.adm.resv.map (fun p =>
      (p.1, { p.2 with dqn := 0, cntl := 0, pushKey := 0, pushSz := 0 })) } }

/-- Snapshots that the resynchronisation brought are readable from the switch on: no write below their ticks is in flight (R131). -/
def State.openSnaps (s : State) : State :=
  (NMap.keys s.nvq.ns).foldl (fun (s : State) v => s.snapsReady v) s

/-- Nothing is left to send, and no write is in flight (Table 11.5). -/
def State.switchReady (s : State) : Bool :=
  s.moor.resync.any (fun r => r.stage == 2 && r.out.isEmpty) && s.moor.dirty.isEmpty && s.adm.writes.isEmpty

/-- Event 0x7041: units sent, ticks in the drain. -/
def State.resyncDone (s : State) : State :=
  match s.moor.resync with
  | some r => s.record 0x7041 [r.sent, s.time.now - r.drainFrom]
  | none => s

/-- RESYNC_SWITCH (R267, Table 11.5): at the survivor in Handback, at the returning head in Join, which announces its addresses, and at a
source in Join, which goes on to the lease exchange. -/
def execResyncSwitch (t : Nat) (s : State) : Host.Outcome State Fault Refusal :=
  let s1 := s.advanceTo t
  .next <|
    if s1.md.mode == .handback then
      if s1.switchReady && s1.moor.gotGrant then (s1.tellChanges.resyncDone.giveBack).enterPaired 0x08 else s1
    else if s1.md.mode == .join && s1.moor.resync.isSome then
      if s1.switchReady then s1.resyncDone.updMoor (fun m => { m with resync := none, changes := [] }) else s1
    else if s1.exchange && s1.moor.pmode == 7 && s1.moor.granted && s1.moor.gotGrant && s1.moor.rejoin.isEmpty then
      let s2 := { s1.unbindResv.openSnaps with path := { s1.unbindResv.openSnaps.path with empty := false } }
      (s2.enterPaired 0x10).startAnnounce false
    else s1

/-! ### Checks of the takeover path -/

/-- MIRROR_READBACK (R270): one sealed mirror landing stripe a second; what fails is repaired as a patrol read is. -/
def execMirrorReadback (t band stripe : Nat) (ok : Bool) (s : State) : Host.Outcome State Fault Refusal :=
  let s1 := s.advanceTo t
  let due := s1.moor.readbackTick.all (fun r => decide (r + secondTicks ≤ s1.time.now))
  let landing := (NMap.find s1.path.bands band).any (fun b => b.st == .mirror && !b.dense)
  .next <|
    if !s1.md.mode.backgroundRuns || !due || !landing || !(s1.stripe? band stripe).any (fun x => x.sealedAt.isSome) then s1
    else
      let s2 := s1.updMoor (fun m => { m with readbacks := m.readbacks + 1, readbackTick := some s1.time.now })
      if ok then s2
      else
        let s3 := ((s2.updMoor (fun m => { m with readbackFails := m.readbackFails + 1 })).checkFailed).record 0x7060 [band, stripe]
        let recs := s3.path.stored.filter (fun x => x.band == band && x.stripe == stripe && x.record.kind != 5)
        recs.foldl (fun (s : State) (x : Stored) => s.patrolRepair
          { vol := recordVol x.record, grain := x.record.check.reftag.toNat % 2 ^ 34, point := 2, words := [] }) s3

end Sys2Proof.Machine
end

