-- ==== Sys2Proof/Machine/Boot.lean ====
section
/-!
DEFINITION. Reset inputs and their release (R353 to R355), the button (R356, R357), memory initialisation (R289), and the boot stages
(R358 to R363) with replay (R94, R168), the return of retired units (R416) and the resumption of a reshape (R187).
-/

namespace Sys2Proof.Machine

/-! ### Reset inputs -/

/-- RESET_ASSERT (R353, R355): an always-on edge samples an input low. A device that is in Reset already only notes the pins. -/
def execResetAssert (t : Nat) (rstLow pwrgdLow : Bool) (s : State) : Host.Outcome State Fault Refusal :=
  let s1 := s.advanceTo t
  .next <|
    if !s1.time.running || !(rstLow || pwrgdLow) then s1
    else
      let fell := s1.md.rstN && s1.md.pwrgd
      let s2 := { s1 with md := { s1.md with
        rstN := !rstLow, pwrgd := !pwrgdLow, rstFall := if fell then s1.time.now else s1.md.rstFall } }
      if s2.md.mode = .reset then s2 else s2.enterReset 0x01 (if rstLow then 1 else 2)

/-- Largest sequence number in the ring (R379). -/
def State.ringMax (s : State) : Nat :=
  (((List.range ringCount).map s.ringSeqs).flatten).foldl max s.rcdr.flushedTo

/-- The recorder continues 129 above the largest SEQ found (R379). -/
def State.startRecorder (s : State) : State :=
  let found := s.ringMax
  { s with rcdr := { s.rcdr with flushedTo := found, newest := if found = 0 then 0 else found + 128 } }

/-- The events kept in Reset are recorded (R36; log 8). -/
def State.recordAllKept (s : State) : State :=
  s.md.bootEvents.foldl (fun (s : State) (e : Nat × Nat × List Nat) => s.recordKept e) { s with md := { s.md with bootEvents := [] } }

/-- Leave Reset (Table 2.3): to Locked with the maker test fuse set, else to Boot, whose first record is 0xB000 (R379); the events kept
in Reset are recorded then (log 8). -/
def State.leaveReset (s : State) : State :=
  let found := s.ringMax
  let s1 := s.startRecorder
  if s1.md.makerFuse then (s1.changeMode .locked 0x13).recordAllKept
  else
    let s2 := (s1.changeMode .boot (if s1.md.cause = 0 then 0x00 else 0x01)).record 0xB000 [found, if found = 0 then 0 else 128]
    ({ s2 with md := { s2.md with stageFrom := s2.time.now } }).recordAllKept

/-- RESET_RELEASE (R353, Table 2.3): an edge samples the inputs; all three high end Reset, unless the device is held in it (R406, R411). -/
def execResetRelease (t : Nat) (rstHigh pwrgdHigh pwrFailHigh : Bool) (s : State) : Host.Outcome State Fault Refusal :=
  let s1 := s.advanceTo t
  .next <|
    if !s1.time.running || s1.md.mode != .reset then s1
    else
      let rose := rstHigh && pwrgdHigh && !(s1.md.rstN && s1.md.pwrgd)
      let s2 := { s1 with md := { s1.md with
        rstN := rstHigh, pwrgd := pwrgdHigh, pwrFailN := pwrFailHigh, rstRise := if rose then s1.time.now else s1.md.rstRise } }
      if rstHigh && pwrgdHigh && pwrFailHigh && !s2.md.heldInReset && s2.md.thermtripN then s2.leaveReset else s2

/-! ### The button -/

/-- BUTTON_PRESS (R356). -/
def execButtonPress (t : Nat) (s : State) : Host.Outcome State Fault Refusal :=
  let s1 := s.advanceTo t
  .next <|
    if !s1.time.running || s1.md.press.isSome then s1
    else { s1 with md := { s1.md with press := some (s1.time.now, s1.md.mode == .reset) } }

/-- A press that is ignored (Table 17.1): its class and its length in milliseconds. -/
def State.ignorePress (cls ms : Nat) (s : State) : State := (s.raise Reg.GCTL_BUTTON 4).record 0x1200 [cls, ms]

/-- What a released press does, by its length in milliseconds' bounds (R356, Table 17.1). -/
def State.classPress (len : Nat) (s : State) : State :=
  let ms := len / msTicks
  if s.md.mode = .reset ∨ len < 20 * msTicks then s
  else if len < 1000 * msTicks then
    if s.md.mode = .boot ∨ s.md.mode = .holdup ∨ s.md.mode = .locked then s.ignorePress 2 ms else s.enterHoldup 0x02
  else if len < 4000 * msTicks then s.ignorePress 2 ms
  else if len < 10000 * msTicks then s.enterReset 0x03 3
  else if len < 30000 * msTicks then s.ignorePress 4 ms
  else s

/-- BUTTON_RELEASE (R356, R357): a press marked failed closed, or begun in Reset, is not classed. -/
def execButtonRelease (t : Nat) (s : State) : Host.Outcome State Fault Refusal :=
  let s1 := s.advanceTo t
  .next <| match s1.md.press with
    | none => s1
    | some (from_, inReset) =>
      let len := s1.time.now - from_
      let s2 := { s1 with md := { s1.md with press := none, failClosed := false, lastPress := satTo 16 (len / (10 * msTicks)) } }
      if s1.md.failClosed then s2.record 0x1202 [len / msTicks]
      else if inReset then s2
      else s2.classPress len

/-- BUTTON_FAILED_CLOSED (R356, Table 17.1): the press reaches 30 s. -/
def execButtonFailedClosed (t : Nat) (s : State) : Host.Outcome State Fault Refusal :=
  let s1 := s.advanceTo t
  .next <| match s1.md.press with
    | some (from_, false) =>
      if s1.md.failClosed || decide (s1.time.now < from_ + 30000 * msTicks) then s1
      else ({ s1 with md := { s1.md with failClosed := true } }).record 0x1201 [from_]
    | _ => s1

/-! ### Memory initialisation (Table 13.3) -/

/-- MEMORY_INIT_DONE (R289): stage 0 the SRAM fill, 1 the HBM fill, 2 the free lists. -/
def execMemoryInitDone (t stage : Nat) (s : State) : Host.Outcome State Fault Refusal :=
  let s1 := s.advanceTo t
  let took := s1.time.now - s1.md.tick
  let ticks := match s1.mem.fillTicks with | [a, b] => [a, b] | _ => [0, 0]
  .next <|
    if s1.md.mode ≠ .boot then s1
    else match stage with
      | 0 => if s1.mem.sramDone then s1 else { s1 with mem := { s1.mem with sramDone := true, fillTicks := ticks.set 0 took } }
      | 1 => if s1.mem.hbmDone then s1 else { s1 with mem := { s1.mem with hbmDone := true, fillTicks := ticks.set 1 took } }
      | 2 =>
        if !s1.mem.sramDone || !s1.mem.hbmDone || s1.mem.ready then s1
        else (({ s1 with mem := { s1.mem with ready := true } }).buildPools).record 0x8000 ticks
      | _ => s1

/-! ### Retired units (R416) -/

/-- The unit a Boot test is of. -/
def bootUnit : BootUnit → FUnit
  | .die n => .die n
  | .channel n => .channel n
  | .clane n => .clane n
  | .dlane n => .dlane n
  | .cluster n => .cluster n
  | .pair n => .pair n
  | .voter n => .voter n
  | .island k n => .island k n

/-- The stage that brings up a unit's subsystem (R416, Table 17.2): module ports in stage 5, the cipher engines in stage 6; the table names
no stage for the others, which may be tested once the sections are loaded (DEDUCED, log 29). -/
def testedIn (stage : Nat) : FUnit → Bool
  | .die _ => stage == 5
  | .channel _ => stage == 5
  | .island .channel _ => stage == 5
  | .pair _ => stage == 6
  | .island .ciph _ => stage == 6
  | _ => decide (4 ≤ stage)

/-- Note the retired units that passed their tests in a stage. -/
def State.notePassed (stage : Nat) (us : List BootUnit) (s : State) : State :=
  { s with md := { s.md with passed := s.md.passed ++ (us.map bootUnit).filter (fun u =>
      testedIn stage u && s.faults.retired.contains u && !s.md.passed.contains u) } }

/-- Dies come back empty on a port in a role; the port's free landing blocks rise by theirs (R152). -/
def State.addDies (ds : List Nat) (s : State) : State :=
  ds.foldl (fun (s : State) (d : Nat) =>
    let p := d / 128
    let fits := s.image.pop / 2 ^ (d % 16) % 2 == 1 && !s.faults.retired.contains (.die d) && !s.flash.dies.contains d
      && s.channelReady (d / 16) && ((s.port p).state == 4 || (s.port p).state == 3)
    if fits then
      { s with flash := { s.flash with
        dies := s.flash.dies ++ [d], free := NMap.put s.flash.free p (NMap.getD s.flash.free p 0 + s.dieLanding d) } }
    else s) s

/-- A unit returns to service. -/
def State.returnUnit (u : FUnit) (s : State) : State :=
  let s1 := { s with faults := { s.faults with retired := s.faults.retired.filter (· != u) } }
  match u with
  | .die d => s1.addDies [d]
  | .channel c => s1.addDies ((List.range 16).map (16 * c + ·))
  | _ => s1

/-- Units that passed return to service at the end of Boot (R416); the voters run. -/
def State.returnPassed (s : State) : State :=
  let s1 := s.md.passed.foldl (fun (s : State) (u : FUnit) => s.returnUnit u) s
  let s2 := { s1 with md := { s1.md with passed := [] } }
  let ok := fun (i : Nat) => !s2.faults.retired.contains (.voter i)
  s2.updMoor (fun m => { m with
    voters := m.voters.zipIdx.map (fun (x : Voter × Nat) => { x.1 with ok := ok x.2 })
    twoOfTwo := !((List.range 3).all ok) })

/-! ### Stages 1, 5 and 6 -/

/-- Stage 1: the pairing identity is read (R246), and erase-pending sectors are listed (R348). -/
def State.bootLedger (s : State) : State :=
  let s1 := match s.newestParam 2 0 with
    | some (_, body) =>
      let (pair, head, serial) := Config.identity body
      s.updMoor (fun m => { m with pairId := BitVec.ofNat 64 pair, head := head % 2, serial := serial })
    | none => s
  (s1.ldg.sectors.filter (fun p => p.2.pending)).foldl (fun (s : State) (p : Nat × Sector) =>
    s.record 0xA107 [p.1 / 512, p.1 % 512]) s1

/-- A reshape resumes from the larger valid boundary record; stripes past it are copied again (R187). -/
def State.resumeReshape (s : State) : State :=
  match s.strp.reshape with
  | none => s
  | some r =>
    let b := max r.sysBound r.ldgBound
    ({ s with
      strp := { s.strp with reshape := some { r with bound := b } }
      path := { s.path with stripes := s.path.stripes.map (fun (x : Stripe) => if b < x.migrated then { x with migrated := 0 } else x) }
    }).record 0x4022 [b, Config.itemCode 0x4022 (if r.ldgBound ≤ r.sysBound then 0 else 1)]

/-- Stage 5: members whose port holds no module in service fail (R177), and a reshape resumes. -/
def State.bootModules (s : State) : State :=
  (s.strp.order.foldl (fun (s : State) (p : Nat) =>
    if s.strp.failed.contains p || (s.port p).state == 4 then s else s.memberFail p 1) s).resumeReshape

/-- Stage 6: the wrapped XTS keys return to their slots (R327), each with the references of the volumes that use it (R326). -/
def State.bootKeys (s : State) : State :=
  s.ciph.wrapped.foldl (fun (s : State) (p : Nat × Nat × List Byte × List Byte) =>
    let n := (s.nvq.ns.filter (fun (v : Nat × Ns) => v.2.keyslot == p.1)).length
    let x : Slot := { gcm := false, owner := p.2.1, refs := n, key1 := p.2.2.1, key2 := p.2.2.2, ctr := 0, limit := 0, due := false,
                      exhausted := false }
    { s with ciph := { s.ciph with slots := NMap.put s.ciph.slots p.1 x } }) s

/-! ### Stage 7: the map (R93, R94, R168) -/

/-- The position a checkpoint gives for a stream. -/
def Ckpt.posOf (c : Ckpt) : StreamId → Nat × Nat
  | .home => c.homePos
  | .mirror => c.mirrorPos

/-- A band lies in a landing stream. -/
def State.landingBand (s : State) (n : Nat) : Bool := match NMap.find s.path.bands n with | some b => !b.dense | none => false

/-- The records of a stream from a position on, in stream order. -/
def State.tailOf (s : State) (st : StreamId) (pos : Nat × Nat) : List Stored :=
  (s.path.stored.filter (fun x => x.st == st && s.landingBand x.band && x.record.kind != 5 && !posBefore (x.band, x.offset) pos)).mergeSort
    (fun a b => !posBefore (b.band, b.offset) (a.band, a.offset))

/-- A record's content holds (R94): its payload, decrypted and expanded, matches GUARD; a type 0x02 record resolves by its own check. -/
def State.contentOk (s : State) (r : Record) : Bool :=
  if r.kind = 1 then (s.plainOf r).any (fun p => crc64 p == r.check.guard) else true

/-- Apply one record of the walk; answers whether it was applied. -/
def State.replayOne (x : Stored) (s : State) : Bool × State :=
  if (s.recordSealed x.band x.offset (recordLen x.record)).isSome && s.contentOk x.record then
    let e := { mirrorEnt x with mirror := x.st == .mirror }
    let s1 := s.publishStored e x
    (true, s1)
  else (false, s)

/-- The WGEN last formed for a grain, from the checkpoint and from every record met, applied or not (R79): the highest, by signed
difference modulo 65,536 (DEDUCED). -/
def State.meetWgen (r : Record) (s : State) : State :=
  let key := recordKey r
  let w := r.check.wgen
  let later := match NMap.find s.path.wgens key with
    | some v => decide (((w - v).toNat) < 2 ^ 15)
    | none => true
  if later then { s with path := { s.path with wgens := NMap.put s.path.wgens key w } } else s

/-- Unsealed stripes of a stream past a position. -/
def State.openStripes (s : State) (st : StreamId) (pos : Nat × Nat) : List Stripe :=
  s.path.stripes.filter (fun x => x.st == st && x.sealedAt.isNone && s.landingBand x.band && decide (pos.1 ≤ x.band))

/-- Walk one landing stream (R94): records applied, stripes discarded. -/
def State.replayStream (st : StreamId) (pos : Nat × Nat) (s : State) : Nat × Nat × State :=
  let (n, s1) := (s.tailOf st pos).foldl (fun (a : Nat × State) (x : Stored) =>
    let (ok, s') := (a.2.meetWgen x.record).replayOne x
    (a.1 + b2n ok, s')) (0, s)
  let gone := s1.openStripes st pos
  let s2 := gone.foldl (fun (s : State) (x : Stripe) => s.record 0x3307 [x.band, x.idx]) s1
  let dead := fun (x : Stored) => x.st == st && s2.landingBand x.band
    && (s2.recordSealed x.band x.offset (recordLen x.record)).isNone && !posBefore (x.band, x.offset) pos
  let s3 := { s2 with path := { s2.path with
    stored := s2.path.stored.filter (fun x => !dead x)
    stripes := s2.path.stripes.map (fun (x : Stripe) =>
      if gone.any (fun g => g.band == x.band && g.idx == x.idx) then { x with closed := false, transferred := x.programmed } else x) } }
  (n, gone.length, s3)

/-- A landing stream resumes at the first stripe of a new band; the band it stood in takes no more records (R94). -/
def State.resumeStream (st : StreamId) (s : State) : State :=
  let old := (s.stream st).band
  match NMap.find s.path.bands old with
  | some b =>
    if b.st == st && !b.dense then
      ({ s with path := { s.path with bands := NMap.put s.path.bands old { b with sealedBand := true } } }).openBand st
    else s
  | none => s

/-- References of a shared grain: the entries of the map and of every frozen map that name it (R128). -/
def State.refsOf (s : State) (i : Nat) : Nat :=
  let hit := fun (p : Nat × MapEnt) => p.2.kind == 4 && p.2.sgt == i
  (s.path.map.filter hit).length
    + (s.nvq.ns.map (fun p => (p.2.frozen.map (fun f => (f.2.filter hit).length)).sum)).sum

/-- The shared-grain table counts the references of the map now loaded. -/
def State.recountRefs (s : State) : State :=
  { s with ddup := { s.ddup with sgt := s.ddup.sgt.map (fun (p : Nat × Sgt) =>
      (p.1, { p.2 with refs := s.refsOf p.1, pending := s.refsOf p.1 == 0 })) } }

/-- Map units that do not stand in RUN form are in the fine overlay (R160, R162). -/
def State.rebuildOverlay (s : State) : State :=
  let units := (s.path.map.map (fun p => p.1 / 4)).eraseDups
  let fine := units.filter (fun u => !runsFrom none ((List.range 4).map (fun i => NMap.find s.path.map (4 * u + i))))
  fine.foldl (fun (s : State) (u : Nat) => s.promote (u / 2 ^ 32) (u % 2 ^ 32))
    { s with path := { s.path with overlay := [], overlayIdx := [] } }

/-- The membership filter is built again (R122): from this head's index, as the FILTER_SWAP that follows may add (log 13). -/
def State.rebuildFilter (s : State) : State :=
  { s with ddup := { s.ddup with filter := ((s.ddup.index.map (fun e => filterBits e.fp)).flatten).eraseDups } }

/-- Replay from a checkpoint (R94): both landing streams, event 0x3501, and new bands. -/
def State.replay (c : Ckpt) (s : State) : State :=
  let (n1, d1, s1) := s.replayStream .home (c.posOf .home)
  let (n2, d2, s2) := s1.replayStream .mirror (c.posOf .mirror)
  let s3 := (s2.record 0x3501 [n1 + n2, d1 + d2]).recountRefs.rebuildOverlay.rebuildFilter
  let s4 := (s3.resumeStream .home).resumeStream .mirror
  (NMap.keys s4.nvq.ns).foldl (fun (s : State) (v : Nat) => s.snapsReady v) s4

/-- A head that has never sealed a band formats its flash (R168). -/
def State.formatFlash (s : State) : State :=
  let s1 := s.checkpoint true
  let ports := s1.strp.order.foldl (fun (m : NMap Nat) (p : Nat) => NMap.put m p (s1.portSpareBlocks p)) []
  { s1 with flash := { s1.flash with spareFirst := s1.spareBlocks, portSpareFirst := ports } }

/-- A formatted head with no valid checkpoint has lost its map (R168): every band but the system band is discarded. -/
def State.loseMap (s : State) : State :=
  let s1 := s.record 0x3502 [s.path.ckpts.length, s.path.ckptSeq]
  let free := s1.strp.order.foldl (fun (m : NMap Nat) (p : Nat) => NMap.put m p (s1.landingBlocks p)) s1.flash.free
  { s1 with
    path := { s1.path with
      bands := [], stripes := [], stored := [], ckpts := [], homeStream := {}, mirrorStream := {}, gcHome := {}, gcMirror := {},
      empty := true }
    ddup := { s1.ddup with sgt := [], index := [], ppq := [], cache := [], filter := [] }
    moor := { s1.moor with dirty := [], changes := [] }
    flash := { s1.flash with free := free } }

/-- The shared-grain table as a checkpoint holds it, and the later entries that the snapshots kept in flash still name (log 9); the index
entries of this pair that name others no longer hold. -/
def State.loadShared (c : Ckpt) (s : State) : State :=
  let named := fun (i : Nat) => s.nvq.ns.any (fun p => p.2.frozen.any (fun f => f.2.any (fun e => e.2.kind == 4 && e.2.sgt == i)))
  let sgt := (s.ddup.sgt.filter (fun p => named p.1)).foldl (fun (m : NMap Sgt) (p : Nat × Sgt) => NMap.put m p.1 p.2) c.sgt
  let holds := fun (e : FpEnt) => e.pair != s.ownPair || (match NMap.find sgt e.sgt with
    | some g => g.guard == e.guard && g.keyslot == e.keyslot
    | none => false)
  { s with ddup := { s.ddup with sgt := sgt, ppq := c.ppq, index := s.ddup.index.filter holds } }

/-- Stage 7 (R168): the newest `badCkpts` checkpoints fail their checks, and the newest valid one is loaded and replayed. -/
def State.loadMap (badCkpts : Nat) (s : State) : State :=
  match s.path.ckpts.drop badCkpts with
  | c :: older =>
    let s1 := { s with
      path := { s.path with
        ckpts := c :: older, map := c.map, wgens := c.wgens, ckptTick := s.time.now,
        incs := ((c :: older).takeWhile (fun (k : Ckpt) => !k.full)).length }
      moor := { s.moor with dirty := c.dirty, changes := c.changes, epoch := c.epoch }
      md := { s.md with
        unsafeShutdowns := if s.md.holdupDone then s.md.unsafeShutdowns else s.md.unsafeShutdowns + 1, holdupDone := false } }
    let s2 := if badCkpts = 0 then s1 else (s1.record 0x3500 [c.seq]).raise Reg.FCH_STATUS 0x10
    (s2.loadShared c).replay c
  | [] => if s.path.formatted then s.loseMap else s.formatFlash

/-! ### The stages -/

/-- A stage is done: its ticks are noted, and the next begins. -/
def State.stageOver (s : State) : State :=
  { s with md := { s.md with
      stageTicks := s.md.stageTicks ++ [s.time.now - s.md.stageFrom], stageFrom := s.time.now, bootStage := s.md.bootStage + 1 } }

/-- Stage 3: a slot is chosen; with none the device stays in Boot with STAGE 0xF (R361), and Bench follows a request already made
(R358). With start state Slack, Slack follows and stages 4 to 7 wait for Join (Table 17.2). -/
def State.bootImage (s : State) : State :=
  let (ok, s1) := s.chooseSlot
  if !ok then
    let s2 := ({ s1 with md := { s1.md with bootStage := 15, noImage := true } }).record 0xA202 s1.md.bootFails
    if s2.md.benchReq then s2.returnPassed.changeMode .bench 0x04 else s2
  else
    let im := s1.image
    let s2 : State := { s1.stageOver with image := { im with
      start := s1.slotNat s1.md.bootSlot 6 1, svn := s1.slotNat s1.md.bootSlot 8 4 } }
    if s2.image.start = 1 then ({ s2 with md := { s2.md with deferred := true, benchReq := false } }).goSlack 0x05 else s2

/-- The end of Boot (stage 8): GCTL_BTICK, event 0xA205, the units that passed, the pod's designated master (R282), and the mode of the
image's start state; a deferred Boot stays in Join. -/
def State.endBoot (s : State) : State :=
  let s1 := { s.returnPassed with md := { s.returnPassed.md with btick := s.time.now } }
  let s2 := s1.record 0xA205 s1.md.stageTicks
  let s3 := if s2.inPod then { s2 with repl := { s2.repl with master := some s2.image.podDesignated } } else s2
  if s3.md.deferred then { s3 with md := { s3.md with deferred := false } }
  else if s3.image.start = 2 then s3.changeMode .bench 0x05
  else s3.enterJoin 0x05

/-- The work of a stage that has ended, and what follows. -/
def State.finishStage (stage badCkpts : Nat) (passed : List BootUnit) (s : State) : State :=
  let s1 := s.notePassed stage passed
  match stage with
  | 0 => s1.stageOver
  | 1 => s1.bootLedger.stageOver
  | 2 => if s1.mem.ready then s1.stageOver else s
  | 3 => s1.bootImage
  | 4 =>
    let s2 := s1.loadImage.stageOver
    if s2.md.benchReq && s2.md.mode == .boot then s2.returnPassed.changeMode .bench 0x04 else s2
  | 5 => s1.bootModules.stageOver
  | 6 => s1.bootKeys.stageOver
  | 7 => (s1.loadMap badCkpts).stageOver.endBoot
  | _ => s

/-- BOOT_STAGE_DONE (R358): the stage in progress ends, in Boot, or in Join for the stages Slack deferred (R363). -/
def execBootStageDone (t stage badCkpts : Nat) (passed : List BootUnit) (s : State) : Host.Outcome State Fault Refusal :=
  let s1 := s.advanceTo t
  .next <|
    if stage = s1.md.bootStage ∧ !s1.md.noImage ∧ (s1.md.mode = .boot ∨ (s1.md.mode = .join ∧ s1.md.deferred)) then
      s1.finishStage stage badCkpts passed
    else s1

end Sys2Proof.Machine
end

