-- ==== Sys2Proof/Machine/Ledger.lean ====
section
/-!
DEFINITION. The commands of the Ledger: the ROM routines (R340), the command window (R341), and the ends of its operations (R343 to
R347, R350).
-/

namespace Sys2Proof.Machine

/-! ### ROM routines -/

/-- A core reads the source of a program; poison aborts the routine (R292). -/
def State.romSource (src len : Nat) (s : State) : Option (List Byte) × State :=
  match s.poisonedIn src len with
  | some line => (none, s.consumed line consumerCore)
  | none => (some (s.memBytes src len), s)

/-- No ROM routine runs in Reset: the cores stand still. -/
def State.romRuns (s : State) : Bool := s.md.mode != .reset

/-- LDG_PROGRAM (R340, R342); a source outside SRAM and HBM is an address out of range (log 22). -/
def execLdgProgram (t addr src len : Nat) (s : State) : Host.Outcome State Fault Refusal :=
  let s1 := s.advanceTo t
  let o := ldgOffset addr
  let c := s1.progCode 0 o len
  let code := if c = 0 ∧ !inMemory src len then 3 else c
  .next <|
    if !s1.romRuns then s1
    else
      match o with
      | none => s1.ldgRefuse 0 2 0 code
      | some o =>
        if code ≠ 0 then
          let s2 := s1.ldgRefuse 0 (ldgBank o) (ldgSector o) code
          match ringOf o with
          | some i => s2.flushRefused i code
          | none => s2
        else
          match s1.romSource src len with
          | (none, s2) => s2
          | (some bs, s2) => s2.startProg { addr := o, bytes := bs, asker := 0, retried := false, resume := false }

/-- Begin an erase for a caller; while VPP_LDG is low it waits (R401). -/
def State.eraseCall (asker o : Nat) (s : State) : State :=
  let c := s.eraseCode (some o)
  if c ≠ 0 then s.ldgRefuse asker (ldgBank o) (ldgSector o) c
  else if s.ldg.vppLow then { s with ldg := { s.ldg with waiting := s.ldg.waiting ++ [.erase o] } }
  else (s.startSectorErase (ldgBank o) (ldgSector o)).ldgResult asker 0

/-- LDG_ERASE (R340, R342). -/
def execLdgErase (t addr : Nat) (s : State) : Host.Outcome State Fault Refusal :=
  let s1 := s.advanceTo t
  .next <|
    if !s1.romRuns then s1
    else
      match ldgOffset addr with
      | some o => s1.eraseCall 0 o
      | none => s1.ldgRefuse 0 2 0 (s1.eraseCode none)

/-- The sector an operation of a bank works on, as its number; none reads 0. -/
def State.bankSector (s : State) (b : Nat) : Nat := ((s.bank b).sectorOf).getD 0

/-- A suspend that a caller asks for (R342, R344). -/
def State.suspendCall (asker b : Nat) (s : State) : State :=
  let k := s.bank b
  let code := if b < 2 ∧ (k.prog.isSome || k.held.isSome) then 1
    else if s.md.mode.ldgStops || s.md.mode == .holdup then 2
    else if 2 ≤ b then 3
    else if k.erase.isNone || k.suspended then 4 else 0
  if code ≠ 0 then s.ldgRefuse asker b (s.bankSector b) code else s.askSuspend b asker none

/-- A resume that a caller asks for. -/
def State.resumeCall (asker b : Nat) (s : State) : State :=
  let k := s.bank b
  let code := if b < 2 ∧ (k.prog.isSome || k.held.isSome) then 1
    else if s.md.mode.ldgStops || s.md.mode == .holdup then 2
    else if 2 ≤ b then 3
    else if k.erase.isNone || !k.suspended then 4 else 0
  if code ≠ 0 then s.ldgRefuse asker b (s.bankSector b) code else (s.doResume b).ldgResult asker 0

/-- LDG_SUSPEND (R343, R344). -/
def execLdgSuspend (t bank : Nat) (s : State) : Host.Outcome State Fault Refusal :=
  let s1 := s.advanceTo t
  .next <| if !s1.romRuns then s1 else s1.suspendCall 0 bank

/-- LDG_RESUME (R343). -/
def execLdgResume (t bank : Nat) (s : State) : Host.Outcome State Fault Refusal :=
  let s1 := s.advanceTo t
  .next <| if !s1.romRuns then s1 else s1.resumeCall 0 bank

/-- LDG_POLL (Table 16.2): 0 if the bank is idle or its erase is suspended, 1 if busy. -/
def execLdgPoll (t bank : Nat) (s : State) : Host.Outcome State Fault Refusal :=
  let s1 := s.advanceTo t
  let st := (s1.bank bank).state
  .next <|
    if !s1.romRuns then s1
    else if 2 ≤ bank then s1.ldgRefuse 0 bank 0 3
    else s1.ldgResult 0 (if st = 0 ∨ st = 4 then 0 else 1)

/-- What LDG_CYCLES and LDG_CINFO show of a sector (R346, R352). -/
def State.cyclesOf (s : State) (bank sec : Nat) : Nat :=
  let x := s.sector bank sec
  x.cycles + b2n x.worn * 2 ^ 24 + b2n x.pending * 2 ^ 25

/-- LDG_CYCLES (Table 16.2). -/
def execLdgCycles (t addr : Nat) (s : State) : Host.Outcome State Fault Refusal :=
  let s1 := s.advanceTo t
  .next <|
    if !s1.romRuns then s1
    else
      match ldgOffset addr with
      | some o => s1.ldgResult 0 (s1.cyclesOf (ldgBank o) (ldgSector o))
      | none => s1.ldgRefuse 0 2 0 3

/-! ### The recorder tail -/

/-- Cut a tail into its records by their LEN fields; what is no record goes line by line. -/
def cutRecords : Nat → List Byte → List (List Byte)
  | 0, _ => []
  | n + 1, bs =>
    if bs.isEmpty then []
    else
      let len := leNat (bs.take 2)
      let k := if len % 32 = 0 ∧ 32 ≤ len ∧ len ≤ 128 then len else 32
      bs.take k :: cutRecords n (bs.drop k)

/-- Lay records out from a write point (R381): place in the ring, offset in its sector, bytes. -/
def State.layTail (s : State) (i off : Nat) : List (List Byte) → List (Nat × Nat × List Byte)
  | [] => []
  | r :: rs =>
    if 0x20000 < off + r.length then (s.ringNext i, 0, r) :: State.layTail s (s.ringNext i) r.length rs
    else (i, off, r) :: State.layTail s i (off + r.length) rs

/-- Join what lies behind one another on one 256-byte page into one program. -/
def joinPages : List (Nat × Nat × List Byte) → List (Nat × Nat × List Byte)
  | [] => []
  | (i, off, r) :: rs =>
    match joinPages rs with
    | (j, o, q) :: qs =>
      if j = i ∧ o = off + r.length ∧ o % 256 ≠ 0 then (i, off, r ++ q) :: qs else (i, off, r) :: (j, o, q) :: qs
    | [] => [(i, off, r)]

/-- Cut at page ends what spans two pages. -/
def cutPages (x : Nat × Nat × List Byte) : List (Nat × Nat × List Byte) :=
  let room := 256 - x.2.1 % 256
  if x.2.2.length ≤ room then [x]
  else [(x.1, x.2.1, x.2.2.take room), (x.1, x.2.1 + room, x.2.2.drop room)]

/-- Programs that put a tail at the write point. -/
def State.tailProgs (s : State) (bytes : List Byte) : List LdgProg :=
  let laid := s.layTail s.rcdr.ringSector s.rcdr.ringOffset (cutRecords bytes.length bytes)
  let pages := joinPages ((laid.map cutPages).flatten)
  pages.map (fun (i, off, bs) =>
    { addr := sectorBase (ringBank i) (ringSec i) + off, bytes := bs, asker := 2, retried := false, resume := false })

/-- LDG_RECTAIL (Table 16.2, R380): the tail goes ahead of other work that waits. -/
def execLdgRectail (t src len : Nat) (s : State) : Host.Outcome State Fault Refusal :=
  let s1 := s.advanceTo t
  let i := s1.rcdr.ringSector
  let b := ringBank i
  let k := s1.bank b
  let code := if k.prog.isSome || k.held.isSome then 1
    else if s1.md.mode.ldgStops then 2
    else if len = 0 ∨ 4096 < len ∨ len % 32 ≠ 0 ∨ !inMemory src len then 3 else 0
  .next <|
    if !s1.romRuns then s1
    else if code ≠ 0 then s1.ldgRefuse 0 b (ringSec i) code
    else
      match s1.romSource src len with
      | (none, s2) => s2
      | (some bs, s2) =>
        { s2 with ldg := { s2.ldg with waiting := (s2.tailProgs bs).map LdgJob.prog ++ s2.ldg.waiting } }.pump

/-! ### The command window (R341) -/

/-- A sequence is broken (R341). -/
def State.breakSeq (bank step : Nat) (s : State) : State :=
  let s1 := { s with ldg := { s.ldg with seq := none } }
  ((((s1.deassertLine 0).deassertLine 1).raise Reg.LDG_STATUS 2).ignored).recordOnce 0xA101 0 [bank, step]

/-- The sequence goes on to a step. -/
def State.setSeq (q : WinSeq) (s : State) : State := { s with ldg := { s.ldg with seq := some q } }

/-- The sequence ends, and its operation runs. -/
def State.endSeq (s : State) : State :=
  let s1 := { s with ldg := { s.ldg with seq := none, wbusy := true } }
  (s1.deassertLine 0).deassertLine 1

/-- A program from the command window starts, or is refused. -/
def State.windowProgram (o : Nat) (data : List Byte) (s : State) : State :=
  let c := s.progCode 1 (some o) data.length
  if c = 0 then s.startProg { addr := o, bytes := data, asker := 1, retried := false, resume := false }
  else
    let s1 := s.ldgRefuse 1 (ldgBank o) (ldgSector o) c
    match ringOf o with | some i => s1.flushRefused i c | none => s1

/-- The command word of step 3: erase, program, suspend or resume (Table 16.4). -/
def State.windowCommand (q : WinSeq) (word : Nat) (s : State) : State :=
  let n := word / 256
  if word = 0x0080 then s.setSeq { q with step := 4, op := 0x80, last := s.time.now }
  else if word % 256 = 0xA0 ∧ 1 ≤ n ∧ n ≤ 8 then
    (s.setSeq { q with step := 4, op := 0xA0, lines := n, last := s.time.now }).assertLine q.bank
  else if word = 0x00B0 then s.endSeq.suspendCall 1 q.bank
  else if word = 0x00D0 then s.endSeq.resumeCall 1 q.bank
  else s.breakSeq q.bank 3

/-- A data write of a program sequence: ascending from a 32-byte aligned start, in writes of at most 32 bytes. -/
def State.windowData (q : WinSeq) (o : Nat) (bytes : List Byte) (s : State) : State :=
  let start := if q.data.isEmpty then o else q.addr
  let data := q.data ++ bytes
  if bytes.isEmpty || decide (32 < bytes.length) || decide (start % 32 ≠ 0) || decide (o ≠ start + q.data.length)
      || decide (32 * q.lines < data.length) then s.breakSeq q.bank 4
  else if data.length = 32 * q.lines then s.endSeq.windowProgram start data
  else s.setSeq { q with addr := start, data := data, last := s.time.now }

/-- A write to the array window. -/
def State.windowWrite (o : Nat) (bytes : List Byte) (s : State) : State :=
  let b := ldgBank o
  let x := o % 0x2000000
  let v := leNat bytes
  let word := decide (bytes.length = 2)
  let expired := match s.ldg.seq with | some q => decide (q.last + msTicks < s.time.now) | none => false
  let s1 := match s.ldg.seq with | some q => if expired then s.breakSeq q.bank q.step else s | none => s
  match s1.ldg.seq with
  | none =>
    if word && x == 0x0A0A && v == 0xC1A5 then
      s1.setSeq { step := 2, bank := b, last := s1.time.now, op := 0, lines := 0, addr := 0, data := [] }
    else s1.breakSeq b 1
  | some q =>
    if b ≠ q.bank then s1.breakSeq q.bank q.step
    else if q.step = 2 then
      if word && x == 0x0505 && v == 0x3E5A then s1.setSeq { q with step := 3, last := s1.time.now } else s1.breakSeq b 2
    else if q.step = 3 then
      if word && x == 0x0A0A then s1.windowCommand q v else s1.breakSeq b 3
    else if q.op = 0x80 then
      if word && v == 0x0030 then s1.endSeq.eraseCall 1 o else s1.breakSeq b 4
    else s1.windowData q o bytes

/-- COMMAND_WINDOW_WRITE (R341): `offset` counts through both banks. In Reset no path reaches the Ledger. -/
def execCommandWindowWrite (t : Nat) (_o : Origin) (offset : Nat) (bytes : List Byte) (s : State) :
    Host.Outcome State Fault Refusal :=
  let s1 := s.advanceTo t
  .next <| if s1.md.mode = .reset ∨ ldgSize ≤ offset then s1 else s1.windowWrite offset bytes

/-- WINDOW_SEQUENCE_TIMEOUT (R341): more than 1 ms since the last write of the sequence. -/
def execWindowSequenceTimeout (t : Nat) (s : State) : Host.Outcome State Fault Refusal :=
  let s1 := s.advanceTo t
  .next <| match s1.ldg.seq with
    | some q => if q.last + msTicks < s1.time.now then s1.breakSeq q.bank q.step else s1
    | none => s1

/-! ### Ends of operations -/

/-- A second mismatch: FAIL, and the sector is WORN at once (R347). -/
def State.ldgFail (b sec operation : Nat) (s : State) : State :=
  (((s.updSector b sec (fun x => { x with worn := true })).raise Reg.LDG_STATUS 0x60).record 0xA105 [b, sec]).record 0xA106
    [b, sec, Config.itemCode 0xA106 operation]

/-- A verified program's bytes stand in the array. -/
def State.ldgStore (p : LdgProg) (s : State) : State :=
  { s with ldg := { s.ldg with
      cells := Memory.writeBytes 0xFF s.ldg.cells p.addr p.bytes
      undef := (progLines p).foldl (fun m l => NMap.del m l) s.ldg.undef } }

/-- A program ended: the bank goes on to its suspended erase, then to what waits. -/
def State.progEnded (b : Nat) (p : LdgProg) (s : State) : State :=
  let s1 := s.updBank b (fun k => { k with prog := none })
  (if p.resume then s1.doResume b else s1).pump

/-- A recorder tail is done when none of its programs is left; the caller then has its result. -/
def State.programResult (p : LdgProg) (code : Nat) (s : State) : State :=
  if p.asker = 2 then
    (if code = 0 ∧ s.progsInLine.any (fun q => q.asker == 2) then s else s.ldgResult 2 code)
  else s.ldgResult p.asker code

/-- What a program's failure leaves: its lines hold what nothing defines. -/
def State.spoilLines (p : LdgProg) (s : State) : State :=
  { s with ldg := { s.ldg with
      undef := (progLines p).foldl (fun m l => NMap.put m l s.time.now) s.ldg.undef } }

/-- LEDGER_PROGRAM_DONE (R347, R350, R380): a mismatch is retried once. A failed flush goes to the next sector of the ring. -/
def execLedgerProgramDone (t bank : Nat) (verifyOk : Bool) (s : State) : Host.Outcome State Fault Refusal :=
  let s1 := s.advanceTo t
  .next <| match (s1.bank bank).prog with
    | none => s1
    | some p =>
      if verifyOk then
        let s2 := (s1.ldgStore p).progEnded bank p
        let s3 := match ringOf p.addr with
          | some i => s2.ringProgrammed i p.addr p.bytes.length
          | none => s2
        s3.programResult p 0
      else if !p.retried then s1.updBank bank (fun k => { k with prog := some { p with retried := true } })
      else
        let sec := ldgSector p.addr
        let s2 := ((s1.spoilLines p).ldgFail bank sec 0).progEnded bank p
        match ringOf p.addr with
        | some i =>
          let s3 := s2.flushRefused i 8
          if p.asker = 2 then
            -- the rest of the tail is laid out anew behind the failed sector
            let rest := (s3.progsInLine.filter (fun q => q.asker == 2)).map (·.bytes)
            let s4 := { s3 with ldg := { s3.ldg with waiting := s3.ldg.waiting.filter (fun j => match j with
              | .prog q => q.asker != 2 | .erase _ => true) } }
            { s4 with ldg := { s4.ldg with
                waiting := (s4.tailProgs (p.bytes ++ rest.flatten)).map LdgJob.prog ++ s4.ldg.waiting } }.pump
          else s3.programResult p 8
        | none => s2.programResult p 8

/-- Cycle limit of a sector (R346). -/
def cycleLimit (sec : Nat) : Nat := if sec < 8 then 500000 else 100000

/-- A completed erase counts, and may bring the sector near its limit or to it (R346). -/
def State.cycled (b sec : Nat) (s : State) : State :=
  let x := s.sector b sec
  let n := x.cycles + 1
  let lim := cycleLimit sec
  let s1 := s.updSector b sec (fun x => { x with cycles := satTo 24 n, pending := false, undef := none, worn := x.worn || decide (lim ≤ n) })
  let s2 := if n = lim - lim / 16 then (s1.raise Reg.LDG_STATUS 0x10).record 0xA104 [b, sec, n] else s1
  if n = lim then (s2.raise Reg.LDG_STATUS 0x20).record 0xA105 [b, sec] else s2

/-- An erased sector reads FFh (R337). -/
def State.ldgWipe (b sec : Nat) (s : State) : State :=
  let lo := sectorBase b sec
  let hi := lo + sectorSize sec
  { s with ldg := { s.ldg with
      cells := s.ldg.cells.filter (fun c => !decide (lo ≤ c.1 ∧ c.1 < hi))
      undef := s.ldg.undef.filter (fun c => !decide (lo ≤ 32 * c.1 ∧ 32 * c.1 < hi)) } }

/-- The flushed records of a ring sector are gone; nothing for a sector outside the ring. -/
def State.dropRingAt (i : Option Nat) (s : State) : State :=
  match i with
  | some i =>
    let gone := s.ringSeqs i
    { s with rcdr := { s.rcdr with recs := s.rcdr.recs.filter (fun e => !gone.contains e.seq || decide (s.rcdr.flushedTo < e.seq)) } }
  | none => s

/-- Records whose ring sector is erased are gone; newer ones that never reached the ring stay. -/
def State.dropRing (b sec : Nat) (s : State) : State := s.dropRingAt (ringOf (sectorBase b sec))

/-- LEDGER_ERASE_DONE (R346, R347). -/
def execLedgerEraseDone (t bank : Nat) (verifyOk : Bool) (s : State) : Host.Outcome State Fault Refusal :=
  let s1 := s.advanceTo t
  let k := s1.bank bank
  .next <| match k.erase with
    | none => s1
    | some sec =>
      if k.suspended then s1
      else if verifyOk then
        let s2 := (((s1.dropRing bank sec).ldgWipe bank sec).updBank bank (fun k => { k with erase := none, held := none })).cycled bank sec
        match k.held with
        | some (asker, some p) => (s2.startProg { p with resume := false, asker := asker }).pump
        | some (asker, none) => (s2.ldgRefuse asker bank sec 4).pump
        | none => s2.pump
      else if !k.retried then s1.updBank bank (fun k => { k with retried := true })
      else
        let s2 := s1.updSector bank sec (fun x => { x with undef := some s1.time.now })
        let s3 := (s2.updBank bank (fun k => { k with erase := none, held := none })).ldgFail bank sec 1
        match k.held with
        | some (asker, some p) => (s3.startProg { p with resume := false, asker := asker }).pump
        | some (asker, none) => (s3.ldgRefuse asker bank sec 4).pump
        | none => s3.pump

/-- MINRUN_REACHED (R344): a held suspend is carried out. -/
def execMinrunReached (t bank : Nat) (s : State) : Host.Outcome State Fault Refusal :=
  let s1 := s.advanceTo t
  let k := s1.bank bank
  .next <| match k.held with
    | some (asker, p) =>
      if s1.time.now < k.runFrom + minRun then s1
      else
        let s2 := s1.doSuspend bank p
        if p.isNone then s2.ldgResult asker 0 else s2
    | none => s1

/-- ERASE_AGE_LIMIT (R345): once for an erase, at 10,000 ms of age. -/
def execEraseAgeLimit (t bank : Nat) (s : State) : Host.Outcome State Fault Refusal :=
  let s1 := s.advanceTo t
  let k := s1.bank bank
  .next <| match k.erase with
    | some sec =>
      if k.aged || decide (s1.time.now < k.eraseStart + 10000 * msTicks) then s1
      else
        ((s1.updBank bank (fun k => { k with aged := true })).raise Reg.LDG_STATUS 8).record 0xA103 [bank, sec, k.suspends]
    | none => s1

end Sys2Proof.Machine
end

