-- ==== Sys2Proof/Machine/TallyRecorder.lean ====
section
/-!
DEFINITION. Tally (R369 to R377) and the recorder's reading and clearing (R380 to R383), with the admin commands C3h, C4h and C5h.
-/

namespace Sys2Proof.Machine

/-- The number of an access path in an event's data (log 11). -/
def pathItem (code : Nat) (o : Origin) : Nat := Config.itemCode code (pathCode o)

/-! ### Tally -/

/-- Bytes of a Tally half with its trailer (R374), and the distance of the two halves. -/
def halfBytes : Nat := 1438912
def halfStride : Nat := 2097152

/-- Where a generation's half lies (R373, R374). -/
def State.halfAt (s : State) (gen : Nat) : Nat := s.image.tallyBuf + gen % 2 * halfStride

/-- Why a request for latch tick `at_` is refused (R371): 0 accepted, 1 late, 2 busy, 3 mode. -/
def State.tallyCause (s : State) (at_ : Nat) : Nat :=
  if at_ < s.time.now + 10000 then 1
  else if s.tally.pending then 2
  else if s.md.mode = .reset ∨ s.md.mode = .slack ∨ s.md.mode = .locked ∨ s.md.mode = .holdup ∨ !s.mem.ready then 3
  else 0

/-- Make a Tally request (R371). -/
def State.tallyAsk (o : Origin) (at_ : Nat) (s : State) : State :=
  let c := s.tallyCause at_
  if c = 0 then
    { s with tally := { s.tally with at_ := at_, pending := true, done := false, latched := false, staged := false, drained := 0 } }
  else
    let s1 := { s with tally := { s.tally with cause := c } }
    (s1.raise Reg.TALLY_STATUS 4).recordOnce 0xB020 0 [c, pathItem 0xB020 o]

/-- A write of TALLY_AT_HI commits the latch tick and makes the request (R371). -/
def State.writeTallyAt (o : Origin) (v : Word) (s : State) : State :=
  s.gateWrite o Reg.TALLY_AT_HI v (fun _ s =>
    let at_ := join64 (s.staged o Reg.TALLY_AT_LO) v
    (s.setPair o Reg.TALLY_AT_LO Reg.TALLY_AT_HI at_).tallyAsk o at_)

/-- TALLY_REQUEST (R371). -/
def execTallyRequest (t : Nat) (o : Origin) (v : Word) (s : State) : Host.Outcome State Fault Refusal :=
  .next ((s.advanceTo t).writeTallyAt o v)

/-- Copy every counter into its shadow (R372). -/
def State.tallyCopy (s : State) : State :=
  ({ s with tally := { s.tally with shadow := s.tally.live, latched := true, ltick := s.tally.at_ } }).count 13

/-- TALLY_LATCH (R372): due at the latch tick. -/
def execTallyLatch (t : Nat) (s : State) : Host.Outcome State Fault Refusal :=
  let s1 := s.advanceTo t
  .next <| if s1.tally.pending && !s1.tally.latched && decide (s1.tally.at_ ≤ s1.time.now) then s1.tallyCopy else s1

/-- Write the shadows and the trailer into the staging area and assert line 3 (R373). The trailer's DONETICK is a free value: the spec
does not say how long the copy takes. -/
def State.tallyStage (s : State) : State :=
  let doneTick := join64 s.freeValue s.spendFree.freeValue
  let half := tallyHalf s.tally.shadow (s.tally.gen + 1) s.tally.ltick doneTick
  let s1 := (s.spendFree.spendFree).memWrite s.image.tallyStage half
  ({ s1 with tally := { s1.tally with staged := true, drained := 0 } }).assertLine 3

/-- TALLY_STAGING_DONE (R373). -/
def execTallyStagingDone (t : Nat) (s : State) : Host.Outcome State Fault Refusal :=
  let s1 := s.advanceTo t
  .next <| if s1.tally.pending && s1.tally.latched && !s1.tally.staged then s1.tallyStage else s1

/-- A C5h whose Tally is done delivers the new half (R376). -/
def State.tallyDeliver (x : Nat × Sqe) (s : State) : State :=
  (s.adminData x.1 x.2 (s.memBytes (s.halfAt s.tally.gen) halfBytes)).completeAdmin x.1 x.2 0 0 (s.tally.gen % 2 ^ 32)

/-- The burst that carries the trailer is visible (R373): TALLY_GEN, DONE, PENDING, the alert source, and C5h. -/
def State.tallyDone (s : State) : State :=
  let gen := s.tally.gen + 1
  let waiting := s.tally.waiting
  let s1 := { s with tally := { s.tally with
    gen := gen, half := gen % 2, done := true, pending := false, latched := false, staged := false, shadow := [], drained := 0,
    waiting := [] } }
  waiting.foldl (fun (s : State) (x : Nat × Sqe) => s.tallyDeliver x) ((s1.deassertLine 3).raise Reg.MSPI_ALERTSRC 0x20)

/-- A drain begins again from its first byte once the halted engine resumes (R373). -/
def State.tallyRestart (s : State) : State :=
  if s.tally.pending && s.tally.staged && s.tally.drained != 0 then
    (({ s with tally := { s.tally with drained := 0 } }).raise Reg.TALLY_STATUS 8).record 0xB022 [(s.tally.gen + 1) % 2 ^ 32]
  else s

/-- A write of TALLY_LVAL_HI sets the selected live counter and clears OVF (R369, R377); increments of the same cycle count on top
(R12). -/
def State.writeLval (o : Origin) (v : Word) (s : State) : State :=
  s.gateWrite o Reg.TALLY_LVAL_HI v (fun _ s =>
    let i := bits (s.pathReg o Reg.TALLY_LSEL) 17 0
    if counterReserved i then s.ignored
    else
      let val := (s.staged o Reg.TALLY_LVAL_LO).toNat + bits v 15 0 * 2 ^ 32
      let new := counterAdd val (if s.slowClock then 0 else NMap.getD s.tickAdds i 0)
      { s with tally := { s.tally with live := if new = 0 then NMap.del s.tally.live i else NMap.put s.tally.live i new } })

/-- TALLY_LVAL_COMMIT (R377). -/
def execTallyLvalCommit (t : Nat) (o : Origin) (v : Word) (s : State) : Host.Outcome State Fault Refusal :=
  .next ((s.advanceTo t).writeLval o v)

/-- C5h Tally (R376). -/
def State.tallyIn (cntl : Nat) (e : Sqe) (s : State) : State :=
  let at_ := if slbaOf e = 0 then s.time.now + 10000 else slbaOf e
  if bits e.dw12 15 0 < 352 then s.completeAdmin cntl e 0 0x02 0x04
  else
    let c := s.tallyCause at_
    let s1 := s.tallyAsk .inband at_
    if c ≠ 0 then s1.completeAdmin cntl e 0 0x02 c
    else { s1 with tally := { s1.tally with waiting := s1.tally.waiting ++ [(cntl, e)] } }

/-- TALLY_COMMAND (R376). -/
def execTallyCommand (t cntl : Nat) (e : Sqe) (s : State) : Host.Outcome State Fault Refusal :=
  .next ((s.advanceTo t).admin cntl e true (State.tallyIn cntl e))

/-! ### Reading the recorder (R382) -/

/-- A record may be read: hidden records may not, but for those of code 0xB002 (R383). -/
def State.readableRec (s : State) (e : EventRec) : Bool := decide (s.rcdr.hiddenTo < e.seq) || e.code == 0xB002

/-- The readable records. -/
def State.readableRecs (s : State) : List EventRec := s.rcdr.recs.filter s.readableRec

/-- RCDR_OLDEST: the least readable SEQ; 0 where no record is readable. -/
def State.oldestSeq (s : State) : Nat :=
  match s.readableRecs with
  | [] => 0
  | e :: es => es.foldl (fun m x => min m x.seq) e.seq

/-- Words of a record in RCDR_RDATA; bytes past LEN read 0. -/
def recWord (e : EventRec) (i : Nat) : Word := lo32 (leNat (((eventBytes e).drop (4 * i)).take 4))

/-- The record a path has selected. -/
def State.selectedRec (s : State) (o : Origin) : Option EventRec :=
  s.readableRecs.find? (fun e => e.seq == s.pair o Reg.RCDR_RSEQ_LO Reg.RCDR_RSEQ_HI)

/-- RCDR_RINFO of a path: VALID, LEN, CODE. -/
def State.rinfo (s : State) (o : Origin) : Word :=
  match s.selectedRec o with
  | some e => field 1 0 0 ||| field (eventLen e.data.length) 15 8 ||| field e.code 31 16
  | none => 0

/-- A read of RCDR_RINFO latches the record, or sets GONE (R382). -/
def State.latchRecord (o : Origin) (s : State) : State :=
  match s.selectedRec o with
  | some e => (List.range 32).foldl (fun (w : State) i => w.setPathReg o (Reg.RCDR_RDATA0 + 4 * i) (recWord e i)) s
  | none => s.raise Reg.RCDR_STATUS 16

/-- RECORDER_READ_WINDOW (R382). -/
def execRecorderReadWindow (t : Nat) (o : Origin) (s : State) : Host.Outcome State Fault Refusal :=
  .next ((s.advanceTo t).gateRead o Reg.RCDR_RINFO (fun _ s => s.latchRecord o))

/-- Whole records, in order, that fit a length. -/
def fitRecs : Nat → List EventRec → List EventRec
  | _, [] => []
  | n, e :: es => let l := eventLen e.data.length; if n < l then [] else e :: fitRecs (n - l) es

/-- C3h Recorder Read (R382). -/
def State.recorderOut (cntl : Nat) (e : Sqe) (s : State) : State :=
  let units := bits e.dw12 15 0
  if units = 0 ∨ 256 < units then s.invalidField cntl e
  else
    let recs := fitRecs (4096 * units) (s.readableRecs.filter (fun r => decide (slbaOf e ≤ r.seq)))
    (s.adminData cntl e (recs.map eventBytes).flatten).completeAdmin cntl e 0 0 recs.length

/-- RECORDER_READ (R382). -/
def execRecorderRead (t cntl : Nat) (e : Sqe) (s : State) : Host.Outcome State Fault Refusal :=
  .next ((s.advanceTo t).admin cntl e true (State.recorderOut cntl e))

/-! ### Clearing (R383) -/

/-- Draw a nonce for a path. -/
def State.armClear (o : Origin) (s : State) : State :=
  let n := s.freeValue.toNat
  { s.spendFree with rcdr := { s.rcdr with nonces := NMap.put s.rcdr.nonces (pathCode o) (n, s.time.now) } }

/-- Why a clear is refused: 0 performed, 1 not armed or expired, 2 wrong nonce, 3 SEQ beyond the newest. -/
def State.clearCause (s : State) (o : Origin) (nonce upTo : Nat) : Nat :=
  match NMap.find s.rcdr.nonces (pathCode o) with
  | none => 1
  | some (n, tick) =>
    if tick + 10 * secondTicks < s.time.now then 1
    else if n ≠ nonce then 2
    else if s.rcdr.newest < upTo then 3
    else 0

/-- Perform a clear, or refuse it; either way the nonce is used up. -/
def State.clearRecs (o : Origin) (nonce upTo : Nat) (s : State) : State :=
  let c := s.clearCause o nonce upTo
  let s1 := { s with rcdr := { s.rcdr with nonces := NMap.del s.rcdr.nonces (pathCode o) } }
  if c = 0 then
    let hidden := (s1.readableRecs.filter (fun e => decide (e.seq ≤ upTo) && e.code != 0xB002)).length
    let s2 := { s1 with rcdr := { s1.rcdr with hiddenTo := max s1.rcdr.hiddenTo upTo } }
    (s2.raise Reg.RCDR_STATUS 4).record 0xB002 [upTo, pathItem 0xB002 o, hidden]
  else (s1.raise Reg.RCDR_STATUS 8).record 0xB003 [pathItem 0xB003 o, c]

/-- A write of RCDR_CLRARM (R383). -/
def State.writeClrArm (o : Origin) (v : Word) (s : State) : State :=
  s.gateWrite o Reg.RCDR_CLRARM v (fun _ s => if bit v 0 then s.armClear o else s)

/-- A write of RCDR_CLRGO (R383). -/
def State.writeClrGo (o : Origin) (v : Word) (s : State) : State :=
  s.gateWrite o Reg.RCDR_CLRGO v (fun _ s => s.clearRecs o v.toNat (s.pair o Reg.RCDR_CLRSEQ_LO Reg.RCDR_CLRSEQ_HI))

/-- CLEAR_ARM (R383). -/
def execClearArm (t : Nat) (o : Origin) (v : Word) (s : State) : Host.Outcome State Fault Refusal :=
  .next ((s.advanceTo t).writeClrArm o (v ||| 1))

/-- CLEAR_GO (R383). -/
def execClearGo (t : Nat) (o : Origin) (v : Word) (s : State) : Host.Outcome State Fault Refusal :=
  .next ((s.advanceTo t).writeClrGo o v)

/-- C4h Recorder Clear: arm. -/
def State.armIn (cntl : Nat) (e : Sqe) (s : State) : State :=
  (s.armClear .inband).completeAdmin cntl e 0 0 s.freeValue.toNat

/-- C4h Recorder Clear: clear. -/
def State.clearIn (cntl : Nat) (e : Sqe) (s : State) : State :=
  let upTo := join64 e.dw12 e.dw13
  let c := s.clearCause .inband e.dw11.toNat upTo
  (s.clearRecs .inband e.dw11.toNat upTo).completeAdmin cntl e 0 (if c = 0 then 0 else 2) c

/-- RECORDER_CLEAR_ARM (R383): dword 10 bit 0 is 0. -/
def execRecorderClearArm (t cntl : Nat) (e : Sqe) (s : State) : Host.Outcome State Fault Refusal :=
  .next ((s.advanceTo t).admin cntl e false (State.armIn cntl e))

/-- RECORDER_CLEAR (R383): dword 10 bit 0 is 1. -/
def execRecorderClear (t cntl : Nat) (e : Sqe) (s : State) : Host.Outcome State Fault Refusal :=
  .next ((s.advanceTo t).admin cntl e false (State.clearIn cntl e))

/-! ### The flush timer (R380) -/

/-- RECORDER_FLUSH_TIMER: 1 s after the oldest unflushed record. -/
def execRecorderFlushTimer (t : Nat) (s : State) : Host.Outcome State Fault Refusal :=
  let s1 := s.advanceTo t
  .next <|
    match s1.rcdr.recs.find? (fun e => decide (s1.rcdr.flushedTo < e.seq)) with
    | some e => if e.tick + secondTicks ≤ s1.time.now then s1.assertLine 2 else s1
    | none => s1

end Sys2Proof.Machine
end

