-- ==== Sys2Proof/Machine/Dma.lean ====
section
/-!
DEFINITION. The housekeeping DMA engine (14_housekeeping_dma.md): windows (R304, R305), rings and descriptors (R309 to R314), bursts
(R307, R308), the halt and the resume (R315 to R317), and its registers (R320).
-/

namespace Sys2Proof.Machine

/-! ### Channels and their registers -/

/-- A register of channel `c` (Table 14.4). -/
def chReg (a c : Nat) : Nat := a + 0x20 * c

def State.cctrl (s : State) (c : Nat) : Word := s.reg (chReg Reg.HDMA_CCTRL0 c)
def State.chEn (s : State) (c : Nat) : Bool := bit (s.cctrl c) 0
def State.chPrio (s : State) (c : Nat) : Bool := bit (s.cctrl c) 1
def State.chFree (s : State) (c : Nat) : Bool := bit (s.cctrl c) 2
def State.chLine (s : State) (c : Nat) : Nat := bits (s.cctrl c) 13 8
def State.chBurst (s : State) (c : Nat) : Nat := 2 ^ bits (s.cctrl c) 19 16

/-- A channel bound to a line: enabled and not free-running (log 27). -/
def State.chBound (s : State) (c line : Nat) : Bool := s.chEn c && !s.chFree c && s.chLine c == line

def State.chan (s : State) (c : Nat) : Chan := NMap.getD s.dma.chans c {}

def State.setChan (c : Nat) (x : Chan) (s : State) : State :=
  { s with dma := { s.dma with chans := NMap.put s.dma.chans c x } }

/-- Entries of a channel's ring (R309). -/
def State.ringSize (s : State) (c : Nat) : Nat := 2 ^ bits (s.reg (chReg Reg.HDMA_CRING0 c)) 4 0

/-- DMA address of a ring's base. -/
def State.ringBase (s : State) (c : Nat) : Nat :=
  join64 (s.reg (chReg Reg.HDMA_CBASE_LO0 c)) (s.reg (chReg Reg.HDMA_CBASE_HI0 c))

def State.chead (s : State) (c : Nat) : Nat := bits (s.reg (chReg Reg.HDMA_CHEAD0 c)) 15 0

def State.setChead (c v : Nat) (s : State) : State := s.setReg (chReg Reg.HDMA_CHEAD0 c) (field v 15 0)

/-- A channel disables itself. -/
def State.clearEn (c : Nat) (s : State) : State := s.setReg (chReg Reg.HDMA_CCTRL0 c) (s.cctrl c &&& ~~~ 1)

/-- The engine may access memory (R316, Table 14.3). -/
def State.dmaRuns (s : State) : Bool := s.md.mode != .reset && !s.dma.halted && bit (s.reg Reg.HDMA_GCTL) 0

/-- HDMA_GSTAT.STATE: 0 disabled, 1 running, 2 HALTED_BUS_ERROR. -/
def State.gstat (s : State) : Nat := if s.dma.halted then 2 else if s.dmaRuns then 1 else 0

/-- Prefetched copies are discarded: HDMA_CHEAD goes back to the descriptor that is still owned (R314, R316). -/
def State.dropCur (c : Nat) (s : State) : State :=
  match (s.chan c).cur with
  | some (_, idx, _) => (s.setChead c idx).setChan c { s.chan c with cur := none }
  | none => s

/-- A channel stops at its burst boundary (R314). -/
def State.stopChan (c : Nat) (s : State) : State :=
  let s1 := s.dropCur c
  s1.setChan c { s1.chan c with stopped := true, idle := false }

/-! ### Translation (R304, R305) -/

/-- What a DMA access meets: the internal address, or the KIND of its fault (Table 13.8). -/
inductive Translated where
  | at_ (a : Nat)
  | fault (kind : Nat)
  deriving DecidableEq, Repr

/-- The boot ROM (Table 13.1). -/
def inRom (a n : Nat) : Bool := decide (0x180000000 ≤ a ∧ a + n ≤ 0x180040000)

/-- The Ledger windows. -/
def inLedger (a n : Nat) : Bool := decide (ldgBase ≤ a ∧ a + n ≤ ldgBase + ldgSize)

/-- The lowest-numbered enabled window that holds a DMA address. -/
def State.window (s : State) (a : Nat) : Option Win :=
  (s.dma.wins.find? (fun p => p.2.en && decide (p.2.base ≤ a ∧ a < p.2.lim))).map (·.2)

/-- Translate an access of `n` bytes (R304, R305). -/
def State.translate (s : State) (a n : Nat) (write : Bool) : Translated :=
  match s.window a with
  | none => .fault 0
  | some w =>
    if !(if write then w.wr else w.rd) then .fault 1
    else
      let p := w.tgt + (a - w.base)
      if inMemory p n || inRom p n || inLedger p n then .at_ p else .fault 3

/-! ### The halt (R315, R316) -/

/-- A translation fault is latched if it is the first, else counted (R305). -/
def State.latchFault (c a : Nat) (write : Bool) (kind : Nat) (s : State) : State :=
  if bit (s.reg Reg.ATPU_MSTATUS) 0 then s.count 3
  else
    let s1 := { s with dma := { s.dma with mfault := a, mfinfo := c + b2n write * 32 + kind * 64 } }
    (s1.raise Reg.ATPU_MSTATUS 1).record 0x8020 [c, a, kind]

/-- All 32 channels halt (R315). -/
def State.haltDma (c a kind : Nat) (s : State) : State :=
  let s1 := (List.range 32).foldl (fun (s : State) c => s.dropCur c) s
  ({ s1 with dma := { s1.dma with halted := true, haltTick := s1.time.now } }).record 0x8030 [c, a, kind]

/-- A bus error of a translation fault. -/
def State.busFault (c a : Nat) (write : Bool) (kind : Nat) (s : State) : State :=
  (s.latchFault c a write kind).haltDma c a kind

/-- BUS_ERROR (R315): an error of an access issued before; while the engine is halted it is counted only. -/
def execBusError (t channel addr : Nat) (write : Bool) (kind : Nat) (s : State) : Host.Outcome State Fault Refusal :=
  let s1 := s.advanceTo t
  .next <|
    if s1.dmaRuns then s1.busFault channel addr write kind
    else if s1.dma.halted then s1.latchFault channel addr write kind
    else s1

/-! ### Accesses -/

/-- A DMA read: the bytes and their internal address, or none where it ended in a bus error. -/
def State.dmaRead (c a n : Nat) (s : State) : Option (Nat × List Byte) × State :=
  match s.translate a n false with
  | .fault k => (none, s.busFault c a false k)
  | .at_ p =>
    if inMemory p n then
      match s.poisonedIn p n with
      | some line => (none, (s.consumed line consumerDma).busFault c a false 2)
      | none => (some (p, s.memBytes p n), s)
    else if inRom p n then (some (p, (List.range n).map (fun i => Config.romByte (p - 0x180000000 + i))), s)
    else if s.ldgBusy (p - ldgBase) then
      (none, (s.busyRead (p - ldgBase) (Config.itemCode 0xA100 4)).haltDma c a (Config.itemCode 0x8030 4))
    else (some (p, s.ldgBytes (p - ldgBase) n), s)

/-- Writes to the array window, of at most 32 bytes each (R341). -/
def State.ldgWrites (o : Nat) : Nat → List Byte → State → State
  | 0, _, s => s
  | k + 1, bs, s => if bs.isEmpty then s else State.ldgWrites (o + 32) k (bs.drop 32) (s.windowWrite o (bs.take 32))

/-- A DMA write: its internal address, or none where it ended in a bus error. A write to the boot ROM is discarded (R287). -/
def State.dmaWrite (c a : Nat) (bs : List Byte) (s : State) : Option Nat × State :=
  match s.translate a bs.length true with
  | .fault k => (none, s.busFault c a true k)
  | .at_ p =>
    if inMemory p bs.length then (some p, s.memWrite p bs)
    else if inRom p bs.length then (some p, s.ignored)
    else (some p, s.ldgWrites (p - ldgBase) bs.length bs)

/-- Write a descriptor back in one 32-byte write (R311). -/
def State.writeBack (c idx : Nat) (bytes : List Byte) (result : Nat) (s : State) : Bool × State :=
  match s.dmaWrite c (s.ringBase c + 32 * idx) (descWriteBack bytes result s.time.now) with
  | (some _, s1) => (true, s1)
  | (none, s1) => (false, s1)

/-! ### Descriptors -/

/-- Read the descriptor at HDMA_CHEAD, and take it up if the engine owns it (R311, R313). -/
def State.fetchDesc (c : Nat) (s : State) : State :=
  let idx := s.chead c % s.ringSize c
  match s.dmaRead c (s.ringBase c + 32 * idx) 32 with
  | (none, s1) => s1
  | (some (_, bytes), s1) =>
    let d := readDesc bytes
    let next := (idx + 1) % s1.ringSize c
    if !d.own then s1.setChan c { s1.chan c with idle := true }
    else if d.bad then
      match s1.writeBack c idx bytes 2 with
      | (false, s2) => s2
      | (true, s2) =>
        (((s2.clearEn c).setChead c next).stopChan c |>.raise Reg.HDMA_ERR (2 ^ c)).record 0x8032 [c, idx]
    else (s1.setChead c next).setChan c { s1.chan c with idle := false, cur := some (bytes, idx, 0) }

/-- A channel that may read its next descriptor: enabled, with none taken up, and not waiting for a kick. -/
def State.mayFetch (s : State) (c : Nat) : Bool :=
  s.dmaRuns && decide (c < 32) && s.chEn c && !(s.chan c).stopped && !(s.chan c).idle && (s.chan c).cur.isNone

/-- DESCRIPTOR_FETCH (R311). -/
def execDescriptorFetch (t channel : Nat) (s : State) : Host.Outcome State Fault Refusal :=
  let s1 := s.advanceTo t
  .next <| if s1.mayFetch channel then s1.fetchDesc channel else s1

/-! ### Bursts -/

/-- A channel is ready to issue a burst (R307): it owns a descriptor, and runs free or finds its line pending. -/
def State.burstReady (s : State) (c : Nat) : Bool :=
  s.dmaRuns && s.chEn c && !(s.chan c).stopped && (s.chan c).cur.isSome && (s.chFree c || s.dma.lines.contains (s.chLine c))

/-- Round robin: the first ready channel behind the one served last. -/
def roundRobin (last : Nat) (ready : Nat → Bool) : Option Nat :=
  ((List.range 32).map (fun i => (last + 1 + i) % 32)).find? ready

/-- The channel whose burst is next: those with PRIO = 1 first (R307). -/
def State.nextChannel (s : State) : Option Nat :=
  match roundRobin s.dma.lastHigh (fun c => s.burstReady c && s.chPrio c) with
  | some c => some c
  | none => roundRobin s.dma.lastLow (fun c => s.burstReady c && !s.chPrio c)

/-- Bytes of the next burst of a descriptor (R307): at most BURST and what is left, cut at a 4 KiB boundary of source or destination. -/
def burstLen (burst len src dst moved : Nat) : Nat :=
  min (min burst (len - moved)) (min (4096 - (src + moved) % 4096) (4096 - (dst + moved) % 4096))

/-- Registers of bulk window `n`, its staging buffer, and its line (R395). -/
def State.bulkCtl (s : State) (n : Nat) : Word := s.reg (Reg.MSPI_BWCTL0 + 8 * n)
def State.bulkEn (s : State) (n : Nat) : Bool := bit (s.bulkCtl n) 0
def State.bulkOut (s : State) (n : Nat) : Bool := bit (s.bulkCtl n) 1
def State.bulkAt (s : State) (n : Nat) : Nat := s.image.bulkBase + 0x1000 * n
def State.bulk (s : State) (n : Nat) : Bulk := NMap.getD s.spi.bulk n {}
def State.setBulk (n : Nat) (b : Bulk) (s : State) : State := { s with spi := { s.spi with bulk := NMap.put s.spi.bulk n b } }
def bulkLine (out : Bool) (n : Nat) : Nat := 8 + 2 * n + b2n out

/-- A range lies in a bulk window's staging buffer. -/
def State.inBulk (s : State) (n a len : Nat) : Bool := decide (s.bulkAt n ≤ a ∧ a + len ≤ s.bulkAt n + 0x1000)

/-- The DMA moved bytes of a bulk window: once all 4 KiB are moved, an inbound window is empty and an outbound one full (R395). -/
def State.bulkMoved (n src dst len : Nat) (s : State) : State :=
  let b := s.bulk n
  let out := s.bulkOut n
  if !s.bulkEn n || b.full == out || !s.inBulk n (if out then dst else src) len then s
  else if b.moved + len < 4096 then s.setBulk n { b with moved := b.moved + len }
  else ((s.setBulk n { full := out, words := 0, moved := 0 }).deassertLine (bulkLine out n)).raise Reg.MSPI_ALERTSRC 0x40

/-- The drain of Tally moves on; the burst that carries the trailer ends it (R373). -/
def State.tallyMoved (src len : Nat) (s : State) : State :=
  let off := src - s.image.tallyStage
  if s.tally.pending && s.tally.staged && decide (s.image.tallyStage ≤ src ∧ off + len ≤ halfBytes) then
    if off + len = halfBytes then s.tallyDone
    else { s with tally := { s.tally with drained := s.tally.drained + len } }
  else s

/-- A burst serves its channel's line (R307, R308): the lines of the Ledger, of Tally and of the bulk windows stand until their sources
are done with them. -/
def State.serveLine (c : Nat) (s : State) : State :=
  let l := s.chLine c
  if s.chFree c ∨ l ≤ 1 ∨ l = 3 ∨ (8 ≤ l ∧ l ≤ 15) then s else s.deassertLine l

/-- The last write of a transfer is visible: write-back, HDMA_DONE, STOP (R311, Table 14.2). -/
def State.descDone (c idx : Nat) (bytes : List Byte) (s : State) : State :=
  match s.writeBack c idx bytes 1 with
  | (false, s1) => s1
  | (true, s1) =>
    let d := readDesc bytes
    let s2 := s1.setChan c { s1.chan c with cur := none }
    let s3 := if d.int then s2.raise Reg.HDMA_DONE (2 ^ c) else s2
    if d.stop then (s3.clearEn c).stopChan c else s3

/-- Issue one burst of a channel (R307). -/
def State.burst (c : Nat) (s : State) : State :=
  match (s.chan c).cur with
  | none => s
  | some (bytes, idx, moved) =>
    let d := readDesc bytes
    let n := burstLen (s.chBurst c) d.len d.src d.dst moved
    let s0 := if s.chPrio c then { s with dma := { s.dma with lastHigh := c } } else { s with dma := { s.dma with lastLow := c } }
    match s0.dmaRead c (d.src + moved) n with
    | (none, s1) => s1
    | (some (p, data), s1) =>
      match s1.dmaWrite c (d.dst + moved) data with
      | (none, s2) => s2
      | (some q, s2) =>
        let s3 := (s2.setChan c { s2.chan c with cur := some (bytes, idx, moved + n) }).serveLine c
        let s4 := (List.range 4).foldl (fun (s : State) w => s.bulkMoved w p q n) s3
        let s5 := if s4.chBound c 3 then s4.tallyMoved p n else s4
        if d.len ≤ moved + n then s5.descDone c idx bytes else s5

/-- DMA_BURST (R307): the channel whose turn it is. -/
def execDmaBurst (t channel : Nat) (s : State) : Host.Outcome State Fault Refusal :=
  let s1 := s.advanceTo t
  .next <| if s1.nextChannel = some channel then s1.burst channel else s1

/-! ### Kicks, requests, resume -/

/-- A write of HDMA_KICK (R311): channels read HDMA_CHEAD again; ignored after a halt. -/
def State.writeKick (o : Origin) (v : Word) (s : State) : State :=
  s.gateWrite o Reg.HDMA_KICK v (fun _ s =>
    if s.dma.halted then s
    else
      (List.range 32).foldl (fun (s : State) c =>
        if bit v c && (s.chan c).cur.isNone then
          let s1 := s.setChan c { s.chan c with idle := false }
          if s1.mayFetch c then s1.fetchDesc c else s
        else s) s)

/-- DMA_KICK (R311). -/
def execDmaKick (t : Nat) (o : Origin) (v : Word) (s : State) : Host.Outcome State Fault Refusal :=
  .next ((s.advanceTo t).writeKick o v)

/-- RESUME (R317): every enabled channel fetches afresh from its HDMA_CHEAD. -/
def State.resumeDma (s : State) : State :=
  if bit (s.reg Reg.ATPU_MSTATUS) 0 then s.ignored
  else if !s.dma.halted then s
  else
    let s1 := { s with dma := { s.dma with
      halted := false, chans := s.dma.chans.map (fun (p : Nat × Chan) => (p.1, { p.2 with idle := false })) } }
    s1.tallyRestart.record 0x8031 [s1.time.now - s1.dma.haltTick]

/-- A write of HDMA_GCTL (R317, R320): EN in Boot and Bench only. -/
def State.writeHdmaGctl (o : Origin) (v : Word) (s : State) : State :=
  s.gateWrite o Reg.HDMA_GCTL v (fun _ s =>
    let s1 :=
      if bit v 0 = bit (s.reg Reg.HDMA_GCTL) 0 then s
      else if s.md.mode = .boot ∨ s.md.mode = .bench then s.setReg Reg.HDMA_GCTL (v &&& 1)
      else s.ignored
    if bit v 1 then s1.resumeDma else s1)

/-- DMA_RESUME (R317). -/
def execDmaResume (t : Nat) (o : Origin) (v : Word) (s : State) : Host.Outcome State Fault Refusal :=
  .next ((s.advanceTo t).writeHdmaGctl o (v ||| 2))

/-- A write of HDMA_SWREQ (R308); ignored after a halt (R316). -/
def State.writeSwreq (o : Origin) (v : Word) (s : State) : State :=
  s.gateWrite o Reg.HDMA_SWREQ v (fun _ s =>
    if s.dma.halted then s
    else (List.range 32).foldl (fun (s : State) n => if bit v n then s.assertLine (32 + n) else s) s)

/-- SOFTWARE_REQUEST (R308). -/
def execSoftwareRequest (t : Nat) (o : Origin) (v : Word) (s : State) : Host.Outcome State Fault Refusal :=
  .next ((s.advanceTo t).writeSwreq o v)

/-! ### Channel registers -/

/-- A write of HDMA_CCTRL (R308, R314, R320). -/
def State.writeCctrl (o : Origin) (c : Nat) (v : Word) (s : State) : State :=
  s.gateWrite o (chReg Reg.HDMA_CCTRL0 c) v (fun _ s =>
    if bit v 0 && !bit v 2 && (List.range 32).any (fun d => d != c && s.chBound d (bits v 13 8)) then s.ignored
    else
      let b := bits v 19 16
      let ok := decide (6 ≤ b ∧ b ≤ 12)
      let was := s.chEn c
      let new := field (bits v 2 0) 2 0 ||| field (bits v 13 8) 13 8
        ||| field (if ok then b else bits (s.cctrl c) 19 16) 19 16
      let s1 := (if ok then s else s.ignored).setReg (chReg Reg.HDMA_CCTRL0 c) new
      if was && !bit v 0 then s1.stopChan c
      else if !was && bit v 0 then s1.setChan c { stopped := false, idle := false, cur := none }
      else s1)

/-- CHANNEL_DISABLE (R314). -/
def execChannelDisable (t : Nat) (o : Origin) (channel : Nat) (v : Word) (s : State) : Host.Outcome State Fault Refusal :=
  .next ((s.advanceTo t).writeCctrl o channel (v &&& ~~~ 1))

/-- CHANNEL_ENABLE (R314). -/
def execChannelEnable (t : Nat) (o : Origin) (channel : Nat) (v : Word) (s : State) : Host.Outcome State Fault Refusal :=
  .next ((s.advanceTo t).writeCctrl o channel (v ||| 1))

/-- A write of HDMA_CRING, HDMA_CBASE or HDMA_CHEAD needs STOPPED (R314). -/
def State.whileStopped (o : Origin) (a c : Nat) (v : Word) (act : State → State) (s : State) : State :=
  s.gateWrite o (chReg a c) v (fun _ s => if (s.chan c).stopped then act s else s.ignored)

def State.writeCring (o : Origin) (c : Nat) (v : Word) (s : State) : State :=
  s.whileStopped o Reg.HDMA_CRING0 c v (fun s =>
    let n := bits v 4 0
    if 4 ≤ n ∧ n ≤ 16 then s.setReg (chReg Reg.HDMA_CRING0 c) (field n 4 0) else s.ignored)

def State.writeCbaseLo (o : Origin) (c : Nat) (v : Word) (s : State) : State :=
  s.whileStopped o Reg.HDMA_CBASE_LO0 c v (fun s => s.stage o (chReg Reg.HDMA_CBASE_LO0 c) (v &&& fieldMask 31 5))

def State.writeCbaseHi (o : Origin) (c : Nat) (v : Word) (s : State) : State :=
  s.whileStopped o Reg.HDMA_CBASE_HI0 c v (fun s =>
    (s.setReg (chReg Reg.HDMA_CBASE_LO0 c) (s.staged o (chReg Reg.HDMA_CBASE_LO0 c))).setReg (chReg Reg.HDMA_CBASE_HI0 c)
      (v &&& fieldMask 15 0))

def State.writeChead (o : Origin) (c : Nat) (v : Word) (s : State) : State :=
  s.whileStopped o Reg.HDMA_CHEAD0 c v (fun s => s.setChead c (bits v 15 0))

/-! ### Window registers (Table 13.8) -/

/-- The window a path has selected. -/
def State.winSel (s : State) (o : Origin) : Nat := bits (s.pathReg o Reg.ATPU_WSEL) 5 0

def State.win (s : State) (n : Nat) : Win := NMap.getD s.dma.wins n {}

def State.updWin (n : Nat) (f : Win → Win) (s : State) : State :=
  { s with dma := { s.dma with wins := NMap.put s.dma.wins n (f (s.win n)) } }

/-- A write of ATPU_WCTRL. -/
def State.writeWctrl (o : Origin) (v : Word) (s : State) : State :=
  s.gateWrite o Reg.ATPU_WCTRL v (fun _ s =>
    s.updWin (s.winSel o) (fun w => { w with en := bit v 0, rd := bit v 1, wr := bit v 2 }))

/-- A write of the low half of a window quantity is staged (R11); bits [11:0] are reserved (R306). -/
def State.writeWinLo (o : Origin) (a : Nat) (v : Word) (s : State) : State :=
  s.gateWrite o a v (fun _ s => s.stage o a (v &&& fieldMask 31 12))

/-- A write of a high half commits base, limit or target. -/
def State.writeWinHi (o : Origin) (a : Nat) (v : Word) (s : State) : State :=
  s.gateWrite o a v (fun r s =>
    let q := join64 (s.staged o (a - 4)) (v &&& ~~~ r.reserved)
    s.updWin (s.winSel o) (fun w =>
      if a = Reg.ATPU_WBASE_HI then { w with base := q } else if a = Reg.ATPU_WLIM_HI then { w with lim := q } else { w with tgt := q }))

end Sys2Proof.Machine
end

