-- ==== Sys2Proof/Machine/Links.lean ====
section
/-!
DEFINITION. Gatable islands (R24 to R28), SerDes lanes and front-end ports (R24, R219, Table 2.8, R416), and the rebuild of poisoned map
and shared-grain lines (R292).
-/

namespace Sys2Proof.Machine

/-! ### Islands -/

/-- Resources of the Tide Table on an island; decompression lanes and dedup clusters are not booked (R26, R111). -/
def islandRes : IslandKind → Nat → List Nat
  | .channel, n => resChan n :: (List.range 16).map (fun d => resDie (16 * n + d))
  | .cmp, n => [resLane n]
  | .ciph, n => (groupPairs n).map resPair
  | .ddup, _ => []

/-- An island holds a booking in the idle slots behind now or in this one, or was used in them (R24, R26). -/
def State.islandBusy (s : State) (k : IslandKind) (n hold : Nat) : Bool :=
  let slot := slotOf s.time.now
  s.adm.bookings.any (fun b => !b.waits && (islandRes k n).contains b.res && decide (b.slot ≤ slot ∧ slot < b.slot + hold))
    || s.faults.used.any (fun x => x.1.1 == k && x.1.2 == n && decide (slot < x.2 + hold))
    || s.flash.erases.any (fun e => k == .channel && e.die / 16 == n && !e.suspended)

/-- ISLAND_GATE (R24, R25): idle for IDLE_HOLD slots; its awake bit reads 0 from the first tick of the 200. -/
def execIslandGate (t : Nat) (k : IslandKind) (index : Nat) (s : State) : Host.Outcome State Fault Refusal :=
  let s1 := s.advanceTo t
  let hold := s1.regField Reg.CLKP_CTRL 7 0
  .next <|
    if hold = 0 ∨ s1.islandAwake k index = false ∨ s1.islandBusy k index hold = true then s1
    else { s1 with faults := { s1.faults with
      awake := s1.faults.awake.filter (fun a => a != (k, index))
      gating := s1.faults.gating ++ [(k, index, s1.time.now)] } }

/-- The wake of an island in progress. -/
def State.wakeOf (s : State) (k : IslandKind) (n : Nat) : Option Nat :=
  (s.faults.waking.find? (fun w => w.1 == k && w.2.1 == n)).map (·.2.2)

/-- Take a wake out of those in progress. -/
def State.endWake (k : IslandKind) (n : Nat) (s : State) : State :=
  { s with faults := { s.faults with waking := s.faults.waking.filter (fun w => !(w.1 == k && w.2.1 == n)) } }

/-- ISLAND_READY (R25): the awake bit reads 1. -/
def execIslandReady (t : Nat) (k : IslandKind) (index : Nat) (s : State) : Host.Outcome State Fault Refusal :=
  let s1 := s.advanceTo t
  .next <| match s1.wakeOf k index with
    | none => s1
    | some _ =>
      let s2 := s1.endWake k index
      { s2 with faults := { s2.faults with awake := s2.faults.awake ++ [(k, index)] } }

/-- ISLAND_WAKE_LATE (R28): the latency has passed; the wake is tried again, and the fault counts toward retirement. -/
def execIslandWakeLate (t : Nat) (k : IslandKind) (index : Nat) (s : State) : Host.Outcome State Fault Refusal :=
  let s1 := s.advanceTo t
  .next <| match s1.wakeOf k index with
    | none => s1
    | some from_ =>
      if s1.time.now < from_ + wakeLatency k then s1
      else
        let s2 := s1.endWake k index
        let s3 := { s2 with faults := { s2.faults with waking := s2.faults.waking ++ [(k, index, s2.time.now)] } }
        let s4 := if k = .channel then s3.count (ctrChannel index 3) else s3
        (s4.raise Reg.CLKP_WAKE_LATE (wakeLateBit k)).fault (.island k index) 0xC010 (wakeLateBit k * 256 + index) [islandCode k, index]

/-! ### Lanes and ports -/

/-- The state of a lane: 0 down, 1 training, 2 up. -/
def State.lane (s : State) (l : Nat) : Nat := NMap.getD s.faults.lanes l 0

def State.setLane (l v : Nat) (s : State) : State :=
  { s with faults := { s.faults with lanes := NMap.put s.faults.lanes l v } }

/-- A lane's reference clock runs (Table 20.5). -/
def State.laneClock (s : State) (l : Nat) : Bool := if l < 16 then !s.time.sref0Lost else !s.time.sref1Lost

/-- Lanes of a front-end port by FEMODE (Table 10.1). -/
def State.portWidth (s : State) : Nat := 8 / 2 ^ s.regField Reg.IDM_CTRL 3 2

/-- The port of a front-end lane. -/
def State.portOfLane (s : State) (l : Nat) : Nat := l / s.portWidth

/-- Healthy lanes of a port's group, lowest first. -/
def State.groupLanes (s : State) (p : Nat) : List Nat :=
  ((List.range s.portWidth).map (s.portWidth * p + ·)).filter (fun l => !s.faults.retired.contains (.serdes l))

/-- The largest standard width a number of lanes can form; 0 for none. -/
def standardWidth (n : Nat) : Nat := if 8 ≤ n then 8 else if 4 ≤ n then 4 else if 2 ≤ n then 2 else n

/-- The lanes a port uses (R219). -/
def State.lanesOfPort (s : State) (p : Nat) : List Nat :=
  match NMap.find s.faults.portLanes p with
  | some ls => ls
  | none => (s.groupLanes p).take (standardWidth (s.groupLanes p).length)

/-- A front-end lane retired: its port restarts at the next smaller width, on the lowest healthy lanes, or stops (R219). -/
def State.restartPort (p : Nat) (s : State) : State :=
  let ls := (s.groupLanes p).take (standardWidth (s.groupLanes p).length)
  let all := (List.range s.portWidth).map (s.portWidth * p + ·)
  { s with faults := { s.faults with
    lanes := all.foldl (fun (m : NMap Nat) (l : Nat) => NMap.put m l (if ls.contains l then 1 else 0)) s.faults.lanes
    restarting := if ls.isEmpty then NMap.del s.faults.restarting p else NMap.put s.faults.restarting p ls
    portLanes := NMap.put s.faults.portLanes p ls } }

/-- A Decux lane retired: each Decux session sends again what it sent on that lane and has not seen acknowledged (R219). -/
def State.resendLane (l : Nat) (s : State) : State :=
  (s.idm.sessions.filter (fun p => p.2.port == 0xFF)).foldl (fun (s : State) (p : Nat × Session) =>
    (p.2.unacked.filter (fun u => u.lane == l)).foldl (fun (s : State) (u : Sent) => s.resend p.1 u.packet.psn) s) s

/-- A fault of a lane (Table 2.8): counted by its kind, 1 loss of lock, 2 FEC burst; no event is listed for the fault itself. -/
def State.laneFault_ (l kind : Nat) (s : State) : State :=
  let s1 := { s with faults := { s.faults with log := s.faults.log ++ [(.serdes l, kind, s.time.now)] } }
  if s.faults.retired.contains (.serdes l) then s1
  else if s1.regField Reg.GCTL_RETIRE 3 0 ≤ (s1.faultsOf (.serdes l) kind).length then
    let s2 := s1.retire (.serdes l)
    if l < 16 then s2.restartPort (s2.portOfLane l) else s2.resendLane (l - 16)
  else s1

/-- A retired lane that this power session has not retired is tried again as its port or link comes up (R416). -/
def State.laneTried (s : State) (l : Nat) : Bool :=
  !s.faults.retired.contains (.serdes l) || !s.faults.log.any (fun f => f.1 == .serdes l)

/-- LINK_TRAINING_START (R24): a lane of a front end that is up, with its clock there. -/
def execLinkTrainingStart (t lane : Nat) (s : State) : Host.Outcome State Fault Refusal :=
  let s1 := s.advanceTo t
  .next <|
    if s1.md.mode.frontEnd && decide (lane < 24) && s1.lane lane == 0 && s1.laneClock lane && s1.laneTried lane then s1.setLane lane 1
    else s1

/-- LINK_UP (R219, R416): training ends; a lane that was retired before this Boot and locks returns to service. -/
def execLinkUp (t lane : Nat) (locked : Bool) (s : State) : Host.Outcome State Fault Refusal :=
  let s1 := s.advanceTo t
  .next <|
    if s1.lane lane ≠ 1 then s1
    else if !locked then s1.setLane lane 0
    else
      let s2 := s1.setLane lane 2
      if s2.faults.retired.contains (.serdes lane) then
        let old := s2.budget
        (s2.returnUnit (.serdes lane)).recompute old
      else s2

/-- LINK_DOWN (R24): a lane goes down; a loss of lock is a fault of the lane, but for one its clock explains (Table 20.5). -/
def execLinkDown (t lane : Nat) (lossOfLock : Bool) (s : State) : Host.Outcome State Fault Refusal :=
  let s1 := s.advanceTo t
  .next <|
    if s1.lane lane = 0 then s1
    else
      let s2 := s1.setLane lane 0
      if !lossOfLock then s2
      else
        let s3 := s2.count (ctrSerdes lane 3)
        if s3.laneClock lane then s3.laneFault_ lane 1 else s3

/-- UNCORRECTABLE_FEC_BURST (Table 2.8). -/
def execUncorrectableFecBurst (t lane : Nat) (s : State) : Host.Outcome State Fault Refusal :=
  let s1 := s.advanceTo t
  .next <| if s1.lane lane = 0 then s1 else (s1.count (ctrSerdes lane 1)).laneFault_ lane 2

/-- PORT_RESTART_DONE (R219): the port is up on the lanes it restarted with. -/
def execPortRestartDone (t port : Nat) (s : State) : Host.Outcome State Fault Refusal :=
  let s1 := s.advanceTo t
  .next <| match NMap.find s1.faults.restarting port with
    | none => s1
    | some ls =>
      let s2 := ls.foldl (fun (s : State) (l : Nat) => s.setLane l 2) s1
      { s2 with faults := { s2.faults with restarting := NMap.del s2.faults.restarting port } }

/-! ### Lines lost to poison (R292) -/

/-- MAP_LINE_REBUILT: event 0x8005, and the units are known again. -/
def execMapLineRebuilt (t firstUnit units : Nat) (s : State) : Host.Outcome State Fault Refusal :=
  let s1 := s.advanceTo t
  let mine := fun (u : Nat) => decide (firstUnit ≤ u ∧ u < firstUnit + units)
  .next <|
    if s1.path.unknown.any mine then
      ({ s1 with path := { s1.path with unknown := s1.path.unknown.filter (fun u => !mine u) } }).record 0x8005 [firstUnit, units]
    else s1

/-- SGT_LINE_REBUILT: lookups that need the line find it again. -/
def execSgtLineRebuilt (t line : Nat) (s : State) : Host.Outcome State Fault Refusal :=
  let s1 := s.advanceTo t
  .next ({ s1 with ddup := { s1.ddup with lostLines := s1.ddup.lostLines.filter (· != line) } })

end Sys2Proof.Machine
end

