-- ==== Sys2Proof/Machine/Replication.lean ====
section
/-!
DEFINITION. Replication links (R272 to R280), C2h Replication Control (R285), and pods (R281 to R284).
-/

namespace Sys2Proof.Machine

/-! ### At a target -/

/-- The plaintext of a frame's grain, as a decompression lane makes it (R110, R274). -/
def framePlain (f : ReplFrame) : LaneDecode :=
  if f.sample && !f.comp then .streamError else decodeGrain f.comp f.sample f.geom f.grain f.payload

/-- Result of a frame before it is stored (R274, R275): 3 no accepted replica, 4 stale, 1 or 2 a payload that does not decode to the
grain as `lane` has it, 0 to store it. -/
def State.frameResult (s : State) (f : ReplFrame) (lane : LaneDecode) : Nat :=
  let replica := (s.ns? f.tvol).any (fun n => n.replica.isSome && n.served && decide (f.grain < 4 * n.units))
  let last := (NMap.find s.repl.replicas f.tvol).bind (fun m => NMap.find m f.grain)
  if !replica then 3
  else if last.any (fun a => decide (f.atick ≤ a)) then 4
  else if f.kind ≠ 1 then 0
  else
    match lane with
    | .ok p => if p.length = 16384 ∧ crc64 p = f.guard then 0 else 2
    | .expansion => 1
    | _ => 2

/-- A submission entry for a write of the device's own. -/
def ownEntry (opcode nsid : Nat) : Sqe :=
  { opcode := opcode, fuse := 0, cid := 0, nsid := nsid, dw4 := 0, dw5 := 0, dw6 := 0, dw7 := 0, dw8 := 0, dw9 := 0, dw10 := 0, dw11 := 0,
    dw12 := 0, dw13 := 0, dw14 := 0, dw15 := 0 }

/-- Store a frame's grain through this head's own write path, with the frame's ATICK (R274). -/
def State.storeFrame (session : Nat) (f : ReplFrame) (plain : List Byte) (s : State) : State :=
  let seq := s.adm.nextSeq
  let kind := f.kind - 1
  let op := if kind = 0 then opWrite else if kind = 1 then opZeroes else opDsm
  let (cm, geom, dd) := s.policies f.tvol
  let x : GrainOp := { newGrain f.grain 15 kind with
    dedup := if dd = 2 ∧ kind = 0 then .waiting else .skip, policy := cm, ddPolicy := dd, geom := geom }
  let w : WriteOp :=
    { seq := seq, cntl := replKey session, qid := b2n f.sync, dqn := 0, cid := f.fseq, kind := op, vol := f.tvol, slba := 4 * f.grain, nlb := 4,
      resv := none, d := 0, fetch := s.time.now, adm := s.time.now, pushed := true, acc := some f.atick
      sepoch := match s.ns? f.tvol with | some n => n.epoch | none => 0
      cmd := ownEntry op (f.tvol + 1), grains := [x], slack := 0, syncWait := [], syncGot := [], syncMiss := [], nonceOut := false }
  let s1 := { s with
    adm := { s.adm with writes := s.adm.writes ++ [w], nextSeq := seq + 1 }
    repl := { s.repl with replicas := NMap.put s.repl.replicas f.tvol (NMap.put (NMap.getD s.repl.replicas f.tvol []) f.grain f.atick) } }
  s1.formGrain seq f.grain plain f.apptag

/-- A commit frame (R276): applied once the grains of its set are stored. -/
def State.commitFrame (session : Nat) (f : ReplFrame) (s : State) : State :=
  if !(s.ns? f.tvol).any (fun n => n.replica.isSome && n.served) then s.emit (.frameAnswer session f.fseq 3)
  else if s.adm.writes.any (fun v => v.vol == f.tvol && decide (replKey 0 ≤ v.cntl)) then
    { s with repl := { s.repl with commits := NMap.put s.repl.commits f.tvol (session, f.fseq) } }
  else (s.commitView f.tvol).emit (.frameAnswer session f.fseq 0)

/-- REPLICATION_FRAME (R274, R275); `fault` is what a faulty lane made of the payload in place of what it decodes to (R111). -/
def execReplicationFrame (t session : Nat) (f : ReplFrame) (fault : Option LaneDecode) (s : State) : Host.Outcome State Fault Refusal :=
  let s1 := s.advanceTo t
  let on := (s1.session? session).any (fun x => x.purpose == 2 && x.state == 2)
  let lane := fault.getD (framePlain f)
  let plain := match lane with | .ok p => p | _ => []
  .next <|
    if !on || !s1.md.mode.admits || f.kind = 0 || 4 < f.kind then s1
    else if f.kind = 4 then s1.commitFrame session f
    else
      let r := s1.frameResult f lane
      if r = 0 then s1.storeFrame session f plain else s1.emit (.frameAnswer session f.fseq r)

/-! ### Sets at the source -/

/-- A replication snapshot of a volume (R276): its SNAPID, none where the volume has 1,024. -/
def State.replSnap (vol : Nat) (s : State) : Option Nat × State :=
  match s.ns? vol with
  | none => (none, s)
  | some n =>
    match firstFree 0 1024 (NMap.has n.snaps) with
    | none => (none, s)
    | some id => (some id, (s.takeSnap vol id true).tellPartner (.snapCreate vol id))

/-- A set is being sent to some target. -/
def Link.busy (l : Link) : Bool := l.targets.any (fun t => t.2.cur.isSome)

/-- Start set n for every target of a link (R276); where it cannot start, event 0x6305. -/
def State.startSet (i : Nat) (s : State) : Bool × State :=
  match NMap.find s.repl.links i with
  | none => (false, s)
  | some l =>
    if l.busy then (false, s.record 0x6305 [i])
    else
      match s.replSnap l.vol with
      | (none, s1) => (false, s1.record 0x6305 [i])
      | (some id, s1) =>
        (true, (s1.updLink i (fun l =>
          { l with setSeq := l.setSeq + 1, targets := l.targets.map (fun (t : Nat × Target) =>
              (t.1, { t.2 with state := 4, cur := some id, from_ := s1.time.now })) })).sendReady)

/-- REPLICATION_INTERVAL (R276); in management overload replication scheduling is postponed (R50). -/
def execReplicationInterval (t link : Nat) (s : State) : Host.Outcome State Fault Refusal :=
  let s1 := s.advanceTo t
  .next <| match NMap.find s1.repl.links link with
    | none => s1
    | some l =>
      if l.sync || !l.home || !s1.md.mode.admits || s1.md.overload || decide (s1.time.now < l.lastTick + l.interval * secondTicks) then s1
      else ((s1.updLink link (fun l => { l with lastTick := s1.time.now })).startSet link).2

/-- Snapshots in use by the targets of a link. -/
def Link.used (l : Link) : List Nat := l.targets.filterMap (fun t => t.2.base) ++ l.targets.filterMap (fun t => t.2.cur)

/-- A set has ended for a target: base snapshots no target uses go (R276), and an ACTION 5 command ends with the last target. -/
def State.setEnded (i : Nat) (s : State) : State :=
  match NMap.find s.repl.links i with
  | none => s
  | some l =>
    let gone := match s.ns? l.vol with
      | some n => (n.snaps.filter (fun (x : Nat × Snap) => x.2.repl && !x.2.reclaim && !l.used.contains x.1)).map (fun (x : Nat × Snap) => x.1)
      | none => []
    let s1 := gone.foldl (fun (s : State) (id : Nat) => s.tellPartner (.snapDelete l.vol id)) (s.dropReplSnaps l.vol l.used)
    match l.cmd with
    | some (c, e) => if l.busy then s1 else (s1.updLink i (fun l => { l with cmd := none })).completeAdmin c e 0 0 0
    | none => s1

/-- An ACTION 5 command fails with its set (R276). -/
def State.failCmd (i sct sc : Nat) (s : State) : State :=
  match (NMap.find s.repl.links i).bind (·.cmd) with
  | some (c, e) => (s.updLink i (fun l => { l with cmd := none })).completeAdmin c e sct sc 0
  | none => s

/-- A set is given up for a target (R276): event 0x6303 for RESULT 1 and 2; a resynchronisation starts again (R280). -/
def State.abandonSet (i j result : Nat) (l : Link) (s : State) : State :=
  let s1 := s.updTarget i j (fun t =>
    { t with flight := t.flight.filter (fun f => f.2.1.isSome), commitSeq := 0, cur := none, state := if l.sync then 1 else 3 })
  let s2 := if result = 3 then s1 else s1.record 0x6303 [i, j, result]
  (s2.failCmd i (if result = 1 then 7 else 0) (if result = 1 then 0x84 else 0x06)).setEnded i

/-- The commit of a set was applied (R276, R280). -/
def State.setCommitted (i j : Nat) (l : Link) (s : State) : State :=
  let s1 := s.updTarget i j (fun t =>
    { t with flight := t.flight.filter (fun f => f.2.1.isSome), commitSeq := 0, cur := none, setSeq := l.setSeq, lastCommit := s.time.now,
             base := if l.sync then none else t.cur, state := if l.sync then 0 else 3, marked := if l.sync then [] else t.marked })
  (if l.sync then s1.record 0x6302 [i, j, l.setSeq] else s1).setEnded i

/-- A result for a SYNC frame (R277, R279, R280). -/
def State.syncResult (i j seq unit result : Nat) (s : State) : State :=
  match s.target? i j with
  | none => s
  | some t =>
    if result = 0 ∨ result = 4 then
      if t.flight.any (fun f => f.2.1 == some seq) then s else (s.updWrite seq (WriteOp.heard j true)).checkWrites
    else
      let units := match s.write? seq with | some w => w.units | none => [unit]
      let s1 := if t.state = 2 then
          (s.updTarget i j (fun t => { t with cur := none, commitSeq := 0, flight := t.flight.filter (fun f => f.2.1.isSome) })).setEnded i
        else s
      ((s1.missTarget i j units).updWrite seq (WriteOp.heard j false)).checkWrites

/-- REPLICATION_RESULT (R275 to R280): the answer to a frame still in flight; another is discarded. -/
def execReplicationResult (t link target : Nat) (f : ReplFrame) (s : State) : Host.Outcome State Fault Refusal :=
  let s1 := s.advanceTo t
  .next <| match NMap.find s1.repl.links link, (s1.target? link target) with
    | some l, some x =>
      match x.flight.find? (fun y => y.1 == f.fseq) with
      | none => s1
      | some (_, owner, unit) =>
        let s2 := s1.updTarget link target (fun x => { x with flight := x.flight.filter (fun y => y.1 != f.fseq) })
        match owner with
        | some seq => s2.syncResult link target seq unit f.result
        | none =>
          if f.result = 0 ∨ f.result = 4 then
            if f.fseq = x.commitSeq then s2.setCommitted link target l else s2
          else s2.abandonSet link target f.result l
    | _, _ => s1

/-- SYNC_TARGET_DEADLINE (R279): a target that has not answered by T_D is missing; its late answer is discarded. -/
def execSyncTargetDeadline (t seq target : Nat) (s : State) : Host.Outcome State Fault Refusal :=
  let s1 := s.advanceTo t
  .next <| match s1.write? seq with
    | none => s1
    | some w =>
      if w.resv.isNone || !w.syncWait.contains target || decide (s1.time.now < w.deadline) then s1
      else
        match s1.repl.links.find? (fun p => decide (p.2.vol = w.vol) && p.2.sync && p.2.home) with
        | none => s1
        | some (i, _) =>
          let s2 := s1.updTarget i target (fun t => { t with flight := t.flight.filter (fun f => f.2.1 != some seq) })
          ((s2.missTarget i target w.units).updWrite seq (WriteOp.heard target false)).checkWrites

/-- Open the session to a peer where none is there (R273): false where no session can be had. -/
def State.callPeer (d : LinkDesc) (s : State) : Bool × State :=
  if s.idm.sessions.any (fun p => p.2.purpose == 2 && p.2.source == d.peer && p.2.state != 3) then (true, s)
  else
    let r := s.connectTo 2 0 d.peer d.keyid
    (r.1.isSome, r.2)

/-- TARGET_RESYNC_ATTEMPT (R276, R280): at once and every second until the session opens; then a resynchronisation of a target out of
sync starts with a snapshot, and a set that was interrupted is sent again. -/
def execTargetResyncAttempt (t link target : Nat) (opened : Bool) (s : State) : Host.Outcome State Fault Refusal :=
  let s1 := s.advanceTo t
  .next <| match NMap.find s1.repl.links link, s1.target? link target with
    | some l, some x =>
      let due := x.lastTry.all (fun a => decide (a + secondTicks ≤ s1.time.now))
      let wanted := (l.sync && x.state == 1) || (x.cur.isSome && x.commitSeq == 0)
      if !l.home || !s1.md.mode.admits || !wanted || !due then s1
      else
        let s2 := ((s1.callPeer x.desc).2).updTarget link target (fun x => { x with lastTry := some s1.time.now })
        if !opened || (s2.replSession x.desc).isNone then s2
        else if x.cur.isSome then s2.sendSet link target
        else
          match s2.replSnap l.vol with
          | (none, s3) => s3
          | (some id, s3) =>
            let s4 := s3.updLink link (fun l => { l with setSeq := l.setSeq + 1 })
            ((s4.updTarget link target (fun x =>
              { x with state := 2, cur := some id, from_ := s4.time.now, lastTry := none })).record 0x6302
                [link, target, l.setSeq + 1]).sendSet link target
    | _, _ => s1

/-! ### C2h (Table 12.4) -/

def c2Action (e : Sqe) : Nat := bits e.dw10 3 0
def c2Sync (e : Sqe) : Bool := bit e.dw10 4
def c2Target (e : Sqe) : Nat := bits e.dw10 9 8
def c2Link (e : Sqe) : Nat := bits e.dw10 31 16
def c2Interval (e : Sqe) : Nat := bits e.dw11 16 0

/-- A refusal of C2h (R285). -/
def State.refuseC2h (cntl : Nat) (e : Sqe) (code : Nat) (s : State) : State := (s.record 0x6304 [code]).completeAdmin cntl e 0 0x02 code

/-- The link a command names, of the volume its NSID names. -/
def State.linkOf (s : State) (e : Sqe) : Option Link :=
  (NMap.find s.repl.links (c2Link e)).bind (fun l => if l.vol = volOf e.nsid ∧ l.home then some l else none)

/-- The volume is the source of a link. -/
def State.isSource (s : State) (vol : Nat) : Bool := s.repl.links.any (fun p => p.2.vol == vol)

/-- The reservations hold F5 with a further synchronous target (R278). -/
def State.fitsTarget (s : State) (d : LinkDesc) : Bool :=
  fitsD s.fitArgs (max s.fitArgs.rt (ceilDiv (d.rtrip * 1000) 8192)) s.adm.resv

/-- The session of a new target (R273, R285): refused with 0x06 or 0x07, or with 85h where the sealing slot is at its limit. -/
def State.withPeer (cntl : Nat) (e : Sqe) (d : LinkDesc) (opened accepted : Bool) (act : State → State) (s : State) : State :=
  let spent := match NMap.find s.ciph.slots (keySlot d.keyid false) with
    | some k => k.exhausted || decide (k.limit ≤ k.ctr) | none => false
  if d.keyid = 0 ∨ !opened then s.refuseC2h cntl e 6
  else if spent then s.completeAdmin cntl e 7 0x85 0
  else
    match s.callPeer d with
    | (false, s1) => s1.refuseC2h cntl e 6
    | (true, s1) => if accepted then act s1 else s1.refuseC2h cntl e 7

/-- ACTION 0 (R272, R278, R285). A set that is full is refused before the number. -/
def State.linkCreate (cntl : Nat) (e : Sqe) (n : Ns) (d : LinkDesc) (opened accepted : Bool) (s : State) : State :=
  let id := c2Link e
  let mine := fun (i : Nat) => decide (i < 128) && (decide (i < 64) == n.home)
  let asked := s.moor.commits.any (fun k => match k.change with | .linkCreate i _ _ _ _ => i == (if id < 64 then id + 64 else id - 64) | _ => false)
  if 64 ≤ (s.repl.links.filter (fun p => mine p.1)).length then s.refuseC2h cntl e 3
  else if !mine id || NMap.has s.repl.links id || asked then s.refuseC2h cntl e 2
  else if s.isSource (volOf e.nsid) || n.replica.isSome then s.refuseC2h cntl e 4
  else if !c2Sync e && (c2Interval e = 0 || decide (86400 < c2Interval e)) then s.completeAdmin cntl e 0 0x02 0
  else s.withPeer cntl e d opened accepted (fun s =>
    if c2Sync e && !s.fitsTarget d then s.completeAdmin cntl e 7 0x80 7
    else s.propose (.linkCreate id (volOf e.nsid) (b2n (c2Sync e)) (c2Interval e) d) cntl e)

/-- ACTION 1. -/
def State.linkDelete (cntl : Nat) (e : Sqe) (s : State) : State :=
  if (s.linkOf e).isNone then s.refuseC2h cntl e 2 else s.propose (.linkDelete (c2Link e)) cntl e

/-- ACTION 2 (R272, R278). -/
def State.targetAdd (cntl : Nat) (e : Sqe) (d : LinkDesc) (opened accepted : Bool) (s : State) : State :=
  match s.linkOf e with
  | none => s.refuseC2h cntl e 2
  | some l =>
    if 4 ≤ l.targets.length then s.refuseC2h cntl e 5
    else s.withPeer cntl e d opened accepted (fun s =>
      if l.sync && !s.fitsTarget d then s.completeAdmin cntl e 7 0x80 7 else s.propose (.targetAdd (c2Link e) d) cntl e)

/-- ACTION 3. -/
def State.targetRemove (cntl : Nat) (e : Sqe) (s : State) : State :=
  match s.linkOf e with
  | none => s.refuseC2h cntl e 2
  | some l =>
    if NMap.has l.targets (c2Target e) then s.propose (.targetRemove (c2Link e) (c2Target e)) cntl e else s.refuseC2h cntl e 5

/-- ACTION 4 (R273): the volume becomes the replica of a source, with nothing committed yet. -/
def State.replicaAccept (cntl : Nat) (e : Sqe) (n : Ns) (d : LinkDesc) (s : State) : State :=
  let vol := volOf e.nsid
  if s.isSource vol || n.replica.isSome then s.refuseC2h cntl e 4
  else
    let s1 := s.updNs vol (fun n => { n with replica := some (d.pairId.toNat, d.linkid), frozen := NMap.put n.frozen viewKey [] })
    ({ s1 with repl := { s1.repl with replicas := NMap.put s1.repl.replicas vol [] } }).completeAdmin cntl e 0 0 0

/-- ACTION 5 (R276): the command ends with its set. A link that is synchronous has no sets; one whose set is being sent starts no other
(DESIGN CHOICE, log 26). -/
def State.sendNow (cntl : Nat) (e : Sqe) (s : State) : State :=
  match s.linkOf e with
  | none => s.refuseC2h cntl e 2
  | some l =>
    let spent := l.targets.any (fun t => match (s.replSession t.2.desc).bind (NMap.find s.idm.sessions) with
      | some x => (NMap.find s.ciph.slots (keySlot x.keyid x.phaseTx)).any (fun k => k.exhausted || decide (k.limit ≤ k.ctr))
      | none => false)
    if l.sync then s.refuseC2h cntl e 2
    else if spent then s.completeAdmin cntl e 7 0x85 0
    else
      match s.startSet (c2Link e) with
      | (true, s1) =>
        (s1.updLink (c2Link e) (fun l => { l with cmd := some (cntl, e) })).setEnded (c2Link e)
      | (false, s1) => s1.completeAdmin cntl e 0 0x0C 0

/-- The ACTION 6 result. -/
def linkBytes (id : Nat) (l : Link) : List Byte :=
  let four := fun (f : Target → Nat) (w : Nat) =>
    ((List.range 4).map (fun j => leBytes w (match NMap.find l.targets j with | some t => f t | none => 0))).flatten
  leBytes 2 id ++ leBytes 1 (b2n l.sync) ++ leBytes 1 l.targets.length ++ four (·.state) 1 ++ four (·.setSeq) 4
    ++ four (fun t => t.marked.length) 8 ++ leBytes 8 ((l.targets.map (fun t => t.2.lastCommit)).foldl max 0)

/-- ACTION 6. -/
def State.linkQuery (cntl : Nat) (e : Sqe) (s : State) : State :=
  match NMap.find s.repl.links (c2Link e) with
  | none => s.refuseC2h cntl e 2
  | some l => (s.adminData cntl e (linkBytes (c2Link e) l)).completeAdmin cntl e 0 0 0

/-- The ACTION 7 result. -/
def State.podBytes (s : State) : List Byte :=
  let mine := (List.range 256).filter (fun p => s.holder p == s.image.podSelf / 2)
  leBytes 8 s.image.podId ++ leBytes 4 s.repl.podEpoch ++ leBytes 1 (s.repl.master.getD 0xFF) ++ leBytes 1 (maskOf s.reachable)
    ++ leBytes 8 (maskOf s.volBlocks) ++ leBytes 32 (maskOf mine) ++ leBytes 10 0

/-- ACTION 7. -/
def State.podQuery (cntl : Nat) (e : Sqe) (s : State) : State := (s.adminData cntl e s.podBytes).completeAdmin cntl e 0 0 0

/-- Run C2h by its ACTION (R285). -/
def State.runC2h (cntl : Nat) (e : Sqe) (d : LinkDesc) (opened accepted : Bool) (s : State) : State :=
  if 7 < c2Action e then s.refuseC2h cntl e 1
  else if c2Action e = 7 then (if e.nsid = 0 then s.podQuery cntl e else s.completeAdmin cntl e 0 0x0B 0)
  else
    match s.featureNs e.nsid with
    | none => s.completeAdmin cntl e 0 0x0B 0
    | some n =>
      match c2Action e with
      | 0 => s.linkCreate cntl e n d opened accepted
      | 1 => s.linkDelete cntl e
      | 2 => s.targetAdd cntl e d opened accepted
      | 3 => s.targetRemove cntl e
      | 4 => s.replicaAccept cntl e n d
      | 5 => s.sendNow cntl e
      | _ => s.linkQuery cntl e

/-- An entry of a row: its ACTION is the row's, unless it is one that no action has, which is refused with code 0x01. -/
def withC2Action (a : Nat) (e : Sqe) : Sqe :=
  if 7 < c2Action e then { e with opcode := 0xC2 }
  else { e with opcode := 0xC2, dw10 := (e.dw10 &&& ~~~(0xF#32)) ||| BitVec.ofNat 32 a }

/-- A descriptor with every field 0. -/
def noDesc : LinkDesc := { peer := 0, nsid := 0, keyid := 0, rtrip := 0, pairId := 0, linkid := 0 }

def State.c2h (cntl a : Nat) (e : Sqe) (d : LinkDesc) (opened accepted : Bool) (s : State) : State :=
  s.admin cntl (withC2Action a e) false (State.runC2h cntl (withC2Action a e) d opened accepted)

/-- LINK_CREATE (R272). -/
def execLinkCreate (t cntl : Nat) (e : Sqe) (d : LinkDesc) (opened accepted : Bool) (s : State) : Host.Outcome State Fault Refusal :=
  .next ((s.advanceTo t).c2h cntl 0 e d opened accepted)

/-- LINK_DELETE (R272). -/
def execLinkDelete (t cntl : Nat) (e : Sqe) (s : State) : Host.Outcome State Fault Refusal :=
  .next ((s.advanceTo t).c2h cntl 1 e noDesc true true)

/-- TARGET_ADD (R272). -/
def execTargetAdd (t cntl : Nat) (e : Sqe) (d : LinkDesc) (opened accepted : Bool) (s : State) : Host.Outcome State Fault Refusal :=
  .next ((s.advanceTo t).c2h cntl 2 e d opened accepted)

/-- TARGET_REMOVE (R285). -/
def execTargetRemove (t cntl : Nat) (e : Sqe) (s : State) : Host.Outcome State Fault Refusal :=
  .next ((s.advanceTo t).c2h cntl 3 e noDesc true true)

/-- REPLICA_ACCEPT (R273). -/
def execReplicaAccept (t cntl : Nat) (e : Sqe) (d : LinkDesc) (s : State) : Host.Outcome State Fault Refusal :=
  .next ((s.advanceTo t).c2h cntl 4 e d true true)

/-- SEND_SET_NOW (R276). -/
def execSendSetNow (t cntl : Nat) (e : Sqe) (s : State) : Host.Outcome State Fault Refusal :=
  .next ((s.advanceTo t).c2h cntl 5 e noDesc true true)

/-- LINK_QUERY (R285). -/
def execLinkQuery (t cntl : Nat) (e : Sqe) (s : State) : Host.Outcome State Fault Refusal :=
  .next ((s.advanceTo t).c2h cntl 6 e noDesc true true)

/-- POD_QUERY (R285). -/
def execPodQuery (t cntl : Nat) (e : Sqe) (s : State) : Host.Outcome State Fault Refusal :=
  .next ((s.advanceTo t).c2h cntl 7 e noDesc true true)

/-! ### Pods -/

/-- POD_HEARTBEAT_SEND (R281): every 100 ms. -/
def execPodHeartbeatSend (t : Nat) (s : State) : Host.Outcome State Fault Refusal :=
  let s1 := s.advanceTo t
  let due := s1.repl.sentTick.all (fun a => decide (a + 100 * msTicks ≤ s1.time.now))
  .next <|
    if !s1.inPod || !s1.md.mode.frontEnd || !due then s1
    else ({ s1 with repl := { s1.repl with sentTick := some s1.time.now } }).emit (.heartbeat s1.repl.podEpoch s1.repl.master)

/-- POD_HEARTBEAT (R281, R282): a message of a lower pod epoch is ignored; the designated device takes mastership back from the master it
reaches. -/
def execPodHeartbeat (t device epoch masterView : Nat) (s : State) : Host.Outcome State Fault Refusal :=
  let s1 := s.advanceTo t
  .next <|
    if !s1.inPod || !s1.md.mode.frontEnd || decide (epoch < s1.repl.podEpoch) then s1
    else
      let s2 := { s1 with repl := { s1.repl with heard := NMap.put s1.repl.heard device s1.time.now } }
      let s3 := if s2.repl.podEpoch < epoch && decide (masterView < 8) then s2.setMaster masterView epoch else s2
      if s3.image.podSelf == s3.image.podDesignated && s3.repl.master == some device && device != s3.image.podSelf then
        s3.setMaster s3.image.podSelf (s3.repl.podEpoch + 1)
      else s3

/-- The first device of the succession order that may follow the master, as far as this device can tell: itself, or one it has heard. -/
def State.successor (s : State) (m : Nat) : Option Nat :=
  s.image.podOrder.find? (fun d => d / 2 != m / 2 && (d == s.image.podSelf || s.heardDevice d))

/-- MASTER_SILENCE (R282, R283): 500 ms without a heartbeat from either head of the master's pair. -/
def execMasterSilence (t : Nat) (s : State) : Host.Outcome State Fault Refusal :=
  let s1 := s.advanceTo t
  .next <| match s1.repl.master with
    | none => s1
    | some m =>
      let majority := decide (s1.image.podPairs.length < 2 * s1.reachable.length)
      if !s1.inPod || !s1.md.mode.frontEnd || m / 2 == s1.image.podSelf / 2 || s1.heardDevice m || s1.heardDevice (m / 2 * 2 + (1 - m % 2)) then s1
      else if !majority then ({ s1 with repl := { s1.repl with master := none } }).noMaster
      else if s1.successor m == some s1.image.podSelf then s1.setMaster s1.image.podSelf (s1.repl.podEpoch + 1)
      else s1

/-- PARTITION_HANDOVER (R284): the old holder records event 0x7103, and its index entries of the partition go with it. -/
def execPartitionHandover (t partition newPair : Nat) (s : State) : Host.Outcome State Fault Refusal :=
  let s1 := s.advanceTo t
  let mine := s1.holder partition == s1.image.podSelf / 2
  .next <|
    if !s1.inPod || decide (256 ≤ partition) || !s1.image.podPairs.contains newPair || s1.holder partition == newPair then s1
    else
      let s2 := { s1 with repl := { s1.repl with parts := NMap.put s1.repl.parts partition newPair } }
      if mine then
        (({ s2 with ddup := { s2.ddup with index := s2.ddup.index.filter (fun e => e.fp / 2 ^ 248 % 256 != partition) } }).record 0x7103
          [partition, newPair]).emit (.handover partition newPair)
      else s2

end Sys2Proof.Machine
end

