-- ==== Sys2Proof/Machine/Requests.lean ====
section
/-!
DEFINITION. Mode requests (R37, R358, R364, R365), Preservation's own checkpoint (R40), the watchdog (R39), power failure and Holdup (R41),
plan misses and overload (R31, R50, R51), Relay (R366), Slack exit (Table 17.7), Bench tests (R367), and the key fuses (R368).
-/

namespace Sys2Proof.Machine

/-! ### Slack and Relay requests -/

/-- Slack may be requested (Table 2.3, Table 20.5): no reservation, no command outstanding, and the crystal runs. -/
def State.slackReady (s : State) : Bool :=
  (s.md.mode == .join || s.md.mode == .sole) && s.adm.resv.isEmpty && s.adm.held.isEmpty && s.adm.writes.isEmpty
    && s.path.rcmds.isEmpty && s.nvq.ctrls.all (fun p => p.2.outstanding.isEmpty) && !s.time.xtalLost

/-- The inactive slot may be swapped in (R365): on trial, valid, and with the running image's sections but for the firmware. -/
def State.relaySlot (s : State) : Option Nat :=
  let i := 1 - s.bootBlock.active
  if slotStateOf s.bootBlock i = 2 ∧ s.slotCode i s.bootBlock.minSvn = 0 ∧ s.dataSections i = s.md.sections then some i else none

/-- Enter Relay (R365, R366): the new firmware goes to its carve-out, and the old copy to the buffers it was staged in. -/
def State.swapFirmware (bufs : List Nat) (new : List Byte) (s : State) : State :=
  let old := s.firmware
  let s1 := (State.fillBuffers bufs old s).putFirmware new
  { s1 with md := { s1.md with fwBufs := bufs, fwKept := old.length, fwLen := new.length, relayFrom := s1.md.mode } }.enterMode .relay 0x04

/-- The new firmware goes into the buffers taken for it, or the request is refused where there are too few. -/
def State.relayInto (new : List Byte) : Option (List Nat) × State → State
  | (some bufs, s1) => s1.swapFirmware bufs new
  | (none, s1) => s1.refuseMode 8

/-- A request for Relay (R365); one that fails its check, or finds no buffer to stage in, is refused. -/
def State.requestRelay (s : State) : State :=
  if s.md.mode ≠ .paired ∧ s.md.mode ≠ .sole then s.refuseMode 8
  else match s.relaySlot with
    | none => s.refuseMode 8
    | some i =>
      let new := s.sectionBytes i 1
      State.relayInto new (State.takeFirmware (ceilDiv (max new.length s.md.fwLen) fwBufSize) [] s)

/-- A request for Bench (R358, R361): at once with no image, at the end of image load before it, and refused after. -/
def State.requestBench (s : State) : State :=
  if s.md.mode ≠ .boot then s.refuseMode 0xB
  else if s.md.noImage then s.changeMode .bench 0x04
  else if s.md.bootStage ≤ 4 then { s with md := { s.md with benchReq := true } }
  else s.refuseMode 0xB

/-- What a mode request does (R37, Table 2.3). -/
def State.modeRequest (target : Nat) (s : State) : State :=
  match target with
  | 0x2 => if s.slackReady then s.enterSlack 0x04 else s.refuseMode 2
  | 0x3 =>
    if s.md.mode ≠ .slack then s.refuseMode 3
    else if s.md.wakeAt.isSome then s else { s with md := { s.md with wakeAt := some s.time.now } }
  | 0x8 => s.requestRelay
  | 0x9 => if s.md.mode.canPreserve then s.enterPreservation 0x04 else s.refuseMode 9
  | 0xA => if s.md.mode.canHoldup then s.enterHoldup 0x04 else s.refuseMode 0xA
  | 0xB => s.requestBench
  | n => s.refuseMode n

/-- A write of GCTL_MODE_REQ. -/
def State.writeModeReq (o : Origin) (v : Word) (s : State) : State :=
  s.gateWrite o Reg.GCTL_MODE_REQ v (fun _ s => s.modeRequest (bits v 3 0))

/-- MODE_REQ_SLACK (R37, R364). -/
def execModeReqSlack (t : Nat) (o : Origin) (v : Word) (s : State) : Host.Outcome State Fault Refusal :=
  .next ((s.advanceTo t).writeModeReq o (withBits v 3 0 0x2))

/-- MODE_REQ_JOIN (R37, Table 17.7): a wake from Slack. -/
def execModeReqJoin (t : Nat) (o : Origin) (v : Word) (s : State) : Host.Outcome State Fault Refusal :=
  .next ((s.advanceTo t).writeModeReq o (withBits v 3 0 0x3))

/-- MODE_REQ_RELAY (R365). -/
def execModeReqRelay (t : Nat) (o : Origin) (v : Word) (s : State) : Host.Outcome State Fault Refusal :=
  .next ((s.advanceTo t).writeModeReq o (withBits v 3 0 0x8))

/-- MODE_REQ_PRESERVATION (R39). -/
def execModeReqPreservation (t : Nat) (o : Origin) (v : Word) (s : State) : Host.Outcome State Fault Refusal :=
  .next ((s.advanceTo t).writeModeReq o (withBits v 3 0 0x9))

/-- MODE_REQ_HOLDUP (R41). -/
def execModeReqHoldup (t : Nat) (o : Origin) (v : Word) (s : State) : Host.Outcome State Fault Refusal :=
  .next ((s.advanceTo t).writeModeReq o (withBits v 3 0 0xA))

/-- MODE_REQ_BENCH (R358). -/
def execModeReqBench (t : Nat) (o : Origin) (v : Word) (s : State) : Host.Outcome State Fault Refusal :=
  .next ((s.advanceTo t).writeModeReq o (withBits v 3 0 0xB))

/-- MODE_REQ_OTHER (R37): any word, as written. -/
def execModeReqOther (t : Nat) (o : Origin) (v : Word) (s : State) : Host.Outcome State Fault Refusal :=
  .next ((s.advanceTo t).writeModeReq o v)

/-! ### Preservation and the watchdog -/

/-- PRESERVATION_CHECKPOINT (R40): every 10 s while the map changes, the recorder is flushed and a checkpoint written. -/
def execPreservationCheckpoint (t : Nat) (s : State) : Host.Outcome State Fault Refusal :=
  let s1 := s.advanceTo t
  .next <|
    if s1.md.mode == .preservation && s1.path.mapChanged && decide (s1.path.ckptTick + 10 * secondTicks ≤ s1.time.now) then
      (s1.checkpoint false).assertLine 2
    else s1

/-- A write of GCTL_WDOG. -/
def State.writeWdog (o : Origin) (v : Word) (s : State) : State :=
  s.gateWrite o Reg.GCTL_WDOG v (fun _ s => if bit v 0 then { s with md := { s.md with wdog := s.time.now } } else s)

/-- WATCHDOG_KICK (R39). -/
def execWatchdogKick (t : Nat) (o : Origin) (v : Word) (s : State) : Host.Outcome State Fault Refusal :=
  .next ((s.advanceTo t).writeWdog o (withBits v 0 0 1))

/-- WATCHDOG_EXPIRY (R39): 500 ms without service; not counted in Relay (R366), nor before the firmware is loaded. -/
def execWatchdogExpiry (t : Nat) (s : State) : Host.Outcome State Fault Refusal :=
  let s1 := s.advanceTo t
  .next <|
    if s1.md.mode != .relay && !s1.md.deferred && decide (s1.md.wdog + 500 * msTicks ≤ s1.time.now) then s1.enterPreservation 0x0C
    else s1

/-! ### Power failure and Holdup -/

/-- POWER_FAIL (R41, R404): PWR_FAIL_N is sampled low. -/
def execPowerFail (t : Nat) (s : State) : Host.Outcome State Fault Refusal :=
  let s1 := s.advanceTo t
  .next <|
    if !s1.time.running then s1
    else ({ s1 with md := { s1.md with pwrFailN := false } }).enterHoldup 0x09

/-- The landing stripes still open in flash terms are closed with parity and programmed, and with them every accepted record (Table 2.6). -/
def State.sealLanding (s : State) : State :=
  let s1 := (s.closeStripe .home).closeStripe .mirror
  let f := fun (x : Stripe) => match NMap.find s1.path.bands x.band with
    | some b =>
      if !b.dense && x.sealedAt.isNone then
        { x with closed := true, transferred := stripeStrips b x, programmed := stripeStrips b x, sealedAt := some s1.time.now }
      else x
    | none => x
  { s1 with path := { s1.path with stripes := s1.path.stripes.map f, formatted := s1.path.formatted || !s1.path.stripes.isEmpty } }.markSealed

/-- A Ledger program that Holdup still carries out. -/
def State.holdupProg (p : LdgProg) (s : State) : State :=
  let s1 := s.ldgStore p
  match ringOf p.addr with
  | some i => s1.ringProgrammed i p.addr p.bytes.length
  | none => s1

/-- Holdup's programs: those that run, those in line that Holdup permits (Table 16.3), and the recorder tail (R380). None starts
while VPP_LDG is below its range (R401). -/
def State.holdupLedger (s : State) : State :=
  if s.ldg.vppLow then s
  else
    let running := [s.ldg.bankA, s.ldg.bankB].filterMap (fun (k : Bank) => k.prog)
    let may := fun (p : LdgProg) => decide (ldgSector p.addr < 8) || decide (132 ≤ ldgSector p.addr)
    let line := s.progsInLine.filter (fun p => may p && !running.contains p)
    let s1 := (s.updBank 0 (fun k => { k with prog := none })).updBank 1 (fun k => { k with prog := none })
    let s2 := (running ++ line).foldl (fun (s : State) (p : LdgProg) => s.holdupProg p)
      { s1 with ldg := { s1.ldg with waiting := [] } }
    let tail := ((s2.rcdr.recs.filter (fun e => s2.rcdr.flushedTo < e.seq)).map eventBytes).flatten
    (s2.tailProgs tail).foldl (fun (s : State) (p : LdgProg) => s.holdupProg p) s2

/-- HOLDUP_COMPLETE (R41, Table 2.6): landing stripes, a checkpoint increment, the recorder tail, and Reset. -/
def execHoldupComplete (t : Nat) (s : State) : Host.Outcome State Fault Refusal :=
  let s1 := s.advanceTo t
  .next <|
    if s1.md.mode ≠ .holdup then s1
    else
      let s2 := (s1.sealLanding.checkpoint false).holdupLedger
      ({ s2 with md := { s2.md with holdupDone := true } }).enterReset 0x15 4

/-! ### Plan misses and overload -/

/-- Overload is declared (R50): the reservable total falls, and event 0x1300 says to what. -/
def State.declareOverload (s : State) : State :=
  let old := s.budget
  let s1 := ({ s with md := { s.md with overload := true, overloadFrom := windowOf s.time.now } }).recompute old
  s1.record 0x1300 [s1.md.missCount, s1.cRes]

/-- PLAN_MISS (R31, R50): the static policies run for this slot, and misses are counted in their horizon. -/
def execPlanMiss (t : Nat) (s : State) : Host.Outcome State Fault Refusal :=
  let s1 := s.advanceTo t
  .next <|
    if !s1.md.mode.canPreserve then s1
    else
      let w := windowOf s1.time.now
      let n := if s1.md.missWindow = w then s1.md.missCount + 1 else 1
      let s2 := { s1 with md := { s1.md with missWindow := w, missCount := n, staticSlot := some (slotOf s1.time.now) } }
      if !s2.md.overload && decide (s2.regField Reg.GCTL_OVERLOAD 7 0 ≤ n) then s2.declareOverload else s2

/-- OVERLOAD_CLEAR (R51): 128 consecutive horizons without a miss. -/
def execOverloadClear (t : Nat) (s : State) : Host.Outcome State Fault Refusal :=
  let s1 := s.advanceTo t
  .next <|
    if !s1.md.overload || decide (windowOf s1.time.now < s1.md.missWindow + 129) then s1
    else
      let old := s1.budget
      let s2 := ({ s1 with md := { s1.md with overload := false } }).recompute old
      s2.record 0x1301 [windowOf s1.time.now - s1.md.overloadFrom]

/-! ### The end of Relay (R366) -/

/-- The swap stands: back to the mode Relay came from, the slot is confirmed, and what Relay held runs (R34). -/
def State.commitRelay (s : State) : State :=
  let slot := 1 - s.bootBlock.active
  let svn := s.slotNat slot 8 4
  let ms := (s.time.now - s.md.tick) / msTicks
  let s1 := (s.endStaging.enterMode s.md.relayFrom 0x0E).confirmSlot slot svn
  let im := s1.image
  let s2 : State := { s1 with md := { s1.md with bootSlot := slot }, image := { im with svn := svn } }
  (s2.record 0x1400 [slot, ms]).runRelayHeld

/-- The swap is given up: the old firmware stays. -/
def State.abandonRelay (s : State) : State := ((s.relayOff 0x04).enterMode s.md.relayFrom 0x0E).runRelayHeld

/-- A write of GCTL_RELAY: outside Relay it does nothing, and with both bits set ABANDON counts (DESIGN CHOICE, log 29). -/
def State.writeRelay (o : Origin) (v : Word) (s : State) : State :=
  s.gateWrite o Reg.GCTL_RELAY v (fun _ s =>
    if s.md.mode ≠ .relay then s else if bit v 1 then s.abandonRelay else if bit v 0 then s.commitRelay else s)

/-- RELAY_COMMIT (R366). -/
def execRelayCommit (t : Nat) (o : Origin) (v : Word) (s : State) : Host.Outcome State Fault Refusal :=
  .next ((s.advanceTo t).writeRelay o (withBits v 0 0 1))

/-- RELAY_ABANDON (R366). -/
def execRelayAbandon (t : Nat) (o : Origin) (v : Word) (s : State) : Host.Outcome State Fault Refusal :=
  .next ((s.advanceTo t).writeRelay o (withBits v 1 1 1))

/-- RELAY_TIMEOUT (R39, R366, R417): neither bit within 2 s of entry. -/
def execRelayTimeout (t : Nat) (s : State) : Host.Outcome State Fault Refusal :=
  let s1 := s.advanceTo t
  .next <|
    if s1.md.mode == .relay && decide (s1.md.tick + 2 * secondTicks ≤ s1.time.now) then (s1.relayOff 0x0C).enterPreservation 0x0C
    else s1

/-! ### Slack exit -/

/-- SLACK_EXIT_DONE (Table 17.7): Join is entered with cause 0x0F, and the watchdog counts from there. -/
def execSlackExitDone (t : Nat) (s : State) : Host.Outcome State Fault Refusal :=
  let s1 := s.advanceTo t
  .next <|
    if s1.md.mode == .slack && s1.md.wakeAt.isSome then
      ({ s1 with md := { s1.md with wdog := s1.time.now, wakeAt := none } }).enterJoin 0x0F
    else s1

/-! ### Bench (R367) -/

/-- Number of targets of a test (Table 17.8); a test without a target takes any. 0 for a code that names no test. -/
def benchTargets (test : Nat) : Nat :=
  match test with
  | 1 | 2 => 24
  | 4 => 128
  | 5 => 16
  | 3 | 6 | 7 | 8 => 128
  | _ => 0

/-- A write of GCTL_BENCH_CTRL: TEST and TARGET are kept, and START starts the test or is ignored. -/
def State.writeBench (o : Origin) (v : Word) (s : State) : State :=
  s.gateWrite o Reg.GCTL_BENCH_CTRL v (fun r s =>
    let s1 := s.plainWrite o Reg.GCTL_BENCH_CTRL v r
    let test := bits v 3 0
    let target := bits v 14 8
    if !bit v 16 then s1
    else if s1.md.mode ≠ .bench ∨ s1.md.benchBusy = true ∨ benchTargets test ≤ target then s1.ignored
    else { s1 with md := { s1.md with
      benchBusy := true, benchPass := false, benchFail := false, benchErr := 0, benchTest := test, benchTarget := target } })

/-- BENCH_TEST_START (R367). -/
def execBenchTestStart (t : Nat) (o : Origin) (v : Word) (s : State) : Host.Outcome State Fault Refusal :=
  .next ((s.advanceTo t).writeBench o (withBits v 16 16 1))

/-- BENCH_TEST_DONE (R367): PASS with no error, FAIL with any (DEDUCED, log 29). -/
def execBenchTestDone (t errors : Nat) (s : State) : Host.Outcome State Fault Refusal :=
  let s1 := s.advanceTo t
  .next <|
    if s1.md.mode ≠ .bench ∨ s1.md.benchBusy = false then s1
    else
      let e := satTo 16 errors
      let s2 := { s1 with md := { s1.md with
        benchBusy := false, benchPass := decide (errors = 0), benchFail := decide (errors ≠ 0), benchErr := e } }
      s2.record 0x1500 [s1.md.benchTest, s1.md.benchTarget, e]

/-! ### Key fuses (R368) -/

/-- A write of GCTL_KEYHASHi stages four bytes of the hash. -/
def State.writeKeyhash (o : Origin) (a : Nat) (v : Word) (s : State) : State :=
  s.gateWrite o a v (fun _ s => { s with md := { s.md with keyHash := NMap.put s.md.keyHash ((a - Reg.GCTL_KEYHASH0) / 4) v } })

/-- The staged hash fused into a slot; a slot already enrolled stands, and the write is ignored. -/
def State.burnKey (slot : Nat) (s : State) : State :=
  if NMap.has s.md.enrolled slot then s.ignored
  else
    let hash := (List.range 12).map (fun i => NMap.getD s.md.keyHash i 0)
    ({ s with md := { s.md with enrolled := NMap.put s.md.enrolled slot hash } }).record 0xA206 [slot]

/-- A write of GCTL_KEYFUSE. -/
def State.writeKeyfuse (o : Origin) (v : Word) (s : State) : State :=
  s.gateWrite o Reg.GCTL_KEYFUSE v (fun _ s =>
    let s1 := { s.setField Reg.GCTL_KEYFUSE 9 8 (bits v 9 8) with md := { s.md with revoked := s.md.revoked ||| bits v 7 4 } }
    if bit v 10 then s1.burnKey (bits v 9 8) else s1)

/-- KEY_BURN (R368). -/
def execKeyBurn (t : Nat) (o : Origin) (v : Word) (s : State) : Host.Outcome State Fault Refusal :=
  .next ((s.advanceTo t).writeKeyfuse o (withBits v 10 10 1))

/-- KEY_REVOKE (R368). -/
def execKeyRevoke (t : Nat) (o : Origin) (v : Word) (s : State) : Host.Outcome State Fault Refusal :=
  .next ((s.advanceTo t).writeKeyfuse o v)

end Sys2Proof.Machine
end

