-- ==== Sys2Proof/Machine/Flags.lean ====
section
/-!
DEFINITION. Status registers and flags as they read: the value of every read-only field, computed from the state that decides it, by
register block (the register tables of spec/), and the reads that latch (R11, R76, R117, R137, R171, R191, R217, R245, R306, R335, R352).
-/

namespace Sys2Proof.Machine

/-- A field's contribution to a register value, cut to the field. -/
def place (v hi lo : Nat) : Nat := (v % 2 ^ (hi - lo + 1)) * 2 ^ lo

/-- A Boolean at a bit. -/
def flag (b : Bool) (n : Nat) : Nat := b2n b * 2 ^ n

/-- The numbers below `n` that a test accepts, as a bit mask. -/
def bitsWhere (n : Nat) (p : Nat → Bool) : Nat := maskOf ((List.range n).filter p)

/-- The low half of a 64-bit quantity as a number. -/
def low (v : Nat) : Nat := v % 2 ^ 32

/-- The high half of a 64-bit quantity as a number. -/
def high (v : Nat) : Nat := v / 2 ^ 32 % 2 ^ 32

/-! ### Clocks and time (Tables 1.7, 1.8) -/

def State.roClkp (s : State) (a : Nat) : Nat :=
  if a = Reg.CLKP_CMP_AWAKE then bitsWhere 32 (s.islandAwake .cmp)
  else if a = Reg.CLKP_MISC_AWAKE then
    place (bitsWhere 6 (s.islandAwake .ciph)) 5 0 + place (bitsWhere 8 (s.islandAwake .ddup)) 15 8
      + place (bitsWhere 4 s.engineAwake) 19 16
  else if Reg.CLKP_FCH_AWAKE0 ≤ a ∧ a < Reg.CLKP_FCH_AWAKE0 + 16 then
    bitsWhere 32 (fun n => s.islandAwake .channel (32 * ((a - Reg.CLKP_FCH_AWAKE0) / 4) + n))
  else 0

def State.roTbase (s : State) (a : Nat) : Nat :=
  if a = Reg.TBASE_NOW_LO then low s.time.now
  else if a = Reg.TBASE_NOW_HI then high s.time.now
  else if a = Reg.TBASE_STATE then flag s.slowClock 0 + flag s.moor.sync 1
  else if a = Reg.TBASE_PPS_LO then low s.time.pps
  else if a = Reg.TBASE_PPS_HI then high s.time.pps
  else 0

/-! ### Modes, boot, temperature (Tables 2.9, 17.9, 20.10) -/

/-- The stage GCTL_BOOT shows: 0xF with no image (Table 17.9). -/
def State.stageShown (s : State) : Nat := if s.md.noImage then 15 else s.md.bootStage

def State.roGctl (s : State) (a : Nat) : Nat :=
  let m := s.md
  if a = Reg.GCTL_MODE then m.mode.code + place m.prev.code 7 4 + place m.cause 15 8
  else if a = Reg.GCTL_MODE_TICK_LO then low m.tick
  else if a = Reg.GCTL_MODE_TICK_HI then high m.tick
  else if a = Reg.GCTL_OVERLOAD then flag m.overload 8
  else if a = Reg.GCTL_BOOT then
    place m.bootSlot 0 0 + flag m.fallback 1 + flag m.trial 2 + place s.stageShown 7 4 + place m.bootFail 15 8
  else if a = Reg.GCTL_BTICK_LO then low m.btick
  else if a = Reg.GCTL_BTICK_HI then high m.btick
  else if a = Reg.GCTL_RSTLOG then place m.rstSource 2 0
  else if a = Reg.GCTL_RSTFALL_LO then low m.rstFall
  else if a = Reg.GCTL_RSTFALL_HI then high m.rstFall
  else if a = Reg.GCTL_RSTRISE_LO then low m.rstRise
  else if a = Reg.GCTL_RSTRISE_HI then high m.rstRise
  else if a = Reg.GCTL_BUTTON then flag m.press.isSome 0 + flag m.failClosed 1 + place m.lastPress 31 16
  else if a = Reg.GCTL_RELAY then
    if m.mode = .relay then 4 + place (satTo 16 ((s.time.now - m.tick) / msTicks)) 31 16 else 0
  else if a = Reg.GCTL_BENCH_STAT then
    flag m.benchBusy 0 + flag m.benchPass 1 + flag m.benchFail 2 + place (satTo 16 m.benchErr) 31 16
  else if a = Reg.GCTL_KEYFUSE then bitsWhere 4 (NMap.has m.enrolled) + place m.revoked 7 4
  else if a = Reg.GCTL_TEMP then
    signedNat 8 s.elec.temp + place (match s.elec.tempMax with | some x => signedNat 8 x | none => 0x80) 15 8
      + place s.elec.sensor 19 16
  else if a = Reg.GCTL_THROT then flag s.elec.throttle 16
  else 0

/-! ### Admission (Table 3.10) -/

/-- The reservation a path has selected. -/
def State.resvSel (s : State) (o : Origin) : Option Resv := NMap.find s.adm.resv (bits (s.pathReg o Reg.ADM_RSEL) 8 0)

/-- USED and CREDIT of a reservation as they stand in the present window (R67). -/
def State.ruse (s : State) (r : Resv) : Nat := let x := r.refill (windowOf s.time.now); place x.used 15 0 + place x.credit 31 16

def State.roAdm (s : State) (o : Origin) (a : Nat) : Nat :=
  if a = Reg.ADM_CAP then let c := s.cResWith s.soleCap; place (satTo 16 c.1) 15 0 + place c.2 19 16
  else if a = Reg.ADM_FLASH then place (satTo 16 s.pAvail) 15 0 + place (satTo 16 (pageCost s.strp.k s.strp.m)) 31 16
  else if a = Reg.ADM_LOAD then place (satTo 16 (rHome s.adm.resv)) 15 0 + place (satTo 16 (rMirror s.adm.resv)) 31 16
  else if a = Reg.ADM_BURST then place (satTo 16 (bSum s.adm.resv)) 31 16
  else if a = Reg.ADM_DMIN then
    place (satTo 13 ((s.dMin false).getD (2 ^ 13))) 12 0 + place (satTo 13 ((s.dMin true).getD (2 ^ 13))) 28 16
  else if a = Reg.ADM_RINFO then
    match s.resvSel o with
    | some r => 1 + flag r.pull 1 + flag r.cut 2 + place r.dqn 31 16
    | none => 0
  else if a = Reg.ADM_HELD then satTo 16 s.adm.held.length
  else if a = Reg.ADM_SEQ_LO then low s.adm.nextSeq
  else if a = Reg.ADM_SEQ_HI then high s.adm.nextSeq
  else if a = Reg.ADM_STATUS then flag s.soleCap 0
  else 0

/-! ### Compression and dedup (Tables 5.6, 6.6) -/

/-- The unit a lane selection names: compression lanes 0 to 31, decompression lanes 32 to 47. -/
def laneUnit (n : Nat) : Option FUnit := if n < 32 then some (.clane n) else if n < 48 then some (.dlane (n - 32)) else none

/-- The lane a path has selected. -/
def State.laneSel (s : State) (o : Origin) : Nat := bits (s.pathReg o Reg.CMP_FSEL) 5 0

/-- Boot has ended: units that are healthy show from then on, and none in Reset (R117, R137). -/
def State.bootOver (s : State) : Bool :=
  !(s.md.mode == .reset || s.md.mode == .locked || s.md.mode == .boot || s.md.deferred)

/-- The island that clocks a lane is ready. -/
def State.laneAwake (s : State) (n : Nat) : Bool := s.islandAwake .cmp (if n < 32 then n else 2 * (n - 32))

def State.roCmp (s : State) (o : Origin) (a : Nat) : Nat :=
  if a = Reg.CMP_LANE_OK then bitsWhere 32 (fun n => s.bootOver && s.laneOk n)
  else if a = Reg.CMP_DLANE_OK then bitsWhere 16 (fun n => s.bootOver && s.dlaneOk n)
  else if a = Reg.CMP_FINFO then
    let n := s.laneSel o
    match laneUnit n with
    | some u => place (s.faultCount u) 3 0 + flag (!(if n < 32 then s.laneOk n else s.dlaneOk (n - 32))) 4 + flag (s.laneAwake n) 5
    | none => 0
  else if a = Reg.CMP_POLICY then
    match s.ns? (bits (s.pathReg o Reg.CMP_PSEL) 13 0) with
    | some n => place n.cmode 1 0 + (if n.cmode = 2 then place n.cw 8 4 + place n.cl 31 16 else 0)
    | none => 0
  else 0

def State.roDdup (s : State) (o : Origin) (a : Nat) : Nat :=
  if a = Reg.DDUP_CLUSTER_OK then bitsWhere 8 (fun n => s.bootOver && s.clusterOk n) + flag s.ddup.suspended 8
  else if a = Reg.DDUP_PPQ then satTo 25 s.ddup.ppq.length
  else if a = Reg.DDUP_SGT_USED then satTo 32 s.ddup.sgt.length
  else if a = Reg.DDUP_FILL then satTo 16 s.filterFill
  else if Reg.DDUP_PART0 ≤ a ∧ a < Reg.DDUP_PART0 + 32 then
    bitsWhere 32 (fun n => s.holder (32 * ((a - Reg.DDUP_PART0) / 4) + n) == s.ownPair)
  else if a = Reg.DDUP_POLICY then
    match s.ns? (bits (s.pathReg o Reg.DDUP_PSEL) 13 0) with
    | some n => place n.dedup 1 0 + place (satTo 11 (n.snaps.filter (fun x => !x.2.reclaim)).length) 26 16
    | none => 0
  else 0

/-! ### Flash (Tables 7.11, 7.12) -/

/-- The die model index of a channel's module. -/
def State.modelOf (s : State) (c : Nat) : Nat := (s.port (c / 8)).model

/-- A die leaves service by its own retirement or its channel's (R171). -/
def State.dieGone (s : State) (d : Nat) : Bool :=
  s.faults.retired.contains (.die d) || s.faults.retired.contains (.channel (d / 16)) || s.faults.retired.contains (.island .channel (d / 16))

/-- A die in use. -/
def State.dieUsed (s : State) (d : Nat) : Bool := s.flash.dies.contains d && !s.dieGone d

/-- FCH_CSTAT.STATE. -/
def State.chanState (s : State) (c : Nat) : Nat :=
  if s.faults.retired.contains (.channel c) || s.faults.retired.contains (.island .channel c) then 3
  else (NMap.getD s.flash.chans c (0, 0)).1

/-- Mean cycles of a die: dense and SLC. -/
def State.meanCycles (s : State) (d : Nat) : Nat × Nat := (s.meanOf true [d], s.meanOf false [d])

/-- The die a path has selected in a channel's window. -/
def State.dieSel (s : State) (o : Origin) (c : Nat) : Nat := 16 * c + bits (s.pathReg o (Reg.FCH_DSEL0 + 0x200 * c)) 3 0

/-- Percent of the bands that the patrol cycle covers and has read. -/
def State.patrolPercent (s : State) : Nat :=
  let todo := (s.path.bands.filter (fun p => !p.2.victim && s.path.stripes.any (fun x => x.band == p.1 && x.sealedAt.isSome))).length
  if todo = 0 then 0 else min 100 (100 * s.path.patrolDone.length / todo)

/-- A bucket of the temperature history (R169): the scope and bucket a path has selected. -/
def State.tempSel (s : State) (o : Origin) : Nat :=
  let w := s.pathReg o Reg.FCH_TSEL
  if bits w 4 0 ≤ 16 then NMap.getD s.flash.tempHist (16 * bits w 4 0 + bits w 11 8) 0 else 0

/-- The last valid checkpoint. -/
def State.lastCkpt (s : State) : Nat := ((s.path.ckpts.filter (·.valid)).map (·.seq)).foldl max 0

/-- A register of a channel's window, by its offset in the window. -/
def State.roChan (s : State) (o : Origin) (c off : Nat) : Nat :=
  let d := s.dieSel o c
  if off = 0 then
    s.chanState c + flag (s.islandAwake .channel c) 2 + place (s.modelOf c) 11 8
      + place (bitsWhere 16 (fun i => s.dieUsed (16 * c + i))) 31 16
  else if off = 4 then
    match s.portModel (c / 8) with
    | some m => (if s.chanState c = 2 then place m.rate 12 0 else 0) + place (satTo 16 m.tXfer) 31 16
    | none => 0
  else if off = 0xC then s.faultCount (.channel c)
  else if off = 0x14 then
    (if s.dieGone d then 2 else if s.flash.dies.contains d then 1 else 0) + place (s.faultCount (.die d)) 7 4
      + place (s.wearOf [d]) 15 8 + place (satTo 16 (s.badOf [d])) 31 16
  else 0

def State.roFch (s : State) (o : Origin) (a : Nat) : Nat :=
  if a = Reg.FCH_SPACE then satTo 16 s.minFree
  else if a = Reg.FCH_OVL then satTo 28 s.path.overlay.length
  else if a = Reg.FCH_HEALTH then place (satTo 8 s.spare) 7 0 + place (satTo 8 s.wear) 15 8 + place s.patrolPercent 23 16
  else if a = Reg.FCH_MAPUNITS then s.mapUnits
  else if a = Reg.FCH_TSEC_LO then low (s.tempSel o)
  else if a = Reg.FCH_TSEC_HI then place (high (s.tempSel o)) 15 0 + flag (decide (s.tempSel o = 2 ^ 48 - 1)) 16
  else if a = Reg.FCH_CKPT_SEQ_LO then low s.lastCkpt
  else if a = Reg.FCH_CKPT_SEQ_HI then high s.lastCkpt
  else s.roChan o ((a - Reg.FCH_CSTAT0) / 0x200) ((a - Reg.FCH_CSTAT0) % 0x200)

/-! ### Modules (Table 8.6) -/

/-- Four member ports of ORDER from index `from_` on, as nibbles. -/
def orderBits (order : List Nat) (from_ : Nat) : Nat :=
  ((List.range 8).map (fun i => order.getD (from_ + i) 0 % 16 * 16 ^ i)).sum

/-- The indicator of a port: 0 off, 1 on, 2 blink (R190). -/
def Port.led (p : Port) : Nat :=
  if p.state = 5 ∨ p.state = 7 then 1 else if p.state = 6 then 2 else 0

/-- The port a path has selected. -/
def State.portSel (s : State) (o : Origin) : Nat := bits (s.pathReg o Reg.STRP_MSEL) 3 0

/-- STRP_MINFO of a port. -/
def State.minfo (s : State) (p : Nat) : Nat :=
  let x := s.port p
  let i := s.strp.order.idxOf p
  place x.state 2 0 + flag x.present 3 + flag x.powered 4 + place x.led 6 5
    + place (bitsWhere 8 (fun l => s.channelReady (8 * p + l))) 15 8 + place x.model 19 16
    + place (if i < s.strp.order.length then i else 15) 23 20

def State.roStrp (s : State) (o : Origin) (a : Nat) : Nat :=
  let p := s.strp
  if a = Reg.STRP_SHAPE then place p.k 3 0 + place p.m 5 4 + place p.spares.length 9 8
  else if a = Reg.STRP_MEMBERS then portMask p.order + place (portMask p.spares) 31 16
  else if a = Reg.STRP_ORDER0 then orderBits p.order 0
  else if a = Reg.STRP_ORDER1 then orderBits p.order 8
  else if a = Reg.STRP_FAILED then portMask p.failed + place (portMask p.partialLoss) 31 16
  else if a = Reg.STRP_RB then
    match p.rebuild with
    | some r => 1 + place r.target 7 4 + place (if r.total = 0 then 100 else 100 * (r.total - r.left) / r.total) 15 8
    | none => 0
  else if a = Reg.STRP_RBLEFT_LO then low (match p.rebuild with | some r => r.left | none => 0)
  else if a = Reg.STRP_RBLEFT_HI then high (match p.rebuild with | some r => r.left | none => 0)
  else if a = Reg.STRP_RSH_STAT then
    (match p.reshape with
     | some r => 1 + flag (bit (s.reg Reg.STRP_RSH_CTRL) 0) 1 + place r.oldK 19 16 + place r.oldM 21 20
     | none => 0) + place p.refuse 15 8
  else if a = Reg.STRP_RSH_BOUND_LO then low (match p.reshape with | some r => r.bound | none => 0)
  else if a = Reg.STRP_RSH_BOUND_HI then high (match p.reshape with | some r => r.bound | none => 0)
  else if a = Reg.STRP_RSH_CKPT_LO then low (match p.reshape with | some r => r.sysBound | none => 0)
  else if a = Reg.STRP_RSH_CKPT_HI then high (match p.reshape with | some r => r.sysBound | none => 0)
  else if a = Reg.STRP_MINFO then s.minfo (s.portSel o)
  else 0

/-! ### Host queues (Table 9.12) -/

/-- The queue pair of a device queue number; its completion queue. -/
def State.sqSel (s : State) (o : Origin) : Option Sq := NMap.find s.nvq.sqs (bits (s.pathReg o Reg.NVQ_QSEL) 13 0)
def State.cqSel (s : State) (o : Origin) : Option Cq := NMap.find s.nvq.cqs (bits (s.pathReg o Reg.NVQ_QSEL) 13 0)

/-- Commands of a queue fetched and not completed. -/
def State.outstandingOf (s : State) (q : Sq) : Nat :=
  match NMap.find s.nvq.ctrls q.cntl with
  | some c => (c.outstanding.filter (fun x => x.1 == q.qid)).length
  | none => 0

/-- The push region of a queue's reservation stands (R212). -/
def State.pushSet (s : State) (dqn : Nat) : Bool :=
  s.adm.resv.any (fun p => p.2.dqn == dqn && dqn != 0 && p.2.pushSz != 0)

/-- NVQ_QDEPTH and NVQ_QPTR of the queue a path has selected. -/
def State.qdepth (s : State) (o : Origin) : Nat :=
  match s.sqSel o with
  | some q => place (q.size - 1) 15 0 + place (satTo 16 (s.outstandingOf q)) 31 16
  | none => 0

def State.qptr (s : State) (o : Origin) : Nat :=
  match s.sqSel o with
  | some q => place q.head 15 0 + place (match s.cqSel o with | some c => c.tail | none => 0) 31 16
  | none => 0

def State.roNvq (s : State) (o : Origin) (a : Nat) : Nat :=
  if a = Reg.NVQ_COUNT then
    place (s.nvq.sqs.filter (fun p => decide (p.1 < 16384))).length 13 0 + place s.nvq.ctrls.length 28 16
  else if a = Reg.NVQ_QINFO then
    match s.sqSel o with
    | some q =>
      1 + flag (s.resvOf q.dqn).isSome 1 + flag ((s.cqSel o).any (fun c => c.full)) 2 + flag (s.pushSet q.dqn) 3
        + place q.cntl 28 16
    | none => 0
  else if a = Reg.NVQ_DST then place s.nvq.testOp 3 0 + place s.nvq.testPercent 14 8
  else 0

/-! ### Transport (Tables 10.10, 10.11, 13.8) -/

/-- The session and the region a path has selected. -/
def State.sessionSel (s : State) (o : Origin) : Option Session := NMap.find s.idm.sessions (bits (s.pathReg o Reg.IDM_SSEL) 11 0)
def State.regionSel (s : State) (o : Origin) : Option Region := NMap.find s.idm.regions (bits (s.pathReg o Reg.ATPU_RSEL) 20 0)

def State.roIdm (s : State) (o : Origin) (a : Nat) : Nat :=
  if a = Reg.IDM_PORT then 47128
  else if a = Reg.IDM_LINK then
    place (bitsWhere 16 (fun n => s.lane n == 2)) 15 0 + place (bitsWhere 8 (fun n => s.lane (16 + n) == 2)) 23 16
  else if a = Reg.IDM_COUNT then
    place (satTo 13 (s.idm.sessions.filter (fun p => p.2.state == 2)).length) 12 0 + place (satTo 15 s.idm.queues.length) 30 16
  else if a = Reg.IDM_REGIONS then satTo 21 (s.idm.regions.filter (fun p => p.2.used)).length
  else if a = Reg.IDM_SINFO then
    match s.sessionSel o with
    | some x =>
      place x.state 1 0 + flag x.sealed 2 + flag x.cntl.isSome 3 + place x.purpose 6 4 + place x.wlog2 12 8
        + place (if x.port < 16 then x.port else 0xFF) 23 16
    | none => 0
  else 0

def State.roAtpu (s : State) (o : Origin) (a : Nat) : Nat :=
  let w := s.win (s.winSel o)
  if a = Reg.ATPU_RINFO then
    match s.regionSel o with
    | some r =>
      if r.used then
        1 + flag r.rd 1 + flag r.wr 2 + flag r.nt 3 + flag r.ondemand 4 + place r.gen 15 8 + place r.owner 27 16
      else 0
    | none => 0
  else if a = Reg.ATPU_ODUSED then satTo 24 s.idm.odUsed
  else if a = Reg.ATPU_ODBUDGET then satTo 24 s.image.odBudget
  else if a = Reg.ATPU_FAULT then place s.idm.faultIndex 20 0 + place s.idm.faultCode 27 24
  else if a = Reg.ATPU_WCTRL then flag w.en 0 + flag w.rd 1 + flag w.wr 2
  else if a = Reg.ATPU_WBASE_LO then low w.base
  else if a = Reg.ATPU_WBASE_HI then high w.base
  else if a = Reg.ATPU_WLIM_LO then low w.lim
  else if a = Reg.ATPU_WLIM_HI then high w.lim
  else if a = Reg.ATPU_WTGT_LO then low w.tgt
  else if a = Reg.ATPU_WTGT_HI then high w.tgt
  else if a = Reg.ATPU_MFAULT_LO then low s.dma.mfault
  else if a = Reg.ATPU_MFAULT_HI then place (high s.dma.mfault) 15 0
  else if a = Reg.ATPU_MFINFO then place s.dma.mfinfo 7 0
  else 0

/-! ### Pairing (Table 11.9) -/

/-- A vote of each voter as three bits. -/
def voterBits (vs : List Voter) (f : Voter → Bool) : Nat := bitsWhere 3 (fun i => (vs[i]?).any f)

def State.roMoor (s : State) (a : Nat) : Nat :=
  let m := s.moor
  if a = Reg.MOOR_STATE then
    flag m.dx.alive 0 + flag m.bp.alive 1 + flag m.wheld 2 + flag m.sync 3 + place m.pmode 7 4 + place m.head 8 8
  else if a = Reg.MOOR_LEASE_LO then low m.eOwn
  else if a = Reg.MOOR_LEASE_HI then high m.eOwn
  else if a = Reg.MOOR_PLEASE_LO then low m.eP
  else if a = Reg.MOOR_PLEASE_HI then high m.eP
  else if a = Reg.MOOR_EPOCH then m.epoch % 2 ^ 32
  else if a = Reg.MOOR_VOTE then
    voterBits m.voters (·.ok) + place (voterBits m.voters (·.fence)) 5 3 + place (voterBits m.voters (·.lostV)) 8 6
      + flag m.twoOfTwo 9
  else if a = Reg.MOOR_VDIS then
    satTo 8 (s.counter 14) + place (satTo 8 (s.counter 15)) 15 8 + place (satTo 8 (s.counter 16)) 23 16
  else if a = Reg.MOOR_DIRTY_LO then low m.dirty.length
  else if a = Reg.MOOR_DIRTY_HI then high m.dirty.length
  else if a = Reg.MOOR_SKEW then signedNat 16 (max (-32768) (min 32767 m.skew))
  else 0

/-! ### Memory and buffers (Table 13.7) -/

/-- The owner a path has selected. -/
def State.ownerSel (s : State) (o : Origin) : Nat := bits (s.pathReg o Reg.POOL_OSEL) 15 0

/-- Buffers an owner holds. -/
def State.heldBy (s : State) (w : Nat) : Nat := (s.mem.bufs.filter (fun p => p.2.owner == w)).length

def State.roPool (s : State) (o : Origin) (a : Nat) : Nat :=
  let w := s.ownerSel o
  let x := s.owner w
  let g := NMap.getD s.mem.grants (pathCode o) (0, 0, 0)
  if a = Reg.POOL_MEM then flag s.mem.ready 0 + flag s.mem.sramDone 1 + flag s.mem.hbmDone 2
  else if a = Reg.POOL_SPARE then place (satTo 16 s.mem.spareFree) 15 0 + place (satTo 16 s.mem.retiredPages.length) 31 16
  else if Reg.POOL_TOTAL0 ≤ a ∧ a < Reg.POOL_TOTAL0 + 40 then
    let p := (a - Reg.POOL_TOTAL0) / 8
    if (a - Reg.POOL_TOTAL0) % 8 = 0 then (match NMap.find s.mem.pools p with | some q => satTo 24 q.total | none => 0)
    else satTo 24 (s.poolFree p)
  else if Reg.POOL_STK0 ≤ a ∧ a < Reg.POOL_STK0 + 20 then
    match NMap.find s.mem.pools ((a - Reg.POOL_STK0) / 4) with
    | some q => place (satTo 14 q.stack.length) 13 0 + place (satTo 4 q.moving) 19 16
    | none => 0
  else if a = Reg.POOL_GRANT_LO then low g.1
  else if a = Reg.POOL_GRANT_HI then place (high g.1) 7 0 + place g.2.1 10 8 + place g.2.2 15 12
  else if a = Reg.POOL_OINFO then
    place (satTo 24 (s.heldBy w)) 23 0 + place x.oldest 27 24 + flag x.aged 28 + flag x.held 29
  else if a = Reg.POOL_OUSE then satTo 32 x.use
  else if a = Reg.POOL_OQUOTA then satTo 32 x.quota
  else if a = Reg.POOL_OFLOOR then satTo 32 x.floor
  else if a = Reg.POOL_OAGE then place x.age 3 0
  else 0

/-! ### DMA (Tables 14.3, 14.4) -/

def State.roHdma (s : State) (a : Nat) : Nat :=
  if a = Reg.HDMA_GSTAT then s.gstat
  else if a = Reg.HDMA_REQ_LO then bitsWhere 32 (fun n => s.dma.lines.contains n)
  else if a = Reg.HDMA_REQ_HI ∨ a = Reg.HDMA_SWREQ then bitsWhere 32 (fun n => s.dma.lines.contains (32 + n))
  else if a = Reg.HDMA_HALTTICK_LO then low s.dma.haltTick
  else if a = Reg.HDMA_HALTTICK_HI then high s.dma.haltTick
  else if Reg.HDMA_CSTAT0 ≤ a ∧ (a - Reg.HDMA_CSTAT0) % 0x20 = 0 then
    let x := s.chan ((a - Reg.HDMA_CSTAT0) / 0x20)
    flag x.stopped 0 + flag x.idle 1 + flag x.cur.isSome 2
  else 0

/-! ### Cipher (Table 15.2) -/

/-- The slot a path has selected. -/
def State.slotSel (s : State) (o : Origin) : Option Slot := NMap.find s.ciph.slots (bits (s.pathReg o Reg.CIPH_KSEL) 12 0)

/-- The pair a path has selected. -/
def State.pairSel (s : State) (o : Origin) : Nat := bits (s.pathReg o Reg.CIPH_FSEL) 4 0

def State.roCiph (s : State) (o : Origin) (a : Nat) : Nat :=
  if a = Reg.CIPH_LOCK then place s.ciph.lock 1 0
  else if a = Reg.CIPH_KSTAT then flag s.ciph.busy 0 + place s.ciph.result 7 4
  else if a = Reg.CIPH_KINFO then
    match s.slotSel o with
    | some k =>
      slotState (some k) + flag k.gcm 2 + place k.owner 4 3 + flag k.due 5 + flag k.exhausted 6 + place (satTo 16 k.refs) 31 16
    | none => 0
  else if a = Reg.CIPH_PAIR_OK then bitsWhere 32 s.pairOk
  else if a = Reg.CIPH_FINFO then
    let p := s.pairSel o
    place (s.faultCount (.pair p)) 3 0 + flag (!s.pairOk p) 4 + flag (s.islandAwake .ciph (pairGroup p)) 5
  else 0

/-! ### Ledger (Table 16.8) -/

/-- LDG_CINFO of a selection; one that names no sector reads 0 (R352). -/
def State.cinfo (s : State) (bank sec : Nat) : Nat :=
  if 263 ≤ sec then 0
  else
    let x := s.sector bank sec
    place (s.cyclesOf bank sec) 23 0 + flag x.worn 24 + flag x.pending 25

/-- WORN sectors of a bank. -/
def State.wornCount (s : State) (bank : Nat) : Nat := ((List.range 263).filter (fun i => (s.sector bank i).worn)).length

/-- Age of the erase under way in a bank, in ms (R345). -/
def State.eraseAge (s : State) (b : Nat) : Nat :=
  if (s.bank b).erase.isSome then satTo 32 ((s.time.now - (s.bank b).eraseStart) / msTicks) else 0

def State.roLdg (s : State) (o : Origin) (a : Nat) : Nat :=
  if a = Reg.LDG_MINRUN then 5000
  else if a = Reg.LDG_WSTAT then place s.ldg.wstat 3 0 + flag s.ldg.wbusy 4
  else if a = Reg.LDG_BSTAT0 ∨ a = Reg.LDG_BSTAT0 + 0x10 then
    let b := (a - Reg.LDG_BSTAT0) / 0x10
    place (s.bank b).state 2 0 + place (s.bankSector b) 16 8
  else if a = Reg.LDG_EAGE0 ∨ a = Reg.LDG_EAGE0 + 0x10 then s.eraseAge ((a - Reg.LDG_EAGE0) / 0x10)
  else if a = Reg.LDG_SUSPCNT0 ∨ a = Reg.LDG_SUSPCNT0 + 0x10 then satTo 16 (s.bank ((a - Reg.LDG_SUSPCNT0) / 0x10)).suspends
  else if a = Reg.LDG_CINFO then
    let w := s.pathReg o Reg.LDG_CSEL
    s.cinfo (bits w 9 9) (bits w 8 0)
  else if a = Reg.LDG_WORNCNT then place (s.wornCount 0) 8 0 + place (s.wornCount 1) 24 16
  else 0

/-! ### Tally and the recorder (Tables 18.7, 18.8) -/

/-- The live counter a path has selected; a reserved index reads 0 (R370). -/
def State.lvalSel (s : State) (o : Origin) : Nat :=
  let i := bits (s.pathReg o Reg.TALLY_LSEL) 17 0
  if counterReserved i then 0 else NMap.getD s.tally.live i 0

def State.roTally (s : State) (o : Origin) (a : Nat) : Nat :=
  let t := s.tally
  if a = Reg.TALLY_AT_LO then (s.pathReg o Reg.TALLY_AT_LO).toNat
  else if a = Reg.TALLY_AT_HI then (s.pathReg o Reg.TALLY_AT_HI).toNat
  else if a = Reg.TALLY_STATUS then flag t.done 0 + flag t.pending 1 + place t.half 4 4 + place t.cause 9 8
  else if a = Reg.TALLY_GEN then low t.gen
  else if a = Reg.TALLY_LTICK_LO then low t.ltick
  else if a = Reg.TALLY_LTICK_HI then high t.ltick
  else if a = Reg.TALLY_BUF_LO then low s.image.tallyBuf
  else if a = Reg.TALLY_BUF_HI then place (high s.image.tallyBuf) 7 0
  else if a = Reg.TALLY_LVAL_LO then low (s.lvalSel o)
  else if a = Reg.TALLY_LVAL_HI then place (high (s.lvalSel o)) 16 0
  else if a = Reg.TALLY_COUNT then tallyCount
  else 0

def State.roRcdr (s : State) (o : Origin) (a : Nat) : Nat :=
  if a = Reg.RCDR_NEWEST_LO then low s.rcdr.newest
  else if a = Reg.RCDR_NEWEST_HI then high s.rcdr.newest
  else if a = Reg.RCDR_OLDEST_LO then low s.oldestSeq
  else if a = Reg.RCDR_OLDEST_HI then high s.oldestSeq
  else if a = Reg.RCDR_UNFL then satTo 13 s.tailBytes
  else if a = Reg.RCDR_RSEQ_LO ∨ a = Reg.RCDR_RSEQ_HI ∨ a = Reg.RCDR_CLRSEQ_LO ∨ a = Reg.RCDR_CLRSEQ_HI then (s.pathReg o a).toNat
  else if a = Reg.RCDR_RINFO then (s.rinfo o).toNat
  else if a = Reg.RCDR_CLRNONCE then (NMap.getD s.rcdr.nonces (pathCode o) (0, 0)).1
  else 0

/-! ### Management SPI (Table 19.5) -/

def State.roMspi (s : State) (a : Nat) : Nat :=
  if a = Reg.MSPI_ERRADDR then s.spi.errAddr % 2 ^ 32
  else if a = Reg.MSPI_ID then 0x01B07128
  else if a = Reg.MSPI_ALERTSRC then flag s.md.noImage 0
  else if Reg.MSPI_BWSTAT0 ≤ a ∧ a < Reg.MSPI_BWSTAT0 + 32 ∧ (a - Reg.MSPI_BWSTAT0) % 8 = 0 then
    let n := (a - Reg.MSPI_BWSTAT0) / 8
    let b := s.bulk n
    flag b.full 0 + flag (s.dma.lines.contains (bulkLine (s.bulkOut n) n)) 1
      + place (if !s.bulkOut n then b.words else if b.full then 1024 - b.words else 0) 26 16
  else 0

/-! ### The value a register reads -/

/-- The bits of a register that no stored field holds. -/
def State.roBits (s : State) (o : Origin) (a : Nat) : Nat :=
  match a / 2 ^ 16 with
  | 0x00 => s.roGctl a
  | 0x01 => s.roTbase a
  | 0x02 => s.roTally o a
  | 0x03 => s.roRcdr o a
  | 0x04 => s.roMoor a
  | 0x05 => s.roLdg o a
  | 0x06 => s.roHdma a
  | 0x07 => s.roPool o a
  | 0x08 => s.roCiph o a
  | 0x09 => s.roAdm o a
  | 0x0A => s.roCmp o a
  | 0x0B => s.roFch o a
  | 0x0C => s.roStrp o a
  | 0x0D => s.roIdm o a
  | 0x0E => s.roNvq o a
  | 0x0F => s.roMspi a
  | 0x10 => s.roAtpu o a
  | 0x11 => s.roDdup o a
  | 0x12 => s.roClkp a
  | _ => 0

/-- Members of latched sets: registers a path reads as they were latched. -/
def setMember (a : Nat) : Bool :=
  [Reg.ADM_RRATE, Reg.ADM_RBURST, Reg.ADM_RDL, Reg.ADM_RUSE, Reg.CMP_FTICK_LO, Reg.CMP_FTICK_HI, Reg.STRP_MPART, Reg.NVQ_QDEPTH,
   Reg.NVQ_QPTR, Reg.IDM_SNEXT, Reg.IDM_SCUM, Reg.IDM_SIDLE, Reg.ATPU_RLEN_LO, Reg.ATPU_RLEN_HI, Reg.POOL_OUSE, Reg.POOL_OQUOTA,
   Reg.POOL_OFLOOR, Reg.CIPH_KCTR_LO, Reg.CIPH_KCTR_HI, Reg.CIPH_KLIM_LO, Reg.CIPH_KLIM_HI].contains a
  || decide (Reg.RCDR_RDATA0 ≤ a ∧ a < Reg.RCDR_RDATA0 + 128)
  || (a / 2 ^ 16 == 0x0B && [0x18, 0x1C, 0x20].contains (a % 0x200))

/-- High halves that a read of the low half latches for its path (R11). -/
def latchedHigh (a : Nat) : Bool :=
  [Reg.TBASE_NOW_HI, Reg.TBASE_PPS_HI, Reg.GCTL_MODE_TICK_HI, Reg.GCTL_BTICK_HI, Reg.GCTL_RSTFALL_HI, Reg.GCTL_RSTRISE_HI,
   Reg.ADM_SEQ_HI, Reg.FCH_TSEC_HI, Reg.FCH_CKPT_SEQ_HI, Reg.STRP_RBLEFT_HI, Reg.STRP_RSH_BOUND_HI, Reg.STRP_RSH_CKPT_HI,
   Reg.ATPU_WBASE_HI, Reg.ATPU_WLIM_HI, Reg.ATPU_WTGT_HI, Reg.ATPU_MFAULT_HI, Reg.MOOR_LEASE_HI, Reg.MOOR_PLEASE_HI,
   Reg.MOOR_DIRTY_HI, Reg.POOL_GRANT_HI, Reg.HDMA_REQ_HI, Reg.HDMA_HALTTICK_HI, Reg.TALLY_AT_HI, Reg.TALLY_LTICK_HI, Reg.TALLY_BUF_HI,
   Reg.TALLY_LVAL_HI, Reg.RCDR_NEWEST_HI, Reg.RCDR_OLDEST_HI, Reg.RCDR_RSEQ_HI, Reg.RCDR_CLRSEQ_HI].contains a
  || decide (Reg.HDMA_CBASE_HI0 ≤ a ∧ a < Reg.HDMA_CBASE_HI0 + 0x400 ∧ (a - Reg.HDMA_CBASE_HI0) % 0x20 = 0)

/-- Where a path keeps a latched high half: beside the half's own place, which holds what the path committed there. -/
def latchKey (hi : Nat) : Nat := hi + 1

/-- A register's present value on a path, before any latch: stored fields, and the fields the state decides. -/
def State.liveView (s : State) (o : Origin) (a : Nat) : Word :=
  match findReg a with
  | none => 0
  | some (r, _) =>
    if r.perPath then s.pathReg o a
    else (s.reg a &&& r.maskOf (fun x => x == .rw || x == .w1c)) ||| (BitVec.ofNat 32 (s.roBits o a) &&& r.maskOf (· != .wo))

/-- The value a read of a register returns on a path (R7, R8, R9, R11). -/
def State.regView (s : State) (o : Origin) (a : Nat) : Word :=
  if setMember a then s.pathReg o a else if latchedHigh a then s.pathReg o (latchKey a) else s.liveView o a

/-! ### Latching reads -/

/-- Keep a number for a path. -/
def State.keep (o : Origin) (a v : Nat) (s : State) : State := s.setPathReg o a (BitVec.ofNat 32 v)

/-- Keep a 64-bit number at two registers of a path. -/
def State.keep64 (o : Origin) (lo hi v : Nat) (s : State) : State := (s.keep o lo (low v)).keep o hi (high v)

/-- A read of ADM_RINFO (R76). -/
def State.latchRinfo (o : Origin) (s : State) : State :=
  let r := s.resvSel o
  let v := fun (f : Resv → Nat) => match r with | some x => f x | none => 0
  (((s.keep o Reg.ADM_RRATE (v (fun x => place x.rate 13 0))).keep o Reg.ADM_RBURST (v (fun x => place x.burst 13 0))).keep
    o Reg.ADM_RDL (v (fun x => place x.d 12 0))).keep o Reg.ADM_RUSE (v s.ruse)

/-- A read of CMP_FINFO (R117). -/
def State.latchFinfo (o : Origin) (s : State) : State :=
  s.keep64 o Reg.CMP_FTICK_LO Reg.CMP_FTICK_HI (match laneUnit (s.laneSel o) with | some u => s.lastFault u | none => 0)

/-- A read of FCH_DINFO in a channel's window (R171). -/
def State.latchDinfo (o : Origin) (c : Nat) (s : State) : State :=
  let d := s.dieSel o c
  let m := s.meanCycles d
  (s.keep o (Reg.FCH_DPE0 + 0x200 * c) (place (satTo 16 m.1) 15 0 + place (satTo 16 m.2) 31 16)).keep64 o
    (Reg.FCH_DFTICK_LO0 + 0x200 * c) (Reg.FCH_DFTICK_HI0 + 0x200 * c) (s.lastFault (.die d))

/-- A read of STRP_MINFO (R191). -/
def State.latchMinfo (o : Origin) (s : State) : State := s.keep o Reg.STRP_MPART (s.port (s.portSel o)).part

/-- A read of NVQ_QINFO (R217). -/
def State.latchQinfo (o : Origin) (s : State) : State := (s.keep o Reg.NVQ_QDEPTH (s.qdepth o)).keep o Reg.NVQ_QPTR (s.qptr o)

/-- A read of IDM_SINFO (R245). -/
def State.latchSinfo (o : Origin) (s : State) : State :=
  match s.sessionSel o with
  | some x =>
    ((s.keep o Reg.IDM_SNEXT x.nextPsn).keep o Reg.IDM_SCUM x.cum).keep o Reg.IDM_SIDLE
      (satTo 32 ((s.time.now - x.lastRx) / 1000))
  | none => ((s.keep o Reg.IDM_SNEXT 0).keep o Reg.IDM_SCUM 0).keep o Reg.IDM_SIDLE 0

/-- A read of ATPU_RINFO (R245). -/
def State.latchRegion (o : Origin) (s : State) : State :=
  s.keep64 o Reg.ATPU_RLEN_LO Reg.ATPU_RLEN_HI (match s.regionSel o with | some r => (if r.used then r.len else 0) | none => 0)

/-- A read of POOL_OINFO (R306). -/
def State.latchOinfo (o : Origin) (s : State) : State :=
  let x := s.owner (s.ownerSel o)
  ((s.keep o Reg.POOL_OUSE (satTo 32 x.use)).keep o Reg.POOL_OQUOTA (satTo 32 x.quota)).keep o Reg.POOL_OFLOOR (satTo 32 x.floor)

/-- A read of CIPH_KINFO (R335). -/
def State.latchKinfo (o : Origin) (s : State) : State :=
  let k := s.slotSel o
  (s.keep64 o Reg.CIPH_KCTR_LO Reg.CIPH_KCTR_HI (match k with | some x => x.ctr | none => 0)).keep64 o
    Reg.CIPH_KLIM_LO Reg.CIPH_KLIM_HI (match k with | some x => x.limit | none => 0)

/-- What a register read does beside returning its value: latches a set or a high half, and counts as the owner's access to the lock
(R333). -/
def State.readAct (o : Origin) (a : Nat) (s0 : State) : State :=
  let s := if a / 2 ^ 16 = 0x08 then s0.touchLock o else s0
  if a = Reg.ADM_RINFO then s.latchRinfo o
  else if a = Reg.CMP_FINFO then s.latchFinfo o
  else if a / 2 ^ 16 = 0x0B ∧ a % 0x200 = 0x14 then s.latchDinfo o ((a - Reg.FCH_DINFO0) / 0x200)
  else if a = Reg.STRP_MINFO then s.latchMinfo o
  else if a = Reg.NVQ_QINFO then s.latchQinfo o
  else if a = Reg.IDM_SINFO then s.latchSinfo o
  else if a = Reg.ATPU_RINFO then s.latchRegion o
  else if a = Reg.POOL_OINFO then s.latchOinfo o
  else if a = Reg.CIPH_KINFO then s.latchKinfo o
  else if a = Reg.RCDR_RINFO then s.latchRecord o
  else if latchedHigh (a + 4) then s.setPathReg o (latchKey (a + 4)) (s.liveView o (a + 4))
  else s

/-- A register read on an access path: its effect on the device (R9, R11, R43, R387). -/
def State.readReg (o : Origin) (a : Nat) (s : State) : State := s.gateRead o a (fun _ s => s.readAct o a)

/-! ### The rows -/

/-- LO_HALF_READ (R11). -/
def execLoHalfRead (t : Nat) (o : Origin) (addr : Nat) (s : State) : Host.Outcome State Fault Refusal :=
  .next ((s.advanceTo t).readReg o addr)

/-- ADM_RINFO_READ (R76). -/
def execAdmRinfoRead (t : Nat) (o : Origin) (s : State) : Host.Outcome State Fault Refusal :=
  .next ((s.advanceTo t).readReg o Reg.ADM_RINFO)

/-- CMP_FINFO_READ (R117). -/
def execCmpFinfoRead (t : Nat) (o : Origin) (s : State) : Host.Outcome State Fault Refusal :=
  .next ((s.advanceTo t).readReg o Reg.CMP_FINFO)

/-- DDUP_POLICY_READ (R137): the read returns the selected volume's values and keeps them for the path. -/
def execDdupPolicyRead (t : Nat) (o : Origin) (s : State) : Host.Outcome State Fault Refusal :=
  let s1 := s.advanceTo t
  .next (s1.gateRead o Reg.DDUP_POLICY (fun _ s => s.setPathReg o Reg.DDUP_POLICY (s.regView o Reg.DDUP_POLICY)))

/-- FCH_DINFO_READ (R171). -/
def execFchDinfoRead (t : Nat) (o : Origin) (channel : Nat) (s : State) : Host.Outcome State Fault Refusal :=
  .next ((s.advanceTo t).readReg o (Reg.FCH_DINFO0 + 0x200 * channel))

/-- STRP_MINFO_READ (R191). -/
def execStrpMinfoRead (t : Nat) (o : Origin) (s : State) : Host.Outcome State Fault Refusal :=
  .next ((s.advanceTo t).readReg o Reg.STRP_MINFO)

/-- NVQ_QINFO_READ (R217). -/
def execNvqQinfoRead (t : Nat) (o : Origin) (s : State) : Host.Outcome State Fault Refusal :=
  .next ((s.advanceTo t).readReg o Reg.NVQ_QINFO)

/-- IDM_SINFO_READ (R245). -/
def execIdmSinfoRead (t : Nat) (o : Origin) (s : State) : Host.Outcome State Fault Refusal :=
  .next ((s.advanceTo t).readReg o Reg.IDM_SINFO)

/-- ATPU_RINFO_READ (R245). -/
def execAtpuRinfoRead (t : Nat) (o : Origin) (s : State) : Host.Outcome State Fault Refusal :=
  .next ((s.advanceTo t).readReg o Reg.ATPU_RINFO)

/-- POOL_OINFO_READ (R306). -/
def execPoolOinfoRead (t : Nat) (o : Origin) (s : State) : Host.Outcome State Fault Refusal :=
  .next ((s.advanceTo t).readReg o Reg.POOL_OINFO)

/-- CIPH_KINFO_READ (R335). -/
def execCiphKinfoRead (t : Nat) (o : Origin) (s : State) : Host.Outcome State Fault Refusal :=
  .next ((s.advanceTo t).readReg o Reg.CIPH_KINFO)

/-- LDG_CINFO_READ (R352): the read returns the selected sector's values and keeps them for the path. -/
def execLdgCinfoRead (t : Nat) (o : Origin) (s : State) : Host.Outcome State Fault Refusal :=
  let s1 := s.advanceTo t
  .next (s1.gateRead o Reg.LDG_CINFO (fun _ s => s.setPathReg o Reg.LDG_CINFO (s.regView o Reg.LDG_CINFO)))

end Sys2Proof.Machine
end

