-- ==== Sys2Proof/Machine/Bus.lean ====
section
/-!
DEFINITION. A write on an access path, whatever its address: the register's own operation, or plain fields (R7, R8, R11), the memories
of Table 13.1 for a management core, and the bulk window controls (R396).
-/

namespace Sys2Proof.Machine

/-! ### Bulk window control (R395, R396) -/

/-- The line of a window stands as its content asks: a full inbound window, or an enabled empty outbound one (R395). -/
def State.bulkLines (n : Nat) (s : State) : State :=
  let out := s.bulkOut n
  let b := s.bulk n
  if (if out then s.bulkEn n && !b.full else b.full) then s.assertLine (bulkLine out n) else s.deassertLine (bulkLine out n)

/-- A write of MSPI_BWCTLn: EN = 0 or another DIR discards the content, leaves the window empty and deasserts its line (R396); the
enabled outbound window then asks for data (R395). -/
def State.writeBwctl (o : Origin) (n : Nat) (v : Word) (s : State) : State :=
  s.gateWrite o (Reg.MSPI_BWCTL0 + 8 * n) v (fun r s =>
    let s1 := if !bit v 0 || bit v 1 != s.bulkOut n then (s.setBulk n {}).deassertLine (bulkLine (s.bulkOut n) n) else s
    (s1.plainWrite o (Reg.MSPI_BWCTL0 + 8 * n) v r).bulkLines n)

/-- BULK_WINDOW_CONTROL (R396). -/
def execBulkWindowControl (t : Nat) (o : Origin) (n : Nat) (v : Word) (s : State) : Host.Outcome State Fault Refusal :=
  let s1 := s.advanceTo t
  .next (if 4 ≤ n then s1 else s1.writeBwctl o n v)

/-! ### Register writes -/

/-- Low halves whose write is only staged (R11). -/
def stagedLow (a : Nat) : Bool :=
  [Reg.TALLY_AT_LO, Reg.TALLY_LVAL_LO, Reg.RCDR_RSEQ_LO, Reg.RCDR_CLRSEQ_LO, Reg.POOL_FREE_LO].contains a

/-- Plain fields of a register. -/
def State.writePlain (o : Origin) (a : Nat) (v : Word) (s : State) : State := s.gateWrite o a v (State.plainWrite o a v)

/-- A 64-bit selection of a path commits at its high half (R11). -/
def State.writeSeqPair (o : Origin) (lo : Nat) (v : Word) (s : State) : State :=
  s.gateWrite o (lo + 4) v (fun _ s => s.setPair o lo (lo + 4) (join64 (s.staged o lo) v))

/-- Registers of the DMA channels (Table 14.4). -/
def State.writeChannel (o : Origin) (a : Nat) (v : Word) (s : State) : State :=
  let c := (a - Reg.HDMA_CCTRL0) / 0x20
  match (a - Reg.HDMA_CCTRL0) % 0x20 with
  | 0x00 => s.writeCctrl o c v
  | 0x04 => s.writeCring o c v
  | 0x08 => s.writeCbaseLo o c v
  | 0x0C => s.writeCbaseHi o c v
  | 0x10 => s.writeChead o c v
  | _ => s.writePlain o a v

/-- Registers of the key block (Table 15.2); an access of the lock's owner restarts the idle time (R333). -/
def State.writeCiph (o : Origin) (a : Nat) (v : Word) (s : State) : State :=
  if a = Reg.CIPH_LOCK then s.writeLock o v
  else if a = Reg.CIPH_KSEL then s.writeKsel o v
  else if a = Reg.CIPH_KCMD then s.writeKcmd o v
  else if a = Reg.CIPH_DEFSLOT then s.writeDefslot o v
  else if Reg.CIPH_KEY0 ≤ a ∧ a < Reg.CIPH_KEY0 + 64 ∧ a % 4 = 0 then s.writeKey o ((a - Reg.CIPH_KEY0) / 4) v
  else if a = Reg.CIPH_LIMSET_LO then s.writeLimLo o v
  else if a = Reg.CIPH_LIMSET_HI then s.writeLimHi o v
  else s.gateWrite o a v (fun r s => (s.touchLock o).plainWrite o a v r)

/-- Registers whose write is an operation of its own. -/
def State.writeOwn (o : Origin) (a : Nat) (v : Word) (s : State) : Option State :=
  if a = Reg.GCTL_MODE_REQ then some (s.writeModeReq o v)
  else if a = Reg.GCTL_WDOG then some (s.writeWdog o v)
  else if a = Reg.GCTL_RELAY then some (s.writeRelay o v)
  else if a = Reg.GCTL_BENCH_CTRL then some (s.writeBench o v)
  else if a = Reg.GCTL_KEYFUSE then some (s.writeKeyfuse o v)
  else if Reg.GCTL_KEYHASH0 ≤ a ∧ a < Reg.GCTL_KEYHASH0 + 48 ∧ a % 4 = 0 then some (s.writeKeyhash o a v)
  else if a = Reg.STRP_MODCMD then some (s.writeModcmd o v)
  else if a = Reg.STRP_FLOOR then some (s.writeFloor o v)
  else if a = Reg.STRP_RSH_REQ then some (s.writeReshape o v)
  else if a = Reg.POOL_REQ then some (s.writePoolReq o v)
  else if a = Reg.POOL_FREE_HI then some (s.writePoolFree o v)
  else if a = Reg.POOL_OQUOTA then some (s.writeQuota o v)
  else if a = Reg.POOL_OAGE then some (s.writeAge o v)
  else if a = Reg.MOOR_CMD then some (s.writeMoorCmd o v)
  else if a = Reg.TALLY_AT_HI then some (s.writeTallyAt o v)
  else if a = Reg.TALLY_LVAL_HI then some (s.writeLval o v)
  else if a = Reg.RCDR_RSEQ_HI then some (s.writeSeqPair o Reg.RCDR_RSEQ_LO v)
  else if a = Reg.RCDR_CLRSEQ_HI then some (s.writeSeqPair o Reg.RCDR_CLRSEQ_LO v)
  else if a = Reg.RCDR_CLRARM then some (s.writeClrArm o v)
  else if a = Reg.RCDR_CLRGO then some (s.writeClrGo o v)
  else if a = Reg.HDMA_GCTL then some (s.writeHdmaGctl o v)
  else if a = Reg.HDMA_KICK then some (s.writeKick o v)
  else if a = Reg.HDMA_SWREQ then some (s.writeSwreq o v)
  else if Reg.HDMA_CCTRL0 ≤ a ∧ a < Reg.HDMA_CCTRL0 + 0x400 then some (s.writeChannel o a v)
  else if a = Reg.ATPU_WCTRL then some (s.writeWctrl o v)
  else if a = Reg.ATPU_WBASE_LO ∨ a = Reg.ATPU_WLIM_LO ∨ a = Reg.ATPU_WTGT_LO then some (s.writeWinLo o a v)
  else if a = Reg.ATPU_WBASE_HI ∨ a = Reg.ATPU_WLIM_HI ∨ a = Reg.ATPU_WTGT_HI then some (s.writeWinHi o a v)
  else if Reg.MSPI_BWCTL0 ≤ a ∧ a < Reg.MSPI_BWCTL0 + 32 ∧ a % 8 = 0 then some (s.writeBwctl o ((a - Reg.MSPI_BWCTL0) / 8) v)
  else if a / 2 ^ 16 = 0x08 then some (s.writeCiph o a v)
  else if stagedLow a then some (s.gateWrite o a v (fun _ s => s.stage o a v))
  else none

/-- A register write on an access path (R7 to R11). -/
def State.writeReg (o : Origin) (a : Nat) (v : Word) (s : State) : State := (s.writeOwn o a v).getD (s.writePlain o a v)

/-! ### The internal address map (Table 13.1) -/

/-- A write by a management core outside the register space: SRAM, HBM (once filled, R289), the Ledger window, the boot ROM (R287);
anything else is a precise bus error, and the write does not land. In Reset and Locked the cores do not run. -/
def State.coreStore (a : Nat) (v : Word) (s : State) : State :=
  if s.md.mode = .reset ∨ s.md.mode = .locked then s
  else if inHbm a && !s.mem.hbmDone then s
  else if inMemory a 4 then s.memWrite a (leBytes 4 v.toNat)
  else if inLedger a 4 then s.windowWrite (a - ldgBase) (leBytes 4 v.toNat)
  else if inRom a 4 then s.ignored
  else s

/-- End of the register space (Table 0.5, Table 13.1). -/
def regSpaceEnd : Nat := 0x140000

/-- A 32-bit write on an access path; the cores and the agents on them use internal addresses (R304). -/
def State.busWrite (o : Origin) (a : Nat) (v : Word) (s : State) : State :=
  if regSpaceEnd ≤ a ∧ (o = .core ∨ o = .repl) then s.coreStore a v else s.writeReg o a v

/-- REGISTER_WRITE (R7). -/
def execRegisterWrite (t : Nat) (o : Origin) (addr : Nat) (v : Word) (s : State) : Host.Outcome State Fault Refusal :=
  .next ((s.advanceTo t).busWrite o addr v)

/-- HI_HALF_WRITE (R11): the high half commits with the staged low half. -/
def execHiHalfWrite (t : Nat) (o : Origin) (addr : Nat) (v : Word) (s : State) : Host.Outcome State Fault Refusal :=
  .next ((s.advanceTo t).busWrite o addr v)

/-- UNMAPPED_ACCESS (R9); an address that holds a register does not make this event (log 1). -/
def execUnmappedAccess (t : Nat) (o : Origin) (addr : Nat) (write : Bool) (s : State) : Host.Outcome State Fault Refusal :=
  let s1 := s.advanceTo t
  .next <|
    if (findReg addr).isSome && s1.md.mode != .locked then s1
    else if regSpaceEnd ≤ addr ∧ (o = .core ∨ o = .repl) then s1
    else if write then s1.gateWrite o addr 0 (fun _ s => s)
    else s1.gateRead o addr (fun _ s => s)

end Sys2Proof.Machine
end

