-- ==== Sys2Proof/Machine/Electrical.lean ====
section
/-!
DEFINITION. Power, clocks and temperature (20_electrical_package.md R401, R406, R410, R411), and the cold power-on (R354).
-/

namespace Sys2Proof.Machine

/-! ### Rails (R401) -/

/-- VPP_LDG in the order of Table 20.2, and its least voltage: 2.50 V less 5 %. -/
def railVpp : Nat := 8
def vppLeast : Nat := 2375

/-- RAIL_OUT_OF_RANGE (R401): with PWRGD high, event 0xC001 and the rail's bit of GCTL_RAIL. -/
def execRailOutOfRange (t rail millivolts : Nat) (s : State) : Host.Outcome State Fault Refusal :=
  let s1 := s.advanceTo t
  .next <|
    if 9 ≤ rail then s1
    else
      let s2 := { s1 with
        elec := { s1.elec with railsOut := s1.elec.railsOut ||| 2 ^ rail }
        ldg := { s1.ldg with vppLow := if rail = railVpp then decide (millivolts < vppLeast) else s1.ldg.vppLow } }
      if s2.md.pwrgd then (s2.raise Reg.GCTL_RAIL (2 ^ rail)).recordOnce 0xC001 rail [rail, millivolts] else s2

/-- RAIL_BACK_IN_RANGE (R401): what waited for VPP_LDG starts. -/
def execRailBackInRange (t rail : Nat) (s : State) : Host.Outcome State Fault Refusal :=
  let s1 := s.advanceTo t
  .next <|
    if s1.elec.railsOut / 2 ^ rail % 2 = 0 then s1
    else
      let s2 := { s1 with elec := { s1.elec with railsOut := s1.elec.railsOut - 2 ^ rail } }
      if rail = railVpp then ({ s2 with ldg := { s2.ldg with vppLow := false } }).pump else s2

/-! ### Clocks (Table 20.5) -/

/-- Lanes of one reference clock go down. -/
def State.lanesDown (decux : Bool) (s : State) : State :=
  let mine := fun (l : Nat) => decide (16 ≤ l) == decux
  { s with faults := { s.faults with
    lanes := s.faults.lanes.map (fun (p : Nat × Nat) => (p.1, if mine p.1 then 0 else p.2))
    restarting := if decux then s.faults.restarting else [] } }

/-- CLOCK_LOSS (R406), by the rows of Table 20.5: 0 REFCLK100 or its PLL, 1 SREFCLK0, 2 SREFCLK1, 3 XTAL32K. -/
def execClockLoss (t input : Nat) (s : State) : Host.Outcome State Fault Refusal :=
  let s1 := s.advanceTo t
  .next <|
    match input with
    | 0 =>
      if s1.time.refclkLost then s1
      else
        let s2 := if s1.md.mode = .reset then s1 else s1.enterReset 0x01 2
        ({ s2 with
          time := { s2.time with refclkLost := true }
          md := { s2.md with heldInReset := true } }).record 0xC020 [s2.time.now]
    | 1 =>
      if s1.time.sref0Lost then s1
      else (({ s1 with time := { s1.time with sref0Lost := true } }).lanesDown false).record 0xC021 [0, Config.itemCode 0xC021 0]
    | 2 =>
      if s1.time.sref1Lost then s1
      else (({ s1 with time := { s1.time with sref1Lost := true } }).lanesDown true).record 0xC021 [1, Config.itemCode 0xC021 0]
    | 3 =>
      if s1.time.xtalLost then s1
      else ({ s1 with time := { s1.time with xtalLost := true } }).record 0xC022 [s1.time.now]
    | _ => s1

/-- CLOCK_RESTORE (R406): a lost SerDes reference clock returns; its lanes may train again. -/
def execClockRestore (t input : Nat) (s : State) : Host.Outcome State Fault Refusal :=
  let s1 := s.advanceTo t
  .next <|
    if input = 1 ∧ s1.time.sref0Lost = true then
      ({ s1 with time := { s1.time with sref0Lost := false } }).record 0xC021 [0, Config.itemCode 0xC021 1]
    else if input = 2 ∧ s1.time.sref1Lost = true then
      ({ s1 with time := { s1.time with sref1Lost := false } }).record 0xC021 [1, Config.itemCode 0xC021 1]
    else s1

/-- REFCLK100_RESTORED (R406): the Reset that the loss held ends, if the pins are released. -/
def execRefclk100Restored (t : Nat) (s : State) : Host.Outcome State Fault Refusal :=
  let s1 := s.advanceTo t
  .next <|
    if !s1.time.refclkLost then s1
    else
      let s2 := { s1 with time := { s1.time with refclkLost := false }, md := { s1.md with heldInReset := false } }
      if s2.md.mode = .reset ∧ s2.md.rstN ∧ s2.md.pwrgd ∧ s2.md.pwrFailN ∧ s2.md.thermtripN then s2.leaveReset else s2

/-! ### PPS (R406) -/

/-- PPS_IN_EDGE: the rising edge is timestamped. -/
def execPpsInEdge (t : Nat) (s : State) : Host.Outcome State Fault Refusal :=
  let s1 := s.advanceTo t
  .next <| if s1.md.mode = .reset then s1 else { s1 with time := { s1.time with pps := s1.time.now } }

/-- Ticks since the last whole second: of the received time, or of the tide counter while no time-transmitter is heard. -/
def State.sinceSecond (s : State) : Nat :=
  (match s.time.ptp with | some (_, tick) => s.time.now - tick | none => s.time.now) % secondTicks

/-- PPS_OUT_EDGE: up at each whole second, down 100 ms later. -/
def execPpsOutEdge (t : Nat) (rise : Bool) (s : State) : Host.Outcome State Fault Refusal :=
  let s1 := s.advanceTo t
  .next <|
    if s1.md.mode = .reset ∨ s1.time.ppsOut = rise ∨ decide (s1.sinceSecond < 100 * msTicks) ≠ rise then s1
    else ({ s1 with time := { s1.time with ppsOut := rise } }).emit (.ppsOut rise)

/-! ### Temperature (R410, R411) -/

/-- Throttling (Table 20.7): on at THROT, off below THROT − HYST. -/
def State.throttling (c : Int) (s : State) : State :=
  let throt : Int := s.regField Reg.GCTL_THROT 7 0
  let hyst : Int := s.regField Reg.GCTL_THROT 11 8
  if !s.elec.throttle && decide (throt ≤ c) then
    ({ s with elec := { s.elec with throttle := true } }).record 0xC030 [c.toNat]
  else if s.elec.throttle && decide (c < throt - hyst) then
    ({ s with elec := { s.elec with throttle := false } }).record 0xC031 [signedNat 64 c]
  else s

/-- 125 °C (Table 20.7): Preservation with cause 0x0B, and event 0xC032 as the limit is reached. -/
def State.hotLimit (sensor : Nat) (c : Int) (reached : Bool) (s : State) : State :=
  if decide (c < 125) then s
  else
    let s1 := if reached || s.md.mode.canPreserve then s.record 0xC032 [sensor] else s
    s1.enterPreservation 0x0B

/-- 130 °C (Table 20.7, R411): THERMTRIP_N falls, and the device enters Reset as for PWRGD low; event 0xC033 is reported at the next
Boot. -/
def State.thermalTrip (sensor : Nat) (c : Int) (s : State) : State :=
  if decide (c < 130) then s
  else
    let s1 := s.enterReset 0x01 2
    ({ s1 with md := { s1.md with thermtripN := false } }).record 0xC033 [sensor, c.toNat]

/-- TEMPERATURE_READING (R410): the highest of the sixteen sensors and which one it is; the higher limits act with the lower ones. In
Reset there is no reading (log 32). -/
def execTemperatureReading (t sensor : Nat) (celsius : Int) (s : State) : Host.Outcome State Fault Refusal :=
  let s1 := s.advanceTo t
  .next <|
    if s1.md.mode = .reset then s1
    else
      let before := if s1.elec.tempMax.isSome then some s1.elec.temp else none
      let reached := before.all (fun b => decide (b < 125))
      let s2 := { s1 with elec := { s1.elec with
        temp := celsius, sensor := sensor
        tempMax := some (match s1.elec.tempMax with | some m => max m celsius | none => celsius) } }
      ((s2.throttling celsius).hotLimit sensor celsius reached).thermalTrip sensor celsius

/-! ### Power-on (R354) -/

/-- POWER_ON (R354): everything but the fuses, the Ledger and the flash is gone, the tide counter starts at 0 on the first always-on
edge, and the device is in Reset with cause Power-on. -/
def execPowerOn (_t : Nat) (s : State) : Host.Outcome State Fault Refusal :=
  let r := if s.md.mode = .reset then s else s.enterReset 0 0
  .next { r with
    time := { running := true }
    md := { makerFuse := r.md.makerFuse, enrolled := r.md.enrolled, revoked := r.md.revoked, powerCycles := r.md.powerCycles + 1,
            unsafeShutdowns := r.md.unsafeShutdowns, onTicks := r.md.onTicks + s.time.now, holdupDone := r.md.holdupDone }
    elec := {} }

end Sys2Proof.Machine
end

