-- ==== Sys2Proof/Machine/Spi.lean ====
section
/-!
DEFINITION. The management SPI target (19_management_spi.md): frames, header check and status byte (R386 to R390), word reads and writes
(R391, R392), framing faults (R393), the address map (R394) and the bulk windows as the host sees them (R395, R396).
-/

namespace Sys2Proof.Machine

/-! ### Header and status -/

/-- The CRC of a header: opcode and four address bytes (R388), most significant byte first. -/
def headerCrc (opcode addr : Nat) : Byte := crc8 (leBytes 1 opcode ++ beBytes 4 addr)

/-- The CRC of a word (R388). -/
def wordCrc (w : Word) : Byte := crc8 (beBytes 4 w.toNat)

/-- The Ledger window of Table 19.4. -/
def spiLedger (a : Nat) : Bool := decide (0x80000000 ≤ a ∧ a < 0x84000000)

/-- A header that is not rejected (R389). -/
def spiHeaderOk (opcode addr : Nat) (hcrc : Byte) : Bool :=
  hcrc == headerCrc opcode addr &&
    (match opcode with
     | 0x02 | 0x03 => addr % 4 == 0
     | 0x05 => true
     | 0x06 => spiLedger addr
     | _ => false)

/-- The status byte (Table 19.2); in Reset HDR_OK and MODE are 0 (R387). -/
def State.spiStatus (s : State) (ok : Bool) : Nat :=
  if s.md.mode = .reset then 64 * b2n s.spi.prevOk
  else 128 * b2n ok + 64 * b2n s.spi.prevOk + 32 * b2n s.alertLow + s.md.mode.code

/-- A framing or header fault: its MSPI_STATUS bit, the SPIERR alert source, and PREV_OK of the next frame (Tables 19.2, 19.5). -/
def State.spiErr (mask : Nat) (s : State) : State :=
  let s1 := (s.raise Reg.MSPI_STATUS mask).raise Reg.MSPI_ALERTSRC 0x80
  { s1 with spi := { s1.spi with prevOk := false } }

/-- The address of a discarded word (MSPI_ERRADDR). -/
def State.spiErrAddr (a : Nat) (s : State) : State := { s with spi := { s.spi with errAddr := a } }

/-- A frame begins: it ends well unless something of R393 happens. -/
def State.spiBegin (s : State) : State := { s with spi := { s.spi with prevOk := true } }

/-- A frame around its body: in Reset it is ignored (R387), with a rejected header it is ignored to its end (R389). -/
def State.spiFrame (opcode addr : Nat) (hcrc : Byte) (body : State → State × List (Word × Byte)) (s : State) : State :=
  if s.md.mode = .reset then s.emit (.spi (s.spiStatus false) [])
  else if !spiHeaderOk opcode addr hcrc then (s.spiErr 8).emit (.spi (s.spiStatus false) [])
  else
    let (s1, ws) := body s.spiBegin
    s1.emit (.spi (s.spiStatus true) ws)

/-! ### Regions (Table 19.4) -/

/-- The bulk window an address lies in. -/
def bulkOf (a : Nat) : Option Nat := if 0x40000000 ≤ a ∧ a < 0x40004000 then some ((a - 0x40000000) / 0x1000) else none

/-- End of the region an address lies in; the gaps between the regions count as regions of their own (log 31). -/
def regionEnd (a : Nat) : Nat :=
  if a < 0x140000 then 0x140000
  else if a < 0x40000000 then 0x40000000
  else if a < 0x40004000 then a / 0x1000 * 0x1000 + 0x1000
  else if a < 0x80000000 then 0x80000000
  else if a < 0x84000000 then 0x84000000
  else 2 ^ 32

/-! ### Bulk windows, host side (R395, R396) -/

/-- A write word to a bulk window: discarded with BWBUSY while an inbound window is full or the window is disabled (log 31). -/
def State.bulkWrite (n off : Nat) (w : Word) (s : State) : State :=
  let b := s.bulk n
  if !s.bulkEn n || (b.full && !s.bulkOut n) then s.raise Reg.MSPI_STATUS 0x10
  else
    let s1 := s.memWrite (s.bulkAt n + off) (leBytes 4 w.toNat)
    if s.bulkOut n then s1
    else if off = 0xFFC then (s1.setBulk n { full := true, words := 1024, moved := 0 }).bulkLines n
    else s1.setBulk n { b with words := min 1023 (b.words + 1) }

/-- A read word of a bulk window: an empty outbound window reads 0 with BWEMPTY; the word at 0xFFC empties it (R395). The flag says that
the read met poison. -/
def State.bulkRead (n off : Nat) (s : State) : Word × Bool × State :=
  let b := s.bulk n
  if s.bulkOut n && !b.full then (0, false, s.raise Reg.MSPI_STATUS 0x20)
  else
    let a := s.bulkAt n + off
    let s1 :=
      if !s.bulkOut n then s
      else if off = 0xFFC then (s.setBulk n {}).bulkLines n
      else s.setBulk n { b with words := min 1023 (b.words + 1) }
    if (s.poisonedIn a 4).isSome then (0, true, s1) else (BitVec.ofNat 32 (leNat (s.memBytes a 4)), false, s1)

/-! ### Words -/

/-- Fetch one word (R391): its value, whether it met poison, and the effects of the read. Outside the map an address is unmapped (R394),
and so is what Locked does not serve (R43). -/
def State.spiFetch (a : Nat) (s : State) : Word × Bool × State :=
  if s.md.mode = .locked ∨ a < regSpaceEnd then
    (if s.md.mode = .locked && !lockedRead .spi a then 0 else s.regView .spi a, false, s.readReg .spi a)
  else
    match bulkOf a with
    | some n => s.bulkRead n (a % 0x1000)
    | none =>
      if spiLedger a then
        let o := a - 0x80000000
        if s.ldgBusy o then (0, false, s.busyRead o (pathItem 0xA100 .spi))
        else (BitVec.ofNat 32 (leNat (s.ldgBytes o 4)), false, s)
      else (0, false, s.unmapped)

/-- Store one word (R392, R394). -/
def State.spiStore (a : Nat) (w : Word) (s : State) : State :=
  if s.md.mode = .locked ∨ a < regSpaceEnd then s.writeReg .spi a w
  else
    match bulkOf a with
    | some n => s.bulkWrite n (a % 0x1000) w
    | none => if spiLedger a then s.windowWrite (a - 0x80000000) (leBytes 4 w.toNat) else s.unmapped

/-- Read words from an address up: at a region's end the clocks are extra (R393). A word that met poison carries its CRC inverted. -/
def State.spiReadWords (end_ : Nat) : Nat → Nat → State → State × List (Word × Byte)
  | 0, _, s => (s, [])
  | k + 1, a, s =>
    if end_ ≤ a then (s.spiErr 2, [])
    else
      let (w, bad, s1) := s.spiFetch a
      let s2 := if bad then s1.raise Reg.MSPI_STATUS 0x40 else s1
      let (s3, ws) := State.spiReadWords end_ k (a + 4) s2
      (s3, (w, if bad then ~~~ wordCrc w else wordCrc w) :: ws)

/-- Write words from an address up: a word whose CRC fails is discarded with every later one (R392). -/
def State.spiWriteWords (end_ : Nat) : List (Word × Byte) → Nat → State → State
  | [], _, s => s
  | (w, c) :: ws, a, s =>
    if end_ ≤ a then s.spiErr 2
    else if c ≠ wordCrc w then (s.spiErr 4).spiErrAddr a
    else State.spiWriteWords end_ ws (a + 4) (s.spiStore a w)

/-! ### Frames -/

/-- SPI_WRITE (R392): the words, and the clocks of a word cut short (R393). -/
def execSpiWrite (t addr : Nat) (hcrc : Byte) (words : List (Word × Byte)) (extraBits : Nat) (s : State) :
    Host.Outcome State Fault Refusal :=
  let e := regionEnd addr
  let cut := addr + 4 * words.length
  .next ((s.advanceTo t).spiFrame 0x02 addr hcrc (fun s =>
    let s1 := State.spiWriteWords e words addr s
    let s2 := if extraBits = 0 then s1 else if e ≤ cut then s1.spiErr 2 else (s1.spiErr 1).spiErrAddr cut
    (s2, [])))

/-- SPI_READ (R391): the words clocked out whole, and one fetched and cut short (R393). -/
def execSpiRead (t addr : Nat) (hcrc : Byte) (words extraBits : Nat) (s : State) : Host.Outcome State Fault Refusal :=
  let e := regionEnd addr
  let cut := addr + 4 * words
  .next ((s.advanceTo t).spiFrame 0x03 addr hcrc (fun s =>
    let (s1, ws) := State.spiReadWords e words addr s
    let s2 := if extraBits = 0 then s1 else if e ≤ cut then s1.spiErr 2 else (State.spiReadWords e 1 cut s1).1.spiErr 1
    (s2, ws)))

/-- SPI_STATUS (R389): the status byte alone; more clocks are extra (R393). -/
def execSpiStatus (t addr : Nat) (hcrc : Byte) (extraBits : Nat) (s : State) : Host.Outcome State Fault Refusal :=
  .next ((s.advanceTo t).spiFrame 0x05 addr hcrc (fun s => (if extraBits = 0 then s else s.spiErr 2, [])))

/-- SPI_WRITE16 (R389): bits [15:0] of one word go to the Ledger window as one 16-bit write. -/
def execSpiWrite16 (t addr : Nat) (hcrc : Byte) (w : Option (Word × Byte)) (extraBits : Nat) (s : State) :
    Host.Outcome State Fault Refusal :=
  .next ((s.advanceTo t).spiFrame 0x06 addr hcrc (fun s =>
    match w with
    | none => (if extraBits = 0 then s else (s.spiErr 1).spiErrAddr addr, [])
    | some (x, c) =>
      let s1 :=
        if c ≠ wordCrc x then (s.spiErr 4).spiErrAddr addr
        else if s.md.mode = .locked then s.unmapped
        else s.windowWrite (addr - 0x80000000) (leBytes 2 x.toNat)
      (if extraBits = 0 then s1 else s1.spiErr 2, [])))

/-- SPI_HEADER_REJECTED (R389, R393): the select rises within the 48 clocks of the header, or the header is rejected. A frame whose
header passes is one of the frames above and does not make this event (log 1). -/
def execSpiHeaderRejected (t : Nat) (opcode : Byte) (addr : Nat) (hcrc : Byte) (bits : Nat) (s : State) :
    Host.Outcome State Fault Refusal :=
  let s1 := s.advanceTo t
  .next <|
    if s1.md.mode = .reset then (if bits < 48 then s1 else s1.emit (.spi (s1.spiStatus false) []))
    else if bits < 48 then s1.spiErr 1
    else if spiHeaderOk opcode.toNat addr hcrc then s1
    else (s1.spiErr 8).emit (.spi (s1.spiStatus false) [])

end Sys2Proof.Machine
end

