-- ==== Sys2Proof/Machine/Dispatch.lean ====
section
/-!
DEFINITION. One arm per command of the table: a direct call of its meaning.
-/

namespace Sys2Proof.Machine

def exec (i : Instr) (s : State) : Host.Outcome State Fault Refusal :=
  match i with
  | .registerWrite t o addr v => Sys2Proof.Machine.execRegisterWrite t o addr v s
  | .unmappedAccess t o addr write => Sys2Proof.Machine.execUnmappedAccess t o addr write s
  | .loHalfRead t o addr => Sys2Proof.Machine.execLoHalfRead t o addr s
  | .hiHalfWrite t o addr v => Sys2Proof.Machine.execHiHalfWrite t o addr v s
  | .doorbellWrite t session offset v => Sys2Proof.Machine.execDoorbellWrite t session offset v s
  | .nvmWrite t cntl qid e => Sys2Proof.Machine.execNvmWrite t cntl qid e s
  | .nvmRead t cntl qid e => Sys2Proof.Machine.execNvmRead t cntl qid e s
  | .compare t cntl qid e hostData => Sys2Proof.Machine.execCompare t cntl qid e hostData s
  | .writeZeroes t cntl qid e => Sys2Proof.Machine.execWriteZeroes t cntl qid e s
  | .datasetManagement t cntl qid e ranges => Sys2Proof.Machine.execDatasetManagement t cntl qid e ranges s
  | .flush t cntl qid e => Sys2Proof.Machine.execFlush t cntl qid e s
  | .invalidOpcode t cntl qid e => Sys2Proof.Machine.execInvalidOpcode t cntl qid e s
  | .holdRetry t => Sys2Proof.Machine.execHoldRetry t s
  | .holdLimitExpiry t cntl qid cid => Sys2Proof.Machine.execHoldLimitExpiry t cntl qid cid s
  | .acceptance t seq data pi => Sys2Proof.Machine.execAcceptance t seq data pi s
  | .inlineLookupAnswer t seq grain cluster agree index => Sys2Proof.Machine.execInlineLookupAnswer t seq grain cluster agree index s
  | .inlineBudgetExpiry t seq grain => Sys2Proof.Machine.execInlineBudgetExpiry t seq grain s
  | .compressionOutcome t seq grain lane r => Sys2Proof.Machine.execCompressionOutcome t seq grain lane r s
  | .cipherPassDone t u pair agree => Sys2Proof.Machine.execCipherPassDone t u pair agree s
  | .recordAppend t seq => Sys2Proof.Machine.execRecordAppend t seq s
  | .stripeClose t st => Sys2Proof.Machine.execStripeClose t st s
  | .pageTransferDone t st band stripe strip => Sys2Proof.Machine.execPageTransferDone t st band stripe strip s
  | .programDone t st band stripe strip ok => Sys2Proof.Machine.execProgramDone t st band stripe strip ok s
  | .mirrorRecordArrival t recs => Sys2Proof.Machine.execMirrorRecordArrival t recs s
  | .programAck t acks => Sys2Proof.Machine.execProgramAck t acks s
  | .coalescingTimer t cntl => Sys2Proof.Machine.execCoalescingTimer t cntl s
  | .pageReadDone t rid failing => Sys2Proof.Machine.execPageReadDone t rid failing s
  | .readRetryStep t rid step failing => Sys2Proof.Machine.execReadRetryStep t rid step failing s
  | .decompressionDone t rid lane fault => Sys2Proof.Machine.execDecompressionDone t rid lane fault s
  | .parityRepair t rid rebuilt => Sys2Proof.Machine.execParityRepair t rid rebuilt s
  | .partnerRepairRequest t vol grain wgen token => Sys2Proof.Machine.execPartnerRepairRequest t vol grain wgen token s
  | .partnerRepairResponse t rid found => Sys2Proof.Machine.execPartnerRepairResponse t rid found s
  | .islandGate t k index => Sys2Proof.Machine.execIslandGate t k index s
  | .islandReady t k index => Sys2Proof.Machine.execIslandReady t k index s
  | .islandWakeLate t k index => Sys2Proof.Machine.execIslandWakeLate t k index s
  | .linkTrainingStart t lane => Sys2Proof.Machine.execLinkTrainingStart t lane s
  | .linkDown t lane lossOfLock => Sys2Proof.Machine.execLinkDown t lane lossOfLock s
  | .portRestartDone t port => Sys2Proof.Machine.execPortRestartDone t port s
  | .resetAssert t rstLow pwrgdLow => Sys2Proof.Machine.execResetAssert t rstLow pwrgdLow s
  | .resetRelease t rstHigh pwrgdHigh pwrFailHigh => Sys2Proof.Machine.execResetRelease t rstHigh pwrgdHigh pwrFailHigh s
  | .buttonPress t => Sys2Proof.Machine.execButtonPress t s
  | .buttonRelease t => Sys2Proof.Machine.execButtonRelease t s
  | .buttonFailedClosed t => Sys2Proof.Machine.execButtonFailedClosed t s
  | .memoryInitDone t stage => Sys2Proof.Machine.execMemoryInitDone t stage s
  | .bootStageDone t stage badCkpts passed => Sys2Proof.Machine.execBootStageDone t stage badCkpts passed s
  | .modeReqSlack t o v => Sys2Proof.Machine.execModeReqSlack t o v s
  | .modeReqJoin t o v => Sys2Proof.Machine.execModeReqJoin t o v s
  | .modeReqRelay t o v => Sys2Proof.Machine.execModeReqRelay t o v s
  | .modeReqPreservation t o v => Sys2Proof.Machine.execModeReqPreservation t o v s
  | .modeReqHoldup t o v => Sys2Proof.Machine.execModeReqHoldup t o v s
  | .modeReqBench t o v => Sys2Proof.Machine.execModeReqBench t o v s
  | .modeReqOther t o v => Sys2Proof.Machine.execModeReqOther t o v s
  | .preservationCheckpoint t => Sys2Proof.Machine.execPreservationCheckpoint t s
  | .watchdogKick t o v => Sys2Proof.Machine.execWatchdogKick t o v s
  | .watchdogExpiry t => Sys2Proof.Machine.execWatchdogExpiry t s
  | .powerFail t => Sys2Proof.Machine.execPowerFail t s
  | .holdupComplete t => Sys2Proof.Machine.execHoldupComplete t s
  | .planMiss t => Sys2Proof.Machine.execPlanMiss t s
  | .overloadClear t => Sys2Proof.Machine.execOverloadClear t s
  | .pairCommitRequest t token c => Sys2Proof.Machine.execPairCommitRequest t token c s
  | .pairCommitAnswer t token code => Sys2Proof.Machine.execPairCommitAnswer t token code s
  | .pairCommitTimeout t token => Sys2Proof.Machine.execPairCommitTimeout t token s
  | .reservationCreate t cntl e => Sys2Proof.Machine.execReservationCreate t cntl e s
  | .reservationChange t cntl e => Sys2Proof.Machine.execReservationChange t cntl e s
  | .reservationDelete t cntl e => Sys2Proof.Machine.execReservationDelete t cntl e s
  | .reservationQuery t cntl e => Sys2Proof.Machine.execReservationQuery t cntl e s
  | .reservationRebind t cntl e => Sys2Proof.Machine.execReservationRebind t cntl e s
  | .rebindDelete t cntl e => Sys2Proof.Machine.execRebindDelete t cntl e s
  | .foldStripe t st band stripe softPages => Sys2Proof.Machine.execFoldStripe t st band stripe softPages s
  | .foldProgramVerified t st band stripe denseBand denseOffset failed => Sys2Proof.Machine.execFoldProgramVerified t st band stripe denseBand denseOffset failed s
  | .checkpointPeriod t => Sys2Proof.Machine.execCheckpointPeriod t s
  | .postProcessGrain t indexEntry agree cluster => Sys2Proof.Machine.execPostProcessGrain t indexEntry agree cluster s
  | .filterSwap t bits => Sys2Proof.Machine.execFilterSwap t bits s
  | .snapshotCreate t cntl e => Sys2Proof.Machine.execSnapshotCreate t cntl e s
  | .snapshotDelete t cntl e => Sys2Proof.Machine.execSnapshotDelete t cntl e s
  | .snapshotClone t cntl e => Sys2Proof.Machine.execSnapshotClone t cntl e s
  | .snapshotQuery t cntl e => Sys2Proof.Machine.execSnapshotQuery t cntl e s
  | .snapshotList t cntl e => Sys2Proof.Machine.execSnapshotList t cntl e s
  | .snapshotReclaimDone t vol id => Sys2Proof.Machine.execSnapshotReclaimDone t vol id s
  | .channelTrainingDone t channel ok => Sys2Proof.Machine.execChannelTrainingDone t channel ok s
  | .statusTimeout t die operation answers => Sys2Proof.Machine.execStatusTimeout t die operation answers s
  | .busTimeout t channel => Sys2Proof.Machine.execBusTimeout t channel s
  | .eraseDone t die block ok => Sys2Proof.Machine.execEraseDone t die block ok s
  | .eraseResume t die => Sys2Proof.Machine.execEraseResume t die s
  | .gcCopy t st band => Sys2Proof.Machine.execGcCopy t st band s
  | .patrolRead t st band step failed => Sys2Proof.Machine.execPatrolRead t st band step failed s
  | .dieTemperatureSample t temps => Sys2Proof.Machine.execDieTemperatureSample t temps s
  | .modulePresent t port magicOk crcOk part pop serial => Sys2Proof.Machine.execModulePresent t port magicOk crcOk part pop serial s
  | .moduleRoleAssigned t port trainedOk pages => Sys2Proof.Machine.execModuleRoleAssigned t port trainedOk pages s
  | .moduleRemoval t port => Sys2Proof.Machine.execModuleRemoval t port s
  | .rebuildStripDone t band stripe strip unread => Sys2Proof.Machine.execRebuildStripDone t band stripe strip unread s
  | .rebuildFloorBooking t => Sys2Proof.Machine.execRebuildFloorBooking t s
  | .floorWrite t o v => Sys2Proof.Machine.execFloorWrite t o v s
  | .reshapeRequest t o v => Sys2Proof.Machine.execReshapeRequest t o v s
  | .reshapePause t o v => Sys2Proof.Machine.execReshapePause t o v s
  | .reshapeStripeMigrated t => Sys2Proof.Machine.execReshapeStripeMigrated t s
  | .moduleRelease t o v => Sys2Proof.Machine.execModuleRelease t o v s
  | .moduleMakeSpare t o v => Sys2Proof.Machine.execModuleMakeSpare t o v s
  | .moduleMakeUnused t o v => Sys2Proof.Machine.execModuleMakeUnused t o v s
  | .spareProbe t port ok => Sys2Proof.Machine.execSpareProbe t port ok s
  | .createIoSq t cntl e regionOk => Sys2Proof.Machine.execCreateIoSq t cntl e regionOk s
  | .createIoCq t cntl e regionOk => Sys2Proof.Machine.execCreateIoCq t cntl e regionOk s
  | .deleteIoSq t cntl e => Sys2Proof.Machine.execDeleteIoSq t cntl e s
  | .deleteIoCq t cntl e => Sys2Proof.Machine.execDeleteIoCq t cntl e s
  | .getLogPage t cntl e => Sys2Proof.Machine.execGetLogPage t cntl e s
  | .identify t cntl e => Sys2Proof.Machine.execIdentify t cntl e s
  | .abort t cntl e => Sys2Proof.Machine.execAbort t cntl e s
  | .setFeatures t cntl e => Sys2Proof.Machine.execSetFeatures t cntl e s
  | .setFeaturesHoldLimit t cntl e => Sys2Proof.Machine.execSetFeaturesHoldLimit t cntl e s
  | .setFeaturesCompression t cntl e => Sys2Proof.Machine.execSetFeaturesCompression t cntl e s
  | .setFeaturesDedup t cntl e => Sys2Proof.Machine.execSetFeaturesDedup t cntl e s
  | .getFeatures t cntl e => Sys2Proof.Machine.execGetFeatures t cntl e s
  | .asyncEventRequest t cntl e => Sys2Proof.Machine.execAsyncEventRequest t cntl e s
  | .namespaceCreate t cntl e nsze ncap flbas => Sys2Proof.Machine.execNamespaceCreate t cntl e nsze ncap flbas s
  | .namespaceDelete t cntl e => Sys2Proof.Machine.execNamespaceDelete t cntl e s
  | .namespaceAttachment t cntl e cntls => Sys2Proof.Machine.execNamespaceAttachment t cntl e cntls s
  | .selfTestShort t cntl e => Sys2Proof.Machine.execSelfTestShort t cntl e s
  | .selfTestExtended t cntl e => Sys2Proof.Machine.execSelfTestExtended t cntl e s
  | .selfTestAbort t cntl e => Sys2Proof.Machine.execSelfTestAbort t cntl e s
  | .selfTestDone t failedSegment katUnit => Sys2Proof.Machine.execSelfTestDone t failedSegment katUnit s
  | .recorderRead t cntl e => Sys2Proof.Machine.execRecorderRead t cntl e s
  | .recorderClearArm t cntl e => Sys2Proof.Machine.execRecorderClearArm t cntl e s
  | .recorderClear t cntl e => Sys2Proof.Machine.execRecorderClear t cntl e s
  | .tallyCommand t cntl e => Sys2Proof.Machine.execTallyCommand t cntl e s
  | .idmWrite t p => Sys2Proof.Machine.execIdmWrite t p s
  | .idmReadReq t p => Sys2Proof.Machine.execIdmReadReq t p s
  | .readResp t p => Sys2Proof.Machine.execReadResp t p s
  | .notify t p => Sys2Proof.Machine.execNotify t p s
  | .statusPacket t p => Sys2Proof.Machine.execStatusPacket t p s
  | .ack t p => Sys2Proof.Machine.execAck t p s
  | .connect t sealed tagOk regionOk m => Sys2Proof.Machine.execConnect t sealed tagOk regionOk m s
  | .accept t session sealed tagOk m => Sys2Proof.Machine.execAccept t session sealed tagOk m s
  | .close t p => Sys2Proof.Machine.execClose t p s
  | .keepalive t p => Sys2Proof.Machine.execKeepalive t p s
  | .rekey t p => Sys2Proof.Machine.execRekey t p s
  | .malformedPacket t port p udpLen => Sys2Proof.Machine.execMalformedPacket t port p udpLen s
  | .datagramDiscard t port udpPort checksumOk => Sys2Proof.Machine.execDatagramDiscard t port udpPort checksumOk s
  | .ptpMessage t udpPort second => Sys2Proof.Machine.execPtpMessage t udpPort second s
  | .connectResend t session => Sys2Proof.Machine.execConnectResend t session s
  | .connectTimeout t session => Sys2Proof.Machine.execConnectTimeout t session s
  | .sessionTimeout t session => Sys2Proof.Machine.execSessionTimeout t session s
  | .keepaliveDue t session => Sys2Proof.Machine.execKeepaliveDue t session s
  | .ackDelay t session => Sys2Proof.Machine.execAckDelay t session s
  | .rtoExpiry t session psn => Sys2Proof.Machine.execRtoExpiry t session psn s
  | .ondemandUnitReady t session key unit => Sys2Proof.Machine.execOndemandUnitReady t session key unit s
  | .ondemandStallExpiry t session key unit => Sys2Proof.Machine.execOndemandStallExpiry t session key unit s
  | .backoffExpiry t session psn => Sys2Proof.Machine.execBackoffExpiry t session psn s
  | .workEntryPost t queue w => Sys2Proof.Machine.execWorkEntryPost t queue w s
  | .chainTimeout t queue => Sys2Proof.Machine.execChainTimeout t queue s
  | .beaconSend t => Sys2Proof.Machine.execBeaconSend t s
  | .beaconArrival t decux b => Sys2Proof.Machine.execBeaconArrival t decux b s
  | .pathCheck t decux => Sys2Proof.Machine.execPathCheck t decux s
  | .verdict t c => Sys2Proof.Machine.execVerdict t c s
  | .voterEvaluation t flipFence flipLost => Sys2Proof.Machine.execVoterEvaluation t flipFence flipLost s
  | .voterCalibration t voter measure => Sys2Proof.Machine.execVoterCalibration t voter measure s
  | .takeoverComplete t => Sys2Proof.Machine.execTakeoverComplete t s
  | .addressAnnounceRepeat t => Sys2Proof.Machine.execAddressAnnounceRepeat t s
  | .yield t o v => Sys2Proof.Machine.execYield t o v s
  | .wake t o v => Sys2Proof.Machine.execWake t o v s
  | .tideSyncExchange t partnerTick skew => Sys2Proof.Machine.execTideSyncExchange t partnerTick skew s
  | .resyncSwitch t => Sys2Proof.Machine.execResyncSwitch t s
  | .mirrorReadback t band stripe ok => Sys2Proof.Machine.execMirrorReadback t band stripe ok s
  | .beaconLoopCheck t decux ok => Sys2Proof.Machine.execBeaconLoopCheck t decux ok s
  | .replicationFrame t session f fault => Sys2Proof.Machine.execReplicationFrame t session f fault s
  | .replicationResult t link target f => Sys2Proof.Machine.execReplicationResult t link target f s
  | .replicationInterval t link => Sys2Proof.Machine.execReplicationInterval t link s
  | .syncTargetDeadline t seq target => Sys2Proof.Machine.execSyncTargetDeadline t seq target s
  | .targetResyncAttempt t link target opened => Sys2Proof.Machine.execTargetResyncAttempt t link target opened s
  | .linkCreate t cntl e d opened accepted => Sys2Proof.Machine.execLinkCreate t cntl e d opened accepted s
  | .linkDelete t cntl e => Sys2Proof.Machine.execLinkDelete t cntl e s
  | .targetAdd t cntl e d opened accepted => Sys2Proof.Machine.execTargetAdd t cntl e d opened accepted s
  | .targetRemove t cntl e => Sys2Proof.Machine.execTargetRemove t cntl e s
  | .replicaAccept t cntl e d => Sys2Proof.Machine.execReplicaAccept t cntl e d s
  | .sendSetNow t cntl e => Sys2Proof.Machine.execSendSetNow t cntl e s
  | .linkQuery t cntl e => Sys2Proof.Machine.execLinkQuery t cntl e s
  | .podQuery t cntl e => Sys2Proof.Machine.execPodQuery t cntl e s
  | .podHeartbeatSend t => Sys2Proof.Machine.execPodHeartbeatSend t s
  | .podHeartbeat t device epoch masterView => Sys2Proof.Machine.execPodHeartbeat t device epoch masterView s
  | .masterSilence t => Sys2Proof.Machine.execMasterSilence t s
  | .partitionHandover t partition newPair => Sys2Proof.Machine.execPartitionHandover t partition newPair s
  | .scrubPass t addr errors use => Sys2Proof.Machine.execScrubPass t addr errors use s
  | .bufferRequest t o v => Sys2Proof.Machine.execBufferRequest t o v s
  | .bufferFree t o v => Sys2Proof.Machine.execBufferFree t o v s
  | .stackBatchDone t pool refill chain => Sys2Proof.Machine.execStackBatchDone t pool refill chain s
  | .chainRebuilt t pool => Sys2Proof.Machine.execChainRebuilt t pool s
  | .leakSweep t => Sys2Proof.Machine.execLeakSweep t s
  | .quotaWrite t o v => Sys2Proof.Machine.execQuotaWrite t o v s
  | .dmaBurst t channel => Sys2Proof.Machine.execDmaBurst t channel s
  | .descriptorFetch t channel => Sys2Proof.Machine.execDescriptorFetch t channel s
  | .busError t channel addr write kind => Sys2Proof.Machine.execBusError t channel addr write kind s
  | .dmaKick t o v => Sys2Proof.Machine.execDmaKick t o v s
  | .dmaResume t o v => Sys2Proof.Machine.execDmaResume t o v s
  | .softwareRequest t o v => Sys2Proof.Machine.execSoftwareRequest t o v s
  | .channelDisable t o channel v => Sys2Proof.Machine.execChannelDisable t o channel v s
  | .channelEnable t o channel v => Sys2Proof.Machine.execChannelEnable t o channel v s
  | .lockTake t o v => Sys2Proof.Machine.execLockTake t o v s
  | .lockRelease t o v => Sys2Proof.Machine.execLockRelease t o v s
  | .lockIdleTimeout t => Sys2Proof.Machine.execLockIdleTimeout t s
  | .loadXts t o v => Sys2Proof.Machine.execLoadXts t o v s
  | .loadGcm t o v => Sys2Proof.Machine.execLoadGcm t o v s
  | .keyClear t o v => Sys2Proof.Machine.execKeyClear t o v s
  | .setLimit t o v => Sys2Proof.Machine.execSetLimit t o v s
  | .ldgProgram t addr src len => Sys2Proof.Machine.execLdgProgram t addr src len s
  | .ldgErase t addr => Sys2Proof.Machine.execLdgErase t addr s
  | .ldgSuspend t bank => Sys2Proof.Machine.execLdgSuspend t bank s
  | .ldgResume t bank => Sys2Proof.Machine.execLdgResume t bank s
  | .ldgPoll t bank => Sys2Proof.Machine.execLdgPoll t bank s
  | .ldgCycles t addr => Sys2Proof.Machine.execLdgCycles t addr s
  | .ldgRectail t src len => Sys2Proof.Machine.execLdgRectail t src len s
  | .commandWindowWrite t o offset bytes => Sys2Proof.Machine.execCommandWindowWrite t o offset bytes s
  | .windowSequenceTimeout t => Sys2Proof.Machine.execWindowSequenceTimeout t s
  | .ledgerProgramDone t bank verifyOk => Sys2Proof.Machine.execLedgerProgramDone t bank verifyOk s
  | .ledgerEraseDone t bank verifyOk => Sys2Proof.Machine.execLedgerEraseDone t bank verifyOk s
  | .minrunReached t bank => Sys2Proof.Machine.execMinrunReached t bank s
  | .eraseAgeLimit t bank => Sys2Proof.Machine.execEraseAgeLimit t bank s
  | .relayCommit t o v => Sys2Proof.Machine.execRelayCommit t o v s
  | .relayAbandon t o v => Sys2Proof.Machine.execRelayAbandon t o v s
  | .relayTimeout t => Sys2Proof.Machine.execRelayTimeout t s
  | .slackExitDone t => Sys2Proof.Machine.execSlackExitDone t s
  | .benchTestStart t o v => Sys2Proof.Machine.execBenchTestStart t o v s
  | .benchTestDone t errors => Sys2Proof.Machine.execBenchTestDone t errors s
  | .keyBurn t o v => Sys2Proof.Machine.execKeyBurn t o v s
  | .keyRevoke t o v => Sys2Proof.Machine.execKeyRevoke t o v s
  | .tallyRequest t o v => Sys2Proof.Machine.execTallyRequest t o v s
  | .tallyLatch t => Sys2Proof.Machine.execTallyLatch t s
  | .tallyStagingDone t => Sys2Proof.Machine.execTallyStagingDone t s
  | .tallyLvalCommit t o v => Sys2Proof.Machine.execTallyLvalCommit t o v s
  | .recorderFlushTimer t => Sys2Proof.Machine.execRecorderFlushTimer t s
  | .recorderReadWindow t o => Sys2Proof.Machine.execRecorderReadWindow t o s
  | .clearArm t o v => Sys2Proof.Machine.execClearArm t o v s
  | .clearGo t o v => Sys2Proof.Machine.execClearGo t o v s
  | .admRinfoRead t o => Sys2Proof.Machine.execAdmRinfoRead t o s
  | .cmpFinfoRead t o => Sys2Proof.Machine.execCmpFinfoRead t o s
  | .ddupPolicyRead t o => Sys2Proof.Machine.execDdupPolicyRead t o s
  | .fchDinfoRead t o channel => Sys2Proof.Machine.execFchDinfoRead t o channel s
  | .strpMinfoRead t o => Sys2Proof.Machine.execStrpMinfoRead t o s
  | .nvqQinfoRead t o => Sys2Proof.Machine.execNvqQinfoRead t o s
  | .idmSinfoRead t o => Sys2Proof.Machine.execIdmSinfoRead t o s
  | .atpuRinfoRead t o => Sys2Proof.Machine.execAtpuRinfoRead t o s
  | .poolOinfoRead t o => Sys2Proof.Machine.execPoolOinfoRead t o s
  | .ciphKinfoRead t o => Sys2Proof.Machine.execCiphKinfoRead t o s
  | .ldgCinfoRead t o => Sys2Proof.Machine.execLdgCinfoRead t o s
  | .spiWrite t addr hcrc words extraBits => Sys2Proof.Machine.execSpiWrite t addr hcrc words extraBits s
  | .spiRead t addr hcrc words extraBits => Sys2Proof.Machine.execSpiRead t addr hcrc words extraBits s
  | .spiStatus t addr hcrc extraBits => Sys2Proof.Machine.execSpiStatus t addr hcrc extraBits s
  | .spiWrite16 t addr hcrc w extraBits => Sys2Proof.Machine.execSpiWrite16 t addr hcrc w extraBits s
  | .bulkWindowControl t o n v => Sys2Proof.Machine.execBulkWindowControl t o n v s
  | .railOutOfRange t rail millivolts => Sys2Proof.Machine.execRailOutOfRange t rail millivolts s
  | .clockLoss t input => Sys2Proof.Machine.execClockLoss t input s
  | .clockRestore t input => Sys2Proof.Machine.execClockRestore t input s
  | .temperatureReading t sensor celsius => Sys2Proof.Machine.execTemperatureReading t sensor celsius s
  | .ppsInEdge t => Sys2Proof.Machine.execPpsInEdge t s
  | .ppsOutEdge t rise => Sys2Proof.Machine.execPpsOutEdge t rise s
  | .powerOn t => Sys2Proof.Machine.execPowerOn t s
  | .refclk100Restored t => Sys2Proof.Machine.execRefclk100Restored t s
  | .railBackInRange t rail => Sys2Proof.Machine.execRailBackInRange t rail s
  | .linkUp t lane locked => Sys2Proof.Machine.execLinkUp t lane locked s
  | .uncorrectableFecBurst t lane => Sys2Proof.Machine.execUncorrectableFecBurst t lane s
  | .spiHeaderRejected t opcode addr hcrc bits => Sys2Proof.Machine.execSpiHeaderRejected t opcode addr hcrc bits s
  | .mapLineRebuilt t firstUnit units => Sys2Proof.Machine.execMapLineRebuilt t firstUnit units s
  | .sgtLineRebuilt t line => Sys2Proof.Machine.execSgtLineRebuilt t line s

end Sys2Proof.Machine
end

