-- ==== Sys2Proof/Safety.lean ====
section
/-!
DEFINITION. What counts as a safe run of the block, and the conditions on a state that its statements share.
-/

namespace Sys2Proof.Safety

open Sys2Proof.Machine

/-- A run of `k` steps that ends in a state, not in a fault or a refusal. -/
def Completes (k : Nat) (s : State) : Prop := ∃ t, Sys2Proof.core.run k s = .next t

/-- Both byte memories are in canonical form: rising addresses, and no byte listed that reads as an unlisted one would. -/
def Canonical (s : State) : Prop := Memory.wf 0 s.mem.cells = true ∧ Memory.wf 0xFF s.ldg.cells = true

/-- Every access path reaches every register: not in Reset (R387) and not in Locked (R43). -/
def Open (s : State) : Prop := s.md.mode ≠ .reset ∧ s.md.mode ≠ .locked

/-- The always-on edges count: a tick given to a command is the tick at which it happens. -/
def Ticking (t : Nat) (s : State) : Prop := s.time.running = true ∧ s.slowClock = false ∧ s.time.now ≤ t

/-- One transition has happened: the mode, the mode before, the cause and the tick are recorded, and FENCE_OUT_N is as the mode has it
(R36, Table 2.2). -/
def Entered (m : Mode) (cause : Nat) (s u : State) : Prop :=
  u.md.mode = m ∧ u.md.prev = s.md.mode ∧ u.md.cause = cause ∧ u.md.tick = u.time.now ∧ u.md.fenceN = m.fenceHigh

/-- A queue pair fetches (Table 2.2), and its completion queue has room and holds nothing back (R204). -/
def Ready (cntl qid : Nat) (s : State) : Prop :=
  s.canFetch cntl qid = true ∧ ∃ k q, s.cqKey cntl qid = some k ∧ NMap.find s.nvq.cqs k = some q ∧ q.full = false ∧ q.held = [] ∧
    q.cntl = cntl ∧ q.qid = qid

/-- No submission queue of a controller is being deleted. -/
def Settled (cntl : Nat) (s : State) : Prop := ∀ p ∈ s.nvq.sqs, p.2.cntl = cntl → p.2.deleting = none

/-- An admin command that nothing turns away before it runs: it is fetched (R199) outside Preservation (R35), is not fused (R200), and its
completion has room. -/
def Runs (cntl : Nat) (e : Sqe) (s : State) : Prop :=
  Ready cntl 0 s ∧ s.md.mode ≠ .preservation ∧ e.fuse = 0 ∧ Settled cntl s

/-- Between two states a completion with this CID, status and dword 0 leaves on a controller's queue, and nothing sent before is taken
back. -/
def Answers (cntl qid cid sct sc dw0 : Nat) (s u : State) : Prop :=
  ∃ (new : List Out) (dw1 head : Nat) (phase : Bool), u.outbox = new ++ s.outbox ∧
    Out.completion cntl qid { cid := cid, sct := sct, sc := sc, dw0 := dw0, dw1 := dw1, sqHead := head } phase ∈ new

/-- Something is sent between two states. -/
def Sends (o : Out) (s u : State) : Prop := ∃ new, u.outbox = new ++ s.outbox ∧ o ∈ new

/-- A sequenced packet stands on a session: it waits for the window, or has left and is not acknowledged yet (R227). -/
def Queued (n : Nat) (s : State) (p : Packet) : Prop :=
  ∃ x, s.session? n = some x ∧ (p ∈ x.sendq ∨ ∃ v ∈ x.unacked, v.packet = p)

/-- A packet reaches its opcode (R222, R223, R242): well formed, its session open or closing, its seal right. -/
def Reaches (p : Packet) (x : Session) (s : State) : Prop :=
  s.md.mode ≠ .reset ∧ s.md.mode ≠ .slack ∧ malformed p = false ∧ s.session? p.dsess = some x ∧ x.state ≠ 1 ∧ s.authentic x p = true

/-- Nothing waits on a session for a packet below it: no fenced packet, and no CLOSE of the peer's. -/
def Unwaited (x : Session) : Prop := x.fenced = [] ∧ x.closePsn = none

/-- A sequenced packet is applied when it arrives (Table 10.7, R231): it is new, within the window, and where it is fenced it is the next. -/
def Applies (p : Packet) (x : Session) : Prop :=
  psnLater x.cum p.psn = false ∧ x.got.contains p.psn = false ∧ psnDist p.psn x.cum < 2 ^ x.wlog2 ∧ (p.fence = true → p.psn = x.cum)

/-- A plain region admits an access of a packet (R233, Table 10.9). -/
def Admits (p : Packet) (len : Nat) (right : Region → Bool) (x : Session) (r : Region) (s : State) : Prop :=
  NMap.find s.idm.regions (p.key / 256) = some r ∧ r.used = true ∧ r.gen = p.key % 256 ∧ r.owner = p.dsess ∧ p.offset + len ≤ r.len ∧
    right r = true ∧ r.doorbell = false ∧ r.ondemand = false ∧ ¬ (x.state = 3 ∧ p.first = true)

/-- A packet has been noted as received: CUM and what lies beyond it are as R228 has them. -/
def Noted (p : Packet) (x : Session) (u : State) : Prop :=
  (u.session? p.dsess).map (fun y => (y.cum, y.got)) = some (advanceCum (x.got.length + 1) x.cum (x.got ++ [p.psn]))

end Sys2Proof.Safety
end

