-- ==== Sys2Proof/Certificates/Slice0/Obligations.lean ====
section
/-!
DEFINITION. The statements about the model, one definition each.
-/

section

open Sys2Proof Sys2Proof.Machine Sys2Proof.Safety

/-- A step takes the command at the front of the queue and runs it on the state with the queue's rest. -/
def Obligations.StepRunsFrontCommand : Prop :=
  ∀ (c : Instr) (rest : List Instr) (s : State), s.pending = c :: rest →
    Sys2Proof.Machine.step s = Sys2Proof.Machine.exec c { s with pending := rest }

/-- With no command waiting, a step answers a next state in which only time has moved (the model's choice, log 14): one tick, or one
always-on edge in Slack and Reset, or nothing before the first edge. -/
def Obligations.IdleStepMovesTimeOnly : Prop :=
  ∀ s : State, s.pending = [] → ∃ u, Sys2Proof.Machine.step s = .next u ∧ u = { s with time := u.time } ∧
    (s.time.running = false → u.time = s.time) ∧
    (s.time.running = true → s.slowClock = false → u.time = { s.time with now := s.time.now + 1 }) ∧
    (s.time.running = true → s.slowClock = true →
      u.time = { s.time with now := s.time.now + (s.time.frac + 1000000000) / 32768, frac := (s.time.frac + 18944) % 32768 })

/-- Every step keeps both byte memories in canonical form, from every state in which they are. -/
def Obligations.EveryStepKeepsMemoriesCanonical : Prop :=
  ∀ s u : State, Canonical s → Sys2Proof.Machine.step s = .next u → Canonical u

/-- The memories are in canonical form at reset, and the queue is empty. -/
def Obligations.ResetMemoriesCanonical : Prop := Canonical State.reset ∧ State.reset.pending = []

/-- No command touches the queue: what it leaves is what it found. -/
def Obligations.CommandsLeaveTheQueue : Prop :=
  ∀ (c : Instr) (s u : State), Sys2Proof.Machine.exec c s = .next u → u.pending = s.pending

/-- R354 whole: a cold power-on starts the counter at 0; when the device leaves Reset the counter is at full resolution again and goes on
from the value it has; no command but a power-on ever takes it back. -/
def Obligations.TideNeverRunsBack : Prop :=
  (∀ (t : Nat) (s : State), ∃ u, Sys2Proof.Machine.exec (.powerOn t) s = .next u ∧ u.time.now = 0 ∧ u.time.running = true) ∧
  (∀ (t : Nat) (s : State), s.time.running = true → s.md.mode = .reset → s.md.heldInReset = false → s.md.thermtripN = true →
    ∃ u, Sys2Proof.Machine.exec (.resetRelease t true true true) s = .next u ∧ u.md.mode ≠ .reset ∧ u.slowClock = false ∧
      u.time = (s.advanceTo t).time ∧ ∀ t', u.time.now ≤ t' → (u.advanceTo t').time.now = t') ∧
  (∀ (c : Instr) (s u : State), (∀ t, c ≠ .powerOn t) → Sys2Proof.Machine.exec c s = .next u → s.time.now ≤ u.time.now)

/-- A write of a register of plain fields: the RW bits take the value, W1C bits written 1 clear but for those that hardware sets in the
same cycle (R12), every other bit stands, and no other register changes (R7). -/
def Obligations.PlainRegisterWrite : Prop :=
  ∀ (t : Nat) (o : Origin) (a : Nat) (v : Word) (s : State) (r : RegDesc) (n : Nat),
    Open s → a < regSpaceEnd → findReg a = some (r, n) → (s.advanceTo t).writeOwn o a v = none → r.writable = true →
    r.when_.allows s.md.mode = true → r.perPath = false → v &&& r.reserved = 0 → badFields a v = 0 →
    ∃ u, Sys2Proof.Machine.exec (.registerWrite t o a v) s = .next u ∧
      u.reg a = ((s.reg a &&& ~~~ r.maskOf (· == .rw)) ||| (v &&& r.maskOf (· == .rw))) &&&
        ~~~ (v &&& r.maskOf (· == .w1c) &&& ~~~ (s.advanceTo t).freshBits a) ∧
      (∀ b, b ≠ a → u.reg b = s.reg b) ∧
      u = { s with time := (s.advanceTo t).time, regs := { s.regs with vals := u.regs.vals } }

/-- Accesses that reach no register: a 1 written to a reserved bit is discarded, and a write of a register without a writable field does
nothing; both set GCTL_ERR.IGNORED (R7, R8), which outlives a clear by the same write (R12); in Reset no path reaches anything (R387). -/
def Obligations.AccessesThatReachNoRegister : Prop :=
  (∀ (t : Nat) (o : Origin) (a : Nat) (v : Word) (s : State) (r : RegDesc) (n : Nat), Open s → a < regSpaceEnd →
    findReg a = some (r, n) → (s.advanceTo t).writeOwn o a v = none → r.writable = false →
    ∃ u, Sys2Proof.Machine.exec (.registerWrite t o a v) s = .next u ∧ u.reg Reg.GCTL_ERR = s.reg Reg.GCTL_ERR ||| 1 ∧
      (∀ b, b ≠ Reg.GCTL_ERR → u.reg b = s.reg b) ∧
      u = { s with time := (s.advanceTo t).time,
                   regs := { s.regs with vals := u.regs.vals, raised := u.regs.raised, raisedAt := u.regs.raisedAt } }) ∧
  (∀ (t : Nat) (o : Origin) (a : Nat) (v : Word) (s : State) (r : RegDesc) (n : Nat), Open s → a < regSpaceEnd →
    findReg a = some (r, n) → (s.advanceTo t).writeOwn o a v = none → r.writable = true →
    r.when_.allows s.md.mode = true → r.perPath = false → v &&& r.reserved ≠ 0 → badFields a v = 0 →
    ∃ u, Sys2Proof.Machine.exec (.registerWrite t o a v) s = .next u ∧
      (a ≠ Reg.GCTL_ERR → u.reg Reg.GCTL_ERR = s.reg Reg.GCTL_ERR ||| 1) ∧ (a = Reg.GCTL_ERR → bit (u.reg Reg.GCTL_ERR) 0 = true) ∧
      (a ≠ Reg.GCTL_ERR → u.reg a = ((s.reg a &&& ~~~ r.maskOf (· == .rw)) ||| (v &&& r.maskOf (· == .rw))) &&&
        ~~~ (v &&& r.maskOf (· == .w1c) &&& ~~~ (s.advanceTo t).freshBits a))) ∧
  (∀ (t : Nat) (o : Origin) (a : Nat) (v : Word) (w : Bool) (s : State), s.md.mode = .reset → a < regSpaceEnd →
    (s.advanceTo t).writeOwn o a v = none →
    Sys2Proof.Machine.exec (.registerWrite t o a v) s = .next (s.advanceTo t) ∧
    Sys2Proof.Machine.exec (.unmappedAccess t o a w) s = .next (s.advanceTo t) ∧
    Sys2Proof.Machine.exec (.loHalfRead t o a) s = .next (s.advanceTo t))

/-- The halves of a 64-bit quantity (R11): a read of a low half whose high half latches keeps that high half, as it stands then, for the
path that read it, and nothing else changes; a write of a high half commits it with the low half that the path had staged, and acts as
any write of its register. -/
def Obligations.HalvesOfAQuantity : Prop :=
  (∀ (t : Nat) (o : Origin) (a : Nat) (s : State), Open s → (findReg a).isSome = true → latchedHigh (a + 4) = true →
    ∃ u, Sys2Proof.Machine.exec (.loHalfRead t o a) s = .next u ∧
      u.pathReg o (latchKey (a + 4)) = (s.advanceTo t).liveView o (a + 4) ∧
      u = { s with time := (s.advanceTo t).time, regs := { s.regs with path := u.regs.path } }) ∧
  (∀ (t : Nat) (o : Origin) (s : State), Open s →
    ∃ u, Sys2Proof.Machine.exec (.loHalfRead t o Reg.TBASE_NOW_LO) s = .next u ∧
      u.regView o Reg.TBASE_NOW_HI = BitVec.ofNat 32 (u.time.now / 2 ^ 32)) ∧
  (∀ (t : Nat) (o : Origin) (v : Word) (s : State), Open s →
    ∃ u, Sys2Proof.Machine.exec (.hiHalfWrite t o Reg.RCDR_RSEQ_HI v) s = .next u ∧
      u.pair o Reg.RCDR_RSEQ_LO Reg.RCDR_RSEQ_HI = (s.staged o Reg.RCDR_RSEQ_LO).toNat + v.toNat * 2 ^ 32 ∧
      u = { s with time := (s.advanceTo t).time, regs := { s.regs with path := u.regs.path } }) ∧
  (∀ (t : Nat) (o : Origin) (a : Nat) (v : Word) (s : State), ∃ u, Sys2Proof.Machine.exec (.hiHalfWrite t o a v) s = .next u ∧
    Sys2Proof.Machine.exec (.registerWrite t o a v) s = .next u)

/-- Reads that latch a set for the path that reads: the reservation selected (R76), the lane (R117), the volume's dedup policy (R137),
the die of a channel (R171), the module (R191) and the queue pair (R217). Nothing but what the path keeps changes. -/
def Obligations.ReadsLatchReservationsLanesDiesAndQueues : Prop :=
  ∀ (t : Nat) (o : Origin) (s : State), Open s →
    (∀ r, s.resvSel o = some r → ∃ u, Sys2Proof.Machine.exec (.admRinfoRead t o) s = .next u ∧
      u.pathReg o Reg.ADM_RRATE = BitVec.ofNat 32 (r.rate % 2 ^ 14) ∧ u.pathReg o Reg.ADM_RBURST = BitVec.ofNat 32 (r.burst % 2 ^ 14) ∧
      u.pathReg o Reg.ADM_RDL = BitVec.ofNat 32 (r.d % 2 ^ 13) ∧
      u.pathReg o Reg.ADM_RUSE = BitVec.ofNat 32 ((r.refill (windowOf u.time.now)).used % 2 ^ 16 +
        (r.refill (windowOf u.time.now)).credit % 2 ^ 16 * 2 ^ 16) ∧
      u = { s with time := (s.advanceTo t).time, regs := { s.regs with path := u.regs.path } }) ∧
    (∀ l, laneUnit (s.laneSel o) = some l → ∃ u, Sys2Proof.Machine.exec (.cmpFinfoRead t o) s = .next u ∧
      (u.pathReg o Reg.CMP_FTICK_LO).toNat = s.lastFault l % 2 ^ 32 ∧
      (u.pathReg o Reg.CMP_FTICK_HI).toNat = s.lastFault l / 2 ^ 32 % 2 ^ 32 ∧
      u = { s with time := (s.advanceTo t).time, regs := { s.regs with path := u.regs.path } }) ∧
    (∀ v, s.ns? (bits (s.pathReg o Reg.DDUP_PSEL) 13 0) = some v → ∃ u, Sys2Proof.Machine.exec (.ddupPolicyRead t o) s = .next u ∧
      bits (u.pathReg o Reg.DDUP_POLICY) 1 0 = v.dedup % 4 ∧
      bits (u.pathReg o Reg.DDUP_POLICY) 26 16 = min (v.snaps.filter (fun x => !x.2.reclaim)).length (2 ^ 11 - 1) ∧
      u = { s with time := (s.advanceTo t).time, regs := { s.regs with path := u.regs.path } }) ∧
    (∀ c, c < 128 → ∃ u, Sys2Proof.Machine.exec (.fchDinfoRead t o c) s = .next u ∧
      (u.pathReg o (Reg.FCH_DFTICK_LO0 + 0x200 * c)).toNat = s.lastFault (.die (s.dieSel o c)) % 2 ^ 32 ∧
      (u.pathReg o (Reg.FCH_DFTICK_HI0 + 0x200 * c)).toNat = s.lastFault (.die (s.dieSel o c)) / 2 ^ 32 % 2 ^ 32 ∧
      u = { s with time := (s.advanceTo t).time, regs := { s.regs with path := u.regs.path } }) ∧
    (∃ u, Sys2Proof.Machine.exec (.strpMinfoRead t o) s = .next u ∧
      u.pathReg o Reg.STRP_MPART = BitVec.ofNat 32 (s.port (s.portSel o)).part ∧
      u = { s with time := (s.advanceTo t).time, regs := { s.regs with path := u.regs.path } }) ∧
    (∃ u, Sys2Proof.Machine.exec (.nvqQinfoRead t o) s = .next u ∧
      u.pathReg o Reg.NVQ_QDEPTH = BitVec.ofNat 32 (s.qdepth o) ∧ u.pathReg o Reg.NVQ_QPTR = BitVec.ofNat 32 (s.qptr o) ∧
      u = { s with time := (s.advanceTo t).time, regs := { s.regs with path := u.regs.path } })

/-- Reads that latch a set for the path that reads: the session (R245), the region (R245), the owner of buffers (R306), the key slot
(R335) and the Ledger sector (R352). Nothing but what the path keeps, and for the key slot the idle time of the path's own lock (R333),
changes. -/
def Obligations.ReadsLatchSessionsRegionsOwnersKeysAndSectors : Prop :=
  ∀ (t : Nat) (o : Origin) (s : State), Open s →
    (∀ x, s.sessionSel o = some x → ∃ u, Sys2Proof.Machine.exec (.idmSinfoRead t o) s = .next u ∧
      u.pathReg o Reg.IDM_SNEXT = BitVec.ofNat 32 x.nextPsn ∧ u.pathReg o Reg.IDM_SCUM = BitVec.ofNat 32 x.cum ∧
      u.pathReg o Reg.IDM_SIDLE = BitVec.ofNat 32 (min ((u.time.now - x.lastRx) / 1000) (2 ^ 32 - 1)) ∧
      u = { s with time := (s.advanceTo t).time, regs := { s.regs with path := u.regs.path } }) ∧
    (∀ r, s.regionSel o = some r → r.used = true → ∃ u, Sys2Proof.Machine.exec (.atpuRinfoRead t o) s = .next u ∧
      (u.pathReg o Reg.ATPU_RLEN_LO).toNat = r.len % 2 ^ 32 ∧ (u.pathReg o Reg.ATPU_RLEN_HI).toNat = r.len / 2 ^ 32 % 2 ^ 32 ∧
      u = { s with time := (s.advanceTo t).time, regs := { s.regs with path := u.regs.path } }) ∧
    (∃ u, Sys2Proof.Machine.exec (.poolOinfoRead t o) s = .next u ∧
      u.pathReg o Reg.POOL_OUSE = BitVec.ofNat 32 (min (s.owner (s.ownerSel o)).use (2 ^ 32 - 1)) ∧
      u.pathReg o Reg.POOL_OQUOTA = BitVec.ofNat 32 (min (s.owner (s.ownerSel o)).quota (2 ^ 32 - 1)) ∧
      u.pathReg o Reg.POOL_OFLOOR = BitVec.ofNat 32 (min (s.owner (s.ownerSel o)).floor (2 ^ 32 - 1)) ∧
      u = { s with time := (s.advanceTo t).time, regs := { s.regs with path := u.regs.path } }) ∧
    (∀ k, s.slotSel o = some k → ∃ u, Sys2Proof.Machine.exec (.ciphKinfoRead t o) s = .next u ∧
      (u.pathReg o Reg.CIPH_KCTR_LO).toNat = k.ctr % 2 ^ 32 ∧ (u.pathReg o Reg.CIPH_KCTR_HI).toNat = k.ctr / 2 ^ 32 % 2 ^ 32 ∧
      (u.pathReg o Reg.CIPH_KLIM_LO).toNat = k.limit % 2 ^ 32 ∧ (u.pathReg o Reg.CIPH_KLIM_HI).toNat = k.limit / 2 ^ 32 % 2 ^ 32 ∧
      u = { s with time := (s.advanceTo t).time, regs := { s.regs with path := u.regs.path },
                   ciph := { s.ciph with lockTick := u.ciph.lockTick } }) ∧
    (∃ u, Sys2Proof.Machine.exec (.ldgCinfoRead t o) s = .next u ∧
      u.pathReg o Reg.LDG_CINFO = (s.advanceTo t).regView o Reg.LDG_CINFO ∧
      u = { s with time := (s.advanceTo t).time, regs := { s.regs with path := u.regs.path } })

/-- Frames of the management SPI: a checked word is written where REGISTER_WRITE would write it and the status byte leaves; a word whose
CRC fails is discarded, with CRCERR and its address kept (R392); a word read leaves with its CRC, and its read takes its side effects
(R391); a status frame changes only PREV_OK (R389, R390); a 16-bit write reaches the Ledger window (R389); a rejected header sets HDRERR
and the next frame's PREV_OK is 0 (R389). -/
def Obligations.SpiFramesActAsTheirOpcodeSays : Prop :=
  ∀ (t addr : Nat) (w : Word) (s : State), Open s →
    (addr % 4 = 0 → addr < regSpaceEnd → ∃ u, Sys2Proof.Machine.exec (.spiWrite t addr (headerCrc 2 addr) [(w, wordCrc w)] 0) s = .next u ∧
      u = ((s.advanceTo t).spiBegin.writeReg .spi addr w).emit (.spi ((s.advanceTo t).spiStatus true) [])) ∧
    (∀ c, addr % 4 = 0 → addr < regSpaceEnd → c ≠ wordCrc w →
      ∃ u, Sys2Proof.Machine.exec (.spiWrite t addr (headerCrc 2 addr) [(w, c)] 0) s = .next u ∧
        u.reg Reg.MSPI_STATUS = s.reg Reg.MSPI_STATUS ||| 4 ∧ u.spi = { s.spi with prevOk := false, errAddr := addr } ∧
        (∀ b, b ≠ Reg.MSPI_STATUS → b ≠ Reg.MSPI_ALERTSRC → u.reg b = s.reg b)) ∧
    (addr % 4 = 0 → addr < regSpaceEnd → ∃ u, Sys2Proof.Machine.exec (.spiRead t addr (headerCrc 3 addr) 1 0) s = .next u ∧
      let f := (s.advanceTo t).spiBegin
      u = (f.readReg .spi addr).emit (.spi ((s.advanceTo t).spiStatus true) [(f.regView .spi addr, wordCrc (f.regView .spi addr))])) ∧
    (∃ u, Sys2Proof.Machine.exec (.spiStatus t addr (headerCrc 5 addr) 0) s = .next u ∧
      u = { s with time := (s.advanceTo t).time, spi := { s.spi with prevOk := true }, outbox := u.outbox } ∧
      u.outbox.head? = some (.spi (128 + 64 * b2n s.spi.prevOk + 32 * b2n s.alertLow + s.md.mode.code) [])) ∧
    (0x80000000 ≤ addr → addr < 0x84000000 →
      ∃ u, Sys2Proof.Machine.exec (.spiWrite16 t addr (headerCrc 6 addr) (some (w, wordCrc w)) 0) s = .next u ∧
        let f := (s.advanceTo t).spiBegin.windowWrite (addr - 0x80000000) (leBytes 2 w.toNat)
        u = f.emit (.spi ((s.advanceTo t).spiStatus true) [])) ∧
    (∀ (op hcrc : Byte), spiHeaderOk op.toNat addr hcrc = false →
      ∃ u, Sys2Proof.Machine.exec (.spiHeaderRejected t op addr hcrc 48) s = .next u ∧
        u.reg Reg.MSPI_STATUS = s.reg Reg.MSPI_STATUS ||| 8 ∧ u.spi = { s.spi with prevOk := false } ∧
        (∀ b, b ≠ Reg.MSPI_STATUS → b ≠ Reg.MSPI_ALERTSRC → u.reg b = s.reg b))

/-- Writing EN = 0 to a bulk window's control discards its content, leaves the window empty and deasserts its line (R396); enabling an
empty outbound window asserts its line (R395). -/
def Obligations.BulkWindowControlEmptiesAndAsks : Prop :=
  ∀ (t n : Nat) (o : Origin) (v : Word) (s : State), Open s → n < 4 → v &&& 0xFFFFFFFC = 0 →
    (bit v 0 = false → ∃ u, Sys2Proof.Machine.exec (.bulkWindowControl t o n v) s = .next u ∧
      u.bulk n = {} ∧ u.bulkEn n = false ∧ bulkLine (s.bulkOut n) n ∉ u.dma.lines ∧
      u = { s with time := (s.advanceTo t).time, regs := u.regs, spi := u.spi, dma := { s.dma with lines := u.dma.lines } }) ∧
    (v = 3 → (s.bulk n).full = false → ∃ u, Sys2Proof.Machine.exec (.bulkWindowControl t o n v) s = .next u ∧
      u.bulkEn n = true ∧ u.bulkOut n = true ∧ bulkLine true n ∈ u.dma.lines)

/-- Tally from the request to the staging area: an accepted request is pending with its latch tick (R371); at the latch tick every counter
is copied into its shadow (R372); the shadows and the trailer, whose DONETICK the spec leaves open, go to the staging area, and line 3 is
asserted (R373); a committed value replaces one counter and clears its OVF, and increments of the same cycle count on top (R12, R369, R377); C5h makes the same request and waits for it
(R376). -/
def Obligations.TallyLatchesAndStagesEveryCounter : Prop :=
  (∀ (t : Nat) (o : Origin) (v : Word) (s : State), Open s → Ticking t s → s.mem.ready = true → s.md.mode ≠ .slack →
    s.md.mode ≠ .holdup → s.tally.pending = false → t + 10000 ≤ join64 (s.staged o Reg.TALLY_AT_LO) v →
    ∃ u, Sys2Proof.Machine.exec (.tallyRequest t o v) s = .next u ∧
      u.tally = { s.tally with at_ := join64 (s.staged o Reg.TALLY_AT_LO) v, pending := true, done := false, latched := false,
                               staged := false, drained := 0 }) ∧
  (∀ (t : Nat) (s : State), Ticking t s → s.tally.pending = true → s.tally.latched = false → s.tally.at_ ≤ t →
    ∃ u, Sys2Proof.Machine.exec (.tallyLatch t) s = .next u ∧ u.tally.shadow = s.tally.live ∧ u.tally.ltick = s.tally.at_ ∧
      u.tally.latched = true ∧ u = { s with time := u.time, tally := u.tally }) ∧
  (∀ (t : Nat) (s : State), s.tally.pending = true → s.tally.latched = true → s.tally.staged = false →
    ∃ u, Sys2Proof.Machine.exec (.tallyStagingDone t) s = .next u ∧ u.tally = { s.tally with staged := true, drained := 0 } ∧
      3 ∈ u.dma.lines ∧
      ∃ d, u.mem.cells = Memory.writeBytes 0 s.mem.cells s.image.tallyStage
        (tallyHalf s.tally.shadow (s.tally.gen + 1) s.tally.ltick d)) ∧
  (∀ (t : Nat) (o : Origin) (v : Word) (s : State), Open s → counterReserved (bits (s.pathReg o Reg.TALLY_LSEL) 17 0) = false →
    v &&& 0xFFFE0000 = 0 →
    ∃ u, Sys2Proof.Machine.exec (.tallyLvalCommit t o v) s = .next u ∧
      NMap.getD u.tally.live (bits (s.pathReg o Reg.TALLY_LSEL) 17 0) 0 =
        counterAdd ((s.staged o Reg.TALLY_LVAL_LO).toNat + bits v 15 0 * 2 ^ 32)
          (if (s.advanceTo t).slowClock then 0 else NMap.getD (s.advanceTo t).tickAdds (bits (s.pathReg o Reg.TALLY_LSEL) 17 0) 0) ∧
      (∀ j, j ≠ bits (s.pathReg o Reg.TALLY_LSEL) 17 0 → NMap.find u.tally.live j = NMap.find s.tally.live j) ∧
      u = { s with time := u.time, tally := { s.tally with live := u.tally.live } }) ∧
  (∀ (t cntl : Nat) (e : Sqe) (s : State), Ready cntl 0 s → Ticking t s → e.fuse = 0 → s.mem.ready = true →
    s.tally.pending = false → 352 ≤ bits e.dw12 15 0 → t + 10000 ≤ slbaOf e →
    ∃ u, Sys2Proof.Machine.exec (.tallyCommand t cntl e) s = .next u ∧ u.tally.pending = true ∧ u.tally.at_ = slbaOf e ∧
      u.tally.waiting = s.tally.waiting ++ [(cntl, e)])

/-- Reading and clearing the recorder: the window of a path holds the words of the record it selected (R382); a clear must be armed on
its path within 10 s with its nonce, and hides the records up to its SEQ (R383); the flush timer asserts line 2 (R380). -/
def Obligations.RecorderIsReadAndClearedByItsRules : Prop :=
  (∀ (t : Nat) (s : State) (e : EventRec), Ticking t s → s.rcdr.recs.find? (fun e => decide (s.rcdr.flushedTo < e.seq)) = some e →
    e.tick + secondTicks ≤ t → ∃ u, Sys2Proof.Machine.exec (.recorderFlushTimer t) s = .next u ∧ 2 ∈ u.dma.lines ∧
      u = { s with time := u.time, dma := { s.dma with lines := u.dma.lines } }) ∧
  (∀ (t : Nat) (o : Origin) (s : State), Open s →
    (∀ e, s.selectedRec o = some e → ∃ u, Sys2Proof.Machine.exec (.recorderReadWindow t o) s = .next u ∧
      ∀ i, i < 32 → u.pathReg o (Reg.RCDR_RDATA0 + 4 * i) = recWord e i) ∧
    (s.selectedRec o = none → Sys2Proof.Machine.exec (.recorderReadWindow t o) s =
      .next ((s.advanceTo t).raise Reg.RCDR_STATUS 16))) ∧
  (∀ (t : Nat) (o : Origin) (s : State), Open s → ∃ u n, Sys2Proof.Machine.exec (.clearArm t o 1) s = .next u ∧
    NMap.find u.rcdr.nonces (pathCode o) = some (n, u.time.now) ∧
    u = { s with time := u.time, rcdr := { s.rcdr with nonces := u.rcdr.nonces }, free := s.free + 1 }) ∧
  (∀ (t : Nat) (o : Origin) (v : Word) (s : State) (n tick : Nat), Open s → Ticking t s →
    NMap.find s.rcdr.nonces (pathCode o) = some (n, tick) → t ≤ tick + 10 * secondTicks → v.toNat = n →
    s.pair o Reg.RCDR_CLRSEQ_LO Reg.RCDR_CLRSEQ_HI ≤ s.rcdr.newest →
    ∃ u, Sys2Proof.Machine.exec (.clearGo t o v) s = .next u ∧
      u.rcdr.hiddenTo = max s.rcdr.hiddenTo (s.pair o Reg.RCDR_CLRSEQ_LO Reg.RCDR_CLRSEQ_HI) ∧
      u.rcdr.nonces = NMap.del s.rcdr.nonces (pathCode o)) ∧
  (∀ (t cntl : Nat) (e : Sqe) (s : State), Ready cntl 0 s → e.fuse = 0 →
    (1 ≤ bits e.dw12 15 0 → bits e.dw12 15 0 ≤ 256 → ∃ u, Sys2Proof.Machine.exec (.recorderRead t cntl e) s = .next u ∧
      Answers cntl 0 e.cid 0 0
        (fitRecs (4096 * bits e.dw12 15 0) (s.readableRecs.filter (fun r => decide (slbaOf e ≤ r.seq)))).length s u) ∧
    (s.md.mode ≠ .preservation → ∃ u n, Sys2Proof.Machine.exec (.recorderClearArm t cntl e) s = .next u ∧
      NMap.find u.rcdr.nonces (pathCode .inband) = some (n, u.time.now) ∧ Answers cntl 0 e.cid 0 0 n s u) ∧
    (s.md.mode ≠ .preservation → ∃ u, Sys2Proof.Machine.exec (.recorderClear t cntl e) s = .next u ∧
      NMap.find u.rcdr.nonces (pathCode .inband) = none ∧
      let c := (s.advanceTo t).clearCause .inband e.dw11.toNat (join64 e.dw12 e.dw13)
      Answers cntl 0 e.cid 0 (if c = 0 then 0 else 2) c s u ∧
      (c = 0 → u.rcdr.hiddenTo = max s.rcdr.hiddenTo (join64 e.dw12 e.dw13))))

/-- Rails and clocks: a rail out of range sets its bit of GCTL_RAIL while PWRGD is high (R401); back in range it is cleared, and VPP_LDG
reads in range again; a lost clock has the effect of its row of Table 20.5 (R406), and a SerDes clock or REFCLK100 that returns ends it. -/
def Obligations.RailsAndClocksActByTheirTables : Prop :=
  (∀ (t rail mv : Nat) (s : State), rail < 9 → s.md.pwrgd = true → ∃ u, Sys2Proof.Machine.exec (.railOutOfRange t rail mv) s = .next u ∧
    u.elec.railsOut = s.elec.railsOut ||| 2 ^ rail ∧ u.reg Reg.GCTL_RAIL = s.reg Reg.GCTL_RAIL ||| BitVec.ofNat 32 (2 ^ rail) ∧
    u.md.mode = s.md.mode ∧ u.ldg.vppLow = (if rail = 8 then decide (mv < 2375) else s.ldg.vppLow)) ∧
  (∀ (t rail : Nat) (s : State), s.elec.railsOut / 2 ^ rail % 2 = 1 → rail ≠ 8 →
    Sys2Proof.Machine.exec (.railBackInRange t rail) s =
      .next { s with time := (s.advanceTo t).time, elec := { s.elec with railsOut := s.elec.railsOut - 2 ^ rail } }) ∧
  (∀ (t : Nat) (s : State), s.time.refclkLost = false → s.md.mode ≠ .reset →
    ∃ u, Sys2Proof.Machine.exec (.clockLoss t 0) s = .next u ∧ Entered .reset 1 s u ∧ u.time.refclkLost = true ∧ u.md.heldInReset = true) ∧
  (∀ (t : Nat) (s : State), s.time.sref0Lost = false → ∃ u, Sys2Proof.Machine.exec (.clockLoss t 1) s = .next u ∧
    u.time.sref0Lost = true ∧ ∀ l, l < 16 → NMap.getD u.faults.lanes l 0 = 0) ∧
  (∀ (t : Nat) (s : State), s.time.sref0Lost = true → ∃ u, Sys2Proof.Machine.exec (.clockRestore t 1) s = .next u ∧
    u.time.sref0Lost = false ∧ u.faults = s.faults) ∧
  (∀ (t : Nat) (s : State), s.time.refclkLost = true → s.md.mode = .reset → s.md.rstN = false →
    Sys2Proof.Machine.exec (.refclk100Restored t) s =
      .next { s with time := { (s.advanceTo t).time with refclkLost := false }, md := { s.md with heldInReset := false } })

/-- Temperature (R410, R411): a reading is the temperature and its sensor, and the greatest is kept; at THROT throttling begins; at 125 °C
a mode that serves enters Preservation with cause 0x0B; at 130 °C THERMTRIP_N falls and the device enters Reset. -/
def Obligations.TemperatureLimitsActAsListed : Prop :=
  ∀ (t sensor : Nat) (c : Int) (s : State), s.md.mode ≠ .reset →
    (c < 125 → ∃ u, Sys2Proof.Machine.exec (.temperatureReading t sensor c) s = .next u ∧ u.md.mode = s.md.mode ∧
      u.elec.temp = c ∧ u.elec.sensor = sensor ∧
      u.elec.tempMax = some (match s.elec.tempMax with | some m => max m c | none => c) ∧
      u.elec.throttle = (if s.elec.throttle then decide ((s.regField Reg.GCTL_THROT 7 0 : Int) - s.regField Reg.GCTL_THROT 11 8 ≤ c)
        else decide ((s.regField Reg.GCTL_THROT 7 0 : Int) ≤ c))) ∧
    (125 ≤ c → c < 130 → s.md.mode.canPreserve = true →
      ∃ u, Sys2Proof.Machine.exec (.temperatureReading t sensor c) s = .next u ∧ Entered .preservation 0x0B s u ∧ u.elec.temp = c) ∧
    (130 ≤ c → ∃ u, Sys2Proof.Machine.exec (.temperatureReading t sensor c) s = .next u ∧ u.md.mode = .reset ∧
      u.md.thermtripN = false ∧ u.ciph.slots = [] ∧ u.idm.sessions = [])

/-- Time inputs and outputs: a rising PPS_IN edge is timestamped and PPS_OUT follows the whole second (R406); a message of a
time-transmitter gives the second and its tick of reception (R218). Nothing else changes. -/
def Obligations.TimeInputsAreStamped : Prop :=
  (∀ (t : Nat) (s : State), s.md.mode ≠ .reset → Sys2Proof.Machine.exec (.ppsInEdge t) s =
    .next { s with time := { (s.advanceTo t).time with pps := (s.advanceTo t).time.now } }) ∧
  (∀ (t : Nat) (s : State), s.md.mode ≠ .reset → s.time.ppsOut = false → (s.advanceTo t).sinceSecond < 100 * msTicks →
    ∃ u, Sys2Proof.Machine.exec (.ppsOutEdge t true) s = .next u ∧ u.time = { (s.advanceTo t).time with ppsOut := true } ∧
      u.outbox = Out.ppsOut true :: s.outbox ∧ u = { s with time := u.time, outbox := u.outbox }) ∧
  (∀ (t port sec : Nat) (s : State), port = 319 ∨ port = 320 → s.md.mode ≠ .reset → s.md.mode ≠ .slack →
    Sys2Proof.Machine.exec (.ptpMessage t port sec) s =
      .next { s with time := { (s.advanceTo t).time with ptp := some (sec, (s.advanceTo t).time.now) } })

/-- Reset and the button: a reset input sampled low enters Reset at the tick of the edge, with the source and the tick of the fall noted
(R353); with all three inputs high and nothing holding it the device leaves Reset, to Locked where the maker fuse is set and to Boot
otherwise; a press is classed by its length at its release (R356). -/
def Obligations.ResetInputsAndButton : Prop :=
  (∀ (t : Nat) (s : State), s.time.running = true → s.md.mode ≠ .reset → s.md.rstN = true → s.md.pwrgd = true →
    ∃ u, Sys2Proof.Machine.exec (.resetAssert t true false) s = .next u ∧ Entered .reset 1 s u ∧ u.md.rstSource = 1 ∧
      u.md.rstFall = u.time.now ∧ u.md.rstN = false ∧ u.ciph.slots = [] ∧ u.adm.resv = [] ∧ u.mem.cells = []) ∧
  (∀ (t : Nat) (s : State), s.time.running = true → s.md.mode = .reset → s.md.heldInReset = false → s.md.thermtripN = true →
    ∃ u, Sys2Proof.Machine.exec (.resetRelease t true true true) s = .next u ∧
      u.md.mode = (if s.md.makerFuse then .locked else .boot) ∧ u.md.rstN = true ∧ u.md.pwrgd = true ∧ u.md.tick = u.time.now) ∧
  (∀ (t : Nat) (s : State), s.time.running = true → s.md.press = none → Sys2Proof.Machine.exec (.buttonPress t) s =
    .next { s with time := (s.advanceTo t).time, md := { s.md with press := some ((s.advanceTo t).time.now, s.md.mode == .reset) } }) ∧
  (∀ (t n : Nat) (s : State), Ticking t s → s.md.press = some (n, false) → s.md.failClosed = false → s.md.mode ≠ .reset →
    (20 * msTicks ≤ t - n → t - n < 1000 * msTicks → s.md.mode.canHoldup = true →
      ∃ u, Sys2Proof.Machine.exec (.buttonRelease t) s = .next u ∧ Entered .holdup 2 s u ∧ u.md.press = none) ∧
    (4000 * msTicks ≤ t - n → t - n < 10000 * msTicks →
      ∃ u, Sys2Proof.Machine.exec (.buttonRelease t) s = .next u ∧ Entered .reset 3 s u ∧ u.md.press = none ∧ u.md.rstSource = 3) ∧
    (1000 * msTicks ≤ t - n → t - n < 4000 * msTicks →
      ∃ u, Sys2Proof.Machine.exec (.buttonRelease t) s = .next u ∧ u.md.mode = s.md.mode ∧ u.md.press = none ∧
        u.reg Reg.GCTL_BUTTON = s.reg Reg.GCTL_BUTTON ||| 4)) ∧
  (∀ (t n : Nat) (s : State), Ticking t s → s.md.press = some (n, false) → s.md.failClosed = false → n + 30000 * msTicks ≤ t →
    ∃ u, Sys2Proof.Machine.exec (.buttonFailedClosed t) s = .next u ∧ u.md.failClosed = true ∧ u.md.mode = s.md.mode ∧
      u.md.press = s.md.press)

/-- Memory and boot stages: the fills of memory end and with both done the free lists are built and memory is ready (R289); a stage that
ends hands over to the next (R358); with no slot that passes its checks the device stays in Boot, at stage 0xF (R361); after the last
stage Join is entered with cause 0x05. Waking from Slack ends in Join with cause 0x0F. -/
def Obligations.BootStagesFollowEachOther : Prop :=
  (∀ (t : Nat) (s : State), s.md.mode = .boot → s.mem.sramDone = false →
    ∃ u, Sys2Proof.Machine.exec (.memoryInitDone t 0) s = .next u ∧ u.mem.sramDone = true ∧ u.mem.cells = s.mem.cells ∧
      u = { s with time := u.time, mem := u.mem }) ∧
  (∀ (t : Nat) (s : State), s.md.mode = .boot → s.mem.sramDone = true → s.mem.hbmDone = true → s.mem.ready = false →
    ∃ u, Sys2Proof.Machine.exec (.memoryInitDone t 2) s = .next u ∧ u.mem.ready = true ∧ u.md.mode = .boot) ∧
  (∀ (t bad : Nat) (passed : List BootUnit) (s : State), s.md.mode = .boot → s.md.noImage = false →
    (s.md.bootStage ≤ 1 ∨ (s.md.bootStage = 2 ∧ s.mem.ready = true) ∨ s.md.bootStage = 5 ∨ s.md.bootStage = 6) →
    ∃ u, Sys2Proof.Machine.exec (.bootStageDone t s.md.bootStage bad passed) s = .next u ∧ u.md.bootStage = s.md.bootStage + 1 ∧
      u.md.mode = .boot ∧ u.md.stageTicks = s.md.stageTicks ++ [u.time.now - s.md.stageFrom] ∧ u.md.stageFrom = u.time.now) ∧
  (∀ (t bad : Nat) (passed : List BootUnit) (s : State), s.md.mode = .boot → s.md.noImage = false → s.md.bootStage = 3 →
    ((s.advanceTo t).notePassed 3 passed).chooseSlot.1 = false →
    ∃ u, Sys2Proof.Machine.exec (.bootStageDone t 3 bad passed) s = .next u ∧ u.md.bootStage = 15 ∧ u.md.noImage = true) ∧
  (∀ (t bad : Nat) (passed : List BootUnit) (s : State), s.md.mode = .boot → s.md.noImage = false → s.md.bootStage = 7 →
    s.image.start = 0 → s.md.deferred = false →
    ∃ u, Sys2Proof.Machine.exec (.bootStageDone t 7 bad passed) s = .next u ∧ Entered .join 5 s u) ∧
  (∀ (t n : Nat) (s : State), s.md.mode = .slack → s.md.wakeAt = some n →
    ∃ u, Sys2Proof.Machine.exec (.slackExitDone t) s = .next u ∧ Entered .join 0x0F s u ∧ u.md.wakeAt = none)

/-- Mode requests (R37, Table 2.3): a request that may be made has its effect, with cause 0x04; one that may not leaves the mode, sets
GCTL_ERR.MODEREJ and is recorded; a wake from Slack is noted, and ends later. -/
def Obligations.ModeRequestsActOrAreRefused : Prop :=
  ∀ (t : Nat) (o : Origin) (v : Word) (s : State), Open s →
    ((s.advanceTo t).slackReady = true → ∃ u, Sys2Proof.Machine.exec (.modeReqSlack t o v) s = .next u ∧ Entered .slack 4 s u) ∧
    ((s.advanceTo t).slackReady = false → ∃ u, Sys2Proof.Machine.exec (.modeReqSlack t o v) s = .next u ∧ u.md.mode = s.md.mode ∧
      bit (u.reg Reg.GCTL_ERR) 2 = true) ∧
    (s.md.mode = .slack → s.md.wakeAt = none → ∃ u, Sys2Proof.Machine.exec (.modeReqJoin t o v) s = .next u ∧
      u.md = { s.md with wakeAt := some u.time.now }) ∧
    (let x := if v.toNat < 16 then s.advanceTo t else (s.advanceTo t).ignored
     s.md.mode = .paired ∨ s.md.mode = .sole →
      (x.relaySlot = none → ∃ u, Sys2Proof.Machine.exec (.modeReqRelay t o v) s = .next u ∧ u.md.mode = s.md.mode ∧
        bit (u.reg Reg.GCTL_ERR) 2 = true) ∧
      (∀ i, x.relaySlot = some i →
        (State.takeFirmware (ceilDiv (max (x.sectionBytes i 1).length s.md.fwLen) fwBufSize) [] x).1.isSome = true →
        ∃ u, Sys2Proof.Machine.exec (.modeReqRelay t o v) s = .next u ∧ Entered .relay 4 s u ∧ u.md.relayFrom = s.md.mode)) ∧
    (s.md.mode.canPreserve = true → ∃ u, Sys2Proof.Machine.exec (.modeReqPreservation t o v) s = .next u ∧ Entered .preservation 4 s u) ∧
    (s.md.mode.canHoldup = true → ∃ u, Sys2Proof.Machine.exec (.modeReqHoldup t o v) s = .next u ∧ Entered .holdup 4 s u) ∧
    (s.md.mode = .boot → s.md.noImage = true → ∃ u, Sys2Proof.Machine.exec (.modeReqBench t o v) s = .next u ∧ Entered .bench 4 s u) ∧
    (s.md.mode = .boot → s.md.noImage = false → s.md.bootStage ≤ 4 → ∃ u, Sys2Proof.Machine.exec (.modeReqBench t o v) s = .next u ∧
      u.md = { s.md with benchReq := true }) ∧
    (bits v 3 0 ∉ [2, 3, 8, 9, 10, 11] → ∃ u, Sys2Proof.Machine.exec (.modeReqOther t o v) s = .next u ∧ u.md.mode = s.md.mode ∧
      bit (u.reg Reg.GCTL_ERR) 2 = true)

/-- What the device does on its own account: the watchdog, written in time, counts anew (R39), and after 500 ms without a write
Preservation is entered with cause 0x0C; PWR_FAIL_N low enters Holdup with cause 0x09 (R41), which ends in Reset; Preservation keeps
its map on a checkpoint and flushes the recorder (R40); a plan miss runs the slot on the static policies (R31); overload ends after 128 horizons (R51). -/
def Obligations.WatchdogHoldupAndOverload : Prop :=
  (∀ (t : Nat) (o : Origin) (v : Word) (s : State), Open s → ∃ u, Sys2Proof.Machine.exec (.watchdogKick t o v) s = .next u ∧
    u.md = { s.md with wdog := u.time.now }) ∧
  (∀ (t : Nat) (s : State), Ticking t s → s.md.mode.canPreserve = true → s.md.mode ≠ .relay → s.md.deferred = false →
    s.md.wdog + 500 * msTicks ≤ t →
    ∃ u, Sys2Proof.Machine.exec (.watchdogExpiry t) s = .next u ∧ Entered .preservation 0x0C s u) ∧
  (∀ (t : Nat) (s : State), s.time.running = true → s.md.mode.canHoldup = true →
    ∃ u, Sys2Proof.Machine.exec (.powerFail t) s = .next u ∧ Entered .holdup 9 s u ∧ u.md.pwrFailN = false) ∧
  (∀ (t : Nat) (s : State), s.md.mode = .holdup →
    ∃ u, Sys2Proof.Machine.exec (.holdupComplete t) s = .next u ∧ Entered .reset 0x15 s u ∧ u.md.holdupDone = true ∧
      u.md.rstSource = 4) ∧
  (∀ (t : Nat) (s : State), Ticking t s → s.md.mode = .preservation → s.path.mapChanged = true →
    s.path.ckptTick + 10 * secondTicks ≤ t →
    ∃ u, Sys2Proof.Machine.exec (.preservationCheckpoint t) s = .next u ∧ u.path.ckptTick = t ∧ u.path.mapChanged = false ∧
      u.path.ckptSeq = s.path.ckptSeq + 1 ∧ 2 ∈ u.dma.lines) ∧
  (∀ (t : Nat) (s : State), Ticking t s → s.md.mode.canPreserve = true → s.md.overload = true →
    ∃ u, Sys2Proof.Machine.exec (.planMiss t) s = .next u ∧
      u.md = { s.md with missWindow := windowOf t, missCount := (if s.md.missWindow = windowOf t then s.md.missCount + 1 else 1),
                         staticSlot := some (slotOf t) }) ∧
  (∀ (t : Nat) (s : State), Ticking t s → s.md.overload = true → s.md.missWindow + 129 ≤ windowOf t →
    ∃ u, Sys2Proof.Machine.exec (.overloadClear t) s = .next u ∧ u.md.overload = false)

/-- Relay, Bench and the key fuses: COMMIT and ABANDON end Relay, each with cause 0x0E to the mode it was entered from (R366), and two
seconds without either enter Preservation with cause 0x0C; a Bench test runs until its result, PASS with no error (R367; that PASS means
no error is DEDUCED, log 29); a burnt hash stands for its slot and revocation bits are only added (R368). -/
def Obligations.RelayBenchAndKeyFuses : Prop :=
  (∀ (t : Nat) (o : Origin) (v : Word) (s : State), Open s → s.md.mode = .relay → s.moor.relayHeld = [] →
    (bit v 1 = false → ∃ u, Sys2Proof.Machine.exec (.relayCommit t o v) s = .next u ∧ Entered s.md.relayFrom 0x0E s u ∧
      u.md.bootSlot = 1 - s.bootBlock.active) ∧
    (∃ u, Sys2Proof.Machine.exec (.relayAbandon t o v) s = .next u ∧ Entered s.md.relayFrom 0x0E s u ∧ u.md.fwLen = s.md.fwKept)) ∧
  (∀ (t : Nat) (s : State), Ticking t s → s.md.mode = .relay → s.md.tick + 2 * secondTicks ≤ t →
    ∃ u, Sys2Proof.Machine.exec (.relayTimeout t) s = .next u ∧ Entered .preservation 0x0C s u) ∧
  (∀ (t : Nat) (o : Origin) (v : Word) (s : State), s.md.mode = .bench → s.md.benchBusy = false →
    bits v 14 8 < benchTargets (bits v 3 0) →
    ∃ u, Sys2Proof.Machine.exec (.benchTestStart t o v) s = .next u ∧
      u.md = { s.md with benchBusy := true, benchPass := false, benchFail := false, benchErr := 0, benchTest := bits v 3 0,
                         benchTarget := bits v 14 8 }) ∧
  (∀ (t errors : Nat) (s : State), s.md.mode = .bench → s.md.benchBusy = true →
    ∃ u, Sys2Proof.Machine.exec (.benchTestDone t errors) s = .next u ∧ u.md.benchBusy = false ∧
      u.md.benchPass = decide (errors = 0) ∧ u.md.benchFail = decide (errors ≠ 0) ∧ u.md.benchErr = min errors 65535) ∧
  (∀ (t : Nat) (o : Origin) (v : Word) (s : State), s.md.mode = .bench → NMap.has s.md.enrolled (bits v 9 8) = false →
    ∃ u, Sys2Proof.Machine.exec (.keyBurn t o v) s = .next u ∧
      NMap.find u.md.enrolled (bits v 9 8) = some ((List.range 12).map (fun i => NMap.getD s.md.keyHash i 0)) ∧
      (∀ j, j ≠ bits v 9 8 → NMap.find u.md.enrolled j = NMap.find s.md.enrolled j)) ∧
  (∀ (t : Nat) (o : Origin) (v : Word) (s : State), s.md.mode = .bench → bit v 10 = false →
    ∃ u, Sys2Proof.Machine.exec (.keyRevoke t o v) s = .next u ∧ u.md = { s.md with revoked := s.md.revoked ||| bits v 7 4 })

/-- The Ledger's ROM routines (Table 16.2): each has its result; one that may not run has a refusal code and LDG_STATUS bit 2 (R342), and
changes neither bank; a program starts with the bytes of its source, an erase with the sector; a suspend and a resume act on the running
erase (R343). -/
def Obligations.LedgerRoutinesRunOrAreRefused : Prop :=
  ∀ (t : Nat) (s : State), s.md.mode ≠ .reset →
    (∀ o src len, o < ldgSize → (s.advanceTo t).progCode 0 (some o) len = 0 → inMemory src len = true →
      (s.advanceTo t).poisonedIn src len = none → s.ldg.vppLow = false → (s.bank (ldgBank o)).erase = none →
      Sys2Proof.Machine.exec (.ldgProgram t (ldgBase + o) src len) s = .next ((s.advanceTo t).updBank (ldgBank o) (fun k =>
        { k with prog := some { addr := o, bytes := s.memBytes src len, asker := 0, retried := false, resume := false } }))) ∧
    (∀ o src len c, o < ldgSize → (s.advanceTo t).progCode 0 (some o) len = c → c ≠ 0 →
      ∃ u, Sys2Proof.Machine.exec (.ldgProgram t (ldgBase + o) src len) s = .next u ∧ Sends (.romResult c) s u ∧
        u.ldg = { s.ldg with result := c }) ∧
    (∀ o, o < ldgSize → (s.advanceTo t).eraseCode (some o) = 0 → s.ldg.vppLow = false →
      ∃ u, Sys2Proof.Machine.exec (.ldgErase t (ldgBase + o)) s = .next u ∧ Sends (.romResult 0) s u ∧
        (u.bank (ldgBank o)).erase = some (ldgSector o) ∧ (u.bank (ldgBank o)).eraseStart = u.time.now ∧ u.ldg.cells = s.ldg.cells) ∧
    (∀ b sec, b < 2 → s.md.mode ≠ .slack → s.md.mode ≠ .locked → s.md.mode ≠ .holdup → (s.bank b).prog = none →
      (s.bank b).held = none → (s.bank b).erase = some sec →
      ((s.bank b).suspended = false → s.md.mode.guardsErase = false →
        ∃ u, Sys2Proof.Machine.exec (.ldgSuspend t b) s = .next u ∧ Sends (.romResult 0) s u ∧ (u.bank b).suspended = true ∧
          (u.bank b).erase = some sec) ∧
      ((s.bank b).suspended = true →
        ∃ u, Sys2Proof.Machine.exec (.ldgResume t b) s = .next u ∧ Sends (.romResult 0) s u ∧ (u.bank b).suspended = false ∧
          (u.bank b).runFrom = u.time.now)) ∧
    (∀ b, b < 2 → ∃ u, Sys2Proof.Machine.exec (.ldgPoll t b) s = .next u ∧
      u.ldg = { s.ldg with result := if (s.bank b).state = 0 ∨ (s.bank b).state = 4 then 0 else 1 } ∧
      Sends (.romResult u.ldg.result) s u) ∧
    (∀ o, o < ldgSize → ∃ u, Sys2Proof.Machine.exec (.ldgCycles t (ldgBase + o)) s = .next u ∧
      u.ldg = { s.ldg with result := s.cyclesOf (ldgBank o) (ldgSector o) } ∧ Sends (.romResult u.ldg.result) s u) ∧
    (∀ src len, s.md.mode ≠ .slack → s.md.mode ≠ .locked → (s.bank (ringBank s.rcdr.ringSector)).prog = none →
      (s.bank (ringBank s.rcdr.ringSector)).held = none → 0 < len → len ≤ 4096 → len % 32 = 0 → inMemory src len = true →
      (s.advanceTo t).poisonedIn src len = none →
      let x := s.advanceTo t
      Sys2Proof.Machine.exec (.ldgRectail t src len) s =
        .next ({ x with ldg := { x.ldg with waiting := (x.tailProgs (s.memBytes src len)).map LdgJob.prog ++ s.ldg.waiting } }).pump)

/-- The command window and the ends of the Ledger's operations: an unlock cycle begins and goes on, anything else breaks the sequence
(R341); a confirmed erase starts; a verified program's bytes stand in the array and nothing else changes in it, a mismatch is retried
once (R347); a verified erase leaves FFh in its sector, which counts one cycle more (R337, R346); a held suspend is carried out after
LDG_MINRUN (R344); an erase of 10,000 ms is reported (R345). -/
def Obligations.LedgerOperationsEnd : Prop :=
  (∀ (t : Nat) (org : Origin) (o : Nat) (s : State), s.md.mode ≠ .reset → o < ldgSize → o % 0x2000000 = 0x0A0A → s.ldg.seq = none →
    ∃ u q, Sys2Proof.Machine.exec (.commandWindowWrite t org o [0xA5, 0xC1]) s = .next u ∧ u.ldg.seq = some q ∧ q.step = 2 ∧
      q.bank = ldgBank o ∧ q.last = u.time.now ∧ u.ldg.cells = s.ldg.cells) ∧
  (∀ (t : Nat) (org : Origin) (o : Nat) (bytes : List Byte) (s : State), s.md.mode ≠ .reset → o < ldgSize → s.ldg.seq = none →
    ¬(bytes.length = 2 ∧ o % 0x2000000 = 0x0A0A ∧ leNat bytes = 0xC1A5) →
    ∃ u, Sys2Proof.Machine.exec (.commandWindowWrite t org o bytes) s = .next u ∧ u.ldg.seq = none ∧ u.ldg.cells = s.ldg.cells ∧
      bit (u.reg Reg.LDG_STATUS) 1 = true) ∧
  (∀ (t : Nat) (org : Origin) (o : Nat) (q : WinSeq) (s : State), s.md.mode ≠ .reset → Ticking t s → o < ldgSize →
    s.ldg.seq = some q → q.bank = ldgBank o → q.step = 4 → q.op = 0x80 → t ≤ q.last + msTicks →
    (s.advanceTo t).eraseCode (some o) = 0 → s.ldg.vppLow = false →
    ∃ u, Sys2Proof.Machine.exec (.commandWindowWrite t org o [0x30, 0x00]) s = .next u ∧ u.ldg.seq = none ∧ u.ldg.wstat = 0 ∧
      (u.bank (ldgBank o)).erase = some (ldgSector o)) ∧
  (∀ (t : Nat) (q : WinSeq) (s : State), Ticking t s → s.ldg.seq = some q → q.last + msTicks < t →
    ∃ u, Sys2Proof.Machine.exec (.windowSequenceTimeout t) s = .next u ∧ u.ldg = { s.ldg with seq := none } ∧
      bit (u.reg Reg.LDG_STATUS) 1 = true) ∧
  (∀ (t b : Nat) (p : LdgProg) (s : State), (s.bank b).prog = some p →
    (∃ u, Sys2Proof.Machine.exec (.ledgerProgramDone t b true) s = .next u ∧
      u.ldg.cells = Memory.writeBytes 0xFF s.ldg.cells p.addr p.bytes) ∧
    (p.retried = false → Sys2Proof.Machine.exec (.ledgerProgramDone t b false) s =
      .next ((s.advanceTo t).updBank b (fun k => { k with prog := some { p with retried := true } })))) ∧
  (∀ (t b sec : Nat) (s : State), (s.bank b).erase = some sec → (s.bank b).suspended = false →
    (∃ u, Sys2Proof.Machine.exec (.ledgerEraseDone t b true) s = .next u ∧
      (∀ a, Memory.read 0xFF u.ldg.cells a =
        if sectorBase b sec ≤ a ∧ a < sectorBase b sec + sectorSize sec then 0xFF else Memory.read 0xFF s.ldg.cells a) ∧
      (u.sector b sec).cycles = min ((s.sector b sec).cycles + 1) (2 ^ 24 - 1)) ∧
    ((s.bank b).retried = false → Sys2Proof.Machine.exec (.ledgerEraseDone t b false) s =
      .next ((s.advanceTo t).updBank b (fun k => { k with retried := true })))) ∧
  (∀ (t b asker : Nat) (p : Option LdgProg) (s : State), Ticking t s → (s.bank b).held = some (asker, p) →
    (s.bank b).runFrom + minRun ≤ t → ∃ u, Sys2Proof.Machine.exec (.minrunReached t b) s = .next u ∧
      (u.bank b).suspended = true ∧ (u.bank b).held = none) ∧
  (∀ (t b sec : Nat) (s : State), Ticking t s → (s.bank b).erase = some sec → (s.bank b).aged = false →
    (s.bank b).eraseStart + 10000 * msTicks ≤ t →
    ∃ u, Sys2Proof.Machine.exec (.eraseAgeLimit t b) s = .next u ∧ (u.bank b).aged = true ∧ bit (u.reg Reg.LDG_STATUS) 3 = true ∧
      u.ldg.cells = s.ldg.cells)

/-- The key lock and the key commands: a free lock is taken by an owner class (R332), released by its owner alone or after LOCKTO ms
without an access, with the staged key bytes zeroed (R333); a key command by the owner runs or ends with its code, and the staged bytes
are gone either way (R334): LOAD_GCM makes an unbound slot with a counter at 0 (R328), SETLIMIT replaces the limit (R329), CLEAR empties
the slot, LOAD_XTS asks the partner, or without one loads the slot at once (R327). -/
def Obligations.KeyLockAndKeyCommands : Prop :=
  (∀ (t : Nat) (o : Origin) (v : Word) (s : State), Open s →
    (s.ciph.lock = 0 → o ≠ .inband → ∃ u, Sys2Proof.Machine.exec (.lockTake t o v) s = .next u ∧
      u.ciph = { s.ciph with lock := ownerClass o, lockTick := u.time.now }) ∧
    (s.ciph.lock ≠ 0 → ∃ u, Sys2Proof.Machine.exec (.lockTake t o v) s = .next u ∧ u.ciph.lock = s.ciph.lock ∧
      u.ciph.keys = s.ciph.keys ∧ bit (u.reg Reg.CIPH_STATUS) 3 = true) ∧
    (s.ownsLock o = true → ∃ u, Sys2Proof.Machine.exec (.lockRelease t o v) s = .next u ∧ u.ciph.lock = 0 ∧ u.ciph.keys = [] ∧
      u.ciph.limset = 0 ∧ u.ciph.slots = s.ciph.slots) ∧
    (s.ownsLock o = false → ∃ u, Sys2Proof.Machine.exec (.lockRelease t o v) s = .next u ∧ u.ciph = s.ciph)) ∧
  (∀ (t : Nat) (s : State), Ticking t s → s.ciph.lock ≠ 0 → s.ciph.lockTick + s.regField Reg.CIPH_CTRL 7 0 * msTicks ≤ t →
    ∃ u, Sys2Proof.Machine.exec (.lockIdleTimeout t) s = .next u ∧ u.ciph.lock = 0 ∧ u.ciph.keys = [] ∧ u.ciph.slots = s.ciph.slots) ∧
  (∀ (t : Nat) (o : Origin) (v : Word) (s : State), Open s → When.allows .keyCommand s.md.mode = true → s.md.mode.noKeys = false →
    s.ciph.busy = false → s.ownsLock o = true →
    let slot := bits (s.pathReg o Reg.CIPH_KSEL) 12 0
    let code := fun op => s.keyCode (ownerClass o) slot op
    (code 1 = 0 → s.mirrors = false → ∃ u, Sys2Proof.Machine.exec (.loadXts t o v) s = .next u ∧
      NMap.find u.ciph.slots slot = some
        { gcm := false, owner := ownerClass o, refs := 0, key1 := s.stagedKey 0, key2 := s.stagedKey 8, ctr := 0, limit := 0, due := false,
          exhausted := false } ∧ u.ciph.keys = [] ∧ u.ciph.result = 0) ∧
    (code 1 = 0 → s.mirrors = true → ∃ u, Sys2Proof.Machine.exec (.loadXts t o v) s = .next u ∧ u.ciph.busy = true ∧
      u.ciph.slots = s.ciph.slots ∧
      Sends (.commit (s.moor.token + 1) (.keyLoad slot (ownerClass o) (s.stagedKey 0) (s.stagedKey 8))) s u) ∧
    (code 2 = 0 → ∃ u, Sys2Proof.Machine.exec (.loadGcm t o v) s = .next u ∧
      NMap.find u.ciph.slots slot = some
        { gcm := true, owner := ownerClass o, refs := 0, key1 := s.stagedKey 0, key2 := [], ctr := 0, limit := 2 ^ 32, due := false,
          exhausted := false } ∧ u.ciph.keys = [] ∧ u.ciph.result = 0) ∧
    (code 2 ≠ 0 → ∃ u, Sys2Proof.Machine.exec (.loadGcm t o v) s = .next u ∧ u.ciph.slots = s.ciph.slots ∧ u.ciph.keys = [] ∧
      u.ciph.result = code 2) ∧
    (∀ k, code 3 = 0 → NMap.find s.ciph.slots slot = some k → k.gcm = true →
      ∃ u, Sys2Proof.Machine.exec (.keyClear t o v) s = .next u ∧ NMap.find u.ciph.slots slot = none ∧ u.ciph.keys = [] ∧
        u.ciph.result = 0) ∧
    (∀ k, code 4 = 0 → NMap.find s.ciph.slots slot = some k → ∃ u, Sys2Proof.Machine.exec (.setLimit t o v) s = .next u ∧
      (NMap.find u.ciph.slots slot).map (·.limit) = some s.ciph.limset ∧ u.ciph.limset = 0 ∧ u.ciph.result = 0))

/-- The housekeeping DMA: the channel whose turn it is moves one burst, and no other byte of memory changes (R307); a descriptor it owns
is taken up (R311); a fault halts all channels (R315), and RESUME ends the halt (R317); a kick makes a waiting channel read its
descriptor (R311); a software request asserts its lines (R308); a channel starts afresh when it is enabled, and stops when it is disabled,
giving back the descriptor it holds (R314). -/
def Obligations.DmaMovesBurstsAndHalts : Prop :=
  (∀ (t c idx moved p q : Nat) (bytes : List Byte) (s : State), (s.advanceTo t).nextChannel = some c →
    (s.chan c).cur = some (bytes, idx, moved) →
    let d := readDesc bytes
    let n := burstLen (s.chBurst c) d.len d.src d.dst moved
    moved + n < d.len → s.translate (d.src + moved) n false = .at_ p → inMemory p n = true → s.poisonedIn p n = none →
    s.translate (d.dst + moved) n true = .at_ q → inMemory q n = true →
    ∃ u, Sys2Proof.Machine.exec (.dmaBurst t c) s = .next u ∧ u.mem.cells = Memory.writeBytes 0 s.mem.cells q (s.memBytes p n) ∧
      (u.chan c).cur = some (bytes, idx, moved + n)) ∧
  (∀ (t c p : Nat) (s : State), (s.advanceTo t).mayFetch c = true →
    s.translate (s.ringBase c + 32 * (s.chead c % s.ringSize c)) 32 false = .at_ p → inMemory p 32 = true → s.poisonedIn p 32 = none →
    (readDesc (s.memBytes p 32)).own = true → (readDesc (s.memBytes p 32)).bad = false →
    ∃ u, Sys2Proof.Machine.exec (.descriptorFetch t c) s = .next u ∧
      (u.chan c).cur = some (s.memBytes p 32, s.chead c % s.ringSize c, 0) ∧ u.mem = s.mem) ∧
  (∀ (t c a kind : Nat) (w : Bool) (s : State), s.dmaRuns = true → bit (s.reg Reg.ATPU_MSTATUS) 0 = false →
    ∃ u, Sys2Proof.Machine.exec (.busError t c a w kind) s = .next u ∧ u.dma.halted = true ∧ u.dma.haltTick = u.time.now ∧
      u.dma.mfault = a ∧ u.dma.mfinfo = c + b2n w * 32 + kind * 64 ∧ u.mem = s.mem) ∧
  (∀ (t : Nat) (o : Origin) (v : Word) (s : State), Open s → s.dma.halted = true → bit (s.reg Reg.ATPU_MSTATUS) 0 = false →
    ∃ u, Sys2Proof.Machine.exec (.dmaResume t o v) s = .next u ∧ u.dma.halted = false) ∧
  (∀ (t : Nat) (o : Origin) (v : Word) (s : State), Open s →
    (s.dma.halted = true → Sys2Proof.Machine.exec (.dmaKick t o v) s = .next (s.advanceTo t) ∧
      Sys2Proof.Machine.exec (.softwareRequest t o v) s = .next (s.advanceTo t)) ∧
    (∀ c p, c < 32 → v = BitVec.ofNat 32 (2 ^ c) → s.dmaRuns = true → s.chEn c = true → (s.chan c).stopped = false →
      (s.chan c).cur = none →
      s.translate (s.ringBase c + 32 * (s.chead c % s.ringSize c)) 32 false = .at_ p → inMemory p 32 = true → s.poisonedIn p 32 = none →
      (readDesc (s.memBytes p 32)).own = true → (readDesc (s.memBytes p 32)).bad = false →
      ∃ u, Sys2Proof.Machine.exec (.dmaKick t o v) s = .next u ∧ (u.chan c).cur = some (s.memBytes p 32, s.chead c % s.ringSize c, 0)) ∧
    (s.dma.halted = false → ∃ u, Sys2Proof.Machine.exec (.softwareRequest t o v) s = .next u ∧
      (∀ n, n ∈ u.dma.lines ↔ n ∈ s.dma.lines ∨ (32 ≤ n ∧ n < 64 ∧ bit v (n - 32) = true)) ∧
      u = { s with time := u.time, dma := { s.dma with lines := u.dma.lines } })) ∧
  (∀ (t c : Nat) (o : Origin) (v : Word) (s : State), Open s → c < 32 →
    (s.chEn c = false → (bit v 2 = true ∨ ∀ d, d < 32 → d ≠ c → (s.advanceTo t).chBound d (bits v 13 8) = false) →
      ∃ u, Sys2Proof.Machine.exec (.channelEnable t o c v) s = .next u ∧ u.chEn c = true ∧
        u.chan c = { stopped := false, idle := false, cur := none }) ∧
    (s.chEn c = true → ∃ u, Sys2Proof.Machine.exec (.channelDisable t o c v) s = .next u ∧ u.chEn c = false ∧
      (u.chan c).stopped = true ∧ (u.chan c).cur = none ∧
      (∀ bytes idx moved, (s.chan c).cur = some (bytes, idx, moved) → idx < 2 ^ 16 → u.chead c = idx)))

/-- Scrub, and the buffer pools: a scrubbed word with one error is corrected and noted, one with more poisons its line (R290, R291); a
request is granted from the top of the stack of the smallest pool that fits, or refused with its code (R294); a free returns the buffer
or is ignored (R296); batches move 1,024 entries between the stack and a chain (R297); a rebuilt chain is back on a chain (R298); a quota
below the floor is ignored (R299, R306); the sweep finds each owner's oldest bucket (R301). -/
def Obligations.ScrubAndBufferPools : Prop :=
  (∀ (t addr : Nat) (use : Option BufferUse) (s : State),
    ((inSram addr = true ∧ s.mem.sramDone = true) ∨ (inHbm addr = true ∧ s.mem.hbmDone = true)) →
    (inHbm addr = false → ∃ u, Sys2Proof.Machine.exec (.scrubPass t addr 1 use) s = .next u ∧
      bit (u.reg Reg.POOL_STATUS) 5 = true ∧ u.mem = { s.mem with ces := s.mem.ces ++ [(addr / 8 * 8, u.time.now)] }) ∧
    (∀ n, 2 ≤ n → s.mem.poison.contains (addr / 64) = false → s.mem.rewritten.contains (addr / 64) = false →
      s.carveOf addr = none → ∃ u, Sys2Proof.Machine.exec (.scrubPass t addr n none) s = .next u ∧
      bit (u.reg Reg.POOL_STATUS) 6 = true ∧ u.mem = { s.mem with poison := s.mem.poison ++ [addr / 64] })) ∧
  (∀ (t : Nat) (o : Origin) (v : Word) (s : State), Open s →
    let size := bits v 20 0
    let own := bits (s.pathReg o Reg.POOL_REQOWN) 15 0
    let p := poolFor size
    let valid := size ≠ 0 ∧ size ≤ 1048576 ∧ ownerValid own = true
    (¬valid → ∃ u, Sys2Proof.Machine.exec (.bufferRequest t o v) s = .next u ∧ NMap.find u.mem.grants (pathCode o) = some (0, 0, 4) ∧
      u.mem.pools = s.mem.pools) ∧
    (∀ x, valid → NMap.find s.mem.pools p = some x →
      (x.free = 0 → bit v 21 = false → ∃ u, Sys2Proof.Machine.exec (.bufferRequest t o v) s = .next u ∧
        NMap.find u.mem.grants (pathCode o) = some (0, 0, 2) ∧ u.mem.pools = s.mem.pools ∧ bit (u.reg Reg.POOL_STATUS) 0 = true) ∧
      (x.free ≠ 0 → (s.owner own).quota < (s.owner own).use + x.size / 512 →
        ∃ u, Sys2Proof.Machine.exec (.bufferRequest t o v) s = .next u ∧ NMap.find u.mem.grants (pathCode o) = some (0, 0, 3) ∧
          u.mem.pools = s.mem.pools ∧ bit (u.reg Reg.POOL_STATUS) 1 = true ∧ (u.owner own).held = true) ∧
      (x.free ≠ 0 → (s.owner own).use + x.size / 512 ≤ (s.owner own).quota → x.size / 512 + s.floorsOwed own ≤ s.freeUnits →
        (x.stack = [] → ∃ u, Sys2Proof.Machine.exec (.bufferRequest t o v) s = .next u ∧
          NMap.find u.mem.grants (pathCode o) = some (0, 0, 1) ∧ u.mem.pools = s.mem.pools) ∧
        (∀ a rest, x.stack = a :: rest → ∃ u, Sys2Proof.Machine.exec (.bufferRequest t o v) s = .next u ∧
          NMap.find u.mem.grants (pathCode o) = some (a, p, 0) ∧
          NMap.find u.mem.bufs a = some { owner := own, state := 1, tick := u.time.now, pool := p } ∧
          (u.owner own).use = (s.owner own).use + poolSizes.getD p 0 / 512 ∧
          (NMap.find u.mem.pools p).map (·.stack) = some rest)))) ∧
  (∀ (t : Nat) (o : Origin) (v : Word) (s : State), Open s →
    let a := (s.staged o Reg.POOL_FREE_LO).toNat + bits v 7 0 * 2 ^ 32
    let own := bits v 31 16
    (∀ b, s.freeCause a own = none → NMap.find s.mem.bufs a = some b → s.mem.waiting = [] →
      ∃ u, Sys2Proof.Machine.exec (.bufferFree t o v) s = .next u ∧
        (s.onRetiredPage a (poolSizes.getD b.pool 0) = false → NMap.find u.mem.bufs a = none ∧
          (u.owner own).use = (s.owner own).use - poolSizes.getD b.pool 0 / 512) ∧
        (s.onRetiredPage a (poolSizes.getD b.pool 0) = true → a ∈ u.mem.withdrawn)) ∧
    (∀ c, s.freeCause a own = some c → ∃ u, Sys2Proof.Machine.exec (.bufferFree t o v) s = .next u ∧ u.mem = s.mem ∧
      bit (u.reg Reg.POOL_STATUS) 3 = true)) ∧
  (∀ (t p c : Nat) (x : Pool) (s : State), NMap.find s.mem.pools p = some x → s.mem.waiting = [] →
    (x.refills ≠ 0 → x.chains.getD c [] ≠ [] → (∀ a ∈ (x.chains.getD c []).take 1024, s.listedOk p x a = true) →
      ∃ u y, Sys2Proof.Machine.exec (.stackBatchDone t p true c) s = .next u ∧ NMap.find u.mem.pools p = some y ∧
        y.stack = (x.chains.getD c []).take 1024 ++ x.stack ∧ y.chains = x.chains.set c ((x.chains.getD c []).drop 1024)) ∧
    (x.spills ≠ 0 → x.shortest < x.chains.length →
      ∃ u y, Sys2Proof.Machine.exec (.stackBatchDone t p false c) s = .next u ∧ NMap.find u.mem.pools p = some y ∧
        y.stack = x.stack.take (x.stack.length - 1024) ∧
        y.chains.getD x.shortest [] = x.stack.drop (x.stack.length - 1024) ++ x.chains.getD x.shortest []) ∧
    (x.lostChain ≠ [] → x.shortest < x.chains.length →
      ∃ u y, Sys2Proof.Machine.exec (.chainRebuilt t p) s = .next u ∧ NMap.find u.mem.pools p = some y ∧ y.lostChain = [] ∧
        y.chains.getD x.shortest [] = x.lostChain ++ x.chains.getD x.shortest [] ∧ y.stack = x.stack)) ∧
  (∀ (t : Nat) (s : State), Ticking t s → s.mem.ready = true → s.mem.sweepTick + secondTicks ≤ t →
    ∃ u, Sys2Proof.Machine.exec (.leakSweep t) s = .next u ∧ u.mem.sweepTick = t ∧ u.mem.bufs = s.mem.bufs ∧
      ∀ w, w ∈ s.mem.owners.map (·.1) → (u.owner w).oldest = u.oldestBucket w ∧ (u.owner w).held = false) ∧
  (∀ (t : Nat) (o : Origin) (v : Word) (s : State), Open s → When.allows .live s.md.mode = true →
    let w := bits (s.pathReg o Reg.POOL_OSEL) 15 0
    ((s.owner w).floor ≤ v.toNat → ∃ u, Sys2Proof.Machine.exec (.quotaWrite t o v) s = .next u ∧
      u.mem = { s.mem with owners := NMap.put s.mem.owners w { s.owner w with quota := v.toNat } }) ∧
    (v.toNat < (s.owner w).floor → ∃ u, Sys2Proof.Machine.exec (.quotaWrite t o v) s = .next u ∧ u.mem = s.mem))

/-- C2h Replication Control (R272 to R285): a link and a target are asked of the partner, or without one stand at once; they are deleted
in the same way; a volume becomes a replica; a set starts with the next number; queries are answered. Where the command names no link of
its volume it ends with code 2. -/
def Obligations.ReplicationLinksAreControlled : Prop :=
  ∀ (t cntl : Nat) (e : Sqe) (s : State), c2Action e ≤ 7 →
    let fetched := fun a => (s.advanceTo t).fetched cntl 0 (withC2Action a e)
    let id := fun a => c2Link (withC2Action a e)
    (∀ d n, Runs cntl (withC2Action 0 e) s → (fetched 0).featureNs e.nsid = some n →
      ((fetched 0).repl.links.filter (fun p => decide (p.1 < 128) && (decide (p.1 < 64) == n.home))).length < 64 →
      id 0 < 128 → decide (id 0 < 64) = n.home → NMap.find (fetched 0).repl.links (id 0) = none → (fetched 0).moor.commits = [] →
      (fetched 0).isSource (volOf e.nsid) = false → n.replica = none →
      (if c2Sync (withC2Action 0 e) then (fetched 0).fitsTarget d = true
        else 1 ≤ c2Interval (withC2Action 0 e) ∧ c2Interval (withC2Action 0 e) ≤ 86400) →
      d.keyid ≠ 0 → (∀ k, NMap.find (fetched 0).ciph.slots (keySlot d.keyid false) = some k → k.exhausted = false ∧ k.ctr < k.limit) →
      (∃ p ∈ (fetched 0).idm.sessions, p.2.purpose = 2 ∧ p.2.source = d.peer ∧ p.2.state ≠ 3) →
      ((fetched 0).mirrors = true → ∃ u, Sys2Proof.Machine.exec (.linkCreate t cntl e d true true) s = .next u ∧
        Sends (.commit ((fetched 0).moor.token + 1) (mirrorChange (.linkCreate (id 0) (volOf e.nsid)
          (b2n (c2Sync (withC2Action 0 e))) (c2Interval (withC2Action 0 e)) d))) (fetched 0) u) ∧
      ((fetched 0).mirrors = false → ∃ u l, Sys2Proof.Machine.exec (.linkCreate t cntl e d true true) s = .next u ∧
        NMap.find u.repl.links (id 0) = some l ∧ l.vol = volOf e.nsid ∧ l.sync = c2Sync (withC2Action 0 e) ∧
        l.interval = c2Interval (withC2Action 0 e) ∧ l.targets = [(0, freshTarget d l.sync)] ∧ l.setSeq = 0)) ∧
    (Runs cntl (withC2Action 1 e) s → ∀ n, (fetched 1).featureNs e.nsid = some n →
      ((fetched 1).linkOf (withC2Action 1 e) = none → ∃ u, Sys2Proof.Machine.exec (.linkDelete t cntl e) s = .next u ∧
        Answers cntl 0 e.cid 0 0x02 2 (fetched 1) u) ∧
      (∀ l, (fetched 1).linkOf (withC2Action 1 e) = some l →
        ((fetched 1).mirrors = true → ∃ u, Sys2Proof.Machine.exec (.linkDelete t cntl e) s = .next u ∧
          Sends (.commit ((fetched 1).moor.token + 1) (mirrorChange (.linkDelete (id 1)))) (fetched 1) u) ∧
        ((fetched 1).mirrors = false → ∃ u, Sys2Proof.Machine.exec (.linkDelete t cntl e) s = .next u ∧
          NMap.find u.repl.links (id 1) = none))) ∧
    (∀ d n l, Runs cntl (withC2Action 2 e) s → (fetched 2).featureNs e.nsid = some n → (fetched 2).linkOf (withC2Action 2 e) = some l →
      l.targets.length < 4 → l.sync = false ∨ (fetched 2).fitsTarget d = true →
      d.keyid ≠ 0 → (∀ k, NMap.find (fetched 2).ciph.slots (keySlot d.keyid false) = some k → k.exhausted = false ∧ k.ctr < k.limit) →
      (∃ p ∈ (fetched 2).idm.sessions, p.2.purpose = 2 ∧ p.2.source = d.peer ∧ p.2.state ≠ 3) →
      ((fetched 2).mirrors = true → ∃ u, Sys2Proof.Machine.exec (.targetAdd t cntl e d true true) s = .next u ∧
        Sends (.commit ((fetched 2).moor.token + 1) (mirrorChange (.targetAdd (id 2) d))) (fetched 2) u) ∧
      (∀ j, firstFree 0 4 (fun j => NMap.has l.targets j) = some j → (fetched 2).mirrors = false →
        ∃ u, Sys2Proof.Machine.exec (.targetAdd t cntl e d true true) s = .next u ∧
          u.target? (id 2) j = some (freshTarget d l.sync))) ∧
    (∀ n l, Runs cntl (withC2Action 3 e) s → (fetched 3).featureNs e.nsid = some n → (fetched 3).linkOf (withC2Action 3 e) = some l →
      NMap.has l.targets (c2Target (withC2Action 3 e)) = true →
      ((fetched 3).mirrors = true → ∃ u, Sys2Proof.Machine.exec (.targetRemove t cntl e) s = .next u ∧
        Sends (.commit ((fetched 3).moor.token + 1) (mirrorChange (.targetRemove (id 3) (c2Target (withC2Action 3 e))))) (fetched 3) u) ∧
      ((fetched 3).mirrors = false → ∃ u, Sys2Proof.Machine.exec (.targetRemove t cntl e) s = .next u ∧
        u.target? (id 3) (c2Target (withC2Action 3 e)) = none)) ∧
    (∀ d n, Runs cntl (withC2Action 4 e) s → (fetched 4).featureNs e.nsid = some n → (fetched 4).isSource (volOf e.nsid) = false →
      n.replica = none → ∃ u, Sys2Proof.Machine.exec (.replicaAccept t cntl e d) s = .next u ∧
        (u.ns? (volOf e.nsid)).map (·.replica) = some (some (d.pairId.toNat, d.linkid)) ∧
        NMap.find u.repl.replicas (volOf e.nsid) = some [] ∧ Answers cntl 0 e.cid 0 0 0 (fetched 4) u) ∧
    (∀ n l, Runs cntl (withC2Action 5 e) s → (fetched 5).featureNs e.nsid = some n → (fetched 5).linkOf (withC2Action 5 e) = some l →
      (l.sync = true → ∃ u, Sys2Proof.Machine.exec (.sendSetNow t cntl e) s = .next u ∧ Answers cntl 0 e.cid 0 0x02 2 (fetched 5) u) ∧
      (∀ m i, l.sync = false → l.busy = false → (∀ p ∈ (fetched 5).idm.sessions, p.2.purpose ≠ 2) → (fetched 5).ns? l.vol = some m →
        firstFree 0 1024 (NMap.has m.snaps) = some i → ∃ u, Sys2Proof.Machine.exec (.sendSetNow t cntl e) s = .next u ∧
        (NMap.find u.repl.links (id 5)).map (·.setSeq) = some (l.setSeq + 1))) ∧
    (∀ n l, Runs cntl (withC2Action 6 e) s → (fetched 6).featureNs e.nsid = some n → NMap.find (fetched 6).repl.links (id 6) = some l →
      ∃ u, Sys2Proof.Machine.exec (.linkQuery t cntl e) s = .next u ∧ Answers cntl 0 e.cid 0 0 0 (fetched 6) u ∧ u.repl = s.repl) ∧
    (Runs cntl (withC2Action 7 e) s → e.nsid = 0 → ∃ u, Sys2Proof.Machine.exec (.podQuery t cntl e) s = .next u ∧
      Answers cntl 0 e.cid 0 0 0 (fetched 7) u ∧ u.repl = s.repl)

/-- Replication at work: a frame for an accepted replica is stored with its ATICK, another is answered with its result (R274, R275); a
commit with nothing left to store is answered with 0 (R276); an answered frame is no longer in flight; a synchronous target that does not
answer by its deadline is missed and out of sync (R279); a set starts with its interval (R276); a target out of sync is tried every second
and resynchronised from a snapshot (R280). -/
def Obligations.ReplicationFramesSetsAndTargets : Prop :=
  (∀ (t session : Nat) (f : ReplFrame) (fault : Option LaneDecode) (x : Session) (s : State), s.session? session = some x → x.purpose = 2 →
    x.state = 2 → s.md.mode.admits = true → s.moor.fenced = false →
    (1 ≤ f.kind → f.kind ≤ 3 → s.frameResult f (fault.getD (framePlain f)) = 0 →
      ∃ u, Sys2Proof.Machine.exec (.replicationFrame t session f fault) s = .next u ∧
        (NMap.find u.repl.replicas f.tvol).bind (fun m => NMap.find m f.grain) = some f.atick ∧
        ∃ w ∈ u.adm.writes, w.seq = s.adm.nextSeq ∧ w.vol = f.tvol ∧ w.acc = some f.atick ∧ w.slba = 4 * f.grain) ∧
    (1 ≤ f.kind → f.kind ≤ 3 → s.frameResult f (fault.getD (framePlain f)) ≠ 0 →
      ∃ u, Sys2Proof.Machine.exec (.replicationFrame t session f fault) s = .next u ∧ u.adm = s.adm ∧ u.repl = s.repl ∧
        Sends (.frameAnswer session f.fseq (s.frameResult f (fault.getD (framePlain f)))) s u) ∧
    (∀ n, f.kind = 4 → s.ns? f.tvol = some n → n.replica.isSome = true → n.served = true → s.adm.writes = [] →
      ∃ u, Sys2Proof.Machine.exec (.replicationFrame t session f fault) s = .next u ∧ Sends (.frameAnswer session f.fseq 0) s u)) ∧
  (∀ (t i j unit : Nat) (f : ReplFrame) (l : Link) (x : Target) (s : State), NMap.find s.repl.links i = some l → s.target? i j = some x →
    x.flight.find? (fun y => y.1 == f.fseq) = some (f.fseq, none, unit) → f.result = 0 ∨ f.result = 4 → f.fseq ≠ x.commitSeq →
    Sys2Proof.Machine.exec (.replicationResult t i j f) s =
      .next ((s.advanceTo t).updTarget i j (fun x => { x with flight := x.flight.filter (fun y => y.1 != f.fseq) }))) ∧
  (∀ (t seq j i : Nat) (w : WriteOp) (l : Link) (x : Target) (s : State), Ticking t s → s.write? seq = some w → w.resv.isSome = true →
    j ∈ w.syncWait → w.deadline ≤ t → s.repl.links.find? (fun p => decide (p.2.vol = w.vol) && p.2.sync && p.2.home) = some (i, l) →
    s.target? i j = some x → (∀ v ∈ s.adm.writes, v.durable (s.needsAck v) = false) →
    ∃ u w', Sys2Proof.Machine.exec (.syncTargetDeadline t seq j) s = .next u ∧ (u.target? i j).map (·.state) = some 1 ∧
      u.write? seq = some w' ∧ j ∉ w'.syncWait ∧ j ∈ w'.syncMiss) ∧
  (∀ (t i k : Nat) (l : Link) (n : Ns) (s : State), Ticking t s → NMap.find s.repl.links i = some l → l.sync = false → l.home = true →
    s.md.mode.admits = true → s.md.overload = false → l.lastTick + l.interval * secondTicks ≤ t → l.busy = false →
    s.ns? l.vol = some n → firstFree 0 1024 (NMap.has n.snaps) = some k → (∀ p ∈ s.idm.sessions, p.2.purpose ≠ 2) →
    ∃ u, Sys2Proof.Machine.exec (.replicationInterval t i) s = .next u ∧
      (NMap.find u.repl.links i).map (fun l => (l.setSeq, l.lastTick)) = some (l.setSeq + 1, t)) ∧
  (∀ (t i j : Nat) (l : Link) (x : Target) (s : State), Ticking t s → NMap.find s.repl.links i = some l → s.target? i j = some x →
    l.home = true → l.sync = true → x.state = 1 → s.md.mode.admits = true → (∀ a, x.lastTry = some a → a + secondTicks ≤ t) →
    (∃ u, Sys2Proof.Machine.exec (.targetResyncAttempt t i j false) s = .next u ∧
      u.target? i j = some { x with lastTry := some t }) ∧
    (∀ n k, x.cur = none → (∃ p ∈ s.idm.sessions, p.2.purpose = 2 ∧ p.2.source = x.desc.peer ∧ p.2.state = 2) →
      s.ns? l.vol = some n → firstFree 0 1024 (NMap.has n.snaps) = some k →
      ∃ u, Sys2Proof.Machine.exec (.targetResyncAttempt t i j true) s = .next u ∧
        (NMap.find u.repl.links i).map (·.setSeq) = some (l.setSeq + 1) ∧
        (u.target? i j).map (fun x => (x.state, x.cur)) = some (2, some k)))

/-- Pods: every 100 ms a device sends its pod epoch and the master it knows (R281); a heartbeat of the present epoch or a later one is
noted, and a later one names the master (R281, R282); after half a second of silence the first device of the succession that hears a
majority becomes master, and without a majority there is none (R282, R283); a partition moves to its new holder (R284). -/
def Obligations.PodsChooseTheirMaster : Prop :=
  ∀ (t : Nat) (s : State), Ticking t s → s.inPod = true → s.md.mode.frontEnd = true →
    ((∀ a, s.repl.sentTick = some a → a + 100 * msTicks ≤ t) → s.moor.fenced = false →
      ∃ u, Sys2Proof.Machine.exec (.podHeartbeatSend t) s = .next u ∧ Sends (.heartbeat s.repl.podEpoch s.repl.master) s u ∧
        u.repl = { s.repl with sentTick := some t }) ∧
    (∀ d ep m, (ep < s.repl.podEpoch → Sys2Proof.Machine.exec (.podHeartbeat t d ep m) s = .next (s.advanceTo t)) ∧
      (s.repl.podEpoch ≤ ep → s.image.podSelf ≠ s.image.podDesignated → ∃ u, Sys2Proof.Machine.exec (.podHeartbeat t d ep m) s = .next u ∧
        u.repl = (if s.repl.podEpoch < ep ∧ m < 8 then { s.repl with heard := NMap.put s.repl.heard d t, master := some m, podEpoch := ep }
          else { s.repl with heard := NMap.put s.repl.heard d t }))) ∧
    (∀ m, s.repl.master = some m → m / 2 ≠ s.image.podSelf / 2 → (s.advanceTo t).heardDevice m = false →
      (s.advanceTo t).heardDevice (m / 2 * 2 + (1 - m % 2)) = false →
      (2 * (s.advanceTo t).reachable.length ≤ s.image.podPairs.length →
        ∃ u, Sys2Proof.Machine.exec (.masterSilence t) s = .next u ∧ u.repl = { s.repl with master := none }) ∧
      (s.image.podPairs.length < 2 * (s.advanceTo t).reachable.length → (s.advanceTo t).successor m = some s.image.podSelf →
        ∃ u, Sys2Proof.Machine.exec (.masterSilence t) s = .next u ∧
          u.repl = { s.repl with master := some s.image.podSelf, podEpoch := s.repl.podEpoch + 1 })) ∧
    (∀ p new, p < 256 → s.image.podPairs.contains new = true → s.holder p ≠ new →
      ∃ u, Sys2Proof.Machine.exec (.partitionHandover t p new) s = .next u ∧ u.repl = { s.repl with parts := NMap.put s.repl.parts p new })

/-- Beacons, the lease and the paths: a beacon leaves once a period on the beacon pair and, while the Decux link is up, there too (R248);
an accepted one renews the partner's lease from its STICK, and with GRANT this head's from the tick of the beacon that it answers (R252);
one that fails a check is not accepted (R249); a path silent for MISS periods is lost, and one heard in MISS periods is alive (R250); an
idle path is tested every 60 s (R270); a verdict renews the lease or not (R260); a tide exchange gives the skew, and in Join a head that
is behind takes the source's count (Table 11.4). -/
def Obligations.BeaconsLeaseAndPaths : Prop :=
  (∀ (t : Nat) (s : State), Ticking t s → s.md.mode.beacons = true → s.moor.fenced = false →
    (∀ b, s.moor.beaconTick = some b → b + s.period ≤ t) →
    ∃ u b, Sys2Proof.Machine.exec (.beaconSend t) s = .next u ∧ Sends (.beacon false b) s u ∧
      b.bseq = BitVec.ofNat 32 (s.moor.bseq + 1) ∧ b.stick = BitVec.ofNat 64 t ∧ b.pairId = s.moor.pairId ∧
      b.epoch = BitVec.ofNat 32 s.moor.epoch ∧ b.crc = crc32c (beaconBody b)) ∧
  (∀ (t : Nat) (dx : Bool) (b : Beacon) (s : State), s.md.mode = .paired → s.frameOk b = true →
    b.epoch.toNat = s.moor.epoch → (s.advanceTo t).stickOk b = true → (∀ r, s.moor.rxSeq = some r → psnLater b.bseq.toNat r = true) →
    ∃ u, Sys2Proof.Machine.exec (.beaconArrival t dx b) s = .next u ∧ u.md.mode = .paired ∧ u.moor.rxSeq = some b.bseq.toNat ∧
      u.moor.pmode = b.hm.toNat / 16 ∧
      u.moor.eP = (if b.hm.toNat / 16 = 4 ∧ s.bothLost = false then max s.moor.eP (b.stick.toNat + s.lease)
        else if (b.hm.toNat / 16 = 7 ∨ b.hm.toNat / 16 = 8) ∧ s.bothLost = false then max s.moor.eP (b.stick.toNat + s.lease)
        else s.moor.eP) ∧
      u.moor.eOwn = (if b.flags.toNat % 2 = 1 then
        (match s.moor.sticks.find? (fun x => x.1 == b.ackseq.toNat) with | some x => max s.moor.eOwn (x.2 + s.lease) | none => s.moor.eOwn)
        else s.moor.eOwn)) ∧
  (∀ (t : Nat) (dx : Bool) (b : Beacon) (s : State), s.md.mode = .paired → s.frameOk b = false →
    ∃ u, Sys2Proof.Machine.exec (.beaconArrival t dx b) s = .next u ∧ u.moor = s.moor ∧ u.md.mode = .paired) ∧
  (∀ (t : Nat) (dx : Bool) (s : State), Ticking t s → s.md.mode.beacons = true →
    ((s.moor.path dx).alive = true → (s.moor.path dx).lastAdv + s.missLimit * s.period ≤ t →
      ∃ u, Sys2Proof.Machine.exec (.pathCheck t dx) s = .next u ∧ (u.moor.path dx).alive = false ∧
        (u.moor.path dx).losses = eventCount (s.moor.path dx).losses ∧ bit (u.reg Reg.MOOR_STATUS) 0 = true) ∧
    ((s.moor.path dx).alive = false → (s.moor.path dx).checkTick + s.period ≤ t → (s.moor.path dx).advanced = true →
      s.missLimit ≤ (s.moor.path dx).goodRun + 1 →
      ∃ u, Sys2Proof.Machine.exec (.pathCheck t dx) s = .next u ∧ (u.moor.path dx).alive = true)) ∧
  (∀ (t : Nat) (dx ok : Bool) (s : State), Ticking t s → s.md.mode = .join ∨ s.md.mode = .sole → (s.moor.path dx).alive = false →
    (s.moor.path dx).loopTick + 60 * secondTicks ≤ t →
    ∃ u, Sys2Proof.Machine.exec (.beaconLoopCheck t dx ok) s = .next u ∧ (u.moor.path dx).faulty = !ok ∧
      (ok = false → bit (u.reg Reg.MOOR_STATUS) 5 = true)) ∧
  (∀ (t : Nat) (v c : Claim) (s : State), s.md.mode = .paired → s.moor.claim = some c → v.pairId = c.pairId → v.cseq = c.cseq →
    v.crc = crc32c (claimBody v) →
    (v.kind = 0x81 → ∃ u, Sys2Proof.Machine.exec (.verdict t v) s = .next u ∧ u.moor.claim = none ∧ u.moor.wheld = true ∧
      u.moor.eOwn = max s.moor.eOwn (c.stick.toNat + s.lease)) ∧
    (v.kind = 0x82 → ∃ u, Sys2Proof.Machine.exec (.verdict t v) s = .next u ∧ u.moor.claim = none ∧ u.moor.eOwn = s.moor.eOwn ∧
      bit (u.reg Reg.MOOR_STATUS) 4 = true)) ∧
  (∀ (t p : Nat) (k : Int) (s : State), Ticking t s → s.md.mode.beacons = true → s.md.mode ≠ .preservation → s.decuxUp = true →
    s.md.deferred = false → ∃ u, Sys2Proof.Machine.exec (.tideSyncExchange t p k) s = .next u ∧
      u.moor = { s.moor with skew := k, sync := decide (k.natAbs ≤ 20) } ∧
      u.time.now = (if s.md.mode = .join then max t p else t))

/-- The voters, takeover and the commands of MOOR_CMD: voters that agree act, with self-fence above partner lost (R256, R259, R262); a
voter whose measure is off fails its calibration (R257); Takeover ends in Sole (R263); the announcements are repeated (R263); YIELD
fences and releases (R255), WAKE asks for 50 beacons (R269); the switch ends Handback and Join (R267); a mirror stripe a second is read
back (R270). -/
def Obligations.VotersTakeoverAndSwitch : Prop :=
  (∀ (t : Nat) (s : State), s.md.mode = .paired → (∀ e, s.moor.evalTick = some e → (s.advanceTo t).time.now / 1000 ≠ e / 1000) →
    (∃ a b c, s.moor.voters = [a, b, c] ∧ a.ok = true ∧ b.ok = true ∧ c.ok = true ∧ a.tideFail = false ∧ b.tideFail = false ∧
      c.tideFail = false) →
    ((s.advanceTo t).fenceDue = true → s.moor.relayHeld = [] → ∃ u, Sys2Proof.Machine.exec (.voterEvaluation t 0 0) s = .next u ∧
      u.md.mode = .join ∧ u.moor.fenced = true ∧ u.adm.writes = []) ∧
    ((s.advanceTo t).fenceDue = false → (s.advanceTo t).lostDue = true →
      ∃ u, Sys2Proof.Machine.exec (.voterEvaluation t 0 0) s = .next u ∧ u.md.mode = .takeover) ∧
    ((s.advanceTo t).fenceDue = false → (s.advanceTo t).lostDue = false →
      ∃ u, Sys2Proof.Machine.exec (.voterEvaluation t 0 0) s = .next u ∧ u.md = s.md ∧ u.adm = s.adm)) ∧
  (∀ (t i m c : Nat) (v : Voter) (s : State), Ticking t s → s.moor.voters[i]? = some v → v.ok = true → s.md.mode.beacons = true →
    v.calTick = some c → ∃ u w, Sys2Proof.Machine.exec (.voterCalibration t i m) s = .next u ∧ u.moor.voters[i]? = some w ∧
      w = { v with calTick := some t, tideFail := decide (2 * (t - c) < m ∨ 2 * m < t - c) }) ∧
  (∀ (t : Nat) (s : State), s.md.mode = .takeover → ∃ u, Sys2Proof.Machine.exec (.takeoverComplete t) s = .next u ∧
    Entered .sole 0x12 s u) ∧
  (∀ (t a n : Nat) (p : Bool) (s : State), Ticking t s → s.moor.announce = some (a, n, p) → a + (n + 1) * secondTicks ≤ t →
    s.moor.fenced = false → ∃ u, Sys2Proof.Machine.exec (.addressAnnounceRepeat t) s = .next u ∧ Sends (.announce p) s u ∧
      u.moor = { s.moor with announce := if n = 1 then none else some (a, n + 1, p) }) ∧
  (∀ (t : Nat) (o : Origin) (v : Word) (s : State), Open s → bit v 1 = false →
    (s.md.mode = .paired → s.moor.relayHeld = [] → ∃ u, Sys2Proof.Machine.exec (.yield t o v) s = .next u ∧ u.md.mode = .join ∧
      u.moor.fenced = true ∧ u.moor.release = some (s.advanceTo t).time.now ∧ u.moor.releaseTx = 3) ∧
    (s.md.mode ≠ .paired → ∃ u, Sys2Proof.Machine.exec (.yield t o v) s = .next u ∧ u.md = s.md ∧ u.moor = s.moor)) ∧
  (∀ (t : Nat) (o : Origin) (v : Word) (s : State), Open s → bit v 0 = false →
    (s.md.mode = .join ∨ s.md.mode = .sole → ∃ u, Sys2Proof.Machine.exec (.wake t o v) s = .next u ∧
      u.moor = { s.moor with wakeLeft := 50 }) ∧
    (s.md.mode ≠ .join → s.md.mode ≠ .sole → ∃ u, Sys2Proof.Machine.exec (.wake t o v) s = .next u ∧ u.moor = s.moor)) ∧
  (∀ (t : Nat) (s : State), s.switchReady = true →
    (s.md.mode = .handback → s.moor.gotGrant = true → ∃ u, Sys2Proof.Machine.exec (.resyncSwitch t) s = .next u ∧ u.md.mode = .paired) ∧
    (s.md.mode = .join → ∃ u, Sys2Proof.Machine.exec (.resyncSwitch t) s = .next u ∧
      u.moor = { s.moor with resync := none, changes := [] })) ∧
  (∀ (t : Nat) (s : State), s.md.mode = .join → s.moor.resync = none → s.exchange = true → s.moor.pmode = 7 → s.moor.granted = true →
    s.moor.gotGrant = true → s.moor.rejoin = [] →
    ∃ u, Sys2Proof.Machine.exec (.resyncSwitch t) s = .next u ∧ u.md.mode = .paired ∧ u.path.empty = false) ∧
  (∀ (t band stripe : Nat) (ok : Bool) (s : State), Ticking t s → s.md.mode.backgroundRuns = true →
    (∀ r, s.moor.readbackTick = some r → r + secondTicks ≤ t) →
    (NMap.find s.path.bands band).any (fun b => b.st == .mirror && !b.dense) = true →
    (s.stripe? band stripe).any (fun x => x.sealedAt.isSome) = true →
    (ok = false → ∀ x ∈ s.path.stored, ¬(x.band = band ∧ x.stripe = stripe)) →
    ∃ u, Sys2Proof.Machine.exec (.mirrorReadback t band stripe ok) s = .next u ∧
      u.moor = { s.moor with readbacks := s.moor.readbacks + 1, readbackTick := some t,
                             readbackFails := s.moor.readbackFails + b2n (!ok) })

/-- The I/O queues: a completion queue is made as the command says (R195); a submission queue takes its completion queue's device queue
number, or a free one (R193, R194); a deletion waits for the queue's commands, and with none left the queue goes (R196); a completion queue
goes once its submission queue is gone (R196). -/
def Obligations.IoQueuesAreMadeAndDeleted : Prop :=
  (∀ (t cntl : Nat) (e : Sqe) (s : State), Runs cntl e s →
    let y := (s.advanceTo t).fetched cntl 0 e
    y.cqKey cntl (qidOf e) = none → y.qidAllowed cntl (qidOf e) = true → qsizeOf e ≤ 65535 → qpcOf e = true →
    loneKey cntl (qidOf e) ≠ adminKey cntl →
    ∃ u q, Sys2Proof.Machine.exec (.createIoCq t cntl e true) s = .next u ∧ Answers cntl 0 e.cid 0 0 0 y u ∧
      NMap.find u.nvq.cqs (loneKey cntl (qidOf e)) = some q ∧ q.cntl = cntl ∧ q.qid = qidOf e ∧ q.size = qsizeOf e ∧ q.key = dkeyOf e ∧
      q.offset = dofsOf e ∧ q.ien = qienOf e ∧ q.head = 0) ∧
  (∀ (t cntl key dqn : Nat) (c : Cq) (e : Sqe) (s : State), Runs cntl e s →
    let y := (s.advanceTo t).fetched cntl 0 e
    cqidOf e = qidOf e → qidOf e ≠ 0 → y.cqKey cntl (qidOf e) = some key → y.queueKey cntl (qidOf e) = none →
    y.qidAllowed cntl (qidOf e) = true → qsizeOf e ≤ 65535 → qpcOf e = true →
    (if key < 16384 then some key else y.freeDqn) = some dqn → NMap.find y.nvq.cqs key = some c → key ≠ adminKey cntl → dqn ≠ adminKey cntl →
    ∃ u q, Sys2Proof.Machine.exec (.createIoSq t cntl e true) s = .next u ∧ Answers cntl 0 e.cid 0 0 dqn y u ∧
      NMap.find u.nvq.sqs dqn = some q ∧ q.cntl = cntl ∧ q.qid = qidOf e ∧ q.dqn = dqn ∧ q.size = qsizeOf e ∧ q.key = dkeyOf e ∧
      q.offset = dofsOf e ∧ q.head = 0 ∧ q.holdLimit = 0 ∧ q.deleting = none ∧
      (NMap.find u.nvq.cqs dqn).map (fun q => (q.cntl, q.qid, q.dqn)) = some (c.cntl, c.qid, dqn)) ∧
  (∀ (t cntl key : Nat) (q : Sq) (c : Ctrl) (e : Sqe) (s : State), Runs cntl e s →
    let y := (s.advanceTo t).fetched cntl 0 e
    qidOf e ≠ 0 → y.queueKey cntl (qidOf e) = some key → NMap.find y.nvq.sqs key = some q → q.cntl = cntl → q.qid = qidOf e →
    key ≠ adminKey cntl → (∀ h ∈ y.adm.held, h.dqn ≠ key) → NMap.find y.nvq.ctrls cntl = some c →
    (∀ x ∈ c.outstanding, x.1 = 0 ∨ x.2.1.opcode ≠ 0) →
    ((∀ x ∈ c.outstanding, x.1 ≠ qidOf e) → y.resvOf key = none → ∃ u, Sys2Proof.Machine.exec (.deleteIoSq t cntl e) s = .next u ∧
      Answers cntl 0 e.cid 0 0 0 y u ∧ NMap.find u.nvq.sqs key = none) ∧
    ((∃ x ∈ c.outstanding, x.1 = qidOf e) → ∃ u, Sys2Proof.Machine.exec (.deleteIoSq t cntl e) s = .next u ∧
      NMap.find u.nvq.sqs key = some { q with deleting := some e.cid } ∧ u.outbox = s.outbox)) ∧
  (∀ (t cntl key : Nat) (e : Sqe) (s : State), Runs cntl e s →
    let y := (s.advanceTo t).fetched cntl 0 e
    qidOf e ≠ 0 → y.cqKey cntl (qidOf e) = some key → key ≠ adminKey cntl →
    (y.queueKey cntl (qidOf e) = none → ∃ u, Sys2Proof.Machine.exec (.deleteIoCq t cntl e) s = .next u ∧
      Answers cntl 0 e.cid 0 0 0 y u ∧ NMap.find u.nvq.cqs key = none) ∧
    (y.queueKey cntl (qidOf e) ≠ none → ∃ u, Sys2Proof.Machine.exec (.deleteIoCq t cntl e) s = .next u ∧
      Answers cntl 0 e.cid 1 0x0C 0 y u ∧ ∀ k, (NMap.find u.nvq.cqs k).map (·.qid) = (NMap.find y.nvq.cqs k).map (·.qid)))

/-- Logs, Identify and Abort: the data asked for goes to the host (R207, R215), and reading log C3h clears it (R206); an Abort ends a held
command with Command Abort Requested (R210), and one that finds nothing says so in dword 0. Event requests wait, or report at once what is
pending (R216); a fifth is one too many. -/
def Obligations.LogsIdentifyAbortAndEvents : Prop :=
  (∀ (t cntl : Nat) (d : List Byte) (x : Session) (e : Sqe) (s : State), Runs cntl e s →
    let y := (s.advanceTo t).fetched cntl 0 e
    let off := e.dw12.toNat + e.dw13.toNat * 2 ^ 32
    y.logPage (bits e.dw10 7 0) = some d → off % 4 = 0 → off ≤ d.length → y.session? (y.ctrlSession cntl) = some x →
    ∃ u p, Sys2Proof.Machine.exec (.getLogPage t cntl e) s = .next u ∧ Answers cntl 0 e.cid 0 0 0 y u ∧
      Queued (y.ctrlSession cntl) u p ∧ p.opcode = 1 ∧ p.key = dkeyOf e ∧ p.offset = dofsOf e ∧
      p.payload = (((d.drop off).take (4 * (bits e.dw10 31 16 + bits e.dw11 15 0 * 65536 + 1))).take 8192) ∧
      (bits e.dw10 7 0 = 0xC3 → u.nvq.orphans = [])) ∧
  (∀ (t cntl : Nat) (d : List Byte) (x : Session) (e : Sqe) (s : State), Runs cntl e s →
    let y := (s.advanceTo t).fetched cntl 0 e
    bits e.dw10 7 0 ∈ [0x00, 0x01, 0x02, 0x03, 0x10, 0x11, 0x12, 0x13] → y.identifyData cntl (bits e.dw10 7 0) e.nsid = some d →
    y.session? (y.ctrlSession cntl) = some x →
    ∃ u p, Sys2Proof.Machine.exec (.identify t cntl e) s = .next u ∧ Answers cntl 0 e.cid 0 0 0 y u ∧
      Queued (y.ctrlSession cntl) u p ∧ p.opcode = 1 ∧ p.key = dkeyOf e ∧ p.offset = dofsOf e ∧ p.payload = d.take 8192) ∧
  (∀ (t cntl : Nat) (c : Ctrl) (e : Sqe) (s : State), Runs cntl e s →
    let y := (s.advanceTo t).fetched cntl 0 e
    NMap.find y.nvq.ctrls cntl = some c → c.abortTick ≠ y.time.now ∨ c.aborts < 4 →
    (∀ h, bits e.dw10 15 0 ≠ 0 → Ready cntl (bits e.dw10 15 0) s →
      y.adm.held.find? (fun h => h.cntl == cntl && h.qid == bits e.dw10 15 0 && h.cmd.cid == bits e.dw10 31 16) = some h →
      ∃ u, Sys2Proof.Machine.exec (.abort t cntl e) s = .next u ∧ Answers cntl (bits e.dw10 15 0) (bits e.dw10 31 16) 0 0x07 0 y u ∧
        u.adm.held = y.adm.held.filter (fun x => x != h)) ∧
    (y.adm.held.find? (fun h => h.cntl == cntl && h.qid == bits e.dw10 15 0 && h.cmd.cid == bits e.dw10 31 16) = none →
      y.rcmd? cntl (bits e.dw10 15 0) (bits e.dw10 31 16) = none →
      ∃ u, Sys2Proof.Machine.exec (.abort t cntl e) s = .next u ∧ Answers cntl 0 e.cid 0 0 1 y u ∧ u.adm = y.adm)) ∧
  (∀ (t cntl : Nat) (c : Ctrl) (e : Sqe) (s : State), Runs cntl e s →
    let y := (s.advanceTo t).fetched cntl 0 e
    NMap.find y.nvq.ctrls cntl = some c →
    (4 ≤ c.aers.length → ∃ u, Sys2Proof.Machine.exec (.asyncEventRequest t cntl e) s = .next u ∧ Answers cntl 0 e.cid 1 0x05 0 y u) ∧
    (c.aers.length < 4 → c.notices.find? (fun n => !c.masked.contains n) = none →
      ∃ u, Sys2Proof.Machine.exec (.asyncEventRequest t cntl e) s = .next u ∧ u.outbox = y.outbox ∧
        NMap.find u.nvq.ctrls cntl = some { c with aers := c.aers ++ [e.cid] }) ∧
    (∀ n, c.aers = [] → c.notices.find? (fun n => !c.masked.contains n) = some n →
      ∃ u, Sys2Proof.Machine.exec (.asyncEventRequest t cntl e) s = .next u ∧ Answers cntl 0 e.cid 0 0 n y u))

/-- The features (Table 9.6): what is set is in force, and reads back; the hold limit is its queue's (R72), the compression and dedup
policies are their namespace's (R99, R119); a dedup policy is asked of the partner first. -/
def Obligations.FeaturesAreSetAndRead : Prop :=
  (∀ (t cntl : Nat) (e : Sqe) (s : State), Runs cntl e s →
    let y := (s.advanceTo t).fetched cntl 0 e
    (bits e.dw10 7 0 = 0x01 → ∃ u c, Sys2Proof.Machine.exec (.setFeatures t cntl e) s = .next u ∧ Answers cntl 0 e.cid 0 0 0 y u ∧
      NMap.find u.nvq.ctrls cntl = some c ∧ c.arb = bits e.dw11 2 0) ∧
    (bits e.dw10 7 0 = 0x08 → ∃ u c, Sys2Proof.Machine.exec (.setFeatures t cntl e) s = .next u ∧ Answers cntl 0 e.cid 0 0 0 y u ∧
      NMap.find u.nvq.ctrls cntl = some c ∧ c.coalesce = bits e.dw11 15 0) ∧
    (bits e.dw10 7 0 = 0x0B → ∃ u c, Sys2Proof.Machine.exec (.setFeatures t cntl e) s = .next u ∧ Answers cntl 0 e.cid 0 0 0 y u ∧
      NMap.find u.nvq.ctrls cntl = some c ∧ c.aerConf = e.dw11.toNat) ∧
    (bits e.dw10 7 0 = 0x04 → bits e.dw11 19 16 = 0 →
      (bits e.dw11 21 20 = 0 → ∃ u, Sys2Proof.Machine.exec (.setFeatures t cntl e) s = .next u ∧ Answers cntl 0 e.cid 0 0 0 y u ∧
        u.nvq.tempOver = bits e.dw11 15 0 ∧ u.nvq.tempUnder = s.nvq.tempUnder) ∧
      (bits e.dw11 21 20 = 1 → ∃ u, Sys2Proof.Machine.exec (.setFeatures t cntl e) s = .next u ∧ Answers cntl 0 e.cid 0 0 0 y u ∧
        u.nvq.tempUnder = bits e.dw11 15 0 ∧ u.nvq.tempOver = s.nvq.tempOver)) ∧
    (bits e.dw10 7 0 ∉ [0x01, 0x04, 0x07, 0x08, 0x0B, 0xC0, 0xC1, 0xC2] →
      ∃ u, Sys2Proof.Machine.exec (.setFeatures t cntl e) s = .next u ∧ Answers cntl 0 e.cid 0 0x02 0 y u)) ∧
  (∀ (t cntl key : Nat) (q : Sq) (e : Sqe) (s : State), Runs cntl (withFid 0xC0 e) s →
    let y := (s.advanceTo t).fetched cntl 0 (withFid 0xC0 e)
    bits e.dw11 15 0 ≠ 0 → y.queueKey cntl (bits e.dw11 15 0) = some key → NMap.find y.nvq.sqs key = some q →
    (∀ h ∈ y.adm.held, h.dqn ≠ key) → y.moor.relayHeld = [] →
    ∃ u, Sys2Proof.Machine.exec (.setFeaturesHoldLimit t cntl e) s = .next u ∧ Answers cntl 0 e.cid 0 0 0 y u ∧
      NMap.find u.nvq.sqs key = some { q with holdLimit := e.dw12.toNat }) ∧
  (∀ (t cntl : Nat) (n : Ns) (e : Sqe) (s : State), Runs cntl (withFid 0xC1 e) s →
    let y := (s.advanceTo t).fetched cntl 0 (withFid 0xC1 e)
    y.featureNs e.nsid = some n → bits e.dw11 1 0 ≠ 3 →
    (bits e.dw11 1 0 = 2 → 8 ≤ bits e.dw11 8 4 ∧ bits e.dw11 8 4 ≤ 18 ∧ bits e.dw12 15 0 ≠ 0) →
    ∃ u, Sys2Proof.Machine.exec (.setFeaturesCompression t cntl e) s = .next u ∧ Answers cntl 0 e.cid 0 0 0 y u ∧
      u.ns? (volOf e.nsid) = some { n with cmode := bits e.dw11 1 0, cw := (if bits e.dw11 1 0 = 2 then bits e.dw11 8 4 else 0),
                                           cl := (if bits e.dw11 1 0 = 2 then bits e.dw12 15 0 else 0) }) ∧
  (∀ (t cntl : Nat) (n : Ns) (e : Sqe) (s : State), Runs cntl (withFid 0xC2 e) s →
    let y := (s.advanceTo t).fetched cntl 0 (withFid 0xC2 e)
    y.featureNs e.nsid = some n → bits e.dw11 1 0 ≠ 3 →
    (bits e.dw11 1 0 = 2 → y.inlineFits = false → ∃ u, Sys2Proof.Machine.exec (.setFeaturesDedup t cntl e) s = .next u ∧
      Answers cntl 0 e.cid 7 0x80 4 y u) ∧
    ((bits e.dw11 1 0 = 2 → y.inlineFits = true) → y.mirrors = true →
      ∃ u, Sys2Proof.Machine.exec (.setFeaturesDedup t cntl e) s = .next u ∧
        Sends (.commit (y.moor.token + 1) (.dedupPolicy (volOf e.nsid) (bits e.dw11 1 0))) y u) ∧
    ((bits e.dw11 1 0 = 2 → y.inlineFits = true) → y.mirrors = false →
      ∃ u, Sys2Proof.Machine.exec (.setFeaturesDedup t cntl e) s = .next u ∧ Answers cntl 0 e.cid 0 0 0 y u ∧
        u.ns? (volOf e.nsid) = some { n with dedup := bits e.dw11 1 0 })) ∧
  (∀ (t cntl d0 d1 sc : Nat) (e : Sqe) (s : State), Runs cntl e s →
    let y := (s.advanceTo t).fetched cntl 0 e
    (y.featureValue cntl e = .ok (d0, d1) → bits e.dw10 10 8 = 0 →
      ∃ u, Sys2Proof.Machine.exec (.getFeatures t cntl e) s = .next u ∧ Answers cntl 0 e.cid 0 0 d0 y u) ∧
    (y.featureValue cntl e = .error sc → ∃ u, Sys2Proof.Machine.exec (.getFeatures t cntl e) s = .next u ∧ Answers cntl 0 e.cid 0 sc 0 y u))

/-- Namespaces and self-tests: a namespace takes the lowest free number and the default key slot (R208, R326), on both heads at one tick
where the pair is together; it goes with its deletion; attachment follows SEL (R22). A self-test starts unless one runs (R213), and its end
or abort leaves its result in log 06h (R214). -/
def Obligations.NamespacesAndSelfTests : Prop :=
  (∀ (t cntl nsze flbas vol : Nat) (e : Sqe) (s : State), Runs cntl e s →
    let y := (s.advanceTo t).fetched cntl 0 e
    let ks := y.regField Reg.CIPH_DEFSLOT 12 0
    nsze % 16 = 0 → nsze ≠ 0 → flbas ≤ 1 → y.unitsUsed + nsze / 16 ≤ y.mapUnits → y.image.podPairs = [] → y.freeVol = some vol →
    y.xtsReady ks = true → y.ns? vol = none →
    (y.mirrors = true → ∃ u, Sys2Proof.Machine.exec (.namespaceCreate t cntl e nsze nsze flbas) s = .next u ∧
      Sends (.commit (y.moor.token + 1) (.nsCreate vol flbas (nsze / 16) ks false)) y u ∧ u.ns? vol = none) ∧
    (y.mirrors = false → ∃ u, Sys2Proof.Machine.exec (.namespaceCreate t cntl e nsze nsze flbas) s = .next u ∧
      Answers cntl 0 e.cid 0 0 (vol + 1) y u ∧ u.ns? vol = some (newNs flbas (nsze / 16) ks true))) ∧
  (∀ (t cntl : Nat) (n : Ns) (e : Sqe) (s : State), Runs cntl e s →
    let y := (s.advanceTo t).fetched cntl 0 e
    y.featureNs e.nsid = some n →
    (y.mirrors = true → ∃ u, Sys2Proof.Machine.exec (.namespaceDelete t cntl e) s = .next u ∧
      Sends (.commit (y.moor.token + 1) (.nsDelete (volOf e.nsid))) y u) ∧
    (y.mirrors = false → ∃ u, Sys2Proof.Machine.exec (.namespaceDelete t cntl e) s = .next u ∧
      Answers cntl 0 e.cid 0 0 0 y u ∧ u.ns? (volOf e.nsid) = none)) ∧
  (∀ (t cntl : Nat) (n : Ns) (cntls : List Nat) (e : Sqe) (s : State), Runs cntl e s →
    let y := (s.advanceTo t).fetched cntl 0 e
    y.featureNs e.nsid = some n → cntls ≠ [] → (∀ c ∈ cntls, NMap.has y.nvq.ctrls c = true) →
    (bits e.dw10 3 0 = 0 → (∀ c ∈ cntls, c ∉ n.attached) → ∃ u, Sys2Proof.Machine.exec (.namespaceAttachment t cntl e cntls) s = .next u ∧
      Answers cntl 0 e.cid 0 0 0 y u ∧ u.ns? (volOf e.nsid) = some { n with attached := n.attached ++ cntls }) ∧
    (bits e.dw10 3 0 = 1 → (∀ c ∈ cntls, c ∈ n.attached) → ∃ u, Sys2Proof.Machine.exec (.namespaceAttachment t cntl e cntls) s = .next u ∧
      Answers cntl 0 e.cid 0 0 0 y u ∧
      u.ns? (volOf e.nsid) = some { n with attached := n.attached.filter (fun c => !cntls.contains c) })) ∧
  (∀ (t cntl : Nat) (e : Sqe) (s : State), Runs cntl e s → e.nsid = 0 ∨ e.nsid = 0xFFFFFFFF →
    let y := (s.advanceTo t).fetched cntl 0 e
    (s.nvq.testOp = 0 → ∃ u, Sys2Proof.Machine.exec (.selfTestShort t cntl e) s = .next u ∧ Answers cntl 0 e.cid 0 0 0 y u ∧
      u.nvq.testOp = 1 ∧ u.nvq.testPercent = 0 ∧ u.nvq.testStart = y.time.now) ∧
    (s.nvq.testOp = 0 → ∃ u, Sys2Proof.Machine.exec (.selfTestExtended t cntl e) s = .next u ∧ Answers cntl 0 e.cid 0 0 0 y u ∧
      u.nvq.testOp = 2 ∧ u.nvq.testPercent = 0 ∧ u.nvq.testStart = y.time.now) ∧
    (s.nvq.testOp ≠ 0 → ∃ u w, Sys2Proof.Machine.exec (.selfTestShort t cntl e) s = .next u ∧
      Sys2Proof.Machine.exec (.selfTestExtended t cntl e) s = .next w ∧ Answers cntl 0 e.cid 1 0x1D 0 y u ∧ Answers cntl 0 e.cid 1 0x1D 0 y w) ∧
    (s.nvq.testOp ≠ 0 → ∃ u, Sys2Proof.Machine.exec (.selfTestAbort t cntl e) s = .next u ∧ Answers cntl 0 e.cid 0 0 0 y u ∧
      u.nvq.testOp = 0 ∧ u.nvq.testResults = ((s.nvq.testOp, 1, 0) :: s.nvq.testResults).take 20)) ∧
  (∀ (t seg : Nat) (s : State), s.nvq.testOp ≠ 0 → ∃ u, Sys2Proof.Machine.exec (.selfTestDone t seg none) s = .next u ∧
    u.nvq = { s.nvq with testOp := 0, testPercent := 0,
                         testResults := ((s.nvq.testOp, if seg = 0 then 0 else 7, seg) :: s.nvq.testResults).take 20 })

/-- C0h Set Reservation (R60, R62, R211, R212, R418): a create that fits is asked of the partner, or without one stands at once with the
queue bound; one that does not fit ends with its code of Table 3.4; a change takes effect in the same way; a deletion needs no consent; a
query answers USED and CREDIT as they stand; REBIND binds or deletes an unbound reservation. In Relay a C0h waits (R34). -/
def Obligations.ReservationsAreMadeChangedAndDeleted : Prop :=
  (∀ (t cntl dqn i : Nat) (e : Sqe) (s : State), Runs cntl (withAction 0 e) s →
    let f := withAction 0 e
    let y := (s.advanceTo t).fetched cntl 0 f
    let code := fitCode y.fitArgs (y.withResv i (y.freshResv (c0Rate f) (c0Burst f) (c0D f) (c0Pull f) true dqn cntl))
    s.md.mode ≠ .relay → e.nsid = 0 → e.dw14 = 0 → c0Qid f ≠ 0 → y.queueKey cntl (c0Qid f) = some dqn → y.queueTaken cntl (c0Qid f) dqn = false →
    c0Ranges f = true → (c0Pull f = true ∨ c0PushOk f = true) → firstFree (y.indexBase cntl) 256 y.indexTaken = some i →
    (code ≠ 0 → ∃ u, Sys2Proof.Machine.exec (.reservationCreate t cntl e) s = .next u ∧ Answers cntl 0 e.cid 7 0x80 code y u ∧
      u.adm.resv = y.adm.resv) ∧
    (code = 0 → (c0Pull f = true ∨ (y.pushRange (c0PushSz f)).isSome = true) →
      (y.mirrors = true → ∃ u, Sys2Proof.Machine.exec (.reservationCreate t cntl e) s = .next u ∧
        Sends (.commit (y.moor.token + 1) (.resvCreate (partnerIndex i) (c0Rate f) (c0Burst f) (c0D f) (c0Pull f))) y u ∧
        u.adm.resv = y.adm.resv) ∧
      (y.mirrors = false → ∃ u r, Sys2Proof.Machine.exec (.reservationCreate t cntl e) s = .next u ∧ Answers cntl 0 e.cid 0 0 i y u ∧
        NMap.find u.adm.resv i = some r ∧ r.rate = c0Rate f ∧ r.burst = c0Burst f ∧ r.d = c0D f ∧ r.pull = c0Pull f ∧ r.dqn = dqn ∧
        r.cntl = cntl ∧ r.home = true ∧ r.used = 0 ∧ r.credit = c0Burst f))) ∧
  (∀ (t cntl i : Nat) (r : Resv) (e : Sqe) (s : State), Runs cntl (withAction 1 e) s →
    let f := withAction 1 e
    let y := (s.advanceTo t).fetched cntl 0 f
    s.md.mode ≠ .relay → e.nsid = 0 → e.dw14 = 0 → (y.queueKey cntl (c0Qid f)).bind y.resvOf = some i → NMap.find y.adm.resv i = some r →
    c0Ranges f = true → fitCode y.fitArgs (y.withResv i (r.changed (c0Rate f) (c0Burst f) (c0D f))) = 0 →
    (y.mirrors = true → ∃ u, Sys2Proof.Machine.exec (.reservationChange t cntl e) s = .next u ∧
      Sends (.commit (y.moor.token + 1) (.resvChange (partnerIndex i) (c0Rate f) (c0Burst f) (c0D f))) y u ∧ u.adm.resv = y.adm.resv) ∧
    (y.mirrors = false → ∃ u, Sys2Proof.Machine.exec (.reservationChange t cntl e) s = .next u ∧ Answers cntl 0 e.cid 0 0 0 y u ∧
      NMap.find u.adm.resv i = some (r.changed (c0Rate f) (c0Burst f) (c0D f)))) ∧
  (∀ (t cntl i : Nat) (e : Sqe) (s : State), Runs cntl (withAction 2 e) s →
    let f := withAction 2 e
    let y := (s.advanceTo t).fetched cntl 0 f
    s.md.mode ≠ .relay → e.nsid = 0 → e.dw14 = 0 → (y.queueKey cntl (c0Qid f)).bind y.resvOf = some i →
    ∃ u, Sys2Proof.Machine.exec (.reservationDelete t cntl e) s = .next u ∧ Answers cntl 0 e.cid 0 0 0 y u ∧
      NMap.find u.adm.resv i = none) ∧
  (∀ (t cntl i : Nat) (r : Resv) (x : Session) (e : Sqe) (s : State), Runs cntl (withAction 3 e) s →
    let f := withAction 3 e
    let y := (s.advanceTo t).fetched cntl 0 f
    s.md.mode ≠ .relay → e.nsid = 0 → e.dw14 = 0 → (y.queueKey cntl (c0Qid f)).bind y.resvOf = some i → NMap.find y.adm.resv i = some r →
    y.session? (y.ctrlSession cntl) = some x →
    ∃ u p, Sys2Proof.Machine.exec (.reservationQuery t cntl e) s = .next u ∧ Answers cntl 0 e.cid 0 0 0 y u ∧
      Queued (y.ctrlSession cntl) u p ∧ p.payload = resvBytes (y.resvNow r) ∧ p.key = dkeyOf e ∧ p.offset = dofsOf e ∧
      u.adm.resv = y.adm.resv) ∧
  (∀ (t cntl dqn : Nat) (r : Resv) (e : Sqe) (s : State), Runs cntl (withRebind 0 e) s →
    let f := withRebind 0 e
    let y := (s.advanceTo t).fetched cntl 0 f
    s.md.mode ≠ .relay → e.nsid = 0 → c0Qid f ≠ 0 → y.queueKey cntl (c0Qid f) = some dqn → y.unbound (c0Index f) = some r →
    y.queueTaken cntl (c0Qid f) dqn = false → (r.pull = true ∨ c0PushOk f = true ∧ (y.pushRange (c0PushSz f)).isSome = true) →
    ∃ u r', Sys2Proof.Machine.exec (.reservationRebind t cntl e) s = .next u ∧ Answers cntl 0 e.cid 0 0 (c0Index f) y u ∧
      NMap.find u.adm.resv (c0Index f) = some r' ∧ r'.dqn = dqn ∧ r'.cntl = cntl ∧ r'.rate = r.rate ∧ r'.burst = r.burst ∧ r'.d = r.d) ∧
  (∀ (t cntl : Nat) (r : Resv) (e : Sqe) (s : State), Runs cntl (withRebind 2 e) s →
    let f := withRebind 2 e
    let y := (s.advanceTo t).fetched cntl 0 f
    s.md.mode ≠ .relay → e.nsid = 0 → y.unbound (c0Index f) = some r →
    ∃ u, Sys2Proof.Machine.exec (.rebindDelete t cntl e) s = .next u ∧ Answers cntl 0 e.cid 0 0 0 y u ∧
      NMap.find u.adm.resv (c0Index f) = none) ∧
  (∀ (t cntl : Nat) (e : Sqe) (s : State), Runs cntl (withAction 0 e) s → s.md.mode = .relay →
    ∃ u, Sys2Proof.Machine.exec (.reservationCreate t cntl e) s = .next u ∧ u.adm.resv = s.adm.resv ∧ u.outbox = s.outbox ∧
      u.moor = { s.moor with relayHeld := s.moor.relayHeld ++ [(cntl, withAction 0 e, u.time.now)] })

/-- Commits of the pair (R62, R265): a head judges what its partner asks, answers with its code, and applies at once what it agrees to; the
answer 0 applies the change here too and ends its command; another answer, or none in 10 ms (code 8), ends it with that code. -/
def Obligations.ChangesTakeEffectOnBothHeads : Prop :=
  (∀ (t token : Nat) (c : PairChange) (s : State), s.mirrors = true → token ≠ 0 → s.moor.fenced = false →
    ((s.advanceTo t).judge c ≠ 0 → ∃ u, Sys2Proof.Machine.exec (.pairCommitRequest t token c) s = .next u ∧
      Sends (.commitAnswer token ((s.advanceTo t).judge c)) s u ∧ u.adm = s.adm ∧ u.nvq = s.nvq) ∧
    (∀ i rate burst d pull, c = .resvCreate i rate burst d pull → (s.advanceTo t).judge c = 0 →
      ∃ u r, Sys2Proof.Machine.exec (.pairCommitRequest t token c) s = .next u ∧ Sends (.commitAnswer token 0) s u ∧
        NMap.find u.adm.resv i = some r ∧ r.rate = rate ∧ r.burst = burst ∧ r.d = d ∧ r.pull = pull ∧ r.home = false ∧ r.dqn = 0 ∧
        r.credit = burst) ∧
    (∀ v m n, c = .dedupPolicy v m → (s.advanceTo t).judge c = 0 → s.ns? v = some n →
      ∃ u, Sys2Proof.Machine.exec (.pairCommitRequest t token c) s = .next u ∧ Sends (.commitAnswer token 0) s u ∧
        u.ns? v = some { n with dedup := m })) ∧
  (∀ (t token code i rate burst d : Nat) (k : Commit) (r : Resv) (s : State), s.moor.commits.find? (fun k => k.token == token) = some k →
    k.change = .resvChange i rate burst d → NMap.find s.adm.resv i = some r → Ready k.cntl 0 s → Settled k.cntl s →
    (code = 0 → (s.advanceTo t).judgeAgain k.change = 0 →
      ∃ u, Sys2Proof.Machine.exec (.pairCommitAnswer t token code) s = .next u ∧ Answers k.cntl 0 k.cmd.cid 0 0 0 s u ∧
        NMap.find u.adm.resv i = some (r.changed rate burst d) ∧ u.moor.commits = s.moor.commits.filter (fun x => x.token != token)) ∧
    (code = 0 → (s.advanceTo t).judgeAgain k.change ≠ 0 →
      ∃ u, Sys2Proof.Machine.exec (.pairCommitAnswer t token code) s = .next u ∧
        Answers k.cntl 0 k.cmd.cid 7 0x80 ((s.advanceTo t).judgeAgain k.change) s u ∧
        Sends (.commit 0 (.resvChange (partnerIndex i) r.rate r.burst r.d)) s u ∧ u.adm.resv = s.adm.resv) ∧
    (code ≠ 0 → ∃ u, Sys2Proof.Machine.exec (.pairCommitAnswer t token code) s = .next u ∧ Answers k.cntl 0 k.cmd.cid 7 0x80 code s u ∧
      u.adm.resv = s.adm.resv ∧ u.moor.commits = s.moor.commits.filter (fun x => x.token != token))) ∧
  (∀ (t token i rate burst d : Nat) (k : Commit) (r : Resv) (s : State), Ticking t s →
    s.moor.commits.find? (fun k => k.token == token) = some k → k.change = .resvChange i rate burst d → k.tick + 10 * msTicks ≤ t →
    NMap.find s.adm.resv i = some r → Ready k.cntl 0 s → Settled k.cntl s →
    ∃ u, Sys2Proof.Machine.exec (.pairCommitTimeout t token) s = .next u ∧ Answers k.cntl 0 k.cmd.cid 7 0x80 8 s u ∧
      Sends (.commit 0 (.resvChange (partnerIndex i) r.rate r.burst r.d)) s u ∧
      u.adm.resv = s.adm.resv ∧ u.moor.commits = s.moor.commits.filter (fun x => x.token != token))

/-- C1h Snapshot (R131 to R136): a create takes the lowest free SNAPID, raises the epoch and freezes the map, a delete leaves the snapshot
to reclaim, a clone is a new namespace of the snapshot, on both heads at one tick where the pair is together; queries and lists are
answered; reclaim's end takes the snapshot out, also where its volume is gone (log 20, log 21). -/
def Obligations.SnapshotsAreTakenClonedAndDeleted : Prop :=
  (∀ (t cntl id : Nat) (n : Ns) (e : Sqe) (s : State), Runs cntl (withC1Action 0 e) s → c1Action e ≤ 4 →
    let y := (s.advanceTo t).fetched cntl 0 (withC1Action 0 e)
    y.featureNs e.nsid = some n → firstFree 0 1024 (y.snapTaken (volOf e.nsid) n) = some id →
    (y.nvq.ns.map (fun p => p.2.snaps.length)).sum < 262144 →
    (y.mirrors = true → ∃ u, Sys2Proof.Machine.exec (.snapshotCreate t cntl e) s = .next u ∧
      Sends (.commit (y.moor.token + 1) (.snapCreate (volOf e.nsid) id)) y u) ∧
    (y.mirrors = false → ∃ u m x, Sys2Proof.Machine.exec (.snapshotCreate t cntl e) s = .next u ∧ Answers cntl 0 e.cid 0 0 id y u ∧
      u.ns? (volOf e.nsid) = some m ∧ m.epoch = n.epoch + 1 ∧ NMap.find m.frozen id = some (y.volMap (volOf e.nsid)) ∧
      NMap.find m.snaps id = some x ∧ x.tick = y.time.now ∧ x.epoch = n.epoch + 1 ∧ x.reclaim = false)) ∧
  (∀ (t cntl : Nat) (n : Ns) (x : Snap) (e : Sqe) (s : State), Runs cntl (withC1Action 1 e) s → c1Action e ≤ 4 →
    let f := withC1Action 1 e
    let y := (s.advanceTo t).fetched cntl 0 f
    y.featureNs e.nsid = some n → NMap.find n.snaps (c1SnapId f) = some x → x.reclaim = false →
    (y.viewAttached (volOf e.nsid) (c1SnapId f) = true → ∃ u, Sys2Proof.Machine.exec (.snapshotDelete t cntl e) s = .next u ∧
      Answers cntl 0 e.cid 0 0x02 5 y u) ∧
    (y.viewAttached (volOf e.nsid) (c1SnapId f) = false → y.mirrors = true →
      ∃ u, Sys2Proof.Machine.exec (.snapshotDelete t cntl e) s = .next u ∧
        Sends (.commit (y.moor.token + 1) (.snapDelete (volOf e.nsid) (c1SnapId f))) y u) ∧
    (y.viewAttached (volOf e.nsid) (c1SnapId f) = false → y.mirrors = false →
      ∃ u m, Sys2Proof.Machine.exec (.snapshotDelete t cntl e) s = .next u ∧ Answers cntl 0 e.cid 0 0 0 y u ∧
        u.ns? (volOf e.nsid) = some m ∧ NMap.find m.snaps (c1SnapId f) = some { x with reclaim := true })) ∧
  (∀ (t cntl v : Nat) (n : Ns) (x : Snap) (e : Sqe) (s : State), Runs cntl (withC1Action 2 e) s → c1Action e ≤ 4 →
    let f := withC1Action 2 e
    let y := (s.advanceTo t).fetched cntl 0 f
    y.featureNs e.nsid = some n → NMap.find n.snaps (c1SnapId f) = some x → x.reclaim = false → y.image.podPairs = [] →
    y.freeVol = some v → v ≠ volOf e.nsid →
    (y.mirrors = true → ∃ u, Sys2Proof.Machine.exec (.snapshotClone t cntl e) s = .next u ∧
      Sends (.commit (y.moor.token + 1) (.snapClone (volOf e.nsid) (c1SnapId f) v (c1Ro f))) y u) ∧
    (y.mirrors = false → ∃ u m, Sys2Proof.Machine.exec (.snapshotClone t cntl e) s = .next u ∧ Answers cntl 0 e.cid 0 0 (v + 1) y u ∧
      u.ns? v = some m ∧ m.cloneOf = some (volOf e.nsid, c1SnapId f) ∧ m.ro = c1Ro f ∧ m.units = n.units ∧ m.lbaf = n.lbaf ∧
      m.keyslot = n.keyslot)) ∧
  (∀ (t cntl : Nat) (n : Ns) (x : Snap) (w : Session) (e : Sqe) (s : State), Runs cntl (withC1Action 3 e) s → c1Action e ≤ 4 →
    let f := withC1Action 3 e
    let y := (s.advanceTo t).fetched cntl 0 f
    y.featureNs e.nsid = some n → y.session? (y.ctrlSession cntl) = some w →
    (NMap.find n.snaps (c1SnapId f) = none → ∃ u, Sys2Proof.Machine.exec (.snapshotQuery t cntl e) s = .next u ∧
      Answers cntl 0 e.cid 0 0x02 2 y u) ∧
    (NMap.find n.snaps (c1SnapId f) = some x → ∃ u p, Sys2Proof.Machine.exec (.snapshotQuery t cntl e) s = .next u ∧
      Answers cntl 0 e.cid 0 0 0 y u ∧ Queued (y.ctrlSession cntl) u p ∧
      p.payload = snapBytes (c1SnapId f) (y.viewAttached (volOf e.nsid) (c1SnapId f)) (y.account (volOf e.nsid) (c1SnapId f) n x))) ∧
  (∀ (t cntl : Nat) (n : Ns) (w : Session) (e : Sqe) (s : State), Runs cntl (withC1Action 4 e) s → c1Action e ≤ 4 →
    let y := (s.advanceTo t).fetched cntl 0 (withC1Action 4 e)
    y.featureNs e.nsid = some n → y.session? (y.ctrlSession cntl) = some w →
    ∃ u p, Sys2Proof.Machine.exec (.snapshotList t cntl e) s = .next u ∧ Answers cntl 0 e.cid 0 0 0 y u ∧
      Queued (y.ctrlSession cntl) u p ∧ p.payload.length = 4096 ∧ p.key = dkeyOf e ∧ p.offset = dofsOf e) ∧
  (∀ (t vol id : Nat) (s : State),
    (∀ r, s.nvq.reclaims.find? (fun r => r.vol == vol && r.id == id) = some r →
      ∃ u, Sys2Proof.Machine.exec (.snapshotReclaimDone t vol id) s = .next u ∧
        u.nvq = { s.nvq with reclaims := s.nvq.reclaims.filter (fun x => x != r) }) ∧
    (∀ n x, s.nvq.reclaims.find? (fun r => r.vol == vol && r.id == id) = none → s.ns? vol = some n → NMap.find n.snaps id = some x →
      x.reclaim = true → ∃ u, Sys2Proof.Machine.exec (.snapshotReclaimDone t vol id) s = .next u ∧
        u.ns? vol = some { n with snaps := NMap.del n.snaps id, frozen := NMap.del n.frozen id }))

/-- Background work on the flash (R91, R92, R154, R165, R167): a sealed landing stripe folds in stripe order; once its dense program has
verified, the map entries of its records name the dense copy at the fixed shift, and after a failed program the stripe folds again
elsewhere; GC moves live records without changing what the map says of them, and marks its victim; the patrol reads a band once in a
cycle; a checkpoint is written when FCH_CKPT.PERIOD has passed, a full one after FULL_EVERY increments. -/
def Obligations.BackgroundWorkMovesRecordsWithTheirEntries : Prop :=
  (∀ (t band stripe : Nat) (st : StreamId) (soft : List Nat) (x : Stripe) (b : Band) (s : State), s.md.mode.backgroundRuns = true →
    s.stripe? band stripe = some x → NMap.find s.path.bands band = some b → x.st = st → s.foldable b x = true →
    ((s.advanceTo t).staticPolicy = false ∨ (s.advanceTo t).nextTurn b = true) →
    ∃ u d pos, Sys2Proof.Machine.exec (.foldStripe t st band stripe soft) s = .next u ∧
      u.stripe? band stripe = some { x with dense := some (d, pos * (b.k * 65536)) } ∧ u.path.map = s.path.map ∧
      u.path.stored = s.path.stored ∧ u.path.reads = s.path.reads) ∧
  (∀ (t band stripe denseBand denseOffset : Nat) (st : StreamId) (x : Stripe) (b db : Band) (s : State), s.stripe? band stripe = some x →
    NMap.find s.path.bands band = some b → NMap.find s.path.bands denseBand = some db → x.st = st →
    x.dense = some (denseBand, denseOffset) → s.folded (b.k * 65536) x = false → denseBand ≠ band →
    ∃ u, Sys2Proof.Machine.exec (.foldProgramVerified t st band stripe denseBand denseOffset none) s = .next u ∧
      ∀ key e y, NMap.find s.path.map key = some e → e.kind ≠ 4 → e.mirror = (st == .mirror) → e.band = band →
        y ∈ s.path.stored → y.band = band → y.offset = e.offset → y.st = st →
        recordStripes b y.offset (recordLen y.record) = [stripe] →
        NMap.find u.path.map key = some { e with band := denseBand, offset := e.offset + (denseOffset - stripe * (b.k * 65536)) }) ∧
  (∀ (t band stripe denseBand denseOffset i : Nat) (st : StreamId) (x : Stripe) (b db : Band) (s : State),
    s.stripe? band stripe = some x → NMap.find s.path.bands band = some b → NMap.find s.path.bands denseBand = some db → x.st = st →
    x.dense = some (denseBand, denseOffset) → s.folded (b.k * 65536) x = false →
    (∀ die, db.dieOf i = some die → s.faults.retired.contains (.die die) = true ∨
      ((s.advanceTo t).faultsOf (.die die) 0x3002).length + 1 < s.regField Reg.GCTL_RETIRE 3 0) →
    ∃ u, Sys2Proof.Machine.exec (.foldProgramVerified t st band stripe denseBand denseOffset (some i)) s = .next u ∧
      u.stripe? band stripe = some { x with dense := none } ∧ NMap.find u.path.bands denseBand = some { db with sealedBand := true } ∧
      u.path.map = s.path.map ∧ u.path.stored = s.path.stored) ∧
  (∀ (t band stripe denseBand denseOffset i die : Nat) (st : StreamId) (x : Stripe) (b db : Band) (s : State),
    s.stripe? band stripe = some x → NMap.find s.path.bands band = some b → NMap.find s.path.bands denseBand = some db → x.st = st →
    x.dense = some (denseBand, denseOffset) → s.folded (b.k * 65536) x = false → db.dieOf i = some die →
    ∃ u, Sys2Proof.Machine.exec (.foldProgramVerified t st band stripe denseBand denseOffset (some i)) s = .next u ∧
      (FUnit.die die, 0x3002, (s.advanceTo t).time.now) ∈ u.faults.log ∧ u.path.stored = s.path.stored) ∧
  (∀ (t : Nat) (s : State), Ticking t s → s.md.mode.backgroundRuns = true →
    s.path.ckptTick + s.regField Reg.FCH_CKPT 15 0 * msTicks ≤ t →
    ∃ u c, Sys2Proof.Machine.exec (.checkpointPeriod t) s = .next u ∧ u.path.ckpts = retainCkpts (c :: s.path.ckpts) ∧ c.seq = s.path.ckptSeq + 1 ∧ c.valid = true ∧
      c.tick = t ∧ c.map = s.path.map ∧ c.wgens = s.path.wgens ∧ c.homePos = s.streamPos .home ∧ c.mirrorPos = s.streamPos .mirror ∧
      c.full = (decide (s.regField Reg.FCH_CKPT 23 16 ≤ s.path.incs) || s.path.ckpts.isEmpty) ∧ u.path.ckptSeq = c.seq ∧
      u.path.ckptTick = t ∧ u.path.incs = (if c.full then 0 else s.path.incs + 1)) ∧
  (∀ (t : Nat) (s : State), Ticking t s → t < s.path.ckptTick + s.regField Reg.FCH_CKPT 15 0 * msTicks →
    ∃ u, Sys2Proof.Machine.exec (.checkpointPeriod t) s = .next u ∧ u = { s with time := u.time }) ∧
  (∀ (t band : Nat) (st : StreamId) (b : Band) (s : State), s.md.mode.backgroundRuns = true → NMap.find s.path.bands band = some b →
    b.st = st → band ∉ [s.path.homeStream.band, s.path.mirrorStream.band, (s.gcStream st).band] → (s.advanceTo t).staticBars st band b = false →
    ((s.advanceTo t).staticPolicy = true ∨ ∀ n, (s.advanceTo t).wornVictim st = some n → n = band) →
    ∃ u, Sys2Proof.Machine.exec (.gcCopy t st band) s = .next u ∧
      (∀ key, (NMap.find u.path.map key).map (fun e => { e with mirror := false, band := 0, offset := 0 }) =
        (NMap.find s.path.map key).map (fun e => { e with mirror := false, band := 0, offset := 0 })) ∧
      (∀ c, NMap.find u.path.bands band = some c → c.victim = true ∧ c.refresh = false ∧ c.sealedBand = true)) ∧
  (∀ (t band step : Nat) (st : StreamId) (b : Band) (s : State), s.md.mode.backgroundRuns = true → NMap.find s.path.bands band = some b →
    b.st = st → b.victim = false → s.path.patrolDone.contains band = false →
    ∃ u, Sys2Proof.Machine.exec (.patrolRead t st band step []) s = .next u ∧ u.path.map = s.path.map ∧ u.path.stored = s.path.stored ∧
      (u.path.patrolDone = s.path.patrolDone ++ [band] ∨ u.path.patrolDone = [])) ∧
  (∀ (t band step : Nat) (st : StreamId) (failed : List PatrolFail) (s : State),
    ∃ u, Sys2Proof.Machine.exec (.patrolRead t st band step failed) s = .next u ∧ u.ciph = s.ciph ∧ u.ldg = s.ldg ∧
      u.mem = s.mem ∧ u.strp = s.strp ∧ u.elec = s.elec)

/-- The flash's dies and channels (R141, R144, R155, R158, R169): a channel that trains is ready and one that fails is counted, its third
failure retiring it; a die that does not answer a status timeout is retired; an erase that ends frees its blocks and counts a cycle, and
one that fails retires the block; a suspended erase resumes once no booking holds its die; each second adds to the temperature history. -/
def Obligations.FlashDevicesTrainEraseAndAge : Prop :=
  (∀ (t channel : Nat) (s : State), s.md.mode ≠ .reset → s.md.mode ≠ .locked → s.md.mode ≠ .slack →
    let c := NMap.getD s.flash.chans channel (0, 0)
    c.1 ≠ 2 →
    (∃ u, Sys2Proof.Machine.exec (.channelTrainingDone t channel true) s = .next u ∧ NMap.find u.flash.chans channel = some (2, c.2)) ∧
    (s.faults.retired.contains (.channel channel) = false → 3 ≤ c.2 + 1 →
      ∃ u, Sys2Proof.Machine.exec (.channelTrainingDone t channel false) s = .next u ∧
        u.faults.retired.contains (.channel channel) = true)) ∧
  (∀ (t die operation : Nat) (s : State), s.flash.dies.contains die = true → s.faults.retired.contains (.die die) = false →
    (∃ u, Sys2Proof.Machine.exec (.statusTimeout t die operation false) s = .next u ∧ u.faults.retired.contains (.die die) = true) ∧
    (∃ u, Sys2Proof.Machine.exec (.statusTimeout t die operation true) s = .next u ∧
      (FUnit.die die, 0x3004, (s.advanceTo t).time.now) ∈ u.faults.log)) ∧
  (∀ (t channel : Nat) (s : State), (s.advanceTo t).channelReady channel = true →
    ∃ u, Sys2Proof.Machine.exec (.busTimeout t channel) s = .next u ∧
      (FUnit.channel channel, 0x3005, (s.advanceTo t).time.now) ∈ u.faults.log) ∧
  (∀ (t die block n : Nat) (b : Band) (m : DieModel) (s : State), s.flash.erases.any (fun e => e.die == die && e.block == block) = true →
    s.bandAt die block = some n → NMap.find s.path.bands n = some b → b.dense = false → s.portModel (die / 128) = some m →
    (∃ u k, Sys2Proof.Machine.exec (.eraseDone t die block true) s = .next u ∧
      NMap.find u.flash.blocks (blockKey die block) = some k ∧ k.erased = true ∧ k.dense = false ∧
      k.slcCycles = (NMap.getD s.flash.blocks (blockKey die block) freshBlock).slcCycles + 1 ∧
      NMap.find u.flash.free (die / 128) = some (NMap.getD s.flash.free (die / 128) 0 + m.planes) ∧
      u.flash.erases = s.flash.erases.filter (fun e => !(e.die == die && e.block == block))) ∧
    (∃ u, Sys2Proof.Machine.exec (.eraseDone t die block false) s = .next u ∧
      u.faults.retired.contains (.block die block) = true ∧
      u.flash.erases = s.flash.erases.filter (fun e => !(e.die == die && e.block == block)))) ∧
  (∀ (t die : Nat) (s : State), (takenIn s.adm.bookings (resDie die) (slotOf (s.advanceTo t).time.now) true = 0 →
      ∃ u, Sys2Proof.Machine.exec (.eraseResume t die) s = .next u ∧ u.flash.erases = s.flash.erases.map (fun e =>
        if e.die == die && e.suspended then { e with suspended := false, start := e.start + (u.time.now - e.suspAt) } else e)) ∧
    (takenIn s.adm.bookings (resDie die) (slotOf (s.advanceTo t).time.now) true ≠ 0 →
      ∃ u, Sys2Proof.Machine.exec (.eraseResume t die) s = .next u ∧ u = { s with time := u.time })) ∧
  (∀ (t port : Nat) (c : Int) (s : State), Ticking t s → s.md.mode ≠ .locked → s.flash.tempTick + secondTicks ≤ t → port < 16 →
    ∃ u, Sys2Proof.Machine.exec (.dieTemperatureSample t [(port, c)]) s = .next u ∧ u.flash.tempTick = t ∧
      NMap.find u.flash.tempHist (tempBucket s.elec.temp) = some (satTo 48 (NMap.getD s.flash.tempHist (tempBucket s.elec.temp) 0 + 1)) ∧
      NMap.find u.flash.tempHist ((port + 1) * 16 + tempBucket c) =
        some (satTo 48 (NMap.getD s.flash.tempHist ((port + 1) * 16 + tempBucket c) 0 + 1)))

/-- The dedup tables (R122, R126, R130, R292): post-process takes the head of its queue, leaves a grain that changed, and refers a grain to
the entry that matches it; clusters that disagree leave it queued and fault; a filter fuller than 8000h is replaced by one built anew;
lines rebuilt after poison are known again. -/
def Obligations.PostProcessAndTablesAreKept : Prop :=
  (∀ (t cluster : Nat) (ix : Option FpEnt) (p : PpEnt) (rest : List PpEnt) (s : State), s.ddup.ppq = p :: rest → s.postRuns = true →
    s.clusterOk cluster = true → p.cluster ≠ some cluster →
    (s.postEnt p = none → ∃ u, Sys2Proof.Machine.exec (.postProcessGrain t ix true cluster) s = .next u ∧ u.ddup.ppq = rest ∧
      u.path.map = s.path.map ∧ u.ddup.sgt = s.ddup.sgt) ∧
    (∀ e r x g, s.postEnt p = some (e, r) → (s.indexAnswer p.fp r.check.guard r.keyslot (some ix)).join = some x →
      s.overlayRoom p.vol p.grain = true → NMap.find s.ddup.sgt x.sgt = some g →
      ∃ u, Sys2Proof.Machine.exec (.postProcessGrain t ix true cluster) s = .next u ∧ u.ddup.ppq = rest ∧
        NMap.find u.path.map (grainKey p.vol p.grain) = some { e with kind := 4, sgt := x.sgt, seq := s.path.nextRecSeq } ∧
        NMap.find u.ddup.sgt x.sgt = some { g with refs := g.refs + 1, pending := false }) ∧
    (∃ u, Sys2Proof.Machine.exec (.postProcessGrain t ix false cluster) s = .next u ∧ u.path.map = s.path.map ∧
      u.ddup.ppq = { p with cluster := some cluster } :: rest ∧ (FUnit.cluster cluster, 0x5101, (s.advanceTo t).time.now) ∈ u.faults.log)) ∧
  (∀ (t : Nat) (bits : List Nat) (s : State), (0x8000 < s.filterFill → ∃ u, Sys2Proof.Machine.exec (.filterSwap t bits) s = .next u ∧
      (∀ b, b ∈ u.ddup.filter ↔ (∃ e ∈ s.ddup.index, b ∈ filterBits e.fp) ∨ b ∈ bits ∧ b < 2 ^ 36) ∧ u.ddup.filter.Nodup ∧
      u.ddup.index = s.ddup.index) ∧
    (s.filterFill ≤ 0x8000 → ∃ u, Sys2Proof.Machine.exec (.filterSwap t bits) s = .next u ∧ u = { s with time := u.time })) ∧
  (∀ (t first n : Nat) (s : State), ∃ u, Sys2Proof.Machine.exec (.mapLineRebuilt t first n) s = .next u ∧
    (∀ x, x ∈ u.path.unknown ↔ x ∈ s.path.unknown ∧ ¬ (first ≤ x ∧ x < first + n)) ∧ u.path.map = s.path.map) ∧
  (∀ (t line : Nat) (s : State), ∃ u, Sys2Proof.Machine.exec (.sgtLineRebuilt t line) s = .next u ∧
    (∀ x, x ∈ u.ddup.lostLines ↔ x ∈ s.ddup.lostLines ∧ x ≠ line) ∧ u.ddup.sgt = s.ddup.sgt)

/-- Modules at their ports (R183, R188 to R190, R270): a module whose identity fails stays unpowered and is refused, another is identified;
one that trains takes its role; removal takes the port out of use and fails a member; a port is released, made a spare or made unused
where its state allows it; a spare that fails its probe is refused and leaves its role. -/
def Obligations.ModulesComeAndGo : Prop :=
  (∀ (t p part pop serial : Nat) (magicOk crcOk : Bool) (s : State), p < 16 → (s.port p).present = false → s.md.mode.identifies = true →
    let y := (s.advanceTo t).updPort p (fun x => { x with present := true })
    (∀ c, y.moduleRefusal p magicOk crcOk part pop serial = some c →
      ∃ u, Sys2Proof.Machine.exec (.modulePresent t p magicOk crcOk part pop serial) s = .next u ∧
        u.port p = { s.port p with present := true, state := 7, powered := false } ∧ ∀ q, q ≠ p → u.port q = s.port q) ∧
    (y.moduleRefusal p magicOk crcOk part pop serial = none →
      ∃ u m, Sys2Proof.Machine.exec (.modulePresent t p magicOk crcOk part pop serial) s = .next u ∧
        (part, m) ∈ s.image.parts ∧
        u.port p = { present := true, state := 1, powered := true, model := m, part := part, serial := serial, pop := pop } ∧
        ∀ q, q ≠ p → u.port q = s.port q)) ∧
  (∀ (t p : Nat) (pages : List (Nat × Option DieParams)) (s : State), (s.port p).state = 1 →
    let role := (s.advanceTo t).roleFor p
    (∃ u, Sys2Proof.Machine.exec (.moduleRoleAssigned t p false pages) s = .next u ∧
      u.port p = { s.port p with state := 7, powered := false }) ∧
    (∃ u, Sys2Proof.Machine.exec (.moduleRoleAssigned t p true pages) s = .next u ∧ u.port p = { s.port p with state := role } ∧
      (role = 3 → p ∈ u.strp.spares) ∧ ((s.advanceTo t).replaces p = true → p ∉ u.strp.failed) ∧
      (∀ d, d ∈ u.flash.dies → d / 128 = p → d ∉ (s.advanceTo t).badDies p pages) ∧ (∀ d, d / 128 ≠ p → (d ∈ u.flash.dies ↔ d ∈ s.flash.dies)))) ∧
  (∀ (t p : Nat) (s : State), (s.port p).present = true →
    (s.md.mode.identifies = false → ∃ u, Sys2Proof.Machine.exec (.moduleRemoval t p) s = .next u ∧
      u.port p = { s.port p with present := false, powered := false } ∧ u.strp.order = s.strp.order) ∧
    (s.md.mode.identifies = true → ¬ (s.isMember p = true ∧ (s.port p).state = 4) →
      ∃ u, Sys2Proof.Machine.exec (.moduleRemoval t p) s = .next u ∧
        u.port p = { s.port p with state := 0, present := false, powered := false } ∧ p ∉ u.strp.spares ∧
        (∀ d ∈ u.flash.dies, d / 128 ≠ p) ∧ u.strp.order = s.strp.order) ∧
    (s.md.mode.identifies = true → (s.port p).state = 4 → s.strp.order.contains p = true → s.strp.failed.contains p = false →
      ∃ u, Sys2Proof.Machine.exec (.moduleRemoval t p) s = .next u ∧ (u.port p).state = 0 ∧ (u.port p).present = false ∧
        (s.strp.spares = [] → p ∈ u.strp.failed ∧ u.strp.order = s.strp.order) ∧
        (∀ q, lowest s.strp.spares = some q → u.strp.order = s.strp.order.map (fun x => if x = p then q else x) ∧
          u.strp.spares = s.strp.spares.filter (· != q)))) ∧
  (∀ (t : Nat) (o : Origin) (v : Word) (s : State), Open s → s.md.mode ∈ [Mode.paired, Mode.sole, Mode.bench] →
    let p := bits v 3 0
    ((s.port p).state ∈ [2, 3, 5, 7] → ∃ u, Sys2Proof.Machine.exec (.moduleRelease t o v) s = .next u ∧
      u.port p = { s.port p with state := 6, powered := false } ∧ p ∉ u.strp.spares ∧ ∀ d ∈ u.flash.dies, d / 128 ≠ p) ∧
    ((s.port p).state = 4 → ∃ u, Sys2Proof.Machine.exec (.moduleRelease t o v) s = .next u ∧ u.strp = s.strp ∧
      bit (u.reg Reg.STRP_STATUS) 6 = true ∧ bit (u.reg Reg.GCTL_ERR) 0 = true) ∧
    ((s.port p).state = 2 → s.spareRoom = true → s.suits p = true → ∃ u, Sys2Proof.Machine.exec (.moduleMakeSpare t o v) s = .next u ∧
      u.port p = { s.port p with state := 3 } ∧ u.strp.spares = s.strp.spares ++ [p]) ∧
    ((s.port p).state = 2 → (s.spareRoom = false ∨ s.suits p = false) → ∃ u, Sys2Proof.Machine.exec (.moduleMakeSpare t o v) s = .next u ∧ u.strp = s.strp ∧
      bit (u.reg Reg.STRP_STATUS) 6 = true) ∧
    ((s.port p).state = 3 → ∃ u, Sys2Proof.Machine.exec (.moduleMakeUnused t o v) s = .next u ∧
      u.port p = { s.port p with state := 2 } ∧ u.strp.spares = s.strp.spares.filter (· != p)) ∧
    ((s.port p).state = 4 → ∃ u, Sys2Proof.Machine.exec (.moduleMakeUnused t o v) s = .next u ∧ u.strp = s.strp ∧
      bit (u.reg Reg.STRP_STATUS) 6 = true)) ∧
  (∀ (t p tick : Nat) (s : State), Ticking t s → s.strp.spares.contains p = true → s.md.mode.backgroundRuns = true →
    NMap.find s.moor.spareProbes p = some tick → tick + 600 * secondTicks ≤ t →
    (∃ u, Sys2Proof.Machine.exec (.spareProbe t p true) s = .next u ∧ NMap.find u.moor.spareProbes p = some t ∧ p ∈ u.moor.spareOk ∧
      p ∉ u.moor.spareFail ∧ u.strp = s.strp) ∧
    (∃ u, Sys2Proof.Machine.exec (.spareProbe t p false) s = .next u ∧ NMap.find u.moor.spareProbes p = some t ∧ p ∈ u.moor.spareFail ∧
      p ∉ u.moor.spareOk ∧ u.port p = { s.port p with state := 7, powered := false } ∧ p ∉ u.strp.spares))

/-- The rebuild and its floor (R178, R180, R181): the strip that is next comes back and is used again; of a stripe that lost more than its
parity the records are asked of the partner, or without one the device goes into Preservation (R39); the floor is booked firm, in the next
window only; a floor that the budget does not bear is refused. -/
def Obligations.RebuildRestoresLostStrips : Prop :=
  (∀ (t band stripe strip port : Nat) (unread : List Nat) (b : Band) (x : Stripe) (s : State), NMap.find s.path.bands band = some b →
    s.stripe? band stripe = some x → s.strp.rebuild.isSome = true →
    (s.advanceTo t).toRebuild.head? = some (band, stripe, strip) → lostWith b x unread ≤ b.m → b.portOf strip = some port →
    ∃ u, Sys2Proof.Machine.exec (.rebuildStripDone t band stripe strip unread) s = .next u ∧
      u.stripe? band stripe = some { x with
        skipped := x.skipped.filter (· != strip)
        programmed := if x.programmed.contains strip then x.programmed else x.programmed ++ [strip] } ∧
      u.path.map = s.path.map ∧ u.path.stored = s.path.stored) ∧
  (∀ (t band stripe strip : Nat) (unread : List Nat) (b : Band) (x : Stripe) (s : State), NMap.find s.path.bands band = some b →
    s.stripe? band stripe = some x → s.strp.rebuild.isSome = true →
    (s.advanceTo t).toRebuild.head? = some (band, stripe, strip) → b.m < lostWith b x unread →
    (s.partnerAsk = false → b.m < x.skipped.length → s.md.mode.canPreserve = true →
      (∀ y n, y ∈ s.path.stored → y.band = band → y.record.kind = 1 →
        (recordStripes b y.offset (recordLen y.record)).contains stripe = true →
        s.ns? (y.record.check.reftag.toNat / 2 ^ 34) = some n → n.served = true →
        ∃ u, Sys2Proof.Machine.exec (.rebuildStripDone t band stripe strip unread) s = .next u ∧ u.md.mode = .preservation ∧ u.md.cause = 0x0A)) ∧
    (s.partnerAsk = true → ∃ u, Sys2Proof.Machine.exec (.rebuildStripDone t band stripe strip unread) s = .next u ∧
      u.path.map = s.path.map ∧ u.md.mode = s.md.mode ∧
      ∀ y, y ∈ s.path.stored → y.band = band → y.stripe = stripe → (y.record.kind = 1 ∨ y.record.kind = 4) → s.recordLive y = true →
        ∃ rid, Sends (.repairAsk rid (recordKey y.record / 2 ^ 34) (recordKey y.record % 2 ^ 34) y.record.check.wgen) s u)) ∧
  (∀ (t : Nat) (s : State), Ticking t s → t % horizonTicks = 0 →
    ∃ u, Sys2Proof.Machine.exec (.rebuildFloorBooking t) s = .next u ∧
      (∀ b ∈ u.adm.bookings, b.firm = true → b ∈ s.adm.bookings ∨
        (b.seq = floorSeq ∧ slotOf t + 128 ≤ b.slot ∧ b.slot < slotOf t + 256)) ∧
      (∀ b ∈ s.adm.bookings, b.firm = true → b.seq ≠ floorSeq → b ∈ u.adm.bookings)) ∧
  (∀ (t : Nat) (o : Origin) (v : Word) (s : State), Open s → s.md.mode ∈ [Mode.boot, Mode.bench, Mode.paired, Mode.sole] →
    let y := s.advanceTo t
    let z := fun (w : State) => w.setField Reg.STRP_FLOOR 24 16 (bits v 24 16)
    ((z y).floorOk (bits v 8 0) = true → (z y.ignored).floorOk (bits v 8 0) = true →
      ∃ u, Sys2Proof.Machine.exec (.floorWrite t o v) s = .next u ∧ u.regField Reg.STRP_FLOOR 8 0 = bits v 8 0 ∧
        u.regField Reg.STRP_FLOOR 24 16 = bits v 24 16) ∧
    ((z y).floorOk (bits v 8 0) = false → (z y.ignored).floorOk (bits v 8 0) = false →
      ∃ u, Sys2Proof.Machine.exec (.floorWrite t o v) s = .next u ∧ u.regField Reg.STRP_FLOOR 8 0 = s.regField Reg.STRP_FLOOR 8 0 ∧
        u.regField Reg.STRP_FLOOR 24 16 = bits v 24 16 ∧ bit (u.reg Reg.STRP_STATUS) 5 = true ∧ bit (u.reg Reg.GCTL_ERR) 0 = true))

/-- The reshape (R184 to R187): a request that Table 8.2 allows takes the new shape and the new member order at once, any other changes no
shape and leaves its code; a pause is taken as written; each migrated stripe advances the boundary by one and changes only the place the
map gives its records, and after the last one the reshape is over. -/
def Obligations.ReshapeMovesToTheNewShape : Prop :=
  (∀ (t : Nat) (o : Origin) (v : Word) (s : State), Open s → s.md.mode ∈ [Mode.paired, Mode.sole] →
    let y := s.advanceTo t
    let order := portsOf (s.regField Reg.STRP_RSH_MEM 15 0)
    let c := y.reshapeCode (bits v 3 0) (bits v 5 4) order
    y.ignored.reshapeCode (bits v 3 0) (bits v 5 4) order = c →
    (c = 0 → ∃ u r, Sys2Proof.Machine.exec (.reshapeRequest t o v) s = .next u ∧ u.strp.k = bits v 3 0 ∧ u.strp.m = bits v 5 4 ∧
      u.strp.order = order ∧ u.strp.reshape = some r ∧ r.oldK = s.strp.k ∧ r.oldM = s.strp.m ∧ r.oldMembers = s.strp.order ∧
      r.bound = 0 ∧ u.strp.gen = s.strp.gen + 1 ∧ u.path.map = s.path.map) ∧
    (c ≠ 0 → ∃ u, Sys2Proof.Machine.exec (.reshapeRequest t o v) s = .next u ∧ u.strp = { s.strp with refuse := c } ∧
      u.path = s.path)) ∧
  (∀ (t : Nat) (o : Origin) (v : Word) (s : State), Open s → s.md.mode ∉ [Mode.paired, Mode.sole] →
    ∃ u, Sys2Proof.Machine.exec (.reshapeRequest t o v) s = .next u ∧ u.strp = { s.strp with refuse := 7 } ∧
      u.path = s.path ∧ bit (u.reg Reg.GCTL_ERR) 0 = true) ∧
  (∀ (t : Nat) (o : Origin) (v : Word) (s : State), Open s → s.md.mode ∈ [Mode.paired, Mode.sole] →
    ∃ u, Sys2Proof.Machine.exec (.reshapePause t o v) s = .next u ∧ u.regField Reg.STRP_RSH_CTRL 0 0 = bits v 0 0 ∧
      u.strp = s.strp ∧ u.path = s.path) ∧
  (∀ (t : Nat) (r : Reshape) (x : Stripe) (s : State), s.regField Reg.STRP_RSH_CTRL 0 0 = 0 → s.strp.rebuild = none →
    s.md.mode.backgroundRuns = true → s.strp.reshape = some r → s.nextMigration = some x →
    ∃ u, Sys2Proof.Machine.exec (.reshapeStripeMigrated t) s = .next u ∧
      (∀ key, (NMap.find u.path.map key).map (fun e => { e with mirror := false, band := 0, offset := 0 }) =
        (NMap.find s.path.map key).map (fun e => { e with mirror := false, band := 0, offset := 0 })) ∧
      u.strp.k = s.strp.k ∧ u.strp.m = s.strp.m ∧ u.strp.order = s.strp.order ∧
      (u.strp.reshape = none ∨ ∃ r', u.strp.reshape = some r' ∧ r'.bound = r.bound + 1 ∧ r'.oldK = r.oldK ∧ r'.oldM = r.oldM ∧
        r'.oldMembers = r.oldMembers)) ∧
  (∀ (t : Nat) (r : Reshape) (s : State), s.regField Reg.STRP_RSH_CTRL 0 0 = 0 → s.strp.rebuild = none →
    s.md.mode.backgroundRuns = true → s.strp.reshape = some r → s.nextMigration = none →
    ∃ u, Sys2Proof.Machine.exec (.reshapeStripeMigrated t) s = .next u ∧ u.strp.reshape = none ∧ u.path = s.path ∧
      u.strp.order = s.strp.order) ∧
  (∀ (t : Nat) (s : State), (s.regField Reg.STRP_RSH_CTRL 0 0 = 1 ∨ s.strp.rebuild.isSome = true) →
    Sys2Proof.Machine.exec (.reshapeStripeMigrated t) s = .next (s.advanceTo t))

/-- R9 whole: a read of an unmapped register address returns 0 and sets GCTL_ERR.UNMAPPED, a write to one is discarded and sets it too;
nothing else changes. -/
def Obligations.UnmappedAddressesReadZeroAndAreFlagged : Prop :=
  ∀ (t a : Nat) (o : Origin) (w : Bool) (s : State), Open s → a % 4 = 0 → findReg a = none → (a < regSpaceEnd ∨ (o ≠ .core ∧ o ≠ .repl)) →
    s.regView o a = 0 ∧
    ∃ u, Sys2Proof.Machine.exec (.unmappedAccess t o a w) s = .next u ∧ u.reg Reg.GCTL_ERR = s.reg Reg.GCTL_ERR ||| 2 ∧
      (∀ b, b ≠ Reg.GCTL_ERR → u.reg b = s.reg b) ∧
      u = { s with time := (s.advanceTo t).time,
                   regs := { s.regs with vals := u.regs.vals, raised := u.regs.raised, raisedAt := u.regs.raisedAt } }

/-- R76 whole: a read of ADM_RINFO latches the four values of the reservation that ADM_RSEL selects on the path; the reads that follow
return the latched set, and a write of ADM_RSEL changes none of it before the next read of ADM_RINFO. -/
def Obligations.ReservationReadsReturnTheLatchedSet : Prop :=
  ∀ (t : Nat) (o : Origin) (s : State), Open s →
    (∀ r, NMap.find s.adm.resv (bits (s.pathReg o Reg.ADM_RSEL) 8 0) = some r →
      ∃ u, Sys2Proof.Machine.exec (.admRinfoRead t o) s = .next u ∧
        u.regView o Reg.ADM_RRATE = BitVec.ofNat 32 (r.rate % 2 ^ 14) ∧ u.regView o Reg.ADM_RBURST = BitVec.ofNat 32 (r.burst % 2 ^ 14) ∧
        u.regView o Reg.ADM_RDL = BitVec.ofNat 32 (r.d % 2 ^ 13) ∧
        u.regView o Reg.ADM_RUSE = BitVec.ofNat 32 ((r.refill (windowOf u.time.now)).used % 2 ^ 16 +
          (r.refill (windowOf u.time.now)).credit % 2 ^ 16 * 2 ^ 16) ∧
        u = { s with time := (s.advanceTo t).time, regs := { s.regs with path := u.regs.path } }) ∧
    (∀ v : Word, ∃ u, Sys2Proof.Machine.exec (.registerWrite t o Reg.ADM_RSEL v) s = .next u ∧
      bits (u.pathReg o Reg.ADM_RSEL) 8 0 = bits v 8 0 ∧
      ∀ a, a ∈ [Reg.ADM_RRATE, Reg.ADM_RBURST, Reg.ADM_RDL, Reg.ADM_RUSE] → u.regView o a = s.regView o a)

/-- R388 whole: with its CRC behind it, the header (opcode, then the four address bytes) and the word (its four bytes) are each a multiple
of the polynomial x⁸ + x² + x + 1, most significant bit first: that is the remainder from an initial value of 0 with no reflection and no
final XOR. -/
def Obligations.SpiCrcsDivideByTheirPolynomial : Prop :=
  (∀ op addr : Nat, op < 2 ^ 8 → addr < 2 ^ 32 → ∃ q : Nat, q < 2 ^ 40 ∧
    BitVec.ofNat 48 (op * 2 ^ 40 + addr * 2 ^ 8 + (headerCrc op addr).toNat) =
      (List.range 40).foldl (fun x i => if q.testBit i then x ^^^ BitVec.ofNat 48 (0x107 * 2 ^ i) else x) 0) ∧
  (∀ w : Word, ∃ q : Nat, q < 2 ^ 32 ∧
    BitVec.ofNat 48 (w.toNat * 2 ^ 8 + (wordCrc w).toNat) =
      (List.range 32).foldl (fun x i => if q.testBit i then x ^^^ BitVec.ofNat 48 (0x107 * 2 ^ i) else x) 0)

/-- Islands and lanes (R24, R25, R28, R219, Table 2.8): an idle island gates and its awake bit goes; a wake ends with the bit set; a late
wake is counted as a fault of its island; a lane trains, locks or does not, and goes down; a loss of lock that its clock does not explain
and an uncorrectable FEC burst count as faults of the lane, and at the threshold the lane retires; a restarted port's lanes are up. -/
def Obligations.IslandsAndLanesComeAndGo : Prop :=
  (∀ (t n : Nat) (k : IslandKind) (s : State), (s.advanceTo t).regField Reg.CLKP_CTRL 7 0 ≠ 0 → s.islandAwake k n = true →
    (s.advanceTo t).islandBusy k n (s.regField Reg.CLKP_CTRL 7 0) = false →
    ∃ u, Sys2Proof.Machine.exec (.islandGate t k n) s = .next u ∧ u.islandAwake k n = false ∧
      (∀ j m, (j, m) ≠ (k, n) → u.islandAwake j m = s.islandAwake j m) ∧ (k, n, u.time.now) ∈ u.faults.gating ∧
      u = { s with time := (s.advanceTo t).time, faults := { s.faults with awake := u.faults.awake, gating := u.faults.gating } }) ∧
  (∀ (t n from_ : Nat) (k : IslandKind) (s : State), s.wakeOf k n = some from_ →
    ∃ u, Sys2Proof.Machine.exec (.islandReady t k n) s = .next u ∧ u.islandAwake k n = true ∧ u.wakeOf k n = none ∧
      (∀ j m, (j, m) ≠ (k, n) → u.islandAwake j m = s.islandAwake j m) ∧
      u = { s with time := (s.advanceTo t).time, faults := { s.faults with awake := u.faults.awake, waking := u.faults.waking } }) ∧
  (∀ (t n from_ : Nat) (k : IslandKind) (s : State), Ticking t s → s.wakeOf k n = some from_ → from_ + wakeLatency k ≤ t →
    ∃ u, Sys2Proof.Machine.exec (.islandWakeLate t k n) s = .next u ∧ (FUnit.island k n, 0xC010, t) ∈ u.faults.log ∧
      (∀ v, s.faults.retired.contains v = true → u.faults.retired.contains v = true)) ∧
  (∀ (t l : Nat) (s : State), s.md.mode.frontEnd = true → l < 24 → s.lane l = 0 → (s.advanceTo t).laneClock l = true →
    s.laneTried l = true → ∃ u, Sys2Proof.Machine.exec (.linkTrainingStart t l) s = .next u ∧ u.lane l = 1 ∧
      (∀ m, m ≠ l → u.lane m = s.lane m) ∧
      u = { s with time := (s.advanceTo t).time, faults := { s.faults with lanes := u.faults.lanes } }) ∧
  (∀ (t l : Nat) (s : State), s.lane l = 1 →
    (∃ u, Sys2Proof.Machine.exec (.linkUp t l false) s = .next u ∧ u.lane l = 0 ∧ (∀ m, m ≠ l → u.lane m = s.lane m)) ∧
    (∃ u, Sys2Proof.Machine.exec (.linkUp t l true) s = .next u ∧ u.lane l = 2 ∧ (∀ m, m ≠ l → u.lane m = s.lane m) ∧
      u.faults.retired.contains (.serdes l) = false)) ∧
  (∀ (t l : Nat) (s : State), s.lane l ≠ 0 →
    (∃ u, Sys2Proof.Machine.exec (.linkDown t l false) s = .next u ∧ u.lane l = 0 ∧ (∀ m, m ≠ l → u.lane m = s.lane m) ∧
      u.faults.log = s.faults.log) ∧
    ((s.advanceTo t).laneClock l = false → ∃ u, Sys2Proof.Machine.exec (.linkDown t l true) s = .next u ∧ u.lane l = 0 ∧
      u.faults.log = s.faults.log) ∧
    ((s.advanceTo t).laneClock l = true → ∃ u, Sys2Proof.Machine.exec (.linkDown t l true) s = .next u ∧
      u.faults.log = s.faults.log ++ [(.serdes l, 1, (s.advanceTo t).time.now)] ∧
      (s.faults.retired.contains (.serdes l) = false → (s.advanceTo t).regField Reg.GCTL_RETIRE 3 0 ≤
          ((s.advanceTo t).faultsOf (.serdes l) 1).length + 1 → u.faults.retired.contains (.serdes l) = true)) ∧
    (∃ u, Sys2Proof.Machine.exec (.uncorrectableFecBurst t l) s = .next u ∧
      u.faults.log = s.faults.log ++ [(.serdes l, 2, (s.advanceTo t).time.now)] ∧
      (s.faults.retired.contains (.serdes l) = false → (s.advanceTo t).regField Reg.GCTL_RETIRE 3 0 ≤
          ((s.advanceTo t).faultsOf (.serdes l) 2).length + 1 → u.faults.retired.contains (.serdes l) = true))) ∧
  (∀ (t p : Nat) (ls : List Nat) (s : State), NMap.find s.faults.restarting p = some ls →
    ∃ u, Sys2Proof.Machine.exec (.portRestartDone t p) s = .next u ∧ (∀ l, u.lane l = if l ∈ ls then 2 else s.lane l) ∧
      NMap.find u.faults.restarting p = none)

/-- The transport's timers (R224, R225, R228, R229, R236): a CONNECT goes again after 10 ms and the attempt ends after 100 ms; a session that
timed out is gone; a KEEPALIVE leaves after a quarter of the timeout without one; an owed ACK leaves after 5 µs; a packet whose RTO or whose
back-off has run out goes again with RETX; a packet stalled for 50 µs on an on-demand unit gets RETRY_LATER, and so do all on that unit
where no memory can be taken for it. -/
def Obligations.TransportTimersAct : Prop :=
  (∀ (t n : Nat) (x : Session) (s : State), Ticking t s → s.session? n = some x → x.state = 1 →
    (x.lastConnect + 10 * msTicks ≤ t → t < x.start + 100 * msTicks → s.moor.fenced = false →
      ∃ u, Sys2Proof.Machine.exec (.connectResend t n) s = .next u ∧ Sends (.connect n) s u ∧
        u.session? n = some { x with lastConnect := t }) ∧
    (x.start + 100 * msTicks ≤ t → ∃ u, Sys2Proof.Machine.exec (.connectTimeout t n) s = .next u ∧ u.session? n = none ∧
      ∀ m, m ≠ n → u.session? m = s.session? m)) ∧
  (∀ (t n w : Nat) (x : Session) (s : State), s.session? n = some x → (s.advanceTo t).timedOut x = some w →
    ∃ u, Sys2Proof.Machine.exec (.sessionTimeout t n) s = .next u ∧ u.session? n = none) ∧
  (∀ (t n : Nat) (x : Session) (s : State), Ticking t s → s.session? n = some x → x.state ≠ 1 → x.lastTx + s.idmTimeout / 4 ≤ t →
    ∃ u p, Sys2Proof.Machine.exec (.keepaliveDue t n) s = .next u ∧ Queued n u p ∧ p.opcode = 11 ∧ p.psn = x.nextPsn ∧
      (u.session? n).map (·.nextPsn) = some (psnNext x.nextPsn)) ∧
  (∀ (t n : Nat) (x : Session) (s : State), Ticking t s → s.session? n = some x → x.ackFrom ≠ 0 → x.ackFrom + 5000 ≤ t →
    ∃ u p, Sys2Proof.Machine.exec (.ackDelay t n) s = .next u ∧ p.opcode = 6 ∧ p.psn = x.cum ∧ p.payload = ackBitmap x ∧
      (u.session? n).map (·.ackFrom) = some 0 ∧ (u.session? n).map (·.sinceAck) = some 0 ∧
      (x.sealed = true → (u.session? n).map (·.toSeal) = some (x.toSeal ++ [p])) ∧
      (x.sealed = false → s.moor.fenced = false → Sends (.packet n p) s u)) ∧
  (∀ (t n psn : Nat) (x : Session) (v : Sent) (s : State), Ticking t s → s.session? n = some x →
    x.unacked.find? (fun y => y.packet.psn == psn) = some v → v.notBefore ≤ t →
    (v.lastTick + s.regField Reg.IDM_TIMERS 31 16 * 1000 ≤ t →
      ∃ u, Sys2Proof.Machine.exec (.rtoExpiry t n psn) s = .next u ∧
        (u.session? n).map (·.unacked) = some (x.unacked.map (fun y => if y.packet.psn = psn then { y with lastTick := t } else y)) ∧
        (x.sealed = true → (u.session? n).map (·.toSeal) = some (x.toSeal ++ [{ v.packet with retx := true }])) ∧
        (x.sealed = false → s.moor.fenced = false → Sends (.packet n { v.packet with retx := true }) s u)) ∧
    (v.notBefore ≠ 0 → ∃ u, Sys2Proof.Machine.exec (.backoffExpiry t n psn) s = .next u ∧
        (u.session? n).map (·.unacked) =
          some (x.unacked.map (fun y => if y.packet.psn = psn then { y with lastTick := t, notBefore := 0 } else y)) ∧
        (x.sealed = true → (u.session? n).map (·.toSeal) = some (x.toSeal ++ [{ v.packet with retx := true }])) ∧
        (x.sealed = false → s.moor.fenced = false → Sends (.packet n { v.packet with retx := true }) s u))) ∧
  (∀ (t n key unit : Nat) (x : Session) (k : Nat × Nat × Nat × Packet × Nat) (ks : List (Nat × Nat × Nat × Packet × Nat)) (s : State),
    Ticking t s → s.session? n = some x → s.stallsOn n key unit = k :: ks →
    (k.2.2.2.2 + 50000 ≤ t → ∃ u p, Sys2Proof.Machine.exec (.ondemandStallExpiry t n key unit) s = .next u ∧
      u.stallsOn n key unit = [] ∧ Queued n u p ∧ p.opcode = 5 ∧ p.aux % 65536 = 4 ∧ p.offset = k.2.2.2.1.psn) ∧
    (s.unitRoom n = false → ∃ u p, Sys2Proof.Machine.exec (.ondemandUnitReady t n key unit) s = .next u ∧
      u.stallsOn n key unit = [] ∧ Queued n u p ∧ p.opcode = 5 ∧ p.aux % 65536 = 4 ∧ p.offset = k.2.2.2.1.psn))

/-- Work entries (R237, R238): an entry that waits for nothing and finds its session open starts, with its first packet on the session; one
whose wait is not over waits; an entry that reached its timeout at the head ends with CHAIN_TIMEOUT, and the completion count rises. -/
def Obligations.WorkEntriesRunInOrder : Prop :=
  (∀ (t queue : Nat) (w : WorkEntry) (x : Session) (s : State), s.entriesLeft = 0 → s.sessionOpen (queue / 16384) = true →
    w.waitQueue = none → w.group = none → s.session? w.session = some x → x.state = 2 →
    ∃ u p, Sys2Proof.Machine.exec (.workEntryPost t queue w) s = .next u ∧ Queued w.session u p ∧ p.psn = x.nextPsn ∧ p.key = w.key ∧
      p.offset = w.offset ∧ p.opcode = (if w.opcode = 2 then 2 else if w.opcode = 4 then 4 else 1) ∧
      (u.tqueue queue).entries = []) ∧
  (∀ (t queue q : Nat) (w : WorkEntry) (s : State), s.entriesLeft = 0 → s.sessionOpen (queue / 16384) = true → w.waitQueue = some q →
    s.judgeEntry queue w (s.tqueue q).cc = none →
    ∃ u, Sys2Proof.Machine.exec (.workEntryPost t queue w) s = .next u ∧
      (u.tqueue queue).entries = [(w, (s.tqueue q).cc, u.time.now)] ∧ (u.tqueue queue).cc = (s.tqueue queue).cc) ∧
  (∀ (t queue cc at_ : Nat) (w : WorkEntry) (s : State), Ticking t s → (s.tqueue queue).entries = [(w, cc, at_)] →
    ((NMap.put s.idm.queues queue {}).map (fun q => q.2.entries.length)).sum = 0 → w.waitQueue.isSome = true → at_ + s.regField Reg.IDM_CHAIN 15 0 * msTicks ≤ t →
    ∃ u, Sys2Proof.Machine.exec (.chainTimeout t queue) s = .next u ∧ (u.tqueue queue).entries = [] ∧
      (u.tqueue queue).cc = ((s.tqueue queue).cc + 1) % 2 ^ 32 ∧ (u.tqueue queue).errors = (s.tqueue queue).errors ++ [(u.tqueue queue).cc])

/-- Data packets act once (R221, R228, R230 to R233, Tables 10.3, 10.7 and 10.9): a WRITE and a NOTIFY that their region admits put their
bytes there; a READ_REQ is answered with the region's bytes in READ_RESP packets of 8,192; an access that the region does not admit leaves
memory alone, is shown in ATPU_FAULT and refused with a STATUS; and a packet that has been received before leaves memory and what counts as
received alone, and is acknowledged again. -/
def Obligations.DataPacketsActOnce : Prop :=
  (∀ (t : Nat) (p : Packet) (x : Session) (r : Region) (s : State), Reaches p x s → Unwaited x → Applies p x →
    (p.opcode = 1 → Admits p p.len (·.wr) x r s → ∃ u, Sys2Proof.Machine.exec (.idmWrite t p) s = .next u ∧
      u.mem = (s.memWrite (r.base + p.offset) p.payload).mem ∧ Noted p x u) ∧
    (p.opcode = 4 → Admits p p.len (·.nt) x r s → ∃ u, Sys2Proof.Machine.exec (.notify t p) s = .next u ∧
      u.mem = (s.memWrite (r.base + p.offset) p.payload).mem ∧ Noted p x u) ∧
    (p.opcode = 2 → 1 ≤ p.aux → p.aux ≤ 4194304 → Admits p p.aux (·.rd) x r s → s.poisonedIn (r.base + p.offset) p.aux = none →
      ∃ u, Sys2Proof.Machine.exec (.idmReadReq t p) s = .next u ∧ u.mem = s.mem ∧ Noted p x u ∧
        ∀ i, i < ceilDiv p.aux 8192 → ∃ q, Queued p.dsess u q ∧ q.opcode = 3 ∧ q.xid = p.xid ∧ q.offset = 8192 * i ∧
          q.payload = ((s.memBytes (r.base + p.offset) p.aux).drop (8192 * i)).take 8192)) ∧
  (∀ (t code : Nat) (p : Packet) (x : Session) (s : State), Reaches p x s → Unwaited x → Applies p x → s.regionCode p.dsess p = code →
    code ≠ 0 → ¬ (x.state = 3 ∧ p.first = true) → (p.opcode = 2 → 1 ≤ p.aux ∧ p.aux ≤ 4194304) →
    ∀ c ∈ [(1, Instr.idmWrite t p), (2, Instr.idmReadReq t p), (4, Instr.notify t p)], p.opcode = c.1 →
      ∃ u q, Sys2Proof.Machine.exec c.2 s = .next u ∧ u.mem = s.mem ∧ u.idm.faultIndex = p.key / 256 ∧ u.idm.faultCode = code ∧
        Noted p x u ∧ Queued p.dsess u q ∧ q.opcode = 5 ∧ q.aux = code ∧ q.offset = p.psn ∧ q.xid = p.xid) ∧
  (∀ (t : Nat) (p : Packet) (x : Session) (s : State), Reaches p x s → Unwaited x →
    (psnLater x.cum p.psn = true ∨ x.got.contains p.psn = true) → (p.opcode = 5 → p.aux % 256 ≠ 6) →
    ∀ c ∈ [(1, Instr.idmWrite t p), (2, Instr.idmReadReq t p), (3, Instr.readResp t p), (4, Instr.notify t p), (5, Instr.statusPacket t p),
        (10, Instr.close t p), (11, Instr.keepalive t p), (12, Instr.rekey t p)], p.opcode = c.1 →
      ∃ u q, Sys2Proof.Machine.exec c.2 s = .next u ∧ u.mem = s.mem ∧
        (u.session? p.dsess).map (fun y => (y.cum, y.got)) = some (x.cum, x.got) ∧
        q.opcode = 6 ∧ q.psn = x.cum ∧ q.payload = ackBitmap x ∧
        (x.sealed = true → (u.session? p.dsess).map (·.toSeal) = some (x.toSeal ++ [q])) ∧
        (x.sealed = false → s.moor.fenced = false → Sends (.packet p.dsess q) s u))

/-- Answers end operations (R228, R232, R236, R237, Tables 10.3 and 10.9): a READ_RESP puts its bytes into the reader's buffer and takes them
off what the read still waits for; a STATUS of RETRY_LATER holds its packet back for the hint's time; an ACK releases the packets it covers;
and with the last byte, a STATUS of another code, or the last acknowledgement an operation is gone and its queue's CC has risen by 1. -/
def Obligations.AnswersEndOperations : Prop :=
  (∀ (t : Nat) (p : Packet) (x : Session) (o : Op) (s : State), Reaches p x s → Unwaited x → Applies p x → p.opcode = 3 →
    x.ops.find? (fun y => y.read && y.xid == p.xid) = some o →
    (p.len < o.bytesLeft → ∃ u, Sys2Proof.Machine.exec (.readResp t p) s = .next u ∧ Noted p x u ∧
      u.mem = (match o.buf with | some a => (s.memWrite (a + p.offset) p.payload).mem | none => s.mem) ∧
      (u.session? p.dsess).map (·.ops) =
        some (x.ops.map (fun y => if y.xid = o.xid ∧ y.read = true then { y with bytesLeft := o.bytesLeft - p.len } else y))) ∧
    (∀ q, o.bytesLeft ≤ p.len → o.owner = .entry q → o.group = none → s.entriesLeft = 0 →
      ∃ u y, Sys2Proof.Machine.exec (.readResp t p) s = .next u ∧ Noted p x u ∧ u.session? p.dsess = some y ∧
        u.mem = (match o.buf with | some a => (s.memWrite (a + p.offset) p.payload).mem | none => s.mem) ∧
        (∀ v ∈ y.ops, ¬ (v.xid = o.xid ∧ v.queue = o.queue)) ∧
        u.tqueue (queueOf p.dsess o.queue) = { s.tqueue (queueOf p.dsess o.queue) with
          cc := ((s.tqueue (queueOf p.dsess o.queue)).cc + 1) % 2 ^ 32 })) ∧
  (∀ (t : Nat) (p : Packet) (x : Session) (s : State), Ticking t s → Reaches p x s → Unwaited x → Applies p x → p.opcode = 5 →
    (p.aux % 256 = 4 → ∃ u, Sys2Proof.Machine.exec (.statusPacket t p) s = .next u ∧ Noted p x u ∧ u.mem = s.mem ∧
      (u.session? p.dsess).map (·.unacked) = some (x.unacked.map (fun v => if v.packet.psn = p.offset % 2 ^ 32 then
        { v with notBefore := t + 10000 * (p.aux / 65536), retry := v.retry + 1 } else v))) ∧
    (∀ o q, p.aux % 256 ≠ 0 → p.aux % 256 ≠ 4 → p.aux % 256 ≠ 6 → x.opOf (p.offset % 2 ^ 32) = some o → o.owner = .entry q →
      o.group = none → s.entriesLeft = 0 →
      ∃ u y, Sys2Proof.Machine.exec (.statusPacket t p) s = .next u ∧ Noted p x u ∧ u.session? p.dsess = some y ∧
        (∀ v ∈ y.ops, ¬ (v.xid = o.xid ∧ v.queue = o.queue)) ∧
        u.tqueue (queueOf p.dsess o.queue) = { s.tqueue (queueOf p.dsess o.queue) with
          cc := ((s.tqueue (queueOf p.dsess o.queue)).cc + 1) % 2 ^ 32
          errors := (s.tqueue (queueOf p.dsess o.queue)).errors ++ [((s.tqueue (queueOf p.dsess o.queue)).cc + 1) % 2 ^ 32] })) ∧
  (∀ (t : Nat) (p : Packet) (x : Session) (s : State), Reaches p x s → p.opcode = 6 → x.state = 2 → x.closePsn = none → x.sendq = [] →
    (x.sealed = true → NMap.getD x.lastAckCtr (b2n p.kphase) 0 < p.ctr + 1) → s.entriesLeft = 0 →
    (∀ v ∈ x.unacked, ackMisses p v.packet.psn = false) →
    ((∀ o ∈ x.ops, o.read = true ∨ ∃ q ∈ o.psns, ackCovers p q = false) →
      ∃ u, Sys2Proof.Machine.exec (.ack t p) s = .next u ∧ u.mem = s.mem ∧ u.idm.queues = s.idm.queues ∧
        (u.session? p.dsess).map (·.unacked) = some (x.unacked.filter (fun v => !ackCovers p v.packet.psn))) ∧
    (∀ o q, x.ops = [o] → o.read = false → o.owner = .entry q → o.group = none →
      (∀ n ∈ o.psns, ackCovers p n = true ∧ ∃ v ∈ x.unacked, v.packet.psn = n) →
      ∃ u, Sys2Proof.Machine.exec (.ack t p) s = .next u ∧ u.mem = s.mem ∧
        (u.session? p.dsess).map (·.unacked) = some (x.unacked.filter (fun v => !ackCovers p v.packet.psn)) ∧
        (u.session? p.dsess).map (·.ops) = some [] ∧
        u.tqueue (queueOf p.dsess o.queue) = { s.tqueue (queueOf p.dsess o.queue) with
          cc := ((s.tqueue (queueOf p.dsess o.queue)).cc + 1) % 2 ^ 32 }))

/-- Sessions are opened, kept, rekeyed and closed (R222 to R226, R241 to R243, R192, Tables 10.5 and 10.6): a CONNECT that nothing refuses
opens the lowest session free, with the peer's index, first PSN and SALT, a window no wider than offered and a SALT of the device's own, and
its ACCEPT says so; for PURPOSE 0 it makes the controller too; one that repeats is answered as before, one refused gets its reason, and one
that fails authentication opens nothing. An ACCEPT opens the session it answers, or ends the attempt; a KEEPALIVE moves the time of the last
packet; a REKEY changes the phase received; a CLOSE closes the session, and frees it once no operation is outstanding; a malformed packet
and a datagram not the device's change no session. -/
def Obligations.SessionsOpenAndClose : Prop :=
  (∀ (t : Nat) (sealed tagOk regionOk : Bool) (m : ConnectMsg) (s : State), s.md.mode.frontEnd = true → s.moor.fenced = false →
    ((sealed ≠ (m.keyid != 0) ∨ (m.keyid ≠ 0 ∧ s.keyidOk m.keyid.toNat = true ∧ tagOk = false)) →
      ∃ u, Sys2Proof.Machine.exec (.connect t sealed tagOk regionOk m) s = .next u ∧ u.idm = s.idm ∧ u.outbox = s.outbox ∧
        bit (u.reg Reg.IDM_STATUS) 4 = true) ∧
    (sealed = (m.keyid != 0) → tagOk = true →
      (∀ n, s.repeated m = some n → m.keyid = 0 → ∃ u, Sys2Proof.Machine.exec (.connect t sealed tagOk regionOk m) s = .next u ∧
        u.idm = s.idm ∧ Sends (.acceptMsg m.source false (s.acceptOf n)) s u) ∧
      (∀ r, s.repeated m = none → s.connectReason m regionOk = r → r ≠ 0 → (m.keyid = 0 ∨ r = 3 ∨ r = 4) →
        ∃ u, Sys2Proof.Machine.exec (.connect t sealed tagOk regionOk m) s = .next u ∧
          u.idm = s.idm ∧ Sends (.acceptMsg m.source false (refusal r)) s u) ∧
      (s.repeated m = none → s.connectReason m regionOk = 0 → m.keyid = 0 →
        ∃ u n x a, Sys2Proof.Machine.exec (.connect t sealed tagOk regionOk m) s = .next u ∧ s.session? n = none ∧
          (∀ k, k < n → (s.session? k).isSome = true) ∧ u.session? n = some x ∧ (∀ k, k ≠ n → u.session? k = s.session? k) ∧
          x.state = 2 ∧ x.sealed = false ∧ x.purpose = m.purpose ∧ x.peer = m.isess % 4096 ∧ x.firstRx = m.ipsn ∧ x.cum = m.ipsn ∧
          x.wlog2 ≤ m.wlog2 ∧ x.saltRx = m.salt ∧ x.saltTx ≠ m.salt ∧ x.source = m.source ∧ x.unacked = [] ∧ x.ops = [] ∧
          Sends (.acceptMsg m.source false a) s u ∧ a.reason = 0 ∧ a.rsess = n ∧ a.wlog2 = x.wlog2 ∧ a.rpsn = x.nextPsn ∧
          a.salt = x.saltTx ∧
          (m.purpose = 0 → a.cntlid = n + 1 ∧ x.cntl = some (n + 1) ∧
            (∃ c, NMap.find u.nvq.ctrls (n + 1) = some c ∧ c.session = n ∧ c.nkey = m.nkey.toNat ∧ c.nofs = m.nofs) ∧
            (∃ q, NMap.find u.nvq.sqs (adminKey (n + 1)) = some q ∧ q.size = m.asqs + 1 ∧ q.key = m.akey.toNat ∧ q.offset = m.asqofs) ∧
            (∃ q, NMap.find u.nvq.cqs (adminKey (n + 1)) = some q ∧ q.size = m.acqs + 1 ∧ q.key = m.akey.toNat ∧ q.offset = m.acqofs ∧
              q.phase = true))))) ∧
  (∀ (t n : Nat) (sealed tagOk : Bool) (m : AcceptMsg) (x : Session) (s : State), Ticking t s → s.session? n = some x → x.state = 1 →
    ((x.sealed = false ∧ sealed = false ∨ x.sealed = true ∧ sealed = true ∧ tagOk = true) →
      ∃ u, Sys2Proof.Machine.exec (.accept t n sealed tagOk m) s = .next u ∧ (∀ k, k ≠ n → u.session? k = s.session? k) ∧
        u.session? n = if m.reason = 0 then
          some { x with state := 2, peer := m.rsess % 4096, wlog2 := min x.wlog2 m.wlog2, firstRx := m.rpsn, cum := m.rpsn,
                        saltRx := m.salt, lastRx := t } else none) ∧
    ((x.sealed = false ∧ sealed = true ∨ x.sealed = true ∧ sealed = true ∧ tagOk = false) →
      ∃ u, Sys2Proof.Machine.exec (.accept t n sealed tagOk m) s = .next u ∧ u.idm = s.idm ∧ bit (u.reg Reg.IDM_STATUS) 4 = true)) ∧
  (∀ (t : Nat) (p : Packet) (x : Session) (s : State), Ticking t s → Reaches p x s → Unwaited x → Applies p x →
    (p.opcode = 11 → ∃ u, Sys2Proof.Machine.exec (.keepalive t p) s = .next u ∧ Noted p x u ∧ u.mem = s.mem ∧
      (u.session? p.dsess).map (·.lastRx) = some t) ∧
    (p.opcode = 12 → x.sealed = true → x.phaseRx ≠ (p.aux % 2 == 1) →
      ∃ u, Sys2Proof.Machine.exec (.rekey t p) s = .next u ∧ Noted p x u ∧ u.mem = s.mem ∧
        (u.session? p.dsess).map (·.phaseRx) = some (p.aux % 2 == 1)) ∧
    (p.opcode = 10 → x.ops ≠ [] → ∃ u, Sys2Proof.Machine.exec (.close t p) s = .next u ∧
      u.session? p.dsess = some { x with lastRx := t, state := 3, closePsn := some p.psn }) ∧
    (p.opcode = 10 → x.ops = [] → ∃ u, Sys2Proof.Machine.exec (.close t p) s = .next u ∧ u.session? p.dsess = none)) ∧
  (∀ (t port udpLen : Nat) (p : Packet) (s : State), s.md.mode ≠ .reset → s.md.mode ≠ .slack →
    (malformed p = true ∨ udpLen ≠ 40 + p.len + (if p.sealed then 24 else 0)) →
    ∃ u, Sys2Proof.Machine.exec (.malformedPacket t port p udpLen) s = .next u ∧ u.idm = s.idm ∧ u.mem = s.mem ∧
      bit (u.reg Reg.IDM_STATUS) 8 = true) ∧
  (∀ (t port udpPort : Nat) (ok : Bool) (s : State), s.md.mode ≠ .reset → s.md.mode ≠ .slack →
    ∃ u, Sys2Proof.Machine.exec (.datagramDiscard t port udpPort ok) s = .next u ∧
      NMap.getD u.tally.live 4 0 = counterAdd (NMap.getD s.tally.live 4 0) 1 ∧
      u = { s with time := (s.advanceTo t).time, tally := { s.tally with live := u.tally.live, adds := u.tally.adds, addsAt := u.tally.addsAt } })

/-- The points of a read (R21, R95, R96, R111, R112, R150, Table 5.7): codewords that all decode take their record through V3 to the cipher;
those that do not are kept for the next step, and after the last step the read goes to parity; a lane's first failure is kept for another
lane and its second goes to parity; a grain that passes is given to its command; parity goes on at V3 or to the partner; a request of the
partner starts a read through V1 to V3 or is answered at once; the partner's record goes on at V4, and where it has none the command ends
with 2h/81h. -/
def Obligations.ReadsPassTheirPoints : Prop :=
  (∀ (t rid band off plen : Nat) (failing : List Nat) (r : ReadGrain) (s : State), s.read? rid = some r → r.point = 2 →
    s.entPlace r.ent = (band, off, plen) →
    (r.step = 0 → r.failing = [] → (s.lostStrips band off (64 + plen)).2 = false →
      (∀ x : Stored, (∀ c ∈ recordCodewords off (64 + plen), c ∉ failing) → s.storedAt band off = some x → x.record.kind = 1 →
        s.expected r = (x.record.check.reftag, x.record.check.wgen) → r.use ≠ 3 →
        ∃ u, Sys2Proof.Machine.exec (.pageReadDone t rid failing) s = .next u ∧
          u.read? rid = some { r with record := some x.record, point := 4, lanes := [] }) ∧
      ((∃ c ∈ recordCodewords off (64 + plen), c ∈ failing) →
        0 < s.lastStep r ((recordCodewords off (64 + plen)).filter (fun c => failing.contains c)) →
        ∃ u, Sys2Proof.Machine.exec (.pageReadDone t rid failing) s = .next u ∧
          u.read? rid = some { r with failing := (recordCodewords off (64 + plen)).filter (fun c => failing.contains c), step := 0 })) ∧
    (r.failing ≠ [] →
      (∀ x : Stored, (∀ c ∈ r.failing, c ∉ failing) → s.storedAt band off = some x → x.record.kind = 1 →
        s.expected r = (x.record.check.reftag, x.record.check.wgen) → r.use ≠ 3 →
        ∃ u, Sys2Proof.Machine.exec (.readRetryStep t rid (r.step + 1) failing) s = .next u ∧
          u.read? rid = some { r with record := some x.record, point := 4, lanes := [] }) ∧
      ((∃ c ∈ r.failing, c ∈ failing) →
        ∃ u, Sys2Proof.Machine.exec (.readRetryStep t rid (r.step + 1) failing) s = .next u ∧
          (r.step + 1 < s.lastStep r (r.failing.filter (fun c => failing.contains c)) →
            u.read? rid = some { r with failing := r.failing.filter (fun c => failing.contains c), step := r.step + 1 }) ∧
          (s.lastStep r (r.failing.filter (fun c => failing.contains c)) ≤ r.step + 1 → r.source = 0 →
            u.read? rid = some { r with failPoint := 2, lanes := [], failing := [], point := 8, source := 1 })))) ∧
  (∀ (t rid lane : Nat) (fault : Option LaneDecode) (r : ReadGrain) (rec : Record) (s : State), s.read? rid = some r →
    r.record = some rec → r.point = 5 → s.dlaneOk lane = true →
    let res := fault.getD (s.laneDecode rec)
    (∀ f, laneFailure rec res = some f → r.lanes = [] →
      ∃ u, Sys2Proof.Machine.exec (.decompressionDone t rid lane fault) s = .next u ∧ u.read? rid = some { r with lanes := [lane] }) ∧
    (∀ f l0, laneFailure rec res = some f → r.lanes = [l0] → l0 ≠ lane → r.source = 0 →
      ∃ u, Sys2Proof.Machine.exec (.decompressionDone t rid lane fault) s = .next u ∧
        u.read? rid = some { r with failPoint := f.1, lanes := [], failing := [], point := 8, source := 1 }) ∧
    (∀ bytes c, res = .ok bytes → laneFailure rec res = none → r.lanes = [] → r.source = 0 → r.use ≤ 1 → r.rid = rid →
      crc64 bytes = rec.check.guard →
      s.rcmd? r.cntl r.qid r.cid = some c → c.left.filter (· != r.grain) ≠ [] →
      ∃ u, Sys2Proof.Machine.exec (.decompressionDone t rid lane fault) s = .next u ∧ u.read? rid = none ∧
        u.rcmd? r.cntl r.qid r.cid = some { c with left := c.left.filter (· != r.grain), got := NMap.put c.got r.grain bytes,
                                                    tags := NMap.put c.tags r.grain rec.apptag })) ∧
  (∀ (t rid : Nat) (r : ReadGrain) (s : State), s.read? rid = some r →
    (∀ (rec : Record) (b : Band), r.point = 8 → r.use ≠ 3 → rec.kind = 1 → s.expected r = (rec.check.reftag, rec.check.wgen) →
      NMap.find s.path.bands (s.entPlace r.ent).1 = some b →
      (s.lostStrips (s.entPlace r.ent).1 (s.entPlace r.ent).2.1 (64 + (s.entPlace r.ent).2.2)).1 ≤ b.m →
      ∃ u, Sys2Proof.Machine.exec (.parityRepair t rid (some rec)) s = .next u ∧
        u.read? rid = some { r with record := some rec, point := 4, lanes := [] }) ∧
    (r.point = 8 → r.use ≠ 3 → r.source = 1 → s.partnerAsk = true →
      ∃ u, Sys2Proof.Machine.exec (.parityRepair t rid none) s = .next u ∧ Sends (.repairAsk rid r.vol r.grain r.ent.wgen) s u ∧
        u.read? rid = some { r with lanes := [], failing := [], point := 9, source := 2 }) ∧
    (∀ rec : Record, r.point = 9 → rec.kind ≠ 4 → ∃ u, Sys2Proof.Machine.exec (.partnerRepairResponse t rid (some rec)) s = .next u ∧
      u.read? rid = some { r with record := some rec, point := 4, lanes := [] }) ∧
    (∀ c : ReadCmd, r.point = 9 → r.source = 2 → r.use ≤ 1 → s.beyondRepair r = false → s.rcmd? r.cntl r.qid r.cid = some c →
      Ready c.cntl c.qid s → ∃ u, Sys2Proof.Machine.exec (.partnerRepairResponse t rid none) s = .next u ∧
        Answers c.cntl c.qid c.cmd.cid 2 0x81 0 s u)) ∧
  (∀ (t vol grain token : Nat) (wgen : BitVec 16) (s : State),
    (∀ e, s.mapEnt vol grain = some e → e.wgen = wgen → e.stored = true →
      ∃ u r, Sys2Proof.Machine.exec (.partnerRepairRequest t vol grain wgen token) s = .next u ∧ u.path.reads = s.path.reads ++ [r] ∧
        r.use = 3 ∧ r.cid = token ∧ r.ent = e ∧ r.point = 2 ∧ r.rid = s.path.nextRid) ∧
    (∀ e, s.mapEnt vol grain = some e → e.wgen = wgen → e.kind = 2 →
      ∃ u, Sys2Proof.Machine.exec (.partnerRepairRequest t vol grain wgen token) s = .next u ∧ u.path = s.path ∧
        Sends (.repairGive token ((s.storedAt e.band e.offset).map (·.record))) s u) ∧
    ((∀ e, s.mapEnt vol grain = some e → e.wgen ≠ wgen ∨ (e.stored = false ∧ e.kind ≠ 2)) →
      ∃ u, Sys2Proof.Machine.exec (.partnerRepairRequest t vol grain wgen token) s = .next u ∧ u.path = s.path ∧
        Sends (.repairGive token none) s u))

/-- The host's doorbells and I/O commands run (R15, R16, R55, R68, R82, R83, R95, R97, R198, R199, R207, R209): a valid submission doorbell
moves the tail and fetches the new entries, a valid completion doorbell moves the head; an admitted write stands among the writes in
flight, accepted at once where its data was pushed, and Write Zeroes and Dataset Management are accepted at once; an admitted read or
compare starts a page read for each of its stored grains; a flush with nothing before it succeeds; an opcode outside Table 9.5 is
answered 0h/01h. -/
def Obligations.HostCommandsRun : Prop :=
  (∀ (t session offset cntl : Nat) (v : Word) (c : Cq) (s : State), s.ctrlOn session = some cntl → s.md.mode.frontEnd = true →
    s.moor.fenced = false → offset / 8 < 20480 → NMap.find s.nvq.cqs (offset / 8) = some c → c.cntl = cntl →
    (∀ q : Sq, offset % 8 = 0 → NMap.find s.nvq.sqs (offset / 8) = some q → epochLater (bits v 31 16) q.epoch = true →
      bits v 15 0 < q.size →
      ∃ u, Sys2Proof.Machine.exec (.doorbellWrite t session offset v) s = .next u ∧
        NMap.find u.nvq.sqs (offset / 8) = some { q with epoch := bits v 31 16, tail := bits v 15 0 } ∧
        ((bits v 15 0 + q.size - q.tail) % q.size ≠ 0 → q.deleting = none → c.held = [] →
          ∀ k ∈ fetchBatches (2 ^ s.regField Reg.NVQ_CTRL 19 16) ((bits v 15 0 + q.size - q.tail) % q.size),
            Sends (.fetch q.cntl q.qid k) s u)) ∧
    (offset % 8 = 4 → epochLater (bits v 31 16) c.epoch = true → bits v 15 0 < c.size → c.held = [] →
      (bits v 15 0 + c.size - c.head) % c.size ≤ (c.tail + c.size - c.head) % c.size →
      ∃ u, Sys2Proof.Machine.exec (.doorbellWrite t session offset v) s = .next u ∧
        NMap.find u.nvq.cqs (offset / 8) = some { c with epoch := bits v 31 16, head := bits v 15 0 })) ∧
  (∀ (t cntl qid : Nat) (e : Sqe) (s : State), s.canFetch cntl qid = true → s.write? s.adm.nextSeq = none →
    let c := { e with opcode := opWrite }
    let y := (s.advanceTo t).fetched cntl qid c
    let h := y.asHeld cntl qid c [] []
    s.ioRefusal cntl c = none → y.writeRefusal h = none → y.tooLarge h = false → y.streamHeld h = false → (y.admitWrite h).1 = .no →
    ∃ u w, Sys2Proof.Machine.exec (.nvmWrite t cntl qid e) s = .next u ∧ w ∈ u.adm.writes ∧ w.seq = s.adm.nextSeq ∧ w.cntl = cntl ∧
      w.qid = qid ∧ w.cmd = c ∧ w.resv = h.resv ∧ w.grains.map (·.grain) = grainsOf (slbaOf e) (nlbOf e) ∧
      u.adm.nextSeq = s.adm.nextSeq + 1 ∧ (pushOf e = false → w.acc = none) ∧
      (pushOf e = true → y.hasPi w = false → w.acc = some (s.advanceTo t).time.now)) ∧
  (∀ (t cntl qid : Nat) (e : Sqe) (s : State), s.canFetch cntl qid = true → s.write? s.adm.nextSeq = none →
    let c := { e with opcode := opZeroes }
    let y := (s.advanceTo t).fetched cntl qid c
    s.ioRefusal cntl c = none → (y.admitWrite (y.asHeld cntl qid c [] [])).1 = .no →
    ∃ u w, Sys2Proof.Machine.exec (.writeZeroes t cntl qid e) s = .next u ∧ w ∈ u.adm.writes ∧ w.seq = s.adm.nextSeq ∧ w.cntl = cntl ∧
      w.qid = qid ∧ w.cmd = c ∧ w.acc = some (s.advanceTo t).time.now ∧ w.grains.map (·.grain) = grainsOf (slbaOf e) (nlbOf e)) ∧
  (∀ (t cntl qid : Nat) (e : Sqe) (ranges : List (Nat × Nat)) (s : State), s.canFetch cntl qid = true → s.write? s.adm.nextSeq = none →
    bit e.dw11 2 = true →
    let c := { e with opcode := opDsm }
    let y := (s.advanceTo t).fetched cntl qid c
    let h := y.asHeld cntl qid c ranges []
    s.ioRefusal cntl c = none → s.rangePast e.nsid ranges = false → grainPlan h ≠ [] → (y.admitWrite h).1 = .no →
    ∃ u w, Sys2Proof.Machine.exec (.datasetManagement t cntl qid e ranges) s = .next u ∧ w ∈ u.adm.writes ∧ w.seq = s.adm.nextSeq ∧
      w.cntl = cntl ∧ w.qid = qid ∧ w.cmd = c ∧ w.acc = some (s.advanceTo t).time.now ∧
      w.grains.map (·.grain) = (grainPlan h).map (·.1)) ∧
  (∀ (t cntl qid : Nat) (e : Sqe) (bs : List Booking) (s : State), s.canFetch cntl qid = true →
    let c := { e with opcode := opRead }
    let y := ((s.advanceTo t).fetched cntl qid c).beRefill
    s.ioRefusal cntl c = none → y.readsStopped (y.asHeld cntl qid c [] []) = false →
    y.bookReads (volOf e.nsid) (grainsOf (slbaOf e) (nlbOf e)) = some bs →
    (∀ g ∈ grainsOf (slbaOf e) (nlbOf e), s.path.unknown.contains (unitKey (volOf e.nsid) (g / 4)) = false ∧
      ∃ x, s.viewEnt (volOf e.nsid) g = some x ∧ x.stored = true) →
    ∃ u r, Sys2Proof.Machine.exec (.nvmRead t cntl qid e) s = .next u ∧ u.path.rcmds = s.path.rcmds ++ [r] ∧ r.cntl = cntl ∧
      r.qid = qid ∧ r.cmd = c ∧ r.left = grainsOf (slbaOf e) (nlbOf e) ∧ r.hostData = none ∧
      u.path.reads.map (fun x => (x.cntl, x.qid, x.cid, x.use, x.grain)) =
        s.path.reads.map (fun x => (x.cntl, x.qid, x.cid, x.use, x.grain)) ++
          (grainsOf (slbaOf e) (nlbOf e)).map (fun g => (cntl, qid, e.cid, 0, g))) ∧
  (∀ (t cntl qid : Nat) (e : Sqe) (bs : List Booking) (hostData : List Byte) (s : State), s.canFetch cntl qid = true →
    let c := { e with opcode := opCompare }
    let y := ((s.advanceTo t).fetched cntl qid c).beRefill
    s.ioRefusal cntl c = none → y.readsStopped (y.asHeld cntl qid c [] hostData) = false →
    y.bookReads (volOf e.nsid) (grainsOf (slbaOf e) (nlbOf e)) = some bs →
    (∀ g ∈ grainsOf (slbaOf e) (nlbOf e), s.path.unknown.contains (unitKey (volOf e.nsid) (g / 4)) = false ∧
      ∃ x, s.viewEnt (volOf e.nsid) g = some x ∧ x.stored = true) →
    ∃ u r, Sys2Proof.Machine.exec (.compare t cntl qid e hostData) s = .next u ∧ u.path.rcmds = s.path.rcmds ++ [r] ∧ r.cntl = cntl ∧
      r.qid = qid ∧ r.cmd = c ∧ r.left = grainsOf (slbaOf e) (nlbOf e) ∧ r.hostData = some hostData ∧
      u.path.reads.map (fun x => (x.cntl, x.qid, x.cid, x.use, x.grain)) =
        s.path.reads.map (fun x => (x.cntl, x.qid, x.cid, x.use, x.grain)) ++
          (grainsOf (slbaOf e) (nlbOf e)).map (fun g => (cntl, qid, e.cid, 1, g))) ∧
  (∀ (t cntl qid : Nat) (e : Sqe) (c : Ctrl) (s : State), Ready cntl qid s → e.fuse = 0 → qid ≠ 0 →
    (e.nsid = 0xFFFFFFFF ∨ (s.nsFor cntl e.nsid).isSome = true) → NMap.find s.nvq.ctrls cntl = some c →
    (∀ x ∈ c.outstanding, x.1 = 0) →
    ∃ u, Sys2Proof.Machine.exec (.flush t cntl qid e) s = .next u ∧ Answers cntl qid e.cid 0 0 0 s u) ∧
  (∀ (t cntl qid : Nat) (e : Sqe) (s : State), Ready cntl qid s → (s.md.mode ≠ .preservation ∨ qid ≠ 0) →
    ∃ u, Sys2Proof.Machine.exec (.invalidOpcode t cntl qid e) s = .next u ∧ Answers cntl qid e.cid 0 1 0 s u)

/-- The write path's own commands run (R16, R18, R71, R86, R101, R121, R123, R323): data that has arrived accepts its write; a lookup that misses
the filter is a miss, and one that is answered hits or misses by the answer; 40,000 ticks after acceptance a lookup still open expires; a
lane's outcome leaves what its row of Table 5.3 says; a cipher pass fills a grain's payload, and hands a read's record to the decompression
lanes; and a write that is ready is appended to the home stream, a record for each of its grains. -/
def Obligations.WritePathCommandsRun : Prop :=
  (∀ (t seq : Nat) (data pi : List Byte) (w : WriteOp) (s : State), s.write? seq = some w → w.kind = opWrite → w.acc = none →
    w.pushed = false → s.md.mode.frontEnd = true → data.length = 4096 * w.nlb →
    (s.hasPi w = true → pi.length = 16 * w.nlb ∧ piFailure w data pi = 0) →
    ∃ u v, Sys2Proof.Machine.exec (.acceptance t seq data pi) s = .next u ∧ v ∈ u.adm.writes ∧ v.seq = seq ∧ v.cntl = w.cntl ∧
      v.cmd = w.cmd ∧ v.acc = some (s.advanceTo t).time.now ∧ v.grains.map (·.grain) = w.grains.map (·.grain)) ∧
  (∀ (t seq grain a : Nat) (w : WriteOp) (x : GrainOp) (s : State), s.write? seq = some w → w.grain? grain = some x → w.acc = some a →
    x.dedup = .waiting →
    (∀ (cluster : Nat) (index : Option (Option FpEnt)) (n : Ns), s.ns? w.vol = some n → x.formed = true → x.merging = false →
      (s.advanceTo t).time.now < a + 40000 → s.dedupRuns = true → s.clusterOk cluster = true →
      (s.lookup x.fingerprint x.check.guard n.keyslot index = some none →
        ∃ u, Sys2Proof.Machine.exec (.inlineLookupAnswer t seq grain cluster true index) s = .next u ∧
          (u.write? seq).bind (·.grain? grain) = some { x with dedup := .miss }) ∧
      (∀ e : FpEnt, s.lookup x.fingerprint x.check.guard n.keyslot index = some (some e) →
        ∃ u, Sys2Proof.Machine.exec (.inlineLookupAnswer t seq grain cluster true index) s = .next u ∧
          (u.write? seq).bind (·.grain? grain) =
            some { x with dedup := if s.overlayRoom w.vol grain then .hit e.sgt else .skip })) ∧
    (a + 40000 ≤ (s.advanceTo t).time.now → ∃ u, Sys2Proof.Machine.exec (.inlineBudgetExpiry t seq grain) s = .next u ∧
      (u.write? seq).bind (·.grain? grain) = some { x with dedup := .expired })) ∧
  (∀ (t seq grain lane : Nat) (r : LaneResult) (w : WriteOp) (x : GrainOp) (s : State), s.write? seq = some w →
    w.grain? grain = some x → x.kind = 0 → x.formed = true → x.merging = false → x.plain ≠ [] → x.lane = .waiting → s.laneOk lane = true →
    let row := laneRow (x.policy == 0 || s.md.mode == .preservation) (x.policy == 2) x.check.guard x.geom grain r
    row ≠ 1 → row ≠ 4 →
    ∃ u, Sys2Proof.Machine.exec (.compressionOutcome t seq grain lane r) s = .next u ∧
      (u.write? seq).bind (·.grain? grain) = some (laneOutcome row x.policy r x)) ∧
  (∀ (t pair : Nat) (s : State), s.pairOk pair = true →
    (∀ (seq grain : Nat) (w : WriteOp) (x : GrainOp) (n : Ns) (k : Slot), s.write? seq = some w →
      w.grain? grain = some x → x.kind = 0 → x.ciphered = false → x.failed = false → x.resolved = true →
      s.ns? w.vol = some n → NMap.find s.ciph.slots n.keyslot = some k →
      ∃ u, Sys2Proof.Machine.exec (.cipherPassDone t (.grain seq grain) pair true) s = .next u ∧
        (u.write? seq).bind (·.grain? grain) =
          some { x with payload := xtsEncrypt k.key1 k.key2 (xtsTweak x.check) (cipherInput x), ciphered := true }) ∧
    (∀ (rid : Nat) (r : ReadGrain), s.read? rid = some r → r.point = 4 →
      ∃ u, Sys2Proof.Machine.exec (.cipherPassDone t (.read rid) pair true) s = .next u ∧ u.read? rid = some { r with point := 5 })) ∧
  (∀ (t seq : Nat) (w : WriteOp) (b : Band) (s : State), s.write? seq = some w → w.ready = true → w.appended = false →
    (∀ v ∈ s.adm.writes, v.seq < seq → v.appended = true) → NMap.find s.path.bands s.path.homeStream.band = some b →
    ((w.grains.filter (fun x => !x.failed)).map (fun x => 64 + (if x.kind = 0 then x.payload.length else 0))).sum ≤ s.bandRoom .home →
    ∃ u, Sys2Proof.Machine.exec (.recordAppend t seq) s = .next u ∧
      (∀ x ∈ w.grains, x.failed = false → ∃ r ∈ u.path.stored, r.st = .home ∧ r.record.check = x.check ∧
        r.record.payload = (if x.kind = 0 then x.payload else []) ∧ r.record.atick = w.acc.getD 0))

/-- The stream and mirror commands run (R86, R87, R88, R142, R156, R174, R267): at its parity-transfer slot the open stripe of a stream closes
with whole strips; a strip that is ready crosses its channel and its four pages leave for the band's die; a program that succeeds joins the
programmed strips of its stripe, and one that fails marks its block; mirror records are appended to the mirror stream of a paired head, and
at a head in Sole or Handback set the bits of the units they name; and the partner's acknowledgement gives a grain its tick and its
receipt. -/
def Obligations.StreamCommandsRun : Prop :=
  (∀ (t : Nat) (st : StreamId) (x : Stripe) (b : Band) (s : State), s.stripe? (s.stream st).band (s.stream st).stripe = some x → x.st = st →
    x.closed = false → (s.stream st).pos ≠ 0 → x.oldestParity ≤ slotOf (s.advanceTo t).time.now →
    NMap.find s.path.bands (s.stream st).band = some b →
    ∃ u y, Sys2Proof.Machine.exec (.stripeClose t st) s = .next u ∧ u.stripe? (s.stream st).band (s.stream st).stripe = some y ∧
      y.closed = true ∧ y.bytes = max x.bytes (65536 * (((s.stream st).pos - 1) / 65536 + 1)) ∧ y.closeTick = (s.advanceTo t).time.now) ∧
  (∀ (t band stripe strip die : Nat) (st : StreamId) (x : Stripe) (b : Band) (s : State), s.moor.fenced = false →
    s.stripe? band stripe = some x → x.st = st → NMap.find s.path.bands band = some b → stripReady b x strip = true →
    x.transferred.contains strip = false → b.dieOf strip = some die →
    ∃ u, Sys2Proof.Machine.exec (.pageTransferDone t st band stripe strip) s = .next u ∧
      u.stripe? band stripe = some { x with transferred := x.transferred ++ [strip] } ∧
      ∀ p, p < 4 → ∃ bytes, Out.page die (b.blockOf die) (4 * stripe + p) bytes ∈ u.outbox) ∧
  (∀ (t band stripe strip die : Nat) (st : StreamId) (x : Stripe) (b : Band) (s : State), s.stripe? band stripe = some x → x.st = st →
    NMap.find s.path.bands band = some b → x.transferred.contains strip = true → x.programmed.contains strip = false →
    b.dieOf strip = some die →
    ∃ u y, Sys2Proof.Machine.exec (.programDone t st band stripe strip true) s = .next u ∧ u.stripe? band stripe = some y ∧
      y.programmed = x.programmed ++ [strip]) ∧
  (∀ (t : Nat) (recs : List Record) (s : State),
    (∀ b : Band, s.service = .paired → NMap.find s.path.bands s.path.mirrorStream.band = some b →
      (recs.map (fun r => 64 + r.plen)).sum ≤ s.bandRoom .mirror →
      ∃ u, Sys2Proof.Machine.exec (.mirrorRecordArrival t recs) s = .next u ∧
        ∀ r ∈ recs, ∃ x ∈ u.path.stored, x.st = .mirror ∧ x.record = r ∧ x.acked = false) ∧
    (s.md.mode = .sole ∨ s.md.mode = .handback →
      ∃ u, Sys2Proof.Machine.exec (.mirrorRecordArrival t recs) s = .next u ∧
        ∀ r ∈ recs, unitKey (r.check.reftag.toNat / 2 ^ 34) (r.check.reftag.toNat % 2 ^ 34 / 4) ∈ u.moor.dirty)) ∧
  (∀ (t : Nat) (acks : List (Nat × Nat)) (w : WriteOp) (s : State), s.moor.resync = none → w ∈ s.adm.writes →
    (∀ v ∈ s.adm.writes, v.seq = w.seq →
      WriteOp.durable (s.needsAck v) { v with grains := v.grains.map (ackGrain acks) } = false) →
    ∃ u v, Sys2Proof.Machine.exec (.programAck t acks) s = .next u ∧ v ∈ u.adm.writes ∧ v.seq = w.seq ∧
      ∀ x ∈ w.grains, ∀ r a, x.ackAt = none → x.record = some r → acks.find? (fun a => a.1 == r.seq) = some a →
        { x with ackAt := some a.2, receipt := true } ∈ v.grains)

/-- The timers of admission and of the completion queues run (R34, R69, R72, R203): at a slot boundary the one held command is tried again,
and leaves the held list where it is admitted, or stays, with what it now waits for, where it is not; a held command past its queue's hold
limit is answered 7h/81h and leaves the list; and once the aggregation time has run out every completion queue due is notified. -/
def Obligations.TimerCommandsRun : Prop :=
  (∀ (t : Nat) (h : Held) (s : State), (s.advanceTo t).time.now % 8192 = 0 →
    let y := (s.advanceTo t).slotBegins
    y.adm.held = [h] → (h.forCredit = false ∨ h.tried < windowOf y.time.now) → y.pastLimit h = false →
    ((y.attempt h).1 = .no → ∃ u, Sys2Proof.Machine.exec (.holdRetry t) s = .next u ∧ h ∉ u.adm.held ∧
      (∀ w ∈ (y.attempt h).2.adm.writes, w ∈ u.adm.writes)) ∧
    (∀ why, (y.attempt h).1 = why → why ≠ .no → ∃ u, Sys2Proof.Machine.exec (.holdRetry t) s = .next u ∧
      u.adm.held = (y.attempt h).2.adm.held.map
        (fun x => if x = h then { x with forCredit := why == .credit, tried := windowOf y.time.now } else x))) ∧
  (∀ (t cntl qid cid : Nat) (h : Held) (s : State),
    s.adm.held.find? (fun h => h.cntl == cntl && h.qid == qid && h.cmd.cid == cid) = some h → (s.advanceTo t).pastLimit h = true →
    Ready cntl qid s → Settled cntl s →
    ∃ u, Sys2Proof.Machine.exec (.holdLimitExpiry t cntl qid cid) s = .next u ∧ h ∉ u.adm.held ∧
      Answers cntl qid cid 7 0x81 0 s u) ∧
  (∀ (t cntl key : Nat) (q : Cq) (c : Ctrl) (s : State), s.moor.fenced = false → NMap.find s.nvq.ctrls cntl = some c →
    NMap.find s.nvq.cqs key = some q →
    q.cntl = cntl → q.unnotified ≠ 0 → q.notifyFrom + c.coalesce / 256 % 256 * 100000 ≤ (s.advanceTo t).time.now →
    ∃ u, Sys2Proof.Machine.exec (.coalescingTimer t cntl) s = .next u ∧ NMap.find u.nvq.cqs key = some { q with unnotified := 0 } ∧
      Out.notify c.session ∈ u.outbox)

end
end

