-- ==== Sys2Proof/Laws/Maps.lean ====
section
/-!
SUPPORT. Laws of the sparse maps and of the byte memories: what a read gives after a write, and that writes keep the canonical form.
-/

namespace Sys2Proof.Laws

open Sys2Proof.Machine

/-! ### Sparse maps -/

@[simp] theorem find_nil {α : Type} (j : Nat) : NMap.find ([] : NMap α) j = none := rfl

theorem find_cons {α : Type} (a : Nat) (w : α) (m : NMap α) (j : Nat) :
    NMap.find ((a, w) :: m) j = if j = a then some w else NMap.find m j := rfl

theorem find_put {α : Type} (m : NMap α) (k : Nat) (v : α) (j : Nat) :
    NMap.find (NMap.put m k v) j = if k = j then some v else NMap.find m j := by
  by_cases h : k = j
  · subst h
    rw [if_pos rfl]
    induction m with
    | nil => simp [NMap.put, NMap.find]
    | cons p m ih =>
      obtain ⟨a, w⟩ := p
      simp only [NMap.put]
      split
      · rw [find_cons, if_pos rfl]
      · split
        · rw [find_cons, if_pos rfl]
        · rename_i h2
          rw [find_cons, if_neg h2, ih]
  · have h' : ¬ j = k := fun e => h e.symm
    rw [if_neg h]
    induction m with
    | nil => simp [NMap.put, NMap.find, h']
    | cons p m ih =>
      obtain ⟨a, w⟩ := p
      simp only [NMap.put]
      split
      · rw [find_cons, if_neg h']
      · split
        · rename_i h2
          subst h2
          rw [find_cons, find_cons, if_neg h', if_neg h']
        · rw [find_cons, find_cons, ih]

@[simp] theorem find_put_self {α : Type} (m : NMap α) (k : Nat) (v : α) : NMap.find (NMap.put m k v) k = some v := by
  simp [find_put]

theorem find_put_ne {α : Type} (m : NMap α) {k j : Nat} (v : α) (h : k ≠ j) : NMap.find (NMap.put m k v) j = NMap.find m j := by
  simp [find_put, h]

theorem find_del {α : Type} (m : NMap α) (k j : Nat) : NMap.find (NMap.del m k) j = if k = j then none else NMap.find m j := by
  by_cases h : k = j
  · subst h
    rw [if_pos rfl]
    induction m with
    | nil => rfl
    | cons p m ih =>
      obtain ⟨a, w⟩ := p
      simp only [NMap.del]
      split
      · exact ih
      · rename_i h2
        rw [find_cons, if_neg h2, ih]
  · have h' : ¬ j = k := fun e => h e.symm
    rw [if_neg h]
    induction m with
    | nil => rfl
    | cons p m ih =>
      obtain ⟨a, w⟩ := p
      simp only [NMap.del]
      split
      · rename_i h2
        subst h2
        rw [ih, find_cons, if_neg h']
      · rw [find_cons, find_cons, ih]

@[simp] theorem getD_put_self {α : Type} (m : NMap α) (k : Nat) (v d : α) : NMap.getD (NMap.put m k v) k d = v := by
  simp [NMap.getD]

theorem getD_put_ne {α : Type} (m : NMap α) {k j : Nat} (v d : α) (h : k ≠ j) :
    NMap.getD (NMap.put m k v) j d = NMap.getD m j d := by
  simp [NMap.getD, find_put, h]

theorem find_upd {α : Type} (m : NMap α) (k : Nat) (f : α → α) (j : Nat) :
    NMap.find (NMap.upd m k f) j = if k = j then (NMap.find m j).map f else NMap.find m j := by
  unfold NMap.upd
  cases h : NMap.find m k with
  | none =>
    by_cases e : k = j
    · subst e; rw [if_pos rfl, h]; rfl
    · rw [if_neg e]
  | some v =>
    simp only [find_put]
    by_cases e : k = j
    · subst e; rw [if_pos rfl, if_pos rfl, h]; rfl
    · rw [if_neg e, if_neg e]

/-- A key of a map after a write is the key written or one listed before. -/
theorem mem_put {α : Type} {m : NMap α} {k : Nat} {v : α} {c : Nat × α} (h : c ∈ NMap.put m k v) : c = (k, v) ∨ c ∈ m := by
  induction m with
  | nil => simpa [NMap.put] using h
  | cons p m ih =>
    obtain ⟨a, w⟩ := p
    simp only [NMap.put] at h
    split at h
    · simpa using h
    · split at h
      · rcases List.mem_cons.1 h with h | h
        · exact .inl h
        · exact .inr (List.mem_cons_of_mem _ h)
      · rcases List.mem_cons.1 h with h | h
        · exact .inr (h ▸ List.mem_cons_self)
        · exact (ih h).imp id (List.mem_cons_of_mem _)

theorem mem_del {α : Type} {m : NMap α} {k : Nat} {c : Nat × α} (h : c ∈ NMap.del m k) : c ∈ m ∧ c.1 ≠ k := by
  induction m with
  | nil => simp [NMap.del] at h
  | cons p m ih =>
    obtain ⟨a, w⟩ := p
    simp only [NMap.del] at h
    split at h
    · exact ⟨List.mem_cons_of_mem _ (ih h).1, (ih h).2⟩
    · rcases List.mem_cons.1 h with h | h
      · subst h
        exact ⟨List.mem_cons_self, fun e => ‹¬k = a› e.symm⟩
      · exact ⟨List.mem_cons_of_mem _ (ih h).1, (ih h).2⟩

theorem put_rising {α : Type} {m : NMap α} {k : Nat} {v : α} (h : m.Pairwise (fun a b => a.1 < b.1)) :
    (NMap.put m k v).Pairwise (fun a b => a.1 < b.1) := by
  induction m with
  | nil => simp [NMap.put]
  | cons p m ih =>
    obtain ⟨a, w⟩ := p
    rw [List.pairwise_cons] at h
    simp only [NMap.put]
    split
    · rename_i hk
      refine List.pairwise_cons.2 ⟨fun c hc => ?_, List.pairwise_cons.2 h⟩
      rcases List.mem_cons.1 hc with hc | hc
      · rw [hc]; exact hk
      · exact Nat.lt_trans hk (h.1 c hc)
    · split
      · rename_i hk
        subst hk
        exact List.pairwise_cons.2 h
      · rename_i h1 h2
        refine List.pairwise_cons.2 ⟨fun c hc => ?_, ih h.2⟩
        rcases mem_put hc with hc | hc
        · rw [hc]
          show a < k
          omega
        · exact h.1 c hc

theorem del_rising {α : Type} {m : NMap α} {k : Nat} (h : m.Pairwise (fun a b => a.1 < b.1)) :
    (NMap.del m k).Pairwise (fun a b => a.1 < b.1) := by
  induction m with
  | nil => simp [NMap.del]
  | cons p m ih =>
    obtain ⟨a, w⟩ := p
    rw [List.pairwise_cons] at h
    simp only [NMap.del]
    split
    · exact ih h.2
    · exact List.pairwise_cons.2 ⟨fun c hc => h.1 c (mem_del hc).1, ih h.2⟩

/-- A write of a map keeps its keys rising. -/
theorem wf_put {α : Type} {m : NMap α} {k : Nat} {v : α} (h : NMap.wf m = true) : NMap.wf (NMap.put m k v) = true := by
  simp only [NMap.wf, decide_eq_true_eq] at *
  exact put_rising h

theorem wf_del {α : Type} {m : NMap α} {k : Nat} (h : NMap.wf m = true) : NMap.wf (NMap.del m k) = true := by
  simp only [NMap.wf, decide_eq_true_eq] at *
  exact del_rising h

/-! ### Byte memories -/

theorem read_write (d : Byte) (m : List Host.Cell) (a b : Nat) (v : Byte) :
    Memory.read d (Memory.write d m a v) b = if a = b then v else Memory.read d m b := by
  unfold Memory.read Memory.write NMap.getD
  split
  · rw [find_del]; split <;> simp_all
  · rw [find_put]; split <;> simp_all

/-- A byte write keeps the canonical form. -/
theorem write_wf {d : Byte} {m : List Host.Cell} {a : Nat} {v : Byte} (h : Memory.wf d m = true) :
    Memory.wf d (Memory.write d m a v) = true := by
  unfold Memory.wf at *
  rw [Bool.and_eq_true, decide_eq_true_eq, List.all_eq_true] at *
  unfold Memory.write
  split
  · exact ⟨del_rising h.1, fun c hc => h.2 c (mem_del hc).1⟩
  · refine ⟨put_rising h.1, fun c hc => ?_⟩
    rcases mem_put hc with hc | hc
    · subst hc; simpa using ‹_›
    · exact h.2 c hc

/-- So does a write of several bytes. -/
theorem writeBytes_wf {d : Byte} {bs : List Byte} : ∀ {m : List Host.Cell} {a : Nat}, Memory.wf d m = true →
    Memory.wf d (Memory.writeBytes d m a bs) = true := by
  induction bs with
  | nil => exact fun h => h
  | cons b bs ih => exact fun h => ih (write_wf h)

/-- Taking bytes away keeps the canonical form. -/
theorem filter_wf {d : Byte} {m : List Host.Cell} {p : Host.Cell → Bool} (h : Memory.wf d m = true) :
    Memory.wf d (m.filter p) = true := by
  unfold Memory.wf at *
  rw [Bool.and_eq_true, decide_eq_true_eq, List.all_eq_true] at *
  exact ⟨h.1.filter p, fun c hc => h.2 c (List.mem_of_mem_filter hc)⟩

/-- A byte after a write of several: the byte written there, or the byte that stood there. -/
theorem read_writeBytes (d : Byte) (bs : List Byte) : ∀ (m : List Host.Cell) (a b : Nat),
    Memory.read d (Memory.writeBytes d m a bs) b =
      if a ≤ b ∧ b < a + bs.length then bs.getD (b - a) 0 else Memory.read d m b := by
  induction bs with
  | nil => intro m a b; rw [if_neg (by simp only [List.length_nil]; omega)]; rfl
  | cons v bs ih =>
    intro m a b
    simp only [Memory.writeBytes, ih, read_write, List.length_cons]
    by_cases h1 : a + 1 ≤ b ∧ b < a + 1 + bs.length
    · have h2 : a ≤ b ∧ b < a + (bs.length + 1) := by omega
      have h3 : b - a = (b - (a + 1)) + 1 := by omega
      rw [if_pos h1, if_pos h2, h3, List.getD_cons_succ]
    · rw [if_neg h1]
      by_cases h4 : a = b
      · subst h4; simp
      · rw [if_neg h4, if_neg (by omega)]

end Sys2Proof.Laws
end

