-- ==== Sys2Proof/Laws/Frame.lean ====
section
/-!
SUPPORT. What an operation may touch. `Frame m s u` says that `u` differs from `s` at most in the parts of the state whose bits are set
in `m`, that the queue of commands stands, that the tide counter has not gone backward, and that both byte memories are still in
canonical form if they were. One lemma `<operation>_frame` per operation stands in the files Frame*.lean.
-/

namespace Sys2Proof.Laws

open Sys2Proof.Machine

structure Frame (m : Nat) (s u : State) : Prop where
  time : m.testBit 0 = false → u.time = s.time
  md : m.testBit 1 = false → u.md = s.md
  regs : m.testBit 2 = false → u.regs = s.regs
  rcdr : m.testBit 3 = false → u.rcdr = s.rcdr
  tally : m.testBit 4 = false → u.tally = s.tally
  faults : m.testBit 5 = false → u.faults = s.faults
  adm : m.testBit 6 = false → u.adm = s.adm
  nvq : m.testBit 7 = false → u.nvq = s.nvq
  path : m.testBit 8 = false → u.path = s.path
  ddup : m.testBit 9 = false → u.ddup = s.ddup
  flash : m.testBit 10 = false → u.flash = s.flash
  strp : m.testBit 11 = false → u.strp = s.strp
  idm : m.testBit 12 = false → u.idm = s.idm
  moor : m.testBit 13 = false → u.moor = s.moor
  repl : m.testBit 14 = false → u.repl = s.repl
  mem : m.testBit 15 = false → u.mem = s.mem
  dma : m.testBit 16 = false → u.dma = s.dma
  ciph : m.testBit 17 = false → u.ciph = s.ciph
  ldg : m.testBit 18 = false → u.ldg = s.ldg
  spi : m.testBit 19 = false → u.spi = s.spi
  elec : m.testBit 20 = false → u.elec = s.elec
  image : m.testBit 21 = false → u.image = s.image
  outbox : m.testBit 22 = false → u.outbox = s.outbox
  free : m.testBit 23 = false → u.free = s.free
  pending : u.pending = s.pending
  mode : m.testBit 25 = false → u.md.mode = s.md.mode
  mdRest : m.testBit 26 = false → { u.md with bootEvents := [] } = { s.md with bootEvents := [] }
  rcdrRest : m.testBit 27 = false → { u.rcdr with newest := 0, recs := [], lost := 0, lostMark := false, windows := [] } = { s.rcdr with newest := 0, recs := [], lost := 0, lostMark := false, windows := [] }
  tallyRest : m.testBit 28 = false → { u.tally with live := [], adds := [], addsAt := 0 } = { s.tally with live := [], adds := [], addsAt := 0 }
  dmaRest : m.testBit 29 = false → { u.dma with lines := [] } = { s.dma with lines := [] }
  nvqRest : m.testBit 30 = false → { u.nvq with ctrls := [], sqs := [], cqs := [], orphans := [], errors := [] } = { s.nvq with ctrls := [], sqs := [], cqs := [], orphans := [], errors := [] }
  moorRest : m.testBit 31 = false → { u.moor with changes := [] } = { s.moor with changes := [] }
  regsRest : m.testBit 32 = false → { u.regs with vals := [], raised := [], raisedAt := 0 } = { s.regs with vals := [], raised := [], raisedAt := 0 }
  resv : m.testBit 33 = false → u.adm.resv = s.adm.resv
  held : m.testBit 34 = false → u.adm.held = s.adm.held
  writes : m.testBit 35 = false → u.adm.writes = s.adm.writes
  map : m.testBit 36 = false → u.path.map = s.path.map
  slots : m.testBit 37 = false → u.ciph.slots = s.ciph.slots
  retired : m.testBit 38 = false → u.faults.retired = s.faults.retired
  sessions : m.testBit 39 = false → u.idm.sessions = s.idm.sessions
  ns : m.testBit 40 = false → u.nvq.ns = s.nvq.ns
  stripes : m.testBit 41 = false → u.path.stripes = s.path.stripes
  stored : m.testBit 42 = false → u.path.stored = s.path.stored
  now : s.time.now ≤ u.time.now
  memWf : Memory.wf 0 s.mem.cells = true → Memory.wf 0 u.mem.cells = true
  ldgWf : Memory.wf 0xFF s.ldg.cells = true → Memory.wf 0xFF u.ldg.cells = true
  sent : s.outbox <:+ u.outbox

theorem testBit_of_or {m' m i : Nat} (h : (m' ||| m == m) = true) (hi : m.testBit i = false) : m'.testBit i = false := by
  have e : m' ||| m = m := by simpa using h
  rw [← e, Nat.testBit_or, Bool.or_eq_false_iff] at hi
  exact hi.1

theorem Frame.refl {m : Nat} (s : State) : Frame m s s where
  pending := rfl
  time := fun _ => rfl
  md := fun _ => rfl
  regs := fun _ => rfl
  rcdr := fun _ => rfl
  tally := fun _ => rfl
  faults := fun _ => rfl
  adm := fun _ => rfl
  nvq := fun _ => rfl
  path := fun _ => rfl
  ddup := fun _ => rfl
  flash := fun _ => rfl
  strp := fun _ => rfl
  idm := fun _ => rfl
  moor := fun _ => rfl
  repl := fun _ => rfl
  mem := fun _ => rfl
  dma := fun _ => rfl
  ciph := fun _ => rfl
  ldg := fun _ => rfl
  spi := fun _ => rfl
  elec := fun _ => rfl
  image := fun _ => rfl
  outbox := fun _ => rfl
  free := fun _ => rfl
  mode := fun _ => rfl
  mdRest := fun _ => rfl
  rcdrRest := fun _ => rfl
  tallyRest := fun _ => rfl
  dmaRest := fun _ => rfl
  nvqRest := fun _ => rfl
  moorRest := fun _ => rfl
  regsRest := fun _ => rfl
  resv := fun _ => rfl
  held := fun _ => rfl
  writes := fun _ => rfl
  map := fun _ => rfl
  slots := fun _ => rfl
  retired := fun _ => rfl
  sessions := fun _ => rfl
  ns := fun _ => rfl
  stripes := fun _ => rfl
  stored := fun _ => rfl
  now := Nat.le_refl _
  memWf := id
  ldgWf := id
  sent := List.suffix_refl _

theorem Frame.comp {m m' : Nat} {s x y : State} (hf : Frame m' x y) (hle : (m' ||| m == m) = true) (h : Frame m s x) :
    Frame m s y where
  pending := hf.pending.trans h.pending
  time := fun i => (hf.time (testBit_of_or hle i)).trans (h.time i)
  md := fun i => (hf.md (testBit_of_or hle i)).trans (h.md i)
  regs := fun i => (hf.regs (testBit_of_or hle i)).trans (h.regs i)
  rcdr := fun i => (hf.rcdr (testBit_of_or hle i)).trans (h.rcdr i)
  tally := fun i => (hf.tally (testBit_of_or hle i)).trans (h.tally i)
  faults := fun i => (hf.faults (testBit_of_or hle i)).trans (h.faults i)
  adm := fun i => (hf.adm (testBit_of_or hle i)).trans (h.adm i)
  nvq := fun i => (hf.nvq (testBit_of_or hle i)).trans (h.nvq i)
  path := fun i => (hf.path (testBit_of_or hle i)).trans (h.path i)
  ddup := fun i => (hf.ddup (testBit_of_or hle i)).trans (h.ddup i)
  flash := fun i => (hf.flash (testBit_of_or hle i)).trans (h.flash i)
  strp := fun i => (hf.strp (testBit_of_or hle i)).trans (h.strp i)
  idm := fun i => (hf.idm (testBit_of_or hle i)).trans (h.idm i)
  moor := fun i => (hf.moor (testBit_of_or hle i)).trans (h.moor i)
  repl := fun i => (hf.repl (testBit_of_or hle i)).trans (h.repl i)
  mem := fun i => (hf.mem (testBit_of_or hle i)).trans (h.mem i)
  dma := fun i => (hf.dma (testBit_of_or hle i)).trans (h.dma i)
  ciph := fun i => (hf.ciph (testBit_of_or hle i)).trans (h.ciph i)
  ldg := fun i => (hf.ldg (testBit_of_or hle i)).trans (h.ldg i)
  spi := fun i => (hf.spi (testBit_of_or hle i)).trans (h.spi i)
  elec := fun i => (hf.elec (testBit_of_or hle i)).trans (h.elec i)
  image := fun i => (hf.image (testBit_of_or hle i)).trans (h.image i)
  outbox := fun i => (hf.outbox (testBit_of_or hle i)).trans (h.outbox i)
  free := fun i => (hf.free (testBit_of_or hle i)).trans (h.free i)
  mode := fun i => (hf.mode (testBit_of_or hle i)).trans (h.mode i)
  mdRest := fun i => (hf.mdRest (testBit_of_or hle i)).trans (h.mdRest i)
  rcdrRest := fun i => (hf.rcdrRest (testBit_of_or hle i)).trans (h.rcdrRest i)
  tallyRest := fun i => (hf.tallyRest (testBit_of_or hle i)).trans (h.tallyRest i)
  dmaRest := fun i => (hf.dmaRest (testBit_of_or hle i)).trans (h.dmaRest i)
  nvqRest := fun i => (hf.nvqRest (testBit_of_or hle i)).trans (h.nvqRest i)
  moorRest := fun i => (hf.moorRest (testBit_of_or hle i)).trans (h.moorRest i)
  regsRest := fun i => (hf.regsRest (testBit_of_or hle i)).trans (h.regsRest i)
  resv := fun i => (hf.resv (testBit_of_or hle i)).trans (h.resv i)
  held := fun i => (hf.held (testBit_of_or hle i)).trans (h.held i)
  writes := fun i => (hf.writes (testBit_of_or hle i)).trans (h.writes i)
  map := fun i => (hf.map (testBit_of_or hle i)).trans (h.map i)
  slots := fun i => (hf.slots (testBit_of_or hle i)).trans (h.slots i)
  retired := fun i => (hf.retired (testBit_of_or hle i)).trans (h.retired i)
  sessions := fun i => (hf.sessions (testBit_of_or hle i)).trans (h.sessions i)
  ns := fun i => (hf.ns (testBit_of_or hle i)).trans (h.ns i)
  stripes := fun i => (hf.stripes (testBit_of_or hle i)).trans (h.stripes i)
  stored := fun i => (hf.stored (testBit_of_or hle i)).trans (h.stored i)
  now := Nat.le_trans h.now hf.now
  memWf := fun w => hf.memWf (h.memWf w)
  ldgWf := fun w => hf.ldgWf (h.ldgWf w)
  sent := h.sent.trans hf.sent

theorem Frame.ite {m : Nat} {s a b : State} {c : Prop} [Decidable c] (ha : c → Frame m s a) (hb : ¬c → Frame m s b) :
    Frame m s (if c then a else b) := by
  split
  · exact ha ‹_›
  · exact hb ‹_›

theorem Frame.foldl {α : Type} {m : Nat} {s a : State} {f : State → α → State} {l : List α}
    (h : ∀ x y, Frame m s x → Frame m s (f x y)) (h0 : Frame m s a) : Frame m s (l.foldl f a) := by
  induction l generalizing a with
  | nil => exact h0
  | cons x l ih => exact ih (h _ _ h0)

theorem Frame.snd {α : Type} {m : Nat} {s b : State} {a : α} {p : α × State} (h : Frame m s p.2) (e : p = (a, b)) : Frame m s b := by
  subst e
  exact h

theorem Frame.fst {α : Type} {m : Nat} {s b : State} {a : α} {p : State × α} (h : Frame m s p.1) (e : p = (b, a)) : Frame m s b := by
  subst e
  exact h

theorem Frame.trd {α β : Type} {m : Nat} {s b : State} {a : α} {c : β} {p : α × β × State} (h : Frame m s p.2.2) (e : p = (a, c, b)) :
    Frame m s b := by
  subst e
  exact h

theorem le_mask {a b m : Nat} (h : (a ||| b == b) = true) (hm : (b ||| m == m) = true) : (a ||| m == m) = true := by
  have e : a ||| b = b := by simpa using h
  have e' : b ||| m = m := by simpa using hm
  have : a ||| m = m := by rw [← e', ← Nat.or_assoc, e]
  simpa using this

theorem Frame.foldlSnd {α β : Type} {m : Nat} {s : State} {a : β × State} {f : β × State → α → β × State} {l : List α}
    (h : ∀ x y, Frame m s x.2 → Frame m s (f x y).2) (h0 : Frame m s a.2) : Frame m s (l.foldl f a).2 := by
  induction l generalizing a with
  | nil => exact h0
  | cons x l ih => exact ih (h _ _ h0)

theorem Frame.foldlTrd {α β γ : Type} {m : Nat} {s : State} {a : β × γ × State} {f : β × γ × State → α → β × γ × State} {l : List α}
    (h : ∀ x y, Frame m s x.2.2 → Frame m s (f x y).2.2) (h0 : Frame m s a.2.2) : Frame m s (l.foldl f a).2.2 := by
  induction l generalizing a with
  | nil => exact h0
  | cons x l ih => exact ih (h _ _ h0)

theorem Frame.optIte {m : Nat} {s x : State} {o : Option State} {c : Prop} [Decidable c] (hx : Frame m s x)
    (ho : ∀ y, o = some y → Frame m s y) : ∀ y, (if c then some x else o) = some y → Frame m s y := by
  intro y h
  split at h
  · cases h
    exact hx
  · exact ho y h

theorem Frame.getD {m : Nat} {s a : State} {o : Option State} (h : ∀ x, o = some x → Frame m s x) (ha : Frame m s a) :
    Frame m s (o.getD a) := by
  cases o with
  | none => exact ha
  | some x => exact h x rfl

theorem Frame.set_regs {m : Nat} {s x : State} {v0 : RegState} (h0 : m.testBit 2 = true) (hregsRest : m.testBit 32 = false → { v0 with vals := [], raised := [], raisedAt := 0 } = { x.regs with vals := [], raised := [], raisedAt := 0 }) (h : Frame m s x) :
    Frame m s { x with regs := v0 } where
  pending := h.pending
  time := h.time
  md := h.md
  regs := fun i => absurd i (by simp [h0])
  rcdr := h.rcdr
  tally := h.tally
  faults := h.faults
  adm := h.adm
  nvq := h.nvq
  path := h.path
  ddup := h.ddup
  flash := h.flash
  strp := h.strp
  idm := h.idm
  moor := h.moor
  repl := h.repl
  mem := h.mem
  dma := h.dma
  ciph := h.ciph
  ldg := h.ldg
  spi := h.spi
  elec := h.elec
  image := h.image
  outbox := h.outbox
  free := h.free
  mode := h.mode
  mdRest := h.mdRest
  rcdrRest := h.rcdrRest
  tallyRest := h.tallyRest
  dmaRest := h.dmaRest
  nvqRest := h.nvqRest
  moorRest := h.moorRest
  regsRest := fun i => (hregsRest i).trans (h.regsRest i)
  resv := h.resv
  held := h.held
  writes := h.writes
  map := h.map
  slots := h.slots
  retired := h.retired
  sessions := h.sessions
  ns := h.ns
  stripes := h.stripes
  stored := h.stored
  sent := h.sent
  now := h.now
  memWf := h.memWf
  ldgWf := h.ldgWf

theorem Frame.set_elec {m : Nat} {s x : State} {v0 : ElecState} (h0 : m.testBit 20 = true) (h : Frame m s x) :
    Frame m s { x with elec := v0 } where
  pending := h.pending
  time := h.time
  md := h.md
  regs := h.regs
  rcdr := h.rcdr
  tally := h.tally
  faults := h.faults
  adm := h.adm
  nvq := h.nvq
  path := h.path
  ddup := h.ddup
  flash := h.flash
  strp := h.strp
  idm := h.idm
  moor := h.moor
  repl := h.repl
  mem := h.mem
  dma := h.dma
  ciph := h.ciph
  ldg := h.ldg
  spi := h.spi
  elec := fun i => absurd i (by simp [h0])
  image := h.image
  outbox := h.outbox
  free := h.free
  mode := h.mode
  mdRest := h.mdRest
  rcdrRest := h.rcdrRest
  tallyRest := h.tallyRest
  dmaRest := h.dmaRest
  nvqRest := h.nvqRest
  moorRest := h.moorRest
  regsRest := h.regsRest
  resv := h.resv
  held := h.held
  writes := h.writes
  map := h.map
  slots := h.slots
  retired := h.retired
  sessions := h.sessions
  ns := h.ns
  stripes := h.stripes
  stored := h.stored
  sent := h.sent
  now := h.now
  memWf := h.memWf
  ldgWf := h.ldgWf

theorem Frame.set_time {m : Nat} {s x : State} {v0 : TimeState} (h0 : m.testBit 0 = true) (ht : x.time.now ≤ v0.now) (h : Frame m s x) :
    Frame m s { x with time := v0 } where
  pending := h.pending
  time := fun i => absurd i (by simp [h0])
  md := h.md
  regs := h.regs
  rcdr := h.rcdr
  tally := h.tally
  faults := h.faults
  adm := h.adm
  nvq := h.nvq
  path := h.path
  ddup := h.ddup
  flash := h.flash
  strp := h.strp
  idm := h.idm
  moor := h.moor
  repl := h.repl
  mem := h.mem
  dma := h.dma
  ciph := h.ciph
  ldg := h.ldg
  spi := h.spi
  elec := h.elec
  image := h.image
  outbox := h.outbox
  free := h.free
  mode := h.mode
  mdRest := h.mdRest
  rcdrRest := h.rcdrRest
  tallyRest := h.tallyRest
  dmaRest := h.dmaRest
  nvqRest := h.nvqRest
  moorRest := h.moorRest
  regsRest := h.regsRest
  resv := h.resv
  held := h.held
  writes := h.writes
  map := h.map
  slots := h.slots
  retired := h.retired
  sessions := h.sessions
  ns := h.ns
  stripes := h.stripes
  stored := h.stored
  sent := h.sent
  now := Nat.le_trans h.now ht
  memWf := h.memWf
  ldgWf := h.ldgWf

theorem Frame.set_flash {m : Nat} {s x : State} {v0 : FlashState} (h0 : m.testBit 10 = true) (h : Frame m s x) :
    Frame m s { x with flash := v0 } where
  pending := h.pending
  time := h.time
  md := h.md
  regs := h.regs
  rcdr := h.rcdr
  tally := h.tally
  faults := h.faults
  adm := h.adm
  nvq := h.nvq
  path := h.path
  ddup := h.ddup
  flash := fun i => absurd i (by simp [h0])
  strp := h.strp
  idm := h.idm
  moor := h.moor
  repl := h.repl
  mem := h.mem
  dma := h.dma
  ciph := h.ciph
  ldg := h.ldg
  spi := h.spi
  elec := h.elec
  image := h.image
  outbox := h.outbox
  free := h.free
  mode := h.mode
  mdRest := h.mdRest
  rcdrRest := h.rcdrRest
  tallyRest := h.tallyRest
  dmaRest := h.dmaRest
  nvqRest := h.nvqRest
  moorRest := h.moorRest
  regsRest := h.regsRest
  resv := h.resv
  held := h.held
  writes := h.writes
  map := h.map
  slots := h.slots
  retired := h.retired
  sessions := h.sessions
  ns := h.ns
  stripes := h.stripes
  stored := h.stored
  sent := h.sent
  now := h.now
  memWf := h.memWf
  ldgWf := h.ldgWf

theorem Frame.set_spi {m : Nat} {s x : State} {v0 : SpiState} (h0 : m.testBit 19 = true) (h : Frame m s x) :
    Frame m s { x with spi := v0 } where
  pending := h.pending
  time := h.time
  md := h.md
  regs := h.regs
  rcdr := h.rcdr
  tally := h.tally
  faults := h.faults
  adm := h.adm
  nvq := h.nvq
  path := h.path
  ddup := h.ddup
  flash := h.flash
  strp := h.strp
  idm := h.idm
  moor := h.moor
  repl := h.repl
  mem := h.mem
  dma := h.dma
  ciph := h.ciph
  ldg := h.ldg
  spi := fun i => absurd i (by simp [h0])
  elec := h.elec
  image := h.image
  outbox := h.outbox
  free := h.free
  mode := h.mode
  mdRest := h.mdRest
  rcdrRest := h.rcdrRest
  tallyRest := h.tallyRest
  dmaRest := h.dmaRest
  nvqRest := h.nvqRest
  moorRest := h.moorRest
  regsRest := h.regsRest
  resv := h.resv
  held := h.held
  writes := h.writes
  map := h.map
  slots := h.slots
  retired := h.retired
  sessions := h.sessions
  ns := h.ns
  stripes := h.stripes
  stored := h.stored
  sent := h.sent
  now := h.now
  memWf := h.memWf
  ldgWf := h.ldgWf

theorem Frame.set_dma {m : Nat} {s x : State} {v0 : DmaState} (h0 : m.testBit 16 = true) (hdmaRest : m.testBit 29 = false → { v0 with lines := [] } = { x.dma with lines := [] }) (h : Frame m s x) :
    Frame m s { x with dma := v0 } where
  pending := h.pending
  time := h.time
  md := h.md
  regs := h.regs
  rcdr := h.rcdr
  tally := h.tally
  faults := h.faults
  adm := h.adm
  nvq := h.nvq
  path := h.path
  ddup := h.ddup
  flash := h.flash
  strp := h.strp
  idm := h.idm
  moor := h.moor
  repl := h.repl
  mem := h.mem
  dma := fun i => absurd i (by simp [h0])
  ciph := h.ciph
  ldg := h.ldg
  spi := h.spi
  elec := h.elec
  image := h.image
  outbox := h.outbox
  free := h.free
  mode := h.mode
  mdRest := h.mdRest
  rcdrRest := h.rcdrRest
  tallyRest := h.tallyRest
  dmaRest := fun i => (hdmaRest i).trans (h.dmaRest i)
  nvqRest := h.nvqRest
  moorRest := h.moorRest
  regsRest := h.regsRest
  resv := h.resv
  held := h.held
  writes := h.writes
  map := h.map
  slots := h.slots
  retired := h.retired
  sessions := h.sessions
  ns := h.ns
  stripes := h.stripes
  stored := h.stored
  sent := h.sent
  now := h.now
  memWf := h.memWf
  ldgWf := h.ldgWf

theorem Frame.set_idm {m : Nat} {s x : State} {v0 : IdmState} (h0 : m.testBit 12 = true) (hsessions : m.testBit 39 = false → v0.sessions = x.idm.sessions) (h : Frame m s x) :
    Frame m s { x with idm := v0 } where
  pending := h.pending
  time := h.time
  md := h.md
  regs := h.regs
  rcdr := h.rcdr
  tally := h.tally
  faults := h.faults
  adm := h.adm
  nvq := h.nvq
  path := h.path
  ddup := h.ddup
  flash := h.flash
  strp := h.strp
  idm := fun i => absurd i (by simp [h0])
  moor := h.moor
  repl := h.repl
  mem := h.mem
  dma := h.dma
  ciph := h.ciph
  ldg := h.ldg
  spi := h.spi
  elec := h.elec
  image := h.image
  outbox := h.outbox
  free := h.free
  mode := h.mode
  mdRest := h.mdRest
  rcdrRest := h.rcdrRest
  tallyRest := h.tallyRest
  dmaRest := h.dmaRest
  nvqRest := h.nvqRest
  moorRest := h.moorRest
  regsRest := h.regsRest
  resv := h.resv
  held := h.held
  writes := h.writes
  map := h.map
  slots := h.slots
  retired := h.retired
  sessions := fun i => (hsessions i).trans (h.sessions i)
  ns := h.ns
  stripes := h.stripes
  stored := h.stored
  sent := h.sent
  now := h.now
  memWf := h.memWf
  ldgWf := h.ldgWf

theorem Frame.set_ddup {m : Nat} {s x : State} {v0 : DdupState} (h0 : m.testBit 9 = true) (h : Frame m s x) :
    Frame m s { x with ddup := v0 } where
  pending := h.pending
  time := h.time
  md := h.md
  regs := h.regs
  rcdr := h.rcdr
  tally := h.tally
  faults := h.faults
  adm := h.adm
  nvq := h.nvq
  path := h.path
  ddup := fun i => absurd i (by simp [h0])
  flash := h.flash
  strp := h.strp
  idm := h.idm
  moor := h.moor
  repl := h.repl
  mem := h.mem
  dma := h.dma
  ciph := h.ciph
  ldg := h.ldg
  spi := h.spi
  elec := h.elec
  image := h.image
  outbox := h.outbox
  free := h.free
  mode := h.mode
  mdRest := h.mdRest
  rcdrRest := h.rcdrRest
  tallyRest := h.tallyRest
  dmaRest := h.dmaRest
  nvqRest := h.nvqRest
  moorRest := h.moorRest
  regsRest := h.regsRest
  resv := h.resv
  held := h.held
  writes := h.writes
  map := h.map
  slots := h.slots
  retired := h.retired
  sessions := h.sessions
  ns := h.ns
  stripes := h.stripes
  stored := h.stored
  sent := h.sent
  now := h.now
  memWf := h.memWf
  ldgWf := h.ldgWf

theorem Frame.set_path {m : Nat} {s x : State} {v0 : PathState} (h0 : m.testBit 8 = true) (hmap : m.testBit 36 = false → v0.map = x.path.map) (hstripes : m.testBit 41 = false → v0.stripes = x.path.stripes) (hstored : m.testBit 42 = false → v0.stored = x.path.stored) (h : Frame m s x) :
    Frame m s { x with path := v0 } where
  pending := h.pending
  time := h.time
  md := h.md
  regs := h.regs
  rcdr := h.rcdr
  tally := h.tally
  faults := h.faults
  adm := h.adm
  nvq := h.nvq
  path := fun i => absurd i (by simp [h0])
  ddup := h.ddup
  flash := h.flash
  strp := h.strp
  idm := h.idm
  moor := h.moor
  repl := h.repl
  mem := h.mem
  dma := h.dma
  ciph := h.ciph
  ldg := h.ldg
  spi := h.spi
  elec := h.elec
  image := h.image
  outbox := h.outbox
  free := h.free
  mode := h.mode
  mdRest := h.mdRest
  rcdrRest := h.rcdrRest
  tallyRest := h.tallyRest
  dmaRest := h.dmaRest
  nvqRest := h.nvqRest
  moorRest := h.moorRest
  regsRest := h.regsRest
  resv := h.resv
  held := h.held
  writes := h.writes
  map := fun i => (hmap i).trans (h.map i)
  slots := h.slots
  retired := h.retired
  sessions := h.sessions
  ns := h.ns
  stripes := fun i => (hstripes i).trans (h.stripes i)
  stored := fun i => (hstored i).trans (h.stored i)
  sent := h.sent
  now := h.now
  memWf := h.memWf
  ldgWf := h.ldgWf

theorem Frame.set_mem {m : Nat} {s x : State} {v0 : MemState} (h0 : m.testBit 15 = true) (hw : Memory.wf 0 x.mem.cells = true → Memory.wf 0 v0.cells = true) (h : Frame m s x) :
    Frame m s { x with mem := v0 } where
  pending := h.pending
  time := h.time
  md := h.md
  regs := h.regs
  rcdr := h.rcdr
  tally := h.tally
  faults := h.faults
  adm := h.adm
  nvq := h.nvq
  path := h.path
  ddup := h.ddup
  flash := h.flash
  strp := h.strp
  idm := h.idm
  moor := h.moor
  repl := h.repl
  mem := fun i => absurd i (by simp [h0])
  dma := h.dma
  ciph := h.ciph
  ldg := h.ldg
  spi := h.spi
  elec := h.elec
  image := h.image
  outbox := h.outbox
  free := h.free
  mode := h.mode
  mdRest := h.mdRest
  rcdrRest := h.rcdrRest
  tallyRest := h.tallyRest
  dmaRest := h.dmaRest
  nvqRest := h.nvqRest
  moorRest := h.moorRest
  regsRest := h.regsRest
  resv := h.resv
  held := h.held
  writes := h.writes
  map := h.map
  slots := h.slots
  retired := h.retired
  sessions := h.sessions
  ns := h.ns
  stripes := h.stripes
  stored := h.stored
  sent := h.sent
  now := h.now
  memWf := fun w => hw (h.memWf w)
  ldgWf := h.ldgWf

theorem Frame.set_outbox {m : Nat} {s x : State} {v0 : List Out} (h0 : m.testBit 22 = true) (ho : x.outbox <:+ v0) (h : Frame m s x) :
    Frame m s { x with outbox := v0 } where
  pending := h.pending
  time := h.time
  md := h.md
  regs := h.regs
  rcdr := h.rcdr
  tally := h.tally
  faults := h.faults
  adm := h.adm
  nvq := h.nvq
  path := h.path
  ddup := h.ddup
  flash := h.flash
  strp := h.strp
  idm := h.idm
  moor := h.moor
  repl := h.repl
  mem := h.mem
  dma := h.dma
  ciph := h.ciph
  ldg := h.ldg
  spi := h.spi
  elec := h.elec
  image := h.image
  outbox := fun i => absurd i (by simp [h0])
  free := h.free
  mode := h.mode
  mdRest := h.mdRest
  rcdrRest := h.rcdrRest
  tallyRest := h.tallyRest
  dmaRest := h.dmaRest
  nvqRest := h.nvqRest
  moorRest := h.moorRest
  regsRest := h.regsRest
  resv := h.resv
  held := h.held
  writes := h.writes
  map := h.map
  slots := h.slots
  retired := h.retired
  sessions := h.sessions
  ns := h.ns
  stripes := h.stripes
  stored := h.stored
  sent := h.sent.trans ho
  now := h.now
  memWf := h.memWf
  ldgWf := h.ldgWf

theorem Frame.set_faults {m : Nat} {s x : State} {v0 : FaultState} (h0 : m.testBit 5 = true) (hretired : m.testBit 38 = false → v0.retired = x.faults.retired) (h : Frame m s x) :
    Frame m s { x with faults := v0 } where
  pending := h.pending
  time := h.time
  md := h.md
  regs := h.regs
  rcdr := h.rcdr
  tally := h.tally
  faults := fun i => absurd i (by simp [h0])
  adm := h.adm
  nvq := h.nvq
  path := h.path
  ddup := h.ddup
  flash := h.flash
  strp := h.strp
  idm := h.idm
  moor := h.moor
  repl := h.repl
  mem := h.mem
  dma := h.dma
  ciph := h.ciph
  ldg := h.ldg
  spi := h.spi
  elec := h.elec
  image := h.image
  outbox := h.outbox
  free := h.free
  mode := h.mode
  mdRest := h.mdRest
  rcdrRest := h.rcdrRest
  tallyRest := h.tallyRest
  dmaRest := h.dmaRest
  nvqRest := h.nvqRest
  moorRest := h.moorRest
  regsRest := h.regsRest
  resv := h.resv
  held := h.held
  writes := h.writes
  map := h.map
  slots := h.slots
  retired := fun i => (hretired i).trans (h.retired i)
  sessions := h.sessions
  ns := h.ns
  stripes := h.stripes
  stored := h.stored
  sent := h.sent
  now := h.now
  memWf := h.memWf
  ldgWf := h.ldgWf

theorem Frame.set_ldg {m : Nat} {s x : State} {v0 : LdgState} (h0 : m.testBit 18 = true) (hl : Memory.wf 0xFF x.ldg.cells = true → Memory.wf 0xFF v0.cells = true) (h : Frame m s x) :
    Frame m s { x with ldg := v0 } where
  pending := h.pending
  time := h.time
  md := h.md
  regs := h.regs
  rcdr := h.rcdr
  tally := h.tally
  faults := h.faults
  adm := h.adm
  nvq := h.nvq
  path := h.path
  ddup := h.ddup
  flash := h.flash
  strp := h.strp
  idm := h.idm
  moor := h.moor
  repl := h.repl
  mem := h.mem
  dma := h.dma
  ciph := h.ciph
  ldg := fun i => absurd i (by simp [h0])
  spi := h.spi
  elec := h.elec
  image := h.image
  outbox := h.outbox
  free := h.free
  mode := h.mode
  mdRest := h.mdRest
  rcdrRest := h.rcdrRest
  tallyRest := h.tallyRest
  dmaRest := h.dmaRest
  nvqRest := h.nvqRest
  moorRest := h.moorRest
  regsRest := h.regsRest
  resv := h.resv
  held := h.held
  writes := h.writes
  map := h.map
  slots := h.slots
  retired := h.retired
  sessions := h.sessions
  ns := h.ns
  stripes := h.stripes
  stored := h.stored
  sent := h.sent
  now := h.now
  memWf := h.memWf
  ldgWf := fun w => hl (h.ldgWf w)

theorem Frame.set_rcdr {m : Nat} {s x : State} {v0 : RecorderState} (h0 : m.testBit 3 = true) (hrcdrRest : m.testBit 27 = false → { v0 with newest := 0, recs := [], lost := 0, lostMark := false, windows := [] } = { x.rcdr with newest := 0, recs := [], lost := 0, lostMark := false, windows := [] }) (h : Frame m s x) :
    Frame m s { x with rcdr := v0 } where
  pending := h.pending
  time := h.time
  md := h.md
  regs := h.regs
  rcdr := fun i => absurd i (by simp [h0])
  tally := h.tally
  faults := h.faults
  adm := h.adm
  nvq := h.nvq
  path := h.path
  ddup := h.ddup
  flash := h.flash
  strp := h.strp
  idm := h.idm
  moor := h.moor
  repl := h.repl
  mem := h.mem
  dma := h.dma
  ciph := h.ciph
  ldg := h.ldg
  spi := h.spi
  elec := h.elec
  image := h.image
  outbox := h.outbox
  free := h.free
  mode := h.mode
  mdRest := h.mdRest
  rcdrRest := fun i => (hrcdrRest i).trans (h.rcdrRest i)
  tallyRest := h.tallyRest
  dmaRest := h.dmaRest
  nvqRest := h.nvqRest
  moorRest := h.moorRest
  regsRest := h.regsRest
  resv := h.resv
  held := h.held
  writes := h.writes
  map := h.map
  slots := h.slots
  retired := h.retired
  sessions := h.sessions
  ns := h.ns
  stripes := h.stripes
  stored := h.stored
  sent := h.sent
  now := h.now
  memWf := h.memWf
  ldgWf := h.ldgWf

theorem Frame.set_image {m : Nat} {s x : State} {v0 : Image} (h0 : m.testBit 21 = true) (h : Frame m s x) :
    Frame m s { x with image := v0 } where
  pending := h.pending
  time := h.time
  md := h.md
  regs := h.regs
  rcdr := h.rcdr
  tally := h.tally
  faults := h.faults
  adm := h.adm
  nvq := h.nvq
  path := h.path
  ddup := h.ddup
  flash := h.flash
  strp := h.strp
  idm := h.idm
  moor := h.moor
  repl := h.repl
  mem := h.mem
  dma := h.dma
  ciph := h.ciph
  ldg := h.ldg
  spi := h.spi
  elec := h.elec
  image := fun i => absurd i (by simp [h0])
  outbox := h.outbox
  free := h.free
  mode := h.mode
  mdRest := h.mdRest
  rcdrRest := h.rcdrRest
  tallyRest := h.tallyRest
  dmaRest := h.dmaRest
  nvqRest := h.nvqRest
  moorRest := h.moorRest
  regsRest := h.regsRest
  resv := h.resv
  held := h.held
  writes := h.writes
  map := h.map
  slots := h.slots
  retired := h.retired
  sessions := h.sessions
  ns := h.ns
  stripes := h.stripes
  stored := h.stored
  sent := h.sent
  now := h.now
  memWf := h.memWf
  ldgWf := h.ldgWf

theorem Frame.set_moor {m : Nat} {s x : State} {v0 : MoorState} (h0 : m.testBit 13 = true) (hmoorRest : m.testBit 31 = false → { v0 with changes := [] } = { x.moor with changes := [] }) (h : Frame m s x) :
    Frame m s { x with moor := v0 } where
  pending := h.pending
  time := h.time
  md := h.md
  regs := h.regs
  rcdr := h.rcdr
  tally := h.tally
  faults := h.faults
  adm := h.adm
  nvq := h.nvq
  path := h.path
  ddup := h.ddup
  flash := h.flash
  strp := h.strp
  idm := h.idm
  moor := fun i => absurd i (by simp [h0])
  repl := h.repl
  mem := h.mem
  dma := h.dma
  ciph := h.ciph
  ldg := h.ldg
  spi := h.spi
  elec := h.elec
  image := h.image
  outbox := h.outbox
  free := h.free
  mode := h.mode
  mdRest := h.mdRest
  rcdrRest := h.rcdrRest
  tallyRest := h.tallyRest
  dmaRest := h.dmaRest
  nvqRest := h.nvqRest
  moorRest := fun i => (hmoorRest i).trans (h.moorRest i)
  regsRest := h.regsRest
  resv := h.resv
  held := h.held
  writes := h.writes
  map := h.map
  slots := h.slots
  retired := h.retired
  sessions := h.sessions
  ns := h.ns
  stripes := h.stripes
  stored := h.stored
  sent := h.sent
  now := h.now
  memWf := h.memWf
  ldgWf := h.ldgWf

theorem Frame.set_adm {m : Nat} {s x : State} {v0 : AdmState} (h0 : m.testBit 6 = true) (hresv : m.testBit 33 = false → v0.resv = x.adm.resv) (hheld : m.testBit 34 = false → v0.held = x.adm.held) (hwrites : m.testBit 35 = false → v0.writes = x.adm.writes) (h : Frame m s x) :
    Frame m s { x with adm := v0 } where
  pending := h.pending
  time := h.time
  md := h.md
  regs := h.regs
  rcdr := h.rcdr
  tally := h.tally
  faults := h.faults
  adm := fun i => absurd i (by simp [h0])
  nvq := h.nvq
  path := h.path
  ddup := h.ddup
  flash := h.flash
  strp := h.strp
  idm := h.idm
  moor := h.moor
  repl := h.repl
  mem := h.mem
  dma := h.dma
  ciph := h.ciph
  ldg := h.ldg
  spi := h.spi
  elec := h.elec
  image := h.image
  outbox := h.outbox
  free := h.free
  mode := h.mode
  mdRest := h.mdRest
  rcdrRest := h.rcdrRest
  tallyRest := h.tallyRest
  dmaRest := h.dmaRest
  nvqRest := h.nvqRest
  moorRest := h.moorRest
  regsRest := h.regsRest
  resv := fun i => (hresv i).trans (h.resv i)
  held := fun i => (hheld i).trans (h.held i)
  writes := fun i => (hwrites i).trans (h.writes i)
  map := h.map
  slots := h.slots
  retired := h.retired
  sessions := h.sessions
  ns := h.ns
  stripes := h.stripes
  stored := h.stored
  sent := h.sent
  now := h.now
  memWf := h.memWf
  ldgWf := h.ldgWf

theorem Frame.set_repl {m : Nat} {s x : State} {v0 : ReplState} (h0 : m.testBit 14 = true) (h : Frame m s x) :
    Frame m s { x with repl := v0 } where
  pending := h.pending
  time := h.time
  md := h.md
  regs := h.regs
  rcdr := h.rcdr
  tally := h.tally
  faults := h.faults
  adm := h.adm
  nvq := h.nvq
  path := h.path
  ddup := h.ddup
  flash := h.flash
  strp := h.strp
  idm := h.idm
  moor := h.moor
  repl := fun i => absurd i (by simp [h0])
  mem := h.mem
  dma := h.dma
  ciph := h.ciph
  ldg := h.ldg
  spi := h.spi
  elec := h.elec
  image := h.image
  outbox := h.outbox
  free := h.free
  mode := h.mode
  mdRest := h.mdRest
  rcdrRest := h.rcdrRest
  tallyRest := h.tallyRest
  dmaRest := h.dmaRest
  nvqRest := h.nvqRest
  moorRest := h.moorRest
  regsRest := h.regsRest
  resv := h.resv
  held := h.held
  writes := h.writes
  map := h.map
  slots := h.slots
  retired := h.retired
  sessions := h.sessions
  ns := h.ns
  stripes := h.stripes
  stored := h.stored
  sent := h.sent
  now := h.now
  memWf := h.memWf
  ldgWf := h.ldgWf

theorem Frame.set_ciph {m : Nat} {s x : State} {v0 : CiphState} (h0 : m.testBit 17 = true) (hslots : m.testBit 37 = false → v0.slots = x.ciph.slots) (h : Frame m s x) :
    Frame m s { x with ciph := v0 } where
  pending := h.pending
  time := h.time
  md := h.md
  regs := h.regs
  rcdr := h.rcdr
  tally := h.tally
  faults := h.faults
  adm := h.adm
  nvq := h.nvq
  path := h.path
  ddup := h.ddup
  flash := h.flash
  strp := h.strp
  idm := h.idm
  moor := h.moor
  repl := h.repl
  mem := h.mem
  dma := h.dma
  ciph := fun i => absurd i (by simp [h0])
  ldg := h.ldg
  spi := h.spi
  elec := h.elec
  image := h.image
  outbox := h.outbox
  free := h.free
  mode := h.mode
  mdRest := h.mdRest
  rcdrRest := h.rcdrRest
  tallyRest := h.tallyRest
  dmaRest := h.dmaRest
  nvqRest := h.nvqRest
  moorRest := h.moorRest
  regsRest := h.regsRest
  resv := h.resv
  held := h.held
  writes := h.writes
  map := h.map
  slots := fun i => (hslots i).trans (h.slots i)
  retired := h.retired
  sessions := h.sessions
  ns := h.ns
  stripes := h.stripes
  stored := h.stored
  sent := h.sent
  now := h.now
  memWf := h.memWf
  ldgWf := h.ldgWf

theorem Frame.set_md {m : Nat} {s x : State} {v0 : ModeState} (h0 : m.testBit 1 = true) (hmode : m.testBit 25 = false → v0.mode = x.md.mode) (hmdRest : m.testBit 26 = false → { v0 with bootEvents := [] } = { x.md with bootEvents := [] }) (h : Frame m s x) :
    Frame m s { x with md := v0 } where
  pending := h.pending
  time := h.time
  md := fun i => absurd i (by simp [h0])
  regs := h.regs
  rcdr := h.rcdr
  tally := h.tally
  faults := h.faults
  adm := h.adm
  nvq := h.nvq
  path := h.path
  ddup := h.ddup
  flash := h.flash
  strp := h.strp
  idm := h.idm
  moor := h.moor
  repl := h.repl
  mem := h.mem
  dma := h.dma
  ciph := h.ciph
  ldg := h.ldg
  spi := h.spi
  elec := h.elec
  image := h.image
  outbox := h.outbox
  free := h.free
  mode := fun i => (hmode i).trans (h.mode i)
  mdRest := fun i => (hmdRest i).trans (h.mdRest i)
  rcdrRest := h.rcdrRest
  tallyRest := h.tallyRest
  dmaRest := h.dmaRest
  nvqRest := h.nvqRest
  moorRest := h.moorRest
  regsRest := h.regsRest
  resv := h.resv
  held := h.held
  writes := h.writes
  map := h.map
  slots := h.slots
  retired := h.retired
  sessions := h.sessions
  ns := h.ns
  stripes := h.stripes
  stored := h.stored
  sent := h.sent
  now := h.now
  memWf := h.memWf
  ldgWf := h.ldgWf

theorem Frame.set_tally {m : Nat} {s x : State} {v0 : TallyState} (h0 : m.testBit 4 = true) (htallyRest : m.testBit 28 = false → { v0 with live := [], adds := [], addsAt := 0 } = { x.tally with live := [], adds := [], addsAt := 0 }) (h : Frame m s x) :
    Frame m s { x with tally := v0 } where
  pending := h.pending
  time := h.time
  md := h.md
  regs := h.regs
  rcdr := h.rcdr
  tally := fun i => absurd i (by simp [h0])
  faults := h.faults
  adm := h.adm
  nvq := h.nvq
  path := h.path
  ddup := h.ddup
  flash := h.flash
  strp := h.strp
  idm := h.idm
  moor := h.moor
  repl := h.repl
  mem := h.mem
  dma := h.dma
  ciph := h.ciph
  ldg := h.ldg
  spi := h.spi
  elec := h.elec
  image := h.image
  outbox := h.outbox
  free := h.free
  mode := h.mode
  mdRest := h.mdRest
  rcdrRest := h.rcdrRest
  tallyRest := fun i => (htallyRest i).trans (h.tallyRest i)
  dmaRest := h.dmaRest
  nvqRest := h.nvqRest
  moorRest := h.moorRest
  regsRest := h.regsRest
  resv := h.resv
  held := h.held
  writes := h.writes
  map := h.map
  slots := h.slots
  retired := h.retired
  sessions := h.sessions
  ns := h.ns
  stripes := h.stripes
  stored := h.stored
  sent := h.sent
  now := h.now
  memWf := h.memWf
  ldgWf := h.ldgWf

theorem Frame.set_free {m : Nat} {s x : State} {v0 : Nat} (h0 : m.testBit 23 = true) (h : Frame m s x) :
    Frame m s { x with free := v0 } where
  pending := h.pending
  time := h.time
  md := h.md
  regs := h.regs
  rcdr := h.rcdr
  tally := h.tally
  faults := h.faults
  adm := h.adm
  nvq := h.nvq
  path := h.path
  ddup := h.ddup
  flash := h.flash
  strp := h.strp
  idm := h.idm
  moor := h.moor
  repl := h.repl
  mem := h.mem
  dma := h.dma
  ciph := h.ciph
  ldg := h.ldg
  spi := h.spi
  elec := h.elec
  image := h.image
  outbox := h.outbox
  free := fun i => absurd i (by simp [h0])
  mode := h.mode
  mdRest := h.mdRest
  rcdrRest := h.rcdrRest
  tallyRest := h.tallyRest
  dmaRest := h.dmaRest
  nvqRest := h.nvqRest
  moorRest := h.moorRest
  regsRest := h.regsRest
  resv := h.resv
  held := h.held
  writes := h.writes
  map := h.map
  slots := h.slots
  retired := h.retired
  sessions := h.sessions
  ns := h.ns
  stripes := h.stripes
  stored := h.stored
  sent := h.sent
  now := h.now
  memWf := h.memWf
  ldgWf := h.ldgWf

theorem Frame.set_strp {m : Nat} {s x : State} {v0 : StrpState} (h0 : m.testBit 11 = true) (h : Frame m s x) :
    Frame m s { x with strp := v0 } where
  pending := h.pending
  time := h.time
  md := h.md
  regs := h.regs
  rcdr := h.rcdr
  tally := h.tally
  faults := h.faults
  adm := h.adm
  nvq := h.nvq
  path := h.path
  ddup := h.ddup
  flash := h.flash
  strp := fun i => absurd i (by simp [h0])
  idm := h.idm
  moor := h.moor
  repl := h.repl
  mem := h.mem
  dma := h.dma
  ciph := h.ciph
  ldg := h.ldg
  spi := h.spi
  elec := h.elec
  image := h.image
  outbox := h.outbox
  free := h.free
  mode := h.mode
  mdRest := h.mdRest
  rcdrRest := h.rcdrRest
  tallyRest := h.tallyRest
  dmaRest := h.dmaRest
  nvqRest := h.nvqRest
  moorRest := h.moorRest
  regsRest := h.regsRest
  resv := h.resv
  held := h.held
  writes := h.writes
  map := h.map
  slots := h.slots
  retired := h.retired
  sessions := h.sessions
  ns := h.ns
  stripes := h.stripes
  stored := h.stored
  sent := h.sent
  now := h.now
  memWf := h.memWf
  ldgWf := h.ldgWf

theorem Frame.set_nvq {m : Nat} {s x : State} {v0 : NvqState} (h0 : m.testBit 7 = true) (hnvqRest : m.testBit 30 = false → { v0 with ctrls := [], sqs := [], cqs := [], orphans := [], errors := [] } = { x.nvq with ctrls := [], sqs := [], cqs := [], orphans := [], errors := [] }) (hns : m.testBit 40 = false → v0.ns = x.nvq.ns) (h : Frame m s x) :
    Frame m s { x with nvq := v0 } where
  pending := h.pending
  time := h.time
  md := h.md
  regs := h.regs
  rcdr := h.rcdr
  tally := h.tally
  faults := h.faults
  adm := h.adm
  nvq := fun i => absurd i (by simp [h0])
  path := h.path
  ddup := h.ddup
  flash := h.flash
  strp := h.strp
  idm := h.idm
  moor := h.moor
  repl := h.repl
  mem := h.mem
  dma := h.dma
  ciph := h.ciph
  ldg := h.ldg
  spi := h.spi
  elec := h.elec
  image := h.image
  outbox := h.outbox
  free := h.free
  mode := h.mode
  mdRest := h.mdRest
  rcdrRest := h.rcdrRest
  tallyRest := h.tallyRest
  dmaRest := h.dmaRest
  nvqRest := fun i => (hnvqRest i).trans (h.nvqRest i)
  moorRest := h.moorRest
  regsRest := h.regsRest
  resv := h.resv
  held := h.held
  writes := h.writes
  map := h.map
  slots := h.slots
  retired := h.retired
  sessions := h.sessions
  ns := fun i => (hns i).trans (h.ns i)
  stripes := h.stripes
  stored := h.stored
  sent := h.sent
  now := h.now
  memWf := h.memWf
  ldgWf := h.ldgWf

theorem Frame.set_path_flash {m : Nat} {s x : State} {v0 : PathState} {v1 : FlashState} (h0 : m.testBit 8 = true) (h1 : m.testBit 10 = true) (hmap : m.testBit 36 = false → v0.map = x.path.map) (hstripes : m.testBit 41 = false → v0.stripes = x.path.stripes) (hstored : m.testBit 42 = false → v0.stored = x.path.stored) (h : Frame m s x) :
    Frame m s { x with path := v0, flash := v1 } where
  pending := h.pending
  time := h.time
  md := h.md
  regs := h.regs
  rcdr := h.rcdr
  tally := h.tally
  faults := h.faults
  adm := h.adm
  nvq := h.nvq
  path := fun i => absurd i (by simp [h0])
  ddup := h.ddup
  flash := fun i => absurd i (by simp [h1])
  strp := h.strp
  idm := h.idm
  moor := h.moor
  repl := h.repl
  mem := h.mem
  dma := h.dma
  ciph := h.ciph
  ldg := h.ldg
  spi := h.spi
  elec := h.elec
  image := h.image
  outbox := h.outbox
  free := h.free
  mode := h.mode
  mdRest := h.mdRest
  rcdrRest := h.rcdrRest
  tallyRest := h.tallyRest
  dmaRest := h.dmaRest
  nvqRest := h.nvqRest
  moorRest := h.moorRest
  regsRest := h.regsRest
  resv := h.resv
  held := h.held
  writes := h.writes
  map := fun i => (hmap i).trans (h.map i)
  slots := h.slots
  retired := h.retired
  sessions := h.sessions
  ns := h.ns
  stripes := fun i => (hstripes i).trans (h.stripes i)
  stored := fun i => (hstored i).trans (h.stored i)
  sent := h.sent
  now := h.now
  memWf := h.memWf
  ldgWf := h.ldgWf

theorem Frame.set_ldg_elec {m : Nat} {s x : State} {v0 : LdgState} {v1 : ElecState} (h0 : m.testBit 18 = true) (h1 : m.testBit 20 = true) (hl : Memory.wf 0xFF x.ldg.cells = true → Memory.wf 0xFF v0.cells = true) (h : Frame m s x) :
    Frame m s { x with ldg := v0, elec := v1 } where
  pending := h.pending
  time := h.time
  md := h.md
  regs := h.regs
  rcdr := h.rcdr
  tally := h.tally
  faults := h.faults
  adm := h.adm
  nvq := h.nvq
  path := h.path
  ddup := h.ddup
  flash := h.flash
  strp := h.strp
  idm := h.idm
  moor := h.moor
  repl := h.repl
  mem := h.mem
  dma := h.dma
  ciph := h.ciph
  ldg := fun i => absurd i (by simp [h0])
  spi := h.spi
  elec := fun i => absurd i (by simp [h1])
  image := h.image
  outbox := h.outbox
  free := h.free
  mode := h.mode
  mdRest := h.mdRest
  rcdrRest := h.rcdrRest
  tallyRest := h.tallyRest
  dmaRest := h.dmaRest
  nvqRest := h.nvqRest
  moorRest := h.moorRest
  regsRest := h.regsRest
  resv := h.resv
  held := h.held
  writes := h.writes
  map := h.map
  slots := h.slots
  retired := h.retired
  sessions := h.sessions
  ns := h.ns
  stripes := h.stripes
  stored := h.stored
  sent := h.sent
  now := h.now
  memWf := h.memWf
  ldgWf := fun w => hl (h.ldgWf w)

theorem Frame.set_time_md {m : Nat} {s x : State} {v0 : TimeState} {v1 : ModeState} (h0 : m.testBit 0 = true) (h1 : m.testBit 1 = true) (hmode : m.testBit 25 = false → v1.mode = x.md.mode) (hmdRest : m.testBit 26 = false → { v1 with bootEvents := [] } = { x.md with bootEvents := [] }) (ht : x.time.now ≤ v0.now) (h : Frame m s x) :
    Frame m s { x with time := v0, md := v1 } where
  pending := h.pending
  time := fun i => absurd i (by simp [h0])
  md := fun i => absurd i (by simp [h1])
  regs := h.regs
  rcdr := h.rcdr
  tally := h.tally
  faults := h.faults
  adm := h.adm
  nvq := h.nvq
  path := h.path
  ddup := h.ddup
  flash := h.flash
  strp := h.strp
  idm := h.idm
  moor := h.moor
  repl := h.repl
  mem := h.mem
  dma := h.dma
  ciph := h.ciph
  ldg := h.ldg
  spi := h.spi
  elec := h.elec
  image := h.image
  outbox := h.outbox
  free := h.free
  mode := fun i => (hmode i).trans (h.mode i)
  mdRest := fun i => (hmdRest i).trans (h.mdRest i)
  rcdrRest := h.rcdrRest
  tallyRest := h.tallyRest
  dmaRest := h.dmaRest
  nvqRest := h.nvqRest
  moorRest := h.moorRest
  regsRest := h.regsRest
  resv := h.resv
  held := h.held
  writes := h.writes
  map := h.map
  slots := h.slots
  retired := h.retired
  sessions := h.sessions
  ns := h.ns
  stripes := h.stripes
  stored := h.stored
  sent := h.sent
  now := Nat.le_trans h.now ht
  memWf := h.memWf
  ldgWf := h.ldgWf

theorem Frame.set_md_image {m : Nat} {s x : State} {v0 : ModeState} {v1 : Image} (h0 : m.testBit 1 = true) (h1 : m.testBit 21 = true) (hmode : m.testBit 25 = false → v0.mode = x.md.mode) (hmdRest : m.testBit 26 = false → { v0 with bootEvents := [] } = { x.md with bootEvents := [] }) (h : Frame m s x) :
    Frame m s { x with md := v0, image := v1 } where
  pending := h.pending
  time := h.time
  md := fun i => absurd i (by simp [h0])
  regs := h.regs
  rcdr := h.rcdr
  tally := h.tally
  faults := h.faults
  adm := h.adm
  nvq := h.nvq
  path := h.path
  ddup := h.ddup
  flash := h.flash
  strp := h.strp
  idm := h.idm
  moor := h.moor
  repl := h.repl
  mem := h.mem
  dma := h.dma
  ciph := h.ciph
  ldg := h.ldg
  spi := h.spi
  elec := h.elec
  image := fun i => absurd i (by simp [h1])
  outbox := h.outbox
  free := h.free
  mode := fun i => (hmode i).trans (h.mode i)
  mdRest := fun i => (hmdRest i).trans (h.mdRest i)
  rcdrRest := h.rcdrRest
  tallyRest := h.tallyRest
  dmaRest := h.dmaRest
  nvqRest := h.nvqRest
  moorRest := h.moorRest
  regsRest := h.regsRest
  resv := h.resv
  held := h.held
  writes := h.writes
  map := h.map
  slots := h.slots
  retired := h.retired
  sessions := h.sessions
  ns := h.ns
  stripes := h.stripes
  stored := h.stored
  sent := h.sent
  now := h.now
  memWf := h.memWf
  ldgWf := h.ldgWf

theorem Frame.set_adm_repl {m : Nat} {s x : State} {v0 : AdmState} {v1 : ReplState} (h0 : m.testBit 6 = true) (h1 : m.testBit 14 = true) (hresv : m.testBit 33 = false → v0.resv = x.adm.resv) (hheld : m.testBit 34 = false → v0.held = x.adm.held) (hwrites : m.testBit 35 = false → v0.writes = x.adm.writes) (h : Frame m s x) :
    Frame m s { x with adm := v0, repl := v1 } where
  pending := h.pending
  time := h.time
  md := h.md
  regs := h.regs
  rcdr := h.rcdr
  tally := h.tally
  faults := h.faults
  adm := fun i => absurd i (by simp [h0])
  nvq := h.nvq
  path := h.path
  ddup := h.ddup
  flash := h.flash
  strp := h.strp
  idm := h.idm
  moor := h.moor
  repl := fun i => absurd i (by simp [h1])
  mem := h.mem
  dma := h.dma
  ciph := h.ciph
  ldg := h.ldg
  spi := h.spi
  elec := h.elec
  image := h.image
  outbox := h.outbox
  free := h.free
  mode := h.mode
  mdRest := h.mdRest
  rcdrRest := h.rcdrRest
  tallyRest := h.tallyRest
  dmaRest := h.dmaRest
  nvqRest := h.nvqRest
  moorRest := h.moorRest
  regsRest := h.regsRest
  resv := fun i => (hresv i).trans (h.resv i)
  held := fun i => (hheld i).trans (h.held i)
  writes := fun i => (hwrites i).trans (h.writes i)
  map := h.map
  slots := h.slots
  retired := h.retired
  sessions := h.sessions
  ns := h.ns
  stripes := h.stripes
  stored := h.stored
  sent := h.sent
  now := h.now
  memWf := h.memWf
  ldgWf := h.ldgWf

theorem Frame.set_path_strp {m : Nat} {s x : State} {v0 : PathState} {v1 : StrpState} (h0 : m.testBit 8 = true) (h1 : m.testBit 11 = true) (hmap : m.testBit 36 = false → v0.map = x.path.map) (hstripes : m.testBit 41 = false → v0.stripes = x.path.stripes) (hstored : m.testBit 42 = false → v0.stored = x.path.stored) (h : Frame m s x) :
    Frame m s { x with path := v0, strp := v1 } where
  pending := h.pending
  time := h.time
  md := h.md
  regs := h.regs
  rcdr := h.rcdr
  tally := h.tally
  faults := h.faults
  adm := h.adm
  nvq := h.nvq
  path := fun i => absurd i (by simp [h0])
  ddup := h.ddup
  flash := h.flash
  strp := fun i => absurd i (by simp [h1])
  idm := h.idm
  moor := h.moor
  repl := h.repl
  mem := h.mem
  dma := h.dma
  ciph := h.ciph
  ldg := h.ldg
  spi := h.spi
  elec := h.elec
  image := h.image
  outbox := h.outbox
  free := h.free
  mode := h.mode
  mdRest := h.mdRest
  rcdrRest := h.rcdrRest
  tallyRest := h.tallyRest
  dmaRest := h.dmaRest
  nvqRest := h.nvqRest
  moorRest := h.moorRest
  regsRest := h.regsRest
  resv := h.resv
  held := h.held
  writes := h.writes
  map := fun i => (hmap i).trans (h.map i)
  slots := h.slots
  retired := h.retired
  sessions := h.sessions
  ns := h.ns
  stripes := fun i => (hstripes i).trans (h.stripes i)
  stored := fun i => (hstored i).trans (h.stored i)
  sent := h.sent
  now := h.now
  memWf := h.memWf
  ldgWf := h.ldgWf

theorem Frame.set_adm_path {m : Nat} {s x : State} {v0 : AdmState} {v1 : PathState} (h0 : m.testBit 6 = true) (h1 : m.testBit 8 = true) (hresv : m.testBit 33 = false → v0.resv = x.adm.resv) (hheld : m.testBit 34 = false → v0.held = x.adm.held) (hwrites : m.testBit 35 = false → v0.writes = x.adm.writes) (hmap : m.testBit 36 = false → v1.map = x.path.map) (hstripes : m.testBit 41 = false → v1.stripes = x.path.stripes) (hstored : m.testBit 42 = false → v1.stored = x.path.stored) (h : Frame m s x) :
    Frame m s { x with adm := v0, path := v1 } where
  pending := h.pending
  time := h.time
  md := h.md
  regs := h.regs
  rcdr := h.rcdr
  tally := h.tally
  faults := h.faults
  adm := fun i => absurd i (by simp [h0])
  nvq := h.nvq
  path := fun i => absurd i (by simp [h1])
  ddup := h.ddup
  flash := h.flash
  strp := h.strp
  idm := h.idm
  moor := h.moor
  repl := h.repl
  mem := h.mem
  dma := h.dma
  ciph := h.ciph
  ldg := h.ldg
  spi := h.spi
  elec := h.elec
  image := h.image
  outbox := h.outbox
  free := h.free
  mode := h.mode
  mdRest := h.mdRest
  rcdrRest := h.rcdrRest
  tallyRest := h.tallyRest
  dmaRest := h.dmaRest
  nvqRest := h.nvqRest
  moorRest := h.moorRest
  regsRest := h.regsRest
  resv := fun i => (hresv i).trans (h.resv i)
  held := fun i => (hheld i).trans (h.held i)
  writes := fun i => (hwrites i).trans (h.writes i)
  map := fun i => (hmap i).trans (h.map i)
  slots := h.slots
  retired := h.retired
  sessions := h.sessions
  ns := h.ns
  stripes := fun i => (hstripes i).trans (h.stripes i)
  stored := fun i => (hstored i).trans (h.stored i)
  sent := h.sent
  now := h.now
  memWf := h.memWf
  ldgWf := h.ldgWf

theorem Frame.set_path_ddup {m : Nat} {s x : State} {v0 : PathState} {v1 : DdupState} (h0 : m.testBit 8 = true) (h1 : m.testBit 9 = true) (hmap : m.testBit 36 = false → v0.map = x.path.map) (hstripes : m.testBit 41 = false → v0.stripes = x.path.stripes) (hstored : m.testBit 42 = false → v0.stored = x.path.stored) (h : Frame m s x) :
    Frame m s { x with path := v0, ddup := v1 } where
  pending := h.pending
  time := h.time
  md := h.md
  regs := h.regs
  rcdr := h.rcdr
  tally := h.tally
  faults := h.faults
  adm := h.adm
  nvq := h.nvq
  path := fun i => absurd i (by simp [h0])
  ddup := fun i => absurd i (by simp [h1])
  flash := h.flash
  strp := h.strp
  idm := h.idm
  moor := h.moor
  repl := h.repl
  mem := h.mem
  dma := h.dma
  ciph := h.ciph
  ldg := h.ldg
  spi := h.spi
  elec := h.elec
  image := h.image
  outbox := h.outbox
  free := h.free
  mode := h.mode
  mdRest := h.mdRest
  rcdrRest := h.rcdrRest
  tallyRest := h.tallyRest
  dmaRest := h.dmaRest
  nvqRest := h.nvqRest
  moorRest := h.moorRest
  regsRest := h.regsRest
  resv := h.resv
  held := h.held
  writes := h.writes
  map := fun i => (hmap i).trans (h.map i)
  slots := h.slots
  retired := h.retired
  sessions := h.sessions
  ns := h.ns
  stripes := fun i => (hstripes i).trans (h.stripes i)
  stored := fun i => (hstored i).trans (h.stored i)
  sent := h.sent
  now := h.now
  memWf := h.memWf
  ldgWf := h.ldgWf

theorem Frame.set_path_flash_strp {m : Nat} {s x : State} {v0 : PathState} {v1 : FlashState} {v2 : StrpState} (h0 : m.testBit 8 = true) (h1 : m.testBit 10 = true) (h2 : m.testBit 11 = true) (hmap : m.testBit 36 = false → v0.map = x.path.map) (hstripes : m.testBit 41 = false → v0.stripes = x.path.stripes) (hstored : m.testBit 42 = false → v0.stored = x.path.stored) (h : Frame m s x) :
    Frame m s { x with path := v0, flash := v1, strp := v2 } where
  pending := h.pending
  time := h.time
  md := h.md
  regs := h.regs
  rcdr := h.rcdr
  tally := h.tally
  faults := h.faults
  adm := h.adm
  nvq := h.nvq
  path := fun i => absurd i (by simp [h0])
  ddup := h.ddup
  flash := fun i => absurd i (by simp [h1])
  strp := fun i => absurd i (by simp [h2])
  idm := h.idm
  moor := h.moor
  repl := h.repl
  mem := h.mem
  dma := h.dma
  ciph := h.ciph
  ldg := h.ldg
  spi := h.spi
  elec := h.elec
  image := h.image
  outbox := h.outbox
  free := h.free
  mode := h.mode
  mdRest := h.mdRest
  rcdrRest := h.rcdrRest
  tallyRest := h.tallyRest
  dmaRest := h.dmaRest
  nvqRest := h.nvqRest
  moorRest := h.moorRest
  regsRest := h.regsRest
  resv := h.resv
  held := h.held
  writes := h.writes
  map := fun i => (hmap i).trans (h.map i)
  slots := h.slots
  retired := h.retired
  sessions := h.sessions
  ns := h.ns
  stripes := fun i => (hstripes i).trans (h.stripes i)
  stored := fun i => (hstored i).trans (h.stored i)
  sent := h.sent
  now := h.now
  memWf := h.memWf
  ldgWf := h.ldgWf

theorem Frame.set_time_md_elec {m : Nat} {s x : State} {v0 : TimeState} {v1 : ModeState} {v2 : ElecState} (h0 : m.testBit 0 = true) (h1 : m.testBit 1 = true) (h2 : m.testBit 20 = true) (hmode : m.testBit 25 = false → v1.mode = x.md.mode) (hmdRest : m.testBit 26 = false → { v1 with bootEvents := [] } = { x.md with bootEvents := [] }) (ht : x.time.now ≤ v0.now) (h : Frame m s x) :
    Frame m s { x with time := v0, md := v1, elec := v2 } where
  pending := h.pending
  time := fun i => absurd i (by simp [h0])
  md := fun i => absurd i (by simp [h1])
  regs := h.regs
  rcdr := h.rcdr
  tally := h.tally
  faults := h.faults
  adm := h.adm
  nvq := h.nvq
  path := h.path
  ddup := h.ddup
  flash := h.flash
  strp := h.strp
  idm := h.idm
  moor := h.moor
  repl := h.repl
  mem := h.mem
  dma := h.dma
  ciph := h.ciph
  ldg := h.ldg
  spi := h.spi
  elec := fun i => absurd i (by simp [h2])
  image := h.image
  outbox := h.outbox
  free := h.free
  mode := fun i => (hmode i).trans (h.mode i)
  mdRest := fun i => (hmdRest i).trans (h.mdRest i)
  rcdrRest := h.rcdrRest
  tallyRest := h.tallyRest
  dmaRest := h.dmaRest
  nvqRest := h.nvqRest
  moorRest := h.moorRest
  regsRest := h.regsRest
  resv := h.resv
  held := h.held
  writes := h.writes
  map := h.map
  slots := h.slots
  retired := h.retired
  sessions := h.sessions
  ns := h.ns
  stripes := h.stripes
  stored := h.stored
  sent := h.sent
  now := Nat.le_trans h.now ht
  memWf := h.memWf
  ldgWf := h.ldgWf

theorem Frame.set_md_path_moor {m : Nat} {s x : State} {v0 : ModeState} {v1 : PathState} {v2 : MoorState} (h0 : m.testBit 1 = true) (h1 : m.testBit 8 = true) (h2 : m.testBit 13 = true) (hmode : m.testBit 25 = false → v0.mode = x.md.mode) (hmdRest : m.testBit 26 = false → { v0 with bootEvents := [] } = { x.md with bootEvents := [] }) (hmoorRest : m.testBit 31 = false → { v2 with changes := [] } = { x.moor with changes := [] }) (hmap : m.testBit 36 = false → v1.map = x.path.map) (hstripes : m.testBit 41 = false → v1.stripes = x.path.stripes) (hstored : m.testBit 42 = false → v1.stored = x.path.stored) (h : Frame m s x) :
    Frame m s { x with md := v0, path := v1, moor := v2 } where
  pending := h.pending
  time := h.time
  md := fun i => absurd i (by simp [h0])
  regs := h.regs
  rcdr := h.rcdr
  tally := h.tally
  faults := h.faults
  adm := h.adm
  nvq := h.nvq
  path := fun i => absurd i (by simp [h1])
  ddup := h.ddup
  flash := h.flash
  strp := h.strp
  idm := h.idm
  moor := fun i => absurd i (by simp [h2])
  repl := h.repl
  mem := h.mem
  dma := h.dma
  ciph := h.ciph
  ldg := h.ldg
  spi := h.spi
  elec := h.elec
  image := h.image
  outbox := h.outbox
  free := h.free
  mode := fun i => (hmode i).trans (h.mode i)
  mdRest := fun i => (hmdRest i).trans (h.mdRest i)
  rcdrRest := h.rcdrRest
  tallyRest := h.tallyRest
  dmaRest := h.dmaRest
  nvqRest := h.nvqRest
  moorRest := fun i => (hmoorRest i).trans (h.moorRest i)
  regsRest := h.regsRest
  resv := h.resv
  held := h.held
  writes := h.writes
  map := fun i => (hmap i).trans (h.map i)
  slots := h.slots
  retired := h.retired
  sessions := h.sessions
  ns := h.ns
  stripes := fun i => (hstripes i).trans (h.stripes i)
  stored := fun i => (hstored i).trans (h.stored i)
  sent := h.sent
  now := h.now
  memWf := h.memWf
  ldgWf := h.ldgWf

theorem Frame.set_nvq_path_ddup {m : Nat} {s x : State} {v0 : NvqState} {v1 : PathState} {v2 : DdupState} (h0 : m.testBit 7 = true) (h1 : m.testBit 8 = true) (h2 : m.testBit 9 = true) (hnvqRest : m.testBit 30 = false → { v0 with ctrls := [], sqs := [], cqs := [], orphans := [], errors := [] } = { x.nvq with ctrls := [], sqs := [], cqs := [], orphans := [], errors := [] }) (hmap : m.testBit 36 = false → v1.map = x.path.map) (hns : m.testBit 40 = false → v0.ns = x.nvq.ns) (hstripes : m.testBit 41 = false → v1.stripes = x.path.stripes) (hstored : m.testBit 42 = false → v1.stored = x.path.stored) (h : Frame m s x) :
    Frame m s { x with nvq := v0, path := v1, ddup := v2 } where
  pending := h.pending
  time := h.time
  md := h.md
  regs := h.regs
  rcdr := h.rcdr
  tally := h.tally
  faults := h.faults
  adm := h.adm
  nvq := fun i => absurd i (by simp [h0])
  path := fun i => absurd i (by simp [h1])
  ddup := fun i => absurd i (by simp [h2])
  flash := h.flash
  strp := h.strp
  idm := h.idm
  moor := h.moor
  repl := h.repl
  mem := h.mem
  dma := h.dma
  ciph := h.ciph
  ldg := h.ldg
  spi := h.spi
  elec := h.elec
  image := h.image
  outbox := h.outbox
  free := h.free
  mode := h.mode
  mdRest := h.mdRest
  rcdrRest := h.rcdrRest
  tallyRest := h.tallyRest
  dmaRest := h.dmaRest
  nvqRest := fun i => (hnvqRest i).trans (h.nvqRest i)
  moorRest := h.moorRest
  regsRest := h.regsRest
  resv := h.resv
  held := h.held
  writes := h.writes
  map := fun i => (hmap i).trans (h.map i)
  slots := h.slots
  retired := h.retired
  sessions := h.sessions
  ns := fun i => (hns i).trans (h.ns i)
  stripes := fun i => (hstripes i).trans (h.stripes i)
  stored := fun i => (hstored i).trans (h.stored i)
  sent := h.sent
  now := h.now
  memWf := h.memWf
  ldgWf := h.ldgWf

theorem Frame.set_faults_path_flash {m : Nat} {s x : State} {v0 : FaultState} {v1 : PathState} {v2 : FlashState} (h0 : m.testBit 5 = true) (h1 : m.testBit 8 = true) (h2 : m.testBit 10 = true) (hmap : m.testBit 36 = false → v1.map = x.path.map) (hretired : m.testBit 38 = false → v0.retired = x.faults.retired) (hstripes : m.testBit 41 = false → v1.stripes = x.path.stripes) (hstored : m.testBit 42 = false → v1.stored = x.path.stored) (h : Frame m s x) :
    Frame m s { x with faults := v0, path := v1, flash := v2 } where
  pending := h.pending
  time := h.time
  md := h.md
  regs := h.regs
  rcdr := h.rcdr
  tally := h.tally
  faults := fun i => absurd i (by simp [h0])
  adm := h.adm
  nvq := h.nvq
  path := fun i => absurd i (by simp [h1])
  ddup := h.ddup
  flash := fun i => absurd i (by simp [h2])
  strp := h.strp
  idm := h.idm
  moor := h.moor
  repl := h.repl
  mem := h.mem
  dma := h.dma
  ciph := h.ciph
  ldg := h.ldg
  spi := h.spi
  elec := h.elec
  image := h.image
  outbox := h.outbox
  free := h.free
  mode := h.mode
  mdRest := h.mdRest
  rcdrRest := h.rcdrRest
  tallyRest := h.tallyRest
  dmaRest := h.dmaRest
  nvqRest := h.nvqRest
  moorRest := h.moorRest
  regsRest := h.regsRest
  resv := h.resv
  held := h.held
  writes := h.writes
  map := fun i => (hmap i).trans (h.map i)
  slots := h.slots
  retired := fun i => (hretired i).trans (h.retired i)
  sessions := h.sessions
  ns := h.ns
  stripes := fun i => (hstripes i).trans (h.stripes i)
  stored := fun i => (hstored i).trans (h.stored i)
  sent := h.sent
  now := h.now
  memWf := h.memWf
  ldgWf := h.ldgWf

theorem Frame.set_md_faults_idm_moor {m : Nat} {s x : State} {v0 : ModeState} {v1 : FaultState} {v2 : IdmState} {v3 : MoorState} (h0 : m.testBit 1 = true) (h1 : m.testBit 5 = true) (h2 : m.testBit 12 = true) (h3 : m.testBit 13 = true) (hmode : m.testBit 25 = false → v0.mode = x.md.mode) (hmdRest : m.testBit 26 = false → { v0 with bootEvents := [] } = { x.md with bootEvents := [] }) (hmoorRest : m.testBit 31 = false → { v3 with changes := [] } = { x.moor with changes := [] }) (hretired : m.testBit 38 = false → v1.retired = x.faults.retired) (hsessions : m.testBit 39 = false → v2.sessions = x.idm.sessions) (h : Frame m s x) :
    Frame m s { x with md := v0, faults := v1, idm := v2, moor := v3 } where
  pending := h.pending
  time := h.time
  md := fun i => absurd i (by simp [h0])
  regs := h.regs
  rcdr := h.rcdr
  tally := h.tally
  faults := fun i => absurd i (by simp [h1])
  adm := h.adm
  nvq := h.nvq
  path := h.path
  ddup := h.ddup
  flash := h.flash
  strp := h.strp
  idm := fun i => absurd i (by simp [h2])
  moor := fun i => absurd i (by simp [h3])
  repl := h.repl
  mem := h.mem
  dma := h.dma
  ciph := h.ciph
  ldg := h.ldg
  spi := h.spi
  elec := h.elec
  image := h.image
  outbox := h.outbox
  free := h.free
  mode := fun i => (hmode i).trans (h.mode i)
  mdRest := fun i => (hmdRest i).trans (h.mdRest i)
  rcdrRest := h.rcdrRest
  tallyRest := h.tallyRest
  dmaRest := h.dmaRest
  nvqRest := h.nvqRest
  moorRest := fun i => (hmoorRest i).trans (h.moorRest i)
  regsRest := h.regsRest
  resv := h.resv
  held := h.held
  writes := h.writes
  map := h.map
  slots := h.slots
  retired := fun i => (hretired i).trans (h.retired i)
  sessions := fun i => (hsessions i).trans (h.sessions i)
  ns := h.ns
  stripes := h.stripes
  stored := h.stored
  sent := h.sent
  now := h.now
  memWf := h.memWf
  ldgWf := h.ldgWf

theorem Frame.set_md_adm_nvq_repl {m : Nat} {s x : State} {v0 : ModeState} {v1 : AdmState} {v2 : NvqState} {v3 : ReplState} (h0 : m.testBit 1 = true) (h1 : m.testBit 6 = true) (h2 : m.testBit 7 = true) (h3 : m.testBit 14 = true) (hmode : m.testBit 25 = false → v0.mode = x.md.mode) (hmdRest : m.testBit 26 = false → { v0 with bootEvents := [] } = { x.md with bootEvents := [] }) (hnvqRest : m.testBit 30 = false → { v2 with ctrls := [], sqs := [], cqs := [], orphans := [], errors := [] } = { x.nvq with ctrls := [], sqs := [], cqs := [], orphans := [], errors := [] }) (hresv : m.testBit 33 = false → v1.resv = x.adm.resv) (hheld : m.testBit 34 = false → v1.held = x.adm.held) (hwrites : m.testBit 35 = false → v1.writes = x.adm.writes) (hns : m.testBit 40 = false → v2.ns = x.nvq.ns) (h : Frame m s x) :
    Frame m s { x with md := v0, adm := v1, nvq := v2, repl := v3 } where
  pending := h.pending
  time := h.time
  md := fun i => absurd i (by simp [h0])
  regs := h.regs
  rcdr := h.rcdr
  tally := h.tally
  faults := h.faults
  adm := fun i => absurd i (by simp [h1])
  nvq := fun i => absurd i (by simp [h2])
  path := h.path
  ddup := h.ddup
  flash := h.flash
  strp := h.strp
  idm := h.idm
  moor := h.moor
  repl := fun i => absurd i (by simp [h3])
  mem := h.mem
  dma := h.dma
  ciph := h.ciph
  ldg := h.ldg
  spi := h.spi
  elec := h.elec
  image := h.image
  outbox := h.outbox
  free := h.free
  mode := fun i => (hmode i).trans (h.mode i)
  mdRest := fun i => (hmdRest i).trans (h.mdRest i)
  rcdrRest := h.rcdrRest
  tallyRest := h.tallyRest
  dmaRest := h.dmaRest
  nvqRest := fun i => (hnvqRest i).trans (h.nvqRest i)
  moorRest := h.moorRest
  regsRest := h.regsRest
  resv := fun i => (hresv i).trans (h.resv i)
  held := fun i => (hheld i).trans (h.held i)
  writes := fun i => (hwrites i).trans (h.writes i)
  map := h.map
  slots := h.slots
  retired := h.retired
  sessions := h.sessions
  ns := fun i => (hns i).trans (h.ns i)
  stripes := h.stripes
  stored := h.stored
  sent := h.sent
  now := h.now
  memWf := h.memWf
  ldgWf := h.ldgWf

theorem Frame.set_adm_nvq_path_repl {m : Nat} {s x : State} {v0 : AdmState} {v1 : NvqState} {v2 : PathState} {v3 : ReplState} (h0 : m.testBit 6 = true) (h1 : m.testBit 7 = true) (h2 : m.testBit 8 = true) (h3 : m.testBit 14 = true) (hnvqRest : m.testBit 30 = false → { v1 with ctrls := [], sqs := [], cqs := [], orphans := [], errors := [] } = { x.nvq with ctrls := [], sqs := [], cqs := [], orphans := [], errors := [] }) (hresv : m.testBit 33 = false → v0.resv = x.adm.resv) (hheld : m.testBit 34 = false → v0.held = x.adm.held) (hwrites : m.testBit 35 = false → v0.writes = x.adm.writes) (hmap : m.testBit 36 = false → v2.map = x.path.map) (hns : m.testBit 40 = false → v1.ns = x.nvq.ns) (hstripes : m.testBit 41 = false → v2.stripes = x.path.stripes) (hstored : m.testBit 42 = false → v2.stored = x.path.stored) (h : Frame m s x) :
    Frame m s { x with adm := v0, nvq := v1, path := v2, repl := v3 } where
  pending := h.pending
  time := h.time
  md := h.md
  regs := h.regs
  rcdr := h.rcdr
  tally := h.tally
  faults := h.faults
  adm := fun i => absurd i (by simp [h0])
  nvq := fun i => absurd i (by simp [h1])
  path := fun i => absurd i (by simp [h2])
  ddup := h.ddup
  flash := h.flash
  strp := h.strp
  idm := h.idm
  moor := h.moor
  repl := fun i => absurd i (by simp [h3])
  mem := h.mem
  dma := h.dma
  ciph := h.ciph
  ldg := h.ldg
  spi := h.spi
  elec := h.elec
  image := h.image
  outbox := h.outbox
  free := h.free
  mode := h.mode
  mdRest := h.mdRest
  rcdrRest := h.rcdrRest
  tallyRest := h.tallyRest
  dmaRest := h.dmaRest
  nvqRest := fun i => (hnvqRest i).trans (h.nvqRest i)
  moorRest := h.moorRest
  regsRest := h.regsRest
  resv := fun i => (hresv i).trans (h.resv i)
  held := fun i => (hheld i).trans (h.held i)
  writes := fun i => (hwrites i).trans (h.writes i)
  map := fun i => (hmap i).trans (h.map i)
  slots := h.slots
  retired := h.retired
  sessions := h.sessions
  ns := fun i => (hns i).trans (h.ns i)
  stripes := fun i => (hstripes i).trans (h.stripes i)
  stored := fun i => (hstored i).trans (h.stored i)
  sent := h.sent
  now := h.now
  memWf := h.memWf
  ldgWf := h.ldgWf

theorem Frame.set_path_ddup_flash_moor {m : Nat} {s x : State} {v0 : PathState} {v1 : DdupState} {v2 : FlashState} {v3 : MoorState} (h0 : m.testBit 8 = true) (h1 : m.testBit 9 = true) (h2 : m.testBit 10 = true) (h3 : m.testBit 13 = true) (hmoorRest : m.testBit 31 = false → { v3 with changes := [] } = { x.moor with changes := [] }) (hmap : m.testBit 36 = false → v0.map = x.path.map) (hstripes : m.testBit 41 = false → v0.stripes = x.path.stripes) (hstored : m.testBit 42 = false → v0.stored = x.path.stored) (h : Frame m s x) :
    Frame m s { x with path := v0, ddup := v1, flash := v2, moor := v3 } where
  pending := h.pending
  time := h.time
  md := h.md
  regs := h.regs
  rcdr := h.rcdr
  tally := h.tally
  faults := h.faults
  adm := h.adm
  nvq := h.nvq
  path := fun i => absurd i (by simp [h0])
  ddup := fun i => absurd i (by simp [h1])
  flash := fun i => absurd i (by simp [h2])
  strp := h.strp
  idm := h.idm
  moor := fun i => absurd i (by simp [h3])
  repl := h.repl
  mem := h.mem
  dma := h.dma
  ciph := h.ciph
  ldg := h.ldg
  spi := h.spi
  elec := h.elec
  image := h.image
  outbox := h.outbox
  free := h.free
  mode := h.mode
  mdRest := h.mdRest
  rcdrRest := h.rcdrRest
  tallyRest := h.tallyRest
  dmaRest := h.dmaRest
  nvqRest := h.nvqRest
  moorRest := fun i => (hmoorRest i).trans (h.moorRest i)
  regsRest := h.regsRest
  resv := h.resv
  held := h.held
  writes := h.writes
  map := fun i => (hmap i).trans (h.map i)
  slots := h.slots
  retired := h.retired
  sessions := h.sessions
  ns := h.ns
  stripes := fun i => (hstripes i).trans (h.stripes i)
  stored := fun i => (hstored i).trans (h.stored i)
  sent := h.sent
  now := h.now
  memWf := h.memWf
  ldgWf := h.ldgWf

theorem Frame.set_tally_adm_path_idm_moor_repl {m : Nat} {s x : State} {v0 : TallyState} {v1 : AdmState} {v2 : PathState} {v3 : IdmState} {v4 : MoorState} {v5 : ReplState} (h0 : m.testBit 4 = true) (h1 : m.testBit 6 = true) (h2 : m.testBit 8 = true) (h3 : m.testBit 12 = true) (h4 : m.testBit 13 = true) (h5 : m.testBit 14 = true) (htallyRest : m.testBit 28 = false → { v0 with live := [], adds := [], addsAt := 0 } = { x.tally with live := [], adds := [], addsAt := 0 }) (hmoorRest : m.testBit 31 = false → { v4 with changes := [] } = { x.moor with changes := [] }) (hresv : m.testBit 33 = false → v1.resv = x.adm.resv) (hheld : m.testBit 34 = false → v1.held = x.adm.held) (hwrites : m.testBit 35 = false → v1.writes = x.adm.writes) (hmap : m.testBit 36 = false → v2.map = x.path.map) (hsessions : m.testBit 39 = false → v3.sessions = x.idm.sessions) (hstripes : m.testBit 41 = false → v2.stripes = x.path.stripes) (hstored : m.testBit 42 = false → v2.stored = x.path.stored) (h : Frame m s x) :
    Frame m s { x with tally := v0, adm := v1, path := v2, idm := v3, moor := v4, repl := v5 } where
  pending := h.pending
  time := h.time
  md := h.md
  regs := h.regs
  rcdr := h.rcdr
  tally := fun i => absurd i (by simp [h0])
  faults := h.faults
  adm := fun i => absurd i (by simp [h1])
  nvq := h.nvq
  path := fun i => absurd i (by simp [h2])
  ddup := h.ddup
  flash := h.flash
  strp := h.strp
  idm := fun i => absurd i (by simp [h3])
  moor := fun i => absurd i (by simp [h4])
  repl := fun i => absurd i (by simp [h5])
  mem := h.mem
  dma := h.dma
  ciph := h.ciph
  ldg := h.ldg
  spi := h.spi
  elec := h.elec
  image := h.image
  outbox := h.outbox
  free := h.free
  mode := h.mode
  mdRest := h.mdRest
  rcdrRest := h.rcdrRest
  tallyRest := fun i => (htallyRest i).trans (h.tallyRest i)
  dmaRest := h.dmaRest
  nvqRest := h.nvqRest
  moorRest := fun i => (hmoorRest i).trans (h.moorRest i)
  regsRest := h.regsRest
  resv := fun i => (hresv i).trans (h.resv i)
  held := fun i => (hheld i).trans (h.held i)
  writes := fun i => (hwrites i).trans (h.writes i)
  map := fun i => (hmap i).trans (h.map i)
  slots := h.slots
  retired := h.retired
  sessions := fun i => (hsessions i).trans (h.sessions i)
  ns := h.ns
  stripes := fun i => (hstripes i).trans (h.stripes i)
  stored := fun i => (hstored i).trans (h.stored i)
  sent := h.sent
  now := h.now
  memWf := h.memWf
  ldgWf := h.ldgWf

/-- Every next state of an outcome is framed. -/
def Frame.Out (m : Nat) (s : State) (o : Host.Outcome State Fault Refusal) : Prop := ∀ u, o = .next u → Frame m s u

theorem Frame.next {m : Nat} {s x : State} (h : Frame m s x) : Frame.Out m s (.next x) := by
  intro u e
  cases e
  exact h

end Sys2Proof.Laws
end

