-- ==== Sys2Proof/Laws/Frame1.lean ====
section
/-!
SUPPORT. Frames of the operations, part 1 of 8: what each may touch (see Frame.lean). Each proof follows its operation's body.
-/

namespace Sys2Proof.Laws

open Sys2Proof.Machine

theorem State.updSlot_frame (a0 : _) (a1 : _) (a2 : State) : Frame 137439084544 a2 (State.updSlot a0 a1 a2) := by
  unfold State.updSlot
  refine Frame.set_ciph rfl (fun i => absurd i (by decide)) ?_
  exact Frame.refl _

theorem State.raise_frame (a0 : _) (a1 : _) (a2 : State) : Frame 4 a2 (State.raise a0 a1 a2) := by
  unfold State.raise
  refine Frame.set_regs rfl (fun _ => rfl) ?_
  exact Frame.refl _

theorem State.countN_frame (a0 : _) (a1 : _) (a2 : State) : Frame 16 a2 (State.countN a0 a1 a2) := by
  unfold State.countN
  refine Frame.ite (fun _ => ?_) (fun _ => ?_)
  · exact Frame.refl _
  · refine Frame.set_tally rfl (fun _ => rfl) ?_
    exact Frame.refl _

theorem State.count_frame (a0 : _) (a1 : State) : Frame 16 a1 (State.count a0 a1) := by
  unfold State.count
  refine Frame.comp (State.countN_frame _ _ _) rfl ?_
  exact Frame.refl _

theorem State.loseRecord_frame (a0 : State) : Frame 28 a0 (State.loseRecord a0) := by
  unfold State.loseRecord
  refine Frame.comp (State.raise_frame _ _ _) rfl ?_
  refine Frame.comp (State.count_frame _ _) rfl ?_
  refine Frame.set_rcdr rfl (fun _ => rfl) ?_
  exact Frame.refl _

theorem State.assertLine_frame (a0 : _) (a1 : State) : Frame 65536 a1 (State.assertLine a0 a1) := by
  unfold State.assertLine
  refine Frame.ite (fun _ => ?_) (fun _ => ?_)
  · exact Frame.refl _
  · refine Frame.set_dma rfl (fun _ => rfl) ?_
    exact Frame.refl _

theorem State.flushLine_frame (a0 : _) (a1 : State) : Frame 65536 a1 (State.flushLine a0 a1) := by
  unfold State.flushLine
  refine Frame.ite (fun _ => ?_) (fun _ => ?_)
  · refine Frame.comp (State.assertLine_frame _ _) rfl ?_
    exact Frame.refl _
  · exact Frame.refl _

theorem State.putRecord_frame (a0 : _) (a1 : _) (a2 : State) : Frame 8 a2 (State.putRecord a0 a1 a2) := by
  unfold State.putRecord
  try extract_lets
  first | split | (dsimp +zetaDelta -proj only; split)
  · try extract_lets
    refine Frame.set_rcdr rfl (fun _ => rfl) ?_
    exact Frame.refl _

theorem State.record_frame (a0 : _) (a1 : _) (a2 : State) : Frame 65566 a2 (State.record a0 a1 a2) := by
  unfold State.record
  refine Frame.ite (fun _ => ?_) (fun _ => ?_)
  · refine Frame.set_md rfl (fun _ => rfl) (fun _ => rfl) ?_
    exact Frame.refl _
  · try extract_lets
    refine Frame.ite (fun _ => ?_) (fun _ => ?_)
    · refine Frame.comp (State.loseRecord_frame _) rfl ?_
      refine Frame.ite (fun _ => ?_) (fun _ => ?_)
      · exact Frame.refl _
      · refine Frame.comp (State.raise_frame _ _ _) rfl ?_
        exact Frame.refl _
    · refine Frame.comp (State.flushLine_frame _ _) rfl ?_
      refine Frame.comp (State.count_frame _ _) rfl ?_
      refine Frame.comp (State.putRecord_frame _ _ _) rfl ?_
      refine Frame.ite (fun _ => ?_) (fun _ => ?_)
      · exact Frame.refl _
      · refine Frame.comp (State.raise_frame _ _ _) rfl ?_
        exact Frame.refl _

theorem State.judgeSlot_frame (a0 : _) (a1 : State) : Frame 137439150110 a1 (State.judgeSlot a0 a1) := by
  unfold State.judgeSlot
  first | split | (dsimp +zetaDelta -proj only; split)
  · exact Frame.refl _
  · try extract_lets
    refine Frame.ite (fun _ => ?_) (fun _ => ?_)
    · refine Frame.comp (State.record_frame _ _ _) rfl ?_
      refine Frame.comp (State.updSlot_frame _ _ _) rfl ?_
      refine Frame.ite (fun _ => ?_) (fun _ => ?_)
      · refine Frame.comp (State.record_frame _ _ _) rfl ?_
        refine Frame.comp (State.raise_frame _ _ _) rfl ?_
        refine Frame.comp (State.updSlot_frame _ _ _) rfl ?_
        exact Frame.refl _
      · exact Frame.refl _
    · refine Frame.ite (fun _ => ?_) (fun _ => ?_)
      · refine Frame.comp (State.record_frame _ _ _) rfl ?_
        refine Frame.comp (State.raise_frame _ _ _) rfl ?_
        refine Frame.comp (State.updSlot_frame _ _ _) rfl ?_
        exact Frame.refl _
      · exact Frame.refl _

theorem State.takeCounter_frame (a0 : _) (a1 : State) : Frame 137439150110 a1 (State.takeCounter a0 a1).2 := by
  unfold State.takeCounter
  first | split | (dsimp +zetaDelta -proj only; split)
  · exact Frame.refl _
  · first | split | (dsimp +zetaDelta -proj only; split)
    · refine Frame.comp (State.raise_frame _ _ _) rfl ?_
      exact Frame.refl _
    · refine Frame.comp (State.judgeSlot_frame _ _) rfl ?_
      refine Frame.comp (State.updSlot_frame _ _ _) rfl ?_
      exact Frame.refl _

theorem State.refSlot_frame (a0 : _) (a1 : State) : Frame 137439084544 a1 (State.refSlot a0 a1) := by
  unfold State.refSlot
  refine Frame.comp (State.updSlot_frame _ _ _) rfl ?_
  exact Frame.refl _

theorem State.refPhases_frame (a0 : _) (a1 : State) : Frame 137439084544 a1 (State.refPhases a0 a1) := by
  unfold State.refPhases
  refine Frame.comp (State.refSlot_frame _ _) rfl ?_
  refine Frame.comp (State.refSlot_frame _ _) rfl ?_
  exact Frame.refl _

theorem State.spendFree_frame (a0 : State) : Frame 8388608 a0 (State.spendFree a0) := by
  unfold State.spendFree
  refine Frame.set_free rfl ?_
  exact Frame.refl _

theorem State.emit_frame (a0 : _) (a1 : State) : Frame 4194304 a1 (State.emit a0 a1) := by
  unfold State.emit
  refine Frame.ite (fun _ => ?_) (fun _ => ?_)
  · exact Frame.refl _
  · refine Frame.set_outbox rfl (List.suffix_cons _ _) ?_
    exact Frame.refl _

theorem State.connectTo_frame (a0 : _) (a1 : _) (a2 : _) (a3 : _) (a4 : State) : Frame 687207551006 a4 (State.connectTo a0 a1 a2 a3 a4).2 := by
  unfold State.connectTo
  first | split | (dsimp +zetaDelta -proj only; split)
  · exact Frame.refl _
  · first | split | (dsimp +zetaDelta -proj only; split)
    · exact Frame.refl _
    · try extract_lets
      try extract_lets
      try extract_lets
      try extract_lets
      try extract_lets
      first | split | (dsimp +zetaDelta -proj only; split)
      · refine Frame.comp (State.emit_frame _ _) rfl ?_
        refine Frame.set_idm rfl (fun i => absurd i (by decide)) ?_
        refine Frame.comp (State.spendFree_frame _) rfl ?_
        refine Frame.comp (State.spendFree_frame _) rfl ?_
        exact Frame.refl _
      · first | split | (dsimp +zetaDelta -proj only; split)
        · refine Frame.comp (State.emit_frame _ _) rfl ?_
          refine Frame.snd ?_ (by assumption)
          refine Frame.comp (State.takeCounter_frame _ _) rfl ?_
          refine Frame.comp (State.refPhases_frame _ _) rfl ?_
          refine Frame.set_idm rfl (fun i => absurd i (by decide)) ?_
          refine Frame.comp (State.spendFree_frame _) rfl ?_
          refine Frame.comp (State.spendFree_frame _) rfl ?_
          exact Frame.refl _

theorem State.updCtrl_frame (a0 : _) (a1 : _) (a2 : State) : Frame 128 a2 (State.updCtrl a0 a1 a2) := by
  unfold State.updCtrl
  refine Frame.set_nvq rfl (fun _ => rfl) (fun _ => rfl) ?_
  exact Frame.refl _

theorem State.updCq_frame (a0 : _) (a1 : _) (a2 : State) : Frame 128 a2 (State.updCq a0 a1 a2) := by
  unfold State.updCq
  refine Frame.set_nvq rfl (fun _ => rfl) (fun _ => rfl) ?_
  exact Frame.refl _

theorem State.notifyCq_frame (a0 : _) (a1 : State) : Frame 4194432 a1 (State.notifyCq a0 a1) := by
  unfold State.notifyCq
  first | split | (dsimp +zetaDelta -proj only; split)
  · refine Frame.ite (fun _ => ?_) (fun _ => ?_)
    · exact Frame.refl _
    · refine Frame.comp (State.emit_frame _ _) rfl ?_
      refine Frame.comp (State.updCq_frame _ _ _) rfl ?_
      exact Frame.refl _
  · exact Frame.refl _

theorem State.writeCqe_frame (a0 : _) (a1 : _) (a2 : State) : Frame 4194432 a2 (State.writeCqe a0 a1 a2) := by
  unfold State.writeCqe
  first | split | (dsimp +zetaDelta -proj only; split)
  · exact Frame.refl _
  · try extract_lets
    try extract_lets
    refine Frame.ite (fun _ => ?_) (fun _ => ?_)
    · refine Frame.comp (State.notifyCq_frame _ _) rfl ?_
      refine Frame.comp (State.emit_frame _ _) rfl ?_
      refine Frame.comp (State.updCq_frame _ _ _) rfl ?_
      exact Frame.refl _
    · refine Frame.comp (State.emit_frame _ _) rfl ?_
      refine Frame.comp (State.updCq_frame _ _ _) rfl ?_
      exact Frame.refl _

theorem State.recordOnce_frame (a0 : _) (a1 : _) (a2 : _) (a3 : State) : Frame 65566 a3 (State.recordOnce a0 a1 a2 a3) := by
  unfold State.recordOnce
  try extract_lets
  try extract_lets
  refine Frame.ite (fun _ => ?_) (fun _ => ?_)
  · refine Frame.comp (State.count_frame _ _) rfl ?_
    exact Frame.refl _
  · refine Frame.comp (State.record_frame _ _ _) rfl ?_
    refine Frame.set_rcdr rfl (fun _ => rfl) ?_
    exact Frame.refl _

theorem State.postCqe_frame (a0 : _) (a1 : _) (a2 : State) : Frame 4259998 a2 (State.postCqe a0 a1 a2) := by
  unfold State.postCqe
  first | split | (dsimp +zetaDelta -proj only; split)
  · exact Frame.refl _
  · refine Frame.ite (fun _ => ?_) (fun _ => ?_)
    · refine Frame.comp (State.recordOnce_frame _ _ _ _) rfl ?_
      refine Frame.comp (State.count_frame _ _) rfl ?_
      refine Frame.comp (State.raise_frame _ _ _) rfl ?_
      refine Frame.comp (State.updCq_frame _ _ _) rfl ?_
      exact Frame.refl _
    · refine Frame.comp (State.writeCqe_frame _ _ _) rfl ?_
      exact Frame.refl _

theorem State.logError_frame (a0 : _) (a1 : _) (a2 : _) (a3 : _) (a4 : State) : Frame 128 a4 (State.logError a0 a1 a2 a3 a4) := by
  unfold State.logError
  refine Frame.set_nvq rfl (fun _ => rfl) (fun _ => rfl) ?_
  exact Frame.refl _

theorem State.finish_frame (a0 : _) (a1 : _) (a2 : _) (a3 : _) (a4 : _) (a5 : _) (a6 : _) (a7 : State) : Frame 4259998 a7 (State.finish a0 a1 a2 a3 a4 a5 a6 a7) := by
  unfold State.finish
  first | split | (dsimp +zetaDelta -proj only; split)
  · refine Frame.ite (fun _ => ?_) (fun _ => ?_)
    · refine Frame.comp (State.emit_frame _ _) rfl ?_
      exact Frame.refl _
    · refine Frame.set_nvq rfl (fun _ => rfl) (fun _ => rfl) ?_
      exact Frame.refl _
  · try extract_lets
    try extract_lets
    try extract_lets
    try extract_lets
    try extract_lets
    try extract_lets
    refine Frame.comp (State.postCqe_frame _ _ _) rfl ?_
    refine Frame.ite (fun _ => ?_) (fun _ => ?_)
    · refine Frame.comp (State.count_frame _ _) rfl ?_
      refine Frame.comp (State.updCtrl_frame _ _ _) rfl ?_
      exact Frame.refl _
    · refine Frame.comp (State.logError_frame _ _ _ _ _) rfl ?_
      refine Frame.comp (State.count_frame _ _) rfl ?_
      refine Frame.comp (State.updCtrl_frame _ _ _) rfl ?_
      exact Frame.refl _

theorem State.destroyRegion_frame (a0 : _) (a1 : State) : Frame 4096 a1 (State.destroyRegion a0 a1) := by
  unfold State.destroyRegion
  first | split | (dsimp +zetaDelta -proj only; split)
  · refine Frame.ite (fun _ => ?_) (fun _ => ?_)
    · refine Frame.set_idm rfl (fun _ => rfl) ?_
      exact Frame.refl _
    · exact Frame.refl _
  · exact Frame.refl _

theorem State.dropResv_frame (a0 : _) (a1 : State) : Frame 25774075998 a1 (State.dropResv a0 a1) := by
  unfold State.dropResv
  first | split | (dsimp +zetaDelta -proj only; split)
  · exact Frame.refl _
  · try extract_lets
    try extract_lets
    try extract_lets
    refine Frame.ite (fun _ => ?_) (fun _ => ?_)
    · refine Frame.comp (State.emit_frame _ _) rfl ?_
      refine Frame.comp (State.record_frame _ _ _) rfl ?_
      refine Frame.set_adm rfl (fun i => absurd i (by decide)) (fun i => absurd i (by decide)) (fun _ => rfl) ?_
      refine Frame.ite (fun _ => ?_) (fun _ => ?_)
      · exact Frame.refl _
      · refine Frame.comp (State.destroyRegion_frame _ _) rfl ?_
        exact Frame.refl _
    · refine Frame.set_moor rfl (fun _ => rfl) ?_
      refine Frame.comp (State.record_frame _ _ _) rfl ?_
      refine Frame.set_adm rfl (fun i => absurd i (by decide)) (fun i => absurd i (by decide)) (fun _ => rfl) ?_
      refine Frame.ite (fun _ => ?_) (fun _ => ?_)
      · exact Frame.refl _
      · refine Frame.comp (State.destroyRegion_frame _ _) rfl ?_
        exact Frame.refl _

theorem State.settleDelete_frame (a0 : _) (a1 : _) (a2 : State) : Frame 25774076126 a2 (State.settleDelete a0 a1 a2) := by
  unfold State.settleDelete
  first | split | (dsimp +zetaDelta -proj only; split)
  · refine Frame.ite (fun _ => ?_) (fun _ => ?_)
    · exact Frame.refl _
    · try extract_lets
      try extract_lets
      refine Frame.comp (State.finish_frame _ _ _ _ _ _ _ _) rfl ?_
      refine Frame.comp (State.record_frame _ _ _) rfl ?_
      refine Frame.set_nvq rfl (fun _ => rfl) (fun _ => rfl) ?_
      first | split | (dsimp +zetaDelta -proj only; split)
      · refine Frame.comp (State.dropResv_frame _ _) rfl ?_
        exact Frame.refl _
      · exact Frame.refl _
  · exact Frame.refl _

theorem State.settle_frame (a0 : _) (a1 : State) : Frame 25774076126 a1 (State.settle a0 a1) := by
  unfold State.settle
  first | split | (dsimp +zetaDelta -proj only; split)
  · exact Frame.refl _
  · try extract_lets
    refine Frame.foldl (fun _ _ _ => ?_) ?_
    · refine Frame.comp (State.settleDelete_frame _ _ _) rfl ?_
      assumption
    · refine Frame.foldl (fun _ _ _ => ?_) ?_
      · refine Frame.comp (State.finish_frame _ _ _ _ _ _ _ _) rfl ?_
        assumption
      · exact Frame.refl _

theorem State.complete_frame (a0 : _) (a1 : _) (a2 : _) (a3 : _) (a4 : _) (a5 : _) (a6 : _) (a7 : State) : Frame 25774076126 a7 (State.complete a0 a1 a2 a3 a4 a5 a6 a7) := by
  unfold State.complete
  refine Frame.comp (State.settle_frame _ _) rfl ?_
  refine Frame.comp (State.finish_frame _ _ _ _ _ _ _ _) rfl ?_
  exact Frame.refl _

theorem State.completeAdmin_frame (a0 : _) (a1 : _) (a2 : _) (a3 : _) (a4 : _) (a5 : State) : Frame 25774076126 a5 (State.completeAdmin a0 a1 a2 a3 a4 a5) := by
  unfold State.completeAdmin
  refine Frame.comp (State.complete_frame _ _ _ _ _ _ _ _) rfl ?_
  exact Frame.refl _

theorem State.refuseC2h_frame (a0 : _) (a1 : _) (a2 : _) (a3 : State) : Frame 25774076126 a3 (State.refuseC2h a0 a1 a2 a3) := by
  unfold State.refuseC2h
  refine Frame.comp (State.completeAdmin_frame _ _ _ _ _ _) rfl ?_
  refine Frame.comp (State.record_frame _ _ _) rfl ?_
  exact Frame.refl _

theorem State.updSession_frame (a0 : _) (a1 : _) (a2 : State) : Frame 549755817984 a2 (State.updSession a0 a1 a2) := by
  unfold State.updSession
  refine Frame.set_idm rfl (fun i => absurd i (by decide)) ?_
  exact Frame.refl _

theorem State.transmit_frame (a0 : _) (a1 : _) (a2 : State) : Frame 549760012304 a2 (State.transmit a0 a1 a2) := by
  unfold State.transmit
  first | split | (dsimp +zetaDelta -proj only; split)
  · exact Frame.refl _
  · refine Frame.ite (fun _ => ?_) (fun _ => ?_)
    · refine Frame.comp (State.updSession_frame _ _ _) rfl ?_
      exact Frame.refl _
    · refine Frame.comp (State.count_frame _ _) rfl ?_
      refine Frame.comp (State.emit_frame _ _) rfl ?_
      refine Frame.comp (State.updSession_frame _ _ _) rfl ?_
      exact Frame.refl _

theorem State.launch_frame (a0 : _) (a1 : _) (a2 : State) : Frame 549760012304 a2 (State.launch a0 a1 a2) := by
  unfold State.launch
  first | split | (dsimp +zetaDelta -proj only; split)
  · exact Frame.refl _
  · try extract_lets
    refine Frame.comp (State.transmit_frame _ _ _) rfl ?_
    refine Frame.comp (State.updSession_frame _ _ _) rfl ?_
    exact Frame.refl _

theorem State.sendSeq_frame (a0 : _) (a1 : _) (a2 : State) : Frame 549760012304 a2 (State.sendSeq a0 a1 a2) := by
  unfold State.sendSeq
  first | split | (dsimp +zetaDelta -proj only; split)
  · exact Frame.refl _
  · try extract_lets
    try extract_lets
    refine Frame.ite (fun _ => ?_) (fun _ => ?_)
    · refine Frame.comp (State.launch_frame _ _ _) rfl ?_
      refine Frame.comp (State.updSession_frame _ _ _) rfl ?_
      exact Frame.refl _
    · refine Frame.comp (State.updSession_frame _ _ _) rfl ?_
      refine Frame.comp (State.updSession_frame _ _ _) rfl ?_
      exact Frame.refl _

theorem State.startOp_frame (a0 : _) (a1 : _) (a2 : _) (a3 : _) (a4 : _) (a5 : _) (a6 : _) (a7 : State) : Frame 549760012304 a7 (State.startOp a0 a1 a2 a3 a4 a5 a6 a7) := by
  unfold State.startOp
  first | split | (dsimp +zetaDelta -proj only; split)
  · exact Frame.refl _
  · try extract_lets
    try extract_lets
    try extract_lets
    refine Frame.foldl (fun _ _ _ => ?_) ?_
    · refine Frame.comp (State.sendSeq_frame _ _ _) rfl ?_
      assumption
    · refine Frame.set_idm rfl (fun i => absurd i (by decide)) ?_
      refine Frame.comp (State.updSession_frame _ _ _) rfl ?_
      exact Frame.refl _

theorem State.remoteWrite_frame (a0 : _) (a1 : _) (a2 : _) (a3 : _) (a4 : _) (a5 : _) (a6 : _) (a7 : State) : Frame 549760012304 a7 (State.remoteWrite a0 a1 a2 a3 a4 a5 a6 a7) := by
  unfold State.remoteWrite
  refine Frame.comp (State.startOp_frame _ _ _ _ _ _ _ _) rfl ?_
  exact Frame.refl _

theorem State.toHost_frame (a0 : _) (a1 : _) (a2 : _) (a3 : _) (a4 : _) (a5 : _) (a6 : State) : Frame 549760012304 a6 (State.toHost a0 a1 a2 a3 a4 a5 a6) := by
  unfold State.toHost
  refine Frame.comp (State.remoteWrite_frame _ _ _ _ _ _ _ _) rfl ?_
  exact Frame.refl _

theorem State.adminData_frame (a0 : _) (a1 : _) (a2 : _) (a3 : State) : Frame 549760012304 a3 (State.adminData a0 a1 a2 a3) := by
  unfold State.adminData
  refine Frame.comp (State.toHost_frame _ _ _ _ _ _ _) rfl ?_
  exact Frame.refl _

theorem State.linkQuery_frame (a0 : _) (a1 : _) (a2 : State) : Frame 575529890014 a2 (State.linkQuery a0 a1 a2) := by
  unfold State.linkQuery
  first | split | (dsimp +zetaDelta -proj only; split)
  · refine Frame.comp (State.refuseC2h_frame _ _ _ _) rfl ?_
    exact Frame.refl _
  · refine Frame.comp (State.completeAdmin_frame _ _ _ _ _ _) rfl ?_
    refine Frame.comp (State.adminData_frame _ _ _ _) rfl ?_
    exact Frame.refl _

theorem State.edges_frame (a0 : _) (a1 : State) : Frame 1 a1 (State.edges a0 a1) := by
  unfold State.edges
  refine Frame.set_time rfl ?_ ?_
  · first | exact Nat.le_refl _ | exact Nat.le_add_right _ _ | (dsimp only; split <;> exact Nat.le_refl _)
  exact Frame.refl _

theorem State.advanceTo_frame (t : Nat) (s : State) : Frame 1 s (State.advanceTo t s) := by
  unfold State.advanceTo
  split
  · exact Frame.refl _
  · rename_i h
    split
    · exact Frame.comp (State.edges_frame _ _) rfl (Frame.refl _)
    · refine Frame.set_time rfl ?_ (Frame.refl s)
      simp only [Bool.or_eq_true, decide_eq_true_eq, not_or] at h
      show s.time.now ≤ t
      omega

theorem State.ldgResult_frame (a0 : _) (a1 : _) (a2 : State) : Frame 4456448 a2 (State.ldgResult a0 a1 a2) := by
  unfold State.ldgResult
  first | split | (dsimp +zetaDelta -proj only; split)
  · refine Frame.comp (State.emit_frame _ _) rfl ?_
    refine Frame.set_ldg rfl ?_ ?_
    · exact id
    exact Frame.refl _
  · refine Frame.set_ldg rfl ?_ ?_
    · exact id
    exact Frame.refl _
  · refine Frame.comp (State.emit_frame _ _) rfl ?_
    refine Frame.set_ldg rfl ?_ ?_
    · exact id
    exact Frame.refl _
  · exact Frame.refl _

theorem State.ldgRefuse_frame (a0 : _) (a1 : _) (a2 : _) (a3 : _) (a4 : State) : Frame 4522014 a4 (State.ldgRefuse a0 a1 a2 a3 a4) := by
  unfold State.ldgRefuse
  refine Frame.comp (State.ldgResult_frame _ _ _) rfl ?_
  refine Frame.comp (State.record_frame _ _ _) rfl ?_
  refine Frame.comp (State.raise_frame _ _ _) rfl ?_
  exact Frame.refl _

theorem execLdgCycles_frame (a0 : _) (a1 : _) (a2 : State) : Frame.Out 4522015 a2 (execLdgCycles a0 a1 a2) := by
  unfold execLdgCycles
  try extract_lets
  refine Frame.next ?_
  refine Frame.ite (fun _ => ?_) (fun _ => ?_)
  · refine Frame.comp (State.advanceTo_frame _ _) rfl ?_
    exact Frame.refl _
  · first | split | (dsimp +zetaDelta -proj only; split)
    · refine Frame.comp (State.ldgResult_frame _ _ _) rfl ?_
      refine Frame.comp (State.advanceTo_frame _ _) rfl ?_
      exact Frame.refl _
    · refine Frame.comp (State.ldgRefuse_frame _ _ _ _ _) rfl ?_
      refine Frame.comp (State.advanceTo_frame _ _) rfl ?_
      exact Frame.refl _

theorem State.reportNotice_frame (a0 : _) (a1 : State) : Frame 4259998 a1 (State.reportNotice a0 a1) := by
  unfold State.reportNotice
  first | split | (dsimp +zetaDelta -proj only; split)
  · exact Frame.refl _
  · first | split | (dsimp +zetaDelta -proj only; split)
    · try extract_lets
      try extract_lets
      refine Frame.comp (State.emit_frame _ _) rfl ?_
      refine Frame.comp (State.postCqe_frame _ _ _) rfl ?_
      refine Frame.comp (State.count_frame _ _) rfl ?_
      refine Frame.comp (State.updCtrl_frame _ _ _) rfl ?_
      exact Frame.refl _
    · exact Frame.refl _

theorem State.notice_frame (a0 : _) (a1 : _) (a2 : _) (a3 : _) (a4 : State) : Frame 4259998 a4 (State.notice a0 a1 a2 a3 a4) := by
  unfold State.notice
  first | split | (dsimp +zetaDelta -proj only; split)
  · exact Frame.refl _
  · try extract_lets
    refine Frame.ite (fun _ => ?_) (fun _ => ?_)
    · exact Frame.refl _
    · refine Frame.comp (State.reportNotice_frame _ _) rfl ?_
      refine Frame.comp (State.updCtrl_frame _ _ _) rfl ?_
      exact Frame.refl _

theorem State.noteCut_frame (a0 : _) (a1 : _) (a2 : _) (a3 : _) (a4 : State) : Frame 4259998 a4 (State.noteCut a0 a1 a2 a3 a4) := by
  unfold State.noteCut
  try extract_lets
  first | split | (dsimp +zetaDelta -proj only; split)
  · refine Frame.ite (fun _ => ?_) (fun _ => ?_)
    · refine Frame.comp (State.notice_frame _ _ _ _ _) rfl ?_
      refine Frame.comp (State.raise_frame _ _ _) rfl ?_
      refine Frame.comp (State.record_frame _ _ _) rfl ?_
      exact Frame.refl _
    · refine Frame.comp (State.raise_frame _ _ _) rfl ?_
      refine Frame.comp (State.record_frame _ _ _) rfl ?_
      exact Frame.refl _
  · refine Frame.comp (State.raise_frame _ _ _) rfl ?_
    refine Frame.comp (State.record_frame _ _ _) rfl ?_
    exact Frame.refl _

theorem State.reportCuts_frame (a0 : _) (a1 : _) (a2 : State) : Frame 4259998 a2 (State.reportCuts a0 a1 a2) := by
  unfold State.reportCuts
  refine Frame.foldl (fun _ _ _ => ?_) ?_
  · try extract_lets
    first | split | (dsimp +zetaDelta -proj only; split)
    · refine Frame.ite (fun _ => ?_) (fun _ => ?_)
      · refine Frame.comp (State.emit_frame _ _) rfl ?_
        refine Frame.comp (State.noteCut_frame _ _ _ _ _) rfl ?_
        assumption
      · refine Frame.comp (State.noteCut_frame _ _ _ _ _) rfl ?_
        assumption
    · refine Frame.comp (State.noteCut_frame _ _ _ _ _) rfl ?_
      assumption
  · exact Frame.refl _

theorem State.cuts_frame (a0 : State) : Frame 8594194654 a0 (State.cuts a0) := by
  unfold State.cuts
  try extract_lets
  try extract_lets
  first | split | (dsimp +zetaDelta -proj only; split)
  · first | split | (dsimp +zetaDelta -proj only; split)
    · refine Frame.comp (State.reportCuts_frame _ _ _) rfl ?_
      refine Frame.comp (State.reportCuts_frame _ _ _) rfl ?_
      refine Frame.set_adm rfl (fun i => absurd i (by decide)) (fun _ => rfl) (fun _ => rfl) ?_
      exact Frame.refl _

theorem State.recompute_frame (a0 : _) (a1 : State) : Frame 8594194654 a1 (State.recompute a0 a1) := by
  unfold State.recompute
  refine Frame.ite (fun _ => ?_) (fun _ => ?_)
  · exact Frame.refl _
  · refine Frame.comp (State.cuts_frame _) rfl ?_
    refine Frame.comp (State.record_frame _ _ _) rfl ?_
    exact Frame.refl _

theorem State.endHeld_frame (a0 : _) (a1 : _) (a2 : _) (a3 : State) : Frame 25774076126 a3 (State.endHeld a0 a1 a2 a3) := by
  unfold State.endHeld
  try extract_lets
  refine Frame.comp (State.complete_frame _ _ _ _ _ _ _ _) rfl ?_
  refine Frame.set_adm rfl (fun i => absurd i (by decide)) (fun i => absurd i (by decide)) (fun _ => rfl) ?_
  exact Frame.refl _

theorem State.checkpoint_frame (a0 : _) (a1 : State) : Frame 256 a1 (State.checkpoint a0 a1) := by
  unfold State.checkpoint
  try extract_lets
  try extract_lets
  refine Frame.set_path rfl (fun _ => rfl) (fun _ => rfl) (fun _ => rfl) ?_
  exact Frame.refl _

theorem State.updNs_frame (a0 : _) (a1 : _) (a2 : State) : Frame 1100585369728 a2 (State.updNs a0 a1 a2) := by
  unfold State.updNs
  refine Frame.set_nvq rfl (fun i => absurd i (by decide)) (fun i => absurd i (by decide)) ?_
  exact Frame.refl _

theorem State.updSgt_frame (a0 : _) (a1 : _) (a2 : State) : Frame 512 a2 (State.updSgt a0 a1 a2) := by
  unfold State.updSgt
  refine Frame.set_ddup rfl ?_
  exact Frame.refl _

theorem State.addRef_frame (a0 : _) (a1 : State) : Frame 512 a1 (State.addRef a0 a1) := by
  unfold State.addRef
  refine Frame.comp (State.updSgt_frame _ _ _) rfl ?_
  exact Frame.refl _

theorem State.openClones_frame (a0 : _) (a1 : _) (a2 : State) : Frame 1169304847232 a2 (State.openClones a0 a1 a2) := by
  unfold State.openClones
  try extract_lets
  refine Frame.foldl (fun _ _ _ => ?_) ?_
  · try extract_lets
    refine Frame.comp (State.updNs_frame _ _ _) rfl ?_
    refine Frame.foldl (fun _ _ _ => ?_) ?_
    · refine Frame.ite (fun _ => ?_) (fun _ => ?_)
      · assumption
      · try extract_lets
        refine Frame.set_path rfl (fun i => absurd i (by decide)) (fun _ => rfl) (fun _ => rfl) ?_
        refine Frame.ite (fun _ => ?_) (fun _ => ?_)
        · refine Frame.comp (State.addRef_frame _ _) rfl ?_
          assumption
        · assumption
    · assumption
  · exact Frame.refl _

theorem State.snapsReady_frame (a0 : _) (a1 : State) : Frame 1169304847232 a1 (State.snapsReady a0 a1) := by
  unfold State.snapsReady
  first | split | (dsimp +zetaDelta -proj only; split)
  · exact Frame.refl _
  · refine Frame.foldl (fun _ _ _ => ?_) ?_
    · refine Frame.comp (State.openClones_frame _ _ _) rfl ?_
      refine Frame.comp (State.updNs_frame _ _ _) rfl ?_
      assumption
    · exact Frame.refl _

theorem State.dropWrite_frame (a0 : _) (a1 : State) : Frame 34359738688 a1 (State.dropWrite a0 a1) := by
  unfold State.dropWrite
  try extract_lets
  refine Frame.set_adm_path rfl rfl (fun _ => rfl) (fun _ => rfl) (fun i => absurd i (by decide)) (fun _ => rfl) (fun _ => rfl) (fun _ => rfl) ?_
  exact Frame.refl _

theorem State.endWrite_frame (a0 : _) (a1 : _) (a2 : _) (a3 : _) (a4 : State) : Frame 1229438661598 a4 (State.endWrite a0 a1 a2 a3 a4) := by
  unfold State.endWrite
  refine Frame.comp (State.snapsReady_frame _ _) rfl ?_
  refine Frame.comp (State.complete_frame _ _ _ _ _ _ _ _) rfl ?_
  refine Frame.comp (State.dropWrite_frame _ _) rfl ?_
  exact Frame.refl _

theorem State.noticeAll_frame (a0 : _) (a1 : _) (a2 : _) (a3 : State) : Frame 4259998 a3 (State.noticeAll a0 a1 a2 a3) := by
  unfold State.noticeAll
  refine Frame.foldl (fun _ _ _ => ?_) ?_
  · refine Frame.comp (State.notice_frame _ _ _ _ _) rfl ?_
    assumption
  · exact Frame.refl _

theorem State.cancelTally_frame (a0 : _) (a1 : State) : Frame 268501022 a1 (State.cancelTally a0 a1) := by
  unfold State.cancelTally
  refine Frame.ite (fun _ => ?_) (fun _ => ?_)
  · refine Frame.comp (State.record_frame _ _ _) rfl ?_
    refine Frame.set_tally rfl (fun i => absurd i (by decide)) ?_
    exact Frame.refl _
  · exact Frame.refl _

theorem State.changeMode_frame (m : Mode) (cause : Nat) (s : State) : Frame 369164319 s (State.changeMode m cause s) := by
  unfold State.changeMode
  refine Frame.comp (State.record_frame _ _ _) rfl (Frame.comp (State.raise_frame _ _ _) rfl
    (Frame.comp (State.cancelTally_frame _ _) rfl ?_))
  refine Frame.set_time_md rfl rfl (fun i => absurd i (by decide)) (fun i => absurd i (by decide)) ?_ (Frame.refl s)
  split <;> exact Nat.le_refl _

theorem State.enterMode_frame (a0 : _) (a1 : _) (a2 : State) : Frame 373358751 a2 (State.enterMode a0 a1 a2) := by
  unfold State.enterMode
  refine Frame.comp (State.noticeAll_frame _ _ _ _) rfl ?_
  refine Frame.comp (State.changeMode_frame _ _ _) rfl ?_
  exact Frame.refl _

theorem State.enterPreservation_frame (a0 : _) (a1 : State) : Frame 1231955243999 a1 (State.enterPreservation a0 a1) := by
  unfold State.enterPreservation
  refine Frame.ite (fun _ => ?_) (fun _ => ?_)
  · exact Frame.refl _
  · try extract_lets
    try extract_lets
    try extract_lets
    try extract_lets
    try extract_lets
    refine Frame.comp (State.assertLine_frame _ _) rfl ?_
    refine Frame.comp (State.checkpoint_frame _ _) rfl ?_
    refine Frame.foldl (fun _ _ _ => ?_) ?_
    · refine Frame.comp (State.completeAdmin_frame _ _ _ _ _ _) rfl ?_
      assumption
    · refine Frame.set_moor rfl (fun i => absurd i (by decide)) ?_
      refine Frame.foldl (fun _ _ _ => ?_) ?_
      · refine Frame.comp (State.endWrite_frame _ _ _ _ _) rfl ?_
        assumption
      · refine Frame.foldl (fun _ _ _ => ?_) ?_
        · refine Frame.comp (State.endHeld_frame _ _ _ _) rfl ?_
          assumption
        · refine Frame.set_moor rfl (fun i => absurd i (by decide)) ?_
          refine Frame.comp (State.enterMode_frame _ _ _) rfl ?_
          exact Frame.refl _

theorem State.lossTest_frame (a0 : State) : Frame 1231955243999 a0 (State.lossTest a0) := by
  unfold State.lossTest
  try extract_lets
  refine Frame.ite (fun _ => ?_) (fun _ => ?_)
  · refine Frame.comp (State.enterPreservation_frame _ _) rfl ?_
    exact Frame.refl _
  · exact Frame.refl _

theorem State.giveBlock_frame (a0 : _) (a1 : _) (a2 : _) (a3 : State) : Frame 1280 a3 (State.giveBlock a0 a1 a2 a3) := by
  unfold State.giveBlock
  try extract_lets
  try extract_lets
  refine Frame.set_path_flash rfl rfl (fun _ => rfl) (fun _ => rfl) (fun _ => rfl) ?_
  exact Frame.refl _

theorem State.fillBand_frame (a0 : _) (a1 : State) : Frame 1280 a1 (State.fillBand a0 a1) := by
  unfold State.fillBand
  first | split | (dsimp +zetaDelta -proj only; split)
  · refine Frame.foldl (fun _ _ _ => ?_) ?_
    · refine Frame.comp (State.giveBlock_frame _ _ _ _) rfl ?_
      assumption
    · exact Frame.refl _
  · exact Frame.refl _

theorem State.fillBands_frame (a0 : State) : Frame 1280 a0 (State.fillBands a0) := by
  unfold State.fillBands
  refine Frame.foldl (fun _ _ _ => ?_) ?_
  · refine Frame.comp (State.fillBand_frame _ _) rfl ?_
    assumption
  · exact Frame.refl _

theorem State.sealLeft_frame (a0 : State) : Frame 2199023255808 a0 (State.sealLeft a0) := by
  unfold State.sealLeft
  refine Frame.set_path rfl (fun _ => rfl) (fun i => absurd i (by decide)) (fun _ => rfl) ?_
  exact Frame.refl _

theorem State.updBank_frame (a0 : _) (a1 : _) (a2 : State) : Frame 262144 a2 (State.updBank a0 a1 a2) := by
  unfold State.updBank
  refine Frame.ite (fun _ => ?_) (fun _ => ?_)
  · refine Frame.set_ldg rfl ?_ ?_
    · exact id
    exact Frame.refl _
  · refine Frame.set_ldg rfl ?_ ?_
    · exact id
    exact Frame.refl _

theorem State.startSectorErase_frame (a0 : _) (a1 : _) (a2 : State) : Frame 262144 a2 (State.startSectorErase a0 a1 a2) := by
  unfold State.startSectorErase
  refine Frame.comp (State.updBank_frame _ _ _) rfl ?_
  exact Frame.refl _

theorem State.doSuspend_frame (a0 : _) (a1 : _) (a2 : State) : Frame 262144 a2 (State.doSuspend a0 a1 a2) := by
  unfold State.doSuspend
  refine Frame.comp (State.updBank_frame _ _ _) rfl ?_
  exact Frame.refl _

theorem State.askSuspend_frame (a0 : _) (a1 : _) (a2 : _) (a3 : State) : Frame 4456448 a3 (State.askSuspend a0 a1 a2 a3) := by
  unfold State.askSuspend
  refine Frame.ite (fun _ => ?_) (fun _ => ?_)
  · refine Frame.comp (State.updBank_frame _ _ _) rfl ?_
    exact Frame.refl _
  · try extract_lets
    refine Frame.ite (fun _ => ?_) (fun _ => ?_)
    · refine Frame.comp (State.ldgResult_frame _ _ _) rfl ?_
      refine Frame.comp (State.doSuspend_frame _ _ _) rfl ?_
      exact Frame.refl _
    · refine Frame.comp (State.doSuspend_frame _ _ _) rfl ?_
      exact Frame.refl _

theorem State.startProg_frame (a0 : _) (a1 : State) : Frame 4456448 a1 (State.startProg a0 a1) := by
  unfold State.startProg
  try extract_lets
  try extract_lets
  refine Frame.ite (fun _ => ?_) (fun _ => ?_)
  · refine Frame.set_ldg rfl ?_ ?_
    · exact id
    exact Frame.refl _
  · refine Frame.ite (fun _ => ?_) (fun _ => ?_)
    · refine Frame.comp (State.askSuspend_frame _ _ _ _) rfl ?_
      exact Frame.refl _
    · refine Frame.comp (State.updBank_frame _ _ _) rfl ?_
      exact Frame.refl _

theorem State.flushRefused_frame (a0 : _) (a1 : _) (a2 : State) : Frame 134283294 a2 (State.flushRefused a0 a1 a2) := by
  unfold State.flushRefused
  try extract_lets
  refine Frame.comp (State.record_frame _ _ _) rfl ?_
  refine Frame.comp (State.raise_frame _ _ _) rfl ?_
  refine Frame.set_rcdr rfl (fun i => absurd i (by decide)) ?_
  exact Frame.refl _

theorem State.pumpLedger_frame : ∀ (n : Nat) (s : State), Frame 138739742 s (State.pumpLedger n s)
  | 0, s => Frame.refl s
  | n + 1, s => by
    unfold State.pumpLedger
    split
    · exact Frame.refl _
    · extract_lets _ s1
      have h1 : Frame 138739742 s s1 := Frame.set_ldg rfl id (Frame.refl s)
      refine Frame.ite (fun _ => Frame.refl _) (fun _ => ?_)
      split
      · refine Frame.ite (fun _ => Frame.refl _) (fun _ => Frame.ite (fun _ => ?_) (fun _ => ?_))
        · exact Frame.comp (State.pumpLedger_frame n _) rfl (Frame.comp (State.startProg_frame _ _) rfl h1)
        · refine Frame.comp (State.pumpLedger_frame n _) rfl ?_
          split
          · exact Frame.comp (State.flushRefused_frame _ _ _) rfl (Frame.comp (State.ldgRefuse_frame _ _ _ _ _) rfl h1)
          · exact Frame.comp (State.ldgRefuse_frame _ _ _ _ _) rfl h1
      · refine Frame.ite (fun _ => Frame.refl _) (fun _ => Frame.ite (fun _ => ?_) (fun _ => ?_))
        · exact Frame.comp (State.pumpLedger_frame n _) rfl (Frame.comp (State.startSectorErase_frame _ _ _) rfl h1)
        · exact Frame.comp (State.pumpLedger_frame n _) rfl (Frame.comp (State.ldgRefuse_frame _ _ _ _ _) rfl h1)

theorem State.pump_frame (a0 : State) : Frame 138739742 a0 (State.pump a0) := by
  unfold State.pump
  refine Frame.comp (State.pumpLedger_frame _ _) rfl ?_
  exact Frame.refl _

theorem State.queueLedger_frame (a0 : _) (a1 : State) : Frame 138739742 a1 (State.queueLedger a0 a1) := by
  unfold State.queueLedger
  refine Frame.comp (State.pump_frame _) rfl ?_
  refine Frame.set_ldg rfl ?_ ?_
  · exact id
  exact Frame.refl _

theorem State.writeParam_frame (a0 : _) (a1 : _) (a2 : _) (a3 : State) : Frame 138739742 a3 (State.writeParam a0 a1 a2 a3) := by
  unfold State.writeParam
  try extract_lets
  try extract_lets
  first | split | (dsimp +zetaDelta -proj only; split)
  · first | split | (dsimp +zetaDelta -proj only; split)
    · refine Frame.comp (State.queueLedger_frame _ _) rfl ?_
      exact Frame.refl _
    · refine Frame.comp (State.queueLedger_frame _ _) rfl ?_
      exact Frame.refl _
  · first | split | (dsimp +zetaDelta -proj only; split)
    · first | split | (dsimp +zetaDelta -proj only; split)
      · try extract_lets
        try extract_lets
        try extract_lets
        first | split | (dsimp +zetaDelta -proj only; split)
        · refine Frame.comp (State.queueLedger_frame _ _) rfl ?_
          refine Frame.comp (State.queueLedger_frame _ _) rfl ?_
          refine Frame.comp (State.queueLedger_frame _ _) rfl ?_
          exact Frame.refl _
        · refine Frame.comp (State.queueLedger_frame _ _) rfl ?_
          refine Frame.comp (State.queueLedger_frame _ _) rfl ?_
          exact Frame.refl _
      · refine Frame.comp (State.queueLedger_frame _ _) rfl ?_
        exact Frame.refl _
      · exact Frame.refl _
    · exact Frame.refl _

theorem State.memberChanged_frame (a0 : State) : Frame 138741790 a0 (State.memberChanged a0) := by
  unfold State.memberChanged
  try extract_lets
  refine Frame.comp (State.writeParam_frame _ _ _ _) rfl ?_
  refine Frame.set_strp rfl ?_
  exact Frame.refl _

theorem State.useSlack_frame (a0 : _) (a1 : _) (a2 : State) : Frame 34359803998 a2 (State.useSlack a0 a1 a2) := by
  unfold State.useSlack
  try extract_lets
  try extract_lets
  refine Frame.foldl (fun _ _ _ => ?_) ?_
  · try extract_lets
    first | split | (dsimp +zetaDelta -proj only; split)
    · refine Frame.comp (State.count_frame _ _) rfl ?_
      refine Frame.comp (State.record_frame _ _ _) rfl ?_
      assumption
    · refine Frame.comp (State.record_frame _ _ _) rfl ?_
      assumption
  · refine Frame.set_adm rfl (fun _ => rfl) (fun _ => rfl) (fun i => absurd i (by decide)) ?_
    exact Frame.refl _

theorem State.mirrorSlack_frame (a0 : _) (a1 : _) (a2 : State) : Frame 65566 a2 (State.mirrorSlack a0 a1 a2) := by
  unfold State.mirrorSlack
  refine Frame.ite (fun _ => ?_) (fun _ => ?_)
  · refine Frame.comp (State.record_frame _ _ _) rfl ?_
    exact Frame.refl _
  · exact Frame.refl _

theorem State.flashSlack_frame (a0 : _) (a1 : _) (a2 : State) : Frame 34359803998 a2 (State.flashSlack a0 a1 a2) := by
  unfold State.flashSlack
  refine Frame.comp (State.mirrorSlack_frame _ _ _) rfl ?_
  refine Frame.comp (State.useSlack_frame _ _ _) rfl ?_
  exact Frame.refl _

theorem State.rebookRes_frame (a0 : _) (a1 : _) (a2 : State) : Frame 64 a2 (State.rebookRes a0 a1 a2) := by
  unfold State.rebookRes
  refine Frame.ite (fun _ => ?_) (fun _ => ?_)
  · exact Frame.refl _
  · try extract_lets
    refine Frame.set_adm rfl (fun _ => rfl) (fun _ => rfl) (fun _ => rfl) ?_
    exact Frame.refl _

theorem State.moveFlashWork_frame (a0 : _) (a1 : _) (a2 : State) : Frame 64 a2 (State.moveFlashWork a0 a1 a2) := by
  unfold State.moveFlashWork
  try extract_lets
  try extract_lets
  refine Frame.foldl (fun _ _ _ => ?_) ?_
  · refine Frame.comp (State.rebookRes_frame _ _ _) rfl ?_
    assumption
  · refine Frame.foldl (fun _ _ _ => ?_) ?_
    · refine Frame.comp (State.rebookRes_frame _ _ _) rfl ?_
      assumption
    · exact Frame.refl _

theorem State.endRebuild_frame (a0 : State) : Frame 67614 a0 (State.endRebuild a0) := by
  unfold State.endRebuild
  first | split | (dsimp +zetaDelta -proj only; split)
  · refine Frame.ite (fun _ => ?_) (fun _ => ?_)
    · refine Frame.comp (State.record_frame _ _ _) rfl ?_
      refine Frame.comp (State.raise_frame _ _ _) rfl ?_
      refine Frame.set_strp rfl ?_
      exact Frame.refl _
    · exact Frame.refl _
  · exact Frame.refl _

theorem State.startRebuild_frame (a0 : _) (a1 : _) (a2 : _) (a3 : State) : Frame 67614 a3 (State.startRebuild a0 a1 a2 a3) := by
  unfold State.startRebuild
  first | split | (dsimp +zetaDelta -proj only; split)
  · try extract_lets
    refine Frame.set_strp rfl ?_
    exact Frame.refl _
  · try extract_lets
    refine Frame.comp (State.endRebuild_frame _) rfl ?_
    refine Frame.comp (State.record_frame _ _ _) rfl ?_
    refine Frame.set_strp rfl ?_
    exact Frame.refl _

theorem State.updPort_frame (a0 : _) (a1 : _) (a2 : State) : Frame 2048 a2 (State.updPort a0 a1 a2) := by
  unfold State.updPort
  refine Frame.set_strp rfl ?_
  exact Frame.refl _

theorem State.memberFail_frame (a0 : _) (a1 : _) (a2 : State) : Frame 3431112982495 a2 (State.memberFail a0 a1 a2) := by
  unfold State.memberFail
  refine Frame.ite (fun _ => ?_) (fun _ => ?_)
  · exact Frame.refl _
  · try extract_lets
    try extract_lets
    try extract_lets
    try extract_lets
    try extract_lets
    try extract_lets
    try extract_lets
    first | split | (dsimp +zetaDelta -proj only; split)
    · try extract_lets
      try extract_lets
      try extract_lets
      refine Frame.comp (State.lossTest_frame _) rfl ?_
      refine Frame.comp (State.startRebuild_frame _ _ _ _) rfl ?_
      refine Frame.comp (State.memberChanged_frame _) rfl ?_
      refine Frame.comp (State.fillBands_frame _) rfl ?_
      refine Frame.comp (State.moveFlashWork_frame _ _ _) rfl ?_
      refine Frame.comp (State.raise_frame _ _ _) rfl ?_
      refine Frame.comp (State.record_frame _ _ _) rfl ?_
      refine Frame.comp (State.updPort_frame _ _ _) rfl ?_
      refine Frame.set_path_strp rfl rfl (fun i => absurd i (by decide)) (fun i => absurd i (by decide)) (fun _ => rfl) ?_
      refine Frame.set_path rfl (fun i => absurd i (by decide)) (fun i => absurd i (by decide)) (fun _ => rfl) ?_
      refine Frame.comp (State.flashSlack_frame _ _ _) rfl ?_
      refine Frame.comp (State.updPort_frame _ _ _) rfl ?_
      refine Frame.comp (State.raise_frame _ _ _) rfl ?_
      refine Frame.comp (State.record_frame _ _ _) rfl ?_
      exact Frame.refl _
    · try extract_lets
      refine Frame.comp (State.lossTest_frame _) rfl ?_
      refine Frame.comp (State.sealLeft_frame _) rfl ?_
      refine Frame.ite (fun _ => ?_) (fun _ => ?_)
      · refine Frame.comp (State.record_frame _ _ _) rfl ?_
        refine Frame.comp (State.memberChanged_frame _) rfl ?_
        refine Frame.set_strp rfl ?_
        refine Frame.set_path rfl (fun i => absurd i (by decide)) (fun i => absurd i (by decide)) (fun _ => rfl) ?_
        refine Frame.comp (State.flashSlack_frame _ _ _) rfl ?_
        refine Frame.comp (State.updPort_frame _ _ _) rfl ?_
        refine Frame.comp (State.raise_frame _ _ _) rfl ?_
        refine Frame.comp (State.record_frame _ _ _) rfl ?_
        exact Frame.refl _
      · refine Frame.comp (State.memberChanged_frame _) rfl ?_
        refine Frame.set_strp rfl ?_
        refine Frame.set_path rfl (fun i => absurd i (by decide)) (fun i => absurd i (by decide)) (fun _ => rfl) ?_
        refine Frame.comp (State.flashSlack_frame _ _ _) rfl ?_
        refine Frame.comp (State.updPort_frame _ _ _) rfl ?_
        refine Frame.comp (State.raise_frame _ _ _) rfl ?_
        refine Frame.comp (State.record_frame _ _ _) rfl ?_
        exact Frame.refl _

theorem State.substitute_frame (a0 : _) (a1 : _) (a2 : State) : Frame 256 a2 (State.substitute a0 a1 a2) := by
  unfold State.substitute
  refine Frame.set_path rfl (fun _ => rfl) (fun _ => rfl) (fun _ => rfl) ?_
  exact Frame.refl _

theorem State.partialLoss_frame (a0 : _) (a1 : _) (a2 : _) (a3 : State) : Frame 3431112982495 a3 (State.partialLoss a0 a1 a2 a3) := by
  unfold State.partialLoss
  try extract_lets
  refine Frame.ite (fun _ => ?_) (fun _ => ?_)
  · refine Frame.set_flash rfl ?_
    exact Frame.refl _
  · try extract_lets
    try extract_lets
    try extract_lets
    try extract_lets
    try extract_lets
    try extract_lets
    try extract_lets
    try extract_lets
    try extract_lets
    try extract_lets
    refine Frame.ite (fun _ => ?_) (fun _ => ?_)
    · refine Frame.comp (State.memberFail_frame _ _ _) rfl ?_
      refine Frame.set_path_flash_strp rfl rfl rfl (fun i => absurd i (by decide)) (fun i => absurd i (by decide)) (fun _ => rfl) ?_
      refine Frame.comp (State.flashSlack_frame _ _ _) rfl ?_
      refine Frame.comp (State.record_frame _ _ _) rfl ?_
      exact Frame.refl _
    · try extract_lets
      refine Frame.ite (fun _ => ?_) (fun _ => ?_)
      · refine Frame.comp (State.moveFlashWork_frame _ _ _) rfl ?_
        refine Frame.comp (State.fillBands_frame _) rfl ?_
        refine Frame.comp (State.substitute_frame _ _ _) rfl ?_
        refine Frame.set_path_flash_strp rfl rfl rfl (fun i => absurd i (by decide)) (fun i => absurd i (by decide)) (fun _ => rfl) ?_
        refine Frame.comp (State.flashSlack_frame _ _ _) rfl ?_
        refine Frame.comp (State.record_frame _ _ _) rfl ?_
        exact Frame.refl _
      · refine Frame.comp (State.lossTest_frame _) rfl ?_
        refine Frame.comp (State.startRebuild_frame _ _ _ _) rfl ?_
        refine Frame.comp (State.moveFlashWork_frame _ _ _) rfl ?_
        refine Frame.comp (State.fillBands_frame _) rfl ?_
        refine Frame.comp (State.substitute_frame _ _ _) rfl ?_
        refine Frame.set_path_flash_strp rfl rfl rfl (fun i => absurd i (by decide)) (fun i => absurd i (by decide)) (fun _ => rfl) ?_
        refine Frame.comp (State.flashSlack_frame _ _ _) rfl ?_
        refine Frame.comp (State.record_frame _ _ _) rfl ?_
        exact Frame.refl _

theorem State.replaceWork_frame (a0 : _) (a1 : _) (a2 : _) (a3 : State) : Frame 34359803998 a3 (State.replaceWork a0 a1 a2 a3) := by
  unfold State.replaceWork
  try extract_lets
  try extract_lets
  refine Frame.comp (State.rebookRes_frame _ _ _) rfl ?_
  refine Frame.comp (State.useSlack_frame _ _ _) rfl ?_
  exact Frame.refl _

theorem State.addRetired_frame (a0 : _) (a1 : State) : Frame 274877906976 a1 (State.addRetired a0 a1) := by
  unfold State.addRetired
  refine Frame.set_faults rfl (fun i => absurd i (by decide)) ?_
  exact Frame.refl _

theorem State.retireUnit_frame (a0 : _) (a1 : State) : Frame 3705990889471 a1 (State.retireUnit a0 a1) := by
  unfold State.retireUnit
  refine Frame.ite (fun _ => ?_) (fun _ => ?_)
  · exact Frame.refl _
  · refine Frame.ite (fun _ => ?_) (fun _ => ?_)
    · refine Frame.comp (State.enterPreservation_frame _ _) rfl ?_
      exact Frame.refl _
    · try extract_lets
      first | split | (dsimp +zetaDelta -proj only; split)
      · refine Frame.comp (State.record_frame _ _ _) rfl ?_
        refine Frame.comp (State.addRetired_frame _ _) rfl ?_
        exact Frame.refl _
      · refine Frame.comp (State.partialLoss_frame _ _ _ _) rfl ?_
        refine Frame.comp (State.raise_frame _ _ _) rfl ?_
        refine Frame.comp (State.record_frame _ _ _) rfl ?_
        refine Frame.comp (State.addRetired_frame _ _) rfl ?_
        exact Frame.refl _
      · try extract_lets
        try extract_lets
        refine Frame.ite (fun _ => ?_) (fun _ => ?_)
        · refine Frame.comp (State.memberFail_frame _ _ _) rfl ?_
          refine Frame.set_flash rfl ?_
          refine Frame.comp (State.record_frame _ _ _) rfl ?_
          refine Frame.comp (State.addRetired_frame _ _) rfl ?_
          exact Frame.refl _
        · refine Frame.comp (State.partialLoss_frame _ _ _ _) rfl ?_
          refine Frame.comp (State.record_frame _ _ _) rfl ?_
          refine Frame.comp (State.addRetired_frame _ _) rfl ?_
          exact Frame.refl _
      · try extract_lets
        try extract_lets
        refine Frame.ite (fun _ => ?_) (fun _ => ?_)
        · refine Frame.set_faults rfl (fun i => absurd i (by decide)) ?_
          refine Frame.comp (State.record_frame _ _ _) rfl ?_
          refine Frame.comp (State.addRetired_frame _ _) rfl ?_
          exact Frame.refl _
        · refine Frame.comp (State.useSlack_frame _ _ _) rfl ?_
          refine Frame.set_faults rfl (fun i => absurd i (by decide)) ?_
          refine Frame.comp (State.record_frame _ _ _) rfl ?_
          refine Frame.comp (State.addRetired_frame _ _) rfl ?_
          exact Frame.refl _
      · refine Frame.comp (State.replaceWork_frame _ _ _ _) rfl ?_
        refine Frame.comp (State.raise_frame _ _ _) rfl ?_
        refine Frame.comp (State.record_frame _ _ _) rfl ?_
        refine Frame.comp (State.addRetired_frame _ _) rfl ?_
        exact Frame.refl _
      · refine Frame.comp (State.raise_frame _ _ _) rfl ?_
        refine Frame.comp (State.record_frame _ _ _) rfl ?_
        refine Frame.comp (State.addRetired_frame _ _) rfl ?_
        exact Frame.refl _
      · try extract_lets
        refine Frame.ite (fun _ => ?_) (fun _ => ?_)
        · refine Frame.comp (State.record_frame _ _ _) rfl ?_
          refine Frame.set_ddup rfl ?_
          refine Frame.comp (State.useSlack_frame _ _ _) rfl ?_
          refine Frame.comp (State.raise_frame _ _ _) rfl ?_
          refine Frame.comp (State.record_frame _ _ _) rfl ?_
          refine Frame.comp (State.addRetired_frame _ _) rfl ?_
          exact Frame.refl _
        · refine Frame.comp (State.useSlack_frame _ _ _) rfl ?_
          refine Frame.comp (State.raise_frame _ _ _) rfl ?_
          refine Frame.comp (State.record_frame _ _ _) rfl ?_
          refine Frame.comp (State.addRetired_frame _ _) rfl ?_
          exact Frame.refl _
      · refine Frame.comp (State.replaceWork_frame _ _ _ _) rfl ?_
        refine Frame.comp (State.raise_frame _ _ _) rfl ?_
        refine Frame.comp (State.record_frame _ _ _) rfl ?_
        refine Frame.comp (State.addRetired_frame _ _) rfl ?_
        exact Frame.refl _
      · try extract_lets
        refine Frame.set_moor rfl (fun i => absurd i (by decide)) ?_
        refine Frame.comp (State.record_frame _ _ _) rfl ?_
        refine Frame.comp (State.addRetired_frame _ _) rfl ?_
        exact Frame.refl _
      · refine Frame.comp (State.addRetired_frame _ _) rfl ?_
        exact Frame.refl _

theorem State.retireIsland_frame (a0 : _) (a1 : _) (a2 : State) : Frame 3705990889471 a2 (State.retireIsland a0 a1 a2) := by
  unfold State.retireIsland
  try extract_lets
  refine Frame.ite (fun _ => ?_) (fun _ => ?_)
  · refine Frame.comp (State.addRetired_frame _ _) rfl ?_
    refine Frame.foldl (fun _ _ _ => ?_) ?_
    · refine Frame.comp (State.retireUnit_frame _ _) rfl ?_
      assumption
    · exact Frame.refl _
  · refine Frame.foldl (fun _ _ _ => ?_) ?_
    · refine Frame.comp (State.retireUnit_frame _ _) rfl ?_
      assumption
    · exact Frame.refl _

theorem State.retire_frame (a0 : _) (a1 : State) : Frame 3705990889471 a1 (State.retire a0 a1) := by
  unfold State.retire
  try extract_lets
  try extract_lets
  refine Frame.comp (State.recompute_frame _ _) rfl ?_
  first | split | (dsimp +zetaDelta -proj only; split)
  · refine Frame.comp (State.retireIsland_frame _ _ _) rfl ?_
    exact Frame.refl _
  · refine Frame.comp (State.retireUnit_frame _ _) rfl ?_
    exact Frame.refl _

theorem State.fault_frame (a0 : _) (a1 : _) (a2 : _) (a3 : _) (a4 : State) : Frame 3705990889471 a4 (State.fault a0 a1 a2 a3 a4) := by
  unfold State.fault
  try extract_lets
  try extract_lets
  refine Frame.ite (fun _ => ?_) (fun _ => ?_)
  · refine Frame.set_faults rfl (fun i => absurd i (by decide)) ?_
    refine Frame.comp (State.recordOnce_frame _ _ _ _) rfl ?_
    exact Frame.refl _
  · refine Frame.ite (fun _ => ?_) (fun _ => ?_)
    · refine Frame.comp (State.retire_frame _ _) rfl ?_
      refine Frame.set_faults rfl (fun i => absurd i (by decide)) ?_
      refine Frame.comp (State.recordOnce_frame _ _ _ _) rfl ?_
      exact Frame.refl _
    · refine Frame.set_faults rfl (fun i => absurd i (by decide)) ?_
      refine Frame.comp (State.recordOnce_frame _ _ _ _) rfl ?_
      exact Frame.refl _

theorem State.leaveBlock_frame (a0 : _) (a1 : _) (a2 : _) (a3 : State) : Frame 1280 a3 (State.leaveBlock a0 a1 a2 a3) := by
  unfold State.leaveBlock
  try extract_lets
  try extract_lets
  first | split | (dsimp +zetaDelta -proj only; split)
  · refine Frame.comp (State.fillBand_frame _ _) rfl ?_
    refine Frame.set_path rfl (fun _ => rfl) (fun _ => rfl) (fun _ => rfl) ?_
    exact Frame.refl _
  · exact Frame.refl _

theorem State.markBlock_frame (a0 : _) (a1 : _) (a2 : State) : Frame 1024 a2 (State.markBlock a0 a1 a2) := by
  unfold State.markBlock
  try extract_lets
  refine Frame.set_flash rfl ?_
  exact Frame.refl _

theorem State.mapTouched_frame (a0 : State) : Frame 256 a0 (State.mapTouched a0) := by
  unfold State.mapTouched
  refine Frame.set_path rfl (fun _ => rfl) (fun _ => rfl) (fun _ => rfl) ?_
  exact Frame.refl _

theorem State.releaseEnt_frame (a0 : _) (a1 : State) : Frame 512 a1 (State.releaseEnt a0 a1) := by
  unfold State.releaseEnt
  first | split | (dsimp +zetaDelta -proj only; split)
  · refine Frame.ite (fun _ => ?_) (fun _ => ?_)
    · refine Frame.comp (State.updSgt_frame _ _ _) rfl ?_
      exact Frame.refl _
    · exact Frame.refl _
  · exact Frame.refl _

theorem State.publishFrozen_frame (a0 : _) (a1 : _) (a2 : _) (a3 : State) : Frame 1100585370240 a3 (State.publishFrozen a0 a1 a2 a3) := by
  unfold State.publishFrozen
  first | split | (dsimp +zetaDelta -proj only; split)
  · exact Frame.refl _
  · refine Frame.foldl (fun _ _ _ => ?_) ?_
    · try extract_lets
      try extract_lets
      refine Frame.ite (fun _ => ?_) (fun _ => ?_)
      · try extract_lets
        refine Frame.comp (State.updNs_frame _ _ _) rfl ?_
        refine Frame.comp (State.releaseEnt_frame _ _) rfl ?_
        refine Frame.ite (fun _ => ?_) (fun _ => ?_)
        · refine Frame.comp (State.addRef_frame _ _) rfl ?_
          assumption
        · assumption
      · assumption
    · exact Frame.refl _

theorem State.publish_frame (a0 : _) (a1 : _) (a2 : _) (a3 : State) : Frame 1169304847232 a3 (State.publish a0 a1 a2 a3) := by
  unfold State.publish
  refine Frame.ite (fun _ => ?_) (fun _ => ?_)
  · exact Frame.refl _
  · try extract_lets
    try extract_lets
    try extract_lets
    refine Frame.ite (fun _ => ?_) (fun _ => ?_)
    · try extract_lets
      try extract_lets
      refine Frame.set_path rfl (fun i => absurd i (by decide)) (fun _ => rfl) (fun _ => rfl) ?_
      refine Frame.ite (fun _ => ?_) (fun _ => ?_)
      · refine Frame.comp (State.addRef_frame _ _) rfl ?_
        refine Frame.comp (State.releaseEnt_frame _ _) rfl ?_
        refine Frame.comp (State.mapTouched_frame _) rfl ?_
        refine Frame.comp (State.publishFrozen_frame _ _ _ _) rfl ?_
        exact Frame.refl _
      · refine Frame.comp (State.releaseEnt_frame _ _) rfl ?_
        refine Frame.comp (State.mapTouched_frame _) rfl ?_
        refine Frame.comp (State.publishFrozen_frame _ _ _ _) rfl ?_
        exact Frame.refl _
    · refine Frame.comp (State.mapTouched_frame _) rfl ?_
      refine Frame.comp (State.publishFrozen_frame _ _ _ _) rfl ?_
      exact Frame.refl _

theorem State.indexPut_frame (a0 : _) (a1 : State) : Frame 4194816 a1 (State.indexPut a0 a1) := by
  unfold State.indexPut
  refine Frame.ite (fun _ => ?_) (fun _ => ?_)
  · refine Frame.set_ddup rfl ?_
    exact Frame.refl _
  · refine Frame.comp (State.emit_frame _ _) rfl ?_
    exact Frame.refl _

theorem State.shareStored_frame (a0 : _) (a1 : _) (a2 : State) : Frame 4194816 a2 (State.shareStored a0 a1 a2).2 := by
  unfold State.shareStored
  split
  · exact Frame.refl _
  · exact Frame.comp (State.indexPut_frame _ _) rfl (Frame.set_ddup rfl (Frame.refl _))

theorem State.resolveShared_frame (a0 : _) (a1 : State) : Frame 4194816 a1 (State.resolveShared a0 a1).2 := by
  unfold State.resolveShared
  dsimp only
  split
  · exact Frame.refl _
  · split
    · exact State.shareStored_frame _ _ _
    · exact Frame.refl _

theorem State.shareReturned_frame (a0 : _) (a1 : State) : Frame 4194816 a1 (State.shareReturned a0 a1).2 := by
  unfold State.shareReturned
  dsimp only
  split
  · exact Frame.refl _
  · exact State.shareStored_frame _ _ _

theorem State.putFrozen_frame (a0 a1 a2 a3 : _) (a4 : State) : Frame 1100585370240 a4 (State.putFrozen a0 a1 a2 a3 a4) := by
  unfold State.putFrozen
  dsimp only
  split
  · exact Frame.refl _
  · refine Frame.comp (State.updNs_frame _ _ _) rfl (Frame.comp (State.releaseEnt_frame _ _) rfl ?_)
    split
    · exact Frame.comp (State.addRef_frame _ _) rfl (Frame.refl _)
    · exact Frame.refl _

theorem State.publishMarked_frame (a0 a1 a2 : _) (a3 : State) : Frame 1169309041536 a3 (State.publishMarked a0 a1 a2 a3) := by
  unfold State.publishMarked
  dsimp only
  have h : Frame 1169309041536 a3 (if a1.shared then a3.shareReturned a2 else (none, a3)).2 := by
    split
    · exact Frame.comp (State.shareReturned_frame _ _) rfl (Frame.refl _)
    · exact Frame.refl _
  generalize (if a1.shared then a3.shareReturned a2 else (none, a3)) = r at h ⊢
  split
  · exact Frame.comp (State.publish_frame _ _ _ _) rfl h
  · exact Frame.comp (State.putFrozen_frame _ _ _ _ _) rfl h

theorem State.publishOwn_frame (a0 : _) (a1 : _) (a2 : State) : Frame 1169309041536 a2 (State.publishOwn a0 a1 a2) := by
  unfold State.publishOwn
  try extract_lets
  refine Frame.ite (fun _ => ?_) (fun _ => ?_)
  · first | split | (dsimp +zetaDelta -proj only; split)
    · refine Frame.comp (State.publish_frame _ _ _ _) rfl ?_
      refine Frame.snd ?_ (by assumption)
      refine Frame.comp (State.resolveShared_frame _ _) rfl ?_
      exact Frame.refl _
    · refine Frame.comp (State.publish_frame _ _ _ _) rfl ?_
      refine Frame.snd ?_ (by assumption)
      refine Frame.comp (State.resolveShared_frame _ _) rfl ?_
      exact Frame.refl _
  · refine Frame.comp (State.publish_frame _ _ _ _) rfl ?_
    exact Frame.refl _

theorem State.publishStored_frame (a0 : _) (a1 : _) (a2 : State) : Frame 1169309041536 a2 (State.publishStored a0 a1 a2) := by
  unfold State.publishStored
  split
  · exact State.publishMarked_frame _ _ _ _
  · exact State.publishOwn_frame _ _ _

theorem State.ackMirror_frame (a0 : State) : Frame 5567355552640 a0 (State.ackMirror a0) := by
  unfold State.ackMirror
  try extract_lets
  refine Frame.ite (fun _ => ?_) (fun _ => ?_)
  · exact Frame.refl _
  · try extract_lets
    try extract_lets
    try extract_lets
    try extract_lets
    refine Frame.comp (State.emit_frame _ _) rfl ?_
    refine Frame.foldl (fun _ _ _ => ?_) ?_
    · refine Frame.comp (State.publishStored_frame _ _ _) rfl ?_
      assumption
    · refine Frame.set_path rfl (fun i => absurd i (by decide)) (fun _ => rfl) (fun i => absurd i (by decide)) ?_
      exact Frame.refl _

theorem State.updMoor_frame (a0 : _) (a1 : State) : Frame 2147491840 a1 (State.updMoor a0 a1) := by
  unfold State.updMoor
  refine Frame.set_moor rfl (fun i => absurd i (by decide)) ?_
  exact Frame.refl _

theorem State.ackRejoin_frame (a0 : State) : Frame 5569503044480 a0 (State.ackRejoin a0) := by
  unfold State.ackRejoin
  try extract_lets
  refine Frame.ite (fun _ => ?_) (fun _ => ?_)
  · exact Frame.refl _
  · try extract_lets
    refine Frame.comp (State.emit_frame _ _) rfl ?_
    refine Frame.comp (State.updMoor_frame _ _) rfl ?_
    refine Frame.foldl (fun _ _ _ => ?_) ?_
    · refine Frame.comp (State.publishStored_frame _ _ _) rfl ?_
      assumption
    · refine Frame.set_path rfl (fun i => absurd i (by decide)) (fun _ => rfl) (fun i => absurd i (by decide)) ?_
      exact Frame.refl _

theorem State.markSealed_frame (a0 : State) : Frame 34359738432 a0 (State.markSealed a0) := by
  unfold State.markSealed
  refine Frame.set_adm rfl (fun _ => rfl) (fun _ => rfl) (fun i => absurd i (by decide)) ?_
  exact Frame.refl _

theorem State.moveRecord_frame (a0 : _) (a1 : _) (a2 : State) : Frame 1169304847232 a2 (State.moveRecord a0 a1 a2) := by
  unfold State.moveRecord
  try extract_lets
  refine Frame.set_nvq_path_ddup rfl rfl rfl (fun i => absurd i (by decide)) (fun i => absurd i (by decide)) (fun i => absurd i (by decide)) (fun _ => rfl) (fun _ => rfl) ?_
  exact Frame.refl _

theorem State.moveRewrite_frame (a0 : _) (a1 : State) : Frame 1169304847232 a1 (State.moveRewrite a0 a1) := by
  unfold State.moveRewrite
  first | split | (dsimp +zetaDelta -proj only; split)
  · exact Frame.refl _
  · refine Frame.ite (fun _ => ?_) (fun _ => ?_)
    · exact Frame.refl _
    · refine Frame.comp (State.mapTouched_frame _) rfl ?_
      refine Frame.comp (State.moveRecord_frame _ _ _) rfl ?_
      refine Frame.set_path rfl (fun i => absurd i (by decide)) (fun _ => rfl) (fun _ => rfl) ?_
      exact Frame.refl _

theorem State.updLink_frame (a0 : _) (a1 : _) (a2 : State) : Frame 16384 a2 (State.updLink a0 a1 a2) := by
  unfold State.updLink
  refine Frame.set_repl rfl ?_
  exact Frame.refl _

theorem State.updTarget_frame (a0 : _) (a1 : _) (a2 : _) (a3 : State) : Frame 16384 a3 (State.updTarget a0 a1 a2 a3) := by
  unfold State.updTarget
  refine Frame.comp (State.updLink_frame _ _ _) rfl ?_
  exact Frame.refl _

theorem State.sendFrame_frame (a0 : _) (a1 : _) (a2 : _) (a3 : _) (a4 : State) : Frame 137443360798 a4 (State.sendFrame a0 a1 a2 a3 a4).2.2 := by
  unfold State.sendFrame
  first | split | (dsimp +zetaDelta -proj only; split)
  · exact Frame.refl _
  · first | split | (dsimp +zetaDelta -proj only; split)
    · exact Frame.refl _
    · first | split | (dsimp +zetaDelta -proj only; split)
      · refine Frame.snd ?_ (by assumption)
        refine Frame.comp (State.takeCounter_frame _ _) rfl ?_
        exact Frame.refl _
      · refine Frame.comp (State.emit_frame _ _) rfl ?_
        refine Frame.comp (State.updTarget_frame _ _ _ _) rfl ?_
        refine Frame.snd ?_ (by assumption)
        refine Frame.comp (State.takeCounter_frame _ _) rfl ?_
        exact Frame.refl _

theorem State.bookWork_frame (a0 : _) (a1 : _) (a2 : _) (a3 : _) (a4 : State) : Frame 64 a4 (State.bookWork a0 a1 a2 a3 a4) := by
  unfold State.bookWork
  first | split | (dsimp +zetaDelta -proj only; split)
  · refine Frame.set_adm rfl (fun _ => rfl) (fun _ => rfl) (fun _ => rfl) ?_
    exact Frame.refl _

theorem State.bookCopy_frame (a0 : _) (a1 : _) (a2 : _) (a3 : _) (a4 : State) : Frame 64 a4 (State.bookCopy a0 a1 a2 a3 a4) := by
  unfold State.bookCopy
  first | split | (dsimp +zetaDelta -proj only; split)
  · exact Frame.refl _
  · first | split | (dsimp +zetaDelta -proj only; split)
    · refine Frame.comp (State.bookWork_frame _ _ _ _ _) rfl ?_
      exact Frame.refl _
    · exact Frame.refl _

theorem State.bookSetReads_frame (a0 : _) (a1 : State) : Frame 64 a1 (State.bookSetReads a0 a1) := by
  unfold State.bookSetReads
  exact Frame.foldl (fun _ _ h => Frame.comp (State.bookCopy_frame _ _ _ _ _) rfl h) (Frame.refl _)

theorem State.sendSet_frame (a0 : _) (a1 : _) (a2 : State) : Frame 137443360862 a2 (State.sendSet a0 a1 a2) := by
  unfold State.sendSet
  first | split | (dsimp +zetaDelta -proj only; split)
  · first | split | (dsimp +zetaDelta -proj only; split)
    · try extract_lets
      refine Frame.ite (fun _ => ?_) (fun _ => ?_)
      · exact Frame.refl _
      · try extract_lets
        try extract_lets
        try extract_lets
        try extract_lets
        try extract_lets
        refine Frame.ite (fun _ => ?_) (fun _ => ?_)
        · refine Frame.comp (State.updTarget_frame _ _ _ _) rfl ?_
          refine Frame.foldlSnd (fun _ _ _ => ?_) ?_
          · first | split | (dsimp +zetaDelta -proj only; split)
            · try extract_lets
              refine Frame.comp (State.sendFrame_frame _ _ _ _ _) rfl ?_
              assumption
            · assumption
          · exact Frame.comp (State.bookSetReads_frame _ _) rfl (Frame.refl _)
        · refine Frame.comp (State.updTarget_frame _ _ _ _) rfl ?_
          refine Frame.foldlSnd (fun _ _ _ => ?_) ?_
          · first | split | (dsimp +zetaDelta -proj only; split)
            · try extract_lets
              refine Frame.comp (State.sendFrame_frame _ _ _ _ _) rfl ?_
              assumption
            · assumption
          · exact Frame.comp (State.bookSetReads_frame _ _) rfl (Frame.refl _)
    · exact Frame.refl _
  · exact Frame.refl _

theorem State.sendReady_frame (a0 : State) : Frame 137443360862 a0 (State.sendReady a0) := by
  unfold State.sendReady
  refine Frame.foldl (fun _ _ _ => ?_) ?_
  · refine Frame.foldl (fun _ _ _ => ?_) ?_
    · refine Frame.comp (State.sendSet_frame _ _ _) rfl ?_
      assumption
    · assumption
  · exact Frame.refl _

theorem State.queuePost_frame (a0 : _) (a1 : _) (a2 : _) (a3 : _) (a4 : _) (a5 : State) : Frame 532 a5 (State.queuePost a0 a1 a2 a3 a4 a5) := by
  unfold State.queuePost
  refine Frame.ite (fun _ => ?_) (fun _ => ?_)
  · refine Frame.comp (State.raise_frame _ _ _) rfl ?_
    refine Frame.comp (State.count_frame _ _) rfl ?_
    exact Frame.refl _
  · refine Frame.set_ddup rfl ?_
    exact Frame.refl _

theorem State.markDirty_frame (a0 : _) (a1 : _) (a2 : State) : Frame 2147491840 a2 (State.markDirty a0 a1 a2) := by
  unfold State.markDirty
  refine Frame.ite (fun _ => ?_) (fun _ => ?_)
  · try extract_lets
    refine Frame.set_moor rfl (fun i => absurd i (by decide)) ?_
    exact Frame.refl _
  · exact Frame.refl _

theorem State.cachePut_frame (a0 : _) (a1 : State) : Frame 512 a1 (State.cachePut a0 a1) := by
  unfold State.cachePut
  refine Frame.set_ddup rfl ?_
  exact Frame.refl _

theorem State.promote_frame (a0 : _) (a1 : _) (a2 : State) : Frame 256 a2 (State.promote a0 a1 a2) := by
  unfold State.promote
  try extract_lets
  try extract_lets
  try extract_lets
  refine Frame.set_path rfl (fun _ => rfl) (fun _ => rfl) (fun _ => rfl) ?_
  exact Frame.refl _

theorem State.dedupInsert_frame (a0 : _) (a1 : _) (a2 : _) (a3 : _) (a4 : _) (a5 : _) (a6 : State) : Frame 68723737374 a6 (State.dedupInsert a0 a1 a2 a3 a4 a5 a6) := by
  unfold State.dedupInsert
  first | split | (dsimp +zetaDelta -proj only; split)
  · exact Frame.comp (State.queuePost_frame _ _ _ _ _ _) rfl (Frame.refl _)
  · first | split | (dsimp +zetaDelta -proj only; split)
    · exact Frame.comp (State.recordOnce_frame _ _ _ _) rfl (Frame.comp (State.raise_frame _ _ _) rfl (Frame.refl _))
    · extract_lets entry fpe s1
      have h1 : Frame 68723737374 a6 s1 := Frame.comp (State.cachePut_frame _ _) rfl (Frame.comp (State.indexPut_frame _ _) rfl (Frame.refl _))
      have hp : s1.path = a6.path := ((State.cachePut_frame _ _).path (by decide)).trans ((State.indexPut_frame _ _).path (by decide))
      clear_value s1
      refine Frame.comp (State.promote_frame _ _ _) rfl ?_
      exact Frame.set_path_ddup (h0 := rfl) (h1 := rfl) (hmap := fun i => absurd i (by decide)) (hstripes := fun _ => (congrArg PathState.stripes hp).symm) (hstored := fun _ => (congrArg PathState.stored hp).symm) h1

theorem State.unpromote_frame (a0 : _) (a1 : _) (a2 : State) : Frame 256 a2 (State.unpromote a0 a1 a2) := by
  unfold State.unpromote
  refine Frame.set_path rfl (fun _ => rfl) (fun _ => rfl) (fun _ => rfl) ?_
  exact Frame.refl _

theorem State.promoteUnits_frame (a0 : _) (a1 : State) : Frame 256 a1 (State.promoteUnits a0 a1) := by
  unfold State.promoteUnits
  refine Frame.foldl (fun _ _ _ => ?_) ?_
  · try extract_lets
    try extract_lets
    refine Frame.ite (fun _ => ?_) (fun _ => ?_)
    · refine Frame.comp (State.unpromote_frame _ _ _) rfl ?_
      assumption
    · refine Frame.comp (State.promote_frame _ _ _) rfl ?_
      assumption
  · exact Frame.refl _

theorem State.publishWrite_frame (a0 : _) (a1 : State) : Frame 1171456598942 a1 (State.publishWrite a0 a1) := by
  unfold State.publishWrite
  try extract_lets
  refine Frame.comp (State.promoteUnits_frame _ _) rfl ?_
  refine Frame.foldl (fun _ _ _ => ?_) ?_
  · first | split | (dsimp +zetaDelta -proj only; split)
    · assumption
    · try extract_lets
      try extract_lets
      first | split | (dsimp +zetaDelta -proj only; split)
      · refine Frame.ite (fun _ => ?_) (fun _ => ?_)
        · refine Frame.comp (State.dedupInsert_frame _ _ _ _ _ _ _) rfl ?_
          refine Frame.comp (State.markDirty_frame _ _ _) rfl ?_
          refine Frame.comp (State.publish_frame _ _ _ _) rfl ?_
          assumption
        · refine Frame.comp (State.markDirty_frame _ _ _) rfl ?_
          refine Frame.comp (State.publish_frame _ _ _ _) rfl ?_
          assumption
      · refine Frame.comp (State.queuePost_frame _ _ _ _ _ _) rfl ?_
        refine Frame.comp (State.markDirty_frame _ _ _) rfl ?_
        refine Frame.comp (State.publish_frame _ _ _ _) rfl ?_
        assumption
      · refine Frame.ite (fun _ => ?_) (fun _ => ?_)
        · refine Frame.comp (State.queuePost_frame _ _ _ _ _ _) rfl ?_
          refine Frame.comp (State.markDirty_frame _ _ _) rfl ?_
          refine Frame.comp (State.publish_frame _ _ _ _) rfl ?_
          assumption
        · refine Frame.comp (State.markDirty_frame _ _ _) rfl ?_
          refine Frame.comp (State.publish_frame _ _ _ _) rfl ?_
          assumption
  · exact Frame.refl _

theorem State.viewPut_frame (a0 : _) (a1 : _) (a2 : _) (a3 : State) : Frame 1100585370240 a3 (State.viewPut a0 a1 a2 a3) := by
  unfold State.viewPut
  try extract_lets
  try extract_lets
  refine Frame.comp (State.updNs_frame _ _ _) rfl ?_
  refine Frame.comp (State.releaseEnt_frame _ _) rfl ?_
  refine Frame.ite (fun _ => ?_) (fun _ => ?_)
  · refine Frame.comp (State.addRef_frame _ _) rfl ?_
    exact Frame.refl _
  · exact Frame.refl _

theorem State.addRefs_frame (a0 : _) (a1 : State) : Frame 512 a1 (State.addRefs a0 a1) := by
  unfold State.addRefs
  refine Frame.foldl (fun _ _ _ => ?_) ?_
  · refine Frame.ite (fun _ => ?_) (fun _ => ?_)
    · refine Frame.comp (State.addRef_frame _ _) rfl ?_
      assumption
    · assumption
  · exact Frame.refl _

theorem State.releaseRefs_frame (a0 : _) (a1 : State) : Frame 512 a1 (State.releaseRefs a0 a1) := by
  unfold State.releaseRefs
  refine Frame.foldl (fun _ _ _ => ?_) ?_
  · refine Frame.comp (State.releaseEnt_frame _ _) rfl ?_
    assumption
  · exact Frame.refl _

theorem State.commitView_frame (a0 : _) (a1 : State) : Frame 1100585370240 a1 (State.commitView a0 a1) := by
  unfold State.commitView
  try extract_lets
  try extract_lets
  refine Frame.comp (State.updNs_frame _ _ _) rfl ?_
  refine Frame.comp (State.releaseRefs_frame _ _) rfl ?_
  refine Frame.comp (State.addRefs_frame _ _) rfl ?_
  exact Frame.refl _

theorem State.replStored_frame (a0 : _) (a1 : State) : Frame 1100589580928 a1 (State.replStored a0 a1) := by
  unfold State.replStored
  refine Frame.ite (fun _ => ?_) (fun _ => ?_)
  · exact Frame.refl _
  · try extract_lets
    first | split | (dsimp +zetaDelta -proj only; split)
    · refine Frame.ite (fun _ => ?_) (fun _ => ?_)
      · refine Frame.ite (fun _ => ?_) (fun _ => ?_)
        · refine Frame.foldl (fun _ _ _ => ?_) ?_
          · first | split | (dsimp +zetaDelta -proj only; split)
            · refine Frame.comp (State.viewPut_frame _ _ _ _) rfl ?_
              assumption
            · assumption
          · exact Frame.refl _
        · exact Frame.refl _
      · refine Frame.comp (State.emit_frame _ _) rfl ?_
        try extract_lets
        refine Frame.set_repl rfl ?_
        refine Frame.comp (State.commitView_frame _ _) rfl ?_
        refine Frame.ite (fun _ => ?_) (fun _ => ?_)
        · refine Frame.foldl (fun _ _ _ => ?_) ?_
          · first | split | (dsimp +zetaDelta -proj only; split)
            · refine Frame.comp (State.viewPut_frame _ _ _ _) rfl ?_
              assumption
            · assumption
          · exact Frame.refl _
        · exact Frame.refl _
    · refine Frame.ite (fun _ => ?_) (fun _ => ?_)
      · refine Frame.foldl (fun _ _ _ => ?_) ?_
        · first | split | (dsimp +zetaDelta -proj only; split)
          · refine Frame.comp (State.viewPut_frame _ _ _ _) rfl ?_
            assumption
          · assumption
        · exact Frame.refl _
      · exact Frame.refl _

theorem State.finishWrite_frame (a0 : _) (a1 : State) : Frame 1231586161630 a1 (State.finishWrite a0 a1) := by
  unfold State.finishWrite
  try extract_lets
  try extract_lets
  try extract_lets
  try extract_lets
  first | split | (dsimp +zetaDelta -proj only; split)
  · try extract_lets
    refine Frame.comp (State.snapsReady_frame _ _) rfl ?_
    refine Frame.comp (State.replStored_frame _ _) rfl ?_
    refine Frame.comp (State.complete_frame _ _ _ _ _ _ _ _) rfl ?_
    refine Frame.ite (fun _ => ?_) (fun _ => ?_)
    · refine Frame.set_nvq rfl (fun i => absurd i (by decide)) (fun i => absurd i (by decide)) ?_
      first | split | (dsimp +zetaDelta -proj only; split)
      · refine Frame.ite (fun _ => ?_) (fun _ => ?_)
        · refine Frame.comp (State.count_frame _ _) rfl ?_
          refine Frame.comp (State.raise_frame _ _ _) rfl ?_
          refine Frame.comp (State.record_frame _ _ _) rfl ?_
          refine Frame.comp (State.dropWrite_frame _ _) rfl ?_
          refine Frame.comp (State.publishWrite_frame _ _) rfl ?_
          exact Frame.refl _
        · refine Frame.comp (State.count_frame _ _) rfl ?_
          refine Frame.comp (State.dropWrite_frame _ _) rfl ?_
          refine Frame.comp (State.publishWrite_frame _ _) rfl ?_
          exact Frame.refl _
      · refine Frame.comp (State.dropWrite_frame _ _) rfl ?_
        refine Frame.comp (State.publishWrite_frame _ _) rfl ?_
        exact Frame.refl _
    · first | split | (dsimp +zetaDelta -proj only; split)
      · refine Frame.ite (fun _ => ?_) (fun _ => ?_)
        · refine Frame.comp (State.count_frame _ _) rfl ?_
          refine Frame.comp (State.raise_frame _ _ _) rfl ?_
          refine Frame.comp (State.record_frame _ _ _) rfl ?_
          refine Frame.comp (State.dropWrite_frame _ _) rfl ?_
          refine Frame.comp (State.publishWrite_frame _ _) rfl ?_
          exact Frame.refl _
        · refine Frame.comp (State.count_frame _ _) rfl ?_
          refine Frame.comp (State.dropWrite_frame _ _) rfl ?_
          refine Frame.comp (State.publishWrite_frame _ _) rfl ?_
          exact Frame.refl _
      · refine Frame.comp (State.dropWrite_frame _ _) rfl ?_
        refine Frame.comp (State.publishWrite_frame _ _) rfl ?_
        exact Frame.refl _

theorem State.checkWrites_frame (a0 : State) : Frame 1231586161630 a0 (State.checkWrites a0) := by
  unfold State.checkWrites
  refine Frame.ite (fun _ => ?_) (fun _ => ?_)
  · exact Frame.refl _
  · refine Frame.foldl (fun _ _ _ => ?_) ?_
    · refine Frame.comp (State.finishWrite_frame _ _) rfl ?_
      assumption
    · exact Frame.refl _

theorem State.afterSeal_frame (a0 : State) : Frame 5767071757278 a0 (State.afterSeal a0) := by
  unfold State.afterSeal
  try extract_lets
  refine Frame.foldl (fun _ _ _ => ?_) ?_
  · refine Frame.comp (State.moveRewrite_frame _ _) rfl ?_
    assumption
  · refine Frame.comp (State.ackMirror_frame _) rfl ?_
    refine Frame.comp (State.sendReady_frame _) rfl ?_
    refine Frame.comp (State.checkWrites_frame _) rfl ?_
    refine Frame.comp (State.ackRejoin_frame _) rfl ?_
    refine Frame.comp (State.markSealed_frame _) rfl ?_
    exact Frame.refl _

theorem State.updStripe_frame (a0 : _) (a1 : _) (a2 : _) (a3 : State) : Frame 2199023255808 a3 (State.updStripe a0 a1 a2 a3) := by
  unfold State.updStripe
  refine Frame.set_path rfl (fun _ => rfl) (fun i => absurd i (by decide)) (fun _ => rfl) ?_
  exact Frame.refl _

theorem State.sealStripe_frame (a0 : _) (a1 : _) (a2 : State) : Frame 7966095012830 a2 (State.sealStripe a0 a1 a2) := by
  unfold State.sealStripe
  first | split | (dsimp +zetaDelta -proj only; split)
  · refine Frame.comp (State.afterSeal_frame _) rfl ?_
    refine Frame.ite (fun _ => ?_) (fun _ => ?_)
    · refine Frame.comp (State.updStripe_frame _ _ _ _) rfl ?_
      exact Frame.refl _
    · exact Frame.refl _
  · exact Frame.refl _

theorem execProgramDone_frame (a0 : _) (a1 : _) (a2 : _) (a3 : _) (a4 : _) (a5 : _) (a6 : State) : Frame.Out 8241476501503 a6 (execProgramDone a0 a1 a2 a3 a4 a5 a6) := by
  unfold execProgramDone
  try extract_lets
  refine Frame.next ?_
  first | split | (dsimp +zetaDelta -proj only; split)
  · refine Frame.ite (fun _ => ?_) (fun _ => ?_)
    · refine Frame.comp (State.advanceTo_frame _ _) rfl ?_
      exact Frame.refl _
    · first | split | (dsimp +zetaDelta -proj only; split)
      · refine Frame.comp (State.advanceTo_frame _ _) rfl ?_
        exact Frame.refl _
      · try extract_lets
        refine Frame.ite (fun _ => ?_) (fun _ => ?_)
        · refine Frame.comp (State.sealStripe_frame _ _ _) rfl ?_
          refine Frame.comp (State.updStripe_frame _ _ _ _) rfl ?_
          refine Frame.comp (State.count_frame _ _) rfl ?_
          refine Frame.comp (State.advanceTo_frame _ _) rfl ?_
          exact Frame.refl _
        · try extract_lets
          refine Frame.comp (State.fault_frame _ _ _ _ _) rfl ?_
          refine Frame.comp (State.leaveBlock_frame _ _ _ _) rfl ?_
          refine Frame.comp (State.useSlack_frame _ _ _) rfl ?_
          refine Frame.comp (State.updStripe_frame _ _ _ _) rfl ?_
          refine Frame.comp (State.markBlock_frame _ _ _) rfl ?_
          refine Frame.comp (State.raise_frame _ _ _) rfl ?_
          refine Frame.comp (State.count_frame _ _) rfl ?_
          refine Frame.comp (State.count_frame _ _) rfl ?_
          refine Frame.comp (State.advanceTo_frame _ _) rfl ?_
          exact Frame.refl _
  · refine Frame.comp (State.advanceTo_frame _ _) rfl ?_
    exact Frame.refl _

theorem State.clearRecs_frame (a0 : _) (a1 : _) (a2 : _) (a3 : State) : Frame 134283294 a3 (State.clearRecs a0 a1 a2 a3) := by
  unfold State.clearRecs
  try extract_lets
  try extract_lets
  refine Frame.ite (fun _ => ?_) (fun _ => ?_)
  · try extract_lets
    try extract_lets
    refine Frame.comp (State.record_frame _ _ _) rfl ?_
    refine Frame.comp (State.raise_frame _ _ _) rfl ?_
    refine Frame.set_rcdr rfl (fun i => absurd i (by decide)) ?_
    refine Frame.set_rcdr rfl (fun i => absurd i (by decide)) ?_
    exact Frame.refl _
  · refine Frame.comp (State.record_frame _ _ _) rfl ?_
    refine Frame.comp (State.raise_frame _ _ _) rfl ?_
    refine Frame.set_rcdr rfl (fun i => absurd i (by decide)) ?_
    exact Frame.refl _

theorem State.clearIn_frame (a0 : _) (a1 : _) (a2 : State) : Frame 25908293854 a2 (State.clearIn a0 a1 a2) := by
  unfold State.clearIn
  try extract_lets
  try extract_lets
  refine Frame.comp (State.completeAdmin_frame _ _ _ _ _ _) rfl ?_
  refine Frame.comp (State.clearRecs_frame _ _ _ _) rfl ?_
  exact Frame.refl _

theorem State.updSq_frame (a0 : _) (a1 : _) (a2 : State) : Frame 128 a2 (State.updSq a0 a1 a2) := by
  unfold State.updSq
  refine Frame.set_nvq rfl (fun _ => rfl) (fun _ => rfl) ?_
  exact Frame.refl _

theorem State.fetched_frame (a0 : _) (a1 : _) (a2 : _) (a3 : State) : Frame 144 a3 (State.fetched a0 a1 a2 a3) := by
  unfold State.fetched
  try extract_lets
  refine Frame.comp (State.count_frame _ _) rfl ?_
  refine Frame.comp (State.updSq_frame _ _ _) rfl ?_
  refine Frame.comp (State.updCtrl_frame _ _ _) rfl ?_
  exact Frame.refl _

theorem State.admin_frame {m : Nat} {s a4 : State} {a0 : _} {a1 : _} {a2 : _} {a3 : _} (hact3 : ∀ x0, Frame m s x0 → Frame m s (a3 x0)) (hm : (25774076126 ||| m == m) = true) (h : Frame m s a4) :
    Frame m s (State.admin a0 a1 a2 a3 a4) := by
  unfold State.admin
  refine Frame.ite (fun _ => ?_) (fun _ => ?_)
  · assumption
  · try extract_lets
    refine Frame.ite (fun _ => ?_) (fun _ => ?_)
    · refine Frame.comp (State.completeAdmin_frame _ _ _ _ _ _) (le_mask rfl hm) ?_
      refine Frame.comp (State.fetched_frame _ _ _ _) (le_mask rfl hm) ?_
      assumption
    · refine Frame.ite (fun _ => ?_) (fun _ => ?_)
      · refine Frame.comp (State.completeAdmin_frame _ _ _ _ _ _) (le_mask rfl hm) ?_
        refine Frame.comp (State.fetched_frame _ _ _ _) (le_mask rfl hm) ?_
        assumption
      · refine hact3 _ ?_
        refine Frame.comp (State.fetched_frame _ _ _ _) (le_mask rfl hm) ?_
        assumption

theorem execRecorderClear_frame (a0 : _) (a1 : _) (a2 : _) (a3 : State) : Frame.Out 25908293855 a3 (execRecorderClear a0 a1 a2 a3) := by
  unfold execRecorderClear
  refine Frame.next ?_
  refine State.admin_frame ?_ rfl ?_
  · intro _ _
    refine Frame.comp (State.clearIn_frame _ _ _) rfl ?_
    assumption
  · refine Frame.comp (State.advanceTo_frame _ _) rfl ?_
    exact Frame.refl _

theorem State.updWrite_frame (a0 : _) (a1 : _) (a2 : State) : Frame 34359738432 a2 (State.updWrite a0 a1 a2) := by
  unfold State.updWrite
  refine Frame.set_adm rfl (fun _ => rfl) (fun _ => rfl) (fun i => absurd i (by decide)) ?_
  exact Frame.refl _

end Sys2Proof.Laws
end

