-- ==== Sys2Proof/Laws/Frame2.lean ====
section
/-!
SUPPORT. Frames of the operations, part 2 of 8: what each may touch (see Frame.lean). Each proof follows its operation's body.
-/

namespace Sys2Proof.Laws

open Sys2Proof.Machine

theorem State.missTarget_frame (a0 : _) (a1 : _) (a2 : _) (a3 : State) : Frame 81950 a3 (State.missTarget a0 a1 a2 a3) := by
  unfold State.missTarget
  first | split | (dsimp +zetaDelta -proj only; split)
  · exact Frame.refl _
  · try extract_lets
    refine Frame.ite (fun _ => ?_) (fun _ => ?_)
    · refine Frame.comp (State.record_frame _ _ _) rfl ?_
      refine Frame.comp (State.updTarget_frame _ _ _ _) rfl ?_
      exact Frame.refl _
    · refine Frame.comp (State.updTarget_frame _ _ _ _) rfl ?_
      exact Frame.refl _

theorem execSyncTargetDeadline_frame (a0 : _) (a1 : _) (a2 : _) (a3 : State) : Frame.Out 1231586161631 a3 (execSyncTargetDeadline a0 a1 a2 a3) := by
  unfold execSyncTargetDeadline
  try extract_lets
  refine Frame.next ?_
  first | split | (dsimp +zetaDelta -proj only; split)
  · refine Frame.comp (State.advanceTo_frame _ _) rfl ?_
    exact Frame.refl _
  · refine Frame.ite (fun _ => ?_) (fun _ => ?_)
    · refine Frame.comp (State.advanceTo_frame _ _) rfl ?_
      exact Frame.refl _
    · first | split | (dsimp +zetaDelta -proj only; split)
      · refine Frame.comp (State.advanceTo_frame _ _) rfl ?_
        exact Frame.refl _
      · try extract_lets
        refine Frame.comp (State.checkWrites_frame _) rfl ?_
        refine Frame.comp (State.updWrite_frame _ _ _) rfl ?_
        refine Frame.comp (State.missTarget_frame _ _ _ _) rfl ?_
        refine Frame.comp (State.updTarget_frame _ _ _ _) rfl ?_
        refine Frame.comp (State.advanceTo_frame _ _) rfl ?_
        exact Frame.refl _

theorem State.remoteRead_frame (a0 : _) (a1 : _) (a2 : _) (a3 : _) (a4 : _) (a5 : _) (a6 : State) : Frame 549760012304 a6 (State.remoteRead a0 a1 a2 a3 a4 a5 a6) := by
  unfold State.remoteRead
  refine Frame.comp (State.startOp_frame _ _ _ _ _ _ _ _) rfl ?_
  exact Frame.refl _

theorem State.takeWgen_frame (a0 : _) (a1 : _) (a2 : State) : Frame 256 a2 (State.takeWgen a0 a1 a2) := by
  unfold State.takeWgen
  refine Frame.set_path rfl (fun _ => rfl) (fun _ => rfl) (fun _ => rfl) ?_
  exact Frame.refl _

theorem State.formGrain_frame (a0 : _) (a1 : _) (a2 : _) (a3 : _) (a4 : State) : Frame 34359738688 a4 (State.formGrain a0 a1 a2 a3 a4) := by
  unfold State.formGrain
  first | split | (dsimp +zetaDelta -proj only; split)
  · exact Frame.refl _
  · first | split | (dsimp +zetaDelta -proj only; split)
    · exact Frame.refl _
    · try extract_lets
      try extract_lets
      refine Frame.comp (State.updWrite_frame _ _ _) rfl ?_
      refine Frame.ite (fun _ => ?_) (fun _ => ?_)
      · exact Frame.refl _
      · refine Frame.comp (State.takeWgen_frame _ _ _) rfl ?_
        exact Frame.refl _

theorem State.startRead_frame (a0 : _) (a1 : _) (a2 : _) (a3 : _) (a4 : _) (a5 : _) (a6 : _) (a7 : _) (a8 : State) : Frame 256 a8 (State.startRead a0 a1 a2 a3 a4 a5 a6 a7 a8) := by
  unfold State.startRead
  try extract_lets
  refine Frame.set_path rfl (fun _ => rfl) (fun _ => rfl) (fun _ => rfl) ?_
  exact Frame.refl _

theorem State.stage1_frame (a0 : _) (a1 : _) (a2 : _) (a3 : _) (a4 : State) : Frame 34359738688 a4 (State.stage1 a0 a1 a2 a3 a4) := by
  unfold State.stage1
  refine Frame.ite (fun _ => ?_) (fun _ => ?_)
  · refine Frame.comp (State.formGrain_frame _ _ _ _ _) rfl ?_
    exact Frame.refl _
  · try extract_lets
    try extract_lets
    try extract_lets
    try extract_lets
    first | split | (dsimp +zetaDelta -proj only; split)
    · refine Frame.ite (fun _ => ?_) (fun _ => ?_)
      · refine Frame.comp (State.startRead_frame _ _ _ _ _ _ _ _ _) rfl ?_
        refine Frame.comp (State.updWrite_frame _ _ _) rfl ?_
        exact Frame.refl _
      · refine Frame.comp (State.formGrain_frame _ _ _ _ _) rfl ?_
        exact Frame.refl _
    · refine Frame.comp (State.formGrain_frame _ _ _ _ _) rfl ?_
      exact Frame.refl _

theorem State.accept_frame (a0 : _) (a1 : _) (a2 : _) (a3 : State) : Frame 34359738704 a3 (State.accept a0 a1 a2 a3) := by
  unfold State.accept
  first | split | (dsimp +zetaDelta -proj only; split)
  · exact Frame.refl _
  · first | split | (dsimp +zetaDelta -proj only; split)
    · try extract_lets
      try extract_lets
      refine Frame.foldl (fun _ _ _ => ?_) ?_
      · refine Frame.comp (State.stage1_frame _ _ _ _ _) rfl ?_
        assumption
      · refine Frame.comp (State.countN_frame _ _ _) rfl ?_
        refine Frame.comp (State.updWrite_frame _ _ _) rfl ?_
        exact Frame.refl _

theorem State.startWrite_frame (a0 : _) (a1 : _) (a2 : State) : Frame 1781341975518 a2 (State.startWrite a0 a1 a2) := by
  unfold State.startWrite
  first | split | (dsimp +zetaDelta -proj only; split)
  · exact Frame.refl _
  · refine Frame.ite (fun _ => ?_) (fun _ => ?_)
    · refine Frame.comp (State.checkWrites_frame _) rfl ?_
      refine Frame.comp (State.accept_frame _ _ _ _) rfl ?_
      exact Frame.refl _
    · refine Frame.ite (fun _ => ?_) (fun _ => ?_)
      · refine Frame.comp (State.accept_frame _ _ _ _) rfl ?_
        exact Frame.refl _
      · try extract_lets
        try extract_lets
        refine Frame.ite (fun _ => ?_) (fun _ => ?_)
        · refine Frame.comp (State.remoteRead_frame _ _ _ _ _ _ _) rfl ?_
          refine Frame.ite (fun _ => ?_) (fun _ => ?_)
          · exact Frame.refl _
          · refine Frame.comp (State.remoteRead_frame _ _ _ _ _ _ _) rfl ?_
            exact Frame.refl _
        · refine Frame.ite (fun _ => ?_) (fun _ => ?_)
          · exact Frame.refl _
          · refine Frame.comp (State.remoteRead_frame _ _ _ _ _ _ _) rfl ?_
            exact Frame.refl _

theorem State.dropRcmd_frame (a0 : _) (a1 : _) (a2 : _) (a3 : State) : Frame 320 a3 (State.dropRcmd a0 a1 a2 a3) := by
  unfold State.dropRcmd
  try extract_lets
  try extract_lets
  refine Frame.set_adm_path rfl rfl (fun _ => rfl) (fun _ => rfl) (fun _ => rfl) (fun _ => rfl) (fun _ => rfl) (fun _ => rfl) ?_
  exact Frame.refl _

theorem State.endRcmd_frame (a0 : _) (a1 : _) (a2 : _) (a3 : State) : Frame 26847818206 a3 (State.endRcmd a0 a1 a2 a3) := by
  unfold State.endRcmd
  try extract_lets
  try extract_lets
  try extract_lets
  refine Frame.comp (State.complete_frame _ _ _ _ _ _ _ _) rfl ?_
  refine Frame.ite (fun _ => ?_) (fun _ => ?_)
  · refine Frame.comp (State.countN_frame _ _ _) rfl ?_
    refine Frame.ite (fun _ => ?_) (fun _ => ?_)
    · refine Frame.set_nvq rfl (fun i => absurd i (by decide)) (fun _ => rfl) ?_
      refine Frame.comp (State.dropRcmd_frame _ _ _ _) rfl ?_
      exact Frame.refl _
    · refine Frame.comp (State.dropRcmd_frame _ _ _ _) rfl ?_
      exact Frame.refl _
  · refine Frame.ite (fun _ => ?_) (fun _ => ?_)
    · refine Frame.set_nvq rfl (fun i => absurd i (by decide)) (fun _ => rfl) ?_
      refine Frame.comp (State.dropRcmd_frame _ _ _ _) rfl ?_
      exact Frame.refl _
    · refine Frame.comp (State.dropRcmd_frame _ _ _ _) rfl ?_
      exact Frame.refl _

theorem State.updRcmd_frame (a0 : _) (a1 : _) (a2 : _) (a3 : _) (a4 : State) : Frame 256 a4 (State.updRcmd a0 a1 a2 a3 a4) := by
  unfold State.updRcmd
  refine Frame.set_path rfl (fun _ => rfl) (fun _ => rfl) (fun _ => rfl) ?_
  exact Frame.refl _

theorem State.finishRead_frame (a0 : _) (a1 : State) : Frame 576603632094 a1 (State.finishRead a0 a1) := by
  unfold State.finishRead
  try extract_lets
  refine Frame.ite (fun _ => ?_) (fun _ => ?_)
  · exact Frame.refl _
  · refine Frame.ite (fun _ => ?_) (fun _ => ?_)
    · refine Frame.comp (State.endRcmd_frame _ _ _ _) rfl ?_
      exact Frame.refl _
    · refine Frame.ite (fun _ => ?_) (fun _ => ?_)
      · refine Frame.comp (State.endRcmd_frame _ _ _ _) rfl ?_
        exact Frame.refl _
      · try extract_lets
        first | split | (dsimp +zetaDelta -proj only; split)
        · refine Frame.ite (fun _ => ?_) (fun _ => ?_)
          · refine Frame.comp (State.endRcmd_frame _ _ _ _) rfl ?_
            exact Frame.refl _
          · refine Frame.comp (State.endRcmd_frame _ _ _ _) rfl ?_
            exact Frame.refl _
        · try extract_lets
          try extract_lets
          refine Frame.comp (State.toHost_frame _ _ _ _ _ _ _) rfl ?_
          refine Frame.ite (fun _ => ?_) (fun _ => ?_)
          · refine Frame.comp (State.toHost_frame _ _ _ _ _ _ _) rfl ?_
            refine Frame.comp (State.updRcmd_frame _ _ _ _ _) rfl ?_
            exact Frame.refl _
          · refine Frame.comp (State.updRcmd_frame _ _ _ _ _) rfl ?_
            exact Frame.refl _

theorem State.giveGrain_frame (a0 : _) (a1 : _) (a2 : _) (a3 : _) (a4 : _) (a5 : _) (a6 : _) (a7 : State) : Frame 576603632094 a7 (State.giveGrain a0 a1 a2 a3 a4 a5 a6 a7) := by
  unfold State.giveGrain
  try extract_lets
  first | split | (dsimp +zetaDelta -proj only; split)
  · refine Frame.ite (fun _ => ?_) (fun _ => ?_)
    · refine Frame.comp (State.finishRead_frame _ _) rfl ?_
      refine Frame.comp (State.updRcmd_frame _ _ _ _ _) rfl ?_
      exact Frame.refl _
    · refine Frame.comp (State.updRcmd_frame _ _ _ _ _) rfl ?_
      exact Frame.refl _
  · refine Frame.comp (State.updRcmd_frame _ _ _ _ _) rfl ?_
    exact Frame.refl _

theorem State.updRead_frame (a0 : _) (a1 : _) (a2 : State) : Frame 256 a2 (State.updRead a0 a1 a2) := by
  unfold State.updRead
  refine Frame.set_path rfl (fun _ => rfl) (fun _ => rfl) (fun _ => rfl) ?_
  exact Frame.refl _

theorem State.dropRead_frame (a0 : _) (a1 : State) : Frame 320 a1 (State.dropRead a0 a1) := by
  unfold State.dropRead
  refine Frame.set_adm_path rfl rfl (fun _ => rfl) (fun _ => rfl) (fun _ => rfl) (fun _ => rfl) (fun _ => rfl) (fun _ => rfl) ?_
  exact Frame.refl _

theorem State.failMerge_frame (a0 : _) (a1 : State) : Frame 1231586161630 a1 (State.failMerge a0 a1) := by
  unfold State.failMerge
  refine Frame.comp (State.checkWrites_frame _) rfl ?_
  refine Frame.comp (State.updWrite_frame _ _ _) rfl ?_
  exact Frame.refl _

theorem State.unrecovered_frame (a0 : _) (a1 : State) : Frame 1231586161630 a1 (State.unrecovered a0 a1) := by
  unfold State.unrecovered
  try extract_lets
  refine Frame.ite (fun _ => ?_) (fun _ => ?_)
  · refine Frame.comp (State.failMerge_frame _ _) rfl ?_
    refine Frame.comp (State.record_frame _ _ _) rfl ?_
    refine Frame.comp (State.dropRead_frame _ _) rfl ?_
    exact Frame.refl _
  · first | split | (dsimp +zetaDelta -proj only; split)
    · refine Frame.comp (State.endRcmd_frame _ _ _ _) rfl ?_
      refine Frame.comp (State.record_frame _ _ _) rfl ?_
      refine Frame.comp (State.dropRead_frame _ _) rfl ?_
      exact Frame.refl _
    · refine Frame.comp (State.record_frame _ _ _) rfl ?_
      refine Frame.comp (State.dropRead_frame _ _) rfl ?_
      exact Frame.refl _

theorem State.readFail_frame (a0 : _) (a1 : _) (a2 : State) : Frame 1231955260383 a2 (State.readFail a0 a1 a2) := by
  unfold State.readFail
  first | split | (dsimp +zetaDelta -proj only; split)
  · exact Frame.refl _
  · try extract_lets
    refine Frame.ite (fun _ => ?_) (fun _ => ?_)
    · refine Frame.comp (State.updRead_frame _ _ _) rfl ?_
      refine Frame.comp (State.updRead_frame _ _ _) rfl ?_
      exact Frame.refl _
    · refine Frame.ite (fun _ => ?_) (fun _ => ?_)
      · refine Frame.comp (State.emit_frame _ _) rfl ?_
        refine Frame.comp (State.dropRead_frame _ _) rfl ?_
        refine Frame.comp (State.updRead_frame _ _ _) rfl ?_
        exact Frame.refl _
      · refine Frame.ite (fun _ => ?_) (fun _ => ?_)
        · refine Frame.comp (State.emit_frame _ _) rfl ?_
          refine Frame.comp (State.updRead_frame _ _ _) rfl ?_
          refine Frame.comp (State.updRead_frame _ _ _) rfl ?_
          exact Frame.refl _
        · try extract_lets
          refine Frame.comp (State.unrecovered_frame _ _) rfl ?_
          refine Frame.ite (fun _ => ?_) (fun _ => ?_)
          · refine Frame.comp (State.enterPreservation_frame _ _) rfl ?_
            refine Frame.comp (State.updRead_frame _ _ _) rfl ?_
            exact Frame.refl _
          · refine Frame.comp (State.updRead_frame _ _ _) rfl ?_
            exact Frame.refl _

theorem State.readGrain_frame (a0 : _) (a1 : _) (a2 : State) : Frame 1781711074271 a2 (State.readGrain a0 a1 a2) := by
  unfold State.readGrain
  try extract_lets
  try extract_lets
  try extract_lets
  try extract_lets
  refine Frame.ite (fun _ => ?_) (fun _ => ?_)
  · try extract_lets
    refine Frame.comp (State.readFail_frame _ _ _) rfl ?_
    refine Frame.comp (State.updRead_frame _ _ _) rfl ?_
    refine Frame.comp (State.startRead_frame _ _ _ _ _ _ _ _ _) rfl ?_
    exact Frame.refl _
  · first | split | (dsimp +zetaDelta -proj only; split)
    · refine Frame.comp (State.giveGrain_frame _ _ _ _ _ _ _ _) rfl ?_
      exact Frame.refl _
    · refine Frame.ite (fun _ => ?_) (fun _ => ?_)
      · refine Frame.comp (State.startRead_frame _ _ _ _ _ _ _ _ _) rfl ?_
        exact Frame.refl _
      · try extract_lets
        refine Frame.comp (State.giveGrain_frame _ _ _ _ _ _ _ _) rfl ?_
        exact Frame.refl _

theorem State.startRcmd_frame (a0 : _) (a1 : _) (a2 : State) : Frame 1781711074271 a2 (State.startRcmd a0 a1 a2) := by
  unfold State.startRcmd
  try extract_lets
  try extract_lets
  try extract_lets
  try extract_lets
  refine Frame.foldl (fun _ _ _ => ?_) ?_
  · refine Frame.comp (State.readGrain_frame _ _ _) rfl ?_
    assumption
  · refine Frame.ite (fun _ => ?_) (fun _ => ?_)
    · refine Frame.comp (State.remoteRead_frame _ _ _ _ _ _ _) rfl ?_
      refine Frame.set_adm_path rfl rfl (fun i => absurd i (by decide)) (fun i => absurd i (by decide)) (fun i => absurd i (by decide)) (fun i => absurd i (by decide)) (fun _ => rfl) (fun _ => rfl) ?_
      exact Frame.refl _
    · refine Frame.set_adm_path rfl rfl (fun i => absurd i (by decide)) (fun i => absurd i (by decide)) (fun i => absurd i (by decide)) (fun i => absurd i (by decide)) (fun _ => rfl) (fun _ => rfl) ?_
      exact Frame.refl _

theorem State.noteUse_frame (a0 : _) (a1 : _) (a2 : State) : Frame 32 a2 (State.noteUse a0 a1 a2) := by
  unfold State.noteUse
  refine Frame.set_faults rfl (fun _ => rfl) ?_
  exact Frame.refl _

theorem State.wakeIsland_frame (a0 : _) (a1 : _) (a2 : State) : Frame 32 a2 (State.wakeIsland a0 a1 a2) := by
  unfold State.wakeIsland
  refine Frame.ite (fun _ => ?_) (fun _ => ?_)
  · exact Frame.refl _
  · refine Frame.set_faults rfl (fun _ => rfl) ?_
    exact Frame.refl _

theorem State.useIsland_frame (a0 : _) (a1 : _) (a2 : State) : Frame 32 a2 (State.useIsland a0 a1 a2) := by
  unfold State.useIsland
  refine Frame.ite (fun _ => ?_) (fun _ => ?_)
  · exact Frame.refl _
  · refine Frame.comp (State.noteUse_frame _ _ _) rfl ?_
    refine Frame.comp (State.wakeIsland_frame _ _ _) rfl ?_
    exact Frame.refl _

theorem State.useRes_frame (a0 : _) (a1 : State) : Frame 32 a1 (State.useRes a0 a1) := by
  unfold State.useRes
  first | split | (dsimp +zetaDelta -proj only; split)
  · refine Frame.comp (State.useIsland_frame _ _ _) rfl ?_
    exact Frame.refl _
  · exact Frame.refl _

theorem State.wakeDue_frame (a0 : State) : Frame 32 a0 (State.wakeDue a0) := by
  unfold State.wakeDue
  refine Frame.foldl (fun _ _ _ => ?_) ?_
  · refine Frame.comp (State.useRes_frame _ _) rfl ?_
    assumption
  · exact Frame.refl _

theorem State.suspendFor_frame (a0 : _) (a1 : State) : Frame 66590 a1 (State.suspendFor a0 a1) := by
  unfold State.suspendFor
  try extract_lets
  try extract_lets
  refine Frame.foldl (fun _ _ _ => ?_) ?_
  · refine Frame.comp (State.record_frame _ _ _) rfl ?_
    refine Frame.comp (State.raise_frame _ _ _) rfl ?_
    assumption
  · refine Frame.set_flash rfl ?_
    exact Frame.refl _

theorem State.suspendErases_frame (a0 : _) (a1 : State) : Frame 66590 a1 (State.suspendErases a0 a1) := by
  unfold State.suspendErases
  refine Frame.comp (State.suspendFor_frame _ _) rfl ?_
  exact Frame.refl _

theorem State.spaceHold_frame (a0 : _) (a1 : State) : Frame 65566 a1 (State.spaceHold a0 a1).2 := by
  unfold State.spaceHold
  first | split | (dsimp +zetaDelta -proj only; split)
  · exact Frame.refl _
  · try extract_lets
    first | split | (dsimp +zetaDelta -proj only; split)
    · refine Frame.comp (State.raise_frame _ _ _) rfl ?_
      refine Frame.comp (State.recordOnce_frame _ _ _ _) rfl ?_
      exact Frame.refl _
    · exact Frame.refl _

theorem State.updResv_frame (a0 : _) (a1 : _) (a2 : State) : Frame 8589934656 a2 (State.updResv a0 a1 a2) := by
  unfold State.updResv
  refine Frame.set_adm rfl (fun i => absurd i (by decide)) (fun _ => rfl) (fun _ => rfl) ?_
  exact Frame.refl _

theorem State.beRefill_frame (a0 : State) : Frame 64 a0 (State.beRefill a0) := by
  unfold State.beRefill
  refine Frame.ite (fun _ => ?_) (fun _ => ?_)
  · exact Frame.refl _
  · refine Frame.set_adm rfl (fun _ => rfl) (fun _ => rfl) (fun _ => rfl) ?_
    exact Frame.refl _

theorem State.admitWrite_frame (h : Held) (s : State) : Frame 42949739902 s (State.admitWrite h s).2 := by
  unfold State.admitWrite
  extract_lets g now s0 r excess credit firm slot pulls data
  have h0 : Frame 42949739902 s s0 := by
    show Frame 42949739902 s (match h.resv with | some i => _ | none => _)
    split
    · exact Frame.comp (State.updResv_frame _ _ _) rfl (Frame.refl _)
    · exact Frame.comp (State.beRefill_frame _) rfl (Frame.refl _)
  split
  · exact h0
  · split
    · exact h0
    · split
      · exact h0
      · have hs : Frame 42949739902 s (State.spaceHold h s0).2 := Frame.comp (State.spaceHold_frame _ _) rfl h0
        generalize hp : State.spaceHold h s0 = p at hs ⊢
        obtain ⟨full, s1⟩ := p
        dsimp only at hs ⊢
        split
        · exact hs
        · split
          · exact hs
          · refine Frame.comp (State.wakeDue_frame _) rfl (Frame.comp (State.suspendErases_frame _ _) rfl ?_)
            have h2 := @Frame.set_adm_path 42949739902 s s1
            split
            · refine Frame.comp (State.countN_frame _ _ _) rfl (Frame.comp (State.count_frame _ _) rfl
                (Frame.comp (State.countN_frame _ _ _) rfl (Frame.comp (State.updResv_frame _ _ _) rfl ?_)))
              exact Frame.set_adm_path rfl rfl (fun i => absurd i (by decide)) (fun _ => rfl) (fun i => absurd i (by decide)) (fun _ => rfl) (fun _ => rfl) (fun _ => rfl) hs
            · exact Frame.set_adm_path rfl rfl (fun i => absurd i (by decide)) (fun _ => rfl) (fun i => absurd i (by decide)) (fun _ => rfl) (fun _ => rfl) (fun _ => rfl) hs

theorem State.attempt_frame (h : Held) (s : State) : Frame 1781711075327 s (State.attempt h s).2 := by
  unfold State.attempt
  split
  · extract_lets
    have hs : Frame 1781711075327 s (State.admitWrite h s).2 := Frame.comp (State.admitWrite_frame _ _) rfl (Frame.refl _)
    generalize State.admitWrite h s = p at hs ⊢
    obtain ⟨k, s1⟩ := p
    cases k
    · exact Frame.comp (State.startWrite_frame _ _ _) rfl hs
    · exact hs
    · exact hs
  · extract_lets s0
    have h0 : Frame 1781711075327 s s0 := Frame.comp (State.beRefill_frame _) rfl (Frame.refl _)
    clear_value s0
    split
    · exact h0
    · split
      · exact h0
      · exact Frame.comp (State.startRcmd_frame _ _ _) rfl h0

theorem State.retryOne_frame (a : List Nat × State) (h : Held) : Frame 1781711075327 a.2 (State.retryOne a h).2 := by
  obtain ⟨stuck, s⟩ := a
  unfold State.retryOne
  dsimp only
  repeat' split
  all_goals first
    | exact Frame.refl _
    | exact Frame.set_adm rfl (fun i => absurd i (by decide)) (fun i => absurd i (by decide)) (fun i => absurd i (by decide)) (Frame.snd (State.attempt_frame _ _) (by assumption))

theorem State.setStream_frame (a0 : _) (a1 : _) (a2 : State) : Frame 256 a2 (State.setStream a0 a1 a2) := by
  unfold State.setStream
  first | split | (dsimp +zetaDelta -proj only; split)
  · refine Frame.set_path rfl (fun _ => rfl) (fun _ => rfl) (fun _ => rfl) ?_
    exact Frame.refl _
  · refine Frame.set_path rfl (fun _ => rfl) (fun _ => rfl) (fun _ => rfl) ?_
    exact Frame.refl _

theorem State.touchStripe_frame (a0 : _) (a1 : _) (a2 : _) (a3 : _) (a4 : _) (a5 : _) (a6 : State) : Frame 2199023255808 a6 (State.touchStripe a0 a1 a2 a3 a4 a5 a6) := by
  unfold State.touchStripe
  first | split | (dsimp +zetaDelta -proj only; split)
  · refine Frame.comp (State.updStripe_frame _ _ _ _) rfl ?_
    exact Frame.refl _
  · try extract_lets
    refine Frame.set_path rfl (fun _ => rfl) (fun i => absurd i (by decide)) (fun _ => rfl) ?_
    exact Frame.refl _

theorem State.tookBlocks_frame (a0 : _) (a1 : State) : Frame 65566 a1 (State.tookBlocks a0 a1) := by
  unfold State.tookBlocks
  try extract_lets
  refine Frame.foldl (fun _ _ _ => ?_) ?_
  · try extract_lets
    try extract_lets
    try extract_lets
    refine Frame.ite (fun _ => ?_) (fun _ => ?_)
    · refine Frame.comp (State.raise_frame _ _ _) rfl ?_
      refine Frame.comp (State.record_frame _ _ _) rfl ?_
      refine Frame.ite (fun _ => ?_) (fun _ => ?_)
      · refine Frame.comp (State.raise_frame _ _ _) rfl ?_
        refine Frame.comp (State.record_frame _ _ _) rfl ?_
        assumption
      · assumption
    · refine Frame.ite (fun _ => ?_) (fun _ => ?_)
      · refine Frame.comp (State.raise_frame _ _ _) rfl ?_
        refine Frame.comp (State.record_frame _ _ _) rfl ?_
        assumption
      · assumption
  · exact Frame.refl _

theorem State.openBand_frame (a0 : _) (a1 : State) : Frame 66846 a1 (State.openBand a0 a1) := by
  unfold State.openBand
  try extract_lets
  try extract_lets
  try extract_lets
  try extract_lets
  refine Frame.comp (State.tookBlocks_frame _ _) rfl ?_
  refine Frame.comp (State.fillBand_frame _ _) rfl ?_
  first | split | (dsimp +zetaDelta -proj only; split)
  · refine Frame.set_path rfl (fun _ => rfl) (fun _ => rfl) (fun _ => rfl) ?_
    refine Frame.set_path_flash rfl rfl (fun _ => rfl) (fun _ => rfl) (fun _ => rfl) ?_
    exact Frame.refl _
  · refine Frame.set_path rfl (fun _ => rfl) (fun _ => rfl) (fun _ => rfl) ?_
    refine Frame.set_path_flash rfl rfl (fun _ => rfl) (fun _ => rfl) (fun _ => rfl) ?_
    exact Frame.refl _

theorem State.closeStripe_frame (a0 : _) (a1 : State) : Frame 6597069766912 a1 (State.closeStripe a0 a1) := by
  unfold State.closeStripe
  try extract_lets
  first | split | (dsimp +zetaDelta -proj only; split)
  · exact Frame.refl _
  · refine Frame.ite (fun _ => ?_) (fun _ => ?_)
    · exact Frame.refl _
    · try extract_lets
      try extract_lets
      try extract_lets
      try extract_lets
      refine Frame.comp (State.setStream_frame _ _ _) rfl ?_
      refine Frame.comp (State.touchStripe_frame _ _ _ _ _ _ _) rfl ?_
      refine Frame.ite (fun _ => ?_) (fun _ => ?_)
      · refine Frame.set_path rfl (fun _ => rfl) (fun i => absurd i (by decide)) (fun i => absurd i (by decide)) ?_
        exact Frame.refl _
      · exact Frame.refl _

theorem State.roomFor_frame (a0 : _) (a1 : _) (a2 : State) : Frame 6597069833502 a2 (State.roomFor a0 a1 a2) := by
  unfold State.roomFor
  refine Frame.ite (fun _ => ?_) (fun _ => ?_)
  · exact Frame.refl _
  · try extract_lets
    try extract_lets
    try extract_lets
    refine Frame.comp (State.openBand_frame _ _) rfl ?_
    refine Frame.set_path rfl (fun _ => rfl) (fun i => absurd i (by decide)) (fun i => absurd i (by decide)) ?_
    refine Frame.comp (State.closeStripe_frame _ _) rfl ?_
    exact Frame.refl _

theorem State.appendRecord_frame (a0 : _) (a1 : _) (a2 : _) (a3 : _) (a4 : State) : Frame 6597069833502 a4 (State.appendRecord a0 a1 a2 a3 a4).1 := by
  unfold State.appendRecord
  try extract_lets
  try extract_lets
  try extract_lets
  first | split | (dsimp +zetaDelta -proj only; split)
  · refine Frame.comp (State.roomFor_frame _ _ _) rfl ?_
    exact Frame.refl _
  · try extract_lets
    try extract_lets
    try extract_lets
    try extract_lets
    try extract_lets
    try extract_lets
    try extract_lets
    refine Frame.comp (State.setStream_frame _ _ _) rfl ?_
    refine Frame.foldl (fun _ _ _ => ?_) ?_
    · refine Frame.comp (State.touchStripe_frame _ _ _ _ _ _ _) rfl ?_
      assumption
    · refine Frame.set_path rfl (fun _ => rfl) (fun i => absurd i (by decide)) (fun i => absurd i (by decide)) ?_
      refine Frame.comp (State.roomFor_frame _ _ _) rfl ?_
      exact Frame.refl _

theorem State.placeRewrite_frame (a0 : _) (a1 : State) : Frame 6597069833566 a1 (State.placeRewrite a0 a1) := by
  unfold State.placeRewrite
  try extract_lets
  try extract_lets
  first | split | (dsimp +zetaDelta -proj only; split)
  · first | split | (dsimp +zetaDelta -proj only; split)
    · try extract_lets
      first | split | (dsimp +zetaDelta -proj only; split)
      · refine Frame.set_path rfl (fun _ => rfl) (fun i => absurd i (by decide)) (fun i => absurd i (by decide)) ?_
        refine Frame.fst ?_ (by assumption)
        refine Frame.comp (State.appendRecord_frame _ _ _ _ _) rfl ?_
        refine Frame.set_adm rfl (fun _ => rfl) (fun _ => rfl) (fun _ => rfl) ?_
        exact Frame.refl _
    · exact Frame.refl _

theorem State.placeRewrites_frame (a0 : State) : Frame 6597069833566 a0 (State.placeRewrites a0) := by
  unfold State.placeRewrites
  refine Frame.foldl (fun _ _ _ => ?_) ?_
  · refine Frame.comp (State.placeRewrite_frame _ _) rfl ?_
    assumption
  · exact Frame.refl _

theorem State.bookWaiting_frame (a0 : State) : Frame 64 a0 (State.bookWaiting a0) := by
  unfold State.bookWaiting
  try extract_lets
  try extract_lets
  refine Frame.set_adm rfl (fun _ => rfl) (fun _ => rfl) (fun _ => rfl) ?_
  exact Frame.refl _

theorem State.suspendDue_frame (a0 : State) : Frame 66590 a0 (State.suspendDue a0) := by
  unfold State.suspendDue
  refine Frame.comp (State.suspendFor_frame _ _) rfl ?_
  exact Frame.refl _

theorem State.testMoves_frame (a0 : State) : Frame 1073741952 a0 (State.testMoves a0) := by
  unfold State.testMoves
  exact Frame.set_nvq rfl (fun h => absurd h (by decide)) (fun _ => rfl) (Frame.refl _)

theorem State.slotBegins_frame (a0 : State) : Frame 7966095013886 a0 (State.slotBegins a0) := by
  unfold State.slotBegins
  refine Frame.comp (State.testMoves_frame _) rfl ?_
  refine Frame.comp (State.afterSeal_frame _) rfl ?_
  refine Frame.comp (State.placeRewrites_frame _) rfl ?_
  refine Frame.comp (State.wakeDue_frame _) rfl ?_
  refine Frame.comp (State.suspendDue_frame _) rfl ?_
  refine Frame.comp (State.bookWaiting_frame _) rfl ?_
  exact Frame.refl _

theorem execHoldRetry_frame (t : Nat) (s : State) : Frame.Out 8516219926527 s (execHoldRetry t s) := by
  unfold execHoldRetry
  have h1 : Frame 8516219926527 s (State.advanceTo t s) := Frame.comp (State.advanceTo_frame _ _) rfl (Frame.refl _)
  refine Frame.next (Frame.ite (fun _ => h1) (fun _ => ?_))
  have h2 : Frame 8516219926527 s (State.advanceTo t s).slotBegins := Frame.comp (State.slotBegins_frame _) rfl h1
  generalize (State.advanceTo t s).slotBegins = y at h2 ⊢
  dsimp only
  exact Frame.foldlSnd (fun x y h => Frame.comp (State.retryOne_frame x y) rfl h) h2

theorem State.resyncDone_frame (a0 : State) : Frame 65566 a0 (State.resyncDone a0) := by
  unfold State.resyncDone
  first | split | (dsimp +zetaDelta -proj only; split)
  · refine Frame.comp (State.record_frame _ _ _) rfl ?_
    exact Frame.refl _
  · exact Frame.refl _

theorem State.updOwner_frame (a0 : _) (a1 : _) (a2 : State) : Frame 32768 a2 (State.updOwner a0 a1 a2) := by
  unfold State.updOwner
  refine Frame.set_mem rfl ?_ ?_
  · exact id
  exact Frame.refl _

theorem State.sweepOwner_frame (a0 : _) (a1 : State) : Frame 98334 a1 (State.sweepOwner a0 a1) := by
  unfold State.sweepOwner
  try extract_lets
  try extract_lets
  try extract_lets
  try extract_lets
  refine Frame.ite (fun _ => ?_) (fun _ => ?_)
  · try extract_lets
    refine Frame.ite (fun _ => ?_) (fun _ => ?_)
    · refine Frame.comp (State.raise_frame _ _ _) rfl ?_
      refine Frame.comp (State.updOwner_frame _ _ _) rfl ?_
      exact Frame.refl _
    · refine Frame.comp (State.record_frame _ _ _) rfl ?_
      refine Frame.comp (State.raise_frame _ _ _) rfl ?_
      refine Frame.comp (State.updOwner_frame _ _ _) rfl ?_
      exact Frame.refl _
  · refine Frame.comp (State.updOwner_frame _ _ _) rfl ?_
    exact Frame.refl _

theorem State.restoreStrip_frame (a0 : _) (a1 : _) (a2 : _) (a3 : _) (a4 : State) : Frame 2199023256848 a4 (State.restoreStrip a0 a1 a2 a3 a4) := by
  unfold State.restoreStrip
  first | split | (dsimp +zetaDelta -proj only; split)
  · exact Frame.refl _
  · try extract_lets
    try extract_lets
    try extract_lets
    refine Frame.comp (State.count_frame _ _) rfl ?_
    refine Frame.comp (State.count_frame _ _) rfl ?_
    refine Frame.comp (State.updStripe_frame _ _ _ _) rfl ?_
    refine Frame.comp (State.fillBand_frame _ _) rfl ?_
    refine Frame.set_path_flash rfl rfl (fun _ => rfl) (fun i => absurd i (by decide)) (fun _ => rfl) ?_
    exact Frame.refl _

theorem State.fetchStripe_frame (a0 : _) (a1 : _) (a2 : State) : Frame 4194560 a2 (State.fetchStripe a0 a1 a2) := by
  unfold State.fetchStripe
  try extract_lets
  refine Frame.foldl (fun _ _ _ => ?_) ?_
  · try extract_lets
    try extract_lets
    try extract_lets
    try extract_lets
    try extract_lets
    try extract_lets
    refine Frame.comp (State.emit_frame _ _) rfl ?_
    refine Frame.comp (State.updRead_frame _ _ _) rfl ?_
    refine Frame.comp (State.startRead_frame _ _ _ _ _ _ _ _ _) rfl ?_
    assumption
  · exact Frame.refl _

theorem State.bookNextStrip_frame (a0 : _) (a1 : State) : Frame 64 a1 (State.bookNextStrip a0 a1) := by
  unfold State.bookNextStrip
  first | split | (dsimp +zetaDelta -proj only; split)
  · first | split | (dsimp +zetaDelta -proj only; split)
    · refine Frame.foldl (fun _ _ _ => ?_) ?_
      · refine Frame.comp (State.bookWork_frame _ _ _ _ _) rfl ?_
        assumption
      · exact Frame.refl _
    · exact Frame.refl _
  · exact Frame.refl _

theorem State.settleRebuild_frame (a0 : State) : Frame 67614 a0 (State.settleRebuild a0) := by
  unfold State.settleRebuild
  first | split | (dsimp +zetaDelta -proj only; split)
  · refine Frame.comp (State.endRebuild_frame _) rfl ?_
    refine Frame.set_strp rfl ?_
    exact Frame.refl _
  · exact Frame.refl _

theorem execRebuildStripDone_frame (a0 : _) (a1 : _) (a2 : _) (a3 : _) (a4 : _) (a5 : State) : Frame.Out 3430978502623 a5 (execRebuildStripDone a0 a1 a2 a3 a4 a5) := by
  unfold execRebuildStripDone
  try extract_lets
  refine Frame.next ?_
  first | split | (dsimp +zetaDelta -proj only; split)
  · refine Frame.ite (fun _ => ?_) (fun _ => ?_)
    · refine Frame.comp (State.advanceTo_frame _ _) rfl ?_
      exact Frame.refl _
    · refine Frame.ite (fun _ => ?_) (fun _ => ?_)
      · refine Frame.comp (State.bookNextStrip_frame _ _) rfl ?_
        refine Frame.comp (State.settleRebuild_frame _) rfl ?_
        refine Frame.comp (State.restoreStrip_frame _ _ _ _ _) rfl ?_
        refine Frame.comp (State.advanceTo_frame _ _) rfl ?_
        exact Frame.refl _
      · try extract_lets
        try extract_lets
        refine Frame.comp (State.bookNextStrip_frame _ _) rfl ?_
        refine Frame.comp (State.settleRebuild_frame _) rfl ?_
        refine Frame.ite (fun _ => ?_) (fun _ => ?_)
        · refine Frame.comp (State.fetchStripe_frame _ _ _) rfl ?_
          refine Frame.comp (State.record_frame _ _ _) rfl ?_
          refine Frame.comp (State.raise_frame _ _ _) rfl ?_
          refine Frame.set_strp rfl ?_
          refine Frame.comp (State.advanceTo_frame _ _) rfl ?_
          exact Frame.refl _
        · refine Frame.comp (State.lossTest_frame _) rfl ?_
          refine Frame.comp (State.raise_frame _ _ _) rfl ?_
          refine Frame.set_strp rfl ?_
          refine Frame.comp (State.advanceTo_frame _ _) rfl ?_
          exact Frame.refl _
  · refine Frame.comp (State.advanceTo_frame _ _) rfl ?_
    exact Frame.refl _

theorem State.ldgStore_frame (p : LdgProg) (s : State) : Frame 262144 s (State.ldgStore p s) :=
  Frame.set_ldg rfl writeBytes_wf (Frame.refl s)

theorem State.deassertLine_frame (a0 : _) (a1 : State) : Frame 65536 a1 (State.deassertLine a0 a1) := by
  unfold State.deassertLine
  refine Frame.set_dma rfl (fun _ => rfl) ?_
  exact Frame.refl _

theorem State.tailRoom_frame (a0 : State) : Frame 65566 a0 (State.tailRoom a0) := by
  unfold State.tailRoom
  try extract_lets
  refine Frame.ite (fun _ => ?_) (fun _ => ?_)
  · refine Frame.comp (State.deassertLine_frame _ _) rfl ?_
    refine Frame.ite (fun _ => ?_) (fun _ => ?_)
    · refine Frame.comp (State.record_frame _ _ _) rfl ?_
      refine Frame.set_rcdr rfl (fun _ => rfl) ?_
      exact Frame.refl _
    · exact Frame.refl _
  · refine Frame.ite (fun _ => ?_) (fun _ => ?_)
    · refine Frame.comp (State.record_frame _ _ _) rfl ?_
      refine Frame.set_rcdr rfl (fun _ => rfl) ?_
      exact Frame.refl _
    · exact Frame.refl _

theorem State.keepAhead_frame (a0 : State) : Frame 138739742 a0 (State.keepAhead a0) := by
  unfold State.keepAhead
  refine Frame.ite (fun _ => ?_) (fun _ => ?_)
  · exact Frame.refl _
  · try extract_lets
    try extract_lets
    try extract_lets
    refine Frame.comp (State.queueLedger_frame _ _) rfl ?_
    exact Frame.refl _

theorem State.ringProgrammed_frame (a0 : _) (a1 : _) (a2 : _) (a3 : State) : Frame 138739742 a3 (State.ringProgrammed a0 a1 a2 a3) := by
  unfold State.ringProgrammed
  try extract_lets
  try extract_lets
  try extract_lets
  try extract_lets
  refine Frame.comp (State.tailRoom_frame _) rfl ?_
  refine Frame.ite (fun _ => ?_) (fun _ => ?_)
  · refine Frame.comp (State.keepAhead_frame _) rfl ?_
    refine Frame.set_rcdr rfl (fun i => absurd i (by decide)) ?_
    exact Frame.refl _
  · refine Frame.set_rcdr rfl (fun i => absurd i (by decide)) ?_
    exact Frame.refl _

theorem State.holdupProg_frame (a0 : _) (a1 : State) : Frame 138739742 a1 (State.holdupProg a0 a1) := by
  unfold State.holdupProg
  try extract_lets
  first | split | (dsimp +zetaDelta -proj only; split)
  · refine Frame.comp (State.ringProgrammed_frame _ _ _ _) rfl ?_
    refine Frame.comp (State.ldgStore_frame _ _) rfl ?_
    exact Frame.refl _
  · refine Frame.comp (State.ldgStore_frame _ _) rfl ?_
    exact Frame.refl _

theorem State.invalidField_frame (a0 : _) (a1 : _) (a2 : State) : Frame 25774076126 a2 (State.invalidField a0 a1 a2) := by
  unfold State.invalidField
  refine Frame.comp (State.completeAdmin_frame _ _ _ _ _ _) rfl ?_
  exact Frame.refl _

theorem State.attachNs_frame (a0 : _) (a1 : _) (a2 : _) (a3 : State) : Frame 1126359445726 a3 (State.attachNs a0 a1 a2 a3) := by
  unfold State.attachNs
  first | split | (dsimp +zetaDelta -proj only; split)
  · refine Frame.comp (State.completeAdmin_frame _ _ _ _ _ _) rfl ?_
    exact Frame.refl _
  · try extract_lets
    refine Frame.ite (fun _ => ?_) (fun _ => ?_)
    · refine Frame.comp (State.completeAdmin_frame _ _ _ _ _ _) rfl ?_
      exact Frame.refl _
    · first | split | (dsimp +zetaDelta -proj only; split)
      · refine Frame.ite (fun _ => ?_) (fun _ => ?_)
        · refine Frame.comp (State.completeAdmin_frame _ _ _ _ _ _) rfl ?_
          exact Frame.refl _
        · beta_reduce
          refine Frame.comp (State.completeAdmin_frame _ _ _ _ _ _) rfl ?_
          refine Frame.comp (State.updNs_frame _ _ _) rfl ?_
          exact Frame.refl _
      · refine Frame.ite (fun _ => ?_) (fun _ => ?_)
        · refine Frame.comp (State.completeAdmin_frame _ _ _ _ _ _) rfl ?_
          exact Frame.refl _
        · beta_reduce
          refine Frame.comp (State.completeAdmin_frame _ _ _ _ _ _) rfl ?_
          refine Frame.comp (State.updNs_frame _ _ _) rfl ?_
          exact Frame.refl _
      · refine Frame.comp (State.invalidField_frame _ _ _) rfl ?_
        exact Frame.refl _

theorem execNamespaceAttachment_frame (a0 : _) (a1 : _) (a2 : _) (a3 : _) (a4 : State) : Frame.Out 1126359445727 a4 (execNamespaceAttachment a0 a1 a2 a3 a4) := by
  unfold execNamespaceAttachment
  refine Frame.next ?_
  refine State.admin_frame ?_ rfl ?_
  · intro _ _
    refine Frame.comp (State.attachNs_frame _ _ _ _) rfl ?_
    assumption
  · refine Frame.comp (State.advanceTo_frame _ _) rfl ?_
    exact Frame.refl _

theorem State.ignored_frame (a0 : State) : Frame 4 a0 (State.ignored a0) := by
  unfold State.ignored
  refine Frame.comp (State.raise_frame _ _ _) rfl ?_
  exact Frame.refl _

theorem State.unmapped_frame (a0 : State) : Frame 4 a0 (State.unmapped a0) := by
  unfold State.unmapped
  refine Frame.comp (State.raise_frame _ _ _) rfl ?_
  exact Frame.refl _

theorem State.gateWrite_frame {m : Nat} {s a4 : State} {a0 : _} {a1 : _} {a2 : _} {a3 : _} (hact3 : ∀ x0 x1, Frame m s x1 → Frame m s (a3 x0 x1)) (hm : (4 ||| m == m) = true) (h : Frame m s a4) :
    Frame m s (State.gateWrite a0 a1 a2 a3 a4) := by
  unfold State.gateWrite
  refine Frame.ite (fun _ => ?_) (fun _ => ?_)
  · assumption
  · refine Frame.ite (fun _ => ?_) (fun _ => ?_)
    · assumption
    · first | split | (dsimp +zetaDelta -proj only; split)
      · refine Frame.comp (State.unmapped_frame _) (le_mask rfl hm) ?_
        assumption
      · refine Frame.ite (fun _ => ?_) (fun _ => ?_)
        · refine Frame.ite (fun _ => ?_) (fun _ => ?_)
          · refine hact3 _ _ ?_
            assumption
          · refine Frame.comp (State.unmapped_frame _) (le_mask rfl hm) ?_
            assumption
        · refine Frame.ite (fun _ => ?_) (fun _ => ?_)
          · refine Frame.comp (State.ignored_frame _) (le_mask rfl hm) ?_
            assumption
          · refine Frame.ite (fun _ => ?_) (fun _ => ?_)
            · refine Frame.comp (State.ignored_frame _) (le_mask rfl hm) ?_
              assumption
            · refine Frame.ite (fun _ => ?_) (fun _ => ?_)
              · refine hact3 _ _ ?_
                assumption
              · refine Frame.ite (fun _ => ?_) (fun _ => ?_)
                · refine Frame.comp (State.ignored_frame _) (le_mask rfl hm) ?_
                  refine hact3 _ _ ?_
                  assumption
                · refine hact3 _ _ ?_
                  refine Frame.comp (State.ignored_frame _) (le_mask rfl hm) ?_
                  assumption

theorem State.touchLock_frame (a0 : _) (a1 : State) : Frame 131072 a1 (State.touchLock a0 a1) := by
  unfold State.touchLock
  refine Frame.ite (fun _ => ?_) (fun _ => ?_)
  · refine Frame.set_ciph rfl (fun _ => rfl) ?_
    exact Frame.refl _
  · exact Frame.refl _

theorem State.ownerWrite_frame {m : Nat} {s a4 : State} {a0 : _} {a1 : _} {a2 : _} {a3 : _} (hact3 : ∀ x0, Frame m s x0 → Frame m s (a3 x0)) (hm : (196638 ||| m == m) = true) (h : Frame m s a4) :
    Frame m s (State.ownerWrite a0 a1 a2 a3 a4) := by
  unfold State.ownerWrite
  refine State.gateWrite_frame ?_ (le_mask rfl hm) ?_
  · intro _ _ _
    refine Frame.ite (fun _ => ?_) (fun _ => ?_)
    · refine hact3 _ ?_
      refine Frame.comp (State.touchLock_frame _ _) (le_mask rfl hm) ?_
      assumption
    · refine Frame.comp (State.recordOnce_frame _ _ _ _) (le_mask rfl hm) ?_
      refine Frame.comp (State.ignored_frame _) (le_mask rfl hm) ?_
      refine Frame.comp (State.raise_frame _ _ _) (le_mask rfl hm) ?_
      assumption
  · assumption

theorem State.offerRekey_frame (a0 : _) (a1 : State) : Frame 549760012304 a1 (State.offerRekey a0 a1) := by
  unfold State.offerRekey
  first | split | (dsimp +zetaDelta -proj only; split)
  · exact Frame.refl _
  · try extract_lets
    try extract_lets
    refine Frame.ite (fun _ => ?_) (fun _ => ?_)
    · exact Frame.refl _
    · try extract_lets
      refine Frame.comp (State.updSession_frame _ _ _) rfl ?_
      refine Frame.comp (State.sendSeq_frame _ _ _) rfl ?_
      exact Frame.refl _

theorem State.offerRekeys_frame (a0 : State) : Frame 549760012304 a0 (State.offerRekeys a0) := by
  unfold State.offerRekeys
  refine Frame.foldl (fun _ _ _ => ?_) ?_
  · refine Frame.comp (State.offerRekey_frame _ _) rfl ?_
    assumption
  · exact Frame.refl _

theorem State.stage_frame (a0 : _) (a1 : _) (a2 : _) (a3 : State) : Frame 4294967300 a3 (State.stage a0 a1 a2 a3) := by
  unfold State.stage
  refine Frame.set_regs rfl (fun i => absurd i (by decide)) ?_
  exact Frame.refl _

theorem State.zeroKeys_frame (a0 : State) : Frame 4295098372 a0 (State.zeroKeys a0) := by
  unfold State.zeroKeys
  refine Frame.foldl (fun _ _ _ => ?_) ?_
  · refine Frame.comp (State.stage_frame _ _ _ _) rfl ?_
    assumption
  · refine Frame.set_ciph rfl (fun _ => rfl) ?_
    exact Frame.refl _

theorem State.endKey_frame (a0 : _) (a1 : _) (a2 : _) (a3 : State) : Frame 4295163934 a3 (State.endKey a0 a1 a2 a3) := by
  unfold State.endKey
  try extract_lets
  refine Frame.comp (State.record_frame _ _ _) rfl ?_
  refine Frame.ite (fun _ => ?_) (fun _ => ?_)
  · refine Frame.comp (State.zeroKeys_frame _) rfl ?_
    refine Frame.set_ciph rfl (fun _ => rfl) ?_
    exact Frame.refl _
  · refine Frame.comp (State.raise_frame _ _ _) rfl ?_
    refine Frame.comp (State.zeroKeys_frame _) rfl ?_
    refine Frame.set_ciph rfl (fun _ => rfl) ?_
    exact Frame.refl _

theorem State.endAgreed_frame (a0 : _) (a1 : _) (a2 : _) (a3 : _) (a4 : State) : Frame 30069174494 a4 (State.endAgreed a0 a1 a2 a3 a4) := by
  unfold State.endAgreed
  split <;> first
    | exact Frame.comp (State.endKey_frame _ _ _ _) rfl (Frame.refl _)
    | exact Frame.comp (State.complete_frame _ _ _ _ _ _ _ _) rfl (Frame.refl _)

theorem State.defineSnap_frame (a0 a1 a2 a3 a4 a5 : _) (a6 : State) :
    Frame 1100585370240 a6 (State.defineSnap a0 a1 a2 a3 a4 a5 a6) := by
  unfold State.defineSnap
  exact Frame.comp (State.updNs_frame _ _ _) rfl (Frame.comp (State.addRefs_frame _ _) rfl (Frame.refl _))

theorem State.takeSnap_frame (a0 : _) (a1 : _) (a2 : _) (a3 : State) : Frame 1169304847232 a3 (State.takeSnap a0 a1 a2 a3) := by
  unfold State.takeSnap
  split
  · exact Frame.refl _
  · exact Frame.comp (State.snapsReady_frame _ _) rfl (Frame.comp (State.defineSnap_frame _ _ _ _ _ _ _) rfl (Frame.refl _))

theorem State.putNs_frame (a0 : _) (a1 : _) (a2 : State) : Frame 1100585369728 a2 (State.putNs a0 a1 a2) := by
  unfold State.putNs
  refine Frame.set_nvq rfl (fun i => absurd i (by decide)) (fun i => absurd i (by decide)) ?_
  exact Frame.refl _

theorem State.makeClone_frame (a0 : _) (a1 : _) (a2 : _) (a3 : _) (a4 : State) : Frame 1306743931776 a4 (State.makeClone a0 a1 a2 a3 a4) := by
  unfold State.makeClone
  first | split | (dsimp +zetaDelta -proj only; split)
  · exact Frame.refl _
  · try extract_lets
    try extract_lets
    try extract_lets
    try extract_lets
    refine Frame.ite (fun _ => ?_) (fun _ => ?_)
    · refine Frame.comp (State.openClones_frame _ _ _) rfl ?_
      refine Frame.ite (fun _ => ?_) (fun _ => ?_)
      · refine Frame.comp (State.updNs_frame _ _ _) rfl ?_
        refine Frame.comp (State.refSlot_frame _ _) rfl ?_
        refine Frame.comp (State.putNs_frame _ _ _) rfl ?_
        exact Frame.refl _
      · refine Frame.comp (State.refSlot_frame _ _) rfl ?_
        refine Frame.comp (State.putNs_frame _ _ _) rfl ?_
        exact Frame.refl _
    · refine Frame.ite (fun _ => ?_) (fun _ => ?_)
      · refine Frame.comp (State.updNs_frame _ _ _) rfl ?_
        refine Frame.comp (State.refSlot_frame _ _) rfl ?_
        refine Frame.comp (State.putNs_frame _ _ _) rfl ?_
        exact Frame.refl _
      · refine Frame.comp (State.refSlot_frame _ _) rfl ?_
        refine Frame.comp (State.putNs_frame _ _ _) rfl ?_
        exact Frame.refl _

theorem State.unrefSlot_frame (a0 : _) (a1 : State) : Frame 137439084544 a1 (State.unrefSlot a0 a1) := by
  unfold State.unrefSlot
  refine Frame.comp (State.updSlot_frame _ _ _) rfl ?_
  exact Frame.refl _

theorem State.dropVol_frame (a0 : _) (a1 : State) : Frame 1306743931776 a1 (State.dropVol a0 a1) := by
  unfold State.dropVol
  first | split | (dsimp +zetaDelta -proj only; split)
  · exact Frame.refl _
  · try extract_lets
    try extract_lets
    try extract_lets
    refine Frame.set_nvq_path_ddup rfl rfl rfl (fun i => absurd i (by decide)) (fun i => absurd i (by decide)) (fun i => absurd i (by decide)) (fun _ => rfl) (fun _ => rfl) ?_
    refine Frame.comp (State.unrefSlot_frame _ _) rfl ?_
    refine Frame.foldl (fun _ _ _ => ?_) ?_
    · refine Frame.comp (State.releaseRefs_frame _ _) rfl ?_
      assumption
    · refine Frame.comp (State.releaseRefs_frame _ _) rfl ?_
      refine Frame.foldl (fun _ _ _ => ?_) ?_
      · refine Frame.comp (State.openClones_frame _ _ _) rfl ?_
        assumption
      · exact Frame.refl _

theorem State.deleteVol_frame (a0 : _) (a1 : State) : Frame 1306743931776 a1 (State.deleteVol a0 a1) := by
  unfold State.deleteVol
  try extract_lets
  refine Frame.foldl (fun _ _ _ => ?_) ?_
  · refine Frame.comp (State.dropVol_frame _ _) rfl ?_
    assumption
  · refine Frame.comp (State.dropVol_frame _ _) rfl ?_
    exact Frame.refl _

theorem State.tableEntry_frame (a0 : _) (a1 : _) (a2 : State) : Frame 16384 a2 (State.tableEntry a0 a1 a2) := by
  unfold State.tableEntry
  refine Frame.ite (fun _ => ?_) (fun _ => ?_)
  · exact Frame.refl _
  · try extract_lets
    refine Frame.set_repl rfl ?_
    exact Frame.refl _

theorem State.newRegion_frame (a0 : _) (a1 : _) (a2 : _) (a3 : _) (a4 : _) (a5 : _) (a6 : _) (a7 : _) (a8 : State) : Frame 4096 a8 (State.newRegion a0 a1 a2 a3 a4 a5 a6 a7 a8).2 := by
  unfold State.newRegion
  first | split | (dsimp +zetaDelta -proj only; split)
  · exact Frame.refl _
  · try extract_lets
    try extract_lets
    refine Frame.set_idm rfl (fun _ => rfl) ?_
    exact Frame.refl _

theorem State.newPush_frame (a0 : _) (a1 : _) (a2 : State) : Frame 4096 a2 (State.newPush a0 a1 a2).2 := by
  unfold State.newPush
  first | split | (dsimp +zetaDelta -proj only; split)
  · exact Frame.refl _
  · first | split | (dsimp +zetaDelta -proj only; split)
    · refine Frame.set_idm rfl (fun _ => rfl) ?_
      refine Frame.snd ?_ (by assumption)
      refine Frame.comp (State.newRegion_frame _ _ _ _ _ _ _ _ _) rfl ?_
      exact Frame.refl _

theorem State.putResv_frame (a0 : _) (a1 : _) (a2 : State) : Frame 8589934656 a2 (State.putResv a0 a1 a2) := by
  unfold State.putResv
  refine Frame.set_adm rfl (fun i => absurd i (by decide)) (fun _ => rfl) (fun _ => rfl) ?_
  exact Frame.refl _

theorem State.takeCut_frame (a0 : _) (a1 : _) (a2 : _) (a3 : State) : Frame 8594194654 a3 (State.takeCut a0 a1 a2 a3) := by
  unfold State.takeCut
  first | split | (dsimp +zetaDelta -proj only; split)
  · exact Frame.refl _
  · try extract_lets
    try extract_lets
    try extract_lets
    refine Frame.ite (fun _ => ?_) (fun _ => ?_)
    · refine Frame.ite (fun _ => ?_) (fun _ => ?_)
      · refine Frame.set_adm rfl (fun i => absurd i (by decide)) (fun _ => rfl) (fun _ => rfl) ?_
        exact Frame.refl _
      · refine Frame.comp (State.noteCut_frame _ _ _ _ _) rfl ?_
        refine Frame.set_adm rfl (fun i => absurd i (by decide)) (fun _ => rfl) (fun _ => rfl) ?_
        exact Frame.refl _
    · refine Frame.comp (State.noteCut_frame _ _ _ _ _) rfl ?_
      refine Frame.ite (fun _ => ?_) (fun _ => ?_)
      · refine Frame.set_adm rfl (fun i => absurd i (by decide)) (fun _ => rfl) (fun _ => rfl) ?_
        exact Frame.refl _
      · refine Frame.comp (State.noteCut_frame _ _ _ _ _) rfl ?_
        refine Frame.set_adm rfl (fun i => absurd i (by decide)) (fun _ => rfl) (fun _ => rfl) ?_
        exact Frame.refl _

theorem State.dropSnap_frame (a0 : _) (a1 : _) (a2 : State) : Frame 1100585369728 a2 (State.dropSnap a0 a1 a2) := by
  unfold State.dropSnap
  refine Frame.comp (State.updNs_frame _ _ _) rfl ?_
  exact Frame.refl _

theorem State.dropReplSnaps_frame (a0 : _) (a1 : _) (a2 : State) : Frame 1100585369728 a2 (State.dropReplSnaps a0 a1 a2) := by
  unfold State.dropReplSnaps
  first | split | (dsimp +zetaDelta -proj only; split)
  · exact Frame.refl _
  · refine Frame.foldl (fun _ _ _ => ?_) ?_
    · refine Frame.comp (State.dropSnap_frame _ _ _) rfl ?_
      assumption
    · exact Frame.refl _

theorem State.applyChange_frame (a0 : _) (a1 : _) (a2 : _) (a3 : _) (a4 : _) (a5 : State) : Frame 1332518024158 a5 (State.applyChange a0 a1 a2 a3 a4 a5).2 := by
  unfold State.applyChange
  first | split | (dsimp +zetaDelta -proj only; split)
  · first | split | (dsimp +zetaDelta -proj only; split)
    · try extract_lets
      try extract_lets
      refine Frame.ite (fun _ => ?_) (fun _ => ?_)
      · refine Frame.comp (State.record_frame _ _ _) rfl ?_
        refine Frame.comp (State.putResv_frame _ _ _) rfl ?_
        refine Frame.snd ?_ (by assumption)
        first | split | (dsimp +zetaDelta -proj only; split)
        · refine Frame.comp (State.newPush_frame _ _ _) rfl ?_
          exact Frame.refl _
        · exact Frame.refl _
      · refine Frame.comp (State.putResv_frame _ _ _) rfl ?_
        refine Frame.snd ?_ (by assumption)
        first | split | (dsimp +zetaDelta -proj only; split)
        · refine Frame.comp (State.newPush_frame _ _ _) rfl ?_
          exact Frame.refl _
        · exact Frame.refl _
  · try extract_lets
    refine Frame.ite (fun _ => ?_) (fun _ => ?_)
    · refine Frame.comp (State.record_frame _ _ _) rfl ?_
      refine Frame.comp (State.updResv_frame _ _ _) rfl ?_
      exact Frame.refl _
    · refine Frame.comp (State.updResv_frame _ _ _) rfl ?_
      exact Frame.refl _
  · refine Frame.comp (State.takeCut_frame _ _ _ _) rfl ?_
    exact Frame.refl _
  · refine Frame.ite (fun _ => ?_) (fun _ => ?_)
    · refine Frame.comp (State.dropResv_frame _ _) rfl ?_
      exact Frame.refl _
    · refine Frame.set_adm rfl (fun i => absurd i (by decide)) (fun i => absurd i (by decide)) (fun _ => rfl) ?_
      exact Frame.refl _
  · refine Frame.ite (fun _ => ?_) (fun _ => ?_)
    · exact Frame.refl _
    · refine Frame.comp (State.tableEntry_frame _ _ _) rfl ?_
      refine Frame.comp (State.refSlot_frame _ _) rfl ?_
      refine Frame.comp (State.putNs_frame _ _ _) rfl ?_
      exact Frame.refl _
  · try extract_lets
    refine Frame.set_repl rfl ?_
    refine Frame.comp (State.deleteVol_frame _ _) rfl ?_
    exact Frame.refl _
  · try extract_lets
    refine Frame.ite (fun _ => ?_) (fun _ => ?_)
    · refine Frame.comp (State.record_frame _ _ _) rfl ?_
      refine Frame.comp (State.takeSnap_frame _ _ _ _) rfl ?_
      exact Frame.refl _
    · refine Frame.comp (State.takeSnap_frame _ _ _ _) rfl ?_
      exact Frame.refl _
  · try extract_lets
    refine Frame.ite (fun _ => ?_) (fun _ => ?_)
    · refine Frame.comp (State.record_frame _ _ _) rfl ?_
      refine Frame.comp (State.dropSnap_frame _ _ _) rfl ?_
      exact Frame.refl _
    · refine Frame.comp (State.dropSnap_frame _ _ _) rfl ?_
      exact Frame.refl _
  · try extract_lets
    refine Frame.ite (fun _ => ?_) (fun _ => ?_)
    · refine Frame.comp (State.record_frame _ _ _) rfl ?_
      refine Frame.comp (State.makeClone_frame _ _ _ _ _) rfl ?_
      exact Frame.refl _
    · refine Frame.comp (State.makeClone_frame _ _ _ _ _) rfl ?_
      exact Frame.refl _
  · try extract_lets
    try extract_lets
    refine Frame.ite (fun _ => ?_) (fun _ => ?_)
    · refine Frame.comp (State.record_frame _ _ _) rfl ?_
      refine Frame.set_repl rfl ?_
      exact Frame.refl _
    · refine Frame.set_repl rfl ?_
      exact Frame.refl _
  · try extract_lets
    try extract_lets
    try extract_lets
    refine Frame.ite (fun _ => ?_) (fun _ => ?_)
    · refine Frame.comp (State.record_frame _ _ _) rfl ?_
      first | split | (dsimp +zetaDelta -proj only; split)
      · refine Frame.comp (State.dropReplSnaps_frame _ _ _) rfl ?_
        refine Frame.set_repl rfl ?_
        exact Frame.refl _
      · refine Frame.set_repl rfl ?_
        exact Frame.refl _
    · first | split | (dsimp +zetaDelta -proj only; split)
      · refine Frame.comp (State.dropReplSnaps_frame _ _ _) rfl ?_
        refine Frame.set_repl rfl ?_
        exact Frame.refl _
      · refine Frame.set_repl rfl ?_
        exact Frame.refl _
  · first | split | (dsimp +zetaDelta -proj only; split)
    · exact Frame.refl _
    · try extract_lets
      refine Frame.comp (State.updLink_frame _ _ _) rfl ?_
      exact Frame.refl _
  · refine Frame.comp (State.updLink_frame _ _ _) rfl ?_
    exact Frame.refl _
  · try extract_lets
    refine Frame.set_ciph rfl (fun i => absurd i (by decide)) ?_
    exact Frame.refl _
  · refine Frame.set_ciph rfl (fun i => absurd i (by decide)) ?_
    exact Frame.refl _
  · try extract_lets
    try extract_lets
    refine Frame.ite (fun _ => ?_) (fun _ => ?_)
    · refine Frame.comp (State.record_frame _ _ _) rfl ?_
      refine Frame.ite (fun _ => ?_) (fun _ => ?_)
      · refine Frame.set_ddup rfl ?_
        refine Frame.comp (State.updNs_frame _ _ _) rfl ?_
        exact Frame.refl _
      · refine Frame.comp (State.updNs_frame _ _ _) rfl ?_
        exact Frame.refl _
    · refine Frame.ite (fun _ => ?_) (fun _ => ?_)
      · refine Frame.set_ddup rfl ?_
        refine Frame.comp (State.updNs_frame _ _ _) rfl ?_
        exact Frame.refl _
      · refine Frame.comp (State.updNs_frame _ _ _) rfl ?_
        exact Frame.refl _
  · try extract_lets
    refine Frame.ite (fun _ => ?_) (fun _ => ?_)
    · refine Frame.comp (State.record_frame _ _ _) rfl ?_
      refine Frame.comp (State.updNs_frame _ _ _) rfl ?_
      exact Frame.refl _
    · refine Frame.comp (State.updNs_frame _ _ _) rfl ?_
      exact Frame.refl _
  · refine Frame.ite (fun _ => ?_) (fun _ => ?_)
    · exact Frame.comp (State.defineSnap_frame _ _ _ _ _ _ _) rfl (Frame.refl _)
    · exact Frame.refl _

theorem State.settleChange_frame (a0 : _) (a1 : _) (a2 : _) (a3 : State) : Frame 1336812991454 a3 (State.settleChange a0 a1 a2 a3) := by
  unfold State.settleChange
  try extract_lets
  first | split | (dsimp +zetaDelta -proj only; split)
  · refine Frame.comp (State.endAgreed_frame _ _ _ _ _) rfl ?_
    refine Frame.snd ?_ (by assumption)
    refine Frame.comp (State.applyChange_frame _ _ _ _ _ _) rfl ?_
    exact Frame.refl _

theorem State.propose_frame (a0 : _) (a1 : _) (a2 : _) (a3 : State) : Frame 1338960475102 a3 (State.propose a0 a1 a2 a3) := by
  unfold State.propose
  refine Frame.ite (fun _ => ?_) (fun _ => ?_)
  · try extract_lets
    refine Frame.comp (State.emit_frame _ _) rfl ?_
    refine Frame.set_moor rfl (fun i => absurd i (by decide)) ?_
    exact Frame.refl _
  · refine Frame.comp (State.settleChange_frame _ _ _ _) rfl ?_
    refine Frame.set_moor rfl (fun i => absurd i (by decide)) ?_
    exact Frame.refl _

theorem State.proposeKey_frame (a0 : _) (a1 : State) : Frame 1338960475102 a1 (State.proposeKey a0 a1) := by
  unfold State.proposeKey
  refine Frame.comp (State.propose_frame _ _ _ _) rfl ?_
  refine Frame.set_ciph rfl (fun i => absurd i (by decide)) ?_
  exact Frame.refl _

theorem State.runKey_frame (a0 : _) (a1 : _) (a2 : _) (a3 : State) : Frame 1888716288990 a3 (State.runKey a0 a1 a2 a3) := by
  unfold State.runKey
  first | split | (dsimp +zetaDelta -proj only; split)
  · refine Frame.comp (State.proposeKey_frame _ _) rfl ?_
    exact Frame.refl _
  · try extract_lets
    refine Frame.comp (State.offerRekeys_frame _) rfl ?_
    refine Frame.comp (State.endKey_frame _ _ _ _) rfl ?_
    refine Frame.set_ciph rfl (fun i => absurd i (by decide)) ?_
    exact Frame.refl _
  · refine Frame.ite (fun _ => ?_) (fun _ => ?_)
    · refine Frame.comp (State.endKey_frame _ _ _ _) rfl ?_
      refine Frame.set_ciph rfl (fun i => absurd i (by decide)) ?_
      exact Frame.refl _
    · refine Frame.comp (State.proposeKey_frame _ _) rfl ?_
      exact Frame.refl _
  · try extract_lets
    refine Frame.comp (State.offerRekeys_frame _) rfl ?_
    refine Frame.comp (State.endKey_frame _ _ _ _) rfl ?_
    refine Frame.comp (State.judgeSlot_frame _ _) rfl ?_
    refine Frame.comp (State.updSlot_frame _ _ _) rfl ?_
    exact Frame.refl _

theorem State.writeKcmd_frame (a0 : _) (a1 : _) (a2 : State) : Frame 1888716288990 a2 (State.writeKcmd a0 a1 a2) := by
  unfold State.writeKcmd
  refine State.ownerWrite_frame ?_ rfl ?_
  · intro _ _
    try extract_lets
    try extract_lets
    refine Frame.ite (fun _ => ?_) (fun _ => ?_)
    · refine Frame.comp (State.ignored_frame _) rfl ?_
      assumption
    · refine Frame.ite (fun _ => ?_) (fun _ => ?_)
      · assumption
      · try extract_lets
        refine Frame.ite (fun _ => ?_) (fun _ => ?_)
        · refine Frame.comp (State.runKey_frame _ _ _ _) rfl ?_
          assumption
        · refine Frame.comp (State.endKey_frame _ _ _ _) rfl ?_
          assumption
  · exact Frame.refl _

theorem execKeyClear_frame (a0 : _) (a1 : _) (a2 : _) (a3 : State) : Frame.Out 1888716288991 a3 (execKeyClear a0 a1 a2 a3) := by
  unfold execKeyClear
  refine Frame.next ?_
  refine Frame.comp (State.writeKcmd_frame _ _ _) rfl ?_
  refine Frame.comp (State.advanceTo_frame _ _) rfl ?_
  exact Frame.refl _

theorem State.claimFailed_frame (a0 : _) (a1 : State) : Frame 2147557406 a1 (State.claimFailed a0 a1) := by
  unfold State.claimFailed
  refine Frame.comp (State.recordOnce_frame _ _ _ _) rfl ?_
  refine Frame.comp (State.raise_frame _ _ _) rfl ?_
  refine Frame.comp (State.updMoor_frame _ _) rfl ?_
  exact Frame.refl _

theorem State.updQueue_frame (a0 : _) (a1 : _) (a2 : State) : Frame 4096 a2 (State.updQueue a0 a1 a2) := by
  unfold State.updQueue
  refine Frame.set_idm rfl (fun _ => rfl) ?_
  exact Frame.refl _

theorem State.bump_frame (a0 : _) (a1 : _) (a2 : State) : Frame 4096 a2 (State.bump a0 a1 a2) := by
  unfold State.bump
  refine Frame.comp (State.updQueue_frame _ _ _) rfl ?_
  exact Frame.refl _

theorem State.chainEnd_frame (a0 : _) (a1 : _) (a2 : State) : Frame 69662 a2 (State.chainEnd a0 a1 a2) := by
  unfold State.chainEnd
  refine Frame.comp (State.bump_frame _ _ _) rfl ?_
  refine Frame.comp (State.recordOnce_frame _ _ _ _) rfl ?_
  refine Frame.comp (State.raise_frame _ _ _) rfl ?_
  exact Frame.refl _

theorem State.groupDone_frame (a0 : _) (a1 : _) (a2 : State) : Frame 69662 a2 (State.groupDone a0 a1 a2) := by
  unfold State.groupDone
  try extract_lets
  first | split | (dsimp +zetaDelta -proj only; split)
  · exact Frame.refl _
  · try extract_lets
    refine Frame.ite (fun _ => ?_) (fun _ => ?_)
    · refine Frame.set_idm rfl (fun _ => rfl) ?_
      exact Frame.refl _
    · try extract_lets
      refine Frame.ite (fun _ => ?_) (fun _ => ?_)
      · refine Frame.comp (State.bump_frame _ _ _) rfl ?_
        refine Frame.set_idm rfl (fun _ => rfl) ?_
        exact Frame.refl _
      · refine Frame.comp (State.bump_frame _ _ _) rfl ?_
        refine Frame.comp (State.record_frame _ _ _) rfl ?_
        refine Frame.comp (State.raise_frame _ _ _) rfl ?_
        refine Frame.set_idm rfl (fun _ => rfl) ?_
        exact Frame.refl _

theorem State.startCopy_frame (a0 : _) (a1 : _) (a2 : _) (a3 : _) (a4 : _) (a5 : _) (a6 : State) : Frame 549760012304 a6 (State.startCopy a0 a1 a2 a3 a4 a5 a6) := by
  unfold State.startCopy
  try extract_lets
  refine Frame.ite (fun _ => ?_) (fun _ => ?_)
  · refine Frame.comp (State.updSession_frame _ _ _) rfl ?_
    refine Frame.comp (State.startOp_frame _ _ _ _ _ _ _ _) rfl ?_
    exact Frame.refl _
  · refine Frame.ite (fun _ => ?_) (fun _ => ?_)
    · refine Frame.comp (State.startOp_frame _ _ _ _ _ _ _ _) rfl ?_
      exact Frame.refl _
    · refine Frame.comp (State.startOp_frame _ _ _ _ _ _ _ _) rfl ?_
      exact Frame.refl _

theorem State.startEntry_frame (a0 : _) (a1 : _) (a2 : State) : Frame 549760077854 a2 (State.startEntry a0 a1 a2) := by
  unfold State.startEntry
  try extract_lets
  first | split | (dsimp +zetaDelta -proj only; split)
  · refine Frame.ite (fun _ => ?_) (fun _ => ?_)
    · refine Frame.comp (State.startCopy_frame _ _ _ _ _ _ _) rfl ?_
      exact Frame.refl _
    · refine Frame.comp (State.bump_frame _ _ _) rfl ?_
      exact Frame.refl _
  · try extract_lets
    try extract_lets
    try extract_lets
    try extract_lets
    refine Frame.foldl (fun _ _ _ => ?_) ?_
    · refine Frame.ite (fun _ => ?_) (fun _ => ?_)
      · refine Frame.comp (State.startCopy_frame _ _ _ _ _ _ _) rfl ?_
        assumption
      · refine Frame.comp (State.groupDone_frame _ _ _) rfl ?_
        assumption
    · refine Frame.set_idm rfl (fun i => absurd i (by decide)) ?_
      exact Frame.refl _

theorem State.popEntry_frame (a0 : _) (a1 : State) : Frame 4096 a1 (State.popEntry a0 a1) := by
  unfold State.popEntry
  refine Frame.comp (State.updQueue_frame _ _ _) rfl ?_
  exact Frame.refl _

theorem State.runQueues_frame : ∀ (n : Nat) (s : State), Frame 549760077854 s (State.runQueues n s)
  | 0, s => Frame.refl s
  | n + 1, s => by
    unfold State.runQueues
    extract_lets ready
    clear_value ready
    cases ready with
    | none => exact Frame.refl _
    | some r =>
      obtain ⟨key, w, v⟩ := r
      refine Frame.comp (State.runQueues_frame n _) rfl ?_
      refine Frame.ite (fun _ => ?_) (fun _ => ?_)
      · exact Frame.comp (State.startEntry_frame _ _ _) rfl (Frame.comp (State.popEntry_frame _ _) rfl (Frame.refl _))
      · exact Frame.comp (State.chainEnd_frame _ _ _) rfl (Frame.comp (State.popEntry_frame _ _) rfl (Frame.refl _))

theorem State.chains_frame (a0 : State) : Frame 549760077854 a0 (State.chains a0) := by
  unfold State.chains
  refine Frame.comp (State.runQueues_frame _ _) rfl ?_
  exact Frame.refl _

theorem execChainTimeout_frame (a0 : _) (a1 : _) (a2 : State) : Frame.Out 549760077855 a2 (execChainTimeout a0 a1 a2) := by
  unfold execChainTimeout
  try extract_lets
  refine Frame.next ?_
  first | split | (dsimp +zetaDelta -proj only; split)
  · refine Frame.ite (fun _ => ?_) (fun _ => ?_)
    · refine Frame.comp (State.chains_frame _) rfl ?_
      refine Frame.comp (State.chainEnd_frame _ _ _) rfl ?_
      refine Frame.comp (State.popEntry_frame _ _) rfl ?_
      refine Frame.comp (State.advanceTo_frame _ _) rfl ?_
      exact Frame.refl _
    · refine Frame.comp (State.advanceTo_frame _ _) rfl ?_
      exact Frame.refl _
  · refine Frame.comp (State.advanceTo_frame _ _) rfl ?_
    exact Frame.refl _

theorem State.appendGrain_frame (a0 : _) (a1 : _) (a2 : _) (a3 : State) : Frame 6631429571934 a3 (State.appendGrain a0 a1 a2 a3) := by
  unfold State.appendGrain
  first | split | (dsimp +zetaDelta -proj only; split)
  · exact Frame.refl _
  · refine Frame.ite (fun _ => ?_) (fun _ => ?_)
    · exact Frame.refl _
    · try extract_lets
      try extract_lets
      first | split | (dsimp +zetaDelta -proj only; split)
      · refine Frame.comp (State.updWrite_frame _ _ _) rfl ?_
        refine Frame.fst ?_ (by assumption)
        refine Frame.comp (State.appendRecord_frame _ _ _ _ _) rfl ?_
        refine Frame.set_path rfl (fun _ => rfl) (fun i => absurd i (by decide)) (fun i => absurd i (by decide)) ?_
        exact Frame.refl _

theorem State.syncOne_frame (i j : Nat) (t : Target) (w : WriteOp) (s : State) : Frame 171803099230 s (State.syncOne i j t w s) := by
  unfold State.syncOne
  split
  · extract_lets sent
    have hs : Frame 171803099230 s sent.2.2 := by
      refine Frame.foldlTrd (fun x y h => ?_) (Frame.refl _)
      split
      · exact h
      · exact Frame.comp (State.sendFrame_frame _ _ _ _ _) rfl h
    clear_value sent
    refine Frame.ite (fun _ => ?_) (fun _ => Frame.ite (fun _ => ?_) (fun _ => ?_))
    · exact Frame.comp (State.updWrite_frame _ _ _) rfl hs
    · exact Frame.comp (State.updWrite_frame _ _ _) rfl hs
    · exact Frame.comp (State.updWrite_frame _ _ _) rfl (Frame.comp (State.missTarget_frame _ _ _ _) rfl hs)
  · exact Frame.comp (State.updWrite_frame _ _ _) rfl (Frame.comp (State.missTarget_frame _ _ _ _) rfl (Frame.refl _))

theorem State.sendSync_frame (a0 : _) (a1 : State) : Frame 171803099230 a1 (State.sendSync a0 a1) := by
  unfold State.sendSync
  first | split | (dsimp +zetaDelta -proj only; split)
  · exact Frame.refl _
  · refine Frame.foldl (fun _ _ _ => ?_) ?_
    · refine Frame.comp (State.syncOne_frame _ _ _ _ _) rfl ?_
      assumption
    · exact Frame.refl _

theorem execRecordAppend_frame (a0 : _) (a1 : _) (a2 : State) : Frame.Out 7966095013855 a2 (execRecordAppend a0 a1 a2) := by
  unfold execRecordAppend
  try extract_lets
  refine Frame.next ?_
  first | split | (dsimp +zetaDelta -proj only; split)
  · refine Frame.comp (State.advanceTo_frame _ _) rfl ?_
    exact Frame.refl _
  · refine Frame.ite (fun _ => ?_) (fun _ => ?_)
    · refine Frame.comp (State.advanceTo_frame _ _) rfl ?_
      exact Frame.refl _
    · try extract_lets
      first | split | (dsimp +zetaDelta -proj only; split)
      · refine Frame.foldl (fun _ _ _ => ?_) ?_
        · refine Frame.comp (State.appendGrain_frame _ _ _ _) rfl ?_
          assumption
        · refine Frame.comp (State.advanceTo_frame _ _) rfl ?_
          exact Frame.refl _
      · try extract_lets
        try extract_lets
        refine Frame.comp (State.sendReady_frame _) rfl ?_
        refine Frame.comp (State.checkWrites_frame _) rfl ?_
        refine Frame.comp (State.markSealed_frame _) rfl ?_
        refine Frame.comp (State.sendSync_frame _ _) rfl ?_
        refine Frame.ite (fun _ => ?_) (fun _ => ?_)
        · refine Frame.comp (State.emit_frame _ _) rfl ?_
          refine Frame.foldl (fun _ _ _ => ?_) ?_
          · refine Frame.comp (State.appendGrain_frame _ _ _ _) rfl ?_
            assumption
          · refine Frame.comp (State.advanceTo_frame _ _) rfl ?_
            exact Frame.refl _
        · refine Frame.foldl (fun _ _ _ => ?_) ?_
          · refine Frame.comp (State.appendGrain_frame _ _ _ _) rfl ?_
            assumption
          · refine Frame.comp (State.advanceTo_frame _ _) rfl ?_
            exact Frame.refl _

theorem State.refuseC0h_frame (a0 : _) (a1 : _) (a2 : _) (a3 : _) (a4 : State) : Frame 25774076126 a4 (State.refuseC0h a0 a1 a2 a3 a4) := by
  unfold State.refuseC0h
  refine Frame.comp (State.completeAdmin_frame _ _ _ _ _ _) rfl ?_
  refine Frame.comp (State.record_frame _ _ _) rfl ?_
  exact Frame.refl _

theorem State.createResv_frame (a0 : _) (a1 : _) (a2 : State) : Frame 1338960475102 a2 (State.createResv a0 a1 a2) := by
  unfold State.createResv
  first | split | (dsimp +zetaDelta -proj only; split)
  · refine Frame.comp (State.invalidField_frame _ _ _) rfl ?_
    exact Frame.refl _
  · refine Frame.ite (fun _ => ?_) (fun _ => ?_)
    · refine Frame.comp (State.invalidField_frame _ _ _) rfl ?_
      exact Frame.refl _
    · try extract_lets
      try extract_lets
      try extract_lets
      first | split | (dsimp +zetaDelta -proj only; split)
      · refine Frame.comp (State.refuseC0h_frame _ _ _ _ _) rfl ?_
        exact Frame.refl _
      · refine Frame.ite (fun _ => ?_) (fun _ => ?_)
        · refine Frame.comp (State.refuseC0h_frame _ _ _ _ _) rfl ?_
          exact Frame.refl _
        · refine Frame.ite (fun _ => ?_) (fun _ => ?_)
          · refine Frame.comp (State.refuseC0h_frame _ _ _ _ _) rfl ?_
            exact Frame.refl _
          · refine Frame.comp (State.propose_frame _ _ _ _) rfl ?_
            exact Frame.refl _

theorem State.giveBack_frame (a0 : State) : Frame 1676182311122 a0 (State.giveBack a0) := by
  unfold State.giveBack
  try extract_lets
  try extract_lets
  try extract_lets
  try extract_lets
  try extract_lets
  refine Frame.foldl (fun _ _ _ => ?_) ?_
  · refine Frame.comp (State.updSession_frame _ _ _) rfl ?_
    refine Frame.comp (State.sendSeq_frame _ _ _) rfl ?_
    assumption
  · refine Frame.set_md_adm_nvq_repl rfl rfl rfl rfl (fun _ => rfl) (fun i => absurd i (by decide)) (fun i => absurd i (by decide)) (fun i => absurd i (by decide)) (fun i => absurd i (by decide)) (fun _ => rfl) (fun i => absurd i (by decide)) ?_
    refine Frame.foldl (fun _ _ _ => ?_) ?_
    · refine Frame.comp (State.destroyRegion_frame _ _) rfl ?_
      assumption
    · refine Frame.foldl (fun _ _ _ => ?_) ?_
      · refine Frame.comp (State.emit_frame _ _) rfl ?_
        assumption
      · exact Frame.refl _

theorem State.nextEpoch_frame (a0 : State) : Frame 2147491840 a0 (State.nextEpoch a0) := by
  unfold State.nextEpoch
  refine Frame.comp (State.updMoor_frame _ _) rfl ?_
  exact Frame.refl _

theorem State.writeBootBlock_frame (a0 : _) (a1 : State) : Frame 138739742 a1 (State.writeBootBlock a0 a1) := by
  unfold State.writeBootBlock
  refine Frame.comp (State.writeParam_frame _ _ _ _) rfl ?_
  exact Frame.refl _

theorem State.confirmSlot_frame (a0 : _) (a1 : _) (a2 : State) : Frame 205848606 a2 (State.confirmSlot a0 a1 a2) := by
  unfold State.confirmSlot
  try extract_lets
  refine Frame.comp (State.record_frame _ _ _) rfl ?_
  refine Frame.comp (State.writeBootBlock_frame _ _) rfl ?_
  refine Frame.set_md rfl (fun _ => rfl) (fun i => absurd i (by decide)) ?_
  exact Frame.refl _

theorem State.confirmTrial_frame (a0 : State) : Frame 205848606 a0 (State.confirmTrial a0) := by
  unfold State.confirmTrial
  refine Frame.ite (fun _ => ?_) (fun _ => ?_)
  · refine Frame.comp (State.confirmSlot_frame _ _ _) rfl ?_
    exact Frame.refl _
  · exact Frame.refl _

theorem State.enterPaired_frame (a0 : _) (a1 : State) : Frame 11245265119 a1 (State.enterPaired a0 a1) := by
  unfold State.enterPaired
  try extract_lets
  try extract_lets
  refine Frame.comp (State.confirmTrial_frame _) rfl ?_
  refine Frame.comp (State.cuts_frame _) rfl ?_
  refine Frame.comp (State.recompute_frame _ _) rfl ?_
  refine Frame.comp (State.updMoor_frame _ _) rfl ?_
  refine Frame.comp (State.enterMode_frame _ _ _) rfl ?_
  refine Frame.comp (State.nextEpoch_frame _) rfl ?_
  exact Frame.refl _

theorem State.unbindResv_frame (a0 : State) : Frame 8589934656 a0 (State.unbindResv a0) := by
  unfold State.unbindResv
  refine Frame.set_adm rfl (fun i => absurd i (by decide)) (fun _ => rfl) (fun _ => rfl) ?_
  exact Frame.refl _

theorem State.startAnnounce_frame (a0 : _) (a1 : State) : Frame 2151686144 a1 (State.startAnnounce a0 a1) := by
  unfold State.startAnnounce
  refine Frame.comp (State.emit_frame _ _) rfl ?_
  refine Frame.comp (State.updMoor_frame _ _) rfl ?_
  exact Frame.refl _

theorem State.sendChanges_frame (a0 : _) (a1 : State) : Frame 4194304 a1 (State.sendChanges a0 a1) := by
  unfold State.sendChanges
  exact Frame.foldl (fun _ _ h => Frame.comp (State.emit_frame _ _) rfl h) (Frame.refl _)

theorem State.tellChanges_frame (a0 : State) : Frame 2151686144 a0 (State.tellChanges a0) := by
  unfold State.tellChanges
  split
  · exact Frame.refl _
  · exact Frame.comp (State.updMoor_frame _ _) rfl (Frame.comp (State.sendChanges_frame _ _) rfl (Frame.refl _))

theorem State.openSnaps_frame (a0 : State) : Frame 1169304847232 a0 (State.openSnaps a0) := by
  unfold State.openSnaps
  exact Frame.foldl (fun _ _ h => Frame.comp (State.snapsReady_frame _ _) rfl h) (Frame.refl _)

theorem execResyncSwitch_frame (a0 : _) (a1 : State) : Frame.Out 1747485815775 a1 (execResyncSwitch a0 a1) := by
  unfold execResyncSwitch
  try extract_lets
  refine Frame.next ?_
  refine Frame.ite (fun _ => ?_) (fun _ => ?_)
  · refine Frame.ite (fun _ => ?_) (fun _ => ?_)
    · refine Frame.comp (State.enterPaired_frame _ _) rfl ?_
      refine Frame.comp (State.giveBack_frame _) rfl ?_
      refine Frame.comp (State.resyncDone_frame _) rfl ?_
      refine Frame.comp (State.tellChanges_frame _) rfl ?_
      refine Frame.comp (State.advanceTo_frame _ _) rfl ?_
      exact Frame.refl _
    · refine Frame.comp (State.advanceTo_frame _ _) rfl ?_
      exact Frame.refl _
  · refine Frame.ite (fun _ => ?_) (fun _ => ?_)
    · refine Frame.ite (fun _ => ?_) (fun _ => ?_)
      · refine Frame.comp (State.updMoor_frame _ _) rfl ?_
        refine Frame.comp (State.resyncDone_frame _) rfl ?_
        refine Frame.comp (State.advanceTo_frame _ _) rfl ?_
        exact Frame.refl _
      · refine Frame.comp (State.advanceTo_frame _ _) rfl ?_
        exact Frame.refl _
    · refine Frame.ite (fun _ => ?_) (fun _ => ?_)
      · try extract_lets
        refine Frame.comp (State.startAnnounce_frame _ _) rfl ?_
        refine Frame.comp (State.enterPaired_frame _ _) rfl ?_
        try extract_lets
        refine Frame.set_path rfl (fun _ => rfl) (fun _ => rfl) (fun _ => rfl) ?_
        refine Frame.comp (State.openSnaps_frame _) rfl ?_
        refine Frame.comp (State.unbindResv_frame _) rfl ?_
        refine Frame.comp (State.advanceTo_frame _ _) rfl ?_
        exact Frame.refl _
      · refine Frame.comp (State.advanceTo_frame _ _) rfl ?_
        exact Frame.refl _

theorem State.updVoter_frame (a0 : _) (a1 : _) (a2 : State) : Frame 2147491840 a2 (State.updVoter a0 a1 a2) := by
  unfold State.updVoter
  refine Frame.comp (State.updMoor_frame _ _) rfl ?_
  exact Frame.refl _

theorem State.checkFailed_frame (a0 : State) : Frame 4 a0 (State.checkFailed a0) := by
  unfold State.checkFailed
  refine Frame.comp (State.raise_frame _ _ _) rfl ?_
  exact Frame.refl _

theorem State.judgeThree_frame (a0 : State) : Frame 3705990889471 a0 (State.judgeThree a0) := by
  unfold State.judgeThree
  try extract_lets
  try extract_lets
  first | split | (dsimp +zetaDelta -proj only; split)
  · refine Frame.comp (State.updMoor_frame _ _) rfl ?_
    exact Frame.refl _
  · first | split | (dsimp +zetaDelta -proj only; split)
    · refine Frame.comp (State.updMoor_frame _ _) rfl ?_
      exact Frame.refl _
    · refine Frame.ite (fun _ => ?_) (fun _ => ?_)
      · refine Frame.comp (State.updMoor_frame _ _) rfl ?_
        exact Frame.refl _
      · try extract_lets
        refine Frame.comp (State.fault_frame _ _ _ _ _) rfl ?_
        refine Frame.comp (State.checkFailed_frame _) rfl ?_
        refine Frame.comp (State.count_frame _ _) rfl ?_
        refine Frame.comp (State.updVoter_frame _ _ _) rfl ?_
        refine Frame.comp (State.updMoor_frame _ _) rfl ?_
        exact Frame.refl _

theorem State.memWrite_frame (a : Nat) (bs : List Byte) (s : State) : Frame 32768 s (State.memWrite a bs s) :=
  Frame.set_mem rfl writeBytes_wf (Frame.refl s)

theorem State.linkChain_frame (pool last : Nat) : ∀ (l : List Nat) (s : State), Frame 32768 s (State.linkChain pool last l s)
  | [], s => Frame.refl s
  | _ :: rest, s => by
    unfold State.linkChain
    exact Frame.comp (State.linkChain_frame pool last rest _) rfl (Frame.comp (State.memWrite_frame _ _ _) rfl (Frame.refl _))

theorem State.buildPools_frame (a0 : State) : Frame 32768 a0 (State.buildPools a0) := by
  unfold State.buildPools
  try extract_lets
  refine Frame.set_mem rfl ?_ ?_
  · exact id
  refine Frame.foldl (fun _ _ _ => ?_) ?_
  · try extract_lets
    refine Frame.foldl (fun _ _ _ => ?_) ?_
    · refine Frame.comp (State.linkChain_frame _ _ _ _) rfl ?_
      assumption
    · refine Frame.set_mem rfl ?_ ?_
      · exact id
      assumption
  · exact Frame.refl _

theorem State.freeLock_frame (a0 : State) : Frame 4295098372 a0 (State.freeLock a0) := by
  unfold State.freeLock
  refine Frame.comp (State.zeroKeys_frame _) rfl ?_
  refine Frame.set_ciph rfl (fun _ => rfl) ?_
  exact Frame.refl _

theorem State.takeLock_frame (a0 : _) (a1 : State) : Frame 131076 a1 (State.takeLock a0 a1) := by
  unfold State.takeLock
  refine Frame.ite (fun _ => ?_) (fun _ => ?_)
  · refine Frame.comp (State.raise_frame _ _ _) rfl ?_
    exact Frame.refl _
  · refine Frame.ite (fun _ => ?_) (fun _ => ?_)
    · refine Frame.comp (State.ignored_frame _) rfl ?_
      exact Frame.refl _
    · refine Frame.set_ciph rfl (fun _ => rfl) ?_
      exact Frame.refl _

theorem State.writeLock_frame (a0 : _) (a1 : _) (a2 : State) : Frame 4295098372 a2 (State.writeLock a0 a1 a2) := by
  unfold State.writeLock
  refine State.gateWrite_frame ?_ rfl ?_
  · intro _ _ _
    try extract_lets
    try extract_lets
    refine Frame.ite (fun _ => ?_) (fun _ => ?_)
    · refine Frame.comp (State.freeLock_frame _) rfl ?_
      refine Frame.ite (fun _ => ?_) (fun _ => ?_)
      · refine Frame.comp (State.takeLock_frame _ _) rfl ?_
        refine Frame.comp (State.touchLock_frame _ _) rfl ?_
        assumption
      · refine Frame.comp (State.touchLock_frame _ _) rfl ?_
        assumption
    · refine Frame.ite (fun _ => ?_) (fun _ => ?_)
      · refine Frame.comp (State.takeLock_frame _ _) rfl ?_
        refine Frame.comp (State.touchLock_frame _ _) rfl ?_
        assumption
      · refine Frame.comp (State.touchLock_frame _ _) rfl ?_
        assumption
  · exact Frame.refl _

end Sys2Proof.Laws
end

