-- ==== Sys2Proof/Laws/Frame3.lean ====
section
/-!
SUPPORT. Frames of the operations, part 3 of 8: what each may touch (see Frame.lean). Each proof follows its operation's body.
-/

namespace Sys2Proof.Laws

open Sys2Proof.Machine

theorem execLockRelease_frame (a0 : _) (a1 : _) (a2 : _) (a3 : State) : Frame.Out 4295098373 a3 (execLockRelease a0 a1 a2 a3) := by
  unfold execLockRelease
  refine Frame.next ?_
  refine Frame.comp (State.writeLock_frame _ _ _) rfl ?_
  refine Frame.comp (State.advanceTo_frame _ _) rfl ?_
  exact Frame.refl _

theorem State.katFault_frame (a0 : _) (a1 : _) (a2 : State) : Frame 3705990889471 a2 (State.katFault a0 a1 a2) := by
  unfold State.katFault
  first | split | (dsimp +zetaDelta -proj only; split)
  · refine Frame.ite (fun _ => ?_) (fun _ => ?_)
    · refine Frame.comp (State.fault_frame _ _ _ _ _) rfl ?_
      refine Frame.comp (State.raise_frame _ _ _) rfl ?_
      exact Frame.refl _
    · refine Frame.comp (State.fault_frame _ _ _ _ _) rfl ?_
      exact Frame.refl _
  · refine Frame.comp (State.fault_frame _ _ _ _ _) rfl ?_
    refine Frame.comp (State.raise_frame _ _ _) rfl ?_
    exact Frame.refl _
  · refine Frame.ite (fun _ => ?_) (fun _ => ?_)
    · refine Frame.comp (State.fault_frame _ _ _ _ _) rfl ?_
      exact Frame.refl _
    · exact Frame.refl _
  · exact Frame.refl _

theorem State.fillBuffers_frame : ∀ (l : List Nat) (bs : List Byte) (s : State), Frame 32768 s (State.fillBuffers l bs s)
  | [], _, s => Frame.refl s
  | _ :: rest, _, s => by
    unfold State.fillBuffers
    exact Frame.comp (State.fillBuffers_frame rest _ _) rfl (Frame.comp (State.memWrite_frame _ _ _) rfl (Frame.refl _))

theorem State.bookLinks_frame (seq : Nat) : ∀ (n : Nat) (s : State), Frame 64 s (State.bookLinks seq n s)
  | 0, s => Frame.refl s
  | n + 1, s => by
    unfold State.bookLinks
    exact Frame.comp (State.bookLinks_frame seq n _) rfl (Frame.set_adm rfl (fun _ => rfl) (fun _ => rfl) (fun _ => rfl) (Frame.refl _))

theorem State.sendUnits_frame (a0 : State) : Frame 2151686208 a0 (State.sendUnits a0) := by
  unfold State.sendUnits
  first | split | (dsimp +zetaDelta -proj only; split)
  · exact Frame.refl _
  · refine Frame.ite (fun _ => ?_) (fun _ => ?_)
    · exact Frame.refl _
    · try extract_lets
      try extract_lets
      try extract_lets
      try extract_lets
      try extract_lets
      refine Frame.comp (State.updMoor_frame _ _) rfl ?_
      refine Frame.foldl (fun _ _ _ => ?_) ?_
      · refine Frame.comp (State.emit_frame _ _) rfl ?_
        refine Frame.comp (State.bookLinks_frame _ _ _) rfl ?_
        assumption
      · exact Frame.refl _

theorem State.resyncPass_frame (a0 : State) : Frame 2151686208 a0 (State.resyncPass a0) := by
  unfold State.resyncPass
  exact Frame.comp (State.sendUnits_frame _) rfl (Frame.comp (State.tellChanges_frame _) rfl (Frame.refl _))

theorem State.exchanged_frame (a0 : State) : Frame 11245265119 a0 (State.exchanged a0) := by
  unfold State.exchanged
  refine Frame.ite (fun _ => ?_) (fun _ => ?_)
  · refine Frame.comp (State.enterPaired_frame _ _) rfl ?_
    exact Frame.refl _
  · exact Frame.refl _

theorem State.callPartner_frame (a0 : State) : Frame 687207551006 a0 (State.callPartner a0) := by
  unfold State.callPartner
  refine Frame.ite (fun _ => ?_) (fun _ => ?_)
  · refine Frame.comp (State.connectTo_frame _ _ _ _ _) rfl ?_
    exact Frame.refl _
  · exact Frame.refl _

theorem State.renewOwn_frame (a0 : _) (a1 : State) : Frame 2147491840 a1 (State.renewOwn a0 a1) := by
  unfold State.renewOwn
  refine Frame.comp (State.updMoor_frame _ _) rfl ?_
  exact Frame.refl _

theorem State.enterSoleAtJoin_frame (a0 : State) : Frame 11245265119 a0 (State.enterSoleAtJoin a0) := by
  unfold State.enterSoleAtJoin
  try extract_lets
  try extract_lets
  refine Frame.comp (State.confirmTrial_frame _) rfl ?_
  refine Frame.comp (State.recompute_frame _ _) rfl ?_
  refine Frame.comp (State.updMoor_frame _ _) rfl ?_
  refine Frame.comp (State.enterMode_frame _ _ _) rfl ?_
  refine Frame.comp (State.nextEpoch_frame _) rfl ?_
  exact Frame.refl _

theorem State.sendClaim_frame (a0 : _) (a1 : State) : Frame 2151751710 a1 (State.sendClaim a0 a1) := by
  unfold State.sendClaim
  try extract_lets
  try extract_lets
  try extract_lets
  refine Frame.comp (State.emit_frame _ _) rfl ?_
  refine Frame.comp (State.updMoor_frame _ _) rfl ?_
  first | split | (dsimp +zetaDelta -proj only; split)
  · refine Frame.comp (State.claimFailed_frame _ _) rfl ?_
    exact Frame.refl _
  · exact Frame.refl _

theorem State.renewAlone_frame (a0 : State) : Frame 11245265119 a0 (State.renewAlone a0) := by
  unfold State.renewAlone
  refine Frame.ite (fun _ => ?_) (fun _ => ?_)
  · refine Frame.ite (fun _ => ?_) (fun _ => ?_)
    · refine Frame.comp (State.sendClaim_frame _ _) rfl ?_
      exact Frame.refl _
    · refine Frame.ite (fun _ => ?_) (fun _ => ?_)
      · refine Frame.comp (State.renewOwn_frame _ _) rfl ?_
        exact Frame.refl _
      · exact Frame.refl _
  · refine Frame.ite (fun _ => ?_) (fun _ => ?_)
    · refine Frame.ite (fun _ => ?_) (fun _ => ?_)
      · refine Frame.comp (State.sendClaim_frame _ _) rfl ?_
        exact Frame.refl _
      · refine Frame.ite (fun _ => ?_) (fun _ => ?_)
        · refine Frame.comp (State.enterSoleAtJoin_frame _) rfl ?_
          exact Frame.refl _
        · exact Frame.refl _
    · exact Frame.refl _

theorem State.sendBeacon_frame (a0 : State) : Frame 2151686144 a0 (State.sendBeacon a0) := by
  unfold State.sendBeacon
  try extract_lets
  try extract_lets
  try extract_lets
  try extract_lets
  try extract_lets
  try extract_lets
  try extract_lets
  try extract_lets
  refine Frame.comp (State.emit_frame _ _) rfl ?_
  refine Frame.ite (fun _ => ?_) (fun _ => ?_)
  · refine Frame.comp (State.emit_frame _ _) rfl ?_
    refine Frame.comp (State.updMoor_frame _ _) rfl ?_
    refine Frame.comp (State.updMoor_frame _ _) rfl ?_
    exact Frame.refl _
  · refine Frame.comp (State.updMoor_frame _ _) rfl ?_
    refine Frame.comp (State.updMoor_frame _ _) rfl ?_
    exact Frame.refl _

theorem State.resyncStage_frame (a0 : State) : Frame 2147491840 a0 (State.resyncStage a0) := by
  unfold State.resyncStage
  first | split | (dsimp +zetaDelta -proj only; split)
  · exact Frame.refl _
  · refine Frame.ite (fun _ => ?_) (fun _ => ?_)
    · refine Frame.comp (State.updMoor_frame _ _) rfl ?_
      exact Frame.refl _
    · exact Frame.refl _

theorem execBeaconSend_frame (a0 : _) (a1 : State) : Frame.Out 698448556255 a1 (execBeaconSend a0 a1) := by
  unfold execBeaconSend
  try extract_lets
  refine Frame.next ?_
  refine Frame.ite (fun _ => ?_) (fun _ => ?_)
  · refine Frame.comp (State.advanceTo_frame _ _) rfl ?_
    exact Frame.refl _
  · refine Frame.comp (State.resyncStage_frame _) rfl ?_
    refine Frame.comp (State.resyncPass_frame _) rfl ?_
    refine Frame.comp (State.exchanged_frame _) rfl ?_
    refine Frame.comp (State.renewAlone_frame _) rfl ?_
    refine Frame.comp (State.sendBeacon_frame _) rfl ?_
    refine Frame.comp (State.callPartner_frame _) rfl ?_
    refine Frame.comp (State.advanceTo_frame _ _) rfl ?_
    exact Frame.refl _

theorem State.createCq_frame (a0 : _) (a1 : _) (a2 : _) (a3 : State) : Frame 25774076126 a3 (State.createCq a0 a1 a2 a3) := by
  unfold State.createCq
  try extract_lets
  refine Frame.ite (fun _ => ?_) (fun _ => ?_)
  · refine Frame.comp (State.completeAdmin_frame _ _ _ _ _ _) rfl ?_
    exact Frame.refl _
  · refine Frame.ite (fun _ => ?_) (fun _ => ?_)
    · refine Frame.comp (State.completeAdmin_frame _ _ _ _ _ _) rfl ?_
      exact Frame.refl _
    · refine Frame.ite (fun _ => ?_) (fun _ => ?_)
      · refine Frame.comp (State.invalidField_frame _ _ _) rfl ?_
        exact Frame.refl _
      · refine Frame.ite (fun _ => ?_) (fun _ => ?_)
        · refine Frame.comp (State.completeAdmin_frame _ _ _ _ _ _) rfl ?_
          exact Frame.refl _
        · try extract_lets
          refine Frame.comp (State.completeAdmin_frame _ _ _ _ _ _) rfl ?_
          refine Frame.set_nvq rfl (fun _ => rfl) (fun _ => rfl) ?_
          exact Frame.refl _

theorem execCreateIoCq_frame (a0 : _) (a1 : _) (a2 : _) (a3 : _) (a4 : State) : Frame.Out 25774076127 a4 (execCreateIoCq a0 a1 a2 a3 a4) := by
  unfold execCreateIoCq
  refine Frame.next ?_
  refine State.admin_frame ?_ rfl ?_
  · intro _ _
    refine Frame.comp (State.createCq_frame _ _ _ _) rfl ?_
    assumption
  · refine Frame.comp (State.advanceTo_frame _ _) rfl ?_
    exact Frame.refl _

theorem State.dropRingAt_frame (a0 : _) (a1 : State) : Frame 8 a1 (State.dropRingAt a0 a1) := by
  unfold State.dropRingAt
  first | split | (dsimp +zetaDelta -proj only; split)
  · try extract_lets
    refine Frame.set_rcdr rfl (fun _ => rfl) ?_
    exact Frame.refl _
  · exact Frame.refl _

theorem State.tellPartner_frame (a0 : _) (a1 : State) : Frame 2151686144 a1 (State.tellPartner a0 a1) := by
  unfold State.tellPartner
  refine Frame.ite (fun _ => ?_) (fun _ => ?_)
  · refine Frame.comp (State.emit_frame _ _) rfl ?_
    exact Frame.refl _
  · refine Frame.comp (State.updMoor_frame _ _) rfl ?_
    exact Frame.refl _

theorem State.replSnap_frame (a0 : _) (a1 : State) : Frame 1171456533376 a1 (State.replSnap a0 a1).2 := by
  unfold State.replSnap
  first | split | (dsimp +zetaDelta -proj only; split)
  · exact Frame.refl _
  · first | split | (dsimp +zetaDelta -proj only; split)
    · exact Frame.refl _
    · refine Frame.comp (State.tellPartner_frame _ _) rfl ?_
      refine Frame.comp (State.takeSnap_frame _ _ _ _) rfl ?_
      exact Frame.refl _

theorem State.startSet_frame (a0 : _) (a1 : State) : Frame 1308895699934 a1 (State.startSet a0 a1).2 := by
  unfold State.startSet
  first | split | (dsimp +zetaDelta -proj only; split)
  · exact Frame.refl _
  · first | split | (dsimp +zetaDelta -proj only; split)
    · refine Frame.comp (State.record_frame _ _ _) rfl ?_
      exact Frame.refl _
    · first | split | (dsimp +zetaDelta -proj only; split)
      · refine Frame.comp (State.record_frame _ _ _) rfl ?_
        refine Frame.snd ?_ (by assumption)
        refine Frame.comp (State.replSnap_frame _ _) rfl ?_
        exact Frame.refl _
      · refine Frame.comp (State.sendReady_frame _) rfl ?_
        refine Frame.comp (State.updLink_frame _ _ _) rfl ?_
        refine Frame.snd ?_ (by assumption)
        refine Frame.comp (State.replSnap_frame _ _) rfl ?_
        exact Frame.refl _

theorem execPpsOutEdge_frame (a0 : _) (a1 : _) (a2 : State) : Frame.Out 4194305 a2 (execPpsOutEdge a0 a1 a2) := by
  unfold execPpsOutEdge
  try extract_lets
  refine Frame.next ?_
  refine Frame.ite (fun _ => ?_) (fun _ => ?_)
  · refine Frame.comp (State.advanceTo_frame _ _) rfl ?_
    exact Frame.refl _
  · refine Frame.comp (State.emit_frame _ _) rfl ?_
    refine Frame.set_time rfl ?_ ?_
    · first | exact Nat.le_refl _ | exact Nat.le_add_right _ _ | (dsimp only; split <;> exact Nat.le_refl _)
    refine Frame.comp (State.advanceTo_frame _ _) rfl ?_
    exact Frame.refl _

theorem State.goSlack_frame (a0 : _) (a1 : State) : Frame 552272474175 a1 (State.goSlack a0 a1) := by
  unfold State.goSlack
  try extract_lets
  refine Frame.set_md_faults_idm_moor rfl rfl rfl rfl (fun i => absurd i (by decide)) (fun i => absurd i (by decide)) (fun i => absurd i (by decide)) (fun _ => rfl) (fun i => absurd i (by decide)) ?_
  refine Frame.comp (State.changeMode_frame _ _ _) rfl ?_
  exact Frame.refl _

theorem State.enterSlack_frame (a0 : _) (a1 : State) : Frame 552272474431 a1 (State.enterSlack a0 a1) := by
  unfold State.enterSlack
  refine Frame.comp (State.goSlack_frame _ _) rfl ?_
  refine Frame.comp (State.checkpoint_frame _ _) rfl ?_
  exact Frame.refl _

theorem State.abortTest_frame (a0 : State) : Frame 1073741952 a0 (State.abortTest a0) := by
  unfold State.abortTest
  refine Frame.ite (fun _ => ?_) (fun _ => ?_)
  · exact Frame.refl _
  · refine Frame.set_nvq rfl (fun i => absurd i (by decide)) (fun _ => rfl) ?_
    exact Frame.refl _

theorem State.clearVolatile_frame (s : State) : Frame 824570806271 s (State.clearVolatile s) where
  pending := rfl
  time := fun i => absurd i (by decide)
  md := fun i => absurd i (by decide)
  regs := fun i => absurd i (by decide)
  rcdr := fun i => absurd i (by decide)
  tally := fun i => absurd i (by decide)
  faults := fun i => absurd i (by decide)
  adm := fun i => absurd i (by decide)
  nvq := fun i => absurd i (by decide)
  path := fun i => absurd i (by decide)
  ddup := fun i => absurd i (by decide)
  flash := fun i => absurd i (by decide)
  strp := fun i => absurd i (by decide)
  idm := fun i => absurd i (by decide)
  moor := fun i => absurd i (by decide)
  repl := fun i => absurd i (by decide)
  mem := fun i => absurd i (by decide)
  dma := fun i => absurd i (by decide)
  ciph := fun i => absurd i (by decide)
  ldg := fun i => absurd i (by decide)
  spi := fun i => absurd i (by decide)
  elec := fun i => absurd i (by decide)
  image := fun i => absurd i (by decide)
  outbox := fun _ => rfl
  free := fun _ => rfl
  mode := fun _ => rfl
  mdRest := fun i => absurd i (by decide)
  rcdrRest := fun i => absurd i (by decide)
  tallyRest := fun i => absurd i (by decide)
  dmaRest := fun i => absurd i (by decide)
  nvqRest := fun i => absurd i (by decide)
  moorRest := fun i => absurd i (by decide)
  regsRest := fun i => absurd i (by decide)
  resv := fun i => absurd i (by decide)
  held := fun i => absurd i (by decide)
  writes := fun i => absurd i (by decide)
  map := fun i => absurd i (by decide)
  slots := fun i => absurd i (by decide)
  retired := fun _ => rfl
  sessions := fun i => absurd i (by decide)
  ns := fun _ => rfl
  stripes := fun _ => rfl
  stored := fun _ => rfl
  now := Nat.le_refl _
  memWf := fun _ => rfl
  ldgWf := id
  sent := List.suffix_refl _

theorem State.enterReset_frame (a0 : _) (a1 : _) (a2 : State) : Frame 824604360703 a2 (State.enterReset a0 a1 a2) := by
  unfold State.enterReset
  try extract_lets
  refine Frame.comp (State.clearVolatile_frame _) rfl ?_
  refine Frame.set_md rfl (fun i => absurd i (by decide)) (fun i => absurd i (by decide)) ?_
  refine Frame.comp (State.changeMode_frame _ _ _) rfl ?_
  refine Frame.comp (State.abortTest_frame _) rfl ?_
  exact Frame.refl _

theorem State.thermalTrip_frame (a0 : _) (a1 : _) (a2 : State) : Frame 824604360703 a2 (State.thermalTrip a0 a1 a2) := by
  unfold State.thermalTrip
  refine Frame.ite (fun _ => ?_) (fun _ => ?_)
  · exact Frame.refl _
  · try extract_lets
    refine Frame.comp (State.record_frame _ _ _) rfl ?_
    refine Frame.set_md rfl (fun i => absurd i (by decide)) (fun i => absurd i (by decide)) ?_
    refine Frame.comp (State.enterReset_frame _ _ _) rfl ?_
    exact Frame.refl _

theorem State.setPathReg_frame (a0 : _) (a1 : _) (a2 : _) (a3 : State) : Frame 4294967300 a3 (State.setPathReg a0 a1 a2 a3) := by
  unfold State.setPathReg
  refine Frame.set_regs rfl (fun i => absurd i (by decide)) ?_
  exact Frame.refl _

theorem State.latchRecord_frame (a0 : _) (a1 : State) : Frame 4294967300 a1 (State.latchRecord a0 a1) := by
  unfold State.latchRecord
  first | split | (dsimp +zetaDelta -proj only; split)
  · refine Frame.foldl (fun _ _ _ => ?_) ?_
    · refine Frame.comp (State.setPathReg_frame _ _ _ _) rfl ?_
      assumption
    · exact Frame.refl _
  · refine Frame.comp (State.raise_frame _ _ _) rfl ?_
    exact Frame.refl _

theorem State.gateRead_frame {m : Nat} {s a3 : State} {a0 : _} {a1 : _} {a2 : _} (hact2 : ∀ x0 x1, Frame m s x1 → Frame m s (a2 x0 x1)) (hm : (4 ||| m == m) = true) (h : Frame m s a3) :
    Frame m s (State.gateRead a0 a1 a2 a3) := by
  unfold State.gateRead
  refine Frame.ite (fun _ => ?_) (fun _ => ?_)
  · assumption
  · refine Frame.ite (fun _ => ?_) (fun _ => ?_)
    · assumption
    · first | split | (dsimp +zetaDelta -proj only; split)
      · refine Frame.comp (State.unmapped_frame _) (le_mask rfl hm) ?_
        assumption
      · refine Frame.ite (fun _ => ?_) (fun _ => ?_)
        · refine Frame.comp (State.unmapped_frame _) (le_mask rfl hm) ?_
          assumption
        · refine hact2 _ _ ?_
          assumption

theorem execRecorderReadWindow_frame (a0 : _) (a1 : _) (a2 : State) : Frame.Out 4294967301 a2 (execRecorderReadWindow a0 a1 a2) := by
  unfold execRecorderReadWindow
  refine Frame.next ?_
  refine State.gateRead_frame ?_ rfl ?_
  · intro _ _ _
    refine Frame.comp (State.latchRecord_frame _ _) rfl ?_
    assumption
  · refine Frame.comp (State.advanceTo_frame _ _) rfl ?_
    exact Frame.refl _

theorem State.setReg_frame (a0 : _) (a1 : _) (a2 : State) : Frame 4 a2 (State.setReg a0 a1 a2) := by
  unfold State.setReg
  refine Frame.set_regs rfl (fun _ => rfl) ?_
  exact Frame.refl _

theorem State.setField_frame (a0 : _) (a1 : _) (a2 : _) (a3 : _) (a4 : State) : Frame 4 a4 (State.setField a0 a1 a2 a3 a4) := by
  unfold State.setField
  refine Frame.comp (State.setReg_frame _ _ _) rfl ?_
  exact Frame.refl _

theorem State.burnKey_frame (a0 : _) (a1 : State) : Frame 67174430 a1 (State.burnKey a0 a1) := by
  unfold State.burnKey
  refine Frame.ite (fun _ => ?_) (fun _ => ?_)
  · refine Frame.comp (State.ignored_frame _) rfl ?_
    exact Frame.refl _
  · try extract_lets
    refine Frame.comp (State.record_frame _ _ _) rfl ?_
    refine Frame.set_md rfl (fun _ => rfl) (fun i => absurd i (by decide)) ?_
    exact Frame.refl _

theorem State.writeKeyfuse_frame (a0 : _) (a1 : _) (a2 : State) : Frame 67174430 a2 (State.writeKeyfuse a0 a1 a2) := by
  unfold State.writeKeyfuse
  refine State.gateWrite_frame ?_ rfl ?_
  · intro _ _ _
    try extract_lets
    refine Frame.ite (fun _ => ?_) (fun _ => ?_)
    · refine Frame.comp (State.burnKey_frame _ _) rfl ?_
      try extract_lets
      refine Frame.set_md rfl (fun _ => rfl) (fun i => absurd i (by decide)) ?_
      refine Frame.comp (State.setField_frame _ _ _ _ _) rfl ?_
      assumption
    · try extract_lets
      refine Frame.set_md rfl (fun _ => rfl) (fun i => absurd i (by decide)) ?_
      refine Frame.comp (State.setField_frame _ _ _ _ _) rfl ?_
      assumption
  · exact Frame.refl _

theorem execKeyBurn_frame (a0 : _) (a1 : _) (a2 : _) (a3 : State) : Frame.Out 67174431 a3 (execKeyBurn a0 a1 a2 a3) := by
  unfold execKeyBurn
  refine Frame.next ?_
  refine Frame.comp (State.writeKeyfuse_frame _ _ _) rfl ?_
  refine Frame.comp (State.advanceTo_frame _ _) rfl ?_
  exact Frame.refl _

theorem State.updPool_frame (a0 : _) (a1 : _) (a2 : State) : Frame 32768 a2 (State.updPool a0 a1 a2) := by
  unfold State.updPool
  refine Frame.set_mem rfl ?_ ?_
  · exact id
  exact Frame.refl _

theorem State.balance_frame (a0 : _) (a1 : State) : Frame 32768 a1 (State.balance a0 a1) := by
  unfold State.balance
  refine Frame.comp (State.updPool_frame _ _ _) rfl ?_
  exact Frame.refl _

theorem State.grant_frame (a0 : _) (a1 : _) (a2 : State) : Frame 98334 a2 (State.grant a0 a1 a2) := by
  unfold State.grant
  first | split | (dsimp +zetaDelta -proj only; split)
  · try extract_lets
    try extract_lets
    try extract_lets
    refine Frame.comp (State.balance_frame _ _) rfl ?_
    refine Frame.comp (State.count_frame _ _) rfl ?_
    refine Frame.set_mem rfl ?_ ?_
    · exact id
    refine Frame.comp (State.updOwner_frame _ _ _) rfl ?_
    refine Frame.comp (State.updPool_frame _ _ _) rfl ?_
    exact Frame.refl _
  · refine Frame.comp (State.recordOnce_frame _ _ _ _) rfl ?_
    refine Frame.comp (State.count_frame _ _) rfl ?_
    refine Frame.comp (State.raise_frame _ _ _) rfl ?_
    exact Frame.refl _
  · try extract_lets
    refine Frame.comp (State.record_frame _ _ _) rfl ?_
    refine Frame.comp (State.updOwner_frame _ _ _) rfl ?_
    refine Frame.comp (State.raise_frame _ _ _) rfl ?_
    exact Frame.refl _
  · exact Frame.refl _

theorem State.requestFor_frame (a0 : _) (a1 : _) (a2 : _) (a3 : _) (a4 : State) : Frame 98334 a4 (State.requestFor a0 a1 a2 a3 a4) := by
  unfold State.requestFor
  try extract_lets
  try extract_lets
  try extract_lets
  try extract_lets
  refine Frame.set_mem rfl ?_ ?_
  · exact id
  refine Frame.ite (fun _ => ?_) (fun _ => ?_)
  · refine Frame.comp (State.count_frame _ _) rfl ?_
    refine Frame.comp (State.grant_frame _ _ _) rfl ?_
    exact Frame.refl _
  · refine Frame.comp (State.grant_frame _ _ _) rfl ?_
    exact Frame.refl _

theorem State.serveWaiting_frame (a0 : State) : Frame 98334 a0 (State.serveWaiting a0) := by
  unfold State.serveWaiting
  refine Frame.foldl (fun _ _ _ => ?_) ?_
  · refine Frame.comp (State.requestFor_frame _ _ _ _ _) rfl ?_
    assumption
  · exact Frame.refl _

theorem State.ontoChain_frame (a0 : _) (a1 : _) (a2 : _) (a3 : State) : Frame 32768 a3 (State.ontoChain a0 a1 a2 a3) := by
  unfold State.ontoChain
  first | split | (dsimp +zetaDelta -proj only; split)
  · exact Frame.refl _
  · try extract_lets
    refine Frame.comp (State.updPool_frame _ _ _) rfl ?_
    refine Frame.comp (State.linkChain_frame _ _ _ _) rfl ?_
    exact Frame.refl _

theorem execChainRebuilt_frame (a0 : _) (a1 : _) (a2 : State) : Frame.Out 98335 a2 (execChainRebuilt a0 a1 a2) := by
  unfold execChainRebuilt
  try extract_lets
  refine Frame.next ?_
  first | split | (dsimp +zetaDelta -proj only; split)
  · refine Frame.comp (State.advanceTo_frame _ _) rfl ?_
    exact Frame.refl _
  · refine Frame.ite (fun _ => ?_) (fun _ => ?_)
    · refine Frame.comp (State.advanceTo_frame _ _) rfl ?_
      exact Frame.refl _
    · try extract_lets
      refine Frame.comp (State.serveWaiting_frame _) rfl ?_
      refine Frame.comp (State.record_frame _ _ _) rfl ?_
      refine Frame.comp (State.balance_frame _ _) rfl ?_
      refine Frame.comp (State.ontoChain_frame _ _ _ _) rfl ?_
      refine Frame.comp (State.updPool_frame _ _ _) rfl ?_
      refine Frame.comp (State.advanceTo_frame _ _) rfl ?_
      exact Frame.refl _

theorem State.sendAccept_frame (a0 : _) (a1 : _) (a2 : State) : Frame 137443344414 a2 (State.sendAccept a0 a1 a2) := by
  unfold State.sendAccept
  refine Frame.ite (fun _ => ?_) (fun _ => ?_)
  · refine Frame.comp (State.emit_frame _ _) rfl ?_
    exact Frame.refl _
  · first | split | (dsimp +zetaDelta -proj only; split)
    · refine Frame.comp (State.emit_frame _ _) rfl ?_
      refine Frame.snd ?_ (by assumption)
      refine Frame.comp (State.takeCounter_frame _ _) rfl ?_
      exact Frame.refl _
    · refine Frame.snd ?_ (by assumption)
      refine Frame.comp (State.takeCounter_frame _ _) rfl ?_
      exact Frame.refl _

theorem State.holdupLedger_frame (a0 : State) : Frame 138739742 a0 (State.holdupLedger a0) := by
  unfold State.holdupLedger
  refine Frame.ite (fun _ => ?_) (fun _ => ?_)
  · exact Frame.refl _
  · try extract_lets
    try extract_lets
    try extract_lets
    try extract_lets
    try extract_lets
    try extract_lets
    refine Frame.foldl (fun _ _ _ => ?_) ?_
    · refine Frame.comp (State.holdupProg_frame _ _) rfl ?_
      assumption
    · refine Frame.foldl (fun _ _ _ => ?_) ?_
      · refine Frame.comp (State.holdupProg_frame _ _) rfl ?_
        assumption
      · refine Frame.set_ldg rfl ?_ ?_
        · exact id
        refine Frame.comp (State.updBank_frame _ _ _) rfl ?_
        refine Frame.comp (State.updBank_frame _ _ _) rfl ?_
        exact Frame.refl _

theorem State.sealLanding_frame (a0 : State) : Frame 6631429505344 a0 (State.sealLanding a0) := by
  unfold State.sealLanding
  try extract_lets
  try extract_lets
  refine Frame.comp (State.markSealed_frame _) rfl ?_
  refine Frame.set_path rfl (fun _ => rfl) (fun i => absurd i (by decide)) (fun i => absurd i (by decide)) ?_
  refine Frame.comp (State.closeStripe_frame _ _) rfl ?_
  refine Frame.comp (State.closeStripe_frame _ _) rfl ?_
  exact Frame.refl _

theorem execHoldupComplete_frame (a0 : _) (a1 : State) : Frame.Out 7421678321663 a1 (execHoldupComplete a0 a1) := by
  unfold execHoldupComplete
  try extract_lets
  refine Frame.next ?_
  refine Frame.ite (fun _ => ?_) (fun _ => ?_)
  · refine Frame.comp (State.advanceTo_frame _ _) rfl ?_
    exact Frame.refl _
  · try extract_lets
    refine Frame.comp (State.enterReset_frame _ _ _) rfl ?_
    refine Frame.set_md rfl (fun i => absurd i (by decide)) (fun i => absurd i (by decide)) ?_
    refine Frame.comp (State.holdupLedger_frame _) rfl ?_
    refine Frame.comp (State.checkpoint_frame _ _) rfl ?_
    refine Frame.comp (State.sealLanding_frame _) rfl ?_
    refine Frame.comp (State.advanceTo_frame _ _) rfl ?_
    exact Frame.refl _

theorem State.renewPartner_frame (a0 : _) (a1 : State) : Frame 2147491840 a1 (State.renewPartner a0 a1) := by
  unfold State.renewPartner
  refine Frame.comp (State.updMoor_frame _ _) rfl ?_
  exact Frame.refl _

theorem State.beaconLease_frame (a0 : _) (a1 : _) (a2 : State) : Frame 2147491840 a2 (State.beaconLease a0 a1 a2) := by
  unfold State.beaconLease
  try extract_lets
  try extract_lets
  try extract_lets
  try extract_lets
  refine Frame.ite (fun _ => ?_) (fun _ => ?_)
  · first | split | (dsimp +zetaDelta -proj only; split)
    · refine Frame.comp (State.updMoor_frame _ _) rfl ?_
      refine Frame.comp (State.renewOwn_frame _ _) rfl ?_
      refine Frame.ite (fun _ => ?_) (fun _ => ?_)
      · refine Frame.comp (State.updMoor_frame _ _) rfl ?_
        refine Frame.comp (State.renewPartner_frame _ _) rfl ?_
        exact Frame.refl _
      · exact Frame.refl _
    · refine Frame.ite (fun _ => ?_) (fun _ => ?_)
      · refine Frame.comp (State.updMoor_frame _ _) rfl ?_
        refine Frame.comp (State.renewPartner_frame _ _) rfl ?_
        exact Frame.refl _
      · exact Frame.refl _
  · refine Frame.ite (fun _ => ?_) (fun _ => ?_)
    · refine Frame.comp (State.updMoor_frame _ _) rfl ?_
      refine Frame.comp (State.renewPartner_frame _ _) rfl ?_
      exact Frame.refl _
    · exact Frame.refl _

theorem State.setSeq_frame (a0 : _) (a1 : State) : Frame 262144 a1 (State.setSeq a0 a1) := by
  unfold State.setSeq
  refine Frame.set_ldg rfl ?_ ?_
  · exact id
  exact Frame.refl _

theorem State.suspendCall_frame (a0 : _) (a1 : _) (a2 : State) : Frame 4522014 a2 (State.suspendCall a0 a1 a2) := by
  unfold State.suspendCall
  try extract_lets
  try extract_lets
  refine Frame.ite (fun _ => ?_) (fun _ => ?_)
  · refine Frame.comp (State.ldgRefuse_frame _ _ _ _ _) rfl ?_
    exact Frame.refl _
  · refine Frame.comp (State.askSuspend_frame _ _ _ _) rfl ?_
    exact Frame.refl _

theorem State.breakSeq_frame (a0 : _) (a1 : _) (a2 : State) : Frame 327710 a2 (State.breakSeq a0 a1 a2) := by
  unfold State.breakSeq
  try extract_lets
  refine Frame.comp (State.recordOnce_frame _ _ _ _) rfl ?_
  refine Frame.comp (State.ignored_frame _) rfl ?_
  refine Frame.comp (State.raise_frame _ _ _) rfl ?_
  refine Frame.comp (State.deassertLine_frame _ _) rfl ?_
  refine Frame.comp (State.deassertLine_frame _ _) rfl ?_
  refine Frame.set_ldg rfl ?_ ?_
  · exact id
  exact Frame.refl _

theorem State.doResume_frame (a0 : _) (a1 : State) : Frame 262144 a1 (State.doResume a0 a1) := by
  unfold State.doResume
  refine Frame.ite (fun _ => ?_) (fun _ => ?_)
  · exact Frame.refl _
  · refine Frame.comp (State.updBank_frame _ _ _) rfl ?_
    exact Frame.refl _

theorem State.resumeCall_frame (a0 : _) (a1 : _) (a2 : State) : Frame 4522014 a2 (State.resumeCall a0 a1 a2) := by
  unfold State.resumeCall
  try extract_lets
  try extract_lets
  refine Frame.ite (fun _ => ?_) (fun _ => ?_)
  · refine Frame.comp (State.ldgRefuse_frame _ _ _ _ _) rfl ?_
    exact Frame.refl _
  · refine Frame.comp (State.ldgResult_frame _ _ _) rfl ?_
    refine Frame.comp (State.doResume_frame _ _) rfl ?_
    exact Frame.refl _

theorem State.endSeq_frame (a0 : State) : Frame 327680 a0 (State.endSeq a0) := by
  unfold State.endSeq
  try extract_lets
  refine Frame.comp (State.deassertLine_frame _ _) rfl ?_
  refine Frame.comp (State.deassertLine_frame _ _) rfl ?_
  refine Frame.set_ldg rfl ?_ ?_
  · exact id
  exact Frame.refl _

theorem State.windowCommand_frame (a0 : _) (a1 : _) (a2 : State) : Frame 4522014 a2 (State.windowCommand a0 a1 a2) := by
  unfold State.windowCommand
  try extract_lets
  refine Frame.ite (fun _ => ?_) (fun _ => ?_)
  · refine Frame.comp (State.setSeq_frame _ _) rfl ?_
    exact Frame.refl _
  · refine Frame.ite (fun _ => ?_) (fun _ => ?_)
    · refine Frame.comp (State.assertLine_frame _ _) rfl ?_
      refine Frame.comp (State.setSeq_frame _ _) rfl ?_
      exact Frame.refl _
    · refine Frame.ite (fun _ => ?_) (fun _ => ?_)
      · refine Frame.comp (State.suspendCall_frame _ _ _) rfl ?_
        refine Frame.comp (State.endSeq_frame _) rfl ?_
        exact Frame.refl _
      · refine Frame.ite (fun _ => ?_) (fun _ => ?_)
        · refine Frame.comp (State.resumeCall_frame _ _ _) rfl ?_
          refine Frame.comp (State.endSeq_frame _) rfl ?_
          exact Frame.refl _
        · refine Frame.comp (State.breakSeq_frame _ _ _) rfl ?_
          exact Frame.refl _

theorem execWindowSequenceTimeout_frame (a0 : _) (a1 : State) : Frame.Out 327711 a1 (execWindowSequenceTimeout a0 a1) := by
  unfold execWindowSequenceTimeout
  try extract_lets
  refine Frame.next ?_
  first | split | (dsimp +zetaDelta -proj only; split)
  · refine Frame.ite (fun _ => ?_) (fun _ => ?_)
    · refine Frame.comp (State.breakSeq_frame _ _ _) rfl ?_
      refine Frame.comp (State.advanceTo_frame _ _) rfl ?_
      exact Frame.refl _
    · refine Frame.comp (State.advanceTo_frame _ _) rfl ?_
      exact Frame.refl _
  · refine Frame.comp (State.advanceTo_frame _ _) rfl ?_
    exact Frame.refl _

theorem State.spill_frame (a0 : _) (a1 : State) : Frame 32784 a1 (State.spill a0 a1) := by
  unfold State.spill
  first | split | (dsimp +zetaDelta -proj only; split)
  · exact Frame.refl _
  · try extract_lets
    refine Frame.comp (State.count_frame _ _) rfl ?_
    refine Frame.comp (State.ontoChain_frame _ _ _ _) rfl ?_
    refine Frame.comp (State.updPool_frame _ _ _) rfl ?_
    exact Frame.refl _

theorem State.cutQuotas_frame : ∀ (l : List Nat) (n : Nat) (s : State), Frame 32768 s (State.cutQuotas l n s)
  | [], _, s => Frame.refl s
  | _ :: rest, _, s => by
    unfold State.cutQuotas
    refine Frame.ite (fun _ => Frame.refl _) (fun _ => ?_)
    exact Frame.comp (State.cutQuotas_frame rest _ _) rfl (Frame.comp (State.updOwner_frame _ _ _) rfl (Frame.refl _))

theorem State.withdraw_frame (a0 : _) (a1 : _) (a2 : State) : Frame 32768 a2 (State.withdraw a0 a1 a2) := by
  unfold State.withdraw
  try extract_lets
  try extract_lets
  refine Frame.comp (State.cutQuotas_frame _ _ _) rfl ?_
  refine Frame.comp (State.updPool_frame _ _ _) rfl ?_
  refine Frame.set_mem rfl ?_ ?_
  · exact id
  exact Frame.refl _

theorem State.release_frame (a0 : _) (a1 : _) (a2 : _) (a3 : State) : Frame 98334 a3 (State.release a0 a1 a2 a3) := by
  unfold State.release
  try extract_lets
  try extract_lets
  refine Frame.ite (fun _ => ?_) (fun _ => ?_)
  · refine Frame.comp (State.withdraw_frame _ _ _) rfl ?_
    refine Frame.comp (State.count_frame _ _) rfl ?_
    refine Frame.comp (State.updOwner_frame _ _ _) rfl ?_
    refine Frame.set_mem rfl ?_ ?_
    · exact id
    exact Frame.refl _
  · try extract_lets
    refine Frame.comp (State.serveWaiting_frame _) rfl ?_
    refine Frame.comp (State.balance_frame _ _) rfl ?_
    refine Frame.comp (State.updPool_frame _ _ _) rfl ?_
    first | split | (dsimp +zetaDelta -proj only; split)
    · refine Frame.ite (fun _ => ?_) (fun _ => ?_)
      · refine Frame.comp (State.spill_frame _ _) rfl ?_
        refine Frame.comp (State.count_frame _ _) rfl ?_
        refine Frame.comp (State.updOwner_frame _ _ _) rfl ?_
        refine Frame.set_mem rfl ?_ ?_
        · exact id
        exact Frame.refl _
      · refine Frame.comp (State.count_frame _ _) rfl ?_
        refine Frame.comp (State.updOwner_frame _ _ _) rfl ?_
        refine Frame.set_mem rfl ?_ ?_
        · exact id
        exact Frame.refl _
    · refine Frame.comp (State.count_frame _ _) rfl ?_
      refine Frame.comp (State.updOwner_frame _ _ _) rfl ?_
      refine Frame.set_mem rfl ?_ ?_
      · exact id
      exact Frame.refl _

theorem execStripeClose_frame (a0 : _) (a1 : _) (a2 : State) : Frame.Out 7966095012831 a2 (execStripeClose a0 a1 a2) := by
  unfold execStripeClose
  try extract_lets
  try extract_lets
  refine Frame.next ?_
  first | split | (dsimp +zetaDelta -proj only; split)
  · refine Frame.comp (State.advanceTo_frame _ _) rfl ?_
    exact Frame.refl _
  · refine Frame.ite (fun _ => ?_) (fun _ => ?_)
    · refine Frame.comp (State.advanceTo_frame _ _) rfl ?_
      exact Frame.refl _
    · refine Frame.comp (State.sealStripe_frame _ _ _) rfl ?_
      refine Frame.comp (State.closeStripe_frame _ _) rfl ?_
      refine Frame.comp (State.advanceTo_frame _ _) rfl ?_
      exact Frame.refl _

theorem State.authFail_frame (a0 : _) (a1 : State) : Frame 65566 a1 (State.authFail a0 a1) := by
  unfold State.authFail
  refine Frame.comp (State.count_frame _ _) rfl ?_
  refine Frame.comp (State.recordOnce_frame _ _ _ _) rfl ?_
  refine Frame.comp (State.raise_frame _ _ _) rfl ?_
  exact Frame.refl _

theorem State.badPacket_frame (a0 : _) (a1 : _) (a2 : State) : Frame 65566 a2 (State.badPacket a0 a1 a2) := by
  unfold State.badPacket
  try extract_lets
  refine Frame.ite (fun _ => ?_) (fun _ => ?_)
  · refine Frame.comp (State.count_frame _ _) rfl ?_
    refine Frame.comp (State.recordOnce_frame _ _ _ _) rfl ?_
    refine Frame.comp (State.raise_frame _ _ _) rfl ?_
    exact Frame.refl _
  · refine Frame.comp (State.recordOnce_frame _ _ _ _) rfl ?_
    refine Frame.comp (State.raise_frame _ _ _) rfl ?_
    exact Frame.refl _

theorem State.arrive_frame {m : Nat} {s a2 : State} {a0 : _} {a1 : _} (hact1 : ∀ x0 x1 x2, Frame m s x2 → Frame m s (a1 x0 x1 x2)) (hm : (549760077854 ||| m == m) = true) (h : Frame m s a2) :
    Frame m s (State.arrive a0 a1 a2) := by
  unfold State.arrive
  refine Frame.ite (fun _ => ?_) (fun _ => ?_)
  · assumption
  · refine Frame.ite (fun _ => ?_) (fun _ => ?_)
    · refine Frame.comp (State.badPacket_frame _ _ _) (le_mask rfl hm) ?_
      assumption
    · first | split | (dsimp +zetaDelta -proj only; split)
      · refine Frame.ite (fun _ => ?_) (fun _ => ?_)
        · assumption
        · refine Frame.comp (State.emit_frame _ _) (le_mask rfl hm) ?_
          assumption
      · refine Frame.ite (fun _ => ?_) (fun _ => ?_)
        · refine Frame.comp (State.emit_frame _ _) (le_mask rfl hm) ?_
          assumption
        · refine Frame.ite (fun _ => ?_) (fun _ => ?_)
          · refine Frame.comp (State.authFail_frame _ _) (le_mask rfl hm) ?_
            assumption
          · try extract_lets
            refine hact1 _ _ _ ?_
            refine Frame.comp (State.count_frame _ _) (le_mask rfl hm) ?_
            refine Frame.comp (State.updSession_frame _ _ _) (le_mask rfl hm) ?_
            assumption

theorem State.writeQuota_frame (a0 : _) (a1 : _) (a2 : State) : Frame 32772 a2 (State.writeQuota a0 a1 a2) := by
  unfold State.writeQuota
  refine State.gateWrite_frame ?_ rfl ?_
  · intro _ _ _
    try extract_lets
    refine Frame.ite (fun _ => ?_) (fun _ => ?_)
    · refine Frame.comp (State.ignored_frame _) rfl ?_
      assumption
    · refine Frame.comp (State.updOwner_frame _ _ _) rfl ?_
      assumption
  · exact Frame.refl _

theorem State.setLane_frame (a0 : _) (a1 : _) (a2 : State) : Frame 32 a2 (State.setLane a0 a1 a2) := by
  unfold State.setLane
  refine Frame.set_faults rfl (fun _ => rfl) ?_
  exact Frame.refl _

theorem State.setChan_frame (a0 : _) (a1 : _) (a2 : State) : Frame 536936448 a2 (State.setChan a0 a1 a2) := by
  unfold State.setChan
  refine Frame.set_dma rfl (fun i => absurd i (by decide)) ?_
  exact Frame.refl _

theorem State.setChead_frame (a0 : _) (a1 : _) (a2 : State) : Frame 4 a2 (State.setChead a0 a1 a2) := by
  unfold State.setChead
  refine Frame.comp (State.setReg_frame _ _ _) rfl ?_
  exact Frame.refl _

theorem State.dropCur_frame (a0 : _) (a1 : State) : Frame 536936452 a1 (State.dropCur a0 a1) := by
  unfold State.dropCur
  first | split | (dsimp +zetaDelta -proj only; split)
  · refine Frame.comp (State.setChan_frame _ _ _) rfl ?_
    refine Frame.comp (State.setChead_frame _ _ _) rfl ?_
    exact Frame.refl _
  · exact Frame.refl _

theorem State.stopChan_frame (a0 : _) (a1 : State) : Frame 536936452 a1 (State.stopChan a0 a1) := by
  unfold State.stopChan
  try extract_lets
  refine Frame.comp (State.setChan_frame _ _ _) rfl ?_
  refine Frame.comp (State.dropCur_frame _ _) rfl ?_
  exact Frame.refl _

theorem State.clearEn_frame (a0 : _) (a1 : State) : Frame 4 a1 (State.clearEn a0 a1) := by
  unfold State.clearEn
  refine Frame.comp (State.setReg_frame _ _ _) rfl ?_
  exact Frame.refl _

theorem State.windowProgram_frame (a0 : _) (a1 : _) (a2 : State) : Frame 138739742 a2 (State.windowProgram a0 a1 a2) := by
  unfold State.windowProgram
  try extract_lets
  refine Frame.ite (fun _ => ?_) (fun _ => ?_)
  · refine Frame.comp (State.startProg_frame _ _) rfl ?_
    exact Frame.refl _
  · try extract_lets
    first | split | (dsimp +zetaDelta -proj only; split)
    · refine Frame.comp (State.flushRefused_frame _ _ _) rfl ?_
      refine Frame.comp (State.ldgRefuse_frame _ _ _ _ _) rfl ?_
      exact Frame.refl _
    · refine Frame.comp (State.ldgRefuse_frame _ _ _ _ _) rfl ?_
      exact Frame.refl _

theorem State.windowData_frame (a0 : _) (a1 : _) (a2 : _) (a3 : State) : Frame 138739742 a3 (State.windowData a0 a1 a2 a3) := by
  unfold State.windowData
  try extract_lets
  try extract_lets
  refine Frame.ite (fun _ => ?_) (fun _ => ?_)
  · refine Frame.comp (State.breakSeq_frame _ _ _) rfl ?_
    exact Frame.refl _
  · refine Frame.ite (fun _ => ?_) (fun _ => ?_)
    · refine Frame.comp (State.windowProgram_frame _ _ _) rfl ?_
      refine Frame.comp (State.endSeq_frame _) rfl ?_
      exact Frame.refl _
    · refine Frame.comp (State.setSeq_frame _ _) rfl ?_
      exact Frame.refl _

theorem State.eraseCall_frame (a0 : _) (a1 : _) (a2 : State) : Frame 4522014 a2 (State.eraseCall a0 a1 a2) := by
  unfold State.eraseCall
  try extract_lets
  refine Frame.ite (fun _ => ?_) (fun _ => ?_)
  · refine Frame.comp (State.ldgRefuse_frame _ _ _ _ _) rfl ?_
    exact Frame.refl _
  · refine Frame.ite (fun _ => ?_) (fun _ => ?_)
    · refine Frame.set_ldg rfl ?_ ?_
      · exact id
      exact Frame.refl _
    · refine Frame.comp (State.ldgResult_frame _ _ _) rfl ?_
      refine Frame.comp (State.startSectorErase_frame _ _ _) rfl ?_
      exact Frame.refl _

theorem State.windowWrite_frame (o : Nat) (bytes : List Byte) (s : State) : Frame 138739742 s (State.windowWrite o bytes s) := by
  unfold State.windowWrite
  extract_lets b x v word expired s1
  have h1 : Frame 138739742 s s1 := by
    show Frame 138739742 s (match s.ldg.seq with | some q => if expired then s.breakSeq q.bank q.step else s | none => s)
    split
    · exact Frame.ite (fun _ => Frame.comp (State.breakSeq_frame _ _ _) rfl (Frame.refl _)) (fun _ => Frame.refl _)
    · exact Frame.refl _
  clear_value s1
  have brk : ∀ i j, Frame 138739742 s (s1.breakSeq i j) := fun i j => Frame.comp (State.breakSeq_frame _ _ _) rfl h1
  have set : ∀ q, Frame 138739742 s (s1.setSeq q) := fun q => Frame.comp (State.setSeq_frame _ _) rfl h1
  split
  · exact Frame.ite (fun _ => set _) (fun _ => brk _ _)
  · refine Frame.ite (fun _ => brk _ _) (fun _ => Frame.ite (fun _ => Frame.ite (fun _ => set _) (fun _ => brk _ _)) (fun _ => ?_))
    refine Frame.ite (fun _ => Frame.ite (fun _ => ?_) (fun _ => brk _ _)) (fun _ => Frame.ite (fun _ => Frame.ite (fun _ => ?_)
      (fun _ => brk _ _)) (fun _ => ?_))
    · exact Frame.comp (State.windowCommand_frame _ _ _) rfl h1
    · exact Frame.comp (State.eraseCall_frame _ _ _) rfl (Frame.comp (State.endSeq_frame _) rfl h1)
    · exact Frame.comp (State.windowData_frame _ _ _ _) rfl h1

theorem State.ldgWrites_frame (o : Nat) : ∀ (n : Nat) (bs : List Byte) (s : State), Frame 138739742 s (State.ldgWrites o n bs s)
  | 0, _, s => Frame.refl s
  | n + 1, _, s => by
    unfold State.ldgWrites
    refine Frame.ite (fun _ => Frame.refl _) (fun _ => ?_)
    exact Frame.comp (State.ldgWrites_frame (o + 32) n _ _) rfl (Frame.comp (State.windowWrite_frame _ _ _) rfl (Frame.refl _))

theorem State.haltDma_frame (a0 : _) (a1 : _) (a2 : _) (a3 : State) : Frame 536936478 a3 (State.haltDma a0 a1 a2 a3) := by
  unfold State.haltDma
  try extract_lets
  refine Frame.comp (State.record_frame _ _ _) rfl ?_
  refine Frame.set_dma rfl (fun i => absurd i (by decide)) ?_
  refine Frame.foldl (fun _ _ _ => ?_) ?_
  · refine Frame.comp (State.dropCur_frame _ _) rfl ?_
    assumption
  · exact Frame.refl _

theorem State.latchFault_frame (a0 : _) (a1 : _) (a2 : _) (a3 : _) (a4 : State) : Frame 536936478 a4 (State.latchFault a0 a1 a2 a3 a4) := by
  unfold State.latchFault
  refine Frame.ite (fun _ => ?_) (fun _ => ?_)
  · refine Frame.comp (State.count_frame _ _) rfl ?_
    exact Frame.refl _
  · try extract_lets
    refine Frame.comp (State.record_frame _ _ _) rfl ?_
    refine Frame.comp (State.raise_frame _ _ _) rfl ?_
    refine Frame.set_dma rfl (fun i => absurd i (by decide)) ?_
    exact Frame.refl _

theorem State.busFault_frame (a0 : _) (a1 : _) (a2 : _) (a3 : _) (a4 : State) : Frame 536936478 a4 (State.busFault a0 a1 a2 a3 a4) := by
  unfold State.busFault
  refine Frame.comp (State.haltDma_frame _ _ _ _) rfl ?_
  refine Frame.comp (State.latchFault_frame _ _ _ _ _) rfl ?_
  exact Frame.refl _

theorem State.dmaWrite_frame (c a : Nat) (bs : List Byte) (s : State) : Frame 675643422 s (State.dmaWrite c a bs s).2 := by
  unfold State.dmaWrite
  generalize State.translate s a bs.length true = tr
  cases tr with
  | fault k =>
    dsimp only
    exact Frame.comp (State.busFault_frame _ _ _ _ _) rfl (Frame.refl _)
  | at_ p =>
    dsimp only
    generalize hb : p - ldgBase = o
    clear hb
    split
    · exact Frame.comp (State.memWrite_frame _ _ _) rfl (Frame.refl _)
    · split
      · exact Frame.comp (State.ignored_frame _) rfl (Frame.refl _)
      · exact Frame.comp (State.ldgWrites_frame _ _ _ _) rfl (Frame.refl _)

theorem State.writeBack_frame (a0 : _) (a1 : _) (a2 : _) (a3 : _) (a4 : State) : Frame 675643422 a4 (State.writeBack a0 a1 a2 a3 a4).2 := by
  unfold State.writeBack
  first | split | (dsimp +zetaDelta -proj only; split)
  · refine Frame.snd ?_ (by assumption)
    refine Frame.comp (State.dmaWrite_frame _ _ _ _) rfl ?_
    exact Frame.refl _
  · refine Frame.snd ?_ (by assumption)
    refine Frame.comp (State.dmaWrite_frame _ _ _ _) rfl ?_
    exact Frame.refl _

theorem State.descDone_frame (a0 : _) (a1 : _) (a2 : _) (a3 : State) : Frame 675643422 a3 (State.descDone a0 a1 a2 a3) := by
  unfold State.descDone
  first | split | (dsimp +zetaDelta -proj only; split)
  · refine Frame.snd ?_ (by assumption)
    refine Frame.comp (State.writeBack_frame _ _ _ _ _) rfl ?_
    exact Frame.refl _
  · try extract_lets
    try extract_lets
    try extract_lets
    refine Frame.ite (fun _ => ?_) (fun _ => ?_)
    · refine Frame.comp (State.stopChan_frame _ _) rfl ?_
      refine Frame.comp (State.clearEn_frame _ _) rfl ?_
      refine Frame.ite (fun _ => ?_) (fun _ => ?_)
      · refine Frame.comp (State.raise_frame _ _ _) rfl ?_
        refine Frame.comp (State.setChan_frame _ _ _) rfl ?_
        refine Frame.snd ?_ (by assumption)
        refine Frame.comp (State.writeBack_frame _ _ _ _ _) rfl ?_
        exact Frame.refl _
      · refine Frame.comp (State.setChan_frame _ _ _) rfl ?_
        refine Frame.snd ?_ (by assumption)
        refine Frame.comp (State.writeBack_frame _ _ _ _ _) rfl ?_
        exact Frame.refl _
    · refine Frame.ite (fun _ => ?_) (fun _ => ?_)
      · refine Frame.comp (State.raise_frame _ _ _) rfl ?_
        refine Frame.comp (State.setChan_frame _ _ _) rfl ?_
        refine Frame.snd ?_ (by assumption)
        refine Frame.comp (State.writeBack_frame _ _ _ _ _) rfl ?_
        exact Frame.refl _
      · refine Frame.comp (State.setChan_frame _ _ _) rfl ?_
        refine Frame.snd ?_ (by assumption)
        refine Frame.comp (State.writeBack_frame _ _ _ _ _) rfl ?_
        exact Frame.refl _

theorem State.serveLine_frame (a0 : _) (a1 : State) : Frame 65536 a1 (State.serveLine a0 a1) := by
  unfold State.serveLine
  try extract_lets
  refine Frame.ite (fun _ => ?_) (fun _ => ?_)
  · exact Frame.refl _
  · refine Frame.comp (State.deassertLine_frame _ _) rfl ?_
    exact Frame.refl _

theorem State.tallyDeliver_frame (a0 : _) (a1 : State) : Frame 575529890014 a1 (State.tallyDeliver a0 a1) := by
  unfold State.tallyDeliver
  refine Frame.comp (State.completeAdmin_frame _ _ _ _ _ _) rfl ?_
  refine Frame.comp (State.adminData_frame _ _ _ _) rfl ?_
  exact Frame.refl _

theorem State.tallyDone_frame (a0 : State) : Frame 575798325470 a0 (State.tallyDone a0) := by
  unfold State.tallyDone
  try extract_lets
  try extract_lets
  try extract_lets
  refine Frame.foldl (fun _ _ _ => ?_) ?_
  · refine Frame.comp (State.tallyDeliver_frame _ _) rfl ?_
    assumption
  · refine Frame.comp (State.raise_frame _ _ _) rfl ?_
    refine Frame.comp (State.deassertLine_frame _ _) rfl ?_
    refine Frame.set_tally rfl (fun i => absurd i (by decide)) ?_
    exact Frame.refl _

theorem State.tallyMoved_frame (a0 : _) (a1 : _) (a2 : State) : Frame 575798325470 a2 (State.tallyMoved a0 a1 a2) := by
  unfold State.tallyMoved
  try extract_lets
  refine Frame.ite (fun _ => ?_) (fun _ => ?_)
  · refine Frame.ite (fun _ => ?_) (fun _ => ?_)
    · refine Frame.comp (State.tallyDone_frame _) rfl ?_
      exact Frame.refl _
    · refine Frame.set_tally rfl (fun i => absurd i (by decide)) ?_
      exact Frame.refl _
  · exact Frame.refl _

theorem State.busyRead_frame (a0 : _) (a1 : _) (a2 : State) : Frame 65566 a2 (State.busyRead a0 a1 a2) := by
  unfold State.busyRead
  refine Frame.comp (State.recordOnce_frame _ _ _ _) rfl ?_
  refine Frame.comp (State.raise_frame _ _ _) rfl ?_
  exact Frame.refl _

theorem State.consumed_frame (a0 : _) (a1 : _) (a2 : State) : Frame 65566 a2 (State.consumed a0 a1 a2) := by
  unfold State.consumed
  refine Frame.comp (State.record_frame _ _ _) rfl ?_
  exact Frame.refl _

theorem State.dmaRead_frame (c a n : Nat) (s : State) : Frame 536936478 s (State.dmaRead c a n s).2 := by
  unfold State.dmaRead
  generalize State.translate s a n false = tr
  cases tr with
  | fault k =>
    dsimp only
    exact Frame.comp (State.busFault_frame _ _ _ _ _) rfl (Frame.refl _)
  | at_ p =>
    dsimp only
    generalize hb : p - ldgBase = o
    generalize hr : (List.range n).map (fun i => Config.romByte (p - 0x180000000 + i)) = rom
    clear hb hr
    split
    · split
      · dsimp only
        exact Frame.comp (State.busFault_frame _ _ _ _ _) rfl (Frame.comp (State.consumed_frame _ _ _) rfl (Frame.refl _))
      · exact Frame.refl _
    · split
      · exact Frame.refl _
      · split
        · dsimp only
          exact Frame.comp (State.haltDma_frame _ _ _ _) rfl (Frame.comp (State.busyRead_frame _ _ _) rfl (Frame.refl _))
        · exact Frame.refl _

theorem State.setBulk_frame (a0 : _) (a1 : _) (a2 : State) : Frame 524288 a2 (State.setBulk a0 a1 a2) := by
  unfold State.setBulk
  refine Frame.set_spi rfl ?_
  exact Frame.refl _

theorem State.bulkMoved_frame (a0 : _) (a1 : _) (a2 : _) (a3 : _) (a4 : State) : Frame 589828 a4 (State.bulkMoved a0 a1 a2 a3 a4) := by
  unfold State.bulkMoved
  try extract_lets
  try extract_lets
  refine Frame.ite (fun _ => ?_) (fun _ => ?_)
  · exact Frame.refl _
  · refine Frame.ite (fun _ => ?_) (fun _ => ?_)
    · refine Frame.comp (State.setBulk_frame _ _ _) rfl ?_
      exact Frame.refl _
    · refine Frame.comp (State.raise_frame _ _ _) rfl ?_
      refine Frame.comp (State.deassertLine_frame _ _) rfl ?_
      refine Frame.comp (State.setBulk_frame _ _ _) rfl ?_
      exact Frame.refl _

theorem State.burst_frame (a0 : _) (a1 : State) : Frame 576470233310 a1 (State.burst a0 a1) := by
  unfold State.burst
  first | split | (dsimp +zetaDelta -proj only; split)
  · exact Frame.refl _
  · try extract_lets
    try extract_lets
    try extract_lets
    first | split | (dsimp +zetaDelta -proj only; split)
    · refine Frame.snd ?_ (by assumption)
      refine Frame.comp (State.dmaRead_frame _ _ _ _) rfl ?_
      refine Frame.ite (fun _ => ?_) (fun _ => ?_)
      · refine Frame.set_dma rfl (fun i => absurd i (by decide)) ?_
        exact Frame.refl _
      · refine Frame.set_dma rfl (fun i => absurd i (by decide)) ?_
        exact Frame.refl _
    · first | split | (dsimp +zetaDelta -proj only; split)
      · refine Frame.snd ?_ (by assumption)
        refine Frame.comp (State.dmaWrite_frame _ _ _ _) rfl ?_
        refine Frame.snd ?_ (by assumption)
        refine Frame.comp (State.dmaRead_frame _ _ _ _) rfl ?_
        refine Frame.ite (fun _ => ?_) (fun _ => ?_)
        · refine Frame.set_dma rfl (fun i => absurd i (by decide)) ?_
          exact Frame.refl _
        · refine Frame.set_dma rfl (fun i => absurd i (by decide)) ?_
          exact Frame.refl _
      · try extract_lets
        try extract_lets
        try extract_lets
        refine Frame.ite (fun _ => ?_) (fun _ => ?_)
        · refine Frame.comp (State.descDone_frame _ _ _ _) rfl ?_
          refine Frame.ite (fun _ => ?_) (fun _ => ?_)
          · refine Frame.comp (State.tallyMoved_frame _ _ _) rfl ?_
            refine Frame.foldl (fun _ _ _ => ?_) ?_
            · refine Frame.comp (State.bulkMoved_frame _ _ _ _ _) rfl ?_
              assumption
            · refine Frame.comp (State.serveLine_frame _ _) rfl ?_
              refine Frame.comp (State.setChan_frame _ _ _) rfl ?_
              refine Frame.snd ?_ (by assumption)
              refine Frame.comp (State.dmaWrite_frame _ _ _ _) rfl ?_
              refine Frame.snd ?_ (by assumption)
              refine Frame.comp (State.dmaRead_frame _ _ _ _) rfl ?_
              refine Frame.ite (fun _ => ?_) (fun _ => ?_)
              · refine Frame.set_dma rfl (fun i => absurd i (by decide)) ?_
                exact Frame.refl _
              · refine Frame.set_dma rfl (fun i => absurd i (by decide)) ?_
                exact Frame.refl _
          · refine Frame.foldl (fun _ _ _ => ?_) ?_
            · refine Frame.comp (State.bulkMoved_frame _ _ _ _ _) rfl ?_
              assumption
            · refine Frame.comp (State.serveLine_frame _ _) rfl ?_
              refine Frame.comp (State.setChan_frame _ _ _) rfl ?_
              refine Frame.snd ?_ (by assumption)
              refine Frame.comp (State.dmaWrite_frame _ _ _ _) rfl ?_
              refine Frame.snd ?_ (by assumption)
              refine Frame.comp (State.dmaRead_frame _ _ _ _) rfl ?_
              refine Frame.ite (fun _ => ?_) (fun _ => ?_)
              · refine Frame.set_dma rfl (fun i => absurd i (by decide)) ?_
                exact Frame.refl _
              · refine Frame.set_dma rfl (fun i => absurd i (by decide)) ?_
                exact Frame.refl _
        · refine Frame.ite (fun _ => ?_) (fun _ => ?_)
          · refine Frame.comp (State.tallyMoved_frame _ _ _) rfl ?_
            refine Frame.foldl (fun _ _ _ => ?_) ?_
            · refine Frame.comp (State.bulkMoved_frame _ _ _ _ _) rfl ?_
              assumption
            · refine Frame.comp (State.serveLine_frame _ _) rfl ?_
              refine Frame.comp (State.setChan_frame _ _ _) rfl ?_
              refine Frame.snd ?_ (by assumption)
              refine Frame.comp (State.dmaWrite_frame _ _ _ _) rfl ?_
              refine Frame.snd ?_ (by assumption)
              refine Frame.comp (State.dmaRead_frame _ _ _ _) rfl ?_
              refine Frame.ite (fun _ => ?_) (fun _ => ?_)
              · refine Frame.set_dma rfl (fun i => absurd i (by decide)) ?_
                exact Frame.refl _
              · refine Frame.set_dma rfl (fun i => absurd i (by decide)) ?_
                exact Frame.refl _
          · refine Frame.foldl (fun _ _ _ => ?_) ?_
            · refine Frame.comp (State.bulkMoved_frame _ _ _ _ _) rfl ?_
              assumption
            · refine Frame.comp (State.serveLine_frame _ _) rfl ?_
              refine Frame.comp (State.setChan_frame _ _ _) rfl ?_
              refine Frame.snd ?_ (by assumption)
              refine Frame.comp (State.dmaWrite_frame _ _ _ _) rfl ?_
              refine Frame.snd ?_ (by assumption)
              refine Frame.comp (State.dmaRead_frame _ _ _ _) rfl ?_
              refine Frame.ite (fun _ => ?_) (fun _ => ?_)
              · refine Frame.set_dma rfl (fun i => absurd i (by decide)) ?_
                exact Frame.refl _
              · refine Frame.set_dma rfl (fun i => absurd i (by decide)) ?_
                exact Frame.refl _

theorem State.writePoolReq_frame (a0 : _) (a1 : _) (a2 : State) : Frame 98334 a2 (State.writePoolReq a0 a1 a2) := by
  unfold State.writePoolReq
  refine State.gateWrite_frame ?_ rfl ?_
  · intro _ _ _
    refine Frame.comp (State.requestFor_frame _ _ _ _ _) rfl ?_
    assumption
  · exact Frame.refl _

theorem execBufferRequest_frame (a0 : _) (a1 : _) (a2 : _) (a3 : State) : Frame.Out 98335 a3 (execBufferRequest a0 a1 a2 a3) := by
  unfold execBufferRequest
  refine Frame.next ?_
  refine Frame.comp (State.writePoolReq_frame _ _ _) rfl ?_
  refine Frame.comp (State.advanceTo_frame _ _) rfl ?_
  exact Frame.refl _

theorem execCoalescingTimer_frame (a0 : _) (a1 : _) (a2 : State) : Frame.Out 4194433 a2 (execCoalescingTimer a0 a1 a2) := by
  unfold execCoalescingTimer
  try extract_lets
  try extract_lets
  try extract_lets
  refine Frame.next ?_
  refine Frame.foldl (fun _ _ _ => ?_) ?_
  · refine Frame.comp (State.notifyCq_frame _ _) rfl ?_
    assumption
  · refine Frame.comp (State.advanceTo_frame _ _) rfl ?_
    exact Frame.refl _

theorem State.deleteUnbound_frame (a0 : _) (a1 : _) (a2 : State) : Frame 25774076126 a2 (State.deleteUnbound a0 a1 a2) := by
  unfold State.deleteUnbound
  first | split | (dsimp +zetaDelta -proj only; split)
  · refine Frame.comp (State.completeAdmin_frame _ _ _ _ _ _) rfl ?_
    refine Frame.comp (State.dropResv_frame _ _) rfl ?_
    exact Frame.refl _
  · refine Frame.comp (State.invalidField_frame _ _ _) rfl ?_
    exact Frame.refl _

theorem State.rebindResv_frame (a0 : _) (a1 : _) (a2 : State) : Frame 25774076126 a2 (State.rebindResv a0 a1 a2) := by
  unfold State.rebindResv
  first | split | (dsimp +zetaDelta -proj only; split)
  · refine Frame.ite (fun _ => ?_) (fun _ => ?_)
    · refine Frame.comp (State.invalidField_frame _ _ _) rfl ?_
      exact Frame.refl _
    · refine Frame.ite (fun _ => ?_) (fun _ => ?_)
      · refine Frame.comp (State.refuseC0h_frame _ _ _ _ _) rfl ?_
        exact Frame.refl _
      · first | split | (dsimp +zetaDelta -proj only; split)
        · try extract_lets
          try extract_lets
          refine Frame.comp (State.complete_frame _ _ _ _ _ _ _ _) rfl ?_
          refine Frame.comp (State.record_frame _ _ _) rfl ?_
          refine Frame.set_adm rfl (fun i => absurd i (by decide)) (fun i => absurd i (by decide)) (fun _ => rfl) ?_
          refine Frame.snd ?_ (by assumption)
          first | split | (dsimp +zetaDelta -proj only; split)
          · exact Frame.refl _
          · refine Frame.comp (State.newPush_frame _ _ _) rfl ?_
            exact Frame.refl _
  · refine Frame.comp (State.invalidField_frame _ _ _) rfl ?_
    exact Frame.refl _

theorem State.deleteResv_frame (a0 : _) (a1 : _) (a2 : State) : Frame 25774076126 a2 (State.deleteResv a0 a1 a2) := by
  unfold State.deleteResv
  first | split | (dsimp +zetaDelta -proj only; split)
  · refine Frame.comp (State.invalidField_frame _ _ _) rfl ?_
    exact Frame.refl _
  · refine Frame.comp (State.completeAdmin_frame _ _ _ _ _ _) rfl ?_
    refine Frame.comp (State.dropResv_frame _ _) rfl ?_
    exact Frame.refl _

theorem State.changeResv_frame (a0 : _) (a1 : _) (a2 : State) : Frame 1338960475102 a2 (State.changeResv a0 a1 a2) := by
  unfold State.changeResv
  first | split | (dsimp +zetaDelta -proj only; split)
  · refine Frame.comp (State.invalidField_frame _ _ _) rfl ?_
    exact Frame.refl _
  · first | split | (dsimp +zetaDelta -proj only; split)
    · refine Frame.comp (State.invalidField_frame _ _ _) rfl ?_
      exact Frame.refl _
    · refine Frame.ite (fun _ => ?_) (fun _ => ?_)
      · refine Frame.comp (State.invalidField_frame _ _ _) rfl ?_
        exact Frame.refl _
      · try extract_lets
        refine Frame.ite (fun _ => ?_) (fun _ => ?_)
        · refine Frame.comp (State.refuseC0h_frame _ _ _ _ _) rfl ?_
          exact Frame.refl _
        · refine Frame.comp (State.propose_frame _ _ _ _) rfl ?_
          exact Frame.refl _

theorem State.queryResv_frame (a0 : _) (a1 : _) (a2 : State) : Frame 575529890014 a2 (State.queryResv a0 a1 a2) := by
  unfold State.queryResv
  first | split | (dsimp +zetaDelta -proj only; split)
  · refine Frame.comp (State.invalidField_frame _ _ _) rfl ?_
    exact Frame.refl _
  · refine Frame.comp (State.completeAdmin_frame _ _ _ _ _ _) rfl ?_
    refine Frame.comp (State.adminData_frame _ _ _ _) rfl ?_
    exact Frame.refl _

theorem State.runC0h_frame (a0 : _) (a1 : _) (a2 : State) : Frame 1888716288990 a2 (State.runC0h a0 a1 a2) := by
  unfold State.runC0h
  refine Frame.ite (fun _ => ?_) (fun _ => ?_)
  · refine Frame.comp (State.invalidField_frame _ _ _) rfl ?_
    exact Frame.refl _
  · refine Frame.ite (fun _ => ?_) (fun _ => ?_)
    · first | split | (dsimp +zetaDelta -proj only; split)
      · refine Frame.comp (State.rebindResv_frame _ _ _) rfl ?_
        exact Frame.refl _
      · refine Frame.comp (State.deleteUnbound_frame _ _ _) rfl ?_
        exact Frame.refl _
      · refine Frame.comp (State.invalidField_frame _ _ _) rfl ?_
        exact Frame.refl _
    · refine Frame.ite (fun _ => ?_) (fun _ => ?_)
      · refine Frame.comp (State.invalidField_frame _ _ _) rfl ?_
        exact Frame.refl _
      · first | split | (dsimp +zetaDelta -proj only; split)
        · refine Frame.comp (State.createResv_frame _ _ _) rfl ?_
          exact Frame.refl _
        · refine Frame.comp (State.changeResv_frame _ _ _) rfl ?_
          exact Frame.refl _
        · refine Frame.comp (State.deleteResv_frame _ _ _) rfl ?_
          exact Frame.refl _
        · refine Frame.comp (State.queryResv_frame _ _ _) rfl ?_
          exact Frame.refl _

theorem State.runRelayHeld_frame (a0 : State) : Frame 1888716288990 a0 (State.runRelayHeld a0) := by
  unfold State.runRelayHeld
  refine Frame.foldl (fun _ _ _ => ?_) ?_
  · refine Frame.comp (State.runC0h_frame _ _ _) rfl ?_
    assumption
  · refine Frame.set_moor rfl (fun i => absurd i (by decide)) ?_
    exact Frame.refl _

theorem State.putFirmware_frame (a0 : _) (a1 : State) : Frame 32768 a1 (State.putFirmware a0 a1) := by
  unfold State.putFirmware
  first | split | (dsimp +zetaDelta -proj only; split)
  · refine Frame.comp (State.memWrite_frame _ _ _) rfl ?_
    exact Frame.refl _
  · exact Frame.refl _

theorem State.freeBuffer_frame (a0 : _) (a1 : _) (a2 : State) : Frame 98334 a2 (State.freeBuffer a0 a1 a2) := by
  unfold State.freeBuffer
  first | split | (dsimp +zetaDelta -proj only; split)
  · refine Frame.comp (State.release_frame _ _ _ _) rfl ?_
    exact Frame.refl _
  · try extract_lets
    first | split | (dsimp +zetaDelta -proj only; split)
    · refine Frame.comp (State.count_frame _ _) rfl ?_
      refine Frame.comp (State.record_frame _ _ _) rfl ?_
      refine Frame.comp (State.raise_frame _ _ _) rfl ?_
      exact Frame.refl _
    · refine Frame.comp (State.record_frame _ _ _) rfl ?_
      refine Frame.comp (State.raise_frame _ _ _) rfl ?_
      exact Frame.refl _
  · exact Frame.refl _

theorem State.freeFirmware_frame (a0 : _) (a1 : State) : Frame 98334 a1 (State.freeFirmware a0 a1) := by
  unfold State.freeFirmware
  refine Frame.foldl (fun _ _ _ => ?_) ?_
  · refine Frame.comp (State.freeBuffer_frame _ _ _) rfl ?_
    assumption
  · exact Frame.refl _

theorem State.endStaging_frame (a0 : State) : Frame 67207198 a0 (State.endStaging a0) := by
  unfold State.endStaging
  try extract_lets
  refine Frame.set_md rfl (fun _ => rfl) (fun i => absurd i (by decide)) ?_
  refine Frame.comp (State.freeFirmware_frame _ _) rfl ?_
  exact Frame.refl _

theorem State.restoreFirmware_frame (a0 : State) : Frame 67207198 a0 (State.restoreFirmware a0) := by
  unfold State.restoreFirmware
  try extract_lets
  try extract_lets
  refine Frame.comp (State.endStaging_frame _) rfl ?_
  refine Frame.set_md rfl (fun _ => rfl) (fun i => absurd i (by decide)) ?_
  refine Frame.comp (State.putFirmware_frame _ _) rfl ?_
  exact Frame.refl _

theorem State.relayOff_frame (a0 : _) (a1 : State) : Frame 67207198 a1 (State.relayOff a0 a1) := by
  unfold State.relayOff
  refine Frame.ite (fun _ => ?_) (fun _ => ?_)
  · refine Frame.comp (State.record_frame _ _ _) rfl ?_
    refine Frame.comp (State.restoreFirmware_frame _) rfl ?_
    exact Frame.refl _
  · exact Frame.refl _

theorem State.abandonRelay_frame (a0 : State) : Frame 1889085420511 a0 (State.abandonRelay a0) := by
  unfold State.abandonRelay
  refine Frame.comp (State.runRelayHeld_frame _) rfl ?_
  refine Frame.comp (State.enterMode_frame _ _ _) rfl ?_
  refine Frame.comp (State.relayOff_frame _ _) rfl ?_
  exact Frame.refl _

theorem State.commitRelay_frame (a0 : State) : Frame 1889221997535 a0 (State.commitRelay a0) := by
  unfold State.commitRelay
  try extract_lets
  try extract_lets
  try extract_lets
  try extract_lets
  try extract_lets
  try extract_lets
  refine Frame.comp (State.runRelayHeld_frame _) rfl ?_
  refine Frame.comp (State.record_frame _ _ _) rfl ?_
  refine Frame.set_md_image rfl rfl (fun i => absurd i (by decide)) (fun i => absurd i (by decide)) ?_
  refine Frame.comp (State.confirmSlot_frame _ _ _) rfl ?_
  refine Frame.comp (State.enterMode_frame _ _ _) rfl ?_
  refine Frame.comp (State.endStaging_frame _) rfl ?_
  exact Frame.refl _

theorem State.writeRelay_frame (a0 : _) (a1 : _) (a2 : State) : Frame 1889221997535 a2 (State.writeRelay a0 a1 a2) := by
  unfold State.writeRelay
  refine State.gateWrite_frame ?_ rfl ?_
  · intro _ _ _
    refine Frame.ite (fun _ => ?_) (fun _ => ?_)
    · assumption
    · refine Frame.ite (fun _ => ?_) (fun _ => ?_)
      · refine Frame.comp (State.abandonRelay_frame _) rfl ?_
        assumption
      · refine Frame.ite (fun _ => ?_) (fun _ => ?_)
        · refine Frame.comp (State.commitRelay_frame _) rfl ?_
          assumption
        · assumption
  · exact Frame.refl _

theorem execRelayAbandon_frame (a0 : _) (a1 : _) (a2 : _) (a3 : State) : Frame.Out 1889221997535 a3 (execRelayAbandon a0 a1 a2 a3) := by
  unfold execRelayAbandon
  refine Frame.next ?_
  refine Frame.comp (State.writeRelay_frame _ _ _) rfl ?_
  refine Frame.comp (State.advanceTo_frame _ _) rfl ?_
  exact Frame.refl _

theorem State.tallyCopy_frame (a0 : State) : Frame 268435472 a0 (State.tallyCopy a0) := by
  unfold State.tallyCopy
  refine Frame.comp (State.count_frame _ _) rfl ?_
  refine Frame.set_tally rfl (fun i => absurd i (by decide)) ?_
  exact Frame.refl _

theorem State.linkDelete_frame (a0 : _) (a1 : _) (a2 : State) : Frame 1338960475102 a2 (State.linkDelete a0 a1 a2) := by
  unfold State.linkDelete
  refine Frame.ite (fun _ => ?_) (fun _ => ?_)
  · refine Frame.comp (State.refuseC2h_frame _ _ _ _) rfl ?_
    exact Frame.refl _
  · refine Frame.comp (State.propose_frame _ _ _ _) rfl ?_
    exact Frame.refl _

theorem State.podQuery_frame (a0 : _) (a1 : _) (a2 : State) : Frame 575529890014 a2 (State.podQuery a0 a1 a2) := by
  unfold State.podQuery
  refine Frame.comp (State.completeAdmin_frame _ _ _ _ _ _) rfl ?_
  refine Frame.comp (State.adminData_frame _ _ _ _) rfl ?_
  exact Frame.refl _

theorem State.callPeer_frame (a0 : _) (a1 : State) : Frame 687207551006 a1 (State.callPeer a0 a1).2 := by
  unfold State.callPeer
  first | split | (dsimp +zetaDelta -proj only; split)
  · exact Frame.refl _
  · try extract_lets
    refine Frame.comp (State.connectTo_frame _ _ _ _ _) rfl ?_
    exact Frame.refl _

theorem State.withPeer_frame {m : Nat} {s a6 : State} {a0 : _} {a1 : _} {a2 : _} {a3 : _} {a4 : _} {a5 : _} (hact5 : ∀ x0, Frame m s x0 → Frame m s (a5 x0)) (hm : (712977363166 ||| m == m) = true) (h : Frame m s a6) :
    Frame m s (State.withPeer a0 a1 a2 a3 a4 a5 a6) := by
  unfold State.withPeer
  try extract_lets
  refine Frame.ite (fun _ => ?_) (fun _ => ?_)
  · refine Frame.comp (State.refuseC2h_frame _ _ _ _) (le_mask rfl hm) ?_
    assumption
  · refine Frame.ite (fun _ => ?_) (fun _ => ?_)
    · refine Frame.comp (State.completeAdmin_frame _ _ _ _ _ _) (le_mask rfl hm) ?_
      assumption
    · first | split | (dsimp +zetaDelta -proj only; split)
      · refine Frame.comp (State.refuseC2h_frame _ _ _ _) (le_mask rfl hm) ?_
        refine Frame.snd ?_ (by assumption)
        refine Frame.comp (State.callPeer_frame _ _) (le_mask rfl hm) ?_
        assumption
      · refine Frame.ite (fun _ => ?_) (fun _ => ?_)
        · refine hact5 _ ?_
          refine Frame.snd ?_ (by assumption)
          refine Frame.comp (State.callPeer_frame _ _) (le_mask rfl hm) ?_
          assumption
        · refine Frame.comp (State.refuseC2h_frame _ _ _ _) (le_mask rfl hm) ?_
          refine Frame.snd ?_ (by assumption)
          refine Frame.comp (State.callPeer_frame _ _) (le_mask rfl hm) ?_
          assumption

theorem State.linkCreate_frame (a0 : _) (a1 : _) (a2 : _) (a3 : _) (a4 : _) (a5 : _) (a6 : State) : Frame 1888724677598 a6 (State.linkCreate a0 a1 a2 a3 a4 a5 a6) := by
  unfold State.linkCreate
  try extract_lets
  try extract_lets
  try extract_lets
  refine Frame.ite (fun _ => ?_) (fun _ => ?_)
  · refine Frame.comp (State.refuseC2h_frame _ _ _ _) rfl ?_
    exact Frame.refl _
  · refine Frame.ite (fun _ => ?_) (fun _ => ?_)
    · refine Frame.comp (State.refuseC2h_frame _ _ _ _) rfl ?_
      exact Frame.refl _
    · refine Frame.ite (fun _ => ?_) (fun _ => ?_)
      · refine Frame.comp (State.refuseC2h_frame _ _ _ _) rfl ?_
        exact Frame.refl _
      · refine Frame.ite (fun _ => ?_) (fun _ => ?_)
        · refine Frame.comp (State.completeAdmin_frame _ _ _ _ _ _) rfl ?_
          exact Frame.refl _
        · refine State.withPeer_frame ?_ rfl ?_
          · intro _ _
            refine Frame.ite (fun _ => ?_) (fun _ => ?_)
            · refine Frame.comp (State.completeAdmin_frame _ _ _ _ _ _) rfl ?_
              assumption
            · refine Frame.comp (State.propose_frame _ _ _ _) rfl ?_
              assumption
          · exact Frame.refl _

theorem State.setEnded_frame (a0 : _) (a1 : State) : Frame 1128506945758 a1 (State.setEnded a0 a1) := by
  unfold State.setEnded
  first | split | (dsimp +zetaDelta -proj only; split)
  · exact Frame.refl _
  · try extract_lets
    try extract_lets
    first | split | (dsimp +zetaDelta -proj only; split)
    · refine Frame.ite (fun _ => ?_) (fun _ => ?_)
      · refine Frame.foldl (fun _ _ _ => ?_) ?_
        · refine Frame.comp (State.tellPartner_frame _ _) rfl ?_
          assumption
        · refine Frame.comp (State.dropReplSnaps_frame _ _ _) rfl ?_
          exact Frame.refl _
      · refine Frame.comp (State.completeAdmin_frame _ _ _ _ _ _) rfl ?_
        refine Frame.comp (State.updLink_frame _ _ _) rfl ?_
        refine Frame.foldl (fun _ _ _ => ?_) ?_
        · refine Frame.comp (State.tellPartner_frame _ _) rfl ?_
          assumption
        · refine Frame.comp (State.dropReplSnaps_frame _ _ _) rfl ?_
          exact Frame.refl _
    · refine Frame.foldl (fun _ _ _ => ?_) ?_
      · refine Frame.comp (State.tellPartner_frame _ _) rfl ?_
        assumption
      · refine Frame.comp (State.dropReplSnaps_frame _ _ _) rfl ?_
        exact Frame.refl _

theorem State.sendNow_frame (a0 : _) (a1 : _) (a2 : State) : Frame 1334665507806 a2 (State.sendNow a0 a1 a2) := by
  unfold State.sendNow
  first | split | (dsimp +zetaDelta -proj only; split)
  · refine Frame.comp (State.refuseC2h_frame _ _ _ _) rfl ?_
    exact Frame.refl _
  · try extract_lets
    refine Frame.ite (fun _ => ?_) (fun _ => ?_)
    · refine Frame.comp (State.refuseC2h_frame _ _ _ _) rfl ?_
      exact Frame.refl _
    · refine Frame.ite (fun _ => ?_) (fun _ => ?_)
      · refine Frame.comp (State.completeAdmin_frame _ _ _ _ _ _) rfl ?_
        exact Frame.refl _
      · first | split | (dsimp +zetaDelta -proj only; split)
        · refine Frame.comp (State.setEnded_frame _ _) rfl ?_
          refine Frame.comp (State.updLink_frame _ _ _) rfl ?_
          refine Frame.snd ?_ (by assumption)
          refine Frame.comp (State.startSet_frame _ _) rfl ?_
          exact Frame.refl _
        · refine Frame.comp (State.completeAdmin_frame _ _ _ _ _ _) rfl ?_
          refine Frame.snd ?_ (by assumption)
          refine Frame.comp (State.startSet_frame _ _) rfl ?_
          exact Frame.refl _

theorem State.replicaAccept_frame (a0 : _) (a1 : _) (a2 : _) (a3 : _) (a4 : State) : Frame 1126359462110 a4 (State.replicaAccept a0 a1 a2 a3 a4) := by
  unfold State.replicaAccept
  try extract_lets
  refine Frame.ite (fun _ => ?_) (fun _ => ?_)
  · refine Frame.comp (State.refuseC2h_frame _ _ _ _) rfl ?_
    exact Frame.refl _
  · try extract_lets
    refine Frame.comp (State.completeAdmin_frame _ _ _ _ _ _) rfl ?_
    refine Frame.set_repl rfl ?_
    refine Frame.comp (State.updNs_frame _ _ _) rfl ?_
    exact Frame.refl _

theorem State.targetAdd_frame (a0 : _) (a1 : _) (a2 : _) (a3 : _) (a4 : _) (a5 : State) : Frame 1888724677598 a5 (State.targetAdd a0 a1 a2 a3 a4 a5) := by
  unfold State.targetAdd
  first | split | (dsimp +zetaDelta -proj only; split)
  · refine Frame.comp (State.refuseC2h_frame _ _ _ _) rfl ?_
    exact Frame.refl _
  · refine Frame.ite (fun _ => ?_) (fun _ => ?_)
    · refine Frame.comp (State.refuseC2h_frame _ _ _ _) rfl ?_
      exact Frame.refl _
    · refine State.withPeer_frame ?_ rfl ?_
      · intro _ _
        refine Frame.ite (fun _ => ?_) (fun _ => ?_)
        · refine Frame.comp (State.completeAdmin_frame _ _ _ _ _ _) rfl ?_
          assumption
        · refine Frame.comp (State.propose_frame _ _ _ _) rfl ?_
          assumption
      · exact Frame.refl _

theorem State.targetRemove_frame (a0 : _) (a1 : _) (a2 : State) : Frame 1338960475102 a2 (State.targetRemove a0 a1 a2) := by
  unfold State.targetRemove
  first | split | (dsimp +zetaDelta -proj only; split)
  · refine Frame.comp (State.refuseC2h_frame _ _ _ _) rfl ?_
    exact Frame.refl _
  · refine Frame.ite (fun _ => ?_) (fun _ => ?_)
    · refine Frame.comp (State.propose_frame _ _ _ _) rfl ?_
      exact Frame.refl _
    · refine Frame.comp (State.refuseC2h_frame _ _ _ _) rfl ?_
      exact Frame.refl _

theorem State.runC2h_frame (a0 : _) (a1 : _) (a2 : _) (a3 : _) (a4 : _) (a5 : State) : Frame 1888724677598 a5 (State.runC2h a0 a1 a2 a3 a4 a5) := by
  unfold State.runC2h
  refine Frame.ite (fun _ => ?_) (fun _ => ?_)
  · refine Frame.comp (State.refuseC2h_frame _ _ _ _) rfl ?_
    exact Frame.refl _
  · refine Frame.ite (fun _ => ?_) (fun _ => ?_)
    · refine Frame.ite (fun _ => ?_) (fun _ => ?_)
      · refine Frame.comp (State.podQuery_frame _ _ _) rfl ?_
        exact Frame.refl _
      · refine Frame.comp (State.completeAdmin_frame _ _ _ _ _ _) rfl ?_
        exact Frame.refl _
    · first | split | (dsimp +zetaDelta -proj only; split)
      · refine Frame.comp (State.completeAdmin_frame _ _ _ _ _ _) rfl ?_
        exact Frame.refl _
      · first | split | (dsimp +zetaDelta -proj only; split)
        · refine Frame.comp (State.linkCreate_frame _ _ _ _ _ _ _) rfl ?_
          exact Frame.refl _
        · refine Frame.comp (State.linkDelete_frame _ _ _) rfl ?_
          exact Frame.refl _
        · refine Frame.comp (State.targetAdd_frame _ _ _ _ _ _) rfl ?_
          exact Frame.refl _
        · refine Frame.comp (State.targetRemove_frame _ _ _) rfl ?_
          exact Frame.refl _
        · refine Frame.comp (State.replicaAccept_frame _ _ _ _ _) rfl ?_
          exact Frame.refl _
        · refine Frame.comp (State.sendNow_frame _ _ _) rfl ?_
          exact Frame.refl _
        · refine Frame.comp (State.linkQuery_frame _ _ _) rfl ?_
          exact Frame.refl _

theorem State.writeCctrl_frame (a0 : _) (a1 : _) (a2 : _) (a3 : State) : Frame 536936452 a3 (State.writeCctrl a0 a1 a2 a3) := by
  unfold State.writeCctrl
  refine State.gateWrite_frame ?_ rfl ?_
  · intro _ _ _
    refine Frame.ite (fun _ => ?_) (fun _ => ?_)
    · refine Frame.comp (State.ignored_frame _) rfl ?_
      assumption
    · try extract_lets
      try extract_lets
      try extract_lets
      try extract_lets
      try extract_lets
      refine Frame.ite (fun _ => ?_) (fun _ => ?_)
      · refine Frame.comp (State.stopChan_frame _ _) rfl ?_
        refine Frame.comp (State.setReg_frame _ _ _) rfl ?_
        refine Frame.ite (fun _ => ?_) (fun _ => ?_)
        · assumption
        · refine Frame.comp (State.ignored_frame _) rfl ?_
          assumption
      · refine Frame.ite (fun _ => ?_) (fun _ => ?_)
        · refine Frame.comp (State.setChan_frame _ _ _) rfl ?_
          refine Frame.comp (State.setReg_frame _ _ _) rfl ?_
          refine Frame.ite (fun _ => ?_) (fun _ => ?_)
          · assumption
          · refine Frame.comp (State.ignored_frame _) rfl ?_
            assumption
        · refine Frame.comp (State.setReg_frame _ _ _) rfl ?_
          refine Frame.ite (fun _ => ?_) (fun _ => ?_)
          · assumption
          · refine Frame.comp (State.ignored_frame _) rfl ?_
            assumption
  · exact Frame.refl _

theorem execChannelEnable_frame (a0 : _) (a1 : _) (a2 : _) (a3 : _) (a4 : State) : Frame.Out 536936453 a4 (execChannelEnable a0 a1 a2 a3 a4) := by
  unfold execChannelEnable
  refine Frame.next ?_
  refine Frame.comp (State.writeCctrl_frame _ _ _ _) rfl ?_
  refine Frame.comp (State.advanceTo_frame _ _) rfl ?_
  exact Frame.refl _

theorem State.resolveDedup_frame (a0 : _) (a1 : _) (a2 : _) (a3 : State) : Frame 34359738432 a3 (State.resolveDedup a0 a1 a2 a3) := by
  unfold State.resolveDedup
  refine Frame.comp (State.updWrite_frame _ _ _) rfl ?_
  exact Frame.refl _

theorem State.askIndex_frame (a0 : _) (a1 : State) : Frame 4194304 a1 (State.askIndex a0 a1) := by
  unfold State.askIndex
  try extract_lets
  refine Frame.ite (fun _ => ?_) (fun _ => ?_)
  · exact Frame.refl _
  · refine Frame.comp (State.emit_frame _ _) rfl ?_
    exact Frame.refl _

theorem execInlineLookupAnswer_frame (a0 : _) (a1 : _) (a2 : _) (a3 : _) (a4 : _) (a5 : _) (a6 : State) : Frame.Out 3705990889471 a6 (execInlineLookupAnswer a0 a1 a2 a3 a4 a5 a6) := by
  unfold execInlineLookupAnswer
  try extract_lets
  refine Frame.next ?_
  first | split | (dsimp +zetaDelta -proj only; split)
  · refine Frame.comp (State.advanceTo_frame _ _) rfl ?_
    exact Frame.refl _
  · first | split | (dsimp +zetaDelta -proj only; split)
    · try extract_lets
      refine Frame.ite (fun _ => ?_) (fun _ => ?_)
      · refine Frame.comp (State.advanceTo_frame _ _) rfl ?_
        exact Frame.refl _
      · refine Frame.ite (fun _ => ?_) (fun _ => ?_)
        · try extract_lets
          refine Frame.comp (State.fault_frame _ _ _ _ _) rfl ?_
          refine Frame.comp (State.updWrite_frame _ _ _) rfl ?_
          refine Frame.comp (State.resolveDedup_frame _ _ _ _) rfl ?_
          refine Frame.comp (State.count_frame _ _) rfl ?_
          refine Frame.comp (State.count_frame _ _) rfl ?_
          refine Frame.comp (State.raise_frame _ _ _) rfl ?_
          refine Frame.comp (State.useIsland_frame _ _ _) rfl ?_
          refine Frame.comp (State.advanceTo_frame _ _) rfl ?_
          exact Frame.refl _
        · try extract_lets
          first | split | (dsimp +zetaDelta -proj only; split)
          · refine Frame.comp (State.askIndex_frame _ _) rfl ?_
            refine Frame.comp (State.advanceTo_frame _ _) rfl ?_
            exact Frame.refl _
          · refine Frame.comp (State.resolveDedup_frame _ _ _ _) rfl ?_
            refine Frame.comp (State.count_frame _ _) rfl ?_
            refine Frame.comp (State.count_frame _ _) rfl ?_
            refine Frame.comp (State.useIsland_frame _ _ _) rfl ?_
            refine Frame.comp (State.advanceTo_frame _ _) rfl ?_
            exact Frame.refl _
          · refine Frame.comp (State.resolveDedup_frame _ _ _ _) rfl ?_
            refine Frame.comp (State.cachePut_frame _ _) rfl ?_
            refine Frame.comp (State.count_frame _ _) rfl ?_
            refine Frame.comp (State.count_frame _ _) rfl ?_
            refine Frame.comp (State.useIsland_frame _ _ _) rfl ?_
            refine Frame.comp (State.advanceTo_frame _ _) rfl ?_
            exact Frame.refl _
    · refine Frame.comp (State.advanceTo_frame _ _) rfl ?_
      exact Frame.refl _

end Sys2Proof.Laws
end

