-- ==== Sys2Proof/Laws/Frame4.lean ====
section
/-!
SUPPORT. Frames of the operations, part 4 of 8: what each may touch (see Frame.lean). Each proof follows its operation's body.
-/

namespace Sys2Proof.Laws

open Sys2Proof.Machine

theorem State.pullOverrun_frame (a0 : _) (a1 : State) : Frame 34359805054 a1 (State.pullOverrun a0 a1) := by
  unfold State.pullOverrun
  try extract_lets
  first | split | (dsimp +zetaDelta -proj only; split)
  · exact Frame.refl _
  · refine Frame.ite (fun _ => ?_) (fun _ => ?_)
    · exact Frame.refl _
    · try extract_lets
      try extract_lets
      try extract_lets
      try extract_lets
      try extract_lets
      try extract_lets
      first | split | (dsimp +zetaDelta -proj only; split)
      · refine Frame.comp (State.wakeDue_frame _) rfl ?_
        refine Frame.comp (State.suspendErases_frame _ _) rfl ?_
        beta_reduce
        refine Frame.set_adm rfl (fun _ => rfl) (fun _ => rfl) (fun i => absurd i (by decide)) ?_
        refine Frame.set_adm rfl (fun _ => rfl) (fun _ => rfl) (fun i => absurd i (by decide)) ?_
        refine Frame.comp (State.count_frame _ _) rfl ?_
        refine Frame.comp (State.record_frame _ _ _) rfl ?_
        exact Frame.refl _
      · first | split | (dsimp +zetaDelta -proj only; split)
        · beta_reduce
          refine Frame.set_adm rfl (fun _ => rfl) (fun _ => rfl) (fun i => absurd i (by decide)) ?_
          refine Frame.set_adm rfl (fun _ => rfl) (fun _ => rfl) (fun i => absurd i (by decide)) ?_
          refine Frame.comp (State.count_frame _ _) rfl ?_
          refine Frame.comp (State.record_frame _ _ _) rfl ?_
          exact Frame.refl _
        · refine Frame.set_adm rfl (fun _ => rfl) (fun _ => rfl) (fun i => absurd i (by decide)) ?_
          refine Frame.comp (State.count_frame _ _) rfl ?_
          refine Frame.comp (State.record_frame _ _ _) rfl ?_
          exact Frame.refl _

theorem State.takePhase_frame (a0 : _) (a1 : _) (a2 : State) : Frame 687194902528 a2 (State.takePhase a0 a1 a2) := by
  unfold State.takePhase
  first | split | (dsimp +zetaDelta -proj only; split)
  · exact Frame.refl _
  · try extract_lets
    refine Frame.ite (fun _ => ?_) (fun _ => ?_)
    · refine Frame.comp (State.updSession_frame _ _ _) rfl ?_
      exact Frame.refl _
    · refine Frame.comp (State.refSlot_frame _ _) rfl ?_
      refine Frame.comp (State.updSession_frame _ _ _) rfl ?_
      refine Frame.comp (State.updSession_frame _ _ _) rfl ?_
      exact Frame.refl _

theorem State.pointV3_frame (a0 : _) (a1 : _) (a2 : State) : Frame 1231955260383 a2 (State.pointV3 a0 a1 a2) := by
  unfold State.pointV3
  first | split | (dsimp +zetaDelta -proj only; split)
  · exact Frame.refl _
  · first | split | (dsimp +zetaDelta -proj only; split)
    · first | split | (dsimp +zetaDelta -proj only; split)
      · refine Frame.comp (State.readFail_frame _ _ _) rfl ?_
        refine Frame.comp (State.record_frame _ _ _) rfl ?_
        exact Frame.refl _
      · first | split | (dsimp +zetaDelta -proj only; split)
        · refine Frame.ite (fun _ => ?_) (fun _ => ?_)
          · refine Frame.ite (fun _ => ?_) (fun _ => ?_)
            · refine Frame.comp (State.emit_frame _ _) rfl ?_
              refine Frame.comp (State.dropRead_frame _ _) rfl ?_
              exact Frame.refl _
            · refine Frame.comp (State.updRead_frame _ _ _) rfl ?_
              exact Frame.refl _
          · refine Frame.comp (State.readFail_frame _ _ _) rfl ?_
            refine Frame.comp (State.record_frame _ _ _) rfl ?_
            exact Frame.refl _

theorem execParityRepair_frame (a0 : _) (a1 : _) (a2 : _) (a3 : State) : Frame.Out 1231955260383 a3 (execParityRepair a0 a1 a2 a3) := by
  unfold execParityRepair
  try extract_lets
  refine Frame.next ?_
  first | split | (dsimp +zetaDelta -proj only; split)
  · refine Frame.comp (State.advanceTo_frame _ _) rfl ?_
    exact Frame.refl _
  · refine Frame.ite (fun _ => ?_) (fun _ => ?_)
    · refine Frame.comp (State.advanceTo_frame _ _) rfl ?_
      exact Frame.refl _
    · first | split | (dsimp +zetaDelta -proj only; split)
      · try extract_lets
        first | split | (dsimp +zetaDelta -proj only; split)
        · refine Frame.comp (State.readFail_frame _ _ _) rfl ?_
          refine Frame.comp (State.advanceTo_frame _ _) rfl ?_
          exact Frame.refl _
        · refine Frame.comp (State.pointV3_frame _ _ _) rfl ?_
          refine Frame.comp (State.advanceTo_frame _ _) rfl ?_
          exact Frame.refl _

theorem execOverloadClear_frame (a0 : _) (a1 : State) : Frame.Out 8661303519 a1 (execOverloadClear a0 a1) := by
  unfold execOverloadClear
  try extract_lets
  refine Frame.next ?_
  refine Frame.ite (fun _ => ?_) (fun _ => ?_)
  · refine Frame.comp (State.advanceTo_frame _ _) rfl ?_
    exact Frame.refl _
  · try extract_lets
    try extract_lets
    refine Frame.comp (State.record_frame _ _ _) rfl ?_
    refine Frame.comp (State.recompute_frame _ _) rfl ?_
    refine Frame.set_md rfl (fun _ => rfl) (fun i => absurd i (by decide)) ?_
    refine Frame.comp (State.advanceTo_frame _ _) rfl ?_
    exact Frame.refl _

theorem State.spiErr_frame (a0 : _) (a1 : State) : Frame 524292 a1 (State.spiErr a0 a1) := by
  unfold State.spiErr
  try extract_lets
  refine Frame.set_spi rfl ?_
  refine Frame.comp (State.raise_frame _ _ _) rfl ?_
  refine Frame.comp (State.raise_frame _ _ _) rfl ?_
  exact Frame.refl _

theorem State.spiBegin_frame (a0 : State) : Frame 524288 a0 (State.spiBegin a0) := by
  unfold State.spiBegin
  refine Frame.set_spi rfl ?_
  exact Frame.refl _

theorem State.spiFrame_frame {m : Nat} {s a4 : State} {a0 : _} {a1 : _} {a2 : _} {a3 : _} (hact3 : ∀ x0, Frame m s x0 → Frame m s (a3 x0).1) (hm : (4718596 ||| m == m) = true) (h : Frame m s a4) :
    Frame m s (State.spiFrame a0 a1 a2 a3 a4) := by
  unfold State.spiFrame
  refine Frame.ite (fun _ => ?_) (fun _ => ?_)
  · refine Frame.comp (State.emit_frame _ _) (le_mask rfl hm) ?_
    assumption
  · refine Frame.ite (fun _ => ?_) (fun _ => ?_)
    · refine Frame.comp (State.emit_frame _ _) (le_mask rfl hm) ?_
      refine Frame.comp (State.spiErr_frame _ _) (le_mask rfl hm) ?_
      assumption
    · first | split | (dsimp +zetaDelta -proj only; split)
      · refine Frame.comp (State.emit_frame _ _) (le_mask rfl hm) ?_
        refine Frame.fst ?_ (by assumption)
        refine hact3 _ ?_
        refine Frame.comp (State.spiBegin_frame _) (le_mask rfl hm) ?_
        assumption

theorem execSpiStatus_frame (a0 : _) (a1 : _) (a2 : _) (a3 : _) (a4 : State) : Frame.Out 4718597 a4 (execSpiStatus a0 a1 a2 a3 a4) := by
  unfold execSpiStatus
  refine Frame.next ?_
  refine State.spiFrame_frame ?_ rfl ?_
  · intro _ _
    refine Frame.ite (fun _ => ?_) (fun _ => ?_)
    · assumption
    · refine Frame.comp (State.spiErr_frame _ _) rfl ?_
      assumption
  · refine Frame.comp (State.advanceTo_frame _ _) rfl ?_
    exact Frame.refl _

theorem State.setGcStream_frame (a0 : _) (a1 : _) (a2 : State) : Frame 256 a2 (State.setGcStream a0 a1 a2) := by
  unfold State.setGcStream
  first | split | (dsimp +zetaDelta -proj only; split)
  · refine Frame.set_path rfl (fun _ => rfl) (fun _ => rfl) (fun _ => rfl) ?_
    exact Frame.refl _
  · refine Frame.set_path rfl (fun _ => rfl) (fun _ => rfl) (fun _ => rfl) ?_
    exact Frame.refl _

theorem State.gcRoom_frame (a0 : _) (a1 : _) (a2 : State) : Frame 2199023256832 a2 (State.gcRoom a0 a1 a2) := by
  unfold State.gcRoom
  try extract_lets
  try extract_lets
  refine Frame.ite (fun _ => ?_) (fun _ => ?_)
  · exact Frame.refl _
  · try extract_lets
    try extract_lets
    try extract_lets
    refine Frame.comp (State.setGcStream_frame _ _ _) rfl ?_
    refine Frame.comp (State.fillBand_frame _ _) rfl ?_
    refine Frame.set_path rfl (fun _ => rfl) (fun i => absurd i (by decide)) (fun _ => rfl) ?_
    refine Frame.comp (State.updStripe_frame _ _ _ _) rfl ?_
    exact Frame.refl _

theorem State.gcAppend_frame (a0 : _) (a1 : _) (a2 : State) : Frame 6597069767936 a2 (State.gcAppend a0 a1 a2).1 := by
  unfold State.gcAppend
  try extract_lets
  try extract_lets
  first | split | (dsimp +zetaDelta -proj only; split)
  · refine Frame.comp (State.gcRoom_frame _ _ _) rfl ?_
    exact Frame.refl _
  · try extract_lets
    try extract_lets
    try extract_lets
    try extract_lets
    try extract_lets
    try extract_lets
    refine Frame.comp (State.setGcStream_frame _ _ _) rfl ?_
    refine Frame.foldl (fun _ _ _ => ?_) ?_
    · try extract_lets
      refine Frame.ite (fun _ => ?_) (fun _ => ?_)
      · assumption
      · refine Frame.set_path rfl (fun _ => rfl) (fun i => absurd i (by decide)) (fun i => absurd i (by decide)) ?_
        assumption
    · refine Frame.set_path rfl (fun _ => rfl) (fun i => absurd i (by decide)) (fun i => absurd i (by decide)) ?_
      refine Frame.comp (State.gcRoom_frame _ _ _) rfl ?_
      exact Frame.refl _

theorem State.gcMove_frame (a0 : _) (a1 : State) : Frame 7766374614976 a1 (State.gcMove a0 a1) := by
  unfold State.gcMove
  try extract_lets
  first | split | (dsimp +zetaDelta -proj only; split)
  · refine Frame.comp (State.moveRecord_frame _ _ _) rfl ?_
    refine Frame.comp (State.bookCopy_frame _ _ _ _ _) rfl ?_
    refine Frame.fst ?_ (by assumption)
    refine Frame.comp (State.gcAppend_frame _ _ _) rfl ?_
    refine Frame.comp (State.bookCopy_frame _ _ _ _ _) rfl ?_
    exact Frame.refl _

theorem State.rebuildFilter_frame (a0 : State) : Frame 512 a0 (State.rebuildFilter a0) := by
  unfold State.rebuildFilter
  refine Frame.set_ddup rfl ?_
  exact Frame.refl _

theorem State.hold_frame (a0 : _) (a1 : _) (a2 : State) : Frame 17179869264 a2 (State.hold a0 a1 a2) := by
  unfold State.hold
  try extract_lets
  first | split | (dsimp +zetaDelta -proj only; split)
  · refine Frame.comp (State.count_frame _ _) rfl ?_
    refine Frame.set_adm rfl (fun _ => rfl) (fun i => absurd i (by decide)) (fun _ => rfl) ?_
    exact Frame.refl _
  · refine Frame.set_adm rfl (fun _ => rfl) (fun i => absurd i (by decide)) (fun _ => rfl) ?_
    exact Frame.refl _

theorem State.imageEntry_frame (sel : Nat) (e : Nat × Word × Word) (s : State) :
    ∀ x, State.imageEntry sel e s = some x → Frame 32772 s x.2 := by
  unfold State.imageEntry
  intro x h
  split at h
  dsimp only at h
  split at h
  · split at h
    · cases h; exact Frame.refl _
    · cases h
  · split at h
    · split at h
      · cases h
      · cases h; dsimp only; exact Frame.comp (State.updOwner_frame _ _ _) rfl (Frame.refl s)
    · split at h
      · split at h
        · cases h
        · cases h; dsimp only; exact Frame.comp (State.updOwner_frame _ _ _) rfl (Frame.refl s)
      · split at h
        · split at h
          · cases h
          · split at h
            · cases h
            · cases h; exact Frame.comp (State.setReg_frame _ _ _) rfl (Frame.refl _)
        · cases h

theorem State.structureLost_frame (a0 : _) (a1 : _) (a2 : _) (a3 : State) : Frame 66334 a3 (State.structureLost a0 a1 a2 a3) := by
  unfold State.structureLost
  try extract_lets
  first | split | (dsimp +zetaDelta -proj only; split)
  · try extract_lets
    refine Frame.comp (State.consumed_frame _ _ _) rfl ?_
    refine Frame.set_ddup rfl ?_
    exact Frame.refl _
  · refine Frame.comp (State.consumed_frame _ _ _) rfl ?_
    refine Frame.set_ddup rfl ?_
    exact Frame.refl _
  · refine Frame.comp (State.consumed_frame _ _ _) rfl ?_
    refine Frame.set_ddup rfl ?_
    exact Frame.refl _
  · refine Frame.ite (fun _ => ?_) (fun _ => ?_)
    · try extract_lets
      refine Frame.comp (State.consumed_frame _ _ _) rfl ?_
      refine Frame.set_path rfl (fun _ => rfl) (fun _ => rfl) (fun _ => rfl) ?_
      exact Frame.refl _
    · exact Frame.refl _

theorem State.retirePage_frame (a0 : _) (a1 : State) : Frame 99102 a1 (State.retirePage a0 a1) := by
  unfold State.retirePage
  try extract_lets
  try extract_lets
  refine Frame.ite (fun _ => ?_) (fun _ => ?_)
  · exact Frame.refl _
  · refine Frame.ite (fun _ => ?_) (fun _ => ?_)
    · refine Frame.ite (fun _ => ?_) (fun _ => ?_)
      · refine Frame.comp (State.recordOnce_frame _ _ _ _) rfl ?_
        refine Frame.comp (State.raise_frame _ _ _) rfl ?_
        exact Frame.refl _
      · try extract_lets
        refine Frame.comp (State.record_frame _ _ _) rfl ?_
        refine Frame.comp (State.raise_frame _ _ _) rfl ?_
        refine Frame.set_mem rfl ?_ ?_
        · exact id
        first | split | (dsimp +zetaDelta -proj only; split)
        · refine Frame.foldl (fun _ _ _ => ?_) ?_
          · refine Frame.comp (State.structureLost_frame _ _ _ _) rfl ?_
            assumption
          · exact Frame.refl _
        · exact Frame.refl _
    · refine Frame.comp (State.record_frame _ _ _) rfl ?_
      refine Frame.comp (State.raise_frame _ _ _) rfl ?_
      refine Frame.set_mem rfl ?_ ?_
      · exact id
      exact Frame.refl _

theorem State.readLost_frame (a0 : _) (a1 : _) (a2 : _) (a3 : _) (a4 : State) : Frame 256 a4 (State.readLost a0 a1 a2 a3 a4) := by
  unfold State.readLost
  first | split | (dsimp +zetaDelta -proj only; split)
  · exact Frame.refl _
  · first | split | (dsimp +zetaDelta -proj only; split)
    · exact Frame.refl _
    · refine Frame.ite (fun _ => ?_) (fun _ => ?_)
      · exact Frame.refl _
      · refine Frame.comp (State.startRead_frame _ _ _ _ _ _ _ _ _) rfl ?_
        refine Frame.comp (State.updRcmd_frame _ _ _ _ _) rfl ?_
        exact Frame.refl _

theorem State.refetch_frame (a0 : _) (a1 : State) : Frame 549760012304 a1 (State.refetch a0 a1) := by
  unfold State.refetch
  refine Frame.ite (fun _ => ?_) (fun _ => ?_)
  · refine Frame.comp (State.remoteRead_frame _ _ _ _ _ _ _) rfl ?_
    exact Frame.refl _
  · exact Frame.refl _

theorem State.grainLost_frame (a0 : _) (a1 : _) (a2 : State) : Frame 584119816542 a2 (State.grainLost a0 a1 a2) := by
  unfold State.grainLost
  first | split | (dsimp +zetaDelta -proj only; split)
  · exact Frame.refl _
  · first | split | (dsimp +zetaDelta -proj only; split)
    · exact Frame.refl _
    · try extract_lets
      refine Frame.ite (fun _ => ?_) (fun _ => ?_)
      · exact Frame.refl _
      · refine Frame.ite (fun _ => ?_) (fun _ => ?_)
        · refine Frame.comp (State.refetch_frame _ _) rfl ?_
          refine Frame.comp (State.record_frame _ _ _) rfl ?_
          exact Frame.refl _
        · refine Frame.ite (fun _ => ?_) (fun _ => ?_)
          · refine Frame.comp (State.refetch_frame _ _) rfl ?_
            refine Frame.comp (State.updWrite_frame _ _ _) rfl ?_
            refine Frame.comp (State.useSlack_frame _ _ _) rfl ?_
            refine Frame.comp (State.record_frame _ _ _) rfl ?_
            exact Frame.refl _
          · refine Frame.ite (fun _ => ?_) (fun _ => ?_)
            · try extract_lets
              refine Frame.comp (State.emit_frame _ _) rfl ?_
              refine Frame.set_path rfl (fun _ => rfl) (fun _ => rfl) (fun _ => rfl) ?_
              refine Frame.comp (State.useSlack_frame _ _ _) rfl ?_
              refine Frame.comp (State.record_frame _ _ _) rfl ?_
              exact Frame.refl _
            · refine Frame.comp (State.refetch_frame _ _) rfl ?_
              refine Frame.comp (State.useSlack_frame _ _ _) rfl ?_
              refine Frame.comp (State.record_frame _ _ _) rfl ?_
              exact Frame.refl _

theorem State.poisonLine_frame (a0 : _) (a1 : _) (a2 : State) : Frame 584119849822 a2 (State.poisonLine a0 a1 a2) := by
  unfold State.poisonLine
  try extract_lets
  refine Frame.ite (fun _ => ?_) (fun _ => ?_)
  · exact Frame.refl _
  · try extract_lets
    try extract_lets
    try extract_lets
    try extract_lets
    refine Frame.ite (fun _ => ?_) (fun _ => ?_)
    · refine Frame.comp (State.retirePage_frame _ _) rfl ?_
      first | split | (dsimp +zetaDelta -proj only; split)
      · refine Frame.comp (State.grainLost_frame _ _ _) rfl ?_
        refine Frame.comp (State.consumed_frame _ _ _) rfl ?_
        first | split | (dsimp +zetaDelta -proj only; split)
        · refine Frame.comp (State.structureLost_frame _ _ _ _) rfl ?_
          refine Frame.comp (State.record_frame _ _ _) rfl ?_
          refine Frame.comp (State.count_frame _ _) rfl ?_
          refine Frame.comp (State.raise_frame _ _ _) rfl ?_
          refine Frame.set_mem rfl ?_ ?_
          · exact id
          exact Frame.refl _
        · refine Frame.comp (State.record_frame _ _ _) rfl ?_
          refine Frame.comp (State.count_frame _ _) rfl ?_
          refine Frame.comp (State.raise_frame _ _ _) rfl ?_
          refine Frame.set_mem rfl ?_ ?_
          · exact id
          exact Frame.refl _
      · refine Frame.comp (State.readLost_frame _ _ _ _ _) rfl ?_
        refine Frame.comp (State.consumed_frame _ _ _) rfl ?_
        first | split | (dsimp +zetaDelta -proj only; split)
        · refine Frame.comp (State.structureLost_frame _ _ _ _) rfl ?_
          refine Frame.comp (State.record_frame _ _ _) rfl ?_
          refine Frame.comp (State.count_frame _ _) rfl ?_
          refine Frame.comp (State.raise_frame _ _ _) rfl ?_
          refine Frame.set_mem rfl ?_ ?_
          · exact id
          exact Frame.refl _
        · refine Frame.comp (State.record_frame _ _ _) rfl ?_
          refine Frame.comp (State.count_frame _ _) rfl ?_
          refine Frame.comp (State.raise_frame _ _ _) rfl ?_
          refine Frame.set_mem rfl ?_ ?_
          · exact id
          exact Frame.refl _
      · first | split | (dsimp +zetaDelta -proj only; split)
        · refine Frame.comp (State.structureLost_frame _ _ _ _) rfl ?_
          refine Frame.comp (State.record_frame _ _ _) rfl ?_
          refine Frame.comp (State.count_frame _ _) rfl ?_
          refine Frame.comp (State.raise_frame _ _ _) rfl ?_
          refine Frame.set_mem rfl ?_ ?_
          · exact id
          exact Frame.refl _
        · refine Frame.comp (State.record_frame _ _ _) rfl ?_
          refine Frame.comp (State.count_frame _ _) rfl ?_
          refine Frame.comp (State.raise_frame _ _ _) rfl ?_
          refine Frame.set_mem rfl ?_ ?_
          · exact id
          exact Frame.refl _
    · first | split | (dsimp +zetaDelta -proj only; split)
      · refine Frame.comp (State.grainLost_frame _ _ _) rfl ?_
        refine Frame.comp (State.consumed_frame _ _ _) rfl ?_
        first | split | (dsimp +zetaDelta -proj only; split)
        · refine Frame.comp (State.structureLost_frame _ _ _ _) rfl ?_
          refine Frame.comp (State.record_frame _ _ _) rfl ?_
          refine Frame.comp (State.count_frame _ _) rfl ?_
          refine Frame.comp (State.raise_frame _ _ _) rfl ?_
          refine Frame.set_mem rfl ?_ ?_
          · exact id
          exact Frame.refl _
        · refine Frame.comp (State.record_frame _ _ _) rfl ?_
          refine Frame.comp (State.count_frame _ _) rfl ?_
          refine Frame.comp (State.raise_frame _ _ _) rfl ?_
          refine Frame.set_mem rfl ?_ ?_
          · exact id
          exact Frame.refl _
      · refine Frame.comp (State.readLost_frame _ _ _ _ _) rfl ?_
        refine Frame.comp (State.consumed_frame _ _ _) rfl ?_
        first | split | (dsimp +zetaDelta -proj only; split)
        · refine Frame.comp (State.structureLost_frame _ _ _ _) rfl ?_
          refine Frame.comp (State.record_frame _ _ _) rfl ?_
          refine Frame.comp (State.count_frame _ _) rfl ?_
          refine Frame.comp (State.raise_frame _ _ _) rfl ?_
          refine Frame.set_mem rfl ?_ ?_
          · exact id
          exact Frame.refl _
        · refine Frame.comp (State.record_frame _ _ _) rfl ?_
          refine Frame.comp (State.count_frame _ _) rfl ?_
          refine Frame.comp (State.raise_frame _ _ _) rfl ?_
          refine Frame.set_mem rfl ?_ ?_
          · exact id
          exact Frame.refl _
      · first | split | (dsimp +zetaDelta -proj only; split)
        · refine Frame.comp (State.structureLost_frame _ _ _ _) rfl ?_
          refine Frame.comp (State.record_frame _ _ _) rfl ?_
          refine Frame.comp (State.count_frame _ _) rfl ?_
          refine Frame.comp (State.raise_frame _ _ _) rfl ?_
          refine Frame.set_mem rfl ?_ ?_
          · exact id
          exact Frame.refl _
        · refine Frame.comp (State.record_frame _ _ _) rfl ?_
          refine Frame.comp (State.count_frame _ _) rfl ?_
          refine Frame.comp (State.raise_frame _ _ _) rfl ?_
          refine Frame.set_mem rfl ?_ ?_
          · exact id
          exact Frame.refl _

theorem State.corrected_frame (a0 : _) (a1 : State) : Frame 99102 a1 (State.corrected a0 a1) := by
  unfold State.corrected
  try extract_lets
  try extract_lets
  try extract_lets
  try extract_lets
  refine Frame.ite (fun _ => ?_) (fun _ => ?_)
  · refine Frame.comp (State.retirePage_frame _ _) rfl ?_
    refine Frame.set_mem rfl ?_ ?_
    · exact id
    refine Frame.comp (State.recordOnce_frame _ _ _ _) rfl ?_
    refine Frame.comp (State.count_frame _ _) rfl ?_
    refine Frame.comp (State.raise_frame _ _ _) rfl ?_
    exact Frame.refl _
  · refine Frame.set_mem rfl ?_ ?_
    · exact id
    refine Frame.comp (State.recordOnce_frame _ _ _ _) rfl ?_
    refine Frame.comp (State.count_frame _ _) rfl ?_
    refine Frame.comp (State.raise_frame _ _ _) rfl ?_
    exact Frame.refl _

theorem execScrubPass_frame (a0 : _) (a1 : _) (a2 : _) (a3 : _) (a4 : State) : Frame.Out 584119849823 a4 (execScrubPass a0 a1 a2 a3 a4) := by
  unfold execScrubPass
  try extract_lets
  try extract_lets
  refine Frame.next ?_
  refine Frame.ite (fun _ => ?_) (fun _ => ?_)
  · refine Frame.comp (State.advanceTo_frame _ _) rfl ?_
    exact Frame.refl _
  · refine Frame.ite (fun _ => ?_) (fun _ => ?_)
    · refine Frame.comp (State.corrected_frame _ _) rfl ?_
      refine Frame.comp (State.advanceTo_frame _ _) rfl ?_
      exact Frame.refl _
    · refine Frame.comp (State.poisonLine_frame _ _ _) rfl ?_
      refine Frame.comp (State.advanceTo_frame _ _) rfl ?_
      exact Frame.refl _

theorem State.endWake_frame (a0 : _) (a1 : _) (a2 : State) : Frame 32 a2 (State.endWake a0 a1 a2) := by
  unfold State.endWake
  refine Frame.set_faults rfl (fun _ => rfl) ?_
  exact Frame.refl _

theorem execIslandWakeLate_frame (a0 : _) (a1 : _) (a2 : _) (a3 : State) : Frame.Out 3705990889471 a3 (execIslandWakeLate a0 a1 a2 a3) := by
  unfold execIslandWakeLate
  try extract_lets
  refine Frame.next ?_
  first | split | (dsimp +zetaDelta -proj only; split)
  · refine Frame.comp (State.advanceTo_frame _ _) rfl ?_
    exact Frame.refl _
  · refine Frame.ite (fun _ => ?_) (fun _ => ?_)
    · refine Frame.comp (State.advanceTo_frame _ _) rfl ?_
      exact Frame.refl _
    · try extract_lets
      try extract_lets
      try extract_lets
      refine Frame.comp (State.fault_frame _ _ _ _ _) rfl ?_
      refine Frame.comp (State.raise_frame _ _ _) rfl ?_
      refine Frame.ite (fun _ => ?_) (fun _ => ?_)
      · refine Frame.comp (State.count_frame _ _) rfl ?_
        refine Frame.set_faults rfl (fun i => absurd i (by decide)) ?_
        refine Frame.comp (State.endWake_frame _ _ _) rfl ?_
        refine Frame.comp (State.advanceTo_frame _ _) rfl ?_
        exact Frame.refl _
      · refine Frame.set_faults rfl (fun i => absurd i (by decide)) ?_
        refine Frame.comp (State.endWake_frame _ _ _) rfl ?_
        refine Frame.comp (State.advanceTo_frame _ _) rfl ?_
        exact Frame.refl _

theorem State.recorderOut_frame (a0 : _) (a1 : _) (a2 : State) : Frame 575529890014 a2 (State.recorderOut a0 a1 a2) := by
  unfold State.recorderOut
  try extract_lets
  refine Frame.ite (fun _ => ?_) (fun _ => ?_)
  · refine Frame.comp (State.invalidField_frame _ _ _) rfl ?_
    exact Frame.refl _
  · try extract_lets
    refine Frame.comp (State.completeAdmin_frame _ _ _ _ _ _) rfl ?_
    refine Frame.comp (State.adminData_frame _ _ _ _) rfl ?_
    exact Frame.refl _

theorem execRecorderRead_frame (a0 : _) (a1 : _) (a2 : _) (a3 : State) : Frame.Out 575529890015 a3 (execRecorderRead a0 a1 a2 a3) := by
  unfold execRecorderRead
  refine Frame.next ?_
  refine State.admin_frame ?_ rfl ?_
  · intro _ _
    refine Frame.comp (State.recorderOut_frame _ _ _) rfl ?_
    assumption
  · refine Frame.comp (State.advanceTo_frame _ _) rfl ?_
    exact Frame.refl _

theorem State.tallyAsk_frame (a0 : _) (a1 : _) (a2 : State) : Frame 268501022 a2 (State.tallyAsk a0 a1 a2) := by
  unfold State.tallyAsk
  try extract_lets
  refine Frame.ite (fun _ => ?_) (fun _ => ?_)
  · refine Frame.set_tally rfl (fun i => absurd i (by decide)) ?_
    exact Frame.refl _
  · try extract_lets
    refine Frame.comp (State.recordOnce_frame _ _ _ _) rfl ?_
    refine Frame.comp (State.raise_frame _ _ _) rfl ?_
    refine Frame.set_tally rfl (fun i => absurd i (by decide)) ?_
    exact Frame.refl _

theorem State.tallyIn_frame (a0 : _) (a1 : _) (a2 : State) : Frame 26042511582 a2 (State.tallyIn a0 a1 a2) := by
  unfold State.tallyIn
  try extract_lets
  refine Frame.ite (fun _ => ?_) (fun _ => ?_)
  · refine Frame.comp (State.completeAdmin_frame _ _ _ _ _ _) rfl ?_
    exact Frame.refl _
  · try extract_lets
    try extract_lets
    refine Frame.ite (fun _ => ?_) (fun _ => ?_)
    · refine Frame.comp (State.completeAdmin_frame _ _ _ _ _ _) rfl ?_
      refine Frame.comp (State.tallyAsk_frame _ _ _) rfl ?_
      exact Frame.refl _
    · refine Frame.set_tally rfl (fun i => absurd i (by decide)) ?_
      refine Frame.comp (State.tallyAsk_frame _ _ _) rfl ?_
      exact Frame.refl _

theorem execTallyCommand_frame (a0 : _) (a1 : _) (a2 : _) (a3 : State) : Frame.Out 26042511583 a3 (execTallyCommand a0 a1 a2 a3) := by
  unfold execTallyCommand
  refine Frame.next ?_
  refine State.admin_frame ?_ rfl ?_
  · intro _ _
    refine Frame.comp (State.tallyIn_frame _ _ _) rfl ?_
    assumption
  · refine Frame.comp (State.advanceTo_frame _ _) rfl ?_
    exact Frame.refl _

theorem State.failCmd_frame (a0 : _) (a1 : _) (a2 : _) (a3 : State) : Frame 25774092510 a3 (State.failCmd a0 a1 a2 a3) := by
  unfold State.failCmd
  first | split | (dsimp +zetaDelta -proj only; split)
  · refine Frame.comp (State.completeAdmin_frame _ _ _ _ _ _) rfl ?_
    refine Frame.comp (State.updLink_frame _ _ _) rfl ?_
    exact Frame.refl _
  · exact Frame.refl _

theorem State.abandonSet_frame (a0 : _) (a1 : _) (a2 : _) (a3 : _) (a4 : State) : Frame 1128506945758 a4 (State.abandonSet a0 a1 a2 a3 a4) := by
  unfold State.abandonSet
  try extract_lets
  try extract_lets
  refine Frame.comp (State.setEnded_frame _ _) rfl ?_
  refine Frame.comp (State.failCmd_frame _ _ _ _) rfl ?_
  refine Frame.ite (fun _ => ?_) (fun _ => ?_)
  · refine Frame.comp (State.updTarget_frame _ _ _ _) rfl ?_
    exact Frame.refl _
  · refine Frame.comp (State.record_frame _ _ _) rfl ?_
    refine Frame.comp (State.updTarget_frame _ _ _ _) rfl ?_
    exact Frame.refl _

theorem State.resumeReshape_frame (a0 : State) : Frame 2199023323422 a0 (State.resumeReshape a0) := by
  unfold State.resumeReshape
  first | split | (dsimp +zetaDelta -proj only; split)
  · exact Frame.refl _
  · try extract_lets
    refine Frame.comp (State.record_frame _ _ _) rfl ?_
    refine Frame.set_path_strp rfl rfl (fun _ => rfl) (fun i => absurd i (by decide)) (fun _ => rfl) ?_
    exact Frame.refl _

theorem State.syncResult_frame (a0 : _) (a1 : _) (a2 : _) (a3 : _) (a4 : _) (a5 : State) : Frame 1231586161630 a5 (State.syncResult a0 a1 a2 a3 a4 a5) := by
  unfold State.syncResult
  first | split | (dsimp +zetaDelta -proj only; split)
  · exact Frame.refl _
  · refine Frame.ite (fun _ => ?_) (fun _ => ?_)
    · refine Frame.ite (fun _ => ?_) (fun _ => ?_)
      · exact Frame.refl _
      · refine Frame.comp (State.checkWrites_frame _) rfl ?_
        refine Frame.comp (State.updWrite_frame _ _ _) rfl ?_
        exact Frame.refl _
    · try extract_lets
      try extract_lets
      refine Frame.comp (State.checkWrites_frame _) rfl ?_
      refine Frame.comp (State.updWrite_frame _ _ _) rfl ?_
      refine Frame.comp (State.missTarget_frame _ _ _ _) rfl ?_
      refine Frame.ite (fun _ => ?_) (fun _ => ?_)
      · refine Frame.comp (State.setEnded_frame _ _) rfl ?_
        refine Frame.comp (State.updTarget_frame _ _ _ _) rfl ?_
        exact Frame.refl _
      · exact Frame.refl _

theorem State.setCommitted_frame (a0 : _) (a1 : _) (a2 : _) (a3 : State) : Frame 1128506945758 a3 (State.setCommitted a0 a1 a2 a3) := by
  unfold State.setCommitted
  try extract_lets
  refine Frame.comp (State.setEnded_frame _ _) rfl ?_
  refine Frame.ite (fun _ => ?_) (fun _ => ?_)
  · refine Frame.comp (State.record_frame _ _ _) rfl ?_
    refine Frame.comp (State.updTarget_frame _ _ _ _) rfl ?_
    exact Frame.refl _
  · refine Frame.comp (State.updTarget_frame _ _ _ _) rfl ?_
    exact Frame.refl _

theorem execReplicationResult_frame (a0 : _) (a1 : _) (a2 : _) (a3 : _) (a4 : State) : Frame.Out 1231586161631 a4 (execReplicationResult a0 a1 a2 a3 a4) := by
  unfold execReplicationResult
  try extract_lets
  refine Frame.next ?_
  first | split | (dsimp +zetaDelta -proj only; split)
  · first | split | (dsimp +zetaDelta -proj only; split)
    · refine Frame.comp (State.advanceTo_frame _ _) rfl ?_
      exact Frame.refl _
    · try extract_lets
      first | split | (dsimp +zetaDelta -proj only; split)
      · refine Frame.comp (State.syncResult_frame _ _ _ _ _ _) rfl ?_
        refine Frame.comp (State.updTarget_frame _ _ _ _) rfl ?_
        refine Frame.comp (State.advanceTo_frame _ _) rfl ?_
        exact Frame.refl _
      · refine Frame.ite (fun _ => ?_) (fun _ => ?_)
        · refine Frame.ite (fun _ => ?_) (fun _ => ?_)
          · refine Frame.comp (State.setCommitted_frame _ _ _ _) rfl ?_
            refine Frame.comp (State.updTarget_frame _ _ _ _) rfl ?_
            refine Frame.comp (State.advanceTo_frame _ _) rfl ?_
            exact Frame.refl _
          · refine Frame.comp (State.updTarget_frame _ _ _ _) rfl ?_
            refine Frame.comp (State.advanceTo_frame _ _) rfl ?_
            exact Frame.refl _
        · refine Frame.comp (State.abandonSet_frame _ _ _ _ _) rfl ?_
          refine Frame.comp (State.updTarget_frame _ _ _ _) rfl ?_
          refine Frame.comp (State.advanceTo_frame _ _) rfl ?_
          exact Frame.refl _
  · refine Frame.comp (State.advanceTo_frame _ _) rfl ?_
    exact Frame.refl _

theorem State.deleteSq_frame (a0 : _) (a1 : _) (a2 : State) : Frame 25774076126 a2 (State.deleteSq a0 a1 a2) := by
  unfold State.deleteSq
  first | split | (dsimp +zetaDelta -proj only; split)
  · refine Frame.comp (State.completeAdmin_frame _ _ _ _ _ _) rfl ?_
    exact Frame.refl _
  · refine Frame.ite (fun _ => ?_) (fun _ => ?_)
    · refine Frame.comp (State.completeAdmin_frame _ _ _ _ _ _) rfl ?_
      exact Frame.refl _
    · try extract_lets
      refine Frame.comp (State.settle_frame _ _) rfl ?_
      refine Frame.comp (State.updSq_frame _ _ _) rfl ?_
      refine Frame.foldl (fun _ _ _ => ?_) ?_
      · refine Frame.comp (State.endHeld_frame _ _ _ _) rfl ?_
        assumption
      · exact Frame.refl _

theorem State.keep_frame (a0 : _) (a1 : _) (a2 : _) (a3 : State) : Frame 4294967300 a3 (State.keep a0 a1 a2 a3) := by
  unfold State.keep
  refine Frame.comp (State.setPathReg_frame _ _ _ _) rfl ?_
  exact Frame.refl _

theorem State.latchMinfo_frame (a0 : _) (a1 : State) : Frame 4294967300 a1 (State.latchMinfo a0 a1) := by
  unfold State.latchMinfo
  refine Frame.comp (State.keep_frame _ _ _ _) rfl ?_
  exact Frame.refl _

theorem State.imageOwners_frame (a0 : State) : Frame 32768 a0 (State.imageOwners a0) := by
  unfold State.imageOwners
  refine Frame.foldl (fun _ _ _ => ?_) ?_
  · refine Frame.comp (State.updOwner_frame _ _ _) rfl ?_
    assumption
  · exact Frame.refl _

theorem State.withImage_frame (a0 : _) (a1 : State) : Frame 2129920 a1 (State.withImage a0 a1) := by
  unfold State.withImage
  refine Frame.comp (State.imageOwners_frame _) rfl ?_
  refine Frame.set_image rfl ?_
  exact Frame.refl _

theorem State.undoEntry_frame (a0 : _) (a1 : _) (a2 : State) : Frame 32772 a2 (State.undoEntry a0 a1 a2) := by
  unfold State.undoEntry
  refine Frame.ite (fun _ => ?_) (fun _ => ?_)
  · refine Frame.comp (State.updOwner_frame _ _ _) rfl ?_
    exact Frame.refl _
  · refine Frame.ite (fun _ => ?_) (fun _ => ?_)
    · refine Frame.comp (State.updOwner_frame _ _ _) rfl ?_
      exact Frame.refl _
    · refine Frame.ite (fun _ => ?_) (fun _ => ?_)
      · refine Frame.comp (State.setReg_frame _ _ _) rfl ?_
        exact Frame.refl _
      · exact Frame.refl _

theorem State.undoEntries_frame : ∀ (l : List (Nat × Word × Word)) (sel : Nat) (w s : State),
    Frame 32772 s (State.undoEntries l sel w s)
  | [], _, _, s => Frame.refl s
  | _ :: es, _, _, s => by
    unfold State.undoEntries
    split
    · exact Frame.comp (State.undoEntries_frame es _ _ _) rfl (Frame.comp (State.undoEntry_frame _ _ _) rfl (Frame.refl _))
    · exact Frame.comp (State.undoEntry_frame _ _ _) rfl (Frame.refl _)

theorem State.rejectSlot_frame (a0 : _) (a1 : _) (a2 : State) : Frame 69304350 a2 (State.rejectSlot a0 a1 a2) := by
  unfold State.rejectSlot
  try extract_lets
  try extract_lets
  try extract_lets
  refine Frame.comp (State.record_frame _ _ _) rfl ?_
  refine Frame.ite (fun _ => ?_) (fun _ => ?_)
  · refine Frame.comp (State.undoEntries_frame _ _ _ _) rfl ?_
    refine Frame.set_md rfl (fun _ => rfl) (fun i => absurd i (by decide)) ?_
    exact Frame.refl _
  · refine Frame.set_md rfl (fun _ => rfl) (fun i => absurd i (by decide)) ?_
    exact Frame.refl _

theorem State.trySlot_frame (a0 : _) (a1 : _) (a2 : State) : Frame 69304350 a2 (State.trySlot a0 a1 a2).2 := by
  unfold State.trySlot
  try extract_lets
  first | split | (dsimp +zetaDelta -proj only; split)
  · refine Frame.set_md rfl (fun _ => rfl) (fun i => absurd i (by decide)) ?_
    exact Frame.refl _
  · refine Frame.comp (State.rejectSlot_frame _ _ _) rfl ?_
    exact Frame.refl _

theorem State.chooseSlot_frame (s : State) : Frame 207978526 s (State.chooseSlot s).2 := by
  unfold State.chooseSlot
  extract_lets b0 a i b1 s1 trial b2 s2
  have h1 : Frame 207978526 s s1 :=
    Frame.ite (fun _ => Frame.comp (State.writeBootBlock_frame _ _) rfl (Frame.refl _)) (fun _ => Frame.refl _)
  have h2 : Frame 207978526 s s2 := Frame.ite (fun _ => Frame.comp (State.writeBootBlock_frame _ _) rfl h1) (fun _ => h1)
  have try_ : ∀ (c : Prop) [Decidable c] (x : State) (k m : Nat), Frame 207978526 s x →
      Frame 207978526 s (if c then x.trySlot k m else (false, x)).2 := by
    intro c _ x k m h
    split
    · exact Frame.comp (State.trySlot_frame _ _ _) rfl h
    · exact h
  have h3 := try_ trial s2 i b2.minSvn h2
  generalize (if trial then s2.trySlot i b2.minSvn else (false, s2)) = p3 at h3 ⊢
  obtain ⟨ok2, s3⟩ := p3
  dsimp only at h3 ⊢
  split
  · exact Frame.set_md rfl (fun _ => rfl) (fun i => absurd i (by decide)) h3
  · have h4 := try_ (slotStateOf b2 a ≠ 4) s3 a b2.minSvn h3
    generalize (if slotStateOf b2 a ≠ 4 then s3.trySlot a b2.minSvn else (false, s3)) = p4 at h4 ⊢
    obtain ⟨ok3, s4⟩ := p4
    dsimp only at h4 ⊢
    split
    · exact h4
    · have h5 := try_ (slotStateOf b2 i = 1) s4 i b2.minSvn h4
      generalize (if slotStateOf b2 i = 1 then s4.trySlot i b2.minSvn else (false, s4)) = p5 at h5 ⊢
      obtain ⟨ok4, s5⟩ := p5
      dsimp only at h5 ⊢
      split
      · exact Frame.comp (State.record_frame _ _ _) rfl (Frame.set_md rfl (fun _ => rfl) (fun i => absurd i (by decide)) h5)
      · exact h5

theorem State.stageOver_frame (a0 : State) : Frame 67108866 a0 (State.stageOver a0) := by
  unfold State.stageOver
  refine Frame.set_md rfl (fun _ => rfl) (fun i => absurd i (by decide)) ?_
  exact Frame.refl _

theorem State.addDies_frame (a0 : _) (a1 : State) : Frame 1024 a1 (State.addDies a0 a1) := by
  unfold State.addDies
  refine Frame.foldl (fun _ _ _ => ?_) ?_
  · try extract_lets
    try extract_lets
    refine Frame.ite (fun _ => ?_) (fun _ => ?_)
    · refine Frame.set_flash rfl ?_
      assumption
    · assumption
  · exact Frame.refl _

theorem State.returnUnit_frame (a0 : _) (a1 : State) : Frame 274877908000 a1 (State.returnUnit a0 a1) := by
  unfold State.returnUnit
  try extract_lets
  first | split | (dsimp +zetaDelta -proj only; split)
  · refine Frame.comp (State.addDies_frame _ _) rfl ?_
    refine Frame.set_faults rfl (fun i => absurd i (by decide)) ?_
    exact Frame.refl _
  · refine Frame.comp (State.addDies_frame _ _) rfl ?_
    refine Frame.set_faults rfl (fun i => absurd i (by decide)) ?_
    exact Frame.refl _
  · refine Frame.set_faults rfl (fun i => absurd i (by decide)) ?_
    exact Frame.refl _

theorem State.returnPassed_frame (a0 : State) : Frame 277092508706 a0 (State.returnPassed a0) := by
  unfold State.returnPassed
  try extract_lets
  try extract_lets
  try extract_lets
  refine Frame.comp (State.updMoor_frame _ _) rfl ?_
  refine Frame.set_md rfl (fun _ => rfl) (fun i => absurd i (by decide)) ?_
  refine Frame.foldl (fun _ _ _ => ?_) ?_
  · refine Frame.comp (State.returnUnit_frame _ _) rfl ?_
    assumption
  · exact Frame.refl _

theorem State.bootImage_frame (a0 : State) : Frame 827291186239 a0 (State.bootImage a0) := by
  unfold State.bootImage
  first | split | (dsimp +zetaDelta -proj only; split)
  · refine Frame.ite (fun _ => ?_) (fun _ => ?_)
    · try extract_lets
      refine Frame.ite (fun _ => ?_) (fun _ => ?_)
      · refine Frame.comp (State.changeMode_frame _ _ _) rfl ?_
        refine Frame.comp (State.returnPassed_frame _) rfl ?_
        refine Frame.comp (State.record_frame _ _ _) rfl ?_
        refine Frame.set_md rfl (fun i => absurd i (by decide)) (fun i => absurd i (by decide)) ?_
        refine Frame.snd ?_ (by assumption)
        refine Frame.comp (State.chooseSlot_frame _) rfl ?_
        exact Frame.refl _
      · refine Frame.comp (State.record_frame _ _ _) rfl ?_
        refine Frame.set_md rfl (fun i => absurd i (by decide)) (fun i => absurd i (by decide)) ?_
        refine Frame.snd ?_ (by assumption)
        refine Frame.comp (State.chooseSlot_frame _) rfl ?_
        exact Frame.refl _
    · try extract_lets
      try extract_lets
      refine Frame.ite (fun _ => ?_) (fun _ => ?_)
      · refine Frame.comp (State.goSlack_frame _ _) rfl ?_
        refine Frame.set_md rfl (fun i => absurd i (by decide)) (fun i => absurd i (by decide)) ?_
        try extract_lets
        refine Frame.set_image rfl ?_
        refine Frame.comp (State.stageOver_frame _) rfl ?_
        refine Frame.snd ?_ (by assumption)
        refine Frame.comp (State.chooseSlot_frame _) rfl ?_
        exact Frame.refl _
      · try extract_lets
        refine Frame.set_image rfl ?_
        refine Frame.comp (State.stageOver_frame _) rfl ?_
        refine Frame.snd ?_ (by assumption)
        refine Frame.comp (State.chooseSlot_frame _) rfl ?_
        exact Frame.refl _

theorem execConnectResend_frame (a0 : _) (a1 : _) (a2 : State) : Frame.Out 687199162399 a2 (execConnectResend a0 a1 a2) := by
  unfold execConnectResend
  try extract_lets
  refine Frame.next ?_
  first | split | (dsimp +zetaDelta -proj only; split)
  · refine Frame.comp (State.advanceTo_frame _ _) rfl ?_
    exact Frame.refl _
  · refine Frame.ite (fun _ => ?_) (fun _ => ?_)
    · refine Frame.comp (State.advanceTo_frame _ _) rfl ?_
      exact Frame.refl _
    · try extract_lets
      refine Frame.ite (fun _ => ?_) (fun _ => ?_)
      · refine Frame.comp (State.emit_frame _ _) rfl ?_
        refine Frame.comp (State.takeCounter_frame _ _) rfl ?_
        refine Frame.comp (State.updSession_frame _ _ _) rfl ?_
        refine Frame.comp (State.advanceTo_frame _ _) rfl ?_
        exact Frame.refl _
      · refine Frame.comp (State.emit_frame _ _) rfl ?_
        refine Frame.comp (State.updSession_frame _ _ _) rfl ?_
        refine Frame.comp (State.advanceTo_frame _ _) rfl ?_
        exact Frame.refl _

theorem State.latchOinfo_frame (a0 : _) (a1 : State) : Frame 4294967300 a1 (State.latchOinfo a0 a1) := by
  unfold State.latchOinfo
  try extract_lets
  refine Frame.comp (State.keep_frame _ _ _ _) rfl ?_
  refine Frame.comp (State.keep_frame _ _ _ _) rfl ?_
  refine Frame.comp (State.keep_frame _ _ _ _) rfl ?_
  exact Frame.refl _

theorem State.latchSinfo_frame (a0 : _) (a1 : State) : Frame 4294967300 a1 (State.latchSinfo a0 a1) := by
  unfold State.latchSinfo
  first | split | (dsimp +zetaDelta -proj only; split)
  · refine Frame.comp (State.keep_frame _ _ _ _) rfl ?_
    refine Frame.comp (State.keep_frame _ _ _ _) rfl ?_
    refine Frame.comp (State.keep_frame _ _ _ _) rfl ?_
    exact Frame.refl _
  · refine Frame.comp (State.keep_frame _ _ _ _) rfl ?_
    refine Frame.comp (State.keep_frame _ _ _ _) rfl ?_
    refine Frame.comp (State.keep_frame _ _ _ _) rfl ?_
    exact Frame.refl _

theorem State.keep64_frame (a0 : _) (a1 : _) (a2 : _) (a3 : _) (a4 : State) : Frame 4294967300 a4 (State.keep64 a0 a1 a2 a3 a4) := by
  unfold State.keep64
  refine Frame.comp (State.keep_frame _ _ _ _) rfl ?_
  refine Frame.comp (State.keep_frame _ _ _ _) rfl ?_
  exact Frame.refl _

theorem State.latchKinfo_frame (a0 : _) (a1 : State) : Frame 4294967300 a1 (State.latchKinfo a0 a1) := by
  unfold State.latchKinfo
  try extract_lets
  refine Frame.comp (State.keep64_frame _ _ _ _ _) rfl ?_
  refine Frame.comp (State.keep64_frame _ _ _ _ _) rfl ?_
  exact Frame.refl _

theorem State.latchRegion_frame (a0 : _) (a1 : State) : Frame 4294967300 a1 (State.latchRegion a0 a1) := by
  unfold State.latchRegion
  refine Frame.comp (State.keep64_frame _ _ _ _ _) rfl ?_
  exact Frame.refl _

theorem State.latchDinfo_frame (a0 : _) (a1 : _) (a2 : State) : Frame 4294967300 a2 (State.latchDinfo a0 a1 a2) := by
  unfold State.latchDinfo
  try extract_lets
  try extract_lets
  refine Frame.comp (State.keep64_frame _ _ _ _ _) rfl ?_
  refine Frame.comp (State.keep_frame _ _ _ _) rfl ?_
  exact Frame.refl _

theorem State.latchFinfo_frame (a0 : _) (a1 : State) : Frame 4294967300 a1 (State.latchFinfo a0 a1) := by
  unfold State.latchFinfo
  refine Frame.comp (State.keep64_frame _ _ _ _ _) rfl ?_
  exact Frame.refl _

theorem State.latchRinfo_frame (a0 : _) (a1 : State) : Frame 4294967300 a1 (State.latchRinfo a0 a1) := by
  unfold State.latchRinfo
  try extract_lets
  try extract_lets
  refine Frame.comp (State.keep_frame _ _ _ _) rfl ?_
  refine Frame.comp (State.keep_frame _ _ _ _) rfl ?_
  refine Frame.comp (State.keep_frame _ _ _ _) rfl ?_
  refine Frame.comp (State.keep_frame _ _ _ _) rfl ?_
  exact Frame.refl _

theorem State.latchQinfo_frame (a0 : _) (a1 : State) : Frame 4294967300 a1 (State.latchQinfo a0 a1) := by
  unfold State.latchQinfo
  refine Frame.comp (State.keep_frame _ _ _ _) rfl ?_
  refine Frame.comp (State.keep_frame _ _ _ _) rfl ?_
  exact Frame.refl _

theorem State.readAct_frame (a0 : _) (a1 : _) (a2 : State) : Frame 4295098372 a2 (State.readAct a0 a1 a2) := by
  unfold State.readAct
  try extract_lets
  refine Frame.ite (fun _ => ?_) (fun _ => ?_)
  · refine Frame.comp (State.latchRinfo_frame _ _) rfl ?_
    refine Frame.ite (fun _ => ?_) (fun _ => ?_)
    · refine Frame.comp (State.touchLock_frame _ _) rfl ?_
      exact Frame.refl _
    · exact Frame.refl _
  · refine Frame.ite (fun _ => ?_) (fun _ => ?_)
    · refine Frame.comp (State.latchFinfo_frame _ _) rfl ?_
      refine Frame.ite (fun _ => ?_) (fun _ => ?_)
      · refine Frame.comp (State.touchLock_frame _ _) rfl ?_
        exact Frame.refl _
      · exact Frame.refl _
    · refine Frame.ite (fun _ => ?_) (fun _ => ?_)
      · refine Frame.comp (State.latchDinfo_frame _ _ _) rfl ?_
        refine Frame.ite (fun _ => ?_) (fun _ => ?_)
        · refine Frame.comp (State.touchLock_frame _ _) rfl ?_
          exact Frame.refl _
        · exact Frame.refl _
      · refine Frame.ite (fun _ => ?_) (fun _ => ?_)
        · refine Frame.comp (State.latchMinfo_frame _ _) rfl ?_
          refine Frame.ite (fun _ => ?_) (fun _ => ?_)
          · refine Frame.comp (State.touchLock_frame _ _) rfl ?_
            exact Frame.refl _
          · exact Frame.refl _
        · refine Frame.ite (fun _ => ?_) (fun _ => ?_)
          · refine Frame.comp (State.latchQinfo_frame _ _) rfl ?_
            refine Frame.ite (fun _ => ?_) (fun _ => ?_)
            · refine Frame.comp (State.touchLock_frame _ _) rfl ?_
              exact Frame.refl _
            · exact Frame.refl _
          · refine Frame.ite (fun _ => ?_) (fun _ => ?_)
            · refine Frame.comp (State.latchSinfo_frame _ _) rfl ?_
              refine Frame.ite (fun _ => ?_) (fun _ => ?_)
              · refine Frame.comp (State.touchLock_frame _ _) rfl ?_
                exact Frame.refl _
              · exact Frame.refl _
            · refine Frame.ite (fun _ => ?_) (fun _ => ?_)
              · refine Frame.comp (State.latchRegion_frame _ _) rfl ?_
                refine Frame.ite (fun _ => ?_) (fun _ => ?_)
                · refine Frame.comp (State.touchLock_frame _ _) rfl ?_
                  exact Frame.refl _
                · exact Frame.refl _
              · refine Frame.ite (fun _ => ?_) (fun _ => ?_)
                · refine Frame.comp (State.latchOinfo_frame _ _) rfl ?_
                  refine Frame.ite (fun _ => ?_) (fun _ => ?_)
                  · refine Frame.comp (State.touchLock_frame _ _) rfl ?_
                    exact Frame.refl _
                  · exact Frame.refl _
                · refine Frame.ite (fun _ => ?_) (fun _ => ?_)
                  · refine Frame.comp (State.latchKinfo_frame _ _) rfl ?_
                    refine Frame.ite (fun _ => ?_) (fun _ => ?_)
                    · refine Frame.comp (State.touchLock_frame _ _) rfl ?_
                      exact Frame.refl _
                    · exact Frame.refl _
                  · refine Frame.ite (fun _ => ?_) (fun _ => ?_)
                    · refine Frame.comp (State.latchRecord_frame _ _) rfl ?_
                      refine Frame.ite (fun _ => ?_) (fun _ => ?_)
                      · refine Frame.comp (State.touchLock_frame _ _) rfl ?_
                        exact Frame.refl _
                      · exact Frame.refl _
                    · refine Frame.ite (fun _ => ?_) (fun _ => ?_)
                      · refine Frame.comp (State.setPathReg_frame _ _ _ _) rfl ?_
                        refine Frame.ite (fun _ => ?_) (fun _ => ?_)
                        · refine Frame.comp (State.touchLock_frame _ _) rfl ?_
                          exact Frame.refl _
                        · exact Frame.refl _
                      · refine Frame.ite (fun _ => ?_) (fun _ => ?_)
                        · refine Frame.comp (State.touchLock_frame _ _) rfl ?_
                          exact Frame.refl _
                        · exact Frame.refl _

theorem State.readReg_frame (a0 : _) (a1 : _) (a2 : State) : Frame 4295098372 a2 (State.readReg a0 a1 a2) := by
  unfold State.readReg
  refine State.gateRead_frame ?_ rfl ?_
  · intro _ _ _
    refine Frame.comp (State.readAct_frame _ _ _) rfl ?_
    assumption
  · exact Frame.refl _

theorem execLoHalfRead_frame (a0 : _) (a1 : _) (a2 : _) (a3 : State) : Frame.Out 4295098373 a3 (execLoHalfRead a0 a1 a2 a3) := by
  unfold execLoHalfRead
  refine Frame.next ?_
  refine Frame.comp (State.readReg_frame _ _ _) rfl ?_
  refine Frame.comp (State.advanceTo_frame _ _) rfl ?_
  exact Frame.refl _

theorem State.ignorePress_frame (a0 : _) (a1 : _) (a2 : State) : Frame 65566 a2 (State.ignorePress a0 a1 a2) := by
  unfold State.ignorePress
  refine Frame.comp (State.record_frame _ _ _) rfl ?_
  refine Frame.comp (State.raise_frame _ _ _) rfl ?_
  exact Frame.refl _

theorem State.updSector_frame (a0 : _) (a1 : _) (a2 : _) (a3 : State) : Frame 262144 a3 (State.updSector a0 a1 a2 a3) := by
  unfold State.updSector
  refine Frame.set_ldg rfl ?_ ?_
  · exact id
  exact Frame.refl _

theorem State.holdupErases_frame (a0 : State) : Frame 262144 a0 (State.holdupErases a0) := by
  unfold State.holdupErases
  refine Frame.foldl (fun _ _ _ => ?_) ?_
  · first | split | (dsimp +zetaDelta -proj only; split)
    · try extract_lets
      refine Frame.comp (State.updSector_frame _ _ _ _) rfl ?_
      refine Frame.comp (State.updBank_frame _ _ _) rfl ?_
      refine Frame.ite (fun _ => ?_) (fun _ => ?_)
      · assumption
      · refine Frame.comp (State.doSuspend_frame _ _ _) rfl ?_
        assumption
    · assumption
  · exact Frame.refl _

theorem State.enterHoldup_frame (a0 : _) (a1 : State) : Frame 2521112639 a1 (State.enterHoldup a0 a1) := by
  unfold State.enterHoldup
  refine Frame.ite (fun _ => ?_) (fun _ => ?_)
  · exact Frame.refl _
  · try extract_lets
    try extract_lets
    try extract_lets
    try extract_lets
    refine Frame.comp (State.emit_frame _ _) rfl ?_
    refine Frame.set_moor rfl (fun i => absurd i (by decide)) ?_
    refine Frame.set_moor rfl (fun i => absurd i (by decide)) ?_
    refine Frame.set_faults rfl (fun _ => rfl) ?_
    refine Frame.comp (State.holdupErases_frame _) rfl ?_
    refine Frame.comp (State.changeMode_frame _ _ _) rfl ?_
    exact Frame.refl _

theorem State.classPress_frame (a0 : _) (a1 : State) : Frame 824608555007 a1 (State.classPress a0 a1) := by
  unfold State.classPress
  try extract_lets
  refine Frame.ite (fun _ => ?_) (fun _ => ?_)
  · exact Frame.refl _
  · refine Frame.ite (fun _ => ?_) (fun _ => ?_)
    · refine Frame.ite (fun _ => ?_) (fun _ => ?_)
      · refine Frame.comp (State.ignorePress_frame _ _ _) rfl ?_
        exact Frame.refl _
      · refine Frame.comp (State.enterHoldup_frame _ _) rfl ?_
        exact Frame.refl _
    · refine Frame.ite (fun _ => ?_) (fun _ => ?_)
      · refine Frame.comp (State.ignorePress_frame _ _ _) rfl ?_
        exact Frame.refl _
      · refine Frame.ite (fun _ => ?_) (fun _ => ?_)
        · refine Frame.comp (State.enterReset_frame _ _ _) rfl ?_
          exact Frame.refl _
        · refine Frame.ite (fun _ => ?_) (fun _ => ?_)
          · refine Frame.comp (State.ignorePress_frame _ _ _) rfl ?_
            exact Frame.refl _
          · exact Frame.refl _

theorem State.reportUnits_frame (a0 : State) : Frame 4194304 a0 (State.reportUnits a0) := by
  unfold State.reportUnits
  refine Frame.ite (fun _ => ?_) (fun _ => ?_)
  · exact Frame.refl _
  · try extract_lets
    try extract_lets
    refine Frame.foldl (fun _ _ _ => ?_) ?_
    · refine Frame.comp (State.emit_frame _ _) rfl ?_
      assumption
    · exact Frame.refl _

theorem State.bulkLines_frame (a0 : _) (a1 : State) : Frame 65536 a1 (State.bulkLines a0 a1) := by
  unfold State.bulkLines
  try extract_lets
  try extract_lets
  refine Frame.ite (fun _ => ?_) (fun _ => ?_)
  · refine Frame.comp (State.assertLine_frame _ _) rfl ?_
    exact Frame.refl _
  · refine Frame.comp (State.deassertLine_frame _ _) rfl ?_
    exact Frame.refl _

theorem State.bulkRead_frame (a0 : _) (a1 : _) (a2 : State) : Frame 589828 a2 (State.bulkRead a0 a1 a2).2.2 := by
  unfold State.bulkRead
  try extract_lets
  first | split | (dsimp +zetaDelta -proj only; split)
  · refine Frame.comp (State.raise_frame _ _ _) rfl ?_
    exact Frame.refl _
  · try extract_lets
    try extract_lets
    first | split | (dsimp +zetaDelta -proj only; split)
    · refine Frame.ite (fun _ => ?_) (fun _ => ?_)
      · exact Frame.refl _
      · refine Frame.ite (fun _ => ?_) (fun _ => ?_)
        · refine Frame.comp (State.bulkLines_frame _ _) rfl ?_
          refine Frame.comp (State.setBulk_frame _ _ _) rfl ?_
          exact Frame.refl _
        · refine Frame.comp (State.setBulk_frame _ _ _) rfl ?_
          exact Frame.refl _
    · refine Frame.ite (fun _ => ?_) (fun _ => ?_)
      · exact Frame.refl _
      · refine Frame.ite (fun _ => ?_) (fun _ => ?_)
        · refine Frame.comp (State.bulkLines_frame _ _) rfl ?_
          refine Frame.comp (State.setBulk_frame _ _ _) rfl ?_
          exact Frame.refl _
        · refine Frame.comp (State.setBulk_frame _ _ _) rfl ?_
          exact Frame.refl _

theorem execBeaconLoopCheck_frame (a0 : _) (a1 : _) (a2 : _) (a3 : State) : Frame.Out 2147557407 a3 (execBeaconLoopCheck a0 a1 a2 a3) := by
  unfold execBeaconLoopCheck
  try extract_lets
  try extract_lets
  refine Frame.next ?_
  refine Frame.ite (fun _ => ?_) (fun _ => ?_)
  · refine Frame.comp (State.advanceTo_frame _ _) rfl ?_
    exact Frame.refl _
  · try extract_lets
    refine Frame.ite (fun _ => ?_) (fun _ => ?_)
    · refine Frame.comp (State.updMoor_frame _ _) rfl ?_
      refine Frame.comp (State.advanceTo_frame _ _) rfl ?_
      exact Frame.refl _
    · refine Frame.comp (State.record_frame _ _ _) rfl ?_
      refine Frame.comp (State.checkFailed_frame _) rfl ?_
      refine Frame.comp (State.updMoor_frame _ _) rfl ?_
      refine Frame.comp (State.advanceTo_frame _ _) rfl ?_
      exact Frame.refl _

theorem State.eventRequest_frame (a0 : _) (a1 : _) (a2 : State) : Frame 25774076126 a2 (State.eventRequest a0 a1 a2) := by
  unfold State.eventRequest
  first | split | (dsimp +zetaDelta -proj only; split)
  · exact Frame.refl _
  · refine Frame.ite (fun _ => ?_) (fun _ => ?_)
    · refine Frame.comp (State.completeAdmin_frame _ _ _ _ _ _) rfl ?_
      exact Frame.refl _
    · refine Frame.comp (State.reportNotice_frame _ _) rfl ?_
      refine Frame.comp (State.updCtrl_frame _ _ _) rfl ?_
      exact Frame.refl _

theorem execButtonFailedClosed_frame (a0 : _) (a1 : State) : Frame.Out 67174431 a1 (execButtonFailedClosed a0 a1) := by
  unfold execButtonFailedClosed
  try extract_lets
  refine Frame.next ?_
  first | split | (dsimp +zetaDelta -proj only; split)
  · refine Frame.ite (fun _ => ?_) (fun _ => ?_)
    · refine Frame.comp (State.advanceTo_frame _ _) rfl ?_
      exact Frame.refl _
    · refine Frame.comp (State.record_frame _ _ _) rfl ?_
      refine Frame.set_md rfl (fun _ => rfl) (fun i => absurd i (by decide)) ?_
      refine Frame.comp (State.advanceTo_frame _ _) rfl ?_
      exact Frame.refl _
  · refine Frame.comp (State.advanceTo_frame _ _) rfl ?_
    exact Frame.refl _

theorem execDdupPolicyRead_frame (a0 : _) (a1 : _) (a2 : State) : Frame.Out 4294967301 a2 (execDdupPolicyRead a0 a1 a2) := by
  unfold execDdupPolicyRead
  try extract_lets
  refine Frame.next ?_
  refine State.gateRead_frame ?_ rfl ?_
  · intro _ _ _
    refine Frame.comp (State.setPathReg_frame _ _ _ _) rfl ?_
    assumption
  · refine Frame.comp (State.advanceTo_frame _ _) rfl ?_
    exact Frame.refl _

theorem execBusTimeout_frame (a0 : _) (a1 : _) (a2 : State) : Frame.Out 3705990889471 a2 (execBusTimeout a0 a1 a2) := by
  unfold execBusTimeout
  try extract_lets
  refine Frame.next ?_
  refine Frame.ite (fun _ => ?_) (fun _ => ?_)
  · refine Frame.comp (State.advanceTo_frame _ _) rfl ?_
    exact Frame.refl _
  · refine Frame.comp (State.fault_frame _ _ _ _ _) rfl ?_
    refine Frame.comp (State.raise_frame _ _ _) rfl ?_
    refine Frame.comp (State.count_frame _ _) rfl ?_
    refine Frame.comp (State.advanceTo_frame _ _) rfl ?_
    exact Frame.refl _

theorem State.commitFrame_frame (a0 : _) (a1 : _) (a2 : State) : Frame 1100589580928 a2 (State.commitFrame a0 a1 a2) := by
  unfold State.commitFrame
  refine Frame.ite (fun _ => ?_) (fun _ => ?_)
  · refine Frame.comp (State.emit_frame _ _) rfl ?_
    exact Frame.refl _
  · refine Frame.ite (fun _ => ?_) (fun _ => ?_)
    · refine Frame.set_repl rfl ?_
      exact Frame.refl _
    · refine Frame.comp (State.emit_frame _ _) rfl ?_
      refine Frame.comp (State.commitView_frame _ _) rfl ?_
      exact Frame.refl _

theorem State.storeFrame_frame (a0 : _) (a1 : _) (a2 : _) (a3 : State) : Frame 34359755072 a3 (State.storeFrame a0 a1 a2 a3) := by
  unfold State.storeFrame
  try extract_lets
  try extract_lets
  try extract_lets
  first | split | (dsimp +zetaDelta -proj only; split)
  · try extract_lets
    try extract_lets
    try extract_lets
    refine Frame.comp (State.formGrain_frame _ _ _ _ _) rfl ?_
    refine Frame.set_adm_repl rfl rfl (fun _ => rfl) (fun _ => rfl) (fun i => absurd i (by decide)) ?_
    exact Frame.refl _

theorem execReplicationFrame_frame (a0 : _) (a1 : _) (a2 : _) (a3 : _) (a4 : State) : Frame.Out 1134949319617 a4 (execReplicationFrame a0 a1 a2 a3 a4) := by
  unfold execReplicationFrame
  try extract_lets
  try extract_lets
  try extract_lets
  refine Frame.next ?_
  refine Frame.ite (fun _ => ?_) (fun _ => ?_)
  · refine Frame.comp (State.advanceTo_frame _ _) rfl ?_
    exact Frame.refl _
  · refine Frame.ite (fun _ => ?_) (fun _ => ?_)
    · refine Frame.comp (State.commitFrame_frame _ _ _) rfl ?_
      refine Frame.comp (State.advanceTo_frame _ _) rfl ?_
      exact Frame.refl _
    · try extract_lets
      refine Frame.ite (fun _ => ?_) (fun _ => ?_)
      · refine Frame.comp (State.storeFrame_frame _ _ _ _) rfl ?_
        refine Frame.comp (State.advanceTo_frame _ _) rfl ?_
        exact Frame.refl _
      · refine Frame.comp (State.emit_frame _ _) rfl ?_
        refine Frame.comp (State.advanceTo_frame _ _) rfl ?_
        exact Frame.refl _

theorem execLdgPoll_frame (a0 : _) (a1 : _) (a2 : State) : Frame.Out 4522015 a2 (execLdgPoll a0 a1 a2) := by
  unfold execLdgPoll
  try extract_lets
  try extract_lets
  refine Frame.next ?_
  refine Frame.ite (fun _ => ?_) (fun _ => ?_)
  · refine Frame.comp (State.advanceTo_frame _ _) rfl ?_
    exact Frame.refl _
  · refine Frame.ite (fun _ => ?_) (fun _ => ?_)
    · refine Frame.comp (State.ldgRefuse_frame _ _ _ _ _) rfl ?_
      refine Frame.comp (State.advanceTo_frame _ _) rfl ?_
      exact Frame.refl _
    · refine Frame.comp (State.ldgResult_frame _ _ _) rfl ?_
      refine Frame.comp (State.advanceTo_frame _ _) rfl ?_
      exact Frame.refl _

theorem State.setMaster_frame (a0 : _) (a1 : _) (a2 : State) : Frame 81950 a2 (State.setMaster a0 a1 a2) := by
  unfold State.setMaster
  refine Frame.comp (State.record_frame _ _ _) rfl ?_
  refine Frame.set_repl rfl ?_
  exact Frame.refl _

theorem State.applyReturned_frame (a0 : _) (a1 : State) : Frame 1332518024158 a1 (State.applyReturned a0 a1) := by
  unfold State.applyReturned
  try extract_lets
  first | split | (dsimp +zetaDelta -proj only; split)
  · refine Frame.comp (State.updResv_frame _ _ _) rfl ?_
    refine Frame.comp (State.applyChange_frame _ _ _ _ _ _) rfl ?_
    exact Frame.refl _
  · refine Frame.comp (State.updLink_frame _ _ _) rfl ?_
    refine Frame.comp (State.applyChange_frame _ _ _ _ _ _) rfl ?_
    exact Frame.refl _
  · refine Frame.comp (State.applyChange_frame _ _ _ _ _ _) rfl ?_
    exact Frame.refl _

theorem State.lanesDown_frame (a0 : _) (a1 : State) : Frame 32 a1 (State.lanesDown a0 a1) := by
  unfold State.lanesDown
  try extract_lets
  refine Frame.set_faults rfl (fun _ => rfl) ?_
  exact Frame.refl _

theorem execClockLoss_frame (a0 : _) (a1 : _) (a2 : State) : Frame.Out 824604360703 a2 (execClockLoss a0 a1 a2) := by
  unfold execClockLoss
  try extract_lets
  refine Frame.next ?_
  first | split | (dsimp +zetaDelta -proj only; split)
  · refine Frame.ite (fun _ => ?_) (fun _ => ?_)
    · refine Frame.comp (State.advanceTo_frame _ _) rfl ?_
      exact Frame.refl _
    · try extract_lets
      refine Frame.comp (State.record_frame _ _ _) rfl ?_
      refine Frame.set_time_md rfl rfl (fun i => absurd i (by decide)) (fun i => absurd i (by decide)) ?_ ?_
      · first | exact Nat.le_refl _ | exact Nat.le_add_right _ _ | (dsimp only; split <;> exact Nat.le_refl _)
      refine Frame.ite (fun _ => ?_) (fun _ => ?_)
      · refine Frame.comp (State.advanceTo_frame _ _) rfl ?_
        exact Frame.refl _
      · refine Frame.comp (State.enterReset_frame _ _ _) rfl ?_
        refine Frame.comp (State.advanceTo_frame _ _) rfl ?_
        exact Frame.refl _
  · refine Frame.ite (fun _ => ?_) (fun _ => ?_)
    · refine Frame.comp (State.advanceTo_frame _ _) rfl ?_
      exact Frame.refl _
    · refine Frame.comp (State.record_frame _ _ _) rfl ?_
      refine Frame.comp (State.lanesDown_frame _ _) rfl ?_
      refine Frame.set_time rfl ?_ ?_
      · first | exact Nat.le_refl _ | exact Nat.le_add_right _ _ | (dsimp only; split <;> exact Nat.le_refl _)
      refine Frame.comp (State.advanceTo_frame _ _) rfl ?_
      exact Frame.refl _
  · refine Frame.ite (fun _ => ?_) (fun _ => ?_)
    · refine Frame.comp (State.advanceTo_frame _ _) rfl ?_
      exact Frame.refl _
    · refine Frame.comp (State.record_frame _ _ _) rfl ?_
      refine Frame.comp (State.lanesDown_frame _ _) rfl ?_
      refine Frame.set_time rfl ?_ ?_
      · first | exact Nat.le_refl _ | exact Nat.le_add_right _ _ | (dsimp only; split <;> exact Nat.le_refl _)
      refine Frame.comp (State.advanceTo_frame _ _) rfl ?_
      exact Frame.refl _
  · refine Frame.ite (fun _ => ?_) (fun _ => ?_)
    · refine Frame.comp (State.advanceTo_frame _ _) rfl ?_
      exact Frame.refl _
    · refine Frame.comp (State.record_frame _ _ _) rfl ?_
      refine Frame.set_time rfl ?_ ?_
      · first | exact Nat.le_refl _ | exact Nat.le_add_right _ _ | (dsimp only; split <;> exact Nat.le_refl _)
      refine Frame.comp (State.advanceTo_frame _ _) rfl ?_
      exact Frame.refl _
  · refine Frame.comp (State.advanceTo_frame _ _) rfl ?_
    exact Frame.refl _

theorem State.enterJoin_frame (a0 : _) (a1 : State) : Frame 2520850591 a1 (State.enterJoin a0 a1) := by
  unfold State.enterJoin
  refine Frame.comp (State.updMoor_frame _ _) rfl ?_
  refine Frame.comp (State.enterMode_frame _ _ _) rfl ?_
  exact Frame.refl _

theorem State.selfFence_frame (a0 : _) (a1 : State) : Frame 1923445158879 a1 (State.selfFence a0 a1) := by
  unfold State.selfFence
  try extract_lets
  try extract_lets
  refine Frame.comp (State.runRelayHeld_frame _) rfl ?_
  refine Frame.set_adm_path rfl rfl (fun i => absurd i (by decide)) (fun i => absurd i (by decide)) (fun i => absurd i (by decide)) (fun i => absurd i (by decide)) (fun _ => rfl) (fun _ => rfl) ?_
  refine Frame.comp (State.updMoor_frame _ _) rfl ?_
  refine Frame.comp (State.raise_frame _ _ _) rfl ?_
  refine Frame.comp (State.record_frame _ _ _) rfl ?_
  refine Frame.comp (State.enterJoin_frame _ _) rfl ?_
  refine Frame.comp (State.relayOff_frame _ _) rfl ?_
  exact Frame.refl _

theorem State.writeMoorCmd_frame (a0 : _) (a1 : _) (a2 : State) : Frame 1923445158879 a2 (State.writeMoorCmd a0 a1 a2) := by
  unfold State.writeMoorCmd
  refine State.gateWrite_frame ?_ rfl ?_
  · intro _ _ _
    try extract_lets
    refine Frame.ite (fun _ => ?_) (fun _ => ?_)
    · refine Frame.ite (fun _ => ?_) (fun _ => ?_)
      · refine Frame.comp (State.updMoor_frame _ _) rfl ?_
        refine Frame.ite (fun _ => ?_) (fun _ => ?_)
        · refine Frame.ite (fun _ => ?_) (fun _ => ?_)
          · refine Frame.comp (State.updMoor_frame _ _) rfl ?_
            refine Frame.comp (State.selfFence_frame _ _) rfl ?_
            assumption
          · refine Frame.comp (State.ignored_frame _) rfl ?_
            assumption
        · assumption
      · refine Frame.comp (State.ignored_frame _) rfl ?_
        refine Frame.ite (fun _ => ?_) (fun _ => ?_)
        · refine Frame.ite (fun _ => ?_) (fun _ => ?_)
          · refine Frame.comp (State.updMoor_frame _ _) rfl ?_
            refine Frame.comp (State.selfFence_frame _ _) rfl ?_
            assumption
          · refine Frame.comp (State.ignored_frame _) rfl ?_
            assumption
        · assumption
    · refine Frame.ite (fun _ => ?_) (fun _ => ?_)
      · refine Frame.ite (fun _ => ?_) (fun _ => ?_)
        · refine Frame.comp (State.updMoor_frame _ _) rfl ?_
          refine Frame.comp (State.selfFence_frame _ _) rfl ?_
          assumption
        · refine Frame.comp (State.ignored_frame _) rfl ?_
          assumption
      · assumption
  · exact Frame.refl _

theorem State.refuseCommand_frame (a0 : State) : Frame 4 a0 (State.refuseCommand a0) := by
  unfold State.refuseCommand
  refine Frame.comp (State.ignored_frame _) rfl ?_
  refine Frame.comp (State.raise_frame _ _ _) rfl ?_
  exact Frame.refl _

theorem State.unspare_frame (a0 : _) (a1 : State) : Frame 138741790 a1 (State.unspare a0 a1) := by
  unfold State.unspare
  refine Frame.ite (fun _ => ?_) (fun _ => ?_)
  · refine Frame.comp (State.memberChanged_frame _) rfl ?_
    refine Frame.set_strp rfl ?_
    exact Frame.refl _
  · exact Frame.refl _

theorem State.moduleMakeUnused_frame (a0 : _) (a1 : State) : Frame 138741790 a1 (State.moduleMakeUnused a0 a1) := by
  unfold State.moduleMakeUnused
  refine Frame.ite (fun _ => ?_) (fun _ => ?_)
  · exact Frame.refl _
  · refine Frame.ite (fun _ => ?_) (fun _ => ?_)
    · refine Frame.comp (State.updPort_frame _ _ _) rfl ?_
      refine Frame.comp (State.unspare_frame _ _) rfl ?_
      exact Frame.refl _
    · refine Frame.comp (State.refuseCommand_frame _) rfl ?_
      exact Frame.refl _

theorem State.portOff_frame (a0 : _) (a1 : _) (a2 : State) : Frame 3072 a2 (State.portOff a0 a1 a2) := by
  unfold State.portOff
  try extract_lets
  refine Frame.set_flash rfl ?_
  refine Frame.comp (State.updPort_frame _ _ _) rfl ?_
  exact Frame.refl _

theorem State.moduleRelease_frame (a0 : _) (a1 : State) : Frame 138742814 a1 (State.moduleRelease a0 a1) := by
  unfold State.moduleRelease
  refine Frame.ite (fun _ => ?_) (fun _ => ?_)
  · refine Frame.comp (State.record_frame _ _ _) rfl ?_
    refine Frame.comp (State.unspare_frame _ _) rfl ?_
    refine Frame.comp (State.portOff_frame _ _ _) rfl ?_
    exact Frame.refl _
  · refine Frame.comp (State.refuseCommand_frame _) rfl ?_
    exact Frame.refl _

theorem State.moduleMakeSpare_frame (a0 : _) (a1 : State) : Frame 138741790 a1 (State.moduleMakeSpare a0 a1) := by
  unfold State.moduleMakeSpare
  refine Frame.ite (fun _ => ?_) (fun _ => ?_)
  · exact Frame.refl _
  · refine Frame.ite (fun _ => ?_) (fun _ => ?_)
    · refine Frame.comp (State.memberChanged_frame _) rfl ?_
      refine Frame.comp (State.updPort_frame _ _ _) rfl ?_
      refine Frame.set_strp rfl ?_
      exact Frame.refl _
    · refine Frame.comp (State.refuseCommand_frame _) rfl ?_
      exact Frame.refl _

theorem State.writeModcmd_frame (a0 : _) (a1 : _) (a2 : State) : Frame 138742814 a2 (State.writeModcmd a0 a1 a2) := by
  unfold State.writeModcmd
  refine State.gateWrite_frame ?_ rfl ?_
  · intro _ _ _
    try extract_lets
    first | split | (dsimp +zetaDelta -proj only; split)
    · refine Frame.comp (State.moduleRelease_frame _ _) rfl ?_
      assumption
    · refine Frame.comp (State.moduleMakeSpare_frame _ _) rfl ?_
      assumption
    · refine Frame.comp (State.moduleMakeUnused_frame _ _) rfl ?_
      assumption
    · assumption
  · exact Frame.refl _

theorem execModuleMakeSpare_frame (a0 : _) (a1 : _) (a2 : _) (a3 : State) : Frame.Out 138742815 a3 (execModuleMakeSpare a0 a1 a2 a3) := by
  unfold execModuleMakeSpare
  refine Frame.next ?_
  refine Frame.comp (State.writeModcmd_frame _ _ _) rfl ?_
  refine Frame.comp (State.advanceTo_frame _ _) rfl ?_
  exact Frame.refl _

theorem State.ldgWipe_frame (b sec : Nat) (s : State) : Frame 262144 s (State.ldgWipe b sec s) :=
  Frame.set_ldg rfl filter_wf (Frame.refl s)

theorem State.cycled_frame (a0 : _) (a1 : _) (a2 : State) : Frame 327710 a2 (State.cycled a0 a1 a2) := by
  unfold State.cycled
  try extract_lets
  try extract_lets
  try extract_lets
  try extract_lets
  try extract_lets
  refine Frame.ite (fun _ => ?_) (fun _ => ?_)
  · refine Frame.comp (State.record_frame _ _ _) rfl ?_
    refine Frame.comp (State.raise_frame _ _ _) rfl ?_
    refine Frame.ite (fun _ => ?_) (fun _ => ?_)
    · refine Frame.comp (State.record_frame _ _ _) rfl ?_
      refine Frame.comp (State.raise_frame _ _ _) rfl ?_
      refine Frame.comp (State.updSector_frame _ _ _ _) rfl ?_
      exact Frame.refl _
    · refine Frame.comp (State.updSector_frame _ _ _ _) rfl ?_
      exact Frame.refl _
  · refine Frame.ite (fun _ => ?_) (fun _ => ?_)
    · refine Frame.comp (State.record_frame _ _ _) rfl ?_
      refine Frame.comp (State.raise_frame _ _ _) rfl ?_
      refine Frame.comp (State.updSector_frame _ _ _ _) rfl ?_
      exact Frame.refl _
    · refine Frame.comp (State.updSector_frame _ _ _ _) rfl ?_
      exact Frame.refl _

theorem State.dropRing_frame (a0 : _) (a1 : _) (a2 : State) : Frame 8 a2 (State.dropRing a0 a1 a2) := by
  unfold State.dropRing
  refine Frame.comp (State.dropRingAt_frame _ _) rfl ?_
  exact Frame.refl _

theorem State.ldgFail_frame (a0 : _) (a1 : _) (a2 : _) (a3 : State) : Frame 327710 a3 (State.ldgFail a0 a1 a2 a3) := by
  unfold State.ldgFail
  refine Frame.comp (State.record_frame _ _ _) rfl ?_
  refine Frame.comp (State.record_frame _ _ _) rfl ?_
  refine Frame.comp (State.raise_frame _ _ _) rfl ?_
  refine Frame.comp (State.updSector_frame _ _ _ _) rfl ?_
  exact Frame.refl _

theorem execLedgerEraseDone_frame (a0 : _) (a1 : _) (a2 : _) (a3 : State) : Frame.Out 138739743 a3 (execLedgerEraseDone a0 a1 a2 a3) := by
  unfold execLedgerEraseDone
  try extract_lets
  try extract_lets
  refine Frame.next ?_
  first | split | (dsimp +zetaDelta -proj only; split)
  · refine Frame.comp (State.advanceTo_frame _ _) rfl ?_
    exact Frame.refl _
  · refine Frame.ite (fun _ => ?_) (fun _ => ?_)
    · refine Frame.comp (State.advanceTo_frame _ _) rfl ?_
      exact Frame.refl _
    · refine Frame.ite (fun _ => ?_) (fun _ => ?_)
      · try extract_lets
        first | split | (dsimp +zetaDelta -proj only; split)
        · refine Frame.comp (State.pump_frame _) rfl ?_
          refine Frame.comp (State.startProg_frame _ _) rfl ?_
          refine Frame.comp (State.cycled_frame _ _ _) rfl ?_
          refine Frame.comp (State.updBank_frame _ _ _) rfl ?_
          refine Frame.comp (State.ldgWipe_frame _ _ _) rfl ?_
          refine Frame.comp (State.dropRing_frame _ _ _) rfl ?_
          refine Frame.comp (State.advanceTo_frame _ _) rfl ?_
          exact Frame.refl _
        · refine Frame.comp (State.pump_frame _) rfl ?_
          refine Frame.comp (State.ldgRefuse_frame _ _ _ _ _) rfl ?_
          refine Frame.comp (State.cycled_frame _ _ _) rfl ?_
          refine Frame.comp (State.updBank_frame _ _ _) rfl ?_
          refine Frame.comp (State.ldgWipe_frame _ _ _) rfl ?_
          refine Frame.comp (State.dropRing_frame _ _ _) rfl ?_
          refine Frame.comp (State.advanceTo_frame _ _) rfl ?_
          exact Frame.refl _
        · refine Frame.comp (State.pump_frame _) rfl ?_
          refine Frame.comp (State.cycled_frame _ _ _) rfl ?_
          refine Frame.comp (State.updBank_frame _ _ _) rfl ?_
          refine Frame.comp (State.ldgWipe_frame _ _ _) rfl ?_
          refine Frame.comp (State.dropRing_frame _ _ _) rfl ?_
          refine Frame.comp (State.advanceTo_frame _ _) rfl ?_
          exact Frame.refl _
      · refine Frame.ite (fun _ => ?_) (fun _ => ?_)
        · refine Frame.comp (State.updBank_frame _ _ _) rfl ?_
          refine Frame.comp (State.advanceTo_frame _ _) rfl ?_
          exact Frame.refl _
        · try extract_lets
          try extract_lets
          first | split | (dsimp +zetaDelta -proj only; split)
          · refine Frame.comp (State.pump_frame _) rfl ?_
            refine Frame.comp (State.startProg_frame _ _) rfl ?_
            refine Frame.comp (State.ldgFail_frame _ _ _ _) rfl ?_
            refine Frame.comp (State.updBank_frame _ _ _) rfl ?_
            refine Frame.comp (State.updSector_frame _ _ _ _) rfl ?_
            refine Frame.comp (State.advanceTo_frame _ _) rfl ?_
            exact Frame.refl _
          · refine Frame.comp (State.pump_frame _) rfl ?_
            refine Frame.comp (State.ldgRefuse_frame _ _ _ _ _) rfl ?_
            refine Frame.comp (State.ldgFail_frame _ _ _ _) rfl ?_
            refine Frame.comp (State.updBank_frame _ _ _) rfl ?_
            refine Frame.comp (State.updSector_frame _ _ _ _) rfl ?_
            refine Frame.comp (State.advanceTo_frame _ _) rfl ?_
            exact Frame.refl _
          · refine Frame.comp (State.pump_frame _) rfl ?_
            refine Frame.comp (State.ldgFail_frame _ _ _ _) rfl ?_
            refine Frame.comp (State.updBank_frame _ _ _) rfl ?_
            refine Frame.comp (State.updSector_frame _ _ _ _) rfl ?_
            refine Frame.comp (State.advanceTo_frame _ _) rfl ?_
            exact Frame.refl _

theorem State.clearNotices_frame (a0 : _) (a1 : _) (a2 : State) : Frame 128 a2 (State.clearNotices a0 a1 a2) := by
  unfold State.clearNotices
  refine Frame.comp (State.updCtrl_frame _ _ _) rfl ?_
  exact Frame.refl _

theorem State.startResync_frame (a0 : _) (a1 : State) : Frame 2151751774 a1 (State.startResync a0 a1) := by
  unfold State.startResync
  try extract_lets
  refine Frame.comp (State.resyncStage_frame _) rfl ?_
  refine Frame.comp (State.resyncPass_frame _) rfl ?_
  refine Frame.comp (State.updMoor_frame _ _) rfl ?_
  refine Frame.foldl (fun _ _ _ => ?_) ?_
  · refine Frame.comp (State.emit_frame _ _) rfl ?_
    assumption
  · refine Frame.comp (State.sendChanges_frame _ _) rfl ?_
    refine Frame.comp (State.record_frame _ _ _) rfl ?_
    refine Frame.ite (fun _ => ?_) (fun _ => ?_)
    · refine Frame.comp (State.updMoor_frame _ _) rfl ?_
      exact Frame.refl _
    · exact Frame.refl _

theorem State.enterHandback_frame (a0 : _) (a1 : _) (a2 : State) : Frame 2520850655 a2 (State.enterHandback a0 a1 a2) := by
  unfold State.enterHandback
  try extract_lets
  refine Frame.comp (State.startResync_frame _ _) rfl ?_
  refine Frame.comp (State.renewPartner_frame _ _) rfl ?_
  refine Frame.comp (State.renewOwn_frame _ _) rfl ?_
  refine Frame.comp (State.updMoor_frame _ _) rfl ?_
  refine Frame.comp (State.enterMode_frame _ _ _) rfl ?_
  exact Frame.refl _

theorem State.beaconModes_frame (a0 : _) (a1 : _) (a2 : State) : Frame 11245265119 a2 (State.beaconModes a0 a1 a2) := by
  unfold State.beaconModes
  refine Frame.ite (fun _ => ?_) (fun _ => ?_)
  · refine Frame.comp (State.enterHandback_frame _ _ _) rfl ?_
    exact Frame.refl _
  · refine Frame.ite (fun _ => ?_) (fun _ => ?_)
    · refine Frame.comp (State.startResync_frame _ _) rfl ?_
      exact Frame.refl _
    · refine Frame.comp (State.exchanged_frame _) rfl ?_
      exact Frame.refl _

end Sys2Proof.Laws
end

