-- ==== Sys2Proof/Laws/Frame5.lean ====
section
/-!
SUPPORT. Frames of the operations, part 5 of 8: what each may touch (see Frame.lean). Each proof follows its operation's body.
-/

namespace Sys2Proof.Laws

open Sys2Proof.Machine

theorem State.beaconRelease_frame (a0 : _) (a1 : State) : Frame 2147557406 a1 (State.beaconRelease a0 a1) := by
  unfold State.beaconRelease
  refine Frame.ite (fun _ => ?_) (fun _ => ?_)
  · refine Frame.comp (State.record_frame _ _ _) rfl ?_
    refine Frame.comp (State.updMoor_frame _ _) rfl ?_
    exact Frame.refl _
  · exact Frame.refl _

theorem State.adoptEpoch_frame (a0 : _) (a1 : _) (a2 : State) : Frame 2151686144 a2 (State.adoptEpoch a0 a1 a2) := by
  unfold State.adoptEpoch
  refine Frame.ite (fun _ => ?_) (fun _ => ?_)
  · try extract_lets
    try extract_lets
    refine Frame.ite (fun _ => ?_) (fun _ => ?_)
    · refine Frame.comp (State.reportUnits_frame _) rfl ?_
      refine Frame.comp (State.updMoor_frame _ _) rfl ?_
      exact Frame.refl _
    · refine Frame.comp (State.updMoor_frame _ _) rfl ?_
      exact Frame.refl _
  · exact Frame.refl _

theorem State.acceptBeacon_frame (a0 : _) (a1 : _) (a2 : State) : Frame 11245265119 a2 (State.acceptBeacon a0 a1 a2) := by
  unfold State.acceptBeacon
  try extract_lets
  refine Frame.comp (State.beaconModes_frame _ _ _) rfl ?_
  refine Frame.comp (State.beaconLease_frame _ _ _) rfl ?_
  refine Frame.comp (State.beaconRelease_frame _ _) rfl ?_
  refine Frame.comp (State.updMoor_frame _ _) rfl ?_
  refine Frame.comp (State.adoptEpoch_frame _ _ _) rfl ?_
  exact Frame.refl _

theorem State.queueRewrite_frame (a0 : _) (a1 : _) (a2 : State) : Frame 6597069833566 a2 (State.queueRewrite a0 a1 a2) := by
  unfold State.queueRewrite
  try extract_lets
  refine Frame.comp (State.placeRewrite_frame _ _) rfl ?_
  refine Frame.set_path rfl (fun _ => rfl) (fun i => absurd i (by decide)) (fun i => absurd i (by decide)) ?_
  exact Frame.refl _

theorem State.mergeDone_frame (a0 : _) (a1 : _) (a2 : _) (a3 : _) (a4 : State) : Frame 34359738688 a4 (State.mergeDone a0 a1 a2 a3 a4) := by
  unfold State.mergeDone
  first | split | (dsimp +zetaDelta -proj only; split)
  · exact Frame.refl _
  · refine Frame.comp (State.formGrain_frame _ _ _ _ _) rfl ?_
    exact Frame.refl _

theorem State.deliver_frame (a0 : _) (a1 : _) (a2 : State) : Frame 8378780841951 a2 (State.deliver a0 a1 a2) := by
  unfold State.deliver
  refine Frame.ite (fun _ => ?_) (fun _ => ?_)
  · refine Frame.comp (State.readFail_frame _ _ _) rfl ?_
    refine Frame.comp (State.record_frame _ _ _) rfl ?_
    exact Frame.refl _
  · try extract_lets
    try extract_lets
    try extract_lets
    try extract_lets
    refine Frame.ite (fun _ => ?_) (fun _ => ?_)
    · first | split | (dsimp +zetaDelta -proj only; split)
      · refine Frame.comp (State.mergeDone_frame _ _ _ _ _) rfl ?_
        refine Frame.ite (fun _ => ?_) (fun _ => ?_)
        · refine Frame.set_path rfl (fun i => absurd i (by decide)) (fun i => absurd i (by decide)) (fun i => absurd i (by decide)) ?_
          first | split | (dsimp +zetaDelta -proj only; split)
          · refine Frame.comp (State.queueRewrite_frame _ _ _) rfl ?_
            refine Frame.comp (State.record_frame _ _ _) rfl ?_
            refine Frame.comp (State.dropRead_frame _ _) rfl ?_
            exact Frame.refl _
          · refine Frame.comp (State.queueRewrite_frame _ _ _) rfl ?_
            refine Frame.comp (State.record_frame _ _ _) rfl ?_
            refine Frame.comp (State.dropRead_frame _ _) rfl ?_
            exact Frame.refl _
          · refine Frame.comp (State.dropRead_frame _ _) rfl ?_
            exact Frame.refl _
        · first | split | (dsimp +zetaDelta -proj only; split)
          · refine Frame.comp (State.queueRewrite_frame _ _ _) rfl ?_
            refine Frame.comp (State.record_frame _ _ _) rfl ?_
            refine Frame.comp (State.dropRead_frame _ _) rfl ?_
            exact Frame.refl _
          · refine Frame.comp (State.queueRewrite_frame _ _ _) rfl ?_
            refine Frame.comp (State.record_frame _ _ _) rfl ?_
            refine Frame.comp (State.dropRead_frame _ _) rfl ?_
            exact Frame.refl _
          · refine Frame.comp (State.dropRead_frame _ _) rfl ?_
            exact Frame.refl _
      · refine Frame.ite (fun _ => ?_) (fun _ => ?_)
        · refine Frame.set_path rfl (fun i => absurd i (by decide)) (fun i => absurd i (by decide)) (fun i => absurd i (by decide)) ?_
          first | split | (dsimp +zetaDelta -proj only; split)
          · refine Frame.comp (State.queueRewrite_frame _ _ _) rfl ?_
            refine Frame.comp (State.record_frame _ _ _) rfl ?_
            refine Frame.comp (State.dropRead_frame _ _) rfl ?_
            exact Frame.refl _
          · refine Frame.comp (State.queueRewrite_frame _ _ _) rfl ?_
            refine Frame.comp (State.record_frame _ _ _) rfl ?_
            refine Frame.comp (State.dropRead_frame _ _) rfl ?_
            exact Frame.refl _
          · refine Frame.comp (State.dropRead_frame _ _) rfl ?_
            exact Frame.refl _
        · first | split | (dsimp +zetaDelta -proj only; split)
          · refine Frame.comp (State.queueRewrite_frame _ _ _) rfl ?_
            refine Frame.comp (State.record_frame _ _ _) rfl ?_
            refine Frame.comp (State.dropRead_frame _ _) rfl ?_
            exact Frame.refl _
          · refine Frame.comp (State.queueRewrite_frame _ _ _) rfl ?_
            refine Frame.comp (State.record_frame _ _ _) rfl ?_
            refine Frame.comp (State.dropRead_frame _ _) rfl ?_
            exact Frame.refl _
          · refine Frame.comp (State.dropRead_frame _ _) rfl ?_
            exact Frame.refl _
    · refine Frame.comp (State.giveGrain_frame _ _ _ _ _ _ _ _) rfl ?_
      refine Frame.ite (fun _ => ?_) (fun _ => ?_)
      · refine Frame.set_path rfl (fun i => absurd i (by decide)) (fun i => absurd i (by decide)) (fun i => absurd i (by decide)) ?_
        first | split | (dsimp +zetaDelta -proj only; split)
        · refine Frame.comp (State.queueRewrite_frame _ _ _) rfl ?_
          refine Frame.comp (State.record_frame _ _ _) rfl ?_
          refine Frame.comp (State.dropRead_frame _ _) rfl ?_
          exact Frame.refl _
        · refine Frame.comp (State.queueRewrite_frame _ _ _) rfl ?_
          refine Frame.comp (State.record_frame _ _ _) rfl ?_
          refine Frame.comp (State.dropRead_frame _ _) rfl ?_
          exact Frame.refl _
        · refine Frame.comp (State.dropRead_frame _ _) rfl ?_
          exact Frame.refl _
      · first | split | (dsimp +zetaDelta -proj only; split)
        · refine Frame.comp (State.queueRewrite_frame _ _ _) rfl ?_
          refine Frame.comp (State.record_frame _ _ _) rfl ?_
          refine Frame.comp (State.dropRead_frame _ _) rfl ?_
          exact Frame.refl _
        · refine Frame.comp (State.queueRewrite_frame _ _ _) rfl ?_
          refine Frame.comp (State.record_frame _ _ _) rfl ?_
          refine Frame.comp (State.dropRead_frame _ _) rfl ?_
          exact Frame.refl _
        · refine Frame.comp (State.dropRead_frame _ _) rfl ?_
          exact Frame.refl _

theorem State.writeSwreq_frame (a0 : _) (a1 : _) (a2 : State) : Frame 65540 a2 (State.writeSwreq a0 a1 a2) := by
  unfold State.writeSwreq
  refine State.gateWrite_frame ?_ rfl ?_
  · intro _ _ _
    refine Frame.ite (fun _ => ?_) (fun _ => ?_)
    · assumption
    · refine Frame.foldl (fun _ _ _ => ?_) ?_
      · refine Frame.ite (fun _ => ?_) (fun _ => ?_)
        · refine Frame.comp (State.assertLine_frame _ _) rfl ?_
          assumption
        · assumption
      · assumption
  · exact Frame.refl _

theorem State.refuseMode_frame (a0 : _) (a1 : State) : Frame 65566 a1 (State.refuseMode a0 a1) := by
  unfold State.refuseMode
  refine Frame.comp (State.record_frame _ _ _) rfl ?_
  refine Frame.comp (State.raise_frame _ _ _) rfl ?_
  exact Frame.refl _

theorem State.requestBench_frame (a0 : State) : Frame 369164319 a0 (State.requestBench a0) := by
  unfold State.requestBench
  refine Frame.ite (fun _ => ?_) (fun _ => ?_)
  · refine Frame.comp (State.refuseMode_frame _ _) rfl ?_
    exact Frame.refl _
  · refine Frame.ite (fun _ => ?_) (fun _ => ?_)
    · refine Frame.comp (State.changeMode_frame _ _ _) rfl ?_
      exact Frame.refl _
    · refine Frame.ite (fun _ => ?_) (fun _ => ?_)
      · refine Frame.set_md rfl (fun i => absurd i (by decide)) (fun i => absurd i (by decide)) ?_
        exact Frame.refl _
      · refine Frame.comp (State.refuseMode_frame _ _) rfl ?_
        exact Frame.refl _

theorem State.swapFirmware_frame (a0 : _) (a1 : _) (a2 : State) : Frame 373391519 a2 (State.swapFirmware a0 a1 a2) := by
  unfold State.swapFirmware
  try extract_lets
  try extract_lets
  refine Frame.comp (State.enterMode_frame _ _ _) rfl ?_
  refine Frame.set_md rfl (fun i => absurd i (by decide)) (fun i => absurd i (by decide)) ?_
  refine Frame.comp (State.putFirmware_frame _ _) rfl ?_
  refine Frame.comp (State.fillBuffers_frame _ _ _) rfl ?_
  exact Frame.refl _

theorem State.relayInto_frame (new : List Byte) (p : Option (List Nat) × State) : Frame 373391519 p.2 (State.relayInto new p) := by
  obtain ⟨o, s1⟩ := p
  cases o with
  | none => exact Frame.comp (State.refuseMode_frame _ _) rfl (Frame.refl _)
  | some bufs => exact Frame.comp (State.swapFirmware_frame _ _ _) rfl (Frame.refl _)

theorem State.takeFirmware_frame : ∀ (n : Nat) (got : List Nat) (s : State), Frame 98334 s (State.takeFirmware n got s).2
  | 0, _, s => Frame.refl s
  | n + 1, _, s => by
    unfold State.takeFirmware
    split
    · exact Frame.comp (State.takeFirmware_frame n _ _) rfl (Frame.comp (State.grant_frame _ _ _) rfl (Frame.refl _))
    · exact Frame.comp (State.freeFirmware_frame _ _) rfl (Frame.comp (State.grant_frame _ _ _) rfl (Frame.refl _))

theorem State.requestRelay_frame (s : State) : Frame 373391519 s (State.requestRelay s) := by
  unfold State.requestRelay
  split
  · exact Frame.comp (State.refuseMode_frame _ _) rfl (Frame.refl _)
  · cases State.relaySlot s with
    | none => exact Frame.comp (State.refuseMode_frame _ _) rfl (Frame.refl _)
    | some i =>
      dsimp only
      generalize ceilDiv (max (s.sectionBytes i 1).length s.md.fwLen) fwBufSize = n
      have hs : Frame 373391519 s (State.takeFirmware n [] s).2 := Frame.comp (State.takeFirmware_frame _ _ _) rfl (Frame.refl _)
      exact Frame.comp (State.relayInto_frame _ _) rfl hs

theorem State.modeRequest_frame (a0 : _) (a1 : State) : Frame 1781711352831 a1 (State.modeRequest a0 a1) := by
  unfold State.modeRequest
  first | split | (dsimp +zetaDelta -proj only; split)
  · refine Frame.ite (fun _ => ?_) (fun _ => ?_)
    · refine Frame.comp (State.enterSlack_frame _ _) rfl ?_
      exact Frame.refl _
    · refine Frame.comp (State.refuseMode_frame _ _) rfl ?_
      exact Frame.refl _
  · refine Frame.ite (fun _ => ?_) (fun _ => ?_)
    · refine Frame.comp (State.refuseMode_frame _ _) rfl ?_
      exact Frame.refl _
    · refine Frame.ite (fun _ => ?_) (fun _ => ?_)
      · exact Frame.refl _
      · refine Frame.set_md rfl (fun i => absurd i (by decide)) (fun i => absurd i (by decide)) ?_
        exact Frame.refl _
  · refine Frame.comp (State.requestRelay_frame _) rfl ?_
    exact Frame.refl _
  · refine Frame.ite (fun _ => ?_) (fun _ => ?_)
    · refine Frame.comp (State.enterPreservation_frame _ _) rfl ?_
      exact Frame.refl _
    · refine Frame.comp (State.refuseMode_frame _ _) rfl ?_
      exact Frame.refl _
  · refine Frame.ite (fun _ => ?_) (fun _ => ?_)
    · refine Frame.comp (State.enterHoldup_frame _ _) rfl ?_
      exact Frame.refl _
    · refine Frame.comp (State.refuseMode_frame _ _) rfl ?_
      exact Frame.refl _
  · refine Frame.comp (State.requestBench_frame _) rfl ?_
    exact Frame.refl _
  · refine Frame.comp (State.refuseMode_frame _ _) rfl ?_
    exact Frame.refl _

theorem State.writeModeReq_frame (a0 : _) (a1 : _) (a2 : State) : Frame 1781711352831 a2 (State.writeModeReq a0 a1 a2) := by
  unfold State.writeModeReq
  refine State.gateWrite_frame ?_ rfl ?_
  · intro _ _ _
    refine Frame.comp (State.modeRequest_frame _ _) rfl ?_
    assumption
  · exact Frame.refl _

theorem State.writeClrGo_frame (a0 : _) (a1 : _) (a2 : State) : Frame 134283294 a2 (State.writeClrGo a0 a1 a2) := by
  unfold State.writeClrGo
  refine State.gateWrite_frame ?_ rfl ?_
  · intro _ _ _
    refine Frame.comp (State.clearRecs_frame _ _ _ _) rfl ?_
    assumption
  · exact Frame.refl _

theorem State.setPair_frame (a0 : _) (a1 : _) (a2 : _) (a3 : _) (a4 : State) : Frame 4294967300 a4 (State.setPair a0 a1 a2 a3 a4) := by
  unfold State.setPair
  refine Frame.comp (State.setPathReg_frame _ _ _ _) rfl ?_
  refine Frame.comp (State.setPathReg_frame _ _ _ _) rfl ?_
  exact Frame.refl _

theorem State.writeTallyAt_frame (a0 : _) (a1 : _) (a2 : State) : Frame 4563468318 a2 (State.writeTallyAt a0 a1 a2) := by
  unfold State.writeTallyAt
  refine State.gateWrite_frame ?_ rfl ?_
  · intro _ _ _
    try extract_lets
    refine Frame.comp (State.tallyAsk_frame _ _ _) rfl ?_
    refine Frame.comp (State.setPair_frame _ _ _ _ _) rfl ?_
    assumption
  · exact Frame.refl _

theorem State.writeAge_frame (a0 : _) (a1 : _) (a2 : State) : Frame 32772 a2 (State.writeAge a0 a1 a2) := by
  unfold State.writeAge
  refine State.gateWrite_frame ?_ rfl ?_
  · intro _ _ _
    refine Frame.comp (State.updOwner_frame _ _ _) rfl ?_
    assumption
  · exact Frame.refl _

theorem State.tallyRestart_frame (a0 : State) : Frame 268501022 a0 (State.tallyRestart a0) := by
  unfold State.tallyRestart
  refine Frame.ite (fun _ => ?_) (fun _ => ?_)
  · refine Frame.comp (State.record_frame _ _ _) rfl ?_
    refine Frame.comp (State.raise_frame _ _ _) rfl ?_
    refine Frame.set_tally rfl (fun i => absurd i (by decide)) ?_
    exact Frame.refl _
  · exact Frame.refl _

theorem State.resumeDma_frame (a0 : State) : Frame 805371934 a0 (State.resumeDma a0) := by
  unfold State.resumeDma
  refine Frame.ite (fun _ => ?_) (fun _ => ?_)
  · refine Frame.comp (State.ignored_frame _) rfl ?_
    exact Frame.refl _
  · refine Frame.ite (fun _ => ?_) (fun _ => ?_)
    · exact Frame.refl _
    · try extract_lets
      refine Frame.comp (State.record_frame _ _ _) rfl ?_
      refine Frame.comp (State.tallyRestart_frame _) rfl ?_
      refine Frame.set_dma rfl (fun i => absurd i (by decide)) ?_
      exact Frame.refl _

theorem State.writeHdmaGctl_frame (a0 : _) (a1 : _) (a2 : State) : Frame 805371934 a2 (State.writeHdmaGctl a0 a1 a2) := by
  unfold State.writeHdmaGctl
  refine State.gateWrite_frame ?_ rfl ?_
  · intro _ _ _
    try extract_lets
    refine Frame.ite (fun _ => ?_) (fun _ => ?_)
    · refine Frame.comp (State.resumeDma_frame _) rfl ?_
      refine Frame.ite (fun _ => ?_) (fun _ => ?_)
      · assumption
      · refine Frame.ite (fun _ => ?_) (fun _ => ?_)
        · refine Frame.comp (State.setReg_frame _ _ _) rfl ?_
          assumption
        · refine Frame.comp (State.ignored_frame _) rfl ?_
          assumption
    · refine Frame.ite (fun _ => ?_) (fun _ => ?_)
      · assumption
      · refine Frame.ite (fun _ => ?_) (fun _ => ?_)
        · refine Frame.comp (State.setReg_frame _ _ _) rfl ?_
          assumption
        · refine Frame.comp (State.ignored_frame _) rfl ?_
          assumption
  · exact Frame.refl _

theorem State.writeKeyhash_frame (a0 : _) (a1 : _) (a2 : _) (a3 : State) : Frame 67108870 a3 (State.writeKeyhash a0 a1 a2 a3) := by
  unfold State.writeKeyhash
  refine State.gateWrite_frame ?_ rfl ?_
  · intro _ _ _
    refine Frame.set_md rfl (fun _ => rfl) (fun i => absurd i (by decide)) ?_
    assumption
  · exact Frame.refl _

theorem State.writeWinLo_frame (a0 : _) (a1 : _) (a2 : _) (a3 : State) : Frame 4294967300 a3 (State.writeWinLo a0 a1 a2 a3) := by
  unfold State.writeWinLo
  refine State.gateWrite_frame ?_ rfl ?_
  · intro _ _ _
    refine Frame.comp (State.stage_frame _ _ _ _) rfl ?_
    assumption
  · exact Frame.refl _

theorem State.reshaped_frame (a0 : _) (a1 : _) (a2 : _) (a3 : State) : Frame 2048 a3 (State.reshaped a0 a1 a2 a3) := by
  unfold State.reshaped
  try extract_lets
  refine Frame.set_strp rfl ?_
  exact Frame.refl _

theorem State.startReshape_frame (a0 : _) (a1 : _) (a2 : _) (a3 : State) : Frame 6605798444510 a3 (State.startReshape a0 a1 a2 a3) := by
  unfold State.startReshape
  try extract_lets
  try extract_lets
  try extract_lets
  try extract_lets
  refine Frame.comp (State.recompute_frame _ _) rfl ?_
  refine Frame.comp (State.openBand_frame _ _) rfl ?_
  refine Frame.comp (State.openBand_frame _ _) rfl ?_
  refine Frame.comp (State.record_frame _ _ _) rfl ?_
  refine Frame.comp (State.memberChanged_frame _) rfl ?_
  refine Frame.foldl (fun _ _ _ => ?_) ?_
  · refine Frame.comp (State.updPort_frame _ _ _) rfl ?_
    assumption
  · refine Frame.comp (State.reshaped_frame _ _ _ _) rfl ?_
    refine Frame.comp (State.closeStripe_frame _ _) rfl ?_
    refine Frame.comp (State.closeStripe_frame _ _) rfl ?_
    exact Frame.refl _

theorem State.refuseReshape_frame (a0 : _) (a1 : State) : Frame 67614 a1 (State.refuseReshape a0 a1) := by
  unfold State.refuseReshape
  refine Frame.comp (State.record_frame _ _ _) rfl ?_
  refine Frame.set_strp rfl ?_
  exact Frame.refl _

theorem State.writeReshape_frame (a0 : _) (a1 : _) (a2 : State) : Frame 6605798444510 a2 (State.writeReshape a0 a1 a2) := by
  unfold State.writeReshape
  try extract_lets
  try extract_lets
  refine Frame.ite (fun _ => ?_) (fun _ => ?_)
  · refine Frame.comp (State.refuseReshape_frame _ _) rfl ?_
    refine State.gateWrite_frame ?_ rfl ?_
    · intro _ _ _
      try extract_lets
      try extract_lets
      try extract_lets
      try extract_lets
      refine Frame.ite (fun _ => ?_) (fun _ => ?_)
      · refine Frame.comp (State.startReshape_frame _ _ _ _) rfl ?_
        assumption
      · refine Frame.comp (State.refuseReshape_frame _ _) rfl ?_
        assumption
    · exact Frame.refl _
  · refine State.gateWrite_frame ?_ rfl ?_
    · intro _ _ _
      try extract_lets
      try extract_lets
      try extract_lets
      try extract_lets
      refine Frame.ite (fun _ => ?_) (fun _ => ?_)
      · refine Frame.comp (State.startReshape_frame _ _ _ _) rfl ?_
        assumption
      · refine Frame.comp (State.refuseReshape_frame _ _) rfl ?_
        assumption
    · exact Frame.refl _

theorem State.writeWdog_frame (a0 : _) (a1 : _) (a2 : State) : Frame 67108870 a2 (State.writeWdog a0 a1 a2) := by
  unfold State.writeWdog
  refine State.gateWrite_frame ?_ rfl ?_
  · intro _ _ _
    refine Frame.ite (fun _ => ?_) (fun _ => ?_)
    · refine Frame.set_md rfl (fun _ => rfl) (fun i => absurd i (by decide)) ?_
      assumption
    · assumption
  · exact Frame.refl _

theorem State.writeFloor_frame (a0 : _) (a1 : _) (a2 : State) : Frame 8594194654 a2 (State.writeFloor a0 a1 a2) := by
  unfold State.writeFloor
  refine State.gateWrite_frame ?_ rfl ?_
  · intro _ _ _
    try extract_lets
    try extract_lets
    try extract_lets
    try extract_lets
    refine Frame.comp (State.recompute_frame _ _) rfl ?_
    refine Frame.ite (fun _ => ?_) (fun _ => ?_)
    · refine Frame.comp (State.setField_frame _ _ _ _ _) rfl ?_
      refine Frame.comp (State.setField_frame _ _ _ _ _) rfl ?_
      assumption
    · refine Frame.comp (State.record_frame _ _ _) rfl ?_
      refine Frame.comp (State.raise_frame _ _ _) rfl ?_
      refine Frame.comp (State.ignored_frame _) rfl ?_
      refine Frame.comp (State.setField_frame _ _ _ _ _) rfl ?_
      assumption
  · exact Frame.refl _

theorem State.plainWrite_frame (a0 : _) (a1 : _) (a2 : _) (a3 : _) (a4 : State) : Frame 4294967300 a4 (State.plainWrite a0 a1 a2 a3 a4) := by
  unfold State.plainWrite
  try extract_lets
  try extract_lets
  try extract_lets
  try extract_lets
  refine Frame.ite (fun _ => ?_) (fun _ => ?_)
  · refine Frame.comp (State.setPathReg_frame _ _ _ _) rfl ?_
    refine Frame.ite (fun _ => ?_) (fun _ => ?_)
    · exact Frame.refl _
    · refine Frame.comp (State.ignored_frame _) rfl ?_
      exact Frame.refl _
  · try extract_lets
    try extract_lets
    refine Frame.ite (fun _ => ?_) (fun _ => ?_)
    · refine Frame.ite (fun _ => ?_) (fun _ => ?_)
      · exact Frame.refl _
      · refine Frame.comp (State.ignored_frame _) rfl ?_
        exact Frame.refl _
    · refine Frame.comp (State.setReg_frame _ _ _) rfl ?_
      refine Frame.ite (fun _ => ?_) (fun _ => ?_)
      · exact Frame.refl _
      · refine Frame.comp (State.ignored_frame _) rfl ?_
        exact Frame.refl _

theorem State.writeBwctl_frame (a0 : _) (a1 : _) (a2 : _) (a3 : State) : Frame 4295557124 a3 (State.writeBwctl a0 a1 a2 a3) := by
  unfold State.writeBwctl
  refine State.gateWrite_frame ?_ rfl ?_
  · intro _ _ _
    try extract_lets
    refine Frame.comp (State.bulkLines_frame _ _) rfl ?_
    refine Frame.comp (State.plainWrite_frame _ _ _ _ _) rfl ?_
    refine Frame.ite (fun _ => ?_) (fun _ => ?_)
    · refine Frame.comp (State.deassertLine_frame _ _) rfl ?_
      refine Frame.comp (State.setBulk_frame _ _ _) rfl ?_
      assumption
    · assumption
  · exact Frame.refl _

theorem State.updWin_frame (a0 : _) (a1 : _) (a2 : State) : Frame 536936448 a2 (State.updWin a0 a1 a2) := by
  unfold State.updWin
  refine Frame.set_dma rfl (fun i => absurd i (by decide)) ?_
  exact Frame.refl _

theorem State.writeWctrl_frame (a0 : _) (a1 : _) (a2 : State) : Frame 536936452 a2 (State.writeWctrl a0 a1 a2) := by
  unfold State.writeWctrl
  refine State.gateWrite_frame ?_ rfl ?_
  · intro _ _ _
    refine Frame.comp (State.updWin_frame _ _ _) rfl ?_
    assumption
  · exact Frame.refl _

theorem State.writeWinHi_frame (a0 : _) (a1 : _) (a2 : _) (a3 : State) : Frame 536936452 a3 (State.writeWinHi a0 a1 a2 a3) := by
  unfold State.writeWinHi
  refine State.gateWrite_frame ?_ rfl ?_
  · intro _ _ _
    try extract_lets
    refine Frame.comp (State.updWin_frame _ _ _) rfl ?_
    assumption
  · exact Frame.refl _

theorem State.writeKey_frame (a0 : _) (a1 : _) (a2 : _) (a3 : State) : Frame 196638 a3 (State.writeKey a0 a1 a2 a3) := by
  unfold State.writeKey
  refine State.ownerWrite_frame ?_ rfl ?_
  · intro _ _
    refine Frame.set_ciph rfl (fun _ => rfl) ?_
    assumption
  · exact Frame.refl _

theorem State.writeDefslot_frame (a0 : _) (a1 : _) (a2 : State) : Frame 196638 a2 (State.writeDefslot a0 a1 a2) := by
  unfold State.writeDefslot
  refine State.ownerWrite_frame ?_ rfl ?_
  · intro _ _
    refine Frame.comp (State.setReg_frame _ _ _) rfl ?_
    assumption
  · exact Frame.refl _

theorem State.writeLimHi_frame (a0 : _) (a1 : _) (a2 : State) : Frame 196638 a2 (State.writeLimHi a0 a1 a2) := by
  unfold State.writeLimHi
  refine State.ownerWrite_frame ?_ rfl ?_
  · intro _ _
    refine Frame.set_ciph rfl (fun _ => rfl) ?_
    assumption
  · exact Frame.refl _

theorem State.writeKsel_frame (a0 : _) (a1 : _) (a2 : State) : Frame 4295163934 a2 (State.writeKsel a0 a1 a2) := by
  unfold State.writeKsel
  refine State.ownerWrite_frame ?_ rfl ?_
  · intro _ _
    refine Frame.comp (State.setPathReg_frame _ _ _ _) rfl ?_
    assumption
  · exact Frame.refl _

theorem State.writeLimLo_frame (a0 : _) (a1 : _) (a2 : State) : Frame 4295163934 a2 (State.writeLimLo a0 a1 a2) := by
  unfold State.writeLimLo
  refine State.ownerWrite_frame ?_ rfl ?_
  · intro _ _
    refine Frame.comp (State.stage_frame _ _ _ _) rfl ?_
    assumption
  · exact Frame.refl _

theorem State.writeCiph_frame (a0 : _) (a1 : _) (a2 : _) (a3 : State) : Frame 1888716288990 a3 (State.writeCiph a0 a1 a2 a3) := by
  unfold State.writeCiph
  refine Frame.ite (fun _ => ?_) (fun _ => ?_)
  · refine Frame.comp (State.writeLock_frame _ _ _) rfl ?_
    exact Frame.refl _
  · refine Frame.ite (fun _ => ?_) (fun _ => ?_)
    · refine Frame.comp (State.writeKsel_frame _ _ _) rfl ?_
      exact Frame.refl _
    · refine Frame.ite (fun _ => ?_) (fun _ => ?_)
      · refine Frame.comp (State.writeKcmd_frame _ _ _) rfl ?_
        exact Frame.refl _
      · refine Frame.ite (fun _ => ?_) (fun _ => ?_)
        · refine Frame.comp (State.writeDefslot_frame _ _ _) rfl ?_
          exact Frame.refl _
        · refine Frame.ite (fun _ => ?_) (fun _ => ?_)
          · refine Frame.comp (State.writeKey_frame _ _ _ _) rfl ?_
            exact Frame.refl _
          · refine Frame.ite (fun _ => ?_) (fun _ => ?_)
            · refine Frame.comp (State.writeLimLo_frame _ _ _) rfl ?_
              exact Frame.refl _
            · refine Frame.ite (fun _ => ?_) (fun _ => ?_)
              · refine Frame.comp (State.writeLimHi_frame _ _ _) rfl ?_
                exact Frame.refl _
              · refine State.gateWrite_frame ?_ rfl ?_
                · intro _ _ _
                  refine Frame.comp (State.plainWrite_frame _ _ _ _ _) rfl ?_
                  refine Frame.comp (State.touchLock_frame _ _) rfl ?_
                  assumption
                · exact Frame.refl _

theorem State.armClear_frame (a0 : _) (a1 : State) : Frame 142606344 a1 (State.armClear a0 a1) := by
  unfold State.armClear
  try extract_lets
  try extract_lets
  refine Frame.set_rcdr rfl (fun i => absurd i (by decide)) ?_
  refine Frame.comp (State.spendFree_frame _) rfl ?_
  exact Frame.refl _

theorem State.writeClrArm_frame (a0 : _) (a1 : _) (a2 : State) : Frame 142606348 a2 (State.writeClrArm a0 a1 a2) := by
  unfold State.writeClrArm
  refine State.gateWrite_frame ?_ rfl ?_
  · intro _ _ _
    refine Frame.ite (fun _ => ?_) (fun _ => ?_)
    · refine Frame.comp (State.armClear_frame _ _) rfl ?_
      assumption
    · assumption
  · exact Frame.refl _

theorem State.writeSeqPair_frame (a0 : _) (a1 : _) (a2 : _) (a3 : State) : Frame 4294967300 a3 (State.writeSeqPair a0 a1 a2 a3) := by
  unfold State.writeSeqPair
  refine State.gateWrite_frame ?_ rfl ?_
  · intro _ _ _
    refine Frame.comp (State.setPair_frame _ _ _ _ _) rfl ?_
    assumption
  · exact Frame.refl _

theorem State.writeLval_frame (a0 : _) (a1 : _) (a2 : State) : Frame 20 a2 (State.writeLval a0 a1 a2) := by
  unfold State.writeLval
  refine State.gateWrite_frame ?_ rfl ?_
  · intro _ _ _
    try extract_lets
    refine Frame.ite (fun _ => ?_) (fun _ => ?_)
    · refine Frame.comp (State.ignored_frame _) rfl ?_
      assumption
    · try extract_lets
      try extract_lets
      refine Frame.set_tally rfl (fun _ => rfl) ?_
      assumption
  · exact Frame.refl _

theorem State.fetchDesc_frame (a0 : _) (a1 : State) : Frame 675643422 a1 (State.fetchDesc a0 a1) := by
  unfold State.fetchDesc
  try extract_lets
  first | split | (dsimp +zetaDelta -proj only; split)
  · refine Frame.snd ?_ (by assumption)
    refine Frame.comp (State.dmaRead_frame _ _ _ _) rfl ?_
    exact Frame.refl _
  · try extract_lets
    try extract_lets
    refine Frame.ite (fun _ => ?_) (fun _ => ?_)
    · refine Frame.comp (State.setChan_frame _ _ _) rfl ?_
      refine Frame.snd ?_ (by assumption)
      refine Frame.comp (State.dmaRead_frame _ _ _ _) rfl ?_
      exact Frame.refl _
    · refine Frame.ite (fun _ => ?_) (fun _ => ?_)
      · first | split | (dsimp +zetaDelta -proj only; split)
        · refine Frame.snd ?_ (by assumption)
          refine Frame.comp (State.writeBack_frame _ _ _ _ _) rfl ?_
          refine Frame.snd ?_ (by assumption)
          refine Frame.comp (State.dmaRead_frame _ _ _ _) rfl ?_
          exact Frame.refl _
        · refine Frame.comp (State.record_frame _ _ _) rfl ?_
          refine Frame.comp (State.raise_frame _ _ _) rfl ?_
          refine Frame.comp (State.stopChan_frame _ _) rfl ?_
          refine Frame.comp (State.setChead_frame _ _ _) rfl ?_
          refine Frame.comp (State.clearEn_frame _ _) rfl ?_
          refine Frame.snd ?_ (by assumption)
          refine Frame.comp (State.writeBack_frame _ _ _ _ _) rfl ?_
          refine Frame.snd ?_ (by assumption)
          refine Frame.comp (State.dmaRead_frame _ _ _ _) rfl ?_
          exact Frame.refl _
      · refine Frame.comp (State.setChan_frame _ _ _) rfl ?_
        refine Frame.comp (State.setChead_frame _ _ _) rfl ?_
        refine Frame.snd ?_ (by assumption)
        refine Frame.comp (State.dmaRead_frame _ _ _ _) rfl ?_
        exact Frame.refl _

theorem State.writeKick_frame (a0 : _) (a1 : _) (a2 : State) : Frame 675643422 a2 (State.writeKick a0 a1 a2) := by
  unfold State.writeKick
  refine State.gateWrite_frame ?_ rfl ?_
  · intro _ _ _
    refine Frame.ite (fun _ => ?_) (fun _ => ?_)
    · assumption
    · refine Frame.foldl (fun _ _ _ => ?_) ?_
      · refine Frame.ite (fun _ => ?_) (fun _ => ?_)
        · try extract_lets
          refine Frame.ite (fun _ => ?_) (fun _ => ?_)
          · refine Frame.comp (State.fetchDesc_frame _ _) rfl ?_
            refine Frame.comp (State.setChan_frame _ _ _) rfl ?_
            assumption
          · assumption
        · assumption
      · assumption
  · exact Frame.refl _

theorem State.writePoolFree_frame (a0 : _) (a1 : _) (a2 : State) : Frame 98334 a2 (State.writePoolFree a0 a1 a2) := by
  unfold State.writePoolFree
  refine State.gateWrite_frame ?_ rfl ?_
  · intro _ _ _
    refine Frame.comp (State.freeBuffer_frame _ _ _) rfl ?_
    assumption
  · exact Frame.refl _

theorem State.writeBench_frame (a0 : _) (a1 : _) (a2 : State) : Frame 4362076166 a2 (State.writeBench a0 a1 a2) := by
  unfold State.writeBench
  refine State.gateWrite_frame ?_ rfl ?_
  · intro _ _ _
    try extract_lets
    try extract_lets
    try extract_lets
    refine Frame.ite (fun _ => ?_) (fun _ => ?_)
    · refine Frame.comp (State.plainWrite_frame _ _ _ _ _) rfl ?_
      assumption
    · refine Frame.ite (fun _ => ?_) (fun _ => ?_)
      · refine Frame.comp (State.ignored_frame _) rfl ?_
        refine Frame.comp (State.plainWrite_frame _ _ _ _ _) rfl ?_
        assumption
      · refine Frame.set_md rfl (fun _ => rfl) (fun i => absurd i (by decide)) ?_
        refine Frame.comp (State.plainWrite_frame _ _ _ _ _) rfl ?_
        assumption
  · exact Frame.refl _

theorem State.whileStopped_frame {m : Nat} {s a5 : State} {a0 : _} {a1 : _} {a2 : _} {a3 : _} {a4 : _} (hact4 : ∀ x0, Frame m s x0 → Frame m s (a4 x0)) (hm : (4 ||| m == m) = true) (h : Frame m s a5) :
    Frame m s (State.whileStopped a0 a1 a2 a3 a4 a5) := by
  unfold State.whileStopped
  refine State.gateWrite_frame ?_ (le_mask rfl hm) ?_
  · intro _ _ _
    refine Frame.ite (fun _ => ?_) (fun _ => ?_)
    · refine hact4 _ ?_
      assumption
    · refine Frame.comp (State.ignored_frame _) (le_mask rfl hm) ?_
      assumption
  · assumption

theorem State.writeCbaseHi_frame (a0 : _) (a1 : _) (a2 : _) (a3 : State) : Frame 4 a3 (State.writeCbaseHi a0 a1 a2 a3) := by
  unfold State.writeCbaseHi
  refine State.whileStopped_frame ?_ rfl ?_
  · intro _ _
    refine Frame.comp (State.setReg_frame _ _ _) rfl ?_
    refine Frame.comp (State.setReg_frame _ _ _) rfl ?_
    assumption
  · exact Frame.refl _

theorem State.writeCring_frame (a0 : _) (a1 : _) (a2 : _) (a3 : State) : Frame 4 a3 (State.writeCring a0 a1 a2 a3) := by
  unfold State.writeCring
  refine State.whileStopped_frame ?_ rfl ?_
  · intro _ _
    try extract_lets
    refine Frame.ite (fun _ => ?_) (fun _ => ?_)
    · refine Frame.comp (State.setReg_frame _ _ _) rfl ?_
      assumption
    · refine Frame.comp (State.ignored_frame _) rfl ?_
      assumption
  · exact Frame.refl _

theorem State.writePlain_frame (a0 : _) (a1 : _) (a2 : _) (a3 : State) : Frame 4294967300 a3 (State.writePlain a0 a1 a2 a3) := by
  unfold State.writePlain
  refine State.gateWrite_frame ?_ rfl ?_
  · intro _ _ _
    refine Frame.comp (State.plainWrite_frame _ _ _ _ _) rfl ?_
    assumption
  · exact Frame.refl _

theorem State.writeChead_frame (a0 : _) (a1 : _) (a2 : _) (a3 : State) : Frame 4 a3 (State.writeChead a0 a1 a2 a3) := by
  unfold State.writeChead
  refine State.whileStopped_frame ?_ rfl ?_
  · intro _ _
    refine Frame.comp (State.setChead_frame _ _ _) rfl ?_
    assumption
  · exact Frame.refl _

theorem State.writeCbaseLo_frame (a0 : _) (a1 : _) (a2 : _) (a3 : State) : Frame 4294967300 a3 (State.writeCbaseLo a0 a1 a2 a3) := by
  unfold State.writeCbaseLo
  refine State.whileStopped_frame ?_ rfl ?_
  · intro _ _
    refine Frame.comp (State.stage_frame _ _ _ _) rfl ?_
    assumption
  · exact Frame.refl _

theorem State.writeChannel_frame (a0 : _) (a1 : _) (a2 : _) (a3 : State) : Frame 4831903748 a3 (State.writeChannel a0 a1 a2 a3) := by
  unfold State.writeChannel
  try extract_lets
  first | split | (dsimp +zetaDelta -proj only; split)
  · refine Frame.comp (State.writeCctrl_frame _ _ _ _) rfl ?_
    exact Frame.refl _
  · refine Frame.comp (State.writeCring_frame _ _ _ _) rfl ?_
    exact Frame.refl _
  · refine Frame.comp (State.writeCbaseLo_frame _ _ _ _) rfl ?_
    exact Frame.refl _
  · refine Frame.comp (State.writeCbaseHi_frame _ _ _ _) rfl ?_
    exact Frame.refl _
  · refine Frame.comp (State.writeChead_frame _ _ _ _) rfl ?_
    exact Frame.refl _
  · refine Frame.comp (State.writePlain_frame _ _ _ _) rfl ?_
    exact Frame.refl _

theorem State.writeOwn_frame (a0 : _) (a1 : _) (a2 : _) (a3 : State) : ∀ x, State.writeOwn a0 a1 a2 a3 = some x → Frame 8521197289471 a3 x := by
  unfold State.writeOwn
  refine Frame.optIte ?_ ?_
  · refine Frame.comp (State.writeModeReq_frame _ _ _) rfl ?_
    exact Frame.refl _
  · refine Frame.optIte ?_ ?_
    · refine Frame.comp (State.writeWdog_frame _ _ _) rfl ?_
      exact Frame.refl _
    · refine Frame.optIte ?_ ?_
      · refine Frame.comp (State.writeRelay_frame _ _ _) rfl ?_
        exact Frame.refl _
      · refine Frame.optIte ?_ ?_
        · refine Frame.comp (State.writeBench_frame _ _ _) rfl ?_
          exact Frame.refl _
        · refine Frame.optIte ?_ ?_
          · refine Frame.comp (State.writeKeyfuse_frame _ _ _) rfl ?_
            exact Frame.refl _
          · refine Frame.optIte ?_ ?_
            · refine Frame.comp (State.writeKeyhash_frame _ _ _ _) rfl ?_
              exact Frame.refl _
            · refine Frame.optIte ?_ ?_
              · refine Frame.comp (State.writeModcmd_frame _ _ _) rfl ?_
                exact Frame.refl _
              · refine Frame.optIte ?_ ?_
                · refine Frame.comp (State.writeFloor_frame _ _ _) rfl ?_
                  exact Frame.refl _
                · refine Frame.optIte ?_ ?_
                  · refine Frame.comp (State.writeReshape_frame _ _ _) rfl ?_
                    exact Frame.refl _
                  · refine Frame.optIte ?_ ?_
                    · refine Frame.comp (State.writePoolReq_frame _ _ _) rfl ?_
                      exact Frame.refl _
                    · refine Frame.optIte ?_ ?_
                      · refine Frame.comp (State.writePoolFree_frame _ _ _) rfl ?_
                        exact Frame.refl _
                      · refine Frame.optIte ?_ ?_
                        · refine Frame.comp (State.writeQuota_frame _ _ _) rfl ?_
                          exact Frame.refl _
                        · refine Frame.optIte ?_ ?_
                          · refine Frame.comp (State.writeAge_frame _ _ _) rfl ?_
                            exact Frame.refl _
                          · refine Frame.optIte ?_ ?_
                            · refine Frame.comp (State.writeMoorCmd_frame _ _ _) rfl ?_
                              exact Frame.refl _
                            · refine Frame.optIte ?_ ?_
                              · refine Frame.comp (State.writeTallyAt_frame _ _ _) rfl ?_
                                exact Frame.refl _
                              · refine Frame.optIte ?_ ?_
                                · refine Frame.comp (State.writeLval_frame _ _ _) rfl ?_
                                  exact Frame.refl _
                                · refine Frame.optIte ?_ ?_
                                  · refine Frame.comp (State.writeSeqPair_frame _ _ _ _) rfl ?_
                                    exact Frame.refl _
                                  · refine Frame.optIte ?_ ?_
                                    · refine Frame.comp (State.writeSeqPair_frame _ _ _ _) rfl ?_
                                      exact Frame.refl _
                                    · refine Frame.optIte ?_ ?_
                                      · refine Frame.comp (State.writeClrArm_frame _ _ _) rfl ?_
                                        exact Frame.refl _
                                      · refine Frame.optIte ?_ ?_
                                        · refine Frame.comp (State.writeClrGo_frame _ _ _) rfl ?_
                                          exact Frame.refl _
                                        · refine Frame.optIte ?_ ?_
                                          · refine Frame.comp (State.writeHdmaGctl_frame _ _ _) rfl ?_
                                            exact Frame.refl _
                                          · refine Frame.optIte ?_ ?_
                                            · refine Frame.comp (State.writeKick_frame _ _ _) rfl ?_
                                              exact Frame.refl _
                                            · refine Frame.optIte ?_ ?_
                                              · refine Frame.comp (State.writeSwreq_frame _ _ _) rfl ?_
                                                exact Frame.refl _
                                              · refine Frame.optIte ?_ ?_
                                                · refine Frame.comp (State.writeChannel_frame _ _ _ _) rfl ?_
                                                  exact Frame.refl _
                                                · refine Frame.optIte ?_ ?_
                                                  · refine Frame.comp (State.writeWctrl_frame _ _ _) rfl ?_
                                                    exact Frame.refl _
                                                  · refine Frame.optIte ?_ ?_
                                                    · refine Frame.comp (State.writeWinLo_frame _ _ _ _) rfl ?_
                                                      exact Frame.refl _
                                                    · refine Frame.optIte ?_ ?_
                                                      · refine Frame.comp (State.writeWinHi_frame _ _ _ _) rfl ?_
                                                        exact Frame.refl _
                                                      · refine Frame.optIte ?_ ?_
                                                        · refine Frame.comp (State.writeBwctl_frame _ _ _ _) rfl ?_
                                                          exact Frame.refl _
                                                        · refine Frame.optIte ?_ ?_
                                                          · refine Frame.comp (State.writeCiph_frame _ _ _ _) rfl ?_
                                                            exact Frame.refl _
                                                          · refine Frame.optIte ?_ ?_
                                                            · refine State.gateWrite_frame ?_ rfl ?_
                                                              · intro _ _ _
                                                                refine Frame.comp (State.stage_frame _ _ _ _) rfl ?_
                                                                assumption
                                                              · exact Frame.refl _
                                                            · exact fun _ h => nomatch h

theorem State.writeReg_frame (o : Origin) (a : Nat) (v : Word) (s : State) : Frame 8521197289471 s (State.writeReg o a v s) := by
  unfold State.writeReg
  refine Frame.getD (fun x h => ?_) ?_
  · exact Frame.comp (State.writeOwn_frame _ _ _ _ x h) rfl (Frame.refl _)
  · exact Frame.comp (State.writePlain_frame _ _ _ _) rfl (Frame.refl _)

theorem State.bulkWrite_frame (a0 : _) (a1 : _) (a2 : _) (a3 : State) : Frame 622596 a3 (State.bulkWrite a0 a1 a2 a3) := by
  unfold State.bulkWrite
  try extract_lets
  refine Frame.ite (fun _ => ?_) (fun _ => ?_)
  · refine Frame.comp (State.raise_frame _ _ _) rfl ?_
    exact Frame.refl _
  · try extract_lets
    refine Frame.ite (fun _ => ?_) (fun _ => ?_)
    · refine Frame.comp (State.memWrite_frame _ _ _) rfl ?_
      exact Frame.refl _
    · refine Frame.ite (fun _ => ?_) (fun _ => ?_)
      · refine Frame.comp (State.bulkLines_frame _ _) rfl ?_
        refine Frame.comp (State.setBulk_frame _ _ _) rfl ?_
        refine Frame.comp (State.memWrite_frame _ _ _) rfl ?_
        exact Frame.refl _
      · refine Frame.comp (State.setBulk_frame _ _ _) rfl ?_
        refine Frame.comp (State.memWrite_frame _ _ _) rfl ?_
        exact Frame.refl _

theorem State.spiStore_frame (a0 : _) (a1 : _) (a2 : State) : Frame 8521197289471 a2 (State.spiStore a0 a1 a2) := by
  unfold State.spiStore
  refine Frame.ite (fun _ => ?_) (fun _ => ?_)
  · refine Frame.comp (State.writeReg_frame _ _ _ _) rfl ?_
    exact Frame.refl _
  · first | split | (dsimp +zetaDelta -proj only; split)
    · refine Frame.comp (State.bulkWrite_frame _ _ _ _) rfl ?_
      exact Frame.refl _
    · refine Frame.ite (fun _ => ?_) (fun _ => ?_)
      · refine Frame.comp (State.windowWrite_frame _ _ _) rfl ?_
        exact Frame.refl _
      · refine Frame.comp (State.unmapped_frame _) rfl ?_
        exact Frame.refl _

theorem State.spiErrAddr_frame (a0 : _) (a1 : State) : Frame 524288 a1 (State.spiErrAddr a0 a1) := by
  unfold State.spiErrAddr
  refine Frame.set_spi rfl ?_
  exact Frame.refl _

theorem State.spiWriteWords_frame (e : Nat) : ∀ (ws : List (Word × Byte)) (a : Nat) (s : State),
    Frame 8521197289471 s (State.spiWriteWords e ws a s)
  | [], _, s => Frame.refl s
  | (_, _) :: ws, _, s => by
    unfold State.spiWriteWords
    refine Frame.ite (fun _ => ?_) (fun _ => Frame.ite (fun _ => ?_) (fun _ => ?_))
    · exact Frame.comp (State.spiErr_frame _ _) rfl (Frame.refl _)
    · exact Frame.comp (State.spiErrAddr_frame _ _) rfl (Frame.comp (State.spiErr_frame _ _) rfl (Frame.refl _))
    · exact Frame.comp (State.spiWriteWords_frame e ws _ _) rfl (Frame.comp (State.spiStore_frame _ _ _) rfl (Frame.refl _))

theorem execSpiWrite_frame (a0 : _) (a1 : _) (a2 : _) (a3 : _) (a4 : _) (a5 : State) : Frame.Out 8521197289471 a5 (execSpiWrite a0 a1 a2 a3 a4 a5) := by
  unfold execSpiWrite
  try extract_lets
  try extract_lets
  refine Frame.next ?_
  refine State.spiFrame_frame ?_ rfl ?_
  · intro _ _
    try extract_lets
    try extract_lets
    refine Frame.ite (fun _ => ?_) (fun _ => ?_)
    · refine Frame.comp (State.spiWriteWords_frame _ _ _ _) rfl ?_
      assumption
    · refine Frame.ite (fun _ => ?_) (fun _ => ?_)
      · refine Frame.comp (State.spiErr_frame _ _) rfl ?_
        refine Frame.comp (State.spiWriteWords_frame _ _ _ _) rfl ?_
        assumption
      · refine Frame.comp (State.spiErrAddr_frame _ _) rfl ?_
        refine Frame.comp (State.spiErr_frame _ _) rfl ?_
        refine Frame.comp (State.spiWriteWords_frame _ _ _ _) rfl ?_
        assumption
  · refine Frame.comp (State.advanceTo_frame _ _) rfl ?_
    exact Frame.refl _

theorem State.dropAttempt_frame (a0 : _) (a1 : State) : Frame 687194902528 a1 (State.dropAttempt a0 a1) := by
  unfold State.dropAttempt
  first | split | (dsimp +zetaDelta -proj only; split)
  · try extract_lets
    refine Frame.ite (fun _ => ?_) (fun _ => ?_)
    · refine Frame.comp (State.unrefSlot_frame _ _) rfl ?_
      refine Frame.comp (State.unrefSlot_frame _ _) rfl ?_
      refine Frame.set_idm rfl (fun i => absurd i (by decide)) ?_
      exact Frame.refl _
    · refine Frame.set_idm rfl (fun i => absurd i (by decide)) ?_
      exact Frame.refl _
  · exact Frame.refl _

theorem execConnectTimeout_frame (a0 : _) (a1 : _) (a2 : State) : Frame.Out 687194902529 a2 (execConnectTimeout a0 a1 a2) := by
  unfold execConnectTimeout
  try extract_lets
  refine Frame.next ?_
  first | split | (dsimp +zetaDelta -proj only; split)
  · refine Frame.comp (State.advanceTo_frame _ _) rfl ?_
    exact Frame.refl _
  · refine Frame.ite (fun _ => ?_) (fun _ => ?_)
    · refine Frame.comp (State.dropAttempt_frame _ _) rfl ?_
      refine Frame.comp (State.advanceTo_frame _ _) rfl ?_
      exact Frame.refl _
    · refine Frame.comp (State.advanceTo_frame _ _) rfl ?_
      exact Frame.refl _

theorem execLeakSweep_frame (a0 : _) (a1 : State) : Frame.Out 98335 a1 (execLeakSweep a0 a1) := by
  unfold execLeakSweep
  try extract_lets
  refine Frame.next ?_
  refine Frame.ite (fun _ => ?_) (fun _ => ?_)
  · refine Frame.comp (State.advanceTo_frame _ _) rfl ?_
    exact Frame.refl _
  · refine Frame.foldl (fun _ _ _ => ?_) ?_
    · refine Frame.comp (State.sweepOwner_frame _ _) rfl ?_
      assumption
    · refine Frame.set_mem rfl ?_ ?_
      · exact id
      refine Frame.comp (State.advanceTo_frame _ _) rfl ?_
      exact Frame.refl _

theorem State.coreStore_frame (a0 : _) (a1 : _) (a2 : State) : Frame 138772510 a2 (State.coreStore a0 a1 a2) := by
  unfold State.coreStore
  refine Frame.ite (fun _ => ?_) (fun _ => ?_)
  · exact Frame.refl _
  · refine Frame.ite (fun _ => ?_) (fun _ => ?_)
    · exact Frame.refl _
    · refine Frame.ite (fun _ => ?_) (fun _ => ?_)
      · refine Frame.comp (State.memWrite_frame _ _ _) rfl ?_
        exact Frame.refl _
      · refine Frame.ite (fun _ => ?_) (fun _ => ?_)
        · refine Frame.comp (State.windowWrite_frame _ _ _) rfl ?_
          exact Frame.refl _
        · refine Frame.ite (fun _ => ?_) (fun _ => ?_)
          · refine Frame.comp (State.ignored_frame _) rfl ?_
            exact Frame.refl _
          · exact Frame.refl _

theorem State.busWrite_frame (a0 : _) (a1 : _) (a2 : _) (a3 : State) : Frame 8521197289471 a3 (State.busWrite a0 a1 a2 a3) := by
  unfold State.busWrite
  refine Frame.ite (fun _ => ?_) (fun _ => ?_)
  · refine Frame.comp (State.coreStore_frame _ _ _) rfl ?_
    exact Frame.refl _
  · refine Frame.comp (State.writeReg_frame _ _ _ _) rfl ?_
    exact Frame.refl _

theorem execYield_frame (a0 : _) (a1 : _) (a2 : _) (a3 : State) : Frame.Out 1923445158879 a3 (execYield a0 a1 a2 a3) := by
  unfold execYield
  refine Frame.next ?_
  refine Frame.comp (State.writeMoorCmd_frame _ _ _) rfl ?_
  refine Frame.comp (State.advanceTo_frame _ _) rfl ?_
  exact Frame.refl _

theorem State.rekeyOrphans_frame (a0 : _) (a1 : State) : Frame 603711369552 a1 (State.rekeyOrphans a0 a1) := by
  unfold State.rekeyOrphans
  try extract_lets
  try extract_lets
  refine Frame.set_tally_adm_path_idm_moor_repl rfl rfl rfl rfl rfl rfl (fun i => absurd i (by decide)) (fun i => absurd i (by decide)) (fun _ => rfl) (fun i => absurd i (by decide)) (fun i => absurd i (by decide)) (fun _ => rfl) (fun i => absurd i (by decide)) (fun _ => rfl) (fun _ => rfl) ?_
  exact Frame.refl _

theorem State.removeCtrl_frame (a0 : _) (a1 : State) : Frame 612305564126 a1 (State.removeCtrl a0 a1) := by
  unfold State.removeCtrl
  try extract_lets
  try extract_lets
  refine Frame.set_nvq rfl (fun _ => rfl) (fun _ => rfl) ?_
  refine Frame.foldl (fun _ _ _ => ?_) ?_
  · refine Frame.comp (State.dropResv_frame _ _) rfl ?_
    assumption
  · refine Frame.comp (State.rekeyOrphans_frame _ _) rfl ?_
    exact Frame.refl _

theorem State.submit_frame (a0 : _) (a1 : State) : Frame 1781711075327 a1 (State.submit a0 a1) := by
  unfold State.submit
  first | split | (dsimp +zetaDelta -proj only; split)
  · refine Frame.comp (State.complete_frame _ _ _ _ _ _ _ _) rfl ?_
    exact Frame.refl _
  · refine Frame.ite (fun _ => ?_) (fun _ => ?_)
    · refine Frame.comp (State.complete_frame _ _ _ _ _ _ _ _) rfl ?_
      refine Frame.comp (State.record_frame _ _ _) rfl ?_
      exact Frame.refl _
    · refine Frame.ite (fun _ => ?_) (fun _ => ?_)
      · refine Frame.comp (State.hold_frame _ _ _) rfl ?_
        exact Frame.refl _
      · first | split | (dsimp +zetaDelta -proj only; split)
        · refine Frame.snd ?_ (by assumption)
          refine Frame.comp (State.attempt_frame _ _) rfl ?_
          exact Frame.refl _
        · refine Frame.comp (State.hold_frame _ _ _) rfl ?_
          refine Frame.snd ?_ (by assumption)
          refine Frame.comp (State.attempt_frame _ _) rfl ?_
          exact Frame.refl _

theorem State.fetchIo_frame (a0 : _) (a1 : _) (a2 : _) (a3 : _) (a4 : _) (a5 : State) : Frame 1781711075327 a5 (State.fetchIo a0 a1 a2 a3 a4 a5) := by
  unfold State.fetchIo
  refine Frame.ite (fun _ => ?_) (fun _ => ?_)
  · exact Frame.refl _
  · try extract_lets
    first | split | (dsimp +zetaDelta -proj only; split)
    · refine Frame.comp (State.complete_frame _ _ _ _ _ _ _ _) rfl ?_
      refine Frame.comp (State.fetched_frame _ _ _ _) rfl ?_
      exact Frame.refl _
    · refine Frame.comp (State.submit_frame _ _) rfl ?_
      refine Frame.comp (State.fetched_frame _ _ _ _) rfl ?_
      exact Frame.refl _

theorem execNvmWrite_frame (a0 : _) (a1 : _) (a2 : _) (a3 : _) (a4 : State) : Frame.Out 1781711075327 a4 (execNvmWrite a0 a1 a2 a3 a4) := by
  unfold execNvmWrite
  refine Frame.next ?_
  refine Frame.comp (State.fetchIo_frame _ _ _ _ _ _) rfl ?_
  refine Frame.comp (State.advanceTo_frame _ _) rfl ?_
  exact Frame.refl _

theorem State.expireRelay_frame (a0 : _) (a1 : State) : Frame 27921559774 a1 (State.expireRelay a0 a1) := by
  unfold State.expireRelay
  first | split | (dsimp +zetaDelta -proj only; split)
  · refine Frame.ite (fun _ => ?_) (fun _ => ?_)
    · refine Frame.comp (State.complete_frame _ _ _ _ _ _ _ _) rfl ?_
      refine Frame.comp (State.record_frame _ _ _) rfl ?_
      refine Frame.set_moor rfl (fun i => absurd i (by decide)) ?_
      exact Frame.refl _
    · exact Frame.refl _
  · exact Frame.refl _

theorem State.holdExpire_frame (a0 : _) (a1 : State) : Frame 25774076126 a1 (State.holdExpire a0 a1) := by
  unfold State.holdExpire
  try extract_lets
  try extract_lets
  refine Frame.comp (State.endHeld_frame _ _ _ _) rfl ?_
  first | split | (dsimp +zetaDelta -proj only; split)
  · refine Frame.comp (State.count_frame _ _) rfl ?_
    refine Frame.comp (State.record_frame _ _ _) rfl ?_
    exact Frame.refl _
  · refine Frame.comp (State.record_frame _ _ _) rfl ?_
    exact Frame.refl _

theorem State.setHoldLimit_frame (a0 : _) (a1 : _) (a2 : State) : Frame 27921559774 a2 (State.setHoldLimit a0 a1 a2) := by
  unfold State.setHoldLimit
  first | split | (dsimp +zetaDelta -proj only; split)
  · refine Frame.comp (State.invalidField_frame _ _ _) rfl ?_
    exact Frame.refl _
  · try extract_lets
    try extract_lets
    refine Frame.comp (State.completeAdmin_frame _ _ _ _ _ _) rfl ?_
    refine Frame.foldl (fun _ _ _ => ?_) ?_
    · refine Frame.comp (State.expireRelay_frame _ _) rfl ?_
      assumption
    · refine Frame.foldl (fun _ _ _ => ?_) ?_
      · refine Frame.comp (State.holdExpire_frame _ _) rfl ?_
        assumption
      · refine Frame.comp (State.updSq_frame _ _ _) rfl ?_
        exact Frame.refl _

theorem execFilterSwap_frame (a0 : _) (a1 : _) (a2 : State) : Frame.Out 513 a2 (execFilterSwap a0 a1 a2) := by
  unfold execFilterSwap
  try extract_lets
  refine Frame.next ?_
  refine Frame.ite (fun _ => ?_) (fun _ => ?_)
  · refine Frame.comp (State.advanceTo_frame _ _) rfl ?_
    exact Frame.refl _
  · refine Frame.set_ddup rfl ?_
    refine Frame.comp (State.advanceTo_frame _ _) rfl ?_
    exact Frame.refl _

theorem State.recordKept_frame (a0 : _) (a1 : State) : Frame 65564 a1 (State.recordKept a0 a1) := by
  unfold State.recordKept
  try extract_lets
  refine Frame.ite (fun _ => ?_) (fun _ => ?_)
  · refine Frame.comp (State.loseRecord_frame _) rfl ?_
    refine Frame.ite (fun _ => ?_) (fun _ => ?_)
    · exact Frame.refl _
    · refine Frame.comp (State.raise_frame _ _ _) rfl ?_
      exact Frame.refl _
  · try extract_lets
    refine Frame.comp (State.flushLine_frame _ _) rfl ?_
    refine Frame.comp (State.count_frame _ _) rfl ?_
    refine Frame.set_rcdr rfl (fun _ => rfl) ?_
    refine Frame.ite (fun _ => ?_) (fun _ => ?_)
    · exact Frame.refl _
    · refine Frame.comp (State.raise_frame _ _ _) rfl ?_
      exact Frame.refl _

theorem State.createSq_frame (a0 : _) (a1 : _) (a2 : _) (a3 : State) : Frame 25774076126 a3 (State.createSq a0 a1 a2 a3) := by
  unfold State.createSq
  try extract_lets
  first | split | (dsimp +zetaDelta -proj only; split)
  · refine Frame.comp (State.completeAdmin_frame _ _ _ _ _ _) rfl ?_
    exact Frame.refl _
  · refine Frame.ite (fun _ => ?_) (fun _ => ?_)
    · refine Frame.comp (State.completeAdmin_frame _ _ _ _ _ _) rfl ?_
      exact Frame.refl _
    · refine Frame.ite (fun _ => ?_) (fun _ => ?_)
      · refine Frame.comp (State.completeAdmin_frame _ _ _ _ _ _) rfl ?_
        exact Frame.refl _
      · refine Frame.ite (fun _ => ?_) (fun _ => ?_)
        · refine Frame.comp (State.invalidField_frame _ _ _) rfl ?_
          exact Frame.refl _
        · refine Frame.ite (fun _ => ?_) (fun _ => ?_)
          · refine Frame.comp (State.completeAdmin_frame _ _ _ _ _ _) rfl ?_
            exact Frame.refl _
          · first | split | (dsimp +zetaDelta -proj only; split)
            · try extract_lets
              try extract_lets
              refine Frame.comp (State.completeAdmin_frame _ _ _ _ _ _) rfl ?_
              refine Frame.comp (State.record_frame _ _ _) rfl ?_
              refine Frame.set_nvq rfl (fun _ => rfl) (fun _ => rfl) ?_
              exact Frame.refl _
            · refine Frame.comp (State.completeAdmin_frame _ _ _ _ _ _) rfl ?_
              refine Frame.comp (State.record_frame _ _ _) rfl ?_
              exact Frame.refl _

theorem execSgtLineRebuilt_frame (a0 : _) (a1 : _) (a2 : State) : Frame.Out 513 a2 (execSgtLineRebuilt a0 a1 a2) := by
  unfold execSgtLineRebuilt
  try extract_lets
  refine Frame.next ?_
  refine Frame.set_ddup rfl ?_
  refine Frame.comp (State.advanceTo_frame _ _) rfl ?_
  exact Frame.refl _

theorem State.sealPacket_frame (a0 : _) (a1 : _) (a2 : State) : Frame 137439150110 a2 (State.sealPacket a0 a1 a2).2 := by
  unfold State.sealPacket
  first | split | (dsimp +zetaDelta -proj only; split)
  · exact Frame.refl _
  · try extract_lets
    first | split | (dsimp +zetaDelta -proj only; split)
    · refine Frame.snd ?_ (by assumption)
      refine Frame.comp (State.takeCounter_frame _ _) rfl ?_
      exact Frame.refl _
    · try extract_lets
      try extract_lets
      refine Frame.snd ?_ (by assumption)
      refine Frame.comp (State.takeCounter_frame _ _) rfl ?_
      exact Frame.refl _

theorem State.orphan_frame (a0 : _) (a1 : _) (a2 : State) : Frame 612305564126 a2 (State.orphan a0 a1 a2) := by
  unfold State.orphan
  try extract_lets
  try extract_lets
  try extract_lets
  try extract_lets
  refine Frame.comp (State.record_frame _ _ _) rfl ?_
  refine Frame.ite (fun _ => ?_) (fun _ => ?_)
  · refine Frame.comp (State.record_frame _ _ _) rfl ?_
    refine Frame.comp (State.raise_frame _ _ _) rfl ?_
    refine Frame.comp (State.removeCtrl_frame _ _) rfl ?_
    exact Frame.refl _
  · refine Frame.comp (State.removeCtrl_frame _ _) rfl ?_
    exact Frame.refl _

theorem State.endOwner_frame (a0 : _) (a1 : _) (a2 : State) : Frame 1779194475486 a2 (State.endOwner a0 a1 a2) := by
  unfold State.endOwner
  first | split | (dsimp +zetaDelta -proj only; split)
  · first | split | (dsimp +zetaDelta -proj only; split)
    · refine Frame.ite (fun _ => ?_) (fun _ => ?_)
      · exact Frame.refl _
      · try extract_lets
        refine Frame.comp (State.endWrite_frame _ _ _ _ _) rfl ?_
        refine Frame.ite (fun _ => ?_) (fun _ => ?_)
        · refine Frame.foldl (fun _ _ _ => ?_) ?_
          · refine Frame.comp (State.record_frame _ _ _) rfl ?_
            assumption
          · exact Frame.refl _
        · exact Frame.refl _
    · exact Frame.refl _
  · first | split | (dsimp +zetaDelta -proj only; split)
    · refine Frame.ite (fun _ => ?_) (fun _ => ?_)
      · try extract_lets
        refine Frame.ite (fun _ => ?_) (fun _ => ?_)
        · refine Frame.comp (State.finishRead_frame _ _) rfl ?_
          refine Frame.comp (State.updRcmd_frame _ _ _ _ _) rfl ?_
          exact Frame.refl _
        · refine Frame.comp (State.updRcmd_frame _ _ _ _ _) rfl ?_
          exact Frame.refl _
      · refine Frame.ite (fun _ => ?_) (fun _ => ?_)
        · refine Frame.comp (State.endRcmd_frame _ _ _ _) rfl ?_
          exact Frame.refl _
        · refine Frame.comp (State.endRcmd_frame _ _ _ _) rfl ?_
          exact Frame.refl _
    · exact Frame.refl _
  · exact Frame.refl _

theorem State.dropUnsent_frame (a0 : _) (a1 : _) (a2 : State) : Frame 549755817984 a2 (State.dropUnsent a0 a1 a2) := by
  unfold State.dropUnsent
  refine Frame.comp (State.updSession_frame _ _ _) rfl ?_
  exact Frame.refl _

theorem State.endOp_frame (a0 : _) (a1 : _) (a2 : _) (a3 : State) : Frame 1779194475486 a3 (State.endOp a0 a1 a2 a3) := by
  unfold State.endOp
  try extract_lets
  try extract_lets
  first | split | (dsimp +zetaDelta -proj only; split)
  · refine Frame.comp (State.groupDone_frame _ _ _) rfl ?_
    refine Frame.comp (State.endOwner_frame _ _ _) rfl ?_
    refine Frame.comp (State.dropUnsent_frame _ _ _) rfl ?_
    refine Frame.comp (State.updSession_frame _ _ _) rfl ?_
    exact Frame.refl _
  · refine Frame.comp (State.bump_frame _ _ _) rfl ?_
    refine Frame.comp (State.endOwner_frame _ _ _) rfl ?_
    refine Frame.comp (State.dropUnsent_frame _ _ _) rfl ?_
    refine Frame.comp (State.updSession_frame _ _ _) rfl ?_
    exact Frame.refl _

theorem State.freeUnits1_frame (a0 : _) (a1 : State) : Frame 98334 a1 (State.freeUnits1 a0 a1) := by
  unfold State.freeUnits1
  refine Frame.foldl (fun _ _ _ => ?_) ?_
  · refine Frame.comp (State.freeBuffer_frame _ _ _) rfl ?_
    assumption
  · exact Frame.refl _

theorem State.endRegion_frame (a0 : _) (a1 : State) : Frame 102430 a1 (State.endRegion a0 a1) := by
  unfold State.endRegion
  first | split | (dsimp +zetaDelta -proj only; split)
  · refine Frame.ite (fun _ => ?_) (fun _ => ?_)
    · try extract_lets
      refine Frame.set_idm rfl (fun _ => rfl) ?_
      refine Frame.comp (State.destroyRegion_frame _ _) rfl ?_
      refine Frame.comp (State.freeUnits1_frame _ _) rfl ?_
      exact Frame.refl _
    · exact Frame.refl _
  · exact Frame.refl _

theorem State.endRegions_frame (a0 : _) (a1 : State) : Frame 102430 a1 (State.endRegions a0 a1) := by
  unfold State.endRegions
  refine Frame.foldl (fun _ _ _ => ?_) ?_
  · refine Frame.comp (State.endRegion_frame _ _) rfl ?_
    assumption
  · exact Frame.refl _

theorem State.targetsLost_frame (a0 : _) (a1 : State) : Frame 34359820382 a1 (State.targetsLost a0 a1) := by
  unfold State.targetsLost
  refine Frame.foldl (fun _ _ _ => ?_) ?_
  · refine Frame.foldl (fun _ _ _ => ?_) ?_
    · try extract_lets
      try extract_lets
      try extract_lets
      try extract_lets
      refine Frame.set_adm rfl (fun _ => rfl) (fun _ => rfl) (fun i => absurd i (by decide)) ?_
      refine Frame.comp (State.updTarget_frame _ _ _ _) rfl ?_
      refine Frame.ite (fun _ => ?_) (fun _ => ?_)
      · refine Frame.comp (State.missTarget_frame _ _ _ _) rfl ?_
        assumption
      · assumption
    · assumption
  · exact Frame.refl _

theorem State.endSession_frame (a0 : _) (a1 : _) (a2 : _) (a3 : _) (a4 : State) : Frame 1919049528286 a4 (State.endSession a0 a1 a2 a3 a4) := by
  unfold State.endSession
  first | split | (dsimp +zetaDelta -proj only; split)
  · exact Frame.refl _
  · try extract_lets
    try extract_lets
    try extract_lets
    try extract_lets
    try extract_lets
    try extract_lets
    refine Frame.comp (State.chains_frame _) rfl ?_
    refine Frame.comp (State.record_frame _ _ _) rfl ?_
    refine Frame.ite (fun _ => ?_) (fun _ => ?_)
    · refine Frame.comp (State.checkWrites_frame _) rfl ?_
      refine Frame.comp (State.targetsLost_frame _ _) rfl ?_
      refine Frame.set_idm rfl (fun i => absurd i (by decide)) ?_
      refine Frame.foldl (fun _ _ _ => ?_) ?_
      · refine Frame.ite (fun _ => ?_) (fun _ => ?_)
        · refine Frame.comp (State.unrefSlot_frame _ _) rfl ?_
          assumption
        · assumption
      · refine Frame.comp (State.endRegions_frame _ _) rfl ?_
        refine Frame.foldl (fun _ _ _ => ?_) ?_
        · refine Frame.comp (State.endOp_frame _ _ _ _) rfl ?_
          assumption
        · first | split | (dsimp +zetaDelta -proj only; split)
          · refine Frame.comp (State.orphan_frame _ _ _) rfl ?_
            exact Frame.refl _
          · exact Frame.refl _
    · refine Frame.set_idm rfl (fun i => absurd i (by decide)) ?_
      refine Frame.foldl (fun _ _ _ => ?_) ?_
      · refine Frame.ite (fun _ => ?_) (fun _ => ?_)
        · refine Frame.comp (State.unrefSlot_frame _ _) rfl ?_
          assumption
        · assumption
      · refine Frame.comp (State.endRegions_frame _ _) rfl ?_
        refine Frame.foldl (fun _ _ _ => ?_) ?_
        · refine Frame.comp (State.endOp_frame _ _ _ _) rfl ?_
          assumption
        · first | split | (dsimp +zetaDelta -proj only; split)
          · refine Frame.comp (State.orphan_frame _ _ _) rfl ?_
            exact Frame.refl _
          · exact Frame.refl _

theorem State.settleClose_frame (a0 : _) (a1 : State) : Frame 1919049528286 a1 (State.settleClose a0 a1) := by
  unfold State.settleClose
  first | split | (dsimp +zetaDelta -proj only; split)
  · exact Frame.refl _
  · first | split | (dsimp +zetaDelta -proj only; split)
    · exact Frame.refl _
    · refine Frame.ite (fun _ => ?_) (fun _ => ?_)
      · exact Frame.refl _
      · try extract_lets
        try extract_lets
        try extract_lets
        refine Frame.comp (State.endSession_frame _ _ _ _ _) rfl ?_
        refine Frame.ite (fun _ => ?_) (fun _ => ?_)
        · first | split | (dsimp +zetaDelta -proj only; split)
          · refine Frame.comp (State.count_frame _ _) rfl ?_
            refine Frame.comp (State.emit_frame _ _) rfl ?_
            refine Frame.snd ?_ (by assumption)
            refine Frame.comp (State.sealPacket_frame _ _ _) rfl ?_
            exact Frame.refl _
          · refine Frame.snd ?_ (by assumption)
            refine Frame.comp (State.sealPacket_frame _ _ _) rfl ?_
            exact Frame.refl _
        · refine Frame.comp (State.count_frame _ _) rfl ?_
          refine Frame.comp (State.emit_frame _ _) rfl ?_
          exact Frame.refl _

theorem State.applyClose_frame (a0 : _) (a1 : _) (a2 : State) : Frame 1919049528286 a2 (State.applyClose a0 a1 a2).2 := by
  unfold State.applyClose
  refine Frame.comp (State.settleClose_frame _ _) rfl ?_
  refine Frame.comp (State.updSession_frame _ _ _) rfl ?_
  exact Frame.refl _

theorem execCreateIoSq_frame (a0 : _) (a1 : _) (a2 : _) (a3 : _) (a4 : State) : Frame.Out 25774076127 a4 (execCreateIoSq a0 a1 a2 a3 a4) := by
  unfold execCreateIoSq
  refine Frame.next ?_
  refine State.admin_frame ?_ rfl ?_
  · intro _ _
    refine Frame.comp (State.createSq_frame _ _ _ _) rfl ?_
    assumption
  · refine Frame.comp (State.advanceTo_frame _ _) rfl ?_
    exact Frame.refl _

theorem State.c2h_frame (a0 : _) (a1 : _) (a2 : _) (a3 : _) (a4 : _) (a5 : _) (a6 : State) : Frame 1888724677598 a6 (State.c2h a0 a1 a2 a3 a4 a5 a6) := by
  unfold State.c2h
  refine State.admin_frame ?_ rfl ?_
  · intro _ _
    refine Frame.comp (State.runC2h_frame _ _ _ _ _ _) rfl ?_
    assumption
  · exact Frame.refl _

theorem execPodQuery_frame (a0 : _) (a1 : _) (a2 : _) (a3 : State) : Frame.Out 1888724677599 a3 (execPodQuery a0 a1 a2 a3) := by
  unfold execPodQuery
  refine Frame.next ?_
  refine Frame.comp (State.c2h_frame _ _ _ _ _ _ _) rfl ?_
  refine Frame.comp (State.advanceTo_frame _ _) rfl ?_
  exact Frame.refl _

theorem State.handbackLost_frame (a0 : State) : Frame 2520850591 a0 (State.handbackLost a0) := by
  unfold State.handbackLost
  refine Frame.comp (State.updMoor_frame _ _) rfl ?_
  refine Frame.comp (State.enterMode_frame _ _ _) rfl ?_
  refine Frame.comp (State.nextEpoch_frame _) rfl ?_
  exact Frame.refl _

theorem State.applyReadResp_frame (a0 : _) (a1 : _) (a2 : State) : Frame 1779194508254 a2 (State.applyReadResp a0 a1 a2).2 := by
  unfold State.applyReadResp
  first | split | (dsimp +zetaDelta -proj only; split)
  · exact Frame.refl _
  · try extract_lets
    try extract_lets
    try extract_lets
    refine Frame.ite (fun _ => ?_) (fun _ => ?_)
    · refine Frame.comp (State.chains_frame _) rfl ?_
      refine Frame.comp (State.endOp_frame _ _ _ _) rfl ?_
      refine Frame.comp (State.updSession_frame _ _ _) rfl ?_
      first | split | (dsimp +zetaDelta -proj only; split)
      · refine Frame.comp (State.memWrite_frame _ _ _) rfl ?_
        exact Frame.refl _
      · exact Frame.refl _
    · refine Frame.comp (State.updSession_frame _ _ _) rfl ?_
      first | split | (dsimp +zetaDelta -proj only; split)
      · refine Frame.comp (State.memWrite_frame _ _ _) rfl ?_
        exact Frame.refl _
      · exact Frame.refl _

theorem State.applyStatus_frame (a0 : _) (a1 : _) (a2 : State) : Frame 1779194475486 a2 (State.applyStatus a0 a1 a2).2 := by
  unfold State.applyStatus
  try extract_lets
  try extract_lets
  first | split | (dsimp +zetaDelta -proj only; split)
  · refine Frame.comp (State.updSession_frame _ _ _) rfl ?_
    exact Frame.refl _
  · first | split | (dsimp +zetaDelta -proj only; split)
    · try extract_lets
      refine Frame.comp (State.chains_frame _) rfl ?_
      refine Frame.comp (State.endOp_frame _ _ _ _) rfl ?_
      refine Frame.comp (State.updSession_frame _ _ _) rfl ?_
      exact Frame.refl _
    · exact Frame.refl _

theorem State.sendStatus_frame (a0 : _) (a1 : _) (a2 : _) (a3 : _) (a4 : State) : Frame 549760012304 a4 (State.sendStatus a0 a1 a2 a3 a4) := by
  unfold State.sendStatus
  refine Frame.comp (State.count_frame _ _) rfl ?_
  refine Frame.comp (State.sendSeq_frame _ _ _) rfl ?_
  exact Frame.refl _

theorem State.retryLater_frame (a0 : _) (a1 : _) (a2 : State) : Frame 549760077854 a2 (State.retryLater a0 a1 a2) := by
  unfold State.retryLater
  try extract_lets
  try extract_lets
  try extract_lets
  refine Frame.comp (State.sendStatus_frame _ _ _ _ _) rfl ?_
  refine Frame.comp (State.recordOnce_frame _ _ _ _) rfl ?_
  refine Frame.comp (State.raise_frame _ _ _) rfl ?_
  refine Frame.comp (State.raise_frame _ _ _) rfl ?_
  refine Frame.comp (State.updSession_frame _ _ _) rfl ?_
  exact Frame.refl _

theorem State.stall_frame (a0 : _) (a1 : _) (a2 : _) (a3 : _) (a4 : State) : Frame 549760077854 a4 (State.stall a0 a1 a2 a3 a4) := by
  unfold State.stall
  try extract_lets
  refine Frame.ite (fun _ => ?_) (fun _ => ?_)
  · exact Frame.refl _
  · refine Frame.ite (fun _ => ?_) (fun _ => ?_)
    · refine Frame.comp (State.retryLater_frame _ _ _) rfl ?_
      exact Frame.refl _
    · refine Frame.set_idm rfl (fun i => absurd i (by decide)) ?_
      exact Frame.refl _

theorem State.refuseAccess_frame (a0 : _) (a1 : _) (a2 : _) (a3 : State) : Frame 549760077854 a3 (State.refuseAccess a0 a1 a2 a3) := by
  unfold State.refuseAccess
  try extract_lets
  try extract_lets
  refine Frame.comp (State.sendStatus_frame _ _ _ _ _) rfl ?_
  refine Frame.comp (State.recordOnce_frame _ _ _ _) rfl ?_
  refine Frame.comp (State.raise_frame _ _ _) rfl ?_
  refine Frame.set_idm rfl (fun i => absurd i (by decide)) ?_
  exact Frame.refl _

theorem State.writeUnits_frame (a0 : _) (a1 : _) (a2 : State) : Frame 32768 a2 (State.writeUnits a0 a1 a2) := by
  unfold State.writeUnits
  refine Frame.foldl (fun _ _ _ => ?_) ?_
  · try extract_lets
    try extract_lets
    first | split | (dsimp +zetaDelta -proj only; split)
    · refine Frame.comp (State.memWrite_frame _ _ _) rfl ?_
      assumption
    · assumption
  · exact Frame.refl _

theorem State.badDoorbell_frame (a0 : _) (a1 : _) (a2 : _) (a3 : State) : Frame 4259998 a3 (State.badDoorbell a0 a1 a2 a3) := by
  unfold State.badDoorbell
  refine Frame.comp (State.notice_frame _ _ _ _ _) rfl ?_
  refine Frame.comp (State.record_frame _ _ _) rfl ?_
  refine Frame.comp (State.count_frame _ _) rfl ?_
  refine Frame.comp (State.raise_frame _ _ _) rfl ?_
  exact Frame.refl _

theorem State.fetchFrom_frame (a0 : _) (a1 : _) (a2 : State) : Frame 4194304 a2 (State.fetchFrom a0 a1 a2) := by
  unfold State.fetchFrom
  first | split | (dsimp +zetaDelta -proj only; split)
  · refine Frame.ite (fun _ => ?_) (fun _ => ?_)
    · exact Frame.refl _
    · exact Frame.foldl (fun _ _ h => Frame.comp (State.emit_frame _ _) rfl h) (Frame.refl _)
  · exact Frame.refl _

theorem State.sqDoorbell_frame (a0 : _) (a1 : _) (a2 : _) (a3 : _) (a4 : State) : Frame 4259998 a4 (State.sqDoorbell a0 a1 a2 a3 a4) := by
  unfold State.sqDoorbell
  first | split | (dsimp +zetaDelta -proj only; split)
  · exact Frame.refl _
  · refine Frame.ite (fun _ => ?_) (fun _ => ?_)
    · exact Frame.refl _
    · try extract_lets
      refine Frame.ite (fun _ => ?_) (fun _ => ?_)
      · refine Frame.comp (State.badDoorbell_frame _ _ _ _) rfl ?_
        refine Frame.comp (State.updSq_frame _ _ _) rfl ?_
        exact Frame.refl _
      · refine Frame.comp (State.fetchFrom_frame _ _ _) rfl ?_
        refine Frame.comp (State.updSq_frame _ _ _) rfl ?_
        refine Frame.comp (State.updSq_frame _ _ _) rfl ?_
        exact Frame.refl _

theorem State.postHeld_frame (key : Nat) : ∀ (n : Nat) (s : State), Frame 4194432 s (State.postHeld key n s)
  | 0, s => Frame.refl s
  | n + 1, s => by
    unfold State.postHeld
    split
    · exact Frame.refl _
    · split
      · exact Frame.refl _
      · refine Frame.ite (fun _ => Frame.refl _) (fun _ => ?_)
        exact Frame.comp (State.postHeld_frame key n _) rfl
          (Frame.comp (State.writeCqe_frame _ _ _) rfl (Frame.comp (State.updCq_frame _ _ _) rfl (Frame.refl _)))

theorem State.cqDoorbell_frame (a0 : _) (a1 : _) (a2 : _) (a3 : _) (a4 : State) : Frame 4259998 a4 (State.cqDoorbell a0 a1 a2 a3 a4) := by
  unfold State.cqDoorbell
  first | split | (dsimp +zetaDelta -proj only; split)
  · exact Frame.refl _
  · refine Frame.ite (fun _ => ?_) (fun _ => ?_)
    · exact Frame.refl _
    · try extract_lets
      refine Frame.ite (fun _ => ?_) (fun _ => ?_)
      · refine Frame.comp (State.badDoorbell_frame _ _ _ _) rfl ?_
        refine Frame.comp (State.updCq_frame _ _ _) rfl ?_
        exact Frame.refl _
      · try extract_lets
        try extract_lets
        first | split | (dsimp +zetaDelta -proj only; split)
        · refine Frame.ite (fun _ => ?_) (fun _ => ?_)
          · refine Frame.comp (State.fetchFrom_frame _ _ _) rfl ?_
            refine Frame.comp (State.postHeld_frame _ _ _) rfl ?_
            refine Frame.comp (State.updCq_frame _ _ _) rfl ?_
            refine Frame.comp (State.updCq_frame _ _ _) rfl ?_
            exact Frame.refl _
          · refine Frame.comp (State.postHeld_frame _ _ _) rfl ?_
            refine Frame.comp (State.updCq_frame _ _ _) rfl ?_
            refine Frame.comp (State.updCq_frame _ _ _) rfl ?_
            exact Frame.refl _
        · refine Frame.comp (State.postHeld_frame _ _ _) rfl ?_
          refine Frame.comp (State.updCq_frame _ _ _) rfl ?_
          refine Frame.comp (State.updCq_frame _ _ _) rfl ?_
          exact Frame.refl _

theorem State.doorbell_frame (a0 : _) (a1 : _) (a2 : _) (a3 : State) : Frame 4259998 a3 (State.doorbell a0 a1 a2 a3) := by
  unfold State.doorbell
  first | split | (dsimp +zetaDelta -proj only; split)
  · exact Frame.refl _
  · try extract_lets
    try extract_lets
    refine Frame.ite (fun _ => ?_) (fun _ => ?_)
    · exact Frame.refl _
    · refine Frame.ite (fun _ => ?_) (fun _ => ?_)
      · refine Frame.comp (State.sqDoorbell_frame _ _ _ _ _) rfl ?_
        exact Frame.refl _
      · refine Frame.comp (State.cqDoorbell_frame _ _ _ _ _) rfl ?_
        exact Frame.refl _

theorem State.applyDoorbells_frame (a0 : _) (a1 : _) (a2 : State) : Frame 4259998 a2 (State.applyDoorbells a0 a1 a2) := by
  unfold State.applyDoorbells
  refine Frame.foldl (fun _ _ _ => ?_) ?_
  · refine Frame.comp (State.doorbell_frame _ _ _ _) rfl ?_
    assumption
  · exact Frame.refl _

theorem State.applyWrite_frame (a0 : _) (a1 : _) (a2 : _) (a3 : State) : Frame 549760110750 a3 (State.applyWrite a0 a1 a2 a3).2 := by
  unfold State.applyWrite
  first | split | (dsimp +zetaDelta -proj only; split)
  · first | split | (dsimp +zetaDelta -proj only; split)
    · refine Frame.comp (State.applyDoorbells_frame _ _ _) rfl ?_
      exact Frame.refl _
    · first | split | (dsimp +zetaDelta -proj only; split)
      · first | split | (dsimp +zetaDelta -proj only; split)
        · refine Frame.comp (State.stall_frame _ _ _ _ _) rfl ?_
          exact Frame.refl _
        · refine Frame.comp (State.writeUnits_frame _ _ _) rfl ?_
          exact Frame.refl _
      · refine Frame.comp (State.memWrite_frame _ _ _) rfl ?_
        exact Frame.refl _
  · refine Frame.comp (State.sendStatus_frame _ _ _ _ _) rfl ?_
    exact Frame.refl _
  · refine Frame.comp (State.refuseAccess_frame _ _ _ _) rfl ?_
    exact Frame.refl _

theorem State.applyNotify_frame (a0 : _) (a1 : _) (a2 : _) (a3 : State) : Frame 549760110622 a3 (State.applyNotify a0 a1 a2 a3).2 := by
  unfold State.applyNotify
  first | split | (dsimp +zetaDelta -proj only; split)
  · refine Frame.ite (fun _ => ?_) (fun _ => ?_)
    · exact Frame.refl _
    · refine Frame.comp (State.memWrite_frame _ _ _) rfl ?_
      exact Frame.refl _
  · refine Frame.comp (State.sendStatus_frame _ _ _ _ _) rfl ?_
    exact Frame.refl _
  · refine Frame.comp (State.refuseAccess_frame _ _ _ _) rfl ?_
    exact Frame.refl _

theorem State.applyReadReq_frame (a0 : _) (a1 : _) (a2 : _) (a3 : State) : Frame 549760077854 a3 (State.applyReadReq a0 a1 a2 a3).2 := by
  unfold State.applyReadReq
  first | split | (dsimp +zetaDelta -proj only; split)
  · refine Frame.comp (State.sendStatus_frame _ _ _ _ _) rfl ?_
    exact Frame.refl _
  · first | split | (dsimp +zetaDelta -proj only; split)
    · first | split | (dsimp +zetaDelta -proj only; split)
      · refine Frame.comp (State.sendStatus_frame _ _ _ _ _) rfl ?_
        refine Frame.comp (State.consumed_frame _ _ _) rfl ?_
        exact Frame.refl _
      · refine Frame.foldl (fun _ _ _ => ?_) ?_
        · refine Frame.comp (State.sendSeq_frame _ _ _) rfl ?_
          assumption
        · exact Frame.refl _
    · refine Frame.comp (State.sendStatus_frame _ _ _ _ _) rfl ?_
      exact Frame.refl _
    · refine Frame.comp (State.refuseAccess_frame _ _ _ _) rfl ?_
      exact Frame.refl _

theorem State.applyRekey_frame (a0 : _) (a1 : _) (a2 : State) : Frame 687194902528 a2 (State.applyRekey a0 a1 a2).2 := by
  unfold State.applyRekey
  try extract_lets
  first | split | (dsimp +zetaDelta -proj only; split)
  · first | split | (dsimp +zetaDelta -proj only; split)
    · exact Frame.refl _
    · refine Frame.comp (State.takePhase_frame _ _ _) rfl ?_
      refine Frame.comp (State.updSession_frame _ _ _) rfl ?_
      exact Frame.refl _
  · exact Frame.refl _

theorem State.apply_frame (a0 : _) (a1 : _) (a2 : State) : Frame 1919049528286 a2 (State.apply a0 a1 a2).2 := by
  unfold State.apply
  first | split | (dsimp +zetaDelta -proj only; split)
  · exact Frame.refl _
  · first | split | (dsimp +zetaDelta -proj only; split)
    · refine Frame.comp (State.applyWrite_frame _ _ _ _) rfl ?_
      exact Frame.refl _
    · refine Frame.comp (State.applyReadReq_frame _ _ _ _) rfl ?_
      exact Frame.refl _
    · refine Frame.comp (State.applyReadResp_frame _ _ _) rfl ?_
      exact Frame.refl _
    · refine Frame.comp (State.applyNotify_frame _ _ _ _) rfl ?_
      exact Frame.refl _
    · refine Frame.comp (State.applyStatus_frame _ _ _) rfl ?_
      exact Frame.refl _
    · refine Frame.comp (State.applyClose_frame _ _ _) rfl ?_
      exact Frame.refl _
    · refine Frame.comp (State.applyRekey_frame _ _ _) rfl ?_
      exact Frame.refl _
    · exact Frame.refl _

theorem State.sendAck_frame (a0 : _) (a1 : State) : Frame 549760012304 a1 (State.sendAck a0 a1) := by
  unfold State.sendAck
  first | split | (dsimp +zetaDelta -proj only; split)
  · exact Frame.refl _
  · refine Frame.comp (State.transmit_frame _ _ _) rfl ?_
    refine Frame.comp (State.updSession_frame _ _ _) rfl ?_
    exact Frame.refl _

end Sys2Proof.Laws
end

