-- ==== Sys2Proof/Laws/Frame6.lean ====
section
/-!
SUPPORT. Frames of the operations, part 6 of 8: what each may touch (see Frame.lean). Each proof follows its operation's body.
-/

namespace Sys2Proof.Laws

open Sys2Proof.Machine

theorem State.settlePhases_frame (a0 : _) (a1 : State) : Frame 687194902528 a1 (State.settlePhases a0 a1) := by
  unfold State.settlePhases
  first | split | (dsimp +zetaDelta -proj only; split)
  · exact Frame.refl _
  · try extract_lets
    try extract_lets
    refine Frame.foldl (fun _ _ _ => ?_) ?_
    · refine Frame.comp (State.unrefSlot_frame _ _) rfl ?_
      assumption
    · refine Frame.comp (State.updSession_frame _ _ _) rfl ?_
      exact Frame.refl _

theorem State.received_frame (a0 : _) (a1 : _) (a2 : State) : Frame 687199096848 a2 (State.received a0 a1 a2) := by
  unfold State.received
  first | split | (dsimp +zetaDelta -proj only; split)
  · exact Frame.refl _
  · first | split | (dsimp +zetaDelta -proj only; split)
    · try extract_lets
      try extract_lets
      try extract_lets
      try extract_lets
      try extract_lets
      try extract_lets
      refine Frame.ite (fun _ => ?_) (fun _ => ?_)
      · refine Frame.comp (State.sendAck_frame _ _) rfl ?_
        refine Frame.ite (fun _ => ?_) (fun _ => ?_)
        · refine Frame.comp (State.settlePhases_frame _ _) rfl ?_
          refine Frame.comp (State.countN_frame _ _ _) rfl ?_
          refine Frame.comp (State.updSession_frame _ _ _) rfl ?_
          exact Frame.refl _
        · refine Frame.comp (State.countN_frame _ _ _) rfl ?_
          refine Frame.comp (State.updSession_frame _ _ _) rfl ?_
          exact Frame.refl _
      · refine Frame.ite (fun _ => ?_) (fun _ => ?_)
        · refine Frame.comp (State.settlePhases_frame _ _) rfl ?_
          refine Frame.comp (State.countN_frame _ _ _) rfl ?_
          refine Frame.comp (State.updSession_frame _ _ _) rfl ?_
          exact Frame.refl _
        · refine Frame.comp (State.countN_frame _ _ _) rfl ?_
          refine Frame.comp (State.updSession_frame _ _ _) rfl ?_
          exact Frame.refl _

theorem State.sequenced_frame {m : Nat} {s a4 : State} {a0 : _} {a1 : _} {a2 : _} {a3 : _} (hact3 : ∀ x0 x1, Frame m s x1 → Frame m s (a3 x0 x1).2) (hm : (687199096848 ||| m == m) = true) (h : Frame m s a4) :
    Frame m s (State.sequenced a0 a1 a2 a3 a4) := by
  unfold State.sequenced
  refine Frame.ite (fun _ => ?_) (fun _ => ?_)
  · refine Frame.comp (State.sendAck_frame _ _) (le_mask rfl hm) ?_
    refine Frame.comp (State.count_frame _ _) (le_mask rfl hm) ?_
    assumption
  · refine Frame.ite (fun _ => ?_) (fun _ => ?_)
    · refine Frame.comp (State.count_frame _ _) (le_mask rfl hm) ?_
      assumption
    · refine Frame.ite (fun _ => ?_) (fun _ => ?_)
      · refine Frame.ite (fun _ => ?_) (fun _ => ?_)
        · assumption
        · refine Frame.comp (State.updSession_frame _ _ _) (le_mask rfl hm) ?_
          assumption
      · first | split | (dsimp +zetaDelta -proj only; split)
        · refine Frame.ite (fun _ => ?_) (fun _ => ?_)
          · refine Frame.comp (State.received_frame _ _ _) (le_mask rfl hm) ?_
            refine Frame.snd ?_ (by assumption)
            refine hact3 _ _ ?_
            assumption
          · refine Frame.snd ?_ (by assumption)
            refine hact3 _ _ ?_
            assumption

theorem State.releaseFenced_frame (n : Nat) : ∀ (k : Nat) (s : State), Frame 1919049528286 s (State.releaseFenced n k s)
  | 0, s => Frame.refl s
  | k + 1, s => by
    unfold State.releaseFenced
    split
    · exact Frame.refl _
    · split
      · exact Frame.refl _
      · refine Frame.comp (State.releaseFenced_frame n k _) rfl ?_
        refine State.sequenced_frame (fun _ _ h => ?_) rfl ?_
        · exact Frame.comp (State.apply_frame _ _ _) rfl h
        · exact Frame.comp (State.updSession_frame _ _ _) rfl (Frame.refl _)

theorem State.arriveSeq_frame (a0 : _) (a1 : State) : Frame 1919049528286 a1 (State.arriveSeq a0 a1) := by
  unfold State.arriveSeq
  refine State.arrive_frame ?_ rfl ?_
  · intro _ _ _ _
    try extract_lets
    try extract_lets
    refine Frame.comp (State.settleClose_frame _ _) rfl ?_
    refine Frame.comp (State.releaseFenced_frame _ _ _) rfl ?_
    refine State.sequenced_frame ?_ rfl ?_
    · intro _ _ _
      refine Frame.comp (State.apply_frame _ _ _) rfl ?_
      assumption
    · assumption
  · exact Frame.refl _

theorem execKeepalive_frame (a0 : _) (a1 : _) (a2 : State) : Frame.Out 1919049528287 a2 (execKeepalive a0 a1 a2) := by
  unfold execKeepalive
  refine Frame.next ?_
  refine Frame.comp (State.arriveSeq_frame _ _) rfl ?_
  refine Frame.comp (State.advanceTo_frame _ _) rfl ?_
  exact Frame.refl _

theorem State.laneFault_frame (a0 : _) (a1 : _) (a2 : _) (a3 : _) (a4 : State) : Frame 4255746703359 a4 (State.laneFault a0 a1 a2 a3 a4) := by
  unfold State.laneFault
  refine Frame.ite (fun _ => ?_) (fun _ => ?_)
  · refine Frame.comp (State.refetch_frame _ _) rfl ?_
    refine Frame.comp (State.useSlack_frame _ _ _) rfl ?_
    refine Frame.comp (State.record_frame _ _ _) rfl ?_
    refine Frame.comp (State.record_frame _ _ _) rfl ?_
    exact Frame.refl _
  · refine Frame.ite (fun _ => ?_) (fun _ => ?_)
    · refine Frame.comp (State.fault_frame _ _ _ _ _) rfl ?_
      refine Frame.comp (State.raise_frame _ _ _) rfl ?_
      exact Frame.refl _
    · exact Frame.refl _

theorem execCompressionOutcome_frame (a0 : _) (a1 : _) (a2 : _) (a3 : _) (a4 : _) (a5 : State) : Frame.Out 4255746703359 a5 (execCompressionOutcome a0 a1 a2 a3 a4 a5) := by
  unfold execCompressionOutcome
  try extract_lets
  refine Frame.next ?_
  first | split | (dsimp +zetaDelta -proj only; split)
  · refine Frame.comp (State.advanceTo_frame _ _) rfl ?_
    exact Frame.refl _
  · first | split | (dsimp +zetaDelta -proj only; split)
    · refine Frame.comp (State.advanceTo_frame _ _) rfl ?_
      exact Frame.refl _
    · refine Frame.ite (fun _ => ?_) (fun _ => ?_)
      · refine Frame.comp (State.advanceTo_frame _ _) rfl ?_
        exact Frame.refl _
      · try extract_lets
        try extract_lets
        refine Frame.comp (State.laneFault_frame _ _ _ _ _) rfl ?_
        refine Frame.comp (State.updWrite_frame _ _ _) rfl ?_
        refine Frame.comp (State.countN_frame _ _ _) rfl ?_
        refine Frame.comp (State.countN_frame _ _ _) rfl ?_
        refine Frame.comp (State.count_frame _ _) rfl ?_
        refine Frame.comp (State.useRes_frame _ _) rfl ?_
        refine Frame.comp (State.advanceTo_frame _ _) rfl ?_
        exact Frame.refl _

theorem State.applyEntries_frame : ∀ (l : List (Nat × Word × Word)) (sel : Nat) (s : State),
    Frame 32772 s (State.applyEntries l sel s)
  | [], _, s => Frame.refl s
  | _ :: es, _, s => by
    unfold State.applyEntries
    split
    · rename_i h
      exact Frame.comp (State.applyEntries_frame es _ _) rfl (Frame.comp (State.imageEntry_frame _ _ _ _ h) rfl (Frame.refl _))
    · exact State.applyEntries_frame es _ _

theorem State.resolveMembers_frame (a0 : State) : Frame 138741790 a0 (State.resolveMembers a0) := by
  unfold State.resolveMembers
  first | split | (dsimp +zetaDelta -proj only; split)
  · first | split | (dsimp +zetaDelta -proj only; split)
    · refine Frame.ite (fun _ => ?_) (fun _ => ?_)
      · refine Frame.set_strp rfl ?_
        exact Frame.refl _
      · exact Frame.refl _
  · refine Frame.ite (fun _ => ?_) (fun _ => ?_)
    · exact Frame.refl _
    · refine Frame.comp (State.memberChanged_frame _) rfl ?_
      refine Frame.set_strp rfl ?_
      exact Frame.refl _

theorem State.loadImage_frame (a0 : State) : Frame 207980574 a0 (State.loadImage a0) := by
  unfold State.loadImage
  try extract_lets
  try extract_lets
  try extract_lets
  refine Frame.comp (State.resolveMembers_frame _) rfl ?_
  refine Frame.comp (State.putFirmware_frame _ _) rfl ?_
  refine Frame.comp (State.buildPools_frame _) rfl ?_
  refine Frame.set_md rfl (fun _ => rfl) (fun i => absurd i (by decide)) ?_
  refine Frame.comp (State.applyEntries_frame _ _ _) rfl ?_
  refine Frame.comp (State.withImage_frame _ _) rfl ?_
  exact Frame.refl _

theorem State.snapList_frame (a0 : _) (a1 : _) (a2 : _) (a3 : State) : Frame 575529890014 a3 (State.snapList a0 a1 a2 a3) := by
  unfold State.snapList
  try extract_lets
  refine Frame.comp (State.completeAdmin_frame _ _ _ _ _ _) rfl ?_
  refine Frame.comp (State.adminData_frame _ _ _ _) rfl ?_
  exact Frame.refl _

theorem execReshapePause_frame (a0 : _) (a1 : _) (a2 : _) (a3 : State) : Frame.Out 4294967301 a3 (execReshapePause a0 a1 a2 a3) := by
  unfold execReshapePause
  refine Frame.next ?_
  refine State.gateWrite_frame ?_ rfl ?_
  · intro _ _ _
    refine Frame.comp (State.plainWrite_frame _ _ _ _ _) rfl ?_
    assumption
  · refine Frame.comp (State.advanceTo_frame _ _) rfl ?_
    exact Frame.refl _

theorem State.undo_frame (a0 : _) (a1 : State) : Frame 4194304 a1 (State.undo a0 a1) := by
  unfold State.undo
  first | split | (dsimp +zetaDelta -proj only; split)
  · refine Frame.comp (State.emit_frame _ _) rfl ?_
    exact Frame.refl _
  · first | split | (dsimp +zetaDelta -proj only; split)
    · refine Frame.comp (State.emit_frame _ _) rfl ?_
      exact Frame.refl _
    · exact Frame.refl _
  · exact Frame.refl _

theorem State.refuseC1h_frame (a0 : _) (a1 : _) (a2 : _) (a3 : State) : Frame 25774076126 a3 (State.refuseC1h a0 a1 a2 a3) := by
  unfold State.refuseC1h
  refine Frame.comp (State.completeAdmin_frame _ _ _ _ _ _) rfl ?_
  refine Frame.comp (State.record_frame _ _ _) rfl ?_
  exact Frame.refl _

theorem State.noMaster_frame (a0 : State) : Frame 65566 a0 (State.noMaster a0) := by
  unfold State.noMaster
  refine Frame.comp (State.record_frame _ _ _) rfl ?_
  exact Frame.refl _

theorem State.askBlock_frame (a0 : State) : Frame 8470558 a0 (State.askBlock a0) := by
  unfold State.askBlock
  refine Frame.ite (fun _ => ?_) (fun _ => ?_)
  · exact Frame.refl _
  · first | split | (dsimp +zetaDelta -proj only; split)
    · refine Frame.comp (State.noMaster_frame _) rfl ?_
      exact Frame.refl _
    · try extract_lets
      try extract_lets
      refine Frame.ite (fun _ => ?_) (fun _ => ?_)
      · refine Frame.ite (fun _ => ?_) (fun _ => ?_)
        · exact Frame.refl _
        · refine Frame.comp (State.spendFree_frame _) rfl ?_
          exact Frame.refl _
      · refine Frame.set_repl rfl ?_
        refine Frame.ite (fun _ => ?_) (fun _ => ?_)
        · exact Frame.refl _
        · refine Frame.comp (State.spendFree_frame _) rfl ?_
          exact Frame.refl _

theorem State.snapClone_frame (a0 : _) (a1 : _) (a2 : _) (a3 : State) : Frame 1338968863710 a3 (State.snapClone a0 a1 a2 a3) := by
  unfold State.snapClone
  try extract_lets
  refine Frame.ite (fun _ => ?_) (fun _ => ?_)
  · refine Frame.comp (State.refuseC1h_frame _ _ _ _) rfl ?_
    exact Frame.refl _
  · try extract_lets
    first | split | (dsimp +zetaDelta -proj only; split)
    · refine Frame.comp (State.refuseC1h_frame _ _ _ _) rfl ?_
      refine Frame.comp (State.askBlock_frame _) rfl ?_
      exact Frame.refl _
    · refine Frame.comp (State.propose_frame _ _ _ _) rfl ?_
      refine Frame.comp (State.askBlock_frame _) rfl ?_
      exact Frame.refl _

theorem State.snapCreate_frame (a0 : _) (a1 : _) (a2 : _) (a3 : State) : Frame 1338960475102 a3 (State.snapCreate a0 a1 a2 a3) := by
  unfold State.snapCreate
  try extract_lets
  first | split | (dsimp +zetaDelta -proj only; split)
  · refine Frame.comp (State.refuseC1h_frame _ _ _ _) rfl ?_
    exact Frame.refl _
  · refine Frame.ite (fun _ => ?_) (fun _ => ?_)
    · refine Frame.comp (State.refuseC1h_frame _ _ _ _) rfl ?_
      exact Frame.refl _
    · refine Frame.comp (State.propose_frame _ _ _ _) rfl ?_
      exact Frame.refl _

theorem State.snapDelete_frame (a0 : _) (a1 : _) (a2 : _) (a3 : State) : Frame 1338960475102 a3 (State.snapDelete a0 a1 a2 a3) := by
  unfold State.snapDelete
  try extract_lets
  refine Frame.ite (fun _ => ?_) (fun _ => ?_)
  · refine Frame.comp (State.refuseC1h_frame _ _ _ _) rfl ?_
    exact Frame.refl _
  · refine Frame.ite (fun _ => ?_) (fun _ => ?_)
    · refine Frame.comp (State.refuseC1h_frame _ _ _ _) rfl ?_
      exact Frame.refl _
    · refine Frame.comp (State.propose_frame _ _ _ _) rfl ?_
      exact Frame.refl _

theorem State.snapQuery_frame (a0 : _) (a1 : _) (a2 : _) (a3 : State) : Frame 1676115259614 a3 (State.snapQuery a0 a1 a2 a3) := by
  unfold State.snapQuery
  try extract_lets
  try extract_lets
  first | split | (dsimp +zetaDelta -proj only; split)
  · refine Frame.comp (State.refuseC1h_frame _ _ _ _) rfl ?_
    exact Frame.refl _
  · try extract_lets
    try extract_lets
    refine Frame.comp (State.completeAdmin_frame _ _ _ _ _ _) rfl ?_
    refine Frame.comp (State.adminData_frame _ _ _ _) rfl ?_
    refine Frame.comp (State.updNs_frame _ _ _) rfl ?_
    exact Frame.refl _

theorem State.runC1h_frame (a0 : _) (a1 : _) (a2 : State) : Frame 1888724677598 a2 (State.runC1h a0 a1 a2) := by
  unfold State.runC1h
  first | split | (dsimp +zetaDelta -proj only; split)
  · refine Frame.comp (State.completeAdmin_frame _ _ _ _ _ _) rfl ?_
    exact Frame.refl _
  · first | split | (dsimp +zetaDelta -proj only; split)
    · refine Frame.comp (State.snapCreate_frame _ _ _ _) rfl ?_
      exact Frame.refl _
    · refine Frame.comp (State.snapDelete_frame _ _ _ _) rfl ?_
      exact Frame.refl _
    · refine Frame.comp (State.snapClone_frame _ _ _ _) rfl ?_
      exact Frame.refl _
    · refine Frame.comp (State.snapQuery_frame _ _ _ _) rfl ?_
      exact Frame.refl _
    · refine Frame.comp (State.snapList_frame _ _ _ _) rfl ?_
      exact Frame.refl _
    · refine Frame.comp (State.refuseC1h_frame _ _ _ _) rfl ?_
      exact Frame.refl _

theorem execSnapshotCreate_frame (a0 : _) (a1 : _) (a2 : _) (a3 : State) : Frame.Out 1888724677599 a3 (execSnapshotCreate a0 a1 a2 a3) := by
  unfold execSnapshotCreate
  refine Frame.next ?_
  refine State.admin_frame ?_ rfl ?_
  · intro _ _
    refine Frame.comp (State.runC1h_frame _ _ _) rfl ?_
    assumption
  · refine Frame.comp (State.advanceTo_frame _ _) rfl ?_
    exact Frame.refl _

theorem State.bookRetry_frame (a0 : _) (a1 : _) (a2 : State) : Frame 64 a2 (State.bookRetry a0 a1 a2) := by
  unfold State.bookRetry
  try extract_lets
  try extract_lets
  try extract_lets
  refine Frame.foldl (fun _ _ _ => ?_) ?_
  · first | split | (dsimp +zetaDelta -proj only; split)
    · assumption
    · try extract_lets
      try extract_lets
      try extract_lets
      try extract_lets
      first | split | (dsimp +zetaDelta -proj only; split)
      · refine Frame.set_adm rfl (fun _ => rfl) (fun _ => rfl) (fun _ => rfl) ?_
        assumption
      · refine Frame.comp (State.bookWork_frame _ _ _ _ _) rfl ?_
        assumption
  · exact Frame.refl _

theorem State.askRefresh_frame (a0 : _) (a1 : _) (a2 : State) : Frame 65822 a2 (State.askRefresh a0 a1 a2) := by
  unfold State.askRefresh
  refine Frame.ite (fun _ => ?_) (fun _ => ?_)
  · exact Frame.refl _
  · first | split | (dsimp +zetaDelta -proj only; split)
    · refine Frame.ite (fun _ => ?_) (fun _ => ?_)
      · exact Frame.refl _
      · refine Frame.comp (State.record_frame _ _ _) rfl ?_
        refine Frame.comp (State.raise_frame _ _ _) rfl ?_
        refine Frame.set_path rfl (fun _ => rfl) (fun _ => rfl) (fun _ => rfl) ?_
        exact Frame.refl _
    · exact Frame.refl _

theorem State.countPassed_frame (a0 : _) (a1 : _) (a2 : _) (a3 : _) (a4 : State) : Frame 20 a4 (State.countPassed a0 a1 a2 a3 a4) := by
  unfold State.countPassed
  refine Frame.foldl (fun _ _ _ => ?_) ?_
  · try extract_lets
    try extract_lets
    refine Frame.ite (fun _ => ?_) (fun _ => ?_)
    · refine Frame.comp (State.count_frame _ _) rfl ?_
      assumption
    · refine Frame.comp (State.raise_frame _ _ _) rfl ?_
      refine Frame.comp (State.count_frame _ _) rfl ?_
      assumption
  · exact Frame.refl _

theorem State.uncorrectable_frame (a0 : _) (a1 : _) (a2 : _) (a3 : State) : Frame 66622 a3 (State.uncorrectable a0 a1 a2 a3) := by
  unfold State.uncorrectable
  first | split | (dsimp +zetaDelta -proj only; split)
  · try extract_lets
    try extract_lets
    try extract_lets
    try extract_lets
    refine Frame.ite (fun _ => ?_) (fun _ => ?_)
    · refine Frame.comp (State.markBlock_frame _ _ _) rfl ?_
      refine Frame.set_faults rfl (fun _ => rfl) ?_
      refine Frame.comp (State.raise_frame _ _ _) rfl ?_
      refine Frame.comp (State.count_frame _ _) rfl ?_
      refine Frame.comp (State.recordOnce_frame _ _ _ _) rfl ?_
      exact Frame.refl _
    · refine Frame.set_faults rfl (fun _ => rfl) ?_
      refine Frame.comp (State.raise_frame _ _ _) rfl ?_
      refine Frame.comp (State.count_frame _ _) rfl ?_
      refine Frame.comp (State.recordOnce_frame _ _ _ _) rfl ?_
      exact Frame.refl _

theorem State.decoded_frame (a0 : _) (a1 : _) (a2 : _) (a3 : State) : Frame 1231955261439 a3 (State.decoded a0 a1 a2 a3) := by
  unfold State.decoded
  first | split | (dsimp +zetaDelta -proj only; split)
  · exact Frame.refl _
  · first | split | (dsimp +zetaDelta -proj only; split)
    · try extract_lets
      try extract_lets
      try extract_lets
      try extract_lets
      try extract_lets
      try extract_lets
      refine Frame.ite (fun _ => ?_) (fun _ => ?_)
      · refine Frame.comp (State.pointV3_frame _ _ _) rfl ?_
        refine Frame.ite (fun _ => ?_) (fun _ => ?_)
        · refine Frame.comp (State.countPassed_frame _ _ _ _ _) rfl ?_
          exact Frame.refl _
        · refine Frame.comp (State.askRefresh_frame _ _ _) rfl ?_
          refine Frame.comp (State.countPassed_frame _ _ _ _ _) rfl ?_
          exact Frame.refl _
      · refine Frame.ite (fun _ => ?_) (fun _ => ?_)
        · refine Frame.comp (State.readFail_frame _ _ _) rfl ?_
          refine Frame.foldl (fun _ _ _ => ?_) ?_
          · refine Frame.comp (State.uncorrectable_frame _ _ _ _) rfl ?_
            assumption
          · refine Frame.ite (fun _ => ?_) (fun _ => ?_)
            · refine Frame.comp (State.countPassed_frame _ _ _ _ _) rfl ?_
              exact Frame.refl _
            · refine Frame.comp (State.askRefresh_frame _ _ _) rfl ?_
              refine Frame.comp (State.countPassed_frame _ _ _ _ _) rfl ?_
              exact Frame.refl _
        · refine Frame.comp (State.bookRetry_frame _ _ _) rfl ?_
          refine Frame.comp (State.updRead_frame _ _ _) rfl ?_
          refine Frame.ite (fun _ => ?_) (fun _ => ?_)
          · refine Frame.comp (State.countPassed_frame _ _ _ _ _) rfl ?_
            exact Frame.refl _
          · refine Frame.comp (State.askRefresh_frame _ _ _) rfl ?_
            refine Frame.comp (State.countPassed_frame _ _ _ _ _) rfl ?_
            exact Frame.refl _

theorem State.declareOverload_frame (a0 : State) : Frame 8661303518 a0 (State.declareOverload a0) := by
  unfold State.declareOverload
  try extract_lets
  try extract_lets
  refine Frame.comp (State.record_frame _ _ _) rfl ?_
  refine Frame.comp (State.recompute_frame _ _) rfl ?_
  refine Frame.set_md rfl (fun _ => rfl) (fun i => absurd i (by decide)) ?_
  exact Frame.refl _

theorem State.cutChain_frame (a0 : _) (a1 : _) (a2 : _) (a3 : State) : Frame 98334 a3 (State.cutChain a0 a1 a2 a3) := by
  unfold State.cutChain
  first | split | (dsimp +zetaDelta -proj only; split)
  · exact Frame.refl _
  · try extract_lets
    refine Frame.comp (State.record_frame _ _ _) rfl ?_
    refine Frame.comp (State.count_frame _ _) rfl ?_
    refine Frame.comp (State.raise_frame _ _ _) rfl ?_
    refine Frame.comp (State.updPool_frame _ _ _) rfl ?_
    first | split | (dsimp +zetaDelta -proj only; split)
    · refine Frame.comp (State.consumed_frame _ _ _) rfl ?_
      exact Frame.refl _
    · exact Frame.refl _

theorem State.refill_frame (a0 : _) (a1 : _) (a2 : State) : Frame 98334 a2 (State.refill a0 a1 a2) := by
  unfold State.refill
  first | split | (dsimp +zetaDelta -proj only; split)
  · exact Frame.refl _
  · try extract_lets
    try extract_lets
    try extract_lets
    try extract_lets
    refine Frame.ite (fun _ => ?_) (fun _ => ?_)
    · refine Frame.comp (State.count_frame _ _) rfl ?_
      refine Frame.comp (State.updPool_frame _ _ _) rfl ?_
      exact Frame.refl _
    · refine Frame.comp (State.cutChain_frame _ _ _ _) rfl ?_
      refine Frame.comp (State.count_frame _ _) rfl ?_
      refine Frame.comp (State.updPool_frame _ _ _) rfl ?_
      exact Frame.refl _

theorem execDoorbellWrite_frame (a0 : _) (a1 : _) (a2 : _) (a3 : _) (a4 : State) : Frame.Out 4259999 a4 (execDoorbellWrite a0 a1 a2 a3 a4) := by
  unfold execDoorbellWrite
  refine Frame.next ?_
  refine Frame.comp (State.doorbell_frame _ _ _ _) rfl ?_
  refine Frame.comp (State.advanceTo_frame _ _) rfl ?_
  exact Frame.refl _

theorem State.c0h_frame (a0 : _) (a1 : _) (a2 : State) : Frame 1888716288990 a2 (State.c0h a0 a1 a2) := by
  unfold State.c0h
  refine State.admin_frame ?_ rfl ?_
  · intro _ _
    refine Frame.ite (fun _ => ?_) (fun _ => ?_)
    · refine Frame.set_moor rfl (fun i => absurd i (by decide)) ?_
      assumption
    · refine Frame.comp (State.runC0h_frame _ _ _) rfl ?_
      assumption
  · exact Frame.refl _

theorem execReservationCreate_frame (a0 : _) (a1 : _) (a2 : _) (a3 : State) : Frame.Out 1888716288991 a3 (execReservationCreate a0 a1 a2 a3) := by
  unfold execReservationCreate
  refine Frame.next ?_
  refine Frame.comp (State.c0h_frame _ _ _) rfl ?_
  refine Frame.comp (State.advanceTo_frame _ _) rfl ?_
  exact Frame.refl _

theorem execPageReadDone_frame (a0 : _) (a1 : _) (a2 : _) (a3 : State) : Frame.Out 1231955261439 a3 (execPageReadDone a0 a1 a2 a3) := by
  unfold execPageReadDone
  try extract_lets
  refine Frame.next ?_
  first | split | (dsimp +zetaDelta -proj only; split)
  · refine Frame.comp (State.advanceTo_frame _ _) rfl ?_
    exact Frame.refl _
  · refine Frame.ite (fun _ => ?_) (fun _ => ?_)
    · refine Frame.comp (State.advanceTo_frame _ _) rfl ?_
      exact Frame.refl _
    · first | split | (dsimp +zetaDelta -proj only; split)
      · first | split | (dsimp +zetaDelta -proj only; split)
        · try extract_lets
          first | split | (dsimp +zetaDelta -proj only; split)
          · try extract_lets
            refine Frame.ite (fun _ => ?_) (fun _ => ?_)
            · refine Frame.comp (State.readFail_frame _ _ _) rfl ?_
              refine Frame.comp (State.updRead_frame _ _ _) rfl ?_
              refine Frame.comp (State.count_frame _ _) rfl ?_
              refine Frame.comp (State.count_frame _ _) rfl ?_
              refine Frame.comp (State.useRes_frame _ _) rfl ?_
              refine Frame.comp (State.advanceTo_frame _ _) rfl ?_
              exact Frame.refl _
            · refine Frame.comp (State.decoded_frame _ _ _ _) rfl ?_
              refine Frame.ite (fun _ => ?_) (fun _ => ?_)
              · refine Frame.comp (State.count_frame _ _) rfl ?_
                refine Frame.comp (State.count_frame _ _) rfl ?_
                refine Frame.comp (State.count_frame _ _) rfl ?_
                refine Frame.comp (State.useRes_frame _ _) rfl ?_
                refine Frame.comp (State.advanceTo_frame _ _) rfl ?_
                exact Frame.refl _
              · refine Frame.comp (State.count_frame _ _) rfl ?_
                refine Frame.comp (State.count_frame _ _) rfl ?_
                refine Frame.comp (State.useRes_frame _ _) rfl ?_
                refine Frame.comp (State.advanceTo_frame _ _) rfl ?_
                exact Frame.refl _

theorem State.resend_frame (a0 : _) (a1 : _) (a2 : State) : Frame 549760012304 a2 (State.resend a0 a1 a2) := by
  unfold State.resend
  first | split | (dsimp +zetaDelta -proj only; split)
  · exact Frame.refl _
  · try extract_lets
    refine Frame.comp (State.count_frame _ _) rfl ?_
    refine Frame.comp (State.transmit_frame _ _ _) rfl ?_
    refine Frame.comp (State.updSession_frame _ _ _) rfl ?_
    exact Frame.refl _

theorem execBackoffExpiry_frame (a0 : _) (a1 : _) (a2 : _) (a3 : State) : Frame.Out 549760012305 a3 (execBackoffExpiry a0 a1 a2 a3) := by
  unfold execBackoffExpiry
  try extract_lets
  refine Frame.next ?_
  first | split | (dsimp +zetaDelta -proj only; split)
  · refine Frame.ite (fun _ => ?_) (fun _ => ?_)
    · refine Frame.comp (State.resend_frame _ _ _) rfl ?_
      refine Frame.comp (State.updSession_frame _ _ _) rfl ?_
      refine Frame.comp (State.advanceTo_frame _ _) rfl ?_
      exact Frame.refl _
    · refine Frame.comp (State.advanceTo_frame _ _) rfl ?_
      exact Frame.refl _
  · refine Frame.comp (State.advanceTo_frame _ _) rfl ?_
    exact Frame.refl _

theorem State.readDecrypted_frame (a0 : _) (a1 : State) : Frame 256 a1 (State.readDecrypted a0 a1) := by
  unfold State.readDecrypted
  refine Frame.set_path rfl (fun _ => rfl) (fun _ => rfl) (fun _ => rfl) ?_
  exact Frame.refl _

theorem execReservationDelete_frame (a0 : _) (a1 : _) (a2 : _) (a3 : State) : Frame.Out 1888716288991 a3 (execReservationDelete a0 a1 a2 a3) := by
  unfold execReservationDelete
  refine Frame.next ?_
  refine Frame.comp (State.c0h_frame _ _ _) rfl ?_
  refine Frame.comp (State.advanceTo_frame _ _) rfl ?_
  exact Frame.refl _

theorem execLdgErase_frame (a0 : _) (a1 : _) (a2 : State) : Frame.Out 4522015 a2 (execLdgErase a0 a1 a2) := by
  unfold execLdgErase
  try extract_lets
  refine Frame.next ?_
  refine Frame.ite (fun _ => ?_) (fun _ => ?_)
  · refine Frame.comp (State.advanceTo_frame _ _) rfl ?_
    exact Frame.refl _
  · first | split | (dsimp +zetaDelta -proj only; split)
    · refine Frame.comp (State.eraseCall_frame _ _ _) rfl ?_
      refine Frame.comp (State.advanceTo_frame _ _) rfl ?_
      exact Frame.refl _
    · refine Frame.comp (State.ldgRefuse_frame _ _ _ _ _) rfl ?_
      refine Frame.comp (State.advanceTo_frame _ _) rfl ?_
      exact Frame.refl _

theorem execSnapshotClone_frame (a0 : _) (a1 : _) (a2 : _) (a3 : State) : Frame.Out 1888724677599 a3 (execSnapshotClone a0 a1 a2 a3) := by
  unfold execSnapshotClone
  refine Frame.next ?_
  refine State.admin_frame ?_ rfl ?_
  · intro _ _
    refine Frame.comp (State.runC1h_frame _ _ _) rfl ?_
    assumption
  · refine Frame.comp (State.advanceTo_frame _ _) rfl ?_
    exact Frame.refl _

theorem execDatasetManagement_frame (a0 : _) (a1 : _) (a2 : _) (a3 : _) (a4 : _) (a5 : State) : Frame.Out 1781711075327 a5 (execDatasetManagement a0 a1 a2 a3 a4 a5) := by
  unfold execDatasetManagement
  try extract_lets
  try extract_lets
  refine Frame.next ?_
  refine Frame.ite (fun _ => ?_) (fun _ => ?_)
  · refine Frame.comp (State.advanceTo_frame _ _) rfl ?_
    exact Frame.refl _
  · refine Frame.ite (fun _ => ?_) (fun _ => ?_)
    · refine Frame.comp (State.complete_frame _ _ _ _ _ _ _ _) rfl ?_
      refine Frame.comp (State.fetched_frame _ _ _ _) rfl ?_
      refine Frame.comp (State.advanceTo_frame _ _) rfl ?_
      exact Frame.refl _
    · refine Frame.comp (State.fetchIo_frame _ _ _ _ _ _) rfl ?_
      refine Frame.comp (State.advanceTo_frame _ _) rfl ?_
      exact Frame.refl _

theorem execLdgCinfoRead_frame (a0 : _) (a1 : _) (a2 : State) : Frame.Out 4294967301 a2 (execLdgCinfoRead a0 a1 a2) := by
  unfold execLdgCinfoRead
  try extract_lets
  refine Frame.next ?_
  refine State.gateRead_frame ?_ rfl ?_
  · intro _ _ _
    refine Frame.comp (State.setPathReg_frame _ _ _ _) rfl ?_
    assumption
  · refine Frame.comp (State.advanceTo_frame _ _) rfl ?_
    exact Frame.refl _

theorem execTargetAdd_frame (a0 : _) (a1 : _) (a2 : _) (a3 : _) (a4 : _) (a5 : _) (a6 : State) : Frame.Out 1888724677599 a6 (execTargetAdd a0 a1 a2 a3 a4 a5 a6) := by
  unfold execTargetAdd
  refine Frame.next ?_
  refine Frame.comp (State.c2h_frame _ _ _ _ _ _ _) rfl ?_
  refine Frame.comp (State.advanceTo_frame _ _) rfl ?_
  exact Frame.refl _

theorem State.resumeStream_frame (a0 : _) (a1 : State) : Frame 66846 a1 (State.resumeStream a0 a1) := by
  unfold State.resumeStream
  try extract_lets
  first | split | (dsimp +zetaDelta -proj only; split)
  · refine Frame.ite (fun _ => ?_) (fun _ => ?_)
    · refine Frame.comp (State.openBand_frame _ _) rfl ?_
      refine Frame.set_path rfl (fun _ => rfl) (fun _ => rfl) (fun _ => rfl) ?_
      exact Frame.refl _
    · exact Frame.refl _
  · exact Frame.refl _

theorem State.judgeTwo_frame (a0 : State) : Frame 1231955243999 a0 (State.judgeTwo a0) := by
  unfold State.judgeTwo
  first | split | (dsimp +zetaDelta -proj only; split)
  · refine Frame.ite (fun _ => ?_) (fun _ => ?_)
    · refine Frame.comp (State.updMoor_frame _ _) rfl ?_
      exact Frame.refl _
    · try extract_lets
      try extract_lets
      refine Frame.ite (fun _ => ?_) (fun _ => ?_)
      · refine Frame.comp (State.enterPreservation_frame _ _) rfl ?_
        refine Frame.comp (State.updMoor_frame _ _) rfl ?_
        exact Frame.refl _
      · refine Frame.comp (State.updMoor_frame _ _) rfl ?_
        exact Frame.refl _
  · exact Frame.refl _

theorem State.takeOver_frame (a0 : State) : Frame 5507221832128 a0 (State.takeOver a0) := by
  unfold State.takeOver
  try extract_lets
  refine Frame.set_adm_nvq_path_repl rfl rfl rfl rfl (fun i => absurd i (by decide)) (fun i => absurd i (by decide)) (fun _ => rfl) (fun _ => rfl) (fun _ => rfl) (fun i => absurd i (by decide)) (fun _ => rfl) (fun i => absurd i (by decide)) ?_
  exact Frame.refl _

theorem State.enterTakeover_frame (a0 : State) : Frame 6321491669983 a0 (State.enterTakeover a0) := by
  unfold State.enterTakeover
  try extract_lets
  try extract_lets
  try extract_lets
  try extract_lets
  try extract_lets
  try extract_lets
  try extract_lets
  try extract_lets
  refine Frame.comp (State.runRelayHeld_frame _) rfl ?_
  refine Frame.comp (State.startAnnounce_frame _ _) rfl ?_
  refine Frame.comp (State.cuts_frame _) rfl ?_
  refine Frame.comp (State.recompute_frame _ _) rfl ?_
  refine Frame.set_md rfl (fun i => absurd i (by decide)) (fun i => absurd i (by decide)) ?_
  refine Frame.comp (State.checkWrites_frame _) rfl ?_
  refine Frame.comp (State.takeOver_frame _) rfl ?_
  refine Frame.foldl (fun _ _ _ => ?_) ?_
  · refine Frame.comp (State.endWrite_frame _ _ _ _ _) rfl ?_
    assumption
  · refine Frame.comp (State.updMoor_frame _ _) rfl ?_
    refine Frame.comp (State.raise_frame _ _ _) rfl ?_
    refine Frame.comp (State.record_frame _ _ _) rfl ?_
    refine Frame.comp (State.enterMode_frame _ _ _) rfl ?_
    refine Frame.comp (State.nextEpoch_frame _) rfl ?_
    refine Frame.comp (State.relayOff_frame _ _) rfl ?_
    exact Frame.refl _

theorem State.decide__frame (a0 : State) : Frame 6321491669983 a0 (State.decide_ a0) := by
  unfold State.decide_
  refine Frame.ite (fun _ => ?_) (fun _ => ?_)
  · refine Frame.comp (State.selfFence_frame _ _) rfl ?_
    exact Frame.refl _
  · refine Frame.ite (fun _ => ?_) (fun _ => ?_)
    · refine Frame.comp (State.enterTakeover_frame _) rfl ?_
      exact Frame.refl _
    · refine Frame.ite (fun _ => ?_) (fun _ => ?_)
      · refine Frame.comp (State.handbackLost_frame _) rfl ?_
        exact Frame.refl _
      · exact Frame.refl _

theorem execVoterEvaluation_frame (a0 : _) (a1 : _) (a2 : _) (a3 : State) : Frame.Out 8795527315455 a3 (execVoterEvaluation a0 a1 a2 a3) := by
  unfold execVoterEvaluation
  try extract_lets
  refine Frame.next ?_
  refine Frame.ite (fun _ => ?_) (fun _ => ?_)
  · refine Frame.comp (State.advanceTo_frame _ _) rfl ?_
    exact Frame.refl _
  · try extract_lets
    try extract_lets
    try extract_lets
    refine Frame.comp (State.decide__frame _) rfl ?_
    refine Frame.ite (fun _ => ?_) (fun _ => ?_)
    · refine Frame.comp (State.judgeThree_frame _) rfl ?_
      refine Frame.comp (State.updMoor_frame _ _) rfl ?_
      refine Frame.comp (State.advanceTo_frame _ _) rfl ?_
      exact Frame.refl _
    · refine Frame.comp (State.judgeTwo_frame _) rfl ?_
      refine Frame.comp (State.updMoor_frame _ _) rfl ?_
      refine Frame.comp (State.advanceTo_frame _ _) rfl ?_
      exact Frame.refl _

theorem State.timeoutSession_frame (a0 : _) (a1 : _) (a2 : State) : Frame 1919049528286 a2 (State.timeoutSession a0 a1 a2) := by
  unfold State.timeoutSession
  refine Frame.comp (State.endSession_frame _ _ _ _ _) rfl ?_
  refine Frame.comp (State.raise_frame _ _ _) rfl ?_
  exact Frame.refl _

theorem execStatusPacket_frame (a0 : _) (a1 : _) (a2 : State) : Frame.Out 1919049528287 a2 (execStatusPacket a0 a1 a2) := by
  unfold execStatusPacket
  try extract_lets
  try extract_lets
  refine Frame.next ?_
  refine Frame.ite (fun _ => ?_) (fun _ => ?_)
  · refine State.arrive_frame ?_ rfl ?_
    · intro _ _ _ _
      refine Frame.comp (State.timeoutSession_frame _ _ _) rfl ?_
      assumption
    · refine Frame.comp (State.advanceTo_frame _ _) rfl ?_
      exact Frame.refl _
  · refine Frame.comp (State.arriveSeq_frame _ _) rfl ?_
    refine Frame.comp (State.advanceTo_frame _ _) rfl ?_
    exact Frame.refl _

theorem execInvalidOpcode_frame (a0 : _) (a1 : _) (a2 : _) (a3 : _) (a4 : State) : Frame.Out 25774076127 a4 (execInvalidOpcode a0 a1 a2 a3 a4) := by
  unfold execInvalidOpcode
  try extract_lets
  refine Frame.next ?_
  refine Frame.ite (fun _ => ?_) (fun _ => ?_)
  · refine Frame.comp (State.advanceTo_frame _ _) rfl ?_
    exact Frame.refl _
  · refine Frame.ite (fun _ => ?_) (fun _ => ?_)
    · refine Frame.comp (State.complete_frame _ _ _ _ _ _ _ _) rfl ?_
      refine Frame.comp (State.fetched_frame _ _ _ _) rfl ?_
      refine Frame.comp (State.advanceTo_frame _ _) rfl ?_
      exact Frame.refl _
    · refine Frame.comp (State.complete_frame _ _ _ _ _ _ _ _) rfl ?_
      refine Frame.comp (State.fetched_frame _ _ _ _) rfl ?_
      refine Frame.comp (State.advanceTo_frame _ _) rfl ?_
      exact Frame.refl _

theorem State.laneFailed_frame (a0 : _) (a1 : _) (a2 : _) (a3 : State) : Frame 65566 a3 (State.laneFailed a0 a1 a2 a3) := by
  unfold State.laneFailed
  refine Frame.ite (fun _ => ?_) (fun _ => ?_)
  · refine Frame.comp (State.record_frame _ _ _) rfl ?_
    exact Frame.refl _
  · refine Frame.comp (State.count_frame _ _) rfl ?_
    refine Frame.comp (State.raise_frame _ _ _) rfl ?_
    refine Frame.comp (State.record_frame _ _ _) rfl ?_
    exact Frame.refl _

theorem State.getFeature_frame (a0 : _) (a1 : _) (a2 : State) : Frame 25774076126 a2 (State.getFeature a0 a1 a2) := by
  unfold State.getFeature
  try extract_lets
  first | split | (dsimp +zetaDelta -proj only; split)
  · refine Frame.comp (State.completeAdmin_frame _ _ _ _ _ _) rfl ?_
    exact Frame.refl _
  · first | split | (dsimp +zetaDelta -proj only; split)
    · refine Frame.comp (State.complete_frame _ _ _ _ _ _ _ _) rfl ?_
      exact Frame.refl _
    · refine Frame.comp (State.complete_frame _ _ _ _ _ _ _ _) rfl ?_
      exact Frame.refl _
    · try extract_lets
      refine Frame.comp (State.completeAdmin_frame _ _ _ _ _ _) rfl ?_
      exact Frame.refl _
    · refine Frame.comp (State.completeAdmin_frame _ _ _ _ _ _) rfl ?_
      exact Frame.refl _
    · refine Frame.comp (State.invalidField_frame _ _ _) rfl ?_
      exact Frame.refl _

theorem execGetFeatures_frame (a0 : _) (a1 : _) (a2 : _) (a3 : State) : Frame.Out 25774076127 a3 (execGetFeatures a0 a1 a2 a3) := by
  unfold execGetFeatures
  refine Frame.next ?_
  refine State.admin_frame ?_ rfl ?_
  · intro _ _
    refine Frame.comp (State.getFeature_frame _ _ _) rfl ?_
    assumption
  · refine Frame.comp (State.advanceTo_frame _ _) rfl ?_
    exact Frame.refl _

theorem State.rebuildOverlay_frame (a0 : State) : Frame 256 a0 (State.rebuildOverlay a0) := by
  unfold State.rebuildOverlay
  try extract_lets
  try extract_lets
  refine Frame.foldl (fun _ _ _ => ?_) ?_
  · refine Frame.comp (State.promote_frame _ _ _) rfl ?_
    assumption
  · refine Frame.set_path rfl (fun _ => rfl) (fun _ => rfl) (fun _ => rfl) ?_
    exact Frame.refl _

theorem State.replayOne_frame (a0 : _) (a1 : State) : Frame 1169309041536 a1 (State.replayOne a0 a1).2 := by
  unfold State.replayOne
  first | split | (dsimp +zetaDelta -proj only; split)
  · try extract_lets
    try extract_lets
    refine Frame.comp (State.publishStored_frame _ _ _) rfl ?_
    exact Frame.refl _
  · exact Frame.refl _

theorem State.meetWgen_frame (a0 : _) (a1 : State) : Frame 256 a1 (State.meetWgen a0 a1) := by
  unfold State.meetWgen
  try extract_lets
  try extract_lets
  try extract_lets
  refine Frame.ite (fun _ => ?_) (fun _ => ?_)
  · refine Frame.set_path rfl (fun _ => rfl) (fun _ => rfl) (fun _ => rfl) ?_
    exact Frame.refl _
  · exact Frame.refl _

theorem State.replayStream_frame (a0 : _) (a1 : _) (a2 : State) : Frame 7766378873758 a2 (State.replayStream a0 a1 a2).2.2 := by
  unfold State.replayStream
  first | split | (dsimp +zetaDelta -proj only; split)
  · try extract_lets
    try extract_lets
    try extract_lets
    try extract_lets
    refine Frame.set_path rfl (fun i => absurd i (by decide)) (fun i => absurd i (by decide)) (fun i => absurd i (by decide)) ?_
    refine Frame.foldl (fun _ _ _ => ?_) ?_
    · refine Frame.comp (State.record_frame _ _ _) rfl ?_
      assumption
    · refine Frame.snd ?_ (by assumption)
      refine Frame.foldlSnd (fun _ _ _ => ?_) ?_
      · first | split | (dsimp +zetaDelta -proj only; split)
        · refine Frame.snd ?_ (by assumption)
          refine Frame.comp (State.replayOne_frame _ _) rfl ?_
          refine Frame.comp (State.meetWgen_frame _ _) rfl ?_
          assumption
      · exact Frame.refl _

theorem State.recountRefs_frame (a0 : State) : Frame 512 a0 (State.recountRefs a0) := by
  unfold State.recountRefs
  refine Frame.set_ddup rfl ?_
  exact Frame.refl _

theorem State.replay_frame (a0 : _) (a1 : State) : Frame 7766378874782 a1 (State.replay a0 a1) := by
  unfold State.replay
  first | split | (dsimp +zetaDelta -proj only; split)
  · first | split | (dsimp +zetaDelta -proj only; split)
    · try extract_lets
      try extract_lets
      refine Frame.foldl (fun _ _ _ => ?_) ?_
      · refine Frame.comp (State.snapsReady_frame _ _) rfl ?_
        assumption
      · refine Frame.comp (State.resumeStream_frame _ _) rfl ?_
        refine Frame.comp (State.resumeStream_frame _ _) rfl ?_
        refine Frame.comp (State.rebuildFilter_frame _) rfl ?_
        refine Frame.comp (State.rebuildOverlay_frame _) rfl ?_
        refine Frame.comp (State.recountRefs_frame _) rfl ?_
        refine Frame.comp (State.record_frame _ _ _) rfl ?_
        refine Frame.trd ?_ (by assumption)
        refine Frame.comp (State.replayStream_frame _ _ _) rfl ?_
        refine Frame.trd ?_ (by assumption)
        refine Frame.comp (State.replayStream_frame _ _ _) rfl ?_
        exact Frame.refl _

theorem State.patrolRepair_frame (a0 : _) (a1 : State) : Frame 1231955261439 a1 (State.patrolRepair a0 a1) := by
  unfold State.patrolRepair
  first | split | (dsimp +zetaDelta -proj only; split)
  · refine Frame.ite (fun _ => ?_) (fun _ => ?_)
    · try extract_lets
      first | split | (dsimp +zetaDelta -proj only; split)
      · try extract_lets
        refine Frame.comp (State.readFail_frame _ _ _) rfl ?_
        refine Frame.comp (State.startRead_frame _ _ _ _ _ _ _ _ _) rfl ?_
        refine Frame.ite (fun _ => ?_) (fun _ => ?_)
        · refine Frame.foldl (fun _ _ _ => ?_) ?_
          · refine Frame.comp (State.uncorrectable_frame _ _ _ _) rfl ?_
            assumption
          · exact Frame.refl _
        · exact Frame.refl _
    · exact Frame.refl _
  · exact Frame.refl _

theorem execMirrorReadback_frame (a0 : _) (a1 : _) (a2 : _) (a3 : _) (a4 : State) : Frame.Out 1231955261439 a4 (execMirrorReadback a0 a1 a2 a3 a4) := by
  unfold execMirrorReadback
  try extract_lets
  try extract_lets
  try extract_lets
  refine Frame.next ?_
  refine Frame.ite (fun _ => ?_) (fun _ => ?_)
  · refine Frame.comp (State.advanceTo_frame _ _) rfl ?_
    exact Frame.refl _
  · try extract_lets
    refine Frame.ite (fun _ => ?_) (fun _ => ?_)
    · refine Frame.comp (State.updMoor_frame _ _) rfl ?_
      refine Frame.comp (State.advanceTo_frame _ _) rfl ?_
      exact Frame.refl _
    · try extract_lets
      try extract_lets
      refine Frame.foldl (fun _ _ _ => ?_) ?_
      · refine Frame.comp (State.patrolRepair_frame _ _) rfl ?_
        assumption
      · refine Frame.comp (State.record_frame _ _ _) rfl ?_
        refine Frame.comp (State.checkFailed_frame _) rfl ?_
        refine Frame.comp (State.updMoor_frame _ _) rfl ?_
        refine Frame.comp (State.updMoor_frame _ _) rfl ?_
        refine Frame.comp (State.advanceTo_frame _ _) rfl ?_
        exact Frame.refl _

theorem execPpsInEdge_frame (a0 : _) (a1 : State) : Frame.Out 1 a1 (execPpsInEdge a0 a1) := by
  unfold execPpsInEdge
  try extract_lets
  refine Frame.next ?_
  refine Frame.ite (fun _ => ?_) (fun _ => ?_)
  · refine Frame.comp (State.advanceTo_frame _ _) rfl ?_
    exact Frame.refl _
  · refine Frame.set_time rfl ?_ ?_
    · first | exact Nat.le_refl _ | exact Nat.le_add_right _ _ | (dsimp only; split <;> exact Nat.le_refl _)
    refine Frame.comp (State.advanceTo_frame _ _) rfl ?_
    exact Frame.refl _

theorem execDmaResume_frame (a0 : _) (a1 : _) (a2 : _) (a3 : State) : Frame.Out 805371935 a3 (execDmaResume a0 a1 a2 a3) := by
  unfold execDmaResume
  refine Frame.next ?_
  refine Frame.comp (State.writeHdmaGctl_frame _ _ _) rfl ?_
  refine Frame.comp (State.advanceTo_frame _ _) rfl ?_
  exact Frame.refl _

theorem execMalformedPacket_frame (a0 : _) (a1 : _) (a2 : _) (a3 : _) (a4 : State) : Frame.Out 65567 a4 (execMalformedPacket a0 a1 a2 a3 a4) := by
  unfold execMalformedPacket
  try extract_lets
  refine Frame.next ?_
  refine Frame.ite (fun _ => ?_) (fun _ => ?_)
  · refine Frame.comp (State.advanceTo_frame _ _) rfl ?_
    exact Frame.refl _
  · refine Frame.ite (fun _ => ?_) (fun _ => ?_)
    · refine Frame.comp (State.badPacket_frame _ _ _) rfl ?_
      refine Frame.comp (State.advanceTo_frame _ _) rfl ?_
      exact Frame.refl _
    · refine Frame.comp (State.advanceTo_frame _ _) rfl ?_
      exact Frame.refl _

theorem execRtoExpiry_frame (a0 : _) (a1 : _) (a2 : _) (a3 : State) : Frame.Out 549760012305 a3 (execRtoExpiry a0 a1 a2 a3) := by
  unfold execRtoExpiry
  try extract_lets
  refine Frame.next ?_
  first | split | (dsimp +zetaDelta -proj only; split)
  · refine Frame.ite (fun _ => ?_) (fun _ => ?_)
    · refine Frame.comp (State.resend_frame _ _ _) rfl ?_
      refine Frame.comp (State.advanceTo_frame _ _) rfl ?_
      exact Frame.refl _
    · refine Frame.comp (State.advanceTo_frame _ _) rfl ?_
      exact Frame.refl _
  · refine Frame.comp (State.advanceTo_frame _ _) rfl ?_
    exact Frame.refl _

theorem State.restartPort_frame (a0 : _) (a1 : State) : Frame 32 a1 (State.restartPort a0 a1) := by
  unfold State.restartPort
  try extract_lets
  try extract_lets
  refine Frame.set_faults rfl (fun _ => rfl) ?_
  exact Frame.refl _

theorem State.resendLane_frame (a0 : _) (a1 : State) : Frame 549760012304 a1 (State.resendLane a0 a1) := by
  unfold State.resendLane
  refine Frame.foldl (fun _ _ _ => ?_) ?_
  · refine Frame.foldl (fun _ _ _ => ?_) ?_
    · refine Frame.comp (State.resend_frame _ _ _) rfl ?_
      assumption
    · assumption
  · exact Frame.refl _

theorem State.laneFault__frame (a0 : _) (a1 : _) (a2 : State) : Frame 4255746703359 a2 (State.laneFault_ a0 a1 a2) := by
  unfold State.laneFault_
  try extract_lets
  refine Frame.ite (fun _ => ?_) (fun _ => ?_)
  · refine Frame.set_faults rfl (fun i => absurd i (by decide)) ?_
    exact Frame.refl _
  · refine Frame.ite (fun _ => ?_) (fun _ => ?_)
    · try extract_lets
      refine Frame.ite (fun _ => ?_) (fun _ => ?_)
      · refine Frame.comp (State.restartPort_frame _ _) rfl ?_
        refine Frame.comp (State.retire_frame _ _) rfl ?_
        refine Frame.set_faults rfl (fun i => absurd i (by decide)) ?_
        exact Frame.refl _
      · refine Frame.comp (State.resendLane_frame _ _) rfl ?_
        refine Frame.comp (State.retire_frame _ _) rfl ?_
        refine Frame.set_faults rfl (fun i => absurd i (by decide)) ?_
        exact Frame.refl _
    · refine Frame.set_faults rfl (fun i => absurd i (by decide)) ?_
      exact Frame.refl _

theorem State.denseFor_frame (a0 : _) (a1 : _) (a2 : State) : Frame 1280 a2 (State.denseFor a0 a1 a2).2 := by
  unfold State.denseFor
  try extract_lets
  first | split | (dsimp +zetaDelta -proj only; split)
  · try extract_lets
    exact Frame.refl _
  · try extract_lets
    try extract_lets
    first | split | (dsimp +zetaDelta -proj only; split)
    · exact Frame.refl _
    · try extract_lets
      try extract_lets
      refine Frame.comp (State.fillBand_frame _ _) rfl ?_
      refine Frame.set_path rfl (fun _ => rfl) (fun _ => rfl) (fun _ => rfl) ?_
      exact Frame.refl _

theorem execKeyRevoke_frame (a0 : _) (a1 : _) (a2 : _) (a3 : State) : Frame.Out 67174431 a3 (execKeyRevoke a0 a1 a2 a3) := by
  unfold execKeyRevoke
  refine Frame.next ?_
  refine Frame.comp (State.writeKeyfuse_frame _ _ _) rfl ?_
  refine Frame.comp (State.advanceTo_frame _ _) rfl ?_
  exact Frame.refl _

theorem State.setQueues_frame (a0 : _) (a1 : _) (a2 : State) : Frame 25774076126 a2 (State.setQueues a0 a1 a2) := by
  unfold State.setQueues
  try extract_lets
  try extract_lets
  refine Frame.ite (fun _ => ?_) (fun _ => ?_)
  · refine Frame.comp (State.invalidField_frame _ _ _) rfl ?_
    exact Frame.refl _
  · try extract_lets
    try extract_lets
    refine Frame.comp (State.completeAdmin_frame _ _ _ _ _ _) rfl ?_
    refine Frame.comp (State.updCtrl_frame _ _ _) rfl ?_
    exact Frame.refl _

theorem State.setCompression_frame (a0 : _) (a1 : _) (a2 : State) : Frame 1128506929374 a2 (State.setCompression a0 a1 a2) := by
  unfold State.setCompression
  try extract_lets
  try extract_lets
  try extract_lets
  first | split | (dsimp +zetaDelta -proj only; split)
  · refine Frame.comp (State.completeAdmin_frame _ _ _ _ _ _) rfl ?_
    exact Frame.refl _
  · refine Frame.ite (fun _ => ?_) (fun _ => ?_)
    · refine Frame.comp (State.invalidField_frame _ _ _) rfl ?_
      exact Frame.refl _
    · try extract_lets
      try extract_lets
      refine Frame.comp (State.completeAdmin_frame _ _ _ _ _ _) rfl ?_
      refine Frame.comp (State.tellPartner_frame _ _) rfl ?_
      refine Frame.comp (State.record_frame _ _ _) rfl ?_
      refine Frame.comp (State.updNs_frame _ _ _) rfl ?_
      exact Frame.refl _

theorem State.setDedup_frame (a0 : _) (a1 : _) (a2 : State) : Frame 1338960475102 a2 (State.setDedup a0 a1 a2) := by
  unfold State.setDedup
  try extract_lets
  first | split | (dsimp +zetaDelta -proj only; split)
  · refine Frame.comp (State.completeAdmin_frame _ _ _ _ _ _) rfl ?_
    exact Frame.refl _
  · refine Frame.ite (fun _ => ?_) (fun _ => ?_)
    · refine Frame.comp (State.invalidField_frame _ _ _) rfl ?_
      exact Frame.refl _
    · refine Frame.ite (fun _ => ?_) (fun _ => ?_)
      · refine Frame.comp (State.completeAdmin_frame _ _ _ _ _ _) rfl ?_
        exact Frame.refl _
      · refine Frame.comp (State.propose_frame _ _ _ _) rfl ?_
        exact Frame.refl _

theorem State.setTemp_frame (a0 : _) (a1 : _) (a2 : State) : Frame 26847817950 a2 (State.setTemp a0 a1 a2) := by
  unfold State.setTemp
  try extract_lets
  refine Frame.ite (fun _ => ?_) (fun _ => ?_)
  · refine Frame.comp (State.invalidField_frame _ _ _) rfl ?_
    exact Frame.refl _
  · first | split | (dsimp +zetaDelta -proj only; split)
    · refine Frame.comp (State.completeAdmin_frame _ _ _ _ _ _) rfl ?_
      refine Frame.set_nvq rfl (fun i => absurd i (by decide)) (fun _ => rfl) ?_
      exact Frame.refl _
    · refine Frame.comp (State.completeAdmin_frame _ _ _ _ _ _) rfl ?_
      refine Frame.set_nvq rfl (fun i => absurd i (by decide)) (fun _ => rfl) ?_
      exact Frame.refl _
    · refine Frame.comp (State.invalidField_frame _ _ _) rfl ?_
      exact Frame.refl _

theorem State.setFeature_frame (a0 : _) (a1 : _) (a2 : State) : Frame 1338960475102 a2 (State.setFeature a0 a1 a2) := by
  unfold State.setFeature
  first | split | (dsimp +zetaDelta -proj only; split)
  · refine Frame.comp (State.completeAdmin_frame _ _ _ _ _ _) rfl ?_
    refine Frame.comp (State.updCtrl_frame _ _ _) rfl ?_
    exact Frame.refl _
  · refine Frame.comp (State.setTemp_frame _ _ _) rfl ?_
    exact Frame.refl _
  · refine Frame.comp (State.setQueues_frame _ _ _) rfl ?_
    exact Frame.refl _
  · refine Frame.comp (State.completeAdmin_frame _ _ _ _ _ _) rfl ?_
    refine Frame.comp (State.updCtrl_frame _ _ _) rfl ?_
    exact Frame.refl _
  · refine Frame.comp (State.completeAdmin_frame _ _ _ _ _ _) rfl ?_
    refine Frame.comp (State.updCtrl_frame _ _ _) rfl ?_
    exact Frame.refl _
  · refine Frame.comp (State.setHoldLimit_frame _ _ _) rfl ?_
    exact Frame.refl _
  · refine Frame.comp (State.setCompression_frame _ _ _) rfl ?_
    exact Frame.refl _
  · refine Frame.comp (State.setDedup_frame _ _ _) rfl ?_
    exact Frame.refl _
  · refine Frame.comp (State.invalidField_frame _ _ _) rfl ?_
    exact Frame.refl _

theorem execSetFeatures_frame (a0 : _) (a1 : _) (a2 : _) (a3 : State) : Frame.Out 1338960475103 a3 (execSetFeatures a0 a1 a2 a3) := by
  unfold execSetFeatures
  refine Frame.next ?_
  refine State.admin_frame ?_ rfl ?_
  · intro _ _
    refine Frame.comp (State.setFeature_frame _ _ _) rfl ?_
    assumption
  · refine Frame.comp (State.advanceTo_frame _ _) rfl ?_
    exact Frame.refl _

theorem State.newController_frame (a0 : _) (a1 : _) (a2 : State) : Frame 549755883678 a2 (State.newController a0 a1 a2) := by
  unfold State.newController
  try extract_lets
  first | split | (dsimp +zetaDelta -proj only; split)
  · try extract_lets
    try extract_lets
    try extract_lets
    try extract_lets
    refine Frame.comp (State.record_frame _ _ _) rfl ?_
    refine Frame.set_nvq rfl (fun _ => rfl) (fun _ => rfl) ?_
    refine Frame.comp (State.updSession_frame _ _ _) rfl ?_
    refine Frame.snd ?_ (by assumption)
    refine Frame.comp (State.newRegion_frame _ _ _ _ _ _ _ _ _) rfl ?_
    exact Frame.refl _

theorem State.openAsResponder_frame (a0 : _) (a1 : State) : Frame 687207551134 a1 (State.openAsResponder a0 a1) := by
  unfold State.openAsResponder
  first | split | (dsimp +zetaDelta -proj only; split)
  · exact Frame.refl _
  · try extract_lets
    try extract_lets
    try extract_lets
    try extract_lets
    try extract_lets
    try extract_lets
    try extract_lets
    try extract_lets
    try extract_lets
    refine Frame.comp (State.sendAccept_frame _ _ _) rfl ?_
    refine Frame.comp (State.record_frame _ _ _) rfl ?_
    refine Frame.ite (fun _ => ?_) (fun _ => ?_)
    · refine Frame.comp (State.newController_frame _ _ _) rfl ?_
      refine Frame.ite (fun _ => ?_) (fun _ => ?_)
      · refine Frame.set_idm rfl (fun i => absurd i (by decide)) ?_
        refine Frame.comp (State.spendFree_frame _) rfl ?_
        refine Frame.comp (State.spendFree_frame _) rfl ?_
        exact Frame.refl _
      · refine Frame.comp (State.refPhases_frame _ _) rfl ?_
        refine Frame.set_idm rfl (fun i => absurd i (by decide)) ?_
        refine Frame.comp (State.spendFree_frame _) rfl ?_
        refine Frame.comp (State.spendFree_frame _) rfl ?_
        exact Frame.refl _
    · refine Frame.ite (fun _ => ?_) (fun _ => ?_)
      · refine Frame.set_idm rfl (fun i => absurd i (by decide)) ?_
        refine Frame.comp (State.spendFree_frame _) rfl ?_
        refine Frame.comp (State.spendFree_frame _) rfl ?_
        exact Frame.refl _
      · refine Frame.comp (State.refPhases_frame _ _) rfl ?_
        refine Frame.set_idm rfl (fun i => absurd i (by decide)) ?_
        refine Frame.comp (State.spendFree_frame _) rfl ?_
        refine Frame.comp (State.spendFree_frame _) rfl ?_
        exact Frame.refl _

theorem execConnect_frame (a0 : _) (a1 : _) (a2 : _) (a3 : _) (a4 : _) (a5 : State) : Frame.Out 687207551135 a5 (execConnect a0 a1 a2 a3 a4 a5) := by
  unfold execConnect
  try extract_lets
  try extract_lets
  refine Frame.next ?_
  refine Frame.ite (fun _ => ?_) (fun _ => ?_)
  · refine Frame.comp (State.advanceTo_frame _ _) rfl ?_
    exact Frame.refl _
  · refine Frame.ite (fun _ => ?_) (fun _ => ?_)
    · refine Frame.comp (State.recordOnce_frame _ _ _ _) rfl ?_
      refine Frame.comp (State.raise_frame _ _ _) rfl ?_
      refine Frame.comp (State.advanceTo_frame _ _) rfl ?_
      exact Frame.refl _
    · first | split | (dsimp +zetaDelta -proj only; split)
      · refine Frame.comp (State.sendAccept_frame _ _ _) rfl ?_
        refine Frame.comp (State.advanceTo_frame _ _) rfl ?_
        exact Frame.refl _
      · try extract_lets
        refine Frame.ite (fun _ => ?_) (fun _ => ?_)
        · refine Frame.comp (State.openAsResponder_frame _ _) rfl ?_
          refine Frame.comp (State.advanceTo_frame _ _) rfl ?_
          exact Frame.refl _
        · refine Frame.comp (State.sendAccept_frame _ _ _) rfl ?_
          refine Frame.comp (State.record_frame _ _ _) rfl ?_
          refine Frame.comp (State.advanceTo_frame _ _) rfl ?_
          exact Frame.refl _

theorem execBenchTestDone_frame (a0 : _) (a1 : _) (a2 : State) : Frame.Out 67174431 a2 (execBenchTestDone a0 a1 a2) := by
  unfold execBenchTestDone
  try extract_lets
  refine Frame.next ?_
  refine Frame.ite (fun _ => ?_) (fun _ => ?_)
  · refine Frame.comp (State.advanceTo_frame _ _) rfl ?_
    exact Frame.refl _
  · try extract_lets
    try extract_lets
    refine Frame.comp (State.record_frame _ _ _) rfl ?_
    refine Frame.set_md rfl (fun _ => rfl) (fun i => absurd i (by decide)) ?_
    refine Frame.comp (State.advanceTo_frame _ _) rfl ?_
    exact Frame.refl _

theorem execLinkCreate_frame (a0 : _) (a1 : _) (a2 : _) (a3 : _) (a4 : _) (a5 : _) (a6 : State) : Frame.Out 1888724677599 a6 (execLinkCreate a0 a1 a2 a3 a4 a5 a6) := by
  unfold execLinkCreate
  refine Frame.next ?_
  refine Frame.comp (State.c2h_frame _ _ _ _ _ _ _) rfl ?_
  refine Frame.comp (State.advanceTo_frame _ _) rfl ?_
  exact Frame.refl _

theorem execReshapeRequest_frame (a0 : _) (a1 : _) (a2 : _) (a3 : State) : Frame.Out 6605798444511 a3 (execReshapeRequest a0 a1 a2 a3) := by
  unfold execReshapeRequest
  refine Frame.next ?_
  refine Frame.comp (State.writeReshape_frame _ _ _) rfl ?_
  refine Frame.comp (State.advanceTo_frame _ _) rfl ?_
  exact Frame.refl _

theorem State.boundaryRecord_frame (a0 : _) (a1 : State) : Frame 138741790 a1 (State.boundaryRecord a0 a1) := by
  unfold State.boundaryRecord
  first | split | (dsimp +zetaDelta -proj only; split)
  · exact Frame.refl _
  · try extract_lets
    try extract_lets
    try extract_lets
    refine Frame.ite (fun _ => ?_) (fun _ => ?_)
    · refine Frame.comp (State.writeParam_frame _ _ _ _) rfl ?_
      refine Frame.set_strp rfl ?_
      exact Frame.refl _
    · refine Frame.set_strp rfl ?_
      exact Frame.refl _

theorem State.pairMismatch_frame (a0 : _) (a1 : _) (a2 : State) : Frame 3705990889471 a2 (State.pairMismatch a0 a1 a2) := by
  unfold State.pairMismatch
  try extract_lets
  try extract_lets
  try extract_lets
  refine Frame.comp (State.fault_frame _ _ _ _ _) rfl ?_
  first | split | (dsimp +zetaDelta -proj only; split)
  · refine Frame.comp (State.useSlack_frame _ _ _) rfl ?_
    refine Frame.comp (State.count_frame _ _) rfl ?_
    refine Frame.comp (State.count_frame _ _) rfl ?_
    refine Frame.comp (State.raise_frame _ _ _) rfl ?_
    exact Frame.refl _
  · refine Frame.comp (State.count_frame _ _) rfl ?_
    refine Frame.comp (State.count_frame _ _) rfl ?_
    refine Frame.comp (State.raise_frame _ _ _) rfl ?_
    exact Frame.refl _

theorem State.endRefused_frame (a0 : _) (a1 : _) (a2 : _) (a3 : _) (a4 : State) : Frame 30069174494 a4 (State.endRefused a0 a1 a2 a3 a4) := by
  unfold State.endRefused
  try extract_lets
  split <;> first
    | exact Frame.comp (State.endKey_frame _ _ _ _) rfl (Frame.refl _)
    | exact Frame.comp (State.complete_frame _ _ _ _ _ _ _ _) rfl (Frame.refl _)
    | exact Frame.comp (State.complete_frame _ _ _ _ _ _ _ _) rfl (Frame.comp (State.record_frame _ _ _) rfl (Frame.refl _))
    | exact Frame.comp (State.complete_frame _ _ _ _ _ _ _ _) rfl
        (Frame.ite (fun _ => Frame.comp (State.record_frame _ _ _) rfl (Frame.refl _)) (fun _ => Frame.refl _))
    | exact Frame.ite (fun _ => Frame.comp (State.complete_frame _ _ _ _ _ _ _ _) rfl (Frame.refl _)) (fun _ =>
        Frame.comp (State.complete_frame _ _ _ _ _ _ _ _) rfl (Frame.comp (State.record_frame _ _ _) rfl (Frame.refl _)))

theorem execAsyncEventRequest_frame (a0 : _) (a1 : _) (a2 : _) (a3 : State) : Frame.Out 25774076127 a3 (execAsyncEventRequest a0 a1 a2 a3) := by
  unfold execAsyncEventRequest
  refine Frame.next ?_
  refine State.admin_frame ?_ rfl ?_
  · intro _ _
    refine Frame.comp (State.eventRequest_frame _ _ _) rfl ?_
    assumption
  · refine Frame.comp (State.advanceTo_frame _ _) rfl ?_
    exact Frame.refl _

theorem State.caught_frame (cntl qid cid : Nat) (s : State) : ∀ x, State.caught cntl qid cid s = some x → Frame 26847818206 s x := by
  unfold State.caught
  intro x h
  dsimp only at h
  have note : ∀ y : State, Frame 26847818206 s y → Frame 26847818206 s ((y.raise Reg.NVQ_STATUS 8).record 0x6020 [cntl, qid, cid]) :=
    fun y hy => Frame.comp (State.record_frame _ _ _) rfl (Frame.comp (State.raise_frame _ _ _) rfl hy)
  split at h
  · cases h
  · split at h
    · cases h
      exact note _ (Frame.comp (State.endHeld_frame _ _ _ _) rfl (Frame.refl _))
    · split at h
      · split at h
        · cases h
          exact note _ (Frame.comp (State.endRcmd_frame _ _ _ _) rfl (Frame.refl _))
        · cases h
      · cases h

theorem State.sendPages_frame (a0 : _) (a1 : _) (a2 : _) (a3 : _) (a4 : State) : Frame 4194304 a4 (State.sendPages a0 a1 a2 a3 a4) := by
  unfold State.sendPages
  first | split | (dsimp +zetaDelta -proj only; split)
  · exact Frame.refl _
  · refine Frame.foldl (fun _ _ _ => ?_) ?_
    · refine Frame.comp (State.emit_frame _ _) rfl ?_
      assumption
    · exact Frame.refl _

theorem execPageTransferDone_frame (a0 : _) (a1 : _) (a2 : _) (a3 : _) (a4 : _) (a5 : State) : Frame.Out 2199027450129 a5 (execPageTransferDone a0 a1 a2 a3 a4 a5) := by
  unfold execPageTransferDone
  try extract_lets
  refine Frame.next ?_
  first | split | (dsimp +zetaDelta -proj only; split)
  · refine Frame.ite (fun _ => ?_) (fun _ => ?_)
    · refine Frame.comp (State.advanceTo_frame _ _) rfl ?_
      exact Frame.refl _
    · try extract_lets
      first | split | (dsimp +zetaDelta -proj only; split)
      · refine Frame.comp (State.countN_frame _ _ _) rfl ?_
        refine Frame.comp (State.sendPages_frame _ _ _ _ _) rfl ?_
        refine Frame.comp (State.updStripe_frame _ _ _ _) rfl ?_
        refine Frame.comp (State.advanceTo_frame _ _) rfl ?_
        exact Frame.refl _
      · refine Frame.comp (State.sendPages_frame _ _ _ _ _) rfl ?_
        refine Frame.comp (State.updStripe_frame _ _ _ _) rfl ?_
        refine Frame.comp (State.advanceTo_frame _ _) rfl ?_
        exact Frame.refl _
  · refine Frame.comp (State.advanceTo_frame _ _) rfl ?_
    exact Frame.refl _

theorem execSetFeaturesHoldLimit_frame (a0 : _) (a1 : _) (a2 : _) (a3 : State) : Frame.Out 27921559775 a3 (execSetFeaturesHoldLimit a0 a1 a2 a3) := by
  unfold execSetFeaturesHoldLimit
  refine Frame.next ?_
  refine State.admin_frame ?_ rfl ?_
  · intro _ _
    refine Frame.comp (State.setHoldLimit_frame _ _ _) rfl ?_
    assumption
  · refine Frame.comp (State.advanceTo_frame _ _) rfl ?_
    exact Frame.refl _

theorem execModeReqRelay_frame (a0 : _) (a1 : _) (a2 : _) (a3 : State) : Frame.Out 1781711352831 a3 (execModeReqRelay a0 a1 a2 a3) := by
  unfold execModeReqRelay
  refine Frame.next ?_
  refine Frame.comp (State.writeModeReq_frame _ _ _) rfl ?_
  refine Frame.comp (State.advanceTo_frame _ _) rfl ?_
  exact Frame.refl _

theorem execNvqQinfoRead_frame (a0 : _) (a1 : _) (a2 : State) : Frame.Out 4295098373 a2 (execNvqQinfoRead a0 a1 a2) := by
  unfold execNvqQinfoRead
  refine Frame.next ?_
  refine Frame.comp (State.readReg_frame _ _ _) rfl ?_
  refine Frame.comp (State.advanceTo_frame _ _) rfl ?_
  exact Frame.refl _

theorem execChannelDisable_frame (a0 : _) (a1 : _) (a2 : _) (a3 : _) (a4 : State) : Frame.Out 536936453 a4 (execChannelDisable a0 a1 a2 a3 a4) := by
  unfold execChannelDisable
  refine Frame.next ?_
  refine Frame.comp (State.writeCctrl_frame _ _ _ _) rfl ?_
  refine Frame.comp (State.advanceTo_frame _ _) rfl ?_
  exact Frame.refl _

theorem execLoadXts_frame (a0 : _) (a1 : _) (a2 : _) (a3 : State) : Frame.Out 1888716288991 a3 (execLoadXts a0 a1 a2 a3) := by
  unfold execLoadXts
  refine Frame.next ?_
  refine Frame.comp (State.writeKcmd_frame _ _ _) rfl ?_
  refine Frame.comp (State.advanceTo_frame _ _) rfl ?_
  exact Frame.refl _

theorem State.encrypt_frame (a0 : _) (a1 : _) (a2 : State) : Frame 34359738432 a2 (State.encrypt a0 a1 a2) := by
  unfold State.encrypt
  try extract_lets
  refine Frame.comp (State.updWrite_frame _ _ _) rfl ?_
  exact Frame.refl _

theorem execLinkQuery_frame (a0 : _) (a1 : _) (a2 : _) (a3 : State) : Frame.Out 1888724677599 a3 (execLinkQuery a0 a1 a2 a3) := by
  unfold execLinkQuery
  refine Frame.next ?_
  refine Frame.comp (State.c2h_frame _ _ _ _ _ _ _) rfl ?_
  refine Frame.comp (State.advanceTo_frame _ _) rfl ?_
  exact Frame.refl _

theorem State.loadShared_frame (a0 : _) (a1 : State) : Frame 512 a1 (State.loadShared a0 a1) := by
  unfold State.loadShared
  try extract_lets
  try extract_lets
  try extract_lets
  refine Frame.set_ddup rfl ?_
  exact Frame.refl _

theorem State.formatFlash_frame (a0 : State) : Frame 1280 a0 (State.formatFlash a0) := by
  unfold State.formatFlash
  try extract_lets
  try extract_lets
  refine Frame.set_flash rfl ?_
  refine Frame.comp (State.checkpoint_frame _ _) rfl ?_
  exact Frame.refl _

theorem State.loseMap_frame (a0 : State) : Frame 6599217325854 a0 (State.loseMap a0) := by
  unfold State.loseMap
  try extract_lets
  try extract_lets
  refine Frame.set_path_ddup_flash_moor rfl rfl rfl rfl (fun i => absurd i (by decide)) (fun _ => rfl) (fun i => absurd i (by decide)) (fun i => absurd i (by decide)) ?_
  refine Frame.comp (State.record_frame _ _ _) rfl ?_
  exact Frame.refl _

theorem State.loadMap_frame (a0 : _) (a1 : State) : Frame 7768593475486 a1 (State.loadMap a0 a1) := by
  unfold State.loadMap
  first | split | (dsimp +zetaDelta -proj only; split)
  · try extract_lets
    try extract_lets
    refine Frame.comp (State.replay_frame _ _) rfl ?_
    refine Frame.comp (State.loadShared_frame _ _) rfl ?_
    refine Frame.ite (fun _ => ?_) (fun _ => ?_)
    · refine Frame.set_md_path_moor rfl rfl rfl (fun _ => rfl) (fun i => absurd i (by decide)) (fun i => absurd i (by decide)) (fun i => absurd i (by decide)) (fun i => absurd i (by decide)) (fun i => absurd i (by decide)) ?_
      exact Frame.refl _
    · refine Frame.comp (State.raise_frame _ _ _) rfl ?_
      refine Frame.comp (State.record_frame _ _ _) rfl ?_
      refine Frame.set_md_path_moor rfl rfl rfl (fun _ => rfl) (fun i => absurd i (by decide)) (fun i => absurd i (by decide)) (fun i => absurd i (by decide)) (fun i => absurd i (by decide)) (fun i => absurd i (by decide)) ?_
      exact Frame.refl _
  · refine Frame.ite (fun _ => ?_) (fun _ => ?_)
    · refine Frame.comp (State.loseMap_frame _) rfl ?_
      exact Frame.refl _
    · refine Frame.comp (State.formatFlash_frame _) rfl ?_
      exact Frame.refl _

theorem execRelayCommit_frame (a0 : _) (a1 : _) (a2 : _) (a3 : State) : Frame.Out 1889221997535 a3 (execRelayCommit a0 a1 a2 a3) := by
  unfold execRelayCommit
  refine Frame.next ?_
  refine Frame.comp (State.writeRelay_frame _ _ _) rfl ?_
  refine Frame.comp (State.advanceTo_frame _ _) rfl ?_
  exact Frame.refl _

theorem State.unstall_frame (a0 : _) (a1 : State) : Frame 1919049528286 a1 (State.unstall a0 a1) := by
  unfold State.unstall
  try extract_lets
  first | split | (dsimp +zetaDelta -proj only; split)
  · refine Frame.set_idm rfl (fun i => absurd i (by decide)) ?_
    exact Frame.refl _
  · refine State.sequenced_frame ?_ rfl ?_
    · intro _ _ _
      refine Frame.comp (State.apply_frame _ _ _) rfl ?_
      assumption
    · refine Frame.set_idm rfl (fun i => absurd i (by decide)) ?_
      exact Frame.refl _

theorem execOndemandUnitReady_frame (a0 : _) (a1 : _) (a2 : _) (a3 : _) (a4 : State) : Frame.Out 1919049528287 a4 (execOndemandUnitReady a0 a1 a2 a3 a4) := by
  unfold execOndemandUnitReady
  try extract_lets
  try extract_lets
  try extract_lets
  refine Frame.next ?_
  refine Frame.ite (fun _ => ?_) (fun _ => ?_)
  · refine Frame.comp (State.advanceTo_frame _ _) rfl ?_
    exact Frame.refl _
  · refine Frame.ite (fun _ => ?_) (fun _ => ?_)
    · beta_reduce
      refine Frame.foldl (fun _ _ _ => ?_) ?_
      · refine Frame.comp (State.retryLater_frame _ _ _) rfl ?_
        refine Frame.set_idm rfl (fun i => absurd i (by decide)) ?_
        assumption
      · refine Frame.comp (State.advanceTo_frame _ _) rfl ?_
        exact Frame.refl _
    · first | split | (dsimp +zetaDelta -proj only; split)
      · try extract_lets
        try extract_lets
        try extract_lets
        try extract_lets
        refine Frame.comp (State.releaseFenced_frame _ _ _) rfl ?_
        refine Frame.foldl (fun _ _ _ => ?_) ?_
        · refine Frame.comp (State.unstall_frame _ _) rfl ?_
          assumption
        · refine Frame.set_idm rfl (fun i => absurd i (by decide)) ?_
          refine Frame.comp (State.memWrite_frame _ _ _) rfl ?_
          refine Frame.comp (State.grant_frame _ _ _) rfl ?_
          refine Frame.comp (State.advanceTo_frame _ _) rfl ?_
          exact Frame.refl _
      · refine Frame.comp (State.advanceTo_frame _ _) rfl ?_
        exact Frame.refl _

theorem execBufferFree_frame (a0 : _) (a1 : _) (a2 : _) (a3 : State) : Frame.Out 98335 a3 (execBufferFree a0 a1 a2 a3) := by
  unfold execBufferFree
  refine Frame.next ?_
  refine Frame.comp (State.writePoolFree_frame _ _ _) rfl ?_
  refine Frame.comp (State.advanceTo_frame _ _) rfl ?_
  exact Frame.refl _

theorem State.addSecond_frame (a0 : _) (a1 : _) (a2 : State) : Frame 1024 a2 (State.addSecond a0 a1 a2) := by
  unfold State.addSecond
  try extract_lets
  refine Frame.set_flash rfl ?_
  exact Frame.refl _

theorem execDieTemperatureSample_frame (a0 : _) (a1 : _) (a2 : State) : Frame.Out 1041 a2 (execDieTemperatureSample a0 a1 a2) := by
  unfold execDieTemperatureSample
  try extract_lets
  refine Frame.next ?_
  refine Frame.ite (fun _ => ?_) (fun _ => ?_)
  · refine Frame.comp (State.advanceTo_frame _ _) rfl ?_
    exact Frame.refl _
  · try extract_lets
    refine Frame.foldl (fun _ _ _ => ?_) ?_
    · refine Frame.ite (fun _ => ?_) (fun _ => ?_)
      · refine Frame.comp (State.count_frame _ _) rfl ?_
        refine Frame.comp (State.addSecond_frame _ _ _) rfl ?_
        assumption
      · assumption
    · refine Frame.comp (State.addSecond_frame _ _ _) rfl ?_
      refine Frame.set_flash rfl ?_
      refine Frame.comp (State.advanceTo_frame _ _) rfl ?_
      exact Frame.refl _

theorem execSpareProbe_frame (a0 : _) (a1 : _) (a2 : _) (a3 : State) : Frame.Out 2286234655 a3 (execSpareProbe a0 a1 a2 a3) := by
  unfold execSpareProbe
  try extract_lets
  try extract_lets
  refine Frame.next ?_
  refine Frame.ite (fun _ => ?_) (fun _ => ?_)
  · refine Frame.comp (State.advanceTo_frame _ _) rfl ?_
    exact Frame.refl _
  · try extract_lets
    refine Frame.ite (fun _ => ?_) (fun _ => ?_)
    · refine Frame.set_moor rfl (fun i => absurd i (by decide)) ?_
      refine Frame.comp (State.advanceTo_frame _ _) rfl ?_
      exact Frame.refl _
    · refine Frame.comp (State.record_frame _ _ _) rfl ?_
      refine Frame.comp (State.unspare_frame _ _) rfl ?_
      refine Frame.comp (State.portOff_frame _ _ _) rfl ?_
      refine Frame.set_moor rfl (fun i => absurd i (by decide)) ?_
      refine Frame.comp (State.advanceTo_frame _ _) rfl ?_
      exact Frame.refl _

theorem execCiphKinfoRead_frame (a0 : _) (a1 : _) (a2 : State) : Frame.Out 4295098373 a2 (execCiphKinfoRead a0 a1 a2) := by
  unfold execCiphKinfoRead
  refine Frame.next ?_
  refine Frame.comp (State.readReg_frame _ _ _) rfl ?_
  refine Frame.comp (State.advanceTo_frame _ _) rfl ?_
  exact Frame.refl _

theorem State.releasePacket_frame (a0 : _) (a1 : State) : Frame 1916633560030 a1 (State.releasePacket a0 a1) := by
  unfold State.releasePacket
  first | split | (dsimp +zetaDelta -proj only; split)
  · exact Frame.refl _
  · first | split | (dsimp +zetaDelta -proj only; split)
    · exact Frame.refl _
    · try extract_lets
      first | split | (dsimp +zetaDelta -proj only; split)
      · first | split | (dsimp +zetaDelta -proj only; split)
        · refine Frame.comp (State.chains_frame _) rfl ?_
          refine Frame.comp (State.endOp_frame _ _ _ _) rfl ?_
          refine Frame.snd ?_ (by assumption)
          refine Frame.comp (State.sealPacket_frame _ _ _) rfl ?_
          refine Frame.comp (State.updSession_frame _ _ _) rfl ?_
          exact Frame.refl _
        · refine Frame.snd ?_ (by assumption)
          refine Frame.comp (State.sealPacket_frame _ _ _) rfl ?_
          refine Frame.comp (State.updSession_frame _ _ _) rfl ?_
          exact Frame.refl _
      · try extract_lets
        try extract_lets
        try extract_lets
        refine Frame.comp (State.offerRekeys_frame _) rfl ?_
        refine Frame.comp (State.count_frame _ _) rfl ?_
        refine Frame.comp (State.emit_frame _ _) rfl ?_
        refine Frame.ite (fun _ => ?_) (fun _ => ?_)
        · refine Frame.comp (State.takePhase_frame _ _ _) rfl ?_
          refine Frame.comp (State.updSession_frame _ _ _) rfl ?_
          refine Frame.snd ?_ (by assumption)
          refine Frame.comp (State.sealPacket_frame _ _ _) rfl ?_
          refine Frame.comp (State.updSession_frame _ _ _) rfl ?_
          exact Frame.refl _
        · refine Frame.comp (State.updSession_frame _ _ _) rfl ?_
          refine Frame.snd ?_ (by assumption)
          refine Frame.comp (State.sealPacket_frame _ _ _) rfl ?_
          refine Frame.comp (State.updSession_frame _ _ _) rfl ?_
          exact Frame.refl _

theorem execCipherPassDone_frame (a0 : _) (a1 : _) (a2 : _) (a3 : _) (a4 : State) : Frame.Out 4393185787903 a4 (execCipherPassDone a0 a1 a2 a3 a4) := by
  unfold execCipherPassDone
  try extract_lets
  refine Frame.next ?_
  refine Frame.ite (fun _ => ?_) (fun _ => ?_)
  · refine Frame.comp (State.advanceTo_frame _ _) rfl ?_
    exact Frame.refl _
  · refine Frame.ite (fun _ => ?_) (fun _ => ?_)
    · refine Frame.comp (State.pairMismatch_frame _ _ _) rfl ?_
      refine Frame.comp (State.useRes_frame _ _) rfl ?_
      refine Frame.comp (State.advanceTo_frame _ _) rfl ?_
      exact Frame.refl _
    · first | split | (dsimp +zetaDelta -proj only; split)
      · refine Frame.comp (State.advanceTo_frame _ _) rfl ?_
        exact Frame.refl _
      · refine Frame.comp (State.readDecrypted_frame _ _) rfl ?_
        refine Frame.comp (State.useRes_frame _ _) rfl ?_
        refine Frame.comp (State.advanceTo_frame _ _) rfl ?_
        exact Frame.refl _
      · try extract_lets
        refine Frame.ite (fun _ => ?_) (fun _ => ?_)
        · refine Frame.comp (State.countN_frame _ _ _) rfl ?_
          refine Frame.comp (State.countN_frame _ _ _) rfl ?_
          refine Frame.comp (State.useRes_frame _ _) rfl ?_
          refine Frame.comp (State.advanceTo_frame _ _) rfl ?_
          exact Frame.refl _
        · refine Frame.comp (State.releasePacket_frame _ _) rfl ?_
          refine Frame.comp (State.countN_frame _ _ _) rfl ?_
          refine Frame.comp (State.useRes_frame _ _) rfl ?_
          refine Frame.comp (State.advanceTo_frame _ _) rfl ?_
          exact Frame.refl _
      · first | split | (dsimp +zetaDelta -proj only; split)
        · refine Frame.comp (State.advanceTo_frame _ _) rfl ?_
          exact Frame.refl _
        · first | split | (dsimp +zetaDelta -proj only; split)
          · refine Frame.comp (State.advanceTo_frame _ _) rfl ?_
            exact Frame.refl _
          · refine Frame.ite (fun _ => ?_) (fun _ => ?_)
            · refine Frame.comp (State.advanceTo_frame _ _) rfl ?_
              exact Frame.refl _
            · refine Frame.comp (State.countN_frame _ _ _) rfl ?_
              refine Frame.comp (State.encrypt_frame _ _ _) rfl ?_
              refine Frame.comp (State.useRes_frame _ _) rfl ?_
              refine Frame.comp (State.advanceTo_frame _ _) rfl ?_
              exact Frame.refl _

theorem State.freshBlocks_frame (a0 : _) (a1 : State) : Frame 274877908256 a1 (State.freshBlocks a0 a1) := by
  unfold State.freshBlocks
  try extract_lets
  refine Frame.set_faults_path_flash rfl rfl rfl (fun _ => rfl) (fun i => absurd i (by decide)) (fun _ => rfl) (fun _ => rfl) ?_
  exact Frame.refl _

theorem State.takeDies_frame (a0 : _) (a1 : _) (a2 : _) (a3 : State) : Frame 274877973822 a3 (State.takeDies a0 a1 a2 a3) := by
  unfold State.takeDies
  try extract_lets
  try extract_lets
  try extract_lets
  refine Frame.ite (fun _ => ?_) (fun _ => ?_)
  · refine Frame.set_flash rfl ?_
    refine Frame.set_flash rfl ?_
    refine Frame.ite (fun _ => ?_) (fun _ => ?_)
    · refine Frame.comp (State.freshBlocks_frame _ _) rfl ?_
      refine Frame.foldl (fun _ _ _ => ?_) ?_
      · refine Frame.comp (State.record_frame _ _ _) rfl ?_
        assumption
      · exact Frame.refl _
    · refine Frame.foldl (fun _ _ _ => ?_) ?_
      · refine Frame.comp (State.record_frame _ _ _) rfl ?_
        assumption
      · exact Frame.refl _
  · refine Frame.set_flash rfl ?_
    refine Frame.ite (fun _ => ?_) (fun _ => ?_)
    · refine Frame.comp (State.freshBlocks_frame _ _) rfl ?_
      refine Frame.foldl (fun _ _ _ => ?_) ?_
      · refine Frame.comp (State.record_frame _ _ _) rfl ?_
        assumption
      · exact Frame.refl _
    · refine Frame.foldl (fun _ _ _ => ?_) ?_
      · refine Frame.comp (State.record_frame _ _ _) rfl ?_
        assumption
      · exact Frame.refl _

end Sys2Proof.Laws
end

