-- ==== Sys2Proof/Laws/Frame7.lean ====
section
/-!
SUPPORT. Frames of the operations, part 7 of 8: what each may touch (see Frame.lean). Each proof follows its operation's body.
-/

namespace Sys2Proof.Laws

open Sys2Proof.Machine

theorem State.hotLimit_frame (a0 : _) (a1 : _) (a2 : _) (a3 : State) : Frame 1231955243999 a3 (State.hotLimit a0 a1 a2 a3) := by
  unfold State.hotLimit
  refine Frame.ite (fun _ => ?_) (fun _ => ?_)
  · exact Frame.refl _
  · try extract_lets
    refine Frame.comp (State.enterPreservation_frame _ _) rfl ?_
    refine Frame.ite (fun _ => ?_) (fun _ => ?_)
    · refine Frame.comp (State.record_frame _ _ _) rfl ?_
      exact Frame.refl _
    · exact Frame.refl _

theorem State.throttling_frame (a0 : _) (a1 : State) : Frame 1114142 a1 (State.throttling a0 a1) := by
  unfold State.throttling
  try extract_lets
  try extract_lets
  refine Frame.ite (fun _ => ?_) (fun _ => ?_)
  · refine Frame.comp (State.record_frame _ _ _) rfl ?_
    refine Frame.set_elec rfl ?_
    exact Frame.refl _
  · refine Frame.ite (fun _ => ?_) (fun _ => ?_)
    · refine Frame.comp (State.record_frame _ _ _) rfl ?_
      refine Frame.set_elec rfl ?_
      exact Frame.refl _
    · exact Frame.refl _

theorem execTemperatureReading_frame (a0 : _) (a1 : _) (a2 : _) (a3 : State) : Frame.Out 1924120182783 a3 (execTemperatureReading a0 a1 a2 a3) := by
  unfold execTemperatureReading
  try extract_lets
  refine Frame.next ?_
  refine Frame.ite (fun _ => ?_) (fun _ => ?_)
  · refine Frame.comp (State.advanceTo_frame _ _) rfl ?_
    exact Frame.refl _
  · try extract_lets
    try extract_lets
    try extract_lets
    refine Frame.comp (State.thermalTrip_frame _ _ _) rfl ?_
    refine Frame.comp (State.hotLimit_frame _ _ _ _) rfl ?_
    refine Frame.comp (State.throttling_frame _ _) rfl ?_
    refine Frame.set_elec rfl ?_
    refine Frame.comp (State.advanceTo_frame _ _) rfl ?_
    exact Frame.refl _

theorem execModeReqBench_frame (a0 : _) (a1 : _) (a2 : _) (a3 : State) : Frame.Out 1781711352831 a3 (execModeReqBench a0 a1 a2 a3) := by
  unfold execModeReqBench
  refine Frame.next ?_
  refine Frame.comp (State.writeModeReq_frame _ _ _) rfl ?_
  refine Frame.comp (State.advanceTo_frame _ _) rfl ?_
  exact Frame.refl _

theorem State.dropBand_frame (a0 : _) (a1 : State) : Frame 6597069767424 a1 (State.dropBand a0 a1) := by
  unfold State.dropBand
  first | split | (dsimp +zetaDelta -proj only; split)
  · exact Frame.refl _
  · refine Frame.ite (fun _ => ?_) (fun _ => ?_)
    · try extract_lets
      refine Frame.set_path_ddup rfl rfl (fun _ => rfl) (fun i => absurd i (by decide)) (fun i => absurd i (by decide)) ?_
      exact Frame.refl _
    · exact Frame.refl _

theorem execEraseDone_frame (a0 : _) (a1 : _) (a2 : _) (a3 : _) (a4 : State) : Frame.Out 8104037400575 a4 (execEraseDone a0 a1 a2 a3 a4) := by
  unfold execEraseDone
  try extract_lets
  refine Frame.next ?_
  refine Frame.ite (fun _ => ?_) (fun _ => ?_)
  · refine Frame.comp (State.advanceTo_frame _ _) rfl ?_
    exact Frame.refl _
  · try extract_lets
    refine Frame.ite (fun _ => ?_) (fun _ => ?_)
    · try extract_lets
      try extract_lets
      try extract_lets
      try extract_lets
      try extract_lets
      try extract_lets
      try extract_lets
      refine Frame.comp (State.dropBand_frame _ _) rfl ?_
      refine Frame.comp (State.count_frame _ _) rfl ?_
      refine Frame.set_flash rfl ?_
      refine Frame.set_flash rfl ?_
      refine Frame.comp (State.advanceTo_frame _ _) rfl ?_
      exact Frame.refl _
    · refine Frame.comp (State.dropBand_frame _ _) rfl ?_
      refine Frame.comp (State.retire_frame _ _) rfl ?_
      refine Frame.comp (State.fault_frame _ _ _ _ _) rfl ?_
      refine Frame.comp (State.raise_frame _ _ _) rfl ?_
      refine Frame.comp (State.count_frame _ _) rfl ?_
      refine Frame.set_flash rfl ?_
      refine Frame.comp (State.advanceTo_frame _ _) rfl ?_
      exact Frame.refl _

theorem State.settleOwnClose_frame (a0 : _) (a1 : State) : Frame 1919049528286 a1 (State.settleOwnClose a0 a1) := by
  unfold State.settleOwnClose
  first | split | (dsimp +zetaDelta -proj only; split)
  · try extract_lets
    refine Frame.ite (fun _ => ?_) (fun _ => ?_)
    · refine Frame.comp (State.endSession_frame _ _ _ _ _) rfl ?_
      exact Frame.refl _
    · exact Frame.refl _
  · exact Frame.refl _

theorem State.drainQueue_frame (n : Nat) : ∀ (k : Nat) (s : State), Frame 549760012304 s (State.drainQueue n k s)
  | 0, s => Frame.refl s
  | k + 1, s => by
    unfold State.drainQueue
    split
    · exact Frame.refl _
    · split
      · exact Frame.refl _
      · refine Frame.ite (fun _ => ?_) (fun _ => Frame.refl _)
        exact Frame.comp (State.drainQueue_frame n k _) rfl
          (Frame.comp (State.launch_frame _ _ _) rfl (Frame.comp (State.updSession_frame _ _ _) rfl (Frame.refl _)))

theorem State.ackedOps_frame (a0 : _) (a1 : State) : Frame 1779194475486 a1 (State.ackedOps a0 a1) := by
  unfold State.ackedOps
  first | split | (dsimp +zetaDelta -proj only; split)
  · exact Frame.refl _
  · refine Frame.foldl (fun _ _ _ => ?_) ?_
    · refine Frame.comp (State.endOp_frame _ _ _ _) rfl ?_
      assumption
    · exact Frame.refl _

theorem State.applyAck_frame (a0 : _) (a1 : _) (a2 : _) (a3 : State) : Frame 1916633560030 a3 (State.applyAck a0 a1 a2 a3) := by
  unfold State.applyAck
  try extract_lets
  refine Frame.ite (fun _ => ?_) (fun _ => ?_)
  · exact Frame.refl _
  · try extract_lets
    try extract_lets
    try extract_lets
    try extract_lets
    try extract_lets
    refine Frame.comp (State.settlePhases_frame _ _) rfl ?_
    refine Frame.comp (State.ackedOps_frame _ _) rfl ?_
    refine Frame.comp (State.drainQueue_frame _ _ _) rfl ?_
    refine Frame.foldl (fun _ _ _ => ?_) ?_
    · refine Frame.comp (State.resend_frame _ _ _) rfl ?_
      assumption
    · refine Frame.comp (State.updSession_frame _ _ _) rfl ?_
      exact Frame.refl _

theorem execAck_frame (a0 : _) (a1 : _) (a2 : State) : Frame.Out 1919049528287 a2 (execAck a0 a1 a2) := by
  unfold execAck
  refine Frame.next ?_
  refine State.arrive_frame ?_ rfl ?_
  · intro _ _ _ _
    refine Frame.comp (State.settleOwnClose_frame _ _) rfl ?_
    refine Frame.comp (State.settleClose_frame _ _) rfl ?_
    refine Frame.comp (State.chains_frame _) rfl ?_
    refine Frame.comp (State.applyAck_frame _ _ _ _) rfl ?_
    assumption
  · refine Frame.comp (State.advanceTo_frame _ _) rfl ?_
    exact Frame.refl _

theorem State.resyncAck_frame (a0 : _) (a1 : State) : Frame 2151686208 a1 (State.resyncAck a0 a1) := by
  unfold State.resyncAck
  first | split | (dsimp +zetaDelta -proj only; split)
  · exact Frame.refl _
  · try extract_lets
    try extract_lets
    refine Frame.comp (State.resyncStage_frame _) rfl ?_
    refine Frame.comp (State.resyncPass_frame _) rfl ?_
    refine Frame.comp (State.updMoor_frame _ _) rfl ?_
    exact Frame.refl _

theorem execPairCommitAnswer_frame (a0 : _) (a1 : _) (a2 : _) (a3 : State) : Frame.Out 1338960475103 a3 (execPairCommitAnswer a0 a1 a2 a3) := by
  unfold execPairCommitAnswer
  try extract_lets
  refine Frame.next ?_
  first | split | (dsimp +zetaDelta -proj only; split)
  · refine Frame.comp (State.advanceTo_frame _ _) rfl ?_
    exact Frame.refl _
  · try extract_lets
    refine Frame.ite (fun _ => ?_) (fun _ => ?_)
    · refine Frame.ite (fun _ => ?_) (fun _ => ?_)
      · refine Frame.comp (State.settleChange_frame _ _ _ _) rfl ?_
        refine Frame.set_moor rfl (fun i => absurd i (by decide)) ?_
        refine Frame.comp (State.advanceTo_frame _ _) rfl ?_
        exact Frame.refl _
      · refine Frame.comp (State.endRefused_frame _ _ _ _ _) rfl ?_
        refine Frame.comp (State.undo_frame _ _) rfl ?_
        refine Frame.set_moor rfl (fun i => absurd i (by decide)) ?_
        refine Frame.comp (State.advanceTo_frame _ _) rfl ?_
        exact Frame.refl _
    · refine Frame.comp (State.endRefused_frame _ _ _ _ _) rfl ?_
      refine Frame.set_moor rfl (fun i => absurd i (by decide)) ?_
      refine Frame.comp (State.advanceTo_frame _ _) rfl ?_
      exact Frame.refl _

theorem execModuleRemoval_frame (a0 : _) (a1 : _) (a2 : State) : Frame.Out 3431112982495 a2 (execModuleRemoval a0 a1 a2) := by
  unfold execModuleRemoval
  try extract_lets
  try extract_lets
  try extract_lets
  refine Frame.next ?_
  refine Frame.ite (fun _ => ?_) (fun _ => ?_)
  · refine Frame.comp (State.advanceTo_frame _ _) rfl ?_
    exact Frame.refl _
  · refine Frame.ite (fun _ => ?_) (fun _ => ?_)
    · refine Frame.comp (State.updPort_frame _ _ _) rfl ?_
      refine Frame.comp (State.advanceTo_frame _ _) rfl ?_
      exact Frame.refl _
    · try extract_lets
      try extract_lets
      refine Frame.comp (State.recompute_frame _ _) rfl ?_
      refine Frame.comp (State.updPort_frame _ _ _) rfl ?_
      refine Frame.ite (fun _ => ?_) (fun _ => ?_)
      · refine Frame.comp (State.memberFail_frame _ _ _) rfl ?_
        refine Frame.comp (State.count_frame _ _) rfl ?_
        refine Frame.comp (State.record_frame _ _ _) rfl ?_
        refine Frame.comp (State.raise_frame _ _ _) rfl ?_
        refine Frame.comp (State.portOff_frame _ _ _) rfl ?_
        refine Frame.comp (State.updPort_frame _ _ _) rfl ?_
        refine Frame.comp (State.advanceTo_frame _ _) rfl ?_
        exact Frame.refl _
      · refine Frame.comp (State.unspare_frame _ _) rfl ?_
        refine Frame.comp (State.count_frame _ _) rfl ?_
        refine Frame.comp (State.record_frame _ _ _) rfl ?_
        refine Frame.comp (State.raise_frame _ _ _) rfl ?_
        refine Frame.comp (State.portOff_frame _ _ _) rfl ?_
        refine Frame.comp (State.updPort_frame _ _ _) rfl ?_
        refine Frame.comp (State.advanceTo_frame _ _) rfl ?_
        exact Frame.refl _

theorem State.rejectBeacon_frame (a0 : _) (a1 : _) (a2 : State) : Frame 2147557406 a2 (State.rejectBeacon a0 a1 a2) := by
  unfold State.rejectBeacon
  try extract_lets
  refine Frame.ite (fun _ => ?_) (fun _ => ?_)
  · refine Frame.comp (State.record_frame _ _ _) rfl ?_
    refine Frame.comp (State.updMoor_frame _ _) rfl ?_
    refine Frame.comp (State.count_frame _ _) rfl ?_
    exact Frame.refl _
  · refine Frame.comp (State.count_frame _ _) rfl ?_
    exact Frame.refl _

theorem execClearGo_frame (a0 : _) (a1 : _) (a2 : _) (a3 : State) : Frame.Out 134283295 a3 (execClearGo a0 a1 a2 a3) := by
  unfold execClearGo
  refine Frame.next ?_
  refine Frame.comp (State.writeClrGo_frame _ _ _) rfl ?_
  refine Frame.comp (State.advanceTo_frame _ _) rfl ?_
  exact Frame.refl _

theorem execPartnerRepairRequest_frame (a0 : _) (a1 : _) (a2 : _) (a3 : _) (a4 : _) (a5 : State) : Frame.Out 4194561 a5 (execPartnerRepairRequest a0 a1 a2 a3 a4 a5) := by
  unfold execPartnerRepairRequest
  try extract_lets
  refine Frame.next ?_
  first | split | (dsimp +zetaDelta -proj only; split)
  · refine Frame.comp (State.emit_frame _ _) rfl ?_
    refine Frame.comp (State.advanceTo_frame _ _) rfl ?_
    exact Frame.refl _
  · refine Frame.ite (fun _ => ?_) (fun _ => ?_)
    · refine Frame.comp (State.startRead_frame _ _ _ _ _ _ _ _ _) rfl ?_
      refine Frame.comp (State.advanceTo_frame _ _) rfl ?_
      exact Frame.refl _
    · refine Frame.ite (fun _ => ?_) (fun _ => ?_)
      · refine Frame.comp (State.emit_frame _ _) rfl ?_
        refine Frame.comp (State.advanceTo_frame _ _) rfl ?_
        exact Frame.refl _
      · refine Frame.comp (State.emit_frame _ _) rfl ?_
        refine Frame.comp (State.advanceTo_frame _ _) rfl ?_
        exact Frame.refl _

theorem State.startRecorder_frame (a0 : State) : Frame 134217736 a0 (State.startRecorder a0) := by
  unfold State.startRecorder
  try extract_lets
  refine Frame.set_rcdr rfl (fun i => absurd i (by decide)) ?_
  exact Frame.refl _

theorem State.refuseModule_frame (a0 : _) (a1 : _) (a2 : State) : Frame 67614 a2 (State.refuseModule a0 a1 a2) := by
  unfold State.refuseModule
  refine Frame.comp (State.record_frame _ _ _) rfl ?_
  refine Frame.comp (State.updPort_frame _ _ _) rfl ?_
  exact Frame.refl _

theorem execModulePresent_frame (a0 : _) (a1 : _) (a2 : _) (a3 : _) (a4 : _) (a5 : _) (a6 : _) (a7 : State) : Frame.Out 67615 a7 (execModulePresent a0 a1 a2 a3 a4 a5 a6 a7) := by
  unfold execModulePresent
  try extract_lets
  refine Frame.next ?_
  refine Frame.ite (fun _ => ?_) (fun _ => ?_)
  · refine Frame.comp (State.advanceTo_frame _ _) rfl ?_
    exact Frame.refl _
  · try extract_lets
    first | split | (dsimp +zetaDelta -proj only; split)
    · refine Frame.comp (State.refuseModule_frame _ _ _) rfl ?_
      refine Frame.comp (State.updPort_frame _ _ _) rfl ?_
      refine Frame.comp (State.advanceTo_frame _ _) rfl ?_
      exact Frame.refl _
    · try extract_lets
      refine Frame.comp (State.updPort_frame _ _ _) rfl ?_
      refine Frame.comp (State.updPort_frame _ _ _) rfl ?_
      refine Frame.comp (State.advanceTo_frame _ _) rfl ?_
      exact Frame.refl _

theorem execWatchdogKick_frame (a0 : _) (a1 : _) (a2 : _) (a3 : State) : Frame.Out 67108871 a3 (execWatchdogKick a0 a1 a2 a3) := by
  unfold execWatchdogKick
  refine Frame.next ?_
  refine Frame.comp (State.writeWdog_frame _ _ _) rfl ?_
  refine Frame.comp (State.advanceTo_frame _ _) rfl ?_
  exact Frame.refl _

theorem execChannelTrainingDone_frame (a0 : _) (a1 : _) (a2 : _) (a3 : State) : Frame.Out 3705990889471 a3 (execChannelTrainingDone a0 a1 a2 a3) := by
  unfold execChannelTrainingDone
  try extract_lets
  first | split | (dsimp +zetaDelta -proj only; split)
  · try extract_lets
    refine Frame.next ?_
    refine Frame.ite (fun _ => ?_) (fun _ => ?_)
    · refine Frame.comp (State.advanceTo_frame _ _) rfl ?_
      exact Frame.refl _
    · refine Frame.ite (fun _ => ?_) (fun _ => ?_)
      · beta_reduce
        refine Frame.set_flash rfl ?_
        refine Frame.comp (State.advanceTo_frame _ _) rfl ?_
        exact Frame.refl _
      · refine Frame.ite (fun _ => ?_) (fun _ => ?_)
        · beta_reduce
          refine Frame.set_flash rfl ?_
          refine Frame.comp (State.advanceTo_frame _ _) rfl ?_
          exact Frame.refl _
        · try extract_lets
          try extract_lets
          refine Frame.ite (fun _ => ?_) (fun _ => ?_)
          · refine Frame.comp (State.retire_frame _ _) rfl ?_
            refine Frame.comp (State.fault_frame _ _ _ _ _) rfl ?_
            refine Frame.comp (State.count_frame _ _) rfl ?_
            refine Frame.comp (State.raise_frame _ _ _) rfl ?_
            beta_reduce
            refine Frame.set_flash rfl ?_
            refine Frame.comp (State.advanceTo_frame _ _) rfl ?_
            exact Frame.refl _
          · refine Frame.comp (State.fault_frame _ _ _ _ _) rfl ?_
            refine Frame.comp (State.count_frame _ _) rfl ?_
            refine Frame.comp (State.raise_frame _ _ _) rfl ?_
            beta_reduce
            refine Frame.set_flash rfl ?_
            refine Frame.comp (State.advanceTo_frame _ _) rfl ?_
            exact Frame.refl _

theorem State.endReshape_frame (a0 : State) : Frame 138741790 a0 (State.endReshape a0) := by
  unfold State.endReshape
  first | split | (dsimp +zetaDelta -proj only; split)
  · exact Frame.refl _
  · try extract_lets
    try extract_lets
    try extract_lets
    try extract_lets
    refine Frame.comp (State.record_frame _ _ _) rfl ?_
    refine Frame.comp (State.raise_frame _ _ _) rfl ?_
    refine Frame.comp (State.memberChanged_frame _) rfl ?_
    refine Frame.foldl (fun _ _ _ => ?_) ?_
    · refine Frame.comp (State.updPort_frame _ _ _) rfl ?_
      assumption
    · refine Frame.set_strp rfl ?_
      refine Frame.comp (State.boundaryRecord_frame _ _) rfl ?_
      exact Frame.refl _

theorem State.bookFloorStrip_frame (a0 : _) (a1 : _) (a2 : _) (a3 : State) : Frame 64 a3 (State.bookFloorStrip a0 a1 a2 a3) := by
  unfold State.bookFloorStrip
  try extract_lets
  try extract_lets
  refine Frame.set_adm rfl (fun _ => rfl) (fun _ => rfl) (fun _ => rfl) ?_
  exact Frame.refl _

theorem State.bookReshapeFloor_frame (a0 : _) (a1 : State) : Frame 64 a1 (State.bookReshapeFloor a0 a1) := by
  unfold State.bookReshapeFloor
  first | split | (dsimp +zetaDelta -proj only; split)
  · refine Frame.ite (fun _ => ?_) (fun _ => ?_)
    · exact Frame.refl _
    · first | split | (dsimp +zetaDelta -proj only; split)
      · refine Frame.foldl (fun _ _ _ => ?_) ?_
        · refine Frame.comp (State.bookFloorStrip_frame _ _ _ _) rfl ?_
          assumption
        · exact Frame.refl _
      · exact Frame.refl _
  · exact Frame.refl _

theorem execRebuildFloorBooking_frame (a0 : _) (a1 : State) : Frame.Out 68703 a1 (execRebuildFloorBooking a0 a1) := by
  unfold execRebuildFloorBooking
  try extract_lets
  try extract_lets
  refine Frame.next ?_
  refine Frame.ite (fun _ => ?_) (fun _ => ?_)
  · refine Frame.comp (State.advanceTo_frame _ _) rfl ?_
    exact Frame.refl _
  · try extract_lets
    try extract_lets
    try extract_lets
    try extract_lets
    refine Frame.comp (State.bookNextStrip_frame _ _) rfl ?_
    refine Frame.comp (State.suspendErases_frame _ _) rfl ?_
    refine Frame.comp (State.bookReshapeFloor_frame _ _) rfl ?_
    refine Frame.foldl (fun _ _ _ => ?_) ?_
    · first | split | (dsimp +zetaDelta -proj only; split)
      · refine Frame.comp (State.bookFloorStrip_frame _ _ _ _) rfl ?_
        assumption
      · assumption
    · refine Frame.set_adm rfl (fun _ => rfl) (fun _ => rfl) (fun _ => rfl) ?_
      refine Frame.comp (State.settleRebuild_frame _) rfl ?_
      refine Frame.comp (State.advanceTo_frame _ _) rfl ?_
      exact Frame.refl _

theorem execModeReqPreservation_frame (a0 : _) (a1 : _) (a2 : _) (a3 : State) : Frame.Out 1781711352831 a3 (execModeReqPreservation a0 a1 a2 a3) := by
  unfold execModeReqPreservation
  refine Frame.next ?_
  refine Frame.comp (State.writeModeReq_frame _ _ _) rfl ?_
  refine Frame.comp (State.advanceTo_frame _ _) rfl ?_
  exact Frame.refl _

theorem execRebindDelete_frame (a0 : _) (a1 : _) (a2 : _) (a3 : State) : Frame.Out 1888716288991 a3 (execRebindDelete a0 a1 a2 a3) := by
  unfold execRebindDelete
  refine Frame.next ?_
  refine Frame.comp (State.c0h_frame _ _ _) rfl ?_
  refine Frame.comp (State.advanceTo_frame _ _) rfl ?_
  exact Frame.refl _

theorem execLdgSuspend_frame (a0 : _) (a1 : _) (a2 : State) : Frame.Out 4522015 a2 (execLdgSuspend a0 a1 a2) := by
  unfold execLdgSuspend
  try extract_lets
  refine Frame.next ?_
  refine Frame.ite (fun _ => ?_) (fun _ => ?_)
  · refine Frame.comp (State.advanceTo_frame _ _) rfl ?_
    exact Frame.refl _
  · refine Frame.comp (State.suspendCall_frame _ _ _) rfl ?_
    refine Frame.comp (State.advanceTo_frame _ _) rfl ?_
    exact Frame.refl _

theorem State.bootModules_frame (a0 : State) : Frame 3431112982495 a0 (State.bootModules a0) := by
  unfold State.bootModules
  refine Frame.comp (State.resumeReshape_frame _) rfl ?_
  refine Frame.foldl (fun _ _ _ => ?_) ?_
  · refine Frame.ite (fun _ => ?_) (fun _ => ?_)
    · assumption
    · refine Frame.comp (State.memberFail_frame _ _ _) rfl ?_
      assumption
  · exact Frame.refl _

theorem execPairCommitRequest_frame (a0 : _) (a1 : _) (a2 : _) (a3 : State) : Frame.Out 1332518024159 a3 (execPairCommitRequest a0 a1 a2 a3) := by
  unfold execPairCommitRequest
  try extract_lets
  refine Frame.next ?_
  refine Frame.ite (fun _ => ?_) (fun _ => ?_)
  · refine Frame.comp (State.applyReturned_frame _ _) rfl ?_
    refine Frame.comp (State.advanceTo_frame _ _) rfl ?_
    exact Frame.refl _
  · refine Frame.ite (fun _ => ?_) (fun _ => ?_)
    · refine Frame.comp (State.advanceTo_frame _ _) rfl ?_
      exact Frame.refl _
    · refine Frame.ite (fun _ => ?_) (fun _ => ?_)
      · refine Frame.comp (State.applyChange_frame _ _ _ _ _ _) rfl ?_
        refine Frame.comp (State.advanceTo_frame _ _) rfl ?_
        exact Frame.refl _
      · try extract_lets
        refine Frame.comp (State.emit_frame _ _) rfl ?_
        refine Frame.ite (fun _ => ?_) (fun _ => ?_)
        · refine Frame.comp (State.applyChange_frame _ _ _ _ _ _) rfl ?_
          refine Frame.comp (State.advanceTo_frame _ _) rfl ?_
          exact Frame.refl _
        · refine Frame.comp (State.advanceTo_frame _ _) rfl ?_
          exact Frame.refl _

theorem execSendSetNow_frame (a0 : _) (a1 : _) (a2 : _) (a3 : State) : Frame.Out 1888724677599 a3 (execSendSetNow a0 a1 a2 a3) := by
  unfold execSendSetNow
  refine Frame.next ?_
  refine Frame.comp (State.c2h_frame _ _ _ _ _ _ _) rfl ?_
  refine Frame.comp (State.advanceTo_frame _ _) rfl ?_
  exact Frame.refl _

theorem execPoolOinfoRead_frame (a0 : _) (a1 : _) (a2 : State) : Frame.Out 4295098373 a2 (execPoolOinfoRead a0 a1 a2) := by
  unfold execPoolOinfoRead
  refine Frame.next ?_
  refine Frame.comp (State.readReg_frame _ _ _) rfl ?_
  refine Frame.comp (State.advanceTo_frame _ _) rfl ?_
  exact Frame.refl _

theorem State.endReclaim_frame (a0 : _) (a1 : State) : Frame 1073808030 a1 (State.endReclaim a0 a1) := by
  unfold State.endReclaim
  try extract_lets
  try extract_lets
  try extract_lets
  try extract_lets
  refine Frame.comp (State.record_frame _ _ _) rfl ?_
  refine Frame.set_nvq rfl (fun i => absurd i (by decide)) (fun _ => rfl) ?_
  refine Frame.comp (State.releaseRefs_frame _ _) rfl ?_
  exact Frame.refl _

theorem execModuleRelease_frame (a0 : _) (a1 : _) (a2 : _) (a3 : State) : Frame.Out 138742815 a3 (execModuleRelease a0 a1 a2 a3) := by
  unfold execModuleRelease
  refine Frame.next ?_
  refine Frame.comp (State.writeModcmd_frame _ _ _) rfl ?_
  refine Frame.comp (State.advanceTo_frame _ _) rfl ?_
  exact Frame.refl _

theorem State.notePassed_frame (a0 : _) (a1 : _) (a2 : State) : Frame 67108866 a2 (State.notePassed a0 a1 a2) := by
  unfold State.notePassed
  refine Frame.set_md rfl (fun _ => rfl) (fun i => absurd i (by decide)) ?_
  exact Frame.refl _

theorem State.dataArrived_frame (a0 : _) (a1 : _) (a2 : _) (a3 : State) : Frame 1229438662654 a3 (State.dataArrived a0 a1 a2 a3) := by
  unfold State.dataArrived
  try extract_lets
  refine Frame.ite (fun _ => ?_) (fun _ => ?_)
  · exact Frame.refl _
  · try extract_lets
    refine Frame.ite (fun _ => ?_) (fun _ => ?_)
    · refine Frame.foldl (fun _ _ _ => ?_) ?_
      · refine Frame.comp (State.stage1_frame _ _ _ _ _) rfl ?_
        assumption
      · exact Frame.refl _
    · refine Frame.ite (fun _ => ?_) (fun _ => ?_)
      · refine Frame.comp (State.endWrite_frame _ _ _ _ _) rfl ?_
        exact Frame.refl _
      · refine Frame.comp (State.accept_frame _ _ _ _) rfl ?_
        refine Frame.comp (State.pullOverrun_frame _ _) rfl ?_
        exact Frame.refl _

theorem execLinkTrainingStart_frame (a0 : _) (a1 : _) (a2 : State) : Frame.Out 33 a2 (execLinkTrainingStart a0 a1 a2) := by
  unfold execLinkTrainingStart
  try extract_lets
  refine Frame.next ?_
  refine Frame.ite (fun _ => ?_) (fun _ => ?_)
  · refine Frame.comp (State.setLane_frame _ _ _) rfl ?_
    refine Frame.comp (State.advanceTo_frame _ _) rfl ?_
    exact Frame.refl _
  · refine Frame.comp (State.advanceTo_frame _ _) rfl ?_
    exact Frame.refl _

theorem State.tallyStage_frame (a0 : State) : Frame 276922384 a0 (State.tallyStage a0) := by
  unfold State.tallyStage
  try extract_lets
  try extract_lets
  try extract_lets
  refine Frame.comp (State.assertLine_frame _ _) rfl ?_
  refine Frame.set_tally rfl (fun i => absurd i (by decide)) ?_
  refine Frame.comp (State.memWrite_frame _ _ _) rfl ?_
  refine Frame.comp (State.spendFree_frame _) rfl ?_
  refine Frame.comp (State.spendFree_frame _) rfl ?_
  exact Frame.refl _

theorem State.armIn_frame (a0 : _) (a1 : _) (a2 : State) : Frame 25916682462 a2 (State.armIn a0 a1 a2) := by
  unfold State.armIn
  refine Frame.comp (State.completeAdmin_frame _ _ _ _ _ _) rfl ?_
  refine Frame.comp (State.armClear_frame _ _) rfl ?_
  exact Frame.refl _

theorem State.postHit_frame (a0 : _) (a1 : _) (a2 : _) (a3 : _) (a4 : State) : Frame 6667940996894 a4 (State.postHit a0 a1 a2 a3 a4) := by
  unfold State.postHit
  try extract_lets
  try extract_lets
  try extract_lets
  first | split | (dsimp +zetaDelta -proj only; split)
  · try extract_lets
    try extract_lets
    try extract_lets
    refine Frame.ite (fun _ => ?_) (fun _ => ?_)
    · refine Frame.comp (State.emit_frame _ _) rfl ?_
      refine Frame.comp (State.markDirty_frame _ _ _) rfl ?_
      refine Frame.comp (State.mapTouched_frame _) rfl ?_
      refine Frame.comp (State.promote_frame _ _ _) rfl ?_
      refine Frame.set_path rfl (fun i => absurd i (by decide)) (fun i => absurd i (by decide)) (fun i => absurd i (by decide)) ?_
      refine Frame.comp (State.count_frame _ _) rfl ?_
      refine Frame.comp (State.addRef_frame _ _) rfl ?_
      refine Frame.fst ?_ (by assumption)
      refine Frame.comp (State.appendRecord_frame _ _ _ _ _) rfl ?_
      refine Frame.set_path rfl (fun i => absurd i (by decide)) (fun i => absurd i (by decide)) (fun i => absurd i (by decide)) ?_
      exact Frame.refl _
    · refine Frame.comp (State.markDirty_frame _ _ _) rfl ?_
      refine Frame.comp (State.mapTouched_frame _) rfl ?_
      refine Frame.comp (State.promote_frame _ _ _) rfl ?_
      refine Frame.set_path rfl (fun i => absurd i (by decide)) (fun i => absurd i (by decide)) (fun i => absurd i (by decide)) ?_
      refine Frame.comp (State.count_frame _ _) rfl ?_
      refine Frame.comp (State.addRef_frame _ _) rfl ?_
      refine Frame.fst ?_ (by assumption)
      refine Frame.comp (State.appendRecord_frame _ _ _ _ _) rfl ?_
      refine Frame.set_path rfl (fun i => absurd i (by decide)) (fun i => absurd i (by decide)) (fun i => absurd i (by decide)) ?_
      exact Frame.refl _

theorem State.setLevels_frame (a0 : _) (a1 : _) (a2 : State) : Frame 1024 a2 (State.setLevels a0 a1 a2) := by
  unfold State.setLevels
  refine Frame.foldl (fun _ _ _ => ?_) ?_
  · refine Frame.set_flash rfl ?_
    assumption
  · exact Frame.refl _

theorem execRecorderClearArm_frame (a0 : _) (a1 : _) (a2 : _) (a3 : State) : Frame.Out 25916682463 a3 (execRecorderClearArm a0 a1 a2 a3) := by
  unfold execRecorderClearArm
  refine Frame.next ?_
  refine State.admin_frame ?_ rfl ?_
  · intro _ _
    refine Frame.comp (State.armIn_frame _ _ _) rfl ?_
    assumption
  · refine Frame.comp (State.advanceTo_frame _ _) rfl ?_
    exact Frame.refl _

theorem execCompare_frame (a0 : _) (a1 : _) (a2 : _) (a3 : _) (a4 : _) (a5 : State) : Frame.Out 1781711075327 a5 (execCompare a0 a1 a2 a3 a4 a5) := by
  unfold execCompare
  refine Frame.next ?_
  refine Frame.comp (State.fetchIo_frame _ _ _ _ _ _) rfl ?_
  refine Frame.comp (State.advanceTo_frame _ _) rfl ?_
  exact Frame.refl _

theorem execEraseResume_frame (a0 : _) (a1 : _) (a2 : State) : Frame.Out 1025 a2 (execEraseResume a0 a1 a2) := by
  unfold execEraseResume
  try extract_lets
  try extract_lets
  refine Frame.next ?_
  refine Frame.ite (fun _ => ?_) (fun _ => ?_)
  · refine Frame.comp (State.advanceTo_frame _ _) rfl ?_
    exact Frame.refl _
  · refine Frame.set_flash rfl ?_
    refine Frame.comp (State.advanceTo_frame _ _) rfl ?_
    exact Frame.refl _

theorem State.restoreLevels_frame (a0 : _) (a1 : _) (a2 : State) : Frame 1024 a2 (State.restoreLevels a0 a1 a2) := by
  unfold State.restoreLevels
  refine Frame.ite (fun _ => ?_) (fun _ => ?_)
  · exact Frame.refl _
  · refine Frame.set_flash rfl ?_
    exact Frame.refl _

theorem execReadRetryStep_frame (a0 : _) (a1 : _) (a2 : _) (a3 : _) (a4 : State) : Frame.Out 1231955261439 a4 (execReadRetryStep a0 a1 a2 a3 a4) := by
  unfold execReadRetryStep
  try extract_lets
  refine Frame.next ?_
  first | split | (dsimp +zetaDelta -proj only; split)
  · refine Frame.comp (State.advanceTo_frame _ _) rfl ?_
    exact Frame.refl _
  · refine Frame.ite (fun _ => ?_) (fun _ => ?_)
    · refine Frame.comp (State.advanceTo_frame _ _) rfl ?_
      exact Frame.refl _
    · refine Frame.comp (State.restoreLevels_frame _ _ _) rfl ?_
      refine Frame.comp (State.decoded_frame _ _ _ _) rfl ?_
      refine Frame.comp (State.setLevels_frame _ _ _) rfl ?_
      refine Frame.comp (State.advanceTo_frame _ _) rfl ?_
      exact Frame.refl _

theorem execLockTake_frame (a0 : _) (a1 : _) (a2 : _) (a3 : State) : Frame.Out 4295098373 a3 (execLockTake a0 a1 a2 a3) := by
  unfold execLockTake
  refine Frame.next ?_
  refine Frame.comp (State.writeLock_frame _ _ _) rfl ?_
  refine Frame.comp (State.advanceTo_frame _ _) rfl ?_
  exact Frame.refl _

theorem execDatagramDiscard_frame (a0 : _) (a1 : _) (a2 : _) (a3 : _) (a4 : State) : Frame.Out 17 a4 (execDatagramDiscard a0 a1 a2 a3 a4) := by
  unfold execDatagramDiscard
  try extract_lets
  refine Frame.next ?_
  refine Frame.ite (fun _ => ?_) (fun _ => ?_)
  · refine Frame.comp (State.advanceTo_frame _ _) rfl ?_
    exact Frame.refl _
  · refine Frame.comp (State.count_frame _ _) rfl ?_
    refine Frame.comp (State.advanceTo_frame _ _) rfl ?_
    exact Frame.refl _

theorem execSetLimit_frame (a0 : _) (a1 : _) (a2 : _) (a3 : State) : Frame.Out 1888716288991 a3 (execSetLimit a0 a1 a2 a3) := by
  unfold execSetLimit
  refine Frame.next ?_
  refine Frame.comp (State.writeKcmd_frame _ _ _) rfl ?_
  refine Frame.comp (State.advanceTo_frame _ _) rfl ?_
  exact Frame.refl _

theorem execReservationQuery_frame (a0 : _) (a1 : _) (a2 : _) (a3 : State) : Frame.Out 1888716288991 a3 (execReservationQuery a0 a1 a2 a3) := by
  unfold execReservationQuery
  refine Frame.next ?_
  refine Frame.comp (State.c0h_frame _ _ _) rfl ?_
  refine Frame.comp (State.advanceTo_frame _ _) rfl ?_
  exact Frame.refl _

theorem execSlackExitDone_frame (a0 : _) (a1 : State) : Frame.Out 2520850591 a1 (execSlackExitDone a0 a1) := by
  unfold execSlackExitDone
  try extract_lets
  refine Frame.next ?_
  refine Frame.ite (fun _ => ?_) (fun _ => ?_)
  · refine Frame.comp (State.enterJoin_frame _ _) rfl ?_
    refine Frame.set_md rfl (fun i => absurd i (by decide)) (fun i => absurd i (by decide)) ?_
    refine Frame.comp (State.advanceTo_frame _ _) rfl ?_
    exact Frame.refl _
  · refine Frame.comp (State.advanceTo_frame _ _) rfl ?_
    exact Frame.refl _

theorem State.recordAllKept_frame (a0 : State) : Frame 65566 a0 (State.recordAllKept a0) := by
  unfold State.recordAllKept
  refine Frame.foldl (fun _ _ _ => ?_) ?_
  · refine Frame.comp (State.recordKept_frame _ _) rfl ?_
    assumption
  · refine Frame.set_md rfl (fun _ => rfl) (fun _ => rfl) ?_
    exact Frame.refl _

theorem State.leaveReset_frame (a0 : State) : Frame 503382047 a0 (State.leaveReset a0) := by
  unfold State.leaveReset
  try extract_lets
  try extract_lets
  refine Frame.ite (fun _ => ?_) (fun _ => ?_)
  · refine Frame.comp (State.recordAllKept_frame _) rfl ?_
    refine Frame.comp (State.changeMode_frame _ _ _) rfl ?_
    refine Frame.comp (State.startRecorder_frame _) rfl ?_
    exact Frame.refl _
  · try extract_lets
    refine Frame.comp (State.recordAllKept_frame _) rfl ?_
    refine Frame.set_md rfl (fun i => absurd i (by decide)) (fun i => absurd i (by decide)) ?_
    refine Frame.comp (State.record_frame _ _ _) rfl ?_
    refine Frame.comp (State.changeMode_frame _ _ _) rfl ?_
    refine Frame.comp (State.startRecorder_frame _) rfl ?_
    exact Frame.refl _

theorem execRefclk100Restored_frame (a0 : _) (a1 : State) : Frame.Out 503382047 a1 (execRefclk100Restored a0 a1) := by
  unfold execRefclk100Restored
  try extract_lets
  refine Frame.next ?_
  refine Frame.ite (fun _ => ?_) (fun _ => ?_)
  · refine Frame.comp (State.advanceTo_frame _ _) rfl ?_
    exact Frame.refl _
  · try extract_lets
    refine Frame.ite (fun _ => ?_) (fun _ => ?_)
    · refine Frame.comp (State.leaveReset_frame _) rfl ?_
      refine Frame.set_time_md rfl rfl (fun i => absurd i (by decide)) (fun i => absurd i (by decide)) ?_ ?_
      · first | exact Nat.le_refl _ | exact Nat.le_add_right _ _ | (dsimp only; split <;> exact Nat.le_refl _)
      refine Frame.comp (State.advanceTo_frame _ _) rfl ?_
      exact Frame.refl _
    · refine Frame.set_time_md rfl rfl (fun i => absurd i (by decide)) (fun i => absurd i (by decide)) ?_ ?_
      · first | exact Nat.le_refl _ | exact Nat.le_add_right _ _ | (dsimp only; split <;> exact Nat.le_refl _)
      refine Frame.comp (State.advanceTo_frame _ _) rfl ?_
      exact Frame.refl _

theorem execRekey_frame (a0 : _) (a1 : _) (a2 : State) : Frame.Out 1919049528287 a2 (execRekey a0 a1 a2) := by
  unfold execRekey
  refine Frame.next ?_
  refine Frame.comp (State.arriveSeq_frame _ _) rfl ?_
  refine Frame.comp (State.advanceTo_frame _ _) rfl ?_
  exact Frame.refl _

theorem execSpiHeaderRejected_frame (a0 : _) (a1 : _) (a2 : _) (a3 : _) (a4 : _) (a5 : State) : Frame.Out 4718597 a5 (execSpiHeaderRejected a0 a1 a2 a3 a4 a5) := by
  unfold execSpiHeaderRejected
  try extract_lets
  refine Frame.next ?_
  refine Frame.ite (fun _ => ?_) (fun _ => ?_)
  · refine Frame.ite (fun _ => ?_) (fun _ => ?_)
    · refine Frame.comp (State.advanceTo_frame _ _) rfl ?_
      exact Frame.refl _
    · refine Frame.comp (State.emit_frame _ _) rfl ?_
      refine Frame.comp (State.advanceTo_frame _ _) rfl ?_
      exact Frame.refl _
  · refine Frame.ite (fun _ => ?_) (fun _ => ?_)
    · refine Frame.comp (State.spiErr_frame _ _) rfl ?_
      refine Frame.comp (State.advanceTo_frame _ _) rfl ?_
      exact Frame.refl _
    · refine Frame.ite (fun _ => ?_) (fun _ => ?_)
      · refine Frame.comp (State.advanceTo_frame _ _) rfl ?_
        exact Frame.refl _
      · refine Frame.comp (State.emit_frame _ _) rfl ?_
        refine Frame.comp (State.spiErr_frame _ _) rfl ?_
        refine Frame.comp (State.advanceTo_frame _ _) rfl ?_
        exact Frame.refl _

theorem execPostProcessGrain_frame (a0 : _) (a1 : _) (a2 : _) (a3 : _) (a4 : State) : Frame.Out 8104037400575 a4 (execPostProcessGrain a0 a1 a2 a3 a4) := by
  unfold execPostProcessGrain
  try extract_lets
  refine Frame.next ?_
  first | split | (dsimp +zetaDelta -proj only; split)
  · refine Frame.comp (State.advanceTo_frame _ _) rfl ?_
    exact Frame.refl _
  · refine Frame.ite (fun _ => ?_) (fun _ => ?_)
    · refine Frame.comp (State.advanceTo_frame _ _) rfl ?_
      exact Frame.refl _
    · refine Frame.ite (fun _ => ?_) (fun _ => ?_)
      · try extract_lets
        refine Frame.comp (State.fault_frame _ _ _ _ _) rfl ?_
        refine Frame.comp (State.count_frame _ _) rfl ?_
        refine Frame.comp (State.raise_frame _ _ _) rfl ?_
        refine Frame.comp (State.useIsland_frame _ _ _) rfl ?_
        refine Frame.set_ddup rfl ?_
        refine Frame.comp (State.advanceTo_frame _ _) rfl ?_
        exact Frame.refl _
      · try extract_lets
        first | split | (dsimp +zetaDelta -proj only; split)
        · refine Frame.comp (State.count_frame _ _) rfl ?_
          refine Frame.comp (State.useIsland_frame _ _ _) rfl ?_
          refine Frame.set_ddup rfl ?_
          refine Frame.comp (State.advanceTo_frame _ _) rfl ?_
          exact Frame.refl _
        · first | split | (dsimp +zetaDelta -proj only; split)
          · refine Frame.ite (fun _ => ?_) (fun _ => ?_)
            · refine Frame.comp (State.postHit_frame _ _ _ _ _) rfl ?_
              refine Frame.comp (State.cachePut_frame _ _) rfl ?_
              refine Frame.comp (State.count_frame _ _) rfl ?_
              refine Frame.comp (State.useIsland_frame _ _ _) rfl ?_
              refine Frame.set_ddup rfl ?_
              refine Frame.comp (State.advanceTo_frame _ _) rfl ?_
              exact Frame.refl _
            · refine Frame.comp (State.count_frame _ _) rfl ?_
              refine Frame.comp (State.useIsland_frame _ _ _) rfl ?_
              refine Frame.set_ddup rfl ?_
              refine Frame.comp (State.advanceTo_frame _ _) rfl ?_
              exact Frame.refl _
          · refine Frame.comp (State.dedupInsert_frame _ _ _ _ _ _ _) rfl ?_
            refine Frame.comp (State.count_frame _ _) rfl ?_
            refine Frame.comp (State.useIsland_frame _ _ _) rfl ?_
            refine Frame.set_ddup rfl ?_
            refine Frame.comp (State.advanceTo_frame _ _) rfl ?_
            exact Frame.refl _

theorem execPowerFail_frame (a0 : _) (a1 : State) : Frame.Out 2521112639 a1 (execPowerFail a0 a1) := by
  unfold execPowerFail
  try extract_lets
  refine Frame.next ?_
  refine Frame.ite (fun _ => ?_) (fun _ => ?_)
  · refine Frame.comp (State.advanceTo_frame _ _) rfl ?_
    exact Frame.refl _
  · refine Frame.comp (State.enterHoldup_frame _ _) rfl ?_
    refine Frame.set_md rfl (fun i => absurd i (by decide)) (fun i => absurd i (by decide)) ?_
    refine Frame.comp (State.advanceTo_frame _ _) rfl ?_
    exact Frame.refl _

theorem State.startErase_frame (a0 : _) (a1 : State) : Frame 3705990889471 a1 (State.startErase a0 a1) := by
  unfold State.startErase
  first | split | (dsimp +zetaDelta -proj only; split)
  · exact Frame.refl _
  · refine Frame.foldl (fun _ _ _ => ?_) ?_
    · refine Frame.ite (fun _ => ?_) (fun _ => ?_)
      · refine Frame.comp (State.retire_frame _ _) rfl ?_
        assumption
      · try extract_lets
        refine Frame.set_flash rfl ?_
        assumption
    · exact Frame.refl _

theorem State.startErases_frame (a0 : State) : Frame 8104037400575 a0 (State.startErases a0) := by
  unfold State.startErases
  refine Frame.foldl (fun _ _ _ => ?_) ?_
  · refine Frame.comp (State.dropBand_frame _ _) rfl ?_
    refine Frame.comp (State.startErase_frame _ _) rfl ?_
    assumption
  · exact Frame.refl _

theorem execIdmSinfoRead_frame (a0 : _) (a1 : _) (a2 : State) : Frame.Out 4295098373 a2 (execIdmSinfoRead a0 a1 a2) := by
  unfold execIdmSinfoRead
  refine Frame.next ?_
  refine Frame.comp (State.readReg_frame _ _ _) rfl ?_
  refine Frame.comp (State.advanceTo_frame _ _) rfl ?_
  exact Frame.refl _

theorem execClose_frame (a0 : _) (a1 : _) (a2 : State) : Frame.Out 1919049528287 a2 (execClose a0 a1 a2) := by
  unfold execClose
  refine Frame.next ?_
  refine Frame.comp (State.arriveSeq_frame _ _) rfl ?_
  refine Frame.comp (State.advanceTo_frame _ _) rfl ?_
  exact Frame.refl _

theorem execWorkEntryPost_frame (a0 : _) (a1 : _) (a2 : _) (a3 : State) : Frame.Out 549760077855 a3 (execWorkEntryPost a0 a1 a2 a3) := by
  unfold execWorkEntryPost
  try extract_lets
  refine Frame.next ?_
  refine Frame.ite (fun _ => ?_) (fun _ => ?_)
  · refine Frame.comp (State.advanceTo_frame _ _) rfl ?_
    exact Frame.refl _
  · try extract_lets
    refine Frame.comp (State.chains_frame _) rfl ?_
    refine Frame.comp (State.updQueue_frame _ _ _) rfl ?_
    refine Frame.comp (State.advanceTo_frame _ _) rfl ?_
    exact Frame.refl _

theorem execDescriptorFetch_frame (a0 : _) (a1 : _) (a2 : State) : Frame.Out 675643423 a2 (execDescriptorFetch a0 a1 a2) := by
  unfold execDescriptorFetch
  try extract_lets
  refine Frame.next ?_
  refine Frame.ite (fun _ => ?_) (fun _ => ?_)
  · refine Frame.comp (State.fetchDesc_frame _ _) rfl ?_
    refine Frame.comp (State.advanceTo_frame _ _) rfl ?_
    exact Frame.refl _
  · refine Frame.comp (State.advanceTo_frame _ _) rfl ?_
    exact Frame.refl _

theorem State.spoilLines_frame (a0 : _) (a1 : State) : Frame 262144 a1 (State.spoilLines a0 a1) := by
  unfold State.spoilLines
  refine Frame.set_ldg rfl ?_ ?_
  · exact id
  exact Frame.refl _

theorem State.endTest_frame (a0 : _) (a1 : _) (a2 : State) : Frame 1073807518 a2 (State.endTest a0 a1 a2) := by
  unfold State.endTest
  refine Frame.ite (fun _ => ?_) (fun _ => ?_)
  · exact Frame.refl _
  · refine Frame.comp (State.record_frame _ _ _) rfl ?_
    refine Frame.set_nvq rfl (fun i => absurd i (by decide)) (fun _ => rfl) ?_
    exact Frame.refl _

theorem execSelfTestAbort_frame (a0 : _) (a1 : _) (a2 : _) (a3 : State) : Frame.Out 26847817951 a3 (execSelfTestAbort a0 a1 a2 a3) := by
  unfold execSelfTestAbort
  refine Frame.next ?_
  refine State.admin_frame ?_ rfl ?_
  · intro _ _
    refine Frame.ite (fun _ => ?_) (fun _ => ?_)
    · refine Frame.comp (State.invalidField_frame _ _ _) rfl ?_
      assumption
    · refine Frame.comp (State.completeAdmin_frame _ _ _ _ _ _) rfl ?_
      refine Frame.comp (State.endTest_frame _ _ _) rfl ?_
      assumption
  · refine Frame.comp (State.advanceTo_frame _ _) rfl ?_
    exact Frame.refl _

theorem execBusError_frame (a0 : _) (a1 : _) (a2 : _) (a3 : _) (a4 : _) (a5 : State) : Frame.Out 536936479 a5 (execBusError a0 a1 a2 a3 a4 a5) := by
  unfold execBusError
  try extract_lets
  refine Frame.next ?_
  refine Frame.ite (fun _ => ?_) (fun _ => ?_)
  · refine Frame.comp (State.busFault_frame _ _ _ _ _) rfl ?_
    refine Frame.comp (State.advanceTo_frame _ _) rfl ?_
    exact Frame.refl _
  · refine Frame.ite (fun _ => ?_) (fun _ => ?_)
    · refine Frame.comp (State.latchFault_frame _ _ _ _ _) rfl ?_
      refine Frame.comp (State.advanceTo_frame _ _) rfl ?_
      exact Frame.refl _
    · refine Frame.comp (State.advanceTo_frame _ _) rfl ?_
      exact Frame.refl _

theorem State.abort_frame (cntl : Nat) (e : Sqe) (s : State) : Frame 26847818206 s (State.abort cntl e s) := by
  unfold State.abort
  split
  · exact Frame.refl _
  · extract_lets _ s1
    have h1 : Frame 26847818206 s s1 := Frame.comp (State.updCtrl_frame _ _ _) rfl (Frame.refl s)
    refine Frame.ite (fun _ => Frame.comp (State.completeAdmin_frame _ _ _ _ _ _) rfl (Frame.refl _)) (fun _ => ?_)
    split
    · rename_i h
      exact Frame.comp (State.completeAdmin_frame _ _ _ _ _ _) rfl (Frame.comp (State.caught_frame _ _ _ _ _ h) rfl h1)
    · exact Frame.comp (State.completeAdmin_frame _ _ _ _ _ _) rfl h1

theorem execIdmReadReq_frame (a0 : _) (a1 : _) (a2 : State) : Frame.Out 1919049528287 a2 (execIdmReadReq a0 a1 a2) := by
  unfold execIdmReadReq
  refine Frame.next ?_
  refine Frame.comp (State.arriveSeq_frame _ _) rfl ?_
  refine Frame.comp (State.advanceTo_frame _ _) rfl ?_
  exact Frame.refl _

theorem execNvmRead_frame (a0 : _) (a1 : _) (a2 : _) (a3 : _) (a4 : State) : Frame.Out 1781711075327 a4 (execNvmRead a0 a1 a2 a3 a4) := by
  unfold execNvmRead
  refine Frame.next ?_
  refine Frame.comp (State.fetchIo_frame _ _ _ _ _ _) rfl ?_
  refine Frame.comp (State.advanceTo_frame _ _) rfl ?_
  exact Frame.refl _

theorem execWriteZeroes_frame (a0 : _) (a1 : _) (a2 : _) (a3 : _) (a4 : State) : Frame.Out 1781711075327 a4 (execWriteZeroes a0 a1 a2 a3 a4) := by
  unfold execWriteZeroes
  refine Frame.next ?_
  refine Frame.comp (State.fetchIo_frame _ _ _ _ _ _) rfl ?_
  refine Frame.comp (State.advanceTo_frame _ _) rfl ?_
  exact Frame.refl _

theorem execLinkDown_frame (a0 : _) (a1 : _) (a2 : _) (a3 : State) : Frame.Out 4255746703359 a3 (execLinkDown a0 a1 a2 a3) := by
  unfold execLinkDown
  try extract_lets
  refine Frame.next ?_
  refine Frame.ite (fun _ => ?_) (fun _ => ?_)
  · refine Frame.comp (State.advanceTo_frame _ _) rfl ?_
    exact Frame.refl _
  · try extract_lets
    refine Frame.ite (fun _ => ?_) (fun _ => ?_)
    · refine Frame.comp (State.setLane_frame _ _ _) rfl ?_
      refine Frame.comp (State.advanceTo_frame _ _) rfl ?_
      exact Frame.refl _
    · try extract_lets
      refine Frame.ite (fun _ => ?_) (fun _ => ?_)
      · refine Frame.comp (State.laneFault__frame _ _ _) rfl ?_
        refine Frame.comp (State.count_frame _ _) rfl ?_
        refine Frame.comp (State.setLane_frame _ _ _) rfl ?_
        refine Frame.comp (State.advanceTo_frame _ _) rfl ?_
        exact Frame.refl _
      · refine Frame.comp (State.count_frame _ _) rfl ?_
        refine Frame.comp (State.setLane_frame _ _ _) rfl ?_
        refine Frame.comp (State.advanceTo_frame _ _) rfl ?_
        exact Frame.refl _

theorem execPartitionHandover_frame (a0 : _) (a1 : _) (a2 : _) (a3 : State) : Frame.Out 4276767 a3 (execPartitionHandover a0 a1 a2 a3) := by
  unfold execPartitionHandover
  try extract_lets
  try extract_lets
  refine Frame.next ?_
  refine Frame.ite (fun _ => ?_) (fun _ => ?_)
  · refine Frame.comp (State.advanceTo_frame _ _) rfl ?_
    exact Frame.refl _
  · try extract_lets
    refine Frame.ite (fun _ => ?_) (fun _ => ?_)
    · refine Frame.comp (State.emit_frame _ _) rfl ?_
      refine Frame.comp (State.record_frame _ _ _) rfl ?_
      refine Frame.set_ddup rfl ?_
      refine Frame.set_repl rfl ?_
      refine Frame.comp (State.advanceTo_frame _ _) rfl ?_
      exact Frame.refl _
    · refine Frame.set_repl rfl ?_
      refine Frame.comp (State.advanceTo_frame _ _) rfl ?_
      exact Frame.refl _

theorem execFlush_frame (a0 : _) (a1 : _) (a2 : _) (a3 : _) (a4 : State) : Frame.Out 25774076127 a4 (execFlush a0 a1 a2 a3 a4) := by
  unfold execFlush
  try extract_lets
  refine Frame.next ?_
  refine Frame.ite (fun _ => ?_) (fun _ => ?_)
  · refine Frame.comp (State.advanceTo_frame _ _) rfl ?_
    exact Frame.refl _
  · try extract_lets
    refine Frame.ite (fun _ => ?_) (fun _ => ?_)
    · refine Frame.comp (State.complete_frame _ _ _ _ _ _ _ _) rfl ?_
      refine Frame.comp (State.fetched_frame _ _ _ _) rfl ?_
      refine Frame.comp (State.advanceTo_frame _ _) rfl ?_
      exact Frame.refl _
    · refine Frame.ite (fun _ => ?_) (fun _ => ?_)
      · refine Frame.comp (State.complete_frame _ _ _ _ _ _ _ _) rfl ?_
        refine Frame.comp (State.fetched_frame _ _ _ _) rfl ?_
        refine Frame.comp (State.advanceTo_frame _ _) rfl ?_
        exact Frame.refl _
      · refine Frame.comp (State.settle_frame _ _) rfl ?_
        refine Frame.comp (State.fetched_frame _ _ _ _) rfl ?_
        refine Frame.comp (State.advanceTo_frame _ _) rfl ?_
        exact Frame.refl _

theorem State.podTakeover_frame (a0 : State) : Frame 81950 a0 (State.podTakeover a0) := by
  unfold State.podTakeover
  refine Frame.ite (fun _ => ?_) (fun _ => ?_)
  · refine Frame.comp (State.setMaster_frame _ _ _) rfl ?_
    exact Frame.refl _
  · exact Frame.refl _

theorem execClearArm_frame (a0 : _) (a1 : _) (a2 : _) (a3 : State) : Frame.Out 142606349 a3 (execClearArm a0 a1 a2 a3) := by
  unfold execClearArm
  refine Frame.next ?_
  refine Frame.comp (State.writeClrArm_frame _ _ _) rfl ?_
  refine Frame.comp (State.advanceTo_frame _ _) rfl ?_
  exact Frame.refl _

theorem execSnapshotQuery_frame (a0 : _) (a1 : _) (a2 : _) (a3 : State) : Frame.Out 1888724677599 a3 (execSnapshotQuery a0 a1 a2 a3) := by
  unfold execSnapshotQuery
  refine Frame.next ?_
  refine State.admin_frame ?_ rfl ?_
  · intro _ _
    refine Frame.comp (State.runC1h_frame _ _ _) rfl ?_
    assumption
  · refine Frame.comp (State.advanceTo_frame _ _) rfl ?_
    exact Frame.refl _

theorem execPairCommitTimeout_frame (a0 : _) (a1 : _) (a2 : State) : Frame.Out 32216658143 a2 (execPairCommitTimeout a0 a1 a2) := by
  unfold execPairCommitTimeout
  try extract_lets
  refine Frame.next ?_
  first | split | (dsimp +zetaDelta -proj only; split)
  · refine Frame.comp (State.advanceTo_frame _ _) rfl ?_
    exact Frame.refl _
  · refine Frame.ite (fun _ => ?_) (fun _ => ?_)
    · refine Frame.comp (State.advanceTo_frame _ _) rfl ?_
      exact Frame.refl _
    · refine Frame.comp (State.endRefused_frame _ _ _ _ _) rfl ?_
      refine Frame.comp (State.undo_frame _ _) rfl ?_
      refine Frame.set_moor rfl (fun i => absurd i (by decide)) ?_
      refine Frame.comp (State.advanceTo_frame _ _) rfl ?_
      exact Frame.refl _

theorem State.deleteCq_frame (a0 : _) (a1 : _) (a2 : State) : Frame 25774076126 a2 (State.deleteCq a0 a1 a2) := by
  unfold State.deleteCq
  first | split | (dsimp +zetaDelta -proj only; split)
  · refine Frame.comp (State.completeAdmin_frame _ _ _ _ _ _) rfl ?_
    exact Frame.refl _
  · refine Frame.ite (fun _ => ?_) (fun _ => ?_)
    · refine Frame.comp (State.completeAdmin_frame _ _ _ _ _ _) rfl ?_
      exact Frame.refl _
    · refine Frame.comp (State.completeAdmin_frame _ _ _ _ _ _) rfl ?_
      refine Frame.set_nvq rfl (fun _ => rfl) (fun _ => rfl) ?_
      exact Frame.refl _

theorem execDeleteIoCq_frame (a0 : _) (a1 : _) (a2 : _) (a3 : State) : Frame.Out 25774076127 a3 (execDeleteIoCq a0 a1 a2 a3) := by
  unfold execDeleteIoCq
  refine Frame.next ?_
  refine State.admin_frame ?_ rfl ?_
  · intro _ _
    refine Frame.comp (State.deleteCq_frame _ _ _) rfl ?_
    assumption
  · refine Frame.comp (State.advanceTo_frame _ _) rfl ?_
    exact Frame.refl _

theorem State.deleteNs_frame (a0 : _) (a1 : _) (a2 : State) : Frame 1338960475102 a2 (State.deleteNs a0 a1 a2) := by
  unfold State.deleteNs
  first | split | (dsimp +zetaDelta -proj only; split)
  · refine Frame.comp (State.completeAdmin_frame _ _ _ _ _ _) rfl ?_
    exact Frame.refl _
  · refine Frame.comp (State.propose_frame _ _ _ _) rfl ?_
    exact Frame.refl _

theorem execNotify_frame (a0 : _) (a1 : _) (a2 : State) : Frame.Out 1919049528287 a2 (execNotify a0 a1 a2) := by
  unfold execNotify
  refine Frame.next ?_
  refine Frame.comp (State.arriveSeq_frame _ _) rfl ?_
  refine Frame.comp (State.advanceTo_frame _ _) rfl ?_
  exact Frame.refl _

theorem State.moveFolded_frame (a0 : _) (a1 : _) (a2 : _) (a3 : _) (a4 : _) (a5 : State) : Frame 5567351358336 a5 (State.moveFolded a0 a1 a2 a3 a4 a5) := by
  unfold State.moveFolded
  try extract_lets
  refine Frame.foldl (fun _ _ _ => ?_) ?_
  · try extract_lets
    refine Frame.ite (fun _ => ?_) (fun _ => ?_)
    · assumption
    · try extract_lets
      refine Frame.comp (State.moveRecord_frame _ _ _) rfl ?_
      refine Frame.set_path rfl (fun i => absurd i (by decide)) (fun _ => rfl) (fun i => absurd i (by decide)) ?_
      assumption
  · exact Frame.refl _

theorem execSnapshotList_frame (a0 : _) (a1 : _) (a2 : _) (a3 : State) : Frame.Out 1888724677599 a3 (execSnapshotList a0 a1 a2 a3) := by
  unfold execSnapshotList
  refine Frame.next ?_
  refine State.admin_frame ?_ rfl ?_
  · intro _ _
    refine Frame.comp (State.runC1h_frame _ _ _) rfl ?_
    assumption
  · refine Frame.comp (State.advanceTo_frame _ _) rfl ?_
    exact Frame.refl _

theorem execStatusTimeout_frame (a0 : _) (a1 : _) (a2 : _) (a3 : _) (a4 : State) : Frame.Out 3705990889471 a4 (execStatusTimeout a0 a1 a2 a3 a4) := by
  unfold execStatusTimeout
  try extract_lets
  refine Frame.next ?_
  refine Frame.ite (fun _ => ?_) (fun _ => ?_)
  · refine Frame.comp (State.advanceTo_frame _ _) rfl ?_
    exact Frame.refl _
  · try extract_lets
    refine Frame.ite (fun _ => ?_) (fun _ => ?_)
    · refine Frame.comp (State.fault_frame _ _ _ _ _) rfl ?_
      refine Frame.comp (State.raise_frame _ _ _) rfl ?_
      refine Frame.comp (State.count_frame _ _) rfl ?_
      refine Frame.comp (State.advanceTo_frame _ _) rfl ?_
      exact Frame.refl _
    · refine Frame.comp (State.retire_frame _ _) rfl ?_
      refine Frame.comp (State.record_frame _ _ _) rfl ?_
      refine Frame.comp (State.raise_frame _ _ _) rfl ?_
      refine Frame.comp (State.count_frame _ _) rfl ?_
      refine Frame.comp (State.advanceTo_frame _ _) rfl ?_
      exact Frame.refl _

theorem execStrpMinfoRead_frame (a0 : _) (a1 : _) (a2 : State) : Frame.Out 4295098373 a2 (execStrpMinfoRead a0 a1 a2) := by
  unfold execStrpMinfoRead
  refine Frame.next ?_
  refine Frame.comp (State.readReg_frame _ _ _) rfl ?_
  refine Frame.comp (State.advanceTo_frame _ _) rfl ?_
  exact Frame.refl _

theorem execTargetResyncAttempt_frame (a0 : _) (a1 : _) (a2 : _) (a3 : _) (a4 : State) : Frame.Out 1858659906527 a4 (execTargetResyncAttempt a0 a1 a2 a3 a4) := by
  unfold execTargetResyncAttempt
  try extract_lets
  refine Frame.next ?_
  first | split | (dsimp +zetaDelta -proj only; split)
  · try extract_lets
    try extract_lets
    refine Frame.ite (fun _ => ?_) (fun _ => ?_)
    · refine Frame.comp (State.advanceTo_frame _ _) rfl ?_
      exact Frame.refl _
    · try extract_lets
      refine Frame.ite (fun _ => ?_) (fun _ => ?_)
      · refine Frame.comp (State.updTarget_frame _ _ _ _) rfl ?_
        refine Frame.comp (State.callPeer_frame _ _) rfl ?_
        refine Frame.comp (State.advanceTo_frame _ _) rfl ?_
        exact Frame.refl _
      · refine Frame.ite (fun _ => ?_) (fun _ => ?_)
        · refine Frame.comp (State.sendSet_frame _ _ _) rfl ?_
          refine Frame.comp (State.updTarget_frame _ _ _ _) rfl ?_
          refine Frame.comp (State.callPeer_frame _ _) rfl ?_
          refine Frame.comp (State.advanceTo_frame _ _) rfl ?_
          exact Frame.refl _
        · first | split | (dsimp +zetaDelta -proj only; split)
          · refine Frame.snd ?_ (by assumption)
            refine Frame.comp (State.replSnap_frame _ _) rfl ?_
            refine Frame.comp (State.updTarget_frame _ _ _ _) rfl ?_
            refine Frame.comp (State.callPeer_frame _ _) rfl ?_
            refine Frame.comp (State.advanceTo_frame _ _) rfl ?_
            exact Frame.refl _
          · try extract_lets
            refine Frame.comp (State.sendSet_frame _ _ _) rfl ?_
            refine Frame.comp (State.record_frame _ _ _) rfl ?_
            refine Frame.comp (State.updTarget_frame _ _ _ _) rfl ?_
            refine Frame.comp (State.updLink_frame _ _ _) rfl ?_
            refine Frame.snd ?_ (by assumption)
            refine Frame.comp (State.replSnap_frame _ _) rfl ?_
            refine Frame.comp (State.updTarget_frame _ _ _ _) rfl ?_
            refine Frame.comp (State.callPeer_frame _ _) rfl ?_
            refine Frame.comp (State.advanceTo_frame _ _) rfl ?_
            exact Frame.refl _
  · refine Frame.comp (State.advanceTo_frame _ _) rfl ?_
    exact Frame.refl _

theorem execDmaBurst_frame (a0 : _) (a1 : _) (a2 : State) : Frame.Out 576470233311 a2 (execDmaBurst a0 a1 a2) := by
  unfold execDmaBurst
  try extract_lets
  refine Frame.next ?_
  refine Frame.ite (fun _ => ?_) (fun _ => ?_)
  · refine Frame.comp (State.burst_frame _ _) rfl ?_
    refine Frame.comp (State.advanceTo_frame _ _) rfl ?_
    exact Frame.refl _
  · refine Frame.comp (State.advanceTo_frame _ _) rfl ?_
    exact Frame.refl _

theorem execRailOutOfRange_frame (a0 : _) (a1 : _) (a2 : _) (a3 : State) : Frame.Out 1376287 a3 (execRailOutOfRange a0 a1 a2 a3) := by
  unfold execRailOutOfRange
  try extract_lets
  refine Frame.next ?_
  refine Frame.ite (fun _ => ?_) (fun _ => ?_)
  · refine Frame.comp (State.advanceTo_frame _ _) rfl ?_
    exact Frame.refl _
  · try extract_lets
    refine Frame.ite (fun _ => ?_) (fun _ => ?_)
    · refine Frame.comp (State.recordOnce_frame _ _ _ _) rfl ?_
      refine Frame.comp (State.raise_frame _ _ _) rfl ?_
      refine Frame.set_ldg_elec rfl rfl ?_ ?_
      · exact id
      refine Frame.comp (State.advanceTo_frame _ _) rfl ?_
      exact Frame.refl _
    · refine Frame.set_ldg_elec rfl rfl ?_ ?_
      · exact id
      refine Frame.comp (State.advanceTo_frame _ _) rfl ?_
      exact Frame.refl _

theorem execRelayTimeout_frame (a0 : _) (a1 : State) : Frame.Out 1231955276767 a1 (execRelayTimeout a0 a1) := by
  unfold execRelayTimeout
  try extract_lets
  refine Frame.next ?_
  refine Frame.ite (fun _ => ?_) (fun _ => ?_)
  · refine Frame.comp (State.enterPreservation_frame _ _) rfl ?_
    refine Frame.comp (State.relayOff_frame _ _) rfl ?_
    refine Frame.comp (State.advanceTo_frame _ _) rfl ?_
    exact Frame.refl _
  · refine Frame.comp (State.advanceTo_frame _ _) rfl ?_
    exact Frame.refl _

theorem execMinrunReached_frame (a0 : _) (a1 : _) (a2 : State) : Frame.Out 4456449 a2 (execMinrunReached a0 a1 a2) := by
  unfold execMinrunReached
  try extract_lets
  try extract_lets
  refine Frame.next ?_
  first | split | (dsimp +zetaDelta -proj only; split)
  · refine Frame.ite (fun _ => ?_) (fun _ => ?_)
    · refine Frame.comp (State.advanceTo_frame _ _) rfl ?_
      exact Frame.refl _
    · try extract_lets
      refine Frame.ite (fun _ => ?_) (fun _ => ?_)
      · refine Frame.comp (State.ldgResult_frame _ _ _) rfl ?_
        refine Frame.comp (State.doSuspend_frame _ _ _) rfl ?_
        refine Frame.comp (State.advanceTo_frame _ _) rfl ?_
        exact Frame.refl _
      · refine Frame.comp (State.doSuspend_frame _ _ _) rfl ?_
        refine Frame.comp (State.advanceTo_frame _ _) rfl ?_
        exact Frame.refl _
  · refine Frame.comp (State.advanceTo_frame _ _) rfl ?_
    exact Frame.refl _

theorem execAccept_frame (a0 : _) (a1 : _) (a2 : _) (a3 : _) (a4 : _) (a5 : State) : Frame.Out 687194968095 a5 (execAccept a0 a1 a2 a3 a4 a5) := by
  unfold execAccept
  try extract_lets
  refine Frame.next ?_
  first | split | (dsimp +zetaDelta -proj only; split)
  · refine Frame.comp (State.advanceTo_frame _ _) rfl ?_
    exact Frame.refl _
  · refine Frame.ite (fun _ => ?_) (fun _ => ?_)
    · refine Frame.comp (State.advanceTo_frame _ _) rfl ?_
      exact Frame.refl _
    · try extract_lets
      refine Frame.ite (fun _ => ?_) (fun _ => ?_)
      · refine Frame.comp (State.authFail_frame _ _) rfl ?_
        refine Frame.comp (State.advanceTo_frame _ _) rfl ?_
        exact Frame.refl _
      · refine Frame.ite (fun _ => ?_) (fun _ => ?_)
        · refine Frame.comp (State.record_frame _ _ _) rfl ?_
          refine Frame.comp (State.dropAttempt_frame _ _) rfl ?_
          refine Frame.comp (State.advanceTo_frame _ _) rfl ?_
          exact Frame.refl _
        · refine Frame.comp (State.record_frame _ _ _) rfl ?_
          refine Frame.comp (State.updSession_frame _ _ _) rfl ?_
          refine Frame.comp (State.advanceTo_frame _ _) rfl ?_
          exact Frame.refl _

theorem execSessionTimeout_frame (a0 : _) (a1 : _) (a2 : State) : Frame.Out 1919049528287 a2 (execSessionTimeout a0 a1 a2) := by
  unfold execSessionTimeout
  try extract_lets
  refine Frame.next ?_
  first | split | (dsimp +zetaDelta -proj only; split)
  · refine Frame.comp (State.timeoutSession_frame _ _ _) rfl ?_
    refine Frame.comp (State.advanceTo_frame _ _) rfl ?_
    exact Frame.refl _
  · refine Frame.comp (State.advanceTo_frame _ _) rfl ?_
    exact Frame.refl _

theorem State.demote_frame (a0 : _) (a1 : State) : Frame 7766374614976 a1 (State.demote a0 a1) := by
  unfold State.demote
  try extract_lets
  try extract_lets
  refine Frame.ite (fun _ => ?_) (fun _ => ?_)
  · exact Frame.refl _
  · try extract_lets
    refine Frame.comp (State.unpromote_frame _ _ _) rfl ?_
    refine Frame.foldl (fun _ _ _ => ?_) ?_
    · first | split | (dsimp +zetaDelta -proj only; split)
      · first | split | (dsimp +zetaDelta -proj only; split)
        · refine Frame.comp (State.gcMove_frame _ _) rfl ?_
          assumption
        · assumption
      · assumption
    · exact Frame.refl _

theorem execGcCopy_frame (a0 : _) (a1 : _) (a2 : _) (a3 : State) : Frame.Out 8104037400575 a3 (execGcCopy a0 a1 a2 a3) := by
  unfold execGcCopy
  try extract_lets
  refine Frame.next ?_
  first | split | (dsimp +zetaDelta -proj only; split)
  · refine Frame.comp (State.advanceTo_frame _ _) rfl ?_
    exact Frame.refl _
  · try extract_lets
    try extract_lets
    refine Frame.ite (fun _ => ?_) (fun _ => ?_)
    · refine Frame.comp (State.advanceTo_frame _ _) rfl ?_
      exact Frame.refl _
    · try extract_lets
      try extract_lets
      try extract_lets
      try extract_lets
      try extract_lets
      refine Frame.comp (State.startErases_frame _) rfl ?_
      refine Frame.ite (fun _ => ?_) (fun _ => ?_)
      · refine Frame.comp (State.record_frame _ _ _) rfl ?_
        refine Frame.set_path rfl (fun i => absurd i (by decide)) (fun i => absurd i (by decide)) (fun i => absurd i (by decide)) ?_
        refine Frame.foldl (fun _ _ _ => ?_) ?_
        · refine Frame.comp (State.gcMove_frame _ _) rfl ?_
          assumption
        · refine Frame.foldl (fun _ _ _ => ?_) ?_
          · refine Frame.comp (State.demote_frame _ _) rfl ?_
            assumption
          · refine Frame.comp (State.advanceTo_frame _ _) rfl ?_
            exact Frame.refl _
      · refine Frame.set_path rfl (fun i => absurd i (by decide)) (fun i => absurd i (by decide)) (fun i => absurd i (by decide)) ?_
        refine Frame.foldl (fun _ _ _ => ?_) ?_
        · refine Frame.comp (State.gcMove_frame _ _) rfl ?_
          assumption
        · refine Frame.foldl (fun _ _ _ => ?_) ?_
          · refine Frame.comp (State.demote_frame _ _) rfl ?_
            assumption
          · refine Frame.comp (State.advanceTo_frame _ _) rfl ?_
            exact Frame.refl _

theorem State.identify_frame (a0 : _) (a1 : _) (a2 : State) : Frame 575529890014 a2 (State.identify a0 a1 a2) := by
  unfold State.identify
  try extract_lets
  refine Frame.ite (fun _ => ?_) (fun _ => ?_)
  · refine Frame.comp (State.invalidField_frame _ _ _) rfl ?_
    exact Frame.refl _
  · first | split | (dsimp +zetaDelta -proj only; split)
    · refine Frame.comp (State.completeAdmin_frame _ _ _ _ _ _) rfl ?_
      exact Frame.refl _
    · refine Frame.comp (State.completeAdmin_frame _ _ _ _ _ _) rfl ?_
      refine Frame.comp (State.adminData_frame _ _ _ _) rfl ?_
      exact Frame.refl _

theorem execProgramAck_frame (a0 : _) (a1 : _) (a2 : State) : Frame.Out 1369025246175 a2 (execProgramAck a0 a1 a2) := by
  unfold execProgramAck
  try extract_lets
  try extract_lets
  refine Frame.next ?_
  refine Frame.comp (State.sendReady_frame _) rfl ?_
  refine Frame.comp (State.checkWrites_frame _) rfl ?_
  refine Frame.comp (State.resyncAck_frame _ _) rfl ?_
  refine Frame.set_adm rfl (fun i => absurd i (by decide)) (fun i => absurd i (by decide)) (fun i => absurd i (by decide)) ?_
  refine Frame.comp (State.advanceTo_frame _ _) rfl ?_
  exact Frame.refl _

theorem State.programResult_frame (a0 : _) (a1 : _) (a2 : State) : Frame 4456448 a2 (State.programResult a0 a1 a2) := by
  unfold State.programResult
  refine Frame.ite (fun _ => ?_) (fun _ => ?_)
  · refine Frame.ite (fun _ => ?_) (fun _ => ?_)
    · exact Frame.refl _
    · refine Frame.comp (State.ldgResult_frame _ _ _) rfl ?_
      exact Frame.refl _
  · refine Frame.comp (State.ldgResult_frame _ _ _) rfl ?_
    exact Frame.refl _

theorem execWatchdogExpiry_frame (a0 : _) (a1 : State) : Frame.Out 1231955243999 a1 (execWatchdogExpiry a0 a1) := by
  unfold execWatchdogExpiry
  try extract_lets
  refine Frame.next ?_
  refine Frame.ite (fun _ => ?_) (fun _ => ?_)
  · refine Frame.comp (State.enterPreservation_frame _ _) rfl ?_
    refine Frame.comp (State.advanceTo_frame _ _) rfl ?_
    exact Frame.refl _
  · refine Frame.comp (State.advanceTo_frame _ _) rfl ?_
    exact Frame.refl _

theorem execCmpFinfoRead_frame (a0 : _) (a1 : _) (a2 : State) : Frame.Out 4295098373 a2 (execCmpFinfoRead a0 a1 a2) := by
  unfold execCmpFinfoRead
  refine Frame.next ?_
  refine Frame.comp (State.readReg_frame _ _ _) rfl ?_
  refine Frame.comp (State.advanceTo_frame _ _) rfl ?_
  exact Frame.refl _

theorem State.restorePath_frame (a0 : _) (a1 : _) (a2 : State) : Frame 2147557406 a2 (State.restorePath a0 a1 a2) := by
  unfold State.restorePath
  try extract_lets
  refine Frame.ite (fun _ => ?_) (fun _ => ?_)
  · refine Frame.comp (State.record_frame _ _ _) rfl ?_
    refine Frame.comp (State.updMoor_frame _ _) rfl ?_
    exact Frame.refl _
  · refine Frame.comp (State.updMoor_frame _ _) rfl ?_
    exact Frame.refl _

theorem execSpiWrite16_frame (a0 : _) (a1 : _) (a2 : _) (a3 : _) (a4 : _) (a5 : State) : Frame.Out 139264031 a5 (execSpiWrite16 a0 a1 a2 a3 a4 a5) := by
  unfold execSpiWrite16
  refine Frame.next ?_
  refine State.spiFrame_frame ?_ rfl ?_
  · intro _ _
    first | split | (dsimp +zetaDelta -proj only; split)
    · refine Frame.ite (fun _ => ?_) (fun _ => ?_)
      · assumption
      · refine Frame.comp (State.spiErrAddr_frame _ _) rfl ?_
        refine Frame.comp (State.spiErr_frame _ _) rfl ?_
        assumption
    · try extract_lets
      refine Frame.ite (fun _ => ?_) (fun _ => ?_)
      · refine Frame.ite (fun _ => ?_) (fun _ => ?_)
        · refine Frame.comp (State.spiErrAddr_frame _ _) rfl ?_
          refine Frame.comp (State.spiErr_frame _ _) rfl ?_
          assumption
        · refine Frame.ite (fun _ => ?_) (fun _ => ?_)
          · refine Frame.comp (State.unmapped_frame _) rfl ?_
            assumption
          · refine Frame.comp (State.windowWrite_frame _ _ _) rfl ?_
            assumption
      · refine Frame.comp (State.spiErr_frame _ _) rfl ?_
        refine Frame.ite (fun _ => ?_) (fun _ => ?_)
        · refine Frame.comp (State.spiErrAddr_frame _ _) rfl ?_
          refine Frame.comp (State.spiErr_frame _ _) rfl ?_
          assumption
        · refine Frame.ite (fun _ => ?_) (fun _ => ?_)
          · refine Frame.comp (State.unmapped_frame _) rfl ?_
            assumption
          · refine Frame.comp (State.windowWrite_frame _ _ _) rfl ?_
            assumption
  · refine Frame.comp (State.advanceTo_frame _ _) rfl ?_
    exact Frame.refl _

theorem execRailBackInRange_frame (a0 : _) (a1 : _) (a2 : State) : Frame.Out 139788319 a2 (execRailBackInRange a0 a1 a2) := by
  unfold execRailBackInRange
  try extract_lets
  refine Frame.next ?_
  refine Frame.ite (fun _ => ?_) (fun _ => ?_)
  · refine Frame.comp (State.advanceTo_frame _ _) rfl ?_
    exact Frame.refl _
  · try extract_lets
    refine Frame.ite (fun _ => ?_) (fun _ => ?_)
    · refine Frame.comp (State.pump_frame _) rfl ?_
      refine Frame.set_ldg rfl ?_ ?_
      · exact id
      refine Frame.set_elec rfl ?_
      refine Frame.comp (State.advanceTo_frame _ _) rfl ?_
      exact Frame.refl _
    · refine Frame.set_elec rfl ?_
      refine Frame.comp (State.advanceTo_frame _ _) rfl ?_
      exact Frame.refl _

theorem execTargetRemove_frame (a0 : _) (a1 : _) (a2 : _) (a3 : State) : Frame.Out 1888724677599 a3 (execTargetRemove a0 a1 a2 a3) := by
  unfold execTargetRemove
  refine Frame.next ?_
  refine Frame.comp (State.c2h_frame _ _ _ _ _ _ _) rfl ?_
  refine Frame.comp (State.advanceTo_frame _ _) rfl ?_
  exact Frame.refl _

theorem State.idleTick_frame (a0 : State) : Frame 1 a0 (State.idleTick a0) := by
  unfold State.idleTick
  refine Frame.ite (fun _ => ?_) (fun _ => ?_)
  · exact Frame.refl _
  · refine Frame.ite (fun _ => ?_) (fun _ => ?_)
    · refine Frame.comp (State.edges_frame _ _) rfl ?_
      exact Frame.refl _
    · refine Frame.set_time rfl ?_ ?_
      · first | exact Nat.le_refl _ | exact Nat.le_add_right _ _ | (dsimp only; split <;> exact Nat.le_refl _)
      exact Frame.refl _

theorem execSoftwareRequest_frame (a0 : _) (a1 : _) (a2 : _) (a3 : State) : Frame.Out 65541 a3 (execSoftwareRequest a0 a1 a2 a3) := by
  unfold execSoftwareRequest
  refine Frame.next ?_
  refine Frame.comp (State.writeSwreq_frame _ _ _) rfl ?_
  refine Frame.comp (State.advanceTo_frame _ _) rfl ?_
  exact Frame.refl _

theorem execFoldStripe_frame (a0 : _) (a1 : _) (a2 : _) (a3 : _) (a4 : _) (a5 : State) : Frame.Out 2199023256897 a5 (execFoldStripe a0 a1 a2 a3 a4 a5) := by
  unfold execFoldStripe
  try extract_lets
  refine Frame.next ?_
  first | split | (dsimp +zetaDelta -proj only; split)
  · refine Frame.ite (fun _ => ?_) (fun _ => ?_)
    · refine Frame.comp (State.advanceTo_frame _ _) rfl ?_
      exact Frame.refl _
    · first | split | (dsimp +zetaDelta -proj only; split)
      · try extract_lets
        try extract_lets
        refine Frame.foldl (fun _ _ _ => ?_) ?_
        · first | split | (dsimp +zetaDelta -proj only; split)
          · refine Frame.comp (State.bookWork_frame _ _ _ _ _) rfl ?_
            assumption
          · assumption
        · refine Frame.comp (State.updStripe_frame _ _ _ _) rfl ?_
          refine Frame.set_flash rfl ?_
          refine Frame.snd ?_ (by assumption)
          refine Frame.comp (State.denseFor_frame _ _ _) rfl ?_
          refine Frame.comp (State.advanceTo_frame _ _) rfl ?_
          exact Frame.refl _
  · refine Frame.comp (State.advanceTo_frame _ _) rfl ?_
    exact Frame.refl _

theorem execPtpMessage_frame (a0 : _) (a1 : _) (a2 : _) (a3 : State) : Frame.Out 1 a3 (execPtpMessage a0 a1 a2 a3) := by
  unfold execPtpMessage
  try extract_lets
  refine Frame.next ?_
  refine Frame.ite (fun _ => ?_) (fun _ => ?_)
  · refine Frame.comp (State.advanceTo_frame _ _) rfl ?_
    exact Frame.refl _
  · refine Frame.set_time rfl ?_ ?_
    · first | exact Nat.le_refl _ | exact Nat.le_add_right _ _ | (dsimp only; split <;> exact Nat.le_refl _)
    refine Frame.comp (State.advanceTo_frame _ _) rfl ?_
    exact Frame.refl _

theorem execAtpuRinfoRead_frame (a0 : _) (a1 : _) (a2 : State) : Frame.Out 4295098373 a2 (execAtpuRinfoRead a0 a1 a2) := by
  unfold execAtpuRinfoRead
  refine Frame.next ?_
  refine Frame.comp (State.readReg_frame _ _ _) rfl ?_
  refine Frame.comp (State.advanceTo_frame _ _) rfl ?_
  exact Frame.refl _

theorem State.getLog_frame (a0 : _) (a1 : _) (a2 : State) : Frame 575529890014 a2 (State.getLog a0 a1 a2) := by
  unfold State.getLog
  try extract_lets
  try extract_lets
  try extract_lets
  first | split | (dsimp +zetaDelta -proj only; split)
  · refine Frame.comp (State.completeAdmin_frame _ _ _ _ _ _) rfl ?_
    exact Frame.refl _
  · refine Frame.ite (fun _ => ?_) (fun _ => ?_)
    · refine Frame.comp (State.invalidField_frame _ _ _) rfl ?_
      exact Frame.refl _
    · try extract_lets
      try extract_lets
      try extract_lets
      refine Frame.comp (State.completeAdmin_frame _ _ _ _ _ _) rfl ?_
      refine Frame.ite (fun _ => ?_) (fun _ => ?_)
      · refine Frame.set_nvq rfl (fun _ => rfl) (fun _ => rfl) ?_
        refine Frame.ite (fun _ => ?_) (fun _ => ?_)
        · refine Frame.comp (State.adminData_frame _ _ _ _) rfl ?_
          exact Frame.refl _
        · refine Frame.comp (State.clearNotices_frame _ _ _) rfl ?_
          refine Frame.comp (State.adminData_frame _ _ _ _) rfl ?_
          exact Frame.refl _
      · refine Frame.ite (fun _ => ?_) (fun _ => ?_)
        · refine Frame.comp (State.adminData_frame _ _ _ _) rfl ?_
          exact Frame.refl _
        · refine Frame.comp (State.clearNotices_frame _ _ _) rfl ?_
          refine Frame.comp (State.adminData_frame _ _ _ _) rfl ?_
          exact Frame.refl _

theorem execGetLogPage_frame (a0 : _) (a1 : _) (a2 : _) (a3 : State) : Frame.Out 575529890015 a3 (execGetLogPage a0 a1 a2 a3) := by
  unfold execGetLogPage
  refine Frame.next ?_
  refine State.admin_frame ?_ rfl ?_
  · intro _ _
    refine Frame.comp (State.getLog_frame _ _ _) rfl ?_
    assumption
  · refine Frame.comp (State.advanceTo_frame _ _) rfl ?_
    exact Frame.refl _

theorem execSnapshotReclaimDone_frame (a0 : _) (a1 : _) (a2 : _) (a3 : State) : Frame.Out 1100585435807 a3 (execSnapshotReclaimDone a0 a1 a2 a3) := by
  unfold execSnapshotReclaimDone
  try extract_lets
  refine Frame.next ?_
  first | split | (dsimp +zetaDelta -proj only; split)
  · refine Frame.comp (State.endReclaim_frame _ _) rfl ?_
    refine Frame.comp (State.advanceTo_frame _ _) rfl ?_
    exact Frame.refl _
  · refine Frame.comp (State.advanceTo_frame _ _) rfl ?_
    exact Frame.refl _
  · first | split | (dsimp +zetaDelta -proj only; split)
    · refine Frame.comp (State.advanceTo_frame _ _) rfl ?_
      exact Frame.refl _
    · refine Frame.ite (fun _ => ?_) (fun _ => ?_)
      · refine Frame.comp (State.advanceTo_frame _ _) rfl ?_
        exact Frame.refl _
      · try extract_lets
        try extract_lets
        refine Frame.comp (State.record_frame _ _ _) rfl ?_
        refine Frame.comp (State.updNs_frame _ _ _) rfl ?_
        refine Frame.comp (State.releaseRefs_frame _ _) rfl ?_
        refine Frame.comp (State.advanceTo_frame _ _) rfl ?_
        exact Frame.refl _

theorem execBeaconArrival_frame (a0 : _) (a1 : _) (a2 : _) (a3 : State) : Frame.Out 11245265119 a3 (execBeaconArrival a0 a1 a2 a3) := by
  unfold execBeaconArrival
  try extract_lets
  try extract_lets
  refine Frame.next ?_
  refine Frame.ite (fun _ => ?_) (fun _ => ?_)
  · refine Frame.ite (fun _ => ?_) (fun _ => ?_)
    · refine Frame.set_md rfl (fun i => absurd i (by decide)) (fun i => absurd i (by decide)) ?_
      refine Frame.comp (State.advanceTo_frame _ _) rfl ?_
      exact Frame.refl _
    · refine Frame.comp (State.advanceTo_frame _ _) rfl ?_
      exact Frame.refl _
  · refine Frame.ite (fun _ => ?_) (fun _ => ?_)
    · refine Frame.comp (State.advanceTo_frame _ _) rfl ?_
      exact Frame.refl _
    · try extract_lets
      try extract_lets
      refine Frame.ite (fun _ => ?_) (fun _ => ?_)
      · refine Frame.comp (State.rejectBeacon_frame _ _ _) rfl ?_
        refine Frame.comp (State.advanceTo_frame _ _) rfl ?_
        exact Frame.refl _
      · try extract_lets
        refine Frame.ite (fun _ => ?_) (fun _ => ?_)
        · refine Frame.comp (State.updMoor_frame _ _) rfl ?_
          refine Frame.comp (State.advanceTo_frame _ _) rfl ?_
          exact Frame.refl _
        · refine Frame.comp (State.acceptBeacon_frame _ _ _) rfl ?_
          refine Frame.comp (State.updMoor_frame _ _) rfl ?_
          refine Frame.comp (State.advanceTo_frame _ _) rfl ?_
          exact Frame.refl _

theorem execTallyRequest_frame (a0 : _) (a1 : _) (a2 : _) (a3 : State) : Frame.Out 4563468319 a3 (execTallyRequest a0 a1 a2 a3) := by
  unfold execTallyRequest
  refine Frame.next ?_
  refine Frame.comp (State.writeTallyAt_frame _ _ _) rfl ?_
  refine Frame.comp (State.advanceTo_frame _ _) rfl ?_
  exact Frame.refl _

theorem execIdmWrite_frame (a0 : _) (a1 : _) (a2 : State) : Frame.Out 1919049528287 a2 (execIdmWrite a0 a1 a2) := by
  unfold execIdmWrite
  refine Frame.next ?_
  refine Frame.comp (State.arriveSeq_frame _ _) rfl ?_
  refine Frame.comp (State.advanceTo_frame _ _) rfl ?_
  exact Frame.refl _

theorem execIslandGate_frame (a0 : _) (a1 : _) (a2 : _) (a3 : State) : Frame.Out 33 a3 (execIslandGate a0 a1 a2 a3) := by
  unfold execIslandGate
  try extract_lets
  try extract_lets
  refine Frame.next ?_
  refine Frame.ite (fun _ => ?_) (fun _ => ?_)
  · refine Frame.comp (State.advanceTo_frame _ _) rfl ?_
    exact Frame.refl _
  · refine Frame.set_faults rfl (fun _ => rfl) ?_
    refine Frame.comp (State.advanceTo_frame _ _) rfl ?_
    exact Frame.refl _

theorem execResetAssert_frame (a0 : _) (a1 : _) (a2 : _) (a3 : State) : Frame.Out 824604360703 a3 (execResetAssert a0 a1 a2 a3) := by
  unfold execResetAssert
  try extract_lets
  refine Frame.next ?_
  refine Frame.ite (fun _ => ?_) (fun _ => ?_)
  · refine Frame.comp (State.advanceTo_frame _ _) rfl ?_
    exact Frame.refl _
  · try extract_lets
    try extract_lets
    refine Frame.ite (fun _ => ?_) (fun _ => ?_)
    · refine Frame.set_md rfl (fun i => absurd i (by decide)) (fun i => absurd i (by decide)) ?_
      refine Frame.comp (State.advanceTo_frame _ _) rfl ?_
      exact Frame.refl _
    · refine Frame.comp (State.enterReset_frame _ _ _) rfl ?_
      refine Frame.set_md rfl (fun i => absurd i (by decide)) (fun i => absurd i (by decide)) ?_
      refine Frame.comp (State.advanceTo_frame _ _) rfl ?_
      exact Frame.refl _

theorem execAddressAnnounceRepeat_frame (a0 : _) (a1 : State) : Frame.Out 2151686145 a1 (execAddressAnnounceRepeat a0 a1) := by
  unfold execAddressAnnounceRepeat
  try extract_lets
  refine Frame.next ?_
  first | split | (dsimp +zetaDelta -proj only; split)
  · refine Frame.comp (State.advanceTo_frame _ _) rfl ?_
    exact Frame.refl _
  · refine Frame.ite (fun _ => ?_) (fun _ => ?_)
    · refine Frame.comp (State.advanceTo_frame _ _) rfl ?_
      exact Frame.refl _
    · refine Frame.comp (State.emit_frame _ _) rfl ?_
      refine Frame.comp (State.updMoor_frame _ _) rfl ?_
      refine Frame.comp (State.advanceTo_frame _ _) rfl ?_
      exact Frame.refl _

theorem execBenchTestStart_frame (a0 : _) (a1 : _) (a2 : _) (a3 : State) : Frame.Out 4362076167 a3 (execBenchTestStart a0 a1 a2 a3) := by
  unfold execBenchTestStart
  refine Frame.next ?_
  refine Frame.comp (State.writeBench_frame _ _ _) rfl ?_
  refine Frame.comp (State.advanceTo_frame _ _) rfl ?_
  exact Frame.refl _

end Sys2Proof.Laws
end

