-- ==== Sys2Proof/Laws/Frame8.lean ====
section
/-!
SUPPORT. Frames of the operations, part 8 of 8: what each may touch (see Frame.lean). Each proof follows its operation's body.
-/

namespace Sys2Proof.Laws

open Sys2Proof.Machine

theorem execTakeoverComplete_frame (a0 : _) (a1 : State) : Frame.Out 373375391 a1 (execTakeoverComplete a0 a1) := by
  unfold execTakeoverComplete
  try extract_lets
  refine Frame.next ?_
  refine Frame.ite (fun _ => ?_) (fun _ => ?_)
  · refine Frame.comp (State.advanceTo_frame _ _) rfl ?_
    exact Frame.refl _
  · refine Frame.comp (State.podTakeover_frame _) rfl ?_
    refine Frame.comp (State.record_frame _ _ _) rfl ?_
    refine Frame.comp (State.enterMode_frame _ _ _) rfl ?_
    refine Frame.comp (State.checkpoint_frame _ _) rfl ?_
    refine Frame.comp (State.advanceTo_frame _ _) rfl ?_
    exact Frame.refl _

theorem execInlineBudgetExpiry_frame (a0 : _) (a1 : _) (a2 : _) (a3 : State) : Frame.Out 34359738449 a3 (execInlineBudgetExpiry a0 a1 a2 a3) := by
  unfold execInlineBudgetExpiry
  try extract_lets
  refine Frame.next ?_
  first | split | (dsimp +zetaDelta -proj only; split)
  · refine Frame.comp (State.advanceTo_frame _ _) rfl ?_
    exact Frame.refl _
  · first | split | (dsimp +zetaDelta -proj only; split)
    · refine Frame.ite (fun _ => ?_) (fun _ => ?_)
      · refine Frame.comp (State.advanceTo_frame _ _) rfl ?_
        exact Frame.refl _
      · refine Frame.comp (State.resolveDedup_frame _ _ _ _) rfl ?_
        refine Frame.comp (State.count_frame _ _) rfl ?_
        refine Frame.comp (State.advanceTo_frame _ _) rfl ?_
        exact Frame.refl _
    · refine Frame.comp (State.advanceTo_frame _ _) rfl ?_
      exact Frame.refl _

theorem execSetFeaturesDedup_frame (a0 : _) (a1 : _) (a2 : _) (a3 : State) : Frame.Out 1338960475103 a3 (execSetFeaturesDedup a0 a1 a2 a3) := by
  unfold execSetFeaturesDedup
  refine Frame.next ?_
  refine State.admin_frame ?_ rfl ?_
  · intro _ _
    refine Frame.comp (State.setDedup_frame _ _ _) rfl ?_
    assumption
  · refine Frame.comp (State.advanceTo_frame _ _) rfl ?_
    exact Frame.refl _

theorem execOndemandStallExpiry_frame (a0 : _) (a1 : _) (a2 : _) (a3 : _) (a4 : State) : Frame.Out 549760077855 a4 (execOndemandStallExpiry a0 a1 a2 a3 a4) := by
  unfold execOndemandStallExpiry
  try extract_lets
  try extract_lets
  refine Frame.next ?_
  first | split | (dsimp +zetaDelta -proj only; split)
  · refine Frame.comp (State.advanceTo_frame _ _) rfl ?_
    exact Frame.refl _
  · refine Frame.ite (fun _ => ?_) (fun _ => ?_)
    · refine Frame.foldl (fun _ _ _ => ?_) ?_
      · refine Frame.comp (State.retryLater_frame _ _ _) rfl ?_
        refine Frame.set_idm rfl (fun i => absurd i (by decide)) ?_
        assumption
      · refine Frame.comp (State.advanceTo_frame _ _) rfl ?_
        exact Frame.refl _
    · refine Frame.comp (State.advanceTo_frame _ _) rfl ?_
      exact Frame.refl _

theorem execRecorderFlushTimer_frame (a0 : _) (a1 : State) : Frame.Out 65537 a1 (execRecorderFlushTimer a0 a1) := by
  unfold execRecorderFlushTimer
  try extract_lets
  refine Frame.next ?_
  first | split | (dsimp +zetaDelta -proj only; split)
  · refine Frame.ite (fun _ => ?_) (fun _ => ?_)
    · refine Frame.comp (State.assertLine_frame _ _) rfl ?_
      refine Frame.comp (State.advanceTo_frame _ _) rfl ?_
      exact Frame.refl _
    · refine Frame.comp (State.advanceTo_frame _ _) rfl ?_
      exact Frame.refl _
  · refine Frame.comp (State.advanceTo_frame _ _) rfl ?_
    exact Frame.refl _

theorem execNamespaceDelete_frame (a0 : _) (a1 : _) (a2 : _) (a3 : State) : Frame.Out 1338960475103 a3 (execNamespaceDelete a0 a1 a2 a3) := by
  unfold execNamespaceDelete
  refine Frame.next ?_
  refine State.admin_frame ?_ rfl ?_
  · intro _ _
    refine Frame.comp (State.deleteNs_frame _ _ _) rfl ?_
    assumption
  · refine Frame.comp (State.advanceTo_frame _ _) rfl ?_
    exact Frame.refl _

theorem execModeReqSlack_frame (a0 : _) (a1 : _) (a2 : _) (a3 : State) : Frame.Out 1781711352831 a3 (execModeReqSlack a0 a1 a2 a3) := by
  unfold execModeReqSlack
  refine Frame.next ?_
  refine Frame.comp (State.writeModeReq_frame _ _ _) rfl ?_
  refine Frame.comp (State.advanceTo_frame _ _) rfl ?_
  exact Frame.refl _

theorem execIslandReady_frame (a0 : _) (a1 : _) (a2 : _) (a3 : State) : Frame.Out 33 a3 (execIslandReady a0 a1 a2 a3) := by
  unfold execIslandReady
  try extract_lets
  refine Frame.next ?_
  first | split | (dsimp +zetaDelta -proj only; split)
  · refine Frame.comp (State.advanceTo_frame _ _) rfl ?_
    exact Frame.refl _
  · try extract_lets
    refine Frame.set_faults rfl (fun _ => rfl) ?_
    refine Frame.comp (State.endWake_frame _ _ _) rfl ?_
    refine Frame.comp (State.advanceTo_frame _ _) rfl ?_
    exact Frame.refl _

theorem execUncorrectableFecBurst_frame (a0 : _) (a1 : _) (a2 : State) : Frame.Out 4255746703359 a2 (execUncorrectableFecBurst a0 a1 a2) := by
  unfold execUncorrectableFecBurst
  try extract_lets
  refine Frame.next ?_
  refine Frame.ite (fun _ => ?_) (fun _ => ?_)
  · refine Frame.comp (State.advanceTo_frame _ _) rfl ?_
    exact Frame.refl _
  · refine Frame.comp (State.laneFault__frame _ _ _) rfl ?_
    refine Frame.comp (State.count_frame _ _) rfl ?_
    refine Frame.comp (State.advanceTo_frame _ _) rfl ?_
    exact Frame.refl _

theorem execReplicaAccept_frame (a0 : _) (a1 : _) (a2 : _) (a3 : _) (a4 : State) : Frame.Out 1888724677599 a4 (execReplicaAccept a0 a1 a2 a3 a4) := by
  unfold execReplicaAccept
  refine Frame.next ?_
  refine Frame.comp (State.c2h_frame _ _ _ _ _ _ _) rfl ?_
  refine Frame.comp (State.advanceTo_frame _ _) rfl ?_
  exact Frame.refl _

theorem State.bootKeys_frame (a0 : State) : Frame 137439084544 a0 (State.bootKeys a0) := by
  unfold State.bootKeys
  refine Frame.foldl (fun _ _ _ => ?_) ?_
  · try extract_lets
    try extract_lets
    refine Frame.set_ciph rfl (fun i => absurd i (by decide)) ?_
    assumption
  · exact Frame.refl _

theorem State.bootLedger_frame (s : State) : Frame 2147557406 s (State.bootLedger s) := by
  unfold State.bootLedger
  extract_lets s1
  have h1 : Frame 2147557406 s s1 := by
    show Frame 2147557406 s (match s.newestParam 2 0 with | some (_, body) => _ | none => s)
    split
    · exact Frame.comp (State.updMoor_frame _ _) rfl (Frame.refl _)
    · exact Frame.refl _
  clear_value s1
  refine Frame.foldl (fun x y h => ?_) h1
  exact Frame.comp (State.record_frame _ _ _) rfl h

theorem State.endBoot_frame (a0 : State) : Frame 277398774975 a0 (State.endBoot a0) := by
  unfold State.endBoot
  try extract_lets
  try extract_lets
  try extract_lets
  refine Frame.ite (fun _ => ?_) (fun _ => ?_)
  · refine Frame.set_md rfl (fun i => absurd i (by decide)) (fun i => absurd i (by decide)) ?_
    refine Frame.ite (fun _ => ?_) (fun _ => ?_)
    · refine Frame.set_repl rfl ?_
      refine Frame.comp (State.record_frame _ _ _) rfl ?_
      try extract_lets
      refine Frame.set_md rfl (fun i => absurd i (by decide)) (fun i => absurd i (by decide)) ?_
      refine Frame.comp (State.returnPassed_frame _) rfl ?_
      exact Frame.refl _
    · refine Frame.comp (State.record_frame _ _ _) rfl ?_
      try extract_lets
      refine Frame.set_md rfl (fun i => absurd i (by decide)) (fun i => absurd i (by decide)) ?_
      refine Frame.comp (State.returnPassed_frame _) rfl ?_
      exact Frame.refl _
  · refine Frame.ite (fun _ => ?_) (fun _ => ?_)
    · refine Frame.comp (State.changeMode_frame _ _ _) rfl ?_
      refine Frame.ite (fun _ => ?_) (fun _ => ?_)
      · refine Frame.set_repl rfl ?_
        refine Frame.comp (State.record_frame _ _ _) rfl ?_
        try extract_lets
        refine Frame.set_md rfl (fun i => absurd i (by decide)) (fun i => absurd i (by decide)) ?_
        refine Frame.comp (State.returnPassed_frame _) rfl ?_
        exact Frame.refl _
      · refine Frame.comp (State.record_frame _ _ _) rfl ?_
        try extract_lets
        refine Frame.set_md rfl (fun i => absurd i (by decide)) (fun i => absurd i (by decide)) ?_
        refine Frame.comp (State.returnPassed_frame _) rfl ?_
        exact Frame.refl _
    · refine Frame.comp (State.enterJoin_frame _ _) rfl ?_
      refine Frame.ite (fun _ => ?_) (fun _ => ?_)
      · refine Frame.set_repl rfl ?_
        refine Frame.comp (State.record_frame _ _ _) rfl ?_
        try extract_lets
        refine Frame.set_md rfl (fun i => absurd i (by decide)) (fun i => absurd i (by decide)) ?_
        refine Frame.comp (State.returnPassed_frame _) rfl ?_
        exact Frame.refl _
      · refine Frame.comp (State.record_frame _ _ _) rfl ?_
        try extract_lets
        refine Frame.set_md rfl (fun i => absurd i (by decide)) (fun i => absurd i (by decide)) ?_
        refine Frame.comp (State.returnPassed_frame _) rfl ?_
        exact Frame.refl _

theorem State.finishStage_frame (a0 : _) (a1 : _) (a2 : _) (a3 : State) : Frame 8791234445311 a3 (State.finishStage a0 a1 a2 a3) := by
  unfold State.finishStage
  try extract_lets
  first | split | (dsimp +zetaDelta -proj only; split)
  · refine Frame.comp (State.stageOver_frame _) rfl ?_
    refine Frame.comp (State.notePassed_frame _ _ _) rfl ?_
    exact Frame.refl _
  · refine Frame.comp (State.stageOver_frame _) rfl ?_
    refine Frame.comp (State.bootLedger_frame _) rfl ?_
    refine Frame.comp (State.notePassed_frame _ _ _) rfl ?_
    exact Frame.refl _
  · refine Frame.ite (fun _ => ?_) (fun _ => ?_)
    · refine Frame.comp (State.stageOver_frame _) rfl ?_
      refine Frame.comp (State.notePassed_frame _ _ _) rfl ?_
      exact Frame.refl _
    · exact Frame.refl _
  · refine Frame.comp (State.bootImage_frame _) rfl ?_
    refine Frame.comp (State.notePassed_frame _ _ _) rfl ?_
    exact Frame.refl _
  · try extract_lets
    refine Frame.ite (fun _ => ?_) (fun _ => ?_)
    · refine Frame.comp (State.changeMode_frame _ _ _) rfl ?_
      refine Frame.comp (State.returnPassed_frame _) rfl ?_
      refine Frame.comp (State.stageOver_frame _) rfl ?_
      refine Frame.comp (State.loadImage_frame _) rfl ?_
      refine Frame.comp (State.notePassed_frame _ _ _) rfl ?_
      exact Frame.refl _
    · refine Frame.comp (State.stageOver_frame _) rfl ?_
      refine Frame.comp (State.loadImage_frame _) rfl ?_
      refine Frame.comp (State.notePassed_frame _ _ _) rfl ?_
      exact Frame.refl _
  · refine Frame.comp (State.stageOver_frame _) rfl ?_
    refine Frame.comp (State.bootModules_frame _) rfl ?_
    refine Frame.comp (State.notePassed_frame _ _ _) rfl ?_
    exact Frame.refl _
  · refine Frame.comp (State.stageOver_frame _) rfl ?_
    refine Frame.comp (State.bootKeys_frame _) rfl ?_
    refine Frame.comp (State.notePassed_frame _ _ _) rfl ?_
    exact Frame.refl _
  · refine Frame.comp (State.endBoot_frame _) rfl ?_
    refine Frame.comp (State.stageOver_frame _) rfl ?_
    refine Frame.comp (State.loadMap_frame _ _) rfl ?_
    refine Frame.comp (State.notePassed_frame _ _ _) rfl ?_
    exact Frame.refl _
  · exact Frame.refl _

theorem execBootStageDone_frame (a0 : _) (a1 : _) (a2 : _) (a3 : _) (a4 : State) : Frame.Out 8791234445311 a4 (execBootStageDone a0 a1 a2 a3 a4) := by
  unfold execBootStageDone
  try extract_lets
  refine Frame.next ?_
  refine Frame.ite (fun _ => ?_) (fun _ => ?_)
  · refine Frame.comp (State.finishStage_frame _ _ _ _) rfl ?_
    refine Frame.comp (State.advanceTo_frame _ _) rfl ?_
    exact Frame.refl _
  · refine Frame.comp (State.advanceTo_frame _ _) rfl ?_
    exact Frame.refl _

theorem execDecompressionDone_frame (t rid lane : Nat) (fault : Option LaneDecode) (s : State) :
    Frame.Out 8653793230847 s (execDecompressionDone t rid lane fault s) := by
  unfold execDecompressionDone
  extract_lets s1
  refine Frame.next ?_
  have h1 : Frame 8653793230847 s s1 := Frame.comp (State.advanceTo_frame _ _) rfl (Frame.refl _)
  clear_value s1
  split
  · exact h1
  · split
    · exact h1
    · rename_i rec _
      extract_lets only res s2
      refine Frame.ite (fun _ => h1) (fun _ => ?_)
      have h2 : Frame 8653793230847 s s2 := Frame.comp (State.countN_frame _ _ _) rfl
        (Frame.comp (State.count_frame _ _) rfl (Frame.comp (State.useIsland_frame _ _ _) rfl h1))
      clear_value s2 res
      generalize laneFailure rec res = o
      cases o with
      | some f =>
        dsimp only
        have h3 := fun r f => Frame.comp (State.laneFailed_frame r lane f _) (m := 8653793230847) rfl h2
        exact Frame.ite (fun _ => Frame.comp (State.updRead_frame _ _ _) rfl (h3 _ _))
          (fun _ => Frame.comp (State.readFail_frame _ _ _) rfl (h3 _ _))
      | none =>
        cases res with
        | ok bytes =>
          dsimp only
          have h3 := Frame.comp (State.countN_frame (ctrLane (32 + lane) 7) bytes.length _) (m := 8653793230847) rfl h2
          generalize State.countN (ctrLane (32 + lane) 7) bytes.length _ = s3 at h3 ⊢
          split
          · refine Frame.ite (fun _ => Frame.comp (State.deliver_frame _ _ _) rfl h3) (fun _ => ?_)
            exact Frame.comp (State.deliver_frame _ _ _) rfl (Frame.comp (State.fault_frame _ _ _ _ _) rfl
              (Frame.comp (State.count_frame _ _) rfl (Frame.comp (State.raise_frame _ _ _) rfl h3)))
          · exact Frame.comp (State.deliver_frame _ _ _) rfl h3
        | _ => exact h2

theorem execPlanMiss_frame (a0 : _) (a1 : State) : Frame.Out 8661303519 a1 (execPlanMiss a0 a1) := by
  unfold execPlanMiss
  try extract_lets
  refine Frame.next ?_
  refine Frame.ite (fun _ => ?_) (fun _ => ?_)
  · refine Frame.comp (State.advanceTo_frame _ _) rfl ?_
    exact Frame.refl _
  · try extract_lets
    try extract_lets
    try extract_lets
    refine Frame.ite (fun _ => ?_) (fun _ => ?_)
    · refine Frame.comp (State.declareOverload_frame _) rfl ?_
      refine Frame.set_md rfl (fun _ => rfl) (fun i => absurd i (by decide)) ?_
      refine Frame.comp (State.advanceTo_frame _ _) rfl ?_
      exact Frame.refl _
    · refine Frame.set_md rfl (fun _ => rfl) (fun i => absurd i (by decide)) ?_
      refine Frame.comp (State.advanceTo_frame _ _) rfl ?_
      exact Frame.refl _

theorem execSnapshotDelete_frame (a0 : _) (a1 : _) (a2 : _) (a3 : State) : Frame.Out 1888724677599 a3 (execSnapshotDelete a0 a1 a2 a3) := by
  unfold execSnapshotDelete
  refine Frame.next ?_
  refine State.admin_frame ?_ rfl ?_
  · intro _ _
    refine Frame.comp (State.runC1h_frame _ _ _) rfl ?_
    assumption
  · refine Frame.comp (State.advanceTo_frame _ _) rfl ?_
    exact Frame.refl _

theorem execClockRestore_frame (a0 : _) (a1 : _) (a2 : State) : Frame.Out 65567 a2 (execClockRestore a0 a1 a2) := by
  unfold execClockRestore
  try extract_lets
  refine Frame.next ?_
  refine Frame.ite (fun _ => ?_) (fun _ => ?_)
  · refine Frame.comp (State.record_frame _ _ _) rfl ?_
    refine Frame.set_time rfl ?_ ?_
    · first | exact Nat.le_refl _ | exact Nat.le_add_right _ _ | (dsimp only; split <;> exact Nat.le_refl _)
    refine Frame.comp (State.advanceTo_frame _ _) rfl ?_
    exact Frame.refl _
  · refine Frame.ite (fun _ => ?_) (fun _ => ?_)
    · refine Frame.comp (State.record_frame _ _ _) rfl ?_
      refine Frame.set_time rfl ?_ ?_
      · first | exact Nat.le_refl _ | exact Nat.le_add_right _ _ | (dsimp only; split <;> exact Nat.le_refl _)
      refine Frame.comp (State.advanceTo_frame _ _) rfl ?_
      exact Frame.refl _
    · refine Frame.comp (State.advanceTo_frame _ _) rfl ?_
      exact Frame.refl _

theorem execQuotaWrite_frame (a0 : _) (a1 : _) (a2 : _) (a3 : State) : Frame.Out 32773 a3 (execQuotaWrite a0 a1 a2 a3) := by
  unfold execQuotaWrite
  refine Frame.next ?_
  refine Frame.comp (State.writeQuota_frame _ _ _) rfl ?_
  refine Frame.comp (State.advanceTo_frame _ _) rfl ?_
  exact Frame.refl _

theorem execLockIdleTimeout_frame (a0 : _) (a1 : State) : Frame.Out 4295163935 a1 (execLockIdleTimeout a0 a1) := by
  unfold execLockIdleTimeout
  try extract_lets
  refine Frame.next ?_
  refine Frame.ite (fun _ => ?_) (fun _ => ?_)
  · refine Frame.comp (State.record_frame _ _ _) rfl ?_
    refine Frame.comp (State.raise_frame _ _ _) rfl ?_
    refine Frame.comp (State.freeLock_frame _) rfl ?_
    refine Frame.comp (State.advanceTo_frame _ _) rfl ?_
    exact Frame.refl _
  · refine Frame.comp (State.advanceTo_frame _ _) rfl ?_
    exact Frame.refl _

theorem execAcceptance_frame (a0 : _) (a1 : _) (a2 : _) (a3 : _) (a4 : State) : Frame.Out 1229438662655 a4 (execAcceptance a0 a1 a2 a3 a4) := by
  unfold execAcceptance
  try extract_lets
  refine Frame.next ?_
  first | split | (dsimp +zetaDelta -proj only; split)
  · refine Frame.comp (State.advanceTo_frame _ _) rfl ?_
    exact Frame.refl _
  · refine Frame.ite (fun _ => ?_) (fun _ => ?_)
    · refine Frame.comp (State.advanceTo_frame _ _) rfl ?_
      exact Frame.refl _
    · refine Frame.comp (State.dataArrived_frame _ _ _ _) rfl ?_
      refine Frame.comp (State.advanceTo_frame _ _) rfl ?_
      exact Frame.refl _

theorem execFoldProgramVerified_frame (a0 : _) (a1 : _) (a2 : _) (a3 : _) (a4 : _) (a5 : _) (a6 : _) (a7 : State) : Frame.Out 8104037400575 a7 (execFoldProgramVerified a0 a1 a2 a3 a4 a5 a6 a7) := by
  unfold execFoldProgramVerified
  try extract_lets
  refine Frame.next ?_
  first | split | (dsimp +zetaDelta -proj only; split)
  · try extract_lets
    refine Frame.ite (fun _ => ?_) (fun _ => ?_)
    · refine Frame.comp (State.advanceTo_frame _ _) rfl ?_
      exact Frame.refl _
    · first | split | (dsimp +zetaDelta -proj only; split)
      · try extract_lets
        try extract_lets
        first | split | (dsimp +zetaDelta -proj only; split)
        · refine Frame.comp (State.fault_frame _ _ _ _ _) rfl ?_
          refine Frame.comp (State.markBlock_frame _ _ _) rfl ?_
          refine Frame.comp (State.raise_frame _ _ _) rfl ?_
          refine Frame.comp (State.count_frame _ _) rfl ?_
          refine Frame.set_path rfl (fun i => absurd i (by decide)) (fun i => absurd i (by decide)) (fun i => absurd i (by decide)) ?_
          refine Frame.comp (State.updStripe_frame _ _ _ _) rfl ?_
          refine Frame.comp (State.advanceTo_frame _ _) rfl ?_
          exact Frame.refl _
        · refine Frame.set_path rfl (fun i => absurd i (by decide)) (fun i => absurd i (by decide)) (fun i => absurd i (by decide)) ?_
          refine Frame.comp (State.updStripe_frame _ _ _ _) rfl ?_
          refine Frame.comp (State.advanceTo_frame _ _) rfl ?_
          exact Frame.refl _
      · try extract_lets
        try extract_lets
        refine Frame.comp (State.startErases_frame _) rfl ?_
        refine Frame.comp (State.moveFolded_frame _ _ _ _ _ _) rfl ?_
        refine Frame.set_path rfl (fun i => absurd i (by decide)) (fun i => absurd i (by decide)) (fun i => absurd i (by decide)) ?_
        refine Frame.comp (State.advanceTo_frame _ _) rfl ?_
        exact Frame.refl _
  · refine Frame.comp (State.advanceTo_frame _ _) rfl ?_
    exact Frame.refl _

theorem execTideSyncExchange_frame (t p : Nat) (k : Int) (s : State) : Frame.Out 2147491841 s (execTideSyncExchange t p k s) := by
  unfold execTideSyncExchange
  extract_lets s1
  have h1 : Frame 2147491841 s s1 := Frame.comp (State.advanceTo_frame _ _) rfl (Frame.refl _)
  clear_value s1
  refine Frame.next (Frame.ite (fun _ => h1) (fun _ => ?_))
  refine Frame.comp (State.updMoor_frame _ _) rfl (Frame.ite (fun h => ?_) (fun _ => h1))
  refine Frame.set_time rfl ?_ h1
  simp only [Bool.and_eq_true, decide_eq_true_eq] at h
  exact Nat.le_of_lt h.2

theorem execFloorWrite_frame (a0 : _) (a1 : _) (a2 : _) (a3 : State) : Frame.Out 8594194655 a3 (execFloorWrite a0 a1 a2 a3) := by
  unfold execFloorWrite
  refine Frame.next ?_
  refine Frame.comp (State.writeFloor_frame _ _ _) rfl ?_
  refine Frame.comp (State.advanceTo_frame _ _) rfl ?_
  exact Frame.refl _

theorem State.newKeySlot_frame (a0 : State) : Frame 1332526412766 a0 (State.newKeySlot a0).2 := by
  unfold State.newKeySlot
  try extract_lets
  first | split | (dsimp +zetaDelta -proj only; split)
  · exact Frame.refl _
  · first | split | (dsimp +zetaDelta -proj only; split)
    · exact Frame.refl _
    · try extract_lets
      try extract_lets
      try extract_lets
      try extract_lets
      refine Frame.comp (State.record_frame _ _ _) rfl ?_
      refine Frame.comp (State.setReg_frame _ _ _) rfl ?_
      refine Frame.comp (State.applyChange_frame _ _ _ _ _ _) rfl ?_
      refine Frame.ite (fun _ => ?_) (fun _ => ?_)
      · refine Frame.comp (State.emit_frame _ _) rfl ?_
        refine Frame.comp (State.spendFree_frame _) rfl ?_
        refine Frame.comp (State.spendFree_frame _) rfl ?_
        exact Frame.refl _
      · refine Frame.set_moor rfl (fun _ => rfl) ?_
        refine Frame.comp (State.spendFree_frame _) rfl ?_
        refine Frame.comp (State.spendFree_frame _) rfl ?_
        exact Frame.refl _

theorem State.createNs_frame (a0 : _) (a1 : _) (a2 : _) (a3 : _) (a4 : _) (a5 : State) : Frame 1338968863710 a5 (State.createNs a0 a1 a2 a3 a4 a5) := by
  unfold State.createNs
  refine Frame.ite (fun _ => ?_) (fun _ => ?_)
  · refine Frame.comp (State.invalidField_frame _ _ _) rfl ?_
    exact Frame.refl _
  · refine Frame.ite (fun _ => ?_) (fun _ => ?_)
    · refine Frame.comp (State.completeAdmin_frame _ _ _ _ _ _) rfl ?_
      exact Frame.refl _
    · refine Frame.ite (fun _ => ?_) (fun _ => ?_)
      · refine Frame.comp (State.completeAdmin_frame _ _ _ _ _ _) rfl ?_
        exact Frame.refl _
      · try extract_lets
        first | split | (dsimp +zetaDelta -proj only; split)
        · refine Frame.comp (State.completeAdmin_frame _ _ _ _ _ _) rfl ?_
          refine Frame.comp (State.askBlock_frame _) rfl ?_
          exact Frame.refl _
        · first | split | (dsimp +zetaDelta -proj only; split)
          · refine Frame.comp (State.completeAdmin_frame _ _ _ _ _ _) rfl ?_
            refine Frame.snd ?_ (by assumption)
            refine Frame.comp (State.newKeySlot_frame _) rfl ?_
            refine Frame.comp (State.askBlock_frame _) rfl ?_
            exact Frame.refl _
          · refine Frame.comp (State.propose_frame _ _ _ _) rfl ?_
            refine Frame.snd ?_ (by assumption)
            refine Frame.comp (State.newKeySlot_frame _) rfl ?_
            refine Frame.comp (State.askBlock_frame _) rfl ?_
            exact Frame.refl _

theorem execNamespaceCreate_frame (a0 : _) (a1 : _) (a2 : _) (a3 : _) (a4 : _) (a5 : _) (a6 : State) : Frame.Out 1338968863711 a6 (execNamespaceCreate a0 a1 a2 a3 a4 a5 a6) := by
  unfold execNamespaceCreate
  refine Frame.next ?_
  refine State.admin_frame ?_ rfl ?_
  · intro _ _
    refine Frame.comp (State.createNs_frame _ _ _ _ _ _) rfl ?_
    assumption
  · refine Frame.comp (State.advanceTo_frame _ _) rfl ?_
    exact Frame.refl _

theorem execReadResp_frame (a0 : _) (a1 : _) (a2 : State) : Frame.Out 1919049528287 a2 (execReadResp a0 a1 a2) := by
  unfold execReadResp
  refine Frame.next ?_
  refine Frame.comp (State.arriveSeq_frame _ _) rfl ?_
  refine Frame.comp (State.advanceTo_frame _ _) rfl ?_
  exact Frame.refl _

theorem execStackBatchDone_frame (a0 : _) (a1 : _) (a2 : _) (a3 : _) (a4 : State) : Frame.Out 98335 a4 (execStackBatchDone a0 a1 a2 a3 a4) := by
  unfold execStackBatchDone
  try extract_lets
  refine Frame.next ?_
  first | split | (dsimp +zetaDelta -proj only; split)
  · refine Frame.comp (State.advanceTo_frame _ _) rfl ?_
    exact Frame.refl _
  · refine Frame.ite (fun _ => ?_) (fun _ => ?_)
    · refine Frame.ite (fun _ => ?_) (fun _ => ?_)
      · refine Frame.comp (State.advanceTo_frame _ _) rfl ?_
        exact Frame.refl _
      · refine Frame.comp (State.serveWaiting_frame _) rfl ?_
        refine Frame.comp (State.balance_frame _ _) rfl ?_
        refine Frame.comp (State.refill_frame _ _ _) rfl ?_
        refine Frame.comp (State.updPool_frame _ _ _) rfl ?_
        refine Frame.comp (State.advanceTo_frame _ _) rfl ?_
        exact Frame.refl _
    · refine Frame.ite (fun _ => ?_) (fun _ => ?_)
      · refine Frame.comp (State.advanceTo_frame _ _) rfl ?_
        exact Frame.refl _
      · refine Frame.comp (State.balance_frame _ _) rfl ?_
        refine Frame.comp (State.spill_frame _ _) rfl ?_
        refine Frame.comp (State.updPool_frame _ _ _) rfl ?_
        refine Frame.comp (State.advanceTo_frame _ _) rfl ?_
        exact Frame.refl _

theorem State.romSource_frame (a0 : _) (a1 : _) (a2 : State) : Frame 65566 a2 (State.romSource a0 a1 a2).2 := by
  unfold State.romSource
  first | split | (dsimp +zetaDelta -proj only; split)
  · refine Frame.comp (State.consumed_frame _ _ _) rfl ?_
    exact Frame.refl _
  · exact Frame.refl _

theorem execLdgRectail_frame (a0 : _) (a1 : _) (a2 : _) (a3 : State) : Frame.Out 138739743 a3 (execLdgRectail a0 a1 a2 a3) := by
  unfold execLdgRectail
  try extract_lets
  try extract_lets
  try extract_lets
  try extract_lets
  try extract_lets
  refine Frame.next ?_
  refine Frame.ite (fun _ => ?_) (fun _ => ?_)
  · refine Frame.comp (State.advanceTo_frame _ _) rfl ?_
    exact Frame.refl _
  · refine Frame.ite (fun _ => ?_) (fun _ => ?_)
    · refine Frame.comp (State.ldgRefuse_frame _ _ _ _ _) rfl ?_
      refine Frame.comp (State.advanceTo_frame _ _) rfl ?_
      exact Frame.refl _
    · first | split | (dsimp +zetaDelta -proj only; split)
      · refine Frame.snd ?_ (by assumption)
        refine Frame.comp (State.romSource_frame _ _ _) rfl ?_
        refine Frame.comp (State.advanceTo_frame _ _) rfl ?_
        exact Frame.refl _
      · refine Frame.comp (State.pump_frame _) rfl ?_
        refine Frame.set_ldg rfl ?_ ?_
        · exact id
        refine Frame.snd ?_ (by assumption)
        refine Frame.comp (State.romSource_frame _ _ _) rfl ?_
        refine Frame.comp (State.advanceTo_frame _ _) rfl ?_
        exact Frame.refl _

theorem execEraseAgeLimit_frame (a0 : _) (a1 : _) (a2 : State) : Frame.Out 327711 a2 (execEraseAgeLimit a0 a1 a2) := by
  unfold execEraseAgeLimit
  try extract_lets
  try extract_lets
  refine Frame.next ?_
  first | split | (dsimp +zetaDelta -proj only; split)
  · refine Frame.ite (fun _ => ?_) (fun _ => ?_)
    · refine Frame.comp (State.advanceTo_frame _ _) rfl ?_
      exact Frame.refl _
    · refine Frame.comp (State.record_frame _ _ _) rfl ?_
      refine Frame.comp (State.raise_frame _ _ _) rfl ?_
      refine Frame.comp (State.updBank_frame _ _ _) rfl ?_
      refine Frame.comp (State.advanceTo_frame _ _) rfl ?_
      exact Frame.refl _
  · refine Frame.comp (State.advanceTo_frame _ _) rfl ?_
    exact Frame.refl _

theorem execKeepaliveDue_frame (a0 : _) (a1 : _) (a2 : State) : Frame.Out 549760012305 a2 (execKeepaliveDue a0 a1 a2) := by
  unfold execKeepaliveDue
  try extract_lets
  refine Frame.next ?_
  first | split | (dsimp +zetaDelta -proj only; split)
  · refine Frame.ite (fun _ => ?_) (fun _ => ?_)
    · refine Frame.comp (State.sendSeq_frame _ _ _) rfl ?_
      refine Frame.comp (State.advanceTo_frame _ _) rfl ?_
      exact Frame.refl _
    · refine Frame.comp (State.advanceTo_frame _ _) rfl ?_
      exact Frame.refl _
  · refine Frame.comp (State.advanceTo_frame _ _) rfl ?_
    exact Frame.refl _

theorem execTallyLvalCommit_frame (a0 : _) (a1 : _) (a2 : _) (a3 : State) : Frame.Out 21 a3 (execTallyLvalCommit a0 a1 a2 a3) := by
  unfold execTallyLvalCommit
  refine Frame.next ?_
  refine Frame.comp (State.writeLval_frame _ _ _) rfl ?_
  refine Frame.comp (State.advanceTo_frame _ _) rfl ?_
  exact Frame.refl _

theorem execAckDelay_frame (a0 : _) (a1 : _) (a2 : State) : Frame.Out 549760012305 a2 (execAckDelay a0 a1 a2) := by
  unfold execAckDelay
  try extract_lets
  refine Frame.next ?_
  first | split | (dsimp +zetaDelta -proj only; split)
  · refine Frame.ite (fun _ => ?_) (fun _ => ?_)
    · refine Frame.comp (State.sendAck_frame _ _) rfl ?_
      refine Frame.comp (State.advanceTo_frame _ _) rfl ?_
      exact Frame.refl _
    · refine Frame.comp (State.advanceTo_frame _ _) rfl ?_
      exact Frame.refl _
  · refine Frame.comp (State.advanceTo_frame _ _) rfl ?_
    exact Frame.refl _

theorem execMasterSilence_frame (a0 : _) (a1 : State) : Frame.Out 81951 a1 (execMasterSilence a0 a1) := by
  unfold execMasterSilence
  try extract_lets
  refine Frame.next ?_
  first | split | (dsimp +zetaDelta -proj only; split)
  · refine Frame.comp (State.advanceTo_frame _ _) rfl ?_
    exact Frame.refl _
  · try extract_lets
    refine Frame.ite (fun _ => ?_) (fun _ => ?_)
    · refine Frame.comp (State.advanceTo_frame _ _) rfl ?_
      exact Frame.refl _
    · refine Frame.ite (fun _ => ?_) (fun _ => ?_)
      · refine Frame.comp (State.noMaster_frame _) rfl ?_
        refine Frame.set_repl rfl ?_
        refine Frame.comp (State.advanceTo_frame _ _) rfl ?_
        exact Frame.refl _
      · refine Frame.ite (fun _ => ?_) (fun _ => ?_)
        · refine Frame.comp (State.setMaster_frame _ _ _) rfl ?_
          refine Frame.comp (State.advanceTo_frame _ _) rfl ?_
          exact Frame.refl _
        · refine Frame.comp (State.advanceTo_frame _ _) rfl ?_
          exact Frame.refl _

theorem execResetRelease_frame (a0 : _) (a1 : _) (a2 : _) (a3 : _) (a4 : State) : Frame.Out 503382047 a4 (execResetRelease a0 a1 a2 a3 a4) := by
  unfold execResetRelease
  try extract_lets
  refine Frame.next ?_
  refine Frame.ite (fun _ => ?_) (fun _ => ?_)
  · refine Frame.comp (State.advanceTo_frame _ _) rfl ?_
    exact Frame.refl _
  · try extract_lets
    try extract_lets
    refine Frame.ite (fun _ => ?_) (fun _ => ?_)
    · refine Frame.comp (State.leaveReset_frame _) rfl ?_
      refine Frame.set_md rfl (fun i => absurd i (by decide)) (fun i => absurd i (by decide)) ?_
      refine Frame.comp (State.advanceTo_frame _ _) rfl ?_
      exact Frame.refl _
    · refine Frame.set_md rfl (fun i => absurd i (by decide)) (fun i => absurd i (by decide)) ?_
      refine Frame.comp (State.advanceTo_frame _ _) rfl ?_
      exact Frame.refl _

theorem execAdmRinfoRead_frame (a0 : _) (a1 : _) (a2 : State) : Frame.Out 4295098373 a2 (execAdmRinfoRead a0 a1 a2) := by
  unfold execAdmRinfoRead
  refine Frame.next ?_
  refine Frame.comp (State.readReg_frame _ _ _) rfl ?_
  refine Frame.comp (State.advanceTo_frame _ _) rfl ?_
  exact Frame.refl _

theorem execSelfTestDone_frame (a0 : _) (a1 : _) (a2 : _) (a3 : State) : Frame.Out 3705990889471 a3 (execSelfTestDone a0 a1 a2 a3) := by
  unfold execSelfTestDone
  try extract_lets
  refine Frame.next ?_
  refine Frame.ite (fun _ => ?_) (fun _ => ?_)
  · refine Frame.comp (State.advanceTo_frame _ _) rfl ?_
    exact Frame.refl _
  · try extract_lets
    refine Frame.comp (State.endTest_frame _ _ _) rfl ?_
    first | split | (dsimp +zetaDelta -proj only; split)
    · refine Frame.comp (State.katFault_frame _ _ _) rfl ?_
      refine Frame.comp (State.advanceTo_frame _ _) rfl ?_
      exact Frame.refl _
    · refine Frame.comp (State.advanceTo_frame _ _) rfl ?_
      exact Frame.refl _

theorem execLinkDelete_frame (a0 : _) (a1 : _) (a2 : _) (a3 : State) : Frame.Out 1888724677599 a3 (execLinkDelete a0 a1 a2 a3) := by
  unfold execLinkDelete
  refine Frame.next ?_
  refine Frame.comp (State.c2h_frame _ _ _ _ _ _ _) rfl ?_
  refine Frame.comp (State.advanceTo_frame _ _) rfl ?_
  exact Frame.refl _

theorem execIdentify_frame (a0 : _) (a1 : _) (a2 : _) (a3 : State) : Frame.Out 575529890015 a3 (execIdentify a0 a1 a2 a3) := by
  unfold execIdentify
  refine Frame.next ?_
  refine State.admin_frame ?_ rfl ?_
  · intro _ _
    refine Frame.comp (State.identify_frame _ _ _) rfl ?_
    assumption
  · refine Frame.comp (State.advanceTo_frame _ _) rfl ?_
    exact Frame.refl _

theorem execWake_frame (a0 : _) (a1 : _) (a2 : _) (a3 : State) : Frame.Out 1923445158879 a3 (execWake a0 a1 a2 a3) := by
  unfold execWake
  refine Frame.next ?_
  refine Frame.comp (State.writeMoorCmd_frame _ _ _) rfl ?_
  refine Frame.comp (State.advanceTo_frame _ _) rfl ?_
  exact Frame.refl _

theorem execLdgProgram_frame (a0 : _) (a1 : _) (a2 : _) (a3 : _) (a4 : State) : Frame.Out 138739743 a4 (execLdgProgram a0 a1 a2 a3 a4) := by
  unfold execLdgProgram
  try extract_lets
  try extract_lets
  try extract_lets
  try extract_lets
  refine Frame.next ?_
  refine Frame.ite (fun _ => ?_) (fun _ => ?_)
  · refine Frame.comp (State.advanceTo_frame _ _) rfl ?_
    exact Frame.refl _
  · first | split | (dsimp +zetaDelta -proj only; split)
    · refine Frame.comp (State.ldgRefuse_frame _ _ _ _ _) rfl ?_
      refine Frame.comp (State.advanceTo_frame _ _) rfl ?_
      exact Frame.refl _
    · refine Frame.ite (fun _ => ?_) (fun _ => ?_)
      · try extract_lets
        first | split | (dsimp +zetaDelta -proj only; split)
        · refine Frame.comp (State.flushRefused_frame _ _ _) rfl ?_
          refine Frame.comp (State.ldgRefuse_frame _ _ _ _ _) rfl ?_
          refine Frame.comp (State.advanceTo_frame _ _) rfl ?_
          exact Frame.refl _
        · refine Frame.comp (State.ldgRefuse_frame _ _ _ _ _) rfl ?_
          refine Frame.comp (State.advanceTo_frame _ _) rfl ?_
          exact Frame.refl _
      · first | split | (dsimp +zetaDelta -proj only; split)
        · refine Frame.snd ?_ (by assumption)
          refine Frame.comp (State.romSource_frame _ _ _) rfl ?_
          refine Frame.comp (State.advanceTo_frame _ _) rfl ?_
          exact Frame.refl _
        · refine Frame.comp (State.startProg_frame _ _) rfl ?_
          refine Frame.snd ?_ (by assumption)
          refine Frame.comp (State.romSource_frame _ _ _) rfl ?_
          refine Frame.comp (State.advanceTo_frame _ _) rfl ?_
          exact Frame.refl _

theorem execPartnerRepairResponse_frame (a0 : _) (a1 : _) (a2 : _) (a3 : State) : Frame.Out 8378780841951 a3 (execPartnerRepairResponse a0 a1 a2 a3) := by
  unfold execPartnerRepairResponse
  try extract_lets
  refine Frame.next ?_
  first | split | (dsimp +zetaDelta -proj only; split)
  · refine Frame.comp (State.advanceTo_frame _ _) rfl ?_
    exact Frame.refl _
  · refine Frame.ite (fun _ => ?_) (fun _ => ?_)
    · refine Frame.comp (State.advanceTo_frame _ _) rfl ?_
      exact Frame.refl _
    · first | split | (dsimp +zetaDelta -proj only; split)
      · refine Frame.comp (State.readFail_frame _ _ _) rfl ?_
        refine Frame.comp (State.advanceTo_frame _ _) rfl ?_
        exact Frame.refl _
      · refine Frame.ite (fun _ => ?_) (fun _ => ?_)
        · refine Frame.comp (State.deliver_frame _ _ _) rfl ?_
          refine Frame.comp (State.advanceTo_frame _ _) rfl ?_
          exact Frame.refl _
        · refine Frame.comp (State.updRead_frame _ _ _) rfl ?_
          refine Frame.comp (State.advanceTo_frame _ _) rfl ?_
          exact Frame.refl _

theorem execCommandWindowWrite_frame (a0 : _) (a1 : _) (a2 : _) (a3 : _) (a4 : State) : Frame.Out 138739743 a4 (execCommandWindowWrite a0 a1 a2 a3 a4) := by
  unfold execCommandWindowWrite
  try extract_lets
  refine Frame.next ?_
  refine Frame.ite (fun _ => ?_) (fun _ => ?_)
  · refine Frame.comp (State.advanceTo_frame _ _) rfl ?_
    exact Frame.refl _
  · refine Frame.comp (State.windowWrite_frame _ _ _) rfl ?_
    refine Frame.comp (State.advanceTo_frame _ _) rfl ?_
    exact Frame.refl _

theorem execHiHalfWrite_frame (a0 : _) (a1 : _) (a2 : _) (a3 : _) (a4 : State) : Frame.Out 8521197289471 a4 (execHiHalfWrite a0 a1 a2 a3 a4) := by
  unfold execHiHalfWrite
  refine Frame.next ?_
  refine Frame.comp (State.busWrite_frame _ _ _ _) rfl ?_
  refine Frame.comp (State.advanceTo_frame _ _) rfl ?_
  exact Frame.refl _

theorem State.spiFetch_frame (a : Nat) (s : State) : Frame 4295688222 s (State.spiFetch a s).2.2 := by
  unfold State.spiFetch
  split
  · exact Frame.comp (State.readReg_frame _ _ _) rfl (Frame.refl _)
  · generalize bulkOf a = bo
    cases bo with
    | some n => exact Frame.comp (State.bulkRead_frame _ _ _) rfl (Frame.refl _)
    | none =>
      dsimp only
      generalize a - 0x80000000 = o
      split
      · split
        · exact Frame.comp (State.busyRead_frame _ _ _) rfl (Frame.refl _)
        · exact Frame.refl _
      · exact Frame.comp (State.unmapped_frame _) rfl (Frame.refl _)

theorem State.spiReadWords_frame (e : Nat) : ∀ (n : Nat) (a : Nat) (s : State), Frame 4295688222 s (State.spiReadWords e n a s).1
  | 0, _, s => Frame.refl s
  | n + 1, a, s => by
    unfold State.spiReadWords
    split
    · exact Frame.comp (State.spiErr_frame _ _) rfl (Frame.refl _)
    · refine Frame.comp (State.spiReadWords_frame e n (a + 4) _) rfl ?_
      have h : Frame 4295688222 s (State.spiFetch a s).2.2 := Frame.comp (State.spiFetch_frame a s) rfl (Frame.refl _)
      refine Frame.ite (fun _ => ?_) (fun _ => h)
      exact Frame.comp (State.raise_frame _ _ _) rfl h

theorem execSpiRead_frame (a0 : _) (a1 : _) (a2 : _) (a3 : _) (a4 : _) (a5 : State) : Frame.Out 4299882527 a5 (execSpiRead a0 a1 a2 a3 a4 a5) := by
  unfold execSpiRead
  try extract_lets
  try extract_lets
  refine Frame.next ?_
  refine State.spiFrame_frame ?_ rfl ?_
  · intro _ _
    first | split | (dsimp +zetaDelta -proj only; split)
    · try extract_lets
      refine Frame.ite (fun _ => ?_) (fun _ => ?_)
      · refine Frame.fst ?_ (by assumption)
        refine Frame.comp (State.spiReadWords_frame _ _ _ _) rfl ?_
        assumption
      · refine Frame.ite (fun _ => ?_) (fun _ => ?_)
        · refine Frame.comp (State.spiErr_frame _ _) rfl ?_
          refine Frame.fst ?_ (by assumption)
          refine Frame.comp (State.spiReadWords_frame _ _ _ _) rfl ?_
          assumption
        · refine Frame.comp (State.spiErr_frame _ _) rfl ?_
          refine Frame.comp (State.spiReadWords_frame _ _ _ _) rfl ?_
          refine Frame.fst ?_ (by assumption)
          refine Frame.comp (State.spiReadWords_frame _ _ _ _) rfl ?_
          assumption
  · refine Frame.comp (State.advanceTo_frame _ _) rfl ?_
    exact Frame.refl _

theorem execLinkUp_frame (a0 : _) (a1 : _) (a2 : _) (a3 : State) : Frame.Out 283472102655 a3 (execLinkUp a0 a1 a2 a3) := by
  unfold execLinkUp
  try extract_lets
  refine Frame.next ?_
  refine Frame.ite (fun _ => ?_) (fun _ => ?_)
  · refine Frame.comp (State.advanceTo_frame _ _) rfl ?_
    exact Frame.refl _
  · refine Frame.ite (fun _ => ?_) (fun _ => ?_)
    · refine Frame.comp (State.setLane_frame _ _ _) rfl ?_
      refine Frame.comp (State.advanceTo_frame _ _) rfl ?_
      exact Frame.refl _
    · try extract_lets
      refine Frame.ite (fun _ => ?_) (fun _ => ?_)
      · try extract_lets
        refine Frame.comp (State.recompute_frame _ _) rfl ?_
        refine Frame.comp (State.returnUnit_frame _ _) rfl ?_
        refine Frame.comp (State.setLane_frame _ _ _) rfl ?_
        refine Frame.comp (State.advanceTo_frame _ _) rfl ?_
        exact Frame.refl _
      · refine Frame.comp (State.setLane_frame _ _ _) rfl ?_
        refine Frame.comp (State.advanceTo_frame _ _) rfl ?_
        exact Frame.refl _

theorem execLoadGcm_frame (a0 : _) (a1 : _) (a2 : _) (a3 : State) : Frame.Out 1888716288991 a3 (execLoadGcm a0 a1 a2 a3) := by
  unfold execLoadGcm
  refine Frame.next ?_
  refine Frame.comp (State.writeKcmd_frame _ _ _) rfl ?_
  refine Frame.comp (State.advanceTo_frame _ _) rfl ?_
  exact Frame.refl _

theorem execCheckpointPeriod_frame (a0 : _) (a1 : State) : Frame.Out 8104037400575 a1 (execCheckpointPeriod a0 a1) := by
  unfold execCheckpointPeriod
  try extract_lets
  refine Frame.next ?_
  refine Frame.ite (fun _ => ?_) (fun _ => ?_)
  · refine Frame.comp (State.advanceTo_frame _ _) rfl ?_
    exact Frame.refl _
  · refine Frame.comp (State.startErases_frame _) rfl ?_
    refine Frame.comp (State.checkpoint_frame _ _) rfl ?_
    refine Frame.comp (State.advanceTo_frame _ _) rfl ?_
    exact Frame.refl _

theorem execTallyStagingDone_frame (a0 : _) (a1 : State) : Frame.Out 276922385 a1 (execTallyStagingDone a0 a1) := by
  unfold execTallyStagingDone
  try extract_lets
  refine Frame.next ?_
  refine Frame.ite (fun _ => ?_) (fun _ => ?_)
  · refine Frame.comp (State.tallyStage_frame _) rfl ?_
    refine Frame.comp (State.advanceTo_frame _ _) rfl ?_
    exact Frame.refl _
  · refine Frame.comp (State.advanceTo_frame _ _) rfl ?_
    exact Frame.refl _

theorem State.losePath_frame (a0 : _) (a1 : State) : Frame 2151751710 a1 (State.losePath a0 a1) := by
  unfold State.losePath
  try extract_lets
  try extract_lets
  refine Frame.ite (fun _ => ?_) (fun _ => ?_)
  · try extract_lets
    refine Frame.ite (fun _ => ?_) (fun _ => ?_)
    · refine Frame.comp (State.sendClaim_frame _ _) rfl ?_
      refine Frame.comp (State.updMoor_frame _ _) rfl ?_
      refine Frame.comp (State.raise_frame _ _ _) rfl ?_
      refine Frame.comp (State.record_frame _ _ _) rfl ?_
      refine Frame.comp (State.raise_frame _ _ _) rfl ?_
      refine Frame.comp (State.record_frame _ _ _) rfl ?_
      refine Frame.comp (State.updMoor_frame _ _) rfl ?_
      exact Frame.refl _
    · refine Frame.comp (State.updMoor_frame _ _) rfl ?_
      refine Frame.comp (State.raise_frame _ _ _) rfl ?_
      refine Frame.comp (State.record_frame _ _ _) rfl ?_
      refine Frame.comp (State.raise_frame _ _ _) rfl ?_
      refine Frame.comp (State.record_frame _ _ _) rfl ?_
      refine Frame.comp (State.updMoor_frame _ _) rfl ?_
      exact Frame.refl _
  · refine Frame.comp (State.raise_frame _ _ _) rfl ?_
    refine Frame.comp (State.record_frame _ _ _) rfl ?_
    refine Frame.comp (State.updMoor_frame _ _) rfl ?_
    exact Frame.refl _

theorem State.tryPath_frame (a0 : _) (a1 : _) (a2 : State) : Frame 2147557406 a2 (State.tryPath a0 a1 a2) := by
  unfold State.tryPath
  try extract_lets
  try extract_lets
  refine Frame.ite (fun _ => ?_) (fun _ => ?_)
  · refine Frame.comp (State.restorePath_frame _ _ _) rfl ?_
    refine Frame.comp (State.updMoor_frame _ _) rfl ?_
    exact Frame.refl _
  · refine Frame.comp (State.updMoor_frame _ _) rfl ?_
    exact Frame.refl _

theorem execPathCheck_frame (a0 : _) (a1 : _) (a2 : State) : Frame.Out 2151751711 a2 (execPathCheck a0 a1 a2) := by
  unfold execPathCheck
  try extract_lets
  try extract_lets
  refine Frame.next ?_
  refine Frame.ite (fun _ => ?_) (fun _ => ?_)
  · refine Frame.comp (State.advanceTo_frame _ _) rfl ?_
    exact Frame.refl _
  · refine Frame.ite (fun _ => ?_) (fun _ => ?_)
    · refine Frame.ite (fun _ => ?_) (fun _ => ?_)
      · refine Frame.comp (State.losePath_frame _ _) rfl ?_
        refine Frame.comp (State.advanceTo_frame _ _) rfl ?_
        exact Frame.refl _
      · refine Frame.comp (State.advanceTo_frame _ _) rfl ?_
        exact Frame.refl _
    · refine Frame.ite (fun _ => ?_) (fun _ => ?_)
      · refine Frame.comp (State.advanceTo_frame _ _) rfl ?_
        exact Frame.refl _
      · refine Frame.comp (State.tryPath_frame _ _ _) rfl ?_
        refine Frame.comp (State.advanceTo_frame _ _) rfl ?_
        exact Frame.refl _

theorem execMapLineRebuilt_frame (a0 : _) (a1 : _) (a2 : _) (a3 : State) : Frame.Out 65823 a3 (execMapLineRebuilt a0 a1 a2 a3) := by
  unfold execMapLineRebuilt
  try extract_lets
  try extract_lets
  refine Frame.next ?_
  refine Frame.ite (fun _ => ?_) (fun _ => ?_)
  · refine Frame.comp (State.record_frame _ _ _) rfl ?_
    refine Frame.set_path rfl (fun _ => rfl) (fun _ => rfl) (fun _ => rfl) ?_
    refine Frame.comp (State.advanceTo_frame _ _) rfl ?_
    exact Frame.refl _
  · refine Frame.comp (State.advanceTo_frame _ _) rfl ?_
    exact Frame.refl _

theorem execTallyLatch_frame (a0 : _) (a1 : State) : Frame.Out 268435473 a1 (execTallyLatch a0 a1) := by
  unfold execTallyLatch
  try extract_lets
  refine Frame.next ?_
  refine Frame.ite (fun _ => ?_) (fun _ => ?_)
  · refine Frame.comp (State.tallyCopy_frame _) rfl ?_
    refine Frame.comp (State.advanceTo_frame _ _) rfl ?_
    exact Frame.refl _
  · refine Frame.comp (State.advanceTo_frame _ _) rfl ?_
    exact Frame.refl _

theorem execAbort_frame (a0 : _) (a1 : _) (a2 : _) (a3 : State) : Frame.Out 26847818207 a3 (execAbort a0 a1 a2 a3) := by
  unfold execAbort
  refine Frame.next ?_
  refine State.admin_frame ?_ rfl ?_
  · intro _ _
    refine Frame.comp (State.abort_frame _ _ _) rfl ?_
    assumption
  · refine Frame.comp (State.advanceTo_frame _ _) rfl ?_
    exact Frame.refl _

theorem execButtonRelease_frame (a0 : _) (a1 : State) : Frame.Out 824608555007 a1 (execButtonRelease a0 a1) := by
  unfold execButtonRelease
  try extract_lets
  refine Frame.next ?_
  first | split | (dsimp +zetaDelta -proj only; split)
  · refine Frame.comp (State.advanceTo_frame _ _) rfl ?_
    exact Frame.refl _
  · try extract_lets
    try extract_lets
    refine Frame.ite (fun _ => ?_) (fun _ => ?_)
    · refine Frame.comp (State.record_frame _ _ _) rfl ?_
      refine Frame.set_md rfl (fun i => absurd i (by decide)) (fun i => absurd i (by decide)) ?_
      refine Frame.comp (State.advanceTo_frame _ _) rfl ?_
      exact Frame.refl _
    · refine Frame.ite (fun _ => ?_) (fun _ => ?_)
      · refine Frame.set_md rfl (fun i => absurd i (by decide)) (fun i => absurd i (by decide)) ?_
        refine Frame.comp (State.advanceTo_frame _ _) rfl ?_
        exact Frame.refl _
      · refine Frame.comp (State.classPress_frame _ _) rfl ?_
        refine Frame.set_md rfl (fun i => absurd i (by decide)) (fun i => absurd i (by decide)) ?_
        refine Frame.comp (State.advanceTo_frame _ _) rfl ?_
        exact Frame.refl _

theorem execPortRestartDone_frame (a0 : _) (a1 : _) (a2 : State) : Frame.Out 33 a2 (execPortRestartDone a0 a1 a2) := by
  unfold execPortRestartDone
  try extract_lets
  refine Frame.next ?_
  first | split | (dsimp +zetaDelta -proj only; split)
  · refine Frame.comp (State.advanceTo_frame _ _) rfl ?_
    exact Frame.refl _
  · try extract_lets
    refine Frame.set_faults rfl (fun _ => rfl) ?_
    refine Frame.foldl (fun _ _ _ => ?_) ?_
    · refine Frame.comp (State.setLane_frame _ _ _) rfl ?_
      assumption
    · refine Frame.comp (State.advanceTo_frame _ _) rfl ?_
      exact Frame.refl _

theorem execModuleMakeUnused_frame (a0 : _) (a1 : _) (a2 : _) (a3 : State) : Frame.Out 138742815 a3 (execModuleMakeUnused a0 a1 a2 a3) := by
  unfold execModuleMakeUnused
  refine Frame.next ?_
  refine Frame.comp (State.writeModcmd_frame _ _ _) rfl ?_
  refine Frame.comp (State.advanceTo_frame _ _) rfl ?_
  exact Frame.refl _

theorem execPreservationCheckpoint_frame (a0 : _) (a1 : State) : Frame.Out 65793 a1 (execPreservationCheckpoint a0 a1) := by
  unfold execPreservationCheckpoint
  try extract_lets
  refine Frame.next ?_
  refine Frame.ite (fun _ => ?_) (fun _ => ?_)
  · refine Frame.comp (State.assertLine_frame _ _) rfl ?_
    refine Frame.comp (State.checkpoint_frame _ _) rfl ?_
    refine Frame.comp (State.advanceTo_frame _ _) rfl ?_
    exact Frame.refl _
  · refine Frame.comp (State.advanceTo_frame _ _) rfl ?_
    exact Frame.refl _

theorem State.startTest_frame (a0 : _) (a1 : _) (a2 : _) (a3 : State) : Frame 26847817950 a3 (State.startTest a0 a1 a2 a3) := by
  unfold State.startTest
  refine Frame.ite (fun _ => ?_) (fun _ => ?_)
  · refine Frame.comp (State.invalidField_frame _ _ _) rfl ?_
    exact Frame.refl _
  · refine Frame.ite (fun _ => ?_) (fun _ => ?_)
    · refine Frame.comp (State.completeAdmin_frame _ _ _ _ _ _) rfl ?_
      exact Frame.refl _
    · refine Frame.comp (State.completeAdmin_frame _ _ _ _ _ _) rfl ?_
      refine Frame.comp (State.record_frame _ _ _) rfl ?_
      refine Frame.set_nvq rfl (fun i => absurd i (by decide)) (fun _ => rfl) ?_
      exact Frame.refl _

theorem execSelfTestShort_frame (a0 : _) (a1 : _) (a2 : _) (a3 : State) : Frame.Out 26847817951 a3 (execSelfTestShort a0 a1 a2 a3) := by
  unfold execSelfTestShort
  refine Frame.next ?_
  refine State.admin_frame ?_ rfl ?_
  · intro _ _
    refine Frame.comp (State.startTest_frame _ _ _ _) rfl ?_
    assumption
  · refine Frame.comp (State.advanceTo_frame _ _) rfl ?_
    exact Frame.refl _

theorem execVoterCalibration_frame (a0 : _) (a1 : _) (a2 : _) (a3 : State) : Frame.Out 2147557407 a3 (execVoterCalibration a0 a1 a2 a3) := by
  unfold execVoterCalibration
  try extract_lets
  refine Frame.next ?_
  first | split | (dsimp +zetaDelta -proj only; split)
  · refine Frame.comp (State.advanceTo_frame _ _) rfl ?_
    exact Frame.refl _
  · refine Frame.ite (fun _ => ?_) (fun _ => ?_)
    · refine Frame.comp (State.advanceTo_frame _ _) rfl ?_
      exact Frame.refl _
    · first | split | (dsimp +zetaDelta -proj only; split)
      · refine Frame.comp (State.updVoter_frame _ _ _) rfl ?_
        refine Frame.comp (State.advanceTo_frame _ _) rfl ?_
        exact Frame.refl _
      · try extract_lets
        try extract_lets
        try extract_lets
        refine Frame.ite (fun _ => ?_) (fun _ => ?_)
        · refine Frame.comp (State.record_frame _ _ _) rfl ?_
          refine Frame.comp (State.checkFailed_frame _) rfl ?_
          refine Frame.comp (State.updVoter_frame _ _ _) rfl ?_
          refine Frame.comp (State.advanceTo_frame _ _) rfl ?_
          exact Frame.refl _
        · refine Frame.comp (State.updVoter_frame _ _ _) rfl ?_
          refine Frame.comp (State.advanceTo_frame _ _) rfl ?_
          exact Frame.refl _

theorem execModeReqHoldup_frame (a0 : _) (a1 : _) (a2 : _) (a3 : State) : Frame.Out 1781711352831 a3 (execModeReqHoldup a0 a1 a2 a3) := by
  unfold execModeReqHoldup
  refine Frame.next ?_
  refine Frame.comp (State.writeModeReq_frame _ _ _) rfl ?_
  refine Frame.comp (State.advanceTo_frame _ _) rfl ?_
  exact Frame.refl _

theorem execPodHeartbeatSend_frame (a0 : _) (a1 : State) : Frame.Out 4210689 a1 (execPodHeartbeatSend a0 a1) := by
  unfold execPodHeartbeatSend
  try extract_lets
  try extract_lets
  refine Frame.next ?_
  refine Frame.ite (fun _ => ?_) (fun _ => ?_)
  · refine Frame.comp (State.advanceTo_frame _ _) rfl ?_
    exact Frame.refl _
  · refine Frame.comp (State.emit_frame _ _) rfl ?_
    refine Frame.set_repl rfl ?_
    refine Frame.comp (State.advanceTo_frame _ _) rfl ?_
    exact Frame.refl _

theorem execReshapeStripeMigrated_frame (a0 : _) (a1 : State) : Frame.Out 8104037400575 a1 (execReshapeStripeMigrated a0 a1) := by
  unfold execReshapeStripeMigrated
  try extract_lets
  refine Frame.next ?_
  refine Frame.ite (fun _ => ?_) (fun _ => ?_)
  · refine Frame.comp (State.advanceTo_frame _ _) rfl ?_
    exact Frame.refl _
  · first | split | (dsimp +zetaDelta -proj only; split)
    · try extract_lets
      try extract_lets
      try extract_lets
      try extract_lets
      refine Frame.comp (State.startErases_frame _) rfl ?_
      refine Frame.ite (fun _ => ?_) (fun _ => ?_)
      · refine Frame.comp (State.endReshape_frame _) rfl ?_
        refine Frame.comp (State.boundaryRecord_frame _ _) rfl ?_
        refine Frame.set_strp rfl ?_
        refine Frame.comp (State.updStripe_frame _ _ _ _) rfl ?_
        refine Frame.foldl (fun _ _ _ => ?_) ?_
        · refine Frame.comp (State.gcMove_frame _ _) rfl ?_
          assumption
        · refine Frame.comp (State.advanceTo_frame _ _) rfl ?_
          exact Frame.refl _
      · refine Frame.comp (State.boundaryRecord_frame _ _) rfl ?_
        refine Frame.set_strp rfl ?_
        refine Frame.comp (State.updStripe_frame _ _ _ _) rfl ?_
        refine Frame.foldl (fun _ _ _ => ?_) ?_
        · refine Frame.comp (State.gcMove_frame _ _) rfl ?_
          assumption
        · refine Frame.comp (State.advanceTo_frame _ _) rfl ?_
          exact Frame.refl _
    · refine Frame.comp (State.endReshape_frame _) rfl ?_
      refine Frame.comp (State.advanceTo_frame _ _) rfl ?_
      exact Frame.refl _
    · refine Frame.comp (State.advanceTo_frame _ _) rfl ?_
      exact Frame.refl _

theorem execHoldLimitExpiry_frame (a0 : _) (a1 : _) (a2 : _) (a3 : _) (a4 : State) : Frame.Out 27921559775 a4 (execHoldLimitExpiry a0 a1 a2 a3 a4) := by
  unfold execHoldLimitExpiry
  try extract_lets
  refine Frame.next ?_
  first | split | (dsimp +zetaDelta -proj only; split)
  · refine Frame.ite (fun _ => ?_) (fun _ => ?_)
    · refine Frame.comp (State.holdExpire_frame _ _) rfl ?_
      refine Frame.comp (State.advanceTo_frame _ _) rfl ?_
      exact Frame.refl _
    · refine Frame.comp (State.advanceTo_frame _ _) rfl ?_
      exact Frame.refl _
  · first | split | (dsimp +zetaDelta -proj only; split)
    · first | split | (dsimp +zetaDelta -proj only; split)
      · refine Frame.ite (fun _ => ?_) (fun _ => ?_)
        · refine Frame.comp (State.complete_frame _ _ _ _ _ _ _ _) rfl ?_
          refine Frame.comp (State.record_frame _ _ _) rfl ?_
          refine Frame.set_moor rfl (fun i => absurd i (by decide)) ?_
          refine Frame.comp (State.advanceTo_frame _ _) rfl ?_
          exact Frame.refl _
        · refine Frame.comp (State.advanceTo_frame _ _) rfl ?_
          exact Frame.refl _
      · refine Frame.comp (State.advanceTo_frame _ _) rfl ?_
        exact Frame.refl _
    · refine Frame.comp (State.advanceTo_frame _ _) rfl ?_
      exact Frame.refl _

theorem execSetFeaturesCompression_frame (a0 : _) (a1 : _) (a2 : _) (a3 : State) : Frame.Out 1128506929375 a3 (execSetFeaturesCompression a0 a1 a2 a3) := by
  unfold execSetFeaturesCompression
  refine Frame.next ?_
  refine State.admin_frame ?_ rfl ?_
  · intro _ _
    refine Frame.comp (State.setCompression_frame _ _ _) rfl ?_
    assumption
  · refine Frame.comp (State.advanceTo_frame _ _) rfl ?_
    exact Frame.refl _

theorem execUnmappedAccess_frame (a0 : _) (a1 : _) (a2 : _) (a3 : _) (a4 : State) : Frame.Out 5 a4 (execUnmappedAccess a0 a1 a2 a3 a4) := by
  unfold execUnmappedAccess
  try extract_lets
  refine Frame.next ?_
  refine Frame.ite (fun _ => ?_) (fun _ => ?_)
  · refine Frame.comp (State.advanceTo_frame _ _) rfl ?_
    exact Frame.refl _
  · refine Frame.ite (fun _ => ?_) (fun _ => ?_)
    · refine Frame.comp (State.advanceTo_frame _ _) rfl ?_
      exact Frame.refl _
    · refine Frame.ite (fun _ => ?_) (fun _ => ?_)
      · refine State.gateWrite_frame ?_ rfl ?_
        · intro _ _ _
          assumption
        · refine Frame.comp (State.advanceTo_frame _ _) rfl ?_
          exact Frame.refl _
      · refine State.gateRead_frame ?_ rfl ?_
        · intro _ _ _
          assumption
        · refine Frame.comp (State.advanceTo_frame _ _) rfl ?_
          exact Frame.refl _

theorem execDmaKick_frame (a0 : _) (a1 : _) (a2 : _) (a3 : State) : Frame.Out 675643423 a3 (execDmaKick a0 a1 a2 a3) := by
  unfold execDmaKick
  refine Frame.next ?_
  refine Frame.comp (State.writeKick_frame _ _ _) rfl ?_
  refine Frame.comp (State.advanceTo_frame _ _) rfl ?_
  exact Frame.refl _

theorem execRegisterWrite_frame (a0 : _) (a1 : _) (a2 : _) (a3 : _) (a4 : State) : Frame.Out 8521197289471 a4 (execRegisterWrite a0 a1 a2 a3 a4) := by
  unfold execRegisterWrite
  refine Frame.next ?_
  refine Frame.comp (State.busWrite_frame _ _ _ _) rfl ?_
  refine Frame.comp (State.advanceTo_frame _ _) rfl ?_
  exact Frame.refl _

theorem State.appendMirror_frame (a0 : _) (a1 : State) : Frame 6597069833598 a1 (State.appendMirror a0 a1) := by
  unfold State.appendMirror
  try extract_lets
  try extract_lets
  try extract_lets
  try extract_lets
  try extract_lets
  try extract_lets
  try extract_lets
  first | split | (dsimp +zetaDelta -proj only; split)
  · try extract_lets
    refine Frame.comp (State.wakeDue_frame _) rfl ?_
    refine Frame.comp (State.suspendErases_frame _ _) rfl ?_
    refine Frame.comp (State.appendRecord_frame _ _ _ _ _) rfl ?_
    refine Frame.set_adm rfl (fun _ => rfl) (fun _ => rfl) (fun _ => rfl) ?_
    refine Frame.comp (State.roomFor_frame _ _ _) rfl ?_
    exact Frame.refl _

theorem State.appendReturned_frame (a0 : _) (a1 : State) : Frame 6599217325438 a1 (State.appendReturned a0 a1) := by
  unfold State.appendReturned
  refine Frame.ite (fun _ => ?_) (fun _ => ?_)
  · refine Frame.comp (State.updMoor_frame _ _) rfl ?_
    refine Frame.comp (State.appendRecord_frame _ _ _ _ _) rfl ?_
    exact Frame.refl _
  · refine Frame.comp (State.appendMirror_frame _ _) rfl ?_
    exact Frame.refl _

theorem execMirrorRecordArrival_frame (a0 : _) (a1 : _) (a2 : State) : Frame.Out 6599217325439 a2 (execMirrorRecordArrival a0 a1 a2) := by
  unfold execMirrorRecordArrival
  try extract_lets
  refine Frame.next ?_
  refine Frame.ite (fun _ => ?_) (fun _ => ?_)
  · refine Frame.foldl (fun _ _ _ => ?_) ?_
    · refine Frame.comp (State.appendMirror_frame _ _) rfl ?_
      assumption
    · refine Frame.comp (State.advanceTo_frame _ _) rfl ?_
      exact Frame.refl _
  · refine Frame.ite (fun _ => ?_) (fun _ => ?_)
    · refine Frame.foldl (fun _ _ _ => ?_) ?_
      · refine Frame.comp (State.appendReturned_frame _ _) rfl ?_
        assumption
      · refine Frame.comp (State.advanceTo_frame _ _) rfl ?_
        exact Frame.refl _
    · refine Frame.ite (fun _ => ?_) (fun _ => ?_)
      · refine Frame.foldl (fun _ _ _ => ?_) ?_
        · refine Frame.comp (State.markDirty_frame _ _ _) rfl ?_
          assumption
        · refine Frame.comp (State.advanceTo_frame _ _) rfl ?_
          exact Frame.refl _
      · refine Frame.comp (State.advanceTo_frame _ _) rfl ?_
        exact Frame.refl _

theorem execButtonPress_frame (a0 : _) (a1 : State) : Frame.Out 67108867 a1 (execButtonPress a0 a1) := by
  unfold execButtonPress
  try extract_lets
  refine Frame.next ?_
  refine Frame.ite (fun _ => ?_) (fun _ => ?_)
  · refine Frame.comp (State.advanceTo_frame _ _) rfl ?_
    exact Frame.refl _
  · refine Frame.set_md rfl (fun _ => rfl) (fun i => absurd i (by decide)) ?_
    refine Frame.comp (State.advanceTo_frame _ _) rfl ?_
    exact Frame.refl _

theorem execLdgResume_frame (a0 : _) (a1 : _) (a2 : State) : Frame.Out 4522015 a2 (execLdgResume a0 a1 a2) := by
  unfold execLdgResume
  try extract_lets
  refine Frame.next ?_
  refine Frame.ite (fun _ => ?_) (fun _ => ?_)
  · refine Frame.comp (State.advanceTo_frame _ _) rfl ?_
    exact Frame.refl _
  · refine Frame.comp (State.resumeCall_frame _ _ _) rfl ?_
    refine Frame.comp (State.advanceTo_frame _ _) rfl ?_
    exact Frame.refl _

theorem execSelfTestExtended_frame (a0 : _) (a1 : _) (a2 : _) (a3 : State) : Frame.Out 26847817951 a3 (execSelfTestExtended a0 a1 a2 a3) := by
  unfold execSelfTestExtended
  refine Frame.next ?_
  refine State.admin_frame ?_ rfl ?_
  · intro _ _
    refine Frame.comp (State.startTest_frame _ _ _ _) rfl ?_
    assumption
  · refine Frame.comp (State.advanceTo_frame _ _) rfl ?_
    exact Frame.refl _

theorem execMemoryInitDone_frame (a0 : _) (a1 : _) (a2 : State) : Frame.Out 98335 a2 (execMemoryInitDone a0 a1 a2) := by
  unfold execMemoryInitDone
  try extract_lets
  try extract_lets
  try extract_lets
  refine Frame.next ?_
  refine Frame.ite (fun _ => ?_) (fun _ => ?_)
  · refine Frame.comp (State.advanceTo_frame _ _) rfl ?_
    exact Frame.refl _
  · first | split | (dsimp +zetaDelta -proj only; split)
    · refine Frame.ite (fun _ => ?_) (fun _ => ?_)
      · refine Frame.comp (State.advanceTo_frame _ _) rfl ?_
        exact Frame.refl _
      · refine Frame.set_mem rfl ?_ ?_
        · exact id
        refine Frame.comp (State.advanceTo_frame _ _) rfl ?_
        exact Frame.refl _
    · refine Frame.ite (fun _ => ?_) (fun _ => ?_)
      · refine Frame.comp (State.advanceTo_frame _ _) rfl ?_
        exact Frame.refl _
      · refine Frame.set_mem rfl ?_ ?_
        · exact id
        refine Frame.comp (State.advanceTo_frame _ _) rfl ?_
        exact Frame.refl _
    · refine Frame.ite (fun _ => ?_) (fun _ => ?_)
      · refine Frame.comp (State.advanceTo_frame _ _) rfl ?_
        exact Frame.refl _
      · refine Frame.comp (State.record_frame _ _ _) rfl ?_
        refine Frame.comp (State.buildPools_frame _) rfl ?_
        refine Frame.set_mem rfl ?_ ?_
        · exact id
        refine Frame.comp (State.advanceTo_frame _ _) rfl ?_
        exact Frame.refl _
    · refine Frame.comp (State.advanceTo_frame _ _) rfl ?_
      exact Frame.refl _

theorem execPodHeartbeat_frame (a0 : _) (a1 : _) (a2 : _) (a3 : _) (a4 : State) : Frame.Out 81951 a4 (execPodHeartbeat a0 a1 a2 a3 a4) := by
  unfold execPodHeartbeat
  try extract_lets
  refine Frame.next ?_
  refine Frame.ite (fun _ => ?_) (fun _ => ?_)
  · refine Frame.comp (State.advanceTo_frame _ _) rfl ?_
    exact Frame.refl _
  · try extract_lets
    try extract_lets
    refine Frame.ite (fun _ => ?_) (fun _ => ?_)
    · refine Frame.comp (State.setMaster_frame _ _ _) rfl ?_
      refine Frame.ite (fun _ => ?_) (fun _ => ?_)
      · refine Frame.comp (State.setMaster_frame _ _ _) rfl ?_
        refine Frame.set_repl rfl ?_
        refine Frame.comp (State.advanceTo_frame _ _) rfl ?_
        exact Frame.refl _
      · refine Frame.set_repl rfl ?_
        refine Frame.comp (State.advanceTo_frame _ _) rfl ?_
        exact Frame.refl _
    · refine Frame.ite (fun _ => ?_) (fun _ => ?_)
      · refine Frame.comp (State.setMaster_frame _ _ _) rfl ?_
        refine Frame.set_repl rfl ?_
        refine Frame.comp (State.advanceTo_frame _ _) rfl ?_
        exact Frame.refl _
      · refine Frame.set_repl rfl ?_
        refine Frame.comp (State.advanceTo_frame _ _) rfl ?_
        exact Frame.refl _

theorem execBulkWindowControl_frame (a0 : _) (a1 : _) (a2 : _) (a3 : _) (a4 : State) : Frame.Out 4295557125 a4 (execBulkWindowControl a0 a1 a2 a3 a4) := by
  unfold execBulkWindowControl
  try extract_lets
  refine Frame.next ?_
  refine Frame.ite (fun _ => ?_) (fun _ => ?_)
  · refine Frame.comp (State.advanceTo_frame _ _) rfl ?_
    exact Frame.refl _
  · refine Frame.comp (State.writeBwctl_frame _ _ _ _) rfl ?_
    refine Frame.comp (State.advanceTo_frame _ _) rfl ?_
    exact Frame.refl _

theorem execReservationRebind_frame (a0 : _) (a1 : _) (a2 : _) (a3 : State) : Frame.Out 1888716288991 a3 (execReservationRebind a0 a1 a2 a3) := by
  unfold execReservationRebind
  refine Frame.next ?_
  refine Frame.comp (State.c0h_frame _ _ _) rfl ?_
  refine Frame.comp (State.advanceTo_frame _ _) rfl ?_
  exact Frame.refl _

theorem execFchDinfoRead_frame (a0 : _) (a1 : _) (a2 : _) (a3 : State) : Frame.Out 4295098373 a3 (execFchDinfoRead a0 a1 a2 a3) := by
  unfold execFchDinfoRead
  refine Frame.next ?_
  refine Frame.comp (State.readReg_frame _ _ _) rfl ?_
  refine Frame.comp (State.advanceTo_frame _ _) rfl ?_
  exact Frame.refl _

theorem execModeReqJoin_frame (a0 : _) (a1 : _) (a2 : _) (a3 : State) : Frame.Out 1781711352831 a3 (execModeReqJoin a0 a1 a2 a3) := by
  unfold execModeReqJoin
  refine Frame.next ?_
  refine Frame.comp (State.writeModeReq_frame _ _ _) rfl ?_
  refine Frame.comp (State.advanceTo_frame _ _) rfl ?_
  exact Frame.refl _

theorem State.progEnded_frame (a0 : _) (a1 : _) (a2 : State) : Frame 138739742 a2 (State.progEnded a0 a1 a2) := by
  unfold State.progEnded
  try extract_lets
  refine Frame.comp (State.pump_frame _) rfl ?_
  refine Frame.ite (fun _ => ?_) (fun _ => ?_)
  · refine Frame.comp (State.doResume_frame _ _) rfl ?_
    refine Frame.comp (State.updBank_frame _ _ _) rfl ?_
    exact Frame.refl _
  · refine Frame.comp (State.updBank_frame _ _ _) rfl ?_
    exact Frame.refl _

theorem execLedgerProgramDone_frame (a0 : _) (a1 : _) (a2 : _) (a3 : State) : Frame.Out 138739743 a3 (execLedgerProgramDone a0 a1 a2 a3) := by
  unfold execLedgerProgramDone
  try extract_lets
  refine Frame.next ?_
  first | split | (dsimp +zetaDelta -proj only; split)
  · refine Frame.comp (State.advanceTo_frame _ _) rfl ?_
    exact Frame.refl _
  · refine Frame.ite (fun _ => ?_) (fun _ => ?_)
    · try extract_lets
      try extract_lets
      refine Frame.comp (State.programResult_frame _ _ _) rfl ?_
      first | split | (dsimp +zetaDelta -proj only; split)
      · refine Frame.comp (State.ringProgrammed_frame _ _ _ _) rfl ?_
        refine Frame.comp (State.progEnded_frame _ _ _) rfl ?_
        refine Frame.comp (State.ldgStore_frame _ _) rfl ?_
        refine Frame.comp (State.advanceTo_frame _ _) rfl ?_
        exact Frame.refl _
      · refine Frame.comp (State.progEnded_frame _ _ _) rfl ?_
        refine Frame.comp (State.ldgStore_frame _ _) rfl ?_
        refine Frame.comp (State.advanceTo_frame _ _) rfl ?_
        exact Frame.refl _
    · refine Frame.ite (fun _ => ?_) (fun _ => ?_)
      · refine Frame.comp (State.updBank_frame _ _ _) rfl ?_
        refine Frame.comp (State.advanceTo_frame _ _) rfl ?_
        exact Frame.refl _
      · try extract_lets
        try extract_lets
        first | split | (dsimp +zetaDelta -proj only; split)
        · try extract_lets
          refine Frame.ite (fun _ => ?_) (fun _ => ?_)
          · try extract_lets
            try extract_lets
            refine Frame.comp (State.pump_frame _) rfl ?_
            refine Frame.set_ldg rfl ?_ ?_
            · exact id
            refine Frame.set_ldg rfl ?_ ?_
            · exact id
            refine Frame.comp (State.flushRefused_frame _ _ _) rfl ?_
            refine Frame.comp (State.progEnded_frame _ _ _) rfl ?_
            refine Frame.comp (State.ldgFail_frame _ _ _ _) rfl ?_
            refine Frame.comp (State.spoilLines_frame _ _) rfl ?_
            refine Frame.comp (State.advanceTo_frame _ _) rfl ?_
            exact Frame.refl _
          · refine Frame.comp (State.programResult_frame _ _ _) rfl ?_
            refine Frame.comp (State.flushRefused_frame _ _ _) rfl ?_
            refine Frame.comp (State.progEnded_frame _ _ _) rfl ?_
            refine Frame.comp (State.ldgFail_frame _ _ _ _) rfl ?_
            refine Frame.comp (State.spoilLines_frame _ _) rfl ?_
            refine Frame.comp (State.advanceTo_frame _ _) rfl ?_
            exact Frame.refl _
        · refine Frame.comp (State.programResult_frame _ _ _) rfl ?_
          refine Frame.comp (State.progEnded_frame _ _ _) rfl ?_
          refine Frame.comp (State.ldgFail_frame _ _ _ _) rfl ?_
          refine Frame.comp (State.spoilLines_frame _ _) rfl ?_
          refine Frame.comp (State.advanceTo_frame _ _) rfl ?_
          exact Frame.refl _

theorem execReservationChange_frame (a0 : _) (a1 : _) (a2 : _) (a3 : State) : Frame.Out 1888716288991 a3 (execReservationChange a0 a1 a2 a3) := by
  unfold execReservationChange
  refine Frame.next ?_
  refine Frame.comp (State.c0h_frame _ _ _) rfl ?_
  refine Frame.comp (State.advanceTo_frame _ _) rfl ?_
  exact Frame.refl _

theorem execModeReqOther_frame (a0 : _) (a1 : _) (a2 : _) (a3 : State) : Frame.Out 1781711352831 a3 (execModeReqOther a0 a1 a2 a3) := by
  unfold execModeReqOther
  refine Frame.next ?_
  refine Frame.comp (State.writeModeReq_frame _ _ _) rfl ?_
  refine Frame.comp (State.advanceTo_frame _ _) rfl ?_
  exact Frame.refl _

theorem execPatrolRead_frame (a0 : _) (a1 : _) (a2 : _) (a3 : _) (a4 : _) (a5 : State) : Frame.Out 1231955261439 a5 (execPatrolRead a0 a1 a2 a3 a4 a5) := by
  unfold execPatrolRead
  try extract_lets
  refine Frame.next ?_
  first | split | (dsimp +zetaDelta -proj only; split)
  · refine Frame.comp (State.advanceTo_frame _ _) rfl ?_
    exact Frame.refl _
  · refine Frame.ite (fun _ => ?_) (fun _ => ?_)
    · refine Frame.comp (State.advanceTo_frame _ _) rfl ?_
      exact Frame.refl _
    · try extract_lets
      try extract_lets
      try extract_lets
      try extract_lets
      try extract_lets
      refine Frame.ite (fun _ => ?_) (fun _ => ?_)
      · try extract_lets
        refine Frame.set_path rfl (fun i => absurd i (by decide)) (fun _ => rfl) (fun _ => rfl) ?_
        refine Frame.comp (State.record_frame _ _ _) rfl ?_
        refine Frame.set_path rfl (fun i => absurd i (by decide)) (fun _ => rfl) (fun _ => rfl) ?_
        refine Frame.foldl (fun _ _ _ => ?_) ?_
        · refine Frame.comp (State.patrolRepair_frame _ _) rfl ?_
          assumption
        · refine Frame.ite (fun _ => ?_) (fun _ => ?_)
          · refine Frame.comp (State.raise_frame _ _ _) rfl ?_
            refine Frame.set_path rfl (fun i => absurd i (by decide)) (fun _ => rfl) (fun _ => rfl) ?_
            refine Frame.comp (State.askRefresh_frame _ _ _) rfl ?_
            refine Frame.foldl (fun _ _ _ => ?_) ?_
            · first | split | (dsimp +zetaDelta -proj only; split)
              · refine Frame.comp (State.bookWork_frame _ _ _ _ _) rfl ?_
                assumption
              · assumption
            · refine Frame.comp (State.advanceTo_frame _ _) rfl ?_
              exact Frame.refl _
          · refine Frame.comp (State.askRefresh_frame _ _ _) rfl ?_
            refine Frame.foldl (fun _ _ _ => ?_) ?_
            · first | split | (dsimp +zetaDelta -proj only; split)
              · refine Frame.comp (State.bookWork_frame _ _ _ _ _) rfl ?_
                assumption
              · assumption
            · refine Frame.comp (State.advanceTo_frame _ _) rfl ?_
              exact Frame.refl _
      · refine Frame.set_path rfl (fun i => absurd i (by decide)) (fun _ => rfl) (fun _ => rfl) ?_
        refine Frame.foldl (fun _ _ _ => ?_) ?_
        · refine Frame.comp (State.patrolRepair_frame _ _) rfl ?_
          assumption
        · refine Frame.ite (fun _ => ?_) (fun _ => ?_)
          · refine Frame.comp (State.raise_frame _ _ _) rfl ?_
            refine Frame.set_path rfl (fun i => absurd i (by decide)) (fun _ => rfl) (fun _ => rfl) ?_
            refine Frame.comp (State.askRefresh_frame _ _ _) rfl ?_
            refine Frame.foldl (fun _ _ _ => ?_) ?_
            · first | split | (dsimp +zetaDelta -proj only; split)
              · refine Frame.comp (State.bookWork_frame _ _ _ _ _) rfl ?_
                assumption
              · assumption
            · refine Frame.comp (State.advanceTo_frame _ _) rfl ?_
              exact Frame.refl _
          · refine Frame.comp (State.askRefresh_frame _ _ _) rfl ?_
            refine Frame.foldl (fun _ _ _ => ?_) ?_
            · first | split | (dsimp +zetaDelta -proj only; split)
              · refine Frame.comp (State.bookWork_frame _ _ _ _ _) rfl ?_
                assumption
              · assumption
            · refine Frame.comp (State.advanceTo_frame _ _) rfl ?_
              exact Frame.refl _

theorem execDeleteIoSq_frame (a0 : _) (a1 : _) (a2 : _) (a3 : State) : Frame.Out 25774076127 a3 (execDeleteIoSq a0 a1 a2 a3) := by
  unfold execDeleteIoSq
  refine Frame.next ?_
  refine State.admin_frame ?_ rfl ?_
  · intro _ _
    refine Frame.comp (State.deleteSq_frame _ _ _) rfl ?_
    assumption
  · refine Frame.comp (State.advanceTo_frame _ _) rfl ?_
    exact Frame.refl _

theorem State.takeVerdict_frame (a0 : _) (a1 : State) : Frame 11245265119 a1 (State.takeVerdict a0 a1) := by
  unfold State.takeVerdict
  first | split | (dsimp +zetaDelta -proj only; split)
  · exact Frame.refl _
  · refine Frame.ite (fun _ => ?_) (fun _ => ?_)
    · exact Frame.refl _
    · refine Frame.ite (fun _ => ?_) (fun _ => ?_)
      · try extract_lets
        try extract_lets
        refine Frame.ite (fun _ => ?_) (fun _ => ?_)
        · refine Frame.comp (State.enterSoleAtJoin_frame _) rfl ?_
          refine Frame.comp (State.record_frame _ _ _) rfl ?_
          refine Frame.comp (State.renewOwn_frame _ _) rfl ?_
          refine Frame.comp (State.updMoor_frame _ _) rfl ?_
          exact Frame.refl _
        · refine Frame.comp (State.record_frame _ _ _) rfl ?_
          refine Frame.comp (State.renewOwn_frame _ _) rfl ?_
          refine Frame.comp (State.updMoor_frame _ _) rfl ?_
          exact Frame.refl _
      · refine Frame.ite (fun _ => ?_) (fun _ => ?_)
        · refine Frame.comp (State.claimFailed_frame _ _) rfl ?_
          exact Frame.refl _
        · exact Frame.refl _

theorem execVerdict_frame (a0 : _) (a1 : _) (a2 : State) : Frame.Out 11245265119 a2 (execVerdict a0 a1 a2) := by
  unfold execVerdict
  refine Frame.next ?_
  refine Frame.comp (State.takeVerdict_frame _ _) rfl ?_
  refine Frame.comp (State.advanceTo_frame _ _) rfl ?_
  exact Frame.refl _

theorem execModuleRoleAssigned_frame (a0 : _) (a1 : _) (a2 : _) (a3 : _) (a4 : State) : Frame.Out 2482629840383 a4 (execModuleRoleAssigned a0 a1 a2 a3 a4) := by
  unfold execModuleRoleAssigned
  try extract_lets
  try extract_lets
  refine Frame.next ?_
  refine Frame.ite (fun _ => ?_) (fun _ => ?_)
  · refine Frame.comp (State.advanceTo_frame _ _) rfl ?_
    exact Frame.refl _
  · refine Frame.ite (fun _ => ?_) (fun _ => ?_)
    · refine Frame.comp (State.refuseModule_frame _ _ _) rfl ?_
      refine Frame.comp (State.advanceTo_frame _ _) rfl ?_
      exact Frame.refl _
    · try extract_lets
      try extract_lets
      try extract_lets
      try extract_lets
      try extract_lets
      try extract_lets
      refine Frame.comp (State.recompute_frame _ _) rfl ?_
      refine Frame.ite (fun _ => ?_) (fun _ => ?_)
      · try extract_lets
        try extract_lets
        try extract_lets
        try extract_lets
        refine Frame.comp (State.startRebuild_frame _ _ _ _) rfl ?_
        refine Frame.set_path rfl (fun _ => rfl) (fun i => absurd i (by decide)) (fun _ => rfl) ?_
        refine Frame.comp (State.memberChanged_frame _) rfl ?_
        refine Frame.set_strp rfl ?_
        refine Frame.ite (fun _ => ?_) (fun _ => ?_)
        · refine Frame.comp (State.memberChanged_frame _) rfl ?_
          refine Frame.set_strp rfl ?_
          refine Frame.comp (State.count_frame _ _) rfl ?_
          refine Frame.comp (State.record_frame _ _ _) rfl ?_
          refine Frame.comp (State.raise_frame _ _ _) rfl ?_
          refine Frame.comp (State.updPort_frame _ _ _) rfl ?_
          refine Frame.comp (State.takeDies_frame _ _ _ _) rfl ?_
          refine Frame.comp (State.advanceTo_frame _ _) rfl ?_
          exact Frame.refl _
        · refine Frame.comp (State.count_frame _ _) rfl ?_
          refine Frame.comp (State.record_frame _ _ _) rfl ?_
          refine Frame.comp (State.raise_frame _ _ _) rfl ?_
          refine Frame.comp (State.updPort_frame _ _ _) rfl ?_
          refine Frame.comp (State.takeDies_frame _ _ _ _) rfl ?_
          refine Frame.comp (State.advanceTo_frame _ _) rfl ?_
          exact Frame.refl _
      · refine Frame.ite (fun _ => ?_) (fun _ => ?_)
        · refine Frame.comp (State.memberChanged_frame _) rfl ?_
          refine Frame.set_strp rfl ?_
          refine Frame.comp (State.count_frame _ _) rfl ?_
          refine Frame.comp (State.record_frame _ _ _) rfl ?_
          refine Frame.comp (State.raise_frame _ _ _) rfl ?_
          refine Frame.comp (State.updPort_frame _ _ _) rfl ?_
          refine Frame.comp (State.takeDies_frame _ _ _ _) rfl ?_
          refine Frame.comp (State.advanceTo_frame _ _) rfl ?_
          exact Frame.refl _
        · refine Frame.comp (State.count_frame _ _) rfl ?_
          refine Frame.comp (State.record_frame _ _ _) rfl ?_
          refine Frame.comp (State.raise_frame _ _ _) rfl ?_
          refine Frame.comp (State.updPort_frame _ _ _) rfl ?_
          refine Frame.comp (State.takeDies_frame _ _ _ _) rfl ?_
          refine Frame.comp (State.advanceTo_frame _ _) rfl ?_
          exact Frame.refl _

theorem execReplicationInterval_frame (a0 : _) (a1 : _) (a2 : State) : Frame.Out 1308895699935 a2 (execReplicationInterval a0 a1 a2) := by
  unfold execReplicationInterval
  try extract_lets
  refine Frame.next ?_
  first | split | (dsimp +zetaDelta -proj only; split)
  · refine Frame.comp (State.advanceTo_frame _ _) rfl ?_
    exact Frame.refl _
  · refine Frame.ite (fun _ => ?_) (fun _ => ?_)
    · refine Frame.comp (State.advanceTo_frame _ _) rfl ?_
      exact Frame.refl _
    · refine Frame.comp (State.startSet_frame _ _) rfl ?_
      refine Frame.comp (State.updLink_frame _ _ _) rfl ?_
      refine Frame.comp (State.advanceTo_frame _ _) rfl ?_
      exact Frame.refl _

theorem State.opEnds_frame (a0 : _) (a1 : _) (a2 : _) (a3 : State) : Frame 1919049528286 a3 (State.opEnds a0 a1 a2 a3) := by
  unfold State.opEnds
  refine Frame.comp (State.settleClose_frame _ _) rfl ?_
  refine Frame.comp (State.chains_frame _) rfl ?_
  refine Frame.comp (State.endOp_frame _ _ _ _) rfl ?_
  exact Frame.refl _

/-- A power-on keeps the queue and the canonical form of both memories; its tide counter starts at 0 (R354). -/
theorem execPowerOn_frame (t : Nat) (s u : State) (h : execPowerOn t s = .next u) :
    u.pending = s.pending ∧ (Memory.wf 0 s.mem.cells = true → Memory.wf 0 u.mem.cells = true) ∧
      (Memory.wf 0xFF s.ldg.cells = true → Memory.wf 0xFF u.ldg.cells = true) := by
  unfold execPowerOn at h
  cases h
  have f : Frame 8796076244991 s (if s.md.mode = .reset then s else s.enterReset 0 0) :=
    Frame.ite (fun _ => Frame.refl s) (fun _ => Frame.comp (State.enterReset_frame _ _ _) rfl (Frame.refl s))
  exact ⟨f.pending, f.memWf, f.ldgWf⟩

end Sys2Proof.Laws
end

