-- ==== Sys2Proof/Laws/State.lean ====
section
/-!
SUPPORT. What the plain updates of State leave as it was, one lemma a field, and what the register operations store and read back.
-/

namespace Sys2Proof.Machine

open Sys2Proof.Laws

/-! ### edges -/
@[simp] theorem edges_md (n : Nat) (s : State) : (State.edges n s).md = s.md := rfl
@[simp] theorem edges_regs (n : Nat) (s : State) : (State.edges n s).regs = s.regs := rfl
@[simp] theorem edges_rcdr (n : Nat) (s : State) : (State.edges n s).rcdr = s.rcdr := rfl
@[simp] theorem edges_tally (n : Nat) (s : State) : (State.edges n s).tally = s.tally := rfl
@[simp] theorem edges_faults (n : Nat) (s : State) : (State.edges n s).faults = s.faults := rfl
@[simp] theorem edges_adm (n : Nat) (s : State) : (State.edges n s).adm = s.adm := rfl
@[simp] theorem edges_nvq (n : Nat) (s : State) : (State.edges n s).nvq = s.nvq := rfl
@[simp] theorem edges_path (n : Nat) (s : State) : (State.edges n s).path = s.path := rfl
@[simp] theorem edges_ddup (n : Nat) (s : State) : (State.edges n s).ddup = s.ddup := rfl
@[simp] theorem edges_flash (n : Nat) (s : State) : (State.edges n s).flash = s.flash := rfl
@[simp] theorem edges_strp (n : Nat) (s : State) : (State.edges n s).strp = s.strp := rfl
@[simp] theorem edges_idm (n : Nat) (s : State) : (State.edges n s).idm = s.idm := rfl
@[simp] theorem edges_moor (n : Nat) (s : State) : (State.edges n s).moor = s.moor := rfl
@[simp] theorem edges_repl (n : Nat) (s : State) : (State.edges n s).repl = s.repl := rfl
@[simp] theorem edges_mem (n : Nat) (s : State) : (State.edges n s).mem = s.mem := rfl
@[simp] theorem edges_dma (n : Nat) (s : State) : (State.edges n s).dma = s.dma := rfl
@[simp] theorem edges_ciph (n : Nat) (s : State) : (State.edges n s).ciph = s.ciph := rfl
@[simp] theorem edges_ldg (n : Nat) (s : State) : (State.edges n s).ldg = s.ldg := rfl
@[simp] theorem edges_spi (n : Nat) (s : State) : (State.edges n s).spi = s.spi := rfl
@[simp] theorem edges_elec (n : Nat) (s : State) : (State.edges n s).elec = s.elec := rfl
@[simp] theorem edges_image (n : Nat) (s : State) : (State.edges n s).image = s.image := rfl
@[simp] theorem edges_outbox (n : Nat) (s : State) : (State.edges n s).outbox = s.outbox := rfl
@[simp] theorem edges_free (n : Nat) (s : State) : (State.edges n s).free = s.free := rfl
@[simp] theorem edges_pending (n : Nat) (s : State) : (State.edges n s).pending = s.pending := rfl

/-! ### setReg -/
@[simp] theorem setReg_time (a : Nat) (v : Word) (s : State) : (State.setReg a v s).time = s.time := rfl
@[simp] theorem setReg_md (a : Nat) (v : Word) (s : State) : (State.setReg a v s).md = s.md := rfl
@[simp] theorem setReg_rcdr (a : Nat) (v : Word) (s : State) : (State.setReg a v s).rcdr = s.rcdr := rfl
@[simp] theorem setReg_tally (a : Nat) (v : Word) (s : State) : (State.setReg a v s).tally = s.tally := rfl
@[simp] theorem setReg_faults (a : Nat) (v : Word) (s : State) : (State.setReg a v s).faults = s.faults := rfl
@[simp] theorem setReg_adm (a : Nat) (v : Word) (s : State) : (State.setReg a v s).adm = s.adm := rfl
@[simp] theorem setReg_nvq (a : Nat) (v : Word) (s : State) : (State.setReg a v s).nvq = s.nvq := rfl
@[simp] theorem setReg_path (a : Nat) (v : Word) (s : State) : (State.setReg a v s).path = s.path := rfl
@[simp] theorem setReg_ddup (a : Nat) (v : Word) (s : State) : (State.setReg a v s).ddup = s.ddup := rfl
@[simp] theorem setReg_flash (a : Nat) (v : Word) (s : State) : (State.setReg a v s).flash = s.flash := rfl
@[simp] theorem setReg_strp (a : Nat) (v : Word) (s : State) : (State.setReg a v s).strp = s.strp := rfl
@[simp] theorem setReg_idm (a : Nat) (v : Word) (s : State) : (State.setReg a v s).idm = s.idm := rfl
@[simp] theorem setReg_moor (a : Nat) (v : Word) (s : State) : (State.setReg a v s).moor = s.moor := rfl
@[simp] theorem setReg_repl (a : Nat) (v : Word) (s : State) : (State.setReg a v s).repl = s.repl := rfl
@[simp] theorem setReg_mem (a : Nat) (v : Word) (s : State) : (State.setReg a v s).mem = s.mem := rfl
@[simp] theorem setReg_dma (a : Nat) (v : Word) (s : State) : (State.setReg a v s).dma = s.dma := rfl
@[simp] theorem setReg_ciph (a : Nat) (v : Word) (s : State) : (State.setReg a v s).ciph = s.ciph := rfl
@[simp] theorem setReg_ldg (a : Nat) (v : Word) (s : State) : (State.setReg a v s).ldg = s.ldg := rfl
@[simp] theorem setReg_spi (a : Nat) (v : Word) (s : State) : (State.setReg a v s).spi = s.spi := rfl
@[simp] theorem setReg_elec (a : Nat) (v : Word) (s : State) : (State.setReg a v s).elec = s.elec := rfl
@[simp] theorem setReg_image (a : Nat) (v : Word) (s : State) : (State.setReg a v s).image = s.image := rfl
@[simp] theorem setReg_outbox (a : Nat) (v : Word) (s : State) : (State.setReg a v s).outbox = s.outbox := rfl
@[simp] theorem setReg_free (a : Nat) (v : Word) (s : State) : (State.setReg a v s).free = s.free := rfl
@[simp] theorem setReg_pending (a : Nat) (v : Word) (s : State) : (State.setReg a v s).pending = s.pending := rfl

/-! ### setPathReg -/
@[simp] theorem setPathReg_time (o : Origin) (a : Nat) (v : Word) (s : State) : (State.setPathReg o a v s).time = s.time := rfl
@[simp] theorem setPathReg_md (o : Origin) (a : Nat) (v : Word) (s : State) : (State.setPathReg o a v s).md = s.md := rfl
@[simp] theorem setPathReg_rcdr (o : Origin) (a : Nat) (v : Word) (s : State) : (State.setPathReg o a v s).rcdr = s.rcdr := rfl
@[simp] theorem setPathReg_tally (o : Origin) (a : Nat) (v : Word) (s : State) : (State.setPathReg o a v s).tally = s.tally := rfl
@[simp] theorem setPathReg_faults (o : Origin) (a : Nat) (v : Word) (s : State) : (State.setPathReg o a v s).faults = s.faults := rfl
@[simp] theorem setPathReg_adm (o : Origin) (a : Nat) (v : Word) (s : State) : (State.setPathReg o a v s).adm = s.adm := rfl
@[simp] theorem setPathReg_nvq (o : Origin) (a : Nat) (v : Word) (s : State) : (State.setPathReg o a v s).nvq = s.nvq := rfl
@[simp] theorem setPathReg_path (o : Origin) (a : Nat) (v : Word) (s : State) : (State.setPathReg o a v s).path = s.path := rfl
@[simp] theorem setPathReg_ddup (o : Origin) (a : Nat) (v : Word) (s : State) : (State.setPathReg o a v s).ddup = s.ddup := rfl
@[simp] theorem setPathReg_flash (o : Origin) (a : Nat) (v : Word) (s : State) : (State.setPathReg o a v s).flash = s.flash := rfl
@[simp] theorem setPathReg_strp (o : Origin) (a : Nat) (v : Word) (s : State) : (State.setPathReg o a v s).strp = s.strp := rfl
@[simp] theorem setPathReg_idm (o : Origin) (a : Nat) (v : Word) (s : State) : (State.setPathReg o a v s).idm = s.idm := rfl
@[simp] theorem setPathReg_moor (o : Origin) (a : Nat) (v : Word) (s : State) : (State.setPathReg o a v s).moor = s.moor := rfl
@[simp] theorem setPathReg_repl (o : Origin) (a : Nat) (v : Word) (s : State) : (State.setPathReg o a v s).repl = s.repl := rfl
@[simp] theorem setPathReg_mem (o : Origin) (a : Nat) (v : Word) (s : State) : (State.setPathReg o a v s).mem = s.mem := rfl
@[simp] theorem setPathReg_dma (o : Origin) (a : Nat) (v : Word) (s : State) : (State.setPathReg o a v s).dma = s.dma := rfl
@[simp] theorem setPathReg_ciph (o : Origin) (a : Nat) (v : Word) (s : State) : (State.setPathReg o a v s).ciph = s.ciph := rfl
@[simp] theorem setPathReg_ldg (o : Origin) (a : Nat) (v : Word) (s : State) : (State.setPathReg o a v s).ldg = s.ldg := rfl
@[simp] theorem setPathReg_spi (o : Origin) (a : Nat) (v : Word) (s : State) : (State.setPathReg o a v s).spi = s.spi := rfl
@[simp] theorem setPathReg_elec (o : Origin) (a : Nat) (v : Word) (s : State) : (State.setPathReg o a v s).elec = s.elec := rfl
@[simp] theorem setPathReg_image (o : Origin) (a : Nat) (v : Word) (s : State) : (State.setPathReg o a v s).image = s.image := rfl
@[simp] theorem setPathReg_outbox (o : Origin) (a : Nat) (v : Word) (s : State) : (State.setPathReg o a v s).outbox = s.outbox := rfl
@[simp] theorem setPathReg_free (o : Origin) (a : Nat) (v : Word) (s : State) : (State.setPathReg o a v s).free = s.free := rfl
@[simp] theorem setPathReg_pending (o : Origin) (a : Nat) (v : Word) (s : State) : (State.setPathReg o a v s).pending = s.pending := rfl

/-! ### stage -/
@[simp] theorem stage_time (o : Origin) (a : Nat) (v : Word) (s : State) : (State.stage o a v s).time = s.time := rfl
@[simp] theorem stage_md (o : Origin) (a : Nat) (v : Word) (s : State) : (State.stage o a v s).md = s.md := rfl
@[simp] theorem stage_rcdr (o : Origin) (a : Nat) (v : Word) (s : State) : (State.stage o a v s).rcdr = s.rcdr := rfl
@[simp] theorem stage_tally (o : Origin) (a : Nat) (v : Word) (s : State) : (State.stage o a v s).tally = s.tally := rfl
@[simp] theorem stage_faults (o : Origin) (a : Nat) (v : Word) (s : State) : (State.stage o a v s).faults = s.faults := rfl
@[simp] theorem stage_adm (o : Origin) (a : Nat) (v : Word) (s : State) : (State.stage o a v s).adm = s.adm := rfl
@[simp] theorem stage_nvq (o : Origin) (a : Nat) (v : Word) (s : State) : (State.stage o a v s).nvq = s.nvq := rfl
@[simp] theorem stage_path (o : Origin) (a : Nat) (v : Word) (s : State) : (State.stage o a v s).path = s.path := rfl
@[simp] theorem stage_ddup (o : Origin) (a : Nat) (v : Word) (s : State) : (State.stage o a v s).ddup = s.ddup := rfl
@[simp] theorem stage_flash (o : Origin) (a : Nat) (v : Word) (s : State) : (State.stage o a v s).flash = s.flash := rfl
@[simp] theorem stage_strp (o : Origin) (a : Nat) (v : Word) (s : State) : (State.stage o a v s).strp = s.strp := rfl
@[simp] theorem stage_idm (o : Origin) (a : Nat) (v : Word) (s : State) : (State.stage o a v s).idm = s.idm := rfl
@[simp] theorem stage_moor (o : Origin) (a : Nat) (v : Word) (s : State) : (State.stage o a v s).moor = s.moor := rfl
@[simp] theorem stage_repl (o : Origin) (a : Nat) (v : Word) (s : State) : (State.stage o a v s).repl = s.repl := rfl
@[simp] theorem stage_mem (o : Origin) (a : Nat) (v : Word) (s : State) : (State.stage o a v s).mem = s.mem := rfl
@[simp] theorem stage_dma (o : Origin) (a : Nat) (v : Word) (s : State) : (State.stage o a v s).dma = s.dma := rfl
@[simp] theorem stage_ciph (o : Origin) (a : Nat) (v : Word) (s : State) : (State.stage o a v s).ciph = s.ciph := rfl
@[simp] theorem stage_ldg (o : Origin) (a : Nat) (v : Word) (s : State) : (State.stage o a v s).ldg = s.ldg := rfl
@[simp] theorem stage_spi (o : Origin) (a : Nat) (v : Word) (s : State) : (State.stage o a v s).spi = s.spi := rfl
@[simp] theorem stage_elec (o : Origin) (a : Nat) (v : Word) (s : State) : (State.stage o a v s).elec = s.elec := rfl
@[simp] theorem stage_image (o : Origin) (a : Nat) (v : Word) (s : State) : (State.stage o a v s).image = s.image := rfl
@[simp] theorem stage_outbox (o : Origin) (a : Nat) (v : Word) (s : State) : (State.stage o a v s).outbox = s.outbox := rfl
@[simp] theorem stage_free (o : Origin) (a : Nat) (v : Word) (s : State) : (State.stage o a v s).free = s.free := rfl
@[simp] theorem stage_pending (o : Origin) (a : Nat) (v : Word) (s : State) : (State.stage o a v s).pending = s.pending := rfl

/-! ### raise -/
@[simp] theorem raise_time (a m : Nat) (s : State) : (State.raise a m s).time = s.time := rfl
@[simp] theorem raise_md (a m : Nat) (s : State) : (State.raise a m s).md = s.md := rfl
@[simp] theorem raise_rcdr (a m : Nat) (s : State) : (State.raise a m s).rcdr = s.rcdr := rfl
@[simp] theorem raise_tally (a m : Nat) (s : State) : (State.raise a m s).tally = s.tally := rfl
@[simp] theorem raise_faults (a m : Nat) (s : State) : (State.raise a m s).faults = s.faults := rfl
@[simp] theorem raise_adm (a m : Nat) (s : State) : (State.raise a m s).adm = s.adm := rfl
@[simp] theorem raise_nvq (a m : Nat) (s : State) : (State.raise a m s).nvq = s.nvq := rfl
@[simp] theorem raise_path (a m : Nat) (s : State) : (State.raise a m s).path = s.path := rfl
@[simp] theorem raise_ddup (a m : Nat) (s : State) : (State.raise a m s).ddup = s.ddup := rfl
@[simp] theorem raise_flash (a m : Nat) (s : State) : (State.raise a m s).flash = s.flash := rfl
@[simp] theorem raise_strp (a m : Nat) (s : State) : (State.raise a m s).strp = s.strp := rfl
@[simp] theorem raise_idm (a m : Nat) (s : State) : (State.raise a m s).idm = s.idm := rfl
@[simp] theorem raise_moor (a m : Nat) (s : State) : (State.raise a m s).moor = s.moor := rfl
@[simp] theorem raise_repl (a m : Nat) (s : State) : (State.raise a m s).repl = s.repl := rfl
@[simp] theorem raise_mem (a m : Nat) (s : State) : (State.raise a m s).mem = s.mem := rfl
@[simp] theorem raise_dma (a m : Nat) (s : State) : (State.raise a m s).dma = s.dma := rfl
@[simp] theorem raise_ciph (a m : Nat) (s : State) : (State.raise a m s).ciph = s.ciph := rfl
@[simp] theorem raise_ldg (a m : Nat) (s : State) : (State.raise a m s).ldg = s.ldg := rfl
@[simp] theorem raise_spi (a m : Nat) (s : State) : (State.raise a m s).spi = s.spi := rfl
@[simp] theorem raise_elec (a m : Nat) (s : State) : (State.raise a m s).elec = s.elec := rfl
@[simp] theorem raise_image (a m : Nat) (s : State) : (State.raise a m s).image = s.image := rfl
@[simp] theorem raise_outbox (a m : Nat) (s : State) : (State.raise a m s).outbox = s.outbox := rfl
@[simp] theorem raise_free (a m : Nat) (s : State) : (State.raise a m s).free = s.free := rfl
@[simp] theorem raise_pending (a m : Nat) (s : State) : (State.raise a m s).pending = s.pending := rfl

/-! ### ignored -/
@[simp] theorem ignored_time  (s : State) : (State.ignored  s).time = s.time := rfl
@[simp] theorem ignored_md  (s : State) : (State.ignored  s).md = s.md := rfl
@[simp] theorem ignored_rcdr  (s : State) : (State.ignored  s).rcdr = s.rcdr := rfl
@[simp] theorem ignored_tally  (s : State) : (State.ignored  s).tally = s.tally := rfl
@[simp] theorem ignored_faults  (s : State) : (State.ignored  s).faults = s.faults := rfl
@[simp] theorem ignored_adm  (s : State) : (State.ignored  s).adm = s.adm := rfl
@[simp] theorem ignored_nvq  (s : State) : (State.ignored  s).nvq = s.nvq := rfl
@[simp] theorem ignored_path  (s : State) : (State.ignored  s).path = s.path := rfl
@[simp] theorem ignored_ddup  (s : State) : (State.ignored  s).ddup = s.ddup := rfl
@[simp] theorem ignored_flash  (s : State) : (State.ignored  s).flash = s.flash := rfl
@[simp] theorem ignored_strp  (s : State) : (State.ignored  s).strp = s.strp := rfl
@[simp] theorem ignored_idm  (s : State) : (State.ignored  s).idm = s.idm := rfl
@[simp] theorem ignored_moor  (s : State) : (State.ignored  s).moor = s.moor := rfl
@[simp] theorem ignored_repl  (s : State) : (State.ignored  s).repl = s.repl := rfl
@[simp] theorem ignored_mem  (s : State) : (State.ignored  s).mem = s.mem := rfl
@[simp] theorem ignored_dma  (s : State) : (State.ignored  s).dma = s.dma := rfl
@[simp] theorem ignored_ciph  (s : State) : (State.ignored  s).ciph = s.ciph := rfl
@[simp] theorem ignored_ldg  (s : State) : (State.ignored  s).ldg = s.ldg := rfl
@[simp] theorem ignored_spi  (s : State) : (State.ignored  s).spi = s.spi := rfl
@[simp] theorem ignored_elec  (s : State) : (State.ignored  s).elec = s.elec := rfl
@[simp] theorem ignored_image  (s : State) : (State.ignored  s).image = s.image := rfl
@[simp] theorem ignored_outbox  (s : State) : (State.ignored  s).outbox = s.outbox := rfl
@[simp] theorem ignored_free  (s : State) : (State.ignored  s).free = s.free := rfl
@[simp] theorem ignored_pending  (s : State) : (State.ignored  s).pending = s.pending := rfl

/-! ### unmapped -/
@[simp] theorem unmapped_time  (s : State) : (State.unmapped  s).time = s.time := rfl
@[simp] theorem unmapped_md  (s : State) : (State.unmapped  s).md = s.md := rfl
@[simp] theorem unmapped_rcdr  (s : State) : (State.unmapped  s).rcdr = s.rcdr := rfl
@[simp] theorem unmapped_tally  (s : State) : (State.unmapped  s).tally = s.tally := rfl
@[simp] theorem unmapped_faults  (s : State) : (State.unmapped  s).faults = s.faults := rfl
@[simp] theorem unmapped_adm  (s : State) : (State.unmapped  s).adm = s.adm := rfl
@[simp] theorem unmapped_nvq  (s : State) : (State.unmapped  s).nvq = s.nvq := rfl
@[simp] theorem unmapped_path  (s : State) : (State.unmapped  s).path = s.path := rfl
@[simp] theorem unmapped_ddup  (s : State) : (State.unmapped  s).ddup = s.ddup := rfl
@[simp] theorem unmapped_flash  (s : State) : (State.unmapped  s).flash = s.flash := rfl
@[simp] theorem unmapped_strp  (s : State) : (State.unmapped  s).strp = s.strp := rfl
@[simp] theorem unmapped_idm  (s : State) : (State.unmapped  s).idm = s.idm := rfl
@[simp] theorem unmapped_moor  (s : State) : (State.unmapped  s).moor = s.moor := rfl
@[simp] theorem unmapped_repl  (s : State) : (State.unmapped  s).repl = s.repl := rfl
@[simp] theorem unmapped_mem  (s : State) : (State.unmapped  s).mem = s.mem := rfl
@[simp] theorem unmapped_dma  (s : State) : (State.unmapped  s).dma = s.dma := rfl
@[simp] theorem unmapped_ciph  (s : State) : (State.unmapped  s).ciph = s.ciph := rfl
@[simp] theorem unmapped_ldg  (s : State) : (State.unmapped  s).ldg = s.ldg := rfl
@[simp] theorem unmapped_spi  (s : State) : (State.unmapped  s).spi = s.spi := rfl
@[simp] theorem unmapped_elec  (s : State) : (State.unmapped  s).elec = s.elec := rfl
@[simp] theorem unmapped_image  (s : State) : (State.unmapped  s).image = s.image := rfl
@[simp] theorem unmapped_outbox  (s : State) : (State.unmapped  s).outbox = s.outbox := rfl
@[simp] theorem unmapped_free  (s : State) : (State.unmapped  s).free = s.free := rfl
@[simp] theorem unmapped_pending  (s : State) : (State.unmapped  s).pending = s.pending := rfl

/-! ### setField -/
@[simp] theorem setField_time (a hi lo v : Nat) (s : State) : (State.setField a hi lo v s).time = s.time := rfl
@[simp] theorem setField_md (a hi lo v : Nat) (s : State) : (State.setField a hi lo v s).md = s.md := rfl
@[simp] theorem setField_rcdr (a hi lo v : Nat) (s : State) : (State.setField a hi lo v s).rcdr = s.rcdr := rfl
@[simp] theorem setField_tally (a hi lo v : Nat) (s : State) : (State.setField a hi lo v s).tally = s.tally := rfl
@[simp] theorem setField_faults (a hi lo v : Nat) (s : State) : (State.setField a hi lo v s).faults = s.faults := rfl
@[simp] theorem setField_adm (a hi lo v : Nat) (s : State) : (State.setField a hi lo v s).adm = s.adm := rfl
@[simp] theorem setField_nvq (a hi lo v : Nat) (s : State) : (State.setField a hi lo v s).nvq = s.nvq := rfl
@[simp] theorem setField_path (a hi lo v : Nat) (s : State) : (State.setField a hi lo v s).path = s.path := rfl
@[simp] theorem setField_ddup (a hi lo v : Nat) (s : State) : (State.setField a hi lo v s).ddup = s.ddup := rfl
@[simp] theorem setField_flash (a hi lo v : Nat) (s : State) : (State.setField a hi lo v s).flash = s.flash := rfl
@[simp] theorem setField_strp (a hi lo v : Nat) (s : State) : (State.setField a hi lo v s).strp = s.strp := rfl
@[simp] theorem setField_idm (a hi lo v : Nat) (s : State) : (State.setField a hi lo v s).idm = s.idm := rfl
@[simp] theorem setField_moor (a hi lo v : Nat) (s : State) : (State.setField a hi lo v s).moor = s.moor := rfl
@[simp] theorem setField_repl (a hi lo v : Nat) (s : State) : (State.setField a hi lo v s).repl = s.repl := rfl
@[simp] theorem setField_mem (a hi lo v : Nat) (s : State) : (State.setField a hi lo v s).mem = s.mem := rfl
@[simp] theorem setField_dma (a hi lo v : Nat) (s : State) : (State.setField a hi lo v s).dma = s.dma := rfl
@[simp] theorem setField_ciph (a hi lo v : Nat) (s : State) : (State.setField a hi lo v s).ciph = s.ciph := rfl
@[simp] theorem setField_ldg (a hi lo v : Nat) (s : State) : (State.setField a hi lo v s).ldg = s.ldg := rfl
@[simp] theorem setField_spi (a hi lo v : Nat) (s : State) : (State.setField a hi lo v s).spi = s.spi := rfl
@[simp] theorem setField_elec (a hi lo v : Nat) (s : State) : (State.setField a hi lo v s).elec = s.elec := rfl
@[simp] theorem setField_image (a hi lo v : Nat) (s : State) : (State.setField a hi lo v s).image = s.image := rfl
@[simp] theorem setField_outbox (a hi lo v : Nat) (s : State) : (State.setField a hi lo v s).outbox = s.outbox := rfl
@[simp] theorem setField_free (a hi lo v : Nat) (s : State) : (State.setField a hi lo v s).free = s.free := rfl
@[simp] theorem setField_pending (a hi lo v : Nat) (s : State) : (State.setField a hi lo v s).pending = s.pending := rfl

/-! ### deassertLine -/
@[simp] theorem deassertLine_time (n : Nat) (s : State) : (State.deassertLine n s).time = s.time := rfl
@[simp] theorem deassertLine_md (n : Nat) (s : State) : (State.deassertLine n s).md = s.md := rfl
@[simp] theorem deassertLine_regs (n : Nat) (s : State) : (State.deassertLine n s).regs = s.regs := rfl
@[simp] theorem deassertLine_rcdr (n : Nat) (s : State) : (State.deassertLine n s).rcdr = s.rcdr := rfl
@[simp] theorem deassertLine_tally (n : Nat) (s : State) : (State.deassertLine n s).tally = s.tally := rfl
@[simp] theorem deassertLine_faults (n : Nat) (s : State) : (State.deassertLine n s).faults = s.faults := rfl
@[simp] theorem deassertLine_adm (n : Nat) (s : State) : (State.deassertLine n s).adm = s.adm := rfl
@[simp] theorem deassertLine_nvq (n : Nat) (s : State) : (State.deassertLine n s).nvq = s.nvq := rfl
@[simp] theorem deassertLine_path (n : Nat) (s : State) : (State.deassertLine n s).path = s.path := rfl
@[simp] theorem deassertLine_ddup (n : Nat) (s : State) : (State.deassertLine n s).ddup = s.ddup := rfl
@[simp] theorem deassertLine_flash (n : Nat) (s : State) : (State.deassertLine n s).flash = s.flash := rfl
@[simp] theorem deassertLine_strp (n : Nat) (s : State) : (State.deassertLine n s).strp = s.strp := rfl
@[simp] theorem deassertLine_idm (n : Nat) (s : State) : (State.deassertLine n s).idm = s.idm := rfl
@[simp] theorem deassertLine_moor (n : Nat) (s : State) : (State.deassertLine n s).moor = s.moor := rfl
@[simp] theorem deassertLine_repl (n : Nat) (s : State) : (State.deassertLine n s).repl = s.repl := rfl
@[simp] theorem deassertLine_mem (n : Nat) (s : State) : (State.deassertLine n s).mem = s.mem := rfl
@[simp] theorem deassertLine_ciph (n : Nat) (s : State) : (State.deassertLine n s).ciph = s.ciph := rfl
@[simp] theorem deassertLine_ldg (n : Nat) (s : State) : (State.deassertLine n s).ldg = s.ldg := rfl
@[simp] theorem deassertLine_spi (n : Nat) (s : State) : (State.deassertLine n s).spi = s.spi := rfl
@[simp] theorem deassertLine_elec (n : Nat) (s : State) : (State.deassertLine n s).elec = s.elec := rfl
@[simp] theorem deassertLine_image (n : Nat) (s : State) : (State.deassertLine n s).image = s.image := rfl
@[simp] theorem deassertLine_outbox (n : Nat) (s : State) : (State.deassertLine n s).outbox = s.outbox := rfl
@[simp] theorem deassertLine_free (n : Nat) (s : State) : (State.deassertLine n s).free = s.free := rfl
@[simp] theorem deassertLine_pending (n : Nat) (s : State) : (State.deassertLine n s).pending = s.pending := rfl

/-! ### spendFree -/
@[simp] theorem spendFree_time  (s : State) : (State.spendFree  s).time = s.time := rfl
@[simp] theorem spendFree_md  (s : State) : (State.spendFree  s).md = s.md := rfl
@[simp] theorem spendFree_regs  (s : State) : (State.spendFree  s).regs = s.regs := rfl
@[simp] theorem spendFree_rcdr  (s : State) : (State.spendFree  s).rcdr = s.rcdr := rfl
@[simp] theorem spendFree_tally  (s : State) : (State.spendFree  s).tally = s.tally := rfl
@[simp] theorem spendFree_faults  (s : State) : (State.spendFree  s).faults = s.faults := rfl
@[simp] theorem spendFree_adm  (s : State) : (State.spendFree  s).adm = s.adm := rfl
@[simp] theorem spendFree_nvq  (s : State) : (State.spendFree  s).nvq = s.nvq := rfl
@[simp] theorem spendFree_path  (s : State) : (State.spendFree  s).path = s.path := rfl
@[simp] theorem spendFree_ddup  (s : State) : (State.spendFree  s).ddup = s.ddup := rfl
@[simp] theorem spendFree_flash  (s : State) : (State.spendFree  s).flash = s.flash := rfl
@[simp] theorem spendFree_strp  (s : State) : (State.spendFree  s).strp = s.strp := rfl
@[simp] theorem spendFree_idm  (s : State) : (State.spendFree  s).idm = s.idm := rfl
@[simp] theorem spendFree_moor  (s : State) : (State.spendFree  s).moor = s.moor := rfl
@[simp] theorem spendFree_repl  (s : State) : (State.spendFree  s).repl = s.repl := rfl
@[simp] theorem spendFree_mem  (s : State) : (State.spendFree  s).mem = s.mem := rfl
@[simp] theorem spendFree_dma  (s : State) : (State.spendFree  s).dma = s.dma := rfl
@[simp] theorem spendFree_ciph  (s : State) : (State.spendFree  s).ciph = s.ciph := rfl
@[simp] theorem spendFree_ldg  (s : State) : (State.spendFree  s).ldg = s.ldg := rfl
@[simp] theorem spendFree_spi  (s : State) : (State.spendFree  s).spi = s.spi := rfl
@[simp] theorem spendFree_elec  (s : State) : (State.spendFree  s).elec = s.elec := rfl
@[simp] theorem spendFree_image  (s : State) : (State.spendFree  s).image = s.image := rfl
@[simp] theorem spendFree_outbox  (s : State) : (State.spendFree  s).outbox = s.outbox := rfl
@[simp] theorem spendFree_pending  (s : State) : (State.spendFree  s).pending = s.pending := rfl

/-! ### advanceTo -/
@[simp] theorem advanceTo_md (t : Nat) (s : State) : (s.advanceTo t).md = s.md := by
  unfold State.advanceTo; repeat (first | rfl | split)
@[simp] theorem advanceTo_regs (t : Nat) (s : State) : (s.advanceTo t).regs = s.regs := by
  unfold State.advanceTo; repeat (first | rfl | split)
@[simp] theorem advanceTo_rcdr (t : Nat) (s : State) : (s.advanceTo t).rcdr = s.rcdr := by
  unfold State.advanceTo; repeat (first | rfl | split)
@[simp] theorem advanceTo_tally (t : Nat) (s : State) : (s.advanceTo t).tally = s.tally := by
  unfold State.advanceTo; repeat (first | rfl | split)
@[simp] theorem advanceTo_faults (t : Nat) (s : State) : (s.advanceTo t).faults = s.faults := by
  unfold State.advanceTo; repeat (first | rfl | split)
@[simp] theorem advanceTo_adm (t : Nat) (s : State) : (s.advanceTo t).adm = s.adm := by
  unfold State.advanceTo; repeat (first | rfl | split)
@[simp] theorem advanceTo_nvq (t : Nat) (s : State) : (s.advanceTo t).nvq = s.nvq := by
  unfold State.advanceTo; repeat (first | rfl | split)
@[simp] theorem advanceTo_path (t : Nat) (s : State) : (s.advanceTo t).path = s.path := by
  unfold State.advanceTo; repeat (first | rfl | split)
@[simp] theorem advanceTo_ddup (t : Nat) (s : State) : (s.advanceTo t).ddup = s.ddup := by
  unfold State.advanceTo; repeat (first | rfl | split)
@[simp] theorem advanceTo_flash (t : Nat) (s : State) : (s.advanceTo t).flash = s.flash := by
  unfold State.advanceTo; repeat (first | rfl | split)
@[simp] theorem advanceTo_strp (t : Nat) (s : State) : (s.advanceTo t).strp = s.strp := by
  unfold State.advanceTo; repeat (first | rfl | split)
@[simp] theorem advanceTo_idm (t : Nat) (s : State) : (s.advanceTo t).idm = s.idm := by
  unfold State.advanceTo; repeat (first | rfl | split)
@[simp] theorem advanceTo_moor (t : Nat) (s : State) : (s.advanceTo t).moor = s.moor := by
  unfold State.advanceTo; repeat (first | rfl | split)
@[simp] theorem advanceTo_repl (t : Nat) (s : State) : (s.advanceTo t).repl = s.repl := by
  unfold State.advanceTo; repeat (first | rfl | split)
@[simp] theorem advanceTo_mem (t : Nat) (s : State) : (s.advanceTo t).mem = s.mem := by
  unfold State.advanceTo; repeat (first | rfl | split)
@[simp] theorem advanceTo_dma (t : Nat) (s : State) : (s.advanceTo t).dma = s.dma := by
  unfold State.advanceTo; repeat (first | rfl | split)
@[simp] theorem advanceTo_ciph (t : Nat) (s : State) : (s.advanceTo t).ciph = s.ciph := by
  unfold State.advanceTo; repeat (first | rfl | split)
@[simp] theorem advanceTo_ldg (t : Nat) (s : State) : (s.advanceTo t).ldg = s.ldg := by
  unfold State.advanceTo; repeat (first | rfl | split)
@[simp] theorem advanceTo_spi (t : Nat) (s : State) : (s.advanceTo t).spi = s.spi := by
  unfold State.advanceTo; repeat (first | rfl | split)
@[simp] theorem advanceTo_elec (t : Nat) (s : State) : (s.advanceTo t).elec = s.elec := by
  unfold State.advanceTo; repeat (first | rfl | split)
@[simp] theorem advanceTo_image (t : Nat) (s : State) : (s.advanceTo t).image = s.image := by
  unfold State.advanceTo; repeat (first | rfl | split)
@[simp] theorem advanceTo_outbox (t : Nat) (s : State) : (s.advanceTo t).outbox = s.outbox := by
  unfold State.advanceTo; repeat (first | rfl | split)
@[simp] theorem advanceTo_free (t : Nat) (s : State) : (s.advanceTo t).free = s.free := by
  unfold State.advanceTo; repeat (first | rfl | split)
@[simp] theorem advanceTo_pending (t : Nat) (s : State) : (s.advanceTo t).pending = s.pending := by
  unfold State.advanceTo; repeat (first | rfl | split)

/-- Only time moves. -/
theorem advanceTo_eq (t : Nat) (s : State) : s.advanceTo t = { s with time := (s.advanceTo t).time } := by
  unfold State.advanceTo
  repeat (first | rfl | split)

/-- Where the counter runs at full speed, a tick given is the tick reached. -/
theorem advanceTo_now {t : Nat} {s : State} (hr : s.time.running = true) (hs : s.slowClock = false) (ht : s.time.now ≤ t) :
    (s.advanceTo t).time.now = t := by
  unfold State.advanceTo
  by_cases h : t ≤ s.time.now
  · simp only [h, decide_true, Bool.true_or, if_true]; omega
  · simp [h, hr, hs]

theorem advanceTo_le (t : Nat) (s : State) : s.time.now ≤ (s.advanceTo t).time.now := by
  unfold State.advanceTo State.edges
  split
  · exact Nat.le_refl _
  · split
    · exact Nat.le_add_right _ _
    · dsimp only; simp only [Bool.or_eq_true, decide_eq_true_eq, not_or] at *; omega

@[simp] theorem advanceTo_running (t : Nat) (s : State) : (s.advanceTo t).time.running = s.time.running := by
  unfold State.advanceTo State.edges
  repeat (first | rfl | split)

/-! ### Stored registers -/

@[simp] theorem reg_advanceTo (t : Nat) (s : State) (a : Nat) : (s.advanceTo t).reg a = s.reg a := by simp [State.reg]

@[simp] theorem pathReg_advanceTo (t : Nat) (s : State) (o : Origin) (a : Nat) : (s.advanceTo t).pathReg o a = s.pathReg o a := by
  simp [State.pathReg]

@[simp] theorem staged_advanceTo (t : Nat) (s : State) (o : Origin) (a : Nat) : (s.advanceTo t).staged o a = s.staged o a := by
  simp [State.staged]

@[simp] theorem reg_setReg (a : Nat) (v : Word) (s : State) : (s.setReg a v).reg a = v := by simp [State.reg, State.setReg]

theorem reg_setReg_ne {a b : Nat} (v : Word) (s : State) (h : a ≠ b) : (s.setReg a v).reg b = s.reg b := by
  simp [State.reg, State.setReg, getD_put_ne _ _ _ h]

@[simp] theorem reg_setPathReg (o : Origin) (a b : Nat) (v : Word) (s : State) : (s.setPathReg o a v).reg b = s.reg b := rfl

@[simp] theorem staged_setPathReg (o p : Origin) (a b : Nat) (v : Word) (s : State) : (s.setPathReg o a v).staged p b = s.staged p b := rfl

@[simp] theorem pathReg_setReg (o : Origin) (a b : Nat) (v : Word) (s : State) : (s.setReg a v).pathReg o b = s.pathReg o b := rfl

@[simp] theorem pathReg_setPathReg (o : Origin) (a : Nat) (v : Word) (s : State) : (s.setPathReg o a v).pathReg o a = v := by
  simp [State.pathReg, State.setPathReg]

theorem pathReg_setPathReg_ne {a b : Nat} (o : Origin) (v : Word) (s : State) (h : a ≠ b) :
    (s.setPathReg o a v).pathReg o b = s.pathReg o b := by
  unfold State.pathReg State.setPathReg
  rw [getD_put_ne]
  unfold pathKey; omega

@[simp] theorem staged_stage (o : Origin) (a : Nat) (v : Word) (s : State) : (s.stage o a v).staged o a = v := by
  simp [State.staged, State.stage]

@[simp] theorem reg_raise (a m : Nat) (s : State) : (s.raise a m).reg a = s.reg a ||| BitVec.ofNat 32 m := by
  simp [State.raise, State.reg]

theorem reg_raise_ne {a b : Nat} (m : Nat) (s : State) (h : a ≠ b) : (s.raise a m).reg b = s.reg b := by
  simp [State.raise, State.reg, getD_put_ne _ _ _ h]

/-! ### Where a write or a read reaches its register -/

/-- A write that nothing turns away is what the register does with it. -/
theorem gateWrite_of {o : Origin} {a : Nat} {v : Word} {s : State} {r : RegDesc} {n : Nat} (act : RegDesc → State → State)
    (h1 : s.md.mode ≠ .reset) (h2 : s.md.mode ≠ .locked) (hf : findReg a = some (r, n)) (hw : r.writable = true)
    (ha : r.when_.allows s.md.mode = true) (hv : v &&& r.reserved = 0) : s.gateWrite o a v act = act r s := by
  simp [State.gateWrite, h1, h2, hf, hw, ha, hv]

/-- A read that nothing turns away is what the register does with it. -/
theorem gateRead_of {o : Origin} {a : Nat} {s : State} {r : RegDesc} {n : Nat} (act : RegDesc → State → State)
    (h1 : s.md.mode ≠ .reset) (h2 : s.md.mode ≠ .locked) (hf : findReg a = some (r, n)) : s.gateRead o a act = act r s := by
  simp [State.gateRead, h1, h2, hf]

end Sys2Proof.Machine
end

