-- ==== Sys2Proof/Laws/Complete.lean ====
section
/-!
SUPPORT. What a completion does: with room in its queue the entry leaves, and nothing that was sent is taken back.
-/

namespace Sys2Proof.Laws

open Sys2Proof.Machine Sys2Proof.Safety

theorem emit_sends {s : State} {o : Out} (hf : s.moor.fenced = false) : (s.emit o).outbox = o :: s.outbox := by
  simp [State.emit, hf]

theorem emits_sends {α : Type} (g : α → Out) : ∀ (l : List α) (s : State), s.moor.fenced = false →
    (l.foldl (fun (s : State) (k : α) => s.emit (g k)) s).outbox = (l.map g).reverse ++ s.outbox
  | [], _, _ => rfl
  | a :: l, s, hf => by
    rw [List.foldl_cons, emits_sends g l _ (by rw [(State.emit_frame _ _).moor (by decide)]; exact hf), emit_sends hf]
    simp

/-- The batches of a fetch hold as many entries as are fetched. -/
theorem fetchBatches_sum (b n : Nat) : (fetchBatches b n).sum = n := by
  unfold fetchBatches
  rw [List.sum_append, List.sum_replicate_nat]
  have := Nat.div_add_mod n b
  split <;> simp <;> rw [Nat.mul_comm] <;> omega

/-- No batch of a fetch holds more than the batch size. -/
theorem fetchBatches_le {b n k : Nat} (hb : 0 < b) (h : k ∈ fetchBatches b n) : k ≤ b := by
  unfold fetchBatches at h
  rcases List.mem_append.1 h with h | h
  · exact Nat.le_of_eq (List.eq_of_mem_replicate h)
  · split at h
    · cases h
    · rw [List.mem_singleton.1 h]; exact Nat.le_of_lt (Nat.mod_lt n hb)

theorem sends_after {o : Out} {s u w : State} {m : Nat} (h : Sends o s u) (f : Frame m u w) : Sends o s w := by
  obtain ⟨new, e, hm⟩ := h
  obtain ⟨l, hl⟩ := f.sent
  exact ⟨l ++ new, by rw [← hl, e, List.append_assoc], List.mem_append_right _ hm⟩

theorem sends_before {o : Out} {s x u : State} {m : Nat} (f : Frame m s x) (h : Sends o x u) : Sends o s u := by
  obtain ⟨new, e, hm⟩ := h
  obtain ⟨l, hl⟩ := f.sent
  exact ⟨new ++ l, by rw [e, ← hl, List.append_assoc], List.mem_append_left _ hm⟩

theorem sends_ite {o : Out} {s a b : State} {c : Prop} [Decidable c] (ha : Sends o s a) (hb : Sends o s b) :
    Sends o s (if c then a else b) := by
  split
  · exact ha
  · exact hb

/-- Room in the queue a completion goes to. -/
def Room (cntl qid : Nat) (s : State) : Prop :=
  s.moor.fenced = false ∧ NMap.has s.nvq.ctrls cntl = true ∧
    ∃ k q, s.cqKey cntl qid = some k ∧ NMap.find s.nvq.cqs k = some q ∧ q.full = false ∧ q.held = [] ∧ q.cntl = cntl ∧ q.qid = qid

theorem Room.congr {cntl qid : Nat} {s u : State} (h : Room cntl qid s) (hn : u.nvq.cqs = s.nvq.cqs)
    (hc : NMap.has u.nvq.ctrls cntl = NMap.has s.nvq.ctrls cntl) (hm : u.moor.fenced = s.moor.fenced) : Room cntl qid u := by
  unfold Room State.cqKey at *
  rw [hn, hc, hm]
  exact h

theorem ready_room {cntl qid : Nat} {s : State} (h : Ready cntl qid s) : Room cntl qid s := by
  obtain ⟨hf, hq⟩ := h
  unfold State.canFetch at hf
  simp only [Bool.and_eq_true] at hf
  refine ⟨?_, hf.1.2, hq⟩
  simpa using hf.1.1.2

theorem find_isSome_upd {α : Type} (m : NMap α) (k : Nat) (f : α → α) (j : Nat) : NMap.has (NMap.upd m k f) j = NMap.has m j := by
  unfold NMap.has
  rw [find_upd]
  split <;> simp

/-- The completion of a command whose queue has room leaves. -/
theorem finish_sends {cntl qid cid sct sc dw0 dw1 : Nat} {s : State} (h : Room cntl qid s) :
    ∃ head phase, Sends (.completion cntl qid { cid := cid, sct := sct, sc := sc, dw0 := dw0, dw1 := dw1, sqHead := head } phase) s
      (s.finish cntl qid cid sct sc dw0 dw1) := by
  obtain ⟨hm, hc, k, q, hk, hq, hfull, hheld, e1, e2⟩ := h
  unfold State.finish
  obtain ⟨c, hc'⟩ := Option.isSome_iff_exists.1 (show (NMap.find s.nvq.ctrls cntl).isSome = true from hc)
  rw [hc']
  dsimp only
  rw [hk, Option.getD_some]
  generalize hx : (if (sct == 0 && sc == 0) = true then _ else _ : State) = x
  have fx : x.nvq.cqs = s.nvq.cqs ∧ x.moor = s.moor ∧ x.outbox = s.outbox := by
    subst hx
    have f0 : ∀ y : State, ∀ i, (State.count i y).nvq = y.nvq ∧ (State.count i y).moor = y.moor ∧ (State.count i y).outbox = y.outbox :=
      fun y i => ⟨(State.count_frame i y).nvq (by decide), (State.count_frame i y).moor (by decide), (State.count_frame i y).outbox (by decide)⟩
    split
    · rw [(f0 _ _).1, (f0 _ _).2.1, (f0 _ _).2.2]; exact ⟨rfl, rfl, rfl⟩
    · unfold State.logError
      dsimp only
      rw [(f0 _ _).1, (f0 _ _).2.1, (f0 _ _).2.2]; exact ⟨rfl, rfl, rfl⟩
  clear hx
  unfold State.postCqe
  rw [fx.1, hq]
  dsimp only
  rw [hfull, hheld, if_neg (by simp)]
  unfold State.writeCqe
  rw [fx.1, hq]
  dsimp only
  refine ⟨(match (s.queueKey cntl qid).bind (NMap.find s.nvq.sqs) with | some q => q.head | none => 0), q.phase, ?_⟩
  have hs : ∀ o : Out, Sends o s ((x.updCq k (Cq.push x.time.now)).emit o) := by
    intro o
    refine ⟨[o], ?_, List.mem_singleton.2 rfl⟩
    rw [emit_sends (by show x.moor.fenced = false; rw [fx.2.1]; exact hm)]
    show _ :: x.outbox = _
    rw [fx.2.2]; rfl
  rw [e1, e2]
  exact sends_ite (sends_after (hs _) (State.notifyCq_frame _ _)) (hs _)

/-- A completed command whose queue has room is answered. -/
theorem complete_answers {cntl qid cid sct sc dw0 dw1 : Nat} {s : State} (h : Room cntl qid s) :
    Answers cntl qid cid sct sc dw0 s (s.complete cntl qid cid sct sc dw0 dw1) := by
  obtain ⟨head, phase, hs⟩ := finish_sends (cid := cid) (sct := sct) (sc := sc) (dw0 := dw0) (dw1 := dw1) h
  unfold State.complete
  obtain ⟨new, e, hm⟩ := sends_after hs (State.settle_frame cntl _)
  exact ⟨new, dw1, head, phase, e, hm⟩

theorem answers_before {cntl qid cid sct sc dw0 m : Nat} {s x u : State} (f : Frame m s x) (h : Answers cntl qid cid sct sc dw0 x u) :
    Answers cntl qid cid sct sc dw0 s u := by
  obtain ⟨new, d, hd, p, e, hm⟩ := h
  obtain ⟨n2, e2, hm2⟩ := sends_before f ⟨new, e, hm⟩
  exact ⟨n2, d, hd, p, e2, hm2⟩

theorem answers_after {cntl qid cid sct sc dw0 m : Nat} {s u w : State} (h : Answers cntl qid cid sct sc dw0 s u)
    (f : Frame m u w) : Answers cntl qid cid sct sc dw0 s w := by
  obtain ⟨new, d, hd, p, e, hm⟩ := h
  obtain ⟨n2, e2, hm2⟩ := sends_after ⟨new, e, hm⟩ f
  exact ⟨n2, d, hd, p, e2, hm2⟩

theorem Room.of_frame {cntl qid m : Nat} {s u : State} (h : Room cntl qid s) (f : Frame m s u) (h7 : m.testBit 7 = false)
    (h13 : m.testBit 13 = false) : Room cntl qid u := by
  refine h.congr ?_ ?_ ?_
  · rw [f.nvq h7]
  · rw [f.nvq h7]
  · rw [f.moor h13]

theorem Room.fetched {cntl qid : Nat} {e : Sqe} {c q : Nat} {s : State} (h : Room c q s) : Room c q (s.fetched cntl qid e) := by
  unfold State.fetched
  refine Room.of_frame (u := State.count _ _) ?_ (State.count_frame _ _) (by decide) (by decide)
  refine h.congr rfl ?_ rfl
  exact find_isSome_upd _ _ _ _

theorem ready_advanceTo {cntl qid t : Nat} {s : State} (h : Ready cntl qid s) : Ready cntl qid (s.advanceTo t) := by
  rw [advanceTo_eq]; exact h

/-- An admin command that nothing turns away runs on the state in which it has been fetched. -/
theorem admin_of {cntl : Nat} {e : Sqe} {always : Bool} {run : State → State} {s : State} (h : s.canFetch cntl 0 = true)
    (hp : s.md.mode ≠ .preservation ∨ always = true) (he : e.fuse = 0) : s.admin cntl e always run = run (s.fetched cntl 0 e) := by
  have hmd : (s.fetched cntl 0 e).md = s.md := (State.fetched_frame _ _ _ s).md (by decide)
  simp only [State.admin, h, he, hmd]
  rcases hp with hp | hp <;> simp [hp]

end Sys2Proof.Laws
end

