-- ==== Sys2Proof/Laws/Rest.lean ====
section
/-!
SUPPORT. Reading one quantity through a frame that keeps a component but for the part of it that the frame names apart.
-/

namespace Sys2Proof.Laws

open Sys2Proof.Machine

/-- A quantity of the mode registers that the kept boot events do not enter. -/
theorem Frame.mdKept {α : Type} {k : Nat} {s u : State} (f : Frame k s u) (h : k.testBit 26 = false) (g : ModeState → α)
    (hg : ∀ a, g { a with bootEvents := [] } = g a) : g u.md = g s.md :=
  (hg u.md).symm.trans ((congrArg g (f.mdRest h)).trans (hg s.md))

/-- A quantity of the pair's registers that the change list does not enter. -/
theorem Frame.moorKept {α : Type} {k : Nat} {s u : State} (f : Frame k s u) (h : k.testBit 31 = false) (g : MoorState → α)
    (hg : ∀ a, g { a with changes := [] } = g a) : g u.moor = g s.moor :=
  (hg u.moor).symm.trans ((congrArg g (f.moorRest h)).trans (hg s.moor))

/-- A quantity of the DMA that the asserted lines do not enter. -/
theorem Frame.dmaKept {α : Type} {k : Nat} {s u : State} (f : Frame k s u) (h : k.testBit 29 = false) (g : DmaState → α)
    (hg : ∀ a, g { a with lines := [] } = g a) : g u.dma = g s.dma :=
  (hg u.dma).symm.trans ((congrArg g (f.dmaRest h)).trans (hg s.dma))

/-- A quantity of the Tally that the live counters, with what was added to them at the present tick, do not enter. -/
theorem Frame.tallyKept {α : Type} {k : Nat} {s u : State} (f : Frame k s u) (h : k.testBit 28 = false) (g : TallyState → α)
    (hg : ∀ a, g { a with live := [], adds := [], addsAt := 0 } = g a) : g u.tally = g s.tally :=
  (hg u.tally).symm.trans ((congrArg g (f.tallyRest h)).trans (hg s.tally))

/-- A quantity of the recorder that recording an event does not change. -/
theorem Frame.rcdrKept {α : Type} {k : Nat} {s u : State} (f : Frame k s u) (h : k.testBit 27 = false) (g : RecorderState → α)
    (hg : ∀ a, g { a with newest := 0, recs := [], lost := 0, lostMark := false, windows := [] } = g a) : g u.rcdr = g s.rcdr :=
  (hg u.rcdr).symm.trans ((congrArg g (f.rcdrRest h)).trans (hg s.rcdr))

/-- A quantity of the queues that completing a command does not change. -/
theorem Frame.nvqKept {α : Type} {k : Nat} {s u : State} (f : Frame k s u) (h : k.testBit 30 = false) (g : NvqState → α)
    (hg : ∀ a, g { a with ctrls := [], sqs := [], cqs := [], orphans := [], errors := [] } = g a) : g u.nvq = g s.nvq :=
  (hg u.nvq).symm.trans ((congrArg g (f.nvqRest h)).trans (hg s.nvq))

/-- A fold over a list keeps what each of its steps keeps. -/
theorem foldl_keep {α β : Type} (g : State → β) {f : State → α → State} (hf : ∀ x a, g (f x a) = g x) (l : List α) (x : State) :
    g (l.foldl f x) = g x := by
  induction l generalizing x with
  | nil => rfl
  | cons a l ih => exact (ih _).trans (hf x a)

/-- A fold over a list touches what its steps touch. -/
theorem foldl_frame {α : Type} {m : Nat} {f : State → α → State} (hf : ∀ x a, Frame m x (f x a)) (l : List α) (x : State) :
    Frame m x (l.foldl f x) := by
  induction l generalizing x with
  | nil => exact Frame.refl x
  | cons a l ih => exact Frame.comp (ih _) (by simp) (hf x a)

end Sys2Proof.Laws
end

