-- ==== Sys2Proof/Laws/Admin.lean ====
section
/-!
SUPPORT. What an admin command meets from its fetch to its end: the state it runs on, and what its completion leaves as it was.
-/

namespace Sys2Proof.Laws

open Sys2Proof.Machine Sys2Proof.Safety

theorem count_nvq (i : Nat) (s : State) : (s.count i).nvq = s.nvq := (State.count_frame i s).nvq (by decide)

theorem emit_nvq (o : Out) (s : State) : (s.emit o).nvq = s.nvq := (State.emit_frame o s).nvq (by decide)

theorem notifyCq_sqs (key : Nat) (s : State) : (s.notifyCq key).nvq.sqs = s.nvq.sqs := by
  unfold State.notifyCq
  split
  · split
    · rfl
    · rw [emit_nvq]; rfl
  · rfl

theorem writeCqe_sqs (key : Nat) (c : Cqe) (s : State) : (s.writeCqe key c).nvq.sqs = s.nvq.sqs := by
  have h : ∀ (q : Cq) (o : Out), ((s.updCq key (Cq.push s.time.now)).emit o).nvq.sqs = s.nvq.sqs := fun _ _ => by rw [emit_nvq]; rfl
  unfold State.writeCqe
  split
  · rfl
  · rename_i q _
    dsimp only
    have k : ∀ b : Bool, ∀ o : Out, (if b = true then ((s.updCq key (Cq.push s.time.now)).emit o).notifyCq key
        else (s.updCq key (Cq.push s.time.now)).emit o).nvq.sqs = s.nvq.sqs := by
      intro b o
      cases b
      · exact h q o
      · exact (notifyCq_sqs _ _).trans (h q o)
    exact k _ _

theorem postCqe_sqs (key : Nat) (c : Cqe) (s : State) : (s.postCqe key c).nvq.sqs = s.nvq.sqs := by
  unfold State.postCqe
  split
  · rfl
  · split
    · rw [(State.recordOnce_frame _ _ _ _).nvq (by decide), count_nvq]; rfl
    · exact writeCqe_sqs _ _ _

theorem finish_sqs (cntl qid cid sct sc dw0 dw1 : Nat) (s : State) : (s.finish cntl qid cid sct sc dw0 dw1).nvq.sqs = s.nvq.sqs := by
  unfold State.finish
  split
  · split
    · rw [emit_nvq]
    · rfl
  · dsimp only
    rw [postCqe_sqs]
    split
    · rw [count_nvq]; rfl
    · unfold State.logError; dsimp only; rw [count_nvq]; rfl

/-- What a settled controller's completion leaves as it was. -/
theorem settle_settled {cntl : Nat} {s : State} (h : Settled cntl s) : Frame 4259998 s (s.settle cntl) ∧ (s.settle cntl).nvq.sqs = s.nvq.sqs := by
  unfold State.settle
  split
  · exact ⟨Frame.refl s, rfl⟩
  · rename_i c _
    have hk : ∀ (l : List (Nat × Sqe × Nat)) (x : State), Frame 4259998 x (l.foldl (fun s x => s.finish cntl x.1 x.2.1.cid 0 0 0 0) x) ∧
        (l.foldl (fun s x => s.finish cntl x.1 x.2.1.cid 0 0 0 0) x).nvq.sqs = x.nvq.sqs := by
      intro l
      induction l with
      | nil => exact fun x => ⟨Frame.refl x, rfl⟩
      | cons a l ih =>
        intro x
        obtain ⟨i1, i2⟩ := ih (x.finish cntl a.1 a.2.1.cid 0 0 0 0)
        exact ⟨Frame.comp i1 rfl (State.finish_frame _ _ _ _ _ _ _ x), i2.trans (finish_sqs _ _ _ _ _ _ _ x)⟩
    obtain ⟨k1, k2⟩ := hk (readyFlushes [] c.outstanding) s
    dsimp only
    have he : (((readyFlushes [] c.outstanding).foldl (fun s x => s.finish cntl x.1 x.2.1.cid 0 0 0 0) s).nvq.sqs.filter
        (fun p => p.2.cntl == cntl && p.2.deleting.isSome)) = [] := by
      rw [k2, List.filter_eq_nil_iff]
      intro p hp
      by_cases hc : p.2.cntl = cntl
      · simp [h p hp hc]
      · simp [hc]
    rw [he]
    exact ⟨k1, k2⟩

theorem complete_settled {cntl : Nat} {s : State} (qid cid sct sc dw0 dw1 : Nat) (h : Settled cntl s) :
    Frame 4259998 s (s.complete cntl qid cid sct sc dw0 dw1) ∧ (s.complete cntl qid cid sct sc dw0 dw1).nvq.sqs = s.nvq.sqs := by
  have e := finish_sqs cntl qid cid sct sc dw0 dw1 s
  have h' : Settled cntl (s.finish cntl qid cid sct sc dw0 dw1) := by unfold Settled; rw [e]; exact h
  obtain ⟨k1, k2⟩ := settle_settled h'
  exact ⟨Frame.comp k1 rfl (State.finish_frame _ _ _ _ _ _ _ s), k2.trans e⟩

theorem mem_of_find {α : Type} {m : NMap α} {k : Nat} {v : α} (h : NMap.find m k = some v) : (k, v) ∈ m := by
  induction m with
  | nil => cases h
  | cons q m ih =>
    rw [find_cons] at h
    split at h
    · rename_i e; cases h; subst e; exact List.mem_cons_self ..
    · exact List.mem_cons_of_mem _ (ih h)

theorem mem_upd {α : Type} {m : NMap α} {k : Nat} {f : α → α} {p : Nat × α} (h : p ∈ NMap.upd m k f) :
    p ∈ m ∨ ∃ a, (k, a) ∈ m ∧ p = (k, f a) := by
  unfold NMap.upd at h
  split at h
  · rename_i v hv
    rcases mem_put h with h | h
    · exact .inr ⟨v, mem_of_find hv, h⟩
    · exact .inl h
  · exact .inl h

theorem Settled.of_sqs {cntl : Nat} {s u : State} (h : Settled cntl s) (e : u.nvq.sqs = s.nvq.sqs) : Settled cntl u := by
  unfold Settled; rw [e]; exact h

/-- Fetching a command leaves everything but its controller's list, the head of its queue and a counter. -/
theorem fetched_nvq (cntl qid : Nat) (e : Sqe) (s : State) : (s.fetched cntl qid e).nvq = { s.nvq with
    ctrls := NMap.upd s.nvq.ctrls cntl (fun c => { c with outstanding := c.outstanding ++ [(qid, e, s.time.now)] })
    sqs := NMap.upd s.nvq.sqs ((s.queueKey cntl qid).getD (adminKey cntl)) (fun q =>
      { q with head := if q.size ≤ q.head + 1 then 0 else q.head + 1 }) } := by
  unfold State.fetched; rw [count_nvq]; rfl

theorem Settled.fetched {cntl c q : Nat} {e : Sqe} {s : State} (h : Settled cntl s) : Settled cntl (s.fetched c q e) := by
  unfold Settled
  rw [fetched_nvq]
  intro p hp
  rcases mem_upd hp with hp | ⟨a, ha, rfl⟩
  · exact h p hp
  · exact h (_, a) ha

/-- An admin command that nothing turns away runs on the state in which it has been fetched, with room for its completion. -/
theorem runs_admin {cntl t : Nat} {e : Sqe} {always : Bool} {run : State → State} {s : State} (h : Runs cntl e s) :
    (s.advanceTo t).admin cntl e always run = run ((s.advanceTo t).fetched cntl 0 e) ∧
      Room cntl 0 ((s.advanceTo t).fetched cntl 0 e) ∧ Settled cntl ((s.advanceTo t).fetched cntl 0 e) := by
  obtain ⟨hr, hm, he, hs⟩ := h
  have hr' := ready_advanceTo (t := t) hr
  refine ⟨admin_of hr'.1 (.inl (by rw [advanceTo_md]; exact hm)) he, (ready_room hr').fetched, ?_⟩
  exact Settled.fetched (Settled.of_sqs hs (by rw [advanceTo_nvq]))

/-- What placing an entry leaves of a completion queue, and completing a command of a controller. -/
def Posted {α β : Type} (g : Cq → α) (h : Ctrl → β) (s u : State) : Prop :=
  (∀ k, (NMap.find u.nvq.cqs k).map g = (NMap.find s.nvq.cqs k).map g) ∧
    ∀ k, (NMap.find u.nvq.ctrls k).map h = (NMap.find s.nvq.ctrls k).map h

theorem Posted.trans {α β : Type} {g : Cq → α} {h : Ctrl → β} {s x u : State} (a : Posted g h x u) (b : Posted g h s x) :
    Posted g h s u := ⟨fun k => (a.1 k).trans (b.1 k), fun k => (a.2 k).trans (b.2 k)⟩

theorem Posted.of_eq {α β : Type} {g : Cq → α} {h : Ctrl → β} {s u : State} (e : u.nvq.cqs = s.nvq.cqs) (e' : u.nvq.ctrls = s.nvq.ctrls) :
    Posted g h s u := ⟨fun k => by rw [e], fun k => by rw [e']⟩

theorem find_upd_map {α β : Type} (m : NMap α) (k : Nat) (f : α → α) (g : α → β) (hg : ∀ a, g (f a) = g a) (j : Nat) :
    (NMap.find (NMap.upd m k f) j).map g = (NMap.find m j).map g := by
  rw [find_upd]
  split
  · rename_i e; subst e
    cases NMap.find m k with
    | none => rfl
    | some a => exact congrArg some (hg a)
  · rfl

/-- A quantity of a completion queue that its entries do not enter. -/
def Steady {α : Type} (g : Cq → α) : Prop :=
  ∀ (q : Cq) (a : Nat) (b : Bool) (c : List Cqe) (d e : Nat),
    g { q with tail := a, phase := b, held := c, unnotified := d, notifyFrom := e } = g q

theorem notifyCq_posted {α β : Type} {g : Cq → α} {h : Ctrl → β} (hg : Steady g) (key : Nat) (s : State) : Posted g h s (s.notifyCq key) := by
  unfold State.notifyCq
  split
  · split
    · exact .of_eq rfl rfl
    · refine Posted.trans (x := s.updCq key (fun q => { q with unnotified := 0 })) (.of_eq (by rw [emit_nvq]) (by rw [emit_nvq]))
        ⟨fun k => ?_, fun k => rfl⟩
      exact find_upd_map _ _ _ g (fun q => hg q q.tail q.phase q.held 0 q.notifyFrom) k
  · exact .of_eq rfl rfl

theorem writeCqe_posted {α β : Type} {g : Cq → α} {h : Ctrl → β} (hg : Steady g) (key : Nat) (c : Cqe) (s : State) :
    Posted g h s (s.writeCqe key c) := by
  unfold State.writeCqe
  split
  · exact .of_eq rfl rfl
  · have hp : ∀ o : Out, Posted g h s ((s.updCq key (Cq.push s.time.now)).emit o) := fun o =>
      Posted.trans (x := s.updCq key (Cq.push s.time.now)) (.of_eq (by rw [emit_nvq]) (by rw [emit_nvq]))
        ⟨fun k => find_upd_map _ _ _ g (fun q => hg q _ _ q.held _ _) k, fun k => rfl⟩
    dsimp only
    have k : ∀ (b : Bool) (o : Out), Posted g h s (if b = true then ((s.updCq key (Cq.push s.time.now)).emit o).notifyCq key
        else (s.updCq key (Cq.push s.time.now)).emit o) := by
      intro b o
      cases b
      · exact hp o
      · exact Posted.trans (notifyCq_posted hg _ _) (hp o)
    exact k _ _

theorem postCqe_posted {α β : Type} {g : Cq → α} {h : Ctrl → β} (hg : Steady g) (key : Nat) (c : Cqe) (s : State) :
    Posted g h s (s.postCqe key c) := by
  unfold State.postCqe
  split
  · exact .of_eq rfl rfl
  · split
    · have e : ∀ (x : State), ((x.raise Reg.NVQ_STATUS 2).count (ctrQueue (tallyQueue key) 5)).nvq = x.nvq := fun x => by rw [count_nvq]; rfl
      refine Posted.trans (x := s.updCq key (fun q => { q with held := q.held ++ [c] })) (.of_eq ?_ ?_)
        ⟨fun k => find_upd_map _ _ _ g (fun q => hg q q.tail q.phase _ q.unnotified q.notifyFrom) k, fun k => rfl⟩
      · rw [(State.recordOnce_frame _ _ _ _).nvq (by decide), e]
      · rw [(State.recordOnce_frame _ _ _ _).nvq (by decide), e]
    · exact writeCqe_posted hg _ _ _

theorem finish_posted {α β : Type} {g : Cq → α} {h : Ctrl → β} (hg : Steady g)
    (hh : ∀ (c : Ctrl) (l : List (Nat × Sqe × Nat)), h { c with outstanding := l } = h c) (cntl qid cid sct sc dw0 dw1 : Nat) (s : State) :
    Posted g h s (s.finish cntl qid cid sct sc dw0 dw1) := by
  unfold State.finish
  split
  · split
    · exact .of_eq (by rw [emit_nvq]) (by rw [emit_nvq])
    · exact .of_eq rfl rfl
  · dsimp only
    refine Posted.trans (postCqe_posted hg _ _ _) ?_
    refine Posted.trans (x := s.updCtrl cntl (fun c =>
      { c with outstanding := c.outstanding.filter (fun x => !(x.1 == qid && x.2.1.cid == cid)) })) ?_
      ⟨fun k => rfl, fun k => find_upd_map _ _ _ h (fun c => hh c _) k⟩
    split
    · exact .of_eq (by rw [count_nvq]) (by rw [count_nvq])
    · unfold State.logError
      exact .of_eq (by dsimp only; rw [count_nvq]) (by dsimp only; rw [count_nvq])

/-- What a completion leaves of the queues and the controllers. -/
theorem complete_posted {α β : Type} {g : Cq → α} {h : Ctrl → β} {cntl : Nat} {s : State} (hg : Steady g)
    (hh : ∀ (c : Ctrl) (l : List (Nat × Sqe × Nat)), h { c with outstanding := l } = h c) (qid cid sct sc dw0 dw1 : Nat)
    (hs : Settled cntl s) : Posted g h s (s.complete cntl qid cid sct sc dw0 dw1) := by
  unfold State.complete State.settle
  refine Posted.trans ?_ (finish_posted hg hh cntl qid cid sct sc dw0 dw1 s)
  have hs' : Settled cntl (s.finish cntl qid cid sct sc dw0 dw1) := by unfold Settled; rw [finish_sqs]; exact hs
  generalize s.finish cntl qid cid sct sc dw0 dw1 = y at hs' ⊢
  split
  · exact .of_eq rfl rfl
  · have hk : ∀ (l : List (Nat × Sqe × Nat)) (x : State), Posted g h x (l.foldl (fun s x => s.finish cntl x.1 x.2.1.cid 0 0 0 0) x) ∧
        (l.foldl (fun s x => s.finish cntl x.1 x.2.1.cid 0 0 0 0) x).nvq.sqs = x.nvq.sqs := by
      intro l
      induction l with
      | nil => exact fun x => ⟨.of_eq rfl rfl, rfl⟩
      | cons a l ih =>
        intro x
        obtain ⟨i1, i2⟩ := ih (x.finish cntl a.1 a.2.1.cid 0 0 0 0)
        exact ⟨Posted.trans i1 (finish_posted hg hh _ _ _ _ _ _ _ x), i2.trans (finish_sqs _ _ _ _ _ _ _ x)⟩
    rename_i c _
    obtain ⟨k1, k2⟩ := hk (readyFlushes [] c.outstanding) y
    have he : (((readyFlushes [] c.outstanding).foldl (fun s x => s.finish cntl x.1 x.2.1.cid 0 0 0 0) y).nvq.sqs.filter
        (fun p => p.2.cntl == cntl && p.2.deleting.isSome)) = [] := by
      rw [k2, List.filter_eq_nil_iff]
      intro p hp
      by_cases hc : p.2.cntl = cntl
      · simp [hs' p hp hc]
      · simp [hc]
    dsimp only
    rw [he]
    exact k1

/-- With a partner a change is asked of it. -/
theorem propose_asks {c : PairChange} {cntl : Nat} {e : Sqe} {s : State} (hm : s.mirrors = true) (hf : s.moor.fenced = false) :
    Sends (.commit (s.moor.token + 1) (mirrorChange c)) s (s.propose c cntl e) ∧
      (s.propose c cntl e).moor.commits = s.moor.commits ++
        [{ token := s.moor.token + 1, change := c, tick := s.time.now, cntl := cntl, cmd := e }] := by
  unfold State.propose
  rw [if_pos hm]
  dsimp only
  refine ⟨⟨[_], emit_sends (by exact hf), List.mem_singleton.2 rfl⟩, ?_⟩
  rw [(State.emit_frame _ _).moor (by decide)]

/-- Without a partner a change is applied at once, and kept for the partner's return. -/
theorem propose_applies {c : PairChange} {cntl : Nat} {e : Sqe} {s : State} (hm : s.mirrors = false) :
    s.propose c cntl e = State.settleChange c cntl e { s with moor := { s.moor with changes := s.moor.changes ++ [mirrorChange c] } } := by
  unfold State.propose
  rw [if_neg (by rw [hm]; decide)]

end Sys2Proof.Laws
end

