-- ==== Sys2Proof/Laws/Faults.lean ====
section
/-!
SUPPORT. What retiring a unit and counting a fault leave in the fault registers.
-/

namespace Sys2Proof.Laws

open Sys2Proof.Machine

theorem record_faults (code : Nat) (data : List Nat) (s : State) : (s.record code data).faults = s.faults :=
  (State.record_frame code data s).faults (by decide)

theorem raise_faults (a b : Nat) (s : State) : (s.raise a b).faults = s.faults := (State.raise_frame a b s).faults (by decide)

theorem count_faults (i : Nat) (s : State) : (s.count i).faults = s.faults := (State.count_frame i s).faults (by decide)

/-- Retiring a unit that is the last of a kind without retirement enters Preservation instead, and the fault registers stand; any other
unit not retired yet is added, and the log of faults stands. -/
theorem retireUnit_faults (u : FUnit) (s : State) :
    (s.retireUnit u).faults.log = s.faults.log ∧
      ((s.lastOfKind u = false ∨ s.faults.retired.contains u = true) → (s.retireUnit u).faults.retired.contains u = true) ∧
      ∀ v, s.faults.retired.contains v = true → (s.retireUnit u).faults.retired.contains v = true := by
  unfold State.retireUnit
  by_cases hc : s.faults.retired.contains u = true
  · rw [if_pos hc]; exact ⟨rfl, fun _ => hc, fun _ h => h⟩
  · rw [if_neg hc]
    by_cases hl : s.lastOfKind u = true
    · rw [if_pos hl]
      have f := (State.enterPreservation_frame 0x0D s).faults (by decide)
      rw [f]
      exact ⟨rfl, fun h => absurd (h.resolve_right hc) (by rw [hl]; decide), fun _ h => h⟩
    · rw [if_neg hl]
      have key : ∀ x : State, x.faults.log = (s.addRetired u).faults.log → x.faults.retired = (s.addRetired u).faults.retired →
          x.faults.log = s.faults.log ∧ ((s.lastOfKind u = false ∨ s.faults.retired.contains u = true) →
            x.faults.retired.contains u = true) ∧ ∀ v, s.faults.retired.contains v = true → x.faults.retired.contains v = true := by
        intro x h1 h2
        refine ⟨h1, fun _ => ?_, fun v h => ?_⟩
        · rw [h2]; simp [State.addRetired]
        · rw [h2]
          simp only [State.addRetired, List.contains_eq_mem, decide_eq_true_eq, List.mem_append] at h ⊢
          exact .inl h
      have kf : ∀ x : State, x.faults = (s.addRetired u).faults → _ := fun x h => key x (by rw [h]) (by rw [h])
      clear key
      have kl : ∀ (x : State) (m : NMap Nat), x.faults = { (s.addRetired u).faults with lanes := m } →
          x.faults.log = s.faults.log ∧ ((s.lastOfKind u = false ∨ s.faults.retired.contains u = true) →
            x.faults.retired.contains u = true) ∧ ∀ v, s.faults.retired.contains v = true → x.faults.retired.contains v = true := by
        intro x m h
        refine ⟨by rw [h]; rfl, fun _ => ?_, fun v hv => ?_⟩
        · rw [h]; simp [State.addRetired]
        · rw [h]
          simp only [State.addRetired, List.contains_eq_mem, decide_eq_true_eq, List.mem_append] at hv ⊢
          exact .inl hv
      dsimp only
      cases u with
      | block d b => exact kf _ (record_faults _ _ _)
      | die d => exact kf _ (((State.partialLoss_frame _ _ _ _).faults (by decide)).trans ((raise_faults _ _ _).trans (record_faults _ _ _)))
      | channel c =>
        dsimp only
        split
        · exact kf _ (((State.memberFail_frame _ _ _).faults (by decide)).trans (record_faults _ _ _))
        · exact kf _ (((State.partialLoss_frame _ _ _ _).faults (by decide)).trans (record_faults _ _ _))
      | serdes l =>
        dsimp only
        have h := record_faults 0x6200 [l] (s.addRetired (.serdes l))
        generalize State.record 0x6200 [l] _ = w at h ⊢
        split
        · exact kl _ (NMap.put w.faults.lanes l 0) (by dsimp only; rw [h])
        · exact kl _ (NMap.put w.faults.lanes l 0) (((State.useSlack_frame _ _ _).faults (by decide)).trans (by dsimp only; rw [h]))
      | clane n => exact kf _ (((State.replaceWork_frame _ _ _ _).faults (by decide)).trans ((raise_faults _ _ _).trans (record_faults _ _ _)))
      | dlane n => exact kf _ ((raise_faults _ _ _).trans (record_faults _ _ _))
      | cluster n =>
        dsimp only
        have h : (State.useSlack (fun w => w.grains.any (fun g => g.dedup == .waiting)) 0x5201
            (((s.addRetired (.cluster n)).record 0x5201 [n]).raise Reg.DDUP_STATUS 2)).faults = (s.addRetired (.cluster n)).faults :=
          ((State.useSlack_frame _ _ _).faults (by decide)).trans ((raise_faults _ _ _).trans (record_faults _ _ _))
        split
        · exact kf _ ((record_faults _ _ _).trans h)
        · exact kf _ h
      | pair n => exact kf _ (((State.replaceWork_frame _ _ _ _).faults (by decide)).trans ((raise_faults _ _ _).trans (record_faults _ _ _)))
      | voter n => exact kf _ (record_faults _ _ _)
      | island k n => exact kf _ rfl

/-- Retiring keeps the log of faults and every retired unit, and adds the unit where it can retire. -/
theorem retire_faults (u : FUnit) (s : State) :
    (s.retire u).faults.log = s.faults.log ∧
      ((∀ k n, u ≠ .island k n) → (s.lastOfKind u = false ∨ s.faults.retired.contains u = true) →
        (s.retire u).faults.retired.contains u = true) ∧
      ∀ v, s.faults.retired.contains v = true → (s.retire u).faults.retired.contains v = true := by
  unfold State.retire
  dsimp only
  have hr : ∀ (x : State), (x.recompute s.budget).faults = x.faults := fun x => (State.recompute_frame _ x).faults (by decide)
  have hf : ∀ (l : List FUnit) (x : State), (l.foldl (fun s v => s.retireUnit v) x).faults.log = x.faults.log ∧
      ∀ v, x.faults.retired.contains v = true → (l.foldl (fun s v => s.retireUnit v) x).faults.retired.contains v = true := by
    intro l
    induction l with
    | nil => exact fun x => ⟨rfl, fun _ h => h⟩
    | cons a l ih =>
      intro x
      obtain ⟨h1, _, h2⟩ := retireUnit_faults a x
      obtain ⟨g1, g2⟩ := ih (x.retireUnit a)
      exact ⟨g1.trans h1, fun v h => g2 v (h2 v h)⟩
  rw [hr]
  cases u with
  | island k n =>
    dsimp only
    unfold State.retireIsland
    dsimp only
    obtain ⟨g1, g2⟩ := hf (islandUnits k n) s
    split
    · refine ⟨g1, fun h => absurd rfl (h k n), fun v hv => ?_⟩
      have g3 := g2 v hv
      simp only [State.addRetired, List.contains_eq_mem, decide_eq_true_eq, List.mem_append] at g3 ⊢
      exact .inl g3
    · exact ⟨g1, fun h => absurd rfl (h k n), fun v hv => g2 v hv⟩
  | _ =>
    obtain ⟨h1, h2, h3⟩ := retireUnit_faults _ s
    exact ⟨h1, fun _ => h2, h3⟩

/-- A fault is in the log at its tick, and no retired unit comes back. -/
theorem fault_log (u : FUnit) (kind item : Nat) (data : List Nat) (s : State) :
    (u, kind, s.time.now) ∈ (s.fault u kind item data).faults.log ∧
      ∀ v, s.faults.retired.contains v = true → (s.fault u kind item data).faults.retired.contains v = true := by
  unfold State.fault
  dsimp only
  have f := State.recordOnce_frame kind item data s
  have ft := f.time (by decide)
  have ff := f.faults (by decide)
  generalize s.recordOnce kind item data = x at ft ff ⊢
  have base : (u, kind, s.time.now) ∈ x.faults.log ++ [(u, kind, x.time.now)] := by rw [ft]; simp
  split
  · exact ⟨base, fun v h => by rw [← ff] at h; exact h⟩
  · split
    · obtain ⟨h1, _, h3⟩ := retire_faults u { x with faults := { x.faults with log := x.faults.log ++ [(u, kind, x.time.now)] } }
      exact ⟨by rw [h1]; exact base, fun v h => h3 v (by rw [← ff] at h; exact h)⟩
    · exact ⟨base, fun v h => by rw [← ff] at h; exact h⟩

end Sys2Proof.Laws
end

