-- ==== Sys2Proof/Laws/Background.lean ====
section
/-!
SUPPORT. What background work keeps: starting erases, and moving records.
-/

namespace Sys2Proof.Laws

open Sys2Proof.Machine

/-- Retiring a block changes nothing of the data path. -/
theorem retire_block_path (d b : Nat) (s : State) : (s.retire (.block d b)).path = s.path ∧ (s.retire (.block d b)).flash = s.flash := by
  have h : (s.retireUnit (.block d b)).path = s.path ∧ (s.retireUnit (.block d b)).flash = s.flash := by
    unfold State.retireUnit
    split
    · exact ⟨rfl, rfl⟩
    · rw [if_neg (by exact Bool.false_ne_true)]
      dsimp only
      exact ⟨(State.record_frame _ _ _).path (by decide), (State.record_frame _ _ _).flash (by decide)⟩
  have f := State.recompute_frame s.budget (s.retireUnit (.block d b))
  exact ⟨(f.path (by decide)).trans h.1, (f.flash (by decide)).trans h.2⟩

theorem startErase_path (n : Nat) (s : State) : (s.startErase n).path = s.path := by
  unfold State.startErase
  split
  · rfl
  · refine foldl_keep (fun q => q.path) (fun q d => ?_) _ s
    dsimp only
    split
    · exact (retire_block_path _ _ _).1
    · rfl

/-- The data path without its bands, stripes and stored records. -/
def pathCore (p : PathState) : PathState := { p with bands := [], stripes := [], stored := [] }

theorem dropBand_core (n : Nat) (s : State) : pathCore (s.dropBand n).path = pathCore s.path ∧
    ∀ k c, NMap.find (s.dropBand n).path.bands k = some c → NMap.find s.path.bands k = some c := by
  unfold State.dropBand
  split
  · exact ⟨rfl, fun _ _ h => h⟩
  · split
    · refine ⟨rfl, fun k c h => ?_⟩
      dsimp only at h
      rw [find_del] at h
      split at h
      · cases h
      · exact h
    · exact ⟨rfl, fun _ _ h => h⟩

/-- Starting erases takes bands out with what they held, and leaves the rest of the data path. -/
theorem startErases_core (s : State) : pathCore s.startErases.path = pathCore s.path ∧
    ∀ k c, NMap.find s.startErases.path.bands k = some c → NMap.find s.path.bands k = some c := by
  unfold State.startErases
  have hf : ∀ (l : List (Nat × Band)) (x : State),
      pathCore (l.foldl (fun s p => (s.startErase p.1).dropBand p.1) x).path = pathCore x.path ∧
      ∀ k c, NMap.find (l.foldl (fun s p => (s.startErase p.1).dropBand p.1) x).path.bands k = some c →
        NMap.find x.path.bands k = some c := by
    intro l
    induction l with
    | nil => exact fun x => ⟨rfl, fun _ _ h => h⟩
    | cons a l ih =>
      intro x
      obtain ⟨g1, g2⟩ := ih ((x.startErase a.1).dropBand a.1)
      obtain ⟨h1, h2⟩ := dropBand_core a.1 (x.startErase a.1)
      rw [startErase_path] at h1 h2
      exact ⟨g1.trans h1, fun k c h => h2 k c (g2 k c h)⟩
  exact hf _ s

theorem startErases_map (s : State) : s.startErases.path.map = s.path.map := by
  have h := congrArg PathState.map (startErases_core s).1
  exact h

theorem find_map {α β : Type} (f : α → β) (m : NMap α) (k : Nat) :
    NMap.find (m.map (fun p => (p.1, f p.2))) k = (NMap.find m k).map f := by
  induction m with
  | nil => rfl
  | cons p m ih =>
    obtain ⟨i, x⟩ := p
    rw [List.map_cons, find_cons, find_cons, ih]
    split <;> rfl

/-- Where a map entry goes when a record moves. -/
theorem moveRecord_map (src dst : Bool × Nat × Nat) (s : State) (key : Nat) :
    NMap.find (s.moveRecord src dst).path.map key = (NMap.find s.path.map key).map (MapEnt.follow src dst) :=
  find_map _ _ _

/-- Following a record changes the place of an entry only. -/
theorem follow_keeps (src dst : Bool × Nat × Nat) (e : MapEnt) :
    { MapEnt.follow src dst e with mirror := false, band := 0, offset := 0 } = ({ e with mirror := false, band := 0, offset := 0 } : MapEnt) := by
  unfold MapEnt.follow
  split <;> rfl

/-- What the map says of a grain, without the place. -/
def zk (s : State) (key : Nat) : Option MapEnt := (NMap.find s.path.map key).map (fun e => { e with mirror := false, band := 0, offset := 0 })

/-- Taking blocks for a band leaves the data path but for the bands. -/
theorem fillBand_map (n : Nat) (s : State) : (s.fillBand n).path.map = s.path.map := by
  unfold State.fillBand
  split
  · exact foldl_keep (fun q => q.path.map) (fun q d => by unfold State.giveBlock; rfl) _ s
  · rfl

/-- Booking background work leaves the data path. -/
theorem bookCopy_path (band off len : Nat) (write : Bool) (s : State) : (s.bookCopy band off len write).path = s.path :=
  (State.bookCopy_frame band off len write s).path (by decide)

theorem gcAppend_path (st : StreamId) (r : Record) (s : State) : (s.gcAppend st r).1.path.map = s.path.map := by
  have hroom : (s.gcRoom st (recordLen r)).path.map = s.path.map := by
    unfold State.gcRoom
    dsimp only
    have hset : ∀ (c : Stream) (q : State), (q.setGcStream st c).path.map = q.path.map := by intro c q; cases st <;> rfl
    have hbig : ∀ room : Nat, ∀ x : State, x.path.map = s.path.map →
        (if recordLen r ≤ room then s else x).path.map = s.path.map := by
      intro room x h
      split
      · rfl
      · exact h
    exact hbig _ _ ((hset _ _).trans ((fillBand_map _ _).trans rfl))
  unfold State.gcAppend
  dsimp only
  split
  · exact hroom
  · dsimp only
    rw [← hroom]
    have hset : ∀ (c : Stream) (q : State), (q.setGcStream st c).path.map = q.path.map := by intro c q; cases st <;> rfl
    refine (hset _ _).trans ?_
    refine foldl_keep (fun q => q.path.map) (fun q a => ?_) _ _
    try dsimp only
    split <;> rfl
theorem gcMove_zk (x : Stored) (s : State) : zk (s.gcMove x) = zk s := by
  funext key
  unfold State.gcMove
  dsimp only
  have h := gcAppend_path x.st x.record (s.bookCopy x.band x.offset (recordLen x.record) false)
  rw [bookCopy_path] at h
  generalize (s.bookCopy x.band x.offset (recordLen x.record) false).gcAppend x.st x.record = q at h
  obtain ⟨q1, d, o⟩ := q
  dsimp only at h ⊢
  unfold zk
  rw [moveRecord_map, bookCopy_path, h, Option.map_map]
  congr 1
  funext e
  exact follow_keeps _ _ e
theorem demote_zk (k : Nat) (s : State) : zk (s.demote k) = zk s := by
  unfold State.demote
  dsimp only
  split
  · rfl
  · have hu : ∀ (v u : Nat) (q : State), zk (q.unpromote v u) = zk q := fun _ _ _ => rfl
    rw [hu]
    refine foldl_keep zk (fun q i => ?_) _ s
    try dsimp only
    split
    · split
      · exact gcMove_zk _ _
      · rfl
    · rfl

/-- Retiring a block touches the recorder, the fault registers, and what the budget cuts. -/
theorem retire_block_frame (d b : Nat) (s : State) : Frame 283472101630 s (s.retire (.block d b)) := by
  have h : Frame 283472101630 s (s.retireUnit (.block d b)) := by
    unfold State.retireUnit
    split
    · exact Frame.refl s
    · rw [if_neg (by exact Bool.false_ne_true)]
      exact Frame.comp (State.record_frame _ _ _) rfl (Frame.comp (State.addRetired_frame _ s) rfl (Frame.refl s))
  exact Frame.comp (State.recompute_frame _ _) rfl h

theorem startErase_small (n : Nat) (s : State) : Frame 283472102654 s (s.startErase n) := by
  unfold State.startErase
  split
  · exact Frame.refl _
  · refine Frame.foldl (fun _ _ _ => ?_) (Frame.refl _)
    dsimp only
    split
    · refine Frame.comp (retire_block_frame _ _ _) rfl ?_
      assumption
    · refine Frame.set_flash rfl ?_
      assumption

/-- Starting erases touches the erases, the bands, and what retiring a marked block touches. -/
theorem startErases_small (s : State) : Frame 6880541870078 s s.startErases := by
  unfold State.startErases
  refine Frame.foldl (fun _ _ _ => ?_) (Frame.refl _)
  refine Frame.comp (State.dropBand_frame _ _) rfl ?_
  refine Frame.comp (startErase_small _ _) rfl ?_
  assumption

end Sys2Proof.Laws
end

