-- ==== Sys2Proof/Laws/Bits.lean ====
section
/-!
SUPPORT. Reading a field of a word: what a mask, an or and a replaced field leave in it.
-/

namespace Sys2Proof.Laws

open Sys2Proof.Machine

/-- A field read is the word's bits from `lo` to `hi`. -/
theorem bits_eq (w : Word) (hi lo : Nat) : bits w hi lo = (w.extractLsb' lo (hi - lo + 1)).toNat := by
  simp [bits, BitVec.extractLsb'_toNat, Nat.shiftRight_eq_div_pow]

/-- A field of an or is the or of the fields. -/
theorem bits_or (a b : Word) (hi lo : Nat) : bits (a ||| b) hi lo = bits a hi lo ||| bits b hi lo := by
  rw [bits_eq, bits_eq, bits_eq, BitVec.extractLsb'_or, BitVec.toNat_or]

/-- A field of an and is the and of the fields. -/
theorem bits_and (a b : Word) (hi lo : Nat) : bits (a &&& b) hi lo = bits a hi lo &&& bits b hi lo := by
  rw [bits_eq, bits_eq, bits_eq, BitVec.extractLsb'_and, BitVec.toNat_and]

/-- A bit of an or. -/
theorem bit_or (a b : Word) (n : Nat) : bit (a ||| b) n = (bit a n || bit b n) := by
  unfold bit
  rw [bits_or]
  have h : ∀ w : Word, bits w n n = 0 ∨ bits w n n = 1 := by
    intro w
    have : bits w n n < 2 := by unfold bits; rw [Nat.sub_self]; exact Nat.mod_lt _ (by decide)
    omega
  rcases h a with x | x <;> rcases h b with y | y <;> rw [x, y] <;> decide

/-- A field that a mask clears reads 0, and the rest stands. -/
theorem bits_withBits_of {v : Word} {hi lo n h l : Nat} (hm : bits (~~~ fieldMask hi lo) h l = 0) :
    bits (withBits v hi lo n) h l = bits (field n hi lo) h l := by
  unfold withBits
  rw [bits_or, bits_and, hm]
  simp

/-- A replaced field outside the one read changes nothing of it. -/
theorem bits_withBits_ne {v : Word} {hi lo n h l : Nat} (hm : bits (~~~ fieldMask hi lo) h l = 2 ^ (h - l + 1) - 1)
    (hf : bits (field n hi lo) h l = 0) : bits (withBits v hi lo n) h l = bits v h l := by
  unfold withBits
  rw [bits_or, bits_and, hm, hf, Nat.or_zero, Nat.and_two_pow_sub_one_eq_mod]
  exact Nat.mod_mod _ _

end Sys2Proof.Laws
end

