-- ==== Sys2Proof/Laws/Exec.lean ====
section
/-!
SUPPORT. What any command may touch: `exec_frame` gathers the frames of the commands.
-/

namespace Sys2Proof.Laws

open Sys2Proof.Machine

/-- Every command but a power-on changes no more than the frame of all parts but the queue. -/
theorem exec_frame (c : Instr) (s s1 : State) (hp : ∀ t, c ≠ .powerOn t) (h : exec c s = .next s1) : Frame 8796076244991 s s1 := by
  cases c with
  | registerWrite t o addr v => exact Frame.comp (execRegisterWrite_frame t o addr v s s1 h) rfl (Frame.refl s)
  | unmappedAccess t o addr write => exact Frame.comp (execUnmappedAccess_frame t o addr write s s1 h) rfl (Frame.refl s)
  | loHalfRead t o addr => exact Frame.comp (execLoHalfRead_frame t o addr s s1 h) rfl (Frame.refl s)
  | hiHalfWrite t o addr v => exact Frame.comp (execHiHalfWrite_frame t o addr v s s1 h) rfl (Frame.refl s)
  | doorbellWrite t session offset v => exact Frame.comp (execDoorbellWrite_frame t session offset v s s1 h) rfl (Frame.refl s)
  | nvmWrite t cntl qid e => exact Frame.comp (execNvmWrite_frame t cntl qid e s s1 h) rfl (Frame.refl s)
  | nvmRead t cntl qid e => exact Frame.comp (execNvmRead_frame t cntl qid e s s1 h) rfl (Frame.refl s)
  | compare t cntl qid e hostData => exact Frame.comp (execCompare_frame t cntl qid e hostData s s1 h) rfl (Frame.refl s)
  | writeZeroes t cntl qid e => exact Frame.comp (execWriteZeroes_frame t cntl qid e s s1 h) rfl (Frame.refl s)
  | datasetManagement t cntl qid e ranges => exact Frame.comp (execDatasetManagement_frame t cntl qid e ranges s s1 h) rfl (Frame.refl s)
  | flush t cntl qid e => exact Frame.comp (execFlush_frame t cntl qid e s s1 h) rfl (Frame.refl s)
  | invalidOpcode t cntl qid e => exact Frame.comp (execInvalidOpcode_frame t cntl qid e s s1 h) rfl (Frame.refl s)
  | holdRetry t => exact Frame.comp (execHoldRetry_frame t s s1 h) rfl (Frame.refl s)
  | holdLimitExpiry t cntl qid cid => exact Frame.comp (execHoldLimitExpiry_frame t cntl qid cid s s1 h) rfl (Frame.refl s)
  | acceptance t seq data pi => exact Frame.comp (execAcceptance_frame t seq data pi s s1 h) rfl (Frame.refl s)
  | inlineLookupAnswer t seq grain cluster agree index => exact Frame.comp (execInlineLookupAnswer_frame t seq grain cluster agree index s s1 h) rfl (Frame.refl s)
  | inlineBudgetExpiry t seq grain => exact Frame.comp (execInlineBudgetExpiry_frame t seq grain s s1 h) rfl (Frame.refl s)
  | compressionOutcome t seq grain lane r => exact Frame.comp (execCompressionOutcome_frame t seq grain lane r s s1 h) rfl (Frame.refl s)
  | cipherPassDone t u pair agree => exact Frame.comp (execCipherPassDone_frame t u pair agree s s1 h) rfl (Frame.refl s)
  | recordAppend t seq => exact Frame.comp (execRecordAppend_frame t seq s s1 h) rfl (Frame.refl s)
  | stripeClose t st => exact Frame.comp (execStripeClose_frame t st s s1 h) rfl (Frame.refl s)
  | pageTransferDone t st band stripe strip => exact Frame.comp (execPageTransferDone_frame t st band stripe strip s s1 h) rfl (Frame.refl s)
  | programDone t st band stripe strip ok => exact Frame.comp (execProgramDone_frame t st band stripe strip ok s s1 h) rfl (Frame.refl s)
  | mirrorRecordArrival t recs => exact Frame.comp (execMirrorRecordArrival_frame t recs s s1 h) rfl (Frame.refl s)
  | programAck t acks => exact Frame.comp (execProgramAck_frame t acks s s1 h) rfl (Frame.refl s)
  | coalescingTimer t cntl => exact Frame.comp (execCoalescingTimer_frame t cntl s s1 h) rfl (Frame.refl s)
  | pageReadDone t rid failing => exact Frame.comp (execPageReadDone_frame t rid failing s s1 h) rfl (Frame.refl s)
  | readRetryStep t rid step failing => exact Frame.comp (execReadRetryStep_frame t rid step failing s s1 h) rfl (Frame.refl s)
  | decompressionDone t rid lane r => exact Frame.comp (execDecompressionDone_frame t rid lane r s s1 h) rfl (Frame.refl s)
  | parityRepair t rid rebuilt => exact Frame.comp (execParityRepair_frame t rid rebuilt s s1 h) rfl (Frame.refl s)
  | partnerRepairRequest t vol grain wgen token => exact Frame.comp (execPartnerRepairRequest_frame t vol grain wgen token s s1 h) rfl (Frame.refl s)
  | partnerRepairResponse t rid found => exact Frame.comp (execPartnerRepairResponse_frame t rid found s s1 h) rfl (Frame.refl s)
  | islandGate t k index => exact Frame.comp (execIslandGate_frame t k index s s1 h) rfl (Frame.refl s)
  | islandReady t k index => exact Frame.comp (execIslandReady_frame t k index s s1 h) rfl (Frame.refl s)
  | islandWakeLate t k index => exact Frame.comp (execIslandWakeLate_frame t k index s s1 h) rfl (Frame.refl s)
  | linkTrainingStart t lane => exact Frame.comp (execLinkTrainingStart_frame t lane s s1 h) rfl (Frame.refl s)
  | linkDown t lane lossOfLock => exact Frame.comp (execLinkDown_frame t lane lossOfLock s s1 h) rfl (Frame.refl s)
  | portRestartDone t port => exact Frame.comp (execPortRestartDone_frame t port s s1 h) rfl (Frame.refl s)
  | resetAssert t rstLow pwrgdLow => exact Frame.comp (execResetAssert_frame t rstLow pwrgdLow s s1 h) rfl (Frame.refl s)
  | resetRelease t rstHigh pwrgdHigh pwrFailHigh => exact Frame.comp (execResetRelease_frame t rstHigh pwrgdHigh pwrFailHigh s s1 h) rfl (Frame.refl s)
  | buttonPress t => exact Frame.comp (execButtonPress_frame t s s1 h) rfl (Frame.refl s)
  | buttonRelease t => exact Frame.comp (execButtonRelease_frame t s s1 h) rfl (Frame.refl s)
  | buttonFailedClosed t => exact Frame.comp (execButtonFailedClosed_frame t s s1 h) rfl (Frame.refl s)
  | memoryInitDone t stage => exact Frame.comp (execMemoryInitDone_frame t stage s s1 h) rfl (Frame.refl s)
  | bootStageDone t stage badCkpts passed => exact Frame.comp (execBootStageDone_frame t stage badCkpts passed s s1 h) rfl (Frame.refl s)
  | modeReqSlack t o v => exact Frame.comp (execModeReqSlack_frame t o v s s1 h) rfl (Frame.refl s)
  | modeReqJoin t o v => exact Frame.comp (execModeReqJoin_frame t o v s s1 h) rfl (Frame.refl s)
  | modeReqRelay t o v => exact Frame.comp (execModeReqRelay_frame t o v s s1 h) rfl (Frame.refl s)
  | modeReqPreservation t o v => exact Frame.comp (execModeReqPreservation_frame t o v s s1 h) rfl (Frame.refl s)
  | modeReqHoldup t o v => exact Frame.comp (execModeReqHoldup_frame t o v s s1 h) rfl (Frame.refl s)
  | modeReqBench t o v => exact Frame.comp (execModeReqBench_frame t o v s s1 h) rfl (Frame.refl s)
  | modeReqOther t o v => exact Frame.comp (execModeReqOther_frame t o v s s1 h) rfl (Frame.refl s)
  | preservationCheckpoint t => exact Frame.comp (execPreservationCheckpoint_frame t s s1 h) rfl (Frame.refl s)
  | watchdogKick t o v => exact Frame.comp (execWatchdogKick_frame t o v s s1 h) rfl (Frame.refl s)
  | watchdogExpiry t => exact Frame.comp (execWatchdogExpiry_frame t s s1 h) rfl (Frame.refl s)
  | powerFail t => exact Frame.comp (execPowerFail_frame t s s1 h) rfl (Frame.refl s)
  | holdupComplete t => exact Frame.comp (execHoldupComplete_frame t s s1 h) rfl (Frame.refl s)
  | planMiss t => exact Frame.comp (execPlanMiss_frame t s s1 h) rfl (Frame.refl s)
  | overloadClear t => exact Frame.comp (execOverloadClear_frame t s s1 h) rfl (Frame.refl s)
  | pairCommitRequest t token c => exact Frame.comp (execPairCommitRequest_frame t token c s s1 h) rfl (Frame.refl s)
  | pairCommitAnswer t token code => exact Frame.comp (execPairCommitAnswer_frame t token code s s1 h) rfl (Frame.refl s)
  | pairCommitTimeout t token => exact Frame.comp (execPairCommitTimeout_frame t token s s1 h) rfl (Frame.refl s)
  | reservationCreate t cntl e => exact Frame.comp (execReservationCreate_frame t cntl e s s1 h) rfl (Frame.refl s)
  | reservationChange t cntl e => exact Frame.comp (execReservationChange_frame t cntl e s s1 h) rfl (Frame.refl s)
  | reservationDelete t cntl e => exact Frame.comp (execReservationDelete_frame t cntl e s s1 h) rfl (Frame.refl s)
  | reservationQuery t cntl e => exact Frame.comp (execReservationQuery_frame t cntl e s s1 h) rfl (Frame.refl s)
  | reservationRebind t cntl e => exact Frame.comp (execReservationRebind_frame t cntl e s s1 h) rfl (Frame.refl s)
  | rebindDelete t cntl e => exact Frame.comp (execRebindDelete_frame t cntl e s s1 h) rfl (Frame.refl s)
  | foldStripe t st band stripe softPages => exact Frame.comp (execFoldStripe_frame t st band stripe softPages s s1 h) rfl (Frame.refl s)
  | foldProgramVerified t st band stripe denseBand denseOffset failed => exact Frame.comp (execFoldProgramVerified_frame t st band stripe denseBand denseOffset failed s s1 h) rfl (Frame.refl s)
  | checkpointPeriod t => exact Frame.comp (execCheckpointPeriod_frame t s s1 h) rfl (Frame.refl s)
  | postProcessGrain t indexEntry agree cluster => exact Frame.comp (execPostProcessGrain_frame t indexEntry agree cluster s s1 h) rfl (Frame.refl s)
  | filterSwap t bits => exact Frame.comp (execFilterSwap_frame t bits s s1 h) rfl (Frame.refl s)
  | snapshotCreate t cntl e => exact Frame.comp (execSnapshotCreate_frame t cntl e s s1 h) rfl (Frame.refl s)
  | snapshotDelete t cntl e => exact Frame.comp (execSnapshotDelete_frame t cntl e s s1 h) rfl (Frame.refl s)
  | snapshotClone t cntl e => exact Frame.comp (execSnapshotClone_frame t cntl e s s1 h) rfl (Frame.refl s)
  | snapshotQuery t cntl e => exact Frame.comp (execSnapshotQuery_frame t cntl e s s1 h) rfl (Frame.refl s)
  | snapshotList t cntl e => exact Frame.comp (execSnapshotList_frame t cntl e s s1 h) rfl (Frame.refl s)
  | snapshotReclaimDone t vol id => exact Frame.comp (execSnapshotReclaimDone_frame t vol id s s1 h) rfl (Frame.refl s)
  | channelTrainingDone t channel ok => exact Frame.comp (execChannelTrainingDone_frame t channel ok s s1 h) rfl (Frame.refl s)
  | statusTimeout t die operation answers => exact Frame.comp (execStatusTimeout_frame t die operation answers s s1 h) rfl (Frame.refl s)
  | busTimeout t channel => exact Frame.comp (execBusTimeout_frame t channel s s1 h) rfl (Frame.refl s)
  | eraseDone t die block ok => exact Frame.comp (execEraseDone_frame t die block ok s s1 h) rfl (Frame.refl s)
  | eraseResume t die => exact Frame.comp (execEraseResume_frame t die s s1 h) rfl (Frame.refl s)
  | gcCopy t st band => exact Frame.comp (execGcCopy_frame t st band s s1 h) rfl (Frame.refl s)
  | patrolRead t st band step failed => exact Frame.comp (execPatrolRead_frame t st band step failed s s1 h) rfl (Frame.refl s)
  | dieTemperatureSample t temps => exact Frame.comp (execDieTemperatureSample_frame t temps s s1 h) rfl (Frame.refl s)
  | modulePresent t port magicOk crcOk part pop serial => exact Frame.comp (execModulePresent_frame t port magicOk crcOk part pop serial s s1 h) rfl (Frame.refl s)
  | moduleRoleAssigned t port trainedOk badDies => exact Frame.comp (execModuleRoleAssigned_frame t port trainedOk badDies s s1 h) rfl (Frame.refl s)
  | moduleRemoval t port => exact Frame.comp (execModuleRemoval_frame t port s s1 h) rfl (Frame.refl s)
  | rebuildStripDone t band stripe strip unread => exact Frame.comp (execRebuildStripDone_frame t band stripe strip unread s s1 h) rfl (Frame.refl s)
  | rebuildFloorBooking t => exact Frame.comp (execRebuildFloorBooking_frame t s s1 h) rfl (Frame.refl s)
  | floorWrite t o v => exact Frame.comp (execFloorWrite_frame t o v s s1 h) rfl (Frame.refl s)
  | reshapeRequest t o v => exact Frame.comp (execReshapeRequest_frame t o v s s1 h) rfl (Frame.refl s)
  | reshapePause t o v => exact Frame.comp (execReshapePause_frame t o v s s1 h) rfl (Frame.refl s)
  | reshapeStripeMigrated t => exact Frame.comp (execReshapeStripeMigrated_frame t s s1 h) rfl (Frame.refl s)
  | moduleRelease t o v => exact Frame.comp (execModuleRelease_frame t o v s s1 h) rfl (Frame.refl s)
  | moduleMakeSpare t o v => exact Frame.comp (execModuleMakeSpare_frame t o v s s1 h) rfl (Frame.refl s)
  | moduleMakeUnused t o v => exact Frame.comp (execModuleMakeUnused_frame t o v s s1 h) rfl (Frame.refl s)
  | spareProbe t port ok => exact Frame.comp (execSpareProbe_frame t port ok s s1 h) rfl (Frame.refl s)
  | createIoSq t cntl e regionOk => exact Frame.comp (execCreateIoSq_frame t cntl e regionOk s s1 h) rfl (Frame.refl s)
  | createIoCq t cntl e regionOk => exact Frame.comp (execCreateIoCq_frame t cntl e regionOk s s1 h) rfl (Frame.refl s)
  | deleteIoSq t cntl e => exact Frame.comp (execDeleteIoSq_frame t cntl e s s1 h) rfl (Frame.refl s)
  | deleteIoCq t cntl e => exact Frame.comp (execDeleteIoCq_frame t cntl e s s1 h) rfl (Frame.refl s)
  | getLogPage t cntl e => exact Frame.comp (execGetLogPage_frame t cntl e s s1 h) rfl (Frame.refl s)
  | identify t cntl e => exact Frame.comp (execIdentify_frame t cntl e s s1 h) rfl (Frame.refl s)
  | abort t cntl e => exact Frame.comp (execAbort_frame t cntl e s s1 h) rfl (Frame.refl s)
  | setFeatures t cntl e => exact Frame.comp (execSetFeatures_frame t cntl e s s1 h) rfl (Frame.refl s)
  | setFeaturesHoldLimit t cntl e => exact Frame.comp (execSetFeaturesHoldLimit_frame t cntl e s s1 h) rfl (Frame.refl s)
  | setFeaturesCompression t cntl e => exact Frame.comp (execSetFeaturesCompression_frame t cntl e s s1 h) rfl (Frame.refl s)
  | setFeaturesDedup t cntl e => exact Frame.comp (execSetFeaturesDedup_frame t cntl e s s1 h) rfl (Frame.refl s)
  | getFeatures t cntl e => exact Frame.comp (execGetFeatures_frame t cntl e s s1 h) rfl (Frame.refl s)
  | asyncEventRequest t cntl e => exact Frame.comp (execAsyncEventRequest_frame t cntl e s s1 h) rfl (Frame.refl s)
  | namespaceCreate t cntl e nsze ncap flbas => exact Frame.comp (execNamespaceCreate_frame t cntl e nsze ncap flbas s s1 h) rfl (Frame.refl s)
  | namespaceDelete t cntl e => exact Frame.comp (execNamespaceDelete_frame t cntl e s s1 h) rfl (Frame.refl s)
  | namespaceAttachment t cntl e cntls => exact Frame.comp (execNamespaceAttachment_frame t cntl e cntls s s1 h) rfl (Frame.refl s)
  | selfTestShort t cntl e => exact Frame.comp (execSelfTestShort_frame t cntl e s s1 h) rfl (Frame.refl s)
  | selfTestExtended t cntl e => exact Frame.comp (execSelfTestExtended_frame t cntl e s s1 h) rfl (Frame.refl s)
  | selfTestAbort t cntl e => exact Frame.comp (execSelfTestAbort_frame t cntl e s s1 h) rfl (Frame.refl s)
  | selfTestDone t failedSegment katUnit => exact Frame.comp (execSelfTestDone_frame t failedSegment katUnit s s1 h) rfl (Frame.refl s)
  | recorderRead t cntl e => exact Frame.comp (execRecorderRead_frame t cntl e s s1 h) rfl (Frame.refl s)
  | recorderClearArm t cntl e => exact Frame.comp (execRecorderClearArm_frame t cntl e s s1 h) rfl (Frame.refl s)
  | recorderClear t cntl e => exact Frame.comp (execRecorderClear_frame t cntl e s s1 h) rfl (Frame.refl s)
  | tallyCommand t cntl e => exact Frame.comp (execTallyCommand_frame t cntl e s s1 h) rfl (Frame.refl s)
  | idmWrite t p => exact Frame.comp (execIdmWrite_frame t p s s1 h) rfl (Frame.refl s)
  | idmReadReq t p => exact Frame.comp (execIdmReadReq_frame t p s s1 h) rfl (Frame.refl s)
  | readResp t p => exact Frame.comp (execReadResp_frame t p s s1 h) rfl (Frame.refl s)
  | notify t p => exact Frame.comp (execNotify_frame t p s s1 h) rfl (Frame.refl s)
  | statusPacket t p => exact Frame.comp (execStatusPacket_frame t p s s1 h) rfl (Frame.refl s)
  | ack t p => exact Frame.comp (execAck_frame t p s s1 h) rfl (Frame.refl s)
  | connect t sealed tagOk regionOk m => exact Frame.comp (execConnect_frame t sealed tagOk regionOk m s s1 h) rfl (Frame.refl s)
  | accept t session sealed tagOk m => exact Frame.comp (execAccept_frame t session sealed tagOk m s s1 h) rfl (Frame.refl s)
  | close t p => exact Frame.comp (execClose_frame t p s s1 h) rfl (Frame.refl s)
  | keepalive t p => exact Frame.comp (execKeepalive_frame t p s s1 h) rfl (Frame.refl s)
  | rekey t p => exact Frame.comp (execRekey_frame t p s s1 h) rfl (Frame.refl s)
  | malformedPacket t port p udpLen => exact Frame.comp (execMalformedPacket_frame t port p udpLen s s1 h) rfl (Frame.refl s)
  | datagramDiscard t port udpPort checksumOk => exact Frame.comp (execDatagramDiscard_frame t port udpPort checksumOk s s1 h) rfl (Frame.refl s)
  | ptpMessage t udpPort second => exact Frame.comp (execPtpMessage_frame t udpPort second s s1 h) rfl (Frame.refl s)
  | connectResend t session => exact Frame.comp (execConnectResend_frame t session s s1 h) rfl (Frame.refl s)
  | connectTimeout t session => exact Frame.comp (execConnectTimeout_frame t session s s1 h) rfl (Frame.refl s)
  | sessionTimeout t session => exact Frame.comp (execSessionTimeout_frame t session s s1 h) rfl (Frame.refl s)
  | keepaliveDue t session => exact Frame.comp (execKeepaliveDue_frame t session s s1 h) rfl (Frame.refl s)
  | ackDelay t session => exact Frame.comp (execAckDelay_frame t session s s1 h) rfl (Frame.refl s)
  | rtoExpiry t session psn => exact Frame.comp (execRtoExpiry_frame t session psn s s1 h) rfl (Frame.refl s)
  | ondemandUnitReady t session key unit => exact Frame.comp (execOndemandUnitReady_frame t session key unit s s1 h) rfl (Frame.refl s)
  | ondemandStallExpiry t session key unit => exact Frame.comp (execOndemandStallExpiry_frame t session key unit s s1 h) rfl (Frame.refl s)
  | backoffExpiry t session psn => exact Frame.comp (execBackoffExpiry_frame t session psn s s1 h) rfl (Frame.refl s)
  | workEntryPost t queue w => exact Frame.comp (execWorkEntryPost_frame t queue w s s1 h) rfl (Frame.refl s)
  | chainTimeout t queue => exact Frame.comp (execChainTimeout_frame t queue s s1 h) rfl (Frame.refl s)
  | beaconSend t => exact Frame.comp (execBeaconSend_frame t s s1 h) rfl (Frame.refl s)
  | beaconArrival t decux b => exact Frame.comp (execBeaconArrival_frame t decux b s s1 h) rfl (Frame.refl s)
  | pathCheck t decux => exact Frame.comp (execPathCheck_frame t decux s s1 h) rfl (Frame.refl s)
  | verdict t c => exact Frame.comp (execVerdict_frame t c s s1 h) rfl (Frame.refl s)
  | voterEvaluation t flipFence flipLost => exact Frame.comp (execVoterEvaluation_frame t flipFence flipLost s s1 h) rfl (Frame.refl s)
  | voterCalibration t voter measure => exact Frame.comp (execVoterCalibration_frame t voter measure s s1 h) rfl (Frame.refl s)
  | takeoverComplete t => exact Frame.comp (execTakeoverComplete_frame t s s1 h) rfl (Frame.refl s)
  | addressAnnounceRepeat t => exact Frame.comp (execAddressAnnounceRepeat_frame t s s1 h) rfl (Frame.refl s)
  | yield t o v => exact Frame.comp (execYield_frame t o v s s1 h) rfl (Frame.refl s)
  | wake t o v => exact Frame.comp (execWake_frame t o v s s1 h) rfl (Frame.refl s)
  | tideSyncExchange t partnerTick skew => exact Frame.comp (execTideSyncExchange_frame t partnerTick skew s s1 h) rfl (Frame.refl s)
  | resyncSwitch t => exact Frame.comp (execResyncSwitch_frame t s s1 h) rfl (Frame.refl s)
  | mirrorReadback t band stripe ok => exact Frame.comp (execMirrorReadback_frame t band stripe ok s s1 h) rfl (Frame.refl s)
  | beaconLoopCheck t decux ok => exact Frame.comp (execBeaconLoopCheck_frame t decux ok s s1 h) rfl (Frame.refl s)
  | replicationFrame t session f fault => exact Frame.comp (execReplicationFrame_frame t session f fault s s1 h) rfl (Frame.refl s)
  | replicationResult t link target f => exact Frame.comp (execReplicationResult_frame t link target f s s1 h) rfl (Frame.refl s)
  | replicationInterval t link => exact Frame.comp (execReplicationInterval_frame t link s s1 h) rfl (Frame.refl s)
  | syncTargetDeadline t seq target => exact Frame.comp (execSyncTargetDeadline_frame t seq target s s1 h) rfl (Frame.refl s)
  | targetResyncAttempt t link target opened => exact Frame.comp (execTargetResyncAttempt_frame t link target opened s s1 h) rfl (Frame.refl s)
  | linkCreate t cntl e d opened accepted => exact Frame.comp (execLinkCreate_frame t cntl e d opened accepted s s1 h) rfl (Frame.refl s)
  | linkDelete t cntl e => exact Frame.comp (execLinkDelete_frame t cntl e s s1 h) rfl (Frame.refl s)
  | targetAdd t cntl e d opened accepted => exact Frame.comp (execTargetAdd_frame t cntl e d opened accepted s s1 h) rfl (Frame.refl s)
  | targetRemove t cntl e => exact Frame.comp (execTargetRemove_frame t cntl e s s1 h) rfl (Frame.refl s)
  | replicaAccept t cntl e d => exact Frame.comp (execReplicaAccept_frame t cntl e d s s1 h) rfl (Frame.refl s)
  | sendSetNow t cntl e => exact Frame.comp (execSendSetNow_frame t cntl e s s1 h) rfl (Frame.refl s)
  | linkQuery t cntl e => exact Frame.comp (execLinkQuery_frame t cntl e s s1 h) rfl (Frame.refl s)
  | podQuery t cntl e => exact Frame.comp (execPodQuery_frame t cntl e s s1 h) rfl (Frame.refl s)
  | podHeartbeatSend t => exact Frame.comp (execPodHeartbeatSend_frame t s s1 h) rfl (Frame.refl s)
  | podHeartbeat t device epoch masterView => exact Frame.comp (execPodHeartbeat_frame t device epoch masterView s s1 h) rfl (Frame.refl s)
  | masterSilence t => exact Frame.comp (execMasterSilence_frame t s s1 h) rfl (Frame.refl s)
  | partitionHandover t partition newPair => exact Frame.comp (execPartitionHandover_frame t partition newPair s s1 h) rfl (Frame.refl s)
  | scrubPass t addr errors use => exact Frame.comp (execScrubPass_frame t addr errors use s s1 h) rfl (Frame.refl s)
  | bufferRequest t o v => exact Frame.comp (execBufferRequest_frame t o v s s1 h) rfl (Frame.refl s)
  | bufferFree t o v => exact Frame.comp (execBufferFree_frame t o v s s1 h) rfl (Frame.refl s)
  | stackBatchDone t pool refill chain => exact Frame.comp (execStackBatchDone_frame t pool refill chain s s1 h) rfl (Frame.refl s)
  | chainRebuilt t pool => exact Frame.comp (execChainRebuilt_frame t pool s s1 h) rfl (Frame.refl s)
  | leakSweep t => exact Frame.comp (execLeakSweep_frame t s s1 h) rfl (Frame.refl s)
  | quotaWrite t o v => exact Frame.comp (execQuotaWrite_frame t o v s s1 h) rfl (Frame.refl s)
  | dmaBurst t channel => exact Frame.comp (execDmaBurst_frame t channel s s1 h) rfl (Frame.refl s)
  | descriptorFetch t channel => exact Frame.comp (execDescriptorFetch_frame t channel s s1 h) rfl (Frame.refl s)
  | busError t channel addr write kind => exact Frame.comp (execBusError_frame t channel addr write kind s s1 h) rfl (Frame.refl s)
  | dmaKick t o v => exact Frame.comp (execDmaKick_frame t o v s s1 h) rfl (Frame.refl s)
  | dmaResume t o v => exact Frame.comp (execDmaResume_frame t o v s s1 h) rfl (Frame.refl s)
  | softwareRequest t o v => exact Frame.comp (execSoftwareRequest_frame t o v s s1 h) rfl (Frame.refl s)
  | channelDisable t o channel v => exact Frame.comp (execChannelDisable_frame t o channel v s s1 h) rfl (Frame.refl s)
  | channelEnable t o channel v => exact Frame.comp (execChannelEnable_frame t o channel v s s1 h) rfl (Frame.refl s)
  | lockTake t o v => exact Frame.comp (execLockTake_frame t o v s s1 h) rfl (Frame.refl s)
  | lockRelease t o v => exact Frame.comp (execLockRelease_frame t o v s s1 h) rfl (Frame.refl s)
  | lockIdleTimeout t => exact Frame.comp (execLockIdleTimeout_frame t s s1 h) rfl (Frame.refl s)
  | loadXts t o v => exact Frame.comp (execLoadXts_frame t o v s s1 h) rfl (Frame.refl s)
  | loadGcm t o v => exact Frame.comp (execLoadGcm_frame t o v s s1 h) rfl (Frame.refl s)
  | keyClear t o v => exact Frame.comp (execKeyClear_frame t o v s s1 h) rfl (Frame.refl s)
  | setLimit t o v => exact Frame.comp (execSetLimit_frame t o v s s1 h) rfl (Frame.refl s)
  | ldgProgram t addr src len => exact Frame.comp (execLdgProgram_frame t addr src len s s1 h) rfl (Frame.refl s)
  | ldgErase t addr => exact Frame.comp (execLdgErase_frame t addr s s1 h) rfl (Frame.refl s)
  | ldgSuspend t bank => exact Frame.comp (execLdgSuspend_frame t bank s s1 h) rfl (Frame.refl s)
  | ldgResume t bank => exact Frame.comp (execLdgResume_frame t bank s s1 h) rfl (Frame.refl s)
  | ldgPoll t bank => exact Frame.comp (execLdgPoll_frame t bank s s1 h) rfl (Frame.refl s)
  | ldgCycles t addr => exact Frame.comp (execLdgCycles_frame t addr s s1 h) rfl (Frame.refl s)
  | ldgRectail t src len => exact Frame.comp (execLdgRectail_frame t src len s s1 h) rfl (Frame.refl s)
  | commandWindowWrite t o offset bytes => exact Frame.comp (execCommandWindowWrite_frame t o offset bytes s s1 h) rfl (Frame.refl s)
  | windowSequenceTimeout t => exact Frame.comp (execWindowSequenceTimeout_frame t s s1 h) rfl (Frame.refl s)
  | ledgerProgramDone t bank verifyOk => exact Frame.comp (execLedgerProgramDone_frame t bank verifyOk s s1 h) rfl (Frame.refl s)
  | ledgerEraseDone t bank verifyOk => exact Frame.comp (execLedgerEraseDone_frame t bank verifyOk s s1 h) rfl (Frame.refl s)
  | minrunReached t bank => exact Frame.comp (execMinrunReached_frame t bank s s1 h) rfl (Frame.refl s)
  | eraseAgeLimit t bank => exact Frame.comp (execEraseAgeLimit_frame t bank s s1 h) rfl (Frame.refl s)
  | relayCommit t o v => exact Frame.comp (execRelayCommit_frame t o v s s1 h) rfl (Frame.refl s)
  | relayAbandon t o v => exact Frame.comp (execRelayAbandon_frame t o v s s1 h) rfl (Frame.refl s)
  | relayTimeout t => exact Frame.comp (execRelayTimeout_frame t s s1 h) rfl (Frame.refl s)
  | slackExitDone t => exact Frame.comp (execSlackExitDone_frame t s s1 h) rfl (Frame.refl s)
  | benchTestStart t o v => exact Frame.comp (execBenchTestStart_frame t o v s s1 h) rfl (Frame.refl s)
  | benchTestDone t errors => exact Frame.comp (execBenchTestDone_frame t errors s s1 h) rfl (Frame.refl s)
  | keyBurn t o v => exact Frame.comp (execKeyBurn_frame t o v s s1 h) rfl (Frame.refl s)
  | keyRevoke t o v => exact Frame.comp (execKeyRevoke_frame t o v s s1 h) rfl (Frame.refl s)
  | tallyRequest t o v => exact Frame.comp (execTallyRequest_frame t o v s s1 h) rfl (Frame.refl s)
  | tallyLatch t => exact Frame.comp (execTallyLatch_frame t s s1 h) rfl (Frame.refl s)
  | tallyStagingDone t => exact Frame.comp (execTallyStagingDone_frame t s s1 h) rfl (Frame.refl s)
  | tallyLvalCommit t o v => exact Frame.comp (execTallyLvalCommit_frame t o v s s1 h) rfl (Frame.refl s)
  | recorderFlushTimer t => exact Frame.comp (execRecorderFlushTimer_frame t s s1 h) rfl (Frame.refl s)
  | recorderReadWindow t o => exact Frame.comp (execRecorderReadWindow_frame t o s s1 h) rfl (Frame.refl s)
  | clearArm t o v => exact Frame.comp (execClearArm_frame t o v s s1 h) rfl (Frame.refl s)
  | clearGo t o v => exact Frame.comp (execClearGo_frame t o v s s1 h) rfl (Frame.refl s)
  | admRinfoRead t o => exact Frame.comp (execAdmRinfoRead_frame t o s s1 h) rfl (Frame.refl s)
  | cmpFinfoRead t o => exact Frame.comp (execCmpFinfoRead_frame t o s s1 h) rfl (Frame.refl s)
  | ddupPolicyRead t o => exact Frame.comp (execDdupPolicyRead_frame t o s s1 h) rfl (Frame.refl s)
  | fchDinfoRead t o channel => exact Frame.comp (execFchDinfoRead_frame t o channel s s1 h) rfl (Frame.refl s)
  | strpMinfoRead t o => exact Frame.comp (execStrpMinfoRead_frame t o s s1 h) rfl (Frame.refl s)
  | nvqQinfoRead t o => exact Frame.comp (execNvqQinfoRead_frame t o s s1 h) rfl (Frame.refl s)
  | idmSinfoRead t o => exact Frame.comp (execIdmSinfoRead_frame t o s s1 h) rfl (Frame.refl s)
  | atpuRinfoRead t o => exact Frame.comp (execAtpuRinfoRead_frame t o s s1 h) rfl (Frame.refl s)
  | poolOinfoRead t o => exact Frame.comp (execPoolOinfoRead_frame t o s s1 h) rfl (Frame.refl s)
  | ciphKinfoRead t o => exact Frame.comp (execCiphKinfoRead_frame t o s s1 h) rfl (Frame.refl s)
  | ldgCinfoRead t o => exact Frame.comp (execLdgCinfoRead_frame t o s s1 h) rfl (Frame.refl s)
  | spiWrite t addr hcrc words extraBits => exact Frame.comp (execSpiWrite_frame t addr hcrc words extraBits s s1 h) rfl (Frame.refl s)
  | spiRead t addr hcrc words extraBits => exact Frame.comp (execSpiRead_frame t addr hcrc words extraBits s s1 h) rfl (Frame.refl s)
  | spiStatus t addr hcrc extraBits => exact Frame.comp (execSpiStatus_frame t addr hcrc extraBits s s1 h) rfl (Frame.refl s)
  | spiWrite16 t addr hcrc w extraBits => exact Frame.comp (execSpiWrite16_frame t addr hcrc w extraBits s s1 h) rfl (Frame.refl s)
  | bulkWindowControl t o n v => exact Frame.comp (execBulkWindowControl_frame t o n v s s1 h) rfl (Frame.refl s)
  | railOutOfRange t rail millivolts => exact Frame.comp (execRailOutOfRange_frame t rail millivolts s s1 h) rfl (Frame.refl s)
  | clockLoss t input => exact Frame.comp (execClockLoss_frame t input s s1 h) rfl (Frame.refl s)
  | clockRestore t input => exact Frame.comp (execClockRestore_frame t input s s1 h) rfl (Frame.refl s)
  | temperatureReading t sensor celsius => exact Frame.comp (execTemperatureReading_frame t sensor celsius s s1 h) rfl (Frame.refl s)
  | ppsInEdge t => exact Frame.comp (execPpsInEdge_frame t s s1 h) rfl (Frame.refl s)
  | ppsOutEdge t rise => exact Frame.comp (execPpsOutEdge_frame t rise s s1 h) rfl (Frame.refl s)
  | powerOn t => exact absurd rfl (hp t)
  | refclk100Restored t => exact Frame.comp (execRefclk100Restored_frame t s s1 h) rfl (Frame.refl s)
  | railBackInRange t rail => exact Frame.comp (execRailBackInRange_frame t rail s s1 h) rfl (Frame.refl s)
  | linkUp t lane locked => exact Frame.comp (execLinkUp_frame t lane locked s s1 h) rfl (Frame.refl s)
  | uncorrectableFecBurst t lane => exact Frame.comp (execUncorrectableFecBurst_frame t lane s s1 h) rfl (Frame.refl s)
  | spiHeaderRejected t opcode addr hcrc bits => exact Frame.comp (execSpiHeaderRejected_frame t opcode addr hcrc bits s s1 h) rfl (Frame.refl s)
  | mapLineRebuilt t firstUnit units => exact Frame.comp (execMapLineRebuilt_frame t firstUnit units s s1 h) rfl (Frame.refl s)
  | sgtLineRebuilt t line => exact Frame.comp (execSgtLineRebuilt_frame t line s s1 h) rfl (Frame.refl s)

end Sys2Proof.Laws
end

