-- ==== Sys2Proof/Laws/Modes.lean ====
section
/-!
SUPPORT. What a change of mode leaves in the state.
-/

namespace Sys2Proof.Laws

open Sys2Proof.Machine Sys2Proof.Safety

/-- An operation that keeps the clock and the mode registers keeps what a transition recorded. -/
theorem entered_after {m : Mode} {c k : Nat} {s u w : State} (h : Entered m c s u) (f : Frame k u w) (h0 : k.testBit 0 = false)
    (h26 : k.testBit 26 = false) : Entered m c s w := by
  have a := f.mdRest h26
  have e1 := congrArg ModeState.mode a
  have e2 := congrArg ModeState.prev a
  have e3 := congrArg ModeState.cause a
  have e4 := congrArg ModeState.tick a
  have e5 := congrArg ModeState.fenceN a
  refine ⟨e1.trans h.1, e2.trans h.2.1, e3.trans h.2.2.1, ?_, e5.trans h.2.2.2.2⟩
  rw [f.time h0]
  exact e4.trans h.2.2.2.1

theorem entered_of_prev {m : Mode} {c : Nat} {s x u : State} (h : Entered m c x u) (e : x.md.mode = s.md.mode) : Entered m c s u :=
  ⟨h.1, h.2.1.trans e, h.2.2⟩

/-- What a transition does beside its own registers: no clock and no mode register moves again. -/
theorem changeMode_after (m : Mode) (c : Nat) (s : State) : Frame 2198905815038 { s with
      md := { s.md with mode := m, prev := s.md.mode, cause := c, tick := s.time.now, fenceN := m.fenceHigh, wdog := s.wdogFrom }
      time := if m = Mode.slack ∨ m = Mode.reset then { s.time with frac := 0 } else s.time } (s.changeMode m c) := by
  unfold State.changeMode
  exact Frame.comp (State.record_frame _ _ _) rfl (Frame.comp (State.raise_frame _ _ _) rfl
    (Frame.comp (State.cancelTally_frame _ _) rfl (Frame.refl _)))

theorem changeMode_entered (m : Mode) (c : Nat) (s : State) : Entered m c s (s.changeMode m c) := by
  have h1 : Entered m c s { s with
      md := { s.md with mode := m, prev := s.md.mode, cause := c, tick := s.time.now, fenceN := m.fenceHigh, wdog := s.wdogFrom }
      time := if m = Mode.slack ∨ m = Mode.reset then { s.time with frac := 0 } else s.time } := by
    refine ⟨rfl, rfl, rfl, ?_, rfl⟩
    show s.time.now = (if m = Mode.slack ∨ m = Mode.reset then { s.time with frac := 0 } else s.time : TimeState).now
    split <;> rfl
  unfold State.changeMode
  exact entered_after (entered_after (entered_after h1 (State.cancelTally_frame _ _) (by decide) (by decide))
    (State.raise_frame _ _ _) (by decide) (by decide)) (State.record_frame _ _ _) (by decide) (by decide)

theorem enterMode_entered (m : Mode) (c : Nat) (s : State) : Entered m c s (s.enterMode m c) := by
  unfold State.enterMode
  exact entered_after (changeMode_entered m c s) (State.noticeAll_frame _ _ _ _) (by decide) (by decide)

theorem enterSlack_entered (c : Nat) (s : State) : Entered .slack c s (s.enterSlack c) := by
  unfold State.enterSlack State.goSlack
  have h := changeMode_entered .slack c (s.checkpoint false)
  exact ⟨h.1, h.2.1, h.2.2⟩

theorem enterReset_entered (c n : Nat) (s : State) :
    Entered .reset c s (s.enterReset c n) ∧ (s.enterReset c n).md.rstSource = n := by
  have h : Entered .reset c s.abortTest (s.abortTest.changeMode .reset c) := changeMode_entered _ _ _
  have e : s.abortTest.md = s.md := (State.abortTest_frame s).md (by decide)
  exact ⟨⟨h.1, h.2.1.trans (by rw [e]), h.2.2.1, h.2.2.2.1, rfl⟩, rfl⟩

/-- Reset keeps only what log 9 lists: the keys in their slots, the sessions, the controllers, the reservations and the memory go. -/
theorem enterReset_clears (c n : Nat) (s : State) : (s.enterReset c n).ciph.slots = [] ∧ (s.enterReset c n).idm.sessions = [] ∧
    (s.enterReset c n).nvq.ctrls = [] ∧ (s.enterReset c n).adm.resv = [] ∧ (s.enterReset c n).mem.cells = [] ∧
    (s.enterReset c n).regs = {} := ⟨rfl, rfl, rfl, rfl, rfl, rfl⟩

theorem enterHoldup_entered {c : Nat} {s : State} (h : s.md.mode.canHoldup = true) : Entered .holdup c s (s.enterHoldup c) := by
  unfold State.enterHoldup
  rw [h]
  simp only [Bool.not_true, Bool.false_eq_true, if_false]
  have h0 : Entered .holdup c s (s.changeMode .holdup c).holdupErases :=
    entered_after (changeMode_entered _ _ _) (State.holdupErases_frame _) (by decide) (by decide)
  refine entered_after ?_ (State.emit_frame _ _) (by decide) (by decide)
  exact h0

theorem enterPreservation_entered {c : Nat} {s : State} (h : s.md.mode.canPreserve = true) :
    Entered .preservation c s (s.enterPreservation c) := by
  unfold State.enterPreservation
  rw [h]
  simp only [Bool.not_true, Bool.false_eq_true, if_false]
  refine entered_after ?_ (State.assertLine_frame _ _) (by decide) (by decide)
  refine entered_after ?_ (State.checkpoint_frame _ _) (by decide) (by decide)
  refine entered_after ?_ (Frame.foldl (m := 2198905815038) (fun x y h => Frame.comp (State.completeAdmin_frame _ _ _ _ _ _) rfl h) (Frame.refl _))
    (by decide) (by decide)
  refine entered_after (k := 2198905815038) (u := List.foldl _ _ _) ?_ (Frame.set_moor rfl (fun i => absurd i (by decide)) (Frame.refl _)) (by decide) (by decide)
  refine entered_after ?_ (Frame.foldl (m := 2198905815038) (fun x y h => Frame.comp (State.endWrite_frame _ _ _ _ _) rfl h) (Frame.refl _))
    (by decide) (by decide)
  refine entered_after ?_ (Frame.foldl (m := 2198905815038) (fun x y h => Frame.comp (State.endHeld_frame _ _ _ _) rfl h) (Frame.refl _))
    (by decide) (by decide)
  exact entered_after (enterMode_entered _ _ _) (k := 2198905815038)
    (Frame.set_moor rfl (fun i => absurd i (by decide)) (Frame.refl _)) (by decide) (by decide)

end Sys2Proof.Laws
end

