-- ==== Sys2Proof/Laws/Recorder.lean ====
section
/-!
SUPPORT. What recording an event leaves as it was, and what it adds.
-/

namespace Sys2Proof.Laws

open Sys2Proof.Machine

/-- Counting keeps the registers. -/
theorem count_reg (i a : Nat) (s : State) : (s.count i).reg a = s.reg a := by
  unfold State.reg
  rw [(State.count_frame i s).regs (by decide)]

theorem assertLine_reg (n a : Nat) (s : State) : (s.assertLine n).reg a = s.reg a := by
  unfold State.reg
  rw [(State.assertLine_frame n s).regs (by decide)]

theorem flushLine_reg (c a : Nat) (s : State) : (s.flushLine c).reg a = s.reg a := by
  unfold State.reg
  rw [(State.flushLine_frame c s).regs (by decide)]

/-- An event changes no register but the alert sources and RCDR_STATUS. -/
theorem record_reg {a : Nat} (code : Nat) (data : List Nat) (s : State) (h1 : a ≠ Reg.MSPI_ALERTSRC) (h2 : a ≠ Reg.RCDR_STATUS) :
    (s.record code data).reg a = s.reg a := by
  have hr : ∀ x : State, (x.loseRecord).reg a = x.reg a := by
    intro x
    unfold State.loseRecord
    rw [reg_raise_ne _ _ (Ne.symm h2), count_reg]
    rfl
  have hp : ∀ x : State, (x.putRecord code data).reg a = x.reg a := fun x => rfl
  unfold State.record
  split
  · rfl
  · have ha : (if alertOf code = 0 then s else s.raise Reg.MSPI_ALERTSRC (alertOf code)).reg a = s.reg a := by
      split
      · rfl
      · exact reg_raise_ne _ _ (Ne.symm h1)
    extract_lets x
    rw [← ha]
    split
    · exact hr x
    · rw [flushLine_reg, count_reg, hp]

theorem recordOnce_reg {a : Nat} (code item : Nat) (data : List Nat) (s : State) (h1 : a ≠ Reg.MSPI_ALERTSRC)
    (h2 : a ≠ Reg.RCDR_STATUS) : (s.recordOnce code item data).reg a = s.reg a := by
  unfold State.recordOnce
  extract_lets k o
  split
  · exact count_reg _ _ _
  · rw [record_reg _ _ _ h1 h2]
    rfl

/-- A request line once asserted is among the lines. -/
theorem assertLine_mem (n : Nat) (s : State) : n ∈ (s.assertLine n).dma.lines := by
  unfold State.assertLine
  split
  · assumption
  · simp

end Sys2Proof.Laws
end

