-- ==== Sys2Proof/Laws/Regs.lean ====
section
/-!
SUPPORT. Which stored registers a completion, a notice and a recomputed budget change.
-/

namespace Sys2Proof.Laws

open Sys2Proof.Machine

/-- The registers that events, completions and cuts raise bits of. -/
def Quiet (a : Nat) : Prop := a ≠ Reg.MSPI_ALERTSRC ∧ a ≠ Reg.RCDR_STATUS ∧ a ≠ Reg.ADM_STATUS ∧ a ≠ Reg.NVQ_STATUS

theorem reg_of_frame {m a : Nat} {s u : State} (f : Frame m s u) (h : m.testBit 2 = false) : u.reg a = s.reg a := by
  unfold State.reg
  rw [f.regs h]

theorem postCqe_reg {a : Nat} (h : Quiet a) (key : Nat) (c : Cqe) (s : State) : (s.postCqe key c).reg a = s.reg a := by
  unfold State.postCqe
  split
  · rfl
  · split
    · rw [recordOnce_reg _ _ _ _ h.1 h.2.1, count_reg, reg_raise_ne _ _ (Ne.symm h.2.2.2)]
      rfl
    · exact reg_of_frame (State.writeCqe_frame _ _ _) (by decide)

theorem notice_reg {a : Nat} (h : Quiet a) (cntl kind info log : Nat) (s : State) : (s.notice cntl kind info log).reg a = s.reg a := by
  have hr : ∀ x : State, (x.reportNotice cntl).reg a = x.reg a := by
    intro x
    unfold State.reportNotice
    split
    · rfl
    · split
      · rw [reg_of_frame (State.emit_frame _ _) (by decide), postCqe_reg h, count_reg]
        rfl
      · rfl
  unfold State.notice
  split
  · rfl
  · dsimp only
    split
    · rfl
    · rw [hr]
      rfl

/-- Recomputing the budget changes no register but those that events, completions and cuts raise bits of. -/
theorem recompute_reg {a : Nat} (h : Quiet a) (old : List Nat) (s : State) : (s.recompute old).reg a = s.reg a := by
  have hc : ∀ (code : Nat) (cs : List (Nat × Nat × Nat)) (x : State), (x.reportCuts code cs).reg a = x.reg a := by
    intro code cs x
    unfold State.reportCuts
    refine foldl_keep (fun s => s.reg a) (fun y c => ?_) cs x
    have h1 : (y.noteCut code c.1 c.2.1 c.2.2).reg a = y.reg a := by
      unfold State.noteCut
      dsimp only
      have h1 : ((y.record code [c.1, c.2.1, c.2.2]).raise Reg.ADM_STATUS 2).reg a = y.reg a := by
        rw [reg_raise_ne _ _ (Ne.symm h.2.2.1), record_reg _ _ _ h.1 h.2.1]
      generalize (y.record code [c.1, c.2.1, c.2.2]).raise Reg.ADM_STATUS 2 = z at h1 ⊢
      rw [← h1]
      split
      · split
        · exact notice_reg h ..
        · rfl
      · rfl
    dsimp only
    generalize y.noteCut code c.1 c.2.1 c.2.2 = z at h1 ⊢
    rw [← h1]
    split
    · split
      · exact reg_of_frame (State.emit_frame _ _) (by decide)
      · rfl
    · rfl
  unfold State.recompute
  split
  · rfl
  · unfold State.cuts
    dsimp only
    rw [hc, hc]
    exact record_reg _ _ _ h.1 h.2.1

end Sys2Proof.Laws
end

