-- ==== Sys2Proof/Laws/Snaps.lean ====
section
/-!
SUPPORT. What a snapshot becoming readable changes of the namespaces: the readable marks, and nothing else of them.
-/

namespace Sys2Proof.Laws

open Sys2Proof.Machine Sys2Proof.Safety

/-- A namespace without its readable marks. -/
def nsCore (n : Ns) : Ns × (Nat → Option Snap) :=
  ({ n with readable := true, snaps := [] }, fun k => (NMap.find n.snaps k).map (fun x => { x with readable := true }))

/-- Only the namespaces' readable marks differ, of all the queues and namespaces. -/
def Marked (s u : State) : Prop :=
  ∃ ns, u.nvq = { s.nvq with ns := ns } ∧ ∀ v, (NMap.find ns v).map nsCore = (NMap.find s.nvq.ns v).map nsCore

theorem Marked.refl (s : State) : Marked s s := ⟨s.nvq.ns, rfl, fun _ => rfl⟩

theorem Marked.trans {s x u : State} (a : Marked x u) (b : Marked s x) : Marked s u := by
  obtain ⟨m, e, h⟩ := a
  obtain ⟨n, f, g⟩ := b
  refine ⟨m, by rw [e, f], fun v => (h v).trans ?_⟩
  rw [f]
  exact g v

theorem Marked.of_nvq {s u : State} (e : u.nvq = s.nvq) : Marked s u := ⟨s.nvq.ns, e, fun _ => rfl⟩

theorem Marked.foldl {α : Type} {f : State → α → State} (hf : ∀ x a, Marked x (f x a)) : ∀ (l : List α) (s : State), Marked s (l.foldl f s) := by
  intro l
  induction l with
  | nil => exact Marked.refl
  | cons a l ih => exact fun s => Marked.trans (ih _) (hf s a)

theorem Marked.updNs {f : Ns → Ns} (hf : ∀ n, nsCore (f n) = nsCore n) (v : Nat) (s : State) : Marked s (s.updNs v f) :=
  ⟨_, rfl, fun j => find_upd_map s.nvq.ns v f nsCore hf j⟩

theorem openClones_marked (vol id : Nat) (s : State) : Marked s (s.openClones vol id) := by
  unfold State.openClones
  refine Marked.foldl (fun x p => ?_) _ s
  refine Marked.trans (Marked.updNs (f := fun n => { n with readable := true }) (fun _ => rfl) p.1 _) ?_
  refine Marked.foldl (fun y q => ?_) _ x
  split
  · exact Marked.refl y
  · dsimp only
    split
    · exact Marked.of_nvq rfl
    · exact Marked.of_nvq rfl

theorem snapsReady_marked (vol : Nat) (s : State) : Marked s (s.snapsReady vol) := by
  unfold State.snapsReady
  split
  · exact Marked.refl s
  · refine Marked.foldl (fun x p => ?_) _ s
    exact Marked.trans (openClones_marked vol p.1 _) (Marked.updNs
      (f := fun n => { n with snaps := NMap.upd n.snaps p.1 (fun y => { y with readable := true }) }) (fun n => Prod.ext rfl (funext fun k => find_upd_map n.snaps p.1 (fun y : Snap => ({ y with readable := true } : Snap))
        (fun x : Snap => ({ x with readable := true } : Snap)) (fun _ => rfl) k)) vol x)

/-- A namespace through a step that moves only readable marks. -/
theorem Marked.ns {s u : State} (h : Marked s u) {v : Nat} {n : Ns} (hn : s.ns? v = some n) : ∃ m, u.ns? v = some m ∧ nsCore m = nsCore n := by
  obtain ⟨ns, e, g⟩ := h
  have := g v
  rw [show NMap.find s.nvq.ns v = some n from hn] at this
  obtain ⟨m, hm, hc⟩ := Option.map_eq_some_iff.1 this
  exact ⟨m, by unfold State.ns?; rw [e]; exact hm, hc⟩

/-- What two namespaces share that differ in readable marks only. -/
theorem core_eq {m n : Ns} (h : nsCore m = nsCore n) :
    m.epoch = n.epoch ∧ m.frozen = n.frozen ∧ m.cloneOf = n.cloneOf ∧ m.ro = n.ro ∧ m.units = n.units ∧ m.lbaf = n.lbaf ∧
      m.keyslot = n.keyslot ∧ ∀ k, (NMap.find m.snaps k).map (fun x => ({ x with readable := true } : Snap)) =
        (NMap.find n.snaps k).map (fun x => { x with readable := true }) := by
  have k : ∀ {α : Type} (f : Ns → α), (∀ a, f (nsCore a).1 = f a) → f m = f n :=
    fun f e => (e m).symm.trans ((congrArg (fun c : Ns × (Nat → Option Snap) => f c.1) h).trans (e n))
  refine ⟨k Ns.epoch fun _ => rfl, k Ns.frozen fun _ => rfl, k Ns.cloneOf fun _ => rfl, k Ns.ro fun _ => rfl, k Ns.units fun _ => rfl,
    k Ns.lbaf fun _ => rfl, k Ns.keyslot fun _ => rfl, fun k => ?_⟩
  exact congrArg (fun c : Ns × (Nat → Option Snap) => c.2 k) h

end Sys2Proof.Laws
end

