-- ==== Sys2Proof/Laws/Wire.lean ====
section
/-!
SUPPORT. What sending on a session leaves of it, and that a packet once numbered stands there until it is acknowledged.
-/

namespace Sys2Proof.Laws

open Sys2Proof.Machine Sys2Proof.Safety

theorem updSession_session (m : Nat) (f : Session → Session) (s : State) (n : Nat) :
    (s.updSession m f).session? n = if m = n then (s.session? n).map f else s.session? n := by
  unfold State.updSession State.session?
  rw [show ({ s with idm := { s.idm with sessions := NMap.upd s.idm.sessions m f } } : State).idm.sessions = NMap.upd s.idm.sessions m f from rfl,
    find_upd]

theorem session_of_frame {m : Nat} {s u : State} (f : Frame m s u) (h : m.testBit 39 = false) (n : Nat) : u.session? n = s.session? n := by
  unfold State.session?; rw [f.sessions h]

theorem session_of_idm {s u : State} (e : u.idm = s.idm) (n : Nat) : u.session? n = s.session? n := by
  unfold State.session?; rw [e]

/-- A quantity of a session that putting a packet on the wire does not enter. -/
def Wireless {α : Type} (h : Session → α) : Prop := ∀ (x : Session) (a : List Packet) (b : Nat), h { x with toSeal := a, lastTx := b } = h x

theorem transmit_keeps {α : Type} {h : Session → α} (hh : Wireless h) (m : Nat) (p : Packet) (s : State) (n : Nat) :
    ((s.transmit m p).session? n).map h = (s.session? n).map h := by
  unfold State.transmit
  split
  · rfl
  · split
    · rw [updSession_session]
      split
      · rw [Option.map_map]
        exact congrArg (fun f => (s.session? n).map f) (funext fun x => hh x _ x.lastTx)
      · rfl
    · rw [session_of_frame (State.count_frame _ _) (by decide), session_of_frame (State.emit_frame _ _) (by decide), updSession_session]
      split
      · rw [Option.map_map]
        exact congrArg (fun f => (s.session? n).map f) (funext fun x => hh x x.toSeal _)
      · rfl

/-- What stands on a session: the packets that wait, and those not acknowledged. -/
def standing (x : Session) : List Packet × List Packet := (x.sendq, x.unacked.map (·.packet))

theorem queued_iff {n : Nat} {s : State} {p : Packet} :
    Queued n s p ↔ ∃ a, (s.session? n).map standing = some a ∧ (p ∈ a.1 ∨ p ∈ a.2) := by
  unfold Queued
  constructor
  · rintro ⟨x, hx, hp⟩
    refine ⟨standing x, by rw [hx]; rfl, ?_⟩
    rcases hp with hp | ⟨v, hv, rfl⟩
    · exact .inl hp
    · exact .inr (List.mem_map.2 ⟨v, hv, rfl⟩)
  · rintro ⟨a, ha, hp⟩
    obtain ⟨x, hx, rfl⟩ := Option.map_eq_some_iff.1 ha
    refine ⟨x, hx, ?_⟩
    rcases hp with hp | hp
    · exact .inl hp
    · obtain ⟨v, hv, e⟩ := List.mem_map.1 hp
      exact .inr ⟨v, hv, e⟩

theorem queued_of_eq {n : Nat} {s u : State} {p : Packet} (h : Queued n s p) (e : u.session? n = s.session? n) : Queued n u p := by
  unfold Queued; rw [e]; exact h

theorem standing_wireless : Wireless standing := fun _ _ _ => rfl

theorem launch_queued (n : Nat) (p : Packet) (s : State) (x : Session) (h : s.session? n = some x) :
    ((s.launch n p).session? n).map standing = some (x.sendq, x.unacked.map (·.packet) ++ [p]) := by
  unfold State.launch
  rw [h]
  dsimp only
  rw [transmit_keeps standing_wireless, updSession_session, if_pos rfl, h]
  simp [standing]

theorem launch_other (n m : Nat) (p : Packet) (s : State) (h : m ≠ n) : ((s.launch m p).session? n).map standing = (s.session? n).map standing := by
  unfold State.launch
  split
  · rfl
  · rw [transmit_keeps standing_wireless, updSession_session, if_neg h]

/-- Sending a sequenced packet: it stands on the session, with the session's next PSN, and what stood there still does. -/
theorem sendSeq_standing (n : Nat) (p : Packet) (s : State) (x : Session) (h : s.session? n = some x) :
    ((s.sendSeq n p).session? n).map standing = some (x.sendq ++ [{ p with psn := x.nextPsn, dsess := x.peer }], x.unacked.map (·.packet)) ∨
    ((s.sendSeq n p).session? n).map standing = some (x.sendq, x.unacked.map (·.packet) ++ [{ p with psn := x.nextPsn, dsess := x.peer }]) := by
  unfold State.sendSeq
  rw [h]
  dsimp only
  have h1 : (s.updSession n (fun x => { x with nextPsn := psnNext x.nextPsn })).session? n = some { x with nextPsn := psnNext x.nextPsn } := by
    rw [updSession_session, if_pos rfl, h]; rfl
  split
  · exact .inr (launch_queued n _ _ { x with nextPsn := psnNext x.nextPsn } h1)
  · refine .inl ?_
    rw [updSession_session, if_pos rfl, h1]; rfl

theorem sendSeq_queued {n : Nat} {p : Packet} {s : State} {x : Session} (h : s.session? n = some x) :
    Queued n (s.sendSeq n p) { p with psn := x.nextPsn, dsess := x.peer } := by
  rw [queued_iff]
  rcases sendSeq_standing n p s x h with e | e
  · exact ⟨_, e, .inl (List.mem_append_right _ (List.mem_singleton.2 rfl))⟩
  · exact ⟨_, e, .inr (List.mem_append_right _ (List.mem_singleton.2 rfl))⟩

theorem queued_sendSeq {n m : Nat} {p q : Packet} {s : State} (h : Queued n s q) : Queued n (s.sendSeq m p) q := by
  by_cases e : m = n
  · subst e
    obtain ⟨x, hx, hq⟩ := h
    rw [queued_iff]
    have hq' : q ∈ x.sendq ∨ q ∈ x.unacked.map (·.packet) := by
      rcases hq with hq | ⟨v, hv, rfl⟩
      · exact .inl hq
      · exact .inr (List.mem_map.2 ⟨v, hv, rfl⟩)
    rcases sendSeq_standing m p s x hx with e | e
    · exact ⟨_, e, hq'.imp_left (List.mem_append_left _)⟩
    · exact ⟨_, e, hq'.imp_right (List.mem_append_left _)⟩
  · rw [queued_iff] at h ⊢
    obtain ⟨a, ha, hq⟩ := h
    refine ⟨a, ?_, hq⟩
    unfold State.sendSeq
    split
    · exact ha
    · dsimp only
      split
      · rw [launch_other _ _ _ _ e, updSession_session, if_neg e]; exact ha
      · rw [updSession_session, if_neg e, updSession_session, if_neg e]; exact ha

/-- The first packet of an operation stands on its session. -/
theorem startOp_queued {n queue len : Nat} {owner : OpOwner} {group : Option Nat} {read : Bool} {p : Packet} {ps : List Packet} {s : State}
    {x : Session} (h : s.session? n = some x) : Queued n (s.startOp n queue owner group read len (p :: ps) )
      { p with xid := s.idm.nextXid, group := group.isSome, psn := x.nextPsn, dsess := x.peer } := by
  have hf : ∀ (l : List Packet) (y : State) (i : Nat) (q : Packet), Queued n y q →
      Queued n (l.foldl (fun s p => s.sendSeq n { p with xid := i, group := group.isSome }) y) q := by
    intro l
    induction l with
    | nil => exact fun _ _ _ h => h
    | cons a l ih => exact fun y i q h => ih _ _ _ (queued_sendSeq h)
  unfold State.startOp
  rw [h]
  dsimp only
  rw [List.foldl_cons]
  refine hf _ _ _ _ ?_
  generalize ho : (Op.mk _ _ _ _ _ _ _ _ : Op) = op
  have h1 : ({ s.updSession n (fun x => { x with ops := x.ops ++ [op] }) with
      idm := { (s.updSession n (fun x => { x with ops := x.ops ++ [op] })).idm with
        nextXid := ((s.updSession n (fun x => { x with ops := x.ops ++ [op] })).idm.nextXid + 1) % 2 ^ 32 } } : State).session? n =
      some { x with ops := x.ops ++ [op] } := by
    show (s.updSession n (fun x => { x with ops := x.ops ++ [op] })).session? n = _
    rw [updSession_session, if_pos rfl, h]; rfl
  exact sendSeq_queued (x := { x with ops := x.ops ++ [op] }) h1

/-- The first 8,192 bytes of a write stand on its session. -/
theorem remoteWrite_queued {n queue key offset : Nat} {owner : OpOwner} {fence : Bool} {bytes : List Byte} {s : State} {x : Session}
    (h : s.session? n = some x) : ∃ p, Queued n (s.remoteWrite n queue owner fence key offset bytes) p ∧ p.opcode = 1 ∧ p.queue = queue ∧
      p.key = key ∧ p.offset = offset ∧ p.payload = bytes.take 8192 ∧ p.first = true := by
  unfold State.remoteWrite
  unfold cutWrite
  exact ⟨_, startOp_queued h, rfl, rfl, rfl, rfl, rfl, rfl⟩

end Sys2Proof.Laws
end

