-- ==== Sys2Proof/WellFormed.lean ====
section
/-!
DEFINITION. Which commands are well formed: each operand inside the width the spec gives it.
-/

namespace Sys2Proof

/-- A submission queue entry: opcode, FUSE, CID and NSID inside dwords 0 and 1 (R200). -/
def Sqe.wf (e : Sqe) : Bool :=
  decide (e.opcode < 256) && decide (e.fuse < 4) && decide (e.cid < 65536) && decide (e.nsid < 2 ^ 32)

/-- A record: field widths of Table 4.3, and a payload of PLEN bytes. -/
def Record.wf (r : Record) : Bool :=
  decide (r.kind < 256) && decide (r.plen < 65536) && decide (r.keyslot < 8192) && decide (r.seq < 2 ^ 64)
    && decide (r.atick < 2 ^ 64) && decide (r.payload.length = r.plen)

/-- A packet: field widths of Table 10.2. -/
def Packet.wf (p : Packet) : Bool :=
  decide (p.ver < 16) && decide (p.opcode < 16) && decide (p.dsess < 65536) && decide (p.queue < 65536)
    && decide (p.len < 65536) && decide (p.psn < 2 ^ 32) && decide (p.xid < 2 ^ 32) && decide (p.key < 2 ^ 32)
    && decide (p.offset < 2 ^ 64) && decide (p.aux < 2 ^ 32)

/-- A CONNECT payload: field widths of Table 10.4. -/
def ConnectMsg.wf (m : ConnectMsg) : Bool :=
  decide (m.isess < 65536) && decide (m.wlog2 < 256) && decide (m.purpose < 256) && decide (m.ipsn < 2 ^ 32)
    && decide (m.port < 256)

/-- A replication frame: field widths of Table 12.1. -/
def ReplFrame.wf (f : ReplFrame) : Bool :=
  decide (f.kind < 256) && decide (f.plen < 65536) && decide (f.tvol < 16384) && decide (f.grain < 2 ^ 34)
    && decide (f.fseq < 2 ^ 32) && decide (f.payload.length = f.plen)

/-- A link descriptor: field widths of Table 12.6. -/
def LinkDesc.wf (d : LinkDesc) : Bool :=
  decide (d.nsid < 2 ^ 32) && decide (d.keyid < 65536) && decide (d.rtrip < 2 ^ 32) && decide (d.linkid < 128)

/-- A unit's number (Table 2.11). -/
def BootUnit.wf : BootUnit → Bool
  | .die n => decide (n < 2048)
  | .channel n => decide (n < 128)
  | .clane n => decide (n < 32)
  | .dlane n => decide (n < 16)
  | .cluster n => decide (n < 8)
  | .pair n => decide (n < 32)
  | .voter n => decide (n < 3)
  | .island _ n => decide (n < 128)

/-- A command is well formed. -/
def Instr.wf : Instr → Bool
  | .registerWrite _ _ addr _ => decide (addr < 2 ^ 40)
  | .unmappedAccess _ _ addr _ => decide (addr < 2 ^ 40)
  | .loHalfRead _ _ addr => decide (addr < 2 ^ 40)
  | .hiHalfWrite _ _ addr _ => decide (addr < 2 ^ 40)
  | .doorbellWrite _ session _ _ => decide (session < 65536)
  | .nvmWrite _ cntl qid e => decide (cntl < 16384) && decide (qid < 65536) && e.wf
  | .nvmRead _ cntl qid e => decide (cntl < 16384) && decide (qid < 65536) && e.wf
  | .compare _ cntl qid e _ => decide (cntl < 16384) && decide (qid < 65536) && e.wf
  | .writeZeroes _ cntl qid e => decide (cntl < 16384) && decide (qid < 65536) && e.wf
  | .datasetManagement _ cntl qid e _ => decide (cntl < 16384) && decide (qid < 65536) && e.wf
  | .flush _ cntl qid e => decide (cntl < 16384) && decide (qid < 65536) && e.wf
  | .invalidOpcode _ cntl qid e => decide (cntl < 16384) && decide (qid < 65536) && e.wf
  | .holdRetry _ => true
  | .holdLimitExpiry _ cntl qid cid => decide (cntl < 16384) && decide (qid < 65536) && decide (cid < 65536)
  | .acceptance _ _ _ _ => true
  | .inlineLookupAnswer _ _ grain cluster _ _ => decide (grain < 2 ^ 34) && decide (cluster < 8)
  | .inlineBudgetExpiry _ _ grain => decide (grain < 2 ^ 34)
  | .compressionOutcome _ _ grain lane _ => decide (grain < 2 ^ 34) && decide (lane < 32)
  | .cipherPassDone _ _ pair _ => decide (pair < 32)
  | .recordAppend _ _ => true
  | .stripeClose _ _ => true
  | .pageTransferDone _ _ _ _ strip => decide (strip < 20)
  | .programDone _ _ _ _ strip _ => decide (strip < 20)
  | .mirrorRecordArrival _ recs => recs.all Record.wf
  | .programAck _ _ => true
  | .coalescingTimer _ cntl => decide (cntl < 16384)
  | .pageReadDone _ _ _ => true
  | .readRetryStep _ _ _ _ => true
  | .decompressionDone _ _ lane _ => decide (lane < 16)
  | .parityRepair _ _ _ => true
  | .partnerRepairRequest _ vol grain _ _ => decide (vol < 16384) && decide (grain < 2 ^ 34)
  | .partnerRepairResponse _ _ _ => true
  | .islandGate _ _ index => decide (index < 128)
  | .islandReady _ _ index => decide (index < 128)
  | .islandWakeLate _ _ index => decide (index < 128)
  | .linkTrainingStart _ lane => decide (lane < 24)
  | .linkDown _ lane _ => decide (lane < 24)
  | .portRestartDone _ port => decide (port < 16)
  | .resetAssert _ _ _ => true
  | .resetRelease _ _ _ _ => true
  | .buttonPress _ => true
  | .buttonRelease _ => true
  | .buttonFailedClosed _ => true
  | .memoryInitDone _ _ => true
  | .bootStageDone _ _ _ passed => passed.all BootUnit.wf
  | .modeReqSlack _ _ _ => true
  | .modeReqJoin _ _ _ => true
  | .modeReqRelay _ _ _ => true
  | .modeReqPreservation _ _ _ => true
  | .modeReqHoldup _ _ _ => true
  | .modeReqBench _ _ _ => true
  | .modeReqOther _ _ _ => true
  | .preservationCheckpoint _ => true
  | .watchdogKick _ _ _ => true
  | .watchdogExpiry _ => true
  | .powerFail _ => true
  | .holdupComplete _ => true
  | .planMiss _ => true
  | .overloadClear _ => true
  | .pairCommitRequest _ _ _ => true
  | .pairCommitAnswer _ _ _ => true
  | .pairCommitTimeout _ _ => true
  | .reservationCreate _ cntl e => decide (cntl < 16384) && e.wf
  | .reservationChange _ cntl e => decide (cntl < 16384) && e.wf
  | .reservationDelete _ cntl e => decide (cntl < 16384) && e.wf
  | .reservationQuery _ cntl e => decide (cntl < 16384) && e.wf
  | .reservationRebind _ cntl e => decide (cntl < 16384) && e.wf
  | .rebindDelete _ cntl e => decide (cntl < 16384) && e.wf
  | .foldStripe _ _ _ _ _ => true
  | .foldProgramVerified _ _ _ _ _ _ _ => true
  | .checkpointPeriod _ => true
  | .postProcessGrain _ _ _ cluster => decide (cluster < 8)
  | .filterSwap _ _ => true
  | .snapshotCreate _ cntl e => decide (cntl < 16384) && e.wf
  | .snapshotDelete _ cntl e => decide (cntl < 16384) && e.wf
  | .snapshotClone _ cntl e => decide (cntl < 16384) && e.wf
  | .snapshotQuery _ cntl e => decide (cntl < 16384) && e.wf
  | .snapshotList _ cntl e => decide (cntl < 16384) && e.wf
  | .snapshotReclaimDone _ vol _ => decide (vol < 16384)
  | .channelTrainingDone _ channel _ => decide (channel < 128)
  | .statusTimeout _ die _ _ => decide (die < 2048)
  | .busTimeout _ channel => decide (channel < 128)
  | .eraseDone _ die _ _ => decide (die < 2048)
  | .eraseResume _ die => decide (die < 2048)
  | .gcCopy _ _ _ => true
  | .patrolRead _ _ _ _ _ => true
  | .dieTemperatureSample _ _ => true
  | .modulePresent _ port _ _ _ _ _ => decide (port < 16)
  | .moduleRoleAssigned _ port _ _ => decide (port < 16)
  | .moduleRemoval _ port => decide (port < 16)
  | .rebuildStripDone _ _ _ strip unread => decide (strip < 20) && unread.all (fun j => decide (j < 20))
  | .rebuildFloorBooking _ => true
  | .floorWrite _ _ _ => true
  | .reshapeRequest _ _ _ => true
  | .reshapePause _ _ _ => true
  | .reshapeStripeMigrated _ => true
  | .moduleRelease _ _ _ => true
  | .moduleMakeSpare _ _ _ => true
  | .moduleMakeUnused _ _ _ => true
  | .spareProbe _ port _ => decide (port < 16)
  | .createIoSq _ cntl e _ => decide (cntl < 16384) && e.wf
  | .createIoCq _ cntl e _ => decide (cntl < 16384) && e.wf
  | .deleteIoSq _ cntl e => decide (cntl < 16384) && e.wf
  | .deleteIoCq _ cntl e => decide (cntl < 16384) && e.wf
  | .getLogPage _ cntl e => decide (cntl < 16384) && e.wf
  | .identify _ cntl e => decide (cntl < 16384) && e.wf
  | .abort _ cntl e => decide (cntl < 16384) && e.wf
  | .setFeatures _ cntl e => decide (cntl < 16384) && e.wf
  | .setFeaturesHoldLimit _ cntl e => decide (cntl < 16384) && e.wf
  | .setFeaturesCompression _ cntl e => decide (cntl < 16384) && e.wf
  | .setFeaturesDedup _ cntl e => decide (cntl < 16384) && e.wf
  | .getFeatures _ cntl e => decide (cntl < 16384) && e.wf
  | .asyncEventRequest _ cntl e => decide (cntl < 16384) && e.wf
  | .namespaceCreate _ cntl e _ _ _ => decide (cntl < 16384) && e.wf
  | .namespaceDelete _ cntl e => decide (cntl < 16384) && e.wf
  | .namespaceAttachment _ cntl e _ => decide (cntl < 16384) && e.wf
  | .selfTestShort _ cntl e => decide (cntl < 16384) && e.wf
  | .selfTestExtended _ cntl e => decide (cntl < 16384) && e.wf
  | .selfTestAbort _ cntl e => decide (cntl < 16384) && e.wf
  | .selfTestDone _ _ _ => true
  | .recorderRead _ cntl e => decide (cntl < 16384) && e.wf
  | .recorderClearArm _ cntl e => decide (cntl < 16384) && e.wf
  | .recorderClear _ cntl e => decide (cntl < 16384) && e.wf
  | .tallyCommand _ cntl e => decide (cntl < 16384) && e.wf
  | .idmWrite _ p => p.wf
  | .idmReadReq _ p => p.wf
  | .readResp _ p => p.wf
  | .notify _ p => p.wf
  | .statusPacket _ p => p.wf
  | .ack _ p => p.wf
  | .connect _ _ _ _ m => m.wf
  | .accept _ session _ _ _ => decide (session < 65536)
  | .close _ p => p.wf
  | .keepalive _ p => p.wf
  | .rekey _ p => p.wf
  | .malformedPacket _ port p _ => decide (port < 256) && p.wf
  | .datagramDiscard _ port udpPort _ => decide (port < 16) && decide (udpPort < 65536)
  | .ptpMessage _ udpPort _ => decide (udpPort < 65536)
  | .connectResend _ session => decide (session < 65536)
  | .connectTimeout _ session => decide (session < 65536)
  | .sessionTimeout _ session => decide (session < 65536)
  | .keepaliveDue _ session => decide (session < 65536)
  | .ackDelay _ session => decide (session < 65536)
  | .rtoExpiry _ session psn => decide (session < 65536) && decide (psn < 2 ^ 32)
  | .ondemandUnitReady _ session key _ => decide (session < 65536) && decide (key < 2 ^ 32)
  | .ondemandStallExpiry _ session key _ => decide (session < 65536) && decide (key < 2 ^ 32)
  | .backoffExpiry _ session psn => decide (session < 65536) && decide (psn < 2 ^ 32)
  | .workEntryPost _ queue _ => decide (queue < 2 ^ 26)
  | .chainTimeout _ queue => decide (queue < 2 ^ 26)
  | .beaconSend _ => true
  | .beaconArrival _ _ _ => true
  | .pathCheck _ _ => true
  | .verdict _ _ => true
  | .voterEvaluation _ flipFence flipLost => decide (flipFence < 8) && decide (flipLost < 8)
  | .voterCalibration _ voter _ => decide (voter < 3)
  | .takeoverComplete _ => true
  | .addressAnnounceRepeat _ => true
  | .yield _ _ _ => true
  | .wake _ _ _ => true
  | .tideSyncExchange _ _ _ => true
  | .resyncSwitch _ => true
  | .mirrorReadback _ _ _ _ => true
  | .beaconLoopCheck _ _ _ => true
  | .replicationFrame _ session f _ => decide (session < 65536) && f.wf
  | .replicationResult _ link target f => decide (link < 128) && decide (target < 4) && f.wf
  | .replicationInterval _ link => decide (link < 128)
  | .syncTargetDeadline _ _ target => decide (target < 4)
  | .targetResyncAttempt _ link target _ => decide (link < 128) && decide (target < 4)
  | .linkCreate _ cntl e d _ _ => decide (cntl < 16384) && e.wf && d.wf
  | .linkDelete _ cntl e => decide (cntl < 16384) && e.wf
  | .targetAdd _ cntl e d _ _ => decide (cntl < 16384) && e.wf && d.wf
  | .targetRemove _ cntl e => decide (cntl < 16384) && e.wf
  | .replicaAccept _ cntl e d => decide (cntl < 16384) && e.wf && d.wf
  | .sendSetNow _ cntl e => decide (cntl < 16384) && e.wf
  | .linkQuery _ cntl e => decide (cntl < 16384) && e.wf
  | .podQuery _ cntl e => decide (cntl < 16384) && e.wf
  | .podHeartbeatSend _ => true
  | .podHeartbeat _ device _ masterView => decide (device < 8) && decide (masterView < 256)
  | .masterSilence _ => true
  | .partitionHandover _ partition newPair => decide (partition < 256) && decide (newPair < 4)
  | .scrubPass _ _ _ _ => true
  | .bufferRequest _ _ _ => true
  | .bufferFree _ _ _ => true
  | .stackBatchDone _ pool _ _ => decide (pool < 5)
  | .chainRebuilt _ pool => decide (pool < 5)
  | .leakSweep _ => true
  | .quotaWrite _ _ _ => true
  | .dmaBurst _ channel => decide (channel < 128)
  | .descriptorFetch _ channel => decide (channel < 128)
  | .busError _ channel _ _ _ => decide (channel < 128)
  | .dmaKick _ _ _ => true
  | .dmaResume _ _ _ => true
  | .softwareRequest _ _ _ => true
  | .channelDisable _ _ channel _ => decide (channel < 128)
  | .channelEnable _ _ channel _ => decide (channel < 128)
  | .lockTake _ _ _ => true
  | .lockRelease _ _ _ => true
  | .lockIdleTimeout _ => true
  | .loadXts _ _ _ => true
  | .loadGcm _ _ _ => true
  | .keyClear _ _ _ => true
  | .setLimit _ _ _ => true
  | .ldgProgram _ _ _ _ => true
  | .ldgErase _ _ => true
  | .ldgSuspend _ bank => decide (bank < 2)
  | .ldgResume _ bank => decide (bank < 2)
  | .ldgPoll _ bank => decide (bank < 2)
  | .ldgCycles _ _ => true
  | .ldgRectail _ _ _ => true
  | .commandWindowWrite _ _ _ _ => true
  | .windowSequenceTimeout _ => true
  | .ledgerProgramDone _ bank _ => decide (bank < 2)
  | .ledgerEraseDone _ bank _ => decide (bank < 2)
  | .minrunReached _ bank => decide (bank < 2)
  | .eraseAgeLimit _ bank => decide (bank < 2)
  | .relayCommit _ _ _ => true
  | .relayAbandon _ _ _ => true
  | .relayTimeout _ => true
  | .slackExitDone _ => true
  | .benchTestStart _ _ _ => true
  | .benchTestDone _ _ => true
  | .keyBurn _ _ _ => true
  | .keyRevoke _ _ _ => true
  | .tallyRequest _ _ _ => true
  | .tallyLatch _ => true
  | .tallyStagingDone _ => true
  | .tallyLvalCommit _ _ _ => true
  | .recorderFlushTimer _ => true
  | .recorderReadWindow _ _ => true
  | .clearArm _ _ _ => true
  | .clearGo _ _ _ => true
  | .admRinfoRead _ _ => true
  | .cmpFinfoRead _ _ => true
  | .ddupPolicyRead _ _ => true
  | .fchDinfoRead _ _ channel => decide (channel < 128)
  | .strpMinfoRead _ _ => true
  | .nvqQinfoRead _ _ => true
  | .idmSinfoRead _ _ => true
  | .atpuRinfoRead _ _ => true
  | .poolOinfoRead _ _ => true
  | .ciphKinfoRead _ _ => true
  | .ldgCinfoRead _ _ => true
  | .spiWrite _ addr _ _ extraBits => decide (addr < 2 ^ 32) && decide (extraBits < 40)
  | .spiRead _ addr _ _ extraBits => decide (addr < 2 ^ 32) && decide (extraBits < 40)
  | .spiStatus _ addr _ _ => decide (addr < 2 ^ 32)
  | .spiWrite16 _ addr _ _ _ => decide (addr < 2 ^ 32)
  | .bulkWindowControl _ _ _ _ => true
  | .railOutOfRange _ rail _ => decide (rail < 9)
  | .clockLoss _ input => decide (input < 4)
  | .clockRestore _ input => decide (input < 4)
  | .temperatureReading _ sensor _ => decide (sensor < 16)
  | .ppsInEdge _ => true
  | .ppsOutEdge _ _ => true
  | .powerOn _ => true
  | .refclk100Restored _ => true
  | .railBackInRange _ rail => decide (rail < 9)
  | .linkUp _ lane _ => decide (lane < 24)
  | .uncorrectableFecBurst _ lane => decide (lane < 24)
  | .spiHeaderRejected _ _ addr _ _ => decide (addr < 2 ^ 32)
  | .mapLineRebuilt _ _ _ => true
  | .sgtLineRebuilt _ _ => true

end Sys2Proof
end

