-- ==== Sys2Proof/Tests/Slice0.lean ====
section
/-!
SUPPORT. Small checks of the model by evaluation: worked examples of the spec, terms that are not well formed, and for each statement
of Certificates/Slice0/Obligations.lean a concrete state and operands that meet its hypotheses.
-/

namespace Sys2Proof.Tests

open Sys2Proof.Machine Sys2Proof.Safety

set_option Elab.async false

/-! ### Small states -/

/-- A queue entry with nothing but its opcode, namespace and a command identifier. -/
def entry (opcode nsid : Nat) : Sqe :=
  { opcode := opcode, fuse := 0, cid := 7, nsid := nsid, dw4 := 0, dw5 := 0, dw6 := 0, dw7 := 0, dw8 := 0, dw9 := 0, dw10 := 0,
    dw11 := 0, dw12 := 0, dw13 := 0, dw14 := 0, dw15 := 0 }

/-- An empty submission queue, and an empty completion queue. -/
def sq (qid dqn : Nat) : Sq :=
  { cntl := 1, qid := qid, dqn := dqn, size := 16, key := 0, offset := 0, head := 0, tail := 0, epoch := 0, holdLimit := 0,
    deleting := none }

def cq (qid dqn : Nat) : Cq :=
  { cntl := 1, qid := qid, dqn := dqn, size := 16, key := 0, offset := 0, head := 0, tail := 0, phase := true, epoch := 0, ien := true,
    held := [], unnotified := 0, notifyFrom := 0 }

/-- A controller on session 0. -/
def ctrl : Ctrl :=
  { session := 0, nkey := 0, nofs := 0, partnerAddr := false, grant := 8, arb := 0, coalesce := 0, aerConf := 0, aers := [],
    notices := [], masked := [], aborts := 0, abortTick := 0, outstanding := [] }

/-- An open session in the clear. -/
def session (purpose : Nat) : Session :=
  { state := 2, sealed := false, purpose := purpose, wlog2 := 8, port := 0, peer := 0, source := 9, firstRx := 0, nextPsn := 5, cum := 3,
    got := [], unacked := [], ops := [], lastRx := 1000, lastTx := 1000, start := 0, lastConnect := 0, saltTx := 0, saltRx := 0,
    keyid := 0, phaseTx := false, phaseRx := false, bothPhases := false, lastAckCtr := [], sinceAck := 0, ackFrom := 0, retries := [],
    fenced := [], toSeal := [], sendq := [], cntl := some 1, dbKey := 0, acceptPsn := 0, partnerAddr := false, rekeyPsn := none,
    rekeyRx := none, heldPhases := [], rekeyed := false, closePsn := none }

/-- A served namespace of 256 map units, attached to controller 1. -/
def ns : Ns :=
  { lbaf := 0, units := 256, home := true, taken := false, keyslot := 5, cmode := 0, cw := 0, cl := 0, dedup := 0, epoch := 0, snaps := [],
    frozen := [], cloneOf := none, ro := false, readable := true, attached := [1], replica := none }

/-- A key slot with an XTS key. -/
def slot : Slot :=
  { gcm := false, owner := 1, refs := 1, key1 := padBytes 32 1, key2 := padBytes 32 2, ctr := 0, limit := 0, due := false,
    exhausted := false }

/-- A head at tick 1,000 in a mode, with a controller that has its admin queues and one pair of I/O queues, and a namespace. -/
def head (m : Mode) : State :=
  { time := { now := 1000, running := true }
    md := { mode := m, rstN := true, pwrgd := true }
    nvq := { ctrls := [(1, ctrl)], sqs := [(1, sq 1 1), (16384, sq 0 0)], cqs := [(1, cq 1 1), (16384, cq 0 0)], ns := [(0, ns)] }
    idm := { sessions := [(0, session 0)] }
    mem := { sramDone := true, hbmDone := true, ready := true }
    ciph := { slots := [(5, slot)] } }


/-- A push or pull reservation of queue 1, at tick 1,000 with its window's credit. -/
def resv : Resv :=
  { rate := 4, burst := 4, d := 250, pull := true, dqn := 1, cntl := 1, setRate := 4, setBurst := 4, cut := false, used := 0, credit := 4,
    window := 0, created := 0, home := true, pushKey := 0, pushSz := 0 }

def region : Region :=
  { gen := 1, used := true, base := 0, len := 4096, rd := true, wr := true, nt := true, ondemand := false, owner := 0, doorbell := false,
    freed := 0, units := [] }

/-! ### States and operands that meet the hypotheses of the statements -/

theorem head_ready : Ready 1 0 (head .paired) ∧ Ready 1 1 (head .paired) ∧ Ready 1 0 (head .sole) ∧ Ready 1 1 (head .sole) :=
  ⟨⟨by decide +kernel, 16384, cq 0 0, by decide +kernel⟩, ⟨by decide +kernel, 1, cq 1 1, by decide +kernel⟩, ⟨by decide +kernel, 16384, cq 0 0, by decide +kernel⟩,
    ⟨by decide +kernel, 1, cq 1 1, by decide +kernel⟩⟩

theorem head_ticking : Ticking 2000 (head .paired) ∧ Ticking 2000 (head .sole) := ⟨by unfold Ticking; decide +kernel, by unfold Ticking; decide +kernel⟩

theorem head_open : Open (head .paired) ∧ Open (head .sole) ∧ Open (head .bench) ∧ Open (head .boot) ∧ Open (head .relay) ∧
    Open (head .slack) ∧ Open (head .join) := by
  unfold Open; decide +kernel

theorem head_settled : Settled 1 (head .paired) ∧ Settled 1 (head .sole) := by unfold Settled; decide +kernel

theorem head_runs (op n : Nat) : Runs 1 (entry op n) (head .paired) ∧ Runs 1 (entry op n) (head .sole) :=
  ⟨⟨head_ready.1, by decide +kernel, rfl, head_settled.1⟩, ⟨head_ready.2.2.1, by decide +kernel, rfl, head_settled.2⟩⟩

theorem witness_StepRunsFrontCommand : ∃ s : State, s.pending = [.powerFail 0, .planMiss 1] := ⟨{ pending := _ }, rfl⟩

theorem witness_IdleStepMovesTimeOnly : State.reset.pending = [] ∧ State.reset.time.running = false ∧ (head .paired).pending = [] ∧
    (head .paired).time.running = true ∧ (head .paired).slowClock = false ∧ (head .slack).pending = [] ∧
    (head .slack).time.running = true ∧ (head .slack).slowClock = true := by decide +kernel

theorem witness_EveryStepKeepsMemoriesCanonical : Canonical (head .paired) ∧ Sys2Proof.Machine.step (head .paired) =
    .next { head .paired with time := { now := 1001, running := true } } := ⟨by unfold Canonical; decide +kernel, rfl⟩

theorem witness_CommandsLeaveTheQueue : Sys2Proof.Machine.exec (.ppsInEdge 2000) (head .paired) =
    .next { head .paired with time := { now := 2000, running := true, pps := 2000 } } := rfl

theorem witness_TideNeverRunsBack : (head .reset).time.running = true ∧ (head .reset).md.mode = .reset ∧
    (head .reset).md.heldInReset = false ∧ (head .reset).md.thermtripN = true ∧ Instr.ppsInEdge 2000 ≠ .powerOn 0 := by decide +kernel

theorem witness_PlainRegisterWrite : ∃ r n, Open (head .bench) ∧ Reg.FCH_CKPT < regSpaceEnd ∧ findReg Reg.FCH_CKPT = some (r, n) ∧
    ((head .bench).advanceTo 2000).writeOwn .spi Reg.FCH_CKPT 0x00010001 = none ∧ r.writable = true ∧
    r.when_.allows (head .bench).md.mode = true ∧ r.perPath = false ∧ (0x00010001 : Word) &&& r.reserved = 0 ∧
    badFields Reg.FCH_CKPT 0x00010001 = 0 :=
  ⟨_, _, by unfold Open; decide +kernel, by decide +kernel, rfl, by decide +kernel⟩

theorem witness_AccessesThatReachNoRegister :
    (∃ r n, Open (head .bench) ∧ Reg.FCH_HEALTH < regSpaceEnd ∧ findReg Reg.FCH_HEALTH = some (r, n) ∧
      ((head .bench).advanceTo 2000).writeOwn .spi Reg.FCH_HEALTH 1 = none ∧ r.writable = false) ∧
    (∃ r n, findReg Reg.FCH_CKPT = some (r, n) ∧ ((head .bench).advanceTo 2000).writeOwn .spi Reg.FCH_CKPT 0xFF010001 = none ∧
      r.writable = true ∧ r.when_.allows (head .bench).md.mode = true ∧ r.perPath = false ∧ (0xFF010001 : Word) &&& r.reserved ≠ 0 ∧
      badFields Reg.FCH_CKPT 0xFF010001 = 0) ∧
    (∃ r n, findReg Reg.GCTL_ERR = some (r, n) ∧ ((head .bench).advanceTo 2000).writeOwn .spi Reg.GCTL_ERR 0x80000001 = none ∧
      r.writable = true ∧ r.when_.allows (head .bench).md.mode = true ∧ r.perPath = false ∧ (0x80000001 : Word) &&& r.reserved ≠ 0 ∧
      badFields Reg.GCTL_ERR 0x80000001 = 0) ∧
    (head .reset).md.mode = .reset ∧ ((head .reset).advanceTo 2000).writeOwn .spi Reg.FCH_CKPT 1 = none :=
  ⟨⟨_, _, by unfold Open; decide +kernel, by decide +kernel, rfl, by decide +kernel⟩, ⟨_, _, rfl, by decide +kernel⟩, ⟨_, _, rfl, by decide +kernel⟩, by decide +kernel⟩

theorem witness_HalvesOfAQuantity : Open (head .paired) ∧ (findReg Reg.TBASE_NOW_LO).isSome = true ∧
    latchedHigh (Reg.TBASE_NOW_LO + 4) = true := ⟨head_open.1, by decide +kernel⟩

theorem witness_ReadsLatchReservationsLanesDiesAndQueues : Open { head .paired with adm := { resv := [(0, resv)] } } ∧
    State.resvSel { head .paired with adm := { resv := [(0, resv)] } } .spi = some resv ∧
    laneUnit ((head .paired).laneSel .spi) = some (.clane 0) ∧
    (head .paired).ns? (bits ((head .paired).pathReg .spi Reg.DDUP_PSEL) 13 0) = some ns ∧ 127 < 128 := ⟨head_open.1, by decide +kernel⟩

theorem witness_ReadsLatchSessionsRegionsOwnersKeysAndSectors :
    let s := { head .paired with idm := { sessions := [(0, session 0)], regions := [(0, region)] },
                                 regs := { path := [(pathKey .spi Reg.CIPH_KSEL, 5)] } }
    Open s ∧ s.sessionSel .spi = some (session 0) ∧ s.regionSel .spi = some region ∧ region.used = true ∧ s.slotSel .spi = some slot :=
  ⟨head_open.1, by decide +kernel⟩

theorem witness_SpiFramesActAsTheirOpcodeSays : Open (head .paired) ∧ 0x10 % 4 = 0 ∧ 0x10 < regSpaceEnd ∧ (0 : Byte) ≠ wordCrc 0x1034 ∧
    regSpaceEnd % 4 = 0 ∧ (0x80000000 ≤ 0x80000000 ∧ 0x83FFFFFE < 0x84000000) ∧
    spiHeaderOk (3 : Byte).toNat 0x10 0 = false := ⟨head_open.1, by decide +kernel⟩

theorem witness_BulkWindowControlEmptiesAndAsks : Open (head .paired) ∧ 3 < 4 ∧ (0 : Word) &&& 0xFFFFFFFC = 0 ∧ bit 0 0 = false ∧
    (3 : Word) &&& 0xFFFFFFFC = 0 ∧ ((head .paired).bulk 3).full = false := ⟨head_open.1, by decide +kernel, by decide +kernel, by decide +kernel, by decide +kernel, rfl⟩

theorem witness_TallyLatchesAndStagesEveryCounter :
    let req := { head .paired with regs := { staged := [(pathKey .spi Reg.TALLY_AT_LO, 100000)] } }
    let wait : State := { head .paired with tally := { pending := true, at_ := 1500 } }
    let lat : State := { head .paired with tally := { pending := true, latched := true, at_ := 1500, ltick := 1500 } }
    let f := { entry 0xC5 0 with dw10 := 100000, dw12 := 352 }
    (Open req ∧ Ticking 2000 req ∧ req.mem.ready = true ∧ req.md.mode ≠ .slack ∧ req.md.mode ≠ .holdup ∧ req.tally.pending = false ∧
      2000 + 10000 ≤ join64 (req.staged .spi Reg.TALLY_AT_LO) 0) ∧
    (Ticking 2000 wait ∧ wait.tally.pending = true ∧ wait.tally.latched = false ∧ wait.tally.at_ ≤ 2000) ∧
    (lat.tally.pending = true ∧ lat.tally.latched = true ∧ lat.tally.staged = false) ∧
    (Open lat ∧ counterReserved (bits (lat.pathReg .spi Reg.TALLY_LSEL) 17 0) = false ∧ (0x1FFFF : Word) &&& 0xFFFE0000 = 0) ∧
    (Ready 1 0 (head .paired) ∧ Ticking 2000 (head .paired) ∧ f.fuse = 0 ∧ (head .paired).mem.ready = true ∧
      (head .paired).tally.pending = false ∧ 352 ≤ bits f.dw12 15 0 ∧ 2000 + 10000 ≤ slbaOf f) := by
  refine ⟨⟨head_open.1, head_ticking.1, by decide +kernel⟩, ⟨head_ticking.1, by decide +kernel⟩, by decide +kernel, ⟨head_open.1, by decide +kernel⟩, head_ready.1,
    head_ticking.1, by decide +kernel⟩

theorem witness_RecorderIsReadAndClearedByItsRules :
    let e : EventRec := { code := 0x1000, seq := 1, tick := 500, mode := 4, lost := false, data := [] }
    let s : State := { head .paired with rcdr := { recs := [e], newest := 1, nonces := [(pathCode .spi, (5, 600))] },
                                         regs := { path := [(pathKey .spi Reg.RCDR_RSEQ_LO, 1)], staged := [(pathKey .spi Reg.RCDR_RSEQ_LO, 1)] } }
    let f := { entry 0xC3 0 with dw10 := 1, dw12 := 1 }
    (Ticking (secondTicks + 500) s ∧ s.rcdr.recs.find? (fun e => decide (s.rcdr.flushedTo < e.seq)) = some e ∧
      e.tick + secondTicks ≤ secondTicks + 500) ∧
    (Open s ∧ s.selectedRec .spi = some e ∧ (head .paired).selectedRec .spi = none) ∧
    (Ticking 2000 s ∧ NMap.find s.rcdr.nonces (pathCode .spi) = some (5, 600) ∧ 2000 ≤ 600 + 10 * secondTicks ∧ (5 : Word).toNat = 5 ∧
      s.pair .spi Reg.RCDR_CLRSEQ_LO Reg.RCDR_CLRSEQ_HI ≤ s.rcdr.newest) ∧
    (Ready 1 0 (head .paired) ∧ f.fuse = 0 ∧ 1 ≤ bits f.dw12 15 0 ∧ bits f.dw12 15 0 ≤ 256 ∧ (head .paired).md.mode ≠ .preservation) := by
  refine ⟨⟨by unfold Ticking; decide +kernel, by decide +kernel⟩, ⟨head_open.1, by decide +kernel⟩, ⟨by unfold Ticking; decide +kernel, by decide +kernel⟩, head_ready.1, by decide +kernel⟩

theorem witness_RailsAndClocksActByTheirTables :
    let s : State := { head .paired with elec := { railsOut := 1 } }
    let l : State := { head .paired with time := { now := 1000, running := true, sref0Lost := true } }
    let c : State := { head .reset with time := { now := 1000, running := true, refclkLost := true }, md := { mode := .reset } }
    (8 < 9 ∧ s.md.pwrgd = true) ∧ (s.elec.railsOut / 2 ^ 0 % 2 = 1 ∧ 0 ≠ 8) ∧ (s.time.refclkLost = false ∧ s.md.mode ≠ .reset) ∧
    s.time.sref0Lost = false ∧ l.time.sref0Lost = true ∧
    (c.time.refclkLost = true ∧ c.md.mode = .reset ∧ c.md.rstN = false) := by decide +kernel

theorem witness_TemperatureLimitsActAsListed : (head .paired).md.mode ≠ .reset ∧ (124 : Int) < 125 ∧
    ((125 : Int) ≤ 129 ∧ (129 : Int) < 130 ∧ (head .paired).md.mode.canPreserve = true) ∧ (130 : Int) ≤ 130 := by decide +kernel

theorem witness_TimeInputsAreStamped : (head .paired).md.mode ≠ .reset ∧
    ((head .paired).time.ppsOut = false ∧ ((head .paired).advanceTo 2000).sinceSecond < 100 * msTicks) ∧
    ((319 = 319 ∨ 319 = 320) ∧ (head .paired).md.mode ≠ .slack) := by decide +kernel

theorem witness_ResetInputsAndButton :
    let p : State := { head .paired with md := { mode := .paired, press := some (500, false) } }
    ((head .paired).time.running = true ∧ (head .paired).md.mode ≠ .reset ∧ (head .paired).md.rstN = true ∧
      (head .paired).md.pwrgd = true) ∧
    ((head .reset).time.running = true ∧ (head .reset).md.mode = .reset ∧ (head .reset).md.heldInReset = false ∧
      (head .reset).md.thermtripN = true) ∧
    (head .paired).md.press = none ∧
    (Ticking (500 + 30000 * msTicks) p ∧ p.md.press = some (500, false) ∧ p.md.failClosed = false ∧ p.md.mode ≠ .reset ∧
      p.md.mode.canHoldup = true) ∧
    (20 * msTicks ≤ 500 + 20 * msTicks - 500 ∧ 500 + 20 * msTicks - 500 < 1000 * msTicks) ∧
    (1000 * msTicks ≤ 500 + 1000 * msTicks - 500 ∧ 500 + 1000 * msTicks - 500 < 4000 * msTicks) ∧
    (4000 * msTicks ≤ 500 + 4000 * msTicks - 500 ∧ 500 + 4000 * msTicks - 500 < 10000 * msTicks) := by
  refine ⟨by decide +kernel, by decide +kernel, by decide +kernel, ⟨by unfold Ticking; decide +kernel, by decide +kernel⟩, by decide +kernel⟩

theorem witness_BootStagesFollowEachOther :
    let b (n : Nat) : State := { head .boot with md := { mode := .boot, bootStage := n, trial := false } }
    (((({ head .boot with mem := {} } : State)).md.mode = .boot ∧ (({ head .boot with mem := {} } : State)).mem.sramDone = false)) ∧
    ((({ head .boot with mem := { sramDone := true, hbmDone := true } } : State)).mem.ready = false) ∧
    ((b 1).md.mode = .boot ∧ (b 1).md.noImage = false ∧ (b 1).md.bootStage ≤ 1) ∧ ((b 2).md.bootStage = 2 ∧ (b 2).mem.ready = true) ∧
    ((b 5).md.bootStage = 5 ∧ (b 6).md.bootStage = 6) ∧
    ((b 3).md.bootStage = 3 ∧ (((b 3).advanceTo 2000).notePassed 3 []).chooseSlot.1 = false) ∧
    ((b 7).md.bootStage = 7 ∧ (b 7).image.start = 0 ∧ (b 7).md.deferred = false) ∧
    (({ head .slack with md := { mode := .slack, wakeAt := some 900 } } : State).md.wakeAt = some 900) := by
  refine ⟨by decide +kernel, by decide +kernel, by decide +kernel, by decide +kernel, by decide +kernel, ⟨by decide +kernel, ?_⟩, by decide +kernel⟩
  decide

theorem witness_ModeRequestsActOrAreRefused :
    Open (head .join) ∧ ((head .join).advanceTo 2000).slackReady = true ∧ ((head .paired).advanceTo 2000).slackReady = false ∧
    ((head .slack).md.mode = .slack ∧ (head .slack).md.wakeAt = none) ∧
    ((head .paired).md.mode = .paired ∧ ((head .paired).advanceTo 2000).relaySlot = none) ∧
    ((head .paired).md.mode.canPreserve = true ∧ (head .paired).md.mode.canHoldup = true) ∧
    (({ head .boot with md := { mode := .boot, noImage := true } } : State).md.noImage = true ∧ (head .boot).md.mode = .boot ∧
      (head .boot).md.noImage = false ∧ (head .boot).md.bootStage ≤ 4) ∧
    bits 15 3 0 ∉ [2, 3, 8, 9, 10, 11] := ⟨by unfold Open; decide +kernel, by decide +kernel⟩

theorem witness_WatchdogHoldupAndOverload :
    let o : State := { head .paired with md := { mode := .paired, overload := true } }
    let p : State := { head .preservation with path := { mapChanged := true } }
    Open o ∧ (Ticking (500 * msTicks) o ∧ o.md.mode.canPreserve = true ∧ o.md.mode ≠ .relay ∧ o.md.deferred = false ∧
      o.md.wdog + 500 * msTicks ≤ 500 * msTicks) ∧
    (o.time.running = true ∧ o.md.mode.canHoldup = true) ∧ (head .holdup).md.mode = .holdup ∧
    (Ticking (10 * secondTicks) p ∧ p.md.mode = .preservation ∧ p.path.mapChanged = true ∧
      p.path.ckptTick + 10 * secondTicks ≤ 10 * secondTicks) ∧
    o.md.overload = true ∧ Ticking (129 * 128 * 8192) o ∧ o.md.missWindow + 129 ≤ windowOf (129 * 128 * 8192) := by
  refine ⟨by unfold Open; decide +kernel, ⟨by unfold Ticking; decide +kernel, by decide +kernel⟩, by decide +kernel, by decide +kernel, ⟨by unfold Ticking; decide +kernel, by decide +kernel⟩,
    by decide +kernel, by unfold Ticking; decide +kernel, by decide +kernel⟩

theorem witness_RelayBenchAndKeyFuses :
    Open (head .relay) ∧ ((head .relay).md.mode = .relay ∧ (head .relay).moor.relayHeld = [] ∧ bit 1 1 = false) ∧
    (Ticking (2 * secondTicks) (head .relay) ∧ (head .relay).md.tick + 2 * secondTicks ≤ 2 * secondTicks) ∧
    ((head .bench).md.mode = .bench ∧ (head .bench).md.benchBusy = false ∧ bits 0x001 14 8 < benchTargets (bits 0x001 3 0)) ∧
    ({ head .bench with md := { mode := .bench, benchBusy := true } } : State).md.benchBusy = true ∧
    NMap.has (head .bench).md.enrolled (bits 0x300 9 8) = false ∧ bit 0x0F0 10 = false := by
  refine ⟨head_open.2.2.2.2.1, by decide +kernel, ⟨by unfold Ticking; decide +kernel, by decide +kernel⟩, by decide +kernel⟩

/-- The head with one Ledger bank as given. -/
def withBankA (m : Mode) (b : Bank) : State := { head m with ldg := { bankA := b } }

theorem witness_LedgerRoutinesRunOrAreRefused :
    let s := head .paired
    let run := withBankA .paired { erase := some 9 }
    let susp := withBankA .paired { erase := some 9, suspended := true }
    s.md.mode ≠ .reset ∧
    (0x4000 < ldgSize ∧ (s.advanceTo 2000).progCode 0 (some 0x4000) 32 = 0 ∧ inMemory 0x200000000 32 = true ∧
      (s.advanceTo 2000).poisonedIn 0x200000000 32 = none ∧ s.ldg.vppLow = false ∧ (s.bank (ldgBank 0x4000)).erase = none) ∧
    ((s.advanceTo 2000).progCode 0 (some 0x4001) 32 = 3 ∧ 3 ≠ 0) ∧
    (ldgSize - 1 < ldgSize ∧ (s.advanceTo 2000).eraseCode (some (ldgSize - 1)) = 0) ∧
    (0 < 2 ∧ s.md.mode ≠ .slack ∧ s.md.mode ≠ .locked ∧ s.md.mode ≠ .holdup ∧ (run.bank 0).prog = none ∧ (run.bank 0).held = none ∧
      (run.bank 0).erase = some 9 ∧ (run.bank 0).suspended = false ∧ run.md.mode.guardsErase = false) ∧
    ((susp.bank 0).erase = some 9 ∧ (susp.bank 0).suspended = true) ∧
    ((s.bank (ringBank s.rcdr.ringSector)).prog = none ∧ (s.bank (ringBank s.rcdr.ringSector)).held = none ∧ 0 < 32 ∧ 32 ≤ 4096 ∧
      32 % 32 = 0) := by
  refine ⟨by decide +kernel, ?_, ?_, by decide +kernel, by decide +kernel, by decide +kernel, by decide +kernel⟩ <;> decide +kernel

theorem witness_LedgerOperationsEnd :
    let p : LdgProg := { addr := 0x4000, bytes := padBytes 32 0, asker := 0, retried := false, resume := false }
    let q : WinSeq := { step := 4, bank := 0, last := 1000, op := 0x80, lines := 0, addr := 0, data := [] }
    let s : State := { head .paired with ldg := { seq := some q, bankA := { prog := some p }, bankB := { erase := some 9 } } }
    let e : State := { head .paired with ldg := { seq := some q } }
    let h : State := withBankA .paired { erase := some 9, held := some (0, none) }
    (0x0A0A < ldgSize ∧ 0x0A0A % 0x2000000 = 0x0A0A ∧ (head .paired).ldg.seq = none) ∧
    (¬ (([0, 0] : List Byte).length = 2 ∧ 0x0A0A % 0x2000000 = 0x0A0A ∧ leNat [0, 0] = 0xC1A5)) ∧
    (Ticking 2000 e ∧ 0x4000 < ldgSize ∧ q.bank = ldgBank 0x4000 ∧ q.step = 4 ∧ q.op = 0x80 ∧ 2000 ≤ q.last + msTicks ∧
      (e.advanceTo 2000).eraseCode (some 0x4000) = 0 ∧ e.ldg.vppLow = false) ∧
    (Ticking (1001 + msTicks) s ∧ q.last + msTicks < 1001 + msTicks) ∧
    ((s.bank 0).prog = some p ∧ p.retried = false) ∧
    ((s.bank 1).erase = some 9 ∧ (s.bank 1).suspended = false ∧ (s.bank 1).retried = false) ∧
    (Ticking minRun h ∧ (h.bank 0).held = some (0, none) ∧ (h.bank 0).runFrom + minRun ≤ minRun) ∧
    (Ticking (10000 * msTicks) s ∧ (s.bank 1).aged = false ∧ (s.bank 1).eraseStart + 10000 * msTicks ≤ 10000 * msTicks) := by
  refine ⟨by decide +kernel, by decide +kernel, ⟨by unfold Ticking; decide +kernel, by decide +kernel⟩, ⟨by unfold Ticking; decide +kernel, by decide +kernel⟩, by decide +kernel, by decide +kernel,
    ⟨by unfold Ticking; decide +kernel, by decide +kernel⟩, by unfold Ticking; decide +kernel, by decide +kernel⟩

theorem witness_KeyLockAndKeyCommands :
    let gcm : Slot := { slot with gcm := true, refs := 0, limit := 2 ^ 32 }
    let s (m : Mode) : State := { head m with
      ciph := { lock := 1, keys := [(0, 1)], limset := 5, slots := [(5, gcm)] }, regs := { path := [(pathKey .core Reg.CIPH_KSEL, 6)] } }
    let r : State := { head .sole with ciph := { lock := 1, limset := 5, slots := [(5, gcm)] }, regs := { path := [(pathKey .core Reg.CIPH_KSEL, 5)] } }
    (Open (head .sole) ∧ (head .sole).ciph.lock = 0 ∧ Origin.spi ≠ .inband) ∧
    ((s .sole).ciph.lock ≠ 0 ∧ (s .sole).ownsLock .core = true ∧ (s .sole).ownsLock .spi = false) ∧
    (Ticking (256 * msTicks) (s .sole) ∧ (s .sole).ciph.lockTick + (s .sole).regField Reg.CIPH_CTRL 7 0 * msTicks ≤ 256 * msTicks) ∧
    (Open (s .sole) ∧ When.allows .keyCommand (s .sole).md.mode = true ∧ (s .sole).md.mode.noKeys = false ∧ (s .sole).ciph.busy = false) ∧
    ((s .sole).keyCode (ownerClass .core) 6 1 = 0 ∧ (s .sole).mirrors = false) ∧
    ((s .paired).keyCode (ownerClass .core) 6 1 = 0 ∧ (s .paired).mirrors = true) ∧
    ((s .sole).keyCode (ownerClass .core) 6 2 = 0 ∧ bits ((s .sole).pathReg .core Reg.CIPH_KSEL) 12 0 = 6) ∧
    (r.keyCode (ownerClass .core) 5 2 ≠ 0 ∧ bits (r.pathReg .core Reg.CIPH_KSEL) 12 0 = 5) ∧
    (r.keyCode (ownerClass .core) 5 3 = 0 ∧ NMap.find r.ciph.slots 5 = some gcm ∧ gcm.gcm = true) ∧
    r.keyCode (ownerClass .core) 5 4 = 0 := by
  refine ⟨⟨head_open.2.1, by decide +kernel⟩, by decide +kernel, ⟨by unfold Ticking; decide +kernel, by decide +kernel⟩, ⟨head_open.2.1, by decide +kernel⟩, by decide +kernel⟩

/-- A head whose DMA runs, with channel 0 enabled, free-running, on a window over the SRAM, and a ring of one descriptor there. -/
def dmaHead (cur : Option (List Byte × Nat × Nat)) : State :=
  { head .paired with
    regs := { vals := NMap.put [(Reg.HDMA_GCTL, 1)] (chReg Reg.HDMA_CCTRL0 0) 0x00060007 }
    mem := { sramDone := true, hbmDone := true, ready := true,
             cells := Memory.writeBytes 0 [] 0x200000000 (leBytes 4 1 ++ leBytes 4 256 ++ leBytes 8 0x1000 ++ leBytes 8 0x2000) }
    dma := { chans := [(0, { stopped := false, idle := false, cur := cur })],
             wins := [(0, { en := true, rd := true, wr := true, base := 0, lim := 0x10000, tgt := 0x200000000 })] } }

def descBytes : List Byte := leBytes 4 1 ++ leBytes 4 256 ++ leBytes 8 0x1000 ++ leBytes 8 0x2000 ++ leBytes 8 0

theorem witness_DmaMovesBurstsAndHalts :
    let s := dmaHead (some (descBytes, 0, 0))
    let f := dmaHead none
    let h : State := { head .paired with dma := { halted := true } }
    ((s.advanceTo 2000).nextChannel = some 0 ∧ (s.chan 0).cur = some (descBytes, 0, 0) ∧
      (let d := readDesc descBytes
       let n := burstLen (s.chBurst 0) d.len d.src d.dst 0
       0 + n < d.len ∧ s.translate (d.src + 0) n false = .at_ 0x200001000 ∧ inMemory 0x200001000 n = true ∧
        s.poisonedIn 0x200001000 n = none ∧ s.translate (d.dst + 0) n true = .at_ 0x200002000 ∧ inMemory 0x200002000 n = true)) ∧
    ((f.advanceTo 2000).mayFetch 0 = true ∧ f.translate (f.ringBase 0 + 32 * (f.chead 0 % f.ringSize 0)) 32 false = .at_ 0x200000000 ∧
      inMemory 0x200000000 32 = true ∧ f.poisonedIn 0x200000000 32 = none ∧ (readDesc (f.memBytes 0x200000000 32)).own = true ∧
      (readDesc (f.memBytes 0x200000000 32)).bad = false) ∧
    (s.dmaRuns = true ∧ bit (s.reg Reg.ATPU_MSTATUS) 0 = false) ∧
    (Open h ∧ h.dma.halted = true ∧ bit (h.reg Reg.ATPU_MSTATUS) 0 = false) ∧
    (Open f ∧ 0 < 32 ∧ (1 : Word) = BitVec.ofNat 32 (2 ^ 0) ∧ f.dmaRuns = true ∧ f.chEn 0 = true ∧ (f.chan 0).stopped = false ∧
      (f.chan 0).cur = none ∧ f.dma.halted = false) ∧
    (s.chEn 0 = true ∧ s.chEn 31 = false ∧ bit 4 2 = true) := by
  refine ⟨?_, ?_, by decide +kernel, ⟨head_open.1, by decide +kernel⟩, ⟨head_open.1, by decide +kernel⟩, by decide +kernel⟩ <;>
    decide +kernel

/-- A head with pool 0 as given and owner 1. -/
def poolHead (x : Pool) (o : Owner) : State :=
  { head .paired with mem := { sramDone := true, hbmDone := true, ready := true, pools := [(0, x)], owners := [(1, o)] } }

def pool (stack : List Nat) (chains : List (List Nat)) : Pool :=
  { size := 512, base := 0x1000000000, span := 16, total := 16, stack := stack, chains := chains, refills := 0, spills := 0, lostChain := [] }

theorem witness_ScrubAndBufferPools :
    let a := 0x1000000200
    let s := { poolHead (pool [a] [[], []]) {} with regs := { path := [(pathKey .spi Reg.POOL_REQOWN, 1)] } }
    let z := { poolHead (pool [] [[], []]) {} with regs := { path := [(pathKey .spi Reg.POOL_REQOWN, 1)] } }
    let q := { poolHead (pool [a] [[], []]) { use := 1, quota := 1, floor := 0 } with regs := { path := [(pathKey .spi Reg.POOL_REQOWN, 1)] } }
    let l := { poolHead (pool [] [[a], []]) {} with regs := { path := [(pathKey .spi Reg.POOL_REQOWN, 1)] } }
    let b : Buf := { owner := 1, state := 1, tick := 0, pool := 0 }
    let g : State := { head .paired with
      mem := { sramDone := true, hbmDone := true, ready := true, pools := [(0, pool [] [[], []])], owners := [(1, { use := 1 })], bufs := [(a, b)] }
      regs := { staged := [(pathKey .spi Reg.POOL_FREE_LO, 0x200)] } }
    let rf := (poolHead { pool [] [[a], []] with refills := 1 } {}).linkChain 0 0 [a]
    let sp := poolHead { pool [a] [[], []] with spills := 1, lostChain := [a] } {}
    (inSram 0x200000000 = true ∧ s.mem.sramDone = true ∧ inHbm 0x200000000 = false ∧ inHbm a = true ∧ s.mem.hbmDone = true ∧
      2 ≤ 2 ∧ s.mem.poison.contains (a / 64) = false ∧ s.mem.rewritten.contains (a / 64) = false ∧ s.carveOf a = none) ∧
    (Open s ∧ bits 512 20 0 = 512 ∧ bits (s.pathReg .spi Reg.POOL_REQOWN) 15 0 = 1 ∧ poolFor 512 = 0 ∧ 512 ≠ 0 ∧ 512 ≤ 1048576 ∧
      ownerValid 1 = true ∧ ¬ ((0 : Nat) ≠ 0 ∧ 0 ≤ 1048576 ∧ ownerValid 1 = true)) ∧
    (NMap.find z.mem.pools 0 = some (pool [] [[], []]) ∧ (pool [] [[], []]).free = 0 ∧ bit 512 21 = false) ∧
    (NMap.find q.mem.pools 0 = some (pool [a] [[], []]) ∧ (pool [a] [[], []]).free ≠ 0 ∧ (q.owner 1).quota < (q.owner 1).use + 512 / 512) ∧
    ((s.owner 1).use + 512 / 512 ≤ (s.owner 1).quota ∧ 512 / 512 + s.floorsOwed 1 ≤ s.freeUnits) ∧
    (NMap.find l.mem.pools 0 = some (pool [] [[a], []]) ∧ (pool [] [[a], []]).free ≠ 0 ∧ (l.owner 1).use + 512 / 512 ≤ (l.owner 1).quota ∧
      512 / 512 + l.floorsOwed 1 ≤ l.freeUnits) ∧
    (Open g ∧ (g.staged .spi Reg.POOL_FREE_LO).toNat + bits 0x00010010 7 0 * 2 ^ 32 = a ∧ bits 0x00010010 31 16 = 1 ∧
      g.freeCause a 1 = none ∧ NMap.find g.mem.bufs a = some b ∧ g.mem.waiting = [] ∧
      g.onRetiredPage a (poolSizes.getD b.pool 0) = false ∧ ({ g with mem := { g.mem with retiredPages := [a / 4096] } } : State).onRetiredPage a
        (poolSizes.getD b.pool 0) = true ∧ g.freeCause a 2 = some 2) ∧
    (NMap.find rf.mem.pools 0 = some { pool [] [[a], []] with refills := 1 } ∧ rf.mem.waiting = [] ∧
      (∀ x ∈ ([a].take 1024), rf.listedOk 0 { pool [] [[a], []] with refills := 1 } x = true)) ∧
    (NMap.find sp.mem.pools 0 = some { pool [a] [[], []] with spills := 1, lostChain := [a] } ∧
      ({ pool [a] [[], []] with spills := 1, lostChain := [a] } : Pool).shortest < 2) ∧
    (Ticking secondTicks s ∧ s.mem.ready = true ∧ s.mem.sweepTick + secondTicks ≤ secondTicks) ∧
    (Open q ∧ When.allows .live q.md.mode = true ∧ ((q.owner 1).floor ≤ (5 : Word).toNat)) ∧
    ((poolHead (pool [] []) { floor := 6 }).owner 1).floor > (5 : Word).toNat := by
  refine ⟨by decide +kernel, ⟨head_open.1, by decide +kernel⟩, by decide +kernel, by decide +kernel, by decide +kernel, by decide +kernel,
    ⟨head_open.1, by decide +kernel⟩, by decide +kernel, by decide +kernel, ⟨by unfold Ticking; decide +kernel, by decide +kernel⟩, ⟨head_open.1, by decide +kernel⟩, by decide +kernel⟩

def desc : LinkDesc := { peer := 9, nsid := 1, keyid := 6, rtrip := 0, pairId := 2, linkid := 3 }

def target (st : Nat) : Target :=
  { desc := desc, state := st, setSeq := 0, base := none, cur := none, from_ := 0, fseq := 1, flight := [], commitSeq := 0, marked := [],
    lastCommit := 0, lastTry := none }

def link (sync : Bool) (st : Nat) : Link :=
  { vol := 0, sync := sync, interval := 60, home := true, targets := [(0, target st)], setSeq := 0, lastTick := 0, cmd := none }

/-- A head with links, and a session of a remote array where one is up. -/
def linkHead (m : Mode) (links : NMap Link) (peer : Bool) : State :=
  { head m with
    idm := { sessions := if peer then [(0, session 0), (1, session 2)] else [(0, session 0)] }
    repl := { links := links } }

/-- C2h of link 3: synchronous or with an interval of 60 s. -/
def c2 (sync : Bool) : Sqe := { entry 0xC2 1 with dw10 := if sync then 0x00030010 else 0x00030000, dw11 := 60 }

theorem c2_runs (a : Nat) (links : NMap Link) (peer : Bool) (m : Mode) (h : m = .paired ∨ m = .sole) :
    Runs 1 (withC2Action a (c2 false)) (linkHead m links peer) := by
  rcases h with rfl | rfl
  · exact ⟨⟨rfl, 16384, cq 0 0, rfl, rfl, rfl, rfl, rfl, rfl⟩, nofun, rfl, head_settled.1⟩
  · exact ⟨⟨rfl, 16384, cq 0 0, rfl, rfl, rfl, rfl, rfl, rfl⟩, nofun, rfl, head_settled.2⟩

theorem witness_ReplicationLinksAreControlled :
    let e := c2 false
    let n := linkHead .sole [] true
    let y := fun (s : State) a => (s.advanceTo 2000).fetched 1 0 (withC2Action a e)
    let k := linkHead .sole [(3, link false 3)] true
    let q := linkHead .sole [(3, link false 3)] false
    let z := linkHead .sole [(3, link true 0)] true
    c2Action e ≤ 7 ∧
    (Runs 1 (withC2Action 0 e) n ∧ (y n 0).featureNs e.nsid = some ns ∧
      ((y n 0).repl.links.filter (fun p => decide (p.1 < 128) && (decide (p.1 < 64) == ns.home))).length < 64 ∧
      c2Link (withC2Action 0 e) < 128 ∧ decide (c2Link (withC2Action 0 e) < 64) = ns.home ∧
      NMap.find (y n 0).repl.links (c2Link (withC2Action 0 e)) = none ∧ (y n 0).moor.commits = [] ∧
      (y n 0).isSource (volOf e.nsid) = false ∧ ns.replica = none ∧ c2Sync (withC2Action 0 e) = false ∧
      1 ≤ c2Interval (withC2Action 0 e) ∧ c2Interval (withC2Action 0 e) ≤ 86400 ∧ desc.keyid ≠ 0 ∧
      NMap.find (y n 0).ciph.slots (keySlot desc.keyid false) = none ∧
      (∃ p ∈ (y n 0).idm.sessions, p.2.purpose = 2 ∧ p.2.source = desc.peer ∧ p.2.state ≠ 3) ∧ (y n 0).mirrors = false ∧
      (y (linkHead .paired [] true) 0).mirrors = true) ∧
    (Runs 1 (withC2Action 1 e) k ∧ (y k 1).featureNs e.nsid = some ns ∧ (y k 1).linkOf (withC2Action 1 e) = some (link false 3) ∧
      (y n 1).linkOf (withC2Action 1 e) = none) ∧
    (Runs 1 (withC2Action 2 e) k ∧ (link false 3).targets.length < 4 ∧ (y k 2).linkOf (withC2Action 2 e) = some (link false 3) ∧
      NMap.find (y k 2).ciph.slots (keySlot desc.keyid false) = none ∧
      (∃ p ∈ (y k 2).idm.sessions, p.2.purpose = 2 ∧ p.2.source = desc.peer ∧ p.2.state ≠ 3) ∧
      firstFree 0 4 (fun j => NMap.has (link false 3).targets j) = some 1) ∧
    (Runs 1 (withC2Action 3 e) k ∧ (y k 3).linkOf (withC2Action 3 e) = some (link false 3) ∧
      NMap.has (link false 3).targets (c2Target (withC2Action 3 e)) = true) ∧
    (Runs 1 (withC2Action 4 e) n ∧ (y n 4).featureNs e.nsid = some ns ∧ (y n 4).isSource (volOf e.nsid) = false) ∧
    (Runs 1 (withC2Action 5 e) q ∧ (y q 5).linkOf (withC2Action 5 e) = some (link false 3) ∧ (link false 3).busy = false ∧
      (∀ p ∈ (y q 5).idm.sessions, p.2.purpose ≠ 2) ∧ (y q 5).ns? 0 = some ns ∧ firstFree 0 1024 (NMap.has ns.snaps) = some 0 ∧
      (y z 5).linkOf (withC2Action 5 e) = some (link true 0) ∧ (link true 0).sync = true) ∧
    (Runs 1 (withC2Action 6 e) k ∧ NMap.find (y k 6).repl.links (c2Link (withC2Action 6 e)) = some (link false 3)) ∧
    (Runs 1 (withC2Action 7 { e with nsid := 0 }) k) := by
  have r := fun a links peer => c2_runs a links peer .sole (Or.inr rfl)
  refine ⟨by decide +kernel, ⟨r _ _ _, by decide +kernel⟩, ⟨r _ _ _, by decide +kernel⟩, ⟨r _ _ _, by decide +kernel⟩,
    ⟨r _ _ _, by decide +kernel⟩, ⟨r _ _ _, by decide +kernel⟩, ⟨r _ _ _, by decide +kernel⟩, ⟨r _ _ _, by decide +kernel⟩, ?_⟩
  exact ⟨⟨rfl, 16384, cq 0 0, rfl, rfl, rfl, rfl, rfl, rfl⟩, nofun, rfl, head_settled.2⟩

def frame (kind : Nat) : ReplFrame :=
  { kind := kind, comp := false, sample := false, sync := false, plen := 0, tvol := 0, grain := 0, atick := 500, guard := 0, apptag := 0,
    geom := 0, setseq := 1, fseq := 4, result := 0, payload := [] }

/-- Grain 0 of a write of one grain, not formed yet. -/
def grainOp : GrainOp :=
  { grain := 0, mask := 15, kind := 0, plain := [], apptag := 0, formed := false, check := { guard := 0, reftag := 0, wgen := 1 },
    fingerprint := 0, dedup := .skip, policy := 0, ddPolicy := 0, lane := .waiting, geom := 0, ciphered := false, payload := [],
    record := none, place := none, sealedAt := none, ackAt := none, receipt := false, failed := false }

/-- A write in flight of grain 0 of volume 0. -/
def writeOp (acc : Option Nat) : WriteOp :=
  { seq := 3, cntl := 1, qid := 1, dqn := 1, cid := 7, kind := opWrite, vol := 0, slba := 0, nlb := 4, resv := none, d := 250, fetch := 900,
    adm := 950, pushed := false, acc := acc, sepoch := 0, cmd := entry opWrite 1, grains := [grainOp], slack := 0, syncWait := [], syncGot := [],
    syncMiss := [], nonceOut := false }

theorem witness_ReplicationFramesSetsAndTargets :
    let rns : Ns := { ns with replica := some (2, 3) }
    let s : State := { linkHead .sole [] true with nvq := { (head .sole).nvq with ns := [(0, rns)] } }
    let f : Target := { target 0 with flight := [(4, none, 0)] }
    let l : Link := { link true 0 with targets := [(0, f)] }
    let w : WriteOp := { writeOp (some 900) with resv := some 0, d := 0, syncWait := [0] }
    let d : State := { linkHead .paired [(3, link true 0)] true with adm := { writes := [w] } }
    let a := linkHead .sole [(3, link false 3)] false
    let o := linkHead .sole [(3, link true 1)] true
    (s.session? 1 = some (session 2) ∧ (session 2).purpose = 2 ∧ (session 2).state = 2 ∧ s.md.mode.admits = true ∧ s.moor.fenced = false ∧
      1 ≤ (frame 2).kind ∧ (frame 2).kind ≤ 3 ∧ s.frameResult (frame 2) (framePlain (frame 2)) = 0 ∧ (linkHead .sole [] true).frameResult (frame 2) (framePlain (frame 2)) ≠ 0 ∧
      (frame 4).kind = 4 ∧ s.ns? (frame 4).tvol = some rns ∧ rns.replica.isSome = true ∧ rns.served = true ∧ s.adm.writes = []) ∧
    (NMap.find (linkHead .sole [(3, l)] true).repl.links 3 = some l ∧ (linkHead .sole [(3, l)] true).target? 3 0 = some f ∧
      f.flight.find? (fun y => y.1 == (frame 2).fseq) = some ((frame 2).fseq, none, 0) ∧ (frame 2).result = 0 ∧ (frame 2).fseq ≠ f.commitSeq) ∧
    (Ticking 2000 d ∧ d.write? 3 = some w ∧ w.resv.isSome = true ∧ 0 ∈ w.syncWait ∧ w.deadline ≤ 2000 ∧
      d.repl.links.find? (fun p => decide (p.2.vol = w.vol) && p.2.sync && p.2.home) = some (3, link true 0) ∧
      d.target? 3 0 = some (target 0) ∧ (∀ v ∈ d.adm.writes, v.durable (d.needsAck v) = false)) ∧
    (Ticking (60 * secondTicks) a ∧ NMap.find a.repl.links 3 = some (link false 3) ∧ a.md.mode.admits = true ∧ a.md.overload = false ∧
      (link false 3).lastTick + (link false 3).interval * secondTicks ≤ 60 * secondTicks ∧ (link false 3).busy = false ∧
      a.ns? (link false 3).vol = some ns ∧ firstFree 0 1024 (NMap.has ns.snaps) = some 0 ∧ (∀ p ∈ a.idm.sessions, p.2.purpose ≠ 2)) ∧
    (Ticking secondTicks o ∧ NMap.find o.repl.links 3 = some (link true 1) ∧ o.target? 3 0 = some (target 1) ∧ (target 1).state = 1 ∧
      (target 1).lastTry = none ∧ (target 1).cur = none ∧
      (∃ p ∈ o.idm.sessions, p.2.purpose = 2 ∧ p.2.source = (target 1).desc.peer ∧ p.2.state = 2) ∧ o.ns? (link true 1).vol = some ns) := by
  refine ⟨by decide +kernel, by decide +kernel, ⟨by unfold Ticking; decide +kernel, by decide +kernel⟩,
    ⟨by unfold Ticking; decide +kernel, by decide +kernel⟩, by unfold Ticking; decide +kernel, by decide +kernel⟩

theorem witness_PodsChooseTheirMaster :
    let s : State := { head .sole with image := { podPairs := [0, 1, 2], podSelf := 2, podDesignated := 4, podOrder := [4, 2, 0] } }
    let m : State := { s with repl := { master := some 4, heard := [(0, 999000000)] } }
    let l : State := { s with repl := { master := some 4 } }
    Ticking 1000000000 s ∧ s.inPod = true ∧ s.md.mode.frontEnd = true ∧ s.repl.sentTick = none ∧ s.moor.fenced = false ∧
    (0 < ({ s with repl := { podEpoch := 1 } } : State).repl.podEpoch ∧ s.repl.podEpoch ≤ 0 ∧ s.image.podSelf ≠ s.image.podDesignated) ∧
    (l.repl.master = some 4 ∧ 4 / 2 ≠ l.image.podSelf / 2 ∧ (l.advanceTo 1000000000).heardDevice 4 = false ∧
      (l.advanceTo 1000000000).heardDevice (4 / 2 * 2 + (1 - 4 % 2)) = false ∧
      2 * (l.advanceTo 1000000000).reachable.length ≤ l.image.podPairs.length) ∧
    ((m.advanceTo 1000000000).heardDevice 4 = false ∧ (m.advanceTo 1000000000).heardDevice 5 = false ∧
      m.image.podPairs.length < 2 * (m.advanceTo 1000000000).reachable.length ∧
      (m.advanceTo 1000000000).successor 4 = some m.image.podSelf) ∧
    (255 < 256 ∧ s.image.podPairs.contains 2 = true ∧ s.holder 255 ≠ 2) :=
  ⟨by unfold Ticking; decide +kernel, by decide +kernel⟩

def beacon (m : Nat) : Beacon :=
  let b : Beacon := { magic := 0xB3AC, ver := 1, hm := BitVec.ofNat 8 (16 * m), flags := 1, pairId := 0, epoch := 0, bseq := 8, stick := 1900,
                      ackseq := 3, rtick := 0, crc := 0 }
  { b with crc := crc32c (beaconBody b) }

def claim (kind : Byte) : Claim :=
  let c : Claim := { pairId := 0, epoch := 0, head := 0, kind := kind, stick := 900, cseq := 2, crc := 0 }
  { c with crc := crc32c (claimBody c) }

theorem witness_BeaconsLeaseAndPaths :
    let s : State := { head .paired with moor := { dx := { alive := true }, bp := { advanced := true, goodRun := 8 }, claim := some (claim 1),
                                                   sticks := [(3, 800)], beaconTick := some 1000 },
                                         faults := { lanes := [(16, 2)] } }
    (Ticking (1000 + s.period) s ∧ s.md.mode.beacons = true ∧ s.moor.fenced = false ∧ s.moor.beaconTick = some 1000) ∧
    (s.md.mode = .paired ∧ s.frameOk (beacon 4) = true ∧ (beacon 4).epoch.toNat = s.moor.epoch ∧
      (s.advanceTo 2000).stickOk (beacon 4) = true ∧ s.moor.rxSeq = none) ∧
    (s.frameOk { beacon 4 with magic := 0 } = false) ∧
    (Ticking (s.missLimit * s.period) s ∧ (s.moor.path true).alive = true ∧
      (s.moor.path true).lastAdv + s.missLimit * s.period ≤ s.missLimit * s.period ∧ (s.moor.path false).alive = false ∧
      (s.moor.path false).checkTick + s.period ≤ s.missLimit * s.period ∧ (s.moor.path false).advanced = true ∧
      s.missLimit ≤ (s.moor.path false).goodRun + 1) ∧
    (Ticking (60 * secondTicks) (head .join) ∧ ((head .join).moor.path true).alive = false ∧
      ((head .join).moor.path true).loopTick + 60 * secondTicks ≤ 60 * secondTicks) ∧
    (s.moor.claim = some (claim 1) ∧ (claim 0x81).pairId = (claim 1).pairId ∧ (claim 0x81).cseq = (claim 1).cseq ∧
      (claim 0x81).crc = crc32c (claimBody (claim 0x81)) ∧ (claim 0x81).kind = 0x81 ∧ (claim 0x82).kind = 0x82 ∧
      (claim 0x82).crc = crc32c (claimBody (claim 0x82))) ∧
    (Ticking 2000 s ∧ s.md.mode ≠ .preservation ∧ s.decuxUp = true ∧ s.md.deferred = false) := by
  refine ⟨⟨by unfold Ticking; decide +kernel, by decide +kernel⟩, by decide +kernel, by decide +kernel,
    ⟨by unfold Ticking; decide +kernel, by decide +kernel⟩, ⟨by unfold Ticking; decide +kernel, by decide +kernel⟩, by decide +kernel,
    by unfold Ticking; decide +kernel, by decide +kernel⟩

theorem witness_VotersTakeoverAndSwitch :
    let v : Voter := { ok := true, calTick := some 900 }
    let s (own p : Nat) : State := { head .paired with moor := { voters := [v, v, v], eOwn := own, eP := p, announce := some (0, 1, true) } }
    let w : State := { head .handback with moor := { resync := some { stage := 2, start := 0, drainFrom := 0, sent := 0, full := false, out := [] },
                                                     gotGrant := true } }
    let x : State := { head .join with moor := { w.moor with gotGrant := false } }
    let j : State := { head .join with moor := { pmode := 7, granted := true, gotGrant := true, sync := true } }
    let b : Band := { st := .mirror, slot := 0, k := 1, m := 0, members := [0], dense := false, subs := [], sealedBand := false,
                      refresh := false, victim := false }
    let st : Stripe := { st := .mirror, band := 0, idx := 0, bytes := 65536, closed := true, closeTick := 0, transferred := [0],
                         programmed := [0], sealedAt := some 900, oldestParity := 0, dense := none, migrated := 0, skipped := [] }
    let r : State := { head .paired with path := { bands := [(0, b)], stripes := [st] } }
    ((s 0 0).md.mode = .paired ∧ (s 0 0).moor.evalTick = none ∧ (s 0 0).moor.voters = [v, v, v] ∧ v.ok = true ∧ v.tideFail = false ∧
      ((s 0 (10 * secondTicks)).advanceTo 2000).fenceDue = true ∧ (s 0 0).moor.relayHeld = [] ∧
      ((s secondTicks 0).advanceTo 2000000).fenceDue = false ∧ ((s secondTicks 0).advanceTo 2000000).lostDue = true ∧
      ((s secondTicks 0).advanceTo 1999999).lostDue = false) ∧
    (Ticking 2000 (s 0 0) ∧ (s 0 0).moor.voters[2]? = some v ∧ (s 0 0).md.mode.beacons = true ∧ v.calTick = some 900) ∧
    (head .takeover).md.mode = .takeover ∧
    (Ticking (2 * secondTicks) (s 0 0) ∧ (s 0 0).moor.announce = some (0, 1, true) ∧ 0 + (1 + 1) * secondTicks ≤ 2 * secondTicks ∧
      (s 0 0).moor.fenced = false) ∧
    (Open (s 0 0) ∧ bit 1 1 = false ∧ bit 2 0 = false ∧ Open j ∧ j.md.mode = .join) ∧
    (w.switchReady = true ∧ w.md.mode = .handback ∧ w.moor.gotGrant = true ∧ x.switchReady = true ∧ x.md.mode = .join) ∧
    (j.md.mode = .join ∧ j.moor.resync = none ∧ j.exchange = true ∧ j.moor.pmode = 7 ∧ j.moor.granted = true ∧ j.moor.gotGrant = true ∧
      j.moor.rejoin = []) ∧
    (Ticking 2000 r ∧ r.md.mode.backgroundRuns = true ∧ r.moor.readbackTick = none ∧
      (NMap.find r.path.bands 0).any (fun b => b.st == .mirror && !b.dense) = true ∧
      (r.stripe? 0 0).any (fun x => x.sealedAt.isSome) = true ∧ r.path.stored = []) := by
  refine ⟨by decide +kernel, ⟨by unfold Ticking; decide +kernel, by decide +kernel⟩, by decide +kernel,
    ⟨by unfold Ticking; decide +kernel, by decide +kernel⟩, ⟨by unfold Open; decide +kernel, by decide +kernel, by decide +kernel,
    by unfold Open; decide +kernel, by decide +kernel⟩, by decide +kernel, by decide +kernel, by unfold Ticking; decide +kernel, by decide +kernel⟩

theorem witness_IoQueuesAreMadeAndDeleted :
    let s := head .paired
    let y := fun (s : State) e => (s.advanceTo 2000).fetched 1 0 e
    let a := { entry 5 0 with dw10 := 0x000F0002, dw11 := 1 }
    let n : State := { s with nvq := { s.nvq with cqs := [(1, cq 1 1), (2, cq 2 2), (16384, cq 0 0)] } }
    let b := { entry 1 0 with dw10 := 0x000F0002, dw11 := 0x00020001 }
    let d := { entry 0 0 with dw10 := 1 }
    let o : Ctrl := { ctrl with outstanding := [(1, entry opRead 1, 900)] }
    let t : State := { s with nvq := { s.nvq with ctrls := [(1, o)] } }
    (Runs 1 a s ∧ (y s a).cqKey 1 (qidOf a) = none ∧ (y s a).qidAllowed 1 (qidOf a) = true ∧ qsizeOf a ≤ 65535 ∧ qpcOf a = true ∧
      loneKey 1 (qidOf a) ≠ adminKey 1) ∧
    (Runs 1 b n ∧ cqidOf b = qidOf b ∧ qidOf b ≠ 0 ∧ (y n b).cqKey 1 (qidOf b) = some 2 ∧ (y n b).queueKey 1 (qidOf b) = none ∧
      (y n b).qidAllowed 1 (qidOf b) = true ∧ qsizeOf b ≤ 65535 ∧ qpcOf b = true ∧ (if 2 < 16384 then some 2 else (y n b).freeDqn) = some 2 ∧
      NMap.find (y n b).nvq.cqs 2 = some (cq 2 2) ∧ 2 ≠ adminKey 1) ∧
    (Runs 1 d s ∧ qidOf d ≠ 0 ∧ (y s d).queueKey 1 (qidOf d) = some 1 ∧ NMap.find (y s d).nvq.sqs 1 = some (sq 1 1) ∧ (sq 1 1).cntl = 1 ∧
      (sq 1 1).qid = qidOf d ∧ 1 ≠ adminKey 1 ∧ (∀ h ∈ (y s d).adm.held, h.dqn ≠ 1) ∧
      (∃ c, NMap.find (y s d).nvq.ctrls 1 = some c ∧ (∀ x ∈ c.outstanding, x.1 = 0 ∨ x.2.1.opcode ≠ 0) ∧ (∀ x ∈ c.outstanding, x.1 ≠ qidOf d)) ∧
      (y s d).resvOf 1 = none) ∧
    (Runs 1 d t ∧ ∃ c, NMap.find (y t d).nvq.ctrls 1 = some c ∧ (∀ x ∈ c.outstanding, x.1 = 0 ∨ x.2.1.opcode ≠ 0) ∧
      (∃ x ∈ c.outstanding, x.1 = qidOf d)) ∧
    ((y s d).cqKey 1 (qidOf d) = some 1 ∧ (y s d).queueKey 1 (qidOf d) ≠ none ∧ (y n b).cqKey 1 (qidOf b) = some 2) := by
  refine ⟨⟨head_runs 5 0 |>.1, by decide +kernel⟩, ⟨?_, by decide +kernel⟩, ⟨head_runs 0 0 |>.1, by decide +kernel, by decide +kernel,
    by decide +kernel, by decide +kernel, by decide +kernel, by decide +kernel, by decide +kernel, ⟨_, rfl, by decide +kernel⟩, by decide +kernel⟩,
    ⟨?_, _, rfl, by decide +kernel⟩, by decide +kernel⟩
  · exact ⟨⟨rfl, 16384, cq 0 0, by decide +kernel⟩, by decide +kernel, rfl, by unfold Settled; decide +kernel⟩
  · exact ⟨⟨rfl, 16384, cq 0 0, by decide +kernel⟩, by decide +kernel, rfl, by unfold Settled; decide +kernel⟩

theorem witness_LogsIdentifyAbortAndEvents :
    let s := head .paired
    let y := fun (s : State) e => (s.advanceTo 2000).fetched 1 0 e
    let l := { entry 2 0 with dw10 := 0x000000C3 }
    let i := { entry 6 1 with dw10 := 0 }
    let a := { entry 8 0 with dw10 := 0x00050001 }
    let h : Held := { cntl := 1, qid := 1, dqn := 1, cmd := { entry opWrite 1 with cid := 5 }, ranges := [], hostData := [], resv := none,
                      fetch := 900, hold := 950, forCredit := false }
    let g : State := { s with adm := { held := [h] } }
    let f : State := { s with nvq := { s.nvq with ctrls := [(1, { ctrl with aers := [1, 2, 3, 4] })] } }
    let n : State := { s with nvq := { s.nvq with ctrls := [(1, { ctrl with notices := [0xC20102] })] } }
    (Runs 1 l s ∧ (∃ d, (y s l).logPage (bits l.dw10 7 0) = some d ∧ l.dw12.toNat + l.dw13.toNat * 2 ^ 32 ≤ d.length) ∧
      (l.dw12.toNat + l.dw13.toNat * 2 ^ 32) % 4 = 0 ∧ ∃ x, (y s l).session? ((y s l).ctrlSession 1) = some x) ∧
    (Runs 1 i s ∧ bits i.dw10 7 0 ∈ [0x00, 0x01, 0x02, 0x03, 0x10, 0x11, 0x12, 0x13] ∧
      ((y s i).identifyData 1 (bits i.dw10 7 0) i.nsid).isSome = true) ∧
    (Runs 1 a g ∧ (∃ c, NMap.find (y g a).nvq.ctrls 1 = some c ∧ (c.abortTick ≠ (y g a).time.now ∨ c.aborts < 4)) ∧ bits a.dw10 15 0 ≠ 0 ∧
      Ready 1 (bits a.dw10 15 0) g ∧
      (y g a).adm.held.find? (fun h => h.cntl == 1 && h.qid == bits a.dw10 15 0 && h.cmd.cid == bits a.dw10 31 16) = some h) ∧
    ((y s a).adm.held.find? (fun h => h.cntl == 1 && h.qid == bits a.dw10 15 0 && h.cmd.cid == bits a.dw10 31 16) = none ∧
      (y s a).rcmd? 1 (bits a.dw10 15 0) (bits a.dw10 31 16) = none) ∧
    ((∃ c, NMap.find (y f (entry 12 0)).nvq.ctrls 1 = some c ∧ 4 ≤ c.aers.length) ∧
      (∃ c, NMap.find (y s (entry 12 0)).nvq.ctrls 1 = some c ∧ c.aers.length < 4 ∧ c.notices.find? (fun n => !c.masked.contains n) = none) ∧
      (∃ c, NMap.find (y n (entry 12 0)).nvq.ctrls 1 = some c ∧ c.aers = [] ∧
        c.notices.find? (fun n => !c.masked.contains n) = some 0xC20102)) := by
  refine ⟨⟨(head_runs 2 0).1, ⟨_, rfl, by decide +kernel⟩, by decide +kernel, ⟨_, rfl⟩⟩, ⟨(head_runs 6 1).1, by decide +kernel⟩,
    ⟨⟨⟨rfl, 16384, cq 0 0, by decide +kernel⟩, by decide +kernel, rfl, by unfold Settled; decide +kernel⟩, ⟨_, rfl, by decide +kernel⟩,
      by decide +kernel, ⟨rfl, 1, cq 1 1, by decide +kernel⟩, by decide +kernel⟩, by decide +kernel, ⟨_, rfl, by decide +kernel⟩,
    ⟨_, rfl, by decide +kernel⟩, ⟨_, rfl, by decide +kernel⟩⟩

theorem witness_FeaturesAreSetAndRead :
    let s := head .paired
    let z := head .sole
    let y := fun (s : State) e => (s.advanceTo 2000).fetched 1 0 e
    let f (n : Nat) := { entry 9 1 with dw10 := BitVec.ofNat 32 n }
    let h := withFid 0xC0 { entry 9 0 with dw11 := 1 }
    let c := { entry 9 1 with dw11 := 0x82, dw12 := 1 }
    let d := withFid 0xC2 { entry 9 1 with dw11 := 2 }
    let i : State := { s with adm := { resv := [(0, { resv with d := 0 })] } }
    Runs 1 (f 1) s ∧
    (bits (f 1).dw10 7 0 = 0x01 ∧ bits (f 8).dw10 7 0 = 0x08 ∧ bits (f 11).dw10 7 0 = 0x0B ∧ bits (f 4).dw10 7 0 = 0x04 ∧
      bits (f 4).dw11 19 16 = 0 ∧ bits (f 4).dw11 21 20 = 0 ∧ bits 0x100000 19 16 = 0 ∧ bits 0x100000 21 20 = 1 ∧
      bits (f 2).dw10 7 0 ∉ [0x01, 0x04, 0x07, 0x08, 0x0B, 0xC0, 0xC1, 0xC2]) ∧
    (Runs 1 h s ∧ bits h.dw11 15 0 ≠ 0 ∧ (y s h).queueKey 1 (bits h.dw11 15 0) = some 1 ∧ (NMap.find (y s h).nvq.sqs 1).isSome = true ∧
      (∀ x ∈ (y s h).adm.held, x.dqn ≠ 1) ∧ (y s h).moor.relayHeld = []) ∧
    (Runs 1 (withFid 0xC1 c) s ∧ (y s (withFid 0xC1 c)).featureNs c.nsid = some ns ∧ bits c.dw11 1 0 ≠ 3 ∧
      (bits c.dw11 1 0 = 2 ∧ 8 ≤ bits c.dw11 8 4 ∧ bits c.dw11 8 4 ≤ 18 ∧ bits c.dw12 15 0 ≠ 0)) ∧
    (Runs 1 d s ∧ Runs 1 d z ∧ (y s d).featureNs d.nsid = some ns ∧ bits d.dw11 1 0 = 2 ∧ (y i d).inlineFits = false ∧
      (y s d).inlineFits = true ∧ (y s d).mirrors = true ∧ (y z d).inlineFits = true ∧ (y z d).mirrors = false) ∧
    ((y s (f 1)).featureValue 1 (f 1) = .ok (0, 0) ∧ bits (f 1).dw10 10 8 = 0 ∧
      (match (y s (f 0x1F)).featureValue 1 (f 0x1F) with | .error _ => true | .ok _ => false) = true) := by
  refine ⟨(head_runs 9 1).1, by decide +kernel, ⟨(head_runs 9 0).1, by decide +kernel⟩, ⟨(head_runs 9 1).1, by decide +kernel⟩,
    ⟨(head_runs 9 1).1, (head_runs 9 1).2, by decide +kernel⟩, rfl, by decide +kernel, by decide +kernel⟩

/-- A die model of one plane and 64 pages in SLC mode. -/
def model : DieModel :=
  { cell := 1, planes := 1, rate := 2000, blkPerPlane := 8, wlPerBlk := 64, tProgSlc := 100000, tProgDense := 500000, tFold := 500000,
    tErase := 2000000, tRead := 30000, tSusp := 20000, tXfer := 8192, peDense := 1000, peSlc := 10000, retain := 30, rrCount := 2,
    rrDefault := 0, rrSteps := [1, 2] }

def port (st : Nat) : Port := { state := st, present := true, powered := true, model := 0, part := 1, serial := 1, pop := 1 }

/-- A head with five member modules, a spare at port 5 and an unused module at port 6, one die on each channel 0 and all channels ready. -/
def arrayHead (m : Mode) : State :=
  { head m with
    image := { models := [model], parts := [(1, 0)], pop := 1, slcSet := [0, 1, 2, 3], mapUnits := 4096 }
    strp := { k := 4, m := 1, order := [0, 1, 2, 3, 4], spares := [5],
              ports := [(0, port 4), (1, port 4), (2, port 4), (3, port 4), (4, port 4), (5, port 3), (6, port 2)] }
    flash := { chans := (List.range 40).map (fun c => (c, (2, 0))), dies := (List.range 7).map (128 * ·) } }

theorem array_runs (op n : Nat) : Runs 1 (entry op n) (arrayHead .paired) ∧ Runs 1 (entry op n) (arrayHead .sole) :=
  ⟨⟨⟨rfl, 16384, cq 0 0, by decide +kernel⟩, by decide +kernel, rfl, head_settled.1⟩,
    ⟨⟨rfl, 16384, cq 0 0, by decide +kernel⟩, by decide +kernel, rfl, head_settled.2⟩⟩

theorem witness_NamespacesAndSelfTests :
    let p := arrayHead .paired
    let s := arrayHead .sole
    let y := fun (s : State) => (s.advanceTo 2000).fetched 1 0 (entry 13 1)
    let a : State := { s with nvq := { s.nvq with ns := [(0, { ns with attached := [] })] } }
    let q : State := { s with nvq := { s.nvq with testOp := 2 } }
    let k : State := { s with regs := { vals := [(Reg.CIPH_DEFSLOT, 5)] } }
    let z := fun (s : State) => (s.advanceTo 2000).fetched 1 0 (entry 13 0)
    (Runs 1 (entry 13 0) s ∧ 32 % 16 = 0 ∧ 32 ≠ 0 ∧ 1 ≤ 1 ∧ (z k).unitsUsed + 32 / 16 ≤ (z k).mapUnits ∧ (z k).image.podPairs = [] ∧
      (z k).freeVol = some 1 ∧ (z k).xtsReady ((z k).regField Reg.CIPH_DEFSLOT 12 0) = true ∧ (z k).ns? 1 = none ∧ (z k).mirrors = false ∧
      (z p).mirrors = true) ∧
    (Runs 1 (entry 13 1) s ∧ (y s).featureNs 1 = some ns ∧ (y s).mirrors = false ∧ Runs 1 (entry 13 1) p ∧ (y p).featureNs 1 = some ns ∧
      (y p).mirrors = true) ∧
    (Runs 1 (entry 13 1) a ∧ (y a).featureNs 1 = some { ns with attached := [] } ∧ [1] ≠ [] ∧ (∀ c ∈ [1], NMap.has (y a).nvq.ctrls c = true) ∧
      (∀ c ∈ [1], c ∉ ({ ns with attached := [] } : Ns).attached) ∧ (∀ c ∈ [1], c ∈ ns.attached) ∧ bits 0 3 0 = 0 ∧ bits 1 3 0 = 1) ∧
    (s.nvq.testOp = 0 ∧ q.nvq.testOp ≠ 0) := by
  refine ⟨⟨(array_runs 13 0).2, by decide +kernel⟩, ⟨(array_runs 13 1).2, by decide +kernel, by decide +kernel, (array_runs 13 1).1,
    by decide +kernel⟩, ⟨⟨⟨rfl, 16384, cq 0 0, by decide +kernel⟩, by decide +kernel, rfl, by unfold Settled; decide +kernel⟩, by decide +kernel⟩,
    by decide +kernel⟩

/-- C0h of queue 1 at rate 4, burst 4 and D 4,000, by pull. -/
def c0 : Sqe := { entry 0xC0 0 with dw10 := 0x00010004, dw11 := 0x00040004, dw12 := 4000 }

/-- The array with one reservation of the home head. -/
def resvHead (m : Mode) (r : Resv) : State := { arrayHead m with adm := { resv := [(0, r)] } }

theorem resvHead_runs (e : Sqe) (h : e.fuse = 0) (r : Resv) : Runs 1 e (resvHead .paired r) ∧ Runs 1 e (resvHead .sole r) :=
  ⟨⟨⟨rfl, 16384, cq 0 0, rfl, rfl, rfl, rfl, rfl, rfl⟩, nofun, h, head_settled.1⟩,
    ⟨⟨rfl, 16384, cq 0 0, rfl, rfl, rfl, rfl, rfl, rfl⟩, nofun, h, head_settled.2⟩⟩

theorem witness_ReservationsAreMadeChangedAndDeleted :
    let r4 : Resv := { resv with d := 4000 }
    let y := fun a (s : State) => (s.advanceTo 2000).fetched 1 0 (withAction a c0)
    let code := fun (s : State) (i d : Nat) => fitCode (y 0 s).fitArgs ((y 0 s).withResv i ((y 0 s).freshResv 4 4 d true true 1 1))
    let u : Resv := { r4 with dqn := 0, cntl := 0 }
    let v := fun a (s : State) => (s.advanceTo 2000).fetched 1 0 (withRebind a c0)
    (∀ m ∈ [Mode.paired, Mode.sole], (arrayHead m).md.mode ≠ .relay ∧ c0.nsid = 0 ∧ c0.dw14 = 0 ∧ c0Qid (withAction 0 c0) ≠ 0 ∧
      (y 0 (arrayHead m)).queueKey 1 (c0Qid (withAction 0 c0)) = some 1 ∧
      (y 0 (arrayHead m)).queueTaken 1 (c0Qid (withAction 0 c0)) 1 = false ∧ c0Ranges (withAction 0 c0) = true ∧
      c0Pull (withAction 0 c0) = true ∧
      firstFree ((y 0 (arrayHead m)).indexBase 1) 256 (y 0 (arrayHead m)).indexTaken = some 0 ∧ code (arrayHead m) 0 4000 = 0 ∧
      code (arrayHead m) 0 1 ≠ 0) ∧
    Runs 1 (withAction 0 c0) (arrayHead .paired) ∧ Runs 1 (withAction 0 c0) (arrayHead .sole) ∧
    (Runs 1 (withAction 1 c0) (resvHead .sole r4) ∧
      ((y 1 (resvHead .sole r4)).queueKey 1 (c0Qid (withAction 1 c0))).bind (y 1 (resvHead .sole r4)).resvOf = some 0 ∧
      NMap.find (y 1 (resvHead .sole r4)).adm.resv 0 = some r4 ∧
      fitCode (y 1 (resvHead .sole r4)).fitArgs ((y 1 (resvHead .sole r4)).withResv 0 (r4.changed 4 4 4000)) = 0 ∧
      fitCode (y 1 (resvHead .paired r4)).fitArgs ((y 1 (resvHead .paired r4)).withResv 0 (r4.changed 4 4 4000)) = 0) ∧
    Runs 1 (withAction 2 c0) (resvHead .sole r4) ∧
    (Runs 1 (withAction 3 c0) (resvHead .sole r4) ∧
      ((y 3 (resvHead .sole r4)).session? ((y 3 (resvHead .sole r4)).ctrlSession 1)).isSome = true) ∧
    (Runs 1 (withRebind 0 c0) (resvHead .sole u) ∧ (v 0 (resvHead .sole u)).queueKey 1 (c0Qid (withRebind 0 c0)) = some 1 ∧
      (v 0 (resvHead .sole u)).unbound (c0Index (withRebind 0 c0)) = some u ∧
      (v 0 (resvHead .sole u)).queueTaken 1 (c0Qid (withRebind 0 c0)) 1 = false ∧ u.pull = true) ∧
    (Runs 1 (withRebind 2 c0) (resvHead .sole u) ∧ (v 2 (resvHead .sole u)).unbound (c0Index (withRebind 2 c0)) = some u) ∧
    (Runs 1 (withAction 0 c0) (head .relay) ∧ (head .relay).md.mode = .relay) := by
  have h : c0.fuse = 0 := rfl
  refine ⟨by decide +kernel, (array_runs 0 0).1, (array_runs 0 0).2, ⟨(resvHead_runs _ rfl _).2, by decide +kernel⟩, (resvHead_runs _ rfl _).2,
    ⟨(resvHead_runs _ rfl _).2, by decide +kernel⟩, ⟨(resvHead_runs _ rfl _).2, by decide +kernel⟩, ⟨(resvHead_runs _ rfl _).2, by decide +kernel⟩,
    ⟨⟨rfl, 16384, cq 0 0, by decide +kernel⟩, by decide +kernel, rfl, by unfold Settled; decide +kernel⟩, by decide +kernel⟩

theorem witness_ChangesTakeEffectOnBothHeads :
    let r4 : Resv := { resv with d := 4000 }
    let s := arrayHead .paired
    let k (d : Nat) : Commit := { token := 5, change := .resvChange 0 4 4 d, tick := 900, cntl := 1, cmd := c0 }
    let w (d : Nat) : State := { resvHead .paired r4 with moor := { commits := [k d], token := 5 } }
    (s.mirrors = true ∧ 5 ≠ 0 ∧ s.moor.fenced = false ∧ (s.advanceTo 2000).judge (.resvCreate 256 4 4 4000 true) = 0 ∧
      (s.advanceTo 2000).judge (.resvCreate 256 4 4 1 true) ≠ 0 ∧ (s.advanceTo 2000).judge (.dedupPolicy 0 1) = 0 ∧ s.ns? 0 = some ns) ∧
    ((w 4000).moor.commits.find? (fun k => k.token == 5) = some (k 4000) ∧ NMap.find (w 4000).adm.resv 0 = some r4 ∧ Ready 1 0 (w 4000) ∧
      Settled 1 (w 4000) ∧ ((w 4000).advanceTo 2000).judgeAgain (.resvChange 0 4 4 4000) = 0 ∧
      ((w 1).advanceTo 2000).judgeAgain (.resvChange 0 4 4 1) ≠ 0) ∧
    (Ticking (900 + 10 * msTicks) (w 4000) ∧ (k 4000).tick + 10 * msTicks ≤ 900 + 10 * msTicks) := by
  refine ⟨by decide +kernel, ⟨by decide +kernel, by decide +kernel, ⟨rfl, 16384, cq 0 0, by decide +kernel⟩, by unfold Settled; decide +kernel,
    by decide +kernel⟩, by unfold Ticking; decide +kernel, by decide +kernel⟩

def snap : Snap :=
  { tick := 500, epoch := 1, readable := true, reclaim := false, view := none, repl := false, exclBytes := 0, sharedBytes := 0,
    exclGrains := 0, sharedGrains := 0, acctTick := 0 }

theorem witness_SnapshotsAreTakenClonedAndDeleted :
    let sns : Ns := { ns with snaps := [(4, snap)], frozen := [(4, [])], epoch := 1 }
    let s (m : Mode) : State := { head m with nvq := { (head m).nvq with ns := [(0, sns)] } }
    let e := { entry 0xC1 1 with dw10 := 0x00040000 }
    let y := fun a (s : State) => (s.advanceTo 2000).fetched 1 0 (withC1Action a e)
    let v : State := { s .sole with nvq := { (head .sole).nvq with ns := [(0, sns), (1, { ns with ro := true, cloneOf := some (0, 4) })] } }
    let r : State := { head .sole with nvq := { (head .sole).nvq with ns := [(0, { sns with snaps := [(4, { snap with reclaim := true })] })],
                                                                      reclaims := [{ vol := 9, id := 3, map := [] }] } }
    c1Action e ≤ 4 ∧
    (∀ a, Runs 1 (withC1Action a e) (s .sole) ∧ Runs 1 (withC1Action a e) (s .paired)) ∧
    ((y 0 (s .sole)).featureNs 1 = some sns ∧ firstFree 0 1024 ((y 0 (s .sole)).snapTaken 0 sns) = some 0 ∧
      ((y 0 (s .sole)).nvq.ns.map (fun p => p.2.snaps.length)).sum < 262144 ∧ (y 0 (s .sole)).mirrors = false ∧
      (y 0 (s .paired)).featureNs 1 = some sns ∧ (y 0 (s .paired)).mirrors = true) ∧
    (NMap.find sns.snaps (c1SnapId (withC1Action 1 e)) = some snap ∧ snap.reclaim = false ∧
      (y 1 (s .sole)).viewAttached 0 (c1SnapId (withC1Action 1 e)) = false ∧ (y 1 v).viewAttached 0 (c1SnapId (withC1Action 1 e)) = true ∧
      (y 1 v).featureNs 1 = some sns) ∧
    ((y 2 (s .sole)).image.podPairs = [] ∧ (y 2 (s .sole)).freeVol = some 1 ∧ 1 ≠ volOf 1) ∧
    (((y 3 (s .sole)).session? ((y 3 (s .sole)).ctrlSession 1)).isSome = true ∧ NMap.find ns.snaps (c1SnapId (withC1Action 3 e)) = none) ∧
    (r.nvq.reclaims.find? (fun r => r.vol == 9 && r.id == 3) = some { vol := 9, id := 3, map := [] } ∧
      r.nvq.reclaims.find? (fun r => r.vol == 0 && r.id == 4) = none ∧
      r.ns? 0 = some { sns with snaps := [(4, { snap with reclaim := true })] }) := by
  have r : ∀ a, (withC1Action a { entry 0xC1 1 with dw10 := 0x00040000 }).fuse = 0 := fun a => by unfold withC1Action; split <;> rfl
  refine ⟨by decide +kernel, fun a => ⟨⟨⟨rfl, 16384, cq 0 0, rfl, rfl, rfl, rfl, rfl, rfl⟩, nofun, r a, head_settled.2⟩,
    ⟨⟨rfl, 16384, cq 0 0, rfl, rfl, rfl, rfl, rfl, rfl⟩, nofun, r a, head_settled.1⟩⟩, by decide +kernel, by decide +kernel, by decide +kernel,
    by decide +kernel, by decide +kernel⟩

/-- A landing band of the array on die slot 0, with a block of each die, and its first stripe sealed. -/
def band (st : StreamId) (dense : Bool) : Band :=
  { st := st, slot := 0, k := 4, m := 1, members := [0, 1, 2, 3, 4], dense := dense, subs := [],
    blks := [(0, 2), (128, 2), (256, 2), (384, 2), (512, 2)], sealedBand := false, refresh := false, victim := false }

def stripe (b i : Nat) : Stripe :=
  { st := .home, band := b, idx := i, bytes := 262144, closed := true, closeTick := 800, transferred := [0, 1, 2, 3, 4],
    programmed := [0, 1, 2, 3, 4], sealedAt := some 900, oldestParity := 0, dense := none, migrated := 0, skipped := [] }

def check : Check := { guard := 0, reftag := 0, wgen := 1 }

/-- A stored record of grain 0 of volume 0, and the map entry that names it. -/
def record : Record :=
  { kind := 1, comp := false, sample := false, close := false, pi := false, plen := 64, keyslot := 5, seq := 1, atick := 500, check := check,
    apptag := 0, geom := 0, sepoch := 0, aseqLo := 0, payload := padBytes 64 0 }

def stored : Stored := { st := .home, band := 1, stripe := 0, offset := 0, record := record, acked := true }

def mapEnt : MapEnt :=
  { kind := 1, wgen := 1, mirror := false, band := 1, offset := 0, plen := 64, sgt := 0, volTag := 0, atick := 500, aseq := 0, seq := 1 }

/-- The array with band 1 as given, its first stripes, one stored grain, and a dense band 2; band 3 is the home stream's. -/
def bandHead (m : Mode) (ss : List Stripe) : State :=
  { arrayHead m with
    path := { bands := [(1, band .home false), (2, band .home true), (3, band .home false)], stripes := ss, stored := [stored],
              map := [(grainKey 0 0, mapEnt)], homeStream := { band := 3 }, mirrorStream := { band := 9 }, gcHome := { band := 8 }, gcMirror := { band := 7 } } }

theorem witness_BackgroundWorkMovesRecordsWithTheirEntries :
    let s := bandHead .paired [stripe 1 0]
    let x : Stripe := { stripe 1 0 with dense := some (2, 0) }
    let f := bandHead .paired [x]
    (s.md.mode.backgroundRuns = true ∧ s.stripe? 1 0 = some (stripe 1 0) ∧ NMap.find s.path.bands 1 = some (band .home false) ∧
      s.foldable (band .home false) (stripe 1 0) = true ∧ (s.advanceTo 2000).staticPolicy = false) ∧
    (f.stripe? 1 0 = some x ∧ NMap.find f.path.bands 2 = some (band .home true) ∧ x.dense = some (2, 0) ∧ f.folded (4 * 65536) x = false ∧
      2 ≠ 1 ∧ (band .home true).dieOf 2 = some 256 ∧
      ((f.advanceTo 2000).faultsOf (.die 256) 0x3002).length + 1 < f.regField Reg.GCTL_RETIRE 3 0) ∧
    (Ticking (1000 * msTicks) s ∧ s.path.ckptTick + s.regField Reg.FCH_CKPT 15 0 * msTicks ≤ 1000 * msTicks ∧ Ticking 2000 s ∧
      2000 < s.path.ckptTick + s.regField Reg.FCH_CKPT 15 0 * msTicks) ∧
    (1 ∉ [s.path.homeStream.band, s.path.mirrorStream.band, (s.gcStream .home).band] ∧
      (s.advanceTo 2000).staticBars .home 1 (band .home false) = false ∧ (s.advanceTo 2000).wornVictim .home = none) ∧
    ((band .home false).victim = false ∧ s.path.patrolDone.contains 1 = false) := by
  refine ⟨by decide +kernel, by decide +kernel, ⟨by unfold Ticking; decide +kernel, by decide +kernel, by unfold Ticking; decide +kernel,
    by decide +kernel⟩, by decide +kernel, by decide +kernel⟩

theorem witness_FlashDevicesTrainEraseAndAge :
    let s : State := { bandHead .paired [stripe 1 0] with
      flash := { (arrayHead .paired).flash with erases := [{ die := 0, block := 2, start := 900, suspended := false, suspends := 0, suspAt := 0 }],
                                                chans := [(0, (2, 0)), (1, (1, 2))] } }
    let b : State := { s with adm := { bookings := [{ res := resDie 0, slot := 0, ticks := 10, firm := true, running := false, seq := 1 }] } }
    (s.md.mode ≠ .reset ∧ s.md.mode ≠ .locked ∧ s.md.mode ≠ .slack ∧ (NMap.getD s.flash.chans 1 (0, 0)).1 ≠ 2 ∧
      s.faults.retired.contains (.channel 1) = false ∧ 3 ≤ (NMap.getD s.flash.chans 1 (0, 0)).2 + 1) ∧
    (s.flash.dies.contains 128 = true ∧ s.faults.retired.contains (.die 128) = false) ∧
    ((s.advanceTo 2000).channelReady 0 = true) ∧
    (s.flash.erases.any (fun e => e.die == 0 && e.block == 2) = true ∧ s.bandAt 0 2 = some 1 ∧
      NMap.find s.path.bands 1 = some (band .home false) ∧ (band .home false).dense = false ∧ s.portModel (0 / 128) = some model) ∧
    (takenIn s.adm.bookings (resDie 0) (slotOf (s.advanceTo 2000).time.now) true = 0 ∧
      takenIn b.adm.bookings (resDie 0) (slotOf (b.advanceTo 2000).time.now) true ≠ 0) ∧
    (Ticking secondTicks s ∧ s.flash.tempTick + secondTicks ≤ secondTicks ∧ 15 < 16) := by
  refine ⟨by decide +kernel, by decide +kernel, by decide +kernel, by decide +kernel, by decide +kernel, by unfold Ticking; decide +kernel,
    by decide +kernel⟩

theorem filter_fills (l : List Nat) (h : l.length = 2 ^ 36) : 0x8000 < ({ ddup := { filter := l } } : State).filterFill := by
  show 0x8000 < l.length * 65536 / 2 ^ 36
  rw [h]
  decide

theorem witness_PostProcessAndTablesAreKept :
    let p : PpEnt := { vol := 0, grain := 0, wgen := 1, fp := 77 }
    let g : Sgt := { mirror := false, band := 1, offset := 0, reftag := 0, wgen := 1, guard := 0, refs := 1, keyslot := 5, pending := false,
                     plen := 64 }
    let ix : FpEnt := { fp := 77, guard := 0, keyslot := 5, pair := 0, sgt := 3 }
    let s : State := { bandHead .paired [stripe 1 0] with ddup := { ppq := [p], sgt := [(3, g)], index := [ix] } }
    let d : State := { s with path := { s.path with map := [] } }
    (s.ddup.ppq = [p] ∧ s.postRuns = true ∧ s.clusterOk 0 = true ∧ p.cluster ≠ some 0 ∧ s.postEnt p = some (mapEnt, record) ∧
      (s.indexAnswer p.fp record.check.guard record.keyslot (some none)).join = some ix ∧ s.overlayRoom 0 0 = true ∧
      NMap.find s.ddup.sgt 3 = some g) ∧
    d.postEnt p = none ∧
    (∃ f : State, 0x8000 < f.filterFill) ∧ s.filterFill ≤ 0x8000 := by
  refine ⟨by decide +kernel, by decide +kernel, ⟨_, filter_fills (List.replicate (2 ^ 36) 0) List.length_replicate⟩, by decide +kernel⟩

theorem witness_ModulesComeAndGo :
    let s := arrayHead .sole
    let y := fun (p : Nat) => (s.advanceTo 2000).updPort p (fun x => { x with present := true })
    let i : State := { arrayHead .sole with strp := { s.strp with ports := [(7, port 1)] } }
    let h : State := { arrayHead .holdup with strp := s.strp }
    let n : State := { s with strp := { s.strp with spares := [] } }
    let w : State := { s with image := { s.image with pop := 3 } }
    let q : State := { s with moor := { spareProbes := [(5, 1000)] } }
    (15 < 16 ∧ (s.port 15).present = false ∧ s.md.mode.identifies = true ∧ (y 15).moduleRefusal 15 false true 1 1 9 = some 0 ∧
      (y 15).moduleRefusal 15 true true 1 1 9 = none) ∧
    (i.port 7).state = 1 ∧
    ((h.port 0).present = true ∧ h.md.mode.identifies = false) ∧
    ((s.port 5).present = true ∧ ¬ (s.isMember 5 = true ∧ (s.port 5).state = 4)) ∧
    ((s.port 0).present = true ∧ (s.port 0).state = 4 ∧ s.strp.order.contains 0 = true ∧ s.strp.failed.contains 0 = false ∧
      n.strp.spares = [] ∧ lowest s.strp.spares = some 5) ∧
    (Open s ∧ s.md.mode ∈ [Mode.paired, Mode.sole, Mode.bench] ∧ bits 5 3 0 = 5 ∧ (s.port 5).state ∈ [2, 3, 5, 7] ∧ (s.port 4).state = 4 ∧
      (s.port 6).state = 2 ∧ s.spareRoom = true ∧ s.suits 6 = true ∧ w.suits 6 = false ∧ (s.port 5).state = 3) ∧
    (Ticking (1000 + 600 * secondTicks) q ∧ q.strp.spares.contains 5 = true ∧ q.md.mode.backgroundRuns = true ∧
      NMap.find q.moor.spareProbes 5 = some 1000) := by
  refine ⟨by decide +kernel, by decide +kernel, by decide +kernel, by decide +kernel, by decide +kernel, ⟨head_open.2.1, by decide +kernel⟩,
    by unfold Ticking; decide +kernel, by decide +kernel⟩

theorem witness_RebuildRestoresLostStrips :
    let x (l : List Nat) : Stripe := { stripe 1 0 with skipped := l }
    let n : Band := { band .home false with m := 0 }
    let s (m : Mode) (l : List Nat) (b : Band) : State := { bandHead m [x l] with
      path := { (bandHead m [x l]).path with bands := [(1, b)] },
      strp := { (arrayHead m).strp with rebuild := some { target := 5, total := 1, left := 1, start := 0 } },
      moor := { dx := { alive := true } } }
    (NMap.find (s .paired [2] (band .home false)).path.bands 1 = some (band .home false) ∧ (s .paired [2] (band .home false)).stripe? 1 0 = some (x [2]) ∧
      (s .paired [2] (band .home false)).strp.rebuild.isSome = true ∧ ((s .paired [2] (band .home false)).advanceTo 2000).toRebuild.head? = some (1, 0, 2) ∧
      lostWith (band .home false) (x [2]) [2] ≤ (band .home false).m ∧ (band .home false).portOf 2 = some 2) ∧
    (((s .sole [1] n).advanceTo 2000).toRebuild.head? = some (1, 0, 1) ∧ n.m < (x [1]).skipped.length ∧ n.m < lostWith n (x [1]) [] ∧
      (s .sole [1] n).partnerAsk = false ∧ (s .sole [1] n).md.mode.canPreserve = true ∧ stored ∈ (s .sole [1] n).path.stored ∧
      stored.band = 1 ∧ stored.record.kind = 1 ∧
      (recordStripes n stored.offset (recordLen stored.record)).contains 0 = true ∧
      (s .sole [1] n).ns? (stored.record.check.reftag.toNat / 2 ^ 34) = some ns ∧ ns.served = true) ∧
    (((s .paired [1] n).advanceTo 2000).toRebuild.head? = some (1, 0, 1) ∧ (s .paired [1] n).partnerAsk = true ∧
      (s .paired [1] n).recordLive stored = true) ∧
    (Ticking horizonTicks (s .paired [2] (band .home false)) ∧ horizonTicks % horizonTicks = 0) ∧
    (Open (arrayHead .paired) ∧ (arrayHead .paired).md.mode ∈ [Mode.boot, Mode.bench, Mode.paired, Mode.sole] ∧
      (let y := (arrayHead .paired).advanceTo 2000
       let z := fun (w : State) (v : Word) => w.setField Reg.STRP_FLOOR 24 16 (bits v 24 16)
       (z y 0).floorOk (bits 0 8 0) = true ∧ (z y.ignored 0).floorOk (bits 0 8 0) = true ∧
        (z y 511).floorOk (bits 511 8 0) = false ∧ (z y.ignored 511).floorOk (bits 511 8 0) = false)) := by
  refine ⟨by decide +kernel, by decide +kernel, by decide +kernel, ⟨by unfold Ticking; decide +kernel, by decide +kernel⟩, head_open.1, ?_⟩
  decide +kernel

theorem witness_ReshapeMovesToTheNewShape :
    let s : State := { arrayHead .sole with
      regs := { vals := [(Reg.STRP_RSH_MEM, 0x3F)] }, image := { (arrayHead .sole).image with models := [{ model with blkPerPlane := 64 }] } }
    let r : Reshape := { oldK := 4, oldM := 1, oldMembers := [0, 1, 2, 3, 4], bound := 0, total := 1, sysBound := 0, ldgBound := 0 }
    let z (ss : List Stripe) : State := { bandHead .sole ss with strp := { (arrayHead .sole).strp with k := 5, order := [0, 1, 2, 3, 4, 5], reshape := some r } }
    let p : State := { z [] with regs := { vals := [(Reg.STRP_RSH_CTRL, 1)] } }
    (Open s ∧ s.md.mode ∈ [Mode.paired, Mode.sole] ∧
      (s.advanceTo 2000).reshapeCode (bits 0x15 3 0) (bits 0x15 5 4) (portsOf (s.regField Reg.STRP_RSH_MEM 15 0)) = 0 ∧
      (s.advanceTo 2000).ignored.reshapeCode (bits 0x15 3 0) (bits 0x15 5 4) (portsOf (s.regField Reg.STRP_RSH_MEM 15 0)) = 0 ∧
      (s.advanceTo 2000).reshapeCode (bits 0x16 3 0) (bits 0x16 5 4) (portsOf (s.regField Reg.STRP_RSH_MEM 15 0)) = 1 ∧
      (s.advanceTo 2000).ignored.reshapeCode (bits 0x16 3 0) (bits 0x16 5 4) (portsOf (s.regField Reg.STRP_RSH_MEM 15 0)) = 1) ∧
    (Open (head .bench) ∧ (head .bench).md.mode ∉ [Mode.paired, Mode.sole]) ∧
    ((z [stripe 1 0]).regField Reg.STRP_RSH_CTRL 0 0 = 0 ∧ (z [stripe 1 0]).strp.rebuild = none ∧
      (z [stripe 1 0]).md.mode.backgroundRuns = true ∧ (z [stripe 1 0]).strp.reshape = some r ∧
      (z [stripe 1 0]).nextMigration = some (stripe 1 0) ∧ (z []).nextMigration = none) ∧
    p.regField Reg.STRP_RSH_CTRL 0 0 = 1 := by
  refine ⟨⟨head_open.2.1, by decide +kernel⟩, ⟨head_open.2.2.1, by decide +kernel⟩, by decide +kernel, by decide +kernel⟩

theorem witness_UnmappedAddressesReadZeroAndAreFlagged : Open (head .paired) ∧ (regSpaceEnd - 4) % 4 = 0 ∧
    findReg (regSpaceEnd - 4) = none ∧ regSpaceEnd - 4 < regSpaceEnd ∧ regSpaceEnd % 4 = 0 ∧ findReg regSpaceEnd = none ∧
    Origin.spi ≠ .core ∧ Origin.spi ≠ .repl := ⟨head_open.1, by decide +kernel⟩

theorem witness_ReservationReadsReturnTheLatchedSet : Open (resvHead .paired resv) ∧
    NMap.find (resvHead .paired resv).adm.resv (bits ((resvHead .paired resv).pathReg .spi Reg.ADM_RSEL) 8 0) = some resv :=
  ⟨head_open.1, by decide +kernel⟩

theorem witness_SpiCrcsDivideByTheirPolynomial : 6 < 2 ^ 8 ∧ 0xFFFFFFFF < 2 ^ 32 := by decide +kernel

theorem witness_IslandsAndLanesComeAndGo :
    let s : State := { head .paired with faults := { awake := [(.cmp, 31)], waking := [(.ciph, 5, 1000)], lanes := [(0, 1), (23, 2)],
                                                     restarting := [(1, [8, 9])] },
                                         regs := { vals := [(Reg.CLKP_CTRL, 1)] } }
    let c : State := { s with time := { s.time with sref1Lost := true } }
    ((s.advanceTo 20000).regField Reg.CLKP_CTRL 7 0 ≠ 0 ∧ s.islandAwake .cmp 31 = true ∧
      (s.advanceTo 20000).islandBusy .cmp 31 (s.regField Reg.CLKP_CTRL 7 0) = false) ∧
    (s.wakeOf .ciph 5 = some 1000 ∧ Ticking 1500 s ∧ 1000 + wakeLatency .ciph ≤ 1500) ∧
    (s.md.mode.frontEnd = true ∧ 22 < 24 ∧ s.lane 22 = 0 ∧ (s.advanceTo 2000).laneClock 22 = true ∧ s.laneTried 22 = true) ∧
    s.lane 0 = 1 ∧ (s.lane 23 ≠ 0 ∧ (s.advanceTo 2000).laneClock 23 = true ∧ (c.advanceTo 2000).laneClock 23 = false ∧
      s.faults.retired.contains (.serdes 23) = false) ∧
    ({ s with regs := { vals := [(Reg.GCTL_RETIRE, 1)] } } : State).regField Reg.GCTL_RETIRE 3 0 ≤ (s.faultsOf (.serdes 23) 1).length + 1 ∧
    NMap.find s.faults.restarting 1 = some [8, 9] := by
  refine ⟨by decide +kernel, ⟨by decide +kernel, by unfold Ticking; decide +kernel, by decide +kernel⟩, by decide +kernel, by decide +kernel,
    by decide +kernel, by decide +kernel, by decide +kernel⟩

/-- A packet of queue 3 on session 0, at the next PSN in order. -/
def pkt (opcode : Nat) (payload : List Byte) : Packet :=
  { blankPacket opcode with queue := 3, len := payload.length, psn := 3, xid := 11, key := 1, payload := payload }

/-- The head with session 0 as given, region 0 of that session, and the transport queues given. -/
def wireHead (x : Session) (q : NMap TQueue) : State :=
  { head .paired with idm := { sessions := [(0, x)], regions := [(0, region)], queues := q } }

def sent (p : Packet) : Sent := { packet := p, firstTick := 900, lastTick := 900, retry := 0, notBefore := 0, lane := 0 }

def op (read : Bool) (owner : OpOwner) : Op :=
  { owner := owner, xid := 11, queue := 3, read := read, psns := [3, 4], bytesLeft := 16, group := none, buf := none }

def work (wait : Option Nat) : WorkEntry :=
  { session := 0, group := none, targets := [], opcode := 1, key := 1, offset := 0, buf := 0x200000000, len := 64, waitQueue := wait,
    waitValue := 1, errStop := false }

theorem witness_TransportTimersAct :
    let c : Session := { session 0 with state := 1, start := 1000, lastConnect := 1000 }
    let q : Session := { session 0 with ackFrom := 1000, sinceAck := 1 }
    let v := sent (pkt 1 [])
    let b : Sent := { v with notBefore := 1500 }
    let u : Session := { session 0 with unacked := [v] }
    let w : Session := { session 0 with unacked := [b] }
    let k : Nat × Nat × Nat × Packet × Nat := (0, 1, 0, pkt 1 [], 1000)
    let s : State := { head .paired with idm := { sessions := [(0, session 0)], stalls := [k] } }
    (Ticking (20 * msTicks) (wireHead c []) ∧ (wireHead c []).session? 0 = some c ∧ c.state = 1 ∧ c.lastConnect + 10 * msTicks ≤ 20 * msTicks ∧
      20 * msTicks < c.start + 100 * msTicks ∧ (wireHead c []).moor.fenced = false ∧ Ticking (200 * msTicks) (wireHead c []) ∧
      c.start + 100 * msTicks ≤ 200 * msTicks) ∧
    ((wireHead (session 0) []).session? 0 = some (session 0) ∧
      ((wireHead (session 0) []).advanceTo (2000 * msTicks)).timedOut (session 0) = some 0 ∧
      ((wireHead u []).advanceTo (2000 * msTicks)).timedOut { u with lastRx := 2000 * msTicks } = some 1) ∧
    (Ticking (2000 * msTicks) (wireHead (session 0) []) ∧ (session 0).state ≠ 1 ∧
      (session 0).lastTx + (wireHead (session 0) []).idmTimeout / 4 ≤ 2000 * msTicks) ∧
    (Ticking 6000 (wireHead q []) ∧ (wireHead q []).session? 0 = some q ∧ q.ackFrom ≠ 0 ∧ q.ackFrom + 5000 ≤ 6000 ∧ q.sealed = false ∧
      ({ q with sealed := true } : Session).sealed = true) ∧
    (Ticking (100 * msTicks) (wireHead u []) ∧ (wireHead u []).session? 0 = some u ∧ u.unacked.find? (fun y => y.packet.psn == 3) = some v ∧
      v.notBefore ≤ 100 * msTicks ∧ v.lastTick + (wireHead u []).regField Reg.IDM_TIMERS 31 16 * 1000 ≤ 100 * msTicks ∧
      w.unacked.find? (fun y => y.packet.psn == 3) = some b ∧ b.notBefore ≤ 1500 ∧ b.notBefore ≠ 0) ∧
    (Ticking 51000 s ∧ s.session? 0 = some (session 0) ∧ s.stallsOn 0 1 0 = [k] ∧ k.2.2.2.2 + 50000 ≤ 51000 ∧ s.unitRoom 0 = false) := by
  refine ⟨⟨by unfold Ticking; decide +kernel, by decide +kernel, by decide +kernel, by decide +kernel, by decide +kernel, by decide +kernel,
    by unfold Ticking; decide +kernel, by decide +kernel⟩, by decide +kernel, ⟨by unfold Ticking; decide +kernel, by decide +kernel⟩,
    ⟨by unfold Ticking; decide +kernel, by decide +kernel⟩, ⟨by unfold Ticking; decide +kernel, by decide +kernel⟩,
    ⟨by unfold Ticking; decide +kernel, by decide +kernel⟩⟩

theorem witness_WorkEntriesRunInOrder :
    let s := wireHead (session 0) []
    let w := work (some 4)
    let d := wireHead (session 0) [(3, { cc := 0, entries := [(w, 0, 1000)] })]
    (s.entriesLeft = 0 ∧ s.sessionOpen (3 / 16384) = true ∧ (work none).waitQueue = none ∧ (work none).group = none ∧
      s.session? (work none).session = some (session 0) ∧ (session 0).state = 2) ∧
    (w.waitQueue = some 4 ∧ s.judgeEntry 3 w (s.tqueue 4).cc = none) ∧
    (Ticking (70000 * msTicks) d ∧ (d.tqueue 3).entries = [(w, 0, 1000)] ∧
      ((NMap.put d.idm.queues 3 {}).map (fun q => q.2.entries.length)).sum = 0 ∧ w.waitQueue.isSome = true ∧
      1000 + d.regField Reg.IDM_CHAIN 15 0 * msTicks ≤ 70000 * msTicks) := by
  refine ⟨by decide +kernel, by decide +kernel, by unfold Ticking; decide +kernel, by decide +kernel⟩

theorem wire_reaches {p : Packet} {x : Session} (h : malformed p = false ∧ p.dsess = 0 ∧ p.sealed = false ∧ x.state ≠ 1 ∧ x.sealed = false) :
    Reaches p x (wireHead x []) :=
  ⟨(nofun : Mode.paired ≠ .reset), (nofun : Mode.paired ≠ .slack), h.1, by rw [h.2.1]; rfl, h.2.2.2.1,
    by unfold State.authentic; rw [h.2.2.2.2, h.2.2.1]; rfl⟩

theorem wire_applies {p : Packet} {x : Session} (h : psnLater x.cum p.psn = false ∧ x.got.contains p.psn = false ∧
    psnDist p.psn x.cum < 2 ^ x.wlog2 ∧ p.psn = x.cum) : Applies p x := ⟨h.1, h.2.1, h.2.2.1, fun _ => h.2.2.2⟩

theorem witness_DataPacketsActOnce :
    let s := wireHead (session 0) []
    let p := pkt 1 [1, 2]
    let n := pkt 4 (padBytes 8 0)
    let r : Packet := { pkt 2 [] with aux := 512 }
    let z : Packet := { p with offset := 4095 }
    let o : Packet := { p with psn := 2 }
    (Reaches p (session 0) s ∧ Unwaited (session 0) ∧ Applies p (session 0) ∧ Admits p p.len (·.wr) (session 0) region s) ∧
    (Reaches n (session 0) s ∧ Applies n (session 0) ∧ Admits n n.len (·.nt) (session 0) region s) ∧
    (Reaches r (session 0) s ∧ Applies r (session 0) ∧ 1 ≤ r.aux ∧ r.aux ≤ 4194304 ∧ Admits r r.aux (·.rd) (session 0) region s ∧
      s.poisonedIn (region.base + r.offset) r.aux = none) ∧
    (Reaches z (session 0) s ∧ Applies z (session 0) ∧ s.regionCode z.dsess z = 2 ∧ ¬ ((session 0).state = 3 ∧ z.first = true) ∧ z.opcode = 1) ∧
    (Reaches o (session 0) s ∧ psnLater (session 0).cum o.psn = true ∧ o.opcode = 1) := by
  refine ⟨⟨wire_reaches (by decide +kernel), ⟨rfl, rfl⟩, wire_applies (by decide +kernel), ?_⟩,
    ⟨wire_reaches (by decide +kernel), wire_applies (by decide +kernel), ?_⟩,
    ⟨wire_reaches (by decide +kernel), wire_applies (by decide +kernel), by decide, by decide, ?_, by decide +kernel⟩,
    ⟨wire_reaches (by decide +kernel), wire_applies (by decide +kernel), by decide +kernel⟩,
    ⟨wire_reaches (by decide +kernel), by decide +kernel⟩⟩ <;> unfold Admits <;> decide +kernel

theorem witness_AnswersEndOperations :
    let x : Session := { session 0 with ops := [op true (.entry 3)] }
    let y : Session := { session 0 with ops := [op false (.entry 3)], unacked := [sent { pkt 1 [] with psn := 3 }, sent { pkt 1 [] with psn := 4 }] }
    let p := pkt 3 (padBytes 8 0)
    let f := pkt 3 (padBytes 16 0)
    let l : Packet := { pkt 5 [] with aux := 0x00050004, offset := 3 }
    let e : Packet := { pkt 5 [] with aux := 2, offset := 3 }
    let a : Packet := { pkt 6 (padBytes 32 0) with psn := 5 }
    let k : Packet := { pkt 6 (padBytes 32 0) with psn := 4 }
    (Reaches p x (wireHead x []) ∧ Unwaited x ∧ Applies p x ∧ x.ops.find? (fun y => y.read && y.xid == p.xid) = some (op true (.entry 3)) ∧
      p.len < (op true (.entry 3)).bytesLeft ∧ Reaches f x (wireHead x []) ∧ Applies f x ∧ (op true (.entry 3)).bytesLeft ≤ f.len ∧
      (op true (.entry 3)).group = none ∧ (wireHead x []).entriesLeft = 0) ∧
    (Ticking 2000 (wireHead x []) ∧ Reaches l x (wireHead x []) ∧ Applies l x ∧ l.aux % 256 = 4 ∧
      Reaches e x (wireHead x []) ∧ Applies e x ∧ e.aux % 256 ≠ 0 ∧ e.aux % 256 ≠ 4 ∧ e.aux % 256 ≠ 6 ∧
      x.opOf (e.offset % 2 ^ 32) = some (op true (.entry 3))) ∧
    (Reaches a y (wireHead y []) ∧ y.state = 2 ∧ y.closePsn = none ∧ y.sendq = [] ∧ y.sealed = false ∧ (wireHead y []).entriesLeft = 0 ∧
      (∀ v ∈ y.unacked, ackMisses a v.packet.psn = false) ∧ (∀ n ∈ [3, 4], ackCovers a n = true ∧ ∃ v ∈ y.unacked, v.packet.psn = n) ∧
      Reaches k y (wireHead y []) ∧ (∀ v ∈ y.unacked, ackMisses k v.packet.psn = false) ∧
      (∀ o ∈ y.ops, o.read = true ∨ ∃ q ∈ o.psns, ackCovers k q = false)) := by
  refine ⟨⟨wire_reaches (by decide +kernel), ⟨rfl, rfl⟩, wire_applies (by decide +kernel), by decide +kernel,
    by decide +kernel, wire_reaches (by decide +kernel), wire_applies (by decide +kernel), by decide +kernel⟩,
    ⟨by unfold Ticking; decide +kernel, wire_reaches (by decide +kernel), wire_applies (by decide +kernel),
      by decide +kernel, wire_reaches (by decide +kernel), wire_applies (by decide +kernel),
      by decide +kernel⟩,
    ⟨wire_reaches (by decide +kernel), by decide +kernel, by decide +kernel, by decide +kernel, by decide +kernel,
      by decide +kernel, by decide +kernel, by decide +kernel, wire_reaches (by decide +kernel), by decide +kernel,
      by decide +kernel⟩⟩

def connectMsg (purpose : Nat) : ConnectMsg :=
  { isess := 7, wlog2 := 6, purpose := purpose, ipsn := 100, salt := 5, keyid := 0, nkey := 1, akey := 1, nofs := 0, asqofs := 64, acqofs := 2048,
    asqs := 15, acqs := 15, source := 12, port := 0, partnerAddr := false }

theorem witness_SessionsOpenAndClose :
    let s : State := { head .paired with image := { purposes := [0x3F] } }
    let m := connectMsg 0
    let d : State := { s with idm := { sessions := [(0, { session 0 with peer := 7, firstRx := 100, source := 12 })] } }
    let c : Session := { session 0 with state := 1, lastRx := 0 }
    let a : AcceptMsg := { rsess := 9, wlog2 := 5, reason := 0, rpsn := 50, salt := 6, dbkey := 0, cntlid := 0 }
    let x : Session := { session 0 with ops := [op true .none] }
    let k : Session := { session 0 with sealed := true, phaseRx := false }
    (s.md.mode.frontEnd = true ∧ s.moor.fenced = false ∧ true ≠ (m.keyid != 0)) ∧
    (d.repeated m = some 0 ∧ m.keyid = 0) ∧
    (s.repeated m = none ∧ s.connectReason m false = 5 ∧ s.connectReason { m with purpose := 9 } true = 2 ∧
      s.connectReason { m with keyid := 3 } true = 4) ∧
    (s.connectReason m true = 0 ∧ s.connectReason (connectMsg 3) false = 0 ∧ false = (m.keyid != 0)) ∧
    (Ticking 2000 (wireHead c []) ∧ (wireHead c []).session? 0 = some c ∧ c.state = 1 ∧ c.sealed = false ∧ a.reason = 0) ∧
    (Ticking 2000 (wireHead x []) ∧ Reaches (pkt 11 []) x (wireHead x []) ∧ Unwaited x ∧ Applies (pkt 11 []) x ∧
      Reaches (pkt 10 []) x (wireHead x []) ∧ Applies (pkt 10 []) x ∧ x.ops ≠ [] ∧ Reaches (pkt 10 []) (session 0) (wireHead (session 0) []) ∧
      (session 0).ops = [] ∧ k.sealed = true ∧ k.phaseRx ≠ (({ pkt 12 [] with aux := 1 } : Packet).aux % 2 == 1)) ∧
    (malformed (pkt 7 []) = true ∧ 41 ≠ 40 + (pkt 1 []).len + (if (pkt 1 []).sealed then 24 else 0)) := by
  refine ⟨by decide +kernel, by decide +kernel, by decide +kernel, by decide +kernel, ⟨by unfold Ticking; decide +kernel, by decide +kernel⟩,
    ⟨by unfold Ticking; decide +kernel, wire_reaches (by decide +kernel), ⟨rfl, rfl⟩, wire_applies (by decide +kernel),
      wire_reaches (by decide +kernel), wire_applies (by decide +kernel), by decide +kernel,
      wire_reaches (by decide +kernel), by decide +kernel⟩, by decide +kernel⟩

/-- A read of grain 0 of volume 0, and the command it is for. -/
def readOp (use point : Nat) : ReadGrain :=
  { rid := 4, cntl := 1, qid := 1, cid := 7, use := use, merge := 0, vol := 0, grain := 0, ent := mapEnt, record := none, point := point, step := 0,
    failing := [], lanes := [], source := 0, failPoint := 0, result := none }

def readCmd : ReadCmd :=
  { cntl := 1, qid := 1, dqn := 1, cmd := entry opRead 1, vol := 0, slba := 0, nlb := 8, hostData := none, left := [0, 1], got := [], tags := [],
    holes := [], delivered := false }

def readHead (r : ReadGrain) : State :=
  let b := bandHead .paired [stripe 1 0]
  { b with path := { b.path with reads := [r], rcmds := [readCmd], nextRid := 5 }, moor := { dx := { alive := true } } }

theorem witness_ReadsPassTheirPoints :
    let r := readOp 0 2
    let f : ReadGrain := { r with failing := [0] }
    let d : ReadGrain := { readOp 0 5 with record := some record }
    let e : ReadGrain := { d with lanes := [0] }
    let q := readOp 0 8
    let k : ReadGrain := { q with source := 1 }
    let n : ReadGrain := { readOp 0 9 with source := 2 }
    let z : State := { readHead r with path := { (readHead r).path with map := [(grainKey 0 0, { mapEnt with kind := 2 })] } }
    ((readHead r).read? 4 = some r ∧ r.point = 2 ∧ (readHead r).entPlace r.ent = (1, 0, 64) ∧ r.step = 0 ∧ r.failing = [] ∧
      ((readHead r).lostStrips 1 0 (64 + 64)).2 = false ∧ (∀ c ∈ recordCodewords 0 (64 + 64), c ∉ ([] : List Nat)) ∧
      (readHead r).storedAt 1 0 = some stored ∧ stored.record.kind = 1 ∧
      (readHead r).expected r = (stored.record.check.reftag, stored.record.check.wgen) ∧ r.use ≠ 3) ∧
    ((∃ c ∈ recordCodewords 0 (64 + 64), c ∈ [0]) ∧
      0 < (readHead r).lastStep r ((recordCodewords 0 (64 + 64)).filter (fun c => [0].contains c))) ∧
    ((readHead f).read? 4 = some f ∧ f.failing ≠ [] ∧ (∀ c ∈ f.failing, c ∉ ([] : List Nat)) ∧ (∃ c ∈ f.failing, c ∈ [0]) ∧
      f.step + 1 < (readHead f).lastStep f (f.failing.filter (fun c => [0].contains c)) ∧
      (readHead f).lastStep f (f.failing.filter (fun c => [0].contains c)) ≤ ({ f with step := 1 } : ReadGrain).step + 1 ∧ f.source = 0) ∧
    ((readHead d).read? 4 = some d ∧ d.record = some record ∧ d.point = 5 ∧ (readHead d).dlaneOk 2 = true ∧
      laneFailure record .expansion = some (5, 0x5003, 0) ∧ d.lanes = [] ∧ e.lanes = [0] ∧ 0 ≠ 2 ∧ e.source = 0 ∧
      laneFailure record (.ok []) = none ∧ d.source = 0 ∧ d.use ≤ 1 ∧ d.rid = 4 ∧ crc64 [] = record.check.guard ∧
      (readHead d).rcmd? d.cntl d.qid d.cid = some readCmd ∧ readCmd.left.filter (· != d.grain) ≠ []) ∧
    (q.point = 8 ∧ q.use ≠ 3 ∧ record.kind = 1 ∧ (readHead q).expected q = (record.check.reftag, record.check.wgen) ∧
      NMap.find (readHead q).path.bands ((readHead q).entPlace q.ent).1 = some (band .home false) ∧
      ((readHead q).lostStrips ((readHead q).entPlace q.ent).1 ((readHead q).entPlace q.ent).2.1
        (64 + ((readHead q).entPlace q.ent).2.2)).1 ≤ (band .home false).m) ∧
    ((readHead k).read? 4 = some k ∧ k.source = 1 ∧ (readHead k).partnerAsk = true) ∧
    ((readHead n).read? 4 = some n ∧ n.point = 9 ∧ record.kind ≠ 4 ∧ n.source = 2 ∧ (readHead n).beyondRepair n = false ∧
      (readHead n).rcmd? n.cntl n.qid n.cid = some readCmd) ∧
    Ready readCmd.cntl readCmd.qid (readHead n) ∧
    ((readHead r).mapEnt 0 0 = some mapEnt ∧ mapEnt.wgen = 1 ∧ mapEnt.stored = true ∧ z.mapEnt 0 0 = some { mapEnt with kind := 2 } ∧
      (readHead r).mapEnt 0 9 = none) := by
  refine ⟨by decide +kernel, by decide +kernel, by decide +kernel, by decide +kernel, by decide +kernel, by decide +kernel, by decide +kernel,
    ⟨by decide +kernel, 1, cq 1 1, by decide +kernel⟩, by decide +kernel⟩

/-- The array's head with admission as given and eight dies and 100 free blocks on each module. -/
def hostHead (resvs : List (Nat × Resv)) : State :=
  let b := bandHead .paired [stripe 1 0]
  { b with
    adm := { resv := resvs }
    moor := { dx := { alive := true } }
    flash := { b.flash with free := (List.range 7).map (fun p => (p, 100)), dies := ((List.range 7).map (fun p => (List.range 8).map (128 * p + ·))).flatten }
    path := { b.path with stored := [{ stored with offset := 0 }], formatted := true } }

theorem host_ready : Ready 1 1 (hostHead []) := ⟨by decide +kernel, 1, cq 1 1, by decide +kernel⟩

theorem witness_HostCommandsRun :
    let s := hostHead []
    let y (e : Sqe) := (s.advanceTo 2000).fetched 1 1 e
    let h (e : Sqe) (l : List (Nat × Nat)) := (y e).asHeld 1 1 e l []
    let d : Sqe := { entry opDsm 1 with dw11 := 4 }
    let push : Sqe := { entry opWrite 1 with dw9 := 1 }
    (s.ctrlOn 0 = some 1 ∧ s.md.mode.frontEnd = true ∧ s.moor.fenced = false ∧ 8 / 8 < 20480 ∧ NMap.find s.nvq.cqs (8 / 8) = some (cq 1 1) ∧
      (cq 1 1).cntl = 1 ∧ NMap.find s.nvq.sqs (8 / 8) = some (sq 1 1) ∧ epochLater (bits 0x00010003 31 16) (sq 1 1).epoch = true ∧
      bits 0x00010003 15 0 < (sq 1 1).size ∧ (bits 0x00010003 15 0 + (sq 1 1).size - (sq 1 1).tail) % (sq 1 1).size ≠ 0 ∧
      (sq 1 1).deleting = none ∧ (cq 1 1).held = [] ∧ 12 / 8 = 1 ∧ 12 % 8 = 4 ∧ epochLater (bits 0x00010000 31 16) (cq 1 1).epoch = true ∧
      bits 0x00010000 15 0 < (cq 1 1).size ∧ (bits 0x00010000 15 0 + (cq 1 1).size - (cq 1 1).head) % (cq 1 1).size ≤
        ((cq 1 1).tail + (cq 1 1).size - (cq 1 1).head) % (cq 1 1).size) ∧
    (s.canFetch 1 1 = true ∧ s.write? s.adm.nextSeq = none ∧ s.ioRefusal 1 (entry opWrite 1) = none ∧
      (y (entry opWrite 1)).writeRefusal (h (entry opWrite 1) []) = none ∧ (y (entry opWrite 1)).tooLarge (h (entry opWrite 1) []) = false ∧
      (y (entry opWrite 1)).streamHeld (h (entry opWrite 1) []) = false ∧
      ((y (entry opWrite 1)).admitWrite (h (entry opWrite 1) [])).1 = .no ∧ pushOf (entry opWrite 1) = false ∧ pushOf push = true) ∧
    (s.ioRefusal 1 (entry opZeroes 1) = none ∧ ((y (entry opZeroes 1)).admitWrite (h (entry opZeroes 1) [])).1 = .no) ∧
    (bit d.dw11 2 = true ∧ s.ioRefusal 1 d = none ∧ s.rangePast d.nsid [(0, 4)] = false ∧ grainPlan (h d [(0, 4)]) ≠ [] ∧
      ((y d).admitWrite (h d [(0, 4)])).1 = .no) ∧
    (∀ op ∈ [opRead, opCompare], s.ioRefusal 1 (entry op 1) = none ∧
      (y (entry op 1)).beRefill.readsStopped (h (entry op 1) []) = false ∧
      ((y (entry op 1)).beRefill.bookReads (volOf 1) (grainsOf (slbaOf (entry op 1)) (nlbOf (entry op 1)))).isSome = true ∧
      grainsOf (slbaOf (entry op 1)) (nlbOf (entry op 1)) = [0] ∧ s.path.unknown.contains (unitKey (volOf 1) (0 / 4)) = false ∧
      s.viewEnt (volOf 1) 0 = some mapEnt ∧ mapEnt.stored = true) ∧
    ((entry 0 1).fuse = 0 ∧ (s.nsFor 1 1).isSome = true ∧ NMap.find s.nvq.ctrls 1 = some ctrl ∧ (∀ x ∈ ctrl.outstanding, x.1 = 0)) ∧
    s.md.mode ≠ .preservation := by
  refine ⟨by decide +kernel, by decide +kernel, by decide +kernel, by decide +kernel, by decide +kernel, by decide +kernel, by decide +kernel⟩

/-- A grain of a write, as stage 1 leaves it, and the write. -/
def grainDone : GrainOp :=
  { grain := 0, mask := 15, kind := 0, plain := padBytes 64 0, apptag := 0, formed := true, check := check, fingerprint := 77, dedup := .waiting,
    policy := 0, ddPolicy := 1, lane := .waiting, geom := 0, ciphered := false, payload := [], record := none, place := none, sealedAt := none,
    ackAt := none, receipt := false, failed := false }

def writeDone (acc : Option Nat) (x : GrainOp) : WriteOp :=
  { seq := 3, cntl := 1, qid := 1, dqn := 1, cid := 7, kind := opWrite, vol := 0, slba := 0, nlb := 1, resv := none, d := 0, fetch := 900,
    adm := 900, pushed := false, acc := acc, sepoch := 0, cmd := entry opWrite 1, grains := [x], slack := 0, syncWait := [], syncGot := [],
    syncMiss := [], nonceOut := false }

def pathHead (w : WriteOp) : State := { hostHead [] with adm := { writes := [w], nextSeq := 4 } }

theorem witness_WritePathCommandsRun :
    let w := writeDone none grainDone
    let s := pathHead w
    let a := pathHead (writeDone (some 1000) grainDone)
    let g : Sgt := { mirror := false, band := 1, offset := 0, reftag := 0, wgen := 1, guard := 0, refs := 1, keyslot := 5, pending := false,
                     plen := 64 }
    let ix : FpEnt := { fp := 77, guard := 0, keyslot := 5, pair := 0, sgt := 3 }
    let b : State := { a with ddup := { filter := filterBits 77, sgt := [(3, g)], index := [ix] } }
    let r : LaneResult := { consumed := [], output := [], fault := false }
    let y : GrainOp := { grainDone with dedup := .miss, lane := .raw }
    let p := pathHead (writeDone (some 1000) y)
    let z : GrainOp := { y with ciphered := true, payload := padBytes 64 1 }
    let q := pathHead (writeDone (some 1000) z)
    let d : ReadGrain := { readOp 0 4 with record := some record }
    (s.write? 3 = some w ∧ w.kind = opWrite ∧ w.acc = none ∧ w.pushed = false ∧ s.md.mode.frontEnd = true ∧ s.hasPi w = false) ∧
    (a.write? 3 = some (writeDone (some 1000) grainDone) ∧ (writeDone (some 1000) grainDone).grain? 0 = some grainDone ∧
      grainDone.dedup = .waiting ∧ a.ns? 0 = some ns ∧ grainDone.formed = true ∧ grainDone.merging = false ∧
      (a.advanceTo 2000).time.now < 1000 + 40000 ∧ a.dedupRuns = true ∧ a.clusterOk 0 = true ∧ a.lookup 77 0 5 none = some none ∧
      b.lookup 77 0 5 (some none) = some (some ix) ∧ 1000 + 40000 ≤ (a.advanceTo 41000).time.now) ∧
    (grainDone.kind = 0 ∧ grainDone.plain ≠ [] ∧ grainDone.lane = .waiting ∧ a.laneOk 5 = true ∧
      laneRow (grainDone.policy == 0 || a.md.mode == .preservation) (grainDone.policy == 2) grainDone.check.guard grainDone.geom 0 r = 2) ∧
    (p.pairOk 0 = true ∧ p.write? 3 = some (writeDone (some 1000) y) ∧ (writeDone (some 1000) y).grain? 0 = some y ∧ y.kind = 0 ∧
      y.ciphered = false ∧ y.failed = false ∧ y.resolved = true ∧ p.ns? 0 = some ns ∧ NMap.find p.ciph.slots ns.keyslot = some slot ∧
      (readHead d).read? 4 = some d ∧ d.point = 4) ∧
    (q.write? 3 = some (writeDone (some 1000) z) ∧ (writeDone (some 1000) z).ready = true ∧ (writeDone (some 1000) z).appended = false ∧
      (∀ v ∈ q.adm.writes, v.seq < 3 → v.appended = true) ∧ NMap.find q.path.bands q.path.homeStream.band = some (band .home false) ∧
      64 + z.payload.length ≤ q.bandRoom .home) := by
  refine ⟨by decide +kernel, by decide +kernel, by decide +kernel, by decide +kernel, by decide +kernel⟩

theorem acceptance_length : (padBytes 4096 0 : List Byte).length = 4096 * (writeDone none grainDone).nlb := by
  unfold padBytes; exact List.length_replicate

theorem witness_StreamCommandsRun :
    let x : Stripe := { stripe 3 0 with closed := false, bytes := 65536, transferred := [], programmed := [], sealedAt := none }
    let b := hostHead []
    let s : State := { b with path := { b.path with stripes := [x], homeStream := { band := 3, stripe := 0, pos := 70000 } } }
    let y : Stripe := { x with transferred := [0] }
    let t : State := { b with path := { b.path with stripes := [y] } }
    let m : State := { b with path := { b.path with bands := [(9, band .mirror false)] } }
    let w : WriteOp := writeDone (some 1000) { grainDone with record := some record }
    (s.stripe? (s.stream .home).band (s.stream .home).stripe = some x ∧ x.st = .home ∧ x.closed = false ∧ (s.stream .home).pos ≠ 0 ∧
      x.oldestParity ≤ slotOf (s.advanceTo 2000).time.now ∧ NMap.find s.path.bands (s.stream .home).band = some (band .home false)) ∧
    (s.moor.fenced = false ∧ s.stripe? 3 0 = some x ∧ stripReady (band .home false) x 0 = true ∧ x.transferred.contains 0 = false ∧
      (band .home false).dieOf 0 = some 0) ∧
    (t.stripe? 3 0 = some y ∧ y.transferred.contains 0 = true ∧ y.programmed.contains 0 = false) ∧
    (m.service = .paired ∧ NMap.find m.path.bands m.path.mirrorStream.band = some (band .mirror false) ∧
      ([record].map (fun r => 64 + r.plen)).sum ≤ m.bandRoom .mirror ∧ (head .sole).md.mode = .sole) ∧
    ((pathHead w).moor.resync = none ∧ (∀ v ∈ (pathHead w).adm.writes,
      WriteOp.durable ((pathHead w).needsAck v) { v with grains := v.grains.map (ackGrain [(1, 1500)]) } = false) ∧
      [(1, 1500)].find? (fun a => a.1 == record.seq) = some (1, 1500)) := by
  refine ⟨by decide +kernel, by decide +kernel, by decide +kernel, by decide +kernel, by decide +kernel⟩

theorem witness_TimerCommandsRun :
    let b := hostHead []
    let h : Held := { cntl := 1, qid := 1, dqn := 1, cmd := entry opWrite 1, ranges := [], hostData := [], resv := none, fetch := 900, hold := 900,
                      forCredit := false }
    let s : State := { b with adm := { held := [h] } }
    let l : State := { s with nvq := { s.nvq with sqs := [(1, { sq 1 1 with holdLimit := 1 }), (16384, sq 0 0)] } }
    let f : State := { s with flash := { s.flash with free := [] } }
    let q : Cq := { cq 1 1 with unnotified := 2, notifyFrom := 500 }
    let c : State := { s with nvq := { s.nvq with cqs := [(1, q)] } }
    ((s.advanceTo 8192).time.now % 8192 = 0 ∧ (s.advanceTo 8192).slotBegins.adm.held = [h] ∧ h.forCredit = false ∧
      (s.advanceTo 8192).slotBegins.pastLimit h = false ∧ ((s.advanceTo 8192).slotBegins.attempt h).1 = .no) ∧
    ((f.advanceTo 8192).slotBegins.adm.held = [h] ∧ ((f.advanceTo 8192).slotBegins.attempt h).1 = .room) ∧
    (l.adm.held.find? (fun h => h.cntl == 1 && h.qid == 1 && h.cmd.cid == 7) = some h ∧ (l.advanceTo 20000).pastLimit h = true) ∧
    Ready 1 1 l ∧ Settled 1 l ∧
    (c.moor.fenced = false ∧ NMap.find c.nvq.ctrls 1 = some ctrl ∧ NMap.find c.nvq.cqs 1 = some q ∧ q.cntl = 1 ∧ q.unnotified ≠ 0 ∧
      q.notifyFrom + ctrl.coalesce / 256 % 256 * 100000 ≤ (c.advanceTo 2000).time.now) := by
  refine ⟨by decide +kernel, by decide +kernel, by decide +kernel, ⟨by decide +kernel, 1, cq 1 1, by decide +kernel⟩, by unfold Settled; decide +kernel,
    by decide +kernel⟩

/-! ### Terms that are not well formed -/

/-- A bound on an operand, and a command that carries the operand: at the bound it is not well formed, one below it is. -/
def Bounded (c : Nat × (Nat → Instr)) : Bool := !(c.2 c.1).wf && (c.2 (c.1 - 1)).wf

theorem test_ill_formed_1 : ([
    (2 ^ 40, fun n => .registerWrite 0 .spi n 0), (2 ^ 40, fun n => .unmappedAccess 0 .spi n true),
    (2 ^ 40, fun n => .loHalfRead 0 .spi n), (2 ^ 40, fun n => .hiHalfWrite 0 .spi n 0), (65536, fun n => .doorbellWrite 0 n 0 0),
    (16384, fun n => .nvmWrite 0 n 0 (entry 0 1)), (65536, fun n => .nvmWrite 0 0 n (entry 0 1)),
    (256, fun n => .nvmWrite 0 0 0 { entry 0 1 with opcode := n }), (16384, fun n => .nvmRead 0 n 0 (entry 0 1)),
    (65536, fun n => .nvmRead 0 0 n (entry 0 1)), (256, fun n => .nvmRead 0 0 0 { entry 0 1 with opcode := n }),
    (16384, fun n => .compare 0 n 0 (entry 0 1) []), (65536, fun n => .compare 0 0 n (entry 0 1) []),
    (256, fun n => .compare 0 0 0 { entry 0 1 with opcode := n } []), (16384, fun n => .writeZeroes 0 n 0 (entry 0 1)),
    (65536, fun n => .writeZeroes 0 0 n (entry 0 1)), (256, fun n => .writeZeroes 0 0 0 { entry 0 1 with opcode := n }),
    (16384, fun n => .datasetManagement 0 n 0 (entry 0 1) []), (65536, fun n => .datasetManagement 0 0 n (entry 0 1) []),
    (256, fun n => .datasetManagement 0 0 0 { entry 0 1 with opcode := n } []), (16384, fun n => .flush 0 n 0 (entry 0 1)),
    (65536, fun n => .flush 0 0 n (entry 0 1)), (256, fun n => .flush 0 0 0 { entry 0 1 with opcode := n }),
    (16384, fun n => .invalidOpcode 0 n 0 (entry 0 1))] : List (Nat × (Nat → Instr))).all Bounded = true := by decide +kernel

theorem test_ill_formed_2 : ([
    (65536, fun n => .invalidOpcode 0 0 n (entry 0 1)), (256, fun n => .invalidOpcode 0 0 0 { entry 0 1 with opcode := n }),
    (16384, fun n => .holdLimitExpiry 0 n 0 0), (65536, fun n => .holdLimitExpiry 0 0 n 0), (65536, fun n => .holdLimitExpiry 0 0 0 n),
    (2 ^ 34, fun n => .inlineLookupAnswer 0 0 n 0 true none), (8, fun n => .inlineLookupAnswer 0 0 0 n true none),
    (2 ^ 34, fun n => .inlineBudgetExpiry 0 0 n),
    (2 ^ 34, fun n => .compressionOutcome 0 0 n 0 { consumed := [], output := [], fault := false }),
    (32, fun n => .compressionOutcome 0 0 0 n { consumed := [], output := [], fault := false }),
    (32, fun n => .cipherPassDone 0 (.read 0) n true), (20, fun n => .pageTransferDone 0 .home 0 0 n),
    (20, fun n => .programDone 0 .home 0 0 n true), (16384, fun n => .coalescingTimer 0 n), (16, fun n => .decompressionDone 0 0 n none),
    (16384, fun n => .partnerRepairRequest 0 n 0 0 0), (2 ^ 34, fun n => .partnerRepairRequest 0 0 n 0 0),
    (128, fun n => .islandGate 0 .cmp n), (128, fun n => .islandReady 0 .cmp n), (128, fun n => .islandWakeLate 0 .cmp n),
    (24, fun n => .linkTrainingStart 0 n), (24, fun n => .linkDown 0 n true), (16, fun n => .portRestartDone 0 n),
    (16384, fun n => .reservationCreate 0 n (entry 0 1))] : List (Nat × (Nat → Instr))).all Bounded = true := by decide +kernel

theorem test_ill_formed_3 : ([
    (256, fun n => .reservationCreate 0 0 { entry 0 1 with opcode := n }), (16384, fun n => .reservationChange 0 n (entry 0 1)),
    (256, fun n => .reservationChange 0 0 { entry 0 1 with opcode := n }), (16384, fun n => .reservationDelete 0 n (entry 0 1)),
    (256, fun n => .reservationDelete 0 0 { entry 0 1 with opcode := n }), (16384, fun n => .reservationQuery 0 n (entry 0 1)),
    (256, fun n => .reservationQuery 0 0 { entry 0 1 with opcode := n }), (16384, fun n => .reservationRebind 0 n (entry 0 1)),
    (256, fun n => .reservationRebind 0 0 { entry 0 1 with opcode := n }), (16384, fun n => .rebindDelete 0 n (entry 0 1)),
    (256, fun n => .rebindDelete 0 0 { entry 0 1 with opcode := n }), (8, fun n => .postProcessGrain 0 none true n),
    (16384, fun n => .snapshotCreate 0 n (entry 0 1)), (256, fun n => .snapshotCreate 0 0 { entry 0 1 with opcode := n }),
    (16384, fun n => .snapshotDelete 0 n (entry 0 1)), (256, fun n => .snapshotDelete 0 0 { entry 0 1 with opcode := n }),
    (16384, fun n => .snapshotClone 0 n (entry 0 1)), (256, fun n => .snapshotClone 0 0 { entry 0 1 with opcode := n }),
    (16384, fun n => .snapshotQuery 0 n (entry 0 1)), (256, fun n => .snapshotQuery 0 0 { entry 0 1 with opcode := n }),
    (16384, fun n => .snapshotList 0 n (entry 0 1)), (256, fun n => .snapshotList 0 0 { entry 0 1 with opcode := n }),
    (16384, fun n => .snapshotReclaimDone 0 n 0), (128, fun n => .channelTrainingDone 0 n true)] : List (Nat × (Nat → Instr))).all Bounded = true := by decide +kernel

theorem test_ill_formed_4 : ([
    (2048, fun n => .statusTimeout 0 n 0 true), (128, fun n => .busTimeout 0 n), (2048, fun n => .eraseDone 0 n 0 true),
    (2048, fun n => .eraseResume 0 n), (16, fun n => .modulePresent 0 n true true 0 0 0), (16, fun n => .moduleRoleAssigned 0 n true []),
    (16, fun n => .moduleRemoval 0 n), (20, fun n => .rebuildStripDone 0 0 0 n []), (16, fun n => .spareProbe 0 n true),
    (16384, fun n => .createIoSq 0 n (entry 0 1) true), (256, fun n => .createIoSq 0 0 { entry 0 1 with opcode := n } true),
    (16384, fun n => .createIoCq 0 n (entry 0 1) true), (256, fun n => .createIoCq 0 0 { entry 0 1 with opcode := n } true),
    (16384, fun n => .deleteIoSq 0 n (entry 0 1)), (256, fun n => .deleteIoSq 0 0 { entry 0 1 with opcode := n }),
    (16384, fun n => .deleteIoCq 0 n (entry 0 1)), (256, fun n => .deleteIoCq 0 0 { entry 0 1 with opcode := n }),
    (16384, fun n => .getLogPage 0 n (entry 0 1)), (256, fun n => .getLogPage 0 0 { entry 0 1 with opcode := n }),
    (16384, fun n => .identify 0 n (entry 0 1)), (256, fun n => .identify 0 0 { entry 0 1 with opcode := n }),
    (16384, fun n => .abort 0 n (entry 0 1)), (256, fun n => .abort 0 0 { entry 0 1 with opcode := n }),
    (16384, fun n => .setFeatures 0 n (entry 0 1))] : List (Nat × (Nat → Instr))).all Bounded = true := by decide +kernel

theorem test_ill_formed_5 : ([
    (256, fun n => .setFeatures 0 0 { entry 0 1 with opcode := n }), (16384, fun n => .setFeaturesHoldLimit 0 n (entry 0 1)),
    (256, fun n => .setFeaturesHoldLimit 0 0 { entry 0 1 with opcode := n }), (16384, fun n => .setFeaturesCompression 0 n (entry 0 1)),
    (256, fun n => .setFeaturesCompression 0 0 { entry 0 1 with opcode := n }), (16384, fun n => .setFeaturesDedup 0 n (entry 0 1)),
    (256, fun n => .setFeaturesDedup 0 0 { entry 0 1 with opcode := n }), (16384, fun n => .getFeatures 0 n (entry 0 1)),
    (256, fun n => .getFeatures 0 0 { entry 0 1 with opcode := n }), (16384, fun n => .asyncEventRequest 0 n (entry 0 1)),
    (256, fun n => .asyncEventRequest 0 0 { entry 0 1 with opcode := n }), (16384, fun n => .namespaceCreate 0 n (entry 0 1) 0 0 0),
    (256, fun n => .namespaceCreate 0 0 { entry 0 1 with opcode := n } 0 0 0), (16384, fun n => .namespaceDelete 0 n (entry 0 1)),
    (256, fun n => .namespaceDelete 0 0 { entry 0 1 with opcode := n }), (16384, fun n => .namespaceAttachment 0 n (entry 0 1) []),
    (256, fun n => .namespaceAttachment 0 0 { entry 0 1 with opcode := n } []), (16384, fun n => .selfTestShort 0 n (entry 0 1)),
    (256, fun n => .selfTestShort 0 0 { entry 0 1 with opcode := n }), (16384, fun n => .selfTestExtended 0 n (entry 0 1)),
    (256, fun n => .selfTestExtended 0 0 { entry 0 1 with opcode := n }), (16384, fun n => .selfTestAbort 0 n (entry 0 1)),
    (256, fun n => .selfTestAbort 0 0 { entry 0 1 with opcode := n }), (16384, fun n => .recorderRead 0 n (entry 0 1))] : List (Nat × (Nat → Instr))).all Bounded = true := by decide +kernel

theorem test_ill_formed_6 : ([
    (256, fun n => .recorderRead 0 0 { entry 0 1 with opcode := n }), (16384, fun n => .recorderClearArm 0 n (entry 0 1)),
    (256, fun n => .recorderClearArm 0 0 { entry 0 1 with opcode := n }), (16384, fun n => .recorderClear 0 n (entry 0 1)),
    (256, fun n => .recorderClear 0 0 { entry 0 1 with opcode := n }), (16384, fun n => .tallyCommand 0 n (entry 0 1)),
    (256, fun n => .tallyCommand 0 0 { entry 0 1 with opcode := n }), (16, fun n => .idmWrite 0 { pkt 1 [] with ver := n }),
    (16, fun n => .idmReadReq 0 { pkt 1 [] with ver := n }), (16, fun n => .readResp 0 { pkt 1 [] with ver := n }),
    (16, fun n => .notify 0 { pkt 1 [] with ver := n }), (16, fun n => .statusPacket 0 { pkt 1 [] with ver := n }),
    (16, fun n => .ack 0 { pkt 1 [] with ver := n }), (65536, fun n => .connect 0 true true true { connectMsg 0 with isess := n }),
    (65536, fun n => .accept 0 n true true { rsess := 0, wlog2 := 0, reason := 0, rpsn := 0, salt := 0, dbkey := 0, cntlid := 0 }),
    (16, fun n => .close 0 { pkt 1 [] with ver := n }), (16, fun n => .keepalive 0 { pkt 1 [] with ver := n }),
    (16, fun n => .rekey 0 { pkt 1 [] with ver := n }), (256, fun n => .malformedPacket 0 n (pkt 1 []) 0),
    (16, fun n => .malformedPacket 0 0 { pkt 1 [] with ver := n } 0), (16, fun n => .datagramDiscard 0 n 0 true),
    (65536, fun n => .datagramDiscard 0 0 n true), (65536, fun n => .ptpMessage 0 n 0), (65536, fun n => .connectResend 0 n)] : List (Nat × (Nat → Instr))).all Bounded = true := by decide +kernel

theorem test_ill_formed_7 : ([
    (65536, fun n => .connectTimeout 0 n), (65536, fun n => .sessionTimeout 0 n), (65536, fun n => .keepaliveDue 0 n),
    (65536, fun n => .ackDelay 0 n), (65536, fun n => .rtoExpiry 0 n 0), (2 ^ 32, fun n => .rtoExpiry 0 0 n),
    (65536, fun n => .ondemandUnitReady 0 n 0 0), (2 ^ 32, fun n => .ondemandUnitReady 0 0 n 0),
    (65536, fun n => .ondemandStallExpiry 0 n 0 0), (2 ^ 32, fun n => .ondemandStallExpiry 0 0 n 0),
    (65536, fun n => .backoffExpiry 0 n 0), (2 ^ 32, fun n => .backoffExpiry 0 0 n), (2 ^ 26, fun n => .workEntryPost 0 n (work none)),
    (2 ^ 26, fun n => .chainTimeout 0 n), (8, fun n => .voterEvaluation 0 n 0), (8, fun n => .voterEvaluation 0 0 n),
    (3, fun n => .voterCalibration 0 n 0), (65536, fun n => .replicationFrame 0 n (frame 1) none),
    (256, fun n => .replicationFrame 0 0 { (frame 1) with kind := n } none), (128, fun n => .replicationResult 0 n 0 (frame 1)),
    (4, fun n => .replicationResult 0 0 n (frame 1)), (256, fun n => .replicationResult 0 0 0 { (frame 1) with kind := n }),
    (128, fun n => .replicationInterval 0 n), (4, fun n => .syncTargetDeadline 0 0 n)] : List (Nat × (Nat → Instr))).all Bounded = true := by decide +kernel

theorem test_ill_formed_8 : ([
    (128, fun n => .targetResyncAttempt 0 n 0 true), (4, fun n => .targetResyncAttempt 0 0 n true),
    (16384, fun n => .linkCreate 0 n (entry 0 1) desc true true),
    (256, fun n => .linkCreate 0 0 { entry 0 1 with opcode := n } desc true true),
    (65536, fun n => .linkCreate 0 0 (entry 0 1) { desc with keyid := n } true true), (16384, fun n => .linkDelete 0 n (entry 0 1)),
    (256, fun n => .linkDelete 0 0 { entry 0 1 with opcode := n }), (16384, fun n => .targetAdd 0 n (entry 0 1) desc true true),
    (256, fun n => .targetAdd 0 0 { entry 0 1 with opcode := n } desc true true),
    (65536, fun n => .targetAdd 0 0 (entry 0 1) { desc with keyid := n } true true), (16384, fun n => .targetRemove 0 n (entry 0 1)),
    (256, fun n => .targetRemove 0 0 { entry 0 1 with opcode := n }), (16384, fun n => .replicaAccept 0 n (entry 0 1) desc),
    (256, fun n => .replicaAccept 0 0 { entry 0 1 with opcode := n } desc),
    (65536, fun n => .replicaAccept 0 0 (entry 0 1) { desc with keyid := n }), (16384, fun n => .sendSetNow 0 n (entry 0 1)),
    (256, fun n => .sendSetNow 0 0 { entry 0 1 with opcode := n }), (16384, fun n => .linkQuery 0 n (entry 0 1)),
    (256, fun n => .linkQuery 0 0 { entry 0 1 with opcode := n }), (16384, fun n => .podQuery 0 n (entry 0 1)),
    (256, fun n => .podQuery 0 0 { entry 0 1 with opcode := n }), (8, fun n => .podHeartbeat 0 n 0 0),
    (256, fun n => .podHeartbeat 0 0 0 n), (256, fun n => .partitionHandover 0 n 0)] : List (Nat × (Nat → Instr))).all Bounded = true := by decide +kernel

theorem test_ill_formed_9 : ([
    (4, fun n => .partitionHandover 0 0 n), (5, fun n => .stackBatchDone 0 n true 0), (5, fun n => .chainRebuilt 0 n),
    (128, fun n => .dmaBurst 0 n), (128, fun n => .descriptorFetch 0 n), (128, fun n => .busError 0 n 0 true 0),
    (128, fun n => .channelDisable 0 .spi n 0), (128, fun n => .channelEnable 0 .spi n 0), (2, fun n => .ldgSuspend 0 n),
    (2, fun n => .ldgResume 0 n), (2, fun n => .ldgPoll 0 n), (2, fun n => .ledgerProgramDone 0 n true),
    (2, fun n => .ledgerEraseDone 0 n true), (2, fun n => .minrunReached 0 n), (2, fun n => .eraseAgeLimit 0 n),
    (128, fun n => .fchDinfoRead 0 .spi n), (2 ^ 32, fun n => .spiWrite 0 n 0 [] 0), (40, fun n => .spiWrite 0 0 0 [] n),
    (2 ^ 32, fun n => .spiRead 0 n 0 0 0), (40, fun n => .spiRead 0 0 0 0 n), (2 ^ 32, fun n => .spiStatus 0 n 0 0),
    (2 ^ 32, fun n => .spiWrite16 0 n 0 none 0), (9, fun n => .railOutOfRange 0 n 0), (4, fun n => .clockLoss 0 n)] : List (Nat × (Nat → Instr))).all Bounded = true := by decide +kernel

theorem test_ill_formed_10 : ([
    (4, fun n => .clockRestore 0 n), (16, fun n => .temperatureReading 0 n 0), (9, fun n => .railBackInRange 0 n),
    (24, fun n => .linkUp 0 n true), (24, fun n => .uncorrectableFecBurst 0 n), (2 ^ 32, fun n => .spiHeaderRejected 0 0 n 0 0),
    (4, fun n => .flush 0 1 1 { entry 0 1 with fuse := n }), (65536, fun n => .flush 0 1 1 { entry 0 1 with cid := n }),
    (2 ^ 32, fun n => .flush 0 1 1 { entry 0 1 with nsid := n }), (256, fun n => .mirrorRecordArrival 0 [{ record with kind := n }]),
    (8192, fun n => .mirrorRecordArrival 0 [{ record with keyslot := n }]),
    (2 ^ 64, fun n => .mirrorRecordArrival 0 [{ record with seq := n }]),
    (2 ^ 64, fun n => .mirrorRecordArrival 0 [{ record with atick := n }]), (16, fun n => .idmWrite 0 { pkt 1 [] with opcode := n }),
    (65536, fun n => .idmWrite 0 { pkt 1 [] with dsess := n }), (65536, fun n => .idmWrite 0 { pkt 1 [] with queue := n }),
    (65536, fun n => .idmWrite 0 { pkt 1 [] with len := n }), (2 ^ 32, fun n => .idmWrite 0 { pkt 1 [] with psn := n }),
    (2 ^ 32, fun n => .idmWrite 0 { pkt 1 [] with xid := n }), (2 ^ 32, fun n => .idmWrite 0 { pkt 1 [] with key := n }),
    (2 ^ 64, fun n => .idmWrite 0 { pkt 1 [] with offset := n }), (2 ^ 32, fun n => .idmWrite 0 { pkt 1 [] with aux := n }),
    (256, fun n => .connect 0 true true true { connectMsg 0 with wlog2 := n }),
    (256, fun n => .connect 0 true true true { connectMsg 0 with purpose := n })] : List (Nat × (Nat → Instr))).all Bounded = true := by decide +kernel

theorem test_ill_formed_11 : ([
    (2 ^ 32, fun n => .connect 0 true true true { connectMsg 0 with ipsn := n }),
    (256, fun n => .connect 0 true true true { connectMsg 0 with port := n }),
    (16384, fun n => .replicationFrame 0 0 { (frame 1) with tvol := n } none),
    (2 ^ 34, fun n => .replicationFrame 0 0 { (frame 1) with grain := n } none),
    (2 ^ 32, fun n => .replicationFrame 0 0 { (frame 1) with fseq := n } none),
    (2 ^ 32, fun n => .replicaAccept 0 1 (entry 0 1) { desc with nsid := n }),
    (2 ^ 32, fun n => .replicaAccept 0 1 (entry 0 1) { desc with rtrip := n }),
    (128, fun n => .replicaAccept 0 1 (entry 0 1) { desc with linkid := n }), (2048, fun n => .bootStageDone 0 0 0 [.die n]),
    (128, fun n => .bootStageDone 0 0 0 [.channel n]), (32, fun n => .bootStageDone 0 0 0 [.clane n]),
    (16, fun n => .bootStageDone 0 0 0 [.dlane n]), (8, fun n => .bootStageDone 0 0 0 [.cluster n]),
    (32, fun n => .bootStageDone 0 0 0 [.pair n]), (3, fun n => .bootStageDone 0 0 0 [.voter n]),
    (128, fun n => .bootStageDone 0 0 0 [.island .cmp n])] : List (Nat × (Nat → Instr))).all Bounded = true := by decide +kernel

theorem test_payloads_have_their_length : ([.mirrorRecordArrival 0 [{ record with payload := [] }], .replicationFrame 0 0 { (frame 1) with payload := [0] } none,
    .mirrorRecordArrival 0 [{ record with plen := 65536 }], .replicationFrame 0 0 { (frame 1) with plen := 65536 } none,
    .rebuildStripDone 0 0 0 0 [20]] : List Instr).all (fun i => !i.wf) = true := by
  decide +kernel

/-! ### Worked examples of the spec -/

/-- Ch. 19, "Worked example: reading GCTL_MODE". -/
theorem test_spi_crcs : headerCrc 3 0x10 = 0xD6 ∧ wordCrc 0x1034 = 0xDB := by decide +kernel

/-- Ch. 5, "Worked example: one 18-bit detector grain": the geometry, and the first rows of Table 5.5. -/
theorem test_detector_grain : sampleGeom 5 18 = { j0 := 36409, n := 7281, h := 2, tail := 12 } ∧ sampleLen 5 18 = 16389 ∧
    zigzag 18 131200 262144 = 261887 ∧ zigzag 18 131206 131200 = 12 ∧ zigzag 18 131195 131206 = 21 := by decide +kernel

/-- Ch. 8, the test vector below Table 8.1. -/
theorem test_parity_vector : (List.range 3).map (fun t => parityByte t (padBytes 13 1)) = [0xFD, 0xDE, 0x16] := by decide +kernel

/-- Ch. 8, R174: bands on slot 5 of a 13+3 shape hold data strip 0 on member 5 and parity on members 2, 3 and 4. -/
theorem test_rotation : ([0, 13, 14, 15].map (fun i => Band.portOf { band .home false with slot := 5, k := 13, m := 3, members := List.range 16 } i)) =
    [some 5, some 2, some 3, some 4] := by decide +kernel

/-- Ch. 4, "Worked example: placing one record": stripe 5, strip 10, byte 19,200; its reference tag. -/
theorem test_placing_one_record : placeOf { band .home false with k := 13, m := 3 } (300 * 16448) = (5, 10, 19200) ∧
    refTag 37 250000 = 0x00940003D090 := by decide +kernel

/-- Table 3.7: the credit across windows 41 and 42. -/
theorem test_credit_across_windows :
    let r : Resv := { resv with rate := 260, burst := 96, used := 320, credit := 36, window := 40 }
    let a := r.refill 41
    let b := ({ a with used := 256 } : Resv).refill 42
    (a.used, a.credit, b.used, b.credit) = (0, 36, 0, 40) ∧ windowOf 41943040 = 40 ∧ windowOf 43000000 = 41 ∧ windowOf 44040192 = 42 := by
  decide +kernel

theorem test_decode_none : Sys2Proof.decodeTableWord 8 3 = none := by decide

end Sys2Proof.Tests
end

section
/-!
SUPPORT. Accesses at addresses that hold no register (R9): which addresses do hold one, what such an access does, and what it leaves
as it was.
-/

namespace Sys2Proof.Proofs

open Sys2Proof.Machine Sys2Proof.Safety

/-! ### Which addresses hold a register -/

/-- An address is that of one of the copies of a row of the register map. -/
def Holds (r : RegDesc) (a : Nat) : Prop :=
  if r.count = 1 then a = r.addr else r.addr ≤ a ∧ a < r.addr + r.stride * r.count ∧ (a - r.addr) % r.stride = 0

theorem findRegIn_isSome_of_holds {a : Nat} {r : RegDesc} {rows : List RegDesc} (hr : r ∈ rows) (ha : Holds r a) :
    (findRegIn a rows).isSome = true := by
  induction rows with
  | nil => cases hr
  | cons x rows ih =>
    unfold findRegIn
    rcases List.mem_cons.1 hr with rfl | hr
    · unfold Holds at ha
      split at ha <;> simp [*]
    · have hrest := ih hr
      split <;> split <;> simp [hrest]

/-- Each copy of a replicated row holds a register. -/
theorem findReg_isSome_of_copy {a addr n d : Nat} (hr : ∃ r ∈ regMap, r.addr = addr ∧ r.count = n ∧ r.stride = d) (hn : n ≠ 1)
    (hlo : addr ≤ a) (hhi : a < addr + d * n) (hd : (a - addr) % d = 0) : (findReg a).isSome = true := by
  obtain ⟨r, hr, rfl, rfl, rfl⟩ := hr
  exact findRegIn_isSome_of_holds hr (by rw [Holds, if_neg hn]; exact ⟨hlo, hhi, hd⟩)

theorem findReg_isSome_of_mem {a : Nat} {l : List Nat} (hl : l.all (fun b => (findReg b).isSome) = true) (ha : l.contains a = true) :
    (findReg a).isSome = true :=
  List.all_eq_true.1 hl a (List.contains_iff_mem.1 ha)

/-- A register that every flash channel's window of 512 bytes has at its own offset. -/
theorem findReg_isSome_of_channelWindow {a : Nat} (hblock : a / 2 ^ 16 = 0x0B)
    (hr : ∃ r ∈ regMap, r.addr = 0xB0000 + a % 0x200 ∧ r.count = 128 ∧ r.stride = 0x200) : (findReg a).isSome = true :=
  findReg_isSome_of_copy hr (by decide) (by omega) (by omega) (by omega)

/-- The aligned members of the latched sets are registers. -/
theorem findReg_isSome_of_setMember {a : Nat} (ha : a % 4 = 0) (h : setMember a = true) : (findReg a).isSome = true := by
  simp only [setMember, Bool.or_eq_true, Bool.and_eq_true, decide_eq_true_eq, beq_iff_eq] at h
  obtain (h | ⟨hlo, hhi⟩) | ⟨hblock, h⟩ := h
  · exact findReg_isSome_of_mem (by decide +kernel) h
  · have hword : (a - Reg.RCDR_RDATA0) % 4 = 0 := by unfold Reg.RCDR_RDATA0; omega
    exact findReg_isSome_of_copy (n := 32) (by decide +kernel) (by decide) hlo hhi hword
  · have hrows : ∀ off ∈ [0x18, 0x1C, 0x20], ∃ r ∈ regMap, r.addr = 0xB0000 + off ∧ r.count = 128 ∧ r.stride = 0x200 := by
      decide +kernel
    exact findReg_isSome_of_channelWindow hblock (hrows _ (List.contains_iff_mem.1 h))

/-- The high halves that paths latch are registers. -/
theorem findReg_isSome_of_latchedHigh {a : Nat} (h : latchedHigh a = true) : (findReg a).isSome = true := by
  simp only [latchedHigh, Bool.or_eq_true, decide_eq_true_eq] at h
  obtain h | ⟨hlo, hhi, hd⟩ := h
  · exact findReg_isSome_of_mem (by decide +kernel) h
  · exact findReg_isSome_of_copy (n := 32) (by decide +kernel) (by decide) hlo hhi hd

/-! ### What an access there reads and does -/

section
variable {a : Nat} (hf : findReg a = none)
include hf

/-- No path keeps a latched value for an unmapped address, so a read returns the live value, which is 0. -/
theorem regView_unmapped (ha : a % 4 = 0) (o : Origin) (s : State) : s.regView o a = 0 := by
  have hset : setMember a ≠ true := fun h => by simpa [hf] using findReg_isSome_of_setMember ha h
  have hhigh : latchedHigh a ≠ true := fun h => by simpa [hf] using findReg_isSome_of_latchedHigh h
  rw [State.regView, if_neg hset, if_neg hhigh, State.liveView, hf]

theorem gateWrite_unmapped {s : State} (ho : Open s) (o : Origin) (v : Word) (act : RegDesc → State → State) :
    s.gateWrite o a v act = s.unmapped := by
  simp [State.gateWrite, ho.1, ho.2, hf]

theorem gateRead_unmapped {s : State} (ho : Open s) (o : Origin) (act : RegDesc → State → State) :
    s.gateRead o a act = s.unmapped := by
  simp [State.gateRead, ho.1, ho.2, hf]

/-- An access at an address without a register, and not one that the cores' internal map takes (R304), only flags itself, whichever way
it goes. -/
theorem exec_unmappedAccess {o : Origin} {s : State} (ho : Open s) (hreach : a < regSpaceEnd ∨ (o ≠ .core ∧ o ≠ .repl)) (t : Nat)
    (w : Bool) : Sys2Proof.Machine.exec (.unmappedAccess t o a w) s = .next (s.advanceTo t).unmapped := by
  have hopen : Open (s.advanceTo t) := by simpa only [Open, advanceTo_md] using ho
  have hmap : ¬ (regSpaceEnd ≤ a ∧ (o = .core ∨ o = .repl)) := by
    rintro ⟨hend, hcore⟩
    obtain hlt | ⟨hc, hr⟩ := hreach
    · omega
    · exact hcore.elim hc hr
  show execUnmappedAccess t o a w s = _
  cases w with
  | true => simp [execUnmappedAccess, hf, hmap, gateWrite_unmapped hf hopen]
  | false => simp [execUnmappedAccess, hf, hmap, gateRead_unmapped hf hopen]

end

/-! ### What the flag changes -/

theorem reg_unmapped (s : State) : s.unmapped.reg Reg.GCTL_ERR = s.reg Reg.GCTL_ERR ||| 2 := reg_raise Reg.GCTL_ERR 2 s

theorem reg_unmapped_ne {b : Nat} (s : State) (hb : b ≠ Reg.GCTL_ERR) : s.unmapped.reg b = s.reg b :=
  reg_raise_ne 2 s (Ne.symm hb)

/-- After time has moved, the flag changes only the stored bits and the note of when hardware set them. -/
theorem unmapped_eq {s u : State} (hu : u = { s with time := u.time }) :
    u.unmapped = { s with time := u.time,
                          regs := { s.regs with vals := u.unmapped.regs.vals, raised := u.unmapped.regs.raised,
                                                raisedAt := u.unmapped.regs.raisedAt } } := by
  generalize u.time = time at hu
  subst hu
  rfl

/-- Settles O47: an unmapped address holds no latched value and no live one, and both gates answer it with the flag alone. -/
theorem unmappedAddressesReadZeroAndAreFlagged : Obligations.UnmappedAddressesReadZeroAndAreFlagged := by
  intro t a o w s ho ha hf hreach
  refine ⟨regView_unmapped hf ha o s, (s.advanceTo t).unmapped, exec_unmappedAccess hf ho hreach t w, ?_, fun b hb => ?_, ?_⟩
  · rw [reg_unmapped, reg_advanceTo]
  · rw [reg_unmapped_ne _ hb, reg_advanceTo]
  · exact unmapped_eq (advanceTo_eq t s)

end Sys2Proof.Proofs
end

section
/-!
SUPPORT. The reservation a path selects and the set it reads of it (R76): what a read of ADM_RINFO keeps for the path, and what a write
of ADM_RSEL leaves of it.
-/

namespace Sys2Proof.Proofs

open Sys2Proof.Machine Sys2Proof.Safety Sys2Proof.Laws

theorem open_advanceTo {s : State} (ho : Open s) (t : Nat) : Open (s.advanceTo t) := by simpa only [Open, advanceTo_md] using ho

/-! ### What a path reads of a latched set -/

/-- A member of a latched set reads as the path keeps it, whatever the state has become since. -/
theorem regView_of_setMember {a : Nat} (h : setMember a = true) (o : Origin) (s : State) : s.regView o a = s.pathReg o a := if_pos h

/-- The registers that R76 latches. -/
theorem setMember_of_mem_resvSet {a : Nat} (h : a ∈ [Reg.ADM_RRATE, Reg.ADM_RBURST, Reg.ADM_RDL, Reg.ADM_RUSE]) : setMember a = true :=
  (by decide : ∀ b ∈ [Reg.ADM_RRATE, Reg.ADM_RBURST, Reg.ADM_RDL, Reg.ADM_RUSE], setMember b = true) a h

theorem ne_admRsel_of_mem_resvSet {a : Nat} (h : a ∈ [Reg.ADM_RRATE, Reg.ADM_RBURST, Reg.ADM_RDL, Reg.ADM_RUSE]) : Reg.ADM_RSEL ≠ a :=
  (by decide : ∀ b ∈ [Reg.ADM_RRATE, Reg.ADM_RBURST, Reg.ADM_RDL, Reg.ADM_RUSE], Reg.ADM_RSEL ≠ b) a h

/-! ### A read of ADM_RINFO -/

@[simp] theorem pathReg_keep (o : Origin) (a v : Nat) (s : State) : (s.keep o a v).pathReg o a = BitVec.ofNat 32 v :=
  pathReg_setPathReg o a _ s

theorem pathReg_keep_ne {a b : Nat} (o : Origin) (v : Nat) (s : State) (h : a ≠ b) : (s.keep o a v).pathReg o b = s.pathReg o b :=
  pathReg_setPathReg_ne o _ s h

theorem exec_admRinfoRead {s : State} (ho : Open s) (t : Nat) (o : Origin) :
    Sys2Proof.Machine.exec (.admRinfoRead t o) s = .next ((s.advanceTo t).latchRinfo o) := by
  obtain ⟨⟨r, n⟩, hf⟩ := Option.isSome_iff_exists.1 (by decide +kernel : (findReg Reg.ADM_RINFO).isSome = true)
  have hopen := open_advanceTo ho t
  exact congrArg Host.Outcome.next (gateRead_of _ hopen.1 hopen.2 hf)

/-- After time has moved, the read changes only what the paths keep. -/
theorem latchRinfo_eq {s u : State} (hu : u = { s with time := u.time }) (o : Origin) :
    u.latchRinfo o = { s with time := u.time, regs := { s.regs with path := (u.latchRinfo o).regs.path } } := by
  generalize u.time = time at hu
  subst hu
  rfl

section
variable {s : State} {o : Origin} {r : Resv} (hr : s.resvSel o = some r)
include hr

theorem latchRinfo_of_selected : s.latchRinfo o =
    (((s.keep o Reg.ADM_RRATE (place r.rate 13 0)).keep o Reg.ADM_RBURST (place r.burst 13 0)).keep
      o Reg.ADM_RDL (place r.d 12 0)).keep o Reg.ADM_RUSE (s.ruse r) := by
  simp only [State.latchRinfo, hr]

theorem regView_latchRinfo_rate : (s.latchRinfo o).regView o Reg.ADM_RRATE = BitVec.ofNat 32 (r.rate % 2 ^ 14) := by
  rw [regView_of_setMember (by decide), latchRinfo_of_selected hr, pathReg_keep_ne _ _ _ (by decide), pathReg_keep_ne _ _ _ (by decide),
    pathReg_keep_ne _ _ _ (by decide), pathReg_keep]
  simp [place]

theorem regView_latchRinfo_burst : (s.latchRinfo o).regView o Reg.ADM_RBURST = BitVec.ofNat 32 (r.burst % 2 ^ 14) := by
  rw [regView_of_setMember (by decide), latchRinfo_of_selected hr, pathReg_keep_ne _ _ _ (by decide), pathReg_keep_ne _ _ _ (by decide),
    pathReg_keep]
  simp [place]

theorem regView_latchRinfo_deadline : (s.latchRinfo o).regView o Reg.ADM_RDL = BitVec.ofNat 32 (r.d % 2 ^ 13) := by
  rw [regView_of_setMember (by decide), latchRinfo_of_selected hr, pathReg_keep_ne _ _ _ (by decide), pathReg_keep]
  simp [place]

/-- USED and CREDIT are those of the window in which the read comes (R67). -/
theorem regView_latchRinfo_use : (s.latchRinfo o).regView o Reg.ADM_RUSE =
    BitVec.ofNat 32 ((r.refill (windowOf s.time.now)).used % 2 ^ 16 + (r.refill (windowOf s.time.now)).credit % 2 ^ 16 * 2 ^ 16) := by
  rw [regView_of_setMember (by decide), latchRinfo_of_selected hr, pathReg_keep]
  simp [State.ruse, place]

end

/-! ### A write of ADM_RSEL -/

/-- A write that reaches a register other than GCTL_ERR acts; reserved bits written 1 are flagged first (R8). -/
theorem gateWrite_flagging {o : Origin} {a : Nat} {v : Word} {s : State} {r : RegDesc} {n : Nat} (act : RegDesc → State → State)
    (ho : Open s) (hf : findReg a = some (r, n)) (hw : r.writable = true) (ha : r.when_.allows s.md.mode = true)
    (herr : a ≠ Reg.GCTL_ERR) : s.gateWrite o a v act = act r (if v &&& r.reserved = 0 then s else s.ignored) := by
  rw [apply_ite (act r)]
  simp [State.gateWrite, ho.1, ho.2, hf, hw, ha, herr]

/-- A register without ranges in its fields takes every value. -/
theorem badFields_eq_zero {a : Nat} (h : ∀ f ∈ fieldRanges, f.1 ≠ a) (v : Word) : badFields a v = 0 :=
  List.foldlRecOn (motive := (· = 0)) fieldRanges _ rfl fun w hw f hf => by simpa [h f hf] using hw

theorem plainWrite_of_perPath {a : Nat} {v : Word} {r : RegDesc} (hp : r.perPath = true) (hb : badFields a v = 0) (o : Origin)
    (s : State) : State.plainWrite o a v r s = s.setPathReg o a (v &&& r.maskOf (· == .rw)) := by
  have hall (m : Word) : m &&& ~~~ (0 : Word) = m := BitVec.and_allOnes
  simp only [State.plainWrite, hp, hb, hall, if_true]

theorem pathReg_ignored (o : Origin) (a : Nat) (s : State) : s.ignored.pathReg o a = s.pathReg o a := rfl

/-- The row of ADM_RSEL: one INDEX for each path, writable in every mode. -/
theorem findReg_admRsel : ∃ r, findReg Reg.ADM_RSEL = some (r, 0) ∧ r.perPath = true ∧ r.writable = true ∧ r.when_ = .any ∧
    r.maskOf (· == .rw) = fieldMask 8 0 ∧ r.reserved = ~~~ fieldMask 8 0 :=
  ⟨⟨"ADM_RSEL", 0x90020, 1, 0x0, .any, true, [⟨"INDEX", 8, 0, .rw, 0x0⟩]⟩, by decide +kernel⟩

/-- The path keeps INDEX, and a reserved bit written 1 is flagged. -/
theorem exec_registerWrite_admRsel {s : State} (ho : Open s) (t : Nat) (o : Origin) (v : Word) :
    Sys2Proof.Machine.exec (.registerWrite t o Reg.ADM_RSEL v) s =
      .next ((if v &&& ~~~ fieldMask 8 0 = 0 then s.advanceTo t else (s.advanceTo t).ignored).setPathReg o Reg.ADM_RSEL
        (v &&& fieldMask 8 0)) := by
  obtain ⟨r, hf, hpath, hw, hwhen, hmask, hres⟩ := findReg_admRsel
  have hplain : Sys2Proof.Machine.exec (.registerWrite t o Reg.ADM_RSEL v) s =
      .next ((s.advanceTo t).writePlain o Reg.ADM_RSEL v) := rfl
  rw [hplain, State.writePlain, gateWrite_flagging _ (open_advanceTo ho t) hf hw (by rw [hwhen]; rfl) (by decide),
    plainWrite_of_perPath hpath (badFields_eq_zero (by decide) v), hmask, hres]

/-- The mask of INDEX loses nothing of it. -/
theorem bits_and_indexMask (v : Word) : bits (v &&& fieldMask 8 0) 8 0 = bits v 8 0 := by
  rw [bits_and, (by decide : bits (fieldMask 8 0) 8 0 = 2 ^ 9 - 1), Nat.and_two_pow_sub_one_eq_mod]
  exact Nat.mod_mod _ _

/-- Another register of the path stands through the write. -/
theorem pathReg_selecting_ne {a : Nat} (h : Reg.ADM_RSEL ≠ a) (c : Prop) [Decidable c] (o : Origin) (v : Word) (s : State) :
    ((if c then s else s.ignored).setPathReg o Reg.ADM_RSEL v).pathReg o a = s.pathReg o a := by
  rw [pathReg_setPathReg_ne _ _ _ h]
  split
  · rfl
  · exact pathReg_ignored o a s

/-- Settles O48: the read keeps the selected reservation's four values where only the path's own latches stand, and the write of the
selection touches none of the four. -/
theorem reservationReadsReturnTheLatchedSet : Obligations.ReservationReadsReturnTheLatchedSet := by
  intro t o s ho
  constructor
  · intro r hr
    have hsel : (s.advanceTo t).resvSel o = some r := by simpa [State.resvSel] using hr
    exact ⟨(s.advanceTo t).latchRinfo o, exec_admRinfoRead ho t o, regView_latchRinfo_rate hsel, regView_latchRinfo_burst hsel,
      regView_latchRinfo_deadline hsel, regView_latchRinfo_use hsel, latchRinfo_eq (advanceTo_eq t s) o⟩
  · intro v
    refine ⟨_, exec_registerWrite_admRsel ho t o v, ?_, fun a ha => ?_⟩
    · rw [pathReg_setPathReg, bits_and_indexMask]
    · rw [regView_of_setMember (setMember_of_mem_resvSet ha), regView_of_setMember (setMember_of_mem_resvSet ha),
        pathReg_selecting_ne (ne_admRsel_of_mem_resvSet ha), pathReg_advanceTo]

end Sys2Proof.Proofs
end

section
/-!
SUPPORT. The tide counter through a Reset (R354): a device that leaves Reset is in Locked or Boot, and leaving takes no time.
-/

namespace Sys2Proof.Proofs

open Sys2Proof.Machine Sys2Proof.Safety Sys2Proof.Laws

/-! ### Transitions and the clock -/

/-- Only a transition to a mode of the slow clock moves the clock's own state: there the fraction starts anew (R45). -/
theorem changeMode_time {m : Mode} (hslack : m ≠ .slack) (hreset : m ≠ .reset) (c : Nat) (s : State) :
    (s.changeMode m c).time = s.time := by
  rw [(changeMode_after m c s).time (by decide), if_neg (by simp [hslack, hreset])]

theorem startRecorder_time (s : State) : s.startRecorder.time = s.time := (State.startRecorder_frame s).time (by decide)

theorem startRecorder_md (s : State) : s.startRecorder.md = s.md := (State.startRecorder_frame s).md (by decide)

theorem recordAllKept_time (s : State) : s.recordAllKept.time = s.time := (State.recordAllKept_frame s).time (by decide)

theorem recordAllKept_mode (s : State) : s.recordAllKept.md.mode = s.md.mode := (State.recordAllKept_frame s).mode (by decide)

/-! ### Leaving Reset -/

theorem leaveReset_time (s : State) : s.leaveReset.time = s.time := by
  unfold State.leaveReset
  dsimp only
  split
  · rw [recordAllKept_time, changeMode_time (by decide) (by decide), startRecorder_time]
  · rw [recordAllKept_time]
    dsimp only
    rw [(State.record_frame _ _ _).time (by decide), changeMode_time (by decide) (by decide), startRecorder_time]

/-- The maker test fuse alone decides between the two ways out (R36). -/
theorem leaveReset_mode (s : State) : s.leaveReset.md.mode = if s.md.makerFuse then .locked else .boot := by
  unfold State.leaveReset
  dsimp only
  rw [startRecorder_md]
  split
  · rw [recordAllKept_mode, (changeMode_entered _ _ _).1]
  · rw [recordAllKept_mode]
    dsimp only
    rw [(State.record_frame _ _ _).mode (by decide), (changeMode_entered _ _ _).1]

/-- Neither way out is a mode of the slow clock (R353). -/
theorem leaveReset_fast (s : State) : s.leaveReset.md.mode ≠ .reset ∧ s.leaveReset.slowClock = false := by
  rw [State.slowClock, leaveReset_mode]
  cases s.md.makerFuse <;> decide

/-- The three inputs sampled as high, with the tick at which they rose: the state that RESET_RELEASE leaves Reset from. -/
def releasedPins (s : State) : State :=
  { s with md := { s.md with
      rstN := true, pwrgd := true, pwrFailN := true
      rstRise := if !(s.md.rstN && s.md.pwrgd) then s.time.now else s.md.rstRise } }

/-- In Reset, with nothing holding the device there (R406, R411), three high inputs end it. -/
theorem exec_resetRelease {s : State} (hrun : s.time.running = true) (hmode : s.md.mode = .reset) (hheld : s.md.heldInReset = false)
    (htrip : s.md.thermtripN = true) (t : Nat) :
    Sys2Proof.Machine.exec (.resetRelease t true true true) s = .next (releasedPins (s.advanceTo t)).leaveReset := by
  show execResetRelease t true true true s = _
  simp [execResetRelease, hrun, hmode, hheld, htrip, releasedPins]

/-- Settles O6: a power-on writes the counter anew, leaving Reset takes no time and ends in a mode of full resolution, and the frame of
every other command lets the counter only grow. -/
theorem tideNeverRunsBack : Obligations.TideNeverRunsBack := by
  refine ⟨fun t s => ?_, fun t s hrun hmode hheld htrip => ?_, fun c s u hc hu => ?_⟩
  · exact ⟨_, rfl, rfl, rfl⟩
  · have htime : (releasedPins (s.advanceTo t)).leaveReset.time = (s.advanceTo t).time := leaveReset_time _
    obtain ⟨hleft, hfast⟩ := leaveReset_fast (releasedPins (s.advanceTo t))
    refine ⟨_, exec_resetRelease hrun hmode hheld htrip t, hleft, hfast, htime, fun t' ht' => advanceTo_now ?_ hfast ht'⟩
    rw [htime, advanceTo_running, hrun]
  · exact (exec_frame c s u hc hu).now

end Sys2Proof.Proofs
end

section
/-!
SUPPORT. The CRC-8 of the management SPI as long division (R388): one step of the CRC brings down one bit of the message, so a message with
its CRC behind it is a multiple of the polynomial.
-/

namespace Sys2Proof.Proofs

open Sys2Proof.Machine

/-! ### Multiples of the polynomial -/

/-- One step of the multiplication by 0x107 without carries: the row that bit `i` of the factor adds. -/
def addRow (q : Nat) (x : BitVec 48) (i : Nat) : BitVec 48 :=
  if q.testBit i then x ^^^ BitVec.ofNat 48 (0x107 * 2 ^ i) else x

/-- A multiple of x⁸ + x² + x + 1 by a factor of `n` bits. -/
def CrcMultiple (n : Nat) (x : BitVec 48) : Prop :=
  ∃ q : Nat, q < 2 ^ n ∧ x = (List.range n).foldl (addRow q) 0

theorem ofNat_row_succ (i : Nat) : BitVec.ofNat 48 (0x107 * 2 ^ (i + 1)) = BitVec.ofNat 48 (0x107 * 2 ^ i) <<< 1 := by
  rw [BitVec.shiftLeft_eq_mul_twoPow]
  apply BitVec.eq_of_toNat_eq
  simp [pow_succ]
  omega

theorem addRow_succ (q : Nat) (b : Bool) (x z : BitVec 48) (i : Nat) :
    addRow (Nat.bit b q) (x <<< 1 ^^^ z) (i + 1) = addRow q x i <<< 1 ^^^ z := by
  unfold addRow
  rw [Nat.testBit_bit_succ, ofNat_row_succ]
  split
  · rw [BitVec.shiftLeft_xor_distrib, BitVec.xor_assoc, BitVec.xor_assoc, BitVec.xor_comm z]
  · rfl

theorem foldl_addRow_succ (q : Nat) (b : Bool) (z : BitVec 48) (l : List Nat) (x : BitVec 48) :
    (l.map Nat.succ).foldl (addRow (Nat.bit b q)) (x <<< 1 ^^^ z) = l.foldl (addRow q) x <<< 1 ^^^ z := by
  induction l generalizing x with
  | nil => rfl
  | cons i l ih => rw [List.map_cons, List.foldl_cons, List.foldl_cons, Nat.succ_eq_add_one, addRow_succ, ih]

theorem CrcMultiple.zero : CrcMultiple 0 0 := ⟨0, by decide, rfl⟩

/-- The factor grows by one bit at its low end. -/
theorem CrcMultiple.succ {n : Nat} {x : BitVec 48} (h : CrcMultiple n x) (b : Bool) :
    CrcMultiple (n + 1) (x <<< 1 ^^^ if b then 0x107 else 0) := by
  obtain ⟨q, hq, rfl⟩ := h
  refine ⟨Nat.bit b q, ?_, ?_⟩
  · exact Nat.bit_lt_two_pow_succ_iff.mpr hq
  · have hlow : addRow (Nat.bit b q) 0 0 = (0 : BitVec 48) <<< 1 ^^^ if b then 0x107 else 0 := by
      rw [addRow, Nat.testBit_bit_zero]
      cases b <;> rfl
    rw [List.range_succ_eq_map, List.foldl_cons, hlow, foldl_addRow_succ]

/-! ### Steps of the CRC -/

/-- A step shifts the remainder and, when a bit leaves it, takes the polynomial off. -/
theorem setWidth_crc8Step_one (c : Byte) :
    (crc8Step 1 c).setWidth 48 = c.setWidth 48 <<< 1 ^^^ if decide (128 ≤ c.toNat) then 0x107 else 0 := by
  revert c
  decide +kernel

/-- With remainder `c` the bits brought down so far are a multiple; `k` steps bring down `k` more. -/
theorem CrcMultiple.steps {n k : Nat} {y : BitVec 48} {c : Byte} (h : CrcMultiple n (y ^^^ c.setWidth 48)) :
    CrcMultiple (n + k) (y <<< k ^^^ (crc8Step k c).setWidth 48) := by
  induction k generalizing n y c with
  | zero => simpa [crc8Step] using h
  | succ k ih =>
    have hone : CrcMultiple (n + 1) (y <<< 1 ^^^ (crc8Step 1 c).setWidth 48) := by
      rw [setWidth_crc8Step_one, ← BitVec.xor_assoc, ← BitVec.shiftLeft_xor_distrib]
      exact h.succ _
    have hrest := ih hone
    rwa [← BitVec.shiftLeft_add, Nat.add_assoc, Nat.add_comm 1 k] at hrest

/-! ### Messages -/

/-- A byte put behind a number lies in the eight bits that the shift clears. -/
theorem ofNat_pushByte (m : Nat) (b : Byte) :
    BitVec.ofNat 48 (m * 2 ^ 8 + b.toNat) = BitVec.ofNat 48 m <<< 8 ^^^ b.setWidth 48 := by
  apply BitVec.eq_of_getLsbD_eq
  intro i hi
  rw [Nat.mul_comm, BitVec.getLsbD_ofNat, Nat.testBit_two_pow_mul_add m b.isLt, BitVec.getLsbD_xor, BitVec.getLsbD_shiftLeft,
    BitVec.getLsbD_ofNat, BitVec.getLsbD_setWidth]
  by_cases hlow : i < 8
  · rw [BitVec.testBit_toNat]
    simp [hlow, hi]
  · have hclear : b.getLsbD i = false := BitVec.getLsbD_of_ge b i (by omega)
    simp [hlow, hi, hclear]
    omega

theorem crc8_append (bs : List Byte) (b : Byte) : crc8 (bs ++ [b]) = crc8Step 8 (crc8 bs ^^^ b) := by
  simp [crc8]

/-- A message, most significant byte first, with its CRC-8 behind it is a multiple of the polynomial. -/
theorem crcMultiple_crc8 (bs : List Byte) :
    CrcMultiple (8 * bs.length) (BitVec.ofNat 48 (leNat bs.reverse * 2 ^ 8 + (crc8 bs).toNat)) := by
  induction bs using List.reverseRecOn with
  | nil => exact CrcMultiple.zero
  | append_singleton bs b ih =>
    have hfed : BitVec.ofNat 48 (leNat bs.reverse * 2 ^ 8 + (crc8 bs).toNat) =
        BitVec.ofNat 48 (leNat (bs ++ [b]).reverse) ^^^ (crc8 bs ^^^ b).setWidth 48 := by
      have hlast : leNat (bs ++ [b]).reverse = leNat bs.reverse * 2 ^ 8 + b.toNat := by
        rw [List.reverse_append, List.reverse_singleton, List.singleton_append, leNat]
        omega
      rw [hlast, ofNat_pushByte _ b, ofNat_pushByte, BitVec.setWidth_xor, BitVec.xor_assoc, BitVec.xor_comm (b.setWidth 48), BitVec.xor_assoc,
        BitVec.xor_self, BitVec.xor_zero]
    rw [hfed] at ih
    rw [ofNat_pushByte, crc8_append, List.length_append]
    exact ih.steps

theorem leNat_leBytes (n v : Nat) : leNat (leBytes n v) = v % 256 ^ n := by
  induction n generalizing v with
  | zero => simp [leBytes, leNat, Nat.mod_one]
  | succ n ih => rw [leBytes, leNat, ih, BitVec.toNat_ofNat, Nat.pow_succ' (m := 256), Nat.mod_mul]

theorem leNat_append (xs ys : List Byte) : leNat (xs ++ ys) = leNat xs + 256 ^ xs.length * leNat ys := by
  induction xs with
  | nil => simp [leNat]
  | cons b xs ih => rw [List.cons_append, leNat, leNat, ih, List.length_cons, pow_succ']; ring

/-- The header as it is sent spells the opcode above the address. -/
theorem leNat_reverse_header {op addr : Nat} (hop : op < 2 ^ 8) (haddr : addr < 2 ^ 32) :
    leNat (leBytes 1 op ++ beBytes 4 addr).reverse = op * 2 ^ 32 + addr := by
  rw [List.reverse_append, beBytes, List.reverse_reverse, leNat_append, leNat_leBytes]
  have hlen : (leBytes 4 addr).length = 4 := rfl
  have hone : (leBytes 1 op).reverse = leBytes 1 op := rfl
  rw [hlen, hone, leNat_leBytes]
  omega

/-- Settles O49: both CRCs are the remainder of the long division of the bytes sent. -/
theorem spiCrcsDivideByTheirPolynomial : Obligations.SpiCrcsDivideByTheirPolynomial := by
  refine ⟨fun op addr hop haddr => ?_, fun w => ?_⟩
  · have h := crcMultiple_crc8 (leBytes 1 op ++ beBytes 4 addr)
    rw [leNat_reverse_header hop haddr, Nat.add_mul, Nat.mul_assoc] at h
    exact h
  · have h := crcMultiple_crc8 (beBytes 4 w.toNat)
    rw [beBytes, List.reverse_reverse, leNat_leBytes, Nat.mod_eq_of_lt (by simpa using w.isLt)] at h
    exact h

end Sys2Proof.Proofs
end

section
/-!
SUPPORT. A step of the block: the command at the front of the queue, or an idle tick; and what every step keeps, whatever the command:
the canonical form of both byte memories and the queue.
-/

namespace Sys2Proof.Proofs

open Sys2Proof.Machine Sys2Proof.Safety Sys2Proof.Laws

-- One proof after another, as in the tests: proofs that wait for each other would each hold a stack.
set_option Elab.async false

/-! ### What every command keeps -/

/-- A power-on may come from any mode: it leaves the queue and the canonical memories as entering Reset leaves them. -/
theorem exec_powerOn_keeps {t : Nat} {s u : State} (hu : Sys2Proof.Machine.exec (.powerOn t) s = .next u) :
    u.pending = s.pending ∧ (Canonical s → Canonical u) := by
  obtain ⟨hqueue, hmem, hldg⟩ := execPowerOn_frame t s u hu
  exact ⟨hqueue, fun hc => ⟨hmem hc.1, hldg hc.2⟩⟩

/-- No command touches the queue or takes a canonical memory out of its form. -/
theorem exec_keeps {c : Instr} {s u : State} (hu : Sys2Proof.Machine.exec c s = .next u) :
    u.pending = s.pending ∧ (Canonical s → Canonical u) := by
  by_cases hp : ∃ t, c = .powerOn t
  · obtain ⟨t, rfl⟩ := hp
    exact exec_powerOn_keeps hu
  · have f := exec_frame c s u (fun t ht => hp ⟨t, ht⟩) hu
    exact ⟨f.pending, fun hc => ⟨f.memWf hc.1, f.ldgWf hc.2⟩⟩

/-! ### Steps -/

theorem step_of_command {c : Instr} {rest : List Instr} {s : State} (h : s.pending = c :: rest) :
    Sys2Proof.Machine.step s = Sys2Proof.Machine.exec c { s with pending := rest } := by
  rw [Sys2Proof.Machine.step, h]
  rfl

theorem step_of_idle {s : State} (h : s.pending = []) : Sys2Proof.Machine.step s = .next s.idleTick := by
  rw [Sys2Proof.Machine.step, h]

theorem idleTick_eq (s : State) : s.idleTick = { s with time := s.idleTick.time } := by
  unfold State.idleTick
  split
  · rfl
  · split <;> rfl

/-- Settles O1: the step's match takes the front command and leaves the queue's rest. -/
theorem stepRunsFrontCommand : Obligations.StepRunsFrontCommand :=
  fun _ _ _ h => step_of_command h

/-- Settles O2: the three branches of the idle tick. -/
theorem idleStepMovesTimeOnly : Obligations.IdleStepMovesTimeOnly := by
  intro s h
  refine ⟨s.idleTick, step_of_idle h, idleTick_eq s, fun hrun => ?_, fun hrun hslow => ?_, fun hrun hslow => ?_⟩
  · simp [State.idleTick, hrun]
  · simp [State.idleTick, hrun, hslow]
  · simp [State.idleTick, hrun, hslow, State.edges, edgeTicks, edgeFrac]

/-- Settles O3: an idle tick touches no memory, and no command takes one out of canonical form. -/
theorem everyStepKeepsMemoriesCanonical : Obligations.EveryStepKeepsMemoriesCanonical := by
  intro s u hc hu
  cases hp : s.pending with
  | nil =>
    rw [step_of_idle hp] at hu
    obtain rfl := Host.Outcome.next.inj hu
    rw [idleTick_eq]
    exact hc
  | cons c rest =>
    rw [step_of_command hp] at hu
    exact (exec_keeps hu).2 hc

/-- Settles O4: both memories are empty at reset. -/
theorem resetMemoriesCanonical : Obligations.ResetMemoriesCanonical :=
  ⟨⟨by decide, by decide⟩, rfl⟩

/-- Settles O5, command by command through their frames. -/
theorem commandsLeaveTheQueue : Obligations.CommandsLeaveTheQueue :=
  fun _ _ _ hu => (exec_keeps hu).1

end Sys2Proof.Proofs
end

section
/-!
SUPPORT. Writes of registers of plain fields (R7, R8, R12), and accesses that reach no register (R7, R8, R387).
-/

namespace Sys2Proof.Proofs

open Sys2Proof.Machine Sys2Proof.Safety Sys2Proof.Laws

-- One proof after another, as in the tests: proofs that wait for each other would each hold a stack.
set_option Elab.async false

/-! ### Time that has passed -/

/-- What holds of a state after any passage of time holds after that to a tick. -/
theorem after_advanceTo {P : State → Prop} {s : State} (t : Nat) (h : ∀ time, P { s with time := time }) : P (s.advanceTo t) := by
  rw [advanceTo_eq]
  exact h _

/-! ### The stored bits after a plain write -/

/-- The bits a register of plain fields holds after a write (Table 0.6, R12). -/
def writtenBits (r : RegDesc) (old v fresh : Word) : Word :=
  ((old &&& ~~~ r.maskOf (· == .rw)) ||| (v &&& r.maskOf (· == .rw))) &&& ~~~ (v &&& r.maskOf (· == .w1c) &&& ~~~ fresh)

section
variable {o : Origin} {a : Nat} {v : Word} {r : RegDesc} (hp : r.perPath = false) (hb : badFields a v = 0)
include hp hb

theorem plainWrite_of_stored (s : State) : State.plainWrite o a v r s =
    if writtenBits r (s.reg a) v (s.freshBits a) = s.reg a then s else s.setReg a (writtenBits r (s.reg a) v (s.freshBits a)) := by
  have hall (m : Word) : m &&& ~~~ (0 : Word) = m := BitVec.and_allOnes
  simp only [State.plainWrite, hp, hb, hall, writtenBits, Bool.false_eq_true, if_false, if_true]
  rfl

theorem reg_plainWrite (s : State) : (State.plainWrite o a v r s).reg a = writtenBits r (s.reg a) v (s.freshBits a) := by
  rw [plainWrite_of_stored hp hb]
  split
  · exact Eq.symm ‹_›
  · exact reg_setReg a _ s

theorem reg_plainWrite_ne {b : Nat} (h : a ≠ b) (s : State) : (State.plainWrite o a v r s).reg b = s.reg b := by
  rw [plainWrite_of_stored hp hb]
  split
  · rfl
  · exact reg_setReg_ne _ s h

/-- A plain write changes the stored bits alone. -/
theorem plainWrite_eq (s : State) : State.plainWrite o a v r s =
    { s with regs := { s.regs with vals := (State.plainWrite o a v r s).regs.vals } } := by
  rw [plainWrite_of_stored hp hb]
  split <;> rfl

end

/-- Within the register space, a write whose register has no operation of its own is one of plain fields. -/
theorem exec_registerWrite_plain {t : Nat} {o : Origin} {a : Nat} {v : Word} {s : State} (ha : a < regSpaceEnd)
    (hown : (s.advanceTo t).writeOwn o a v = none) :
    Sys2Proof.Machine.exec (.registerWrite t o a v) s = .next ((s.advanceTo t).writePlain o a v) := by
  show Host.Outcome.next ((s.advanceTo t).busWrite o a v) = _
  rw [State.busWrite, if_neg (by omega), State.writeReg, hown, Option.getD_none]

/-- Settles O7: nothing turns the write away, so its fields act on the stored bits. -/
theorem plainRegisterWrite : Obligations.PlainRegisterWrite := by
  intro t o a v s r n ho ha hf hown hw hallows hp hres hbad
  have hopen := open_advanceTo ho t
  have hrun : (s.advanceTo t).writePlain o a v = State.plainWrite o a v r (s.advanceTo t) :=
    gateWrite_of _ hopen.1 hopen.2 hf hw (by rwa [advanceTo_md]) hres
  refine ⟨_, exec_registerWrite_plain ha hown, ?_, fun b hb => ?_, ?_⟩
  · rw [hrun, reg_plainWrite hp hbad, reg_advanceTo]
    rfl
  · rw [hrun, reg_plainWrite_ne hp hbad (Ne.symm hb), reg_advanceTo]
  · rw [hrun]
    exact after_advanceTo (P := fun x => State.plainWrite o a v r x = { s with
      time := x.time, regs := { s.regs with vals := (State.plainWrite o a v r x).regs.vals } }) t
      fun time => plainWrite_eq hp hbad { s with time := time }

/-! ### Accesses that reach no register -/

theorem gateWrite_readOnly {o : Origin} {a : Nat} {v : Word} {s : State} {r : RegDesc} {n : Nat} (act : RegDesc → State → State)
    (ho : Open s) (hf : findReg a = some (r, n)) (hw : r.writable = false) : s.gateWrite o a v act = s.ignored := by
  simp [State.gateWrite, ho.1, ho.2, hf, hw]

/-- The flag of a reserved bit written to GCTL_ERR itself outlives the write. -/
theorem gateWrite_errReserved {o : Origin} {v : Word} {s : State} {r : RegDesc} {n : Nat} (act : RegDesc → State → State)
    (ho : Open s) (hf : findReg Reg.GCTL_ERR = some (r, n)) (hw : r.writable = true) (ha : r.when_.allows s.md.mode = true)
    (hres : v &&& r.reserved ≠ 0) : s.gateWrite o Reg.GCTL_ERR v act = (act r s).ignored := by
  simp only [State.gateWrite, ho.1, ho.2, hf, hw, ha, if_neg hres]
  rfl

theorem gateWrite_inReset {o : Origin} {a : Nat} {v : Word} {s : State} (act : RegDesc → State → State) (h : s.md.mode = .reset) :
    s.gateWrite o a v act = s := if_pos h

theorem gateRead_inReset {o : Origin} {a : Nat} {s : State} (act : RegDesc → State → State) (h : s.md.mode = .reset) :
    s.gateRead o a act = s := if_pos h

theorem reg_ignored (s : State) : s.ignored.reg Reg.GCTL_ERR = s.reg Reg.GCTL_ERR ||| 1 := reg_raise Reg.GCTL_ERR 1 s

theorem reg_ignored_ne {b : Nat} (s : State) (hb : b ≠ Reg.GCTL_ERR) : s.ignored.reg b = s.reg b := reg_raise_ne 1 s (Ne.symm hb)

/-- Raising bits of one register leaves what hardware set of another in this cycle. -/
theorem freshBits_raise_ne {a b : Nat} (m : Nat) (s : State) (h : a ≠ b) : (s.raise a m).freshBits b = s.freshBits b := by
  simp [State.freshBits, State.raise, State.tickRaised, State.slowClock, getD_put_ne _ _ _ h]

theorem bit_or_one (w : Word) : bit (w ||| 1) 0 = true := by rw [bit_or]; simp [bit, bits]

/-- After time has moved, the flag changes only the stored bits and the note of when hardware set them. -/
theorem ignored_eq (t : Nat) (s : State) : (s.advanceTo t).ignored = { s with
    time := (s.advanceTo t).time
    regs := { s.regs with vals := (s.advanceTo t).ignored.regs.vals, raised := (s.advanceTo t).ignored.regs.raised,
                          raisedAt := (s.advanceTo t).ignored.regs.raisedAt } } :=
  after_advanceTo (P := fun x => x.ignored = { s with time := x.time, regs := { s.regs with
    vals := x.ignored.regs.vals, raised := x.ignored.regs.raised, raisedAt := x.ignored.regs.raisedAt } }) t fun _ => rfl

/-- Settles O8: each access ends at the gate, with the flag or, in Reset, without a trace. -/
theorem accessesThatReachNoRegister : Obligations.AccessesThatReachNoRegister := by
  refine ⟨fun t o a v s r n ho ha hf hown hw => ?_, fun t o a v s r n ho ha hf hown hw hallows hp hres hbad => ?_,
    fun t o a v w s hm ha hown => ?_⟩
  · refine ⟨(s.advanceTo t).ignored, ?_, ?_, fun b hb => ?_, ignored_eq t s⟩
    · rw [exec_registerWrite_plain ha hown, State.writePlain, gateWrite_readOnly _ (open_advanceTo ho t) hf hw]
    · rw [reg_ignored, reg_advanceTo]
    · rw [reg_ignored_ne _ hb, reg_advanceTo]
  · have hopen := open_advanceTo ho t
    have hallows' : r.when_.allows (s.advanceTo t).md.mode = true := by rwa [advanceTo_md]
    refine ⟨_, exec_registerWrite_plain ha hown, ?_, ?_, ?_⟩
    · intro herr
      rw [State.writePlain, gateWrite_flagging _ hopen hf hw hallows' herr, if_neg hres, reg_plainWrite_ne hp hbad herr, reg_ignored,
        reg_advanceTo]
    · rintro rfl
      rw [State.writePlain, gateWrite_errReserved _ hopen hf hw hallows' hres, reg_ignored]
      exact bit_or_one _
    · intro herr
      rw [State.writePlain, gateWrite_flagging _ hopen hf hw hallows' herr, if_neg hres, reg_plainWrite hp hbad, reg_ignored_ne _ herr,
        State.ignored, freshBits_raise_ne _ _ (Ne.symm herr), reg_advanceTo]
      rfl
  · have hm' : (s.advanceTo t).md.mode = .reset := by rwa [advanceTo_md]
    refine ⟨?_, ?_, ?_⟩
    · rw [exec_registerWrite_plain ha hown, State.writePlain, gateWrite_inReset _ hm']
    · show execUnmappedAccess t o a w s = _
      simp [execUnmappedAccess, gateWrite_inReset _ hm', gateRead_inReset _ hm']
    · exact congrArg Host.Outcome.next (gateRead_inReset _ hm')

end Sys2Proof.Proofs
end

section
/-!
SUPPORT. Reads that latch (R11, R76, R117, R137, R171, R191, R217, R245, R306, R335, R352): which set or half a read keeps for its path,
and that it changes nothing else.
-/

namespace Sys2Proof.Proofs

open Sys2Proof.Machine Sys2Proof.Safety Sys2Proof.Laws

-- One proof after another, as in the tests: proofs that wait for each other would each hold a stack.
set_option Elab.async false

/-! ### What the paths keep -/

/-- Two states that differ in what the paths keep, and in nothing else once the clock is that of the second. -/
def OnlyPaths (s u : State) : Prop := u = { s with time := u.time, regs := { s.regs with path := u.regs.path } }

theorem OnlyPaths.of_time {s : State} (t : Nat) : OnlyPaths s (s.advanceTo t) :=
  after_advanceTo (P := OnlyPaths s) t fun _ => rfl

theorem OnlyPaths.setPathReg {s u : State} (h : OnlyPaths s u) (o : Origin) (a : Nat) (v : Word) : OnlyPaths s (u.setPathReg o a v) := by
  unfold OnlyPaths at h
  rw [h]
  rfl

theorem OnlyPaths.keep {s u : State} (h : OnlyPaths s u) (o : Origin) (a v : Nat) : OnlyPaths s (u.keep o a v) := h.setPathReg o a _

theorem OnlyPaths.keep64 {s u : State} (h : OnlyPaths s u) (o : Origin) (lo hi v : Nat) : OnlyPaths s (u.keep64 o lo hi v) :=
  (h.keep o lo _).keep o hi _

/-- The clock of a state that differs in what the paths keep is known when its clock is. -/
theorem OnlyPaths.eq_of_time {s u : State} {time : TimeState} (h : OnlyPaths s u) (ht : u.time = time) :
    u = { s with time := time, regs := { s.regs with path := u.regs.path } } := by
  subst ht
  exact h

theorem pathReg_keep64_high (o : Origin) (lo hi v : Nat) (s : State) : ((s.keep64 o lo hi v).pathReg o hi).toNat = v / 2 ^ 32 % 2 ^ 32 := by
  rw [State.keep64, pathReg_keep, high, BitVec.toNat_ofNat, Nat.mod_mod]

theorem pathReg_keep64_low {lo hi : Nat} (h : hi ≠ lo) (o : Origin) (v : Nat) (s : State) :
    ((s.keep64 o lo hi v).pathReg o lo).toNat = v % 2 ^ 32 := by
  rw [State.keep64, pathReg_keep_ne _ _ _ h, pathReg_keep, low, BitVec.toNat_ofNat, Nat.mod_mod]

theorem pathReg_keep64_ne {lo hi a : Nat} (hlo : lo ≠ a) (hhi : hi ≠ a) (o : Origin) (v : Nat) (s : State) :
    (s.keep64 o lo hi v).pathReg o a = s.pathReg o a := by
  rw [State.keep64, pathReg_keep_ne _ _ _ hhi, pathReg_keep_ne _ _ _ hlo]

/-- Saturating is the lesser of the value and the greatest of the width. -/
theorem satTo_eq_min (w v : Nat) : satTo w v = min v (2 ^ w - 1) := by
  have := Nat.two_pow_pos w
  unfold satTo
  split <;> omega

/-! ### A read that reaches its register -/

/-- A read that nothing turns away is what its register does when read. -/
theorem readReg_of {o : Origin} {a : Nat} {s : State} (ho : Open s) (ha : (findReg a).isSome = true) : s.readReg o a = s.readAct o a := by
  obtain ⟨⟨r, n⟩, hf⟩ := Option.isSome_iff_exists.1 ha
  exact gateRead_of _ ho.1 ho.2 hf

theorem gateRead_open {o : Origin} {a : Nat} {s : State} (ho : Open s) (ha : (findReg a).isSome = true) (act : State → State) :
    s.gateRead o a (fun _ => act) = act s := by
  obtain ⟨⟨r, n⟩, hf⟩ := Option.isSome_iff_exists.1 ha
  exact gateRead_of _ ho.1 ho.2 hf

/-- A register that is no member of a latched set and no latched half reads live. -/
theorem regView_live {a : Nat} (h1 : setMember a = false) (h2 : latchedHigh a = false) (o : Origin) (s : State) :
    s.regView o a = s.liveView o a := by
  simp [State.regView, h1, h2]

/-- What the read-only bits of a register that no path keeps give of a field. -/
theorem liveView_of_readOnly {a n : Nat} {r : RegDesc} (hf : findReg a = some (r, n)) (hp : r.perPath = false)
    (hw : r.maskOf (fun x => x == .rw || x == .w1c) = 0) (o : Origin) (s : State) :
    s.liveView o a = BitVec.ofNat 32 (s.roBits o a) &&& r.maskOf (· != .wo) := by
  simp [State.liveView, hf, hp, hw]

/-! ### Latched halves (R11) -/

/-- The low halves below a latched high half latch it, and have no effect of their own when read. -/
abbrev LatchesHalf (a : Nat) : Prop :=
  a / 2 ^ 16 ≠ 0x08 ∧ a ≠ Reg.ADM_RINFO ∧ a ≠ Reg.CMP_FINFO ∧ ¬ (a / 2 ^ 16 = 0x0B ∧ a % 0x200 = 0x14) ∧ a ≠ Reg.STRP_MINFO ∧
    a ≠ Reg.NVQ_QINFO ∧ a ≠ Reg.IDM_SINFO ∧ a ≠ Reg.ATPU_RINFO ∧ a ≠ Reg.POOL_OINFO ∧ a ≠ Reg.RCDR_RINFO

theorem holds_of_contains {p : Nat → Prop} [DecidablePred p] {l : List Nat} {b : Nat} (hl : l.all (fun x => decide (p x)) = true)
    (hb : l.contains b = true) : p b :=
  of_decide_eq_true (List.all_eq_true.1 hl b (List.contains_iff_mem.1 hb))

theorem latchesHalf_of_latchedHigh {a : Nat} (h : latchedHigh (a + 4) = true) : LatchesHalf a := by
  simp only [latchedHigh, Bool.or_eq_true, decide_eq_true_eq] at h
  obtain h | ⟨hlo, hhi, hd⟩ := h
  · exact holds_of_contains (p := fun b => LatchesHalf (b - 4)) (by decide) h
  · have hblock : a / 2 ^ 16 = 0x06 := by unfold Reg.HDMA_CBASE_HI0 at *; omega
    refine ⟨by omega, ?_, ?_, by omega, ?_, ?_, ?_, ?_, ?_, ?_⟩ <;> (rintro rfl; exact absurd hblock (by decide))

theorem readAct_latchedLow {a : Nat} (h : latchedHigh (a + 4) = true) (o : Origin) (s : State) :
    s.readAct o a = s.setPathReg o (latchKey (a + 4)) (s.liveView o (a + 4)) := by
  obtain ⟨h0, h1, h2, h3, h4, h5, h6, h7, h8, h9⟩ := latchesHalf_of_latchedHigh h
  have hkinfo : a ≠ Reg.CIPH_KINFO := fun e => h0 (by subst e; decide)
  simp only [State.readAct, h0, h1, h2, h3, h4, h5, h6, h7, h8, h9, hkinfo, h, if_false, if_true]

theorem exec_loHalfRead {s : State} {a : Nat} (ho : Open s) (ha : (findReg a).isSome = true) (h : latchedHigh (a + 4) = true) (t : Nat)
    (o : Origin) : Sys2Proof.Machine.exec (.loHalfRead t o a) s =
      .next ((s.advanceTo t).setPathReg o (latchKey (a + 4)) ((s.advanceTo t).liveView o (a + 4))) := by
  show Host.Outcome.next ((s.advanceTo t).readReg o a) = _
  rw [readReg_of (open_advanceTo ho t) ha, readAct_latchedLow h]

theorem regView_of_latchedHigh {a : Nat} (h1 : setMember a = false) (h2 : latchedHigh a = true) (o : Origin) (s : State) :
    s.regView o a = s.pathReg o (latchKey a) := by
  simp [State.regView, h1, h2]

/-- The present tick's upper half, of the counter's 64 bits. -/
theorem liveView_tideHigh (o : Origin) (s : State) : s.liveView o Reg.TBASE_NOW_HI = BitVec.ofNat 32 (s.time.now / 2 ^ 32) := by
  obtain ⟨r, hf, hp, hw, hall⟩ : ∃ r, findReg Reg.TBASE_NOW_HI = some (r, 0) ∧ r.perPath = false ∧
      r.maskOf (fun x => x == .rw || x == .w1c) = 0 ∧ r.maskOf (· != .wo) = ~~~ 0 :=
    ⟨⟨"TBASE_NOW_HI", 0x10004, 1, 0x0, .any, false, [⟨"TICK", 31, 0, .ro, 0x0⟩]⟩, by decide +kernel⟩
  have hro : s.roBits o Reg.TBASE_NOW_HI = s.time.now / 2 ^ 32 % 2 ^ 32 := rfl
  have hmask (m : Word) : m &&& ~~~ (0 : Word) = m := BitVec.and_allOnes
  rw [liveView_of_readOnly hf hp hw, hall, hro, hmask]
  exact BitVec.eq_of_toNat_eq (by simp)

/-- The row of RCDR_RSEQ_HI: all its bits may be written, wherever a path reaches it. -/
theorem gateWrite_recorderSelect {s : State} (ho : Open s) (o : Origin) (v : Word) (act : RegDesc → State → State) :
    ∃ r, s.gateWrite o Reg.RCDR_RSEQ_HI v act = act r s := by
  obtain ⟨r, hf, hw, hwhen, hres⟩ : ∃ r, findReg Reg.RCDR_RSEQ_HI = some (r, 0) ∧ r.writable = true ∧ r.when_ = .live ∧ r.reserved = 0 :=
    ⟨⟨"RCDR_RSEQ_HI", 0x30024, 1, 0x0, .live, false, [⟨"SEQ", 31, 0, .rw, 0x0⟩]⟩, by decide +kernel⟩
  refine ⟨r, gateWrite_of act ho.1 ho.2 hf hw ?_ (by rw [hres]; exact BitVec.and_zero)⟩
  rw [hwhen]
  simp [When.allows, ho.1, ho.2]

theorem lo32_hi32_join (w v : Word) : (lo32 (join64 w v)).toNat = w.toNat ∧ (hi32 (join64 w v)).toNat = v.toNat := by
  have hw := w.isLt
  have hv := v.isLt
  simp only [lo32, hi32, join64, BitVec.toNat_ofNat]
  omega

/-- A committed pair reads back as its two halves joined. -/
theorem pair_setPair (o : Origin) {lo hi : Nat} (h : hi ≠ lo) (w v : Word) (s : State) :
    (s.setPair o lo hi (join64 w v)).pair o lo hi = w.toNat + v.toNat * 2 ^ 32 := by
  obtain ⟨hl, hh⟩ := lo32_hi32_join w v
  rw [State.pair, State.setPair, pathReg_setPathReg_ne _ _ _ h, pathReg_setPathReg, pathReg_setPathReg, join64, hl, hh]

theorem exec_hiHalfWrite_recorderSelect (t : Nat) (o : Origin) (v : Word) (s : State) :
    Sys2Proof.Machine.exec (.hiHalfWrite t o Reg.RCDR_RSEQ_HI v) s = .next ((s.advanceTo t).writeSeqPair o Reg.RCDR_RSEQ_LO v) := by
  have hown (x : State) : x.writeOwn o Reg.RCDR_RSEQ_HI v = some (x.writeSeqPair o Reg.RCDR_RSEQ_LO v) := by
    simp [State.writeOwn, Reg.GCTL_KEYHASH0, Reg.RCDR_RSEQ_HI]
  show Host.Outcome.next ((s.advanceTo t).busWrite o Reg.RCDR_RSEQ_HI v) = _
  rw [State.busWrite, if_neg (fun h => absurd h.1 (by decide)), State.writeReg, hown, Option.getD_some]

/-- Settles O9: a low half latches its high half as it stands, and the two writes are one operation. -/
theorem halvesOfAQuantity : Obligations.HalvesOfAQuantity := by
  refine ⟨fun t o a s ho ha h => ?_, fun t o s ho => ?_, fun t o v s ho => ?_, fun t o a v s => ⟨_, rfl, rfl⟩⟩
  · exact ⟨_, exec_loHalfRead ho ha h t o, pathReg_setPathReg .., ((OnlyPaths.of_time t).setPathReg ..).eq_of_time rfl⟩
  · refine ⟨_, exec_loHalfRead ho (by decide +kernel) (by decide) t o, ?_⟩
    rw [regView_of_latchedHigh (by decide) (by decide), pathReg_setPathReg, liveView_tideHigh]
    rfl
  · obtain ⟨r, hgate⟩ := gateWrite_recorderSelect (open_advanceTo ho t) o v
      (fun _ s => s.setPair o Reg.RCDR_RSEQ_LO Reg.RCDR_RSEQ_HI (join64 (s.staged o Reg.RCDR_RSEQ_LO) v))
    refine ⟨_, (exec_hiHalfWrite_recorderSelect t o v s).trans (congrArg Host.Outcome.next hgate), ?_, (((OnlyPaths.of_time t).setPathReg ..).setPathReg ..).eq_of_time rfl⟩
    rw [pair_setPair o (by decide), staged_advanceTo]

/-! ### Latched sets -/

/-- Every set that a read latches is one of its register's own, whose row is in the map. -/
theorem readReg_latches {o : Origin} {a : Nat} {s : State} {act : State → State} (ho : Open s) (t : Nat)
    (ha : (findReg a).isSome = true) (hact : ∀ x : State, x.readAct o a = act x) :
    (s.advanceTo t).readReg o a = act (s.advanceTo t) := by
  rw [readReg_of (open_advanceTo ho t) ha, hact]

/-- The channels' windows: the address of FCH_DINFO is that of its own row's copy. -/
theorem readReg_dinfo {o : Origin} {c : Nat} {s : State} (ho : Open s) (t : Nat) (hc : c < 128) :
    (s.advanceTo t).readReg o (Reg.FCH_DINFO0 + 0x200 * c) = (s.advanceTo t).latchDinfo o c := by
  have hblock : (Reg.FCH_DINFO0 + 0x200 * c) / 2 ^ 16 = 0x0B := by unfold Reg.FCH_DINFO0; omega
  have hoff : (Reg.FCH_DINFO0 + 0x200 * c) % 0x200 = 0x14 := by unfold Reg.FCH_DINFO0; omega
  have hrow : ∃ r ∈ regMap, r.addr = 0xB0000 + 0x14 ∧ r.count = 128 ∧ r.stride = 0x200 := by decide +kernel
  have hf := findReg_isSome_of_channelWindow hblock (by rwa [hoff])
  have hchan : (Reg.FCH_DINFO0 + 0x200 * c - Reg.FCH_DINFO0) / 0x200 = c := by omega
  have hadm : Reg.FCH_DINFO0 + 0x200 * c ≠ Reg.ADM_RINFO := fun e => by rw [e] at hblock; exact absurd hblock (by decide)
  have hcmp : Reg.FCH_DINFO0 + 0x200 * c ≠ Reg.CMP_FINFO := fun e => by rw [e] at hblock; exact absurd hblock (by decide)
  refine readReg_latches ho t hf fun x => ?_
  simp only [State.readAct, hblock, hoff, hadm, hcmp, hchan, and_self, if_true, if_false, (by decide : ¬ (0x0B = 0x08))]

theorem resvSel_advanceTo (t : Nat) (o : Origin) (s : State) : (s.advanceTo t).resvSel o = s.resvSel o := by simp [State.resvSel]

/-- What the dedup policy register shows of the selected volume. -/
theorem roDdup_policy {o : Origin} {s : State} {v : Ns} (hv : s.ns? (bits (s.pathReg o Reg.DDUP_PSEL) 13 0) = some v) :
    s.roBits o Reg.DDUP_POLICY =
      place v.dedup 1 0 + place (satTo 11 (v.snaps.filter (fun x => !x.2.reclaim)).length) 26 16 := by
  show s.roDdup o Reg.DDUP_POLICY = _
  simp only [State.roDdup, hv]
  rfl

theorem regView_ddupPolicy (o : Origin) (s : State) : s.regView o Reg.DDUP_POLICY =
    BitVec.ofNat 32 (s.roBits o Reg.DDUP_POLICY) &&& (fieldMask 1 0 ||| fieldMask 26 16) := by
  obtain ⟨r, hf, hp, hw, hall⟩ : ∃ r, findReg Reg.DDUP_POLICY = some (r, 0) ∧ r.perPath = false ∧
      r.maskOf (fun x => x == .rw || x == .w1c) = 0 ∧ r.maskOf (· != .wo) = fieldMask 1 0 ||| fieldMask 26 16 :=
    ⟨⟨"DDUP_POLICY", 0x110044, 1, 0x0, .any, false, [⟨"MODE", 1, 0, .ro, 0x0⟩, ⟨"SNAPS", 26, 16, .ro, 0x0⟩]⟩, by decide +kernel⟩
  rw [regView_live (by decide) (by decide), liveView_of_readOnly hf hp hw, hall]

/-- A mask that covers a field leaves it. -/
theorem bits_ofNat_and {n hi lo : Nat} {m : Word} (hm : bits m hi lo = 2 ^ (hi - lo + 1) - 1) (hn : n < 2 ^ 32) :
    bits (BitVec.ofNat 32 n &&& m) hi lo = n / 2 ^ lo % 2 ^ (hi - lo + 1) := by
  rw [bits_and, hm, Nat.and_two_pow_sub_one_eq_mod]
  rw [bits, BitVec.toNat_ofNat, Nat.mod_eq_of_lt hn, Nat.mod_mod]

/-- The two fields of DDUP_POLICY do not meet. -/
theorem bits_ddupPolicy {o : Origin} {s : State} {v : Ns} (hv : s.ns? (bits (s.pathReg o Reg.DDUP_PSEL) 13 0) = some v) :
    bits (s.regView o Reg.DDUP_POLICY) 1 0 = v.dedup % 4 ∧
      bits (s.regView o Reg.DDUP_POLICY) 26 16 = min (v.snaps.filter (fun x => !x.2.reclaim)).length (2 ^ 11 - 1) := by
  have hsat := satTo_eq_min 11 (v.snaps.filter (fun x => !x.2.reclaim)).length
  have hro := roDdup_policy hv
  simp only [place, hsat] at hro
  have hlt : s.roBits o Reg.DDUP_POLICY < 2 ^ 32 := by omega
  rw [regView_ddupPolicy, bits_ofNat_and (by decide) hlt, bits_ofNat_and (by decide) hlt, hro]
  constructor <;> omega

/-- Settles O10: each read is its register's latch, which keeps the set for the path. -/
theorem readsLatchReservationsLanesDiesAndQueues : Obligations.ReadsLatchReservationsLanesDiesAndQueues := by
  intro t o s ho
  refine ⟨fun r hr => ?_, fun l hl => ?_, fun v hv => ?_, fun c hc => ?_, ?_, ?_⟩
  · obtain ⟨hread, -⟩ := reservationReadsReturnTheLatchedSet t o s ho
    obtain ⟨u, hu, hrate, hburst, hdl, huse, heq⟩ := hread r hr
    rw [regView_of_setMember (by decide)] at hrate hburst hdl huse
    exact ⟨u, hu, hrate, hburst, hdl, huse, heq⟩
  · have hlatch : (s.advanceTo t).latchFinfo o =
        (s.advanceTo t).keep64 o Reg.CMP_FTICK_LO Reg.CMP_FTICK_HI (s.lastFault l) := by
      have hl' : laneUnit ((s.advanceTo t).laneSel o) = some l := by simpa [State.laneSel] using hl
      simp only [State.latchFinfo, hl', State.lastFault, advanceTo_faults]
    refine ⟨_, congrArg Host.Outcome.next (readReg_latches (act := State.latchFinfo o) ho t (by decide +kernel) fun _ => rfl), ?_, ?_, ?_⟩
    · rw [hlatch, pathReg_keep64_low (by decide)]
    · rw [hlatch, pathReg_keep64_high]
    · exact ((OnlyPaths.of_time t).keep64 ..).eq_of_time rfl
  · have hv' : (s.advanceTo t).ns? (bits ((s.advanceTo t).pathReg o Reg.DDUP_PSEL) 13 0) = some v := by simpa [State.ns?] using hv
    obtain ⟨hmode, hsnaps⟩ := bits_ddupPolicy hv'
    refine ⟨_, congrArg Host.Outcome.next (gateRead_open (open_advanceTo ho t) (by decide +kernel) _), ?_, ?_, ?_⟩
    · rw [pathReg_setPathReg, hmode]
    · rw [pathReg_setPathReg, hsnaps]
    · exact ((OnlyPaths.of_time t).setPathReg ..).eq_of_time rfl
  · have hdie : (s.advanceTo t).lastFault (.die ((s.advanceTo t).dieSel o c)) = s.lastFault (.die (s.dieSel o c)) := by
      simp [State.lastFault, State.dieSel]
    refine ⟨_, congrArg Host.Outcome.next (readReg_dinfo ho t hc), ?_, ?_, ?_⟩
    · rw [State.latchDinfo, pathReg_keep64_low (by unfold Reg.FCH_DFTICK_HI0 Reg.FCH_DFTICK_LO0; omega), hdie]
    · rw [State.latchDinfo, pathReg_keep64_high, hdie]
    · exact (((OnlyPaths.of_time t).keep ..).keep64 ..).eq_of_time rfl
  · refine ⟨_, congrArg Host.Outcome.next (readReg_latches (act := State.latchMinfo o) ho t (by decide +kernel) fun _ => rfl), ?_, ?_⟩
    · rw [State.latchMinfo, pathReg_keep]
      simp [State.port, State.portSel]
    · exact ((OnlyPaths.of_time t).keep ..).eq_of_time rfl
  · have hdepth : (s.advanceTo t).qdepth o = s.qdepth o := after_advanceTo (P := fun x => x.qdepth o = s.qdepth o) t fun _ => rfl
    have hptr : (s.advanceTo t).qptr o = s.qptr o := after_advanceTo (P := fun x => x.qptr o = s.qptr o) t fun _ => rfl
    refine ⟨_, congrArg Host.Outcome.next (readReg_latches (act := State.latchQinfo o) ho t (by decide +kernel) fun _ => rfl), ?_, ?_, ?_⟩
    · rw [State.latchQinfo, pathReg_keep_ne _ _ _ (by decide), pathReg_keep, hdepth]
    · rw [State.latchQinfo, pathReg_keep]
      exact congrArg _ hptr
    · exact (((OnlyPaths.of_time t).keep ..).keep ..).eq_of_time rfl

end Sys2Proof.Proofs
end

section
/-!
SUPPORT. Reads that latch the session, the region, the owner of buffers, the key slot and the Ledger sector that a path selects (R245,
R306, R335, R352).
-/

namespace Sys2Proof.Proofs

open Sys2Proof.Machine Sys2Proof.Safety Sys2Proof.Laws

-- One proof after another, as in the tests: proofs that wait for each other would each hold a stack.
set_option Elab.async false

theorem ofNat_satTo (v : Nat) : BitVec.ofNat 32 (satTo 32 v) = BitVec.ofNat 32 (min v (2 ^ 32 - 1)) := by rw [satTo_eq_min]

theorem latchSinfo_of_selected {o : Origin} {x : Session} {s : State} (hx : s.sessionSel o = some x) : s.latchSinfo o =
    ((s.keep o Reg.IDM_SNEXT x.nextPsn).keep o Reg.IDM_SCUM x.cum).keep o Reg.IDM_SIDLE (satTo 32 ((s.time.now - x.lastRx) / 1000)) := by
  simp only [State.latchSinfo, hx]

theorem OnlyPaths.latchSinfo {s u : State} (h : OnlyPaths s u) (o : Origin) : OnlyPaths s (u.latchSinfo o) := by
  unfold State.latchSinfo
  split <;> exact ((h.keep ..).keep ..).keep ..

theorem latchKinfo_of_selected {o : Origin} {k : Slot} {s : State} (hk : s.slotSel o = some k) : s.latchKinfo o =
    (s.keep64 o Reg.CIPH_KCTR_LO Reg.CIPH_KCTR_HI k.ctr).keep64 o Reg.CIPH_KLIM_LO Reg.CIPH_KLIM_HI k.limit := by
  simp only [State.latchKinfo, hk]

/-- The read is an access of the lock's owner first, and that moves the idle time alone (R333). -/
theorem touchLock_eq (o : Origin) (s : State) : s.touchLock o = { s with ciph := { s.ciph with lockTick := (s.touchLock o).ciph.lockTick } } := by
  unfold State.touchLock
  split <;> rfl

theorem slotSel_touchLock (o : Origin) (s : State) : (s.touchLock o).slotSel o = s.slotSel o := by
  rw [touchLock_eq]
  rfl

/-- A read of the key slot's window changes what the path keeps and the idle time of the path's own lock. -/
theorem latchKinfo_touchLock_eq (t : Nat) (o : Origin) (s : State) : ((s.advanceTo t).touchLock o).latchKinfo o = { s with
    time := (s.advanceTo t).time
    regs := { s.regs with path := (((s.advanceTo t).touchLock o).latchKinfo o).regs.path }
    ciph := { s.ciph with lockTick := (((s.advanceTo t).touchLock o).latchKinfo o).ciph.lockTick } } := by
  refine after_advanceTo (P := fun x => (x.touchLock o).latchKinfo o = { s with
    time := x.time, regs := { s.regs with path := ((x.touchLock o).latchKinfo o).regs.path }
    ciph := { s.ciph with lockTick := ((x.touchLock o).latchKinfo o).ciph.lockTick } }) t fun time => ?_
  have h := touchLock_eq o { s with time := time }
  generalize ({ s with time := time } : State).touchLock o = y at h
  rw [h]
  rfl

/-- Settles O11: each read is its register's latch, which keeps the set for the path. -/
theorem readsLatchSessionsRegionsOwnersKeysAndSectors : Obligations.ReadsLatchSessionsRegionsOwnersKeysAndSectors := by
  intro t o s ho
  refine ⟨fun x hx => ?_, fun r hr hused => ?_, ?_, fun k hk => ?_, ?_⟩
  · have hlatch := latchSinfo_of_selected (s := s.advanceTo t) (o := o) (x := x) (by simpa [State.sessionSel] using hx)
    have htime : ((s.advanceTo t).latchSinfo o).time = (s.advanceTo t).time := by rw [hlatch]; rfl
    refine ⟨_, congrArg Host.Outcome.next (readReg_latches (act := State.latchSinfo o) ho t (by decide +kernel) fun _ => rfl),
      ?_, ?_, ?_, ((OnlyPaths.of_time t).latchSinfo o).eq_of_time htime⟩
    · rw [hlatch, pathReg_keep_ne _ _ _ (by decide), pathReg_keep_ne _ _ _ (by decide), pathReg_keep]
    · rw [hlatch, pathReg_keep_ne _ _ _ (by decide), pathReg_keep]
    · rw [htime, hlatch, pathReg_keep, ofNat_satTo]
  · have hlatch : (s.advanceTo t).latchRegion o = (s.advanceTo t).keep64 o Reg.ATPU_RLEN_LO Reg.ATPU_RLEN_HI r.len := by
      have hr' : (s.advanceTo t).regionSel o = some r := by simpa [State.regionSel] using hr
      simp only [State.latchRegion, hr', hused, if_true]
    refine ⟨_, congrArg Host.Outcome.next (readReg_latches (act := State.latchRegion o) ho t (by decide +kernel) fun _ => rfl), ?_, ?_, ?_⟩
    · rw [hlatch, pathReg_keep64_low (by decide)]
    · rw [hlatch, pathReg_keep64_high]
    · exact ((OnlyPaths.of_time t).keep64 ..).eq_of_time rfl
  · have howner : (s.advanceTo t).owner ((s.advanceTo t).ownerSel o) = s.owner (s.ownerSel o) := by simp [State.owner, State.ownerSel]
    have hlatch : (s.advanceTo t).latchOinfo o = (((s.advanceTo t).keep o Reg.POOL_OUSE (satTo 32 (s.owner (s.ownerSel o)).use)).keep
        o Reg.POOL_OQUOTA (satTo 32 (s.owner (s.ownerSel o)).quota)).keep o Reg.POOL_OFLOOR
          (satTo 32 (s.owner (s.ownerSel o)).floor) := by rw [← howner]; rfl
    refine ⟨_, congrArg Host.Outcome.next (readReg_latches (act := State.latchOinfo o) ho t (by decide +kernel) fun _ => rfl),
      ?_, ?_, ?_, ?_⟩
    · rw [hlatch, pathReg_keep_ne _ _ _ (by decide), pathReg_keep_ne _ _ _ (by decide), pathReg_keep, ofNat_satTo]
    · rw [hlatch, pathReg_keep_ne _ _ _ (by decide), pathReg_keep, ofNat_satTo]
    · rw [hlatch, pathReg_keep, ofNat_satTo]
    · exact (((OnlyPaths.of_time t).keep ..).keep ..).keep .. |>.eq_of_time rfl
  · have hsel : ((s.advanceTo t).touchLock o).slotSel o = some k := by rw [slotSel_touchLock]; simpa [State.slotSel] using hk
    have hlatch := latchKinfo_of_selected hsel
    refine ⟨_, congrArg Host.Outcome.next (readReg_latches (act := fun x => (x.touchLock o).latchKinfo o) ho t (by decide +kernel)
      fun _ => rfl), ?_, ?_, ?_, ?_, latchKinfo_touchLock_eq t o s⟩
    · rw [hlatch, pathReg_keep64_ne (by decide) (by decide), pathReg_keep64_low (by decide)]
    · rw [hlatch, pathReg_keep64_ne (by decide) (by decide), pathReg_keep64_high]
    · rw [hlatch, pathReg_keep64_low (by decide)]
    · rw [hlatch, pathReg_keep64_high]
  · refine ⟨_, congrArg Host.Outcome.next (gateRead_open (open_advanceTo ho t) (by decide +kernel) _), pathReg_setPathReg .., ?_⟩
    exact ((OnlyPaths.of_time t).setPathReg ..).eq_of_time rfl

end Sys2Proof.Proofs
end

section
/-!
SUPPORT. The management SPI (R388 to R394): a frame whose header passes runs its body and its status byte leaves; what a fault of a frame
sets.
-/

namespace Sys2Proof.Proofs

open Sys2Proof.Machine Sys2Proof.Safety Sys2Proof.Laws

-- One proof after another, as in the tests: proofs that wait for each other would each hold a stack.
set_option Elab.async false

/-! ### Frames -/

/-- The status byte is not sent on a front-end port: it leaves whatever the fence does (R259). -/
theorem emit_spi (b : Nat) (ws : List (Word × Byte)) (s : State) : s.emit (.spi b ws) = { s with outbox := .spi b ws :: s.outbox } := by
  simp [State.emit, State.onFrontEnd]

/-- A frame whose header passes runs its body from PREV_OK = 1. -/
theorem spiFrame_of_header {op addr : Nat} {hcrc : Byte} {s : State} (ho : Open s) (h : spiHeaderOk op addr hcrc = true)
    (body : State → State × List (Word × Byte)) : s.spiFrame op addr hcrc body =
      (body s.spiBegin).1.emit (.spi (s.spiStatus true) (body s.spiBegin).2) := by
  simp only [State.spiFrame, if_neg ho.1, h, Bool.not_true, Bool.false_eq_true, if_false]

theorem spiFrame_of_badHeader {op addr : Nat} {hcrc : Byte} {s : State} (ho : Open s) (h : spiHeaderOk op addr hcrc = false)
    (body : State → State × List (Word × Byte)) : s.spiFrame op addr hcrc body = (s.spiErr 8).emit (.spi (s.spiStatus false) []) := by
  simp only [State.spiFrame, if_neg ho.1, h, Bool.not_false, if_true]

/-- A word's header with its own CRC passes at a word's address (R389). -/
theorem spiHeaderOk_word {op addr : Nat} (hop : op = 2 ∨ op = 3) (ha : addr % 4 = 0) : spiHeaderOk op addr (headerCrc op addr) = true := by
  unfold spiHeaderOk
  generalize headerCrc op addr = c
  obtain rfl | rfl := hop <;> simp [ha]

theorem spiHeaderOk_status (addr : Nat) : spiHeaderOk 5 addr (headerCrc 5 addr) = true := by
  unfold spiHeaderOk
  generalize headerCrc 5 addr = c
  simp

theorem spiHeaderOk_ledger {addr : Nat} (h1 : 0x80000000 ≤ addr) (h2 : addr < 0x84000000) :
    spiHeaderOk 6 addr (headerCrc 6 addr) = true := by
  unfold spiHeaderOk
  generalize headerCrc 6 addr = c
  simp [spiLedger, h1, h2]

theorem regionEnd_of_register {addr : Nat} (h : addr < regSpaceEnd) : regionEnd addr = regSpaceEnd := if_pos h

theorem spiStatus_of_open {s : State} (ho : Open s) (ok : Bool) :
    s.spiStatus ok = 128 * b2n ok + 64 * b2n s.spi.prevOk + 32 * b2n s.alertLow + s.md.mode.code := if_neg ho.1

theorem alertLow_advanceTo (t : Nat) (s : State) : (s.advanceTo t).alertLow = s.alertLow :=
  after_advanceTo (P := fun x => x.alertLow = s.alertLow) t fun _ => rfl

/-! ### Faults of a frame -/

theorem reg_spiErr (mask : Nat) (s : State) : (s.spiErr mask).reg Reg.MSPI_STATUS = s.reg Reg.MSPI_STATUS ||| BitVec.ofNat 32 mask :=
  (reg_raise_ne _ _ (by decide)).trans (reg_raise _ _ _)

theorem reg_spiErr_ne {b : Nat} (mask : Nat) (s : State) (h1 : b ≠ Reg.MSPI_STATUS) (h2 : b ≠ Reg.MSPI_ALERTSRC) :
    (s.spiErr mask).reg b = s.reg b :=
  (reg_raise_ne _ _ (Ne.symm h2)).trans (reg_raise_ne _ _ (Ne.symm h1))

/-! ### Words at register addresses -/

section
variable {addr : Nat} {s : State} (ha : addr < regSpaceEnd)
include ha

theorem spiStore_register (w : Word) : s.spiStore addr w = s.writeReg .spi addr w := if_pos (.inr ha)

theorem spiFetch_register (ho : Open s) : s.spiFetch addr = (s.regView .spi addr, false, s.readReg .spi addr) := by
  simp [State.spiFetch, ha, ho.2]

theorem spiWriteWords_one (w : Word) : State.spiWriteWords (regionEnd addr) [(w, wordCrc w)] addr s = s.writeReg .spi addr w := by
  rw [regionEnd_of_register ha]
  simp [State.spiWriteWords, Nat.not_le.2 ha, spiStore_register ha]

theorem spiWriteWords_badCrc {w : Word} {c : Byte} (hc : c ≠ wordCrc w) :
    State.spiWriteWords (regionEnd addr) [(w, c)] addr s = (s.spiErr 4).spiErrAddr addr := by
  rw [regionEnd_of_register ha]
  simp [State.spiWriteWords, Nat.not_le.2 ha, hc]

theorem spiReadWords_one (ho : Open s) : State.spiReadWords (regionEnd addr) 1 addr s =
    (s.readReg .spi addr, [(s.regView .spi addr, wordCrc (s.regView .spi addr))]) := by
  rw [regionEnd_of_register ha]
  simp [State.spiReadWords, Nat.not_le.2 ha, spiFetch_register ha ho]

end

/-! ### The rows -/

theorem exec_spiWrite_word {t addr : Nat} {s : State} (ho : Open s) (halign : addr % 4 = 0) (w : Word) (c : Byte) :
    Sys2Proof.Machine.exec (.spiWrite t addr (headerCrc 2 addr) [(w, c)] 0) s =
      .next ((State.spiWriteWords (regionEnd addr) [(w, c)] addr (s.advanceTo t).spiBegin).emit
        (.spi ((s.advanceTo t).spiStatus true) [])) := by
  show Host.Outcome.next ((s.advanceTo t).spiFrame ..) = _
  rw [spiFrame_of_header (open_advanceTo ho t) (spiHeaderOk_word (.inl rfl) halign)]
  rfl

theorem exec_spiRead_word {t addr : Nat} {s : State} (ho : Open s) (halign : addr % 4 = 0) (ha : addr < regSpaceEnd) :
    Sys2Proof.Machine.exec (.spiRead t addr (headerCrc 3 addr) 1 0) s =
      .next (((s.advanceTo t).spiBegin.readReg .spi addr).emit (.spi ((s.advanceTo t).spiStatus true)
        [((s.advanceTo t).spiBegin.regView .spi addr, wordCrc ((s.advanceTo t).spiBegin.regView .spi addr))])) := by
  show Host.Outcome.next ((s.advanceTo t).spiFrame ..) = _
  rw [spiFrame_of_header (open_advanceTo ho t) (spiHeaderOk_word (.inr rfl) halign)]
  simp only [spiReadWords_one (s := (s.advanceTo t).spiBegin) ha (open_advanceTo ho t), if_true]

theorem exec_spiStatus {t addr : Nat} {s : State} (ho : Open s) :
    Sys2Proof.Machine.exec (.spiStatus t addr (headerCrc 5 addr) 0) s =
      .next ((s.advanceTo t).spiBegin.emit (.spi ((s.advanceTo t).spiStatus true) [])) := by
  show Host.Outcome.next ((s.advanceTo t).spiFrame ..) = _
  rw [spiFrame_of_header (open_advanceTo ho t) (spiHeaderOk_status addr)]
  rfl

theorem exec_spiWrite16 {t addr : Nat} {s : State} (ho : Open s) (h1 : 0x80000000 ≤ addr) (h2 : addr < 0x84000000) (w : Word) :
    Sys2Proof.Machine.exec (.spiWrite16 t addr (headerCrc 6 addr) (some (w, wordCrc w)) 0) s =
      .next (((s.advanceTo t).spiBegin.windowWrite (addr - 0x80000000) (leBytes 2 w.toNat)).emit
        (.spi ((s.advanceTo t).spiStatus true) [])) := by
  have hmode : (s.advanceTo t).spiBegin.md.mode ≠ .locked := (open_advanceTo ho t).2
  show Host.Outcome.next ((s.advanceTo t).spiFrame ..) = _
  rw [spiFrame_of_header (open_advanceTo ho t) (spiHeaderOk_ledger h1 h2)]
  simp only [ne_eq, not_true, if_false, if_true, hmode]

theorem exec_spiHeaderRejected {t addr : Nat} {op hcrc : Byte} {s : State} (ho : Open s) (h : spiHeaderOk op.toNat addr hcrc = false) :
    Sys2Proof.Machine.exec (.spiHeaderRejected t op addr hcrc 48) s =
      .next (((s.advanceTo t).spiErr 8).emit (.spi ((s.advanceTo t).spiStatus false) [])) := by
  show execSpiHeaderRejected t op addr hcrc 48 s = _
  simp only [execSpiHeaderRejected, if_neg (open_advanceTo ho t).1, Nat.lt_irrefl, if_false, h, Bool.false_eq_true]

/-- Settles O12: each frame passes its header, and its body is one word's store or fetch, or nothing. -/
theorem spiFramesActAsTheirOpcodeSays : Obligations.SpiFramesActAsTheirOpcodeSays := by
  intro t addr w s ho
  have hopen : Open (s.advanceTo t).spiBegin := open_advanceTo ho t
  refine ⟨fun halign ha => ?_, fun c halign ha hc => ?_, fun halign ha => ?_, ?_, fun h1 h2 => ?_, fun op hcrc h => ?_⟩
  · exact ⟨_, exec_spiWrite_word ho halign w _, by rw [spiWriteWords_one ha]⟩
  · refine ⟨_, exec_spiWrite_word ho halign w c, ?_⟩
    rw [spiWriteWords_badCrc ha hc, emit_spi]
    refine ⟨?_, ?_, fun b hb1 hb2 => ?_⟩
    · exact (reg_spiErr 4 _).trans (by rw [← reg_advanceTo t s]; rfl)
    · show ({ (s.advanceTo t).spi with prevOk := false, errAddr := addr } : SpiState) = _
      rw [advanceTo_spi]
    · exact (reg_spiErr_ne 4 _ hb1 hb2).trans (reg_advanceTo t s b)
  · exact ⟨_, exec_spiRead_word ho halign ha, rfl⟩
  · refine ⟨_, exec_spiStatus ho, ?_, ?_⟩
    · rw [emit_spi]
      exact after_advanceTo (P := fun x => ({ x.spiBegin with outbox := .spi (x.spiStatus true) [] :: x.spiBegin.outbox } : State) =
        { s with time := x.time, spi := { s.spi with prevOk := true }, outbox := .spi (x.spiStatus true) [] :: x.spiBegin.outbox }) t
        fun _ => rfl
    · rw [emit_spi, List.head?_cons, spiStatus_of_open (open_advanceTo ho t), alertLow_advanceTo, advanceTo_spi, advanceTo_md]
      rfl
  · exact ⟨_, exec_spiWrite16 ho h1 h2 w, rfl⟩
  · refine ⟨_, exec_spiHeaderRejected ho h, ?_⟩
    rw [emit_spi]
    refine ⟨?_, ?_, fun b hb1 hb2 => ?_⟩
    · exact (reg_spiErr 8 _).trans (by rw [reg_advanceTo]; rfl)
    · show ({ (s.advanceTo t).spi with prevOk := false } : SpiState) = _
      rw [advanceTo_spi]
    · exact (reg_spiErr_ne 8 _ hb1 hb2).trans (reg_advanceTo t s b)

end Sys2Proof.Proofs
end

section
/-!
SUPPORT. The bulk windows' control register (R395, R396): what its write leaves in the window and on the window's line.
-/

namespace Sys2Proof.Proofs

open Sys2Proof.Machine Sys2Proof.Safety Sys2Proof.Laws

-- One proof after another, as in the tests: proofs that wait for each other would each hold a stack.
set_option Elab.async false

theorem mem_deassertLine {n m : Nat} {s : State} : m ∈ (s.deassertLine n).dma.lines ↔ m ∈ s.dma.lines ∧ m ≠ n := by
  simp [State.deassertLine]

theorem deassertLine_eq (n : Nat) (s : State) : s.deassertLine n = { s with dma := { s.dma with lines := (s.deassertLine n).dma.lines } } := rfl

theorem assertLine_eq (n : Nat) (s : State) : s.assertLine n = { s with dma := { s.dma with lines := (s.assertLine n).dma.lines } } := by
  unfold State.assertLine
  split <;> rfl

/-- The four rows of MSPI_BWCTL: EN and DIR, writable wherever a path reaches them. -/
theorem findReg_bwctl {n : Nat} (hn : n < 4) : ∃ r, findReg (Reg.MSPI_BWCTL0 + 8 * n) = some (r, n) ∧ r.perPath = false ∧
    r.writable = true ∧ r.when_ = .live ∧ r.reserved = 0xFFFFFFFC ∧ r.maskOf (· == .rw) = 3 ∧ r.maskOf (· == .w1c) = 0 :=
  ⟨⟨"MSPI_BWCTL", 0xF0020, 4, 0x8, .live, false, [⟨"EN", 0, 0, .rw, 0x0⟩, ⟨"DIR", 1, 1, .rw, 0x0⟩]⟩,
    (by decide +kernel : ∀ m < 4, findReg (Reg.MSPI_BWCTL0 + 8 * m) = some (_, m)) n hn, by decide +kernel⟩

theorem badFields_bwctl {n : Nat} (hn : n < 4) (v : Word) : badFields (Reg.MSPI_BWCTL0 + 8 * n) v = 0 :=
  badFields_eq_zero ((by decide : ∀ m < 4, ∀ f ∈ fieldRanges, f.1 ≠ Reg.MSPI_BWCTL0 + 8 * m) n hn) v

/-- What the window holds after a write of its control: nothing where it is disabled or turned round (R396). -/
def bulkLeft (n : Nat) (v : Word) (s : State) : State :=
  if !bit v 0 || bit v 1 != s.bulkOut n then (s.setBulk n {}).deassertLine (bulkLine (s.bulkOut n) n) else s

theorem bulkLeft_eq (n : Nat) (v : Word) (s : State) : bulkLeft n v s =
    { s with spi := (bulkLeft n v s).spi, dma := { s.dma with lines := (bulkLeft n v s).dma.lines } } := by
  unfold bulkLeft
  split <;> rfl

/-- The control's bits take the value, the reserved ones being 0. -/
theorem written_bwctl {r : RegDesc} {v old fresh : Word} (hrw : r.maskOf (· == .rw) = 3)
    (hw1c : r.maskOf (· == .w1c) = 0) : bit (writtenBits r old v fresh) 0 = bit v 0 ∧ bit (writtenBits r old v fresh) 1 = bit v 1 := by
  have hclear (m : Word) : m &&& ~~~ (v &&& 0 &&& ~~~ fresh) = m := by
    rw [show v &&& (0 : Word) &&& ~~~ fresh = 0 by simp]
    exact BitVec.and_allOnes
  have hbits (i : Nat) (h0 : bits (3 : Word) i i = 2 ^ (i - i + 1) - 1) (h1 : bits (~~~ (3 : Word)) i i = 0) :
      bit (((old &&& ~~~ 3) ||| (v &&& 3))) i = bit v i := by
    unfold bit
    rw [bits_or, bits_and, bits_and, h0, h1, Nat.and_zero, Nat.zero_or, Nat.and_two_pow_sub_one_eq_mod, bits, Nat.mod_mod]
  simp only [writtenBits, hrw, hw1c, hclear]
  exact ⟨hbits 0 (by decide) (by decide), hbits 1 (by decide) (by decide)⟩

/-- A write of a window's control, at the gate: what it leaves in the window, its two bits, and its line. -/
theorem writeBwctl_of {o : Origin} {n : Nat} {v : Word} {s : State} (ho : Open s) (hn : n < 4) (hv : v &&& 0xFFFFFFFC = 0) :
    ∃ x, s.writeBwctl o n v = State.bulkLines n x ∧ x = { s with regs := x.regs, spi := (bulkLeft n v s).spi, dma := (bulkLeft n v s).dma } ∧
      x.bulkEn n = bit v 0 ∧ x.bulkOut n = bit v 1 := by
  obtain ⟨r, hf, hp, hw, hwhen, hres, hrw, hw1c⟩ := findReg_bwctl hn
  have hb := badFields_bwctl hn v
  have hallows : r.when_.allows s.md.mode = true := by rw [hwhen]; simp [When.allows, ho.1, ho.2]
  have hreg := reg_plainWrite (o := o) hp hb (bulkLeft n v s)
  refine ⟨State.plainWrite o (Reg.MSPI_BWCTL0 + 8 * n) v r (bulkLeft n v s), ?_, ?_, ?_, ?_⟩
  · exact gateWrite_of _ ho.1 ho.2 hf hw hallows (by rw [hres]; exact hv)
  · rw [plainWrite_eq hp hb, bulkLeft_eq]
  · exact (congrArg (bit · 0) hreg).trans (written_bwctl hrw hw1c).1
  · exact (congrArg (bit · 1) hreg).trans (written_bwctl hrw hw1c).2

theorem exec_bulkWindowControl {n : Nat} (hn : n < 4) (t : Nat) (o : Origin) (v : Word) (s : State) :
    Sys2Proof.Machine.exec (.bulkWindowControl t o n v) s = .next ((s.advanceTo t).writeBwctl o n v) := by
  show Host.Outcome.next (if 4 ≤ n then _ else _) = _
  rw [if_neg (by omega)]

theorem bulk_setBulk (n : Nat) (b : Bulk) (s : State) : (s.setBulk n b).bulk n = b := getD_put_self ..

/-- Settles O13: EN = 0 empties the window before its line is set by what it then holds. -/
theorem bulkWindowControlEmptiesAndAsks : Obligations.BulkWindowControlEmptiesAndAsks := by
  intro t n o v s ho hn hv
  obtain ⟨x, hx, heq, hen, hout⟩ := writeBwctl_of (o := o) (open_advanceTo ho t) hn hv
  have hexec := exec_bulkWindowControl hn t o v s
  rw [hx] at hexec
  have hold : (s.advanceTo t).bulkOut n = s.bulkOut n := by simp [State.bulkOut, State.bulkCtl]
  have hbulk : x.bulk n = (bulkLeft n v (s.advanceTo t)).bulk n := by rw [heq]; rfl
  have hlines : x.dma.lines = (bulkLeft n v (s.advanceTo t)).dma.lines := by rw [heq]
  refine ⟨fun h0 => ?_, fun h3 hempty => ?_⟩
  · have hleft : bulkLeft n v (s.advanceTo t) = ((s.advanceTo t).setBulk n {}).deassertLine (bulkLine (s.bulkOut n) n) := by
      simp [bulkLeft, h0, hold]
    rw [hleft] at hbulk hlines
    have hnone : x.bulk n = {} := hbulk.trans (bulk_setBulk n {} (s.advanceTo t))
    have hquiet : x.bulkLines n = x.deassertLine (bulkLine (bit v 1) n) := by
      simp [State.bulkLines, hen, hout, hnone, h0]
    rw [hquiet] at hexec
    refine ⟨_, hexec, hnone, hen.trans h0, ?_, ?_⟩
    · rw [mem_deassertLine, hlines, mem_deassertLine]
      simp
    · rw [heq, hleft]
      exact after_advanceTo (P := fun y => ({ y with
        regs := x.regs, spi := (y.setBulk n {}).spi
        dma := ((y.setBulk n {}).deassertLine (bulkLine (s.bulkOut n) n)).dma } : State).deassertLine (bulkLine (bit v 1) n) =
          { s with time := y.time, regs := x.regs, spi := (y.setBulk n {}).spi, dma := { s.dma with lines :=
            (({ y with regs := x.regs, spi := (y.setBulk n {}).spi
                       dma := ((y.setBulk n {}).deassertLine (bulkLine (s.bulkOut n) n)).dma } : State).deassertLine
              (bulkLine (bit v 1) n)).dma.lines } }) t fun _ => rfl
  · subst h3
    have hnone : (bulkLeft n 3 (s.advanceTo t)).bulk n = {} ∨ (bulkLeft n 3 (s.advanceTo t)).bulk n = s.bulk n := by
      unfold bulkLeft
      split
      · exact .inl (bulk_setBulk n {} (s.advanceTo t))
      · exact .inr (by simp [State.bulk])
    have hroom : (x.bulk n).full = false := by
      rw [hbulk]
      obtain h | h := hnone <;> rw [h]
      exact hempty
    have hen' : x.bulkEn n = true := hen.trans (by decide)
    have hout' : x.bulkOut n = true := hout.trans (by decide)
    have hask : x.bulkLines n = x.assertLine (bulkLine true n) := by
      simp [State.bulkLines, hen', hout', hroom]
    have hregs : (x.assertLine (bulkLine true n)).regs = x.regs := by rw [assertLine_eq]
    rw [hask] at hexec
    refine ⟨_, hexec, ?_, ?_, assertLine_mem _ _⟩
    · simpa [State.bulkEn, State.bulkCtl, State.reg, hregs] using hen'
    · simpa [State.bulkOut, State.bulkCtl, State.reg, hregs] using hout'

end Sys2Proof.Proofs
end

section
/-!
SUPPORT. Rows of the register map as the gate of a write meets them, and admin commands from their fetch to their completion: the facts
that many commands share.
-/

namespace Sys2Proof.Proofs

open Sys2Proof.Machine Sys2Proof.Safety Sys2Proof.Laws

-- One proof after another, as in the tests: proofs that wait for each other would each hold a stack.
set_option Elab.async false

/-! ### Rows of the register map -/

/-- The row at an address has a field to write, its mode condition is `w`, and its reserved bits are those of `res`. -/
def rowIs (a : Nat) (w : When) (res : Word) : Bool :=
  match findReg a with
  | some (r, _) => r.writable && r.when_ == w && r.reserved == res
  | none => false

theorem rowIs_iff {a : Nat} {w : When} {res : Word} (h : rowIs a w res = true) :
    ∃ r n, findReg a = some (r, n) ∧ r.writable = true ∧ r.when_ = w ∧ r.reserved = res := by
  unfold rowIs at h
  split at h
  · rename_i r n hf
    simp only [Bool.and_eq_true, beq_iff_eq] at h
    exact ⟨r, n, hf, h.1.1, h.1.2, h.2⟩
  · cases h

theorem live_allows {s : State} (ho : Open s) : When.allows .live s.md.mode = true := by simp [When.allows, ho.1, ho.2]

section
variable {o : Origin} {a : Nat} {v res : Word} {w : When} {s : State} (hrow : rowIs a w res = true) (ho : Open s)
include hrow ho

/-- Without reserved bits, a write that its register's mode condition lets through acts on the state it finds. -/
theorem gateWrite_row (hw : w.allows s.md.mode = true) (hv : v &&& res = 0) (act : State → State) :
    s.gateWrite o a v (fun _ => act) = act s := by
  obtain ⟨r, n, hf, hwr, rfl, rfl⟩ := rowIs_iff hrow
  exact gateWrite_of _ ho.1 ho.2 hf hwr hw hv

/-- With reserved bits or without, it acts, and the first are flagged before. -/
theorem gateWrite_row_flagging (hw : w.allows s.md.mode = true) (herr : a ≠ Reg.GCTL_ERR) (act : State → State) :
    s.gateWrite o a v (fun _ => act) = act (if v &&& res = 0 then s else s.ignored) := by
  obtain ⟨r, n, hf, hwr, rfl, rfl⟩ := rowIs_iff hrow
  exact gateWrite_flagging _ ho hf hwr hw herr

/-- A write that its register's mode condition turns away is flagged. -/
theorem gateWrite_row_refused (hw : w.allows s.md.mode = false) (act : RegDesc → State → State) : s.gateWrite o a v act = s.ignored := by
  obtain ⟨r, n, hf, hwr, rfl, rfl⟩ := rowIs_iff hrow
  simp [State.gateWrite, ho.1, ho.2, hf, hwr, hw]

end

/-! ### Admin commands -/

/-- Fetching an admin command after time has moved changes the queues and a counter. -/
theorem fetched_advanceTo_frame (t cntl qid : Nat) (e : Sqe) (s : State) : Frame 145 s ((s.advanceTo t).fetched cntl qid e) :=
  Frame.comp (State.fetched_frame _ _ _ _) rfl (Frame.comp (State.advanceTo_frame t s) rfl (Frame.refl s))

theorem fetched_time (cntl qid : Nat) (e : Sqe) (s : State) : (s.fetched cntl qid e).time = s.time :=
  (State.fetched_frame cntl qid e s).time (by decide)

/-- An admin command that is served in Preservation too, with room for its completion. -/
theorem ready_admin {cntl t : Nat} {e : Sqe} {run : State → State} {s : State} (h : Ready cntl 0 s) (he : e.fuse = 0) :
    (s.advanceTo t).admin cntl e true run = run ((s.advanceTo t).fetched cntl 0 e) ∧
      Room cntl 0 ((s.advanceTo t).fetched cntl 0 e) := by
  have h' := ready_advanceTo (t := t) h
  exact ⟨admin_of h'.1 (.inr rfl) he, (ready_room h').fetched⟩

/-- An admin command outside Preservation, with room for its completion. -/
theorem ready_admin_serving {cntl t : Nat} {e : Sqe} {always : Bool} {run : State → State} {s : State} (h : Ready cntl 0 s)
    (hm : s.md.mode ≠ .preservation) (he : e.fuse = 0) :
    (s.advanceTo t).admin cntl e always run = run ((s.advanceTo t).fetched cntl 0 e) ∧
      Room cntl 0 ((s.advanceTo t).fetched cntl 0 e) := by
  have h' := ready_advanceTo (t := t) h
  exact ⟨admin_of h'.1 (.inl (by rwa [advanceTo_md])) he, (ready_room h').fetched⟩

/-- What completes after the fetch is answered since before it. -/
theorem answers_fetched {cntl cid sct sc dw0 : Nat} {s u : State} (t : Nat) (e : Sqe)
    (h : Answers cntl 0 cid sct sc dw0 ((s.advanceTo t).fetched cntl 0 e) u) : Answers cntl 0 cid sct sc dw0 s u :=
  answers_before (fetched_advanceTo_frame t cntl 0 e s) h

end Sys2Proof.Proofs
end

section
/-!
SUPPORT. Tally (R369 to R377): the request, the latch, the staging area and the replaced counter.
-/

namespace Sys2Proof.Proofs

open Sys2Proof.Machine Sys2Proof.Safety Sys2Proof.Laws

-- One proof after another, as in the tests: proofs that wait for each other would each hold a stack.
set_option Elab.async false

/-- The request that R371 accepts: the latch tick lies 10,000 ticks ahead, no other request is pending, and the mode serves it. -/
theorem tallyCause_accepts {at_ : Nat} {s : State} (hat : s.time.now + 10000 ≤ at_) (hidle : s.tally.pending = false)
    (hready : s.mem.ready = true) (hm : s.md.mode ≠ .reset ∧ s.md.mode ≠ .slack ∧ s.md.mode ≠ .locked ∧ s.md.mode ≠ .holdup) :
    s.tallyCause at_ = 0 := by
  obtain ⟨h1, h2, h3, h4⟩ := hm
  simp [State.tallyCause, Nat.not_lt.2 hat, hidle, hready, h1, h2, h3, h4]

theorem tallyAsk_accepted {o : Origin} {at_ : Nat} {s : State} (h : s.tallyCause at_ = 0) : s.tallyAsk o at_ =
    { s with tally := { s.tally with at_ := at_, pending := true, done := false, latched := false, staged := false, drained := 0 } } :=
  if_pos h

theorem count_tally_eq (i : Nat) (s : State) : s.count i = { s with tally := (s.count i).tally } := by
  unfold State.count State.countN
  split <;> rfl

/-- Counting leaves what the Tally holds beside its live counters. -/
theorem count_tallyKept {α : Type} (i : Nat) (s : State) (g : TallyState → α)
    (hg : ∀ a, g { a with live := [], adds := [], addsAt := 0 } = g a) : g (s.count i).tally = g s.tally :=
  (State.count_frame i s).tallyKept (by decide) g hg

/-- The shadows and the trailer go to the staging area (R373). -/
theorem tallyStage_cells (s : State) : s.tallyStage.mem.cells = Memory.writeBytes 0 s.mem.cells s.image.tallyStage
    (tallyHalf s.tally.shadow (s.tally.gen + 1) s.tally.ltick (join64 s.freeValue s.spendFree.freeValue)) := by
  rw [State.tallyStage, (State.assertLine_frame _ _).mem (by decide)]
  generalize tallyHalf _ _ _ _ = half
  rfl

theorem memWrite_tally (a : Nat) (bs : List Byte) (s : State) : (s.memWrite a bs).tally = s.tally := rfl

theorem spendFree_tally (s : State) : s.spendFree.tally = s.tally := rfl

theorem tallyStage_line (s : State) : 3 ∈ s.tallyStage.dma.lines := by
  rw [State.tallyStage]
  exact assertLine_mem _ _

theorem tallyStage_tally (s : State) : s.tallyStage.tally = { s.tally with staged := true, drained := 0 } := by
  rw [State.tallyStage, (State.assertLine_frame _ _).tally (by decide)]
  generalize tallyHalf _ _ _ _ = half
  show ({ (State.memWrite _ half s.spendFree.spendFree).tally with staged := true, drained := 0 } : TallyState) = _
  rw [memWrite_tally, spendFree_tally, spendFree_tally]

/-- A mode with a front end serves a Tally request. -/
theorem frontEnd_serves {m : Mode} (h : m.frontEnd = true) : m ≠ .reset ∧ m ≠ .slack ∧ m ≠ .locked ∧ m ≠ .holdup := by
  refine ⟨?_, ?_, ?_, ?_⟩ <;> (rintro rfl; cases h)

theorem tallyIn_accepted {cntl : Nat} {e : Sqe} {s : State} (hlen : 352 ≤ bits e.dw12 15 0) (hat : slbaOf e ≠ 0)
    (h : s.tallyCause (slbaOf e) = 0) : s.tallyIn cntl e =
      { s with tally := { s.tally with at_ := slbaOf e, pending := true, done := false, latched := false, staged := false, drained := 0,
                                       waiting := s.tally.waiting ++ [(cntl, e)] } } := by
  simp [State.tallyIn, hat, Nat.not_lt.2 hlen, h, tallyAsk_accepted]

/-- The counter that a commit of TALLY_LVAL replaces: its value, with what was counted in the same cycle on top (R12). -/
def replacedCounter (o : Origin) (v : Word) (i : Nat) (s : State) : Nat :=
  counterAdd ((s.staged o Reg.TALLY_LVAL_LO).toNat + bits v 15 0 * 2 ^ 32) (if s.slowClock then 0 else NMap.getD s.tickAdds i 0)

/-- A sparse map in which a counter of 0 is not listed. -/
def putCounter (m : NMap Nat) (i n : Nat) : NMap Nat := if n = 0 then NMap.del m i else NMap.put m i n

theorem getD_putCounter (m : NMap Nat) (i n : Nat) : NMap.getD (putCounter m i n) i 0 = n := by
  unfold putCounter
  split
  · rw [NMap.getD, find_del, if_pos rfl]
    exact Eq.symm ‹_›
  · exact getD_put_self ..

theorem find_putCounter_ne {i j : Nat} (h : j ≠ i) (m : NMap Nat) (n : Nat) : NMap.find (putCounter m i n) j = NMap.find m j := by
  unfold putCounter
  split
  · rw [find_del, if_neg (Ne.symm h)]
  · exact find_put_ne _ _ (Ne.symm h)

theorem exec_tallyRequest {s : State} (ho : Open s) (t : Nat) (o : Origin) (v : Word) :
    Sys2Proof.Machine.exec (.tallyRequest t o v) s = .next (((s.advanceTo t).setPair o Reg.TALLY_AT_LO Reg.TALLY_AT_HI
      (join64 (s.staged o Reg.TALLY_AT_LO) v)).tallyAsk o (join64 (s.staged o Reg.TALLY_AT_LO) v)) := by
  have hopen := open_advanceTo ho t
  show Host.Outcome.next ((s.advanceTo t).writeTallyAt o v) = _
  rw [State.writeTallyAt, gateWrite_row (w := .live) (res := 0) (by decide +kernel) hopen (live_allows hopen) BitVec.and_zero,
    staged_advanceTo]

theorem exec_tallyLvalCommit {t : Nat} {o : Origin} {v : Word} {s : State} (ho : Open s)
    (hres : counterReserved (bits (s.pathReg o Reg.TALLY_LSEL) 17 0) = false) (hv : v &&& 0xFFFE0000 = 0) :
    Sys2Proof.Machine.exec (.tallyLvalCommit t o v) s = .next { s.advanceTo t with tally := { (s.advanceTo t).tally with
      live := putCounter (s.advanceTo t).tally.live (bits (s.pathReg o Reg.TALLY_LSEL) 17 0)
        (replacedCounter o v (bits (s.pathReg o Reg.TALLY_LSEL) 17 0) (s.advanceTo t)) } } := by
  have hopen := open_advanceTo ho t
  show Host.Outcome.next ((s.advanceTo t).writeLval o v) = _
  rw [State.writeLval, gateWrite_row (w := .live) (res := 0xFFFE0000) (by decide +kernel) hopen (live_allows hopen) hv]
  simp only [pathReg_advanceTo, hres, Bool.false_eq_true, if_false]
  rfl

/-- Settles O14: the gate or the fetch lets each through, and its condition holds as the statement gives it. -/
theorem tallyLatchesAndStagesEveryCounter : Obligations.TallyLatchesAndStagesEveryCounter := by
  refine ⟨fun t o v s ho ht hready hslack hholdup hidle hat => ?_, fun t s ht hpend hlatched hat => ?_,
    fun t s hpend hlatched hstaged => ?_, fun t o v s ho hres hv => ?_, fun t cntl e s hr ht he hready hidle hlen hat => ?_⟩
  · have hopen := open_advanceTo ho t
    have hnow := advanceTo_now ht.1 ht.2.1 ht.2.2
    have hcause : (((s.advanceTo t).setPair o Reg.TALLY_AT_LO Reg.TALLY_AT_HI (join64 (s.staged o Reg.TALLY_AT_LO) v))).tallyCause
        (join64 (s.staged o Reg.TALLY_AT_LO) v) = 0 :=
      tallyCause_accepts (by rwa [← hnow] at hat) (by rwa [← advanceTo_tally t s] at hidle) (by rwa [← advanceTo_mem t s] at hready)
        ⟨hopen.1, by rwa [← advanceTo_md t s] at hslack, hopen.2, by rwa [← advanceTo_md t s] at hholdup⟩
    refine ⟨_, exec_tallyRequest ho t o v, ?_⟩
    rw [tallyAsk_accepted hcause, ← advanceTo_tally t s]
    rfl
  · have hnow := advanceTo_now ht.1 ht.2.1 ht.2.2
    have hexec : Sys2Proof.Machine.exec (.tallyLatch t) s = .next (s.advanceTo t).tallyCopy := by
      show execTallyLatch t s = _
      simp [execTallyLatch, hpend, hlatched, hnow, hat]
    have hkept {α : Type} (g : TallyState → α) (hg : ∀ a, g { a with live := [], adds := [], addsAt := 0 } = g a) :=
      count_tallyKept 13 { s.advanceTo t with tally := { (s.advanceTo t).tally with
        shadow := (s.advanceTo t).tally.live, latched := true, ltick := (s.advanceTo t).tally.at_ } } g hg
    refine ⟨_, hexec, ?_, ?_, ?_, ?_⟩
    · exact (hkept (·.shadow) fun _ => rfl).trans (congrArg TallyState.live (advanceTo_tally t s))
    · exact (hkept (·.ltick) fun _ => rfl).trans (congrArg TallyState.at_ (advanceTo_tally t s))
    · exact hkept (·.latched) fun _ => rfl
    · rw [State.tallyCopy, count_tally_eq]
      exact after_advanceTo (P := fun x => ∀ c, ({ x with tally := c } : State) = { s with time := x.time, tally := c }) t (fun _ _ => rfl) _
  · have hexec : Sys2Proof.Machine.exec (.tallyStagingDone t) s = .next (s.advanceTo t).tallyStage := by
      show execTallyStagingDone t s = _
      simp [execTallyStagingDone, hpend, hlatched, hstaged]
    have htally := tallyStage_tally (s.advanceTo t)
    have hcells := tallyStage_cells (s.advanceTo t)
    rw [advanceTo_tally] at htally
    rw [advanceTo_mem, advanceTo_tally, advanceTo_image] at hcells
    exact ⟨_, hexec, htally, tallyStage_line _, _, hcells⟩
  · refine ⟨_, exec_tallyLvalCommit ho hres hv, ?_, fun j hj => ?_, ?_⟩
    · rw [getD_putCounter, replacedCounter, staged_advanceTo]
    · rw [← advanceTo_tally t s]
      exact find_putCounter_ne hj _ _
    · exact after_advanceTo (P := fun x => ∀ m, ({ x with tally := { x.tally with live := m } } : State) =
        { s with time := x.time, tally := { s.tally with live := m } }) t (fun _ _ => rfl) _
  · obtain ⟨hrun, -⟩ := ready_admin (t := t) (run := State.tallyIn cntl e) hr he
    have f := fetched_advanceTo_frame t cntl 0 e s
    have hkept {α : Type} (g : TallyState → α) (hg : ∀ a, g { a with live := [], adds := [], addsAt := 0 } = g a) :
        g ((s.advanceTo t).fetched cntl 0 e).tally = g s.tally := f.tallyKept (by decide) g hg
    have hnow : ((s.advanceTo t).fetched cntl 0 e).time.now = t := by rw [fetched_time, advanceTo_now ht.1 ht.2.1 ht.2.2]
    have hfront : s.md.mode.frontEnd = true := by
      have h := hr.1
      simp only [State.canFetch, Bool.and_eq_true] at h
      exact h.1.1.1
    have hcause : ((s.advanceTo t).fetched cntl 0 e).tallyCause (slbaOf e) = 0 :=
      tallyCause_accepts (by rwa [hnow]) ((hkept (·.pending) fun _ => rfl).trans hidle) (by rwa [f.mem (by decide)])
        (by rw [f.md (by decide)]; exact frontEnd_serves hfront)
    rw [tallyIn_accepted hlen (by omega) hcause] at hrun
    refine ⟨_, congrArg Host.Outcome.next hrun, rfl, rfl, ?_⟩
    exact congrArg (· ++ [(cntl, e)]) (hkept (·.waiting) fun _ => rfl)

end Sys2Proof.Proofs
end

section
/-!
SUPPORT. The recorder's window, its clears and its flush timer (R380, R382, R383).
-/

namespace Sys2Proof.Proofs

open Sys2Proof.Machine Sys2Proof.Safety Sys2Proof.Laws

-- One proof after another, as in the tests: proofs that wait for each other would each hold a stack.
set_option Elab.async false

/-! ### The window -/

/-- The words of a record that a path keeps, up to one of them. -/
def keepWords (o : Origin) (e : EventRec) (n : Nat) (s : State) : State :=
  (List.range n).foldl (fun (w : State) i => w.setPathReg o (Reg.RCDR_RDATA0 + 4 * i) (recWord e i)) s

theorem keepWords_succ (o : Origin) (e : EventRec) (n : Nat) (s : State) :
    keepWords o e (n + 1) s = (keepWords o e n s).setPathReg o (Reg.RCDR_RDATA0 + 4 * n) (recWord e n) := by
  simp [keepWords, List.range_succ]

theorem pathReg_keepWords {i n : Nat} (h : i < n) (o : Origin) (e : EventRec) (s : State) :
    (keepWords o e n s).pathReg o (Reg.RCDR_RDATA0 + 4 * i) = recWord e i := by
  induction n with
  | zero => omega
  | succ n ih =>
    rw [keepWords_succ]
    obtain rfl | hlt := Nat.eq_or_lt_of_le (Nat.le_of_lt_succ h)
    · exact pathReg_setPathReg ..
    · rw [pathReg_setPathReg_ne _ _ _ (by omega), ih hlt]

theorem selectedRec_advanceTo (t : Nat) (o : Origin) (s : State) : (s.advanceTo t).selectedRec o = s.selectedRec o :=
  after_advanceTo (P := fun x => x.selectedRec o = s.selectedRec o) t fun _ => rfl

theorem exec_recorderReadWindow {s : State} (ho : Open s) (t : Nat) (o : Origin) :
    Sys2Proof.Machine.exec (.recorderReadWindow t o) s = .next ((s.advanceTo t).latchRecord o) :=
  congrArg Host.Outcome.next (gateRead_open (open_advanceTo ho t) (by decide +kernel) _)

/-! ### Clears -/

/-- A clear uses its nonce up; one that is performed hides the records up to its SEQ. -/
theorem clearRecs_rcdr (o : Origin) (nonce upTo : Nat) (s : State) :
    (s.clearRecs o nonce upTo).rcdr.nonces = NMap.del s.rcdr.nonces (pathCode o) ∧
      (s.clearCause o nonce upTo = 0 → (s.clearRecs o nonce upTo).rcdr.hiddenTo = max s.rcdr.hiddenTo upTo) := by
  have hkept {α : Type} (code : Nat) (data : List Nat) (m : Nat) (x : State) (g : RecorderState → α)
      (hg : ∀ a, g { a with newest := 0, recs := [], lost := 0, lostMark := false, windows := [] } = g a) :
      g ((x.raise Reg.RCDR_STATUS m).record code data).rcdr = g x.rcdr := (State.record_frame _ _ _).rcdrKept (by decide) g hg
  by_cases hc : s.clearCause o nonce upTo = 0
  · simp only [State.clearRecs, hc, if_true]
    exact ⟨hkept _ _ _ _ (·.nonces) fun _ => rfl, fun _ => hkept _ _ _ _ (·.hiddenTo) fun _ => rfl⟩
  · simp only [State.clearRecs, hc, if_false]
    exact ⟨hkept _ _ _ _ (·.nonces) fun _ => rfl, fun h => h.elim⟩

theorem clearCause_performed {o : Origin} {nonce upTo tick : Nat} {s : State}
    (hn : NMap.find s.rcdr.nonces (pathCode o) = some (nonce, tick)) (ht : s.time.now ≤ tick + 10 * secondTicks)
    (hup : upTo ≤ s.rcdr.newest) : s.clearCause o nonce upTo = 0 := by
  simp [State.clearCause, hn, Nat.not_lt.2 ht, Nat.not_lt.2 hup]

theorem exec_clearArm {s : State} (ho : Open s) (t : Nat) (o : Origin) :
    Sys2Proof.Machine.exec (.clearArm t o 1) s = .next ((s.advanceTo t).armClear o) := by
  have hopen := open_advanceTo ho t
  show Host.Outcome.next ((s.advanceTo t).writeClrArm o 1) = _
  rw [State.writeClrArm, gateWrite_row (w := .live) (res := 0xFFFFFFFE) (by decide +kernel) hopen (live_allows hopen) (by decide),
    if_pos (by decide)]

theorem exec_clearGo {s : State} (ho : Open s) (t : Nat) (o : Origin) (v : Word) :
    Sys2Proof.Machine.exec (.clearGo t o v) s =
      .next ((s.advanceTo t).clearRecs o v.toNat (s.pair o Reg.RCDR_CLRSEQ_LO Reg.RCDR_CLRSEQ_HI)) := by
  have hopen := open_advanceTo ho t
  show Host.Outcome.next ((s.advanceTo t).writeClrGo o v) = _
  rw [State.writeClrGo, gateWrite_row (w := .live) (res := 0) (by decide +kernel) hopen (live_allows hopen) BitVec.and_zero]
  simp only [State.pair, pathReg_advanceTo]

/-! ### The admin commands -/

theorem completeAdmin_answers {cntl sct sc dw0 : Nat} {e : Sqe} {s : State} (h : Room cntl 0 s) :
    Answers cntl 0 e.cid sct sc dw0 s (s.completeAdmin cntl e sct sc dw0) := complete_answers h

theorem completeAdmin_nonces (cntl : Nat) (e : Sqe) (sct sc dw0 : Nat) (s : State) :
    (s.completeAdmin cntl e sct sc dw0).rcdr.nonces = s.rcdr.nonces :=
  (State.completeAdmin_frame cntl e sct sc dw0 s).rcdrKept (by decide) (·.nonces) fun _ => rfl

theorem completeAdmin_hiddenTo (cntl : Nat) (e : Sqe) (sct sc dw0 : Nat) (s : State) :
    (s.completeAdmin cntl e sct sc dw0).rcdr.hiddenTo = s.rcdr.hiddenTo :=
  (State.completeAdmin_frame cntl e sct sc dw0 s).rcdrKept (by decide) (·.hiddenTo) fun _ => rfl

/-- The data of an admin command leaves its completion's queue as it was. -/
theorem room_adminData {cntl c q : Nat} {e : Sqe} {bytes : List Byte} {s : State} (h : Room c q s) :
    Room c q (s.adminData cntl e bytes) :=
  h.of_frame (State.adminData_frame cntl e bytes s) (by decide) (by decide)

theorem readableRecs_of_rcdr {s u : State} (h : u.rcdr = s.rcdr) : u.readableRecs = s.readableRecs := by
  have hr : u.readableRec = s.readableRec := funext fun e => by rw [State.readableRec, h, State.readableRec]
  rw [State.readableRecs, hr, h, State.readableRecs]

theorem recorderOut_of_units {cntl : Nat} {e : Sqe} {s : State} (h1 : 1 ≤ bits e.dw12 15 0) (h2 : bits e.dw12 15 0 ≤ 256) :
    ∃ bytes, s.recorderOut cntl e = (s.adminData cntl e bytes).completeAdmin cntl e 0 0
      (fitRecs (4096 * bits e.dw12 15 0) (s.readableRecs.filter (fun r => decide (slbaOf e ≤ r.seq)))).length := by
  have hunits : ¬ (bits e.dw12 15 0 = 0 ∨ 256 < bits e.dw12 15 0) := by omega
  exact ⟨_, if_neg hunits⟩

theorem recorderRead_answers {cntl t : Nat} {e : Sqe} {s : State} (hr : Ready cntl 0 s) (he : e.fuse = 0) (h1 : 1 ≤ bits e.dw12 15 0)
    (h2 : bits e.dw12 15 0 ≤ 256) : ∃ u, Sys2Proof.Machine.exec (.recorderRead t cntl e) s = .next u ∧
      Answers cntl 0 e.cid 0 0
        (fitRecs (4096 * bits e.dw12 15 0) (s.readableRecs.filter (fun r => decide (slbaOf e ≤ r.seq)))).length s u := by
  obtain ⟨hrun, hroom⟩ := ready_admin (t := t) (run := State.recorderOut cntl e) hr he
  have hrec := readableRecs_of_rcdr ((fetched_advanceTo_frame t cntl 0 e s).rcdr (by decide))
  obtain ⟨bytes, hout⟩ := recorderOut_of_units (s := (s.advanceTo t).fetched cntl 0 e) (cntl := cntl) h1 h2
  rw [hrec] at hout
  refine ⟨_, congrArg Host.Outcome.next (hrun.trans hout), answers_fetched t e (answers_before (State.adminData_frame cntl e bytes _) ?_)⟩
  exact completeAdmin_answers (room_adminData hroom)

theorem recorderClearArm_arms {cntl t : Nat} {e : Sqe} {s : State} (hr : Ready cntl 0 s) (he : e.fuse = 0)
    (hm : s.md.mode ≠ .preservation) : ∃ u n, Sys2Proof.Machine.exec (.recorderClearArm t cntl e) s = .next u ∧
      NMap.find u.rcdr.nonces (pathCode .inband) = some (n, u.time.now) ∧ Answers cntl 0 e.cid 0 0 n s u := by
  obtain ⟨hrun, hroom⟩ := ready_admin_serving (t := t) (always := false) (run := State.armIn cntl e) hr hm he
  have harm := State.armClear_frame .inband ((s.advanceTo t).fetched cntl 0 e)
  refine ⟨_, ((s.advanceTo t).fetched cntl 0 e).freeValue.toNat, congrArg Host.Outcome.next hrun, ?_,
    answers_fetched t e (answers_before harm ?_)⟩
  · rw [State.armIn, completeAdmin_nonces, (State.completeAdmin_frame ..).time (by decide)]
    exact find_put_self ..
  · exact completeAdmin_answers (hroom.of_frame harm (by decide) (by decide))

theorem recorderClear_clears {cntl t : Nat} {e : Sqe} {s : State} (hr : Ready cntl 0 s) (he : e.fuse = 0)
    (hm : s.md.mode ≠ .preservation) : ∃ u, Sys2Proof.Machine.exec (.recorderClear t cntl e) s = .next u ∧
      NMap.find u.rcdr.nonces (pathCode .inband) = none ∧
      let c := (s.advanceTo t).clearCause .inband e.dw11.toNat (join64 e.dw12 e.dw13)
      Answers cntl 0 e.cid 0 (if c = 0 then 0 else 2) c s u ∧
      (c = 0 → u.rcdr.hiddenTo = max s.rcdr.hiddenTo (join64 e.dw12 e.dw13)) := by
  obtain ⟨hrun, hroom⟩ := ready_admin_serving (t := t) (always := false) (run := State.clearIn cntl e) hr hm he
  have f := State.fetched_frame cntl 0 e (s.advanceTo t)
  have hclear := State.clearRecs_frame .inband e.dw11.toNat (join64 e.dw12 e.dw13) ((s.advanceTo t).fetched cntl 0 e)
  obtain ⟨hnonces, hhidden⟩ := clearRecs_rcdr .inband e.dw11.toNat (join64 e.dw12 e.dw13) ((s.advanceTo t).fetched cntl 0 e)
  have hcause : ((s.advanceTo t).fetched cntl 0 e).clearCause .inband e.dw11.toNat (join64 e.dw12 e.dw13) =
      (s.advanceTo t).clearCause .inband e.dw11.toNat (join64 e.dw12 e.dw13) := by
    simp only [State.clearCause, f.rcdr (by decide), f.time (by decide)]
  refine ⟨_, congrArg Host.Outcome.next hrun, ?_, answers_fetched t e (answers_before hclear ?_), fun hc => ?_⟩
  · rw [State.clearIn, completeAdmin_nonces, hnonces, find_del, if_pos rfl]
  · rw [State.clearIn, ← hcause]
    exact completeAdmin_answers (hroom.of_frame hclear (by decide) (by decide))
  · rw [State.clearIn, completeAdmin_hiddenTo, hhidden (hcause.trans hc), f.rcdr (by decide), advanceTo_rcdr]

/-- Settles O15: window, clears and timer each on the state that the gate or the fetch leaves them. -/
theorem recorderIsReadAndClearedByItsRules : Obligations.RecorderIsReadAndClearedByItsRules := by
  refine ⟨fun t s e ht hfind hdue => ?_, fun t o s ho => ⟨fun e he => ?_, fun hnone => ?_⟩, fun t o s ho => ?_,
    fun t o v s n tick ho ht hn hfresh hv hup => ?_, fun t cntl e s hr he =>
      ⟨recorderRead_answers hr he, recorderClearArm_arms hr he, recorderClear_clears hr he⟩⟩
  · have hexec : Sys2Proof.Machine.exec (.recorderFlushTimer t) s = .next ((s.advanceTo t).assertLine 2) := by
      show execRecorderFlushTimer t s = _
      simp only [execRecorderFlushTimer, advanceTo_rcdr, hfind, advanceTo_now ht.1 ht.2.1 ht.2.2, hdue, if_true]
    refine ⟨_, hexec, assertLine_mem _ _, ?_⟩
    rw [assertLine_eq]
    exact after_advanceTo (P := fun x => ∀ l, ({ x with dma := { x.dma with lines := l } } : State) =
      { s with time := x.time, dma := { s.dma with lines := l } }) t (fun _ _ => rfl) _
  · refine ⟨keepWords o e 32 (s.advanceTo t), ?_, fun i hi => pathReg_keepWords hi o e _⟩
    rw [exec_recorderReadWindow ho]
    simp only [State.latchRecord, selectedRec_advanceTo, he, keepWords]
  · rw [exec_recorderReadWindow ho]
    simp only [State.latchRecord, selectedRec_advanceTo, hnone]
  · refine ⟨_, s.freeValue.toNat, exec_clearArm ho t o, ?_, ?_⟩
    · exact after_advanceTo (P := fun x => NMap.find (x.armClear o).rcdr.nonces (pathCode o) = some (s.freeValue.toNat, x.time.now)) t
        fun _ => find_put_self ..
    · exact after_advanceTo (P := fun x => x.armClear o =
        { s with time := x.time, rcdr := { s.rcdr with nonces := (x.armClear o).rcdr.nonces }, free := s.free + 1 }) t fun _ => rfl
  · subst hv
    obtain ⟨hnonces, hhidden⟩ := clearRecs_rcdr o v.toNat (s.pair o Reg.RCDR_CLRSEQ_LO Reg.RCDR_CLRSEQ_HI) (s.advanceTo t)
    rw [← advanceTo_now ht.1 ht.2.1 ht.2.2] at hfresh
    rw [← advanceTo_rcdr t s] at hn hup
    have hcause := clearCause_performed hn hfresh hup
    refine ⟨_, exec_clearGo ho t o v, ?_, ?_⟩
    · rw [hhidden hcause, advanceTo_rcdr]
    · rw [hnonces, advanceTo_rcdr]

end Sys2Proof.Proofs
end

section
/-!
SUPPORT. Rails, clocks, temperature and time inputs (R218, R401, R406, R410, R411).
-/

namespace Sys2Proof.Proofs

open Sys2Proof.Machine Sys2Proof.Safety Sys2Proof.Laws

-- One proof after another, as in the tests: proofs that wait for each other would each hold a stack.
set_option Elab.async false

/-! ### Rails and clocks -/

/-- An event recorded leaves a state's own transition as it was recorded. -/
theorem entered_record {m : Mode} {c : Nat} {s u : State} (h : Entered m c s u) (code : Nat) (data : List Nat) :
    Entered m c s (u.record code data) :=
  entered_after h (State.record_frame code data u) (by decide) (by decide)

theorem record_time (code : Nat) (data : List Nat) (s : State) : (s.record code data).time = s.time :=
  (State.record_frame code data s).time (by decide)

theorem record_elec (code : Nat) (data : List Nat) (s : State) : (s.record code data).elec = s.elec :=
  (State.record_frame code data s).elec (by decide)

theorem record_mode (code : Nat) (data : List Nat) (s : State) : (s.record code data).md.mode = s.md.mode :=
  (State.record_frame code data s).mode (by decide)

/-- A quantity of the mode registers that kept events do not enter stands through a record. -/
theorem record_mdKept {α : Type} (code : Nat) (data : List Nat) (s : State) (g : ModeState → α)
    (hg : ∀ a, g { a with bootEvents := [] } = g a) : g (s.record code data).md = g s.md :=
  (State.record_frame code data s).mdKept (by decide) g hg

/-- A quantity of the clock that the counter does not enter stands while time moves. -/
theorem advanceTo_timeKept {α : Type} (t : Nat) (s : State) (g : TimeState → α)
    (hg : ∀ a n f, g { a with now := n, frac := f } = g a) : g (s.advanceTo t).time = g s.time := by
  unfold State.advanceTo
  split
  · rfl
  · split
    · exact hg s.time _ _
    · exact hg s.time _ s.time.frac

theorem exec_railOutOfRange {rail : Nat} {s : State} (hr : rail < 9) (hp : s.md.pwrgd = true) (t mv : Nat) :
    Sys2Proof.Machine.exec (.railOutOfRange t rail mv) s = .next (({ s.advanceTo t with
      elec := { s.elec with railsOut := s.elec.railsOut ||| 2 ^ rail }
      ldg := { s.ldg with vppLow := if rail = 8 then decide (mv < 2375) else s.ldg.vppLow } } : State).raise Reg.GCTL_RAIL (2 ^ rail)
        |>.recordOnce 0xC001 rail [rail, mv]) := by
  show execRailOutOfRange t rail mv s = _
  simp only [execRailOutOfRange, Nat.not_le.2 hr, if_false, advanceTo_md, hp, if_true, advanceTo_elec, advanceTo_ldg]
  rfl

/-- A lane's state in a list where each entry's value is rewritten by its key. -/
theorem find_mapKeyed {α : Type} (f : Nat → α → α) (m : NMap α) (k : Nat) :
    NMap.find (m.map fun p => (p.1, f p.1 p.2)) k = (NMap.find m k).map (f k) := by
  induction m with
  | nil => rfl
  | cons p m ih =>
    obtain ⟨i, x⟩ := p
    rw [List.map_cons, find_cons, find_cons, ih]
    by_cases h : k = i
    · subst h
      simp
    · simp [h]

theorem lanesDown_frontEnd {l : Nat} (h : l < 16) (s : State) : NMap.getD (s.lanesDown false).faults.lanes l 0 = 0 := by
  have hmine : (decide (16 ≤ l) == false) = true := by simp; omega
  have hfind := find_mapKeyed (fun k v => if decide (16 ≤ k) == false then 0 else v) s.faults.lanes l
  simp only [NMap.getD, State.lanesDown, hfind, if_pos hmine]
  cases NMap.find s.faults.lanes l <;> rfl

/-- The loss of REFCLK100 enters Reset and holds the device there. -/
theorem exec_clockLoss_refclk {s : State} (hlost : s.time.refclkLost = false) (hm : s.md.mode ≠ .reset) (t : Nat) :
    let x := (s.advanceTo t).enterReset 1 2
    Sys2Proof.Machine.exec (.clockLoss t 0) s = .next (({ x with
      time := { x.time with refclkLost := true }, md := { x.md with heldInReset := true } } : State).record 0xC020 [x.time.now]) := by
  have hlost' : (s.advanceTo t).time.refclkLost = false := (advanceTo_timeKept t s (·.refclkLost) fun _ _ _ => rfl).trans hlost
  show execClockLoss t 0 s = _
  simp only [execClockLoss, hlost', advanceTo_md, hm, if_false, Bool.false_eq_true]

/-- Settles O16: each command's own update, with an event behind it that none of these quantities enters. -/
theorem railsAndClocksActByTheirTables : Obligations.RailsAndClocksActByTheirTables := by
  refine ⟨fun t rail mv s hr hp => ?_, fun t rail s hout hvpp => ?_, fun t s hlost hm => ?_, fun t s hlost => ?_, fun t s hlost => ?_,
    fun t s hlost hm hpin => ?_⟩
  · have f := State.recordOnce_frame 0xC001 rail [rail, mv] (({ s.advanceTo t with
      elec := { s.elec with railsOut := s.elec.railsOut ||| 2 ^ rail }
      ldg := { s.ldg with vppLow := if rail = 8 then decide (mv < 2375) else s.ldg.vppLow } } : State).raise Reg.GCTL_RAIL (2 ^ rail))
    refine ⟨_, exec_railOutOfRange hr hp t mv, ?_, ?_, ?_, ?_⟩
    · rw [f.elec (by decide)]
      rfl
    · rw [recordOnce_reg _ _ _ _ (by decide) (by decide), reg_raise, ← reg_advanceTo t s]
      rfl
    · rw [f.mode (by decide), ← advanceTo_md t s]
      rfl
    · rw [f.ldg (by decide)]
      rfl
  · show execRailBackInRange t rail s = _
    have hvpp' : rail ≠ railVpp := hvpp
    simp only [execRailBackInRange, advanceTo_elec, hout, hvpp', if_false, Nat.one_ne_zero]
    exact congrArg Host.Outcome.next (after_advanceTo (P := fun x => ∀ e, ({ x with elec := e } : State) =
      { s with time := x.time, elec := e }) t (fun _ _ => rfl) _)
  · obtain ⟨hentered, -⟩ := enterReset_entered 1 2 (s.advanceTo t)
    refine ⟨_, exec_clockLoss_refclk hlost hm t, entered_record ?_ _ _, ?_, ?_⟩
    · exact entered_of_prev hentered (by rw [advanceTo_md])
    · rw [record_time]
    · exact record_mdKept _ _ _ (·.heldInReset) fun _ => rfl
  · have hlost' : (s.advanceTo t).time.sref0Lost = false := (advanceTo_timeKept t s (·.sref0Lost) fun _ _ _ => rfl).trans hlost
    have hexec : Sys2Proof.Machine.exec (.clockLoss t 1) s = .next ((({ s.advanceTo t with
        time := { (s.advanceTo t).time with sref0Lost := true } } : State).lanesDown false).record 0xC021 [0, Config.itemCode 0xC021 0]) := by
      show execClockLoss t 1 s = _
      simp only [execClockLoss, hlost', if_false, Bool.false_eq_true]
    refine ⟨_, hexec, ?_, fun l hl => ?_⟩
    · rw [record_time]
      rfl
    · rw [record_faults]
      exact lanesDown_frontEnd hl _
  · have hlost' : (s.advanceTo t).time.sref0Lost = true := (advanceTo_timeKept t s (·.sref0Lost) fun _ _ _ => rfl).trans hlost
    have hexec : Sys2Proof.Machine.exec (.clockRestore t 1) s = .next (({ s.advanceTo t with
        time := { (s.advanceTo t).time with sref0Lost := false } } : State).record 0xC021 [0, Config.itemCode 0xC021 1]) := by
      show execClockRestore t 1 s = _
      simp only [execClockRestore, hlost', and_self, if_true]
    refine ⟨_, hexec, ?_, ?_⟩
    · rw [record_time]
    · rw [record_faults, ← advanceTo_faults t s]
  · have hlost' : (s.advanceTo t).time.refclkLost = true := (advanceTo_timeKept t s (·.refclkLost) fun _ _ _ => rfl).trans hlost
    show execRefclk100Restored t s = _
    simp only [execRefclk100Restored, hlost', advanceTo_md, hm, hpin, Bool.not_true, Bool.false_eq_true, false_and, and_false, if_false]
    exact congrArg Host.Outcome.next (after_advanceTo (P := fun x => ∀ a b, ({ x with time := a, md := b } : State) =
      { s with time := a, md := b }) t (fun _ _ _ => rfl) _ _)

/-! ### Temperature -/

/-- Throttling changes its own mark and records it. -/
theorem throttling_frame (c : Int) (s : State) : Frame 1114142 s (s.throttling c) := by
  unfold State.throttling
  dsimp only
  refine Frame.ite (fun _ => ?_) fun _ => Frame.ite (fun _ => ?_) fun _ => Frame.refl s
  · exact Frame.comp (State.record_frame _ _ _) rfl (Frame.set_elec rfl (Frame.refl s))
  · exact Frame.comp (State.record_frame _ _ _) rfl (Frame.set_elec rfl (Frame.refl s))

theorem throttling_elec (c : Int) (s : State) : (s.throttling c).elec = { s.elec with
    throttle := if s.elec.throttle then decide ((s.regField Reg.GCTL_THROT 7 0 : Int) - s.regField Reg.GCTL_THROT 11 8 ≤ c)
      else decide ((s.regField Reg.GCTL_THROT 7 0 : Int) ≤ c) } := by
  have hsame {b : Bool} (h : s.elec.throttle = b) : s.elec = { s.elec with throttle := b } := by rw [← h]
  unfold State.throttling
  dsimp only
  cases hthr : s.elec.throttle with
  | true =>
    by_cases hc : c < (s.regField Reg.GCTL_THROT 7 0 : Int) - s.regField Reg.GCTL_THROT 11 8
    · simp [hc, record_elec, Int.not_le.2 hc]
    · simpa [hc, Int.not_lt.1 hc] using hsame hthr
  | false =>
    by_cases hc : (s.regField Reg.GCTL_THROT 7 0 : Int) ≤ c
    · simp [hc, record_elec]
    · simpa [hc] using hsame hthr

/-- The state as a reading leaves it before any limit acts. -/
def withReading (sensor : Nat) (c : Int) (s : State) : State :=
  { s with elec := { s.elec with
      temp := c, sensor := sensor, tempMax := some (match s.elec.tempMax with | some m => max m c | none => c) } }

theorem exec_temperatureReading {s : State} (hm : s.md.mode ≠ .reset) (t sensor : Nat) (c : Int) :
    ∃ reached, Sys2Proof.Machine.exec (.temperatureReading t sensor c) s =
      .next ((((withReading sensor c (s.advanceTo t)).throttling c).hotLimit sensor c reached).thermalTrip sensor c) := by
  have hm' : (s.advanceTo t).md.mode ≠ .reset := by rwa [advanceTo_md]
  exact ⟨_, congrArg Host.Outcome.next (if_neg hm')⟩

theorem hotLimit_below {c : Int} (h : c < 125) (sensor : Nat) (reached : Bool) (s : State) : s.hotLimit sensor c reached = s := by
  simp [State.hotLimit, h]

theorem thermalTrip_below {c : Int} (h : c < 130) (sensor : Nat) (s : State) : s.thermalTrip sensor c = s := by
  simp [State.thermalTrip, h]

theorem hotLimit_preserves {c : Int} {s : State} (h : 125 ≤ c) (hm : s.md.mode.canPreserve = true) (sensor : Nat) (reached : Bool) :
    Entered .preservation 0x0B s (s.hotLimit sensor c reached) ∧ (s.hotLimit sensor c reached).elec = s.elec := by
  have hrun : s.hotLimit sensor c reached = (s.record 0xC032 [sensor]).enterPreservation 0x0B := by
    simp [State.hotLimit, Int.not_lt.2 h, hm]
  have hmode := record_mode 0xC032 [sensor] s
  rw [hrun]
  refine ⟨entered_of_prev (enterPreservation_entered (by rwa [hmode])) hmode, ?_⟩
  rw [(State.enterPreservation_frame _ _).elec (by decide), record_elec]

theorem thermalTrip_resets {c : Int} (h : 130 ≤ c) (sensor : Nat) (s : State) :
    (s.thermalTrip sensor c).md.mode = .reset ∧ (s.thermalTrip sensor c).md.thermtripN = false ∧
      (s.thermalTrip sensor c).ciph.slots = [] ∧ (s.thermalTrip sensor c).idm.sessions = [] := by
  obtain ⟨⟨hmode, -⟩, -⟩ := enterReset_entered 1 2 s
  obtain ⟨hslots, hsessions, -⟩ := enterReset_clears 1 2 s
  simp only [State.thermalTrip, Int.not_lt.2 h, decide_false, Bool.false_eq_true, if_false]
  refine ⟨(record_mode _ _ _).trans hmode, record_mdKept _ _ _ (·.thermtripN) fun _ => rfl, ?_, ?_⟩
  · rw [(State.record_frame _ _ _).ciph (by decide)]
    exact hslots
  · rw [(State.record_frame _ _ _).idm (by decide)]
    exact hsessions

/-- Settles O17: the reading is kept first, and each limit reached acts in its turn. -/
theorem temperatureLimitsActAsListed : Obligations.TemperatureLimitsActAsListed := by
  intro t sensor c s hm
  obtain ⟨reached, hexec⟩ := exec_temperatureReading hm t sensor c
  have f := throttling_frame c (withReading sensor c (s.advanceTo t))
  have hmd : ((withReading sensor c (s.advanceTo t)).throttling c).md.mode = s.md.mode := by
    rw [f.mode (by decide), ← advanceTo_md t s]
    rfl
  have helec := throttling_elec c (withReading sensor c (s.advanceTo t))
  have htemp : ((withReading sensor c (s.advanceTo t)).throttling c).elec.temp = c := by rw [helec]; rfl
  refine ⟨fun h => ?_, fun h1 h2 hp => ?_, fun h => ?_⟩
  · rw [hotLimit_below h, thermalTrip_below (by omega)] at hexec
    have hfield (hi lo : Nat) : (withReading sensor c (s.advanceTo t)).regField Reg.GCTL_THROT hi lo = s.regField Reg.GCTL_THROT hi lo :=
      congrArg (bits · hi lo) (reg_advanceTo t s _)
    refine ⟨_, hexec, hmd, htemp, by rw [helec]; rfl, ?_, ?_⟩
    · rw [helec, ← advanceTo_elec t s]
      rfl
    · rw [helec, hfield, hfield, ← advanceTo_elec t s]
      rfl
  · rw [thermalTrip_below h2] at hexec
    obtain ⟨hentered, hkept⟩ := hotLimit_preserves (s := (withReading sensor c (s.advanceTo t)).throttling c) h1 (by rwa [hmd]) sensor reached
    exact ⟨_, hexec, entered_of_prev hentered hmd, by rw [hkept, htemp]⟩
  · exact ⟨_, hexec, thermalTrip_resets h sensor _⟩

/-! ### Time inputs -/

/-- PPS_OUT is a pin: the fence does not hold it (R259). -/
theorem emit_ppsOut (rise : Bool) (s : State) : s.emit (.ppsOut rise) = { s with outbox := .ppsOut rise :: s.outbox } := by
  simp [State.emit, State.onFrontEnd]

/-- Settles O18: each writes its own field of the clock. -/
theorem timeInputsAreStamped : Obligations.TimeInputsAreStamped := by
  refine ⟨fun t s hm => ?_, fun t s hm hlow hsince => ?_, fun t port sec s hport hm hslack => ?_⟩
  · show execPpsInEdge t s = _
    simp [execPpsInEdge, hm]
  · have hlow' : (s.advanceTo t).time.ppsOut = false := (advanceTo_timeKept t s (·.ppsOut) fun _ _ _ => rfl).trans hlow
    have hexec : Sys2Proof.Machine.exec (.ppsOutEdge t true) s = .next
        (({ s.advanceTo t with time := { (s.advanceTo t).time with ppsOut := true } } : State).emit (.ppsOut true)) := by
      show execPpsOutEdge t true s = _
      simp [execPpsOutEdge, hm, hlow', hsince]
    rw [emit_ppsOut] at hexec
    refine ⟨_, hexec, rfl, by rw [← advanceTo_outbox t s], ?_⟩
    exact after_advanceTo (P := fun x => ∀ a b, ({ x with time := a, outbox := b } : State) = { s with time := a, outbox := b }) t
      (fun _ _ _ => rfl) _ _
  · show execPtpMessage t port sec s = _
    simp [execPtpMessage, hport, hm, hslack]

end Sys2Proof.Proofs
end

section
/-!
SUPPORT. Reset inputs and the button (R353, R356): what a transition leaves of the mode registers, and the classes of a press.
-/

namespace Sys2Proof.Proofs

open Sys2Proof.Machine Sys2Proof.Safety Sys2Proof.Laws

-- One proof after another, as in the tests: proofs that wait for each other would each hold a stack.
set_option Elab.async false

/-! ### Mode registers through a transition -/

/-- A quantity of the mode registers that a transition does not write: mode, cause, tick and their like do not enter it, nor do the events
kept in Reset. -/
def Unmoded {α : Type} (g : ModeState → α) : Prop :=
  ∀ (a : ModeState) (m p : Mode) (c k n : Nat) (f : Bool) (w : ModeState) (e : List (Nat × Nat × List Nat)),
    g { a with mode := m, prev := p, cause := c, tick := k, fenceN := f, wdog := w.wdog, rstSource := n, bootEvents := e } = g a

theorem Unmoded.changeMode {α : Type} {g : ModeState → α} (hg : Unmoded g) (m : Mode) (c : Nat) (s : State) :
    g (s.changeMode m c).md = g s.md := by
  refine ((changeMode_after m c s).mdKept (by decide) g fun a => ?_).trans ?_
  · exact hg a a.mode a.prev a.cause a.tick a.rstSource a.fenceN a []
  · exact hg s.md m s.md.mode c s.time.now s.md.rstSource m.fenceHigh { s.md with wdog := s.wdogFrom } s.md.bootEvents

/-- What of the mode registers Reset keeps (log 9) stands as it was. -/
theorem enterReset_mdKept {α : Type} {g : ModeState → α} (hg : Unmoded g) (c n : Nat) (s : State)
    (hkept : ∀ x : State, g x.clearVolatile.md = g x.md) : g (s.enterReset c n).md = g s.md := by
  refine (hkept _).trans (Eq.trans (b := g (s.abortTest.changeMode .reset c).md) ?_ ?_)
  · exact hg (s.abortTest.changeMode .reset c).md _ _ _ _ n _ (s.abortTest.changeMode .reset c).md _
  · exact (hg.changeMode .reset c s.abortTest).trans (by rw [(State.abortTest_frame s).md (by decide)])

theorem enterReset_press (c n : Nat) (s : State) : (s.enterReset c n).md.press = s.md.press :=
  enterReset_mdKept (g := (·.press)) (fun _ _ _ _ _ _ _ _ _ => rfl) c n s fun _ => rfl

theorem enterReset_rstN (c n : Nat) (s : State) : (s.enterReset c n).md.rstN = s.md.rstN :=
  enterReset_mdKept (g := (·.rstN)) (fun _ _ _ _ _ _ _ _ _ => rfl) c n s fun _ => rfl

theorem enterReset_rstFall (c n : Nat) (s : State) : (s.enterReset c n).md.rstFall = s.md.rstFall :=
  enterReset_mdKept (g := (·.rstFall)) (fun _ _ _ _ _ _ _ _ _ => rfl) c n s fun _ => rfl

/-- Entering Reset takes no time. -/
theorem enterReset_now (c n : Nat) (s : State) : (s.enterReset c n).time.now = s.time.now := by
  show (s.abortTest.changeMode .reset c).time.now = _
  rw [(changeMode_after .reset c s.abortTest).time (by decide), ← (State.abortTest_frame s).time (by decide)]
  rfl

theorem enterHoldup_mdKept {α : Type} {g : ModeState → α} (hg : Unmoded g) {c : Nat} {s : State} (h : s.md.mode.canHoldup = true) :
    g (s.enterHoldup c).md = g s.md := by
  have hkept (a : ModeState) : g { a with bootEvents := [] } = g a := hg a a.mode a.prev a.cause a.tick a.rstSource a.fenceN a []
  unfold State.enterHoldup
  rw [h]
  simp only [Bool.not_true, Bool.false_eq_true, if_false]
  refine (congrArg g ((State.emit_frame _ _).md (by decide))).trans (Eq.trans ?_ (hg.changeMode .holdup c s))
  exact (State.holdupErases_frame (s.changeMode .holdup c)).mdKept (by decide) g hkept

/-! ### Reset inputs -/

/-- The pins and the tick of their fall, as RESET_ASSERT with RST_N low notes them. -/
def fallenPins (s : State) : State := { s with md := { s.md with rstN := false, pwrgd := true, rstFall := s.time.now } }

theorem exec_resetAssert {s : State} (hrun : s.time.running = true) (hm : s.md.mode ≠ .reset) (hrst : s.md.rstN = true)
    (hpwr : s.md.pwrgd = true) (t : Nat) :
    Sys2Proof.Machine.exec (.resetAssert t true false) s = .next ((fallenPins (s.advanceTo t)).enterReset 1 1) := by
  show execResetAssert t true false s = _
  simp [execResetAssert, hrun, hm, hrst, hpwr, fallenPins]

/-- What leaving Reset leaves of the pins, and the tick of the transition. -/
theorem leaveReset_pins (s : State) : s.leaveReset.md.rstN = s.md.rstN ∧ s.leaveReset.md.pwrgd = s.md.pwrgd ∧
    s.leaveReset.md.tick = s.time.now := by
  have hall (x : State) {α : Type} (g : ModeState → α) (hg : ∀ a, g { a with bootEvents := [] } = g a) : g x.recordAllKept.md = g x.md :=
    (State.recordAllKept_frame x).mdKept (by decide) g hg
  have hpin {α : Type} (g : ModeState → α) (hg : Unmoded g) (m : Mode) (c : Nat) : g (s.startRecorder.changeMode m c).md = g s.md :=
    (hg.changeMode m c _).trans (by rw [startRecorder_md])
  have htick (m : Mode) (hs : m ≠ .slack) (hr : m ≠ .reset) (c : Nat) : (s.startRecorder.changeMode m c).md.tick = s.time.now := by
    rw [(changeMode_entered m c s.startRecorder).2.2.2.1, changeMode_time hs hr, startRecorder_time]
  unfold State.leaveReset
  dsimp only
  split
  · refine ⟨(hall _ (·.rstN) fun _ => rfl).trans (hpin (·.rstN) (fun _ _ _ _ _ _ _ _ _ => rfl) _ _),
      (hall _ (·.pwrgd) fun _ => rfl).trans (hpin (·.pwrgd) (fun _ _ _ _ _ _ _ _ _ => rfl) _ _),
      (hall _ (·.tick) fun _ => rfl).trans (htick .locked (by decide) (by decide) _)⟩
  · refine ⟨(hall _ (·.rstN) fun _ => rfl).trans ((record_mdKept _ _ _ (·.rstN) fun _ => rfl).trans
        (hpin (·.rstN) (fun _ _ _ _ _ _ _ _ _ => rfl) _ _)),
      (hall _ (·.pwrgd) fun _ => rfl).trans ((record_mdKept _ _ _ (·.pwrgd) fun _ => rfl).trans
        (hpin (·.pwrgd) (fun _ _ _ _ _ _ _ _ _ => rfl) _ _)),
      (hall _ (·.tick) fun _ => rfl).trans ((record_mdKept _ _ _ (·.tick) fun _ => rfl).trans (htick .boot (by decide) (by decide) _))⟩

/-! ### The button -/

/-- The state in which a released press is classed. -/
def releasedPress (len : Nat) (s : State) : State :=
  { s with md := { s.md with press := none, failClosed := false, lastPress := satTo 16 (len / (10 * msTicks)) } }

theorem exec_buttonRelease {t n : Nat} {s : State} (ht : Ticking t s) (hpress : s.md.press = some (n, false))
    (hfail : s.md.failClosed = false) :
    Sys2Proof.Machine.exec (.buttonRelease t) s = .next ((releasedPress (t - n) (s.advanceTo t)).classPress (t - n)) := by
  show execButtonRelease t s = _
  simp [execButtonRelease, hpress, hfail, advanceTo_now ht.1 ht.2.1 ht.2.2, releasedPress]

section
variable {len : Nat} {s : State} (hm : s.md.mode ≠ .reset)
include hm

/-- From 20 ms to 1 s: an orderly power-down. -/
theorem classPress_holdup (h1 : 20 * msTicks ≤ len) (h2 : len < 1000 * msTicks) (hc : s.md.mode.canHoldup = true) :
    s.classPress len = s.enterHoldup 2 := by
  have hserves : ¬ (s.md.mode = .boot ∨ s.md.mode = .holdup ∨ s.md.mode = .locked) := by
    rintro (h | h | h) <;> (rw [h] at hc; cases hc)
  simp only [State.classPress, hm, Nat.not_lt.2 h1, or_self, if_false, h2, if_true, hserves]

/-- From 1 s to 4 s: ignored. -/
theorem classPress_ignored (h1 : 1000 * msTicks ≤ len) (h2 : len < 4000 * msTicks) :
    s.classPress len = s.ignorePress 2 (len / msTicks) := by
  have h0 : ¬ len < 20 * msTicks := by unfold msTicks at *; omega
  simp only [State.classPress, hm, h0, or_self, if_false, Nat.not_lt.2 h1, h2, if_true]

/-- From 4 s to 10 s: a forced reset. -/
theorem classPress_reset (h1 : 4000 * msTicks ≤ len) (h2 : len < 10000 * msTicks) : s.classPress len = s.enterReset 3 3 := by
  have h0 : ¬ len < 20 * msTicks := by unfold msTicks at *; omega
  have h3 : ¬ len < 1000 * msTicks := by unfold msTicks at *; omega
  simp only [State.classPress, hm, h0, or_self, if_false, h3, Nat.not_lt.2 h1, h2, if_true]

end

/-- Settles O19: the pins lead to Reset and out of it, and each length of a press has its class. -/
theorem resetInputsAndButton : Obligations.ResetInputsAndButton := by
  refine ⟨fun t s hrun hm hrst hpwr => ?_, fun t s hrun hm hheld htrip => ?_, fun t s hrun hpress => ?_,
    fun t n s ht hpress hfail hm => ?_, fun t n s ht hpress hfail hlong => ?_⟩
  · obtain ⟨hentered, hsource⟩ := enterReset_entered 1 1 (fallenPins (s.advanceTo t))
    obtain ⟨hslots, -, -, hresv, hcells, -⟩ := enterReset_clears 1 1 (fallenPins (s.advanceTo t))
    refine ⟨_, exec_resetAssert hrun hm hrst hpwr t, entered_of_prev hentered ?_, hsource, ?_, ?_, hslots, hresv, hcells⟩
    · rw [← advanceTo_md t s]
      rfl
    · rw [enterReset_rstFall, enterReset_now]
      rfl
    · exact enterReset_rstN 1 1 _
  · obtain ⟨hrstN, hpwrgd, htick⟩ := leaveReset_pins (releasedPins (s.advanceTo t))
    refine ⟨_, exec_resetRelease hrun hm hheld htrip t, ?_, hrstN, hpwrgd, ?_⟩
    · rw [leaveReset_mode, ← advanceTo_md t s]
      rfl
    · rw [htick, leaveReset_time]
  · show execButtonPress t s = _
    simp [execButtonPress, hrun, hpress]
  · have hexec := exec_buttonRelease ht hpress hfail
    have hmode : (releasedPress (t - n) (s.advanceTo t)).md.mode = s.md.mode := by
      rw [← advanceTo_md t s]
      rfl
    refine ⟨fun h1 h2 hc => ?_, fun h1 h2 => ?_, fun h1 h2 => ?_⟩
    · rw [classPress_holdup (by rwa [hmode]) h1 h2 (by rwa [hmode])] at hexec
      exact ⟨_, hexec, entered_of_prev (enterHoldup_entered (by rwa [hmode])) hmode,
        enterHoldup_mdKept (g := (·.press)) (fun _ _ _ _ _ _ _ _ _ => rfl) (by rwa [hmode])⟩
    · rw [classPress_reset (by rwa [hmode]) h1 h2] at hexec
      obtain ⟨hentered, hsource⟩ := enterReset_entered 3 3 (releasedPress (t - n) (s.advanceTo t))
      exact ⟨_, hexec, entered_of_prev hentered hmode, enterReset_press 3 3 _, hsource⟩
    · rw [classPress_ignored (by rwa [hmode]) h1 h2] at hexec
      refine ⟨_, hexec, (record_mode _ _ _).trans hmode, record_mdKept _ _ _ (·.press) fun _ => rfl, ?_⟩
      rw [State.ignorePress, record_reg _ _ _ (by decide) (by decide), reg_raise, ← reg_advanceTo t s]
      rfl
  · have hexec : Sys2Proof.Machine.exec (.buttonFailedClosed t) s =
        .next (({ s.advanceTo t with md := { s.md with failClosed := true } } : State).record 0x1201 [n]) := by
      show execButtonFailedClosed t s = _
      simp [execButtonFailedClosed, hpress, hfail, advanceTo_now ht.1 ht.2.1 ht.2.2, Nat.not_lt.2 hlong]
    exact ⟨_, hexec, record_mdKept _ _ _ (·.failClosed) fun _ => rfl, record_mode _ _ _, record_mdKept _ _ _ (·.press) fun _ => rfl⟩

end Sys2Proof.Proofs
end

section
/-!
SUPPORT. Boot stages (R289, R358, R361): what the work of each stage leaves of the mode registers.
-/

namespace Sys2Proof.Proofs

open Sys2Proof.Machine Sys2Proof.Safety Sys2Proof.Laws

-- One proof after another, as in the tests: proofs that wait for each other would each hold a stack.
set_option Elab.async false

/-! ### The work of a stage -/

/-- The test for data past its protection ends in a transition only where Preservation may be entered. -/
theorem lossTest_of_not_canPreserve {s : State} (h : s.md.mode.canPreserve = false) : s.lossTest = s := by
  unfold State.lossTest State.enterPreservation
  simp only [h, Bool.not_false, if_true, ite_self]

/-- A member that fails: its own work, which moves no mode register, and then the test for lost data. -/
theorem memberFail_lossTest (port cause : Nat) (s : State) :
    ∃ x, Frame 3431012319198 s x ∧ (s.memberFail port cause = x.lossTest ∨ s.memberFail port cause = x) := by
  have hstart := fun x : State => Frame.comp (m := 3431012319198) (State.flashSlack_frame (fun b => b.stripsOn port) 0x3200 _) rfl
    (Frame.comp (State.updPort_frame port (fun p => { p with state := 5 }) _) rfl
      (Frame.comp (State.raise_frame Reg.STRP_STATUS 1 _) rfl (Frame.comp (State.record_frame 0x4000 [port, cause] x) rfl (Frame.refl x))))
  unfold State.memberFail
  split
  · exact ⟨s, Frame.refl s, .inr rfl⟩
  · dsimp only
    split
    · refine ⟨_, ?_, .inl rfl⟩
      refine Frame.comp (State.startRebuild_frame _ _ _ _) rfl ?_
      refine Frame.comp (State.memberChanged_frame _) rfl ?_
      refine Frame.comp (State.fillBands_frame _) rfl ?_
      refine Frame.comp (State.moveFlashWork_frame _ _ _) rfl ?_
      refine Frame.comp (State.raise_frame _ _ _) rfl ?_
      refine Frame.comp (State.record_frame _ _ _) rfl ?_
      refine Frame.comp (State.updPort_frame _ _ _) rfl ?_
      refine Frame.set_path_strp rfl rfl (fun i => absurd i (by decide)) (fun i => absurd i (by decide)) (fun _ => rfl) ?_
      exact Frame.set_path rfl (fun i => absurd i (by decide)) (fun i => absurd i (by decide)) (fun _ => rfl) (hstart s)
    · refine ⟨_, ?_, .inl rfl⟩
      refine Frame.comp (State.sealLeft_frame _) rfl ?_
      refine Frame.ite (fun _ => Frame.comp (State.record_frame _ _ _) rfl ?_) (fun _ => ?_)
      all_goals
        refine Frame.comp (State.memberChanged_frame _) rfl ?_
        refine Frame.set_path_strp rfl rfl (fun i => absurd i (by decide)) (fun i => absurd i (by decide)) (fun _ => rfl) ?_
        exact hstart s

/-- Where Preservation may not be entered, a failing member moves no mode register. -/
theorem memberFail_frame_of_not_canPreserve {s : State} (h : s.md.mode.canPreserve = false) (port cause : Nat) :
    Frame 3431012319198 s (s.memberFail port cause) := by
  obtain ⟨x, f, he | he⟩ := memberFail_lossTest port cause s
  · rwa [he, lossTest_of_not_canPreserve (by rwa [f.mode (by decide)])]
  · rwa [he]

theorem bootModules_frame_of_boot {s : State} (h : s.md.mode = .boot) : Frame 3431012319198 s s.bootModules := by
  have hfold (ps : List Nat) (x : State) (hx : Frame 3431012319198 s x) : Frame 3431012319198 s
      (ps.foldl (fun (s : State) (p : Nat) => if s.strp.failed.contains p || (s.port p).state == 4 then s else s.memberFail p 1) x) := by
    induction ps generalizing x with
    | nil => exact hx
    | cons p ps ih =>
      have hm : x.md.mode.canPreserve = false := by rw [hx.mode (by decide), h]; rfl
      exact ih _ (Frame.ite (fun _ => hx) fun _ => Frame.comp (memberFail_frame_of_not_canPreserve hm p 1) rfl hx)
  exact Frame.comp (State.resumeReshape_frame _) rfl (hfold _ s (Frame.refl s))

/-- A quantity of the mode registers that loading the map does not write. -/
theorem loadMap_mdKept {α : Type} {g : ModeState → α}
    (hg : ∀ (a : ModeState) (n : Nat) (b : Bool) (e : List (Nat × Nat × List Nat)),
      g { a with unsafeShutdowns := n, holdupDone := b, bootEvents := e } = g a) (bad : Nat) (s : State) :
    g (s.loadMap bad).md = g s.md := by
  have hkept (a : ModeState) : g { a with bootEvents := [] } = g a := hg a a.unsafeShutdowns a.holdupDone []
  unfold State.loadMap
  split
  · dsimp only
    refine ((State.replay_frame _ _).mdKept (by decide) g hkept).trans ?_
    refine (congrArg g ((State.loadShared_frame _ _).md (by decide))).trans ?_
    split
    · exact hg s.md _ false s.md.bootEvents
    · refine (congrArg g ((State.raise_frame _ _ _).md (by decide))).trans ((record_mdKept _ _ _ g hkept).trans ?_)
      exact hg s.md _ false s.md.bootEvents
  · split
    · exact (State.loseMap_frame s).mdKept (by decide) g hkept
    · exact congrArg g ((State.formatFlash_frame s).md (by decide))

/-- The units that pass return; beside their list the mode registers stand. -/
theorem returnPassed_md (s : State) : s.returnPassed.md = { s.md with passed := [] } := by
  have hfold (us : List FUnit) : (us.foldl (fun (x : State) u => x.returnUnit u) s).md = s.md := (Frame.foldl (m := 274877908000)
    (fun _ _ h => Frame.comp (State.returnUnit_frame _ _) rfl h) (Frame.refl s)).md (by decide)
  show { (s.md.passed.foldl (fun (x : State) u => x.returnUnit u) s).md with passed := [] } = _
  rw [hfold]

/-! ### The end of a stage -/

/-- The next stage begins where the work of a stage has moved no mode register. -/
theorem stageOver_after {k : Nat} {x y : State} (f : Frame k x y) (h : k.testBit 26 = false) :
    y.stageOver.md.bootStage = x.md.bootStage + 1 ∧ y.stageOver.md.mode = x.md.mode ∧
      y.stageOver.md.stageTicks = x.md.stageTicks ++ [y.stageOver.time.now - x.md.stageFrom] ∧
      y.stageOver.md.stageFrom = y.stageOver.time.now := by
  have hstage : y.md.bootStage = x.md.bootStage := f.mdKept h (·.bootStage) fun _ => rfl
  have hmode : y.md.mode = x.md.mode := f.mdKept h (·.mode) fun _ => rfl
  have hticks : y.md.stageTicks = x.md.stageTicks := f.mdKept h (·.stageTicks) fun _ => rfl
  have hfrom : y.md.stageFrom = x.md.stageFrom := f.mdKept h (·.stageFrom) fun _ => rfl
  refine ⟨?_, hmode, ?_, rfl⟩
  · show y.md.bootStage + 1 = _
    rw [hstage]
  · show y.md.stageTicks ++ [y.time.now - y.md.stageFrom] = _
    rw [hticks, hfrom]
    rfl

theorem exec_bootStageDone {s : State} (hm : s.md.mode = .boot) (hi : s.md.noImage = false) (t bad : Nat) (passed : List BootUnit) :
    Sys2Proof.Machine.exec (.bootStageDone t s.md.bootStage bad passed) s =
      .next ((s.advanceTo t).finishStage s.md.bootStage bad passed) := by
  show execBootStageDone t s.md.bootStage bad passed s = _
  simp [execBootStageDone, hm, hi]

/-- The stages whose end hands over to the next: their work moves no mode register. -/
theorem finishStage_hands_over {n : Nat} {x : State} (hm : x.md.mode = .boot)
    (hn : n ≤ 1 ∨ (n = 2 ∧ x.mem.ready = true) ∨ n = 5 ∨ n = 6) (bad : Nat) (passed : List BootUnit) :
    ∃ k y, k.testBit 26 = false ∧ Frame k (x.notePassed n passed) y ∧ x.finishStage n bad passed = y.stageOver := by
  have hfirst (h : n ≤ 1) : n = 0 ∨ n = 1 := by omega
  obtain (rfl | rfl) | ⟨rfl, hready⟩ | rfl | rfl := hn.imp_left hfirst
  · exact ⟨0, _, by decide, Frame.refl _, rfl⟩
  · exact ⟨_, _, by decide, State.bootLedger_frame _, rfl⟩
  · exact ⟨0, _, by decide, Frame.refl _, if_pos hready⟩
  · exact ⟨_, _, by decide, bootModules_frame_of_boot hm, rfl⟩
  · exact ⟨_, _, by decide, State.bootKeys_frame _, rfl⟩

/-- Without a slot Boot stays at stage 0xF, also where Bench follows a request already made. -/
theorem bootImage_none {s : State} (h : s.chooseSlot.1 = false) : s.bootImage.md.bootStage = 15 ∧ s.bootImage.md.noImage = true := by
  have hbench (x : State) {α : Type} (g : ModeState → α) (hg : Unmoded g) (hp : ∀ a, g { a with passed := [] } = g a) :
      g (x.returnPassed.changeMode .bench 4).md = g x.md :=
    (hg.changeMode .bench 4 _).trans (by rw [returnPassed_md, hp])
  have hnone (x : State) (d : List Nat) : let y := ({ x with md := { x.md with bootStage := 15, noImage := true } } : State).record 0xA202 d
      y.md.bootStage = 15 ∧ y.md.noImage = true :=
    ⟨record_mdKept _ _ _ (·.bootStage) fun _ => rfl, record_mdKept _ _ _ (·.noImage) fun _ => rfl⟩
  unfold State.bootImage
  generalize s.chooseSlot = choice at h ⊢
  obtain ⟨ok, x⟩ := choice
  obtain rfl : ok = false := h
  simp only [Bool.not_false, if_true]
  obtain ⟨hstage, himage⟩ := hnone x x.md.bootFails
  split
  · exact ⟨(hbench _ (·.bootStage) (fun _ _ _ _ _ _ _ _ _ => rfl) fun _ => rfl).trans hstage,
      (hbench _ (·.noImage) (fun _ _ _ _ _ _ _ _ _ => rfl) fun _ => rfl).trans himage⟩
  · exact ⟨hstage, himage⟩

theorem enterJoin_entered (c : Nat) (s : State) : Entered .join c s (s.enterJoin c) :=
  entered_after (enterMode_entered .join c s) (State.updMoor_frame _ _) (by decide) (by decide)

theorem enterJoin_mdKept {α : Type} {g : ModeState → α} (hg : Unmoded g) (c : Nat) (s : State) : g (s.enterJoin c).md = g s.md :=
  (congrArg g ((State.updMoor_frame _ _).md (by decide))).trans (((State.noticeAll_frame _ _ _ _).mdKept (by decide) g fun a =>
    hg a a.mode a.prev a.cause a.tick a.rstSource a.fenceN a []).trans (hg.changeMode .join c s))

/-- The end of Boot before its transition: the units that passed have returned, and the stages' ticks are recorded. -/
def bootEnded (s : State) : State :=
  ({ s.returnPassed with md := { s.returnPassed.md with btick := s.time.now } } : State).record 0xA205 s.returnPassed.md.stageTicks

theorem bootEnded_image (s : State) : (bootEnded s).image = s.image :=
  ((State.record_frame _ _ _).image (by decide)).trans ((State.returnPassed_frame s).image (by decide))

theorem bootEnded_mdKept {α : Type} {g : ModeState → α} (hg : ∀ a n p e, g { a with btick := n, passed := p, bootEvents := e } = g a)
    (s : State) : g (bootEnded s).md = g s.md := by
  refine (record_mdKept _ _ _ g fun a => hg a a.btick a.passed []).trans ?_
  show g { s.returnPassed.md with btick := s.time.now } = _
  rw [returnPassed_md]
  exact hg s.md s.time.now [] s.md.bootEvents

/-- The pod's designated master is known when Boot ends (R282). -/
def podNamed (s : State) : State := if s.inPod then { s with repl := { s.repl with master := some s.image.podDesignated } } else s

theorem podNamed_md (s : State) : (podNamed s).md = s.md := by unfold podNamed; split <;> rfl

theorem podNamed_image (s : State) : (podNamed s).image = s.image := by unfold podNamed; split <;> rfl

/-- The end of Boot enters Join where the image names no other start. -/
theorem endBoot_joins {s : State} (hstart : s.image.start = 0) (hdef : s.md.deferred = false) : Entered .join 5 s s.endBoot := by
  have himage : (podNamed (bootEnded s)).image.start = 0 := by rw [podNamed_image, bootEnded_image, hstart]
  have hdeferred : (podNamed (bootEnded s)).md.deferred = false := by
    rw [podNamed_md, bootEnded_mdKept (g := (·.deferred)) (fun _ _ _ _ => rfl), hdef]
  have hend : s.endBoot = (podNamed (bootEnded s)).enterJoin 5 := by
    show (if (podNamed (bootEnded s)).md.deferred then _
      else if (podNamed (bootEnded s)).image.start = 2 then _ else (podNamed (bootEnded s)).enterJoin 5) = _
    rw [hdeferred, himage]
    rfl
  rw [hend]
  refine entered_of_prev (enterJoin_entered 5 _) ?_
  rw [podNamed_md]
  exact bootEnded_mdKept (g := (·.mode)) (fun _ _ _ _ => rfl) s

theorem linkChain_ready (pool last : Nat) (as : List Nat) (s : State) : (State.linkChain pool last as s).mem.ready = s.mem.ready := by
  induction as generalizing s with
  | nil => rfl
  | cons a as ih => exact (ih _).trans rfl

/-- Building the free lists fills the pools and links their chains; that memory is ready stands. -/
theorem buildPools_ready (s : State) : s.buildPools.mem.ready = s.mem.ready := by
  unfold State.buildPools
  dsimp only
  refine foldl_keep (·.mem.ready) (fun x q => ?_) _ s
  exact foldl_keep (·.mem.ready) (fun y c => linkChain_ready q.2 0 c y) _ _

/-- Settles O20: each stage's work, and what follows at its end. -/
theorem bootStagesFollowEachOther : Obligations.BootStagesFollowEachOther := by
  refine ⟨fun t s hm hs => ?_, fun t s hm hsram hhbm hready => ?_, fun t bad passed s hm hi hn => ?_, fun t bad passed s hm hi hn hnone => ?_,
    fun t bad passed s hm hi hn hstart hdef => ?_, fun t n s hm hwake => ?_⟩
  · have hexec : Sys2Proof.Machine.exec (.memoryInitDone t 0) s = .next { s.advanceTo t with mem := { s.mem with
        sramDone := true, fillTicks := (match s.mem.fillTicks with | [a, b] => [a, b] | _ => [0, 0]).set 0 ((s.advanceTo t).time.now - s.md.tick) } } := by
      show execMemoryInitDone t 0 s = _
      simp [execMemoryInitDone, hm, hs] <;> rfl
    exact ⟨_, hexec, rfl, rfl, after_advanceTo (P := fun x => ∀ m, ({ x with mem := m } : State) = { s with time := x.time, mem := m }) t
      (fun _ _ => rfl) _⟩
  · have hexec : ∃ ticks, Sys2Proof.Machine.exec (.memoryInitDone t 2) s = .next
        ((({ s.advanceTo t with mem := { s.mem with ready := true } } : State).buildPools).record 0x8000 ticks) := by
      show ∃ ticks, execMemoryInitDone t 2 s = _
      simp only [execMemoryInitDone, advanceTo_md, advanceTo_mem, hm, hsram, hhbm, hready, ne_eq, not_true, if_false, Bool.not_true,
        Bool.or_false, Bool.false_eq_true]
      exact ⟨_, rfl⟩
    obtain ⟨ticks, hexec⟩ := hexec
    refine ⟨_, hexec, ?_, ?_⟩
    · rw [(State.record_frame _ _ _).mem (by decide), buildPools_ready]
    · rw [record_mode, (State.buildPools_frame _).md (by decide), ← hm, ← advanceTo_md t s]
  · obtain ⟨k, y, hk, f, he⟩ := finishStage_hands_over (x := s.advanceTo t) (by rwa [advanceTo_md]) (by rwa [advanceTo_mem]) bad passed
    obtain ⟨hstage, hmode, hticks, hfrom⟩ := stageOver_after f hk
    have hexec := exec_bootStageDone hm hi t bad passed
    rw [he] at hexec
    have hmd {α : Type} (g : ModeState → α) (hg : ∀ a p, g { a with passed := p } = g a) :
        g ((s.advanceTo t).notePassed s.md.bootStage passed).md = g s.md := (hg _ _).trans (by rw [advanceTo_md])
    refine ⟨_, hexec, hstage.trans (congrArg (· + 1) (hmd (·.bootStage) fun _ _ => rfl)), ?_, ?_, hfrom⟩
    · rw [hmode, ← hm]
      exact hmd (·.mode) fun _ _ => rfl
    · rw [hticks, hmd (·.stageTicks) fun _ _ => rfl, hmd (·.stageFrom) fun _ _ => rfl]
  · have hexec := exec_bootStageDone hm hi t bad passed
    rw [hn] at hexec
    have hstage : (s.advanceTo t).finishStage 3 bad passed = ((s.advanceTo t).notePassed 3 passed).bootImage := rfl
    rw [hstage] at hexec
    exact ⟨_, hexec, bootImage_none hnone⟩
  · have hexec := exec_bootStageDone hm hi t bad passed
    rw [hn] at hexec
    have hstage : (s.advanceTo t).finishStage 7 bad passed =
      (((s.advanceTo t).notePassed 7 passed).loadMap bad).stageOver.endBoot := rfl
    rw [hstage] at hexec
    have hloaded {α : Type} (g : ModeState → α) (hg : ∀ (a : ModeState) (n : Nat) (b : Bool) (e : List (Nat × Nat × List Nat)),
        g { a with unsafeShutdowns := n, holdupDone := b, bootEvents := e } = g a) (hp : ∀ a p, g { a with passed := p } = g a) :
        g (((s.advanceTo t).notePassed 7 passed).loadMap bad).md = g s.md :=
      (loadMap_mdKept hg bad _).trans ((hp _ _).trans (by rw [advanceTo_md]))
    have himage : (((s.advanceTo t).notePassed 7 passed).loadMap bad).image = s.image :=
      ((State.loadMap_frame bad _).image (by decide)).trans (advanceTo_image t s)
    refine ⟨_, hexec, entered_of_prev (endBoot_joins ?_ ?_) ?_⟩
    · exact (congrArg (·.start) himage).trans hstart
    · exact (hloaded (·.deferred) (fun _ _ _ _ => rfl) fun _ _ => rfl).trans hdef
    · exact hloaded (·.mode) (fun _ _ _ _ => rfl) fun _ _ => rfl
  · have hexec : Sys2Proof.Machine.exec (.slackExitDone t) s = .next
        (({ s.advanceTo t with md := { s.md with wdog := (s.advanceTo t).time.now, wakeAt := none } } : State).enterJoin 0x0F) := by
      show execSlackExitDone t s = _
      simp [execSlackExitDone, hm, hwake]
    exact ⟨_, hexec, entered_of_prev (enterJoin_entered 0x0F _) rfl, enterJoin_mdKept (g := (·.wakeAt)) (fun _ _ _ _ _ _ _ _ _ => rfl) 0x0F _⟩

end Sys2Proof.Proofs
end

section
/-!
SUPPORT. Mode requests (R37, R358, R364 to R366).
-/

namespace Sys2Proof.Proofs

open Sys2Proof.Machine Sys2Proof.Safety Sys2Proof.Laws

/-- A word has nothing above bit 3 exactly where it is below 16. -/
theorem and_above3_eq_zero (v : Word) : v &&& 0xFFFFFFF0#32 = 0 ↔ v.toNat < 16 := by
  have hlow : (v &&& 15#32).toNat = v.toNat % 16 := by
    rw [BitVec.toNat_and]
    exact Nat.and_two_pow_sub_one_eq_mod v.toNat 4
  have hsplit : (v &&& 0xFFFFFFF0#32) ||| (v &&& 15#32) = v := by
    rw [← BitVec.and_or_distrib_left]
    exact BitVec.and_allOnes
  constructor
  · intro h
    rw [h] at hsplit
    have hsame : v &&& 15#32 = v := BitVec.zero_or.symm.trans hsplit
    rw [← hsame, hlow]
    omega
  · intro h
    have hsame : v &&& 15#32 = v := BitVec.eq_of_toNat_eq (by rw [hlow]; omega)
    rw [← hsame, BitVec.and_assoc]
    exact BitVec.and_zero

/-- Naming a target changes no bit above it. -/
theorem withTarget_above (v : Word) (n : Nat) : withBits v 3 0 n &&& 0xFFFFFFF0#32 = v &&& 0xFFFFFFF0#32 := by
  have hfield : field n 3 0 &&& 0xFFFFFFF0#32 = 0 := by
    rw [and_above3_eq_zero]
    show BitVec.toNat (BitVec.ofNat 32 (n % 16 * 1)) < 16
    rw [BitVec.toNat_ofNat]
    omega
  show (v &&& ~~~ fieldMask 3 0 ||| field n 3 0) &&& 0xFFFFFFF0#32 = _
  rw [BitVec.and_comm, BitVec.and_or_distrib_left, BitVec.and_comm _ (field n 3 0), hfield, BitVec.and_comm, BitVec.and_assoc]
  exact BitVec.or_zero

theorem bits_withTarget (v : Word) (n : Nat) (h : n < 16) : bits (withBits v 3 0 n) 3 0 = n := by
  rw [bits_withBits_of (by decide)]
  show (BitVec.ofNat 32 (n % 16 * 1)).toNat / 1 % 16 = n
  rw [BitVec.toNat_ofNat]
  omega

/-- The state in which a mode request acts: reserved bits are flagged before. -/
def modeAsked (v : Word) (s : State) : State := if v.toNat < 16 then s else s.ignored

theorem modeAsked_frame (v : Word) (s : State) : Frame 4 s (modeAsked v s) :=
  Frame.ite (fun _ => Frame.refl s) fun _ => State.raise_frame _ _ s

theorem writeModeReq_eq {s : State} (ho : Open s) (o : Origin) (v : Word) :
    s.writeModeReq o v = (modeAsked v s).modeRequest (bits v 3 0) := by
  refine (gateWrite_row_flagging (w := .any) (res := 0xFFFFFFF0#32) (by decide +kernel) ho rfl (by decide) _).trans ?_
  simp only [and_above3_eq_zero, modeAsked]

section
variable {t n : Nat} {o : Origin} {v : Word} {s : State} (ho : Open s) (hn : n < 16)
include ho hn

/-- A request that names its target. -/
theorem writeModeReq_target : (s.advanceTo t).writeModeReq o (withBits v 3 0 n) = (modeAsked v (s.advanceTo t)).modeRequest n := by
  rw [writeModeReq_eq (open_advanceTo ho t), bits_withTarget v n hn]
  simp only [modeAsked, ← and_above3_eq_zero, withTarget_above v n]

end

theorem modeAsked_md (v : Word) (t : Nat) (s : State) : (modeAsked v (s.advanceTo t)).md = s.md := by
  rw [(modeAsked_frame v _).md (by decide), advanceTo_md]

/-- A request that is refused leaves the mode and sets GCTL_ERR bit 2. -/
theorem refuseMode_refuses (n : Nat) (s : State) :
    (s.refuseMode n).md.mode = s.md.mode ∧ bit ((s.refuseMode n).reg Reg.GCTL_ERR) 2 = true := by
  refine ⟨(State.refuseMode_frame n s).mode (by decide), ?_⟩
  show bit (((s.raise Reg.GCTL_ERR 4).record 0x1100 _).reg Reg.GCTL_ERR) 2 = true
  rw [record_reg _ _ _ (by decide) (by decide), reg_raise, bit_or]
  exact Bool.or_true _

/-- What of the mode registers no transition writes stands through entering a mode. -/
theorem enterMode_mdKept {α : Type} {g : ModeState → α} (hg : Unmoded g) (m : Mode) (c : Nat) (s : State) :
    g (s.enterMode m c).md = g s.md :=
  ((State.noticeAll_frame _ _ _ _).mdKept (by decide) g fun a => hg a a.mode a.prev a.cause a.tick a.rstSource a.fenceN a []).trans
    (hg.changeMode m c s)

/-- With buffers for the old copy, the request for Relay enters it from the mode it found. -/
theorem relayInto_enters {s : State} {p : Option (List Nat) × State} (h : p.1.isSome = true) (hp : p.2.md.mode = s.md.mode) (new : List Byte) :
    Entered .relay 4 s (State.relayInto new p) ∧ (State.relayInto new p).md.relayFrom = s.md.mode := by
  obtain ⟨_ | bufs, x⟩ := p
  · cases h
  · have hfill : ((State.fillBuffers bufs x.firmware x).putFirmware new).md.mode = s.md.mode := by
      rw [(State.putFirmware_frame _ _).mode (by decide), (State.fillBuffers_frame _ _ _).mode (by decide)]
      exact hp
    show Entered .relay 4 s (x.swapFirmware bufs new) ∧ (x.swapFirmware bufs new).md.relayFrom = s.md.mode
    unfold State.swapFirmware
    exact ⟨entered_of_prev (enterMode_entered _ _ _) hfill,
      (enterMode_mdKept (g := (·.relayFrom)) (fun _ _ _ _ _ _ _ _ _ => rfl) .relay 4 _).trans hfill⟩

theorem requestRelay_refused {s : State} (h : s.relaySlot = none) :
    s.requestRelay.md.mode = s.md.mode ∧ bit (s.requestRelay.reg Reg.GCTL_ERR) 2 = true := by
  unfold State.requestRelay
  split
  · exact refuseMode_refuses 8 s
  · rw [h]
    exact refuseMode_refuses 8 s

theorem requestRelay_accepted {s : State} {i : Nat} (hm : s.md.mode = .paired ∨ s.md.mode = .sole) (h : s.relaySlot = some i)
    (hbufs : (State.takeFirmware (ceilDiv (max (s.sectionBytes i 1).length s.md.fwLen) fwBufSize) [] s).1.isSome = true) :
    Entered .relay 4 s s.requestRelay ∧ s.requestRelay.md.relayFrom = s.md.mode := by
  have hpair : ¬ (s.md.mode ≠ .paired ∧ s.md.mode ≠ .sole) := fun hne => hm.elim hne.1 hne.2
  unfold State.requestRelay
  rw [if_neg hpair, h]
  exact relayInto_enters hbufs ((State.takeFirmware_frame _ _ _).mode (by decide)) _

/-- A target without an action of its own is refused. -/
theorem modeRequest_other {n : Nat} (h : n ∉ [2, 3, 8, 9, 10, 11]) (s : State) : s.modeRequest n = s.refuseMode n := by
  unfold State.modeRequest
  split
  case h_7 => rfl
  all_goals exact (h (by decide)).elim

/-- Settles O21, target by target. -/
theorem modeRequestsActOrAreRefused : Obligations.ModeRequestsActOrAreRefused := by
  intro t o v s ho
  have hmd := modeAsked_md v t s
  have hmode : (modeAsked v (s.advanceTo t)).md.mode = s.md.mode := congrArg (·.mode) hmd
  have hslack : (modeAsked v (s.advanceTo t)).slackReady = (s.advanceTo t).slackReady := by unfold modeAsked; split <;> rfl
  have hasked {n : Nat} (hn : n < 16) := writeModeReq_target (t := t) (o := o) (v := v) ho hn
  have hrefused (n : Nat) : ((modeAsked v (s.advanceTo t)).refuseMode n).md.mode = s.md.mode ∧
      bit (((modeAsked v (s.advanceTo t)).refuseMode n).reg Reg.GCTL_ERR) 2 = true :=
    (refuseMode_refuses n _).imp_left fun h => h.trans hmode
  refine ⟨fun h => ?_, fun h => ?_, fun hm hw => ?_, fun hm => ⟨fun h => ?_, fun i h hbufs => ?_⟩, fun h => ?_, fun h => ?_, fun hm hi => ?_,
    fun hm hi hst => ?_, fun h => ?_⟩
  · refine ⟨_, congrArg Host.Outcome.next (hasked (n := 2) (by decide)), ?_⟩
    show Entered .slack 4 s (if _ then _ else _)
    rw [if_pos (hslack.trans h)]
    exact entered_of_prev (enterSlack_entered 4 _) hmode
  · refine ⟨_, congrArg Host.Outcome.next (hasked (n := 2) (by decide)), ?_⟩
    have hrun : (modeAsked v (s.advanceTo t)).modeRequest 2 = (modeAsked v (s.advanceTo t)).refuseMode 2 := by
      simp only [State.modeRequest, hslack, h, Bool.false_eq_true, if_false]
    rw [hrun]
    exact hrefused 2
  · refine ⟨_, congrArg Host.Outcome.next (hasked (n := 3) (by decide)), ?_⟩
    simp [State.modeRequest, hmd, hm, hw]
  · refine ⟨_, congrArg Host.Outcome.next (hasked (n := 8) (by decide)), ?_⟩
    exact (requestRelay_refused h).imp_left fun h => h.trans hmode
  · refine ⟨_, congrArg Host.Outcome.next (hasked (n := 8) (by decide)), ?_⟩
    obtain ⟨hentered, hfrom⟩ := requestRelay_accepted (s := modeAsked v (s.advanceTo t)) (by rwa [hmode]) h (by rw [hmd]; exact hbufs)
    exact ⟨entered_of_prev hentered hmode, hfrom.trans hmode⟩
  · refine ⟨_, congrArg Host.Outcome.next (hasked (n := 9) (by decide)), ?_⟩
    simp only [State.modeRequest, hmode, h, if_true]
    exact entered_of_prev (enterPreservation_entered (by rwa [hmode])) hmode
  · refine ⟨_, congrArg Host.Outcome.next (hasked (n := 10) (by decide)), ?_⟩
    simp only [State.modeRequest, hmode, h, if_true]
    exact entered_of_prev (enterHoldup_entered (by rwa [hmode])) hmode
  · refine ⟨_, congrArg Host.Outcome.next (hasked (n := 11) (by decide)), ?_⟩
    simp only [State.modeRequest, State.requestBench, hmd, hm, hi, ne_eq, not_true, if_false, if_true]
    exact entered_of_prev (changeMode_entered .bench 4 _) hmode
  · refine ⟨_, congrArg Host.Outcome.next (hasked (n := 11) (by decide)), ?_⟩
    simp only [State.modeRequest, State.requestBench, hmd, hm, hi, hst, ne_eq, not_true, if_false, if_true, Bool.false_eq_true]
  · refine ⟨_, congrArg Host.Outcome.next (writeModeReq_eq (open_advanceTo ho t) o v), ?_⟩
    rw [modeRequest_other h]
    exact hrefused _

end Sys2Proof.Proofs
end

section
/-!
SUPPORT. The watchdog, Holdup, plan misses and overload (R31, R39 to R41, R50, R51).
-/

namespace Sys2Proof.Proofs

open Sys2Proof.Machine Sys2Proof.Safety Sys2Proof.Laws

theorem bit_withBits_kick (v : Word) : bit (withBits v 0 0 1) 0 = true := by
  unfold bit
  rw [bits_withBits_of (by decide)]
  decide

/-- A kick that nothing turns away: it may be flagged, and the watchdog counts from its tick. -/
theorem exec_watchdogKick {s : State} (ho : Open s) (t : Nat) (o : Origin) (v : Word) :
    ∃ x, (x = s.advanceTo t ∨ x = (s.advanceTo t).ignored) ∧
      Sys2Proof.Machine.exec (.watchdogKick t o v) s = .next { x with md := { x.md with wdog := x.time.now } } := by
  have hrun := gateWrite_row_flagging (a := Reg.GCTL_WDOG) (w := .any) (res := 0xFFFFFFFE#32) (o := o) (v := withBits v 0 0 1)
    (by decide +kernel) (open_advanceTo ho t) rfl (by decide)
    fun s => if bit (withBits v 0 0 1) 0 then { s with md := { s.md with wdog := s.time.now } } else s
  refine ⟨_, ?_, congrArg Host.Outcome.next (hrun.trans (if_pos (bit_withBits_kick v)))⟩
  split
  · exact .inl rfl
  · exact .inr rfl

theorem exec_holdupComplete {s : State} (hm : s.md.mode = .holdup) (t : Nat) :
    ∃ x, Frame 6631568245086 (s.advanceTo t) x ∧
      Sys2Proof.Machine.exec (.holdupComplete t) s = .next (({ x with md := { x.md with holdupDone := true } } : State).enterReset 0x15 4) := by
  refine ⟨(((s.advanceTo t).sealLanding).checkpoint false).holdupLedger, ?_, ?_⟩
  · exact Frame.comp (State.holdupLedger_frame _) rfl (Frame.comp (State.checkpoint_frame _ _) rfl
      (Frame.comp (State.sealLanding_frame _) rfl (Frame.refl _)))
  · show execHoldupComplete t s = _
    simp [execHoldupComplete, hm]

theorem exec_overloadClear {s : State} {t : Nat} (ht : Ticking t s) (hov : s.md.overload = true) (hw : s.md.missWindow + 129 ≤ windowOf t) :
    ∃ old d, Sys2Proof.Machine.exec (.overloadClear t) s =
      .next ((({ s.advanceTo t with md := { s.md with overload := false } } : State).recompute old).record 0x1301 d) := by
  refine ⟨(s.advanceTo t).budget, [windowOf t - s.md.overloadFrom], ?_⟩
  show execOverloadClear t s = _
  simp [execOverloadClear, hov, Nat.not_lt.2 hw, advanceTo_now ht.1 ht.2.1 ht.2.2]

/-- Settles O22: each acts on its own part of the state and, where it ends a mode, by the transition of its cause. -/
theorem watchdogHoldupAndOverload : Obligations.WatchdogHoldupAndOverload := by
  refine ⟨fun t o v s ho => ?_, fun t s ht hp hrelay hdef hdue => ?_, fun t s hrun hh => ?_, fun t s hm => ?_,
    fun t s ht hm hchanged hdue => ?_, fun t s ht hp hov => ?_, fun t s ht hov hw => ?_⟩
  · obtain ⟨x, hx, hexec⟩ := exec_watchdogKick ho t o v
    have hmd : x.md = s.md := by
      obtain rfl | rfl := hx
      · exact advanceTo_md t s
      · exact ((State.raise_frame _ _ _).md (by decide)).trans (advanceTo_md t s)
    exact ⟨_, hexec, by rw [hmd]⟩
  · have hexec : Sys2Proof.Machine.exec (.watchdogExpiry t) s = .next ((s.advanceTo t).enterPreservation 0x0C) := by
      show execWatchdogExpiry t s = _
      simp [execWatchdogExpiry, hrelay, hdef, hdue, advanceTo_now ht.1 ht.2.1 ht.2.2]
    exact ⟨_, hexec, entered_of_prev (enterPreservation_entered (by rwa [advanceTo_md])) (by rw [advanceTo_md])⟩
  · have hexec : Sys2Proof.Machine.exec (.powerFail t) s = .next
        (({ s.advanceTo t with md := { s.md with pwrFailN := false } } : State).enterHoldup 9) := by
      show execPowerFail t s = _
      simp [execPowerFail, hrun]
    exact ⟨_, hexec, entered_of_prev (enterHoldup_entered hh) rfl,
      enterHoldup_mdKept (g := (·.pwrFailN)) (fun _ _ _ _ _ _ _ _ _ => rfl) hh⟩
  · obtain ⟨x, f, hexec⟩ := exec_holdupComplete hm t
    obtain ⟨hentered, hsource⟩ := enterReset_entered 0x15 4 ({ x with md := { x.md with holdupDone := true } } : State)
    refine ⟨_, hexec, entered_of_prev hentered ?_, ?_, hsource⟩
    · exact (f.mode (by decide)).trans (by rw [advanceTo_md])
    · exact enterReset_mdKept (g := (·.holdupDone)) (fun _ _ _ _ _ _ _ _ _ => rfl) 0x15 4 _ fun _ => rfl
  · have hexec : Sys2Proof.Machine.exec (.preservationCheckpoint t) s = .next (((s.advanceTo t).checkpoint false).assertLine 2) := by
      show execPreservationCheckpoint t s = _
      simp [execPreservationCheckpoint, hm, hchanged, hdue, advanceTo_now ht.1 ht.2.1 ht.2.2]
    have hpath : (((s.advanceTo t).checkpoint false).assertLine 2).path = ((s.advanceTo t).checkpoint false).path :=
      (State.assertLine_frame _ _).path (by decide)
    refine ⟨_, hexec, ?_, ?_, ?_, assertLine_mem 2 _⟩
    · rw [hpath]
      exact advanceTo_now ht.1 ht.2.1 ht.2.2
    · rw [hpath]
      rfl
    · rw [hpath, ← advanceTo_path t s]
      rfl
  · have hexec : Sys2Proof.Machine.exec (.planMiss t) s = .next { s.advanceTo t with
        md := { s.md with missWindow := windowOf t, missCount := (if s.md.missWindow = windowOf t then s.md.missCount + 1 else 1),
                          staticSlot := some (slotOf t) } } := by
      show execPlanMiss t s = _
      simp [execPlanMiss, hp, hov, advanceTo_now ht.1 ht.2.1 ht.2.2]
    exact ⟨_, hexec, rfl⟩
  · obtain ⟨old, d, hexec⟩ := exec_overloadClear ht hov hw
    refine ⟨_, hexec, ?_⟩
    exact (record_mdKept _ _ _ (·.overload) fun _ => rfl).trans ((State.recompute_frame old _).mdKept (by decide) (·.overload) fun _ => rfl)

end Sys2Proof.Proofs
end

section
/-!
SUPPORT. Relay, Bench and the key fuses (R366 to R368).
-/

namespace Sys2Proof.Proofs

open Sys2Proof.Machine Sys2Proof.Safety Sys2Proof.Laws

/-- A write that its register lets through acts on the state as it stands or, with reserved bits, once these are flagged. -/
theorem gateWrite_acts {o : Origin} {a t : Nat} {v res : Word} {w : When} {s : State} (hrow : rowIs a w res = true) (ho : Open s)
    (hw : w.allows s.md.mode = true) (herr : a ≠ Reg.GCTL_ERR) (act : RegDesc → State → State) :
    ∃ r x, Frame 5 s x ∧ x.md = s.md ∧ (x = s.advanceTo t ∨ x = (s.advanceTo t).ignored) ∧
      (s.advanceTo t).gateWrite o a v act = act r x := by
  obtain ⟨r, n, hf, hwr, rfl, rfl⟩ := rowIs_iff hrow
  refine ⟨r, _, ?_, ?_, ?_, gateWrite_flagging act (open_advanceTo ho t) hf hwr (by rwa [advanceTo_md]) herr⟩
  · exact Frame.ite (fun _ => Frame.comp (State.advanceTo_frame t s) rfl (Frame.refl s))
      fun _ => Frame.comp (State.raise_frame _ _ _) rfl (Frame.comp (State.advanceTo_frame t s) rfl (Frame.refl s))
  · split
    · exact advanceTo_md t s
    · exact ((State.raise_frame _ _ _).md (by decide)).trans (advanceTo_md t s)
  · split
    · exact .inl rfl
    · exact .inr rfl

/-! ### The end of Relay -/

theorem bit_withBits_self (v : Word) (n : Nat) (h : bits (~~~ fieldMask n n) n n = 0) (h1 : bit (field 1 n n) n = true) :
    bit (withBits v n n 1) n = true := by
  unfold bit
  rw [bits_withBits_of h]
  exact h1

theorem runRelayHeld_entered {m : Mode} {c : Nat} {s x : State} (h : Entered m c s x) : Entered m c s x.runRelayHeld :=
  entered_after h (State.runRelayHeld_frame x) (by decide) (by decide)

/-- The slot noted and the image's version are no part of a transition. -/
theorem entered_slotNoted {m : Mode} {c : Nat} {s x : State} (h : Entered m c s x) (n svn : Nat) :
    Entered m c s { x with md := { x.md with bootSlot := n }, image := { x.image with svn := svn } } := h

theorem confirmSlot_entered {m : Mode} {c : Nat} {s x : State} (h : Entered m c s x) (slot svn : Nat) :
    Entered m c s (x.confirmSlot slot svn) := by
  unfold State.confirmSlot
  refine entered_record (entered_after ?_ (State.writeBootBlock_frame _ _) (by decide) (by decide)) _ _
  exact h

theorem commitRelay_entered (s : State) : Entered s.md.relayFrom 0x0E s s.commitRelay := by
  have hstaged : s.endStaging.md.mode = s.md.mode := (State.endStaging_frame s).mode (by decide)
  have hentered := confirmSlot_entered (entered_of_prev (enterMode_entered s.md.relayFrom 0x0E s.endStaging) hstaged)
    (1 - s.bootBlock.active) (s.slotNat (1 - s.bootBlock.active) 8 4)
  unfold State.commitRelay
  dsimp only
  apply runRelayHeld_entered
  apply entered_record
  exact entered_slotNoted hentered _ _

theorem bootSlot_runRelayHeld (s : State) : s.runRelayHeld.md.bootSlot = s.md.bootSlot :=
  (State.runRelayHeld_frame s).mdKept (by decide) (·.bootSlot) fun _ => rfl

theorem bootSlot_record (code : Nat) (data : List Nat) (s : State) : (s.record code data).md.bootSlot = s.md.bootSlot :=
  record_mdKept code data s (·.bootSlot) fun _ => rfl

theorem commitRelay_bootSlot (s : State) : s.commitRelay.md.bootSlot = 1 - s.bootBlock.active := by
  unfold State.commitRelay
  dsimp only
  rw [bootSlot_runRelayHeld, bootSlot_record]

theorem endStaging_mdKept {α : Type} {g : ModeState → α} (hg : ∀ a b n e, g { a with fwBufs := b, fwKept := n, bootEvents := e } = g a)
    (s : State) : g s.endStaging.md = g s.md := by
  unfold State.endStaging
  dsimp only
  refine Eq.trans (b := g (s.freeFirmware s.md.fwBufs).md) (hg _ [] 0 (s.freeFirmware s.md.fwBufs).md.bootEvents) ?_
  exact (State.freeFirmware_frame _ s).mdKept (by decide) g fun a => hg a a.fwBufs a.fwKept []

theorem restoreFirmware_md (s : State) : s.restoreFirmware.md.mode = s.md.mode ∧ s.restoreFirmware.md.fwLen = s.md.fwKept := by
  have hput : (s.putFirmware s.keptFirmware).md = s.md := (State.putFirmware_frame _ s).md (by decide)
  unfold State.restoreFirmware
  dsimp only
  rw [endStaging_mdKept (g := (·.mode)) fun _ _ _ _ => rfl, endStaging_mdKept (g := (·.fwLen)) fun _ _ _ _ => rfl, hput]
  exact ⟨rfl, rfl⟩

theorem relayOff_md {s : State} (hm : s.md.mode = .relay) (c : Nat) :
    (s.relayOff c).md.mode = .relay ∧ (s.relayOff c).md.fwLen = s.md.fwKept := by
  have hoff : s.relayOff c = s.restoreFirmware.record 0x1401 [c] := by
    unfold State.relayOff
    rw [hm]
    rfl
  obtain ⟨hmode, hlen⟩ := restoreFirmware_md s
  rw [hoff, record_mode, record_mdKept _ _ _ (·.fwLen) fun _ => rfl]
  exact ⟨hmode.trans hm, hlen⟩

theorem abandonRelay_entered {s : State} (hm : s.md.mode = .relay) :
    Entered s.md.relayFrom 0x0E s s.abandonRelay ∧ s.abandonRelay.md.fwLen = s.md.fwKept := by
  obtain ⟨hmode, hlen⟩ := relayOff_md hm 4
  constructor
  · exact runRelayHeld_entered (entered_of_prev (enterMode_entered _ _ _) (hmode.trans hm.symm))
  · refine ((State.runRelayHeld_frame _).mdKept (by decide) (·.fwLen) fun _ => rfl).trans ?_
    exact (enterMode_mdKept (g := (·.fwLen)) (fun _ _ _ _ _ _ _ _ _ => rfl) _ _ _).trans hlen

/-! ### Bench and the key fuses -/

theorem plainWrite_md (o : Origin) (a : Nat) (v : Word) (r : RegDesc) (s : State) : (s.plainWrite o a v r).md = s.md :=
  (State.plainWrite_frame o a v r s).md (by decide)

/-- A write of GCTL_RELAY in Relay: ABANDON before COMMIT (log 29). -/
theorem writeRelay_eq {s : State} (ho : Open s) (hm : s.md.mode = .relay) (t : Nat) (o : Origin) (v : Word) :
    ∃ x, Frame 5 s x ∧ x.md = s.md ∧ (s.advanceTo t).writeRelay o v =
      if bit v 1 then x.abandonRelay else if bit v 0 then x.commitRelay else x := by
  obtain ⟨r, x, f, hmd, -, hexec⟩ := gateWrite_acts (a := Reg.GCTL_RELAY) (w := .any) (res := 0x0000FFF8#32) (o := o) (t := t)
    (v := v) (by decide +kernel) ho rfl (by decide) fun _ s => if s.md.mode ≠ .relay then s
      else if bit v 1 then s.abandonRelay else if bit v 0 then s.commitRelay else s
  rw [hmd, if_neg (not_not.2 hm)] at hexec
  exact ⟨x, f, hmd, hexec⟩

theorem exec_relayCommit {s : State} (ho : Open s) (hm : s.md.mode = .relay) (t : Nat) (o : Origin) {v : Word} (hv : bit v 1 = false) :
    ∃ x, Frame 5 s x ∧ x.md = s.md ∧ Sys2Proof.Machine.exec (.relayCommit t o v) s = .next x.commitRelay := by
  obtain ⟨x, f, hmd, hexec⟩ := writeRelay_eq ho hm t o (withBits v 0 0 1)
  have hother : bit (withBits v 0 0 1) 1 = false := by
    rw [← hv]
    unfold bit
    rw [bits_withBits_ne (by decide) (by decide)]
  rw [hother, bit_withBits_self v 0 (by decide) (by decide), if_neg Bool.false_ne_true, if_pos rfl] at hexec
  exact ⟨x, f, hmd, congrArg Host.Outcome.next hexec⟩

theorem exec_relayAbandon {s : State} (ho : Open s) (hm : s.md.mode = .relay) (t : Nat) (o : Origin) (v : Word) :
    ∃ x : State, x.md = s.md ∧ Sys2Proof.Machine.exec (.relayAbandon t o v) s = .next x.abandonRelay := by
  obtain ⟨x, -, hmd, hexec⟩ := writeRelay_eq ho hm t o (withBits v 1 1 1)
  rw [bit_withBits_self v 1 (by decide) (by decide), if_pos rfl] at hexec
  exact ⟨x, hmd, congrArg Host.Outcome.next hexec⟩

theorem open_of_bench {s : State} (hm : s.md.mode = .bench) : Open s := ⟨by rw [hm]; decide, by rw [hm]; decide⟩

/-- What a test that starts writes to the mode registers. -/
def benchStarted (v : Word) (m : ModeState) : ModeState :=
  { m with benchBusy := true, benchPass := false, benchFail := false, benchErr := 0, benchTest := bits v 3 0, benchTarget := bits v 14 8 }

theorem exec_benchTestStart {s : State} (hm : s.md.mode = .bench) (hbusy : s.md.benchBusy = false) {v : Word}
    (htarget : bits v 14 8 < benchTargets (bits v 3 0)) (t : Nat) (o : Origin) :
    ∃ u, Sys2Proof.Machine.exec (.benchTestStart t o v) s = .next u ∧ u.md = benchStarted v s.md := by
  obtain ⟨r, x, -, hmd, -, hexec⟩ := gateWrite_acts (a := Reg.GCTL_BENCH_CTRL) (w := .any) (res := 0xFFFE80F0#32) (o := o) (t := t)
    (v := withBits v 16 16 1) (by decide +kernel) (open_of_bench hm) rfl (by decide) fun r s =>
      let s1 := s.plainWrite o Reg.GCTL_BENCH_CTRL (withBits v 16 16 1) r
      if !bit (withBits v 16 16 1) 16 then s1
      else if s1.md.mode ≠ .bench ∨ s1.md.benchBusy = true ∨ benchTargets (bits (withBits v 16 16 1) 3 0) ≤ bits (withBits v 16 16 1) 14 8
        then s1.ignored
      else { s1 with md := benchStarted (withBits v 16 16 1) s1.md }
  have htest : bits (withBits v 16 16 1) 3 0 = bits v 3 0 := bits_withBits_ne (by decide) (by decide)
  have hto : bits (withBits v 16 16 1) 14 8 = bits v 14 8 := bits_withBits_ne (by decide) (by decide)
  have hself := bit_withBits_self v 16 (by decide) (by decide)
  refine ⟨_, congrArg Host.Outcome.next hexec, ?_⟩
  simp [hself, htest, hto, plainWrite_md, hmd, hm, hbusy, Nat.not_le.2 htarget, benchStarted]

/-- A write of the fuses: the slot is noted, revocation bits are added, and with BURN the staged hash is burnt. -/
theorem exec_keyfuse {s : State} (hm : s.md.mode = .bench) (t : Nat) (o : Origin) (v : Word) :
    ∃ x, x.md = { s.md with revoked := s.md.revoked ||| bits v 7 4 } ∧
      (s.advanceTo t).writeKeyfuse o v = if bit v 10 then x.burnKey (bits v 9 8) else x := by
  obtain ⟨r, x, -, hmd, -, hexec⟩ := gateWrite_acts (a := Reg.GCTL_KEYFUSE) (w := .bench) (res := 0xFFFFF800#32) (o := o) (t := t)
    (v := v) (by decide +kernel) (open_of_bench hm) (by rw [hm]; rfl) (by decide) fun _ s =>
      let s1 := { s.setField Reg.GCTL_KEYFUSE 9 8 (bits v 9 8) with md := { s.md with revoked := s.md.revoked ||| bits v 7 4 } }
      if bit v 10 then s1.burnKey (bits v 9 8) else s1
  exact ⟨_, by rw [← hmd], hexec⟩

/-- The staged hash is fused into a slot. -/
def burnt (slot : Nat) (s : State) : State :=
  { s with md := { s.md with
      enrolled := NMap.put s.md.enrolled slot ((List.range 12).map (fun i => NMap.getD s.md.keyHash i 0)) } }

/-- The boot block is read from the Ledger alone. -/
theorem bootBlock_of_ldg {s u : State} (h : u.ldg = s.ldg) : u.bootBlock = s.bootBlock := by
  have hbytes (o n : Nat) : u.ldgBytes o n = s.ldgBytes o n := by
    simp only [State.ldgBytes, State.ldgByte, State.sector, h]
  have hline : u.progsInLine = s.progsInLine := by simp only [State.progsInLine, h]
  have hentries (b : Nat) : u.paramEntries b = s.paramEntries b := by simp only [State.paramEntries, hbytes, hline]
  simp only [State.bootBlock, State.newestParam, hentries]

/-- Settles O23: each ends in its own transition, or in its own mode registers. -/
theorem relayBenchAndKeyFuses : Obligations.RelayBenchAndKeyFuses := by
  refine ⟨fun t o v s ho hm _ => ⟨fun hv => ?_, ?_⟩, fun t s ht hm hdue => ?_, fun t o v s hm hbusy htarget => ?_,
    fun t errors s hm hbusy => ?_, fun t o v s hm hfree => ?_, fun t o v s hm hv => ?_⟩
  · obtain ⟨x, f, hmd, hexec⟩ := exec_relayCommit ho hm t o hv
    have hentered := entered_of_prev (s := s) (commitRelay_entered x) (by rw [hmd])
    rw [hmd] at hentered
    exact ⟨_, hexec, hentered, (commitRelay_bootSlot x).trans (by rw [bootBlock_of_ldg (f.ldg (by decide))])⟩
  · obtain ⟨x, hmd, hexec⟩ := exec_relayAbandon ho hm t o v
    obtain ⟨hentered, hlen⟩ := abandonRelay_entered (s := x) (by rwa [hmd])
    have hprev := entered_of_prev (s := s) hentered (by rw [hmd])
    rw [hmd] at hprev hlen
    exact ⟨_, hexec, hprev, hlen⟩
  · have hexec : Sys2Proof.Machine.exec (.relayTimeout t) s = .next (((s.advanceTo t).relayOff 0x0C).enterPreservation 0x0C) := by
      show execRelayTimeout t s = _
      simp [execRelayTimeout, hm, hdue, advanceTo_now ht.1 ht.2.1 ht.2.2]
    obtain ⟨hmode, -⟩ := relayOff_md (s := s.advanceTo t) (by rwa [advanceTo_md]) 0x0C
    exact ⟨_, hexec, entered_of_prev (enterPreservation_entered (by rw [hmode]; rfl)) (hmode.trans hm.symm)⟩
  · exact exec_benchTestStart hm hbusy htarget t o
  · have hexec : Sys2Proof.Machine.exec (.benchTestDone t errors) s = .next (({ s.advanceTo t with md := { s.md with
        benchBusy := false, benchPass := decide (errors = 0), benchFail := decide (errors ≠ 0), benchErr := satTo 16 errors } } : State).record
          0x1500 [s.md.benchTest, s.md.benchTarget, satTo 16 errors]) := by
      show execBenchTestDone t errors s = _
      simp [execBenchTestDone, hm, hbusy]
    refine ⟨_, hexec, record_mdKept _ _ _ (·.benchBusy) fun _ => rfl, record_mdKept _ _ _ (·.benchPass) fun _ => rfl,
      record_mdKept _ _ _ (·.benchFail) fun _ => rfl, (record_mdKept _ _ _ (·.benchErr) fun _ => rfl).trans (satTo_eq_min 16 errors)⟩
  · obtain ⟨x, hmd, hexec⟩ := exec_keyfuse hm t o (withBits v 10 10 1)
    have hslot : bits (withBits v 10 10 1) 9 8 = bits v 9 8 := bits_withBits_ne (by decide) (by decide)
    have hnew : NMap.has x.md.enrolled (bits v 9 8) = false := by rwa [hmd]
    have hburn : x.burnKey (bits v 9 8) = (burnt (bits v 9 8) x).record 0xA206 [bits v 9 8] := by
      unfold State.burnKey
      rw [hnew]
      rfl
    rw [hslot, if_pos (bit_withBits_self v 10 (by decide) (by decide)), hburn] at hexec
    refine ⟨_, congrArg Host.Outcome.next hexec, ?_, fun j hj => ?_⟩
    · rw [record_mdKept _ _ _ (·.enrolled) fun _ => rfl, burnt, find_put_self, hmd]
    · rw [record_mdKept _ _ _ (·.enrolled) fun _ => rfl, burnt, find_put_ne _ _ (Ne.symm hj), hmd]
  · obtain ⟨x, hmd, hexec⟩ := exec_keyfuse hm t o v
    rw [hv, if_neg Bool.false_ne_true] at hexec
    exact ⟨x, congrArg Host.Outcome.next hexec, hmd⟩

end Sys2Proof.Proofs
end

section
/-!
SUPPORT. The Ledger's banks and results, and its ROM routines (R340, R342, R343).
-/

namespace Sys2Proof.Proofs

open Sys2Proof.Machine Sys2Proof.Safety Sys2Proof.Laws

/-! ### Banks and results -/

@[simp] theorem bank_advanceTo (t b : Nat) (s : State) : (s.advanceTo t).bank b = s.bank b := by simp [State.bank]

theorem sector_advanceTo (t b sec : Nat) (s : State) : (s.advanceTo t).sector b sec = s.sector b sec := by simp [State.sector]

theorem memBytes_advanceTo (t a n : Nat) (s : State) : (s.advanceTo t).memBytes a n = s.memBytes a n := by simp [State.memBytes]

theorem bank_updBank (b : Nat) (f : Bank → Bank) (s : State) : (s.updBank b f).bank b = f (s.bank b) := by
  unfold State.updBank State.bank
  split <;> rfl

/-- What of the Ledger beside its banks stands through a change of one. -/
theorem updBank_ldg {α : Type} {g : LdgState → α} (hg : ∀ l x y, g { l with bankA := x, bankB := y } = g l) (b : Nat) (f : Bank → Bank)
    (s : State) : g (s.updBank b f).ldg = g s.ldg := by
  unfold State.updBank
  split
  · exact hg s.ldg _ s.ldg.bankB
  · exact hg s.ldg s.ldg.bankA _

/-- A ROM routine's result goes to its core, whatever the fence (R259). -/
theorem ldgResult_rom (code : Nat) (s : State) : s.ldgResult 0 code =
    { s with ldg := { s.ldg with result := code }, outbox := .romResult code :: s.outbox } := by
  simp [State.ldgResult, State.emit, State.onFrontEnd]

theorem ldgResult_bank (asker code b : Nat) (s : State) : (s.ldgResult asker code).bank b = s.bank b := by
  have hemit (x : State) (o : Out) : (x.emit o).bank b = x.bank b := by
    unfold State.bank
    rw [(State.emit_frame o x).ldg (by decide)]
  unfold State.ldgResult
  split
  · exact hemit _ _
  · rfl
  · exact hemit _ _
  · rfl

theorem sends_romResult (code : Nat) (s : State) : Sends (.romResult code) s (s.ldgResult 0 code) :=
  ⟨[.romResult code], by rw [ldgResult_rom]; rfl, List.mem_singleton.2 rfl⟩

/-- A routine that is refused has its code and leaves the banks, the array and what waits as they were. -/
theorem ldgRefuse_rom (b sec code : Nat) (s : State) :
    Sends (.romResult code) s (s.ldgRefuse 0 b sec code) ∧ (s.ldgRefuse 0 b sec code).ldg = { s.ldg with result := code } := by
  have f : Frame 65566 s ((s.raise Reg.LDG_STATUS 4).record 0xA102 [b, sec, code]) :=
    Frame.comp (State.record_frame _ _ _) rfl (Frame.comp (State.raise_frame _ _ _) rfl (Frame.refl s))
  refine ⟨sends_before f (sends_romResult code _), ?_⟩
  show (State.ldgResult 0 code _).ldg = _
  rw [ldgResult_rom, f.ldg (by decide)]

theorem ldgOffset_add {o : Nat} (h : o < ldgSize) : ldgOffset (ldgBase + o) = some o := by
  simp [ldgOffset, h]

theorem romRuns_advanceTo {s : State} (h : s.md.mode ≠ .reset) (t : Nat) : (s.advanceTo t).romRuns = true := by
  simp [State.romRuns, h]

/-! ### ROM routines -/

/-- Outside Reset, Slack and Locked the Ledger's operations run. -/
theorem ldgStops_of {s : State} (hm : s.md.mode ≠ .reset) (hslack : s.md.mode ≠ .slack) (hlocked : s.md.mode ≠ .locked) :
    s.md.mode.ldgStops = false := by
  unfold Mode.ldgStops
  split
  · exact absurd ‹_› hm
  · exact absurd ‹_› hslack
  · exact absurd ‹_› hlocked
  · rfl

section
variable {s : State} (hm : s.md.mode ≠ .reset)
include hm

theorem exec_ldgProgram {t o src len : Nat} (ho : o < ldgSize) (hc : (s.advanceTo t).progCode 0 (some o) len = 0)
    (hsrc : inMemory src len = true) (hp : (s.advanceTo t).poisonedIn src len = none) (hv : s.ldg.vppLow = false)
    (he : (s.bank (ldgBank o)).erase = none) :
    Sys2Proof.Machine.exec (.ldgProgram t (ldgBase + o) src len) s = .next ((s.advanceTo t).updBank (ldgBank o) (fun k =>
      { k with prog := some { addr := o, bytes := s.memBytes src len, asker := 0, retried := false, resume := false } })) := by
  show execLdgProgram t (ldgBase + o) src len s = _
  simp [execLdgProgram, romRuns_advanceTo hm, ldgOffset_add ho, hc, hsrc, State.romSource, hp, State.startProg, hv, he,
    memBytes_advanceTo]

theorem exec_ldgProgram_refused {t o src len c : Nat} (ho : o < ldgSize) (hc : (s.advanceTo t).progCode 0 (some o) len = c) (hne : c ≠ 0) :
    ∃ u, Sys2Proof.Machine.exec (.ldgProgram t (ldgBase + o) src len) s = .next u ∧
      ∃ k, Frame k ((s.advanceTo t).ldgRefuse 0 (ldgBank o) (ldgSector o) c) u ∧ k.testBit 18 = false := by
  have hexec : Sys2Proof.Machine.exec (.ldgProgram t (ldgBase + o) src len) s = .next
      (match ringOf o with
        | some i => ((s.advanceTo t).ldgRefuse 0 (ldgBank o) (ldgSector o) c).flushRefused i c
        | none => (s.advanceTo t).ldgRefuse 0 (ldgBank o) (ldgSector o) c) := by
    show execLdgProgram t (ldgBase + o) src len s = _
    simp [execLdgProgram, romRuns_advanceTo hm, ldgOffset_add ho, hc, hne] <;> rfl
  refine ⟨_, hexec, 134283294, ?_, by decide⟩
  split
  · exact State.flushRefused_frame _ _ _
  · exact Frame.refl _

theorem exec_ldgErase {t o : Nat} (ho : o < ldgSize) (hc : (s.advanceTo t).eraseCode (some o) = 0) (hv : s.ldg.vppLow = false) :
    Sys2Proof.Machine.exec (.ldgErase t (ldgBase + o)) s =
      .next (((s.advanceTo t).startSectorErase (ldgBank o) (ldgSector o)).ldgResult 0 0) := by
  show execLdgErase t (ldgBase + o) s = _
  simp [execLdgErase, romRuns_advanceTo hm, ldgOffset_add ho, State.eraseCall, hc, hv]

theorem exec_ldgPoll {b : Nat} (hb : b < 2) (t : Nat) : Sys2Proof.Machine.exec (.ldgPoll t b) s =
    .next ((s.advanceTo t).ldgResult 0 (if (s.bank b).state = 0 ∨ (s.bank b).state = 4 then 0 else 1)) := by
  show execLdgPoll t b s = _
  simp [execLdgPoll, romRuns_advanceTo hm, Nat.not_le.2 hb]

theorem exec_ldgCycles {o : Nat} (ho : o < ldgSize) (t : Nat) : Sys2Proof.Machine.exec (.ldgCycles t (ldgBase + o)) s =
    .next ((s.advanceTo t).ldgResult 0 (s.cyclesOf (ldgBank o) (ldgSector o))) := by
  show execLdgCycles t (ldgBase + o) s = _
  simp [execLdgCycles, romRuns_advanceTo hm, ldgOffset_add ho, State.cyclesOf, sector_advanceTo]

section
variable {b sec : Nat} (hb : b < 2) (hslack : s.md.mode ≠ .slack) (hlocked : s.md.mode ≠ .locked) (hholdup : s.md.mode ≠ .holdup)
  (hprog : (s.bank b).prog = none) (hheld : (s.bank b).held = none) (herase : (s.bank b).erase = some sec)
include hb hslack hlocked hholdup hprog hheld herase

theorem exec_ldgSuspend (hrun : (s.bank b).suspended = false) (hguard : s.md.mode.guardsErase = false) (t : Nat) :
    Sys2Proof.Machine.exec (.ldgSuspend t b) s = .next (((s.advanceTo t).doSuspend b none).ldgResult 0 0) := by
  have hstops := ldgStops_of hm hslack hlocked
  show execLdgSuspend t b s = _
  simp [execLdgSuspend, romRuns_advanceTo hm, State.suspendCall, hprog, hheld, hstops, hholdup, Nat.not_le.2 hb, herase, hrun,
    State.askSuspend, hguard]

theorem exec_ldgResume (hsus : (s.bank b).suspended = true) (t : Nat) :
    Sys2Proof.Machine.exec (.ldgResume t b) s = .next (((s.advanceTo t).doResume b).ldgResult 0 0) := by
  have hstops := ldgStops_of hm hslack hlocked
  show execLdgResume t b s = _
  simp [execLdgResume, romRuns_advanceTo hm, State.resumeCall, hprog, hheld, hstops, hholdup, Nat.not_le.2 hb, herase, hsus]

end

end

/-- Settles O24, routine by routine. -/
theorem ledgerRoutinesRunOrAreRefused : Obligations.LedgerRoutinesRunOrAreRefused := by
  intro t s hm
  have hadv := State.advanceTo_frame t s
  refine ⟨fun o src len ho hc hsrc hp hv he => exec_ldgProgram hm ho hc hsrc hp hv he, fun o src len c ho hc hne => ?_,
    fun o ho hc hv => ?_, fun b sec hb hslack hlocked hholdup hprog hheld herase => ⟨fun hrun hguard => ?_, fun hsus => ?_⟩,
    fun b hb => ?_, fun o ho => ?_, fun src len hslack hlocked hprog hheld hpos hmax h32 hsrc hp => ?_⟩
  · obtain ⟨u, hexec, k, f, hk⟩ := exec_ldgProgram_refused (src := src) hm ho hc hne
    obtain ⟨hsends, hldg⟩ := ldgRefuse_rom (ldgBank o) (ldgSector o) c (s.advanceTo t)
    exact ⟨u, hexec, sends_before hadv (sends_after hsends f), (f.ldg hk).trans (hldg.trans (by rw [advanceTo_ldg]))⟩
  · have hbank : (((s.advanceTo t).startSectorErase (ldgBank o) (ldgSector o)).ldgResult 0 0).bank (ldgBank o) = { s.bank (ldgBank o) with
        erase := some (ldgSector o), suspended := false, eraseStart := (s.advanceTo t).time.now, runFrom := (s.advanceTo t).time.now,
        suspends := 0, retried := false, aged := false } := by
      rw [ldgResult_bank, State.startSectorErase, bank_updBank, bank_advanceTo]
    have f : Frame 262144 (s.advanceTo t) ((s.advanceTo t).startSectorErase (ldgBank o) (ldgSector o)) := State.startSectorErase_frame _ _ _
    refine ⟨_, exec_ldgErase hm ho hc hv, sends_before hadv (sends_before f (sends_romResult 0 _)), ?_, ?_, ?_⟩
    · rw [hbank]
    · rw [hbank, ldgResult_rom]
      exact congrArg (·.now) (f.time (by decide)).symm
    · rw [ldgResult_rom]
      exact (updBank_ldg (g := (·.cells)) (fun _ _ _ => rfl) _ _ _).trans (by rw [advanceTo_ldg])
  · have hbank : (((s.advanceTo t).doSuspend b none).ldgResult 0 0).bank b = { s.bank b with
        suspended := true, suspends := satTo 16 ((s.bank b).suspends + 1), held := none } := by
      rw [ldgResult_bank, State.doSuspend, bank_updBank, bank_advanceTo]
    refine ⟨_, exec_ldgSuspend hm hb hslack hlocked hholdup hprog hheld herase hrun hguard t,
      sends_before hadv (sends_before (State.doSuspend_frame _ _ _) (sends_romResult 0 _)), ?_, ?_⟩
    · rw [hbank]
    · rw [hbank]
      exact herase
  · have hresume : (s.advanceTo t).doResume b = (s.advanceTo t).updBank b fun k =>
        if k.erase.isSome then { k with suspended := false, runFrom := (s.advanceTo t).time.now } else k := by
      unfold State.doResume
      rw [advanceTo_md, if_neg hholdup]
    have hbank : (((s.advanceTo t).doResume b).ldgResult 0 0).bank b =
        { s.bank b with suspended := false, runFrom := (s.advanceTo t).time.now } := by
      rw [ldgResult_bank, hresume, bank_updBank, bank_advanceTo, if_pos (by rw [herase]; rfl)]
    have f := State.doResume_frame b (s.advanceTo t)
    refine ⟨_, exec_ldgResume hm hb hslack hlocked hholdup hprog hheld herase hsus t, sends_before hadv (sends_before f (sends_romResult 0 _)),
      ?_, ?_⟩
    · rw [hbank]
    · rw [hbank, ldgResult_rom]
      exact congrArg (·.now) (f.time (by decide)).symm
  · refine ⟨_, exec_ldgPoll hm hb t, ?_, sends_before hadv ?_⟩
    · rw [ldgResult_rom]
      simp only [advanceTo_ldg]
    · rw [ldgResult_rom]
      exact ⟨[_], rfl, List.mem_singleton.2 rfl⟩
  · refine ⟨_, exec_ldgCycles hm ho t, ?_, sends_before hadv ?_⟩
    · rw [ldgResult_rom]
      simp only [advanceTo_ldg]
    · rw [ldgResult_rom]
      exact ⟨[_], rfl, List.mem_singleton.2 rfl⟩
  · have hstops := ldgStops_of hm hslack hlocked
    show execLdgRectail t src len s = _
    simp [execLdgRectail, romRuns_advanceTo hm, hprog, hheld, hstops, Nat.ne_of_gt hpos, hmax, h32, hsrc, State.romSource, hp, memBytes_advanceTo]

end Sys2Proof.Proofs
end

section
/-!
SUPPORT. The Ledger's command window and the ends of its operations (R341, R343 to R347): what no program, erase or suspend that
follows changes of the array and its sectors.
-/

namespace Sys2Proof.Proofs

open Sys2Proof.Machine Sys2Proof.Safety Sys2Proof.Laws

/-! ### The array through what follows an operation -/

/-- A quantity of the Ledger that banks, waiting work and results do not enter. -/
def LdgKept {α : Type} (g : LdgState → α) : Prop :=
  ∀ (l : LdgState) (a b : Bank) (w : List LdgJob) (r x : Nat) (y : Bool),
    g { l with bankA := a, bankB := b, waiting := w, result := r, wstat := x, wbusy := y } = g l

/-- A flush that the ring refuses changes nothing of the Ledger. -/
theorem ringRefused_ldg (o : Option Nat) (code : Nat) (s : State) :
    (match o with | some i => s.flushRefused i code | none => s).ldg = s.ldg := by
  split
  · exact (State.flushRefused_frame _ _ _).ldg (by decide)
  · rfl

section
variable {α : Type} {g : LdgState → α} (hg : LdgKept g)
include hg

theorem LdgKept.updBank (b : Nat) (f : Bank → Bank) (s : State) : g (s.updBank b f).ldg = g s.ldg :=
  updBank_ldg (fun l x y => hg l x y l.waiting l.result l.wstat l.wbusy) b f s

theorem LdgKept.waiting (w : List LdgJob) (s : State) : g { s.ldg with waiting := w } = g s.ldg :=
  hg s.ldg s.ldg.bankA s.ldg.bankB w s.ldg.result s.ldg.wstat s.ldg.wbusy

theorem LdgKept.ldgResult (asker code : Nat) (s : State) : g (s.ldgResult asker code).ldg = g s.ldg := by
  have hres := hg s.ldg s.ldg.bankA s.ldg.bankB s.ldg.waiting
  unfold State.ldgResult
  split
  · exact (congrArg g ((State.emit_frame _ _).ldg (by decide))).trans (hres code s.ldg.wstat s.ldg.wbusy)
  · exact hres s.ldg.result code false
  · exact (congrArg g ((State.emit_frame _ _).ldg (by decide))).trans (hres code s.ldg.wstat s.ldg.wbusy)
  · rfl

theorem LdgKept.ldgRefuse (asker b sec code : Nat) (s : State) : g (s.ldgRefuse asker b sec code).ldg = g s.ldg := by
  refine (hg.ldgResult asker code _).trans (congrArg g ?_)
  rw [(State.record_frame _ _ _).ldg (by decide), (State.raise_frame _ _ _).ldg (by decide)]

theorem LdgKept.startProg (p : LdgProg) (s : State) : g (s.startProg p).ldg = g s.ldg := by
  unfold State.startProg State.askSuspend State.doSuspend
  dsimp only
  split
  · exact hg.waiting _ s
  · split
    · split
      · exact hg.updBank _ _ s
      · simp only [Option.isNone_some, Bool.false_eq_true, if_false]
        exact hg.updBank _ _ s
    · exact hg.updBank _ _ s

theorem LdgKept.pumpLedger (n : Nat) (s : State) : g (s.pumpLedger n).ldg = g s.ldg := by
  induction n generalizing s with
  | zero => rfl
  | succ n ih =>
    unfold State.pumpLedger
    dsimp only
    split
    · rfl
    · rename_i j rest _
      have hrest := hg.waiting rest s
      split
      · rfl
      · split
        · rename_i p _
          split
          · rfl
          · split
            · exact (ih _).trans ((hg.startProg p _).trans hrest)
            · exact (ih _).trans ((congrArg g (ringRefused_ldg _ _ _)).trans ((hg.ldgRefuse _ _ _ _ _).trans hrest))
        · split
          · rfl
          · split
            · exact (ih _).trans ((hg.updBank _ _ _).trans hrest)
            · exact (ih _).trans ((hg.ldgRefuse _ _ _ _ _).trans hrest)

theorem LdgKept.pump (s : State) : g s.pump.ldg = g s.ldg := hg.pumpLedger _ s

theorem LdgKept.doResume (b : Nat) (s : State) : g (s.doResume b).ldg = g s.ldg := by
  unfold State.doResume
  split
  · rfl
  · exact hg.updBank _ _ s

theorem LdgKept.progEnded (b : Nat) (p : LdgProg) (s : State) : g (s.progEnded b p).ldg = g s.ldg := by
  unfold State.progEnded
  refine (hg.pump _).trans ?_
  split
  · exact (hg.doResume b _).trans (hg.updBank _ _ s)
  · exact hg.updBank _ _ s

theorem LdgKept.programResult (p : LdgProg) (code : Nat) (s : State) : g (s.programResult p code).ldg = g s.ldg := by
  unfold State.programResult
  split
  · split
    · rfl
    · exact hg.ldgResult _ _ s
  · exact hg.ldgResult _ _ s

theorem LdgKept.keepAhead (s : State) : g s.keepAhead.ldg = g s.ldg := by
  unfold State.keepAhead State.queueLedger
  split
  · rfl
  · exact (hg.pump _).trans (hg.waiting _ s)

theorem LdgKept.ringProgrammed (i o len : Nat) (s : State) : g (s.ringProgrammed i o len).ldg = g s.ldg := by
  unfold State.ringProgrammed
  refine (congrArg g ((State.tailRoom_frame _).ldg (by decide))).trans ?_
  split
  · exact hg.keepAhead _
  · rfl

end

/-! ### Ends of operations -/

theorem exec_programDone {b : Nat} {p : LdgProg} {s : State} (hp : (s.bank b).prog = some p) (t : Nat) :
    Sys2Proof.Machine.exec (.ledgerProgramDone t b true) s = .next
      ((match ringOf p.addr with
        | some i => ((((s.advanceTo t).ldgStore p).progEnded b p).ringProgrammed i p.addr p.bytes.length)
        | none => ((s.advanceTo t).ldgStore p).progEnded b p).programResult p 0) := by
  show execLedgerProgramDone t b true s = _
  simp [execLedgerProgramDone, hp] <;> rfl

/-- A program that ends well: the cells are those of its store. -/
theorem programDone_cells (b : Nat) (p : LdgProg) (x : State) :
    ((match ringOf p.addr with
      | some i => ((x.progEnded b p).ringProgrammed i p.addr p.bytes.length)
      | none => x.progEnded b p).programResult p 0).ldg.cells = x.ldg.cells := by
  have hg : LdgKept (·.cells) := fun _ _ _ _ _ _ _ => rfl
  refine (hg.programResult p 0 _).trans ?_
  split
  · exact (hg.ringProgrammed _ _ _ _).trans (hg.progEnded b p x)
  · exact hg.progEnded b p x

/-- The state of an erase that has ended well, before what waited for it. -/
def erased (b sec : Nat) (s : State) : State :=
  (((s.dropRing b sec).ldgWipe b sec).updBank b (fun k => { k with erase := none, held := none })).cycled b sec

theorem exec_eraseDone {b sec : Nat} {s : State} (he : (s.bank b).erase = some sec) (hrun : (s.bank b).suspended = false) (t : Nat) :
    Sys2Proof.Machine.exec (.ledgerEraseDone t b true) s = .next
      (match (s.bank b).held with
        | some (asker, some p) => ((erased b sec (s.advanceTo t)).startProg { p with resume := false, asker := asker }).pump
        | some (asker, none) => ((erased b sec (s.advanceTo t)).ldgRefuse asker b sec 4).pump
        | none => (erased b sec (s.advanceTo t)).pump) := by
  show execLedgerEraseDone t b true s = _
  simp [execLedgerEraseDone, he, hrun] <;> rfl

/-- What follows an erase leaves the array and the sectors as the erase left them. -/
theorem afterErase_kept {α : Type} {g : LdgState → α} (hg : LdgKept g) (h : Option (Nat × Option LdgProg)) (b sec : Nat) (x : State) :
    g (match h with
        | some (asker, some p) => (x.startProg { p with resume := false, asker := asker }).pump
        | some (asker, none) => (x.ldgRefuse asker b sec 4).pump
        | none => x.pump).ldg = g x.ldg := by
  split
  · exact (hg.pump _).trans (hg.startProg _ _)
  · exact (hg.pump _).trans (hg.ldgRefuse _ _ _ _ _)
  · exact hg.pump _

theorem find_filter_key {α : Type} (q : Nat → Bool) (m : NMap α) (k : Nat) :
    NMap.find (m.filter fun c => q c.1) k = if q k then NMap.find m k else none := by
  induction m with
  | nil => simp [NMap.find]
  | cons c m ih =>
    rw [List.filter_cons]
    by_cases hc : q c.1 = true
    · rw [if_pos hc, find_cons, find_cons, ih]
      by_cases hk : k = c.1
      · subst hk
        simp [hc]
      · simp [hk]
    · rw [if_neg hc, ih, find_cons]
      by_cases hk : k = c.1
      · subst hk
        simp [hc]
      · simp [hk]

/-- A sector that is wiped reads FFh, and the rest of the array stands. -/
theorem read_ldgWipe (b sec a : Nat) (s : State) : Memory.read 0xFF (s.ldgWipe b sec).ldg.cells a =
    if sectorBase b sec ≤ a ∧ a < sectorBase b sec + sectorSize sec then 0xFF else Memory.read 0xFF s.ldg.cells a := by
  have hfind := find_filter_key (fun n => !decide (sectorBase b sec ≤ n ∧ n < sectorBase b sec + sectorSize sec)) s.ldg.cells a
  show (NMap.find (s.ldg.cells.filter _) a).getD 0xFF = _
  rw [hfind]
  by_cases h : sectorBase b sec ≤ a ∧ a < sectorBase b sec + sectorSize sec
  · simp [h]
  · simp only [h, decide_false, Bool.not_false, if_true, if_false]
    rfl

/-- Counting an erase changes the sector's own entry. -/
theorem cycled_ldg (b sec : Nat) (s : State) : ∃ x : Sector, x.cycles = min ((s.sector b sec).cycles + 1) (2 ^ 24 - 1) ∧
    (s.cycled b sec).ldg = { s.ldg with sectors := NMap.put s.ldg.sectors (sectorKey b sec) x } := by
  have hevent (x : State) (m code : Nat) (d : List Nat) : ((x.raise Reg.LDG_STATUS m).record code d).ldg = x.ldg := by
    rw [(State.record_frame _ _ _).ldg (by decide), (State.raise_frame _ _ _).ldg (by decide)]
  unfold State.cycled
  extract_lets x n lim s1 s2
  have h2 : s2.ldg = s1.ldg := by
    show (if n = lim - lim / 16 then _ else _ : State).ldg = _
    split
    · exact hevent _ _ _ _
    · rfl
  refine ⟨{ x with cycles := satTo 24 n, pending := false, undef := none, worn := x.worn || decide (lim ≤ n) }, satTo_eq_min 24 n, ?_⟩
  split
  · rw [hevent, h2]
    rfl
  · rw [h2]
    rfl

section
variable (b sec : Nat) (s : State)

/-- The state of the erase's end before its cycle is counted. -/
def wiped : State := ((s.dropRing b sec).ldgWipe b sec).updBank b (fun k => { k with erase := none, held := none })

theorem ldgWipe_ldg : (s.ldgWipe b sec).ldg = { s.ldg with
    cells := s.ldg.cells.filter (fun c => !decide (sectorBase b sec ≤ c.1 ∧ c.1 < sectorBase b sec + sectorSize sec))
    undef := s.ldg.undef.filter (fun c =>
      !decide (sectorBase b sec ≤ 32 * c.1 ∧ 32 * c.1 < sectorBase b sec + sectorSize sec)) } := rfl

theorem wiped_cells : (wiped b sec s).ldg.cells = (s.ldgWipe b sec).ldg.cells := by
  unfold wiped
  rw [updBank_ldg (g := (·.cells)) fun _ _ _ => rfl, ldgWipe_ldg, ldgWipe_ldg, (State.dropRing_frame b sec s).ldg (by decide)]

theorem wiped_sectors : (wiped b sec s).ldg.sectors = s.ldg.sectors := by
  unfold wiped
  rw [updBank_ldg (g := (·.sectors)) fun _ _ _ => rfl, ldgWipe_ldg, (State.dropRing_frame b sec s).ldg (by decide)]

/-- An erase that has ended well leaves FFh in its sector, and the rest of the array. -/
theorem erased_read (a : Nat) : Memory.read 0xFF (erased b sec s).ldg.cells a =
    if sectorBase b sec ≤ a ∧ a < sectorBase b sec + sectorSize sec then 0xFF else Memory.read 0xFF s.ldg.cells a := by
  obtain ⟨x, -, hcycled⟩ := cycled_ldg b sec (wiped b sec s)
  have hcells : (erased b sec s).ldg.cells = (s.ldgWipe b sec).ldg.cells := (congrArg (·.cells) hcycled).trans (wiped_cells b sec s)
  rw [hcells, read_ldgWipe]

/-- The sector of an erase that has ended well counts one cycle more. -/
theorem erased_cycles : ((erased b sec s).sector b sec).cycles = min ((s.sector b sec).cycles + 1) (2 ^ 24 - 1) := by
  obtain ⟨x, hx, hcycled⟩ := cycled_ldg b sec (wiped b sec s)
  have hbefore : (wiped b sec s).sector b sec = s.sector b sec := by
    unfold State.sector
    rw [wiped_sectors]
  have hafter : (erased b sec s).sector b sec = x := by
    show NMap.getD ((wiped b sec s).cycled b sec).ldg.sectors (sectorKey b sec) {} = x
    rw [hcycled, getD_put_self]
  rw [hafter, hx, hbefore]

end

/-! ### The command window -/

theorem bank_of_ldg {s u : State} (h : u.ldg = s.ldg) (b : Nat) : u.bank b = s.bank b := by
  unfold State.bank
  rw [h]

theorem breakSeq_ldg (b n : Nat) (s : State) : (s.breakSeq b n).ldg = { s.ldg with seq := none } := by
  unfold State.breakSeq
  dsimp only
  rw [(State.recordOnce_frame _ _ _ _).ldg (by decide), (State.ignored_frame _).ldg (by decide), (State.raise_frame _ _ _).ldg (by decide)]
  rfl

theorem breakSeq_status (b n : Nat) (s : State) : bit ((s.breakSeq b n).reg Reg.LDG_STATUS) 1 = true := by
  unfold State.breakSeq
  dsimp only
  rw [recordOnce_reg _ _ _ _ (by decide) (by decide), reg_ignored_ne _ (by decide), reg_raise, bit_or]
  exact Bool.or_true _

theorem exec_window {o : Nat} {s : State} (hm : s.md.mode ≠ .reset) (ho : o < ldgSize) (t : Nat) (org : Origin) (bytes : List Byte) :
    Sys2Proof.Machine.exec (.commandWindowWrite t org o bytes) s = .next ((s.advanceTo t).windowWrite o bytes) := by
  show execCommandWindowWrite t org o bytes s = _
  simp [execCommandWindowWrite, hm, Nat.not_le.2 ho]

theorem windowWrite_begins {o : Nat} {s : State} (ho : o % 0x2000000 = 0x0A0A) (hs : s.ldg.seq = none) :
    s.windowWrite o [0xA5, 0xC1] = s.setSeq { step := 2, bank := ldgBank o, last := s.time.now, op := 0, lines := 0, addr := 0, data := [] } := by
  have hword : leNat [0xA5#8, 0xC1#8] = 0xC1A5 := by decide
  simp [State.windowWrite, hs, ho, hword]

theorem windowWrite_breaks {o : Nat} {bytes : List Byte} {s : State} (hs : s.ldg.seq = none)
    (hb : ¬(bytes.length = 2 ∧ o % 0x2000000 = 0x0A0A ∧ leNat bytes = 0xC1A5)) : s.windowWrite o bytes = s.breakSeq (ldgBank o) 1 := by
  have hb' : (decide (bytes.length = 2) && o % 0x2000000 == 0x0A0A && leNat bytes == 0xC1A5) = false := by
    simpa [Bool.and_eq_true, and_assoc] using hb
  unfold State.windowWrite
  simp only [hs, hb', Bool.false_eq_true, if_false]

theorem windowWrite_confirms {o : Nat} {q : WinSeq} {s : State} (hq : s.ldg.seq = some q) (hb : q.bank = ldgBank o) (hstep : q.step = 4)
    (hop : q.op = 0x80) (hin : s.time.now ≤ q.last + msTicks) (hc : s.eraseCode (some o) = 0) (hv : s.ldg.vppLow = false) :
    s.windowWrite o [0x30, 0x00] = ((s.endSeq.startSectorErase (ldgBank o) (ldgSector o)).ldgResult 1 0) := by
  have hword : leNat [0x30#8, 0x00#8] = 0x30 := by decide
  have hcode : s.endSeq.eraseCode (some o) = 0 := hc
  have hvpp : s.endSeq.ldg.vppLow = false := hv
  simp [State.windowWrite, hq, Nat.not_lt.2 hin, hb, hstep, hop, hword, State.eraseCall, hcode, hvpp]

/-- Settles O25: each end is its own change of the bank, the array or the sequence; what follows it moves neither array nor sectors. -/
theorem ledgerOperationsEnd : Obligations.LedgerOperationsEnd := by
  refine ⟨fun t org o s hm ho hx hs => ?_, fun t org o bytes s hm ho hs hb => ?_, fun t org o q s hm ht ho hq hb hstep hop hin hc hv => ?_,
    fun t q s ht hq hlate => ?_, fun t b p s hp => ⟨?_, fun hr => ?_⟩, fun t b sec s he hrun => ⟨?_, fun hr => ?_⟩,
    fun t b asker p s ht hheld hdue => ?_, fun t b sec s ht he haged hdue => ?_⟩
  · have hexec := exec_window hm ho t org [0xA5, 0xC1]
    rw [windowWrite_begins hx (by rw [advanceTo_ldg, hs])] at hexec
    exact ⟨_, _, hexec, rfl, rfl, rfl, rfl, congrArg (·.cells) (advanceTo_ldg t s)⟩
  · have hexec := exec_window hm ho t org bytes
    rw [windowWrite_breaks (by rw [advanceTo_ldg, hs]) hb] at hexec
    exact ⟨_, hexec, by rw [breakSeq_ldg], by rw [breakSeq_ldg, advanceTo_ldg], breakSeq_status _ _ _⟩
  · have hexec := exec_window hm ho t org [0x30, 0x00]
    rw [windowWrite_confirms (by rw [advanceTo_ldg, hq]) hb hstep hop (by rwa [advanceTo_now ht.1 ht.2.1 ht.2.2]) hc
      (by rw [advanceTo_ldg, hv])] at hexec
    refine ⟨_, hexec, ?_, rfl, ?_⟩
    · exact updBank_ldg (g := (·.seq)) (fun _ _ _ => rfl) _ _ (s.advanceTo t).endSeq
    · rw [ldgResult_bank, State.startSectorErase, bank_updBank]
  · have hexec : Sys2Proof.Machine.exec (.windowSequenceTimeout t) s = .next ((s.advanceTo t).breakSeq q.bank q.step) := by
      show execWindowSequenceTimeout t s = _
      simp [execWindowSequenceTimeout, hq, advanceTo_now ht.1 ht.2.1 ht.2.2, hlate]
    exact ⟨_, hexec, by rw [breakSeq_ldg, advanceTo_ldg], breakSeq_status _ _ _⟩
  · refine ⟨_, exec_programDone hp t, ?_⟩
    rw [programDone_cells, ← advanceTo_ldg t s]
    rfl
  · show execLedgerProgramDone t b false s = _
    simp [execLedgerProgramDone, hp, hr]
  · have hcells : LdgKept (·.cells) := fun _ _ _ _ _ _ _ => rfl
    have hsectors : LdgKept (·.sectors) := fun _ _ _ _ _ _ _ => rfl
    refine ⟨_, exec_eraseDone he hrun t, fun a => ?_, ?_⟩
    · rw [afterErase_kept hcells, erased_read, advanceTo_ldg]
    · rw [← sector_advanceTo t b sec s, ← erased_cycles]
      exact congrArg (fun m => (NMap.getD m (sectorKey b sec) {}).cycles) (afterErase_kept hsectors _ _ _ _)
  · show execLedgerEraseDone t b false s = _
    simp [execLedgerEraseDone, he, hrun, hr]
  · have hexec : Sys2Proof.Machine.exec (.minrunReached t b) s = .next
        (if p.isNone then ((s.advanceTo t).doSuspend b p).ldgResult asker 0 else (s.advanceTo t).doSuspend b p) := by
      show execMinrunReached t b s = _
      simp [execMinrunReached, hheld, advanceTo_now ht.1 ht.2.1 ht.2.2, Nat.not_lt.2 hdue]
    have hbank : (if p.isNone then ((s.advanceTo t).doSuspend b p).ldgResult asker 0 else (s.advanceTo t).doSuspend b p).bank b =
        ((s.advanceTo t).doSuspend b p).bank b := by
      split
      · exact ldgResult_bank _ _ _ _
      · rfl
    exact ⟨_, hexec, by rw [hbank, State.doSuspend, bank_updBank], by rw [hbank, State.doSuspend, bank_updBank]⟩
  · have hexec : Sys2Proof.Machine.exec (.eraseAgeLimit t b) s = .next
        ((((s.advanceTo t).updBank b (fun k => { k with aged := true })).raise Reg.LDG_STATUS 8).record 0xA103 [b, sec, (s.bank b).suspends]) := by
      show execEraseAgeLimit t b s = _
      simp [execEraseAgeLimit, he, haged, advanceTo_now ht.1 ht.2.1 ht.2.2, Nat.not_lt.2 hdue]
    have hldg : ((((s.advanceTo t).updBank b (fun k => { k with aged := true })).raise Reg.LDG_STATUS 8).record 0xA103
        [b, sec, (s.bank b).suspends]).ldg = ((s.advanceTo t).updBank b (fun k => { k with aged := true })).ldg := by
      rw [(State.record_frame _ _ _).ldg (by decide), (State.raise_frame _ _ _).ldg (by decide)]
    refine ⟨_, hexec, ?_, ?_, ?_⟩
    · rw [bank_of_ldg hldg, bank_updBank]
    · rw [record_reg _ _ _ (by decide) (by decide), reg_raise, bit_or]
      exact Bool.or_true _
    · rw [hldg, updBank_ldg (g := (·.cells)) fun _ _ _ => rfl, advanceTo_ldg]

end Sys2Proof.Proofs
end

section
/-!
SUPPORT. The key lock and the key commands (R325 to R334).
-/

namespace Sys2Proof.Proofs

open Sys2Proof.Machine Sys2Proof.Safety Sys2Proof.Laws

/-! ### The lock -/

theorem freeLock_ciph (s : State) : s.freeLock.ciph = { s.ciph with lock := 0, keys := [], limset := 0 } := rfl

theorem touchLock_ciph (o : Origin) (s : State) :
    (s.touchLock o).ciph = if s.ownsLock o then { s.ciph with lockTick := s.time.now } else s.ciph := by
  unfold State.touchLock
  split <;> rfl

theorem ownsLock_touchLock (o : Origin) (s : State) : (s.touchLock o).ownsLock o = s.ownsLock o := by
  unfold State.touchLock
  split <;> rfl

theorem ownsLock_of_ciph {s u : State} (h : u.ciph = s.ciph) (o : Origin) : u.ownsLock o = s.ownsLock o := by
  unfold State.ownsLock
  rw [h]

/-- A bit that a mask clears is not set. -/
theorem bit_and_cleared (v m : Word) (n : Nat) (h : bits m n n = 0) : bit (v &&& m) n = false := by
  unfold bit
  rw [bits_and, h, Nat.and_zero]
  rfl

/-- TAKE asks for the lock, RELEASE does not. -/
theorem takeWord_bits (v : Word) : bit (v &&& ~~~ 0x200 ||| 0x100) 8 = true ∧ bit (v &&& ~~~ 0x200 ||| 0x100) 9 = false := by
  have h8 : bit (0x100 : Word) 8 = true := by decide
  have h9 : bit (0x100 : Word) 9 = false := by decide
  have hcleared := bit_and_cleared v (~~~ 0x200) 9 (by decide)
  rw [bit_or, bit_or, h8, h9, hcleared]
  exact ⟨Bool.or_true _, rfl⟩

theorem releaseWord_bits (v : Word) : bit (v &&& ~~~ 0x100 ||| 0x200) 8 = false ∧ bit (v &&& ~~~ 0x100 ||| 0x200) 9 = true := by
  have h8 : bit (0x200 : Word) 8 = false := by decide
  have h9 : bit (0x200 : Word) 9 = true := by decide
  have hcleared := bit_and_cleared v (~~~ 0x100) 8 (by decide)
  rw [bit_or, bit_or, h8, h9, hcleared]
  exact ⟨rfl, Bool.or_true _⟩

/-- A write of CIPH_LOCK that nothing turns away. -/
theorem writeLock_eq {s : State} (ho : Open s) (t : Nat) (o : Origin) (v : Word) :
    ∃ x : State, x.ciph = s.ciph ∧ (s.advanceTo t).writeLock o v =
      if bit v 9 && (x.touchLock o).ownsLock o then (if bit v 8 then (x.touchLock o).takeLock o else x.touchLock o).freeLock
      else if bit v 8 then (x.touchLock o).takeLock o else x.touchLock o := by
  obtain ⟨r, x, f, -, -, hexec⟩ := gateWrite_acts (a := Reg.CIPH_LOCK) (w := .any) (res := 0xFFFFFCFC#32) (o := o) (t := t) (v := v)
    (by decide +kernel) ho rfl (by decide) fun _ s =>
      let s1 := s.touchLock o
      let s2 := if bit v 8 then s1.takeLock o else s1
      if bit v 9 && s1.ownsLock o then s2.freeLock else s2
  exact ⟨x, f.ciph (by decide), hexec⟩

theorem exec_lockTake {s : State} (ho : Open s) (t : Nat) (o : Origin) (v : Word) :
    ∃ x : State, x.ciph = s.ciph ∧ Sys2Proof.Machine.exec (.lockTake t o v) s = .next ((x.touchLock o).takeLock o) := by
  obtain ⟨x, hx, hexec⟩ := writeLock_eq ho t o ((v &&& ~~~ 0x200) ||| 0x100)
  obtain ⟨h8, h9⟩ := takeWord_bits v
  rw [h8, h9] at hexec
  exact ⟨x, hx, congrArg Host.Outcome.next hexec⟩

theorem exec_lockRelease {s : State} (ho : Open s) (t : Nat) (o : Origin) (v : Word) :
    ∃ x : State, x.ciph = s.ciph ∧ Sys2Proof.Machine.exec (.lockRelease t o v) s =
      .next (if s.ownsLock o then (x.touchLock o).freeLock else x.touchLock o) := by
  obtain ⟨x, hx, hexec⟩ := writeLock_eq ho t o ((v &&& ~~~ 0x100) ||| 0x200)
  obtain ⟨h8, h9⟩ := releaseWord_bits v
  rw [h8, h9, ownsLock_touchLock, ownsLock_of_ciph hx] at hexec
  exact ⟨x, hx, congrArg Host.Outcome.next hexec⟩

theorem takeLock_free {o : Origin} {s : State} (hl : s.ciph.lock = 0) (ho : o ≠ .inband) :
    (s.touchLock o).takeLock o = { s with ciph := { s.ciph with lock := ownerClass o, lockTick := s.time.now } } := by
  have hnot : s.ownsLock o = false := by simp [State.ownsLock, hl]
  have hclass : ownerClass o ≠ 0 := by
    cases o with
    | inband => exact absurd rfl ho
    | core => decide
    | spi => decide
    | repl => decide
  simp [State.touchLock, hnot, State.takeLock, hl, hclass]

theorem takeLock_held {o : Origin} {s : State} (hl : s.ciph.lock ≠ 0) : ((s.touchLock o).takeLock o).ciph.lock = s.ciph.lock ∧
    ((s.touchLock o).takeLock o).ciph.keys = s.ciph.keys ∧ bit (((s.touchLock o).takeLock o).reg Reg.CIPH_STATUS) 3 = true := by
  have hkept : (s.touchLock o).ciph.lock = s.ciph.lock ∧ (s.touchLock o).ciph.keys = s.ciph.keys := by
    rw [touchLock_ciph]
    split <;> exact ⟨rfl, rfl⟩
  have hraise : (s.touchLock o).takeLock o = (s.touchLock o).raise Reg.CIPH_STATUS 8 := if_pos (by rwa [hkept.1])
  rw [hraise]
  refine ⟨hkept.1, hkept.2, ?_⟩
  rw [reg_raise, bit_or]
  exact Bool.or_true _

theorem exec_lockIdleTimeout {t : Nat} {s : State} (ht : Ticking t s) (hl : s.ciph.lock ≠ 0)
    (hdue : s.ciph.lockTick + s.regField Reg.CIPH_CTRL 7 0 * msTicks ≤ t) : Sys2Proof.Machine.exec (.lockIdleTimeout t) s =
      .next (((s.advanceTo t).freeLock.raise Reg.CIPH_STATUS 0x10).record 0x9003 [s.ciph.lock]) := by
  have hfield : (s.advanceTo t).regField Reg.CIPH_CTRL 7 0 = s.regField Reg.CIPH_CTRL 7 0 := congrArg (bits · 7 0) (reg_advanceTo t s _)
  show execLockIdleTimeout t s = _
  simp [execLockIdleTimeout, hl, hfield, hdue, advanceTo_now ht.1 ht.2.1 ht.2.2]

/-! ### Key commands -/

theorem bits_withOp {op : Nat} (v : Word) (h : op < 8) : bits (withOp op v) 2 0 = op := by
  have hcleared : bits (~~~ 7 : Word) 2 0 = 0 := by decide
  have hop : bits (BitVec.ofNat 32 op) 2 0 = op := by
    show (BitVec.ofNat 32 op).toNat / 1 % 8 = op
    rw [BitVec.toNat_ofNat]
    omega
  unfold withOp
  rw [bits_or, bits_and, hcleared, Nat.and_zero, hop, Nat.zero_or]

/-- The state in which the owner's key command acts: its access has restarted the idle time. -/
structure KeyAsked (s x : State) : Prop where
  ciph : x.ciph = { s.ciph with lockTick := x.time.now }
  path : x.regs.path = s.regs.path
  frame : Frame 131077 s x

section
variable {s : State} (ho : Open s) (hallows : When.allows .keyCommand s.md.mode = true) (hno : s.md.mode.noKeys = false)
  (hbusy : s.ciph.busy = false) (howns : s.ownsLock o = true)
include ho hallows hno hbusy howns

/-- A key command that nothing turns away runs or ends with its code. -/
theorem writeKcmd_runs {op : Nat} (h1 : 1 ≤ op) (h4 : op ≤ 4) (t : Nat) (v : Word) :
    let slot := bits (s.pathReg o Reg.CIPH_KSEL) 12 0
    let c := s.keyCode (ownerClass o) slot op
    ∃ x, KeyAsked s x ∧ (s.advanceTo t).writeKcmd o (withOp op v) =
      if c = 0 then x.runKey (ownerClass o) slot op else x.endKey slot op c := by
  obtain ⟨r, y, f, hmd, hy, hexec⟩ := gateWrite_acts (a := Reg.CIPH_KCMD) (w := .keyCommand) (res := 0xFFFFFFF8#32) (o := o) (t := t)
    (v := withOp op v) (by decide +kernel) ho hallows (by decide) fun _ s =>
      if s.ownsLock o then (fun s : State =>
        let op := bits (withOp op v) 2 0
        let slot := bits (s.pathReg o Reg.CIPH_KSEL) 12 0
        if s.md.mode.noKeys || s.ciph.busy then s.ignored
        else if op = 0 ∨ 4 < op then s
        else
          let c := s.keyCode (ownerClass o) slot op
          if c = 0 then s.runKey (ownerClass o) slot op else s.endKey slot op c) (s.touchLock o)
      else ((s.raise Reg.CIPH_STATUS 4).ignored).recordOnce 0x9002 0 [classItem o, Reg.CIPH_KCMD]
  have hciph : y.ciph = s.ciph := f.ciph (by decide)
  have hyowns : y.ownsLock o = true := (ownsLock_of_ciph hciph o).trans howns
  have htouch : y.touchLock o = { y with ciph := { s.ciph with lockTick := y.time.now } } := by
    unfold State.touchLock
    rw [if_pos hyowns, hciph]
  have hpath : y.regs.path = s.regs.path := by
    obtain rfl | rfl := hy
    · rw [advanceTo_regs]
    · show (s.advanceTo t).regs.path = _
      rw [advanceTo_regs]
  have hmode : (y.touchLock o).md.mode.noKeys = false := by rw [htouch]; exact (congrArg (·.mode.noKeys) hmd).trans hno
  have hfree : (y.touchLock o).ciph.busy = false := by rw [htouch]; exact hbusy
  have hksel : (y.touchLock o).pathReg o Reg.CIPH_KSEL = s.pathReg o Reg.CIPH_KSEL := by
    rw [htouch]
    exact congrArg (fun m => NMap.getD m _ 0) hpath
  have hcode (slot n : Nat) : (y.touchLock o).keyCode (ownerClass o) slot n = s.keyCode (ownerClass o) slot n := by
    rw [htouch]
    rfl
  have hop : ¬ (op = 0 ∨ 4 < op) := by omega
  refine ⟨y.touchLock o, ⟨by rw [htouch], by rw [htouch]; exact hpath, ?_⟩, hexec.trans ?_⟩
  · exact Frame.comp (State.touchLock_frame o y) rfl (Frame.comp f rfl (Frame.refl s))
  · rw [if_pos hyowns]
    simp only [hmode, hfree, Bool.or_self, Bool.false_eq_true, if_false, bits_withOp v (show op < 8 by omega), hop, hksel, hcode]

end

theorem endKey_ciph (slot op r : Nat) (s : State) :
    (s.endKey slot op r).ciph = { s.ciph with busy := false, result := r, keys := [], limset := 0 } := by
  unfold State.endKey
  dsimp only
  rw [(State.record_frame _ _ _).ciph (by decide)]
  split
  · rfl
  · rw [(State.raise_frame _ _ _).ciph (by decide)]
    rfl

theorem offerRekeys_ciph (s : State) : s.offerRekeys.ciph = s.ciph := (State.offerRekeys_frame s).ciph (by decide)

/-- A message to the partner is not held by the fence (R259). -/
theorem emit_commit (n : Nat) (c : PairChange) (s : State) : s.emit (.commit n c) = { s with outbox := .commit n c :: s.outbox } := by
  simp [State.emit, State.onFrontEnd]

section
variable {s x : State} (h : KeyAsked s x)
include h

theorem KeyAsked.stagedKey (n : Nat) : x.stagedKey n = s.stagedKey n := by
  unfold State.stagedKey
  rw [h.ciph]

theorem KeyAsked.mirrors : x.mirrors = s.mirrors := by
  unfold State.mirrors State.service
  rw [h.frame.md (by decide)]

end

/-- A key loaded without a partner: the slot holds it, and the command has ended. -/
theorem proposeKey_load_alone {slot cls : Nat} {k1 k2 : List Byte} {s : State} (hm : s.mirrors = false) :
    NMap.find (s.proposeKey (.keyLoad slot cls k1 k2)).ciph.slots slot = some
      { gcm := false, owner := cls, refs := 0, key1 := k1, key2 := k2, ctr := 0, limit := 0, due := false, exhausted := false } ∧
    (s.proposeKey (.keyLoad slot cls k1 k2)).ciph.keys = [] ∧ (s.proposeKey (.keyLoad slot cls k1 k2)).ciph.result = 0 := by
  unfold State.proposeKey
  rw [propose_applies (by exact hm)]
  show NMap.find (State.endKey slot 1 0 _).ciph.slots slot = _ ∧ (State.endKey slot 1 0 _).ciph.keys = [] ∧ (State.endKey slot 1 0 _).ciph.result = 0
  rw [endKey_ciph]
  exact ⟨find_put_self _ _ _, rfl, rfl⟩

/-- With a partner the change is asked for, and BUSY stands. -/
theorem proposeKey_load_asks {slot cls : Nat} {k1 k2 : List Byte} {s : State} (hm : s.mirrors = true) :
    (s.proposeKey (.keyLoad slot cls k1 k2)).ciph = { s.ciph with busy := true } ∧
      Sends (.commit (s.moor.token + 1) (.keyLoad slot cls k1 k2)) s (s.proposeKey (.keyLoad slot cls k1 k2)) := by
  have hm' : ({ s with ciph := { s.ciph with busy := true } } : State).mirrors = true := hm
  unfold State.proposeKey State.propose
  rw [if_pos hm', emit_commit]
  exact ⟨rfl, [_], rfl, List.mem_singleton.2 rfl⟩

/-- Judging a slot changes no limit. -/
theorem judgeSlot_limit (n : Nat) (s : State) :
    (NMap.find (s.judgeSlot n).ciph.slots n).map (·.limit) = (NMap.find s.ciph.slots n).map (·.limit) := by
  have hupd (x : State) (f : Slot → Slot) (hf : ∀ k, (f k).limit = k.limit) :
      (NMap.find (x.updSlot n f).ciph.slots n).map (·.limit) = (NMap.find x.ciph.slots n).map (·.limit) := by
    show (NMap.find (NMap.upd x.ciph.slots n f) n).map (·.limit) = _
    rw [find_upd, if_pos rfl, Option.map_map]
    exact congrArg (Option.map · _) (funext hf)
  have hrec (x : State) (code : Nat) (d : List Nat) : (x.record code d).ciph = x.ciph := (State.record_frame _ _ _).ciph (by decide)
  unfold State.judgeSlot
  split
  · rfl
  · extract_lets s1
    have h1 : (NMap.find s1.ciph.slots n).map (·.limit) = (NMap.find s.ciph.slots n).map (·.limit) := by
      show (NMap.find (if _ then _ else _ : State).ciph.slots n).map (·.limit) = _
      split
      · rw [hrec, (State.raise_frame _ _ _).ciph (by decide)]
        exact hupd s (fun k => { k with due := true }) fun _ => rfl
      · rfl
    split
    · rw [hrec]
      exact (hupd s1 (fun k => { k with exhausted := true }) fun _ => rfl).trans h1
    · exact h1

/-- LOAD_XTS proposes the staged key. -/
theorem KeyAsked.runKey_load {s x : State} (h : KeyAsked s x) (cls slot : Nat) :
    x.runKey cls slot 1 = x.proposeKey (.keyLoad slot cls (s.stagedKey 0) (s.stagedKey 8)) := by
  rw [← h.stagedKey, ← h.stagedKey]
  rfl

/-- A slot that LOAD_GCM has filled (R328). -/
def gcmLoaded (cls : Nat) (key : List Byte) : Slot :=
  { gcm := true, owner := cls, refs := 0, key1 := key, key2 := [], ctr := 0, limit := 2 ^ 32, due := false, exhausted := false }

/-- LOAD_GCM makes the slot at once. -/
theorem runKey_gcm (slot cls : Nat) (s : State) :
    NMap.find (s.runKey cls slot 2).ciph.slots slot = some (gcmLoaded cls (s.stagedKey 0)) ∧ (s.runKey cls slot 2).ciph.keys = [] ∧ (s.runKey cls slot 2).ciph.result = 0 := by
  have hrun : s.runKey cls slot 2 = (State.endKey slot 2 0 { s with ciph := { s.ciph with
      slots := NMap.put s.ciph.slots slot (gcmLoaded cls (s.stagedKey 0)) } }).offerRekeys := rfl
  rw [hrun, offerRekeys_ciph, endKey_ciph]
  exact ⟨find_put_self _ _ _, rfl, rfl⟩

/-- CLEAR of a GCM slot empties it at once. -/
theorem runKey_clear {slot : Nat} {k : Slot} {s : State} (hk : NMap.find s.ciph.slots slot = some k) (hgcm : k.gcm = true) (cls : Nat) :
    s.runKey cls slot 3 = State.endKey slot 3 0 { s with ciph := { s.ciph with slots := NMap.del s.ciph.slots slot } } := by
  show (if (match NMap.find s.ciph.slots slot with | some k => k.gcm | none => false) then _ else _) = _
  rw [hk]
  exact if_pos hgcm

/-- A slot with a new limit (R329). -/
def limited (lim : Nat) (k : Slot) : Slot := { k with limit := lim, exhausted := k.exhausted && decide (lim ≤ k.ctr) }

/-- SETLIMIT replaces the slot's limit and takes the staged one away. -/
theorem runKey_limit {slot : Nat} {k : Slot} {s : State} (hk : NMap.find s.ciph.slots slot = some k) (cls : Nat) :
    (NMap.find (s.runKey cls slot 4).ciph.slots slot).map (·.limit) = some s.ciph.limset ∧ (s.runKey cls slot 4).ciph.limset = 0 ∧
      (s.runKey cls slot 4).ciph.result = 0 := by
  have hrun : s.runKey cls slot 4 = (((s.updSlot slot (limited s.ciph.limset)).judgeSlot slot).endKey slot 4 0).offerRekeys := rfl
  rw [hrun, offerRekeys_ciph, endKey_ciph]
  refine ⟨(judgeSlot_limit slot _).trans ?_, rfl, rfl⟩
  show (NMap.find (NMap.upd s.ciph.slots slot _) slot).map (·.limit) = _
  rw [find_upd, if_pos rfl, hk]
  rfl

theorem exec_loadXts {t : Nat} {o : Origin} {v : Word} {s x : State} (h : (s.advanceTo t).writeKcmd o (withOp 1 v) = x) :
    Sys2Proof.Machine.exec (.loadXts t o v) s = .next x := congrArg Host.Outcome.next h

theorem exec_loadGcm {t : Nat} {o : Origin} {v : Word} {s x : State} (h : (s.advanceTo t).writeKcmd o (withOp 2 v) = x) :
    Sys2Proof.Machine.exec (.loadGcm t o v) s = .next x := congrArg Host.Outcome.next h

theorem exec_keyClear {t : Nat} {o : Origin} {v : Word} {s x : State} (h : (s.advanceTo t).writeKcmd o (withOp 3 v) = x) :
    Sys2Proof.Machine.exec (.keyClear t o v) s = .next x := congrArg Host.Outcome.next h

theorem exec_setLimit {t : Nat} {o : Origin} {v : Word} {s x : State} (h : (s.advanceTo t).writeKcmd o (withOp 4 v) = x) :
    Sys2Proof.Machine.exec (.setLimit t o v) s = .next x := congrArg Host.Outcome.next h

/-- Settles O26: the lock's accesses, then the key commands of its owner, operation by operation. -/
theorem keyLockAndKeyCommands : Obligations.KeyLockAndKeyCommands := by
  refine ⟨fun t o v s ho => ⟨fun hl hin => ?_, fun hl => ?_, fun howns => ?_, fun howns => ?_⟩, fun t s ht hl hdue => ?_,
    fun t o v s ho hallows hno hbusy howns => ⟨fun hc hm => ?_, fun hc hm => ?_, fun hc => ?_, fun hc => ?_, fun k hc hk hgcm => ?_,
      fun k hc hk => ?_⟩⟩
  · obtain ⟨x, hx, hexec⟩ := exec_lockTake ho t o v
    rw [takeLock_free (by rwa [hx]) hin] at hexec
    exact ⟨_, hexec, by rw [hx]⟩
  · obtain ⟨x, hx, hexec⟩ := exec_lockTake ho t o v
    obtain ⟨hlock, hkeys, hbit⟩ := takeLock_held (o := o) (s := x) (by rwa [hx])
    exact ⟨_, hexec, hlock.trans (by rw [hx]), hkeys.trans (by rw [hx]), hbit⟩
  · obtain ⟨x, hx, hexec⟩ := exec_lockRelease ho t o v
    rw [if_pos howns] at hexec
    refine ⟨_, hexec, rfl, rfl, rfl, ?_⟩
    rw [freeLock_ciph, touchLock_ciph, ownsLock_of_ciph hx, if_pos howns, hx]
  · obtain ⟨x, hx, hexec⟩ := exec_lockRelease ho t o v
    rw [howns, if_neg Bool.false_ne_true] at hexec
    refine ⟨_, hexec, ?_⟩
    rw [touchLock_ciph, ownsLock_of_ciph hx, howns, if_neg Bool.false_ne_true, hx]
  · have hciph : (((s.advanceTo t).freeLock.raise Reg.CIPH_STATUS 0x10).record 0x9003 [s.ciph.lock]).ciph =
        { s.ciph with lock := 0, keys := [], limset := 0 } := by
      rw [(State.record_frame _ _ _).ciph (by decide), (State.raise_frame _ _ _).ciph (by decide), freeLock_ciph, advanceTo_ciph]
    exact ⟨_, exec_lockIdleTimeout ht hl hdue, by rw [hciph], by rw [hciph], by rw [hciph]⟩
  · obtain ⟨x, hx, hexec⟩ := writeKcmd_runs ho hallows hno hbusy howns (op := 1) (by decide) (by decide) t v
    rw [if_pos hc, hx.runKey_load] at hexec
    obtain ⟨hslot, hkeys, hresult⟩ := proposeKey_load_alone (s := x) (hx.mirrors.trans hm)
    exact ⟨_, exec_loadXts hexec, hslot, hkeys, hresult⟩
  · obtain ⟨x, hx, hexec⟩ := writeKcmd_runs ho hallows hno hbusy howns (op := 1) (by decide) (by decide) t v
    rw [if_pos hc, hx.runKey_load] at hexec
    obtain ⟨hciph, hsends⟩ := proposeKey_load_asks (slot := bits (s.pathReg o Reg.CIPH_KSEL) 12 0) (cls := ownerClass o)
      (k1 := s.stagedKey 0) (k2 := s.stagedKey 8) (hx.mirrors.trans hm)
    rw [hx.frame.moor (by decide)] at hsends
    exact ⟨_, exec_loadXts hexec, by rw [hciph], by rw [hciph, hx.ciph], sends_before hx.frame hsends⟩
  · obtain ⟨x, hx, hexec⟩ := writeKcmd_runs ho hallows hno hbusy howns (op := 2) (by decide) (by decide) t v
    obtain ⟨hslot, hkeys, hresult⟩ := runKey_gcm (bits (s.pathReg o Reg.CIPH_KSEL) 12 0) (ownerClass o) x
    rw [hx.stagedKey] at hslot
    rw [if_pos hc] at hexec
    exact ⟨_, exec_loadGcm hexec, hslot, hkeys, hresult⟩
  · obtain ⟨x, hx, hexec⟩ := writeKcmd_runs ho hallows hno hbusy howns (op := 2) (by decide) (by decide) t v
    rw [if_neg hc] at hexec
    exact ⟨_, exec_loadGcm hexec, by rw [endKey_ciph, hx.ciph], by rw [endKey_ciph], by rw [endKey_ciph]⟩
  · obtain ⟨x, hx, hexec⟩ := writeKcmd_runs ho hallows hno hbusy howns (op := 3) (by decide) (by decide) t v
    rw [if_pos hc, runKey_clear (by rw [hx.ciph]; exact hk) hgcm] at hexec
    refine ⟨_, exec_keyClear hexec, ?_, by rw [endKey_ciph], by rw [endKey_ciph]⟩
    rw [endKey_ciph]
    exact (find_del _ _ _).trans (if_pos rfl)
  · obtain ⟨x, hx, hexec⟩ := writeKcmd_runs ho hallows hno hbusy howns (op := 4) (by decide) (by decide) t v
    obtain ⟨hlimit, hset, hresult⟩ := runKey_limit (s := x) (by rw [hx.ciph]; exact hk) (ownerClass o)
    rw [if_pos hc] at hexec
    rw [hx.ciph] at hlimit
    exact ⟨_, exec_setLimit hexec, hlimit, hset, hresult⟩

end Sys2Proof.Proofs
end

section
/-!
SUPPORT. The housekeeping DMA (R304 to R317): channels, descriptors, bursts, halts and software requests.
-/

namespace Sys2Proof.Proofs

open Sys2Proof.Machine Sys2Proof.Safety Sys2Proof.Laws

/-! ### Channels -/

@[simp] theorem chan_advanceTo (t c : Nat) (s : State) : (s.advanceTo t).chan c = s.chan c := by simp [State.chan]

theorem chan_setChan (c : Nat) (x : Chan) (s : State) : (s.setChan c x).chan c = x := by simp [State.chan, State.setChan]

theorem chan_of_dma {c : Nat} {s u : State} (h : u.dma.chans = s.dma.chans) : u.chan c = s.chan c := by
  unfold State.chan
  rw [h]

theorem translate_of_wins {a n : Nat} {w : Bool} {s u : State} (h : u.dma.wins = s.dma.wins) : u.translate a n w = s.translate a n w := by
  unfold State.translate State.window
  rw [h]

theorem translate_advanceTo (t a n : Nat) (w : Bool) (s : State) : (s.advanceTo t).translate a n w = s.translate a n w :=
  translate_of_wins (by rw [advanceTo_dma])

theorem dmaRuns_advanceTo (t : Nat) (s : State) : (s.advanceTo t).dmaRuns = s.dmaRuns := by
  simp only [State.dmaRuns, advanceTo_md, advanceTo_dma, reg_advanceTo]

theorem chEn_advanceTo (t c : Nat) (s : State) : (s.advanceTo t).chEn c = s.chEn c := by
  simp only [State.chEn, State.cctrl, reg_advanceTo]

theorem poisonedIn_of_mem {a n : Nat} {s u : State} (h : u.mem = s.mem) : u.poisonedIn a n = s.poisonedIn a n := by
  unfold State.poisonedIn
  rw [h]

theorem memBytes_of_mem {a n : Nat} {s u : State} (h : u.mem = s.mem) : u.memBytes a n = s.memBytes a n := by
  unfold State.memBytes
  rw [h]

theorem length_memBytes (a n : Nat) (s : State) : (s.memBytes a n).length = n := by
  simp [State.memBytes, Memory.readBytes]

/-- Where a channel reads its next descriptor. -/
theorem ringPlace_of_regs {c : Nat} {s u : State} (h : ∀ a, u.reg (chReg a c) = s.reg (chReg a c)) :
    u.ringBase c = s.ringBase c ∧ u.ringSize c = s.ringSize c ∧ u.chead c = s.chead c := by
  unfold State.ringBase State.ringSize State.chead
  simp only [h]
  exact ⟨trivial, trivial, trivial⟩

/-- A read of memory that meets no fault. -/
theorem dmaRead_memory {c a n p : Nat} {s : State} (htr : s.translate a n false = .at_ p) (hin : inMemory p n = true)
    (hp : s.poisonedIn p n = none) : s.dmaRead c a n = (some (p, s.memBytes p n), s) := by
  simp [State.dmaRead, htr, hin, hp]

/-- A write to memory that meets no fault. -/
theorem dmaWrite_memory {c a q : Nat} {bs : List Byte} {s : State} (htr : s.translate a bs.length true = .at_ q)
    (hin : inMemory q bs.length = true) : s.dmaWrite c a bs = (some q, s.memWrite q bs) := by
  simp [State.dmaWrite, htr, hin]

/-! ### Descriptors -/

/-- A descriptor that the engine owns is taken up. -/
theorem fetchDesc_takes {c p : Nat} {s : State} (htr : s.translate (s.ringBase c + 32 * (s.chead c % s.ringSize c)) 32 false = .at_ p)
    (hin : inMemory p 32 = true) (hp : s.poisonedIn p 32 = none) (hown : (readDesc (s.memBytes p 32)).own = true)
    (hbad : (readDesc (s.memBytes p 32)).bad = false) :
    ((s.fetchDesc c).chan c).cur = some (s.memBytes p 32, s.chead c % s.ringSize c, 0) ∧ (s.fetchDesc c).mem = s.mem := by
  have hfetch : s.fetchDesc c = (s.setChead c ((s.chead c % s.ringSize c + 1) % s.ringSize c)).setChan c
      { s.chan c with idle := false, cur := some (s.memBytes p 32, s.chead c % s.ringSize c, 0) } := by
    simp [State.fetchDesc, dmaRead_memory htr hin hp, hown, hbad]
  rw [hfetch]
  exact ⟨by rw [chan_setChan], rfl⟩

/-! ### Bursts -/

/-- What follows a burst's write leaves the channels and the memory: its line, the bulk windows and the drain of Tally. -/
theorem burstServed_kept (c p q n : Nat) (s : State) :
    let s4 := (List.range 4).foldl (fun (s : State) w => s.bulkMoved w p q n) (s.serveLine c)
    let s5 := if s4.chBound c 3 then s4.tallyMoved p n else s4
    s5.dma.chans = s.dma.chans ∧ s5.mem = s.mem := by
  intro s4 s5
  have f4 : Frame 589828 s s4 := Frame.foldl (m := 589828) (fun _ _ h => Frame.comp (State.bulkMoved_frame _ _ _ _ _) rfl h)
    (Frame.comp (State.serveLine_frame c s) rfl (Frame.refl s))
  have f5 : Frame 575798325470 s4 s5 := Frame.ite (fun _ => State.tallyMoved_frame _ _ _) fun _ => Frame.refl _
  exact ⟨(f5.dmaKept (by decide) (·.chans) fun _ => rfl).trans (f4.dmaKept (by decide) (·.chans) fun _ => rfl),
    (f5.mem (by decide)).trans (f4.mem (by decide))⟩

/-- The turn is noted for the burst's priority. -/
def turnTaken (c : Nat) (s : State) : State :=
  if s.chPrio c then { s with dma := { s.dma with lastHigh := c } } else { s with dma := { s.dma with lastLow := c } }

theorem turnTaken_kept (c : Nat) (s : State) :
    (turnTaken c s).mem = s.mem ∧ (turnTaken c s).dma.wins = s.dma.wins ∧ (turnTaken c s).dma.chans = s.dma.chans := by
  unfold turnTaken
  split <;> exact ⟨rfl, rfl, rfl⟩

section
variable {c idx moved p q : Nat} {bytes : List Byte} {s : State} (hcur : (s.chan c).cur = some (bytes, idx, moved))

/-- A burst from memory to memory before the descriptor's last moves its bytes and advances the channel. -/
theorem burst_moves {n : Nat} (hcur : (s.chan c).cur = some (bytes, idx, moved))
    (hn : n = burstLen (s.chBurst c) (readDesc bytes).len (readDesc bytes).src (readDesc bytes).dst moved)
    (hmore : moved + n < (readDesc bytes).len) (hsrc : s.translate ((readDesc bytes).src + moved) n false = .at_ p)
    (hp : inMemory p n = true) (hpoison : s.poisonedIn p n = none)
    (hdst : s.translate ((readDesc bytes).dst + moved) n true = .at_ q) (hq : inMemory q n = true) :
    (s.burst c).mem.cells = Memory.writeBytes 0 s.mem.cells q (s.memBytes p n) ∧
      ((s.burst c).chan c).cur = some (bytes, idx, moved + n) := by
  obtain ⟨hmem, hwins, hchans⟩ := turnTaken_kept c s
  have hread : (turnTaken c s).dmaRead c ((readDesc bytes).src + moved) n = (some (p, s.memBytes p n), turnTaken c s) := by
    rw [dmaRead_memory ((translate_of_wins hwins).trans hsrc) hp ((poisonedIn_of_mem hmem).trans hpoison), memBytes_of_mem hmem]
  have hwrite : (turnTaken c s).dmaWrite c ((readDesc bytes).dst + moved) (s.memBytes p n) =
      (some q, (turnTaken c s).memWrite q (s.memBytes p n)) :=
    dmaWrite_memory (by rw [length_memBytes, translate_of_wins hwins, hdst]) (by rwa [length_memBytes])
  have hburst : s.burst c =
      (let x := ((turnTaken c s).memWrite q (s.memBytes p n)).setChan c { (turnTaken c s).chan c with cur := some (bytes, idx, moved + n) }
       let s4 := (List.range 4).foldl (fun (s : State) w => s.bulkMoved w p q n) (x.serveLine c)
       if s4.chBound c 3 then s4.tallyMoved p n else s4) := by
    unfold State.burst
    rw [hcur]
    dsimp only
    rw [← hn]
    show (match (turnTaken c s).dmaRead c ((readDesc bytes).src + moved) n with | (none, s1) => s1 | (some (p, data), s1) => _) = _
    rw [hread]
    dsimp only
    rw [hwrite]
    dsimp only
    rw [if_neg (Nat.not_le.2 hmore)]
    rfl
  obtain ⟨hserved, hkept⟩ := burstServed_kept c p q n
    (((turnTaken c s).memWrite q (s.memBytes p n)).setChan c { (turnTaken c s).chan c with cur := some (bytes, idx, moved + n) })
  rw [hburst]
  constructor
  · rw [hkept]
    show Memory.writeBytes 0 (turnTaken c s).mem.cells q (s.memBytes p n) = _
    rw [hmem]
  · rw [chan_of_dma hserved, chan_setChan]

end

/-! ### Halts -/

theorem latchFault_first {c a kind : Nat} {w : Bool} {s : State} (h : bit (s.reg Reg.ATPU_MSTATUS) 0 = false) :
    (s.latchFault c a w kind).dma.mfault = a ∧ (s.latchFault c a w kind).dma.mfinfo = c + b2n w * 32 + kind * 64 := by
  have hrec (x : State) (d : List Nat) {α : Type} (g : DmaState → α) (hg : ∀ a, g { a with lines := [] } = g a) :
      g ((x.raise Reg.ATPU_MSTATUS 1).record 0x8020 d).dma = g x.dma :=
    ((State.record_frame _ _ _).dmaKept (by decide) g hg).trans (congrArg g ((State.raise_frame _ _ _).dma (by decide)))
  unfold State.latchFault
  rw [h]
  exact ⟨hrec _ _ (·.mfault) fun _ => rfl, hrec _ _ (·.mfinfo) fun _ => rfl⟩

/-- Every channel has given back what it held. -/
def allDropped (s : State) : State := (List.range 32).foldl (fun (s : State) c => s.dropCur c) s

theorem haltDma_eq (c a kind : Nat) (s : State) : s.haltDma c a kind = ({ allDropped s with
    dma := { (allDropped s).dma with halted := true, haltTick := (allDropped s).time.now } } : State).record 0x8030 [c, a, kind] := by
  unfold State.haltDma allDropped
  rfl

/-- A halt gives back what each channel holds; beside that and the halt's own marks, the DMA's registers stand. -/
theorem haltDma_kept {α : Type} {g : DmaState → α}
    (hg : ∀ (a : DmaState) (m : NMap Chan) (l : List Nat) (h : Bool) (n : Nat), g { a with chans := m, lines := l, halted := h, haltTick := n } = g a)
    (c a kind : Nat) (s : State) : g (s.haltDma c a kind).dma = g s.dma := by
  have hdrop (x : State) (d : Nat) : g (x.dropCur d).dma = g x.dma := by
    unfold State.dropCur
    split
    · exact hg x.dma _ x.dma.lines x.dma.halted x.dma.haltTick
    · rfl
  have hall : g (allDropped s).dma = g s.dma := by
    unfold allDropped
    generalize List.range 32 = l
    exact foldl_keep (fun x => g x.dma) hdrop l s
  rw [haltDma_eq, (State.record_frame _ _ _).dmaKept (by decide) g fun a => hg a a.chans [] a.halted a.haltTick, ← hall]
  generalize allDropped s = y
  exact hg y.dma y.dma.chans y.dma.lines true y.time.now

theorem haltDma_halts (c a kind : Nat) (s : State) : (s.haltDma c a kind).dma.halted = true ∧
    (s.haltDma c a kind).dma.haltTick = (s.haltDma c a kind).time.now := by
  rw [haltDma_eq, (State.record_frame _ _ _).dmaKept (by decide) (·.halted) fun _ => rfl,
    (State.record_frame _ _ _).dmaKept (by decide) (·.haltTick) fun _ => rfl, record_time]
  generalize allDropped s = y
  exact ⟨rfl, rfl⟩

/-! ### Folds over the channels -/

/-- A fold in which one element alone acts is that one action. -/
theorem foldl_single {α β : Type} (f : β → α → β) (a : α) (l : List α) (hn : l.Nodup) (hf : ∀ b ∈ l, b ≠ a → ∀ x, f x b = x) (ha : a ∈ l)
    (x : β) : l.foldl f x = f x a := by
  have hidle (l : List α) (h : ∀ b ∈ l, ∀ x, f x b = x) (x : β) : l.foldl f x = x := by
    induction l generalizing x with
    | nil => rfl
    | cons b l ih => exact (ih (fun c hc => h c (List.mem_cons_of_mem _ hc)) _).trans (h b List.mem_cons_self x)
  induction l generalizing x with
  | nil => cases ha
  | cons b l ih =>
    obtain ⟨hb, hl⟩ := List.nodup_cons.1 hn
    rw [List.foldl_cons]
    by_cases h : b = a
    · subst h
      exact hidle l (fun c hc => hf c (List.mem_cons_of_mem _ hc) fun e => hb (e ▸ hc)) _
    · rw [hf b List.mem_cons_self h]
      exact ih hl (fun c hc => hf c (List.mem_cons_of_mem _ hc)) ((List.mem_cons.1 ha).resolve_left (Ne.symm h)) x

/-- Among the 32 channels a power of two names one. -/
theorem bit_two_pow {c d : Nat} (hc : c < 32) (hd : d < 32) : bit (BitVec.ofNat 32 (2 ^ c)) d = decide (d = c) := by
  have hall : ∀ c < 32, ∀ d < 32, bit (BitVec.ofNat 32 (2 ^ c)) d = decide (d = c) := by decide +kernel
  exact hall c hc d hd

/-! ### Lines -/

theorem mem_assertLine (n k : Nat) (s : State) : k ∈ (s.assertLine n).dma.lines ↔ k ∈ s.dma.lines ∨ k = n := by
  unfold State.assertLine
  split
  · rename_i h
    exact ⟨.inl, fun hk => hk.elim id fun e => e ▸ h⟩
  · simp

/-- The lines that a software request asserts, one after another. -/
def requested (v : Word) (ns : List Nat) (s : State) : State :=
  ns.foldl (fun (s : State) n => if bit v n then s.assertLine (32 + n) else s) s

theorem mem_requested (v : Word) (ns : List Nat) (k : Nat) (s : State) :
    k ∈ (requested v ns s).dma.lines ↔ k ∈ s.dma.lines ∨ ∃ n ∈ ns, k = 32 + n ∧ bit v n = true := by
  induction ns generalizing s with
  | nil => simp [requested]
  | cons n ns ih =>
    have hstep : requested v (n :: ns) s = requested v ns (if bit v n then s.assertLine (32 + n) else s) := rfl
    rw [hstep, ih]
    by_cases hb : bit v n = true
    · simp [hb, mem_assertLine, or_assoc]
    · simp [hb]

theorem requested_eq (v : Word) (ns : List Nat) (s : State) :
    requested v ns s = { s with dma := { s.dma with lines := (requested v ns s).dma.lines } } := by
  induction ns generalizing s with
  | nil => rfl
  | cons n ns ih =>
    have hstep : requested v (n :: ns) s = requested v ns (if bit v n then s.assertLine (32 + n) else s) := rfl
    rw [hstep, ih]
    split
    · rw [assertLine_eq]
    · rfl

/-! ### Channel registers -/

theorem chanReg_row : ∀ c < 32, rowIs (chReg Reg.HDMA_CCTRL0 c) .live 0xFFF0C0F8#32 = true := by decide +kernel

section
variable {s : State} (ho : Open s) {c : Nat} (hc : c < 32)
include ho hc

/-- A write of HDMA_CCTRL that its register lets through, on a state with the channels and registers as they stood. -/
theorem writeCctrl_acts (t : Nat) (o : Origin) (v : Word) :
    ∃ x : State, x.dma = s.dma ∧ (∀ a, a ≠ Reg.GCTL_ERR → x.reg a = s.reg a) ∧ (s.advanceTo t).writeCctrl o c v =
      if bit v 0 && !bit v 2 && (List.range 32).any (fun d => d != c && x.chBound d (bits v 13 8)) then x.ignored
      else
        let ok := decide (6 ≤ bits v 19 16 ∧ bits v 19 16 ≤ 12)
        let new := field (bits v 2 0) 2 0 ||| field (bits v 13 8) 13 8
          ||| field (if ok then bits v 19 16 else bits (x.cctrl c) 19 16) 19 16
        let s1 := (if ok then x else x.ignored).setReg (chReg Reg.HDMA_CCTRL0 c) new
        if x.chEn c && !bit v 0 then s1.stopChan c
        else if !x.chEn c && bit v 0 then s1.setChan c { stopped := false, idle := false, cur := none }
        else s1 := by
  have herr : chReg Reg.HDMA_CCTRL0 c ≠ Reg.GCTL_ERR := by simp only [chReg, Reg.HDMA_CCTRL0, Reg.GCTL_ERR]; omega
  obtain ⟨r, x, f, hmd, hx, hexec⟩ := gateWrite_acts (o := o) (t := t) (v := v) (chanReg_row c hc) ho (live_allows ho) herr fun _ s =>
    if bit v 0 && !bit v 2 && (List.range 32).any (fun d => d != c && s.chBound d (bits v 13 8)) then s.ignored
    else
      let ok := decide (6 ≤ bits v 19 16 ∧ bits v 19 16 ≤ 12)
      let new := field (bits v 2 0) 2 0 ||| field (bits v 13 8) 13 8
        ||| field (if ok then bits v 19 16 else bits (s.cctrl c) 19 16) 19 16
      let s1 := (if ok then s else s.ignored).setReg (chReg Reg.HDMA_CCTRL0 c) new
      if s.chEn c && !bit v 0 then s1.stopChan c
      else if !s.chEn c && bit v 0 then s1.setChan c { stopped := false, idle := false, cur := none }
      else s1
  refine ⟨x, f.dma (by decide), fun a ha => ?_, hexec⟩
  obtain rfl | rfl := hx
  · exact reg_advanceTo t s a
  · rw [reg_ignored_ne _ ha, reg_advanceTo]

end

/-- EN of a control word put together from its fields. -/
theorem bit_controlWord (w : Word) (line burst : Nat) :
    bit (field (bits w 2 0) 2 0 ||| field line 13 8 ||| field burst 19 16) 0 = bit w 0 := by
  have hline : bit (field line 13 8) 0 = false := by simp [bit, bits, field]; omega
  have hburst : bit (field burst 19 16) 0 = false := by simp [bit, bits, field]; omega
  have hlow : bit (field (bits w 2 0) 2 0) 0 = bit w 0 := by
    simp only [bit, bits, field, BitVec.toNat_ofNat]
    congr 1
    simp only [eq_iff_iff]
    omega
  rw [bit_or, bit_or, hline, hburst, hlow, Bool.or_false, Bool.or_false]

theorem chBound_of_regs {s u : State} (h : ∀ a, a ≠ Reg.GCTL_ERR → u.reg a = s.reg a) (d line : Nat) :
    u.chBound d line = s.chBound d line := by
  have hreg : u.cctrl d = s.cctrl d := h _ (by simp only [chReg, Reg.HDMA_CCTRL0, Reg.GCTL_ERR]; omega)
  unfold State.chBound State.chEn State.chFree State.chLine
  rw [hreg]

theorem chEn_of_regs {s u : State} (h : ∀ a, a ≠ Reg.GCTL_ERR → u.reg a = s.reg a) (c : Nat) : u.chEn c = s.chEn c := by
  have hreg : u.cctrl c = s.cctrl c := h _ (by simp only [chReg, Reg.HDMA_CCTRL0, Reg.GCTL_ERR]; omega)
  unfold State.chEn
  rw [hreg]

/-- A channel that stops holds no descriptor, and its registers but for HDMA_CHEAD stand. -/
theorem stopChan_stops (c : Nat) (s : State) : (s.stopChan c).chan c = { stopped := true, idle := false, cur := none } ∧
    (s.stopChan c).chEn c = s.chEn c := by
  have hhead (x : State) (idx : Nat) : (x.setChead c idx).cctrl c = x.cctrl c :=
    reg_setReg_ne _ _ (by simp only [chReg, Reg.HDMA_CHEAD0, Reg.HDMA_CCTRL0]; omega)
  have hdrop : ((s.dropCur c).chan c).cur = none ∧ (s.dropCur c).cctrl c = s.cctrl c := by
    unfold State.dropCur
    split
    · exact ⟨by rw [chan_setChan], hhead s _⟩
    · rename_i h
      exact ⟨h, rfl⟩
  unfold State.stopChan
  dsimp only
  rw [chan_setChan, hdrop.1]
  exact ⟨rfl, congrArg (bit · 0) hdrop.2⟩

/-- A channel that stops with a descriptor taken up gives it back. -/
theorem stopChan_chead {c idx moved : Nat} {bytes : List Byte} {s : State} (h : (s.chan c).cur = some (bytes, idx, moved)) (hidx : idx < 2 ^ 16) :
    (s.stopChan c).chead c = idx := by
  have hreg : (s.stopChan c).reg (chReg Reg.HDMA_CHEAD0 c) = field idx 15 0 := by
    show (s.dropCur c).reg (chReg Reg.HDMA_CHEAD0 c) = _
    unfold State.dropCur
    rw [h]
    exact reg_setReg _ _ s
  unfold State.chead
  rw [hreg]
  show (BitVec.ofNat 32 (idx % 2 ^ 16 * 2 ^ 0)).toNat / 2 ^ 0 % 2 ^ 16 = idx
  rw [BitVec.toNat_ofNat]
  omega

section
variable {s : State} (ho : Open s) {c : Nat} (hc : c < 32)
include ho hc

theorem exec_channelEnable {v : Word} (hen : s.chEn c = false) (t : Nat) (o : Origin)
    (hfree : bit v 2 = true ∨ ∀ d, d < 32 → d ≠ c → (s.advanceTo t).chBound d (bits v 13 8) = false) :
    ∃ u, Sys2Proof.Machine.exec (.channelEnable t o c v) s = .next u ∧ u.chEn c = true ∧
      u.chan c = { stopped := false, idle := false, cur := none } := by
  obtain ⟨x, hdma, hreg, hexec⟩ := writeCctrl_acts ho hc t o (v ||| 1)
  have h0 : bit (v ||| 1) 0 = true := bit_or_one v
  have h2 : bit (v ||| 1) 2 = bit v 2 := by rw [bit_or]; exact Bool.or_false _
  have hline : bits (v ||| 1) 13 8 = bits v 13 8 := by rw [bits_or]; exact Nat.or_zero _
  have hadv (a : Nat) (ha : a ≠ Reg.GCTL_ERR) : x.reg a = (s.advanceTo t).reg a := (hreg a ha).trans (reg_advanceTo t s a).symm
  have hclear : (bit (v ||| 1) 0 && !bit (v ||| 1) 2 && (List.range 32).any (fun d => d != c && x.chBound d (bits (v ||| 1) 13 8))) = false := by
    rw [h0, h2, hline]
    obtain h | h := hfree
    · rw [h]
      rfl
    · have hany : (List.range 32).any (fun d => d != c && x.chBound d (bits v 13 8)) = false := by
        rw [List.any_eq_false]
        intro d hd hbound
        simp only [Bool.and_eq_true, bne_iff_ne, ne_eq] at hbound
        rw [chBound_of_regs hadv, h d (List.mem_range.1 hd) hbound.1] at hbound
        exact Bool.false_ne_true hbound.2
      rw [hany]
      exact Bool.and_false _
  rw [hclear, if_neg Bool.false_ne_true] at hexec
  dsimp only at hexec
  rw [chEn_of_regs hreg, hen, h0, if_neg (by decide), if_pos (by decide)] at hexec
  refine ⟨_, congrArg Host.Outcome.next hexec, ?_, chan_setChan _ _ _⟩
  show bit (State.reg (State.setReg _ _ _) _) 0 = true
  rw [reg_setReg, bit_controlWord, h0]

theorem exec_channelDisable (hen : s.chEn c = true) (t : Nat) (o : Origin) (v : Word) :
    ∃ u, Sys2Proof.Machine.exec (.channelDisable t o c v) s = .next u ∧ u.chEn c = false ∧
      (u.chan c).stopped = true ∧ (u.chan c).cur = none ∧
      (∀ bytes idx moved, (s.chan c).cur = some (bytes, idx, moved) → idx < 2 ^ 16 → u.chead c = idx) := by
  obtain ⟨x, hdma, hreg, hexec⟩ := writeCctrl_acts ho hc t o (v &&& ~~~ 1)
  have h0 : bit (v &&& ~~~ 1) 0 = false := bit_and_cleared v _ 0 (by decide)
  rw [h0, Bool.false_and, Bool.false_and, if_neg Bool.false_ne_true] at hexec
  dsimp only at hexec
  rw [chEn_of_regs hreg, hen, if_pos (by decide)] at hexec
  obtain ⟨hchan, hchEn⟩ := stopChan_stops c (((if decide (6 ≤ bits (v &&& ~~~ 1) 19 16 ∧ bits (v &&& ~~~ 1) 19 16 ≤ 12) then x else x.ignored)).setReg
    (chReg Reg.HDMA_CCTRL0 c) (field (bits (v &&& ~~~ 1) 2 0) 2 0 ||| field (bits (v &&& ~~~ 1) 13 8) 13 8
      ||| field (if decide (6 ≤ bits (v &&& ~~~ 1) 19 16 ∧ bits (v &&& ~~~ 1) 19 16 ≤ 12) then bits (v &&& ~~~ 1) 19 16
        else bits (x.cctrl c) 19 16) 19 16))
  refine ⟨_, congrArg Host.Outcome.next hexec, hchEn.trans ?_, by rw [hchan], by rw [hchan], fun bytes idx moved hcur hidx => ?_⟩
  · show bit (State.reg (State.setReg _ _ _) _) 0 = false
    rw [reg_setReg, bit_controlWord, h0]
  · refine stopChan_chead (bytes := bytes) (moved := moved) ?_ hidx
    rw [← hcur]
    refine congrArg (·.cur) (chan_of_dma ?_)
    rw [← hdma]
    show (if _ then x else x.ignored).dma.chans = _
    split <;> rfl

end

/-! ### Kicks and requests -/

/-- One channel's part of a kick. -/
def kicked (v : Word) (s : State) (c : Nat) : State :=
  if bit v c && (s.chan c).cur.isNone then
    let s1 := s.setChan c { s.chan c with idle := false }
    if s1.mayFetch c then s1.fetchDesc c else s
  else s

/-- A write of a register without reserved bits acts on the state as time left it. -/
theorem exec_dmaKick {s : State} (ho : Open s) (t : Nat) (o : Origin) (v : Word) : Sys2Proof.Machine.exec (.dmaKick t o v) s =
    .next (if s.dma.halted then s.advanceTo t else (List.range 32).foldl (kicked v) (s.advanceTo t)) := by
  have hopen := open_advanceTo ho t
  have hrun := gateWrite_row (a := Reg.HDMA_KICK) (w := .live) (res := 0) (o := o) (v := v) (by decide +kernel) hopen (live_allows hopen)
    BitVec.and_zero fun s => if s.dma.halted then s else (List.range 32).foldl (kicked v) s
  rw [advanceTo_dma] at hrun
  exact congrArg Host.Outcome.next hrun

theorem exec_softwareRequest {s : State} (ho : Open s) (t : Nat) (o : Origin) (v : Word) : Sys2Proof.Machine.exec (.softwareRequest t o v) s =
    .next (if s.dma.halted then s.advanceTo t else requested v (List.range 32) (s.advanceTo t)) := by
  have hopen := open_advanceTo ho t
  have hrun := gateWrite_row (a := Reg.HDMA_SWREQ) (w := .live) (res := 0) (o := o) (v := v) (by decide +kernel) hopen (live_allows hopen)
    BitVec.and_zero fun s => if s.dma.halted then s else requested v (List.range 32) s
  rw [advanceTo_dma] at hrun
  exact congrArg Host.Outcome.next hrun

/-- A kick of one channel is that channel's part. -/
theorem kick_one {c : Nat} (hc : c < 32) (s : State) :
    (List.range 32).foldl (kicked (BitVec.ofNat 32 (2 ^ c))) s = kicked (BitVec.ofNat 32 (2 ^ c)) s c := by
  refine foldl_single _ c _ List.nodup_range (fun d hd hne x => ?_) (List.mem_range.2 hc) s
  have hbit : bit (BitVec.ofNat 32 (2 ^ c)) d = false := by
    rw [bit_two_pow hc (List.mem_range.1 hd)]
    exact decide_eq_false hne
  unfold kicked
  rw [hbit]
  rfl

theorem mayFetch_iff {c : Nat} {s : State} : s.mayFetch c = true ↔ s.dmaRuns = true ∧ c < 32 ∧ s.chEn c = true ∧ (s.chan c).stopped = false ∧
    (s.chan c).idle = false ∧ (s.chan c).cur = none := by
  simp [State.mayFetch, and_assoc]

/-- A channel that waits for a kick reads its descriptor. -/
theorem kicked_takes {c p : Nat} (hc : c < 32) {s : State} (hrun : s.dmaRuns = true) (hen : s.chEn c = true)
    (hst : (s.chan c).stopped = false) (hcur : (s.chan c).cur = none)
    (htr : s.translate (s.ringBase c + 32 * (s.chead c % s.ringSize c)) 32 false = .at_ p) (hin : inMemory p 32 = true)
    (hp : s.poisonedIn p 32 = none) (hown : (readDesc (s.memBytes p 32)).own = true) (hbad : (readDesc (s.memBytes p 32)).bad = false) :
    ((kicked (BitVec.ofNat 32 (2 ^ c)) s c).chan c).cur = some (s.memBytes p 32, s.chead c % s.ringSize c, 0) := by
  have hmay : (s.setChan c { s.chan c with idle := false }).mayFetch c = true := by
    rw [mayFetch_iff, chan_setChan]
    exact ⟨hrun, hc, hen, hst, rfl, hcur⟩
  have hkick : kicked (BitVec.ofNat 32 (2 ^ c)) s c = (s.setChan c { s.chan c with idle := false }).fetchDesc c := by
    unfold kicked
    rw [bit_two_pow hc hc, hcur]
    simp only [decide_true, Option.isNone_none, Bool.and_self, if_true]
    rw [if_pos hmay]
  rw [hkick]
  exact (fetchDesc_takes (s := s.setChan c { s.chan c with idle := false }) htr hin hp hown hbad).1

theorem exec_dmaKick_takes {c p : Nat} {s : State} (ho : Open s) (hc : c < 32) (hrun : s.dmaRuns = true) (hen : s.chEn c = true)
    (hst : (s.chan c).stopped = false) (hcur : (s.chan c).cur = none)
    (htr : s.translate (s.ringBase c + 32 * (s.chead c % s.ringSize c)) 32 false = .at_ p) (hin : inMemory p 32 = true)
    (hp : s.poisonedIn p 32 = none) (hown : (readDesc (s.memBytes p 32)).own = true) (hbad : (readDesc (s.memBytes p 32)).bad = false)
    (t : Nat) (o : Origin) : ∃ u, Sys2Proof.Machine.exec (.dmaKick t o (BitVec.ofNat 32 (2 ^ c))) s = .next u ∧
      (u.chan c).cur = some (s.memBytes p 32, s.chead c % s.ringSize c, 0) := by
  have hkick := exec_dmaKick ho t o (BitVec.ofNat 32 (2 ^ c))
  have hhalted : s.dma.halted = false := by
    simp only [State.dmaRuns, Bool.and_eq_true, Bool.not_eq_true'] at hrun
    exact hrun.1.2
  obtain ⟨hbase, hsize, hhead⟩ := ringPlace_of_regs (c := c) (s := s) (u := s.advanceTo t) fun a => reg_advanceTo t s _
  have htaken := kicked_takes (s := s.advanceTo t) (p := p) hc ((dmaRuns_advanceTo t s).trans hrun) ((chEn_advanceTo t c s).trans hen)
    ((congrArg (·.stopped) (chan_advanceTo t c s)).trans hst) ((congrArg (·.cur) (chan_advanceTo t c s)).trans hcur) (by rw [hbase, hsize, hhead, translate_advanceTo, htr]) hin
    ((poisonedIn_of_mem (advanceTo_mem t s)).trans hp) (by rw [memBytes_advanceTo]; exact hown) (by rw [memBytes_advanceTo]; exact hbad)
  rw [memBytes_advanceTo, hhead, hsize] at htaken
  rw [hhalted, if_neg Bool.false_ne_true, kick_one hc] at hkick
  exact ⟨_, hkick, htaken⟩

/-! ### Resume -/

/-- RESUME of a halted engine whose fault is cleared ends the halt. -/
theorem resumeDma_resumes {s : State} (hh : s.dma.halted = true) (h0 : bit (s.reg Reg.ATPU_MSTATUS) 0 = false) :
    s.resumeDma.dma.halted = false := by
  unfold State.resumeDma
  rw [h0, hh]
  simp only [Bool.false_eq_true, if_false, Bool.not_true]
  rw [(State.record_frame _ _ _).dmaKept (by decide) (·.halted) fun _ => rfl,
    (State.tallyRestart_frame _).dmaKept (by decide) (·.halted) fun _ => rfl]

theorem exec_dmaResume {s : State} (ho : Open s) (hh : s.dma.halted = true) (h0 : bit (s.reg Reg.ATPU_MSTATUS) 0 = false) (t : Nat) (o : Origin)
    (v : Word) : ∃ u, Sys2Proof.Machine.exec (.dmaResume t o v) s = .next u ∧ u.dma.halted = false := by
  obtain ⟨r, x, f, hmd, hx, hexec⟩ := gateWrite_acts (a := Reg.HDMA_GCTL) (w := .live) (res := 0xFFFFFFFC#32) (o := o) (t := t) (v := v ||| 2)
    (by decide +kernel) ho (live_allows ho) (by decide) fun _ s =>
      let s1 :=
        if bit (v ||| 2) 0 = bit (s.reg Reg.HDMA_GCTL) 0 then s
        else if s.md.mode = .boot ∨ s.md.mode = .bench then s.setReg Reg.HDMA_GCTL ((v ||| 2) &&& 1)
        else s.ignored
      if bit (v ||| 2) 1 then s1.resumeDma else s1
  have h1 : bit (v ||| 2) 1 = true := by
    rw [bit_or]
    exact Bool.or_true _
  have hxreg : x.reg Reg.ATPU_MSTATUS = s.reg Reg.ATPU_MSTATUS := by
    obtain rfl | rfl := hx
    · exact reg_advanceTo t s _
    · rw [reg_ignored_ne _ (by decide), reg_advanceTo]
  refine ⟨_, congrArg Host.Outcome.next hexec, ?_⟩
  dsimp only
  rw [if_pos h1]
  have hxhalted : x.dma.halted = true := by rw [f.dma (by decide), hh]
  refine resumeDma_resumes ?_ ?_
  · split
    · exact hxhalted
    · split <;> exact hxhalted
  · split
    · rw [hxreg, h0]
    · split
      · rw [reg_setReg_ne _ _ (by decide), hxreg, h0]
      · rw [reg_ignored_ne _ (by decide), hxreg, h0]

/-- Settles O27: burst, descriptor, halt and resume, kicks and requests, and the channel's own register. -/
theorem dmaMovesBurstsAndHalts : Obligations.DmaMovesBurstsAndHalts := by
  refine ⟨fun t c idx moved p q bytes s hnext hcur => ?_, fun t c p s hmay htr hin hp hown hbad => ?_, fun t c a kind w s hrun h0 => ?_,
    fun t o v s ho hh h0 => exec_dmaResume ho hh h0 t o v, fun t o v s ho => ⟨fun hh => ?_, fun c p hc hv hrun hen hst hcur htr hin hp hown hbad => ?_,
    fun hh => ?_⟩, fun t c o v s ho hc => ⟨fun hen hfree => exec_channelEnable ho hc hen t o hfree, fun hen => exec_channelDisable ho hc hen t o v⟩⟩
  · intro d n hmore hsrc hpm hpoison hdst hqm
    have hexec : Sys2Proof.Machine.exec (.dmaBurst t c) s = .next ((s.advanceTo t).burst c) := by
      show execDmaBurst t c s = _
      simp [execDmaBurst, hnext]
    have hchBurst : (s.advanceTo t).chBurst c = s.chBurst c := congrArg (fun w => 2 ^ bits w 19 16) (reg_advanceTo t s _)
    obtain ⟨hcells, hchan⟩ := burst_moves (s := s.advanceTo t) (n := n) ((congrArg (·.cur) (chan_advanceTo t c s)).trans hcur) (by rw [hchBurst]) hmore
      ((translate_advanceTo _ _ _ _ _).trans hsrc) hpm ((poisonedIn_of_mem (advanceTo_mem t s)).trans hpoison)
      ((translate_advanceTo _ _ _ _ _).trans hdst) hqm
    exact ⟨_, hexec, by rw [hcells, advanceTo_mem, memBytes_advanceTo], hchan⟩
  · have hexec : Sys2Proof.Machine.exec (.descriptorFetch t c) s = .next ((s.advanceTo t).fetchDesc c) := by
      show execDescriptorFetch t c s = _
      simp [execDescriptorFetch, hmay]
    obtain ⟨hbase, hsize, hhead⟩ := ringPlace_of_regs (c := c) (s := s) (u := s.advanceTo t) fun a => reg_advanceTo t s _
    obtain ⟨hchan, hmem⟩ := fetchDesc_takes (s := s.advanceTo t) (c := c) (p := p)
      (by rw [hbase, hsize, hhead, translate_advanceTo, htr]) hin ((poisonedIn_of_mem (advanceTo_mem t s)).trans hp)
      (by rw [memBytes_advanceTo]; exact hown) (by rw [memBytes_advanceTo]; exact hbad)
    exact ⟨_, hexec, by rw [hchan, memBytes_advanceTo, hhead, hsize], hmem.trans (advanceTo_mem t s)⟩
  · have hrun' : (s.advanceTo t).dmaRuns = true := by simpa [State.dmaRuns, reg_advanceTo] using hrun
    have hexec : Sys2Proof.Machine.exec (.busError t c a w kind) s = .next (((s.advanceTo t).latchFault c a w kind).haltDma c a kind) := by
      show Host.Outcome.next (if (s.advanceTo t).dmaRuns then _ else _) = _
      rw [if_pos hrun']
      rfl
    obtain ⟨hfault, hinfo⟩ := latchFault_first (c := c) (a := a) (kind := kind) (w := w) (s := s.advanceTo t) (by rwa [reg_advanceTo])
    obtain ⟨hhalted, htick⟩ := haltDma_halts c a kind ((s.advanceTo t).latchFault c a w kind)
    refine ⟨_, hexec, hhalted, htick, ?_, ?_, ?_⟩
    · rw [haltDma_kept (g := (·.mfault)) fun _ _ _ _ _ => rfl, hfault]
    · rw [haltDma_kept (g := (·.mfinfo)) fun _ _ _ _ _ => rfl, hinfo]
    · rw [(State.haltDma_frame _ _ _ _).mem (by decide), (State.latchFault_frame _ _ _ _ _).mem (by decide), advanceTo_mem]
  · have hkick := exec_dmaKick ho t o v
    have hreq := exec_softwareRequest ho t o v
    rw [hh, if_pos rfl] at hkick hreq
    exact ⟨hkick, hreq⟩
  · subst hv
    exact exec_dmaKick_takes ho hc hrun hen hst hcur htr hin hp hown hbad t o
  · have hreq := exec_softwareRequest ho t o v
    rw [hh, if_neg Bool.false_ne_true] at hreq
    refine ⟨_, hreq, fun n => ?_, ?_⟩
    · rw [mem_requested, advanceTo_dma]
      refine or_congr_right ⟨?_, ?_⟩
      · rintro ⟨k, hk, rfl, hbit⟩
        have := List.mem_range.1 hk
        exact ⟨by omega, by omega, by rwa [Nat.add_sub_cancel_left]⟩
      · rintro ⟨h32, h64, hbit⟩
        exact ⟨n - 32, List.mem_range.2 (by omega), by omega, hbit⟩
    · rw [requested_eq]
      exact after_advanceTo (P := fun x => ∀ l, ({ x with dma := { x.dma with lines := l } } : State) =
        { s with time := x.time, dma := { s.dma with lines := l } }) t (fun _ _ => rfl) _

end Sys2Proof.Proofs
end

section
/-!
SUPPORT. The buffer pools (R289 to R302): requests, frees, batches and the sweep; and scrub.
-/

namespace Sys2Proof.Proofs

open Sys2Proof.Machine Sys2Proof.Safety Sys2Proof.Laws

theorem record_mem (code : Nat) (data : List Nat) (s : State) : (s.record code data).mem = s.mem :=
  (State.record_frame code data s).mem (by decide)

theorem recordOnce_mem (code item : Nat) (data : List Nat) (s : State) : (s.recordOnce code item data).mem = s.mem :=
  (State.recordOnce_frame code item data s).mem (by decide)

theorem count_mem (i : Nat) (s : State) : (s.count i).mem = s.mem := (State.count_frame i s).mem (by decide)

/-! ### Scrub -/

/-- A corrected word's count and event. -/
def errorNoted (a : Nat) (s : State) : State :=
  ((s.raise Reg.POOL_STATUS 0x20).count (if inSram a then 0 else 1)).recordOnce 0x8001 0 [a / 8 * 8]

/-- A word outside HBM that is corrected is noted, and nothing is retired. -/
theorem corrected_sram {a : Nat} (h : inHbm a = false) (s : State) : bit ((s.corrected a).reg Reg.POOL_STATUS) 5 = true ∧
    (s.corrected a).mem = { s.mem with ces := s.mem.ces ++ [(a / 8 * 8, (s.corrected a).time.now)] } := by
  have hstop (x y : State) (b : Bool) : (if inHbm a && b then x else y) = y := by rw [h]; rfl
  have hrun : s.corrected a = { errorNoted a s with mem := { (errorNoted a s).mem with
      ces := (errorNoted a s).mem.ces ++ [(a / 8 * 8, (errorNoted a s).time.now)] } } := hstop _ _ _
  have hreg : (errorNoted a s).reg Reg.POOL_STATUS = s.reg Reg.POOL_STATUS ||| 0x20 := by
    unfold errorNoted
    rw [recordOnce_reg _ _ _ _ (by decide) (by decide), count_reg, reg_raise]
    rfl
  have hmem : (errorNoted a s).mem = s.mem := (recordOnce_mem _ _ _ _).trans (count_mem _ _)
  rw [hrun, ← hmem]
  refine ⟨?_, rfl⟩
  show bit ((errorNoted a s).reg Reg.POOL_STATUS) 5 = true
  rw [hreg, bit_or]
  exact Bool.or_true _

/-- A line outside the carve-outs that is poisoned is noted; nothing that stood in it is lost. -/
theorem poisonLine_plain {a : Nat} {s : State} (hp : s.mem.poison.contains (a / 64) = false)
    (hr : s.mem.rewritten.contains (a / 64) = false) (hc : s.carveOf a = none) : bit ((s.poisonLine a none).reg Reg.POOL_STATUS) 6 = true ∧
    (s.poisonLine a none).mem = { s.mem with poison := s.mem.poison ++ [a / 64] } := by
  have hrun : s.poisonLine a none =
      ((({ s with mem := { s.mem with poison := s.mem.poison ++ [a / 64] } } : State).raise Reg.POOL_STATUS 0x40).count 2).record 0x8002
        [64 * (a / 64)] := by
    have hmem (x : State) : (((x.raise Reg.POOL_STATUS 0x40).count 2).record 0x8002 [64 * (a / 64)]).mem = x.mem :=
      (record_mem _ _ _).trans (count_mem _ _)
    have himage (x : State) : (((x.raise Reg.POOL_STATUS 0x40).count 2).record 0x8002 [64 * (a / 64)]).carveOf a = x.carveOf a := by
      unfold State.carveOf
      rw [(State.record_frame _ _ _).image (by decide), (State.count_frame _ _).image (by decide)]
      rfl
    have hc' : State.carveOf { s with mem := { s.mem with poison := s.mem.poison ++ [a / 64] } } a = none := hc
    simp only [State.poisonLine, hp, Bool.false_eq_true, if_false, himage, hc', hmem, hr]
  rw [hrun]
  refine ⟨?_, (record_mem _ _ _).trans (count_mem _ _)⟩
  rw [record_reg _ _ _ (by decide) (by decide), count_reg, reg_raise, bit_or]
  exact Bool.or_true _

/-! ### Requests -/

theorem answer_of_mem {own size : Nat} {larger : Bool} {s u : State} (h : u.mem = s.mem) : u.answer own size larger = s.answer own size larger := by
  have howner (o : Nat) : u.owner o = s.owner o := by unfold State.owner; rw [h]
  have hjudge (n p : Nat) : u.judgeRequest own larger n p = s.judgeRequest own larger n p := by
    induction n generalizing p with
    | zero => rfl
    | succ n ih => simp only [State.judgeRequest, ih, h, howner, State.freeUnits, State.floorsOwed] <;> rfl
  unfold State.answer
  rw [hjudge]

section
variable {own size : Nat} {larger : Bool} {x : Pool} {s : State} (hsize : size ≠ 0) (hmax : size ≤ 1048576) (hown : ownerValid own = true)
  (hx : NMap.find s.mem.pools (poolFor size) = some x)
include hsize hmax hown hx

/-- The answer of a request that is valid, by the first pool that fits. -/
theorem answer_valid : s.answer own size larger =
    if x.free = 0 then (if larger && decide (poolFor size < 4) then s.judgeRequest own larger 4 (poolFor size + 1) else .empty (poolFor size))
    else if (s.owner own).quota < (s.owner own).use + x.size / 512 then .quota
    else if s.freeUnits < x.size / 512 + s.floorsOwed own then .empty (poolFor size)
    else match x.stack with
      | [] => .pending
      | a :: _ => .granted (poolFor size) a := by
  have hvalid : ¬ (size = 0 ∨ 1048576 < size ∨ !ownerValid own) := by
    simp only [hown, Bool.not_true, Bool.false_eq_true, or_false]
    omega
  unfold State.answer
  rw [if_neg hvalid, State.judgeRequest, hx] <;> rfl

end

theorem answer_invalid {own size : Nat} {larger : Bool} {s : State} (h : ¬ (size ≠ 0 ∧ size ≤ 1048576 ∧ ownerValid own = true)) :
    s.answer own size larger = .invalid := by
  unfold State.answer
  rw [if_pos]
  by_contra hne
  simp only [not_or, Bool.not_eq_true'] at hne
  exact h ⟨hne.1, Nat.not_lt.1 hne.2.1, by simpa using hne.2.2⟩

/-- What a request leaves: its answer in the path's grant, over what the answer did. -/
theorem requestFor_mem (path own size : Nat) (larger : Bool) (s : State) :
    ∃ w, (s.requestFor path own size larger).mem = { (s.grant own (s.answer own size larger)).mem with
      grants := NMap.put (s.grant own (s.answer own size larger)).mem.grants path (s.answer own size larger).word, waiting := w } := by
  have hs2 : (if s.answer own size larger = .quota then (s.grant own (s.answer own size larger)).count (ctrPool (s.quotaPool size) 3)
      else s.grant own (s.answer own size larger)).mem = (s.grant own (s.answer own size larger)).mem := by
    split
    · exact count_mem _ _
    · rfl
  unfold State.requestFor
  dsimp only
  rw [hs2]
  exact ⟨_, rfl⟩

theorem requestFor_reg (path own size : Nat) (larger : Bool) (a : Nat) (s : State) :
    (s.requestFor path own size larger).reg a = (s.grant own (s.answer own size larger)).reg a := by
  show (if _ then _ else _ : State).reg a = _
  split
  · exact count_reg _ _ _
  · rfl

theorem requestFor_time (path own size : Nat) (larger : Bool) (s : State) : (s.requestFor path own size larger).time = s.time :=
  (State.requestFor_frame path own size larger s).time (by decide)

theorem grant_empty_mem (own p : Nat) (s : State) : (s.grant own (.empty p)).mem = s.mem :=
  (recordOnce_mem _ _ _ _).trans (count_mem _ _)

theorem grant_empty_reg (own p : Nat) (s : State) : (s.grant own (.empty p)).reg Reg.POOL_STATUS = s.reg Reg.POOL_STATUS ||| 1 := by
  show (State.recordOnce _ _ _ _).reg _ = _
  rw [recordOnce_reg _ _ _ _ (by decide) (by decide), count_reg, reg_raise]
  rfl

theorem grant_quota_mem (own : Nat) (s : State) : (s.grant own .quota).mem = { s.mem with
    owners := NMap.put s.mem.owners own { s.owner own with held := true } } := record_mem _ _ _

theorem grant_quota_reg (own : Nat) (s : State) : (s.grant own .quota).reg Reg.POOL_STATUS = s.reg Reg.POOL_STATUS ||| 2 := by
  show (State.record _ _ _).reg _ = _
  rw [record_reg _ _ _ (by decide) (by decide)]
  exact reg_raise _ _ s

/-- A grant pops the pool's stack, tags the buffer and counts its units for the owner. -/
theorem grant_granted_mem (own p a : Nat) (s : State) : (s.grant own (.granted p a)).mem = { s.mem with
    pools := NMap.upd (NMap.upd s.mem.pools p (fun x => { x with stack := x.stack.drop 1 })) p (Pool.balance 8)
    owners := NMap.put s.mem.owners own { s.owner own with
      use := (s.owner own).use + poolSizes.getD p 0 / 512, granted := s.time.now }
    bufs := NMap.put s.mem.bufs a { owner := own, state := 1, tick := s.time.now, pool := p } } := by
  unfold State.grant State.balance State.updPool
  dsimp only
  rw [count_mem]
  rfl

/-- Starting batches moves no buffer. -/
theorem balance_lists (n : Nat) (x : Pool) : (Pool.balance n x).stack = x.stack ∧ (Pool.balance n x).chains = x.chains ∧
    (Pool.balance n x).lostChain = x.lostChain := by
  induction n generalizing x with
  | zero => exact ⟨rfl, rfl, rfl⟩
  | succ n ih =>
    unfold Pool.balance
    split
    · exact ⟨rfl, rfl, rfl⟩
    · split
      · exact ih _
      · split
        · exact ih _
        · exact ⟨rfl, rfl, rfl⟩

/-- The state in which a write of a pool register acts: time has moved, and reserved bits may be flagged. -/
structure PoolAsked (s x : State) : Prop where
  mem : x.mem = s.mem
  path : ∀ o a, x.pathReg o a = s.pathReg o a
  staged : ∀ o a, x.staged o a = s.staged o a

theorem poolAsked_of {t : Nat} {s x : State} (f : Frame 5 s x) (hx : x = s.advanceTo t ∨ x = (s.advanceTo t).ignored) : PoolAsked s x := by
  have hpath : x.regs.path = s.regs.path ∧ x.regs.staged = s.regs.staged := by
    obtain rfl | rfl := hx
    · rw [advanceTo_regs]
      exact ⟨rfl, rfl⟩
    · show (s.advanceTo t).regs.path = _ ∧ (s.advanceTo t).regs.staged = _
      rw [advanceTo_regs]
      exact ⟨rfl, rfl⟩
  exact ⟨f.mem (by decide), fun o a => congrArg (fun m => NMap.getD m _ 0) hpath.1, fun o a => congrArg (fun m => NMap.getD m _ 0) hpath.2⟩

/-- A request that its register lets through is judged. -/
theorem exec_bufferRequest {s : State} (ho : Open s) (t : Nat) (o : Origin) (v : Word) :
    ∃ x, PoolAsked s x ∧ Sys2Proof.Machine.exec (.bufferRequest t o v) s =
      .next (x.requestFor (pathCode o) (bits (s.pathReg o Reg.POOL_REQOWN) 15 0) (bits v 20 0) (bit v 21)) := by
  obtain ⟨r, x, f, -, hx, hexec⟩ := gateWrite_acts (a := Reg.POOL_REQ) (w := .any) (res := 0xFFC00000#32) (o := o) (t := t) (v := v)
    (by decide +kernel) ho rfl (by decide) fun _ s =>
      s.requestFor (pathCode o) (bits (s.pathReg o Reg.POOL_REQOWN) 15 0) (bits v 20 0) (bit v 21)
  have hasked := poolAsked_of f hx
  rw [hasked.path] at hexec
  exact ⟨x, hasked, congrArg Host.Outcome.next hexec⟩

section
variable {path own size : Nat} {larger : Bool} {s x : State} (h : PoolAsked s x)
include h

/-- A request that is refused as invalid or stays pending changes no pool. -/
theorem requestFor_answered {a : Answer} (ha : s.answer own size larger = a) (hmem : (x.grant own a).mem = x.mem) :
    NMap.find (x.requestFor path own size larger).mem.grants path = some a.word ∧
      (x.requestFor path own size larger).mem.pools = s.mem.pools := by
  have ha' : x.answer own size larger = a := (answer_of_mem h.mem).trans ha
  obtain ⟨w, hw⟩ := requestFor_mem path own size larger x
  rw [ha', hmem, h.mem] at hw
  rw [hw]
  exact ⟨find_put_self _ _ _, rfl⟩

theorem requestFor_empty {p : Nat} (ha : s.answer own size larger = .empty p) :
    bit ((x.requestFor path own size larger).reg Reg.POOL_STATUS) 0 = true := by
  rw [requestFor_reg, answer_of_mem h.mem, ha, grant_empty_reg, bit_or]
  exact Bool.or_true _

theorem requestFor_quota (ha : s.answer own size larger = .quota) : NMap.find (x.requestFor path own size larger).mem.grants path = some (0, 0, 3) ∧
    (x.requestFor path own size larger).mem.pools = s.mem.pools ∧
    bit ((x.requestFor path own size larger).reg Reg.POOL_STATUS) 1 = true ∧ ((x.requestFor path own size larger).owner own).held = true := by
  have ha' : x.answer own size larger = .quota := (answer_of_mem h.mem).trans ha
  obtain ⟨w, hw⟩ := requestFor_mem path own size larger x
  rw [ha', grant_quota_mem, h.mem] at hw
  refine ⟨by rw [hw]; exact find_put_self _ _ _, by rw [hw], ?_, ?_⟩
  · rw [requestFor_reg, ha', grant_quota_reg, bit_or]
    exact Bool.or_true _
  · unfold State.owner
    rw [hw]
    dsimp only
    rw [getD_put_self]

theorem requestFor_granted {p a : Nat} {y : Pool} {rest : List Nat} (ha : s.answer own size larger = .granted p a)
    (hy : NMap.find s.mem.pools p = some y) (hstack : y.stack = a :: rest) :
    NMap.find (x.requestFor path own size larger).mem.grants path = some (a, p, 0) ∧
    NMap.find (x.requestFor path own size larger).mem.bufs a =
      some { owner := own, state := 1, tick := (x.requestFor path own size larger).time.now, pool := p } ∧
    ((x.requestFor path own size larger).owner own).use = (s.owner own).use + poolSizes.getD p 0 / 512 ∧
    (NMap.find (x.requestFor path own size larger).mem.pools p).map (·.stack) = some rest := by
  have ha' : x.answer own size larger = .granted p a := (answer_of_mem h.mem).trans ha
  have howner : x.owner own = s.owner own := by unfold State.owner; rw [h.mem]
  obtain ⟨w, hw⟩ := requestFor_mem path own size larger x
  rw [ha', grant_granted_mem, h.mem, howner] at hw
  refine ⟨by rw [hw]; exact find_put_self _ _ _, ?_, ?_, ?_⟩
  · rw [hw, requestFor_time]
    exact find_put_self _ _ _
  · rw [State.owner, hw]
    dsimp only
    rw [getD_put_self]
  · rw [hw]
    dsimp only
    rw [find_upd, if_pos rfl, find_upd, if_pos rfl, hy]
    show some (Pool.balance 8 _).stack = _
    rw [(balance_lists _ _).1]
    show some (y.stack.drop 1) = _
    rw [hstack]
    rfl

end

/-! ### Frees -/

/-- Without a request that waits, serving those that wait does nothing. -/
theorem serveWaiting_none {s : State} (h : s.mem.waiting = []) : s.serveWaiting = s := by
  unfold State.serveWaiting
  rw [h]
  rfl

/-- A quantity of the memory that the pools and the bytes do not enter. -/
def PoolFree {α : Type} (g : MemState → α) : Prop :=
  ∀ (m : MemState) (c : List Host.Cell) (p r : List Nat) (q : NMap Pool), g { m with cells := c, poison := p, rewritten := r, pools := q } = g m

theorem PoolFree.updPool {α : Type} {g : MemState → α} (hg : PoolFree g) (p : Nat) (f : Pool → Pool) (s : State) :
    g (s.updPool p f).mem = g s.mem := hg s.mem s.mem.cells s.mem.poison s.mem.rewritten _

theorem PoolFree.linkChain {α : Type} {g : MemState → α} (hg : PoolFree g) (p last : Nat) (as : List Nat) (s : State) :
    g (State.linkChain p last as s).mem = g s.mem := by
  induction as generalizing s with
  | nil => rfl
  | cons a as ih => exact (ih _).trans (hg s.mem _ _ _ s.mem.pools)

theorem PoolFree.ontoChain {α : Type} {g : MemState → α} (hg : PoolFree g) (p c : Nat) (run : List Nat) (s : State) :
    g (s.ontoChain p c run).mem = g s.mem := by
  unfold State.ontoChain
  split
  · rfl
  · exact (hg.updPool _ _ _).trans (hg.linkChain _ _ _ s)

theorem PoolFree.spill {α : Type} {g : MemState → α} (hg : PoolFree g) (p : Nat) (s : State) : g (s.spill p).mem = g s.mem := by
  unfold State.spill
  split
  · rfl
  · dsimp only
    rw [count_mem]
    exact (hg.ontoChain _ _ _ _).trans (hg.updPool _ _ s)

/-- A buffer that leaves its owner, before it returns to its pool. -/
def takenBack (a : Nat) (b : Buf) (p : Nat) (s : State) : State :=
  (({ s with mem := { s.mem with bufs := NMap.del s.mem.bufs a } } : State).updOwner b.owner (fun o =>
    { o with use := o.use - poolSizes.getD p 0 / 512 })).count (ctrPool p 1)

theorem takenBack_mem (a : Nat) (b : Buf) (p : Nat) (s : State) : (takenBack a b p s).mem = { s.mem with
    bufs := NMap.del s.mem.bufs a
    owners := NMap.put s.mem.owners b.owner { s.owner b.owner with use := (s.owner b.owner).use - poolSizes.getD p 0 / 512 } } :=
  count_mem _ _

/-- A stack with no room spills first. -/
def roomMade (p : Nat) (s : State) : State :=
  match NMap.find s.mem.pools p with
  | some x => if 8192 ≤ x.stack.length then s.spill p else s
  | none => s

theorem PoolFree.roomMade {α : Type} {g : MemState → α} (hg : PoolFree g) (p : Nat) (s : State) : g (roomMade p s).mem = g s.mem := by
  unfold Proofs.roomMade
  split
  · split
    · exact hg.spill _ _
    · rfl
  · rfl

theorem release_eq (a p : Nat) (b : Buf) (s : State) : s.release a p b =
    if (takenBack a b p s).onRetiredPage a (poolSizes.getD p 0) then (takenBack a b p s).withdraw a p
    else (((roomMade p (takenBack a b p s)).updPool p (fun x => { x with stack := a :: x.stack })).balance p).serveWaiting := rfl

/-- A buffer on no retired page returns to its pool: its tag goes, and its owner's units with it. -/
theorem release_returns {a p : Nat} {b : Buf} {s : State} (hr : s.onRetiredPage a (poolSizes.getD p 0) = false) (hw : s.mem.waiting = []) :
    NMap.find (s.release a p b).mem.bufs a = none ∧
      ((s.release a p b).owner b.owner).use = (s.owner b.owner).use - poolSizes.getD p 0 / 512 := by
  have hretired : (takenBack a b p s).onRetiredPage a (poolSizes.getD p 0) = false := by
    unfold State.onRetiredPage
    rw [takenBack_mem]
    exact hr
  have hkept {α : Type} (g : MemState → α) (hg : PoolFree g) :
      g (((roomMade p (takenBack a b p s)).updPool p (fun x => { x with stack := a :: x.stack })).balance p).mem = g (takenBack a b p s).mem :=
    (hg.updPool _ _ _).trans ((hg.updPool _ _ _).trans (hg.roomMade _ _))
  rw [release_eq, hretired, if_neg Bool.false_ne_true]
  rw [serveWaiting_none ((hkept (·.waiting) fun _ _ _ _ _ => rfl).trans (by rw [takenBack_mem]; exact hw))]
  constructor
  · rw [hkept (·.bufs) fun _ _ _ _ _ => rfl, takenBack_mem]
    exact (find_del _ _ _).trans (if_pos rfl)
  · unfold State.owner
    rw [hkept (·.owners) fun _ _ _ _ _ => rfl, takenBack_mem]
    dsimp only
    rw [getD_put_self]
    rfl

theorem cutQuotas_withdrawn (os : List Nat) (n : Nat) (s : State) : (State.cutQuotas os n s).mem.withdrawn = s.mem.withdrawn := by
  induction os generalizing n s with
  | nil => rfl
  | cons o os ih =>
    unfold State.cutQuotas
    split
    · rfl
    · exact ih _ _

/-- A buffer on a retired page is withdrawn. -/
theorem release_withdraws {a p : Nat} {b : Buf} {s : State} (hr : s.onRetiredPage a (poolSizes.getD p 0) = true) :
    a ∈ (s.release a p b).mem.withdrawn := by
  have hretired : (takenBack a b p s).onRetiredPage a (poolSizes.getD p 0) = true := by
    unfold State.onRetiredPage
    rw [takenBack_mem]
    exact hr
  rw [release_eq, if_pos hretired]
  unfold State.withdraw
  dsimp only
  rw [cutQuotas_withdrawn]
  exact List.mem_append_right _ (List.mem_singleton.2 rfl)

theorem freeCause_of_mem {a own : Nat} {s u : State} (h : u.mem = s.mem) : u.freeCause a own = s.freeCause a own := by
  unfold State.freeCause State.poolOf
  rw [h]

/-- A free that is ignored is counted and recorded, and changes no memory. -/
theorem freeBuffer_ignored {a own c : Nat} {s : State} (h : s.freeCause a own = some c) :
    (s.freeBuffer a own).mem = s.mem ∧ bit ((s.freeBuffer a own).reg Reg.POOL_STATUS) 3 = true := by
  have hnoted : ((s.raise Reg.POOL_STATUS 8).record 0x8014 [own, a, Config.itemCode 0x8014 c]).mem = s.mem ∧
      bit (((s.raise Reg.POOL_STATUS 8).record 0x8014 [own, a, Config.itemCode 0x8014 c]).reg Reg.POOL_STATUS) 3 = true := by
    refine ⟨record_mem _ _ _, ?_⟩
    rw [record_reg _ _ _ (by decide) (by decide), reg_raise, bit_or]
    exact Bool.or_true _
  unfold State.freeBuffer
  rw [h]
  dsimp only
  split
  · rw [count_mem, count_reg]
    exact hnoted
  · exact hnoted

/-- The owner of a free that is not ignored is the buffer's. -/
theorem freeCause_none {a own : Nat} {b : Buf} {s : State} (h : s.freeCause a own = none) (hb : NMap.find s.mem.bufs a = some b) :
    b.owner = own := by
  unfold State.freeCause at h
  split at h
  · cases h
  · rw [hb] at h
    by_contra hne
    simp only [hne, ne_eq, not_false_eq_true, if_true] at h
    split at h
    · cases h
    · split at h <;> cases h

theorem freeBuffer_returns {a own : Nat} {b : Buf} {s : State} (h : s.freeCause a own = none) (hb : NMap.find s.mem.bufs a = some b) :
    s.freeBuffer a own = s.release a b.pool b := by
  unfold State.freeBuffer
  rw [h, hb]

theorem exec_bufferFree {s : State} (ho : Open s) (t : Nat) (o : Origin) (v : Word) :
    ∃ x, PoolAsked s x ∧ Sys2Proof.Machine.exec (.bufferFree t o v) s =
      .next (x.freeBuffer ((s.staged o Reg.POOL_FREE_LO).toNat + bits v 7 0 * 2 ^ 32) (bits v 31 16)) := by
  obtain ⟨r, x, f, -, hx, hexec⟩ := gateWrite_acts (a := Reg.POOL_FREE_HI) (w := .any) (res := 0x0000FF00#32) (o := o) (t := t) (v := v)
    (by decide +kernel) ho rfl (by decide) fun _ s =>
      s.freeBuffer ((s.staged o Reg.POOL_FREE_LO).toNat + bits v 7 0 * 2 ^ 32) (bits v 31 16)
  have hasked := poolAsked_of f hx
  rw [hasked.staged] at hexec
  exact ⟨x, hasked, congrArg Host.Outcome.next hexec⟩

/-! ### Batches between stacks and chains -/

theorem linkChain_pools (p last : Nat) (as : List Nat) (s : State) : (State.linkChain p last as s).mem.pools = s.mem.pools := by
  induction as generalizing s with
  | nil => rfl
  | cons a as ih => exact ih _

section
variable {p : Nat} {x : Pool} {s : State} (h : NMap.find s.mem.pools p = some x)
include h

theorem updPool_pool (f : Pool → Pool) : NMap.find (s.updPool p f).mem.pools p = some (f x) := by
  unfold State.updPool
  dsimp only
  rw [find_upd, if_pos rfl, h]
  rfl

theorem balance_pool : ∃ y, NMap.find (s.balance p).mem.pools p = some y ∧ y.stack = x.stack ∧ y.chains = x.chains ∧
    y.lostChain = x.lostChain := ⟨_, updPool_pool h _, balance_lists 8 x⟩

theorem ontoChain_pool (c : Nat) (run : List Nat) : NMap.find (s.ontoChain p c run).mem.pools p =
    some { x with chains := x.chains.set c (run ++ x.chains.getD c []) } := by
  unfold State.ontoChain
  rw [h]
  exact updPool_pool (by rw [linkChain_pools]; exact h) _

theorem spill_pool : NMap.find (s.spill p).mem.pools p = some { x with
    stack := x.stack.take (x.stack.length - 1024)
    chains := x.chains.set x.shortest (x.stack.drop (x.stack.length - 1024) ++ x.chains.getD x.shortest []) } := by
  unfold State.spill
  rw [h]
  dsimp only
  rw [count_mem]
  generalize x.stack.length - 1024 = n
  have hput := ontoChain_pool (updPool_pool h fun x => { x with stack := x.stack.take n }) x.shortest (x.stack.drop n)
  exact hput

/-- A batch whose entries are all what the chain says moves to the stack whole. -/
theorem refill_whole {c : Nat} (hok : ∀ a ∈ (x.chains.getD c []).take 1024, s.listedOk p x a = true) :
    s.refill p c = (s.updPool p fun y => { y with
      stack := (x.chains.getD c []).take 1024 ++ y.stack
      chains := y.chains.set c ((x.chains.getD c []).drop 1024) }).count (ctrPool p 6) := by
  have hgood : ((x.chains.getD c []).take 1024).takeWhile (s.listedOk p x) = (x.chains.getD c []).take 1024 := List.takeWhile_eq_self_iff.2 hok
  have hdrop : (x.chains.getD c []).drop ((x.chains.getD c []).take 1024).length = (x.chains.getD c []).drop 1024 := by
    rw [List.length_take]
    rcases Nat.le_total 1024 (x.chains.getD c []).length with hle | hle
    · rw [Nat.min_eq_left hle]
    · rw [Nat.min_eq_right hle, List.drop_length, List.drop_eq_nil_of_le hle]
  unfold State.refill
  rw [h]
  dsimp only
  rw [hgood, if_pos rfl, hdrop]

end

theorem listedOk_of_mem {p : Nat} {x y : Pool} {s u : State} (hc : u.mem.cells = s.mem.cells) (hp : u.mem.poison = s.mem.poison)
    (hr : y.base = x.base ∧ y.span = x.span ∧ y.size = x.size) (a : Nat) : u.listedOk p y a = s.listedOk p x a := by
  obtain ⟨hbase, hspan, hsize⟩ := hr
  unfold State.listedOk State.memBytes State.poisonedIn Pool.inRange
  rw [hc, hp, hbase, hspan, hsize]

/-- No step of a batch gives the waiting requests anything to wait for. -/
theorem waiting_free : PoolFree (·.waiting) := fun _ _ _ _ _ => rfl

section
variable {t p : Nat} {x : Pool} {s : State} (h : NMap.find s.mem.pools p = some x) (hw : s.mem.waiting = [])
include h hw

/-- The end of a refill (R297). -/
theorem exec_stackBatchDone_refill {c : Nat} (hr : x.refills ≠ 0) (hne : x.chains.getD c [] ≠ [])
    (hok : ∀ a ∈ (x.chains.getD c []).take 1024, s.listedOk p x a = true) : ∃ u y,
    Sys2Proof.Machine.exec (.stackBatchDone t p true c) s = .next u ∧ NMap.find u.mem.pools p = some y ∧
      y.stack = (x.chains.getD c []).take 1024 ++ x.stack ∧ y.chains = x.chains.set c ((x.chains.getD c []).drop 1024) := by
  have h' : NMap.find (s.advanceTo t).mem.pools p = some x := by rw [advanceTo_mem]; exact h
  have hx := updPool_pool h' fun x => { x with refills := x.refills - 1 }
  have hwhole := refill_whole (c := c) hx fun a ha =>
    (listedOk_of_mem (s := s) (x := x) (by simp [State.updPool]) (by simp [State.updPool]) ⟨rfl, rfl, rfl⟩ a).trans (hok a ha)
  have hrun : Sys2Proof.Machine.exec (.stackBatchDone t p true c) s = .next
      ((((s.advanceTo t).updPool p (fun x => { x with refills := x.refills - 1 })).refill p c).balance p).serveWaiting := by
    show execStackBatchDone _ _ _ _ _ = _
    unfold execStackBatchDone
    dsimp only
    rw [h']
    dsimp only
    rw [if_pos rfl, if_neg]
    simp only [not_or]
    exact ⟨hr, by simpa using hne⟩
  rw [serveWaiting_none, hwhole] at hrun
  · refine ⟨_, _, hrun, updPool_pool (by rw [count_mem]; exact updPool_pool hx _) _, (balance_lists _ _).1, (balance_lists _ _).2.1⟩
  · rw [hwhole]
    exact (waiting_free.updPool _ _ _).trans ((congrArg MemState.waiting (count_mem _ _)).trans (by simp [State.updPool, hw]))

omit hw in
/-- The end of a spill (R297). -/
theorem exec_stackBatchDone_spill {c : Nat} (hs : x.spills ≠ 0) : ∃ u y,
    Sys2Proof.Machine.exec (.stackBatchDone t p false c) s = .next u ∧ NMap.find u.mem.pools p = some y ∧
      y.stack = x.stack.take (x.stack.length - 1024) ∧
      y.chains = x.chains.set x.shortest (x.stack.drop (x.stack.length - 1024) ++ x.chains.getD x.shortest []) := by
  have h' : NMap.find (s.advanceTo t).mem.pools p = some x := by rw [advanceTo_mem]; exact h
  have hrun : Sys2Proof.Machine.exec (.stackBatchDone t p false c) s = .next
      ((((s.advanceTo t).updPool p (fun x => { x with spills := x.spills - 1 })).spill p).balance p) := by
    show execStackBatchDone _ _ _ _ _ = _
    unfold execStackBatchDone
    dsimp only
    rw [h']
    dsimp only
    rw [if_neg Bool.false_ne_true, if_neg hs]
  obtain ⟨y, hy, hstack, hchains, -⟩ := balance_pool (spill_pool (updPool_pool h' fun x => { x with spills := x.spills - 1 }))
  dsimp only at hstack hchains
  exact ⟨_, y, hrun, hy, hstack, hchains⟩

/-- A rebuilt chain goes back on the shortest chain (R298). -/
theorem exec_chainRebuilt (hl : x.lostChain ≠ []) : ∃ u y, Sys2Proof.Machine.exec (.chainRebuilt t p) s = .next u ∧
    NMap.find u.mem.pools p = some y ∧ y.lostChain = [] ∧
      y.chains = x.chains.set x.shortest (x.lostChain ++ x.chains.getD x.shortest []) ∧ y.stack = x.stack := by
  have h' : NMap.find (s.advanceTo t).mem.pools p = some x := by rw [advanceTo_mem]; exact h
  have hrun : Sys2Proof.Machine.exec (.chainRebuilt t p) s = .next
      ((((((s.advanceTo t).updPool p (fun x => { x with lostChain := [] })).ontoChain p x.shortest x.lostChain).balance p).record
        0x8015 [p, x.lostChain.length]).serveWaiting) := by
    show execChainRebuilt _ _ _ = _
    unfold execChainRebuilt
    dsimp only
    rw [h']
    dsimp only
    rw [if_neg (by simpa using hl)]
  rw [serveWaiting_none] at hrun
  · obtain ⟨y, hy, hstack, hchains, hlost⟩ :=
      balance_pool (ontoChain_pool (updPool_pool h' fun x => { x with lostChain := [] }) x.shortest x.lostChain)
    exact ⟨_, y, hrun, (congrArg (fun m => NMap.find m.pools p) (record_mem _ _ _)).trans hy, hlost, hchains, hstack⟩
  · refine (congrArg MemState.waiting (record_mem _ _ _)).trans ((waiting_free.updPool _ _ _).trans ((waiting_free.ontoChain _ _ _ _).trans
      ((waiting_free.updPool _ _ _).trans ?_)))
    rw [advanceTo_mem]
    exact hw

end

theorem getD_set_self {l : List (List Nat)} {i : Nat} (h : i < l.length) (v : List Nat) : (l.set i v).getD i [] = v := by
  simp [h]

/-! ### The sweep and the quotas -/

/-- An owner is found swept. -/
def Swept (o : Nat) (s : State) : Prop := (s.owner o).oldest = s.oldestBucket o ∧ (s.owner o).held = false

theorem sweepOwner_mem (o : Nat) (s : State) : ∃ a, (s.sweepOwner o).mem = { s.mem with
    owners := NMap.put s.mem.owners o { s.owner o with oldest := s.oldestBucket o, aged := a, held := false } } := by
  refine ⟨decide ((s.owner o).age ≠ 0 ∧ (s.owner o).age ≤ s.oldestBucket o), ?_⟩
  unfold State.sweepOwner
  dsimp only
  split
  · split
    · rfl
    · exact record_mem _ _ _
  · rfl

theorem sweepOwner_time (o : Nat) (s : State) : (s.sweepOwner o).time = s.time := (State.sweepOwner_frame o s).time (by decide)

theorem oldestBucket_of {s u : State} (hb : u.mem.bufs = s.mem.bufs) (ht : u.time = s.time) (o : Nat) : u.oldestBucket o = s.oldestBucket o := by
  unfold State.oldestBucket
  rw [hb, ht]

theorem sweepOwner_bufs (o : Nat) (s : State) : (s.sweepOwner o).mem.bufs = s.mem.bufs := by
  obtain ⟨a, ha⟩ := sweepOwner_mem o s
  rw [ha]

theorem sweepOwner_tick (o : Nat) (s : State) : (s.sweepOwner o).mem.sweepTick = s.mem.sweepTick := by
  obtain ⟨a, ha⟩ := sweepOwner_mem o s
  rw [ha]

theorem sweepOwner_swept {o w : Nat} {s : State} (h : o = w ∨ Swept w s) : Swept w (s.sweepOwner o) := by
  obtain ⟨a, ha⟩ := sweepOwner_mem o s
  unfold Swept
  rw [oldestBucket_of (sweepOwner_bufs o s) (sweepOwner_time o s)]
  unfold State.owner
  rw [ha]
  dsimp only
  by_cases how : o = w
  · subst how
    rw [getD_put_self]
    exact ⟨rfl, rfl⟩
  · rw [getD_put_ne _ _ _ how]
    exact h.resolve_left how

/-- The sweep finds every owner listed. -/
theorem sweep_swept (l : List Nat) {w : Nat} {s : State} (h : w ∈ l ∨ Swept w s) :
    Swept w (l.foldl (fun (s : State) (o : Nat) => s.sweepOwner o) s) := by
  induction l generalizing s with
  | nil => exact h.resolve_left List.not_mem_nil
  | cons o l ih =>
    refine ih ?_
    rcases h with hmem | hs
    · rcases List.mem_cons.1 hmem with rfl | hl
      · exact Or.inr (sweepOwner_swept (Or.inl rfl))
      · exact Or.inl hl
    · exact Or.inr (sweepOwner_swept (Or.inr hs))

theorem exec_leakSweep {t : Nat} {s : State} (ht : Ticking t s) (hr : s.mem.ready = true) (hdue : s.mem.sweepTick + secondTicks ≤ t) :
    Sys2Proof.Machine.exec (.leakSweep t) s = .next ((s.mem.owners.map (·.1)).foldl (fun (s : State) (o : Nat) => s.sweepOwner o)
      { s.advanceTo t with mem := { s.mem with sweepTick := t } }) := by
  have hnow := advanceTo_now ht.1 ht.2.1 ht.2.2
  show execLeakSweep t s = _
  unfold execLeakSweep
  simp only [advanceTo_mem, hr, hnow, Bool.not_true, Bool.false_or, decide_eq_true_eq]
  rw [if_neg (Nat.not_lt.2 hdue)]

theorem exec_quotaWrite {s : State} (ho : Open s) (hlive : When.allows .live s.md.mode = true) (t : Nat) (o : Origin) (v : Word) :
    ∃ x, PoolAsked s x ∧ Sys2Proof.Machine.exec (.quotaWrite t o v) s =
      .next (if v.toNat < (x.owner (bits (s.pathReg o Reg.POOL_OSEL) 15 0)).floor then x.ignored
        else x.updOwner (bits (s.pathReg o Reg.POOL_OSEL) 15 0) fun x => { x with quota := v.toNat }) := by
  obtain ⟨r, x, f, -, hx, hexec⟩ := gateWrite_acts (a := Reg.POOL_OQUOTA) (w := .live) (res := 0#32) (o := o) (t := t) (v := v)
    (by decide +kernel) ho hlive (by decide) fun _ s =>
      let w := bits (s.pathReg o Reg.POOL_OSEL) 15 0
      if v.toNat < (s.owner w).floor then s.ignored else s.updOwner w (fun x => { x with quota := v.toNat })
  have hasked := poolAsked_of f hx
  dsimp only at hexec
  rw [hasked.path] at hexec
  exact ⟨x, hasked, congrArg Host.Outcome.next hexec⟩

/-- Settles O28: scrub and the buffer pools act by the chapter's rules, case by case. -/
theorem scrubAndBufferPools : Obligations.ScrubAndBufferPools := by
  refine ⟨fun t addr use s hfilled => ?_, fun t o v s ho => ?_, fun t o v s ho => ?_, fun t p c x s hx hw => ?_,
    fun t s ht hr hdue => ?_, fun t o v s ho hlive => ?_⟩
  · have hgo : (!((inSram addr && s.mem.sramDone) || (inHbm addr && s.mem.hbmDone))) = false := by
      rcases hfilled with ⟨ha, hd⟩ | ⟨ha, hd⟩ <;> simp [ha, hd]
    have hmem := advanceTo_mem t s
    constructor
    · intro hhbm
      obtain ⟨hbit, hces⟩ := corrected_sram hhbm (s.advanceTo t)
      refine ⟨(s.advanceTo t).corrected addr, ?_, hbit, by rw [hces, hmem]⟩
      show execScrubPass _ _ _ _ _ = _
      simp [execScrubPass, hgo]
    · intro n hn hp hr hc
      obtain ⟨hbit, hpoison⟩ := poisonLine_plain (s := s.advanceTo t) (by rw [hmem]; exact hp) (by rw [hmem]; exact hr)
        (by unfold State.carveOf; rw [advanceTo_image]; exact hc)
      refine ⟨(s.advanceTo t).poisonLine addr none, ?_, hbit, by rw [hpoison, hmem]⟩
      show execScrubPass _ _ _ _ _ = _
      have h0 : n ≠ 0 := by omega
      have h1 : n ≠ 1 := by omega
      simp [execScrubPass, hgo, h0, h1]
  · obtain ⟨x0, hasked, hexec⟩ := exec_bufferRequest ho t o v
    refine ⟨fun hinvalid => ?_, fun x ⟨hsize, hmax, hown⟩ hx => ⟨fun hfree hbit => ?_, fun hfree hquota => ?_, fun hfree hquota hfloors =>
      ⟨fun hstack => ?_, fun a rest hstack => ?_⟩⟩⟩
    · exact ⟨_, hexec, requestFor_answered hasked (answer_invalid hinvalid) rfl⟩
    all_goals have hanswer := answer_valid (larger := bit v 21) hsize hmax hown hx
    · rw [if_pos hfree, hbit, if_neg (by simp)] at hanswer
      rw [hbit] at hexec
      obtain ⟨hgrant, hpools⟩ := requestFor_answered (path := pathCode o) hasked hanswer (grant_empty_mem _ _ _)
      exact ⟨_, hexec, hgrant, hpools, requestFor_empty hasked hanswer⟩
    · rw [if_neg hfree, if_pos hquota] at hanswer
      exact ⟨_, hexec, requestFor_quota hasked hanswer⟩
    · rw [if_neg hfree, if_neg (Nat.not_lt.2 hquota), if_neg (Nat.not_lt.2 hfloors), hstack] at hanswer
      exact ⟨_, hexec, requestFor_answered hasked hanswer rfl⟩
    · rw [if_neg hfree, if_neg (Nat.not_lt.2 hquota), if_neg (Nat.not_lt.2 hfloors), hstack] at hanswer
      exact ⟨_, hexec, requestFor_granted hasked hanswer hx hstack⟩
  · obtain ⟨x, hasked, hexec⟩ := exec_bufferFree ho t o v
    refine ⟨fun b hcause hb hw => ?_, fun c hcause => ?_⟩
    · have hcause' := (freeCause_of_mem hasked.mem).trans hcause
      have hb' : NMap.find x.mem.bufs ((s.staged o Reg.POOL_FREE_LO).toNat + bits v 7 0 * 2 ^ 32) = some b := by rw [hasked.mem]; exact hb
      have howner : x.owner b.owner = s.owner b.owner := by unfold State.owner; rw [hasked.mem]
      have hretired (a n : Nat) : x.onRetiredPage a n = s.onRetiredPage a n := by unfold State.onRetiredPage; rw [hasked.mem]
      have hrun := freeBuffer_returns hcause' hb'
      rw [hrun] at hexec
      refine ⟨_, hexec, fun hr => ?_, fun hr => release_withdraws ((hretired _ _).trans hr)⟩
      rw [← freeCause_none hcause hb, ← howner]
      exact release_returns ((hretired _ _).trans hr) (by rw [hasked.mem]; exact hw)
    · obtain ⟨hmem, hbit⟩ := freeBuffer_ignored ((freeCause_of_mem hasked.mem).trans hcause)
      exact ⟨_, hexec, hmem.trans hasked.mem, hbit⟩
  · refine ⟨exec_stackBatchDone_refill hx hw, fun hs hi => ?_, fun hl hi => ?_⟩
    · obtain ⟨u, y, hexec, hy, hstack, hchains⟩ := exec_stackBatchDone_spill (t := t) (c := c) hx hs
      exact ⟨u, y, hexec, hy, hstack, by rw [hchains, getD_set_self hi]⟩
    · obtain ⟨u, y, hexec, hy, hlost, hchains, hstack⟩ := exec_chainRebuilt (t := t) hx hw hl
      exact ⟨u, y, hexec, hy, hlost, by rw [hchains, getD_set_self hi], hstack⟩
  · refine ⟨_, exec_leakSweep ht hr hdue, ?_, ?_, fun w hmem => sweep_swept _ (Or.inl hmem)⟩
    · exact (foldl_keep (·.mem.sweepTick) (fun x o => sweepOwner_tick o x) _ _)
    · exact (foldl_keep (·.mem.bufs) (fun x o => sweepOwner_bufs o x) _ _)
  · obtain ⟨x, hasked, hexec⟩ := exec_quotaWrite ho hlive t o v
    have howner (w : Nat) : x.owner w = s.owner w := by unfold State.owner; rw [hasked.mem]
    rw [howner] at hexec
    refine ⟨fun hle => ?_, fun hlt => ?_⟩
    · rw [if_neg (Nat.not_lt.2 hle)] at hexec
      refine ⟨_, hexec, ?_⟩
      unfold State.updOwner
      rw [howner, hasked.mem]
    · rw [if_pos hlt] at hexec
      exact ⟨_, hexec, hasked.mem⟩

end Sys2Proof.Proofs
end

section
/-!
SUPPORT. C2h Replication Control (R272 to R285): links, targets, replicas, sets and queries.
-/

namespace Sys2Proof.Proofs

open Sys2Proof.Machine Sys2Proof.Safety Sys2Proof.Laws

/-! ### The command -/

section
variable {a : Nat} {e : Sqe} (h : c2Action e ≤ 7)
include h

theorem withC2Action_eq : withC2Action a e = { e with opcode := 0xC2, dw10 := (e.dw10 &&& ~~~(0xF#32)) ||| BitVec.ofNat 32 a } :=
  if_neg (Nat.not_lt.2 h)

theorem withC2Action_nsid : (withC2Action a e).nsid = e.nsid := by rw [withC2Action_eq h]

theorem withC2Action_cid : (withC2Action a e).cid = e.cid := by rw [withC2Action_eq h]

theorem c2Action_withC2Action (ha : a ≤ 7) : c2Action (withC2Action a e) = a := by
  rw [withC2Action_eq h]
  show bits ((e.dw10 &&& ~~~(0xF#32)) ||| BitVec.ofNat 32 a) 3 0 = a
  rw [bits_or, bits_and]
  have hclear : bits (~~~(0xF#32)) 3 0 = 0 := by decide
  have hkept : bits (BitVec.ofNat 32 a) 3 0 = a := by
    interval_cases a <;> decide
  rw [hclear, hkept, Nat.and_zero, Nat.zero_or]

omit h in
/-- A C2h that nothing turns away runs on the state in which it has been fetched. -/
theorem c2h_runs {t cntl : Nat} {d : LinkDesc} {opened accepted : Bool} {s : State} (hr : Runs cntl (withC2Action a e) s) :
    (s.advanceTo t).c2h cntl a e d opened accepted =
      ((s.advanceTo t).fetched cntl 0 (withC2Action a e)).runC2h cntl (withC2Action a e) d opened accepted ∧
    Room cntl 0 ((s.advanceTo t).fetched cntl 0 (withC2Action a e)) := by
  obtain ⟨hrun, hroom, -⟩ := runs_admin (t := t) hr
  exact ⟨hrun, hroom⟩

end

/-- What runs for an action of a volume that is there. -/
def c2Run (a cntl : Nat) (e : Sqe) (n : Ns) (d : LinkDesc) (s : State) : State :=
  match a with
  | 0 => s.linkCreate cntl e n d true true
  | 1 => s.linkDelete cntl e
  | 2 => s.targetAdd cntl e d true true
  | 3 => s.targetRemove cntl e
  | 4 => s.replicaAccept cntl e n d
  | 5 => s.sendNow cntl e
  | _ => s.linkQuery cntl e

/-- An action that nothing turns away, of a volume that is there, is run by its number. -/
theorem c2h_acts {a t cntl : Nat} {e : Sqe} {n : Ns} {s : State} (d : LinkDesc) (he : c2Action e ≤ 7) (ha : a ≤ 6)
    (hr : Runs cntl (withC2Action a e) s) (hn : ((s.advanceTo t).fetched cntl 0 (withC2Action a e)).featureNs e.nsid = some n) :
    (s.advanceTo t).c2h cntl a e d true true =
      c2Run a cntl (withC2Action a e) n d ((s.advanceTo t).fetched cntl 0 (withC2Action a e)) ∧
    Room cntl 0 ((s.advanceTo t).fetched cntl 0 (withC2Action a e)) := by
  obtain ⟨hrun, hroom⟩ := c2h_runs (t := t) (d := d) (opened := true) (accepted := true) hr
  refine ⟨hrun.trans ?_, hroom⟩
  unfold State.runC2h
  rw [c2Action_withC2Action he (by omega), if_neg (by omega), if_neg (by omega), withC2Action_nsid he, hn] <;> rfl

theorem refuseC2h_answers {cntl code : Nat} {e : Sqe} {s : State} (h : Room cntl 0 s) :
    Answers cntl 0 e.cid 0 0x02 code s (s.refuseC2h cntl e code) :=
  answers_before (State.record_frame _ _ s) (completeAdmin_answers (h.of_frame (State.record_frame _ _ s) (by decide) (by decide)))

/-- A peer whose session is up, with a key that may seal. -/
structure PeerUp (d : LinkDesc) (s : State) : Prop where
  keyed : d.keyid ≠ 0
  fresh : ∀ k, NMap.find s.ciph.slots (keySlot d.keyid false) = some k → k.exhausted = false ∧ k.ctr < k.limit
  there : ∃ p ∈ s.idm.sessions, p.2.purpose = 2 ∧ p.2.source = d.peer ∧ p.2.state ≠ 3

theorem callPeer_there {d : LinkDesc} {s : State} (h : ∃ p ∈ s.idm.sessions, p.2.purpose = 2 ∧ p.2.source = d.peer ∧ p.2.state ≠ 3) :
    s.callPeer d = (true, s) := by
  obtain ⟨p, hp, hpurpose, hsource, hstate⟩ := h
  have hany : s.idm.sessions.any (fun p => p.2.purpose == 2 && p.2.source == d.peer && p.2.state != 3) = true :=
    List.any_eq_true.2 ⟨p, hp, by simp [hpurpose, hsource, hstate]⟩
  unfold State.callPeer
  rw [if_pos hany]

/-- With its session up and its key fit, a target's command goes on. -/
theorem withPeer_acts {cntl : Nat} {e : Sqe} {d : LinkDesc} {s : State} (act : State → State) (h : PeerUp d s) :
    s.withPeer cntl e d true true act = act s := by
  unfold State.withPeer
  dsimp only
  rw [if_neg (by simp [h.keyed]), if_neg, callPeer_there h.there]
  · rfl
  · cases hk : NMap.find s.ciph.slots (keySlot d.keyid false) with
    | none => exact Bool.false_ne_true
    | some k =>
      obtain ⟨hex, hlt⟩ := h.fresh k hk
      simp [hex, hlt]

/-! ### Changes of links at a head without a partner -/

theorem complete_repl (cntl qid cid sct sc dw0 dw1 : Nat) (s : State) : (s.complete cntl qid cid sct sc dw0 dw1).repl = s.repl :=
  (State.complete_frame cntl qid cid sct sc dw0 dw1 s).repl (by decide)

theorem record_repl (code : Nat) (data : List Nat) (s : State) : (s.record code data).repl = s.repl :=
  (State.record_frame code data s).repl (by decide)

/-- A link as its creation leaves it at its home. -/
def freshLink (vol interval tick : Nat) (sync : Bool) (d : LinkDesc) : Link :=
  { vol := vol, sync := sync, interval := interval, home := true, setSeq := 0, lastTick := tick, cmd := none,
    targets := [(0, freshTarget d sync)] }

theorem settleChange_linkCreate (i vol mode interval : Nat) (d : LinkDesc) (cntl : Nat) (e : Sqe) (s : State) :
    (State.settleChange (.linkCreate i vol mode interval d) cntl e s).repl =
      { s.repl with links := NMap.put s.repl.links i (freshLink vol interval s.time.now (mode == 1) d) } :=
  (complete_repl _ _ _ _ _ _ _ _).trans (record_repl _ _ _)

theorem dropReplSnaps_repl (vol : Nat) (used : List Nat) (s : State) : (s.dropReplSnaps vol used).repl = s.repl :=
  (State.dropReplSnaps_frame vol used s).repl (by decide)

theorem settleChange_linkDelete (i cntl : Nat) (e : Sqe) (s : State) :
    (State.settleChange (.linkDelete i) cntl e s).repl = { s.repl with links := NMap.del s.repl.links i } := by
  refine (complete_repl _ _ _ _ _ _ _ _).trans ((record_repl _ _ _).trans ?_)
  cases NMap.find s.repl.links i with
  | none => rfl
  | some l => exact dropReplSnaps_repl _ _ _

theorem settleChange_targetAdd {i : Nat} {d : LinkDesc} {cntl : Nat} {e : Sqe} {l : Link} {s : State} (hl : NMap.find s.repl.links i = some l) :
    (State.settleChange (.targetAdd i d) cntl e s).repl = (s.updLink i fun x => { x with
      targets := NMap.put x.targets ((firstFree 0 4 (fun j => NMap.has l.targets j)).getD 0) (freshTarget d x.sync) }).repl := by
  unfold State.settleChange State.applyChange
  dsimp only
  rw [hl]
  exact complete_repl _ _ _ _ _ _ _ _

theorem settleChange_targetRemove (i j cntl : Nat) (e : Sqe) (s : State) : (State.settleChange (.targetRemove i j) cntl e s).repl =
    (s.updLink i fun l => { l with targets := NMap.del l.targets j }).repl := complete_repl _ _ _ _ _ _ _ _

section
variable {i : Nat} {cntl : Nat} {e : Sqe} {s : State} (hm : s.mirrors = false)
include hm

theorem propose_linkCreate (vol mode interval : Nat) (d : LinkDesc) : (s.propose (.linkCreate i vol mode interval d) cntl e).repl =
    { s.repl with links := NMap.put s.repl.links i (freshLink vol interval s.time.now (mode == 1) d) } := by
  rw [propose_applies hm]
  exact settleChange_linkCreate _ _ _ _ _ _ _ _

theorem propose_linkDelete : (s.propose (.linkDelete i) cntl e).repl = { s.repl with links := NMap.del s.repl.links i } := by
  rw [propose_applies hm]
  exact settleChange_linkDelete _ _ _ _

theorem propose_targetAdd {d : LinkDesc} {l : Link} (hl : NMap.find s.repl.links i = some l) :
    (s.propose (.targetAdd i d) cntl e).repl = (s.updLink i fun x => { x with
      targets := NMap.put x.targets ((firstFree 0 4 (fun j => NMap.has l.targets j)).getD 0) (freshTarget d x.sync) }).repl := by
  rw [propose_applies hm]
  exact settleChange_targetAdd hl

theorem propose_targetRemove (j : Nat) :
    (s.propose (.targetRemove i j) cntl e).repl = (s.updLink i fun l => { l with targets := NMap.del l.targets j }).repl := by
  rw [propose_applies hm]
  exact settleChange_targetRemove _ _ _ _ _

end

theorem find_updLink {i : Nat} {l : Link} {s : State} (h : NMap.find s.repl.links i = some l) (f : Link → Link) :
    NMap.find (s.updLink i f).repl.links i = some (f l) := by
  unfold State.updLink
  dsimp only
  rw [find_upd, if_pos rfl, h]
  rfl

theorem target_updLink {i j : Nat} {l : Link} {s : State} (h : NMap.find s.repl.links i = some l) (f : Link → Link) :
    (s.updLink i f).target? i j = NMap.find (f l).targets j := by
  unfold State.target?
  rw [find_updLink h]
  rfl

theorem target_of_repl {i j : Nat} {s u : State} (h : u.repl = s.repl) : u.target? i j = s.target? i j := by
  unfold State.target?
  rw [h]

theorem linkOf_iff {e : Sqe} {l : Link} {s : State} (h : s.linkOf e = some l) :
    NMap.find s.repl.links (c2Link e) = some l ∧ l.vol = volOf e.nsid ∧ l.home = true := by
  unfold State.linkOf at h
  cases hf : NMap.find s.repl.links (c2Link e) with
  | none => rw [hf] at h; cases h
  | some x =>
    rw [hf] at h
    have h' : (if x.vol = volOf e.nsid ∧ x.home then some x else none) = some l := h
    split at h'
    · rename_i hx
      cases h'
      exact ⟨rfl, hx⟩
    · cases h'

/-! ### The actions -/

theorem linkCreate_proposes {cntl : Nat} {e : Sqe} {n : Ns} {d : LinkDesc} {s : State}
    (hfull : (s.repl.links.filter (fun p => decide (p.1 < 128) && (decide (p.1 < 64) == n.home))).length < 64)
    (hid : c2Link e < 128) (hhome : decide (c2Link e < 64) = n.home) (hnew : NMap.find s.repl.links (c2Link e) = none)
    (hcommits : s.moor.commits = []) (hsrc : s.isSource (volOf e.nsid) = false) (hrep : n.replica = none)
    (hfit : if c2Sync e then s.fitsTarget d = true else 1 ≤ c2Interval e ∧ c2Interval e ≤ 86400) (hpeer : PeerUp d s) :
    s.linkCreate cntl e n d true true =
      s.propose (.linkCreate (c2Link e) (volOf e.nsid) (b2n (c2Sync e)) (c2Interval e) d) cntl e := by
  have hmine : (!(decide (c2Link e < 128) && (decide (c2Link e < 64) == n.home)) || NMap.has s.repl.links (c2Link e)) = false := by
    simp [hid, hhome, NMap.has, hnew]
  unfold State.linkCreate
  dsimp only
  rw [if_neg (Nat.not_le.2 hfull), hmine, hcommits, if_neg (by simp), hsrc, hrep, if_neg (by simp)]
  cases hsync : c2Sync e with
  | true =>
    rw [hsync, if_pos rfl] at hfit
    rw [if_neg (by simp), withPeer_acts _ hpeer, hfit, if_neg (by simp)]
  | false =>
    rw [hsync, if_neg Bool.false_ne_true] at hfit
    obtain ⟨hlow, hhigh⟩ := hfit
    rw [if_neg (by simp; omega), withPeer_acts _ hpeer, if_neg (by simp)]

theorem targetAdd_proposes {cntl : Nat} {e : Sqe} {d : LinkDesc} {l : Link} {s : State} (hl : s.linkOf e = some l)
    (hroom : l.targets.length < 4) (hfit : l.sync = false ∨ s.fitsTarget d = true) (hpeer : PeerUp d s) :
    s.targetAdd cntl e d true true = s.propose (.targetAdd (c2Link e) d) cntl e := by
  have hgo : (l.sync && !s.fitsTarget d) = false := by
    rcases hfit with h | h <;> simp [h]
  unfold State.targetAdd
  rw [hl]
  dsimp only
  rw [if_neg (Nat.not_le.2 hroom), withPeer_acts _ hpeer, hgo]
  rfl

theorem linkDelete_proposes {cntl : Nat} {e : Sqe} {l : Link} {s : State} (hl : s.linkOf e = some l) :
    s.linkDelete cntl e = s.propose (.linkDelete (c2Link e)) cntl e := by
  unfold State.linkDelete
  rw [hl]
  rfl

/-- A deletion that names no link of its volume is refused. -/
theorem linkDelete_unnamed {cntl : Nat} {e : Sqe} {s : State} (hl : s.linkOf e = none) : s.linkDelete cntl e = s.refuseC2h cntl e 2 := by
  unfold State.linkDelete
  rw [hl, if_pos Option.isNone_none]

theorem linkQuery_named {cntl : Nat} {e : Sqe} {l : Link} {s : State} (hl : NMap.find s.repl.links (c2Link e) = some l) :
    s.linkQuery cntl e = (s.adminData cntl e (linkBytes (c2Link e) l)).completeAdmin cntl e 0 0 0 := by
  unfold State.linkQuery
  rw [hl]

/-- A synchronous link has no sets to start. -/
theorem sendNow_sync {cntl : Nat} {e : Sqe} {l : Link} {s : State} (hl : s.linkOf e = some l) (hs : l.sync = true) :
    s.sendNow cntl e = s.refuseC2h cntl e 2 := by
  unfold State.sendNow
  rw [hl]
  dsimp only
  rw [hs, if_pos rfl]

theorem targetRemove_proposes {cntl : Nat} {e : Sqe} {l : Link} {s : State} (hl : s.linkOf e = some l)
    (hj : NMap.has l.targets (c2Target e) = true) :
    s.targetRemove cntl e = s.propose (.targetRemove (c2Link e) (c2Target e)) cntl e := by
  unfold State.targetRemove
  rw [hl]
  dsimp only
  rw [if_pos hj]

/-- A volume made a replica, with nothing applied to it. -/
def madeReplica (vol : Nat) (d : LinkDesc) (s : State) : State :=
  let s1 := s.updNs vol (fun n => { n with replica := some (d.pairId.toNat, d.linkid), frozen := NMap.put n.frozen viewKey [] })
  { s1 with repl := { s1.repl with replicas := NMap.put s1.repl.replicas vol [] } }

theorem replicaAccept_accepts {cntl : Nat} {e : Sqe} {d : LinkDesc} {n : Ns} {s : State} (hroom : Room cntl 0 s)
    (hns : s.ns? (volOf e.nsid) = some n) (hsrc : s.isSource (volOf e.nsid) = false) (hrep : n.replica = none) :
    ((s.replicaAccept cntl e n d).ns? (volOf e.nsid)).map (·.replica) = some (some (d.pairId.toNat, d.linkid)) ∧
      NMap.find (s.replicaAccept cntl e n d).repl.replicas (volOf e.nsid) = some [] ∧
      Answers cntl 0 e.cid 0 0 0 s (s.replicaAccept cntl e n d) := by
  have hrun : s.replicaAccept cntl e n d = (madeReplica (volOf e.nsid) d s).completeAdmin cntl e 0 0 0 := by
    unfold State.replicaAccept
    dsimp only
    rw [hsrc, hrep, if_neg (by simp)]
    rfl
  have hmade : (madeReplica (volOf e.nsid) d s).ns? (volOf e.nsid) =
      some { n with replica := some (d.pairId.toNat, d.linkid), frozen := NMap.put n.frozen viewKey [] } := by
    have hns' : NMap.find s.nvq.ns (volOf e.nsid) = some n := hns
    show NMap.find (NMap.upd s.nvq.ns _ _) _ = _
    rw [find_upd, if_pos rfl, hns']
    rfl
  have hframe := State.completeAdmin_frame cntl e 0 0 0 (madeReplica (volOf e.nsid) d s)
  rw [hrun]
  refine ⟨?_, ?_, ?_⟩
  · unfold State.ns? at hmade ⊢
    rw [hframe.ns (by decide), hmade]
    rfl
  · rw [hframe.repl (by decide)]
    exact find_put_self _ _ _
  · exact completeAdmin_answers (Room.congr hroom rfl rfl rfl)

/-! ### Sets -/

/-- A link whose set has started with snapshot `k`. -/
def setStarted (k tick : Nat) (l : Link) : Link :=
  { l with
    setSeq := l.setSeq + 1
    targets := l.targets.map (fun (t : Nat × Target) => (t.1, { t.2 with state := 4, cur := some k, from_ := tick })) }

/-- A volume with its replication snapshot taken. -/
def replSnapped (vol k : Nat) (s : State) : State := (s.takeSnap vol k true).tellPartner (.snapCreate vol k)

theorem replSnap_takes {vol k : Nat} {n : Ns} {s : State} (hn : s.ns? vol = some n) (hk : firstFree 0 1024 (NMap.has n.snaps) = some k) :
    s.replSnap vol = (some k, replSnapped vol k s) := by
  unfold State.replSnap
  rw [hn]
  dsimp only
  rw [hk]
  rfl

theorem replSnapped_frame (vol k : Nat) (s : State) : Frame 1171456533376 s (replSnapped vol k s) :=
  Frame.comp (State.tellPartner_frame _ _) rfl (Frame.comp (State.takeSnap_frame vol k true s) rfl (Frame.refl s))

theorem replSession_alone {d : LinkDesc} {s : State} (h : ∀ p ∈ s.idm.sessions, p.2.purpose ≠ 2) : s.replSession d = none := by
  have hnone : s.idm.sessions.find? (fun p => p.2.purpose == 2 && p.2.source == d.peer && p.2.state == 2) = none :=
    List.find?_eq_none.2 fun p hp => by simp [h p hp]
  unfold State.replSession
  rw [hnone]
  rfl

/-- Without a session to a peer no set is sent. -/
theorem sendSet_alone {i j : Nat} {s : State} (h : ∀ p ∈ s.idm.sessions, p.2.purpose ≠ 2) : s.sendSet i j = s := by
  unfold State.sendSet
  split
  · split
    · dsimp only
      rw [if_pos]
      rw [replSession_alone h]
      simp
    · rfl
  · rfl

theorem sendReady_alone {s : State} (h : ∀ p ∈ s.idm.sessions, p.2.purpose ≠ 2) : s.sendReady = s := by
  unfold State.sendReady
  refine List.foldl_fixed' (fun p => ?_) _
  exact List.foldl_fixed' (fun t => sendSet_alone h) _

/-- A set starts where no other is being sent, no peer is there to send to, and the volume has a snapshot free. -/
theorem startSet_alone {i k : Nat} {l : Link} {n : Ns} {s : State} (hl : NMap.find s.repl.links i = some l) (hbusy : l.busy = false)
    (hn : s.ns? l.vol = some n) (hk : firstFree 0 1024 (NMap.has n.snaps) = some k) (hpeers : ∀ p ∈ s.idm.sessions, p.2.purpose ≠ 2) :
    s.startSet i = (true, (replSnapped l.vol k s).updLink i (setStarted k (replSnapped l.vol k s).time.now)) := by
  have hidm : (replSnapped l.vol k s).idm = s.idm := (replSnapped_frame _ _ _).idm (by decide)
  unfold State.startSet
  rw [hl]
  dsimp only
  rw [hbusy, if_neg Bool.false_ne_true, replSnap_takes hn hk]
  dsimp only
  rw [sendReady_alone (by show ∀ p ∈ (replSnapped l.vol k s).idm.sessions, _; rw [hidm]; exact hpeers)]
  rfl

/-- The end of a set changes a link in its command alone. -/
theorem setEnded_links {α : Type} {g : Link → α} (hg : ∀ l, g { l with cmd := none } = g l) (i k : Nat) (s : State) :
    (NMap.find (s.setEnded i).repl.links k).map g = (NMap.find s.repl.links k).map g := by
  unfold State.setEnded
  split
  · rfl
  · rename_i l _
    dsimp only
    have htold (gone : List Nat) : (gone.foldl (fun (s : State) (id : Nat) => s.tellPartner (.snapDelete l.vol id))
        (s.dropReplSnaps l.vol l.used)).repl = s.repl :=
      (foldl_keep (·.repl) (fun x a => (State.tellPartner_frame _ x).repl (by decide)) _ _).trans (dropReplSnaps_repl _ _ _)
    split
    · split
      · rw [htold]
      · unfold State.completeAdmin
        rw [complete_repl]
        refine (find_upd_map _ _ _ _ hg _).trans ?_
        rw [htold]
    · rw [htold]

/-- A command that starts a set counts it. -/
theorem sendNow_starts {cntl k : Nat} {e : Sqe} {l : Link} {n : Ns} {s : State} (hl : s.linkOf e = some l) (hsync : l.sync = false)
    (hbusy : l.busy = false) (hpeers : ∀ p ∈ s.idm.sessions, p.2.purpose ≠ 2) (hn : s.ns? l.vol = some n)
    (hk : firstFree 0 1024 (NMap.has n.snaps) = some k) :
    (NMap.find (s.sendNow cntl e).repl.links (c2Link e)).map (·.setSeq) = some (l.setSeq + 1) := by
  obtain ⟨hfind, -, -⟩ := linkOf_iff hl
  have hspent (ts : NMap Target) : ts.any (fun t => match (s.replSession t.2.desc).bind (NMap.find s.idm.sessions) with
      | some x => (NMap.find s.ciph.slots (keySlot x.keyid x.phaseTx)).any (fun k => k.exhausted || decide (k.limit ≤ k.ctr))
      | none => false) = false :=
    List.any_eq_false.2 fun t _ => by rw [replSession_alone hpeers]; exact Bool.false_ne_true
  have hrepl : (replSnapped l.vol k s).repl = s.repl := (replSnapped_frame _ _ _).repl (by decide)
  unfold State.sendNow
  rw [hl]
  dsimp only
  rw [hsync, if_neg Bool.false_ne_true, if_neg, startSet_alone hfind hbusy hn hk hpeers]
  · dsimp only
    rw [setEnded_links (fun _ => rfl), find_updLink (find_updLink (by rw [hrepl]; exact hfind) _)]
    rfl
  · exact Bool.eq_false_iff.1 (hspent _)

theorem featureNs_ns {nsid : Nat} {n : Ns} {s : State} (h : s.featureNs nsid = some n) : s.ns? (volOf nsid) = some n := by
  unfold State.featureNs at h
  split at h
  · rename_i m hm
    split at h
    · cases h
      by_cases hz : nsid = 0
      · rw [if_pos hz] at hm
        cases hm
      · rwa [if_neg hz] at hm
    · cases h
  · cases h

/-- A change that is asked of the partner. -/
theorem propose_sends {c : PairChange} {cntl : Nat} {e : Sqe} {s : State} (hroom : Room cntl 0 s) (hm : s.mirrors = true) :
    Sends (.commit (s.moor.token + 1) (mirrorChange c)) s (s.propose c cntl e) := (propose_asks hm hroom.1).1

/-- Data for the host and a success leave the links as they were. -/
theorem adminData_answered {cntl : Nat} {e : Sqe} {bytes : List Byte} {s x : State} (hroom : Room cntl 0 x) (hrepl : x.repl = s.repl) :
    Answers cntl 0 e.cid 0 0 0 x ((x.adminData cntl e bytes).completeAdmin cntl e 0 0 0) ∧
      ((x.adminData cntl e bytes).completeAdmin cntl e 0 0 0).repl = s.repl :=
  ⟨answers_before (State.adminData_frame cntl e bytes x) (completeAdmin_answers (room_adminData hroom)),
    ((State.completeAdmin_frame _ _ _ _ _ _).repl (by decide)).trans (((State.adminData_frame cntl e bytes x).repl (by decide)).trans hrepl)⟩

/-- Settles O29: C2h, action by action. -/
theorem replicationLinksAreControlled : Obligations.ReplicationLinksAreControlled := by
  intro t cntl e s he fetched id
  have hcid (a : Nat) : (withC2Action a e).cid = e.cid := withC2Action_cid he
  have hnsid (a : Nat) : (withC2Action a e).nsid = e.nsid := withC2Action_nsid he
  have hrepl (a : Nat) : (fetched a).repl = s.repl := (fetched_advanceTo_frame _ _ _ _ _).repl (by decide)
  refine ⟨fun d n hr hn hfull hid hhome hnew hcommits hsrc hrep hfit hkey hfresh hthere => ?_, fun hr n hn => ?_,
    fun d n l hr hn hl hlen hfit hkey hfresh hthere => ?_, fun n l hr hn hl hj => ?_, fun d n hr hn hsrc hrep => ?_, fun n l hr hn hl => ?_,
    fun n l hr hn hl => ?_, fun hr hz => ?_⟩
  · obtain ⟨hrun, hroom⟩ := c2h_acts d he (by decide) hr hn
    rw [← hnsid 0] at hsrc
    replace hrun := hrun.trans (linkCreate_proposes hfull hid hhome hnew hcommits hsrc hrep hfit ⟨hkey, hfresh, hthere⟩)
    rw [hnsid 0] at hrun
    refine ⟨fun hm => ⟨_, congrArg Host.Outcome.next hrun, propose_sends hroom hm⟩, fun hm => ?_⟩
    refine ⟨_, freshLink (volOf e.nsid) (c2Interval (withC2Action 0 e)) (fetched 0).time.now (b2n (c2Sync (withC2Action 0 e)) == 1) d,
      congrArg Host.Outcome.next hrun, ?_, rfl, ?_, rfl, rfl, rfl⟩
    · rw [propose_linkCreate hm]
      exact find_put_self _ _ _
    · cases hsync : c2Sync (withC2Action 0 e) <;> simp [freshLink, b2n]
  · obtain ⟨hrun, hroom⟩ := c2h_acts noDesc he (by decide) hr hn
    refine ⟨fun hl => ?_, fun l hl => ⟨fun hm => ?_, fun hm => ?_⟩⟩
    · refine ⟨_, congrArg Host.Outcome.next (hrun.trans (linkDelete_unnamed hl)), ?_⟩
      rw [← hcid 1]
      exact refuseC2h_answers hroom
    · exact ⟨_, congrArg Host.Outcome.next (hrun.trans (linkDelete_proposes hl)), propose_sends hroom hm⟩
    · refine ⟨_, congrArg Host.Outcome.next (hrun.trans (linkDelete_proposes hl)), ?_⟩
      rw [propose_linkDelete hm]
      exact (find_del _ _ _).trans (if_pos rfl)
  · obtain ⟨hrun, hroom⟩ := c2h_acts d he (by decide) hr hn
    replace hrun := hrun.trans (targetAdd_proposes hl hlen hfit ⟨hkey, hfresh, hthere⟩)
    refine ⟨fun hm => ⟨_, congrArg Host.Outcome.next hrun, propose_sends hroom hm⟩, fun j hj hm => ?_⟩
    obtain ⟨hfind, -, -⟩ := linkOf_iff hl
    refine ⟨_, congrArg Host.Outcome.next hrun, ?_⟩
    rw [target_of_repl (propose_targetAdd hm hfind), target_updLink hfind, hj]
    exact find_put_self _ _ _
  · obtain ⟨hrun, hroom⟩ := c2h_acts noDesc he (by decide) hr hn
    replace hrun := hrun.trans (targetRemove_proposes hl hj)
    refine ⟨fun hm => ⟨_, congrArg Host.Outcome.next hrun, propose_sends hroom hm⟩, fun hm => ?_⟩
    obtain ⟨hfind, -, -⟩ := linkOf_iff hl
    refine ⟨_, congrArg Host.Outcome.next hrun, ?_⟩
    rw [target_of_repl (propose_targetRemove hm _), target_updLink hfind]
    exact (find_del _ _ _).trans (if_pos rfl)
  · obtain ⟨hrun, hroom⟩ := c2h_acts d he (by decide) hr hn
    have hns := featureNs_ns hn
    rw [← hnsid 4] at hsrc hns ⊢
    rw [← hcid 4]
    exact ⟨_, congrArg Host.Outcome.next hrun, replicaAccept_accepts hroom hns hsrc hrep⟩
  · obtain ⟨hrun, hroom⟩ := c2h_acts noDesc he (by decide) hr hn
    refine ⟨fun hsync => ?_, fun m i hsync hbusy hpeers hm hi => ⟨_, congrArg Host.Outcome.next hrun, sendNow_starts hl hsync hbusy hpeers hm hi⟩⟩
    refine ⟨_, congrArg Host.Outcome.next (hrun.trans (sendNow_sync hl hsync)), ?_⟩
    rw [← hcid 5]
    exact refuseC2h_answers hroom
  · obtain ⟨hrun, hroom⟩ := c2h_acts noDesc he (by decide) hr hn
    refine ⟨_, congrArg Host.Outcome.next (hrun.trans (linkQuery_named hl)), ?_⟩
    rw [← hcid 6]
    exact adminData_answered hroom (hrepl 6)
  · obtain ⟨hrun, hroom⟩ := c2h_runs (t := t) (d := noDesc) (opened := true) (accepted := true) hr
    have hquery : (fetched 7).runC2h cntl (withC2Action 7 e) noDesc true true =
        ((fetched 7).adminData cntl (withC2Action 7 e) (fetched 7).podBytes).completeAdmin cntl (withC2Action 7 e) 0 0 0 := by
      unfold State.runC2h
      rw [c2Action_withC2Action he (by decide), if_neg (by decide), if_pos rfl, hnsid 7, if_pos hz]
      rfl
    refine ⟨_, congrArg Host.Outcome.next (hrun.trans hquery), ?_⟩
    rw [← hcid 7]
    exact adminData_answered hroom (hrepl 7)

end Sys2Proof.Proofs
end

section
/-!
SUPPORT. Replication at work (R274 to R280): frames and their results, synchronous targets, sets and resynchronisation.
-/

namespace Sys2Proof.Proofs

open Sys2Proof.Machine Sys2Proof.Safety Sys2Proof.Laws

/-! ### Frames at a target -/

/-- What a lane made of a frame's payload. -/
def lanePlain : LaneDecode → List Byte
  | .ok p => p
  | _ => []

section
variable {t session : Nat} {f : ReplFrame} {fault : Option LaneDecode} {x : Session} {s : State} (hx : s.session? session = some x)
  (hpurpose : x.purpose = 2) (hstate : x.state = 2) (hadmits : s.md.mode.admits = true)
include hx hpurpose hstate hadmits

/-- A frame of a replica's open session is taken by its kind. -/
theorem exec_replicationFrame (hlow : 1 ≤ f.kind) (hhigh : f.kind ≤ 4) : Sys2Proof.Machine.exec (.replicationFrame t session f fault) s = .next
    (if f.kind = 4 then (s.advanceTo t).commitFrame session f
    else if (s.advanceTo t).frameResult f (fault.getD (framePlain f)) = 0 then
      (s.advanceTo t).storeFrame session f (lanePlain (fault.getD (framePlain f)))
    else (s.advanceTo t).emit (.frameAnswer session f.fseq ((s.advanceTo t).frameResult f (fault.getD (framePlain f))))) := by
  have hon : (s.advanceTo t).session? session = some x := by
    rw [State.session?, advanceTo_idm]
    exact hx
  show execReplicationFrame _ _ _ _ _ = _
  unfold execReplicationFrame
  dsimp only
  rw [hon, advanceTo_md, hadmits, if_neg]
  · rfl
  · simp [hpurpose, hstate]
    omega

end

theorem frameResult_advanceTo (t : Nat) (f : ReplFrame) (lane : LaneDecode) (s : State) :
    (s.advanceTo t).frameResult f lane = s.frameResult f lane := by
  unfold State.frameResult State.ns?
  rw [advanceTo_nvq, advanceTo_repl]

/-- What names a write: its number, volume, acceptance and first block. -/
def writeName (w : WriteOp) : Nat × Nat × Option Nat × Nat := (w.seq, w.vol, w.acc, w.slba)

/-- A change of a write that keeps its name leaves every name among the writes. -/
theorem updWrite_names {seq : Nat} {f : WriteOp → WriteOp} {s : State} (hf : ∀ w, writeName (f w) = writeName w) :
    (s.updWrite seq f).adm.writes.map writeName = s.adm.writes.map writeName := by
  show (s.adm.writes.map _).map writeName = _
  rw [List.map_map]
  refine List.map_congr_left fun w _ => ?_
  show writeName (if w.seq = seq then f w else w) = _
  split
  · exact hf w
  · rfl

theorem formGrain_names (seq g : Nat) (plain : List Byte) (tags : DWord) (s : State) :
    (s.formGrain seq g plain tags).adm.writes.map writeName = s.adm.writes.map writeName := by
  unfold State.formGrain
  split
  · rfl
  · split
    · rfl
    · dsimp only
      refine (updWrite_names fun w => by rfl).trans ?_
      split <;> rfl

/-- A frame's grain is stored by a write with the frame's ATICK, which its replica holds from then on. -/
theorem storeFrame_stores (session : Nat) (f : ReplFrame) (plain : List Byte) (s : State) :
    (NMap.find (s.storeFrame session f plain).repl.replicas f.tvol).bind (fun m => NMap.find m f.grain) = some f.atick ∧
      (s.adm.nextSeq, f.tvol, some f.atick, 4 * f.grain) ∈ (s.storeFrame session f plain).adm.writes.map writeName := by
  unfold State.storeFrame
  dsimp only
  constructor
  · rw [(State.formGrain_frame _ _ _ _ _).repl (by decide)]
    dsimp only
    rw [find_put_self]
    exact find_put_self _ _ _
  · rw [formGrain_names]
    dsimp only
    rw [List.map_append]
    exact List.mem_append_right _ (List.mem_singleton.2 rfl)

/-- A commit frame with nothing left to store is answered with 0. -/
theorem commitFrame_answered {session : Nat} {f : ReplFrame} {n : Ns} {s : State} (hn : s.ns? f.tvol = some n)
    (hrep : n.replica.isSome = true) (hserved : n.served = true) (hw : s.adm.writes = []) (hfenced : s.moor.fenced = false) :
    Sends (.frameAnswer session f.fseq 0) s (s.commitFrame session f) := by
  have hframe := State.commitView_frame f.tvol s
  have hrun : s.commitFrame session f = (s.commitView f.tvol).emit (.frameAnswer session f.fseq 0) := by
    unfold State.commitFrame
    rw [hn, hw]
    simp [hrep, hserved]
  rw [hrun]
  refine sends_before hframe ⟨[_], emit_sends ?_, List.mem_singleton.2 rfl⟩
  rw [hframe.moor (by decide)]
  exact hfenced

/-! ### Results and deadlines at the source -/

theorem advanceTo_target (t i j : Nat) (s : State) : (s.advanceTo t).target? i j = s.target? i j := target_of_repl (advanceTo_repl t s)

/-- The answer to a frame of a set takes it out of what is in flight. -/
theorem exec_replicationResult {t i j unit : Nat} {f : ReplFrame} {l : Link} {x : Target} {s : State}
    (hl : NMap.find s.repl.links i = some l) (hx : s.target? i j = some x)
    (hflight : x.flight.find? (fun y => y.1 == f.fseq) = some (f.fseq, none, unit)) (hr : f.result = 0 ∨ f.result = 4)
    (hc : f.fseq ≠ x.commitSeq) : Sys2Proof.Machine.exec (.replicationResult t i j f) s =
      .next ((s.advanceTo t).updTarget i j (fun x => { x with flight := x.flight.filter (fun y => y.1 != f.fseq) })) := by
  show execReplicationResult _ _ _ _ _ = _
  unfold execReplicationResult
  dsimp only
  rw [advanceTo_repl, hl, advanceTo_target, hx]
  dsimp only
  rw [hflight]
  dsimp only
  rw [if_pos hr, if_neg hc]

theorem target_updTarget {i j : Nat} {x : Target} {s : State} (h : s.target? i j = some x) (f : Target → Target) :
    (s.updTarget i j f).target? i j = some (f x) := by
  unfold State.target? at h
  cases hl : NMap.find s.repl.links i with
  | none => rw [hl] at h; cases h
  | some l =>
    rw [hl] at h
    have hx : NMap.find l.targets j = some x := h
    unfold State.updTarget
    rw [target_updLink hl]
    show NMap.find (NMap.upd l.targets j f) j = _
    rw [find_upd, if_pos rfl, hx]
    rfl

/-- A target that misses is out of sync. -/
theorem missTarget_state {i j : Nat} {units : List Nat} {x : Target} {s : State} (h : s.target? i j = some x) :
    ((s.missTarget i j units).target? i j).map (·.state) = some 1 := by
  have hmiss : ((s.updTarget i j (Target.missed units)).target? i j).map (·.state) = some 1 := by
    rw [target_updTarget h]
    show some (Target.missed units x).state = _
    unfold Target.missed
    split <;> rfl
  unfold State.missTarget
  rw [h]
  dsimp only
  split
  · rw [target_of_repl (record_repl _ _ _)]
    exact hmiss
  · exact hmiss

/-- With no write durable, none ends. -/
theorem checkWrites_none {s : State} (h : ∀ w ∈ s.adm.writes, w.durable (s.needsAck w) = false) : s.checkWrites = s := by
  have hnone : s.adm.writes.filter (fun w => w.durable (s.needsAck w) && w.syncWait.isEmpty) = [] :=
    List.filter_eq_nil_iff.2 fun w hw => by rw [h w hw]; exact Bool.false_ne_true
  unfold State.checkWrites
  split
  · rfl
  · rw [hnone]
    rfl

theorem heard_durable (j : Nat) (r b : Bool) (w : WriteOp) : (w.heard j r).durable b = w.durable b ∧ (w.heard j r).mirrored = w.mirrored := by
  unfold WriteOp.heard
  split <;> exact ⟨rfl, rfl⟩

theorem write_updWrite {seq : Nat} {f : WriteOp → WriteOp} {w : WriteOp} {s : State} (hf : ∀ w, (f w).seq = w.seq)
    (h : s.write? seq = some w) : (s.updWrite seq f).write? seq = some (f w) := by
  have hseq : w.seq = seq := by simpa using List.find?_some h
  have hsame : ((fun x : WriteOp => x.seq == seq) ∘ fun x => if x.seq = seq then f x else x) = fun x => x.seq == seq := by
    funext x
    dsimp only [Function.comp_apply]
    split
    · rw [hf]
    · rfl
  have h' : s.adm.writes.find? (fun x => x.seq == seq) = some w := h
  show (s.adm.writes.map _).find? _ = _
  rw [List.find?_map, hsame, h']
  show some (if w.seq = seq then f w else w) = _
  rw [if_pos hseq]

theorem heard_seq (j : Nat) (r : Bool) (w : WriteOp) : (w.heard j r).seq = w.seq := by
  unfold WriteOp.heard
  split <;> rfl

theorem needsAck_of_md {w : WriteOp} {s u : State} (hm : u.md.mode = s.md.mode) (hf : u.md.relayFrom = s.md.relayFrom) :
    u.needsAck w = s.needsAck w := by
  unfold State.needsAck State.service
  rw [hm, hf]

/-- A synchronous target that has not answered by its write's deadline is missed and out of sync. -/
theorem exec_syncTargetDeadline {t seq j i : Nat} {w : WriteOp} {l : Link} {x : Target} {s : State} (ht : Ticking t s)
    (hw : s.write? seq = some w) (hresv : w.resv.isSome = true) (hj : j ∈ w.syncWait) (hdue : w.deadline ≤ t)
    (hl : s.repl.links.find? (fun p => decide (p.2.vol = w.vol) && p.2.sync && p.2.home) = some (i, l))
    (hx : s.target? i j = some x) (hopen : ∀ v ∈ s.adm.writes, v.durable (s.needsAck v) = false) :
    ∃ u w', Sys2Proof.Machine.exec (.syncTargetDeadline t seq j) s = .next u ∧ (u.target? i j).map (·.state) = some 1 ∧
      u.write? seq = some w' ∧ j ∉ w'.syncWait ∧ j ∈ w'.syncMiss := by
  let a := (s.advanceTo t).updTarget i j (fun t => { t with flight := t.flight.filter (fun f => f.2.1 != some seq) })
  have hwrites : (s.advanceTo t).write? seq = some w := by
    unfold State.write?
    rw [advanceTo_adm]
    exact hw
  have hrun : Sys2Proof.Machine.exec (.syncTargetDeadline t seq j) s =
      .next ((a.missTarget i j w.units).updWrite seq (WriteOp.heard j false)).checkWrites := by
    have hlate : ¬ (w.resv.isNone || !w.syncWait.contains j || decide ((s.advanceTo t).time.now < w.deadline)) = true := by
      rw [advanceTo_now ht.1 ht.2.1 ht.2.2]
      simp [Option.isSome_iff_ne_none.1 hresv, hj, hdue]
    show execSyncTargetDeadline _ _ _ _ = _
    unfold execSyncTargetDeadline
    dsimp only
    rw [hwrites]
    dsimp only
    rw [if_neg hlate, advanceTo_repl, hl]
  have hf := State.missTarget_frame i j w.units a
  have hadm : (a.missTarget i j w.units).adm = s.adm := (hf.adm (by decide)).trans (advanceTo_adm t s)
  have hneeds (v : WriteOp) : (a.missTarget i j w.units).needsAck v = s.needsAck v := by
    refine needsAck_of_md ((hf.mode (by decide)).trans ?_) ((hf.mdKept (by decide) (·.relayFrom) fun _ => rfl).trans ?_)
    · show (s.advanceTo t).md.mode = _
      rw [advanceTo_md]
    · show (s.advanceTo t).md.relayFrom = _
      rw [advanceTo_md]
  rw [checkWrites_none] at hrun
  · refine ⟨_, w.heard j false, hrun, ?_, ?_, ?_⟩
    · exact missTarget_state (target_updTarget ((advanceTo_target t i j s).trans hx) _)
    · refine write_updWrite (heard_seq j false) ?_
      unfold State.write?
      rw [hadm]
      exact hw
    · unfold WriteOp.heard
      simp [hj]
  · intro v hv
    obtain ⟨v0, hv0, rfl⟩ := List.mem_map.1 hv
    rw [hadm] at hv0
    show WriteOp.durable ((a.missTarget i j w.units).needsAck _) _ = false
    have hv' := hopen v0 hv0
    rw [hneeds]
    split
    · obtain ⟨hdur, hmir⟩ := heard_durable j false (s.needsAck (v0.heard j false)) v0
      rw [hdur]
      unfold State.needsAck at hv' ⊢
      rw [hmir]
      exact hv'
    · exact hv'

/-! ### Sets -/

/-- A set starts with its interval. -/
theorem exec_replicationInterval {t i k : Nat} {l : Link} {n : Ns} {s : State} (ht : Ticking t s) (hl : NMap.find s.repl.links i = some l)
    (hsync : l.sync = false) (hhome : l.home = true) (hadmits : s.md.mode.admits = true) (hover : s.md.overload = false)
    (hdue : l.lastTick + l.interval * secondTicks ≤ t) (hbusy : l.busy = false) (hn : s.ns? l.vol = some n)
    (hk : firstFree 0 1024 (NMap.has n.snaps) = some k) (hpeers : ∀ p ∈ s.idm.sessions, p.2.purpose ≠ 2) :
    ∃ u, Sys2Proof.Machine.exec (.replicationInterval t i) s = .next u ∧
      (NMap.find u.repl.links i).map (fun l => (l.setSeq, l.lastTick)) = some (l.setSeq + 1, t) := by
  let a := (s.advanceTo t).updLink i (fun l => { l with lastTick := t })
  have hla : NMap.find (s.advanceTo t).repl.links i = some l := by rw [advanceTo_repl]; exact hl
  have hfind : NMap.find a.repl.links i = some { l with lastTick := t } := find_updLink hla _
  have hna : a.ns? l.vol = some n := by
    show NMap.find (s.advanceTo t).nvq.ns l.vol = _
    rw [advanceTo_nvq]
    exact hn
  have hpa : ∀ p ∈ a.idm.sessions, p.2.purpose ≠ 2 := by
    show ∀ p ∈ (s.advanceTo t).idm.sessions, _
    rw [advanceTo_idm]
    exact hpeers
  have hrun : Sys2Proof.Machine.exec (.replicationInterval t i) s = .next (a.startSet i).2 := by
    have hnow := advanceTo_now ht.1 ht.2.1 ht.2.2
    show execReplicationInterval _ _ _ = _
    unfold execReplicationInterval
    dsimp only
    rw [hla]
    dsimp only
    rw [hnow, advanceTo_md, if_neg]
    simp [hsync, hhome, hadmits, hover, hdue]
  have hstart := startSet_alone (s := a) hfind hbusy hna hk hpa
  rw [hstart] at hrun
  have hrepl : (replSnapped l.vol k a).repl = a.repl := (replSnapped_frame _ _ _).repl (by decide)
  refine ⟨_, hrun, ?_⟩
  show (NMap.find (State.updLink i _ _).repl.links i).map _ = _
  rw [find_updLink (by rw [hrepl]; exact hfind)]
  rfl

/-- What a set that goes out leaves as it was: each link's count of sets, each target's state and set. -/
def SetKept (s u : State) : Prop :=
  (∀ k, (NMap.find u.repl.links k).map (·.setSeq) = (NMap.find s.repl.links k).map (·.setSeq)) ∧
    ∀ i j, (u.target? i j).map (fun x => (x.state, x.cur)) = (s.target? i j).map (fun x => (x.state, x.cur))

theorem SetKept.of_repl {s u : State} (h : u.repl = s.repl) : SetKept s u := ⟨fun k => by rw [h], fun i j => by rw [target_of_repl h]⟩

theorem SetKept.trans {s x u : State} (h : SetKept x u) (h' : SetKept s x) : SetKept s u :=
  ⟨fun k => (h.1 k).trans (h'.1 k), fun i j => (h.2 i j).trans (h'.2 i j)⟩

theorem SetKept.updTarget {i j : Nat} {f : Target → Target} (hf : ∀ x, (f x).state = x.state ∧ (f x).cur = x.cur) (s : State) :
    SetKept s (s.updTarget i j f) := by
  refine ⟨fun k => find_upd_map s.repl.links i (fun l => { l with targets := NMap.upd l.targets j f }) Link.setSeq (fun _ => rfl) k, fun i' j' => ?_⟩
  unfold State.updTarget State.updLink State.target?
  dsimp only
  rw [find_upd]
  split
  · rename_i hi
    subst hi
    cases hl : NMap.find s.repl.links i with
    | none => rfl
    | some l =>
      refine (find_upd_map l.targets j f (fun x => (x.state, x.cur)) (fun x => ?_) j')
      rw [(hf x).1, (hf x).2]
  · rfl

theorem SetKept.sendFrame (i j : Nat) (f : ReplFrame) (owner : Option Nat) (s : State) : SetKept s (s.sendFrame i j f owner).2.2 := by
  unfold State.sendFrame
  split
  · exact .of_repl rfl
  · split
    · exact .of_repl rfl
    · rename_i x _
      have hcounter : (s.takeCounter (keySlot x.keyid x.phaseTx)).2.repl = s.repl := (State.takeCounter_frame _ s).repl (by decide)
      split
      · rename_i s1 heq
        rw [heq] at hcounter
        exact .of_repl hcounter
      · rename_i s1 heq
        rw [heq] at hcounter
        refine .trans (.of_repl ((State.emit_frame _ _).repl (by decide))) (.trans (.updTarget ?_ s1) (.of_repl hcounter))
        exact fun _ => ⟨rfl, rfl⟩

theorem SetKept.sendSet (i j : Nat) (s : State) : SetKept s (s.sendSet i j) := by
  have hframes (owner : Option Nat) (fs : List ReplFrame) (a : Bool × State) (ha : SetKept s a.2) : SetKept s (fs.foldl (fun (a : Bool × State) f =>
      if a.1 then (let r := a.2.sendFrame i j f owner; (r.1, r.2.2)) else a) a).2 := by
    induction fs generalizing a with
    | nil => exact ha
    | cons f fs ih =>
      refine ih _ ?_
      dsimp only
      split
      · exact (SetKept.sendFrame i j f owner a.2).trans ha
      · exact ha
  unfold State.sendSet
  split
  · split
    · dsimp only
      split
      · exact .of_repl rfl
      · have hsent (es : List MapEnt) (fs : List ReplFrame) :=
          hframes none fs (true, s.bookSetReads es) (.of_repl ((State.bookSetReads_frame _ s).repl (by decide)))
        have hclosed (r : Bool × State) (hr : SetKept s r.2) : SetKept s (if r.1 then
            r.2.updTarget i j (fun t => { t with commitSeq := t.fseq })
            else r.2.updTarget i j (fun t => { t with flight := t.flight.filter (fun f => f.2.1.isSome) })) := by
          split
          · exact .trans (.updTarget (by exact fun _ => ⟨rfl, rfl⟩) r.2) hr
          · exact .trans (.updTarget (by exact fun _ => ⟨rfl, rfl⟩) r.2) hr
        exact hclosed _ (hsent _ _)
    · exact .of_repl rfl
  · exact .of_repl rfl

/-- A target whose set has its snapshot, out of sync no longer. -/
def resyncing (k i j n : Nat) (s : State) : State :=
  let s4 := s.updLink i (fun l => { l with setSeq := l.setSeq + 1 })
  (s4.updTarget i j (fun x => { x with state := 2, cur := some k, from_ := s4.time.now, lastTry := none })).record 0x6302 [i, j, n]

theorem resyncing_kept {k i j n m : Nat} {x : Target} {s : State} (hl : (NMap.find s.repl.links i).map (·.setSeq) = some m)
    (hx : s.target? i j = some x) : (NMap.find (resyncing k i j n s).repl.links i).map (·.setSeq) = some (m + 1) ∧
      ((resyncing k i j n s).target? i j).map (fun x => (x.state, x.cur)) = some (2, some k) := by
  cases hfind : NMap.find s.repl.links i with
  | none => rw [hfind] at hl; cases hl
  | some l =>
    rw [hfind] at hl
    have hm : l.setSeq = m := Option.some.inj hl
    have hx' : (s.updLink i (fun l => { l with setSeq := l.setSeq + 1 })).target? i j = some x := by
      rw [target_updLink hfind]
      unfold State.target? at hx
      rw [hfind] at hx
      exact hx
    unfold resyncing
    constructor
    · rw [record_repl, State.updTarget, find_updLink (find_updLink hfind _), ← hm]
      rfl
    · rw [target_of_repl (record_repl _ _ _), target_updTarget hx']
      rfl

/-- A target that has been tried. -/
def triedTarget (t i j : Nat) (s : State) : State := s.updTarget i j (fun x => { x with lastTry := some t })

theorem triedTarget_link {t i j : Nat} {l : Link} {s : State} (hl : NMap.find s.repl.links i = some l) :
    (NMap.find (triedTarget t i j s).repl.links i).map (·.setSeq) = some l.setSeq := by
  unfold triedTarget State.updTarget
  rw [find_updLink hl]
  rfl

theorem lastTry_due {t : Nat} {x : Target} (h : ∀ a, x.lastTry = some a → a + secondTicks ≤ t) :
    x.lastTry.all (fun a => decide (a + secondTicks ≤ t)) = true := by
  cases hlast : x.lastTry with
  | none => rfl
  | some a =>
    rw [Option.all_some]
    exact decide_eq_true (h a hlast)

section
variable {t i j : Nat} {l : Link} {x : Target} {s : State} (ht : Ticking t s) (hl : NMap.find s.repl.links i = some l)
  (hx : s.target? i j = some x) (hhome : l.home = true) (hsync : l.sync = true) (hstate : x.state = 1)
  (hadmits : s.md.mode.admits = true) (htry : ∀ a, x.lastTry = some a → a + secondTicks ≤ t)

include ht hl hx hhome hsync hstate hadmits htry

/-- A target whose session does not open is tried, and nothing else changes for it. -/
theorem targetResyncAttempt_unopened : ∃ u, Sys2Proof.Machine.exec (.targetResyncAttempt t i j false) s = .next u ∧
    u.target? i j = some { x with lastTry := some t } := by
  have hdue := lastTry_due htry
  have hrun : Sys2Proof.Machine.exec (.targetResyncAttempt t i j false) s =
      .next ((((s.advanceTo t).callPeer x.desc).2).updTarget i j (fun x => { x with lastTry := some t })) := by
    show execTargetResyncAttempt _ _ _ _ _ = _
    unfold execTargetResyncAttempt
    dsimp only
    rw [advanceTo_repl, hl, advanceTo_target, hx]
    dsimp only
    rw [advanceTo_now ht.1 ht.2.1 ht.2.2, advanceTo_md, hadmits, hdue, hhome, hsync, hstate, if_neg (by simp), Bool.not_false,
      Bool.true_or, if_pos rfl]
  refine ⟨_, hrun, ?_⟩
  refine target_updTarget (x := x) ?_ _
  rw [target_of_repl ((State.callPeer_frame x.desc _).repl (by decide)), advanceTo_target]
  exact hx

/-- With its session open it is resynchronised from a snapshot. -/
theorem targetResyncAttempt_opened {n : Ns} {k : Nat} (hcur : x.cur = none)
    (hsession : ∃ p ∈ s.idm.sessions, p.2.purpose = 2 ∧ p.2.source = x.desc.peer ∧ p.2.state = 2)
    (hn : s.ns? l.vol = some n) (hk : firstFree 0 1024 (NMap.has n.snaps) = some k) :
    ∃ u, Sys2Proof.Machine.exec (.targetResyncAttempt t i j true) s = .next u ∧
      (NMap.find u.repl.links i).map (·.setSeq) = some (l.setSeq + 1) ∧
      (u.target? i j).map (fun x => (x.state, x.cur)) = some (2, some k) := by
  obtain ⟨p, hp, hpurpose, hsource, hpstate⟩ := hsession
  have hdue := lastTry_due htry
  have hla : NMap.find (s.advanceTo t).repl.links i = some l := by rw [advanceTo_repl]; exact hl
  have hcalled : (s.advanceTo t).callPeer x.desc = (true, s.advanceTo t) :=
    callPeer_there ⟨p, by rw [advanceTo_idm]; exact hp, hpurpose, hsource, by rw [hpstate]; decide⟩
  have hthere : ((triedTarget t i j (s.advanceTo t)).replSession x.desc).isNone = false := by
    unfold State.replSession
    rw [Option.isNone_map]
    refine Option.isNone_eq_false_iff.2 (List.find?_isSome.2 ⟨p, ?_, ?_⟩)
    · show p ∈ (s.advanceTo t).idm.sessions
      rw [advanceTo_idm]
      exact hp
    · simp [hpurpose, hsource, hpstate]
  have hns : (triedTarget t i j (s.advanceTo t)).ns? l.vol = some n := by
    show NMap.find (s.advanceTo t).nvq.ns l.vol = _
    rw [advanceTo_nvq]
    exact hn
  have hrun : Sys2Proof.Machine.exec (.targetResyncAttempt t i j true) s =
      .next ((resyncing k i j (l.setSeq + 1) (replSnapped l.vol k (triedTarget t i j (s.advanceTo t)))).sendSet i j) := by
    show execTargetResyncAttempt _ _ _ _ _ = _
    unfold execTargetResyncAttempt
    dsimp only
    rw [hla, advanceTo_target, hx]
    dsimp only
    rw [advanceTo_now ht.1 ht.2.1 ht.2.2, advanceTo_md, hadmits, hdue, hhome, hsync, hstate, if_neg (by simp), hcalled]
    dsimp only
    rw [Bool.not_true, Bool.false_or, ← triedTarget, hthere, if_neg Bool.false_ne_true, hcur, if_neg (by simp),
      replSnap_takes hns hk]
    rfl
  have hrepl : (replSnapped l.vol k (triedTarget t i j (s.advanceTo t))).repl = (triedTarget t i j (s.advanceTo t)).repl :=
    (replSnapped_frame _ _ _).repl (by decide)
  obtain ⟨hseq, hstates⟩ := resyncing_kept (m := l.setSeq) (x := { x with lastTry := some t }) (n := l.setSeq + 1) (k := k)
    ((congrArg (fun r => (NMap.find (ReplState.links r) i).map (·.setSeq)) hrepl).trans (triedTarget_link hla))
    ((target_of_repl hrepl).trans (target_updTarget ((advanceTo_target t i j s).trans hx) _))
  have hkept := SetKept.sendSet i j (resyncing k i j (l.setSeq + 1) (replSnapped l.vol k (triedTarget t i j (s.advanceTo t))))
  exact ⟨_, hrun, (hkept.1 i).trans hseq, (hkept.2 i j).trans hstates⟩

end

/-- Settles O30: frames, results, deadlines, intervals and resynchronisation by the chapter's rules. -/
theorem replicationFramesSetsAndTargets : Obligations.ReplicationFramesSetsAndTargets := by
  refine ⟨fun t session f fault x s hx hpurpose hstate hadmits hfenced => ⟨fun hlow hhigh hres => ?_, fun hlow hhigh hres => ?_,
      fun n hkind hn hrep hserved hw => ?_⟩,
    fun t i j unit f l x s hl hx hflight hr hc => exec_replicationResult hl hx hflight hr hc,
    fun t seq j i w l x s ht hw hresv hj hdue hl hx hopen => exec_syncTargetDeadline ht hw hresv hj hdue hl hx hopen,
    fun t i k l n s ht hl hsync hhome hadmits hover hdue hbusy hn hk hpeers =>
      exec_replicationInterval ht hl hsync hhome hadmits hover hdue hbusy hn hk hpeers,
    fun t i j l x s ht hl hx hhome hsync hstate hadmits htry => ⟨targetResyncAttempt_unopened ht hl hx hhome hsync hstate hadmits htry,
      fun n k hcur hsession hn hk => targetResyncAttempt_opened ht hl hx hhome hsync hstate hadmits htry hcur hsession hn hk⟩⟩
  · have hrun := exec_replicationFrame (t := t) (session := session) (f := f) (fault := fault) hx hpurpose hstate hadmits hlow (by omega)
    rw [if_neg (by omega), frameResult_advanceTo, if_pos hres] at hrun
    obtain ⟨hreplica, hwrite⟩ := storeFrame_stores session f (lanePlain (fault.getD (framePlain f))) (s.advanceTo t)
    obtain ⟨w, hw, hname⟩ := List.mem_map.1 hwrite
    rw [advanceTo_adm] at hname
    simp only [writeName, Prod.mk.injEq] at hname
    exact ⟨_, hrun, hreplica, w, hw, hname⟩
  · have hrun := exec_replicationFrame (t := t) (session := session) (f := f) (fault := fault) hx hpurpose hstate hadmits hlow (by omega)
    rw [if_neg (by omega), frameResult_advanceTo, if_neg hres] at hrun
    have hf := State.emit_frame (.frameAnswer session f.fseq (s.frameResult f (fault.getD (framePlain f)))) (s.advanceTo t)
    refine ⟨_, hrun, (hf.adm (by decide)).trans (advanceTo_adm t s), (hf.repl (by decide)).trans (advanceTo_repl t s), ?_⟩
    refine sends_before (State.advanceTo_frame t s) ⟨[_], emit_sends ?_, List.mem_singleton.2 rfl⟩
    rw [advanceTo_moor]
    exact hfenced
  · have hrun := exec_replicationFrame (t := t) (session := session) (f := f) (fault := fault) hx hpurpose hstate hadmits (by omega) (by omega)
    rw [if_pos hkind] at hrun
    refine ⟨_, hrun, sends_before (State.advanceTo_frame t s) (commitFrame_answered (n := n) ?_ hrep hserved ?_ ?_)⟩
    · rw [State.ns?, advanceTo_nvq]
      exact hn
    · rw [advanceTo_adm]
      exact hw
    · rw [advanceTo_moor]
      exact hfenced


end Sys2Proof.Proofs
end

section
/-!
SUPPORT. Pods (R281 to R284): heartbeats, the master and the partitions.
-/

namespace Sys2Proof.Proofs

open Sys2Proof.Machine Sys2Proof.Safety Sys2Proof.Laws

theorem setMaster_repl (d epoch : Nat) (s : State) : (s.setMaster d epoch).repl = { s.repl with master := some d, podEpoch := epoch } :=
  record_repl _ _ _

theorem setMaster_image (d epoch : Nat) (s : State) : (s.setMaster d epoch).image = s.image :=
  (State.setMaster_frame d epoch s).image (by decide)

@[simp] theorem inPod_advanceTo (t : Nat) (s : State) : (s.advanceTo t).inPod = s.inPod := by rw [State.inPod, advanceTo_image, State.inPod]

/-- A heartbeat noted, with the master that one of a later epoch names. -/
def heartbeatHeard (t device epoch masterView : Nat) (s : State) : State :=
  let s2 : State := { s with repl := { s.repl with heard := NMap.put s.repl.heard device t } }
  if s2.repl.podEpoch < epoch && decide (masterView < 8) then s2.setMaster masterView epoch else s2

theorem heartbeatHeard_repl (t d ep m : Nat) (s : State) : (heartbeatHeard t d ep m s).repl =
    if s.repl.podEpoch < ep ∧ m < 8 then { s.repl with heard := NMap.put s.repl.heard d t, master := some m, podEpoch := ep }
    else { s.repl with heard := NMap.put s.repl.heard d t } := by
  unfold heartbeatHeard
  by_cases h : s.repl.podEpoch < ep ∧ m < 8
  · rw [if_pos h, if_pos (by simpa using h), setMaster_repl]
  · rw [if_neg h, if_neg (by simpa using h)]

theorem heartbeatHeard_image (t d ep m : Nat) (s : State) : (heartbeatHeard t d ep m s).image = s.image := by
  unfold heartbeatHeard
  dsimp only
  split
  · exact setMaster_image _ _ _
  · rfl

section
variable {t : Nat} {s : State} (ht : Ticking t s) (hpod : s.inPod = true) (hfront : s.md.mode.frontEnd = true)
include ht hpod hfront

theorem exec_podHeartbeatSend (hdue : ∀ a, s.repl.sentTick = some a → a + 100 * msTicks ≤ t) :
    Sys2Proof.Machine.exec (.podHeartbeatSend t) s = .next (({ s.advanceTo t with
      repl := { s.repl with sentTick := some t } } : State).emit (.heartbeat s.repl.podEpoch s.repl.master)) := by
  have hdue' : s.repl.sentTick.all (fun a => decide (a + 100 * msTicks ≤ t)) = true := by
    cases hlast : s.repl.sentTick with
    | none => rfl
    | some a =>
      rw [Option.all_some]
      exact decide_eq_true (hdue a hlast)
  show execPodHeartbeatSend _ _ = _
  unfold execPodHeartbeatSend
  dsimp only
  rw [advanceTo_repl, advanceTo_now ht.1 ht.2.1 ht.2.2, hdue', inPod_advanceTo, hpod, advanceTo_md, hfront, if_neg (by simp)]

omit ht hpod hfront in
/-- A heartbeat of an epoch that is past is ignored. -/
theorem exec_podHeartbeat_past {d ep m : Nat} (h : ep < s.repl.podEpoch) :
    Sys2Proof.Machine.exec (.podHeartbeat t d ep m) s = .next (s.advanceTo t) := by
  show execPodHeartbeat _ _ _ _ _ = _
  unfold execPodHeartbeat
  dsimp only
  rw [advanceTo_repl, if_pos (by simp [h])]

theorem exec_podHeartbeat {d ep m : Nat} (h : s.repl.podEpoch ≤ ep) (hself : s.image.podSelf ≠ s.image.podDesignated) :
    Sys2Proof.Machine.exec (.podHeartbeat t d ep m) s = .next (heartbeatHeard t d ep m (s.advanceTo t)) := by
  have himage : (heartbeatHeard t d ep m (s.advanceTo t)).image = s.image := (heartbeatHeard_image _ _ _ _ _).trans (advanceTo_image t s)
  have hgo : ¬ (!(s.advanceTo t).inPod || !(s.advanceTo t).md.mode.frontEnd || decide (ep < (s.advanceTo t).repl.podEpoch)) = true := by
    rw [inPod_advanceTo, hpod, advanceTo_md, hfront, advanceTo_repl]
    simpa using h
  have hrun : Sys2Proof.Machine.exec (.podHeartbeat t d ep m) s = .next
      (if (heartbeatHeard t d ep m (s.advanceTo t)).image.podSelf == (heartbeatHeard t d ep m (s.advanceTo t)).image.podDesignated &&
          (heartbeatHeard t d ep m (s.advanceTo t)).repl.master == some d && d != (heartbeatHeard t d ep m (s.advanceTo t)).image.podSelf then
        (heartbeatHeard t d ep m (s.advanceTo t)).setMaster (heartbeatHeard t d ep m (s.advanceTo t)).image.podSelf
          ((heartbeatHeard t d ep m (s.advanceTo t)).repl.podEpoch + 1)
      else heartbeatHeard t d ep m (s.advanceTo t)) := by
    show execPodHeartbeat _ _ _ _ _ = _
    unfold execPodHeartbeat
    dsimp only
    rw [if_neg hgo, advanceTo_now ht.1 ht.2.1 ht.2.2]
    rfl
  rw [hrun, himage, if_neg]
  simp [hself]

section
variable {m : Nat} (hm : s.repl.master = some m) (hother : m / 2 ≠ s.image.podSelf / 2) (hsilent : (s.advanceTo t).heardDevice m = false)
  (hpartner : (s.advanceTo t).heardDevice (m / 2 * 2 + (1 - m % 2)) = false)
include hm hother hsilent hpartner

omit ht in
theorem exec_masterSilence : Sys2Proof.Machine.exec (.masterSilence t) s = .next
    (if 2 * (s.advanceTo t).reachable.length ≤ s.image.podPairs.length then
      ({ s.advanceTo t with repl := { s.repl with master := none } } : State).noMaster
    else if (s.advanceTo t).successor m == some s.image.podSelf then (s.advanceTo t).setMaster s.image.podSelf (s.repl.podEpoch + 1)
    else s.advanceTo t) := by
  have hgo : ¬ (!s.inPod || !s.md.mode.frontEnd || m / 2 == s.image.podSelf / 2 || (s.advanceTo t).heardDevice m ||
      (s.advanceTo t).heardDevice (m / 2 * 2 + (1 - m % 2))) = true := by
    simp [hpod, hfront, hother, hsilent, hpartner]
  show execMasterSilence _ _ = _
  unfold execMasterSilence
  dsimp only
  rw [advanceTo_repl, hm]
  dsimp only
  rw [inPod_advanceTo, advanceTo_md, advanceTo_image, if_neg hgo]
  by_cases hmajor : 2 * (s.advanceTo t).reachable.length ≤ s.image.podPairs.length
  · rw [if_pos hmajor, if_pos (by simpa using hmajor)]
  · rw [if_neg hmajor, if_neg (by simpa using hmajor)]

end

end

/-- A partition moves to its new holder. -/
theorem exec_partitionHandover {t p new : Nat} {s : State} (hpod : s.inPod = true) (hp : p < 256)
    (hnew : s.image.podPairs.contains new = true) (hmoves : s.holder p ≠ new) :
    ∃ u, Sys2Proof.Machine.exec (.partitionHandover t p new) s = .next u ∧ u.repl = { s.repl with parts := NMap.put s.repl.parts p new } := by
  have hholder : (s.advanceTo t).holder p = s.holder p := by rw [State.holder, advanceTo_repl, advanceTo_image, State.holder]
  have hgo : ¬ (!s.inPod || decide (256 ≤ p) || !s.image.podPairs.contains new || s.holder p == new) = true := by
    simp only [hpod, hnew, Bool.not_true, Bool.false_or, Bool.or_false, Bool.or_eq_true, decide_eq_true_eq, beq_iff_eq, not_or]
    exact ⟨Nat.not_le.2 hp, hmoves⟩
  refine ⟨_, rfl, ?_⟩
  dsimp only
  rw [inPod_advanceTo, advanceTo_image, hholder, if_neg hgo, advanceTo_repl]
  split
  · exact ((State.emit_frame _ _).repl (by decide)).trans (record_repl _ _ _)
  · rfl

/-- Settles O31: heartbeats, the silence of a master and the handover of a partition, by the chapter's rules. -/
theorem podsChooseTheirMaster : Obligations.PodsChooseTheirMaster := by
  intro t s ht hpod hfront
  refine ⟨fun hdue hfenced => ?_, fun d ep m => ⟨fun hpast => exec_podHeartbeat_past hpast, fun hle hself => ?_⟩,
    fun m hm hother hsilent hpartner => ?_, fun p new hp hnew hmoves => exec_partitionHandover hpod hp hnew hmoves⟩
  · refine ⟨_, exec_podHeartbeatSend ht hpod hfront hdue, ?_, (State.emit_frame _ _).repl (by decide)⟩
    refine sends_before (State.advanceTo_frame t s) ⟨[_], emit_sends ?_, List.mem_singleton.2 rfl⟩
    show (s.advanceTo t).moor.fenced = false
    rw [advanceTo_moor]
    exact hfenced
  · refine ⟨_, exec_podHeartbeat ht hpod hfront hle hself, ?_⟩
    rw [heartbeatHeard_repl, advanceTo_repl]
  · have hrun := exec_masterSilence hpod hfront hm hother hsilent hpartner
    refine ⟨fun hminor => ?_, fun hmajor hself => ?_⟩
    · rw [if_pos hminor] at hrun
      exact ⟨_, hrun, record_repl _ _ _⟩
    · rw [if_neg (Nat.not_le.2 hmajor), if_pos (by simp [hself])] at hrun
      exact ⟨_, hrun, (setMaster_repl _ _ _).trans (by rw [advanceTo_repl])⟩

end Sys2Proof.Proofs
end

section
/-!
SUPPORT. Beacons, the lease and the paths (R248 to R252, R260, R266, R270).
-/

namespace Sys2Proof.Proofs

open Sys2Proof.Machine Sys2Proof.Safety Sys2Proof.Laws

/-! ### Sending -/

theorem beaconBody_crc (b : Beacon) (c : Word) : beaconBody { b with crc := c } = beaconBody b := rfl

theorem makeBeacon_crc (wake : Bool) (s : State) : (s.makeBeacon wake).crc = crc32c (beaconBody (s.makeBeacon wake)) := by
  unfold State.makeBeacon
  dsimp only
  exact congrArg crc32c (beaconBody_crc _ _).symm

/-- What makes a beacon this head's next: its number, its tick, the pair and the epoch. -/
def beaconName (s : State) : Word × DWord × DWord × Word :=
  (BitVec.ofNat 32 (s.moor.bseq + 1), BitVec.ofNat 64 s.time.now, s.moor.pairId, BitVec.ofNat 32 s.moor.epoch)

theorem emit_after_optional {s x : State} {c : Bool} {a o : Out} (hout : x.outbox = s.outbox) (hf : x.moor.fenced = false) :
    Sends o s ((if c then x.emit a else x).emit o) := by
  cases c with
  | true =>
    refine ⟨[o, a], ?_, List.mem_cons_self ..⟩
    rw [if_pos rfl, emit_sends (by rw [(State.emit_frame _ _).moor (by decide)]; exact hf), emit_sends hf, hout]
    rfl
  | false =>
    refine ⟨[o], ?_, List.mem_cons_self ..⟩
    rw [if_neg Bool.false_ne_true, emit_sends hf, hout]
    rfl

/-- The beacon of a period leaves on the beacon pair. -/
theorem sendBeacon_sends {s : State} (hf : s.moor.fenced = false) : ∃ b, Sends (.beacon false b) s s.sendBeacon ∧
    (b.bseq, b.stick, b.pairId, b.epoch) = beaconName s ∧ b.crc = crc32c (beaconBody b) := by
  refine ⟨(s.updMoor (fun m => { m with grantNext := m.grantNext && ((s.md.mode.moored || s.exchange) && !s.bothLost) })).makeBeacon
    (s.moor.wakeLeft != 0), ?_, rfl, makeBeacon_crc _ _⟩
  unfold State.sendBeacon
  exact emit_after_optional rfl hf

theorem exec_beaconSend {t : Nat} {s : State} (ht : Ticking t s) (hm : s.md.mode.beacons = true)
    (hdue : ∀ b, s.moor.beaconTick = some b → b + s.period ≤ t) : Sys2Proof.Machine.exec (.beaconSend t) s =
      .next ((((s.advanceTo t).callPartner.sendBeacon.renewAlone).exchanged).resyncPass.resyncStage) := by
  have hperiod : (s.advanceTo t).period = s.period := by simp only [State.period, State.regField, reg_advanceTo]
  have hwait : s.moor.beaconTick.any (fun b => decide (t < b + s.period)) = false := by
    cases hb : s.moor.beaconTick with
    | none => rfl
    | some b =>
      rw [Option.any_some]
      exact decide_eq_false (Nat.not_lt.2 (hdue b hb))
  show execBeaconSend _ _ = _
  unfold execBeaconSend
  dsimp only
  rw [advanceTo_md, hm, advanceTo_moor, advanceTo_now ht.1 ht.2.1 ht.2.2, hperiod, hwait, if_neg (by simp)]

/-! ### Hearing -/

theorem psnLater_self (a : Nat) : psnLater a a = false := by
  unfold psnLater
  dsimp only
  refine decide_eq_false ?_
  omega

/-- A record touches no field that a beacon of a paired head reads or sets. -/
theorem record_moor (code : Nat) (data : List Nat) (s : State) : (s.record code data).moor = s.moor :=
  (State.record_frame code data s).moor (by decide)

/-- A release changes what is known of the partner's release, and nothing else of the mooring. -/
theorem beaconRelease_moor (b : Beacon) (s : State) : ∃ r, (s.beaconRelease b).moor = { s.moor with pRelease := r } := by
  unfold State.beaconRelease
  split
  · exact ⟨_, record_moor _ _ _⟩
  · exact ⟨s.moor.pRelease, rfl⟩

theorem beaconRelease_md (b : Beacon) (s : State) : (s.beaconRelease b).md.mode = s.md.mode ∧ (s.beaconRelease b).lease = s.lease := by
  unfold State.beaconRelease
  split
  · refine ⟨(State.record_frame _ _ _).mode (by decide), ?_⟩
    simp only [State.lease, State.regField]
    rw [record_reg _ _ _ (by decide) (by decide)]
    rfl
  · exact ⟨rfl, rfl⟩

/-- What an accepted beacon's GRANT makes of a lease that ends at `e`. -/
def grantedEnd (b : Beacon) (s : State) (e : Nat) : Nat :=
  if b.flags.toNat % 2 = 1 then
    (match s.moor.sticks.find? (fun x => x.1 == b.ackseq.toNat) with | some x => max e (x.2 + s.lease) | none => e)
  else e

/-- With GRANT this head's lease goes on from the beacon answered. -/
def takeGrant (b : Beacon) (x : State) : State :=
  if b.flags.toNat % 2 == 1 then
    match x.moor.sticks.find? (fun x => x.1 == b.ackseq.toNat) with
    | some y => (x.renewOwn (y.2 + x.lease)).updMoor (fun m => { m with gotGrant := true })
    | none => x
  else x

theorem takeGrant_moor (b : Beacon) (x : State) :
    ∃ w, (takeGrant b x).moor = { x.moor with gotGrant := w, eOwn := grantedEnd b x x.moor.eOwn } := by
  unfold takeGrant grantedEnd
  by_cases hf : b.flags.toNat % 2 = 1
  · rw [if_pos (by simpa using hf), if_pos hf]
    split
    · exact ⟨true, rfl⟩
    · exact ⟨x.moor.gotGrant, rfl⟩
  · rw [if_neg (by simpa using hf), if_neg hf]
    exact ⟨x.moor.gotGrant, rfl⟩

section
variable {b : Beacon} {m : Nat} {s : State} (hm : s.md.mode = .paired)
include hm

theorem exchange_paired : s.exchange = false := by simp [State.exchange, hm]

/-- At a paired head the lease goes both ways with an accepted beacon. -/
theorem beaconLease_moor : ∃ g w, (s.beaconLease b m).moor = { s.moor with
    grantNext := g
    gotGrant := w
    eP := if (m = 4 ∨ m = 7 ∨ m = 8) ∧ s.bothLost = false then max s.moor.eP (b.stick.toNat + s.lease) else s.moor.eP
    eOwn := grantedEnd b s s.moor.eOwn } := by
  have hgrants : (s.md.mode.moored && !s.ownLease || s.exchange) = true := by
    simp [hm, Mode.moored, State.ownLease, State.service]
  have hholder : (m == 4 || m == 7 || m == 8 || (m == 3 && (s.md.mode == .handback || s.exchange))) = decide (m = 4 ∨ m = 7 ∨ m = 8) := by
    have hnot : (Mode.paired == Mode.handback) = false := rfl
    rw [exchange_paired hm, hm, hnot, Bool.or_false, Bool.and_false, Bool.or_false, Bool.eq_iff_iff]
    simp [or_assoc]
  have hrun : s.beaconLease b m = takeGrant b (if (decide (m = 4 ∨ m = 7 ∨ m = 8) && !s.bothLost) = true then
      (s.renewPartner (b.stick.toNat + s.lease)).updMoor (fun m => { m with grantNext := true }) else s) := by
    unfold State.beaconLease
    dsimp only
    rw [hgrants, hholder]
    rfl
  rw [hrun]
  by_cases hh : (m = 4 ∨ m = 7 ∨ m = 8) ∧ s.bothLost = false
  · rw [if_pos hh, if_pos (by simpa using hh)]
    obtain ⟨w, hw⟩ := takeGrant_moor b ((s.renewPartner (b.stick.toNat + s.lease)).updMoor (fun m => { m with grantNext := true }))
    exact ⟨true, w, hw⟩
  · rw [if_neg hh, if_neg (by simpa using hh)]
    obtain ⟨w, hw⟩ := takeGrant_moor b s
    exact ⟨s.moor.grantNext, w, hw⟩

theorem beaconModes_paired : s.beaconModes b m = s := by
  unfold State.beaconModes State.exchanged
  rw [exchange_paired hm, hm]
  rfl

/-- An accepted beacon at a paired head. -/
theorem acceptBeacon_paired : (s.acceptBeacon b m).md.mode = .paired ∧ (s.acceptBeacon b m).moor.rxSeq = some b.bseq.toNat ∧
    (s.acceptBeacon b m).moor.pmode = m ∧
    (s.acceptBeacon b m).moor.eP =
      (if (m = 4 ∨ m = 7 ∨ m = 8) ∧ s.bothLost = false then max s.moor.eP (b.stick.toNat + s.lease) else s.moor.eP) ∧
    (s.acceptBeacon b m).moor.eOwn = grantedEnd b s s.moor.eOwn := by
  have hadopt : s.adoptEpoch b m = s := by
    unfold State.adoptEpoch
    rw [hm]
    rfl
  let x := s.updMoor (fun k => { k with rxSeq := some b.bseq.toNat, rxTick := s.time.now, pmode := m, pFlags := b.flags.toNat })
  obtain ⟨r, hr⟩ := beaconRelease_moor b x
  obtain ⟨hmode, hlease⟩ := beaconRelease_md b x
  have hpaired : (x.beaconRelease b).md.mode = .paired := hmode.trans hm
  obtain ⟨g, w, hl⟩ := beaconLease_moor (b := b) (m := m) hpaired
  have hpaired' : ((x.beaconRelease b).beaconLease b m).md.mode = .paired :=
    ((State.beaconLease_frame _ _ _).mode (by decide)).trans hpaired
  have hrun : s.acceptBeacon b m = (x.beaconRelease b).beaconLease b m := by
    unfold State.acceptBeacon
    dsimp only
    rw [hadopt]
    exact beaconModes_paired hpaired'
  have hboth : (x.beaconRelease b).bothLost = s.bothLost := by
    unfold State.bothLost
    rw [hr]
    rfl
  have hgranted (e : Nat) : grantedEnd b (x.beaconRelease b) e = grantedEnd b s e := by
    unfold grantedEnd
    rw [hlease, hr]
    rfl
  have hxlease : x.lease = s.lease := rfl
  rw [hrun]
  refine ⟨hpaired', ?_⟩
  rw [hl, hboth, hgranted, hlease, hxlease, hr]
  exact ⟨rfl, rfl, rfl, rfl⟩

end

/-- A beacon that is not accepted changes nothing of the mooring of a paired head. -/
theorem rejectBeacon_paired {dx : Bool} {b : Beacon} {s : State} (hm : s.md.mode = .paired) :
    (s.rejectBeacon dx b).moor = s.moor ∧ (s.rejectBeacon dx b).md.mode = .paired := by
  have hf := State.count_frame (if dx then 5 else 6) s
  have hmode : (s.count (if dx then 5 else 6)).md.mode = .paired := (hf.mode (by decide)).trans hm
  unfold State.rejectBeacon
  dsimp only
  rw [if_neg (by simp [hmode])]
  exact ⟨hf.moor (by decide), hmode⟩

section
variable {t : Nat} {dx : Bool} {b : Beacon} {s : State} (hm : s.md.mode = .paired)
include hm

/-- A beacon of a paired head that passes every check is heard on its path and accepted. -/
theorem exec_beaconArrival_accepted (hok : s.frameOk b = true) (hepoch : b.epoch.toNat = s.moor.epoch)
    (hstick : (s.advanceTo t).stickOk b = true) (hlater : ∀ r, s.moor.rxSeq = some r → psnLater b.bseq.toNat r = true) :
    Sys2Proof.Machine.exec (.beaconArrival t dx b) s = .next
      (((s.advanceTo t).updMoor (MoorState.onPath dx (BPath.hear b.ackseq.toNat (s.advanceTo t).time.now))).acceptBeacon b (b.hm.toNat / 16)) := by
  have hframe : (s.advanceTo t).frameOk b = true := by rw [State.frameOk, advanceTo_moor]; exact hok
  have hep : (s.advanceTo t).epochOk b (b.hm.toNat / 16) = true := by
    unfold State.epochOk
    rw [advanceTo_moor, hepoch]
    simp
  have hagain : (s.moor.rxSeq == some b.bseq.toNat) = false := by
    cases hr : s.moor.rxSeq with
    | none => rfl
    | some r =>
      have hne : r ≠ b.bseq.toNat := fun he => by
        have hself := hlater r hr
        rw [he, psnLater_self] at hself
        cases hself
      simpa using hne
  show execBeaconArrival _ _ _ _ = _
  unfold execBeaconArrival
  dsimp only
  rw [hframe, hep, hstick, advanceTo_md, hm, advanceTo_moor, hagain, if_neg (by decide), if_neg (by decide), if_neg, if_neg (by decide)]
  cases hr : s.moor.rxSeq with
  | none => simp
  | some r => simp [hlater r hr]

/-- One that fails a check is not. -/
theorem exec_beaconArrival_rejected (hok : s.frameOk b = false) :
    Sys2Proof.Machine.exec (.beaconArrival t dx b) s = .next ((s.advanceTo t).rejectBeacon dx b) := by
  have hframe : (s.advanceTo t).frameOk b = false := by rw [State.frameOk, advanceTo_moor]; exact hok
  show execBeaconArrival _ _ _ _ = _
  unfold execBeaconArrival
  dsimp only
  rw [hframe, advanceTo_md, hm, if_neg (by decide), if_neg (by decide), if_pos (by simp)]

end

/-! ### Paths -/

theorem path_onPath (dx : Bool) (f : BPath → BPath) (m : MoorState) : (m.onPath dx f).path dx = f (m.path dx) := by
  cases dx <;> rfl

/-- A beacon heard on a path leaves the leases alone. -/
theorem onPath_lease (dx : Bool) (f : BPath → BPath) (m : MoorState) :
    (m.onPath dx f).eP = m.eP ∧ (m.onPath dx f).eOwn = m.eOwn ∧ (m.onPath dx f).sticks = m.sticks := by
  cases dx <;> exact ⟨rfl, rfl, rfl⟩

theorem alive_onPath_hear (dx : Bool) (ack now : Nat) (s : State) :
    (s.updMoor (MoorState.onPath dx (BPath.hear ack now))).bothLost = s.bothLost := by
  cases dx <;> rfl

/-- What a claim leaves alone: both paths, and the bits of the status that are set. -/
def PathKept (s u : State) : Prop :=
  (∀ dx, u.moor.path dx = s.moor.path dx) ∧ ∀ n, bit (s.reg Reg.MOOR_STATUS) n = true → bit (u.reg Reg.MOOR_STATUS) n = true

theorem PathKept.refl (s : State) : PathKept s s := ⟨fun _ => rfl, fun _ h => h⟩

theorem PathKept.trans {s x u : State} (h : PathKept x u) (h' : PathKept s x) : PathKept s u :=
  ⟨fun dx => (h.1 dx).trans (h'.1 dx), fun n hn => h.2 n (h'.2 n hn)⟩

theorem PathKept.updMoor {f : MoorState → MoorState} (hf : ∀ m dx, (f m).path dx = m.path dx) (s : State) : PathKept s (s.updMoor f) :=
  ⟨fun dx => hf s.moor dx, fun _ h => h⟩

theorem PathKept.raise (m : Nat) (s : State) : PathKept s (s.raise Reg.MOOR_STATUS m) := by
  refine ⟨fun _ => rfl, fun n hn => ?_⟩
  rw [reg_raise, bit_or, hn]
  rfl

theorem PathKept.record (code : Nat) (data : List Nat) (s : State) : PathKept s (s.record code data) :=
  ⟨fun dx => by rw [record_moor], fun n hn => by rw [record_reg _ _ _ (by decide) (by decide)]; exact hn⟩

theorem PathKept.recordOnce (code item : Nat) (data : List Nat) (s : State) : PathKept s (s.recordOnce code item data) :=
  ⟨fun dx => by rw [(State.recordOnce_frame code item data s).moor (by decide)],
    fun n hn => by rw [recordOnce_reg _ _ _ _ (by decide) (by decide)]; exact hn⟩

theorem PathKept.emit (o : Out) (s : State) : PathKept s (s.emit o) :=
  ⟨fun dx => by rw [(State.emit_frame o s).moor (by decide)],
    fun n hn => by rw [State.reg, (State.emit_frame o s).regs (by decide)]; exact hn⟩

theorem PathKept.claimFailed (c : Claim) (s : State) : PathKept s (s.claimFailed c) := by
  unfold State.claimFailed
  refine .trans (.recordOnce _ _ _ _) (.trans (.raise _ _) (.updMoor ?_ s))
  exact fun m dx => by cases dx <;> rfl

theorem PathKept.sendClaim (k : Nat) (s : State) : PathKept s (s.sendClaim k) := by
  have hopen : PathKept s (match s.moor.claim with | some c => s.claimFailed c | none => s) := by
    split
    · exact .claimFailed _ _
    · exact .refl s
  unfold State.sendClaim
  refine .trans (.emit _ _) (.trans (.updMoor ?_ _) hopen)
  exact fun m dx => by cases dx <;> rfl

/-- A path that is lost, before what the loss of both sets going. -/
def pathLost (dx : Bool) (s : State) : State :=
  ((s.updMoor (MoorState.onPath dx (fun p =>
    { p with alive := false, wasLost := true, goodRun := 0, advanced := false, losses := eventCount p.losses, checkTick := s.time.now }))).record
      0x7010 [pathNo dx]).raise Reg.MOOR_STATUS 1

theorem pathLost_path (dx : Bool) (s : State) : (pathLost dx s).moor.path dx = { s.moor.path dx with
    alive := false, wasLost := true, goodRun := 0, advanced := false, losses := eventCount (s.moor.path dx).losses, checkTick := s.time.now } := by
  unfold pathLost
  show (State.record _ _ _).moor.path dx = _
  rw [record_moor]
  exact path_onPath _ _ _

/-- The loss of both paths goes on from a path that is lost. -/
theorem losePath_keeps (dx : Bool) (s : State) : PathKept (pathLost dx s) (s.losePath dx) := by
  have hboth : PathKept (pathLost dx s) ((((pathLost dx s).record 0x7012 [(pathLost dx s).moor.eOwn, (pathLost dx s).moor.eP]).raise
      Reg.MOOR_STATUS 2).updMoor (fun m => { m with bothLosses := eventCount m.bothLosses, grantNext := false })) := by
    refine .trans (.updMoor ?_ _) (.trans (.raise _ _) (.record _ _ _))
    exact fun m d => by cases d <;> rfl
  unfold State.losePath
  dsimp only
  split
  · split
    · exact .trans (.sendClaim _ _) hboth
    · exact hboth
  · exact .refl _

/-- A path that is lost is so, counted and noted. -/
theorem losePath_lost (dx : Bool) (s : State) : ((s.losePath dx).moor.path dx).alive = false ∧
    ((s.losePath dx).moor.path dx).losses = eventCount (s.moor.path dx).losses ∧ bit ((s.losePath dx).reg Reg.MOOR_STATUS) 0 = true := by
  obtain ⟨hpath, hbits⟩ := losePath_keeps dx s
  rw [hpath, pathLost_path]
  refine ⟨rfl, rfl, hbits 0 ?_⟩
  unfold pathLost
  rw [reg_raise, bit_or]
  exact Bool.or_true _

theorem restorePath_alive (dx was : Bool) (s : State) : ((s.restorePath dx was).moor.path dx).alive = true := by
  have hup (m : MoorState) : (({ m.onPath dx (fun p => { p with alive := true, wasLost := false, goodRun := 0 }) with wheld := false } :
      MoorState).path dx).alive = true := by
    cases dx <;> rfl
  unfold State.restorePath
  dsimp only
  split
  · rw [record_moor]
    exact hup _
  · exact hup _

/-- A path heard in enough periods is alive again. -/
theorem tryPath_alive {dx : Bool} {p : BPath} {s : State} (hadv : p.advanced = true) (hrun : s.missLimit ≤ p.goodRun + 1) :
    ((s.tryPath dx p).moor.path dx).alive = true := by
  unfold State.tryPath
  dsimp only
  rw [hadv, if_pos rfl]
  split
  · exact restorePath_alive _ _ _
  · rename_i hshort
    exact absurd hrun hshort

theorem limits_advanceTo (t : Nat) (s : State) : (s.advanceTo t).missLimit = s.missLimit ∧ (s.advanceTo t).period = s.period ∧
    (s.advanceTo t).lease = s.lease := by
  simp only [State.missLimit, State.period, State.lease, State.regField, reg_advanceTo]
  exact ⟨trivial, trivial, trivial⟩

section
variable {t : Nat} {dx : Bool} {s : State} (ht : Ticking t s) (hm : s.md.mode.beacons = true)
include ht hm

theorem exec_pathCheck_lost (halive : (s.moor.path dx).alive = true)
    (hlost : (s.moor.path dx).lastAdv + s.missLimit * s.period ≤ t) :
    Sys2Proof.Machine.exec (.pathCheck t dx) s = .next ((s.advanceTo t).losePath dx) := by
  obtain ⟨hmiss, hperiod, -⟩ := limits_advanceTo t s
  show execPathCheck _ _ _ = _
  unfold execPathCheck
  dsimp only
  rw [advanceTo_md, hm, advanceTo_moor, halive, hmiss, hperiod, advanceTo_now ht.1 ht.2.1 ht.2.2, if_pos hlost]
  rfl

theorem exec_pathCheck_tried (halive : (s.moor.path dx).alive = false) (hdue : (s.moor.path dx).checkTick + s.period ≤ t)
    (hadv : (s.moor.path dx).advanced = true) (hrun : s.missLimit ≤ (s.moor.path dx).goodRun + 1) :
    ∃ u, Sys2Proof.Machine.exec (.pathCheck t dx) s = .next u ∧ (u.moor.path dx).alive = true := by
  obtain ⟨hmiss, hperiod, -⟩ := limits_advanceTo t s
  have hexec : Sys2Proof.Machine.exec (.pathCheck t dx) s = .next ((s.advanceTo t).tryPath dx (s.moor.path dx)) := by
    show execPathCheck _ _ _ = _
    unfold execPathCheck
    dsimp only
    rw [advanceTo_md, hm, advanceTo_moor, halive, hperiod, advanceTo_now ht.1 ht.2.1 ht.2.2, if_neg (by decide), if_neg Bool.false_ne_true,
      if_neg (Nat.not_lt.2 hdue)]
  exact ⟨_, hexec, tryPath_alive hadv (hmiss.trans_le hrun)⟩

end

/-- An idle path is tested, and a test that fails is noted. -/
theorem exec_beaconLoopCheck {t : Nat} {dx : Bool} {ok : Bool} {s : State} (ht : Ticking t s) (hm : s.md.mode = .join ∨ s.md.mode = .sole)
    (halive : (s.moor.path dx).alive = false) (hdue : (s.moor.path dx).loopTick + 60 * secondTicks ≤ t) :
    ∃ u, Sys2Proof.Machine.exec (.beaconLoopCheck t dx ok) s = .next u ∧ (u.moor.path dx).faulty = !ok ∧
      (ok = false → bit (u.reg Reg.MOOR_STATUS) 5 = true) := by
  let x := (s.advanceTo t).updMoor (MoorState.onPath dx (fun p => { p with faulty := !ok, loopTick := t }))
  have hgo : ¬ ((s.md.mode != .join && s.md.mode != .sole) || (s.moor.path dx).alive ||
      decide (t < (s.moor.path dx).loopTick + 60 * secondTicks)) = true := by
    rw [halive, decide_eq_false (Nat.not_lt.2 hdue)]
    rcases hm with h | h <;> rw [h] <;> decide
  have hexec : Sys2Proof.Machine.exec (.beaconLoopCheck t dx ok) s = .next (if ok then x else x.checkFailed.record 0x7062 [pathNo dx]) := by
    show execBeaconLoopCheck _ _ _ _ = _
    unfold execBeaconLoopCheck
    dsimp only
    rw [advanceTo_now ht.1 ht.2.1 ht.2.2, advanceTo_md, advanceTo_moor, if_neg hgo]
  have hx : (x.moor.path dx).faulty = !ok := by
    show (MoorState.path dx (MoorState.onPath dx _ _)).faulty = _
    rw [path_onPath]
  refine ⟨_, hexec, ?_⟩
  cases ok with
  | true => exact ⟨hx, nofun⟩
  | false =>
    rw [if_neg Bool.false_ne_true]
    refine ⟨?_, fun _ => ?_⟩
    · rw [record_moor]
      exact hx
    · rw [record_reg _ _ _ (by decide) (by decide)]
      unfold State.checkFailed
      rw [reg_raise, bit_or]
      exact Bool.or_true _

/-! ### Verdicts and the tides -/

/-- A head that its verdict serves. -/
def verdictHeld (c : Claim) (s : State) : State :=
  let s1 := (s.updMoor (fun m => { m with claim := none, wheld := true })).renewOwn (c.stick.toNat + s.lease)
  s1.record 0x7020 [c.cseq.toNat, s1.moor.eOwn]

theorem verdictHeld_moor (c : Claim) (s : State) : (verdictHeld c s).moor = { s.moor with
    claim := none
    wheld := true
    eOwn := max s.moor.eOwn (c.stick.toNat + s.lease) } := record_moor _ _ _

theorem claimFailed_moor (c : Claim) (s : State) : (s.claimFailed c).moor = { s.moor with claim := none } :=
  (State.recordOnce_frame _ _ _ _).moor (by decide)

theorem claimFailed_bit (c : Claim) (s : State) : bit ((s.claimFailed c).reg Reg.MOOR_STATUS) 4 = true := by
  unfold State.claimFailed
  rw [recordOnce_reg _ _ _ _ (by decide) (by decide), reg_raise, bit_or]
  exact Bool.or_true _

section
variable {v c : Claim} {s : State} (hc : s.moor.claim = some c) (hpair : v.pairId = c.pairId) (hseq : v.cseq = c.cseq)
  (hcrc : v.crc = crc32c (claimBody v))
include hc hpair hseq hcrc

/-- The verdict of an open claim is taken by its kind. -/
theorem takeVerdict_answers : s.takeVerdict v =
    if v.kind = 0x81 then
      (if c.kind = 2 && (verdictHeld c s).md.mode == .join && !(verdictHeld c s).path.empty then (verdictHeld c s).enterSoleAtJoin
        else verdictHeld c s)
    else if v.kind = 0x82 then s.claimFailed c
    else s := by
  have hgo : ¬ (v.pairId ≠ c.pairId ∨ v.cseq ≠ c.cseq ∨ v.crc ≠ crc32c (claimBody v)) := by
    rintro (h | h | h)
    · exact h hpair
    · exact h hseq
    · exact h hcrc
  unfold State.takeVerdict
  rw [hc]
  dsimp only
  rw [if_neg hgo]
  rfl

/-- At a paired head a verdict for it renews its lease. -/
theorem takeVerdict_held (hm : s.md.mode = .paired) (hk : v.kind = 0x81) : s.takeVerdict v = verdictHeld c s := by
  have hmode : (verdictHeld c s).md.mode = .paired := ((State.record_frame _ _ _).mode (by decide)).trans hm
  rw [takeVerdict_answers hc hpair hseq hcrc, if_pos hk, hmode, if_neg]
  simp

end

/-- The tides' exchange gives the skew, and a head in Join that is behind takes the source's count. -/
theorem exec_tideSyncExchange {t p : Nat} {k : Int} {s : State} (ht : Ticking t s) (hm : s.md.mode.beacons = true)
    (hp : s.md.mode ≠ .preservation) (hup : s.decuxUp = true) (hd : s.md.deferred = false) :
    ∃ u, Sys2Proof.Machine.exec (.tideSyncExchange t p k) s = .next u ∧ u.moor = { s.moor with skew := k, sync := decide (k.natAbs ≤ 20) } ∧
      u.time.now = (if s.md.mode = .join then max t p else t) := by
  have hnow := advanceTo_now ht.1 ht.2.1 ht.2.2
  have hup' : (s.advanceTo t).decuxUp = true := by
    simp only [State.decuxUp, State.decuxLanesOk, advanceTo_faults] at hup ⊢
    exact hup
  have hexec : Sys2Proof.Machine.exec (.tideSyncExchange t p k) s = .next ((if (s.md.mode == .join && decide (t < p)) = true then
      ({ s.advanceTo t with time := { (s.advanceTo t).time with now := p } } : State) else s.advanceTo t).updMoor fun m =>
        { m with skew := k, sync := decide (k.natAbs ≤ 20) }) := by
    show execTideSyncExchange _ _ _ _ = _
    unfold execTideSyncExchange
    dsimp only
    rw [hup', hnow, if_neg (by rw [advanceTo_md, hm, hd]; simpa using hp), advanceTo_md]
  refine ⟨_, hexec, ?_, ?_⟩
  · by_cases hj : (s.md.mode == .join && decide (t < p)) = true
    · rw [if_pos hj]
      show { (s.advanceTo t).moor with skew := k, sync := decide (k.natAbs ≤ 20) } = _
      rw [advanceTo_moor]
    · rw [if_neg hj]
      show { (s.advanceTo t).moor with skew := k, sync := decide (k.natAbs ≤ 20) } = _
      rw [advanceTo_moor]
  · by_cases hj : s.md.mode = .join
    · by_cases hlt : t < p
      · rw [if_pos (by simp [hj, hlt]), if_pos hj, max_eq_right hlt.le]
        rfl
      · rw [if_neg (by simp [hlt]), if_pos hj, max_eq_left (Nat.not_lt.1 hlt)]
        exact hnow
    · rw [if_neg (by simp [hj]), if_neg hj]
      exact hnow

/-- Settles O32: beacons, the lease, the paths, verdicts and the tides by the chapter's rules. -/
theorem beaconsLeaseAndPaths : Obligations.BeaconsLeaseAndPaths := by
  refine ⟨fun t s ht hm hf hdue => ?_, fun t dx b s hm hok hepoch hstick hlater => ?_, fun t dx b s hm hok => ?_,
    fun t dx s ht hm => ⟨fun halive hlost => ?_, fun halive hdue hadv hrun => exec_pathCheck_tried ht hm halive hdue hadv hrun⟩,
    fun t dx ok s ht hm halive hdue => exec_beaconLoopCheck ht hm halive hdue,
    fun t v c s hm hc hpair hseq hcrc => ?_, fun t p k s ht hm hp hup hd => exec_tideSyncExchange ht hm hp hup hd⟩
  · have hcall := State.callPartner_frame (s.advanceTo t)
    have hmoor : (s.advanceTo t).callPartner.moor = s.moor := (hcall.moor (by decide)).trans (advanceTo_moor t s)
    obtain ⟨b, hsends, hname, hcrc⟩ := sendBeacon_sends (s := (s.advanceTo t).callPartner) (by rw [hmoor]; exact hf)
    have hafter := sends_after (sends_after (sends_after (sends_after hsends (State.renewAlone_frame _)) (State.exchanged_frame _))
      (State.resyncPass_frame _)) (State.resyncStage_frame _)
    unfold beaconName at hname
    rw [hmoor, hcall.time (by decide), advanceTo_now ht.1 ht.2.1 ht.2.2] at hname
    simp only [Prod.mk.injEq] at hname
    obtain ⟨hseq, hstick, hpair, hepoch⟩ := hname
    exact ⟨_, b, exec_beaconSend ht hm hdue, sends_before (State.advanceTo_frame t s) (sends_before hcall hafter), hseq, hstick, hpair, hepoch, hcrc⟩
  · obtain ⟨-, -, hlease⟩ := limits_advanceTo t s
    let x := (s.advanceTo t).updMoor (MoorState.onPath dx (BPath.hear b.ackseq.toNat (s.advanceTo t).time.now))
    have hxm : x.md.mode = .paired := by
      show (s.advanceTo t).md.mode = _
      rw [advanceTo_md]
      exact hm
    obtain ⟨heP, heOwn, hsticks⟩ := onPath_lease dx (BPath.hear b.ackseq.toNat (s.advanceTo t).time.now) (s.advanceTo t).moor
    have hboth : x.bothLost = s.bothLost := (alive_onPath_hear dx _ _ _).trans (by unfold State.bothLost; rw [advanceTo_moor])
    have hxlease : x.lease = s.lease := hlease
    rw [advanceTo_moor] at heP heOwn hsticks
    obtain ⟨hmode, hseq, hpmode, hend, hown⟩ := acceptBeacon_paired (b := b) (m := b.hm.toNat / 16) hxm
    refine ⟨_, exec_beaconArrival_accepted hm hok hepoch hstick hlater, hmode, hseq, hpmode, ?_, ?_⟩
    · rw [hend, hboth, hxlease]
      show (if _ then max (MoorState.onPath dx _ (s.advanceTo t).moor).eP _ else (MoorState.onPath dx _ (s.advanceTo t).moor).eP) = _
      rw [advanceTo_moor, heP]
      by_cases h4 : b.hm.toNat / 16 = 4 <;> simp [h4]
    · rw [hown]
      unfold grantedEnd
      rw [hxlease]
      show (if _ then (match (MoorState.onPath dx _ (s.advanceTo t).moor).sticks.find? _ with
        | some x => max (MoorState.onPath dx _ (s.advanceTo t).moor).eOwn _
        | none => (MoorState.onPath dx _ (s.advanceTo t).moor).eOwn) else (MoorState.onPath dx _ (s.advanceTo t).moor).eOwn) = _
      rw [advanceTo_moor, heOwn, hsticks] <;> rfl
  · obtain ⟨hmoor, hmode⟩ := rejectBeacon_paired (dx := dx) (b := b) (s := s.advanceTo t) (by rw [advanceTo_md]; exact hm)
    exact ⟨_, exec_beaconArrival_rejected hm hok, hmoor.trans (advanceTo_moor t s), hmode⟩
  · obtain ⟨hdead, hlosses, hbit⟩ := losePath_lost dx (s.advanceTo t)
    rw [advanceTo_moor] at hlosses
    exact ⟨_, exec_pathCheck_lost ht hm halive hlost, hdead, hlosses, hbit⟩
  · obtain ⟨-, -, hlease⟩ := limits_advanceTo t s
    have hm' : (s.advanceTo t).md.mode = .paired := by rw [advanceTo_md]; exact hm
    have hc' : (s.advanceTo t).moor.claim = some c := by rw [advanceTo_moor]; exact hc
    refine ⟨fun hk => ?_, fun hk => ?_⟩
    · refine ⟨_, congrArg Host.Outcome.next (takeVerdict_held hc' hpair hseq hcrc hm' hk), ?_⟩
      rw [verdictHeld_moor, advanceTo_moor, hlease]
      exact ⟨rfl, rfl, rfl⟩
    · have hrun := takeVerdict_answers hc' hpair hseq hcrc
      rw [if_neg (by rw [hk]; decide), if_pos hk] at hrun
      refine ⟨_, congrArg Host.Outcome.next hrun, ?_, ?_, claimFailed_bit _ _⟩
      all_goals rw [claimFailed_moor, advanceTo_moor]

end Sys2Proof.Proofs
end

section
/-!
SUPPORT. The voters, takeover, MOOR_CMD, the switch and the checks of the takeover path (R255 to R259, R262, R263, R267, R269, R270).
-/

namespace Sys2Proof.Proofs

open Sys2Proof.Machine Sys2Proof.Safety Sys2Proof.Laws

theorem updMoor_moor (f : MoorState → MoorState) (s : State) : (s.updMoor f).moor = f s.moor := rfl

/-! ### Modes of the pair -/

/-- With no command held in Relay none is run. -/
theorem runRelayHeld_none {s : State} (h : s.moor.relayHeld = []) : s.runRelayHeld = s := by
  have hm : { s.moor with relayHeld := [] } = s.moor := by rw [← h]
  unfold State.runRelayHeld
  rw [h, hm]
  rfl

theorem enterMode_moor (m : Mode) (c : Nat) (s : State) : (s.enterMode m c).moor = s.moor := (State.enterMode_frame m c s).moor (by decide)

/-- A paired head that fences itself is in Join, with its ports silent and its writes gone. -/
theorem selfFence_paired {c : Nat} {s : State} (hm : s.md.mode = .paired) (hr : s.moor.relayHeld = []) :
    (s.selfFence c).md.mode = .join ∧ (s.selfFence c).moor.fenced = true ∧ (s.selfFence c).adm.writes = [] := by
  have hoff : s.relayOff 0x11 = s := by
    unfold State.relayOff
    rw [hm]
    rfl
  unfold State.selfFence
  rw [hoff]
  extract_lets s1 s2
  have hmode : s1.md.mode = .join := (record_mode 0x7030 [c, s.moor.eOwn] (s.enterJoin 0x11)).trans (enterJoin_entered 0x11 s).1
  have hheld : s1.moor.relayHeld = [] := by
    have hmoor : s1.moor = (s.enterJoin 0x11).moor := record_moor 0x7030 [c, s.moor.eOwn] (s.enterJoin 0x11)
    have hjoin : (s.enterJoin 0x11).moor.relayHeld = (s.enterMode .join 0x11).moor.relayHeld := rfl
    rw [hmoor, hjoin, enterMode_moor]
    exact hr
  clear_value s1
  rw [runRelayHeld_none (by exact hheld)]
  exact ⟨hmode, rfl, rfl⟩

theorem enterTakeover_mode (s : State) : s.enterTakeover.md.mode = .takeover := by
  unfold State.enterTakeover
  extract_lets old fin s1 s2 s3 s4 s5 m5 s6
  have h1 : s1.md.mode = .takeover := (enterMode_entered .takeover 0x06 (s.relayOff 0x06).nextEpoch).1
  have h3 : s3.md.mode = s1.md.mode := record_mode 0x7031 [fin, s1.moor.epoch] s1
  have hended : Frame 1229438661598 s3 s4 := foldl_frame (fun x w => State.endWrite_frame w 7 0x83 0 x) _ s3
  have h4 : s4.md.mode = s3.md.mode := hended.mode (by decide)
  clear_value s4
  have h5 : s5.md.mode = s4.md.mode := ((State.checkWrites_frame s4.takeOver).mode (by decide)).trans ((State.takeOver_frame s4).mode (by decide))
  have h6 : s6.md.mode = s5.md.mode := rfl
  rw [(State.runRelayHeld_frame _).mode (by decide), (State.startAnnounce_frame true (s6.recompute old).cuts).mode (by decide),
    (State.cuts_frame (s6.recompute old)).mode (by decide), (State.recompute_frame old s6).mode (by decide), h6, h5, h4, h3, h1]

theorem enterPaired_mode (c : Nat) (s : State) : (s.enterPaired c).md.mode = .paired :=
  ((State.confirmTrial_frame _).mode (by decide)).trans (((State.cuts_frame _).mode (by decide)).trans
    (((State.recompute_frame _ _).mode (by decide)).trans (enterMode_entered .paired c _).1))

/-! ### Voters -/

/-- A voter with its votes, which agree with the others'. -/
def voted (fence lost : Bool) (v : Voter) : Voter := { v with fence := fence, lostV := lost, disagree := none, counted := false }

theorem carried_voted {a b c : Voter} (fence lost : Bool) (ha : a.ok = true) (hb : b.ok = true) (hc : c.ok = true) :
    carried [voted fence lost a, voted fence lost b, voted fence lost c] (·.fence) = fence ∧
    carried [voted fence lost a, voted fence lost b, voted fence lost c] (·.lostV) = lost := by
  unfold carried voted
  cases fence <;> cases lost <;> simp [ha, hb, hc]

/-- Three voters that agree are judged so. -/
theorem judgeThree_agree (a b c : Voter) (fence lost : Bool) (s : State) :
    (s.updMoor (fun m => { m with voters := [{ a with fence := fence, lostV := lost }, { b with fence := fence, lostV := lost },
      { c with fence := fence, lostV := lost }] })).judgeThree =
    s.updMoor (fun m => { m with voters := [voted fence lost a, voted fence lost b, voted fence lost c] }) := by
  have hodd (x : State) (hx : x.moor.voters = [{ a with fence := fence, lostV := lost }, { b with fence := fence, lostV := lost },
      { c with fence := fence, lostV := lost }]) : oddVoter x.moor.voters = none := by
    rw [hx]
    simp [oddVoter]
  unfold State.judgeThree
  rw [hodd _ rfl]
  rfl

theorem cast_sound {v : Voter} (fence lost : Bool) (i : Nat) (hv : v.ok = true) (ht : v.tideFail = false) :
    v.cast fence lost 0 0 i = { v with fence := fence, lostV := lost } := by
  have hzero : (0 / 2 ^ i % 2 == 1) = false := by rw [Nat.zero_div]; rfl
  unfold Voter.cast
  rw [hv, ht, hzero]
  cases fence <;> cases lost <;> rfl

/-- Three sound voters cast one vote, and it is decided. -/
theorem exec_voterEvaluation {t : Nat} {a b c : Voter} {s : State} (hm : s.md.mode = .paired)
    (hdue : ∀ e, s.moor.evalTick = some e → (s.advanceTo t).time.now / 1000 ≠ e / 1000) (hv : s.moor.voters = [a, b, c])
    (ha : a.ok = true) (hb : b.ok = true) (hc : c.ok = true) (hta : a.tideFail = false) (htb : b.tideFail = false) (htc : c.tideFail = false) :
    Sys2Proof.Machine.exec (.voterEvaluation t 0 0) s = .next (((s.advanceTo t).updMoor (fun m => { m with
      evalTick := some (s.advanceTo t).time.now
      voters := [voted (s.advanceTo t).fenceDue (s.advanceTo t).lostDue a, voted (s.advanceTo t).fenceDue (s.advanceTo t).lostDue b,
        voted (s.advanceTo t).fenceDue (s.advanceTo t).lostDue c] })).decide_) := by
  have hwait : s.moor.evalTick.any (fun e => (s.advanceTo t).time.now / 1000 == e / 1000) = false := by
    cases he : s.moor.evalTick with
    | none => rfl
    | some e =>
      rw [Option.any_some]
      exact beq_eq_false_iff_ne.2 (hdue e he)
  have hcast (f l : Bool) : ([a, b, c].zipIdx.map (fun (x : Voter × Nat) => x.1.cast f l 0 0 x.2)) =
      [{ a with fence := f, lostV := l }, { b with fence := f, lostV := l }, { c with fence := f, lostV := l }] := by
    show [a.cast f l 0 0 0, b.cast f l 0 0 1, c.cast f l 0 0 2] = _
    rw [cast_sound f l 0 ha hta, cast_sound f l 1 hb htb, cast_sound f l 2 hc htc]
  show execVoterEvaluation _ _ _ _ = _
  unfold execVoterEvaluation
  dsimp only
  rw [advanceTo_md, hm, advanceTo_moor, hwait, if_neg (by decide), hv, hcast, if_pos (by simp [ha, hb, hc])]
  exact congrArg (fun x => Host.Outcome.next (State.decide_ x)) (judgeThree_agree a b c _ _
    ((s.advanceTo t).updMoor fun m => { m with evalTick := some (s.advanceTo t).time.now }))

theorem ownLease_paired {s : State} (hm : s.md.mode = .paired) : s.ownLease = false := by simp [State.ownLease, State.service, hm]

section
variable {a b c : Voter} {fence lost : Bool} {s : State} (hm : s.md.mode = .paired) (ha : a.ok = true) (hb : b.ok = true) (hc : c.ok = true)
  (hv : s.moor.voters = [voted fence lost a, voted fence lost b, voted fence lost c])
include hm ha hb hc hv

/-- What voters that agree decide at a paired head: the self-fence first, then the partner's loss, else nothing. -/
theorem decide_paired : s.decide_ = if fence then s.selfFence (if s.fenceDue then 1 else 2) else if lost then s.enterTakeover else s := by
  obtain ⟨hfence, hlost⟩ := carried_voted fence lost ha hb hc
  unfold State.decide_
  rw [hv, hfence, hlost, hm, ownLease_paired hm]
  cases fence <;> cases lost <;> rfl

end

/-! ### Calibration, announcements and read-back -/

theorem updVoter_voter {i : Nat} {v : Voter} {f : Voter → Voter} {s : State} (h : s.moor.voters[i]? = some v) :
    (s.updVoter i f).moor.voters[i]? = some (f v) := by
  show (s.moor.voters.zipIdx.map fun (x : Voter × Nat) => if x.2 = i then f x.1 else x.1)[i]? = _
  rw [List.getElem?_map, List.getElem?_zipIdx, h]
  simp

/-- A voter's calibration, and what its measure says of it. -/
theorem exec_voterCalibration {t i m c : Nat} {v : Voter} {s : State} (ht : Ticking t s) (hv : s.moor.voters[i]? = some v) (hok : v.ok = true)
    (hm : s.md.mode.beacons = true) (hc : v.calTick = some c) :
    ∃ u w, Sys2Proof.Machine.exec (.voterCalibration t i m) s = .next u ∧ u.moor.voters[i]? = some w ∧
      w = { v with calTick := some t, tideFail := decide (2 * (t - c) < m ∨ 2 * m < t - c) } := by
  let bad := decide (2 * (t - c) < m ∨ 2 * m < t - c)
  let x := (s.advanceTo t).updVoter i (fun v => { v with calTick := some t, tideFail := bad })
  have hx : x.moor.voters[i]? = some { v with calTick := some t, tideFail := bad } := updVoter_voter (by rw [advanceTo_moor]; exact hv)
  have hexec : Sys2Proof.Machine.exec (.voterCalibration t i m) s = .next (if bad then x.checkFailed.record 0x7051 [i] else x) := by
    show execVoterCalibration _ _ _ _ = _
    unfold execVoterCalibration
    dsimp only
    rw [advanceTo_moor, hv]
    dsimp only
    rw [hok, advanceTo_md, hm, if_neg (by decide), hc]
    dsimp only
    rw [advanceTo_now ht.1 ht.2.1 ht.2.2]
  refine ⟨_, _, hexec, ?_, rfl⟩
  split
  · rw [record_moor]
    exact hx
  · exact hx

theorem exec_takeoverComplete {t : Nat} {s : State} (hm : s.md.mode = .takeover) :
    ∃ u, Sys2Proof.Machine.exec (.takeoverComplete t) s = .next u ∧ Entered .sole 0x12 s u := by
  have hexec : Sys2Proof.Machine.exec (.takeoverComplete t) s = .next ((((s.advanceTo t).checkpoint false).enterMode .sole 0x12).record 0x7032
      [(s.advanceTo t).time.now - (s.advanceTo t).moor.lossEnd]).podTakeover := by
    show execTakeoverComplete _ _ = _
    unfold execTakeoverComplete
    dsimp only
    rw [advanceTo_md, hm, if_neg (by decide)]
  refine ⟨_, hexec, ?_⟩
  refine entered_after (entered_after ?_ (State.record_frame _ _ _) (by decide) (by decide)) (State.podTakeover_frame _) (by decide) (by decide)
  refine entered_of_prev (enterMode_entered .sole 0x12 _) ?_
  show (s.advanceTo t).md.mode = _
  rw [advanceTo_md]

theorem exec_addressAnnounceRepeat {t a n : Nat} {p : Bool} {s : State} (ht : Ticking t s) (ha : s.moor.announce = some (a, n, p))
    (hdue : a + (n + 1) * secondTicks ≤ t) (hf : s.moor.fenced = false) :
    ∃ u, Sys2Proof.Machine.exec (.addressAnnounceRepeat t) s = .next u ∧ Sends (.announce p) s u ∧
      u.moor = { s.moor with announce := if n = 1 then none else some (a, n + 1, p) } := by
  have hexec : Sys2Proof.Machine.exec (.addressAnnounceRepeat t) s = .next (((s.advanceTo t).updMoor (fun m =>
      { m with announce := if n = 1 then none else some (a, n + 1, p) })).emit (.announce p)) := by
    show execAddressAnnounceRepeat _ _ = _
    unfold execAddressAnnounceRepeat
    dsimp only
    rw [advanceTo_moor, ha]
    dsimp only
    rw [advanceTo_now ht.1 ht.2.1 ht.2.2, if_neg (Nat.not_lt.2 hdue)]
  refine ⟨_, hexec, ?_, ?_⟩
  · refine sends_before (State.advanceTo_frame t s) ⟨[_], emit_sends ?_, List.mem_singleton.2 rfl⟩
    show (s.advanceTo t).moor.fenced = false
    rw [advanceTo_moor]
    exact hf
  · rw [(State.emit_frame _ _).moor (by decide)]
    rw [updMoor_moor, advanceTo_moor]

/-- A read-back that failed, counted and noted. -/
def readbackFailed (band stripe : Nat) (s : State) : State :=
  ((s.updMoor (fun m => { m with readbackFails := m.readbackFails + 1 })).checkFailed).record 0x7060 [band, stripe]

theorem readbackFailed_moor (band stripe : Nat) (s : State) :
    (readbackFailed band stripe s).moor = { s.moor with readbackFails := s.moor.readbackFails + 1 } := record_moor _ _ _

theorem readbackFailed_path (band stripe : Nat) (s : State) : (readbackFailed band stripe s).path = s.path :=
  (State.record_frame _ _ _).path (by decide)

/-- A mirror stripe is read back once a second; one that holds no record and fails is counted. -/
theorem exec_mirrorReadback {t band stripe : Nat} {ok : Bool} {s : State} (ht : Ticking t s) (hm : s.md.mode.backgroundRuns = true)
    (hdue : ∀ r, s.moor.readbackTick = some r → r + secondTicks ≤ t)
    (hband : (NMap.find s.path.bands band).any (fun b => b.st == .mirror && !b.dense) = true)
    (hstripe : (s.stripe? band stripe).any (fun x => x.sealedAt.isSome) = true)
    (hempty : ok = false → ∀ x ∈ s.path.stored, ¬(x.band = band ∧ x.stripe = stripe)) :
    ∃ u, Sys2Proof.Machine.exec (.mirrorReadback t band stripe ok) s = .next u ∧
      u.moor = { s.moor with readbacks := s.moor.readbacks + 1, readbackTick := some t,
                             readbackFails := s.moor.readbackFails + b2n (!ok) } := by
  have hdue' : s.moor.readbackTick.all (fun r => decide (r + secondTicks ≤ t)) = true := by
    cases hr : s.moor.readbackTick with
    | none => rfl
    | some r =>
      rw [Option.all_some]
      exact decide_eq_true (hdue r hr)
  have hstripe' : ((s.advanceTo t).stripe? band stripe).any (fun x => x.sealedAt.isSome) = true := by
    unfold State.stripe?
    rw [advanceTo_path]
    exact hstripe
  let x := (s.advanceTo t).updMoor (fun m => { m with readbacks := m.readbacks + 1, readbackTick := some t })
  have hxm : x.moor = { s.moor with readbacks := s.moor.readbacks + 1, readbackTick := some t } := by
    show ((s.advanceTo t).updMoor _).moor = _
    rw [updMoor_moor, advanceTo_moor]
  have hexec : Sys2Proof.Machine.exec (.mirrorReadback t band stripe ok) s = .next (if ok then x else
      ((readbackFailed band stripe x).path.stored.filter (fun x => x.band == band && x.stripe == stripe && x.record.kind != 5)).foldl
        (fun (s : State) (x : Stored) => s.patrolRepair
          { vol := recordVol x.record, grain := x.record.check.reftag.toNat % 2 ^ 34, point := 2, words := [] }) (readbackFailed band stripe x)) := by
    show execMirrorReadback _ _ _ _ _ = _
    unfold execMirrorReadback
    dsimp only
    rw [advanceTo_now ht.1 ht.2.1 ht.2.2, hstripe', advanceTo_moor, hdue', advanceTo_md, hm, advanceTo_path, hband, if_neg (by decide)]
    rfl
  have hxp : x.path = s.path := advanceTo_path t s
  clear_value x
  refine ⟨_, hexec, ?_⟩
  cases ok with
  | true =>
    rw [if_pos rfl]
    exact hxm
  | false =>
    have hnone : (readbackFailed band stripe x).path.stored.filter
        (fun x => x.band == band && x.stripe == stripe && x.record.kind != 5) = [] := by
      rw [readbackFailed_path, hxp]
      refine List.filter_eq_nil_iff.2 fun z hz => ?_
      have hz' := hempty rfl z hz
      simp only [Bool.and_eq_true, beq_iff_eq, not_and]
      exact fun hbs => absurd hbs hz'
    rw [if_neg Bool.false_ne_true, hnone, List.foldl_nil, readbackFailed_moor, hxm]
    rfl

/-! ### MOOR_CMD -/

theorem bits_command (v : Word) : (bit (v ||| 1) 0 = true ∧ bit (v ||| 1) 1 = bit v 1) ∧ bit (v ||| 2) 1 = true ∧ bit (v ||| 2) 0 = bit v 0 := by
  have h0 : bit (1 : Word) 0 = true := by decide
  have h1 : bit (1 : Word) 1 = false := by decide
  have h2 : bit (2 : Word) 1 = true := by decide
  have h3 : bit (2 : Word) 0 = false := by decide
  simp only [bit_or, h0, h1, h2, h3, Bool.or_true, Bool.or_false, and_self]

/-- A head that yields. -/
def yielded (s : State) : State := (s.selfFence 3).updMoor (fun m => { m with release := some s.time.now, releaseTx := 3 })

theorem yielded_paired {s : State} (hm : s.md.mode = .paired) (hr : s.moor.relayHeld = []) : (yielded s).md.mode = .join ∧
    (yielded s).moor.fenced = true ∧ (yielded s).moor.release = some s.time.now ∧ (yielded s).moor.releaseTx = 3 := by
  obtain ⟨hjoin, hfenced, -⟩ := selfFence_paired (c := 3) hm hr
  unfold yielded
  generalize s.selfFence 3 = y at hjoin hfenced ⊢
  exact ⟨hjoin, hfenced, rfl, rfl⟩

/-- What a write of MOOR_CMD that its register lets through does. -/
def moorCommand (v : Word) (s : State) : State :=
  let s1 := if bit v 0 then
      if s.md.mode == .paired then yielded s else s.ignored
    else s
  if bit v 1 then
    if s.md.mode == .join || s.md.mode == .sole then s1.updMoor (fun m => { m with wakeLeft := 50 }) else s1.ignored
  else s1

theorem writeMoorCmd_acts {s : State} (ho : Open s) (t : Nat) (o : Origin) (v : Word) : ∃ x, Frame 5 s x ∧ x.md = s.md ∧
    x.time = (s.advanceTo t).time ∧ (s.advanceTo t).writeMoorCmd o v = moorCommand v x := by
  obtain ⟨r, x, f, hmd, hx, hexec⟩ := gateWrite_acts (a := Reg.MOOR_CMD) (w := .any) (res := 0xFFFFFFFC#32) (o := o) (t := t) (v := v)
    (by decide +kernel) ho rfl (by decide) fun _ => moorCommand v
  refine ⟨x, f, hmd, ?_, hexec⟩
  rcases hx with rfl | rfl
  · rfl
  · rfl

/-! ### The switch -/

theorem switchReady_advanceTo (t : Nat) (s : State) : (s.advanceTo t).switchReady = s.switchReady := by
  simp only [State.switchReady, advanceTo_moor, advanceTo_adm]

theorem exchange_advanceTo (t : Nat) (s : State) : (s.advanceTo t).exchange = s.exchange := by
  simp only [State.exchange, State.pEmpty, State.pDirty, advanceTo_moor, advanceTo_md, advanceTo_path]

theorem resyncDone_moor (s : State) : s.resyncDone.moor = s.moor := (State.resyncDone_frame s).moor (by decide)

section
variable {t : Nat} {s : State}

/-- At the survivor the switch ends Handback. -/
theorem exec_resyncSwitch_handback (hready : s.switchReady = true) (hm : s.md.mode = .handback) (hg : s.moor.gotGrant = true) :
    ∃ u, Sys2Proof.Machine.exec (.resyncSwitch t) s = .next u ∧ u.md.mode = .paired := by
  have hexec : Sys2Proof.Machine.exec (.resyncSwitch t) s = .next ((s.advanceTo t).tellChanges.resyncDone.giveBack.enterPaired 0x08) := by
    show execResyncSwitch _ _ = _
    unfold execResyncSwitch
    dsimp only
    rw [advanceTo_md, hm, switchReady_advanceTo, hready, advanceTo_moor, hg]
    rfl
  exact ⟨_, hexec, enterPaired_mode _ _⟩

/-- At the returning head it ends the resynchronisation. -/
theorem exec_resyncSwitch_join (hready : s.switchReady = true) (hm : s.md.mode = .join) :
    ∃ u, Sys2Proof.Machine.exec (.resyncSwitch t) s = .next u ∧ u.moor = { s.moor with resync := none, changes := [] } := by
  have hsome : s.moor.resync.isSome = true := by
    unfold State.switchReady at hready
    cases hr : s.moor.resync with
    | none => rw [hr] at hready; cases hready
    | some r => rfl
  have hexec : Sys2Proof.Machine.exec (.resyncSwitch t) s =
      .next ((s.advanceTo t).resyncDone.updMoor (fun m => { m with resync := none, changes := [] })) := by
    show execResyncSwitch _ _ = _
    unfold execResyncSwitch
    dsimp only
    rw [advanceTo_md, hm, switchReady_advanceTo, hready, advanceTo_moor, hsome]
    rfl
  refine ⟨_, hexec, ?_⟩
  rw [updMoor_moor, resyncDone_moor, advanceTo_moor]

/-- Between heads in Join it follows the lease exchange. -/
theorem exec_resyncSwitch_exchange (hm : s.md.mode = .join) (hr : s.moor.resync = none) (hx : s.exchange = true) (hp : s.moor.pmode = 7)
    (hgranted : s.moor.granted = true) (hgot : s.moor.gotGrant = true) (hrejoin : s.moor.rejoin = []) :
    ∃ u, Sys2Proof.Machine.exec (.resyncSwitch t) s = .next u ∧ u.md.mode = .paired ∧ u.path.empty = false := by
  let x : State := { (s.advanceTo t).unbindResv.openSnaps with path := { (s.advanceTo t).unbindResv.openSnaps.path with empty := false } }
  have hexec : Sys2Proof.Machine.exec (.resyncSwitch t) s = .next ((x.enterPaired 0x10).startAnnounce false) := by
    show execResyncSwitch _ _ = _
    unfold execResyncSwitch
    dsimp only
    rw [advanceTo_md, hm, exchange_advanceTo, hx, advanceTo_moor, hr, hp, hgranted, hgot, hrejoin]
    rfl
  have hannounce := State.startAnnounce_frame false (x.enterPaired 0x10)
  refine ⟨_, hexec, (hannounce.mode (by decide)).trans (enterPaired_mode _ _), ?_⟩
  rw [hannounce.path (by decide), (State.enterPaired_frame 0x10 x).path (by decide)]

end

/-- Settles O33: the voters, takeover, MOOR_CMD, the switch and the read-back by the chapter's rules. -/
theorem votersTakeoverAndSwitch : Obligations.VotersTakeoverAndSwitch := by
  refine ⟨fun t s hm hdue ⟨a, b, c, hv, ha, hb, hc, hta, htb, htc⟩ => ?_,
    fun t i m c v s ht hv hok hm hc => exec_voterCalibration ht hv hok hm hc, fun t s hm => exec_takeoverComplete hm,
    fun t a n p s ht ha hdue hf => exec_addressAnnounceRepeat ht ha hdue hf, fun t o v s ho hv => ?_, fun t o v s ho hv => ?_,
    fun t s hready => ⟨exec_resyncSwitch_handback hready, exec_resyncSwitch_join hready⟩,
    fun t s hm hr hx hp hgranted hgot hrejoin => exec_resyncSwitch_exchange hm hr hx hp hgranted hgot hrejoin,
    fun t band stripe ok s ht hm hdue hband hstripe hempty => exec_mirrorReadback ht hm hdue hband hstripe hempty⟩
  · have hexec := exec_voterEvaluation hm hdue hv ha hb hc hta htb htc
    have hm' : ((s.advanceTo t).updMoor (fun m => { m with
        evalTick := some (s.advanceTo t).time.now
        voters := [voted (s.advanceTo t).fenceDue (s.advanceTo t).lostDue a, voted (s.advanceTo t).fenceDue (s.advanceTo t).lostDue b,
          voted (s.advanceTo t).fenceDue (s.advanceTo t).lostDue c] })).md.mode = .paired := by
      show (s.advanceTo t).md.mode = _
      rw [advanceTo_md]
      exact hm
    rw [decide_paired hm' ha hb hc rfl] at hexec
    refine ⟨fun hfence hheld => ?_, fun hfence hlost => ?_, fun hfence hlost => ?_⟩
    · rw [hfence, if_pos rfl] at hexec
      refine ⟨_, hexec, selfFence_paired ?_ ?_⟩
      · show (s.advanceTo t).md.mode = _
        rw [advanceTo_md]
        exact hm
      · show (s.advanceTo t).moor.relayHeld = _
        rw [advanceTo_moor]
        exact hheld
    · rw [hfence, hlost, if_neg Bool.false_ne_true, if_pos rfl] at hexec
      exact ⟨_, hexec, enterTakeover_mode _⟩
    · rw [hfence, hlost, if_neg Bool.false_ne_true, if_neg Bool.false_ne_true] at hexec
      exact ⟨_, hexec, advanceTo_md t s, advanceTo_adm t s⟩
  · obtain ⟨⟨hyield, hwake⟩, -⟩ := bits_command v
    obtain ⟨x, f, hmd, htime, hrun⟩ := writeMoorCmd_acts ho t o (v ||| 1)
    unfold moorCommand at hrun
    rw [hyield, hwake, hv, if_neg Bool.false_ne_true, if_pos rfl] at hrun
    refine ⟨fun hm hheld => ?_, fun hm => ?_⟩
    · rw [hmd, hm, if_pos (by decide)] at hrun
      rw [← htime]
      exact ⟨_, congrArg Host.Outcome.next hrun, yielded_paired (by rw [hmd]; exact hm) (by rw [f.moor (by decide)]; exact hheld)⟩
    · rw [hmd, if_neg (by simpa using hm)] at hrun
      exact ⟨_, congrArg Host.Outcome.next hrun, hmd, f.moor (by decide)⟩
  · obtain ⟨-, hwake, hyield⟩ := bits_command v
    obtain ⟨x, f, hmd, htime, hrun⟩ := writeMoorCmd_acts ho t o (v ||| 2)
    unfold moorCommand at hrun
    rw [hyield, hwake, hv, if_neg Bool.false_ne_true, if_pos rfl, hmd] at hrun
    refine ⟨fun hm => ?_, fun hj hs => ?_⟩
    · rw [if_pos (by rcases hm with h | h <;> rw [h] <;> rfl)] at hrun
      refine ⟨_, congrArg Host.Outcome.next hrun, ?_⟩
      rw [updMoor_moor, f.moor (by decide)]
    · rw [if_neg (by simp [hj, hs])] at hrun
      exact ⟨_, congrArg Host.Outcome.next hrun, f.moor (by decide)⟩

end Sys2Proof.Proofs
end

section
/-!
SUPPORT. The I/O queues: what a queue made or deleted leaves of the controller's admin queue, and the settling of one deletion.
-/

namespace Sys2Proof.Proofs

open Sys2Proof.Machine Sys2Proof.Safety Sys2Proof.Laws

/-- An admin completion needs its queue, its controller and an open fence. -/
theorem room_of_adminQueue {cntl : Nat} {s u : State} (h : Room cntl 0 s)
    (hq : NMap.find u.nvq.cqs (adminKey cntl) = NMap.find s.nvq.cqs (adminKey cntl)) (hc : u.nvq.ctrls = s.nvq.ctrls)
    (hf : u.moor.fenced = s.moor.fenced) : Room cntl 0 u := by
  obtain ⟨hfenced, hctrl, k, q, hk, hfind, hrest⟩ := h
  have hkey : ∀ x : State, x.cqKey cntl 0 = if (NMap.find x.nvq.cqs (adminKey cntl)).isSome then some (adminKey cntl) else none :=
    fun _ => rfl
  rw [hkey] at hk
  have hk' : k = adminKey cntl := by
    split at hk
    · exact (Option.some.inj hk).symm
    · cases hk
  subst hk'
  exact ⟨hf.trans hfenced, by rw [hc]; exact hctrl, _, q, by rw [hkey, hq]; exact hk, by rw [hq]; exact hfind, hrest⟩

/-- What the creating command says of a completion queue. -/
def cqShape (q : Cq) : Nat × Nat × Nat × Nat × Nat × Bool × Nat := (q.cntl, q.qid, q.size, q.key, q.offset, q.ien, q.head)

theorem cqShape_steady : Steady cqShape := fun _ _ _ _ _ _ => rfl

/-- The name of a completion queue. -/
def cqName (q : Cq) : Nat × Nat × Nat := (q.cntl, q.qid, q.dqn)

theorem cqName_steady : Steady cqName := fun _ _ _ _ _ _ => rfl

/-- A quantity of a completion queue outlives an admin completion. -/
theorem completeAdmin_cqs {α : Type} {g : Cq → α} {cntl : Nat} {s : State} (hg : Steady g) (hs : Settled cntl s) (e : Sqe) (sct sc dw0 k : Nat) :
    (NMap.find (s.completeAdmin cntl e sct sc dw0).nvq.cqs k).map g = (NMap.find s.nvq.cqs k).map g :=
  (complete_posted (h := fun _ => ()) hg (by exact fun _ _ => rfl) _ _ _ _ _ _ hs).1 k

/-- The state with other queues. -/
def State.withQueues (cqs : NMap Cq) (sqs : NMap Sq) (s : State) : State := { s with nvq := { s.nvq with cqs := cqs, sqs := sqs } }

theorem withQueues_frame (cqs : NMap Cq) (sqs : NMap Sq) (s : State) : Frame 128 s (State.withQueues cqs sqs s) :=
  Frame.set_nvq (by decide) (fun _ => rfl) (fun _ => rfl) (Frame.refl s)

theorem room_withQueues {cntl : Nat} {cqs : NMap Cq} {sqs : NMap Sq} {s : State} (h : Room cntl 0 s)
    (hq : NMap.find cqs (adminKey cntl) = NMap.find s.nvq.cqs (adminKey cntl)) : Room cntl 0 (State.withQueues cqs sqs s) :=
  room_of_adminQueue h hq rfl rfl

/-! ### Creation -/

/-- The completion queue a command describes. -/
def freshCq (cntl : Nat) (e : Sqe) : Cq :=
  { cntl := cntl, qid := qidOf e, dqn := 0, size := qsizeOf e, key := dkeyOf e, offset := dofsOf e, head := 0, tail := 0,
    phase := true, epoch := 0, ien := qienOf e, held := [], unnotified := 0, notifyFrom := 0 }

/-- The submission queue a command describes, under its device queue number. -/
def freshSq (cntl dqn : Nat) (e : Sqe) : Sq :=
  { cntl := cntl, qid := qidOf e, dqn := dqn, size := qsizeOf e, key := dkeyOf e, offset := dofsOf e, head := 0, tail := 0,
    epoch := 0, holdLimit := 0, deleting := none }

theorem createCq_makes {cntl : Nat} {e : Sqe} {s : State} (hnew : s.cqKey cntl (qidOf e) = none)
    (hallowed : s.qidAllowed cntl (qidOf e) = true) (hsize : qsizeOf e ≤ 65535) (hpc : qpcOf e = true) :
    s.createCq cntl e true =
      (State.withQueues (NMap.put s.nvq.cqs (loneKey cntl (qidOf e)) (freshCq cntl e)) s.nvq.sqs s).completeAdmin cntl e 0 0 0 := by
  unfold State.createCq
  dsimp only
  rw [if_neg (by simp [hnew, hallowed]), if_neg (by omega), if_neg (by simp [hpc]), if_neg (by decide)]
  rfl

theorem createSq_makes {cntl key dqn : Nat} {c : Cq} {e : Sqe} {s : State} (hname : cqidOf e = qidOf e) (hid : qidOf e ≠ 0)
    (hcq : s.cqKey cntl (qidOf e) = some key) (hnew : s.queueKey cntl (qidOf e) = none)
    (hallowed : s.qidAllowed cntl (qidOf e) = true) (hsize : qsizeOf e ≤ 65535) (hpc : qpcOf e = true)
    (hdqn : (if key < 16384 then some key else s.freeDqn) = some dqn) (hc : NMap.find s.nvq.cqs key = some c) :
    s.createSq cntl e true =
      ((State.withQueues (NMap.put (NMap.del s.nvq.cqs key) dqn { c with dqn := dqn }) (NMap.put s.nvq.sqs dqn (freshSq cntl dqn e)) s).record
        0x6002 [cntl, qidOf e, dqn, qsizeOf e]).completeAdmin cntl e 0 0 dqn := by
  unfold State.createSq
  dsimp only
  rw [if_pos ⟨hname, hid⟩, hcq]
  dsimp only
  rw [if_neg (by simp [hnew, hallowed]), if_neg (by omega), if_neg (by simp [hpc]), if_neg (by decide), hdqn, hc]
  rfl

/-- A queue without a deletion leaves its controller settled. -/
theorem settled_put {cntl k : Nat} {q : Sq} {cqs : NMap Cq} {s : State} (h : Settled cntl s) (hq : q.deleting = none) :
    Settled cntl (State.withQueues cqs (NMap.put s.nvq.sqs k q) s) := by
  intro p hp hcntl
  rcases mem_put hp with rfl | hp
  · exact hq
  · exact h p hp hcntl

/-! ### Deletion -/

/-- Of what is put into a map where nothing else has a property, it alone has it. -/
theorem filter_put {α : Type} {f : Nat × α → Bool} {m : NMap α} {k : Nat} {v : α} (hm : ∀ p ∈ m, f p = false) (hv : f (k, v) = true) :
    (NMap.put m k v).filter f = [(k, v)] := by
  induction m with
  | nil => simp [NMap.put, hv]
  | cons p m ih =>
    obtain ⟨hp, hm⟩ := List.forall_mem_cons.1 hm
    have hnone : m.filter f = [] := List.filter_eq_nil_iff.2 fun x hx => by simp [hm x hx]
    unfold NMap.put
    split
    · simp [hv, hp, hnone]
    · split
      · simp [hv, hnone]
      · simp [hp, ih hm]

/-- No Flush can end where none is outstanding. -/
theorem readyFlushes_none {l : List (Nat × Sqe × Nat)} (h : ∀ x ∈ l, x.1 = 0 ∨ x.2.1.opcode ≠ 0) (before : List (Nat × Sqe × Nat)) :
    readyFlushes before l = [] := by
  induction l generalizing before with
  | nil => rfl
  | cons x l ih =>
    obtain ⟨hx, hl⟩ := List.forall_mem_cons.1 h
    unfold readyFlushes
    have hnot : ¬ ((x.1 != 0 && x.2.1.opcode == 0) = true) := by
      rcases hx with hx | hx <;> simp [hx]
    rw [if_neg (by simpa using fun a b => absurd (by simpa using And.intro a b) hnot)]
    exact ih hl _

/-- The state in which a submission queue waits for its deletion. -/
def deleting (key cid : Nat) (s : State) : State := s.updSq key (fun q => { q with deleting := some cid })

/-- A settled controller whose one queue is deleted settles that deletion alone. -/
theorem settle_deleting {cntl key cid : Nat} {q : Sq} {c : Ctrl} {s : State} (hs : Settled cntl s) (hq : NMap.find s.nvq.sqs key = some q)
    (hcntl : q.cntl = cntl) (hc : NMap.find s.nvq.ctrls cntl = some c) (hflush : ∀ x ∈ c.outstanding, x.1 = 0 ∨ x.2.1.opcode ≠ 0) :
    (deleting key cid s).settle cntl = (deleting key cid s).settleDelete cntl (key, { q with deleting := some cid }) := by
  have hsqs : (deleting key cid s).nvq.sqs = NMap.put s.nvq.sqs key { q with deleting := some cid } := by
    show NMap.upd s.nvq.sqs key _ = _
    unfold NMap.upd
    rw [hq]
  have hnone : ∀ p ∈ s.nvq.sqs, (p.2.cntl == cntl && p.2.deleting.isSome) = false := by
    intro p hp
    by_cases h : p.2.cntl = cntl
    · simp [hs p hp h]
    · simp [h]
  have hone := filter_put (f := fun p => p.2.cntl == cntl && p.2.deleting.isSome) (k := key) (v := { q with deleting := some cid }) hnone
    (by simp [hcntl])
  unfold State.settle
  rw [show NMap.find (deleting key cid s).nvq.ctrls cntl = some c from hc]
  dsimp only
  rw [readyFlushes_none hflush, List.foldl_nil, hsqs, hone, List.foldl_cons, List.foldl_nil]

/-- A deletion waits while a command of its queue is outstanding (R196). -/
theorem settleDelete_waits {cntl key : Nat} {q : Sq} {c : Ctrl} {s : State} (hc : NMap.find s.nvq.ctrls cntl = some c)
    (hout : ∃ x ∈ c.outstanding, x.1 = q.qid) : s.settleDelete cntl (key, q) = s := by
  obtain ⟨x, hx, hqid⟩ := hout
  unfold State.settleDelete
  rw [hc]
  cases q.deleting with
  | none => rfl
  | some cid => exact if_pos (List.any_eq_true.2 ⟨x, hx, by simp [hqid]⟩)

/-- With no command of it left and no reservation bound, the queue goes. -/
theorem settleDelete_ends {cntl key cid : Nat} {q : Sq} {c : Ctrl} {s : State} (hc : NMap.find s.nvq.ctrls cntl = some c)
    (hdel : q.deleting = some cid) (hout : ∀ x ∈ c.outstanding, x.1 ≠ q.qid) (hresv : s.resvOf key = none) :
    s.settleDelete cntl (key, q) =
      ((State.withQueues s.nvq.cqs (NMap.del s.nvq.sqs key) s).record 0x6003 [cntl, q.qid, key]).finish cntl 0 cid 0 0 0 0 := by
  unfold State.settleDelete
  rw [hc]
  dsimp only
  rw [hdel]
  dsimp only
  rw [if_neg (by simpa using fun a b h => hout (q.qid, a, b) h rfl), hresv]
  rfl

theorem deleteSq_settles {cntl key : Nat} {q : Sq} {e : Sqe} {s : State} (hid : qidOf e ≠ 0) (hkey : s.queueKey cntl (qidOf e) = some key)
    (hq : NMap.find s.nvq.sqs key = some q) (hdel : q.deleting = none) (hheld : ∀ h ∈ s.adm.held, h.dqn ≠ key) :
    s.deleteSq cntl e = (deleting key e.cid s).settle cntl := by
  have hnone : s.adm.held.filter (fun h => h.dqn == key) = [] := List.filter_eq_nil_iff.2 fun h hh => by simp [hheld h hh]
  unfold State.deleteSq
  rw [if_neg hid, hkey]
  dsimp only
  rw [hq]
  dsimp only
  rw [if_neg (by simp [hdel]), hnone]
  rfl

theorem deleteCq_ends {cntl key : Nat} {e : Sqe} {s : State} (hid : qidOf e ≠ 0) (hkey : s.cqKey cntl (qidOf e) = some key)
    (hsq : s.queueKey cntl (qidOf e) = none) :
    s.deleteCq cntl e = (State.withQueues (NMap.del s.nvq.cqs key) s.nvq.sqs s).completeAdmin cntl e 0 0 0 := by
  unfold State.deleteCq
  rw [if_neg hid, hkey]
  dsimp only
  rw [hsq]
  rfl

theorem deleteCq_refused {cntl key : Nat} {e : Sqe} {s : State} (hid : qidOf e ≠ 0) (hkey : s.cqKey cntl (qidOf e) = some key)
    (hsq : s.queueKey cntl (qidOf e) ≠ none) : s.deleteCq cntl e = s.completeAdmin cntl e 1 0x0C 0 := by
  unfold State.deleteCq
  rw [if_neg hid, hkey]
  dsimp only
  rw [if_pos (by simpa [Option.isSome_iff_ne_none] using hsq)]

section
variable {cntl key : Nat} {e : Sqe} {y : State} (hroom : Room cntl 0 y) (hset : Settled cntl y)
include hroom hset

theorem createCq_created (hnew : y.cqKey cntl (qidOf e) = none) (hallowed : y.qidAllowed cntl (qidOf e) = true) (hsize : qsizeOf e ≤ 65535)
    (hpc : qpcOf e = true) (hlone : loneKey cntl (qidOf e) ≠ adminKey cntl) :
    Answers cntl 0 e.cid 0 0 0 y (y.createCq cntl e true) ∧
      (NMap.find (y.createCq cntl e true).nvq.cqs (loneKey cntl (qidOf e))).map cqShape = some (cqShape (freshCq cntl e)) := by
  rw [createCq_makes hnew hallowed hsize hpc]
  refine ⟨answers_before (withQueues_frame _ _ y) (completeAdmin_answers (room_withQueues hroom (find_put_ne _ _ hlone))), ?_⟩
  have hset' : Settled cntl (State.withQueues (NMap.put y.nvq.cqs (loneKey cntl (qidOf e)) (freshCq cntl e)) y.nvq.sqs y) := hset
  rw [completeAdmin_cqs cqShape_steady hset']
  exact congrArg (Option.map cqShape) (find_put_self _ _ _)

theorem createSq_created {dqn : Nat} {c : Cq} (hname : cqidOf e = qidOf e) (hid : qidOf e ≠ 0) (hcq : y.cqKey cntl (qidOf e) = some key)
    (hnew : y.queueKey cntl (qidOf e) = none) (hallowed : y.qidAllowed cntl (qidOf e) = true) (hsize : qsizeOf e ≤ 65535) (hpc : qpcOf e = true)
    (hdqn : (if key < 16384 then some key else y.freeDqn) = some dqn) (hc : NMap.find y.nvq.cqs key = some c) (hkey : key ≠ adminKey cntl)
    (hdqn' : dqn ≠ adminKey cntl) :
    Answers cntl 0 e.cid 0 0 dqn y (y.createSq cntl e true) ∧
      NMap.find (y.createSq cntl e true).nvq.sqs dqn = some (freshSq cntl dqn e) ∧
      (NMap.find (y.createSq cntl e true).nvq.cqs dqn).map cqName = some (c.cntl, c.qid, dqn) := by
  rw [createSq_makes hname hid hcq hnew hallowed hsize hpc hdqn hc]
  have hset' : Settled cntl (State.withQueues (NMap.put (NMap.del y.nvq.cqs key) dqn { c with dqn := dqn })
    (NMap.put y.nvq.sqs dqn (freshSq cntl dqn e)) y) := settled_put hset rfl
  have hroom' : Room cntl 0 (State.withQueues (NMap.put (NMap.del y.nvq.cqs key) dqn { c with dqn := dqn })
    (NMap.put y.nvq.sqs dqn (freshSq cntl dqn e)) y) := room_withQueues hroom (by rw [find_put_ne _ _ hdqn', find_del, if_neg hkey])
  have fx := withQueues_frame (NMap.put (NMap.del y.nvq.cqs key) dqn { c with dqn := dqn }) (NMap.put y.nvq.sqs dqn (freshSq cntl dqn e)) y
  have hsq : NMap.find (NMap.put y.nvq.sqs dqn (freshSq cntl dqn e)) dqn = some (freshSq cntl dqn e) := find_put_self _ _ _
  have hcq : NMap.find (NMap.put (NMap.del y.nvq.cqs key) dqn { c with dqn := dqn }) dqn = some { c with dqn := dqn } := find_put_self _ _ _
  have hsqs : (State.withQueues (NMap.put (NMap.del y.nvq.cqs key) dqn { c with dqn := dqn })
    (NMap.put y.nvq.sqs dqn (freshSq cntl dqn e)) y).nvq.sqs = NMap.put y.nvq.sqs dqn (freshSq cntl dqn e) := rfl
  have hcqs : (State.withQueues (NMap.put (NMap.del y.nvq.cqs key) dqn { c with dqn := dqn })
    (NMap.put y.nvq.sqs dqn (freshSq cntl dqn e)) y).nvq.cqs = NMap.put (NMap.del y.nvq.cqs key) dqn { c with dqn := dqn } := rfl
  generalize State.withQueues _ _ y = x at hset' hroom' fx hsqs hcqs ⊢
  have fr := State.record_frame 0x6002 [cntl, qidOf e, dqn, qsizeOf e] x
  have hnvq := fr.nvq (by decide)
  refine ⟨answers_before fx (answers_before fr (completeAdmin_answers (hroom'.of_frame fr (by decide) (by decide)))), ?_, ?_⟩
  · rw [show (State.completeAdmin cntl e 0 0 dqn _).nvq.sqs = _ from (complete_settled 0 e.cid 0 0 dqn 0 (Settled.of_sqs hset' (by rw [hnvq]))).2,
      hnvq, hsqs, hsq]
  · rw [completeAdmin_cqs cqName_steady (Settled.of_sqs hset' (by rw [hnvq])), hnvq, hcqs, hcq]
    rfl

theorem deleteCq_deleted (hid : qidOf e ≠ 0) (hkey : y.cqKey cntl (qidOf e) = some key) (hsq : y.queueKey cntl (qidOf e) = none)
    (hadmin : key ≠ adminKey cntl) :
    Answers cntl 0 e.cid 0 0 0 y (y.deleteCq cntl e) ∧ NMap.find (y.deleteCq cntl e).nvq.cqs key = none := by
  rw [deleteCq_ends hid hkey hsq]
  refine ⟨answers_before (withQueues_frame _ _ y) (completeAdmin_answers (room_withQueues hroom (by rw [find_del, if_neg hadmin]))), ?_⟩
  have hkept := completeAdmin_cqs cqName_steady (s := State.withQueues (NMap.del y.nvq.cqs key) y.nvq.sqs y) (Settled.of_sqs hset rfl) e 0 0 0 key
  have hgone : NMap.find (State.withQueues (NMap.del y.nvq.cqs key) y.nvq.sqs y).nvq.cqs key = none := (find_del _ _ _).trans (if_pos rfl)
  rwa [hgone, Option.map_none, Option.map_eq_none_iff] at hkept

section
variable {q : Sq} {c : Ctrl} (hid : qidOf e ≠ 0) (hkey : y.queueKey cntl (qidOf e) = some key) (hq : NMap.find y.nvq.sqs key = some q)
  (hcntl : q.cntl = cntl) (hqid : q.qid = qidOf e) (hheld : ∀ h ∈ y.adm.held, h.dqn ≠ key) (hc : NMap.find y.nvq.ctrls cntl = some c)
  (hflush : ∀ x ∈ c.outstanding, x.1 = 0 ∨ x.2.1.opcode ≠ 0)
include hid hkey hq hcntl hqid hheld hc hflush

theorem deleteSq_deleted (hout : ∀ x ∈ c.outstanding, x.1 ≠ qidOf e) (hresv : y.resvOf key = none) :
    Answers cntl 0 e.cid 0 0 0 y (y.deleteSq cntl e) ∧ NMap.find (y.deleteSq cntl e).nvq.sqs key = none := by
  rw [deleteSq_settles hid hkey hq (hset _ (mem_of_find hq) hcntl) hheld, settle_deleting hset hq hcntl hc hflush,
    settleDelete_ends (s := deleting key e.cid y) hc rfl (by rw [hqid]; exact hout) hresv]
  have fx : Frame 128 y (State.withQueues y.nvq.cqs (NMap.del (deleting key e.cid y).nvq.sqs key) (deleting key e.cid y)) :=
    withQueues_frame y.nvq.cqs (NMap.del (deleting key e.cid y).nvq.sqs key) y
  have hroom' : Room cntl 0 (State.withQueues y.nvq.cqs (NMap.del (deleting key e.cid y).nvq.sqs key) (deleting key e.cid y)) :=
    room_of_adminQueue hroom rfl rfl rfl
  have hgone : NMap.find (State.withQueues y.nvq.cqs (NMap.del (deleting key e.cid y).nvq.sqs key) (deleting key e.cid y)).nvq.sqs key = none :=
    (find_del _ _ _).trans (if_pos rfl)
  rw [show (deleting key e.cid y).nvq.cqs = y.nvq.cqs from rfl]
  generalize State.withQueues _ _ (deleting key e.cid y) = x at fx hroom' hgone ⊢
  have fr := State.record_frame 0x6003 [cntl, q.qid, key] x
  have hroomr := hroom'.of_frame fr (by decide) (by decide)
  obtain ⟨head, phase, new, hnew, hmem⟩ := finish_sends (cid := e.cid) (sct := 0) (sc := 0) (dw0 := 0) (dw1 := 0) hroomr
  refine ⟨answers_before fx (answers_before fr ⟨new, 0, head, phase, hnew, hmem⟩), ?_⟩
  rw [finish_sqs, fr.nvq (by decide), hgone]

omit hroom in
theorem deleteSq_waits (hout : ∃ x ∈ c.outstanding, x.1 = qidOf e) :
    NMap.find (y.deleteSq cntl e).nvq.sqs key = some { q with deleting := some e.cid } ∧ (y.deleteSq cntl e).outbox = y.outbox := by
  rw [deleteSq_settles hid hkey hq (hset _ (mem_of_find hq) hcntl) hheld, settle_deleting hset hq hcntl hc hflush,
    settleDelete_waits (s := deleting key e.cid y) hc (by rw [hqid]; exact hout)]
  refine ⟨?_, rfl⟩
  show NMap.find (NMap.upd y.nvq.sqs key _) key = _
  rw [find_upd, if_pos rfl, hq]
  rfl

end

end

/-- Settles O34. -/
theorem ioQueuesAreMadeAndDeleted : Obligations.IoQueuesAreMadeAndDeleted := by
  refine ⟨fun t cntl e s hr => ?_, fun t cntl key dqn c e s hr => ?_, fun t cntl key q c e s hr => ?_, fun t cntl key e s hr => ?_⟩
  · intro y hnew hallowed hsize hpc hlone
    obtain ⟨hrun, hroom, hset⟩ := runs_admin (t := t) (always := false) (run := fun s => s.createCq cntl e true) hr
    obtain ⟨hans, hcq⟩ := createCq_created hroom hset hnew hallowed hsize hpc hlone
    obtain ⟨q, hq, hshape⟩ := Option.map_eq_some_iff.1 hcq
    simp only [cqShape, freshCq, Prod.mk.injEq] at hshape
    exact ⟨_, q, congrArg Host.Outcome.next hrun, hans, hq, hshape⟩
  · intro y hname hid hcq hnew hallowed hsize hpc hdqn hc hkey hdqn'
    obtain ⟨hrun, hroom, hset⟩ := runs_admin (t := t) (always := false) (run := fun s => s.createSq cntl e true) hr
    obtain ⟨hans, hsq, hcq'⟩ := createSq_created hroom hset hname hid hcq hnew hallowed hsize hpc hdqn hc hkey hdqn'
    exact ⟨_, freshSq cntl dqn e, congrArg Host.Outcome.next hrun, hans, hsq, rfl, rfl, rfl, rfl, rfl, rfl, rfl, rfl, rfl, hcq'⟩
  · intro y hid hkey hq hcntl hqid hadmin hheld hc hflush
    obtain ⟨hrun, hroom, hset⟩ := runs_admin (t := t) (always := false) (run := fun s => s.deleteSq cntl e) hr
    refine ⟨fun hout hresv => ⟨_, congrArg Host.Outcome.next hrun,
      deleteSq_deleted hroom hset hid hkey hq hcntl hqid hheld hc hflush hout hresv⟩, fun hout => ?_⟩
    obtain ⟨hsq, hbox⟩ := deleteSq_waits hset hid hkey hq hcntl hqid hheld hc hflush hout
    exact ⟨_, congrArg Host.Outcome.next hrun, hsq, hbox.trans ((fetched_advanceTo_frame t cntl 0 e s).outbox (by decide))⟩
  · intro y hid hkey hadmin
    obtain ⟨hrun, hroom, hset⟩ := runs_admin (t := t) (always := false) (run := fun s => s.deleteCq cntl e) hr
    refine ⟨fun hsq => ⟨_, congrArg Host.Outcome.next hrun, deleteCq_deleted hroom hset hid hkey hsq hadmin⟩, fun hsq => ?_⟩
    exact ⟨_, congrArg Host.Outcome.next (hrun.trans (deleteCq_refused hid hkey hsq)), completeAdmin_answers hroom,
      completeAdmin_cqs (g := (·.qid)) (fun _ _ _ _ _ _ => rfl) hset e 1 0x0C 0⟩

end Sys2Proof.Proofs
end

section
/-!
SUPPORT. What a completion leaves of the queues' state, and logs, Identify, Abort and the event requests.
-/

namespace Sys2Proof.Proofs

open Sys2Proof.Machine Sys2Proof.Safety Sys2Proof.Laws

/-! ### What a completion leaves -/

theorem notifyCq_orphans (key : Nat) (s : State) : (s.notifyCq key).nvq.orphans = s.nvq.orphans := by
  unfold State.notifyCq
  split
  · split
    · rfl
    · rw [emit_nvq]
      rfl
  · rfl

theorem writeCqe_orphans (key : Nat) (c : Cqe) (s : State) : (s.writeCqe key c).nvq.orphans = s.nvq.orphans := by
  unfold State.writeCqe
  split
  · rfl
  · rename_i q _
    have hput : ∀ o : Out, ((s.updCq key (Cq.push s.time.now)).emit o).nvq.orphans = s.nvq.orphans := fun o => by rw [emit_nvq]; rfl
    dsimp only
    generalize (q.ien && coalesceNow _ _) = b
    cases b
    · exact hput _
    · exact (notifyCq_orphans _ _).trans (hput _)

theorem postCqe_orphans (key : Nat) (c : Cqe) (s : State) : (s.postCqe key c).nvq.orphans = s.nvq.orphans := by
  unfold State.postCqe
  split
  · rfl
  · split
    · rw [(State.recordOnce_frame _ _ _ _).nvq (by decide), count_nvq]
      rfl
    · exact writeCqe_orphans key c s

/-- A completion to a controller that is there reaches its queue, not log C3h (R206). -/
theorem finish_orphans {cntl : Nat} {s : State} (h : NMap.has s.nvq.ctrls cntl = true) (qid cid sct sc dw0 dw1 : Nat) :
    (s.finish cntl qid cid sct sc dw0 dw1).nvq.orphans = s.nvq.orphans := by
  obtain ⟨c, hc⟩ := Option.isSome_iff_exists.1 (show (NMap.find s.nvq.ctrls cntl).isSome = true from h)
  unfold State.finish
  rw [hc]
  dsimp only
  rw [postCqe_orphans]
  split
  · rw [count_nvq]
    rfl
  · unfold State.logError
    dsimp only
    rw [count_nvq]
    rfl

theorem finish_has {cntl : Nat} {s : State} (h : NMap.has s.nvq.ctrls cntl = true) (qid cid sct sc dw0 dw1 : Nat) :
    NMap.has (s.finish cntl qid cid sct sc dw0 dw1).nvq.ctrls cntl = true := by
  have hposted := (finish_posted (g := fun _ : Cq => ()) (h := fun _ : Ctrl => ()) (fun _ _ _ _ _ _ => rfl) (by exact fun _ _ => rfl)
    cntl qid cid sct sc dw0 dw1 s).2 cntl
  unfold NMap.has at h ⊢
  rw [← Option.isSome_map (f := fun _ : Ctrl => ()), hposted, Option.isSome_map]
  exact h

theorem finishes_orphans {cntl : Nat} (l : List (Nat × Sqe × Nat)) {s : State} (h : NMap.has s.nvq.ctrls cntl = true) :
    (l.foldl (fun s x => s.finish cntl x.1 x.2.1.cid 0 0 0 0) s).nvq.orphans = s.nvq.orphans ∧
      (l.foldl (fun s x => s.finish cntl x.1 x.2.1.cid 0 0 0 0) s).nvq.sqs = s.nvq.sqs := by
  induction l generalizing s with
  | nil => exact ⟨rfl, rfl⟩
  | cons x l ih =>
    obtain ⟨ho, hs⟩ := ih (finish_has h x.1 x.2.1.cid 0 0 0 0)
    exact ⟨ho.trans (finish_orphans h _ _ _ _ _ _), hs.trans (finish_sqs _ _ _ _ _ _ _ _)⟩

theorem settle_orphans {cntl : Nat} {s : State} (h : NMap.has s.nvq.ctrls cntl = true) (hs : Settled cntl s) :
    (s.settle cntl).nvq.orphans = s.nvq.orphans := by
  unfold State.settle
  split
  · rfl
  · rename_i c _
    obtain ⟨ho, hsqs⟩ := finishes_orphans (cntl := cntl) (readyFlushes [] c.outstanding) h
    have hnone : (((readyFlushes [] c.outstanding).foldl (fun s x => s.finish cntl x.1 x.2.1.cid 0 0 0 0) s).nvq.sqs.filter
        (fun p => p.2.cntl == cntl && p.2.deleting.isSome)) = [] := by
      rw [hsqs, List.filter_eq_nil_iff]
      intro p hp
      by_cases hcntl : p.2.cntl = cntl
      · simp [hs p hp hcntl]
      · simp [hcntl]
    dsimp only
    rw [hnone]
    exact ho

theorem complete_orphans {cntl : Nat} {s : State} (h : NMap.has s.nvq.ctrls cntl = true) (hs : Settled cntl s)
    (qid cid sct sc dw0 dw1 : Nat) : (s.complete cntl qid cid sct sc dw0 dw1).nvq.orphans = s.nvq.orphans :=
  (settle_orphans (finish_has h _ _ _ _ _ _) (Settled.of_sqs hs (finish_sqs _ _ _ _ _ _ _ _))).trans (finish_orphans h _ _ _ _ _ _)

/-- What an admin completion of a settled controller leaves: of the state all but the queues and what counts and records, and the
submission queues. -/
theorem completeAdmin_settled {cntl : Nat} {s : State} (h : Settled cntl s) (e : Sqe) (sct sc dw0 : Nat) :
    Frame 4259998 s (s.completeAdmin cntl e sct sc dw0) ∧ (s.completeAdmin cntl e sct sc dw0).nvq.sqs = s.nvq.sqs :=
  complete_settled 0 e.cid sct sc dw0 0 h

/-- An entry placed in a queue with room leaves. -/
theorem postCqe_sends {key : Nat} {c : Cqe} {q : Cq} {s : State} (hf : s.moor.fenced = false) (hq : NMap.find s.nvq.cqs key = some q)
    (hfull : q.full = false) (hheld : q.held = []) : Sends (.completion q.cntl q.qid c q.phase) s (s.postCqe key c) := by
  have hput : Sends (.completion q.cntl q.qid c q.phase) s
      ((s.updCq key (Cq.push s.time.now)).emit (.completion q.cntl q.qid c q.phase)) :=
    ⟨[_], emit_sends (s := s.updCq key (Cq.push s.time.now)) hf, List.mem_singleton.2 rfl⟩
  unfold State.postCqe
  rw [hq]
  dsimp only
  rw [hfull, hheld, if_neg (by simp)]
  unfold State.writeCqe
  rw [hq]
  exact sends_ite (sends_after hput (State.notifyCq_frame _ _)) hput

/-! ### Logs and Identify -/

section
variable {cntl : Nat} {e : Sqe} {x : Session} {y : State} (hroom : Room cntl 0 y) (hset : Settled cntl y)
  (hx : y.session? (y.ctrlSession cntl) = some x)
include hroom hset hx

/-- Data for the host, what a change of the controllers and of log C3h leaves, and a success. -/
theorem adminData_sent (d : List Byte) {z : State} (hz : Frame 128 (y.adminData cntl e d) z) (hcqs : z.nvq.cqs = y.nvq.cqs)
    (hsqs : z.nvq.sqs = y.nvq.sqs) (hctrl : NMap.has z.nvq.ctrls cntl = NMap.has y.nvq.ctrls cntl) :
    Answers cntl 0 e.cid 0 0 0 y (z.completeAdmin cntl e 0 0 0) ∧
      (∃ p, Queued (y.ctrlSession cntl) (z.completeAdmin cntl e 0 0 0) p ∧ p.opcode = 1 ∧ p.key = dkeyOf e ∧ p.offset = dofsOf e ∧
        p.payload = d.take 8192) ∧
      (z.completeAdmin cntl e 0 0 0).nvq.orphans = z.nvq.orphans := by
  have fdata := State.adminData_frame cntl e d y
  have hfenced : z.moor.fenced = y.moor.fenced := by rw [hz.moor (by decide), fdata.moor (by decide)]
  have hroomz : Room cntl 0 z := Room.congr hroom hcqs hctrl hfenced
  have hsetz : Settled cntl z := Settled.of_sqs hset hsqs
  refine ⟨answers_before fdata (answers_before hz (completeAdmin_answers hroomz)), ?_, complete_orphans hroomz.2.1 hsetz _ _ _ _ _ _⟩
  obtain ⟨p, hp, hop, -, hkey, hoff, hpay, -⟩ := remoteWrite_queued (queue := 0) (key := dkeyOf e) (offset := dofsOf e) (owner := .none)
    (fence := false) (bytes := d) hx
  refine ⟨p, queued_of_eq (s := z) (queued_of_eq hp ?_) ?_, hop, hkey, hoff, hpay⟩
  · exact session_of_frame hz (by decide) _
  · exact session_of_frame (completeAdmin_settled hsetz e 0 0 0).1 (by decide) _

end

/-- What reading a log lets end: its notices, where they are not kept, and log C3h's entries. -/
def logRead (cntl lid : Nat) (kept : Bool) (s : State) : State :=
  let s2 := if kept then s else s.clearNotices cntl lid
  if lid = 0xC3 then { s2 with nvq := { s2.nvq with orphans := [] } } else s2

theorem logRead_frame (cntl lid : Nat) (kept : Bool) (s : State) : Frame 128 s (logRead cntl lid kept s) := by
  unfold logRead
  dsimp only
  have hkept : Frame 128 s (if kept = true then s else s.clearNotices cntl lid) := .ite (fun _ => Frame.refl s) fun _ => State.clearNotices_frame _ _ _
  exact .ite (fun _ => Frame.set_nvq (by decide) (fun _ => rfl) (fun _ => rfl) hkept) fun _ => hkept

theorem logRead_nvq (cntl lid : Nat) (kept : Bool) (s : State) :
    (logRead cntl lid kept s).nvq.cqs = s.nvq.cqs ∧ (logRead cntl lid kept s).nvq.sqs = s.nvq.sqs ∧
      NMap.has (logRead cntl lid kept s).nvq.ctrls cntl = NMap.has s.nvq.ctrls cntl ∧
      (lid = 0xC3 → (logRead cntl lid kept s).nvq.orphans = []) := by
  have hhas : ∀ f, NMap.has (NMap.upd s.nvq.ctrls cntl f) cntl = NMap.has s.nvq.ctrls cntl := fun f => find_isSome_upd _ _ f _
  unfold logRead
  by_cases h : lid = 0xC3
  · cases kept
    · exact ⟨by rw [if_pos h]; rfl, by rw [if_pos h]; rfl, by rw [if_pos h]; exact hhas _, fun _ => by rw [if_pos h]⟩
    · exact ⟨by rw [if_pos h]; rfl, by rw [if_pos h]; rfl, by rw [if_pos h]; rfl, fun _ => by rw [if_pos h]⟩
  · cases kept
    · exact ⟨by rw [if_neg h]; rfl, by rw [if_neg h]; rfl, by rw [if_neg h]; exact hhas _, fun h' => absurd h' h⟩
    · exact ⟨by rw [if_neg h]; rfl, by rw [if_neg h]; rfl, by rw [if_neg h]; rfl, fun h' => absurd h' h⟩

/-- The dwords a Get Log Page asks for. -/
def logDwords (e : Sqe) : Nat := bits e.dw10 31 16 + bits e.dw11 15 0 * 65536 + 1

/-- The offset in a log that a Get Log Page asks for. -/
def logOffset (e : Sqe) : Nat := e.dw12.toNat + e.dw13.toNat * 2 ^ 32

theorem getLog_reads {cntl : Nat} {e : Sqe} {d : List Byte} {s : State} (hd : s.logPage (bits e.dw10 7 0) = some d)
    (halign : logOffset e % 4 = 0) (hlen : logOffset e ≤ d.length) :
    s.getLog cntl e = (logRead cntl (bits e.dw10 7 0) (bit e.dw10 15)
      (s.adminData cntl e ((d.drop (logOffset e)).take (4 * logDwords e)))).completeAdmin cntl e 0 0 0 := by
  have hgo : ¬ (logOffset e % 4 ≠ 0 ∨ d.length < logOffset e) := by omega
  unfold State.getLog
  dsimp only
  rw [hd]
  exact if_neg hgo

theorem identify_answers {cntl : Nat} {e : Sqe} {d : List Byte} {s : State}
    (hcns : bits e.dw10 7 0 ∈ [0x00, 0x01, 0x02, 0x03, 0x10, 0x11, 0x12, 0x13])
    (hd : s.identifyData cntl (bits e.dw10 7 0) e.nsid = some d) :
    s.identify cntl e = (s.adminData cntl e d).completeAdmin cntl e 0 0 0 := by
  unfold State.identify
  dsimp only
  rw [if_neg (by simp only [decide_eq_true hcns]; decide), hd]

/-! ### Abort -/

/-- An Abort that its tick admits, with the controller's count of Aborts moved on. -/
def aborting (cntl n : Nat) (s : State) : State := s.updCtrl cntl (fun c => { c with aborts := n + 1, abortTick := s.time.now })

theorem aborting_room {cntl c q n : Nat} {s : State} (h : Room c q s) : Room c q (aborting cntl n s) :=
  h.congr rfl (find_isSome_upd _ _ _ _) rfl

/-- The end of an Abort: dword 0 says whether a command was caught (R210). -/
def abortEnd (cntl : Nat) (e : Sqe) (s : State) : Option State → State
  | some caught => caught.completeAdmin cntl e 0 0 0
  | none => s.completeAdmin cntl e 0 0 1

/-- Fewer than four Aborts in this tick. -/
theorem abort_admitted {cntl : Nat} {c : Ctrl} {e : Sqe} {s : State} (hc : NMap.find s.nvq.ctrls cntl = some c)
    (hfew : c.abortTick ≠ s.time.now ∨ c.aborts < 4) :
    ∃ n, s.abort cntl e =
      abortEnd cntl e (aborting cntl n s) ((aborting cntl n s).caught cntl (bits e.dw10 15 0) (bits e.dw10 31 16)) := by
  have hn : ¬ 4 ≤ (if c.abortTick = s.time.now then c.aborts else 0) := by
    rcases hfew with h | h
    · rw [if_neg h]
      decide
    · split <;> omega
  refine ⟨if c.abortTick = s.time.now then c.aborts else 0, ?_⟩
  unfold State.abort
  rw [hc]
  dsimp only
  rw [if_neg hn]
  unfold abortEnd
  rfl

/-- What is noted of a caught command (R210). -/
def noteCaught (cntl qid cid : Nat) (s : State) : State := (s.raise Reg.NVQ_STATUS 8).record 0x6020 [cntl, qid, cid]

theorem noteCaught_frame (cntl qid cid : Nat) (s : State) : Frame 65566 s (noteCaught cntl qid cid s) :=
  Frame.comp (State.record_frame _ _ _) rfl (Frame.comp (State.raise_frame _ _ s) rfl (Frame.refl s))

theorem caught_held {cntl qid cid : Nat} {h : Held} {s : State} (hq : qid ≠ 0)
    (hh : s.adm.held.find? (fun h => h.cntl == cntl && h.qid == qid && h.cmd.cid == cid) = some h) :
    s.caught cntl qid cid = some (noteCaught cntl qid cid (s.endHeld h 0 0x07)) := by
  unfold State.caught
  dsimp only
  rw [if_neg hq, hh]
  rfl

theorem caught_none {cntl qid cid : Nat} {s : State}
    (hh : s.adm.held.find? (fun h => h.cntl == cntl && h.qid == qid && h.cmd.cid == cid) = none) (hr : s.rcmd? cntl qid cid = none) :
    s.caught cntl qid cid = none := by
  unfold State.caught
  dsimp only
  split
  · rfl
  · rw [hh, hr]

/-- A held command that is found is the one looked for. -/
theorem held_found {l : List Held} {cntl qid cid : Nat} {h : Held}
    (hh : l.find? (fun h => h.cntl == cntl && h.qid == qid && h.cmd.cid == cid) = some h) :
    h.cntl = cntl ∧ h.qid = qid ∧ h.cmd.cid = cid := by
  have := List.find?_some hh
  simp only [Bool.and_eq_true, beq_iff_eq] at this
  exact ⟨this.1.1, this.1.2, this.2⟩

/-- A held command of a settled controller that ends is answered, and leaves the list; nothing else is held or let go. -/
theorem endHeld_answers {cntl qid cid sct sc : Nat} {h : Held} {s : State} (hroom : Room cntl qid s) (hset : Settled cntl s)
    (h1 : h.cntl = cntl) (h2 : h.qid = qid) (h3 : h.cmd.cid = cid) :
    Answers cntl qid cid sct sc 0 s (s.endHeld h sct sc) ∧
      (s.endHeld h sct sc).adm = { s.adm with held := s.adm.held.filter (fun x => x != h) } ∧
      (s.endHeld h sct sc).nvq.sqs = s.nvq.sqs := by
  subst h1 h2 h3
  unfold State.endHeld
  dsimp only
  have hroom' : Room h.cntl h.qid { s with adm := { s.adm with held := s.adm.held.filter (fun x => x != h) } } := hroom.congr rfl rfl rfl
  have hset' : Settled h.cntl { s with adm := { s.adm with held := s.adm.held.filter (fun x => x != h) } } := hset
  have hbox : ({ s with adm := { s.adm with held := s.adm.held.filter (fun x => x != h) } } : State).outbox = s.outbox := rfl
  have hadm : ({ s with adm := { s.adm with held := s.adm.held.filter (fun x => x != h) } } : State).adm =
    { s.adm with held := s.adm.held.filter (fun x => x != h) } := rfl
  have hsqs : ({ s with adm := { s.adm with held := s.adm.held.filter (fun x => x != h) } } : State).nvq.sqs = s.nvq.sqs := rfl
  generalize ({ s with adm := { s.adm with held := s.adm.held.filter (fun x => x != h) } } : State) = y at hroom' hset' hbox hadm hsqs ⊢
  obtain ⟨f, hs⟩ := complete_settled h.qid h.cmd.cid sct sc 0 0 hset'
  obtain ⟨new, dw1, head, phase, hnew, hmem⟩ := complete_answers (cid := h.cmd.cid) (sct := sct) (sc := sc) (dw0 := 0) (dw1 := 0) hroom'
  exact ⟨⟨new, dw1, head, phase, by rw [hnew, hbox], hmem⟩, by rw [f.adm (by decide), hadm], hs.trans hsqs⟩

section
variable {cntl : Nat} {c : Ctrl} {e : Sqe} {y : State} (hset : Settled cntl y) (hc : NMap.find y.nvq.ctrls cntl = some c)
include hset hc

theorem abort_catches {h : Held} (hroom : Room cntl (bits e.dw10 15 0) y) (hfew : c.abortTick ≠ y.time.now ∨ c.aborts < 4)
    (hq : bits e.dw10 15 0 ≠ 0)
    (hh : y.adm.held.find? (fun h => h.cntl == cntl && h.qid == bits e.dw10 15 0 && h.cmd.cid == bits e.dw10 31 16) = some h) :
    Answers cntl (bits e.dw10 15 0) (bits e.dw10 31 16) 0 0x07 0 y (y.abort cntl e) ∧
      (y.abort cntl e).adm.held = y.adm.held.filter (fun x => x != h) := by
  obtain ⟨n, hn⟩ := abort_admitted (e := e) hc hfew
  obtain ⟨h1, h2, h3⟩ := held_found hh
  rw [hn, caught_held (s := aborting cntl n y) hq hh]
  unfold abortEnd
  obtain ⟨⟨new, dw1, head, phase, hnew, hmem⟩, hadm, hsqs⟩ :=
    endHeld_answers (sct := 0) (sc := 7) (aborting_room (cntl := cntl) (n := n) hroom) (show Settled cntl (aborting cntl n y) from hset) h1 h2 h3
  have fn := noteCaught_frame cntl (bits e.dw10 15 0) (bits e.dw10 31 16) ((aborting cntl n y).endHeld h 0 7)
  have hsettled : Settled cntl (noteCaught cntl (bits e.dw10 15 0) (bits e.dw10 31 16) ((aborting cntl n y).endHeld h 0 7)) :=
    Settled.of_sqs hset (by rw [fn.nvq (by decide), hsqs]; rfl)
  refine ⟨answers_after (answers_after ⟨new, dw1, head, phase, hnew, hmem⟩ fn) (State.completeAdmin_frame _ _ _ _ _ _), ?_⟩
  rw [(completeAdmin_settled hsettled e 0 0 0).1.adm (by decide), fn.adm (by decide), hadm]
  rfl

theorem abort_finds_nothing (hroom : Room cntl 0 y) (hfew : c.abortTick ≠ y.time.now ∨ c.aborts < 4)
    (hh : y.adm.held.find? (fun h => h.cntl == cntl && h.qid == bits e.dw10 15 0 && h.cmd.cid == bits e.dw10 31 16) = none)
    (hr : y.rcmd? cntl (bits e.dw10 15 0) (bits e.dw10 31 16) = none) :
    Answers cntl 0 e.cid 0 0 1 y (y.abort cntl e) ∧ (y.abort cntl e).adm = y.adm := by
  obtain ⟨n, hn⟩ := abort_admitted (e := e) hc hfew
  rw [hn, caught_none (s := aborting cntl n y) hh hr]
  unfold abortEnd
  obtain ⟨new, dw1, head, phase, hnew, hmem⟩ :=
    completeAdmin_answers (e := e) (sct := 0) (sc := 0) (dw0 := 1) (aborting_room (cntl := cntl) (n := n) hroom)
  exact ⟨⟨new, dw1, head, phase, hnew, hmem⟩,
    (completeAdmin_settled (show Settled cntl (aborting cntl n y) from hset) e 0 0 1).1.adm (by decide)⟩

end

/-! ### Event requests -/

section
variable {cntl : Nat} {c : Ctrl} {e : Sqe} {y : State} (hc : NMap.find y.nvq.ctrls cntl = some c)
include hc

theorem eventRequest_refused (hroom : Room cntl 0 y) (hmany : 4 ≤ c.aers.length) :
    Answers cntl 0 e.cid 1 0x05 0 y (y.eventRequest cntl e) := by
  unfold State.eventRequest
  rw [hc]
  dsimp only
  rw [if_pos hmany]
  exact completeAdmin_answers hroom

/-- The state with one more request waiting. -/
def eventRequested (cntl cid : Nat) (s : State) : State := s.updCtrl cntl (fun c => { c with aers := c.aers ++ [cid] })

theorem eventRequested_ctrl (cid : Nat) : NMap.find (eventRequested cntl cid y).nvq.ctrls cntl = some { c with aers := c.aers ++ [cid] } := by
  show NMap.find (NMap.upd y.nvq.ctrls cntl _) cntl = _
  rw [find_upd, if_pos rfl, hc]
  rfl

omit hc in
theorem eventRequested_outbox (cid : Nat) : (eventRequested cntl cid y).outbox = y.outbox := rfl

theorem eventRequest_queues (hfew : c.aers.length < 4) : y.eventRequest cntl e = (eventRequested cntl e.cid y).reportNotice cntl := by
  unfold State.eventRequest
  rw [hc]
  exact if_neg (by omega)

theorem eventRequest_waits (hfew : c.aers.length < 4) (hnone : c.notices.find? (fun n => !c.masked.contains n) = none) :
    y.eventRequest cntl e = eventRequested cntl e.cid y := by
  rw [eventRequest_queues hc hfew]
  unfold State.reportNotice
  rw [eventRequested_ctrl hc]
  dsimp only
  rw [hnone]
  cases c.aers <;> rfl

theorem eventRequest_reports {n : Nat} (hroom : Room cntl 0 y) (hnil : c.aers = [])
    (hn : c.notices.find? (fun n => !c.masked.contains n) = some n) : Answers cntl 0 e.cid 0 0 n y (y.eventRequest cntl e) := by
  have hroom' : Room cntl 0 (eventRequested cntl e.cid y) := hroom.congr rfl (find_isSome_upd _ _ _ _) rfl
  obtain ⟨hf, hctrl, k, q, hk, hq, hfull, hheld, h1, h2⟩ := hroom'
  have hkey : k = adminKey cntl := by
    unfold State.cqKey at hk
    rw [if_pos rfl] at hk
    split at hk
    · exact (Option.some.inj hk).symm
    · cases hk
  subst hkey
  rw [eventRequest_queues hc (by rw [hnil]; decide)]
  unfold State.reportNotice
  rw [eventRequested_ctrl hc]
  dsimp only
  rw [hnil, hn]
  dsimp only [List.nil_append]
  generalize hx : State.count (ctrQueue 0 1) _ = x
  have fx : Frame 144 (eventRequested cntl e.cid y) x := by
    rw [← hx]
    exact Frame.comp (State.count_frame _ _) rfl (Frame.set_nvq (by decide) (fun _ => rfl) (fun _ => rfl) (Frame.refl _))
  have hcqs : x.nvq.cqs = (eventRequested cntl e.cid y).nvq.cqs := by
    rw [← hx, count_nvq]
    rfl
  have hsends (head : Nat) := postCqe_sends (c := { cid := e.cid, sct := 0, sc := 0, dw0 := n, dw1 := 0, sqHead := head })
    (s := x) (by rw [fx.moor (by decide)]; exact hf) (by rw [hcqs]; exact hq) hfull hheld
  rw [h1, h2] at hsends
  obtain ⟨new, hnew, hmem⟩ := sends_after (hsends _) (State.emit_frame (.event cntl (n % 256) (n / 256 % 256) (n / 65536)) _)
  exact ⟨new, 0, _, q.phase, by rw [hnew, fx.outbox (by decide)]; rfl, hmem⟩

end

/-- Settles O35. -/
theorem logsIdentifyAbortAndEvents : Obligations.LogsIdentifyAbortAndEvents := by
  refine ⟨fun t cntl d x e s hr => ?_, fun t cntl d x e s hr => ?_, fun t cntl c e s hr => ?_, fun t cntl c e s hr => ?_⟩
  · intro y off hd halign hlen hx
    obtain ⟨hrun, hroom, hset⟩ := runs_admin (t := t) (always := true) (run := fun s => s.getLog cntl e) hr
    let data := (d.drop off).take (4 * logDwords e)
    have hnvq : (y.adminData cntl e data).nvq = y.nvq := (State.adminData_frame cntl e data y).nvq (by decide)
    obtain ⟨hcqs, hsqs, hctrl, hgone⟩ := logRead_nvq cntl (bits e.dw10 7 0) (bit e.dw10 15) (y.adminData cntl e data)
    rw [hnvq] at hcqs hsqs hctrl
    obtain ⟨hans, ⟨p, hp, hop, hkey, hoff, hpay⟩, horph⟩ :=
      adminData_sent hroom hset hx data (logRead_frame cntl (bits e.dw10 7 0) (bit e.dw10 15) _) hcqs hsqs hctrl
    have hnext := hrun.trans (getLog_reads hd halign hlen)
    exact ⟨_, p, congrArg Host.Outcome.next hnext, hans, hp, hop, hkey, hoff, hpay, fun h => horph.trans (hgone h)⟩
  · intro y hcns hd hx
    obtain ⟨hrun, hroom, hset⟩ := runs_admin (t := t) (always := true) (run := fun s => s.identify cntl e) hr
    have hnvq : (y.adminData cntl e d).nvq = y.nvq := (State.adminData_frame cntl e d y).nvq (by decide)
    obtain ⟨hans, ⟨p, hp, hop, hkey, hoff, hpay⟩, -⟩ := adminData_sent hroom hset hx d
      (Frame.refl _)
      (by rw [hnvq]) (by rw [hnvq]) (by rw [hnvq])
    exact ⟨_, p, congrArg Host.Outcome.next (hrun.trans (identify_answers hcns hd)), hans, hp, hop, hkey, hoff, hpay⟩
  · intro y hc hfew
    obtain ⟨hrun, hroom, hset⟩ := runs_admin (t := t) (always := true) (run := fun s => s.abort cntl e) hr
    refine ⟨fun h hq hready hh => ⟨_, congrArg Host.Outcome.next hrun, ?_⟩, fun hh hrc => ⟨_, congrArg Host.Outcome.next hrun, ?_⟩⟩
    · exact abort_catches hset hc (ready_room (ready_advanceTo hready)).fetched hfew hq hh
    · exact abort_finds_nothing hset hc hroom hfew hh hrc
  · intro y hc
    obtain ⟨hrun, hroom, -⟩ := runs_admin (t := t) (always := false) (run := fun s => s.eventRequest cntl e) hr
    refine ⟨fun hmany => ⟨_, congrArg Host.Outcome.next hrun, eventRequest_refused hc hroom hmany⟩, fun hfew hnone => ?_,
      fun n hnil hn => ⟨_, congrArg Host.Outcome.next hrun, eventRequest_reports hc hroom hnil hn⟩⟩
    exact ⟨_, congrArg Host.Outcome.next (hrun.trans (eventRequest_waits hc hfew hnone)), eventRequested_outbox e.cid, eventRequested_ctrl hc e.cid⟩

end Sys2Proof.Proofs
end

section
/-!
SUPPORT. Changes of the pair as a head applies them: which leave the queues alone, and how the command that asked for one ends.
-/

namespace Sys2Proof.Proofs

open Sys2Proof.Machine Sys2Proof.Safety Sys2Proof.Laws

/-- The queues and the controllers are as they were. -/
def QueuesKept (s u : State) : Prop := u.nvq.ctrls = s.nvq.ctrls ∧ u.nvq.sqs = s.nvq.sqs ∧ u.nvq.cqs = s.nvq.cqs

theorem QueuesKept.refl (s : State) : QueuesKept s s := ⟨rfl, rfl, rfl⟩

theorem QueuesKept.trans {s x u : State} (a : QueuesKept x u) (b : QueuesKept s x) : QueuesKept s u :=
  ⟨a.1.trans b.1, a.2.1.trans b.2.1, a.2.2.trans b.2.2⟩

theorem QueuesKept.of_frame {m : Nat} {s u : State} (f : Frame m s u) (h : m.testBit 7 = false) : QueuesKept s u := by
  have e := f.nvq h
  exact ⟨by rw [e], by rw [e], by rw [e]⟩

theorem QueuesKept.of_marked {s u : State} (h : Marked s u) : QueuesKept s u := by
  obtain ⟨ns, e, -⟩ := h
  exact ⟨by rw [e], by rw [e], by rw [e]⟩

theorem QueuesKept.foldl {α : Type} {f : State → α → State} (hf : ∀ x a, QueuesKept x (f x a)) (l : List α) (s : State) :
    QueuesKept s (l.foldl f s) := by
  induction l generalizing s with
  | nil => exact .refl s
  | cons a l ih => exact .trans (ih _) (hf s a)

theorem QueuesKept.ite {c : Prop} [Decidable c] {s a b : State} (ha : c → QueuesKept s a) (hb : ¬ c → QueuesKept s b) :
    QueuesKept s (if c then a else b) := by
  split
  · exact ha ‹_›
  · exact hb ‹_›

theorem QueuesKept.record {s u : State} (h : QueuesKept s u) (code : Nat) (data : List Nat) : QueuesKept s (u.record code data) :=
  .trans (.of_frame (State.record_frame code data u) (by decide)) h

theorem room_queuesKept {cntl qid : Nat} {s u : State} (h : Room cntl qid s) (hk : QueuesKept s u) (hf : u.moor.fenced = s.moor.fenced) :
    Room cntl qid u := h.congr hk.2.2 (by rw [hk.1]) hf

theorem settled_queuesKept {cntl : Nat} {s u : State} (h : Settled cntl s) (hk : QueuesKept s u) : Settled cntl u := Settled.of_sqs h hk.2.1

/-! ### The parts of a change -/

theorem updNs_queuesKept (v : Nat) (f : Ns → Ns) (s : State) : QueuesKept s (s.updNs v f) := ⟨rfl, rfl, rfl⟩

theorem defineSnap_queuesKept (vol id tick epoch next : Nat) (repl : Bool) (s : State) :
    QueuesKept s (s.defineSnap vol id tick epoch next repl) :=
  .trans (updNs_queuesKept _ _ _) (.of_frame (State.addRefs_frame _ s) (by decide))

theorem takeSnap_queuesKept (vol id : Nat) (repl : Bool) (s : State) : QueuesKept s (s.takeSnap vol id repl) := by
  unfold State.takeSnap
  split
  · exact .refl s
  · exact .trans (.of_marked (snapsReady_marked _ _)) (defineSnap_queuesKept _ _ _ _ _ _ s)

theorem dropReplSnaps_queuesKept (vol : Nat) (used : List Nat) (s : State) : QueuesKept s (s.dropReplSnaps vol used) := by
  unfold State.dropReplSnaps
  split
  · exact .refl s
  · exact .foldl (fun x a => updNs_queuesKept _ _ x) _ s

theorem makeClone_queuesKept (vol id nv : Nat) (ro : Bool) (s : State) : QueuesKept s (s.makeClone vol id nv ro) := by
  unfold State.makeClone
  split
  · exact .refl s
  · dsimp only
    generalize hx : (if ro = true then _ else _ : State) = x
    have hkept : QueuesKept s x := by
      rw [← hx]
      exact .ite (fun _ => .trans (updNs_queuesKept _ _ _) ⟨rfl, rfl, rfl⟩) fun _ => ⟨rfl, rfl, rfl⟩
    exact .ite (fun _ => .trans (.of_marked (openClones_marked _ _ _)) hkept) fun _ => hkept

theorem dropVol_queuesKept (vol : Nat) (s : State) : QueuesKept s (s.dropVol vol) := by
  unfold State.dropVol
  split
  · exact .refl s
  · rename_i n _
    have hopen : QueuesKept s (n.snaps.foldl (fun (s : State) p => s.openClones vol p.1) s) :=
      .foldl (fun x (p : Nat × Snap) => .of_marked (openClones_marked vol p.1 x)) _ s
    have hrefs (l : List (Nat × NMap MapEnt)) (x : State) : QueuesKept x (l.foldl (fun (s : State) p => s.releaseRefs p.2) x) :=
      .foldl (fun y (p : Nat × NMap MapEnt) => .of_frame (State.releaseRefs_frame p.2 y) (by decide)) _ x
    have hrel (m : NMap MapEnt) (x : State) : QueuesKept x (x.releaseRefs m) := .of_frame (State.releaseRefs_frame m x) (by decide)
    have hslot (k : Nat) (x : State) : QueuesKept x (x.unrefSlot k) := .of_frame (State.unrefSlot_frame k x) (by decide)
    dsimp only
    exact .trans (x := State.unrefSlot n.keyslot _) ⟨rfl, rfl, rfl⟩ (.trans (hslot _ _) (.trans (hrefs _ _) (.trans (hrel _ _) hopen)))

theorem deleteVol_queuesKept (vol : Nat) (s : State) : QueuesKept s (s.deleteVol vol) :=
  .trans (.foldl (fun x (p : Nat × Ns) => dropVol_queuesKept p.1 x) _ _) (dropVol_queuesKept vol s)

/-! ### A change that is applied -/

/-- A cut of the budget, which raises notices (R73). -/
def isCut : PairChange → Bool
  | .resvCut _ _ _ => true
  | _ => false

/-- Applying a change leaves the queues and the controllers alone. -/
theorem applyChange_queuesKept {c : PairChange} (hc : isCut c = false) (home : Bool) (dqn cntl pushSz : Nat) (s : State) :
    QueuesKept s (s.applyChange c home dqn cntl pushSz).2 := by
  have hrec (x : State) (code : Nat) (data : List Nat) (h : QueuesKept s x) : QueuesKept s (if home = true then x.record code data else x) :=
    .ite (fun _ => h.record code data) fun _ => h
  cases c with
  | resvCreate i rate burst d pull =>
    unfold State.applyChange
    dsimp only
    generalize hp : (if (home && !pull) = true then s.newPush cntl pushSz else (0, s)) = p
    have hpush : QueuesKept s p.2 := by
      rw [← hp]
      split
      · exact .of_frame (State.newPush_frame cntl pushSz s) (by decide)
      · exact .refl s
    exact hrec _ _ _ (.trans (.of_frame (State.putResv_frame _ _ p.2) (by decide)) hpush)
  | resvChange i rate burst d => exact hrec _ _ _ ⟨rfl, rfl, rfl⟩
  | resvCut i rate burst => cases hc
  | resvDelete i =>
    refine QueuesKept.ite (fun _ => .of_frame (State.dropResv_frame i s) (by decide)) fun _ => ⟨rfl, rfl, rfl⟩
  | nsCreate vol lbaf units ks yours =>
    refine QueuesKept.ite (fun _ => .refl s) fun _ => .trans (.of_frame (State.tableEntry_frame _ _ _) (by decide)) ⟨rfl, rfl, rfl⟩
  | nsDelete vol => exact deleteVol_queuesKept vol s
  | snapCreate vol id => exact hrec _ _ _ (takeSnap_queuesKept vol id false s)
  | snapDelete vol id => exact hrec _ _ _ ⟨rfl, rfl, rfl⟩
  | snapClone vol id nv ro => exact hrec _ _ _ (makeClone_queuesKept vol id nv ro s)
  | linkCreate i vol mode interval d => exact hrec _ _ _ ⟨rfl, rfl, rfl⟩
  | linkDelete i =>
    refine hrec _ _ _ ?_
    cases NMap.find s.repl.links i with
    | none => exact ⟨rfl, rfl, rfl⟩
    | some l => exact .trans (dropReplSnaps_queuesKept _ _ _) ⟨rfl, rfl, rfl⟩
  | targetAdd i d =>
    unfold State.applyChange
    dsimp only
    split <;> exact ⟨rfl, rfl, rfl⟩
  | targetRemove i j => exact ⟨rfl, rfl, rfl⟩
  | keyLoad slot owner k1 k2 => exact ⟨rfl, rfl, rfl⟩
  | keyClear slot => exact ⟨rfl, rfl, rfl⟩
  | dedupPolicy vol mode =>
    exact hrec _ _ _ (.ite (fun _ => ⟨rfl, rfl, rfl⟩) fun _ => ⟨rfl, rfl, rfl⟩)
  | compPolicy vol mode w l => exact hrec _ _ _ ⟨rfl, rfl, rfl⟩
  | snapDef vol id tick epoch next repl =>
    exact .ite (fun _ => defineSnap_queuesKept _ _ _ _ _ _ s) fun _ => .refl s

theorem applyChange_fenced (c : PairChange) (home : Bool) (dqn cntl pushSz : Nat) (s : State) :
    (s.applyChange c home dqn cntl pushSz).2.moor.fenced = s.moor.fenced :=
  (State.applyChange_frame c home dqn cntl pushSz s).moorKept (by decide) (·.fenced) fun _ => rfl

/-! ### How its command ends -/

/-- A change of a key slot, whose command is not the host's (R334). -/
def isKeyChange : PairChange → Bool
  | .keyLoad _ _ _ _ | .keyClear _ => true
  | _ => false

/-- The queue a change of a reservation concerns. -/
def changeDqn (c : PairChange) (cntl : Nat) (e : Sqe) (s : State) : Nat :=
  match c with
  | .resvChange i _ _ _ => ((NMap.find s.adm.resv i).map (·.dqn)).getD 0
  | _ => (s.queueKey cntl (c0Qid e)).getD 0

/-- A change applied at the head whose command asked for it, with its completion dwords. -/
def applied (c : PairChange) (cntl : Nat) (e : Sqe) (s : State) : (Nat × Nat) × State :=
  s.applyChange c true (changeDqn c cntl e s) cntl (c0PushSz e)

theorem settleChange_applied (c : PairChange) (cntl : Nat) (e : Sqe) (s : State) :
    s.settleChange c cntl e = (applied c cntl e s).2.endAgreed c cntl e (applied c cntl e s).1 := by
  cases c with
  | resvChange i rate burst d =>
    unfold State.settleChange applied changeDqn
    dsimp only
    cases NMap.find s.adm.resv i <;> rfl
  | _ => rfl

theorem endAgreed_completes {c : PairChange} (hk : isKeyChange c = false) (cntl : Nat) (e : Sqe) (dws : Nat × Nat) (s : State) :
    s.endAgreed c cntl e dws = s.complete cntl 0 e.cid 0 0 dws.1 dws.2 := by
  cases c with
  | keyLoad => cases hk
  | keyClear => cases hk
  | _ => rfl

/-- A host's change that is applied ends its command with a success. -/
theorem settleChange_answers {c : PairChange} {cntl : Nat} {e : Sqe} {s : State} (hcut : isCut c = false) (hk : isKeyChange c = false)
    (hroom : Room cntl 0 s) (hset : Settled cntl s) :
    Answers cntl 0 e.cid 0 0 (applied c cntl e s).1.1 s (s.settleChange c cntl e) ∧
      Frame 4259998 (applied c cntl e s).2 (s.settleChange c cntl e) := by
  have hkept : QueuesKept s (applied c cntl e s).2 := applyChange_queuesKept hcut _ _ _ _ s
  have hfenced : (applied c cntl e s).2.moor.fenced = s.moor.fenced := applyChange_fenced c _ _ _ _ s
  have fapp : Frame 1332518024158 s (applied c cntl e s).2 := State.applyChange_frame c _ _ _ _ s
  rw [settleChange_applied, endAgreed_completes hk]
  exact ⟨answers_before fapp (complete_answers (room_queuesKept hroom hkept hfenced)),
    (complete_settled 0 e.cid 0 0 _ _ (settled_queuesKept hset hkept)).1⟩

/-- The state with a change kept for the partner's return (R265). -/
def withChange (c : PairChange) (s : State) : State := { s with moor := { s.moor with changes := s.moor.changes ++ [mirrorChange c] } }

/-- A host's change at a head without a partner takes effect at once (R62, R265). -/
theorem propose_settles {c : PairChange} {cntl : Nat} {e : Sqe} {s : State} (hcut : isCut c = false) (hk : isKeyChange c = false)
    (hm : s.mirrors = false) (hroom : Room cntl 0 s) (hset : Settled cntl s) :
    Answers cntl 0 e.cid 0 0 (applied c cntl e (withChange c s)).1.1 s (s.propose c cntl e) ∧
      Frame 4259998 (applied c cntl e (withChange c s)).2 (s.propose c cntl e) := by
  have hroom' : Room cntl 0 (withChange c s) := hroom.congr rfl rfl rfl
  have hset' : Settled cntl (withChange c s) := hset
  have hbox : (withChange c s).outbox = s.outbox := rfl
  rw [propose_applies hm]
  change Answers _ _ _ _ _ _ s (State.settleChange c cntl e (withChange c s)) ∧ Frame _ _ (State.settleChange c cntl e (withChange c s))
  generalize withChange c s = y at hroom' hset' hbox ⊢
  obtain ⟨⟨new, dw1, head, phase, hnew, hmem⟩, f⟩ := settleChange_answers (e := e) hcut hk hroom' hset'
  exact ⟨⟨new, dw1, head, phase, by rw [hnew, hbox], hmem⟩, f⟩

end Sys2Proof.Proofs
end

section
/-!
SUPPORT. The features: what a command that sets one leaves, and how one is answered.
-/

namespace Sys2Proof.Proofs

open Sys2Proof.Machine Sys2Proof.Safety Sys2Proof.Laws

/-- A change of one controller that leaves its list alone. -/
theorem updCtrl_room {cntl c q : Nat} {f : Ctrl → Ctrl} {s : State} (h : Room c q s) : Room c q (s.updCtrl cntl f) :=
  h.congr rfl (find_isSome_upd _ _ _ _) rfl

theorem answers_of_outbox {cntl qid cid sct sc dw0 : Nat} {s x u : State} (h : Answers cntl qid cid sct sc dw0 x u) (e : x.outbox = s.outbox) :
    Answers cntl qid cid sct sc dw0 s u := by
  obtain ⟨new, dw1, head, phase, hnew, hmem⟩ := h
  exact ⟨new, dw1, head, phase, by rw [hnew, e], hmem⟩

/-- The state with other thresholds of the composite temperature. -/
def withThresholds (hi lo : Nat) (s : State) : State := { s with nvq := { s.nvq with tempOver := hi, tempUnder := lo } }

section
variable {cntl : Nat} {e : Sqe} {y : State} (hroom : Room cntl 0 y) (hset : Settled cntl y)
include hroom hset

/-- A quantity of the commanding controller that was set stands after the answer. -/
theorem setCtrl_answers {β : Type} {f : Ctrl → Ctrl} (g : Ctrl → β) {b : β} (hf : ∀ c, g (f c) = b)
    (hg : ∀ (c : Ctrl) (l : List (Nat × Sqe × Nat)), g { c with outstanding := l } = g c) :
    Answers cntl 0 e.cid 0 0 0 y ((y.updCtrl cntl f).completeAdmin cntl e 0 0 0) ∧
      ∃ c, NMap.find ((y.updCtrl cntl f).completeAdmin cntl e 0 0 0).nvq.ctrls cntl = some c ∧ g c = b := by
  refine ⟨answers_of_outbox (completeAdmin_answers (updCtrl_room hroom)) rfl, ?_⟩
  have hkept := (complete_posted (g := fun _ : Cq => ()) (fun _ _ _ _ _ _ => rfl) hg 0 e.cid 0 0 0 0
    (show Settled cntl (y.updCtrl cntl f) from hset)).2 cntl
  obtain ⟨c, hc⟩ := Option.isSome_iff_exists.1 (show (NMap.find y.nvq.ctrls cntl).isSome = true from hroom.2.1)
  have hupd : NMap.find (y.updCtrl cntl f).nvq.ctrls cntl = some (f c) := by
    show NMap.find (NMap.upd y.nvq.ctrls cntl f) cntl = _
    rw [find_upd, if_pos rfl, hc]
    rfl
  rw [hupd, Option.map_some, hf] at hkept
  exact Option.map_eq_some_iff.1 hkept

/-- A composite temperature threshold that was set stands after the answer. -/
theorem setThreshold_answers (hi lo : Nat) :
    Answers cntl 0 e.cid 0 0 0 y ((withThresholds hi lo y).completeAdmin cntl e 0 0 0) ∧
      ((withThresholds hi lo y).completeAdmin cntl e 0 0 0).nvq.tempOver = hi ∧
      ((withThresholds hi lo y).completeAdmin cntl e 0 0 0).nvq.tempUnder = lo := by
  have hroomz : Room cntl 0 (withThresholds hi lo y) := hroom.congr rfl rfl rfl
  have f := (completeAdmin_settled (show Settled cntl (withThresholds hi lo y) from hset) e 0 0 0).1
  exact ⟨answers_of_outbox (completeAdmin_answers hroomz) rfl, f.nvqKept (by decide) (·.tempOver) fun _ => rfl,
    f.nvqKept (by decide) (·.tempUnder) fun _ => rfl⟩

/-- The hold limit set is the queue's (R72), where nothing held is past it. -/
theorem setHoldLimit_answers {key : Nat} {q : Sq} (hid : bits e.dw11 15 0 ≠ 0) (hkey : y.queueKey cntl (bits e.dw11 15 0) = some key)
    (hq : NMap.find y.nvq.sqs key = some q) (hheld : ∀ h ∈ y.adm.held, h.dqn ≠ key) (hrelay : y.moor.relayHeld = []) :
    Answers cntl 0 e.cid 0 0 0 y (y.setHoldLimit cntl e) ∧
      NMap.find (y.setHoldLimit cntl e).nvq.sqs key = some { q with holdLimit := e.dw12.toNat } := by
  let z := y.updSq key (fun q => { q with holdLimit := e.dw12.toNat })
  have hnone : z.adm.held.filter (fun h => h.dqn == key && z.pastLimit h) = [] :=
    List.filter_eq_nil_iff.2 fun h hh => by simp [hheld h hh]
  have hrun : y.setHoldLimit cntl e = z.completeAdmin cntl e 0 0 0 := by
    unfold State.setHoldLimit
    rw [if_neg hid, hkey]
    dsimp only
    rw [hnone, List.foldl_nil, show (y.updSq key (fun q => { q with holdLimit := e.dw12.toNat })).moor.relayHeld = [] from hrelay]
    rfl
  have hsetz : Settled cntl z := by
    intro p hp hcntl
    rcases mem_upd hp with hp | ⟨a, ha, rfl⟩
    · exact hset p hp hcntl
    · exact hset (_, a) ha hcntl
  rw [hrun]
  refine ⟨answers_of_outbox (completeAdmin_answers (hroom.congr rfl rfl rfl)) rfl, ?_⟩
  rw [(completeAdmin_settled hsetz e 0 0 0).2]
  show NMap.find (NMap.upd y.nvq.sqs key _) key = _
  rw [find_upd, if_pos rfl, hq]
  rfl

/-- What is answered after steps that leave the queues alone keeps the namespaces of those steps. -/
theorem completeAdmin_ns {z : State} {m : Nat} (f : Frame m y z) (hk : QueuesKept y z) (hf : z.moor.fenced = y.moor.fenced) (v : Nat) :
    Answers cntl 0 e.cid 0 0 0 y (z.completeAdmin cntl e 0 0 0) ∧ (z.completeAdmin cntl e 0 0 0).ns? v = z.ns? v := by
  refine ⟨answers_before f (completeAdmin_answers (room_queuesKept hroom hk hf)), ?_⟩
  unfold State.ns?
  rw [(completeAdmin_settled (settled_queuesKept hset hk) e 0 0 0).1.ns (by decide)]

/-- The compression policy set is the namespace's (R99). -/
theorem setCompression_answers {n : Ns} (hn : y.featureNs e.nsid = some n) (hmode : bits e.dw11 1 0 ≠ 3)
    (hfixed : bits e.dw11 1 0 = 2 → 8 ≤ bits e.dw11 8 4 ∧ bits e.dw11 8 4 ≤ 18 ∧ bits e.dw12 15 0 ≠ 0) :
    Answers cntl 0 e.cid 0 0 0 y (y.setCompression cntl e) ∧
      (y.setCompression cntl e).ns? (volOf e.nsid) = some { n with
        cmode := bits e.dw11 1 0, cw := (if bits e.dw11 1 0 = 2 then bits e.dw11 8 4 else 0),
        cl := (if bits e.dw11 1 0 = 2 then bits e.dw12 15 0 else 0) } := by
  have hgo : ¬ (bits e.dw11 1 0 = 3 ∨ (bits e.dw11 1 0 = 2 ∧ (bits e.dw11 8 4 < 8 ∨ 18 < bits e.dw11 8 4 ∨ bits e.dw12 15 0 = 0))) := by
    rintro (h | ⟨h, h'⟩)
    · exact hmode h
    · have := hfixed h
      omega
  generalize hw : (if bits e.dw11 1 0 = 2 then bits e.dw11 8 4 else 0) = w
  generalize hl : (if bits e.dw11 1 0 = 2 then bits e.dw12 15 0 else 0) = l
  generalize hmd : bits e.dw11 1 0 = mode at hgo hw hl
  let x := y.updNs (volOf e.nsid) (fun n => { n with cmode := mode, cw := w, cl := l })
  let r := x.record 0x5001 [volOf e.nsid, mode, w, l]
  let z := r.tellPartner (.compPolicy (volOf e.nsid) mode w l)
  have hrun : y.setCompression cntl e = z.completeAdmin cntl e 0 0 0 := by
    unfold State.setCompression
    dsimp only
    rw [hn, hmd]
    dsimp only
    rw [if_neg hgo, hw, hl]
  have fr : Frame 65566 x r := State.record_frame _ _ x
  have ft : Frame 2151686144 r z := State.tellPartner_frame _ r
  have hfenced : z.moor.fenced = y.moor.fenced := by
    have htell : z.moor.fenced = r.moor.fenced := by
      show (State.tellPartner _ r).moor.fenced = _
      unfold State.tellPartner
      split
      · rw [(State.emit_frame _ r).moor (by decide)]
      · rfl
    rw [htell, fr.moor (by decide)]
    rfl
  obtain ⟨hans, hns⟩ := completeAdmin_ns (e := e) hroom hset
    (Frame.comp (m := 1102737121438) ft rfl (Frame.comp fr rfl (Frame.comp (State.updNs_frame _ _ y) rfl (Frame.refl y))))
    (.trans (.of_frame ft (by decide)) (.trans (.of_frame fr (by decide)) (updNs_queuesKept _ _ y))) hfenced (volOf e.nsid)
  rw [hrun]
  refine ⟨hans, hns.trans ?_⟩
  unfold State.ns?
  rw [ft.nvq (by decide), fr.nvq (by decide)]
  show NMap.find (NMap.upd y.nvq.ns (volOf e.nsid) _) (volOf e.nsid) = _
  rw [find_upd, if_pos rfl, show NMap.find y.nvq.ns (volOf e.nsid) = some n from featureNs_ns hn]
  rfl

/-- A dedup policy at a head without a partner is in force at once (R119, R265). -/
theorem proposeDedup_settles {v mode : Nat} {n : Ns} (hm : y.mirrors = false) (hn : y.ns? v = some n) :
    Answers cntl 0 e.cid 0 0 0 y (y.propose (.dedupPolicy v mode) cntl e) ∧
      (y.propose (.dedupPolicy v mode) cntl e).ns? v = some { n with dedup := mode } := by
  obtain ⟨hans, f⟩ := propose_settles (c := .dedupPolicy v mode) (e := e) rfl rfl hm hroom hset
  refine ⟨hans, ?_⟩
  unfold State.ns? at hn ⊢
  rw [f.ns (by decide)]
  have hnvq : (applied (.dedupPolicy v mode) cntl e (withChange (.dedupPolicy v mode) y)).2.nvq =
      { y.nvq with ns := NMap.upd y.nvq.ns v (fun n => { n with dedup := mode }) } := by
    refine ((State.record_frame _ _ _).nvq (by decide)).trans ?_
    split <;> rfl
  rw [hnvq]
  show NMap.find (NMap.upd y.nvq.ns v _) v = _
  rw [find_upd, if_pos rfl, hn]
  rfl

end

theorem setDedup_proposes {cntl : Nat} {e : Sqe} {n : Ns} {s : State} (hn : s.featureNs e.nsid = some n) (hmode : bits e.dw11 1 0 ≠ 3)
    (hfits : bits e.dw11 1 0 = 2 → s.inlineFits = true) : s.setDedup cntl e = s.propose (.dedupPolicy (volOf e.nsid) (bits e.dw11 1 0)) cntl e := by
  have hgo : ¬ ((bits e.dw11 1 0 = 2 && !s.inlineFits) = true) := by
    simp only [Bool.and_eq_true, decide_eq_true_eq, Bool.not_eq_true', not_and, Bool.not_eq_false]
    exact hfits
  unfold State.setDedup
  dsimp only
  rw [hn]
  dsimp only
  rw [if_neg hmode, if_neg hgo]

theorem setDedup_refused {cntl : Nat} {e : Sqe} {n : Ns} {s : State} (hn : s.featureNs e.nsid = some n) (hmode : bits e.dw11 1 0 = 2)
    (hfits : s.inlineFits = false) : s.setDedup cntl e = s.completeAdmin cntl e 7 0x80 4 := by
  unfold State.setDedup
  dsimp only
  rw [hn, hmode]
  dsimp only
  rw [if_neg (by decide), if_pos (by simp [hfits])]

section
variable {cntl : Nat} {e : Sqe} {s : State}

theorem setFeature_arbitration (h : bits e.dw10 7 0 = 0x01) :
    s.setFeature cntl e = (s.updCtrl cntl (fun c => { c with arb := bits e.dw11 2 0 })).completeAdmin cntl e 0 0 0 := by
  unfold State.setFeature
  rw [h]
  rfl

theorem setFeature_coalescing (h : bits e.dw10 7 0 = 0x08) :
    s.setFeature cntl e = (s.updCtrl cntl (fun c => { c with coalesce := bits e.dw11 15 0 })).completeAdmin cntl e 0 0 0 := by
  unfold State.setFeature
  rw [h]
  rfl

theorem setFeature_events (h : bits e.dw10 7 0 = 0x0B) :
    s.setFeature cntl e = (s.updCtrl cntl (fun c => { c with aerConf := e.dw11.toNat })).completeAdmin cntl e 0 0 0 := by
  unfold State.setFeature
  rw [h]
  rfl

theorem setFeature_over (h : bits e.dw10 7 0 = 0x04) (hsel : bits e.dw11 19 16 = 0) (hth : bits e.dw11 21 20 = 0) :
    s.setFeature cntl e = (withThresholds (bits e.dw11 15 0) s.nvq.tempUnder s).completeAdmin cntl e 0 0 0 := by
  unfold State.setFeature State.setTemp
  dsimp only
  rw [h, hth, if_neg (by simp [hsel])]
  rfl

theorem setFeature_under (h : bits e.dw10 7 0 = 0x04) (hsel : bits e.dw11 19 16 = 0) (hth : bits e.dw11 21 20 = 1) :
    s.setFeature cntl e = (withThresholds s.nvq.tempOver (bits e.dw11 15 0) s).completeAdmin cntl e 0 0 0 := by
  unfold State.setFeature State.setTemp
  dsimp only
  rw [h, hth, if_neg (by simp [hsel])]
  rfl

end

section
variable {cntl : Nat} {e : Sqe} {y : State} (hroom : Room cntl 0 y) (hset : Settled cntl y) (hfid : bits e.dw10 7 0 = 0x04)
  (hsel : bits e.dw11 19 16 = 0)
include hroom hset hfid hsel

theorem setFeature_over_answers (hth : bits e.dw11 21 20 = 0) :
    Answers cntl 0 e.cid 0 0 0 y (y.setFeature cntl e) ∧ (y.setFeature cntl e).nvq.tempOver = bits e.dw11 15 0 ∧
      (y.setFeature cntl e).nvq.tempUnder = y.nvq.tempUnder := by
  rw [setFeature_over hfid hsel hth]
  exact setThreshold_answers hroom hset _ _

theorem setFeature_under_answers (hth : bits e.dw11 21 20 = 1) :
    Answers cntl 0 e.cid 0 0 0 y (y.setFeature cntl e) ∧ (y.setFeature cntl e).nvq.tempOver = y.nvq.tempOver ∧
      (y.setFeature cntl e).nvq.tempUnder = bits e.dw11 15 0 := by
  rw [setFeature_under hfid hsel hth]
  exact setThreshold_answers hroom hset _ _

end

/-- A feature that the device does not have. -/
theorem setFeature_unknown {cntl : Nat} {e : Sqe} {s : State} (h : bits e.dw10 7 0 ∉ [0x01, 0x04, 0x07, 0x08, 0x0B, 0xC0, 0xC1, 0xC2]) :
    s.setFeature cntl e = s.completeAdmin cntl e 0 0x02 0 := by
  simp only [List.mem_cons, List.not_mem_nil, or_false, not_or] at h
  obtain ⟨h1, h4, h7, h8, hB, h0, hC1, hC2⟩ := h
  unfold State.setFeature
  split
  · exact absurd ‹_› h1
  · exact absurd ‹_› h4
  · exact absurd ‹_› h7
  · exact absurd ‹_› h8
  · exact absurd ‹_› hB
  · exact absurd ‹_› h0
  · exact absurd ‹_› hC1
  · exact absurd ‹_› hC2
  · rfl

section
variable {cntl : Nat} {e : Sqe} {y : State} (hroom : Room cntl 0 y)
include hroom

theorem getFeature_current_answers {d0 d1 : Nat} (hv : y.featureValue cntl e = .ok (d0, d1)) (hsel : bits e.dw10 10 8 = 0) :
    Answers cntl 0 e.cid 0 0 d0 y (y.getFeature cntl e) := by
  have hrun : y.getFeature cntl e = y.complete cntl 0 e.cid 0 0 d0 d1 := by
    unfold State.getFeature
    dsimp only
    rw [hv, hsel]
    rfl
  rw [hrun]
  exact complete_answers hroom

theorem getFeature_error_answers {sc : Nat} (hv : y.featureValue cntl e = .error sc) :
    Answers cntl 0 e.cid 0 sc 0 y (y.getFeature cntl e) := by
  unfold State.getFeature
  dsimp only
  rw [hv]
  exact completeAdmin_answers hroom

end

/-- Settles O36. -/
theorem featuresAreSetAndRead : Obligations.FeaturesAreSetAndRead := by
  refine ⟨fun t cntl e s hr => ?_, fun t cntl key q e s hr => ?_, fun t cntl n e s hr => ?_, fun t cntl n e s hr => ?_,
    fun t cntl d0 d1 sc e s hr => ?_⟩
  · intro y
    obtain ⟨hrun, hroom, hset⟩ := runs_admin (t := t) (always := false) (run := State.setFeature cntl e) hr
    have hkept : y.nvq.tempOver = s.nvq.tempOver ∧ y.nvq.tempUnder = s.nvq.tempUnder :=
      ⟨(fetched_advanceTo_frame t cntl 0 e s).nvqKept (by decide) (·.tempOver) fun _ => rfl,
        (fetched_advanceTo_frame t cntl 0 e s).nvqKept (by decide) (·.tempUnder) fun _ => rfl⟩
    refine ⟨fun hfid => ?_, fun hfid => ?_, fun hfid => ?_, fun hfid hsel => ⟨fun hth => ?_, fun hth => ?_⟩, fun hfid => ?_⟩
    · obtain ⟨hans, c, hc⟩ := setCtrl_answers (e := e) (f := fun c => { c with arb := bits e.dw11 2 0 }) (b := bits e.dw11 2 0)
        hroom hset (·.arb) (fun _ => rfl) (fun _ _ => rfl)
      exact ⟨_, c, congrArg Host.Outcome.next (hrun.trans (setFeature_arbitration hfid)), hans, hc⟩
    · obtain ⟨hans, c, hc⟩ := setCtrl_answers (e := e) (f := fun c => { c with coalesce := bits e.dw11 15 0 }) (b := bits e.dw11 15 0)
        hroom hset (·.coalesce) (fun _ => rfl) (fun _ _ => rfl)
      exact ⟨_, c, congrArg Host.Outcome.next (hrun.trans (setFeature_coalescing hfid)), hans, hc⟩
    · obtain ⟨hans, c, hc⟩ := setCtrl_answers (e := e) (f := fun c => { c with aerConf := e.dw11.toNat }) (b := e.dw11.toNat)
        hroom hset (·.aerConf) (fun _ => rfl) (fun _ _ => rfl)
      exact ⟨_, c, congrArg Host.Outcome.next (hrun.trans (setFeature_events hfid)), hans, hc⟩
    · obtain ⟨hans, hover, hunder⟩ := setFeature_over_answers hroom hset hfid hsel hth
      exact ⟨_, congrArg Host.Outcome.next hrun, hans, hover, hunder.trans hkept.2⟩
    · obtain ⟨hans, hover, hunder⟩ := setFeature_under_answers hroom hset hfid hsel hth
      exact ⟨_, congrArg Host.Outcome.next hrun, hans, hunder, hover.trans hkept.1⟩
    · exact ⟨_, congrArg Host.Outcome.next (hrun.trans (setFeature_unknown hfid)), completeAdmin_answers hroom⟩
  · intro y hid hkey hq hheld hrelay
    obtain ⟨hrun, hroom, hset⟩ := runs_admin (t := t) (always := false) (run := State.setHoldLimit cntl (withFid 0xC0 e)) hr
    exact ⟨_, congrArg Host.Outcome.next hrun, setHoldLimit_answers (e := withFid 0xC0 e) hroom hset hid hkey hq hheld hrelay⟩
  · intro y hn hmode hfixed
    obtain ⟨hrun, hroom, hset⟩ := runs_admin (t := t) (always := false) (run := State.setCompression cntl (withFid 0xC1 e)) hr
    exact ⟨_, congrArg Host.Outcome.next hrun, setCompression_answers (e := withFid 0xC1 e) hroom hset hn hmode hfixed⟩
  · intro y hn hmode
    obtain ⟨hrun, hroom, hset⟩ := runs_admin (t := t) (always := false) (run := State.setDedup cntl (withFid 0xC2 e)) hr
    refine ⟨fun h2 hfits => ?_, fun hfits hm => ?_, fun hfits hm => ?_⟩
    · exact ⟨_, congrArg Host.Outcome.next (hrun.trans (setDedup_refused (e := withFid 0xC2 e) hn h2 hfits)), completeAdmin_answers hroom⟩
    · exact ⟨_, congrArg Host.Outcome.next (hrun.trans (setDedup_proposes (e := withFid 0xC2 e) hn hmode hfits)), propose_sends hroom hm⟩
    · exact ⟨_, congrArg Host.Outcome.next (hrun.trans (setDedup_proposes (e := withFid 0xC2 e) hn hmode hfits)),
        proposeDedup_settles (e := withFid 0xC2 e) hroom hset hm (featureNs_ns hn)⟩
  · intro y
    obtain ⟨hrun, hroom, hset⟩ := runs_admin (t := t) (always := true) (run := State.getFeature cntl e) hr
    exact ⟨fun hv hsel => ⟨_, congrArg Host.Outcome.next hrun, getFeature_current_answers hroom hv hsel⟩,
      fun hv => ⟨_, congrArg Host.Outcome.next hrun, getFeature_error_answers hroom hv⟩⟩

end Sys2Proof.Proofs
end

section
/-!
SUPPORT. Namespaces and self-tests.
-/

namespace Sys2Proof.Proofs

open Sys2Proof.Machine Sys2Proof.Safety Sys2Proof.Laws

/-! ### Namespaces -/

theorem marked_ns_none {s u : State} (h : Marked s u) {v : Nat} (hv : s.ns? v = none) : u.ns? v = none := by
  obtain ⟨ns, e, hcore⟩ := h
  have := hcore v
  rw [show NMap.find s.nvq.ns v = none from hv, Option.map_none, Option.map_eq_none_iff] at this
  unfold State.ns?
  rw [e]
  exact this

/-- A volume that leaves is gone, and no other comes. -/
theorem dropVol_ns_none {v w : Nat} {s : State} (h : v = w ∨ s.ns? w = none) : (s.dropVol v).ns? w = none := by
  unfold State.dropVol
  split
  · rename_i hv
    rcases h with rfl | h
    · exact hv
    · exact h
  · rename_i n _
    dsimp only
    generalize hx : State.unrefSlot n.keyslot _ = x
    have hmarked : Marked s x := by
      rw [← hx]
      refine .trans (.of_nvq ((State.unrefSlot_frame _ _).nvq (by decide))) (.trans (.foldl (fun y (p : Nat × NMap MapEnt) =>
        .of_nvq ((State.releaseRefs_frame p.2 y).nvq (by decide))) _ _) (.trans (.of_nvq ((State.releaseRefs_frame _ _).nvq (by decide))) ?_))
      exact .foldl (fun y (p : Nat × Snap) => openClones_marked v p.1 y) _ s
    refine (find_del _ _ _).trans ?_
    rcases h with rfl | h
    · exact if_pos rfl
    · split
      · rfl
      · exact marked_ns_none hmarked h

theorem deleteVol_ns_none (v : Nat) (s : State) : (s.deleteVol v).ns? v = none := by
  unfold State.deleteVol
  dsimp only
  generalize s.nvq.ns.filter _ = views
  have hgone : (s.dropVol v).ns? v = none := dropVol_ns_none (.inl rfl)
  generalize s.dropVol v = x at hgone
  induction views generalizing x with
  | nil => exact hgone
  | cons p views ih => exact ih _ (dropVol_ns_none (.inr hgone))

/-- Without a pod no block of volume numbers is asked for (R283). -/
theorem askBlock_unpodded {s : State} (hpod : s.image.podPairs = []) : s.askBlock = s := by
  unfold State.askBlock
  rw [hpod]
  rfl

theorem createNs_proposes {cntl nsze flbas vol : Nat} {e : Sqe} {s : State} (halign : nsze % 16 = 0) (hsize : nsze ≠ 0) (hlba : flbas ≤ 1)
    (hfit : s.unitsUsed + nsze / 16 ≤ s.mapUnits) (hpod : s.image.podPairs = []) (hvol : s.freeVol = some vol)
    (hkey : s.xtsReady (s.regField Reg.CIPH_DEFSLOT 12 0) = true) :
    s.createNs cntl e nsze nsze flbas = s.propose (.nsCreate vol flbas (nsze / 16) (s.regField Reg.CIPH_DEFSLOT 12 0) false) cntl e := by
  have hslot : s.newKeySlot = (some (s.regField Reg.CIPH_DEFSLOT 12 0), s) := by
    unfold State.newKeySlot
    exact if_pos hkey
  unfold State.createNs
  rw [if_neg (by omega), if_neg (by omega), if_neg (by omega)]
  dsimp only
  rw [askBlock_unpodded hpod, hvol]
  dsimp only
  rw [hslot]

section
variable {cntl : Nat} {e : Sqe} {y : State} (hroom : Room cntl 0 y) (hset : Settled cntl y)
include hroom hset

theorem proposeNs_creates {vol flbas units ks : Nat} (hm : y.mirrors = false) (hnew : y.ns? vol = none) :
    Answers cntl 0 e.cid 0 0 (vol + 1) y (y.propose (.nsCreate vol flbas units ks false) cntl e) ∧
      (y.propose (.nsCreate vol flbas units ks false) cntl e).ns? vol = some (newNs flbas units ks true) := by
  obtain ⟨hans, f⟩ := propose_settles (c := .nsCreate vol flbas units ks false) (e := e) rfl rfl hm hroom hset
  refine ⟨hans, ?_⟩
  have hnvq : (applied (.nsCreate vol flbas units ks false) cntl e (withChange (.nsCreate vol flbas units ks false) y)).2.nvq =
      { y.nvq with ns := NMap.put y.nvq.ns vol (newNs flbas units ks true) } := by
    have hhas : ¬ NMap.has y.nvq.ns vol = true := by
      unfold NMap.has
      rw [show NMap.find y.nvq.ns vol = none from hnew]
      decide
    show (if NMap.has y.nvq.ns vol = true then _ else _ : State).nvq = _
    rw [if_neg hhas]
    exact (State.tableEntry_frame _ _ _).nvq (by decide)
  unfold State.ns?
  rw [f.ns (by decide), hnvq]
  exact find_put_self _ _ _

theorem proposeNs_deletes {vol : Nat} (hm : y.mirrors = false) :
    Answers cntl 0 e.cid 0 0 0 y (y.propose (.nsDelete vol) cntl e) ∧ (y.propose (.nsDelete vol) cntl e).ns? vol = none := by
  obtain ⟨hans, f⟩ := propose_settles (c := .nsDelete vol) (e := e) rfl rfl hm hroom hset
  refine ⟨hans, ?_⟩
  unfold State.ns?
  rw [f.ns (by decide)]
  exact deleteVol_ns_none vol _

/-- The controllers a namespace is attached to. -/
theorem attached_answers {v : Nat} {n : Ns} (hn : y.ns? v = some n) (l : List Nat) :
    Answers cntl 0 e.cid 0 0 0 y ((y.updNs v (fun n => { n with attached := l })).completeAdmin cntl e 0 0 0) ∧
      ((y.updNs v (fun n => { n with attached := l })).completeAdmin cntl e 0 0 0).ns? v = some { n with attached := l } := by
  obtain ⟨hans, hns⟩ := completeAdmin_ns (e := e) hroom hset (State.updNs_frame v (fun n => { n with attached := l }) y)
    (updNs_queuesKept _ _ y) rfl v
  refine ⟨hans, hns.trans ?_⟩
  show NMap.find (NMap.upd y.nvq.ns v _) v = _
  rw [find_upd, if_pos rfl, show NMap.find y.nvq.ns v = some n from hn]
  rfl

section
variable {n : Ns} {cntls : List Nat} (hn : y.featureNs e.nsid = some n) (hsome : cntls ≠ [])
  (hthere : ∀ c ∈ cntls, NMap.has y.nvq.ctrls c = true)
include hn hsome hthere

omit hroom hset hn in
theorem attachNs_admitted : ¬ (cntls.isEmpty || cntls.any (fun c => !NMap.has y.nvq.ctrls c)) = true := by
  simp only [Bool.or_eq_true, List.isEmpty_iff, List.any_eq_true, Bool.not_eq_true', not_or, not_exists, not_and]
  exact ⟨hsome, fun c hc => by rw [hthere c hc]; decide⟩

theorem attachNs_attaches (hsel : bits e.dw10 3 0 = 0) (hnew : ∀ c ∈ cntls, c ∉ n.attached) :
    Answers cntl 0 e.cid 0 0 0 y (y.attachNs cntl e cntls) ∧
      (y.attachNs cntl e cntls).ns? (volOf e.nsid) = some { n with attached := n.attached ++ cntls } := by
  have hrun : y.attachNs cntl e cntls =
      (y.updNs (volOf e.nsid) (fun x => { x with attached := n.attached ++ cntls })).completeAdmin cntl e 0 0 0 := by
    unfold State.attachNs
    rw [hn]
    dsimp only
    rw [if_neg (attachNs_admitted hsome hthere), hsel]
    exact if_neg (by simpa using hnew)
  rw [hrun]
  exact attached_answers hroom hset (featureNs_ns hn) _

theorem attachNs_detaches (hsel : bits e.dw10 3 0 = 1) (hold : ∀ c ∈ cntls, c ∈ n.attached) :
    Answers cntl 0 e.cid 0 0 0 y (y.attachNs cntl e cntls) ∧
      (y.attachNs cntl e cntls).ns? (volOf e.nsid) = some { n with attached := n.attached.filter (fun c => !cntls.contains c) } := by
  have hrun : y.attachNs cntl e cntls =
      (y.updNs (volOf e.nsid) (fun x => { x with attached := n.attached.filter (fun c => !cntls.contains c) })).completeAdmin cntl e 0 0 0 := by
    unfold State.attachNs
    rw [hn]
    dsimp only
    rw [if_neg (attachNs_admitted hsome hthere), hsel]
    exact if_neg (by simpa using hold)
  rw [hrun]
  exact attached_answers hroom hset (featureNs_ns hn) _

end

/-! ### Self-tests -/

/-- An answer after a change of the queues' state that leaves the queues themselves alone. -/
theorem recorded_answers {v : NvqState} (hk : QueuesKept y { y with nvq := v }) (code : Nat) (data : List Nat) :
    Answers cntl 0 e.cid 0 0 0 y ((({ y with nvq := v } : State).record code data).completeAdmin cntl e 0 0 0) ∧
      Frame 4259998 { y with nvq := v } ((({ y with nvq := v } : State).record code data).completeAdmin cntl e 0 0 0) := by
  have hroom' : Room cntl 0 { y with nvq := v } := room_queuesKept hroom hk rfl
  have hset' : Settled cntl { y with nvq := v } := settled_queuesKept hset hk
  have hbox : ({ y with nvq := v } : State).outbox = y.outbox := rfl
  generalize ({ y with nvq := v } : State) = x at hroom' hset' hbox ⊢
  have fr := State.record_frame code data x
  have hset'' : Settled cntl (x.record code data) := Settled.of_sqs hset' (by rw [fr.nvq (by decide)])
  exact ⟨answers_of_outbox (answers_before fr (completeAdmin_answers (hroom'.of_frame fr (by decide) (by decide)))) hbox,
    Frame.comp (completeAdmin_settled hset'' e 0 0 0).1 rfl (Frame.comp fr rfl (Frame.refl x))⟩

theorem startTest_starts {stc : Nat} (hns : e.nsid = 0 ∨ e.nsid = 0xFFFFFFFF) (hidle : y.nvq.testOp = 0) :
    Answers cntl 0 e.cid 0 0 0 y (y.startTest cntl e stc) ∧ (y.startTest cntl e stc).nvq.testOp = stc ∧
      (y.startTest cntl e stc).nvq.testPercent = 0 ∧ (y.startTest cntl e stc).nvq.testStart = y.time.now := by
  have hrun : y.startTest cntl e stc =
      (({ y with nvq := { y.nvq with testOp := stc, testStart := y.time.now, testPercent := 0 } } : State).record 0x6030 [stc]).completeAdmin
        cntl e 0 0 0 := by
    unfold State.startTest
    rw [if_neg (by omega), if_neg (by simp [hidle])]
  obtain ⟨hans, f⟩ := recorded_answers (e := e) hroom hset
    (v := { y.nvq with testOp := stc, testStart := y.time.now, testPercent := 0 }) ⟨rfl, rfl, rfl⟩ 0x6030 [stc]
  rw [hrun]
  exact ⟨hans, f.nvqKept (by decide) (·.testOp) fun _ => rfl, f.nvqKept (by decide) (·.testPercent) fun _ => rfl,
    f.nvqKept (by decide) (·.testStart) fun _ => rfl⟩

omit hset in
theorem startTest_busy {stc : Nat} (hns : e.nsid = 0 ∨ e.nsid = 0xFFFFFFFF) (hbusy : y.nvq.testOp ≠ 0) :
    Answers cntl 0 e.cid 1 0x1D 0 y (y.startTest cntl e stc) := by
  unfold State.startTest
  rw [if_neg (by omega), if_pos hbusy]
  exact completeAdmin_answers hroom

/-- The queues' state with the self-test ended (R214). -/
def testEnded (result seg : Nat) (v : NvqState) : NvqState :=
  { v with testOp := 0, testPercent := 0, testResults := ((v.testOp, result, seg) :: v.testResults).take 20 }

omit hroom hset in
theorem endTest_ends {result seg : Nat} (hbusy : y.nvq.testOp ≠ 0) :
    y.endTest result seg = ({ y with nvq := testEnded result seg y.nvq } : State).record 0x6031 [y.nvq.testOp, result, seg] := by
  unfold State.endTest
  exact if_neg hbusy

theorem endTest_answers (hbusy : y.nvq.testOp ≠ 0) :
    Answers cntl 0 e.cid 0 0 0 y ((y.endTest 1 0).completeAdmin cntl e 0 0 0) ∧
      ((y.endTest 1 0).completeAdmin cntl e 0 0 0).nvq.testOp = 0 ∧
      ((y.endTest 1 0).completeAdmin cntl e 0 0 0).nvq.testResults = ((y.nvq.testOp, 1, 0) :: y.nvq.testResults).take 20 := by
  rw [endTest_ends hbusy]
  obtain ⟨hans, f⟩ := recorded_answers (e := e) hroom hset (v := testEnded 1 0 y.nvq) ⟨rfl, rfl, rfl⟩ 0x6031 [y.nvq.testOp, 1, 0]
  exact ⟨hans, f.nvqKept (by decide) (·.testOp) fun _ => rfl, f.nvqKept (by decide) (·.testResults) fun _ => rfl⟩

end

/-- SELF_TEST_ABORT, after its fetch. -/
def abortTest (cntl : Nat) (e : Sqe) (s : State) : State :=
  if e.nsid ≠ 0 ∧ e.nsid ≠ 0xFFFFFFFF then s.invalidField cntl e else (s.endTest 1 0).completeAdmin cntl e 0 0 0

/-- Settles O37. -/
theorem namespacesAndSelfTests : Obligations.NamespacesAndSelfTests := by
  refine ⟨fun t cntl nsze flbas vol e s hr => ?_, fun t cntl n e s hr => ?_, fun t cntl n cntls e s hr => ?_, fun t cntl e s hr hns => ?_,
    fun t seg s hbusy => ?_⟩
  · intro y ks halign hsize hlba hfit hpod hvol hkey hnew
    obtain ⟨hrun, hroom, hset⟩ := runs_admin (t := t) (always := false) (run := fun s => s.createNs cntl e nsze nsze flbas) hr
    replace hrun := hrun.trans (createNs_proposes halign hsize hlba hfit hpod hvol hkey)
    refine ⟨fun hm => ⟨_, congrArg Host.Outcome.next hrun, propose_sends hroom hm, ?_⟩,
      fun hm => ⟨_, congrArg Host.Outcome.next hrun, proposeNs_creates hroom hset hm hnew⟩⟩
    unfold State.propose State.ns?
    rw [if_pos hm, emit_nvq]
    exact hnew
  · intro y hn
    obtain ⟨hrun, hroom, hset⟩ := runs_admin (t := t) (always := false) (run := fun s => s.deleteNs cntl e) hr
    have hdel : y.deleteNs cntl e = y.propose (.nsDelete (volOf e.nsid)) cntl e := by
      unfold State.deleteNs
      rw [hn]
    replace hrun := hrun.trans hdel
    exact ⟨fun hm => ⟨_, congrArg Host.Outcome.next hrun, propose_sends hroom hm⟩,
      fun hm => ⟨_, congrArg Host.Outcome.next hrun, proposeNs_deletes hroom hset hm⟩⟩
  · intro y hn hsome hthere
    obtain ⟨hrun, hroom, hset⟩ := runs_admin (t := t) (always := false) (run := fun s => s.attachNs cntl e cntls) hr
    exact ⟨fun hsel hnew => ⟨_, congrArg Host.Outcome.next hrun, attachNs_attaches hroom hset hn hsome hthere hsel hnew⟩,
      fun hsel hold => ⟨_, congrArg Host.Outcome.next hrun, attachNs_detaches hroom hset hn hsome hthere hsel hold⟩⟩
  · intro y
    obtain ⟨hshort, hroom, hset⟩ := runs_admin (t := t) (always := false) (run := fun s => s.startTest cntl e 1) hr
    obtain ⟨hlong, -, -⟩ := runs_admin (t := t) (always := false) (run := fun s => s.startTest cntl e 2) hr
    obtain ⟨habort, -, -⟩ := runs_admin (t := t) (always := false) (run := abortTest cntl e) hr
    have fy := fetched_advanceTo_frame t cntl 0 e s
    have hop : y.nvq.testOp = s.nvq.testOp := fy.nvqKept (by decide) (·.testOp) fun _ => rfl
    have hres : y.nvq.testResults = s.nvq.testResults := fy.nvqKept (by decide) (·.testResults) fun _ => rfl
    rw [← hop, ← hres]
    refine ⟨fun hidle => ⟨_, congrArg Host.Outcome.next hshort, startTest_starts hroom hset hns hidle⟩,
      fun hidle => ⟨_, congrArg Host.Outcome.next hlong, startTest_starts hroom hset hns hidle⟩,
      fun hbusy => ⟨_, _, congrArg Host.Outcome.next hshort, congrArg Host.Outcome.next hlong, startTest_busy hroom hns hbusy,
        startTest_busy hroom hns hbusy⟩, fun hbusy => ?_⟩
    have hend : abortTest cntl e y = (y.endTest 1 0).completeAdmin cntl e 0 0 0 := if_neg (by omega)
    exact ⟨_, congrArg Host.Outcome.next (habort.trans hend), endTest_answers hroom hset hbusy⟩
  · have hbusy' : (s.advanceTo t).nvq.testOp ≠ 0 := by rwa [advanceTo_nvq]
    have hexec : Sys2Proof.Machine.exec (.selfTestDone t seg none) s =
        .next ((s.advanceTo t).endTest (if seg = 0 then 0 else 7) seg) := congrArg Host.Outcome.next (if_neg hbusy')
    refine ⟨_, hexec, ?_⟩
    rw [endTest_ends hbusy', (State.record_frame _ _ _).nvq (by decide), advanceTo_nvq]
    rfl

end Sys2Proof.Proofs
end

section
/-!
SUPPORT. C0h Set Reservation, action by action.
-/

namespace Sys2Proof.Proofs

open Sys2Proof.Machine Sys2Proof.Safety Sys2Proof.Laws

/-! ### The action a command names -/

theorem c0Action_withAction {a : Nat} (e : Sqe) (ha : a < 4) : c0Action (withAction a e) = a := by
  show bits ((e.dw10 &&& ~~~(3#32)) ||| BitVec.ofNat 32 a) 1 0 = a
  have hclear : bits (~~~(3#32)) 1 0 = 0 := by decide
  have hkept : bits (BitVec.ofNat 32 a) 1 0 = a := by interval_cases a <;> decide
  rw [bits_or, bits_and, hclear, hkept, Nat.and_zero, Nat.zero_or]

theorem c0Rebind_withRebind (a : Nat) (e : Sqe) : c0Rebind (withRebind a e) = true := by
  show bit (e.dw14 ||| 0x8000) 15 = true
  rw [bit_or, show bit (0x8000 : Word) 15 = true by decide, Bool.or_true]

/-- A C0h outside Relay runs once it has been fetched. -/
theorem c0h_runs {t cntl : Nat} {e : Sqe} {s : State} (hr : Runs cntl e s) (hm : s.md.mode ≠ .relay) :
    (s.advanceTo t).c0h cntl e = ((s.advanceTo t).fetched cntl 0 e).runC0h cntl e ∧
      Room cntl 0 ((s.advanceTo t).fetched cntl 0 e) ∧ Settled cntl ((s.advanceTo t).fetched cntl 0 e) := by
  obtain ⟨hrun, hrest⟩ := runs_admin (t := t) (always := false) (run := fun s1 : State =>
    if s1.md.mode = .relay then
      { s1 with moor := { s1.moor with relayHeld := s1.moor.relayHeld ++ [(cntl, e, s1.time.now)] } }
    else s1.runC0h cntl e) hr
  refine ⟨hrun.trans (if_neg ?_), hrest⟩
  rwa [(fetched_advanceTo_frame t cntl 0 e s).md (by decide)]

/-- The action of a C0h without REBIND (Table 9.7). -/
def c0Plain (cntl : Nat) (e : Sqe) (s : State) : Nat → State
  | 0 => s.createResv cntl e
  | 1 => s.changeResv cntl e
  | 2 => s.deleteResv cntl e
  | _ => s.queryResv cntl e

theorem runC0h_plain {cntl a : Nat} {e : Sqe} {s : State} (hns : e.nsid = 0) (h14 : e.dw14 = 0) (ha : a < 4) :
    s.runC0h cntl (withAction a e) = c0Plain cntl (withAction a e) s a := by
  have hns' : ¬ (withAction a e).nsid ≠ 0 := not_not.2 hns
  have h14' : ¬ (withAction a e).dw14 ≠ 0 := not_not.2 h14
  have hrebind : c0Rebind (withAction a e) = false := by
    show bit e.dw14 15 = false
    rw [h14]
    decide
  unfold State.runC0h
  rw [if_neg hns', hrebind, if_neg (by decide), if_neg h14', c0Action_withAction e ha]
  unfold c0Plain
  rfl

section
variable {cntl : Nat} {e : Sqe} {s : State} (hns : e.nsid = 0) (h14 : e.dw14 = 0)
include hns h14

theorem runC0h_creates : s.runC0h cntl (withAction 0 e) = s.createResv cntl (withAction 0 e) := runC0h_plain hns h14 (by decide)

theorem runC0h_changes : s.runC0h cntl (withAction 1 e) = s.changeResv cntl (withAction 1 e) := runC0h_plain hns h14 (by decide)

theorem runC0h_deletes : s.runC0h cntl (withAction 2 e) = s.deleteResv cntl (withAction 2 e) := runC0h_plain hns h14 (by decide)

theorem runC0h_queries : s.runC0h cntl (withAction 3 e) = s.queryResv cntl (withAction 3 e) := runC0h_plain hns h14 (by decide)

end

theorem runC0h_rebinds {cntl : Nat} {e : Sqe} {s : State} (hns : e.nsid = 0) :
    s.runC0h cntl (withRebind 0 e) = s.rebindResv cntl (withRebind 0 e) := by
  have hns' : ¬ (withRebind 0 e).nsid ≠ 0 := not_not.2 hns
  unfold State.runC0h
  rw [if_neg hns', c0Rebind_withRebind, if_pos rfl, show c0Action (withRebind 0 e) = 0 from c0Action_withAction e (by decide)]
  rfl

theorem runC0h_deletesUnbound {cntl : Nat} {e : Sqe} {s : State} (hns : e.nsid = 0) :
    s.runC0h cntl (withRebind 2 e) = s.deleteUnbound cntl (withRebind 2 e) := by
  have hns' : ¬ (withRebind 2 e).nsid ≠ 0 := not_not.2 hns
  unfold State.runC0h
  rw [if_neg hns', c0Rebind_withRebind, if_pos rfl, show c0Action (withRebind 2 e) = 2 from c0Action_withAction e (by decide)]
  rfl

/-! ### The actions -/

theorem leBytes_length (n v : Nat) : (leBytes n v).length = n := by
  induction n generalizing v with
  | zero => rfl
  | succ n ih => exact congrArg Nat.succ (ih _)

theorem resvBytes_length (r : Resv) : (resvBytes r).length = 16 := by
  unfold resvBytes
  simp only [List.length_append, leBytes_length]

/-- A reservation that is dropped is gone. -/
theorem dropResv_find (i : Nat) (s : State) : NMap.find (s.dropResv i).adm.resv i = none := by
  unfold State.dropResv
  split
  · assumption
  · rename_i r _
    dsimp only
    generalize hx : State.record 0x2002 [i, r.dqn] _ = x
    have hresv : NMap.find x.adm.resv i = none := by
      rw [← hx, (State.record_frame _ _ _).adm (by decide)]
      exact (find_del _ _ _).trans (if_pos rfl)
    split
    · rw [(State.emit_frame _ x).adm (by decide)]
      exact hresv
    · exact hresv

/-- With a partner a change that is asked leaves the reservations as they are. -/
theorem propose_resv {c : PairChange} {cntl : Nat} {e : Sqe} {s : State} (hm : s.mirrors = true) : (s.propose c cntl e).adm = s.adm := by
  unfold State.propose
  rw [if_pos hm]
  exact (State.emit_frame _ _).adm (by decide)

section
variable {cntl : Nat} {e : Sqe} {y : State} (hroom : Room cntl 0 y) (hset : Settled cntl y)
include hroom hset

/-- An answer after steps that leave the queues alone keeps the reservations of those steps. -/
theorem completed_resv {z : State} {m : Nat} (f : Frame m y z) (hk : QueuesKept y z) (hf : z.moor.fenced = y.moor.fenced) (sct sc dw0 dw1 : Nat) :
    Answers cntl 0 e.cid sct sc dw0 y (z.complete cntl 0 e.cid sct sc dw0 dw1) ∧
      (z.complete cntl 0 e.cid sct sc dw0 dw1).adm.resv = z.adm.resv :=
  ⟨answers_before f (complete_answers (room_queuesKept hroom hk hf)),
    (complete_settled 0 e.cid sct sc dw0 dw1 (settled_queuesKept hset hk)).1.resv (by decide)⟩

theorem refuseC0h_answers (dqn code : Nat) :
    Answers cntl 0 e.cid 7 0x80 code y (y.refuseC0h cntl e dqn code) ∧ (y.refuseC0h cntl e dqn code).adm.resv = y.adm.resv := by
  have f := State.record_frame 0x2003 [code, dqn] y
  obtain ⟨hans, hresv⟩ := completed_resv (e := e) hroom hset f (.of_frame f (by decide)) (by rw [f.moor (by decide)]) 7 0x80 code 0
  exact ⟨hans, hresv.trans (by rw [f.adm (by decide)])⟩

theorem dropResv_answers (i : Nat) :
    Answers cntl 0 e.cid 0 0 0 y ((y.dropResv i).completeAdmin cntl e 0 0 0) ∧
      NMap.find ((y.dropResv i).completeAdmin cntl e 0 0 0).adm.resv i = none := by
  have f := State.dropResv_frame i y
  obtain ⟨hans, hresv⟩ := completed_resv (e := e) hroom hset f (.of_frame f (by decide)) (f.moorKept (by decide) (·.fenced) fun _ => rfl) 0 0 0 0
  exact ⟨hans, (congrArg (NMap.find · i) hresv).trans (dropResv_find i y)⟩

end

/-! ### Create -/

section
variable {cntl dqn i : Nat} {e : Sqe} {y : State} (hqid : c0Qid e ≠ 0) (hq : y.queueKey cntl (c0Qid e) = some dqn)
  (hfree : y.queueTaken cntl (c0Qid e) dqn = false) (hrange : c0Ranges e = true) (hpush : c0Pull e = true ∨ c0PushOk e = true)
  (hi : firstFree (y.indexBase cntl) 256 y.indexTaken = some i)
include hqid hq hfree hrange hpush hi

/-- This head's conditions on a create that names a free queue and has an index (R62). -/
theorem createResv_judged : y.createResv cntl e =
    if fitCode y.fitArgs (y.withResv i (y.freshResv (c0Rate e) (c0Burst e) (c0D e) (c0Pull e) true dqn cntl)) ≠ 0 then
      y.refuseC0h cntl e dqn (fitCode y.fitArgs (y.withResv i (y.freshResv (c0Rate e) (c0Burst e) (c0D e) (c0Pull e) true dqn cntl)))
    else if (!c0Pull e && (y.pushRange (c0PushSz e)).isNone) = true then y.refuseC0h cntl e dqn 9
    else y.propose (.resvCreate i (c0Rate e) (c0Burst e) (c0D e) (c0Pull e)) cntl e := by
  have hgo : ¬ (y.queueTaken cntl (c0Qid e) dqn || !c0Ranges e || (!c0Pull e && !c0PushOk e)) = true := by
    rw [hfree, hrange]
    rcases hpush with h | h <;> simp [h]
  unfold State.createResv
  rw [if_neg hqid, hq]
  dsimp only
  rw [if_neg hgo, hi]
  rfl

/-- A create that does not fit ends with its code (Table 3.4). -/
theorem createResv_refused (hroom : Room cntl 0 y) (hset : Settled cntl y)
    (hcode : fitCode y.fitArgs (y.withResv i (y.freshResv (c0Rate e) (c0Burst e) (c0D e) (c0Pull e) true dqn cntl)) ≠ 0) :
    Answers cntl 0 e.cid 7 0x80 (fitCode y.fitArgs (y.withResv i (y.freshResv (c0Rate e) (c0Burst e) (c0D e) (c0Pull e) true dqn cntl))) y
      (y.createResv cntl e) ∧ (y.createResv cntl e).adm.resv = y.adm.resv := by
  rw [createResv_judged hqid hq hfree hrange hpush hi, if_pos hcode]
  exact refuseC0h_answers hroom hset dqn _

theorem createResv_proposes
    (hcode : fitCode y.fitArgs (y.withResv i (y.freshResv (c0Rate e) (c0Burst e) (c0D e) (c0Pull e) true dqn cntl)) = 0)
    (hregion : c0Pull e = true ∨ (y.pushRange (c0PushSz e)).isSome = true) :
    y.createResv cntl e = y.propose (.resvCreate i (c0Rate e) (c0Burst e) (c0D e) (c0Pull e)) cntl e := by
  have hgo : ¬ (!c0Pull e && (y.pushRange (c0PushSz e)).isNone) = true := by
    rcases hregion with h | h
    · simp [h]
    · simp [Option.isSome_iff_ne_none.1 h]
  rw [createResv_judged hqid hq hfree hrange hpush hi, if_neg (not_not.2 hcode), if_neg hgo]

end

/-- A reservation that a create makes at its home. -/
theorem applied_resvCreate {cntl dqn i rate burst d : Nat} {pull : Bool} {e : Sqe} {y : State} (hq : y.queueKey cntl (c0Qid e) = some dqn) :
    ∃ r, NMap.find (applied (.resvCreate i rate burst d pull) cntl e y).2.adm.resv i = some r ∧ r.rate = rate ∧ r.burst = burst ∧ r.d = d ∧
      r.pull = pull ∧ r.dqn = dqn ∧ r.cntl = cntl ∧ r.home = true ∧ r.used = 0 ∧ r.credit = burst := by
  have hdqn : changeDqn (.resvCreate i rate burst d pull) cntl e y = dqn := by
    unfold changeDqn
    rw [hq]
    rfl
  unfold applied State.applyChange
  rw [hdqn]
  dsimp only
  rw [if_pos rfl, (State.record_frame _ _ _).adm (by decide)]
  exact ⟨_, find_put_self _ _ _, rfl, rfl, rfl, rfl, rfl, rfl, rfl, rfl, rfl⟩

/-! ### REBIND -/

/-- An unbound reservation as REBIND binds it. -/
def Resv.bound (r : Resv) (dqn cntl key size : Nat) : Resv := { r with dqn := dqn, cntl := cntl, pushKey := key, pushSz := size }

/-- The push region a REBIND makes where the reservation's delivery is push (R212): its key, and the state. -/
def rebindPush (r : Resv) (cntl : Nat) (e : Sqe) (s : State) : Nat × State := if r.pull then (0, s) else s.newPush cntl (c0PushSz e)

theorem rebindPush_frame (r : Resv) (cntl : Nat) (e : Sqe) (s : State) : Frame 4096 s (rebindPush r cntl e s).2 := by
  unfold rebindPush
  split
  · exact Frame.refl s
  · exact State.newPush_frame _ _ s

/-- The state with one reservation set. -/
def withReservation (i : Nat) (r : Resv) (s : State) : State := { s with adm := { s.adm with resv := NMap.put s.adm.resv i r } }

theorem withReservation_frame (i : Nat) (r : Resv) (s : State) : Frame 8589934656 s (withReservation i r s) :=
  Frame.set_adm (by decide) (fun i => absurd i (by decide)) (fun _ => rfl) (fun _ => rfl) (Frame.refl s)

theorem rebindResv_binds {cntl dqn : Nat} {r : Resv} {e : Sqe} {s : State} (hqid : c0Qid e ≠ 0) (hq : s.queueKey cntl (c0Qid e) = some dqn)
    (hr : s.unbound (c0Index e) = some r) (hfree : s.queueTaken cntl (c0Qid e) dqn = false)
    (hpush : r.pull = true ∨ c0PushOk e = true ∧ (s.pushRange (c0PushSz e)).isSome = true) :
    s.rebindResv cntl e = ((withReservation (c0Index e)
      (Resv.bound r dqn cntl (rebindPush r cntl e s).1 (if r.pull then 0 else c0PushSz e)) (rebindPush r cntl e s).2).record 0x2001
        [c0Index e, dqn, r.rate, r.burst, r.d]).complete cntl 0 e.cid 0 0 (c0Index e) (rebindPush r cntl e s).1 := by
  have hgo : ¬ (s.queueTaken cntl (c0Qid e) dqn || (!r.pull && !c0PushOk e)) = true := by
    rw [hfree]
    rcases hpush with h | ⟨h, -⟩ <;> simp [h]
  have hroom : ¬ (!r.pull && (s.pushRange (c0PushSz e)).isNone) = true := by
    rcases hpush with h | ⟨-, h⟩
    · simp [h]
    · simp [Option.isSome_iff_ne_none.1 h]
  unfold State.rebindResv
  rw [if_neg hqid, hq, hr]
  dsimp only
  rw [if_neg hgo, if_neg hroom]
  rfl

section
variable {cntl : Nat} {e : Sqe} {y : State} (hroom : Room cntl 0 y) (hset : Settled cntl y)
include hroom hset

theorem rebindResv_answers {dqn : Nat} {r : Resv} (hqid : c0Qid e ≠ 0) (hq : y.queueKey cntl (c0Qid e) = some dqn)
    (hr : y.unbound (c0Index e) = some r) (hfree : y.queueTaken cntl (c0Qid e) dqn = false)
    (hpush : r.pull = true ∨ c0PushOk e = true ∧ (y.pushRange (c0PushSz e)).isSome = true) :
    Answers cntl 0 e.cid 0 0 (c0Index e) y (y.rebindResv cntl e) ∧ ∃ r', NMap.find (y.rebindResv cntl e).adm.resv (c0Index e) = some r' ∧
      r'.dqn = dqn ∧ r'.cntl = cntl ∧ r'.rate = r.rate ∧ r'.burst = r.burst ∧ r'.d = r.d := by
  rw [rebindResv_binds hqid hq hr hfree hpush]
  have fpush := rebindPush_frame r cntl e y
  generalize rebindPush r cntl e y = p at fpush ⊢
  have fput := withReservation_frame (c0Index e) (Resv.bound r dqn cntl p.1 (if r.pull then 0 else c0PushSz e)) p.2
  have hput : NMap.find (withReservation (c0Index e) (Resv.bound r dqn cntl p.1 (if r.pull then 0 else c0PushSz e)) p.2).adm.resv (c0Index e) =
      some (Resv.bound r dqn cntl p.1 (if r.pull then 0 else c0PushSz e)) := find_put_self _ _ _
  generalize withReservation (c0Index e) _ p.2 = x at fput hput ⊢
  have frec := State.record_frame 0x2001 [c0Index e, dqn, r.rate, r.burst, r.d] x
  obtain ⟨hans, hresv⟩ := completed_resv (e := e) hroom hset
    (Frame.comp (m := 8590004318) frec rfl (Frame.comp fput rfl (Frame.comp fpush rfl (Frame.refl y))))
    (.trans (.of_frame frec (by decide)) (.trans (.of_frame fput (by decide)) (.of_frame fpush (by decide))))
    (by rw [frec.moor (by decide), fput.moor (by decide), fpush.moor (by decide)]) 0 0 (c0Index e) p.1
  refine ⟨hans, Resv.bound r dqn cntl p.1 (if r.pull then 0 else c0PushSz e), ?_, rfl, rfl, rfl, rfl, rfl⟩
  rw [hresv, frec.adm (by decide), hput]

theorem deleteUnbound_answers {r : Resv} (hr : y.unbound (c0Index e) = some r) :
    Answers cntl 0 e.cid 0 0 0 y (y.deleteUnbound cntl e) ∧ NMap.find (y.deleteUnbound cntl e).adm.resv (c0Index e) = none := by
  unfold State.deleteUnbound
  rw [hr]
  exact dropResv_answers hroom hset _

theorem deleteResv_answers {i : Nat} (hi : (y.queueKey cntl (c0Qid e)).bind y.resvOf = some i) :
    Answers cntl 0 e.cid 0 0 0 y (y.deleteResv cntl e) ∧ NMap.find (y.deleteResv cntl e).adm.resv i = none := by
  unfold State.deleteResv
  rw [hi]
  exact dropResv_answers hroom hset i

/-- A query answers with the reservation as it stands in the present window (R67). -/
theorem queryResv_answers {i : Nat} {r : Resv} {x : Session} (hi : (y.queueKey cntl (c0Qid e)).bind y.resvOf = some i)
    (hr : NMap.find y.adm.resv i = some r) (hx : y.session? (y.ctrlSession cntl) = some x) :
    Answers cntl 0 e.cid 0 0 0 y (y.queryResv cntl e) ∧
      (∃ p, Queued (y.ctrlSession cntl) (y.queryResv cntl e) p ∧ p.payload = resvBytes (y.resvNow r) ∧ p.key = dkeyOf e ∧ p.offset = dofsOf e) ∧
      (y.queryResv cntl e).adm.resv = y.adm.resv := by
  have hrun : y.queryResv cntl e = (y.adminData cntl e (resvBytes (y.resvNow r))).completeAdmin cntl e 0 0 0 := by
    unfold State.queryResv
    rw [hi, Option.bind_some, hr]
  have fdata := State.adminData_frame cntl e (resvBytes (y.resvNow r)) y
  have hnvq := fdata.nvq (by decide)
  obtain ⟨hans, ⟨p, hp, -, hkey, hoff, hpay⟩, -⟩ := adminData_sent hroom hset hx (resvBytes (y.resvNow r)) (Frame.refl _)
    (by rw [hnvq]) (by rw [hnvq]) (by rw [hnvq])
  rw [List.take_of_length_le (by rw [resvBytes_length]; decide)] at hpay
  rw [hrun]
  exact ⟨hans, ⟨p, hp, hpay, hkey, hoff⟩, ((completeAdmin_settled (Settled.of_sqs hset (by rw [hnvq])) e 0 0 0).1.resv (by decide)).trans
    (by rw [fdata.adm (by decide)])⟩

/-- A change at a head without a partner takes effect at once. -/
theorem proposeResv_changes {i rate burst d : Nat} {r : Resv} (hm : y.mirrors = false) (hr : NMap.find y.adm.resv i = some r) :
    Answers cntl 0 e.cid 0 0 0 y (y.propose (.resvChange i rate burst d) cntl e) ∧
      NMap.find (y.propose (.resvChange i rate burst d) cntl e).adm.resv i = some (r.changed rate burst d) := by
  obtain ⟨hans, f⟩ := propose_settles (c := .resvChange i rate burst d) (e := e) rfl rfl hm hroom hset
  refine ⟨hans, ?_⟩
  rw [f.resv (by decide)]
  unfold applied State.applyChange
  dsimp only
  rw [if_pos rfl, (State.record_frame _ _ _).adm (by decide)]
  show NMap.find (NMap.upd y.adm.resv i _) i = _
  rw [find_upd, if_pos rfl, hr]
  rfl

/-- A create at a head without a partner takes effect at once, with the queue bound. -/
theorem proposeResv_creates {dqn i rate burst d : Nat} {pull : Bool} (hm : y.mirrors = false) (hq : y.queueKey cntl (c0Qid e) = some dqn) :
    Answers cntl 0 e.cid 0 0 i y (y.propose (.resvCreate i rate burst d pull) cntl e) ∧
      ∃ r, NMap.find (y.propose (.resvCreate i rate burst d pull) cntl e).adm.resv i = some r ∧ r.rate = rate ∧ r.burst = burst ∧ r.d = d ∧
        r.pull = pull ∧ r.dqn = dqn ∧ r.cntl = cntl ∧ r.home = true ∧ r.used = 0 ∧ r.credit = burst := by
  obtain ⟨hans, f⟩ := propose_settles (c := .resvCreate i rate burst d pull) (e := e) rfl rfl hm hroom hset
  refine ⟨hans, ?_⟩
  rw [f.resv (by decide)]
  exact applied_resvCreate hq

end

theorem changeResv_proposes {cntl i : Nat} {r : Resv} {e : Sqe} {s : State} (hi : (s.queueKey cntl (c0Qid e)).bind s.resvOf = some i)
    (hr : NMap.find s.adm.resv i = some r) (hrange : c0Ranges e = true)
    (hfit : fitCode s.fitArgs (s.withResv i (r.changed (c0Rate e) (c0Burst e) (c0D e))) = 0) :
    s.changeResv cntl e = s.propose (.resvChange i (c0Rate e) (c0Burst e) (c0D e)) cntl e := by
  unfold State.changeResv
  rw [hi]
  dsimp only
  rw [hr]
  dsimp only
  rw [if_neg (by simp [hrange]), if_neg (not_not.2 hfit)]

/-- In Relay a C0h waits (R34). -/
theorem c0h_waits {t cntl : Nat} {e : Sqe} {s : State} (hr : Runs cntl e s) (hm : s.md.mode = .relay) :
    (s.advanceTo t).c0h cntl e = { (s.advanceTo t).fetched cntl 0 e with
      moor := { s.moor with relayHeld := s.moor.relayHeld ++ [(cntl, e, ((s.advanceTo t).fetched cntl 0 e).time.now)] } } := by
  obtain ⟨hrun, -⟩ := runs_admin (t := t) (always := false) (run := fun s1 : State =>
    if s1.md.mode = .relay then
      { s1 with moor := { s1.moor with relayHeld := s1.moor.relayHeld ++ [(cntl, e, s1.time.now)] } }
    else s1.runC0h cntl e) hr
  have fy := fetched_advanceTo_frame t cntl 0 e s
  have hmoor := fy.moor (by decide)
  have hmode : ((s.advanceTo t).fetched cntl 0 e).md.mode = .relay := by rwa [fy.md (by decide)]
  rw [← hmoor]
  exact hrun.trans (if_pos hmode)

/-- Settles O38. -/
theorem reservationsAreMadeChangedAndDeleted : Obligations.ReservationsAreMadeChangedAndDeleted := by
  refine ⟨fun t cntl dqn i e s hr => ?_, fun t cntl i r e s hr => ?_, fun t cntl i e s hr => ?_, fun t cntl i r x e s hr => ?_,
    fun t cntl dqn r e s hr => ?_, fun t cntl r e s hr => ?_, fun t cntl e s hr hm => ?_⟩
  · intro f y _ hm hns h14 hqid hq hfree hrange hpush hi
    obtain ⟨hrun, hroom, hset⟩ : (s.advanceTo t).c0h cntl f = y.runC0h cntl f ∧ Room cntl 0 y ∧ Settled cntl y := c0h_runs hr hm
    clear_value y
    refine ⟨fun hcode => ?_, fun hcode hregion => ?_⟩
    · exact ⟨_, congrArg Host.Outcome.next (hrun.trans (runC0h_creates hns h14)),
        createResv_refused (e := f) hqid hq hfree hrange hpush hi hroom hset hcode⟩
    · replace hrun := hrun.trans ((runC0h_creates hns h14).trans
        (createResv_proposes (y := y) (e := f) hqid hq hfree hrange hpush hi hcode hregion))
      refine ⟨fun hmir => ⟨_, congrArg Host.Outcome.next hrun, propose_sends (e := f) hroom hmir, ?_⟩, fun hmir => ?_⟩
      · rw [propose_resv hmir]
      · obtain ⟨hans, r, hrest⟩ := proposeResv_creates (e := f) (i := i) (rate := c0Rate f) (burst := c0Burst f) (d := c0D f) (pull := c0Pull f)
          hroom hset hmir hq
        exact ⟨_, r, congrArg Host.Outcome.next hrun, hans, hrest⟩
  · intro f y hm hns h14 hi hfind hrange hfit
    obtain ⟨hrun, hroom, hset⟩ : (s.advanceTo t).c0h cntl f = y.runC0h cntl f ∧ Room cntl 0 y ∧ Settled cntl y := c0h_runs hr hm
    clear_value y
    replace hrun := hrun.trans ((runC0h_changes hns h14).trans (changeResv_proposes (s := y) (e := f) hi hfind hrange hfit))
    refine ⟨fun hmir => ⟨_, congrArg Host.Outcome.next hrun, propose_sends (e := f) hroom hmir, ?_⟩,
      fun hmir => ⟨_, congrArg Host.Outcome.next hrun, proposeResv_changes (e := f) hroom hset hmir hfind⟩⟩
    rw [propose_resv hmir]
  · intro f y hm hns h14 hi
    obtain ⟨hrun, hroom, hset⟩ : (s.advanceTo t).c0h cntl f = y.runC0h cntl f ∧ Room cntl 0 y ∧ Settled cntl y := c0h_runs hr hm
    clear_value y
    exact ⟨_, congrArg Host.Outcome.next (hrun.trans (runC0h_deletes hns h14)), deleteResv_answers (e := f) hroom hset hi⟩
  · intro f y hm hns h14 hi hfind hx
    obtain ⟨hrun, hroom, hset⟩ : (s.advanceTo t).c0h cntl f = y.runC0h cntl f ∧ Room cntl 0 y ∧ Settled cntl y := c0h_runs hr hm
    clear_value y
    obtain ⟨hans, ⟨p, hp, hpay, hkey, hoff⟩, hresv⟩ := queryResv_answers (e := f) hroom hset hi hfind hx
    exact ⟨_, p, congrArg Host.Outcome.next (hrun.trans (runC0h_queries hns h14)), hans, hp, hpay, hkey, hoff, hresv⟩
  · intro f y hm hns hqid hq hunb hfree hpush
    obtain ⟨hrun, hroom, hset⟩ : (s.advanceTo t).c0h cntl f = y.runC0h cntl f ∧ Room cntl 0 y ∧ Settled cntl y := c0h_runs hr hm
    clear_value y
    obtain ⟨hans, r', hrest⟩ := rebindResv_answers (e := f) hroom hset hqid hq hunb hfree hpush
    exact ⟨_, r', congrArg Host.Outcome.next (hrun.trans (runC0h_rebinds hns)), hans, hrest⟩
  · intro f y hm hns hunb
    obtain ⟨hrun, hroom, hset⟩ : (s.advanceTo t).c0h cntl f = y.runC0h cntl f ∧ Room cntl 0 y ∧ Settled cntl y := c0h_runs hr hm
    clear_value y
    exact ⟨_, congrArg Host.Outcome.next (hrun.trans (runC0h_deletesUnbound hns)), deleteUnbound_answers (e := f) hroom hset hunb⟩
  · have fy := fetched_advanceTo_frame t cntl 0 (withAction 0 e) s
    refine ⟨_, congrArg Host.Outcome.next (c0h_waits (t := t) hr hm), ?_, fy.outbox (by decide), rfl⟩
    exact congrArg AdmState.resv (fy.adm (by decide))

end Sys2Proof.Proofs
end

section
/-!
SUPPORT. Commits of the pair: what a head answers its partner, and how an answer or its absence ends the command that asked.
-/

namespace Sys2Proof.Proofs

open Sys2Proof.Machine Sys2Proof.Safety Sys2Proof.Laws

/-! ### The head that is asked -/

theorem mirrors_advanceTo (t : Nat) (s : State) : (s.advanceTo t).mirrors = s.mirrors := by
  rw [advanceTo_eq]
  rfl

section
variable {t token : Nat} {c : PairChange} {s : State} (hm : s.mirrors = true) (htok : token ≠ 0)
include hm htok

/-- A head that mirrors judges what it is asked, and answers. -/
theorem pairCommitRequest_judged : Sys2Proof.Machine.exec (.pairCommitRequest t token c) s =
    .next ((if (s.advanceTo t).judge c = 0 then ((s.advanceTo t).applyChange c false 0 0 0).2 else s.advanceTo t).emit
      (.commitAnswer token ((s.advanceTo t).judge c))) := by
  have hm' : ¬ (!(s.advanceTo t).mirrors) = true := by rw [mirrors_advanceTo, hm]; decide
  have htok' : ¬ (decide (token = 0) && (s.advanceTo t).md.mode == .join) = true := by simp [htok]
  show execPairCommitRequest t token c s = _
  unfold execPairCommitRequest
  dsimp only
  rw [if_neg htok', if_neg hm', if_neg htok]

theorem pairCommitRequest_agrees (hj : (s.advanceTo t).judge c = 0) : Sys2Proof.Machine.exec (.pairCommitRequest t token c) s =
    .next (((s.advanceTo t).applyChange c false 0 0 0).2.emit (.commitAnswer token 0)) := by
  rw [pairCommitRequest_judged hm htok, hj, if_pos rfl]

end

/-- An answer that leaves after steps of the same head. -/
theorem emit_after {m : Nat} {s x : State} (f : Frame m s x) (hf : x.moor.fenced = false) (o : Out) : Sends o s (x.emit o) :=
  sends_before f ⟨[o], emit_sends hf, List.mem_singleton.2 rfl⟩

/-- A reservation that the partner's create makes here (R60). -/
theorem applyChange_resvCreate (i rate burst d : Nat) (pull : Bool) (s : State) :
    ∃ r, NMap.find (s.applyChange (.resvCreate i rate burst d pull) false 0 0 0).2.adm.resv i = some r ∧ r.rate = rate ∧ r.burst = burst ∧
      r.d = d ∧ r.pull = pull ∧ r.home = false ∧ r.dqn = 0 ∧ r.credit = burst :=
  ⟨_, find_put_self _ _ _, rfl, rfl, rfl, rfl, rfl, rfl, rfl⟩

theorem applyChange_dedupPolicy {v m : Nat} {n : Ns} {s : State} (hn : s.ns? v = some n) :
    (s.applyChange (.dedupPolicy v m) false 0 0 0).2.ns? v = some { n with dedup := m } := by
  have hnvq : (s.applyChange (.dedupPolicy v m) false 0 0 0).2.nvq = { s.nvq with ns := NMap.upd s.nvq.ns v (fun n => { n with dedup := m }) } := by
    unfold State.applyChange
    dsimp only
    rw [if_neg (by decide)]
    split <;> rfl
  unfold State.ns?
  rw [hnvq]
  show NMap.find (NMap.upd s.nvq.ns v _) v = _
  rw [find_upd, if_pos rfl, show NMap.find s.nvq.ns v = some n from hn]
  rfl

/-! ### The head that asked -/

/-- The state with a commit ended. -/
def withoutCommit (token : Nat) (s : State) : State :=
  { s with moor := { s.moor with commits := s.moor.commits.filter (fun x => x.token != token) } }

section
variable {cntl i rate burst d : Nat} {e : Sqe} {r : Resv} {y : State} (hroom : Room cntl 0 y) (hset : Settled cntl y)
include hroom hset

/-- A change of a reservation that is refused ends its command with the code (R62). -/
theorem endRefused_resvChange (code : Nat) :
    Answers cntl 0 e.cid 7 0x80 code y (y.endRefused (.resvChange i rate burst d) cntl e code) ∧
      Frame 4259998 y (y.endRefused (.resvChange i rate burst d) cntl e code) := by
  have fr := State.record_frame 0x2003 [code, (y.queueKey cntl (c0Qid e)).getD 0] y
  have hset' : Settled cntl (y.record 0x2003 [code, (y.queueKey cntl (c0Qid e)).getD 0]) := Settled.of_sqs hset (by rw [fr.nvq (by decide)])
  exact ⟨answers_before fr (complete_answers (hroom.of_frame fr (by decide) (by decide))),
    Frame.comp (complete_settled 0 e.cid 7 0x80 code 0 hset').1 rfl (Frame.comp fr rfl (Frame.refl y))⟩

/-- One that does not stand is taken back at the partner too. -/
theorem undo_endRefused (hr : NMap.find y.adm.resv i = some r) (code : Nat) :
    Answers cntl 0 e.cid 7 0x80 code y ((y.undo (.resvChange i rate burst d)).endRefused (.resvChange i rate burst d) cntl e code) ∧
      Sends (.commit 0 (.resvChange (partnerIndex i) r.rate r.burst r.d)) y
        ((y.undo (.resvChange i rate burst d)).endRefused (.resvChange i rate burst d) cntl e code) ∧
      Frame 4259998 y ((y.undo (.resvChange i rate burst d)).endRefused (.resvChange i rate burst d) cntl e code) := by
  have hundo : y.undo (.resvChange i rate burst d) = y.emit (.commit 0 (.resvChange (partnerIndex i) r.rate r.burst r.d)) := by
    unfold State.undo
    dsimp only
    rw [hr]
  rw [hundo]
  have fe := State.emit_frame (.commit 0 (.resvChange (partnerIndex i) r.rate r.burst r.d)) y
  have hsends : Sends (.commit 0 (.resvChange (partnerIndex i) r.rate r.burst r.d)) y (y.emit (.commit 0 (.resvChange (partnerIndex i) r.rate r.burst r.d))) :=
    emit_after (Frame.refl (m := 0) y) hroom.1 _
  have hroom' := hroom.of_frame fe (by decide) (by decide)
  have hset' : Settled cntl (y.emit (.commit 0 (.resvChange (partnerIndex i) r.rate r.burst r.d))) := Settled.of_sqs hset (by rw [emit_nvq])
  obtain ⟨hans, f⟩ := endRefused_resvChange (i := i) (rate := rate) (burst := burst) (d := d) (e := e) hroom' hset' code
  exact ⟨answers_before fe hans, sends_after hsends f, Frame.comp f rfl (Frame.comp fe rfl (Frame.refl y))⟩

/-- One that both heads agree to takes effect here, and ends its command. -/
theorem settleChange_resvChange (hr : NMap.find y.adm.resv i = some r) :
    Answers cntl 0 e.cid 0 0 0 y (y.settleChange (.resvChange i rate burst d) cntl e) ∧
      NMap.find (y.settleChange (.resvChange i rate burst d) cntl e).adm.resv i = some (r.changed rate burst d) ∧
      (y.settleChange (.resvChange i rate burst d) cntl e).moor = y.moor := by
  obtain ⟨hans, f⟩ := settleChange_answers (c := .resvChange i rate burst d) (e := e) rfl rfl hroom hset
  have happ : (applied (.resvChange i rate burst d) cntl e y).2 =
      (y.updResv i (fun r => r.changed rate burst d)).record 0x2001 [i, changeDqn (.resvChange i rate burst d) cntl e y, rate, burst, d] := rfl
  rw [happ] at f
  have fr := State.record_frame 0x2001 [i, changeDqn (.resvChange i rate burst d) cntl e y, rate, burst, d]
    (y.updResv i (fun r => r.changed rate burst d))
  refine ⟨hans, ?_, ?_⟩
  · rw [f.resv (by decide), fr.adm (by decide)]
    show NMap.find (NMap.upd y.adm.resv i _) i = _
    rw [find_upd, if_pos rfl, hr]
    rfl
  · rw [f.moor (by decide), fr.moor (by decide)]
    rfl

end

/-- A commit that ends leaves what a change is judged by. -/
theorem withoutCommit_judgeAgain (token : Nat) (c : PairChange) (s : State) : (withoutCommit token s).judgeAgain c = s.judgeAgain c := rfl

section
variable {t token code : Nat} {k : Commit} {s : State} (hk : s.moor.commits.find? (fun k => k.token == token) = some k)
include hk

theorem commit_advanceTo : (s.advanceTo t).moor.commits.find? (fun k => k.token == token) = some k := by rwa [advanceTo_moor]

theorem pairCommitAnswer_settles (hcode : code = 0) (hj : (s.advanceTo t).judgeAgain k.change = 0) :
    Sys2Proof.Machine.exec (.pairCommitAnswer t token code) s =
      .next ((withoutCommit token (s.advanceTo t)).settleChange k.change k.cntl k.cmd) := by
  show execPairCommitAnswer t token code s = _
  unfold execPairCommitAnswer
  dsimp only
  rw [commit_advanceTo hk]
  dsimp only
  rw [if_pos hcode]
  exact congrArg Host.Outcome.next (if_pos hj)

theorem pairCommitAnswer_undoes (hcode : code = 0) (hj : (s.advanceTo t).judgeAgain k.change ≠ 0) :
    Sys2Proof.Machine.exec (.pairCommitAnswer t token code) s =
      .next (((withoutCommit token (s.advanceTo t)).undo k.change).endRefused k.change k.cntl k.cmd ((s.advanceTo t).judgeAgain k.change)) := by
  show execPairCommitAnswer t token code s = _
  unfold execPairCommitAnswer
  dsimp only
  rw [commit_advanceTo hk]
  dsimp only
  rw [if_pos hcode]
  exact congrArg Host.Outcome.next (if_neg hj)

theorem pairCommitAnswer_refused (hcode : code ≠ 0) : Sys2Proof.Machine.exec (.pairCommitAnswer t token code) s =
    .next ((withoutCommit token (s.advanceTo t)).endRefused k.change k.cntl k.cmd code) := by
  show execPairCommitAnswer t token code s = _
  unfold execPairCommitAnswer
  dsimp only
  rw [commit_advanceTo hk]
  exact congrArg Host.Outcome.next (if_neg hcode)

theorem pairCommitTimeout_undoes (ht : Ticking t s) (hlate : k.tick + 10 * msTicks ≤ t) : Sys2Proof.Machine.exec (.pairCommitTimeout t token) s =
    .next (((withoutCommit token (s.advanceTo t)).undo k.change).endRefused k.change k.cntl k.cmd 8) := by
  obtain ⟨hrun, hclock, hnow⟩ := ht
  have hgo : ¬ (s.advanceTo t).time.now < k.tick + 10 * msTicks := by
    rw [advanceTo_now hrun hclock hnow]
    exact Nat.not_lt.2 hlate
  show execPairCommitTimeout t token s = _
  unfold execPairCommitTimeout
  dsimp only
  rw [commit_advanceTo hk]
  exact congrArg Host.Outcome.next (if_neg hgo)

omit hk in
/-- The state in which the command that asked ends: its commit has gone, its queue has room, and the reservation stands. -/
theorem withoutCommit_ready (hready : Ready k.cntl 0 s) (hset : Settled k.cntl s) :
    Room k.cntl 0 (withoutCommit token (s.advanceTo t)) ∧ Settled k.cntl (withoutCommit token (s.advanceTo t)) ∧
      (withoutCommit token (s.advanceTo t)).adm = s.adm ∧ (withoutCommit token (s.advanceTo t)).outbox = s.outbox ∧
      (withoutCommit token (s.advanceTo t)).moor.commits = s.moor.commits.filter (fun x => x.token != token) := by
  refine ⟨(ready_room (ready_advanceTo hready)).congr rfl rfl rfl, ?_, ?_, ?_, ?_⟩
  · exact Settled.of_sqs hset (congrArg NvqState.sqs (advanceTo_nvq t s))
  · exact advanceTo_adm t s
  · exact (State.advanceTo_frame t s).outbox (by decide)
  · exact congrArg (fun m : MoorState => m.commits.filter (fun x => x.token != token)) (advanceTo_moor t s)

end

theorem sends_of_outbox {o : Out} {s x u : State} (h : Sends o x u) (e : x.outbox = s.outbox) : Sends o s u := by
  obtain ⟨new, hnew, hmem⟩ := h
  exact ⟨new, by rw [hnew, e], hmem⟩

/-- Settles O39. -/
theorem changesTakeEffectOnBothHeads : Obligations.ChangesTakeEffectOnBothHeads := by
  refine ⟨fun t token c s hm htok hf => ⟨fun hj => ?_, fun i rate burst d pull hc hj => ?_, fun v m n hc hj hn => ?_⟩,
    fun t token code i rate burst d k r s hk hchange hr hready hset => ?_,
    fun t token i rate burst d k r s ht hk hchange hlate hr hready hset => ?_⟩
  · have fe := State.emit_frame (.commitAnswer token ((s.advanceTo t).judge c)) (s.advanceTo t)
    refine ⟨_, (pairCommitRequest_judged hm htok).trans (by rw [if_neg hj]), emit_after (State.advanceTo_frame t s) (by rwa [advanceTo_moor]) _,
      ?_, ?_⟩
    · rw [fe.adm (by decide), advanceTo_adm]
    · rw [emit_nvq, advanceTo_nvq]
  · subst hc
    obtain ⟨r, hr, hrest⟩ := applyChange_resvCreate i rate burst d pull (s.advanceTo t)
    have fapp := State.applyChange_frame (.resvCreate i rate burst d pull) false 0 0 0 (s.advanceTo t)
    have hfenced := applyChange_fenced (.resvCreate i rate burst d pull) false 0 0 0 (s.advanceTo t)
    refine ⟨_, r, pairCommitRequest_agrees hm htok hj, sends_before (State.advanceTo_frame t s) (emit_after fapp ?_ _), ?_, hrest⟩
    · rw [hfenced, advanceTo_moor]
      exact hf
    · rw [(State.emit_frame _ _).adm (by decide)]
      exact hr
  · subst hc
    have hns := applyChange_dedupPolicy (m := m) (s := s.advanceTo t) (n := n) (v := v) (by unfold State.ns?; rw [advanceTo_nvq]; exact hn)
    have fapp := State.applyChange_frame (.dedupPolicy v m) false 0 0 0 (s.advanceTo t)
    have hfenced := applyChange_fenced (.dedupPolicy v m) false 0 0 0 (s.advanceTo t)
    refine ⟨_, pairCommitRequest_agrees hm htok hj, sends_before (State.advanceTo_frame t s) (emit_after fapp ?_ _), ?_⟩
    · rw [hfenced, advanceTo_moor]
      exact hf
    · unfold State.ns?
      rw [emit_nvq]
      exact hns
  · have hsettles := pairCommitAnswer_settles (t := t) (code := code) hk
    have hundoes := pairCommitAnswer_undoes (t := t) (code := code) hk
    have hrefused := pairCommitAnswer_refused (t := t) (code := code) hk
    obtain ⟨hroom, hset', hadm, hbox, hcommits⟩ := withoutCommit_ready (token := token) (t := t) hready hset
    rw [hchange] at hsettles hundoes hrefused ⊢
    generalize (s.advanceTo t).judgeAgain (.resvChange i rate burst d) = again at hsettles hundoes ⊢
    generalize withoutCommit token (s.advanceTo t) = y at hsettles hundoes hrefused hroom hset' hadm hbox hcommits
    rw [← hadm] at hr ⊢
    refine ⟨fun hcode hj => ?_, fun hcode hj => ?_, fun hcode => ?_⟩
    · obtain ⟨hans, hfind, hmoor⟩ := settleChange_resvChange (rate := rate) (burst := burst) (d := d) (e := k.cmd) hroom hset' hr
      exact ⟨_, hsettles hcode hj, answers_of_outbox hans hbox, hfind, by rw [hmoor, hcommits]⟩
    · obtain ⟨hans, hsends, f⟩ := undo_endRefused (rate := rate) (burst := burst) (d := d) (e := k.cmd) hroom hset' hr again
      exact ⟨_, hundoes hcode hj, answers_of_outbox hans hbox, sends_of_outbox hsends hbox, by rw [f.adm (by decide)]⟩
    · obtain ⟨hans, f⟩ := endRefused_resvChange (i := i) (rate := rate) (burst := burst) (d := d) (e := k.cmd) hroom hset' code
      exact ⟨_, hrefused hcode, answers_of_outbox hans hbox, by rw [f.adm (by decide)], by rw [f.moor (by decide), hcommits]⟩
  · have hundoes := pairCommitTimeout_undoes hk ht hlate
    obtain ⟨hroom, hset', hadm, hbox, hcommits⟩ := withoutCommit_ready (token := token) (t := t) hready hset
    rw [hchange] at hundoes
    generalize withoutCommit token (s.advanceTo t) = y at hundoes hroom hset' hadm hbox hcommits
    rw [← hadm] at hr ⊢
    obtain ⟨hans, hsends, f⟩ := undo_endRefused (rate := rate) (burst := burst) (d := d) (e := k.cmd) hroom hset' hr 8
    exact ⟨_, hundoes, answers_of_outbox hans hbox, sends_of_outbox hsends hbox, by rw [f.adm (by decide)], by rw [f.moor (by decide), hcommits]⟩

end Sys2Proof.Proofs
end

section
/-!
SUPPORT. C1h Snapshot, action by action (R131 to R136).
-/

namespace Sys2Proof.Proofs

open Sys2Proof.Machine Sys2Proof.Safety Sys2Proof.Laws

/-! ### The command -/

section
variable {a : Nat} {e : Sqe} (h : c1Action e ≤ 4)
include h

theorem withC1Action_eq : withC1Action a e = { e with opcode := 0xC1, dw10 := (e.dw10 &&& ~~~(0xF#32)) ||| BitVec.ofNat 32 a } :=
  if_neg (Nat.not_lt.2 h)

theorem withC1Action_nsid : (withC1Action a e).nsid = e.nsid := by rw [withC1Action_eq h]

theorem withC1Action_cid : (withC1Action a e).cid = e.cid := by rw [withC1Action_eq h]

theorem withC1Action_buffer : dkeyOf (withC1Action a e) = dkeyOf e ∧ dofsOf (withC1Action a e) = dofsOf e := by
  rw [withC1Action_eq h]
  exact ⟨rfl, rfl⟩

theorem c1Action_withC1Action (ha : a ≤ 4) : c1Action (withC1Action a e) = a := by
  rw [withC1Action_eq h]
  show bits ((e.dw10 &&& ~~~(0xF#32)) ||| BitVec.ofNat 32 a) 3 0 = a
  have hclear : bits (~~~(0xF#32)) 3 0 = 0 := by decide
  have hkept : bits (BitVec.ofNat 32 a) 3 0 = a := by interval_cases a <;> decide
  rw [bits_or, bits_and, hclear, hkept, Nat.and_zero, Nat.zero_or]

end

/-- What runs for an action of a volume that is there (Table 6.4). -/
def c1Run (cntl : Nat) (e : Sqe) (n : Ns) (s : State) : Nat → State
  | 0 => s.snapCreate cntl e n
  | 1 => s.snapDelete cntl e n
  | 2 => s.snapClone cntl e n
  | 3 => s.snapQuery cntl e n
  | 4 => s.snapList cntl e n
  | _ => s.refuseC1h cntl e 1

theorem runC1h_acts {cntl : Nat} {e : Sqe} {n : Ns} {s : State} (hn : s.featureNs e.nsid = some n) :
    s.runC1h cntl e = c1Run cntl e n s (c1Action e) := by
  unfold State.runC1h c1Run
  rw [hn] <;> rfl

/-! ### Snapshots and clones at a head without a partner -/

/-- A snapshot as it is taken. -/
def takenSnap (tick epoch : Nat) : Snap :=
  { tick := tick, epoch := epoch, readable := false, reclaim := false, view := none, repl := false,
    exclBytes := 0, sharedBytes := 0, exclGrains := 0, sharedGrains := 0, acctTick := tick }

/-- A namespace with a snapshot taken (R131). -/
def snappedNs (n : Ns) (id : Nat) (m : NMap MapEnt) (tick : Nat) : Ns :=
  { n with epoch := n.epoch + 1, snaps := NMap.put n.snaps id (takenSnap tick (n.epoch + 1)), frozen := NMap.put n.frozen id m }

section
variable {cntl vol id : Nat} {e : Sqe} {n : Ns} {y : State} (hroom : Room cntl 0 y) (hset : Settled cntl y) (hm : y.mirrors = false)
  (hn : y.ns? vol = some n)
include hroom hset hm hn

/-- A create raises the epoch and freezes the map (R131). -/
theorem proposeSnap_creates : Answers cntl 0 e.cid 0 0 id y (y.propose (.snapCreate vol id) cntl e) ∧
    ∃ m x, (y.propose (.snapCreate vol id) cntl e).ns? vol = some m ∧ m.epoch = n.epoch + 1 ∧
      NMap.find m.frozen id = some (y.volMap vol) ∧ NMap.find m.snaps id = some x ∧ x.tick = y.time.now ∧ x.epoch = n.epoch + 1 ∧
      x.reclaim = false := by
  obtain ⟨hans, f⟩ := propose_settles (c := .snapCreate vol id) (e := e) rfl rfl hm hroom hset
  refine ⟨hans, ?_⟩
  let z := withChange (.snapCreate vol id) y
  let d := z.defineSnap vol id z.time.now (n.epoch + 1) (n.epoch + 1) false
  have htake : z.takeSnap vol id false = d.snapsReady vol := by
    unfold State.takeSnap
    rw [show z.ns? vol = some n from hn]
  have hns : (applied (.snapCreate vol id) cntl e z).2.nvq = (d.snapsReady vol).nvq := by
    rw [← htake]
    exact (State.record_frame _ _ _).nvq (by decide)
  have hq : d.ns? vol = some (snappedNs n id (y.volMap vol) y.time.now) := by
    show NMap.find (NMap.upd (z.addRefs (z.volMap vol)).nvq.ns vol _) vol = _
    rw [(State.addRefs_frame _ z).nvq (by decide), find_upd, if_pos rfl, show NMap.find z.nvq.ns vol = some n from hn]
    rfl
  have hx : NMap.find (snappedNs n id (y.volMap vol) y.time.now).snaps id = some (takenSnap y.time.now (n.epoch + 1)) := find_put_self _ _ _
  obtain ⟨m, hm', hcore⟩ := (snapsReady_marked vol d).ns hq
  obtain ⟨hepoch', hfrozen', -, -, -, -, -, hsnaps⟩ := core_eq hcore
  have hsnap := hsnaps id
  rw [hx, Option.map_some] at hsnap
  obtain ⟨x', hx', hshape⟩ := Option.map_eq_some_iff.1 hsnap
  refine ⟨m, x', ?_, hepoch', (by rw [hfrozen']; exact find_put_self _ _ _), hx', congrArg Snap.tick hshape, congrArg Snap.epoch hshape,
    congrArg Snap.reclaim hshape⟩
  unfold State.ns?
  rw [f.ns (by decide), hns]
  exact hm'

/-- A delete leaves the snapshot to reclaim (R134). -/
theorem proposeSnap_deletes {x : Snap} (hx : NMap.find n.snaps id = some x) :
    Answers cntl 0 e.cid 0 0 0 y (y.propose (.snapDelete vol id) cntl e) ∧
      ∃ m, (y.propose (.snapDelete vol id) cntl e).ns? vol = some m ∧ NMap.find m.snaps id = some { x with reclaim := true } := by
  obtain ⟨hans, f⟩ := propose_settles (c := .snapDelete vol id) (e := e) rfl rfl hm hroom hset
  have hns : (applied (.snapDelete vol id) cntl e (withChange (.snapDelete vol id) y)).2.nvq =
      { y.nvq with ns := NMap.upd y.nvq.ns vol (fun n => { n with snaps := NMap.upd n.snaps id (fun x => { x with reclaim := true }) }) } :=
    (State.record_frame _ _ _).nvq (by decide)
  refine ⟨hans, { n with snaps := NMap.upd n.snaps id (fun x => { x with reclaim := true }) }, ?_, ?_⟩
  · unfold State.ns?
    rw [f.ns (by decide), hns]
    show NMap.find (NMap.upd y.nvq.ns vol _) vol = _
    rw [find_upd, if_pos rfl, show NMap.find y.nvq.ns vol = some n from hn]
    rfl
  · show NMap.find (NMap.upd n.snaps id _) id = _
    rw [find_upd, if_pos rfl, hx]
    rfl

/-- A clone is a new namespace of the snapshot (R133). -/
theorem proposeSnap_clones {v : Nat} {ro : Bool} (hv : v ≠ vol) :
    Answers cntl 0 e.cid 0 0 (v + 1) y (y.propose (.snapClone vol id v ro) cntl e) ∧
      ∃ m, (y.propose (.snapClone vol id v ro) cntl e).ns? v = some m ∧ m.cloneOf = some (vol, id) ∧ m.ro = ro ∧ m.units = n.units ∧
        m.lbaf = n.lbaf ∧ m.keyslot = n.keyslot := by
  obtain ⟨hans, f⟩ := propose_settles (c := .snapClone vol id v ro) (e := e) rfl rfl hm hroom hset
  refine ⟨hans, ?_⟩
  let z := withChange (.snapClone vol id v ro) y
  have hns : (applied (.snapClone vol id v ro) cntl e z).2.nvq = (z.makeClone vol id v ro).nvq := (State.record_frame _ _ _).nvq (by decide)
  have hclone : ∃ m, (z.makeClone vol id v ro).ns? v = some m ∧ m.cloneOf = some (vol, id) ∧ m.ro = ro ∧ m.units = n.units ∧
      m.lbaf = n.lbaf ∧ m.keyslot = n.keyslot := by
    unfold State.makeClone
    rw [show z.ns? vol = some n from hn]
    dsimp only
    generalize hx : (if ro = true then _ else _ : State) = x
    have hput : ∃ m, x.ns? v = some m ∧ m.cloneOf = some (vol, id) ∧ m.ro = ro ∧ m.units = n.units ∧ m.lbaf = n.lbaf ∧
        m.keyslot = n.keyslot := by
      rw [← hx]
      split
      · exact ⟨_, (find_upd (NMap.put z.nvq.ns v _) vol _ v).trans ((if_neg hv.symm).trans (find_put_self _ _ _)), rfl, rfl, rfl, rfl, rfl⟩
      · exact ⟨_, find_put_self _ _ _, rfl, rfl, rfl, rfl, rfl⟩
    obtain ⟨m, hm', hrest⟩ := hput
    have hopen (ready : Bool) : ∃ m, (if ready = true then x.openClones vol id else x).ns? v = some m ∧ m.cloneOf = some (vol, id) ∧
        m.ro = ro ∧ m.units = n.units ∧ m.lbaf = n.lbaf ∧ m.keyslot = n.keyslot := by
      cases ready
      · exact ⟨m, hm', hrest⟩
      · obtain ⟨m', hm'', hcore⟩ := (openClones_marked vol id x).ns hm'
        obtain ⟨-, -, h1, h2, h3, h4, h5, -⟩ := core_eq hcore
        obtain ⟨g1, g2, g3, g4, g5⟩ := hrest
        exact ⟨m', hm'', h1.trans g1, h2.trans g2, h3.trans g3, h4.trans g4, h5.trans g5⟩
    exact hopen _
  obtain ⟨m, hm', hrest⟩ := hclone
  refine ⟨m, ?_, hrest⟩
  unfold State.ns?
  rw [f.ns (by decide), hns]
  exact hm'

end

/-! ### The actions -/

theorem refuseC1h_answers {cntl code : Nat} {e : Sqe} {s : State} (h : Room cntl 0 s) :
    Answers cntl 0 e.cid 0 0x02 code s (s.refuseC1h cntl e code) :=
  answers_before (State.record_frame _ _ s) (completeAdmin_answers (h.of_frame (State.record_frame _ _ s) (by decide) (by decide)))

theorem snap_there {n : Ns} {id : Nat} {x : Snap} (hx : NMap.find n.snaps id = some x) (hr : x.reclaim = false) : n.snap? id = some x := by
  unfold Ns.snap?
  rw [hx]
  exact if_neg (by simp [hr])

section
variable {cntl : Nat} {e : Sqe} {n : Ns} {s : State}

theorem snapCreate_proposes {id : Nat} (hid : firstFree 0 1024 (s.snapTaken (volOf e.nsid) n) = some id)
    (hfew : (s.nvq.ns.map (fun p => p.2.snaps.length)).sum < 262144) :
    s.snapCreate cntl e n = s.propose (.snapCreate (volOf e.nsid) id) cntl e := by
  unfold State.snapCreate
  dsimp only
  rw [hid]
  exact if_neg (Nat.not_le.2 hfew)

variable {x : Snap} (hx : n.snap? (c1SnapId e) = some x)
include hx

theorem snapDelete_viewed (hview : s.viewAttached (volOf e.nsid) (c1SnapId e) = true) : s.snapDelete cntl e n = s.refuseC1h cntl e 5 := by
  unfold State.snapDelete
  dsimp only
  rw [hx, Option.isNone_some, if_neg Bool.false_ne_true, if_pos hview]

theorem snapDelete_proposes (hview : s.viewAttached (volOf e.nsid) (c1SnapId e) = false) :
    s.snapDelete cntl e n = s.propose (.snapDelete (volOf e.nsid) (c1SnapId e)) cntl e := by
  unfold State.snapDelete
  dsimp only
  rw [hx, Option.isNone_some, if_neg Bool.false_ne_true, hview, if_neg Bool.false_ne_true]

theorem snapClone_proposes {v : Nat} (hpod : s.image.podPairs = []) (hv : s.freeVol = some v) :
    s.snapClone cntl e n = s.propose (.snapClone (volOf e.nsid) (c1SnapId e) v (c1Ro e)) cntl e := by
  unfold State.snapClone
  dsimp only
  rw [hx, Option.isNone_some, if_neg Bool.false_ne_true, askBlock_unpodded hpod, hv]

end

theorem snapBytes_length (id : Nat) (view : Bool) (x : Snap) : (snapBytes id view x).length = 64 := by
  unfold snapBytes
  simp only [List.length_append, leBytes_length]

/-- Data for the host of an admin command, and its success. -/
theorem adminData_success {cntl : Nat} {e : Sqe} {w : Session} {y : State} (hroom : Room cntl 0 y) (hset : Settled cntl y)
    (hw : y.session? (y.ctrlSession cntl) = some w) (d : List Byte) :
    Answers cntl 0 e.cid 0 0 0 y ((y.adminData cntl e d).completeAdmin cntl e 0 0 0) ∧
      ∃ p, Queued (y.ctrlSession cntl) ((y.adminData cntl e d).completeAdmin cntl e 0 0 0) p ∧ p.payload = d.take 8192 ∧
        p.key = dkeyOf e ∧ p.offset = dofsOf e := by
  have hnvq := (State.adminData_frame cntl e d y).nvq (by decide)
  obtain ⟨hans, ⟨p, hp, -, hkey, hoff, hpay⟩, -⟩ := adminData_sent hroom hset hw d (Frame.refl _) (by rw [hnvq]) (by rw [hnvq]) (by rw [hnvq])
  exact ⟨hans, p, hp, hpay, hkey, hoff⟩

section
variable {cntl : Nat} {e : Sqe} {n : Ns} {w : Session} {y : State} (hroom : Room cntl 0 y)
include hroom

theorem snapQuery_unknown (hx : NMap.find n.snaps (c1SnapId e) = none) : Answers cntl 0 e.cid 0 0x02 2 y (y.snapQuery cntl e n) := by
  unfold State.snapQuery
  dsimp only
  rw [hx]
  exact refuseC1h_answers hroom

variable (hset : Settled cntl y) (hw : y.session? (y.ctrlSession cntl) = some w)
include hset hw

/-- A query sends the snapshot's accounting as it stands (R135, R136). -/
theorem snapQuery_answers {x : Snap} (hx : NMap.find n.snaps (c1SnapId e) = some x) :
    Answers cntl 0 e.cid 0 0 0 y (y.snapQuery cntl e n) ∧ ∃ p, Queued (y.ctrlSession cntl) (y.snapQuery cntl e n) p ∧
      p.payload = snapBytes (c1SnapId e) (y.viewAttached (volOf e.nsid) (c1SnapId e)) (y.account (volOf e.nsid) (c1SnapId e) n x) := by
  unfold State.snapQuery
  dsimp only
  rw [hx]
  dsimp only
  generalize hb : snapBytes (c1SnapId e) (y.viewAttached (volOf e.nsid) (c1SnapId e)) (y.account (volOf e.nsid) (c1SnapId e) n x) = b
  have hlen : b.length ≤ 8192 := by
    rw [← hb, snapBytes_length]
    decide
  generalize y.account (volOf e.nsid) (c1SnapId e) n x = acct at hb ⊢
  obtain ⟨hans, p, hp, hpay, -, -⟩ := adminData_success (e := e) (w := w)
    (y := y.updNs (volOf e.nsid) (fun n => { n with snaps := NMap.put n.snaps (c1SnapId e) acct }))
    (room_queuesKept hroom (updNs_queuesKept _ _ y) rfl) hset hw b
  rw [List.take_of_length_le hlen] at hpay
  exact ⟨answers_of_outbox hans rfl, p, hp, hpay⟩

/-- A list sends a page of 4,096 bytes (R136). -/
theorem snapList_answers : Answers cntl 0 e.cid 0 0 0 y (y.snapList cntl e n) ∧ ∃ p, Queued (y.ctrlSession cntl) (y.snapList cntl e n) p ∧
    p.payload.length = 4096 ∧ p.key = dkeyOf e ∧ p.offset = dofsOf e := by
  unfold State.snapList
  dsimp only
  generalize hl : List.flatten _ = l
  obtain ⟨hans, p, hp, hpay, hkey, hoff⟩ := adminData_success (e := e) hroom hset hw ((l ++ padBytes 4096 0).take 4096)
  refine ⟨hans, p, hp, ?_, hkey, hoff⟩
  rw [hpay, List.take_take, List.length_take, List.length_append]
  unfold padBytes
  rw [List.length_replicate]
  omega

end

/-- A C1h of a volume that is there is run by its action. -/
theorem c1h_acts {a t cntl : Nat} {e : Sqe} {n : Ns} {s : State} (he : c1Action e ≤ 4) (ha : a ≤ 4) (hr : Runs cntl (withC1Action a e) s)
    (hn : ((s.advanceTo t).fetched cntl 0 (withC1Action a e)).featureNs e.nsid = some n) :
    (s.advanceTo t).admin cntl (withC1Action a e) false (State.runC1h cntl (withC1Action a e)) =
      c1Run cntl (withC1Action a e) n ((s.advanceTo t).fetched cntl 0 (withC1Action a e)) a ∧
    Room cntl 0 ((s.advanceTo t).fetched cntl 0 (withC1Action a e)) ∧ Settled cntl ((s.advanceTo t).fetched cntl 0 (withC1Action a e)) := by
  obtain ⟨hrun, hrest⟩ := runs_admin (t := t) (always := false) (run := State.runC1h cntl (withC1Action a e)) hr
  rw [← withC1Action_nsid (a := a) he] at hn
  rw [hrun, runC1h_acts hn, c1Action_withC1Action he ha]
  exact ⟨rfl, hrest⟩

/-! ### Reclaim -/

theorem reclaimDone_gone {t vol id : Nat} {r : Reclaim} {s : State}
    (hr : s.nvq.reclaims.find? (fun r => r.vol == vol && r.id == id) = some r) :
    Sys2Proof.Machine.exec (.snapshotReclaimDone t vol id) s = .next ((s.advanceTo t).endReclaim r) := by
  show execSnapshotReclaimDone t vol id s = _
  unfold execSnapshotReclaimDone
  dsimp only
  rw [advanceTo_nvq, hr]

theorem endReclaim_nvq (r : Reclaim) (s : State) :
    (s.endReclaim r).nvq = { s.nvq with reclaims := s.nvq.reclaims.filter (fun x => x != r) } := by
  unfold State.endReclaim
  dsimp only
  rw [(State.record_frame _ _ _).nvq (by decide)]
  dsimp only
  rw [(State.releaseRefs_frame _ _).nvq (by decide)]

/-- A reclaim's end takes the snapshot out of its volume (R134). -/
theorem reclaimDone_ns {t vol id : Nat} {n : Ns} {x : Snap} {s : State}
    (hnone : s.nvq.reclaims.find? (fun r => r.vol == vol && r.id == id) = none) (hn : s.ns? vol = some n) (hx : NMap.find n.snaps id = some x)
    (hrec : x.reclaim = true) : ∃ u, Sys2Proof.Machine.exec (.snapshotReclaimDone t vol id) s = .next u ∧
      u.ns? vol = some { n with snaps := NMap.del n.snaps id, frozen := NMap.del n.frozen id } := by
  have hn' : (s.advanceTo t).ns? vol = some n := by
    unfold State.ns?
    rwa [advanceTo_nvq]
  have hgo : ¬ (!x.reclaim) = true := by rw [hrec]; decide
  let z := (s.advanceTo t).releaseRefs (NMap.getD n.frozen id [])
  let w := z.updNs vol (fun n => { n with snaps := NMap.del n.snaps id, frozen := NMap.del n.frozen id })
  refine ⟨w.record 0x5403 [vol, id, ((s.advanceTo t).account vol id n x).exclBytes], ?_, ?_⟩
  · show execSnapshotReclaimDone t vol id s = _
    unfold execSnapshotReclaimDone
    dsimp only
    rw [show (s.advanceTo t).nvq.reclaims.find? (fun r => r.vol == vol && r.id == id) = none by rw [advanceTo_nvq]; exact hnone, hn']
    dsimp only
    rw [hx]
    exact congrArg Host.Outcome.next (if_neg hgo)
  · unfold State.ns?
    rw [(State.record_frame _ _ w).nvq (by decide)]
    show NMap.find (NMap.upd z.nvq.ns vol _) vol = _
    rw [(State.releaseRefs_frame _ _).nvq (by decide), find_upd, if_pos rfl, show NMap.find (s.advanceTo t).nvq.ns vol = some n from hn']
    rfl

/-- Settles O40. -/
theorem snapshotsAreTakenClonedAndDeleted : Obligations.SnapshotsAreTakenClonedAndDeleted := by
  refine ⟨fun t cntl id n e s hr he => ?_, fun t cntl n x e s hr he => ?_, fun t cntl v n x e s hr he => ?_, fun t cntl n x w e s hr he => ?_,
    fun t cntl n w e s hr he => ?_, fun t vol id s => ⟨fun r hr => ?_, fun n x hnone hn hx hrec => reclaimDone_ns hnone hn hx hrec⟩⟩
  · intro y hn hid hfew
    obtain ⟨hrun, hroom, hset⟩ : _ = c1Run cntl (withC1Action 0 e) n y 0 ∧ Room cntl 0 y ∧ Settled cntl y := c1h_acts he (by decide) hr hn
    clear_value y
    rw [← withC1Action_nsid (a := 0) he] at hn hid ⊢
    rw [← withC1Action_cid (a := 0) he]
    have hpropose : y.snapCreate cntl (withC1Action 0 e) n = _ := snapCreate_proposes hid hfew
    replace hrun := hrun.trans hpropose
    refine ⟨fun hm => ⟨_, congrArg Host.Outcome.next hrun, propose_sends hroom hm⟩, fun hm => ?_⟩
    obtain ⟨hans, m, x, hrest⟩ := proposeSnap_creates (e := withC1Action 0 e) (id := id) hroom hset hm (featureNs_ns hn)
    exact ⟨_, m, x, congrArg Host.Outcome.next hrun, hans, hrest⟩
  · intro f y hn hx hrec
    obtain ⟨hrun, hroom, hset⟩ : _ = c1Run cntl f n y 1 ∧ Room cntl 0 y ∧ Settled cntl y := c1h_acts he (by decide) hr hn
    clear_value y
    rw [← withC1Action_nsid (a := 1) he] at hn ⊢
    rw [← withC1Action_cid (a := 1) he]
    have hthere := snap_there hx hrec
    refine ⟨fun hview => ?_, fun hview hm => ?_, fun hview hm => ?_⟩
    · exact ⟨_, congrArg Host.Outcome.next (hrun.trans (snapDelete_viewed hthere hview)), refuseC1h_answers hroom⟩
    · exact ⟨_, congrArg Host.Outcome.next (hrun.trans (snapDelete_proposes hthere hview)), propose_sends hroom hm⟩
    · obtain ⟨hans, m, hrest⟩ := proposeSnap_deletes (e := f) hroom hset hm (featureNs_ns hn) hx
      exact ⟨_, m, congrArg Host.Outcome.next (hrun.trans (snapDelete_proposes hthere hview)), hans, hrest⟩
  · intro f y hn hx hrec hpod hv hne
    obtain ⟨hrun, hroom, hset⟩ : _ = c1Run cntl f n y 2 ∧ Room cntl 0 y ∧ Settled cntl y := c1h_acts he (by decide) hr hn
    clear_value y
    rw [← withC1Action_nsid (a := 2) he] at hn hne ⊢
    rw [← withC1Action_cid (a := 2) he]
    replace hrun := hrun.trans (snapClone_proposes (snap_there hx hrec) hpod hv)
    refine ⟨fun hm => ⟨_, congrArg Host.Outcome.next hrun, propose_sends hroom hm⟩, fun hm => ?_⟩
    obtain ⟨hans, m, hrest⟩ := proposeSnap_clones (e := f) (id := c1SnapId f) (ro := c1Ro f) hroom hset hm (featureNs_ns hn) hne
    exact ⟨_, m, congrArg Host.Outcome.next hrun, hans, hrest⟩
  · intro f y hn hw
    obtain ⟨hrun, hroom, hset⟩ : _ = c1Run cntl f n y 3 ∧ Room cntl 0 y ∧ Settled cntl y := c1h_acts he (by decide) hr hn
    clear_value y
    rw [← withC1Action_nsid (a := 3) he, ← withC1Action_cid (a := 3) he]
    refine ⟨fun hx => ⟨_, congrArg Host.Outcome.next hrun, snapQuery_unknown hroom hx⟩, fun hx => ?_⟩
    obtain ⟨hans, p, hp, hpay⟩ := snapQuery_answers (e := f) hroom hset hw hx
    exact ⟨_, p, congrArg Host.Outcome.next hrun, hans, hp, hpay⟩
  · intro y hn hw
    obtain ⟨hrun, hroom, hset⟩ : _ = c1Run cntl (withC1Action 4 e) n y 4 ∧ Room cntl 0 y ∧ Settled cntl y := c1h_acts he (by decide) hr hn
    clear_value y
    obtain ⟨hkey, hoff⟩ := withC1Action_buffer (a := 4) he
    rw [← withC1Action_cid (a := 4) he, ← hkey, ← hoff]
    obtain ⟨hans, p, hp, hrest⟩ := snapList_answers (e := withC1Action 4 e) (n := n) hroom hset hw
    exact ⟨_, p, congrArg Host.Outcome.next hrun, hans, hp, hrest⟩
  · refine ⟨_, reclaimDone_gone hr, ?_⟩
    rw [endReclaim_nvq, advanceTo_nvq]

end Sys2Proof.Proofs
end

section
/-!
SUPPORT. Background work on the flash: fold, checkpoints, GC and patrol (R91, R92, R154, R165, R167).
-/

namespace Sys2Proof.Proofs

open Sys2Proof.Machine Sys2Proof.Safety Sys2Proof.Laws

/-! ### Stripes -/

/-- A stripe that is changed is found changed. -/
theorem stripe_updStripe {f : Stripe → Stripe} (hf : ∀ x, (f x).band = x.band ∧ (f x).idx = x.idx) (band i : Nat) (s : State) :
    (s.updStripe band i f).stripe? band i = (s.stripe? band i).map f := by
  unfold State.stripe? State.updStripe
  dsimp only
  generalize s.path.stripes = l
  induction l with
  | nil => rfl
  | cons x l ih =>
    by_cases h : x.band = band ∧ x.idx = i
    · have h' : (f x).band = band ∧ (f x).idx = i := ⟨(hf x).1.trans h.1, (hf x).2.trans h.2⟩
      rw [List.map_cons, if_pos h, List.find?_cons_of_pos (by simp [h'.1, h'.2]), List.find?_cons_of_pos (by simp [h.1, h.2])]
      rfl
    · have h' : (x.band == band && x.idx == i) = false := by simpa using h
      simp only [List.map_cons, if_neg h, List.find?_cons, h']
      exact ih

/-- What fold reads of the data path. -/
theorem stripe_of_stripes {s u : State} (h : u.path.stripes = s.path.stripes) (band i : Nat) : u.stripe? band i = s.stripe? band i := by
  unfold State.stripe?
  rw [h]

/-- The data path without its bands. -/
def offBands (p : PathState) : PathState := { p with bands := [], nextBand := 0 }

theorem fillBand_offBands (n : Nat) (s : State) : offBands (s.fillBand n).path = offBands s.path := by
  unfold State.fillBand
  split
  · exact foldl_keep (fun q => offBands q.path) (fun q d => by unfold State.giveBlock; rfl) _ s
  · rfl

/-- Choosing where a band folds touches the bands only. -/
theorem denseFor_offBands (n : Nat) (b : Band) (s : State) : offBands (s.denseFor n b).2.path = offBands s.path := by
  unfold State.denseFor
  dsimp only
  split
  · rfl
  · split
    · rfl
    · exact fillBand_offBands _ _

theorem of_offBands {p q : PathState} (h : offBands p = offBands q) :
    p.stripes = q.stripes ∧ p.map = q.map ∧ p.stored = q.stored ∧ p.reads = q.reads := by
  have hstripes := congrArg PathState.stripes h
  have hmap := congrArg PathState.map h
  have hstored := congrArg PathState.stored h
  have hreads := congrArg PathState.reads h
  exact ⟨hstripes, hmap, hstored, hreads⟩

/-! ### Fold -/

section
variable {t band stripe : Nat} {st : StreamId} {x : Stripe} {b : Band} {s : State}

/-- What booking the fold of a stripe's strips does. -/
def bookFold (b : Band) (softPages : List Nat) (s : State) (i : Nat) : State :=
  match b.dieOf i, (b.portOf i).bind s.portModel with
  | some die, some m => s.bookWork bgSeq die (m.tRead + m.tFold) ((4 + (softPages.filter (fun p => p / 4 == i)).length) * m.tXfer)
  | _, _ => s

theorem bookFold_path (b : Band) (softPages : List Nat) (s : State) (i : Nat) : (bookFold b softPages s i).path = s.path := by
  unfold bookFold
  split
  · exact (State.bookWork_frame _ _ _ _ s).path (by decide)
  · rfl

/-- A fold of a stripe, with the place its band folds to (R91). -/
def foldedTo (band stripe : Nat) (b : Band) (s : State) : State :=
  let r := s.denseFor band b
  ({ r.2 with flash := { r.2.flash with foldNext := (b.slot + 1) % 128 } }).updStripe band stripe
    (fun x => { x with dense := some (r.1.1, (r.1.2 + stripe) * (b.k * 65536)) })

theorem foldedTo_path (band stripe : Nat) (b : Band) (s : State) :
    (foldedTo band stripe b s).stripe? band stripe = (s.stripe? band stripe).map (fun x =>
      { x with dense := some ((s.denseFor band b).1.1, ((s.denseFor band b).1.2 + stripe) * (b.k * 65536)) }) ∧
    (foldedTo band stripe b s).path.map = s.path.map ∧ (foldedTo band stripe b s).path.stored = s.path.stored ∧
    (foldedTo band stripe b s).path.reads = s.path.reads := by
  have hoff := denseFor_offBands band b s
  unfold foldedTo
  dsimp only
  generalize s.denseFor band b = r at hoff ⊢
  obtain ⟨hstripes, hmap, hstored, hreads⟩ := of_offBands hoff
  refine ⟨(stripe_updStripe ?_ _ _ _).trans ?_, hmap, hstored, hreads⟩
  · exact fun _ => ⟨rfl, rfl⟩
  · exact congrArg (Option.map _) (stripe_of_stripes hstripes band stripe)

theorem foldStripe_folds {soft : List Nat} (hbg : s.md.mode.backgroundRuns = true) (hx : s.stripe? band stripe = some x)
    (hb : NMap.find s.path.bands band = some b) (hst : x.st = st) (hfold : s.foldable b x = true)
    (hturn : (s.advanceTo t).staticPolicy = false ∨ (s.advanceTo t).nextTurn b = true) :
    Sys2Proof.Machine.exec (.foldStripe t st band stripe soft) s =
      .next (x.programmed.foldl (bookFold b soft) (foldedTo band stripe b (s.advanceTo t))) := by
  have hx' : (s.advanceTo t).stripe? band stripe = some x := (stripe_of_stripes (by rw [advanceTo_path]) _ _).trans hx
  have hfold' : (s.advanceTo t).foldable b x = true := by
    unfold State.foldable at hfold ⊢
    rwa [advanceTo_path]
  have hgo : ¬ (!(s.advanceTo t).md.mode.backgroundRuns || x.st != st || !(s.advanceTo t).foldable b x ||
      ((s.advanceTo t).staticPolicy && !(s.advanceTo t).nextTurn b)) = true := by
    rw [advanceTo_md, hbg, hfold', hst]
    rcases hturn with h | h <;> simp [h]
  show execFoldStripe t st band stripe soft s = _
  unfold execFoldStripe
  dsimp only
  rw [hx', show NMap.find (s.advanceTo t).path.bands band = some b by rw [advanceTo_path]; exact hb]
  exact congrArg Host.Outcome.next (if_neg hgo)

theorem foldStripe_placed (soft : List Nat) (hx : s.stripe? band stripe = some x) :
    ∃ d pos, (x.programmed.foldl (bookFold b soft) (foldedTo band stripe b s)).stripe? band stripe = some { x with dense := some (d, pos * (b.k * 65536)) } ∧
      (x.programmed.foldl (bookFold b soft) (foldedTo band stripe b s)).path.map = s.path.map ∧
      (x.programmed.foldl (bookFold b soft) (foldedTo band stripe b s)).path.stored = s.path.stored ∧
      (x.programmed.foldl (bookFold b soft) (foldedTo band stripe b s)).path.reads = s.path.reads := by
  have hpath : (x.programmed.foldl (bookFold b soft) (foldedTo band stripe b s)).path = (foldedTo band stripe b s).path :=
    foldl_keep (fun q => q.path) (fun q i => bookFold_path b soft q i) _ _
  obtain ⟨hstripe, hmap, hstored, hreads⟩ := foldedTo_path band stripe b s
  rw [hx, Option.map_some] at hstripe
  rw [hpath]
  exact ⟨_, _, (stripe_of_stripes (by rw [hpath]) _ _).trans hstripe, hmap, hstored, hreads⟩

end

/-! ### The dense copy -/

/-- One record of a landing stripe, once all its stripes are folded: its copy stands in the dense band, and what names it moves (R92). -/
def foldRecord (band d shift : Nat) (b : Band) (s : State) (x : Stored) : State :=
  if (recordStripes b x.offset (recordLen x.record)).all (fun i =>
      match s.stripe? band i with | some y => s.folded (b.k * 65536) y | none => false) then
    ({ s with path := { s.path with stored := s.path.stored ++
        [{ x with band := d, offset := x.offset + shift, stripe := (x.offset + shift) / (b.k * 65536), acked := true }] } }).moveRecord
      (x.st == StreamId.mirror, band, x.offset) (x.st == StreamId.mirror, d, x.offset + shift)
  else s

theorem moveFolded_eq (band stripe d shift : Nat) (b : Band) (s : State) : s.moveFolded band stripe d shift b =
    (s.path.stored.filter (fun x => x.band == band && (recordStripes b x.offset (recordLen x.record)).contains stripe)).foldl
      (foldRecord band d shift b) s := by
  unfold State.moveFolded
  dsimp only
  congr 1
  funext s x
  unfold foldRecord
  generalize List.all _ _ = all
  cases all <;> rfl

theorem foldRecord_stripes (band d shift : Nat) (b : Band) (s : State) (x : Stored) :
    (foldRecord band d shift b s x).path.stripes = s.path.stripes := by
  unfold foldRecord
  split <;> rfl

theorem foldRecord_map (band d shift : Nat) (b : Band) (s : State) (x : Stored) (key : Nat) :
    NMap.find (foldRecord band d shift b s x).path.map key = NMap.find s.path.map key ∨
      NMap.find (foldRecord band d shift b s x).path.map key = (NMap.find s.path.map key).map
        (MapEnt.follow (x.st == StreamId.mirror, band, x.offset) (x.st == StreamId.mirror, d, x.offset + shift)) := by
  unfold foldRecord
  split
  · exact .inr (moveRecord_map _ _ _ key)
  · exact .inl rfl

section
variable {band stripe d shift : Nat} {b : Band} {e : MapEnt} (hd : d ≠ band) (hkind : e.kind ≠ 4) (hband : e.band = band)
include hd hkind hband

/-- A map entry follows to the dense copy, or stays; one that followed follows no more. -/
theorem follow_dense (x : Stored) :
    (MapEnt.follow (x.st == StreamId.mirror, band, x.offset) (x.st == StreamId.mirror, d, x.offset + shift) e = e ∨
      MapEnt.follow (x.st == StreamId.mirror, band, x.offset) (x.st == StreamId.mirror, d, x.offset + shift) e =
        { e with band := d, offset := e.offset + shift }) ∧
    MapEnt.follow (x.st == StreamId.mirror, band, x.offset) (x.st == StreamId.mirror, d, x.offset + shift)
      { e with band := d, offset := e.offset + shift } = { e with band := d, offset := e.offset + shift } ∧
    (e.mirror = (x.st == StreamId.mirror) → x.offset = e.offset →
      MapEnt.follow (x.st == StreamId.mirror, band, x.offset) (x.st == StreamId.mirror, d, x.offset + shift) e =
        { e with band := d, offset := e.offset + shift }) := by
  refine ⟨?_, ?_, fun hm ho => ?_⟩
  · unfold MapEnt.follow
    split
    · rename_i h
      obtain ⟨-, hm, -, ho⟩ := h
      refine .inr ?_
      dsimp only at hm ho ⊢
      rw [← hm, ← ho]
    · exact .inl rfl
  · unfold MapEnt.follow
    rw [if_neg]
    rintro ⟨-, -, h, -⟩
    exact hd h
  · unfold MapEnt.follow
    dsimp only
    rw [if_pos ⟨hkind, hm, hband, ho.symm⟩, ← hm, ho]

/-- The records of a folded stripe take their entries along, whatever the order. -/
theorem foldRecords_map {key : Nat} {y : Stored} (hm : e.mirror = (y.st == StreamId.mirror)) (ho : y.offset = e.offset)
    (hstripes : recordStripes b y.offset (recordLen y.record) = [stripe]) (l : List Stored) {s : State}
    (hfolded : ∃ z, s.stripe? band stripe = some z ∧ s.folded (b.k * 65536) z = true)
    (h : NMap.find s.path.map key = some { e with band := d, offset := e.offset + shift } ∨
      NMap.find s.path.map key = some e ∧ y ∈ l) :
    NMap.find (l.foldl (foldRecord band d shift b) s).path.map key = some { e with band := d, offset := e.offset + shift } := by
  induction l generalizing s with
  | nil => exact h.resolve_right fun h => by simp at h
  | cons x l ih =>
    have hsame := foldRecord_stripes band d shift b s x
    obtain ⟨hstay, hgone, hgo⟩ := follow_dense (shift := shift) hd hkind hband x
    obtain ⟨z, hz, hzf⟩ := hfolded
    refine ih (s := foldRecord band d shift b s x) ⟨z, (stripe_of_stripes hsame _ _).trans hz, ?_⟩ ?_
    · unfold State.folded at hzf ⊢
      split
      · rename_i p o hp
        rw [hp] at hzf
        rwa [stripe_of_stripes hsame]
      · rename_i hp
        rw [hp] at hzf
        exact hzf
    · rcases h with h | ⟨h, hy⟩
      · refine .inl ?_
        rcases foldRecord_map band d shift b s x key with hk | hk
        · rw [hk, h]
        · rw [hk, h, Option.map_some, hgone]
      · by_cases hxy : y = x
        · subst hxy
          refine .inl ?_
          unfold foldRecord
          have hall : (recordStripes b y.offset (recordLen y.record)).all (fun i =>
              match s.stripe? band i with | some y => s.folded (b.k * 65536) y | none => false) = true := by
            rw [hstripes, List.all_cons, List.all_nil, hz]
            simp [hzf]
          rw [if_pos hall, moveRecord_map]
          exact (congrArg (Option.map _) h).trans (congrArg some (hgo hm ho))
        · have hy' : y ∈ l := (List.mem_cons.1 hy).resolve_left hxy
          rcases foldRecord_map band d shift b s x key with hk | hk
          · exact .inr ⟨hk.trans h, hy'⟩
          · rw [h, Option.map_some] at hk
            rcases hstay with hs | hs
            · exact .inr ⟨by rw [hk, hs], hy'⟩
            · exact .inl (by rw [hk, hs])

end

/-- The state with a folded stripe's verified copy in the dense band. -/
def denseStripe (denseBand denseOffset sb : Nat) (x : Stripe) (s : State) : State :=
  { s with path := { s.path with stripes := s.path.stripes ++
    [{ x with band := denseBand, idx := denseOffset / sb, sealedAt := some s.time.now, dense := none }] } }

/-- The state in which a fold's program has failed: the landing stripe waits again, and the dense band takes no more. -/
def denseFailed (band stripe denseBand : Nat) (db : Band) (s : State) : State :=
  let s2 := s.updStripe band stripe (fun x => { x with dense := none })
  { s2 with path := { s2.path with bands := NMap.put s2.path.bands denseBand { db with sealedBand := true } } }

/-- The failed program's block is marked, and counts as a fault of its die (R156). -/
def markFailed (denseOffset sb : Nat) (db : Band) (s : State) : Option Nat → State
  | some die =>
    (((s.count (ctrDie die 13)).raise (Reg.FCH_CERR0 + 0x200 * (die / 16)) 4).markBlock die (db.blockOf die)).fault (.die die) 0x3002 die
      [die, db.blockOf die, 4 * (denseOffset / sb)]
  | none => s

/-- What the end of a fold's program does: a copy that verified takes the records with it, a strip that failed leaves them (R92, R156). -/
def foldVerified (band stripe denseBand denseOffset : Nat) (x : Stripe) (b db : Band) (s : State) : Option Nat → State
  | some i => markFailed denseOffset (b.k * 65536) db (denseFailed band stripe denseBand db s) (db.dieOf i)
  | none => ((denseStripe denseBand denseOffset (b.k * 65536) x s).moveFolded band stripe denseBand (denseOffset - stripe * (b.k * 65536)) b).startErases

section
variable {t band stripe denseBand denseOffset : Nat} {st : StreamId} {x : Stripe} {b db : Band} {s : State}
  (hx : s.stripe? band stripe = some x)

include hx in
theorem foldVerified_admitted (hb : NMap.find s.path.bands band = some b) (hdb : NMap.find s.path.bands denseBand = some db)
    (hst : x.st = st) (hdense : x.dense = some (denseBand, denseOffset)) (hnot : s.folded (b.k * 65536) x = false) (failed : Option Nat) :
    Sys2Proof.Machine.exec (.foldProgramVerified t st band stripe denseBand denseOffset failed) s =
      .next (foldVerified band stripe denseBand denseOffset x b db (s.advanceTo t) failed) := by
  have hnot' : (s.advanceTo t).folded (b.k * 65536) x = false := by
    unfold State.folded State.stripe? at hnot ⊢
    rwa [advanceTo_path]
  have hgo : ¬ (x.st != st || x.dense != some (denseBand, denseOffset) || (s.advanceTo t).folded (b.k * 65536) x) = true := by
    rw [hst, hdense, hnot']
    simp
  show execFoldProgramVerified t st band stripe denseBand denseOffset failed s = _
  unfold execFoldProgramVerified
  dsimp only
  rw [show (s.advanceTo t).stripe? band stripe = some x from (stripe_of_stripes (by rw [advanceTo_path]) _ _).trans hx,
    show NMap.find (s.advanceTo t).path.bands band = some b by rw [advanceTo_path]; exact hb,
    show NMap.find (s.advanceTo t).path.bands denseBand = some db by rw [advanceTo_path]; exact hdb]
  refine congrArg Host.Outcome.next ((if_neg hgo).trans ?_)
  cases failed with
  | none => rfl
  | some i =>
    unfold foldVerified markFailed
    dsimp only
    cases db.dieOf i <;> rfl

/-- The entries of a folded stripe's records name the dense copy (R92). -/
theorem foldVerified_map {y : Stored} {e : MapEnt} {key : Nat} (hx : s.stripe? band stripe = some x) (hd : denseBand ≠ band)
    (hdense : x.dense = some (denseBand, denseOffset))
    (he : NMap.find s.path.map key = some e) (hkind : e.kind ≠ 4) (hm : e.mirror = (y.st == .mirror)) (hband : e.band = band)
    (hy : y ∈ s.path.stored) (hyb : y.band = band) (ho : y.offset = e.offset) (hstripes : recordStripes b y.offset (recordLen y.record) = [stripe]) :
    NMap.find (foldVerified band stripe denseBand denseOffset x b db s none).path.map key =
      some { e with band := denseBand, offset := e.offset + (denseOffset - stripe * (b.k * 65536)) } := by
  unfold foldVerified
  dsimp only
  rw [startErases_map, moveFolded_eq]
  refine foldRecords_map hd hkind hband hm ho hstripes _ ⟨x, ?_, ?_⟩ (.inr ⟨he, ?_⟩)
  · unfold State.stripe? denseStripe at *
    rw [List.find?_append, hx]
    rfl
  · unfold State.folded
    rw [hdense]
    dsimp only
    unfold State.stripe? denseStripe
    rw [List.find?_isSome]
    exact ⟨_, List.mem_append_right _ (List.mem_singleton.2 rfl), by simp⟩
  · refine List.mem_filter.2 ⟨hy, ?_⟩
    rw [hyb, hstripes]
    simp

/-- A fault that does not retire its unit leaves everything but the recorder and the log of faults. -/
theorem fault_path {u : FUnit} {kind item : Nat} {data : List Nat} {s : State}
    (h : s.faults.retired.contains u = true ∨ (s.faultsOf u kind).length + 1 < s.regField Reg.GCTL_RETIRE 3 0) :
    (s.fault u kind item data).path = s.path := by
  have f := State.recordOnce_frame kind item data s
  have hfaults := f.faults (by decide)
  have htime := f.time (by decide)
  have hreg : (s.recordOnce kind item data).regField Reg.GCTL_RETIRE 3 0 = s.regField Reg.GCTL_RETIRE 3 0 := by
    unfold State.regField
    rw [recordOnce_reg _ _ _ _ (by decide) (by decide)]
  unfold State.fault
  dsimp only
  split
  · exact f.path (by decide)
  · rename_i hr
    have hfew := h.resolve_left hr
    have hlen : (State.faultsOf { s.recordOnce kind item data with faults := { (s.recordOnce kind item data).faults with
        log := (s.recordOnce kind item data).faults.log ++ [(u, kind, (s.recordOnce kind item data).time.now)] } } u kind).length ≤
          (s.faultsOf u kind).length + 1 := by
      unfold State.faultsOf
      dsimp only
      rw [hfaults, htime, List.filter_append, List.map_append, List.length_append, List.length_map, List.length_map]
      have : (List.filter (fun f : FUnit × Nat × Nat => f.1 == u && f.2.1 == kind && decide (s.time.now < f.2.2 + faultWindowTicks))
        [(u, kind, s.time.now)]).length ≤ 1 := List.length_filter_le _ _
      omega
    rw [if_neg ?_]
    · exact f.path (by decide)
    · show ¬ (s.recordOnce kind item data).regField Reg.GCTL_RETIRE 3 0 ≤ _
      rw [hreg]
      exact fun hge => absurd (Nat.lt_of_le_of_lt hlen hfew) (Nat.not_lt.2 hge)

/-- What marks a failed program's block before its fault is counted leaves the path, the faults and the retirement limit. -/
def failedBlock (die : Nat) (db : Band) (s : State) : State :=
  ((s.count (ctrDie die 13)).raise (Reg.FCH_CERR0 + 0x200 * (die / 16)) 4).markBlock die (db.blockOf die)

theorem failedBlock_frame (die : Nat) (db : Band) (s : State) : Frame 1044 s (failedBlock die db s) :=
  Frame.comp (State.markBlock_frame _ _ _) rfl (Frame.comp (State.raise_frame _ _ _) rfl (Frame.comp (State.count_frame _ s) rfl (Frame.refl s)))

theorem failedBlock_limit (die : Nat) (db : Band) (s : State) :
    (failedBlock die db s).regField Reg.GCTL_RETIRE 3 0 = s.regField Reg.GCTL_RETIRE 3 0 := by
  have hmark : (failedBlock die db s).regs = ((s.count (ctrDie die 13)).raise (Reg.FCH_CERR0 + 0x200 * (die / 16)) 4).regs :=
    (State.markBlock_frame _ _ _).regs (by decide)
  have hne : Reg.FCH_CERR0 + 0x200 * (die / 16) ≠ Reg.GCTL_RETIRE := by
    show 0xB0008 + 0x200 * (die / 16) ≠ 0x24
    omega
  unfold State.regField
  have hreg : (failedBlock die db s).reg Reg.GCTL_RETIRE = s.reg Reg.GCTL_RETIRE := by
    unfold State.reg
    rw [hmark]
    exact (reg_raise_ne 4 _ hne).trans (count_reg _ _ s)
  rw [hreg]

theorem faultsOf_of {s u : State} (hf : u.faults = s.faults) (ht : u.time = s.time) (v : FUnit) (kind : Nat) :
    u.faultsOf v kind = s.faultsOf v kind := by
  unfold State.faultsOf
  rw [hf, ht]

theorem denseFailed_kept (denseBand : Nat) (db : Band) (s : State) :
    (denseFailed band stripe denseBand db s).stripe? band stripe = (s.stripe? band stripe).map (fun x => { x with dense := none }) ∧
    NMap.find (denseFailed band stripe denseBand db s).path.bands denseBand = some { db with sealedBand := true } ∧
    (denseFailed band stripe denseBand db s).path.map = s.path.map ∧ (denseFailed band stripe denseBand db s).path.stored = s.path.stored :=
  ⟨stripe_updStripe (by exact fun _ => ⟨rfl, rfl⟩) band stripe s, find_put_self _ _ _, rfl, rfl⟩

/-- A failed fold whose fault does not retire the die leaves the records, and the stripe folds again elsewhere (R156). -/
theorem markFailed_path {sb : Nat} {die : Option Nat} {s : State}
    (h : ∀ d, die = some d → s.faults.retired.contains (.die d) = true ∨ (s.faultsOf (.die d) 0x3002).length + 1 < s.regField Reg.GCTL_RETIRE 3 0) :
    (markFailed denseOffset sb db s die).path = s.path := by
  unfold markFailed
  split
  · rename_i d
    have f := failedBlock_frame d db s
    refine (fault_path (s := failedBlock d db s) ?_).trans (f.path (by decide))
    rw [failedBlock_limit, faultsOf_of (f.faults (by decide)) (f.time (by decide)), f.faults (by decide)]
    exact h d rfl
  · rfl

theorem markFailed_logged {sb die : Nat} {s : State} :
    (FUnit.die die, 0x3002, s.time.now) ∈ (markFailed denseOffset sb db s (some die)).faults.log ∧
      (markFailed denseOffset sb db s (some die)).path.stored = s.path.stored := by
  have f := failedBlock_frame die db s
  have hlog := (fault_log (.die die) 0x3002 die [die, db.blockOf die, 4 * (denseOffset / sb)] (failedBlock die db s)).1
  have ffault := State.fault_frame (.die die) 0x3002 die [die, db.blockOf die, 4 * (denseOffset / sb)] (failedBlock die db s)
  rw [f.time (by decide)] at hlog
  exact ⟨hlog, (ffault.stored (by decide)).trans (f.stored (by decide))⟩

end

/-! ### Checkpoints -/

/-- The checkpoint written when the period has passed (R167). -/
def nextCkpt (full : Bool) (s : State) : Ckpt :=
  { seq := s.path.ckptSeq + 1, full := full || s.path.ckpts.isEmpty, valid := true, tick := s.time.now, epoch := s.moor.epoch,
    homePos := s.streamPos .home, mirrorPos := s.streamPos .mirror, map := s.path.map, sgt := s.ddup.sgt, ppq := s.ddup.ppq,
    wgens := s.path.wgens, dirty := s.moor.dirty, changes := s.moor.changes }

theorem checkpoint_path (full : Bool) (s : State) : (s.checkpoint full).path = { s.path with
    ckpts := retainCkpts (nextCkpt full s :: s.path.ckpts)
    ckptSeq := (nextCkpt full s).seq
    ckptTick := s.time.now
    incs := if (nextCkpt full s).full then 0 else s.path.incs + 1
    mapChanged := false } := rfl

/-- Starting erases leaves the checkpoints. -/
theorem startErases_ckpts (s : State) : s.startErases.path.ckpts = s.path.ckpts ∧ s.startErases.path.ckptSeq = s.path.ckptSeq ∧
    s.startErases.path.ckptTick = s.path.ckptTick ∧ s.startErases.path.incs = s.path.incs := by
  have hcore := (startErases_core s).1
  have h1 := congrArg PathState.ckpts hcore
  have h2 := congrArg PathState.ckptSeq hcore
  have h3 := congrArg PathState.ckptTick hcore
  have h4 := congrArg PathState.incs hcore
  exact ⟨h1, h2, h3, h4⟩

section
variable {t : Nat} {s : State} (ht : Ticking t s)
include ht

theorem checkpointPeriod_writes (hbg : s.md.mode.backgroundRuns = true) (hdue : s.path.ckptTick + s.regField Reg.FCH_CKPT 15 0 * msTicks ≤ t) :
    Sys2Proof.Machine.exec (.checkpointPeriod t) s =
      .next ((s.advanceTo t).checkpoint (decide (s.regField Reg.FCH_CKPT 23 16 ≤ s.path.incs))).startErases := by
  obtain ⟨hrun, hclock, hnow⟩ := ht
  have hgo : ¬ (!(s.advanceTo t).md.mode.backgroundRuns || decide ((s.advanceTo t).time.now < (s.advanceTo t).path.ckptTick +
      (s.advanceTo t).regField Reg.FCH_CKPT 15 0 * msTicks)) = true := by
    rw [advanceTo_md, hbg, advanceTo_path, advanceTo_now hrun hclock hnow]
    unfold State.regField at hdue ⊢
    rw [reg_advanceTo]
    simpa using hdue
  show execCheckpointPeriod t s = _
  unfold execCheckpointPeriod
  dsimp only
  rw [if_neg hgo, advanceTo_path]
  unfold State.regField
  rw [reg_advanceTo]

theorem checkpointPeriod_early (hearly : t < s.path.ckptTick + s.regField Reg.FCH_CKPT 15 0 * msTicks) :
    Sys2Proof.Machine.exec (.checkpointPeriod t) s = .next (s.advanceTo t) := by
  obtain ⟨hrun, hclock, hnow⟩ := ht
  have hgo : (!(s.advanceTo t).md.mode.backgroundRuns || decide ((s.advanceTo t).time.now < (s.advanceTo t).path.ckptTick +
      (s.advanceTo t).regField Reg.FCH_CKPT 15 0 * msTicks)) = true := by
    rw [advanceTo_path, advanceTo_now hrun hclock hnow]
    unfold State.regField at hearly ⊢
    rw [reg_advanceTo]
    simp [hearly]
  show execCheckpointPeriod t s = _
  unfold execCheckpointPeriod
  dsimp only
  rw [if_pos hgo]

end

/-! ### GC -/

/-- The state in which the live records of a band have moved to the GC stream (R154, R162). -/
def gcMoved (band : Nat) (s : State) : State :=
  let s2 := (((s.liveOf band).map (fun x => recordKey x.record / 4 * 4)).eraseDups).foldl (fun s k => s.demote k) s
  (s2.liveOf band).foldl (fun s x => s.gcMove x) s2

theorem gcMoved_zk (band : Nat) (s : State) : zk (gcMoved band s) = zk s :=
  (foldl_keep zk (fun q x => gcMove_zk x q) _ _).trans (foldl_keep zk (fun q k => demote_zk k q) _ s)

/-- The collected band, marked as a victim. -/
def gcMarked (band : Nat) (b : Band) (s : State) : State :=
  { s with path := { s.path with bands := NMap.put s.path.bands band { b with victim := true, refresh := false, sealedBand := true } } }

/-- What GC does to a victim. -/
def gcCollected (band : Nat) (b : Band) (s : State) : State :=
  (if b.refresh then (gcMarked band b (gcMoved band s)).record 0x3104 [band] else gcMarked band b (gcMoved band s)).startErases

theorem gcCollected_kept (band : Nat) (b : Band) (s : State) :
    zk (gcCollected band b s) = zk s ∧
      ∀ c, NMap.find (gcCollected band b s).path.bands band = some c → c.victim = true ∧ c.refresh = false ∧ c.sealedBand = true := by
  have hmoved := gcMoved_zk band s
  unfold gcCollected
  generalize gcMoved band s = x at hmoved
  have hrecord : (if b.refresh = true then (gcMarked band b x).record 0x3104 [band] else gcMarked band b x).path = (gcMarked band b x).path := by
    split
    · exact (State.record_frame _ _ _).path (by decide)
    · rfl
  generalize (if b.refresh = true then (gcMarked band b x).record 0x3104 [band] else gcMarked band b x) = z at hrecord
  refine ⟨?_, fun c hc => ?_⟩
  · rw [← hmoved]
    funext key
    unfold zk
    rw [startErases_map, hrecord]
    rfl
  · have hc' := (startErases_core z).2 band c hc
    rw [hrecord] at hc'
    obtain rfl : { b with victim := true, refresh := false, sealedBand := true } = c :=
      Option.some.inj ((find_put_self x.path.bands band _).symm.trans hc')
    exact ⟨rfl, rfl, rfl⟩

theorem gcCopy_collects {t band : Nat} {st : StreamId} {b : Band} {s : State} (hbg : s.md.mode.backgroundRuns = true)
    (hb : NMap.find s.path.bands band = some b) (hst : b.st = st)
    (hstreams : band ∉ [s.path.homeStream.band, s.path.mirrorStream.band, (s.gcStream st).band])
    (hbars : (s.advanceTo t).staticBars st band b = false)
    (hworn : (s.advanceTo t).staticPolicy = true ∨ ∀ n, (s.advanceTo t).wornVictim st = some n → n = band) :
    Sys2Proof.Machine.exec (.gcCopy t st band) s = .next (gcCollected band b (s.advanceTo t)) := by
  have hgc : (s.advanceTo t).gcStream st = s.gcStream st := by
    unfold State.gcStream
    rw [advanceTo_path]
  have hb' : NMap.find (s.advanceTo t).path.bands band = some b := by rwa [advanceTo_path]
  have hnot : (!(s.advanceTo t).md.mode.backgroundRuns || b.st != st ||
      [(s.advanceTo t).path.homeStream.band, (s.advanceTo t).path.mirrorStream.band, ((s.advanceTo t).gcStream st).band].contains band ||
      (s.advanceTo t).staticBars st band b) = false := by
    rw [advanceTo_md, hbg, hst, advanceTo_path, hgc, hbars]
    simpa using hstreams
  show execGcCopy t st band s = _
  unfold execGcCopy
  dsimp only
  rw [hb']
  dsimp only
  rw [hnot, Bool.false_or]
  cases hstatic : (s.advanceTo t).staticPolicy with
  | true => exact congrArg Host.Outcome.next (if_neg Bool.false_ne_true)
  | false =>
    cases hvictim : (s.advanceTo t).wornVictim st with
    | none => exact congrArg Host.Outcome.next (if_neg Bool.false_ne_true)
    | some n =>
      have hn : n = band := (hworn.resolve_left (by rw [hstatic]; exact Bool.false_ne_true)) n hvictim
      exact congrArg Host.Outcome.next (if_neg (by simp [hn]))

/-! ### Patrol -/

/-- The reads that the patrol of a band books. -/
def patrolBook (s : State) (d : Nat) : State :=
  match s.portModel (d / 128) with
  | some m => s.bookWork patrolSeq d m.tRead (4 * m.tXfer)
  | none => s

/-- A band whose oldest block is past its retention is queued for refresh (R165). -/
def patrolRetain (band : Nat) (b : Band) (s : State) : State :=
  if s.retainPast band b && !b.refresh then
    ({ s with path := { s.path with bands := NMap.upd s.path.bands band (fun b => { b with refresh := true }) } }).raise Reg.FCH_STATUS 8
  else s

/-- The state in which a band has been read, its retention judged and its failures repaired. -/
def patrolled (band step : Nat) (b : Band) (failed : List PatrolFail) (s : State) : State :=
  failed.foldl (fun s f => s.patrolRepair f) (patrolRetain band b ((b.dies.foldl patrolBook s).askRefresh band step))

/-- The band counts as read, and the cycle ends with the last of them. -/
def patrolCounted (band : Nat) (s : State) : State :=
  let s6 := { s with path := { s.path with patrolDone := s.path.patrolDone ++ [band] } }
  if s6.patrolEnded then
    let s7 := s6.record 0x3103 [s6.path.patrolDone.length, s6.path.patrolRepaired]
    { s7 with path := { s7.path with patrolDone := [], patrolRepaired := 0 } }
  else s6

theorem patrolRead_eq (t band step : Nat) (st : StreamId) (failed : List PatrolFail) (s : State) :
    ∃ u, Sys2Proof.Machine.exec (.patrolRead t st band step failed) s = .next u ∧
      (u = s.advanceTo t ∨ ∃ b, NMap.find s.path.bands band = some b ∧ u = patrolCounted band (patrolled band step b failed (s.advanceTo t))) := by
  refine ⟨_, rfl, ?_⟩
  dsimp only
  rw [advanceTo_path]
  cases hb : NMap.find s.path.bands band with
  | none => exact .inl rfl
  | some b =>
    dsimp only
    split
    · exact .inl rfl
    · exact .inr ⟨b, rfl, rfl⟩

theorem patrolRead_reads {t band step : Nat} {st : StreamId} {b : Band} {failed : List PatrolFail} {s : State}
    (hbg : s.md.mode.backgroundRuns = true) (hb : NMap.find s.path.bands band = some b) (hst : b.st = st) (hv : b.victim = false)
    (hdone : s.path.patrolDone.contains band = false) :
    Sys2Proof.Machine.exec (.patrolRead t st band step failed) s =
      .next (patrolCounted band (patrolled band step b failed (s.advanceTo t))) := by
  have hgo : ¬ (!(s.advanceTo t).md.mode.backgroundRuns || b.st != st || b.victim || (s.advanceTo t).path.patrolDone.contains band) = true := by
    rw [advanceTo_md, advanceTo_path, hbg, hst, hv, hdone]
    simp
  show execPatrolRead t st band step failed s = _
  unfold execPatrolRead
  dsimp only
  rw [show NMap.find (s.advanceTo t).path.bands band = some b by rw [advanceTo_path]; exact hb]
  exact congrArg Host.Outcome.next (if_neg hgo)

theorem patrolBook_frame (s : State) (d : Nat) : Frame 64 s (patrolBook s d) := by
  unfold patrolBook
  split
  · exact State.bookWork_frame _ _ _ _ s
  · exact Frame.refl s

theorem patrolRetain_frame (band : Nat) (b : Band) (s : State) : Frame 260 s (patrolRetain band b s) :=
  .ite (fun _ => Frame.comp (State.raise_frame _ _ _) rfl (Frame.set_path (by decide) (fun _ => rfl) (fun _ => rfl) (fun _ => rfl) (Frame.refl s)))
    fun _ => Frame.refl s

theorem patrolled_frame (band step : Nat) (b : Band) (failed : List PatrolFail) (s : State) :
    Frame 1231955261439 s (patrolled band step b failed s) := by
  refine Frame.comp (foldl_frame (fun x f => State.patrolRepair_frame f x) failed _) rfl ?_
  refine Frame.comp (patrolRetain_frame band b _) rfl (Frame.comp (State.askRefresh_frame band step _) rfl ?_)
  exact Frame.comp (foldl_frame (fun x d => patrolBook_frame x d) b.dies s) rfl (Frame.refl s)

theorem patrolCounted_frame (band : Nat) (s : State) : Frame 65822 s (patrolCounted band s) := by
  have hpath (p : List Nat) (n : Nat) (x : State) (h : Frame 65822 s x) :
      Frame 65822 s { x with path := { x.path with patrolDone := p, patrolRepaired := n } } :=
    Frame.set_path (by decide) (fun _ => rfl) (fun _ => rfl) (fun _ => rfl) h
  unfold patrolCounted
  dsimp only
  have hdone := hpath (s.path.patrolDone ++ [band]) s.path.patrolRepaired s (Frame.refl s)
  exact .ite (fun _ => hpath [] 0 _ (Frame.comp (State.record_frame _ _ _) rfl hdone)) fun _ => hdone

/-- Reading a band without a failure touches the bands only. -/
theorem patrolled_offBands (band step : Nat) (b : Band) (s : State) : offBands (patrolled band step b [] s).path = offBands s.path := by
  have hbook : (b.dies.foldl patrolBook s).path = s.path := foldl_keep (fun q => q.path) (fun q d => (patrolBook_frame q d).path (by decide)) _ s
  have hretain (x : State) : offBands (patrolRetain band b x).path = offBands x.path := by
    unfold patrolRetain
    split <;> rfl
  have hask (x : State) : offBands (x.askRefresh band step).path = offBands x.path := by
    unfold State.askRefresh
    split
    · rfl
    · split
      · split
        · rfl
        · rw [(State.record_frame _ _ _).path (by decide)]
          rfl
      · rfl
  exact (hretain _).trans ((hask _).trans (congrArg offBands hbook))

theorem patrolCounted_path (band : Nat) (s : State) :
    (patrolCounted band s).path.map = s.path.map ∧ (patrolCounted band s).path.stored = s.path.stored ∧
      ((patrolCounted band s).path.patrolDone = s.path.patrolDone ++ [band] ∨ (patrolCounted band s).path.patrolDone = []) := by
  unfold patrolCounted
  dsimp only
  split
  · rw [(State.record_frame _ _ _).path (by decide)]
    exact ⟨rfl, rfl, .inr rfl⟩
  · exact ⟨rfl, rfl, .inl rfl⟩

/-- Settles O41. -/
theorem backgroundWorkMovesRecordsWithTheirEntries : Obligations.BackgroundWorkMovesRecordsWithTheirEntries := by
  refine ⟨fun t band stripe st soft x b s hbg hx hb hst hfold hturn => ?_,
    fun t band stripe denseBand denseOffset st x b db s hx hb hdb hst hdense hnot hne => ?_,
    fun t band stripe denseBand denseOffset i st x b db s hx hb hdb hst hdense hnot hfew => ?_,
    fun t band stripe denseBand denseOffset i die st x b db s hx hb hdb hst hdense hnot hdie => ?_,
    fun t s ht hbg hdue => ?_, fun t s ht hearly => ?_, fun t band st b s hbg hb hst hstreams hbars hworn => ?_,
    fun t band step st b s hbg hb hst hv hdone => ?_, fun t band step st failed s => ?_⟩
  · have hx' : (s.advanceTo t).stripe? band stripe = some x := (stripe_of_stripes (by rw [advanceTo_path]) _ _).trans hx
    obtain ⟨d, pos, hstripe, hmap, hstored, hreads⟩ := foldStripe_placed (b := b) (s := s.advanceTo t) soft hx'
    rw [advanceTo_path] at hmap hstored hreads
    exact ⟨_, d, pos, foldStripe_folds hbg hx hb hst hfold hturn, hstripe, hmap, hstored, hreads⟩
  · refine ⟨_, foldVerified_admitted hx hb hdb hst hdense hnot none, fun key e y he hkind hm hband hy hyb ho hyst hstripes => ?_⟩
    have hx' : (s.advanceTo t).stripe? band stripe = some x := (stripe_of_stripes (by rw [advanceTo_path]) _ _).trans hx
    refine foldVerified_map hx' hne hdense (by rw [advanceTo_path]; exact he) hkind (by rw [hm, hyst]) hband
      (by rw [advanceTo_path]; exact hy) hyb ho hstripes
  · have hx' : (s.advanceTo t).stripe? band stripe = some x := (stripe_of_stripes (by rw [advanceTo_path]) _ _).trans hx
    obtain ⟨hstripe, hbands, hmap, hstored⟩ := denseFailed_kept (band := band) (stripe := stripe) denseBand db (s.advanceTo t)
    have hpath : (foldVerified band stripe denseBand denseOffset x b db (s.advanceTo t) (some i)).path =
        (denseFailed band stripe denseBand db (s.advanceTo t)).path := by
      refine markFailed_path fun d hd => ?_
      have hfaults : (denseFailed band stripe denseBand db (s.advanceTo t)).faults = s.faults := advanceTo_faults t s
      have hreg : (denseFailed band stripe denseBand db (s.advanceTo t)).regField Reg.GCTL_RETIRE 3 0 = s.regField Reg.GCTL_RETIRE 3 0 := by
        unfold State.regField
        exact congrArg (bits · 3 0) (reg_advanceTo t s _)
      rw [hfaults, hreg]
      exact hfew d hd
    rw [hx', Option.map_some] at hstripe
    rw [advanceTo_path] at hmap hstored
    exact ⟨_, foldVerified_admitted hx hb hdb hst hdense hnot (some i), (stripe_of_stripes (by rw [hpath]) _ _).trans hstripe,
      by rw [hpath]; exact hbands, by rw [hpath]; exact hmap, by rw [hpath]; exact hstored⟩
  · obtain ⟨hlog, hstored⟩ := markFailed_logged (denseOffset := denseOffset) (db := db) (sb := b.k * 65536) (die := die)
      (s := denseFailed band stripe denseBand db (s.advanceTo t))
    have hrun : foldVerified band stripe denseBand denseOffset x b db (s.advanceTo t) (some i) =
        markFailed denseOffset (b.k * 65536) db (denseFailed band stripe denseBand db (s.advanceTo t)) (some die) := by
      unfold foldVerified
      dsimp only
      rw [hdie]
    refine ⟨_, (foldVerified_admitted hx hb hdb hst hdense hnot (some i)).trans (congrArg Host.Outcome.next hrun), hlog, hstored.trans ?_⟩
    rw [(denseFailed_kept (band := band) (stripe := stripe) denseBand db (s.advanceTo t)).2.2.2, advanceTo_path]
  · have hexec := checkpointPeriod_writes ht hbg hdue
    have hpath := checkpoint_path (decide (s.regField Reg.FCH_CKPT 23 16 ≤ s.path.incs)) (s.advanceTo t)
    obtain ⟨hck, hseq, htick, hincs⟩ := startErases_ckpts ((s.advanceTo t).checkpoint (decide (s.regField Reg.FCH_CKPT 23 16 ≤ s.path.incs)))
    obtain ⟨hrun, hclock, hnow⟩ := ht
    have hpos (st : StreamId) : (s.advanceTo t).streamPos st = s.streamPos st := by
      rw [advanceTo_eq]
      rfl
    have htime := advanceTo_now hrun hclock hnow
    rw [hpath] at hck hseq htick hincs
    refine ⟨_, nextCkpt (decide (s.regField Reg.FCH_CKPT 23 16 ≤ s.path.incs)) (s.advanceTo t), hexec, ?_, ?_, rfl, htime, ?_, ?_, hpos _, hpos _, ?_,
      hseq, htick.trans htime, ?_⟩
    · rw [hck, advanceTo_path]
    · exact congrArg (fun p : PathState => p.ckptSeq + 1) (advanceTo_path t s)
    · exact congrArg PathState.map (advanceTo_path t s)
    · exact congrArg PathState.wgens (advanceTo_path t s)
    · show (_ || (s.advanceTo t).path.ckpts.isEmpty) = _
      rw [advanceTo_path]
    · rw [hincs, advanceTo_path]
  · refine ⟨_, checkpointPeriod_early ht hearly, ?_⟩
    rw [advanceTo_eq]
  · obtain ⟨hzk, hmarked⟩ := gcCollected_kept band b (s.advanceTo t)
    refine ⟨_, gcCopy_collects hbg hb hst hstreams hbars hworn, fun key => ?_, hmarked⟩
    refine (congrFun hzk key).trans ?_
    unfold zk
    rw [advanceTo_path]
  · obtain ⟨hmap, hstored, hread⟩ := patrolCounted_path band (patrolled band step b [] (s.advanceTo t))
    have hoff := patrolled_offBands band step b (s.advanceTo t)
    obtain ⟨-, hmap', hstored', -⟩ := of_offBands hoff
    have hdone' := congrArg PathState.patrolDone hoff
    change (patrolled band step b [] (s.advanceTo t)).path.patrolDone = (s.advanceTo t).path.patrolDone at hdone'
    rw [hdone', advanceTo_path] at hread
    rw [advanceTo_path] at hmap' hstored'
    exact ⟨_, patrolRead_reads hbg hb hst hv hdone, hmap.trans hmap', hstored.trans hstored', hread⟩
  · obtain ⟨u, hexec, hu⟩ := patrolRead_eq t band step st failed s
    have f : Frame 1231955261439 s u := by
      have ft : Frame 1231955261439 s (s.advanceTo t) := Frame.comp (State.advanceTo_frame t s) rfl (Frame.refl s)
      rcases hu with rfl | ⟨b, -, rfl⟩
      · exact ft
      · exact Frame.comp (patrolCounted_frame band _) rfl (Frame.comp (patrolled_frame band step b failed _) rfl ft)
    exact ⟨u, hexec, f.ciph (by decide), f.ldg (by decide), f.mem (by decide), f.strp (by decide), f.elec (by decide)⟩

end Sys2Proof.Proofs
end

section

/-! SUPPORT. The flash's dies and channels: training, timeouts, erases and the temperature history (R141, R144, R155, R158, R169). -/

namespace Sys2Proof.Proofs

open Sys2Proof.Machine Sys2Proof.Safety Sys2Proof.Laws

/-! ### Running erases outlive a retirement -/

theorem erases_ite {c : Prop} [Decidable c] {a b : State} {l : List Erase} (ha : c → a.flash.erases = l) (hb : ¬ c → b.flash.erases = l) :
    (if c then a else b).flash.erases = l := by
  split
  · exact ha ‹_›
  · exact hb ‹_›

theorem fillBand_erases (n : Nat) (s : State) : (s.fillBand n).flash.erases = s.flash.erases := by
  unfold State.fillBand
  split
  · exact foldl_keep (fun q => q.flash.erases) (fun q d => by unfold State.giveBlock; rfl) _ s
  · rfl

theorem fillBands_erases (s : State) : s.fillBands.flash.erases = s.flash.erases :=
  foldl_keep (fun q => q.flash.erases) (fun q n => fillBand_erases n q) _ s

theorem memberFail_erases (port cause : Nat) (s : State) : (s.memberFail port cause).flash.erases = s.flash.erases := by
  unfold State.memberFail
  split
  · rfl
  · dsimp only
    have hslack (x : State) (pick : Band → List Nat) (k : Nat) : (x.flashSlack pick k).flash = x.flash := (State.flashSlack_frame _ _ x).flash (by decide)
    have hhead : ((((s.record 0x4000 [port, cause]).raise Reg.STRP_STATUS 1).updPort port fun p => { p with state := 5 }).flashSlack
        (fun b => b.stripsOn port) 0x3200).flash = s.flash := by
      rw [hslack, (State.updPort_frame _ _ _).flash (by decide), (State.raise_frame _ _ _).flash (by decide),
        (State.record_frame _ _ _).flash (by decide)]
    generalize State.flashSlack _ _ _ = x at hhead ⊢
    split
    · rw [(State.lossTest_frame _).flash (by decide), (State.startRebuild_frame _ _ _ _).flash (by decide),
        (State.memberChanged_frame _).flash (by decide), fillBands_erases, (State.moveFlashWork_frame _ _ _).flash (by decide),
        (State.raise_frame _ _ _).flash (by decide), (State.record_frame _ _ _).flash (by decide), (State.updPort_frame _ _ _).flash (by decide)]
      exact congrArg (·.erases) hhead
    · rw [(State.lossTest_frame _).flash (by decide), (State.sealLeft_frame _).flash (by decide)]
      split
      · rw [(State.record_frame _ _ _).flash (by decide), (State.memberChanged_frame _).flash (by decide)]
        exact congrArg (·.erases) hhead
      · rw [(State.memberChanged_frame _).flash (by decide)]
        exact congrArg (·.erases) hhead

theorem partialLoss_erases (port unit : Nat) (gone : List Nat) (s : State) :
    (s.partialLoss port unit gone).flash.erases = s.flash.erases := by
  have hhead (pick : Band → List Nat) : ((s.record 0x4005 [port, unit]).flashSlack pick 0x3200).flash = s.flash := by
    rw [(State.flashSlack_frame _ _ _).flash (by decide), (State.record_frame _ _ _).flash (by decide)]
  unfold State.partialLoss
  refine erases_ite (fun _ => rfl) fun _ => erases_ite (fun _ => ?_) fun _ => ?_
  · exact (memberFail_erases _ _ _).trans (congrArg (·.erases) (hhead _))
  · have hmoved (x : State) (pick : Band → List Nat) (onto : Nat → Option Nat) (hx : x.flash.erases = s.flash.erases) :
        ((x.substitute port pick).fillBands.moveFlashWork gone onto).flash.erases = s.flash.erases := by
      rw [(State.moveFlashWork_frame _ _ _).flash (by decide), fillBands_erases, (State.substitute_frame _ _ _).flash (by decide)]
      exact hx
    refine erases_ite (fun _ => hmoved _ _ _ (congrArg (·.erases) (hhead _))) fun _ => ?_
    rw [(State.lossTest_frame _).flash (by decide), (State.startRebuild_frame _ _ _ _).flash (by decide)]
    exact hmoved _ _ _ (congrArg (·.erases) (hhead _))

theorem retire_die_erases (d : Nat) (s : State) : (s.retire (.die d)).flash.erases = s.flash.erases := by
  have hunit : (s.retireUnit (.die d)).flash.erases = s.flash.erases := by
    unfold State.retireUnit
    split
    · rfl
    · rw [if_neg (by exact Bool.false_ne_true)]
      dsimp only
      rw [partialLoss_erases, (State.raise_frame _ _ _).flash (by decide), (State.record_frame _ _ _).flash (by decide)]
      rfl
  exact (congrArg (·.erases) ((State.recompute_frame s.budget (s.retireUnit (.die d))).flash (by decide))).trans hunit

theorem fault_die_erases (d kind item : Nat) (data : List Nat) (s : State) :
    (s.fault (.die d) kind item data).flash.erases = s.flash.erases := by
  have hrec : (s.recordOnce kind item data).flash = s.flash := (State.recordOnce_frame _ _ _ s).flash (by decide)
  unfold State.fault
  dsimp only
  split
  · exact congrArg (·.erases) hrec
  · split
    · exact (retire_die_erases _ _).trans (congrArg (·.erases) hrec)
    · exact congrArg (·.erases) hrec

/-! ### Training and timeouts -/

/-- What a channel's training comes to, before its third failure retires it. -/
def trainingFailed (channel fails : Nat) (s : State) : State :=
  ((({ s with flash := { s.flash with chans := NMap.put s.flash.chans channel (1, fails) } } : State).raise
    (Reg.FCH_CERR0 + 0x200 * channel) 2).count (ctrChannel channel 5)).fault (.channel channel) 0x3000 channel [channel, fails]

theorem training_open {t channel : Nat} {s : State} (h1 : s.md.mode ≠ .reset) (h2 : s.md.mode ≠ .locked) (h3 : s.md.mode ≠ .slack)
    (hc : (NMap.getD s.flash.chans channel (0, 0)).1 ≠ 2) :
    ¬ ((NMap.getD (s.advanceTo t).flash.chans channel (0, 0)).1 = 2 ∨ (s.advanceTo t).md.mode = .reset ∨
      (s.advanceTo t).md.mode = .locked ∨ (s.advanceTo t).md.mode = .slack) := by
  rw [advanceTo_md, advanceTo_flash]
  simp [h1, h2, h3, hc]

theorem channelTrainingDone_trains {t channel : Nat} {s : State} (h1 : s.md.mode ≠ .reset) (h2 : s.md.mode ≠ .locked)
    (h3 : s.md.mode ≠ .slack) (hc : (NMap.getD s.flash.chans channel (0, 0)).1 ≠ 2) :
    Sys2Proof.Machine.exec (.channelTrainingDone t channel true) s =
      .next { (s.advanceTo t) with flash :=
        { s.flash with chans := NMap.put s.flash.chans channel (2, (NMap.getD s.flash.chans channel (0, 0)).2) } } := by
  show execChannelTrainingDone t channel true s = _
  unfold execChannelTrainingDone
  dsimp only
  rw [if_neg (training_open h1 h2 h3 hc), if_pos rfl, advanceTo_flash]

theorem channelTrainingDone_fails {t channel : Nat} {s : State} (h1 : s.md.mode ≠ .reset) (h2 : s.md.mode ≠ .locked)
    (h3 : s.md.mode ≠ .slack) (hc : (NMap.getD s.flash.chans channel (0, 0)).1 ≠ 2)
    (hret : s.faults.retired.contains (.channel channel) = false) (hthird : 3 ≤ (NMap.getD s.flash.chans channel (0, 0)).2 + 1) :
    let x := trainingFailed channel ((NMap.getD s.flash.chans channel (0, 0)).2 + 1) (s.advanceTo t)
    Sys2Proof.Machine.exec (.channelTrainingDone t channel false) s =
      .next (if x.faults.retired.contains (.channel channel) then x else x.retire (.channel channel)) := by
  intro x
  have hret' : ¬ (s.advanceTo t).faults.retired.contains (.channel channel) = true := by rw [advanceTo_faults, hret]; exact Bool.false_ne_true
  have hx : trainingFailed channel ((NMap.getD (s.advanceTo t).flash.chans channel (0, 0)).2 + 1) (s.advanceTo t) = x := by
    rw [advanceTo_flash]
  show execChannelTrainingDone t channel false s = _
  unfold execChannelTrainingDone
  dsimp only
  rw [if_neg (training_open h1 h2 h3 hc), if_neg Bool.false_ne_true, if_neg hret']
  change Host.Outcome.next (if (decide (3 ≤ (NMap.getD (s.advanceTo t).flash.chans channel (0, 0)).2 + 1) &&
      !(trainingFailed channel ((NMap.getD (s.advanceTo t).flash.chans channel (0, 0)).2 + 1) (s.advanceTo t)).faults.retired.contains
        (.channel channel)) = true then
      (trainingFailed channel ((NMap.getD (s.advanceTo t).flash.chans channel (0, 0)).2 + 1) (s.advanceTo t)).retire (.channel channel)
    else trainingFailed channel ((NMap.getD (s.advanceTo t).flash.chans channel (0, 0)).2 + 1) (s.advanceTo t)) = _
  rw [hx, advanceTo_flash, decide_eq_true hthird, Bool.true_and]
  cases x.faults.retired.contains (.channel channel) <;> rfl

theorem retire_channel_retired (c : Nat) (s : State) : (s.retire (.channel c)).faults.retired.contains (.channel c) = true :=
  (retire_faults (.channel c) s).2.1 (fun _ _ h => nomatch h) (.inl rfl)

theorem retire_die_retired (d : Nat) (s : State) : (s.retire (.die d)).faults.retired.contains (.die d) = true :=
  (retire_faults (.die d) s).2.1 (fun _ _ h => nomatch h) (.inl rfl)

theorem retire_block_retired (d b : Nat) (s : State) : (s.retire (.block d b)).faults.retired.contains (.block d b) = true :=
  (retire_faults (.block d b) s).2.1 (fun _ _ h => nomatch h) (.inl rfl)

/-- A die whose status was not read in time, counted and shown. -/
def statusTimedOut (die : Nat) (s : State) : State := (s.count (ctrDie die 15)).raise (Reg.FCH_CERR0 + 0x200 * (die / 16)) 0x10

theorem statusTimedOut_time (die : Nat) (s : State) : (statusTimedOut die s).time = s.time :=
  (raise_time _ _ _).trans ((State.count_frame _ s).time (by decide))

theorem status_open {t die : Nat} {s : State} (hdie : s.flash.dies.contains die = true) (hret : s.faults.retired.contains (.die die) = false) :
    ¬ (!(s.advanceTo t).flash.dies.contains die || (s.advanceTo t).faults.retired.contains (.die die)) = true := by
  rw [advanceTo_flash, advanceTo_faults, hdie, hret]
  exact Bool.false_ne_true

theorem statusTimeout_answers {t die operation : Nat} {s : State} (hdie : s.flash.dies.contains die = true)
    (hret : s.faults.retired.contains (.die die) = false) :
    Sys2Proof.Machine.exec (.statusTimeout t die operation true) s =
      .next ((statusTimedOut die (s.advanceTo t)).fault (.die die) 0x3004 die [die, operation]) :=
  congrArg Host.Outcome.next (if_neg (status_open hdie hret))

theorem statusTimeout_dead {t die operation : Nat} {s : State} (hdie : s.flash.dies.contains die = true)
    (hret : s.faults.retired.contains (.die die) = false) :
    Sys2Proof.Machine.exec (.statusTimeout t die operation false) s =
      .next (((statusTimedOut die (s.advanceTo t)).record 0x3004 [die, operation]).retire (.die die)) := by
  show execStatusTimeout t die operation false s = _
  unfold execStatusTimeout
  dsimp only
  rw [if_neg (status_open hdie hret), if_neg Bool.false_ne_true]
  rfl

/-- A channel whose bus timed out, counted and shown. -/
def busTimedOut (channel : Nat) (s : State) : State := (s.count (ctrChannel channel 4)).raise (Reg.FCH_CERR0 + 0x200 * channel) 1

theorem busTimedOut_time (channel : Nat) (s : State) : (busTimedOut channel s).time = s.time :=
  (raise_time _ _ _).trans ((State.count_frame _ s).time (by decide))

theorem busTimeout_runs {t channel : Nat} {s : State} (hready : (s.advanceTo t).channelReady channel = true) :
    Sys2Proof.Machine.exec (.busTimeout t channel) s =
      .next ((busTimedOut channel (s.advanceTo t)).fault (.channel channel) 0x3005 channel [channel]) :=
  congrArg Host.Outcome.next (if_neg (by rw [hready]; exact Bool.false_ne_true))

theorem fault_logged {u : FUnit} {kind item n : Nat} {data : List Nat} {s : State} (h : s.time.now = n) :
    (u, kind, n) ∈ (s.fault u kind item data).faults.log := h ▸ (fault_log u kind item data s).1

/-! ### Erases -/

/-- The running erases without the one of a block. -/
def withoutErase (die block : Nat) (s : State) : State :=
  { s with flash := { s.flash with erases := s.flash.erases.filter (fun e => !(e.die == die && e.block == block)) } }

/-- A block that an erase gave back to its port's landing blocks. -/
def landingErased (die block planes : Nat) (s : State) : State :=
  let k := NMap.getD s.flash.blocks (blockKey die block) freshBlock
  { s with flash := { s.flash with
    blocks := NMap.put s.flash.blocks (blockKey die block) { k with erased := true, dense := false, slcCycles := k.slcCycles + 1, denseCycles := k.denseCycles + 0 }
    free := NMap.put s.flash.free (die / 128) (NMap.getD s.flash.free (die / 128) 0 + planes) } }

theorem eraseDone_frees {t die block n : Nat} {b : Band} {m : DieModel} {s : State}
    (hany : s.flash.erases.any (fun e => e.die == die && e.block == block) = true) (hat : s.bandAt die block = some n)
    (hb : NMap.find s.path.bands n = some b) (hd : b.dense = false) (hm : s.portModel (die / 128) = some m) :
    Sys2Proof.Machine.exec (.eraseDone t die block true) s =
      .next (((landingErased die block m.planes (withoutErase die block (s.advanceTo t))).count (ctrDie die 2)).dropBand n) := by
  have hgo : ¬ (!(s.advanceTo t).flash.erases.any (fun e => e.die == die && e.block == block)) = true := by
    rw [advanceTo_flash, hany]
    exact Bool.false_ne_true
  have hat' : (withoutErase die block (s.advanceTo t)).bandAt die block = some n := by rw [advanceTo_eq]; exact hat
  have hb' : NMap.find (withoutErase die block (s.advanceTo t)).path.bands n = some b := by rw [advanceTo_eq]; exact hb
  have hm' : (withoutErase die block (s.advanceTo t)).portModel (die / 128) = some m := by rw [advanceTo_eq]; exact hm
  show execEraseDone t die block true s = _
  unfold execEraseDone
  dsimp only
  rw [if_neg hgo, if_pos rfl]
  unfold withoutErase at hat' hb' hm'
  rw [hat', Option.bind_some, hb', hm']
  simp only [hd, Bool.false_eq_true, if_false]
  rfl

theorem eraseDone_retires {t die block : Nat} {s : State}
    (hany : s.flash.erases.any (fun e => e.die == die && e.block == block) = true) :
    ∃ n, Sys2Proof.Machine.exec (.eraseDone t die block false) s =
      .next ((((((withoutErase die block (s.advanceTo t)).count (ctrDie die 14)).raise (Reg.FCH_CERR0 + 0x200 * (die / 16)) 8).fault (.die die)
        0x3003 die [die, block]).retire (.block die block)).dropBand n) := by
  have hgo : ¬ (!(s.advanceTo t).flash.erases.any (fun e => e.die == die && e.block == block)) = true := by
    rw [advanceTo_flash, hany]
    exact Bool.false_ne_true
  exact ⟨_, congrArg Host.Outcome.next ((if_neg hgo).trans (if_neg Bool.false_ne_true))⟩

theorem dropBand_flash (n : Nat) (s : State) : (s.dropBand n).flash = s.flash := (State.dropBand_frame n s).flash (by decide)

theorem landingErased_block (die block planes : Nat) (s : State) :
    ∃ k, NMap.find (landingErased die block planes s).flash.blocks (blockKey die block) = some k ∧ k.erased = true ∧ k.dense = false ∧
      k.slcCycles = (NMap.getD s.flash.blocks (blockKey die block) freshBlock).slcCycles + 1 :=
  ⟨_, find_put_self _ _ _, rfl, rfl, rfl⟩

/-- A suspended erase of a die, running again from a tick. -/
def resumedErase (die now : Nat) (e : Erase) : Erase :=
  if e.die == die && e.suspended then { e with suspended := false, start := e.start + (now - e.suspAt) } else e

theorem eraseResume_runs {t die : Nat} {s : State}
    (hfree : takenIn s.adm.bookings (resDie die) (slotOf (s.advanceTo t).time.now) true = 0) :
    Sys2Proof.Machine.exec (.eraseResume t die) s =
      .next { (s.advanceTo t) with flash := { s.flash with erases := s.flash.erases.map (resumedErase die (s.advanceTo t).time.now) } } := by
  show execEraseResume t die s = _
  unfold execEraseResume
  dsimp only
  rw [advanceTo_adm, hfree, advanceTo_flash]
  rfl

theorem eraseResume_waits {t die : Nat} {s : State}
    (hbusy : takenIn s.adm.bookings (resDie die) (slotOf (s.advanceTo t).time.now) true ≠ 0) :
    Sys2Proof.Machine.exec (.eraseResume t die) s = .next (s.advanceTo t) := by
  show execEraseResume t die s = _
  unfold execEraseResume
  dsimp only
  rw [advanceTo_adm, if_pos (bne_iff_ne.mpr hbusy)]

/-! ### The temperature history -/

theorem tempBucket_lt (c : Int) : tempBucket c < 16 := by
  unfold tempBucket
  split <;> omega

theorem dieTemperatureSample_runs {t port : Nat} {c : Int} {s : State} (ht : Ticking t s) (hmode : s.md.mode ≠ .locked)
    (hreset : s.md.mode ≠ .reset) (hdue : s.flash.tempTick + secondTicks ≤ t) (hport : port < 16) :
    Sys2Proof.Machine.exec (.dieTemperatureSample t [(port, c)]) s =
      .next (((({ (s.advanceTo t) with flash := { (s.advanceTo t).flash with tempTick := (s.advanceTo t).time.now } } : State).addSecond 0
        (s.advanceTo t).elec.temp).addSecond (port + 1) c).count (ctrPort port (tempBucket c))) := by
  have hgo : ¬ ((s.advanceTo t).md.mode = .reset ∨ (s.advanceTo t).md.mode = .locked ∨
      (s.advanceTo t).time.now < (s.advanceTo t).flash.tempTick + secondTicks) := by
    rw [advanceTo_md, advanceTo_flash, advanceTo_now ht.1 ht.2.1 ht.2.2]
    rintro (h | h | h)
    · exact hreset h
    · exact hmode h
    · omega
  exact congrArg Host.Outcome.next ((if_neg hgo).trans (if_pos hport))

theorem addSecond_find (scope : Nat) (c : Int) (s : State) (i : Nat) :
    NMap.find (s.addSecond scope c).flash.tempHist i =
      if i = scope * 16 + tempBucket c then some (satTo 48 (NMap.getD s.flash.tempHist i 0 + 1)) else NMap.find s.flash.tempHist i := by
  unfold State.addSecond
  dsimp only
  by_cases h : i = scope * 16 + tempBucket c
  · rw [if_pos h, h, find_put_self]
  · rw [if_neg h, find_put_ne _ _ (Ne.symm h)]

/-- A second's sample: the junction sensor's bucket and a module's, each one second more. -/
theorem dieTemperatureSample_counts {t port : Nat} {c : Int} {s : State} (ht : Ticking t s) (hmode : s.md.mode ≠ .locked)
    (hdue : s.flash.tempTick + secondTicks ≤ t) (hport : port < 16) :
    ∃ u, Sys2Proof.Machine.exec (.dieTemperatureSample t [(port, c)]) s = .next u ∧ u.flash.tempTick = t ∧
      NMap.find u.flash.tempHist (tempBucket s.elec.temp) = some (satTo 48 (NMap.getD s.flash.tempHist (tempBucket s.elec.temp) 0 + 1)) ∧
      NMap.find u.flash.tempHist ((port + 1) * 16 + tempBucket c) =
        some (satTo 48 (NMap.getD s.flash.tempHist ((port + 1) * 16 + tempBucket c) 0 + 1)) := by
  have hreset : s.md.mode ≠ .reset := fun h => by
    have hfast := ht.2.1
    unfold State.slowClock at hfast
    rw [h] at hfast
    exact absurd hfast (by decide)
  have hlt := tempBucket_lt s.elec.temp
  refine ⟨_, dieTemperatureSample_runs ht hmode hreset hdue hport, ?_, ?_, ?_⟩
  · rw [(State.count_frame _ _).flash (by decide)]
    exact advanceTo_now ht.1 ht.2.1 ht.2.2
  · rw [(State.count_frame _ _).flash (by decide), addSecond_find, if_neg (by omega), addSecond_find, advanceTo_elec, if_pos (by omega),
      advanceTo_flash]
  · rw [(State.count_frame _ _).flash (by decide), addSecond_find, if_pos rfl]
    unfold NMap.getD
    rw [addSecond_find, if_neg (by have := tempBucket_lt (s.advanceTo t).elec.temp; omega), advanceTo_flash]

/-- Settles O42. -/
theorem flashDevicesTrainEraseAndAge : Obligations.FlashDevicesTrainEraseAndAge := by
  refine ⟨?_, fun t die operation s hdie hret => ⟨?_, ?_⟩,
    fun t channel s hready => ?_, fun t die block n b m s hany hat hb hd hm => ⟨?_, ?_⟩, fun t die s => ⟨fun hfree => ?_, fun hbusy => ?_⟩,
    fun t port c s ht hmode hdue hport => dieTemperatureSample_counts ht hmode hdue hport⟩
  · intro t channel s h1 h2 h3 c hc
    refine ⟨⟨_, channelTrainingDone_trains h1 h2 h3 hc, find_put_self _ _ _⟩, fun hret hthird =>
      ⟨_, channelTrainingDone_fails h1 h2 h3 hc hret hthird, ?_⟩⟩
    split
    · assumption
    · exact retire_channel_retired channel _
  · exact ⟨_, statusTimeout_dead hdie hret, retire_die_retired die _⟩
  · exact ⟨_, statusTimeout_answers hdie hret, fault_logged (congrArg TimeState.now (statusTimedOut_time die _))⟩
  · exact ⟨_, busTimeout_runs hready, fault_logged (congrArg TimeState.now (busTimedOut_time channel _))⟩
  · obtain ⟨k, hk, he, hdense, hcycles⟩ := landingErased_block die block m.planes (withoutErase die block (s.advanceTo t))
    have hflash : (((landingErased die block m.planes (withoutErase die block (s.advanceTo t))).count (ctrDie die 2)).dropBand n).flash =
        (landingErased die block m.planes (withoutErase die block (s.advanceTo t))).flash :=
      (dropBand_flash _ _).trans ((State.count_frame _ _).flash (by decide))
    refine ⟨_, k, eraseDone_frees hany hat hb hd hm, by rw [hflash]; exact hk, he, hdense, ?_, ?_, ?_⟩
    · rw [hcycles]
      unfold withoutErase
      rw [advanceTo_flash]
    · rw [hflash]
      unfold landingErased withoutErase
      rw [advanceTo_flash]
      exact find_put_self _ _ _
    · rw [hflash]
      unfold landingErased withoutErase
      rw [advanceTo_flash]
  · obtain ⟨n, hrun⟩ := eraseDone_retires (t := t) hany
    refine ⟨_, hrun, ?_, ?_⟩
    · rw [(State.dropBand_frame _ _).faults (by decide)]
      exact retire_block_retired die block _
    · rw [dropBand_flash, (retire_block_path die block _).2, fault_die_erases, (State.raise_frame _ _ _).flash (by decide),
        (State.count_frame _ _).flash (by decide)]
      unfold withoutErase
      rw [advanceTo_flash]
  · exact ⟨_, eraseResume_runs hfree, rfl⟩
  · exact ⟨_, eraseResume_waits hbusy, advanceTo_eq t s⟩

end Sys2Proof.Proofs
end

section

/-! SUPPORT. The dedup tables: post-process, the membership filter, and lines rebuilt after poison (R122, R126, R130, R292). -/

namespace Sys2Proof.Proofs

open Sys2Proof.Machine Sys2Proof.Safety Sys2Proof.Laws

/-! ### A cluster's fault keeps the map and the queue -/

/-- A step that leaves the data path and the queue of post-process. -/
structure PostKept (s u : State) : Prop where
  path : u.path = s.path
  ppq : u.ddup.ppq = s.ddup.ppq

theorem PostKept.trans {s u w : State} (h : PostKept s u) (k : PostKept u w) : PostKept s w := ⟨k.path.trans h.path, k.ppq.trans h.ppq⟩

theorem PostKept.of_eq {s u : State} (h : u.path = s.path) (k : u.ddup = s.ddup) : PostKept s u := ⟨h, congrArg (·.ppq) k⟩

theorem record_postKept (code : Nat) (data : List Nat) (s : State) : PostKept s (s.record code data) :=
  .of_eq ((State.record_frame _ _ _).path (by decide)) ((State.record_frame _ _ _).ddup (by decide))

theorem retire_cluster_kept (n : Nat) (s : State) : PostKept s (s.retire (.cluster n)) := by
  have hunit : PostKept s (s.retireUnit (.cluster n)) := by
    unfold State.retireUnit
    split
    · exact ⟨rfl, rfl⟩
    · rw [if_neg (by exact Bool.false_ne_true)]
      dsimp only
      have hslack (p : WriteOp → Bool) : PostKept s ((((s.addRetired (.cluster n)).record 0x5201 [n]).raise Reg.DDUP_STATUS 2).useSlack p 0x5201) :=
        .of_eq (by rw [(State.useSlack_frame _ _ _).path (by decide), (State.raise_frame _ _ _).path (by decide), (State.record_frame _ _ _).path (by decide)]; rfl)
          (by rw [(State.useSlack_frame _ _ _).ddup (by decide), (State.raise_frame _ _ _).ddup (by decide), (State.record_frame _ _ _).ddup (by decide)]; rfl)
      split
      · obtain ⟨hpath, hppq⟩ := record_postKept 0x5103 [] { (_ : State) with ddup := _ }
        exact ⟨hpath.trans (hslack _).path, hppq.trans (hslack _).ppq⟩
      · exact hslack _
  have f := State.recompute_frame s.budget (s.retireUnit (.cluster n))
  exact hunit.trans (.of_eq (f.path (by decide)) (f.ddup (by decide)))

/-- A fault entered in the log. -/
def withFault (u : FUnit) (kind : Nat) (s : State) : State :=
  { s with faults := { s.faults with log := s.faults.log ++ [(u, kind, s.time.now)] } }

theorem fault_cluster_kept (n kind item : Nat) (data : List Nat) (s : State) : PostKept s (s.fault (.cluster n) kind item data) := by
  have f := State.recordOnce_frame kind item data s
  have hrec : PostKept s (s.recordOnce kind item data) := .of_eq (f.path (by decide)) (f.ddup (by decide))
  unfold State.fault
  dsimp only
  split
  · exact ⟨hrec.path, hrec.ppq⟩
  · split
    · obtain ⟨hpath, hppq⟩ := retire_cluster_kept n (withFault (.cluster n) kind (s.recordOnce kind item data))
      exact ⟨hpath.trans hrec.path, hppq.trans hrec.ppq⟩
    · exact ⟨hrec.path, hrec.ppq⟩

/-! ### Post-process -/

/-- A grain taken off the queue, on a cluster. -/
def postTaken (cluster : Nat) (rest : List PpEnt) (s : State) : State :=
  (State.useIsland .ddup cluster { s with ddup := { s.ddup with ppq := rest } }).count (ctrCluster cluster 0)

theorem useIsland_eq (k : IslandKind) (n : Nat) (s : State) :
    ∃ f, f.retired = s.faults.retired ∧ s.useIsland k n = { s with faults := f } := by
  refine ⟨(s.useIsland k n).faults, (State.useIsland_frame k n s).retired (by decide), ?_⟩
  unfold State.useIsland State.noteUse State.wakeIsland
  split
  · rfl
  · split <;> rfl

theorem count_eq (i : Nat) (s : State) : ∃ c, s.count i = { s with tally := c } := by
  unfold State.count State.countN
  split <;> exact ⟨_, rfl⟩

theorem postTaken_eq (cluster t : Nat) (rest : List PpEnt) (s : State) :
    ∃ w f c, f.retired = s.faults.retired ∧ postTaken cluster rest (s.advanceTo t) = { s with time := w, ddup := { s.ddup with ppq := rest }, faults := f, tally := c } := by
  rw [advanceTo_eq]
  unfold postTaken
  obtain ⟨f, hret, hf⟩ := useIsland_eq .ddup cluster { s with time := (s.advanceTo t).time, ddup := { s.ddup with ppq := rest } }
  obtain ⟨c, hc⟩ := count_eq (ctrCluster cluster 0) { s with time := (s.advanceTo t).time, ddup := { s.ddup with ppq := rest }, faults := f }
  exact ⟨_, f, c, hret, (congrArg (State.count (ctrCluster cluster 0)) hf).trans hc⟩

/-- An index answer does not turn on the time, the queue, the counters, or which islands are awake. -/
theorem indexAnswer_taken {s : State} {f : FaultState} (w : TimeState) (c : TallyState) (hret : f.retired = s.faults.retired) {ppq : List PpEnt} {fp : Nat}
    {guard : Sys2Proof.DWord} {keyslot : Nat} {answer : Option (Option FpEnt)} :
    ({ s with time := w, ddup := { s.ddup with ppq := ppq }, faults := f, tally := c } : State).indexAnswer fp guard keyslot answer =
      s.indexAnswer fp guard keyslot answer := by
  have herasing (n : Nat) : ({ s with time := w, ddup := { s.ddup with ppq := ppq }, faults := f, tally := c } : State).bandErasing n =
      s.bandErasing n := by
    unfold State.bandErasing State.blockDone
    rw [hret]
  have hfits (e : FpEnt) : ({ s with time := w, ddup := { s.ddup with ppq := ppq }, faults := f, tally := c } : State).entryFits fp guard keyslot e =
      s.entryFits fp guard keyslot e := by
    unfold State.entryFits State.sgtFits
    dsimp only
    simp only [herasing]
    rfl
  unfold State.indexAnswer
  rw [funext hfits]
  rfl

/-- What post-process does with a grain taken off the queue. -/
def postActed (ix : Option FpEnt) (p : PpEnt) (s : State) : State :=
  match s.postEnt p with
  | none => s
  | some (e, r) =>
    match (s.indexAnswer p.fp r.check.guard r.keyslot (some ix)).join with
    | some i => if s.overlayRoom p.vol p.grain then (s.cachePut i).postHit p e r i.sgt else s
    | none => s.dedupInsert p.vol p.grain p.fp e r.check r.keyslot

/-- A grain whose clusters disagree, left at the head of the queue. -/
def postDisagreed (cluster : Nat) (p : PpEnt) (rest : List PpEnt) (s : State) : State :=
  ((State.useIsland .ddup cluster { s with ddup := { s.ddup with ppq := { p with cluster := some cluster } :: rest } }).raise Reg.DDUP_STATUS 1).count
    (ctrCluster cluster 4)

section Post

variable {t cluster : Nat} {ix : Option FpEnt} {p : PpEnt} {rest : List PpEnt} {s : State}
  (hq : s.ddup.ppq = p :: rest) (hrun : s.postRuns = true) (hok : s.clusterOk cluster = true) (hp : p.cluster ≠ some cluster)

include hq hrun hok hp

theorem postProcessGrain_runs (agree : Bool) :
    Sys2Proof.Machine.exec (.postProcessGrain t ix agree cluster) s =
      .next (if !agree then (postDisagreed cluster p rest (s.advanceTo t)).fault (.cluster cluster) 0x5101 cluster [cluster, p.vol, p.grain]
        else postActed ix p (postTaken cluster rest (s.advanceTo t))) := by
  have hgo : ¬ (!(s.advanceTo t).postRuns || !(s.advanceTo t).clusterOk cluster ||
      (p.cluster == some cluster && (s.advanceTo t).clustersOk != [cluster])) = true := by
    rw [advanceTo_eq]
    change ¬ (!s.postRuns || !s.clusterOk cluster || (p.cluster == some cluster && s.clustersOk != [cluster])) = true
    rw [hrun, hok, beq_eq_false_iff_ne.mpr hp]
    exact Bool.false_ne_true
  show execPostProcessGrain t ix agree cluster s = _
  unfold execPostProcessGrain
  dsimp only
  rw [show (s.advanceTo t).ddup.ppq = p :: rest by rw [advanceTo_ddup]; exact hq]
  exact congrArg Host.Outcome.next (if_neg hgo)

end Post

theorem postActed_changed (ix : Option FpEnt) {p : PpEnt} {s : State} (h : s.postEnt p = none) : postActed ix p s = s := by
  unfold postActed
  rw [h]

theorem postActed_hit {ix : Option FpEnt} {p : PpEnt} {s : State} {e : MapEnt} {r : Record} {x : FpEnt} (h : s.postEnt p = some (e, r))
    (hx : (s.indexAnswer p.fp r.check.guard r.keyslot (some ix)).join = some x) (hroom : s.overlayRoom p.vol p.grain = true) :
    postActed ix p s = (s.cachePut x).postHit p e r x.sgt := by
  unfold postActed
  rw [h]
  dsimp only
  rw [hx]
  exact if_pos hroom

/-- A type 0x02 record that post-process appended, and the reference counted. -/
def postAppended (r : Record) (sgt : Nat) (s : State) : State :=
  (((s.appendRecord .home r (fun _ => slotOf s.time.now + ringSlots) true).1.addRef sgt).count 7)

theorem postAppended_kept (r : Record) (sgt : Nat) (s : State) :
    (postAppended r sgt s).ddup = { s.ddup with sgt := NMap.upd s.ddup.sgt sgt (fun g => { g with refs := g.refs + 1, pending := false }) } := by
  unfold postAppended
  rw [(State.count_frame _ _).ddup (by decide)]
  unfold State.addRef State.updSgt
  dsimp only
  rw [(State.appendRecord_frame _ _ _ _ _).ddup (by decide)]

/-- A grain's entry made a reference to a shared grain. -/
def postReferred (p : PpEnt) (e : MapEnt) (s : State) : State :=
  ((({ s with path := { s.path with map := NMap.put s.path.map (grainKey p.vol p.grain) e } } : State).promote p.vol
    (p.grain / 4)).mapTouched).markDirty p.vol (p.grain / 4)

theorem postReferred_kept (p : PpEnt) (e : MapEnt) (s : State) :
    (postReferred p e s).ddup = s.ddup ∧ (postReferred p e s).path.map = NMap.put s.path.map (grainKey p.vol p.grain) e := by
  unfold postReferred
  rw [(State.markDirty_frame _ _ _).ddup (by decide), (State.markDirty_frame _ _ _).path (by decide)]
  exact ⟨rfl, rfl⟩

theorem postHit_refers (p : PpEnt) (e : MapEnt) (old : Record) (sgt : Nat) (s : State) :
    (s.postHit p e old sgt).ddup = { s.ddup with sgt := NMap.upd s.ddup.sgt sgt (fun g => { g with refs := g.refs + 1, pending := false }) } ∧
      NMap.find (s.postHit p e old sgt).path.map (grainKey p.vol p.grain) = some { e with kind := 4, sgt := sgt, seq := s.path.nextRecSeq } := by
  have h (r : Record) (u : State) (hr : r.seq = s.path.nextRecSeq) (hu : u.ddup = s.ddup)  :
      let w := postReferred p { e with kind := 4, sgt := sgt, seq := r.seq } (postAppended r sgt u)
      (if w.mirrors then w.emit (.mirror [r]) else w).ddup =
        { s.ddup with sgt := NMap.upd s.ddup.sgt sgt (fun g => { g with refs := g.refs + 1, pending := false }) } ∧
      NMap.find (if w.mirrors then w.emit (.mirror [r]) else w).path.map (grainKey p.vol p.grain) =
        some { e with kind := 4, sgt := sgt, seq := s.path.nextRecSeq } := by
    intro w
    obtain ⟨hddup, hmap⟩ := postReferred_kept p { e with kind := 4, sgt := sgt, seq := r.seq } (postAppended r sgt u)
    have hw : w.ddup = { s.ddup with sgt := NMap.upd s.ddup.sgt sgt (fun g => { g with refs := g.refs + 1, pending := false }) } ∧
        NMap.find w.path.map (grainKey p.vol p.grain) = some { e with kind := 4, sgt := sgt, seq := s.path.nextRecSeq } := by
      refine ⟨hddup.trans ((postAppended_kept r sgt u).trans (by rw [hu])), ?_⟩
      rw [hmap, find_put_self, hr]
    clear_value w
    split
    · rw [(State.emit_frame _ _).ddup (by decide), (State.emit_frame _ _).path (by decide)]
      exact hw
    · exact hw
  unfold State.postHit
  dsimp only
  exact h _ _ rfl rfl

/-- A state that answers post-process as another does, with the head of the queue taken off. -/
structure TakenFrom (rest : List PpEnt) (s y : State) : Prop where
  path : y.path = s.path
  sgt : y.ddup.sgt = s.ddup.sgt
  ppq : y.ddup.ppq = rest
  ent (p : PpEnt) : y.postEnt p = s.postEnt p
  room (vol g : Nat) : y.overlayRoom vol g = s.overlayRoom vol g
  answer (fp : Nat) (guard : Sys2Proof.DWord) (k : Nat) (a : Option (Option FpEnt)) : y.indexAnswer fp guard k a = s.indexAnswer fp guard k a

theorem postTaken_from (cluster t : Nat) (rest : List PpEnt) (s : State) : TakenFrom rest s (postTaken cluster rest (s.advanceTo t)) := by
  obtain ⟨w, f, c, hret, htaken⟩ := postTaken_eq cluster t rest s
  rw [htaken]
  exact ⟨rfl, rfl, rfl, fun _ => rfl, fun _ _ => rfl, fun _ _ _ _ => indexAnswer_taken w c hret⟩

theorem postActed_none {rest : List PpEnt} {s y : State} (hy : TakenFrom rest s y) (ix : Option FpEnt) {p : PpEnt} (h : s.postEnt p = none) :
    (postActed ix p y).ddup.ppq = rest ∧ (postActed ix p y).path.map = s.path.map ∧ (postActed ix p y).ddup.sgt = s.ddup.sgt := by
  rw [postActed_changed ix ((hy.ent p).trans h)]
  exact ⟨hy.ppq, congrArg (·.map) hy.path, hy.sgt⟩

theorem cachePut_kept (x : FpEnt) (s : State) : (s.cachePut x).ddup.sgt = s.ddup.sgt ∧ (s.cachePut x).ddup.ppq = s.ddup.ppq := by
  unfold State.cachePut
  exact ⟨rfl, rfl⟩

theorem postActed_refers {rest : List PpEnt} {s y : State} (hy : TakenFrom rest s y) {ix : Option FpEnt} {p : PpEnt} {e : MapEnt} {r : Record}
    {x : FpEnt} {g : Sgt} (h : s.postEnt p = some (e, r)) (hx : (s.indexAnswer p.fp r.check.guard r.keyslot (some ix)).join = some x)
    (hroom : s.overlayRoom p.vol p.grain = true) (hg : NMap.find s.ddup.sgt x.sgt = some g) :
    (postActed ix p y).ddup.ppq = rest ∧
      NMap.find (postActed ix p y).path.map (grainKey p.vol p.grain) = some { e with kind := 4, sgt := x.sgt, seq := s.path.nextRecSeq } ∧
      NMap.find (postActed ix p y).ddup.sgt x.sgt = some { g with refs := g.refs + 1, pending := false } := by
  rw [postActed_hit ((hy.ent p).trans h) ((congrArg Option.join (hy.answer _ _ _ _)).trans hx) ((hy.room _ _).trans hroom)]
  obtain ⟨hddup, hmap⟩ := postHit_refers p e r x.sgt (y.cachePut x)
  have hseq : (y.cachePut x).path.nextRecSeq = s.path.nextRecSeq :=
    congrArg (·.nextRecSeq) (((State.cachePut_frame x y).path (by decide)).trans hy.path)
  have hppq := congrArg DdupState.ppq hddup
  have hsgt := congrArg DdupState.sgt hddup
  have hold : (y.cachePut x).ddup.sgt = s.ddup.sgt := (cachePut_kept x y).1.trans hy.sgt
  dsimp only at hsgt hppq
  rw [hseq] at hmap
  rw [hold] at hsgt
  refine ⟨hppq.trans ((cachePut_kept x y).2.trans hy.ppq), hmap, ?_⟩
  rw [hsgt, find_upd, if_pos rfl, hg, Option.map_some]

theorem postDisagreed_kept (cluster t : Nat) (p : PpEnt) (rest : List PpEnt) (s : State) :
    let y := postDisagreed cluster p rest (s.advanceTo t)
    y.path = s.path ∧ y.ddup.ppq = { p with cluster := some cluster } :: rest ∧ y.time = (s.advanceTo t).time := by
  have f (x : State) : Frame 52 x (((x.useIsland .ddup cluster).raise Reg.DDUP_STATUS 1).count (ctrCluster cluster 4)) :=
    Frame.comp (State.count_frame _ _) rfl (Frame.comp (State.raise_frame _ _ _) rfl (Frame.comp (State.useIsland_frame _ _ _) rfl (Frame.refl x)))
  unfold postDisagreed
  intro y
  have fy := f { (s.advanceTo t) with ddup := { (s.advanceTo t).ddup with ppq := { p with cluster := some cluster } :: rest } }
  have hddup := fy.ddup (by decide)
  refine ⟨(fy.path (by decide)).trans (advanceTo_path t s), ?_, fy.time (by decide)⟩
  rw [hddup]

/-! ### The filter -/

theorem nodup_eraseDups (l : List Nat) : l.eraseDups.Nodup := by
  induction hn : l.length using Nat.strong_induction_on generalizing l with
  | _ n ih =>
    cases l with
    | nil => exact List.nodup_nil
    | cons a l =>
      rw [List.eraseDups_cons, List.nodup_cons]
      have hlt : (l.filter fun b => !b == a).length < n := by
        rw [← hn]
        exact Nat.lt_succ_of_le (List.length_filter_le _ _)
      refine ⟨?_, ih _ hlt _ rfl⟩
      rw [List.mem_eraseDups, List.mem_filter]
      simp

/-- The filter that the partitions give. -/
def swappedFilter (index : List FpEnt) (bits : List Nat) : List Nat :=
  ((index.map (fun e => filterBits e.fp)).flatten ++ bits.filter (· < 2 ^ 36)).eraseDups

theorem mem_swappedFilter (index : List FpEnt) (bits : List Nat) (b : Nat) :
    b ∈ swappedFilter index bits ↔ (∃ e ∈ index, b ∈ filterBits e.fp) ∨ b ∈ bits ∧ b < 2 ^ 36 := by
  unfold swappedFilter
  rw [List.mem_eraseDups, List.mem_append, List.mem_filter, decide_eq_true_eq, ← List.flatMap_def, List.mem_flatMap]

theorem filterSwap_swaps {t : Nat} {bits : List Nat} {s : State} (h : 0x8000 < s.filterFill) :
    Sys2Proof.Machine.exec (.filterSwap t bits) s =
      .next { (s.advanceTo t) with ddup := { s.ddup with filter := swappedFilter s.ddup.index bits } } := by
  have hgo : ¬ (s.advanceTo t).filterFill ≤ 0x8000 := by
    unfold State.filterFill
    rw [advanceTo_ddup]
    exact Nat.not_le.mpr h
  show execFilterSwap t bits s = _
  unfold execFilterSwap
  dsimp only
  rw [if_neg hgo, advanceTo_ddup]
  rfl

theorem filterSwap_stays {t : Nat} {bits : List Nat} {s : State} (h : s.filterFill ≤ 0x8000) :
    Sys2Proof.Machine.exec (.filterSwap t bits) s = .next (s.advanceTo t) := by
  refine congrArg Host.Outcome.next (if_pos ?_)
  unfold State.filterFill
  rw [advanceTo_ddup]
  exact h

/-! ### Lines rebuilt after poison -/

theorem mapLineRebuilt_knows (t first n : Nat) (s : State) :
    ∃ u, Sys2Proof.Machine.exec (.mapLineRebuilt t first n) s = .next u ∧
      (∀ x, x ∈ u.path.unknown ↔ x ∈ s.path.unknown ∧ ¬ (first ≤ x ∧ x < first + n)) ∧ u.path.map = s.path.map := by
  refine ⟨_, rfl, ?_⟩
  dsimp only
  split
  · rw [(State.record_frame _ _ _).path (by decide), advanceTo_path]
    refine ⟨fun x => ?_, rfl⟩
    rw [List.mem_filter, Bool.not_eq_true', decide_eq_false_iff_not]
  · rename_i hnone
    rw [advanceTo_path] at hnone ⊢
    refine ⟨fun x => ⟨fun hx => ⟨hx, fun hin => hnone ?_⟩, fun hx => hx.1⟩, rfl⟩
    exact List.any_eq_true.mpr ⟨x, hx, decide_eq_true hin⟩

theorem sgtLineRebuilt_knows (t line : Nat) (s : State) :
    ∃ u, Sys2Proof.Machine.exec (.sgtLineRebuilt t line) s = .next u ∧
      (∀ x, x ∈ u.ddup.lostLines ↔ x ∈ s.ddup.lostLines ∧ x ≠ line) ∧ u.ddup.sgt = s.ddup.sgt := by
  refine ⟨_, rfl, fun x => ?_, ?_⟩
  · rw [advanceTo_ddup, List.mem_filter, bne_iff_ne]
  · rw [advanceTo_ddup]

/-- Settles O43. -/
theorem postProcessAndTablesAreKept : Obligations.PostProcessAndTablesAreKept := by
  refine ⟨fun t cluster ix p rest s hq hrun hok hp => ⟨fun hnone => ?_, fun e r x g he hx hroom hg => ?_, ?_⟩,
    fun t bits s => ⟨fun h => ⟨_, filterSwap_swaps h, mem_swappedFilter _ _, nodup_eraseDups _, rfl⟩,
      fun h => ⟨_, filterSwap_stays h, advanceTo_eq t s⟩⟩, mapLineRebuilt_knows, sgtLineRebuilt_knows⟩
  · exact ⟨_, postProcessGrain_runs hq hrun hok hp true, postActed_none (postTaken_from cluster t rest s) ix hnone⟩
  · exact ⟨_, postProcessGrain_runs hq hrun hok hp true, postActed_refers (postTaken_from cluster t rest s) he hx hroom hg⟩
  · obtain ⟨hpath, hppq, htime⟩ := postDisagreed_kept cluster t p rest s
    have hkept := fault_cluster_kept cluster 0x5101 cluster [cluster, p.vol, p.grain] (postDisagreed cluster p rest (s.advanceTo t))
    exact ⟨_, postProcessGrain_runs hq hrun hok hp false, congrArg (·.map) (hkept.path.trans hpath), hkept.ppq.trans hppq,
      fault_logged (congrArg TimeState.now htime)⟩

end Sys2Proof.Proofs
end

section

/-! SUPPORT. Modules at their ports: insertion, roles, removal, the module commands and the spare probe (R183, R188 to R190, R270). -/

namespace Sys2Proof.Proofs

open Sys2Proof.Machine Sys2Proof.Safety Sys2Proof.Laws

/-! ### Ports and roles -/

theorem port_updPort (q : Nat) (f : Port → Port) (s : State) (p : Nat) :
    (s.updPort q f).port p = if q = p then f (s.port p) else s.port p := by
  unfold State.updPort State.port NMap.getD
  dsimp only
  rw [find_put]
  by_cases h : q = p
  · rw [if_pos h, if_pos h, h, Option.getD_some]
  · rw [if_neg h, if_neg h]

theorem port_updPort_self (p : Nat) (f : Port → Port) (s : State) : (s.updPort p f).port p = f (s.port p) :=
  (port_updPort p f s p).trans (if_pos rfl)

theorem port_updPort_ne {p q : Nat} (h : q ≠ p) (f : Port → Port) (s : State) : (s.updPort p f).port q = s.port q :=
  (port_updPort p f s q).trans (if_neg (Ne.symm h))

theorem port_of_strp {s u : State} (h : u.strp = s.strp) (p : Nat) : u.port p = s.port p := by
  unfold State.port
  rw [h]

/-- A step that leaves the ports and the roles of their modules. -/
structure RolesKept (s u : State) : Prop where
  ports : u.strp.ports = s.strp.ports
  order : u.strp.order = s.strp.order
  spares : u.strp.spares = s.strp.spares
  failed : u.strp.failed = s.strp.failed

theorem RolesKept.of_strp {s u : State} (h : u.strp = s.strp) : RolesKept s u :=
  ⟨congrArg (·.ports) h, congrArg (·.order) h, congrArg (·.spares) h, congrArg (·.failed) h⟩

theorem RolesKept.trans {s u w : State} (h : RolesKept s u) (k : RolesKept u w) : RolesKept s w :=
  ⟨k.ports.trans h.ports, k.order.trans h.order, k.spares.trans h.spares, k.failed.trans h.failed⟩

theorem RolesKept.port {s u : State} (h : RolesKept s u) (p : Nat) : u.port p = s.port p := by
  unfold State.port
  rw [h.ports]

theorem memberChanged_roles (s : State) : RolesKept s s.memberChanged := by
  unfold State.memberChanged
  dsimp only
  have h := (State.writeParam_frame 3 0 (Config.memberBody s.strp.k s.strp.m s.strp.order s.strp.spares (s.strp.gen + 1))
    { s with strp := { s.strp with gen := s.strp.gen + 1 } }).strp (by decide)
  exact ⟨congrArg (·.ports) h, congrArg (·.order) h, congrArg (·.spares) h, congrArg (·.failed) h⟩

theorem endRebuild_roles (s : State) : RolesKept s s.endRebuild := by
  unfold State.endRebuild
  split
  · split
    · refine ⟨?_, ?_, ?_, ?_⟩ <;> rw [(State.record_frame _ _ _).strp (by decide)] <;> rfl
    · exact .of_strp rfl
  · exact .of_strp rfl

theorem startRebuild_roles (target lost : Nat) (spare : Bool) (s : State) : RolesKept s (s.startRebuild target lost spare) := by
  unfold State.startRebuild
  split
  · exact ⟨rfl, rfl, rfl, rfl⟩
  · refine RolesKept.trans ?_ (endRebuild_roles _)
    refine ⟨?_, ?_, ?_, ?_⟩ <;> rw [(State.record_frame _ _ _).strp (by decide)]

theorem unspare_roles (p : Nat) (s : State) :
    (s.unspare p).strp.ports = s.strp.ports ∧ (s.unspare p).strp.order = s.strp.order ∧
      (s.unspare p).strp.spares = s.strp.spares.filter (· != p) := by
  unfold State.unspare
  by_cases h : s.strp.spares.contains p = true
  · rw [if_pos h]
    obtain ⟨hports, horder, hspares, -⟩ := memberChanged_roles { s with strp := { s.strp with spares := s.strp.spares.filter (· != p) } }
    exact ⟨hports, horder, hspares⟩
  · rw [if_neg h]
    refine ⟨rfl, rfl, (List.filter_eq_self.mpr fun q hq => ?_).symm⟩
    refine bne_iff_ne.mpr fun he => h ?_
    exact List.contains_iff_mem.mpr (he ▸ hq)

theorem not_mem_unspare (p : Nat) (s : State) : p ∉ (s.unspare p).strp.spares := by
  rw [(unspare_roles p s).2.2, List.mem_filter]
  simp

theorem port_unspare (p q : Nat) (s : State) : (s.unspare p).port q = s.port q := by
  unfold State.port
  rw [(unspare_roles p s).1]

/-! ### Insertion -/

/-- A port with a module seated. -/
def seated (p : Nat) (s : State) : State := s.updPort p (fun x => { x with present := true })

theorem refuseModule_port (p cause : Nat) (s : State) :
    (s.refuseModule p cause).port p = { s.port p with state := 7, powered := false } ∧
      ∀ q, q ≠ p → (s.refuseModule p cause).port q = s.port q := by
  have h := (State.record_frame 0x4013 [p, Config.itemCode 0x4013 cause]
    (s.updPort p (fun x => { x with state := 7, powered := false }))).strp (by decide)
  exact ⟨(port_of_strp h p).trans (port_updPort_self p _ s), fun q hq => (port_of_strp h q).trans (port_updPort_ne hq _ s)⟩

/-- What the identity of a seated module comes to. -/
def moduleSeen (p : Nat) (magicOk crcOk : Bool) (part pop serial : Nat) (s : State) : State :=
  match s.moduleRefusal p magicOk crcOk part pop serial with
  | some c => s.refuseModule p c
  | none =>
    let model := ((s.image.parts.find? (fun x => x.1 == part)).map (·.2)).getD 0
    s.updPort p (fun x => { x with state := 1, powered := true, model := model, part := part, serial := serial, pop := pop })

theorem modulePresent_seen {t p part pop serial : Nat} {magicOk crcOk : Bool} {s : State} (hp : p < 16) (habs : (s.port p).present = false)
    (hid : s.md.mode.identifies = true) :
    Sys2Proof.Machine.exec (.modulePresent t p magicOk crcOk part pop serial) s =
      .next (moduleSeen p magicOk crcOk part pop serial (seated p (s.advanceTo t))) := by
  have hgo : ¬ (16 ≤ p ∨ (((s.advanceTo t).port p).present || !(s.advanceTo t).md.mode.identifies) = true) := by
    rw [port_of_strp (advanceTo_strp t s), advanceTo_md, habs, hid]
    simpa using hp
  exact congrArg Host.Outcome.next (if_neg hgo)

/-- A module that is not refused has a die model of the image. -/
theorem model_of_notRefused {p part pop serial : Nat} {magicOk crcOk : Bool} {s : State}
    (h : s.moduleRefusal p magicOk crcOk part pop serial = none) :
    ∃ m, (s.image.parts.find? (fun x => x.1 == part)).map (·.2) = some m ∧ (part, m) ∈ s.image.parts := by
  unfold State.moduleRefusal at h
  dsimp only at h
  cases hf : s.image.parts.find? (fun x => x.1 == part) with
  | none =>
    rw [hf] at h
    cases magicOk <;> cases crcOk <;> cases h
  | some x =>
    have hx : x.1 = part := beq_iff_eq.mp (List.find?_some (p := fun x : Nat × Nat => x.1 == part) hf)
    exact ⟨x.2, rfl, hx ▸ List.mem_of_find?_eq_some hf⟩

theorem seated_port {t p : Nat} (s : State) :
    (seated p (s.advanceTo t)).port p = { s.port p with present := true } ∧ ∀ q, q ≠ p → (seated p (s.advanceTo t)).port q = s.port q := by
  have h := port_of_strp (advanceTo_strp t s)
  exact ⟨(port_updPort_self p _ _).trans (by rw [h]), fun q hq => (port_updPort_ne hq _ _).trans (h q)⟩

theorem moduleSeen_refused {p part pop serial c : Nat} {magicOk crcOk : Bool} {s : State}
    (h : s.moduleRefusal p magicOk crcOk part pop serial = some c) : moduleSeen p magicOk crcOk part pop serial s = s.refuseModule p c := by
  unfold moduleSeen
  rw [h]

theorem moduleSeen_identified {p part pop serial m : Nat} {magicOk crcOk : Bool} {s : State}
    (h : s.moduleRefusal p magicOk crcOk part pop serial = none) (hm : (s.image.parts.find? (fun x => x.1 == part)).map (·.2) = some m) :
    moduleSeen p magicOk crcOk part pop serial s =
      s.updPort p (fun x => { x with state := 1, powered := true, model := m, part := part, serial := serial, pop := pop }) := by
  unfold moduleSeen
  rw [h, hm]
  rfl

/-! ### Roles -/

/-- A module in the role it takes: its dies in use, its port's state shown. -/
def roleTaken (p role : Nat) (bad : List Nat) (fresh : Bool) (s : State) : State :=
  ((((s.takeDies p bad fresh).updPort p (fun x => { x with state := role })).raise Reg.STRP_STATUS 0x80).record 0x4010 [p, role]).count (ctrPort p 18)

/-- A module that comes to be a spare, in the set of spares. -/
def spareAdded (p role : Nat) (s : State) : State :=
  if role = 3 ∧ !s.strp.spares.contains p then ({ s with strp := { s.strp with spares := s.strp.spares ++ [p] } }).memberChanged else s

/-- The strips of a port's stripes that were skipped. -/
def skippedOn (p : Nat) (s : State) : Nat :=
  (s.path.stripes.map (fun x => match NMap.find s.path.bands x.band with
    | some b => ((b.stripsOn p).filter (fun i => x.skipped.contains i)).length | none => 0)).sum

/-- A member that failed, replaced by the module that comes to its port: it is rebuilt there. -/
def memberReplaced (p : Nat) (s : State) : State :=
  let y := ({ s with strp := { s.strp with failed := s.strp.failed.filter (· != p) } }).memberChanged
  let stripes := markLost y.path.bands (fun b => b.stripsOn p) false y.path.stripes
  ({ y with path := { y.path with stripes := stripes } }).startRebuild p (lostCount stripes - lostCount y.path.stripes + skippedOn p y) false

theorem takeDies_strp (p : Nat) (bad : List Nat) (fresh : Bool) (s : State) : (s.takeDies p bad fresh).strp = s.strp :=
  (State.takeDies_frame p bad fresh s).strp (by decide)

theorem roleTaken_port (p role : Nat) (bad : List Nat) (fresh : Bool) (s : State) :
    (roleTaken p role bad fresh s).port p = { s.port p with state := role } ∧ (roleTaken p role bad fresh s).strp.spares = s.strp.spares := by
  have h : (roleTaken p role bad fresh s).strp = ((s.takeDies p bad fresh).updPort p (fun x => { x with state := role })).strp := by
    unfold roleTaken
    rw [(State.count_frame _ _).strp (by decide), (State.record_frame _ _ _).strp (by decide), (State.raise_frame _ _ _).strp (by decide)]
  refine ⟨?_, ?_⟩
  · rw [port_of_strp h, port_updPort_self, port_of_strp (takeDies_strp p bad fresh s)]
  · rw [h]
    exact congrArg (·.spares) (takeDies_strp p bad fresh s)

theorem spareAdded_roles (p role : Nat) (s : State) :
    (spareAdded p role s).strp.ports = s.strp.ports ∧ (role = 3 → p ∈ (spareAdded p role s).strp.spares) := by
  unfold spareAdded
  split
  · obtain ⟨hports, -, hspares, -⟩ := memberChanged_roles { s with strp := { s.strp with spares := s.strp.spares ++ [p] } }
    refine ⟨hports, fun _ => ?_⟩
    rw [hspares]
    exact List.mem_append_right _ (List.mem_singleton.mpr rfl)
  · rename_i hnot
    refine ⟨rfl, fun hrole => ?_⟩
    by_contra hout
    exact hnot ⟨hrole, by simpa using hout⟩

theorem memberReplaced_roles (p : Nat) (s : State) :
    (memberReplaced p s).strp.ports = s.strp.ports ∧ (memberReplaced p s).strp.spares = s.strp.spares ∧ p ∉ (memberReplaced p s).strp.failed := by
  unfold memberReplaced
  dsimp only
  obtain ⟨hports, -, hspares, hfailed⟩ := memberChanged_roles { s with strp := { s.strp with failed := s.strp.failed.filter (· != p) } }
  generalize State.memberChanged _ = y at hports hspares hfailed ⊢
  have h := startRebuild_roles p (lostCount (markLost y.path.bands (fun b => b.stripsOn p) false y.path.stripes) - lostCount y.path.stripes + skippedOn p y)
    false { y with path := { y.path with stripes := markLost y.path.bands (fun b => b.stripsOn p) false y.path.stripes } }
  refine ⟨h.ports.trans hports, h.spares.trans hspares, ?_⟩
  rw [h.failed]
  dsimp only
  rw [hfailed, List.mem_filter]
  simp

theorem spareAdded_flash (p role : Nat) (s : State) : (spareAdded p role s).flash = s.flash := by
  unfold spareAdded
  split
  · exact (State.memberChanged_frame _).flash (by decide)
  · rfl

theorem memberReplaced_flash (p : Nat) (s : State) : (memberReplaced p s).flash = s.flash := by
  unfold memberReplaced
  dsimp only
  rw [(State.startRebuild_frame _ _ _ _).flash (by decide)]
  exact (State.memberChanged_frame _).flash (by decide)

/-- A new die of a port is one of its dies, and none of those that failed. -/
theorem mem_newDies {p d : Nat} {bad : List Nat} {s : State} (h : d ∈ s.newDies p bad) : d / 128 = p ∧ d ∉ bad := by
  unfold State.newDies at h
  rw [List.mem_filter, List.mem_flatten] at h
  obtain ⟨⟨l, hl, hd⟩, hok⟩ := h
  rw [List.mem_map] at hl
  obtain ⟨c, hc, rfl⟩ := hl
  rw [List.mem_map] at hd
  obtain ⟨i, hi, rfl⟩ := hd
  unfold State.portChannels at hc
  rw [List.mem_filter, List.mem_map] at hc
  obtain ⟨⟨j, hj, rfl⟩, -⟩ := hc
  rw [List.mem_range] at hj
  have hi' := List.mem_range.mp (List.mem_filter.mp hi).1
  refine ⟨by omega, fun hin => ?_⟩
  rw [Bool.and_eq_true, Bool.not_eq_true', List.contains_eq_mem, decide_eq_false_iff_not] at hok
  exact hok.1 hin

theorem takeDies_dies (p : Nat) (bad : List Nat) (fresh : Bool) (s : State) :
    (∀ d, d ∈ (s.takeDies p bad fresh).flash.dies → d / 128 = p → d ∉ bad) ∧
      ∀ d, d / 128 ≠ p → (d ∈ (s.takeDies p bad fresh).flash.dies ↔ d ∈ s.flash.dies) := by
  have h : ∃ x : State, (s.takeDies p bad fresh).flash.dies = s.flash.dies.filter (fun d => d / 128 != p) ++ x.newDies p bad := by
    have hrec : (bad.foldl (fun s d => s.record 0x3001 [d]) s).flash = s.flash :=
      foldl_keep (fun q => q.flash) (fun q d => (State.record_frame _ _ _).flash (by decide)) _ s
    unfold State.takeDies
    dsimp only
    rw [← hrec]
    generalize bad.foldl (fun s d => s.record 0x3001 [d]) s = y
    have hfresh : (if fresh = true then y.freshBlocks p else y).flash.dies = y.flash.dies := by cases fresh <;> rfl
    generalize (if fresh = true then y.freshBlocks p else y) = z at hfresh ⊢
    rw [← hfresh]
    refine ⟨z, ?_⟩
    split <;> rfl
  obtain ⟨x, hx⟩ := h
  rw [hx]
  refine ⟨fun d hd hp => ?_, fun d hp => ?_⟩
  · rw [List.mem_append, List.mem_filter] at hd
    rcases hd with ⟨-, hne⟩ | hd
    · exact absurd hp (bne_iff_ne.mp hne)
    · exact (mem_newDies hd).2
  · rw [List.mem_append, List.mem_filter]
    exact ⟨fun hd => hd.elim (·.1) fun hn => absurd (mem_newDies hn).1 hp, fun hd => .inl ⟨hd, bne_iff_ne.mpr hp⟩⟩

/-- A module that trained, in its role. -/
def roleAssigned (p : Nat) (pages : List (Nat × Option DieParams)) (s : State) : State :=
  let y := spareAdded p (s.roleFor p) (roleTaken p (s.roleFor p) (s.badDies p pages) (s.replaces p || !s.booting) s)
  (if s.replaces p then memberReplaced p y else y).recompute s.budget

theorem moduleRoleAssigned_takes {t p : Nat} {pages : List (Nat × Option DieParams)} {s : State} (hst : (s.port p).state = 1) :
    Sys2Proof.Machine.exec (.moduleRoleAssigned t p true pages) s = .next (roleAssigned p pages (s.advanceTo t)) := by
  have hgo : ¬ ((s.advanceTo t).port p).state ≠ 1 := by
    rw [port_of_strp (advanceTo_strp t s)]
    exact not_not.mpr hst
  show execModuleRoleAssigned t p true pages s = _
  unfold execModuleRoleAssigned
  dsimp only
  rw [if_neg hgo, if_neg (c := (!true) = true) Bool.false_ne_true]
  rfl

theorem moduleRoleAssigned_refuses {t p : Nat} {pages : List (Nat × Option DieParams)} {s : State} (hst : (s.port p).state = 1) :
    Sys2Proof.Machine.exec (.moduleRoleAssigned t p false pages) s = .next ((s.advanceTo t).refuseModule p 6) := by
  have hgo : ¬ ((s.advanceTo t).port p).state ≠ 1 := by
    rw [port_of_strp (advanceTo_strp t s)]
    exact not_not.mpr hst
  exact congrArg Host.Outcome.next ((if_neg hgo).trans (if_pos rfl))

/-- What a module that trained finds: its port in its role, the spares and the failed members as they then are, and its dies. -/
theorem roleAssigned_takes (p : Nat) (pages : List (Nat × Option DieParams)) (s : State) :
    (roleAssigned p pages s).port p = { s.port p with state := s.roleFor p } ∧
      (s.roleFor p = 3 → p ∈ (roleAssigned p pages s).strp.spares) ∧ (s.replaces p = true → p ∉ (roleAssigned p pages s).strp.failed) ∧
      (∀ d, d ∈ (roleAssigned p pages s).flash.dies → d / 128 = p → d ∉ s.badDies p pages) ∧
      ∀ d, d / 128 ≠ p → (d ∈ (roleAssigned p pages s).flash.dies ↔ d ∈ s.flash.dies) := by
  obtain ⟨hport, -⟩ := roleTaken_port p (s.roleFor p) (s.badDies p pages) (s.replaces p || !s.booting) s
  have hflash : (roleTaken p (s.roleFor p) (s.badDies p pages) (s.replaces p || !s.booting) s).flash =
      (s.takeDies p (s.badDies p pages) (s.replaces p || !s.booting)).flash := by
    unfold roleTaken
    rw [(State.count_frame _ _).flash (by decide), (State.record_frame _ _ _).flash (by decide), (State.raise_frame _ _ _).flash (by decide)]
    rfl
  have hdies := takeDies_dies p (s.badDies p pages) (s.replaces p || !s.booting) s
  unfold roleAssigned
  dsimp only
  rw [← hflash] at hdies
  generalize roleTaken p (s.roleFor p) (s.badDies p pages) (s.replaces p || !s.booting) s = x at hport hdies ⊢
  obtain ⟨hports, hspare⟩ := spareAdded_roles p (s.roleFor p) x
  have hadd := spareAdded_flash p (s.roleFor p) x
  generalize spareAdded p (s.roleFor p) x = y at hports hspare hadd ⊢
  rw [(State.recompute_frame _ _).strp (by decide), (State.recompute_frame _ _).flash (by decide),
    port_of_strp ((State.recompute_frame s.budget _).strp (by decide))]
  have hy : y.port p = x.port p := by
    unfold State.port
    rw [hports]
  by_cases hrep : s.replaces p = true
  · rw [if_pos hrep]
    obtain ⟨hports', hspares', hfailed⟩ := memberReplaced_roles p y
    rw [memberReplaced_flash, hadd]
    refine ⟨?_, fun hrole => by rw [hspares']; exact hspare hrole, fun _ => hfailed, hdies⟩
    unfold State.port
    rw [hports']
    exact hy.trans hport
  · rw [if_neg hrep, hadd]
    exact ⟨hy.trans hport, hspare, fun h => absurd h hrep, hdies⟩

end Sys2Proof.Proofs
end

section

/-! SUPPORT. Modules that leave: removal, the module commands and the spare probe (R183, R190, R270). -/

namespace Sys2Proof.Proofs

open Sys2Proof.Machine Sys2Proof.Safety Sys2Proof.Laws

/-! ### A member that fails -/

/-- A member's failure, before its place is filled: recorded and shown. -/
def memberDown (port cause : Nat) (s : State) : State :=
  (((s.record 0x4000 [port, cause]).raise Reg.STRP_STATUS 1).updPort port (fun p => { p with state := 5 })).flashSlack (fun b => b.stripsOn port) 0x3200

theorem memberDown_strp (port cause : Nat) (s : State) :
    (memberDown port cause s).strp = { s.strp with ports := NMap.put s.strp.ports port { (s.port port) with state := 5 } } := by
  unfold memberDown
  rw [(State.flashSlack_frame _ _ _).strp (by decide)]
  have h : ((s.record 0x4000 [port, cause]).raise Reg.STRP_STATUS 1).strp = s.strp := by
    rw [(State.raise_frame _ _ _).strp (by decide), (State.record_frame _ _ _).strp (by decide)]
  unfold State.updPort State.port
  rw [h]

/-- What follows once a spare has taken a member's place: its work moves there, and its strips are rebuilt. -/
def spareWorks (p sp index lost : Nat) (s : State) : State :=
  ((((s.record 0x4001 [sp, index]).raise Reg.STRP_STATUS 2).moveFlashWork ((List.range 128).map (128 * p + ·))
    (fun d => some (128 * sp + d % 128))).fillBands.memberChanged.startRebuild sp lost true).lossTest

theorem spareWorks_roles (p sp index lost : Nat) (s : State) : RolesKept s (spareWorks p sp index lost s) := by
  have h : ((((s.record 0x4001 [sp, index]).raise Reg.STRP_STATUS 2).moveFlashWork ((List.range 128).map (128 * p + ·))
      (fun d => some (128 * sp + d % 128))).fillBands).strp = s.strp := by
    rw [(State.fillBands_frame _).strp (by decide), (State.moveFlashWork_frame _ _ _).strp (by decide), (State.raise_frame _ _ _).strp (by decide),
      (State.record_frame _ _ _).strp (by decide)]
  exact ((RolesKept.of_strp h).trans ((memberChanged_roles _).trans (startRebuild_roles _ _ _ _))).trans
    (.of_strp ((State.lossTest_frame _).strp (by decide)))

/-- What follows once a member's place stays empty. -/
def placeEmpty (p : Nat) (order : List Nat) (s : State) : State :=
  (if order.contains p then s.memberChanged.record 0x4004 [p] else s.memberChanged).sealLeft.lossTest

theorem placeEmpty_roles (p : Nat) (order : List Nat) (s : State) : RolesKept s (placeEmpty p order s) := by
  have hend (x : State) : RolesKept x x.sealLeft.lossTest :=
    .of_strp (by rw [(State.lossTest_frame _).strp (by decide), (State.sealLeft_frame _).strp (by decide)])
  unfold placeEmpty
  refine RolesKept.trans (u := if order.contains p then s.memberChanged.record 0x4004 [p] else s.memberChanged) ?_ (hend _)
  split
  · exact (memberChanged_roles s).trans (.of_strp ((State.record_frame _ _ _).strp (by decide)))
  · exact memberChanged_roles s

section Fails

variable {p cause : Nat} {s : State} (hin : s.strp.order.contains p = true) (hok : s.strp.failed.contains p = false)

include hin hok

theorem memberFail_alone (hnone : lowest s.strp.spares = none) :
    ((s.memberFail p cause).port p).present = (s.port p).present ∧ (s.memberFail p cause).strp.failed = s.strp.failed ++ [p] ∧
      (s.memberFail p cause).strp.order = s.strp.order := by
  have hgo : ¬ (s.strp.failed.contains p || !(s.strp.order.contains p || s.strp.reshape.any (fun r => r.oldMembers.contains p))) = true := by
    rw [hok, hin]
    exact Bool.false_ne_true
  have hdown := memberDown_strp p cause s
  have hrun : ∃ x : State, x.strp = { (memberDown p cause s).strp with failed := (memberDown p cause s).strp.failed ++ [p] } ∧
      s.memberFail p cause = placeEmpty p s.strp.order x := by
    unfold State.memberFail
    rw [if_neg hgo, if_pos hin, hnone]
    exact ⟨_, rfl, rfl⟩
  obtain ⟨x, hx, hrun⟩ := hrun
  have hkept := placeEmpty_roles p s.strp.order x
  rw [hrun, hkept.port, hkept.failed, hkept.order, hx]
  rw [hdown] at hx ⊢
  refine ⟨?_, rfl, rfl⟩
  unfold State.port NMap.getD
  rw [hx]
  dsimp only
  rw [find_put_self]
  rfl

theorem memberFail_spare {q : Nat} (hq : lowest s.strp.spares = some q) :
    ((s.memberFail p cause).port p).present = (s.port p).present ∧
      (s.memberFail p cause).strp.order = s.strp.order.map (fun x => if x = p then q else x) ∧
      (s.memberFail p cause).strp.spares = s.strp.spares.filter (· != q) := by
  have hgo : ¬ (s.strp.failed.contains p || !(s.strp.order.contains p || s.strp.reshape.any (fun r => r.oldMembers.contains p))) = true := by
    rw [hok, hin]
    exact Bool.false_ne_true
  have hdown := memberDown_strp p cause s
  have hrun : ∃ (x : State) (lost : Nat), x.strp = { (memberDown p cause s).strp with
        order := (memberDown p cause s).strp.order.map (fun x => if x = p then q else x)
        spares := (memberDown p cause s).strp.spares.filter (· != q) } ∧
      s.memberFail p cause = spareWorks p q (s.strp.order.idxOf p) lost (x.updPort q (fun p => { p with state := 4 })) := by
    unfold State.memberFail
    rw [if_neg hgo, if_pos hin, hq]
    exact ⟨_, _, rfl, rfl⟩
  obtain ⟨x, lost, hx, hrun⟩ := hrun
  have hkept := spareWorks_roles p q (s.strp.order.idxOf p) lost (x.updPort q (fun p => { p with state := 4 }))
  rw [hdown] at hx
  have hport : (x.port p).present = (s.port p).present := by
    unfold State.port NMap.getD
    rw [hx]
    dsimp only
    rw [find_put_self]
    rfl
  rw [hrun, hkept.port, hkept.order, hkept.spares, port_updPort]
  refine ⟨?_, congrArg (·.order) hx, congrArg (·.spares) hx⟩
  split <;> exact hport

end Fails

/-! ### Removal -/

/-- A removed module: its power off, its channels and dies out of use, and the removal shown. -/
def moduleGone (p : Nat) (s : State) : State :=
  ((((s.updPort p (fun x => { x with present := false })).portOff p (s.port p).state).raise Reg.STRP_STATUS 0x80).record 0x4011 [p]).count (ctrPort p 19)

theorem moduleGone_strp (p : Nat) (s : State) :
    (moduleGone p s).strp = ((s.updPort p (fun x => { x with present := false })).portOff p (s.port p).state).strp := by
  unfold moduleGone
  rw [(State.count_frame _ _).strp (by decide), (State.record_frame _ _ _).strp (by decide), (State.raise_frame _ _ _).strp (by decide)]

theorem moduleGone_port (p : Nat) (s : State) : (moduleGone p s).port p = { s.port p with present := false, powered := false } := by
  rw [port_of_strp (moduleGone_strp p s)]
  refine (port_updPort_self p (fun x => { x with state := (s.port p).state, powered := false }) _).trans ?_
  rw [port_updPort_self]

theorem moduleGone_roles (p : Nat) (s : State) :
    (moduleGone p s).strp.order = s.strp.order ∧ (moduleGone p s).strp.spares = s.strp.spares ∧ (moduleGone p s).strp.failed = s.strp.failed ∧
      (moduleGone p s).isMember p = s.isMember p := by
  unfold State.isMember
  rw [moduleGone_strp]
  exact ⟨rfl, rfl, rfl, rfl⟩

theorem portOff_port (p n : Nat) (s : State) : (s.portOff p n).port p = { s.port p with state := n, powered := false } :=
  port_updPort_self p (fun x => { x with state := n, powered := false }) s

theorem portOff_dies (p n : Nat) (s : State) : ∀ d ∈ (s.portOff p n).flash.dies, d / 128 ≠ p := fun _ hd =>
  bne_iff_ne.mp (List.mem_filter.mp hd).2

theorem moduleGone_dies (p : Nat) (s : State) : ∀ d ∈ (moduleGone p s).flash.dies, d / 128 ≠ p := by
  unfold moduleGone
  rw [(State.count_frame _ _).flash (by decide), (State.record_frame _ _ _).flash (by decide), (State.raise_frame _ _ _).flash (by decide)]
  exact portOff_dies p _ _

/-- A module that is gone, its port absent. -/
def moduleAbsent (p : Nat) (old : List Nat) (s : State) : State := (s.updPort p (fun x => { x with state := 0 })).recompute old

theorem removal_unpowered {t p : Nat} {s : State} (hpres : (s.port p).present = true) (hid : s.md.mode.identifies = false) :
    Sys2Proof.Machine.exec (.moduleRemoval t p) s =
      .next ((s.advanceTo t).updPort p (fun x => { x with present := false, powered := false })) := by
  have hgo : ¬ (!((s.advanceTo t).port p).present) = true := by
    rw [port_of_strp (advanceTo_strp t s), hpres]
    exact Bool.false_ne_true
  exact congrArg Host.Outcome.next ((if_neg hgo).trans (if_pos (by rw [advanceTo_md, hid]; rfl)))

theorem moduleAbsent_kept (p : Nat) (old : List Nat) (s : State) :
    (moduleAbsent p old s).port p = { s.port p with state := 0 } ∧ (moduleAbsent p old s).strp.order = s.strp.order ∧
      (moduleAbsent p old s).strp.spares = s.strp.spares ∧ (moduleAbsent p old s).strp.failed = s.strp.failed ∧
      (moduleAbsent p old s).flash = s.flash := by
  have hstrp : (moduleAbsent p old s).strp = (s.updPort p (fun x => { x with state := 0 })).strp := (State.recompute_frame _ _).strp (by decide)
  refine ⟨(port_of_strp hstrp p).trans (port_updPort_self p _ s), ?_, ?_, ?_, (State.recompute_frame _ _).flash (by decide)⟩
  · rw [hstrp]
    rfl
  · rw [hstrp]
    rfl
  · rw [hstrp]
    rfl

theorem removal_runs {t p : Nat} {s : State} (hpres : (s.port p).present = true) (hid : s.md.mode.identifies = true) :
    ∃ old cause, Sys2Proof.Machine.exec (.moduleRemoval t p) s = .next (moduleAbsent p old
      (if ((moduleGone p (s.advanceTo t)).isMember p && (s.port p).state == 4) = true then (moduleGone p (s.advanceTo t)).memberFail p cause
        else (moduleGone p (s.advanceTo t)).unspare p)) := by
  have hport := port_of_strp (advanceTo_strp t s) p
  have hgo : ¬ (!((s.advanceTo t).port p).present) = true := by
    rw [hport, hpres]
    exact Bool.false_ne_true
  have hrun : ¬ (!(s.advanceTo t).md.mode.identifies) = true := by
    rw [advanceTo_md, hid]
    exact Bool.false_ne_true
  refine ⟨(s.advanceTo t).budget, if (s.advanceTo t).strp.rebuild.any (fun r => r.spares.contains p) then 4 else 1, ?_⟩
  rw [← hport]
  exact congrArg Host.Outcome.next ((if_neg hgo).trans (if_neg hrun))

theorem removal_leaves {t p : Nat} {s : State} (hpres : (s.port p).present = true) (hid : s.md.mode.identifies = true)
    (hnot : ¬ (s.isMember p = true ∧ (s.port p).state = 4)) :
    ∃ u, Sys2Proof.Machine.exec (.moduleRemoval t p) s = .next u ∧
      u.port p = { s.port p with state := 0, present := false, powered := false } ∧ p ∉ u.strp.spares ∧
      (∀ d ∈ u.flash.dies, d / 128 ≠ p) ∧ u.strp.order = s.strp.order := by
  obtain ⟨old, cause, hrun⟩ := removal_runs (t := t) hpres hid
  have hstrp := advanceTo_strp t s
  obtain ⟨horder, -, -, hmember⟩ := moduleGone_roles p (s.advanceTo t)
  have hgone := moduleGone_port p (s.advanceTo t)
  have hdies := moduleGone_dies p (s.advanceTo t)
  rw [port_of_strp hstrp] at hgone
  rw [hstrp] at horder
  have hm : (s.advanceTo t).isMember p = s.isMember p := by
    unfold State.isMember
    rw [hstrp]
  have hif : ¬ ((moduleGone p (s.advanceTo t)).isMember p && (s.port p).state == 4) = true := by
    rw [hmember, hm, Bool.and_eq_true, beq_iff_eq]
    exact hnot
  rw [if_neg hif] at hrun
  generalize moduleGone p (s.advanceTo t) = y at hrun horder hgone hdies
  obtain ⟨hport, horder', hspares, -, hflash⟩ := moduleAbsent_kept p old (y.unspare p)
  refine ⟨_, hrun, ?_, ?_, ?_, ?_⟩
  · rw [hport, port_unspare, hgone]
  · rw [hspares]
    exact not_mem_unspare p y
  · rw [hflash, (State.unspare_frame _ _).flash (by decide)]
    exact hdies
  · exact horder'.trans ((unspare_roles p y).2.1.trans horder)

theorem removal_fails {t p : Nat} {s : State} (hpres : (s.port p).present = true) (hid : s.md.mode.identifies = true)
    (h4 : (s.port p).state = 4) (hin : s.strp.order.contains p = true) (hok : s.strp.failed.contains p = false) :
    ∃ u, Sys2Proof.Machine.exec (.moduleRemoval t p) s = .next u ∧ (u.port p).state = 0 ∧ (u.port p).present = false ∧
      (s.strp.spares = [] → p ∈ u.strp.failed ∧ u.strp.order = s.strp.order) ∧
      ∀ q, lowest s.strp.spares = some q → u.strp.order = s.strp.order.map (fun x => if x = p then q else x) ∧
        u.strp.spares = s.strp.spares.filter (· != q) := by
  obtain ⟨old, cause, hrun⟩ := removal_runs (t := t) hpres hid
  have hstrp := advanceTo_strp t s
  obtain ⟨horder, hspares, hfailed, hmember⟩ := moduleGone_roles p (s.advanceTo t)
  have hgone := moduleGone_port p (s.advanceTo t)
  rw [hstrp] at horder hspares hfailed
  have hm : (s.advanceTo t).isMember p = true := by
    unfold State.isMember
    rw [hstrp, hin]
    rfl
  rw [if_pos (by rw [hmember, hm, h4]; rfl)] at hrun
  generalize moduleGone p (s.advanceTo t) = y at hrun horder hspares hfailed hgone
  obtain ⟨hport, horder', hspares', hfailed', -⟩ := moduleAbsent_kept p old (y.memberFail p cause)
  have hin' : y.strp.order.contains p = true := by rw [horder]; exact hin
  have hok' : y.strp.failed.contains p = false := by rw [hfailed]; exact hok
  have hpresent : ((y.memberFail p cause).port p).present = false := by
    have hy : (y.port p).present = false := by rw [hgone]
    cases hq : lowest y.strp.spares with
    | none => exact (memberFail_alone hin' hok' hq).1.trans hy
    | some q => exact (memberFail_spare hin' hok' hq).1.trans hy
  refine ⟨_, hrun, congrArg Port.state hport, (congrArg Port.present hport).trans hpresent, fun hnone => ?_, fun q hq => ?_⟩
  · obtain ⟨-, hf, ho⟩ := memberFail_alone (cause := cause) hin' hok' (by rw [hspares, hnone]; rfl)
    rw [hfailed', horder', hf, ho]
    exact ⟨List.mem_append_right _ (List.mem_singleton.mpr rfl), horder⟩
  · obtain ⟨-, ho, hs⟩ := memberFail_spare (cause := cause) hin' hok' (by rw [hspares]; exact hq)
    rw [horder', hspares', ho, hs, horder, hspares]
    exact ⟨rfl, rfl⟩

/-! ### Module commands -/

theorem modcmd_row : rowIs Reg.STRP_MODCMD .pairedSoleBench 0xFFFFFFC0 = true := by decide

theorem modcmd_allows {m : Mode} (h : m ∈ [Mode.paired, Mode.sole, Mode.bench]) : When.allows .pairedSoleBench m = true := by
  simp only [List.mem_cons, List.not_mem_nil, or_false] at h
  rcases h with rfl | rfl | rfl <;> rfl

/-- What a module command does. -/
def modcmd (op p : Nat) (s : State) : State :=
  match op with
  | 1 => s.moduleRelease p
  | 2 => s.moduleMakeSpare p
  | 3 => s.moduleMakeUnused p
  | _ => s

theorem writeModcmd_acts {t : Nat} {o : Origin} {v : Word} {s : State} (ho : Open s) (hm : s.md.mode ∈ [Mode.paired, Mode.sole, Mode.bench]) :
    ∃ x, x.strp = s.strp ∧ x.image = s.image ∧ (s.advanceTo t).writeModcmd o v = modcmd (bits v 5 4) (bits v 3 0) x := by
  obtain ⟨r, x, hx, -, -, hact⟩ := gateWrite_acts (o := o) (t := t) (v := v) modcmd_row ho (modcmd_allows hm) (by decide)
    (fun _ s => modcmd (bits v 5 4) (bits v 3 0) s)
  exact ⟨x, hx.strp (by decide), hx.image (by decide), hact⟩

theorem bits_op (v : Word) (n : Nat) (h : bits (field n 5 4) 5 4 = n) : bits (withBits v 5 4 n) 5 4 = n :=
  (bits_withBits_of (by decide)).trans h

theorem bits_modPort (v : Word) (n : Nat) (h : bits (field n 5 4) 3 0 = 0) : bits (withBits v 5 4 n) 3 0 = bits v 3 0 :=
  bits_withBits_ne (by decide) h

/-- A module command acts on a state with the modules and the image as they were. -/
theorem modcmd_runs {t : Nat} {o : Origin} {s : State} (v : Word) {op : Nat} (h1 : bits (field op 5 4) 5 4 = op) (h2 : bits (field op 5 4) 3 0 = 0)
    (ho : Open s) (hm : s.md.mode ∈ [Mode.paired, Mode.sole, Mode.bench]) :
    ∃ x, x.strp = s.strp ∧ x.image = s.image ∧ (s.advanceTo t).writeModcmd o (withBits v 5 4 op) = modcmd op (bits v 3 0) x := by
  obtain ⟨x, hstrp, himage, hrun⟩ := writeModcmd_acts (t := t) (o := o) (v := withBits v 5 4 op) ho hm
  rw [bits_op v op h1, bits_modPort v op h2] at hrun
  exact ⟨x, hstrp, himage, hrun⟩

theorem refuseCommand_shows (s : State) :
    s.refuseCommand.strp = s.strp ∧ bit (s.refuseCommand.reg Reg.STRP_STATUS) 6 = true ∧ bit (s.refuseCommand.reg Reg.GCTL_ERR) 0 = true := by
  refine ⟨rfl, ?_, ?_⟩
  · unfold State.refuseCommand
    rw [reg_ignored_ne _ (by decide), reg_raise, bit_or, Bool.or_eq_true]
    exact .inr rfl
  · unfold State.refuseCommand
    rw [reg_ignored]
    exact bit_or_one _

theorem moduleRelease_releases {p : Nat} {s : State} (h : (s.port p).state ∈ [2, 3, 5, 7]) :
    (s.moduleRelease p).port p = { s.port p with state := 6, powered := false } ∧ p ∉ (s.moduleRelease p).strp.spares ∧
      ∀ d ∈ (s.moduleRelease p).flash.dies, d / 128 ≠ p := by
  have hstrp := (State.record_frame 0x4012 [p] ((s.portOff p 6).unspare p)).strp (by decide)
  unfold State.moduleRelease
  rw [if_pos h, port_of_strp hstrp, port_unspare, hstrp, (State.record_frame _ _ _).flash (by decide), (State.unspare_frame _ _).flash (by decide)]
  exact ⟨portOff_port p 6 s, not_mem_unspare p _, portOff_dies p 6 s⟩

theorem moduleRelease_member {p : Nat} {s : State} (h : (s.port p).state = 4) : s.moduleRelease p = s.refuseCommand :=
  if_neg (by rw [h]; decide)

theorem moduleMakeSpare_joins {p : Nat} {s : State} (h : (s.port p).state = 2) (hroom : s.spareRoom = true) (hsuits : s.suits p = true) :
    (s.moduleMakeSpare p).port p = { s.port p with state := 3 } ∧ (s.moduleMakeSpare p).strp.spares = s.strp.spares ++ [p] := by
  unfold State.moduleMakeSpare
  rw [if_neg (by rw [h]; decide), if_pos ⟨h, hroom, hsuits⟩]
  have hkept := memberChanged_roles (({ s with strp := { s.strp with spares := s.strp.spares ++ [p] } } : State).updPort p (fun x => { x with state := 3 }))
  rw [hkept.port, hkept.spares]
  exact ⟨port_updPort_self p _ _, rfl⟩

theorem moduleMakeSpare_refused {p : Nat} {s : State} (h : (s.port p).state = 2) (hno : s.spareRoom = false ∨ s.suits p = false) :
    s.moduleMakeSpare p = s.refuseCommand := by
  unfold State.moduleMakeSpare
  rw [if_neg (by rw [h]; decide), if_neg]
  rintro ⟨-, hroom, hsuits⟩
  rcases hno with hno | hno
  · rw [hno] at hroom
    cases hroom
  · rw [hno] at hsuits
    cases hsuits

theorem moduleMakeUnused_leaves {p : Nat} {s : State} (h : (s.port p).state = 3) :
    (s.moduleMakeUnused p).port p = { s.port p with state := 2 } ∧ (s.moduleMakeUnused p).strp.spares = s.strp.spares.filter (· != p) := by
  unfold State.moduleMakeUnused
  rw [if_neg (by rw [h]; decide), if_pos h, port_updPort_self, port_unspare]
  exact ⟨rfl, (unspare_roles p s).2.2⟩

theorem moduleMakeUnused_member {p : Nat} {s : State} (h : (s.port p).state = 4) : s.moduleMakeUnused p = s.refuseCommand := by
  unfold State.moduleMakeUnused
  rw [if_neg (by rw [h]; decide), if_neg (by rw [h]; decide)]

/-! ### The spare probe -/

/-- A spare's probe, with its result. -/
def probed (p : Nat) (ok : Bool) (s : State) : State :=
  { s with moor := { s.moor with
    spareProbes := NMap.put s.moor.spareProbes p s.time.now
    spareOk := s.moor.spareOk.filter (· != p) ++ (if ok then [p] else [])
    spareFail := s.moor.spareFail.filter (· != p) ++ (if ok then [] else [p]) } }

theorem spareProbe_runs {t p tick : Nat} {s : State} (ok : Bool) (ht : Ticking t s) (hin : s.strp.spares.contains p = true)
    (hbg : s.md.mode.backgroundRuns = true) (hlast : NMap.find s.moor.spareProbes p = some tick) (hdue : tick + 600 * secondTicks ≤ t) :
    Sys2Proof.Machine.exec (.spareProbe t p ok) s = .next (if ok then probed p ok (s.advanceTo t)
      else (((probed p ok (s.advanceTo t)).portOff p 7).unspare p).record 0x7061 [p]) := by
  show execSpareProbe t p ok s = _
  unfold execSpareProbe
  dsimp only
  rw [show NMap.find (s.advanceTo t).moor.spareProbes p = some tick by rw [advanceTo_moor]; exact hlast]
  have hgo : ¬ (!(s.advanceTo t).strp.spares.contains p || !decide (tick + 600 * secondTicks ≤ (s.advanceTo t).time.now) ||
      !(s.advanceTo t).md.mode.backgroundRuns) = true := by
    rw [advanceTo_strp, advanceTo_md, hin, hbg, advanceTo_now ht.1 ht.2.1 ht.2.2, decide_eq_true hdue]
    exact Bool.false_ne_true
  exact congrArg Host.Outcome.next (if_neg hgo)

theorem probed_moor {t p : Nat} {s : State} (ht : Ticking t s) (ok : Bool) :
    NMap.find (probed p ok (s.advanceTo t)).moor.spareProbes p = some t ∧
      (p ∈ (probed p ok (s.advanceTo t)).moor.spareOk ↔ ok = true) ∧ (p ∈ (probed p ok (s.advanceTo t)).moor.spareFail ↔ ok = false) := by
  refine ⟨(find_put_self _ _ _).trans (congrArg some (advanceTo_now ht.1 ht.2.1 ht.2.2)), ?_, ?_⟩
  · unfold probed
    cases ok <;> simp
  · unfold probed
    cases ok <;> simp

theorem spareProbe_acts {t p tick : Nat} {s : State} (ht : Ticking t s) (hin : s.strp.spares.contains p = true)
    (hbg : s.md.mode.backgroundRuns = true) (hlast : NMap.find s.moor.spareProbes p = some tick) (hdue : tick + 600 * secondTicks ≤ t) :
    (∃ u, Sys2Proof.Machine.exec (.spareProbe t p true) s = .next u ∧ NMap.find u.moor.spareProbes p = some t ∧ p ∈ u.moor.spareOk ∧
      p ∉ u.moor.spareFail ∧ u.strp = s.strp) ∧
    (∃ u, Sys2Proof.Machine.exec (.spareProbe t p false) s = .next u ∧ NMap.find u.moor.spareProbes p = some t ∧ p ∈ u.moor.spareFail ∧
      p ∉ u.moor.spareOk ∧ u.port p = { s.port p with state := 7, powered := false } ∧ p ∉ u.strp.spares) := by
  have hstrp (ok : Bool) : (probed p ok (s.advanceTo t)).strp = s.strp := advanceTo_strp t s
  refine ⟨?_, ?_⟩
  · obtain ⟨hprobe, hok, hfail⟩ := probed_moor (p := p) ht true
    exact ⟨_, spareProbe_runs true ht hin hbg hlast hdue, hprobe, hok.mpr rfl, fun h => absurd (hfail.mp h) (by decide), hstrp true⟩
  · obtain ⟨hprobe, hok, hfail⟩ := probed_moor (p := p) ht false
    have hport := port_of_strp (hstrp false) p
    refine ⟨_, spareProbe_runs false ht hin hbg hlast hdue, ?_⟩
    rw [if_neg Bool.false_ne_true]
    generalize probed p false (s.advanceTo t) = y at hprobe hok hfail hport
    have hrec := (State.record_frame 0x7061 [p] ((y.portOff p 7).unspare p)).strp (by decide)
    rw [(State.record_frame _ _ _).moor (by decide), (State.unspare_frame _ _).moor (by decide), port_of_strp hrec, hrec, port_unspare]
    refine ⟨hprobe, hfail.mpr rfl, fun h => absurd (hok.mp h) (by decide), ?_, not_mem_unspare p _⟩
    rw [← hport]
    exact portOff_port p 7 y

theorem moduleCommands_act {t : Nat} {o : Origin} {v : Word} {s : State} (ho : Open s) (hm : s.md.mode ∈ [Mode.paired, Mode.sole, Mode.bench]) :
    let p := bits v 3 0
    ((s.port p).state ∈ [2, 3, 5, 7] → ∃ u, Sys2Proof.Machine.exec (.moduleRelease t o v) s = .next u ∧
      u.port p = { s.port p with state := 6, powered := false } ∧ p ∉ u.strp.spares ∧ ∀ d ∈ u.flash.dies, d / 128 ≠ p) ∧
    ((s.port p).state = 4 → ∃ u, Sys2Proof.Machine.exec (.moduleRelease t o v) s = .next u ∧ u.strp = s.strp ∧
      bit (u.reg Reg.STRP_STATUS) 6 = true ∧ bit (u.reg Reg.GCTL_ERR) 0 = true) ∧
    ((s.port p).state = 2 → s.spareRoom = true → s.suits p = true → ∃ u, Sys2Proof.Machine.exec (.moduleMakeSpare t o v) s = .next u ∧
      u.port p = { s.port p with state := 3 } ∧ u.strp.spares = s.strp.spares ++ [p]) ∧
    ((s.port p).state = 2 → (s.spareRoom = false ∨ s.suits p = false) → ∃ u, Sys2Proof.Machine.exec (.moduleMakeSpare t o v) s = .next u ∧ u.strp = s.strp ∧
      bit (u.reg Reg.STRP_STATUS) 6 = true) ∧
    ((s.port p).state = 3 → ∃ u, Sys2Proof.Machine.exec (.moduleMakeUnused t o v) s = .next u ∧
      u.port p = { s.port p with state := 2 } ∧ u.strp.spares = s.strp.spares.filter (· != p)) ∧
    ((s.port p).state = 4 → ∃ u, Sys2Proof.Machine.exec (.moduleMakeUnused t o v) s = .next u ∧ u.strp = s.strp ∧
      bit (u.reg Reg.STRP_STATUS) 6 = true) := by
  intro p
  obtain ⟨x, hx, -, hrelease⟩ := modcmd_runs (t := t) (o := o) v (op := 1) (by decide) (by decide) ho hm
  obtain ⟨y, hy, hyimage, hspare⟩ := modcmd_runs (t := t) (o := o) v (op := 2) (by decide) (by decide) ho hm
  obtain ⟨z, hz, -, hunused⟩ := modcmd_runs (t := t) (o := o) v (op := 3) (by decide) (by decide) ho hm
  have hpx := port_of_strp hx p
  have hpy := port_of_strp hy
  have hpz := port_of_strp hz p
  have hroom : y.spareRoom = s.spareRoom := by
    unfold State.spareRoom
    rw [hy]
  have hsuits : y.suits p = s.suits p := by
    unfold State.suits State.memberModel
    rw [hyimage, hy]
    simp only [hpy]
  refine ⟨fun h => ?_, fun h => ?_, fun h h1 h2 => ?_, fun h h1 => ?_, fun h => ?_, fun h => ?_⟩
  · refine ⟨_, congrArg Host.Outcome.next hrelease, ?_⟩
    rw [← hpx] at h ⊢
    exact moduleRelease_releases h
  · refine ⟨_, congrArg Host.Outcome.next (hrelease.trans (moduleRelease_member (hpx ▸ h))), ?_⟩
    obtain ⟨hs, hb, he⟩ := refuseCommand_shows x
    exact ⟨hs.trans hx, hb, he⟩
  · refine ⟨_, congrArg Host.Outcome.next hspare, ?_⟩
    rw [← hpy] at h ⊢
    rw [← hroom] at h1
    rw [← hsuits] at h2
    rw [← hy]
    exact moduleMakeSpare_joins h h1 h2
  · refine ⟨_, congrArg Host.Outcome.next (hspare.trans (moduleMakeSpare_refused ((congrArg Port.state (hpy p)).trans h) ?_)), ?_⟩
    · rwa [hroom, hsuits]
    · obtain ⟨hs, hb, -⟩ := refuseCommand_shows y
      exact ⟨hs.trans hy, hb⟩
  · refine ⟨_, congrArg Host.Outcome.next hunused, ?_⟩
    rw [← hpz] at h ⊢
    rw [← hz]
    exact moduleMakeUnused_leaves h
  · refine ⟨_, congrArg Host.Outcome.next (hunused.trans (moduleMakeUnused_member ((congrArg Port.state hpz).trans h))), ?_⟩
    obtain ⟨hs, hb, -⟩ := refuseCommand_shows z
    exact ⟨hs.trans hz, hb⟩

/-- Settles O44. -/
theorem modulesComeAndGo : Obligations.ModulesComeAndGo := by
  refine ⟨?_, ?_, fun t p s hpres => ⟨fun hid => ?_, removal_leaves hpres, removal_fails hpres⟩,
    fun t o v s ho hm => moduleCommands_act ho hm,
    fun t p tick s ht hin hbg hlast hdue => spareProbe_acts ht hin hbg hlast hdue⟩
  · intro t p part pop serial magicOk crcOk s hp habs hid y
    have hrun := modulePresent_seen (t := t) (part := part) (pop := pop) (serial := serial) (magicOk := magicOk) (crcOk := crcOk) hp habs hid
    obtain ⟨hport, hothers⟩ := seated_port (t := t) (p := p) s
    change y.port p = _ at hport
    change ∀ q, q ≠ p → y.port q = _ at hothers
    have himage : y.image = s.image := advanceTo_image t s
    change _ = Host.Outcome.next (moduleSeen p magicOk crcOk part pop serial y) at hrun
    clear_value y
    refine ⟨fun c hc => ⟨_, hrun, ?_⟩, fun hnone => ?_⟩
    · obtain ⟨hp', ho'⟩ := refuseModule_port p c y
      rw [moduleSeen_refused hc, hp', hport]
      exact ⟨rfl, fun q hq => (ho' q hq).trans (hothers q hq)⟩
    · obtain ⟨m, hm, hmem⟩ := model_of_notRefused hnone
      refine ⟨_, m, hrun, himage ▸ hmem, ?_⟩
      rw [moduleSeen_identified hnone hm, port_updPort_self, hport]
      exact ⟨rfl, fun q hq => (port_updPort_ne hq _ y).trans (hothers q hq)⟩
  · intro t p pages s hst role
    have hport := port_of_strp (advanceTo_strp t s) p
    refine ⟨⟨_, moduleRoleAssigned_refuses hst, ?_⟩, ⟨_, moduleRoleAssigned_takes hst, ?_⟩⟩
    · rw [← hport]
      exact (refuseModule_port p 6 _).1
    · obtain ⟨hp, hspare, hrep, hin, hout⟩ := roleAssigned_takes p pages (s.advanceTo t)
      rw [advanceTo_flash] at hout
      rw [← hport]
      exact ⟨hp, hspare, hrep, hin, hout⟩
  · refine ⟨_, removal_unpowered hpres hid, ?_, ?_⟩
    · rw [port_updPort_self, port_of_strp (advanceTo_strp t s)]
    · exact congrArg (·.order) (advanceTo_strp t s)

end Sys2Proof.Proofs
end

section

/-! SUPPORT. The rebuild and its floor: firm bookings, restored strips, stripes past their parity, floor writes (R178, R180, R181). -/

namespace Sys2Proof.Proofs

open Sys2Proof.Machine Sys2Proof.Safety Sys2Proof.Laws

/-! ### Firm bookings -/

/-- A booking that a floor may hold: its owner is the floor, its slot in the window. -/
def InFloor (lo hi : Nat) (b : Booking) : Prop := b.seq = floorSeq ∧ lo ≤ b.slot ∧ b.slot < hi

/-- Bookings that keep every firm one, and hold no new firm one but a floor's in its window. -/
structure FirmKept (lo hi : Nat) (bs bs' : List Booking) : Prop where
  kept : ∀ b ∈ bs, b.firm = true → b ∈ bs'
  new : ∀ b ∈ bs', b.firm = true → b ∈ bs ∨ InFloor lo hi b

theorem FirmKept.refl (lo hi : Nat) (bs : List Booking) : FirmKept lo hi bs bs := ⟨fun _ h _ => h, fun _ h _ => .inl h⟩

theorem FirmKept.trans {lo hi : Nat} {a b c : List Booking} (h : FirmKept lo hi a b) (k : FirmKept lo hi b c) : FirmKept lo hi a c :=
  ⟨fun x hx hf => k.kept x (h.kept x hx hf) hf, fun x hx hf => (k.new x hx hf).elim (fun hb => h.new x hb hf) .inr⟩

theorem FirmKept.foldl {α : Type} {lo hi : Nat} {g : List Booking → α → List Booking} : ∀ (l : List α) (bs : List Booking),
    (∀ x ∈ l, ∀ c, FirmKept lo hi c (g c x)) → FirmKept lo hi bs (l.foldl g bs)
  | [], bs, _ => .refl lo hi bs
  | a :: l, bs, h => (h a (List.mem_cons_self ..) bs).trans (FirmKept.foldl l _ fun x hx => h x (List.mem_cons_of_mem _ hx))

/-- Soft work that waits leaves the firm bookings. -/
theorem FirmKept.append_soft {lo hi : Nat} (bs l : List Booking) (h : ∀ b ∈ l, b.firm = false) : FirmKept lo hi bs (bs ++ l) := by
  refine ⟨fun b hb _ => List.mem_append_left _ hb, fun b hb hf => ?_⟩
  rcases List.mem_append.mp hb with hb | hb
  · exact .inl hb
  · rw [h b hb] at hf
    cases hf

/-- Displacing a soft operation leaves the firm bookings. -/
theorem firmKept_wait {lo hi : Nat} {x : Booking} (hx : x.firm = false) (bs : List Booking) :
    FirmKept lo hi bs (bs.map (fun b => if sameOp x b && !b.running then { b with waits := true } else b)) := by
  have hfirm (b : Booking) (hb : b.firm = true) : ¬ (sameOp x b && !b.running) = true := by
    unfold sameOp
    rw [hx, hb]
    simp
  refine ⟨fun b hb hf => List.mem_map.mpr ⟨b, hb, if_neg (hfirm b hf)⟩, fun b hb hf => ?_⟩
  obtain ⟨c, hc, rfl⟩ := List.mem_map.mp hb
  have hcf : c.firm = true := by
    revert hf
    split
    · exact id
    · exact id
  rw [if_neg (hfirm c hcf)]
  exact .inl hc

theorem displace_firmKept (lo hi r slot : Nat) (bs : List Booking) : FirmKept lo hi bs (displace r slot bs) := by
  unfold displace
  refine FirmKept.foldl _ _ fun x hx c => ?_
  have hsoft : x.firm = false := by
    have h := (List.mem_filter.mp (List.mem_reverse.mp hx)).2
    simp only [Bool.and_eq_true, Bool.not_eq_true'] at h
    exact h.1.1.2
  split
  · exact .refl lo hi c
  · exact firmKept_wait hsoft c

theorem addBooking_firmKept {lo hi : Nat} {b : Booking} (h : b.firm = true → InFloor lo hi b) (bs : List Booking) :
    FirmKept lo hi bs (addBooking b bs) := by
  unfold addBooking
  split
  · rename_i hf
    refine FirmKept.trans ⟨fun x hx _ => List.mem_append_left _ hx, fun x hx _ => ?_⟩ (displace_firmKept lo hi _ _ _)
    rcases List.mem_append.mp hx with hx | hx
    · exact .inl hx
    · exact .inr (List.mem_singleton.mp hx ▸ h hf)
  · rename_i hf
    exact .append_soft bs [b] fun x hx => by rw [List.mem_singleton.mp hx]; simpa using hf

/-- A request's bookings are soft, or a floor's in a window. -/
def FloorAsk (lo hi limit : Nat) (firm : Bool) (seq : Nat) (slots : List Nat) : Prop :=
  firm = true → seq = floorSeq ∧ limit ≤ hi ∧ ∀ x ∈ slots, lo ≤ x ∧ x < limit

theorem FloorAsk.tail {lo hi limit seq slot : Nat} {firm : Bool} {rest : List Nat} (h : FloorAsk lo hi limit firm seq (slot :: rest)) :
    FloorAsk lo hi limit firm seq rest := fun hf =>
  ⟨(h hf).1, (h hf).2.1, fun x hx => (h hf).2.2 x (List.mem_cons_of_mem _ hx)⟩

/-- A die's booking: it stands in one of the slots asked for, and its entries lie from there to the limit. -/
theorem bookDie_firmKept {lo hi limit : Nat} {a : DieAsk} : ∀ (slots : List Nat) (bs : List Booking),
    FloorAsk lo hi limit a.firm a.seq slots → ∀ r, bookDie a limit bs slots = some r → FirmKept lo hi bs r.1 ∧ r.2 ∈ slots
  | [], bs, _, r, h => by
    unfold bookDie at h
    cases h
  | slot :: rest, bs, hask, r, h => by
    unfold bookDie at h
    dsimp only at h
    generalize (if a.whole = true then a.slots else min a.slots (limit - slot)) = n at h
    split at h
    · rename_i hok
      obtain rfl := Option.some.inj h
      rw [Bool.and_eq_true, decide_eq_true_eq] at hok
      refine ⟨FirmKept.foldl _ _ fun i hi' c => addBooking_firmKept (fun hf => ?_) c, List.mem_cons_self ..⟩
      obtain ⟨hseq, hlim, hslots⟩ := hask hf
      have hfirst := hslots slot (List.mem_cons_self ..)
      have hlast := List.mem_range.mp hi'
      refine ⟨hseq, ?_, ?_⟩
      · show lo ≤ slot + i
        omega
      · show slot + i < hi
        omega
    · obtain ⟨hk, hm⟩ := bookDie_firmKept rest bs hask.tail r h
      exact ⟨hk, List.mem_cons_of_mem _ hm⟩

/-- A transfer's slots follow one another from its first, and end with the slots it may take. -/
theorem spreadTakes_mem {room : Nat → Nat} : ∀ (fuel slot need : Nat) (l : List (Nat × Nat)), spreadTakes room fuel slot need = some l →
    ∀ x ∈ l, slot ≤ x.1 ∧ x.1 < slot + fuel
  | 0, slot, need, l, h => by
    unfold spreadTakes at h
    cases h
  | fuel + 1, slot, need, l, h => by
    unfold spreadTakes at h
    dsimp only at h
    split at h
    · cases h
    · split at h
      · obtain rfl := Option.some.inj h
        intro x hx
        rw [List.mem_singleton.mp hx]
        exact ⟨le_refl _, by omega⟩
      · obtain ⟨l', hl, rfl⟩ := Option.map_eq_some_iff.mp h
        intro x hx
        rcases List.mem_cons.mp hx with rfl | hx
        · exact ⟨le_refl _, by omega⟩
        · have := spreadTakes_mem fuel (slot + 1) _ l' hl x hx
          omega

theorem bookSpread_firmKept {lo hi limit : Nat} {a : Ask} : ∀ (slots : List Nat) (bs : List Booking),
    FloorAsk lo hi limit a.firm a.seq slots → ∀ r, bookSpread a limit bs slots = some r → FirmKept lo hi bs r.1
  | [], bs, _, r, h => by
    unfold bookSpread at h
    cases h
  | slot :: rest, bs, hask, r, h => by
    unfold bookSpread at h
    split at h
    · cases h
    · dsimp only at h
      split at h
      · exact bookSpread_firmKept rest bs hask.tail r h
      · rename_i takes ht
        obtain rfl := Option.some.inj h
        refine FirmKept.foldl _ _ fun x hx c => addBooking_firmKept (fun hf => ?_) c
        obtain ⟨hseq, hlim, hslots⟩ := hask hf
        have hfirst := hslots slot (List.mem_cons_self ..)
        have hx' := spreadTakes_mem _ _ _ _ ht x hx
        refine ⟨hseq, hfirst.1.trans hx'.1, ?_⟩
        show x.1 < hi
        omega

theorem mem_slotsFrom {first limit x : Nat} (h : x ∈ slotsFrom first limit) : first ≤ x ∧ x < limit := by
  obtain ⟨i, hi, rfl⟩ := List.mem_map.mp h
  have := List.mem_range.mp hi
  omega

theorem waitFor_soft {res n ticks seq slot : Nat} : ∀ b ∈ waitFor res n ticks seq slot, b.firm = false := fun b hb => by
  rw [List.eq_of_mem_replicate hb]

theorem softAsk (lo hi limit seq : Nat) (slots : List Nat) : FloorAsk lo hi limit false seq slots := fun h => nomatch h

theorem softDie_firmKept (lo hi : Nat) (s : State) (die slots seq : Nat) (bs : List Booking) : FirmKept lo hi bs (s.softDie die slots seq bs).1 := by
  unfold State.softDie
  dsimp only
  cases hr : bookDie { s.askDie die slots false seq false with cap := s.workCap die seq } (slotOf s.time.now + ringSlots) bs
      (s.ring (match s.portModel (die / 128) with | some m => s.dieFrom m die (slotOf s.time.now) false | none => slotOf s.time.now)) with
  | some r => exact (bookDie_firmKept _ _ (softAsk _ _ _ _ _) r hr).1
  | none => exact .append_soft _ _ waitFor_soft

theorem softChan_firmKept (lo hi : Nat) (s : State) (c ticks seq first : Nat) (bs : List Booking) :
    FirmKept lo hi bs (s.softChan c ticks seq first bs) := by
  unfold State.softChan
  split
  · exact .refl lo hi bs
  · split
    · rename_i r hr
      exact bookSpread_firmKept _ _ (softAsk _ _ _ _ _) _ hr
    · exact .append_soft _ _ waitFor_soft

/-- Background work is booked soft. -/
theorem bookWork_firmKept (lo hi seq die dieTicks chanTicks : Nat) (s : State) :
    FirmKept lo hi s.adm.bookings (s.bookWork seq die dieTicks chanTicks).adm.bookings := by
  unfold State.bookWork
  exact (softDie_firmKept lo hi s die _ seq s.adm.bookings).trans (softChan_firmKept lo hi s _ chanTicks seq _ _)

theorem bookNextStrip_firmKept (lo hi skip : Nat) (s : State) : FirmKept lo hi s.adm.bookings (s.bookNextStrip skip).adm.bookings := by
  have hfold (l : List (Nat × Nat × Nat × Nat)) (x : State) : FirmKept lo hi x.adm.bookings
      (l.foldl (fun (s : State) x => s.bookWork rebuildSeq x.1 (x.2.2.1 * (ceilDiv x.2.1 8192 * 8192)) x.2.2.2) x).adm.bookings := by
    induction l generalizing x with
    | nil => exact .refl lo hi _
    | cons a l ih => exact (bookWork_firmKept lo hi _ _ _ _ x).trans (ih _)
  unfold State.bookNextStrip
  split
  · split
    · exact hfold _ s
    · exact .refl lo hi _
  · exact .refl lo hi _

/-- A floor's strip is booked firm, from its window's first slot on. -/
theorem bookFloorStrip_firmKept (b : Band) (i slot : Nat) (s : State) :
    FirmKept slot (slot + 128) s.adm.bookings (s.bookFloorStrip b i slot).adm.bookings := by
  unfold State.bookFloorStrip
  dsimp only
  refine FirmKept.foldl _ _ fun x _ c => ?_
  have hfrom : slot ≤ (match s.portModel (x.1 / 128) with | some m => s.dieFrom m x.1 slot true | none => slot) := by
    split
    · unfold State.dieFrom
      split
      · exact le_refl _
      · exact le_max_left _ _
    · exact le_refl _
  have hslots (n : Nat) (hn : slot ≤ n) : FloorAsk slot (slot + 128) (slot + 128) true floorSeq (slotsFrom n (slot + 128)) := fun _ =>
    ⟨rfl, le_refl _, fun y hy => ⟨hn.trans (mem_slotsFrom hy).1, (mem_slotsFrom hy).2⟩⟩
  split
  · rename_i b1 y hy
    obtain ⟨hk, hm⟩ := bookDie_firmKept _ _ (hslots _ hfrom) _ hy
    split
    · rename_i b2 z hz
      exact hk.trans (bookSpread_firmKept _ _ (hslots y (hfrom.trans (mem_slotsFrom hm).1)) _ hz)
    · exact hk
  · exact .refl _ _ c

theorem bookReshapeFloor_firmKept (slot : Nat) (s : State) : FirmKept slot (slot + 128) s.adm.bookings (s.bookReshapeFloor slot).adm.bookings := by
  have hfold (b : Band) (l : List Nat) (x : State) : FirmKept slot (slot + 128) x.adm.bookings
      (l.foldl (fun s i => s.bookFloorStrip b (i % b.width) slot) x).adm.bookings := by
    induction l generalizing x with
    | nil => exact .refl _ _ _
    | cons a l ih => exact (bookFloorStrip_firmKept b _ slot x).trans (ih _)
  unfold State.bookReshapeFloor
  split
  · split
    · exact .refl _ _ _
    · split
      · exact hfold _ _ s
      · exact .refl _ _ _
  · exact .refl _ _ _

/-- The floor's entries that a new booking replaces are gone. -/
def floorCleared (slot : Nat) (s : State) : State :=
  { s with adm := { s.adm with bookings := s.adm.bookings.filter (fun b => b.seq != floorSeq || decide (slot - 128 ≤ b.slot)) } }

/-- A floor of strips, booked in a window. -/
def floorBooked (slot : Nat) (strips : List (Nat × Nat × Nat)) (s : State) : State :=
  ((strips.foldl (fun s x => match NMap.find s.path.bands x.1 with
    | some b => s.bookFloorStrip b x.2.2 slot | none => s) s).bookReshapeFloor slot)

theorem floorBooked_firmKept (slot : Nat) (strips : List (Nat × Nat × Nat)) (s : State) :
    FirmKept slot (slot + 128) s.adm.bookings (floorBooked slot strips s).adm.bookings := by
  have hfold (l : List (Nat × Nat × Nat)) (x : State) : FirmKept slot (slot + 128) x.adm.bookings
      (l.foldl (fun s x => match NMap.find s.path.bands x.1 with
        | some b => s.bookFloorStrip b x.2.2 slot | none => s) x).adm.bookings := by
    induction l generalizing x with
    | nil => exact .refl _ _ _
    | cons a l ih =>
      refine FirmKept.trans ?_ (ih _)
      dsimp only
      split
      · exact bookFloorStrip_firmKept _ _ slot x
      · exact .refl _ _ _
  exact (hfold strips s).trans (bookReshapeFloor_firmKept slot _)

theorem rebuildFloorBooking_books {t : Nat} {s : State} (ht : Ticking t s) (hwin : t % horizonTicks = 0) :
    ∃ strips skip, Sys2Proof.Machine.exec (.rebuildFloorBooking t) s =
      .next (((floorBooked (slotOf t + 128) strips (floorCleared (slotOf t + 128) (s.advanceTo t).settleRebuild)).suspendErases floorSeq).bookNextStrip skip) := by
  have hnow := advanceTo_now ht.1 ht.2.1 ht.2.2
  have hgo : ¬ (s.advanceTo t).time.now % horizonTicks ≠ 0 := by
    rw [hnow]
    exact not_not.mpr hwin
  let y := floorCleared (slotOf (s.advanceTo t).time.now + 128) (s.advanceTo t).settleRebuild
  let strips := if y.strp.rebuild.isSome then y.toRebuild.take (y.regField Reg.STRP_FLOOR 8 0) else []
  have hrun : Sys2Proof.Machine.exec (.rebuildFloorBooking t) s = .next (((floorBooked (slotOf (s.advanceTo t).time.now + 128) strips
      (floorCleared (slotOf (s.advanceTo t).time.now + 128) (s.advanceTo t).settleRebuild)).suspendErases floorSeq).bookNextStrip strips.length) :=
    congrArg Host.Outcome.next (if_neg hgo)
  clear_value strips
  rw [hnow] at hrun
  exact ⟨strips, strips.length, hrun⟩

theorem rebuildFloorBooking_firm {t : Nat} {s : State} (ht : Ticking t s) (hwin : t % horizonTicks = 0) :
    ∃ u, Sys2Proof.Machine.exec (.rebuildFloorBooking t) s = .next u ∧
      (∀ b ∈ u.adm.bookings, b.firm = true → b ∈ s.adm.bookings ∨
        (b.seq = floorSeq ∧ slotOf t + 128 ≤ b.slot ∧ b.slot < slotOf t + 256)) ∧
      (∀ b ∈ s.adm.bookings, b.firm = true → b.seq ≠ floorSeq → b ∈ u.adm.bookings) := by
  obtain ⟨strips, skip, hrun⟩ := rebuildFloorBooking_books ht hwin
  have hsettled : (s.advanceTo t).settleRebuild.adm = s.adm := by
    rw [(State.settleRebuild_frame _).adm (by decide), advanceTo_adm]
  have hcleared : (floorCleared (slotOf t + 128) (s.advanceTo t).settleRebuild).adm.bookings =
      s.adm.bookings.filter (fun b => b.seq != floorSeq || decide (slotOf t + 128 - 128 ≤ b.slot)) := by
    rw [← hsettled]
    rfl
  have hbooked := floorBooked_firmKept (slotOf t + 128) strips (floorCleared (slotOf t + 128) (s.advanceTo t).settleRebuild)
  generalize floorBooked (slotOf t + 128) strips (floorCleared (slotOf t + 128) (s.advanceTo t).settleRebuild) = x at hrun hbooked
  have hnext := bookNextStrip_firmKept (slotOf t + 128) (slotOf t + 128 + 128) skip (x.suspendErases floorSeq)
  rw [(State.suspendErases_frame floorSeq x).adm (by decide)] at hnext
  rw [hcleared] at hbooked
  have hall := hbooked.trans hnext
  refine ⟨_, hrun, fun b hb hf => ?_, fun b hb hf hseq => ?_⟩
  · rcases hall.new b hb hf with hold | ⟨hseq, hlo, hhi⟩
    · exact .inl (List.mem_filter.mp hold).1
    · exact .inr ⟨hseq, hlo, by omega⟩
  · refine hall.kept b (List.mem_filter.mpr ⟨hb, ?_⟩) hf
    rw [bne_iff_ne.mpr hseq]
    rfl

/-! ### Strips that come back -/

theorem restoreStrip_restores {n stripe i p : Nat} {b : Band} {x : Stripe} {s : State} (hp : b.portOf i = some p)
    (hx : s.stripe? n stripe = some x) :
    (s.restoreStrip n stripe i b).stripe? n stripe = some { x with
        skipped := x.skipped.filter (· != i)
        programmed := if x.programmed.contains i then x.programmed else x.programmed ++ [i] } ∧
      (s.restoreStrip n stripe i b).path.map = s.path.map ∧ (s.restoreStrip n stripe i b).path.stored = s.path.stored := by
  have hpath : ∃ y : State, offBands y.path = offBands s.path ∧ (s.restoreStrip n stripe i b).path = (y.updStripe n stripe (fun x =>
      { x with skipped := x.skipped.filter (· != i), programmed := if x.programmed.contains i then x.programmed else x.programmed ++ [i] })).path := by
    unfold State.restoreStrip
    rw [hp]
    dsimp only
    rw [(State.count_frame _ _).path (by decide), (State.count_frame _ _).path (by decide)]
    refine ⟨_, ?_, rfl⟩
    exact fillBand_offBands _ _
  obtain ⟨y, hy, hpath⟩ := hpath
  obtain ⟨hstripes, hmap, hstored, -⟩ := of_offBands hy
  have hyx : y.stripe? n stripe = some x := (stripe_of_stripes hstripes n stripe).trans hx
  refine ⟨?_, ?_, ?_⟩
  · rw [stripe_of_stripes (congrArg (·.stripes) hpath)]
    refine (stripe_updStripe ?_ n stripe y).trans ?_
    · exact fun _ => ⟨rfl, rfl⟩
    · rw [hyx]
      rfl
  · rw [hpath]
    exact hmap
  · rw [hpath]
    exact hstored

/-- After a strip's work the rebuild is brought up to date, and its next strip booked. -/
def rebuildOn (s : State) : State := s.settleRebuild.bookNextStrip 0

theorem rebuildOn_frame (s : State) : Frame 67678 s (rebuildOn s) :=
  Frame.comp (State.bookNextStrip_frame _ _) rfl (Frame.comp (State.settleRebuild_frame _) rfl (Frame.refl s))

/-- A stripe past its parity as it is noted. -/
def beyondNoted (band stripe : Nat) (s : State) : State :=
  ({ s with strp := { s.strp with beyond := s.strp.beyond ++ [(band, stripe)] } }).raise Reg.STRP_STATUS 8

/-- A stripe past its parity: noted, and its records fetched, or their loss tested. -/
def beyondParity (band stripe : Nat) (s : State) : State :=
  if (beyondNoted band stripe s).partnerAsk then ((beyondNoted band stripe s).record 0x4006 [band, stripe]).fetchStripe band stripe
  else (beyondNoted band stripe s).lossTest

section Strip

variable {t band stripe strip : Nat} {unread : List Nat} {b : Band} {x : Stripe} {s : State} (hb : NMap.find s.path.bands band = some b)
  (hx : s.stripe? band stripe = some x) (hre : s.strp.rebuild.isSome = true)
  (hhead : (s.advanceTo t).toRebuild.head? = some (band, stripe, strip))

include hb hx hre hhead

theorem rebuildStripDone_runs : Sys2Proof.Machine.exec (.rebuildStripDone t band stripe strip unread) s =
    .next (if lostWith b x unread ≤ b.m then rebuildOn ((s.advanceTo t).restoreStrip band stripe strip b)
      else rebuildOn (beyondParity band stripe (s.advanceTo t))) := by
  have hgo : ¬ ((s.advanceTo t).strp.rebuild.isNone || (s.advanceTo t).toRebuild.head? != some (band, stripe, strip)) = true := by
    rw [advanceTo_strp, hhead]
    obtain ⟨r, hr⟩ := Option.isSome_iff_exists.mp hre
    rw [hr]
    simp
  have hb' : NMap.find (s.advanceTo t).path.bands band = some b := by rw [advanceTo_path]; exact hb
  have hx' : (s.advanceTo t).stripe? band stripe = some x := (stripe_of_stripes (by rw [advanceTo_path]) _ _).trans hx
  show execRebuildStripDone t band stripe strip unread s = _
  unfold execRebuildStripDone
  dsimp only
  rw [hb', hx']
  exact congrArg Host.Outcome.next (if_neg hgo)

theorem rebuildStripDone_restores {port : Nat} (hlost : lostWith b x unread ≤ b.m) (hp : b.portOf strip = some port) :
    ∃ u, Sys2Proof.Machine.exec (.rebuildStripDone t band stripe strip unread) s = .next u ∧
      u.stripe? band stripe = some { x with
        skipped := x.skipped.filter (· != strip)
        programmed := if x.programmed.contains strip then x.programmed else x.programmed ++ [strip] } ∧
      u.path.map = s.path.map ∧ u.path.stored = s.path.stored := by
  have hx' : (s.advanceTo t).stripe? band stripe = some x := (stripe_of_stripes (by rw [advanceTo_path]) _ _).trans hx
  obtain ⟨hstripe, hmap, hstored⟩ := restoreStrip_restores hp hx'
  have hpath := (rebuildOn_frame ((s.advanceTo t).restoreStrip band stripe strip b)).path (by decide)
  rw [advanceTo_path] at hmap hstored
  refine ⟨_, (rebuildStripDone_runs hb hx hre hhead).trans (congrArg Host.Outcome.next (if_pos hlost)), ?_, ?_, ?_⟩
  · exact (stripe_of_stripes (congrArg (·.stripes) hpath) _ _).trans hstripe
  · rw [hpath]
    exact hmap
  · rw [hpath]
    exact hstored

end Strip

/-! ### Stripes past their parity -/

theorem partnerAsk_of {s u : State} (hmd : u.md = s.md) (hmoor : u.moor = s.moor) : u.partnerAsk = s.partnerAsk := by
  unfold State.partnerAsk State.service State.bothLost
  rw [hmd, hmoor]

/-- A lost record of a served namespace, with no partner to ask, takes the device to Preservation. -/
theorem lossTest_preserves {band stripe : Nat} {b : Band} {x : Stripe} {y : Stored} {n : Ns} {s : State} (hask : s.partnerAsk = false)
    (hb : NMap.find s.path.bands band = some b) (hx : s.stripe? band stripe = some x) (hlost : b.m < x.skipped.length)
    (hy : y ∈ s.path.stored) (hyb : y.band = band) (hkind : y.record.kind = 1)
    (hin : (recordStripes b y.offset (recordLen y.record)).contains stripe = true)
    (hn : s.ns? (y.record.check.reftag.toNat / 2 ^ 34) = some n) (hserved : n.served = true) : s.lossTest = s.enterPreservation 0x0A := by
  have hmem := List.mem_of_find?_eq_some hx
  have hplace := List.find?_some (p := fun x : Stripe => x.band == band && x.idx == stripe) hx
  rw [Bool.and_eq_true, beq_iff_eq, beq_iff_eq] at hplace
  unfold State.lossTest
  refine if_pos ?_
  rw [hask, Bool.not_false, Bool.true_and, List.any_eq_true]
  refine ⟨x, hmem, ?_⟩
  rw [hplace.1, hb]
  dsimp only
  rw [decide_eq_true hlost, Bool.true_and, List.any_eq_true]
  refine ⟨y, hy, ?_⟩
  rw [hyb, hkind, hplace.2, hin, hn]
  simpa using hserved

theorem beyondNoted_frame (band stripe : Nat) (s : State) : Frame 2052 s (beyondNoted band stripe s) :=
  Frame.comp (State.raise_frame _ _ _) rfl (Frame.set_strp (by decide) (Frame.refl s))

/-- A record of a stripe past its parity, asked of the partner. -/
def recordAsked (x : Stored) (s : State) : State :=
  let key := recordKey x.record
  ((s.startRead 0 0 0 5 0 (key / 2 ^ 34) (key % 2 ^ 34) { mirrorEnt x with mirror := x.st == .mirror }).updRead s.path.nextRid (fun r =>
    { r with source := 2, point := 9, failPoint := 2 })).emit (.repairAsk s.path.nextRid (key / 2 ^ 34) (key % 2 ^ 34) x.record.check.wgen)

theorem recordAsked_frame (x : Stored) (s : State) : Frame 4194560 s (recordAsked x s) :=
  Frame.comp (State.emit_frame _ _) rfl (Frame.comp (State.updRead_frame _ _ _) rfl (Frame.comp (State.startRead_frame _ _ _ _ _ _ _ _ _) rfl
    (Frame.refl s)))

theorem recordAsked_sends (x : Stored) (s : State) :
    Sends (.repairAsk s.path.nextRid (recordKey x.record / 2 ^ 34) (recordKey x.record % 2 ^ 34) x.record.check.wgen) s (recordAsked x s) := by
  refine ⟨[_], ?_, List.mem_singleton.mpr rfl⟩
  unfold recordAsked State.emit
  rw [if_neg]
  · rfl
  · rw [show State.onFrontEnd _ (.repairAsk s.path.nextRid _ _ _) = false from rfl, Bool.and_false]
    exact Bool.false_ne_true

theorem fetchStripe_asks {band stripe : Nat} {y : Stored} {s : State} (hy : y ∈ s.path.stored) (hyb : y.band = band) (hys : y.stripe = stripe)
    (hkind : y.record.kind = 1 ∨ y.record.kind = 4) (hlive : s.recordLive y = true) :
    ∃ rid, Sends (.repairAsk rid (recordKey y.record / 2 ^ 34) (recordKey y.record % 2 ^ 34) y.record.check.wgen) s (s.fetchStripe band stripe) := by
  have hfold (l : List Stored) (hl : y ∈ l) (u : State) : ∃ rid, Sends (.repairAsk rid (recordKey y.record / 2 ^ 34) (recordKey y.record % 2 ^ 34)
      y.record.check.wgen) u (l.foldl (fun s x => recordAsked x s) u) := by
    induction l generalizing u with
    | nil => cases hl
    | cons a l ih =>
      rcases List.mem_cons.mp hl with rfl | hl
      · exact ⟨_, sends_after (recordAsked_sends y u) (foldl_frame (fun x f => recordAsked_frame f x) l _)⟩
      · obtain ⟨rid, h⟩ := ih hl (recordAsked a u)
        exact ⟨rid, sends_before (recordAsked_frame a u) h⟩
  refine hfold _ (List.mem_filter.mpr ⟨hy, ?_⟩) s
  rw [hyb, hys, hlive]
  rcases hkind with h | h <;> rw [h] <;> simp

theorem recordLive_of {s u : State} (hmap : u.path.map = s.path.map) (hns : u.nvq.ns = s.nvq.ns) (hsgt : u.ddup.sgt = s.ddup.sgt) (x : Stored) :
    u.recordLive x = s.recordLive x := by
  unfold State.recordLive
  rw [hmap, hns, hsgt]

section Beyond

variable {t band stripe strip : Nat} {unread : List Nat} {b : Band} {x : Stripe} {s : State} (hb : NMap.find s.path.bands band = some b)
  (hx : s.stripe? band stripe = some x) (hre : s.strp.rebuild.isSome = true)
  (hhead : (s.advanceTo t).toRebuild.head? = some (band, stripe, strip)) (hlost : b.m < lostWith b x unread)

include hb hx hre hhead hlost

theorem rebuildStripDone_preserves (hask : s.partnerAsk = false) (hskip : b.m < x.skipped.length) (hcan : s.md.mode.canPreserve = true)
    {y : Stored} {n : Ns} (hy : y ∈ s.path.stored) (hyb : y.band = band) (hkind : y.record.kind = 1)
    (hin : (recordStripes b y.offset (recordLen y.record)).contains stripe = true)
    (hn : s.ns? (y.record.check.reftag.toNat / 2 ^ 34) = some n) (hserved : n.served = true) :
    ∃ u, Sys2Proof.Machine.exec (.rebuildStripDone t band stripe strip unread) s = .next u ∧ u.md.mode = .preservation ∧ u.md.cause = 0x0A := by
  have hrun := (rebuildStripDone_runs (unread := unread) hb hx hre hhead).trans (congrArg Host.Outcome.next (if_neg (Nat.not_le.mpr hlost)))
  have f : Frame 2053 s (beyondNoted band stripe (s.advanceTo t)) :=
    Frame.comp (beyondNoted_frame band stripe _) rfl (Frame.comp (State.advanceTo_frame t s) rfl (Frame.refl s))
  have hbeyond : beyondParity band stripe (s.advanceTo t) = (beyondNoted band stripe (s.advanceTo t)).enterPreservation 0x0A := by
    have hpath := f.path (by decide)
    have hask' := (partnerAsk_of (f.md (by decide)) (f.moor (by decide))).trans hask
    refine (if_neg (by exact (Bool.eq_false_iff.mp hask'))).trans ?_
    refine lossTest_preserves hask' (b := b) (x := x) (y := y) (n := n) (by rw [hpath]; exact hb)
      ((stripe_of_stripes (congrArg (·.stripes) hpath) _ _).trans hx) hskip (by rw [hpath]; exact hy) hyb hkind hin ?_ hserved
    unfold State.ns?
    rw [f.nvq (by decide)]
    exact hn
  rw [hbeyond] at hrun
  have hentered := enterPreservation_entered (c := 0x0A) (s := beyondNoted band stripe (s.advanceTo t)) (by rw [f.md (by decide)]; exact hcan)
  obtain ⟨hmode, -, hcause, -⟩ := entered_after hentered (rebuildOn_frame _) (by decide) (by decide)
  exact ⟨_, hrun, hmode, hcause⟩

theorem rebuildStripDone_fetches (hask : s.partnerAsk = true) :
    ∃ u, Sys2Proof.Machine.exec (.rebuildStripDone t band stripe strip unread) s = .next u ∧
      u.path.map = s.path.map ∧ u.md.mode = s.md.mode ∧
      ∀ y, y ∈ s.path.stored → y.band = band → y.stripe = stripe → (y.record.kind = 1 ∨ y.record.kind = 4) → s.recordLive y = true →
        ∃ rid, Sends (.repairAsk rid (recordKey y.record / 2 ^ 34) (recordKey y.record % 2 ^ 34) y.record.check.wgen) s u := by
  have hrun := (rebuildStripDone_runs (unread := unread) hb hx hre hhead).trans (congrArg Host.Outcome.next (if_neg (Nat.not_le.mpr hlost)))
  have f : Frame 2053 s (beyondNoted band stripe (s.advanceTo t)) :=
    Frame.comp (beyondNoted_frame band stripe _) rfl (Frame.comp (State.advanceTo_frame t s) rfl (Frame.refl s))
  have hbeyond : beyondParity band stripe (s.advanceTo t) =
      ((beyondNoted band stripe (s.advanceTo t)).record 0x4006 [band, stripe]).fetchStripe band stripe :=
    if_pos ((partnerAsk_of (f.md (by decide)) (f.moor (by decide))).trans hask)
  rw [hbeyond] at hrun
  have fr : Frame 67615 s ((beyondNoted band stripe (s.advanceTo t)).record 0x4006 [band, stripe]) :=
    Frame.comp (State.record_frame _ _ _) rfl (Frame.comp (beyondNoted_frame band stripe _) rfl (Frame.comp (State.advanceTo_frame t s) rfl (Frame.refl s)))
  generalize State.record 0x4006 [band, stripe] _ = z at fr hrun
  have fu : Frame 4262239 z (rebuildOn (z.fetchStripe band stripe)) :=
    Frame.comp (rebuildOn_frame _) rfl (Frame.comp (State.fetchStripe_frame _ _ _) rfl (Frame.refl z))
  refine ⟨_, hrun, (fu.map (by decide)).trans (fr.map (by decide)), (fu.mode (by decide)).trans (fr.mode (by decide)),
    fun y hy hyb hys hkind hlive => ?_⟩
  have hpath := fr.path (by decide)
  have hlive' : z.recordLive y = true :=
    (recordLive_of (congrArg (·.map) hpath) (congrArg (·.ns) (fr.nvq (by decide))) (congrArg (·.sgt) (fr.ddup (by decide))) y).trans hlive
  obtain ⟨rid, hsend⟩ := fetchStripe_asks (by rw [hpath]; exact hy) hyb hys hkind hlive'
  exact ⟨rid, sends_before fr (sends_after hsend (rebuildOn_frame _))⟩

end Beyond

/-! ### Floor writes -/

theorem floor_row : rowIs Reg.STRP_FLOOR .bootBenchPairedSole 0xFE00FE00 = true := by decide

theorem floor_allows {m : Mode} (h : m ∈ [Mode.boot, Mode.bench, Mode.paired, Mode.sole]) : When.allows .bootBenchPairedSole m = true := by
  simp only [List.mem_cons, List.not_mem_nil, or_false] at h
  rcases h with rfl | rfl | rfl | rfl <;> rfl

theorem bits_floor (n : Nat) : bits (field n 8 0) 8 0 = n % 512 ∧ bits (field n 24 16) 24 16 = n % 512 ∧ bits (field n 8 0) 24 16 = 0 ∧
    bits (field n 24 16) 8 0 = 0 := by
  simp only [bits, field, BitVec.toNat_ofNat]
  omega

theorem bits_lt_floor (v : Word) (hi lo : Nat) (h : hi - lo = 8) : bits v hi lo % 512 = bits v hi lo := by
  unfold bits
  rw [h]
  omega

theorem regField_setField {a hi lo n : Nat} (s : State) (h l : Nat) :
    (s.setField a hi lo n).regField a h l = bits (withBits (s.reg a) hi lo n) h l := by
  unfold State.regField State.setField
  rw [reg_setReg]
  rfl

theorem setField_reg {a hi lo n : Nat} (s : State) : (s.setField a hi lo n).reg a = withBits (s.reg a) hi lo n := by
  unfold State.setField
  rw [reg_setReg]
  rfl

/-- The fields of STRP_FLOOR after a write of one or of both. -/
theorem floorWord_fields (r : Word) (a f : Nat) :
    bits (withBits (withBits r 24 16 a) 8 0 f) 8 0 = f % 512 ∧ bits (withBits (withBits r 24 16 a) 8 0 f) 24 16 = a % 512 ∧
      bits (withBits r 24 16 a) 8 0 = bits r 8 0 ∧ bits (withBits r 24 16 a) 24 16 = a % 512 := by
  have ha : bits (withBits r 24 16 a) 24 16 = a % 512 := (bits_withBits_of (by decide)).trans (bits_floor a).2.1
  exact ⟨(bits_withBits_of (by decide)).trans (bits_floor f).1, (bits_withBits_ne (by decide) (bits_floor f).2.2.1).trans ha,
    bits_withBits_ne (by decide) (bits_floor a).2.2.2, ha⟩

/-- The reshape's floor, written. -/
def reshapeFloorSet (v : Word) (s : State) : State := s.setField Reg.STRP_FLOOR 24 16 (bits v 24 16)

/-- The rebuild's floor, taken or refused. -/
def floorSet (v : Word) (s : State) : State :=
  (if (reshapeFloorSet v s).floorOk (bits v 8 0) then (reshapeFloorSet v s).setField Reg.STRP_FLOOR 8 0 (bits v 8 0)
    else (((reshapeFloorSet v s).ignored).raise Reg.STRP_STATUS 0x20).record 0x4025 [bits v 8 0]).recompute s.budget

theorem floorWrite_acts {t : Nat} {o : Origin} {v : Word} {s : State} (ho : Open s) (hm : s.md.mode ∈ [Mode.boot, Mode.bench, Mode.paired, Mode.sole]) :
    ∃ x, (x = s.advanceTo t ∨ x = (s.advanceTo t).ignored) ∧ Sys2Proof.Machine.exec (.floorWrite t o v) s = .next (floorSet v x) := by
  obtain ⟨r, x, -, -, hx, hact⟩ := gateWrite_acts (o := o) (t := t) (v := v) floor_row ho (floor_allows hm) (by decide) (fun _ s => floorSet v s)
  exact ⟨x, hx, congrArg Host.Outcome.next hact⟩

theorem quiet_floor : Quiet Reg.STRP_FLOOR := ⟨by decide, by decide, by decide, by decide⟩
theorem quiet_stripStatus : Quiet Reg.STRP_STATUS := ⟨by decide, by decide, by decide, by decide⟩
theorem quiet_err : Quiet Reg.GCTL_ERR := ⟨by decide, by decide, by decide, by decide⟩

theorem floorSet_taken {v : Word} {s : State} (h : (reshapeFloorSet v s).floorOk (bits v 8 0) = true) :
    (floorSet v s).regField Reg.STRP_FLOOR 8 0 = bits v 8 0 ∧ (floorSet v s).regField Reg.STRP_FLOOR 24 16 = bits v 24 16 := by
  obtain ⟨hlow, hhigh, -, -⟩ := floorWord_fields (s.reg Reg.STRP_FLOOR) (bits v 24 16) (bits v 8 0)
  have hreg : (floorSet v s).reg Reg.STRP_FLOOR = withBits (withBits (s.reg Reg.STRP_FLOOR) 24 16 (bits v 24 16)) 8 0 (bits v 8 0) := by
    unfold floorSet
    rw [recompute_reg quiet_floor, if_pos h, setField_reg]
    unfold reshapeFloorSet
    rw [setField_reg]
  unfold State.regField
  rw [hreg, hlow, hhigh]
  exact ⟨bits_lt_floor v 8 0 rfl, bits_lt_floor v 24 16 rfl⟩

theorem floorSet_refused {v : Word} {s : State} (h : (reshapeFloorSet v s).floorOk (bits v 8 0) = false) :
    (floorSet v s).regField Reg.STRP_FLOOR 8 0 = s.regField Reg.STRP_FLOOR 8 0 ∧ (floorSet v s).regField Reg.STRP_FLOOR 24 16 = bits v 24 16 ∧
      bit ((floorSet v s).reg Reg.STRP_STATUS) 5 = true ∧ bit ((floorSet v s).reg Reg.GCTL_ERR) 0 = true := by
  obtain ⟨-, -, hlow, hhigh⟩ := floorWord_fields (s.reg Reg.STRP_FLOOR) (bits v 24 16) 0
  have hset : floorSet v s = ((((reshapeFloorSet v s).ignored).raise Reg.STRP_STATUS 0x20).record 0x4025 [bits v 8 0]).recompute s.budget := by
    unfold floorSet
    rw [if_neg (by rw [h]; exact Bool.false_ne_true)]
  have hreg : (floorSet v s).reg Reg.STRP_FLOOR = withBits (s.reg Reg.STRP_FLOOR) 24 16 (bits v 24 16) := by
    rw [hset, recompute_reg quiet_floor, record_reg _ _ _ (by decide) (by decide), reg_raise_ne _ _ (by decide), reg_ignored_ne _ (by decide)]
    exact setField_reg s
  refine ⟨?_, ?_, ?_, ?_⟩
  · unfold State.regField
    rw [hreg, hlow]
  · unfold State.regField
    rw [hreg, hhigh]
    exact bits_lt_floor v 24 16 rfl
  · rw [hset, recompute_reg quiet_stripStatus, record_reg _ _ _ (by decide) (by decide), reg_raise, bit_or, Bool.or_eq_true]
    exact .inr rfl
  · rw [hset, recompute_reg quiet_err, record_reg _ _ _ (by decide) (by decide), reg_raise_ne _ _ (by decide), reg_ignored]
    exact bit_or_one _

theorem regField_of_start {t a hi lo : Nat} {x s : State} (hx : x = s.advanceTo t ∨ x = (s.advanceTo t).ignored) (ha : a ≠ Reg.GCTL_ERR) :
    x.regField a hi lo = s.regField a hi lo := by
  unfold State.regField
  rcases hx with rfl | rfl
  · rw [reg_advanceTo]
  · rw [reg_ignored_ne _ ha, reg_advanceTo]

/-- Settles O45. -/
theorem rebuildRestoresLostStrips : Obligations.RebuildRestoresLostStrips := by
  refine ⟨fun t band stripe strip port unread b x s hb hx hre hhead hlost hp => rebuildStripDone_restores hb hx hre hhead hlost hp,
    fun t band stripe strip unread b x s hb hx hre hhead hlost =>
      ⟨fun hask hskip hcan y n hy hyb hkind hin hn hserved =>
        rebuildStripDone_preserves hb hx hre hhead hlost hask hskip hcan hy hyb hkind hin hn hserved,
        rebuildStripDone_fetches hb hx hre hhead hlost⟩,
    fun t s ht hwin => rebuildFloorBooking_firm ht hwin, ?_⟩
  intro t o v s ho hm y z
  obtain ⟨x, hx, hrun⟩ := floorWrite_acts (t := t) (o := o) (v := v) ho hm
  refine ⟨fun h1 h2 => ⟨_, hrun, floorSet_taken ?_⟩, fun h1 h2 => ?_⟩
  · rcases hx with rfl | rfl
    · exact h1
    · exact h2
  · have hno : (reshapeFloorSet v x).floorOk (bits v 8 0) = false := by
      rcases hx with rfl | rfl
      · exact h1
      · exact h2
    obtain ⟨hlow, hrest⟩ := floorSet_refused hno
    exact ⟨_, hrun, hlow.trans (regField_of_start hx (by decide)), hrest⟩

end Sys2Proof.Proofs
end

section

/-! SUPPORT. The reshape: requests, the pause, migrated stripes (R184 to R187). -/

namespace Sys2Proof.Proofs

open Sys2Proof.Machine Sys2Proof.Safety Sys2Proof.Laws

/-! ### Requests -/

theorem reshape_row : rowIs Reg.STRP_RSH_REQ .pairedSole 0xFFFFFFC0 = true := by decide

theorem pairedSole_iff (m : Mode) : When.allows .pairedSole m = true ↔ m ∈ [Mode.paired, Mode.sole] := by
  cases m <;> decide

/-- A request for a shape, judged. -/
def reshapeAsked (k m : Nat) (order : List Nat) (s : State) : State :=
  if s.reshapeCode k m order = 0 then s.startReshape k m order else s.refuseReshape (s.reshapeCode k m order)

section Request

variable {t : Nat} {o : Origin} {v : Word} {s : State} (ho : Open s)

include ho

theorem reshapeRequest_asked (hm : s.md.mode ∈ [Mode.paired, Mode.sole]) :
    ∃ x, Frame 5 s x ∧ (x = s.advanceTo t ∨ x = (s.advanceTo t).ignored) ∧ Sys2Proof.Machine.exec (.reshapeRequest t o v) s =
      .next (reshapeAsked (bits v 3 0) (bits v 5 4) (portsOf (s.regField Reg.STRP_RSH_MEM 15 0)) x) := by
  obtain ⟨r, x, hf, -, hx, hact⟩ := gateWrite_acts (o := o) (t := t) (v := v) reshape_row ho ((pairedSole_iff _).mpr hm) (by decide)
    (fun _ s => reshapeAsked (bits v 3 0) (bits v 5 4) (portsOf (s.regField Reg.STRP_RSH_MEM 15 0)) s)
  rw [regField_of_start hx (by decide)] at hact
  have hright : ¬ ((s.advanceTo t).md.mode ≠ .paired ∧ (s.advanceTo t).md.mode ≠ .sole ∧ (s.advanceTo t).md.mode ≠ .reset ∧
      (s.advanceTo t).md.mode ≠ .locked) := by
    rw [advanceTo_md]
    simp only [List.mem_cons, List.not_mem_nil, or_false] at hm
    rcases hm with h | h
    · exact fun hw => hw.1 h
    · exact fun hw => hw.2.1 h
  exact ⟨x, hf, hx, congrArg Host.Outcome.next ((if_neg hright).trans hact)⟩

theorem reshapeRequest_wrongMode (hm : s.md.mode ∉ [Mode.paired, Mode.sole]) :
    Sys2Proof.Machine.exec (.reshapeRequest t o v) s = .next ((s.advanceTo t).ignored.refuseReshape 7) := by
  have hwrong : (s.advanceTo t).md.mode ≠ .paired ∧ (s.advanceTo t).md.mode ≠ .sole ∧ (s.advanceTo t).md.mode ≠ .reset ∧
      (s.advanceTo t).md.mode ≠ .locked := by
    rw [advanceTo_md]
    exact ⟨fun h => hm (by rw [h]; decide), fun h => hm (by rw [h]; decide), ho.1, ho.2⟩
  have hw : When.allows .pairedSole (s.advanceTo t).md.mode = false := by
    rw [advanceTo_md, Bool.eq_false_iff]
    exact fun h => hm ((pairedSole_iff _).mp h)
  have hgate := gateWrite_row_refused (o := o) (v := v) reshape_row (open_advanceTo ho t) hw (fun _ s =>
    reshapeAsked (bits v 3 0) (bits v 5 4) (portsOf (s.regField Reg.STRP_RSH_MEM 15 0)) s)
  exact congrArg Host.Outcome.next ((if_pos hwrong).trans (congrArg (State.refuseReshape 7) hgate))

end Request

theorem refuseReshape_kept (c : Nat) (s : State) : (s.refuseReshape c).strp = { s.strp with refuse := c } ∧ (s.refuseReshape c).path = s.path := by
  unfold State.refuseReshape
  rw [(State.record_frame _ _ _).strp (by decide), (State.record_frame _ _ _).path (by decide)]
  exact ⟨rfl, rfl⟩

/-- The members of a new shape, shown at their ports. -/
theorem membersShown_strp (l : List Nat) (s : State) :
    ∃ ports, (l.foldl (fun s p => s.updPort p (fun x => { x with state := 4 })) s).strp = { s.strp with ports := ports } := by
  induction l generalizing s with
  | nil => exact ⟨_, rfl⟩
  | cons p l ih =>
    obtain ⟨ports, h⟩ := ih (s.updPort p (fun x => { x with state := 4 }))
    exact ⟨ports, h⟩

theorem memberChanged_strp (s : State) : s.memberChanged.strp = { s.strp with gen := s.strp.gen + 1 } := by
  unfold State.memberChanged
  dsimp only
  rw [(State.writeParam_frame _ _ _ _).strp (by decide)]

/-- A reshape that has just begun, from a shape and its members. -/
def begunReshape (x : StrpState) : Reshape :=
  { oldK := x.k, oldM := x.m, oldMembers := x.order, bound := 0, total := 0, sysBound := 0, ldgBound := 0 }

theorem startReshape_strp (k m : Nat) (order : List Nat) (s : State) :
    ∃ ports spares, (s.startReshape k m order).strp = { s.strp with
      k := k, m := m, order := order, spares := spares, ports := ports, gen := s.strp.gen + 1
      reshape := some (begunReshape s.strp) } := by
  unfold State.startReshape
  dsimp only
  have hclosed : ((s.closeStripe .home).closeStripe .mirror).strp = s.strp := by
    rw [(State.closeStripe_frame _ _).strp (by decide), (State.closeStripe_frame _ _).strp (by decide)]
  generalize (s.closeStripe .home).closeStripe .mirror = y at hclosed
  obtain ⟨ports, hports⟩ := membersShown_strp order (y.reshaped k m order)
  rw [(State.recompute_frame _ _).strp (by decide), (State.openBand_frame _ _).strp (by decide), (State.openBand_frame _ _).strp (by decide),
    (State.record_frame _ _ _).strp (by decide), memberChanged_strp, hports]
  unfold State.reshaped
  rw [hclosed]
  exact ⟨_, _, rfl⟩

theorem reshapeRequest_runs {t : Nat} {o : Origin} {v : Word} {s : State} (ho : Open s) (hm : s.md.mode ∈ [Mode.paired, Mode.sole])
    (hsame : (s.advanceTo t).ignored.reshapeCode (bits v 3 0) (bits v 5 4) (portsOf (s.regField Reg.STRP_RSH_MEM 15 0)) =
      (s.advanceTo t).reshapeCode (bits v 3 0) (bits v 5 4) (portsOf (s.regField Reg.STRP_RSH_MEM 15 0))) :
    ((s.advanceTo t).reshapeCode (bits v 3 0) (bits v 5 4) (portsOf (s.regField Reg.STRP_RSH_MEM 15 0)) = 0 →
      ∃ u r, Sys2Proof.Machine.exec (.reshapeRequest t o v) s = .next u ∧ u.strp.k = bits v 3 0 ∧ u.strp.m = bits v 5 4 ∧
        u.strp.order = portsOf (s.regField Reg.STRP_RSH_MEM 15 0) ∧ u.strp.reshape = some r ∧ r.oldK = s.strp.k ∧ r.oldM = s.strp.m ∧
        r.oldMembers = s.strp.order ∧ r.bound = 0 ∧ u.strp.gen = s.strp.gen + 1 ∧ u.path.map = s.path.map) ∧
    ((s.advanceTo t).reshapeCode (bits v 3 0) (bits v 5 4) (portsOf (s.regField Reg.STRP_RSH_MEM 15 0)) ≠ 0 →
      ∃ u, Sys2Proof.Machine.exec (.reshapeRequest t o v) s = .next u ∧
        u.strp = { s.strp with refuse := (s.advanceTo t).reshapeCode (bits v 3 0) (bits v 5 4) (portsOf (s.regField Reg.STRP_RSH_MEM 15 0)) } ∧
        u.path = s.path) := by
  obtain ⟨x, f, hx, hrun⟩ := reshapeRequest_asked (t := t) (o := o) (v := v) ho hm
  have hcode : x.reshapeCode (bits v 3 0) (bits v 5 4) (portsOf (s.regField Reg.STRP_RSH_MEM 15 0)) =
      (s.advanceTo t).reshapeCode (bits v 3 0) (bits v 5 4) (portsOf (s.regField Reg.STRP_RSH_MEM 15 0)) := by
    rcases hx with rfl | rfl
    · rfl
    · exact hsame
  rw [← hcode]
  have hstrp := f.strp (by decide)
  generalize portsOf (s.regField Reg.STRP_RSH_MEM 15 0) = order at hrun
  refine ⟨fun h0 => ?_, fun hne => ?_⟩
  · obtain ⟨ports, spares, hshape⟩ := startReshape_strp (bits v 3 0) (bits v 5 4) order x
    refine ⟨_, begunReshape s.strp, hrun.trans (congrArg Host.Outcome.next (if_pos h0)), ?_⟩
    rw [hshape, hstrp]
    exact ⟨rfl, rfl, rfl, rfl, rfl, rfl, rfl, rfl, rfl,
      ((State.startReshape_frame _ _ _ x).map (by decide)).trans (congrArg (·.map) (f.path (by decide)))⟩
  · obtain ⟨hrefuse, hpath⟩ := refuseReshape_kept (x.reshapeCode (bits v 3 0) (bits v 5 4) order) x
    refine ⟨_, hrun.trans (congrArg Host.Outcome.next (if_neg hne)), ?_, hpath.trans (f.path (by decide))⟩
    rw [hrefuse, hstrp]

/-! ### The pause -/

/-- The row at an address is of plain fields, with the mode condition `w`, read-write bits `rw` and none that a 1 clears. -/
def plainRowIs (a : Nat) (w : When) (rw : Word) : Bool :=
  match findReg a with
  | some (r, _) => r.writable && r.when_ == w && !r.perPath && r.maskOf (· == .rw) == rw && r.maskOf (· == .w1c) == 0
  | none => false

theorem plainRowIs_iff {a : Nat} {w : When} {rw : Word} (h : plainRowIs a w rw = true) :
    ∃ r n, findReg a = some (r, n) ∧ r.writable = true ∧ r.when_ = w ∧ r.perPath = false ∧ r.maskOf (· == .rw) = rw ∧ r.maskOf (· == .w1c) = 0 := by
  unfold plainRowIs at h
  split at h
  · rename_i r n hf
    simp only [Bool.and_eq_true, beq_iff_eq, Bool.not_eq_true'] at h
    obtain ⟨⟨⟨⟨hw, hwhen⟩, hpath⟩, hrw⟩, hw1c⟩ := h
    exact ⟨r, n, hf, hw, hwhen, hpath, hrw, hw1c⟩
  · cases h

theorem rshCtrl_row : plainRowIs Reg.STRP_RSH_CTRL .pairedSole 1 = true := by decide

/-- A register whose one field is bit 0 takes it as written. -/
theorem bit0_written {r : RegDesc} (hrw : r.maskOf (· == .rw) = 1) (hw1c : r.maskOf (· == .w1c) = 0) (old v fresh : Word) :
    bits (writtenBits r old v fresh) 0 0 = bits v 0 0 := by
  unfold writtenBits
  have h0 : bits (~~~(1 : Word)) 0 0 = 0 := by decide
  have h1 : bits (1 : Word) 0 0 = 1 := by decide
  have h2 : bits (~~~(0 : Word)) 0 0 = 1 := by decide
  have h3 : v &&& (0 : Word) &&& ~~~fresh = 0 := by rw [show v &&& (0 : Word) = 0 from BitVec.and_zero]; exact BitVec.zero_and
  rw [hrw, hw1c, h3, bits_and, bits_or, bits_and, bits_and, h0, h1, h2, Nat.and_zero, Nat.zero_or,
    Nat.and_one_is_mod, Nat.and_one_is_mod, Nat.mod_mod]
  exact Nat.mod_mod _ _

theorem reshapePause_takes {t : Nat} {o : Origin} {v : Word} {s : State} (ho : Open s) (hm : s.md.mode ∈ [Mode.paired, Mode.sole]) :
    ∃ u, Sys2Proof.Machine.exec (.reshapePause t o v) s = .next u ∧ u.regField Reg.STRP_RSH_CTRL 0 0 = bits v 0 0 ∧
      u.strp = s.strp ∧ u.path = s.path := by
  obtain ⟨r, n, hf, hw, hwhen, hpath, hrw, hw1c⟩ := plainRowIs_iff rshCtrl_row
  have hallows : r.when_.allows (s.advanceTo t).md.mode = true := by
    rw [advanceTo_md, hwhen]
    exact (pairedSole_iff _).mpr hm
  have hrun := gateWrite_flagging (o := o) (v := v) (State.plainWrite o Reg.STRP_RSH_CTRL v) (open_advanceTo ho t) hf hw hallows (by decide)
  have fx : Frame 5 s (if v &&& r.reserved = 0 then s.advanceTo t else (s.advanceTo t).ignored) :=
    .ite (fun _ => Frame.comp (State.advanceTo_frame t s) rfl (Frame.refl s))
      fun _ => Frame.comp (State.raise_frame _ _ _) rfl (Frame.comp (State.advanceTo_frame t s) rfl (Frame.refl s))
  generalize (if v &&& r.reserved = 0 then s.advanceTo t else (s.advanceTo t).ignored) = x at hrun fx
  have hbad : badFields Reg.STRP_RSH_CTRL v = 0 := badFields_eq_zero (by decide) v
  have fu := State.plainWrite_frame o Reg.STRP_RSH_CTRL v r x
  refine ⟨_, congrArg Host.Outcome.next hrun, ?_, (fu.strp (by decide)).trans (fx.strp (by decide)), (fu.path (by decide)).trans (fx.path (by decide))⟩
  unfold State.regField
  rw [reg_plainWrite hpath hbad]
  exact bit0_written hrw hw1c _ v _

/-! ### Migrated stripes -/

theorem nextMigration_advanceTo (t : Nat) (s : State) : (s.advanceTo t).nextMigration = s.nextMigration := by
  rw [advanceTo_eq]
  rfl

theorem boundaryRecord_strp {r : Reshape} {s : State} (last : Bool) (hr : s.strp.reshape = some r) :
    ∃ r', (s.boundaryRecord last).strp = { s.strp with reshape := some r' } ∧ r'.bound = r.bound ∧ r'.oldK = r.oldK ∧ r'.oldM = r.oldM ∧
      r'.oldMembers = r.oldMembers := by
  unfold State.boundaryRecord
  rw [hr]
  dsimp only
  split
  · rw [(State.writeParam_frame _ _ _ _).strp (by decide)]
    exact ⟨_, rfl, rfl, rfl, rfl, rfl⟩
  · exact ⟨_, rfl, rfl, rfl, rfl, rfl⟩

/-- A shape and its members. -/
structure ShapeKept (s u : State) : Prop where
  k : u.strp.k = s.strp.k
  m : u.strp.m = s.strp.m
  order : u.strp.order = s.strp.order

theorem ShapeKept.trans {s u w : State} (h : ShapeKept s u) (g : ShapeKept u w) : ShapeKept s w :=
  ⟨g.k.trans h.k, g.m.trans h.m, g.order.trans h.order⟩

theorem ShapeKept.of_strp {s u : State} (h : u.strp = s.strp) : ShapeKept s u :=
  ⟨congrArg (·.k) h, congrArg (·.m) h, congrArg (·.order) h⟩

theorem membersLeft_kept (l : List Nat) (s : State) :
    ShapeKept s (l.foldl (fun s p => s.updPort p (fun x => { x with state := 2 })) s) ∧
      (l.foldl (fun s p => s.updPort p (fun x => { x with state := 2 })) s).strp.reshape = s.strp.reshape := by
  induction l generalizing s with
  | nil => exact ⟨⟨rfl, rfl, rfl⟩, rfl⟩
  | cons p l ih =>
    obtain ⟨h1, h2⟩ := ih (s.updPort p (fun x => { x with state := 2 }))
    exact ⟨⟨h1.k, h1.m, h1.order⟩, h2⟩

/-- The reshape's end leaves the new shape as the only one. -/
theorem endReshape_ends {r : Reshape} {s : State} (hr : s.strp.reshape = some r) :
    s.endReshape.strp.reshape = none ∧ ShapeKept s s.endReshape := by
  obtain ⟨r', hbound, -⟩ := boundaryRecord_strp true hr
  have hend : ∃ (l : List Nat) (x : State), x.strp = { (s.boundaryRecord true).strp with
        reshape := none, failed := (s.boundaryRecord true).strp.failed.filter (s.boundaryRecord true).strp.order.contains } ∧
      s.endReshape.strp = ((l.foldl (fun s p => s.updPort p (fun x => { x with state := 2 })) x).memberChanged).strp := by
    unfold State.endReshape
    rw [hr]
    dsimp only
    rw [(State.record_frame _ _ _).strp (by decide), (State.raise_frame _ _ _).strp (by decide)]
    exact ⟨_, _, rfl, rfl⟩
  obtain ⟨l, x, hx, hend⟩ := hend
  obtain ⟨⟨hk, hm, ho⟩, hreshape⟩ := membersLeft_kept l x
  rw [memberChanged_strp] at hend
  rw [hbound] at hx
  rw [hend]
  rw [hx] at hk hm ho hreshape
  refine ⟨hreshape, ?_, ?_, ?_⟩
  · rw [hend]
    exact hk
  · rw [hend]
    exact hm
  · rw [hend]
    exact ho

theorem zk_of_map {s u : State} (h : u.path.map = s.path.map) : zk u = zk s := by
  funext key
  unfold zk
  rw [h]

/-- The live records of a stripe, moved into the new shape. -/
def stripeMoved (x : Stripe) (s : State) : State :=
  (s.path.stored.filter (fun y => y.band == x.band && y.stripe == x.idx && s.recordLive y)).foldl (fun s y => s.gcMove y) s

/-- A stripe whose records have moved: marked, and the boundary past it. -/
def stripeMigrated (r : Reshape) (x : Stripe) (s : State) : State :=
  let y := s.updStripe x.band x.idx (fun y => { y with migrated := r.bound + 1 })
  ({ y with strp := { y.strp with reshape := some { r with bound := r.bound + 1 } } }).boundaryRecord false

/-- What a migrated stripe leaves: the next one, or the reshape's end. -/
def migrationOn (s : State) : State := (if s.nextMigration.isNone then s.endReshape else s).startErases

section Migrated

variable {t : Nat} {r : Reshape} {s : State} (hpause : s.regField Reg.STRP_RSH_CTRL 0 0 = 0) (hno : s.strp.rebuild = none)
  (hbg : s.md.mode.backgroundRuns = true) (hr : s.strp.reshape = some r)

include hpause hno hbg

theorem migration_open : ¬ ((s.advanceTo t).regField Reg.STRP_RSH_CTRL 0 0 = 1 || (s.advanceTo t).strp.rebuild.isSome ||
    !(s.advanceTo t).md.mode.backgroundRuns) = true := by
  unfold State.regField at hpause ⊢
  rw [reg_advanceTo, advanceTo_strp, advanceTo_md, hpause, hno, hbg]
  decide

include hr

theorem reshapeStripeMigrated_moves {x : Stripe} (hx : s.nextMigration = some x) :
    Sys2Proof.Machine.exec (.reshapeStripeMigrated t) s = .next (migrationOn (stripeMigrated r x (stripeMoved x (s.advanceTo t)))) := by
  have hr' : (s.advanceTo t).strp.reshape = some r := by rw [advanceTo_strp]; exact hr
  show execReshapeStripeMigrated t s = _
  unfold execReshapeStripeMigrated
  dsimp only
  rw [if_neg (migration_open hpause hno hbg), hr', nextMigration_advanceTo, hx]
  rfl

theorem reshapeStripeMigrated_ends (hx : s.nextMigration = none) :
    Sys2Proof.Machine.exec (.reshapeStripeMigrated t) s = .next (s.advanceTo t).endReshape := by
  have hr' : (s.advanceTo t).strp.reshape = some r := by rw [advanceTo_strp]; exact hr
  show execReshapeStripeMigrated t s = _
  unfold execReshapeStripeMigrated
  dsimp only
  rw [if_neg (migration_open hpause hno hbg), hr', nextMigration_advanceTo, hx]

end Migrated

theorem stripeMoved_kept (x : Stripe) (s : State) : zk (stripeMoved x s) = zk s ∧ (stripeMoved x s).strp = s.strp := by
  have f : Frame 7766374614976 s (stripeMoved x s) := foldl_frame (fun q y => State.gcMove_frame y q) _ s
  exact ⟨foldl_keep zk (fun q y => gcMove_zk y q) _ s, f.strp (by decide)⟩

theorem stripeMigrated_kept (r : Reshape) (x : Stripe) (s : State) :
    zk (stripeMigrated r x s) = zk s ∧ ShapeKept s (stripeMigrated r x s) ∧
      ∃ r', (stripeMigrated r x s).strp.reshape = some r' ∧ r'.bound = r.bound + 1 ∧ r'.oldK = r.oldK ∧ r'.oldM = r.oldM ∧
        r'.oldMembers = r.oldMembers := by
  unfold stripeMigrated
  dsimp only
  have hy : (s.updStripe x.band x.idx (fun y => { y with migrated := r.bound + 1 })).strp = s.strp := rfl
  have hmap : (s.updStripe x.band x.idx (fun y => { y with migrated := r.bound + 1 })).path.map = s.path.map := rfl
  generalize s.updStripe x.band x.idx (fun y => { y with migrated := r.bound + 1 }) = y at hy hmap
  have f := State.boundaryRecord_frame false { y with strp := { y.strp with reshape := some { r with bound := r.bound + 1 } } }
  obtain ⟨r', hstrp, hrest⟩ := boundaryRecord_strp (s := { y with strp := { y.strp with reshape := some { r with bound := r.bound + 1 } } }) false rfl
  refine ⟨zk_of_map ((congrArg (·.map) (f.path (by decide))).trans hmap), ⟨?_, ?_, ?_⟩, r', congrArg StrpState.reshape hstrp, hrest⟩
  · rw [hstrp, ← hy]
  · rw [hstrp, ← hy]
  · rw [hstrp, ← hy]

theorem migrationOn_kept {r' : Reshape} {s : State} (hr : s.strp.reshape = some r') :
    zk (migrationOn s) = zk s ∧ ShapeKept s (migrationOn s) ∧
      ((migrationOn s).strp.reshape = none ∨ (migrationOn s).strp.reshape = some r') := by
  unfold migrationOn
  have hsmall (x : State) : x.startErases.strp = x.strp := (startErases_small x).strp (by decide)
  have hzk (x : State) : zk x.startErases = zk x := zk_of_map (startErases_map x)
  rw [hsmall, hzk]
  split
  · obtain ⟨hnone, hshape⟩ := endReshape_ends hr
    exact ⟨zk_of_map (congrArg (·.map) ((State.endReshape_frame s).path (by decide))), hshape.trans (.of_strp (hsmall _)), .inl hnone⟩
  · exact ⟨rfl, .of_strp (hsmall s), .inr hr⟩

/-- Settles O46. -/
theorem reshapeMovesToTheNewShape : Obligations.ReshapeMovesToTheNewShape := by
  refine ⟨?_, fun t o v s ho hm => ?_, fun t o v s ho hm => reshapePause_takes ho hm, fun t r x s hpause hno hbg hr hx => ?_,
    fun t r s hpause hno hbg hr hx => ?_, fun t s hstop => ?_⟩
  · intro t o v s ho hm y order c hsame
    exact reshapeRequest_runs ho hm hsame
  · obtain ⟨hstrp, hpath⟩ := refuseReshape_kept 7 (s.advanceTo t).ignored
    refine ⟨_, reshapeRequest_wrongMode ho hm, ?_, ?_, ?_⟩
    · rw [hstrp, ignored_strp, advanceTo_strp]
    · rw [hpath, ignored_path, advanceTo_path]
    · unfold State.refuseReshape
      rw [record_reg _ _ _ (by decide) (by decide)]
      exact (congrArg (bit · 0) (reg_ignored (s.advanceTo t))).trans (bit_or_one _)
  · obtain ⟨hz1, hs1⟩ := stripeMoved_kept x (s.advanceTo t)
    obtain ⟨hz2, hs2, r', hr', hrest⟩ := stripeMigrated_kept r x (stripeMoved x (s.advanceTo t))
    obtain ⟨hz3, hs3, hover⟩ := migrationOn_kept hr'
    rw [advanceTo_strp] at hs1
    obtain ⟨hk, hm, ho⟩ := (ShapeKept.of_strp hs1).trans (hs2.trans hs3)
    have hz : zk (s.advanceTo t) = zk s := zk_of_map (congrArg (·.map) (advanceTo_path t s))
    refine ⟨_, reshapeStripeMigrated_moves hpause hno hbg hr hx, fun key => congrFun (hz3.trans (hz2.trans (hz1.trans hz))) key, hk, hm, ho, ?_⟩
    exact hover.imp id fun h => ⟨r', h, hrest⟩
  · have hr' : (s.advanceTo t).strp.reshape = some r := by rw [advanceTo_strp]; exact hr
    obtain ⟨hnone, hshape⟩ := endReshape_ends hr'
    refine ⟨_, reshapeStripeMigrated_ends hpause hno hbg hr hx, hnone, ?_, ?_⟩
    · rw [(State.endReshape_frame _).path (by decide), advanceTo_path]
    · rw [hshape.order, advanceTo_strp]
  · refine congrArg Host.Outcome.next (if_pos ?_)
    unfold State.regField at hstop ⊢
    rw [reg_advanceTo, advanceTo_strp]
    rcases hstop with h | h <;> simp [h]

end Sys2Proof.Proofs
end

section

/-! SUPPORT. Islands and lanes: gating and waking, training, loss of lock, FEC bursts and restarted ports (R24, R25, R28, R219). -/

namespace Sys2Proof.Proofs

open Sys2Proof.Machine Sys2Proof.Safety Sys2Proof.Laws

/-! ### Islands -/

theorem wakeOf_advanceTo (t : Nat) (k : IslandKind) (n : Nat) (s : State) : (s.advanceTo t).wakeOf k n = s.wakeOf k n := by
  unfold State.wakeOf
  rw [advanceTo_faults]

theorem islandGate_runs {t n : Nat} {k : IslandKind} {s : State} (hhold : (s.advanceTo t).regField Reg.CLKP_CTRL 7 0 ≠ 0)
    (hawake : s.islandAwake k n = true) (hidle : (s.advanceTo t).islandBusy k n (s.regField Reg.CLKP_CTRL 7 0) = false) :
    Sys2Proof.Machine.exec (.islandGate t k n) s = .next { (s.advanceTo t) with faults := { s.faults with
      awake := s.faults.awake.filter (fun a => a != (k, n)), gating := s.faults.gating ++ [(k, n, (s.advanceTo t).time.now)] } } := by
  have hfield : (s.advanceTo t).regField Reg.CLKP_CTRL 7 0 = s.regField Reg.CLKP_CTRL 7 0 := by
    unfold State.regField
    rw [reg_advanceTo]
  have hgo : ¬ ((s.advanceTo t).regField Reg.CLKP_CTRL 7 0 = 0 ∨ (s.advanceTo t).islandAwake k n = false ∨
      (s.advanceTo t).islandBusy k n ((s.advanceTo t).regField Reg.CLKP_CTRL 7 0) = true) := by
    rintro (h | h | h)
    · exact hhold h
    · unfold State.islandAwake at h hawake
      rw [advanceTo_faults, hawake] at h
      cases h
    · rw [hfield, hidle] at h
      cases h
  show execIslandGate t k n s = _
  unfold execIslandGate
  dsimp only
  rw [if_neg hgo, advanceTo_faults]

theorem islandGate_gates {t n : Nat} {k : IslandKind} {s : State} (hhold : (s.advanceTo t).regField Reg.CLKP_CTRL 7 0 ≠ 0)
    (hawake : s.islandAwake k n = true) (hidle : (s.advanceTo t).islandBusy k n (s.regField Reg.CLKP_CTRL 7 0) = false) :
    ∃ u, Sys2Proof.Machine.exec (.islandGate t k n) s = .next u ∧ u.islandAwake k n = false ∧
      (∀ j m, (j, m) ≠ (k, n) → u.islandAwake j m = s.islandAwake j m) ∧ (k, n, u.time.now) ∈ u.faults.gating ∧
      u = { s with time := (s.advanceTo t).time, faults := { s.faults with awake := u.faults.awake, gating := u.faults.gating } } := by
  refine ⟨_, islandGate_runs hhold hawake hidle, ?_, fun j m hne => ?_, List.mem_append_right _ (List.mem_singleton.mpr rfl), ?_⟩
  · unfold State.islandAwake
    simp
  · unfold State.islandAwake
    rw [Bool.eq_iff_iff, List.contains_iff_mem, List.contains_iff_mem, List.mem_filter]
    exact ⟨fun h => h.1, fun h => ⟨h, bne_iff_ne.mpr hne⟩⟩
  · rw [advanceTo_eq]

theorem islandReady_runs {t n from_ : Nat} {k : IslandKind} {s : State} (hw : s.wakeOf k n = some from_) :
    Sys2Proof.Machine.exec (.islandReady t k n) s = .next { (s.advanceTo t) with faults := { s.faults with
      waking := s.faults.waking.filter (fun w => !(w.1 == k && w.2.1 == n)), awake := s.faults.awake ++ [(k, n)] } } := by
  show execIslandReady t k n s = _
  unfold execIslandReady State.endWake
  dsimp only
  rw [wakeOf_advanceTo, hw, advanceTo_faults]

theorem islandReady_wakes {t n from_ : Nat} {k : IslandKind} {s : State} (hw : s.wakeOf k n = some from_) :
    ∃ u, Sys2Proof.Machine.exec (.islandReady t k n) s = .next u ∧ u.islandAwake k n = true ∧ u.wakeOf k n = none ∧
      (∀ j m, (j, m) ≠ (k, n) → u.islandAwake j m = s.islandAwake j m) ∧
      u = { s with time := (s.advanceTo t).time, faults := { s.faults with awake := u.faults.awake, waking := u.faults.waking } } := by
  refine ⟨_, islandReady_runs hw, ?_, ?_, fun j m hne => ?_, ?_⟩
  · unfold State.islandAwake
    simp
  · unfold State.wakeOf
    rw [Option.map_eq_none_iff, List.find?_eq_none]
    intro w hmem
    have h := (List.mem_filter.mp hmem).2
    rw [Bool.not_eq_true'] at h
    rw [h]
    exact Bool.false_ne_true
  · unfold State.islandAwake
    rw [Bool.eq_iff_iff, List.contains_iff_mem, List.contains_iff_mem, List.mem_append, List.mem_singleton]
    exact ⟨fun h => h.resolve_right hne, .inl⟩
  · rw [advanceTo_eq]

/-- A late wake, its time counted anew and shown. -/
def wakeLate (k : IslandKind) (n : Nat) (s : State) : State :=
  let x := s.endWake k n
  let y : State := { x with faults := { x.faults with waking := x.faults.waking ++ [(k, n, x.time.now)] } }
  (if k = .channel then y.count (ctrChannel n 3) else y).raise Reg.CLKP_WAKE_LATE (wakeLateBit k)

theorem wakeLate_kept (k : IslandKind) (n : Nat) (s : State) :
    (wakeLate k n s).time = s.time ∧ (wakeLate k n s).faults.retired = s.faults.retired := by
  unfold wakeLate
  dsimp only
  rw [(State.raise_frame _ _ _).time (by decide), (State.raise_frame _ _ _).faults (by decide)]
  split
  · rw [(State.count_frame _ _).time (by decide), (State.count_frame _ _).faults (by decide)]
    exact ⟨rfl, rfl⟩
  · exact ⟨rfl, rfl⟩

theorem islandWakeLate_faults {t n from_ : Nat} {k : IslandKind} {s : State} (ht : Ticking t s) (hw : s.wakeOf k n = some from_)
    (hlate : from_ + wakeLatency k ≤ t) :
    ∃ u, Sys2Proof.Machine.exec (.islandWakeLate t k n) s = .next u ∧ (FUnit.island k n, 0xC010, t) ∈ u.faults.log ∧
      (∀ v, s.faults.retired.contains v = true → u.faults.retired.contains v = true) := by
  have hnow := advanceTo_now ht.1 ht.2.1 ht.2.2
  have hgo : ¬ (s.advanceTo t).time.now < from_ + wakeLatency k := by
    rw [hnow]
    omega
  have hrun : Sys2Proof.Machine.exec (.islandWakeLate t k n) s = .next ((wakeLate k n (s.advanceTo t)).fault (.island k n) 0xC010
      (wakeLateBit k * 256 + n) [islandCode k, n]) := by
    show execIslandWakeLate t k n s = _
    unfold execIslandWakeLate
    dsimp only
    rw [wakeOf_advanceTo, hw]
    exact congrArg Host.Outcome.next (if_neg hgo)
  obtain ⟨htime, hretired⟩ := wakeLate_kept k n (s.advanceTo t)
  generalize wakeLate k n (s.advanceTo t) = x at hrun htime hretired
  obtain ⟨hlog, hkeeps⟩ := fault_log (.island k n) 0xC010 (wakeLateBit k * 256 + n) [islandCode k, n] x
  rw [htime, hnow] at hlog
  rw [hretired, advanceTo_faults] at hkeeps
  exact ⟨_, hrun, hlog, hkeeps⟩

/-! ### Lanes -/

theorem lane_advanceTo (t l : Nat) (s : State) : (s.advanceTo t).lane l = s.lane l := by
  unfold State.lane
  rw [advanceTo_faults]

theorem lane_setLane (l v : Nat) (s : State) (m : Nat) : (s.setLane l v).lane m = if m = l then v else s.lane m := by
  unfold State.setLane State.lane NMap.getD
  dsimp only
  rw [find_put]
  by_cases h : m = l
  · rw [if_pos h, if_pos h.symm, Option.getD_some]
  · rw [if_neg h, if_neg (Ne.symm h)]

/-- A lane's state set, the others stand. -/
theorem lane_set (t l v : Nat) (s : State) : ((s.advanceTo t).setLane l v).lane l = v ∧
    ∀ m, m ≠ l → ((s.advanceTo t).setLane l v).lane m = s.lane m :=
  ⟨(lane_setLane l v _ l).trans (if_pos rfl), fun m hm => ((lane_setLane l v _ m).trans (if_neg hm)).trans (lane_advanceTo t m s)⟩

theorem lane_of_lanes {s u : State} (h : u.faults.lanes = s.faults.lanes) (l : Nat) : u.lane l = s.lane l := by
  unfold State.lane
  rw [h]

theorem linkTrainingStart_trains {t l : Nat} {s : State} (hfe : s.md.mode.frontEnd = true) (hl : l < 24) (h0 : s.lane l = 0)
    (hclock : (s.advanceTo t).laneClock l = true) (htried : s.laneTried l = true) :
    Sys2Proof.Machine.exec (.linkTrainingStart t l) s = .next ((s.advanceTo t).setLane l 1) := by
  refine congrArg Host.Outcome.next (if_pos ?_)
  have h : (s.advanceTo t).laneTried l = true := by
    unfold State.laneTried at htried ⊢
    rw [advanceTo_faults]
    exact htried
  rw [advanceTo_md, hfe, lane_advanceTo, h0, hclock, h, decide_eq_true hl]
  rfl

theorem linkUp_fails {t l : Nat} {s : State} (h1 : s.lane l = 1) :
    Sys2Proof.Machine.exec (.linkUp t l false) s = .next ((s.advanceTo t).setLane l 0) :=
  congrArg Host.Outcome.next ((if_neg (by rw [lane_advanceTo]; exact not_not.mpr h1)).trans (if_pos rfl))

/-- A lane that locked: a retired one is used again. -/
def laneLocked (l : Nat) (s : State) : State :=
  if s.faults.retired.contains (.serdes l) then (s.returnUnit (.serdes l)).recompute s.budget else s

theorem linkUp_locks {t l : Nat} {s : State} (h1 : s.lane l = 1) :
    Sys2Proof.Machine.exec (.linkUp t l true) s = .next (laneLocked l ((s.advanceTo t).setLane l 2)) := by
  show execLinkUp t l true s = _
  unfold execLinkUp
  dsimp only
  rw [if_neg (by rw [lane_advanceTo]; exact not_not.mpr h1), if_neg (c := (!true) = true) Bool.false_ne_true]
  rfl

theorem laneLocked_kept (l : Nat) (s : State) : (laneLocked l s).faults.lanes = s.faults.lanes ∧
    (laneLocked l s).faults.retired.contains (.serdes l) = false := by
  unfold laneLocked
  split
  · rw [(State.recompute_frame _ _).faults (by decide)]
    refine ⟨rfl, ?_⟩
    unfold State.returnUnit
    simp
  · rename_i h
    exact ⟨rfl, Bool.eq_false_iff.mpr h⟩

/-! ### Faults of lanes -/

/-- A lane's fault is in the log as the last one; the threshold of its kind retires it. -/
theorem laneFault_logs (l kind : Nat) (s : State) :
    (s.laneFault_ l kind).faults.log = s.faults.log ++ [(.serdes l, kind, s.time.now)] ∧
      (s.faults.retired.contains (.serdes l) = false → s.regField Reg.GCTL_RETIRE 3 0 ≤ (s.faultsOf (.serdes l) kind).length + 1 →
        (s.laneFault_ l kind).faults.retired.contains (.serdes l) = true) := by
  have hcount : (State.faultsOf { s with faults := { s.faults with log := s.faults.log ++ [(.serdes l, kind, s.time.now)] } } (.serdes l) kind).length =
      (s.faultsOf (.serdes l) kind).length + 1 := by
    unfold State.faultsOf
    dsimp only
    rw [List.filter_append, List.map_append, List.length_append, List.filter_cons_of_pos]
    · rfl
    · simp [faultWindowTicks]
  unfold State.laneFault_
  dsimp only
  split
  · rename_i h
    exact ⟨rfl, fun hno => absurd h (by rw [hno]; exact Bool.false_ne_true)⟩
  · split
    · obtain ⟨hlog, hretired, -⟩ := retire_faults (.serdes l) { s with faults := { s.faults with log := s.faults.log ++ [(.serdes l, kind, s.time.now)] } }
      have hret := hretired (fun _ _ h => nomatch h) (.inl rfl)
      generalize State.retire (.serdes l) _ = x at hlog hret
      split
      · exact ⟨hlog, fun _ _ => hret⟩
      · rw [(State.resendLane_frame _ _).faults (by decide)]
        exact ⟨hlog, fun _ _ => hret⟩
    · rename_i hfew
      refine ⟨rfl, fun _ hmany => absurd ?_ hfew⟩
      rw [hcount]
      exact hmany

theorem setLane_kept (l v : Nat) (s : State) : (s.setLane l v).faults.log = s.faults.log ∧ (s.setLane l v).faults.retired = s.faults.retired ∧
    (s.setLane l v).time = s.time ∧ (s.setLane l v).regs = s.regs := ⟨rfl, rfl, rfl, rfl⟩

/-- A lane that goes down after a loss of lock, counted. -/
def lockLost (l : Nat) (s : State) : State := (s.setLane l 0).count (ctrSerdes l 3)

theorem lockLost_faults (l : Nat) (s : State) : (lockLost l s).faults = (s.setLane l 0).faults ∧ (lockLost l s).time = s.time ∧
    (lockLost l s).regs = s.regs := by
  have f := State.count_frame (ctrSerdes l 3) (s.setLane l 0)
  exact ⟨f.faults (by decide), f.time (by decide), f.regs (by decide)⟩

section Down

variable {t l : Nat} {s : State} (hup : s.lane l ≠ 0)

include hup

theorem linkDown_quiet : Sys2Proof.Machine.exec (.linkDown t l false) s = .next ((s.advanceTo t).setLane l 0) :=
  congrArg Host.Outcome.next ((if_neg (by rw [lane_advanceTo]; exact hup)).trans (if_pos rfl))

theorem linkDown_lost : Sys2Proof.Machine.exec (.linkDown t l true) s = .next (if (s.advanceTo t).laneClock l
    then (lockLost l (s.advanceTo t)).laneFault_ l 1 else lockLost l (s.advanceTo t)) := by
  have hclock : (lockLost l (s.advanceTo t)).laneClock l = (s.advanceTo t).laneClock l := by
    unfold State.laneClock
    rw [(lockLost_faults l _).2.1]
  show execLinkDown t l true s = _
  unfold execLinkDown
  dsimp only
  rw [if_neg (by rw [lane_advanceTo]; exact hup), if_neg (c := (!true) = true) Bool.false_ne_true, ← hclock]
  rfl

theorem fecBurst_faults : Sys2Proof.Machine.exec (.uncorrectableFecBurst t l) s =
    .next (((s.advanceTo t).count (ctrSerdes l 1)).laneFault_ l 2) :=
  congrArg Host.Outcome.next (if_neg (by rw [lane_advanceTo]; exact hup))

end Down

/-- What a lane's fault leaves, from a state whose log, retired units, clock and registers are another's. -/
theorem laneFault_of {l kind : Nat} {x s : State} (hlog : x.faults.log = s.faults.log) (hret : x.faults.retired = s.faults.retired)
    (htime : x.time = s.time) (hregs : x.regs = s.regs) :
    (x.laneFault_ l kind).faults.log = s.faults.log ++ [(.serdes l, kind, s.time.now)] ∧
      (s.faults.retired.contains (.serdes l) = false → s.regField Reg.GCTL_RETIRE 3 0 ≤ (s.faultsOf (.serdes l) kind).length + 1 →
        (x.laneFault_ l kind).faults.retired.contains (.serdes l) = true) := by
  obtain ⟨h1, h2⟩ := laneFault_logs l kind x
  unfold State.faultsOf State.regField State.reg at h2
  unfold State.faultsOf State.regField State.reg
  rw [hlog, htime] at h1 h2
  rw [hret, hregs] at h2
  exact ⟨h1, h2⟩

/-! ### Restarted ports -/

theorem lanes_up (ls : List Nat) (s : State) (l : Nat) :
    (ls.foldl (fun (s : State) (l : Nat) => s.setLane l 2) s).lane l = if l ∈ ls then 2 else s.lane l := by
  induction ls generalizing s with
  | nil => simp
  | cons a ls ih =>
    rw [List.foldl_cons, ih, lane_setLane]
    by_cases h : l ∈ ls
    · rw [if_pos h, if_pos (List.mem_cons_of_mem _ h)]
    · rw [if_neg h]
      by_cases ha : l = a
      · rw [if_pos ha, if_pos (ha ▸ List.mem_cons_self ..)]
      · rw [if_neg ha, if_neg fun hm => (List.mem_cons.mp hm).elim ha h]

theorem portRestartDone_ups {t p : Nat} {ls : List Nat} {s : State} (hp : NMap.find s.faults.restarting p = some ls) :
    ∃ u, Sys2Proof.Machine.exec (.portRestartDone t p) s = .next u ∧ (∀ l, u.lane l = if l ∈ ls then 2 else s.lane l) ∧
      NMap.find u.faults.restarting p = none := by
  let x := ls.foldl (fun (s : State) (l : Nat) => s.setLane l 2) (s.advanceTo t)
  have hrun : Sys2Proof.Machine.exec (.portRestartDone t p) s =
      .next { x with faults := { x.faults with restarting := NMap.del x.faults.restarting p } } := by
    show execPortRestartDone t p s = _
    unfold execPortRestartDone
    dsimp only
    rw [show NMap.find (s.advanceTo t).faults.restarting p = some ls by rw [advanceTo_faults]; exact hp]
  refine ⟨_, hrun, fun l => ?_, ?_⟩
  · refine (lanes_up ls (s.advanceTo t) l).trans ?_
    rw [lane_advanceTo]
  · dsimp only
    rw [find_del, if_pos rfl]

/-- Settles O50. -/
theorem islandsAndLanesComeAndGo : Obligations.IslandsAndLanesComeAndGo := by
  refine ⟨fun t n k s hhold hawake hidle => islandGate_gates hhold hawake hidle, fun t n from_ k s hw => islandReady_wakes hw,
    fun t n from_ k s ht hw hlate => islandWakeLate_faults ht hw hlate, fun t l s hfe hl h0 hclock htried => ?_, fun t l s h1 => ⟨?_, ?_⟩,
    fun t l s hup => ⟨?_, fun hclock => ?_, fun hclock => ?_, ?_⟩, fun t p ls s hp => portRestartDone_ups hp⟩
  · obtain ⟨hl1, hothers⟩ := lane_set t l 1 s
    refine ⟨_, linkTrainingStart_trains hfe hl h0 hclock htried, hl1, hothers, ?_⟩
    rw [advanceTo_eq]
    rfl
  · exact ⟨_, linkUp_fails h1, lane_set t l 0 s⟩
  · obtain ⟨hlanes, hret⟩ := laneLocked_kept l ((s.advanceTo t).setLane l 2)
    obtain ⟨hl2, hothers⟩ := lane_set t l 2 s
    exact ⟨_, linkUp_locks h1, (lane_of_lanes hlanes l).trans hl2, fun m hm => (lane_of_lanes hlanes m).trans (hothers m hm), hret⟩
  · obtain ⟨hl0, hothers⟩ := lane_set t l 0 s
    refine ⟨_, linkDown_quiet hup, hl0, hothers, ?_⟩
    rw [(setLane_kept l 0 _).1, advanceTo_faults]
  · obtain ⟨hfaults, -, -⟩ := lockLost_faults l (s.advanceTo t)
    refine ⟨_, (linkDown_lost hup).trans (congrArg Host.Outcome.next (if_neg (by rw [hclock]; exact Bool.false_ne_true))), ?_, ?_⟩
    · exact (lane_of_lanes (congrArg (·.lanes) hfaults) l).trans (lane_set t l 0 s).1
    · rw [hfaults, (setLane_kept l 0 _).1, advanceTo_faults]
  · obtain ⟨hfaults, htime, hregs⟩ := lockLost_faults l (s.advanceTo t)
    obtain ⟨hlog, hret⟩ := laneFault_of (l := l) (kind := 1) (x := lockLost l (s.advanceTo t)) (s := s.advanceTo t) (by rw [hfaults]; rfl)
      (by rw [hfaults]; rfl) htime hregs
    rw [advanceTo_faults] at hlog hret
    exact ⟨_, (linkDown_lost hup).trans (congrArg Host.Outcome.next (if_pos hclock)), hlog, hret⟩
  · have f := State.count_frame (ctrSerdes l 1) (s.advanceTo t)
    have hfaults := f.faults (by decide)
    obtain ⟨hlog, hret⟩ := laneFault_of (l := l) (kind := 2) (x := (s.advanceTo t).count (ctrSerdes l 1)) (s := s.advanceTo t) (by rw [hfaults])
      (by rw [hfaults]) (f.time (by decide)) (f.regs (by decide))
    rw [advanceTo_faults] at hlog hret
    exact ⟨_, fecBurst_faults hup, hlog, hret⟩

end Sys2Proof.Proofs
end

section
/-!
SUPPORT. What the transport's operations leave of a session and of the transport's tables: quantities that sending does not enter, the
tables that only an operation's end changes, and the ACK and the resent packet as they leave.
-/

namespace Sys2Proof.Proofs

open Sys2Proof.Machine Sys2Proof.Safety Sys2Proof.Laws

/-! ### Quantities of a session -/

/-- Every session keeps a quantity from one state to another. -/
def Keeps {α : Type} (h : Session → α) (s u : State) : Prop := ∀ n, (u.session? n).map h = (s.session? n).map h

/-- A quantity of a session that numbering, sending and ending operations does not enter. -/
def Opless {α : Type} (h : Session → α) : Prop := ∀ (x : Session) (psn : Nat) (sendq : List Packet) (unacked : List Sent)
  (toSeal : List Packet) (lastTx : Nat) (ops : List Op) (rekey : Option Nat),
  h { x with nextPsn := psn, sendq := sendq, unacked := unacked, toSeal := toSeal, lastTx := lastTx, ops := ops, rekeyPsn := rekey } = h x

theorem Opless.wireless {α : Type} {h : Session → α} (hh : Opless h) : Wireless h :=
  fun x a b => hh x x.nextPsn x.sendq x.unacked a b x.ops x.rekeyPsn

/-- What of a session tells how far the peer's packets have come in, and what waits for one of them. -/
def inbound (x : Session) : Nat × List Nat × List Packet × Option Nat := (x.cum, x.got, x.fenced, x.closePsn)

theorem inbound_opless : Opless inbound := fun _ _ _ _ _ _ _ _ => rfl

section
variable {α : Type} {h : Session → α}

theorem Keeps.refl (s : State) : Keeps h s s := fun _ => rfl

theorem Keeps.trans {s x u : State} (a : Keeps h s x) (b : Keeps h x u) : Keeps h s u := fun n => (b n).trans (a n)

theorem Keeps.of_frame {m : Nat} {s u : State} (f : Frame m s u) (hm : m.testBit 39 = false) : Keeps h s u :=
  fun n => congrArg (Option.map h) (session_of_frame f hm n)

theorem Keeps.of_sessions {s u : State} (e : u.idm.sessions = s.idm.sessions) : Keeps h s u :=
  fun n => congrArg (fun m => (NMap.find m n).map h) e

theorem Keeps.updSession {m : Nat} {f : Session → Session} (s : State) (hf : ∀ x, h (f x) = h x) : Keeps h s (s.updSession m f) := by
  intro n
  rw [updSession_session]
  split
  · rw [Option.map_map]
    exact congrArg (fun g => (s.session? n).map g) (funext hf)
  · rfl

theorem Keeps.foldl {β : Type} {g : State → β → State} (hg : ∀ s b, Keeps h s (g s b)) (l : List β) (s : State) :
    Keeps h s (l.foldl g s) := by
  induction l generalizing s with
  | nil => exact .refl s
  | cons b l ih => exact (hg s b).trans (ih (g s b))

theorem Keeps.map_some {s u : State} (k : Keeps h s u) {n : Nat} {a : α} (e : (s.session? n).map h = some a) :
    (u.session? n).map h = some a := (k n).trans e

theorem Keeps.session {s u : State} (k : Keeps h s u) {n : Nat} {x : Session} (e : s.session? n = some x) :
    ∃ y, u.session? n = some y ∧ h y = h x := Option.map_eq_some_iff.1 ((k n).trans (congrArg (Option.map h) e))

theorem Keeps.absent {s u : State} (k : Keeps h s u) {n : Nat} (e : s.session? n = none) : u.session? n = none :=
  Option.map_eq_none_iff.1 ((k n).trans (congrArg (Option.map h) e))

theorem transmit_sessionKept (hh : Wireless h) (n : Nat) (p : Packet) (s : State) : Keeps h s (s.transmit n p) := transmit_keeps hh n p s

theorem launch_keeps (hh : Opless h) (n : Nat) (p : Packet) (s : State) : Keeps h s (s.launch n p) := by
  unfold State.launch
  split
  · exact .refl s
  · refine (Keeps.updSession s fun x => ?_).trans (transmit_sessionKept hh.wireless n p _)
    exact hh x x.nextPsn x.sendq _ x.toSeal x.lastTx x.ops x.rekeyPsn

theorem sendSeq_keeps (hh : Opless h) (n : Nat) (p : Packet) (s : State) : Keeps h s (s.sendSeq n p) := by
  unfold State.sendSeq
  split
  · exact .refl s
  · have h1 : Keeps h s (s.updSession n fun x => { x with nextPsn := psnNext x.nextPsn }) :=
      .updSession s fun x => hh x _ x.sendq x.unacked x.toSeal x.lastTx x.ops x.rekeyPsn
    dsimp only
    split
    · exact h1.trans (launch_keeps hh n _ _)
    · exact h1.trans (.updSession _ fun x => hh x x.nextPsn _ x.unacked x.toSeal x.lastTx x.ops x.rekeyPsn)

theorem startOp_keeps (hh : Opless h) (n queue : Nat) (owner : OpOwner) (group : Option Nat) (read : Bool) (len : Nat) (ps : List Packet)
    (s : State) : Keeps h s (s.startOp n queue owner group read len ps) := by
  unfold State.startOp
  split
  · exact .refl s
  · dsimp only
    refine ((Keeps.updSession (m := n) s fun x => ?_).trans (.of_sessions rfl)).trans (.foldl (fun s p => sendSeq_keeps hh n _ s) ps _)
    exact hh x x.nextPsn x.sendq x.unacked x.toSeal x.lastTx _ x.rekeyPsn

theorem startCopy_keeps (hh : Opless h) (n queue : Nat) (w : WorkEntry) (key offset : Nat) (tag : Option Nat) (s : State) :
    Keeps h s (s.startCopy n queue w key offset tag) := by
  unfold State.startCopy
  dsimp only
  split
  · refine (startOp_keeps hh n queue _ tag true w.len _ s).trans (.updSession _ fun x => ?_)
    exact hh x x.nextPsn x.sendq x.unacked x.toSeal x.lastTx _ x.rekeyPsn
  · split
    · exact startOp_keeps hh n queue _ tag false 8 _ s
    · exact startOp_keeps hh n queue _ tag false w.len _ s

theorem startEntry_keeps (hh : Opless h) (key : Nat) (w : WorkEntry) (s : State) : Keeps h s (s.startEntry key w) := by
  unfold State.startEntry
  dsimp only
  split
  · split
    · exact startCopy_keeps hh _ _ w _ _ _ s
    · exact .of_sessions rfl
  · refine Keeps.trans (.of_sessions rfl) (.foldl (fun s q => ?_) _ _)
    split
    · exact startCopy_keeps hh _ _ w _ _ _ s
    · exact .of_frame (State.groupDone_frame _ _ s) (by decide)

theorem runQueues_keeps (hh : Opless h) (k : Nat) (s : State) : Keeps h s (s.runQueues k) := by
  induction k generalizing s with
  | zero => exact .refl s
  | succ k ih =>
    unfold State.runQueues
    dsimp only
    split
    · exact .refl s
    · rename_i key w v _
      refine Keeps.trans ?_ (ih _)
      have hp : Keeps h s (s.popEntry key) := .of_sessions rfl
      split
      · exact hp.trans (startEntry_keeps hh key w _)
      · exact hp.trans (.of_frame (State.chainEnd_frame _ _ _) (by decide))

theorem chains_keeps (hh : Opless h) (s : State) : Keeps h s s.chains := runQueues_keeps hh _ s

theorem sendAck_keeps (hw : Wireless h) (ha : ∀ x, h { x with sinceAck := 0, ackFrom := 0 } = h x) (n : Nat) (s : State) :
    Keeps h s (s.sendAck n) := by
  unfold State.sendAck
  split
  · exact .refl s
  · exact (Keeps.updSession s ha).trans (transmit_sessionKept hw n _ _)

theorem sendStatus_keeps (hh : Opless h) (n : Nat) (p : Packet) (code hint : Nat) (s : State) : Keeps h s (s.sendStatus n p code hint) :=
  (sendSeq_keeps hh n _ s).trans (.of_frame (State.count_frame _ _) (by decide))

end

/-! ### The transport's tables -/

/-- The transport's tables but for the sessions stand. -/
def TablesKept (s u : State) : Prop := ∃ m, u.idm = { s.idm with sessions := m }

theorem TablesKept.refl (s : State) : TablesKept s s := ⟨_, rfl⟩

theorem TablesKept.trans {s x u : State} (a : TablesKept s x) (b : TablesKept x u) : TablesKept s u := by
  obtain ⟨m, hm⟩ := a
  obtain ⟨k, hk⟩ := b
  exact ⟨k, by rw [hk, hm]⟩

theorem TablesKept.of_frame {m : Nat} {s u : State} (f : Frame m s u) (hm : m.testBit 12 = false) : TablesKept s u :=
  ⟨s.idm.sessions, by rw [f.idm hm]⟩

theorem TablesKept.updSession (n : Nat) (f : Session → Session) (s : State) : TablesKept s (s.updSession n f) := ⟨_, rfl⟩

theorem TablesKept.foldl {β : Type} {g : State → β → State} (hg : ∀ s b, TablesKept s (g s b)) (l : List β) (s : State) :
    TablesKept s (l.foldl g s) := by
  induction l generalizing s with
  | nil => exact .refl s
  | cons b l ih => exact (hg s b).trans (ih (g s b))

theorem TablesKept.queues {s u : State} (k : TablesKept s u) : u.idm.queues = s.idm.queues := by
  obtain ⟨m, hm⟩ := k
  rw [hm]

theorem TablesKept.stalls {s u : State} (k : TablesKept s u) : u.idm.stalls = s.idm.stalls := by
  obtain ⟨m, hm⟩ := k
  rw [hm]

theorem TablesKept.fault {s u : State} (k : TablesKept s u) : u.idm.faultIndex = s.idm.faultIndex ∧ u.idm.faultCode = s.idm.faultCode := by
  obtain ⟨m, hm⟩ := k
  rw [hm]
  exact ⟨rfl, rfl⟩

theorem transmit_tables (n : Nat) (p : Packet) (s : State) : TablesKept s (s.transmit n p) := by
  unfold State.transmit
  split
  · exact .refl s
  · split
    · exact .updSession _ _ s
    · exact ((TablesKept.updSession _ _ s).trans (.of_frame (State.emit_frame _ _) (by decide))).trans
        (.of_frame (State.count_frame _ _) (by decide))

theorem launch_tables (n : Nat) (p : Packet) (s : State) : TablesKept s (s.launch n p) := by
  unfold State.launch
  split
  · exact .refl s
  · exact (TablesKept.updSession _ _ s).trans (transmit_tables n p _)

theorem sendSeq_tables (n : Nat) (p : Packet) (s : State) : TablesKept s (s.sendSeq n p) := by
  unfold State.sendSeq
  split
  · exact .refl s
  · dsimp only
    split
    · exact (TablesKept.updSession _ _ s).trans (launch_tables n _ _)
    · exact (TablesKept.updSession _ _ s).trans (.updSession _ _ _)

theorem sendStatus_tables (n : Nat) (p : Packet) (code hint : Nat) (s : State) : TablesKept s (s.sendStatus n p code hint) :=
  (sendSeq_tables n _ s).trans (.of_frame (State.count_frame _ _) (by decide))

theorem sendAck_tables (n : Nat) (s : State) : TablesKept s (s.sendAck n) := by
  unfold State.sendAck
  split
  · exact .refl s
  · exact (TablesKept.updSession _ _ s).trans (transmit_tables n _ _)

/-! ### A packet on the wire -/

/-- A packet leaves at once on an unsealed session, and stands in line for a cipher pair on a sealed one. -/
def Leaves (n : Nat) (q : Packet) (x : Session) (s u : State) : Prop :=
  (x.sealed = true → (u.session? n).map (·.toSeal) = some (x.toSeal ++ [q])) ∧
  (x.sealed = false → s.moor.fenced = false → Sends (.packet n q) s u)

theorem transmit_leaves {n : Nat} {q : Packet} {x : Session} {s : State} (hx : s.session? n = some x) : Leaves n q x s (s.transmit n q) := by
  unfold State.transmit
  rw [hx]
  dsimp only
  refine ⟨fun hs => ?_, fun hs hf => ?_⟩
  · rw [if_pos hs, updSession_session, if_pos rfl, hx]
    rfl
  · rw [if_neg (by rw [hs]; exact Bool.false_ne_true)]
    exact sends_after (emit_after (State.updSession_frame n (fun x => { x with lastTx := s.time.now }) s) hf _) (State.count_frame _ _)

theorem Leaves.before {n : Nat} {q : Packet} {x y : Session} {s w u : State} {m : Nat} (f : Frame m s w) (hm : m.testBit 13 = false)
    (hx : y.sealed = x.sealed ∧ y.toSeal = x.toSeal) (h : Leaves n q y w u) : Leaves n q x s u := by
  obtain ⟨hs, ht⟩ := hx
  refine ⟨fun hx => ?_, fun hx hf => ?_⟩
  · rw [← ht]
    exact h.1 (hs.trans hx)
  · exact sends_before f (h.2 (hs.trans hx) (by rw [f.moor hm]; exact hf))

theorem Leaves.after {n : Nat} {q : Packet} {x : Session} {s w u : State} {m : Nat} (h : Leaves n q x s w) (f : Frame m w u)
    (hm : m.testBit 39 = false) : Leaves n q x s u :=
  ⟨fun hx => by rw [session_of_frame f hm]; exact h.1 hx, fun hx hf => sends_after (h.2 hx hf) f⟩

theorem transmit_leaves_updated {n : Nat} {q : Packet} {x : Session} {f : Session → Session} {s : State} (hx : s.session? n = some x)
    (hf : (f x).sealed = x.sealed ∧ (f x).toSeal = x.toSeal) : Leaves n q x s ((s.updSession n f).transmit n q) := by
  have h1 : (s.updSession n f).session? n = some (f x) := by
    rw [updSession_session, if_pos rfl, hx]
    rfl
  exact (transmit_leaves h1).before (State.updSession_frame n f s) (by decide) hf

/-- The ACK of a session (R228). -/
def ackOf (x : Session) : Packet :=
  { blankPacket 6 with dsess := x.peer, psn := x.cum, len := 32, aux := x.wlog2, payload := ackBitmap x }

theorem sendAck_leaves {n : Nat} {x : Session} {s : State} (hx : s.session? n = some x) : Leaves n (ackOf x) x s (s.sendAck n) := by
  unfold State.sendAck
  rw [hx]
  dsimp only
  exact transmit_leaves_updated (q := ackOf x) hx ⟨rfl, rfl⟩

theorem sendAck_starts {n : Nat} {x : Session} {s : State} (hx : s.session? n = some x) :
    ((s.sendAck n).session? n).map (fun y => (y.ackFrom, y.sinceAck)) = some (0, 0) := by
  unfold State.sendAck
  rw [hx]
  dsimp only
  rw [transmit_keeps (h := fun y : Session => (y.ackFrom, y.sinceAck)) (fun _ _ _ => rfl), updSession_session, if_pos rfl, hx]
  rfl

end Sys2Proof.Proofs
end

section
/-!
SUPPORT. The transport's timers (R224, R225, R228, R229, R236): CONNECT again and the attempt's end, the session's end, KEEPALIVE, the owed
ACK, packets that go again, and stalled packets that get RETRY_LATER.
-/

namespace Sys2Proof.Proofs

open Sys2Proof.Machine Sys2Proof.Safety Sys2Proof.Laws

/-! ### An attempt and a session end -/

theorem connectResend_sends {t n : Nat} {x : Session} {s : State} (ht : Ticking t s) (hx : s.session? n = some x) (hst : x.state = 1)
    (hlast : x.lastConnect + 10 * msTicks ≤ t) (hstart : t < x.start + 100 * msTicks) (hf : s.moor.fenced = false) :
    ∃ u, Sys2Proof.Machine.exec (.connectResend t n) s = .next u ∧ Sends (.connect n) s u ∧ u.session? n = some { x with lastConnect := t } := by
  have hnow : (s.advanceTo t).time.now = t := advanceTo_now ht.1 ht.2.1 ht.2.2
  have hx1 : (s.advanceTo t).session? n = some x := by rw [session_of_idm (advanceTo_idm t s)]; exact hx
  have hgo : ¬ (x.state ≠ 1 ∨ (s.advanceTo t).time.now < x.lastConnect + 10 * msTicks ∨ x.start + 100 * msTicks ≤ (s.advanceTo t).time.now) := by
    rw [hnow]
    omega
  have hf1 : (s.advanceTo t).moor.fenced = false := by rw [advanceTo_moor]; exact hf
  have hs : Frame 1 s (s.advanceTo t) := State.advanceTo_frame t s
  refine ⟨_, rfl, ?_⟩
  simp only [hx1, if_neg hgo]
  generalize s.advanceTo t = y at hnow hx1 hf1 hs ⊢
  have hy : Frame _ y (y.updSession n fun x => { x with lastConnect := y.time.now }) := State.updSession_frame _ _ _
  have hz : (y.updSession n fun x => { x with lastConnect := y.time.now }).session? n = some { x with lastConnect := t } := by
    rw [updSession_session, if_pos rfl, hx1, hnow]
    rfl
  generalize y.updSession n (fun x => { x with lastConnect := y.time.now }) = z at hy hz ⊢
  have hfz : z.moor.fenced = false := by rw [hy.moor (by decide)]; exact hf1
  split
  · have hk : Frame _ z (z.takeCounter (keySlot x.keyid false)).2 := State.takeCounter_frame _ z
    refine ⟨sends_before hs (sends_before hy (emit_after hk (by rw [hk.moor (by decide)]; exact hfz) _)), ?_⟩
    rw [session_of_frame (State.emit_frame _ _) (by decide), session_of_frame hk (by decide)]
    exact hz
  · refine ⟨sends_before hs (sends_before hy (emit_after (Frame.refl (m := 0) z) hfz _)), ?_⟩
    rw [session_of_frame (State.emit_frame _ _) (by decide)]
    exact hz

theorem dropAttempt_session (n : Nat) (s : State) (m : Nat) : (s.dropAttempt n).session? m = if n = m then none else s.session? m := by
  unfold State.dropAttempt
  split
  next x hx =>
    have hd : ({ s with idm := { s.idm with sessions := NMap.del s.idm.sessions n } } : State).session? m =
        if n = m then none else s.session? m := find_del _ _ _
    dsimp only
    split
    · rw [session_of_frame (State.unrefSlot_frame _ _) (by decide), session_of_frame (State.unrefSlot_frame _ _) (by decide)]
      exact hd
    · exact hd
  next hx =>
    by_cases h : n = m
    · rw [if_pos h, ← h]
      exact hx
    · rw [if_neg h]

theorem connectTimeout_ends {t n : Nat} {x : Session} {s : State} (ht : Ticking t s) (hx : s.session? n = some x) (hst : x.state = 1)
    (hstart : x.start + 100 * msTicks ≤ t) : ∃ u, Sys2Proof.Machine.exec (.connectTimeout t n) s = .next u ∧ u.session? n = none ∧
      ∀ m, m ≠ n → u.session? m = s.session? m := by
  have hx1 : (s.advanceTo t).session? n = some x := by rw [session_of_idm (advanceTo_idm t s)]; exact hx
  have hgo : x.state = 1 ∧ x.start + 100 * msTicks ≤ (s.advanceTo t).time.now := by
    rw [advanceTo_now ht.1 ht.2.1 ht.2.2]
    exact ⟨hst, hstart⟩
  refine ⟨_, rfl, ?_⟩
  simp only [hx1, if_pos hgo]
  refine ⟨(dropAttempt_session n _ n).trans (if_pos rfl), fun m hm => ?_⟩
  exact (dropAttempt_session n _ m).trans ((if_neg fun e => hm e.symm).trans (session_of_idm (advanceTo_idm t s) m))

/-- A session that ends is gone (R225, R226). -/
theorem endSession_gone (n : Nat) (timeout : Bool) (code : Nat) (data : List Nat) (s : State) :
    (s.endSession n timeout code data).session? n = none := by
  unfold State.endSession
  split
  next hx => exact hx
  next x _ =>
    dsimp only
    refine (chains_keeps (h := fun _ => ()) (fun _ _ _ _ _ _ _ _ => rfl) _).absent ?_
    rw [session_of_frame (State.record_frame _ _ _) (by decide)]
    have hdel (y : State) (q : NMap TQueue) (l : List (Nat × Nat × Nat × Packet × Nat)) :
        ({ y with idm := { y.idm with sessions := NMap.del y.idm.sessions n, queues := q, stalls := l } } : State).session? n = none :=
      (find_del _ _ _).trans (if_pos rfl)
    split
    · rw [session_of_frame (State.checkWrites_frame _) (by decide), session_of_frame (State.targetsLost_frame _ _) (by decide)]
      exact hdel _ _ _
    · exact hdel _ _ _

theorem sessionTimeout_ends {t n w : Nat} {x : Session} {s : State} (hx : s.session? n = some x) (hw : (s.advanceTo t).timedOut x = some w) :
    ∃ u, Sys2Proof.Machine.exec (.sessionTimeout t n) s = .next u ∧ u.session? n = none := by
  have hb : ((s.advanceTo t).session? n).bind (s.advanceTo t).timedOut = some w := by
    rw [session_of_idm (advanceTo_idm t s), hx]
    exact hw
  refine ⟨_, rfl, ?_⟩
  simp only [hb]
  exact endSession_gone n true _ _ _

/-! ### KEEPALIVE and the owed ACK -/

theorem sendSeq_nextPsn {n : Nat} {p : Packet} {s : State} {x : Session} (hx : s.session? n = some x) :
    ((s.sendSeq n p).session? n).map (·.nextPsn) = some (psnNext x.nextPsn) := by
  unfold State.sendSeq
  rw [hx]
  dsimp only
  have h1 : (s.updSession n (fun x => { x with nextPsn := psnNext x.nextPsn })).session? n = some { x with nextPsn := psnNext x.nextPsn } := by
    rw [updSession_session, if_pos rfl, hx]
    rfl
  generalize s.updSession n (fun x => { x with nextPsn := psnNext x.nextPsn }) = y at h1 ⊢
  split
  · unfold State.launch
    rw [h1]
    dsimp only
    rw [transmit_keeps (h := fun y : Session => y.nextPsn) (fun _ _ _ => rfl), updSession_session, if_pos rfl, h1]
    rfl
  · rw [updSession_session, if_pos rfl, h1]
    rfl

theorem keepaliveDue_sends {t n : Nat} {x : Session} {s : State} (ht : Ticking t s) (hx : s.session? n = some x) (hst : x.state ≠ 1)
    (hdue : x.lastTx + s.idmTimeout / 4 ≤ t) : ∃ u p, Sys2Proof.Machine.exec (.keepaliveDue t n) s = .next u ∧ Queued n u p ∧ p.opcode = 11 ∧
      p.psn = x.nextPsn ∧ (u.session? n).map (·.nextPsn) = some (psnNext x.nextPsn) := by
  have hx1 : (s.advanceTo t).session? n = some x := by rw [session_of_idm (advanceTo_idm t s)]; exact hx
  have hgo : (x.state != 1 && decide (x.lastTx + (s.advanceTo t).idmTimeout / 4 ≤ (s.advanceTo t).time.now)) = true := by
    have hi : (s.advanceTo t).idmTimeout = s.idmTimeout := congrArg (fun w => bits w 9 0 * msTicks) (reg_advanceTo t s _)
    rw [hi, advanceTo_now ht.1 ht.2.1 ht.2.2, decide_eq_true hdue, Bool.and_true]
    exact bne_iff_ne.2 hst
  refine ⟨_, { blankPacket 11 with psn := x.nextPsn, dsess := x.peer }, rfl, ?_⟩
  simp only [hx1, if_pos hgo]
  exact ⟨sendSeq_queued hx1, rfl, trivial, sendSeq_nextPsn hx1⟩

theorem ackDelay_sends {t n : Nat} {x : Session} {s : State} (ht : Ticking t s) (hx : s.session? n = some x) (ha : x.ackFrom ≠ 0)
    (hdue : x.ackFrom + 5000 ≤ t) : ∃ u p, Sys2Proof.Machine.exec (.ackDelay t n) s = .next u ∧ p.opcode = 6 ∧ p.psn = x.cum ∧
      p.payload = ackBitmap x ∧ (u.session? n).map (·.ackFrom) = some 0 ∧ (u.session? n).map (·.sinceAck) = some 0 ∧
      (x.sealed = true → (u.session? n).map (·.toSeal) = some (x.toSeal ++ [p])) ∧
      (x.sealed = false → s.moor.fenced = false → Sends (.packet n p) s u) := by
  have hx1 : (s.advanceTo t).session? n = some x := by rw [session_of_idm (advanceTo_idm t s)]; exact hx
  have hgo : (x.ackFrom != 0 && decide (x.ackFrom + 5000 ≤ (s.advanceTo t).time.now)) = true := by
    rw [advanceTo_now ht.1 ht.2.1 ht.2.2, decide_eq_true hdue, Bool.and_true]
    exact bne_iff_ne.2 ha
  refine ⟨_, ackOf x, rfl, rfl, rfl, rfl, ?_⟩
  simp only [hx1, if_pos hgo]
  obtain ⟨y, hy, hstart⟩ := Option.map_eq_some_iff.1 (sendAck_starts hx1)
  obtain ⟨hfrom, hsince⟩ := Prod.mk.inj hstart
  have hl : Leaves n (ackOf x) x s ((s.advanceTo t).sendAck n) :=
    (sendAck_leaves hx1).before (State.advanceTo_frame t s) (by decide) ⟨rfl, rfl⟩
  refine ⟨?_, ?_, hl⟩
  · rw [hy]
    exact congrArg some hfrom
  · rw [hy]
    exact congrArg some hsince

/-! ### Packets that go again -/

/-- An unacknowledged packet that goes again: its last tick is now, and RETX is set (R229). -/
theorem resend_leaves {n psn : Nat} {x : Session} {v : Sent} {s : State} (hx : s.session? n = some x)
    (hv : x.unacked.find? (fun y => y.packet.psn == psn) = some v) :
    ((s.resend n psn).session? n).map (·.unacked) =
      some (x.unacked.map (fun y => if y.packet.psn = psn then { y with lastTick := s.time.now } else y)) ∧
    Leaves n { v.packet with retx := true } x s (s.resend n psn) := by
  unfold State.resend
  have hb : (s.session? n).bind (fun x => x.unacked.find? (fun u => u.packet.psn == psn)) = some v := by
    rw [hx]
    exact hv
  rw [hb]
  dsimp only
  constructor
  · rw [session_of_frame (State.count_frame _ _) (by decide), transmit_keeps (h := fun y : Session => y.unacked) (fun _ _ _ => rfl),
      updSession_session, if_pos rfl, hx]
    rfl
  · exact (transmit_leaves_updated hx ⟨rfl, rfl⟩).after (State.count_frame _ _) (by decide)

theorem rtoExpiry_resends {t n psn : Nat} {x : Session} {v : Sent} {s : State} (ht : Ticking t s) (hx : s.session? n = some x)
    (hv : x.unacked.find? (fun y => y.packet.psn == psn) = some v) (hb : v.notBefore ≤ t)
    (hdue : v.lastTick + s.regField Reg.IDM_TIMERS 31 16 * 1000 ≤ t) :
    ∃ u, Sys2Proof.Machine.exec (.rtoExpiry t n psn) s = .next u ∧
      (u.session? n).map (·.unacked) = some (x.unacked.map (fun y => if y.packet.psn = psn then { y with lastTick := t } else y)) ∧
      Leaves n { v.packet with retx := true } x s u := by
  have hnow : (s.advanceTo t).time.now = t := advanceTo_now ht.1 ht.2.1 ht.2.2
  have hx1 : (s.advanceTo t).session? n = some x := by rw [session_of_idm (advanceTo_idm t s)]; exact hx
  have hfind : ((s.advanceTo t).session? n).bind (fun x => x.unacked.find? (fun u => u.packet.psn == psn)) = some v := by
    rw [hx1]
    exact hv
  have hgo : (decide (v.lastTick + (s.advanceTo t).regField Reg.IDM_TIMERS 31 16 * 1000 ≤ (s.advanceTo t).time.now) &&
      decide (v.notBefore ≤ (s.advanceTo t).time.now)) = true := by
    have hr : (s.advanceTo t).regField Reg.IDM_TIMERS 31 16 = s.regField Reg.IDM_TIMERS 31 16 :=
      congrArg (fun w => bits w 31 16) (reg_advanceTo t s _)
    rw [hr, hnow, decide_eq_true hdue, decide_eq_true hb]
    rfl
  refine ⟨_, rfl, ?_⟩
  simp only [hfind, if_pos hgo]
  obtain ⟨hu, hl⟩ := resend_leaves hx1 hv
  exact ⟨by rw [hu, hnow], hl.before (State.advanceTo_frame t s) (by decide) ⟨rfl, rfl⟩⟩

theorem find_map_psn (psn : Nat) (l : List Sent) (v : Sent) (f : Sent → Sent) (hf : ∀ y, (f y).packet = y.packet)
    (h : l.find? (fun y => y.packet.psn == psn) = some v) : (l.map f).find? (fun y => y.packet.psn == psn) = some (f v) := by
  rw [List.find?_map, show ((fun y : Sent => y.packet.psn == psn) ∘ f) = fun y => y.packet.psn == psn from
    funext fun y => congrArg (fun p : Packet => p.psn == psn) (hf y), h]
  rfl

theorem again_released (psn t : Nat) (w : Sent) :
    ((fun y : Sent => if y.packet.psn = psn then { y with lastTick := t } else y) ∘
      fun y : Sent => if y.packet.psn = psn then { y with notBefore := 0 } else y) w =
      if w.packet.psn = psn then { w with lastTick := t, notBefore := 0 } else w := by
  by_cases h : w.packet.psn = psn <;> simp [h]

theorem backoffExpiry_resends {t n psn : Nat} {x : Session} {v : Sent} {s : State} (ht : Ticking t s) (hx : s.session? n = some x)
    (hv : x.unacked.find? (fun y => y.packet.psn == psn) = some v) (hb : v.notBefore ≤ t) (hne : v.notBefore ≠ 0) :
    ∃ u, Sys2Proof.Machine.exec (.backoffExpiry t n psn) s = .next u ∧
      (u.session? n).map (·.unacked) =
        some (x.unacked.map (fun y => if y.packet.psn = psn then { y with lastTick := t, notBefore := 0 } else y)) ∧
      Leaves n { v.packet with retx := true } x s u := by
  have hnow : (s.advanceTo t).time.now = t := advanceTo_now ht.1 ht.2.1 ht.2.2
  have hx1 : (s.advanceTo t).session? n = some x := by rw [session_of_idm (advanceTo_idm t s)]; exact hx
  have hfind : ((s.advanceTo t).session? n).bind (fun x => x.unacked.find? (fun u => u.packet.psn == psn)) = some v := by
    rw [hx1]
    exact hv
  have hgo : (v.notBefore != 0 && decide (v.notBefore ≤ (s.advanceTo t).time.now)) = true := by
    rw [hnow, decide_eq_true hb, Bool.and_true]
    exact bne_iff_ne.2 hne
  have hps : v.packet.psn = psn := beq_iff_eq.1 (List.find?_some (p := fun y : Sent => y.packet.psn == psn) hv)
  refine ⟨_, rfl, ?_⟩
  simp only [hfind, if_pos hgo]
  have hs : Frame 1 s (s.advanceTo t) := State.advanceTo_frame t s
  generalize s.advanceTo t = y at hnow hx1 hs ⊢
  have hz : (y.updSession n (fun x => { x with unacked := x.unacked.map (fun (v : Sent) =>
      if v.packet.psn = psn then { v with notBefore := 0 } else v) })).session? n =
      some { x with unacked := x.unacked.map (fun (v : Sent) => if v.packet.psn = psn then { v with notBefore := 0 } else v) } := by
    rw [updSession_session, if_pos rfl, hx1]
    rfl
  have hf : Frame _ y (y.updSession n (fun x => { x with unacked := x.unacked.map (fun (v : Sent) =>
      if v.packet.psn = psn then { v with notBefore := 0 } else v) })) := State.updSession_frame _ _ y
  generalize y.updSession n (fun x => { x with unacked := x.unacked.map (fun (v : Sent) =>
      if v.packet.psn = psn then { v with notBefore := 0 } else v) }) = z at hz hf ⊢
  have hzn : z.time.now = t := by rw [hf.time (by decide)]; exact hnow
  obtain ⟨hu, hl⟩ := resend_leaves (psn := psn) (v := { v with notBefore := 0 }) hz
    ((find_map_psn psn x.unacked v _ (fun y => by split <;> rfl) hv).trans (congrArg some (if_pos hps)))
  refine ⟨?_, (hl.before (x := x) hf (by decide) ⟨rfl, rfl⟩).before (x := x) hs (by decide) ⟨rfl, rfl⟩⟩
  rw [hu, List.map_map, hzn]
  exact congrArg some (List.map_congr_left fun w _ => again_released psn t w)

/-! ### Stalled packets -/

/-- A stalled packet: its session, its region, its unit, the packet and the tick of its arrival. -/
abbrev Stalled : Type := Nat × Nat × Nat × Packet × Nat

/-- Stalled packets get RETRY_LATER, one after another (R236). -/
def retryEach (n : Nat) (ks : List Stalled) (s : State) : State :=
  ks.foldl (fun (s : State) (k : Stalled) =>
    ({ s with idm := { s.idm with stalls := s.idm.stalls.filter (fun y => y != k) } }).retryLater n k.2.2.2.1) s

theorem retryLater_tables (n : Nat) (p : Packet) (s : State) : TablesKept s (s.retryLater n p) := by
  unfold State.retryLater
  refine TablesKept.trans ?_ (sendStatus_tables n p 4 _ _)
  exact (((TablesKept.updSession _ _ s).trans (.of_frame (State.raise_frame _ _ _) (by decide))).trans
    (.of_frame (State.raise_frame _ _ _) (by decide))).trans (.of_frame (State.recordOnce_frame _ _ _ _) (by decide))

/-- What stands on a session when a RETRY_LATER is about to leave. -/
theorem retryLater_before (n : Nat) (p : Packet) (s : State) : ∃ y hint, s.retryLater n p = y.sendStatus n p 4 hint ∧ Keeps standing s y := by
  unfold State.retryLater
  refine ⟨_, _, rfl, ?_⟩
  refine (((Keeps.updSession s fun x => ?_).trans (.of_frame (State.raise_frame _ _ _) (by decide))).trans
    (.of_frame (State.raise_frame _ _ _) (by decide))).trans (.of_frame (State.recordOnce_frame _ _ _ _) (by decide))
  rfl

theorem queued_keeps {n : Nat} {s u : State} {p : Packet} (h : Queued n s p) (k : Keeps standing s u) : Queued n u p := by
  rw [queued_iff] at h ⊢
  rwa [k n]

theorem queued_sendStatus {n m : Nat} {p q : Packet} {code hint : Nat} {s : State} (h : Queued n s q) :
    Queued n (s.sendStatus m p code hint) q :=
  queued_of_eq (queued_sendSeq h) (session_of_frame (State.count_frame _ _) (by decide) n)

/-- A STATUS for a packet stands on its session, with the packet's PSN and the code (Table 10.3). -/
theorem sendStatus_queued {n : Nat} {p : Packet} {code hint : Nat} {s : State} {x : Session} (hx : s.session? n = some x) :
    ∃ q, Queued n (s.sendStatus n p code hint) q ∧ q.opcode = 5 ∧ q.aux = code + hint * 65536 ∧ q.offset = p.psn ∧ q.xid = p.xid :=
  ⟨_, queued_of_eq (sendSeq_queued hx) (session_of_frame (State.count_frame _ _) (by decide) n), rfl, rfl, rfl, rfl⟩

theorem queued_retryLater {n m : Nat} {p q : Packet} {s : State} (h : Queued n s q) : Queued n (s.retryLater m p) q := by
  obtain ⟨y, hint, e, k⟩ := retryLater_before m p s
  rw [e]
  exact queued_sendStatus (queued_keeps h k)

theorem retryLater_queued {n : Nat} {p : Packet} {s : State} {x : Session} (hx : s.session? n = some x) :
    ∃ q, Queued n (s.retryLater n p) q ∧ q.opcode = 5 ∧ q.aux % 65536 = 4 ∧ q.offset = p.psn := by
  obtain ⟨y, hint, e, k⟩ := retryLater_before n p s
  rw [e]
  obtain ⟨z, hz, _⟩ := k.session hx
  obtain ⟨q, hq, hop, haux, hoff, _⟩ := sendStatus_queued (p := p) (code := 4) (hint := hint) hz
  exact ⟨q, hq, hop, by omega, hoff⟩

theorem queued_retryEach {n m : Nat} {q : Packet} (ks : List Stalled) {s : State} (h : Queued n s q) : Queued n (retryEach m ks s) q := by
  unfold retryEach
  induction ks generalizing s with
  | nil => exact h
  | cons k ks ih => exact ih (queued_retryLater (queued_of_eq h rfl))

theorem retryEach_stalls (n : Nat) (ks : List Stalled) (s : State) :
    (retryEach n ks s).idm.stalls = s.idm.stalls.filter (fun y => !ks.contains y) := by
  unfold retryEach
  induction ks generalizing s with
  | nil => exact (List.filter_eq_self.2 fun _ _ => rfl).symm
  | cons k ks ih =>
    rw [List.foldl_cons, ih, (retryLater_tables _ _ _).stalls, List.filter_filter]
    refine congrArg (fun g => List.filter g s.idm.stalls) (funext fun y => ?_)
    rw [List.contains_cons]
    show (!ks.contains y && !(y == k)) = _
    rw [Bool.not_or, Bool.and_comm]

theorem retryEach_answers {n key unit : Nat} {x : Session} {k : Stalled} {ks : List Stalled} {s : State} (hx : s.session? n = some x)
    (hk : s.stallsOn n key unit = k :: ks) : ∃ p, (retryEach n (k :: ks) s).stallsOn n key unit = [] ∧ Queued n (retryEach n (k :: ks) s) p ∧
      p.opcode = 5 ∧ p.aux % 65536 = 4 ∧ p.offset = k.2.2.2.1.psn := by
  obtain ⟨p, hq, hp⟩ := retryLater_queued (p := k.2.2.2.1) (s := { s with idm := { s.idm with stalls := s.idm.stalls.filter (fun y => y != k) } })
    (x := x) hx
  refine ⟨p, ?_, queued_retryEach ks hq, hp⟩
  unfold State.stallsOn at hk ⊢
  rw [retryEach_stalls, List.filter_filter, List.filter_eq_nil_iff]
  intro y hy hc
  obtain ⟨hon, hnot⟩ := Bool.and_eq_true_iff.1 hc
  have hm : y ∈ k :: ks := hk ▸ List.mem_filter.2 ⟨hy, hon⟩
  rw [List.contains_iff_mem.2 hm] at hnot
  exact Bool.false_ne_true hnot

theorem stallExpiry_answers {t n key unit : Nat} {x : Session} {k : Stalled} {ks : List Stalled} {s : State} (ht : Ticking t s)
    (hx : s.session? n = some x) (hk : s.stallsOn n key unit = k :: ks) (hdue : k.2.2.2.2 + 50000 ≤ t) :
    ∃ u p, Sys2Proof.Machine.exec (.ondemandStallExpiry t n key unit) s = .next u ∧ u.stallsOn n key unit = [] ∧ Queued n u p ∧
      p.opcode = 5 ∧ p.aux % 65536 = 4 ∧ p.offset = k.2.2.2.1.psn := by
  have hk1 : (s.advanceTo t).stallsOn n key unit = k :: ks := by
    unfold State.stallsOn at hk ⊢
    rw [advanceTo_idm]
    exact hk
  have hgo : k.2.2.2.2 + 50000 ≤ (s.advanceTo t).time.now := by
    rw [advanceTo_now ht.1 ht.2.1 ht.2.2]
    exact hdue
  obtain ⟨p, hp⟩ := retryEach_answers ((session_of_idm (advanceTo_idm t s) n).trans hx) hk1
  refine ⟨_, p, ?_, hp⟩
  show execOndemandStallExpiry t n key unit s = _
  unfold execOndemandStallExpiry
  dsimp only
  rw [hk1]
  exact congrArg Host.Outcome.next (if_pos hgo)

theorem unitReady_answers {t n key unit : Nat} {x : Session} {k : Stalled} {ks : List Stalled} {s : State} (hx : s.session? n = some x)
    (hk : s.stallsOn n key unit = k :: ks) (hroom : s.unitRoom n = false) :
    ∃ u p, Sys2Proof.Machine.exec (.ondemandUnitReady t n key unit) s = .next u ∧ u.stallsOn n key unit = [] ∧ Queued n u p ∧
      p.opcode = 5 ∧ p.aux % 65536 = 4 ∧ p.offset = k.2.2.2.1.psn := by
  have hk1 : (s.advanceTo t).stallsOn n key unit = k :: ks := by
    unfold State.stallsOn at hk ⊢
    rw [advanceTo_idm]
    exact hk
  have hr1 : (s.advanceTo t).unitRoom n = false := after_advanceTo (P := fun y => y.unitRoom n = false) t fun _ => hroom
  obtain ⟨p, hp⟩ := retryEach_answers ((session_of_idm (advanceTo_idm t s) n).trans hx) hk1
  refine ⟨_, p, ?_, hp⟩
  show execOndemandUnitReady t n key unit s = _
  unfold execOndemandUnitReady
  dsimp only
  rw [hk1, hr1]
  rfl

/-- Settles O51. -/
theorem transportTimersAct : Obligations.TransportTimersAct := by
  unfold Obligations.TransportTimersAct
  exact ⟨fun t n x s ht hx hst => ⟨fun h1 h2 hf => connectResend_sends ht hx hst h1 h2 hf, fun h => connectTimeout_ends ht hx hst h⟩,
    fun t n w x s hx hw => sessionTimeout_ends hx hw,
    fun t n x s ht hx hst hd => keepaliveDue_sends ht hx hst hd,
    fun t n x s ht hx ha hd => ackDelay_sends ht hx ha hd,
    fun t n psn x v s ht hx hv hb => ⟨fun hd => rtoExpiry_resends ht hx hv hb hd, fun hne => backoffExpiry_resends ht hx hv hb hne⟩,
    fun t n key unit x k ks s ht hx hk => ⟨fun hd => stallExpiry_answers ht hx hk hd, fun hr => unitReady_answers hx hk hr⟩⟩

end Sys2Proof.Proofs
end

section
/-!
SUPPORT. The transport's queues of work entries (R237, R238): what the chains do where no entry or one entry waits, and how an entry starts,
waits or ends.
-/

namespace Sys2Proof.Proofs

open Sys2Proof.Machine Sys2Proof.Safety Sys2Proof.Laws

/-! ### A listed value among the others -/

/-- Where a key's value stands among the others of a map does not depend on the value. -/
theorem put_split {α : Type} (m : NMap α) (k : Nat) : ∃ l r : NMap α, (∀ v, NMap.put m k v = l ++ (k, v) :: r) ∧ ∀ q ∈ l ++ r, q ∈ m := by
  induction m with
  | nil => exact ⟨[], [], fun _ => rfl, fun _ h => h⟩
  | cons a m ih =>
    obtain ⟨j, w⟩ := a
    unfold NMap.put
    by_cases h : k < j
    · exact ⟨[], (j, w) :: m, fun _ => if_pos h, fun _ h => h⟩
    · by_cases e : k = j
      · exact ⟨[], m, fun _ => (if_neg h).trans (if_pos e), fun _ => List.mem_cons_of_mem _⟩
      · obtain ⟨l, r, hp, hm⟩ := ih
        refine ⟨(j, w) :: l, r, fun v => (if_neg h).trans ((if_neg e).trans (congrArg _ (hp v))), fun q hq => ?_⟩
        rcases List.mem_cons.1 hq with rfl | hq
        · exact List.mem_cons_self
        · exact List.mem_cons_of_mem _ (hm q hq)

/-! ### Queues -/

theorem tqueue_updQueue (k : Nat) (f : TQueue → TQueue) (s : State) (j : Nat) :
    (s.updQueue k f).tqueue j = if k = j then f (s.tqueue k) else s.tqueue j := by
  unfold State.tqueue NMap.getD
  show (NMap.find (NMap.put s.idm.queues k (f (s.tqueue k))) j).getD {} = _
  rw [find_put]
  split <;> rfl

theorem tqueue_of_queues {s u : State} (h : u.idm.queues = s.idm.queues) (k : Nat) : u.tqueue k = s.tqueue k :=
  congrArg (fun m : NMap TQueue => NMap.getD m k {}) h

/-- No entry waits in any of the queues listed. -/
def NoEntries (m : NMap TQueue) : Prop := ∀ q ∈ m, q.2.entries = []

theorem sum_entries {m : NMap TQueue} : (m.map (fun q => q.2.entries.length)).sum = 0 ↔ NoEntries m := by
  rw [List.sum_eq_zero_iff, List.forall_mem_map]
  exact forall₂_congr fun q _ => List.length_eq_zero_iff

theorem entriesLeft_eq_zero {s : State} : s.entriesLeft = 0 ↔ NoEntries s.idm.queues := sum_entries

theorem NoEntries.getD {m : NMap TQueue} (h : NoEntries m) (k : Nat) : (NMap.getD m k {}).entries = [] := by
  induction m with
  | nil => rfl
  | cons a m ih =>
    obtain ⟨j, q⟩ := a
    unfold NMap.getD
    rw [find_cons]
    split
    · exact h (j, q) List.mem_cons_self
    · exact ih fun q hq => h q (List.mem_cons_of_mem _ hq)

theorem NoEntries.put {m : NMap TQueue} {q : TQueue} {k : Nat} (h : NoEntries m) (hq : q.entries = []) : NoEntries (NMap.put m k q) := by
  obtain ⟨l, r, hp, hm⟩ := put_split m k
  rw [hp q]
  intro a ha
  rcases List.mem_append.1 ha with ha | ha
  · exact h a (hm a (List.mem_append_left _ ha))
  · rcases List.mem_cons.1 ha with rfl | ha
    · exact hq
    · exact h a (hm a (List.mem_append_right _ ha))

/-- Where no entry waits the chains do nothing. -/
theorem chains_none {s : State} (h : s.entriesLeft = 0) : s.chains = s := by
  unfold State.chains
  rw [h]
  rfl

theorem bump_entriesLeft {key code : Nat} {s : State} (h : s.entriesLeft = 0) : (s.bump key code).entriesLeft = 0 := by
  rw [entriesLeft_eq_zero] at h ⊢
  exact h.put (h.getD key)

/-- What becomes of the entry at the head of a queue, with the queue and the entry. -/
def State.headJudged (s : State) (q : Nat × TQueue) : Option (Nat × WorkEntry × Nat) :=
  match q.2.entries with
  | (w, c, _) :: _ => (s.judgeEntry q.1 w c).map (fun v => (q.1, w, v))
  | [] => none

theorem headJudged_none {s : State} {q : Nat × TQueue} (h : q.2.entries = []) : State.headJudged s q = none := by
  unfold State.headJudged
  rw [h]

theorem headJudged_entry {s : State} {k c a : Nat} {w : WorkEntry} {v : TQueue} (h : v.entries = [(w, c, a)]) :
    State.headJudged s (k, v) = (s.judgeEntry k w c).map (fun j => (k, w, j)) := by
  unfold State.headJudged
  dsimp only
  rw [h]

/-- The first queue that has an entry able to start or end. -/
def State.readyEntry (s : State) : Option (Nat × WorkEntry × Nat) := s.idm.queues.findSome? (State.headJudged s)

/-- One entry waits: the chains judge it alone. -/
theorem readyEntry_single {s : State} {m : NMap TQueue} {k c a : Nat} {w : WorkEntry} {v : TQueue} (hm : NoEntries m)
    (hq : s.idm.queues = NMap.put m k v) (hv : v.entries = [(w, c, a)]) :
    s.entriesLeft = 1 ∧ State.readyEntry s = (s.judgeEntry k w c).map (fun j => (k, w, j)) := by
  obtain ⟨l, r, hp, hin⟩ := put_split m k
  have hl : NoEntries l := fun q h => hm q (hin q (List.mem_append_left _ h))
  have hr : NoEntries r := fun q h => hm q (hin q (List.mem_append_right _ h))
  have hnone (n : NMap TQueue) (hn : NoEntries n) : n.findSome? (State.headJudged s) = none :=
    List.findSome?_eq_none_iff.2 fun q hq => headJudged_none (hn q hq)
  unfold State.entriesLeft State.readyEntry
  rw [hq, hp v]
  constructor
  · rw [List.map_append, List.sum_append, List.map_cons, List.sum_cons, sum_entries.2 hl, sum_entries.2 hr, hv]
    rfl
  · rw [List.findSome?_append, hnone l hl, List.findSome?_cons, headJudged_entry hv, hnone r hr]
    cases s.judgeEntry k w c <;> rfl

theorem runQueues_succ (n : Nat) (s : State) : s.runQueues (n + 1) =
    match State.readyEntry s with
    | none => s
    | some (key, w, v) => State.runQueues n (if v = 0 then (s.popEntry key).startEntry key w else (s.popEntry key).chainEnd key v) := rfl

theorem chains_waits {s : State} {m : NMap TQueue} {k c a : Nat} {w : WorkEntry} {v : TQueue} (hm : NoEntries m)
    (hq : s.idm.queues = NMap.put m k v) (hv : v.entries = [(w, c, a)]) (hj : s.judgeEntry k w c = none) : s.chains = s := by
  obtain ⟨h1, hr⟩ := readyEntry_single hm hq hv
  unfold State.chains
  rw [h1, runQueues_succ, hr, hj]
  rfl

theorem chains_starts {s : State} {m : NMap TQueue} {k c a : Nat} {w : WorkEntry} {v : TQueue} (hm : NoEntries m)
    (hq : s.idm.queues = NMap.put m k v) (hv : v.entries = [(w, c, a)]) (hj : s.judgeEntry k w c = some 0) :
    s.chains = (s.popEntry k).startEntry k w := by
  obtain ⟨h1, hr⟩ := readyEntry_single hm hq hv
  unfold State.chains
  rw [h1, runQueues_succ, hr, hj]
  rfl

/-! ### An entry starts -/

theorem startOp_queues (n queue : Nat) (owner : OpOwner) (group : Option Nat) (read : Bool) (len : Nat) (ps : List Packet) (s : State) :
    (s.startOp n queue owner group read len ps).idm.queues = s.idm.queues := by
  unfold State.startOp
  split
  · rfl
  · dsimp only
    exact (TablesKept.foldl (fun s p => sendSeq_tables n _ s) ps _).queues

/-- A copy of an entry starts: its first packet stands on the session with the session's next PSN, and no queue changes (R237). -/
theorem startCopy_queued {n queue key offset : Nat} {w : WorkEntry} {tag : Option Nat} {x : Session} {s : State} (hx : s.session? n = some x) :
    (∃ p, Queued n (s.startCopy n queue w key offset tag) p ∧ p.psn = x.nextPsn ∧ p.key = key ∧ p.offset = offset ∧
      p.opcode = (if w.opcode = 2 then 2 else if w.opcode = 4 then 4 else 1)) ∧
    (s.startCopy n queue w key offset tag).idm.queues = s.idm.queues := by
  unfold State.startCopy
  dsimp only
  split
  · have hq := startOp_queued (queue := queue) (len := w.len) (owner := .entry queue) (group := tag) (read := true)
      (p := { blankPacket 2 with queue := queue, key := key, offset := offset, aux := w.len }) (ps := []) hx
    refine ⟨⟨_, queued_keeps hq ?_, rfl, rfl, rfl, rfl⟩, startOp_queues _ _ _ _ _ _ _ s⟩
    refine Keeps.updSession _ fun y => ?_
    rfl
  · split
    · exact ⟨⟨_, startOp_queued hx, rfl, rfl, rfl, rfl⟩, startOp_queues _ _ _ _ _ _ _ s⟩
    · exact ⟨⟨_, startOp_queued hx, rfl, rfl, rfl, rfl⟩, startOp_queues _ _ _ _ _ _ _ s⟩

/-- A work entry posted on a queue where none waits. -/
def State.posted (queue : Nat) (w : WorkEntry) (cc : Nat) (s : State) : State :=
  s.updQueue queue (fun q => { q with entries := q.entries ++ [(w, cc, if q.entries.isEmpty then s.time.now else 0)] })

theorem posted_entries {queue cc : Nat} {w : WorkEntry} {s : State} (h : s.entriesLeft = 0) :
    ∃ v, (State.posted queue w cc s).idm.queues = NMap.put s.idm.queues queue v ∧ v.entries = [(w, cc, s.time.now)] ∧
      v.cc = (s.tqueue queue).cc := by
  have he : (s.tqueue queue).entries = [] := (entriesLeft_eq_zero.1 h).getD queue
  refine ⟨_, rfl, ?_, rfl⟩
  dsimp only
  rw [he]
  rfl

theorem workEntryPost_next {t queue : Nat} {w : WorkEntry} {s : State} (ho : s.sessionOpen (queue / 16384) = true) :
    Sys2Proof.Machine.exec (.workEntryPost t queue w) s = .next (State.posted queue w
      (match w.waitQueue with | some q => (s.tqueue q).cc | none => 0) (s.advanceTo t)).chains := by
  have ho1 : (s.advanceTo t).sessionOpen (queue / 16384) = true := by
    unfold State.sessionOpen
    rw [session_of_idm (advanceTo_idm t s)]
    exact ho
  have hq (q : Nat) : (s.advanceTo t).tqueue q = s.tqueue q := tqueue_of_queues (congrArg (·.queues) (advanceTo_idm t s)) q
  show execWorkEntryPost t queue w s = _
  unfold execWorkEntryPost
  dsimp only
  rw [ho1, if_neg (c := (!true) = true) Bool.false_ne_true]
  simp only [hq]
  rfl

theorem workEntry_starts {t queue : Nat} {w : WorkEntry} {x : Session} {s : State} (h0 : s.entriesLeft = 0)
    (ho : s.sessionOpen (queue / 16384) = true) (hw : w.waitQueue = none) (hg : w.group = none) (hx : s.session? w.session = some x)
    (hst : x.state = 2) : ∃ u p, Sys2Proof.Machine.exec (.workEntryPost t queue w) s = .next u ∧ Queued w.session u p ∧ p.psn = x.nextPsn ∧
      p.key = w.key ∧ p.offset = w.offset ∧ p.opcode = (if w.opcode = 2 then 2 else if w.opcode = 4 then 4 else 1) ∧
      (u.tqueue queue).entries = [] := by
  have h1 : (s.advanceTo t).entriesLeft = 0 := after_advanceTo (P := fun y => y.entriesLeft = 0) t fun _ => h0
  have hx1 : (s.advanceTo t).session? w.session = some x := (session_of_idm (advanceTo_idm t s) _).trans hx
  rw [workEntryPost_next ho, hw]
  generalize s.advanceTo t = y at h1 hx1 ⊢
  obtain ⟨v, hv, hve, _⟩ := posted_entries (queue := queue) (w := w) (cc := 0) h1
  have hj : (State.posted queue w 0 y).judgeEntry queue w 0 = some 0 := by
    unfold State.judgeEntry
    rw [hw]
  rw [chains_starts (entriesLeft_eq_zero.1 h1) hv hve hj]
  have hxz : ((State.posted queue w 0 y).popEntry queue).session? w.session = some x := hx1
  have hz : (((State.posted queue w 0 y).popEntry queue).tqueue queue).entries = [] := by
    unfold State.popEntry
    rw [tqueue_updQueue, if_pos rfl]
    have he : ((State.posted queue w 0 y).tqueue queue).entries = [(w, 0, y.time.now)] := by
      unfold State.tqueue NMap.getD
      rw [hv, find_put, if_pos rfl]
      exact hve
    dsimp only
    rw [he]
    rfl
  generalize (State.posted queue w 0 y).popEntry queue = z at hxz hz ⊢
  have hopen : z.sessionOpen w.session = true := by
    unfold State.sessionOpen
    rw [hxz]
    exact beq_iff_eq.2 hst
  have he : z.startEntry queue w = z.startCopy w.session (queue % 16384) w w.key w.offset none := by
    unfold State.startEntry
    rw [hg]
    exact if_pos hopen
  obtain ⟨⟨p, hp, hpsn, hkey, hoff, hop⟩, hqs⟩ := startCopy_queued (n := w.session) (queue := queue % 16384) (key := w.key) (offset := w.offset)
    (w := w) (tag := none) hxz
  refine ⟨_, p, rfl, ?_⟩
  rw [he]
  exact ⟨hp, hpsn, hkey, hoff, hop, (congrArg TQueue.entries (tqueue_of_queues hqs queue)).trans hz⟩

/-- What an entry waits for does not change with the entries of a queue (R238). -/
theorem judgeEntry_posted {queue q cc : Nat} {w : WorkEntry} {s : State} (hw : w.waitQueue = some q) (c : Nat) :
    (State.posted queue w cc s).judgeEntry queue w c = s.judgeEntry queue w c := by
  have hq : ((State.posted queue w cc s).tqueue q).errors = (s.tqueue q).errors ∧ ((State.posted queue w cc s).tqueue q).cc = (s.tqueue q).cc := by
    unfold State.posted
    rw [tqueue_updQueue]
    split
    next e =>
      rw [e]
      exact ⟨rfl, rfl⟩
    next => exact ⟨rfl, rfl⟩
  unfold State.judgeEntry
  rw [hw]
  dsimp only
  rw [hq.1, hq.2]
  rfl

theorem workEntry_waits {t queue q : Nat} {w : WorkEntry} {s : State} (h0 : s.entriesLeft = 0)
    (ho : s.sessionOpen (queue / 16384) = true) (hw : w.waitQueue = some q) (hj : s.judgeEntry queue w (s.tqueue q).cc = none) :
    ∃ u, Sys2Proof.Machine.exec (.workEntryPost t queue w) s = .next u ∧
      (u.tqueue queue).entries = [(w, (s.tqueue q).cc, u.time.now)] ∧ (u.tqueue queue).cc = (s.tqueue queue).cc := by
  have h1 : (s.advanceTo t).entriesLeft = 0 := after_advanceTo (P := fun y => y.entriesLeft = 0) t fun _ => h0
  have hj1 : (s.advanceTo t).judgeEntry queue w (s.tqueue q).cc = none :=
    after_advanceTo (P := fun y => y.judgeEntry queue w (s.tqueue q).cc = none) t fun _ => hj
  have hc1 : ((s.advanceTo t).tqueue queue).cc = (s.tqueue queue).cc := by
    rw [tqueue_of_queues (congrArg (·.queues) (advanceTo_idm t s))]
  rw [workEntryPost_next ho, hw]
  dsimp only
  generalize (s.tqueue q).cc = cc at hj1 ⊢
  generalize s.advanceTo t = y at h1 hj1 hc1 ⊢
  obtain ⟨v, hv, hve, hvc⟩ := posted_entries (queue := queue) (w := w) (cc := cc) h1
  rw [chains_waits (entriesLeft_eq_zero.1 h1) hv hve ((judgeEntry_posted hw cc).trans hj1)]
  have ht : (State.posted queue w cc y).tqueue queue = v := by
    unfold State.tqueue NMap.getD
    rw [hv, find_put, if_pos rfl]
    rfl
  refine ⟨_, rfl, ?_⟩
  rw [ht]
  exact ⟨hve, hvc.trans hc1⟩

/-! ### An entry ends -/

theorem chainTimeout_ends {t queue cc at_ : Nat} {w : WorkEntry} {s : State} (ht : Ticking t s)
    (he : (s.tqueue queue).entries = [(w, cc, at_)]) (hsum : ((NMap.put s.idm.queues queue {}).map (fun q => q.2.entries.length)).sum = 0)
    (hw : w.waitQueue.isSome = true) (hdue : at_ + s.regField Reg.IDM_CHAIN 15 0 * msTicks ≤ t) :
    ∃ u, Sys2Proof.Machine.exec (.chainTimeout t queue) s = .next u ∧ (u.tqueue queue).entries = [] ∧
      (u.tqueue queue).cc = ((s.tqueue queue).cc + 1) % 2 ^ 32 ∧ (u.tqueue queue).errors = (s.tqueue queue).errors ++ [(u.tqueue queue).cc] := by
  have hnow : (s.advanceTo t).time.now = t := advanceTo_now ht.1 ht.2.1 ht.2.2
  have hq : (s.advanceTo t).tqueue queue = s.tqueue queue := tqueue_of_queues (congrArg (·.queues) (advanceTo_idm t s)) queue
  have hne : NoEntries (NMap.put (s.advanceTo t).idm.queues queue {}) := by
    rw [advanceTo_idm]
    exact sum_entries.1 hsum
  have hgo : (w.waitQueue.isSome && decide (at_ + (s.advanceTo t).regField Reg.IDM_CHAIN 15 0 * msTicks ≤ (s.advanceTo t).time.now)) = true := by
    have hr : (s.advanceTo t).regField Reg.IDM_CHAIN 15 0 = s.regField Reg.IDM_CHAIN 15 0 :=
      congrArg (fun v => bits v 15 0) (reg_advanceTo t s _)
    rw [hw, hr, hnow, decide_eq_true hdue]
    rfl
  have hnext : Sys2Proof.Machine.exec (.chainTimeout t queue) s =
      .next (((s.advanceTo t).popEntry queue).chainEnd queue 0x12).chains := by
    show execChainTimeout t queue s = _
    unfold execChainTimeout
    dsimp only
    rw [hq, he]
    exact congrArg Host.Outcome.next (if_pos hgo)
  rw [hnext]
  generalize s.advanceTo t = y at hq hne ⊢
  have hp : ((y.popEntry queue).tqueue queue) = { s.tqueue queue with entries := [] } := by
    unfold State.popEntry
    rw [tqueue_updQueue, if_pos rfl, hq, he]
    rfl
  have hpq : NoEntries (y.popEntry queue).idm.queues := by
    obtain ⟨l, r, hput, _⟩ := put_split y.idm.queues queue
    rw [hput] at hne
    show NoEntries (NMap.put y.idm.queues queue _)
    rw [hput]
    intro a ha
    rcases List.mem_append.1 ha with ha | ha
    · exact hne a (List.mem_append_left _ ha)
    · rcases List.mem_cons.1 ha with rfl | ha
      · dsimp only
        rw [hq, he]
        rfl
      · exact hne a (List.mem_append_right _ (List.mem_cons_of_mem _ ha))
  generalize y.popEntry queue = z at hp hpq ⊢
  have hz : ((z.raise Reg.IDM_STATUS 0x80).recordOnce 0x6130 0 [queue % 16384, 0x12]).idm = z.idm :=
    ((State.recordOnce_frame _ _ _ _).idm (by decide)).trans ((State.raise_frame _ _ _).idm (by decide))
  unfold State.chainEnd
  generalize (z.raise Reg.IDM_STATUS 0x80).recordOnce 0x6130 0 [queue % 16384, 0x12] = r at hz ⊢
  have hr0 : r.entriesLeft = 0 := entriesLeft_eq_zero.2 (by rw [hz]; exact hpq)
  have hrq : r.tqueue queue = { s.tqueue queue with entries := [] } := (tqueue_of_queues (congrArg (·.queues) hz) queue).trans hp
  refine ⟨_, rfl, ?_⟩
  rw [chains_none (bump_entriesLeft hr0)]
  unfold State.bump
  rw [tqueue_updQueue, if_pos rfl, hrq]
  exact ⟨rfl, rfl, rfl⟩

/-- Settles O52. -/
theorem workEntriesRunInOrder : Obligations.WorkEntriesRunInOrder := by
  unfold Obligations.WorkEntriesRunInOrder
  exact ⟨fun t queue w x s h0 ho hw hg hx hst => workEntry_starts h0 ho hw hg hx hst,
    fun t queue q w s h0 ho hw hj => workEntry_waits h0 ho hw hj,
    fun t queue cc at_ w s ht he hsum hw hdue => chainTimeout_ends ht he hsum hw hdue⟩

end Sys2Proof.Proofs
end

section
/-!
SUPPORT. Packets that arrive (R222, R227, R228, R231): what a packet meets before its opcode acts, the rule that an applied packet is noted as
received, and the rule that one received before is acknowledged again.
-/

namespace Sys2Proof.Proofs

open Sys2Proof.Machine Sys2Proof.Safety Sys2Proof.Laws

/-! ### What a packet meets -/

/-- The state in which a packet's opcode acts: the session has heard its peer, and the packet is counted (R225). -/
def State.met (p : Packet) (s : State) : State :=
  (s.updSession p.dsess (fun x => { x with lastRx := s.time.now })).count (ctrSession p.dsess 1)

theorem met_eq (p : Packet) (s : State) : ∃ m c, State.met p s = { s with idm := { s.idm with sessions := m }, tally := c } := by
  obtain ⟨c, hc⟩ := count_eq (ctrSession p.dsess 1) (s.updSession p.dsess (fun x => { x with lastRx := s.time.now }))
  exact ⟨_, c, hc⟩

theorem met_frame (p : Packet) (s : State) : Frame (2 ^ 4 + 2 ^ 12 + 2 ^ 39) s (State.met p s) :=
  .comp (State.count_frame _ _) rfl (.comp (State.updSession_frame _ _ s) rfl (.refl s))

theorem met_session {p : Packet} {s : State} {x : Session} (h : s.session? p.dsess = some x) :
    (State.met p s).session? p.dsess = some { x with lastRx := s.time.now } := by
  unfold State.met
  rw [session_of_frame (State.count_frame _ _) (by decide), updSession_session, if_pos rfl, h]
  rfl

theorem met_tables (p : Packet) (s : State) : TablesKept s (State.met p s) :=
  (TablesKept.updSession _ _ s).trans (.of_frame (State.count_frame _ _) (by decide))

theorem arrive_reached {p : Packet} {x : Session} {s : State} (h : Reaches p x s) (act : Nat → Session → State → State) :
    s.arrive p act = act p.dsess x (State.met p s) := by
  obtain ⟨hreset, hslack, hform, hx, hst, hauth⟩ := h
  unfold State.arrive
  rw [if_neg (not_or.2 ⟨hreset, hslack⟩), if_neg (by rw [hform]; exact Bool.false_ne_true), hx]
  dsimp only
  rw [if_neg hst, hauth, if_neg (c := (!true) = true) Bool.false_ne_true]
  rfl

theorem reaches_advanceTo {p : Packet} {x : Session} {s : State} (t : Nat) (h : Reaches p x s) : Reaches p x (s.advanceTo t) :=
  after_advanceTo (P := Reaches p x) t fun _ => h

/-! ### A packet is noted as received -/

/-- A quantity of a session that noting a packet does not enter. -/
def Receiptless {α : Type} (h : Session → α) : Prop := ∀ (x : Session) (cum : Nat) (got : List Nat) (since ackFrom : Nat) (rekeyRx : Option Nat)
  (both : Bool) (held : List Bool) (toSeal : List Packet) (lastTx : Nat),
  h { x with cum := cum, got := got, sinceAck := since, ackFrom := ackFrom, rekeyRx := rekeyRx, bothPhases := both, heldPhases := held,
             toSeal := toSeal, lastTx := lastTx } = h x

theorem settlePhases_keeps {α : Type} {h : Session → α} (hh : ∀ (x : Session) held, h { x with heldPhases := held } = h x) (n : Nat) (s : State) :
    Keeps h s (s.settlePhases n) := by
  unfold State.settlePhases
  split
  · exact .refl s
  · dsimp only
    refine (Keeps.updSession (m := n) s fun x => ?_).trans (.foldl (fun s b => .of_frame (State.unrefSlot_frame _ s) (by decide)) _ _)
    exact hh x _

theorem settlePhases_tables (n : Nat) (s : State) : TablesKept s (s.settlePhases n) := by
  unfold State.settlePhases
  split
  · exact .refl s
  · exact (TablesKept.updSession _ _ s).trans (.foldl (fun s b => .of_frame (State.unrefSlot_frame _ s) (by decide)) _ _)

/-- How noting a packet ends: phases no longer used are released, and an ACK may leave. -/
theorem received_next {n : Nat} {p : Packet} {s : State} {y : Session} (hy : s.session? n = some y) :
    ∃ (f : Session → Session) (caught now : Bool) (k : Nat), (∀ x, ∃ since ackFrom rekeyRx both,
        f x = { x with cum := (advanceCum (y.got.length + 1) y.cum (y.got ++ [p.psn])).1,
                       got := (advanceCum (y.got.length + 1) y.cum (y.got ++ [p.psn])).2,
                       sinceAck := since, ackFrom := ackFrom, rekeyRx := rekeyRx, bothPhases := both }) ∧
      s.received n p = (let s1 := (s.updSession n f).countN k p.len
        let s2 := if caught then s1.settlePhases n else s1
        if now then s2.sendAck n else s2) := by
  unfold State.received
  rw [hy]
  exact ⟨_, _, _, _, fun x => ⟨_, _, _, _, rfl⟩, rfl⟩

theorem received_keeps {α : Type} {h : Session → α} (hh : Receiptless h) (n : Nat) (p : Packet) (s : State) : Keeps h s (s.received n p) := by
  cases hy : s.session? n with
  | none =>
    have he : s.received n p = s := by
      unfold State.received
      rw [hy]
    rw [he]
    exact .refl s
  | some y =>
    obtain ⟨f, caught, now, k, hf, he⟩ := received_next (p := p) hy
    have h1 : Keeps h s ((s.updSession n f).countN k p.len) := by
      refine (Keeps.updSession s fun x => ?_).trans (.of_frame (State.countN_frame _ _ _) (by decide))
      obtain ⟨a, b, c, d, hx⟩ := hf x
      rw [hx]
      exact hh x _ _ a b c d x.heldPhases x.toSeal x.lastTx
    have hs : Keeps h ((s.updSession n f).countN k p.len) (((s.updSession n f).countN k p.len).settlePhases n) :=
      settlePhases_keeps (fun x held => hh x x.cum x.got x.sinceAck x.ackFrom x.rekeyRx x.bothPhases held x.toSeal x.lastTx) n _
    have ha (u : State) : Keeps h u (u.sendAck n) :=
      sendAck_keeps (fun x a b => hh x x.cum x.got x.sinceAck x.ackFrom x.rekeyRx x.bothPhases x.heldPhases a b)
        (fun x => hh x x.cum x.got 0 0 x.rekeyRx x.bothPhases x.heldPhases x.toSeal x.lastTx) n u
    rw [he]
    cases caught <;> cases now
    · exact h1
    · exact h1.trans (ha _)
    · exact h1.trans hs
    · exact (h1.trans hs).trans (ha _)

theorem received_tables (n : Nat) (p : Packet) (s : State) : TablesKept s (s.received n p) := by
  cases hy : s.session? n with
  | none =>
    have he : s.received n p = s := by
      unfold State.received
      rw [hy]
    rw [he]
    exact .refl s
  | some y =>
    obtain ⟨f, caught, now, k, _, he⟩ := received_next (p := p) hy
    have h1 : TablesKept s ((s.updSession n f).countN k p.len) :=
      (TablesKept.updSession n f s).trans (.of_frame (State.countN_frame _ _ _) (by decide))
    rw [he]
    cases caught <;> cases now
    · exact h1
    · exact h1.trans (sendAck_tables n _)
    · exact h1.trans (settlePhases_tables n _)
    · exact (h1.trans (settlePhases_tables n _)).trans (sendAck_tables n _)

/-- CUM and what lies beyond it move on over the packet; what waits for a later one stands (R228). -/
theorem received_inbound {n : Nat} {p : Packet} {s : State} {y : Session} (hy : s.session? n = some y) :
    ((s.received n p).session? n).map inbound = some ((advanceCum (y.got.length + 1) y.cum (y.got ++ [p.psn])).1,
      (advanceCum (y.got.length + 1) y.cum (y.got ++ [p.psn])).2, y.fenced, y.closePsn) := by
  obtain ⟨f, caught, now, k, hf, he⟩ := received_next (p := p) hy
  have h1 : (((s.updSession n f).countN k p.len).session? n).map inbound = some ((advanceCum (y.got.length + 1) y.cum (y.got ++ [p.psn])).1,
      (advanceCum (y.got.length + 1) y.cum (y.got ++ [p.psn])).2, y.fenced, y.closePsn) := by
    rw [session_of_frame (State.countN_frame _ _ _) (by decide), updSession_session, if_pos rfl, hy]
    obtain ⟨a, b, c, d, hx⟩ := hf y
    show some (inbound (f y)) = _
    rw [hx]
    rfl
  have hs (u : State) : Keeps inbound u (u.settlePhases n) := settlePhases_keeps (fun _ _ => rfl) n u
  have ha (u : State) : Keeps inbound u (u.sendAck n) := sendAck_keeps (fun _ _ _ => rfl) (fun _ => rfl) n u
  rw [he]
  cases caught <;> cases now
  · exact h1
  · exact (ha _).map_some h1
  · exact (hs _).map_some h1
  · exact (ha _).map_some ((hs _).map_some h1)

/-! ### A sequenced packet arrives -/

theorem sequenced_applies {p : Packet} {n : Nat} {x : Session} {act : Packet → State → Bool × State} {s : State} (h : Applies p x) :
    s.sequenced p n x act = if (act p s).1 then (act p s).2.received n p else (act p s).2 := by
  obtain ⟨hlater, hgot, hwin, hfence⟩ := h
  have hnext : ¬ (p.fence && p.psn != x.cum) = true := by
    intro hc
    obtain ⟨hf, hne⟩ := Bool.and_eq_true_iff.1 hc
    exact bne_iff_ne.1 hne (hfence hf)
  unfold State.sequenced
  rw [hlater, hgot]
  exact (if_neg (c := (false || false) = true) Bool.false_ne_true).trans ((if_neg (Nat.not_le.2 hwin)).trans (if_neg hnext))

theorem sequenced_again {p : Packet} {n : Nat} {x : Session} {act : Packet → State → Bool × State} {s : State}
    (h : psnLater x.cum p.psn = true ∨ x.got.contains p.psn = true) :
    s.sequenced p n x act = (s.count (ctrSession n 3)).sendAck n := by
  unfold State.sequenced
  exact if_pos (Bool.or_eq_true_iff.2 h)

/-- What follows a packet's effects does nothing where nothing waits for it. -/
theorem after_sequenced {n : Nat} {s : State} {c : Nat} {g : List Nat} (h : (s.session? n).map inbound = some (c, g, [], none)) :
    (s.releaseFenced n (match s.session? n with | some x => x.fenced.length | none => 0)).settleClose n = s := by
  obtain ⟨y, hy, hin⟩ := Option.map_eq_some_iff.1 h
  obtain ⟨_, hrest⟩ := Prod.mk.inj hin
  obtain ⟨_, hrest⟩ := Prod.mk.inj hrest
  obtain ⟨hfenced, hclose⟩ := Prod.mk.inj hrest
  rw [hy]
  dsimp only
  rw [hfenced]
  show s.settleClose n = s
  unfold State.settleClose
  rw [hy]
  dsimp only
  rw [hclose]

theorem arriveSeq_reached {p : Packet} {x : Session} {s : State} (h : Reaches p x s) {u : State} {c : Nat} {g : List Nat}
    (hu : (State.met p s).sequenced p p.dsess x (fun q s => s.apply p.dsess q) = u)
    (hin : (u.session? p.dsess).map inbound = some (c, g, [], none)) : s.arriveSeq p = u := by
  unfold State.arriveSeq
  rw [arrive_reached h]
  dsimp only
  rw [hu]
  exact after_sequenced hin

/-- A packet that is applied and counts as received: it is noted, and nothing else follows. -/
theorem arriveSeq_noted {p : Packet} {x : Session} {s z : State} (h : Reaches p x s) (hw : Unwaited x) (ha : Applies p x)
    (hz : (State.met p s).apply p.dsess p = (true, z)) (hk : Keeps inbound (State.met p s) z) :
    s.arriveSeq p = z.received p.dsess p ∧ Noted p x (z.received p.dsess p) := by
  obtain ⟨hfenced, hclose⟩ := hw
  obtain ⟨_, _, _, hx, _, _⟩ := id h
  obtain ⟨y, hy, hyin⟩ := hk.session (met_session hx)
  obtain ⟨hcum, hrest⟩ := Prod.mk.inj hyin
  obtain ⟨hgot, hrest⟩ := Prod.mk.inj hrest
  obtain ⟨hyf, hyc⟩ := Prod.mk.inj hrest
  have hin := received_inbound (p := p) hy
  rw [hcum, hgot, hyf, hyc] at hin
  have hin2 : ((z.received p.dsess p).session? p.dsess).map inbound = some ((advanceCum (x.got.length + 1) x.cum (x.got ++ [p.psn])).1,
      (advanceCum (x.got.length + 1) x.cum (x.got ++ [p.psn])).2, [], none) := by
    rw [hin, ← hfenced, ← hclose]
  refine ⟨arriveSeq_reached h ?_ hin2, ?_⟩
  · rw [sequenced_applies ha, hz]
    exact if_pos rfl
  · obtain ⟨v, hv, he⟩ := Option.map_eq_some_iff.1 hin2
    unfold Noted
    rw [hv]
    exact congrArg (fun q : Nat × List Nat × List Packet × Option Nat => some (q.1, q.2.1)) he

/-- A packet received before leaves what counts as received alone and is acknowledged again (R228). -/
theorem arriveSeq_again {p : Packet} {x : Session} {s : State} (h : Reaches p x s) (hw : Unwaited x)
    (ha : psnLater x.cum p.psn = true ∨ x.got.contains p.psn = true) :
    (s.arriveSeq p).mem = s.mem ∧ ((s.arriveSeq p).session? p.dsess).map (fun y => (y.cum, y.got)) = some (x.cum, x.got) ∧
      Leaves p.dsess (ackOf x) x s (s.arriveSeq p) := by
  obtain ⟨hfenced, hclose⟩ := hw
  obtain ⟨_, _, _, hx, _, _⟩ := id h
  have hm : Frame (2 ^ 4 + 2 ^ 12 + 2 ^ 39) s ((State.met p s).count (ctrSession p.dsess 3)) :=
    .comp (State.count_frame _ _) rfl (met_frame p s)
  have hy : ((State.met p s).count (ctrSession p.dsess 3)).session? p.dsess = some { x with lastRx := s.time.now } :=
    (session_of_frame (State.count_frame _ _) (by decide) _).trans (met_session hx)
  have hseq := sequenced_again (n := p.dsess) (act := fun q s => s.apply p.dsess q) (s := State.met p s) ha
  generalize (State.met p s).count (ctrSession p.dsess 3) = z at hm hy hseq
  have hin : ((z.sendAck p.dsess).session? p.dsess).map inbound = some (x.cum, x.got, [], none) := by
    refine Keeps.map_some (s := z) (sendAck_keeps (fun _ _ _ => rfl) (fun _ => rfl) p.dsess z) ?_
    rw [hy, ← hfenced, ← hclose]
    rfl
  rw [arriveSeq_reached h hseq hin]
  refine ⟨((State.sendAck_frame _ z).mem (by decide)).trans (hm.mem (by decide)), ?_, ?_⟩
  · obtain ⟨v, hv, he⟩ := Option.map_eq_some_iff.1 hin
    rw [hv]
    exact congrArg (fun q : Nat × List Nat × List Packet × Option Nat => some (q.1, q.2.1)) he
  · have hl := sendAck_leaves hy
    exact hl.before (x := x) hm (by decide) ⟨rfl, rfl⟩

end Sys2Proof.Proofs
end

section
/-!
SUPPORT. Data packets (R221, R230 to R233): WRITE, NOTIFY and READ_REQ that their region admits, an access that it refuses, and a packet
received before.
-/

namespace Sys2Proof.Proofs

open Sys2Proof.Machine Sys2Proof.Safety Sys2Proof.Laws

/-! ### Access -/

theorem memWrite_mem {s u : State} (h : u.mem = s.mem) (a : Nat) (bs : List Byte) : (u.memWrite a bs).mem = (s.memWrite a bs).mem := by
  unfold State.memWrite
  rw [h]

/-- Memory, regions and controllers do not change while a packet is met, so its access is judged as before. -/
theorem regionCode_met (p : Packet) (s : State) (n : Nat) (q : Packet) : (State.met p s).regionCode n q = s.regionCode n q := by
  obtain ⟨m, c, h⟩ := met_eq p s
  rw [h]
  rfl

theorem accessCode_open {s : State} {n : Nat} {x : Session} {p : Packet} (h : ¬ (x.state = 3 ∧ p.first = true)) :
    s.accessCode n x p = s.regionCode n p := by
  unfold State.accessCode
  refine if_neg fun hc => h ?_
  obtain ⟨h3, hf⟩ := Bool.and_eq_true_iff.1 hc
  exact ⟨of_decide_eq_true h3, hf⟩

/-- A plain region that admits an access passes every check (R233). -/
theorem regionCode_admits {p : Packet} {len : Nat} {right : Region → Bool} {x : Session} {r : Region} {s : State}
    (h : Admits p len right x r s) (hlen : (if p.opcode = 2 then p.aux else p.len) = len)
    (hright : (if p.opcode = 2 then r.rd else if p.opcode = 4 then r.nt else r.wr) = right r) : s.regionCode p.dsess p = 0 := by
  obtain ⟨hfind, hused, hgen, howner, hfits, hr, hdoor, _, _⟩ := h
  unfold State.regionCode
  dsimp only
  rw [hfind]
  dsimp only
  rw [hused, hgen, howner, hlen, hright, hr, hdoor, if_neg (Nat.not_lt.2 hfits)]
  simp

theorem regionCode_le (s : State) (n : Nat) (p : Packet) : s.regionCode n p ≤ 3 := by
  unfold State.regionCode
  dsimp only
  split
  · decide
  · split_ifs <;> decide

/-! ### WRITE, NOTIFY and READ_REQ -/

theorem apply_write {p : Packet} {x : Session} {r : Region} {s : State} (hx : s.session? p.dsess = some x) (hop : p.opcode = 1)
    (h : Admits p p.len (·.wr) x r s) : s.apply p.dsess p = (true, s.memWrite (r.base + p.offset) p.payload) := by
  have hc : s.accessCode p.dsess x p = 0 := by
    obtain ⟨_, _, _, _, _, _, _, _, hopen⟩ := id h
    rw [accessCode_open hopen]
    exact regionCode_admits h (by rw [hop]; rfl) (by rw [hop]; rfl)
  obtain ⟨hfind, _, _, _, _, _, hdoor, hdemand, _⟩ := h
  unfold State.apply
  rw [hx, hop]
  show s.applyWrite p.dsess x p = _
  unfold State.applyWrite
  rw [hc, hfind]
  exact (if_neg (by rw [hdoor]; exact Bool.false_ne_true)).trans (if_neg (by rw [hdemand]; exact Bool.false_ne_true))

theorem apply_notify {p : Packet} {x : Session} {r : Region} {s : State} (hx : s.session? p.dsess = some x) (hop : p.opcode = 4)
    (h : Admits p p.len (·.nt) x r s) : s.apply p.dsess p = (true, s.memWrite (r.base + p.offset) p.payload) := by
  have hc : s.accessCode p.dsess x p = 0 := by
    obtain ⟨_, _, _, _, _, _, _, _, hopen⟩ := id h
    rw [accessCode_open hopen]
    exact regionCode_admits h (by rw [hop]; rfl) (by rw [hop]; rfl)
  obtain ⟨hfind, _, _, _, _, _, hdoor, hdemand, _⟩ := h
  unfold State.apply
  rw [hx, hop]
  show s.applyNotify p.dsess x p = _
  unfold State.applyNotify
  rw [hc, hfind]
  exact congrArg (Prod.mk true) (if_neg (by rw [hdoor, hdemand]; exact Bool.false_ne_true))

/-- The answer to a READ_REQ leaves as READ_RESP packets. -/
def State.answerRead (p : Packet) (bytes : List Byte) (s : State) : State :=
  (cutRead p bytes).foldl (fun (s : State) (q : Packet) => s.sendSeq p.dsess q) s

theorem apply_readReq {p : Packet} {x : Session} {r : Region} {s : State} (hx : s.session? p.dsess = some x) (hop : p.opcode = 2)
    (hlo : 1 ≤ p.aux) (hhi : p.aux ≤ 4194304) (h : Admits p p.aux (·.rd) x r s) (hpoison : s.poisonedIn (r.base + p.offset) p.aux = none) :
    s.apply p.dsess p = (true, State.answerRead p (s.memBytes (r.base + p.offset) p.aux) s) := by
  have hc : s.accessCode p.dsess x p = 0 := by
    obtain ⟨_, _, _, _, _, _, _, _, hopen⟩ := id h
    rw [accessCode_open hopen]
    exact regionCode_admits h (by rw [hop]; rfl) (by rw [hop]; rfl)
  obtain ⟨hfind, _, _, _, _, _, _, hdemand, _⟩ := h
  have hlen : ¬ (p.aux = 0 ∨ 4194304 < p.aux) := by omega
  have hclean : s.regionPoison r p.offset p.aux = none := by
    unfold State.regionPoison
    rw [hdemand]
    exact hpoison
  have hbytes : s.regionBytes r p.offset p.aux = s.memBytes (r.base + p.offset) p.aux := by
    unfold State.regionBytes
    rw [hdemand]
    rfl
  unfold State.apply
  rw [hx, hop]
  show s.applyReadReq p.dsess x p = _
  unfold State.applyReadReq
  simp only [if_neg hlen, hc, hfind, hclean, hbytes]
  rfl

/-- Every packet sent in turn stands on the session, numbered. -/
theorem sends_queued {n : Nat} (ps : List Packet) {s : State} {x : Session} (hx : s.session? n = some x) {p : Packet} (hp : p ∈ ps) :
    ∃ psn peer, Queued n (ps.foldl (fun (s : State) (q : Packet) => s.sendSeq n q) s) { p with psn := psn, dsess := peer } := by
  have hkeep : ∀ (l : List Packet) (u : State) (q : Packet), Queued n u q →
      Queued n (l.foldl (fun (s : State) (q : Packet) => s.sendSeq n q) u) q := by
    intro l
    induction l with
    | nil => exact fun _ _ h => h
    | cons a l ih => exact fun u q h => ih _ q (queued_sendSeq h)
  induction ps generalizing s x with
  | nil => exact absurd hp (List.not_mem_nil)
  | cons a ps ih =>
    rw [List.foldl_cons]
    rcases List.mem_cons.1 hp with rfl | hp
    · exact ⟨_, _, hkeep ps _ _ (sendSeq_queued hx)⟩
    · obtain ⟨y, hy, _⟩ := (sendSeq_keeps (h := fun _ => ()) (fun _ _ _ _ _ _ _ _ => rfl) n a s).session hx
      exact ih hy hp

theorem answerRead_queued {p : Packet} {bytes : List Byte} {s : State} {x : Session} (hx : s.session? p.dsess = some x) {i : Nat}
    (hi : i < ceilDiv bytes.length 8192) : ∃ q, Queued p.dsess (State.answerRead p bytes s) q ∧ q.opcode = 3 ∧ q.xid = p.xid ∧
      q.offset = 8192 * i ∧ q.payload = (bytes.drop (8192 * i)).take 8192 := by
  obtain ⟨psn, peer, hq⟩ := sends_queued (cutRead p bytes) hx (List.mem_map.2 ⟨i, List.mem_range.2 hi, rfl⟩)
  exact ⟨_, hq, rfl, rfl, rfl, rfl⟩

theorem answerRead_keeps {α : Type} {h : Session → α} (hh : Opless h) (p : Packet) (bytes : List Byte) (s : State) :
    Keeps h s (State.answerRead p bytes s) := .foldl (fun s q => sendSeq_keeps hh _ q s) _ s

theorem answerRead_mem (p : Packet) (bytes : List Byte) (s : State) : (State.answerRead p bytes s).mem = s.mem :=
  foldl_keep (·.mem) (fun s q => (State.sendSeq_frame _ q s).mem (by decide)) _ s

/-- What a region admits is not changed by meeting the packet. -/
theorem admits_met {p : Packet} {len : Nat} {right : Region → Bool} {x : Session} {r : Region} {s : State} (h : Admits p len right x r s) :
    Admits p len right { x with lastRx := s.time.now } r (State.met p s) := by
  obtain ⟨m, c, he⟩ := met_eq p s
  rw [he]
  exact h

theorem received_mem (n : Nat) (p : Packet) (s : State) : (s.received n p).mem = s.mem := (State.received_frame n p s).mem (by decide)

theorem queued_received {n m : Nat} {p q : Packet} {s : State} (h : Queued n s q) : Queued n (s.received m p) q :=
  queued_keeps h (received_keeps (fun _ _ _ _ _ _ _ _ _ _ => rfl) m p s)

/-- The bytes of an access that its region admits are written, and the packet is noted. -/
theorem access_writes {p : Packet} {x : Session} {r : Region} {s : State} (h : Reaches p x s) (hw : Unwaited x) (ha : Applies p x)
    (hz : (State.met p s).apply p.dsess p = (true, (State.met p s).memWrite (r.base + p.offset) p.payload)) :
    (s.arriveSeq p).mem = (s.memWrite (r.base + p.offset) p.payload).mem ∧ Noted p x (s.arriveSeq p) := by
  obtain ⟨he, hnoted⟩ := arriveSeq_noted h hw ha hz (.of_frame (State.memWrite_frame _ _ _) (by decide))
  rw [he]
  exact ⟨(received_mem _ p _).trans (memWrite_mem ((met_frame p s).mem (by decide)) _ _), hnoted⟩

theorem memBytes_length (s : State) (a n : Nat) : (s.memBytes a n).length = n := by
  unfold State.memBytes Memory.readBytes
  rw [List.length_map, List.length_range]

theorem read_answers {p : Packet} {x : Session} {r : Region} {s : State} (h : Reaches p x s) (hw : Unwaited x) (ha : Applies p x)
    (hop : p.opcode = 2) (hlo : 1 ≤ p.aux) (hhi : p.aux ≤ 4194304) (hr : Admits p p.aux (·.rd) x r s)
    (hpoison : s.poisonedIn (r.base + p.offset) p.aux = none) :
    (s.arriveSeq p).mem = s.mem ∧ Noted p x (s.arriveSeq p) ∧ ∀ i, i < ceilDiv p.aux 8192 → ∃ q, Queued p.dsess (s.arriveSeq p) q ∧
      q.opcode = 3 ∧ q.xid = p.xid ∧ q.offset = 8192 * i ∧ q.payload = ((s.memBytes (r.base + p.offset) p.aux).drop (8192 * i)).take 8192 := by
  obtain ⟨_, _, _, hx, _, _⟩ := id h
  have hmem : (State.met p s).mem = s.mem := (met_frame p s).mem (by decide)
  have hbytes : (State.met p s).memBytes (r.base + p.offset) p.aux = s.memBytes (r.base + p.offset) p.aux := by
    unfold State.memBytes
    rw [hmem]
  have hclean : (State.met p s).poisonedIn (r.base + p.offset) p.aux = none := by
    unfold State.poisonedIn at hpoison ⊢
    rw [hmem]
    exact hpoison
  have hz := apply_readReq (met_session hx) hop hlo hhi (admits_met hr) hclean
  rw [hbytes] at hz
  obtain ⟨he, hnoted⟩ := arriveSeq_noted h hw ha hz (answerRead_keeps inbound_opless p _ _)
  rw [he]
  refine ⟨(received_mem _ p _).trans ((answerRead_mem p _ _).trans hmem), hnoted, fun i hi => ?_⟩
  have hlen : (s.memBytes (r.base + p.offset) p.aux).length = p.aux := memBytes_length s _ _
  obtain ⟨q, hq, hrest⟩ := answerRead_queued (bytes := s.memBytes (r.base + p.offset) p.aux) (met_session hx) (by rw [hlen]; exact hi)
  exact ⟨q, queued_received hq, hrest⟩

/-! ### An access that is refused -/

theorem refuseAccess_shows {n code : Nat} {p : Packet} {s : State} {x : Session} (hx : s.session? n = some x) :
    (s.refuseAccess n p code).mem = s.mem ∧ (s.refuseAccess n p code).idm.faultIndex = p.key / 256 ∧
      (s.refuseAccess n p code).idm.faultCode = code ∧ Keeps inbound s (s.refuseAccess n p code) ∧
      ∃ q, Queued n (s.refuseAccess n p code) q ∧ q.opcode = 5 ∧ q.aux = code ∧ q.offset = p.psn ∧ q.xid = p.xid := by
  unfold State.refuseAccess
  dsimp only
  have hraise := State.raise_frame Reg.IDM_STATUS (2 ^ (code - 1)) { s with idm := { s.idm with faultIndex := p.key / 256, faultCode := code } }
  generalize State.raise Reg.IDM_STATUS (2 ^ (code - 1)) { s with idm := { s.idm with faultIndex := p.key / 256, faultCode := code } } = y
    at hraise ⊢
  have hrec := State.recordOnce_frame (0x610F + code) n [n, p.key / 256] y
  generalize y.recordOnce (0x610F + code) n [n, p.key / 256] = z at hrec ⊢
  have hidm : z.idm = { s.idm with faultIndex := p.key / 256, faultCode := code } :=
    (hrec.idm (by decide)).trans (hraise.idm (by decide))
  have hz : z.session? n = some x := by
    unfold State.session?
    rw [hidm]
    exact hx
  have hmem : z.mem = s.mem := (hrec.mem (by decide)).trans (hraise.mem (by decide))
  obtain ⟨hfi, hfc⟩ := (sendStatus_tables n p code 0 z).fault
  rw [hidm] at hfi hfc
  obtain ⟨q, hq, hop, haux, hoff, hxid⟩ := sendStatus_queued (p := p) (code := code) (hint := 0) hz
  refine ⟨((State.sendStatus_frame _ _ _ _ z).mem (by decide)).trans hmem, hfi, hfc, ?_, q, hq, hop, by rw [haux]; omega, hoff, hxid⟩
  exact (Keeps.of_sessions (congrArg (·.sessions) hidm)).trans (sendStatus_keeps inbound_opless n p code 0 z)

/-- A WRITE, READ_REQ or NOTIFY that fails a check of its region is refused (R233). -/
theorem apply_refused {n code : Nat} {p : Packet} {x : Session} {s : State} (hx : s.session? n = some x)
    (hop : p.opcode = 1 ∨ p.opcode = 2 ∨ p.opcode = 4) (hlen : p.opcode = 2 → 1 ≤ p.aux ∧ p.aux ≤ 4194304)
    (hc : s.accessCode n x p = code) (hcode : code = 1 ∨ code = 2 ∨ code = 3) : s.apply n p = (true, s.refuseAccess n p code) := by
  unfold State.apply
  rw [hx]
  rcases hop with hop | hop | hop
  · rw [hop]
    show s.applyWrite n x p = _
    unfold State.applyWrite
    rw [hc]
    rcases hcode with rfl | rfl | rfl <;> rfl
  · rw [hop]
    show s.applyReadReq n x p = _
    unfold State.applyReadReq
    obtain ⟨hlo, hhi⟩ := hlen hop
    rw [if_neg (by omega), hc]
    rcases hcode with rfl | rfl | rfl <;> rfl
  · rw [hop]
    show s.applyNotify n x p = _
    unfold State.applyNotify
    rw [hc]
    rcases hcode with rfl | rfl | rfl <;> rfl

theorem access_refused {code : Nat} {p : Packet} {x : Session} {s : State} (h : Reaches p x s) (hw : Unwaited x) (ha : Applies p x)
    (hc : s.regionCode p.dsess p = code) (hne : code ≠ 0) (hopen : ¬ (x.state = 3 ∧ p.first = true))
    (hlen : p.opcode = 2 → 1 ≤ p.aux ∧ p.aux ≤ 4194304) (hop : p.opcode = 1 ∨ p.opcode = 2 ∨ p.opcode = 4) :
    ∃ q, (s.arriveSeq p).mem = s.mem ∧ (s.arriveSeq p).idm.faultIndex = p.key / 256 ∧ (s.arriveSeq p).idm.faultCode = code ∧
      Noted p x (s.arriveSeq p) ∧ Queued p.dsess (s.arriveSeq p) q ∧ q.opcode = 5 ∧ q.aux = code ∧ q.offset = p.psn ∧ q.xid = p.xid := by
  obtain ⟨_, _, _, hx, _, _⟩ := id h
  have hle := regionCode_le s p.dsess p
  have hcode : code = 1 ∨ code = 2 ∨ code = 3 := by omega
  have hacc : (State.met p s).accessCode p.dsess { x with lastRx := s.time.now } p = code :=
    (accessCode_open hopen).trans ((regionCode_met p s _ p).trans hc)
  obtain ⟨hmem, hfi, hfc, hk, q, hq, hrest⟩ := refuseAccess_shows (n := p.dsess) (code := code) (p := p) (met_session hx)
  obtain ⟨he, hnoted⟩ := arriveSeq_noted h hw ha (apply_refused (met_session hx) hop hlen hacc hcode) hk
  obtain ⟨hfi2, hfc2⟩ := (received_tables p.dsess p ((State.met p s).refuseAccess p.dsess p code)).fault
  rw [he]
  exact ⟨q, (received_mem _ p _).trans (hmem.trans ((met_frame p s).mem (by decide))), hfi2.trans hfi, hfc2.trans hfc, hnoted,
    queued_received hq, hrest⟩

/-! ### The commands -/

theorem admits_advanceTo {p : Packet} {len : Nat} {right : Region → Bool} {x : Session} {r : Region} {s : State} (t : Nat)
    (h : Admits p len right x r s) : Admits p len right x r (s.advanceTo t) := after_advanceTo (P := Admits p len right x r) t fun _ => h

theorem packet_eq {p : Packet} {n : Nat} (h : p.opcode = n) : ({ p with opcode := n } : Packet) = p := by
  rw [← h]

/-- The command of a sequenced packet lets it arrive. -/
theorem exec_arrives {t : Nat} {p : Packet} {s : State} (h5 : p.opcode = 5 → p.aux % 256 ≠ 6) :
    ∀ c ∈ [(1, Instr.idmWrite t p), (2, Instr.idmReadReq t p), (3, Instr.readResp t p), (4, Instr.notify t p), (5, Instr.statusPacket t p),
        (10, Instr.close t p), (11, Instr.keepalive t p), (12, Instr.rekey t p)], p.opcode = c.1 →
      Sys2Proof.Machine.exec c.2 s = .next ((s.advanceTo t).arriveSeq p) := by
  intro c hc hop
  have hp := congrArg (fun q => (Host.Outcome.next ((s.advanceTo t).arriveSeq q) : Host.Outcome State Fault Refusal)) (packet_eq hop)
  simp only [List.mem_cons, List.not_mem_nil, or_false] at hc
  rcases hc with rfl | rfl | rfl | rfl | rfl | rfl | rfl | rfl
  case inr.inr.inr.inr.inl =>
    show execStatusPacket t p s = _
    unfold execStatusPacket
    dsimp only
    rw [if_neg (h5 hop)]
    exact hp
  all_goals exact hp

/-- Settles O53. -/
theorem dataPacketsActOnce : Obligations.DataPacketsActOnce := by
  unfold Obligations.DataPacketsActOnce
  refine ⟨fun t p x r s h hw ha => ⟨fun hop hr => ?_, fun hop hr => ?_, fun hop hlo hhi hr hpoison => ?_⟩,
    fun t code p x s h hw ha hc hne hopen hlen c hin hop => ?_, fun t p x s h hw ha h5 c hin hop => ?_⟩
  · obtain ⟨_, _, _, hx, _, _⟩ := id (reaches_advanceTo t h)
    obtain ⟨hmem, hnoted⟩ := access_writes (reaches_advanceTo t h) hw ha (apply_write (met_session hx) hop (admits_met (admits_advanceTo t hr)))
    exact ⟨_, exec_arrives (fun e => absurd (hop.symm.trans e) (by decide)) (1, _) (by simp) hop,
      hmem.trans (memWrite_mem (advanceTo_mem t s) _ _), hnoted⟩
  · obtain ⟨_, _, _, hx, _, _⟩ := id (reaches_advanceTo t h)
    obtain ⟨hmem, hnoted⟩ := access_writes (reaches_advanceTo t h) hw ha (apply_notify (met_session hx) hop (admits_met (admits_advanceTo t hr)))
    exact ⟨_, exec_arrives (fun e => absurd (hop.symm.trans e) (by decide)) (4, _) (by simp) hop,
      hmem.trans (memWrite_mem (advanceTo_mem t s) _ _), hnoted⟩
  · obtain ⟨hmem, hnoted, hq⟩ := read_answers (reaches_advanceTo t h) hw ha hop hlo hhi (admits_advanceTo t hr)
      (after_advanceTo (P := fun y => y.poisonedIn (r.base + p.offset) p.aux = none) t fun _ => hpoison)
    have hb : (s.advanceTo t).memBytes (r.base + p.offset) p.aux = s.memBytes (r.base + p.offset) p.aux := by
      unfold State.memBytes
      rw [advanceTo_mem]
    rw [hb] at hq
    exact ⟨_, exec_arrives (fun e => absurd (hop.symm.trans e) (by decide)) (2, _) (by simp) hop, hmem.trans (advanceTo_mem t s), hnoted, hq⟩
  · have hin2 : p.opcode = 1 ∨ p.opcode = 2 ∨ p.opcode = 4 := by
      rw [hop]
      simp only [List.mem_cons, List.not_mem_nil, or_false] at hin
      rcases hin with rfl | rfl | rfl <;> simp
    have hc1 : (s.advanceTo t).regionCode p.dsess p = code :=
      after_advanceTo (P := fun y => y.regionCode p.dsess p = code) t fun _ => hc
    obtain ⟨q, hmem, hrest⟩ := access_refused (reaches_advanceTo t h) hw ha hc1 hne hopen hlen hin2
    refine ⟨_, q, exec_arrives (fun e => by omega) c ?_ hop, hmem.trans (advanceTo_mem t s), hrest⟩
    simp only [List.mem_cons, List.not_mem_nil, or_false] at hin ⊢
    rcases hin with rfl | rfl | rfl <;> simp
  · obtain ⟨hmem, hkept, hl⟩ := arriveSeq_again (reaches_advanceTo t h) hw ha
    obtain ⟨hseal, hsend⟩ := hl.before (State.advanceTo_frame t s) (by decide) ⟨rfl, rfl⟩
    exact ⟨_, ackOf x, exec_arrives h5 c hin hop, hmem.trans (advanceTo_mem t s), hkept, rfl, rfl, rfl, hseal, hsend⟩

end Sys2Proof.Proofs
end

section
/-!
SUPPORT. Answers that end operations (R228, R232, R236, R237): READ_RESP, STATUS and ACK, and what the end of a work entry's operation leaves.
-/

namespace Sys2Proof.Proofs

open Sys2Proof.Machine Sys2Proof.Safety Sys2Proof.Laws

/-! ### The end of a work entry's operation -/

/-- What names an operation on its session. -/
def opName (o : Op) : Nat × Nat := (o.xid, o.queue)

theorem dropUnsent_session (n : Nat) (gone : List Nat) (s : State) : ∃ f : Session → Session, s.dropUnsent n gone = s.updSession n f ∧
    ∀ x, inbound (f x) = inbound x ∧ (f x).unacked = x.unacked ∧ (f x).state = x.state ∧ (f x).ops.map opName = x.ops.map opName := by
  refine ⟨_, rfl, fun x => ⟨rfl, rfl, rfl, ?_⟩⟩
  rw [List.map_map]
  exact List.map_congr_left fun _ _ => rfl

/-- The operations of a session but for those of one name. -/
def otherOps (o : Op) (l : List Op) : List Op := l.filter (fun v => v.xid != o.xid || v.queue != o.queue)

theorem not_named_of_otherOps {o : Op} {l m : List Op} (h : m.map opName = (otherOps o l).map opName) :
    ∀ v ∈ m, ¬ (v.xid = o.xid ∧ v.queue = o.queue) := by
  rintro v hv ⟨hx, hq⟩
  have hm : opName v ∈ (otherOps o l).map opName := h ▸ List.mem_map_of_mem hv
  obtain ⟨w, hw, he⟩ := List.mem_map.1 hm
  obtain ⟨hwx, hwq⟩ := Prod.mk.inj he
  have hc := (List.mem_filter.1 hw).2
  rw [hwx, hwq, hx, hq, bne_self_eq_false, bne_self_eq_false] at hc
  exact Bool.false_ne_true hc

theorem endOp_entry_eq {n q code : Nat} {o : Op} (s : State) (ho : o.owner = .entry q) (hg : o.group = none) :
    s.endOp n o code = ((s.updSession n (fun x => { x with ops := otherOps o x.ops })).dropUnsent n o.psns).bump (queueOf n o.queue) code := by
  unfold State.endOp State.endOwner
  rw [ho, hg]
  rfl

theorem endOp_entry_keeps {n q code : Nat} {o : Op} (s : State) (ho : o.owner = .entry q) (hg : o.group = none) :
    Keeps inbound s (s.endOp n o code) := by
  obtain ⟨f, hd, hf⟩ := dropUnsent_session n o.psns (s.updSession n (fun x => { x with ops := otherOps o x.ops }))
  rw [endOp_entry_eq s ho hg, hd]
  refine Keeps.trans (Keeps.trans (.updSession s fun x => ?_) (.updSession _ fun x => ?_)) (.of_sessions rfl)
  · rfl
  · exact (hf x).1

/-- The end of a work entry's operation: it leaves its session, and its queue's CC rises by 1 (R232, R237). -/
theorem endOp_entry {n q code : Nat} {o : Op} {x : Session} {s : State} (hx : s.session? n = some x) (ho : o.owner = .entry q)
    (hg : o.group = none) : ∃ y, (s.endOp n o code).session? n = some y ∧ inbound y = inbound x ∧ y.unacked = x.unacked ∧ y.state = x.state ∧
      y.ops.map opName = (otherOps o x.ops).map opName ∧ (s.endOp n o code).mem = s.mem ∧
      (s.endOp n o code).tqueue (queueOf n o.queue) = { s.tqueue (queueOf n o.queue) with
        cc := ((s.tqueue (queueOf n o.queue)).cc + 1) % 2 ^ 32
        errors := if code = 0 then (s.tqueue (queueOf n o.queue)).errors
          else (s.tqueue (queueOf n o.queue)).errors ++ [((s.tqueue (queueOf n o.queue)).cc + 1) % 2 ^ 32] } ∧
      (s.entriesLeft = 0 → (s.endOp n o code).entriesLeft = 0) := by
  obtain ⟨f, hd, hf⟩ := dropUnsent_session n o.psns (s.updSession n (fun x => { x with ops := otherOps o x.ops }))
  rw [endOp_entry_eq s ho hg, hd]
  obtain ⟨hin, hun, hst, hops⟩ := hf { x with ops := otherOps o x.ops }
  refine ⟨f { x with ops := otherOps o x.ops }, ?_, hin, hun, hst, hops, rfl, ?_, fun h => bump_entriesLeft h⟩
  · show (State.updSession n f _).session? n = _
    rw [updSession_session, if_pos rfl, updSession_session, if_pos rfl, hx]
    rfl
  · unfold State.bump
    rw [tqueue_updQueue, if_pos rfl]
    rfl

/-! ### READ_RESP -/

/-- The bytes of a READ_RESP land, and its operation waits for fewer. -/
def State.landed (n : Nat) (p : Packet) (o : Op) (s : State) : State :=
  (match o.buf with | some a => s.memWrite (a + p.offset) p.payload | none => s).updSession n (fun x =>
    { x with ops := x.ops.map (fun (y : Op) => if y.xid = o.xid ∧ y.read then { y with bytesLeft := o.bytesLeft - p.len } else y) })

theorem apply_readResp {p : Packet} {x : Session} {o : Op} {s : State} (hx : s.session? p.dsess = some x) (hop : p.opcode = 3)
    (ho : x.ops.find? (fun y => y.read && y.xid == p.xid) = some o) : s.apply p.dsess p =
      (true, if o.bytesLeft - p.len = 0 then ((State.landed p.dsess p o s).endOp p.dsess o 0).chains else State.landed p.dsess p o s) := by
  have hb : (s.session? p.dsess).bind (fun x => x.ops.find? (fun o => o.read && o.xid == p.xid)) = some o := by
    rw [hx]
    exact ho
  unfold State.apply
  rw [hx, hop]
  show s.applyReadResp p.dsess p = _
  unfold State.applyReadResp
  rw [hb]
  rfl

theorem landed_session {n : Nat} {p : Packet} {o : Op} {x : Session} {s : State} (hx : s.session? n = some x) :
    (State.landed n p o s).session? n = some { x with ops := x.ops.map (fun (y : Op) =>
      if y.xid = o.xid ∧ y.read = true then { y with bytesLeft := o.bytesLeft - p.len } else y) } := by
  unfold State.landed
  rw [updSession_session, if_pos rfl]
  split
  · rw [session_of_frame (State.memWrite_frame _ _ _) (by decide), hx]
    rfl
  · rw [hx]
    rfl

theorem landed_keeps (n : Nat) (p : Packet) (o : Op) (s : State) : Keeps inbound s (State.landed n p o s) := by
  unfold State.landed
  refine Keeps.trans ?_ (.updSession _ fun x => ?_)
  · split
    · exact .of_frame (State.memWrite_frame _ _ _) (by decide)
    · exact .refl s
  · rfl

theorem landed_queues (n : Nat) (p : Packet) (o : Op) (s : State) : (State.landed n p o s).idm.queues = s.idm.queues := by
  unfold State.landed
  split <;> rfl

/-- The bytes in memory after a READ_RESP: those of the reader's buffer, where it has one. -/
theorem landed_mem {n : Nat} {p : Packet} {o : Op} {s u : State} (h : s.mem = u.mem) : (State.landed n p o s).mem =
    (match o.buf with | some a => (u.memWrite (a + p.offset) p.payload).mem | none => u.mem) := by
  unfold State.landed
  split
  · exact memWrite_mem h _ _
  · exact h

theorem readResp_lands {p : Packet} {x : Session} {o : Op} {s : State} (h : Reaches p x s) (hw : Unwaited x) (ha : Applies p x)
    (hop : p.opcode = 3) (ho : x.ops.find? (fun y => y.read && y.xid == p.xid) = some o) (hlt : p.len < o.bytesLeft) :
    Noted p x (s.arriveSeq p) ∧
      (s.arriveSeq p).mem = (match o.buf with | some a => (s.memWrite (a + p.offset) p.payload).mem | none => s.mem) ∧
      ((s.arriveSeq p).session? p.dsess).map (·.ops) =
        some (x.ops.map (fun y => if y.xid = o.xid ∧ y.read = true then { y with bytesLeft := o.bytesLeft - p.len } else y)) := by
  obtain ⟨_, _, _, hx, _, _⟩ := id h
  have hz := apply_readResp (met_session hx) hop ho
  rw [if_neg (by omega)] at hz
  obtain ⟨he, hnoted⟩ := arriveSeq_noted h hw ha hz (landed_keeps _ p o _)
  rw [he]
  refine ⟨hnoted, (received_mem _ p _).trans (landed_mem ((met_frame p s).mem (by decide))), ?_⟩
  refine (received_keeps (h := fun y : Session => y.ops) (fun _ _ _ _ _ _ _ _ _ _ => rfl) p.dsess p _ p.dsess).trans ?_
  rw [landed_session (met_session hx)]
  rfl

theorem readResp_ends {q : Nat} {p : Packet} {x : Session} {o : Op} {s : State} (h : Reaches p x s) (hw : Unwaited x) (ha : Applies p x)
    (hop : p.opcode = 3) (ho : x.ops.find? (fun y => y.read && y.xid == p.xid) = some o) (hle : o.bytesLeft ≤ p.len)
    (hown : o.owner = .entry q) (hg : o.group = none) (h0 : s.entriesLeft = 0) :
    ∃ y, Noted p x (s.arriveSeq p) ∧ (s.arriveSeq p).session? p.dsess = some y ∧
      (s.arriveSeq p).mem = (match o.buf with | some a => (s.memWrite (a + p.offset) p.payload).mem | none => s.mem) ∧
      (∀ v ∈ y.ops, ¬ (v.xid = o.xid ∧ v.queue = o.queue)) ∧
      (s.arriveSeq p).tqueue (queueOf p.dsess o.queue) = { s.tqueue (queueOf p.dsess o.queue) with
        cc := ((s.tqueue (queueOf p.dsess o.queue)).cc + 1) % 2 ^ 32 } := by
  obtain ⟨_, _, _, hx, _, _⟩ := id h
  have hq : (State.landed p.dsess p o (State.met p s)).idm.queues = s.idm.queues :=
    (landed_queues _ p o _).trans (met_tables p s).queues
  have h1 : (State.landed p.dsess p o (State.met p s)).entriesLeft = 0 := by
    rw [entriesLeft_eq_zero, hq, ← entriesLeft_eq_zero]
    exact h0
  obtain ⟨y, hy, hin, _, _, hops, hmem, htq, hleft⟩ := endOp_entry (code := 0) (landed_session (p := p) (o := o) (met_session hx)) hown hg
  have hz := apply_readResp (met_session hx) hop ho
  rw [if_pos (by omega), chains_none (hleft h1)] at hz
  have hk : Keeps inbound (State.met p s) ((State.landed p.dsess p o (State.met p s)).endOp p.dsess o 0) :=
    (landed_keeps _ p o _).trans (endOp_entry_keeps _ hown hg)
  obtain ⟨he, hnoted⟩ := arriveSeq_noted h hw ha hz hk
  obtain ⟨v, hv, hvo⟩ := (received_keeps (h := fun y : Session => y.ops) (fun _ _ _ _ _ _ _ _ _ _ => rfl) p.dsess p
    ((State.landed p.dsess p o (State.met p s)).endOp p.dsess o 0)).session hy
  rw [he]
  refine ⟨v, hnoted, hv, ?_, ?_, ?_⟩
  · exact (received_mem _ p _).trans (hmem.trans (landed_mem ((met_frame p s).mem (by decide))))
  · rw [hvo]
    exact not_named_of_otherOps hops
  · rw [tqueue_of_queues (received_tables p.dsess p _).queues, htq, tqueue_of_queues hq]
    rfl

/-! ### STATUS -/

/-- RETRY_LATER holds a packet back (R236). -/
def heldBack (psn until_ : Nat) (v : Sent) : Sent :=
  if v.packet.psn = psn then { v with notBefore := until_, retry := v.retry + 1 } else v

/-- A session whose packet is held back. -/
def withheld (psn until_ : Nat) (x : Session) : Session := { x with unacked := x.unacked.map (heldBack psn until_) }

theorem apply_retryLater {p : Packet} {x : Session} {s : State} (hx : s.session? p.dsess = some x) (hop : p.opcode = 5) (hc : p.aux % 256 = 4) :
    s.apply p.dsess p = (true, s.updSession p.dsess (withheld (p.offset % 2 ^ 32) (s.time.now + 10000 * (p.aux / 65536)))) := by
  unfold State.apply
  rw [hx, hop]
  show s.applyStatus p.dsess p = _
  unfold State.applyStatus
  exact if_pos hc

theorem status_holds {p : Packet} {x : Session} {s : State} (h : Reaches p x s) (hw : Unwaited x) (ha : Applies p x) (hop : p.opcode = 5)
    (hc : p.aux % 256 = 4) : Noted p x (s.arriveSeq p) ∧ (s.arriveSeq p).mem = s.mem ∧
      ((s.arriveSeq p).session? p.dsess).map (·.unacked) =
        some (x.unacked.map (heldBack (p.offset % 2 ^ 32) (s.time.now + 10000 * (p.aux / 65536)))) := by
  obtain ⟨_, _, _, hx, _, _⟩ := id h
  have hf := met_frame p s
  have hy := met_session hx
  have hz := apply_retryLater hy hop hc
  rw [hf.time (by decide)] at hz
  have hk : Keeps inbound (State.met p s)
      ((State.met p s).updSession p.dsess (withheld (p.offset % 2 ^ 32) (s.time.now + 10000 * (p.aux / 65536)))) :=
    .updSession _ fun _ => rfl
  obtain ⟨he, hnoted⟩ := arriveSeq_noted h hw ha hz hk
  rw [he]
  refine ⟨hnoted, (received_mem _ p _).trans (hf.mem (by decide)), ?_⟩
  refine (received_keeps (h := fun y : Session => y.unacked) (fun _ _ _ _ _ _ _ _ _ _ => rfl) p.dsess p _ p.dsess).trans ?_
  rw [updSession_session, if_pos rfl, hy]
  rfl

theorem apply_failed {p : Packet} {x : Session} {o : Op} {s : State} (hx : s.session? p.dsess = some x) (hop : p.opcode = 5)
    (hc : p.aux % 256 ≠ 4) (ho : x.opOf (p.offset % 2 ^ 32) = some o) : s.apply p.dsess p =
      (true, ((s.updSession p.dsess (fun x => { x with unacked := x.unacked.filter (fun u => u.packet.psn != p.offset % 2 ^ 32) })).endOp
        p.dsess o (p.aux % 256)).chains) := by
  have hb : (s.session? p.dsess).bind (fun x => x.opOf (p.offset % 2 ^ 32)) = some o := by
    rw [hx]
    exact ho
  unfold State.apply
  rw [hx, hop]
  show s.applyStatus p.dsess p = _
  unfold State.applyStatus
  dsimp only
  rw [if_neg hc, hb]

theorem status_ends {q : Nat} {p : Packet} {x : Session} {o : Op} {s : State} (h : Reaches p x s) (hw : Unwaited x) (ha : Applies p x)
    (hop : p.opcode = 5) (hne : p.aux % 256 ≠ 0) (hc : p.aux % 256 ≠ 4) (ho : x.opOf (p.offset % 2 ^ 32) = some o)
    (hown : o.owner = .entry q) (hg : o.group = none) (h0 : s.entriesLeft = 0) :
    ∃ y, Noted p x (s.arriveSeq p) ∧ (s.arriveSeq p).session? p.dsess = some y ∧ (∀ v ∈ y.ops, ¬ (v.xid = o.xid ∧ v.queue = o.queue)) ∧
      (s.arriveSeq p).tqueue (queueOf p.dsess o.queue) = { s.tqueue (queueOf p.dsess o.queue) with
        cc := ((s.tqueue (queueOf p.dsess o.queue)).cc + 1) % 2 ^ 32
        errors := (s.tqueue (queueOf p.dsess o.queue)).errors ++ [((s.tqueue (queueOf p.dsess o.queue)).cc + 1) % 2 ^ 32] } := by
  obtain ⟨_, _, _, hx, _, _⟩ := id h
  have hy := met_session hx
  have hz := apply_failed hy hop hc ho
  have hk : Keeps inbound (State.met p s) ((State.met p s).updSession p.dsess
      (fun x => { x with unacked := x.unacked.filter (fun u => u.packet.psn != p.offset % 2 ^ 32) })) := by
    refine .updSession _ fun x => ?_
    rfl
  have hq : ((State.met p s).updSession p.dsess (fun x => { x with unacked := x.unacked.filter (fun u => u.packet.psn != p.offset % 2 ^ 32) })
      ).idm.queues = s.idm.queues := (met_tables p s).queues
  have hs : ((State.met p s).updSession p.dsess (fun x => { x with unacked := x.unacked.filter (fun u => u.packet.psn != p.offset % 2 ^ 32) })
      ).session? p.dsess = some { x with
        lastRx := s.time.now, unacked := x.unacked.filter (fun u => u.packet.psn != p.offset % 2 ^ 32) } := by
    rw [updSession_session, if_pos rfl, hy]
    rfl
  generalize (State.met p s).updSession p.dsess (fun x => { x with unacked := x.unacked.filter (fun u => u.packet.psn != p.offset % 2 ^ 32) }) = z
    at hz hk hq hs
  have h1 : z.entriesLeft = 0 := by
    rw [entriesLeft_eq_zero, hq, ← entriesLeft_eq_zero]
    exact h0
  obtain ⟨y, hy, _, _, _, hops, _, htq, hleft⟩ := endOp_entry (code := p.aux % 256) hs hown hg
  rw [chains_none (hleft h1)] at hz
  obtain ⟨he, hnoted⟩ := arriveSeq_noted h hw ha hz (hk.trans (endOp_entry_keeps _ hown hg))
  obtain ⟨v, hv, hvo⟩ := (received_keeps (h := fun y : Session => y.ops) (fun _ _ _ _ _ _ _ _ _ _ => rfl) p.dsess p
    (z.endOp p.dsess o (p.aux % 256))).session hy
  rw [he]
  refine ⟨v, hnoted, hv, ?_, ?_⟩
  · rw [hvo]
    exact not_named_of_otherOps hops
  · rw [tqueue_of_queues (received_tables p.dsess p _).queues, htq, tqueue_of_queues hq, if_neg hne]

/-! ### ACK -/

/-- The operations of a session after an ACK: the packets it covers are taken off those in flight (R228). -/
def ackedBy (p : Packet) (inFlight : List Nat) (l : List Op) : List Op :=
  l.map (fun (o : Op) => { o with psns := o.psns.filter (fun q => !(inFlight.contains q && ackCovers p q)) })

/-- An ACK that shows nothing missing, on a session where nothing waits for the window. -/
theorem applyAck_next {p : Packet} {n : Nat} {x : Session} {s : State} (hsend : x.sendq = [])
    (hnew : x.sealed = true → NMap.getD x.lastAckCtr (b2n p.kphase) 0 < p.ctr + 1) (hmiss : ∀ v ∈ x.unacked, ackMisses p v.packet.psn = false) :
    ∃ f : Session → Session, s.applyAck p n x = ((s.updSession n f).ackedOps n).settlePhases n ∧
      ∀ y, (f y).unacked = y.unacked.filter (fun v => !ackCovers p v.packet.psn) ∧ (f y).closePsn = y.closePsn ∧ (f y).state = y.state ∧
        (f y).ops = ackedBy p (x.unacked.map (·.packet.psn)) y.ops := by
  have hold : ¬ (x.sealed && decide (p.ctr + 1 ≤ NMap.getD x.lastAckCtr (b2n p.kphase) 0)) = true := by
    intro hc
    obtain ⟨hs, hle⟩ := Bool.and_eq_true_iff.1 hc
    exact absurd (of_decide_eq_true hle) (Nat.not_le.2 (hnew hs))
  have hlost : x.unacked.filter (fun u => ackMisses p u.packet.psn && decide (u.notBefore ≤ s.time.now)) = [] := by
    rw [List.filter_eq_nil_iff]
    intro v hv
    rw [hmiss v hv]
    exact Bool.false_ne_true
  unfold State.applyAck
  dsimp only
  rw [if_neg hold, hlost, hsend]
  exact ⟨_, rfl, fun y => ⟨rfl, rfl, rfl, rfl⟩⟩

/-- What follows an ACK does nothing on an open session that no CLOSE waits on, where no entry waits. -/
theorem after_ack {n : Nat} {s : State} {y : Session} (h0 : s.entriesLeft = 0) (hy : s.session? n = some y) (hst : y.state = 2)
    (hc : y.closePsn = none) : (s.chains.settleClose n).settleOwnClose n = s := by
  have h1 : s.settleClose n = s := by
    unfold State.settleClose
    rw [hy]
    dsimp only
    rw [hc]
  rw [chains_none h0, h1]
  unfold State.settleOwnClose
  rw [hy]
  dsimp only
  rw [if_neg]
  rw [hst]
  exact fun hc => absurd hc.1 (by decide)

theorem ack_next {t : Nat} {p : Packet} {x : Session} {s : State} (h : Reaches p x s) (hop : p.opcode = 6) :
    Sys2Proof.Machine.exec (.ack t p) s = .next
      (((((State.met p (s.advanceTo t)).applyAck p p.dsess x).chains).settleClose p.dsess).settleOwnClose p.dsess) := by
  show execAck t p s = _
  unfold execAck
  rw [packet_eq hop, arrive_reached (reaches_advanceTo t h)]

/-- The operations whose every packet is acknowledged: the ones that end (R232). -/
def endedOps (l : List Op) : List Op := l.filter (fun o => !o.read && o.psns.isEmpty)

theorem ackedOps_some {n : Nat} {y : Session} {s : State} (hy : s.session? n = some y) :
    s.ackedOps n = (endedOps y.ops).foldl (fun (s : State) (o : Op) => s.endOp n o 0) s := by
  unfold State.ackedOps
  rw [hy]
  rfl

theorem endedOps_none {p : Packet} {inFlight : List Nat} {l : List Op} (h : ∀ o ∈ l, o.read = true ∨ ∃ q ∈ o.psns, ackCovers p q = false) :
    endedOps (ackedBy p inFlight l) = [] := by
  unfold endedOps ackedBy
  rw [List.filter_eq_nil_iff]
  intro v hv hc
  obtain ⟨o, ho, rfl⟩ := List.mem_map.1 hv
  obtain ⟨hread, hpsns⟩ := Bool.and_eq_true_iff.1 hc
  rcases h o ho with hr | ⟨q, hq, hnot⟩
  · rw [show (!o.read) = false by rw [hr]; rfl] at hread
    exact Bool.false_ne_true hread
  · have hm : q ∈ o.psns.filter (fun q => !(inFlight.contains q && ackCovers p q)) :=
      List.mem_filter.2 ⟨hq, by rw [hnot, Bool.and_false]; rfl⟩
    rw [List.isEmpty_iff.1 (show (o.psns.filter (fun q => !(inFlight.contains q && ackCovers p q))).isEmpty = true from hpsns)] at hm
    exact absurd hm List.not_mem_nil

/-- What of a session an ACK's end leaves. -/
def ackView (x : Session) : Option Nat × Nat × List Sent × List Op := (x.closePsn, x.state, x.unacked, x.ops)

theorem ack_releases {t : Nat} {p : Packet} {x : Session} {s : State} (h : Reaches p x s) (hop : p.opcode = 6) (hst : x.state = 2)
    (hc : x.closePsn = none) (hsend : x.sendq = []) (hnew : x.sealed = true → NMap.getD x.lastAckCtr (b2n p.kphase) 0 < p.ctr + 1)
    (h0 : s.entriesLeft = 0) (hmiss : ∀ v ∈ x.unacked, ackMisses p v.packet.psn = false)
    (hops : ∀ o ∈ x.ops, o.read = true ∨ ∃ q ∈ o.psns, ackCovers p q = false) :
    ∃ u, Sys2Proof.Machine.exec (.ack t p) s = .next u ∧ u.mem = s.mem ∧ u.idm.queues = s.idm.queues ∧
      (u.session? p.dsess).map (·.unacked) = some (x.unacked.filter (fun v => !ackCovers p v.packet.psn)) := by
  obtain ⟨_, _, _, hx, _, _⟩ := id (reaches_advanceTo t h)
  obtain ⟨f, hf, hview⟩ := applyAck_next (n := p.dsess) (s := State.met p (s.advanceTo t)) hsend hnew hmiss
  obtain ⟨hun, hcl, hsta, hopsf⟩ := hview { x with lastRx := (s.advanceTo t).time.now }
  have hy : ((State.met p (s.advanceTo t)).updSession p.dsess f).session? p.dsess = some (f { x with lastRx := (s.advanceTo t).time.now }) := by
    rw [updSession_session, if_pos rfl, met_session hx]
    rfl
  have hack : ((State.met p (s.advanceTo t)).updSession p.dsess f).ackedOps p.dsess = (State.met p (s.advanceTo t)).updSession p.dsess f := by
    rw [ackedOps_some hy, hopsf, endedOps_none hops]
    rfl
  have hmem : ((State.met p (s.advanceTo t)).updSession p.dsess f).mem = s.mem :=
    ((met_frame p _).mem (by decide)).trans (advanceTo_mem t s)
  have hq : ((State.met p (s.advanceTo t)).updSession p.dsess f).idm.queues = s.idm.queues :=
    (met_tables p _).queues.trans (congrArg (·.queues) (advanceTo_idm t s))
  rw [ack_next h hop, hf, hack]
  generalize (State.met p (s.advanceTo t)).updSession p.dsess f = z at hy hmem hq
  obtain ⟨w, hw, hwv⟩ := (settlePhases_keeps (h := ackView) (fun _ _ => rfl) p.dsess z).session hy
  obtain ⟨hwc, hwv⟩ := Prod.mk.inj hwv
  obtain ⟨hws, hwv⟩ := Prod.mk.inj hwv
  obtain ⟨hwu, _⟩ := Prod.mk.inj hwv
  have hqs : (z.settlePhases p.dsess).idm.queues = s.idm.queues := (settlePhases_tables _ z).queues.trans hq
  have h1 : (z.settlePhases p.dsess).entriesLeft = 0 := by
    rw [entriesLeft_eq_zero, hqs, ← entriesLeft_eq_zero]
    exact h0
  refine ⟨_, rfl, ?_⟩
  rw [after_ack h1 hw (hws.trans (hsta.trans hst)) (hwc.trans (hcl.trans hc))]
  refine ⟨((State.settlePhases_frame _ z).mem (by decide)).trans hmem, hqs, ?_⟩
  rw [hw]
  exact congrArg some (hwu.trans hun)

theorem endedOps_one {p : Packet} {x : Session} {o : Op} (hread : o.read = false)
    (h : ∀ n ∈ o.psns, ackCovers p n = true ∧ ∃ v ∈ x.unacked, v.packet.psn = n) :
    ackedBy p (x.unacked.map (·.packet.psn)) [o] = [{ o with psns := [] }] ∧ endedOps [{ o with psns := [] }] = [{ o with psns := [] }] := by
  constructor
  · unfold ackedBy
    have he : o.psns.filter (fun q => !((x.unacked.map (·.packet.psn)).contains q && ackCovers p q)) = [] := by
      rw [List.filter_eq_nil_iff]
      intro q hq
      obtain ⟨hcov, v, hv, rfl⟩ := h q hq
      rw [hcov, List.contains_iff_mem.2 (List.mem_map.2 ⟨v, hv, rfl⟩)]
      exact Bool.false_ne_true
    rw [List.map_singleton, he]
  · unfold endedOps
    rw [List.filter_cons_of_pos (by rw [hread]; rfl)]
    rfl

theorem otherOps_self (o : Op) : otherOps { o with psns := [] } [{ o with psns := [] }] = [] := by
  unfold otherOps
  rw [List.filter_eq_nil_iff]
  intro v hv
  rw [List.mem_singleton.1 hv]
  simp

theorem ack_ends {t q : Nat} {p : Packet} {x : Session} {o : Op} {s : State} (h : Reaches p x s) (hop : p.opcode = 6) (hst : x.state = 2)
    (hc : x.closePsn = none) (hsend : x.sendq = []) (hnew : x.sealed = true → NMap.getD x.lastAckCtr (b2n p.kphase) 0 < p.ctr + 1)
    (h0 : s.entriesLeft = 0) (hmiss : ∀ v ∈ x.unacked, ackMisses p v.packet.psn = false) (hone : x.ops = [o]) (hread : o.read = false)
    (hown : o.owner = .entry q) (hg : o.group = none) (hcov : ∀ n ∈ o.psns, ackCovers p n = true ∧ ∃ v ∈ x.unacked, v.packet.psn = n) :
    ∃ u, Sys2Proof.Machine.exec (.ack t p) s = .next u ∧ u.mem = s.mem ∧
      (u.session? p.dsess).map (·.unacked) = some (x.unacked.filter (fun v => !ackCovers p v.packet.psn)) ∧
      (u.session? p.dsess).map (·.ops) = some [] ∧
      u.tqueue (queueOf p.dsess o.queue) = { s.tqueue (queueOf p.dsess o.queue) with
        cc := ((s.tqueue (queueOf p.dsess o.queue)).cc + 1) % 2 ^ 32 } := by
  obtain ⟨_, _, _, hx, _, _⟩ := id (reaches_advanceTo t h)
  obtain ⟨f, hf, hview⟩ := applyAck_next (n := p.dsess) (s := State.met p (s.advanceTo t)) hsend hnew hmiss
  obtain ⟨hun, hcl, hsta, hopsf⟩ := hview { x with lastRx := (s.advanceTo t).time.now }
  have hy : ((State.met p (s.advanceTo t)).updSession p.dsess f).session? p.dsess = some (f { x with lastRx := (s.advanceTo t).time.now }) := by
    rw [updSession_session, if_pos rfl, met_session hx]
    rfl
  obtain ⟨hby, hended⟩ := endedOps_one hread hcov
  have hopsy : (f { x with lastRx := (s.advanceTo t).time.now }).ops = [{ o with psns := [] }] := by
    rw [hopsf]
    show ackedBy p _ x.ops = _
    rw [hone, hby]
  have hack := ackedOps_some hy
  rw [hopsy, hended, List.foldl_cons, List.foldl_nil] at hack
  have hmem : ((State.met p (s.advanceTo t)).updSession p.dsess f).mem = s.mem :=
    ((met_frame p _).mem (by decide)).trans (advanceTo_mem t s)
  have hq : ((State.met p (s.advanceTo t)).updSession p.dsess f).idm.queues = s.idm.queues :=
    (met_tables p _).queues.trans (congrArg (·.queues) (advanceTo_idm t s))
  rw [ack_next h hop, hf, hack]
  generalize (State.met p (s.advanceTo t)).updSession p.dsess f = z at hy hmem hq
  have hz0 : z.entriesLeft = 0 := by
    rw [entriesLeft_eq_zero, hq, ← entriesLeft_eq_zero]
    exact h0
  obtain ⟨y, hey, hyin, hyu, hys, hyo, hymem, htq, hleft⟩ := endOp_entry (code := 0) (o := { o with psns := [] }) hy hown hg
  rw [hopsy, otherOps_self] at hyo
  have hyc : y.closePsn = none := (congrArg (fun q : Nat × List Nat × List Packet × Option Nat => q.2.2.2) hyin).trans (hcl.trans hc)
  generalize z.endOp p.dsess { o with psns := [] } 0 = e at hey hymem htq hleft
  obtain ⟨w, hw, hwv⟩ := (settlePhases_keeps (h := ackView) (fun _ _ => rfl) p.dsess e).session hey
  obtain ⟨hwc, hwv⟩ := Prod.mk.inj hwv
  obtain ⟨hws, hwv⟩ := Prod.mk.inj hwv
  obtain ⟨hwu, hwo⟩ := Prod.mk.inj hwv
  have hqs := (settlePhases_tables p.dsess e).queues
  have h1 : (e.settlePhases p.dsess).entriesLeft = 0 := by
    rw [entriesLeft_eq_zero, hqs, ← entriesLeft_eq_zero]
    exact hleft hz0
  refine ⟨_, rfl, ?_⟩
  rw [after_ack h1 hw (hws.trans (hys.trans (hsta.trans hst))) (hwc.trans hyc)]
  refine ⟨((State.settlePhases_frame _ e).mem (by decide)).trans (hymem.trans hmem), ?_, ?_, ?_⟩
  · rw [hw]
    exact congrArg some (hwu.trans (hyu.trans hun))
  · rw [hw]
    exact congrArg some (hwo.trans (List.map_eq_nil_iff.1 hyo))
  · rw [tqueue_of_queues hqs]
    show e.tqueue (queueOf p.dsess ({ o with psns := [] } : Op).queue) = _
    rw [htq, tqueue_of_queues hq]
    rfl

/-- Settles O54. -/
theorem answersEndOperations : Obligations.AnswersEndOperations := by
  unfold Obligations.AnswersEndOperations
  refine ⟨fun t p x o s h hw ha hop ho => ⟨fun hlt => ?_, fun q hle hown hg h0 => ?_⟩,
    fun t p x s ht h hw ha hop => ⟨fun hc => ?_, fun o q hne hc h6 ho hown hg h0 => ?_⟩,
    fun t p x s h hop hst hc hsend hnew h0 hmiss => ⟨fun hops => ack_releases h hop hst hc hsend hnew h0 hmiss hops,
      fun o q hone hread hown hg hcov => ack_ends h hop hst hc hsend hnew h0 hmiss hone hread hown hg hcov⟩⟩
  · obtain ⟨hnoted, hmem, hops⟩ := readResp_lands (reaches_advanceTo t h) hw ha hop ho hlt
    refine ⟨_, exec_arrives (fun e => absurd (hop.symm.trans e) (by decide)) (3, _) (by simp) hop, hnoted, hmem.trans ?_, hops⟩
    cases o.buf with
    | none => exact advanceTo_mem t s
    | some a => exact memWrite_mem (advanceTo_mem t s) _ _
  · obtain ⟨y, hnoted, hy, hmem, hops, hq⟩ := readResp_ends (reaches_advanceTo t h) hw ha hop ho hle hown hg
      (after_advanceTo (P := fun y => y.entriesLeft = 0) t fun _ => h0)
    rw [tqueue_of_queues (s := s) (congrArg (·.queues) (advanceTo_idm t s))] at hq
    refine ⟨_, y, exec_arrives (fun e => absurd (hop.symm.trans e) (by decide)) (3, _) (by simp) hop, hnoted, hy, hmem.trans ?_, hops, hq⟩
    cases o.buf with
    | none => exact advanceTo_mem t s
    | some a => exact memWrite_mem (advanceTo_mem t s) _ _
  · obtain ⟨hnoted, hmem, hun⟩ := status_holds (reaches_advanceTo t h) hw ha hop hc
    rw [advanceTo_now ht.1 ht.2.1 ht.2.2] at hun
    exact ⟨_, exec_arrives (fun _ => by rw [hc]; decide) (5, _) (by simp) hop, hnoted, hmem.trans (advanceTo_mem t s), hun⟩
  · obtain ⟨y, hnoted, hy, hops, hq⟩ := status_ends (reaches_advanceTo t h) hw ha hop hne hc ho hown hg
      (after_advanceTo (P := fun y => y.entriesLeft = 0) t fun _ => h0)
    rw [tqueue_of_queues (s := s) (congrArg (·.queues) (advanceTo_idm t s))] at hq
    exact ⟨_, y, exec_arrives (fun _ => h6) (5, _) (by simp) hop, hnoted, hy, hops, hq⟩

end Sys2Proof.Proofs
end

section
/-!
SUPPORT. Sessions opened and closed (R192, R222 to R226, R241 to R243): CONNECT and ACCEPT, KEEPALIVE, REKEY and CLOSE, and packets that change no
session.
-/

namespace Sys2Proof.Proofs

open Sys2Proof.Machine Sys2Proof.Safety Sys2Proof.Laws

/-! ### Discards -/

/-- An authentication failure shows in IDM_STATUS, and the transport stands (R242). -/
theorem noted_status {m k code item n : Nat} {data : List Nat} (s : State) (hb : bit (BitVec.ofNat 32 m) k = true) :
    ((s.raise Reg.IDM_STATUS m).recordOnce code item data).idm = s.idm ∧
    ((s.raise Reg.IDM_STATUS m).recordOnce code item data).mem = s.mem ∧
    ((s.raise Reg.IDM_STATUS m).recordOnce code item data).outbox = s.outbox ∧
    bit (((s.raise Reg.IDM_STATUS m).recordOnce code item data).reg Reg.IDM_STATUS) k = true ∧
    (((s.raise Reg.IDM_STATUS m).recordOnce code item data).count n).idm = s.idm ∧
    (((s.raise Reg.IDM_STATUS m).recordOnce code item data).count n).mem = s.mem ∧
    bit ((((s.raise Reg.IDM_STATUS m).recordOnce code item data).count n).reg Reg.IDM_STATUS) k = true := by
  have hf : Frame (2 ^ 1 + 2 ^ 2 + 2 ^ 3 + 2 ^ 4 + 2 ^ 16) s ((s.raise Reg.IDM_STATUS m).recordOnce code item data) :=
    .comp (State.recordOnce_frame _ _ _ _) rfl (.comp (State.raise_frame _ _ s) rfl (.refl s))
  have hbit : bit (((s.raise Reg.IDM_STATUS m).recordOnce code item data).reg Reg.IDM_STATUS) k = true := by
    rw [recordOnce_reg _ _ _ _ (by decide) (by decide), reg_raise, bit_or, hb, Bool.or_true]
  have hc := State.count_frame n ((s.raise Reg.IDM_STATUS m).recordOnce code item data)
  refine ⟨hf.idm (by decide), hf.mem (by decide), hf.outbox (by decide), hbit, (hc.idm (by decide)).trans (hf.idm (by decide)),
    (hc.mem (by decide)).trans (hf.mem (by decide)), ?_⟩
  have hr : (((s.raise Reg.IDM_STATUS m).recordOnce code item data).count n).reg Reg.IDM_STATUS =
      ((s.raise Reg.IDM_STATUS m).recordOnce code item data).reg Reg.IDM_STATUS := by
    unfold State.reg
    rw [hc.regs (by decide)]
  rw [hr]
  exact hbit

theorem malformedPacket_noted {t port udpLen : Nat} {p : Packet} {s : State} (hreset : s.md.mode ≠ .reset) (hslack : s.md.mode ≠ .slack)
    (hbad : malformed p = true ∨ udpLen ≠ 40 + p.len + (if p.sealed then 24 else 0)) :
    ∃ u, Sys2Proof.Machine.exec (.malformedPacket t port p udpLen) s = .next u ∧ u.idm = s.idm ∧ u.mem = s.mem ∧
      bit (u.reg Reg.IDM_STATUS) 8 = true := by
  have hmode : ¬ ((s.advanceTo t).md.mode = .reset ∨ (s.advanceTo t).md.mode = .slack) := by
    rw [advanceTo_md]
    exact not_or.2 ⟨hreset, hslack⟩
  have hgo : (malformed p || udpLen != 40 + p.len + (if p.sealed then 24 else 0)) = true := by
    rcases hbad with h | h
    · rw [h]
      rfl
    · rw [bne_iff_ne.2 h, Bool.or_true]
  refine ⟨(s.advanceTo t).badPacket port p.dsess, ?_, ?_⟩
  · show execMalformedPacket t port p udpLen s = _
    unfold execMalformedPacket
    exact congrArg Host.Outcome.next ((if_neg hmode).trans (if_pos hgo))
  · obtain ⟨hidm, hmem, _, hbit, hidmc, hmemc, hbitc⟩ :=
      noted_status (m := 0x100) (k := 8) (code := 0x6140) (item := 0) (n := ctrSession p.dsess 4) (data := [port]) (s.advanceTo t) (by decide)
    unfold State.badPacket
    dsimp only
    split
    · exact ⟨hidmc.trans (advanceTo_idm t s), hmemc.trans (advanceTo_mem t s), hbitc⟩
    · exact ⟨hidm.trans (advanceTo_idm t s), hmem.trans (advanceTo_mem t s), hbit⟩

theorem datagramDiscard_counts {t port udpPort : Nat} {ok : Bool} {s : State} (hreset : s.md.mode ≠ .reset) (hslack : s.md.mode ≠ .slack) :
    ∃ u, Sys2Proof.Machine.exec (.datagramDiscard t port udpPort ok) s = .next u ∧
      NMap.getD u.tally.live 4 0 = counterAdd (NMap.getD s.tally.live 4 0) 1 ∧
      u = { s with time := (s.advanceTo t).time, tally := { s.tally with live := u.tally.live, adds := u.tally.adds, addsAt := u.tally.addsAt } } := by
  have hmode : ¬ ((s.advanceTo t).md.mode = .reset ∨ (s.advanceTo t).md.mode = .slack) := by
    rw [advanceTo_md]
    exact not_or.2 ⟨hreset, hslack⟩
  have hcount : (s.advanceTo t).count 4 = { s.advanceTo t with tally := { (s.advanceTo t).tally with
      live := NMap.put (s.advanceTo t).tally.live 4 (counterAdd (NMap.getD (s.advanceTo t).tally.live 4 0) 1)
      adds := NMap.put (s.advanceTo t).tickAdds 4 (NMap.getD (s.advanceTo t).tickAdds 4 0 + 1)
      addsAt := (s.advanceTo t).time.now } } := rfl
  refine ⟨(s.advanceTo t).count 4, congrArg Host.Outcome.next (if_neg hmode), ?_, ?_⟩
  · rw [hcount]
    show NMap.getD (NMap.put (s.advanceTo t).tally.live 4 _) 4 0 = _
    unfold NMap.getD
    rw [find_put, if_pos rfl, advanceTo_tally]
    rfl
  · rw [hcount, advanceTo_eq]

/-! ### CONNECT -/

theorem sendAccept_plain {m : ConnectMsg} {a : AcceptMsg} {s : State} (h : m.keyid = 0 ∨ a.reason = 3 ∨ a.reason = 4) :
    s.sendAccept m a = s.emit (.acceptMsg m.source false a) := by
  unfold State.sendAccept
  refine if_pos ?_
  rcases h with h | h | h <;> simp [h]

/-- What an authenticated CONNECT meets, on a head whose front end is open. -/
theorem connect_next {t : Nat} {sealed tagOk regionOk : Bool} {m : ConnectMsg} {s : State} (hmode : s.md.mode.frontEnd = true)
    (hf : s.moor.fenced = false) (hseal : sealed = (m.keyid != 0)) (htag : tagOk = true) :
    Sys2Proof.Machine.exec (.connect t sealed tagOk regionOk m) s = .next
      (match (s.advanceTo t).repeated m with
      | some n => (s.advanceTo t).sendAccept m ((s.advanceTo t).acceptOf n)
      | none => if (s.advanceTo t).connectReason m regionOk = 0 then (s.advanceTo t).openAsResponder m
          else ((s.advanceTo t).record 0x6103 ([(s.advanceTo t).connectReason m regionOk] ++ addressItems m.source)).sendAccept m
            (refusal ((s.advanceTo t).connectReason m regionOk))) := by
  have hopen : ¬ (!(s.advanceTo t).md.mode.frontEnd || ((s.advanceTo t).moor.fenced && decide (m.port < 16))) = true := by
    rw [advanceTo_md, advanceTo_moor, hmode, hf]
    exact Bool.false_ne_true
  have hauth : ¬ (sealed != (m.keyid != 0) || (m.keyid != 0 && (s.advanceTo t).keyidOk m.keyid.toNat && !tagOk)) = true := by
    rw [hseal, htag, bne_self_eq_false, Bool.not_true, Bool.and_false]
    exact Bool.false_ne_true
  show execConnect t sealed tagOk regionOk m s = _
  unfold execConnect
  exact congrArg Host.Outcome.next ((if_neg hopen).trans (if_neg hauth))

theorem connect_unauthentic {t : Nat} {sealed tagOk regionOk : Bool} {m : ConnectMsg} {s : State} (hmode : s.md.mode.frontEnd = true)
    (hf : s.moor.fenced = false)
    (hbad : sealed ≠ (m.keyid != 0) ∨ (m.keyid ≠ 0 ∧ s.keyidOk m.keyid.toNat = true ∧ tagOk = false)) :
    ∃ u, Sys2Proof.Machine.exec (.connect t sealed tagOk regionOk m) s = .next u ∧ u.idm = s.idm ∧ u.outbox = s.outbox ∧
      bit (u.reg Reg.IDM_STATUS) 4 = true := by
  have hopen : ¬ (!(s.advanceTo t).md.mode.frontEnd || ((s.advanceTo t).moor.fenced && decide (m.port < 16))) = true := by
    rw [advanceTo_md, advanceTo_moor, hmode, hf]
    exact Bool.false_ne_true
  have hauth : (sealed != (m.keyid != 0) || (m.keyid != 0 && (s.advanceTo t).keyidOk m.keyid.toNat && !tagOk)) = true := by
    rcases hbad with h | ⟨hk, hok, htag⟩
    · rw [bne_iff_ne.2 h]
      rfl
    · have hok1 : (s.advanceTo t).keyidOk m.keyid.toNat = true :=
        after_advanceTo (P := fun y => y.keyidOk m.keyid.toNat = true) t fun _ => hok
      rw [hok1, htag, bne_iff_ne.2 hk]
      exact Bool.or_true _
  obtain ⟨hidm, _, hout, hbit, _⟩ :=
    noted_status (m := 0x10) (k := 4) (code := 0x6114) (item := 4096) (n := 0) (data := [4096]) (s.advanceTo t) (by decide)
  refine ⟨_, ?_, hidm.trans (advanceTo_idm t s), hout.trans (advanceTo_outbox t s), hbit⟩
  show execConnect t sealed tagOk regionOk m s = _
  unfold execConnect
  exact congrArg Host.Outcome.next ((if_neg hopen).trans (if_pos hauth))

/-- A session index is free where fewer sessions than indices are open. -/
theorem firstFree_some {m : NMap Session} {c : Nat} (h : m.length < c) : ∃ n, firstFree 0 c (fun i => NMap.has m i) = some n := by
  rw [← Option.isSome_iff_exists, Option.isSome_iff_ne_none]
  intro hnone
  unfold firstFree at hnone
  rw [List.find?_eq_none] at hnone
  have hsub : List.range c ⊆ m.map (·.1) := by
    intro i hi
    have hfull : NMap.has m i = true := by
      have := hnone (0 + i) (List.mem_map.2 ⟨i, hi, rfl⟩)
      rw [Nat.zero_add] at this
      simpa using this
    obtain ⟨v, hv⟩ := Option.isSome_iff_exists.1 hfull
    exact List.mem_map.2 ⟨(i, v), mem_of_find hv, rfl⟩
  have hle := (List.subperm_of_subset List.nodup_range hsub).length_le
  rw [List.length_range, List.length_map] at hle
  omega

theorem firstFree_lowest {m : NMap Session} {c n : Nat} (h : firstFree 0 c (fun i => NMap.has m i) = some n) :
    NMap.find m n = none ∧ ∀ k, k < n → (NMap.find m k).isSome = true := by
  unfold firstFree at h
  rw [show ((List.range c).map (0 + ·)) = List.range c by simp] at h
  obtain ⟨hp, as, bs, hsplit, hall⟩ := List.find?_eq_some_iff_append.1 h
  constructor
  · simpa [NMap.has] using hp
  · intro k hk
    have hlen : as.length = n := by
      have hget := congrArg (fun l => l[as.length]?) hsplit
      simp only [List.getElem?_append_right (Nat.le_refl as.length), Nat.sub_self, List.getElem?_cons_zero] at hget
      obtain ⟨_, he⟩ := List.getElem?_eq_some_iff.1 hget
      rwa [List.getElem_range] at he
    have hkm : k ∈ as := by
      have hget := congrArg (fun l => l[k]?) hsplit
      rw [List.getElem?_append_left (by omega)] at hget
      have hc : k < c := by
        have := congrArg List.length hsplit
        rw [List.length_range, List.length_append] at this
        omega
      rw [List.getElem?_range hc] at hget
      exact List.mem_of_getElem? hget.symm
    have := hall k hkm
    simpa [NMap.has] using this

theorem connectReason_room {m : ConnectMsg} {regionOk : Bool} {s : State} (h : s.connectReason m regionOk = 0) :
    s.idm.sessions.length < 4096 := by
  unfold State.connectReason at h
  by_contra hc
  rw [if_pos (Nat.not_lt.1 hc)] at h
  exact absurd h (by decide)

/-- The controller of a host session, as its CONNECT gives it (R192). -/
def ControllerMade (n : Nat) (m : ConnectMsg) (u : State) : Prop :=
  (∃ c, NMap.find u.nvq.ctrls (n + 1) = some c ∧ c.session = n ∧ c.nkey = m.nkey.toNat ∧ c.nofs = m.nofs) ∧
  (∃ q, NMap.find u.nvq.sqs (adminKey (n + 1)) = some q ∧ q.size = m.asqs + 1 ∧ q.key = m.akey.toNat ∧ q.offset = m.asqofs) ∧
  (∃ q, NMap.find u.nvq.cqs (adminKey (n + 1)) = some q ∧ q.size = m.acqs + 1 ∧ q.key = m.akey.toNat ∧ q.offset = m.acqofs ∧ q.phase = true)

theorem ControllerMade.of_nvq {n : Nat} {m : ConnectMsg} {s u : State} (h : ControllerMade n m s) (e : u.nvq = s.nvq) : ControllerMade n m u := by
  unfold ControllerMade at h ⊢
  rw [e]
  exact h

theorem newController_makes {n : Nat} {m : ConnectMsg} {x : Session} {s : State} (hx : s.session? n = some x) :
    (∃ key, (s.newController n m).session? n = some { x with cntl := some (n + 1), dbKey := key, partnerAddr := m.partnerAddr }) ∧
      (∀ k, k ≠ n → (s.newController n m).session? k = s.session? k) ∧ ControllerMade n m (s.newController n m) := by
  unfold State.newController
  have hr := State.newRegion_frame 0 (8 * 20480) n false true false false true s
  generalize s.newRegion 0 (8 * 20480) n false true false false true = r at hr ⊢
  obtain ⟨key, y⟩ := r
  dsimp only
  have hs (k : Nat) : (State.updSession n (fun x => { x with cntl := some (n + 1), dbKey := key, partnerAddr := m.partnerAddr }) y).session? k =
      if n = k then (s.session? k).map (fun x => { x with cntl := some (n + 1), dbKey := key, partnerAddr := m.partnerAddr }) else s.session? k := by
    rw [updSession_session, session_of_frame hr (by decide)]
  generalize State.updSession n (fun x => { x with cntl := some (n + 1), dbKey := key, partnerAddr := m.partnerAddr }) y = z at hs ⊢
  refine ⟨⟨key, ?_⟩, fun k hk => ?_, ControllerMade.of_nvq ?_ ((State.record_frame _ _ _).nvq (by decide))⟩
  · rw [session_of_frame (State.record_frame _ _ _) (by decide)]
    refine (hs n).trans ((if_pos rfl).trans ?_)
    rw [hx]
    rfl
  · rw [session_of_frame (State.record_frame _ _ _) (by decide)]
    exact (hs k).trans (if_neg fun e => hk e.symm)
  · exact ⟨⟨_, find_put_self _ _ _, rfl, rfl, rfl⟩, ⟨_, find_put_self _ _ _, rfl, rfl, rfl⟩, ⟨_, find_put_self _ _ _, rfl, rfl, rfl, rfl⟩⟩

theorem ownSalt_ne (f peer : Word) : ownSalt f peer ≠ peer := by
  unfold ownSalt
  split
  next h =>
    rw [h]
    bv_omega
  next h => exact h

/-- The session of an unsealed CONNECT, before its controller is made. -/
def connected (n : Nat) (m : ConnectMsg) (s : State) : Session :=
  { newSession 2 m.purpose (min m.wlog2 (8 + Config.windowLog2 n % 13)) m.port m.source m.keyid (ownSalt s.spendFree.freeValue m.salt)
      s.freeValue.toNat s.time.now with
    peer := m.isess % 4096, firstRx := m.ipsn, cum := m.ipsn, saltRx := m.salt }

/-- The state with the session of an unsealed CONNECT in place. -/
def State.seated (n : Nat) (m : ConnectMsg) (s : State) : State :=
  { s.spendFree.spendFree with idm := { s.spendFree.spendFree.idm with
    sessions := NMap.put s.spendFree.spendFree.idm.sessions n (connected n m s) } }

/-- The state in which the ACCEPT of an unsealed CONNECT leaves. -/
def State.welcomed (n : Nat) (m : ConnectMsg) (s : State) : State :=
  (if m.purpose = 0 then (State.seated n m s).newController n m else State.seated n m s).record 0x6100 ([n, m.purpose] ++ addressItems m.source)

theorem openAsResponder_some {n : Nat} {m : ConnectMsg} {s : State} (hn : firstFree 0 4096 (fun i => NMap.has s.idm.sessions i) = some n)
    (hk : m.keyid = 0) :
    s.openAsResponder m = (State.welcomed n m s).emit (.acceptMsg m.source false ((State.welcomed n m s).acceptOf n)) := by
  have he : s.openAsResponder m = (State.welcomed n m s).sendAccept m ((State.welcomed n m s).acceptOf n) := by
    unfold State.openAsResponder
    rw [hn]
    dsimp only
    rw [if_pos hk]
    rfl
  rw [he, sendAccept_plain (.inl hk)]

theorem seated_session (n : Nat) (m : ConnectMsg) (s : State) (k : Nat) :
    (State.seated n m s).session? k = if n = k then some (connected n m s) else s.session? k := find_put _ _ _ _

/-- The session of an accepted CONNECT and, for PURPOSE 0, its controller (R192, R224). -/
theorem welcomed_seats (n : Nat) (m : ConnectMsg) (s : State) :
    ∃ cntl key addr, (State.welcomed n m s).session? n = some { connected n m s with cntl := cntl, dbKey := key, partnerAddr := addr } ∧
      (∀ k, k ≠ n → (State.welcomed n m s).session? k = s.session? k) ∧
      (m.purpose = 0 → cntl = some (n + 1) ∧ ControllerMade n m (State.welcomed n m s)) := by
  have hseat : (State.seated n m s).session? n = some (connected n m s) := (seated_session n m s n).trans (if_pos rfl)
  have hother (k : Nat) (hk : k ≠ n) : (State.seated n m s).session? k = s.session? k :=
    (seated_session n m s k).trans (if_neg fun e => hk e.symm)
  unfold State.welcomed
  by_cases hp : m.purpose = 0
  · rw [if_pos hp]
    obtain ⟨⟨key, hnew⟩, hkept, hmade⟩ := newController_makes (m := m) hseat
    refine ⟨some (n + 1), key, m.partnerAddr, ?_, fun k hk => ?_, fun _ => ⟨rfl, hmade.of_nvq ((State.record_frame _ _ _).nvq (by decide))⟩⟩
    · rw [session_of_frame (State.record_frame _ _ _) (by decide)]
      exact hnew
    · rw [session_of_frame (State.record_frame _ _ _) (by decide)]
      exact (hkept k hk).trans (hother k hk)
  · rw [if_neg hp]
    refine ⟨none, 0, false, ?_, fun k hk => ?_, fun h => absurd h hp⟩
    · rw [session_of_frame (State.record_frame _ _ _) (by decide)]
      exact hseat
    · rw [session_of_frame (State.record_frame _ _ _) (by decide)]
      exact hother k hk

theorem newController_frame_sends (n : Nat) (m : ConnectMsg) (s : State) : (State.welcomed n m s).outbox = s.outbox ∧
    (State.welcomed n m s).moor = s.moor := by
  unfold State.welcomed
  have hrec (y : State) := State.record_frame 0x6100 ([n, m.purpose] ++ addressItems m.source) y
  split
  · have hnew := State.newController_frame n m (State.seated n m s)
    exact ⟨((hrec _).outbox (by decide)).trans (hnew.outbox (by decide)), ((hrec _).moor (by decide)).trans (hnew.moor (by decide))⟩
  · exact ⟨(hrec _).outbox (by decide), (hrec _).moor (by decide)⟩

theorem connect_opens {t : Nat} {sealed tagOk regionOk : Bool} {m : ConnectMsg} {s : State} (hmode : s.md.mode.frontEnd = true)
    (hf : s.moor.fenced = false) (hseal : sealed = (m.keyid != 0)) (htag : tagOk = true) (hrep : s.repeated m = none)
    (hr : s.connectReason m regionOk = 0) (hk : m.keyid = 0) :
    ∃ u n x a, Sys2Proof.Machine.exec (.connect t sealed tagOk regionOk m) s = .next u ∧ s.session? n = none ∧
      (∀ k, k < n → (s.session? k).isSome = true) ∧ u.session? n = some x ∧ (∀ k, k ≠ n → u.session? k = s.session? k) ∧
      x.state = 2 ∧ x.sealed = false ∧ x.purpose = m.purpose ∧ x.peer = m.isess % 4096 ∧ x.firstRx = m.ipsn ∧ x.cum = m.ipsn ∧
      x.wlog2 ≤ m.wlog2 ∧ x.saltRx = m.salt ∧ x.saltTx ≠ m.salt ∧ x.source = m.source ∧ x.unacked = [] ∧ x.ops = [] ∧
      Sends (.acceptMsg m.source false a) s u ∧ a.reason = 0 ∧ a.rsess = n ∧ a.wlog2 = x.wlog2 ∧ a.rpsn = x.nextPsn ∧
      a.salt = x.saltTx ∧ (m.purpose = 0 → a.cntlid = n + 1 ∧ x.cntl = some (n + 1) ∧ ControllerMade n m u) := by
  have hrep1 : (s.advanceTo t).repeated m = none := after_advanceTo (P := fun y => y.repeated m = none) t fun _ => hrep
  have hr1 : (s.advanceTo t).connectReason m regionOk = 0 := after_advanceTo (P := fun y => y.connectReason m regionOk = 0) t fun _ => hr
  have hnext := connect_next (t := t) (regionOk := regionOk) hmode hf hseal htag
  rw [hrep1, hr1] at hnext
  dsimp only at hnext
  have hsess : (s.advanceTo t).idm.sessions = s.idm.sessions := congrArg (·.sessions) (advanceTo_idm t s)
  obtain ⟨n, hn⟩ := firstFree_some (connectReason_room hr)
  obtain ⟨hnone, hlow⟩ := firstFree_lowest hn
  rw [← hsess] at hn
  rw [if_pos rfl, openAsResponder_some hn hk] at hnext
  obtain ⟨cntl, key, addr, hx, hothers, hmade⟩ := welcomed_seats n m (s.advanceTo t)
  obtain ⟨hout, hmoor⟩ := newController_frame_sends n m (s.advanceTo t)
  have hacc : (State.welcomed n m (s.advanceTo t)).acceptOf n =
      { rsess := n, wlog2 := (connected n m (s.advanceTo t)).wlog2, reason := 0, rpsn := (connected n m (s.advanceTo t)).acceptPsn,
        salt := (connected n m (s.advanceTo t)).saltTx, dbkey := BitVec.ofNat 32 key, cntlid := cntl.getD 0 } := by
    unfold State.acceptOf
    rw [hx]
  have hemit (k : Nat) := session_of_frame (State.emit_frame (.acceptMsg m.source false ((State.welcomed n m (s.advanceTo t)).acceptOf n))
    (State.welcomed n m (s.advanceTo t))) (by decide) k
  refine ⟨_, n, _, (State.welcomed n m (s.advanceTo t)).acceptOf n, hnext, hnone, hlow, (hemit n).trans hx, fun k hkn => ?_, rfl, ?_, rfl, rfl, rfl,
    rfl, Nat.min_le_left _ _, rfl, ownSalt_ne _ _, rfl, rfl, rfl, ?_, ?_, ?_, ?_, ?_, ?_, fun hp => ?_⟩
  · exact (hemit k).trans ((hothers k hkn).trans (session_of_idm (advanceTo_idm t s) k))
  · show (m.keyid != 0) = false
    rw [hk]
    rfl
  · refine ⟨[_], ?_, List.mem_singleton_self _⟩
    rw [emit_sends (by rw [hmoor, advanceTo_moor]; exact hf), hout, advanceTo_outbox]
    rfl
  · rw [hacc]
  · rw [hacc]
  · rw [hacc]
  · rw [hacc]
    rfl
  · rw [hacc]
  · obtain ⟨hc, hm⟩ := hmade hp
    refine ⟨?_, hc, hm.of_nvq ((State.emit_frame _ _).nvq (by decide))⟩
    rw [hacc, hc]
    rfl

theorem connect_repeats {t n : Nat} {sealed tagOk regionOk : Bool} {m : ConnectMsg} {s : State} (hmode : s.md.mode.frontEnd = true)
    (hf : s.moor.fenced = false) (hseal : sealed = (m.keyid != 0)) (htag : tagOk = true) (hrep : s.repeated m = some n) (hk : m.keyid = 0) :
    ∃ u, Sys2Proof.Machine.exec (.connect t sealed tagOk regionOk m) s = .next u ∧ u.idm = s.idm ∧
      Sends (.acceptMsg m.source false (s.acceptOf n)) s u := by
  have hrep1 : (s.advanceTo t).repeated m = some n := after_advanceTo (P := fun y => y.repeated m = some n) t fun _ => hrep
  have hacc : (s.advanceTo t).acceptOf n = s.acceptOf n := after_advanceTo (P := fun y => y.acceptOf n = s.acceptOf n) t fun _ => rfl
  have hnext := connect_next (t := t) (regionOk := regionOk) hmode hf hseal htag
  rw [hrep1] at hnext
  dsimp only at hnext
  rw [hacc, sendAccept_plain (.inl hk)] at hnext
  have hy : (s.advanceTo t).moor.fenced = false := by rw [advanceTo_moor]; exact hf
  exact ⟨_, hnext, ((State.emit_frame _ _).idm (by decide)).trans (advanceTo_idm t s), emit_after (State.advanceTo_frame t s) hy _⟩

theorem connect_refused {t r : Nat} {sealed tagOk regionOk : Bool} {m : ConnectMsg} {s : State} (hmode : s.md.mode.frontEnd = true)
    (hf : s.moor.fenced = false) (hseal : sealed = (m.keyid != 0)) (htag : tagOk = true) (hrep : s.repeated m = none)
    (hr : s.connectReason m regionOk = r) (hne : r ≠ 0) (hk : m.keyid = 0 ∨ r = 3 ∨ r = 4) :
    ∃ u, Sys2Proof.Machine.exec (.connect t sealed tagOk regionOk m) s = .next u ∧ u.idm = s.idm ∧
      Sends (.acceptMsg m.source false (refusal r)) s u := by
  have hrep1 : (s.advanceTo t).repeated m = none := after_advanceTo (P := fun y => y.repeated m = none) t fun _ => hrep
  have hr1 : (s.advanceTo t).connectReason m regionOk = r := after_advanceTo (P := fun y => y.connectReason m regionOk = r) t fun _ => hr
  have hnext := connect_next (t := t) (regionOk := regionOk) hmode hf hseal htag
  rw [hrep1, hr1] at hnext
  dsimp only at hnext
  rw [if_neg hne, sendAccept_plain (a := refusal r) hk] at hnext
  have hrec : Frame (65566 + 1) s ((s.advanceTo t).record 0x6103 ([r] ++ addressItems m.source)) :=
    .comp (State.record_frame _ _ _) rfl (.comp (State.advanceTo_frame t s) rfl (.refl s))
  exact ⟨_, hnext, ((State.emit_frame _ _).idm (by decide)).trans (hrec.idm (by decide)),
    emit_after hrec (by rw [hrec.moor (by decide)]; exact hf) _⟩

/-! ### ACCEPT -/

theorem accept_answers {t n : Nat} {sealed tagOk : Bool} {m : AcceptMsg} {x : Session} {s : State} (ht : Ticking t s)
    (hx : s.session? n = some x) (hst : x.state = 1)
    (hgood : x.sealed = false ∧ sealed = false ∨ x.sealed = true ∧ sealed = true ∧ tagOk = true) :
    ∃ u, Sys2Proof.Machine.exec (.accept t n sealed tagOk m) s = .next u ∧ (∀ k, k ≠ n → u.session? k = s.session? k) ∧
      u.session? n = if m.reason = 0 then
        some { x with state := 2, peer := m.rsess % 4096, wlog2 := min x.wlog2 m.wlog2, firstRx := m.rpsn, cum := m.rpsn,
                      saltRx := m.salt, lastRx := t } else none := by
  have hx1 : (s.advanceTo t).session? n = some x := (session_of_idm (advanceTo_idm t s) n).trans hx
  have hnow : (s.advanceTo t).time.now = t := advanceTo_now ht.1 ht.2.1 ht.2.2
  have hg : ¬ (!(if x.sealed then (sealed && tagOk) || (!sealed && (m.reason == 3 || m.reason == 4)) else !sealed)) = true := by
    rcases hgood with ⟨h1, h2⟩ | ⟨h1, h2, h3⟩
    · rw [h1, h2]
      exact Bool.false_ne_true
    · rw [h1, h2, h3]
      exact Bool.false_ne_true
  have hnext : Sys2Proof.Machine.exec (.accept t n sealed tagOk m) s = .next
      (if m.reason ≠ 0 then ((s.advanceTo t).dropAttempt n).record 0x6103 ([m.reason] ++ addressItems x.source)
        else ((s.advanceTo t).updSession n (fun x =>
          { x with state := 2, peer := m.rsess % 4096, wlog2 := min x.wlog2 m.wlog2, firstRx := m.rpsn, cum := m.rpsn, saltRx := m.salt
                   lastRx := (s.advanceTo t).time.now })).record 0x6100 ([n, x.purpose] ++ addressItems x.source)) := by
    show execAccept t n sealed tagOk m s = _
    unfold execAccept
    dsimp only
    rw [hx1]
    exact congrArg Host.Outcome.next ((if_neg (not_not.2 hst)).trans (if_neg hg))
  refine ⟨_, hnext, ?_⟩
  by_cases hr : m.reason = 0
  · rw [if_neg (not_not.2 hr), if_pos hr, hnow]
    refine ⟨fun k hk => ?_, ?_⟩
    · rw [session_of_frame (State.record_frame _ _ _) (by decide), updSession_session, if_neg fun e => hk e.symm,
        session_of_idm (advanceTo_idm t s)]
    · rw [session_of_frame (State.record_frame _ _ _) (by decide), updSession_session, if_pos rfl, hx1]
      rfl
  · rw [if_pos hr, if_neg hr]
    refine ⟨fun k hk => ?_, ?_⟩
    · rw [session_of_frame (State.record_frame _ _ _) (by decide), dropAttempt_session, if_neg fun e => hk e.symm,
        session_of_idm (advanceTo_idm t s)]
    · rw [session_of_frame (State.record_frame _ _ _) (by decide), dropAttempt_session, if_pos rfl]

theorem accept_unauthentic {t n : Nat} {sealed tagOk : Bool} {m : AcceptMsg} {x : Session} {s : State}
    (hx : s.session? n = some x) (hst : x.state = 1)
    (hbad : x.sealed = false ∧ sealed = true ∨ x.sealed = true ∧ sealed = true ∧ tagOk = false) :
    ∃ u, Sys2Proof.Machine.exec (.accept t n sealed tagOk m) s = .next u ∧ u.idm = s.idm ∧ bit (u.reg Reg.IDM_STATUS) 4 = true := by
  have hx1 : (s.advanceTo t).session? n = some x := (session_of_idm (advanceTo_idm t s) n).trans hx
  have hg : (!(if x.sealed then (sealed && tagOk) || (!sealed && (m.reason == 3 || m.reason == 4)) else !sealed)) = true := by
    rcases hbad with ⟨h1, h2⟩ | ⟨h1, h2, h3⟩
    · rw [h1, h2]
      rfl
    · rw [h1, h2, h3]
      rfl
  obtain ⟨_, _, _, _, hidm, _, hbit⟩ :=
    noted_status (m := 0x10) (k := 4) (code := 0x6114) (item := n) (n := ctrSession n 4) (data := [n]) (s.advanceTo t) (by decide)
  refine ⟨(s.advanceTo t).authFail n, ?_, hidm.trans (advanceTo_idm t s), hbit⟩
  show execAccept t n sealed tagOk m s = _
  unfold execAccept
  dsimp only
  rw [hx1]
  exact congrArg Host.Outcome.next ((if_neg (not_not.2 hst)).trans (if_pos hg))

/-! ### KEEPALIVE, REKEY and CLOSE -/

theorem keepalive_notes {p : Packet} {x : Session} {s : State} (h : Reaches p x s) (hw : Unwaited x) (ha : Applies p x) (hop : p.opcode = 11) :
    Noted p x (s.arriveSeq p) ∧ (s.arriveSeq p).mem = s.mem ∧ ((s.arriveSeq p).session? p.dsess).map (·.lastRx) = some s.time.now := by
  obtain ⟨_, _, _, hx, _, _⟩ := id h
  have hz : (State.met p s).apply p.dsess p = (true, State.met p s) := by
    unfold State.apply
    rw [met_session hx, hop]
    rfl
  obtain ⟨he, hnoted⟩ := arriveSeq_noted h hw ha hz (.refl _)
  rw [he]
  refine ⟨hnoted, (received_mem _ p _).trans ((met_frame p s).mem (by decide)), ?_⟩
  refine (received_keeps (h := fun y : Session => y.lastRx) (fun _ _ _ _ _ _ _ _ _ _ => rfl) p.dsess p _ p.dsess).trans ?_
  rw [met_session hx]
  rfl

theorem takePhase_keeps {α : Type} {h : Session → α} (hh : ∀ (x : Session) rekeyed held, h { x with rekeyed := rekeyed, heldPhases := held } = h x)
    (n : Nat) (ph : Bool) (s : State) : Keeps h s (s.takePhase n ph) := by
  unfold State.takePhase
  split
  · exact .refl s
  · have h1 : Keeps h s (s.updSession n (fun x => { x with rekeyed := true })) := .updSession s fun x => hh x _ x.heldPhases
    dsimp only
    split
    · exact h1
    · exact (h1.trans (.updSession _ fun x => hh x x.rekeyed _)).trans (.of_frame (State.refSlot_frame _ _) (by decide))

theorem rekey_turns {p : Packet} {x : Session} {s : State} (h : Reaches p x s) (hw : Unwaited x) (ha : Applies p x) (hop : p.opcode = 12)
    (hs : x.sealed = true) (hph : x.phaseRx ≠ (p.aux % 2 == 1)) :
    Noted p x (s.arriveSeq p) ∧ (s.arriveSeq p).mem = s.mem ∧ ((s.arriveSeq p).session? p.dsess).map (·.phaseRx) = some (p.aux % 2 == 1) := by
  obtain ⟨_, _, _, hx, _, _⟩ := id h
  have hy := met_session hx
  have hgo : ¬ (!x.sealed || x.phaseRx == (p.aux % 2 == 1)) = true := by
    rw [hs, beq_eq_false_iff_ne.2 hph]
    exact Bool.false_ne_true
  have hz : (State.met p s).apply p.dsess p = (true, ((State.met p s).updSession p.dsess
      (fun x => { x with phaseRx := p.aux % 2 == 1, bothPhases := true, rekeyRx := some p.psn })).takePhase p.dsess (p.aux % 2 == 1)) := by
    unfold State.apply
    rw [hy, hop]
    show (State.met p s).applyRekey p.dsess p = _
    unfold State.applyRekey
    rw [hy]
    exact if_neg hgo
  have hk : Keeps inbound (State.met p s) (((State.met p s).updSession p.dsess
      (fun x => { x with phaseRx := p.aux % 2 == 1, bothPhases := true, rekeyRx := some p.psn })).takePhase p.dsess (p.aux % 2 == 1)) := by
    refine Keeps.trans (.updSession _ fun x => ?_) (takePhase_keeps (fun _ _ _ => rfl) _ _ _)
    rfl
  obtain ⟨he, hnoted⟩ := arriveSeq_noted h hw ha hz hk
  rw [he]
  refine ⟨hnoted, (received_mem _ p _).trans (((State.takePhase_frame _ _ _).mem (by decide)).trans ((met_frame p s).mem (by decide))), ?_⟩
  refine (received_keeps (h := fun y : Session => y.phaseRx) (fun _ _ _ _ _ _ _ _ _ _ => rfl) p.dsess p _ p.dsess).trans ?_
  refine (takePhase_keeps (h := fun y : Session => y.phaseRx) (fun _ _ _ => rfl) p.dsess _ _ p.dsess).trans ?_
  rw [updSession_session, if_pos rfl, hy]
  rfl

/-- How a CLOSE that is applied ends: nothing waits for it but its session's own end (R226). -/
theorem close_next {p : Packet} {x : Session} {s : State} (h : Reaches p x s) (ha : Applies p x) (hop : p.opcode = 10) :
    s.arriveSeq p =
      (let u := ((State.met p s).updSession p.dsess (fun x => { x with state := 3, closePsn := some p.psn })).settleClose p.dsess
      (u.releaseFenced p.dsess (match u.session? p.dsess with | some x => x.fenced.length | none => 0)).settleClose p.dsess) := by
  obtain ⟨_, _, _, hx, _, _⟩ := id h
  have hz : (State.met p s).apply p.dsess p =
      (false, ((State.met p s).updSession p.dsess (fun x => { x with state := 3, closePsn := some p.psn })).settleClose p.dsess) := by
    unfold State.apply
    rw [met_session hx, hop]
    rfl
  have hseq : (State.met p s).sequenced p p.dsess x (fun q s => s.apply p.dsess q) =
      ((State.met p s).updSession p.dsess (fun x => { x with state := 3, closePsn := some p.psn })).settleClose p.dsess := by
    rw [sequenced_applies ha, hz]
    exact if_neg Bool.false_ne_true
  unfold State.arriveSeq
  rw [arrive_reached h]
  exact congrArg (fun u : State =>
    (u.releaseFenced p.dsess (match u.session? p.dsess with | some x => x.fenced.length | none => 0)).settleClose p.dsess) hseq

theorem settleClose_none {n : Nat} {s : State} (h : s.session? n = none) : s.settleClose n = s := by
  unfold State.settleClose
  rw [h]

theorem settleClose_busy {n : Nat} {y : Session} {s : State} (h : s.session? n = some y) (hops : y.ops ≠ []) : s.settleClose n = s := by
  unfold State.settleClose
  rw [h]
  dsimp only
  split
  · rfl
  · refine if_pos ?_
    cases ho : y.ops with
    | nil => exact absurd ho hops
    | cons _ _ => rfl

theorem settleClose_gone {n psn : Nat} {y : Session} {s : State} (h : s.session? n = some y) (hc : y.closePsn = some psn) (hops : y.ops = []) :
    (s.settleClose n).session? n = none := by
  unfold State.settleClose
  rw [h]
  dsimp only
  rw [hc]
  dsimp only
  rw [hops, if_neg (c := (!List.isEmpty []) = true) Bool.false_ne_true]
  exact endSession_gone n false _ _ _

theorem close_waits {p : Packet} {x : Session} {s : State} (h : Reaches p x s) (hw : Unwaited x) (ha : Applies p x) (hop : p.opcode = 10)
    (hops : x.ops ≠ []) :
    (s.arriveSeq p).session? p.dsess = some { x with lastRx := s.time.now, state := 3, closePsn := some p.psn } := by
  obtain ⟨_, _, _, hx, _, _⟩ := id h
  obtain ⟨hfenced, _⟩ := hw
  have hy : ((State.met p s).updSession p.dsess (fun x => { x with state := 3, closePsn := some p.psn })).session? p.dsess =
      some { x with lastRx := s.time.now, state := 3, closePsn := some p.psn } := by
    rw [updSession_session, if_pos rfl, met_session hx]
    rfl
  rw [close_next h ha hop]
  generalize (State.met p s).updSession p.dsess (fun x => { x with state := 3, closePsn := some p.psn }) = z at hy ⊢
  dsimp only
  have hlen : (match z.session? p.dsess with | some x => x.fenced.length | none => 0) = 0 := by
    rw [hy]
    exact congrArg List.length hfenced
  rw [settleClose_busy hy hops, hlen]
  show (z.settleClose p.dsess).session? p.dsess = _
  rw [settleClose_busy hy hops, hy]

theorem close_frees {p : Packet} {x : Session} {s : State} (h : Reaches p x s) (ha : Applies p x) (hop : p.opcode = 10) (hops : x.ops = []) :
    (s.arriveSeq p).session? p.dsess = none := by
  obtain ⟨_, _, _, hx, _, _⟩ := id h
  have hy : ((State.met p s).updSession p.dsess (fun x => { x with state := 3, closePsn := some p.psn })).session? p.dsess =
      some { x with lastRx := s.time.now, state := 3, closePsn := some p.psn } := by
    rw [updSession_session, if_pos rfl, met_session hx]
    rfl
  rw [close_next h ha hop]
  generalize (State.met p s).updSession p.dsess (fun x => { x with state := 3, closePsn := some p.psn }) = z at hy ⊢
  have hgone := settleClose_gone hy rfl hops
  generalize z.settleClose p.dsess = u at hgone ⊢
  dsimp only
  rw [hgone]
  show (u.settleClose p.dsess).session? p.dsess = none
  rw [settleClose_none hgone]
  exact hgone

/-- Settles O55. -/
theorem sessionsOpenAndClose : Obligations.SessionsOpenAndClose := by
  unfold Obligations.SessionsOpenAndClose
  refine ⟨fun t sealed tagOk regionOk m s hmode hf => ⟨fun hbad => connect_unauthentic hmode hf hbad, fun hseal htag =>
      ⟨fun n hrep hk => connect_repeats hmode hf hseal htag hrep hk, fun r hrep hr hne hk => connect_refused hmode hf hseal htag hrep hr hne hk,
        fun hrep hr hk => connect_opens hmode hf hseal htag hrep hr hk⟩⟩,
    fun t n sealed tagOk m x s ht hx hst => ⟨fun hg => accept_answers ht hx hst hg, fun hb => accept_unauthentic hx hst hb⟩,
    fun t p x s ht h hw ha => ⟨fun hop => ?_, fun hop hs hph => ?_, fun hop hops => ?_, fun hop hops => ?_⟩,
    fun t port udpLen p s hr hs hbad => malformedPacket_noted hr hs hbad,
    fun t port udpPort ok s hr hs => datagramDiscard_counts hr hs⟩
  · obtain ⟨hnoted, hmem, hrx⟩ := keepalive_notes (reaches_advanceTo t h) hw ha hop
    rw [advanceTo_now ht.1 ht.2.1 ht.2.2] at hrx
    exact ⟨_, exec_arrives (fun e => absurd (hop.symm.trans e) (by decide)) (11, _) (by simp) hop, hnoted, hmem.trans (advanceTo_mem t s), hrx⟩
  · obtain ⟨hnoted, hmem, hrx⟩ := rekey_turns (reaches_advanceTo t h) hw ha hop hs hph
    exact ⟨_, exec_arrives (fun e => absurd (hop.symm.trans e) (by decide)) (12, _) (by simp) hop, hnoted, hmem.trans (advanceTo_mem t s), hrx⟩
  · have hx := close_waits (reaches_advanceTo t h) hw ha hop hops
    rw [advanceTo_now ht.1 ht.2.1 ht.2.2] at hx
    exact ⟨_, exec_arrives (fun e => absurd (hop.symm.trans e) (by decide)) (10, _) (by simp) hop, hx⟩
  · exact ⟨_, exec_arrives (fun e => absurd (hop.symm.trans e) (by decide)) (10, _) (by simp) hop,
      close_frees (reaches_advanceTo t h) ha hop hops⟩

end Sys2Proof.Proofs
end

section
/-!
SUPPORT. The points of a read (R21, R95, R96, R111, R112, R150): codewords decoded, the lanes' answers, parity and the partner.
-/

namespace Sys2Proof.Proofs

open Sys2Proof.Machine Sys2Proof.Safety Sys2Proof.Laws

/-! ### Reads and read commands in their lists -/

/-- The first element that a test accepts, after a change of just those elements. -/
theorem find_map_if {α : Type} {p : α → Bool} {P : α → Prop} [DecidablePred P] {f : α → α} (hp : ∀ a, p a = true ↔ P a)
    (hf : ∀ a, P a → P (f a)) (l : List α) : (l.map (fun a => if P a then f a else a)).find? p = (l.find? p).map f := by
  induction l with
  | nil => rfl
  | cons a l ih =>
    rw [List.map_cons]
    by_cases h : P a
    · rw [if_pos h, List.find?_cons_of_pos ((hp _).2 (hf a h)), List.find?_cons_of_pos ((hp a).2 h)]
      rfl
    · have hn : ¬ p a = true := fun e => h ((hp a).1 e)
      rw [if_neg h, List.find?_cons_of_neg hn, List.find?_cons_of_neg hn, ih]

theorem read_updRead {rid : Nat} {f : ReadGrain → ReadGrain} (s : State) (hf : ∀ r, (f r).rid = r.rid) :
    (s.updRead rid f).read? rid = (s.read? rid).map f :=
  find_map_if (p := fun r : ReadGrain => r.rid == rid) (fun _ => beq_iff_eq) (fun r h => (hf r).trans h) s.path.reads

theorem rcmd_updRcmd {cntl qid cid : Nat} {f : ReadCmd → ReadCmd} (s : State)
    (hf : ∀ c, (f c).cntl = c.cntl ∧ (f c).qid = c.qid ∧ (f c).cmd = c.cmd) :
    (s.updRcmd cntl qid cid f).rcmd? cntl qid cid = (s.rcmd? cntl qid cid).map f := by
  refine find_map_if (p := fun c : ReadCmd => c.cntl == cntl && c.qid == qid && c.cmd.cid == cid) (fun c => ?_) (fun c h => ?_) s.path.rcmds
  · rw [Bool.and_eq_true, Bool.and_eq_true, beq_iff_eq, beq_iff_eq, beq_iff_eq, and_assoc]
  · obtain ⟨h1, h2, h3⟩ := hf c
    rw [h1, h2, h3]
    exact h

theorem read_of_path {s u : State} (h : u.path.reads = s.path.reads) (rid : Nat) : u.read? rid = s.read? rid := by
  unfold State.read?
  rw [h]

theorem rid_of_read {rid : Nat} {r : ReadGrain} {s : State} (h : s.read? rid = some r) : r.rid = rid :=
  beq_iff_eq.1 (List.find?_some (p := fun r : ReadGrain => r.rid == rid) h)

theorem read_dropRead (rid : Nat) (s : State) : (s.dropRead rid).read? rid = none := by
  unfold State.dropRead State.read?
  rw [List.find?_eq_none]
  intro r hr
  have := (List.mem_filter.1 hr).2
  simpa using this

/-! ### What the counters and the refresh of a band leave of the reads -/

/-- The reads, and all that tells where their records lie and what point V3 expects of them, stand. -/
structure ReadsStand (s u : State) : Prop where
  reads : u.path.reads = s.path.reads
  rcmds : u.path.rcmds = s.path.rcmds
  stored : u.path.stored = s.path.stored
  ddup : u.ddup = s.ddup
  image : u.image = s.image
  strp : u.strp = s.strp
  codeword : ∀ band off c, u.codewordAt band off c = s.codewordAt band off c

theorem ReadsStand.refl (s : State) : ReadsStand s s := ⟨rfl, rfl, rfl, rfl, rfl, rfl, fun _ _ _ => rfl⟩

theorem ReadsStand.trans {s x u : State} (a : ReadsStand s x) (b : ReadsStand x u) : ReadsStand s u :=
  ⟨b.reads.trans a.reads, b.rcmds.trans a.rcmds, b.stored.trans a.stored, b.ddup.trans a.ddup, b.image.trans a.image, b.strp.trans a.strp,
    fun band off c => (b.codeword band off c).trans (a.codeword band off c)⟩

theorem ReadsStand.of_frame {m : Nat} {s u : State} (f : Frame m s u) (h8 : m.testBit 8 = false) (h9 : m.testBit 9 = false)
    (h11 : m.testBit 11 = false) (h21 : m.testBit 21 = false) : ReadsStand s u := by
  have hp := f.path h8
  refine ⟨by rw [hp], by rw [hp], by rw [hp], f.ddup h9, f.image h21, f.strp h11, fun band off c => ?_⟩
  unfold State.codewordAt
  rw [hp]

theorem ReadsStand.read {s u : State} (h : ReadsStand s u) (rid : Nat) : u.read? rid = s.read? rid := read_of_path h.reads rid

theorem ReadsStand.expected {s u : State} (h : ReadsStand s u) (r : ReadGrain) : u.expected r = s.expected r := by
  unfold State.expected
  rw [h.ddup]

theorem ReadsStand.entPlace {s u : State} (h : ReadsStand s u) (e : MapEnt) : u.entPlace e = s.entPlace e := by
  unfold State.entPlace
  rw [h.ddup]

theorem ReadsStand.storedAt {s u : State} (h : ReadsStand s u) (band off : Nat) : u.storedAt band off = s.storedAt band off := by
  unfold State.storedAt
  rw [h.stored]

theorem ReadsStand.lastStep {s u : State} (h : ReadsStand s u) (r : ReadGrain) (left : List Nat) : u.lastStep r left = s.lastStep r left := by
  have hcw : u.codewordAt = s.codewordAt := funext fun band => funext fun off => funext fun c => h.codeword band off c
  have hd : u.readDie r = s.readDie r := by
    funext c
    unfold State.readDie State.portModel
    rw [h.entPlace, hcw, h.image, h.strp]
  unfold State.lastStep
  rw [hd]

theorem advanceTo_readsStand (t : Nat) (s : State) : ReadsStand s (s.advanceTo t) :=
  .of_frame (State.advanceTo_frame t s) (by decide) (by decide) (by decide) (by decide)

/-- Asking for a band's refresh moves no codeword (R151). -/
theorem askRefresh_stand (band step : Nat) (s : State) : ReadsStand s (s.askRefresh band step) := by
  unfold State.askRefresh
  split
  · exact .refl s
  · split
    next b hb =>
      split
      · exact .refl s
      · have hset : ReadsStand s { s with path := { s.path with bands := NMap.put s.path.bands band { b with refresh := true } } } := by
          refine ⟨rfl, rfl, rfl, rfl, rfl, rfl, fun j off c => ?_⟩
          unfold State.codewordAt
          dsimp only
          rw [find_put]
          by_cases h : band = j
          · rw [if_pos h, ← h, hb]
            rfl
          · rw [if_neg h]
        exact (hset.trans (.of_frame (State.raise_frame _ _ _) (by decide) (by decide) (by decide) (by decide))).trans
          (.of_frame (State.record_frame _ _ _) (by decide) (by decide) (by decide) (by decide))
    next => exact .refl s

/-- The codewords of a read that passed are counted, and their band may be refreshed. -/
def State.passedNoted (band off step : Nat) (passed : List Nat) (s : State) : State :=
  if passed.isEmpty then s.countPassed band off step passed else (s.countPassed band off step passed).askRefresh band step

theorem passedNoted_stand (band off step : Nat) (passed : List Nat) (s : State) : ReadsStand s (State.passedNoted band off step passed s) := by
  have hc : ReadsStand s (s.countPassed band off step passed) :=
    .of_frame (State.countPassed_frame _ _ _ _ _) (by decide) (by decide) (by decide) (by decide)
  unfold State.passedNoted
  split
  · exact hc
  · exact hc.trans (askRefresh_stand _ _ _)

/-! ### V2 and V3 -/

theorem readFail_parity {rid v : Nat} {r : ReadGrain} {s : State} (h : s.read? rid = some r) (hs : r.source = 0) :
    (s.readFail rid v).read? rid = some { r with failPoint := v, lanes := [], failing := [], point := 8, source := 1 } := by
  unfold State.readFail
  rw [h]
  dsimp only
  rw [if_pos hs, read_updRead, read_updRead, h]
  · rfl
  · exact fun _ => rfl
  · exact fun _ => rfl

theorem pointV3_passes {rid : Nat} {r : ReadGrain} {rec : Record} {s : State} (h : s.read? rid = some r) (hk : rec.kind = 1)
    (he : s.expected r = (rec.check.reftag, rec.check.wgen)) (hu : r.use ≠ 3) :
    (s.pointV3 rid (some rec)).read? rid = some { r with record := some rec, point := 4, lanes := [] } := by
  unfold State.pointV3
  rw [h]
  dsimp only
  rw [he]
  dsimp only
  rw [if_pos ⟨hk, rfl, rfl⟩, if_neg hu, read_updRead, h]
  · rfl
  · exact fun _ => rfl

/-- The codewords that a read takes at a step (R150). -/
def stepWords (step off plen : Nat) (r : ReadGrain) : List Nat := if step = 0 then recordCodewords off (64 + plen) else r.failing

theorem decoded_eq {rid step band off plen : Nat} {failing : List Nat} {r : ReadGrain} {s : State} (h : s.read? rid = some r)
    (hp : s.entPlace r.ent = (band, off, plen)) :
    s.decoded rid step failing =
      (let left := (stepWords step off plen r).filter failing.contains
      let s2 := State.passedNoted band off step ((stepWords step off plen r).filter (fun c => !failing.contains c)) s
      if left.isEmpty then s2.pointV3 rid ((s2.storedAt band off).map (·.record))
      else if s2.lastStep r left ≤ step then (left.foldl (fun s c => s.uncorrectable band off c) s2).readFail rid 2
      else (s2.updRead rid (fun r => { r with failing := left, step := step })).bookRetry r left) := by
  unfold State.decoded
  rw [h]
  dsimp only
  rw [hp]
  rfl

theorem decoded_passes {rid step band off plen : Nat} {failing : List Nat} {r : ReadGrain} {x : Stored} {s : State} (h : s.read? rid = some r)
    (hp : s.entPlace r.ent = (band, off, plen)) (hall : ∀ c ∈ stepWords step off plen r, c ∉ failing) (hx : s.storedAt band off = some x)
    (hk : x.record.kind = 1) (he : s.expected r = (x.record.check.reftag, x.record.check.wgen)) (hu : r.use ≠ 3) :
    (s.decoded rid step failing).read? rid = some { r with record := some x.record, point := 4, lanes := [] } := by
  have hleft : (stepWords step off plen r).filter failing.contains = [] := by
    rw [List.filter_eq_nil_iff]
    intro c hc hin
    exact hall c hc (List.contains_iff_mem.1 hin)
  have hs2 := passedNoted_stand band off step ((stepWords step off plen r).filter (fun c => !failing.contains c)) s
  rw [decoded_eq h hp]
  dsimp only
  generalize State.passedNoted band off step ((stepWords step off plen r).filter (fun c => !failing.contains c)) s = y at hs2 ⊢
  rw [hleft, if_pos (by rfl), hs2.storedAt, hx]
  exact pointV3_passes ((hs2.read rid).trans h) hk ((hs2.expected r).trans he) hu

theorem left_some {step off plen : Nat} {failing : List Nat} {r : ReadGrain} (h : ∃ c ∈ stepWords step off plen r, c ∈ failing) :
    ¬ ((stepWords step off plen r).filter failing.contains).isEmpty = true := by
  obtain ⟨c, hc, hin⟩ := h
  rw [List.isEmpty_iff]
  intro e
  exact absurd (e ▸ List.mem_filter.2 ⟨hc, List.contains_iff_mem.2 hin⟩) List.not_mem_nil

theorem decoded_keeps {rid step band off plen : Nat} {failing : List Nat} {r : ReadGrain} {s : State} (h : s.read? rid = some r)
    (hp : s.entPlace r.ent = (band, off, plen)) (hsome : ∃ c ∈ stepWords step off plen r, c ∈ failing)
    (hlast : step < s.lastStep r ((stepWords step off plen r).filter failing.contains)) :
    (s.decoded rid step failing).read? rid =
      some { r with failing := (stepWords step off plen r).filter failing.contains, step := step } := by
  have hs2 := passedNoted_stand band off step ((stepWords step off plen r).filter (fun c => !failing.contains c)) s
  rw [decoded_eq h hp]
  dsimp only
  generalize State.passedNoted band off step ((stepWords step off plen r).filter (fun c => !failing.contains c)) s = y at hs2 ⊢
  rw [if_neg (left_some hsome), hs2.lastStep, if_neg (Nat.not_le.2 hlast)]
  generalize (stepWords step off plen r).filter failing.contains = left
  have hb := State.bookRetry_frame r left (y.updRead rid (fun r => { r with failing := left, step := step }))
  rw [read_of_path (congrArg (·.reads) (hb.path (by decide))), read_updRead, hs2.read rid, h]
  · rfl
  · exact fun _ => rfl

theorem decoded_fails {rid step band off plen : Nat} {failing : List Nat} {r : ReadGrain} {s : State} (h : s.read? rid = some r)
    (hp : s.entPlace r.ent = (band, off, plen)) (hsome : ∃ c ∈ stepWords step off plen r, c ∈ failing)
    (hlast : s.lastStep r ((stepWords step off plen r).filter failing.contains) ≤ step) (hsrc : r.source = 0) :
    (s.decoded rid step failing).read? rid = some { r with failPoint := 2, lanes := [], failing := [], point := 8, source := 1 } := by
  have hs2 := passedNoted_stand band off step ((stepWords step off plen r).filter (fun c => !failing.contains c)) s
  rw [decoded_eq h hp]
  dsimp only
  generalize State.passedNoted band off step ((stepWords step off plen r).filter (fun c => !failing.contains c)) s = y at hs2 ⊢
  rw [if_neg (left_some hsome), hs2.lastStep, if_pos hlast]
  have hun : (((stepWords step off plen r).filter failing.contains).foldl (fun s c => State.uncorrectable band off c s) y).path = y.path :=
    foldl_keep (·.path) (fun s c => (State.uncorrectable_frame band off c s).path (by decide)) _ y
  exact readFail_parity ((read_of_path (congrArg (·.reads) hun) rid).trans ((hs2.read rid).trans h)) hsrc

/-! ### Pages and retry steps -/

theorem lostStrips_advanceTo (t band off len : Nat) (s : State) : (s.advanceTo t).lostStrips band off len = s.lostStrips band off len :=
  after_advanceTo (P := fun y => y.lostStrips band off len = s.lostStrips band off len) t fun _ => rfl

/-- PAGE_READ_DONE of a record whose strips are all there decodes it. -/
theorem pageReadDone_next {t rid band off plen : Nat} {failing : List Nat} {r : ReadGrain} {s : State} (h : s.read? rid = some r)
    (hpt : r.point = 2) (hp : s.entPlace r.ent = (band, off, plen)) (hstep : r.step = 0) (hf : r.failing = [])
    (hlost : (s.lostStrips band off (64 + plen)).2 = false) :
    ∃ y, Sys2Proof.Machine.exec (.pageReadDone t rid failing) s = .next (y.decoded rid 0 failing) ∧ ReadsStand s y := by
  have hst := advanceTo_readsStand t s
  have hgo : ¬ (r.point != 2 || decide (r.step ≠ 0) || !r.failing.isEmpty) = true := by
    rw [hpt, hstep, hf]
    decide
  refine ⟨(((s.advanceTo t).useRes (resDie ((s.advanceTo t).codewordAt band off 0).1)).count
    (ctrDie ((s.advanceTo t).codewordAt band off 0).1 0)).count (ctrChannel (((s.advanceTo t).codewordAt band off 0).1 / 16) 0), ?_, ?_⟩
  · show execPageReadDone t rid failing s = _
    unfold execPageReadDone
    dsimp only
    rw [hst.read, h]
    dsimp only
    rw [if_neg hgo, hst.entPlace, hp]
    dsimp only
    rw [lostStrips_advanceTo, hlost, Bool.and_false, if_neg Bool.false_ne_true, if_neg Bool.false_ne_true]
  · exact ((hst.trans (.of_frame (State.useRes_frame _ _) (by decide) (by decide) (by decide) (by decide))).trans
      (.of_frame (State.count_frame _ _) (by decide) (by decide) (by decide) (by decide))).trans
      (.of_frame (State.count_frame _ _) (by decide) (by decide) (by decide) (by decide))

/-- READ_RETRY_STEP sets the levels of the step, decodes, and restores them. -/
theorem readRetryStep_next {t rid : Nat} {failing : List Nat} {r : ReadGrain} {s : State} (h : s.read? rid = some r) (hpt : r.point = 2)
    (hf : r.failing ≠ []) : ∃ y u, Sys2Proof.Machine.exec (.readRetryStep t rid (r.step + 1) failing) s = .next u ∧ ReadsStand s y ∧
      u.read? rid = (y.decoded rid (r.step + 1) failing).read? rid := by
  have hst := advanceTo_readsStand t s
  have hgo : ¬ (r.point != 2 || r.failing.isEmpty || decide (r.step + 1 ≠ r.step + 1)) = true := by
    rw [hpt]
    have : r.failing.isEmpty = false := by rw [List.isEmpty_eq_false_iff]; exact hf
    rw [this]
    simp
  refine ⟨(s.advanceTo t).setLevels r (r.step + 1), _, ?_,
    hst.trans (.of_frame (State.setLevels_frame _ _ _) (by decide) (by decide) (by decide) (by decide)),
    read_of_path (congrArg (·.reads) ((State.restoreLevels_frame rid r _).path (by decide))) rid⟩
  show execReadRetryStep t rid (r.step + 1) failing s = _
  unfold execReadRetryStep
  dsimp only
  rw [hst.read, h]
  exact congrArg Host.Outcome.next (if_neg hgo)

theorem stepWords_first {off plen : Nat} {r : ReadGrain} : stepWords 0 off plen r = recordCodewords off (64 + plen) := if_pos rfl

theorem stepWords_retry {k off plen : Nat} {r : ReadGrain} : stepWords (k + 1) off plen r = r.failing := if_neg (Nat.succ_ne_zero k)

theorem page_passes {t rid band off plen : Nat} {failing : List Nat} {r : ReadGrain} {x : Stored} {s : State} (h : s.read? rid = some r)
    (hpt : r.point = 2) (hp : s.entPlace r.ent = (band, off, plen)) (hstep : r.step = 0) (hf : r.failing = [])
    (hlost : (s.lostStrips band off (64 + plen)).2 = false) (hall : ∀ c ∈ recordCodewords off (64 + plen), c ∉ failing)
    (hx : s.storedAt band off = some x) (hk : x.record.kind = 1) (he : s.expected r = (x.record.check.reftag, x.record.check.wgen))
    (hu : r.use ≠ 3) : ∃ u, Sys2Proof.Machine.exec (.pageReadDone t rid failing) s = .next u ∧
      u.read? rid = some { r with record := some x.record, point := 4, lanes := [] } := by
  obtain ⟨y, hnext, hy⟩ := pageReadDone_next (t := t) (failing := failing) h hpt hp hstep hf hlost
  refine ⟨_, hnext, decoded_passes ((hy.read rid).trans h) ((hy.entPlace _).trans hp) ?_ ((hy.storedAt _ _).trans hx) hk
    ((hy.expected r).trans he) hu⟩
  rw [stepWords_first]
  exact hall

theorem page_goes_on {t rid band off plen : Nat} {failing : List Nat} {r : ReadGrain} {s : State} (h : s.read? rid = some r)
    (hpt : r.point = 2) (hp : s.entPlace r.ent = (band, off, plen)) (hstep : r.step = 0) (hf : r.failing = [])
    (hlost : (s.lostStrips band off (64 + plen)).2 = false) (hsome : ∃ c ∈ recordCodewords off (64 + plen), c ∈ failing)
    (hlast : 0 < s.lastStep r ((recordCodewords off (64 + plen)).filter (fun c => failing.contains c))) :
    ∃ u, Sys2Proof.Machine.exec (.pageReadDone t rid failing) s = .next u ∧
      u.read? rid = some { r with failing := (recordCodewords off (64 + plen)).filter (fun c => failing.contains c), step := 0 } := by
  obtain ⟨y, hnext, hy⟩ := pageReadDone_next (t := t) (failing := failing) h hpt hp hstep hf hlost
  have hd := decoded_keeps (step := 0) (failing := failing) ((hy.read rid).trans h) ((hy.entPlace _).trans hp)
  rw [stepWords_first] at hd
  exact ⟨_, hnext, hd hsome ((hy.lastStep r _).symm ▸ hlast)⟩

theorem retry_passes {t rid band off plen : Nat} {failing : List Nat} {r : ReadGrain} {x : Stored} {s : State} (h : s.read? rid = some r)
    (hpt : r.point = 2) (hp : s.entPlace r.ent = (band, off, plen)) (hf : r.failing ≠ []) (hall : ∀ c ∈ r.failing, c ∉ failing)
    (hx : s.storedAt band off = some x) (hk : x.record.kind = 1) (he : s.expected r = (x.record.check.reftag, x.record.check.wgen))
    (hu : r.use ≠ 3) : ∃ u, Sys2Proof.Machine.exec (.readRetryStep t rid (r.step + 1) failing) s = .next u ∧
      u.read? rid = some { r with record := some x.record, point := 4, lanes := [] } := by
  obtain ⟨y, u, hnext, hy, hread⟩ := readRetryStep_next (t := t) (failing := failing) h hpt hf
  refine ⟨u, hnext, hread.trans (decoded_passes ((hy.read rid).trans h) ((hy.entPlace _).trans hp) ?_ ((hy.storedAt _ _).trans hx) hk
    ((hy.expected r).trans he) hu)⟩
  rw [stepWords_retry]
  exact hall

theorem retry_goes_on {t rid band off plen : Nat} {failing : List Nat} {r : ReadGrain} {s : State} (h : s.read? rid = some r)
    (hpt : r.point = 2) (hp : s.entPlace r.ent = (band, off, plen)) (hsome : ∃ c ∈ r.failing, c ∈ failing) :
    ∃ u, Sys2Proof.Machine.exec (.readRetryStep t rid (r.step + 1) failing) s = .next u ∧
      (r.step + 1 < s.lastStep r (r.failing.filter (fun c => failing.contains c)) →
        u.read? rid = some { r with failing := r.failing.filter (fun c => failing.contains c), step := r.step + 1 }) ∧
      (s.lastStep r (r.failing.filter (fun c => failing.contains c)) ≤ r.step + 1 → r.source = 0 →
        u.read? rid = some { r with failPoint := 2, lanes := [], failing := [], point := 8, source := 1 }) := by
  have hf : r.failing ≠ [] := by
    obtain ⟨c, hc, _⟩ := hsome
    exact List.ne_nil_of_mem hc
  obtain ⟨y, u, hnext, hy, hread⟩ := readRetryStep_next (t := t) (failing := failing) h hpt hf
  have hkeeps := decoded_keeps (step := r.step + 1) (failing := failing) ((hy.read rid).trans h) ((hy.entPlace _).trans hp)
  have hfails := decoded_fails (step := r.step + 1) (failing := failing) ((hy.read rid).trans h) ((hy.entPlace _).trans hp)
  rw [stepWords_retry] at hkeeps hfails
  rw [hy.lastStep] at hkeeps hfails
  exact ⟨u, hnext, fun hl => hread.trans (hkeeps hsome hl), fun hl hs => hread.trans (hfails hsome hl hs)⟩

/-! ### V5 and V6 -/

/-- The counters of a decompression pass. -/
def State.lanePassed (lane : Nat) (rec : Record) (s : State) : State :=
  ((s.useIsland .cmp (2 * lane)).count (ctrLane (32 + lane) 0)).countN (ctrLane (32 + lane) 6) rec.plen

theorem lanePassed_frame (lane : Nat) (rec : Record) (s : State) : Frame (16 + 32) s (State.lanePassed lane rec s) :=
  .comp (State.countN_frame _ _ _) rfl (.comp (State.count_frame _ _) rfl (.comp (State.useIsland_frame _ _ s) rfl (.refl s)))

theorem laneDecode_advanceTo (t : Nat) (rec : Record) (s : State) : (s.advanceTo t).laneDecode rec = s.laneDecode rec :=
  after_advanceTo (P := fun y => y.laneDecode rec = s.laneDecode rec) t fun _ => rfl

/-- How a lane's answer to a record is taken: the lane is not one that has failed on it. -/
theorem decompressionDone_next {t rid lane : Nat} {fault : Option LaneDecode} {r : ReadGrain} {rec : Record} {s : State}
    (h : s.read? rid = some r) (hrec : r.record = some rec) (hpt : r.point = 5) (hok : s.dlaneOk lane = true) (hnew : lane ∉ r.lanes) :
    ∃ y, Frame (1 + 16 + 32) s y ∧
      (∀ f, laneFailure rec (fault.getD (s.laneDecode rec)) = some f → Sys2Proof.Machine.exec (.decompressionDone t rid lane fault) s =
        .next (if r.lanes.isEmpty then (y.laneFailed r lane f).updRead rid (fun r => { r with lanes := [lane] })
          else (y.laneFailed r lane f).readFail rid f.1)) ∧
      (∀ bytes, laneFailure rec (fault.getD (s.laneDecode rec)) = none → fault.getD (s.laneDecode rec) = .ok bytes → r.lanes = [] →
        Sys2Proof.Machine.exec (.decompressionDone t rid lane fault) s =
          .next ((y.countN (ctrLane (32 + lane) 7) bytes.length).deliver r bytes)) := by
  have hread : (s.advanceTo t).read? rid = some r := ((advanceTo_readsStand t s).read rid).trans h
  have hok1 : (s.advanceTo t).dlaneOk lane = true := after_advanceTo (P := fun y => y.dlaneOk lane = true) t fun _ => hok
  have hgo : ¬ (r.point != 5 || !(s.advanceTo t).dlaneOk lane ||
      (r.lanes.contains lane && !((s.advanceTo t).dlanesOk == r.lanes))) = true := by
    have hc : r.lanes.contains lane = false := by
      rw [← Bool.not_eq_true]
      exact fun e => hnew (List.contains_iff_mem.1 e)
    rw [hpt, hok1, hc]
    simp
  refine ⟨State.lanePassed lane rec (s.advanceTo t), .comp (lanePassed_frame _ _ _) rfl (.comp (State.advanceTo_frame t s) rfl (.refl s)),
    fun f hf => ?_, fun bytes hnone hres hl => ?_⟩
  · show execDecompressionDone t rid lane fault s = _
    unfold execDecompressionDone
    dsimp only
    rw [hread]
    dsimp only
    rw [hrec]
    dsimp only
    rw [if_neg hgo, laneDecode_advanceTo, hf]
    rfl
  · show execDecompressionDone t rid lane fault s = _
    unfold execDecompressionDone
    dsimp only
    rw [hread]
    dsimp only
    rw [hrec]
    dsimp only
    rw [if_neg hgo, laneDecode_advanceTo, hnone, hres, hl]
    rfl

theorem readsStand_laneFailed (r : ReadGrain) (lane : Nat) (f : Nat × Nat × Nat) (s : State) : ReadsStand s (s.laneFailed r lane f) :=
  .of_frame (State.laneFailed_frame _ _ _ _) (by decide) (by decide) (by decide) (by decide)

theorem lane_fails_first {t rid lane : Nat} {fault : Option LaneDecode} {r : ReadGrain} {rec : Record} {f : Nat × Nat × Nat} {s : State}
    (h : s.read? rid = some r) (hrec : r.record = some rec) (hpt : r.point = 5) (hok : s.dlaneOk lane = true)
    (hf : laneFailure rec (fault.getD (s.laneDecode rec)) = some f) (hl : r.lanes = []) :
    ∃ u, Sys2Proof.Machine.exec (.decompressionDone t rid lane fault) s = .next u ∧ u.read? rid = some { r with lanes := [lane] } := by
  obtain ⟨y, hy, hfail, _⟩ := decompressionDone_next (t := t) (fault := fault) h hrec hpt hok (by rw [hl]; exact List.not_mem_nil)
  have hnext := hfail f hf
  rw [if_pos (by rw [hl]; rfl)] at hnext
  refine ⟨_, hnext, ?_⟩
  have hst : ReadsStand s y := .of_frame hy (by decide) (by decide) (by decide) (by decide)
  rw [read_updRead, (readsStand_laneFailed r lane f y).read, hst.read, h]
  · rfl
  · exact fun _ => rfl

theorem lane_fails_again {t rid lane l0 : Nat} {fault : Option LaneDecode} {r : ReadGrain} {rec : Record} {f : Nat × Nat × Nat} {s : State}
    (h : s.read? rid = some r) (hrec : r.record = some rec) (hpt : r.point = 5) (hok : s.dlaneOk lane = true)
    (hf : laneFailure rec (fault.getD (s.laneDecode rec)) = some f) (hl : r.lanes = [l0]) (hne : l0 ≠ lane) (hs : r.source = 0) :
    ∃ u, Sys2Proof.Machine.exec (.decompressionDone t rid lane fault) s = .next u ∧
      u.read? rid = some { r with failPoint := f.1, lanes := [], failing := [], point := 8, source := 1 } := by
  obtain ⟨y, hy, hfail, _⟩ := decompressionDone_next (t := t) (fault := fault) h hrec hpt hok (by
    rw [hl, List.mem_singleton]
    exact fun e => hne e.symm)
  have hnext := hfail f hf
  rw [if_neg (by rw [hl]; exact Bool.false_ne_true)] at hnext
  have hst : ReadsStand s y := .of_frame hy (by decide) (by decide) (by decide) (by decide)
  exact ⟨_, hnext, readFail_parity (((readsStand_laneFailed r lane f y).read rid).trans ((hst.read rid).trans h)) hs⟩

/-- A read command that has been given a grain. -/
def withGrain (g : Nat) (bytes : List Byte) (tags : DWord) (hole : Bool) (c : ReadCmd) : ReadCmd :=
  { c with left := c.left.filter (· != g), got := NMap.put c.got g bytes, tags := NMap.put c.tags g tags,
           holes := if hole then c.holes ++ [g] else c.holes }

/-- A grain given to a command that still waits for another one. -/
theorem giveGrain_waits {cntl qid cid g : Nat} {bytes : List Byte} {tags : DWord} {c : ReadCmd} {s : State} (h : s.rcmd? cntl qid cid = some c)
    (hleft : c.left.filter (· != g) ≠ []) : (s.giveGrain cntl qid cid g bytes tags false).path.reads = s.path.reads ∧
      (s.giveGrain cntl qid cid g bytes tags false).rcmd? cntl qid cid =
        some { c with left := c.left.filter (· != g), got := NMap.put c.got g bytes, tags := NMap.put c.tags g tags } := by
  have h1 : (s.updRcmd cntl qid cid (withGrain g bytes tags false)).rcmd? cntl qid cid =
      some { c with left := c.left.filter (· != g), got := NMap.put c.got g bytes, tags := NMap.put c.tags g tags } := by
    rw [rcmd_updRcmd, h]
    · rfl
    · exact fun _ => ⟨rfl, rfl, rfl⟩
  have hne : ¬ ((c.left.filter (· != g)).isEmpty && !c.delivered) = true := by
    rw [List.isEmpty_eq_false_iff.2 hleft, Bool.false_and]
    exact Bool.false_ne_true
  have he : s.giveGrain cntl qid cid g bytes tags false = s.updRcmd cntl qid cid (withGrain g bytes tags false) := by
    show (match (s.updRcmd cntl qid cid (withGrain g bytes tags false)).rcmd? cntl qid cid with
      | some c => if c.left.isEmpty && !c.delivered then State.finishRead c (s.updRcmd cntl qid cid (withGrain g bytes tags false))
          else s.updRcmd cntl qid cid (withGrain g bytes tags false)
      | none => s.updRcmd cntl qid cid (withGrain g bytes tags false)) = _
    rw [h1]
    exact if_neg hne
  rw [he]
  exact ⟨rfl, h1⟩

theorem deliver_gives {r : ReadGrain} {rec : Record} {bytes : List Byte} {s : State} (hrec : r.record = some rec) (hs : r.source = 0)
    (hu : r.use ≤ 1) (hg : crc64 bytes = rec.check.guard) :
    s.deliver r bytes = (s.dropRead r.rid).giveGrain r.cntl r.qid r.cid r.grain bytes rec.apptag false := by
  unfold State.deliver
  have hgo : ¬ (r.use ≤ 1 ∧ r.record.any (fun rec => decide (crc64 bytes ≠ rec.check.guard)) = true) := by
    rintro ⟨_, hany⟩
    rw [hrec] at hany
    exact of_decide_eq_true hany hg
  rw [if_neg hgo, hrec, hs]
  dsimp only
  rw [if_neg (by omega), if_neg (c := (decide (r.use = 4) && (0 : Nat) != 0) = true) (fun hc => Bool.false_ne_true (Bool.and_eq_true_iff.1 hc).2)]
  rfl

theorem lane_passes {t rid lane : Nat} {fault : Option LaneDecode} {r : ReadGrain} {rec : Record} {bytes : List Byte} {c : ReadCmd} {s : State}
    (h : s.read? rid = some r) (hrec : r.record = some rec) (hpt : r.point = 5) (hok : s.dlaneOk lane = true)
    (hres : fault.getD (s.laneDecode rec) = .ok bytes) (hf : laneFailure rec (fault.getD (s.laneDecode rec)) = none) (hl : r.lanes = [])
    (hs : r.source = 0) (hu : r.use ≤ 1) (hg : crc64 bytes = rec.check.guard) (hc : s.rcmd? r.cntl r.qid r.cid = some c)
    (hleft : c.left.filter (· != r.grain) ≠ []) :
    ∃ u, Sys2Proof.Machine.exec (.decompressionDone t rid lane fault) s = .next u ∧ u.read? rid = none ∧
      u.rcmd? r.cntl r.qid r.cid = some { c with left := c.left.filter (· != r.grain), got := NMap.put c.got r.grain bytes,
                                                  tags := NMap.put c.tags r.grain rec.apptag } := by
  obtain ⟨y, hy, _, hpass⟩ := decompressionDone_next (t := t) (fault := fault) h hrec hpt hok (by rw [hl]; exact List.not_mem_nil)
  have hrid : r.rid = rid := rid_of_read h
  have hz : (y.countN (ctrLane (32 + lane) 7) bytes.length).path = s.path :=
    ((State.countN_frame _ _ _).path (by decide)).trans (hy.path (by decide))
  refine ⟨_, hpass bytes hf hres hl, ?_⟩
  rw [deliver_gives hrec hs hu hg]
  generalize y.countN (ctrLane (32 + lane) 7) bytes.length = z at hz
  have hcz : (z.dropRead r.rid).rcmd? r.cntl r.qid r.cid = some c := by
    unfold State.rcmd? at hc ⊢
    show z.path.rcmds.find? _ = _
    rw [hz]
    exact hc
  obtain ⟨hreads, hcmd⟩ := giveGrain_waits (bytes := bytes) (tags := rec.apptag) hcz hleft
  refine ⟨?_, hcmd⟩
  rw [read_of_path hreads, hrid]
  exact read_dropRead rid z

/-! ### Parity and the partner -/

theorem emit_back {o : Out} {s : State} (h : s.onFrontEnd o = false) : (s.emit o).outbox = o :: s.outbox := by
  unfold State.emit
  rw [h, Bool.and_false]
  rfl

theorem emit_back_sends {o : Out} {s u : State} (h : s.onFrontEnd o = false) (e : s.outbox = u.outbox) : Sends o u (s.emit o) :=
  ⟨[o], (emit_back h).trans (congrArg _ e), List.mem_singleton_self o⟩

theorem parity_restores {t rid : Nat} {r : ReadGrain} {rec : Record} {b : Band} {s : State} (h : s.read? rid = some r) (hpt : r.point = 8)
    (hu : r.use ≠ 3) (hk : rec.kind = 1) (he : s.expected r = (rec.check.reftag, rec.check.wgen))
    (hb : NMap.find s.path.bands (s.entPlace r.ent).1 = some b)
    (hm : (s.lostStrips (s.entPlace r.ent).1 (s.entPlace r.ent).2.1 (64 + (s.entPlace r.ent).2.2)).1 ≤ b.m) :
    ∃ u, Sys2Proof.Machine.exec (.parityRepair t rid (some rec)) s = .next u ∧
      u.read? rid = some { r with record := some rec, point := 4, lanes := [] } := by
  have hst := advanceTo_readsStand t s
  refine ⟨(s.advanceTo t).pointV3 rid (some rec), ?_, pointV3_passes ((hst.read rid).trans h) hk ((hst.expected r).trans he) hu⟩
  show execParityRepair t rid (some rec) s = _
  unfold execParityRepair
  dsimp only
  rw [hst.read, h]
  dsimp only
  rw [if_neg (by rw [hpt]; decide), hst.entPlace, lostStrips_advanceTo, advanceTo_path, hb]
  dsimp only
  rw [if_neg (Nat.not_lt.2 hm)]

theorem readFail_asks {rid v : Nat} {r : ReadGrain} {s : State} (h : s.read? rid = some r) (hu : r.use ≠ 3) (hs : r.source = 1)
    (hask : s.partnerAsk = true) : Sends (.repairAsk rid r.vol r.grain r.ent.wgen) s (s.readFail rid v) ∧
      (s.readFail rid v).read? rid = some { r with failPoint := v, lanes := [], failing := [], point := 9, source := 2 } := by
  have hask1 (f : ReadGrain → ReadGrain) : (s.updRead rid f).partnerAsk = true := hask
  unfold State.readFail
  rw [h]
  dsimp only
  rw [if_neg (by rw [hs]; decide), if_neg hu, hask1, hs]
  refine ⟨emit_back_sends rfl rfl, ?_⟩
  show (State.emit _ _).read? rid = _
  rw [read_of_path (congrArg (·.reads) ((State.emit_frame _ _).path (by decide))), read_updRead, read_updRead, h]
  · rfl
  · exact fun _ => rfl
  · exact fun _ => rfl

theorem parity_asks {t rid : Nat} {r : ReadGrain} {s : State} (h : s.read? rid = some r) (hpt : r.point = 8) (hu : r.use ≠ 3)
    (hs : r.source = 1) (hask : s.partnerAsk = true) :
    ∃ u, Sys2Proof.Machine.exec (.parityRepair t rid none) s = .next u ∧ Sends (.repairAsk rid r.vol r.grain r.ent.wgen) s u ∧
      u.read? rid = some { r with lanes := [], failing := [], point := 9, source := 2 } := by
  have hnext : Sys2Proof.Machine.exec (.parityRepair t rid none) s = .next ((s.advanceTo t).readFail rid r.failPoint) := by
    show execParityRepair t rid none s = _
    unfold execParityRepair
    dsimp only
    rw [(advanceTo_readsStand t s).read, h]
    dsimp only
    rw [if_neg (by rw [hpt]; decide), ite_self]
  obtain ⟨hsend, hread⟩ := readFail_asks (v := r.failPoint) (((advanceTo_readsStand t s).read rid).trans h) hu hs
    ((partnerAsk_of (advanceTo_md t s) (advanceTo_moor t s)).trans hask)
  exact ⟨_, hnext, sends_before (State.advanceTo_frame t s) hsend, hread⟩

theorem partner_gives {t rid : Nat} {r : ReadGrain} {rec : Record} {s : State} (h : s.read? rid = some r) (hpt : r.point = 9)
    (hk : rec.kind ≠ 4) : ∃ u, Sys2Proof.Machine.exec (.partnerRepairResponse t rid (some rec)) s = .next u ∧
      u.read? rid = some { r with record := some rec, point := 4, lanes := [] } := by
  have hread : (s.advanceTo t).read? rid = some r := ((advanceTo_readsStand t s).read rid).trans h
  refine ⟨(s.advanceTo t).updRead rid (fun r => { r with record := some rec, point := 4, lanes := [] }), ?_, ?_⟩
  · show execPartnerRepairResponse t rid (some rec) s = _
    unfold execPartnerRepairResponse
    dsimp only
    rw [hread]
    exact congrArg Host.Outcome.next ((if_neg (by rw [hpt]; decide)).trans (if_neg hk))
  · rw [read_updRead, hread]
    · rfl
    · exact fun _ => rfl

/-- The last source of a host's read has failed: its command ends with 2h/81h (R21). -/
theorem readFail_ends {rid v : Nat} {r : ReadGrain} {c : ReadCmd} {s : State} (h : s.read? rid = some r) (hs : r.source = 2) (hu : r.use ≤ 1)
    (hb : s.beyondRepair r = false) (hc : s.rcmd? r.cntl r.qid r.cid = some c) (hroom : Room c.cntl c.qid s) :
    Answers c.cntl c.qid c.cmd.cid 2 0x81 0 s (s.readFail rid v) := by
  have hb1 (f : ReadGrain → ReadGrain) : (s.updRead rid f).beyondRepair r = false := hb
  unfold State.readFail
  rw [h]
  dsimp only
  rw [if_neg (by rw [hs]; decide), if_neg (by omega), if_neg (by rw [hs]; exact Bool.false_ne_true), hb1,
    if_neg Bool.false_ne_true]
  have hf := State.updRead_frame rid (fun r => { r with failPoint := v, lanes := [], failing := [] }) s
  have hcf : (s.updRead rid (fun r => { r with failPoint := v, lanes := [], failing := [] })).rcmd? r.cntl r.qid r.cid = some c := hc
  generalize s.updRead rid (fun r => { r with failPoint := v, lanes := [], failing := [] }) = y at hf hcf ⊢
  unfold State.unrecovered
  have hg : Frame (65566 + 256 + 64) y ((y.dropRead r.rid).record 0x3302 [r.vol, r.grain, v]) :=
    .comp (State.record_frame _ _ _) rfl (.comp (State.dropRead_frame _ y) rfl (.refl y))
  have hcg : ((y.dropRead r.rid).record 0x3302 [r.vol, r.grain, v]).rcmd? r.cntl r.qid r.cid = some c := by
    have hp : ((y.dropRead r.rid).record 0x3302 [r.vol, r.grain, v]).path.rcmds = y.path.rcmds :=
      congrArg (·.rcmds) ((State.record_frame _ _ _).path (by decide))
    unfold State.rcmd? at hcf ⊢
    rw [hp]
    exact hcf
  dsimp only
  generalize (y.dropRead r.rid).record 0x3302 [r.vol, r.grain, v] = z at hg hcg ⊢
  rw [if_neg (by omega), hcg]
  dsimp only
  unfold State.endRcmd
  have hd := State.dropRcmd_frame c.cntl c.qid c.cmd.cid z
  have hroomd : Room c.cntl c.qid (z.dropRcmd c.cntl c.qid c.cmd.cid) :=
    ((hroom.of_frame hf (by decide) (by decide)).of_frame hg (by decide) (by decide)).of_frame hd (by decide) (by decide)
  exact answers_before hf (answers_before hg (answers_before hd (complete_answers hroomd)))

theorem partner_fails {t rid : Nat} {r : ReadGrain} {c : ReadCmd} {s : State} (h : s.read? rid = some r) (hpt : r.point = 9) (hs : r.source = 2)
    (hu : r.use ≤ 1) (hb : s.beyondRepair r = false) (hc : s.rcmd? r.cntl r.qid r.cid = some c) (hready : Ready c.cntl c.qid s) :
    ∃ u, Sys2Proof.Machine.exec (.partnerRepairResponse t rid none) s = .next u ∧ Answers c.cntl c.qid c.cmd.cid 2 0x81 0 s u := by
  have hread : (s.advanceTo t).read? rid = some r := ((advanceTo_readsStand t s).read rid).trans h
  have hb1 : (s.advanceTo t).beyondRepair r = false := after_advanceTo (P := fun y => y.beyondRepair r = false) t fun _ => hb
  have hc1 : (s.advanceTo t).rcmd? r.cntl r.qid r.cid = some c :=
    after_advanceTo (P := fun y => y.rcmd? r.cntl r.qid r.cid = some c) t fun _ => hc
  refine ⟨(s.advanceTo t).readFail rid r.failPoint, ?_,
    answers_before (State.advanceTo_frame t s) (readFail_ends hread hs hu hb1 hc1 (ready_room (ready_advanceTo hready)))⟩
  show execPartnerRepairResponse t rid none s = _
  unfold execPartnerRepairResponse
  dsimp only
  rw [hread]
  exact congrArg Host.Outcome.next (if_neg (by rw [hpt]; decide))

theorem mapEnt_advanceTo (t vol grain : Nat) (s : State) : (s.advanceTo t).mapEnt vol grain = s.mapEnt vol grain :=
  after_advanceTo (P := fun y => y.mapEnt vol grain = s.mapEnt vol grain) t fun _ => rfl

theorem repairRequest_reads {t vol grain token : Nat} {wgen : BitVec 16} {e : MapEnt} {s : State} (he : s.mapEnt vol grain = some e)
    (hw : e.wgen = wgen) (hst : e.stored = true) :
    ∃ u r, Sys2Proof.Machine.exec (.partnerRepairRequest t vol grain wgen token) s = .next u ∧ u.path.reads = s.path.reads ++ [r] ∧
      r.use = 3 ∧ r.cid = token ∧ r.ent = e ∧ r.point = 2 ∧ r.rid = s.path.nextRid := by
  refine ⟨(s.advanceTo t).startRead 0 0 token 3 0 vol grain e, _, ?_, congrArg (fun p : PathState => p.reads ++ [_]) (advanceTo_path t s),
    rfl, rfl, rfl, rfl, congrArg (·.nextRid) (advanceTo_path t s)⟩
  show execPartnerRepairRequest t vol grain wgen token s = _
  unfold execPartnerRepairRequest
  dsimp only
  rw [mapEnt_advanceTo, he]
  exact congrArg Host.Outcome.next (if_pos ⟨hw, hst⟩)

theorem repairRequest_gives {t vol grain token : Nat} {wgen : BitVec 16} {found : Option Record} {s : State}
    (hnext : Sys2Proof.Machine.exec (.partnerRepairRequest t vol grain wgen token) s = .next ((s.advanceTo t).emit (.repairGive token found))) :
    ∃ u, Sys2Proof.Machine.exec (.partnerRepairRequest t vol grain wgen token) s = .next u ∧ u.path = s.path ∧
      Sends (.repairGive token found) s u :=
  ⟨_, hnext, ((State.emit_frame _ _).path (by decide)).trans (advanceTo_path t s), emit_back_sends rfl (advanceTo_outbox t s)⟩

theorem repairRequest_clone {t vol grain token : Nat} {wgen : BitVec 16} {e : MapEnt} {s : State} (he : s.mapEnt vol grain = some e)
    (hw : e.wgen = wgen) (hk : e.kind = 2) :
    ∃ u, Sys2Proof.Machine.exec (.partnerRepairRequest t vol grain wgen token) s = .next u ∧ u.path = s.path ∧
      Sends (.repairGive token ((s.storedAt e.band e.offset).map (·.record))) s u := by
  have hst : ¬ (e.wgen = wgen ∧ e.stored = true) := by
    rintro ⟨_, hs⟩
    unfold MapEnt.stored at hs
    rw [hk] at hs
    exact absurd hs (by decide)
  refine repairRequest_gives ?_
  show execPartnerRepairRequest t vol grain wgen token s = _
  unfold execPartnerRepairRequest
  dsimp only
  rw [mapEnt_advanceTo, he]
  dsimp only
  rw [(advanceTo_readsStand t s).storedAt]
  exact congrArg Host.Outcome.next ((if_neg hst).trans (if_pos ⟨hw, hk⟩))

theorem repairRequest_none {t vol grain token : Nat} {wgen : BitVec 16} {s : State}
    (h : ∀ e, s.mapEnt vol grain = some e → e.wgen ≠ wgen ∨ (e.stored = false ∧ e.kind ≠ 2)) :
    ∃ u, Sys2Proof.Machine.exec (.partnerRepairRequest t vol grain wgen token) s = .next u ∧ u.path = s.path ∧
      Sends (.repairGive token none) s u := by
  refine repairRequest_gives ?_
  show execPartnerRepairRequest t vol grain wgen token s = _
  unfold execPartnerRepairRequest
  dsimp only
  rw [mapEnt_advanceTo]
  cases he : s.mapEnt vol grain with
  | none => rfl
  | some e =>
    have hne := h e he
    have h1 : ¬ (e.wgen = wgen ∧ e.stored = true) := by
      rintro ⟨hw, hs⟩
      rcases hne with hn | ⟨hn, _⟩
      · exact hn hw
      · exact Bool.false_ne_true (hn.symm.trans hs)
    have h2 : ¬ (e.wgen = wgen ∧ e.kind = 2) := by
      rintro ⟨hw, hk⟩
      rcases hne with hn | ⟨_, hn⟩
      · exact hn hw
      · exact hn hk
    exact congrArg Host.Outcome.next ((if_neg h1).trans (if_neg h2))

/-- Settles O56. -/
theorem readsPassTheirPoints : Obligations.ReadsPassTheirPoints := by
  unfold Obligations.ReadsPassTheirPoints
  refine ⟨fun t rid band off plen failing r s h hpt hp => ⟨fun hstep hf hlost => ⟨fun x hall hx hk he hu => ?_, fun hsome hlast => ?_⟩,
      fun hf => ⟨fun x hall hx hk he hu => ?_, fun hsome => ?_⟩⟩, ?_,
    fun t rid r s h => ⟨fun rec b hpt hu hk he hb hm => parity_restores h hpt hu hk he hb hm,
      fun hpt hu hs hask => parity_asks h hpt hu hs hask, fun rec hpt hk => partner_gives h hpt hk,
      fun c hpt hs hu hb hc hready => partner_fails h hpt hs hu hb hc hready⟩,
    fun t vol grain token wgen s => ⟨fun e he hw hst => repairRequest_reads he hw hst, fun e he hw hk => repairRequest_clone he hw hk,
      fun hn => repairRequest_none hn⟩⟩
  · exact page_passes h hpt hp hstep hf hlost hall hx hk he hu
  · exact page_goes_on h hpt hp hstep hf hlost hsome hlast
  · exact retry_passes h hpt hp hf hall hx hk he hu
  · exact retry_goes_on h hpt hp hsome
  · intro t rid lane fault r rec s h hrec hpt hok res
    exact ⟨fun f hf hl => lane_fails_first h hrec hpt hok hf hl, fun f l0 hf hl hne hs => lane_fails_again h hrec hpt hok hf hl hne hs,
      fun bytes c hres hf hl hs hu hrid hg hc hleft => lane_passes h hrec hpt hok hres hf hl hs hu hg hc hleft⟩

end Sys2Proof.Proofs
end

section
/-!
SUPPORT. Writes as they are admitted, accepted and checked (R16, R68, R77): what names a write, and that a write with a record still to seal
stays among the writes in flight.
-/

namespace Sys2Proof.Proofs

open Sys2Proof.Machine Sys2Proof.Safety Sys2Proof.Laws

/-! ### What stage 1 leaves of a write -/

/-- What of a grain stage 1 does not enter: its number, whether it failed, and when it was sealed. -/
def grainCore (x : GrainOp) : Nat × Bool × Option Nat := (x.grain, x.failed, x.sealedAt)

/-- What of a write stage 1 does not enter. -/
structure WriteCore where
  seq : Nat
  cntl : Nat
  qid : Nat
  vol : Nat
  cmd : Sqe
  resv : Option Nat
  acc : Option Nat
  grains : List (Nat × Bool × Option Nat)

def writeCore (w : WriteOp) : WriteCore :=
  { seq := w.seq, cntl := w.cntl, qid := w.qid, vol := w.vol, cmd := w.cmd, resv := w.resv, acc := w.acc, grains := w.grains.map grainCore }

theorem writeCore_updGrain {g : Nat} {f : GrainOp → GrainOp} (hf : ∀ x, grainCore (f x) = grainCore x) (w : WriteOp) :
    writeCore (w.updGrain g f) = writeCore w := by
  have hg : (w.updGrain g f).grains.map grainCore = w.grains.map grainCore := by
    show (w.grains.map _).map grainCore = _
    rw [List.map_map]
    refine List.map_congr_left fun x _ => ?_
    show grainCore (if x.grain = g then f x else x) = _
    split
    · exact hf x
    · rfl
  unfold writeCore
  rw [hg]
  rfl

/-- The writes in flight keep their cores, and the next sequence number stands. -/
structure CoresKept (s u : State) : Prop where
  writes : u.adm.writes.map writeCore = s.adm.writes.map writeCore
  next : u.adm.nextSeq = s.adm.nextSeq

theorem CoresKept.refl (s : State) : CoresKept s s := ⟨rfl, rfl⟩

theorem CoresKept.trans {s x u : State} (a : CoresKept s x) (b : CoresKept x u) : CoresKept s u :=
  ⟨b.writes.trans a.writes, b.next.trans a.next⟩

theorem CoresKept.of_adm {s u : State} (h : u.adm = s.adm) : CoresKept s u := ⟨by rw [h], by rw [h]⟩

theorem CoresKept.updWrite {seq : Nat} {f : WriteOp → WriteOp} (s : State) (hf : ∀ w, writeCore (f w) = writeCore w) :
    CoresKept s (s.updWrite seq f) := by
  refine ⟨?_, rfl⟩
  show (s.adm.writes.map _).map writeCore = _
  rw [List.map_map]
  refine List.map_congr_left fun w _ => ?_
  show writeCore (if w.seq = seq then f w else w) = _
  split
  · exact hf w
  · rfl

theorem formGrain_coresKept (seq g : Nat) (plain : List Byte) (tags : DWord) (s : State) : CoresKept s (s.formGrain seq g plain tags) := by
  unfold State.formGrain
  split
  · exact .refl s
  · split
    · exact .refl s
    · dsimp only
      refine CoresKept.trans (x := _) ?_ (.updWrite _ fun w => writeCore_updGrain (fun x => ?_) w)
      · split
        · exact .refl s
        · exact .of_adm rfl
      · rfl

theorem stage1_coresKept (w : WriteOp) (data pi : List Byte) (x : GrainOp) (s : State) : CoresKept s (s.stage1 w data pi x) := by
  unfold State.stage1
  dsimp only
  split
  · exact formGrain_coresKept _ _ _ _ s
  · split
    · split
      · refine CoresKept.trans (.updWrite s fun w => writeCore_updGrain (fun x => ?_) w) (.of_adm rfl)
        rfl
      · exact formGrain_coresKept _ _ _ _ s
    · exact formGrain_coresKept _ _ _ _ s

/-- A write as its acceptance leaves its core: with its acceptance tick (R16). -/
def acceptedCore (seq now : Nat) (w : WriteOp) : WriteCore :=
  if w.seq = seq then { writeCore w with acc := some (if w.pushed then w.adm else now) } else writeCore w

theorem accept_cores {seq : Nat} {data pi : List Byte} {w : WriteOp} {s : State} (hw : s.write? seq = some w) :
    (s.accept seq data pi).adm.writes.map writeCore = s.adm.writes.map (acceptedCore seq s.time.now) ∧
      (s.accept seq data pi).adm.nextSeq = s.adm.nextSeq := by
  unfold State.accept
  rw [hw]
  dsimp only
  have hfold : ∀ (l : List GrainOp) (y : State), CoresKept y (l.foldl (fun s x => s.stage1 w data pi x) y) := by
    intro l
    induction l with
    | nil => exact .refl
    | cons x l ih => exact fun y => (stage1_coresKept w data pi x y).trans (ih _)
  obtain ⟨hcores, hnext⟩ := hfold w.grains _
  rw [hcores, hnext, (State.countN_frame _ _ _).adm (by decide)]
  refine ⟨?_, rfl⟩
  show (s.adm.writes.map _).map writeCore = _
  rw [List.map_map]
  refine List.map_congr_left fun v _ => ?_
  show writeCore (if v.seq = seq then _ else v) = _
  unfold acceptedCore
  split
  · unfold writeCore
    dsimp only
    rw [List.map_map]
    rfl
  · rfl

/-! ### Writes that end -/

/-- A reservation's write is counted as on time or late as it ends (R56). -/
def State.lateNoted (w : WriteOp) (late : Bool) (by_ : Nat) (s : State) : State :=
  match w.resv with
  | some i => if late then ((s.record 0x2100 [i, by_]).raise Reg.ADM_STATUS 4).count (ctrResv i 4) else s.count (ctrResv i 5)
  | none => s

theorem lateNoted_writes (w : WriteOp) (late : Bool) (by_ : Nat) (s : State) :
    (State.lateNoted w late by_ s).adm.writes = s.adm.writes := by
  unfold State.lateNoted
  split
  · split
    · rw [(State.count_frame _ _).writes (by decide), (State.raise_frame _ _ _).writes (by decide),
        (State.record_frame _ _ _).writes (by decide)]
    · exact (State.count_frame _ _).writes (by decide)
  · rfl

/-- A host's write is counted as it ends. -/
def State.hostCounted (w : WriteOp) (sct : Nat) (s : State) : State :=
  if sct = 0 ∧ w.cntl < replKey 0 then { s with nvq := { s.nvq with
    hostWrites := s.nvq.hostWrites + 1
    bytesWritten := s.nvq.bytesWritten + (if w.kind = opWrite then 4096 * w.nlb else 0) } } else s

theorem hostCounted_writes (w : WriteOp) (sct : Nat) (s : State) : (State.hostCounted w sct s).adm.writes = s.adm.writes := by
  unfold State.hostCounted
  split <;> rfl

theorem finishWrite_eq (w : WriteOp) (s : State) : ∃ late by_ sct sc dw0, s.finishWrite w =
    ((((State.hostCounted w sct (State.lateNoted w late by_ ((s.publishWrite w).dropWrite w.seq))).complete w.cntl w.qid w.cid sct sc dw0 0
      ).replStored w).snapsReady w.vol) := ⟨_, _, _, _, _, rfl⟩

theorem finishWrite_writes (w : WriteOp) (s : State) : (s.finishWrite w).adm.writes = s.adm.writes.filter (fun v => v.seq != w.seq) := by
  obtain ⟨late, by_, sct, sc, dw0, he⟩ := finishWrite_eq w s
  rw [he, (State.snapsReady_frame _ _).writes (by decide), (State.replStored_frame _ _).writes (by decide),
    (State.complete_frame _ _ _ _ _ _ _ _).writes (by decide), hostCounted_writes, lateNoted_writes]
  show (s.publishWrite w).adm.writes.filter _ = _
  rw [(State.publishWrite_frame w s).writes (by decide)]

theorem finishWrites_keep {w : WriteOp} (l : List WriteOp) {s : State} (hw : w ∈ s.adm.writes) (h : ∀ v ∈ l, v.seq ≠ w.seq) :
    w ∈ (l.foldl (fun s v => State.finishWrite v s) s).adm.writes := by
  induction l generalizing s with
  | nil => exact hw
  | cons v l ih =>
    refine ih ?_ fun x hx => h x (List.mem_cons_of_mem _ hx)
    rw [finishWrite_writes]
    exact List.mem_filter.2 ⟨hw, bne_iff_ne.2 fun e => h v List.mem_cons_self e.symm⟩

/-- A write whose namesakes are not durable stays when the ready ones complete (R56). -/
theorem checkWrites_keeps {w : WriteOp} {s : State} (hw : w ∈ s.adm.writes)
    (h : ∀ v ∈ s.adm.writes, v.seq = w.seq → v.durable (s.needsAck v) = false) : w ∈ s.checkWrites.adm.writes := by
  unfold State.checkWrites
  split
  · exact hw
  · refine finishWrites_keep _ hw fun v hv e => ?_
    obtain ⟨hmem, hd⟩ := List.mem_filter.1 hv
    rw [h v hmem e] at hd
    exact Bool.false_ne_true hd

/-- A write with a grain that neither failed nor is sealed is not durable (R19). -/
theorem not_durable {w : WriteOp} {b : Bool} (h : ∃ c ∈ w.grains.map grainCore, c.2 = (false, none)) : w.durable b = false := by
  obtain ⟨c, hc, he⟩ := h
  obtain ⟨x, hx, rfl⟩ := List.mem_map.1 hc
  obtain ⟨hfail, hseal⟩ := Prod.mk.inj he
  unfold WriteOp.durable
  rw [Bool.and_eq_false_iff]
  refine .inr (List.all_eq_false.2 ⟨x, hx, ?_⟩)
  rw [show x.failed = false from hfail, show x.sealedAt = none from hseal]
  exact Bool.false_ne_true

/-! ### Admission -/

/-- A write as it stands among the writes in flight when it has just been admitted (R68). -/
structure Admitted (h : Held) (s : State) (w : WriteOp) (u : State) : Prop where
  writes : u.adm.writes = s.adm.writes ++ [w]
  next : u.adm.nextSeq = s.adm.nextSeq + 1
  core : writeCore w = { seq := s.adm.nextSeq, cntl := h.cntl, qid := h.qid, vol := volOf h.cmd.nsid, cmd := h.cmd, resv := h.resv, acc := none,
                         grains := (grainPlan h).map (fun p => (p.1, false, none)) }
  pushed : w.pushed = (h.cmd.opcode == opWrite && pushOf h.cmd)
  adm : w.adm = s.time.now
  ns : u.nvq = s.nvq
  time : u.time = s.time

theorem newWrite_core (h : Held) (seq d at_ : Nat) (parity : List Nat) (s : State) :
    writeCore { s.newWrite h seq d with bookedAt := at_, parity := parity } =
      { seq := seq, cntl := h.cntl, qid := h.qid, vol := volOf h.cmd.nsid, cmd := h.cmd, resv := h.resv, acc := none,
        grains := (grainPlan h).map (fun p => (p.1, false, none)) } := by
  unfold writeCore State.newWrite
  dsimp only
  rw [List.map_map]
  rfl

/-- The state an attempt starts from: its credit or its counts are those of the present window (R68, R410). -/
def State.refilled (h : Held) (s : State) : State :=
  match h.resv with
  | some i => s.updResv i (fun r => r.refill (windowOf s.time.now))
  | none => s.beRefill

theorem refilled_kept (h : Held) (s : State) : Frame (2 ^ 6 + 2 ^ 33) s (State.refilled h s) ∧
    (State.refilled h s).adm.nextSeq = s.adm.nextSeq := by
  unfold State.refilled
  split
  · exact ⟨.comp (State.updResv_frame _ _ s) rfl (.refl s), rfl⟩
  · refine ⟨.comp (State.beRefill_frame s) rfl (.refl s), ?_⟩
    unfold State.beRefill
    split <;> rfl

/-- A write stands among the writes in flight, with its bookings. -/
def State.booked (w : WriteOp) (bs : List Booking) (be : Nat) (s : State) : State :=
  { s with
    adm := { s.adm with bookings := bs, writes := s.adm.writes ++ [w], nextSeq := s.adm.nextSeq + 1, beWrites := be }
    path := { s.path with overlayHeld := s.path.overlayHeld + w.ovUnits.length } }

/-- The reservation of an admitted write is charged. -/
def State.charged (h : Held) (excess : Nat) (s : State) : State :=
  match h.resv with
  | some i =>
    (((s.updResv i (fun r => { r with used := r.used + grainCount h, credit := r.credit - excess })).countN (ctrResv i 0) (grainCount h)).count
      (ctrResv i 1)).countN (ctrResv i 7) excess
  | none => s

theorem charged_kept (h : Held) (excess seq : Nat) (s : State) :
    Frame (2 ^ 1 + 2 ^ 2 + 2 ^ 3 + 2 ^ 4 + 2 ^ 5 + 2 ^ 6 + 2 ^ 10 + 2 ^ 16 + 2 ^ 33) s (((State.charged h excess s).suspendErases seq).wakeDue) ∧
      (((State.charged h excess s).suspendErases seq).wakeDue).adm.nextSeq = s.adm.nextSeq := by
  have hc : Frame (2 ^ 4 + 2 ^ 6 + 2 ^ 33) s (State.charged h excess s) ∧ (State.charged h excess s).adm.nextSeq = s.adm.nextSeq := by
    unfold State.charged
    split
    · refine ⟨.comp (State.countN_frame _ _ _) rfl (.comp (State.count_frame _ _) rfl (.comp (State.countN_frame _ _ _) rfl
        (.comp (State.updResv_frame _ _ s) rfl (.refl s)))), ?_⟩
      rw [(State.countN_frame _ _ _).adm (by decide), (State.count_frame _ _).adm (by decide), (State.countN_frame _ _ _).adm (by decide)]
      rfl
    · exact ⟨.refl s, rfl⟩
  obtain ⟨hf, hn⟩ := hc
  generalize State.charged h excess s = y at hf hn ⊢
  refine ⟨.comp (State.wakeDue_frame _) rfl (.comp (State.suspendErases_frame _ _) rfl (.comp hf rfl (.refl s))), ?_⟩
  rw [(State.wakeDue_frame _).adm (by decide), (State.suspendErases_frame _ _).adm (by decide)]
  exact hn

/-- An attempt holds its command, or it books a new write, charges its reservation, and wakes and suspends what its bookings do (R68). -/
theorem admitWrite_cases (h : Held) (s : State) : ∀ x, s.admitWrite h = x → x.1 ≠ .no ∨ ∃ d at_ parity bs be excess,
    x.2 = ((State.charged h excess (State.booked
      { ((State.refilled h s).spaceHold h).2.newWrite h ((State.refilled h s).spaceHold h).2.adm.nextSeq d with bookedAt := at_, parity := parity }
      bs be ((State.refilled h s).spaceHold h).2)).suspendErases ((State.refilled h s).spaceHold h).2.adm.nextSeq).wakeDue := by
  intro x hx
  unfold State.admitWrite at hx
  extract_lets g now s0 r excess credit firm slot pulls data at hx
  rw [show State.refilled h s = s0 from rfl]
  split at hx
  · subst hx
    exact .inl Hold.noConfusion
  · split at hx
    · subst hx
      exact .inl Hold.noConfusion
    · split at hx
      · subst hx
        exact .inl Hold.noConfusion
      · generalize s0.spaceHold h = q at hx ⊢
        obtain ⟨full, s1⟩ := q
        dsimp only at hx ⊢
        split at hx
        · subst hx
          exact .inl Hold.noConfusion
        · split at hx
          · subst hx
            exact .inl Hold.noConfusion
          · subst hx
            exact .inr ⟨_, _, _, _, _, _, rfl⟩

/-- An attempt that admits a write puts it among the writes in flight (R68). -/
theorem admitWrite_admits {h : Held} {s : State} (hno : (s.admitWrite h).1 = .no) : ∃ w, Admitted h s w (s.admitWrite h).2 := by
  obtain hc | ⟨d, at_, parity, bs, be, excess, he⟩ := admitWrite_cases h s _ rfl
  · exact absurd hno hc
  · obtain ⟨hf0, hn0⟩ := refilled_kept h s
    have hf1 := State.spaceHold_frame h (State.refilled h s)
    rw [he]
    generalize (State.refilled h s).spaceHold h = q at hf1 ⊢
    have hadm : q.2.adm = (State.refilled h s).adm := hf1.adm (by decide)
    have htime : q.2.time = s.time := (hf1.time (by decide)).trans (hf0.time (by decide))
    have hnvq : q.2.nvq = s.nvq := (hf1.nvq (by decide)).trans (hf0.nvq (by decide))
    have hseq : q.2.adm.nextSeq = s.adm.nextSeq := (congrArg (·.nextSeq) hadm).trans hn0
    obtain ⟨hf2, hn2⟩ := charged_kept h excess q.2.adm.nextSeq (State.booked
      { q.2.newWrite h q.2.adm.nextSeq d with bookedAt := at_, parity := parity } bs be q.2)
    refine ⟨{ q.2.newWrite h q.2.adm.nextSeq d with bookedAt := at_, parity := parity }, ?_, ?_, ?_, rfl, ?_, ?_, ?_⟩
    · rw [hf2.writes (by decide)]
      show q.2.adm.writes ++ _ = _
      rw [hadm, hf0.writes (by decide)]
    · exact hn2.trans (congrArg (· + 1) hseq)
    · rw [newWrite_core, hseq]
    · exact congrArg (·.now) htime
    · exact (hf2.nvq (by decide)).trans hnvq
    · exact (hf2.time (by decide)).trans htime

end Sys2Proof.Proofs
end

section
/-!
SUPPORT. The host's writes, reads and compares as they are fetched and admitted (R15, R16, R55, R68, R83, R95, R97).
-/

namespace Sys2Proof.Proofs

open Sys2Proof.Machine Sys2Proof.Safety Sys2Proof.Laws

/-! ### From the queue to admission -/

theorem ioRefusal_eq {s u : State} (cntl : Nat) (e : Sqe) (hmd : u.md = s.md) (hns : u.nvq.ns = s.nvq.ns) :
    u.ioRefusal cntl e = s.ioRefusal cntl e := by
  unfold State.ioRefusal State.nsFor State.ns?
  rw [hmd, hns]

/-- A command that nothing refuses goes to admission (R55). -/
theorem fetchIo_submits {cntl qid : Nat} {e : Sqe} {ranges : List (Nat × Nat)} {data : List Byte} {t : Nat} {s : State}
    (hcan : s.canFetch cntl qid = true) (hr : s.ioRefusal cntl e = none) :
    (s.advanceTo t).fetchIo cntl qid e ranges data =
      ((s.advanceTo t).fetched cntl qid e).submit (((s.advanceTo t).fetched cntl qid e).asHeld cntl qid e ranges data) := by
  have hcan' : (s.advanceTo t).canFetch cntl qid = true := after_advanceTo (P := fun y => y.canFetch cntl qid = true) t fun _ => hcan
  have hf := fetched_advanceTo_frame t cntl qid e s
  have hr' : ((s.advanceTo t).fetched cntl qid e).ioRefusal cntl e = none :=
    (ioRefusal_eq cntl e (hf.md (by decide)) (hf.ns (by decide))).trans hr
  unfold State.fetchIo
  rw [hcan', if_neg (by decide)]
  dsimp only
  rw [hr']

/-- What an attempt does with a write that is admitted (R68). -/
theorem attempt_admitted {h : Held} {s : State} (hop : isWriteOp h.cmd.opcode = true) (hno : (s.admitWrite h).1 = .no) :
    s.attempt h = (.no, (s.admitWrite h).2.startWrite h s.adm.nextSeq) := by
  unfold State.attempt
  rw [if_pos hop]
  generalize s.admitWrite h = q at hno ⊢
  obtain ⟨why, z⟩ := q
  subst hno
  rfl

/-- A command that its stream does not stop and that an attempt admits is not held (R55). -/
theorem submit_attempts {h : Held} {s z : State} (hwr : s.writeRefusal h = none) (hlarge : s.tooLarge h = false)
    (hheld : s.streamHeld h = false) (ha : s.attempt h = (.no, z)) : s.submit h = z := by
  unfold State.submit
  rw [hwr]
  dsimp only
  rw [hlarge, if_neg Bool.false_ne_true, hheld, if_neg Bool.false_ne_true, ha]

theorem writeRefusal_of_resv {h : Held} (s : State) (hop : h.cmd.opcode ≠ opWrite) : s.writeRefusal h = none := by
  unfold State.writeRefusal
  dsimp only
  rw [decide_eq_false hop, Bool.false_and, if_neg Bool.false_ne_true]

theorem tooLarge_of_resv {h : Held} (s : State) (hresv : h.resv = none) : s.tooLarge h = false := by
  unfold State.tooLarge
  rw [hresv]
  rfl

theorem streamHeld_of_resv {h : Held} (s : State) (hresv : h.resv = none) : s.streamHeld h = false := by
  unfold State.streamHeld
  rw [hresv]
  rfl

/-- Only a Write belongs to its queue's stream (R59), so nothing of a stream stops another command. -/
theorem submit_best_effort {h : Held} {s z : State} (hop : h.cmd.opcode ≠ opWrite) (hresv : h.resv = none) (ha : s.attempt h = (.no, z)) :
    s.submit h = z :=
  submit_attempts (writeRefusal_of_resv s hop) (tooLarge_of_resv s hresv) (streamHeld_of_resv s hresv) ha

theorem asHeld_resv (cntl qid : Nat) {e : Sqe} (ranges : List (Nat × Nat)) (data : List Byte) (s : State) (hop : e.opcode ≠ opWrite) :
    (s.asHeld cntl qid e ranges data).resv = none := if_neg hop

/-! ### An admitted write -/

theorem core_seq {v : WriteOp} {c : WriteCore} (h : writeCore v = c) : v.seq = c.seq := congrArg WriteCore.seq h

/-- The write that an admission made is the one that its sequence number names. -/
theorem Admitted.write? {h : Held} {s z : State} {w : WriteOp} (ha : Admitted h s w z) (hfree : s.write? s.adm.nextSeq = none) :
    z.write? s.adm.nextSeq = some w := by
  unfold State.write? at hfree ⊢
  rw [ha.writes, List.find?_append, hfree, Option.none_or]
  exact List.find?_cons_of_pos (beq_iff_eq.2 (core_seq ha.core))

theorem Admitted.only {h : Held} {s z : State} {w : WriteOp} (ha : Admitted h s w z) (hfree : s.write? s.adm.nextSeq = none) :
    ∀ v ∈ z.adm.writes, v.seq = s.adm.nextSeq → v = w := by
  intro v hv e
  rw [ha.writes] at hv
  obtain hold | hnew := List.mem_append.1 hv
  · exact absurd (beq_iff_eq.2 e) (List.find?_eq_none.1 hfree v hold)
  · exact List.mem_singleton.1 hnew

/-- Acceptance leaves one write of its number, with its acceptance tick (R16). -/
theorem accept_member {seq : Nat} (data pi : List Byte) {w : WriteOp} {z : State} (hw : z.write? seq = some w)
    (honly : ∀ v ∈ z.adm.writes, v.seq = seq → v = w) :
    (∃ v ∈ (z.accept seq data pi).adm.writes, writeCore v = acceptedCore seq z.time.now w) ∧
      ∀ v ∈ (z.accept seq data pi).adm.writes, v.seq = seq → writeCore v = acceptedCore seq z.time.now w := by
  obtain ⟨hcores, -⟩ := accept_cores (data := data) (pi := pi) hw
  constructor
  · have hmem : acceptedCore seq z.time.now w ∈ (z.accept seq data pi).adm.writes.map writeCore :=
      hcores ▸ List.mem_map_of_mem (List.mem_of_find?_eq_some hw)
    exact List.mem_map.1 hmem
  · intro v hv e
    have hmem : writeCore v ∈ z.adm.writes.map (acceptedCore seq z.time.now) := hcores ▸ List.mem_map_of_mem hv
    obtain ⟨x, hx, hxv⟩ := List.mem_map.1 hmem
    have hseq : x.seq = seq := by
      refine Eq.trans ?_ ((core_seq hxv.symm).symm.trans e)
      unfold acceptedCore
      split <;> rfl
    rw [← hxv, honly x hx hseq]

/-- What the admission of a command leaves of its write, accepted at a tick or not. -/
def admittedCore (h : Held) (seq : Nat) (acc : Option Nat) : WriteCore :=
  { seq := seq, cntl := h.cntl, qid := h.qid, vol := volOf h.cmd.nsid, cmd := h.cmd, resv := h.resv, acc := acc,
    grains := (grainPlan h).map (fun p => (p.1, false, none)) }

theorem Admitted.acceptedCore {h : Held} {s z : State} {w : WriteOp} (ha : Admitted h s w z) :
    acceptedCore s.adm.nextSeq z.time.now w = admittedCore h s.adm.nextSeq (some s.time.now) := by
  unfold Proofs.acceptedCore
  rw [if_pos (core_seq ha.core), ha.core, ha.adm, ha.time, ite_self]
  rfl

/-- Zeros and deallocations are accepted in the tick of their admission (R16), and stand until their records are sealed (R19). -/
theorem startWrite_accepts {h : Held} {s z : State} {w : WriteOp} (ha : Admitted h s w z) (hfree : s.write? s.adm.nextSeq = none)
    (hop : h.cmd.opcode ≠ opWrite) (hgs : grainPlan h ≠ []) :
    ∃ v ∈ (z.startWrite h s.adm.nextSeq).adm.writes, writeCore v = admittedCore h s.adm.nextSeq (some s.time.now) := by
  have hw := ha.write? hfree
  obtain ⟨⟨v, hv, hcore⟩, hall⟩ := accept_member [] [] hw (ha.only hfree)
  rw [ha.acceptedCore] at hcore hall
  unfold State.startWrite
  rw [hw]
  dsimp only
  rw [if_pos hop]
  refine ⟨v, checkWrites_keeps hv fun x hx e => not_durable ?_, hcore⟩
  have hxc : x.grains.map grainCore = (grainPlan h).map (fun p => (p.1, false, none)) :=
    congrArg WriteCore.grains (hall x hx (e.trans (core_seq hcore)))
  rw [hxc]
  obtain ⟨p, hp⟩ := List.exists_mem_of_ne_nil _ hgs
  exact ⟨_, List.mem_map_of_mem hp, rfl⟩

theorem hasPi_eq {s u : State} {v w : WriteOp} (hns : u.nvq = s.nvq) (hvol : v.vol = w.vol) (hcmd : v.cmd = w.cmd) :
    u.hasPi v = s.hasPi w := by
  unfold State.hasPi State.ns?
  rw [hns, hvol, hcmd]

/-- The data and the metadata of a write are asked for without touching the writes in flight (R15). -/
theorem remoteReads_adm {pushed pi : Bool} {n q n' q' : Nat} {o o' : OpOwner} {k d l k' d' l' : Nat} (z : State) :
    ((if pi then (if pushed then z else z.remoteRead n q o k d l).remoteRead n' q' o' k' d' l'
      else (if pushed then z else z.remoteRead n q o k d l)) : State).adm = z.adm := by
  have hdata : (if pushed then z else z.remoteRead n q o k d l).adm = z.adm := by
    split
    · rfl
    · exact (State.remoteRead_frame _ _ _ _ _ _ z).adm (by decide)
  split
  · exact ((State.remoteRead_frame _ _ _ _ _ _ _).adm (by decide)).trans hdata
  · exact hdata

/-- A Write without push is pulled from the host (R15); a pushed one without metadata is accepted in the same tick (R16). -/
theorem startWrite_write {h : Held} {s z : State} {w : WriteOp} (ha : Admitted h s w z) (hfree : s.write? s.adm.nextSeq = none)
    (hop : h.cmd.opcode = opWrite) :
    (z.startWrite h s.adm.nextSeq).adm.nextSeq = s.adm.nextSeq + 1 ∧ ∃ v ∈ (z.startWrite h s.adm.nextSeq).adm.writes,
      writeCore v = admittedCore h s.adm.nextSeq v.acc ∧ (pushOf h.cmd = false → v.acc = none) ∧
      (pushOf h.cmd = true → s.hasPi v = false → v.acc = some s.time.now) := by
  have hw := ha.write? hfree
  have hpush : w.pushed = pushOf h.cmd := by rw [ha.pushed, hop]; rfl
  unfold State.startWrite
  rw [hw]
  dsimp only
  rw [if_neg (not_not_intro hop), hpush]
  by_cases hc : (pushOf h.cmd && !z.hasPi w) = true
  · rw [if_pos hc]
    obtain ⟨hp, -⟩ := (Bool.and_eq_true _ _).mp hc
    obtain ⟨⟨v, hv, hcore⟩, -⟩ := accept_member (z.pushedBytes h.resv h.cmd) [] hw (ha.only hfree)
    rw [ha.acceptedCore] at hcore
    have hacc : v.acc = some s.time.now := congrArg WriteCore.acc hcore
    exact ⟨(accept_cores hw).2.trans ha.next, v, hv, hacc ▸ hcore, fun hn => absurd (hp.symm.trans hn) (by decide), fun _ _ => hacc⟩
  · rw [if_neg hc]
    have hcore := ha.core
    refine ⟨(congrArg (·.nextSeq) (remoteReads_adm z)).trans ha.next, w, ?_, ?_, ?_, ?_⟩
    · rw [remoteReads_adm z, ha.writes]
      exact List.mem_append_right _ (List.mem_singleton.2 rfl)
    · have hacc : w.acc = none := congrArg WriteCore.acc hcore
      exact hacc ▸ hcore
    · exact fun _ => congrArg WriteCore.acc hcore
    · intro hp hpi
      refine absurd ?_ hc
      rw [hp, show z.hasPi w = false from (hasPi_eq ha.ns rfl rfl).trans hpi]
      rfl

/-! ### The commands -/

/-- The grains a Write or a Write Zeroes covers (R57). -/
theorem grainPlan_grains {h : Held} (hop : h.cmd.opcode ≠ opDsm) :
    (grainPlan h).map (·.1) = grainsOf (slbaOf h.cmd) (nlbOf h.cmd) := by
  unfold grainPlan
  rw [if_neg hop, List.map_map]
  refine (List.map_congr_left fun g _ => ?_).trans (List.map_id _)
  show (if _ then _ else _ : Nat × Nat × Nat).1 = g
  split <;> rfl

theorem grainsOf_ne_nil (e : Sqe) : grainsOf (slbaOf e) (nlbOf e) ≠ [] := by
  unfold grainsOf
  intro h
  have hlen := congrArg List.length h
  rw [List.length_map, List.length_range] at hlen
  have hle : firstGrain (slbaOf e) ≤ lastGrain (slbaOf e) (nlbOf e) := by
    unfold firstGrain lastGrain nlbOf
    omega
  rw [List.length_nil] at hlen
  omega

theorem grainPlan_ne_nil {h : Held} (hop : h.cmd.opcode ≠ opDsm) : grainPlan h ≠ [] := fun hn =>
  grainsOf_ne_nil h.cmd ((grainPlan_grains hop).symm.trans (congrArg _ hn))

/-- What names a write in flight of a command, and the grains that stand for it. -/
theorem core_grains {v : WriteOp} {h : Held} {seq : Nat} {acc : Option Nat} (hcore : writeCore v = admittedCore h seq acc) :
    v.seq = seq ∧ v.cntl = h.cntl ∧ v.qid = h.qid ∧ v.cmd = h.cmd ∧ v.resv = h.resv ∧ v.acc = acc ∧
      v.grains.map (·.grain) = (grainPlan h).map (·.1) := by
  refine ⟨congrArg WriteCore.seq hcore, congrArg WriteCore.cntl hcore, congrArg WriteCore.qid hcore, congrArg WriteCore.cmd hcore,
    congrArg WriteCore.resv hcore, congrArg WriteCore.acc hcore, ?_⟩
  have hgs : v.grains.map grainCore = (grainPlan h).map (fun p => (p.1, false, none)) := congrArg WriteCore.grains hcore
  have hnames := congrArg (List.map Prod.fst) hgs
  rw [List.map_map, List.map_map] at hnames
  exact hnames

/-- Write Zeroes and Dataset Management, admitted, are accepted at once (R16, R83). -/
theorem submit_accepts {h : Held} {s : State} (hop : isWriteOp h.cmd.opcode = true) (hne : h.cmd.opcode ≠ opWrite)
    (hresv : h.resv = none) (hfree : s.write? s.adm.nextSeq = none) (hgs : grainPlan h ≠ []) (hno : (s.admitWrite h).1 = .no) :
    ∃ v ∈ (s.submit h).adm.writes, writeCore v = admittedCore h s.adm.nextSeq (some s.time.now) := by
  rw [submit_best_effort hne hresv (attempt_admitted hop hno)]
  obtain ⟨w, hw⟩ := admitWrite_admits hno
  exact startWrite_accepts hw hfree hne hgs

theorem write?_fetched (t cntl qid : Nat) (e : Sqe) {s : State} (hfree : s.write? s.adm.nextSeq = none) :
    ((s.advanceTo t).fetched cntl qid e).write? ((s.advanceTo t).fetched cntl qid e).adm.nextSeq = none := by
  unfold State.write? at hfree ⊢
  rw [(fetched_advanceTo_frame t cntl qid e s).adm (by decide)]
  exact hfree

theorem nvmWrite_admitted (t cntl qid : Nat) (e : Sqe) (s : State) (hcan : s.canFetch cntl qid = true)
    (hfree : s.write? s.adm.nextSeq = none) :
    let c := { e with opcode := opWrite }
    let y := (s.advanceTo t).fetched cntl qid c
    let h := y.asHeld cntl qid c [] []
    s.ioRefusal cntl c = none → y.writeRefusal h = none → y.tooLarge h = false → y.streamHeld h = false → (y.admitWrite h).1 = .no →
    ∃ u w, Sys2Proof.Machine.exec (.nvmWrite t cntl qid e) s = .next u ∧ w ∈ u.adm.writes ∧ w.seq = s.adm.nextSeq ∧ w.cntl = cntl ∧
      w.qid = qid ∧ w.cmd = c ∧ w.resv = h.resv ∧ w.grains.map (·.grain) = grainsOf (slbaOf e) (nlbOf e) ∧
      u.adm.nextSeq = s.adm.nextSeq + 1 ∧ (pushOf e = false → w.acc = none) ∧
      (pushOf e = true → y.hasPi w = false → w.acc = some (s.advanceTo t).time.now) := by
  intro c y h hr hwr hlarge hheld hno
  have hfy := fetched_advanceTo_frame t cntl qid c s
  have hseq : y.adm.nextSeq = s.adm.nextSeq := congrArg (·.nextSeq) (hfy.adm (by decide))
  obtain ⟨w, hw⟩ := admitWrite_admits hno
  obtain ⟨hnext, v, hv, hcore, hpull, hpush⟩ := startWrite_write hw (write?_fetched t cntl qid c hfree) rfl
  obtain ⟨h1, h2, h3, h4, h5, -, h7⟩ := core_grains hcore
  have hnow : y.time.now = (s.advanceTo t).time.now := congrArg (·.now) (fetched_time cntl qid c (s.advanceTo t))
  have hu : (s.advanceTo t).fetchIo cntl qid c [] [] = (y.admitWrite h).2.startWrite h y.adm.nextSeq :=
    (fetchIo_submits hcan hr).trans (submit_attempts hwr hlarge hheld (attempt_admitted rfl hno))
  refine ⟨_, v, rfl, ?_, h1.trans hseq, h2, h3, h4, h5, h7.trans (grainPlan_grains (by decide : opWrite ≠ opDsm)), ?_, hpull,
    fun hp hpi => (hpush hp hpi).trans (congrArg some hnow)⟩
  · rw [hu]
    exact hv
  · rw [hu, hnext, hseq]

/-- A fetched Write Zeroes or Dataset Management that is admitted is accepted at once (R16, R83). -/
theorem fetchIo_accepts (t cntl qid : Nat) (c : Sqe) (ranges : List (Nat × Nat)) (s : State) (hcan : s.canFetch cntl qid = true)
    (hfree : s.write? s.adm.nextSeq = none) (hop : isWriteOp c.opcode = true) (hne : c.opcode ≠ opWrite) :
    let y := (s.advanceTo t).fetched cntl qid c
    let h := y.asHeld cntl qid c ranges []
    s.ioRefusal cntl c = none → grainPlan h ≠ [] → (y.admitWrite h).1 = .no →
    ∃ w ∈ ((s.advanceTo t).fetchIo cntl qid c ranges []).adm.writes, w.seq = s.adm.nextSeq ∧ w.cntl = cntl ∧
      w.qid = qid ∧ w.cmd = c ∧ w.acc = some (s.advanceTo t).time.now ∧ w.grains.map (·.grain) = (grainPlan h).map (·.1) := by
  intro y h hr hgs hno
  have hseq : y.adm.nextSeq = s.adm.nextSeq := congrArg (·.nextSeq) ((fetched_advanceTo_frame t cntl qid c s).adm (by decide))
  have hnow : y.time.now = (s.advanceTo t).time.now := congrArg (·.now) (fetched_time cntl qid c (s.advanceTo t))
  obtain ⟨v, hv, hcore⟩ :=
    submit_accepts hop hne (asHeld_resv cntl qid ranges [] y hne) (write?_fetched t cntl qid c hfree) hgs hno
  obtain ⟨h1, h2, h3, h4, -, h6, h7⟩ := core_grains hcore
  rw [fetchIo_submits hcan hr]
  exact ⟨v, hv, h1.trans hseq, h2, h3, h4, h6.trans (congrArg some hnow), h7⟩

theorem writeZeroes_admitted (t cntl qid : Nat) (e : Sqe) (s : State) (hcan : s.canFetch cntl qid = true)
    (hfree : s.write? s.adm.nextSeq = none) :
    let c := { e with opcode := opZeroes }
    let y := (s.advanceTo t).fetched cntl qid c
    s.ioRefusal cntl c = none → (y.admitWrite (y.asHeld cntl qid c [] [])).1 = .no →
    ∃ u w, Sys2Proof.Machine.exec (.writeZeroes t cntl qid e) s = .next u ∧ w ∈ u.adm.writes ∧ w.seq = s.adm.nextSeq ∧ w.cntl = cntl ∧
      w.qid = qid ∧ w.cmd = c ∧ w.acc = some (s.advanceTo t).time.now ∧ w.grains.map (·.grain) = grainsOf (slbaOf e) (nlbOf e) := by
  intro c y hr hno
  obtain ⟨w, hw, h1, h2, h3, h4, h5, h6⟩ :=
    fetchIo_accepts t cntl qid c [] s hcan hfree rfl (by decide : opZeroes ≠ opWrite) hr
      (grainPlan_ne_nil (by decide : opZeroes ≠ opDsm)) hno
  exact ⟨_, w, rfl, hw, h1, h2, h3, h4, h5, h6.trans (grainPlan_grains (by decide : opZeroes ≠ opDsm))⟩

theorem rangePast_advanceTo (t nsid : Nat) (ranges : List (Nat × Nat)) (s : State) :
    (s.advanceTo t).rangePast nsid ranges = s.rangePast nsid ranges :=
  after_advanceTo (P := fun y => y.rangePast nsid ranges = s.rangePast nsid ranges) t fun _ => rfl

theorem datasetManagement_admitted (t cntl qid : Nat) (e : Sqe) (ranges : List (Nat × Nat)) (s : State)
    (hcan : s.canFetch cntl qid = true) (hfree : s.write? s.adm.nextSeq = none) (hdeac : bit e.dw11 2 = true) :
    let c := { e with opcode := opDsm }
    let y := (s.advanceTo t).fetched cntl qid c
    let h := y.asHeld cntl qid c ranges []
    s.ioRefusal cntl c = none → s.rangePast e.nsid ranges = false → grainPlan h ≠ [] → (y.admitWrite h).1 = .no →
    ∃ u w, Sys2Proof.Machine.exec (.datasetManagement t cntl qid e ranges) s = .next u ∧ w ∈ u.adm.writes ∧ w.seq = s.adm.nextSeq ∧
      w.cntl = cntl ∧ w.qid = qid ∧ w.cmd = c ∧ w.acc = some (s.advanceTo t).time.now ∧
      w.grains.map (·.grain) = (grainPlan h).map (·.1) := by
  intro c y h hr hpast hgs hno
  obtain ⟨w, hw, hnames⟩ := fetchIo_accepts t cntl qid c ranges s hcan hfree rfl (by decide : opDsm ≠ opWrite) hr hgs hno
  have hcan' : (s.advanceTo t).canFetch cntl qid = true := after_advanceTo (P := fun y => y.canFetch cntl qid = true) t fun _ => hcan
  refine ⟨_, w, ?_, hw, hnames⟩
  show execDatasetManagement t cntl qid e ranges s = _
  unfold execDatasetManagement
  dsimp only
  rw [hcan', if_neg (by decide), rangePast_advanceTo, hpast, Bool.and_false, if_neg Bool.false_ne_true, if_pos hdeac]

/-! ### Reads and compares -/

/-- What a page read under way says it reads, and for whom. -/
def readName (x : ReadGrain) : Nat × Nat × Nat × Nat × Nat := (x.cntl, x.qid, x.cid, x.use, x.grain)

/-- What a read or a compare of a command's grains reads for: 1 for a compare. -/
def useOf (h : Held) : Nat := if h.cmd.opcode = opCompare then 1 else 0

/-- A grain's bytes stand on the flash, and the line of the map that says where is not lost. -/
def State.readable (h : Held) (g : Nat) (s : State) : Prop :=
  s.path.unknown.contains (unitKey (volOf h.cmd.nsid) (g / 4)) = false ∧ ∃ x, s.viewEnt (volOf h.cmd.nsid) g = some x ∧ x.stored = true

theorem readGrain_starts {h : Held} {g : Nat} {s : State} (hg : State.readable h g s) :
    ∃ x, s.readGrain h g = s.startRead h.cntl h.qid h.cmd.cid (useOf h) 0 (volOf h.cmd.nsid) g x := by
  obtain ⟨hknown, x, hview, hstored⟩ := hg
  refine ⟨x, ?_⟩
  unfold State.readGrain
  dsimp only
  rw [hknown, if_neg Bool.false_ne_true, hview]
  exact if_pos hstored

/-- The grains of a read are read one page each (R95). -/
theorem readGrains_start {h : Held} (gs : List Nat) {s : State} (hgs : ∀ g ∈ gs, State.readable h g s) :
    (gs.foldl (fun s g => s.readGrain h g) s).path.rcmds = s.path.rcmds ∧
      (gs.foldl (fun s g => s.readGrain h g) s).path.reads.map readName =
        s.path.reads.map readName ++ gs.map (fun g => (h.cntl, h.qid, h.cmd.cid, useOf h, g)) := by
  induction gs generalizing s with
  | nil => exact ⟨rfl, (List.append_nil _).symm⟩
  | cons g gs ih =>
    obtain ⟨x, hx⟩ := readGrain_starts (hgs g List.mem_cons_self)
    rw [List.foldl_cons, hx]
    obtain ⟨hr, hn⟩ := ih (s := s.startRead h.cntl h.qid h.cmd.cid (useOf h) 0 (volOf h.cmd.nsid) g x)
      fun g' hg' => hgs g' (List.mem_cons_of_mem _ hg')
    refine ⟨hr, hn.trans ?_⟩
    show (s.path.reads ++ [_]).map readName ++ _ = _
    rw [List.map_append, List.append_assoc]
    rfl

/-- The read command that a fetched Read or Compare becomes. -/
def newRcmd (h : Held) : ReadCmd :=
  { cntl := h.cntl, qid := h.qid, dqn := h.dqn, cmd := h.cmd, vol := volOf h.cmd.nsid, slba := slbaOf h.cmd,
    nlb := nlbOf h.cmd, hostData := if h.cmd.opcode = opCompare then some h.hostData else none,
    left := grainsOf (slbaOf h.cmd) (nlbOf h.cmd), got := [],
    tags := [], holes := [], delivered := false, pulled := h.cmd.opcode != opCompare }

/-- The command stands among the reads, with its bookings. -/
def State.rcmdAdded (h : Held) (bs : List Booking) (s : State) : State :=
  { s with
    path := { s.path with rcmds := s.path.rcmds ++ [newRcmd h] }
    adm := { s.adm with bookings := bs, beReads := s.adm.beReads + (grainsOf (slbaOf h.cmd) (nlbOf h.cmd)).length } }

/-- The data of a compare is pulled from the host (R15). -/
def State.compareAsked (h : Held) (s : State) : State :=
  if h.cmd.opcode = opCompare then
    s.remoteRead (s.ctrlSession h.cntl) h.dqn (.read h.cntl h.qid h.cmd.cid) (dkeyOf h.cmd) (dofsOf h.cmd) (4096 * nlbOf h.cmd)
  else s

theorem compareAsked_kept (h : Held) (s : State) : (State.compareAsked h s).path = s.path ∧ (State.compareAsked h s).nvq = s.nvq := by
  unfold State.compareAsked
  split
  · have hf := State.remoteRead_frame (s.ctrlSession h.cntl) h.dqn (.read h.cntl h.qid h.cmd.cid) (dkeyOf h.cmd) (dofsOf h.cmd)
      (4096 * nlbOf h.cmd) s
    exact ⟨hf.path (by decide), hf.nvq (by decide)⟩
  · exact ⟨rfl, rfl⟩

theorem startRcmd_eq (h : Held) (bs : List Booking) (s : State) : s.startRcmd h bs =
    (grainsOf (slbaOf h.cmd) (nlbOf h.cmd)).foldl (fun s g => s.readGrain h g) (State.compareAsked h (State.rcmdAdded h bs s)) := rfl

theorem viewEnt_eq {s u : State} (vol g : Nat) (hns : u.nvq.ns = s.nvq.ns) (hmap : u.path.map = s.path.map) :
    u.viewEnt vol g = s.viewEnt vol g := by
  unfold State.viewEnt State.mapEnt State.ns?
  rw [hns, hmap]

theorem State.readable.of_eq {h : Held} {g : Nat} {s u : State} (hr : State.readable h g s) (hns : u.nvq.ns = s.nvq.ns)
    (hmap : u.path.map = s.path.map) (hun : u.path.unknown = s.path.unknown) : State.readable h g u := by
  unfold State.readable
  rw [hun, viewEnt_eq _ _ hns hmap]
  exact hr

/-- A read or a compare that is admitted stands among the reads, and a page read is under way for each of its grains (R95). -/
theorem startRcmd_starts {h : Held} (bs : List Booking) {s : State}
    (hgs : ∀ g ∈ grainsOf (slbaOf h.cmd) (nlbOf h.cmd), State.readable h g s) :
    (s.startRcmd h bs).path.rcmds = s.path.rcmds ++ [newRcmd h] ∧
      (s.startRcmd h bs).path.reads.map readName =
        s.path.reads.map readName ++ (grainsOf (slbaOf h.cmd) (nlbOf h.cmd)).map (fun g => (h.cntl, h.qid, h.cmd.cid, useOf h, g)) := by
  obtain ⟨hpath, hnvq⟩ := compareAsked_kept h (State.rcmdAdded h bs s)
  have hstand : ∀ g ∈ grainsOf (slbaOf h.cmd) (nlbOf h.cmd), State.readable h g (State.compareAsked h (State.rcmdAdded h bs s)) :=
    fun g hg => (hgs g hg).of_eq (congrArg (·.ns) hnvq) (congrArg (·.map) hpath) (congrArg (·.unknown) hpath)
  obtain ⟨hr, hn⟩ := readGrains_start _ hstand
  rw [hpath] at hr hn
  rw [startRcmd_eq]
  exact ⟨hr, hn⟩

/-- What an attempt does with a read or a compare that is admitted (R68, R95). -/
theorem attempt_reads {h : Held} {bs : List Booking} {s : State} (hop : isWriteOp h.cmd.opcode = false)
    (hstop : s.beRefill.readsStopped h = false)
    (hbook : s.beRefill.bookReads (volOf h.cmd.nsid) (grainsOf (slbaOf h.cmd) (nlbOf h.cmd)) = some bs) :
    s.attempt h = (.no, s.beRefill.startRcmd h bs) := by
  unfold State.attempt
  rw [hop, if_neg Bool.false_ne_true]
  dsimp only
  rw [hstop, if_neg Bool.false_ne_true, hbook]

theorem asHeld_beRefill (cntl qid : Nat) {c : Sqe} (ranges : List (Nat × Nat)) (data : List Byte) (s : State) (hne : c.opcode ≠ opWrite) :
    s.asHeld cntl qid c ranges data = s.beRefill.asHeld cntl qid c ranges data := by
  have hf := State.beRefill_frame s
  unfold State.asHeld State.queueKey
  dsimp only
  rw [if_neg hne, if_neg hne, hf.nvq (by decide), hf.time (by decide)]

/-- A Read or a Compare that is fetched and admitted starts its reads (R55, R95). -/
theorem fetchIo_reads (t cntl qid : Nat) (c : Sqe) (data : List Byte) (bs : List Booking) (s : State) (hcan : s.canFetch cntl qid = true)
    (hop : isWriteOp c.opcode = false) :
    let y := ((s.advanceTo t).fetched cntl qid c).beRefill
    let h := y.asHeld cntl qid c [] data
    s.ioRefusal cntl c = none → y.readsStopped h = false → y.bookReads (volOf c.nsid) (grainsOf (slbaOf c) (nlbOf c)) = some bs →
    (∀ g ∈ grainsOf (slbaOf c) (nlbOf c), State.readable h g s) →
    ((s.advanceTo t).fetchIo cntl qid c [] data).path.rcmds = s.path.rcmds ++ [newRcmd h] ∧
      ((s.advanceTo t).fetchIo cntl qid c [] data).path.reads.map readName =
        s.path.reads.map readName ++ (grainsOf (slbaOf c) (nlbOf c)).map (fun g => (cntl, qid, c.cid, useOf h, g)) := by
  intro y h hr hstop hbook hgs
  have hne : c.opcode ≠ opWrite := by
    intro e
    rw [e] at hop
    exact absurd hop (by decide)
  have hheld := asHeld_beRefill cntl qid [] data ((s.advanceTo t).fetched cntl qid c) hne
  have hf := fetched_advanceTo_frame t cntl qid c s
  have hb := State.beRefill_frame ((s.advanceTo t).fetched cntl qid c)
  have hpath : y.path = s.path := (hb.path (by decide)).trans (hf.path (by decide))
  have hns : y.nvq.ns = s.nvq.ns := (hb.ns (by decide)).trans (hf.ns (by decide))
  obtain ⟨hrc, hrd⟩ := startRcmd_starts (h := h) bs (s := y) fun g hg =>
    (hgs g hg).of_eq hns (congrArg (·.map) hpath) (congrArg (·.unknown) hpath)
  rw [fetchIo_submits hcan hr, hheld, submit_best_effort (h := h) hne (asHeld_resv cntl qid [] data y hne) (attempt_reads (h := h) hop hstop hbook)]
  rw [hpath] at hrc hrd
  exact ⟨hrc, hrd⟩

theorem nvmRead_admitted (t cntl qid : Nat) (e : Sqe) (bs : List Booking) (s : State) (hcan : s.canFetch cntl qid = true) :
    let c := { e with opcode := opRead }
    let y := ((s.advanceTo t).fetched cntl qid c).beRefill
    s.ioRefusal cntl c = none → y.readsStopped (y.asHeld cntl qid c [] []) = false →
    y.bookReads (volOf e.nsid) (grainsOf (slbaOf e) (nlbOf e)) = some bs →
    (∀ g ∈ grainsOf (slbaOf e) (nlbOf e), s.path.unknown.contains (unitKey (volOf e.nsid) (g / 4)) = false ∧
      ∃ x, s.viewEnt (volOf e.nsid) g = some x ∧ x.stored = true) →
    ∃ u r, Sys2Proof.Machine.exec (.nvmRead t cntl qid e) s = .next u ∧ u.path.rcmds = s.path.rcmds ++ [r] ∧ r.cntl = cntl ∧
      r.qid = qid ∧ r.cmd = c ∧ r.left = grainsOf (slbaOf e) (nlbOf e) ∧ r.hostData = none ∧
      u.path.reads.map (fun x => (x.cntl, x.qid, x.cid, x.use, x.grain)) =
        s.path.reads.map (fun x => (x.cntl, x.qid, x.cid, x.use, x.grain)) ++
          (grainsOf (slbaOf e) (nlbOf e)).map (fun g => (cntl, qid, e.cid, 0, g)) := by
  intro c y hr hstop hbook hgs
  obtain ⟨hrcmds, hreads⟩ := fetchIo_reads t cntl qid c [] bs s hcan rfl hr hstop hbook hgs
  exact ⟨_, _, rfl, hrcmds, rfl, rfl, rfl, rfl, rfl, hreads⟩

theorem compare_admitted (t cntl qid : Nat) (e : Sqe) (bs : List Booking) (hostData : List Byte) (s : State)
    (hcan : s.canFetch cntl qid = true) :
    let c := { e with opcode := opCompare }
    let y := ((s.advanceTo t).fetched cntl qid c).beRefill
    s.ioRefusal cntl c = none → y.readsStopped (y.asHeld cntl qid c [] hostData) = false →
    y.bookReads (volOf e.nsid) (grainsOf (slbaOf e) (nlbOf e)) = some bs →
    (∀ g ∈ grainsOf (slbaOf e) (nlbOf e), s.path.unknown.contains (unitKey (volOf e.nsid) (g / 4)) = false ∧
      ∃ x, s.viewEnt (volOf e.nsid) g = some x ∧ x.stored = true) →
    ∃ u r, Sys2Proof.Machine.exec (.compare t cntl qid e hostData) s = .next u ∧ u.path.rcmds = s.path.rcmds ++ [r] ∧ r.cntl = cntl ∧
      r.qid = qid ∧ r.cmd = c ∧ r.left = grainsOf (slbaOf e) (nlbOf e) ∧ r.hostData = some hostData ∧
      u.path.reads.map (fun x => (x.cntl, x.qid, x.cid, x.use, x.grain)) =
        s.path.reads.map (fun x => (x.cntl, x.qid, x.cid, x.use, x.grain)) ++
          (grainsOf (slbaOf e) (nlbOf e)).map (fun g => (cntl, qid, e.cid, 1, g)) := by
  intro c y hr hstop hbook hgs
  obtain ⟨hrcmds, hreads⟩ := fetchIo_reads t cntl qid c hostData bs s hcan rfl hr hstop hbook hgs
  exact ⟨_, _, rfl, hrcmds, rfl, rfl, rfl, rfl, rfl, hreads⟩

end Sys2Proof.Proofs
end

section
/-!
SUPPORT. Doorbells, Flush and unknown opcodes (R198, R199, R207, R209), and the obligation on the host's commands.
-/

namespace Sys2Proof.Proofs

open Sys2Proof.Machine Sys2Proof.Safety Sys2Proof.Laws

/-! ### Flush -/

/-- With nothing but admin commands before it, a Flush is ready (R209). -/
theorem readyFlushes_last {x : Nat × Sqe × Nat} (hx : x.1 ≠ 0) (hop : x.2.1.opcode = 0) (l : List (Nat × Sqe × Nat)) :
    ∀ before : List (Nat × Sqe × Nat), (∀ y ∈ before, y.1 = 0) → (∀ y ∈ l, y.1 = 0) → readyFlushes before (l ++ [x]) = [x] := by
  induction l with
  | nil =>
    intro before hb _
    have hfree : before.any (fun y =>
        y.1 != 0 && isWriteOp y.2.1.opcode && (x.2.1.nsid == 0xFFFFFFFF || x.2.1.nsid == y.2.1.nsid)) = false := by
      refine List.any_eq_false.2 fun y hy => ?_
      rw [hb y hy]
      exact Bool.false_ne_true
    show (if _ then x :: readyFlushes _ [] else readyFlushes _ []) = [x]
    rw [hfree, hop, bne_iff_ne.2 hx]
    rfl
  | cons y l ih =>
    intro before hb hl
    have hy : y.1 = 0 := hl y List.mem_cons_self
    have hrest := ih (before ++ [y]) (fun z hz => (List.mem_append.1 hz).elim (hb z) fun h => List.mem_singleton.1 h ▸ hy)
      fun z hz => hl z (List.mem_cons_of_mem _ hz)
    show (if _ then y :: readyFlushes _ (l ++ [x]) else readyFlushes _ (l ++ [x])) = [x]
    rw [hy]
    exact (if_neg Bool.false_ne_true).trans hrest

theorem fetched_ctrl {cntl qid : Nat} {e : Sqe} {c : Ctrl} {s : State} (hc : NMap.find s.nvq.ctrls cntl = some c) :
    NMap.find (s.fetched cntl qid e).nvq.ctrls cntl = some { c with outstanding := c.outstanding ++ [(qid, e, s.time.now)] } := by
  unfold State.fetched
  dsimp only
  rw [(State.count_frame _ _).nvq (by decide)]
  show NMap.find (NMap.upd s.nvq.ctrls cntl _) cntl = _
  rw [find_upd, if_pos rfl, hc]
  rfl

/-- A Flush that is ready succeeds as what its queue's commands let happen is done (R209). -/
theorem settle_flushes {cntl qid : Nat} {x : Nat × Sqe × Nat} {c : Ctrl} {s : State} (hroom : Room cntl qid s)
    (hc : NMap.find s.nvq.ctrls cntl = some c) (hready : readyFlushes [] c.outstanding = [x]) (hqid : x.1 = qid) :
    Answers cntl qid x.2.1.cid 0 0 0 s (s.settle cntl) := by
  obtain ⟨head, phase, new, hout, hmem⟩ := finish_sends (cid := x.2.1.cid) (sct := 0) (sc := 0) (dw0 := 0) (dw1 := 0) hroom
  have hfin : Answers cntl qid x.2.1.cid 0 0 0 s (s.finish cntl qid x.2.1.cid 0 0 0 0) := ⟨new, 0, head, phase, hout, hmem⟩
  subst hqid
  unfold State.settle
  rw [hc]
  dsimp only
  rw [hready, List.foldl_cons, List.foldl_nil]
  exact answers_after hfin (foldl_frame (f := fun s p => State.settleDelete cntl p s) (fun y p => State.settleDelete_frame cntl p y) _ _)

theorem flush_succeeds (t cntl qid : Nat) (e : Sqe) (c : Ctrl) (s : State) (hr : Ready cntl qid s) (hfuse : e.fuse = 0) (hqid : qid ≠ 0)
    (hns : e.nsid = 0xFFFFFFFF ∨ (s.nsFor cntl e.nsid).isSome = true) (hc : NMap.find s.nvq.ctrls cntl = some c)
    (hadmin : ∀ x ∈ c.outstanding, x.1 = 0) :
    ∃ u, Sys2Proof.Machine.exec (.flush t cntl qid e) s = .next u ∧ Answers cntl qid e.cid 0 0 0 s u := by
  have hcan : (s.advanceTo t).canFetch cntl qid = true := after_advanceTo (P := fun y => y.canFetch cntl qid = true) t fun _ => hr.1
  have hroom : Room cntl qid ((s.advanceTo t).fetched cntl qid { e with opcode := 0 }) := (ready_room (ready_advanceTo (t := t) hr)).fetched
  have hf := fetched_advanceTo_frame t cntl qid { e with opcode := 0 } s
  have hctrl := fetched_ctrl (qid := qid) (e := { e with opcode := 0 }) (s := s.advanceTo t)
    (after_advanceTo (P := fun y => NMap.find y.nvq.ctrls cntl = some c) t fun _ => hc)
  refine ⟨((s.advanceTo t).fetched cntl qid { e with opcode := 0 }).settle cntl, ?_, ?_⟩
  · show execFlush t cntl qid e s = _
    unfold execFlush
    dsimp only
    rw [hcan, if_neg (by decide), if_neg (not_not_intro hfuse), if_neg]
    rintro ⟨hall, hnone⟩
    have hsome : (((s.advanceTo t).fetched cntl qid { e with opcode := 0 }).nsFor cntl e.nsid).isSome = true := by
      unfold State.nsFor State.ns?
      rw [hf.ns (by decide)]
      exact hns.resolve_left hall
    rw [Option.isNone_iff_eq_none.1 hnone] at hsome
    exact Bool.false_ne_true hsome
  · have ha := settle_flushes hroom hctrl
      (readyFlushes_last (x := (qid, { e with opcode := 0 }, (s.advanceTo t).time.now)) hqid rfl c.outstanding []
        (fun y hy => absurd hy List.not_mem_nil) hadmin) rfl
    exact answers_of_outbox ha (hf.outbox (by decide))

theorem invalidOpcode_answered (t cntl qid : Nat) (e : Sqe) (s : State) (hr : Ready cntl qid s)
    (hmode : s.md.mode ≠ .preservation ∨ qid ≠ 0) :
    ∃ u, Sys2Proof.Machine.exec (.invalidOpcode t cntl qid e) s = .next u ∧ Answers cntl qid e.cid 0 1 0 s u := by
  have hcan : (s.advanceTo t).canFetch cntl qid = true := after_advanceTo (P := fun y => y.canFetch cntl qid = true) t fun _ => hr.1
  have hadv : (qid = 0 && (s.advanceTo t).md.mode == .preservation) = false := by
    rw [advanceTo_md, Bool.and_eq_false_iff, decide_eq_false_iff_not]
    exact hmode.symm.imp id beq_eq_false_iff_ne.2
  refine ⟨((s.advanceTo t).fetched cntl qid e).complete cntl qid e.cid 0 0x01 0 0, ?_, ?_⟩
  · show execInvalidOpcode t cntl qid e s = _
    unfold execInvalidOpcode
    dsimp only
    rw [hcan, if_neg (by decide), hadv, if_neg Bool.false_ne_true]
  · have ha := complete_answers (cid := e.cid) (sct := 0) (sc := 1) (dw0 := 0) (dw1 := 0)
      ((ready_room (ready_advanceTo (t := t) hr)).fetched (e := e) (cntl := cntl) (qid := qid))
    exact answers_of_outbox ha ((fetched_advanceTo_frame t cntl qid e s).outbox (by decide))

/-! ### Doorbells -/

/-- A doorbell write of the controller that the session belongs to, on one of its queues, reaches the queue (R197, R198). -/
theorem doorbell_reaches {session offset cntl : Nat} {v : Word} {c : Cq} {s : State} (hon : s.ctrlOn session = some cntl)
    (hmode : s.md.mode.frontEnd = true) (hopen : s.moor.fenced = false) (hkey : offset / 8 < 20480)
    (hc : NMap.find s.nvq.cqs (offset / 8) = some c) (hown : c.cntl = cntl) (halign : offset % 4 = 0) :
    s.doorbell session offset v =
      if offset % 8 = 0 then s.sqDoorbell cntl (offset / 8) (bits v 31 16) (bits v 15 0)
      else s.cqDoorbell cntl (offset / 8) (bits v 31 16) (bits v 15 0) := by
  have hnot : ¬ (offset % 4 ≠ 0 ∨ 20480 ≤ offset / 8) := fun h => h.elim (fun e => e halign) (by omega)
  unfold State.doorbell
  rw [hon]
  refine if_neg ?_
  rw [hmode, hopen, hc, decide_eq_false hnot]
  dsimp only
  rw [beq_iff_eq.2 hown]
  decide

/-- New entries are asked for in batches (R199). -/
theorem fetchFrom_sends {key n : Nat} {q : Sq} {c : Cq} {s : State} (hopen : s.moor.fenced = false) (hmode : s.md.mode.frontEnd = true)
    (hq : NMap.find s.nvq.sqs key = some q) (hc : NMap.find s.nvq.cqs key = some c) (hn : n ≠ 0) (hdel : q.deleting = none)
    (hheld : c.held = []) :
    ∀ k ∈ fetchBatches (2 ^ s.regField Reg.NVQ_CTRL 19 16) n, Sends (.fetch q.cntl q.qid k) s (s.fetchFrom key n) := by
  intro k hk
  have he : s.fetchFrom key n = (fetchBatches (2 ^ s.regField Reg.NVQ_CTRL 19 16) n).foldl
      (fun (s : State) (k : Nat) => s.emit (.fetch q.cntl q.qid k)) s := by
    unfold State.fetchFrom
    rw [hq, hc]
    dsimp only
    rw [decide_eq_false hn, hdel, hheld, hmode, if_neg (by decide)]
  rw [he]
  refine ⟨_, emits_sends (fun k => Out.fetch q.cntl q.qid k) _ s hopen, ?_⟩
  exact List.mem_reverse.2 (List.mem_map_of_mem hk)

/-- A submission queue as a later doorbell leaves it. -/
def rungSq (q : Sq) (epoch tail : Nat) : Sq := { q with epoch := epoch, tail := tail }

/-- A state in which a submission queue's doorbell has been taken. -/
def State.sqRung (key epoch tail : Nat) (s : State) : State :=
  (s.updSq key (fun q => { q with epoch := epoch })).updSq key (fun q => { q with tail := tail })

theorem sqRung_find {key epoch tail : Nat} {q : Sq} {s : State} (hq : NMap.find s.nvq.sqs key = some q) :
    NMap.find (State.sqRung key epoch tail s).nvq.sqs key = some (rungSq q epoch tail) := by
  show NMap.find (NMap.upd (NMap.upd s.nvq.sqs key _) key _) key = _
  rw [find_upd, if_pos rfl, find_upd, if_pos rfl, hq]
  rfl

/-- A valid submission doorbell moves the tail (R198) and asks for the new entries (R199). -/
theorem sqDoorbell_rings {cntl key epoch tail : Nat} {q : Sq} {s : State} (hq : NMap.find s.nvq.sqs key = some q)
    (hlater : epochLater epoch q.epoch = true) (hsize : tail < q.size) :
    s.sqDoorbell cntl key epoch tail = (State.sqRung key epoch tail s).fetchFrom key ((tail + q.size - q.tail) % q.size) := by
  unfold State.sqDoorbell
  rw [hq]
  dsimp only
  rw [hlater, if_neg (by decide), if_neg (by omega)]
  rfl

theorem sqDoorbell_moves {cntl key epoch tail : Nat} {q : Sq} {c : Cq} {s : State} (hopen : s.moor.fenced = false)
    (hmode : s.md.mode.frontEnd = true) (hq : NMap.find s.nvq.sqs key = some q) (hc : NMap.find s.nvq.cqs key = some c)
    (hlater : epochLater epoch q.epoch = true) (hsize : tail < q.size) :
    NMap.find (s.sqDoorbell cntl key epoch tail).nvq.sqs key = some (rungSq q epoch tail) ∧
      ((tail + q.size - q.tail) % q.size ≠ 0 → q.deleting = none → c.held = [] →
        ∀ k ∈ fetchBatches (2 ^ s.regField Reg.NVQ_CTRL 19 16) ((tail + q.size - q.tail) % q.size),
          Sends (.fetch q.cntl q.qid k) s (s.sqDoorbell cntl key epoch tail)) := by
  have hrung := sqRung_find (epoch := epoch) (tail := tail) hq
  rw [sqDoorbell_rings hq hlater hsize]
  constructor
  · rw [(State.fetchFrom_frame _ _ _).nvq (by decide)]
    exact hrung
  · intro hn hdel hheld
    exact fetchFrom_sends (q := rungSq q epoch tail) (s := State.sqRung key epoch tail s) hopen hmode hrung hc hn hdel hheld

/-- A completion queue as a later doorbell leaves it. -/
def rungCq (c : Cq) (epoch head : Nat) : Cq := { c with epoch := epoch, head := head }

/-- A valid completion doorbell moves the head, no further than the last completion posted (R198). -/
theorem cqDoorbell_moves {cntl key epoch head : Nat} {c : Cq} {s : State} (hc : NMap.find s.nvq.cqs key = some c)
    (hlater : epochLater epoch c.epoch = true) (hsize : head < c.size) (hheld : c.held = [])
    (hposted : (head + c.size - c.head) % c.size ≤ (c.tail + c.size - c.head) % c.size) :
    NMap.find (s.cqDoorbell cntl key epoch head).nvq.cqs key = some (rungCq c epoch head) := by
  unfold State.cqDoorbell
  rw [hc]
  dsimp only
  rw [hlater, if_neg (by decide), decide_eq_false (by omega : ¬ c.size ≤ head), decide_eq_false (Nat.not_lt.2 hposted), if_neg (by decide), hheld]
  have hfind : NMap.find (NMap.upd (NMap.upd s.nvq.cqs key (fun q => { q with epoch := epoch })) key (fun q => { q with head := head })) key =
      some (rungCq c epoch head) := by
    rw [find_upd, if_pos rfl, find_upd, if_pos rfl, hc]
    rfl
  split
  · exact hfind
  · exact hfind

theorem doorbellWrite_rings (t session offset cntl : Nat) (v : Word) (c : Cq) (s : State) (hon : s.ctrlOn session = some cntl)
    (hmode : s.md.mode.frontEnd = true) (hopen : s.moor.fenced = false) (hkey : offset / 8 < 20480)
    (hc : NMap.find s.nvq.cqs (offset / 8) = some c) (hown : c.cntl = cntl) :
    (∀ q : Sq, offset % 8 = 0 → NMap.find s.nvq.sqs (offset / 8) = some q → epochLater (bits v 31 16) q.epoch = true →
      bits v 15 0 < q.size →
      ∃ u, Sys2Proof.Machine.exec (.doorbellWrite t session offset v) s = .next u ∧
        NMap.find u.nvq.sqs (offset / 8) = some { q with epoch := bits v 31 16, tail := bits v 15 0 } ∧
        ((bits v 15 0 + q.size - q.tail) % q.size ≠ 0 → q.deleting = none → c.held = [] →
          ∀ k ∈ fetchBatches (2 ^ s.regField Reg.NVQ_CTRL 19 16) ((bits v 15 0 + q.size - q.tail) % q.size),
            Sends (.fetch q.cntl q.qid k) s u)) ∧
    (offset % 8 = 4 → epochLater (bits v 31 16) c.epoch = true → bits v 15 0 < c.size → c.held = [] →
      (bits v 15 0 + c.size - c.head) % c.size ≤ (c.tail + c.size - c.head) % c.size →
      ∃ u, Sys2Proof.Machine.exec (.doorbellWrite t session offset v) s = .next u ∧
        NMap.find u.nvq.cqs (offset / 8) = some { c with epoch := bits v 31 16, head := bits v 15 0 }) := by
  have hreach : offset % 4 = 0 → ((s.advanceTo t).doorbell session offset v) = _ := fun halign =>
    doorbell_reaches (s := s.advanceTo t) (v := v)
      (after_advanceTo (P := fun y => y.ctrlOn session = some cntl) t fun _ => hon) (by rw [advanceTo_md]; exact hmode)
      (by rw [advanceTo_moor]; exact hopen) hkey (by rw [advanceTo_nvq]; exact hc) hown halign
  constructor
  · intro q h8 hq hlater hsize
    have hmoves := after_advanceTo (s := s) t (P := fun y =>
      NMap.find (y.sqDoorbell cntl (offset / 8) (bits v 31 16) (bits v 15 0)).nvq.sqs (offset / 8) =
          some (rungSq q (bits v 31 16) (bits v 15 0)) ∧
        ((bits v 15 0 + q.size - q.tail) % q.size ≠ 0 → q.deleting = none → c.held = [] →
          ∀ k ∈ fetchBatches (2 ^ s.regField Reg.NVQ_CTRL 19 16) ((bits v 15 0 + q.size - q.tail) % q.size),
            Sends (.fetch q.cntl q.qid k) s (y.sqDoorbell cntl (offset / 8) (bits v 31 16) (bits v 15 0))))
      fun time => sqDoorbell_moves (s := { s with time := time }) hopen hmode hq hc hlater hsize
    refine ⟨_, ?_, hmoves⟩
    exact congrArg Host.Outcome.next ((hreach (by omega)).trans (if_pos h8))
  · intro h8 hlater hsize hheld hposted
    refine ⟨_, ?_, cqDoorbell_moves (cntl := cntl) (s := s.advanceTo t) (by rw [advanceTo_nvq]; exact hc) hlater hsize hheld hposted⟩
    exact congrArg Host.Outcome.next ((hreach (by omega)).trans (if_neg (by omega)))

/-- Settles O57. -/
theorem hostCommandsRun : Obligations.HostCommandsRun := by
  unfold Obligations.HostCommandsRun
  refine ⟨?_, nvmWrite_admitted, writeZeroes_admitted, datasetManagement_admitted, nvmRead_admitted, compare_admitted, ?_, ?_⟩
  · intro t session offset cntl v c s hon hmode hopen hkey hc hown
    exact doorbellWrite_rings t session offset cntl v c s hon hmode hopen hkey hc hown
  · intro t cntl qid e c s hr hfuse hqid hns hc hadmin
    exact flush_succeeds t cntl qid e c s hr hfuse hqid hns hc hadmin
  · intro t cntl qid e s hr hmode
    exact invalidOpcode_answered t cntl qid e s hr hmode

end Sys2Proof.Proofs
end

section
/-!
SUPPORT. The commands of the write path on one write or one grain of it: acceptance (R16), the inline lookup and its budget (R18, R123), the
lanes' outcomes (R101) and the cipher pass (R323).
-/

namespace Sys2Proof.Proofs

open Sys2Proof.Machine Sys2Proof.Safety Sys2Proof.Laws

/-! ### Writes and their grains -/

theorem write_of_adm {s u : State} (h : u.adm = s.adm) (seq : Nat) : u.write? seq = s.write? seq := by
  unfold State.write?
  rw [h]

theorem write_advanceTo (t seq : Nat) (s : State) : (s.advanceTo t).write? seq = s.write? seq := write_of_adm (advanceTo_adm t s) seq

theorem seq_of_write {seq : Nat} {w : WriteOp} {s : State} (h : s.write? seq = some w) : w.seq = seq :=
  beq_iff_eq.1 (List.find?_some (p := fun w : WriteOp => w.seq == seq) h)

theorem grain_of_write {g : Nat} {w : WriteOp} {x : GrainOp} (h : w.grain? g = some x) : x.grain = g :=
  beq_iff_eq.1 (List.find?_some (p := fun x : GrainOp => x.grain == g) h)

theorem grain_updGrain {g : Nat} {f : GrainOp → GrainOp} (hf : ∀ x, (f x).grain = x.grain) (w : WriteOp) :
    (w.updGrain g f).grain? g = (w.grain? g).map f :=
  find_map_if (p := fun x : GrainOp => x.grain == g) (fun _ => beq_iff_eq) (fun x h => (hf x).trans h) w.grains

/-- A grain that is changed in its write is the one found there afterwards. -/
theorem grain_updWrite {seq g : Nat} {f : GrainOp → GrainOp} {w : WriteOp} {x : GrainOp} {s : State} (hf : ∀ x, (f x).grain = x.grain)
    (hw : s.write? seq = some w) (hx : w.grain? g = some x) :
    ((s.updWrite seq (fun w => w.updGrain g f)).write? seq).bind (·.grain? g) = some (f x) := by
  rw [write_updWrite (f := fun w => w.updGrain g f) (fun _ => rfl) hw, Option.bind_some, grain_updGrain hf, hx]
  rfl

/-! ### Acceptance -/

/-- A write's place and parity slots, as a later booking has them (R71). -/
def bookedAgain (at_ : Nat) (parity : List Nat) (w : WriteOp) : WriteOp := { w with bookedAt := at_, parity := parity }

/-- A late pull books the rest of its write again, or leaves the writes as they are (R71). -/
theorem pullOverrun_writes (w : WriteOp) (s : State) : (s.pullOverrun w).adm.writes = s.adm.writes ∨
    ∃ at_ parity, (s.pullOverrun w).adm.writes = s.adm.writes.map (fun v => if v.seq = w.seq then bookedAgain at_ parity v else v) := by
  have hbase : ∀ i : Nat, ∀ n : List Nat, (((s.record 0x2103 n).count (ctrResv i 6))).adm.writes = s.adm.writes := fun i n => by
    rw [(State.count_frame _ _).writes (by decide), (State.record_frame _ _ _).writes (by decide)]
  unfold State.pullOverrun
  dsimp only
  split
  · exact .inl rfl
  · next i _ =>
    split
    · exact .inl rfl
    · split
      · next k _ =>
        refine .inr ⟨k.at_, k.parity, ?_⟩
        rw [(State.wakeDue_frame _).writes (by decide), (State.suspendErases_frame _ _).writes (by decide)]
        exact congrArg (List.map _) (hbase i _)
      · split
        · next k _ =>
          exact .inr ⟨k.at_, k.parity, congrArg (List.map _) (hbase i _)⟩
        · exact .inl (hbase i _)

theorem pullOverrun_write {seq : Nat} {w : WriteOp} {s : State} (hw : s.write? seq = some w) :
    ∃ v, (s.pullOverrun w).write? seq = some v ∧ writeCore v = writeCore w ∧ v.pushed = w.pushed := by
  have hseq := seq_of_write hw
  obtain h | ⟨at_, parity, h⟩ := pullOverrun_writes w s
  · refine ⟨w, ?_, rfl, rfl⟩
    unfold State.write?
    rw [h]
    exact hw
  · refine ⟨bookedAgain at_ parity w, ?_, rfl, rfl⟩
    unfold State.write?
    rw [h, find_map_if (P := fun v : WriteOp => v.seq = w.seq) (f := bookedAgain at_ parity) (fun v => by rw [beq_iff_eq, hseq]) (fun _ e => e)]
    exact congrArg (Option.map _) hw

/-- Data that has come whole, with metadata whose checks pass, accepts its write (R16, R81). -/
theorem dataArrived_accepts {data pi : List Byte} {w : WriteOp} {s : State} (hacc : w.acc = none) (hpull : w.pushed = false) (hlen : data.length = 4096 * w.nlb) (hpi : s.hasPi w = true → pi.length = 16 * w.nlb ∧ piFailure w data pi = 0) :
    s.dataArrived w data pi = (s.pullOverrun w).accept w.seq data pi := by
  have hwhole : ¬ (data.length ≠ 4096 * w.nlb ∨ (s.hasPi w = true ∧ pi.length ≠ 16 * w.nlb)) := by
    rintro (h | ⟨h, hn⟩)
    · exact h hlen
    · exact hn (hpi h).1
  have hgood : ¬ (if s.hasPi w = true then piFailure w data pi else 0) ≠ 0 := by
    split
    · next h => exact fun hn => hn (hpi h).2
    · exact fun hn => hn rfl
  unfold State.dataArrived
  dsimp only
  rw [hpull, hacc, Bool.false_and, if_neg Bool.false_ne_true, if_neg hwhole, if_neg (by decide), if_neg hgood]

theorem acceptance_accepts (t seq : Nat) (data pi : List Byte) (w : WriteOp) (s : State) (hw : s.write? seq = some w)
    (hkind : w.kind = opWrite) (hacc : w.acc = none) (hpull : w.pushed = false) (hmode : s.md.mode.frontEnd = true)
    (hlen : data.length = 4096 * w.nlb) (hpi : s.hasPi w = true → pi.length = 16 * w.nlb ∧ piFailure w data pi = 0) :
    ∃ u v, Sys2Proof.Machine.exec (.acceptance t seq data pi) s = .next u ∧ v ∈ u.adm.writes ∧ v.seq = seq ∧ v.cntl = w.cntl ∧
      v.cmd = w.cmd ∧ v.acc = some (s.advanceTo t).time.now ∧ v.grains.map (·.grain) = w.grains.map (·.grain) := by
  have hw1 := (write_advanceTo t seq s).trans hw
  have hseq := seq_of_write hw
  have hpi1 : (s.advanceTo t).hasPi w = true → pi.length = 16 * w.nlb ∧ piFailure w data pi = 0 :=
    after_advanceTo (P := fun y => y.hasPi w = true → pi.length = 16 * w.nlb ∧ piFailure w data pi = 0) t fun _ => hpi
  obtain ⟨x, hx, hcore, hpx⟩ := pullOverrun_write hw1
  obtain ⟨hcores, -⟩ := accept_cores (data := data) (pi := pi) hx
  have hnow : ((s.advanceTo t).pullOverrun w).time.now = (s.advanceTo t).time.now :=
    congrArg (·.now) ((State.pullOverrun_frame w (s.advanceTo t)).time (by decide))
  have hmem : acceptedCore seq ((s.advanceTo t).pullOverrun w).time.now x ∈
      (((s.advanceTo t).pullOverrun w).accept seq data pi).adm.writes.map writeCore :=
    hcores ▸ List.mem_map_of_mem (List.mem_of_find?_eq_some hx)
  obtain ⟨v, hv, hvc⟩ := List.mem_map.1 hmem
  have hvcore : writeCore v = { writeCore w with acc := some (s.advanceTo t).time.now } := by
    rw [hvc]
    unfold acceptedCore
    rw [if_pos (seq_of_write hx), hcore, hpx, hpull, if_neg Bool.false_ne_true, hnow]
  have hgrains : v.grains.map (·.grain) = w.grains.map (·.grain) := by
    have hgs : v.grains.map grainCore = w.grains.map grainCore := congrArg WriteCore.grains hvcore
    have hnames := congrArg (List.map Prod.fst) hgs
    rw [List.map_map, List.map_map] at hnames
    exact hnames
  refine ⟨((s.advanceTo t).pullOverrun w).accept seq data pi, v, ?_, hv, (congrArg WriteCore.seq hvcore).trans hseq,
    congrArg WriteCore.cntl hvcore, congrArg WriteCore.cmd hvcore, congrArg WriteCore.acc hvcore, hgrains⟩
  show execAcceptance t seq data pi s = _
  unfold execAcceptance
  dsimp only
  rw [hw1]
  dsimp only
  refine congrArg Host.Outcome.next ((if_neg ?_).trans ((dataArrived_accepts hacc hpull hlen hpi1).trans (by rw [hseq])))
  unfold WriteOp.wantsData
  rw [hkind, hacc, advanceTo_md, hmode]
  exact Bool.false_ne_true

/-! ### The inline lookup -/

theorem grain_resolveDedup {seq g : Nat} {d : Dedup} {w : WriteOp} {x : GrainOp} {s u : State} (hadm : u.adm = s.adm)
    (hw : s.write? seq = some w) (hx : w.grain? g = some x) (hd : x.dedup = .waiting) :
    ((u.resolveDedup seq g d).write? seq).bind (·.grain? g) = some { x with dedup := d } := by
  unfold State.resolveDedup
  rw [grain_updWrite (fun x => ?_) ((write_of_adm hadm seq).trans hw) hx, if_pos (beq_iff_eq.2 hd)]
  split <;> rfl

theorem islandCounted_adm (k : IslandKind) (n c : Nat) (s : State) : ((s.useIsland k n).count c).adm = s.adm := by
  rw [(State.count_frame _ _).adm (by decide), (State.useIsland_frame _ _ _).adm (by decide)]

/-- A grain of an accepted write whose lookup waits for its cluster's answer (R123). -/
structure Looking (seq grain cluster a : Nat) (w : WriteOp) (x : GrainOp) (n : Ns) (s : State) : Prop where
  write : s.write? seq = some w
  found : w.grain? grain = some x
  accepted : w.acc = some a
  waiting : x.dedup = .waiting
  served : s.ns? w.vol = some n
  formed : x.formed = true
  merged : x.merging = false
  intime : s.time.now < a + 40000
  runs : s.dedupRuns = true
  healthy : s.clusterOk cluster = true

/-- What an answer on which the cluster agrees does (R123). -/
def State.lookedUp (seq grain cluster : Nat) (w : WriteOp) (x : GrainOp) (answer : Option (Option FpEnt)) (s : State) : State :=
  match answer with
  | none => s.askIndex x.fingerprint
  | some none => (((s.useIsland .ddup cluster).count (ctrCluster cluster 0)).count (ctrCluster cluster 2)).resolveDedup seq grain .miss
  | some (some e) =>
    ((((s.useIsland .ddup cluster).count (ctrCluster cluster 0)).count (ctrCluster cluster 1)).cachePut e).resolveDedup seq grain
      (if s.overlayRoom w.vol grain then .hit e.sgt else .skip)

theorem inlineLookupAnswer_looks {t seq grain cluster a : Nat} {index : Option (Option FpEnt)} {w : WriteOp} {x : GrainOp} {n : Ns}
    {s : State} (h : Looking seq grain cluster a w x n (s.advanceTo t)) :
    Sys2Proof.Machine.exec (.inlineLookupAnswer t seq grain cluster true index) s =
      .next (State.lookedUp seq grain cluster w x ((s.advanceTo t).lookup x.fingerprint x.check.guard n.keyslot index) (s.advanceTo t)) := by
  show execInlineLookupAnswer t seq grain cluster true index s = _
  unfold execInlineLookupAnswer
  generalize s.advanceTo t = y at h ⊢
  dsimp only
  rw [h.write]
  dsimp only
  rw [h.found, h.served]
  refine congrArg Host.Outcome.next ((if_neg ?_).trans ((if_neg Bool.false_ne_true).trans ?_))
  · rw [h.accepted]
    dsimp only
    rw [h.waiting, h.formed, h.merged, h.runs, h.healthy, decide_eq_false (Nat.not_le.2 h.intime)]
    decide
  · unfold State.lookedUp
    generalize y.lookup x.fingerprint x.check.guard n.keyslot index = answer
    obtain _ | _ | e := answer <;> rfl

theorem inlineLookupAnswer_answers (t seq grain a : Nat) (w : WriteOp) (x : GrainOp) (s : State) (hw : s.write? seq = some w)
    (hx : w.grain? grain = some x) (hacc : w.acc = some a) (hd : x.dedup = .waiting) (cluster : Nat) (index : Option (Option FpEnt)) (n : Ns)
    (hn : s.ns? w.vol = some n) (hformed : x.formed = true) (hmerge : x.merging = false) (hlate : (s.advanceTo t).time.now < a + 40000)
    (hruns : s.dedupRuns = true) (hok : s.clusterOk cluster = true) :
    (s.lookup x.fingerprint x.check.guard n.keyslot index = some none →
      ∃ u, Sys2Proof.Machine.exec (.inlineLookupAnswer t seq grain cluster true index) s = .next u ∧
        (u.write? seq).bind (·.grain? grain) = some { x with dedup := .miss }) ∧
    (∀ e : FpEnt, s.lookup x.fingerprint x.check.guard n.keyslot index = some (some e) →
      ∃ u, Sys2Proof.Machine.exec (.inlineLookupAnswer t seq grain cluster true index) s = .next u ∧
        (u.write? seq).bind (·.grain? grain) =
          some { x with dedup := if s.overlayRoom w.vol grain then .hit e.sgt else .skip }) := by
  have hlook : Looking seq grain cluster a w x n (s.advanceTo t) :=
    { write := (write_advanceTo t seq s).trans hw, found := hx, accepted := hacc, waiting := hd
      served := after_advanceTo (P := fun y => y.ns? w.vol = some n) t fun _ => hn
      formed := hformed, merged := hmerge, intime := hlate
      runs := after_advanceTo (P := fun y => y.dedupRuns = true) t fun _ => hruns
      healthy := after_advanceTo (P := fun y => y.clusterOk cluster = true) t fun _ => hok }
  have hexec := inlineLookupAnswer_looks (index := index) hlook
  have hsame : (s.advanceTo t).lookup x.fingerprint x.check.guard n.keyslot index = s.lookup x.fingerprint x.check.guard n.keyslot index :=
    after_advanceTo (P := fun y => y.lookup x.fingerprint x.check.guard n.keyslot index =
      s.lookup x.fingerprint x.check.guard n.keyslot index) t fun _ => rfl
  have hroom : (s.advanceTo t).overlayRoom w.vol grain = s.overlayRoom w.vol grain :=
    after_advanceTo (P := fun y => y.overlayRoom w.vol grain = s.overlayRoom w.vol grain) t fun _ => rfl
  rw [hsame] at hexec
  constructor
  · intro hmiss
    rw [hmiss] at hexec
    exact ⟨_, hexec, grain_resolveDedup (((State.count_frame _ _).adm (by decide)).trans (islandCounted_adm _ _ _ _)) hlook.write hx hd⟩
  · intro e hhit
    rw [hhit] at hexec
    refine ⟨_, hexec, ?_⟩
    rw [← hroom]
    exact grain_resolveDedup (((State.cachePut_frame _ _).adm (by decide)).trans
      (((State.count_frame _ _).adm (by decide)).trans (islandCounted_adm _ _ _ _))) hlook.write hx hd

theorem inlineBudgetExpiry_expires (t seq grain a : Nat) (w : WriteOp) (x : GrainOp) (s : State) (hw : s.write? seq = some w)
    (hx : w.grain? grain = some x) (hacc : w.acc = some a) (hd : x.dedup = .waiting) (hlate : a + 40000 ≤ (s.advanceTo t).time.now) :
    ∃ u, Sys2Proof.Machine.exec (.inlineBudgetExpiry t seq grain) s = .next u ∧
      (u.write? seq).bind (·.grain? grain) = some { x with dedup := .expired } := by
  have hw1 := (write_advanceTo t seq s).trans hw
  refine ⟨((s.advanceTo t).count (ctrCluster ((s.advanceTo t).clusterFor grain) 3)).resolveDedup seq grain .expired, ?_,
    grain_resolveDedup ((State.count_frame _ _).adm (by decide)) hw1 hx hd⟩
  · show execInlineBudgetExpiry t seq grain s = _
    unfold execInlineBudgetExpiry
    dsimp only
    rw [hw1]
    dsimp only
    rw [hacc, hx]
    exact congrArg Host.Outcome.next (if_neg fun h => h.elim (Nat.not_lt.2 hlate) fun hn => hn hd)

/-! ### Compression -/

theorem laneOutcome_grain (row policy : Nat) (r : LaneResult) (x : GrainOp) : (laneOutcome row policy r x).grain = x.grain := by
  unfold laneOutcome
  split
  · rfl
  · split <;> rfl

/-- A lane's outcome, but for a refetch and a fault, changes its grain alone (Table 5.3). -/
theorem laneFault_none {row : Nat} (h1 : row ≠ 1) (h4 : row ≠ 4) (lane : Nat) (w : WriteOp) (g : Nat) (s : State) :
    s.laneFault row lane w g = s := by
  unfold State.laneFault
  rw [if_neg h1, if_neg h4]

/-- What a lane's outcome is counted at. -/
def State.laneCounted (lane row out : Nat) (s : State) : State :=
  (((s.useRes (resLane lane)).count (ctrLane lane (row - 1))).countN (ctrLane lane 6) 16384).countN (ctrLane lane 7) out

theorem laneCounted_adm (lane row out : Nat) (s : State) : (State.laneCounted lane row out s).adm = s.adm := by
  unfold State.laneCounted
  rw [(State.countN_frame _ _ _).adm (by decide), (State.countN_frame _ _ _).adm (by decide), (State.count_frame _ _).adm (by decide),
    (State.useRes_frame _ _).adm (by decide)]

theorem compressionOutcome_leaves (t seq grain lane : Nat) (r : LaneResult) (w : WriteOp) (x : GrainOp) (s : State)
    (hw : s.write? seq = some w) (hx : w.grain? grain = some x) (hkind : x.kind = 0) (hformed : x.formed = true)
    (hmerge : x.merging = false) (hplain : x.plain ≠ []) (hlane : x.lane = .waiting) (hok : s.laneOk lane = true) :
    let row := laneRow (x.policy == 0 || s.md.mode == .preservation) (x.policy == 2) x.check.guard x.geom grain r
    row ≠ 1 → row ≠ 4 →
    ∃ u, Sys2Proof.Machine.exec (.compressionOutcome t seq grain lane r) s = .next u ∧
      (u.write? seq).bind (·.grain? grain) = some (laneOutcome row x.policy r x) := by
  intro row h1 h4
  have hw1 := (write_advanceTo t seq s).trans hw
  have hok1 : (s.advanceTo t).laneOk lane = true := after_advanceTo (P := fun y => y.laneOk lane = true) t fun _ => hok
  have hrow : laneRow (x.policy == 0 || (s.advanceTo t).md.mode == .preservation) (x.policy == 2) x.check.guard x.geom grain r = row := by
    rw [advanceTo_md]
  refine ⟨(State.laneCounted lane row (if row = 6 then r.output.length else 0) (s.advanceTo t)).updWrite seq
    (fun w => w.updGrain grain (laneOutcome row x.policy r)), ?_, ?_⟩
  · show execCompressionOutcome t seq grain lane r s = _
    unfold execCompressionOutcome
    generalize s.advanceTo t = y at hw1 hok1 hrow ⊢
    dsimp only
    rw [hw1]
    dsimp only
    rw [hx]
    dsimp only
    refine congrArg Host.Outcome.next ((if_neg ?_).trans ?_)
    · rw [hkind, hformed, hmerge, hlane, hok1, List.isEmpty_eq_false_iff.2 hplain]
      decide
    · rw [hrow]
      exact laneFault_none h1 h4 _ _ _ _
  · exact grain_updWrite (laneOutcome_grain row x.policy r) ((write_of_adm (laneCounted_adm _ _ _ _) seq).trans hw1) hx

/-! ### The cipher -/

/-- What a cipher pass leaves of a grain under the keys of its volume (R85). -/
def sealedGrain (k : Slot) (x : GrainOp) : GrainOp :=
  { x with payload := xtsEncrypt k.key1 k.key2 (xtsTweak x.check) (cipherInput x), ciphered := true }

theorem encrypt_eq {w : WriteOp} {x : GrainOp} {n : Ns} {k : Slot} {s : State} (hn : s.ns? w.vol = some n)
    (hk : NMap.find s.ciph.slots n.keyslot = some k) :
    s.encrypt w x = s.updWrite w.seq (fun w => w.updGrain x.grain (sealedGrain k)) := by
  unfold State.encrypt
  rw [hn, Option.bind_some, hk]
  rfl

theorem cipherPassDone_grain (t pair : Nat) (s : State) (hok : s.pairOk pair = true) (seq grain : Nat) (w : WriteOp) (x : GrainOp) (n : Ns)
    (k : Slot) (hw : s.write? seq = some w) (hx : w.grain? grain = some x) (hkind : x.kind = 0) (hfresh : x.ciphered = false)
    (hfail : x.failed = false) (hres : x.resolved = true) (hn : s.ns? w.vol = some n) (hk : NMap.find s.ciph.slots n.keyslot = some k) :
    ∃ u, Sys2Proof.Machine.exec (.cipherPassDone t (.grain seq grain) pair true) s = .next u ∧
      (u.write? seq).bind (·.grain? grain) =
        some { x with payload := xtsEncrypt k.key1 k.key2 (xtsTweak x.check) (cipherInput x), ciphered := true } := by
  have hw1 := (write_advanceTo t seq s).trans hw
  have hok1 : (s.advanceTo t).pairOk pair = true := after_advanceTo (P := fun y => y.pairOk pair = true) t fun _ => hok
  have hf := State.useRes_frame (resPair pair) (s.advanceTo t)
  have he := encrypt_eq (x := x) (s := (s.advanceTo t).useRes (resPair pair)) (w := w) (n := n) (k := k)
    (by unfold State.ns?; rw [hf.nvq (by decide), advanceTo_nvq]; exact hn)
    (by rw [hf.ciph (by decide), advanceTo_ciph]; exact hk)
  rw [seq_of_write hw, grain_of_write hx] at he
  refine ⟨(((s.advanceTo t).useRes (resPair pair)).encrypt w x).countN (ctrPair pair 0) ((cipherInput x).length / 16), ?_, ?_⟩
  · show execCipherPassDone t (.grain seq grain) pair true s = _
    unfold execCipherPassDone
    generalize s.advanceTo t = y at hw1 hok1 ⊢
    dsimp only
    rw [hok1]
    refine congrArg Host.Outcome.next ((if_neg (by decide)).trans ((if_neg Bool.false_ne_true).trans ?_))
    rw [hw1]
    dsimp only
    rw [hx]
    refine if_neg ?_
    rw [hkind, hfresh, hfail, hres]
    decide
  · rw [write_of_adm ((State.countN_frame _ _ _).adm (by decide)), he]
    exact grain_updWrite (f := sealedGrain k) (fun _ => rfl) ((write_of_adm (hf.adm (by decide)) seq).trans hw1) hx

theorem readDecrypted_eq (rid : Nat) (s : State) :
    s.readDecrypted rid = s.updRead rid (fun r => if r.point = 4 then { r with point := 5 } else r) := by
  unfold State.readDecrypted State.updRead
  have hf : (fun r : ReadGrain => if r.rid = rid ∧ r.point = 4 then { r with point := 5 } else r) =
      fun r => if r.rid = rid then (if r.point = 4 then { r with point := 5 } else r) else r := by
    funext r
    by_cases h : r.rid = rid
    · simp only [h, true_and, if_true]
    · simp only [h, false_and, if_false]
  rw [hf]

theorem cipherPassDone_read (t pair : Nat) (s : State) (hok : s.pairOk pair = true) (rid : Nat) (r : ReadGrain) (hr : s.read? rid = some r)
    (hp : r.point = 4) :
    ∃ u, Sys2Proof.Machine.exec (.cipherPassDone t (.read rid) pair true) s = .next u ∧ u.read? rid = some { r with point := 5 } := by
  have hok1 : (s.advanceTo t).pairOk pair = true := after_advanceTo (P := fun y => y.pairOk pair = true) t fun _ => hok
  have hpath : ((s.advanceTo t).useRes (resPair pair)).path = s.path :=
    ((State.useRes_frame _ _).path (by decide)).trans (advanceTo_path t s)
  refine ⟨((s.advanceTo t).useRes (resPair pair)).readDecrypted rid, ?_, ?_⟩
  · show execCipherPassDone t (.read rid) pair true s = _
    unfold execCipherPassDone
    dsimp only
    rw [hok1]
    exact congrArg Host.Outcome.next ((if_neg (by decide)).trans (if_neg Bool.false_ne_true))
  · rw [readDecrypted_eq, read_updRead, read_of_path (congrArg (·.reads) hpath), hr]
    · exact congrArg some (if_pos hp)
    · intro r
      split <;> rfl

end Sys2Proof.Proofs
end

section
/-!
SUPPORT. Records as they are appended to a stream (R86, R152), and the obligation on the commands of the write path.
-/

namespace Sys2Proof.Proofs

open Sys2Proof.Machine Sys2Proof.Safety Sys2Proof.Laws

/-! ### Bands that open -/

/-- Blocks are given to bands: the streams stand, and every band there is. -/
structure BandsStand (s u : State) : Prop where
  streams : ∀ st, u.stream st = s.stream st
  bands : ∀ n, NMap.has s.path.bands n = true → NMap.has u.path.bands n = true

theorem BandsStand.refl (s : State) : BandsStand s s := ⟨fun _ => rfl, fun _ => id⟩

theorem BandsStand.trans {s x u : State} (a : BandsStand s x) (b : BandsStand x u) : BandsStand s u :=
  ⟨fun st => (b.streams st).trans (a.streams st), fun n h => b.bands n (a.bands n h)⟩

theorem giveBlock_stands (n die : Nat) (dense : Bool) (s : State) : BandsStand s (s.giveBlock n die dense) := by
  refine ⟨fun st => ?_, fun m h => ?_⟩
  · cases st <;> rfl
  · show (NMap.find (NMap.upd s.path.bands n _) m).isSome = true
    rw [find_upd]
    split
    · rw [Option.isSome_map]
      exact h
    · exact h

theorem fillBand_stands (n : Nat) (s : State) : BandsStand s (s.fillBand n) := by
  unfold State.fillBand
  split
  · next b _ =>
    have hfold : ∀ (l : List Nat) (y : State), BandsStand y (l.foldl (fun (s : State) d => s.giveBlock n d b.dense) y) := by
      intro l
      induction l with
      | nil => exact .refl
      | cons d l ih => exact fun y => (giveBlock_stands n d b.dense y).trans (ih _)
    exact hfold _ s
  · exact .refl s

/-- The state in which a new band has been put behind its stream, before its blocks are given (R152). -/
def State.bandPut (st : StreamId) (free : NMap Nat) (s : State) : State :=
  let s1 := { s with
    path := { s.path with bands := NMap.put s.path.bands s.path.nextBand (s.makeBand st false s.nextSlot), nextBand := s.path.nextBand + 1 }
    flash := { s.flash with free := free } }
  s1.setStream st { band := s.path.nextBand, stripe := 0, pos := 0 }

theorem openBand_eq (st : StreamId) (s : State) :
    ∃ free, s.openBand st = ((State.bandPut st free s).fillBand s.path.nextBand).tookBlocks s.flash.free :=
  ⟨_, by cases st <;> rfl⟩

/-- The band of a stream that has just opened is known. -/
theorem openBand_has (st : StreamId) (s : State) : NMap.has (s.openBand st).path.bands ((s.openBand st).stream st).band = true := by
  obtain ⟨free, he⟩ := openBand_eq st s
  have hput : (State.bandPut st free s).stream st = { band := s.path.nextBand, stripe := 0, pos := 0 } ∧
      NMap.has (State.bandPut st free s).path.bands s.path.nextBand = true := by
    constructor
    · cases st <;> rfl
    · have hb : (State.bandPut st free s).path.bands = NMap.put s.path.bands s.path.nextBand (s.makeBand st false s.nextSlot) := by
        cases st <;> rfl
      unfold NMap.has
      rw [hb, find_put_self]
      rfl
  obtain ⟨hstream, hband⟩ := hput
  have hstand := fillBand_stands s.path.nextBand (State.bandPut st free s)
  have htook : (((State.bandPut st free s).fillBand s.path.nextBand).tookBlocks s.flash.free).path =
      ((State.bandPut st free s).fillBand s.path.nextBand).path := (State.tookBlocks_frame _ _).path (by decide)
  have hst : (((State.bandPut st free s).fillBand s.path.nextBand).tookBlocks s.flash.free).stream st =
      ((State.bandPut st free s).fillBand s.path.nextBand).stream st := by
    unfold State.stream
    rw [htook]
  rw [he, hst, htook, hstand.streams st, hstream]
  exact hstand.bands _ hband

/-- A record always finds the band of its stream: the one with room for it, or the one that opens for it (R152). -/
theorem roomFor_has (st : StreamId) {len : Nat} (hlen : 0 < len) (s : State) :
    NMap.has (s.roomFor st len).path.bands ((s.roomFor st len).stream st).band = true := by
  unfold State.roomFor
  split
  · next h =>
    unfold State.bandRoom at h
    unfold NMap.has
    dsimp only at h
    split at h
    · omega
    · next b hb =>
      rw [hb]
      rfl
  · exact openBand_has st _

/-! ### Records that are stored -/

/-- Stored records stay stored. -/
def StoredKept (s u : State) : Prop := ∀ x ∈ s.path.stored, x ∈ u.path.stored

theorem StoredKept.of_eq {s u : State} (h : u.path.stored = s.path.stored) : StoredKept s u := fun _ hx => h ▸ hx

theorem setStream_stored (st : StreamId) (c : Stream) (s : State) : (s.setStream st c).path.stored = s.path.stored := by
  cases st <;> rfl

theorem closeStripe_stored (st : StreamId) (s : State) : StoredKept s (s.closeStripe st) := by
  unfold State.closeStripe
  dsimp only
  split
  · exact fun _ => id
  · split
    · exact fun _ => id
    · intro x hx
      rw [setStream_stored, (State.touchStripe_frame _ _ _ _ _ _ _).stored (by decide)]
      split
      · exact List.mem_append_left _ hx
      · exact hx

theorem roomFor_stored (st : StreamId) (len : Nat) (s : State) : StoredKept s (s.roomFor st len) := by
  unfold State.roomFor
  split
  · exact fun _ => id
  · intro x hx
    rw [(State.openBand_frame _ _).stored (by decide)]
    exact closeStripe_stored st s x hx

/-- A record that is appended is stored behind all that were (R86). -/
theorem appendRecord_stores (st : StreamId) (r : Record) (paritySlot : Nat → Nat) (acked : Bool) (s : State) :
    ∃ band stripe off, (s.appendRecord st r paritySlot acked).1.path.stored =
      (s.roomFor st (recordLen r)).path.stored ++
        [{ st := st, band := band, stripe := stripe, offset := off, record := r, acked := acked }] := by
  have hlen : 0 < recordLen r := by
    unfold recordLen
    omega
  have hband := roomFor_has st hlen s
  unfold State.appendRecord
  dsimp only
  generalize s.roomFor st (recordLen r) = y at hband ⊢
  unfold NMap.has at hband
  obtain ⟨b, hb⟩ := Option.isSome_iff_exists.1 hband
  rw [hb]
  dsimp only
  rw [setStream_stored, (foldl_frame (f := fun (s : State) i => s.touchStripe st (y.stream st).band ((y.stream st).stripe + i)
    (stripeBytes (b.k * 65536) (y.stream st).pos (recordLen r) i) (paritySlot i)
    (stripeBytes (b.k * 65536) (y.stream st).pos (recordLen r) i == b.k * 65536))
    (fun x i => State.touchStripe_frame _ _ _ _ _ _ x) _ _).stored (by decide)]
  exact ⟨_, _, _, rfl⟩

theorem appendRecord_kept (st : StreamId) (r : Record) (paritySlot : Nat → Nat) (acked : Bool) (s : State) :
    StoredKept s (s.appendRecord st r paritySlot acked).1 := by
  obtain ⟨band, stripe, off, h⟩ := appendRecord_stores st r paritySlot acked s
  intro x hx
  rw [h]
  exact List.mem_append_left _ (roomFor_stored st _ s x hx)

theorem appendRecord_mem (st : StreamId) (r : Record) (paritySlot : Nat → Nat) (acked : Bool) (s : State) :
    ∃ x ∈ (s.appendRecord st r paritySlot acked).1.path.stored, x.st = st ∧ x.record = r ∧ x.acked = acked := by
  obtain ⟨band, stripe, off, h⟩ := appendRecord_stores st r paritySlot acked s
  rw [h]
  exact ⟨_, List.mem_append_right _ (List.mem_singleton.2 rfl), rfl, rfl, rfl⟩

/-! ### The records of a write -/

/-- A record of the home stream is a grain's, accepted at a tick or not yet (Tables 4.3 and 4.4). -/
structure RecordOf (x : GrainOp) (acc : Option Nat) (r : Stored) : Prop where
  st : r.st = .home
  check : r.record.check = x.check
  payload : r.record.payload = (if x.kind = 0 then x.payload else [])
  atick : r.record.atick = acc.getD 0

theorem recordOf_is (w : WriteOp) (x : GrainOp) (seq : Nat) (s : State) {r : Stored} (hst : r.st = .home) (hr : r.record = s.recordOf w x seq) :
    RecordOf x w.acc r := by
  refine ⟨hst, ?_, ?_, ?_⟩
  · rw [hr]
    rfl
  · rw [hr]
    by_cases h : x.kind = 0
    · rw [if_pos h]
      exact if_pos (beq_iff_eq.2 h)
    · rw [if_neg h]
      exact if_neg fun e => h (beq_iff_eq.1 e)
  · rw [hr]
    rfl

/-- A state in which the next SEQ of the records is taken. -/
def State.seqTaken (s : State) : State := { s with path := { s.path with nextRecSeq := s.path.nextRecSeq + 1 } }

/-- Where a grain's record stands. -/
def placedAt (r : Record) (band off : Nat) (y : GrainOp) : GrainOp := { y with record := some r, place := some (band, off) }

theorem appendGrain_eq {seq : Nat} (i : Nat) {x : GrainOp} {w : WriteOp} {s : State} (hw : s.write? seq = some w) (hx : x.failed = false) :
    ∃ p, s.appendGrain seq i x =
      ((State.seqTaken s).appendRecord .home (s.recordOf w x s.path.nextRecSeq) p false).1.updWrite seq (fun v => v.updGrain x.grain
        (placedAt (s.recordOf w x s.path.nextRecSeq)
          ((State.seqTaken s).appendRecord .home (s.recordOf w x s.path.nextRecSeq) p false).2.1
          ((State.seqTaken s).appendRecord .home (s.recordOf w x s.path.nextRecSeq) p false).2.2)) := by
  refine ⟨(State.seqTaken s).paritySlot w i, ?_⟩
  unfold State.appendGrain
  rw [hw]
  dsimp only
  rw [hx, if_neg Bool.false_ne_true]
  rfl

theorem appendGrain_mem {seq : Nat} (i : Nat) {x : GrainOp} {w : WriteOp} {s : State} (hw : s.write? seq = some w) (hx : x.failed = false) :
    ∃ r ∈ (s.appendGrain seq i x).path.stored, RecordOf x w.acc r := by
  obtain ⟨p, he⟩ := appendGrain_eq i hw hx
  obtain ⟨r, hr, hst, hrec, -⟩ := appendRecord_mem .home (s.recordOf w x s.path.nextRecSeq) p false (State.seqTaken s)
  rw [he]
  exact ⟨r, hr, recordOf_is w x _ s hst hrec⟩

theorem appendGrain_kept {seq : Nat} (i : Nat) (x : GrainOp) {w : WriteOp} {s : State} (hw : s.write? seq = some w) :
    StoredKept s (s.appendGrain seq i x) ∧ ∃ v, (s.appendGrain seq i x).write? seq = some v ∧ v.acc = w.acc := by
  by_cases hx : x.failed = false
  · obtain ⟨p, he⟩ := appendGrain_eq i hw hx
    rw [he]
    refine ⟨fun y hy => ?_, ?_⟩
    · exact appendRecord_kept .home _ p false (State.seqTaken s) y hy
    · have hw1 : ((State.seqTaken s).appendRecord .home (s.recordOf w x s.path.nextRecSeq) p false).1.write? seq = some w :=
        (write_of_adm ((State.appendRecord_frame _ _ _ _ _).adm (by decide)) seq).trans hw
      exact ⟨_, write_updWrite (f := fun w => w.updGrain x.grain (placedAt _ _ _)) (fun _ => rfl) hw1, rfl⟩
  · have he : s.appendGrain seq i x = s := by
      unfold State.appendGrain
      rw [hw]
      exact if_pos (Bool.of_not_eq_false hx)
    rw [he]
    exact ⟨fun _ => id, w, hw, rfl⟩

/-- A record stands for each grain of a write that did not fail (R86). -/
theorem appendGrains_mem {seq : Nat} (l : List (GrainOp × Nat)) {w : WriteOp} {s : State} (hw : s.write? seq = some w) :
    StoredKept s (l.foldl (fun s x => s.appendGrain seq x.2 x.1) s) ∧
      ∀ p ∈ l, p.1.failed = false → ∃ r ∈ (l.foldl (fun s x => s.appendGrain seq x.2 x.1) s).path.stored, RecordOf p.1 w.acc r := by
  induction l generalizing s w with
  | nil => exact ⟨fun _ => id, fun p hp => absurd hp List.not_mem_nil⟩
  | cons q l ih =>
    obtain ⟨hkept, v, hv, hacc⟩ := appendGrain_kept q.2 q.1 hw
    obtain ⟨hrest, hall⟩ := ih hv
    refine ⟨fun x hx => hrest x (hkept x hx), fun p hp hfail => ?_⟩
    obtain rfl | hp := List.mem_cons.1 hp
    · obtain ⟨r, hr, hrec⟩ := appendGrain_mem p.2 hw hfail
      exact ⟨r, hrest r hr, hrec⟩
    · rw [← hacc]
      exact hall p hp hfail

/-- What an append brings beside its records (R86): the mirror transfer, the synchronous frames, and what sealing lets happen. -/
def State.appendLeaves (seq : Nat) (s : State) : State :=
  match s.write? seq with
  | none => s
  | some w =>
    let recs := w.grains.filterMap (fun x => x.record)
    let s3 := if s.needsAck w && !recs.isEmpty then s.emit (.mirror recs) else s
    (s3.sendSync w).markSealed.checkWrites.sendReady

theorem appendLeaves_stored (seq : Nat) (s : State) : (State.appendLeaves seq s).path.stored = s.path.stored := by
  unfold State.appendLeaves
  split
  · rfl
  · dsimp only
    rw [(State.sendReady_frame _).stored (by decide), (State.checkWrites_frame _).stored (by decide),
      (State.markSealed_frame _).stored (by decide), (State.sendSync_frame _ _).stored (by decide)]
    split
    · exact (State.emit_frame _ _).stored (by decide)
    · rfl

theorem recordAppend_appends (t seq : Nat) (w : WriteOp) (s : State) (hw : s.write? seq = some w) (hready : w.ready = true)
    (hnot : w.appended = false) (horder : ∀ v ∈ s.adm.writes, v.seq < seq → v.appended = true) :
    ∃ u, Sys2Proof.Machine.exec (.recordAppend t seq) s = .next u ∧
      (∀ x ∈ w.grains, x.failed = false → ∃ r ∈ u.path.stored, r.st = .home ∧ r.record.check = x.check ∧
        r.record.payload = (if x.kind = 0 then x.payload else []) ∧ r.record.atick = w.acc.getD 0) := by
  have hw1 := (write_advanceTo t seq s).trans hw
  have hfirst : (s.advanceTo t).adm.writes.any (fun v => decide (v.seq < seq) && !v.appended) = false := by
    rw [advanceTo_adm]
    refine List.any_eq_false.2 fun v hv h => ?_
    obtain ⟨hlt, hn⟩ := (Bool.and_eq_true _ _).mp h
    rw [horder v hv (of_decide_eq_true hlt)] at hn
    exact Bool.false_ne_true hn
  obtain ⟨-, hall⟩ := appendGrains_mem w.grains.zipIdx hw1
  refine ⟨State.appendLeaves seq (w.grains.zipIdx.foldl (fun s x => s.appendGrain seq x.2 x.1) (s.advanceTo t)), ?_, ?_⟩
  · show execRecordAppend t seq s = _
    unfold execRecordAppend
    dsimp only
    rw [hw1]
    dsimp only
    refine congrArg Host.Outcome.next ((if_neg ?_).trans rfl)
    rw [hready, hnot, hfirst]
    decide
  · intro x hx hfail
    obtain ⟨i, hi⟩ := List.mem_iff_getElem?.1 hx
    obtain ⟨r, hr, hrec⟩ := hall (x, i) (List.mem_zipIdx_iff_getElem?.2 hi) hfail
    exact ⟨r, by rw [appendLeaves_stored]; exact hr, hrec.st, hrec.check, hrec.payload, hrec.atick⟩

/-- Settles O58. -/
theorem writePathCommandsRun : Obligations.WritePathCommandsRun := by
  unfold Obligations.WritePathCommandsRun
  refine ⟨acceptance_accepts, ?_, ?_, ?_, ?_⟩
  · intro t seq grain a w x s hw hx hacc hd
    refine ⟨?_, fun hlate => inlineBudgetExpiry_expires t seq grain a w x s hw hx hacc hd hlate⟩
    intro cluster index n hn hformed hmerge hlate hruns hok
    exact inlineLookupAnswer_answers t seq grain a w x s hw hx hacc hd cluster index n hn hformed hmerge hlate hruns hok
  · intro t seq grain lane r w x s hw hx hkind hformed hmerge hplain hlane hok
    exact compressionOutcome_leaves t seq grain lane r w x s hw hx hkind hformed hmerge hplain hlane hok
  · intro t pair s hok
    refine ⟨?_, fun rid r hr hp => cipherPassDone_read t pair s hok rid r hr hp⟩
    intro seq grain w x n k hw hx hkind hfresh hfail hres hn hk
    exact cipherPassDone_grain t pair s hok seq grain w x n k hw hx hkind hfresh hfail hres hn hk
  · intro t seq w b s hw hready hnot horder _ _
    exact recordAppend_appends t seq w s hw hready hnot horder

end Sys2Proof.Proofs
end

section
/-!
SUPPORT. Streams at work: a stripe that closes (R87), strips that cross their channel and are programmed (R142, R156), mirror records (R88)
and the partner's acknowledgement (R88), with the obligation on them.
-/

namespace Sys2Proof.Proofs

open Sys2Proof.Machine Sys2Proof.Safety Sys2Proof.Laws

/-! ### Stripes -/

theorem stripe_advanceTo (t band i : Nat) (s : State) : (s.advanceTo t).stripe? band i = s.stripe? band i :=
  stripe_of_stripes (by rw [advanceTo_path]) band i

/-- A stripe with the tick of its seal, or none. -/
def sealedStripe (x : Stripe) (tick : Option Nat) : Stripe := { x with sealedAt := tick }

/-- Sealing changes of a stripe its tick alone (R87). -/
theorem sealStripe_stripe {band i : Nat} {x : Stripe} {s : State} (hx : s.stripe? band i = some x) :
    ∃ tick, (s.sealStripe band i).stripe? band i = some (sealedStripe x tick) := by
  unfold State.sealStripe
  rw [hx]
  split
  · rw [stripe_of_stripes ((State.afterSeal_frame _).stripes (by decide))]
    split
    · refine ⟨some s.time.now, ?_⟩
      rw [stripe_updStripe (by exact fun _ => ⟨rfl, rfl⟩), hx]
      rfl
    · exact ⟨x.sealedAt, hx⟩
  · exact ⟨x.sealedAt, hx⟩

/-- A stripe as it closes with whole strips (R87). -/
def closedStripe (bytes now : Nat) (x : Stripe) : Stripe :=
  { x with bytes := max x.bytes bytes, closed := x.closed || true, closeTick := if true && !x.closed then now else x.closeTick }

theorem setStream_stripes (st : StreamId) (c : Stream) (s : State) : (s.setStream st c).path.stripes = s.path.stripes := by
  cases st <;> rfl

theorem touchStripe_closes {st : StreamId} {band i bytes slot : Nat} {x : Stripe} {s : State} (hx : s.stripe? band i = some x) :
    (s.touchStripe st band i bytes slot true).stripe? band i = some (closedStripe bytes s.time.now x) := by
  unfold State.touchStripe
  rw [hx]
  dsimp only
  rw [stripe_updStripe (by exact fun _ => ⟨rfl, rfl⟩), hx]
  rfl

theorem closeStripe_closes {st : StreamId} {x : Stripe} {b : Band} {s : State}
    (hx : s.stripe? (s.stream st).band (s.stream st).stripe = some x) (hpos : (s.stream st).pos ≠ 0)
    (hb : NMap.find s.path.bands (s.stream st).band = some b) :
    (s.closeStripe st).stripe? (s.stream st).band (s.stream st).stripe =
      some (closedStripe (65536 * (((s.stream st).pos - 1) / 65536 + 1)) s.time.now x) := by
  unfold State.closeStripe
  dsimp only
  rw [hb]
  dsimp only
  rw [if_neg hpos, stripe_of_stripes (setStream_stripes _ _ _)]
  split
  · exact touchStripe_closes (s := { s with path := { s.path with stored := _ } }) hx
  · exact touchStripe_closes hx

theorem stripeClose_closes (t : Nat) (st : StreamId) (x : Stripe) (b : Band) (s : State)
    (hx : s.stripe? (s.stream st).band (s.stream st).stripe = some x) (hst : x.st = st) (hopen : x.closed = false)
    (hpos : (s.stream st).pos ≠ 0) (hdue : x.oldestParity ≤ slotOf (s.advanceTo t).time.now)
    (hb : NMap.find s.path.bands (s.stream st).band = some b) :
    ∃ u y, Sys2Proof.Machine.exec (.stripeClose t st) s = .next u ∧ u.stripe? (s.stream st).band (s.stream st).stripe = some y ∧
      y.closed = true ∧ y.bytes = max x.bytes (65536 * (((s.stream st).pos - 1) / 65536 + 1)) ∧ y.closeTick = (s.advanceTo t).time.now := by
  have hstream : (s.advanceTo t).stream st = s.stream st :=
    after_advanceTo (P := fun y => y.stream st = s.stream st) t fun _ => by cases st <;> rfl
  have hx1 : (s.advanceTo t).stripe? ((s.advanceTo t).stream st).band ((s.advanceTo t).stream st).stripe = some x := by
    rw [hstream, stripe_advanceTo, hx]
  have hclosed := closeStripe_closes hx1 (by rw [hstream]; exact hpos) (by rw [hstream, advanceTo_path]; exact hb)
  obtain ⟨tick, hsealed⟩ := sealStripe_stripe hclosed
  rw [hstream] at hx1 hsealed
  refine ⟨((s.advanceTo t).closeStripe st).sealStripe (s.stream st).band (s.stream st).stripe, _, ?_, hsealed, Bool.or_true _, rfl, ?_⟩
  · show execStripeClose t st s = _
    unfold execStripeClose
    dsimp only
    rw [hstream, hx1]
    refine congrArg Host.Outcome.next (if_neg ?_)
    rw [hopen, decide_eq_false hpos, decide_eq_false (Nat.not_lt.2 hdue), bne_eq_false_iff_eq.2 hst]
    decide
  · show (if true && !x.closed then _ else _) = _
    rw [hopen]
    rfl

/-! ### Strips -/

/-- A page of a strip leaves for its die. -/
def State.pageSent (b : Band) (band stripe strip die : Nat) (s : State) (p : Nat) : State :=
  s.emit (.page die (b.blockOf die) (4 * stripe + p) (pageBytes ((s.stripBytes b band stripe strip).drop (16384 * p) |>.take 16384)))

theorem pageSent_frame (b : Band) (band stripe strip die : Nat) (s : State) (p : Nat) :
    Frame (2 ^ 22) s (State.pageSent b band stripe strip die s p) := State.emit_frame _ s

theorem pagesSent {b : Band} {band stripe strip die : Nat} (l : List Nat) {s : State} (hopen : s.moor.fenced = false) {p : Nat} (hp : p ∈ l) :
    ∃ bytes, Sends (.page die (b.blockOf die) (4 * stripe + p) bytes) s (l.foldl (State.pageSent b band stripe strip die) s) := by
  induction l generalizing s with
  | nil => exact absurd hp List.not_mem_nil
  | cons q l ih =>
    have hf := pageSent_frame b band stripe strip die s q
    obtain rfl | hp := List.mem_cons.1 hp
    · exact ⟨_, sends_after ⟨[_], emit_sends hopen, List.mem_singleton.2 rfl⟩ (foldl_frame (pageSent_frame b band stripe strip die) l (State.pageSent b band stripe strip die s p))⟩
    · obtain ⟨bytes, h⟩ := ih (s := State.pageSent b band stripe strip die s q) (by rw [hf.moor (by decide)]; exact hopen) hp
      exact ⟨bytes, sends_before hf h⟩

/-- The pages of a strip leave for their die (R145). -/
theorem sendPages_sends {b : Band} {band stripe strip die : Nat} {s : State} (hopen : s.moor.fenced = false) (hdie : b.dieOf strip = some die)
    {p : Nat} (hp : p < 4) :
    ∃ bytes, Sends (.page die (b.blockOf die) (4 * stripe + p) bytes) s (s.sendPages b band stripe strip) := by
  unfold State.sendPages
  rw [hdie]
  exact pagesSent (List.range 4) hopen (List.mem_range.2 hp)

/-- Pages that have crossed are counted at their channel. -/
def State.pagesCounted (channel : Option Nat) (s : State) : State :=
  match channel with
  | some c => s.countN (ctrChannel c 1) 4
  | none => s

theorem pagesCounted_frame (channel : Option Nat) (s : State) : Frame (2 ^ 4) s (State.pagesCounted channel s) := by
  cases channel with
  | none => exact .refl s
  | some c => exact State.countN_frame _ _ s

/-- A stripe one more of whose strips has crossed its channel, or is programmed. -/
def crossed (strip : Nat) (x : Stripe) : Stripe := { x with transferred := x.transferred ++ [strip] }
def programmedWith (strip : Nat) (x : Stripe) : Stripe := { x with programmed := x.programmed ++ [strip] }

theorem pageTransferDone_sends (t band stripe strip die : Nat) (st : StreamId) (x : Stripe) (b : Band) (s : State)
    (hopen : s.moor.fenced = false) (hx : s.stripe? band stripe = some x) (hst : x.st = st) (hb : NMap.find s.path.bands band = some b)
    (hready : stripReady b x strip = true) (hnew : x.transferred.contains strip = false) (hdie : b.dieOf strip = some die) :
    ∃ u, Sys2Proof.Machine.exec (.pageTransferDone t st band stripe strip) s = .next u ∧
      u.stripe? band stripe = some { x with transferred := x.transferred ++ [strip] } ∧
      ∀ p, p < 4 → ∃ bytes, Out.page die (b.blockOf die) (4 * stripe + p) bytes ∈ u.outbox := by
  have hx1 := (stripe_advanceTo t band stripe s).trans hx
  have hf : ∀ y : State, Frame (2 ^ 4 + 2 ^ 22) y
      (State.pagesCounted ((s.advanceTo t).stripChannel band strip) (y.sendPages b band stripe strip)) := fun y =>
    .comp (pagesCounted_frame _ _) rfl (.comp (State.sendPages_frame _ _ _ _ y) rfl (.refl y))
  refine ⟨State.pagesCounted ((s.advanceTo t).stripChannel band strip)
    (((s.advanceTo t).updStripe band stripe (crossed strip)).sendPages b band stripe strip), ?_, ?_, ?_⟩
  · show execPageTransferDone t st band stripe strip s = _
    unfold execPageTransferDone
    dsimp only
    rw [hx1, advanceTo_path, hb]
    refine congrArg Host.Outcome.next ((if_neg ?_).trans ?_)
    · rw [hready, hnew, bne_eq_false_iff_eq.2 hst]
      decide
    · rfl
  · rw [stripe_of_stripes ((hf _).stripes (by decide)), stripe_updStripe (by exact fun _ => ⟨rfl, rfl⟩), hx1]
    rfl
  · intro p hp
    obtain ⟨bytes, hsend⟩ := sendPages_sends (band := band) (stripe := stripe) (s := (s.advanceTo t).updStripe band stripe (crossed strip))
      (by show (s.advanceTo t).moor.fenced = false; rw [advanceTo_moor]; exact hopen) hdie hp
    obtain ⟨new, hout, hmem⟩ := sends_after hsend (pagesCounted_frame ((s.advanceTo t).stripChannel band strip) _)
    exact ⟨bytes, by rw [hout]; exact List.mem_append_left _ hmem⟩

theorem programDone_programs (t band stripe strip die : Nat) (st : StreamId) (x : Stripe) (b : Band) (s : State)
    (hx : s.stripe? band stripe = some x) (hst : x.st = st) (hb : NMap.find s.path.bands band = some b)
    (htrans : x.transferred.contains strip = true) (hnew : x.programmed.contains strip = false) (hdie : b.dieOf strip = some die) :
    ∃ u y, Sys2Proof.Machine.exec (.programDone t st band stripe strip true) s = .next u ∧ u.stripe? band stripe = some y ∧
      y.programmed = x.programmed ++ [strip] := by
  have hx1 := (stripe_advanceTo t band stripe s).trans hx
  have hprog : (((s.advanceTo t).count (ctrDie die 1)).updStripe band stripe (programmedWith strip)).stripe? band stripe =
      some (programmedWith strip x) := by
    rw [stripe_updStripe (by exact fun _ => ⟨rfl, rfl⟩), stripe_of_stripes ((State.count_frame _ _).stripes (by decide)), hx1]
    rfl
  obtain ⟨tick, hsealed⟩ := sealStripe_stripe hprog
  refine ⟨_, _, ?_, hsealed, rfl⟩
  show execProgramDone t st band stripe strip true s = _
  unfold execProgramDone
  dsimp only
  rw [hx1, advanceTo_path, hb]
  dsimp only
  refine congrArg Host.Outcome.next ((if_neg ?_).trans ?_)
  · rw [htrans, hnew, bne_eq_false_iff_eq.2 hst]
    decide
  · rw [hdie]
    exact if_pos rfl

/-! ### The mirror -/

/-- A mirror record is appended to the mirror stream, in a state that has lost no record. -/
theorem appendMirror_eq (r : Record) (s : State) : ∀ u, s.appendMirror r = u → ∃ y p, StoredKept s y ∧
    u = ((y.appendRecord .mirror r p false).1.suspendErases mirrorSeq).wakeDue := by
  intro u hu
  unfold State.appendMirror at hu
  dsimp only at hu
  subst hu
  split
  · refine ⟨_, _, ?_, rfl⟩
    exact roomFor_stored .mirror (recordLen r) s
  · refine ⟨_, _, ?_, rfl⟩
    exact roomFor_stored .mirror (recordLen r) s

theorem booked_stored (seq : Nat) (s : State) : ((s.suspendErases seq).wakeDue).path.stored = s.path.stored := by
  rw [(State.wakeDue_frame _).stored (by decide), (State.suspendErases_frame _ _).stored (by decide)]

theorem appendMirror_stores (r : Record) (s : State) : StoredKept s (s.appendMirror r) ∧
    ∃ x ∈ (s.appendMirror r).path.stored, x.st = .mirror ∧ x.record = r ∧ x.acked = false := by
  obtain ⟨y, p, hkept, he⟩ := appendMirror_eq r s _ rfl
  have hstored := booked_stored mirrorSeq (y.appendRecord .mirror r p false).1
  obtain ⟨x, hx, hrec⟩ := appendRecord_mem .mirror r p false y
  rw [he]
  refine ⟨fun z hz => ?_, x, ?_, hrec⟩
  · rw [hstored]
    exact appendRecord_kept .mirror r p false y z (hkept z hz)
  · rw [hstored]
    exact hx

theorem appendMirrors_store (recs : List Record) (s : State) : StoredKept s (recs.foldl (fun s r => s.appendMirror r) s) ∧
    ∀ r ∈ recs, ∃ x ∈ (recs.foldl (fun s r => s.appendMirror r) s).path.stored, x.st = .mirror ∧ x.record = r ∧ x.acked = false := by
  induction recs generalizing s with
  | nil => exact ⟨fun _ => id, fun r hr => absurd hr List.not_mem_nil⟩
  | cons q recs ih =>
    obtain ⟨hkept, x, hx, hrec⟩ := appendMirror_stores q s
    obtain ⟨hrest, hall⟩ := ih (s.appendMirror q)
    refine ⟨fun z hz => hrest z (hkept z hz), fun r hr => ?_⟩
    obtain rfl | hr := List.mem_cons.1 hr
    · exact ⟨x, hrest x hx, hrec⟩
    · exact hall r hr

theorem service_advanceTo (t : Nat) (s : State) : (s.advanceTo t).service = s.service := by
  unfold State.service
  rw [advanceTo_md]

theorem mirrorRecordArrival_appends (t : Nat) (recs : List Record) (s : State) (hpair : s.service = .paired) :
    ∃ u, Sys2Proof.Machine.exec (.mirrorRecordArrival t recs) s = .next u ∧
      ∀ r ∈ recs, ∃ x ∈ u.path.stored, x.st = .mirror ∧ x.record = r ∧ x.acked = false := by
  refine ⟨recs.foldl (fun s r => s.appendMirror r) (s.advanceTo t), ?_, (appendMirrors_store recs (s.advanceTo t)).2⟩
  show execMirrorRecordArrival t recs s = _
  unfold execMirrorRecordArrival
  dsimp only
  rw [service_advanceTo, hpair, if_pos (by decide)]

/-- The unit of the map that a mirror record names (R267). -/
def recordUnit (r : Record) : Nat := unitKey (r.check.reftag.toNat / 2 ^ 34) (r.check.reftag.toNat % 2 ^ 34 / 4)

/-- The bit of the unit that a mirror record names is set (R267). -/
def State.reported (s : State) (r : Record) : State := s.markDirty (recordVol r) (r.check.reftag.toNat % 2 ^ 34 / 4)

theorem reported_dirty {r : Record} {s : State} (hmode : s.md.mode = .sole ∨ s.md.mode = .handback) :
    recordUnit r ∈ (State.reported s r).moor.dirty ∧ ∀ u ∈ s.moor.dirty, u ∈ (State.reported s r).moor.dirty := by
  have hserves : (s.md.mode == .takeover || s.md.mode == .sole || s.md.mode == .handback) = true := by
    obtain h | h := hmode <;> rw [h] <;> rfl
  unfold State.reported State.markDirty
  rw [if_pos hserves]
  dsimp only
  constructor
  · split
    · next h => exact List.contains_iff_mem.1 h
    · exact List.mem_append_right _ (List.mem_singleton.2 rfl)
  · intro u hu
    split
    · exact hu
    · exact List.mem_append_left _ hu

theorem reports_dirty (recs : List Record) {s : State} (hmode : s.md.mode = .sole ∨ s.md.mode = .handback) :
    (∀ u ∈ s.moor.dirty, u ∈ (recs.foldl State.reported s).moor.dirty) ∧
      ∀ r ∈ recs, recordUnit r ∈ (recs.foldl State.reported s).moor.dirty := by
  induction recs generalizing s with
  | nil => exact ⟨fun _ => id, fun r hr => absurd hr List.not_mem_nil⟩
  | cons q recs ih =>
    have hmd : (State.reported s q).md = s.md := (State.markDirty_frame _ _ s).md (by decide)
    obtain ⟨hnew, hold⟩ := reported_dirty (r := q) hmode
    obtain ⟨hkept, hall⟩ := ih (s := State.reported s q) (by rw [hmd]; exact hmode)
    refine ⟨fun u hu => hkept u (hold u hu), fun r hr => ?_⟩
    obtain rfl | hr := List.mem_cons.1 hr
    · exact hkept _ hnew
    · exact hall r hr

theorem mirrorRecordArrival_reports (t : Nat) (recs : List Record) (s : State) (hmode : s.md.mode = .sole ∨ s.md.mode = .handback) :
    ∃ u, Sys2Proof.Machine.exec (.mirrorRecordArrival t recs) s = .next u ∧
      ∀ r ∈ recs, unitKey (r.check.reftag.toNat / 2 ^ 34) (r.check.reftag.toNat % 2 ^ 34 / 4) ∈ u.moor.dirty := by
  have hmode1 : (s.advanceTo t).md.mode = .sole ∨ (s.advanceTo t).md.mode = .handback := by rw [advanceTo_md]; exact hmode
  refine ⟨recs.foldl State.reported (s.advanceTo t), ?_, (reports_dirty recs hmode1).2⟩
  show execMirrorRecordArrival t recs s = _
  unfold execMirrorRecordArrival State.service
  generalize s.advanceTo t = y at hmode1 ⊢
  dsimp only
  obtain h | h := hmode1 <;> rw [h] <;> rfl

/-! ### The partner's acknowledgement -/

/-- A write whose grains have taken the ticks of an acknowledgement (R88). -/
def ackedWrite (acks : List (Nat × Nat)) (w : WriteOp) : WriteOp := { w with grains := w.grains.map (ackGrain acks) }

theorem ackGrain_takes {acks : List (Nat × Nat)} {x : GrainOp} {r : Record} {a : Nat × Nat} (hat : x.ackAt = none) (hrec : x.record = some r)
    (ha : acks.find? (fun a => a.1 == r.seq) = some a) : ackGrain acks x = { x with ackAt := some a.2, receipt := true } := by
  unfold ackGrain
  rw [hat, hrec]
  dsimp only
  rw [ha]

theorem programAck_takes (t : Nat) (acks : List (Nat × Nat)) (w : WriteOp) (s : State) (hsync : s.moor.resync = none) (hw : w ∈ s.adm.writes)
    (hwait : ∀ v ∈ s.adm.writes, v.seq = w.seq →
      WriteOp.durable (s.needsAck v) { v with grains := v.grains.map (ackGrain acks) } = false) :
    ∃ u v, Sys2Proof.Machine.exec (.programAck t acks) s = .next u ∧ v ∈ u.adm.writes ∧ v.seq = w.seq ∧
      ∀ x ∈ w.grains, ∀ r a, x.ackAt = none → x.record = some r → acks.find? (fun a => a.1 == r.seq) = some a →
        { x with ackAt := some a.2, receipt := true } ∈ v.grains := by
  have hnone : ∀ y : State, y.moor = s.moor → y.resyncAck acks = y := fun y hy => by
    unfold State.resyncAck
    rw [hy, hsync]
  obtain ⟨y, hy, hadm, hmd, hmoor⟩ : ∃ y : State, y = { s.advanceTo t with adm := { (s.advanceTo t).adm with
      writes := (s.advanceTo t).adm.writes.map (ackedWrite acks) } } ∧ y.adm.writes = s.adm.writes.map (ackedWrite acks) ∧
      y.md = s.md ∧ y.moor = s.moor :=
    ⟨_, rfl, congrArg (fun a : AdmState => a.writes.map (ackedWrite acks)) (advanceTo_adm t s), advanceTo_md t s, advanceTo_moor t s⟩
  have hstay : ackedWrite acks w ∈ y.checkWrites.adm.writes := by
    refine checkWrites_keeps (by rw [hadm]; exact List.mem_map_of_mem hw) fun v hv e => ?_
    rw [hadm] at hv
    obtain ⟨v0, hv0, rfl⟩ := List.mem_map.1 hv
    have hneeds : y.needsAck (ackedWrite acks v0) = s.needsAck v0 := by
      unfold State.needsAck State.service
      rw [hmd]
      rfl
    rw [hneeds]
    exact hwait v0 hv0 e
  refine ⟨y.checkWrites.sendReady, ackedWrite acks w, ?_, ?_, rfl, ?_⟩
  · show Host.Outcome.next _ = _
    rw [← hnone y hmoor, hy]
    rfl
  · rw [(State.sendReady_frame _).writes (by decide)]
    exact hstay
  · intro x hx r a hat hrec ha
    rw [← ackGrain_takes hat hrec ha]
    exact List.mem_map_of_mem hx

/-- Settles O59. -/
theorem streamCommandsRun : Obligations.StreamCommandsRun := by
  unfold Obligations.StreamCommandsRun
  refine ⟨stripeClose_closes, pageTransferDone_sends, programDone_programs, ?_, programAck_takes⟩
  intro t recs s
  exact ⟨fun _ hpair _ _ => mirrorRecordArrival_appends t recs s hpair, fun hmode => mirrorRecordArrival_reports t recs s hmode⟩

end Sys2Proof.Proofs
end

section
/-!
SUPPORT. The timers of admission and of the completion queues (R69, R72, R203), and the obligation on them.
-/

namespace Sys2Proof.Proofs

open Sys2Proof.Machine Sys2Proof.Safety Sys2Proof.Laws

/-! ### Held commands -/

theorem retryOrder_one (h : Held) : retryOrder [h] = [h] := by
  unfold retryOrder
  cases hr : h.resv with
  | none => simp [hr]
  | some i => simp [hr]

/-- A command as an attempt that holds it again leaves it among the held (R69). -/
def triedAgain (why : Hold) (h : Held) (now : Nat) (x : Held) : Held :=
  if x = h then { x with forCredit := why == .credit, tried := windowOf now } else x

/-- What an attempt leaves of the held commands (R69). -/
def State.retried (h : Held) (now : Nat) (r : Hold × State) : State :=
  match r with
  | (.no, s1) => { s1 with adm := { s1.adm with held := s1.adm.held.filter (fun x => x != h) } }
  | (why, s1) => { s1 with adm := { s1.adm with held := s1.adm.held.map (triedAgain why h now) } }

/-- A held command that is neither early nor past its limit is tried, where no other of its stream is stuck (R69). -/
theorem retryOne_tries {h : Held} {s : State} (hdue : h.forCredit = false ∨ h.tried < windowOf s.time.now) (hlimit : s.pastLimit h = false) :
    (State.retryOne ([], s) h).2 = State.retried h s.time.now (s.attempt h) := by
  have hearly : (h.forCredit && decide (windowOf s.time.now ≤ h.tried)) = false := by
    rw [Bool.and_eq_false_iff, decide_eq_false_iff_not, Nat.not_le]
    exact hdue
  unfold State.retryOne State.retried
  dsimp only
  refine (congrArg Prod.snd ((if_neg ?_).trans (if_neg ?_))).trans ?_
  · cases h.resv <;> exact Bool.false_ne_true
  · rw [hearly, hlimit]
    decide
  · generalize s.attempt h = r
    obtain ⟨why, s1⟩ := r
    cases why <;> rfl

theorem holdRetry_retries (t : Nat) (h : Held) (s : State) (hslot : (s.advanceTo t).time.now % 8192 = 0) :
    let y := (s.advanceTo t).slotBegins
    y.adm.held = [h] → (h.forCredit = false ∨ h.tried < windowOf y.time.now) → y.pastLimit h = false →
    Sys2Proof.Machine.exec (.holdRetry t) s = .next (State.retried h y.time.now (y.attempt h)) := by
  intro y hheld hdue hlimit
  show execHoldRetry t s = _
  unfold execHoldRetry
  dsimp only
  refine congrArg Host.Outcome.next ((if_neg (not_not_intro hslot)).trans ?_)
  show ((retryOrder y.adm.held).foldl State.retryOne ([], y)).2 = _
  rw [hheld, retryOrder_one]
  exact retryOne_tries hdue hlimit

theorem retried_admitted {h : Held} {now : Nat} {r : Hold × State} (hno : r.1 = .no) :
    h ∉ (State.retried h now r).adm.held ∧ (State.retried h now r).adm.writes = r.2.adm.writes := by
  obtain ⟨why, s1⟩ := r
  subst hno
  refine ⟨fun hm => ?_, rfl⟩
  have hne := (List.mem_filter.1 hm).2
  rw [bne_self_eq_false] at hne
  exact Bool.false_ne_true hne

theorem retried_held {h : Held} {now : Nat} {r : Hold × State} (hno : r.1 ≠ .no) :
    (State.retried h now r).adm.held = r.2.adm.held.map (triedAgain r.1 h now) := by
  obtain ⟨why, s1⟩ := r
  cases why with
  | no => exact absurd rfl hno
  | credit => rfl
  | room => rfl

/-- The event of a hold limit that ran out, and the count of its reservation (R72). -/
def State.expiryNoted (h : Held) (s : State) : State :=
  match h.resv with
  | some i => (s.record 0x2101 [resvItem h.resv, h.dqn, h.fetch]).count (ctrResv i 3)
  | none => s.record 0x2101 [resvItem h.resv, h.dqn, h.fetch]

theorem expiryNoted_frame (h : Held) (s : State) : Frame 65566 s (State.expiryNoted h s) := by
  unfold State.expiryNoted
  split
  · exact .comp (State.count_frame _ _) rfl (.comp (State.record_frame _ _ s) rfl (.refl s))
  · exact .comp (State.record_frame _ _ s) rfl (.refl s)

/-- A held command past its limit ends with status 7h/81h (R72). -/
theorem holdExpire_ends {cntl qid cid : Nat} {h : Held} {s : State} (hroom : Room cntl qid s) (hset : Settled cntl s)
    (h1 : h.cntl = cntl) (h2 : h.qid = qid) (h3 : h.cmd.cid = cid) :
    Answers cntl qid cid 7 0x81 0 s (s.holdExpire h) ∧ h ∉ (s.holdExpire h).adm.held := by
  have hf := expiryNoted_frame h s
  have hset1 : Settled cntl (State.expiryNoted h s) := by
    unfold Settled
    rw [hf.nvq (by decide)]
    exact hset
  obtain ⟨hans, hadm, -⟩ := endHeld_answers (sct := 7) (sc := 0x81) (hroom.of_frame hf (by decide) (by decide)) hset1 h1 h2 h3
  refine ⟨answers_before hf hans, fun hm => ?_⟩
  have hm1 : h ∈ ((State.expiryNoted h s).endHeld h 7 0x81).adm.held := hm
  rw [hadm] at hm1
  have hne := (List.mem_filter.1 hm1).2
  rw [bne_self_eq_false] at hne
  exact Bool.false_ne_true hne

theorem holdLimitExpiry_ends (t cntl qid cid : Nat) (h : Held) (s : State)
    (hh : s.adm.held.find? (fun h => h.cntl == cntl && h.qid == qid && h.cmd.cid == cid) = some h) (hpast : (s.advanceTo t).pastLimit h = true)
    (hr : Ready cntl qid s) (hset : Settled cntl s) :
    ∃ u, Sys2Proof.Machine.exec (.holdLimitExpiry t cntl qid cid) s = .next u ∧ h ∉ u.adm.held ∧ Answers cntl qid cid 7 0x81 0 s u := by
  obtain ⟨h1, h2, h3⟩ := held_found hh
  have hset1 : Settled cntl (s.advanceTo t) := by
    unfold Settled
    rw [advanceTo_nvq]
    exact hset
  obtain ⟨hans, hout⟩ := holdExpire_ends (ready_room (ready_advanceTo (t := t) hr)) hset1 h1 h2 h3
  refine ⟨(s.advanceTo t).holdExpire h, ?_, hout, answers_of_outbox hans (by rw [advanceTo_outbox])⟩
  show execHoldLimitExpiry t cntl qid cid s = _
  unfold execHoldLimitExpiry
  dsimp only
  rw [advanceTo_adm, hh]
  exact congrArg Host.Outcome.next (if_pos hpast)

/-! ### Notifications -/

theorem notifyCq_other {key k : Nat} {s : State} (hne : k ≠ key) : NMap.find (s.notifyCq k).nvq.cqs key = NMap.find s.nvq.cqs key := by
  unfold State.notifyCq
  split
  · split
    · rfl
    · rw [(State.emit_frame _ _).nvq (by decide)]
      show NMap.find (NMap.upd s.nvq.cqs k _) key = _
      rw [find_upd, if_neg hne]
  · rfl

theorem notifyCq_ctrls (k : Nat) (s : State) : (s.notifyCq k).nvq.ctrls = s.nvq.ctrls := by
  unfold State.notifyCq
  split
  · split
    · rfl
    · rw [(State.emit_frame _ _).nvq (by decide)]
      rfl
  · rfl

/-- A completion queue of which nothing waits. -/
def notifiedCq (q : Cq) : Cq := { q with unnotified := 0 }

theorem notifyCq_notifies {key : Nat} {q : Cq} {c : Ctrl} {s : State} (hopen : s.moor.fenced = false)
    (hq : NMap.find s.nvq.cqs key = some q) (hc : NMap.find s.nvq.ctrls q.cntl = some c) (hwait : q.unnotified ≠ 0) :
    NMap.find (s.notifyCq key).nvq.cqs key = some (notifiedCq q) ∧ Sends (.notify c.session) s (s.notifyCq key) := by
  unfold State.notifyCq
  rw [hq]
  dsimp only
  rw [if_neg hwait, hc]
  refine ⟨?_, [_], emit_sends (s := s.updCq key _) hopen, List.mem_singleton.2 rfl⟩
  rw [(State.emit_frame _ _).nvq (by decide)]
  show NMap.find (NMap.upd s.nvq.cqs key _) key = _
  rw [find_upd, if_pos rfl, hq]
  rfl

theorem notifyCq_idle {key k : Nat} {q : Cq} {s : State} (hq : NMap.find s.nvq.cqs key = some q) (hidle : q.unnotified = 0) :
    NMap.find (s.notifyCq k).nvq.cqs key = some q := by
  by_cases hk : k = key
  · subst hk
    unfold State.notifyCq
    rw [hq]
    dsimp only
    rw [if_pos hidle]
    exact hq
  · rw [notifyCq_other hk]
    exact hq

theorem notifyCqs_idle {key : Nat} {q : Cq} (l : List (Nat × Cq)) {s : State} (hq : NMap.find s.nvq.cqs key = some q)
    (hidle : q.unnotified = 0) : NMap.find (l.foldl (fun s p => s.notifyCq p.1) s).nvq.cqs key = some q := by
  induction l generalizing s with
  | nil => exact hq
  | cons p l ih => exact ih (notifyCq_idle hq hidle)

/-- Of the queues that are notified one after the other, each is (R203). -/
theorem notifyCqs_notify {key : Nat} {q : Cq} {c : Ctrl} (l : List (Nat × Cq)) {s : State} (hopen : s.moor.fenced = false)
    (hq : NMap.find s.nvq.cqs key = some q) (hc : NMap.find s.nvq.ctrls q.cntl = some c) (hwait : q.unnotified ≠ 0)
    (hmem : ∃ p ∈ l, p.1 = key) :
    NMap.find (l.foldl (fun s p => s.notifyCq p.1) s).nvq.cqs key = some (notifiedCq q) ∧
      Sends (.notify c.session) s (l.foldl (fun s p => s.notifyCq p.1) s) := by
  induction l generalizing s with
  | nil =>
    obtain ⟨p, hp, -⟩ := hmem
    exact absurd hp List.not_mem_nil
  | cons p l ih =>
    have hf := State.notifyCq_frame p.1 s
    by_cases hk : p.1 = key
    · obtain ⟨hnow, hsend⟩ := notifyCq_notifies hopen hq hc hwait
      rw [List.foldl_cons, hk]
      exact ⟨notifyCqs_idle l hnow rfl,
        sends_after hsend (foldl_frame (f := fun s p => s.notifyCq p.1) (fun x p => State.notifyCq_frame p.1 x) l _)⟩
    · have hrest : ∃ p ∈ l, p.1 = key := by
        obtain ⟨x, hx, he⟩ := hmem
        obtain rfl | hx := List.mem_cons.1 hx
        · exact absurd he hk
        · exact ⟨x, hx, he⟩
      obtain ⟨hnow, hsend⟩ := ih (s := s.notifyCq p.1) (by rw [hf.moor (by decide)]; exact hopen) ((notifyCq_other hk).trans hq)
        (by rw [notifyCq_ctrls]; exact hc) hrest
      exact ⟨hnow, sends_before hf hsend⟩

theorem coalescingTimer_notifies (t cntl key : Nat) (q : Cq) (c : Ctrl) (s : State) (hopen : s.moor.fenced = false)
    (hc : NMap.find s.nvq.ctrls cntl = some c) (hq : NMap.find s.nvq.cqs key = some q) (hown : q.cntl = cntl) (hwait : q.unnotified ≠ 0)
    (hdue : q.notifyFrom + c.coalesce / 256 % 256 * 100000 ≤ (s.advanceTo t).time.now) :
    ∃ u, Sys2Proof.Machine.exec (.coalescingTimer t cntl) s = .next u ∧ NMap.find u.nvq.cqs key = some { q with unnotified := 0 } ∧
      Out.notify c.session ∈ u.outbox := by
  have hq1 : NMap.find (s.advanceTo t).nvq.cqs key = some q := by rw [advanceTo_nvq]; exact hq
  have hc1 : NMap.find (s.advanceTo t).nvq.ctrls q.cntl = some c := by rw [advanceTo_nvq, hown]; exact hc
  obtain ⟨hnow, new, hout, hmem⟩ := notifyCqs_notify (c := c) ((s.advanceTo t).nvq.cqs.filter (fun p => p.2.cntl == cntl && p.2.unnotified != 0
    && decide (p.2.notifyFrom + c.coalesce / 256 % 256 * 100000 ≤ (s.advanceTo t).time.now))) (s := s.advanceTo t)
    (by rw [advanceTo_moor]; exact hopen) hq1 hc1 hwait ⟨(key, q), List.mem_filter.2 ⟨mem_of_find hq1, by
      rw [beq_iff_eq.2 hown, bne_iff_ne.2 hwait, decide_eq_true hdue]
      decide⟩, rfl⟩
  refine ⟨_, ?_, hnow, by rw [hout]; exact List.mem_append_left _ hmem⟩
  show execCoalescingTimer t cntl s = _
  unfold execCoalescingTimer
  dsimp only
  rw [← hown, hc1]

/-- Settles O60. -/
theorem timerCommandsRun : Obligations.TimerCommandsRun := by
  unfold Obligations.TimerCommandsRun
  refine ⟨?_, holdLimitExpiry_ends, coalescingTimer_notifies⟩
  intro t h s hslot y hheld hdue hlimit
  have hexec := holdRetry_retries t h s hslot hheld hdue hlimit
  constructor
  · intro hno
    obtain ⟨hout, hwrites⟩ := retried_admitted (h := h) (now := y.time.now) hno
    exact ⟨_, hexec, hout, fun w hw => hwrites ▸ hw⟩
  · rintro why rfl hno
    exact ⟨_, hexec, retried_held hno⟩

end Sys2Proof.Proofs
end
